-- ==== Sys2Proof/Word.lean ====
section
/-!
DEFINITION. The score (00_scope.md, R2-R5): the device's native word of 20 bits, and its plainest arithmetic.
-/

namespace Sys2Proof

/-- The device's native word, 20 bits (R2). -/
abbrev Score := BitVec 20

/-- The largest value of an unsigned score, where the saturating counters stop (0xF_FFFF). -/
abbrev scoreMax : Nat := 0xFFFFF

/-- An unsigned quantity limited to a score (`saturate()` of R17). -/
def satScore (n : Nat) : Nat := min n scoreMax

/-- A score read as a signed quantity in two's complement (R4). -/
def Score.signed (v : Score) : Int := v.toInt

/-- The low 20 bits of a signed quantity (R4, `wrap20()`). -/
def Score.ofSigned (i : Int) : Score := BitVec.ofInt 20 i

/-- A signed quantity limited to the range of a signed score (R4). -/
def satSigned (i : Int) : Int := max (-524288) (min i 524287)

/-- A 32-bit quantity carried in two scores, most significant score first (R3). -/
def joinHL (h l : Score) : BitVec 32 := BitVec.ofNat 32 (h.toNat * 2 ^ 20 + l.toNat)

/-- The first score of a 32-bit quantity: bits [31:20] in [11:0] (R3). -/
def hiOf (v : BitVec 32) : Score := BitVec.ofNat 20 (v.toNat / 2 ^ 20)

/-- The second score of a 32-bit quantity: bits [19:0] (R3). -/
def loOf (v : BitVec 32) : Score := BitVec.ofNat 20 (v.toNat % 2 ^ 20)

/-- Division rounding half away from zero, as `round()` of the manual's pseudocode does (R17). -/
def roundDiv (a b : Int) : Int :=
  if b = 0 then 0
  else
    let q := (2 * a.natAbs + b.natAbs) / (2 * b.natAbs)
    if (a < 0) = (b < 0) then (q : Int) else -(q : Int)

/-- The bits of `floor(sqrt n)` from bit `b` - 1 down, above a part `r` already found. -/
def isqrtFrom (n : Nat) : Nat → Nat → Nat
  | 0, r => r
  | b + 1, r => if (r + 2 ^ b) * (r + 2 ^ b) ≤ n then isqrtFrom n b (r + 2 ^ b) else isqrtFrom n b r

/-- `floor(sqrt n)`. -/
def isqrt (n : Nat) : Nat := isqrtFrom n (n.log2 / 2 + 1) 0

end Sys2Proof
end

