-- ==== Sys2Proof/Syntax.lean ====
section
/-!
DEFINITION. The commands of the device (one constructor per row of the command table), their operands and the state of the world they bring.
-/

namespace Sys2Proof.Machine

/-! ### Indexes -/

abbrev Tile := Fin 64
abbrev Chan := Fin 512
abbrev Pixel := Fin 16896
abbrev Emitter := Fin 16
abbrev Lane := Fin 144
abbrev Quad := Fin 36
abbrev Axis := Fin 4
abbrev Pair := Fin 4
abbrev AxCh := Fin 32
abbrev IlCh := Fin 24
abbrev DrtGroup := Fin 4
abbrev HeadSlot := Fin 48
abbrev AqBufIx := Fin 4
abbrev AqUnit := Fin 16
abbrev StUnit := Fin 4
abbrev FoldCluster := Fin 16
abbrev ExCluster := Fin 8
abbrev Queue := Fin 16
abbrev DmaCh := Fin 32
abbrev SafeCh := Fin 8
abbrev FslSlot := Fin 8
abbrev Rail := Fin 16

/-- SI-A and SI-B. -/
inductive Island where
  | a | b
  deriving DecidableEq, Repr

/-- The port on which a command arrives: the service port, a Frezen Link link by its lowest lane, or a B-lane with an IPv4 address and UDP port. -/
inductive Source where
  | svc
  | link (lane : Nat)
  | udp (lane ip port : Nat)
  deriving DecidableEq, Repr

/-- The clock islands of Table 1.3. -/
inductive ClockIsland where
  | tile (t : Fin 64)
  | quad (q : Fin 36)
  | fold (k : Fin 16)
  | extraction (c : Fin 8)
  | shepherd | servo | converters | illuminators | dma | management | command | siA | siB | alwaysOn | timeBase | thermal | events
  | hub (n : Fin 3)
  deriving DecidableEq, Repr

/-- The place of an island in the order of Table 1.3. -/
def ClockIsland.ix : ClockIsland → Nat
  | .tile t => t
  | .quad q => 64 + q
  | .fold k => 100 + k
  | .extraction c => 116 + c
  | .shepherd => 124
  | .servo => 125
  | .converters => 126
  | .illuminators => 127
  | .dma => 128
  | .management => 129
  | .command => 130
  | .siA => 131
  | .siB => 132
  | .alwaysOn => 133
  | .timeBase => 134
  | .thermal => 135
  | .events => 136
  | .hub n => 137 + n

/-- The islands of the main path whose stall is a PATH_FAULT (Table 13.2, cause 10). -/
def ClockIsland.mainPath : ClockIsland → Bool
  | .tile _ | .fold _ | .extraction _ | .shepherd | .timeBase => true
  | .quad q => decide (q.val < 24)
  | .hub n => decide (n.val < 2)
  | _ => false

/-! ### Return tiles and time engine -/

/-- An edge of a return: its instant in LSB since power-on, and what its interpolator latches (R84): the coarse count of the stop edge and the tap code. -/
structure Edge where
  instant : Nat
  k : Nat
  c : Nat
  deriving DecidableEq, Repr

/-- One pulse of a comparator. An absent rise (fall) means that the output was already (is still) above the threshold when the window
opened (closed), R65. -/
structure Pulse where
  rise : Option Edge
  fall : Option Edge
  deriving DecidableEq, Repr

/-- What the comparators of a channel did up to the end of a return (R63, R64): the pulses of LT and of HT, as they came, in order. -/
structure Return where
  lt : List Pulse
  ht : List Pulse
  deriving DecidableEq, Repr

/-- The two codes one interpolator measures in a per-shot calibration (R88). -/
structure CalCodes where
  c1 : Nat
  c2 : Nat
  deriving DecidableEq, Repr

/-- The codes of the four interpolators: LT rise, HT rise, HT fall, LT fall. -/
structure CalSet where
  ltRise : CalCodes
  htRise : CalCodes
  htFall : CalCodes
  ltFall : CalCodes
  deriving DecidableEq, Repr

/-! ### Shepherd -/

/-- The sources of an external cycle start (SQ_CFG.EXT_SEL, R131). -/
inductive ExtSource where
  | csync0 | csync1 | triggerUnit | trigMarker
  deriving DecidableEq, Repr

/-! ### Frezen Link -/

/-- What surrounds a frame received on a B-lane in BASE-R mode (R320): its FCS holds, its 802.1Q tag, its destination MAC and IPv4 address, its UDP port (none: no UDP). -/
structure Envelope where
  fcsOk : Bool
  vid : Option Nat
  mac : Nat
  ip : Nat
  port : Option Nat
  deriving DecidableEq, Repr

/-- Where a Frezen Link packet comes from: a link, by one of its lanes, whose receiver holds it (R299), or a UDP datagram on a
B-lane in BASE-R mode (R304), with its frame, its source address and the packet it carries. -/
inductive RxFrom where
  | link (lane : Fin 144)
  | udp (lane : Fin 144) (env : Envelope) (ip : Nat) (packet : List (BitVec 8))
  deriving DecidableEq, Repr

/-- A PLAN_ANN (R136): identity, frame period in 100 µs, SPACING, digest, earliest activation in node time. -/
structure PlanAnn where
  ident : Nat
  period : Nat
  spacing : Nat
  digest : Nat
  earliest : Nat
  deriving DecidableEq, Repr

/-- The frame that brought a PTP message (R318): its lane, its envelope, over UDP or Ethernet, its domain, its sender. -/
structure PtpFrom where
  lane : Fin 144
  env : Envelope
  udp : Bool
  domain : Nat
  sender : Nat
  deriving DecidableEq, Repr


/-- What an Announce says of its time transmitter (R318; the fields are those of IEEE 1588-2019, PRESUMED, log 69). -/
structure PtpAnnounce where
  priority1 : Nat
  clockClass : Nat
  accuracy : Nat
  variance : Nat
  priority2 : Nat
  grandmaster : Nat
  steps : Nat
  deriving DecidableEq, Repr

/-- What the PCS of a BASE-R lane finds on the line (R295): block lock, a high bit error rate. -/
structure PcsView where
  blockLock : Bool
  hiBer : Bool
  deriving DecidableEq, Repr

/-- What a BASE-R lane's receiver would find on the line as it comes and with every bit inverted, and the measured offset of the partner's
frequency (R274). -/
structure PcsReport where
  plain : PcsView
  inverted : PcsView
  ppm : Score
  deriving DecidableEq, Repr

/-! ### Lamps and rails -/

/-- ILS of an illuminator channel at a level in millivolts. -/
structure IlsLevel where
  chan : IlCh
  mv : Nat
  deriving DecidableEq, Repr

/-- A rail at a level in millivolts. -/
structure RailLevel where
  rail : Rail
  mv : Nat
  deriving DecidableEq, Repr

/-- A rail that has risen, in millivolts: its level, and its lowest since it fell. -/
structure RailRise where
  mv : Nat
  minMv : Nat
  deriving DecidableEq, Repr

/-! ### Safety -/

/-- What one island's receive path makes of an FSL message (R354): it is whole, lost, or changed to other scores. -/
inductive FslPath where
  | whole
  | lost
  | changed (m : List Score)
  deriving DecidableEq, Repr

/-- A change of SFB[n]: the new level and how long it stays, in ns (Table 19.5). -/
structure SfbChange where
  level : Bool
  widthNs : Nat
  deriving DecidableEq, Repr

/-! ### Power, thermal and calibration -/

/-- What the boot finds at a release of the die: whether the SFDP headers of QSPI0 and QSPI1 are valid (R445), whether their boot records are
read as they were written (R446), the junction temperature in 1/1,024 °C, none with a failed diode (R456). -/
structure BootFacts where
  sfdpA : Bool
  sfdpB : Bool
  recordA : Bool
  recordB : Bool
  tj : Option Int
  deriving DecidableEq, Repr

/-- Which part of the settings a record holds (R453 to R455). -/
inductive SettingsPart where
  | sets | fields | password | failures
  deriving DecidableEq, Repr

/-- The format versions of the settings records that an image knows (R454). -/
structure RecordFormats where
  sets : Nat
  fields : Nat
  password : Nat
  failures : Nat
  deriving DecidableEq, Repr

/-- A diode sample (R458): the two-current voltage lies in its trimmed window, and the reading in 1/1,024 °C. -/
structure DiodeReading where
  inWindow : Bool
  tj : Int
  deriving DecidableEq, Repr

/-- A calibration result (Table 18.5): the path offset of a channel; its six comparator offsets (G0 LT, G0 HT, to G2 HT) and whether
they lie within ±1 DAC LSB of R60; the walk values of the classes reached in one range; the offset and gain (ppm) of a converter
pair's primary and secondary modulators. -/
inductive CalResult where
  | tdc (c : Fin 512) (ofs : Int)
  | comparator (c : Fin 512) (offs : List Int) (within : Bool)
  | walk (c : Fin 512) (range : Fin 3) (entries : List (Fin 16 × Nat))
  | converter (p : Fin 4) (ofs1 gain1 ofs2 gain2 : Int)
  deriving DecidableEq, Repr

end Sys2Proof.Machine

namespace Sys2Proof

open Machine

/-! ### The commands -/

/-- One constructor per row of the command table. `t` is the instant of the command in LSB (7.8125 ps) since power-on (R5). -/
inductive Instr where
  -- frames, references and islands (chapter 1)
  | frameBoundary (t : Nat)
  | scanEnd (t : Nat)
  | shotCycleEnd (t : Nat)
  | referenceFail (t : Nat) (which : Bool)
  | referenceRecovery (t : Nat) (a b : Option Nat)
  | islandStall (t : Nat) (waiting silent : ClockIsland)
  -- return tiles and time engine (chapters 2 and 3)
  | comparatorReturn (t : Nat) (c : Chan) (r : Return)
  | clampEngage (t : Nat) (c : Chan)
  | clampRelease (t : Nat) (c : Chan)
  | blankingEnd (t : Nat) (c : Chan)
  | rxRecovery (t : Nat) (c : Chan)
  | xtkWindowClose (t : Nat) (tile : Tile)
  | baselineUpdate (t : Nat) (c : Chan) (nanoamp : Nat)
  | windowOpen (t : Nat) (c : Chan) (shot coarse : Nat)
  | windowClose (t : Nat) (c : Chan)
  | tileQueueDrain (t : Nat) (tile : Tile)
  | tileUnlock (t : Nat) (tile : Tile)
  | tileRelock (t : Nat) (tile : Tile)
  | samplerCaptureStart (t : Nat) (tile : Tile)
  | samplerCaptureComplete (t : Nat) (tile : Tile) (microvolts : List Int)
  | perShotCalibration (t : Nat) (c : Chan) (codes : CalSet) (strobe : Option Int)
  | ffbEdge (t : Nat) (e : Emitter) (edge : Edge) (cal : CalCodes)
  | ffbMissing (t : Nat) (e : Emitter)
  | stStart (t : Nat) (u : StUnit)
  | stStop (t : Nat) (u : StUnit)
  -- Shepherd (chapter 4)
  | shepherdSnapshot (t : Nat)
  | shotCycleStart (t : Nat)
  | shotCommit (t : Nat)
  | governorReleaseCheck (t : Nat)
  | externalStart (t : Nat) (src : ExtSource)
  | tlCntClr (t : Nat) (tile : Tile)
  | teCntClr (t : Nat) (tile : Tile)
  | sqCntClr (t : Nat)
  -- Fold and extraction (chapters 5 and 6)
  | footprintClearEnd (t : Nat) (p : Pixel)
  | shotDescriptorReceive (t : Nat)
  | eventIntake (t : Nat) (p : Pixel)
  | coalesceEntry (t : Nat) (k : FoldCluster) (port : Fin 16)
  | bankRmw (t : Nat) (bank : Fin 1024)
  | ageDrop (t : Nat) (k : FoldCluster) (port : Fin 16)
  | closeTokenArrival (t : Nat) (p : Pixel)
  | bufferRelease (t : Nat) (p : Pixel)
  | tokenTimeout (t : Nat) (p : Pixel)
  | suspectEnd (t : Nat)
  | histogramDispatch (t : Nat) (c : ExCluster)
  | bufferClean (t : Nat) (c : ExCluster)
  | recordWrite (t : Nat) (c : ExCluster)
  | markPlace (t : Nat)
  | fdCntClr (t : Nat)
  | exCntClr (t : Nat)
  -- scanner servo (chapter 7)
  | servoSample (t : Nat) (a : Axis)
  | handoverForced (t : Nat) (a : Axis)
  | trajectoryPeriodEnd (t : Nat) (a : Axis)
  | acqTimeout (t : Nat) (a : Axis)
  | servoSensorLost (t : Nat) (a : Axis)
  | servoOsc (t : Nat) (a : Axis)
  | svInjStart (t : Nat) (a : Axis)
  | svInjStop (t : Nat) (a : Axis)
  | injectionEnd (t : Nat) (a : Axis)
  | svCntClr (t : Nat)
  -- converters (chapter 8)
  | converterOutput (t : Nat) (p : Pair) (primary secondary : List Int)
  | modulatorOverload (t : Nat) (p : Pair) (positive : Bool)
  | secondaryOverload (t : Nat) (p : Pair)
  | excitationSwitch (t : Nat) (src : Fin 6)
  | excitationBlankEnd (t : Nat) (c : AxCh)
  | syncDecEdge (t : Nat) (widthNs : Nat)
  | axSync (t : Nat)
  | firWrite (t : Nat) (p : Pair) (tap : Fin 64) (v : Score)
  | impedanceCheckStart (t : Nat) (c : AxCh)
  | impedanceCheckEnd (t : Nat) (c : AxCh) (nanovolt : Nat)
  | axCntClr (t : Nat)
  -- acquisition engine (chapter 9)
  | aqArm (t : Nat) (b : AqBufIx)
  | aqAbort (t : Nat) (b : AqBufIx)
  | aqForce (t : Nat) (units : Fin 65536)
  | triggerHoldEnd (t : Nat) (u : AqUnit)
  | aqRdDataRead (t : Nat) (b : AqBufIx)
  | aqHistDataRead (t : Nat) (b : AqBufIx)
  | aqCntClr (t : Nat)
  -- illuminators (chapter 10)
  | pwmPeriodEnd (t : Nat) (c : IlCh) (ilsMv : Nat)
  | lampMeasurement (t : Nat) (c : IlCh) (mv : Nat)
  | lampShortDetect (t : Nat) (ils : IlsLevel)
  | ilRestart (t : Nat) (c : IlCh)
  | csyncEdge (t : Nat) (n : Fin 4) (level : Bool) (widthNs : Nat)
  | diagnosticPulse (t : Nat) (c : IlCh)
  | lampUnverified (t : Nat) (c : IlCh)
  | lampTempLost (t : Nat) (g : DrtGroup)
  | ilCntClr (t : Nat)
  -- lanes (chapter 11)
  | laneEnergyDetect (t : Nat) (l : Lane)
  | laneClockLock (t : Nat) (l : Lane) (ppm : Score)
  | laneAlign (t : Nat) (l : Lane) (m1 m2 m3 : List Bool)
  | trainingScore (t : Nat) (l : Lane) (t0 : Score)
  | laneRateSwitch (t : Nat) (l : Lane)
  | deskewDone (t : Nat) (l : Lane) (skew : Nat)
  | trainingTimeout (t : Nat) (l : Lane)
  | retrain (t : Nat) (l : Lane)
  | laneDown (t : Nat) (l : Lane)
  | markerReceive (t : Nat) (l : Lane) (first : Nat) (marker line : List Bool) (after : Score) (cycles : Nat)
  | fillBlockReceive (t : Nat) (l : Lane) (cycles : Nat)
  | fillBlockSend (t : Nat) (l : Lane)
  | eidleRequest (t : Nat) (l : Lane)
  | eidleExit (t : Nat) (l : Lane)
  | deepRequest (t : Nat) (l : Lane)
  | wakeDetect (t : Nat) (l : Lane)
  | quadRefSwitch (t : Nat) (q : Quad) (otherGood : Bool)
  | baserLinkChange (t : Nat) (l : Lane) (pcs : PcsReport) (corrected uncorrected : Nat)
  | lnCntClr (t : Nat) (q : Quad)
  -- Frezen Link (chapter 12)
  | capsSend (t : Nat) (l : Lane)
  | capsReceive (t : Nat) (l : Lane)
  | helloSend (t : Nat) (l : Lane)
  | helloReceive (t : Nat) (src : RxFrom)
  | detach (t : Nat) (i : Fin 256)
  | consistReceive (t : Nat) (src : RxFrom)
  | planAnnSend (t : Nat)
  | planAnnReceive (t : Nat) (src : RxFrom) (ann : PlanAnn)
  | planActivation (t : Nat)
  | planTimeout (t : Nat)
  | endshotReceive (t : Nat) (l : Lane)
  | hevtReceive (t : Nat) (l : Lane)
  | headTimeRequest (t : Nat) (h : HeadSlot)
  | timeReplyReceive (t : Nat) (l : Lane)
  | timeReplyTimeout (t : Nat) (h : HeadSlot)
  | trigReceive (t : Nat) (l : Lane)
  | subExpired (t : Nat) (i : Fin 1024)
  | ptpSyncReceive (t : Nat) (m : PtpFrom) (origin : Nat)
  | ptpSyncTimeout (t : Nat)
  | eventReport (t : Nat)
  | eventMergeEnd (t : Nat)
  | eventPacketSend (t : Nat) (i : Fin 1024)
  | eventPacketReceive (t : Nat) (src : RxFrom)
  | packetDiscard (t : Nat) (src : RxFrom)
  | ptpAnnounceReceive (t : Nat) (m : PtpFrom) (ann : PtpAnnounce)
  | ptpDelayRespReceive (t : Nat) (m : PtpFrom) (sent received : Nat)
  | flCntClr (t : Nat)
  | epTimeRead (t : Nat)
  -- safety islands (chapter 13)
  | siRecordTake (t : Nat) (i : Island)
  | resultCrossCheck (t : Nat)
  | frameMissingTimeout (t : Nat) (i : Island)
  | heartbeatSend (t : Nat) (i : Island)
  | heartbeatReceive (t : Nat) (i : Island) (interval : Nat)
  | heartbeatLoss (t : Nat) (i : Island)
  | selfTestCycle (t : Nat) (i : Island) (ok : Bool)
  | siWatchdogExpiry (t : Nat) (i : Island)
  | regulatorFault (t : Nat) (i : Island)
  | sfCopyCrcCheck (t : Nat) (i : Island) (upsets : List (Nat × Score))
  | degExpired (t : Nat) (n : SafeCh)
  | readbackFault (t : Nat) (m : Island) (n : SafeCh) (level : Bool)
  | feedbackFault (t : Nat) (n : SafeCh)
  | srstLevelChange (t : Nat) (i : Island) (level : Bool)
  | srstEdge (t : Nat) (i : Island)
  | srstMismatch (t : Nat)
  | fslMessageReceive (t : Nat) (src : RxFrom) (a b : FslPath)
  | fslSlotTimeout (t : Nat) (k : FslSlot)
  | sfbLevelChange (t : Nat) (n : SafeCh) (level : SfbChange)
  -- delivery and DMA (chapter 14)
  | pointsHoldExpiry (t : Nat) (q : Queue)
  | dmaStart (t : Nat) (c : DmaCh)
  | dmaStop (t : Nat) (c : DmaCh)
  | dmaReadGrant (t : Nat)
  | dmCntClr (t : Nat)
  -- the command interface (chapter 15)
  | svcCommand (t : Nat) (bytes : List (BitVec 8))
  | svcReplyRead (t clocked : Nat)
  | svcEventRead (t clocked : Nat)
  | cmdPacketReceive (t : Nat) (l : Lane)
  | udpCommandDatagram (t : Nat) (l : Lane) (env : Envelope) (ip port : Nat) (bytes : List (BitVec 8))
  | ping (t : Nat) (src : Source)
  | read (t : Nat) (src : Source)
  | write (t : Nat) (src : Source)
  | writeBusyTimeout (t : Nat) (src : Source)
  | writePosted (t : Nat) (src : Source)
  | pollBusy (t : Nat) (src : Source)
  | pollBusyTimeout (t : Nat) (src : Source)
  | swap (t : Nat) (src : Source)
  | commitRef (t : Nat) (src : Source)
  | copyActive (t : Nat) (src : Source)
  | framesStart (t : Nat) (src : Source)
  | framesStop (t : Nat) (src : Source)
  | decSync (t : Nat) (src : Source)
  | subscribe (t : Nat) (src : Source)
  | unsubscribe (t : Nat) (src : Source)
  | challenge (t : Nat) (src : Source)
  | respond (t : Nat) (src : Source)
  | password (t : Nat) (src : Source)
  | setPassword (t : Nat) (src : Source)
  | close (t : Nat) (src : Source)
  | lockField (t : Nat) (src : Source)
  | fwStage (t : Nat) (src : Source) (programmed : Nat)
  | fwStageTimeout (t : Nat) (src : Source)
  | fwConfirm (t : Nat) (src : Source)
  | reboot (t : Nat) (src : Source)
  | rebootReset (t : Nat) (boot : BootFacts)
  | safeAck (t : Nat) (src : Source)
  | sessionExpiry (t : Nat)
  | nonceExpiry (t : Nat)
  | authWaitExpiry (t : Nat)
  | jtagAccess (t : Nat) (inside : Bool)
  -- registers and configuration sets (chapters 1 and 16)
  | postedWriteAccept (t : Nat) (bit : Fin 15)
  | liveWriteApply (t : Nat) (l : Lane)
  | crcPassComplete (t : Nat)
  | liveWindowExpiry (t : Nat)
  | cmCntClr (t : Nat)
  | cfCntClr (t : Nat)
  | sysUptimeRead (t : Nat)
  -- power, reset and firmware (chapter 17)
  | powerOnReset (t : Nat)
  | powerOnRelease (t : Nat)
  | railAboveWarning (t : Nat) (r : Rail) (dip : RailRise)
  | supplyReset (t : Nat) (r : RailLevel)
  | dieRelease (t : Nat) (hv : BitVec 8) (boot : BootFacts)
  | selfTestComplete (t : Nat) (ok : Bool) (boot : BootFacts)
  | nodeRdyAssert (t : Nat) (formats : RecordFormats)
  | braceEntry (t : Nat) (r : Rail) (mv : Nat)
  | braceEnd (t : Nat)
  | rstNAssert (t : Nat)
  | rstNRelease (t : Nat) (boot : BootFacts)
  | mgmtWatchdogExpiry (t : Nat) (boot : BootFacts)
  | stageComplete (t : Nat) (programmed : Nat)
  | fwTrialExpired (t : Nat)
  | settingsSave (t : Nat)
  | settingsSaved (t : Nat)
  | flashWriteResume (t : Nat)
  | pwCntClr (t : Nat)
  -- thermal management and self-calibration (chapter 18)
  | diodeSample (t : Nat) (r : DiodeReading)
  | throttleRise (t : Nat) (d : Fin 5)
  | throttleFall (t : Nat) (d : Fin 5)
  | sensorRecover (t : Nat) (d : Fin 5)
  | extSensorSilent (t : Nat) (k : Fin 4)
  | shutdownEnd (t : Nat)
  | fireRangeRelease (t : Nat)
  | tileCalibration (t : Nat) (tile : Tile)
  | converterCalSlot (t : Nat) (p : Pair)
  | calibrationResult (t : Nat) (r : CalResult)
  | calPeriodMissed (t : Nat) (item : Fin 5) (place : Fin 64)
  | calSettingsSave (t : Nat)
  | thCntClr (t : Nat)
  deriving DecidableEq, Repr

end Sys2Proof
end

