-- ==== Sys2Proof/WellFormed.lean ====
section
/-!
DEFINITION. Which commands are well formed: the bounds and relations of operands that their types do not say. The machine gives every
command an effect; a sender of the world the spec describes brings only well-formed ones.
-/

namespace Sys2Proof

open Machine

/-- Pulses of a comparator follow one another in time: each rises before it falls, and the next rises after that. -/
def pulsesWf : Nat → List Pulse → Bool
  | _, [] => true
  | from_, p :: r =>
    let up := match p.rise with | some e => decide (from_ ≤ e.instant) | none => true
    let rise := (p.rise.map (·.instant)).getD from_
    match p.fall with
    | some e => up && decide (rise ≤ e.instant) && pulsesWf e.instant r
    | none => up && r.isEmpty

/-- The pulses of LT and of HT each stand in order, and there is a pulse of LT (R63, R64). -/
def Machine.Return.wf (r : Return) : Bool := !r.lt.isEmpty && pulsesWf 0 r.lt && pulsesWf 0 r.ht

/-- A lane that can carry Ethernet (R38): the B-lanes. -/
def bLane (l : Nat) : Bool := decide (128 ≤ l) && decide (l < 144)

/-- A source of commands names a lane of the device; Ethernet sources a B-lane (R38, R403). -/
def Machine.Source.wf : Source → Bool
  | .svc => true
  | .link l => decide (l < 144)
  | .udp l ip port => bLane l && decide (ip < 2 ^ 32) && decide (port < 2 ^ 16)

/-- A UDP datagram comes in on a B-lane. -/
def Machine.RxFrom.wf : RxFrom → Bool
  | .link _ => true
  | .udp l _ ip _ => bLane l && decide (ip < 2 ^ 32)

/-- A monitored rail (Table 17.1): code 7 is not used. -/
def Machine.railWf (r : Rail) : Bool := decide (r.val ≠ 7)

/-- A calibration result holds all six comparator offsets (Table 18.5). -/
def Machine.CalResult.wf : CalResult → Bool
  | .comparator _ offs _ => decide (offs.length = 6)
  | _ => true

/-- Whether a command is well formed. -/
def Instr.wf : Instr → Bool
  | .comparatorReturn _ _ r => r.wf
  | .windowOpen _ _ shot coarse => decide (shot < 2 ^ 20) && decide (coarse < 2 ^ 14)
  | .samplerCaptureComplete _ _ samples => decide (samples.length = 2048)
  | .converterOutput _ _ primary secondary => decide (primary.length ≤ 1280000) && decide (secondary.length ≤ 1280000)
  | .markerReceive _ _ _ marker line _ _ => decide (20 ≤ (marker ++ line).length)
  | .ptpSyncReceive _ m _ => bLane m.lane
  | .ptpAnnounceReceive _ m _ => bLane m.lane
  | .ptpDelayRespReceive _ m _ _ => bLane m.lane
  | .helloReceive _ src => src.wf
  | .consistReceive _ src => src.wf
  | .planAnnReceive _ src _ => src.wf
  | .eventPacketReceive _ src => src.wf
  | .packetDiscard _ src => src.wf
  | .fslMessageReceive _ src _ _ => src.wf
  | .udpCommandDatagram _ l _ ip port _ => bLane l && decide (ip < 2 ^ 32) && decide (port < 2 ^ 16)
  | .ping _ src => src.wf
  | .read _ src => src.wf
  | .write _ src => src.wf
  | .writeBusyTimeout _ src => src.wf
  | .writePosted _ src => src.wf
  | .pollBusy _ src => src.wf
  | .pollBusyTimeout _ src => src.wf
  | .swap _ src => src.wf
  | .commitRef _ src => src.wf
  | .copyActive _ src => src.wf
  | .framesStart _ src => src.wf
  | .framesStop _ src => src.wf
  | .decSync _ src => src.wf
  | .subscribe _ src => src.wf
  | .unsubscribe _ src => src.wf
  | .challenge _ src => src.wf
  | .respond _ src => src.wf
  | .password _ src => src.wf
  | .setPassword _ src => src.wf
  | .close _ src => src.wf
  | .lockField _ src => src.wf
  | .fwStage _ src _ => src.wf
  | .fwStageTimeout _ src => src.wf
  | .fwConfirm _ src => src.wf
  | .reboot _ src => src.wf
  | .safeAck _ src => src.wf
  | .sfCopyCrcCheck _ _ upsets => upsets.all fun u => decide (u.1 / 65536 = 8)
  | .referenceRecovery _ a b => a.isSome || b.isSome
  | .islandStall _ waiting silent => decide (waiting ≠ silent)
  | .railAboveWarning _ r _ => railWf r
  | .braceEntry _ r _ => railWf r
  | .supplyReset _ r => railWf r.rail && decide (r.rail.val ≠ 6)
  | .calibrationResult _ r => r.wf
  | .frameBoundary _ => true
  | .scanEnd _ => true
  | .shotCycleEnd _ => true
  | .referenceFail _ _ => true
  | .clampEngage _ _ => true
  | .clampRelease _ _ => true
  | .blankingEnd _ _ => true
  | .rxRecovery _ _ => true
  | .xtkWindowClose _ _ => true
  | .baselineUpdate _ _ _ => true
  | .windowClose _ _ => true
  | .tileQueueDrain _ _ => true
  | .tileUnlock _ _ => true
  | .tileRelock _ _ => true
  | .samplerCaptureStart _ _ => true
  | .perShotCalibration _ _ _ _ => true
  | .ffbEdge _ _ _ _ => true
  | .ffbMissing _ _ => true
  | .stStart _ _ => true
  | .stStop _ _ => true
  | .shepherdSnapshot _ => true
  | .shotCycleStart _ => true
  | .shotCommit _ => true
  | .governorReleaseCheck _ => true
  | .externalStart _ _ => true
  | .tlCntClr _ _ => true
  | .teCntClr _ _ => true
  | .sqCntClr _ => true
  | .footprintClearEnd _ _ => true
  | .shotDescriptorReceive _ => true
  | .eventIntake _ _ => true
  | .coalesceEntry _ _ _ => true
  | .bankRmw _ _ => true
  | .ageDrop _ _ _ => true
  | .closeTokenArrival _ _ => true
  | .bufferRelease _ _ => true
  | .tokenTimeout _ _ => true
  | .suspectEnd _ => true
  | .histogramDispatch _ _ => true
  | .bufferClean _ _ => true
  | .recordWrite _ _ => true
  | .markPlace _ => true
  | .fdCntClr _ => true
  | .exCntClr _ => true
  | .servoSample _ _ => true
  | .handoverForced _ _ => true
  | .trajectoryPeriodEnd _ _ => true
  | .acqTimeout _ _ => true
  | .servoSensorLost _ _ => true
  | .servoOsc _ _ => true
  | .svInjStart _ _ => true
  | .svInjStop _ _ => true
  | .injectionEnd _ _ => true
  | .svCntClr _ => true
  | .modulatorOverload _ _ _ => true
  | .secondaryOverload _ _ => true
  | .excitationSwitch _ _ => true
  | .excitationBlankEnd _ _ => true
  | .syncDecEdge _ _ => true
  | .axSync _ => true
  | .firWrite _ _ _ _ => true
  | .impedanceCheckStart _ _ => true
  | .impedanceCheckEnd _ _ _ => true
  | .axCntClr _ => true
  | .aqArm _ _ => true
  | .aqAbort _ _ => true
  | .aqForce _ _ => true
  | .triggerHoldEnd _ _ => true
  | .aqRdDataRead _ _ => true
  | .aqHistDataRead _ _ => true
  | .aqCntClr _ => true
  | .pwmPeriodEnd _ _ _ => true
  | .lampMeasurement _ _ _ => true
  | .lampShortDetect _ _ => true
  | .ilRestart _ _ => true
  | .csyncEdge _ _ _ _ => true
  | .diagnosticPulse _ _ => true
  | .lampUnverified _ _ => true
  | .lampTempLost _ _ => true
  | .ilCntClr _ => true
  | .laneEnergyDetect _ _ => true
  | .laneClockLock _ _ _ => true
  | .laneAlign _ _ _ _ _ => true
  | .trainingScore _ _ _ => true
  | .laneRateSwitch _ _ => true
  | .deskewDone _ _ _ => true
  | .trainingTimeout _ _ => true
  | .retrain _ _ => true
  | .laneDown _ _ => true
  | .fillBlockReceive _ _ _ => true
  | .fillBlockSend _ _ => true
  | .eidleRequest _ _ => true
  | .eidleExit _ _ => true
  | .deepRequest _ _ => true
  | .wakeDetect _ _ => true
  | .quadRefSwitch _ _ _ => true
  | .baserLinkChange _ _ _ _ _ => true
  | .lnCntClr _ _ => true
  | .capsSend _ _ => true
  | .capsReceive _ _ => true
  | .helloSend _ _ => true
  | .detach _ _ => true
  | .planAnnSend _ => true
  | .planActivation _ => true
  | .planTimeout _ => true
  | .endshotReceive _ _ => true
  | .hevtReceive _ _ => true
  | .headTimeRequest _ _ => true
  | .timeReplyReceive _ _ => true
  | .timeReplyTimeout _ _ => true
  | .trigReceive _ _ => true
  | .subExpired _ _ => true
  | .ptpSyncTimeout _ => true
  | .eventReport _ => true
  | .eventMergeEnd _ => true
  | .eventPacketSend _ _ => true
  | .flCntClr _ => true
  | .epTimeRead _ => true
  | .siRecordTake _ _ => true
  | .resultCrossCheck _ => true
  | .frameMissingTimeout _ _ => true
  | .heartbeatSend _ _ => true
  | .heartbeatReceive _ _ _ => true
  | .heartbeatLoss _ _ => true
  | .selfTestCycle _ _ _ => true
  | .siWatchdogExpiry _ _ => true
  | .regulatorFault _ _ => true
  | .degExpired _ _ => true
  | .readbackFault _ _ _ _ => true
  | .feedbackFault _ _ => true
  | .srstLevelChange _ _ _ => true
  | .srstEdge _ _ => true
  | .srstMismatch _ => true
  | .fslSlotTimeout _ _ => true
  | .sfbLevelChange _ _ _ => true
  | .pointsHoldExpiry _ _ => true
  | .dmaStart _ _ => true
  | .dmaStop _ _ => true
  | .dmaReadGrant _ => true
  | .dmCntClr _ => true
  | .svcCommand _ _ => true
  | .svcReplyRead _ _ => true
  | .svcEventRead _ _ => true
  | .cmdPacketReceive _ _ => true
  | .rebootReset _ _ => true
  | .sessionExpiry _ => true
  | .nonceExpiry _ => true
  | .authWaitExpiry _ => true
  | .jtagAccess _ _ => true
  | .postedWriteAccept _ _ => true
  | .liveWriteApply _ _ => true
  | .crcPassComplete _ => true
  | .liveWindowExpiry _ => true
  | .cmCntClr _ => true
  | .cfCntClr _ => true
  | .sysUptimeRead _ => true
  | .powerOnReset _ => true
  | .powerOnRelease _ => true
  | .dieRelease _ _ _ => true
  | .selfTestComplete _ _ _ => true
  | .nodeRdyAssert _ _ => true
  | .braceEnd _ => true
  | .rstNAssert _ => true
  | .rstNRelease _ _ => true
  | .mgmtWatchdogExpiry _ _ => true
  | .stageComplete _ _ => true
  | .fwTrialExpired _ => true
  | .settingsSave _ => true
  | .settingsSaved _ => true
  | .flashWriteResume _ => true
  | .pwCntClr _ => true
  | .diodeSample _ _ => true
  | .throttleRise _ _ => true
  | .throttleFall _ _ => true
  | .sensorRecover _ _ => true
  | .extSensorSilent _ _ => true
  | .shutdownEnd _ => true
  | .fireRangeRelease _ => true
  | .tileCalibration _ _ => true
  | .converterCalSlot _ _ => true
  | .calPeriodMissed _ _ _ => true
  | .calSettingsSave _ => true
  | .thCntClr _ => true


end Sys2Proof
end

