-- ==== Sys2Proof/Decode.lean ====
section
/-!
DEFINITION. The command that a word spells by the bits of the command table. The table gives no row any bits: commands reach the device
by its pins, clocks and packets (chapters 11, 15, 17), and their packets are read by the command island and the link receivers.
-/

namespace Sys2Proof

/-- The command that `w` spells in `nbits` bits: no row of the table has bits, so no word spells one. -/
def decodeTableWord (_nbits _w : Nat) : Option Instr := none

end Sys2Proof
end

