-- ==== Sys2Proof/Config.lean ====
section
/-!
DEFINITION. What the spec leaves open: free values. None has a body that a proof can see.
-/

namespace Sys2Proof

/-- The statistics mean's fraction when it rounds to 16/16 (R107), by sum and count. -/
opaque Config.stFraction : Nat → Nat → BitVec 4

/-- The request port of a cluster that an event's request goes to (R160), by pixel and bin address. -/
opaque Config.foldPort : Nat → Nat → Fin 16

/-- The bin that a level unit on a fold bin looks at where its BIN lies outside the histogram, by unit. -/
opaque Config.triggerBin : Nat → BitVec 11

/-- How x less the DC estimate is rounded (R236), by value and count of free values. -/
opaque Config.dcBlockRound : Int → Nat → Fin 2

/-- The taps of the built-in FIR of a preset (R217), signed in 1/262,144, by preset and tap. -/
opaque Config.builtinFir : Nat → Nat → Score

/-- The filtered result, in a thousandth of a pV, of a decimator whose samples since the restart are no whole number of output periods
(R215 with more slots than one, R220 inside an output): taps, samples, integrators and combs, outputs of the sinc stage. -/
opaque Config.scanResult : List Int → Int

/-- Whether a filtered result that is no integer becomes its floor or the next integer (R216), by numerator and denominator. -/
opaque Config.converterRound : Int → Nat → Fin 2

/-- A filtered result outside the 20-bit format (R216). -/
opaque Config.beyondScale : Int → Score

/-- Whether |Z| becomes its floor in Ω or the next integer (R230), by µV and µA. -/
opaque Config.zRound : Nat → Nat → Fin 2

/-- The derating factor before the first settled temperature (R263), by group and count of free values. -/
opaque Config.deratingUnknown : Nat → Nat → Fin 257

/-- The bytes over which the digest of a plan is computed (R136): identities, frame period, SPACING. -/
opaque Config.planBytes : List Nat → Nat → Nat → List Nat

/-- The body of a PLAN_ANN (R136): identity, frame period, SPACING, digest, earliest activation. -/
opaque Config.planAnnBody : Nat → Nat → Nat → Nat → Nat → List Score

/-- The scores of HCFG from the tables it carries (R312). -/
opaque Config.hcfgScores : List Nat → List Score

/-- The body of the device's TIME packet (R313), by count of free values. -/
opaque Config.timeBody : Nat → List Score

/-- The frequency correction of the time base in ppb plus 50,000 (R319), by count of free values. -/
opaque Config.ptpSlew : Nat → Fin 100001

/-- The coefficients of a compensated quantity of Table 18.4 in ppb (R468), fused at test: by quantity and power of Tj in °C. -/
opaque Config.compensation : Nat → Nat → Rat

/-- The preset of a PLL in ppb at a junction temperature in 1/1,024 °C (R468): of its VCO band, or of its charge-pump current. -/
opaque Config.pllPreset : Nat → Int → Rat

/-- The number by which ISLAND_STALL names an island (R25), by its place in Table 1.3. -/
opaque Config.islandNumber : Nat → BitVec 20

/-- The RSVD bits of a register from reset (R13, R413), by base address. -/
opaque Config.rsvdReset : Nat → BitVec 20

/-- The nonce of CHALLENGE (R394), by count of free values. -/
opaque Config.nonce : Nat → BitVec 256

/-- The salt of a stored password (R396), by count of free values. -/
opaque Config.passwordSalt : Nat → List (BitVec 8)

/-- Whether the salt stands before the password in what is digested (R396). -/
opaque Config.saltFirst : Bool

/-- What the header of an image says (R447): the digest and the bytes of the image that it covers; the public key as bytes and as a point;
the signature; the security version; the firmware's version (Table 16.6, bits [19:0]) and build. -/
structure ImageHeader where
  digest : Nat
  covered : List (BitVec 8)
  key : List (BitVec 8)
  keyX : Nat
  keyY : Nat
  sigR : Nat
  sigS : Nat
  version : Nat
  fwVer : Score
  build : Score
  deriving DecidableEq, Repr, Inhabited

/-- The header of an image, whose layout the spec does not give (R447). -/
opaque Config.imageHeader : List (BitVec 8) → ImageHeader

/-- The bytes of a boot record (R446): state, generation, image length, security version. -/
opaque Config.bootRecord : Nat → Nat → Nat → Nat → List Nat

/-- The number of a settings record's type (R453), by the part of the settings it holds. -/
opaque Config.recordType : Nat → Nat

/-- The bytes of a settings record (R453): type, format version, content as numbers. -/
opaque Config.recordBytes : Nat → Nat → List Nat → List Nat

end Sys2Proof
end

