-- ==== Sys2Proof/Machine/Crc.lean ====
section
/-!
DEFINITION. CRC-32C, which guards the configuration sets (R426), the boot records (R446) and the settings records (R453).
-/

namespace Sys2Proof.Machine

/-- One bit of a reflected CRC. -/
def crcBitLsb (poly crc : Nat) (bit : Bool) : Nat :=
  let out := decide (crc % 2 = 1)
  if out = bit then crc / 2 else (crc / 2) ^^^ poly

/-- The bits of a number, least significant first. -/
def bitsLsb : Nat → Nat → List Bool
  | 0, _ => []
  | w + 1, x => decide (x % 2 = 1) :: bitsLsb w (x / 2)

/-- CRC-32C of a byte sequence (RFC 3720): polynomial 0x1EDC6F41 reflected, initial value and final inversion of all ones. -/
def crc32c (bytes : List Nat) : BitVec 32 :=
  BitVec.ofNat 32 (0xFFFFFFFF ^^^ (bytes.foldl (fun c b => (bitsLsb 8 b).foldl (crcBitLsb 0x82F63B78) c) 0xFFFFFFFF))

end Sys2Proof.Machine
end

