-- ==== Sys2Proof/Machine/State.lean ====
section
/-!
DEFINITION. The state of the device: every register, buffer, queue, counter and mode the spec gives it, and the queue of waiting commands.
-/

namespace Sys2Proof.Machine

/-- The events of Table 12.9 (R325). -/
inductive Ev where
  | islandStall
  | refSwitch
  | refLost
  | scanOverrun
  | ioClass
  | rxDcLimit
  | gainChange
  | rxRecovery
  | tileUnlock
  | tdcFail
  | ffbMissing
  | ffbDrift
  | tileSkew
  | stDone
  | tableErr
  | govLimit
  | planMismatch
  | planTimeout
  | planLocal
  | planLegacy
  | foldLayout
  | foldToken
  | foldDrop
  | deliveryDrop
  | safeFeedLoss
  | servoFault
  | acqTimeout
  | handoverForced
  | servoOsc
  | flybackShort
  | plausFail
  | sensorOpen
  | sensorShort
  | axThreshold
  | acqDone
  | lampTempLost
  | lampOpen
  | lampShort
  | lampStuck
  | lampUnverified
  | quadRefSwitch
  | quadUnlock
  | laneErrors
  | laneRate
  | laneCfg
  | laneDown
  | linkRefused
  | partnerFull
  | attach
  | detach
  | move
  | consist
  | subExpired
  | headUnaligned
  | safeTrip
  | siFail
  | feedbackFault
  | srstMismatch
  | safeReset
  | degradedStart
  | fslRxFail
  | liveDiscard
  | cfgLiveErr
  | swapDone
  | configCrc
  | configNoRef
  | supplyBrace
  | supplyReset
  | stuckReset
  | flashFault
  | fwFallback
  | fwRejected
  | fwTrial
  | fwConfirmed
  | fwTrialExpired
  | settingsNewer
  | settingsMigrated
  | settingsSaved
  | thermalSensor
  | throttle
  | throttleStep
  | throttleEnd
  | tjWarn
  | tjShutdown
  | fireTemp
  | calReject
  | calStale
  | dmaDone (ch : Nat)
  | dmaRefused (ch : Nat)
  deriving DecidableEq, Repr

/-- The code of an event (Table 12.9). -/
def Ev.code : Ev → Nat
  | .islandStall => 0x001
  | .refSwitch => 0x002
  | .refLost => 0x003
  | .scanOverrun => 0x004
  | .ioClass => 0x005
  | .rxDcLimit => 0x010
  | .gainChange => 0x011
  | .rxRecovery => 0x012
  | .tileUnlock => 0x013
  | .tdcFail => 0x014
  | .ffbMissing => 0x015
  | .ffbDrift => 0x016
  | .tileSkew => 0x017
  | .stDone => 0x018
  | .tableErr => 0x020
  | .govLimit => 0x021
  | .planMismatch => 0x022
  | .planTimeout => 0x023
  | .planLocal => 0x024
  | .planLegacy => 0x025
  | .foldLayout => 0x030
  | .foldToken => 0x031
  | .foldDrop => 0x032
  | .deliveryDrop => 0x038
  | .safeFeedLoss => 0x039
  | .servoFault => 0x040
  | .acqTimeout => 0x041
  | .handoverForced => 0x042
  | .servoOsc => 0x043
  | .flybackShort => 0x044
  | .plausFail => 0x048
  | .sensorOpen => 0x049
  | .sensorShort => 0x04A
  | .axThreshold => 0x04B
  | .acqDone => 0x050
  | .lampTempLost => 0x058
  | .lampOpen => 0x059
  | .lampShort => 0x05A
  | .lampStuck => 0x05B
  | .lampUnverified => 0x05C
  | .quadRefSwitch => 0x060
  | .quadUnlock => 0x061
  | .laneErrors => 0x062
  | .laneRate => 0x063
  | .laneCfg => 0x064
  | .laneDown => 0x065
  | .linkRefused => 0x068
  | .partnerFull => 0x069
  | .attach => 0x06A
  | .detach => 0x06B
  | .move => 0x06C
  | .consist => 0x06D
  | .subExpired => 0x06E
  | .headUnaligned => 0x06F
  | .safeTrip => 0x070
  | .siFail => 0x071
  | .feedbackFault => 0x072
  | .srstMismatch => 0x073
  | .safeReset => 0x074
  | .degradedStart => 0x075
  | .fslRxFail => 0x076
  | .liveDiscard => 0x080
  | .cfgLiveErr => 0x081
  | .swapDone => 0x082
  | .configCrc => 0x083
  | .configNoRef => 0x084
  | .supplyBrace => 0x090
  | .supplyReset => 0x091
  | .stuckReset => 0x092
  | .flashFault => 0x093
  | .fwFallback => 0x094
  | .fwRejected => 0x095
  | .fwTrial => 0x096
  | .fwConfirmed => 0x097
  | .fwTrialExpired => 0x098
  | .settingsNewer => 0x099
  | .settingsMigrated => 0x09A
  | .settingsSaved => 0x09B
  | .thermalSensor => 0x0A0
  | .throttle => 0x0A1
  | .throttleStep => 0x0A2
  | .throttleEnd => 0x0A3
  | .tjWarn => 0x0A4
  | .tjShutdown => 0x0A5
  | .fireTemp => 0x0A6
  | .calReject => 0x0A7
  | .calStale => 0x0A8
  | .dmaDone ch => 0x120 + ch % 32
  | .dmaRefused ch => 0x140 + ch % 32

/-- Severities of Table 15.4: 0 INFO, 1 AMBER, 2 CRIMSON. -/
inductive Sev where
  | info | amber | crimson
  deriving DecidableEq, Repr

/-- The severity of an event (Table 12.9). AX_THRESHOLD takes it from AX_THR_CFG.SEV: the event itself says AMBER, the report of it may not. -/
def Ev.sev : Ev → Sev
  | .islandStall | .refLost | .ioClass | .tileUnlock | .tdcFail | .tileSkew | .safeFeedLoss | .servoFault | .safeTrip | .siFail | .feedbackFault | .degradedStart | .fslRxFail | .configCrc | .configNoRef | .tjShutdown => .crimson
  | .refSwitch | .scanOverrun | .rxDcLimit | .rxRecovery | .ffbMissing | .ffbDrift | .tableErr | .govLimit | .planMismatch | .planTimeout | .planLocal | .foldLayout | .foldToken | .foldDrop | .deliveryDrop | .acqTimeout | .handoverForced | .servoOsc | .plausFail | .sensorOpen | .sensorShort | .axThreshold | .lampTempLost | .lampOpen | .lampShort | .lampStuck | .lampUnverified | .quadRefSwitch | .quadUnlock | .laneErrors | .laneCfg | .laneDown | .linkRefused | .partnerFull | .detach | .headUnaligned | .srstMismatch | .liveDiscard | .cfgLiveErr | .supplyBrace | .supplyReset | .stuckReset | .flashFault | .fwFallback | .fwRejected | .fwTrialExpired | .settingsNewer | .thermalSensor | .throttle | .tjWarn | .fireTemp | .calReject | .calStale | .dmaRefused _ => .amber
  | .gainChange | .stDone | .planLegacy | .flybackShort | .acqDone | .laneRate | .attach | .move | .consist | .subExpired | .safeReset | .swapDone | .fwTrial | .fwConfirmed | .settingsMigrated | .settingsSaved | .throttleStep | .throttleEnd | .dmaDone _ => .info

/-- A table with Nat keys, sparse in one canonical form: keys strictly rising, no entry equal to what an unlisted key reads as. -/
structure Tab (α : Type) where
  cells : List (Nat × α) := []
  deriving DecidableEq, Repr

/-- The place of one field: the address of its register in the base block, its lowest bit, its width. -/
structure Fld where
  addr : Nat
  lo : Nat
  w : Nat
  deriving DecidableEq, Repr

/-- One register of the maps (R407, R408): base address, indexes as (count, stride), single copy or both sets (R414, R415),
masks of the RW, W1C and WO bits, the RO and W1C fields as (lowest bit, width), and the Reset column. -/
structure RegKind where
  base : Nat
  dims : List (Nat × Nat)
  one : Bool
  rw : Nat
  w1c : Nat
  wo : Nat
  hw : List (Nat × Nat)
  reset : Nat
  deriving DecidableEq, Repr

/-- An accepted write to the active set that waits for its boundary (R34). `left` are the pixels, channels or lanes of
`served` for which it has not yet taken effect (R493). -/
structure LiveWrite where
  addr : Nat
  value : Score
  acceptedAt : Nat
  served : List Nat
  left : List Nat
  deriving DecidableEq, Repr

/-- A value that one pixel, channel, axis or lane still uses after a SWAP, until its own boundary (Table 16.3). -/
structure Stale where
  addr : Nat
  unit : Nat
  value : Score
  deriving DecidableEq, Repr

/-- The value that a single-copy register had before a host's write that waits for the shot-cycle end (R34, R109, R472). -/
structure OldValue where
  addr : Nat
  value : Score
  at_ : Nat
  deriving DecidableEq, Repr

/-- A register write on its way to its island (R410): the address as written (base or alias), the value, and the command it belongs to. -/
structure Posted where
  addr : Nat
  value : Score
  cmd : Nat
  deriving DecidableEq, Repr

/-- What an island's current clock cycle has brought to an RO or W1C field, by `Fld.key`: the bits set, or the count that arrived (R14). -/
structure Recent where
  key : Nat
  x : Nat
  at_ : Nat
  deriving DecidableEq, Repr

/-- All registers of the register space. `setA` and `setB` hold the RW fields of CFG_A and CFG_B in effect, by base address;
`one` the single-copy RW fields (R415); `hw` the RO and W1C fields, by `Fld.key`; `rsvd` the RSVD bits (R413); `recent` what
the last cycle of the slowest island brought. -/
structure Regs where
  setA : Tab Score := {}
  setB : Tab Score := {}
  one : Tab Score := {}
  hw : Tab Nat := {}
  rsvd : Tab (Option Score) := {}
  waiting : List LiveWrite := []
  stale : List Stale := []
  posted : List Posted := []
  recent : List Recent := []
  deriving DecidableEq, Repr

/-- Where the die stands (chapter 17): in power-on reset, in another reset, booting, in recovery (R450), or with NODE_RDY_N asserted. -/
inductive Phase where
  | powerOn | inReset | boot | recovery | ready
  deriving DecidableEq, Repr

/-- The port a partner is reached on (R305). -/
inductive PortRef where
  | lane (l : Nat)
  | eth (lane ip : Nat)
  deriving DecidableEq, Repr

/-- One report to the event manager, or one event record (R322, Table 12.4): key (source identity and code), severity, arguments,
count, first and last reporter, time, RELAYED, the port of arrival of a partner's record. -/
structure Report where
  src : Nat
  code : Nat
  sev : Sev
  e10 : Nat
  e11 : Nat
  count : Nat
  first : Nat
  last : Nat
  time : Nat
  relayed : Bool
  port : Option PortRef
  deriving DecidableEq, Repr

/-- How an Ethernet frame leaves: the VID and PCP of its tag (R320), its bits inverted on the line (R295). -/
structure Ether where
  tag : Option (Nat × Nat)
  inverted : Bool
  deriving DecidableEq, Repr

/-- What leaves the device, in order. A reply by UDP comes from port 48,121 (R402). -/
inductive Tx where
  | reply (lane ip port : Nat) (ether : Ether) (bytes : List (BitVec 8))
  | svcBytes (bytes : List (BitVec 8))
  | packet (lane : Nat) (scores : List Score)
  | datagram (lane ip port : Nat) (ether : Ether) (bytes : List (BitVec 8))
  | fire (emitter instant width : Nat)
  | block (lane : Nat) (scores : List Score) (line : List Bool)
  | delayReq (lane domain : Nat) (udp : Bool) (ether : Ether)
  | jtag (granted : Bool)
  deriving DecidableEq, Repr

/-! ### Return tiles and time engine -/

/-- What a channel queue holds (R102): a stamp entry (Table 3.4) with the shot it belongs to, or the close token of a shot. -/
inductive QItem where
  | entry (shot : Nat) (stamp tag : Score) (readyAt : Nat)
  | token (shot : Nat)
  deriving DecidableEq, Repr

/-- A return whose shot has no start reference yet (R97): its corrected leading edge in tile time and its tag without NEAR, ORDER, OVF, FBS and QL. -/
structure RawEntry where
  chan : Nat
  shot : Nat
  lead : Int
  tag : Nat
  readyAt : Nat
  deriving DecidableEq, Repr

/-- One analog channel. -/
structure ChanState where
  /-- A receive window is open; `blind` when the channel produces no edges in it. -/
  winOpen : Bool := false
  blind : Bool := false
  openAt : Nat := 0
  closeAt : Nat := 0
  openCoarse : Nat := 0
  shot : Nat := 0
  lastClose : Option Nat := none
  /-- The windows of the last 12.8 µs as (open, close), none while open (R76); the LT fall of the last return of the window (R64). -/
  wins : List (Nat × Option Nat) := []
  lastFall : Option Nat := none
  frozen : Bool := false
  atLimit : Bool := false
  recovFail : Bool := false
  /-- Auto-range (R55): quiet intervals, the shots with an OVR return and those with a return that crossed HT since the last
  interval end, the last range switch (R58). -/
  quiet : Nat := 0
  ovrSeqs : List Nat := []
  htSeqs : List Nat := []
  switchedAt : Option Nat := none
  /-- Calibration (R90-R92): the last valid set, the set the window uses, runs of invalid and valid calibrations, a calibration still owed after relock (R81). -/
  cal : Option CalSet := none
  calUsed : Option CalSet := none
  calBad : Nat := 0
  calGood : Nat := 0
  awaitCal : Bool := false
  queue : List QItem := []
  qlNext : Bool := false
  firstSeen : Option Nat := none
  deriving DecidableEq, Repr

/-- One clamp of a channel (R67 to R71): engaged at, released at (none while engaged), end of its blanking (none while it lasts). -/
structure ClampLog where
  chan : Nat
  engaged : Nat
  released : Option Nat
  ended : Option Nat
  deriving DecidableEq, Repr

/-- One return tile: XTK window, the clamps and XTK windows (opened, closed) of the last 12.8 µs, the sampler with the start, channel and
shot of its capture (R74, R77, R78), tile offset (R96), the round-robin position of its drain. -/
structure TileState where
  xtkOpen : Bool := false
  clamps : List ClampLog := []
  xtkLog : List (Nat × Option Nat) := []
  wsArmed : Bool := false
  wsBusy : Bool := false
  wsStart : Nat := 0
  wsChan : Nat := 0
  wsSeq : Nat := 0
  wsSamples : List Score := []
  refs : List Int := []
  skewBad : Nat := 0
  skewRun : List Int := []
  rr : Nat := 0
  deriving DecidableEq, Repr

/-- A shot as the time engine knows it: FIRE placement and dither in Shepherd LSB, and the FFB edge or its substitute (R93, R94). -/
structure TeShot where
  seq : Nat
  emitter : Nat
  dither : Nat
  place : Nat
  placedAt : Nat
  ffb : Option Int
  fbs : Bool
  deriving DecidableEq, Repr

/-- A statistics run (R107). -/
structure StRun where
  n : Nat := 0
  sum : Nat := 0
  sumsq : Nat := 0
  lo : Nat := 0
  hi : Nat := 0
  deriving DecidableEq, Repr

/-- `stAct` are the statistics units whose START waits for its register write's boundary, `stWait` the TE_ST_ registers that a host has
written with the value used until the shot-cycle end. -/
structure TileBlock where
  chan : Tab ChanState := {}
  tile : Tab TileState := {}
  shots : List TeShot := []
  raw : List RawEntry := []
  st : Tab StRun := {}
  stWait : List OldValue := []
  stAct : List (Nat × Nat) := []
  deriving DecidableEq, Repr

/-! ### Shepherd -/

/-- A shot descriptor (R125), with the start of its shot cycle and the pixels that take part: those of its group, except where a window
clash or a range switch leaves one out (R58, R116). -/
structure ShotDesc where
  seq : Nat
  emitter : Nat
  dither : Nat
  group : Nat
  win : Nat
  cycle : Nat
  start : Nat
  pixels : List Nat
  deriving DecidableEq, Repr

/-- A receive window that a fired shot will open or has open on a pixel (R116, R126), as instants. -/
structure ShotWin where
  pixel : Nat
  seq : Nat
  from_ : Nat
  to_ : Nat
  deriving DecidableEq, Repr

/-- A shot cycle: its number in the frame, its start, its length in coarse periods, the next shot-table entry to reach, whether it is throttled (R464). -/
structure Cycle where
  no : Nat
  startAt : Nat
  len : Nat
  next : Nat
  throttled : Bool
  deriving DecidableEq, Repr

/-- One emitter's ledgers (R127): committed energy by bucket, newest first, for the 100 µs, 10 ms and 1 s windows. -/
structure Ledger where
  l100 : List (Nat × Nat) := []
  l10m : List (Nat × Nat) := []
  l1s : List (Nat × Nat) := []
  deriving DecidableEq, Repr

/-- A node of the partner table in a plan negotiation (R135, R136): what it announces, its last PLAN_ANN. -/
structure PlanPeer where
  ident : Nat
  period : Nat
  spacing : Nat
  digest : Nat
  earliest : Nat
  heardAt : Option Nat
  mismatch : Bool
  deriving DecidableEq, Repr

/-- The shot-slot plan (R134 to R138); its state, φ, N and digest in effect are registers. `earliest` is this node's own last announcement;
`phiDue` waits for the frame boundary. -/
structure Plan where
  peers : List PlanPeer := []
  since : Nat := 0
  earliest : Option Nat := none
  activation : Option Nat := none
  newPhi : Nat := 0
  newN : Nat := 1
  newDigest : Nat := 0
  phiDue : Option Nat := none
  deriving DecidableEq, Repr

structure Shepherd where
  /-- The copy of block 0x04 that governs now, and the one that the last snapshot point took for the cycle that follows (R131). -/
  copy : Tab Score := {}
  nextCopy : Option (Tab Score) := none
  /-- The dither registers (R119), one per emitter. -/
  lfsr : List Nat := (List.range 16).map fun e => if (e + 1) * 0x0F0F % 65536 = 0 then 0xFFFF else (e + 1) * 0x0F0F % 65536
  cyc : Option Cycle := none
  upcoming : Option Cycle := none
  cycles : Nat := 0
  startReq : Bool := false
  stopReq : Bool := false
  /-- A stop found no cycle running: none begins until FRAMES_START acts (R130); fold intervals that the stop still has to close. -/
  halted : Bool := false
  closeDue : Bool := false
  refLost : Bool := false
  /-- A reference is back after REF_LOST (R27). -/
  refTaken : Bool := false
  /-- REFCLK_A and REFCLK_B lie within their limits. -/
  refA : Bool := true
  refB : Bool := true
  /-- Since when each has lain within them without a break, as an instant. -/
  sinceA : Nat := 0
  sinceB : Nat := 0
  /-- The frame: its number (the first frame boundary makes it 0, R185), its start, its scan end, its boundary, as instants. -/
  frameNo : Nat := 0xFFFFF
  frameStart : Nat := 0
  /-- The boundary at which the frame before the running one began. -/
  prevStart : Nat := 0
  scanEndAt : Nat := 0
  nextBoundary : Nat := 0
  inScan : Bool := false
  ledgers : Tab Ledger := {}
  govInh : List Nat := []
  reached : Tab Nat := {}
  fired : Tab Nat := {}
  scanDrop : Nat := 0
  /-- The windows of fired shots that have not closed (R116, R126). -/
  windows : List ShotWin := []
  /-- By emitter, the last FIRE pulse as (begin, end), in LSB (R121). -/
  pulses : Tab (Nat × Nat) := {}
  plan : Plan := {}
  deriving DecidableEq, Repr

/-! ### Fold and extraction -/

/-- What travels from a tile queue or a head to the fold intake (R140): a stamp entry, a head event already turned into a node
stamp (R317) with its flags and class, or a close token. -/
inductive Intake where
  | analog (pixel shot : Nat) (stamp tag : Score)
  | head (pixel shot : Nat) (stamp : Score) (hsat hloss : Bool)
  | token (pixel shot : Nat)
  deriving DecidableEq, Repr

/-- A fold interval of one pixel and the header it gathers (R151 to R157, Table 5.6). `desc` are the three descriptor scores in effect. -/
structure Interval where
  gen : Nat := 0
  buf : Nat := 0
  desc : List Score := []
  gain : Nat := 3
  n : Nat := 0
  /-- The shots counted; those whose close token is still to come. -/
  seqs : List Nat := []
  tokens : List Nat := []
  lastToken : Nat := 0
  endedAt : Nat := 0
  frame : Nat := 0
  cycle : Nat := 0
  ext : Bool := false
  cut : Bool := false
  sat : Bool := false
  loss : Bool := false
  suspect : Bool := false
  fbs : Bool := false
  under : Nat := 0
  above : Nat := 0
  ovr : Nat := 0
  ovrBins : Option (Nat × Nat) := none
  xtk : Nat := 0
  /-- The profile of the pixel as it stood at the interval end (R165): EX_PROF_CFG to EX_PROF_SAT. -/
  prof : List Score := []
  deriving DecidableEq, Repr

/-- One pixel in Fold. `dirty` lists the buffers extraction has not yet read; `live` means that the pixel is histogrammed with a valid descriptor. -/
structure FdPixel where
  live : Bool := false
  disabled : Bool := false
  isOpen : Bool := false
  clearing : Bool := false
  desc : List Score := []
  cur : Interval := {}
  closed : List Interval := []
  dirty : List Nat := []
  deriving DecidableEq, Repr

/-- How a pixel stands to a shot: counted into an interval with its index k (R151), or not counted because it is disabled (R144). -/
inductive Part where
  | counted (pixel gen k : Nat)
  | disabled (pixel : Nat)
  deriving DecidableEq, Repr

/-- A shot that Fold knows (R142). -/
structure FdShot where
  seq : Nat
  dither : Nat
  group : Nat
  cycle : Nat
  parts : List Part
  deriving DecidableEq, Repr

/-- An increment request (R160): the linear bin address, the pixel and interval it belongs to, its event's arrival. -/
structure Req where
  addr : Nat
  pixel : Nat
  gen : Nat
  arrived : Nat
  deriving DecidableEq, Repr

/-- An entry of a bank's coalescing buffer (R161). -/
structure Coal where
  addr : Nat
  count : Nat
  pixel : Nat
  gen : Nat
  deriving DecidableEq, Repr

structure Fold where
  inbound : List ShotDesc := []
  intake : List Intake := []
  shots : List FdShot := []
  pix : Tab FdPixel := {}
  /-- The fold memory (R10, R158), by linear bin address. -/
  mem : Tab Nat := {}
  ports : Tab (List Req) := {}
  coal : Tab (List Coal) := {}
  stallAt : Tab Nat := {}
  /-- By port and bank, the island cycle in which it last passed something, and how much in it (R160, R161). -/
  rate : Tab (Nat × Nat) := {}
  refSwitching : Bool := false
  suspectUntil : Option Nat := none
  tokenTmoFrame : Nat := 0
  dropFrame : Nat := 0
  deriving DecidableEq, Repr

/-- A released histogram (R154, R156): pixel, buffer, the twelve header scores, set count, frame, profile, release time. -/
structure Released where
  pixel : Nat
  iv : Interval
  header : List Score
  at_ : Nat
  deriving DecidableEq, Repr

/-- A histogram in an extraction cluster: its cells as read, and whether its last cell has been read. -/
structure Proc where
  cluster : Nat
  rel : Released
  bins : List Nat
  trace : List Nat
  scanning : Bool
  deriving DecidableEq, Repr

structure Extract where
  released : List Released := []
  procs : List Proc := []
  /-- A MARK is due for this frame (R185). -/
  markDue : Option Nat := none
  /-- Records placed and dropped in the frame, by destination: 0 to 15 the delivery queues, 16 and 17 SI-A and SI-B. -/
  placed : Tab Nat := {}
  dropped : List Nat := []
  /-- Queues whose last MARK was dropped. -/
  markLost : List Nat := []
  suspect : Bool := false
  frameDrops : Tab Nat := {}
  deriving DecidableEq, Repr

/-! ### Delivery and DMA -/

/-- A record or an element in a delivery queue, with the subscriptions that still wait for their copy (R365), and since when. -/
structure DmItem where
  scores : List Score
  todo : List Nat
  since : Nat
  deriving DecidableEq, Repr

/-- A delivery queue with the layout in use (R363, R364, R368). -/
structure DmQueue where
  size : Nat := 16
  hold : Bool := false
  fmt1 : Bool := false
  items : List DmItem := []
  /-- FMT 1: the bytes that wait for a datagram, by the DMA channel whose transfer they belong to; discarded bytes that do not yet fill a unit. -/
  bytes : Tab (List (BitVec 8)) := {}
  disc : Nat := 0
  deriving DecidableEq, Repr

/-! ### Scanner servo -/

/-- A biquad's state in 2^-12: the last two inputs and outputs (R190, R191). -/
structure Biquad where
  x1 : Int := 0
  x2 : Int := 0
  y1 : Int := 0
  y2 : Int := 0
  deriving DecidableEq, Repr

/-- A position output as it reaches the servo: the linearised result, and whether R193 allows its use. -/
structure PosSample where
  y : Int
  usable : Bool
  deriving DecidableEq, Repr

/-- What a period computed, for a hand-over that HANDOVER_FORCED completes: e, ef in 2^-12, d, and acc exactly. -/
structure LoopTerms where
  e : Int := 0
  ef : Int := 0
  d : Int := 0
  acc : Rat := 0
  deriving DecidableEq, Repr

/-- One servo axis; its STATE, LOCK, FORCING, SAT, TEST and ERR bits are registers. -/
structure SvAxis where
  inbox : Option PosSample := none
  /-- The instants of the last position output and of the last loop period. -/
  lastAt : Nat := 0
  periodAt : Nat := 0
  /-- The loop period of the last period that had one, and the one that the set in use gave the axis when it became active. -/
  lastT : Nat := 640000
  setT : Option Nat := some 12800000000
  yPrev : Int := 0
  /-- The position error computed last. -/
  e : Int := 0
  /-- The output computed last, latched at the next sample. -/
  u : Int := 0
  uLatched : Int := 0
  /-- The integrator in 2^-12 drive codes. -/
  i : Int := 0
  f0 : Biquad := {}
  f1 : Biquad := {}
  limSign : Int := 0
  bad : Nat := 0
  goingOff : Bool := false
  /-- Periods since lock while the hand-over of R200 is tested; forced hand-over due. -/
  hover : Option Nat := none
  forceDue : Bool := false
  terms : LoopTerms := {}
  forcePass : Nat := 0
  /-- ACQUIRE: amplitude in 2^-12 drive codes, phase in 2^-40 turns, locked-period run, entry time, timeout raised. -/
  amp : Int := 0
  theta : Int := 0
  lockRun : Nat := 0
  acqAt : Nat := 0
  acqTmo : Bool := false
  /-- The sums of y times cos and sin of the phase over the trajectory period (scaled 2^40), and the samples in it. -/
  sumRe : Int := 0
  sumIm : Int := 0
  sumN : Nat := 0
  /-- Oscillation detector: period number, amplitude reached since the last crossing, sign of e, periods of the crossings, firing due. -/
  period : Nat := 0
  reached : Bool := false
  eSign : Int := 0
  crossings : List Nat := []
  oscDue : Bool := false
  injStart : Bool := false
  injStop : Bool := false
  injK : Nat := 0
  prbs : Nat := 0x7FFF
  /-- The phase still to be made up under R196, in 2^-20 points. -/
  slew : Int := 0
  /-- Flyback of the gap (R197): periods done, length, whether it was shortened, end value and start value. -/
  flyJ : Nat := 0
  flyL : Nat := 0
  flyShort : Bool := false
  flyE : Int := 0
  fly0 : Int := 0
  deriving DecidableEq, Repr

structure Servo where
  axes : Tab SvAxis := {}
  deriving DecidableEq, Repr

/-! ### Converters -/

/-- The decimator of one channel at one modulator (R215, R217): the integrators and combs of the third-order sinc stage, the modulator
samples taken since the restart, the last 64 outputs of the sinc stage, newest first. Sums are exact. -/
structure Decim where
  i1 : Int := 0
  i2 : Int := 0
  i3 : Int := 0
  c1 : Int := 0
  c2 : Int := 0
  c3 : Int := 0
  n : Nat := 0
  sinc : List Int := []
  deriving DecidableEq, Repr

/-- An impedance check in progress on a pair (R230): its channel, the end of its 16 tone periods, the tone in Hz and its peak in µA. -/
structure ZCheck where
  chan : Nat
  ends : Nat
  hz : Nat
  peak : Nat
  deriving DecidableEq, Repr

/-- One converter channel (chapter 8). -/
structure AxChan where
  /-- The decimators at the primary and the secondary; the instants from which their samples of the slot in progress count. -/
  prim : Decim := {}
  sec : Decim := {}
  primFrom : Nat := 0
  secFrom : Nat := 0
  /-- The gain code that the samples are taken with (R224). -/
  gain : Nat := 0
  /-- Outputs that still carry UNSET (R220); the next slot's output carries it too (R222, R231). -/
  settle : Nat := 0
  nextUnset : Bool := false
  /-- Primary overload in the output in progress: true above, false below (R221). -/
  ovr : Option Bool := none
  /-- Outputs without a comparison (R223); disagreeing outputs in a row, PLAUS_FAIL raised since the last that agreed (R228). -/
  suspend : Nat := 0
  disagree : Nat := 0
  plausRaised : Bool := false
  /-- Blanking (R225): its output in progress has ended and its source has yet to switch; the end of blanking after a switch; a restart is due at
  the start of the channel's next slot; a sync came while it was blanked (R227). -/
  switchAhead : Bool := false
  blankEnd : Option Nat := none
  restartAtSlot : Bool := false
  synced : Bool := false
  /-- The last impedance check found it open or shorted (R232). -/
  fail : Bool := false
  /-- When its last impedance check fell due; one that is due waits (R233). -/
  zAt : Option Nat := none
  zWait : Bool := false
  /-- The DC estimate (R236), exact. -/
  m : Rat := 0
  /-- Outputs delivered; the last settled output and its instant; when one last differed from the one before by more than a
  sensor plausibly can (R460); the temperature R235 may use. -/
  count : Nat := 0
  settled : Option Int := none
  settledAt : Nat := 0
  roughAt : Nat := 0
  temp : Option Int := none
  deriving DecidableEq, Repr

structure Converters where
  chan : Tab AxChan := {}
  /-- By pair: the start of the slot in progress (R214), the impedance check that holds the pair (R231), a calibration slot in progress, one that
  waits (R471). -/
  slotAt : Tab Nat := {}
  check : Tab (Option ZCheck) := {}
  calSlot : Tab Bool := {}
  calWait : Tab Bool := {}
  deriving DecidableEq, Repr

/-! ### Acquisition engine -/

/-- Firings that belong to one sample (R250): the instant of the first, the units as a bit mask, how many there were, and the frame and the
time in it of the first. -/
structure AqFire where
  at_ : Nat
  units : Nat
  count : Nat
  frame : Nat
  time : Nat
  deriving DecidableEq, Repr

/-- One capture buffer. `cfg` are AQ_BUF_CFG, SRC, SRC2, LEN, POST, TRIG and OFS as the last arm took them (R242), `size` the size in force then (R241). -/
structure AqBuf where
  cfg : List Score := []
  size : Nat := 0
  data : List Score := []
  /-- Post-trigger samples written, or samples of the running segment; segments taken. -/
  post : Nat := 0
  segments : Nat := 0
  preCount : Nat := 0
  /-- The instant and SEQ of each pre-trigger sample while ARMED; the instant of the trigger sample. -/
  stamps : List (Nat × Nat) := []
  trigAt : Nat := 0
  /-- The averaging in progress (R252): sums, OR of the sampler's marks, how many. -/
  acc : List Int := []
  marks : List Nat := []
  accN : Nat := 0
  /-- Firings that no sample has taken yet; the trigger of this capture; a held trigger, and whether its sample is still to come; the
  trigger sample's SEQ. -/
  next : List AqFire := []
  cap : Option AqFire := none
  fromHeld : Bool := false
  held : Option AqFire := none
  heldOpen : Bool := false
  seq : Nat := 0
  /-- Amplitude counters and map cells (R253, R254). -/
  hist : Tab Nat := {}
  map : Tab Nat := {}
  /-- The extraction cluster whose histogram the buffer is still writing. -/
  writing : Option Nat := none
  deriving DecidableEq, Repr

/-- One trigger unit: AQ_TRG_CFG, SRC, LVL and HYST in effect, priming (R247), end of the hold-off (R248). -/
structure AqUnitState where
  cfg : List Score := []
  rise : Bool := false
  fall : Bool := false
  hold : Option Nat := none
  deriving DecidableEq, Repr

/-- Buffers, units, and the instants of the firings of AQ_CFG.SQ_UNIT that are on their way to Shepherd (R249). -/
structure Acquisition where
  bufs : Tab AqBuf := {}
  units : Tab AqUnitState := {}
  toShepherd : List Nat := []
  deriving DecidableEq, Repr

/-! ### Illuminators -/

/-- A pulse on ILL (R258, R268): high from `start` up to `stop`; `diag`, a diagnostic pulse. -/
structure IllPulse where
  start : Nat
  stop : Nat
  diag : Bool := false
  deriving DecidableEq, Repr

/-- One illuminator channel (chapter 10): the level in effect, the fade from `l0` to `l1` over `n` periods with `j` done, the lamp fault
counts. -/
structure IlChan where
  level : Nat := 0
  l0 : Nat := 0
  l1 : Nat := 0
  n : Nat := 0
  j : Nat := 0
  openCount : Nat := 0
  shortNow : Bool := false
  shortRun : Nat := 0
  stuckCount : Nat := 0
  /-- The start of the period in progress; the pulses of the last periods, also one that has yet to start, newest first. -/
  period : Option Nat := none
  pulses : List IllPulse := []
  /-- The last valid measurement, and the start of the pulse that gave it. -/
  lastMeas : Option Nat := none
  measured : Option Nat := none
  /-- Since when the channel is lit; since when its on-time is 1 to 199 ticks; the start of the last stretched pulse. -/
  litAt : Nat := 0
  dimAt : Option Nat := none
  stretchAt : Option Nat := none
  /-- When the diagnostic pulse that waits is to start; the normal pulse that one omits, if it still lies ahead. -/
  diagAt : Option Nat := none
  omitted : Option IllPulse := none
  deriving DecidableEq, Repr

/-- The channels; a start of a common PWM period (R258); the level of CSYNC[3:0], and the level without pulses under 200 ns (R267). -/
structure Illuminators where
  chan : Tab IlChan := {}
  grid : Option Nat := none
  csync : Tab Bool := {}
  expo : Tab Bool := {}
  deriving DecidableEq, Repr

/-! ### Lanes -/

/-- What the partner's last T0 says (Table 11.5). -/
structure T0 where
  rates : Nat
  idx : Nat
  width : Nat
  locked : Bool
  go : Bool
  chosen : Nat
  deriving DecidableEq, Repr

/-- The payload of a DATA superframe that waits for the other lanes of its link: SEQ, the stamp of its marker, pointer, 62 scores, the superframe-error mark. -/
structure RxFrame where
  seq : Nat
  stamp : Nat
  pointer : Nat
  scores : List Score
  bad : Bool
  deriving DecidableEq, Repr

/-- One lane (chapter 11); its STATE, RATE, PEER_IDLE and LN_EB are registers. -/
structure LaneState where
  since : Nat := 0
  /-- The T0 received last, for TRAINING_SCORE; the partner's offer, the rate chosen, GO sent, TRAIN superframes sent in SWITCH; a mismatch reported. -/
  rxT0 : Option Score := none
  peer : Option T0 := none
  chosen : Nat := 0
  go : Bool := false
  goSent : Nat := 0
  mismatch : Bool := false
  /-- Expected markers missed in a row, instants of invalid markers within 1 ms (R281). -/
  missed : Nat := 0
  bad : List Nat := []
  /-- Receiving: the run of equal line bits (R277), the last 31 line bits of payload, newest lowest (R275), SEQ of the last superframe and the
  instant of its first line bit (R289), superframes that wait for other lanes. -/
  rxRun : Bool × Nat := (false, 0)
  descr : Nat := 0
  rxSeq : Option Nat := none
  rxAt : Nat := 0
  frames : List RxFrame := []
  /-- Sending: the run of equal line bits, stuff bits that do not yet add up to a score time, score times in which no score was taken (R276),
  the last 31 line bits of payload, the next SEQ (R278), superframes and score times since the last FILL marker (R279), the end of the block
  in progress. -/
  txRun : Bool × Nat := (false, 0)
  txStuff : Nat := 0
  held : Nat := 0
  scram : Nat := 0
  txSeq : Nat := 0
  sinceFill : Nat := 0
  spacing : Nat := 0
  txEnd : Nat := 0
  /-- Stamps of the last marker received and sent (R285). -/
  rxStamp : Nat := 0
  txStamp : Nat := 0
  /-- A first valid marker after silence waits for its confirmation (R292). -/
  woke : Bool := false
  /-- A FILL block was received and its scores are yet to be matched (R282); FILL blocks matched since UP, island cycles without a score; on
  the lowest lane of a link, the FILL blocks decided and the last decision: fill scores deleted (positive) or repeated (R283). -/
  fillSeen : Bool := false
  fills : Nat := 0
  /-- Island cycles that do not yet make up an exchange of a score (R272). -/
  cycles : Nat := 0
  idle : Nat := 0
  decided : Nat := 0
  fillDec : Int := 0
  /-- On the first lane of a quad: its references that have failed (R273). -/
  badA : Bool := false
  badB : Bool := false
  deriving DecidableEq, Repr

/-! ### Frezen Link -/

/-- Who receives a stream (R309): the service port, a Frezen Link partner, or an IPv4 address and UDP port. -/
inductive Consumer where
  | svc
  | partner (ident : Nat)
  | eth (ip port : Nat)
  deriving DecidableEq, Repr

/-- A packet that waits to be sent: KIND and body. -/
structure Outgoing where
  kind : Nat
  body : List Score
  deriving DecidableEq, Repr

/-- A packet received whole: KIND, body, whether R300 lets it stand, the stamp of the marker of the superframe that brought its header. -/
structure RxPacket where
  kind : Nat
  body : List Score
  ok : Bool
  stamp : Nat := 0
  deriving DecidableEq, Repr

/-- A link, by its lowest lane: whether it is UP and since when it is or is not, its width, the CAPS exchange (R301, R302), when CAPS and HELLO
last went since UP (R301, R304), packet counts (R299, R300). -/
structure Link where
  up : Bool := false
  since : Nat := 0
  width : Nat := 1
  capsGot : Bool := false
  capsDone : Bool := false
  refused : Bool := false
  version : Nat := 0
  ident : Nat := 0
  pixels : Nat := 0
  capsAt : Option Nat := none
  helloAt : Option Nat := none
  txSeq : Nat := 0
  rxSeq : Option Nat := none
  /-- Packets that wait to be sent, the one being sent, and what is left of it. -/
  queue : List Outgoing := []
  current : Option Outgoing := none
  sending : List Score := []
  /-- The stream is ignored up to the next pointer (R300), and the packet after it is the first since; a HEVT discarded or a PSEQ gap
  since the last HEVT (R317); the packet being received, with an error mark; packets received whole. -/
  ignoring : Bool := false
  resync : Bool := false
  gap : Bool := false
  partial_ : List Score := []
  partialBad : Bool := false
  partialAt : Nat := 0
  arrived : List RxPacket := []
  deriving DecidableEq, Repr

/-- An entry of the partner table (R305). -/
structure Partner where
  idx : Nat
  ident : Nat
  profile : Nat
  version : Nat
  port : PortRef
  hello : List Score
  heardAt : Nat
  legacy : Bool
  deriving DecidableEq, Repr

/-- A subscription (R309): stream kind 0 delivery queue, 1 events, 2 FSL; its argument; its consumer and the lane it is reached on; its expiry. -/
structure Sub where
  idx : Nat
  kind : Nat
  arg : Nat
  who : Consumer
  lane : Nat
  expires : Option Nat
  deriving DecidableEq, Repr

/-- A remote head (R313, R314): the last accepted round trips and offsets (offsets in 1/32 LSB), runs, when it
was last asked, the extra exchanges of self-calibration (R469) with whether the request in progress is one, the request in progress (its instant, and t1 once its superframe has gone), pixels owed HLOSS, the HCFG of its attach sent. -/
structure Head where
  attached : Option Nat := none
  lane : Nat := 0
  rtts : List Int := []
  offs : List Int := []
  goodRun : List Int := []
  bad : Nat := 0
  asked : Option Nat := none
  extraAt : Option Nat := none
  extra : Nat × Nat := (0, 0)
  extraNow : Bool := false
  request : Option Nat := none
  t1 : Option Nat := none
  lossPix : List Nat := []
  hcfg : Bool := false
  deriving DecidableEq, Repr

/-- Records that wait for one event destination, its token bucket and its count of suppressed records (R323). -/
structure EvDest where
  who : Consumer
  waiting : List Report
  tokens : Nat
  refillAt : Nat
  suppressed : Nat
  deriving DecidableEq, Repr

/-- An open merge window (R322), with the reports merged in it, in their order. -/
structure EvWindow where
  src : Nat
  code : Nat
  opened : Nat
  merged : List Report
  deriving DecidableEq, Repr

/-- The event manager (R322 to R325): reports taken in, merge windows, destinations, the (code, argument) pairs already raised in the frame. -/
structure Events where
  inbox : List Report := []
  windows : List EvWindow := []
  dests : List EvDest := []
  seen : List (Nat × Nat) := []
  deriving DecidableEq, Repr

/-- Consist information (R307), and what waits for R45. -/
structure Consist where
  counter : Nat := 0
  have_ : Bool := false
  position : Score := 0xFE00
  front : Nat := 0
  rear : Nat := 0
  inEffect : Score := 0xFE00
  pendingPos : Option Score := none
  planAgreed : Bool := false
  deriving DecidableEq, Repr

/-- A time transmitter heard (R318): its last Announce and when it came, its lane and port identity. -/
structure PtpMaster where
  ann : PtpAnnounce
  heardAt : Nat
  lane : Nat
  ident : Nat
  deriving DecidableEq, Repr

/-- PTP (R318, R319): runs of Sync messages, the last one, lock, a pending step, the path delay and the last Sync's difference in LSB,
the frequency correction of the time base in ppb, a Delay_Req without an answer, the time transmitters heard and the one chosen. -/
structure Ptp where
  good : Nat := 0
  far : Nat := 0
  lastSync : Nat := 0
  locked : Bool := false
  stepBy : Option Int := none
  delay : Int := 0
  syncDiff : Int := 0
  slewPpb : Int := 0
  asked : Bool := false
  masters : List PtpMaster := []
  chosen : Option PtpMaster := none
  deriving DecidableEq, Repr

structure FrezenLink where
  links : Tab Link := {}
  partners : List Partner := []
  refusedIds : List Nat := []
  subs : List Sub := []
  heads : Tab Head := {}
  consist : Consist := {}
  ptp : Ptp := {}
  /-- The identity in effect, and a written one that waits for the frame boundary (R297). -/
  ident : Nat := 0
  /-- SQ_WIN_ or SQ_GRP_ changed since the heads were last sent their tables (R312). -/
  tablesDirty : Bool := false
  deriving DecidableEq, Repr

/-! ### Safety islands -/

/-- One safety channel, beyond its registers (chapter 13): when its commanded state last changed, whether the right feedback has
appeared since, since when it is wrong; members whose pin differs from its command; the causes of the last evaluation and what
they were for each island; a complete evaluation since STARTUP; ISLAND_FAIL or DEG_EXPIRED, which only a device reset clears (R339), 0
none; the DEGRADED timer; SEQ of its next ZONE_STATE. -/
structure SafeChan where
  changedAt : Nat := 0
  fbOk : Bool := false
  wrongAt : Option Nat := none
  rbA : Bool := false
  rbB : Bool := false
  causes : List Nat := []
  evaluated : Bool := false
  expired : Nat := 0
  degUntil : Option Nat := none
  degUsed : Bool := false
  seq : Nat := 0
  deriving DecidableEq, Repr

/-- What Shepherd, the tiles, the head links and the servo report of a frame's scan part (R332, R333): emitters' entries, blind channels, the
remote pixels that are not blind as (first, count), axes; with the SF_ values in effect at SCAN_END (R336). -/
structure FrameReport where
  frame : Nat
  reached : Tab Nat
  fired : Tab Nat
  chans : List Nat
  clear : List (Nat × Nat)
  axes : List Nat
  sf : Tab Score
  deriving DecidableEq, Repr

/-- An island's evaluation of one channel: whether it was in use in the frame, causes, violated zones and blind zones as bit masks. -/
structure ChanEval where
  on : Bool := false
  causes : List Nat := []
  viol : Nat := 0
  blind : Nat := 0
  deriving DecidableEq, Repr

/-- One island: its input queue (R496), the records it has taken of the running frame, newest first, from which its zone counts under the SF_
values of the frame's SCAN_END follow (R336), what it heard of the other island,
its SRST timers (R342), its copy of the SF_ values (R360). `eval` waits for the cross-check, `shown` is its evaluation of the last one. -/
structure SafeIsland where
  queue : List (List Score) := []
  recs : List (List Score) := []
  feedLoss : Bool := false
  lastMark : Option Nat := none
  markAt : Nat := 0
  missing : Bool := false
  intr : Tab Nat := {}
  pres : Tab Nat := {}
  reports : List FrameReport := []
  eval : Option (Nat × List ChanEval) := none
  shown : Nat × List ChanEval := (0, [])
  inFlight : Nat := 0
  lastBeat : Nat := 0
  intervals : List Nat := []
  selfTest : Option Nat := none
  wdHold : Bool := false
  fallAt : Option Nat := none
  riseAt : Option Nat := none
  edgeAt : Option Nat := none
  copy : Tab Score := {}
  deriving DecidableEq, Repr

/-- A receive slot (R355, R356); its STATE, REL, REMOTE_OK and LAST_ERR are registers. -/
structure FslRx where
  lastSeq : Option Nat := none
  ages : List Int := []
  okRun : Nat := 0
  badRun : Nat := 0
  since : Nat := 0
  deriving DecidableEq, Repr

/-- `chans`, `heads` and `axes` are what was blind or off track so far in the scan part;
`ref` the reference of the SF_ part (R423); `loaded` the SF_ values that the islands were last given; `pathFault` an ISLAND_STALL of Table 13.2; `stalls` the
handshakes that a waiting island has abandoned (R25), as (waiting, silent). -/
structure Safety where
  chan : Tab SafeChan := {}
  a : SafeIsland := {}
  b : SafeIsland := {}
  slots : Tab FslRx := {}
  chans : List Nat := []
  heads : List Nat := []
  axes : List Nat := []
  ref : Nat := 0
  loaded : Tab Score := {}
  pathFault : Bool := false
  stalls : List (Nat × Nat) := []
  deriving DecidableEq, Repr

/-! ### DMA and delivery -/

/-- A running transfer (R370): the channel fields as START took them, the source elements read, the part of COUNT left, source bits
that do not yet fill a score, the scores of a queue record not yet passed on and of the record in progress, per stream or plane the bits that do not yet fill an element and
the elements written, the scores of a record being filled for a FMT 0 queue, a copy in descending order (R374), a STOP that waits for
the end of the record in progress (R375). -/
structure DmaChan where
  cfg : Score
  src : Nat
  dst : Nat
  count : Nat
  stride : Nat
  n : Nat := 0
  left : Nat
  inBits : List Bool := []
  held : List Score := []
  rec_ : List Score := []
  out : Tab (List Bool) := {}
  wrote : Tab Nat := {}
  fill : List Score := []
  back : Bool := false
  stopping : Bool := false
  deriving DecidableEq, Repr

/-- The delivery queues, the channels that run, the part of the management SRAM that DMA reaches (byte addresses 0x10_0000 to
0x1F_FFFF), the channel granted last, the datagram numbers of the byte queues' consumers (R368). -/
structure Dma where
  queues : Tab DmQueue := {}
  chans : Tab (Option DmaChan) := {}
  sram : Tab (BitVec 8) := {}
  rr : Nat := 31
  dgSeq : Tab Nat := {}
  deriving DecidableEq, Repr

/-! ### Command interface -/

/-- A source of commands (R403): the service port, a Frezen Link partner by its identity, an IPv4 address and UDP port. -/
inductive CmdKey where
  | svc
  | partner (ident : Nat)
  | udp (ip port : Nat)
  deriving DecidableEq, Repr

/-- A command packet in the queue of its source (R403): its class (0 MAINT, 1 PEER, 2 BACKBONE, 3 HEAD), the port it arrived on, the instant
since which it waits (R384, R385, R405), whether the writes of a WRITE are on their way, whether BRACE has refused a waiting FW_STAGE (R438)
whose reply finds no room yet. -/
structure Cmd where
  id : Nat
  scores : List Score
  cls : Nat
  port : Source := .svc
  since : Option Nat := none
  posted : Bool := false
  barred : Bool := false
  deriving DecidableEq, Repr

structure CmdQueue where
  key : CmdKey
  cmds : List Cmd
  deriving DecidableEq, Repr

/-- A cached reply (R404). -/
structure CacheEntry where
  tag : Nat
  packet : List Score
  reply : List Score
  sentAt : Nat
  deriving DecidableEq, Repr

structure SrcCache where
  key : CmdKey
  entries : List CacheEntry
  deriving DecidableEq, Repr

/-- A MAINT session (R393): opened by RESPOND (1) or PASSWORD (2), until when. -/
structure Session where
  how : Nat
  ends : Nat
  deriving DecidableEq, Repr

/-- The command island: the queues of the sources; the reply caches, the source used last first; the replies and the EVENT packet that
wait at the service port with the number of EVENT packets formed for it; session; nonce with the end of its validity (R394). -/
structure Command where
  queues : List CmdQueue := []
  caches : List SrcCache := []
  nextId : Nat := 0
  replies : List (List Score) := []
  event : Option (List Score) := none
  evSeq : Nat := 0
  session : Option Session := none
  nonce : Option (Nat × Nat) := none
  deriving DecidableEq, Repr

/-! ### Configuration sets -/

/-- An accepted SWAP (R420): when its OK reply went, the frame it announced, the reference of the new SF_ part (R423). -/
structure SwapPending where
  at_ : Nat
  frame : Nat
  sfRef : Nat
  deriving DecidableEq, Repr

/-- The reference, the running CRC and SWAP (R420 to R431); flags, references and results are registers. `passDirty` tells that the active set
changed since `passStart`, `passOver` over which set the last completed pass ran (true for CFG_B). -/
structure CfgCtl where
  swap : Option SwapPending := none
  liveUntil : Nat := 0
  passDirty : Bool := false
  passStart : Nat := 0
  passOver : Option Bool := none
  deriving DecidableEq, Repr

/-- R420 step 5: the SWAP acts at the first frame boundary at least 100 µs after the OK reply. -/
def CfgCtl.swapDue (c : CfgCtl) (boundary : Nat) : Bool :=
  match c.swap with
  | some x => decide (x.at_ + 12800000 ≤ boundary)
  | none => false

/-! ### Power, reset and firmware -/

/-- The boot record of a slot (R446): state of Table 17.5, generation, image length, the image's security version, CRC-32C. -/
structure Slot where
  state : Nat := 0
  gen : BitVec 32 := 0
  length : Nat := 0
  version : Nat := 0
  crc : BitVec 32 := 0
  deriving DecidableEq, Repr

/-- The CRC-32C over a boot record. -/
def Slot.sum (x : Slot) : BitVec 32 := crc32c (Config.bootRecord x.state x.gen.toNat x.length x.version)

/-- A boot record as it is written. -/
def Slot.sealed (x : Slot) : Slot := { x with crc := x.sum }

/-- A stored password (R396): the salt and the digest over both. -/
structure Password where
  salt : List (BitVec 8)
  digest : BitVec 384
  deriving DecidableEq, Repr

/-- What a settings record holds (R453 to R455): the configuration set with its reference, the other fields, the password, the failure
count (R397). -/
inductive RecordContent where
  | sets (set : Tab Score) (ref : Option (BitVec 32))
  | fields (one : Tab Score)
  | password (p : Option Password)
  | failures (k : Nat)
  deriving DecidableEq, Repr

/-- A settings record (R453): type, format version, length, CRC-32C, content. -/
structure Record where
  type : Nat
  version : Nat
  length : Nat
  crc : BitVec 32
  content : RecordContent
  deriving DecidableEq, Repr

/-- A half of the settings area (Table 17.4): a set of records and its sequence number. -/
structure Half where
  seq : Nat
  records : List Record
  deriving DecidableEq, Repr

/-- The settings area of a flash: its halves, none where nothing whole was written; which half a rejected TRIAL image left behind (R454). -/
structure Halves where
  half0 : Option Half := none
  half1 : Option Half := none
  void : Option Bool := none
  deriving DecidableEq, Repr

/-- Settings as they are used: the content of a half's records and its sequence number. Records that were never saved hold the defaults,
which for PW_FLASH_TJ are EN 1, HI 95, LO 0. -/
structure Settings where
  set : Tab Score := {}
  one : Tab Score := { cells := [(0x20006, 0x8BE00)] }
  ref : Option (BitVec 32) := none
  password : Option Password := none
  fails : Nat := 0
  seq : Nat := 0
  deriving DecidableEq, Repr

/-- A write to flash that Afioham makes on its own (R456): a slot's boot record, the failure count, calibration values, migrated records. -/
inductive FlashWrite where
  | bootRecord (b : Bool) (x : Slot)
  | failures (k : Nat)
  | calibration (one : Tab Score)
  | migrated
  deriving DecidableEq, Repr

/-- Staging (R451): the slot (true for B), bytes placed in the buffer since FIRST, bytes programmed, those in the buffer, LAST received, the
boot record of the whole image on its way to flash. -/
structure Staging where
  slotB : Bool
  count : Nat := 0
  programmed : Nat := 0
  buffer : List (BitVec 8) := []
  last : Bool := false
  recorded : Bool := false
  deriving DecidableEq, Repr

/-- What holds the die in reset, or lets it run: RST_N low (R440) and since when; supplies not yet above their levels (R435, R436), the
rails not above warning plus hysteresis, the last rise of a rail through that level, and that of VDD_AON; the I/O classes latched (R435); the
self-tests of this boot passed (R452). -/
structure Gate where
  rstLow : Bool := false
  rstAt : Nat := 0
  supplyLow : Bool := false
  under : List Nat := []
  riseAt : Nat := 0
  aonAt : Nat := 0
  latched : Bool := false
  selfTest : Bool := false
  deriving DecidableEq, Repr

/-- What the always-on island, the fuses and the flashes hold, and what runs.
Always-on: the failure count and the end of its wait (R397), whether the failure count is known since power-on, the reset causes that
hold the die, BRACE with the first rail to cross, its record for the next boot (rail, minimum), the rails that crossed,
a STUCK_RESET or supply reset to report, whether the I/O classes are latched.
Fuses: field lock, device key, digest of the image key (R447), minimum security version, serial number, MAC address.
Flashes: boot records, images, settings with the half of a TRIAL image (R454), SFDP valid.
In SRAM: the settings as the image uses them, where it takes defaults for records that it does not know; the format versions that the image
knows (R454); the junction temperature that the boot last read (R448), none with a failed diode.
Running: the slot, when the die was released, when NODE_RDY_N was asserted, self-tests passed, end of the trial, REBOOT due,
the reports due after boot, deferred writes, a save in progress, staging, the clock at the last calibration save and the watchdog. -/
structure Power where
  gate : Gate := {}
  fails : Nat := 0
  waitUntil : Option Nat := none
  failsKnown : Bool := false
  brace : Bool := false
  braceRail : Option Nat := none
  braceRep : Option (Nat × Nat) := none
  crossed : List Nat := []
  supplyRep : Option Nat := none
  stuckRep : Option Nat := none
  lockFuse : Bool := false
  key : Nat := 0
  keyDigest : BitVec 384 := 0
  minVersion : Nat := 0
  serial : BitVec 32 := 0
  mac : BitVec 48 := 0
  slotA : Slot := Slot.sealed { state := 4, gen := 1 }
  slotB : Slot := {}
  imageA : List (BitVec 8) := []
  imageB : List (BitVec 8) := []
  setsA : Halves := {}
  setsB : Halves := {}
  trialHalf : Option Bool := none
  defaulted : Option Settings := none
  formats : RecordFormats := { sets := 0, fields := 0, password := 0, failures := 0 }
  tj : Option Int := none
  badA : Bool := false
  badB : Bool := false
  runB : Bool := false
  trial : Bool := false
  releasedAt : Nat := 0
  readyAt : Nat := 0
  trialEnd : Option Nat := none
  rebootAt : Option Nat := none
  due : List (Ev × Nat × Nat) := []
  deferred : List FlashWrite := []
  saving : Option Settings := none
  staging : Option Staging := none
  calSavedAt : Option Nat := none
  deriving DecidableEq, Repr

/-! ### Thermal -/

/-- A temperature domain (R460 to R463): 0 the die, 1 to 4 the external domains. Its step; since when the reading stays at or above
the limit (the instant of the last rise), since when it stays below limit minus HYST; failed; since when it reads plausibly again;
the last reading with its instant; of an external domain the converter channel it reads and the instant at which it was last evaluated. -/
structure ThDomain where
  step : Nat := 0
  roseAt : Option Nat := none
  belowAt : Option Nat := none
  failed : Bool := false
  okAt : Option Nat := none
  last : Option Int := none
  lastAt : Nat := 0
  chan : Option Nat := none
  evalAt : Nat := 0
  deriving DecidableEq, Repr

/-- A calibration result being applied (R472): the register's address (or the quantity's key, where no register exists), the channel
whose boundaries count (a converter channel plus 1,024), the value in use at acceptance, the new value, the boundaries passed. -/
structure Ramp where
  key : Nat
  chan : Nat
  v0 : Int
  v1 : Int
  j : Nat := 0
  deriving DecidableEq, Repr

/-- The calibration of a tile in progress (R469): the instant at which it stops, 5 µs before the first window that its tile may open, and the
range whose walk table it measures, one per visit. -/
structure CalRun where
  tile : Nat
  stopAt : Option Nat := none
  range : Option Nat := none
  deriving DecidableEq, Repr

/-- `domains` by number; since when the diode reads below 115 °C in shutdown (R466) and 2 °C inside the firing range (R467); `fireInh`
holds every pair until the shot-cycle end after the release (R467); the last plausible diode reading; the compensated quantities of
Table 18.4 in ppb, in the order of `compForms` (R468); calibration failures in a row and the last measurement by 64 × item + place, the items rejected in this
frame, the places whose calibration in progress has met BRACE (R438, R470): a tile, 64 + a pair, 128 + a head; the calibration of a tile in
progress and the tile from which the rotation goes on (R469); the calibrated quantities without a register by key, the ramps (R472),
and the TE_ registers that a host has written with the value used until the shot-cycle end. -/
structure Thermal where
  domains : Tab ThDomain := {}
  coolAt : Option Nat := none
  insideAt : Option Nat := none
  fireInh : Bool := false
  plausible : Int := 0
  comp : List Rat := []
  calBad : Tab Nat := {}
  calAt : Tab Nat := {}
  rejected : List Nat := []
  braceIn : List Nat := []
  cal : Option CalRun := none
  calNext : Nat := 0
  quant : Tab Int := {}
  ramps : List Ramp := []
  teWait : List OldValue := []
  deriving DecidableEq, Repr

/-! ### The device -/

/-- The state of the device. `pending` is the queue of waiting commands; `now` the instant in LSB since power-on, `nodeOfs` what PTP adds to it
for node time (R319); `tx` what has left the device; `freeCtr` counts the free values used (the model's own field). -/
structure State where
  pending : List Instr := []
  now : Nat := 0
  nodeOfs : Int := 0
  phase : Phase := .boot
  freeCtr : Nat := 0
  tx : List Tx := []
  regs : Regs := {}
  tl : TileBlock := {}
  sq : Shepherd := {}
  fd : Fold := {}
  ex : Extract := {}
  sv : Servo := {}
  ax : Converters := {}
  aq : Acquisition := {}
  il : Illuminators := {}
  ln : Tab LaneState := {}
  fl : FrezenLink := {}
  ev : Events := {}
  safe : Safety := {}
  dm : Dma := {}
  cm : Command := {}
  cf : CfgCtl := {}
  pw : Power := {}
  th : Thermal := {}
  deriving DecidableEq, Repr

/-- The reasons to stop with a fault: no command of the device has one. -/
inductive Fault where
  /-- Raised by no command: the spec gives every command an effect. Safe. -/
  | unused
  deriving DecidableEq, Repr

/-- The reasons to refuse a command. -/
inductive Refusal where
  /-- Raised by exec for a command without a meaning; every command has one. Safe. -/
  | notModelled (mnemonic : String)
  deriving DecidableEq, Repr

/-- The RO fields whose Reset column is not 0, by `Fld.key`: SYS_ID.STEP and PART, PW_RAIL_MIN, TH_TJ_MAX, SQ_PLAN_STAT.N, SF_CH_CAUSE.FIRST. -/
def resetFields : List (Nat × Nat) :=
  [(0, 2), (4, 0x5120)]
    ++ (List.range 16).map (fun i => (4195328 + 32 * i, 0xFFFFF))
    ++ [(4202592, 0x80000), (8389160, 1)]
    ++ (List.range 8).map (fun n => (16777802 + 512 * n, 1))

/-- The device as it leaves reset: every register at its Reset column, the boot ROM about to run the image of slot A. -/
def State.reset : State := { regs := { hw := ⟨resetFields⟩ } }

end Sys2Proof.Machine
end

