-- ==== Sys2Proof/Machine/RegMap.lean ====
section
/-!
DEFINITION. The register space (R407, R408): for every register of the maps its base address, its indexes (count, stride),
whether its RW fields exist once (R415) or in both sets (R414), the masks of its RW, W1C and WO bits, its RO and W1C
fields (low bit, width), and its Reset column. Flash and fuse fields stand at 0 (R16).
-/

namespace Sys2Proof.Machine

/-- The registers of block 0x0. -/
def Reg.block00 : List RegKind :=
  [ ⟨0x0, [], true, 0x0, 0x0, 0x0, [(4, 16), (0, 4)], 0x51202⟩,  -- SYS_ID
    ⟨0x1, [], true, 0x0, 0x0, 0x0, [(0, 12)], 0x0⟩,  -- SYS_SERIAL_H
    ⟨0x2, [], true, 0x0, 0x0, 0x0, [(0, 20)], 0x0⟩,  -- SYS_SERIAL_L
    ⟨0x3, [], true, 0x0, 0x0, 0x0, [(12, 8), (4, 8), (0, 4)], 0x0⟩,  -- SYS_FW_VER
    ⟨0x4, [], true, 0x0, 0x0, 0x0, [(0, 20)], 0x0⟩,  -- SYS_FW_BUILD
    ⟨0x5, [], true, 0x0, 0x0, 0x0, [(1, 1), (0, 1)], 0x0⟩,  -- SYS_BOOT
    ⟨0x6, [], true, 0x0, 0x0, 0x0, [(0, 12)], 0x0⟩,  -- SYS_UPTIME_H
    ⟨0x7, [], true, 0x0, 0x0, 0x0, [(0, 20)], 0x0⟩,  -- SYS_UPTIME_L
    ⟨0x8, [], true, 0xfffff, 0x0, 0x0, [], 0x0⟩]  -- SYS_SCRATCH

/-- The registers of block 0x1. -/
def Reg.block01 : List RegKind :=
  [ ⟨0x10000, [], true, 0x0, 0x0, 0x0, [(12, 3), (8, 4), (4, 4), (0, 4)], 0x0⟩,  -- CM_BUSY
    ⟨0x10001, [], true, 0x0, 0x0, 0x0, [(5, 1), (4, 1), (2, 2), (1, 1), (0, 1)], 0x0⟩,  -- CM_STAT
    ⟨0x10002, [], true, 0x0, 0x0, 0x0, [(0, 12)], 0x0⟩,  -- CM_SESS_LEFT
    ⟨0x10003, [], true, 0x0, 0x0, 0x0, [(0, 20)], 0x0⟩,  -- CM_AUTH_FAIL
    ⟨0x10004, [], true, 0x0, 0x0, 0x0, [(0, 12)], 0x0⟩,  -- CM_AUTH_WAIT
    ⟨0x10005, [], true, 0x1ffff, 0x0, 0x20000, [], 0x1ffff⟩,  -- CM_CFG
    ⟨0x10010, [], true, 0x0, 0x0, 0x0, [(0, 20)], 0x0⟩,  -- CM_CNT_MAINT
    ⟨0x10011, [], true, 0x0, 0x0, 0x0, [(0, 20)], 0x0⟩,  -- CM_CNT_PEER
    ⟨0x10012, [], true, 0x0, 0x0, 0x0, [(0, 20)], 0x0⟩,  -- CM_CNT_BACKBONE
    ⟨0x10013, [], true, 0x0, 0x0, 0x0, [(0, 20)], 0x0⟩,  -- CM_CNT_HEAD
    ⟨0x10014, [], true, 0x0, 0x0, 0x0, [(0, 20)], 0x0⟩,  -- CM_REFUSE
    ⟨0x10015, [], true, 0x0, 0x0, 0x0, [(0, 20)], 0x0⟩,  -- CM_DENIED
    ⟨0x10016, [], true, 0x0, 0x0, 0x0, [(0, 20)], 0x0⟩,  -- CM_REPLAY
    ⟨0x10017, [], true, 0x0, 0x0, 0x0, [(0, 20)], 0x0⟩,  -- CM_FMT_ERR
    ⟨0x10018, [], true, 0x0, 0x0, 0x0, [(0, 20)], 0x0⟩,  -- CM_OVERLOAD
    ⟨0x10020, [], true, 0x0, 0x0, 0x0, [(12, 8), (4, 8), (0, 2)], 0x0⟩,  -- CM_LAST
    ⟨0x10100, [], false, 0x3fff, 0x0, 0x0, [], 0x190⟩,  -- CF_FRAME_PER
    ⟨0x10101, [], false, 0xfffff, 0x0, 0x0, [], 0x7d0⟩,  -- CF_GAP
    ⟨0x10110, [], true, 0x0, 0xe00, 0x0, [(11, 1), (10, 1), (9, 1), (8, 1), (7, 1), (6, 1), (5, 1), (4, 1), (3, 1), (2, 1), (0, 1)], 0x0⟩,  -- CF_STAT
    ⟨0x10111, [], true, 0x7fff, 0x0, 0x8000, [], 0x47d0⟩,  -- CF_CRC_CFG
    ⟨0x10112, [], true, 0x0, 0x0, 0x0, [(15, 1), (0, 15)], 0x0⟩,  -- CF_APPLY
    ⟨0x10114, [], true, 0x0, 0x0, 0x0, [(0, 12)], 0x0⟩,  -- CF_REF_A_H
    ⟨0x10115, [], true, 0x0, 0x0, 0x0, [(0, 20)], 0x0⟩,  -- CF_REF_A_L
    ⟨0x10116, [], true, 0x0, 0x0, 0x0, [(0, 12)], 0x0⟩,  -- CF_REF_B_H
    ⟨0x10117, [], true, 0x0, 0x0, 0x0, [(0, 20)], 0x0⟩,  -- CF_REF_B_L
    ⟨0x10118, [], true, 0x0, 0x0, 0x0, [(0, 12)], 0x0⟩,  -- CF_CRC_H
    ⟨0x10119, [], true, 0x0, 0x0, 0x0, [(0, 20)], 0x0⟩,  -- CF_CRC_L
    ⟨0x1011a, [], true, 0x0, 0x0, 0x0, [(0, 20)], 0x0⟩,  -- CF_SWAP_FRAME
    ⟨0x1011b, [], true, 0x0, 0x0, 0x0, [(15, 5), (0, 15)], 0x0⟩,  -- CF_REJECT
    ⟨0x1011c, [], true, 0x0, 0x0, 0x0, [(0, 4)], 0x0⟩,  -- CF_REJECT_ADDR_H
    ⟨0x1011d, [], true, 0x0, 0x0, 0x0, [(0, 20)], 0x0⟩,  -- CF_REJECT_ADDR_L
    ⟨0x10120, [], true, 0x0, 0x0, 0x0, [(0, 20)], 0x0⟩,  -- CF_PASS_CNT
    ⟨0x10121, [], true, 0x0, 0x0, 0x0, [(0, 20)], 0x0⟩,  -- CF_MISMATCH_CNT
    ⟨0x10122, [], true, 0x0, 0x0, 0x0, [(0, 20)], 0x0⟩,  -- CF_SWAP_CNT
    ⟨0x10123, [], true, 0x0, 0x0, 0x0, [(0, 20)], 0x0⟩,  -- CF_LIVE_DISC
    ⟨0x10124, [], true, 0x0, 0x0, 0x0, [(0, 20)], 0x0⟩]  -- CF_LIVE_ERR

/-- The registers of block 0x2. -/
def Reg.block02 : List RegKind :=
  [ ⟨0x20000, [], true, 0x0, 0x0, 0x1, [], 0x0⟩,  -- PW_CFG
    ⟨0x20001, [], true, 0x0, 0xf2, 0x0, [(7, 1), (6, 1), (5, 1), (4, 1), (3, 1), (2, 1), (1, 1), (0, 1)], 0x0⟩,  -- PW_STAT
    ⟨0x20002, [], true, 0x0, 0x0, 0x0, [(4, 4), (0, 4)], 0x0⟩,  -- PW_RST_CAUSE
    ⟨0x20003, [], true, 0x0, 0x0, 0x0, [(0, 20)], 0x0⟩,  -- PW_RST_HOLD
    ⟨0x20004, [], true, 0x0, 0x0, 0x0, [(0, 16)], 0x0⟩,  -- PW_RAIL_STAT
    ⟨0x20005, [], true, 0x0, 0x0, 0x0, [(0, 8)], 0x0⟩,  -- PW_IO_STAT
    ⟨0x20006, [], true, 0xbffff, 0x0, 0x0, [], 0x0⟩,  -- PW_FLASH_TJ
    ⟨0x20007, [], true, 0x0, 0x0, 0x1, [], 0x0⟩,  -- PW_SAVE
    ⟨0x20008, [], true, 0x0, 0x0, 0x0, [(17, 3), (14, 3), (13, 1), (12, 1), (0, 10)], 0x0⟩,  -- PW_FW_STAT
    ⟨0x20010, [], true, 0x0, 0x0, 0x0, [(0, 20)], 0x0⟩,  -- PW_BRACE_CNT
    ⟨0x20011, [], true, 0x0, 0x0, 0x0, [(0, 20)], 0x0⟩,  -- PW_SUPPLY_CNT
    ⟨0x20012, [], true, 0x0, 0x0, 0x0, [(0, 20)], 0x0⟩,  -- PW_PIN_CNT
    ⟨0x20013, [], true, 0x0, 0x0, 0x0, [(0, 20)], 0x0⟩,  -- PW_DEFER_CNT
    ⟨0x20020, [(16, 0x1)], true, 0x0, 0x0, 0x0, [(0, 20)], 0xfffff⟩,  -- PW_RAIL_MIN
    ⟨0x20100, [], false, 0x7, 0x0, 0x8, [], 0x6⟩,  -- TH_CFG
    ⟨0x20101, [], false, 0x0, 0x7, 0x0, [(11, 4), (10, 1), (9, 1), (8, 1), (7, 1), (5, 2), (3, 2), (2, 1), (1, 1), (0, 1)], 0x0⟩,  -- TH_STAT
    ⟨0x20102, [], false, 0x0, 0x0, 0x0, [(0, 20)], 0x0⟩,  -- TH_TJ
    ⟨0x20103, [], false, 0x0, 0x0, 0x0, [(0, 20)], 0x80000⟩,  -- TH_TJ_MAX
    ⟨0x20104, [], false, 0x3ffff, 0x0, 0x0, [], 0xd26e⟩,  -- TH_LIM
    ⟨0x20105, [], false, 0x3ffff, 0x0, 0x0, [], 0xddd8⟩,  -- TH_FIRE_TJ
    ⟨0x20106, [], false, 0xffc1f, 0x0, 0x0, [], 0x5005⟩,  -- TH_RATE
    ⟨0x20108, [(4, 0x1)], false, 0x3f, 0x0, 0x0, [], 0x0⟩,  -- TH_EXT_CFG
    ⟨0x2010c, [(4, 0x1)], false, 0xfffff, 0x0, 0x0, [], 0x14000⟩,  -- TH_EXT_LIM
    ⟨0x20110, [], false, 0x3f1f, 0x0, 0x0, [], 0xa1f⟩,  -- TH_CAL_CFG
    ⟨0x20111, [], false, 0xfffff, 0x0, 0x0, [], 0x10420⟩,  -- TH_CAL_LIM
    ⟨0x20112, [], false, 0x0, 0x0, 0x0, [(7, 1), (0, 6)], 0x0⟩,  -- TH_CAL_STAT
    ⟨0x20120, [], false, 0x0, 0x0, 0x0, [(0, 20)], 0x0⟩,  -- TH_STEP_CNT
    ⟨0x20121, [], false, 0x0, 0x0, 0x0, [(0, 20)], 0x0⟩,  -- TH_SKIP_CNT
    ⟨0x20122, [], false, 0x0, 0x0, 0x0, [(0, 20)], 0x0⟩,  -- TH_SENS_FAIL
    ⟨0x20123, [], false, 0x0, 0x0, 0x0, [(0, 20)], 0x0⟩,  -- TH_FIRE_INH_CNT
    ⟨0x20124, [], false, 0x0, 0x0, 0x0, [(0, 20)], 0x0⟩,  -- TH_SHUT_CNT
    ⟨0x20125, [], false, 0x0, 0x0, 0x0, [(0, 20)], 0x0⟩,  -- TH_CAL_RUN
    ⟨0x20126, [], false, 0x0, 0x0, 0x0, [(0, 20)], 0x0⟩,  -- TH_CAL_FAIL
    ⟨0x20127, [], false, 0x0, 0x0, 0x0, [(0, 20)], 0x0⟩]  -- TH_CAL_LATE

/-- The registers of block 0x4. -/
def Reg.block04 : List RegKind :=
  [ ⟨0x40000, [], false, 0x1e, 0x0, 0x20, [], 0x0⟩,  -- SQ_CFG
    ⟨0x40001, [], false, 0x0, 0x30, 0x0, [(5, 1), (4, 1), (3, 1), (2, 1), (1, 1)], 0x0⟩,  -- SQ_STAT
    ⟨0x40002, [], false, 0x1fff, 0x0, 0x0, [], 0x0⟩,  -- SQ_ENTRIES
    ⟨0x40003, [], false, 0x7ff, 0x0, 0x0, [], 0x0⟩,  -- SQ_CYC_LEN_H
    ⟨0x40004, [], false, 0xfffff, 0x0, 0x0, [], 0x500⟩,  -- SQ_CYC_LEN_L
    ⟨0x40005, [], false, 0x0, 0x0, 0x0, [(0, 20)], 0x0⟩,  -- SQ_SEQ
    ⟨0x40006, [], false, 0x0, 0x0, 0x0, [(0, 16)], 0xffff⟩,  -- SQ_FIRE_STAT
    ⟨0x40008, [], false, 0x0, 0x0, 0x0, [(0, 20)], 0x0⟩,  -- SQ_ENTRY_ERR
    ⟨0x40009, [], false, 0x0, 0x0, 0x0, [(0, 20)], 0x0⟩,  -- SQ_WIN_CLASH
    ⟨0x4000a, [], false, 0x0, 0x0, 0x0, [(0, 20)], 0x0⟩,  -- SQ_START_DROP
    ⟨0x4000b, [], false, 0x0, 0x0, 0x0, [(0, 20)], 0x0⟩,  -- SQ_SKIP_SERVO
    ⟨0x4000c, [], false, 0x0, 0x0, 0x0, [(0, 20)], 0x0⟩,  -- SQ_SCAN_DROP
    ⟨0x40010, [], false, 0x3fff, 0x0, 0x0, [], 0x280⟩,  -- SQ_PLAN_CFG
    ⟨0x40011, [], false, 0x0, 0x0, 0x0, [(16, 4), (8, 8), (0, 2)], 0x100⟩,  -- SQ_PLAN_STAT
    ⟨0x40012, [], false, 0x0, 0x0, 0x0, [(0, 14)], 0x0⟩,  -- SQ_PLAN_OFS
    ⟨0x40013, [], false, 0x0, 0x0, 0x0, [(0, 16)], 0x0⟩,  -- SQ_PLAN_DIGEST_H
    ⟨0x40014, [], false, 0x0, 0x0, 0x0, [(0, 16)], 0x0⟩,  -- SQ_PLAN_DIGEST_L
    ⟨0x40020, [(4, 0x1)], false, 0x1fff, 0x0, 0x0, [], 0x8⟩,  -- SQ_TRJ_CFG
    ⟨0x40100, [(64, 0x2)], false, 0x3fff, 0x0, 0x0, [], 0x0⟩,  -- SQ_WIN_OFS
    ⟨0x40101, [(64, 0x2)], false, 0x3fff, 0x0, 0x0, [], 0x500⟩,  -- SQ_WIN_LEN
    ⟨0x40200, [(16, 0x8)], false, 0x7f, 0x0, 0x0, [], 0x10⟩,  -- SQ_EMIT_CFG
    ⟨0x40201, [(16, 0x8)], false, 0xfff, 0x0, 0x0, [], 0x0⟩,  -- SQ_EMIT_E
    ⟨0x40202, [(16, 0x8)], false, 0xfffff, 0x0, 0x0, [], 0x0⟩,  -- SQ_GOV_B100
    ⟨0x40203, [(16, 0x8)], false, 0xfffff, 0x0, 0x0, [], 0x0⟩,  -- SQ_GOV_B10M
    ⟨0x40204, [(16, 0x8)], false, 0xfffff, 0x0, 0x0, [], 0x0⟩,  -- SQ_GOV_B1S
    ⟨0x40205, [(16, 0x8)], false, 0x0, 0x0, 0x0, [(0, 20)], 0x0⟩,  -- SQ_GOV_SKIP
    ⟨0x40206, [(16, 0x8)], false, 0x0, 0x0, 0x0, [(0, 20)], 0x0⟩,  -- SQ_GOV_L100
    ⟨0x42000, [(1024, 0x8), (4, 0x2)], false, 0x7fff, 0x0, 0x0, [], 0x0⟩,  -- SQ_GRP_FIRST
    ⟨0x42001, [(1024, 0x8), (4, 0x2)], false, 0x7fff, 0x0, 0x0, [], 0x0⟩,  -- SQ_GRP_COUNT
    ⟨0x44000, [(4096, 0x4)], false, 0xffbff, 0x0, 0x0, [], 0x0⟩,  -- SQ_SHOT_S0
    ⟨0x44001, [(4096, 0x4)], false, 0xfc7ff, 0x0, 0x0, [], 0x0⟩,  -- SQ_SHOT_S1
    ⟨0x44002, [(4096, 0x4)], false, 0xfffff, 0x0, 0x0, [], 0x0⟩,  -- SQ_SHOT_S2
    ⟨0x44003, [(4096, 0x4)], false, 0x0, 0x0, 0x0, [], 0x0⟩,  -- SQ_SHOT_S3
    ⟨0x48000, [(4, 0x800), (1024, 0x2)], false, 0xfffff, 0x0, 0x0, [], 0x0⟩,  -- SQ_TRJ_POS
    ⟨0x48001, [(4, 0x800), (1024, 0x2)], false, 0xfffff, 0x0, 0x0, [], 0x0⟩]  -- SQ_TRJ_ACC

/-- The registers of block 0x5, part 1. -/
def Reg.block05_0 : List RegKind :=
  [ ⟨0x50000, [(4, 0x40)], false, 0x1ff3, 0x0, 0x0, [], 0x0⟩,  -- SV_AX_CFG
    ⟨0x50001, [(4, 0x40)], false, 0x0, 0x3c00, 0x0, [(14, 2), (13, 1), (12, 1), (11, 1), (10, 1), (9, 1), (8, 1), (7, 1), (6, 1), (5, 1), (4, 1), (0, 3)], 0x0⟩,  -- SV_AX_STAT
    ⟨0x50002, [(4, 0x40)], false, 0xfffff, 0x0, 0x0, [], 0x0⟩,  -- SV_SETPT
    ⟨0x50003, [(4, 0x40)], false, 0xfffff, 0x0, 0x0, [], 0x0⟩,  -- SV_KP
    ⟨0x50004, [(4, 0x40)], false, 0xfffff, 0x0, 0x0, [], 0x0⟩,  -- SV_KI
    ⟨0x50005, [(4, 0x40)], false, 0xfffff, 0x0, 0x0, [], 0x0⟩,  -- SV_KD
    ⟨0x50006, [(4, 0x40)], false, 0xfffff, 0x0, 0x0, [], 0x0⟩,  -- SV_KA
    ⟨0x50007, [(4, 0x40)], false, 0xfffff, 0x0, 0x0, [], 0x0⟩,  -- SV_I_LIM
    ⟨0x50008, [(4, 0x40)], false, 0xfffff, 0x0, 0x0, [], 0x0⟩,  -- SV_OUT_LIM
    ⟨0x50009, [(4, 0x40)], false, 0xfffff, 0x0, 0x0, [], 0x1000⟩,  -- SV_SLEW_LIM
    ⟨0x5000a, [(4, 0x40)], false, 0xfffff, 0x0, 0x0, [], 0x200⟩,  -- SV_FORCE_SLEW
    ⟨0x5000b, [(4, 0x40)], false, 0xfffff, 0x0, 0x0, [], 0x800⟩,  -- SV_ERR_LIM
    ⟨0x5000c, [(4, 0x40)], false, 0xfffff, 0x0, 0x0, [], 0x800⟩,  -- SV_HANDOVER_LIM
    ⟨0x5000d, [(4, 0x40)], false, 0xfffff, 0x0, 0x0, [], 0x0⟩,  -- SV_ACQ_AMP
    ⟨0x5000e, [(4, 0x40)], false, 0xfffff, 0x0, 0x0, [], 0x3e808⟩,  -- SV_ACQ_CFG
    ⟨0x5000f, [(4, 0x40)], false, 0xffff, 0x0, 0x0, [], 0x64⟩,  -- SV_FLY_LEN
    ⟨0x50010, [(4, 0x40)], false, 0xfffff, 0x0, 0x0, [], 0x0⟩,  -- SV_F0_B0
    ⟨0x50011, [(4, 0x40)], false, 0xfffff, 0x0, 0x0, [], 0x0⟩,  -- SV_F0_B1
    ⟨0x50012, [(4, 0x40)], false, 0xfffff, 0x0, 0x0, [], 0x0⟩,  -- SV_F0_B2
    ⟨0x50013, [(4, 0x40)], false, 0xfffff, 0x0, 0x0, [], 0x0⟩,  -- SV_F0_A1
    ⟨0x50014, [(4, 0x40)], false, 0xfffff, 0x0, 0x0, [], 0x0⟩,  -- SV_F0_A2
    ⟨0x50018, [(4, 0x40)], false, 0xfffff, 0x0, 0x0, [], 0x0⟩,  -- SV_F1_B0
    ⟨0x50019, [(4, 0x40)], false, 0xfffff, 0x0, 0x0, [], 0x0⟩,  -- SV_F1_B1
    ⟨0x5001a, [(4, 0x40)], false, 0xfffff, 0x0, 0x0, [], 0x0⟩,  -- SV_F1_B2
    ⟨0x5001b, [(4, 0x40)], false, 0xfffff, 0x0, 0x0, [], 0x0⟩,  -- SV_F1_A1
    ⟨0x5001c, [(4, 0x40)], false, 0xfffff, 0x0, 0x0, [], 0x0⟩,  -- SV_F1_A2
    ⟨0x50020, [(4, 0x40)], false, 0xfffff, 0x0, 0x0, [], 0x1000⟩,  -- SV_OSC_AMP
    ⟨0x50021, [(4, 0x40)], false, 0xfffff, 0x0, 0x0, [], 0xc808⟩,  -- SV_OSC_CFG
    ⟨0x50024, [(4, 0x40)], false, 0xe, 0x0, 0x30, [], 0x0⟩,  -- SV_INJ_CFG
    ⟨0x50025, [(4, 0x40)], false, 0xfffff, 0x0, 0x0, [], 0x0⟩,  -- SV_INJ_AMP
    ⟨0x50026, [(4, 0x40)], false, 0xfffff, 0x0, 0x0, [], 0x0⟩,  -- SV_INJ_FREQ
    ⟨0x50027, [(4, 0x40)], false, 0xfffff, 0x0, 0x0, [], 0x0⟩,  -- SV_INJ_LEN
    ⟨0x50028, [(4, 0x40)], false, 0xfffff, 0x0, 0x0, [], 0x0⟩,  -- SV_OPEN_OUT
    ⟨0x50030, [(4, 0x40)], false, 0x0, 0x0, 0x0, [(0, 20)], 0x0⟩,  -- SV_POS
    ⟨0x50031, [(4, 0x40)], false, 0x0, 0x0, 0x0, [(0, 20)], 0x0⟩,  -- SV_ERR
    ⟨0x50032, [(4, 0x40)], false, 0x0, 0x0, 0x0, [(0, 20)], 0x0⟩,  -- SV_OUT
    ⟨0x50033, [(4, 0x40)], false, 0x0, 0x0, 0x0, [(0, 20)], 0x0⟩,  -- SV_I
    ⟨0x50034, [(4, 0x40)], false, 0x0, 0x0, 0x0, [(0, 20)], 0x0⟩,  -- SV_HOLD_CNT
    ⟨0x50035, [(4, 0x40)], false, 0x0, 0x0, 0x0, [(0, 20)], 0x0⟩,  -- SV_ERR_CNT
    ⟨0x50036, [(4, 0x40)], false, 0x0, 0x0, 0x0, [(0, 20)], 0x0⟩]  -- SV_OSC_CNT

/-- The registers of block 0x5, part 2. -/
def Reg.block05_1 : List RegKind :=
  [ ⟨0x50037, [(4, 0x40)], false, 0x0, 0x0, 0x0, [(0, 20)], 0x0⟩,  -- SV_FORCE_CNT
    ⟨0x50100, [], true, 0x0, 0x0, 0x1, [], 0x0⟩]  -- SV_CFG

/-- The registers of block 0x5. -/
def Reg.block05 : List RegKind := Reg.block05_0 ++ Reg.block05_1

/-- The registers of block 0x6. -/
def Reg.block06 : List RegKind :=
  [ ⟨0x60000, [], true, 0x4, 0x0, 0x3, [], 0x0⟩,  -- AX_CFG
    ⟨0x60001, [], false, 0x0, 0x7, 0x0, [(2, 1), (1, 1), (0, 1)], 0x0⟩,  -- AX_DEV_STAT
    ⟨0x60008, [(4, 0x1)], false, 0xff, 0x0, 0x0, [], 0x0⟩,  -- AX_IEX
    ⟨0x6000c, [(2, 0x1)], false, 0xfff, 0x0, 0x0, [], 0x0⟩,  -- AX_VEX
    ⟨0x6000e, [], false, 0x1, 0x0, 0x0, [], 0x0⟩,  -- AX_BIAS
    ⟨0x6000f, [], false, 0x1fff, 0x0, 0x0, [], 0x0⟩,  -- AX_TDAC
    ⟨0x60010, [(4, 0x1)], false, 0x3fff, 0x0, 0x0, [], 0xa10⟩,  -- AX_PAIR_CFG
    ⟨0x60014, [(4, 0x1)], false, 0x0, 0x6, 0x0, [(3, 3), (2, 1), (1, 1), (0, 1)], 0x0⟩,  -- AX_PAIR_STAT
    ⟨0x60020, [(32, 0x1)], false, 0x1f, 0x0, 0x0, [], 0x0⟩,  -- AX_PIN_CFG
    ⟨0x60040, [(4, 0x8), (8, 0x1)], false, 0x1f, 0x0, 0x0, [], 0x0⟩,  -- AX_SLOT
    ⟨0x60100, [(32, 0x40)], false, 0x3f, 0x0, 0x0, [], 0x0⟩,  -- AX_CH_CFG
    ⟨0x60101, [(32, 0x40)], false, 0xffff, 0x0, 0x0, [], 0x0⟩,  -- AX_CH_SEL
    ⟨0x60102, [(32, 0x40)], false, 0x0, 0x7f, 0x0, [(11, 4), (10, 1), (9, 1), (8, 1), (7, 1), (6, 1), (5, 1), (4, 1), (3, 1), (2, 1), (1, 1), (0, 1)], 0x0⟩,  -- AX_STAT
    ⟨0x60103, [(32, 0x40)], false, 0x0, 0x0, 0x0, [(0, 20)], 0x0⟩,  -- AX_VAL
    ⟨0x60104, [(32, 0x40)], false, 0x0, 0x0, 0x0, [(0, 20)], 0x0⟩,  -- AX_VSTAT
    ⟨0x60105, [(32, 0x40)], false, 0xfffff, 0x0, 0x0, [], 0x40400⟩,  -- AX_PLAUS_LIM
    ⟨0x60106, [(32, 0x40)], false, 0xfffff, 0x0, 0x0, [], 0xa00⟩,  -- AX_ZCHK
    ⟨0x60107, [(32, 0x40)], false, 0xfffff, 0x0, 0x0, [], 0x30d40⟩,  -- AX_ZMAX
    ⟨0x60108, [(32, 0x40)], false, 0x0, 0x0, 0x0, [(0, 20)], 0x0⟩,  -- AX_Z
    ⟨0x60109, [(32, 0x40)], false, 0x8001f, 0x0, 0x0, [], 0xc⟩,  -- AX_DCB
    ⟨0x6010a, [(32, 0x40)], false, 0x7ff, 0x0, 0x0, [], 0x40⟩,  -- AX_LIN_CFG
    ⟨0x6010b, [(32, 0x40)], false, 0x0, 0x0, 0x0, [(0, 20)], 0x0⟩,  -- AX_OVR_CNT
    ⟨0x6010c, [(32, 0x40)], false, 0x0, 0x0, 0x0, [(0, 20)], 0x0⟩,  -- AX_PLAUS_CNT
    ⟨0x6010d, [(32, 0x40)], false, 0x0, 0x0, 0x0, [(0, 20)], 0x0⟩,  -- AX_UNSET_CNT
    ⟨0x60110, [(32, 0x40), (4, 0x2)], false, 0xfffff, 0x0, 0x0, [], 0x0⟩,  -- AX_THR_LVL
    ⟨0x60111, [(32, 0x40), (4, 0x2)], false, 0xfffff, 0x0, 0x0, [], 0x0⟩,  -- AX_THR_CFG
    ⟨0x60120, [(32, 0x40), (6, 0x4), (4, 0x1)], false, 0xfffff, 0x0, 0x0, [], 0x0⟩,  -- AX_LIN_C
    ⟨0x61000, [(4, 0x40), (64, 0x1)], true, 0xfffff, 0x0, 0x0, [], 0x0⟩]  -- AX_FIR

/-- The registers of block 0x7. -/
def Reg.block07 : List RegKind :=
  [ ⟨0x70000, [], true, 0x0, 0x0, 0x1, [], 0x0⟩,  -- IL_CFG
    ⟨0x70001, [], false, 0x0, 0x0, 0x0, [(0, 4)], 0x0⟩,  -- IL_STAT
    ⟨0x70004, [(4, 0x1)], true, 0x1ff, 0x0, 0x0, [], 0x1⟩,  -- IL_CSYNC_CFG
    ⟨0x70010, [(4, 0x4)], false, 0x1fff, 0x0, 0x0, [], 0x1000⟩,  -- IL_DRT_SRC
    ⟨0x70011, [(4, 0x4)], false, 0xfffff, 0x0, 0x0, [], 0x11800⟩,  -- IL_DRT_T0
    ⟨0x70012, [(4, 0x4)], false, 0xfffff, 0x0, 0x0, [], 0x16800⟩,  -- IL_DRT_T1
    ⟨0x70100, [(24, 0x10)], false, 0x3fd, 0x0, 0x400, [], 0x0⟩,  -- IL_CH_CFG
    ⟨0x70101, [(24, 0x10)], false, 0xfff, 0x0, 0x0, [], 0x0⟩,  -- IL_CH_LVL
    ⟨0x70102, [(24, 0x10)], false, 0xffff, 0x0, 0x0, [], 0x0⟩,  -- IL_CH_FADE
    ⟨0x70103, [(24, 0x10)], false, 0xfffff, 0x0, 0x0, [], 0xfa032⟩,  -- IL_CH_SNS
    ⟨0x70104, [(24, 0x10)], false, 0x0, 0x4, 0x0, [(5, 1), (4, 1), (3, 1), (2, 1), (1, 1), (0, 1)], 0x0⟩,  -- IL_CH_STAT
    ⟨0x70105, [(24, 0x10)], false, 0x0, 0x0, 0x0, [(0, 12)], 0x0⟩,  -- IL_CH_NOW
    ⟨0x70106, [(24, 0x10)], false, 0x0, 0x0, 0x0, [(0, 11)], 0x0⟩,  -- IL_CH_SENSE
    ⟨0x70107, [(24, 0x10)], false, 0x0, 0x0, 0x0, [(0, 20)], 0x0⟩]  -- IL_CH_FLT_CNT

/-- The registers of block 0x8. -/
def Reg.block08 : List RegKind :=
  [ ⟨0x80000, [], false, 0x1, 0x0, 0x0, [], 0x1⟩,  -- SF_CFG
    ⟨0x80001, [], false, 0x0, 0x0, 0x0, [(9, 1), (8, 1), (4, 4), (0, 4)], 0x0⟩,  -- SF_STAT
    ⟨0x80002, [], false, 0x0, 0x0, 0x0, [(0, 20)], 0x0⟩,  -- SF_FSL_UNK
    ⟨0x80010, [(8, 0x10)], false, 0x1fffd, 0x0, 0x0, [], 0x6014⟩,  -- SF_CH_CFG
    ⟨0x80011, [(8, 0x10)], false, 0x0, 0x0, 0x0, [(10, 7), (9, 1), (8, 1), (7, 1), (6, 1), (5, 1), (0, 3)], 0x0⟩,  -- SF_CH_STAT
    ⟨0x80012, [(8, 0x10)], false, 0x0, 0x0, 0x0, [(10, 5), (5, 5)], 0x400⟩,  -- SF_CH_CAUSE
    ⟨0x80013, [(8, 0x10)], false, 0xff, 0x0, 0x0, [], 0x1e⟩,  -- SF_FB_TIME
    ⟨0x80014, [(8, 0x10)], false, 0x7f, 0x0, 0x0, [], 0x3c⟩,  -- SF_DEG_TIME
    ⟨0x80015, [(8, 0x10)], false, 0xffff, 0x0, 0x0, [], 0x0⟩,  -- SF_EMASK
    ⟨0x80016, [(8, 0x10)], false, 0xff, 0x0, 0x0, [], 0x0⟩,  -- SF_CH_FOLLOW
    ⟨0x80017, [(8, 0x10)], false, 0x0, 0x0, 0x0, [(0, 12)], 0x0⟩,  -- SF_VIOL_H
    ⟨0x80018, [(8, 0x10)], false, 0x0, 0x0, 0x0, [(0, 20)], 0x0⟩,  -- SF_VIOL_L
    ⟨0x80019, [(8, 0x10)], false, 0x0, 0x0, 0x0, [(0, 20)], 0x0⟩,  -- SF_TRIP_CNT
    ⟨0x8001a, [(8, 0x10)], false, 0xfff, 0x0, 0x0, [], 0x0⟩,  -- SF_TX_KEY_H
    ⟨0x8001b, [(8, 0x10)], false, 0xfffff, 0x0, 0x0, [], 0x0⟩,  -- SF_TX_KEY_L
    ⟨0x80100, [(8, 0x100), (32, 0x8)], false, 0xfc0ff, 0x0, 0x0, [], 0x24001⟩,  -- SF_ZN_CFG
    ⟨0x80101, [(8, 0x100), (32, 0x8)], false, 0x7fff, 0x0, 0x0, [], 0x0⟩,  -- SF_ZN_PFIRST
    ⟨0x80102, [(8, 0x100), (32, 0x8)], false, 0x7fff, 0x0, 0x0, [], 0x0⟩,  -- SF_ZN_PCOUNT
    ⟨0x80103, [(8, 0x100), (32, 0x8)], false, 0xfffff, 0x0, 0x0, [], 0x0⟩,  -- SF_ZN_RNEAR
    ⟨0x80104, [(8, 0x100), (32, 0x8)], false, 0xfffff, 0x0, 0x0, [], 0x0⟩,  -- SF_ZN_RFAR
    ⟨0x80a00, [(8, 0x10)], false, 0xffff8, 0x0, 0x0, [], 0xa40⟩,  -- SF_RX_CFG
    ⟨0x80a01, [(8, 0x10)], false, 0xfff, 0x0, 0x0, [], 0x0⟩,  -- SF_RX_ID_H
    ⟨0x80a02, [(8, 0x10)], false, 0xfffff, 0x0, 0x0, [], 0x0⟩,  -- SF_RX_ID_L
    ⟨0x80a03, [(8, 0x10)], false, 0xfff, 0x0, 0x0, [], 0x0⟩,  -- SF_RX_KEY_H
    ⟨0x80a04, [(8, 0x10)], false, 0xfffff, 0x0, 0x0, [], 0x0⟩,  -- SF_RX_KEY_L
    ⟨0x80a05, [(8, 0x10)], false, 0xffff, 0x0, 0x0, [], 0x64⟩,  -- SF_RX_TMO
    ⟨0x80a06, [(8, 0x10)], false, 0x0, 0x0, 0x0, [(4, 4), (3, 1), (2, 1), (0, 2)], 0x0⟩,  -- SF_RX_STAT
    ⟨0x80a07, [(8, 0x10)], false, 0x0, 0x0, 0x0, [(0, 20)], 0x0⟩]  -- SF_RX_ERR

/-- The registers of block 0x9. -/
def Reg.block09 : List RegKind :=
  [ ⟨0x90000, [], true, 0x0, 0x0, 0x1, [], 0x0⟩,  -- DM_CFG
    ⟨0x90001, [], true, 0x0, 0x1, 0x0, [(0, 1)], 0x0⟩,  -- DM_STAT
    ⟨0x90010, [(16, 0x4)], false, 0x7ffff, 0x0, 0x0, [], 0xa010⟩,  -- DM_Q_CFG
    ⟨0x90011, [(16, 0x4)], true, 0x0, 0x0, 0x0, [(0, 20)], 0x0⟩,  -- DM_Q_FILL
    ⟨0x90012, [(16, 0x4)], true, 0x0, 0x0, 0x0, [(0, 20)], 0x0⟩,  -- DM_Q_PEAK
    ⟨0x90013, [(16, 0x4)], true, 0x0, 0x0, 0x0, [(0, 20)], 0x0⟩,  -- DM_Q_DISC
    ⟨0x90100, [(32, 0x10)], true, 0x0, 0x0, 0x3, [], 0x0⟩,  -- DM_CH_CTL
    ⟨0x90101, [(32, 0x10)], true, 0xffffe, 0x0, 0x0, [], 0x10800⟩,  -- DM_CH_CFG
    ⟨0x90102, [(32, 0x10)], true, 0xf, 0x0, 0x0, [], 0x0⟩,  -- DM_CH_SRC_H
    ⟨0x90103, [(32, 0x10)], true, 0xfffff, 0x0, 0x0, [], 0x0⟩,  -- DM_CH_SRC_L
    ⟨0x90104, [(32, 0x10)], true, 0xf, 0x0, 0x0, [], 0x0⟩,  -- DM_CH_DST_H
    ⟨0x90105, [(32, 0x10)], true, 0xfffff, 0x0, 0x0, [], 0x0⟩,  -- DM_CH_DST_L
    ⟨0x90106, [(32, 0x10)], true, 0xfffff, 0x0, 0x0, [], 0x0⟩,  -- DM_CH_CNT
    ⟨0x90107, [(32, 0x10)], true, 0xfffff, 0x0, 0x0, [], 0x0⟩,  -- DM_CH_PSTRIDE
    ⟨0x90108, [(32, 0x10)], true, 0x0, 0x8, 0x0, [(16, 4), (3, 1), (2, 1), (1, 1), (0, 1)], 0x0⟩,  -- DM_CH_STAT
    ⟨0x90109, [(32, 0x10)], true, 0x0, 0x0, 0x0, [(0, 20)], 0x0⟩,  -- DM_CH_LEFT
    ⟨0x9010a, [(32, 0x10)], true, 0x0, 0x0, 0x0, [(0, 20)], 0x0⟩,  -- DM_CH_MARK
    ⟨0x9010b, [(32, 0x10)], true, 0x0, 0x0, 0x0, [(0, 20)], 0x0⟩]  -- DM_CH_DONE_CNT

/-- The registers of block 0xa. -/
def Reg.block0A : List RegKind :=
  [ ⟨0xa0000, [], true, 0x3c, 0x0, 0x1, [], 0x0⟩,  -- AQ_CFG
    ⟨0xa0001, [], true, 0x0, 0x1, 0x0, [(0, 1)], 0x0⟩,  -- AQ_STAT
    ⟨0xa0002, [], true, 0x0, 0x0, 0xffff, [], 0x0⟩,  -- AQ_FORCE
    ⟨0xa0010, [(16, 0x4)], true, 0xfffff, 0x0, 0x0, [], 0x0⟩,  -- AQ_TRG_CFG
    ⟨0xa0011, [(16, 0x4)], true, 0xfffff, 0x0, 0x0, [], 0x0⟩,  -- AQ_TRG_SRC
    ⟨0xa0012, [(16, 0x4)], true, 0xfffff, 0x0, 0x0, [], 0x0⟩,  -- AQ_TRG_LVL
    ⟨0xa0013, [(16, 0x4)], true, 0xfffff, 0x0, 0x0, [], 0x0⟩,  -- AQ_TRG_HYST
    ⟨0xa0100, [(4, 0x20)], true, 0x0, 0x0, 0x3, [], 0x0⟩,  -- AQ_BUF_CTL
    ⟨0xa0101, [(4, 0x20)], true, 0xfff, 0x0, 0x0, [], 0x0⟩,  -- AQ_BUF_CFG
    ⟨0xa0102, [(4, 0x20)], true, 0xfffff, 0x0, 0x0, [], 0x0⟩,  -- AQ_BUF_SRC
    ⟨0xa0103, [(4, 0x20)], true, 0x7ff, 0x0, 0x0, [], 0x0⟩,  -- AQ_BUF_SRC2
    ⟨0xa0104, [(4, 0x20)], true, 0x1ffff, 0x0, 0x0, [], 0x10000⟩,  -- AQ_BUF_LEN
    ⟨0xa0105, [(4, 0x20)], true, 0x1ffff, 0x0, 0x0, [], 0x8000⟩,  -- AQ_BUF_POST
    ⟨0xa0106, [(4, 0x20)], true, 0xffff, 0x0, 0x0, [], 0x0⟩,  -- AQ_BUF_TRIG
    ⟨0xa0107, [(4, 0x20)], true, 0xfffff, 0x0, 0x0, [], 0x0⟩,  -- AQ_BUF_OFS
    ⟨0xa0108, [(4, 0x20)], true, 0x0, 0x38, 0x0, [(5, 1), (4, 1), (3, 1), (2, 1), (0, 2)], 0x0⟩,  -- AQ_BUF_STAT
    ⟨0xa0109, [(4, 0x20)], true, 0x0, 0x0, 0x0, [(0, 16)], 0x0⟩,  -- AQ_CAP_CAUSE
    ⟨0xa010a, [(4, 0x20)], true, 0x0, 0x0, 0x0, [(4, 1), (0, 4)], 0x0⟩,  -- AQ_CAP_INFO
    ⟨0xa010b, [(4, 0x20)], true, 0x0, 0x0, 0x0, [(0, 17)], 0x0⟩,  -- AQ_CAP_CNT
    ⟨0xa010c, [(4, 0x20)], true, 0x0, 0x0, 0x0, [(0, 20)], 0x0⟩,  -- AQ_CAP_FRAME
    ⟨0xa010d, [(4, 0x20)], true, 0x0, 0x0, 0x0, [(0, 11)], 0x0⟩,  -- AQ_CAP_TIME_H
    ⟨0xa010e, [(4, 0x20)], true, 0x0, 0x0, 0x0, [(0, 20)], 0x0⟩,  -- AQ_CAP_TIME_L
    ⟨0xa010f, [(4, 0x20)], true, 0x0, 0x0, 0x0, [(0, 20)], 0x0⟩,  -- AQ_CAP_SEQ
    ⟨0xa0110, [(4, 0x20)], true, 0x0, 0x0, 0x0, [(0, 20)], 0x0⟩,  -- AQ_MISSED
    ⟨0xa0111, [(4, 0x20)], true, 0x0, 0x0, 0x0, [(0, 20)], 0x0⟩,  -- AQ_BLOCK_SKIP
    ⟨0xa0112, [(4, 0x20)], true, 0xffff, 0x0, 0x0, [], 0x0⟩,  -- AQ_RD_ADDR
    ⟨0xa0113, [(4, 0x20)], true, 0x0, 0x0, 0x0, [(0, 20)], 0x0⟩,  -- AQ_RD_DATA
    ⟨0xa0114, [(4, 0x20)], true, 0x3ff, 0x0, 0x0, [], 0x0⟩,  -- AQ_HIST_ADDR
    ⟨0xa0115, [(4, 0x20)], true, 0x0, 0x0, 0x0, [(0, 20)], 0x0⟩]  -- AQ_HIST_DATA

/-- The registers of block 0x10. -/
def Reg.block10 : List RegKind :=
  [ ⟨0x100000, [(4, 0x10000), (16, 0x100)], false, 0x1, 0x0, 0x2, [], 0x0⟩,  -- TL_TILE_CFG
    ⟨0x100001, [(4, 0x10000), (16, 0x100)], false, 0x0, 0x12, 0x0, [(4, 1), (3, 1), (2, 1), (1, 1), (0, 1)], 0x0⟩,  -- TL_TILE_STAT
    ⟨0x100002, [(4, 0x10000), (16, 0x100)], false, 0x1ffff, 0x0, 0x0, [], 0x0⟩,  -- TL_WS_CFG
    ⟨0x100003, [(4, 0x10000), (16, 0x100)], false, 0x7fff, 0x0, 0x0, [], 0x0⟩,  -- TL_WS_TRIG
    ⟨0x100004, [(4, 0x10000), (16, 0x100)], false, 0x0, 0x0, 0x0, [(0, 20)], 0x0⟩,  -- TL_XTK_CNT
    ⟨0x100005, [(4, 0x10000), (16, 0x100)], false, 0x0, 0x0, 0x0, [(0, 20)], 0x0⟩,  -- TL_GSW_SKIP
    ⟨0x100010, [(4, 0x10000), (16, 0x100), (8, 0x10)], false, 0x3ff, 0x0, 0x0, [], 0x300⟩,  -- TL_CH_CFG
    ⟨0x100011, [(4, 0x10000), (16, 0x100), (8, 0x10)], false, 0xfffff, 0x0, 0x0, [], 0x80010⟩,  -- TL_CH_THR0
    ⟨0x100012, [(4, 0x10000), (16, 0x100), (8, 0x10)], false, 0xfffff, 0x0, 0x0, [], 0x80010⟩,  -- TL_CH_THR1
    ⟨0x100013, [(4, 0x10000), (16, 0x100), (8, 0x10)], false, 0xfffff, 0x0, 0x0, [], 0x80010⟩,  -- TL_CH_THR2
    ⟨0x100014, [(4, 0x10000), (16, 0x100), (8, 0x10)], false, 0x3ffff, 0x0, 0x0, [], 0x4020⟩,  -- TL_CH_AR
    ⟨0x100015, [(4, 0x10000), (16, 0x100), (8, 0x10)], false, 0x0, 0x1fc, 0x0, [(8, 1), (7, 1), (6, 1), (5, 1), (4, 1), (3, 1), (2, 1), (0, 2)], 0x0⟩,  -- TL_CH_STAT
    ⟨0x100016, [(4, 0x10000), (16, 0x100), (8, 0x10)], false, 0x0, 0x0, 0x0, [(0, 20)], 0x0⟩,  -- TL_CH_OVR_CNT
    ⟨0x100017, [(4, 0x10000), (16, 0x100), (8, 0x10)], false, 0x0, 0x0, 0x0, [(0, 20)], 0x0⟩]  -- TL_CH_BASE

/-- The registers of block 0x14. -/
def Reg.block14 : List RegKind :=
  [ ⟨0x140010, [(16, 0x1)], false, 0xfffff, 0x0, 0x0, [], 0x0⟩,  -- TE_FFB_NOM
    ⟨0x140020, [(16, 0x1)], false, 0xfffff, 0x0, 0x0, [], 0x0⟩,  -- TE_FFB_DLY
    ⟨0x140030, [], false, 0x3ffff, 0x0, 0x0, [], 0x4080⟩,  -- TE_FFB_CFG
    ⟨0x140031, [], false, 0x0, 0xffff, 0x0, [(0, 16)], 0x0⟩,  -- TE_FFB_MISS
    ⟨0x140032, [], false, 0x0, 0xffff, 0x0, [(0, 16)], 0x0⟩,  -- TE_FFB_DRIFT
    ⟨0x140100, [(4, 0x10)], true, 0xf00f, 0x0, 0x30000, [], 0x0⟩,  -- TE_ST_CFG
    ⟨0x140101, [(4, 0x10)], true, 0xffff, 0x0, 0x0, [], 0x0⟩,  -- TE_ST_N
    ⟨0x140102, [(4, 0x10)], true, 0xff800, 0x18, 0x0, [(5, 1), (4, 1), (3, 1), (1, 1), (0, 1)], 0x0⟩,  -- TE_ST_STAT
    ⟨0x140103, [(4, 0x10)], true, 0x0, 0x0, 0x0, [(0, 20)], 0x0⟩,  -- TE_ST_MEAN
    ⟨0x140104, [(4, 0x10)], true, 0x0, 0x0, 0x0, [(0, 4)], 0x0⟩,  -- TE_ST_MEANF
    ⟨0x140105, [(4, 0x10)], true, 0x0, 0x0, 0x0, [(0, 20)], 0x0⟩,  -- TE_ST_SD
    ⟨0x140106, [(4, 0x10)], true, 0x0, 0x0, 0x0, [(0, 20)], 0x0⟩,  -- TE_ST_MIN
    ⟨0x140107, [(4, 0x10)], true, 0x0, 0x0, 0x0, [(0, 20)], 0x0⟩,  -- TE_ST_MAX
    ⟨0x140108, [(4, 0x10)], true, 0x0, 0x0, 0x0, [(0, 20)], 0x0⟩,  -- TE_ST_IGN
    ⟨0x141000, [(64, 0x10)], false, 0x0, 0x0, 0x1, [], 0x0⟩,  -- TE_TILE_CFG
    ⟨0x141001, [(64, 0x10)], false, 0x0, 0x2, 0x0, [(1, 1), (0, 1)], 0x0⟩,  -- TE_TILE_STAT
    ⟨0x141002, [(64, 0x10)], false, 0x0, 0x0, 0x0, [(0, 20)], 0x0⟩,  -- TE_REF_OFS
    ⟨0x141003, [(64, 0x10)], false, 0x0, 0x0, 0x0, [(0, 20)], 0x0⟩,  -- TE_ORDER_ERR
    ⟨0x141004, [(64, 0x10)], false, 0x0, 0x0, 0x0, [(0, 20)], 0x0⟩,  -- TE_OVF_CNT
    ⟨0x141005, [(64, 0x10)], false, 0x0, 0x0, 0x0, [(0, 20)], 0x0⟩,  -- TE_QDROP_CNT
    ⟨0x141006, [(64, 0x10)], false, 0x0, 0x0, 0x0, [(0, 20)], 0x0⟩,  -- TE_CAL_FAIL_CNT
    ⟨0x141007, [(64, 0x10)], false, 0x0, 0x0, 0x0, [(0, 20)], 0x0⟩,  -- TE_CAL_REUSE_CNT
    ⟨0x142000, [(512, 0x4)], false, 0x3, 0x0, 0x0, [], 0x2⟩,  -- TE_CH_CFG
    ⟨0x142001, [(512, 0x4)], false, 0x0, 0xd, 0x0, [(3, 1), (2, 1), (1, 1), (0, 1)], 0x0⟩,  -- TE_CH_STAT
    ⟨0x142002, [(512, 0x4)], true, 0xfffff, 0x0, 0x0, [], 0x0⟩,  -- TE_CH_OFS
    ⟨0x142003, [(512, 0x4)], false, 0x0, 0x0, 0x0, [(9, 9), (0, 9)], 0x0⟩,  -- TE_CH_CAL
    ⟨0x148000, [(512, 0x40), (3, 0x10), (16, 0x1)], true, 0xff, 0x0, 0x0, [], 0x0⟩]  -- TE_WALK

/-- The registers of block 0x18. -/
def Reg.block18 : List RegKind :=
  [ ⟨0x180000, [(16896, 0x3)], false, 0xfefff, 0x0, 0x0, [], 0x0⟩,  -- FD_DESC0
    ⟨0x180001, [(16896, 0x3)], false, 0x7ffff, 0x0, 0x0, [], 0x0⟩,  -- FD_DESC1
    ⟨0x180002, [(16896, 0x3)], false, 0xfffff, 0x0, 0x0, [], 0x0⟩,  -- FD_DESC2
    ⟨0x18f000, [], false, 0x1, 0x0, 0x2, [], 0x0⟩,  -- FD_CFG
    ⟨0x18f001, [], false, 0x0, 0x3c, 0x0, [(5, 1), (4, 1), (3, 1), (2, 1), (1, 1), (0, 1)], 0x0⟩,  -- FD_STAT
    ⟨0x18f010, [], false, 0x0, 0x0, 0x0, [(0, 20)], 0x0⟩,  -- FD_ORPHAN
    ⟨0x18f011, [], false, 0x0, 0x0, 0x0, [(0, 20)], 0x0⟩,  -- FD_DISC_CNT
    ⟨0x18f012, [], false, 0x0, 0x0, 0x0, [(0, 20)], 0x0⟩,  -- FD_PIX_ERR
    ⟨0x18f013, [], false, 0x0, 0x0, 0x0, [(0, 20)], 0x0⟩,  -- FD_LATE
    ⟨0x18f014, [], false, 0x0, 0x0, 0x0, [(0, 20)], 0x0⟩,  -- FD_HOLD
    ⟨0x18f015, [], false, 0x0, 0x0, 0x0, [(0, 20)], 0x0⟩,  -- FD_AGE_DROP
    ⟨0x18f016, [], false, 0x0, 0x0, 0x0, [(0, 20)], 0x0⟩,  -- FD_RELAYOUT
    ⟨0x18f017, [], false, 0x0, 0x0, 0x0, [(0, 20)], 0x0⟩,  -- FD_SAT_CNT
    ⟨0x18f018, [], false, 0x0, 0x0, 0x0, [(0, 20)], 0x0⟩,  -- FD_TOKEN_TMO
    ⟨0x18f020, [], true, 0x7fff, 0x0, 0x0, [], 0x0⟩,  -- FD_PIX_SEL
    ⟨0x18f021, [], false, 0x0, 0x0, 0x0, [(16, 1), (15, 1), (14, 1), (0, 13)], 0x0⟩,  -- FD_PIX_STAT
    ⟨0x18f022, [], true, 0x1f, 0x0, 0x0, [], 0x0⟩,  -- FD_MEM_ADDR_H
    ⟨0x18f023, [], true, 0xfffff, 0x0, 0x0, [], 0x0⟩,  -- FD_MEM_ADDR_L
    ⟨0x18f024, [], false, 0x0, 0x0, 0x0, [(0, 20)], 0x0⟩,  -- FD_MEM_DATA
    ⟨0x18f100, [(16, 0x10)], false, 0x0, 0x0, 0x0, [(0, 20)], 0x0⟩,  -- FD_CL_STALL
    ⟨0x18f101, [(16, 0x10)], false, 0x0, 0x0, 0x0, [(0, 20)], 0x0⟩,  -- FD_CL_MERGE
    ⟨0x18f102, [(16, 0x10)], false, 0x0, 0x0, 0x0, [(0, 5)], 0x0⟩]  -- FD_CL_PEAK

/-- The registers of block 0x1c. -/
def Reg.block1C : List RegKind :=
  [ ⟨0x1c0000, [(3379, 0x1)], false, 0xfffff, 0x0, 0x0, [], 0x0⟩,  -- EX_PIX_MAP
    ⟨0x1c0d33, [], false, 0xf, 0x0, 0x0, [], 0x0⟩,  -- EX_PIX_MAP of the last register: pixel 16,895 alone
    ⟨0x1c4000, [(16, 0x8)], false, 0xfb, 0x0, 0x0, [], 0x58⟩,  -- EX_PROF_CFG
    ⟨0x1c4001, [(16, 0x8)], false, 0xffff, 0x0, 0x0, [], 0x1⟩,  -- EX_PROF_Q
    ⟨0x1c4002, [(16, 0x8)], false, 0x1f, 0x0, 0x0, [], 0x8⟩,  -- EX_PROF_BG
    ⟨0x1c4003, [(16, 0x8)], false, 0xfffff, 0x0, 0x0, [], 0x18004⟩,  -- EX_PROF_THR
    ⟨0x1c4004, [(16, 0x8)], false, 0xffff, 0x0, 0x0, [], 0x4010⟩,  -- EX_PROF_VEIL0
    ⟨0x1c4005, [(16, 0x8)], false, 0xfffff, 0x0, 0x0, [], 0x5500⟩,  -- EX_PROF_VEIL1
    ⟨0x1c4006, [(16, 0x8)], false, 0xfff, 0x0, 0x0, [], 0x282⟩,  -- EX_PROF_FOR
    ⟨0x1c4007, [(16, 0x8)], false, 0xff, 0x0, 0x0, [], 0x40⟩,  -- EX_PROF_SAT
    ⟨0x1cf000, [], false, 0x1, 0x0, 0x2, [], 0x0⟩,  -- EX_CFG
    ⟨0x1cf001, [], false, 0x0, 0xe, 0x0, [(3, 1), (2, 1), (1, 1), (0, 1)], 0x0⟩,  -- EX_STAT
    ⟨0x1cf002, [], false, 0x0, 0x0, 0x0, [(0, 20)], 0x0⟩,  -- EX_FRAME
    ⟨0x1cf010, [], false, 0x0, 0x0, 0x0, [(0, 20)], 0x0⟩,  -- EX_HIST_CNT
    ⟨0x1cf011, [], false, 0x0, 0x0, 0x0, [(0, 20)], 0x0⟩,  -- EX_ECHO_CNT
    ⟨0x1cf012, [], false, 0x0, 0x0, 0x0, [(0, 20)], 0x0⟩,  -- EX_NONE_CNT
    ⟨0x1cf013, [], false, 0x0, 0x0, 0x0, [(0, 20)], 0x0⟩,  -- EX_VEIL_CNT
    ⟨0x1cf014, [], false, 0x0, 0x0, 0x0, [(0, 20)], 0x0⟩,  -- EX_FOREIGN_CNT
    ⟨0x1cf015, [], false, 0x0, 0x0, 0x0, [(0, 20)], 0x0⟩,  -- EX_SAT_CNT
    ⟨0x1cf016, [], false, 0x0, 0x0, 0x0, [(0, 20)], 0x0⟩,  -- EX_MORE_CNT
    ⟨0x1cf017, [], false, 0x0, 0x0, 0x0, [(0, 20)], 0x0⟩,  -- EX_SAFE_DROP
    ⟨0x1cf020, [(16, 0x1)], false, 0x0, 0x0, 0x0, [(0, 20)], 0x0⟩,  -- EX_QDROP
    ⟨0x1cf100, [(8, 0x10)], false, 0x0, 0x0, 0x0, [(0, 20)], 0x0⟩,  -- EX_CL_HIST
    ⟨0x1cf101, [(8, 0x10)], false, 0x0, 0x0, 0x0, [(0, 9)], 0x0⟩]  -- EX_CL_LAT

/-- The registers of block 0x20. -/
def Reg.block20 : List RegKind :=
  [ ⟨0x200000, [(4, 0x10000), (9, 0x100)], false, 0x7f, 0x0, 0x80, [], 0x2⟩,  -- LN_QUAD_CFG
    ⟨0x200001, [(4, 0x10000), (9, 0x100)], false, 0x0, 0x1c, 0x0, [(4, 1), (3, 1), (2, 1), (1, 1), (0, 1)], 0x0⟩,  -- LN_QUAD_STAT
    ⟨0x200010, [(4, 0x10000), (9, 0x100), (4, 0x10)], false, 0x1fd, 0x0, 0x0, [], 0x11c⟩,  -- LN_LANE_CFG
    ⟨0x200011, [(4, 0x10000), (9, 0x100), (4, 0x10)], false, 0x0, 0x0, 0x7, [], 0x0⟩,  -- LN_LANE_CTL
    ⟨0x200012, [(4, 0x10000), (9, 0x100), (4, 0x10)], false, 0x0, 0x700, 0x0, [(10, 1), (9, 1), (8, 1), (7, 1), (5, 2), (4, 1), (0, 4)], 0x0⟩,  -- LN_LANE_STAT
    ⟨0x200013, [(4, 0x10000), (9, 0x100), (4, 0x10)], false, 0xfff, 0x0, 0x0, [], 0x840⟩,  -- LN_TX_EQ
    ⟨0x200014, [(4, 0x10000), (9, 0x100), (4, 0x10)], false, 0x0, 0x0, 0x0, [(0, 20)], 0x0⟩,  -- LN_PPM
    ⟨0x200015, [(4, 0x10000), (9, 0x100), (4, 0x10)], false, 0x0, 0x0, 0x0, [(0, 6)], 0x0⟩,  -- LN_EB
    ⟨0x200016, [(4, 0x10000), (9, 0x100), (4, 0x10)], false, 0x0, 0x0, 0x0, [(0, 20)], 0x0⟩,  -- LN_CV_CNT
    ⟨0x200017, [(4, 0x10000), (9, 0x100), (4, 0x10)], false, 0x0, 0x0, 0x0, [(0, 20)], 0x0⟩,  -- LN_MK_ERR
    ⟨0x200018, [(4, 0x10000), (9, 0x100), (4, 0x10)], false, 0x0, 0x0, 0x0, [(0, 20)], 0x0⟩,  -- LN_FILL_DEL
    ⟨0x200019, [(4, 0x10000), (9, 0x100), (4, 0x10)], false, 0x0, 0x0, 0x0, [(0, 20)], 0x0⟩,  -- LN_FILL_REP
    ⟨0x20001a, [(4, 0x10000), (9, 0x100), (4, 0x10)], false, 0x0, 0x0, 0x0, [(0, 20)], 0x0⟩,  -- LN_DOWN_CNT
    ⟨0x20001b, [(4, 0x10000), (9, 0x100), (4, 0x10)], false, 0x0, 0x0, 0x0, [(0, 20)], 0x0⟩,  -- LN_STUFF_CNT
    ⟨0x20001c, [(4, 0x10000), (9, 0x100), (4, 0x10)], false, 0x0, 0x0, 0x0, [(0, 20)], 0x0⟩,  -- LN_FEC_CORR
    ⟨0x20001d, [(4, 0x10000), (9, 0x100), (4, 0x10)], false, 0x0, 0x0, 0x0, [(0, 20)], 0x0⟩,  -- LN_FEC_UNCORR
    ⟨0x20001e, [(4, 0x10000), (9, 0x100), (4, 0x10)], false, 0x0, 0x0, 0x0, [(0, 20)], 0x0⟩]  -- LN_RETRY

/-- The registers of block 0x24. -/
def Reg.block24 : List RegKind :=
  [ ⟨0x240000, [], false, 0xffffc, 0x0, 0x2, [], 0xa3a0⟩,  -- FL_CFG
    ⟨0x240001, [], false, 0x0, 0x200, 0x0, [(9, 1), (0, 9)], 0x0⟩,  -- FL_STAT
    ⟨0x240002, [], false, 0xfff, 0x0, 0x0, [], 0x0⟩,  -- FL_ID_H
    ⟨0x240003, [], false, 0xfffff, 0x0, 0x0, [], 0x0⟩,  -- FL_ID_L
    ⟨0x240004, [], false, 0x1f, 0x0, 0x0, [], 0x0⟩,  -- FL_TRIG
    ⟨0x240010, [], false, 0x0, 0x0, 0x0, [(0, 20)], 0x0⟩,  -- FL_PKT_ERR
    ⟨0x240011, [], false, 0x0, 0x0, 0x0, [(0, 20)], 0x0⟩,  -- FL_PT_REFUSE
    ⟨0x240012, [], false, 0x0, 0x0, 0x0, [(0, 20)], 0x0⟩,  -- FL_SUB_DROP
    ⟨0x240013, [], false, 0x0, 0x0, 0x0, [(0, 20)], 0x0⟩,  -- FL_EVT_MERGED
    ⟨0x240014, [], false, 0x0, 0x0, 0x0, [(0, 20)], 0x0⟩,  -- FL_EVT_SUPP
    ⟨0x240020, [], true, 0xff, 0x0, 0x0, [], 0x0⟩,  -- FL_PT_SEL
    ⟨0x240021, [], false, 0x0, 0x0, 0x0, [(19, 1), (17, 2), (15, 2), (14, 1), (0, 8)], 0x0⟩,  -- FL_PT_INFO
    ⟨0x240022, [], false, 0x0, 0x0, 0x0, [(0, 12)], 0x0⟩,  -- FL_PT_ID_H
    ⟨0x240023, [], false, 0x0, 0x0, 0x0, [(0, 20)], 0x0⟩,  -- FL_PT_ID_L
    ⟨0x240100, [(48, 0x8)], false, 0x3ff, 0x0, 0x0, [], 0x0⟩,  -- FL_HEAD_CFG
    ⟨0x240101, [(48, 0x8)], false, 0x3fff, 0x0, 0x0, [], 0x0⟩,  -- FL_HEAD_BASE
    ⟨0x240102, [(48, 0x8)], false, 0x7fff, 0x0, 0x0, [], 0x0⟩,  -- FL_HEAD_COUNT
    ⟨0x240103, [(48, 0x8)], false, 0xfffff, 0x0, 0x0, [], 0x0⟩,  -- FL_HEAD_ASYM
    ⟨0x240104, [(48, 0x8)], false, 0x0, 0x8, 0x0, [(3, 1), (2, 1), (1, 1), (0, 1)], 0x0⟩,  -- FL_HEAD_STAT
    ⟨0x240105, [(48, 0x8)], false, 0x0, 0x0, 0x0, [(0, 20)], 0x0⟩,  -- FL_HEAD_RTT
    ⟨0x240106, [(48, 0x8)], false, 0x0, 0x0, 0x0, [(0, 20)], 0x0⟩]  -- FL_HEAD_DISC

/-- The registers of block 0x26. -/
def Reg.block26 : List RegKind :=
  [ ⟨0x260000, [], false, 0x1ffff, 0x0, 0x0, [], 0x0⟩,  -- EP_CFG
    ⟨0x260001, [], false, 0x0, 0x0, 0x0, [(4, 5), (1, 3), (0, 1)], 0x0⟩,  -- EP_STAT
    ⟨0x260002, [], false, 0x0, 0x0, 0x0, [(0, 16)], 0x0⟩,  -- EP_MAC_H
    ⟨0x260003, [], false, 0x0, 0x0, 0x0, [(0, 16)], 0x0⟩,  -- EP_MAC_M
    ⟨0x260004, [], false, 0x0, 0x0, 0x0, [(0, 16)], 0x0⟩,  -- EP_MAC_L
    ⟨0x260005, [], false, 0xfff, 0x0, 0x0, [], 0x0⟩,  -- EP_IP_H
    ⟨0x260006, [], false, 0xfffff, 0x0, 0x0, [], 0x0⟩,  -- EP_IP_L
    ⟨0x260007, [], false, 0xffff, 0x0, 0x0, [], 0xbbf8⟩,  -- EP_FL_PORT
    ⟨0x260008, [], false, 0xfff, 0x0, 0x0, [], 0xefc⟩,  -- EP_GRP_H
    ⟨0x260009, [], false, 0xfffff, 0x0, 0x0, [], 0x3314⟩,  -- EP_GRP_L
    ⟨0x260010, [], false, 0xfffff, 0x0, 0x0, [], 0x19000⟩,  -- EP_PTP_CFG
    ⟨0x260011, [], false, 0xffff, 0x0, 0x0, [], 0x0⟩,  -- EP_PTP_PORTS
    ⟨0x260012, [], false, 0x0, 0x0, 0x0, [(0, 20)], 0x0⟩,  -- EP_PTP_OFS
    ⟨0x260013, [], false, 0x0, 0x0, 0x0, [(0, 20)], 0x0⟩,  -- EP_TIME_SEC
    ⟨0x260014, [], false, 0x0, 0x0, 0x0, [(0, 10)], 0x0⟩,  -- EP_TIME_NS_H
    ⟨0x260015, [], false, 0x0, 0x0, 0x0, [(0, 20)], 0x0⟩,  -- EP_TIME_NS_L
    ⟨0x260020, [], false, 0x0, 0x0, 0x0, [(0, 20)], 0x0⟩,  -- EP_RX_DROP
    ⟨0x260021, [], false, 0x0, 0x0, 0x0, [(0, 20)], 0x0⟩]  -- EP_PTP_STEP

/-- The registers of a base block (Table 16.1); tiles and lanes spread theirs over four blocks. -/
def Reg.blockKinds (b : Nat) : List RegKind :=
  if b = 0x0 then Reg.block00
  else if b = 0x1 then Reg.block01
  else if b = 0x2 then Reg.block02
  else if b = 0x4 then Reg.block04
  else if b = 0x5 then Reg.block05
  else if b = 0x6 then Reg.block06
  else if b = 0x7 then Reg.block07
  else if b = 0x8 then Reg.block08
  else if b = 0x9 then Reg.block09
  else if b = 0xa then Reg.block0A
  else if 0x10 ≤ b ∧ b ≤ 0x13 then Reg.block10
  else if b = 0x14 then Reg.block14
  else if b = 0x18 then Reg.block18
  else if b = 0x1c then Reg.block1C
  else if 0x20 ≤ b ∧ b ≤ 0x23 then Reg.block20
  else if b = 0x24 then Reg.block24
  else if b = 0x26 then Reg.block26
  else []

end Sys2Proof.Machine
end

