-- ==== Sys2Proof/Machine/RegNames.lean ====
section
/-!
DEFINITION. The address of every register and the place of every field, from the register maps and the field tables
of chapters 2 to 18 (one line per register or field; the arguments are the indexes the map gives it).
-/

namespace Sys2Proof.Machine

/-! Block 0x0: the map and the field tables stand in chapter 16 of spec/. -/
def Reg.SYS_ID : Nat := 0x0
def Reg.SYS_ID_PART : Fld := ⟨Reg.SYS_ID, 4, 16⟩
def Reg.SYS_ID_STEP : Fld := ⟨Reg.SYS_ID, 0, 4⟩
def Reg.SYS_SERIAL_H : Nat := 0x1
def Reg.SYS_SERIAL_H_SER_H : Fld := ⟨Reg.SYS_SERIAL_H, 0, 12⟩
def Reg.SYS_SERIAL_L : Nat := 0x2
def Reg.SYS_SERIAL_L_SER_L : Fld := ⟨Reg.SYS_SERIAL_L, 0, 20⟩
def Reg.SYS_FW_VER : Nat := 0x3
def Reg.SYS_FW_VER_MAJOR : Fld := ⟨Reg.SYS_FW_VER, 12, 8⟩
def Reg.SYS_FW_VER_MINOR : Fld := ⟨Reg.SYS_FW_VER, 4, 8⟩
def Reg.SYS_FW_VER_PATCH : Fld := ⟨Reg.SYS_FW_VER, 0, 4⟩
def Reg.SYS_FW_BUILD : Nat := 0x4
def Reg.SYS_FW_BUILD_BUILD : Fld := ⟨Reg.SYS_FW_BUILD, 0, 20⟩
def Reg.SYS_BOOT : Nat := 0x5
def Reg.SYS_BOOT_TRIAL : Fld := ⟨Reg.SYS_BOOT, 1, 1⟩
def Reg.SYS_BOOT_SLOT : Fld := ⟨Reg.SYS_BOOT, 0, 1⟩
def Reg.SYS_UPTIME_H : Nat := 0x6
def Reg.SYS_UPTIME_H_UP_H : Fld := ⟨Reg.SYS_UPTIME_H, 0, 12⟩
def Reg.SYS_UPTIME_L : Nat := 0x7
def Reg.SYS_UPTIME_L_UP_L : Fld := ⟨Reg.SYS_UPTIME_L, 0, 20⟩
def Reg.SYS_SCRATCH : Nat := 0x8
def Reg.SYS_SCRATCH_VALUE : Fld := ⟨Reg.SYS_SCRATCH, 0, 20⟩
/-! Block 0x1: the map and the field tables stand in chapter 15 of spec/. -/
def Reg.CM_BUSY : Nat := 0x10000
def Reg.CM_BUSY_EP_FL_LN : Fld := ⟨Reg.CM_BUSY, 12, 3⟩
def Reg.CM_BUSY_EX_FD_TE_TL : Fld := ⟨Reg.CM_BUSY, 8, 4⟩
def Reg.CM_BUSY_AQ_DM_SF_IL : Fld := ⟨Reg.CM_BUSY, 4, 4⟩
def Reg.CM_BUSY_AX_SV_SQ_PW : Fld := ⟨Reg.CM_BUSY, 0, 4⟩
def Reg.CM_STAT : Nat := 0x10001
def Reg.CM_STAT_PW_SET : Fld := ⟨Reg.CM_STAT, 5, 1⟩
def Reg.CM_STAT_NONCE : Fld := ⟨Reg.CM_STAT, 4, 1⟩
def Reg.CM_STAT_HOW : Fld := ⟨Reg.CM_STAT, 2, 2⟩
def Reg.CM_STAT_SESSION : Fld := ⟨Reg.CM_STAT, 1, 1⟩
def Reg.CM_STAT_LOCK_FUSE : Fld := ⟨Reg.CM_STAT, 0, 1⟩
def Reg.CM_SESS_LEFT : Nat := 0x10002
def Reg.CM_SESS_LEFT_S : Fld := ⟨Reg.CM_SESS_LEFT, 0, 12⟩
def Reg.CM_AUTH_FAIL : Nat := 0x10003
def Reg.CM_AUTH_FAIL_K : Fld := ⟨Reg.CM_AUTH_FAIL, 0, 20⟩
def Reg.CM_AUTH_WAIT : Nat := 0x10004
def Reg.CM_AUTH_WAIT_S : Fld := ⟨Reg.CM_AUTH_WAIT, 0, 12⟩
def Reg.CM_CFG : Nat := 0x10005
def Reg.CM_CFG_CNT_CLR : Fld := ⟨Reg.CM_CFG, 17, 1⟩
def Reg.CM_CFG_PEER_EN : Fld := ⟨Reg.CM_CFG, 16, 1⟩
def Reg.CM_CFG_UDP_LANES : Fld := ⟨Reg.CM_CFG, 0, 16⟩
def Reg.CM_CNT_MAINT : Nat := 0x10010
def Reg.CM_CNT_MAINT_COUNT : Fld := ⟨Reg.CM_CNT_MAINT, 0, 20⟩
def Reg.CM_CNT_PEER : Nat := 0x10011
def Reg.CM_CNT_PEER_COUNT : Fld := ⟨Reg.CM_CNT_PEER, 0, 20⟩
def Reg.CM_CNT_BACKBONE : Nat := 0x10012
def Reg.CM_CNT_BACKBONE_COUNT : Fld := ⟨Reg.CM_CNT_BACKBONE, 0, 20⟩
def Reg.CM_CNT_HEAD : Nat := 0x10013
def Reg.CM_CNT_HEAD_COUNT : Fld := ⟨Reg.CM_CNT_HEAD, 0, 20⟩
def Reg.CM_REFUSE : Nat := 0x10014
def Reg.CM_REFUSE_COUNT : Fld := ⟨Reg.CM_REFUSE, 0, 20⟩
def Reg.CM_DENIED : Nat := 0x10015
def Reg.CM_DENIED_COUNT : Fld := ⟨Reg.CM_DENIED, 0, 20⟩
def Reg.CM_REPLAY : Nat := 0x10016
def Reg.CM_REPLAY_COUNT : Fld := ⟨Reg.CM_REPLAY, 0, 20⟩
def Reg.CM_FMT_ERR : Nat := 0x10017
def Reg.CM_FMT_ERR_COUNT : Fld := ⟨Reg.CM_FMT_ERR, 0, 20⟩
def Reg.CM_OVERLOAD : Nat := 0x10018
def Reg.CM_OVERLOAD_COUNT : Fld := ⟨Reg.CM_OVERLOAD, 0, 20⟩
def Reg.CM_LAST : Nat := 0x10020
def Reg.CM_LAST_OPCODE : Fld := ⟨Reg.CM_LAST, 12, 8⟩
def Reg.CM_LAST_STATUS : Fld := ⟨Reg.CM_LAST, 4, 8⟩
def Reg.CM_LAST_CLASS : Fld := ⟨Reg.CM_LAST, 0, 2⟩
def Reg.CF_FRAME_PER : Nat := 0x10100
def Reg.CF_FRAME_PER_PER : Fld := ⟨Reg.CF_FRAME_PER, 0, 14⟩
def Reg.CF_GAP : Nat := 0x10101
def Reg.CF_GAP_GAP : Fld := ⟨Reg.CF_GAP, 0, 20⟩
def Reg.CF_STAT : Nat := 0x10110
def Reg.CF_STAT_LIVE_ERR_SEEN : Fld := ⟨Reg.CF_STAT, 11, 1⟩
def Reg.CF_STAT_DISC_SEEN : Fld := ⟨Reg.CF_STAT, 10, 1⟩
def Reg.CF_STAT_MISMATCH_SEEN : Fld := ⟨Reg.CF_STAT, 9, 1⟩
def Reg.CF_STAT_MISMATCH : Fld := ⟨Reg.CF_STAT, 8, 1⟩
def Reg.CF_STAT_LIVE : Fld := ⟨Reg.CF_STAT, 7, 1⟩
def Reg.CF_STAT_LOCK : Fld := ⟨Reg.CF_STAT, 6, 1⟩
def Reg.CF_STAT_REF_B : Fld := ⟨Reg.CF_STAT, 5, 1⟩
def Reg.CF_STAT_REF_A : Fld := ⟨Reg.CF_STAT, 4, 1⟩
def Reg.CF_STAT_PASS_OK : Fld := ⟨Reg.CF_STAT, 3, 1⟩
def Reg.CF_STAT_STOPPED : Fld := ⟨Reg.CF_STAT, 2, 1⟩
def Reg.CF_STAT_ACTIVE : Fld := ⟨Reg.CF_STAT, 0, 1⟩
def Reg.CF_CRC_CFG : Nat := 0x10111
def Reg.CF_CRC_CFG_CNT_CLR : Fld := ⟨Reg.CF_CRC_CFG, 15, 1⟩
def Reg.CF_CRC_CFG_STOP_FIRE : Fld := ⟨Reg.CF_CRC_CFG, 14, 1⟩
def Reg.CF_CRC_CFG_LIVE : Fld := ⟨Reg.CF_CRC_CFG, 0, 14⟩
def Reg.CF_APPLY : Nat := 0x10112
def Reg.CF_APPLY_CF : Fld := ⟨Reg.CF_APPLY, 15, 1⟩
def Reg.CF_APPLY_BLOCKS : Fld := ⟨Reg.CF_APPLY, 0, 15⟩
def Reg.CF_REF_A_H : Nat := 0x10114
def Reg.CF_REF_A_H_REF_H : Fld := ⟨Reg.CF_REF_A_H, 0, 12⟩
def Reg.CF_REF_A_L : Nat := 0x10115
def Reg.CF_REF_A_L_REF_L : Fld := ⟨Reg.CF_REF_A_L, 0, 20⟩
def Reg.CF_REF_B_H : Nat := 0x10116
def Reg.CF_REF_B_H_REF_H : Fld := ⟨Reg.CF_REF_B_H, 0, 12⟩
def Reg.CF_REF_B_L : Nat := 0x10117
def Reg.CF_REF_B_L_REF_L : Fld := ⟨Reg.CF_REF_B_L, 0, 20⟩
def Reg.CF_CRC_H : Nat := 0x10118
def Reg.CF_CRC_H_CRC_H : Fld := ⟨Reg.CF_CRC_H, 0, 12⟩
def Reg.CF_CRC_L : Nat := 0x10119
def Reg.CF_CRC_L_CRC_L : Fld := ⟨Reg.CF_CRC_L, 0, 20⟩
def Reg.CF_SWAP_FRAME : Nat := 0x1011a
def Reg.CF_SWAP_FRAME_FRAME : Fld := ⟨Reg.CF_SWAP_FRAME, 0, 20⟩
def Reg.CF_REJECT : Nat := 0x1011b
def Reg.CF_REJECT_CHECK : Fld := ⟨Reg.CF_REJECT, 15, 5⟩
def Reg.CF_REJECT_INDEX : Fld := ⟨Reg.CF_REJECT, 0, 15⟩
def Reg.CF_REJECT_ADDR_H : Nat := 0x1011c
def Reg.CF_REJECT_ADDR_H_ADDR_H : Fld := ⟨Reg.CF_REJECT_ADDR_H, 0, 4⟩
def Reg.CF_REJECT_ADDR_L : Nat := 0x1011d
def Reg.CF_REJECT_ADDR_L_ADDR_L : Fld := ⟨Reg.CF_REJECT_ADDR_L, 0, 20⟩
def Reg.CF_PASS_CNT : Nat := 0x10120
def Reg.CF_PASS_CNT_COUNT : Fld := ⟨Reg.CF_PASS_CNT, 0, 20⟩
def Reg.CF_MISMATCH_CNT : Nat := 0x10121
def Reg.CF_MISMATCH_CNT_COUNT : Fld := ⟨Reg.CF_MISMATCH_CNT, 0, 20⟩
def Reg.CF_SWAP_CNT : Nat := 0x10122
def Reg.CF_SWAP_CNT_COUNT : Fld := ⟨Reg.CF_SWAP_CNT, 0, 20⟩
def Reg.CF_LIVE_DISC : Nat := 0x10123
def Reg.CF_LIVE_DISC_COUNT : Fld := ⟨Reg.CF_LIVE_DISC, 0, 20⟩
def Reg.CF_LIVE_ERR : Nat := 0x10124
def Reg.CF_LIVE_ERR_COUNT : Fld := ⟨Reg.CF_LIVE_ERR, 0, 20⟩
/-! Block 0x2: the map and the field tables stand in chapter 17 of spec/. -/
def Reg.PW_CFG : Nat := 0x20000
def Reg.PW_CFG_CNT_CLR : Fld := ⟨Reg.PW_CFG, 0, 1⟩
def Reg.PW_STAT : Nat := 0x20001
def Reg.PW_STAT_STUCK_SEEN : Fld := ⟨Reg.PW_STAT, 7, 1⟩
def Reg.PW_STAT_FALLBACK_SEEN : Fld := ⟨Reg.PW_STAT, 6, 1⟩
def Reg.PW_STAT_REJECT_SEEN : Fld := ⟨Reg.PW_STAT, 5, 1⟩
def Reg.PW_STAT_BRACE_SEEN : Fld := ⟨Reg.PW_STAT, 4, 1⟩
def Reg.PW_STAT_FLASH_DEFER : Fld := ⟨Reg.PW_STAT, 3, 1⟩
def Reg.PW_STAT_FLASH_OK : Fld := ⟨Reg.PW_STAT, 2, 1⟩
def Reg.PW_STAT_FLASH_FAULT : Fld := ⟨Reg.PW_STAT, 1, 1⟩
def Reg.PW_STAT_BRACE : Fld := ⟨Reg.PW_STAT, 0, 1⟩
def Reg.PW_RST_CAUSE : Nat := 0x20002
def Reg.PW_RST_CAUSE_RAIL : Fld := ⟨Reg.PW_RST_CAUSE, 4, 4⟩
def Reg.PW_RST_CAUSE_CAUSE : Fld := ⟨Reg.PW_RST_CAUSE, 0, 4⟩
def Reg.PW_RST_HOLD : Nat := 0x20003
def Reg.PW_RST_HOLD_MS : Fld := ⟨Reg.PW_RST_HOLD, 0, 20⟩
def Reg.PW_RAIL_STAT : Nat := 0x20004
def Reg.PW_RAIL_STAT_BELOW : Fld := ⟨Reg.PW_RAIL_STAT, 0, 16⟩
def Reg.PW_IO_STAT : Nat := 0x20005
def Reg.PW_IO_STAT_HV : Fld := ⟨Reg.PW_IO_STAT, 0, 8⟩
def Reg.PW_FLASH_TJ : Nat := 0x20006
def Reg.PW_FLASH_TJ_EN : Fld := ⟨Reg.PW_FLASH_TJ, 19, 1⟩
def Reg.PW_FLASH_TJ_HI : Fld := ⟨Reg.PW_FLASH_TJ, 9, 9⟩
def Reg.PW_FLASH_TJ_LO : Fld := ⟨Reg.PW_FLASH_TJ, 0, 9⟩
def Reg.PW_SAVE : Nat := 0x20007
def Reg.PW_SAVE_SAVE : Fld := ⟨Reg.PW_SAVE, 0, 1⟩
def Reg.PW_FW_STAT : Nat := 0x20008
def Reg.PW_FW_STAT_SLOT_A : Fld := ⟨Reg.PW_FW_STAT, 17, 3⟩
def Reg.PW_FW_STAT_SLOT_B : Fld := ⟨Reg.PW_FW_STAT, 14, 3⟩
def Reg.PW_FW_STAT_PENDING : Fld := ⟨Reg.PW_FW_STAT, 13, 1⟩
def Reg.PW_FW_STAT_SAVING : Fld := ⟨Reg.PW_FW_STAT, 12, 1⟩
def Reg.PW_FW_STAT_TRIAL_LEFT : Fld := ⟨Reg.PW_FW_STAT, 0, 10⟩
def Reg.PW_BRACE_CNT : Nat := 0x20010
def Reg.PW_BRACE_CNT_COUNT : Fld := ⟨Reg.PW_BRACE_CNT, 0, 20⟩
def Reg.PW_SUPPLY_CNT : Nat := 0x20011
def Reg.PW_SUPPLY_CNT_COUNT : Fld := ⟨Reg.PW_SUPPLY_CNT, 0, 20⟩
def Reg.PW_PIN_CNT : Nat := 0x20012
def Reg.PW_PIN_CNT_COUNT : Fld := ⟨Reg.PW_PIN_CNT, 0, 20⟩
def Reg.PW_DEFER_CNT : Nat := 0x20013
def Reg.PW_DEFER_CNT_COUNT : Fld := ⟨Reg.PW_DEFER_CNT, 0, 20⟩
def Reg.PW_RAIL_MIN (i : Nat) : Nat := 0x20020 + i
def Reg.PW_RAIL_MIN_MV (i : Nat) : Fld := ⟨(Reg.PW_RAIL_MIN i), 0, 20⟩
def Reg.TH_CFG : Nat := 0x20100
def Reg.TH_CFG_CNT_CLR : Fld := ⟨Reg.TH_CFG, 3, 1⟩
def Reg.TH_CFG_COMP_EN : Fld := ⟨Reg.TH_CFG, 2, 1⟩
def Reg.TH_CFG_CAL_EN : Fld := ⟨Reg.TH_CFG, 1, 1⟩
def Reg.TH_CFG_FIRE_RANGE : Fld := ⟨Reg.TH_CFG, 0, 1⟩
def Reg.TH_STAT : Nat := 0x20101
def Reg.TH_STAT_EXT_FAIL : Fld := ⟨Reg.TH_STAT, 11, 4⟩
def Reg.TH_STAT_DIODE_FAIL : Fld := ⟨Reg.TH_STAT, 10, 1⟩
def Reg.TH_STAT_SHUTDOWN : Fld := ⟨Reg.TH_STAT, 9, 1⟩
def Reg.TH_STAT_FIRE_INH : Fld := ⟨Reg.TH_STAT, 8, 1⟩
def Reg.TH_STAT_WARN : Fld := ⟨Reg.TH_STAT, 7, 1⟩
def Reg.TH_STAT_STEP_DIE : Fld := ⟨Reg.TH_STAT, 5, 2⟩
def Reg.TH_STAT_STEP : Fld := ⟨Reg.TH_STAT, 3, 2⟩
def Reg.TH_STAT_CAL_LATE_SEEN : Fld := ⟨Reg.TH_STAT, 2, 1⟩
def Reg.TH_STAT_SHUT_SEEN : Fld := ⟨Reg.TH_STAT, 1, 1⟩
def Reg.TH_STAT_FAIL_SEEN : Fld := ⟨Reg.TH_STAT, 0, 1⟩
def Reg.TH_TJ : Nat := 0x20102
def Reg.TH_TJ_TJ : Fld := ⟨Reg.TH_TJ, 0, 20⟩
def Reg.TH_TJ_MAX : Nat := 0x20103
def Reg.TH_TJ_MAX_TJ : Fld := ⟨Reg.TH_TJ_MAX, 0, 20⟩
def Reg.TH_LIM : Nat := 0x20104
def Reg.TH_LIM_WARN : Fld := ⟨Reg.TH_LIM, 9, 9⟩
def Reg.TH_LIM_THROTTLE : Fld := ⟨Reg.TH_LIM, 0, 9⟩
def Reg.TH_FIRE_TJ : Nat := 0x20105
def Reg.TH_FIRE_TJ_HI : Fld := ⟨Reg.TH_FIRE_TJ, 9, 9⟩
def Reg.TH_FIRE_TJ_LO : Fld := ⟨Reg.TH_FIRE_TJ, 0, 9⟩
def Reg.TH_RATE : Nat := 0x20106
def Reg.TH_RATE_RATE : Fld := ⟨Reg.TH_RATE, 10, 10⟩
def Reg.TH_RATE_HYST : Fld := ⟨Reg.TH_RATE, 0, 5⟩
def Reg.TH_EXT_CFG (i : Nat) : Nat := 0x20108 + i
def Reg.TH_EXT_CFG_EN (i : Nat) : Fld := ⟨(Reg.TH_EXT_CFG i), 5, 1⟩
def Reg.TH_EXT_CFG_CH (i : Nat) : Fld := ⟨(Reg.TH_EXT_CFG i), 0, 5⟩
def Reg.TH_EXT_LIM (i : Nat) : Nat := 0x2010c + i
def Reg.TH_EXT_LIM_LIM (i : Nat) : Fld := ⟨(Reg.TH_EXT_LIM i), 0, 20⟩
def Reg.TH_CAL_CFG : Nat := 0x20110
def Reg.TH_CAL_CFG_PER : Fld := ⟨Reg.TH_CAL_CFG, 8, 6⟩
def Reg.TH_CAL_CFG_ITEMS : Fld := ⟨Reg.TH_CAL_CFG, 0, 5⟩
def Reg.TH_CAL_LIM : Nat := 0x20111
def Reg.TH_CAL_LIM_TDC : Fld := ⟨Reg.TH_CAL_LIM, 12, 8⟩
def Reg.TH_CAL_LIM_CMP : Fld := ⟨Reg.TH_CAL_LIM, 8, 4⟩
def Reg.TH_CAL_LIM_AX : Fld := ⟨Reg.TH_CAL_LIM, 0, 8⟩
def Reg.TH_CAL_STAT : Nat := 0x20112
def Reg.TH_CAL_STAT_RAMP : Fld := ⟨Reg.TH_CAL_STAT, 7, 1⟩
def Reg.TH_CAL_STAT_TILE : Fld := ⟨Reg.TH_CAL_STAT, 0, 6⟩
def Reg.TH_STEP_CNT : Nat := 0x20120
def Reg.TH_STEP_CNT_COUNT : Fld := ⟨Reg.TH_STEP_CNT, 0, 20⟩
def Reg.TH_SKIP_CNT : Nat := 0x20121
def Reg.TH_SKIP_CNT_COUNT : Fld := ⟨Reg.TH_SKIP_CNT, 0, 20⟩
def Reg.TH_SENS_FAIL : Nat := 0x20122
def Reg.TH_SENS_FAIL_COUNT : Fld := ⟨Reg.TH_SENS_FAIL, 0, 20⟩
def Reg.TH_FIRE_INH_CNT : Nat := 0x20123
def Reg.TH_FIRE_INH_CNT_COUNT : Fld := ⟨Reg.TH_FIRE_INH_CNT, 0, 20⟩
def Reg.TH_SHUT_CNT : Nat := 0x20124
def Reg.TH_SHUT_CNT_COUNT : Fld := ⟨Reg.TH_SHUT_CNT, 0, 20⟩
def Reg.TH_CAL_RUN : Nat := 0x20125
def Reg.TH_CAL_RUN_COUNT : Fld := ⟨Reg.TH_CAL_RUN, 0, 20⟩
def Reg.TH_CAL_FAIL : Nat := 0x20126
def Reg.TH_CAL_FAIL_COUNT : Fld := ⟨Reg.TH_CAL_FAIL, 0, 20⟩
def Reg.TH_CAL_LATE : Nat := 0x20127
def Reg.TH_CAL_LATE_COUNT : Fld := ⟨Reg.TH_CAL_LATE, 0, 20⟩
/-! Block 0x4: the map and the field tables stand in chapter 04 of spec/. -/
def Reg.SQ_CFG : Nat := 0x40000
def Reg.SQ_CFG_CNT_CLR : Fld := ⟨Reg.SQ_CFG, 5, 1⟩
def Reg.SQ_CFG_EXT_SEL : Fld := ⟨Reg.SQ_CFG, 3, 2⟩
def Reg.SQ_CFG_START_SRC : Fld := ⟨Reg.SQ_CFG, 2, 1⟩
def Reg.SQ_CFG_SV_GATE : Fld := ⟨Reg.SQ_CFG, 1, 1⟩
def Reg.SQ_STAT : Nat := 0x40001
def Reg.SQ_STAT_CFG_ERR : Fld := ⟨Reg.SQ_STAT, 5, 1⟩
def Reg.SQ_STAT_TABLE_ERR : Fld := ⟨Reg.SQ_STAT, 4, 1⟩
def Reg.SQ_STAT_PEND : Fld := ⟨Reg.SQ_STAT, 3, 1⟩
def Reg.SQ_STAT_GAP : Fld := ⟨Reg.SQ_STAT, 2, 1⟩
def Reg.SQ_STAT_RUN : Fld := ⟨Reg.SQ_STAT, 1, 1⟩
def Reg.SQ_ENTRIES : Nat := 0x40002
def Reg.SQ_ENTRIES_COUNT : Fld := ⟨Reg.SQ_ENTRIES, 0, 13⟩
def Reg.SQ_CYC_LEN_H : Nat := 0x40003
def Reg.SQ_CYC_LEN_H_LEN_H : Fld := ⟨Reg.SQ_CYC_LEN_H, 0, 11⟩
def Reg.SQ_CYC_LEN_L : Nat := 0x40004
def Reg.SQ_CYC_LEN_L_LEN_L : Fld := ⟨Reg.SQ_CYC_LEN_L, 0, 20⟩
def Reg.SQ_SEQ : Nat := 0x40005
def Reg.SQ_SEQ_SEQ : Fld := ⟨Reg.SQ_SEQ, 0, 20⟩
def Reg.SQ_FIRE_STAT : Nat := 0x40006
def Reg.SQ_FIRE_STAT_INH : Fld := ⟨Reg.SQ_FIRE_STAT, 0, 16⟩
def Reg.SQ_ENTRY_ERR : Nat := 0x40008
def Reg.SQ_ENTRY_ERR_COUNT : Fld := ⟨Reg.SQ_ENTRY_ERR, 0, 20⟩
def Reg.SQ_WIN_CLASH : Nat := 0x40009
def Reg.SQ_WIN_CLASH_COUNT : Fld := ⟨Reg.SQ_WIN_CLASH, 0, 20⟩
def Reg.SQ_START_DROP : Nat := 0x4000a
def Reg.SQ_START_DROP_COUNT : Fld := ⟨Reg.SQ_START_DROP, 0, 20⟩
def Reg.SQ_SKIP_SERVO : Nat := 0x4000b
def Reg.SQ_SKIP_SERVO_COUNT : Fld := ⟨Reg.SQ_SKIP_SERVO, 0, 20⟩
def Reg.SQ_SCAN_DROP : Nat := 0x4000c
def Reg.SQ_SCAN_DROP_COUNT : Fld := ⟨Reg.SQ_SCAN_DROP, 0, 20⟩
def Reg.SQ_PLAN_CFG : Nat := 0x40010
def Reg.SQ_PLAN_CFG_SPACING : Fld := ⟨Reg.SQ_PLAN_CFG, 0, 14⟩
def Reg.SQ_PLAN_STAT : Nat := 0x40011
def Reg.SQ_PLAN_STAT_MISMATCH : Fld := ⟨Reg.SQ_PLAN_STAT, 16, 4⟩
def Reg.SQ_PLAN_STAT_N : Fld := ⟨Reg.SQ_PLAN_STAT, 8, 8⟩
def Reg.SQ_PLAN_STAT_STATE : Fld := ⟨Reg.SQ_PLAN_STAT, 0, 2⟩
def Reg.SQ_PLAN_OFS : Nat := 0x40012
def Reg.SQ_PLAN_OFS_PHI : Fld := ⟨Reg.SQ_PLAN_OFS, 0, 14⟩
def Reg.SQ_PLAN_DIGEST_H : Nat := 0x40013
def Reg.SQ_PLAN_DIGEST_H_DIGEST : Fld := ⟨Reg.SQ_PLAN_DIGEST_H, 0, 16⟩
def Reg.SQ_PLAN_DIGEST_L : Nat := 0x40014
def Reg.SQ_PLAN_DIGEST_L_DIGEST : Fld := ⟨Reg.SQ_PLAN_DIGEST_L, 0, 16⟩
def Reg.SQ_TRJ_CFG (i : Nat) : Nat := 0x40020 + i
def Reg.SQ_TRJ_CFG_POINTS (i : Nat) : Fld := ⟨(Reg.SQ_TRJ_CFG i), 2, 11⟩
def Reg.SQ_TRJ_CFG_BIND (i : Nat) : Fld := ⟨(Reg.SQ_TRJ_CFG i), 0, 2⟩
def Reg.SQ_WIN_OFS (i : Nat) : Nat := 0x40100 + i * 0x2
def Reg.SQ_WIN_OFS_OFS (i : Nat) : Fld := ⟨(Reg.SQ_WIN_OFS i), 0, 14⟩
def Reg.SQ_WIN_LEN (i : Nat) : Nat := 0x40101 + i * 0x2
def Reg.SQ_WIN_LEN_LEN (i : Nat) : Fld := ⟨(Reg.SQ_WIN_LEN i), 0, 14⟩
def Reg.SQ_EMIT_CFG (i : Nat) : Nat := 0x40200 + i * 0x8
def Reg.SQ_EMIT_CFG_PW (i : Nat) : Fld := ⟨(Reg.SQ_EMIT_CFG i), 1, 6⟩
def Reg.SQ_EMIT_CFG_EN (i : Nat) : Fld := ⟨(Reg.SQ_EMIT_CFG i), 0, 1⟩
def Reg.SQ_EMIT_E (i : Nat) : Nat := 0x40201 + i * 0x8
def Reg.SQ_EMIT_E_E (i : Nat) : Fld := ⟨(Reg.SQ_EMIT_E i), 0, 12⟩
def Reg.SQ_GOV_B100 (i : Nat) : Nat := 0x40202 + i * 0x8
def Reg.SQ_GOV_B100_B (i : Nat) : Fld := ⟨(Reg.SQ_GOV_B100 i), 0, 20⟩
def Reg.SQ_GOV_B10M (i : Nat) : Nat := 0x40203 + i * 0x8
def Reg.SQ_GOV_B10M_B (i : Nat) : Fld := ⟨(Reg.SQ_GOV_B10M i), 0, 20⟩
def Reg.SQ_GOV_B1S (i : Nat) : Nat := 0x40204 + i * 0x8
def Reg.SQ_GOV_B1S_B (i : Nat) : Fld := ⟨(Reg.SQ_GOV_B1S i), 0, 20⟩
def Reg.SQ_GOV_SKIP (i : Nat) : Nat := 0x40205 + i * 0x8
def Reg.SQ_GOV_SKIP_COUNT (i : Nat) : Fld := ⟨(Reg.SQ_GOV_SKIP i), 0, 20⟩
def Reg.SQ_GOV_L100 (i : Nat) : Nat := 0x40206 + i * 0x8
def Reg.SQ_GOV_L100_L (i : Nat) : Fld := ⟨(Reg.SQ_GOV_L100 i), 0, 20⟩
def Reg.SQ_GRP_FIRST (i j : Nat) : Nat := 0x42000 + i * 0x8 + j * 0x2
def Reg.SQ_GRP_FIRST_PIXEL (i j : Nat) : Fld := ⟨(Reg.SQ_GRP_FIRST i j), 0, 15⟩
def Reg.SQ_GRP_COUNT (i j : Nat) : Nat := 0x42001 + i * 0x8 + j * 0x2
def Reg.SQ_GRP_COUNT_COUNT (i j : Nat) : Fld := ⟨(Reg.SQ_GRP_COUNT i j), 0, 15⟩
def Reg.SQ_SHOT_S0 (i : Nat) : Nat := 0x44000 + i * 0x4
def Reg.SQ_SHOT_S1 (i : Nat) : Nat := 0x44001 + i * 0x4
def Reg.SQ_SHOT_S2 (i : Nat) : Nat := 0x44002 + i * 0x4
def Reg.SQ_SHOT_S3 (i : Nat) : Nat := 0x44003 + i * 0x4
def Reg.SQ_TRJ_POS (i j : Nat) : Nat := 0x48000 + i * 0x800 + j * 0x2
def Reg.SQ_TRJ_POS_POS (i j : Nat) : Fld := ⟨(Reg.SQ_TRJ_POS i j), 0, 20⟩
def Reg.SQ_TRJ_ACC (i j : Nat) : Nat := 0x48001 + i * 0x800 + j * 0x2
def Reg.SQ_TRJ_ACC_ACC (i j : Nat) : Fld := ⟨(Reg.SQ_TRJ_ACC i j), 0, 20⟩
/-! Block 0x5: the map and the field tables stand in chapter 07 of spec/. -/
def Reg.SV_AX_CFG (i : Nat) : Nat := 0x50000 + i * 0x40
def Reg.SV_AX_CFG_OSC_ACT (i : Nat) : Fld := ⟨(Reg.SV_AX_CFG i), 12, 1⟩
def Reg.SV_AX_CFG_F1_EN (i : Nat) : Fld := ⟨(Reg.SV_AX_CFG i), 11, 1⟩
def Reg.SV_AX_CFG_F0_EN (i : Nat) : Fld := ⟨(Reg.SV_AX_CFG i), 10, 1⟩
def Reg.SV_AX_CFG_SRC (i : Nat) : Fld := ⟨(Reg.SV_AX_CFG i), 5, 5⟩
def Reg.SV_AX_CFG_RESON (i : Nat) : Fld := ⟨(Reg.SV_AX_CFG i), 4, 1⟩
def Reg.SV_AX_CFG_MODE (i : Nat) : Fld := ⟨(Reg.SV_AX_CFG i), 0, 2⟩
def Reg.SV_AX_STAT (i : Nat) : Nat := 0x50001 + i * 0x40
def Reg.SV_AX_STAT_CAUSE (i : Nat) : Fld := ⟨(Reg.SV_AX_STAT i), 14, 2⟩
def Reg.SV_AX_STAT_CFG_ERR (i : Nat) : Fld := ⟨(Reg.SV_AX_STAT i), 13, 1⟩
def Reg.SV_AX_STAT_ACQ_TMO_SEEN (i : Nat) : Fld := ⟨(Reg.SV_AX_STAT i), 12, 1⟩
def Reg.SV_AX_STAT_OSC_SEEN (i : Nat) : Fld := ⟨(Reg.SV_AX_STAT i), 11, 1⟩
def Reg.SV_AX_STAT_FORCED_SEEN (i : Nat) : Fld := ⟨(Reg.SV_AX_STAT i), 10, 1⟩
def Reg.SV_AX_STAT_FORCING (i : Nat) : Fld := ⟨(Reg.SV_AX_STAT i), 9, 1⟩
def Reg.SV_AX_STAT_SAT (i : Nat) : Fld := ⟨(Reg.SV_AX_STAT i), 8, 1⟩
def Reg.SV_AX_STAT_LOCK (i : Nat) : Fld := ⟨(Reg.SV_AX_STAT i), 7, 1⟩
def Reg.SV_AX_STAT_PHASE_SLEW (i : Nat) : Fld := ⟨(Reg.SV_AX_STAT i), 6, 1⟩
def Reg.SV_AX_STAT_ERR (i : Nat) : Fld := ⟨(Reg.SV_AX_STAT i), 5, 1⟩
def Reg.SV_AX_STAT_TEST (i : Nat) : Fld := ⟨(Reg.SV_AX_STAT i), 4, 1⟩
def Reg.SV_AX_STAT_STATE (i : Nat) : Fld := ⟨(Reg.SV_AX_STAT i), 0, 3⟩
def Reg.SV_SETPT (i : Nat) : Nat := 0x50002 + i * 0x40
def Reg.SV_SETPT_POS (i : Nat) : Fld := ⟨(Reg.SV_SETPT i), 0, 20⟩
def Reg.SV_KP (i : Nat) : Nat := 0x50003 + i * 0x40
def Reg.SV_KP_K (i : Nat) : Fld := ⟨(Reg.SV_KP i), 0, 20⟩
def Reg.SV_KI (i : Nat) : Nat := 0x50004 + i * 0x40
def Reg.SV_KI_K (i : Nat) : Fld := ⟨(Reg.SV_KI i), 0, 20⟩
def Reg.SV_KD (i : Nat) : Nat := 0x50005 + i * 0x40
def Reg.SV_KD_K (i : Nat) : Fld := ⟨(Reg.SV_KD i), 0, 20⟩
def Reg.SV_KA (i : Nat) : Nat := 0x50006 + i * 0x40
def Reg.SV_KA_K (i : Nat) : Fld := ⟨(Reg.SV_KA i), 0, 20⟩
def Reg.SV_I_LIM (i : Nat) : Nat := 0x50007 + i * 0x40
def Reg.SV_I_LIM_LIM (i : Nat) : Fld := ⟨(Reg.SV_I_LIM i), 0, 20⟩
def Reg.SV_OUT_LIM (i : Nat) : Nat := 0x50008 + i * 0x40
def Reg.SV_OUT_LIM_LIM (i : Nat) : Fld := ⟨(Reg.SV_OUT_LIM i), 0, 20⟩
def Reg.SV_SLEW_LIM (i : Nat) : Nat := 0x50009 + i * 0x40
def Reg.SV_SLEW_LIM_LIM (i : Nat) : Fld := ⟨(Reg.SV_SLEW_LIM i), 0, 20⟩
def Reg.SV_FORCE_SLEW (i : Nat) : Nat := 0x5000a + i * 0x40
def Reg.SV_FORCE_SLEW_LIM (i : Nat) : Fld := ⟨(Reg.SV_FORCE_SLEW i), 0, 20⟩
def Reg.SV_ERR_LIM (i : Nat) : Nat := 0x5000b + i * 0x40
def Reg.SV_ERR_LIM_LIM (i : Nat) : Fld := ⟨(Reg.SV_ERR_LIM i), 0, 20⟩
def Reg.SV_HANDOVER_LIM (i : Nat) : Nat := 0x5000c + i * 0x40
def Reg.SV_HANDOVER_LIM_LIM (i : Nat) : Fld := ⟨(Reg.SV_HANDOVER_LIM i), 0, 20⟩
def Reg.SV_ACQ_AMP (i : Nat) : Nat := 0x5000d + i * 0x40
def Reg.SV_ACQ_AMP_AMP (i : Nat) : Fld := ⟨(Reg.SV_ACQ_AMP i), 0, 20⟩
def Reg.SV_ACQ_CFG (i : Nat) : Nat := 0x5000e + i * 0x40
def Reg.SV_ACQ_CFG_TMO (i : Nat) : Fld := ⟨(Reg.SV_ACQ_CFG i), 8, 12⟩
def Reg.SV_ACQ_CFG_TOL (i : Nat) : Fld := ⟨(Reg.SV_ACQ_CFG i), 0, 8⟩
def Reg.SV_FLY_LEN (i : Nat) : Nat := 0x5000f + i * 0x40
def Reg.SV_FLY_LEN_L (i : Nat) : Fld := ⟨(Reg.SV_FLY_LEN i), 0, 16⟩
def Reg.SV_F0_B0 (i : Nat) : Nat := 0x50010 + i * 0x40
def Reg.SV_F0_B0_COEF (i : Nat) : Fld := ⟨(Reg.SV_F0_B0 i), 0, 20⟩
def Reg.SV_F0_B1 (i : Nat) : Nat := 0x50011 + i * 0x40
def Reg.SV_F0_B1_COEF (i : Nat) : Fld := ⟨(Reg.SV_F0_B1 i), 0, 20⟩
def Reg.SV_F0_B2 (i : Nat) : Nat := 0x50012 + i * 0x40
def Reg.SV_F0_B2_COEF (i : Nat) : Fld := ⟨(Reg.SV_F0_B2 i), 0, 20⟩
def Reg.SV_F0_A1 (i : Nat) : Nat := 0x50013 + i * 0x40
def Reg.SV_F0_A1_COEF (i : Nat) : Fld := ⟨(Reg.SV_F0_A1 i), 0, 20⟩
def Reg.SV_F0_A2 (i : Nat) : Nat := 0x50014 + i * 0x40
def Reg.SV_F0_A2_COEF (i : Nat) : Fld := ⟨(Reg.SV_F0_A2 i), 0, 20⟩
def Reg.SV_F1_B0 (i : Nat) : Nat := 0x50018 + i * 0x40
def Reg.SV_F1_B0_COEF (i : Nat) : Fld := ⟨(Reg.SV_F1_B0 i), 0, 20⟩
def Reg.SV_F1_B1 (i : Nat) : Nat := 0x50019 + i * 0x40
def Reg.SV_F1_B1_COEF (i : Nat) : Fld := ⟨(Reg.SV_F1_B1 i), 0, 20⟩
def Reg.SV_F1_B2 (i : Nat) : Nat := 0x5001a + i * 0x40
def Reg.SV_F1_B2_COEF (i : Nat) : Fld := ⟨(Reg.SV_F1_B2 i), 0, 20⟩
def Reg.SV_F1_A1 (i : Nat) : Nat := 0x5001b + i * 0x40
def Reg.SV_F1_A1_COEF (i : Nat) : Fld := ⟨(Reg.SV_F1_A1 i), 0, 20⟩
def Reg.SV_F1_A2 (i : Nat) : Nat := 0x5001c + i * 0x40
def Reg.SV_F1_A2_COEF (i : Nat) : Fld := ⟨(Reg.SV_F1_A2 i), 0, 20⟩
def Reg.SV_OSC_AMP (i : Nat) : Nat := 0x50020 + i * 0x40
def Reg.SV_OSC_AMP_AMP (i : Nat) : Fld := ⟨(Reg.SV_OSC_AMP i), 0, 20⟩
def Reg.SV_OSC_CFG (i : Nat) : Nat := 0x50021 + i * 0x40
def Reg.SV_OSC_CFG_WIN (i : Nat) : Fld := ⟨(Reg.SV_OSC_CFG i), 8, 12⟩
def Reg.SV_OSC_CFG_CNT (i : Nat) : Fld := ⟨(Reg.SV_OSC_CFG i), 0, 8⟩
def Reg.SV_INJ_CFG (i : Nat) : Nat := 0x50024 + i * 0x40
def Reg.SV_INJ_CFG_STOP (i : Nat) : Fld := ⟨(Reg.SV_INJ_CFG i), 5, 1⟩
def Reg.SV_INJ_CFG_START (i : Nat) : Fld := ⟨(Reg.SV_INJ_CFG i), 4, 1⟩
def Reg.SV_INJ_CFG_POINT (i : Nat) : Fld := ⟨(Reg.SV_INJ_CFG i), 3, 1⟩
def Reg.SV_INJ_CFG_WAVE (i : Nat) : Fld := ⟨(Reg.SV_INJ_CFG i), 1, 2⟩
def Reg.SV_INJ_AMP (i : Nat) : Nat := 0x50025 + i * 0x40
def Reg.SV_INJ_AMP_AMP (i : Nat) : Fld := ⟨(Reg.SV_INJ_AMP i), 0, 20⟩
def Reg.SV_INJ_FREQ (i : Nat) : Nat := 0x50026 + i * 0x40
def Reg.SV_INJ_FREQ_INC (i : Nat) : Fld := ⟨(Reg.SV_INJ_FREQ i), 0, 20⟩
def Reg.SV_INJ_LEN (i : Nat) : Nat := 0x50027 + i * 0x40
def Reg.SV_INJ_LEN_LEN (i : Nat) : Fld := ⟨(Reg.SV_INJ_LEN i), 0, 20⟩
def Reg.SV_OPEN_OUT (i : Nat) : Nat := 0x50028 + i * 0x40
def Reg.SV_OPEN_OUT_OUT (i : Nat) : Fld := ⟨(Reg.SV_OPEN_OUT i), 0, 20⟩
def Reg.SV_POS (i : Nat) : Nat := 0x50030 + i * 0x40
def Reg.SV_POS_Y (i : Nat) : Fld := ⟨(Reg.SV_POS i), 0, 20⟩
def Reg.SV_ERR (i : Nat) : Nat := 0x50031 + i * 0x40
def Reg.SV_ERR_E (i : Nat) : Fld := ⟨(Reg.SV_ERR i), 0, 20⟩
def Reg.SV_OUT (i : Nat) : Nat := 0x50032 + i * 0x40
def Reg.SV_OUT_U (i : Nat) : Fld := ⟨(Reg.SV_OUT i), 0, 20⟩
def Reg.SV_I (i : Nat) : Nat := 0x50033 + i * 0x40
def Reg.SV_I_I (i : Nat) : Fld := ⟨(Reg.SV_I i), 0, 20⟩
def Reg.SV_HOLD_CNT (i : Nat) : Nat := 0x50034 + i * 0x40
def Reg.SV_HOLD_CNT_COUNT (i : Nat) : Fld := ⟨(Reg.SV_HOLD_CNT i), 0, 20⟩
def Reg.SV_ERR_CNT (i : Nat) : Nat := 0x50035 + i * 0x40
def Reg.SV_ERR_CNT_COUNT (i : Nat) : Fld := ⟨(Reg.SV_ERR_CNT i), 0, 20⟩
def Reg.SV_OSC_CNT (i : Nat) : Nat := 0x50036 + i * 0x40
def Reg.SV_OSC_CNT_COUNT (i : Nat) : Fld := ⟨(Reg.SV_OSC_CNT i), 0, 20⟩
def Reg.SV_FORCE_CNT (i : Nat) : Nat := 0x50037 + i * 0x40
def Reg.SV_FORCE_CNT_COUNT (i : Nat) : Fld := ⟨(Reg.SV_FORCE_CNT i), 0, 20⟩
def Reg.SV_CFG : Nat := 0x50100
def Reg.SV_CFG_CNT_CLR : Fld := ⟨Reg.SV_CFG, 0, 1⟩
/-! Block 0x6: the map and the field tables stand in chapter 08 of spec/. -/
def Reg.AX_CFG : Nat := 0x60000
def Reg.AX_CFG_SYNC_PIN_EN : Fld := ⟨Reg.AX_CFG, 2, 1⟩
def Reg.AX_CFG_SYNC : Fld := ⟨Reg.AX_CFG, 1, 1⟩
def Reg.AX_CFG_CNT_CLR : Fld := ⟨Reg.AX_CFG, 0, 1⟩
def Reg.AX_DEV_STAT : Nat := 0x60001
def Reg.AX_DEV_STAT_SYNC_SEEN : Fld := ⟨Reg.AX_DEV_STAT, 2, 1⟩
def Reg.AX_DEV_STAT_FIR_LOCK : Fld := ⟨Reg.AX_DEV_STAT, 1, 1⟩
def Reg.AX_DEV_STAT_CFG_ERR : Fld := ⟨Reg.AX_DEV_STAT, 0, 1⟩
def Reg.AX_IEX (i : Nat) : Nat := 0x60008 + i
def Reg.AX_IEX_I (i : Nat) : Fld := ⟨(Reg.AX_IEX i), 0, 8⟩
def Reg.AX_VEX (i : Nat) : Nat := 0x6000c + i
def Reg.AX_VEX_V (i : Nat) : Fld := ⟨(Reg.AX_VEX i), 0, 12⟩
def Reg.AX_BIAS : Nat := 0x6000e
def Reg.AX_BIAS_EN : Fld := ⟨Reg.AX_BIAS, 0, 1⟩
def Reg.AX_TDAC : Nat := 0x6000f
def Reg.AX_TDAC_EN : Fld := ⟨Reg.AX_TDAC, 12, 1⟩
def Reg.AX_TDAC_CODE : Fld := ⟨Reg.AX_TDAC, 0, 12⟩
def Reg.AX_PAIR_CFG (i : Nat) : Nat := 0x60010 + i
def Reg.AX_PAIR_CFG_SOLO (i : Nat) : Fld := ⟨(Reg.AX_PAIR_CFG i), 12, 2⟩
def Reg.AX_PAIR_CFG_USETTLE (i : Nat) : Fld := ⟨(Reg.AX_PAIR_CFG i), 9, 3⟩
def Reg.AX_PAIR_CFG_FIRSEL (i : Nat) : Fld := ⟨(Reg.AX_PAIR_CFG i), 8, 1⟩
def Reg.AX_PAIR_CFG_NSLOT (i : Nat) : Fld := ⟨(Reg.AX_PAIR_CFG i), 4, 4⟩
def Reg.AX_PAIR_CFG_PRESET (i : Nat) : Fld := ⟨(Reg.AX_PAIR_CFG i), 1, 3⟩
def Reg.AX_PAIR_CFG_RUN (i : Nat) : Fld := ⟨(Reg.AX_PAIR_CFG i), 0, 1⟩
def Reg.AX_PAIR_STAT (i : Nat) : Nat := 0x60014 + i
def Reg.AX_PAIR_STAT_SLOT (i : Nat) : Fld := ⟨(Reg.AX_PAIR_STAT i), 3, 3⟩
def Reg.AX_PAIR_STAT_CFG_ERR (i : Nat) : Fld := ⟨(Reg.AX_PAIR_STAT i), 2, 1⟩
def Reg.AX_PAIR_STAT_SEC_OVR (i : Nat) : Fld := ⟨(Reg.AX_PAIR_STAT i), 1, 1⟩
def Reg.AX_PAIR_STAT_RUNNING (i : Nat) : Fld := ⟨(Reg.AX_PAIR_STAT i), 0, 1⟩
def Reg.AX_PIN_CFG (i : Nat) : Nat := 0x60020 + i
def Reg.AX_PIN_CFG_SRC (i : Nat) : Fld := ⟨(Reg.AX_PIN_CFG i), 3, 2⟩
def Reg.AX_PIN_CFG_ROLE (i : Nat) : Fld := ⟨(Reg.AX_PIN_CFG i), 0, 3⟩
def Reg.AX_SLOT (i j : Nat) : Nat := 0x60040 + i * 0x8 + j
def Reg.AX_SLOT_CH (i j : Nat) : Fld := ⟨(Reg.AX_SLOT i j), 0, 5⟩
def Reg.AX_CH_CFG (i : Nat) : Nat := 0x60100 + i * 0x40
def Reg.AX_CH_CFG_DCB_EN (i : Nat) : Fld := ⟨(Reg.AX_CH_CFG i), 5, 1⟩
def Reg.AX_CH_CFG_LIN_EN (i : Nat) : Fld := ⟨(Reg.AX_CH_CFG i), 4, 1⟩
def Reg.AX_CH_CFG_GAIN (i : Nat) : Fld := ⟨(Reg.AX_CH_CFG i), 1, 3⟩
def Reg.AX_CH_CFG_EN (i : Nat) : Fld := ⟨(Reg.AX_CH_CFG i), 0, 1⟩
def Reg.AX_CH_SEL (i : Nat) : Nat := 0x60101 + i * 0x40
def Reg.AX_CH_SEL_EXC (i : Nat) : Fld := ⟨(Reg.AX_CH_SEL i), 13, 3⟩
def Reg.AX_CH_SEL_PSEL (i : Nat) : Fld := ⟨(Reg.AX_CH_SEL i), 12, 1⟩
def Reg.AX_CH_SEL_NSEL (i : Nat) : Fld := ⟨(Reg.AX_CH_SEL i), 10, 2⟩
def Reg.AX_CH_SEL_NEG (i : Nat) : Fld := ⟨(Reg.AX_CH_SEL i), 5, 5⟩
def Reg.AX_CH_SEL_POS (i : Nat) : Fld := ⟨(Reg.AX_CH_SEL i), 0, 5⟩
def Reg.AX_STAT (i : Nat) : Nat := 0x60102 + i * 0x40
def Reg.AX_STAT_THR (i : Nat) : Fld := ⟨(Reg.AX_STAT i), 11, 4⟩
def Reg.AX_STAT_CHK_DEFER (i : Nat) : Fld := ⟨(Reg.AX_STAT i), 10, 1⟩
def Reg.AX_STAT_CHK (i : Nat) : Fld := ⟨(Reg.AX_STAT i), 9, 1⟩
def Reg.AX_STAT_BLANK (i : Nat) : Fld := ⟨(Reg.AX_STAT i), 8, 1⟩
def Reg.AX_STAT_UNSET (i : Nat) : Fld := ⟨(Reg.AX_STAT i), 7, 1⟩
def Reg.AX_STAT_TFALL (i : Nat) : Fld := ⟨(Reg.AX_STAT i), 6, 1⟩
def Reg.AX_STAT_CFG_ERR (i : Nat) : Fld := ⟨(Reg.AX_STAT i), 5, 1⟩
def Reg.AX_STAT_SHORT (i : Nat) : Fld := ⟨(Reg.AX_STAT i), 4, 1⟩
def Reg.AX_STAT_OPEN (i : Nat) : Fld := ⟨(Reg.AX_STAT i), 3, 1⟩
def Reg.AX_STAT_PLAUS (i : Nat) : Fld := ⟨(Reg.AX_STAT i), 2, 1⟩
def Reg.AX_STAT_CLIP (i : Nat) : Fld := ⟨(Reg.AX_STAT i), 1, 1⟩
def Reg.AX_STAT_OVR (i : Nat) : Fld := ⟨(Reg.AX_STAT i), 0, 1⟩
def Reg.AX_VAL (i : Nat) : Nat := 0x60103 + i * 0x40
def Reg.AX_VAL_VALUE (i : Nat) : Fld := ⟨(Reg.AX_VAL i), 0, 20⟩
def Reg.AX_VSTAT (i : Nat) : Nat := 0x60104 + i * 0x40
def Reg.AX_VSTAT_STATUS (i : Nat) : Fld := ⟨(Reg.AX_VSTAT i), 0, 20⟩
def Reg.AX_PLAUS_LIM (i : Nat) : Nat := 0x60105 + i * 0x40
def Reg.AX_PLAUS_LIM_N (i : Nat) : Fld := ⟨(Reg.AX_PLAUS_LIM i), 16, 4⟩
def Reg.AX_PLAUS_LIM_LIM (i : Nat) : Fld := ⟨(Reg.AX_PLAUS_LIM i), 0, 16⟩
def Reg.AX_ZCHK (i : Nat) : Nat := 0x60106 + i * 0x40
def Reg.AX_ZCHK_ZMIN (i : Nat) : Fld := ⟨(Reg.AX_ZCHK i), 8, 12⟩
def Reg.AX_ZCHK_AMP (i : Nat) : Fld := ⟨(Reg.AX_ZCHK i), 7, 1⟩
def Reg.AX_ZCHK_FREQ (i : Nat) : Fld := ⟨(Reg.AX_ZCHK i), 6, 1⟩
def Reg.AX_ZCHK_PER (i : Nat) : Fld := ⟨(Reg.AX_ZCHK i), 0, 6⟩
def Reg.AX_ZMAX (i : Nat) : Nat := 0x60107 + i * 0x40
def Reg.AX_ZMAX_ZMAX (i : Nat) : Fld := ⟨(Reg.AX_ZMAX i), 0, 20⟩
def Reg.AX_Z (i : Nat) : Nat := 0x60108 + i * 0x40
def Reg.AX_Z_Z (i : Nat) : Fld := ⟨(Reg.AX_Z i), 0, 20⟩
def Reg.AX_DCB (i : Nat) : Nat := 0x60109 + i * 0x40
def Reg.AX_DCB_FREEZE (i : Nat) : Fld := ⟨(Reg.AX_DCB i), 19, 1⟩
def Reg.AX_DCB_K (i : Nat) : Fld := ⟨(Reg.AX_DCB i), 0, 5⟩
def Reg.AX_LIN_CFG (i : Nat) : Nat := 0x6010a + i * 0x40
def Reg.AX_LIN_CFG_ORD_T (i : Nat) : Fld := ⟨(Reg.AX_LIN_CFG i), 9, 2⟩
def Reg.AX_LIN_CFG_ORD_S (i : Nat) : Fld := ⟨(Reg.AX_LIN_CFG i), 6, 3⟩
def Reg.AX_LIN_CFG_TSEL (i : Nat) : Fld := ⟨(Reg.AX_LIN_CFG i), 5, 1⟩
def Reg.AX_LIN_CFG_TCH (i : Nat) : Fld := ⟨(Reg.AX_LIN_CFG i), 0, 5⟩
def Reg.AX_OVR_CNT (i : Nat) : Nat := 0x6010b + i * 0x40
def Reg.AX_OVR_CNT_COUNT (i : Nat) : Fld := ⟨(Reg.AX_OVR_CNT i), 0, 20⟩
def Reg.AX_PLAUS_CNT (i : Nat) : Nat := 0x6010c + i * 0x40
def Reg.AX_PLAUS_CNT_COUNT (i : Nat) : Fld := ⟨(Reg.AX_PLAUS_CNT i), 0, 20⟩
def Reg.AX_UNSET_CNT (i : Nat) : Nat := 0x6010d + i * 0x40
def Reg.AX_UNSET_CNT_COUNT (i : Nat) : Fld := ⟨(Reg.AX_UNSET_CNT i), 0, 20⟩
def Reg.AX_THR_LVL (i j : Nat) : Nat := 0x60110 + i * 0x40 + j * 0x2
def Reg.AX_THR_LVL_LEVEL (i j : Nat) : Fld := ⟨(Reg.AX_THR_LVL i j), 0, 20⟩
def Reg.AX_THR_CFG (i j : Nat) : Nat := 0x60111 + i * 0x40 + j * 0x2
def Reg.AX_THR_CFG_HYST (i j : Nat) : Fld := ⟨(Reg.AX_THR_CFG i j), 4, 16⟩
def Reg.AX_THR_CFG_TRIG (i j : Nat) : Fld := ⟨(Reg.AX_THR_CFG i j), 3, 1⟩
def Reg.AX_THR_CFG_SEV (i j : Nat) : Fld := ⟨(Reg.AX_THR_CFG i j), 2, 1⟩
def Reg.AX_THR_CFG_DIR (i j : Nat) : Fld := ⟨(Reg.AX_THR_CFG i j), 1, 1⟩
def Reg.AX_THR_CFG_EN (i j : Nat) : Fld := ⟨(Reg.AX_THR_CFG i j), 0, 1⟩
def Reg.AX_LIN_C (i j k : Nat) : Nat := 0x60120 + i * 0x40 + j * 0x4 + k
def Reg.AX_LIN_C_C (i j k : Nat) : Fld := ⟨(Reg.AX_LIN_C i j k), 0, 20⟩
def Reg.AX_FIR (i j : Nat) : Nat := 0x61000 + i * 0x40 + j
def Reg.AX_FIR_COEF (i j : Nat) : Fld := ⟨(Reg.AX_FIR i j), 0, 20⟩
/-! Block 0x7: the map and the field tables stand in chapter 10 of spec/. -/
def Reg.IL_CFG : Nat := 0x70000
def Reg.IL_CFG_CNT_CLR : Fld := ⟨Reg.IL_CFG, 0, 1⟩
def Reg.IL_STAT : Nat := 0x70001
def Reg.IL_STAT_DRT_FAIL : Fld := ⟨Reg.IL_STAT, 0, 4⟩
def Reg.IL_CSYNC_CFG (i : Nat) : Nat := 0x70004 + i
def Reg.IL_CSYNC_CFG_POL (i : Nat) : Fld := ⟨(Reg.IL_CSYNC_CFG i), 8, 1⟩
def Reg.IL_CSYNC_CFG_DLY (i : Nat) : Fld := ⟨(Reg.IL_CSYNC_CFG i), 0, 8⟩
def Reg.IL_DRT_SRC (i : Nat) : Nat := 0x70010 + i * 0x4
def Reg.IL_DRT_SRC_MIN (i : Nat) : Fld := ⟨(Reg.IL_DRT_SRC i), 5, 8⟩
def Reg.IL_DRT_SRC_CH (i : Nat) : Fld := ⟨(Reg.IL_DRT_SRC i), 0, 5⟩
def Reg.IL_DRT_T0 (i : Nat) : Nat := 0x70011 + i * 0x4
def Reg.IL_DRT_T0_T (i : Nat) : Fld := ⟨(Reg.IL_DRT_T0 i), 0, 20⟩
def Reg.IL_DRT_T1 (i : Nat) : Nat := 0x70012 + i * 0x4
def Reg.IL_DRT_T1_T (i : Nat) : Fld := ⟨(Reg.IL_DRT_T1 i), 0, 20⟩
def Reg.IL_CH_CFG (i : Nat) : Nat := 0x70100 + i * 0x10
def Reg.IL_CH_CFG_RESTART (i : Nat) : Fld := ⟨(Reg.IL_CH_CFG i), 10, 1⟩
def Reg.IL_CH_CFG_CSEL (i : Nat) : Fld := ⟨(Reg.IL_CH_CFG i), 7, 3⟩
def Reg.IL_CH_CFG_STRETCH (i : Nat) : Fld := ⟨(Reg.IL_CH_CFG i), 6, 1⟩
def Reg.IL_CH_CFG_DGRP (i : Nat) : Fld := ⟨(Reg.IL_CH_CFG i), 4, 2⟩
def Reg.IL_CH_CFG_DRT_EN (i : Nat) : Fld := ⟨(Reg.IL_CH_CFG i), 3, 1⟩
def Reg.IL_CH_CFG_CURVE (i : Nat) : Fld := ⟨(Reg.IL_CH_CFG i), 2, 1⟩
def Reg.IL_CH_CFG_EN (i : Nat) : Fld := ⟨(Reg.IL_CH_CFG i), 0, 1⟩
def Reg.IL_CH_LVL (i : Nat) : Nat := 0x70101 + i * 0x10
def Reg.IL_CH_LVL_LEVEL (i : Nat) : Fld := ⟨(Reg.IL_CH_LVL i), 0, 12⟩
def Reg.IL_CH_FADE (i : Nat) : Nat := 0x70102 + i * 0x10
def Reg.IL_CH_FADE_MS (i : Nat) : Fld := ⟨(Reg.IL_CH_FADE i), 0, 16⟩
def Reg.IL_CH_SNS (i : Nat) : Nat := 0x70103 + i * 0x10
def Reg.IL_CH_SNS_SHORT_THR (i : Nat) : Fld := ⟨(Reg.IL_CH_SNS i), 10, 10⟩
def Reg.IL_CH_SNS_OPEN_THR (i : Nat) : Fld := ⟨(Reg.IL_CH_SNS i), 0, 10⟩
def Reg.IL_CH_STAT (i : Nat) : Nat := 0x70104 + i * 0x10
def Reg.IL_CH_STAT_UNVERIFIED (i : Nat) : Fld := ⟨(Reg.IL_CH_STAT i), 5, 1⟩
def Reg.IL_CH_STAT_LATCH (i : Nat) : Fld := ⟨(Reg.IL_CH_STAT i), 4, 1⟩
def Reg.IL_CH_STAT_STUCK (i : Nat) : Fld := ⟨(Reg.IL_CH_STAT i), 3, 1⟩
def Reg.IL_CH_STAT_SHORT (i : Nat) : Fld := ⟨(Reg.IL_CH_STAT i), 2, 1⟩
def Reg.IL_CH_STAT_OPEN (i : Nat) : Fld := ⟨(Reg.IL_CH_STAT i), 1, 1⟩
def Reg.IL_CH_STAT_FADING (i : Nat) : Fld := ⟨(Reg.IL_CH_STAT i), 0, 1⟩
def Reg.IL_CH_NOW (i : Nat) : Nat := 0x70105 + i * 0x10
def Reg.IL_CH_NOW_ON (i : Nat) : Fld := ⟨(Reg.IL_CH_NOW i), 0, 12⟩
def Reg.IL_CH_SENSE (i : Nat) : Nat := 0x70106 + i * 0x10
def Reg.IL_CH_SENSE_MV (i : Nat) : Fld := ⟨(Reg.IL_CH_SENSE i), 0, 11⟩
def Reg.IL_CH_FLT_CNT (i : Nat) : Nat := 0x70107 + i * 0x10
def Reg.IL_CH_FLT_CNT_COUNT (i : Nat) : Fld := ⟨(Reg.IL_CH_FLT_CNT i), 0, 20⟩
/-! Block 0x8: the map and the field tables stand in chapter 13 of spec/. -/
def Reg.SF_CFG : Nat := 0x80000
def Reg.SF_CFG_CRC_TRIP : Fld := ⟨Reg.SF_CFG, 0, 1⟩
def Reg.SF_STAT : Nat := 0x80001
def Reg.SF_STAT_SRST_B : Fld := ⟨Reg.SF_STAT, 9, 1⟩
def Reg.SF_STAT_SRST_A : Fld := ⟨Reg.SF_STAT, 8, 1⟩
def Reg.SF_STAT_SIB_CAUSE : Fld := ⟨Reg.SF_STAT, 4, 4⟩
def Reg.SF_STAT_SIA_CAUSE : Fld := ⟨Reg.SF_STAT, 0, 4⟩
def Reg.SF_FSL_UNK : Nat := 0x80002
def Reg.SF_FSL_UNK_COUNT : Fld := ⟨Reg.SF_FSL_UNK, 0, 20⟩
def Reg.SF_CH_CFG (i : Nat) : Nat := 0x80010 + i * 0x10
def Reg.SF_CH_CFG_CONFIRM (i : Nat) : Fld := ⟨(Reg.SF_CH_CFG i), 14, 3⟩
def Reg.SF_CH_CFG_FIRE_MIN (i : Nat) : Fld := ⟨(Reg.SF_CH_CFG i), 10, 4⟩
def Reg.SF_CH_CFG_AXMASK (i : Nat) : Fld := ⟨(Reg.SF_CH_CFG i), 6, 4⟩
def Reg.SF_CH_CFG_FSL_RST (i : Nat) : Fld := ⟨(Reg.SF_CH_CFG i), 5, 1⟩
def Reg.SF_CH_CFG_SRST_EN (i : Nat) : Fld := ⟨(Reg.SF_CH_CFG i), 4, 1⟩
def Reg.SF_CH_CFG_DEG_EN (i : Nat) : Fld := ⟨(Reg.SF_CH_CFG i), 3, 1⟩
def Reg.SF_CH_CFG_FB_EN (i : Nat) : Fld := ⟨(Reg.SF_CH_CFG i), 2, 1⟩
def Reg.SF_CH_CFG_EN (i : Nat) : Fld := ⟨(Reg.SF_CH_CFG i), 0, 1⟩
def Reg.SF_CH_STAT (i : Nat) : Nat := 0x80011 + i * 0x10
def Reg.SF_CH_STAT_DEG_LEFT (i : Nat) : Fld := ⟨(Reg.SF_CH_STAT i), 10, 7⟩
def Reg.SF_CH_STAT_RESET_READY (i : Nat) : Fld := ⟨(Reg.SF_CH_STAT i), 9, 1⟩
def Reg.SF_CH_STAT_SFB (i : Nat) : Fld := ⟨(Reg.SF_CH_STAT i), 8, 1⟩
def Reg.SF_CH_STAT_SOB_RB (i : Nat) : Fld := ⟨(Reg.SF_CH_STAT i), 7, 1⟩
def Reg.SF_CH_STAT_SOA_RB (i : Nat) : Fld := ⟨(Reg.SF_CH_STAT i), 6, 1⟩
def Reg.SF_CH_STAT_TRIP_SEEN (i : Nat) : Fld := ⟨(Reg.SF_CH_STAT i), 5, 1⟩
def Reg.SF_CH_STAT_STATE (i : Nat) : Fld := ⟨(Reg.SF_CH_STAT i), 0, 3⟩
def Reg.SF_CH_CAUSE (i : Nat) : Nat := 0x80012 + i * 0x10
def Reg.SF_CH_CAUSE_FIRST (i : Nat) : Fld := ⟨(Reg.SF_CH_CAUSE i), 10, 5⟩
def Reg.SF_CH_CAUSE_NOW (i : Nat) : Fld := ⟨(Reg.SF_CH_CAUSE i), 5, 5⟩
def Reg.SF_FB_TIME (i : Nat) : Nat := 0x80013 + i * 0x10
def Reg.SF_FB_TIME_MS (i : Nat) : Fld := ⟨(Reg.SF_FB_TIME i), 0, 8⟩
def Reg.SF_DEG_TIME (i : Nat) : Nat := 0x80014 + i * 0x10
def Reg.SF_DEG_TIME_S (i : Nat) : Fld := ⟨(Reg.SF_DEG_TIME i), 0, 7⟩
def Reg.SF_EMASK (i : Nat) : Nat := 0x80015 + i * 0x10
def Reg.SF_EMASK_EMIT (i : Nat) : Fld := ⟨(Reg.SF_EMASK i), 0, 16⟩
def Reg.SF_CH_FOLLOW (i : Nat) : Nat := 0x80016 + i * 0x10
def Reg.SF_CH_FOLLOW_SLOTS (i : Nat) : Fld := ⟨(Reg.SF_CH_FOLLOW i), 0, 8⟩
def Reg.SF_VIOL_H (i : Nat) : Nat := 0x80017 + i * 0x10
def Reg.SF_VIOL_H_ZONES (i : Nat) : Fld := ⟨(Reg.SF_VIOL_H i), 0, 12⟩
def Reg.SF_VIOL_L (i : Nat) : Nat := 0x80018 + i * 0x10
def Reg.SF_VIOL_L_ZONES (i : Nat) : Fld := ⟨(Reg.SF_VIOL_L i), 0, 20⟩
def Reg.SF_TRIP_CNT (i : Nat) : Nat := 0x80019 + i * 0x10
def Reg.SF_TRIP_CNT_COUNT (i : Nat) : Fld := ⟨(Reg.SF_TRIP_CNT i), 0, 20⟩
def Reg.SF_TX_KEY_H (i : Nat) : Nat := 0x8001a + i * 0x10
def Reg.SF_TX_KEY_H_KEY (i : Nat) : Fld := ⟨(Reg.SF_TX_KEY_H i), 0, 12⟩
def Reg.SF_TX_KEY_L (i : Nat) : Nat := 0x8001b + i * 0x10
def Reg.SF_TX_KEY_L_KEY (i : Nat) : Fld := ⟨(Reg.SF_TX_KEY_L i), 0, 20⟩
def Reg.SF_ZN_CFG (i j : Nat) : Nat := 0x80100 + i * 0x100 + j * 0x8
def Reg.SF_ZN_CFG_EN (i j : Nat) : Fld := ⟨(Reg.SF_ZN_CFG i j), 19, 1⟩
def Reg.SF_ZN_CFG_KIND (i j : Nat) : Fld := ⟨(Reg.SF_ZN_CFG i j), 18, 1⟩
def Reg.SF_ZN_CFG_CMASK (i j : Nat) : Fld := ⟨(Reg.SF_ZN_CFG i j), 14, 4⟩
def Reg.SF_ZN_CFG_NMIN (i j : Nat) : Fld := ⟨(Reg.SF_ZN_CFG i j), 0, 8⟩
def Reg.SF_ZN_PFIRST (i j : Nat) : Nat := 0x80101 + i * 0x100 + j * 0x8
def Reg.SF_ZN_PFIRST_PIXEL (i j : Nat) : Fld := ⟨(Reg.SF_ZN_PFIRST i j), 0, 15⟩
def Reg.SF_ZN_PCOUNT (i j : Nat) : Nat := 0x80102 + i * 0x100 + j * 0x8
def Reg.SF_ZN_PCOUNT_COUNT (i j : Nat) : Fld := ⟨(Reg.SF_ZN_PCOUNT i j), 0, 15⟩
def Reg.SF_ZN_RNEAR (i j : Nat) : Nat := 0x80103 + i * 0x100 + j * 0x8
def Reg.SF_ZN_RNEAR_RANGE (i j : Nat) : Fld := ⟨(Reg.SF_ZN_RNEAR i j), 0, 20⟩
def Reg.SF_ZN_RFAR (i j : Nat) : Nat := 0x80104 + i * 0x100 + j * 0x8
def Reg.SF_ZN_RFAR_RANGE (i j : Nat) : Fld := ⟨(Reg.SF_ZN_RFAR i j), 0, 20⟩
def Reg.SF_RX_CFG (i : Nat) : Nat := 0x80a00 + i * 0x10
def Reg.SF_RX_CFG_EN (i : Nat) : Fld := ⟨(Reg.SF_RX_CFG i), 19, 1⟩
def Reg.SF_RX_CFG_CH (i : Nat) : Fld := ⟨(Reg.SF_RX_CFG i), 15, 4⟩
def Reg.SF_RX_CFG_MAXAGE (i : Nat) : Fld := ⟨(Reg.SF_RX_CFG i), 7, 8⟩
def Reg.SF_RX_CFG_SEQ_WIN (i : Nat) : Fld := ⟨(Reg.SF_RX_CFG i), 3, 4⟩
def Reg.SF_RX_ID_H (i : Nat) : Nat := 0x80a01 + i * 0x10
def Reg.SF_RX_ID_H_ID (i : Nat) : Fld := ⟨(Reg.SF_RX_ID_H i), 0, 12⟩
def Reg.SF_RX_ID_L (i : Nat) : Nat := 0x80a02 + i * 0x10
def Reg.SF_RX_ID_L_ID (i : Nat) : Fld := ⟨(Reg.SF_RX_ID_L i), 0, 20⟩
def Reg.SF_RX_KEY_H (i : Nat) : Nat := 0x80a03 + i * 0x10
def Reg.SF_RX_KEY_H_KEY (i : Nat) : Fld := ⟨(Reg.SF_RX_KEY_H i), 0, 12⟩
def Reg.SF_RX_KEY_L (i : Nat) : Nat := 0x80a04 + i * 0x10
def Reg.SF_RX_KEY_L_KEY (i : Nat) : Fld := ⟨(Reg.SF_RX_KEY_L i), 0, 20⟩
def Reg.SF_RX_TMO (i : Nat) : Nat := 0x80a05 + i * 0x10
def Reg.SF_RX_TMO_MS (i : Nat) : Fld := ⟨(Reg.SF_RX_TMO i), 0, 16⟩
def Reg.SF_RX_STAT (i : Nat) : Nat := 0x80a06 + i * 0x10
def Reg.SF_RX_STAT_LAST_ERR (i : Nat) : Fld := ⟨(Reg.SF_RX_STAT i), 4, 4⟩
def Reg.SF_RX_STAT_REL (i : Nat) : Fld := ⟨(Reg.SF_RX_STAT i), 3, 1⟩
def Reg.SF_RX_STAT_REMOTE_OK (i : Nat) : Fld := ⟨(Reg.SF_RX_STAT i), 2, 1⟩
def Reg.SF_RX_STAT_STATE (i : Nat) : Fld := ⟨(Reg.SF_RX_STAT i), 0, 2⟩
def Reg.SF_RX_ERR (i : Nat) : Nat := 0x80a07 + i * 0x10
def Reg.SF_RX_ERR_COUNT (i : Nat) : Fld := ⟨(Reg.SF_RX_ERR i), 0, 20⟩
/-! Block 0x9: the map and the field tables stand in chapter 14 of spec/. -/
def Reg.DM_CFG : Nat := 0x90000
def Reg.DM_CFG_CNT_CLR : Fld := ⟨Reg.DM_CFG, 0, 1⟩
def Reg.DM_STAT : Nat := 0x90001
def Reg.DM_STAT_QCFG_ERR : Fld := ⟨Reg.DM_STAT, 0, 1⟩
def Reg.DM_Q_CFG (i : Nat) : Nat := 0x90010 + i * 0x4
def Reg.DM_Q_CFG_HOLD (i : Nat) : Fld := ⟨(Reg.DM_Q_CFG i), 11, 8⟩
def Reg.DM_Q_CFG_FMT (i : Nat) : Fld := ⟨(Reg.DM_Q_CFG i), 10, 1⟩
def Reg.DM_Q_CFG_MODE (i : Nat) : Fld := ⟨(Reg.DM_Q_CFG i), 9, 1⟩
def Reg.DM_Q_CFG_SIZE (i : Nat) : Fld := ⟨(Reg.DM_Q_CFG i), 0, 9⟩
def Reg.DM_Q_FILL (i : Nat) : Nat := 0x90011 + i * 0x4
def Reg.DM_Q_FILL_FILL (i : Nat) : Fld := ⟨(Reg.DM_Q_FILL i), 0, 20⟩
def Reg.DM_Q_PEAK (i : Nat) : Nat := 0x90012 + i * 0x4
def Reg.DM_Q_PEAK_PEAK (i : Nat) : Fld := ⟨(Reg.DM_Q_PEAK i), 0, 20⟩
def Reg.DM_Q_DISC (i : Nat) : Nat := 0x90013 + i * 0x4
def Reg.DM_Q_DISC_COUNT (i : Nat) : Fld := ⟨(Reg.DM_Q_DISC i), 0, 20⟩
def Reg.DM_CH_CTL (i : Nat) : Nat := 0x90100 + i * 0x10
def Reg.DM_CH_CTL_STOP (i : Nat) : Fld := ⟨(Reg.DM_CH_CTL i), 1, 1⟩
def Reg.DM_CH_CTL_START (i : Nat) : Fld := ⟨(Reg.DM_CH_CTL i), 0, 1⟩
def Reg.DM_CH_CFG (i : Nat) : Nat := 0x90101 + i * 0x10
def Reg.DM_CH_CFG_SKIND (i : Nat) : Fld := ⟨(Reg.DM_CH_CFG i), 18, 2⟩
def Reg.DM_CH_CFG_DKIND (i : Nat) : Fld := ⟨(Reg.DM_CH_CFG i), 16, 2⟩
def Reg.DM_CH_CFG_SW (i : Nat) : Fld := ⟨(Reg.DM_CH_CFG i), 14, 2⟩
def Reg.DM_CH_CFG_DW (i : Nat) : Fld := ⟨(Reg.DM_CH_CFG i), 12, 2⟩
def Reg.DM_CH_CFG_PACK (i : Nat) : Fld := ⟨(Reg.DM_CH_CFG i), 11, 1⟩
def Reg.DM_CH_CFG_SIGN (i : Nat) : Fld := ⟨(Reg.DM_CH_CFG i), 10, 1⟩
def Reg.DM_CH_CFG_BE (i : Nat) : Fld := ⟨(Reg.DM_CH_CFG i), 9, 1⟩
def Reg.DM_CH_CFG_FIXED (i : Nat) : Fld := ⟨(Reg.DM_CH_CFG i), 8, 1⟩
def Reg.DM_CH_CFG_SHUF (i : Nat) : Fld := ⟨(Reg.DM_CH_CFG i), 6, 2⟩
def Reg.DM_CH_CFG_PMASK (i : Nat) : Fld := ⟨(Reg.DM_CH_CFG i), 2, 4⟩
def Reg.DM_CH_CFG_MSTOP (i : Nat) : Fld := ⟨(Reg.DM_CH_CFG i), 1, 1⟩
def Reg.DM_CH_SRC_H (i : Nat) : Nat := 0x90102 + i * 0x10
def Reg.DM_CH_SRC_H_ADDR_H (i : Nat) : Fld := ⟨(Reg.DM_CH_SRC_H i), 0, 4⟩
def Reg.DM_CH_SRC_L (i : Nat) : Nat := 0x90103 + i * 0x10
def Reg.DM_CH_SRC_L_ADDR_L (i : Nat) : Fld := ⟨(Reg.DM_CH_SRC_L i), 0, 20⟩
def Reg.DM_CH_DST_H (i : Nat) : Nat := 0x90104 + i * 0x10
def Reg.DM_CH_DST_H_ADDR_H (i : Nat) : Fld := ⟨(Reg.DM_CH_DST_H i), 0, 4⟩
def Reg.DM_CH_DST_L (i : Nat) : Nat := 0x90105 + i * 0x10
def Reg.DM_CH_DST_L_ADDR_L (i : Nat) : Fld := ⟨(Reg.DM_CH_DST_L i), 0, 20⟩
def Reg.DM_CH_CNT (i : Nat) : Nat := 0x90106 + i * 0x10
def Reg.DM_CH_CNT_COUNT (i : Nat) : Fld := ⟨(Reg.DM_CH_CNT i), 0, 20⟩
def Reg.DM_CH_PSTRIDE (i : Nat) : Nat := 0x90107 + i * 0x10
def Reg.DM_CH_PSTRIDE_STRIDE (i : Nat) : Fld := ⟨(Reg.DM_CH_PSTRIDE i), 0, 20⟩
def Reg.DM_CH_STAT (i : Nat) : Nat := 0x90108 + i * 0x10
def Reg.DM_CH_STAT_ERR (i : Nat) : Fld := ⟨(Reg.DM_CH_STAT i), 16, 4⟩
def Reg.DM_CH_STAT_START_IGN (i : Nat) : Fld := ⟨(Reg.DM_CH_STAT i), 3, 1⟩
def Reg.DM_CH_STAT_WAIT (i : Nat) : Fld := ⟨(Reg.DM_CH_STAT i), 2, 1⟩
def Reg.DM_CH_STAT_DONE (i : Nat) : Fld := ⟨(Reg.DM_CH_STAT i), 1, 1⟩
def Reg.DM_CH_STAT_BUSY (i : Nat) : Fld := ⟨(Reg.DM_CH_STAT i), 0, 1⟩
def Reg.DM_CH_LEFT (i : Nat) : Nat := 0x90109 + i * 0x10
def Reg.DM_CH_LEFT_LEFT (i : Nat) : Fld := ⟨(Reg.DM_CH_LEFT i), 0, 20⟩
def Reg.DM_CH_MARK (i : Nat) : Nat := 0x9010a + i * 0x10
def Reg.DM_CH_MARK_FRAME (i : Nat) : Fld := ⟨(Reg.DM_CH_MARK i), 0, 20⟩
def Reg.DM_CH_DONE_CNT (i : Nat) : Nat := 0x9010b + i * 0x10
def Reg.DM_CH_DONE_CNT_COUNT (i : Nat) : Fld := ⟨(Reg.DM_CH_DONE_CNT i), 0, 20⟩
/-! Block 0xa: the map and the field tables stand in chapter 09 of spec/. -/
def Reg.AQ_CFG : Nat := 0xa0000
def Reg.AQ_CFG_SQ_UNIT : Fld := ⟨Reg.AQ_CFG, 2, 4⟩
def Reg.AQ_CFG_CNT_CLR : Fld := ⟨Reg.AQ_CFG, 0, 1⟩
def Reg.AQ_STAT : Nat := 0xa0001
def Reg.AQ_STAT_CFG_ERR : Fld := ⟨Reg.AQ_STAT, 0, 1⟩
def Reg.AQ_FORCE : Nat := 0xa0002
def Reg.AQ_FORCE_UNIT : Fld := ⟨Reg.AQ_FORCE, 0, 16⟩
def Reg.AQ_TRG_CFG (i : Nat) : Nat := 0xa0010 + i * 0x4
def Reg.AQ_TRG_CFG_KIND (i : Nat) : Fld := ⟨(Reg.AQ_TRG_CFG i), 16, 4⟩
def Reg.AQ_TRG_CFG_COND (i : Nat) : Fld := ⟨(Reg.AQ_TRG_CFG i), 14, 2⟩
def Reg.AQ_TRG_CFG_HOLD (i : Nat) : Fld := ⟨(Reg.AQ_TRG_CFG i), 0, 14⟩
def Reg.AQ_TRG_SRC (i : Nat) : Nat := 0xa0011 + i * 0x4
def Reg.AQ_TRG_SRC_SRC (i : Nat) : Fld := ⟨(Reg.AQ_TRG_SRC i), 0, 20⟩
def Reg.AQ_TRG_LVL (i : Nat) : Nat := 0xa0012 + i * 0x4
def Reg.AQ_TRG_LVL_LEVEL (i : Nat) : Fld := ⟨(Reg.AQ_TRG_LVL i), 0, 20⟩
def Reg.AQ_TRG_HYST (i : Nat) : Nat := 0xa0013 + i * 0x4
def Reg.AQ_TRG_HYST_HYST (i : Nat) : Fld := ⟨(Reg.AQ_TRG_HYST i), 0, 20⟩
def Reg.AQ_BUF_CTL (i : Nat) : Nat := 0xa0100 + i * 0x20
def Reg.AQ_BUF_CTL_ABORT (i : Nat) : Fld := ⟨(Reg.AQ_BUF_CTL i), 1, 1⟩
def Reg.AQ_BUF_CTL_ARM (i : Nat) : Fld := ⟨(Reg.AQ_BUF_CTL i), 0, 1⟩
def Reg.AQ_BUF_CFG (i : Nat) : Nat := 0xa0101 + i * 0x20
def Reg.AQ_BUF_CFG_AUTO (i : Nat) : Fld := ⟨(Reg.AQ_BUF_CFG i), 11, 1⟩
def Reg.AQ_BUF_CFG_SHIFT (i : Nat) : Fld := ⟨(Reg.AQ_BUF_CFG i), 6, 5⟩
def Reg.AQ_BUF_CFG_AVG (i : Nat) : Fld := ⟨(Reg.AQ_BUF_CFG i), 2, 4⟩
def Reg.AQ_BUF_CFG_MODE (i : Nat) : Fld := ⟨(Reg.AQ_BUF_CFG i), 1, 1⟩
def Reg.AQ_BUF_CFG_CONTENT (i : Nat) : Fld := ⟨(Reg.AQ_BUF_CFG i), 0, 1⟩
def Reg.AQ_BUF_SRC (i : Nat) : Nat := 0xa0102 + i * 0x20
def Reg.AQ_BUF_SRC_KIND (i : Nat) : Fld := ⟨(Reg.AQ_BUF_SRC i), 18, 2⟩
def Reg.AQ_BUF_SRC_SUB (i : Nat) : Fld := ⟨(Reg.AQ_BUF_SRC i), 15, 3⟩
def Reg.AQ_BUF_SRC_INDEX (i : Nat) : Fld := ⟨(Reg.AQ_BUF_SRC i), 0, 15⟩
def Reg.AQ_BUF_SRC2 (i : Nat) : Nat := 0xa0103 + i * 0x20
def Reg.AQ_BUF_SRC2_BIN (i : Nat) : Fld := ⟨(Reg.AQ_BUF_SRC2 i), 0, 11⟩
def Reg.AQ_BUF_LEN (i : Nat) : Nat := 0xa0104 + i * 0x20
def Reg.AQ_BUF_LEN_LEN (i : Nat) : Fld := ⟨(Reg.AQ_BUF_LEN i), 0, 17⟩
def Reg.AQ_BUF_POST (i : Nat) : Nat := 0xa0105 + i * 0x20
def Reg.AQ_BUF_POST_POST (i : Nat) : Fld := ⟨(Reg.AQ_BUF_POST i), 0, 17⟩
def Reg.AQ_BUF_TRIG (i : Nat) : Nat := 0xa0106 + i * 0x20
def Reg.AQ_BUF_TRIG_UNITS (i : Nat) : Fld := ⟨(Reg.AQ_BUF_TRIG i), 0, 16⟩
def Reg.AQ_BUF_OFS (i : Nat) : Nat := 0xa0107 + i * 0x20
def Reg.AQ_BUF_OFS_OFS (i : Nat) : Fld := ⟨(Reg.AQ_BUF_OFS i), 0, 20⟩
def Reg.AQ_BUF_STAT (i : Nat) : Nat := 0xa0108 + i * 0x20
def Reg.AQ_BUF_STAT_RD_ERR (i : Nat) : Fld := ⟨(Reg.AQ_BUF_STAT i), 5, 1⟩
def Reg.AQ_BUF_STAT_ARM_IGN (i : Nat) : Fld := ⟨(Reg.AQ_BUF_STAT i), 4, 1⟩
def Reg.AQ_BUF_STAT_CFG_ERR (i : Nat) : Fld := ⟨(Reg.AQ_BUF_STAT i), 3, 1⟩
def Reg.AQ_BUF_STAT_HELD (i : Nat) : Fld := ⟨(Reg.AQ_BUF_STAT i), 2, 1⟩
def Reg.AQ_BUF_STAT_STATE (i : Nat) : Fld := ⟨(Reg.AQ_BUF_STAT i), 0, 2⟩
def Reg.AQ_CAP_CAUSE (i : Nat) : Nat := 0xa0109 + i * 0x20
def Reg.AQ_CAP_CAUSE_UNITS (i : Nat) : Fld := ⟨(Reg.AQ_CAP_CAUSE i), 0, 16⟩
def Reg.AQ_CAP_INFO (i : Nat) : Nat := 0xa010a + i * 0x20
def Reg.AQ_CAP_INFO_HELD (i : Nat) : Fld := ⟨(Reg.AQ_CAP_INFO i), 4, 1⟩
def Reg.AQ_CAP_INFO_PRIMARY (i : Nat) : Fld := ⟨(Reg.AQ_CAP_INFO i), 0, 4⟩
def Reg.AQ_CAP_CNT (i : Nat) : Nat := 0xa010b + i * 0x20
def Reg.AQ_CAP_CNT_CNT (i : Nat) : Fld := ⟨(Reg.AQ_CAP_CNT i), 0, 17⟩
def Reg.AQ_CAP_FRAME (i : Nat) : Nat := 0xa010c + i * 0x20
def Reg.AQ_CAP_FRAME_FRAME (i : Nat) : Fld := ⟨(Reg.AQ_CAP_FRAME i), 0, 20⟩
def Reg.AQ_CAP_TIME_H (i : Nat) : Nat := 0xa010d + i * 0x20
def Reg.AQ_CAP_TIME_H_T_H (i : Nat) : Fld := ⟨(Reg.AQ_CAP_TIME_H i), 0, 11⟩
def Reg.AQ_CAP_TIME_L (i : Nat) : Nat := 0xa010e + i * 0x20
def Reg.AQ_CAP_TIME_L_T_L (i : Nat) : Fld := ⟨(Reg.AQ_CAP_TIME_L i), 0, 20⟩
def Reg.AQ_CAP_SEQ (i : Nat) : Nat := 0xa010f + i * 0x20
def Reg.AQ_CAP_SEQ_SEQ (i : Nat) : Fld := ⟨(Reg.AQ_CAP_SEQ i), 0, 20⟩
def Reg.AQ_MISSED (i : Nat) : Nat := 0xa0110 + i * 0x20
def Reg.AQ_MISSED_COUNT (i : Nat) : Fld := ⟨(Reg.AQ_MISSED i), 0, 20⟩
def Reg.AQ_BLOCK_SKIP (i : Nat) : Nat := 0xa0111 + i * 0x20
def Reg.AQ_BLOCK_SKIP_COUNT (i : Nat) : Fld := ⟨(Reg.AQ_BLOCK_SKIP i), 0, 20⟩
def Reg.AQ_RD_ADDR (i : Nat) : Nat := 0xa0112 + i * 0x20
def Reg.AQ_RD_ADDR_ADDR (i : Nat) : Fld := ⟨(Reg.AQ_RD_ADDR i), 0, 16⟩
def Reg.AQ_RD_DATA (i : Nat) : Nat := 0xa0113 + i * 0x20
def Reg.AQ_RD_DATA_DATA (i : Nat) : Fld := ⟨(Reg.AQ_RD_DATA i), 0, 20⟩
def Reg.AQ_HIST_ADDR (i : Nat) : Nat := 0xa0114 + i * 0x20
def Reg.AQ_HIST_ADDR_ADDR (i : Nat) : Fld := ⟨(Reg.AQ_HIST_ADDR i), 0, 10⟩
def Reg.AQ_HIST_DATA (i : Nat) : Nat := 0xa0115 + i * 0x20
def Reg.AQ_HIST_DATA_COUNT (i : Nat) : Fld := ⟨(Reg.AQ_HIST_DATA i), 0, 20⟩
/-! Block 0x10: the map and the field tables stand in chapter 02 of spec/. -/
def Reg.TL_TILE_CFG (t : Nat) : Nat := 0x100000 + t / 16 * 0x10000 + t % 16 * 0x100
def Reg.TL_TILE_CFG_CNT_CLR (t : Nat) : Fld := ⟨(Reg.TL_TILE_CFG t), 1, 1⟩
def Reg.TL_TILE_CFG_AFE_EN (t : Nat) : Fld := ⟨(Reg.TL_TILE_CFG t), 0, 1⟩
def Reg.TL_TILE_STAT (t : Nat) : Nat := 0x100001 + t / 16 * 0x10000 + t % 16 * 0x100
def Reg.TL_TILE_STAT_WS_CFG_ERR (t : Nat) : Fld := ⟨(Reg.TL_TILE_STAT t), 4, 1⟩
def Reg.TL_TILE_STAT_WS_FULL (t : Nat) : Fld := ⟨(Reg.TL_TILE_STAT t), 3, 1⟩
def Reg.TL_TILE_STAT_WS_ARMED (t : Nat) : Fld := ⟨(Reg.TL_TILE_STAT t), 2, 1⟩
def Reg.TL_TILE_STAT_UNLOCK_SEEN (t : Nat) : Fld := ⟨(Reg.TL_TILE_STAT t), 1, 1⟩
def Reg.TL_TILE_STAT_LOCK (t : Nat) : Fld := ⟨(Reg.TL_TILE_STAT t), 0, 1⟩
def Reg.TL_WS_CFG (t : Nat) : Nat := 0x100002 + t / 16 * 0x10000 + t % 16 * 0x100
def Reg.TL_WS_CFG_PRE (t : Nat) : Fld := ⟨(Reg.TL_WS_CFG t), 6, 11⟩
def Reg.TL_WS_CFG_MODE (t : Nat) : Fld := ⟨(Reg.TL_WS_CFG t), 4, 2⟩
def Reg.TL_WS_CFG_CH (t : Nat) : Fld := ⟨(Reg.TL_WS_CFG t), 1, 3⟩
def Reg.TL_WS_CFG_EN (t : Nat) : Fld := ⟨(Reg.TL_WS_CFG t), 0, 1⟩
def Reg.TL_WS_TRIG (t : Nat) : Nat := 0x100003 + t / 16 * 0x10000 + t % 16 * 0x100
def Reg.TL_WS_TRIG_OFFSET (t : Nat) : Fld := ⟨(Reg.TL_WS_TRIG t), 0, 15⟩
def Reg.TL_XTK_CNT (t : Nat) : Nat := 0x100004 + t / 16 * 0x10000 + t % 16 * 0x100
def Reg.TL_XTK_CNT_COUNT (t : Nat) : Fld := ⟨(Reg.TL_XTK_CNT t), 0, 20⟩
def Reg.TL_GSW_SKIP (t : Nat) : Nat := 0x100005 + t / 16 * 0x10000 + t % 16 * 0x100
def Reg.TL_GSW_SKIP_COUNT (t : Nat) : Fld := ⟨(Reg.TL_GSW_SKIP t), 0, 20⟩
def Reg.TL_CH_CFG (c : Nat) : Nat := 0x100010 + c / 128 * 0x10000 + c / 8 % 16 * 0x100 + c % 8 * 0x10
def Reg.TL_CH_CFG_BL_EN (c : Nat) : Fld := ⟨(Reg.TL_CH_CFG c), 9, 1⟩
def Reg.TL_CH_CFG_AR_HI (c : Nat) : Fld := ⟨(Reg.TL_CH_CFG c), 7, 2⟩
def Reg.TL_CH_CFG_AR_LO (c : Nat) : Fld := ⟨(Reg.TL_CH_CFG c), 5, 2⟩
def Reg.TL_CH_CFG_AR_EN (c : Nat) : Fld := ⟨(Reg.TL_CH_CFG c), 4, 1⟩
def Reg.TL_CH_CFG_GAIN (c : Nat) : Fld := ⟨(Reg.TL_CH_CFG c), 2, 2⟩
def Reg.TL_CH_CFG_POL (c : Nat) : Fld := ⟨(Reg.TL_CH_CFG c), 1, 1⟩
def Reg.TL_CH_CFG_EN (c : Nat) : Fld := ⟨(Reg.TL_CH_CFG c), 0, 1⟩
def Reg.TL_CH_THR0 (c : Nat) : Nat := 0x100011 + c / 128 * 0x10000 + c / 8 % 16 * 0x100 + c % 8 * 0x10
def Reg.TL_CH_THR0_HT (c : Nat) : Fld := ⟨(Reg.TL_CH_THR0 c), 10, 10⟩
def Reg.TL_CH_THR0_LT (c : Nat) : Fld := ⟨(Reg.TL_CH_THR0 c), 0, 10⟩
def Reg.TL_CH_THR1 (c : Nat) : Nat := 0x100012 + c / 128 * 0x10000 + c / 8 % 16 * 0x100 + c % 8 * 0x10
def Reg.TL_CH_THR1_HT (c : Nat) : Fld := ⟨(Reg.TL_CH_THR1 c), 10, 10⟩
def Reg.TL_CH_THR1_LT (c : Nat) : Fld := ⟨(Reg.TL_CH_THR1 c), 0, 10⟩
def Reg.TL_CH_THR2 (c : Nat) : Nat := 0x100013 + c / 128 * 0x10000 + c / 8 % 16 * 0x100 + c % 8 * 0x10
def Reg.TL_CH_THR2_HT (c : Nat) : Fld := ⟨(Reg.TL_CH_THR2 c), 10, 10⟩
def Reg.TL_CH_THR2_LT (c : Nat) : Fld := ⟨(Reg.TL_CH_THR2 c), 0, 10⟩
def Reg.TL_CH_AR (c : Nat) : Nat := 0x100014 + c / 128 * 0x10000 + c / 8 % 16 * 0x100 + c % 8 * 0x10
def Reg.TL_CH_AR_UP_CNT (c : Nat) : Fld := ⟨(Reg.TL_CH_AR c), 10, 8⟩
def Reg.TL_CH_AR_DOWN_FRAC (c : Nat) : Fld := ⟨(Reg.TL_CH_AR c), 0, 10⟩
def Reg.TL_CH_STAT (c : Nat) : Nat := 0x100015 + c / 128 * 0x10000 + c / 8 % 16 * 0x100 + c % 8 * 0x10
def Reg.TL_CH_STAT_AR_MOVED (c : Nat) : Fld := ⟨(Reg.TL_CH_STAT c), 8, 1⟩
def Reg.TL_CH_STAT_RECOV_FAIL (c : Nat) : Fld := ⟨(Reg.TL_CH_STAT c), 7, 1⟩
def Reg.TL_CH_STAT_CFG_ERR (c : Nat) : Fld := ⟨(Reg.TL_CH_STAT c), 6, 1⟩
def Reg.TL_CH_STAT_THR_CLAMP (c : Nat) : Fld := ⟨(Reg.TL_CH_STAT c), 5, 1⟩
def Reg.TL_CH_STAT_DC_LIMIT (c : Nat) : Fld := ⟨(Reg.TL_CH_STAT c), 4, 1⟩
def Reg.TL_CH_STAT_XTK_SEEN (c : Nat) : Fld := ⟨(Reg.TL_CH_STAT c), 3, 1⟩
def Reg.TL_CH_STAT_OVR_SEEN (c : Nat) : Fld := ⟨(Reg.TL_CH_STAT c), 2, 1⟩
def Reg.TL_CH_STAT_GAIN_NOW (c : Nat) : Fld := ⟨(Reg.TL_CH_STAT c), 0, 2⟩
def Reg.TL_CH_OVR_CNT (c : Nat) : Nat := 0x100016 + c / 128 * 0x10000 + c / 8 % 16 * 0x100 + c % 8 * 0x10
def Reg.TL_CH_OVR_CNT_COUNT (c : Nat) : Fld := ⟨(Reg.TL_CH_OVR_CNT c), 0, 20⟩
def Reg.TL_CH_BASE (c : Nat) : Nat := 0x100017 + c / 128 * 0x10000 + c / 8 % 16 * 0x100 + c % 8 * 0x10
def Reg.TL_CH_BASE_DC (c : Nat) : Fld := ⟨(Reg.TL_CH_BASE c), 0, 20⟩
/-! Block 0x14: the map and the field tables stand in chapter 03 of spec/. -/
def Reg.TE_FFB_NOM (i : Nat) : Nat := 0x140010 + i
def Reg.TE_FFB_NOM_NOM (i : Nat) : Fld := ⟨(Reg.TE_FFB_NOM i), 0, 20⟩
def Reg.TE_FFB_DLY (i : Nat) : Nat := 0x140020 + i
def Reg.TE_FFB_DLY_DLY (i : Nat) : Fld := ⟨(Reg.TE_FFB_DLY i), 0, 20⟩
def Reg.TE_FFB_CFG : Nat := 0x140030
def Reg.TE_FFB_CFG_TOL : Fld := ⟨Reg.TE_FFB_CFG, 8, 10⟩
def Reg.TE_FFB_CFG_TMO : Fld := ⟨Reg.TE_FFB_CFG, 0, 8⟩
def Reg.TE_FFB_MISS : Nat := 0x140031
def Reg.TE_FFB_MISS_EMIT : Fld := ⟨Reg.TE_FFB_MISS, 0, 16⟩
def Reg.TE_FFB_DRIFT : Nat := 0x140032
def Reg.TE_FFB_DRIFT_EMIT : Fld := ⟨Reg.TE_FFB_DRIFT, 0, 16⟩
def Reg.TE_ST_CFG (i : Nat) : Nat := 0x140100 + i * 0x10
def Reg.TE_ST_CFG_STOP (i : Nat) : Fld := ⟨(Reg.TE_ST_CFG i), 17, 1⟩
def Reg.TE_ST_CFG_START (i : Nat) : Fld := ⟨(Reg.TE_ST_CFG i), 16, 1⟩
def Reg.TE_ST_CFG_STOP_SEL (i : Nat) : Fld := ⟨(Reg.TE_ST_CFG i), 13, 3⟩
def Reg.TE_ST_CFG_START_SEL (i : Nat) : Fld := ⟨(Reg.TE_ST_CFG i), 12, 1⟩
def Reg.TE_ST_CFG_EMIT (i : Nat) : Fld := ⟨(Reg.TE_ST_CFG i), 0, 4⟩
def Reg.TE_ST_N (i : Nat) : Nat := 0x140101 + i * 0x10
def Reg.TE_ST_N_N (i : Nat) : Fld := ⟨(Reg.TE_ST_N i), 0, 16⟩
def Reg.TE_ST_STAT (i : Nat) : Nat := 0x140102 + i * 0x10
def Reg.TE_ST_STAT_CH (i : Nat) : Fld := ⟨(Reg.TE_ST_STAT i), 11, 9⟩
def Reg.TE_ST_STAT_PARTIAL (i : Nat) : Fld := ⟨(Reg.TE_ST_STAT i), 5, 1⟩
def Reg.TE_ST_STAT_START_IGN (i : Nat) : Fld := ⟨(Reg.TE_ST_STAT i), 4, 1⟩
def Reg.TE_ST_STAT_CFG_ERR (i : Nat) : Fld := ⟨(Reg.TE_ST_STAT i), 3, 1⟩
def Reg.TE_ST_STAT_DONE (i : Nat) : Fld := ⟨(Reg.TE_ST_STAT i), 1, 1⟩
def Reg.TE_ST_STAT_BUSY (i : Nat) : Fld := ⟨(Reg.TE_ST_STAT i), 0, 1⟩
def Reg.TE_ST_MEAN (i : Nat) : Nat := 0x140103 + i * 0x10
def Reg.TE_ST_MEAN_MEAN (i : Nat) : Fld := ⟨(Reg.TE_ST_MEAN i), 0, 20⟩
def Reg.TE_ST_MEANF (i : Nat) : Nat := 0x140104 + i * 0x10
def Reg.TE_ST_MEANF_FRAC (i : Nat) : Fld := ⟨(Reg.TE_ST_MEANF i), 0, 4⟩
def Reg.TE_ST_SD (i : Nat) : Nat := 0x140105 + i * 0x10
def Reg.TE_ST_SD_SD (i : Nat) : Fld := ⟨(Reg.TE_ST_SD i), 0, 20⟩
def Reg.TE_ST_MIN (i : Nat) : Nat := 0x140106 + i * 0x10
def Reg.TE_ST_MIN_VALUE (i : Nat) : Fld := ⟨(Reg.TE_ST_MIN i), 0, 20⟩
def Reg.TE_ST_MAX (i : Nat) : Nat := 0x140107 + i * 0x10
def Reg.TE_ST_MAX_VALUE (i : Nat) : Fld := ⟨(Reg.TE_ST_MAX i), 0, 20⟩
def Reg.TE_ST_IGN (i : Nat) : Nat := 0x140108 + i * 0x10
def Reg.TE_ST_IGN_COUNT (i : Nat) : Fld := ⟨(Reg.TE_ST_IGN i), 0, 20⟩
def Reg.TE_TILE_CFG (i : Nat) : Nat := 0x141000 + i * 0x10
def Reg.TE_TILE_CFG_CNT_CLR (i : Nat) : Fld := ⟨(Reg.TE_TILE_CFG i), 0, 1⟩
def Reg.TE_TILE_STAT (i : Nat) : Nat := 0x141001 + i * 0x10
def Reg.TE_TILE_STAT_SKEW_SEEN (i : Nat) : Fld := ⟨(Reg.TE_TILE_STAT i), 1, 1⟩
def Reg.TE_TILE_STAT_SKEW (i : Nat) : Fld := ⟨(Reg.TE_TILE_STAT i), 0, 1⟩
def Reg.TE_REF_OFS (i : Nat) : Nat := 0x141002 + i * 0x10
def Reg.TE_REF_OFS_OFS (i : Nat) : Fld := ⟨(Reg.TE_REF_OFS i), 0, 20⟩
def Reg.TE_ORDER_ERR (i : Nat) : Nat := 0x141003 + i * 0x10
def Reg.TE_ORDER_ERR_COUNT (i : Nat) : Fld := ⟨(Reg.TE_ORDER_ERR i), 0, 20⟩
def Reg.TE_OVF_CNT (i : Nat) : Nat := 0x141004 + i * 0x10
def Reg.TE_OVF_CNT_COUNT (i : Nat) : Fld := ⟨(Reg.TE_OVF_CNT i), 0, 20⟩
def Reg.TE_QDROP_CNT (i : Nat) : Nat := 0x141005 + i * 0x10
def Reg.TE_QDROP_CNT_COUNT (i : Nat) : Fld := ⟨(Reg.TE_QDROP_CNT i), 0, 20⟩
def Reg.TE_CAL_FAIL_CNT (i : Nat) : Nat := 0x141006 + i * 0x10
def Reg.TE_CAL_FAIL_CNT_COUNT (i : Nat) : Fld := ⟨(Reg.TE_CAL_FAIL_CNT i), 0, 20⟩
def Reg.TE_CAL_REUSE_CNT (i : Nat) : Nat := 0x141007 + i * 0x10
def Reg.TE_CAL_REUSE_CNT_COUNT (i : Nat) : Fld := ⟨(Reg.TE_CAL_REUSE_CNT i), 0, 20⟩
def Reg.TE_CH_CFG (i : Nat) : Nat := 0x142000 + i * 0x4
def Reg.TE_CH_CFG_WALK (i : Nat) : Fld := ⟨(Reg.TE_CH_CFG i), 0, 2⟩
def Reg.TE_CH_STAT (i : Nat) : Nat := 0x142001 + i * 0x4
def Reg.TE_CH_STAT_CFG_ERR (i : Nat) : Fld := ⟨(Reg.TE_CH_STAT i), 3, 1⟩
def Reg.TE_CH_STAT_FAIL_SEEN (i : Nat) : Fld := ⟨(Reg.TE_CH_STAT i), 2, 1⟩
def Reg.TE_CH_STAT_FAIL (i : Nat) : Fld := ⟨(Reg.TE_CH_STAT i), 1, 1⟩
def Reg.TE_CH_STAT_CAL_HOLD (i : Nat) : Fld := ⟨(Reg.TE_CH_STAT i), 0, 1⟩
def Reg.TE_CH_OFS (i : Nat) : Nat := 0x142002 + i * 0x4
def Reg.TE_CH_OFS_OFS (i : Nat) : Fld := ⟨(Reg.TE_CH_OFS i), 0, 20⟩
def Reg.TE_CH_CAL (i : Nat) : Nat := 0x142003 + i * 0x4
def Reg.TE_CH_CAL_C1 (i : Nat) : Fld := ⟨(Reg.TE_CH_CAL i), 9, 9⟩
def Reg.TE_CH_CAL_P (i : Nat) : Fld := ⟨(Reg.TE_CH_CAL i), 0, 9⟩
def Reg.TE_WALK (i j k : Nat) : Nat := 0x148000 + i * 0x40 + j * 0x10 + k
def Reg.TE_WALK_W (i j k : Nat) : Fld := ⟨(Reg.TE_WALK i j k), 0, 8⟩
/-! Block 0x18: the map and the field tables stand in chapter 05 of spec/. -/
def Reg.FD_DESC0 (i : Nat) : Nat := 0x180000 + i * 0x3
def Reg.FD_DESC0_EN (i : Nat) : Fld := ⟨(Reg.FD_DESC0 i), 19, 1⟩
def Reg.FD_DESC0_WIDTH (i : Nat) : Fld := ⟨(Reg.FD_DESC0 i), 16, 3⟩
def Reg.FD_DESC0_SIZE (i : Nat) : Fld := ⟨(Reg.FD_DESC0 i), 14, 2⟩
def Reg.FD_DESC0_TRACE (i : Nat) : Fld := ⟨(Reg.FD_DESC0 i), 13, 1⟩
def Reg.FD_DESC0_FCOUNT (i : Nat) : Fld := ⟨(Reg.FD_DESC0 i), 0, 12⟩
def Reg.FD_DESC1 (i : Nat) : Nat := 0x180001 + i * 0x3
def Reg.FD_DESC1_BASE (i : Nat) : Fld := ⟨(Reg.FD_DESC1 i), 0, 19⟩
def Reg.FD_DESC2 (i : Nat) : Nat := 0x180002 + i * 0x3
def Reg.FD_DESC2_WSTART (i : Nat) : Fld := ⟨(Reg.FD_DESC2 i), 0, 20⟩
def Reg.FD_CFG : Nat := 0x18f000
def Reg.FD_CFG_CNT_CLR : Fld := ⟨Reg.FD_CFG, 1, 1⟩
def Reg.FD_CFG_EN : Fld := ⟨Reg.FD_CFG, 0, 1⟩
def Reg.FD_STAT : Nat := 0x18f001
def Reg.FD_STAT_LAYOUT_ERR : Fld := ⟨Reg.FD_STAT, 5, 1⟩
def Reg.FD_STAT_TOKEN_TMO_SEEN : Fld := ⟨Reg.FD_STAT, 4, 1⟩
def Reg.FD_STAT_DROP_SEEN : Fld := ⟨Reg.FD_STAT, 3, 1⟩
def Reg.FD_STAT_HOLD_SEEN : Fld := ⟨Reg.FD_STAT, 2, 1⟩
def Reg.FD_STAT_CLEARING : Fld := ⟨Reg.FD_STAT, 1, 1⟩
def Reg.FD_STAT_SUSPECT : Fld := ⟨Reg.FD_STAT, 0, 1⟩
def Reg.FD_ORPHAN : Nat := 0x18f010
def Reg.FD_ORPHAN_COUNT : Fld := ⟨Reg.FD_ORPHAN, 0, 20⟩
def Reg.FD_DISC_CNT : Nat := 0x18f011
def Reg.FD_DISC_CNT_COUNT : Fld := ⟨Reg.FD_DISC_CNT, 0, 20⟩
def Reg.FD_PIX_ERR : Nat := 0x18f012
def Reg.FD_PIX_ERR_COUNT : Fld := ⟨Reg.FD_PIX_ERR, 0, 20⟩
def Reg.FD_LATE : Nat := 0x18f013
def Reg.FD_LATE_COUNT : Fld := ⟨Reg.FD_LATE, 0, 20⟩
def Reg.FD_HOLD : Nat := 0x18f014
def Reg.FD_HOLD_COUNT : Fld := ⟨Reg.FD_HOLD, 0, 20⟩
def Reg.FD_AGE_DROP : Nat := 0x18f015
def Reg.FD_AGE_DROP_COUNT : Fld := ⟨Reg.FD_AGE_DROP, 0, 20⟩
def Reg.FD_RELAYOUT : Nat := 0x18f016
def Reg.FD_RELAYOUT_COUNT : Fld := ⟨Reg.FD_RELAYOUT, 0, 20⟩
def Reg.FD_SAT_CNT : Nat := 0x18f017
def Reg.FD_SAT_CNT_COUNT : Fld := ⟨Reg.FD_SAT_CNT, 0, 20⟩
def Reg.FD_TOKEN_TMO : Nat := 0x18f018
def Reg.FD_TOKEN_TMO_COUNT : Fld := ⟨Reg.FD_TOKEN_TMO, 0, 20⟩
def Reg.FD_PIX_SEL : Nat := 0x18f020
def Reg.FD_PIX_SEL_PIXEL : Fld := ⟨Reg.FD_PIX_SEL, 0, 15⟩
def Reg.FD_PIX_STAT : Nat := 0x18f021
def Reg.FD_PIX_STAT_BUF : Fld := ⟨Reg.FD_PIX_STAT, 16, 1⟩
def Reg.FD_PIX_STAT_OTHER_BUSY : Fld := ⟨Reg.FD_PIX_STAT, 15, 1⟩
def Reg.FD_PIX_STAT_OPEN : Fld := ⟨Reg.FD_PIX_STAT, 14, 1⟩
def Reg.FD_PIX_STAT_COUNT : Fld := ⟨Reg.FD_PIX_STAT, 0, 13⟩
def Reg.FD_MEM_ADDR_H : Nat := 0x18f022
def Reg.FD_MEM_ADDR_H_ADDR_H : Fld := ⟨Reg.FD_MEM_ADDR_H, 0, 5⟩
def Reg.FD_MEM_ADDR_L : Nat := 0x18f023
def Reg.FD_MEM_ADDR_L_ADDR_L : Fld := ⟨Reg.FD_MEM_ADDR_L, 0, 20⟩
def Reg.FD_MEM_DATA : Nat := 0x18f024
def Reg.FD_MEM_DATA_VALUE : Fld := ⟨Reg.FD_MEM_DATA, 0, 20⟩
def Reg.FD_CL_STALL (i : Nat) : Nat := 0x18f100 + i * 0x10
def Reg.FD_CL_STALL_COUNT (i : Nat) : Fld := ⟨(Reg.FD_CL_STALL i), 0, 20⟩
def Reg.FD_CL_MERGE (i : Nat) : Nat := 0x18f101 + i * 0x10
def Reg.FD_CL_MERGE_COUNT (i : Nat) : Fld := ⟨(Reg.FD_CL_MERGE i), 0, 20⟩
def Reg.FD_CL_PEAK (i : Nat) : Nat := 0x18f102 + i * 0x10
def Reg.FD_CL_PEAK_PEAK (i : Nat) : Fld := ⟨(Reg.FD_CL_PEAK i), 0, 5⟩
/-! Block 0x1c: the map and the field tables stand in chapter 06 of spec/. -/
def Reg.EX_PIX_MAP (i : Nat) : Nat := 0x1c0000 + i
def Reg.EX_PIX_MAP_PROF4 (i : Nat) : Fld := ⟨(Reg.EX_PIX_MAP i), 16, 4⟩
def Reg.EX_PIX_MAP_PROF3 (i : Nat) : Fld := ⟨(Reg.EX_PIX_MAP i), 12, 4⟩
def Reg.EX_PIX_MAP_PROF2 (i : Nat) : Fld := ⟨(Reg.EX_PIX_MAP i), 8, 4⟩
def Reg.EX_PIX_MAP_PROF1 (i : Nat) : Fld := ⟨(Reg.EX_PIX_MAP i), 4, 4⟩
def Reg.EX_PIX_MAP_PROF0 (i : Nat) : Fld := ⟨(Reg.EX_PIX_MAP i), 0, 4⟩
def Reg.EX_PROF_CFG (i : Nat) : Nat := 0x1c4000 + i * 0x8
def Reg.EX_PROF_CFG_SAFE (i : Nat) : Fld := ⟨(Reg.EX_PROF_CFG i), 7, 1⟩
def Reg.EX_PROF_CFG_MASK (i : Nat) : Fld := ⟨(Reg.EX_PROF_CFG i), 3, 4⟩
def Reg.EX_PROF_CFG_POLICY (i : Nat) : Fld := ⟨(Reg.EX_PROF_CFG i), 0, 2⟩
def Reg.EX_PROF_Q (i : Nat) : Nat := 0x1c4001 + i * 0x8
def Reg.EX_PROF_Q_QMASK (i : Nat) : Fld := ⟨(Reg.EX_PROF_Q i), 0, 16⟩
def Reg.EX_PROF_BG (i : Nat) : Nat := 0x1c4002 + i * 0x8
def Reg.EX_PROF_BG_SEG (i : Nat) : Fld := ⟨(Reg.EX_PROF_BG i), 0, 5⟩
def Reg.EX_PROF_THR (i : Nat) : Nat := 0x1c4003 + i * 0x8
def Reg.EX_PROF_THR_MULT (i : Nat) : Fld := ⟨(Reg.EX_PROF_THR i), 10, 10⟩
def Reg.EX_PROF_THR_FLOOR (i : Nat) : Fld := ⟨(Reg.EX_PROF_THR i), 0, 10⟩
def Reg.EX_PROF_VEIL0 (i : Nat) : Nat := 0x1c4004 + i * 0x8
def Reg.EX_PROF_VEIL0_VW (i : Nat) : Fld := ⟨(Reg.EX_PROF_VEIL0 i), 8, 8⟩
def Reg.EX_PROF_VEIL0_VRATE (i : Nat) : Fld := ⟨(Reg.EX_PROF_VEIL0 i), 0, 8⟩
def Reg.EX_PROF_VEIL1 (i : Nat) : Nat := 0x1c4005 + i * 0x8
def Reg.EX_PROF_VEIL1_VRMAX (i : Nat) : Fld := ⟨(Reg.EX_PROF_VEIL1 i), 0, 20⟩
def Reg.EX_PROF_FOR (i : Nat) : Nat := 0x1c4006 + i * 0x8
def Reg.EX_PROF_FOR_FRATIO (i : Nat) : Fld := ⟨(Reg.EX_PROF_FOR i), 4, 8⟩
def Reg.EX_PROF_FOR_FWIDTH (i : Nat) : Fld := ⟨(Reg.EX_PROF_FOR i), 0, 4⟩
def Reg.EX_PROF_SAT (i : Nat) : Nat := 0x1c4007 + i * 0x8
def Reg.EX_PROF_SAT_OVR_FRAC (i : Nat) : Fld := ⟨(Reg.EX_PROF_SAT i), 0, 8⟩
def Reg.EX_CFG : Nat := 0x1cf000
def Reg.EX_CFG_CNT_CLR : Fld := ⟨Reg.EX_CFG, 1, 1⟩
def Reg.EX_CFG_EN : Fld := ⟨Reg.EX_CFG, 0, 1⟩
def Reg.EX_STAT : Nat := 0x1cf001
def Reg.EX_STAT_SAFE_LOSS_SEEN : Fld := ⟨Reg.EX_STAT, 3, 1⟩
def Reg.EX_STAT_QDROP_SEEN : Fld := ⟨Reg.EX_STAT, 2, 1⟩
def Reg.EX_STAT_MORE_SEEN : Fld := ⟨Reg.EX_STAT, 1, 1⟩
def Reg.EX_STAT_BUSY : Fld := ⟨Reg.EX_STAT, 0, 1⟩
def Reg.EX_FRAME : Nat := 0x1cf002
def Reg.EX_FRAME_FRAME : Fld := ⟨Reg.EX_FRAME, 0, 20⟩
def Reg.EX_HIST_CNT : Nat := 0x1cf010
def Reg.EX_HIST_CNT_COUNT : Fld := ⟨Reg.EX_HIST_CNT, 0, 20⟩
def Reg.EX_ECHO_CNT : Nat := 0x1cf011
def Reg.EX_ECHO_CNT_COUNT : Fld := ⟨Reg.EX_ECHO_CNT, 0, 20⟩
def Reg.EX_NONE_CNT : Nat := 0x1cf012
def Reg.EX_NONE_CNT_COUNT : Fld := ⟨Reg.EX_NONE_CNT, 0, 20⟩
def Reg.EX_VEIL_CNT : Nat := 0x1cf013
def Reg.EX_VEIL_CNT_COUNT : Fld := ⟨Reg.EX_VEIL_CNT, 0, 20⟩
def Reg.EX_FOREIGN_CNT : Nat := 0x1cf014
def Reg.EX_FOREIGN_CNT_COUNT : Fld := ⟨Reg.EX_FOREIGN_CNT, 0, 20⟩
def Reg.EX_SAT_CNT : Nat := 0x1cf015
def Reg.EX_SAT_CNT_COUNT : Fld := ⟨Reg.EX_SAT_CNT, 0, 20⟩
def Reg.EX_MORE_CNT : Nat := 0x1cf016
def Reg.EX_MORE_CNT_COUNT : Fld := ⟨Reg.EX_MORE_CNT, 0, 20⟩
def Reg.EX_SAFE_DROP : Nat := 0x1cf017
def Reg.EX_SAFE_DROP_COUNT : Fld := ⟨Reg.EX_SAFE_DROP, 0, 20⟩
def Reg.EX_QDROP (i : Nat) : Nat := 0x1cf020 + i
def Reg.EX_QDROP_COUNT (i : Nat) : Fld := ⟨(Reg.EX_QDROP i), 0, 20⟩
def Reg.EX_CL_HIST (i : Nat) : Nat := 0x1cf100 + i * 0x10
def Reg.EX_CL_HIST_COUNT (i : Nat) : Fld := ⟨(Reg.EX_CL_HIST i), 0, 20⟩
def Reg.EX_CL_LAT (i : Nat) : Nat := 0x1cf101 + i * 0x10
def Reg.EX_CL_LAT_LAT (i : Nat) : Fld := ⟨(Reg.EX_CL_LAT i), 0, 9⟩
/-! Block 0x20: the map and the field tables stand in chapter 11 of spec/. -/
def Reg.LN_QUAD_CFG (q : Nat) : Nat := 0x200000 + q / 9 * 0x10000 + q % 9 * 0x100
def Reg.LN_QUAD_CFG_CNT_CLR (q : Nat) : Fld := ⟨(Reg.LN_QUAD_CFG q), 7, 1⟩
def Reg.LN_QUAD_CFG_GROUP (q : Nat) : Fld := ⟨(Reg.LN_QUAD_CFG q), 4, 3⟩
def Reg.LN_QUAD_CFG_MODE (q : Nat) : Fld := ⟨(Reg.LN_QUAD_CFG q), 2, 2⟩
def Reg.LN_QUAD_CFG_AUTOREF (q : Nat) : Fld := ⟨(Reg.LN_QUAD_CFG q), 1, 1⟩
def Reg.LN_QUAD_CFG_REFSEL (q : Nat) : Fld := ⟨(Reg.LN_QUAD_CFG q), 0, 1⟩
def Reg.LN_QUAD_STAT (q : Nat) : Nat := 0x200001 + q / 9 * 0x10000 + q % 9 * 0x100
def Reg.LN_QUAD_STAT_CFG_ERR (q : Nat) : Fld := ⟨(Reg.LN_QUAD_STAT q), 4, 1⟩
def Reg.LN_QUAD_STAT_REF_SW_SEEN (q : Nat) : Fld := ⟨(Reg.LN_QUAD_STAT q), 3, 1⟩
def Reg.LN_QUAD_STAT_UNLOCK_SEEN (q : Nat) : Fld := ⟨(Reg.LN_QUAD_STAT q), 2, 1⟩
def Reg.LN_QUAD_STAT_REF_NOW (q : Nat) : Fld := ⟨(Reg.LN_QUAD_STAT q), 1, 1⟩
def Reg.LN_QUAD_STAT_LOCK (q : Nat) : Fld := ⟨(Reg.LN_QUAD_STAT q), 0, 1⟩
def Reg.LN_LANE_CFG (l : Nat) : Nat := 0x200010 + l / 36 * 0x10000 + l / 4 % 9 * 0x100 + l % 4 * 0x10
def Reg.LN_LANE_CFG_WAKE_DET (l : Nat) : Fld := ⟨(Reg.LN_LANE_CFG l), 8, 1⟩
def Reg.LN_LANE_CFG_TX_INV (l : Nat) : Fld := ⟨(Reg.LN_LANE_CFG l), 7, 1⟩
def Reg.LN_LANE_CFG_RX_INV (l : Nat) : Fld := ⟨(Reg.LN_LANE_CFG l), 6, 1⟩
def Reg.LN_LANE_CFG_FEC (l : Nat) : Fld := ⟨(Reg.LN_LANE_CFG l), 5, 1⟩
def Reg.LN_LANE_CFG_RATES (l : Nat) : Fld := ⟨(Reg.LN_LANE_CFG l), 2, 3⟩
def Reg.LN_LANE_CFG_EN (l : Nat) : Fld := ⟨(Reg.LN_LANE_CFG l), 0, 1⟩
def Reg.LN_LANE_CTL (l : Nat) : Nat := 0x200011 + l / 36 * 0x10000 + l / 4 % 9 * 0x100 + l % 4 * 0x10
def Reg.LN_LANE_CTL_DEEP (l : Nat) : Fld := ⟨(Reg.LN_LANE_CTL l), 2, 1⟩
def Reg.LN_LANE_CTL_EIDLE (l : Nat) : Fld := ⟨(Reg.LN_LANE_CTL l), 1, 1⟩
def Reg.LN_LANE_CTL_RETRAIN (l : Nat) : Fld := ⟨(Reg.LN_LANE_CTL l), 0, 1⟩
def Reg.LN_LANE_STAT (l : Nat) : Nat := 0x200012 + l / 36 * 0x10000 + l / 4 % 9 * 0x100 + l % 4 * 0x10
def Reg.LN_LANE_STAT_ERR_SEEN (l : Nat) : Fld := ⟨(Reg.LN_LANE_STAT l), 10, 1⟩
def Reg.LN_LANE_STAT_MISMATCH (l : Nat) : Fld := ⟨(Reg.LN_LANE_STAT l), 9, 1⟩
def Reg.LN_LANE_STAT_DOWN_SEEN (l : Nat) : Fld := ⟨(Reg.LN_LANE_STAT l), 8, 1⟩
def Reg.LN_LANE_STAT_RX_INV_DET (l : Nat) : Fld := ⟨(Reg.LN_LANE_STAT l), 7, 1⟩
def Reg.LN_LANE_STAT_RATE (l : Nat) : Fld := ⟨(Reg.LN_LANE_STAT l), 5, 2⟩
def Reg.LN_LANE_STAT_PEER_IDLE (l : Nat) : Fld := ⟨(Reg.LN_LANE_STAT l), 4, 1⟩
def Reg.LN_LANE_STAT_STATE (l : Nat) : Fld := ⟨(Reg.LN_LANE_STAT l), 0, 4⟩
def Reg.LN_TX_EQ (l : Nat) : Nat := 0x200013 + l / 36 * 0x10000 + l / 4 % 9 * 0x100 + l % 4 * 0x10
def Reg.LN_TX_EQ_SWING (l : Nat) : Fld := ⟨(Reg.LN_TX_EQ l), 8, 4⟩
def Reg.LN_TX_EQ_POST (l : Nat) : Fld := ⟨(Reg.LN_TX_EQ l), 4, 4⟩
def Reg.LN_TX_EQ_PRE (l : Nat) : Fld := ⟨(Reg.LN_TX_EQ l), 0, 4⟩
def Reg.LN_PPM (l : Nat) : Nat := 0x200014 + l / 36 * 0x10000 + l / 4 % 9 * 0x100 + l % 4 * 0x10
def Reg.LN_PPM_PPM (l : Nat) : Fld := ⟨(Reg.LN_PPM l), 0, 20⟩
def Reg.LN_EB (l : Nat) : Nat := 0x200015 + l / 36 * 0x10000 + l / 4 % 9 * 0x100 + l % 4 * 0x10
def Reg.LN_EB_FILL (l : Nat) : Fld := ⟨(Reg.LN_EB l), 0, 6⟩
def Reg.LN_CV_CNT (l : Nat) : Nat := 0x200016 + l / 36 * 0x10000 + l / 4 % 9 * 0x100 + l % 4 * 0x10
def Reg.LN_CV_CNT_COUNT (l : Nat) : Fld := ⟨(Reg.LN_CV_CNT l), 0, 20⟩
def Reg.LN_MK_ERR (l : Nat) : Nat := 0x200017 + l / 36 * 0x10000 + l / 4 % 9 * 0x100 + l % 4 * 0x10
def Reg.LN_MK_ERR_COUNT (l : Nat) : Fld := ⟨(Reg.LN_MK_ERR l), 0, 20⟩
def Reg.LN_FILL_DEL (l : Nat) : Nat := 0x200018 + l / 36 * 0x10000 + l / 4 % 9 * 0x100 + l % 4 * 0x10
def Reg.LN_FILL_DEL_COUNT (l : Nat) : Fld := ⟨(Reg.LN_FILL_DEL l), 0, 20⟩
def Reg.LN_FILL_REP (l : Nat) : Nat := 0x200019 + l / 36 * 0x10000 + l / 4 % 9 * 0x100 + l % 4 * 0x10
def Reg.LN_FILL_REP_COUNT (l : Nat) : Fld := ⟨(Reg.LN_FILL_REP l), 0, 20⟩
def Reg.LN_DOWN_CNT (l : Nat) : Nat := 0x20001a + l / 36 * 0x10000 + l / 4 % 9 * 0x100 + l % 4 * 0x10
def Reg.LN_DOWN_CNT_COUNT (l : Nat) : Fld := ⟨(Reg.LN_DOWN_CNT l), 0, 20⟩
def Reg.LN_STUFF_CNT (l : Nat) : Nat := 0x20001b + l / 36 * 0x10000 + l / 4 % 9 * 0x100 + l % 4 * 0x10
def Reg.LN_STUFF_CNT_COUNT (l : Nat) : Fld := ⟨(Reg.LN_STUFF_CNT l), 0, 20⟩
def Reg.LN_FEC_CORR (l : Nat) : Nat := 0x20001c + l / 36 * 0x10000 + l / 4 % 9 * 0x100 + l % 4 * 0x10
def Reg.LN_FEC_CORR_COUNT (l : Nat) : Fld := ⟨(Reg.LN_FEC_CORR l), 0, 20⟩
def Reg.LN_FEC_UNCORR (l : Nat) : Nat := 0x20001d + l / 36 * 0x10000 + l / 4 % 9 * 0x100 + l % 4 * 0x10
def Reg.LN_FEC_UNCORR_COUNT (l : Nat) : Fld := ⟨(Reg.LN_FEC_UNCORR l), 0, 20⟩
def Reg.LN_RETRY (l : Nat) : Nat := 0x20001e + l / 36 * 0x10000 + l / 4 % 9 * 0x100 + l % 4 * 0x10
def Reg.LN_RETRY_COUNT (l : Nat) : Fld := ⟨(Reg.LN_RETRY l), 0, 20⟩
/-! Block 0x24: the map and the field tables stand in chapter 12 of spec/. -/
def Reg.FL_CFG : Nat := 0x240000
def Reg.FL_CFG_BCN_PER : Fld := ⟨Reg.FL_CFG, 12, 8⟩
def Reg.FL_CFG_BCN_MISS : Fld := ⟨Reg.FL_CFG, 8, 4⟩
def Reg.FL_CFG_DOWN_HOLD : Fld := ⟨Reg.FL_CFG, 3, 5⟩
def Reg.FL_CFG_RELAY : Fld := ⟨Reg.FL_CFG, 2, 1⟩
def Reg.FL_CFG_CNT_CLR : Fld := ⟨Reg.FL_CFG, 1, 1⟩
def Reg.FL_STAT : Nat := 0x240001
def Reg.FL_STAT_CFG_ERR : Fld := ⟨Reg.FL_STAT, 9, 1⟩
def Reg.FL_STAT_PARTNERS : Fld := ⟨Reg.FL_STAT, 0, 9⟩
def Reg.FL_ID_H : Nat := 0x240002
def Reg.FL_ID_H_ID_H : Fld := ⟨Reg.FL_ID_H, 0, 12⟩
def Reg.FL_ID_L : Nat := 0x240003
def Reg.FL_ID_L_ID_L : Fld := ⟨Reg.FL_ID_L, 0, 20⟩
def Reg.FL_TRIG : Nat := 0x240004
def Reg.FL_TRIG_EN : Fld := ⟨Reg.FL_TRIG, 4, 1⟩
def Reg.FL_TRIG_UNIT : Fld := ⟨Reg.FL_TRIG, 0, 4⟩
def Reg.FL_PKT_ERR : Nat := 0x240010
def Reg.FL_PKT_ERR_COUNT : Fld := ⟨Reg.FL_PKT_ERR, 0, 20⟩
def Reg.FL_PT_REFUSE : Nat := 0x240011
def Reg.FL_PT_REFUSE_COUNT : Fld := ⟨Reg.FL_PT_REFUSE, 0, 20⟩
def Reg.FL_SUB_DROP : Nat := 0x240012
def Reg.FL_SUB_DROP_COUNT : Fld := ⟨Reg.FL_SUB_DROP, 0, 20⟩
def Reg.FL_EVT_MERGED : Nat := 0x240013
def Reg.FL_EVT_MERGED_COUNT : Fld := ⟨Reg.FL_EVT_MERGED, 0, 20⟩
def Reg.FL_EVT_SUPP : Nat := 0x240014
def Reg.FL_EVT_SUPP_COUNT : Fld := ⟨Reg.FL_EVT_SUPP, 0, 20⟩
def Reg.FL_PT_SEL : Nat := 0x240020
def Reg.FL_PT_SEL_INDEX : Fld := ⟨Reg.FL_PT_SEL, 0, 8⟩
def Reg.FL_PT_INFO : Nat := 0x240021
def Reg.FL_PT_INFO_VALID : Fld := ⟨Reg.FL_PT_INFO, 19, 1⟩
def Reg.FL_PT_INFO_PROFILE : Fld := ⟨Reg.FL_PT_INFO, 17, 2⟩
def Reg.FL_PT_INFO_VERSION : Fld := ⟨Reg.FL_PT_INFO, 15, 2⟩
def Reg.FL_PT_INFO_ETH : Fld := ⟨Reg.FL_PT_INFO, 14, 1⟩
def Reg.FL_PT_INFO_LANE : Fld := ⟨Reg.FL_PT_INFO, 0, 8⟩
def Reg.FL_PT_ID_H : Nat := 0x240022
def Reg.FL_PT_ID_H_ID : Fld := ⟨Reg.FL_PT_ID_H, 0, 12⟩
def Reg.FL_PT_ID_L : Nat := 0x240023
def Reg.FL_PT_ID_L_ID : Fld := ⟨Reg.FL_PT_ID_L, 0, 20⟩
def Reg.FL_HEAD_CFG (i : Nat) : Nat := 0x240100 + i * 0x8
def Reg.FL_HEAD_CFG_EN (i : Nat) : Fld := ⟨(Reg.FL_HEAD_CFG i), 9, 1⟩
def Reg.FL_HEAD_CFG_WIDTH (i : Nat) : Fld := ⟨(Reg.FL_HEAD_CFG i), 7, 2⟩
def Reg.FL_HEAD_CFG_LANE (i : Nat) : Fld := ⟨(Reg.FL_HEAD_CFG i), 0, 7⟩
def Reg.FL_HEAD_BASE (i : Nat) : Nat := 0x240101 + i * 0x8
def Reg.FL_HEAD_BASE_BASE (i : Nat) : Fld := ⟨(Reg.FL_HEAD_BASE i), 0, 14⟩
def Reg.FL_HEAD_COUNT (i : Nat) : Nat := 0x240102 + i * 0x8
def Reg.FL_HEAD_COUNT_COUNT (i : Nat) : Fld := ⟨(Reg.FL_HEAD_COUNT i), 0, 15⟩
def Reg.FL_HEAD_ASYM (i : Nat) : Nat := 0x240103 + i * 0x8
def Reg.FL_HEAD_ASYM_ASYM (i : Nat) : Fld := ⟨(Reg.FL_HEAD_ASYM i), 0, 20⟩
def Reg.FL_HEAD_STAT (i : Nat) : Nat := 0x240104 + i * 0x8
def Reg.FL_HEAD_STAT_UNAL_SEEN (i : Nat) : Fld := ⟨(Reg.FL_HEAD_STAT i), 3, 1⟩
def Reg.FL_HEAD_STAT_FAR (i : Nat) : Fld := ⟨(Reg.FL_HEAD_STAT i), 2, 1⟩
def Reg.FL_HEAD_STAT_ALIGNED (i : Nat) : Fld := ⟨(Reg.FL_HEAD_STAT i), 1, 1⟩
def Reg.FL_HEAD_STAT_ATTACHED (i : Nat) : Fld := ⟨(Reg.FL_HEAD_STAT i), 0, 1⟩
def Reg.FL_HEAD_RTT (i : Nat) : Nat := 0x240105 + i * 0x8
def Reg.FL_HEAD_RTT_RTT (i : Nat) : Fld := ⟨(Reg.FL_HEAD_RTT i), 0, 20⟩
def Reg.FL_HEAD_DISC (i : Nat) : Nat := 0x240106 + i * 0x8
def Reg.FL_HEAD_DISC_COUNT (i : Nat) : Fld := ⟨(Reg.FL_HEAD_DISC i), 0, 20⟩
/-! Block 0x26: the map and the field tables stand in chapter 12 of spec/. -/
def Reg.EP_CFG : Nat := 0x260000
def Reg.EP_CFG_VID : Fld := ⟨Reg.EP_CFG, 5, 12⟩
def Reg.EP_CFG_PCP : Fld := ⟨Reg.EP_CFG, 2, 3⟩
def Reg.EP_CFG_TAG_EN : Fld := ⟨Reg.EP_CFG, 1, 1⟩
def Reg.EP_CFG_REFSEL : Fld := ⟨Reg.EP_CFG, 0, 1⟩
def Reg.EP_STAT : Nat := 0x260001
def Reg.EP_STAT_PTP_LANE : Fld := ⟨Reg.EP_STAT, 4, 5⟩
def Reg.EP_STAT_PTP_STATE : Fld := ⟨Reg.EP_STAT, 1, 3⟩
def Reg.EP_STAT_REF_NOW : Fld := ⟨Reg.EP_STAT, 0, 1⟩
def Reg.EP_MAC_H : Nat := 0x260002
def Reg.EP_MAC_H_MAC : Fld := ⟨Reg.EP_MAC_H, 0, 16⟩
def Reg.EP_MAC_M : Nat := 0x260003
def Reg.EP_MAC_M_MAC : Fld := ⟨Reg.EP_MAC_M, 0, 16⟩
def Reg.EP_MAC_L : Nat := 0x260004
def Reg.EP_MAC_L_MAC : Fld := ⟨Reg.EP_MAC_L, 0, 16⟩
def Reg.EP_IP_H : Nat := 0x260005
def Reg.EP_IP_H_IP : Fld := ⟨Reg.EP_IP_H, 0, 12⟩
def Reg.EP_IP_L : Nat := 0x260006
def Reg.EP_IP_L_IP : Fld := ⟨Reg.EP_IP_L, 0, 20⟩
def Reg.EP_FL_PORT : Nat := 0x260007
def Reg.EP_FL_PORT_PORT : Fld := ⟨Reg.EP_FL_PORT, 0, 16⟩
def Reg.EP_GRP_H : Nat := 0x260008
def Reg.EP_GRP_H_GRP : Fld := ⟨Reg.EP_GRP_H, 0, 12⟩
def Reg.EP_GRP_L : Nat := 0x260009
def Reg.EP_GRP_L_GRP : Fld := ⟨Reg.EP_GRP_L, 0, 20⟩
def Reg.EP_PTP_CFG : Nat := 0x260010
def Reg.EP_PTP_CFG_LOCK_THR : Fld := ⟨Reg.EP_PTP_CFG, 10, 10⟩
def Reg.EP_PTP_CFG_EN : Fld := ⟨Reg.EP_PTP_CFG, 9, 1⟩
def Reg.EP_PTP_CFG_UDP : Fld := ⟨Reg.EP_PTP_CFG, 8, 1⟩
def Reg.EP_PTP_CFG_DOMAIN : Fld := ⟨Reg.EP_PTP_CFG, 0, 8⟩
def Reg.EP_PTP_PORTS : Nat := 0x260011
def Reg.EP_PTP_PORTS_LANES : Fld := ⟨Reg.EP_PTP_PORTS, 0, 16⟩
def Reg.EP_PTP_OFS : Nat := 0x260012
def Reg.EP_PTP_OFS_OFS : Fld := ⟨Reg.EP_PTP_OFS, 0, 20⟩
def Reg.EP_TIME_SEC : Nat := 0x260013
def Reg.EP_TIME_SEC_SEC : Fld := ⟨Reg.EP_TIME_SEC, 0, 20⟩
def Reg.EP_TIME_NS_H : Nat := 0x260014
def Reg.EP_TIME_NS_H_NS : Fld := ⟨Reg.EP_TIME_NS_H, 0, 10⟩
def Reg.EP_TIME_NS_L : Nat := 0x260015
def Reg.EP_TIME_NS_L_NS : Fld := ⟨Reg.EP_TIME_NS_L, 0, 20⟩
def Reg.EP_RX_DROP : Nat := 0x260020
def Reg.EP_RX_DROP_COUNT : Fld := ⟨Reg.EP_RX_DROP, 0, 20⟩
def Reg.EP_PTP_STEP : Nat := 0x260021
def Reg.EP_PTP_STEP_COUNT : Fld := ⟨Reg.EP_PTP_STEP, 0, 20⟩

end Sys2Proof.Machine
end

