-- ==== Sys2Proof/Machine/Ops.lean ====
section
/-!
DEFINITION. The named operations over tables, registers, time, events and what leaves the device.
-/

namespace Sys2Proof.Machine

/-! ### Tables -/

/-- The value at a key; an unlisted key reads as `d`. -/
def Tab.look {α : Type} : List (Nat × α) → α → Nat → α
  | [], d, _ => d
  | (k', v) :: r, d, k => if k' = k then v else Tab.look r d k

def Tab.get {α : Type} (m : Tab α) (d : α) (k : Nat) : α := Tab.look m.cells d k

/-- Puts `v` at `k`, keeping the keys strictly rising. -/
def Tab.insert {α : Type} : List (Nat × α) → Nat → α → List (Nat × α)
  | [], k, v => [(k, v)]
  | (k', v') :: r, k, v =>
    if k < k' then (k, v) :: (k', v') :: r
    else if k = k' then (k, v) :: r
    else (k', v') :: Tab.insert r k v

/-- Removes every entry at `k`. -/
def Tab.erase {α : Type} (l : List (Nat × α)) (k : Nat) : List (Nat × α) := l.filter (fun c => c.1 ≠ k)

/-- A write; the value an unlisted key reads as removes the entry. -/
def Tab.set {α : Type} [DecidableEq α] (m : Tab α) (d : α) (k : Nat) (v : α) : Tab α :=
  if v = d then ⟨Tab.erase m.cells k⟩ else ⟨Tab.insert m.cells k v⟩

/-- Strictly rising keys, all of them at or above `n`. -/
def Tab.rising {α : Type} : Nat → List (Nat × α) → Bool
  | _, [] => true
  | n, (k, _) :: r => decide (n ≤ k) && Tab.rising (k + 1) r

/-- The canonical form: keys strictly rising, no entry equal to `d`. -/
def Tab.wf {α : Type} [DecidableEq α] (m : Tab α) (d : α) : Bool :=
  Tab.rising 0 m.cells && m.cells.all (fun c => c.2 ≠ d)

/-- The keys listed. -/
def Tab.keys {α : Type} (m : Tab α) : List Nat := m.cells.map (·.1)

/-! ### Fields of a score -/

/-- The value of a field in a register value. -/
def Fld.of (f : Fld) (v : Score) : Nat := v.toNat / 2 ^ f.lo % 2 ^ f.w

/-- A register value with one field replaced. -/
def Fld.put (f : Fld) (v : Score) (x : Nat) : Score :=
  BitVec.ofNat 20 (v.toNat - f.of v * 2 ^ f.lo + x % 2 ^ f.w * 2 ^ f.lo)

def b2n (b : Bool) : Nat := if b then 1 else 0

/-- The key of an RO or W1C field. -/
def Fld.key (f : Fld) : Nat := f.addr * 32 + f.lo

/-- The largest value of a field; saturating counters stop there. -/
def Fld.top (f : Fld) : Nat := 2 ^ f.w - 1

/-- A field that holds a signed quantity in two's complement (R4). -/
def sgn (w x : Nat) : Int := if x < 2 ^ (w - 1) then (x : Int) else (x : Int) - (2 : Int) ^ w

/-- The low `w` bits of an integer. -/
def low (w : Nat) (i : Int) : Nat := (i % (2 : Int) ^ w).toNat

/-! ### The register space -/

/-- Whether an offset is one of an array's offsets: each index stays below its count. -/
def RegKind.fits : Nat → List (Nat × Nat) → Bool
  | off, [] => off = 0
  | off, (n, stride) :: r => decide (off / stride < n) && RegKind.fits (off % stride) r

def RegKind.covers (k : RegKind) (a : Nat) : Bool := decide (k.base ≤ a) && RegKind.fits (a - k.base) k.dims

/-- The register at a base-block address, if the map lists one (R408). -/
def Reg.find (a : Nat) : Option RegKind := (Reg.blockKinds (a / 65536)).find? (fun k => k.covers a)

/-- The Reset column of the RW bits of a register. -/
def Reg.resetRw (a : Nat) : Score :=
  match Reg.find a with
  | some k => BitVec.ofNat 20 (k.reset &&& k.rw)
  | none => 0

/-- Posted blocks (Table 16.1) and the bit of each in CM_BUSY (Table 15.9). -/
def Reg.busyBit (a : Nat) : Option Nat :=
  match a / 65536 with
  | 0x02 => some 0 | 0x04 => some 1 | 0x05 => some 2 | 0x06 => some 3
  | 0x07 => some 4 | 0x08 => some 5 | 0x09 => some 6 | 0x0A => some 7
  | 0x10 => some 8 | 0x11 => some 8 | 0x12 => some 8 | 0x13 => some 8
  | 0x14 => some 9 | 0x18 => some 10 | 0x1C => some 11
  | 0x20 => some 12 | 0x21 => some 12 | 0x22 => some 12 | 0x23 => some 12
  | 0x24 => some 13 | 0x26 => some 14
  | _ => none

/-- The base-block address of an address: an alias block is the base block plus 0x80 (R407). -/
def Reg.base (a : Nat) : Nat := if a ≥ 0x800000 then a - 0x800000 else a

def Reg.isAlias (a : Nat) : Bool := decide (a ≥ 0x800000)

/-- CF_STAT.ACTIVE: CFG_B is the active set. -/
def State.activeB (s : State) : Bool := decide (Tab.get s.regs.hw 0 Reg.CF_STAT_ACTIVE.key = 1)

/-- The value in effect of a register of the active set. -/
def State.act (s : State) (a : Nat) : Score :=
  Tab.get (if s.activeB then s.regs.setB else s.regs.setA) (Reg.resetRw a) a

/-- The value of a register of the shadow set. -/
def State.shadow (s : State) (a : Nat) : Score :=
  Tab.get (if s.activeB then s.regs.setA else s.regs.setB) (Reg.resetRw a) a

/-- The value of a register that one pixel, channel, axis or lane works with: a waiting write that has already reached it (R35, R493),
else the value it keeps after a SWAP until its own boundary (Table 16.3), else the value in effect. -/
def State.use (s : State) (u a : Nat) : Score :=
  match s.regs.waiting.reverse.find? (fun w => decide (w.addr = a) && w.served.contains u && !w.left.contains u) with
  | some w => w.value
  | none =>
    match s.regs.stale.find? (fun x => decide (x.addr = a) && decide (x.unit = u)) with
    | some x => x.value
    | none => s.act a

/-- A field of the active set in effect. -/
def State.f (s : State) (f : Fld) : Nat := f.of (s.act f.addr)

/-- A field as one pixel, channel, axis or lane uses it. -/
def State.fu (s : State) (u : Nat) (f : Fld) : Nat := f.of (s.use u f.addr)

/-- A register of the Shepherd's copy, taken at its snapshot point (R131). -/
def State.sqReg (s : State) (a : Nat) : Score := Tab.get s.sq.copy (Reg.resetRw a) a

def State.fq (s : State) (f : Fld) : Nat := f.of (s.sqReg f.addr)

/-- A single-copy RW register (R415). -/
def State.oneReg (s : State) (a : Nat) : Score := Tab.get s.regs.one (Reg.resetRw a) a

def State.fo (s : State) (f : Fld) : Nat := f.of (s.oneReg f.addr)

def State.setOne (s : State) (a : Nat) (v : Score) : State :=
  { s with regs := { s.regs with one := Tab.set s.regs.one (Reg.resetRw a) a v } }

def State.setFo (s : State) (f : Fld) (x : Nat) : State := s.setOne f.addr (f.put (s.oneReg f.addr) x)

/-- An RO or W1C field. -/
def State.h (s : State) (f : Fld) : Nat := Tab.get s.regs.hw 0 f.key

/-- Sets an RO or W1C field, limited to its width. -/
def State.setH (s : State) (f : Fld) (x : Nat) : State :=
  { s with regs := { s.regs with hw := Tab.set s.regs.hw 0 f.key (min x f.top) } }

/-- The clock of the island that holds a register, in Hz (Table 1.3; R491 for the FL_ and EP_ blocks): the two counters of the always-on
island, the thermal island, the management processor for the rest of block 0x02. -/
def islandHz (a : Nat) : Nat :=
  match a / 65536 with
  | 0x00 | 0x01 | 0x05 | 0x06 | 0x24 | 0x26 => 400000000
  | 0x02 => if a = Reg.PW_SUPPLY_CNT ∨ a = Reg.PW_PIN_CNT then 10000000 else if a ≥ Reg.TH_CFG then 50000000 else 800000000
  | 0x07 => 100000000
  | 0x08 => 200000000
  | 0x09 | 0x0A | 0x18 => 1000000000
  | 0x1C => 800000000
  | _ => 1280000000

/-- The division of the fold and extraction clocks that the die domain's step asks for (Table 18.2); it counts from the step's change. -/
def State.clockDiv (s : State) : Nat := [1, 1, 2, 4].getD (s.h Reg.TH_STAT_STEP_DIE) 1

/-- The quad of an LN_ address (R296). -/
def quadOf (a : Nat) : Nat := (a / 65536 - 0x20) * 9 + a % 65536 / 256

/-- That clock as it runs now: divided in Fold and extraction (R463), of the quad's mode in a BASE-R quad (R294). -/
def State.hz (s : State) (a : Nat) : Nat :=
  match a / 65536 with
  | 0x18 | 0x1C => islandHz a / s.clockDiv
  | 0x20 | 0x21 | 0x22 | 0x23 =>
    match decide (32 ≤ quadOf a), s.fu (quadOf a) (Reg.LN_QUAD_CFG_MODE (quadOf a)) with
    | true, 1 => 390625000
    | true, 2 => 156250000
    | _, _ => islandHz a
  | _ => islandHz a

/-- The number of the clock cycle of that island in which an instant lies. -/
def State.cycleOf (s : State) (a x : Nat) : Nat := x * s.hz a / 128000000000

/-- A condition sets bits of a field, or a count arrives, now; what lies more than a cycle of the slowest island back is forgotten. -/
def State.note (s : State) (f : Fld) (x : Nat) : State :=
  { s with regs := { s.regs with recent := ⟨f.key, x, s.now⟩ :: s.regs.recent.filter fun r => decide (s.now < r.at_ + 12800) } }

/-- What arrived at a field in the island cycle that runs now. -/
def State.recentAt (s : State) (f : Fld) : List Nat :=
  (s.regs.recent.filter fun r => decide (r.key = f.key) && decide (s.cycleOf f.addr r.at_ = s.cycleOf f.addr s.now)).map (·.x)

/-- The bits that a condition has set in this island cycle; the count that has arrived in it. -/
def State.recentBits (s : State) (f : Fld) : Nat := (s.recentAt f).foldl (· ||| ·) 0
def State.recentCount (s : State) (f : Fld) : Nat := (s.recentAt f).foldl (· + ·) 0

/-- Sets a one-bit RO field. -/
def State.flag (s : State) (f : Fld) (b : Bool) : State := (s.note f (if b then 1 else 0)).setH f (if b then 1 else 0)

/-- Sets bit `i` of a field. -/
def State.orBit (s : State) (f : Fld) (i : Nat) : State := (s.note f (2 ^ i)).setH f (s.h f ||| 2 ^ i)

/-- Clears bit `i` of a field. -/
def State.clrBit (s : State) (f : Fld) (i : Nat) : State := s.setH f (s.h f &&& (f.top ^^^ 2 ^ i))

/-- A saturating counter counts `n`. -/
def State.add (s : State) (f : Fld) (n : Nat) : State := (s.note f n).setH f (s.h f + n)

def State.inc (s : State) (f : Fld) : State := s.add f 1

/-- Clears counters; counts that arrive in the same island cycle are kept. -/
def State.clear (s : State) (fs : List Fld) : State := fs.foldl (fun x f => x.setH f (s.recentCount f)) s

/-- Results are set back to 0. -/
def State.zero (s : State) (fs : List Fld) : State := fs.foldl (fun s f => s.setH f 0) s

/-- Whether a register has a field bit set in a one-bit field of the active set. -/
def State.on (s : State) (f : Fld) : Bool := s.f f == 1

/-! ### Time -/

/-- 1 µs, 1 ms and 1 s in LSB of 7.8125 ps (R5). -/
def lsbUs : Nat := 128000
def lsbMs : Nat := 128000000
def lsbS : Nat := 128000000000

/-- The clock of the model reaches the instant of a command; it never runs back. -/
def State.clock (s : State) (t : Nat) : State := { s with now := max s.now t }

/-- Node time in LSB (R26, R319): the time base plus its PTP correction. -/
def State.nodeTime (s : State) : Nat := (s.now + s.nodeOfs).toNat

/-- Whether the blocks run: with NODE_RDY_N asserted (R443, R477; in recovery only the service port runs, R450). -/
def State.live (s : State) : Bool := decide (s.phase = .ready)

/-- What no command of a block changes, whatever else it does: the queue of waiting commands, the phase of the die and what holds it in
reset; its clock stands at the command's instant. -/
def State.keep (s : State) (t : Nat) (x : State) : State :=
  { x with pending := s.pending, now := max s.now t, phase := s.phase, pw := { x.pw with gate := s.pw.gate } }

/-- A command that acts only under a condition; else only time passes. -/
def State.runIf (s : State) (b : Bool) (t : Nat) (f : State → State) : Host.Outcome State Fault Refusal :=
  .next (s.keep t (if b then f (s.clock t) else s))

/-- A command of a block: it acts only while the die runs. -/
def State.run (s : State) (t : Nat) (f : State → State) : Host.Outcome State Fault Refusal := s.runIf s.live t f

/-! ### What leaves the device, and events -/

def State.send (s : State) (x : Tx) : State := { s with tx := s.tx ++ [x] }

/-- The device's source identity (R297), as it is in effect. -/
def State.ident (s : State) : Nat := s.fl.ident

/-- A report reaches the event manager (R322) about a unit in which a fault lies (Table 12.5), with a severity of its own. -/
def State.raiseAbout (s : State) (src : Nat) (e : Ev) (sev : Sev) (e10 e11 : Nat) : State :=
  { s with ev := { s.ev with inbox := s.ev.inbox ++
      [{ src := src, code := e.code, sev := sev, e10 := e10 % 2 ^ 20, e11 := e11 % 2 ^ 20, count := 1,
         first := s.ident, last := s.ident, time := s.nodeTime, relayed := false, port := none }] } }

/-- A report about the device itself, with a severity of its own. -/
def State.raiseSev (s : State) (e : Ev) (sev : Sev) (e10 e11 : Nat) : State := s.raiseAbout s.ident e sev e10 e11

/-- A report of one of the device's own events (R325). -/
def State.raise (s : State) (e : Ev) (e10 e11 : Nat) : State := s.raiseSev e e.sev e10 e11

/-- An event raised at most once per frame for an argument. -/
def State.raiseOnce (s : State) (e : Ev) (arg e11 : Nat) : State :=
  if s.ev.seen.contains (e.code, arg) then s
  else { (s.raise e arg e11) with ev := { (s.raise e arg e11).ev with seen := (e.code, arg) :: s.ev.seen } }

/-- A fresh free value: the counter moves on, so that the next one is another. -/
def State.fresh (s : State) : State := { s with freeCtr := s.freeCtr + 1 }

end Sys2Proof.Machine
end

