-- ==== Sys2Proof/Machine/Flags.lean ====
section
/-!
DEFINITION. The check computations of the spec: CRC-32C (R426), CRC-20 (R299), and the references over a configuration set.
-/

namespace Sys2Proof.Machine

/-- One bit of a CRC of width `w` that takes its message most significant bit first. -/
def crcBitMsb (w poly crc : Nat) (bit : Bool) : Nat :=
  let out := decide (crc / 2 ^ (w - 1) = 1)
  let sh := crc % 2 ^ (w - 1) * 2
  if out = bit then sh else sh ^^^ poly

/-- The bits of a number, most significant first. -/
def bitsMsb : Nat → Nat → List Bool
  | 0, _ => []
  | w + 1, x => decide (x / 2 ^ w % 2 = 1) :: bitsMsb w x

/-- The check score of a Frezen Link packet (R299): CRC-20 over header and body, bit 19 first. -/
def crc20 (scores : List Score) : Score :=
  BitVec.ofNat 20 (scores.foldl (fun c x => (bitsMsb 20 x.toNat).foldl (crcBitMsb 20 0x8359D) c) 0xFFFFF)

/-- The three bytes of a score (R426, R367): most significant byte first, the upper 4 bits 0. -/
def scoreBytes (v : Score) : List Nat := [v.toNat / 65536, v.toNat / 256 % 256, v.toNat % 256]

/-- Scores as the bytes of the service port and of UDP: three each, most significant first. -/
def scoreOctets (l : List Score) : List (BitVec 8) := l.flatMap fun v => (scoreBytes v).map (BitVec.ofNat 8)

/-- The number that bytes spell, most significant first. -/
def ofBytes (l : List (BitVec 8)) : Nat := l.foldl (fun n b => n * 256 + b.toNat) 0

/-- As many scores from bytes; the upper 4 bits of each three bytes, which are 0, carry nothing. -/
def octetScores (n : Nat) (l : List (BitVec 8)) : List Score :=
  (List.range n).map fun i => BitVec.ofNat 20 (ofBytes ((l.drop (3 * i)).take 3))

/-- The base addresses of the registers that hold a field of a set, in ascending order (R426). -/
def setAddresses (blocks : List Nat) : List Nat :=
  blocks.flatMap fun b => ((List.range 65536).map (fun o => b * 65536 + o)).filter fun a =>
    match Reg.find a with
    | some k => !k.one && decide (k.rw ≠ 0)
    | none => false

/-- The blocks of Table 16.1 that have an alias. -/
def setBlocks : List Nat :=
  [1, 2, 4, 5, 6, 7, 8, 9, 0x10, 0x11, 0x12, 0x13, 0x14, 0x18, 0x1C, 0x20, 0x21, 0x22, 0x23, 0x24, 0x26]

/-- The CRC of a configuration set held in a table (R426), over some blocks. -/
def setCrc (tab : Tab Score) (blocks : List Nat) : BitVec 32 :=
  crc32c ((setAddresses blocks).flatMap fun a => scoreBytes (Tab.get tab (Reg.resetRw a) a))

/-- The table that holds the active set, and the one that holds the shadow set. -/
def State.activeTab (s : State) : Tab Score := if s.activeB then s.regs.setB else s.regs.setA
def State.shadowTab (s : State) : Tab Score := if s.activeB then s.regs.setA else s.regs.setB

end Sys2Proof.Machine
end

