-- ==== Sys2Proof/Machine/LinkOps.lean ====
section
/-!
DEFINITION. Frezen Link as every block uses it (R299, R303, R309, R310, R316): packets, partners, consumers, SHOT.
-/

namespace Sys2Proof.Machine

def State.link (s : State) (l : Nat) : Link := Tab.get s.fl.links {} l

def State.setLink (s : State) (l : Nat) (x : Link) : State :=
  { s with fl := { s.fl with links := Tab.set s.fl.links {} l x } }

def State.head (s : State) (h : Nat) : Head := Tab.get s.fl.heads {} h

def State.setHead (s : State) (h : Nat) (x : Head) : State :=
  { s with fl := { s.fl with heads := Tab.set s.fl.heads {} h x } }

/-- A lane is UP (Table 11.4). -/
def State.laneIsUp (s : State) (l : Nat) : Bool := s.h (Reg.LN_LANE_STAT_STATE l) == 8

/-- The profile a lane's group serves (R38): 0 Head, 1 Node, 2 Backbone. -/
def laneProfile (l : Nat) : Nat := if l < 96 then 0 else if l < 128 then 1 else 2

/-- A packet with its header and check (R299). -/
def packetScores (kind pseq : Nat) (body : List Score) : List Score :=
  let hb := (BitVec.ofNat 20 (kind % 16 * 65536 + body.length % 256 * 256 + pseq % 256) : Score) :: body
  hb ++ [crc20 hb]

/-- The order in which packets that wait on a link go: SHOT ahead of every other kind (R316), TRIG ahead of every kind but SHOT (R321). -/
def kindRank (kind : Nat) : Nat := if kind = 10 then 0 else if kind = 9 then 1 else 2

/-- A packet joins those that wait on a link, behind those of its own rank. -/
def Link.push (k : Link) (p : Outgoing) : Link :=
  let ahead := k.queue.takeWhile fun q => decide (kindRank q.kind ≤ kindRank p.kind)
  { k with queue := ahead ++ p :: k.queue.drop ahead.length }

/-- Whether a link takes a packet of a KIND: it is UP with its CAPS exchange complete and not refused, or the packet is CAPS (R302, R310).
HCFG is owed to its head and waits for the link (R312). -/
def Link.takes (k : Link) (kind : Nat) : Bool := (k.up && (kind == 1 || (k.capsDone && !k.refused))) || kind == 14

/-- Sends a packet on a link: it joins the stream of the link's superframes (R298). -/
def State.sendLink (s : State) (l kind : Nat) (body : List Score) : State :=
  if (s.link l).takes kind then s.setLink l ((s.link l).push ⟨kind, body⟩) else s

/-- The IEEE 802.1Q tag of sent Ethernet frames (R320), and the polarity that TX_INV gives a BASE-R lane (R295). -/
def State.ether (s : State) (l : Nat) : Ether :=
  { tag := if s.f Reg.EP_CFG_TAG_EN = 1 then some (s.f Reg.EP_CFG_VID, s.f Reg.EP_CFG_PCP) else none, inverted := s.fu l (Reg.LN_LANE_CFG_TX_INV l) == 1 }

/-- Sends a packet in a UDP datagram (R304, R367); the sequence number is kept for the lane. -/
def State.sendUdp (s : State) (lane ip port kind : Nat) (body : List Score) : State :=
  let k := s.link lane
  (s.setLink lane { k with txSeq := (k.txSeq + 1) % 256 }).send (.datagram lane ip port (s.ether lane) (scoreOctets (packetScores kind k.txSeq body)))

/-- Sends a packet to a partner on its port. -/
def State.sendPartner (s : State) (p : Partner) (kind : Nat) (body : List Score) : State :=
  match p.port with
  | .lane l => s.sendLink l kind body
  | .eth lane ip => s.sendUdp lane ip (s.f Reg.EP_FL_PORT_PORT) kind body

def State.partner (s : State) (ident : Nat) : Option Partner := s.fl.partners.find? fun p => decide (p.ident = ident)

/-- A B-lane in BASE-R mode that is UP, or a link that is UP with its CAPS exchange complete. -/
def State.portUp (s : State) : PortRef → Bool
  | .lane l => (s.link l).up && (s.link l).capsDone && !(s.link l).refused
  | .eth lane _ => s.laneIsUp lane

/-- Whether a subscription's consumer can be reached (R310). -/
def State.subUp (s : State) (u : Sub) : Bool :=
  match u.who with
  | .svc => true
  | .partner i => match s.partner i with | some p => s.portUp p.port | none => false
  | .eth _ _ => s.laneIsUp u.lane

/-- The Frezen Link version toward a consumer; Ethernet consumers and the service port take the current one (R325). -/
def State.subVersion (s : State) (who : Consumer) : Nat :=
  match who with
  | .partner i => match s.partner i with | some p => p.version | none => 3
  | _ => 3

/-- Sends a packet to a subscription's consumer. -/
def State.sendSub (s : State) (u : Sub) (kind : Nat) (body : List Score) : State :=
  match u.who with
  | .svc => s
  | .partner i => match s.partner i with | some p => s.sendPartner p kind body | none => s
  | .eth ip port => s.sendUdp u.lane ip port kind body

/-- The subscriptions to a stream. -/
def State.subsOf (s : State) (kind arg : Nat) : List Sub := s.fl.subs.filter fun u => decide (u.kind = kind) && decide (u.arg = arg)

/-- Copies dropped for consumers that cannot be reached, or with a subscription that ends. -/
def State.subDrop (s : State) (n : Nat) : State := s.add Reg.FL_SUB_DROP_COUNT n

/-- The mean of a head's accepted offsets in 1/16 LSB (R313); the offsets are kept in 1/32 LSB, where each is whole. -/
def Head.ofs16 (h : Head) : Int := roundDiv (h.offs.foldl (· + ·) 0) (2 * h.offs.length)

/-- Whether a head slot is enabled, attached and aligned. -/
def State.headAligned (s : State) (h : Nat) : Bool :=
  s.f (Reg.FL_HEAD_CFG_EN h) == 1 && s.h (Reg.FL_HEAD_STAT_ATTACHED h) == 1 && s.h (Reg.FL_HEAD_STAT_ALIGNED h) == 1

/-- The first remote pixel and the pixel count of a head slot. -/
def State.headBase (s : State) (h : Nat) : Nat := s.f (Reg.FL_HEAD_BASE_BASE h)
def State.headCount (s : State) (h : Nat) : Nat := s.f (Reg.FL_HEAD_COUNT_COUNT h)

/-- Whether a head slot holds a pixel number (R141). -/
def State.headHas (s : State) (h p : Nat) : Bool :=
  decide (512 + s.headBase h ≤ p) && decide (p < 512 + s.headBase h + s.headCount h)

/-- The head slot that holds a remote pixel. -/
def State.headOf (s : State) (p : Nat) : Option Nat := (List.range 48).find? fun h => s.f (Reg.FL_HEAD_CFG_EN h) == 1 && s.headHas h p

/-- SHOT to every aligned head whose pixels the group names (R316); its slot instant in head time is round(slot + o) mod 2^20. -/
def State.sendShot (s : State) (d : ShotDesc) (slotAt : Nat) (pixels : List Nat) : State :=
  (List.range 48).foldl (fun s h =>
    if s.headAligned h && pixels.any (s.headHas h) then
      let o := (s.head h).ofs16
      s.sendLink (s.head h).lane 10
        [BitVec.ofNat 20 d.seq, BitVec.ofInt 20 (roundDiv (16 * (slotAt : Int) + o) 16), BitVec.ofNat 20 (d.group * 1024 + d.win * 16)]
    else s) s

end Sys2Proof.Machine
end

