-- ==== Sys2Proof/Machine/SafeOps.lean ====
section
/-!
DEFINITION. The safety islands' shared operations (13_safety_functions.md): channel states and trips (R338), what blocks a reset
(R341), ZONE_STATE (R350 to R353), island failures (R339, R345, R346), and what the blocks report to the islands (R333).
-/

namespace Sys2Proof.Machine

/-- The islands by number: 0 SI-A, 1 SI-B. -/
def State.si (s : State) (i : Nat) : SafeIsland := if i = 0 then s.safe.a else s.safe.b

def State.setSi (s : State) (i : Nat) (x : SafeIsland) : State :=
  { s with safe := if i = 0 then { s.safe with a := x } else { s.safe with b := x } }

def State.safeChan (s : State) (n : Nat) : SafeChan := Tab.get s.safe.chan {} n

def State.setSafeChan (s : State) (n : Nat) (x : SafeChan) : State :=
  { s with safe := { s.safe with chan := Tab.set s.safe.chan {} n x } }

/-- SF_STAT.SIA_CAUSE and SIB_CAUSE. -/
def siCause (i : Nat) : Fld := if i = 0 then Reg.SF_STAT_SIA_CAUSE else Reg.SF_STAT_SIB_CAUSE

def State.siHealthy (s : State) (i : Nat) : Bool := s.h (siCause i) == 0

/-- The islands that have not failed. -/
def State.siLive (s : State) : List Nat := [0, 1].filter s.siHealthy

/-- A field of an island's own copy of the SF_ values (R360). -/
def State.fs (s : State) (i : Nat) (f : Fld) : Nat := f.of (Tab.get (s.si i).copy (Reg.resetRw f.addr) f.addr)

/-- A field of the SF_ values as the islands use them for a channel: the copy of the lowest island that has not failed. -/
def State.sf (s : State) (f : Fld) : Nat := s.fs (if s.siHealthy 0 then 0 else 1) f

/-- The state of a channel (Table 13.1). -/
def State.chState (s : State) (n : Nat) : Nat := s.h (Reg.SF_CH_STAT_STATE n)

def State.chEnergised (s : State) (n : Nat) : Bool := s.chState n == 2 || s.chState n == 3

/-- The level that a member's pin is commanded to (R327, R329, R339, R346): high only in a channel that is ENERGISED by an island that
has not failed, or in DEGRADED, where the healthy island drives both members, the failed one's through the takeover switch. -/
def State.soLevel (s : State) (i n : Nat) : Bool :=
  s.live && ((s.chState n == 2 && s.siHealthy i && !(s.si i).wdHold) || (s.chState n == 3 && !s.siLive.isEmpty))

/-- SOA_RB and SOB_RB show the pins. -/
def State.showPins (s : State) (n : Nat) : State :=
  let x := s.safeChan n
  (s.flag (Reg.SF_CH_STAT_SOA_RB n) (s.soLevel 0 n != x.rbA)).flag (Reg.SF_CH_STAT_SOB_RB n) (s.soLevel 1 n != x.rbB)

/-! ### ZONE_STATE (R350 to R353) -/

/-- The safety check of R351 over the key and the scores. -/
def fslCheck (key : Nat) (scores : List Score) : Nat :=
  let bits := bitsMsb 32 key ++ scores.flatMap fun v => bitsMsb 20 v.toNat
  0xFFFFFFFF ^^^ bits.foldl (crcBitMsb 32 0x741B8CD7) 0xFFFFFFFF

/-- The ZONE_STATE of a channel as one island builds it. -/
def State.zoneState (s : State) (i n : Nat) : List Score :=
  let x := s.safeChan n
  let e := (s.si i).shown.2.getD n {}
  let sc (v : Nat) : Score := BitVec.ofNat 20 v
  let st := s.chState n
  let first := if st = 2 ∨ st = 3 then 0 else s.h (Reg.SF_CH_CAUSE_FIRST n)
  let body := [sc (0x01 * 2 ^ 12 + 1 * 2 ^ 8 + (if s.fl.ptp.locked then 128 else 0) + 6), sc (s.ident / 2 ^ 20), sc s.ident,
    sc (n * 2 ^ 16 + x.seq), sc (s.nodeTime / 12800000), sc (st * 2 ^ 17 + first * 2 ^ 12), sc (s.si i).shown.1,
    sc (e.viol / 2 ^ 20), sc e.viol, sc (e.blind / 2 ^ 20), sc e.blind]
  let chk := fslCheck (s.fs i (Reg.SF_TX_KEY_H_KEY n) * 2 ^ 20 + s.fs i (Reg.SF_TX_KEY_L_KEY n)) body
  body ++ [sc (chk / 2 ^ 20), sc chk]

/-- Whether the islands that have not failed build one and the same message (R353). -/
def State.buildsAgree (s : State) (n : Nat) : Bool :=
  if s.siLive = [0, 1] then s.zoneState 0 n == s.zoneState 1 n else true

/-- One ZONE_STATE goes to every subscriber of the channel's FSL stream. -/
def State.sendZone (s : State) (n : Nat) : State :=
  match s.siLive with
  | [] => s
  | i :: _ =>
    let m := s.zoneState i n
    let x := s.safeChan n
    let s := s.setSafeChan n { x with seq := (x.seq + 1) % 65536 }
    (s.subsOf 2 n).foldl (fun s u =>
      if s.subUp u then (if s.subVersion u.who ≥ 2 then s.sendSub u 7 m else s) else s.subDrop 1) s

/-- The channel's commanded state changes: the feedback check starts over (R340). -/
def State.chMove (s : State) (n st : Nat) : State :=
  let was := s.chEnergised n
  let s := s.setH (Reg.SF_CH_STAT_STATE n) st
  let s := if s.chEnergised n = was then s
    else
      let ok := s.h (Reg.SF_CH_STAT_SFB n) == (if s.chEnergised n then 0 else 1)
      s.setSafeChan n { s.safeChan n with changedAt := s.now, fbOk := ok, wrongAt := none, rbA := false, rbB := false }
  s.showPins n

/-! ### Trips (R338) -/

/-- A detected cause: the members go low, the channel enters TRIPPED, counted and reported. A TRIPPED channel keeps its FIRST cause. -/
def State.tripMove (s : State) (n cause : Nat) : State :=
  if s.chEnergised n then
    let x := s.safeChan n
    let s := s.setSafeChan n { x with degUntil := none, expired := if x.expired = 0 ∧ (cause = 12 ∨ cause = 17) then cause else x.expired }
    let s := ((s.setH (Reg.SF_CH_CAUSE_FIRST n) cause).inc (Reg.SF_TRIP_CNT_COUNT n)).flag (Reg.SF_CH_STAT_TRIP_SEEN n) true
    (s.raise .safeTrip n cause).chMove n 1
  else s

/-- A ZONE_STATE goes out if the islands build it alike; else nothing is sent and the channel trips with DISAGREE (R353). -/
def State.zoneOut (s : State) (n : Nat) : State := if s.buildsAgree n then s.sendZone n else s.tripMove n 11

/-- A change of channel state with its ZONE_STATE (R352). -/
def State.chSet (s : State) (n st : Nat) : State := (s.chMove n st).zoneOut n

/-- A trip with its ZONE_STATE. -/
def State.siTrip (s : State) (n cause : Nat) : State := if s.chEnergised n then (s.tripMove n cause).zoneOut n else s

/-- The eight channels. -/
def safeChans : List Nat := [0, 1, 2, 3, 4, 5, 6, 7]

/-- A cause that concerns every channel. -/
def State.siTripAll (s : State) (cause : Nat) : State := safeChans.foldl (fun s n => s.siTrip n cause) s

/-- A channel enters TRIPPED with STARTUP (R331): no trip is counted or reported. -/
def State.siStartup (s : State) (n : Nat) : State :=
  ((s.setSafeChan n { s.safeChan n with evaluated := false, causes := [] }).setH (Reg.SF_CH_CAUSE_FIRST n) 1).chSet n 1

/-! ### Ready for reset (R341) -/

/-- A wrong feedback level (R340). -/
def State.fbWrong (s : State) (n : Nat) : Bool :=
  s.sf (Reg.SF_CH_CFG_FB_EN n) == 1 && (s.h (Reg.SF_CH_STAT_SFB n) != (if s.chEnergised n then 0 else 1))

/-- The status causes of Table 13.2 that are present for a channel, whatever the last evaluation said. -/
def State.statusCauses (s : State) (n : Nat) : List Nat :=
  let x := s.safeChan n
  (if s.safe.a.missing || s.safe.b.missing then [9] else [])
    ++ (if s.safe.pathFault || s.sq.refLost then [10] else [])
    ++ (if x.rbA || x.rbB then [13] else [])
    ++ (if s.h Reg.CF_STAT_MISMATCH = 1 ∧ s.sf Reg.SF_CFG_CRC_TRIP = 1 then [15] else [])

/-- The slots a channel follows. -/
def State.follows (s : State) (n : Nat) : List Nat := safeChans.filter fun k => decide (s.sf (Reg.SF_CH_FOLLOW_SLOTS n) / 2 ^ k % 2 = 1)

def State.slotGood (s : State) (k : Nat) : Bool := s.h (Reg.SF_RX_STAT_STATE k) == 1 && s.h (Reg.SF_RX_STAT_REMOTE_OK k) == 1

/-- The causes that the last evaluated frame showed for a channel: once every healthy island has evaluated it, what they found, also before the
cross-check. -/
def State.evalCauses (s : State) (n : Nat) : List Nat :=
  let new := s.siLive.filterMap fun i => (s.si i).eval.map fun e => (e.2.getD n {}).causes
  if new.length = s.siLive.length ∧ new ≠ [] then new.flatten else (s.safeChan n).causes ++ new.flatten

/-- Every cause that blocks a reset of a channel in use now. -/
def State.blocking (s : State) (n : Nat) : List Nat :=
  let x := s.safeChan n
  if s.sf (Reg.SF_CH_CFG_EN n) = 0 then []
  else
  (if x.evaluated then [] else [1]) ++ s.evalCauses n ++ s.statusCauses n
    ++ (if s.siLive = [0, 1] then [] else [12])
    ++ (if s.fbWrong n then [14] else [])
    ++ (if (s.follows n).all s.slotGood then [] else [16])
    ++ (if x.expired = 0 then [] else [x.expired])

/-- SF_CH_CAUSE.NOW: the lowest code that still blocks reset; 0 none. -/
def State.causeNow (s : State) (n : Nat) : Nat :=
  match s.blocking n with
  | [] => 0
  | c :: r => r.foldl min c

/-- SF_CH_STAT.RESET_READY. -/
def State.resetReady (s : State) (n : Nat) : Bool :=
  (s.safeChan n).evaluated && (s.blocking n).isEmpty && decide (s.siLive = [0, 1])
    && (s.sf (Reg.SF_CH_CFG_FB_EN n) == 0 || s.h (Reg.SF_CH_STAT_SFB n) == 1)

/-! ### Island failures (R339, R345, R346) -/

/-- DEG_EN acts as 0 in channels 2 to 7. -/
def State.mayDegrade (s : State) (n failed : Nat) : Bool :=
  let x := s.safeChan n
  let other := 1 - failed
  decide (n < 2) && s.sf (Reg.SF_CH_CFG_DEG_EN n) == 1 && s.chState n == 2 && !x.degUsed && s.siHealthy other
    && (match (s.si other).selfTest with | some t => decide (s.now ≤ t + 100 * lsbMs) | none => false)
    && (s.evalCauses n).isEmpty && (s.statusCauses n).isEmpty && (s.follows n).all fun k => s.h (Reg.SF_RX_STAT_STATE k) != 2

/-- SF_DEG_TIME: values outside 5 to 120 act as the nearer limit. -/
def State.degTime (s : State) (n : Nat) : Nat := max 5 (min 120 (s.sf (Reg.SF_DEG_TIME_S n)))

/-- An island is declared failed, until device reset. -/
def State.siFail (s : State) (i cause : Nat) : State :=
  if s.siHealthy i then
    let s := (s.setH (siCause i) cause).raise .siFail i cause
    safeChans.foldl (fun s n =>
      if s.mayDegrade n i then
        let s := s.setSafeChan n { s.safeChan n with degUsed := true, degUntil := some (s.now + s.degTime n * lsbS) }
        (s.raise .degradedStart n i).chSet n 3
      else s.siTrip n 12) s
  else s

/-! ### Inputs of the islands (R184, R333, R496) -/

/-- Whether an island's input queue has room for a record. -/
def State.siRoom (s : State) (i : Nat) : Bool := decide ((s.si i).queue.length < 65536)

def State.siPut (s : State) (i : Nat) (rec : List Score) : State := s.setSi i { s.si i with queue := (s.si i).queue ++ [rec] }

/-- SAFE_FEED_LOSS names the island. -/
def State.siLost (s : State) (i : Nat) : State := s.setSi i { s.si i with feedLoss := true }

def addOnce (x : Nat) (l : List Nat) : List Nat := if l.contains x then l else x :: l

/-- Every tile PLL is in lock. -/
def State.tilesLocked (s : State) : Bool := (List.range 64).all fun t => s.h (Reg.TL_TILE_STAT_LOCK t) == 1

/-- Whether an analog channel is blind now (R333). -/
def State.chanBlind (s : State) (c : Nat) : Bool :=
  (Reg.TL_CH_CFG_EN c).of (s.use c (Reg.TL_CH_CFG c)) == 0 || (Reg.TL_TILE_CFG_AFE_EN (c / 8)).of (s.use c (Reg.TL_TILE_CFG (c / 8))) == 0
    || s.h (Reg.TL_TILE_STAT_LOCK (c / 8)) == 0 || s.h (Reg.TE_TILE_STAT_SKEW (c / 8)) == 1 || s.h (Reg.TE_CH_STAT_FAIL c) == 1

/-- A channel that is blind inside a scan part counts for the frame. -/
def State.noteChan (s : State) (c : Nat) : State :=
  if s.sq.inScan && s.chanBlind c then { s with safe := { s.safe with chans := addOnce c s.safe.chans } } else s

/-- A head that is not attached or not aligned inside a scan part counts for the frame. -/
def State.noteHead (s : State) (h : Nat) : State :=
  if s.sq.inScan && !s.headAligned h then { s with safe := { s.safe with heads := addOnce h s.safe.heads } } else s

/-- An axis outside TRACK or with ERR set inside a scan part counts for the frame. -/
def State.noteAxis (s : State) (a : Nat) : State :=
  if s.sq.inScan && (s.h (Reg.SV_AX_STAT_STATE a) != 3 || s.h (Reg.SV_AX_STAT_ERR a) == 1) then
    { s with safe := { s.safe with axes := addOnce a s.safe.axes } } else s

/-- The channels of a tile. -/
def State.noteTile (s : State) (t : Nat) : State := (List.range 8).foldl (fun s i => s.noteChan (8 * t + i)) s

/-- Everything is looked at, at the start and the end of a scan part. -/
def State.noteAll (s : State) : State :=
  let s := (List.range 512).foldl (fun s c => s.noteChan c) s
  let s := (List.range 48).foldl (fun s h => s.noteHead h) s
  [0, 1, 2, 3].foldl (fun s a => s.noteAxis a) s

end Sys2Proof.Machine
end

