-- ==== Sys2Proof/Machine/Operands.lean ====
section
/-!
DEFINITION. What the blocks share in reading their configuration: rounding, units of a register, live writes and their boundaries
(R34, R35, R418, R419, R422, R430, R493, R495), the checks of the frame fields, and small operands of several chapters.
-/

namespace Sys2Proof.Machine

/-! ### Rounding -/

/-- `round()` of an exact value: half away from zero (R17). -/
def roundRat (q : Rat) : Int := roundDiv q.num q.den

/-- An exact value limited to a range. -/
def clampRat (lo hi q : Rat) : Rat := max lo (min hi q)

/-! ### Channels and tiles -/

def State.chan (s : State) (c : Nat) : ChanState := Tab.get s.tl.chan {} c

def State.setChan (s : State) (c : Nat) (x : ChanState) : State :=
  { s with tl := { s.tl with chan := Tab.set s.tl.chan {} c x } }

def State.tile (s : State) (t : Nat) : TileState := Tab.get s.tl.tile {} t

def State.setTile (s : State) (t : Nat) (x : TileState) : State :=
  { s with tl := { s.tl with tile := Tab.set s.tl.tile {} t x } }

/-! ### What a register serves (R35, R493) -/

/-- What an AX_ address of the configuration set belongs to. -/
inductive AxPlace where
  | source (k : Nat)
  | bias
  | tdac
  | pair (p : Nat)
  | pin (n : Nat)
  | slot (p : Nat)
  | chan (c : Nat)
  | other
  deriving DecidableEq, Repr

def axPlace (a : Nat) : AxPlace :=
  if a / 65536 ≠ 6 then .other
  else
    let o := a % 65536
    if 0x8 ≤ o ∧ o ≤ 0xD then .source (o - 8)
    else if o = 0xE then .bias
    else if o = 0xF then .tdac
    else if 0x10 ≤ o ∧ o ≤ 0x13 then .pair (o - 0x10)
    else if 0x20 ≤ o ∧ o ≤ 0x3F then .pin (o - 0x20)
    else if 0x40 ≤ o ∧ o ≤ 0x5F then .slot ((o - 0x40) / 8)
    else if 0x100 ≤ o ∧ o < 0x900 then .chan ((o - 0x100) / 64)
    else .other

/-- The registers of the return tiles, of a pixel's descriptor, of a pixel's extraction profile. -/
def Reg.isTileReg (a : Nat) : Bool := decide (0x10 ≤ a / 65536) && decide (a / 65536 ≤ 0x13)
def Reg.isDescReg (a : Nat) : Bool := decide (0x180000 ≤ a) && decide (a < 0x180000 + 3 * 16896)
def Reg.isProfReg (a : Nat) : Bool := (decide (0x1C0000 ≤ a) && decide (a < 0x1C0000 + 3380)) || (decide (0x1C4000 ≤ a) && decide (a < 0x1C4080))

/-- EX_PIX_MAP, which names a pixel's profile; a register of profile `j`. -/
def Reg.isPixMap (a : Nat) : Bool := decide (0x1C0000 ≤ a) && decide (a < 0x1C0000 + 3380)
def Reg.isProfile (j a : Nat) : Bool := decide (0x1C4000 + 8 * j ≤ a) && decide (a < 0x1C4008 + 8 * j)

/-- FL_ID and the head table take effect at the frame boundary (chapter 12). -/
def Reg.atFrame (a : Nat) : Bool :=
  decide (a = Reg.FL_ID_H) || decide (a = Reg.FL_ID_L) || (decide (0x240100 ≤ a) && decide (a < 0x240100 + 8 * 48))

/-- The pixels whose profile in use is `j`. -/
def State.pixelsOf (s : State) (j : Nat) : List Nat :=
  (List.range 16896).filter fun p => decide ((s.use p (Reg.EX_PIX_MAP (p / 5))).toNat / 16 ^ (p % 5) % 16 = j)

/-- The tile of a tile register, and the register's place in the tile. -/
def Reg.tileOf (a : Nat) : Nat := (a / 65536 - 0x10) * 16 + a % 65536 / 256

/-- TL_WS_CFG or TL_WS_TRIG of a tile: the sampler selection (R79). -/
def Reg.isSampler (a : Nat) : Bool := Reg.isTileReg a && (a % 256 == 2 || a % 256 == 3)

/-- The channel that the sampler of a tile selects once every accepted write has taken effect (R79). -/
def State.samplerComing (s : State) (t : Nat) : Nat :=
  let v := match s.regs.waiting.reverse.find? fun w => decide (w.addr = Reg.TL_WS_CFG t) with
    | some w => w.value
    | none => s.act (Reg.TL_WS_CFG t)
  8 * t + (Reg.TL_WS_CFG_CH t).of v

/-- The pixels, channels, axes or lanes that a register serves; 0 stands for the block as a whole. -/
def State.unitsOf (s : State) (a : Nat) : List Nat :=
  let b := a / 65536
  let o := a % 65536
  if Reg.isTileReg a then
    let t := Reg.tileOf a
    let k := o % 256
    if k < 0x10 then
      if Reg.isSampler a then [s.samplerComing t] else (List.range 8).map (8 * t + ·)
    else [8 * t + (k / 16 - 1)]
  else if Reg.isDescReg a then [o / 3]
  else if b = 0x1C then
    if o < 3380 then ((List.range 5).map (5 * o + ·)).filter (· < 16896)
    else if Reg.isProfReg a then s.pixelsOf ((o - 0x4000) / 8)
    else [0]
  else if b = 5 then [o / 64]
  else if b = 6 then
    match axPlace a with
    | .pair p => [p]
    | .slot p => [p]
    | .chan c => [c]
    | _ => [0]
  else if b = 7 then
    if o ≥ 0x100 then [(o - 0x100) / 16]
    else (List.range 24).filter fun c => s.fu c (Reg.IL_CH_CFG_DRT_EN c) == 1 && s.fu c (Reg.IL_CH_CFG_DGRP c) == (o - 0x10) / 4
  else if 0x20 ≤ b ∧ b ≤ 0x23 then
    let q := (b - 0x20) * 9 + o / 256
    if o % 256 < 0x10 then [q] else [4 * q + (o % 256 / 16 - 1)]
  else [0]

/-- The units that a write of a value serves: a new sampler selection belongs to the newly selected channel (R79). -/
def State.servedBy (s : State) (a : Nat) (v : Score) : List Nat :=
  if Reg.isTileReg a && a % 256 == 2 then [8 * Reg.tileOf a + (Reg.TL_WS_CFG_CH 0).of v] else s.unitsOf a

/-! ### What follows when a value takes effect -/

/-- A write takes part in a boundary only if it reached its island in an earlier clock cycle of that island (R35). -/
def State.before (s : State) (w : LiveWrite) : Bool := decide (s.cycleOf w.addr w.acceptedAt < s.cycleOf w.addr s.now)

/-- A unit begins to use some registers, at a boundary of its own: the waiting writes to them serve it too. One that has reached the island before
counts for it from now on; another reaches it at its next boundary (R35). -/
def State.join (s : State) (u : Nat) (mine : Nat → Bool) : State :=
  let serve (w : LiveWrite) : LiveWrite :=
    if mine w.addr && !w.served.contains u then { w with served := u :: w.served, left := if s.before w then w.left else u :: w.left } else w
  { s with regs := { s.regs with waiting := s.regs.waiting.map serve } }

/-- A pixel uses the extraction profile that EX_PIX_MAP gives it; an illuminator channel the drive group of its IL_CH_CFG. -/
def State.joinProfile (s : State) (p : Nat) : State :=
  s.join p (Reg.isProfile ((s.use p (Reg.EX_PIX_MAP (p / 5))).toNat / 16 ^ (p % 5) % 16))

def State.joinGroup (s : State) (c : Nat) : State :=
  if s.fu c (Reg.IL_CH_CFG_DRT_EN c) = 1 then
    s.join c fun a => decide (a / 65536 = 7) && decide (0x10 ≤ a % 65536) && decide (a % 65536 < 0x100)
      && decide ((a % 65536 - 0x10) / 4 = s.fu c (Reg.IL_CH_CFG_DGRP c))
  else s

/-- A value that a pixel, channel or axis now uses is looked at: R57, R62, R80, R98, R117. -/
def State.looked (s : State) (u a : Nat) : State :=
  let v := s.use u a
  if Reg.isTileReg a then
    if a = Reg.TL_CH_CFG u then
      let g := (Reg.TL_CH_CFG_GAIN u).of v
      let lo := (Reg.TL_CH_CFG_AR_LO u).of v
      let hi := (Reg.TL_CH_CFG_AR_HI u).of v
      if g = 3 ∨ lo = 3 ∨ hi = 3 ∨ lo > hi then s.flag (Reg.TL_CH_STAT_CFG_ERR u) true else s
    else if a = Reg.TL_CH_THR0 u ∨ a = Reg.TL_CH_THR1 u ∨ a = Reg.TL_CH_THR2 u then
      if v.toNat / 1024 < v.toNat % 1024 + 8 then s.flag (Reg.TL_CH_STAT_THR_CLAMP u) true else s
    else if a % 256 = 2 then
      if (Reg.TL_WS_CFG_MODE 0).of (s.act a) = 3 then s.flag (Reg.TL_TILE_STAT_WS_CFG_ERR (Reg.tileOf a)) true else s
    else s
  else if 0x142000 ≤ a ∧ a < 0x142800 ∧ a % 4 = 0 then
    if v.toNat % 4 = 3 then s.flag (Reg.TE_CH_STAT_CFG_ERR ((a - 0x142000) / 4)) true else s
  else if Reg.isPixMap a then s.joinProfile u
  else if a / 65536 = 7 then (if a = Reg.IL_CH_CFG u then s.joinGroup u else s)
  else if a / 65536 = 4 then
    let s := if (0x40100 ≤ a ∧ a < 0x40180) ∨ (0x42000 ≤ a ∧ a < 0x44000) then { s with fl := { s.fl with tablesDirty := true } } else s
    if [0, 1, 2, 3].any fun i => a == Reg.SQ_TRJ_CFG i then
      if (Reg.SQ_TRJ_CFG_POINTS 0).of v < 2 ∨ (Reg.SQ_TRJ_CFG_BIND 0).of v = 3 then s.flag Reg.SQ_STAT_CFG_ERR true else s
    else s
  else s

/-- The periods of the presets of R214, in LSB. -/
def presetPeriod (preset : Nat) : Option Nat := [12800000000, 1280000000, 64000000, 5120000, 640000][preset]?

/-- The loop period that a set gives an axis (R188, R197): the first slot that names the channel of SRC, in the order of R214. -/
def setLoopPeriod (rd : Nat → Score) (a : Nat) : Option Nat :=
  let ch := (Reg.SV_AX_CFG_SRC a).of (rd (Reg.SV_AX_CFG a))
  let n (p : Nat) : Nat := max 1 (min 8 ((Reg.AX_PAIR_CFG_NSLOT p).of (rd (Reg.AX_PAIR_CFG p))))
  match ([0, 1, 2, 3].flatMap fun p => (List.range (n p)).map fun k => (p, k)).find?
      fun x => (Reg.AX_SLOT_CH x.1 x.2).of (rd (Reg.AX_SLOT x.1 x.2)) == ch with
  | some x => (presetPeriod ((Reg.AX_PAIR_CFG_PRESET x.1).of (rd (Reg.AX_PAIR_CFG x.1)))).map (· * n x.1)
  | none => none

/-- The loop period in use. -/
def State.loopPeriod (s : State) (a : Nat) : Option Nat := setLoopPeriod (fun r => s.use ((s.unitsOf r).headD 0) r) a

/-- SQ_CYC_LEN as a set holds it, and as it acts: out of range as the nearer limit (R110). -/
def setCycRaw (rd : Nat → Score) : Nat :=
  Reg.SQ_CYC_LEN_H_LEN_H.of (rd Reg.SQ_CYC_LEN_H) * 2 ^ 20 + Reg.SQ_CYC_LEN_L_LEN_L.of (rd Reg.SQ_CYC_LEN_L)

def setCycLen (rd : Nat → Score) : Nat := max 1280 (min 1279360000 (setCycRaw rd))

/-- The checks on the frame fields of a set (R30, R196, R197) as (CHECK, INDEX, register). -/
def frameChecks (rd : Nat → Score) : List (Nat × Nat × Nat) :=
  let per := Reg.CF_FRAME_PER_PER.of (rd Reg.CF_FRAME_PER)
  let gap := Reg.CF_GAP_GAP.of (rd Reg.CF_GAP)
  let bind (a : Nat) : Nat := (Reg.SQ_TRJ_CFG_BIND a).of (rd (Reg.SQ_TRJ_CFG a))
  (if per < 100 ∨ per > 10000 then [(1, 0, Reg.CF_FRAME_PER)]
    else if gap < 500 ∨ gap + 1000 > 100 * per then [(1, 0, Reg.CF_GAP)] else [])
  ++ ([0, 1, 2, 3].filter fun a => bind a == 1 && decide (per * 128000 % setCycLen rd ≠ 0)).map (fun a => (5, a, Reg.SQ_TRJ_CFG a))
  ++ ([0, 1, 2, 3].filter fun a => bind a == 2 && (match setLoopPeriod rd a with
      | some p => decide ((Reg.SV_FLY_LEN_L a).of (rd (Reg.SV_FLY_LEN a)) * p + 100 * lsbUs > gap * lsbUs)
      | none => false)).map (fun a => (6, a, Reg.SV_FLY_LEN a))

/-- Firing is started (SQ_STAT.RUN). -/
def State.firing (s : State) : Bool := s.h Reg.SQ_STAT_RUN == 1

/-- Firing stops at a shot-cycle end (R130). Cycles run on; their entries count as reached and not fired (R332, R466). -/
def State.stopFiring (s : State) : State :=
  let s := s.flag Reg.SQ_STAT_RUN false
  { s with sq := { s.sq with stopReq := false } }

/-- A stop of firing (R130): at the end of the running cycle, or at once with no cycle running; then no further cycle begins, a held
external start is cleared, and the open fold intervals of the scan part close. A FRAMES_START that has not acted is withdrawn. -/
def State.haltFiring (s : State) : State :=
  if s.sq.cyc.isSome then { s with sq := { s.sq with stopReq := true, startReq := false } }
  else
    let s := s.stopFiring.flag Reg.SQ_STAT_PEND false
    { s with sq := { s.sq with upcoming := none, startReq := false, halted := true, closeDue := s.sq.inScan } }

/-- Thermal shutdown stops firing (R466): at the end of the cycle that runs, else at once. Frames and shot cycles go on, so entries are reached
and not fired; open fold intervals close where firing stops within a scan part, as under R130. -/
def State.shutFiring (s : State) : State :=
  if s.sq.cyc.isSome then { s with sq := { s.sq with stopReq := true, startReq := false } }
  else { s.stopFiring with sq := { s.stopFiring.sq with startReq := false, closeDue := s.sq.inScan } }

/-- R430: a mismatch outside a live window. -/
def State.cfMismatch (s : State) : State :=
  let first := s.h Reg.CF_STAT_MISMATCH == 0
  let s := ((s.flag Reg.CF_STAT_MISMATCH true).flag Reg.CF_STAT_MISMATCH_SEEN true).inc Reg.CF_MISMATCH_CNT_COUNT
  let s := if first then s.raise .configCrc 0 0 else s
  let s := if s.sf Reg.SF_CFG_CRC_TRIP = 1 then s.siTripAll 15 else s
  if s.fo Reg.CF_CRC_CFG_STOP_FIRE = 1 then
    let s := s.flag Reg.CF_STAT_STOPPED true
    if s.firing || s.sq.startReq then s.haltFiring else s
  else s

/-- The active set's value of a register. -/
def State.setAct (s : State) (a : Nat) (v : Score) : State :=
  if s.activeB then { s with regs := { s.regs with setB := Tab.set s.regs.setB (Reg.resetRw a) a v } }
  else { s with regs := { s.regs with setA := Tab.set s.regs.setA (Reg.resetRw a) a v } }

/-- A live write counts as taken effect for its register (R419, R428, R430, R493). -/
def State.takeEffect (s : State) (w : LiveWrite) : State :=
  if (w.addr = Reg.CF_FRAME_PER ∨ w.addr = Reg.CF_GAP) ∧ frameChecks (fun a => if a = w.addr then w.value else s.act a) ≠ [] then
    ((s.inc Reg.CF_LIVE_ERR_COUNT).flag Reg.CF_STAT_LIVE_ERR_SEEN true).raise .cfgLiveErr (w.addr % 65536) 0
  else
    let s := s.setAct w.addr w.value
    let s := { s with cf := { s.cf with passDirty := true } }
    if s.h Reg.CF_STAT_LIVE = 1 then s else s.cfMismatch

/-- The units of a waiting write that an application point for the writes `ok` reaches. -/
def LiveWrite.reached (w : LiveWrite) (ok : LiveWrite → Bool) (p : Nat → Nat → Bool) : List Nat := w.left.filter fun u => ok w && p w.addr u

/-- An application point for the waiting writes `ok`: for each of them, and for every register still used with its value from before a
SWAP, the units that the point reaches take the new value; a write that has reached its last unit counts as taken effect. -/
def State.applyOn (s : State) (ok : LiveWrite → Bool) (p : Nat → Nat → Bool) : State :=
  let hit := s.regs.waiting.flatMap fun w => (w.reached ok p).map fun u => (u, w.addr)
  let hit' := (s.regs.stale.filter fun x => p x.addr x.unit).map fun x => (x.unit, x.addr)
  let ws := s.regs.waiting.map fun w => { w with left := w.left.filter fun u => !(w.reached ok p).contains u }
  let s := { s with regs := { s.regs with
    waiting := ws.filter fun w => !w.left.isEmpty
    stale := s.regs.stale.filter fun x => !p x.addr x.unit } }
  let s := (ws.filter fun w => w.left.isEmpty).foldl (fun s w => s.takeEffect w) s
  (hit ++ hit').foldl (fun s x => s.looked x.1 x.2) s

/-- A boundary (R35). -/
def State.applyAt (s : State) (p : Nat → Nat → Bool) : State := s.applyOn s.before p

/-- Writes that take effect on acceptance, or at an instant that is no boundary of their island. -/
def State.applyNow (s : State) (p : Nat → Nat → Bool) : State := s.applyOn (fun _ => true) p

/-- An application point for writes accepted at least `lsb` before (R491). -/
def State.applyLater (s : State) (lsb : Nat) (p : Nat → Bool) : State :=
  s.applyOn (fun w => s.before w && decide (w.acceptedAt + lsb ≤ s.now)) fun a _ => p a

/-- The value a unit will use once every waiting write has reached it. -/
def State.coming (s : State) (u a : Nat) : Score :=
  match s.regs.waiting.reverse.find? (fun w => decide (w.addr = a) && w.served.contains u) with
  | some w => w.value
  | none => if s.regs.stale.any (fun x => decide (x.addr = a) && decide (x.unit = u)) then s.act a else s.use u a

/-- The value a unit takes at a boundary of this instant (R35). -/
def State.reaching (s : State) (u a : Nat) : Score :=
  match s.regs.waiting.reverse.find? (fun w => decide (w.addr = a) && w.left.contains u && s.before w) with
  | some w => w.value
  | none => if s.regs.stale.any (fun x => decide (x.addr = a) && decide (x.unit = u)) then s.act a else s.use u a

/-! ### Calibrated values in use (R472) -/

/-- The value a ramp has reached: v0 + round((v1 - v0) × j / 16). -/
def Ramp.value (r : Ramp) : Int := r.v0 + roundDiv ((r.v1 - r.v0) * r.j) 16

/-- The value in use of TE_CH_OFS (signed) or TE_WALK, by its address, as a ramp or a host's write that waits for its shot-cycle end leaves it. -/
def State.teVal (s : State) (a : Nat) (signed : Bool) : Int :=
  let read (v : Score) : Int := if signed then v.signed else (v.toNat % 256 : Nat)
  match s.th.teWait.find? fun x => decide (x.addr = a) with
  | some x => read x.value
  | none =>
    match s.th.ramps.find? fun r => decide (r.key = a) with
    | some r => r.value
    | none => read (s.oneReg a)

/-- Keys of the calibrated quantities without a register: a channel's comparators; a converter channel's modulators. -/
def cmpKey (c i : Nat) : Nat := 2 ^ 24 + 6 * c + i
def axKey (c i : Nat) : Nat := 2 ^ 25 + 4 * c + i

/-- The value in use of a calibrated quantity that has no register. -/
def State.quantVal (s : State) (k : Nat) : Int :=
  match s.th.ramps.find? fun r => decide (r.key = k) with
  | some r => r.value
  | none => Tab.get s.th.quant 0 k

/-- An application boundary of a channel: its ramps move one sixteenth; one that has arrived leaves its value in use. -/
def State.rampStep (s : State) (chan : Nat) : State :=
  let rs := s.th.ramps.map fun r => if r.chan = chan then { r with j := r.j + 1 } else r
  let done := rs.filter fun r => decide (r.j ≥ 16)
  let quant := (done.filter fun r => decide (r.key ≥ 2 ^ 24)).foldl (fun (m : Tab Int) r => Tab.set m 0 r.key r.v1) s.th.quant
  let left := rs.filter fun r => decide (r.j < 16)
  ({ s with th := { s.th with ramps := left, quant := quant } }).flag Reg.TH_CAL_STAT_RAMP (!left.isEmpty)

/-! ### Plan peers (R135) -/

def State.setPlan (s : State) (p : Plan) : State := { s with sq := { s.sq with plan := p } }

/-- The frame period in units of 100 µs, and in LSB. -/
def State.framePer (s : State) : Nat := s.f Reg.CF_FRAME_PER_PER
def State.framePerLsb (s : State) : Nat := s.framePer * 12800000

/-- SPACING in effect; values outside 640 to 10,240 act as the nearer limit. -/
def State.spacing (s : State) : Nat := max 640 (min 10240 (s.f Reg.SQ_PLAN_CFG_SPACING))

/-- Whether a node that announces a frame period and SPACING is left out (R135). -/
def State.planOut (s : State) (p : PlanPeer) : Bool := decide (p.period ≠ s.framePer) || decide (p.spacing ≠ s.spacing)

/-- R135: every node that announces other values than this one is left out and counted; the report of one newly left out names it: the
fault lies in that node (Table 12.5), and Table 12.9 gives PLAN_MISMATCH no arguments (DEDUCED, log 129). -/
def State.planJudge (s : State) : State :=
  let fresh := s.sq.plan.peers.filter fun p => s.planOut p && !p.mismatch
  let s := s.setPlan { s.sq.plan with peers := s.sq.plan.peers.map fun p => { p with mismatch := s.planOut p } }
  let s := s.setH Reg.SQ_PLAN_STAT_MISMATCH (s.sq.plan.peers.filter (·.mismatch)).length
  fresh.foldl (fun s p => s.raiseAbout p.ident .planMismatch .amber 0 0) s

/-! ### Small operands -/

/-- VDD_IO0 is latched as 3.3 V class: every FIRE pair stays in INHIBIT until the next power-on reset (R476). -/
def State.fireBankBad (s : State) : Bool := s.pw.gate.latched && decide (s.h Reg.PW_IO_STAT_HV % 2 = 1)

/-- VDD_IO7 is latched as 1.8 V class: every AUX pin acts as role 0 (R476). -/
def State.auxBankBad (s : State) : Bool := s.pw.gate.latched && decide (s.h Reg.PW_IO_STAT_HV / 2 ^ 7 % 2 = 0)

/-- Node time of an instant, and the instant of a node time. -/
def State.nodeAt (s : State) (x : Nat) : Nat := ((x : Int) + s.nodeOfs).toNat
def State.atNode (s : State) (y : Nat) : Nat := ((y : Int) - s.nodeOfs).toNat

/-- EP_STAT.PTP_STATE as EP_PTP_CFG.EN, lock and the choice of a time transmitter give it (R318, R319). -/
def State.ptpState (s : State) : Nat :=
  if s.f Reg.EP_PTP_CFG_EN = 0 then 0 else if s.fl.ptp.locked then 3 else if s.fl.ptp.chosen.isSome then 2 else 1

/-- An item reaches the fold intake. -/
def State.intake (s : State) (i : Intake) : State := { s with fd := { s.fd with intake := s.fd.intake ++ [i] } }

/-- Axis `a` reports TRACK to Shepherd's servo gate (R118, R202). -/
def State.axisTracks (s : State) (a : Nat) : Bool :=
  s.h (Reg.SV_AX_STAT_STATE a) == 3 && s.h (Reg.SV_AX_STAT_TEST a) == 0 && s.h (Reg.SV_AX_STAT_PHASE_SLEW a) == 0
    && s.h (Reg.SV_AX_STAT_FORCING a) == 0 && s.h (Reg.SV_AX_STAT_ERR a) == 0

/-- Whether a shot cycle is skipped by throttling (R461, R463): the step's last cycle in 8, 4 or 2. -/
def State.throttleSkips (s : State) (no : Nat) : Bool :=
  match s.h Reg.TH_STAT_STEP with
  | 1 => no % 8 == 7
  | 2 => no % 4 == 3
  | 3 => no % 2 == 1
  | _ => false

/-- R58: a shot is not counted toward the new interval of a channel whose range had not settled. -/
def State.fdUncount (s : State) (c seq : Nat) : State :=
  let inbound := s.fd.inbound.map fun d => if d.seq = seq then { d with pixels := d.pixels.filter (· ≠ c) } else d
  let mine : Part → Bool := fun q => match q with | .counted p _ _ => decide (p = c) | .disabled _ => false
  let was := s.fd.shots.any fun x => decide (x.seq = seq) && x.parts.any mine
  let shots := s.fd.shots.map fun x => if x.seq = seq then { x with parts := x.parts.filter fun q => !mine q } else x
  let x := Tab.get s.fd.pix {} c
  let x' : FdPixel := if was then { x with cur := { x.cur with n := x.cur.n - 1, seqs := x.cur.seqs.filter (· ≠ seq), tokens := x.cur.tokens.filter (· ≠ seq) } } else x
  { s with fd := { s.fd with inbound := inbound, shots := shots, pix := Tab.set s.fd.pix {} c x' } }

/-! ### What converters and heads need of the thermal block -/

/-- Two consecutive readings differ by more than RATE × interval + 2 °C (Table 18.1). -/
def State.rateBad (s : State) (x y : Int) (lsb : Nat) : Bool :=
  decide ((x - y).natAbs * lsbS > s.fu 0 Reg.TH_RATE_RATE * 1024 * lsb + 2048 * lsbS)

/-- An enabled item (TH_CAL_CFG.ITEMS) while self-calibration runs. -/
def State.calItem (s : State) (i : Nat) : Bool := s.fu 0 Reg.TH_CFG_CAL_EN == 1 && decide (s.fu 0 Reg.TH_CAL_CFG_ITEMS / 2 ^ i % 2 = 1)

end Sys2Proof.Machine
end

