-- ==== Sys2Proof/Machine/Delivery.lean ====
section
/-!
DEFINITION. The delivery queues (R363 to R368) as extraction, DMA and the streamer use them.
-/

namespace Sys2Proof.Machine

def State.dmQueue (s : State) (q : Nat) : DmQueue := Tab.get s.dm.queues {} q

def State.setDmQueue (s : State) (q : Nat) (x : DmQueue) : State :=
  { s with dm := { s.dm with queues := Tab.set s.dm.queues {} q x } }

/-- The scores a queue holds. -/
def DmQueue.fill (x : DmQueue) : Nat := 4 * x.items.length

/-- The room of a queue in scores for extraction (R184); a FMT 1 queue has none (R368). -/
def State.dmRoom (s : State) (q : Nat) : Nat :=
  let x := s.dmQueue q
  if x.fmt1 then 0 else x.size * 4096 - x.fill

def State.dmByteQueue (s : State) (q : Nat) : Bool := (s.dmQueue q).fmt1

/-- The bytes that a FMT 1 queue holds. -/
def DmQueue.byteCount (x : DmQueue) : Nat := (x.bytes.cells.map fun c => c.2.length).foldl (· + ·) 0

/-- The occupancy of a queue in 80-bit units. -/
def DmQueue.units (x : DmQueue) : Nat := if x.fmt1 then (x.byteCount + 9) / 10 else x.items.length

/-- Bytes are discarded: DM_Q_DISC counts each 10 of them (log 162). -/
def State.discBytes (s : State) (q n : Nat) : State :=
  let x := s.dmQueue q
  (s.setDmQueue q { x with disc := (x.disc + n) % 10 }).add (Reg.DM_Q_DISC_COUNT q) ((x.disc + n) / 10)

/-- DM_Q_PEAK follows the occupancy. -/
def State.dmPeak (s : State) (q : Nat) : State := s.setH (Reg.DM_Q_PEAK_PEAK q) (max (s.h (Reg.DM_Q_PEAK_PEAK q)) (s.dmQueue q).units)

/-- The largest number of records in a POINTS packet toward a version (R366). -/
def pointsMax (version : Nat) : Nat := if version = 1 then 15 else 63

/-- Whether a record is a MARK. -/
def isMark (rec : List Score) : Bool := decide ((rec.getD 2 0).toNat / 65536 = 15)

/-- The records of a queue that wait for a subscription. -/
def DmQueue.waitingFor (x : DmQueue) (sub : Nat) : List DmItem := x.items.filter fun i => i.todo.contains sub

/-- A copy of the first `n` waiting records has been handed over: space whose copies are all handed over is freed (R365). -/
def takeCopies (sub : Nat) : Nat → List DmItem → List DmItem
  | 0, l => l
  | _, [] => []
  | n + 1, i :: r =>
    if i.todo.contains sub then
      let i' := { i with todo := i.todo.erase sub }
      if i'.todo.isEmpty then takeCopies sub n r else i' :: takeCopies sub n r
    else i :: takeCopies sub (n + 1) r

/-- How many waiting records one packet takes: up to the limit, and no record after a MARK. -/
def packetTake (limit : Nat) : List DmItem → Nat
  | [] => 0
  | i :: r => if limit = 0 then 0 else if isMark i.scores then 1 else 1 + packetTakeTail (limit - 1) r
where
  packetTakeTail : Nat → List DmItem → Nat
  | _, [] => 0
  | 0, _ => 0
  | l + 1, i :: r => if isMark i.scores then 1 else 1 + packetTakeTail l r

/-- The most records that one packet of a queue takes for a subscription: with HOLD 0 each record goes alone (R366). -/
def State.packetLimit (s : State) (q : Nat) (u : Sub) : Nat :=
  if s.f (Reg.DM_Q_CFG_HOLD q) = 0 then 1 else pointsMax (s.subVersion u.who)

/-- Sends one POINTS packet of a queue to one subscription. -/
def State.sendPoints (s : State) (q : Nat) (u : Sub) : State :=
  let x := s.dmQueue q
  let wait := x.waitingFor u.idx
  let n := packetTake (s.packetLimit q u) wait
  if n = 0 then s
  else
    let recs := wait.take n
    let s := s.setDmQueue q { x with items := takeCopies u.idx n x.items }
    if s.subUp u then
      s.sendSub u 6 ((BitVec.ofNat 20 (q * 65536 + n) : Score) :: recs.flatMap (·.scores))
    else s.subDrop n

/-- A packet goes as soon as it is full or holds a MARK (R366). -/
def State.pointsDue (s : State) (q : Nat) (u : Sub) : Bool :=
  let wait := (s.dmQueue q).waitingFor u.idx
  !wait.isEmpty && (decide (wait.length ≥ s.packetLimit q u) || wait.any (fun i => isMark i.scores))

/-- The packets of a queue that are due for a subscription go, `n` at most. -/
def State.streamOut (q : Nat) (u : Sub) : Nat → State → State
  | 0, s => s
  | n + 1, s => if s.pointsDue q u then State.streamOut q u n (s.sendPoints q u) else s

/-- A record is placed in a delivery queue; a STREAM queue without a subscriber discards it (R365), and a consumer that cannot be reached gets no copy (R310). -/
def State.dmPut (s : State) (q : Nat) (rec : List Score) (_mark : Bool) : State :=
  let x := s.dmQueue q
  if x.hold && !x.fmt1 then
    (s.setDmQueue q { x with items := x.items ++ [{ scores := rec, todo := [], since := s.now }] }).dmPeak q
  else
    let subs := s.subsOf 0 q
    if subs.isEmpty then s.inc (Reg.DM_Q_DISC_COUNT q)
    else
      let up := subs.filter s.subUp
      let s := s.subDrop (subs.length - up.length)
      if up.isEmpty then s
      else
        let s := (s.setDmQueue q { x with items := x.items ++ [{ scores := rec, todo := up.map (·.idx), since := s.now }] }).dmPeak q
        up.foldl (fun s u => State.streamOut q u (s.dmQueue q).items.length s) s

/-- The records that wait for a subscription that ends, or whose consumer can no longer be reached, are released unsent (R365, R366). -/
def State.dropSubCopies (s : State) (u : Sub) : State :=
  if u.kind = 0 then
    let x := s.dmQueue u.arg
    let n := (x.waitingFor u.idx).length
    (s.setDmQueue u.arg { x with items := takeCopies u.idx n x.items }).subDrop n
  else s

/-- Ports have gone down: the copies that wait for their consumers are released, and hold their queues no more (R310, R365). -/
def State.dropDown (s : State) : State := (s.fl.subs.filter fun u => !s.subUp u).foldl (fun s u => s.dropSubCopies u) s

/-- The datagrams begun in a byte queue that has lost its last subscription are released unsent (R366). -/
def State.dropBytes (s : State) (q : Nat) : State :=
  let x := s.dmQueue q
  if (s.subsOf 0 q).isEmpty && !x.bytes.cells.isEmpty then (s.setDmQueue q { x with bytes := {} }).subDrop x.bytes.cells.length else s

/-- A subscription ends. -/
def State.endSub (s : State) (u : Sub) : State :=
  let s := s.dropSubCopies u
  let s := { s with fl := { s.fl with subs := s.fl.subs.filter fun v => decide (v.idx ≠ u.idx) } }
  if u.kind = 0 then s.dropBytes u.arg else s

/-- POINTS_HOLD_EXPIRY (R366): for every consumer whose oldest record has waited HOLD µs a partial packet goes. -/
def execPointsHoldExpiry (t : Nat) (q : Queue) (s : State) : Host.Outcome State Fault Refusal :=
  s.run t fun s =>
    (s.subsOf 0 q).foldl (fun s u =>
      match (s.dmQueue q).waitingFor u.idx with
      | i :: _ => if i.since + s.f (Reg.DM_Q_CFG_HOLD q) * lsbUs ≤ s.now then s.sendPoints q u else s
      | [] => s) s

end Sys2Proof.Machine
end

