-- ==== Sys2Proof/Machine/AqOps.lean ====
section
/-!
DEFINITION. The acquisition engine (09_acquisition_engine.md) as the sources of its samples and triggers use it: trigger units,
captures, averaging, amplitude counters, maps.
-/

namespace Sys2Proof.Machine

def State.aqBuf (s : State) (b : Nat) : AqBuf := Tab.get s.aq.bufs {} b

def State.setAqBuf (s : State) (b : Nat) (x : AqBuf) : State :=
  { s with aq := { s.aq with bufs := Tab.set s.aq.bufs {} b x } }

def State.aqUnit (s : State) (u : Nat) : AqUnitState := Tab.get s.aq.units {} u

def State.setAqUnit (s : State) (u : Nat) (x : AqUnitState) : State :=
  { s with aq := { s.aq with units := Tab.set s.aq.units {} u x } }

/-! ### Sources (R239) -/

/-- A source in the layout of AQ_BUF_SRC. -/
structure AqSrc where
  kind : Nat
  sub : Nat
  index : Nat
  deriving DecidableEq, Repr

def aqSrc (v : Score) : AqSrc := ⟨v.toNat / 2 ^ 18, v.toNat / 2 ^ 15 % 8, v.toNat % 2 ^ 15⟩

def AqSrc.stream (x : AqSrc) : Bool :=
  (x.kind == 1 && decide (x.index < 32) && decide (x.sub ≤ 1)) || (x.kind == 2 && decide (x.index < 4) && decide (x.sub ≤ 4))
    || (x.kind == 3 && decide (x.index < 16896) && x.sub == 1)

def AqSrc.block (x : AqSrc) : Bool :=
  (x.kind == 0 && decide (x.index < 64)) || (x.kind == 3 && decide (x.index < 16896) && x.sub == 0)

def AqSrc.signed (x : AqSrc) : Bool := x.kind == 2 || (x.kind == 1 && x.sub == 0)

/-- The value of a source sample: signed where Table 9.1 says so. -/
def AqSrc.value (x : AqSrc) (v : Score) : Int := if x.signed then v.signed else v.toNat

/-! ### A buffer's configuration in effect -/

def AqBuf.reg (x : AqBuf) (i : Nat) : Score := x.cfg.getD i 0
def AqBuf.src (x : AqBuf) : AqSrc := aqSrc (x.reg 1)
def AqBuf.isMap (x : AqBuf) : Bool := (Reg.AQ_BUF_CFG_CONTENT 0).of (x.reg 0) == 1
def AqBuf.queueOne (x : AqBuf) : Bool := (Reg.AQ_BUF_CFG_MODE 0).of (x.reg 0) == 1
def AqBuf.avg (x : AqBuf) : Nat := min 10 ((Reg.AQ_BUF_CFG_AVG 0).of (x.reg 0))
def AqBuf.shift (x : AqBuf) : Nat := (Reg.AQ_BUF_CFG_SHIFT 0).of (x.reg 0)
def AqBuf.bin (x : AqBuf) : Nat := (Reg.AQ_BUF_SRC2_BIN 0).of (x.reg 2)
def AqBuf.watches (x : AqBuf) (u : Nat) : Bool := decide ((x.reg 5).toNat / 2 ^ u % 2 = 1)
def AqBuf.offset (x : AqBuf) : Int := x.src.value (x.reg 6)

/-- Samples per stored block; 1 for a stream. -/
def AqBuf.blockLen (x : AqBuf) : Nat := if x.src.stream then 1 else if x.src.kind = 0 then 2048 else x.size

/-- LEN and POST in samples, rounded down to whole blocks with a minimum of one (R244). -/
def AqBuf.whole (x : AqBuf) (n : Nat) : Nat := max 1 (n / x.blockLen) * x.blockLen
def AqBuf.len (x : AqBuf) : Nat :=
  if x.isMap then (Reg.AQ_BUF_LEN_LEN 0).of (x.reg 3) else x.whole ((Reg.AQ_BUF_LEN_LEN 0).of (x.reg 3))
def AqBuf.postLen (x : AqBuf) : Nat := x.whole ((Reg.AQ_BUF_POST_POST 0).of (x.reg 4))

def State.aqState (s : State) (b : Nat) : Nat := s.h (Reg.AQ_BUF_STAT_STATE b)

/-- ARMED or POST: the buffer takes samples. -/
def State.aqTaking (s : State) (b : Nat) : Bool := s.aqState b == 1 || s.aqState b == 2

/-! ### Stored samples (R243 to R245, R253, R254) -/

/-- The amplitude counter of a stored value (R253). -/
def AqBuf.amp (x : AqBuf) (v : Score) : Nat :=
  let w : Int := if x.src.kind = 0 then ((if x.avg = 0 then v.toNat % 2 ^ 10 else v.toNat % 2 ^ 14 : Nat) : Int) else x.src.value v
  (min 1023 (max 0 ((w - x.offset) / (2 : Int) ^ x.shift))).toNat

/-- Stored samples count in the amplitude counters. -/
def AqBuf.countAmps (x : AqBuf) (vals : List Score) : AqBuf :=
  { x with hist := vals.foldl (fun m v => Tab.set m 0 (x.amp v) (satScore (Tab.get m 0 (x.amp v) + 1))) x.hist }

/-- Samples of a segment of length `L` count in the map from sample `j` on (R254). -/
def AqBuf.countCells (x : AqBuf) (L : Nat) : Nat → List Score → AqBuf
  | _, [] => x
  | j, v :: r =>
    let cell := x.amp v / 4 * 256 + 256 * j / L
    AqBuf.countCells { x with map := Tab.set x.map 0 cell (satScore (Tab.get x.map 0 cell + 1)) } L (j + 1) r

def lowestBit (n : Nat) : Nat := ((List.range 16).find? fun i => decide (n / 2 ^ i % 2 = 1)).getD 0

/-- FULL (R245). -/
def State.aqFull (s : State) (b : Nat) : State :=
  let x := s.aqBuf b
  let f := x.cap.getD { at_ := 0, units := 0, count := 0, frame := 0, time := 0 }
  let s := s.setH (Reg.AQ_BUF_STAT_STATE b) 3
  let s := (s.setH (Reg.AQ_CAP_CAUSE_UNITS b) f.units).setH (Reg.AQ_CAP_INFO_PRIMARY b) (lowestBit f.units)
  let s := (s.flag (Reg.AQ_CAP_INFO_HELD b) x.fromHeld).setH (Reg.AQ_CAP_FRAME_FRAME b) f.frame
  let s := (s.setH (Reg.AQ_CAP_TIME_H_T_H b) (f.time / 2 ^ 20 % 2 ^ 11)).setH (Reg.AQ_CAP_TIME_L_T_L b) (f.time % 2 ^ 20)
  let s := s.setH (Reg.AQ_CAP_SEQ_SEQ b) (if x.src.stream then 0 else x.seq)
  let s := if x.isMap then s else s.setH (Reg.AQ_CAP_CNT_CNT b) x.preCount
  s.raise .acqDone b 0

/-- Samples from the trigger on: `vals` are stored, and the capture or segment may be complete. -/
def State.aqStore (s : State) (b : Nat) (vals : List Score) (seq : Nat) : State :=
  let x := s.aqBuf b
  let first := decide (x.post = 0)
  if x.isMap then
    let L := if x.src.stream then x.postLen else vals.length
    let x := { x.countCells L x.post vals with post := x.post + vals.length, seq := if first && decide (x.segments = 0) then seq else x.seq }
    if x.post < L then (s.setAqBuf b x).setH (Reg.AQ_BUF_STAT_STATE b) 2
    else
      let x := { x with post := 0, segments := x.segments + 1 }
      let s := (s.setAqBuf b x).setH (Reg.AQ_CAP_CNT_CNT b) x.segments
      if x.segments ≥ x.len then s.aqFull b
      else
        match x.held with
        | some _ => ((s.setAqBuf b { x with held := none, heldOpen := false }).flag (Reg.AQ_BUF_STAT_HELD b) false).setH (Reg.AQ_BUF_STAT_STATE b) 2
        | none => s.setH (Reg.AQ_BUF_STAT_STATE b) 1
  else
    let x := { x with data := x.data ++ vals, post := x.post + vals.length, seq := if first then seq else x.seq }
    let s := s.setAqBuf b x
    if x.post ≥ x.postLen then s.aqFull b else s.setH (Reg.AQ_BUF_STAT_STATE b) 2

/-- Samples after the trigger count in the amplitude counters and are stored. -/
def State.aqPost (s : State) (b : Nat) (vals : List Score) (seq : Nat) : State := (s.setAqBuf b ((s.aqBuf b).countAmps vals)).aqStore b vals seq

/-- The pre-trigger samples that a capture keeps (R243). -/
def AqBuf.pre (x : AqBuf) (data : List Score) : List Score := data.drop (data.length - (x.len - x.postLen))

/-- A firing belongs to a sample that an ARMED buffer has stored already, for its cause came before (R249): that one is the trigger sample, and those
after it are post-trigger samples. -/
def State.aqBack (s : State) (b : Nat) (f : AqFire) : State :=
  let x := s.aqBuf b
  let k := (x.stamps.filter fun y => decide (y.1 < f.at_)).length
  let z := x.stamps.getD k (0, 0)
  let pre := x.pre (x.data.take k)
  (s.setAqBuf b { x with data := pre, preCount := pre.length, cap := some f, post := 0, stamps := [], trigAt := z.1 }).aqStore b
    ((x.data.drop k).take x.postLen) z.2

/-! ### Firings (R246 to R249) -/

/-- Two firings that belong to one sample form one trigger (R250). -/
def AqFire.join (y f : AqFire) : AqFire := { y with units := y.units ||| f.units, count := y.count + f.count }

/-- The one trigger that a list of firings forms. -/
def AqFire.joinAll : List AqFire → Option AqFire
  | [] => none
  | f :: r => some (r.foldl AqFire.join f)

/-- A firing that belongs to a later sample than the trigger sample of a buffer in POST or FULL (R250): counted, or held; it joins the
held trigger while the sample of that one is still to come. -/
def State.aqLate (s : State) (b : Nat) (f : AqFire) : State :=
  let x := s.aqBuf b
  if x.queueOne then
    match x.held with
    | none => (s.setAqBuf b { x with held := some f, heldOpen := true }).flag (Reg.AQ_BUF_STAT_HELD b) true
    | some h => if x.heldOpen then s.setAqBuf b { x with held := some (h.join f) } else s.add (Reg.AQ_MISSED_COUNT b) f.count
  else s.add (Reg.AQ_MISSED_COUNT b) f.count

/-- A firing reaches a buffer that its unit triggers (R249, R250); one of the trigger sample joins the trigger. -/
def State.aqHear (s : State) (b : Nat) (f : AqFire) : State :=
  let x := s.aqBuf b
  if s.aqState b = 2 ∧ 0 < x.post ∧ x.isMap = false ∧ f.at_ ≤ x.trigAt then s.setAqBuf b { x with cap := some ((x.cap.getD f).join f) }
  else if s.aqState b = 3 ∨ (s.aqState b = 2 ∧ 0 < x.post) then s.aqLate b f
  else if s.aqState b = 1 ∧ x.stamps.any (fun y => decide (f.at_ ≤ y.1)) = true then s.aqBack b f
  else s.setAqBuf b { x with next := x.next ++ [f] }

/-- TRIG to every Node link that runs version 2 or later (R321): the low 40 bits of the node time of the firing. -/
def State.sendTrig (s : State) (at_ : Nat) : State :=
  let x := s.nodeAt at_ % 2 ^ 40
  ((Tab.keys s.fl.links).filter fun l => decide (96 ≤ l) && decide (l < 128) && s.portUp (.lane l) && decide (2 ≤ (s.link l).version)).foldl
    (fun s l => s.sendLink l 9 [BitVec.ofNat 20 (x / 2 ^ 20), BitVec.ofNat 20 x]) s

/-- The firing of a unit with its cause at an instant (R245, R246): the frame of the instant, and the coarse periods since its boundary. -/
def State.aqFireOf (s : State) (u at_ : Nat) : AqFire :=
  if s.now < s.sq.nextBoundary ∧ s.sq.nextBoundary ≤ at_ then
    { at_ := at_, units := 2 ^ u, count := 1, frame := (s.sq.frameNo + 1) % 2 ^ 20, time := (at_ - s.sq.nextBoundary) / 100 }
  else if at_ < s.sq.frameStart then
    { at_ := at_, units := 2 ^ u, count := 1, frame := (s.sq.frameNo + 1048575) % 2 ^ 20, time := (at_ - s.sq.prevStart) / 100 }
  else { at_ := at_, units := 2 ^ u, count := 1, frame := s.sq.frameNo % 2 ^ 20, time := (at_ - s.sq.frameStart) / 100 }

/-- Unit `u` fires with a cause at an instant. -/
def State.aqFireAt (s : State) (u at_ : Nat) : State :=
  let f := s.aqFireOf u at_
  let x := s.aqUnit u
  let hold := (Reg.AQ_TRG_CFG_HOLD 0).of (x.cfg.getD 0 0)
  let s := if hold = 0 then s else s.setAqUnit u { x with hold := some (at_ + hold * lsbUs) }
  let s := [0, 1, 2, 3].foldl (fun s b => if (s.aqBuf b).watches u && s.aqState b != 0 then s.aqHear b f else s) s
  let s := if s.fo Reg.AQ_CFG_SQ_UNIT = u then { s with aq := { s.aq with toShepherd := s.aq.toShepherd ++ [max at_ s.now] } } else s
  if s.fu 0 Reg.FL_TRIG_EN = 1 ∧ s.fu 0 Reg.FL_TRIG_UNIT = u then s.sendTrig at_ else s

/-- Unit `u` fires now. -/
def State.aqFire (s : State) (u : Nat) : State := s.aqFireAt u s.now

/-- The hold-off of a unit runs at an instant (R248). -/
def State.holdsOff (s : State) (u at_ : Nat) : Bool := match (s.aqUnit u).hold with | some x => decide (at_ < x) | none => false

/-- What may meet the condition of a unit of kinds 2 to 7. -/
inductive AqCause where
  | threshold (ch k : Nat) (active : Bool)
  | injection (axis : Nat)
  | boundary
  | scanEnd
  | shot (emitter : Nat)
  | event (sev : Nat)
  | csync (n : Nat)
  | syncDec
  | block (src : AqSrc)
  deriving DecidableEq, Repr

def unitKind (cfg : List Score) : Nat := (Reg.AQ_TRG_CFG_KIND 0).of (cfg.getD 0 0)
def unitCond (cfg : List Score) : Nat := (Reg.AQ_TRG_CFG_COND 0).of (cfg.getD 0 0)
def unitSrc (cfg : List Score) : AqSrc := aqSrc (cfg.getD 1 0)

/-- Table 9.2: the KIND, COND and source of a unit go together. -/
def unitOk (cfg : List Score) : Bool :=
  let k := unitKind cfg
  let c := unitCond cfg
  let x := unitSrc cfg
  if k = 0 then true
  else if k = 1 then decide (c ≤ 2) && x.stream
  else if k = 2 then decide (c ≤ 2) && decide (x.index < 32) && decide (x.sub < 4)
  else if k = 3 then decide (x.index < 4)
  else if k = 4 then decide (c ≤ 2) && (c != 2 || decide (x.index < 16))
  else if k = 5 then decide (c ≤ 2)
  else if k = 6 then c == 1 || (c == 0 && decide (x.index < 4))
  else k == 7 && x.block

/-- Whether a cause meets the condition of a unit. -/
def unitMeets (cfg : List Score) (cause : AqCause) : Bool :=
  let k := unitKind cfg
  let c := unitCond cfg
  let x := unitSrc cfg
  unitOk cfg &&
  match cause with
  | .threshold ch j active => k == 2 && x.index == ch && x.sub == j && (c == 2 || (c == 0 && active) || (c == 1 && !active))
  | .injection a => k == 3 && x.index == a
  | .boundary => k == 4 && c == 0
  | .scanEnd => k == 4 && c == 1
  | .shot e => k == 4 && c == 2 && x.index == e
  | .event sev => k == 5 && decide (c ≤ sev)
  | .csync n => k == 6 && c == 0 && x.index == n
  | .syncDec => k == 6 && c == 1
  | .block src => k == 7 && x.kind == src.kind && x.index == src.index

/-- Every unit whose condition a cause at an instant meets fires, unless its hold-off runs (R248). -/
def State.aqTriggerAt (s : State) (cause : AqCause) (at_ : Nat) : State :=
  (List.range 16).foldl (fun s u => if unitMeets (s.aqUnit u).cfg cause && !s.holdsOff u at_ then s.aqFireAt u at_ else s) s

/-- A cause that comes now. -/
def State.aqTrigger (s : State) (cause : AqCause) : State := s.aqTriggerAt cause s.now

/-- R247: every level unit on a source looks at one of its samples. A firing inside the hold-off does not happen and unprimes nothing. -/
def State.aqLevels (s : State) (src : AqSrc) (sample : Nat → Option Score) : State :=
  (List.range 16).foldl (fun s u =>
    let x := s.aqUnit u
    if unitKind x.cfg == 1 && unitOk x.cfg && decide (unitSrc x.cfg = src) then
      match sample u with
      | none => s
      | some w =>
        let v := src.value w
        let level := src.value (x.cfg.getD 2 0)
        let hyst := src.value (x.cfg.getD 3 0)
        let c := unitCond x.cfg
        let open_ := !s.holdsOff u s.now
        let up := open_ && x.rise && decide (v ≥ level) && c != 1
        let dn := open_ && x.fall && decide (v ≤ level) && c != 0
        let s := s.setAqUnit u { x with rise := (x.rise && !up) || decide (v < level - hyst)
                                        fall := (x.fall && !dn) || decide (v > level + hyst) }
        if up || dn then s.aqFire u else s
    else s) s

/-! ### Captures (R242 to R254) -/

/-- A source sample passes a buffer that has its trigger sample: firings up to now belong to it, and the sample of a held trigger has come. -/
def State.aqPass (s : State) (b : Nat) : State :=
  let due := (s.aqBuf b).next.filter fun f => decide (f.at_ ≤ s.now)
  let s := s.setAqBuf b { s.aqBuf b with next := (s.aqBuf b).next.filter fun f => decide (s.now < f.at_) }
  let s := match AqFire.joinAll due with | some f => s.aqLate b f | none => s
  s.setAqBuf b { s.aqBuf b with heldOpen := false }

/-- One stored sample, or one stored block, reaches a buffer (R243, R244, R250). The AQ_CAP_ registers of a map describe the trigger of
its first segment (R254). -/
def State.aqTake (s : State) (b : Nat) (vals : List Score) (seq : Nat) : State :=
  let x := s.aqBuf b
  let due := AqFire.joinAll (x.next.filter fun f => decide (f.at_ ≤ s.now))
  let rest := x.next.filter fun f => decide (s.now < f.at_)
  if s.aqState b = 1 then
    match due with
    | some f =>
      let pre := x.pre x.data
      let x := { x with next := rest, cap := if x.isMap && x.cap.isSome then x.cap else some f, data := pre, preCount := pre.length, post := 0
                        stamps := [], trigAt := s.now }
      (s.setAqBuf b x).aqPost b vals seq
    | none =>
      if x.isMap then s
      else
        let x := x.countAmps vals
        let data := x.data ++ vals
        let stamps := x.stamps ++ vals.map fun _ => (s.now, seq)
        s.setAqBuf b { x with data := data.drop (data.length - x.len), stamps := stamps.drop (data.length - x.len) }
  else if s.aqState b = 2 then
    if x.post = 0 then
      let cap := match x.cap, due with
        | some c, some f => if x.isMap && decide (0 < x.segments) then some c else some (c.join f)
        | c, _ => c
      (s.setAqBuf b { x with next := rest, cap := cap, trigAt := s.now }).aqPost b vals seq
    else (s.aqPass b).aqPost b vals seq
  else if s.aqState b = 3 then s.aqPass b
  else s

/-- The stored score of an averaged sample (R252). -/
def AqBuf.average (x : AqBuf) (sum : Int) (marks : Nat) : Score :=
  let n : Int := (2 : Int) ^ x.avg
  if x.src.kind = 0 then BitVec.ofNat 20 (marks % 8 * 2 ^ 14 + (16 * sum / n).toNat % 2 ^ 14)
  else Score.ofSigned (sum / n)

/-- A source sample or block is offered to a buffer, through its averaging (R252). -/
def State.aqOffer (s : State) (b : Nat) (vals : List Score) (seq : Nat) : State :=
  let x := s.aqBuf b
  if x.avg = 0 || s.aqState b == 3 then s.aqTake b vals seq
  else
    let v := vals.map fun w => if x.src.kind = 0 then ((w.toNat % 2 ^ 10 : Nat) : Int) else x.src.value w
    let m := vals.map fun w => if x.src.kind = 0 then w.toNat / 2 ^ 10 % 8 else 0
    let acc := if x.accN = 0 then v else List.zipWith (· + ·) x.acc v
    let marks := if x.accN = 0 then m else List.zipWith (· ||| ·) x.marks m
    if x.accN + 1 < 2 ^ x.avg then s.setAqBuf b { x with acc := acc, marks := marks, accN := x.accN + 1 }
    else (s.setAqBuf b { x with acc := [], marks := [], accN := 0 }).aqTake b (List.zipWith x.average acc marks) seq

/-- The buffers that record a source of a kind and index. -/
def State.aqUsers (s : State) (kind index : Nat) : List Nat :=
  [0, 1, 2, 3].filter fun b => s.aqState b != 0 && (s.aqBuf b).src.kind == kind && (s.aqBuf b).src.index == index

/-- One sample of a stream source: level units look at it, then the buffers take it. -/
def State.aqStream (s : State) (src : AqSrc) (v : Score) : State :=
  [0, 1, 2, 3].foldl (fun s b => if s.aqState b != 0 && decide ((s.aqBuf b).src = src) then s.aqOffer b [v] 0 else s) s

/-- An output of a converter channel (R239 KIND 1): the value for the engine, the status score; an UNSET or BLANK sample neither fires nor primes (R247). -/
def State.aqConverter (s : State) (c : Nat) (value status : Score) (unset : Bool) : State :=
  let s := s.aqLevels ⟨1, 0, c⟩ fun _ => if unset then none else some value
  let s := s.aqLevels ⟨1, 1, c⟩ fun _ => if unset then none else some status
  (s.aqStream ⟨1, 0, c⟩ value).aqStream ⟨1, 1, c⟩ status

/-- One loop period of a servo axis (R207): target, y, e, u, s. -/
def State.aqServo (s : State) (a : Nat) (vals : List Int) : State :=
  let xs := vals.map fun v => Score.ofSigned (satSigned v)
  let s := (List.range 5).foldl (fun s i => s.aqLevels ⟨2, i, a⟩ fun _ => some (xs.getD i 0)) s
  (List.range 5).foldl (fun s i => s.aqStream ⟨2, i, a⟩ (xs.getD i 0)) s

/-- The channel that the sampler of a tile is connected to. -/
def State.samplerChan (s : State) (tile : Nat) : Nat := 8 * tile + s.f (Reg.TL_WS_CFG_CH tile)

/-- The sampler can capture: selected on, front end powered, MODE 0 to 2. -/
def State.samplerOn (s : State) (tile : Nat) : Bool :=
  s.f (Reg.TL_WS_CFG_EN tile) == 1 && s.fu (s.samplerChan tile) (Reg.TL_TILE_CFG_AFE_EN tile) == 1 && s.f (Reg.TL_WS_CFG_MODE tile) != 3

/-- A capture begins (R74, R78) with its first sample at an instant. -/
def State.samplerBegin (s : State) (tile start : Nat) : State :=
  (s.setTile tile { s.tile tile with wsArmed := false, wsBusy := true, wsStart := start, wsChan := s.samplerChan tile
                                     wsSeq := (s.chan (s.samplerChan tile)).shot }).flag (Reg.TL_TILE_STAT_WS_ARMED tile) false

/-- The sampler of a tile is armed (R78, R80, R240): in FORCE mode its capture begins at once, and a MODE of 3 makes none. -/
def State.aqArmSampler (s : State) (tile : Nat) : State :=
  if (s.tile tile).wsBusy || s.h (Reg.TL_TILE_STAT_WS_FULL tile) == 1 then s
  else
    let s := (s.setTile tile { s.tile tile with wsArmed := true }).flag (Reg.TL_TILE_STAT_WS_ARMED tile) true
    if s.f (Reg.TL_WS_CFG_MODE tile) = 3 then s.flag (Reg.TL_TILE_STAT_WS_CFG_ERR tile) true
    else if s.f (Reg.TL_WS_CFG_MODE tile) = 2 ∧ s.samplerOn tile = true then s.samplerBegin tile s.now
    else s

/-- The engine copies the block that a sampler holds, buffers that name the tile share it, and the sampler is armed again while one waits (R240,
R245). With no such buffer the sampler holds its block (R78). -/
def State.aqCopyBlock (s : State) (tile : Nat) : State :=
  let t := s.tile tile
  let users := s.aqUsers 0 tile
  if users.isEmpty then s
  else
    let s := s.flag (Reg.TL_TILE_STAT_WS_FULL tile) false
    let s := users.foldl (fun s b => s.aqOffer b t.wsSamples t.wsSeq) s
    if users.any s.aqTaking then s.aqArmSampler tile else s

/-- A sampler capture is complete: units that watch it fire, and the block is copied. -/
def State.aqSamplerBlock (s : State) (tile : Nat) : State := (s.aqTrigger (.block ⟨0, 0, tile⟩)).aqCopyBlock tile

/-- A buffer on a sampler is armed (R78, R240): a block that the sampler still holds is copied first, else the sampler is armed. -/
def State.aqSamplerArm (s : State) (tile : Nat) : State :=
  if s.h (Reg.TL_TILE_STAT_WS_FULL tile) = 1 then s.aqCopyBlock tile else s.aqArmSampler tile

/-- A histogram is read by extraction cluster `k` (R241, R244). A level unit on a fold bin has no BIN field: which bin it watches is a free value. -/
def State.aqFoldBlock (s : State) (k pixel cycle : Nat) (bins : List Nat) : State :=
  let S := bins.length
  let score := fun (i : Nat) => (BitVec.ofNat 20 (bins.getD i 0) : Score)
  let s := s.aqLevels ⟨3, 1, pixel⟩ fun u => let i := (Config.triggerBin u).toNat; if i < S then some (score i) else none
  let s := s.aqTrigger (.block ⟨3, 0, pixel⟩)
  (s.aqUsers 3 pixel).foldl (fun s b =>
    let x := s.aqBuf b
    if s.aqState b = 3 then s.aqPass b
    else if S ≠ x.size then s.inc (Reg.AQ_BLOCK_SKIP_COUNT b)
    else if x.src.sub = 1 then
      if x.bin ≥ S then s.inc (Reg.AQ_BLOCK_SKIP_COUNT b) else s.aqOffer b [score x.bin] 0
    else if x.writing.isSome then s.inc (Reg.AQ_BLOCK_SKIP_COUNT b)
    else (s.setAqBuf b { x with writing := some k }).aqOffer b ((List.range S).map score) cycle) s

/-- Extraction cluster `k` has read its histogram to the end. -/
def State.aqBlockEnd (s : State) (k : Nat) : State :=
  [0, 1, 2, 3].foldl (fun s b =>
    if (s.aqBuf b).writing = some k then s.setAqBuf b { s.aqBuf b with writing := none } else s) s

end Sys2Proof.Machine
end

