-- ==== Sys2Proof/Machine/Shepherd.lean ====
section
/-!
DEFINITION. Shepherd (04_shepherd_sequencer.md): the shot table, dither, commit, the energy governor, cycle starts.
-/

namespace Sys2Proof.Machine

/-! ### The shot table in Shepherd's copy (R110 to R114) -/

/-- SQ_CYC_LEN in effect: out of range it acts as the nearer limit (R110). -/
def State.cycLen (s : State) : Nat :=
  max 1280 (min 1279360000 (s.fq Reg.SQ_CYC_LEN_H_LEN_H * 2 ^ 20 + s.fq Reg.SQ_CYC_LEN_L_LEN_L))

def State.cycLenBad (s : State) : Bool :=
  decide (s.fq Reg.SQ_CYC_LEN_H_LEN_H * 2 ^ 20 + s.fq Reg.SQ_CYC_LEN_L_LEN_L ≠ s.cycLen)

/-- Entries per cycle; larger values act as 4,096 (Table 4.9). -/
def State.entries (s : State) : Nat := min 4096 (s.fq Reg.SQ_ENTRIES_COUNT)

/-- A shot-table entry (Table 4.1), from a way to read registers. -/
structure ShotEntry where
  en : Bool
  emit : Nat
  dspan : Nat
  group : Nat
  win : Nat
  slot : Nat
  deriving DecidableEq, Repr

def shotEntry (rd : Nat → Score) (i : Nat) : ShotEntry :=
  let s0 := (rd (Reg.SQ_SHOT_S0 i)).toNat
  let s1 := (rd (Reg.SQ_SHOT_S1 i)).toNat
  { en := decide (s0 / 2 ^ 19 = 1), emit := s0 / 2 ^ 15 % 16, dspan := s0 / 2 ^ 11 % 16, group := s0 % 1024
    win := s1 / 2 ^ 14, slot := s1 % 2048 * 2 ^ 20 + (rd (Reg.SQ_SHOT_S2 i)).toNat }

/-- The four ranges of a pixel group as (first, count) (R113). -/
def groupRanges (rd : Nat → Score) (g : Nat) : List (Nat × Nat) :=
  [0, 1, 2, 3].map fun j => ((Reg.SQ_GRP_FIRST_PIXEL g j).of (rd (Reg.SQ_GRP_FIRST g j)), (Reg.SQ_GRP_COUNT_COUNT g j).of (rd (Reg.SQ_GRP_COUNT g j)))

def inRanges (rs : List (Nat × Nat)) (p : Nat) : Bool := rs.any fun r => decide (r.1 ≤ p) && decide (p < r.1 + r.2)

/-- The pixels of a group, each once (R113). -/
def groupPixels (rd : Nat → Score) (g : Nat) : List Nat := (List.range 16896).filter (inRanges (groupRanges rd g))

def winOfs (rd : Nat → Score) (w : Nat) : Nat := (Reg.SQ_WIN_OFS_OFS w).of (rd (Reg.SQ_WIN_OFS w))
def winLen (rd : Nat → Score) (w : Nat) : Nat := (Reg.SQ_WIN_LEN_LEN w).of (rd (Reg.SQ_WIN_LEN w))

/-- R112: OFS 0 to 9,846, LEN 640 to 10,486, their sum at most 10,486. -/
def winValid (rd : Nat → Score) (w : Nat) : Bool :=
  decide (winOfs rd w ≤ 9846) && decide (640 ≤ winLen rd w) && decide (winLen rd w ≤ 10486) && decide (winOfs rd w + winLen rd w ≤ 10486)

/-- R113: every used range ends at or below pixel 16,895. -/
def groupValid (rd : Nat → Score) (g : Nat) : Bool := (groupRanges rd g).all fun r => decide (r.2 = 0) || decide (r.1 + r.2 ≤ 16896)

/-- The last enabled entry among the entries before `i` that meets `p`. -/
def prevEnabled (rd : Nat → Score) (p : ShotEntry → Bool) : Nat → Option ShotEntry
  | 0 => none
  | i + 1 => let x := shotEntry rd i; if x.en && p x then some x else prevEnabled rd p i

/-- The spacing conditions 4 to 6 of R114, with the wrap to the entry of the cycle before for conditions 5 and 6. -/
def spacedFrom (rd : Nat → Score) (n len i : Nat) (p : ShotEntry → Bool) (gap : Nat) (x : ShotEntry) : Bool :=
  match prevEnabled rd p i with
  | some y => decide (y.slot + gap ≤ x.slot)
  | none =>
    match prevEnabled rd p n with
    | some y => decide (y.slot + gap ≤ x.slot + len)
    | none => true

/-- What R114 asks of the fields in an entry's S0: EMIT, DSPAN and GROUP. -/
def entryHeadOk (rd : Nat → Score) (x : ShotEntry) : Bool :=
  decide ((Reg.SQ_EMIT_CFG_EN x.emit).of (rd (Reg.SQ_EMIT_CFG x.emit)) = 1) && decide (x.dspan ≤ 8) && groupValid rd x.group

/-- R114: whether an enabled entry is valid in a set of `n` entries and cycle length `len`. -/
def entryValid (rd : Nat → Score) (n len i : Nat) : Bool :=
  let x := shotEntry rd i
  entryHeadOk rd x
    && winValid rd x.win
    && decide (3 ≤ x.slot + winOfs rd x.win) && decide (x.slot + winOfs rd x.win + winLen rd x.win ≤ len)
    && (match prevEnabled rd (fun _ => true) i with | some y => decide (y.slot < x.slot) | none => true)
    && spacedFrom rd n len i (fun _ => true) 640 x
    && spacedFrom rd n len i (fun y => decide (y.emit = x.emit)) 5334 x

/-! ### Dither (R119, R120) -/

/-- The seed of an emitter's register. -/
def ditherSeed (ident e : Nat) : Nat :=
  let x := (ident / 65536 % 65536) ^^^ (ident % 65536) ^^^ ((e + 1) * 0x0F0F % 65536)
  if x = 0 then 0xFFFF else x

/-- One step of the register. -/
def lfsrStep (x : Nat) : Nat :=
  let fb := (x / 2 ^ 15 + x / 2 ^ 13 + x / 2 ^ 12 + x / 2 ^ 10) % 2
  x % 2 ^ 15 * 2 + fb

/-- The dither D of a state and a span, in LSB. -/
def ditherOf (x dspan : Nat) : Nat :=
  if dspan = 0 then 0 else 100 * (x / 256 / 2 ^ (8 - dspan)) + x % 256 * 100 / 256

/-- Every emitter is reseeded (R119). -/
def State.reseed (s : State) : State :=
  { s with sq := { s.sq with lfsr := (List.range 16).map (ditherSeed s.ident) } }

/-! ### Governor (R127 to R129) -/

/-- The energy in the bucket `b` and the 100 before it. -/
def ledgerSum (l : List (Nat × Nat)) (b : Nat) : Nat :=
  (l.filter fun x => decide (x.1 ≤ b) && decide (b ≤ x.1 + 100)).foldl (fun n x => n + x.2) 0

/-- Adds energy to a bucket; buckets that have left the window go. -/
def ledgerAdd (l : List (Nat × Nat)) (b e : Nat) : List (Nat × Nat) :=
  match l with
  | (b', e') :: r => if b' = b then (b, e' + e) :: r else (b, e) :: ((b', e') :: r).filter (fun x => decide (b ≤ x.1 + 100))
  | [] => [(b, e)]

def State.ledger (s : State) (e : Nat) : Ledger := Tab.get s.sq.ledgers {} e

/-- The bucket of an instant in a window of `us` microseconds per bucket. -/
def bucket (us x : Nat) : Nat := x / (us * lsbUs)

/-- SQ_EMIT_E; 0 acts as 1. -/
def State.emitE (s : State) (e : Nat) : Nat := max 1 (s.fq (Reg.SQ_EMIT_E_E e))

/-- The first window that refuses a shot at an instant (R128): 0 the 100 µs, 1 the 10 ms, 2 the 1 s window. -/
def State.govRefuses (s : State) (e x : Nat) : Option Nat :=
  let l := s.ledger e
  let en := s.emitE e
  if ledgerSum l.l100 (bucket 1 x) + en > s.fq (Reg.SQ_GOV_B100_B e) then some 0
  else if ledgerSum l.l10m (bucket 100 x) + en > 16 * s.fq (Reg.SQ_GOV_B10M_B e) then some 1
  else if ledgerSum l.l1s (bucket 10000 x) + en > 1024 * s.fq (Reg.SQ_GOV_B1S_B e) then some 2
  else none

/-- A committed shot counts in the bucket that holds its slot time. -/
def State.govAdd (s : State) (e x : Nat) : State :=
  let l := s.ledger e
  let en := s.emitE e
  let l' : Ledger := { l100 := ledgerAdd l.l100 (bucket 1 x) en, l10m := ledgerAdd l.l10m (bucket 100 x) en, l1s := ledgerAdd l.l1s (bucket 10000 x) en }
  { s with sq := { s.sq with ledgers := Tab.set s.sq.ledgers {} e l' } }

/-- The states of a FIRE pair (Table 4.2). -/
inductive PairState where
  | pulse | idle | inhibit
  deriving DecidableEq, Repr

/-- The levels of FIRE_P and FIRE_N (Table 4.2); true is High. -/
def PairState.levels : PairState → Bool × Bool
  | .pulse => (true, false)
  | .idle => (false, true)
  | .inhibit => (false, false)

/-- Whether a pair is in INHIBIT (R122, R123). -/
def State.inhibited (s : State) (e : Nat) : Bool :=
  !s.live || s.fq (Reg.SQ_EMIT_CFG_EN e) == 0 || !s.firing || s.sq.govInh.contains e || s.th.fireInh
    || s.h Reg.TH_STAT_SHUTDOWN == 1 || s.sq.refLost || s.fireBankBad

/-- The state of an emitter's pair (R122, R123): in PULSE from the begin to the end of its FIRE pulse, unless it is inhibited. -/
def State.pairState (s : State) (e : Nat) : PairState :=
  if s.inhibited e then .inhibit
  else
    let p := Tab.get s.sq.pulses (0, 0) e
    if p.1 ≤ s.now ∧ s.now < p.2 then .pulse else .idle

/-- The servo gate of R118: some bound axis is not in TRACK or reports an error above its limit. -/
def State.gateShut (s : State) : Bool :=
  s.fq Reg.SQ_CFG_SV_GATE == 1 && [0, 1, 2, 3].any fun a =>
    (s.fq (Reg.SQ_TRJ_CFG_BIND a) == 1 || s.fq (Reg.SQ_TRJ_CFG_BIND a) == 2) && !s.axisTracks a

/-! ### Cycles -/

/-- The snapshot point (R131): the configuration as it will be in effect for the cycle served. A SWAP that acts at the coming
frame boundary is taken here, and so is every accepted SQ_ write. The copy governs the commits of the cycle served only. -/
def State.snapshotAt (s : State) (swap : Bool) : State :=
  let s := (s.applyAt (fun a _ => decide (a / 65536 = 4))).planJudge
  let src := if swap then (if s.activeB then s.regs.setA else s.regs.setB) else (if s.activeB then s.regs.setB else s.regs.setA)
  { s with sq := { s.sq with nextCopy := some ⟨src.cells.filter fun c => decide (c.1 / 65536 = 4)⟩ } }

/-- The cycle that a snapshot serves begins, or the one before it has ended: its copy governs. -/
def State.takeCopy (s : State) : State :=
  match s.sq.nextCopy with
  | some c => { s with sq := { s.sq with copy := c, nextCopy := none } }
  | none => s

/-- What Shepherd does for the cycle that follows, before that cycle begins: with the copy taken for it. -/
def State.underNext (s : State) (f : State → State) : State :=
  match s.sq.nextCopy with
  | some c =>
    let t := f { s with sq := { s.sq with copy := c } }
    { t with sq := { t.sq with copy := s.sq.copy } }
  | none => f s

/-- φ of the cycles after the coming frame boundary (R138). -/
def State.phiNext (s : State) : Nat :=
  match s.sq.plan.phiDue with
  | some p => p
  | none =>
    match s.sq.plan.activation with
    | some a => if s.h Reg.SQ_PLAN_STAT_STATE = 2 ∧ a ≤ s.nodeAt s.sq.nextBoundary then s.sq.plan.newPhi else s.h Reg.SQ_PLAN_OFS_PHI
    | none => s.h Reg.SQ_PLAN_OFS_PHI

/-- The cycle that a start begins, as it is known from the snapshot. The spec does not say whether the cycles of a frame are numbered from
0 or from 1: the model numbers the first one 1, as Table 4.3 and the example of R33 do (DEDUCED, log 124). -/
def State.newCycle (s : State) (at_ no : Nat) : Cycle :=
  { no := no, startAt := at_, len := s.cycLen, next := 0, throttled := s.throttleSkips (no - 1) }

/-- The cycle that follows is known, unless it would begin at or after SCAN_END (R31, R132). -/
def State.foresee (s : State) (at_ no : Nat) : State :=
  if s.sq.inScan && decide (s.sq.scanEndAt ≤ at_) then s
  else s.underNext fun s => { s with sq := { s.sq with upcoming := some (s.newCycle at_ no) } }

/-- The end of a cycle. -/
def Cycle.endAt (y : Cycle) : Nat := y.startAt + 100 * y.len

/-- Whether the copy that governs the coming cycle lets cycles follow back to back (START_SRC 0). -/
def State.backToBack (s : State) : Bool :=
  Reg.SQ_CFG_START_SRC.of (Tab.get (s.sq.nextCopy.getD s.sq.copy) (Reg.resetRw Reg.SQ_CFG) Reg.SQ_CFG) == 0

/-- SHEPHERD_SNAPSHOT (R131): 64 coarse periods before a shot-cycle end, for the cycle that follows it back to back or from a held start, or
before a frame boundary, for the first cycle of the new scan part. -/
def execShepherdSnapshot (t : Nat) (s : State) : Host.Outcome State Fault Refusal :=
  s.run t fun s =>
    match s.sq.cyc with
    | some y =>
      if y.endAt ≤ s.now + 6400 ∧ s.sq.nextCopy = none then
        let s := s.snapshotAt false
        if s.backToBack || s.h Reg.SQ_STAT_PEND == 1 then s.foresee y.endAt (y.no + 1) else s
      else s
    | none =>
      if s.sq.inScan = false ∧ s.sq.nextBoundary ≤ s.now + 6400 ∧ s.sq.nextCopy = none then
        let s := s.snapshotAt (s.cf.swapDue s.sq.nextBoundary)
        if (!s.sq.halted || s.sq.startReq) && s.backToBack then s.foresee (s.sq.nextBoundary + 100 * s.phiNext) 1 else s
      else s

/-- The enabled entries of the copy that R114 finds invalid. -/
def State.invalidEntries (s : State) : List Nat :=
  (List.range s.entries).filter fun i => (shotEntry s.sqReg i).en && !entryValid s.sqReg s.entries s.cycLen i

/-- TABLE_ERR is raised once per frame (R115). -/
def State.tableErrOnce (s : State) (i : Nat) : State :=
  if s.ev.seen.contains (Ev.tableErr.code, 0) then s
  else { (s.raise .tableErr i 0) with ev := { (s.raise .tableErr i 0).ev with seen := (Ev.tableErr.code, 0) :: s.ev.seen } }

/-- The invalid entries of the table are counted and reported (R115). -/
def State.tableErr (s : State) (bad : List Nat) : State :=
  match bad with
  | [] => s
  | i :: _ => ((s.add Reg.SQ_ENTRY_ERR_COUNT bad.length).flag Reg.SQ_STAT_TABLE_ERR true).tableErrOnce i

/-- A cycle begins (R110, R115, R131, R463): the skipping of the step in effect holds for it, the copy taken for it governs, the entries are checked, invalid ones counted, TABLE_ERR raised once
per frame. -/
def State.beginCycle (s : State) (y : Cycle) : State :=
  let s := s.takeCopy
  let y := { y with throttled := s.throttleSkips (y.no - 1) }
  let t : State := { s with sq := { s.sq with cyc := some y, upcoming := none, cycles := y.no } }
  (if t.cycLenBad then t.flag Reg.SQ_STAT_CFG_ERR true else t).tableErr s.invalidEntries

/-- SHOT_CYCLE_START (R115, R131): a cycle starts in a scan part, unless a stop has ended the cycles: back to back, or from the start that was registered. -/
def execShotCycleStart (t : Nat) (s : State) : Host.Outcome State Fault Refusal :=
  s.run t fun s =>
    if !s.sq.halted && s.sq.inScan && s.sq.cyc.isNone && decide (s.now < s.sq.scanEndAt) then
      match s.sq.upcoming with
      | some y => if y.startAt ≤ s.now then s.beginCycle y else s
      | none =>
        if s.backToBack then
          let s := s.takeCopy
          s.beginCycle (s.newCycle s.now (s.sq.cycles + 1))
        else s
    else s

def State.countReached (s : State) (e : Nat) : State :=
  { s with sq := { s.sq with reached := Tab.set s.sq.reached 0 e (Tab.get s.sq.reached 0 e + 1) } }

def State.countFired (s : State) (e : Nat) : State :=
  { s with sq := { s.sq with fired := Tab.set s.sq.fired 0 e (Tab.get s.sq.fired 0 e + 1) } }

/-- The LFSR of an emitter steps once (R120); the new state. -/
def State.stepLfsr (s : State) (e : Nat) : State × Nat :=
  let x := lfsrStep (s.sq.lfsr.getD e 0)
  ({ s with sq := { s.sq with lfsr := s.sq.lfsr.set e x } }, x)

/-- One shot of R31's tail is dropped: counted, and reported once per frame at SCAN_END. -/
def State.dropScan (s : State) (n : Nat) : State :=
  { s.add Reg.SQ_SCAN_DROP_COUNT n with sq := { (s.add Reg.SQ_SCAN_DROP_COUNT n).sq with scanDrop := s.sq.scanDrop + n } }

/-- The windows that still count: they close later, or their channel may still have to open or close them. -/
def State.liveWindows (s : State) : List ShotWin :=
  s.sq.windows.filter fun w => decide (s.now < w.to_ + (if w.pixel < 512 then 1638400 else 300))

/-- Whether a window of a pixel, with the 3 calibration periods before it, overlaps one that an earlier shot opens on it (R116). -/
def clashes (ws : List ShotWin) (p from_ to_ : Nat) : Bool :=
  ws.any fun w => decide (w.pixel = p) && decide (from_ < w.to_ + 300) && decide (w.from_ < to_ + 300)

/-- A remote pixel whose head is not ALIGNED takes part in no shot (R314; with R20 the rule that restricts more governs over R151). -/
def State.headOut (s : State) (p : Nat) : Bool := decide (512 ≤ p) && (s.headOf p).any fun h => !s.headAligned h

/-- A shot fires (R116, R121, R125, R126, R314): its number, its ledger, its windows, its descriptor, its FIRE pulse. A trigger unit on the
shot fires at the FIRE instant (R246). -/
def State.fireShot (s : State) (y : Cycle) (x : ShotEntry) (d : Nat) : State :=
  let slotAt := y.startAt + 100 * x.slot
  let from_ := slotAt + 100 * winOfs s.sqReg x.win
  let to_ := from_ + 100 * winLen s.sqReg x.win
  let px := groupPixels s.sqReg x.group
  let ws := s.liveWindows
  let clear := px.filter fun p => !clashes ws p from_ to_
  let part := clear.filter fun p => !s.headOut p
  let seq := (s.h Reg.SQ_SEQ_SEQ + 1) % 2 ^ 20
  let width := max 1 (s.fq (Reg.SQ_EMIT_CFG_PW x.emit))
  let s := (s.countFired x.emit).setH Reg.SQ_SEQ_SEQ seq
  let s := (s.govAdd x.emit slotAt).add Reg.SQ_WIN_CLASH_COUNT (px.length - clear.length)
  let desc : ShotDesc :=
    { seq := seq, emitter := x.emit, dither := d, group := x.group, win := x.win, cycle := y.no, start := y.startAt, pixels := part }
  let shot : TeShot := { seq := seq, emitter := x.emit, dither := d, place := slotAt + d, placedAt := slotAt + d, ffb := none, fbs := false }
  let s := { s with
    sq := { s.sq with
      windows := ws ++ part.map fun p => ShotWin.mk p seq from_ to_
      pulses := Tab.set s.sq.pulses (0, 0) x.emit (slotAt + d, slotAt + d + 100 * width) }
    fd := { s.fd with inbound := s.fd.inbound ++ [desc] }
    tl := { s.tl with shots := (s.tl.shots ++ [shot]).drop (s.tl.shots.length + 1 - 32) } }
  let s := s.send (.fire x.emit (slotAt + d) width)
  (s.sendShot desc (s.nodeAt slotAt) px).aqTriggerAt (.shot x.emit) (slotAt + d)

/-- Shepherd commits one shot of a cycle (R31, R118, R120, R121, R123, R128, R464). The spec does not say which reason counts a shot that more
than one of them stops: the model asks in the order throttling, SCAN_END, an inhibit of R123, the servo gate, the governor, and the first counts
alone (DESIGN CHOICE, logs 32 and 147). The governor compares the ledgers at the shot's slot time, in whose bucket R127 counts it, and not
at the commit instant 12.5 ns before; R128 says only "at commit" (DESIGN CHOICE, log 148). -/
def State.commitShot (s : State) (y : Cycle) (x : ShotEntry) : State :=
  let s := s.countReached x.emit
  let (s, st) := s.stepLfsr x.emit
  let d := ditherOf st x.dspan
  let slotAt := y.startAt + 100 * x.slot
  if y.throttled then s.inc Reg.TH_SKIP_CNT_COUNT
  else if y.startAt + 100 * (x.slot + winOfs s.sqReg x.win + winLen s.sqReg x.win) > s.sq.scanEndAt ∧ s.sq.inScan = true then s.dropScan 1
  else if (s.sq.stopReq && decide (s.sq.cyc ≠ some y)) || !(s.firing || (s.sq.startReq && !s.sq.inScan)) || s.th.fireInh
      || s.h Reg.TH_STAT_SHUTDOWN == 1 || s.sq.refLost || s.fireBankBad then s
  else if s.gateShut then s.inc Reg.SQ_SKIP_SERVO_COUNT
  else
    match s.govRefuses x.emit slotAt with
    | some w =>
      let s := (s.inc (Reg.SQ_GOV_SKIP_COUNT x.emit)).raiseOnce .govLimit x.emit w
      { s with sq := { s.sq with govInh := if s.sq.govInh.contains x.emit then s.sq.govInh else x.emit :: s.sq.govInh } }
    | none => s.fireShot y x d

/-- The next enabled entry at or after an index. -/
def nextEnabled (rd : Nat → Score) (n i : Nat) : Option Nat := ((List.range n).drop i).find? fun j => (shotEntry rd j).en

/-- An invalid entry that Shepherd reaches is passed over whole (R115): it counts as reached (R332) and steps the LFSR; in a skipped cycle it is
counted in TH_SKIP_CNT like every enabled entry (R464). -/
def State.passInvalid (s : State) (y : Cycle) (x : ShotEntry) : State :=
  let s := ((s.countReached x.emit).stepLfsr x.emit).1
  if y.throttled then s.inc Reg.TH_SKIP_CNT_COUNT else s

/-- Shepherd reaches the next enabled entry of a cycle. -/
def State.reachEntry (s : State) (y : Cycle) (put : State → Cycle → State) : State :=
  match nextEnabled s.sqReg s.entries y.next with
  | none => s
  | some i =>
    let x := shotEntry s.sqReg i
    let y' := { y with next := i + 1 }
    let s := put s y'
    if entryValid s.sqReg s.entries s.cycLen i then s.commitShot y' x
    else s.passInvalid y' x

/-- The commit of an entry of the cycle that follows, before that cycle begins (R121, R131). Whether throttling skips that cycle is not fixed
before it starts (R463): the step in effect at the commit counts. -/
def State.commitAhead (s : State) : State :=
  match s.sq.upcoming with
  | some z => s.underNext fun s => s.reachEntry { z with throttled := s.throttleSkips (z.no - 1) } fun s y' => { s with sq := { s.sq with upcoming := some y' } }
  | none => s

/-- SHOT_COMMIT (R121): the running cycle's next entry, or the first entries of the cycle that follows, whose commit may fall before its start. -/
def execShotCommit (t : Nat) (s : State) : Host.Outcome State Fault Refusal :=
  s.run t fun s =>
    match s.sq.cyc with
    | some y =>
      if (nextEnabled s.sqReg s.entries y.next).isSome then
        s.reachEntry y fun s y' => { s with sq := { s.sq with cyc := some y' } }
      else
        s.commitAhead
    | none => s.commitAhead

/-- GOVERNOR_RELEASE_CHECK (R128): INHIBIT is released for every refused emitter whose shot would be admitted now. -/
def execGovernorReleaseCheck (t : Nat) (s : State) : Host.Outcome State Fault Refusal :=
  s.run t fun s => { s with sq := { s.sq with govInh := s.sq.govInh.filter fun e => (s.govRefuses e s.now).isSome } }

def ExtSource.sel : ExtSource → Nat
  | .csync0 => 0
  | .csync1 => 1
  | .triggerUnit => 2
  | .trigMarker => 3

/-- Shepherd's island registers an external start (R131, R132) of the source that EXT_SEL selects. The spec does not say what becomes of one
that arrives in the 25 ns before the cycle of an earlier one begins, or in a scan part after a stop has ended the cycles (R130): the model holds the first like one
that arrives while the cycle runs, and passes over the second uncounted (DEDUCED, log 127). -/
def State.externalStart (s : State) (src : ExtSource) : State :=
  if s.fq Reg.SQ_CFG_START_SRC == 1 && s.fq Reg.SQ_CFG_EXT_SEL == src.sel then
    if !s.sq.inScan then s.inc Reg.SQ_START_DROP_COUNT
    else if s.sq.halted then s
    else if s.sq.cyc.isSome || s.sq.upcoming.isSome then
      if s.h Reg.SQ_STAT_PEND = 1 then s.inc Reg.SQ_START_DROP_COUNT
      else
        let s := s.flag Reg.SQ_STAT_PEND true
        match s.sq.cyc with
        | some y => if s.sq.nextCopy.isSome && s.sq.upcoming.isNone then s.foresee y.endAt (y.no + 1) else s
        | none => s
    else if s.now + 3200 ≥ s.sq.scanEndAt then s.inc Reg.SQ_START_DROP_COUNT
    else (s.snapshotAt false).takeCopy.foresee (s.now + 3200) (s.sq.cycles + 1)
  else s

/-- EXTERNAL_START (R132, R249): a start of the trigger unit needs a firing of the last 50 ns that has not been registered yet. -/
def execExternalStart (t : Nat) (src : ExtSource) (s : State) : Host.Outcome State Fault Refusal :=
  s.run t fun s =>
    if src = .triggerUnit then
      match s.aq.toShepherd.filter fun x => decide (s.now ≤ x + 6400) with
      | [] => { s with aq := { s.aq with toShepherd := [] } }
      | _ :: r => ({ s with aq := { s.aq with toShepherd := r } }).externalStart src
    else s.externalStart src

/-- SQ_CFG.CNT_CLR (R139). -/
def State.sqCntClr (s : State) : State :=
  s.clear ([Reg.SQ_ENTRY_ERR_COUNT, Reg.SQ_WIN_CLASH_COUNT, Reg.SQ_START_DROP_COUNT, Reg.SQ_SKIP_SERVO_COUNT, Reg.SQ_SCAN_DROP_COUNT]
    ++ (List.range 16).map Reg.SQ_GOV_SKIP_COUNT)

/-- SQ_CNT_CLR (R139). -/
def execSqCntClr (t : Nat) (s : State) : Host.Outcome State Fault Refusal := s.run t fun s => s.sqCntClr

end Sys2Proof.Machine
end

