-- ==== Sys2Proof/Machine/CalOps.lean ====
section
/-!
DEFINITION. What other blocks need of self-calibration (R469 to R471): idle intervals of a tile, the calibration in progress, what becomes
of a result.
-/

namespace Sys2Proof.Machine

/-! ### Idle intervals (R469) -/

/-- The openings of a tile's windows in a shot cycle that starts at an instant, by the active shot table, without dither; those of slots at
or after an end do not come. -/
def State.tileOpenings (s : State) (tile start end_ : Nat) : List Nat :=
  (List.range s.entries).filterMap fun i =>
    let x := shotEntry s.sqReg i
    let at_ := start + 100 * x.slot
    if x.en && decide (at_ < end_) && (List.range 8).any fun c => inRanges (groupRanges s.sqReg x.group) (8 * tile + c) then
      some (at_ + 100 * winOfs s.sqReg x.win)
    else none

/-- The starts of the shot cycle that runs and of those that may follow it, with the end of their scan part: back to back, from a start that
is held, or at any moment from outside; in the gap those of the frame to come. -/
def State.cycleStarts (s : State) : List (Nat × Nat) :=
  if s.h Reg.SQ_STAT_RUN = 0 then []
  else if s.sq.inScan then
    let l := (match s.sq.cyc with | some y => [y.startAt, y.endAt] | none => [s.now]) ++ (match s.sq.upcoming with | some y => [y.startAt] | none => [])
    l.map fun x => (x, s.sq.scanEndAt)
  else [(s.sq.nextBoundary, s.sq.nextBoundary + s.framePerLsb)]

/-- No window of a tile is open, and none opens within so many LSB (R469). -/
def State.tileIdle (s : State) (tile lsb : Nat) : Bool :=
  (List.range 8).all (fun c => !(s.chan (8 * tile + c)).winOpen)
    && s.sq.windows.all (fun w => decide (w.pixel / 8 ≠ tile) || decide (w.to_ ≤ s.now) || decide (s.now + lsb ≤ w.from_))
    && s.cycleStarts.all fun x => (s.tileOpenings tile x.1 x.2).all fun o => decide (o < s.now) || decide (s.now + lsb ≤ o)

/-- 5 µs before the first window that a tile may open (R469). -/
def State.calStop (s : State) (tile : Nat) : Option Nat :=
  let l := (s.cycleStarts.flatMap fun x => s.tileOpenings tile x.1 x.2) ++ (s.sq.windows.filter fun w => decide (w.pixel / 8 = tile)).map (·.from_)
  ((l.filter fun o => decide (s.now ≤ o)).min?).map (· - 5 * lsbUs)

/-- A tile is being calibrated: its calibration has begun, and 5 µs or more are left before a window (R469). -/
def State.calibrating (s : State) (tile : Nat) : Bool :=
  match s.th.cal with
  | some r => decide (r.tile = tile) && r.stopAt.all (fun e => decide (s.now < e)) && s.tileIdle tile (5 * lsbUs)
  | none => false

/-- A window of a tile opens: its calibration, which has stopped, is over. -/
def State.calOver (s : State) (tile : Nat) : State :=
  match s.th.cal with
  | some r => if r.tile = tile then { s with th := { s.th with cal := none } } else s
  | none => s

/-- The calibration in progress measures the walk table of a range (Table 18.5). -/
def State.calRange (s : State) (g : Nat) : State :=
  match s.th.cal with
  | some r => { s with th := { s.th with cal := some { r with range := some g } } }
  | none => s

/-- The calibration in progress has measured the walk table of no other range in this visit. -/
def State.calRangeFree (s : State) (g : Nat) : Bool :=
  match s.th.cal with
  | some r => r.range.all fun x => decide (x = g)
  | none => false

/-! ### Results (R470) -/

/-- A calibration begins to measure at a place: BRACE counts from now (R438). -/
def State.calBegins (s : State) (place : Nat) : State :=
  let l := s.th.braceIn.filter (· ≠ place)
  { s with th := { s.th with braceIn := if s.pw.brace then place :: l else l } }

/-- What is being measured at a place meets BRACE. -/
def State.calInBrace (s : State) (place : Nat) : Bool := s.pw.brace || s.th.braceIn.contains place

/-- A result is discarded (R470): reported once per item per frame; eight in a row are stale. -/
def State.calReject (s : State) (item place : Nat) : State :=
  let k := 64 * item + place
  let n := Tab.get s.th.calBad 0 k + 1
  let first := !s.th.rejected.contains item
  let s := { s with th := { s.th with calBad := Tab.set s.th.calBad 0 k n, rejected := addOnce item s.th.rejected } }
  let s := s.inc Reg.TH_CAL_FAIL_COUNT
  let s := if first then s.raise .calReject item place else s
  if n = 8 then s.raise .calStale item place else s

/-- A result of an enabled item is measured: its period starts again; it is accepted, counted and applied, or discarded. `measured` names
the place as the calibration began there. -/
def State.calResult (s : State) (item place measured : Nat) (ok : Bool) (apply : State → State) : State :=
  let k := 64 * item + place
  let s' := { s with th := { s.th with calAt := Tab.set s.th.calAt 0 k s.now } }
  if !s.calItem item then s'
  else if ok && !s.calInBrace measured then
    (apply { s' with th := { s'.th with calBad := Tab.set s'.th.calBad 0 k 0 } }).inc Reg.TH_CAL_RUN_COUNT
  else s'.calReject item place

end Sys2Proof.Machine
end

