-- ==== Sys2Proof/Machine/Tiles.lean ====
section
/-!
DEFINITION. Return tiles (02_return_front_end.md) and time engine (03_time_engine.md): the shared operations and one meaning
per command of the two chapters.
-/

namespace Sys2Proof.Machine

/-- The gain range in effect (R53, R54). -/
def State.gainNow (s : State) (c : Nat) : Nat := s.h (Reg.TL_CH_STAT_GAIN_NOW c)

/-- The cancellation limit of a range in nA (R51). -/
def dcLimit : Nat → Nat
  | 0 => 20000
  | 1 => 100000
  | _ => 500000

/-- The threshold codes in effect (R61, R62): the pair of the range in use, LT at most 1015, HT at least LT + 8. -/
def thrPair (v : Score) : Nat × Nat :=
  let ht := v.toNat / 1024
  let lt := v.toNat % 1024
  if lt > 1015 then (1015, 1023) else if ht < lt + 8 then (lt, lt + 8) else (lt, ht)

def State.thresholds (s : State) (c : Nat) : Nat × Nat :=
  thrPair (s.use c (if s.gainNow c = 0 then Reg.TL_CH_THR0 c else if s.gainNow c = 1 then Reg.TL_CH_THR1 c else Reg.TL_CH_THR2 c))

/-- Whether a channel is enabled and its front end powered (R48, R104). -/
def State.chanOn (s : State) (c : Nat) : Bool :=
  s.fu c (Reg.TL_CH_CFG_EN c) == 1 && s.fu c (Reg.TL_TILE_CFG_AFE_EN (c / 8)) == 1

/-- Whether the tile PLL is in lock. -/
def State.tileLock (s : State) (t : Nat) : Bool := s.h (Reg.TL_TILE_STAT_LOCK t) == 1

/-! ### Conversion (R84-R92, R97-R103) -/

/-- Tile times are compared modulo 1,638,400 LSB (R87). -/
def tileWrap (i : Int) : Int := i % 1638400

/-- The taps of one coarse period of an interpolator, P of R88. -/
def CalCodes.p (x : CalCodes) : Int := (x.c2 : Int) - x.c1

/-- R90: 110 ≤ P ≤ 200 and P ≤ c1 ≤ P + 60. -/
def CalCodes.valid (x : CalCodes) : Bool :=
  decide (110 ≤ x.p) && decide (x.p ≤ 200) && decide (x.p ≤ x.c1) && decide ((x.c1 : Int) ≤ x.p + 60)

def CalSet.valid (x : CalSet) : Bool := x.ltRise.valid && x.htRise.valid && x.htFall.valid && x.ltFall.valid

/-- The fraction f of R89, 0 to 100. -/
def edgeFrac (x : CalCodes) (c : Nat) : Int :=
  roundDiv (100 * ((min (max c x.c1) x.c2 : Nat) - (x.c1 : Int))) x.p

/-- An edge in absolute tile time (R89). -/
def edgeAbs (x : CalCodes) (e : Edge) : Int := tileWrap (100 * e.k - 100 - edgeFrac x e.c)

/-- The amplitude class of Table 2.2 (R66). -/
def totBand (tot base : Nat) : Nat :=
  if tot < 128 * base then 0 else if tot < 256 * base then 1 else if tot < 512 * base then 2
  else if tot < 1024 * base then 3 else if tot < 2048 * base then 4 else if tot < 4096 * base then 5
  else if tot < 8192 * base then 6 else 7

def ampClass (ovr htAbsent : Bool) (ltTot htTot : Nat) : Nat :=
  if ovr then 15
  else if htAbsent then totBand ltTot 1
  else 8 + min (totBand htTot 1) 6

/-- The last HT fall of a return that its interpolator converted: a fall that comes while it is still busy with an earlier
one is not converted (R64, R84). `busy` is the instant from which it is free. -/
def lastHtFall (cal : CalCodes) (closeAt : Nat) : List Pulse → Nat → Option (Option Edge × Nat) → Option (Option Edge × Nat)
  | [], _, acc => acc
  | p :: r, busy, acc =>
    match p.fall with
    | none => some (none, closeAt)
    | some e =>
      if e.instant < busy then lastHtFall cal closeAt r busy acc
      else lastHtFall cal closeAt r (e.instant + 100 + (edgeFrac cal e.c).toNat) (some (some e, e.instant))

/-- A pulse shorter than 400 ps (51.2 LSB) produces no edge (R64). -/
def Pulse.long (p : Pulse) : Bool :=
  match p.rise, p.fall with
  | some a, some b => decide (a.instant + 52 ≤ b.instant)
  | _, _ => true

/-- Whether a pulse's rise comes sooner than 1.2 ns (153.6 LSB) after an LT fall (R64). -/
def Pulse.soonAfter (p : Pulse) (fall : Option Nat) : Bool :=
  match p.rise, fall with
  | some e, some f => decide (e.instant < f + 154)
  | _, _ => false

def Pulse.fallAt (p : Pulse) : Option Nat := p.fall.map (·.instant)

/-- LT pulses that R64 merges into a return whose entry has already been formed bring no further edges. -/
def dropMerged (last : Option Nat) : List Pulse → List Pulse
  | [] => []
  | p :: r => if p.soonAfter last then dropMerged p.fallAt r else p :: r

/-- The LT pulses of the returns: a rise sooner than 1.2 ns after a fall is merged into the return before it (R64). -/
def mergeLt : List Pulse → List Pulse
  | [] => []
  | p :: r =>
    match mergeLt r with
    | q :: l => if q.soonAfter p.fallAt then { p with fall := q.fall } :: l else p :: q :: l
    | [] => [p]

/-- The walk table (R98). -/
def State.walkTab (s : State) (c g k : Nat) : Nat := (s.teVal (Reg.TE_WALK c g k) false).toNat

/-- The difference of two converted edges of one return, which lie close together, as a signed value (R87). -/
def nearDiff (a b : Int) : Int :=
  let d := tileWrap (a - b)
  if d ≥ 819200 then d - 1638400 else d

/-- The walk W of Table 3.2. -/
def State.walk (s : State) (c cls : Nat) (plain : Bool) (htDelta : Int) : Int :=
  let g := s.gainNow c
  match s.f (Reg.TE_CH_CFG_WALK c) with
  | 0 => 0
  | 1 => s.walkTab c g cls
  | _ =>
    if plain then
      let th := s.thresholds c
      min 255 (roundDiv (htDelta * th.1) ((th.2 : Int) - th.1))
    else s.walkTab c g cls

/-- The start reference of R97. The spec does not say whether the tile offset is the one at the shot's calibration or at the stamp: the
model takes the one that TE_REF_OFS holds when the stamp is formed (DESIGN CHOICE, log 117). -/
def State.startRef (s : State) (c : Nat) (x : TeShot) (ffb : Int) : Int :=
  tileWrap (roundDiv (16 * ffb + sgn 20 (s.h (Reg.TE_REF_OFS_OFS (c / 8)))) 16
    - sgn 20 (s.f (Reg.TE_FFB_DLY_DLY x.emitter)) - x.dither)

/-- The difference of R99, taken in -409,600 to +1,228,799. -/
def stampDiff (lead start : Int) : Int :=
  let d := tileWrap (lead - start)
  if d ≥ 1228800 then d - 1638400 else d

/-! ### Statistics units (R106-R108) -/

def State.stRun (s : State) (u : Nat) : StRun := Tab.get s.tl.st {} u

def State.setStRun (s : State) (u : Nat) (x : StRun) : State :=
  { s with tl := { s.tl with st := Tab.set s.tl.st {} u x } }

/-- A register of a statistics unit in use: a host's write waits for the shot-cycle end (R34, R109). -/
def State.stReg (s : State) (a : Nat) : Score :=
  match s.tl.stWait.find? fun x => decide (x.addr = a) with
  | some x => x.value
  | none => s.oneReg a

def State.fst (s : State) (f : Fld) : Nat := f.of (s.stReg f.addr)

/-- The results of a run (R107): floor(mean) and its fraction in 1/16 LSB, round(16 sd) saturated, the extremes. A fraction
that rounds up to 16/16 does not fit its field, and the spec does not say what it then reads: a free value. -/
def State.stResults (s : State) (u : Nat) (x : StRun) : State :=
  let frac := (2 * 16 * (x.sum % x.n) + x.n) / (2 * x.n)
  let var := x.n * x.sumsq - x.sum * x.sum
  let sd := (isqrt (1024 * var / (x.n * (x.n - 1))) + 1) / 2
  let s := s.setH (Reg.TE_ST_MEAN_MEAN u) (x.sum / x.n)
  let s := s.setH (Reg.TE_ST_MEANF_FRAC u) (if frac ≤ 15 then frac else (Config.stFraction x.sum x.n).toNat)
  let s := s.setH (Reg.TE_ST_SD_SD u) sd
  let s := s.setH (Reg.TE_ST_MIN_VALUE u) x.lo
  s.setH (Reg.TE_ST_MAX_VALUE u) x.hi

/-- One interval offered to a running unit; `none` is one that R107 ignores. The spec does not say whether a run keeps the TE_ST_N, TE_ST_CFG and
TE_ST_STAT.CH of its START when a write of one takes effect while the unit is BUSY: the model uses the values in use, and a run whose count has
passed a new N never completes (DESIGN CHOICE, log 154). -/
def State.stOffer (s : State) (u : Nat) (v : Option Nat) : State :=
  match v with
  | none => s.inc (Reg.TE_ST_IGN_COUNT u)
  | some d =>
    let x := s.stRun u
    let x' : StRun := { n := x.n + 1, sum := x.sum + d, sumsq := x.sumsq + d * d,
                        lo := if x.n = 0 then d else min x.lo d, hi := max x.hi d }
    let s := s.setStRun u x'
    if x'.n = s.fst (Reg.TE_ST_N_N u) then
      (((s.stResults u x').flag (Reg.TE_ST_STAT_DONE u) true).flag (Reg.TE_ST_STAT_BUSY u) false).raise .stDone u 0
    else s

/-- The running units that measure to a channel's entries, on the shots of their emitter. The spec does not say whether a shot fired before
START counts when its stop comes after START: the model counts it (DESIGN CHOICE, log 118). -/
def State.stEntry (s : State) (c emitter : Nat) (first : Bool) (v : Option Nat) : State :=
  [0, 1, 2, 3].foldl (fun s u =>
    if s.h (Reg.TE_ST_STAT_BUSY u) = 1 ∧ s.fst (Reg.TE_ST_STAT_CH u) = c ∧ s.fst (Reg.TE_ST_CFG_EMIT u) = emitter
        ∧ ((s.fst (Reg.TE_ST_CFG_STOP_SEL u) = 1 ∧ first = true) ∨ s.fst (Reg.TE_ST_CFG_STOP_SEL u) = 2) then s.stOffer u v
    else s) s

/-- The running units that measure to an FFB edge: from the FIRE placement or from the FFB edge itself. -/
def State.stFfb (s : State) (e : Nat) (delay : Int) : State :=
  [0, 1, 2, 3].foldl (fun s u =>
    if s.h (Reg.TE_ST_STAT_BUSY u) = 1 ∧ s.fst (Reg.TE_ST_CFG_EMIT u) = e ∧ s.fst (Reg.TE_ST_CFG_STOP_SEL u) = 0 then
      let d := if s.fst (Reg.TE_ST_CFG_START_SEL u) = 0 then delay else 0
      s.stOffer u (if d < 0 ∨ d > 1048575 then none else some d.toNat)
    else s) s

/-! ### Entries -/

def QItem.isEntry : QItem → Bool
  | .entry .. => true
  | .token .. => false

/-- A formed return becomes a stamp entry (R99, R101) and enters its channel queue, or is dropped (R103). The spec does not say whether an
entry dropped at a full queue still counts in TE_ORDER_ERR or TE_OVF_CNT and is seen by the statistics units, nor whether a unit with
START_SEL FFB takes a shot whose FFB edge was substituted: in the model each does (DESIGN CHOICE, logs 118 and 119). -/
def State.enterStamp (s : State) (r : RawEntry) (x : TeShot) (ffb : Int) : State :=
  let diff := stampDiff r.lead (s.startRef r.chan x ffb)
  let order := decide (diff < 0)
  let near := decide (diff = 0)
  let ovf := decide (diff > 1048575)
  let stamp : Nat := if order then 0 else if ovf then scoreMax else diff.toNat
  let s := if order then s.inc (Reg.TE_ORDER_ERR_COUNT (r.chan / 8)) else s
  let s := if ovf then s.inc (Reg.TE_OVF_CNT_COUNT (r.chan / 8)) else s
  let ch := s.chan r.chan
  let first := decide (ch.firstSeen ≠ some r.shot)
  let s := s.setChan r.chan { ch with firstSeen := some r.shot }
  let s := s.stEntry r.chan x.emitter first (if order || ovf then none else some stamp)
  let ch := s.chan r.chan
  if (ch.queue.filter QItem.isEntry).length ≥ 64 then
    (s.inc (Reg.TE_QDROP_CNT_COUNT (r.chan / 8))).setChan r.chan { ch with qlNext := true }
  else
    let tag := r.tag + (if near then 2 ^ 11 else 0) + (if order then 2 ^ 10 else 0) + (if ovf then 2 ^ 9 else 0)
      + (if x.fbs then 2 ^ 6 else 0) + (if ch.qlNext then 2 ^ 5 else 0)
    s.setChan r.chan { ch with
      queue := ch.queue ++ [.entry r.shot (BitVec.ofNat 20 stamp) (BitVec.ofNat 20 tag) r.readyAt], qlNext := false }

/-- The shot a channel's window belongs to. -/
def State.teShot (s : State) (seq : Nat) : Option TeShot := s.tl.shots.find? (fun x => x.seq = seq)

/-- A formed return goes to its queue at once where the shot's start reference is known, and else waits for it (R97). -/
def State.formed (s : State) (r : RawEntry) : State :=
  match s.teShot r.shot with
  | none => s
  | some x =>
    match x.ffb with
    | some f => s.enterStamp r x f
    | none => { s with tl := { s.tl with raw := s.tl.raw ++ [r] } }

/-- The emission reference of a shot becomes known (R93, R94): returns that waited for it are stamped. -/
def State.setFfb (s : State) (x : TeShot) (ffb : Int) (fbs : Bool) : State :=
  let x' : TeShot := { x with ffb := some ffb, fbs := fbs }
  let mine := s.tl.raw.filter (fun r => r.shot = x.seq)
  let s := { s with tl := { s.tl with
    shots := s.tl.shots.map (fun y => if y.seq = x.seq then x' else y)
    raw := s.tl.raw.filter (fun r => r.shot ≠ x.seq) } }
  mine.foldl (fun s r => s.enterStamp r x' ffb) s

/-! ### Returns, clamp and crosstalk -/

/-- Whether one of the instants falls in another channel's clamp or within 12 ns (1,536 LSB) after its release (R71). -/
def State.crossed (s : State) (c : Nat) (edges : List Nat) : Bool :=
  (s.tile (c / 8)).clamps.any (fun l => decide (l.chan ≠ c) && edges.any (fun x => decide (l.engaged ≤ x) &&
    (match l.released with | none => true | some r => decide (x ≤ r + 1536))))

/-- The clamps of a channel that its tile remembers. -/
def State.ownClamps (s : State) (c : Nat) : List ClampLog := (s.tile (c / 8)).clamps.filter fun l => decide (l.chan = c)

/-- The clamp of a channel is engaged. -/
def State.clampOn (s : State) (c : Nat) : Bool := (s.ownClamps c).any fun l => l.released.isNone

/-- The comparators of a channel are blanked at an instant (R69). -/
def State.blankedAt (s : State) (c x : Nat) : Bool :=
  (s.ownClamps c).any fun l => match l.released with
    | some r => decide (r ≤ x) && (match l.ended with | some e => decide (x < e) | none => true)
    | none => false

/-- The clamp that engages during a return (R68). The spec does not say whether a clamp already engaged when the window opens makes the return in
progress OVR: the model gives none then, for that clamp does not engage during the return (DESIGN CHOICE, log 155). -/
def State.clampIn (s : State) (c began ended : Nat) : Option ClampLog :=
  (s.ownClamps c).find? fun l => decide (began ≤ l.engaged) && decide (l.engaged ≤ ended)

/-- R63 to R72, R89, R98, R101: the channel forms the edges, the class, the flags and the entry of a return from its merged LT pulse and
the HT pulses inside it. The falls of a return with a clamp carry the clamp release (R68). -/
def State.takeReturn (s : State) (c : Nat) (lt : Pulse) (pulses : List Pulse) : State :=
  let ch := s.chan c
  let began := match lt.rise with | some e => e.instant | none => ch.openAt
  let fell := (lt.fallAt).getD s.now
  if !ch.winOpen || ch.blind || !s.tileLock (c / 8) || s.blankedAt c began then s
  else
    let clamp := s.clampIn c began fell
    let release := clamp.bind (·.released)
    let ended := release.getD fell
    let ht := pulses.filter fun p => p.long && (match p.rise with | some e => decide (began ≤ e.instant) && decide (e.instant ≤ ended) | none => lt.rise.isNone)
    let ovr := ch.recovFail || clamp.isSome
    let trunc := lt.rise.isNone || (lt.fall.isNone && release.isNone)
    let htAbsent := ht.isEmpty
    let tileTime := fun (x : Nat) => tileWrap (100 * ch.openCoarse + x - ch.openAt)
    let cal0 : CalSet := ch.calUsed.getD ⟨⟨0, 1⟩, ⟨0, 1⟩, ⟨0, 1⟩, ⟨0, 1⟩⟩
    let hFall := match release with
      | some r => some (none, r)
      | none => lastHtFall cal0.htFall ended ht 0 none
    let firstRise := match ht with | p :: _ => (match p.rise with | some e => some e.instant | none => some ch.openAt) | [] => none
    let marks := [began, ended] ++ (match firstRise with | some x => [x] | none => [])
      ++ (match hFall with | some y => [y.2] | none => [])
    let xtk := s.crossed c marks
    let s := if ovr then (s.inc (Reg.TL_CH_OVR_CNT_COUNT c)).flag (Reg.TL_CH_STAT_OVR_SEEN c) true else s
    let s := if xtk then s.flag (Reg.TL_CH_STAT_XTK_SEEN c) true else s
    let s := s.setChan c { ch with
      ovrSeqs := if ovr && !ch.ovrSeqs.contains ch.shot then ch.shot :: ch.ovrSeqs else ch.ovrSeqs
      htSeqs := if !htAbsent && !ch.htSeqs.contains ch.shot then ch.shot :: ch.htSeqs else ch.htSeqs
      lastFall := lt.fallAt }
    match ch.calUsed with
    | none => s
    | some cal =>
      if s.h (Reg.TE_CH_STAT_FAIL c) = 1 ∨ s.h (Reg.TE_TILE_STAT_SKEW (c / 8)) = 1 then s
      else
        let tLt := match lt.rise with | some e => edgeAbs cal.ltRise e | none => tileTime ch.openAt
        let tLf := match release, lt.fall with
          | some r, _ => tileTime r
          | none, some e => edgeAbs cal.ltFall e
          | none, none => tileTime s.now
        let tHr := match ht with | p :: _ => (match p.rise with | some e => edgeAbs cal.htRise e | none => tileTime ch.openAt) | [] => tLt
        let tHf := match hFall with | some (some e, _) => edgeAbs cal.htFall e | some (none, x) => tileTime x | none => tHr
        let cls := ampClass ovr htAbsent (tileWrap (tLf - tLt)).toNat (tileWrap (tHf - tHr)).toNat
        let w := s.walk c cls (!htAbsent && !ovr && !trunc) (nearDiff tHr tLt)
        let tag := cls * 2 ^ 16 + s.gainNow c * 2 ^ 14 + (if ovr then 2 ^ 13 else 0) + (if xtk then 2 ^ 12 else 0)
          + (if htAbsent then 2 ^ 8 else 0) + (if trunc then 2 ^ 7 else 0) + ch.shot % 32
        s.formed { chan := c, shot := ch.shot, lead := tileWrap (tLt - w - s.teVal (Reg.TE_CH_OFS c) true),
                   tag := tag, readyAt := ended + 512 }

/-- The comparator pulses of a channel become returns: short pulses drop out, close ones merge (R64). -/
def State.takePulses (s : State) (c : Nat) (r : Return) : State :=
  (mergeLt (dropMerged (s.chan c).lastFall (r.lt.filter Pulse.long))).foldl (fun s p => s.takeReturn c p r.ht) s

/-- COMPARATOR_RETURN (R63). -/
def execComparatorReturn (t : Nat) (c : Chan) (r : Return) (s : State) : Host.Outcome State Fault Refusal :=
  s.run t fun s => s.takePulses c r

/-- What 12.8 µs of the past leave out (R87: nothing reaches back further). -/
def recentSpans (now : Nat) (l : List (Nat × Option Nat)) : List (Nat × Option Nat) :=
  l.filter fun x => match x.2 with | some e => decide (now < e + 1638400) | none => true

/-- CLAMP_ENGAGE (R67, R68, R71): the clamp engages, and the tile's XTK window opens unless it is open. The clamp also works on a disabled channel (R48). -/
def execClampEngage (t : Nat) (c : Chan) (s : State) : Host.Outcome State Fault Refusal :=
  s.run t fun s =>
    let tl := s.tile (c / 8)
    let s := if tl.xtkOpen then s else s.inc (Reg.TL_XTK_CNT_COUNT (c / 8))
    let old := tl.clamps.filter fun l => match l.released, l.ended with
      | some r, some e => decide (s.now < max r e + 1638400)
      | _, _ => true
    s.setTile (c / 8) { tl with
      xtkOpen := true, clamps := old ++ [⟨c, s.now, none, none⟩]
      xtkLog := if tl.xtkOpen then tl.xtkLog else recentSpans s.now tl.xtkLog ++ [(s.now, none)] }

/-- The clamps of one channel are changed in its tile's log. -/
def State.mapClamps (s : State) (c : Nat) (f : ClampLog → ClampLog) : State :=
  s.setTile (c / 8) { s.tile (c / 8) with clamps := (s.tile (c / 8)).clamps.map fun l => if l.chan = c then f l else l }

/-- CLAMP_RELEASE (R68, R69): comparator blanking starts. -/
def execClampRelease (t : Nat) (c : Chan) (s : State) : Host.Outcome State Fault Refusal :=
  s.run t fun s => s.mapClamps c fun l => if l.released.isNone then { l with released := some s.now } else l

/-- Blanking of a channel ends (R69, R70). -/
def State.endBlanking (s : State) (c : Nat) : State :=
  s.mapClamps c fun l => if l.released.isSome && l.ended.isNone then { l with ended := some s.now } else l

/-- BLANKING_END (R69). -/
def execBlankingEnd (t : Nat) (c : Chan) (s : State) : Host.Outcome State Fault Refusal := s.run t fun s => s.endBlanking c

/-- Blanking has lasted 1 µs since the clamp release (R70). -/
def State.blankingLong (s : State) (c : Nat) : Bool :=
  (s.ownClamps c).any fun l => match l.released with | some r => l.ended.isNone && decide (r + lsbUs ≤ s.now) | none => false

/-- RX_RECOVERY (R70): 1 µs after clamp release the channel ends blanking by itself. -/
def execRxRecovery (t : Nat) (c : Chan) (s : State) : Host.Outcome State Fault Refusal :=
  s.run t fun s =>
    if s.blankingLong c then
      let s := s.endBlanking c
      ((s.setChan c { s.chan c with recovFail := true }).flag (Reg.TL_CH_STAT_RECOV_FAIL c) true).raise .rxRecovery c 0
    else s

/-- XTK_WINDOW_CLOSE (R71): 12 ns after the release of the last clamped channel. -/
def execXtkWindowClose (t : Nat) (tile : Tile) (s : State) : Host.Outcome State Fault Refusal :=
  s.run t fun s =>
    let tl := s.tile tile
    if tl.clamps.all (fun l => match l.released with | none => false | some r => decide (r + 1536 ≤ s.now)) then
      s.setTile tile { tl with
        xtkOpen := false
        xtkLog := tl.xtkLog.map fun x => if x.2.isNone then (x.1, some s.now) else x }
    else s

/-- BASELINE_UPDATE (R50 to R52): the loop runs while BL_EN is 1 and no window or calibration freezes it, and cancels up to the limit of the range. -/
def execBaselineUpdate (t : Nat) (c : Chan) (nanoamp : Nat) (s : State) : Host.Outcome State Fault Refusal :=
  s.run t fun s =>
    let ch := s.chan c
    if s.chanOn c && s.fu c (Reg.TL_CH_CFG_BL_EN c) == 1 && !ch.winOpen && !ch.frozen && !s.calibrating (c / 8) then
      let lim := dcLimit (s.gainNow c)
      let s := s.setH (Reg.TL_CH_BASE_DC c) (min nanoamp lim)
      if nanoamp ≥ lim then
        let s := if ch.atLimit then s else s.raise .rxDcLimit c 0
        (s.setChan c { ch with atLimit := true }).flag (Reg.TL_CH_STAT_DC_LIMIT c) true
      else s.setChan c { ch with atLimit := false }
    else s

/-- The window of a fired shot that a channel is to open (R126). -/
def State.dueWindow (s : State) (c shot : Nat) : Option ShotWin :=
  s.sq.windows.find? fun w => decide (w.pixel = c) && decide (w.seq = shot) && decide (w.from_ ≤ s.now)

/-- A window of a channel opens. -/
def State.openWindow (s : State) (c coarse : Nat) (w : ShotWin) : State :=
  let ch := s.chan c
  let skip := match ch.switchedAt with | some x => decide (w.from_ < x + 2560) | none => false
  let reuse := match ch.lastClose with | some x => decide (w.from_ < x + 300) | none => false
  let s := if skip then (s.inc (Reg.TL_GSW_SKIP_COUNT (c / 8))).fdUncount c w.seq else s
  let s := if reuse then s.inc (Reg.TE_CAL_REUSE_CNT_COUNT (c / 8)) else s
  let s := if reuse && ch.calUsed.isNone then s.inc (Reg.TE_CAL_FAIL_CNT_COUNT (c / 8)) else s
  (s.calOver (c / 8)).setChan c { ch with
    winOpen := true, openAt := w.from_, closeAt := w.to_, openCoarse := coarse % 16384, shot := w.seq, frozen := true
    wins := recentSpans s.now ch.wins ++ [(w.from_, none)], lastFall := none
    blind := !s.chanOn c || !s.tileLock (c / 8) || ch.awaitCal || skip }

/-- WINDOW_OPEN (R58, R65, R81, R90, R92, R126): for a shot that has fired, a channel of its group that no clash left out accepts edges,
unless it is off, its tile is out of lock or not yet calibrated since, or its range switched less than 20 ns before, in which case the shot
does not count for its interval. -/
def execWindowOpen (t : Nat) (c : Chan) (shot coarse : Nat) (s : State) : Host.Outcome State Fault Refusal :=
  s.run t fun s =>
    match s.dueWindow c shot with
    | some w => if (s.chan c).winOpen then s else s.openWindow c coarse w
    | none => s

/-- WINDOW_CLOSE (R50, R81, R102): the window closes, the baseline loop resumes, and a tile in lock places the shot's close token behind its entries. -/
def execWindowClose (t : Nat) (c : Chan) (s : State) : Host.Outcome State Fault Refusal :=
  s.run t fun s =>
    let ch := s.chan c
    if ch.winOpen ∧ ch.closeAt ≤ s.now then
      let s := { s with sq := { s.sq with windows := s.sq.windows.filter fun w => !(decide (w.pixel = c.val) && decide (w.seq = ch.shot)) } }
      s.setChan c { ch with winOpen := false, frozen := false, lastClose := some ch.closeAt
                            wins := ch.wins.map fun x => if x.2.isNone then (x.1, some ch.closeAt) else x
                            queue := if s.tileLock (c / 8) then ch.queue ++ [.token ch.shot] else ch.queue }
    else s

/-- Whether a queue can be drained (R102): an entry that is complete, or a token, which a tile out of lock does not send (R81). A token queued before
the tile lost lock is kept and sent after it locks again; the spec does not say whether it is lost (DESIGN CHOICE, log 157). -/
def drainable (now : Nat) (lock : Bool) : List QItem → Bool
  | .entry _ _ _ r :: _ => decide (r ≤ now)
  | .token _ :: _ => lock
  | [] => false

/-- TILE_QUEUE_DRAIN (R102): the next channel in turn gives its oldest item to the fold intake. -/
def execTileQueueDrain (t : Nat) (tile : Tile) (s : State) : Host.Outcome State Fault Refusal :=
  s.run t fun s =>
    let tl := s.tile tile
    if s.calibrating tile then s else
    match ((List.range 8).map (fun i => (tl.rr + i) % 8)).find? (fun i => drainable s.now (s.tileLock tile) (s.chan (8 * tile + i)).queue) with
    | none => s
    | some i =>
      let c := 8 * tile.val + i
      let ch := s.chan c
      let s := s.setTile tile { tl with rr := (i + 1) % 8 }
      match ch.queue with
      | .entry shot stamp tag _ :: q => (s.setChan c { ch with queue := q }).intake (.analog c shot stamp tag)
      | .token shot :: q => (s.setChan c { ch with queue := q }).intake (.token c shot)
      | [] => s

/-- TILE_UNLOCK (R81): windows that are open produce no further edges, also after lock has returned. -/
def execTileUnlock (t : Nat) (tile : Tile) (s : State) : Host.Outcome State Fault Refusal :=
  s.run t fun s =>
    let s := (List.range 8).foldl (fun s i => s.setChan (8 * tile + i) { s.chan (8 * tile + i) with blind := true }) s
    (((s.flag (Reg.TL_TILE_STAT_LOCK tile) false).flag (Reg.TL_TILE_STAT_UNLOCK_SEEN tile) true).raise .tileUnlock tile 0).noteTile tile

/-- The SUSPECT marking of a reference taken ends 1 ms after the time base and every tile PLL are in lock on it (R27). -/
def State.suspectFrom (s : State) : State :=
  if s.tilesLocked && s.fd.refSwitching && s.fd.suspectUntil.isNone then { s with fd := { s.fd with suspectUntil := some (s.now + lsbMs) } } else s

/-- TILE_RELOCK (R81): edges come back with the first window after the next per-shot calibration. -/
def execTileRelock (t : Nat) (tile : Tile) (s : State) : Host.Outcome State Fault Refusal :=
  s.run t fun s =>
    let s := s.flag (Reg.TL_TILE_STAT_LOCK tile) true
    let s := if s.sq.refTaken then s.suspectFrom else s
    (List.range 8).foldl (fun s i => s.setChan (8 * tile + i) { s.chan (8 * tile + i) with awaitCal := true }) s

/-- The instant at which the capture that a command starts now has its first sample (R77): WINDOW mode OFFSET samples after the window's
opening, if that lies before its close; EDGE mode PRE samples before the first LT rise of the window, which comes now; FORCE mode now. -/
def State.captureStart (s : State) (tile : Nat) : Option Nat :=
  let ch := s.chan (s.samplerChan tile)
  match s.f (Reg.TL_WS_CFG_MODE tile) with
  | 0 =>
    let x := ch.openAt + 32 * s.f (Reg.TL_WS_TRIG_OFFSET tile)
    if ch.winOpen ∧ x ≤ s.now ∧ x < ch.closeAt then some x else none
  | 1 => if ch.winOpen ∧ ch.lastFall = none then some (s.now - 32 * s.f (Reg.TL_WS_CFG_PRE tile)) else none
  | 2 => some s.now
  | _ => none

/-- SAMPLER_CAPTURE_START (R77, R78, R80): an armed sampler begins its capture; MODE 3 makes none. -/
def execSamplerCaptureStart (t : Nat) (tile : Tile) (s : State) : Host.Outcome State Fault Refusal :=
  s.run t fun s =>
    if s.f (Reg.TL_WS_CFG_MODE tile) = 3 then s.flag (Reg.TL_TILE_STAT_WS_CFG_ERR tile) true
    else if (s.tile tile).wsArmed && s.samplerOn tile then
      match s.captureStart tile with
      | some x => s.samplerBegin tile x
      | none => s
    else s

/-- A sample code (R75): floor(V / 1.25 mV) + 64, limited to 0 to 1,023. -/
def wsCode (microvolt : Int) : Nat := (max 0 (min 1023 (microvolt / 1250 + 64))).toNat

/-- Whether an instant lies in one of some spans. -/
def inSpans (l : List (Nat × Option Nat)) (x : Nat) : Bool :=
  l.any fun p => decide (p.1 ≤ x) && (match p.2 with | some e => decide (x < e) | none => true)

/-- Sample `k` of a capture of a tile (R74, R76): it lies 32 k LSB after the start; its marks tell what was open or engaged then. -/
def State.sampleScore (s : State) (tile k : Nat) (microvolt : Int) : Score :=
  let tl := s.tile tile
  let x := tl.wsStart + 32 * k
  let clamp := inSpans ((s.ownClamps tl.wsChan).map fun l => (l.engaged, l.released)) x
  BitVec.ofNat 20 (wsCode microvolt + (if clamp then 2 ^ 10 else 0) + (if inSpans tl.xtkLog x then 2 ^ 11 else 0)
    + (if inSpans (s.chan tl.wsChan).wins x then 2 ^ 12 else 0))

/-- The scores of a capture from sample `k` on. -/
def State.sampleScores (s : State) (tile : Nat) : Nat → List Int → List Score
  | _, [] => []
  | k, v :: r => s.sampleScore tile k v :: s.sampleScores tile (k + 1) r

/-- A sampler selection that waited for a capture takes effect (R79). -/
def heldSelection (tile : Nat) : Nat := 600 + tile

/-- SAMPLER_CAPTURE_COMPLETE (R74 to R79): the 2,048 samples are held until the acquisition engine reads them; a selection that waited for the capture takes effect. -/
def execSamplerCaptureComplete (t : Nat) (tile : Tile) (microvolts : List Int) (s : State) : Host.Outcome State Fault Refusal :=
  s.run t fun s =>
    if (s.tile tile).wsBusy then
      let s := (s.setTile tile { s.tile tile with wsBusy := false, wsSamples := s.sampleScores tile 0 (microvolts.take 2048) }).flag
        (Reg.TL_TILE_STAT_WS_FULL tile) true
      let s := s.applyAt fun a u => Reg.isSampler a && decide (u = heldSelection tile)
      s.aqSamplerBlock tile
    else s

/-- The strobe measurement of a tile (R96): the running mean of the last 64, rejects, SKEW and its end. -/
def State.strobe (s : State) (t : Nat) (m : Int) : State :=
  let tl := s.tile t
  let mean := roundDiv (tl.refs.foldl (· + ·) 0) tl.refs.length
  let near := tl.refs.isEmpty || decide ((m - mean).natAbs ≤ 128)
  if s.h (Reg.TE_TILE_STAT_SKEW t) = 1 then
    let close := (tl.skewRun.reverse.takeWhile fun a => decide ((a - m).natAbs ≤ 128)).reverse
    let run := (close ++ [m]).drop ((close.length + 1) - 64)
    let s := if near then s else s.inc (Reg.TE_CAL_FAIL_CNT_COUNT t)
    if run.length ≥ 64 then
      let s := s.setTile t { tl with refs := run, skewBad := 0, skewRun := [] }
      (s.flag (Reg.TE_TILE_STAT_SKEW t) false).setH (Reg.TE_REF_OFS_OFS t) (low 20 (roundDiv (run.foldl (· + ·) 0) run.length))
    else s.setTile t { tl with skewRun := run }
  else if near then
    let refs := (tl.refs ++ [m]).drop ((tl.refs.length + 1) - 64)
    (s.setTile t { tl with refs := refs, skewBad := 0 }).setH (Reg.TE_REF_OFS_OFS t)
      (low 20 (roundDiv (refs.foldl (· + ·) 0) refs.length))
  else
    let s := s.inc (Reg.TE_CAL_FAIL_CNT_COUNT t)
    if tl.skewBad + 1 ≥ 4 then
      ((((s.setTile t { tl with skewBad := 0, skewRun := [] }).flag (Reg.TE_TILE_STAT_SKEW t) true).flag
        (Reg.TE_TILE_STAT_SKEW_SEEN t) true).raise .tileSkew t 0).noteTile t
    else s.setTile t { tl with skewBad := tl.skewBad + 1 }

/-- PER_SHOT_CALIBRATION (R50, R88, R90, R91, R96). With no room before the window (R92) it does not run. -/
def execPerShotCalibration (t : Nat) (c : Chan) (codes : CalSet) (strobe : Option Int) (s : State) : Host.Outcome State Fault Refusal :=
  s.run t fun s =>
    let ch := s.chan c
    let noRoom := match ch.lastClose, s.sq.windows.find? fun w => decide (w.pixel = c.val) with
      | some x, some w => decide (w.from_ < x + 300)
      | _, _ => false
    if ch.winOpen || noRoom then s
    else
      let s := match strobe with | some m => s.strobe (c / 8) m | none => s
      let s := if codes.ltRise.valid then
          (s.setH (Reg.TE_CH_CAL_C1 c) codes.ltRise.c1).setH (Reg.TE_CH_CAL_P c) codes.ltRise.p.toNat else s
      if codes.valid then
        let good := min 16 (ch.calGood + 1)
        let s := s.setChan c { ch with frozen := true, awaitCal := false, cal := some codes, calUsed := some codes, calBad := 0, calGood := good }
        if good ≥ 16 then s.flag (Reg.TE_CH_STAT_FAIL c) false else s
      else
        let bad := min 16 (ch.calBad + 1)
        let s := s.inc (Reg.TE_CAL_FAIL_CNT_COUNT (c / 8))
        let s := if ch.cal.isSome then s.flag (Reg.TE_CH_STAT_CAL_HOLD c) true else s
        let s := s.setChan c { ch with frozen := true, awaitCal := false, calUsed := ch.cal, calBad := bad, calGood := 0 }
        if bad ≥ 16 ∧ s.h (Reg.TE_CH_STAT_FAIL c) = 0 then
          (((s.flag (Reg.TE_CH_STAT_FAIL c) true).flag (Reg.TE_CH_STAT_FAIL_SEEN c) true).raise .tdcFail c 0).noteChan c
        else s

/-- The oldest shot of an emitter whose FFB edge is still awaited. -/
def State.awaitingFfb (s : State) (e : Nat) : Option TeShot := s.tl.shots.find? (fun x => decide (x.emitter = e) && x.ffb.isNone)

/-- TE_FFB_CFG.TMO; 0 acts as 1. -/
def State.ffbTmo (s : State) : Nat := max 1 (s.f Reg.TE_FFB_CFG_TMO)

/-- FFB_EDGE (R93, R95, R97, R106): the first edge within TMO coarse periods after the FIRE edge is the emission reference. The spec gives
the FFB converter no check of its calibration (R90 speaks of channels): the model converts with the codes that come with the edge, whatever
they are (DESIGN CHOICE, log 120). -/
def execFfbEdge (t : Nat) (e : Emitter) (edge : Edge) (cal : CalCodes) (s : State) : Host.Outcome State Fault Refusal :=
  s.run t fun s =>
    match s.awaitingFfb e with
    | none => s
    | some x =>
      if edge.instant < x.placedAt ∨ edge.instant > x.placedAt + 100 * s.ffbTmo then s
      else
        let ffb := edgeAbs cal edge
        let delay := stampDiff ffb x.place
        let drift := decide ((delay - s.f (Reg.TE_FFB_NOM_NOM e)).natAbs > s.f Reg.TE_FFB_CFG_TOL)
        let s := if drift then (s.orBit Reg.TE_FFB_DRIFT_EMIT e).raiseOnce .ffbDrift e (low 20 delay) else s
        (s.setFfb x ffb false).stFfb e delay

/-- FFB_MISSING (R94): no edge came within TMO; the nominal emission instant takes its place, and the shot's entries carry FBS. -/
def execFfbMissing (t : Nat) (e : Emitter) (s : State) : Host.Outcome State Fault Refusal :=
  s.run t fun s =>
    match s.awaitingFfb e with
    | none => s
    | some x =>
      if s.now < x.placedAt + 100 * s.ffbTmo then s
      else ((s.orBit Reg.TE_FFB_MISS_EMIT e).raise .ffbMissing e 0).setFfb x (x.place + s.f (Reg.TE_FFB_NOM_NOM e)) true

/-- A statistics unit starts (R108). -/
def State.stBegin (s : State) (u : Nat) : State :=
  if s.h (Reg.TE_ST_STAT_BUSY u) = 1 then s.flag (Reg.TE_ST_STAT_START_IGN u) true
  else if s.fst (Reg.TE_ST_N_N u) < 2 ∨ s.fst (Reg.TE_ST_CFG_STOP_SEL u) > 2 then s.flag (Reg.TE_ST_STAT_CFG_ERR u) true
  else
    let s := s.zero [Reg.TE_ST_STAT_DONE u, Reg.TE_ST_STAT_PARTIAL u, Reg.TE_ST_MEAN_MEAN u, Reg.TE_ST_MEANF_FRAC u,
      Reg.TE_ST_SD_SD u, Reg.TE_ST_MIN_VALUE u, Reg.TE_ST_MAX_VALUE u, Reg.TE_ST_IGN_COUNT u]
    (s.setStRun u {}).flag (Reg.TE_ST_STAT_BUSY u) true

/-- A START that a host writes waits with the rest of its register for the shot-cycle end (R34, R109), while a STOP acts at once; the spec
does not say what both do (DESIGN CHOICE, log 122). -/
def State.stAsk (s : State) (u : Nat) : State :=
  { s with tl := { s.tl with stAct := s.tl.stAct ++ [(u, s.now)] } }

/-- Whether a write accepted at an instant to a TE_ register waits past a shot-cycle end that comes now (R35). -/
def State.staysPast (s : State) (at_ : Nat) : Bool := decide (s.cycleOf Reg.TE_FFB_CFG at_ = s.cycleOf Reg.TE_FFB_CFG s.now)

/-- The shot-cycle end for the statistics units (R35, R109): written fields take effect, then the STARTs that came with them. -/
def State.stBoundary (s : State) : State :=
  let act := s.tl.stAct.filter fun x => !s.staysPast x.2
  act.foldl (fun s x => s.stBegin x.1) { s with tl := { s.tl with
    stWait := s.tl.stWait.filter fun x => s.staysPast x.at_
    stAct := s.tl.stAct.filter fun x => s.staysPast x.2 } }

/-- TE_ST_CFG.STOP (R108): the run ends at once; with at least 2 intervals the results hold what was accepted. -/
def State.stEnd (s : State) (u : Nat) : State :=
  if s.h (Reg.TE_ST_STAT_BUSY u) = 1 then
    let s := (s.flag (Reg.TE_ST_STAT_BUSY u) false).flag (Reg.TE_ST_STAT_PARTIAL u) true
    if (s.stRun u).n ≥ 2 then (s.stResults u (s.stRun u)).flag (Reg.TE_ST_STAT_DONE u) true else s
  else s

/-- ST_START (R108). -/
def execStStart (t : Nat) (u : StUnit) (s : State) : Host.Outcome State Fault Refusal := s.run t fun s => s.stBegin u

/-- ST_STOP (R108). -/
def execStStop (t : Nat) (u : StUnit) (s : State) : Host.Outcome State Fault Refusal := s.run t fun s => s.stEnd u

/-! ### Gain at a fold-interval end (R53 to R59) -/

/-- A range index field; 3 selects G2 (R57). -/
def rangeIx (x : Nat) : Nat := min x 2

/-- The range that R55 chooses at an interval end, and the new count of quiet intervals. -/
def autoRange (gain lo hi downFrac upCnt n k quiet : Nat) (crossed : Bool) : Nat × Nat :=
  if k * 1024 > downFrac * n ∧ gain < hi then (gain + 1, 0)
  else if crossed then (gain, 0)
  else if upCnt > 0 ∧ quiet + 1 ≥ upCnt ∧ gain > lo then (gain - 1, 0)
  else (gain, quiet + 1)

/-- A range switch (R58, R59): 20 ns to settle, the cancelled current kept up to the new range's limit. With BL_EN 0 R52 holds the value, and the spec
does not say whether a switch to a lower limit still lowers it: the model lowers it and raises RX_DC_LIMIT then too (DESIGN CHOICE, log 156). -/
def State.switchRange (s : State) (c g : Nat) : State :=
  if s.gainNow c = g then s
  else
    let s := (s.setH (Reg.TL_CH_STAT_GAIN_NOW c) g).setChan c { s.chan c with switchedAt := some s.now }
    if s.h (Reg.TL_CH_BASE_DC c) > dcLimit g then
      (((s.setH (Reg.TL_CH_BASE_DC c) (dcLimit g)).flag (Reg.TL_CH_STAT_DC_LIMIT c) true).setChan c
        { s.chan c with atLimit := true }).raise .rxDcLimit c 0
    else s.setChan c { s.chan c with atLimit := (s.chan c).atLimit && decide (s.h (Reg.TL_CH_BASE_DC c) = dcLimit g) }

/-- A waiting sampler selection of a tile that reaches its channel's interval end waits on, for the end of the capture (R79). -/
def State.holdWrite (s : State) (tile c : Nat) (w : LiveWrite) : LiveWrite :=
  if Reg.isSampler w.addr && decide (Reg.tileOf w.addr = tile) && s.before w && w.left.contains c then
    { w with served := [heldSelection tile], left := [heldSelection tile] }
  else w

/-- The sampler selections that reach their channel's interval end during a capture wait for the capture's end (R79). -/
def State.holdSelection (s : State) (c : Nat) : State :=
  if (s.tile (c / 8)).wsBusy then
    { s with regs := { s.regs with waiting := s.regs.waiting.map (s.holdWrite (c / 8) c) } }
  else s

/-- The registers that TL_CH_CFG and TL_CH_AR give auto-range. -/
structure RangeCfg where
  gain : Nat
  arEn : Bool
  lo : Nat
  hi : Nat
  deriving DecidableEq, Repr

/-- The range fields of a TL_CH_CFG value; `gain` as written, AR_LO and AR_HI with 3 as G2 (R57). -/
def rangeCfg (v : Score) : RangeCfg :=
  { gain := (Reg.TL_CH_CFG_GAIN 0).of v, arEn := (Reg.TL_CH_CFG_AR_EN 0).of v == 1
    lo := rangeIx ((Reg.TL_CH_CFG_AR_LO 0).of v), hi := rangeIx ((Reg.TL_CH_CFG_AR_HI 0).of v) }

/-- Whether a channel takes the range of GAIN with new values in effect (R56, R57): GAIN or AR_EN changed, no auto-range, AR_LO above AR_HI
before, which is not evaluated, or from now on. -/
def RangeCfg.holds (new old : RangeCfg) : Bool := decide (new.gain ≠ old.gain) || new.arEn != old.arEn || !new.arEn || decide (new.hi < new.lo) || decide (old.hi < old.lo)

/-- New TL_ values are in effect for a channel that had others (R56, R57, R422): the range of GAIN where it is to be held. -/
def State.settleRange (s : State) (c : Nat) (old : Score) : State :=
  let new := rangeCfg (s.use c (Reg.TL_CH_CFG c))
  if new.holds (rangeCfg old) then (s.setChan c { s.chan c with quiet := 0 }).switchRange c (rangeIx new.gain) else s

/-- The TL_ writes of a channel take effect (R34, R79). -/
def State.applyChannel (s : State) (c : Nat) : State :=
  ((s.holdSelection c).applyAt fun a u => decide (u = c) && Reg.isTileReg a).noteChan c

/-- The end of a fold interval of an analog channel whose counted shots are `seqs`: auto-range is evaluated (R55), TL_ writes take effect
(R34), the range moves (R53 to R57). The spec does not say which AR_LO, AR_HI and TL_CH_AR an evaluation uses when a write to them takes
effect at the same interval end: the model evaluates with the values in effect during the interval (DESIGN CHOICE, log 121). -/
def State.channelIntervalEnd (s : State) (c : Nat) (seqs : List Nat) : State :=
  let v := s.use c (Reg.TL_CH_CFG c)
  let ar := s.use c (Reg.TL_CH_AR c)
  let ch := s.chan c
  let old := rangeCfg v
  let move := autoRange (s.gainNow c) old.lo old.hi ((Reg.TL_CH_AR_DOWN_FRAC c).of ar) ((Reg.TL_CH_AR_UP_CNT c).of ar) seqs.length
    (ch.ovrSeqs.filter seqs.contains).length ch.quiet (ch.htSeqs.any seqs.contains)
  let s := s.applyChannel c
  let clean : ChanState := { s.chan c with ovrSeqs := [], htSeqs := [], recovFail := false }
  if (rangeCfg (s.use c (Reg.TL_CH_CFG c))).holds old then (s.setChan c clean).settleRange c v
  else
    let moved := decide (move.1 ≠ s.gainNow c)
    let s := (s.setChan c { clean with quiet := move.2 }).switchRange c move.1
    if moved then (s.flag (Reg.TL_CH_STAT_AR_MOVED c) true).raise .gainChange c move.1 else s

/-- A channel whose pixel has no fold interval takes its TL_ writes (R495): no interval ends, so nothing is evaluated; quiet counts from 0
when the pixel's first interval opens. -/
def State.channelIdle (s : State) (c : Nat) : State :=
  let v := s.use c (Reg.TL_CH_CFG c)
  let s := s.applyChannel c
  (s.setChan c { s.chan c with quiet := 0, ovrSeqs := [], htSeqs := [], recovFail := false }).settleRange c v

/-- TL_TILE_CFG.CNT_CLR (R83). -/
def State.tlCntClr (s : State) (t : Nat) : State :=
  s.clear ([Reg.TL_XTK_CNT_COUNT t, Reg.TL_GSW_SKIP_COUNT t] ++ (List.range 8).map (fun i => Reg.TL_CH_OVR_CNT_COUNT (8 * t + i)))

/-- TL_CNT_CLR (R83). -/
def execTlCntClr (t : Nat) (tile : Tile) (s : State) : Host.Outcome State Fault Refusal := s.run t fun s => s.tlCntClr tile

/-- TE_TILE_CFG.CNT_CLR (R109). -/
def State.teCntClr (s : State) (t : Nat) : State :=
  s.clear [Reg.TE_ORDER_ERR_COUNT t, Reg.TE_OVF_CNT_COUNT t, Reg.TE_QDROP_CNT_COUNT t, Reg.TE_CAL_FAIL_CNT_COUNT t, Reg.TE_CAL_REUSE_CNT_COUNT t]

/-- TE_CNT_CLR (R109). -/
def execTeCntClr (t : Nat) (tile : Tile) (s : State) : Host.Outcome State Fault Refusal := s.run t fun s => s.teCntClr tile

end Sys2Proof.Machine
end

