-- ==== Sys2Proof/Machine/Fold.lean ====
section
/-!
DEFINITION. Fold (05_fold_engine.md): the intake, bin arithmetic, fold intervals and buffers, banks and coalescing.
-/

namespace Sys2Proof.Machine

def State.fdPix (s : State) (p : Nat) : FdPixel := Tab.get s.fd.pix {} p

def State.setFdPix (s : State) (p : Nat) (x : FdPixel) : State :=
  { s with fd := { s.fd with pix := Tab.set s.fd.pix {} p x } }

/-! ### The descriptor (R145 to R147) -/

def descEn (d : List Score) : Bool := decide ((d.getD 0 0).toNat / 2 ^ 19 = 1)
def descWidth (d : List Score) : Nat := (d.getD 0 0).toNat / 2 ^ 16 % 8
def descSize (d : List Score) : Nat := (d.getD 0 0).toNat / 2 ^ 14 % 4
def descTrace (d : List Score) : Bool := decide ((d.getD 0 0).toNat / 2 ^ 13 % 2 = 1)
/-- The size S in bins. -/
def descS (d : List Score) : Nat := 256 * 2 ^ descSize d
/-- The set count C. -/
def descC (d : List Score) : Nat := (d.getD 0 0).toNat % 4096 + 1
def descBase (d : List Score) : Nat := (d.getD 1 0).toNat % 2 ^ 19
def descWstart (d : List Score) : Nat := (d.getD 2 0).toNat
/-- The first linear address of the footprint and its length in bins (R146). -/
def footStart (d : List Score) : Nat := 64 * descBase d
def footLen (d : List Score) : Nat := 2 * descS d + (if descTrace d then descS d / 4 else 0)
def bufStart (d : List Score) (b : Nat) : Nat := footStart d + b * descS d
def traceStart (d : List Score) (b : Nat) : Nat := footStart d + 2 * descS d + b * (descS d / 8)
/-- R147: WIDTH 7, or a footprint beyond 20,132,658. -/
def descBad (d : List Score) : Bool := decide (descWidth d = 7) || decide (footStart d + footLen d > 20132659)

/-- The descriptor of a pixel as it is in effect for it. -/
def State.descOf (s : State) (p : Nat) : List Score := [s.use p (Reg.FD_DESC0 p), s.use p (Reg.FD_DESC1 p), s.use p (Reg.FD_DESC2 p)]

/-- The profile that EX_PIX_MAP names for a pixel, and its eight registers, as they are in effect for it (R165). -/
def State.profileIx (s : State) (p : Nat) : Nat := (s.use p (Reg.EX_PIX_MAP (p / 5))).toNat / 16 ^ (p % 5) % 16

def State.profileOf (s : State) (p : Nat) : List Score :=
  let j := s.profileIx p
  [Reg.EX_PROF_CFG j, Reg.EX_PROF_Q j, Reg.EX_PROF_BG j, Reg.EX_PROF_THR j, Reg.EX_PROF_VEIL0 j, Reg.EX_PROF_VEIL1 j,
    Reg.EX_PROF_FOR j, Reg.EX_PROF_SAT j].map (s.use p)

/-- SUSPECT marking is active (R157). -/
def State.suspect (s : State) : Bool := s.pw.brace || s.fd.refSwitching

/-! ### Memory (R158, R161) -/

/-- The bank and the cluster of a linear bin address. -/
def bankOf (a : Nat) : Nat := (a + 7 * (a / 1024)) % 1024
def clusterOf (a : Nat) : Nat := bankOf a / 64

def State.bin (s : State) (a : Nat) : Nat := Tab.get s.fd.mem 0 a

def State.setBin (s : State) (a v : Nat) : State := { s with fd := { s.fd with mem := Tab.set s.fd.mem 0 a v } }

/-- Sets every bin of a stretch of memory to 0. -/
def State.zeroBins (s : State) (start len : Nat) : State :=
  { s with fd := { s.fd with mem := ⟨s.fd.mem.cells.filter fun c => decide (c.1 < start) || decide (start + len ≤ c.1)⟩ } }

def readBins (m : Tab Nat) (start len : Nat) : List Nat := (List.range len).map fun i => Tab.get m 0 (start + i)

/-! ### Intervals -/

/-- Changes an interval of a pixel, open or closed. -/
def FdPixel.onInterval (x : FdPixel) (gen : Nat) (f : Interval → Interval) : FdPixel :=
  { x with cur := if x.cur.gen = gen then f x.cur else x.cur
           closed := x.closed.map fun i => if i.gen = gen then f i else i }

/-- Whether an interval is still accumulating or waiting for its release. -/
def FdPixel.has (x : FdPixel) (gen : Nat) : Bool := decide (x.cur.gen = gen) || x.closed.any (fun i => decide (i.gen = gen))

/-- An interval of a pixel opens in a buffer (R32, R152). -/
def State.openInterval (s : State) (p gen buf : Nat) : State :=
  let x := s.fdPix p
  s.setFdPix p { x with isOpen := true, cur :=
    { gen := gen, buf := buf, desc := x.desc, gain := if p < 512 then s.gainNow p else 3, suspect := s.suspect } }

/-- A pixel takes its descriptor (R147, R159): disabled when invalid; its footprint is cleared after a change of BASE, SIZE or TRACE while EN
is 1, or when EN goes from 0 to 1. `written` tells that a live write to the descriptor takes effect now; each one that leaves it invalid is reported. -/
def State.takeDesc (s : State) (p : Nat) (written : Bool) : State :=
  let x := s.fdPix p
  let d := s.descOf p
  let bad := descEn d && descBad d
  let live := descEn d && !bad
  let clear := descEn d && (!descEn x.desc || decide (descBase x.desc ≠ descBase d) || decide (descSize x.desc ≠ descSize d)
    || decide (descTrace x.desc ≠ descTrace d))
  let s := s.setFdPix p { x with live := live, disabled := bad, desc := d, clearing := (x.clearing && descEn d) || clear,
                                 isOpen := x.isOpen && live }
  if bad && (written || !x.disabled) then (s.flag Reg.FD_STAT_LAYOUT_ERR true).raise .foldLayout p 0 else s

/-- Whether a live write to a pixel's descriptor takes effect at a boundary of the pixel that comes now (R35). -/
def State.descWritten (s : State) (p : Nat) : Bool :=
  s.regs.waiting.any fun w => Reg.isDescReg w.addr && s.before w && w.left.contains p

/-- Every accepted write to FD_, EX_ and, for an analog pixel, TL_ takes effect for the pixel (R34, R165). -/
def State.applyPixel (s : State) (p : Nat) : State :=
  s.applyAt fun a u => decide (u = p) && (Reg.isDescReg a || Reg.isProfReg a)

/-- A boundary of a pixel: the accepted writes to FD_ and EX_ take effect for it, and its descriptor is taken. -/
def State.pixelBoundary (s : State) (p : Nat) : State := (s.applyPixel p).takeDesc p (s.descWritten p)

/-- An interval that ends closes (R32, R152), and the next one opens in the other buffer; `again` is false at SCAN_END, where it opens with
the next scan part. Its histogram is extracted with the profile in effect at this boundary (R165): writes that reached the island before it
have taken effect. -/
def State.closeInterval (s : State) (p : Nat) (forced again : Bool) : State :=
  let x := s.fdPix p
  let c := { x.cur with
    endedAt := s.now, frame := s.sq.frameNo, cycle := s.sq.cycles, gain := if p < 512 then s.gainNow p else 3
    cut := forced && decide (x.cur.n < descC x.cur.desc), prof := (s.applyPixel p).profileOf p }
  let s := s.setFdPix p { x with closed := x.closed ++ [c], dirty := c.buf :: x.dirty, isOpen := false,
                                 cur := { gen := c.gen + 1, buf := 1 - c.buf, desc := x.desc } }
  let s := if p < 512 then (s.channelIntervalEnd p c.seqs).rampStep p else s
  let s := s.pixelBoundary p
  if again && (s.fdPix p).live then s.openInterval p (c.gen + 1) (1 - c.buf) else s

/-- The end of a pixel's interval inside a scan part (R153): with the other buffer not clean it is extended instead. -/
def State.intervalEnd (s : State) (p : Nat) : State :=
  let x := s.fdPix p
  if x.dirty.contains (1 - x.cur.buf) then
    if x.cur.ext then s
    else ((s.setFdPix p { x with cur := { x.cur with ext := true } }).inc Reg.FD_HOLD_COUNT).flag Reg.FD_STAT_HOLD_SEEN true
  else s.closeInterval p false true

/-- The pixels Fold has a record of. -/
def State.pixels (s : State) : List Nat := Tab.keys s.fd.pix

/-- The pixels with a waiting write. -/
def State.waitingPixels (s : State) : List Nat :=
  ((s.regs.waiting.filter fun w => Reg.isDescReg w.addr || Reg.isProfReg w.addr || Reg.isTileReg w.addr).flatMap (·.left)).dedup

/-- R495: for a pixel without an interval, writes take effect at the first shot-cycle end or frame boundary; its first interval opens there.
The spec does not say which buffer is current when a disabled pixel is enabled again: the model goes on with the one that R152 made
current when its last interval ended, at first buffer 0 (DEDUCED, log 126). -/
def State.idlePixel (s : State) (p : Nat) : State :=
  if (s.fdPix p).live then s
  else
    let s := if p < 512 then s.channelIdle p else s
    let s := s.pixelBoundary p
    let x := s.fdPix p
    if x.live && s.sq.inScan then s.openInterval p x.cur.gen x.cur.buf else s

/-- The writes that wait for pixels without an interval take effect (R495). -/
def State.idleWrites (s : State) : State := s.waitingPixels.foldl (fun s p => s.idlePixel p) s

/-! ### Shots (R151, R153) -/

/-- How one pixel of the group stands to a shot, and the state with it counted. -/
def State.countShot (s : State) (seq p : Nat) : State × Option Part :=
  let x := s.fdPix p
  if !x.live then (s, some (.disabled p))
  else if x.clearing then (s.inc Reg.FD_RELAYOUT_COUNT, none)
  else if x.dirty.contains x.cur.buf then
    ((s.inc Reg.FD_HOLD_COUNT).flag Reg.FD_STAT_HOLD_SEEN true, none)
  else
    (s.setFdPix p { x with cur := { x.cur with n := x.cur.n + 1, seqs := seq :: x.cur.seqs, tokens := seq :: x.cur.tokens } },
      some (.counted p x.cur.gen x.cur.n))

/-- A descriptor is taken in. The spec does not say for how long Fold knows a shot: the model keeps the last 1,024 in Fold, and the time engine
the last 32, which the shot bits [4:0] of R142 tell apart (DESIGN CHOICE, log 125). -/
def State.takeShot (s : State) (d : ShotDesc) : State :=
  if s.f Reg.FD_CFG_EN = 0 then s
  else
    let acc := d.pixels.foldl (fun (acc : State × List Part) p =>
      let z := acc.1.countShot d.seq p
      (z.1, match z.2 with | some q => acc.2 ++ [q] | none => acc.2)) (s, [])
    let s := acc.1
    let x : FdShot := { seq := d.seq, dither := d.dither, group := d.group, cycle := d.cycle, parts := acc.2 }
    { s with fd := { s.fd with shots := (s.fd.shots ++ [x]).drop (s.fd.shots.length + 1 - 1024) } }

/-- A shot committed before its cycle begins (R131) counts toward the intervals open in that cycle: its descriptor waits for the cycle (DEDUCED, log 128). -/
def State.early (s : State) (d : ShotDesc) : Bool :=
  match s.sq.upcoming with
  | some z => decide (d.start = z.startAt)
  | none => false

/-- SHOT_DESCRIPTOR_RECEIVE (R151): with FD_CFG.EN at 0 no shot is counted. -/
def execShotDescriptorReceive (t : Nat) (s : State) : Host.Outcome State Fault Refusal :=
  s.run t fun s =>
    match s.fd.inbound with
    | [] => s
    | d :: r => if s.early d then s else ({ s with fd := { s.fd with inbound := r } }).takeShot d

/-- By the end of a cycle every descriptor of its shots has reached Fold (R151: ahead of the shot's first event). -/
def State.takeDescs (s : State) : State :=
  let ready := s.fd.inbound.filter fun d => !s.early d
  ready.foldl (fun s d => s.takeShot d) { s with fd := { s.fd with inbound := s.fd.inbound.filter s.early } }

/-- The fold side of a shot-cycle end (R32, R495). -/
def State.foldCycleEnd (s : State) : State :=
  let s := s.takeDescs.idleWrites
  s.pixels.foldl (fun s p =>
    let x := s.fdPix p
    if x.isOpen && decide (descC x.cur.desc ≤ x.cur.n) then s.intervalEnd p else s) s

/-- Every open interval closes, at SCAN_END or when firing stops (R32, R130). -/
def State.closeAll (s : State) (again : Bool) : State :=
  s.pixels.foldl (fun s p => if (s.fdPix p).isOpen then s.closeInterval p true again else s) s

/-- The open intervals that a stop of firing found close (R130). -/
def State.settleStop (s : State) : State :=
  if s.sq.closeDue then ({ s with sq := { s.sq with closeDue := false } }).closeAll s.sq.inScan else s

/-- A command that is an application point: a write that takes effect in it may be a mismatch that stops firing (R430). -/
def State.runAt (s : State) (t : Nat) (f : State → State) : Host.Outcome State Fault Refusal := s.run t fun s => (f s).settleStop

/-- The pixels that a frame boundary looks at: those with a record, a waiting write or a descriptor in the active set. -/
def State.framePixels (s : State) : List Nat :=
  let set : Tab Score := if s.activeB then s.regs.setB else s.regs.setA
  (s.pixels ++ s.waitingPixels ++ (set.keys.filter Reg.isDescReg).map (fun a => a % 65536 / 3)).dedup

/-- The fold side of a frame boundary: the descriptors of a SWAP (R159, R422), idle pixels (R495), and the interval that every histogrammed pixel keeps open throughout the scan part (R32). -/
def State.foldFrameStart (s : State) : State :=
  s.framePixels.foldl (fun s p =>
    let s := s.idlePixel p
    let s := if (s.fdPix p).live then s.takeDesc p false else s
    let x := s.fdPix p
    if x.live && !x.isOpen then s.openInterval p x.cur.gen x.cur.buf else s) s

/-! ### Clearing (R159) -/

/-- FOOTPRINT_CLEAR_END (R159): the footprint holds zeros and the pixel takes part in shots again. -/
def execFootprintClearEnd (t : Nat) (p : Pixel) (s : State) : Host.Outcome State Fault Refusal :=
  s.run t fun s =>
    let x := s.fdPix p
    if x.clearing then (s.setFdPix p { x with clearing := false }).zeroBins (footStart x.desc) (footLen x.desc) else s

/-! ### Events (R141 to R149, R155) -/

/-- The request port of its cluster that an event's request goes to is not stated: a free value. -/
def State.request (s : State) (r : Req) : State :=
  let k := 16 * clusterOf r.addr + (Config.foldPort r.pixel r.addr).val
  { s with fd := { s.fd with ports := Tab.set s.fd.ports [] k (Tab.get s.fd.ports [] k ++ [r]) } }

/-- The header marks of an event (Table 5.2). -/
def markEvent (ovr xtk loss fbs : Bool) (bin : Option Nat) (i : Interval) : Interval :=
  { i with
    ovr := if ovr then satScore (i.ovr + 1) else i.ovr
    ovrBins := match ovr, bin, i.ovrBins with
      | true, some b, some (x, y) => some (min x b, max y b)
      | true, some b, none => some (b, b)
      | _, _, z => z
    xtk := if xtk then satScore (i.xtk + 1) else i.xtk
    loss := i.loss || loss
    fbs := i.fbs || fbs }

/-- The bin of a stamp (R148): below the window, in a bin, or above it. -/
inductive BinAt where
  | under
  | bin (b : Nat)
  | above
  deriving DecidableEq, Repr

def binOf (d : List Score) (stamp dither : Nat) : BinAt :=
  let rel : Int := (stamp : Int) - dither - descWstart d
  if rel < 0 then .under
  else
    let b := (rel / (2 : Int) ^ descWidth d).toNat
    if b ≥ descS d then .above else .bin b

/-- The trace cell of a bin for the k-th counted shot (R148). -/
def traceCell (d : List Score) (k bin : Nat) : Nat := min 3 (4 * k / descC d) * (descS d / 32) + bin / 32

/-- R148: an event of a counted shot is histogrammed. -/
def State.histEvent (s : State) (p gen k stamp dither : Nat) (ovr xtk loss fbs : Bool) : State :=
  let x := s.fdPix p
  let iv := if x.cur.gen = gen then x.cur else (x.closed.find? fun i => decide (i.gen = gen)).getD x.cur
  match binOf iv.desc stamp dither with
  | .under => s.setFdPix p (x.onInterval gen fun i => { markEvent ovr xtk loss fbs none i with under := satScore (i.under + 1) })
  | .above => s.setFdPix p (x.onInterval gen fun i => { markEvent ovr xtk loss fbs none i with above := satScore (i.above + 1) })
  | .bin b =>
    let s := s.setFdPix p (x.onInterval gen (markEvent ovr xtk loss fbs (some b)))
    let s := s.request { addr := bufStart iv.desc iv.buf + b, pixel := p, gen := gen, arrived := s.now }
    if descTrace iv.desc then
      s.request { addr := traceStart iv.desc iv.buf + traceCell iv.desc k b, pixel := p, gen := gen, arrived := s.now }
    else s

/-- An event at the intake (R142 to R144, R155). -/
def State.takeEvent (s : State) (p shot stamp : Nat) (drop ovr xtk loss fbs : Bool) : State :=
  if s.f Reg.FD_CFG_EN = 0 || drop then s
  else
    match s.fd.shots.reverse.find? (fun x => decide (x.seq = shot)) with
    | none => s.inc Reg.FD_ORPHAN_COUNT
    | some x =>
      match x.parts.find? (fun q => match q with | .counted p' _ _ => decide (p' = p) | .disabled p' => decide (p' = p)) with
      | none => s.inc Reg.FD_ORPHAN_COUNT
      | some (.disabled _) => s.inc Reg.FD_DISC_CNT_COUNT
      | some (.counted _ gen k) =>
        if (s.fdPix p).has gen then s.histEvent p gen k stamp x.dither ovr xtk loss fbs
        else s.inc Reg.FD_LATE_COUNT

def Intake.pixel : Intake → Nat
  | .analog p _ _ _ => p
  | .head p _ _ _ _ => p
  | .token p _ => p

/-- The oldest item in flight for a pixel, and the rest. -/
def takeIntake (p : Nat) : List Intake → Option (Intake × List Intake)
  | [] => none
  | x :: r =>
    if x.pixel = p then some (x, r)
    else match takeIntake p r with
      | some (y, r') => some (y, x :: r')
      | none => none

def tagBit (tag : Score) (i : Nat) : Bool := decide (tag.toNat / 2 ^ i % 2 = 1)

/-- EVENT_INTAKE (R142 to R149): the oldest item of the pixel, if it is an event; a token waits for CLOSE_TOKEN_ARRIVAL. -/
def execEventIntake (t : Nat) (p : Pixel) (s : State) : Host.Outcome State Fault Refusal :=
  s.run t fun s =>
    match takeIntake p s.fd.intake with
    | some (.analog _ shot stamp tag, r) =>
      ({ s with fd := { s.fd with intake := r } }).takeEvent p shot stamp.toNat (tagBit tag 10 || tagBit tag 9) (tagBit tag 13)
        (tagBit tag 12) (tagBit tag 5) (tagBit tag 6)
    | some (.head _ shot stamp hsat hloss, r) =>
      ({ s with fd := { s.fd with intake := r } }).takeEvent p shot stamp.toNat false hsat false hloss false
    | _ => s

/-- A close token is recorded for the buffer its shot was counted into (R154). -/
def State.takeToken (s : State) (p shot : Nat) : State :=
  match s.fd.shots.reverse.find? (fun x => decide (x.seq = shot)) with
  | none => s
  | some x =>
    match x.parts.find? (fun q => match q with | .counted p' _ _ => decide (p' = p) | .disabled _ => false) with
    | some (.counted _ gen _) =>
      s.setFdPix p ((s.fdPix p).onInterval gen fun i => { i with tokens := i.tokens.filter (· ≠ shot), lastToken := s.now })
    | _ => s

/-- CLOSE_TOKEN_ARRIVAL (R154). -/
def execCloseTokenArrival (t : Nat) (p : Pixel) (s : State) : Host.Outcome State Fault Refusal :=
  s.run t fun s =>
    match takeIntake p s.fd.intake with
    | some (.token _ shot, r) => ({ s with fd := { s.fd with intake := r } }).takeToken p shot
    | _ => s

/-! ### Release (R154, R156) -/

def bnum (b : Bool) (i : Nat) : Nat := if b then 2 ^ i else 0

/-- The header of Table 5.6. -/
def header (p : Nat) (i : Interval) : List Score :=
  let sc := fun (n : Nat) => (BitVec.ofNat 20 n : Score)
  [sc p,
   sc (i.gain * 2 ^ 18 + i.buf * 2 ^ 17 + descWidth i.desc * 2 ^ 14 + descSize i.desc * 2 ^ 12 + bnum (descTrace i.desc) 11),
   sc (bnum i.ext 5 + bnum i.cut 4 + bnum i.sat 3 + bnum i.loss 2 + bnum i.suspect 1 + bnum i.fbs 0),
   sc (satScore i.n), sc (descWstart i.desc), sc (satScore i.under), sc (satScore i.above), sc (satScore i.ovr),
   sc (match i.ovrBins with | some (a, _) => a | none => scoreMax), sc (match i.ovrBins with | some (_, b) => b | none => scoreMax),
   sc (satScore i.xtk), sc i.cycle]

/-- A closed buffer of a pixel is released to extraction. -/
def State.release (s : State) (p : Nat) (i : Interval) : State :=
  let x := s.fdPix p
  let s := s.setFdPix p { x with closed := x.closed.filter fun j => decide (j.gen ≠ i.gen) }
  let s := if i.sat then s.inc Reg.FD_SAT_CNT_COUNT else s
  { s with ex := { s.ex with released := s.ex.released ++ [{ pixel := p, iv := i, header := header p i, at_ := s.now }] } }

/-- Whether a closed buffer may be released: all its close tokens are in, and 2 µs have passed since the later of its interval end and its last token. -/
def Interval.ripe (i : Interval) (now : Nat) : Bool := i.tokens.isEmpty && decide (max i.endedAt i.lastToken + 2 * lsbUs ≤ now)

/-- Whether a token of a closed buffer is still missing 40 µs after its interval end. -/
def Interval.overdue (i : Interval) (now : Nat) : Bool := !i.tokens.isEmpty && decide (i.endedAt + 40 * lsbUs ≤ now)

/-- BUFFER_RELEASE (R154): the first closed buffer of the pixel that may be released. -/
def execBufferRelease (t : Nat) (p : Pixel) (s : State) : Host.Outcome State Fault Refusal :=
  s.run t fun s =>
    match (s.fdPix p).closed.find? fun i => i.ripe s.now with
    | some i => s.release p i
    | none => s

/-- TOKEN_TIMEOUT (R154): the first closed buffer of the pixel that misses a token for too long. -/
def execTokenTimeout (t : Nat) (p : Pixel) (s : State) : Host.Outcome State Fault Refusal :=
  s.run t fun s =>
    match (s.fdPix p).closed.find? fun i => i.overdue s.now with
    | some i =>
      let s := (s.inc Reg.FD_TOKEN_TMO_COUNT).flag Reg.FD_STAT_TOKEN_TMO_SEEN true
      ({ s with fd := { s.fd with tokenTmoFrame := s.fd.tokenTmoFrame + 1 } }).release p { i with loss := true }
    | none => s

/-- SUSPECT_END (R27, R157): 1 ms after REF_SWITCH, or after lock on the reference taken. -/
def execSuspectEnd (t : Nat) (s : State) : Host.Outcome State Fault Refusal :=
  s.run t fun s =>
    match s.fd.suspectUntil with
    | some x => if x ≤ s.now then { s with fd := { s.fd with refSwitching := false, suspectUntil := none } } else s
    | none => s

/-- Every interval open now is marked SUSPECT (R157). -/
def State.markSuspect (s : State) : State :=
  s.pixels.foldl (fun s p =>
    let x := s.fdPix p
    if x.isOpen then s.setFdPix p { x with cur := { x.cur with suspect := true } } else s) s

/-! ### Coalescing (R161 to R163) -/

/-- The cycle of Fold's clock that runs now, from 1 (R463: divided with the die domain's step). -/
def State.fdCycle (s : State) : Nat := s.cycleOf Reg.FD_CFG s.now + 1

/-- The places with a rate in Fold's clock: a port, a bank's intake, a bank's memory. -/
def portPlace (k port : Nat) : Nat := 16 * k + port
def bankIn (b : Nat) : Nat := 256 + b
def bankMem (b : Nat) : Nat := 1280 + b

/-- Whether a place may still pass something in this cycle, of which it passes at most `n` in one. -/
def State.fdMay (s : State) (u n : Nat) : Bool :=
  let x := Tab.get s.fd.rate (0, 0) u
  decide (x.1 ≠ s.fdCycle) || decide (x.2 < n)

/-- A place has passed something. -/
def State.fdPass (s : State) (u : Nat) : State :=
  let x := Tab.get s.fd.rate (0, 0) u
  { s with fd := { s.fd with rate := Tab.set s.fd.rate (0, 0) u (s.fdCycle, if x.1 = s.fdCycle then x.2 + 1 else 1) } }

/-- COALESCE_ENTRY (R161, R162, R464): the oldest request at a port merges, takes a free entry, or waits. In one cycle a port passes one request
and a bank takes four. An entry that merges the requests of two pixels with overlapping footprints keeps the first one's pixel, whose header
then gets SAT; the spec does not say whose (DESIGN CHOICE, log 149). -/
def execCoalesceEntry (t : Nat) (k : FoldCluster) (port : Fin 16) (s : State) : Host.Outcome State Fault Refusal :=
  s.run t fun s =>
    let key := 16 * k.val + port.val
    match Tab.get s.fd.ports [] key, s.fdMay (portPlace k port) 1 with
    | [], _ | _, false => s
    | r :: rest, true =>
      let b := bankOf r.addr
      let q := Tab.get s.fd.coal [] b
      let took := { ((s.fdPass (portPlace k port)).fdPass (bankIn b)) with fd :=
        { ((s.fdPass (portPlace k port)).fdPass (bankIn b)).fd with ports := Tab.set s.fd.ports [] key rest } }
      if !s.fdMay (bankIn b) 4 then s
      else if q.any fun e => decide (e.addr = r.addr) && decide (e.count < 255) then
        let q' := q.map fun e => if e.addr = r.addr ∧ e.count < 255 then { e with count := e.count + 1 } else e
        ({ took with fd := { took.fd with coal := Tab.set took.fd.coal [] b q' } }).inc (Reg.FD_CL_MERGE_COUNT k)
      else if q.length < 16 then
        let q' := q ++ [{ addr := r.addr, count := 1, pixel := r.pixel, gen := r.gen }]
        let s := { took with fd := { took.fd with coal := Tab.set took.fd.coal [] b q' } }
        s.setH (Reg.FD_CL_PEAK_PEAK k) (max (s.h (Reg.FD_CL_PEAK_PEAK k)) q'.length)
      else if Tab.get s.fd.stallAt 0 k = s.fdCycle then s
      else ({ s with fd := { s.fd with stallAt := Tab.set s.fd.stallAt 0 k s.fdCycle } }).inc (Reg.FD_CL_STALL_COUNT k)

/-- BANK_RMW (R150, R161, R464): the oldest entry of the bank is added and freed, one in a cycle. -/
def execBankRmw (t : Nat) (bank : Fin 1024) (s : State) : Host.Outcome State Fault Refusal :=
  s.run t fun s =>
    match Tab.get s.fd.coal [] bank, s.fdMay (bankMem bank) 1 with
    | [], _ | _, false => s
    | e :: q, true =>
      let s := s.fdPass (bankMem bank)
      let sum := s.bin e.addr + e.count
      let s := { s with fd := { s.fd with coal := Tab.set s.fd.coal [] bank q } }
      let s := s.setBin e.addr (satScore sum)
      if sum > scoreMax then s.setFdPix e.pixel ((s.fdPix e.pixel).onInterval e.gen fun i => { i with sat := true }) else s

/-- AGE_DROP (R163): a request that has waited 1.8 µs is discarded. -/
def execAgeDrop (t : Nat) (k : FoldCluster) (port : Fin 16) (s : State) : Host.Outcome State Fault Refusal :=
  s.run t fun s =>
    let key := 16 * k.val + port.val
    match Tab.get s.fd.ports [] key with
    | [] => s
    | r :: rest =>
      if r.arrived + 230400 ≤ s.now then
        let s := { s with fd := { s.fd with ports := Tab.set s.fd.ports [] key rest, dropFrame := s.fd.dropFrame + 1 } }
        let s := (s.inc Reg.FD_AGE_DROP_COUNT).flag Reg.FD_STAT_DROP_SEEN true
        s.setFdPix r.pixel ((s.fdPix r.pixel).onInterval r.gen fun i => { i with loss := true })
      else s

/-- FD_CFG.CNT_CLR (R164). -/
def State.fdCntClr (s : State) : State :=
  s.clear ([Reg.FD_ORPHAN_COUNT, Reg.FD_DISC_CNT_COUNT, Reg.FD_PIX_ERR_COUNT, Reg.FD_LATE_COUNT, Reg.FD_HOLD_COUNT, Reg.FD_AGE_DROP_COUNT,
    Reg.FD_RELAYOUT_COUNT, Reg.FD_SAT_CNT_COUNT, Reg.FD_TOKEN_TMO_COUNT]
    ++ (List.range 16).flatMap fun k => [Reg.FD_CL_STALL_COUNT k, Reg.FD_CL_MERGE_COUNT k, Reg.FD_CL_PEAK_PEAK k])

/-- FD_CNT_CLR (R164). -/
def execFdCntClr (t : Nat) (s : State) : Host.Outcome State Fault Refusal := s.run t fun s => s.fdCntClr

end Sys2Proof.Machine
end

