-- ==== Sys2Proof/Machine/Lanes.lean ====
section
/-!
DEFINITION. Serial lanes (11_lanes_physical.md): links of lanes, markers, scrambling, training, rate matching, electrical idle,
deep sleep, BASE-R, and the packet stream that a link delivers (R298 to R300).
-/

namespace Sys2Proof.Machine

def State.lane (s : State) (l : Nat) : LaneState := Tab.get s.ln {} l

def State.setLane (s : State) (l : Nat) (x : LaneState) : State := { s with ln := Tab.set s.ln {} l x }

/-! ### Modes, groups and links (R289, R294, R295) -/

/-- MODE in effect of a lane: 0 Frezen Link, 1 25GBASE-R, 2 10GBASE-R; an invalid one acts as 0. -/
def State.laneMode (s : State) (l : Nat) : Nat :=
  let m := s.fu (l / 4) (Reg.LN_QUAD_CFG_MODE (l / 4))
  if m = 3 ∨ l < 128 then 0 else m

/-- GROUP in effect: 5 to 7 act as 0, and so does any GROUP in BASE-R mode. -/
def State.laneGroup (s : State) (l : Nat) : Nat :=
  let g := s.fu (l / 4) (Reg.LN_QUAD_CFG_GROUP (l / 4))
  if g ≥ 5 ∨ s.laneMode l ≠ 0 then 0 else g

/-- The lowest lane of a lane's link, and the link's width. -/
def State.linkOf (s : State) (l : Nat) : Nat × Nat :=
  let b := l / 4 * 4
  let i := l % 4
  match s.laneGroup l with
  | 1 => (b + i / 2 * 2, 2)
  | 2 => (b, 4)
  | 3 => if i < 2 then (b, 2) else (l, 1)
  | 4 => if i ≥ 2 then (b + 2, 2) else (l, 1)
  | _ => (l, 1)

/-- The lanes of a lane's link. -/
def State.linkLanes (s : State) (l : Nat) : List Nat := (List.range (s.linkOf l).2).map fun i => (s.linkOf l).1 + i

def State.laneSt (s : State) (l : Nat) : Nat := s.h (Reg.LN_LANE_STAT_STATE l)

/-- The first lane of a lane's quad. -/
def quadLane (l : Nat) : Nat := l / 4 * 4

/-- The lanes of a quad. -/
def quadLanes (q : Nat) : List Nat := [4 * q, 4 * q + 1, 4 * q + 2, 4 * q + 3]

/-- Whether the reference that a quad uses has not failed (R273). -/
def State.quadRefOk (s : State) (q : Nat) : Bool :=
  let x := s.lane (4 * q)
  if s.h (Reg.LN_QUAD_STAT_REF_NOW q) = 0 then !x.badA else !x.badB

/-- The PLL of a quad runs, in lock, with a good reference (R273) unless every lane is DEEP or OFF (R293). -/
def State.pllLock (s : State) (q : Nat) : State :=
  s.setH (Reg.LN_QUAD_STAT_LOCK q) (if s.quadRefOk q && (quadLanes q).any fun l => s.laneSt l != 0 && s.laneSt l != 10 then 1 else 0)

/-- A lane enters a state of Table 11.4; consumers behind it may no longer be reached (R365). -/
def State.toLane (s : State) (l st : Nat) : State :=
  (((s.setH (Reg.LN_LANE_STAT_STATE l) st).setLane l { s.lane l with since := s.now }).pllLock (l / 4)).dropDown

/-- A link leaves UP (R306): the time counts toward DOWN_HOLD. What waited is lost, but for the HCFG that the head is owed (R312). -/
def State.linkLost (s : State) (l : Nat) : State :=
  let b := (s.linkOf l).1
  let k := s.link b
  if k.up then
    (s.setLink b { k with
      up := false, since := s.now, partial_ := [], partialBad := false, ignoring := false, resync := false, rxSeq := none
      queue := (k.current.toList ++ k.queue).filter fun p => p.kind == 14, current := none, sending := [] }).dropDown
  else s

/-- A link enters UP: the CAPS exchange begins (R301). -/
def State.linkUp (s : State) (l : Nat) : State :=
  let b := (s.linkOf l).1
  s.setLink b { s.link b with
    up := true, since := s.now, width := (s.linkOf l).2, capsGot := false, capsDone := false, refused := false, capsAt := none, helloAt := none
    txSeq := 0, rxSeq := none }

/-- One lane goes DOWN to train at 6.4 Gbit/s (R286). -/
def State.trainLane (s : State) (l : Nat) : State :=
  if s.laneSt l = 0 then s
  else
    let s := s.setLane l { s.lane l with
      rxT0 := none, peer := none, go := false, goSent := 0, mismatch := false, missed := 0, rxSeq := none, frames := [], woke := false, fillSeen := false }
    let s := (s.flag (Reg.LN_LANE_STAT_PEER_IDLE l) false).setH (Reg.LN_LANE_STAT_RATE l) (if s.laneMode l = 0 then 0 else 3)
    s.toLane l 1

/-- Whether a write of LN_LANE_CFG changes a field that waits for training (R291). -/
def trainingFields (l : Nat) (v : Score) : List Nat :=
  [(Reg.LN_LANE_CFG_RATES l).of v, (Reg.LN_LANE_CFG_FEC l).of v, (Reg.LN_LANE_CFG_RX_INV l).of v, (Reg.LN_LANE_CFG_TX_INV l).of v]

/-- Whether a write to LN_QUAD_CFG with a new MODE, REFSEL or GROUP waits for a lane of the quad to train (R291). -/
def State.quadPending (s : State) (q : Nat) : Bool :=
  let fields (v : Score) : List Nat := [(Reg.LN_QUAD_CFG_MODE q).of v, (Reg.LN_QUAD_CFG_REFSEL q).of v, (Reg.LN_QUAD_CFG_GROUP q).of v]
  decide (fields (s.reaching q (Reg.LN_QUAD_CFG q)) ≠ fields (s.use q (Reg.LN_QUAD_CFG q)))

/-- A new quad configuration: an invalid MODE or GROUP sets CFG_ERR (R295, Table 11.9). -/
def State.quadCheck (s : State) (q : Nat) : State :=
  let m := s.fu q (Reg.LN_QUAD_CFG_MODE q)
  let s := (s.setH (Reg.LN_QUAD_STAT_REF_NOW q) (s.fu q (Reg.LN_QUAD_CFG_REFSEL q))).pllLock q
  if m = 3 ∨ (m ≠ 0 ∧ q < 32) ∨ s.fu q (Reg.LN_QUAD_CFG_GROUP q) ≥ 5 then s.flag (Reg.LN_QUAD_STAT_CFG_ERR q) true else s

/-- The waiting fields of a quad take effect as it trains. -/
def State.applyQuad (s : State) (q : Nat) : State :=
  let s' := s.applyAt fun a u => decide (a = Reg.LN_QUAD_CFG q) && decide (u = q)
  if s.quadPending q then s'.quadCheck q else s'

/-- The fields of a lane that wait for its training take effect (Table 1.6). -/
def State.applyTraining (s : State) (l : Nat) : State := s.applyAt fun a u => decide (a = Reg.LN_LANE_CFG l) && decide (u = l)

/-- A lane whose EN is 0 is OFF; one that leaves OFF is DOWN. -/
def State.enabled (s : State) (l : Nat) : State :=
  if s.fu l (Reg.LN_LANE_CFG_EN l) = 0 then (if s.laneSt l = 0 then s else (s.linkLost l).toLane l 0)
  else if s.laneSt l = 0 then s.toLane l 1
  else s

/-- Lanes go DOWN and train (R289, R291): with a new MODE, REFSEL or GROUP all four lanes of the quad train together, and with a lane of an UP
link every lane of the link. -/
def State.train (s : State) (lanes : List Nat) : State :=
  let q := (lanes.headD 0) / 4
  let all := if s.quadPending q then quadLanes q else lanes
  let s := (all.foldl (fun s l => s.linkLost l) s).applyQuad q
  all.foldl (fun s l => ((s.applyTraining l).enabled l).trainLane l) s

/-- The lanes that go DOWN with a lane (R289): an UP link whole, else the lane alone. -/
def State.fallsWith (s : State) (l : Nat) : List Nat :=
  if s.laneSt l = 8 ∨ s.laneSt l = 9 then (s.linkLanes l).filter fun d => s.laneSt d == 8 || s.laneSt d == 9 else [l]

/-- LN_LANE_CFG.EN is looked at after a change: 0 is OFF, and the rest of an UP link trains (R289); 1 leaves OFF for DOWN. -/
def State.laneEnable (s : State) (l : Nat) : State :=
  let rest := (s.fallsWith l).filter (· ≠ l)
  let off := s.fu l (Reg.LN_LANE_CFG_EN l) == 0
  let s := s.enabled l
  if off && !rest.isEmpty then s.train rest else s

/-! ### Training (R286 to R291) -/

/-- Whether a lane's quad has its PLL in lock (R273). -/
def State.quadLive (s : State) (l : Nat) : Bool := s.h (Reg.LN_QUAD_STAT_LOCK (l / 4)) == 1

/-- A write that takes effect when a lane trains waits for it (R291). -/
def State.trainPending (s : State) (l : Nat) : Bool :=
  s.regs.waiting.any (fun w => decide (w.addr = Reg.LN_QUAD_CFG (l / 4)) || decide (w.addr = Reg.LN_LANE_CFG l))
    || s.regs.stale.any fun x => decide (x.addr = Reg.LN_QUAD_CFG (l / 4)) || decide (x.addr = Reg.LN_LANE_CFG l)

/-- LANE_ENERGY_DETECT (R291, R480): training begins, and what waits for it takes effect. -/
def execLaneEnergyDetect (t : Nat) (l : Lane) (s : State) : Host.Outcome State Fault Refusal :=
  s.runAt t fun s =>
    if s.laneSt l = 1 ∧ s.laneMode l = 0 ∧ s.quadLive l = true then
      let s := if s.trainPending l then s.train [l] else s
      if s.laneSt l = 1 ∧ s.laneMode l = 0 ∧ s.quadLive l = true then s.toLane l 2 else s
    else s

/-- LANE_CLOCK_LOCK (Table 11.4): through LOCK into ALIGN, with the partner's frequency offset measured. -/
def execLaneClockLock (t : Nat) (l : Lane) (ppm : Score) (s : State) : Host.Outcome State Fault Refusal :=
  s.runAt t fun s => if s.laneSt l = 2 ∨ s.laneSt l = 3 then (s.setH (Reg.LN_PPM_PPM l) ppm.toNat).toLane l 4 else s

/-- The TYPE of a marker that is valid as it stands (R280). -/
def markerType (m : Score) : Option Nat :=
  let ty := m.toNat / 2 ^ 8 % 16
  let seq := m.toNat / 2 ^ 4 % 16
  if m.toNat / 2 ^ 12 = 0xE1 ∧ m.toNat % 16 = 15 - (ty ^^^ seq) ∧ ty ≤ 5 then some ty else none

/-- SEQ of a marker. -/
def markerSeq (m : Score) : Nat := m.toNat / 2 ^ 4 % 16

/-- A marker (Table 11.1). -/
def markerScore (ty seq : Nat) : Score := BitVec.ofNat 20 (0xE1 * 2 ^ 12 + ty * 2 ^ 8 + seq * 2 ^ 4 + (15 - (ty ^^^ seq)))

/-- The bits of a score on the line, bit 19 first (R275), and the score of 20 bits. -/
def scoreBits (v : Score) : List Bool := (List.range 20).map fun i => v.getLsbD (19 - i)
def bitsScore (bs : List Bool) : Score := BitVec.ofNat 20 (bs.foldl (fun n b => 2 * n + b.toNat) 0)

/-- The whole scores of a run of bits. -/
def scoresOf : Nat → List Bool → List Score
  | 0, _ => []
  | n + 1, bs => bitsScore (bs.take 20) :: scoresOf n (bs.drop 20)

def lineScores (bs : List Bool) : List Score := scoresOf (bs.length / 20) bs

/-- A run of equal line bits goes on or begins anew. -/
def runStep (run : Bool × Nat) (b : Bool) : Bool × Nat := if run.2 > 0 ∧ run.1 = b then (b, run.2 + 1) else (b, 1)

/-- The receiver removes the bit after 11 equal line bits (R277): the other bits, the run, bits removed, code violations. -/
def destuff : Bool × Nat → List Bool → List Bool × (Bool × Nat) × Nat × Nat
  | run, [] => ([], run, 0, 0)
  | run, b :: r =>
    if run.2 ≥ 11 then
      let x := destuff (b, 1) r
      (x.1, x.2.1, x.2.2.1 + 1, x.2.2.2 + (if b = run.1 then 1 else 0))
    else
      let x := destuff (runStep run b) r
      (b :: x.1, x.2)

/-- The transmitter inserts a bit of the opposite value after 11 equal line bits (R276): the line bits and the run. -/
def stuff : Bool × Nat → List Bool → List Bool × (Bool × Nat)
  | run, [] => ([], run)
  | run, b :: r =>
    let run' := runStep run b
    if run'.2 = 11 then
      let x := stuff (!b, 1) r
      (b :: (!b) :: x.1, x.2)
    else
      let x := stuff run' r
      (b :: x.1, x.2)

/-- A score with every bit complemented where the polarity is inverted. -/
def polar (inv : Bool) (v : Score) : Score := if inv then ~~~v else v

/-- The place of the marker after one of a TYPE (R280): 4 scores after FILL, 64 after the others. -/
def blockLen (ty : Nat) : Nat := if ty = 1 then 4 else 64

/-- Three valid markers of one polarity, each where the one before predicts it, from the first of the bits on (R280). -/
def alignedAt (inv : Bool) (bs : List Bool) : Bool :=
  let m (i : Nat) : Option Nat := if bs.length < 20 * i + 20 then none else markerType (polar inv (bitsScore ((bs.drop (20 * i)).take 20)))
  match m 0 with
  | none => false
  | some a =>
    match m (blockLen a) with
    | none => false
    | some b => (m (blockLen a + blockLen b)).isSome

/-- The search over the bit offsets: whether the first alignment found is complemented, and the bits from there on. -/
def findAlignment : List Bool → Option (Bool × List Bool)
  | [] => none
  | b :: r => if alignedAt false (b :: r) then some (false, b :: r) else if alignedAt true (b :: r) then some (true, b :: r) else findAlignment r

/-- Line bits reach a receiver (R277): the bits left after stuff bits are removed. -/
def State.receiveBits (s : State) (l : Nat) (line : List Bool) : State × List Bool :=
  let x := destuff (s.lane l).rxRun line
  (((s.setLane l { s.lane l with rxRun := x.2.1 }).add (Reg.LN_STUFF_CNT_COUNT l) x.2.2.1).add (Reg.LN_CV_CNT_COUNT l) x.2.2.2, x.1)

/-- Descrambles one score from a history of 31 line bits: d_n = s_n xor s_n-28 xor s_n-31, bit 19 first. -/
def descrambleBits : Nat → Nat → Nat → Nat → Nat × Nat
  | 0, _, hist, out => (out, hist)
  | n + 1, v, hist, out =>
    let b := v / 2 ^ n % 2
    let d := (b + hist / 2 ^ 27 % 2 + hist / 2 ^ 30 % 2) % 2
    descrambleBits n v (hist % 2 ^ 30 * 2 + b) (2 * out + d)

def descramble : Nat → List Score → List Score × Nat
  | hist, [] => ([], hist)
  | hist, v :: r =>
    let x := descrambleBits 20 v.toNat hist 0
    let y := descramble x.2 r
    (BitVec.ofNat 20 x.1 :: y.1, y.2)

/-- The descrambler's history after the payload of blocks that stand one behind the other (R275): fill scores do not advance it. -/
def descrBlocks : Nat → Nat → List Score → Nat
  | n + 1, hist, m :: r =>
    let k := match markerType m with | some ty => blockLen ty - 1 | none => 63
    descrBlocks n (if markerType m = some 1 then hist else (descramble hist (r.take k)).2) (r.drop k)
  | _, hist, _ => hist

/-- LANE_ALIGN (R280): three markers found in the line bits; OFFER at the first alignment of a training, DESKEW after the rate switch. -/
def execLaneAlign (t : Nat) (l : Lane) (m1 m2 m3 : List Bool) (s : State) : Host.Outcome State Fault Refusal :=
  s.runAt t fun s =>
    if s.laneSt l ≠ 4 then s
    else
      let r := s.receiveBits l (m1 ++ m2 ++ m3)
      let s := r.1
      match findAlignment r.2 with
      | none => s
      | some (inv, bs) =>
        let s := (s.flag (Reg.LN_LANE_STAT_RX_INV_DET l) inv).setLane l
          { s.lane l with missed := 0, descr := descrBlocks 3 (s.lane l).descr ((lineScores bs).map (polar inv)) }
        s.toLane l (if (s.lane l).go then 7 else 5)

/-- The rates of an offer as a mask with bit 0 for 6.4, bit 1 for 12.8, bit 2 for 25.6 Gbit/s, and the other fields of a T0 (Table 11.5). -/
def readT0 (v : Score) : T0 :=
  let x := v.toNat
  { rates := x / 2 ^ 17 % 8, idx := x / 2 ^ 15 % 4, width := x / 2 ^ 13 % 4, locked := decide (x / 2 ^ 12 % 2 = 1)
    go := decide (x / 2 ^ 11 % 2 = 1), chosen := x / 2 ^ 9 % 4 }

/-- The highest rate of a mask: 0, 1, 2; none of an empty one. -/
def highestRate (m : Nat) : Option Nat := if m / 4 % 2 = 1 then some 2 else if m / 2 % 2 = 1 then some 1 else if m % 2 = 1 then some 0 else none

def State.ownRates (s : State) (l : Nat) : Nat := s.fu l (Reg.LN_LANE_CFG_RATES l)

/-- The code of a link's width in a T0. -/
def widthCode (w : Nat) : Nat := if w = 4 then 2 else w - 1

/-- The T0 that a lane sends (R286, R287): RX_LOCKED while it is aligned, GO and the rate once it has chosen. -/
def State.ownT0 (s : State) (l : Nat) : Score :=
  let k := s.linkOf l
  let x := s.lane l
  let locked := decide (5 ≤ s.laneSt l)
  BitVec.ofNat 20 (s.ownRates l * 2 ^ 17 + (l - k.1) * 2 ^ 15 + widthCode k.2 * 2 ^ 13 + locked.toNat * 2 ^ 12 + x.go.toNat * 2 ^ 11
    + (if x.go then x.chosen else 0) * 2 ^ 9)

/-- A mismatch holds the lane in OFFER (R287, R288); it is reported when it begins. -/
def State.laneMismatch (s : State) (l why : Nat) : State :=
  let s := s.flag (Reg.LN_LANE_STAT_MISMATCH l) true
  if (s.lane l).mismatch then s else (s.setLane l { s.lane l with mismatch := true }).raise .laneCfg l why

/-- TRAINING_SCORE (R286 to R288): the T0 of the last TRAIN superframe, `t0`, is looked at. -/
def execTrainingScore (t : Nat) (l : Lane) (t0 : Score) (s : State) : Host.Outcome State Fault Refusal :=
  s.runAt t fun s =>
    if (s.lane l).rxT0 ≠ some t0 then s
    else
      let x := readT0 t0
      let s := s.setLane l { s.lane l with rxT0 := none, peer := some x }
      if s.laneSt l ≠ 5 then s
      else
        let k := s.linkOf l
        if x.width ≠ widthCode k.2 then s.laneMismatch l 2
        else if x.idx ≠ l.val - k.1 then s.laneMismatch l 3
        else
          let lanes := s.linkLanes l
          let peers := lanes.map fun d => (s.lane d).peer
          if peers.any (·.isNone) then s
          else
            let mask := (lanes.map s.ownRates ++ peers.map fun p => (p.map (·.rates)).getD 0).foldl (· &&& ·) 7
            match highestRate mask with
            | none => s.laneMismatch l 1
            | some r =>
              let s := s.setLane l { s.lane l with mismatch := false }
              if x.locked then
                let s := (s.setLane l { s.lane l with chosen := r, go := true, goSent := 0 }).toLane l 6
                if (highestRate (s.ownRates l)).any (fun h => decide (r < h)) then s.raise .laneRate l r else s
              else s

/-- LANE_RATE_SWITCH (R287): after 8 TRAIN superframes with GO, back to LOCK at the chosen rate, or on to DESKEW at 6.4 Gbit/s. -/
def execLaneRateSwitch (t : Nat) (l : Lane) (s : State) : Host.Outcome State Fault Refusal :=
  s.runAt t fun s =>
    if s.laneSt l = 6 ∧ (s.lane l).goSent ≥ 8 then
      let r := (s.lane l).chosen
      (s.setH (Reg.LN_LANE_STAT_RATE l) r).toLane l (if r = 0 then 7 else 3)
    else s

/-- The time of a line bit at a RATE (R285), and of a score, in LSB. -/
def bitTime (rate : Nat) : Nat := match rate with | 0 => 20 | 1 => 10 | _ => 5

def State.scoreTime (s : State) (l : Nat) : Nat := 20 * bitTime (s.h (Reg.LN_LANE_STAT_RATE l))

/-- When the superframe of a lane's SEQ `seq` began on it, from its last one (R289). -/
def State.seqAt (s : State) (l seq last : Nat) : Int :=
  let ahead := ((seq : Int) - last + 8) % 16 - 8
  ((s.lane l).rxAt : Int) + ahead * (64 * s.scoreTime l)

/-- The skew of a link's lanes in LSB: how far markers of one SEQ lie apart; none before every lane has received one. -/
def State.skew (s : State) (lanes : List Nat) : Option Nat :=
  match lanes.mapM fun d => (s.lane d).rxSeq.map fun q => (d, q) with
  | some ((d, q) :: r) =>
    let ts := ((d, q) :: r).map fun x => s.seqAt x.1 q x.2
    let t0 := s.seqAt d q q
    some ((ts.foldl max t0) - (ts.foldl min t0)).toNat
  | _ => none

/-- A link enters UP: its elastic buffers are set to 16 scores (R282). -/
def State.lanesUp (s : State) (lanes : List Nat) : State :=
  lanes.foldl (fun s d =>
    (((s.toLane d 8).setH (Reg.LN_EB_FILL d) 16).flag (Reg.LN_LANE_STAT_PEER_IDLE d) false).setLane d
      { (s.toLane d 8).lane d with frames := [], fills := 0, decided := 0, fillDec := 0, fillSeen := false }) s

/-- DESKEW_DONE (R282, R289): the lanes' markers are matched by SEQ; with at most 16 scores of skew the link enters UP.
`skew` is the one found, in LSB; on a link of several lanes it is what the instants of their markers show. -/
def execDeskewDone (t : Nat) (l : Lane) (skew : Nat) (s : State) : Host.Outcome State Fault Refusal :=
  s.runAt t fun s =>
    let lanes := s.linkLanes l
    if lanes.all fun d => s.laneSt d == 7 then
      match s.skew lanes with
      | none => if lanes.length = 1 then (s.lanesUp lanes).linkUp l else s
      | some x => if x ≠ skew then s else if x > 16 * s.scoreTime l then s.train lanes else (s.lanesUp lanes).linkUp l
    else s

/-- TRAINING_TIMEOUT (R291). -/
def execTrainingTimeout (t : Nat) (l : Lane) (s : State) : Host.Outcome State Fault Refusal :=
  s.runAt t fun s =>
    if 2 ≤ s.laneSt l ∧ s.laneSt l ≤ 7 ∧ (s.lane l).since + lsbMs < s.now then (s.train [l]).inc (Reg.LN_RETRY_COUNT l) else s

/-- LN_LANE_CTL.RETRAIN (R291, R293): DOWN at once from any state except OFF; a link that was UP goes DOWN whole (R289). -/
def State.laneRetrain (s : State) (l : Nat) : State := if s.laneSt l = 0 then s else s.train (s.fallsWith l)

/-- RETRAIN (R291). -/
def execRetrain (t : Nat) (l : Lane) (s : State) : Host.Outcome State Fault Refusal := s.runAt t fun s => s.laneRetrain l

/-- An unannounced loss (R290). -/
def State.laneLoss (s : State) (l : Nat) : State :=
  ((s.inc (Reg.LN_DOWN_CNT_COUNT l)).flag (Reg.LN_LANE_STAT_DOWN_SEEN l) true).raise .laneDown l 0

/-- LANE_DOWN (R289, R290): an announced stop is no loss. -/
def execLaneDown (t : Nat) (l : Lane) (s : State) : Host.Outcome State Fault Refusal :=
  s.runAt t fun s =>
    if (s.laneSt l = 8 ∨ s.laneSt l = 9) ∧ s.h (Reg.LN_LANE_STAT_PEER_IDLE l) = 0 ∧ s.laneMode l = 0 then
      (s.laneLoss l).train (s.fallsWith l)
    else s

/-! ### Sending (R275, R276, R278, R279, R285, R298) -/

/-- Scrambles one score with a history of 31 line bits: s_n = d_n xor s_n-28 xor s_n-31, bit 19 first. -/
def scrambleBits : Nat → Nat → Nat → Nat → Nat × Nat
  | 0, _, hist, out => (out, hist)
  | n + 1, v, hist, out =>
    let b := (v / 2 ^ n % 2 + hist / 2 ^ 27 % 2 + hist / 2 ^ 30 % 2) % 2
    scrambleBits n v (hist % 2 ^ 30 * 2 + b) (2 * out + b)

def scramble : Nat → List Score → List Score × Nat
  | hist, [] => ([], hist)
  | hist, v :: r =>
    let x := scrambleBits 20 v.toNat hist 0
    let y := scramble x.2 r
    (BitVec.ofNat 20 x.1 :: y.1, y.2)

/-- A block goes out on a lane: `scores` as they are, `coded` as they are scrambled. It starts when the block before it ends; each 20 stuff
bits hold the scores of the link layer back for one score time (R276). -/
def State.putBlock (s : State) (l : Nat) (scores coded : List Score) : State :=
  let x := s.lane l
  let bits := coded.flatMap scoreBits
  let y := stuff x.txRun bits
  let extra := x.txStuff + (y.1.length - bits.length)
  let start := max s.now x.txEnd
  let inv := s.fu l (Reg.LN_LANE_CFG_TX_INV l) == 1
  (s.setLane l { x with
      txRun := y.2, txStuff := extra % 20, held := x.held + extra / 20, spacing := x.spacing + coded.length + extra / 20
      txEnd := start + y.1.length * bitTime (s.h (Reg.LN_LANE_STAT_RATE l)), txStamp := s.nodeAt start }).send
    (.block l scores (if inv then y.1.map (!·) else y.1))

/-- A superframe of a TYPE with its payload goes out on a lane (R275, R278). -/
def State.putFrame (s : State) (l ty seq : Nat) (payload : List Score) : State :=
  let m := markerScore ty seq
  let y := scramble (s.lane l).scram payload
  let s := s.setLane l { s.lane l with scram := y.2, txSeq := (seq + 1) % 16, sinceFill := (s.lane l).sinceFill + 1 }
  s.putBlock l (m :: payload) (m :: y.1)

/-- A FILL block goes out on a lane (R278). -/
def State.putFill (s : State) (l : Nat) : State :=
  let fill : List Score := [0xE110E, 0xA5A5A, 0xA5A5A, 0xA5A5A]
  (s.setLane l { s.lane l with sinceFill := 0, spacing := 0 }).putBlock l fill fill

/-- The lanes of a link that send: from DOWN to UP in Frezen Link mode with the PLL in lock (Table 11.4). -/
def State.sendingLanes (s : State) (l : Nat) : List Nat :=
  (s.linkLanes l).filter fun d => decide (1 ≤ s.laneSt d) && decide (s.laneSt d ≤ 8) && s.laneMode d == 0 && s.quadLive d

/-- Whether a SHOT to a link's head can be due: the head is ALIGNED and a scan part runs (R312, R316). -/
def State.shotsDue (s : State) (b : Nat) : Bool :=
  s.sq.inScan && (List.range 48).any fun h => (s.head h).attached.isSome && decide ((s.head h).lane = b) && s.h (Reg.FL_HEAD_STAT_ALIGNED h) == 1

/-- Whether a waiting packet may go now: before the CAPS exchange is complete only CAPS (R302); while a SHOT can be due no HCFG and no packet
with LEN above 8 (R312). -/
def Link.may (k : Link) (shots : Bool) (p : Outgoing) : Bool :=
  if k.capsDone && !k.refused then !(shots && (p.kind == 14 || decide (8 < p.body.length))) else p.kind == 1

/-- The next score of a link's stream, with the packet that begins with it: packets, which take their PSEQ as they are sent (R299), else IDLE
(R298). -/
def Link.pull (k : Link) (shots : Bool) : (Score × Option (List Score)) × Link :=
  match k.sending with
  | v :: r => ((v, none), { k with sending := r, current := if r.isEmpty then none else k.current })
  | [] =>
    match k.queue.find? (k.may shots) with
    | some x =>
      let p := packetScores x.kind k.txSeq x.body
      ((p.headD 0, some p), { k with sending := p.drop 1, current := some x, queue := k.queue.erase x, txSeq := (k.txSeq + 1) % 256 })
    | none => ((0, none), k)

def Link.pullN (shots : Bool) : Nat → Link → List (Score × Option (List Score)) × Link
  | 0, k => ([], k)
  | n + 1, k =>
    let x := k.pull shots
    let y := Link.pullN shots n x.2
    (x.1 :: y.1, y.2)

/-- The HCFG of a head's attach has been sent in full once none of it waits on the link (R312). -/
def State.hcfgSent (s : State) (b : Nat) : State :=
  let k := s.link b
  if (k.current.toList ++ k.queue).any fun p => p.kind == 14 then s
  else (List.range 48).foldl (fun s h =>
    let x := s.head h
    if x.attached.isSome && decide (x.lane = b) && !x.hcfg then s.setHead h { x with hcfg := true } else s) s

/-- The payload of lane `i` of `w` from the scores of a link's superframes (R289): its 62 scores, and with the pointer before them (R298). -/
def laneCut (w i : Nat) (xs : List (Score × Option (List Score))) : List (Score × Option (List Score)) :=
  (List.range 62).map fun k => xs.getD (w * k + i) (0, none)

def payloadOf (xs : List (Score × Option (List Score))) : List Score :=
  let at_ := ((xs.zipIdx.find? fun x => x.1.2.isSome).map fun x => x.2 + 1).getD 0
  BitVec.ofNat 20 at_ :: xs.map (·.1)

/-- The TIME header of a head's request has gone out: t1 is the stamp of the marker of its superframe (R313). -/
def State.timeSent (s : State) (b stamp : Nat) : State :=
  (List.range 48).foldl (fun s h =>
    let k := s.head h
    if k.request.isSome && k.t1.isNone && decide (k.lane = b) then s.setHead h { k with t1 := some (stamp % 2 ^ 40) } else s) s

/-- The DATA superframes of an UP link go out, with the packets that begin in them. -/
def State.putData (s : State) (b seq : Nat) (lanes : List Nat) : State :=
  let w := (s.linkOf b).2
  let x := Link.pullN (s.shotsDue b) (62 * w) (s.link b)
  let begun := x.1.filterMap (·.2)
  let s := (begun.foldl (fun s p => s.send (.packet b p)) (s.setLink b x.2)).hcfgSent b
  lanes.foldl (fun s d =>
    let cut := laneCut w (d - b) x.1
    let s := s.putFrame d 0 seq (payloadOf cut)
    if cut.any fun v => v.2.isSome && decide (v.1.toNat / 2 ^ 16 = 13) then s.timeSent b (s.lane d).txStamp else s) s

/-- A TRAIN superframe goes out on a lane (R286); those in SWITCH are counted (R287). -/
def State.putTrain (s : State) (l seq : Nat) : State :=
  let s := s.putFrame l 2 seq (s.ownT0 l :: List.replicate 62 0)
  if s.laneSt l = 6 then s.setLane l { s.lane l with goSent := (s.lane l).goSent + 1 } else s

/-- After 63 superframes, or where one would start more than 4,096 scores after the last FILL marker, a FILL block goes first (R279). -/
def State.fillIfDue (s : State) (lanes : List Nat) : State :=
  let due := lanes.any fun d => decide ((s.lane d).sinceFill ≥ 63) || decide ((s.lane d).spacing > 4096)
  if due then lanes.foldl (fun s d => s.putFill d) s else s

/-- The next superframe of a lane's link (R278, R279): after 63 superframes, or where it would start more than 4,096 scores after the last FILL
marker, a FILL block goes first. All lanes of the link send at the same score positions. -/
def State.sendSuperframe (s : State) (l : Nat) : State :=
  let lanes := s.sendingLanes l
  let s := s.fillIfDue lanes
  let seq := (s.lane (lanes.headD l)).txSeq
  let up := lanes.filter fun d => s.laneSt d == 8
  let s := if up.isEmpty then s else s.putData (s.linkOf l).1 seq up
  (lanes.filter fun d => s.laneSt d != 8).foldl (fun s d => s.putTrain d seq) s

/-- One superframe of 63 zeros on each lane (R292, R293). -/
def State.putZeros (s : State) (ty : Nat) (lanes : List Nat) : State :=
  lanes.foldl (fun s d => s.putFrame d ty (s.lane d).txSeq (List.replicate 63 0)) (s.fillIfDue lanes)

/-! ### Receiving (R275, R277, R281, R298 to R300) -/

/-- Whether R300 and Table 12.1 allow a received KIND on a lane's profile, toward the device, in a version. -/
def kindAllowed (profile version kind : Nat) : Bool :=
  [1, 2, 3, 5].contains kind
    || (kind == 6 && profile != 0)
    || (kind == 7 && profile != 0 && decide (version ≥ 2))
    || (kind == 8 && profile != 0 && decide (version ≥ 3))
    || (kind == 9 && profile == 1 && decide (version ≥ 2))
    || ([11, 12, 13].contains kind && profile == 0)
    || (kind == 15 && profile == 2 && decide (version ≥ 3))

/-- The largest LEN a version allows (Table 12.2); before CAPS the smallest version holds. -/
def lenLimit (version : Nat) : Nat := if version ≥ 2 then 255 else 63

/-- A packet is complete (R299, R300): it stands or is to be discarded; a gap in PSEQ lets it stand and the stream after it is ignored. -/
def Link.complete (k : Link) (profile : Nat) : Link :=
  match k.partial_ with
  | [] => k
  | hd :: rest =>
    let kind := hd.toNat / 2 ^ 16
    let len := hd.toNat / 2 ^ 8 % 256
    let seq := hd.toNat % 256
    let body := rest.take len
    let check := rest.getD len 0
    let version := if k.capsDone then k.version else 1
    let allowed := if k.capsDone && !k.refused then kindAllowed profile version kind else kind == 1
    let ok := !k.partialBad && decide (check = crc20 (hd :: body)) && decide (len ≤ lenLimit version) && allowed
    let gap := ok && (match k.rxSeq with | some x => decide (seq ≠ (x + 1) % 256) | none => false)
    let ignore := !ok || (gap && !k.resync)
    { k with partial_ := [], partialBad := false, arrived := k.arrived ++ [{ kind := kind, body := body, ok := ok, stamp := k.partialAt }]
             rxSeq := if ok then some seq else k.rxSeq.map fun x => (x + 1) % 256
             gap := k.gap || gap || (!ok && kind == 12), ignoring := ignore, resync := ignore }

/-- One score of the packet stream, with the stamp of its superframe's marker, its error mark and whether a pointer names it. -/
def Link.feed (k : Link) (profile stamp : Nat) (v : Score) (bad pointed : Bool) : Link :=
  if k.ignoring && !pointed then k
  else
    let k := { k with ignoring := false }
    match k.partial_ with
    | [] => if v = 0 then k else { k with partial_ := [v], partialBad := bad, partialAt := stamp }
    | hd :: r =>
      let k := { k with partial_ := hd :: r ++ [v], partialBad := k.partialBad || bad }
      if r.length + 1 = hd.toNat / 2 ^ 8 % 256 + 1 then k.complete profile else k

/-- When every lane of the link has the superframe of one SEQ, their payload is taken in the order of R289 (score k on lane k mod W); older ones
that were not matched are dropped. -/
def State.deliverFrames (s : State) (l : Nat) : State :=
  let lanes := s.linkLanes l
  let found := (s.lane l).frames.find? fun f => lanes.all fun d => (s.lane d).frames.any fun g => g.seq == f.seq
  match found with
  | none => s
  | some f =>
    let pick (d : Nat) : List RxFrame := ((s.lane d).frames.dropWhile fun g => g.seq != f.seq)
    let fs := lanes.filterMap fun d => (pick d).head?
    let b := (s.linkOf l).1
    let k := (List.range 62).foldl (fun k i =>
      fs.foldl (fun (k : Link) g => k.feed (laneProfile b) g.stamp (g.scores.getD i 0) g.bad (decide (g.pointer = i + 1))) k) (s.link b)
    (lanes.foldl (fun s d => s.setLane d { s.lane d with frames := (pick d).drop 1 }) s).setLink b k

/-- An invalid marker at an expected position (R281): four in a row end the alignment of the lane. -/
def State.badMarker (s : State) (l : Nat) : State :=
  let x := s.lane l
  let bad := (s.now :: x.bad).filter fun b => decide (s.now < b + lsbMs)
  let s := (s.setLane l { x with missed := x.missed + 1, bad := bad }).inc (Reg.LN_MK_ERR_COUNT l)
  let s := if bad.length > 16 then (s.flag (Reg.LN_LANE_STAT_ERR_SEEN l) true).raiseOnce .laneErrors l 0 else s
  if x.missed + 1 ≥ 4 ∨ x.woke = true then s.train (s.fallsWith l) else s

/-- The payload of a superframe is descrambled; that of a DATA superframe of an UP lane goes to the link layer. -/
def State.takeFrame (s : State) (l ty seq : Nat) (payload : List Score) (bad : Bool) : State :=
  let x := s.lane l
  let d := descramble x.descr payload
  let s := s.setLane l { x with descr := d.2, rxSeq := some seq, rxT0 := if ty = 2 && !bad then d.1.head? else x.rxT0 }
  if ty = 0 ∧ (s.laneSt l = 8 ∨ s.laneSt l = 9) then
    let f : RxFrame := { seq := seq, stamp := x.rxStamp, pointer := if bad then 0 else (d.1.headD 0).toNat % 64, scores := d.1.drop 1, bad := bad }
    (s.setLane l { s.lane l with frames := (s.lane l).frames ++ [f] }).deliverFrames l
  else s

/-- The island cycles in which a lane exchanges one score (R272): 1, 2 or 4. -/
def State.cyclesPerScore (s : State) (l : Nat) : Nat := match s.h (Reg.LN_LANE_STAT_RATE l) with | 0 => 4 | 1 => 2 | _ => 1

/-- The elastic buffer after `arrived` scores and `cycles` island cycles (R272, R282): below 8 exchanges pass without a score until it has
recovered; it overflows above 32.
It is judged at blocks (DESIGN CHOICE, log 139). -/
def State.elastic (s : State) (l arrived cycles : Nat) : State :=
  if s.laneSt l = 8 ∨ s.laneSt l = 9 then
    let c := (s.lane l).cycles + cycles
    let s := s.setLane l { s.lane l with cycles := c % s.cyclesPerScore l }
    let n : Int := (s.h (Reg.LN_EB_FILL l) : Int) + arrived - (c / s.cyclesPerScore l : Nat)
    if n > 32 then s.train (s.fallsWith l)
    else
      let gap := if n < 8 then (8 - n).toNat else 0
      (s.setH (Reg.LN_EB_FILL l) (max 8 n).toNat).setLane l { s.lane l with idle := (s.lane l).idle + gap }
  else s

/-- Fields that take effect at a superframe of the lane (Table 1.6): LN_TX_EQ, WAKE_DET and EN, a write of LN_QUAD_CFG that changes nothing, and
the FL_ fields 100 ns after acceptance (R491); a lane that leaves OFF trains. -/
def State.superframeApply (s : State) (l : Nat) : State :=
  let off := decide (s.laneSt l = 0)
  let q := l / 4
  let keep := off || trainingFields l (s.reaching l (Reg.LN_LANE_CFG l)) == trainingFields l (s.use l (Reg.LN_LANE_CFG l))
  let same := s.reaching q (Reg.LN_QUAD_CFG q) == s.use q (Reg.LN_QUAD_CFG q)
  let s := s.applyAt fun a u =>
    (decide (u = l) && (decide (a = Reg.LN_TX_EQ l) || (keep && decide (a = Reg.LN_LANE_CFG l)))) || (same && decide (a = Reg.LN_QUAD_CFG q) && decide (u = q))
  let s := (s.applyLater 12800 fun a => decide (a / 65536 = 0x24) && !Reg.atFrame a).laneEnable l
  if off && decide (s.laneSt l ≠ 0) then s.train [l] else s

/-- LIVE_WRITE_APPLY (R34, R35, R278, R279, R491): the lane's next superframe, which is the boundary of LN_ and FL_ writes, goes out. The
boundaries of the other blocks are commands of their own (DESIGN CHOICE, log 140). -/
def execLiveWriteApply (t : Nat) (l : Lane) (s : State) : Host.Outcome State Fault Refusal :=
  s.runAt t fun s => (s.superframeApply l).sendSuperframe l

/-- A valid marker at an expected position or after silence (R281, R292). -/
def State.goodMarker (s : State) (l ty seq : Nat) (payload : List Score) : State :=
  let x := s.lane l
  let s := s.setLane l { x with missed := 0 }
  let silent := s.h (Reg.LN_LANE_STAT_PEER_IDLE l) == 1
  if silent && !x.woke && ty != 0 && ty != 5 then s
  else
    let s :=
      if silent && x.woke then
        ((s.setLane l { s.lane l with woke := false }).flag (Reg.LN_LANE_STAT_PEER_IDLE l) false).setH (Reg.LN_EB_FILL l) 16
      else if silent then s.setLane l { s.lane l with woke := true }
      else s
    if ty = 1 then s.setLane l { s.lane l with fillSeen := true }
    else
      let s := s.takeFrame l (if silent && !x.woke then 5 else ty) seq payload false
      if ty = 3 ∨ ty = 4 then s.flag (Reg.LN_LANE_STAT_PEER_IDLE l) true else s

/-- MARKER_RECEIVE (R275, R277, R281, R285, R292, R298 to R300): a block has arrived at an expected position, or the first one after silence.
`first` is the instant of its first line bit, `marker` and `line` are its line bits, those of its marker and the others; `after` is the score that
stands 4 scores after its marker, where `line` ends before it; `cycles` are the island cycles since the block before it. -/
def execMarkerReceive (t : Nat) (l : Lane) (first : Nat) (marker line : List Bool) (after : Score) (cycles : Nat) (s : State) :
    Host.Outcome State Fault Refusal :=
  s.runAt t fun s =>
    if s.laneSt l < 5 ∨ s.laneSt l > 9 ∨ s.laneMode l ≠ 0 then s
    else
      let r := (s.superframeApply l).receiveBits l (marker ++ line)
      let s := r.1.setLane l { r.1.lane l with rxStamp := s.nodeAt first, rxAt := first }
      let inv := s.h (Reg.LN_LANE_STAT_RX_INV_DET l) == 1
      let scores := (lineScores r.2).map (polar inv)
      let s := s.elastic l scores.length cycles
      let silent := s.h (Reg.LN_LANE_STAT_PEER_IDLE l) == 1 && !(s.lane l).woke
      let m := scores.headD 0
      match markerType m, s.laneSt l with
      | _, 1 => s
      | some ty, _ => s.goodMarker l ty (markerSeq m) (scores.drop 1)
      | none, _ =>
        if silent then s
        else
          let s := s.badMarker l
          if s.laneSt l = 1 then s
          else if (markerType (scores.getD 4 (polar inv after))).isSome then s.setLane l { s.lane l with fillSeen := true }
          else s.takeFrame l 0 (match (s.lane l).rxSeq with | some q => (q + 1) % 16 | none => 0) (scores.drop 1) true

/-- What a buffer's occupancy asks for at a FILL block (R282): fill scores deleted (positive) or repeated (negative). -/
def fillWish (n : Nat) : Int := if n > 18 then min 3 ((n : Int) - 18) else if n < 14 then -(min 3 (14 - (n : Int))) else 0

/-- FILL_BLOCK_RECEIVE (R282, R283): the FILL block that the lane has received is matched. The lowest lane of the link decides for each block;
the other lanes apply the same decision to the same block. `cycles` are the island cycles since its marker. -/
def execFillBlockReceive (t : Nat) (l : Lane) (cycles : Nat) (s : State) : Host.Outcome State Fault Refusal :=
  s.runAt t fun s =>
    if s.laneSt l < 8 ∨ s.laneSt l > 9 ∨ s.laneMode l ≠ 0 ∨ (s.lane l).fillSeen = false then s
    else
      let s := s.elastic l 0 cycles
      let x := s.lane l
      let b := (s.linkOf l).1
      let k := s.lane b
      let s := if k.decided ≤ x.fills then s.setLane b { k with decided := x.fills + 1, fillDec := fillWish (s.h (Reg.LN_EB_FILL b)) } else s
      let d := (s.lane b).fillDec
      let s := s.setLane l { s.lane l with fillSeen := false, fills := x.fills + 1 }
      let n : Int := (s.h (Reg.LN_EB_FILL l) : Int) - d
      if n > 32 then s.train (s.fallsWith l)
      else
        let s := s.setH (Reg.LN_EB_FILL l) n.toNat
        if d > 0 then s.add (Reg.LN_FILL_DEL_COUNT l) d.toNat else s.add (Reg.LN_FILL_REP_COUNT l) (-d).toNat

/-- FILL_BLOCK_SEND (R278, R279, R285): every lane of the link sends its FILL block at the same position, after the superframe in progress. -/
def execFillBlockSend (t : Nat) (l : Lane) (s : State) : Host.Outcome State Fault Refusal :=
  s.runAt t fun s => (s.sendingLanes l).foldl (fun s d => s.putFill d) s

/-! ### Electrical idle, deep sleep, references, BASE-R (R273, R290 to R295) -/

/-- EIDLE is requested (R292): ignored unless the lane is UP in Frezen Link mode; all lanes of the link send an EIDLE superframe and enter it. -/
def State.laneEidle (s : State) (l : Nat) : State :=
  if s.laneSt l = 8 ∧ s.laneMode l = 0 then
    let lanes := (s.linkLanes l).filter fun d => s.laneSt d == 8
    lanes.foldl (fun s d => s.toLane d 9) (s.putZeros 3 lanes)
  else s

/-- EIDLE_REQUEST (R292). -/
def execEidleRequest (t : Nat) (l : Lane) (s : State) : Host.Outcome State Fault Refusal := s.runAt t fun s => s.laneEidle l

/-- EIDLE_EXIT (R292): payload is queued; two WAKE superframes, then DATA. -/
def execEidleExit (t : Nat) (l : Lane) (s : State) : Host.Outcome State Fault Refusal :=
  s.runAt t fun s =>
    let lanes := (s.linkLanes l).filter fun d => s.laneSt d == 9
    let k := s.link (s.linkOf l).1
    if k.queue.isEmpty && k.sending.isEmpty then s
    else lanes.foldl (fun s d => s.toLane d 8) ((s.putZeros 5 lanes).putZeros 5 lanes)

/-- DEEP (R293): from UP, after a DEEP superframe, DOWN or EIDLE. The rest of an UP link trains. -/
def State.laneDeep (s : State) (l : Nat) : State :=
  if s.laneSt l = 8 ∨ s.laneSt l = 1 ∨ s.laneSt l = 9 then
    let rest := (s.fallsWith l).filter (· ≠ l)
    let s := if s.laneSt l = 8 ∧ s.laneMode l = 0 then s.putZeros 4 [l] else s
    let s := if s.laneSt l = 1 then s else s.linkLost l
    let s := s.toLane l 10
    if rest.isEmpty then s else s.train rest
  else s

/-- DEEP_REQUEST (R293). -/
def execDeepRequest (t : Nat) (l : Lane) (s : State) : Host.Outcome State Fault Refusal := s.runAt t fun s => s.laneDeep l

/-- WAKE_DETECT (R293). -/
def execWakeDetect (t : Nat) (l : Lane) (s : State) : Host.Outcome State Fault Refusal :=
  s.runAt t fun s => if s.laneSt l = 10 ∧ s.fu l (Reg.LN_LANE_CFG_WAKE_DET l) = 1 then s.laneRetrain l else s

/-- A quad's references as its monitor sees them: of the one that REF_NOW names, and of the other. -/
def State.setQuadRefs (s : State) (q : Nat) (usedBad otherBad : Bool) : State :=
  let a := s.h (Reg.LN_QUAD_STAT_REF_NOW q) == 0
  s.setLane (4 * q) { s.lane (4 * q) with badA := if a then usedBad else otherBad, badB := if a then otherBad else usedBad }

/-- QUAD_REF_SWITCH (R273): the reference in use has failed. The quad switches and retrains its four lanes, or its PLL is out of lock. -/
def execQuadRefSwitch (t : Nat) (q : Quad) (otherGood : Bool) (s : State) : Host.Outcome State Fault Refusal :=
  s.runAt t fun s =>
    let s := s.setQuadRefs q true (!otherGood)
    if s.fu q (Reg.LN_QUAD_CFG_AUTOREF q) = 1 ∧ otherGood = true then
      let now := 1 - s.h (Reg.LN_QUAD_STAT_REF_NOW q)
      let s := (s.train (quadLanes q)).setH (Reg.LN_QUAD_STAT_REF_NOW q) now
      ((s.pllLock q).flag (Reg.LN_QUAD_STAT_REF_SW_SEEN q) true).raise .quadRefSwitch q now
    else
      let s := (s.train (quadLanes q)).pllLock q
      (s.flag (Reg.LN_QUAD_STAT_UNLOCK_SEEN q) true).raise .quadUnlock q 0

/-- References lie within their limits again (R273; DEDUCED, unsafe, log 138: R27 has a monitor see that, and R273 sends a quad by the same
criteria): a quad out of lock takes its own, or with AUTOREF the other. -/
def State.quadRefsBack (s : State) (a b : Bool) : State :=
  (List.range 36).foldl (fun s q =>
    let x := s.lane (4 * q)
    let s := s.setLane (4 * q) { x with badA := x.badA && !a, badB := x.badB && !b }
    let x := s.lane (4 * q)
    let now := s.h (Reg.LN_QUAD_STAT_REF_NOW q)
    let s := if !s.quadRefOk q && s.fu q (Reg.LN_QUAD_CFG_AUTOREF q) == 1 && !(if now = 0 then x.badB else x.badA) then
        s.setH (Reg.LN_QUAD_STAT_REF_NOW q) (1 - now) else s
    s.pllLock q) s

/-- The polarity that a BASE-R lane's receiver is given (R295); its PCS sees the line so. -/
def State.baserInverted (s : State) (l : Nat) : Bool := s.laneMode l != 0 && s.fu l (Reg.LN_LANE_CFG_RX_INV l) == 1

/-- BASER_LINK_CHANGE (R274, R294, R295): what the PCS reports of the line, inverted where RX_INV says so: block lock, a high bit error rate,
the partner's frequency offset, and with Clause 74 FEC enabled the FEC blocks corrected and uncorrectable since (DESIGN CHOICE, log 146). -/
def execBaserLinkChange (t : Nat) (l : Lane) (report : PcsReport) (corrected uncorrected : Nat) (s : State) : Host.Outcome State Fault Refusal :=
  s.runAt t fun s =>
    if s.laneMode l = 0 ∨ s.laneSt l = 0 ∨ s.laneSt l = 10 ∨ s.quadLive l = false then s
    else
      let pcs := if s.baserInverted l then report.inverted else report.plain
      let s := s.setH (Reg.LN_PPM_PPM l) report.ppm.toNat
      let s := if s.fu l (Reg.LN_LANE_CFG_FEC l) = 1 then (s.add (Reg.LN_FEC_CORR_COUNT l) corrected).add (Reg.LN_FEC_UNCORR_COUNT l) uncorrected else s
      if pcs.blockLock && !pcs.hiBer then
        if s.laneSt l = 8 then s else ((s.setH (Reg.LN_LANE_STAT_RATE l) 3).toLane l 8).linkUp l
      else if s.laneSt l = 8 then ((s.laneLoss l).linkLost l).toLane l 1
      else s

/-- LN_QUAD_CFG.CNT_CLR (R296). -/
def State.lnCntClr (s : State) (q : Nat) : State :=
  s.clear ([4 * q, 4 * q + 1, 4 * q + 2, 4 * q + 3].flatMap fun l =>
    [Reg.LN_CV_CNT_COUNT l, Reg.LN_MK_ERR_COUNT l, Reg.LN_FILL_DEL_COUNT l, Reg.LN_FILL_REP_COUNT l, Reg.LN_DOWN_CNT_COUNT l,
      Reg.LN_STUFF_CNT_COUNT l, Reg.LN_FEC_CORR_COUNT l, Reg.LN_FEC_UNCORR_COUNT l, Reg.LN_RETRY_COUNT l])

/-- LN_CNT_CLR (R296). -/
def execLnCntClr (t : Nat) (q : Quad) (s : State) : Host.Outcome State Fault Refusal := s.runAt t fun s => s.lnCntClr q

end Sys2Proof.Machine
end

