-- ==== Sys2Proof/Machine/FrezenLink.lean ====
section
/-!
DEFINITION. Frezen Link (12_frezen_link_partners.md): reception, CAPS, HELLO and the partner table, consist information, the
shot-slot plan (R134 to R138), remote heads, PTP, triggers between nodes.
-/

namespace Sys2Proof.Machine

/-! ### Reception (R299, R300, R320) -/

/-- The device's MAC and IPv4 address and its HELLO group. -/
def State.epMac (s : State) : Nat := s.h Reg.EP_MAC_H_MAC * 2 ^ 32 + s.h Reg.EP_MAC_M_MAC * 2 ^ 16 + s.h Reg.EP_MAC_L_MAC
def State.epIp (s : State) : Nat := s.f Reg.EP_IP_H_IP * 2 ^ 20 + s.f Reg.EP_IP_L_IP
def State.epGrp (s : State) : Nat := s.f Reg.EP_GRP_H_GRP * 2 ^ 20 + s.f Reg.EP_GRP_L_GRP

/-- R320: whether a received frame is kept, for the UDP ports that serve. -/
def State.frameKept (s : State) (env : Envelope) (ports : List Nat) : Bool :=
  env.fcsOk
    && (s.f Reg.EP_CFG_TAG_EN == 0 || (match env.vid with | some v => decide (v = s.f Reg.EP_CFG_VID) | none => true))
    && (decide (env.mac = s.epMac) || decide (env.ip = s.epIp) || decide (env.ip = s.epGrp))
    && (match env.port with | some p => ports.contains p | none => true)

/-- The ports of R320: PTP, EP_FL_PORT and the command port (R402). -/
def State.servedPorts (s : State) : List Nat := [319, 320, s.f Reg.EP_FL_PORT_PORT, 48121]

/-- The version of the partner behind an Ethernet address; 3 where the table has none yet. -/
def State.udpVersion (s : State) (l ip : Nat) : Nat :=
  match s.fl.partners.find? fun p => decide (p.port = .eth l ip) with | some p => p.version | none => 3

/-- A packet by itself, as a UDP payload carries it in 3 bytes per score (R367): KIND and body, if R300 lets it stand for the partner's version. -/
def udpPacket (version : Nat) (bytes : List (BitVec 8)) : Option (Nat × List Score) :=
  match octetScores (bytes.length / 3) bytes with
  | [] => none
  | hd :: rest =>
    let len := hd.toNat / 2 ^ 8 % 256
    let kind := hd.toNat / 2 ^ 16
    let body := rest.take len
    if bytes.length % 3 = 0 ∧ rest.length = len + 1 ∧ rest.getD len 0 = crc20 (hd :: body) ∧ len ≤ lenLimit version ∧ kindAllowed 2 version kind = true then some (kind, body) else none

/-- A B-lane in BASE-R mode that is UP. -/
def State.ethUp (s : State) (l : Nat) : Bool := decide (s.laneMode l ≠ 0) && s.laneIsUp l

/-- Takes the packet that a source brings if it is of one kind and stands; a frame that R320 discards is counted. -/
def State.takePacket (s : State) (src : RxFrom) (kind : Nat) : State × Option (List Score) :=
  match src with
  | .link l =>
    let b := (s.linkOf l).1
    let k := s.link b
    match k.arrived with
    | p :: r => if p.ok ∧ p.kind = kind then (s.setLink b { k with arrived := r }, some p.body) else (s, none)
    | [] => (s, none)
  | .udp l env ip packet =>
    if s.ethUp l then
      if s.frameKept env s.servedPorts then
        match udpPacket (s.udpVersion l ip) packet with
        | some (k, body) => (s, if k = kind ∧ env.port = some (s.f Reg.EP_FL_PORT_PORT) then some body else none)
        | none => (s, none)
      else (s.inc Reg.EP_RX_DROP_COUNT, none)
    else (s, none)

/-- The port a packet came in on. -/
def State.portOf (s : State) : RxFrom → PortRef
  | .link l => .lane (s.linkOf l).1
  | .udp l _ ip _ => .eth l ip

/-- The lowest lane of a port (Table 12.7). -/
def PortRef.lowest : PortRef → Nat
  | .lane l => l
  | .eth l _ => l

/-- PACKET_DISCARD (R300): a packet that does not stand is discarded and counted; its receiver already ignores the stream up to the next pointer. -/
def execPacketDiscard (t : Nat) (src : RxFrom) (s : State) : Host.Outcome State Fault Refusal :=
  s.run t fun s =>
    match src with
    | .link l =>
      let b := (s.linkOf l).1
      let k := s.link b
      match k.arrived with
      | p :: r => if p.ok then s else (s.setLink b { k with arrived := r }).inc Reg.FL_PKT_ERR_COUNT
      | [] => s
    | .udp l env ip packet =>
      if s.ethUp l then
        if s.frameKept env s.servedPorts then
          if (udpPacket (s.udpVersion l ip) packet).isSome then s else s.inc Reg.FL_PKT_ERR_COUNT
        else s.inc Reg.EP_RX_DROP_COUNT
      else s

/-! ### Capabilities (R301, R302) -/

/-- Whether a period has passed since something last happened. -/
def dueAgain (now : Nat) (last : Option Nat) (period : Nat) : Bool := last.all fun x => decide (x + period ≤ now)

/-- CAPS_SEND (R301): every 1 ms, until a valid CAPS has come and one more has gone. -/
def execCapsSend (t : Nat) (l : Lane) (s : State) : Host.Outcome State Fault Refusal :=
  s.run t fun s =>
    let b := (s.linkOf l).1
    let k := s.link b
    if k.up && !k.capsDone && s.laneMode b == 0 && dueAgain s.now k.capsAt lsbMs then
      let s := (s.setLink b { k with capsAt := some s.now }).sendLink b 1 [BitVec.ofNat 20 (7 * 2 ^ 17 + laneProfile b * 2 ^ 15), BitVec.ofNat 20 (s.ident / 2 ^ 20), BitVec.ofNat 20 s.ident]
      if k.capsGot then s.setLink b { s.link b with capsDone := true } else s
    else s

/-- The head slot that a link's first lane and width match (R311). -/
def State.slotOfLink (s : State) (b : Nat) : Option Nat :=
  (List.range 48).find? fun h =>
    s.f (Reg.FL_HEAD_CFG_EN h) == 1 && s.f (Reg.FL_HEAD_CFG_LANE h) == b && 2 ^ s.f (Reg.FL_HEAD_CFG_WIDTH h) == (s.link b).width

/-- Why a link is refused (R302, R311): 1 no common version, 2 wrong profile, 3 no matching head slot. -/
def State.capsRefusal (s : State) (b versions profile : Nat) : Option Nat :=
  if versions = 0 then some 1
  else if profile ≠ laneProfile b then some 2
  else if profile = 0 ∧ s.slotOfLink b = none then some 3
  else none

/-- CAPS_RECEIVE (R301, R302). -/
def execCapsReceive (t : Nat) (l : Lane) (s : State) : Host.Outcome State Fault Refusal :=
  s.run t fun s =>
    let b := (s.linkOf l).1
    match s.takePacket (.link l) 1 with
    | (s, none) => s
    | (s, some body) =>
      let k := s.link b
      if k.up && !k.capsGot && body.length == 3 then
        let s0 := (body.getD 0 0).toNat
        let v := s0 / 2 ^ 17
        let k' : Link := { k with capsGot := true, ident := (joinHL (body.getD 1 0) (body.getD 2 0)).toNat, pixels := s0 % 2 ^ 15
                                  version := (highestRate v).elim 0 (· + 1) }
        match s.capsRefusal b v (s0 / 2 ^ 15 % 4) with
        | some why => (s.setLink b { k' with refused := true }).raise .linkRefused b why
        | none => s.setLink b k'
      else s

/-! ### The shot-slot plan (R134 to R138) -/

/-- The first frame boundary of the grid at or after an instant (R29, R134): node times that are whole multiples of the frame period. -/
def State.gridFrom (s : State) (x : Nat) : Nat :=
  let p := max 1 s.framePerLsb
  ((((s.nodeAt x + p - 1) / p * p : Nat) : Int) - s.nodeOfs).toNat

/-- The frame boundary that ends the running frame: on the grid, with a gap of at least 500 µs (R30, R138). -/
def State.boundaryAfter (s : State) (scanEnd : Nat) : Nat := s.gridFrom (max (scanEnd + 500 * lsbUs) s.now)

/-- The peers that take part with this node (R135). -/
def State.planPeers (s : State) : List PlanPeer := s.sq.plan.peers.filter fun p => !p.mismatch

def insertSorted (x : Nat) : List Nat → List Nat
  | [] => [x]
  | y :: r => if x ≤ y then x :: y :: r else y :: insertSorted x r

/-- The sorted list of participant identities (R134). -/
def State.participants (s : State) : List Nat := (s.planPeers.map (·.ident)).foldr insertSorted [s.ident]

/-- The digest of a plan (R136): CRC-32C over the sorted identities, the frame period and SPACING. -/
def planDigest (ids : List Nat) (period spacing : Nat) : Nat := (crc32c (Config.planBytes ids period spacing)).toNat

def State.ownDigest (s : State) : Nat := planDigest s.participants s.framePer s.spacing

/-- The offset of R134 for this node. -/
def State.planPhi (s : State) : Nat :=
  let ids := s.participants
  let r := (ids.filter fun i => decide (i < s.ident)).length
  r % 128 * s.spacing / max 1 (min ids.length 128)

/-- Enters ANNOUNCE (Table 4.4): the negotiation starts over. -/
def State.planStart (s : State) : State :=
  (s.setH Reg.SQ_PLAN_STAT_STATE 1).setPlan { s.sq.plan with
    since := s.now, activation := none, earliest := none, peers := s.sq.plan.peers.map fun p => { p with heardAt := none } }

/-- A topology event (R308): ANNOUNCE, unless PTP is not locked. -/
def State.topology (s : State) : State := if s.h Reg.SQ_PLAN_STAT_STATE = 0 then s else s.planStart

/-- PTP loss (R137): LOCAL, with firing where it was. -/
def State.planLocal (s : State) : State :=
  if s.h Reg.SQ_PLAN_STAT_STATE = 0 then s
  else ((s.setH Reg.SQ_PLAN_STAT_STATE 0).setPlan { s.sq.plan with activation := none }).raise .planLocal 0 0

/-- PLAN_AGREED (R136): every participant's digest equals this node's own, each received within 30 ms. -/
def State.planAgree (s : State) : State :=
  match s.sq.plan.earliest with
  | none => s
  | some own =>
    if s.h Reg.SQ_PLAN_STAT_STATE = 1 ∧
        (s.planPeers.all fun p => decide (p.digest = s.ownDigest) && (match p.heardAt with | some h => decide (s.now ≤ h + 30 * lsbMs) | none => false)) then
      let latest := (s.planPeers.map (·.earliest)).foldl max own
      let p := max 1 s.framePerLsb
      let s := (s.setH Reg.SQ_PLAN_STAT_STATE 2).setPlan { s.sq.plan with
        activation := some ((latest + p - 1) / p * p), newPhi := s.planPhi, newN := min 128 s.participants.length, newDigest := s.ownDigest }
      { s with fl := { s.fl with consist := { s.fl.consist with planAgreed := true } } }
    else s

/-- What a node announces reaches the participant set (R135); SQ_PLAN_STAT.MISMATCH counts the nodes left out. -/
def State.planHear (s : State) (ident period spacing : Nat) (upd : PlanPeer → PlanPeer) : State :=
  let old := s.sq.plan.peers.find? fun p => decide (p.ident = ident)
  let base : PlanPeer := old.getD { ident := ident, period := 0, spacing := 0, digest := 0, earliest := 0, heardAt := none, mismatch := false }
  let p := upd { base with period := period, spacing := spacing }
  (s.setPlan { s.sq.plan with peers := s.sq.plan.peers.filter (fun q => decide (q.ident ≠ ident)) ++ [p] }).planJudge

/-- A node leaves the partner table. -/
def State.planForget (s : State) (ident : Nat) : State :=
  let s := s.setPlan { s.sq.plan with peers := s.sq.plan.peers.filter fun q => decide (q.ident ≠ ident) }
  s.setH Reg.SQ_PLAN_STAT_MISMATCH (s.sq.plan.peers.filter (·.mismatch)).length

/-- The partners that take part in plans: Node and Backbone profile, version 3 (R303). -/
def State.planPartners (s : State) : List Partner := s.fl.partners.filter fun p => decide (p.profile ≠ 0) && decide (p.version ≥ 3)

/-- PLAN_ANN_SEND (R136, Table 4.4): in ANNOUNCE and AGREED. -/
def execPlanAnnSend (t : Nat) (s : State) : Host.Outcome State Fault Refusal :=
  s.run t fun s =>
    if s.h Reg.SQ_PLAN_STAT_STATE = 1 ∨ s.h Reg.SQ_PLAN_STAT_STATE = 2 then
      let e := s.nodeTime + 100 * lsbMs
      let s := if s.h Reg.SQ_PLAN_STAT_STATE = 1 then s.setPlan { s.sq.plan with earliest := some e } else s
      let s := s.planPartners.foldl (fun s p =>
        if s.portUp p.port then s.sendPartner p 8 (Config.planAnnBody s.ident s.framePer s.spacing s.ownDigest e) else s) s
      s.planAgree
    else s

/-- PLAN_ANN_RECEIVE (R135, R136): from a node of the partner table. -/
def execPlanAnnReceive (t : Nat) (src : RxFrom) (ann : PlanAnn) (s : State) : Host.Outcome State Fault Refusal :=
  s.run t fun s =>
    match s.takePacket src 8 with
    | (s, none) => s
    | (s, some _) =>
      if s.planPartners.any fun p => decide (p.ident = ann.ident) then
        (s.planHear ann.ident ann.period ann.spacing fun p =>
          { p with digest := ann.digest, earliest := ann.earliest, heardAt := some s.now }).planAgree
      else s

/-- The plan becomes ACTIVE (Table 4.4, R138): its φ applies from the coming frame boundary, which falls on the new grid. -/
def State.planActivate (s : State) : State :=
  let p := s.sq.plan
  let s := ((s.setH Reg.SQ_PLAN_STAT_STATE 3).setH Reg.SQ_PLAN_STAT_N p.newN).setH Reg.SQ_PLAN_DIGEST_H_DIGEST (p.newDigest / 2 ^ 16)
  let s := (s.setH Reg.SQ_PLAN_DIGEST_L_DIGEST (p.newDigest % 2 ^ 16)).setPlan { p with activation := none, phiDue := some p.newPhi }
  { s with sq := { s.sq with nextBoundary := s.boundaryAfter s.sq.scanEndAt } }

/-- PLAN_ACTIVATION (R136 to R138). -/
def execPlanActivation (t : Nat) (s : State) : Host.Outcome State Fault Refusal :=
  s.run t fun s =>
    match s.sq.plan.activation with
    | some a => if s.h Reg.SQ_PLAN_STAT_STATE = 2 ∧ a ≤ s.nodeTime then s.planActivate else s
    | none => s

/-- PLAN_TIMEOUT (R137): ANNOUNCE for 2 s without AGREED. -/
def execPlanTimeout (t : Nat) (s : State) : Host.Outcome State Fault Refusal :=
  s.run t fun s =>
    if s.h Reg.SQ_PLAN_STAT_STATE = 1 ∧ s.sq.plan.since + 2 * lsbS ≤ s.now then
      (s.setPlan { s.sq.plan with since := s.now }).raise .planTimeout s.participants.length 0
    else s

/-! ### Remote heads: tables and alignment (R311 to R317) -/

/-- The measurements of a head start over. -/
def State.headRestart (s : State) (h : Nat) : State :=
  s.setHead h { s.head h with rtts := [], offs := [], goodRun := [], bad := 0, request := none }

/-- On each entry to UNALIGNED HEAD_UNALIGNED is raised (R314); the measurements start over. -/
def State.headUnalign (s : State) (h : Nat) : State :=
  let s := (s.flag (Reg.FL_HEAD_STAT_ALIGNED h) false).flag (Reg.FL_HEAD_STAT_UNAL_SEEN h) true
  (s.headRestart h).raise .headUnaligned h 0 |>.noteHead h

/-- The tables of R312 for a head from a way to read registers: the window profiles, and for each group its ranges in the head's pixels as
local numbers (first, count). -/
def headTables (rd : Nat → Score) (h : Nat) : List Nat :=
  let lo := 512 + (Reg.FL_HEAD_BASE_BASE h).of (rd (Reg.FL_HEAD_BASE h))
  let hi := lo + (Reg.FL_HEAD_COUNT_COUNT h).of (rd (Reg.FL_HEAD_COUNT h))
  (List.range 64).flatMap (fun w => [winOfs rd w, winLen rd w])
    ++ (List.range 1024).flatMap fun g => (groupRanges rd g).flatMap fun r =>
      let a := max lo r.1
      let b := min hi (r.1 + r.2)
      if a < b then [a - lo, b - a] else [0, 0]

/-- Cuts a list into pieces of at most `n`; `fuel` bounds the pieces. -/
def chunks {α : Type} (n : Nat) : Nat → List α → List (List α)
  | 0, _ => []
  | _, [] => []
  | f + 1, x :: r => (x :: r).take n :: chunks n f ((x :: r).drop n)

/-- HCFG (R312): as many packets as the tables need, each within the LEN limit of the link's version. -/
def State.sendHcfg (s : State) (rd : Nat → Score) (h : Nat) : State :=
  let scores := Config.hcfgScores (headTables rd h)
  let k := s.head h
  (chunks (lenLimit (s.link k.lane).version) scores.length scores).foldl (fun s b => s.sendLink k.lane 14 b) s

/-- Every attached head receives its tables (R312). -/
def State.hcfgAll (s : State) (rd : Nat → Score) : State :=
  (List.range 48).foldl (fun s h => if (s.head h).attached.isSome then s.sendHcfg rd h else s) s

/-- Every attached head whose tables differ between two sets receives the new ones (R312). -/
def State.hcfgChanged (s : State) (rd rd' : Nat → Score) : State :=
  (List.range 48).foldl (fun s h =>
    if (s.head h).attached.isSome ∧ headTables rd h ≠ headTables rd' h then s.sendHcfg rd' h else s) s

/-- In the gap the heads receive the tables that the next frame boundary brings to their pixels (R312): those of a SWAP that changes them there,
else those that live writes have changed. -/
def State.hcfgGap (s : State) : State :=
  if s.sq.inScan then s
  else
    let dirty := s.fl.tablesDirty
    let s := { s with fl := { s.fl with tablesDirty := false } }
    if s.cf.swapDue s.sq.nextBoundary then (if dirty then s.hcfgAll s.shadow else s.hcfgChanged s.act s.shadow)
    else if dirty then s.hcfgAll s.act
    else s

/-- A head attaches to its slot (R312, R314). -/
def State.headAttach (s : State) (h b ident : Nat) : State :=
  let s := s.setHead h { attached := some ident, lane := b }
  let s := ((s.flag (Reg.FL_HEAD_STAT_ATTACHED h) true).flag (Reg.FL_HEAD_STAT_FAR h) false).headUnalign h
  s.sendHcfg s.act h

/-- A head leaves (R308): what waits for it is dropped. -/
def State.headDetach (s : State) (ident : Nat) : State :=
  match (List.range 48).find? fun h => decide ((s.head h).attached = some ident) with
  | some h =>
    let b := (s.head h).lane
    let s := s.setLink b { s.link b with queue := (s.link b).queue.filter fun p => p.kind != 10 && p.kind != 13 && p.kind != 14 }
    (((s.setHead h {}).flag (Reg.FL_HEAD_STAT_ATTACHED h) false).flag (Reg.FL_HEAD_STAT_ALIGNED h) false).noteHead h
  | none => s

/-- The shortest signed difference of two 40-bit stamps. -/
def diff40 (a b : Nat) : Int :=
  let x := ((a : Int) - b) % 2 ^ 40
  if x < 2 ^ 39 then x else x - 2 ^ 40

/-- An extra TIME exchange of self-calibration may begin (Table 18.5, item 4): in the frame gap, at most 8 per head, 50 µs apart. -/
def State.extraTime (s : State) (k : Head) : Bool :=
  s.calItem 4 && !s.sq.inScan && (decide (k.extra.1 ≠ s.sq.frameNo) || decide (k.extra.2 < 8))
    && dueAgain s.now k.asked (50 * lsbUs) && dueAgain s.now k.extraAt (50 * lsbUs)

/-- The TIME packet joins the link's stream; t1 is the stamp of the marker of the superframe that takes its header. Its body is free, with
LEN at most 8 (R312). An exchange still under way is given up (log 67). -/
def State.askTime (s : State) (h : Nat) (k : Head) : State :=
  ((s.setHead h { k with request := some s.now, t1 := none }).sendLink k.lane 13 ((Config.timeBody s.freeCtr).take 8)).fresh

/-- HEAD_TIME_REQUEST (R313, R469): every 1 ms, and as self-calibration asks for it. -/
def execHeadTimeRequest (t : Nat) (h : HeadSlot) (s : State) : Host.Outcome State Fault Refusal :=
  s.run t fun s =>
    let k := s.head h
    if s.h (Reg.FL_HEAD_STAT_ATTACHED h) = 1 ∧ s.portUp (.lane k.lane) = true then
      if dueAgain s.now k.asked lsbMs then s.askTime h { k with asked := some s.now, extraNow := false }
      else if s.extraTime k then
        (s.calBegins (128 + h)).askTime h { k with extraNow := true, extraAt := some s.now, extra := (s.sq.frameNo, if k.extra.1 = s.sq.frameNo then k.extra.2 + 1 else 1) }
      else s
    else s

/-- 16 score times of a lane's rate, in LSB (R316). -/
def score16 (rate : Nat) : Nat := match rate with | 0 => 6400 | 1 => 3200 | _ => 1600

/-- Whether a round trip lies within 8 LSB of the mean of the last 16 accepted (R313). -/
def Head.accepts (k : Head) (rtt : Int) : Bool :=
  k.rtts.isEmpty || decide (((k.rtts.length : Int) * rtt - k.rtts.foldl (· + ·) 0).natAbs ≤ 8 * k.rtts.length)

/-- A measurement (R313, R314). -/
def State.headMeasure (s : State) (h : Nat) (rtt : Int) (t21 : Int) : State :=
  let k := s.head h
  let asym := sgn 20 (s.f (Reg.FL_HEAD_ASYM_ASYM h))
  let d32 := 16 * rtt + asym
  let o32 := 32 * t21 - d32
  let near := k.accepts rtt
  let far := d32 + 32 * (score16 (s.h (Reg.LN_LANE_STAT_RATE k.lane)) : Int) > 32 * 256000
  if near then
    let rtts := (rtt :: k.rtts).take 16
    let run := (rtt :: k.goodRun).take 16
    let s := s.setHead h { k with request := none, bad := 0, rtts := rtts, offs := (o32 :: k.offs).take 16, goodRun := run }
    let s := (s.setH (Reg.FL_HEAD_RTT_RTT h) (roundDiv (rtts.foldl (· + ·) 0) rtts.length).toNat).flag (Reg.FL_HEAD_STAT_FAR h) far
    if far then (if s.h (Reg.FL_HEAD_STAT_ALIGNED h) = 1 then s.headUnalign h else s)
    else if run.length = 16 ∧ run.foldl max rtt - run.foldl min rtt ≤ 8 ∧ k.hcfg = true then s.flag (Reg.FL_HEAD_STAT_ALIGNED h) true
    else s
  else
    let s := s.setHead h { k with request := none, bad := k.bad + 1, goodRun := [] }
    if k.bad + 1 < 4 then s
    else if s.h (Reg.FL_HEAD_STAT_ALIGNED h) = 1 then s.headUnalign h
    else s.headRestart h

/-- A reply ends its exchange. One of self-calibration is a result of item 4 (R469, R470): accepted by R313 it is counted and applied; one
that met BRACE leaves the values in use, and any other that R313 rejects counts as a rejection too. -/
def State.headResult (s : State) (h : Nat) (rtt t21 : Int) : State :=
  let k := s.head h
  let measure (s : State) : State := s.headMeasure h rtt t21
  if k.extraNow && s.calItem 4 then
    if s.calInBrace (128 + h) then (s.setHead h { k with request := none }).calResult 4 h (128 + h) false id
    else if k.accepts rtt then s.calResult 4 h (128 + h) true measure
    else measure (s.calResult 4 h (128 + h) false id)
  else measure s

/-- TIME_REPLY_RECEIVE (R313, R314): t2 and t3 stand in the body, t4 is the stamp of the marker that began the superframe. -/
def execTimeReplyReceive (t : Nat) (l : Lane) (s : State) : Host.Outcome State Fault Refusal :=
  s.run t fun s =>
    let t4 := ((s.link (s.linkOf l).1).arrived.head?.map (·.stamp)).getD 0
    match s.takePacket (.link l) 13 with
    | (s, none) => s
    | (s, some body) =>
      let b := (s.linkOf l).1
      match (List.range 48).find? fun h => (s.head h).attached.isSome && decide ((s.head h).lane = b) with
      | none => s
      | some h =>
        match (s.head h).request, (s.head h).t1 with
        | some x, some t1 =>
          if x + 100 * lsbUs ≤ s.now then s.setHead h { s.head h with request := none }
          else if body.length = 4 then
            let unit := if (s.link b).version = 1 then 100 else 1
            let t2 := ((body.getD 0 0).toNat * 2 ^ 20 + (body.getD 1 0).toNat) * unit
            let t3 := ((body.getD 2 0).toNat * 2 ^ 20 + (body.getD 3 0).toNat) * unit
            s.headResult h (diff40 t4 t1 - diff40 t3 t2) (diff40 t2 t1)
          else s
        | _, _ => s

/-- TIME_REPLY_TIMEOUT (R313): no reply 100 µs after the request; not a rejection. -/
def execTimeReplyTimeout (t : Nat) (h : HeadSlot) (s : State) : Host.Outcome State Fault Refusal :=
  s.run t fun s =>
    match (s.head h).request with
    | some x => if x + 100 * lsbUs ≤ s.now then s.setHead h { s.head h with request := none } else s
    | none => s

/-- The head slot of a link. -/
def State.slotOn (s : State) (b : Nat) : Option Nat :=
  (List.range 48).find? fun h => (s.head h).attached.isSome && decide ((s.head h).lane = b)

/-- The pixels of a head that take part in a shot, as far as Fold knows the shot. -/
def State.shotPixels (s : State) (seq h : Nat) : List Nat :=
  match s.fd.shots.find? fun x => decide (x.seq = seq) with
  | some x => (x.parts.map fun p => match p with | .counted q _ _ => q | .disabled q => q).filter (s.headHas h)
  | none =>
    match s.fd.inbound.find? fun x => decide (x.seq = seq) with
    | some d => d.pixels.filter fun p => s.headHas h p
    | none => []

/-- ENDSHOT_RECEIVE (R316): the close token of every pixel of the head that took part in the shot. -/
def execEndshotReceive (t : Nat) (l : Lane) (s : State) : Host.Outcome State Fault Refusal :=
  s.run t fun s =>
    match s.takePacket (.link l) 11 with
    | (s, none) => s
    | (s, some body) =>
      match s.slotOn (s.linkOf l).1 with
      | none => s
      | some h =>
        let seq := (body.getD 0 0).toNat
        (s.shotPixels seq h).foldl (fun s p => s.intake (.token p seq)) s

/-- One head event (R140, R141, R317) of a shot: `ofs` is the start reference less the slot instant, none where the shot is not known. -/
def State.headEvent (s : State) (h seq : Nat) (ofs : Option Int) (a b : Score) : State :=
  let lpix := b.toNat % 2 ^ 14
  let p := 512 + s.headBase h + lpix
  let stamp : Option Int := ofs.map fun o => (a.toNat : Int) - o
  if stamp.any fun x => decide (x < 0) || decide (1048575 < x) then s.inc (Reg.FL_HEAD_DISC_COUNT h)
  else if s.f Reg.FD_CFG_EN = 0 then s
  else if lpix ≥ s.headCount h ∨ p > 16895 then s.inc Reg.FD_PIX_ERR_COUNT
  else
    match stamp with
    | none => s.inc Reg.FD_ORPHAN_COUNT
    | some x =>
        let k := s.head h
        let owed := k.lossPix.contains lpix
        let s := if owed then s.setHead h { k with lossPix := k.lossPix.filter (· ≠ lpix) } else s
        s.intake (.head p seq (BitVec.ofInt 20 x) (decide (b.toNat / 2 ^ 19 = 1)) (decide (b.toNat / 2 ^ 18 % 2 = 1) || owed))

/-- The head events of a HEVT, two scores each. -/
def State.headEvents (s : State) (h seq : Nat) (ofs : Option Int) : List Score → State
  | a :: b :: r => (s.headEvent h seq ofs a b).headEvents h seq ofs r
  | _ => s

/-- HEVT_RECEIVE (R317): it waits while the start reference of its shot is not known; HLOSS is owed to every pixel after a lost HEVT. -/
def execHevtReceive (t : Nat) (l : Lane) (s : State) : Host.Outcome State Fault Refusal :=
  s.run t fun s =>
    match s.takePacket (.link l) 12 with
    | (_, none) => s
    | (s', some body) =>
      let b := (s.linkOf l).1
      match s'.slotOn b with
      | none => s'
      | some h =>
        let s' := if (s'.link b).gap then
            (s'.setLink b { s'.link b with gap := false }).setHead h { s'.head h with lossPix := List.range (s'.headCount h) }
          else s'
        let seq := (body.getD 0 0).toNat
        match s'.tl.shots.find? fun x => decide (x.seq = seq) with
        | none => s'.headEvents h seq none (body.drop 1)
        | some x =>
          match x.ffb with
          | none => s
          | some ffb => s'.headEvents h seq (some (stampDiff ffb x.place - sgn 20 (s'.f (Reg.TE_FFB_DLY_DLY x.emitter)))) (body.drop 1)

/-! ### HELLO and the partner table (R304 to R308) -/

def State.setPartners (s : State) (ps : List Partner) : State :=
  ({ s with fl := { s.fl with partners := ps } }).setH Reg.FL_STAT_PARTNERS ps.length

/-- The HELLO body (Table 12.3). -/
def State.helloBody (s : State) (profile version : Nat) : List Score :=
  let s2 := profile * 2 ^ 18 + version * 2 ^ 16
  let head : List Score := [BitVec.ofNat 20 (s.ident / 2 ^ 20), BitVec.ofNat 20 s.ident]
  if profile = 0 then head ++ [BitVec.ofNat 20 s2, 0, 0, 0, 0, 0]
  else
    let dg := s.h Reg.SQ_PLAN_DIGEST_H_DIGEST * 2 ^ 16 + s.h Reg.SQ_PLAN_DIGEST_L_DIGEST
    head ++ [BitVec.ofNat 20 (s2 + s.fl.consist.inEffect.toNat % 2 ^ 16 / 2 ^ 7 * 2 ^ 7), BitVec.ofNat 20 s.framePer,
      BitVec.ofNat 20 (s.f Reg.SQ_PLAN_CFG_SPACING), BitVec.ofNat 20 (dg / 2 ^ 20), BitVec.ofNat 20 dg, BitVec.ofNat 20 (s.h Reg.SQ_PLAN_STAT_STATE)]

/-- The beacon period (R304): BCN_PER in ms, 0 acts as 1. -/
def State.beacon (s : State) : Nat := max 1 (s.fu 0 Reg.FL_CFG_BCN_PER) * lsbMs

/-- HELLO_SEND (R304): every BCN_PER ms, on a link whose CAPS exchange is complete, or to EP_GRP on a B-lane in BASE-R mode. -/
def execHelloSend (t : Nat) (l : Lane) (s : State) : Host.Outcome State Fault Refusal :=
  s.run t fun s =>
    let b := (s.linkOf l).1
    let k := s.link b
    if (s.ethUp l || s.portUp (.lane b)) && dueAgain s.now k.helloAt s.beacon then
      let s := s.setLink b { k with helloAt := some s.now }
      if s.ethUp l then s.sendUdp l s.epGrp (s.f Reg.EP_FL_PORT_PORT) 2 (s.helloBody 2 3)
      else s.sendLink b 2 (s.helloBody (laneProfile b) k.version)
    else s

/-- Which consumers a partner is. -/
def Sub.ofPartner (ident : Nat) (u : Sub) : Bool := decide (u.who = Consumer.partner ident)

/-- A partner detaches (R308, R310). The event names the identity as its source (DEDUCED, unsafe, log 129: Table 12.9 gives no argument to it). -/
def State.detach (s : State) (p : Partner) : State :=
  let s := s.setPartners (s.fl.partners.filter fun q => decide (q.ident ≠ p.ident))
  let s := (s.fl.subs.filter (Sub.ofPartner p.ident)).foldl (fun s u => s.endSub u) s
  let s := { s with ev := { s.ev with dests := s.ev.dests.filter fun d => decide (d.who ≠ Consumer.partner p.ident) } }
  let s := if p.profile = 0 then s.headDetach p.ident else s
  ((s.planForget p.ident).raiseAbout p.ident .detach Ev.detach.sev p.port.lowest p.profile).topology

/-- The lowest free index of the partner table. -/
def State.freePartner (s : State) : Nat := ((List.range 256).find? fun i => s.fl.partners.all fun p => decide (p.idx ≠ i)).getD 0

/-- A new identity (R303, R305, R308). -/
def State.attach (s : State) (p : Partner) : State :=
  if s.fl.partners.length ≥ 256 then
    let s := s.inc Reg.FL_PT_REFUSE_COUNT
    if s.fl.refusedIds.contains p.ident then s
    else ({ s with fl := { s.fl with refusedIds := p.ident :: s.fl.refusedIds } }).raise .partnerFull p.port.lowest 0
  else
    let s := s.setPartners (s.fl.partners ++ [{ p with idx := s.freePartner }])
    let s := { s with fl := { s.fl with refusedIds := s.fl.refusedIds.filter (· ≠ p.ident) } }
    let s := s.raiseAbout p.ident .attach Ev.attach.sev p.port.lowest p.profile
    let s := if p.version < 3 then s.raiseAbout p.ident .planLegacy Ev.planLegacy.sev p.port.lowest p.version else s
    let s := if p.profile = 0 then (match s.slotOfLink p.port.lowest with | some h => s.headAttach h p.port.lowest p.ident | none => s) else s
    s.topology

/-- A head that answers on another link leaves its slot for the one that the link matches (R305, R311; DEDUCED, unsafe, log 141). -/
def State.headMove (s : State) (ident b : Nat) : State :=
  let s := s.headDetach ident
  match s.slotOfLink b with
  | some h => s.headAttach h b ident
  | none => s

/-- A HELLO that stands, from a port (R305, R306). -/
def State.hello (s : State) (port : PortRef) (body : List Score) : State :=
  let ident := (joinHL (body.getD 0 0) (body.getD 1 0)).toNat
  let s2 := (body.getD 2 0).toNat
  let profile := s2 / 2 ^ 18
  let version := match port with | .lane b => (s.link b).version | .eth _ _ => max 1 (s2 / 2 ^ 16 % 4)
  let other := match port with
    | .lane b => s.fl.partners.find? fun p => decide (p.port = .lane b) && decide (p.ident ≠ ident)
    | .eth _ _ => none
  let s := match other with | some p => s.detach p | none => s
  let new : Partner := { idx := 0, ident := ident, profile := profile, version := version, port := port, hello := body, heardAt := s.now
                         legacy := decide (version < 3) }
  let s : State := match s.partner ident with
    | none => s.attach new
    | some p =>
      let s := s.setPartners (s.fl.partners.map fun q => if q.ident = ident then { new with idx := q.idx } else q)
      if p.port = port then s
      else
        let s := if p.profile = 0 then s.headMove ident port.lowest else s
        (s.raiseAbout ident .move Ev.move.sev port.lowest p.port.lowest).topology
  if (s.partner ident).isSome && decide (profile ≠ 0) && decide (version ≥ 3) then
    (s.planHear ident (body.getD 3 0).toNat (body.getD 4 0).toNat id).planAgree
  else s.planForget ident

/-- HELLO_RECEIVE (R304, R305, R306, R308); the node's own HELLO is no partner's. -/
def execHelloReceive (t : Nat) (src : RxFrom) (s : State) : Host.Outcome State Fault Refusal :=
  s.run t fun s =>
    match s.takePacket src 2 with
    | (s, none) => s
    | (s, some body) =>
      if body.length = 8 ∧ (joinHL (body.getD 0 0) (body.getD 1 0)).toNat ≠ s.ident then s.hello (s.portOf src) body else s

/-- Whether a partner detaches now (R306). -/
def State.detachDue (s : State) (p : Partner) : Bool :=
  let k := s.link p.port.lowest
  if k.up then decide (max p.heardAt k.since + max 1 (s.fu 0 Reg.FL_CFG_BCN_MISS) * s.beacon ≤ s.now)
  else decide (k.since + s.fu 0 Reg.FL_CFG_DOWN_HOLD * lsbMs ≤ s.now)

/-- DETACH (R306, R308) of the partner at an index of the table. -/
def execDetach (t : Nat) (i : Fin 256) (s : State) : Host.Outcome State Fault Refusal :=
  s.run t fun s =>
    match s.fl.partners.find? fun p => decide (p.idx = i.val) with
    | some p => if s.detachDue p then s.detach p else s
    | none => s

/-- CONSIST_RECEIVE (R307, R45): a changed topology counter is a topology event; the position waits for the new plan. DESIGN CHOICE (unsafe, log 123): the counter has 32
bits, S0 [11:0] and S1, where the spec gives two scores and no width, and the first CONSIST counts as a change. -/
def execConsistReceive (t : Nat) (src : RxFrom) (s : State) : Host.Outcome State Fault Refusal :=
  s.run t fun s =>
    match s.takePacket src 15 with
    | (s, none) => s
    | (s, some body) =>
      if body.length = 7 ∧ (s.portOf src).lowest ≥ 128 then
        let g (i : Nat) : Score := body.getD i 0
        let ctr := (joinHL (g 0) (g 1)).toNat
        let c := s.fl.consist
        let changed := !c.have_ || decide (ctr ≠ c.counter)
        let s := { s with fl := { s.fl with consist := { c with
          have_ := true, counter := ctr, position := g 2, front := (joinHL (g 3) (g 4)).toNat, rear := (joinHL (g 5) (g 6)).toNat
          pendingPos := if g 2 = c.inEffect then none else some (g 2), planAgreed := if changed then false else c.planAgreed } } }
        if changed then (s.raise .consist ctr 0).topology else s
      else s

/-! ### Triggers, subscriptions, PTP (R309, R318 to R321) -/

/-- TRIG_RECEIVE (R321): an external start under EXT_SEL 3. -/
def execTrigReceive (t : Nat) (l : Lane) (s : State) : Host.Outcome State Fault Refusal :=
  s.run t fun s =>
    match s.takePacket (.link l) 9 with
    | (s, some _) => s.externalStart .trigMarker
    | (s, none) => s

/-- Event destinations without a subscription go. -/
def State.pruneDests (s : State) : State :=
  { s with ev := { s.ev with dests := s.ev.dests.filter fun d => s.fl.subs.any fun u => decide (u.kind = 1) && decide (u.who = d.who) } }

/-- SUB_EXPIRED (R309). -/
def execSubExpired (t : Nat) (i : Fin 1024) (s : State) : Host.Outcome State Fault Refusal :=
  s.run t fun s =>
    match s.fl.subs.find? fun u => decide (u.idx = i.val) with
    | some u =>
      match u.expires with
      | some e => if e ≤ s.now then ((s.endSub u).pruneDests).raise .subExpired i 0 else s
      | none => s
    | none => s

def State.setPtp (s : State) (p : Ptp) : State := { s with fl := { s.fl with ptp := p } }

/-- EP_STAT.PTP_STATE and PTP_LANE follow. -/
def State.ptpStat (s : State) : State :=
  let s := s.setH Reg.EP_STAT_PTP_STATE s.ptpState
  match s.fl.ptp.chosen with
  | some m => s.setH Reg.EP_STAT_PTP_LANE (m.lane - 128)
  | none => s

/-- Whether a PTP message is taken (R318, R320): counted as dropped where R320 says so. -/
def State.ptpTakes (s : State) (m : PtpFrom) : Bool :=
  s.ethUp m.lane && s.f Reg.EP_PTP_CFG_EN == 1 && decide (s.f Reg.EP_PTP_PORTS_LANES / 2 ^ (m.lane.val - 128) % 2 = 1)
    && decide (m.domain = s.f Reg.EP_PTP_CFG_DOMAIN) && (m.udp == (s.f Reg.EP_PTP_CFG_UDP == 1))
    && (m.udp == m.env.port.any fun p => p == 319 || p == 320)

/-- A PTP message goes on if R320 keeps its frame and R318 takes it. -/
def State.ptpMessage (s : State) (m : PtpFrom) (f : State → State) : State :=
  if s.ethUp m.lane && !s.frameKept m.env s.servedPorts then s.inc Reg.EP_RX_DROP_COUNT
  else if s.ptpTakes m then f s
  else s

/-- The lexicographic order of lists. -/
def rankLess : List Nat → List Nat → Bool
  | [], [] => false
  | [], _ => true
  | _, [] => false
  | a :: r, b :: q => if a < b then true else if b < a then false else rankLess r q

/-- What the clock algorithm compares of two transmitters with different grandmasters, and of two with one (IEEE 1588-2019; PRESUMED, log 69). -/
def PtpMaster.rank (m : PtpMaster) : List Nat :=
  [m.ann.priority1, m.ann.clockClass, m.ann.accuracy, m.ann.variance, m.ann.priority2, m.ann.grandmaster]
def PtpMaster.path (m : PtpMaster) : List Nat := [m.ann.steps, m.ident, m.lane]

/-- Whether one time transmitter is better than another. -/
def PtpMaster.better (a b : PtpMaster) : Bool :=
  if a.ann.grandmaster = b.ann.grandmaster then rankLess a.path b.path else rankLess a.rank b.rank

/-- A transmitter is heard no more 6 s after its last Announce: three intervals of 2 s, as the default profile has them (PRESUMED, log 69). -/
def announceTimeout : Nat := 6 * lsbS

/-- The transmitters of which an Announce has come within the receipt time-out. -/
def State.ptpHeard (s : State) : List PtpMaster := s.fl.ptp.masters.filter fun x => decide (s.now < x.heardAt + announceTimeout)

/-- The best of the time transmitters heard. -/
def bestMaster : List PtpMaster → Option PtpMaster
  | [] => none
  | m :: r => match bestMaster r with | some b => if b.better m then some b else some m | none => some m

/-- PTP_ANNOUNCE_RECEIVE (R318): the best time transmitter clock algorithm chooses anew. -/
def execPtpAnnounceReceive (t : Nat) (m : PtpFrom) (ann : PtpAnnounce) (s : State) : Host.Outcome State Fault Refusal :=
  s.run t fun s => s.ptpMessage m fun s =>
    let others := s.ptpHeard.filter fun x => decide (x.ident ≠ m.sender) || decide (x.lane ≠ m.lane.val)
    let ms := others ++ [{ ann := ann, heardAt := s.now, lane := m.lane, ident := m.sender }]
    (s.setPtp { s.fl.ptp with masters := ms, chosen := bestMaster ms }).ptpStat

/-- PTP is lost (R319): PTP loss under Table 4.4. -/
def State.ptpLost (s : State) : State :=
  let p := s.fl.ptp
  ((s.setPtp { p with locked := false, good := 0, far := 0, stepBy := none }).ptpStat).planLocal

/-- PTP is locked (R319): the plan enters ANNOUNCE from LOCAL. -/
def State.ptpLocked (s : State) : State :=
  let s := (s.setPtp { s.fl.ptp with locked := true }).ptpStat
  if s.h Reg.SQ_PLAN_STAT_STATE = 0 then s.planStart else s

/-- A signed value limited to 20 bits, as a register holds it. -/
def satField (i : Int) : Nat := low 20 (satSigned i)

/-- Transmitters whose Announce is timed out are heard no more, and the best of the others is chosen (R318). -/
def State.ptpPrune (s : State) : State :=
  if s.ptpHeard = s.fl.ptp.masters then s else (s.setPtp { s.fl.ptp with masters := s.ptpHeard, chosen := bestMaster s.ptpHeard }).ptpStat

/-- PTP_SYNC_RECEIVE (R318, R319): `origin` is the time transmitter's stamp with its corrections, in LSB of PTP time. Below 1 ms the time base slews
its frequency; every instant of the model counts LSB of the time base, node time among them, so the slew reaches node time through the
instants that later commands bring (DEDUCED, log 161). A Delay_Req answers each Sync (PRESUMED, log 69). -/
def execPtpSyncReceive (t : Nat) (m : PtpFrom) (origin : Nat) (s : State) : Host.Outcome State Fault Refusal :=
  s.run t fun s => s.ptpMessage m fun s =>
    let s := s.ptpPrune
    let p := s.fl.ptp
    if p.chosen.any fun c => decide (c.ident = m.sender) && decide (c.lane = m.lane.val) then
      let diff := (s.nodeTime : Int) - origin
      let ofs := diff - p.delay
      let thr := 128 * s.f Reg.EP_PTP_CFG_LOCK_THR
      let inThr := ofs.natAbs ≤ thr
      let good := if inThr then p.good + 1 else 0
      let far := if ofs.natAbs > 10 * thr then p.far + 1 else 0
      let big := !p.locked && decide (ofs.natAbs > lsbMs)
      let s := (s.fresh).setH Reg.EP_PTP_OFS_OFS (satField (roundDiv ofs 128))
      let s := s.setPtp { p with good := good, far := far, lastSync := s.now, syncDiff := diff, asked := true
                                 stepBy := if big then some (-ofs) else if p.locked then p.stepBy else none
                                 slewPpb := if big then 0 else ((Config.ptpSlew s.freeCtr).val : Int) - 50000 }
      let s := s.send (.delayReq m.lane m.domain m.udp (s.ether m.lane))
      if p.locked then (if far ≥ 4 then s.ptpLost else s) else if good ≥ 8 then s.ptpLocked else s
    else s

/-- PTP_SYNC_TIMEOUT (R319): no Sync for 3 s. -/
def execPtpSyncTimeout (t : Nat) (s : State) : Host.Outcome State Fault Refusal :=
  s.run t fun s =>
    let p := s.fl.ptp
    if p.lastSync + 3 * lsbS ≤ s.now ∧ (p.locked = true ∨ p.chosen.isSome = true) then
      (s.setPtp { p with chosen := none, masters := p.masters.filter fun x => decide (some x ≠ p.chosen) }).ptpLost
    else s

/-- PTP_DELAY_RESP_RECEIVE (R318): the path delay of the end-to-end mechanism from this exchange (`sent` by the device, `received` by the time
transmitter, in LSB) and the last Sync; it answers a Delay_Req. -/
def execPtpDelayRespReceive (t : Nat) (m : PtpFrom) (sent received : Nat) (s : State) : Host.Outcome State Fault Refusal :=
  s.run t fun s => s.ptpMessage m fun s =>
    let p := s.fl.ptp
    if p.asked && p.chosen.any fun c => decide (c.ident = m.sender) && decide (c.lane = m.lane.val) then
      s.setPtp { p with asked := false, delay := roundDiv (p.syncDiff + ((received : Int) - sent)) 2 }
    else s

/-- FL_CFG.CNT_CLR (R326): all FL_ and EP_ counters. -/
def State.flCntClr (s : State) : State :=
  s.clear ([Reg.FL_PKT_ERR_COUNT, Reg.FL_PT_REFUSE_COUNT, Reg.FL_SUB_DROP_COUNT, Reg.FL_EVT_MERGED_COUNT, Reg.FL_EVT_SUPP_COUNT,
    Reg.EP_RX_DROP_COUNT, Reg.EP_PTP_STEP_COUNT] ++ (List.range 48).map Reg.FL_HEAD_DISC_COUNT)

/-- FL_CNT_CLR (R326). -/
def execFlCntClr (t : Nat) (s : State) : Host.Outcome State Fault Refusal := s.run t fun s => s.flCntClr

/-- A read of EP_TIME_SEC takes a snapshot of node time (R326). -/
def State.epTimeRead (s : State) : State :=
  let ns := s.nodeTime % lsbS / 128
  ((s.setH Reg.EP_TIME_SEC_SEC (s.nodeTime / lsbS % 2 ^ 20)).setH Reg.EP_TIME_NS_H_NS (ns / 2 ^ 20)).setH Reg.EP_TIME_NS_L_NS (ns % 2 ^ 20)

/-- EP_TIME_READ (R326). -/
def execEpTimeRead (t : Nat) (s : State) : Host.Outcome State Fault Refusal := s.run t fun s => s.epTimeRead

end Sys2Proof.Machine
end

