-- ==== Sys2Proof/Machine/Events.lean ====
section
/-!
DEFINITION. The event manager (R322 to R325, R494): merge windows, destinations, EVENT packets.
-/

namespace Sys2Proof.Machine

/-- Severities in the order of Table 12.5. -/
def Sev.code : Sev → Nat
  | .info => 0
  | .amber => 1
  | .crimson => 2

def Sev.ofCode : Nat → Sev
  | 0 => .info
  | 1 => .amber
  | _ => .crimson

/-- The waiting record to drop (R323): the oldest of the lowest severity present. -/
def dropIndex (l : List Report) : Nat :=
  let lowest := (l.map (·.sev.code)).foldl min 2
  l.findIdx fun r => decide (r.sev.code = lowest)

/-- A token every 1/256 s up to 32 (R323). -/
def EvDest.refill (d : EvDest) (now : Nat) : EvDest :=
  let n := (now - d.refillAt) / 500000000
  { d with tokens := min 32 (d.tokens + n), refillAt := d.refillAt + n * 500000000 }

/-- A record comes to wait for a destination: at most 256 wait; the number suppressed. -/
def EvDest.push (d : EvDest) (r : Report) : EvDest × Nat :=
  let l := d.waiting ++ [r]
  if l.length > 256 then ({ d with waiting := l.eraseIdx (dropIndex l), suppressed := d.suppressed + 1 }, 1) else ({ d with waiting := l }, 0)

/-- Whether some event subscription of a consumer covers a severity (R323). -/
def State.wants (s : State) (who : Consumer) (sev : Sev) : Bool :=
  s.fl.subs.any fun u => decide (u.kind = 1) && decide (u.who = who) && decide (u.arg ≤ sev.code)

/-- Whether a report may reach a consumer (R324): a partner's one only with RELAY and not once relayed, and never back to its port. -/
def State.mayGo (s : State) (who : Consumer) (r : Report) : Bool :=
  (r.port.isNone || (s.fu 0 Reg.FL_CFG_RELAY == 1 && !r.relayed))
    && (match who with
        | .partner i => match s.partner i with | some p => decide (r.port ≠ some p.port) | none => false
        | .eth ip _ => match r.port with | some (.eth _ ip') => decide (ip' ≠ ip) | _ => true
        | .svc => true)

/-- The one record of several reports of a key (R322): their count, the first and last reporters, the time and arguments of the first; RELAYED
where a partner reported one of them (R324). -/
def mergeReports (rs : List Report) : Option Report :=
  rs.head?.map fun r => { r with
    count := min scoreMax ((rs.map (·.count)).foldl (· + ·) 0), last := (rs.getLast?.getD r).last, relayed := rs.any fun x => x.port.isSome }

/-- What a destination takes of the reports of a key: one record of those that may reach it. The spec does not say what R324 does to a record that
merges reports of several origins: the model leaves out of it, for each destination, the reports that may not go there (DESIGN CHOICE, log 160). -/
def State.offerEvent (s : State) (rs : List Report) (d : EvDest) : EvDest × Nat :=
  match mergeReports (rs.filter (s.mayGo d.who)) with
  | some r => if s.wants d.who r.sev then d.push r else (d, 0)
  | none => (d, 0)

/-- The record of one report, or of the reports merged, goes to every destination that takes it. -/
def State.deliverEvent (s : State) (rs : List Report) : State :=
  let ds := s.ev.dests.map (s.offerEvent rs)
  ({ s with ev := { s.ev with dests := ds.map Prod.fst } }).add Reg.FL_EVT_SUPP_COUNT ((ds.map Prod.snd).foldl (· + ·) 0)

def Report.key (r : Report) : Nat × Nat := (r.src, r.code)

/-- The merge window of a key. -/
def State.window (s : State) (r : Report) : Option EvWindow := s.ev.windows.find? fun w => decide ((w.src, w.code) = r.key)

def State.dropWindow (s : State) (src code : Nat) : State :=
  { s with ev := { s.ev with windows := s.ev.windows.filter fun w => decide ((w.src, w.code) ≠ (src, code)) } }

/-- A window's end: one record of the merged reports follows (R322). -/
def State.closeMerge (s : State) (w : EvWindow) : State :=
  (s.dropWindow w.src w.code).deliverEvent w.merged

/-- A report is sent at once and opens a window (R322). -/
def State.openMerge (s : State) (r : Report) : State :=
  let s := s.deliverEvent [r]
  { s with ev := { s.ev with windows := s.ev.windows ++ [{ src := r.src, code := r.code, opened := s.now, merged := [] }] } }

/-- The event manager takes one report (R322). -/
def State.takeReport (s : State) (r : Report) : State :=
  match s.window r with
  | none => s.openMerge r
  | some w =>
    if w.opened + 20 * lsbMs ≤ s.now then (s.closeMerge w).openMerge r
    else
      let s := s.inc Reg.FL_EVT_MERGED_COUNT
      { s with ev := { s.ev with windows := s.ev.windows.map fun v => if (v.src, v.code) = r.key then { v with merged := v.merged ++ [r] } else v } }

/-- EVENT_REPORT (R322): the oldest report. A trigger unit of kind 5 sees it, at the node time of the event (R246). -/
def execEventReport (t : Nat) (s : State) : Host.Outcome State Fault Refusal :=
  s.run t fun s =>
    match s.ev.inbox with
    | [] => s
    | r :: rest =>
      let s := ({ s with ev := { s.ev with inbox := rest } }).takeReport r
      if r.port.isNone then s.aqTriggerAt (.event r.sev.code) (min s.now (s.atNode r.time)) else s

/-- EVENT_MERGE_END (R322): every window that is 20 ms old ends. -/
def execEventMergeEnd (t : Nat) (s : State) : Host.Outcome State Fault Refusal :=
  s.run t fun s => (s.ev.windows.filter fun w => decide (w.opened + 20 * lsbMs ≤ s.now)).foldl (fun s w => s.closeMerge w) s

/-- An event record (Table 12.5), in the full or the short layout. -/
def Report.scores (r : Report) (short : Bool) : List Score :=
  let e0 : Score := BitVec.ofNat 20 (r.sev.code * 2 ^ 18 + r.code % 2 ^ 12 * 2 ^ 6 + (if r.relayed then 32 else 0))
  let us := r.time / lsbUs % 2 ^ 40
  let n (x : Nat) : Score := BitVec.ofNat 20 x
  if short then [e0, n (r.src / 2 ^ 20), n r.src, n (us / 2 ^ 20), n us, n r.e10]
  else [e0, n (r.src / 2 ^ 20), n r.src, n (r.first / 2 ^ 20), n r.first, n (r.last / 2 ^ 20), n r.last, n r.count,
    n (us / 2 ^ 20), n us, n r.e10, n r.e11]

/-- The records one EVENT packet takes: up to 16, within the LEN limit. -/
def eventTake (version : Nat) : Nat := if version = 1 then 10 else 16

/-- An EVENT packet of a destination: on its way, or waiting at the service port to be read (R398, R400). -/
def State.sendEvent (s : State) (who : Consumer) (n : Nat) (body : List Score) : State :=
  match who with
  | .svc => { s with cm := { s.cm with event := some (packetScores 5 s.cm.evSeq body), evSeq := (s.cm.evSeq + 1) % 256 } }
  | _ =>
    match s.fl.subs.find? fun u => decide (u.kind = 1) && decide (u.who = who) with
    | none => s
    | some u => if s.subUp u then s.sendSub u 5 body else s.subDrop n

/-- EVENT_PACKET_SEND (R323, R325) to the destination at an index; the service port holds one packet at a time. -/
def execEventPacketSend (t : Nat) (i : Fin 1024) (s : State) : Host.Outcome State Fault Refusal :=
  s.run t fun s =>
    match s.ev.dests[i.val]? with
    | none => s
    | some d =>
      let d := d.refill s.now
      if (d.who = .svc ∧ s.cm.event.isSome = true) ∨ d.waiting = [] ∨ d.tokens = 0 then { s with ev := { s.ev with dests := s.ev.dests.set i d } }
      else
        let v := s.subVersion d.who
        let recs := d.waiting.take (eventTake v)
        let d' := { d with waiting := d.waiting.drop (eventTake v), tokens := d.tokens - 1, suppressed := 0 }
        let s := { s with ev := { s.ev with dests := s.ev.dests.set i d' } }
        s.sendEvent d.who recs.length
          ((BitVec.ofNat 20 (min scoreMax d.suppressed) : Score) :: recs.flatMap fun r => r.scores (decide (v < 3)))

/-- The records of a received EVENT packet (R324). -/
def eventRecords (short : Bool) (port : PortRef) (from_ : Nat) : Nat → List Score → List Report
  | 0, _ => []
  | f + 1, l =>
    let n := if short then 6 else 12
    if l.length < n then []
    else
      let g (i : Nat) : Nat := (l.getD i 0).toNat
      let id (i : Nat) : Nat := (joinHL (l.getD i 0) (l.getD (i + 1) 0)).toNat
      let ti := if short then 3 else 8
      let r : Report :=
        { src := id 1, code := g 0 / 2 ^ 6 % 2 ^ 12, sev := Sev.ofCode (g 0 / 2 ^ 18), e10 := g (ti + 2), e11 := if short then 0 else g 11
          count := if short then 1 else g 7, first := if short then from_ else id 3, last := if short then from_ else id 5
          time := (g ti * 2 ^ 20 + g (ti + 1)) * lsbUs, relayed := decide (g 0 / 32 % 2 = 1), port := some port }
      r :: eventRecords short port from_ f (l.drop n)

/-- EVENT_PACKET_RECEIVE (R324): the records are reports of the event manager. -/
def execEventPacketReceive (t : Nat) (src : RxFrom) (s : State) : Host.Outcome State Fault Refusal :=
  s.run t fun s =>
    match s.takePacket src 5 with
    | (s, none) => s
    | (s, some body) =>
      let port := s.portOf src
      let p := s.fl.partners.find? fun q => decide (q.port = port)
      let v := match src with | .link l => (s.link (s.linkOf l).1).version | .udp l _ ip _ => s.udpVersion l ip
      let rs := eventRecords (decide (v < 3)) port (match p with | some q => q.ident | none => 0) 43 (body.drop 1)
      { s with ev := { s.ev with inbox := s.ev.inbox ++ rs } }

end Sys2Proof.Machine
end

