-- ==== Sys2Proof/Machine/Acquire.lean ====
section
/-!
DEFINITION. The commands of the acquisition engine (09_acquisition_engine.md): arm, abort, force, hold-off, read-out.
-/

namespace Sys2Proof.Machine

/-- The registers of a trigger unit as last written. -/
def State.unitRegs (s : State) (u : Nat) : List Score :=
  [Reg.AQ_TRG_CFG u, Reg.AQ_TRG_SRC u, Reg.AQ_TRG_LVL u, Reg.AQ_TRG_HYST u].map s.oneReg

/-- The fields of a trigger unit take effect (R246, R247, R249): the unit is unprimed, an invalid one sets CFG_ERR. -/
def State.loadUnit (s : State) (u : Nat) : State :=
  let s := s.setAqUnit u { s.aqUnit u with cfg := s.unitRegs u, rise := false, fall := false }
  if unitOk (s.unitRegs u) then s else s.flag Reg.AQ_STAT_CFG_ERR true

/-- A write to a field of unit `u` is accepted (R249): while no buffer includes the unit it takes effect now. -/
def State.unitWritten (s : State) (u : Nat) : State :=
  if [0, 1, 2, 3].any fun b => (s.aqBuf b).watches u then s else s.loadUnit u

/-- The size in force of a fold source (R241); 2,048 for a sampler, 1 for the rest. -/
def State.aqSize (s : State) (src : AqSrc) : Nat :=
  if src.kind = 3 then 256 * 2 ^ (s.fu src.index (Reg.FD_DESC0_SIZE src.index)) else if src.kind = 0 then 2048 else 1

/-- Whether the configuration an arm takes is valid (R243, R252, R254). -/
def AqBuf.armOk (x : AqBuf) : Bool :=
  let len := (Reg.AQ_BUF_LEN_LEN 0).of (x.reg 3)
  let post := (Reg.AQ_BUF_POST_POST 0).of (x.reg 4)
  (x.src.stream || x.src.block)
    && (!(x.src.kind == 3 && x.src.sub == 1) || decide (x.bin < x.size))
    && decide (1 ≤ len) && decide (len ≤ 65536) && decide (1 ≤ post) && decide (post ≤ 65536)
    && (x.isMap || decide (post ≤ len))
    && !(x.isMap && decide (0 < (Reg.AQ_BUF_CFG_AVG 0).of (x.reg 0)))
    && !(x.src.kind == 1 && x.src.sub == 1 && decide (0 < x.avg))

/-- AQ_BUF_CTL.ARM (R242, R251). -/
def State.aqArm (s : State) (b : Nat) : State :=
  if s.aqTaking b then s.flag (Reg.AQ_BUF_STAT_ARM_IGN b) true
  else
    let old := s.aqBuf b
    let cfg := [Reg.AQ_BUF_CFG b, Reg.AQ_BUF_SRC b, Reg.AQ_BUF_SRC2 b, Reg.AQ_BUF_LEN b, Reg.AQ_BUF_POST b, Reg.AQ_BUF_TRIG b,
      Reg.AQ_BUF_OFS b].map s.oneReg
    let x : AqBuf := { cfg := cfg, size := s.aqSize (aqSrc (cfg.getD 1 0)), held := old.held, next := old.next }
    let s := (List.range 16).foldl (fun s u => if x.watches u then s.loadUnit u else s) s
    let s := if (Reg.AQ_BUF_CFG_AVG 0).of (x.reg 0) > 10 then s.flag (Reg.AQ_BUF_STAT_CFG_ERR b) true else s
    if !x.armOk then ((s.setAqBuf b x).setH (Reg.AQ_BUF_STAT_STATE b) 0).flag (Reg.AQ_BUF_STAT_CFG_ERR b) true
    else
      let s := s.setH (Reg.AQ_CAP_CNT_CNT b) 0
      let s := match x.held with
        | some f => ((s.setAqBuf b { x with held := none, heldOpen := false, cap := some f, fromHeld := true }).flag (Reg.AQ_BUF_STAT_HELD b) false).setH
            (Reg.AQ_BUF_STAT_STATE b) 2
        | none => (s.setAqBuf b x).setH (Reg.AQ_BUF_STAT_STATE b) 1
      if x.src.kind = 0 then s.aqSamplerArm x.src.index else s

/-- AQ_BUF_CTL.ABORT (R242, R251). -/
def State.aqAbort (s : State) (b : Nat) : State :=
  ((s.setAqBuf b { cfg := (s.aqBuf b).cfg, size := (s.aqBuf b).size }).flag (Reg.AQ_BUF_STAT_HELD b) false).setH (Reg.AQ_BUF_STAT_STATE b) 0

/-- AQ_FORCE (R248): a unit fires whatever its kind and hold-off; firing unprimes it (R247). -/
def State.aqForce (s : State) (units : Nat) : State :=
  (List.range 16).foldl (fun s u =>
    if units / 2 ^ u % 2 = 1 then (s.setAqUnit u { s.aqUnit u with rise := false, fall := false }).aqFire u else s) s

/-- AQ_ARM (R242). -/
def execAqArm (t : Nat) (b : AqBufIx) (s : State) : Host.Outcome State Fault Refusal := s.run t fun s => s.aqArm b

/-- AQ_ABORT (R242). -/
def execAqAbort (t : Nat) (b : AqBufIx) (s : State) : Host.Outcome State Fault Refusal := s.run t fun s => s.aqAbort b

/-- AQ_FORCE (R248). -/
def execAqForce (t : Nat) (units : Fin 65536) (s : State) : Host.Outcome State Fault Refusal := s.run t fun s => s.aqForce units

/-- TRIGGER_HOLD_END (R248). -/
def execTriggerHoldEnd (t : Nat) (u : AqUnit) (s : State) : Host.Outcome State Fault Refusal :=
  s.run t fun s =>
    match (s.aqUnit u).hold with
    | some x => if x ≤ s.now then s.setAqUnit u { s.aqUnit u with hold := none } else s
    | none => s

/-- The score a read of AQ_RD_DATA returns, and what it does (R255, R256). -/
def State.aqRead (s : State) (b : Nat) : Score × State :=
  if s.aqState b ≠ 3 then (0, s.flag (Reg.AQ_BUF_STAT_RD_ERR b) true)
  else
    let x := s.aqBuf b
    let i := s.fo (Reg.AQ_RD_ADDR_ADDR b)
    let v : Score := if x.isMap then BitVec.ofNat 20 (Tab.get x.map 0 i) else x.data.getD i 0
    let last := if x.isMap then 65535 else x.preCount + x.postLen - 1
    let s := s.setFo (Reg.AQ_RD_ADDR_ADDR b) ((i + 1) % 65536)
    (v, if (Reg.AQ_BUF_CFG_AUTO 0).of (x.reg 0) = 1 ∧ i = last then s.aqArm b else s)

/-- The score a read of AQ_HIST_DATA returns, and what it does (R255). -/
def State.aqHistRead (s : State) (b : Nat) : Score × State :=
  if s.aqState b ≠ 3 then (0, s.flag (Reg.AQ_BUF_STAT_RD_ERR b) true)
  else
    let i := s.fo (Reg.AQ_HIST_ADDR_ADDR b)
    (BitVec.ofNat 20 (Tab.get (s.aqBuf b).hist 0 i), s.setFo (Reg.AQ_HIST_ADDR_ADDR b) ((i + 1) % 1024))

/-- AQ_RD_DATA_READ (R255, R256). -/
def execAqRdDataRead (t : Nat) (b : AqBufIx) (s : State) : Host.Outcome State Fault Refusal := s.run t fun s => (s.aqRead b).2

/-- AQ_HIST_DATA_READ (R255). -/
def execAqHistDataRead (t : Nat) (b : AqBufIx) (s : State) : Host.Outcome State Fault Refusal := s.run t fun s => (s.aqHistRead b).2

/-- AQ_CFG.CNT_CLR (R257). -/
def State.aqCntClr (s : State) : State :=
  s.clear ([0, 1, 2, 3].flatMap fun b => [Reg.AQ_MISSED_COUNT b, Reg.AQ_BLOCK_SKIP_COUNT b])

/-- AQ_CNT_CLR (R257). -/
def execAqCntClr (t : Nat) (s : State) : Host.Outcome State Fault Refusal := s.run t fun s => s.aqCntClr

end Sys2Proof.Machine
end

