-- ==== Sys2Proof/Machine/DmaOps.lean ====
section
/-!
DEFINITION. What a DMA channel does with its elements (R369, R371 to R373, R375, R376): widths, conversion, reshuffling, flush, and when it
waits.
-/

namespace Sys2Proof.Machine

/-! ### A channel's fields -/

def DmaChan.skind (c : DmaChan) : Nat := (Reg.DM_CH_CFG_SKIND 0).of c.cfg
def DmaChan.dkind (c : DmaChan) : Nat := (Reg.DM_CH_CFG_DKIND 0).of c.cfg
/-- Element widths in bits. -/
def DmaChan.sw (c : DmaChan) : Nat := 8 * 2 ^ (Reg.DM_CH_CFG_SW 0).of c.cfg
def DmaChan.dw (c : DmaChan) : Nat := 8 * 2 ^ (Reg.DM_CH_CFG_DW 0).of c.cfg
def DmaChan.pack (c : DmaChan) : Bool := decide ((Reg.DM_CH_CFG_PACK 0).of c.cfg = 1)
def DmaChan.sign (c : DmaChan) : Bool := decide ((Reg.DM_CH_CFG_SIGN 0).of c.cfg = 1)
def DmaChan.be (c : DmaChan) : Bool := decide ((Reg.DM_CH_CFG_BE 0).of c.cfg = 1)
def DmaChan.fixed (c : DmaChan) : Bool := decide ((Reg.DM_CH_CFG_FIXED 0).of c.cfg = 1)
def DmaChan.shuf (c : DmaChan) : Nat := (Reg.DM_CH_CFG_SHUF 0).of c.cfg
def DmaChan.mstop (c : DmaChan) : Bool := decide ((Reg.DM_CH_CFG_MSTOP 0).of c.cfg = 1)
/-- The selected scores of a record, in ascending order (R372). -/
def DmaChan.sel (c : DmaChan) : List Nat := [0, 1, 2, 3].filter fun j => decide ((Reg.DM_CH_CFG_PMASK 0).of c.cfg / 2 ^ j % 2 = 1)

/-- Where a channel writes. -/
inductive DmaDest where
  | sram | byteQueue | records
  deriving DecidableEq, Repr

def State.dmaDest (s : State) (c : DmaChan) : DmaDest :=
  if c.dkind = 2 then (if (s.dmQueue (c.dst % 16)).fmt1 then .byteQueue else .records) else .sram

def DmaDest.isByte : DmaDest → Bool
  | .records => false
  | _ => true

/-- The bit stream passes without being cut into scores (R371): both sides of byte kind with PACK, or a plain copy in SRAM. -/
def DmaChan.bitwise (c : DmaChan) (d : DmaDest) : Bool :=
  decide (c.shuf = 0) && decide (c.skind = 1) && d.isByte && (c.pack || (decide (d = .sram) && decide (c.sw = c.dw)))

/-- A plain copy from SRAM to SRAM. -/
def DmaChan.plainSram (c : DmaChan) (d : DmaDest) : Bool :=
  decide (c.shuf = 0) && decide (c.skind = 1) && decide (d = .sram) && decide (c.sw = c.dw)

/-! ### Conversion (R371 to R373) -/

/-- What a grant does: the channel after it, bytes for the SRAM, bytes or records for a queue, whether the transfer ends and at which MARK. -/
structure DmaRun where
  c : DmaChan
  sram : List (Nat × BitVec 8) := []
  bytes : List (BitVec 8) := []
  recs : List (List Score) := []
  ended : Bool := false
  mark : Option Nat := none
  deriving DecidableEq, Repr

/-- The bytes of an element as they are stored (R371 step 4). -/
def elemBytes (be : Bool) (w x : Nat) : List (BitVec 8) :=
  let l := (List.range (w / 8)).map fun i => BitVec.ofNat 8 (x / 256 ^ i)
  if be then l.reverse else l

/-- One element is written to a stream or plane. -/
def DmaRun.putElem (r : DmaRun) (d : DmaDest) (k x : Nat) : DmaRun :=
  let b := elemBytes r.c.be r.c.dw x
  let n := Tab.get r.c.wrote 0 k
  let pos := if r.c.back then r.c.count - 1 - n else n
  let a := r.c.dst + k * r.c.stride + pos * (r.c.dw / 8)
  let r := { r with c := { r.c with wrote := Tab.set r.c.wrote 0 k (n + 1) } }
  if d = .sram then { r with sram := r.sram ++ (List.range b.length).map fun i => (a + i, b.getD i 0) }
  else { r with bytes := r.bytes ++ b }

/-- A bit stream, most significant bit first, as a number. -/
def bitsNat (l : List Bool) : Nat := l.foldl (fun n b => 2 * n + (if b then 1 else 0)) 0

/-- Whole elements are cut off a bit stream. -/
def cutBits (w : Nat) : Nat → List Bool → List Nat × List Bool
  | 0, l => ([], l)
  | f + 1, l =>
    if l.length < w then ([], l)
    else
      let r := cutBits w f (l.drop w)
      (bitsNat (l.take w) :: r.1, r.2)

/-- Bits enter the holding register of a stream or plane. -/
def DmaRun.putBits (r : DmaRun) (d : DmaDest) (k : Nat) (bits : List Bool) : DmaRun :=
  let x := cutBits r.c.dw 20 (Tab.get r.c.out [] k ++ bits)
  let r := x.1.foldl (fun r e => r.putElem d k e) r
  { r with c := { r.c with out := Tab.set r.c.out [] k x.2 } }

/-- A score in an element of its own: right-aligned, the upper bits 0 or copies of bit 19. -/
def expandScore (w : Nat) (sign : Bool) (v : Score) : Nat := if sign then (v.signExtend w).toNat else v.toNat

/-- One score is written to a stream or plane. -/
def DmaRun.putScore (r : DmaRun) (d : DmaDest) (k : Nat) (v : Score) : DmaRun :=
  match d with
  | .records =>
    let f := r.c.fill ++ [v]
    if f.length = 4 then { r with c := { r.c with fill := [] }, recs := r.recs ++ [f] } else { r with c := { r.c with fill := f } }
  | _ => if r.c.pack then r.putBits d k (bitsMsb 20 v.toNat) else r.putElem d k (expandScore r.c.dw r.c.sign v)

/-- A whole record is reshuffled (R372), or ends the transfer as a MARK (R373). -/
def DmaRun.putRecord (r : DmaRun) (d : DmaDest) (rec : List Score) : DmaRun :=
  if r.c.mstop ∧ isMark rec = true then { r with ended := true, mark := some (rec.getD 0 0).toNat }
  else
    let r := { r with c := { r.c with left := r.c.left - 1 } }
    let r := (List.range r.c.sel.length).foldl (fun r i => r.putScore d (if r.c.shuf = 2 then i else 0) (rec.getD (r.c.sel.getD i 0) 0)) r
    { r with ended := decide (r.c.left = 0) }

/-- One score that the source formed passes on. -/
def DmaRun.passScore (d : DmaDest) (r : DmaRun) (v : Score) : DmaRun :=
  if r.ended then r
  else if r.c.shuf = 0 then r.putScore d 0 v
  else
    let rec_ := r.c.rec_ ++ [v]
    if rec_.length = 4 then { r with c := { r.c with rec_ := [] } }.putRecord d rec_ else { r with c := { r.c with rec_ := rec_ } }

/-- Source bits that do not fill a score, as one score padded with 0 bits. -/
def DmaChan.tail (c : DmaChan) : List Score :=
  if c.inBits = [] then [] else [BitVec.ofNat 20 (bitsNat (c.inBits ++ List.replicate (20 - c.inBits.length) false))]

/-- The selected scores of a record that a STOP cut off pass on, as far as they have come (R375; log 82). -/
def DmaRun.flushRecord (r : DmaRun) (d : DmaDest) : DmaRun :=
  let rec_ := r.c.rec_ ++ r.c.tail
  let r := { r with c := { r.c with inBits := [], rec_ := [] } }
  (List.range r.c.sel.length).foldl (fun r i =>
    match rec_[r.c.sel.getD i 0]? with
    | some v => r.putScore d (if r.c.shuf = 2 then i else 0) v
    | none => r) r

/-- The end of a transfer: what does not fill a whole unit is written as one last unit, padded with 0 bits. Bits after the last whole record of a
transfer that has ended belong to none. -/
def DmaRun.flush (r : DmaRun) (d : DmaDest) : DmaRun :=
  let r := if r.c.shuf = 0 then r.c.tail.foldl (fun r v => r.putScore d 0 v) { r with c := { r.c with inBits := [] } }
    else if r.ended then r else r.flushRecord d
  let r := r.c.out.keys.foldl (fun r k =>
      let l := Tab.get r.c.out [] k
      r.putElem d k (bitsNat (l ++ List.replicate (r.c.dw - l.length) false))) r
  if r.c.fill.isEmpty then r else { r with recs := r.recs ++ [r.c.fill ++ List.replicate (4 - r.c.fill.length) 0] }

/-- One source element enters: its bits as a number. -/
def DmaRun.element (r : DmaRun) (d : DmaDest) (x : Nat) : DmaRun :=
  let r := { r with c := { r.c with n := r.c.n + 1, left := if r.c.shuf = 0 then r.c.left - 1 else r.c.left } }
  let r :=
    if r.c.bitwise d then r.putBits d 0 (bitsMsb r.c.sw x)
    else if r.c.skind = 1 ∧ r.c.pack = true then
      let l := cutBits 20 4 (r.c.inBits ++ bitsMsb r.c.sw x)
      (l.1.map fun v => (BitVec.ofNat 20 v : Score)).foldl (DmaRun.passScore d) { r with c := { r.c with inBits := l.2 } }
    else r.passScore d (BitVec.ofNat 20 x)
  if r.c.shuf = 0 then { r with ended := r.ended || decide (r.c.left = 0) } else r

/-- An element of the management SRAM. -/
def State.sramElem (s : State) (c : DmaChan) : Nat :=
  let pos := if c.back then c.count - 1 - c.n else c.n
  let a := c.src + pos * (c.sw / 8)
  let l := (List.range (c.sw / 8)).map fun i => (Tab.get s.dm.sram 0 (a + i)).toNat
  (if c.be then l else l.reverse).foldl (fun n b => 256 * n + b) 0

/-! ### Room and waiting (R376) -/

/-- Whether the destination has room for what a grant would write. -/
def State.dmaFits (s : State) (r : DmaRun) : Bool :=
  let q := s.dmQueue (r.c.dst % 16)
  (r.recs.isEmpty || q.fmt1 || decide (q.items.length + r.recs.length ≤ q.size * 1024)) && (r.bytes.isEmpty || decide (r.c.dkind ≠ 2) || decide (0 < q.size))

/-- The next source element enters a channel; none where its source queue is empty. A register's value does not matter here: `x` stands for it. -/
def State.dmaTake (s : State) (c : DmaChan) (x : Nat) : Option (State × DmaRun) :=
  let d := s.dmaDest c
  match c.skind with
  | 0 => some (s, DmaRun.element { c := c } d x)
  | 1 => some (s, DmaRun.element { c := c } d (s.sramElem c))
  | _ =>
    let q := s.dmQueue (c.src % 16)
    match c.held, q.items with
    | v :: rest, _ => some (s, DmaRun.element { c := { c with held := rest } } d v.toNat)
    | [], i :: items =>
      if q.hold = false ∨ q.fmt1 = true then none
      else
        let s := s.setDmQueue (c.src % 16) { q with items := items }
        if c.shuf = 0 ∧ c.mstop = true ∧ isMark i.scores = true then some (s, { c := c, ended := true, mark := some (i.scores.getD 0 0).toNat })
        else
          match i.scores with
          | [] => some (s, { c := c })
          | v :: rest => some (s, DmaRun.element { c := { c with held := rest } } d v.toNat)
    | [], [] => none

/-- Whether a STOP ends a channel now: at once, or after the record in progress of a queue (R375). -/
def DmaChan.stopsNow (c : DmaChan) : Bool := c.stopping && (decide (c.skind ≠ 2) || c.held.isEmpty)

/-- What a step of a transfer writes in all, with the flush where it ends. -/
def DmaRun.whole (r : DmaRun) (d : DmaDest) : DmaRun := if r.ended || r.c.stopsNow then r.flush d else r

/-- Whether a running channel waits on a queue: its source is empty, or its destination has no room for what its next step writes. -/
def State.dmaWaits (s : State) (c : DmaChan) : Bool :=
  let d := s.dmaDest c
  if c.stopsNow then !s.dmaFits ((DmaRun.mk c [] [] [] false none).flush d)
  else
    match s.dmaTake c 0 with
    | none => true
    | some (_, r) => !s.dmaFits (r.whole d)

end Sys2Proof.Machine
end

