-- ==== Sys2Proof/Machine/SettingsOps.lean ====
section
/-!
DEFINITION. The settings records on the flashes (R453, R454): their form, which half is read, which half is written.
-/

namespace Sys2Proof.Machine

/-! ### Records -/

/-- The part of the settings that a content is. -/
def RecordContent.part : RecordContent → SettingsPart
  | .sets _ _ => .sets
  | .fields _ => .fields
  | .password _ => .password
  | .failures _ => .failures

/-- The parts, each of which a complete set of records holds. -/
def settingsParts : List SettingsPart := [.sets, .fields, .password, .failures]

/-- The place of a part among them. -/
def SettingsPart.ix : SettingsPart → Nat
  | .sets => 0
  | .fields => 1
  | .password => 2
  | .failures => 3

/-- The format version of a part. -/
def RecordFormats.of (f : RecordFormats) : SettingsPart → Nat
  | .sets => f.sets
  | .fields => f.fields
  | .password => f.password
  | .failures => f.failures

/-- A table as numbers: how many cells, then each with its key. -/
def tabNumbers (t : Tab Score) : List Nat := t.cells.length :: t.cells.flatMap fun c => [c.1, c.2.toNat]

/-- A content as numbers. -/
def RecordContent.numbers : RecordContent → List Nat
  | .sets set ref => (match ref with | some r => [1, r.toNat] | none => [0]) ++ tabNumbers set
  | .fields one => tabNumbers one
  | .password p => (match p with | some x => 1 :: x.digest.toNat :: x.salt.map (·.toNat) | none => [0])
  | .failures k => [k]

/-- The bytes of a record. -/
def Record.bytes (r : Record) : List Nat := Config.recordBytes r.type r.version r.content.numbers

/-- A record of a content in a format version, with its length and CRC. -/
def RecordContent.record (version : Nat) (c : RecordContent) : Record :=
  let b := Config.recordBytes (Config.recordType c.part.ix) version c.numbers
  { type := Config.recordType c.part.ix, version := version, length := b.length, crc := crc32c b, content := c }

/-- A record that reads as it was written. -/
def Record.holds (r : Record) : Bool := decide (r.length = r.bytes.length) && decide (r.crc = crc32c r.bytes)

/-! ### Halves -/

/-- The record of a part in a half. -/
def Half.find (h : Half) (p : SettingsPart) : Option Record := h.records.find? fun r => decide (r.content.part = p)

/-- A valid half: every record holds, and the set of records is complete. -/
def Half.valid (h : Half) : Bool := h.records.all Record.holds && settingsParts.all fun p => (h.find p).isSome

/-- The settings that one record adds. -/
def Settings.take (x : Settings) : RecordContent → Settings
  | .sets set ref => { x with set := set, ref := ref }
  | .fields one => { x with one := one }
  | .password p => { x with password := p }
  | .failures k => { x with fails := k }

/-- The settings that a half holds. -/
def Half.settings (h : Half) : Settings := (h.records.map (·.content)).foldl Settings.take { seq := h.seq }

/-- A half that holds settings, in the formats that an image knows. -/
def Settings.half (x : Settings) (f : RecordFormats) : Half :=
  let l : List RecordContent := [.sets x.set x.ref, .fields x.one, .password x.password, .failures x.fails]
  { seq := x.seq, records := l.map fun c => c.record (f.of c.part) }

/-- The half at an index. -/
def Halves.at (x : Halves) (i : Bool) : Option Half := if i then x.half1 else x.half0

/-- A half is written, or lost where its writing was torn. -/
def Halves.put (x : Halves) (i : Bool) (h : Option Half) : Halves :=
  let v := if x.void = some i then none else x.void
  if i then { x with half1 := h, void := v } else { x with half0 := h, void := v }

/-- The halves of a flash that may be read, with their indices: valid, and not left behind by a rejected TRIAL image. -/
def Halves.readable (x : Halves) : List (Bool × Half) :=
  [false, true].filterMap fun i => match x.at i with
    | some h => if h.valid && decide (x.void ≠ some i) then some (i, h) else none
    | none => none

/-! ### What the image reads and writes -/

/-- The settings area of a flash (true for QSPI1), which an unusable flash does not offer (R445). -/
def State.readableHalves (s : State) (b : Bool) : List (Bool × Half) :=
  if (if b then s.pw.badB else s.pw.badA) then [] else (if b then s.pw.setsB else s.pw.setsA).readable

/-- The valid half with the highest sequence number from either flash (R453). -/
def State.currentHalf (s : State) : Option (Bool × Half) :=
  (s.readableHalves false ++ s.readableHalves true).foldl (fun x y => match x with | some z => if z.2.seq < y.2.seq then some y else x | none => some y) none

/-- The settings of that half; with none, the defaults. -/
def State.storedHalf (s : State) : Settings := match s.currentHalf with | some x => x.2.settings | none => {}

/-- The settings in use: those stored, with the defaults that the image takes for records that it does not know (R454). -/
def State.half (s : State) : Settings := s.pw.defaulted.getD s.storedHalf

/-- The half that a save goes to: the one not in use (R453); every save of a TRIAL image goes to one half (R454). -/
def State.saveTo (s : State) : Bool :=
  let other := match s.currentHalf with | some x => !x.1 | none => false
  if s.pw.trial then s.pw.trialHalf.getD other else other

/-- Both flashes receive a half, where they are usable. -/
def State.putHalf (s : State) (i : Bool) (h : Option Half) : State :=
  { s with pw := { s.pw with
      setsA := if s.pw.badA then s.pw.setsA else s.pw.setsA.put i h, setsB := if s.pw.badB then s.pw.setsB else s.pw.setsB.put i h } }

/-- Settings are written. -/
def State.setHalf (s : State) (x : Settings) : State :=
  let i := s.saveTo
  let s := s.putHalf i (some (x.half s.pw.formats))
  { s with pw := { s.pw with trialHalf := if s.pw.trial then some i else s.pw.trialHalf, defaulted := none } }

/-- A reset tears a save in progress: the half that it was writing is lost (R453). -/
def State.tearSave (s : State) : State := if s.pw.saving.isSome then s.putHalf s.saveTo none else s

/-- The half of a TRIAL image that falls back is read no more: the older firmware finds its own records (R454). -/
def Power.dropTrial (x : Power) : Power :=
  match x.trialHalf with
  | some i => { x with trialHalf := none, setsA := { x.setsA with void := some i }, setsB := { x.setsB with void := some i } }
  | none => x

end Sys2Proof.Machine
end

