-- ==== Sys2Proof/Machine/RegRead.lean ====
section
/-!
DEFINITION. Reading the register space (R13, R382, R408, R409, R492): the value of every register as a read returns it, the fields
that show what the device is doing now, and the reads that do something.
-/

namespace Sys2Proof.Machine

/-! ### Junction temperature and flash (R456) -/

/-- The limits of the flash-write window: signed °C in 1/1,024. -/
def flashInside (v : Score) (tj : Int) : Bool :=
  decide (sgn 9 (Reg.PW_FLASH_TJ_LO.of v) * 1024 ≤ tj) && decide (tj ≤ sgn 9 (Reg.PW_FLASH_TJ_HI.of v) * 1024)

/-- The junction temperature lies inside the flash-write window's limits; a failed diode counts as outside. -/
def State.tjInside (s : State) : Bool :=
  s.h Reg.TH_STAT_DIODE_FAIL == 0 && flashInside (s.oneReg Reg.PW_FLASH_TJ) (sgn 20 (s.h Reg.TH_TJ_TJ))

/-- Flash may be written at the present junction temperature. -/
def State.flashOk (s : State) : Bool := s.fo Reg.PW_FLASH_TJ_EN == 0 || s.tjInside

/-! ### MAINT (R392, R393) -/

/-- Whether a session is open. -/
def State.sessionOpen (s : State) : Bool :=
  match s.cm.session with
  | some x => decide (s.now < x.ends)
  | none => false

/-- MAINT is open: the fuse is intact, or a session is open. -/
def State.maintOpen (s : State) : Bool := !s.pw.lockFuse || s.sessionOpen

/-- Whole seconds that are left to an instant, a started second counting. -/
def State.secsTo (s : State) (x : Option Nat) : Nat :=
  match x with
  | some y => (y - s.now + (lsbS - 1)) / lsbS
  | none => 0

/-- Seconds of authentication wait left (R397). -/
def State.authWait (s : State) : Nat := s.secsTo s.pw.waitUntil

/-! ### CM_BUSY and CF_APPLY (R410 to R412) -/

/-- The bits of the posted blocks in a list of addresses. -/
def blockBits (l : List Nat) : Nat := l.foldl (fun m a => match Reg.busyBit a with | some b => m ||| 2 ^ b | none => m) 0

/-- CM_BUSY: a write to the block, or to its alias, is queued. -/
def State.cmBusy (s : State) : Nat := blockBits (s.regs.posted.map fun p => Reg.base p.addr)

/-- CF_APPLY: an accepted write to the active set waits for its boundary; bit 15 for the CF_ fields. -/
def State.cfApply (s : State) : Nat :=
  let l := s.regs.waiting.map (·.addr)
  blockBits l ||| (if l.any fun a => decide (a / 65536 = 1) then 2 ^ 15 else 0)

/-! ### Fields that show the present -/

def State.flPartnerAt (s : State) : Option Partner := s.fl.partners.find? fun p => decide (p.idx = s.fo Reg.FL_PT_SEL_INDEX)

/-- Bits of a list of conditions, bit 0 first. -/
def bitsOf (l : List Bool) : Nat := l.foldr (fun b n => (if b then 1 else 0) + 2 * n) 0

/-- The fields marked fuse and flash are loaded (R16): NODE_RDY_N is asserted. In recovery Afioham never loads them (R450). -/
def State.loaded (s : State) : Bool := decide (s.phase = .ready)

/-- The RO fields of the command island that show the present (Tables 15.9, 15.10, 16.8). -/
def State.cmNow (s : State) (a lo : Nat) : Option Nat :=
  if a = Reg.CM_BUSY then some (s.cmBusy / 2 ^ lo)
  else if a = Reg.CM_STAT then
    match lo with
    | 0 => some (b2n (s.loaded && s.pw.lockFuse))
    | 1 => some (b2n (s.loaded && s.maintOpen))
    | 2 => some (if !s.loaded then 0 else if s.sessionOpen then (match s.cm.session with | some x => x.how | none => 0) else if s.pw.lockFuse then 0 else 3)
    | 4 => some (match s.cm.nonce with | some (_, e) => b2n (decide (s.now < e)) | none => 0)
    | _ => some (b2n (s.loaded && s.half.password.isSome))
  else if a = Reg.CM_SESS_LEFT then some (s.secsTo (s.cm.session.map (·.ends)))
  else if a = Reg.CM_AUTH_FAIL then some s.pw.fails
  else if a = Reg.CM_AUTH_WAIT then some s.authWait
  else if a = Reg.CF_APPLY then some (s.cfApply / 2 ^ lo)
  else none

/-- The RO fields of the always-on island and of the flashes (Tables 17.8, 17.9). -/
def State.pwNow (s : State) (a lo : Nat) : Option Nat :=
  if a = Reg.PW_STAT then
    match lo with
    | 0 => some (b2n s.pw.brace)
    | 2 => some (b2n (s.loaded && s.tjInside))
    | 3 => some (b2n (!s.pw.deferred.isEmpty && !s.flashOk))
    | _ => none
  else if a = Reg.PW_FW_STAT then
    match lo with
    | 0 => some (s.secsTo s.pw.trialEnd)
    | 12 => some (b2n s.pw.saving.isSome)
    | 13 => some (match s.pw.staging with | some x => b2n (decide (x.programmed < x.count) || x.last) | none => 0)
    | _ => none
  else none

/-- The RO fields of the fold, extraction, Shepherd, delivery, partner and safety blocks that show the present. -/
def State.blockNow (s : State) (a lo : Nat) : Option Nat :=
  if a / 65536 = 4 then
    if a = Reg.SQ_FIRE_STAT then some (bitsOf ((List.range 16).map fun e => s.pairState e == .inhibit))
    else (List.range 16).findSome? fun e =>
      if a = Reg.SQ_GOV_L100 e then some (ledgerSum (s.ledger e).l100 (bucket 1 s.now)) else none
  else if a / 65536 = 8 then
    safeChans.findSome? fun n =>
      if a = Reg.SF_CH_STAT n then
        (if lo = 9 then some (b2n (s.resetReady n))
         else if lo = 10 then some (match (s.safeChan n).degUntil with | some x => (x - s.now) / lsbS | none => 0)
         else none)
      else if a = Reg.SF_CH_CAUSE n ∧ lo = 5 then some (s.causeNow n)
      else none
  else if a / 65536 = 9 then
    match (List.range 16).find? (fun q => a == Reg.DM_Q_FILL q) with
    | some q => some (s.dmQueue q).units
    | none =>
      match (List.range 32).find? (fun c => a == Reg.DM_CH_STAT c), lo with
      | some c, 2 => some (match Tab.get s.dm.chans none c with | some x => b2n (s.dmaWaits x) | none => 0)
      | some c, 0 => some (b2n (Tab.get s.dm.chans none c).isSome)
      | _, _ => none
  else if a / 65536 = 0x18 then
    let x := s.fdPix (s.fo Reg.FD_PIX_SEL_PIXEL)
    if a = Reg.FD_PIX_STAT then
      match lo with
      | 16 => some x.cur.buf
      | 15 => some (b2n (x.dirty.contains (1 - x.cur.buf)))
      | 14 => some (b2n x.isOpen)
      | _ => some x.cur.n
    else if a = Reg.FD_MEM_DATA then
      let m := s.fo Reg.FD_MEM_ADDR_H_ADDR_H * 2 ^ 20 + s.fo Reg.FD_MEM_ADDR_L_ADDR_L
      some (if m > 20132658 then 0 else s.bin m)
    else if a = Reg.FD_STAT ∧ lo = 1 then some (b2n (s.fd.pix.cells.any fun c => c.2.clearing))
    else if a = Reg.FD_STAT ∧ lo = 0 then some (b2n s.suspect)
    else none
  else if a = Reg.EX_STAT ∧ lo = 0 then some (b2n (!s.ex.released.isEmpty || !s.ex.procs.isEmpty))
  else if a = Reg.EP_STAT ∧ lo = 1 then some s.ptpState
  else if a = Reg.FL_PT_INFO then
    match s.flPartnerAt, lo with
    | some _, 19 => some 1
    | some p, 17 => some p.profile
    | some p, 15 => some p.version
    | some p, 14 => some (match p.port with | .eth _ _ => 1 | .lane _ => 0)
    | some p, 0 => some (match p.port with | .eth l _ => l | .lane l => l)
    | _, _ => some 0
  else if a = Reg.FL_PT_ID_H then some (match s.flPartnerAt with | some p => p.ident / 2 ^ 20 | none => 0)
  else if a = Reg.FL_PT_ID_L then some (match s.flPartnerAt with | some p => p.ident % 2 ^ 20 | none => 0)
  else none

/-- An RO or W1C field as a read shows it. -/
def State.shown (s : State) (a lo w : Nat) : Nat :=
  let now := if a / 65536 = 1 then s.cmNow a lo else if a / 65536 = 2 then s.pwNow a lo else s.blockNow a lo
  match now with
  | some v => if a = Reg.CM_BUSY ∨ a = Reg.CF_APPLY then v % 2 ^ w else min v (2 ^ w - 1)
  | none => (s.h ⟨a, lo, w⟩) % 2 ^ w

/-! ### Register values -/

/-- The bits of a register that are listed as fields. -/
def RegKind.mask (k : RegKind) : Nat := k.hw.foldl (fun m f => m ||| (2 ^ f.2 - 1) * 2 ^ f.1) (k.rw ||| k.w1c ||| k.wo)

/-- The RSVD bits of a register (R413): as last written, else their value from reset, which the spec leaves open. -/
def State.rsvdBits (s : State) (a : Nat) : Nat :=
  match Tab.get s.regs.rsvd none a with
  | some v => v.toNat
  | none => (Config.rsvdReset a).toNat

/-- An RW field reads as last written, whether or not the value has taken effect (R409). -/
def State.lastWritten (s : State) (a : Nat) : Score :=
  match s.regs.waiting.reverse.find? fun w => decide (w.addr = a) with
  | some w => w.value
  | none => s.act a

/-- Block 0x01 and the blocks of Table 16.1 with an alias hold the sets' fields (R414); a register answers at its alias only with one. -/
def RegKind.inSet (k : RegKind) : Bool := !k.one && decide (k.rw ≠ 0)

/-- The calibration fields read as last written too; a host's value may still wait for its shot-cycle end (R35). -/
def State.baseValue (s : State) (k : RegKind) (a : Nat) : Nat :=
  let rw := (if k.one then s.oneReg a else s.lastWritten a).toNat
  let hw := k.hw.foldl (fun m f => m ||| s.shown a f.1 f.2 * 2 ^ f.1) 0
  (rw &&& k.rw) ||| hw ||| (s.rsvdBits a &&& (0xFFFFF ^^^ k.mask))

/-- At the alias address set fields and RSVD bits answer, every other bit reads 0 (R492). -/
def State.aliasValue (s : State) (k : RegKind) (a : Nat) : Nat :=
  ((s.shadow a).toNat &&& k.rw) ||| (s.rsvdBits a &&& (0xFFFFF ^^^ k.mask))

/-- The value of an address; a reserved address reads 0 (R382, R408). -/
def State.regValue (s : State) (addr : Nat) : Score :=
  match Reg.find (Reg.base addr) with
  | none => 0
  | some k =>
    if Reg.isAlias addr then (if k.inSet then BitVec.ofNat 20 (s.aliasValue k (Reg.base addr)) else 0)
    else BitVec.ofNat 20 (s.baseValue k addr)

/-- SF_TX_KEY_H to SF_RX_KEY_L: a connection key (R382). -/
def isKeyReg (a : Nat) : Bool :=
  safeChans.any fun n => a == Reg.SF_TX_KEY_H n || a == Reg.SF_TX_KEY_L n || a == Reg.SF_RX_KEY_H n || a == Reg.SF_RX_KEY_L n

/-! ### Reads that do something -/

/-- Seconds since reset. -/
def State.uptime (s : State) : Nat := (s.now - s.pw.releasedAt) / lsbS

/-- A read of SYS_UPTIME_H latches SYS_UPTIME_L (Table 16.6). -/
def State.uptimeRead (s : State) : State :=
  (s.setH Reg.SYS_UPTIME_H_UP_H (s.uptime / 2 ^ 20)).setH Reg.SYS_UPTIME_L_UP_L (s.uptime % 2 ^ 20)

/-- SYS_UPTIME_READ. -/
def execSysUptimeRead (t : Nat) (s : State) : Host.Outcome State Fault Refusal := s.run t fun s => s.uptimeRead

/-- One read of an address: the value, and the state after it. `open_` tells whether it comes from an open MAINT session. -/
def State.readReg (s : State) (open_ : Bool) (addr : Nat) : Score × State :=
  if isKeyReg (Reg.base addr) && !open_ then (0, s)
  else if addr = Reg.SYS_UPTIME_H then
    let s := s.uptimeRead
    (s.regValue addr, s)
  else if addr = Reg.EP_TIME_SEC then
    let s := s.epTimeRead
    (s.regValue addr, s)
  else
    match [0, 1, 2, 3].find? (fun b => addr == Reg.AQ_RD_DATA b) with
    | some b => s.aqRead b
    | none =>
      match [0, 1, 2, 3].find? (fun b => addr == Reg.AQ_HIST_DATA b) with
      | some b => s.aqHistRead b
      | none => (s.regValue addr, s)

/-- Reads from an address on, in address order (R382). -/
def State.readRegs (s : State) (open_ : Bool) : Nat → Nat → List Score × State
  | _, 0 => ([], s)
  | addr, n + 1 =>
    let r := s.readReg open_ addr
    let rest := r.2.readRegs open_ (addr + 1) n
    (r.1 :: rest.1, rest.2)

end Sys2Proof.Machine
end

