-- ==== Sys2Proof/Machine/Sha.lean ====
section
/-!
DEFINITION. HMAC-SHA-256, which R394 names for RESPOND over a message of 35 bytes, and SHA-384, which R396 and R447 name. The constants are
computed from what they are: the first bits of the fractional parts of the square and cube roots of the first primes.
-/

namespace Sys2Proof.Machine

/-! ### Constants -/

/-- A number that no smaller one from 2 on divides. -/
def isPrime (p : Nat) : Bool := decide (2 ≤ p) && (List.range p).all fun d => decide (d < 2) || decide (p % d ≠ 0)

/-- The first 80 primes. -/
def firstPrimes : List Nat := (List.range 410).filter isPrime

/-- The whole part of the `k`-th root of `x`, its bits from `2 ^ (n - 1)` down found one by one; `r` holds those above. -/
def rootFrom (k x : Nat) : Nat → Nat → Nat
  | 0, r => r
  | n + 1, r => rootFrom k x n (if (r + 2 ^ n) ^ k ≤ x then r + 2 ^ n else r)

/-- The first `w` bits of the fraction of a prime's `k`-th root. -/
def rootFraction (w k p : Nat) : BitVec w := BitVec.ofNat w (rootFrom k (p * 2 ^ (w * k)) (w + 5) 0)

/-! ### The compression -/

/-- Several rotations of a word, added bit by bit. -/
def turned {w : Nat} (by_ : List Nat) (x : BitVec w) : BitVec w := (by_.map x.rotateRight).foldl (· ^^^ ·) 0

/-- A hash of the family over words of `w` bits: the rotations of its four mixers, the shifts of the two that feed the schedule, and the
number of its rounds. -/
structure ShaKind (w : Nat) where
  trail : List Nat
  lead : List Nat
  early : List Nat
  earlyShift : Nat
  late : List Nat
  lateShift : Nat
  rounds : Nat
  deriving DecidableEq, Repr

/-- The kind of SHA-256. -/
def shaShort : ShaKind 32 :=
  { trail := [6, 11, 25], lead := [2, 13, 22], early := [7, 18], earlyShift := 3, late := [17, 19], lateShift := 10, rounds := 64 }

/-- The kind of SHA-384. -/
def shaLong : ShaKind 64 :=
  { trail := [14, 18, 41], lead := [28, 34, 39], early := [1, 8], earlyShift := 7, late := [19, 61], lateShift := 6, rounds := 80 }

/-- What a block's working variables are: the four that lead, the four that trail, each newest first. -/
structure ShaWork (w : Nat) where
  lead : List (BitVec w)
  trail : List (BitVec w)
  deriving DecidableEq, Repr

/-- One round takes in a word of the schedule with its constant: where the first trailing word is 1 it selects the second, else the third;
the leading words vote. -/
def ShaWork.turn {w : Nat} (x : ShaWork w) (kind : ShaKind w) (wk : BitVec w) : ShaWork w :=
  match x.lead, x.trail with
  | [p, q, r, last], [u, v, y, old] =>
    let pick := y ^^^ (u &&& (v ^^^ y))
    let vote := (p &&& (q ||| r)) ||| (q &&& r)
    let new := old + turned kind.trail u + pick + wk
    { lead := [new + turned kind.lead p + vote, p, q, r], trail := [last + new, u, v, y] }
  | _, _ => x

/-- A block's rounds: the next 16 words of the schedule stand ready, and each round replaces its word by one from four of them. -/
def ShaWork.through {w : Nat} (kind : ShaKind w) : List Nat → List (BitVec w) → ShaWork w → ShaWork w
  | [], _, x => x
  | p :: more, ready, x =>
    let at_ (i : Nat) : BitVec w := ready.getD i 0
    let next := at_ 0 + (turned kind.early (at_ 1) ^^^ at_ 1 >>> kind.earlyShift) + at_ 9 + (turned kind.late (at_ 14) ^^^ at_ 14 >>> kind.lateShift)
    ShaWork.through kind more (ready.drop 1 ++ [next]) (x.turn kind (at_ 0 + rootFraction w 3 p))

/-- A message's blocks of 16 words, one after another; `n` bounds their number. -/
def hashBlocks {w : Nat} (kind : ShaKind w) : Nat → List (BitVec 8) → ShaWork w → ShaWork w
  | 0, _, x => x
  | n + 1, m, x =>
    let words := (List.range 16).map fun i => BitVec.ofNat w (ofBytes ((m.drop (w / 8 * i)).take (w / 8)))
    let y := x.through kind (firstPrimes.take kind.rounds) words
    hashBlocks kind n (m.drop (2 * w)) { lead := List.zipWith (· + ·) x.lead y.lead, trail := List.zipWith (· + ·) x.trail y.trail }

/-- A number in bytes, most significant first. -/
def bytesOf (n x : Nat) : List (BitVec 8) := (List.range n).map fun i => BitVec.ofNat 8 (x / 256 ^ (n - 1 - i))

/-- The words of a hash, started from square roots: the message, a bit 1, zeros, and its length in bits in the last two words of a block. -/
def hashWords {w : Nat} (kind : ShaKind w) (start : List Nat) (m : List (BitVec 8)) : List (BitVec w) :=
  let n := (m.length + 1 + w / 4 + (2 * w - 1)) / (2 * w)
  let pad := 2 * w * n - m.length
  let first := start.map (rootFraction w 2)
  let x := hashBlocks kind n (m ++ bytesOf pad (128 * 256 ^ (pad - 1) + 8 * m.length)) { lead := first.take 4, trail := first.drop 4 }
  x.lead ++ x.trail

/-- SHA-256 as a number. -/
def sha256 (m : List (BitVec 8)) : Nat := (hashWords shaShort (firstPrimes.take 8) m).foldl (fun h x => h * 2 ^ 32 + x.toNat) 0

/-- SHA-384 as a number: it starts from the ninth to the sixteenth prime, and its last two words are left out. -/
def sha384 (m : List (BitVec 8)) : Nat :=
  ((hashWords shaLong ((firstPrimes.drop 8).take 8) m).take 6).foldl (fun h x => h * 2 ^ 64 + x.toNat) 0

/-- The MAC that a correct RESPOND carries (R394): HMAC-SHA-256 under the device's key of 32 bytes, over the nonce and SYS_ID. -/
def respondMac (key nonce : Nat) : Nat :=
  let keyed (mask : BitVec 8) := (bytesOf 64 (key % 2 ^ 256 * 2 ^ 256)).map (· ^^^ mask)
  sha256 (keyed 0x5C ++ bytesOf 32 (sha256 (keyed 0x36 ++ bytesOf 35 (nonce % 2 ^ 256 * 2 ^ 24 + 0x051202))))

/-- The salted SHA-384 digest of a password (R396). -/
def passwordDigest (salt pass : List (BitVec 8)) : BitVec 384 :=
  BitVec.ofNat 384 (sha384 (if Config.saltFirst then salt ++ pass else pass ++ salt))

end Sys2Proof.Machine
end

