-- ==== Sys2Proof/Machine/Signature.lean ====
section
/-!
DEFINITION. ECDSA over the curve P-384, which R447 names for the signature of an image, and the validity of an image.
-/

namespace Sys2Proof.Machine

/-! ### The curve -/

/-- The field's prime. -/
def curveP : Nat := 2 ^ 384 - 2 ^ 128 - 2 ^ 96 + 2 ^ 32 - 1

/-- The constant of the curve's equation y² = x³ - 3x + b. -/
def curveB : Nat := 0xb3312fa7e23ee7e4988e056be3f82d19181d9c6efe8141120314088f5013875ac656398d8a2ed19d2a85c8edd3ec2aef

/-- The base point, and the number of its multiples. -/
def curveGx : Nat := 0xaa87ca22be8b05378eb1c71ef320ad746e1d3b628ba79b9859f741e082542a385502f25dbf55296c3a545e3872760ab7
def curveGy : Nat := 0x3617de4a96262c6f5d9e98bf9292dc29f8f41dbd289a147ce9da3113b5f0b8c00a60b1ce1d7e819d7a431d7c90ea0e5f
def curveN : Nat := 0xffffffffffffffffffffffffffffffffffffffffffffffffc7634d81f4372ddf581a0db248b0a77aecec196accc52973

/-- A power modulo `m`, the exponent's lowest bits first; `n` bounds their number. -/
def powMod (m : Nat) : Nat → Nat → Nat → Nat
  | 0, _, _ => 1 % m
  | n + 1, b, e => (if e % 2 = 1 then b else 1) * powMod m n (b * b % m) (e / 2) % m

/-- The inverse modulo a prime. -/
def invMod (m a : Nat) : Nat := powMod m 384 (a % m) (m - 2)

/-- The third point of the line of a slope through two points, mirrored. -/
def curveThird (slope x1 y1 x2 : Nat) : Nat × Nat :=
  let p := curveP
  let x := (slope * slope + 2 * p - x1 - x2) % p
  (x, (slope * (x1 + p - x) + p - y1) % p)

/-- The sum of two points; none is the point at infinity. -/
def curveAdd (u v : Option (Nat × Nat)) : Option (Nat × Nat) :=
  let p := curveP
  match u, v with
  | none, y => y
  | x, none => x
  | some (x1, y1), some (x2, y2) =>
    if x1 = x2 then
      if (y1 + y2) % p = 0 then none
      else some (curveThird ((3 * x1 * x1 + 3 * (p - 1)) * invMod p (2 * y1) % p) x1 y1 x2)
    else some (curveThird ((y2 + p - y1) * invMod p (x2 + p - x1) % p) x1 y1 x2)

/-- A multiple of a point; `n` bounds the factor's bits. -/
def curveTimes : Nat → Nat → Option (Nat × Nat) → Option (Nat × Nat)
  | 0, _, _ => none
  | n + 1, k, u => curveAdd (if k % 2 = 1 then u else none) (curveTimes n (k / 2) (curveAdd u u))

/-- A public key is a point of the curve. -/
def curveHas (x y : Nat) : Bool :=
  decide (x < curveP) && decide (y < curveP) && decide (y * y % curveP = (x * x * x + (curveP - 3) * x + curveB) % curveP)

/-- A signature verifies over a digest with a public key. -/
def ecdsaHolds (digest x y r t : Nat) : Bool :=
  if curveHas x y && decide (0 < r) && decide (r < curveN) && decide (0 < t) && decide (t < curveN) then
    let w := invMod curveN t
    match curveAdd (curveTimes 384 (digest * w % curveN) (some (curveGx, curveGy))) (curveTimes 384 (r * w % curveN) (some (x, y))) with
    | some (z, _) => decide (z % curveN = r)
    | none => false
  else false

/-! ### Images (R447) -/

/-- An image is valid under a fused key digest and minimum security version: its digest is the header's, its signature over that digest
verifies with the header's key, the key's digest is the fused one, the security version is at least the minimum. -/
def imageValid (image : List (BitVec 8)) (keyDigest minVersion : Nat) : Bool :=
  let h := Config.imageHeader image
  decide (minVersion ≤ h.version) && ecdsaHolds h.digest h.keyX h.keyY h.sigR h.sigS && decide (sha384 h.key = keyDigest)
    && decide (sha384 h.covered = h.digest)

end Sys2Proof.Machine
end

