-- ==== Sys2Proof/Machine/PowerOps.lean ====
section
/-!
DEFINITION. What other blocks need of power and flash (R397, R448, R453 to R456): writes to flash, their deferral, settings saves.
-/

namespace Sys2Proof.Machine

/-- A flash without a valid SFDP header is not used (R445); true for QSPI1. -/
def State.flashBad (s : State) (b : Bool) : Bool := if b then s.pw.badB else s.pw.badA

/-- A slot's boot record as its flash holds it; that of an unusable flash reads as EMPTY. -/
def State.slotRec (s : State) (b : Bool) : Slot := if s.flashBad b then {} else if b then s.pw.slotB else s.pw.slotA

/-- The image bytes in a slot. -/
def State.imageOf (s : State) (b : Bool) : List (BitVec 8) := if b then s.pw.imageB else s.pw.imageA

/-- A slot's image as its boot record delimits it. -/
def State.image (s : State) (b : Bool) : List (BitVec 8) := (s.imageOf b).take (s.slotRec b).length

/-- The bytes in a slot are erased and programmed. -/
def State.setImage (s : State) (b : Bool) (l : List (BitVec 8)) : State :=
  { s with pw := if b then { s.pw with imageB := l } else { s.pw with imageA := l } }

/-- PW_FW_STAT shows a slot's state; 7 for an unreadable flash. -/
def State.showSlot (s : State) (b : Bool) (st : Nat) : State :=
  s.setH (if b then Reg.PW_FW_STAT_SLOT_B else Reg.PW_FW_STAT_SLOT_A) (if s.flashBad b then 7 else st)

/-- A boot record is on its flash. The one of a whole image ends the staging (R451). -/
def State.putRecord (s : State) (b : Bool) (x : Slot) : State :=
  let staging := match s.pw.staging with
    | some y => if y.recorded && decide (y.slotB = b) && decide (x.state = 2) then none else some y
    | none => none
  if s.flashBad b then s
  else { s with pw := if b then { s.pw with slotB := x, staging := staging } else { s.pw with slotA := x, staging := staging } }

/-- A write to flash takes place. -/
def State.flashPerform (s : State) (w : FlashWrite) : State :=
  match w with
  | .bootRecord b x => s.putRecord b x
  | .failures k => s.setHalf { s.half with fails := k, seq := s.half.seq + 1 }
  | .calibration one =>
    let keep := s.half.one.cells.filter fun c => c.1 == Reg.PW_FLASH_TJ
    ({ s with pw := { s.pw with calSavedAt := some s.now } }).setHalf { s.half with one := ⟨keep ++ one.cells⟩, seq := s.half.seq + 1 }
  | .migrated => s.setHalf { s.half with seq := s.half.seq + 1 }

/-- The flash-write window before the settings are loaded, and in recovery, from the stored limits and the boot's own reading (R448, R456). -/
def State.bootInside (s : State) : Bool :=
  let v := Tab.get s.half.one 0 Reg.PW_FLASH_TJ
  Reg.PW_FLASH_TJ_EN.of v == 0 || (match s.pw.tj with | some x => flashInside v x | none => false)

/-- The junction temperature lies inside the flash-write window. -/
def State.inWindow (s : State) : Bool := if s.loaded then s.flashOk else s.bootInside

/-- Whether a flash operation may start: inside the flash-write window (R456) and outside BRACE (R438). -/
def State.mayProgram (s : State) : Bool := !s.pw.brace && s.inWindow

/-- A write that Afioham or the boot makes on its own (R456): deferred outside the window (counted) and in BRACE, after those that wait. -/
def State.ownWrite (s : State) (w : FlashWrite) : State :=
  if s.mayProgram && s.pw.deferred.isEmpty then s.flashPerform w
  else
    let s := { s with pw := { s.pw with deferred := s.pw.deferred ++ [w] } }
    if s.inWindow then s else s.inc Reg.PW_DEFER_CNT_COUNT

/-- A change of a slot's boot record; the state counts from now on, the flash holds it once written (R448). PW_FW_STAT shows nothing
before it is loaded (R16). -/
def State.markSlot (s : State) (b : Bool) (x : Slot) : State :=
  if s.flashBad b then s else (if s.loaded then s.showSlot b x.state else s).ownWrite (.bootRecord b x.sealed)

/-- A slot's boot record with the changes that still wait. -/
def State.slotNow (s : State) (b : Bool) : Slot :=
  s.pw.deferred.foldl (fun x w => match w with | .bootRecord c y => if c = b then y else x | _ => x) (s.slotRec b)

/-- The single-copy fields that the settings hold: TE_CH_OFS, TE_WALK and PW_FLASH_TJ (R455, R473). -/
def isSavedOne (a : Nat) : Bool :=
  a == Reg.PW_FLASH_TJ || (decide (0x142000 ≤ a) && decide (a < 0x142800) && decide (a % 4 = 2)) || (decide (0x148000 ≤ a) && decide (a < 0x150000))

/-- The saved single-copy fields as they stand. -/
def State.savedOnes (s : State) : Tab Score := ⟨s.regs.one.cells.filter fun c => isSavedOne c.1⟩

/-- The reference of a set, where it is valid. -/
def State.refOf (s : State) (b : Bool) : Option (BitVec 32) :=
  if s.h (if b then Reg.CF_STAT_REF_B else Reg.CF_STAT_REF_A) = 1 then
    some (if b then joinHL (BitVec.ofNat 20 (s.h Reg.CF_REF_B_H_REF_H)) (BitVec.ofNat 20 (s.h Reg.CF_REF_B_L_REF_L))
      else joinHL (BitVec.ofNat 20 (s.h Reg.CF_REF_A_H_REF_H)) (BitVec.ofNat 20 (s.h Reg.CF_REF_A_L_REF_L)))
  else none

/-- A settings save starts (R455): what it saves is taken now. -/
def State.saveStart (s : State) : State :=
  let one : Tab Score := s.savedOnes
  { s with pw := { s.pw with saving := some { s.half with set := s.activeTab, one := one, ref := s.refOf s.activeB } } }

/-- The refusal of a SAVE, in the order of R455: BUSY_SUPPLY, FLASH_TEMP, STATE. -/
def State.saveRefused (s : State) : Option Nat :=
  if s.pw.brace then some 0x09
  else if !s.flashOk then some 0x10
  else if s.h Reg.CF_STAT_PASS_OK = 0 ∨ s.h Reg.CF_STAT_LIVE = 1 ∨ s.pw.saving.isSome = true then some 0x0F
  else none

/-- SETTINGS_SAVE (R455). -/
def execSettingsSave (t : Nat) (s : State) : Host.Outcome State Fault Refusal :=
  s.run t fun s => if s.saveRefused.isSome then s else s.saveStart

/-- SETTINGS_SAVED (R455): the half not in use holds the save and is current. Password and failure count stay as stored meanwhile. Its last
operation starts only when it may (R438, R456). -/
def execSettingsSaved (t : Nat) (s : State) : Host.Outcome State Fault Refusal :=
  s.run t fun s =>
    match s.pw.saving, s.mayProgram with
    | none, _ | _, false => s
    | some x, true =>
      let h := s.half
      let y := { x with password := h.password, fails := h.fails, seq := h.seq + 1 }
      let s := { s with pw := { s.pw with saving := none } }
      (s.setHalf y).raise .settingsSaved (y.seq % 2 ^ 20) 0

/-- FLASH_WRITE_RESUME (R438, R448, R456): inside the window and outside BRACE the deferred writes take place in order, in recovery too. -/
def execFlashWriteResume (t : Nat) (s : State) : Host.Outcome State Fault Refusal :=
  s.runIf (s.live || decide (s.phase = .recovery)) t fun s =>
    if s.mayProgram then s.pw.deferred.foldl (fun s w => s.flashPerform w) { s with pw := { s.pw with deferred := [] } } else s

/-- A calibration save waits for the window. -/
def State.calSaveWaits (s : State) : Bool := s.pw.deferred.any fun w => match w with | .calibration _ => true | _ => false

/-- CAL_SETTINGS_SAVE (R473): changed TE_CH_OFS and TE_WALK values are saved, at most once per hour, from save to save. -/
def execCalSettingsSave (t : Nat) (s : State) : Host.Outcome State Fault Refusal :=
  s.run t fun s =>
    let due := match s.pw.calSavedAt with | some x => decide (x + 3600 * lsbS ≤ s.now) | none => true
    let cal (m : Tab Score) : List (Nat × Score) := m.cells.filter fun c => c.1 != Reg.PW_FLASH_TJ
    let mine := cal s.savedOnes
    if due && !s.calSaveWaits && decide (mine ≠ cal s.half.one) then s.ownWrite (.calibration ⟨mine⟩) else s

/-- PW_CFG.CNT_CLR (R457). -/
def State.pwCntClr (s : State) : State :=
  s.clear [Reg.PW_BRACE_CNT_COUNT, Reg.PW_SUPPLY_CNT_COUNT, Reg.PW_PIN_CNT_COUNT, Reg.PW_DEFER_CNT_COUNT]

/-- PW_CNT_CLR (R457). -/
def execPwCntClr (t : Nat) (s : State) : Host.Outcome State Fault Refusal := s.run t fun s => s.pwCntClr

end Sys2Proof.Machine
end

