-- ==== Sys2Proof/Machine/Dma.lean ====
section
/-!
DEFINITION. DMA (14_dma_and_delivery.md, R368 to R377): the checks of START, conversion and reshuffling, byte queues, grants, the end.
-/

namespace Sys2Proof.Machine

/-! ### The checks of START (R370, Table 14.2) -/

def ceilDiv (a b : Nat) : Nat := (a + b - 1) / b

/-- Source elements read in all. -/
def DmaChan.sourceElems (c : DmaChan) : Nat :=
  if c.shuf = 0 then c.count
  else if c.skind = 1 ∧ c.pack = true then ceilDiv (80 * c.count) c.sw
  else 4 * c.count

/-- The source range in bytes (SRAM) or scores (REG). -/
def DmaChan.sourceRange (c : DmaChan) : Nat × Nat :=
  if c.skind = 1 then (c.src, c.sourceElems * (c.sw / 8)) else (c.src, if c.fixed then min 1 c.sourceElems else c.sourceElems)

/-- Scores that a stream or plane carries. -/
def DmaChan.streamScores (c : DmaChan) : Nat :=
  if c.shuf = 0 then (if c.skind = 1 ∧ c.pack = true then ceilDiv (c.count * c.sw) 20 else c.count)
  else if c.shuf = 1 then c.sel.length * c.count
  else c.count

/-- Destination elements of each stream or plane. -/
def DmaChan.destElems (c : DmaChan) (d : DmaDest) : Nat :=
  if c.plainSram d then c.count
  else if c.bitwise d then ceilDiv (c.count * c.sw) c.dw
  else if c.pack then ceilDiv (20 * c.streamScores) c.dw
  else c.streamScores

/-- The SRAM ranges written. -/
def DmaChan.destRanges (c : DmaChan) (d : DmaDest) : List (Nat × Nat) :=
  if d = .sram then
    (List.range (if c.shuf = 2 then c.sel.length else 1)).map fun k => (c.dst + k * c.stride, c.destElems d * (c.dw / 8))
  else []

def rangesMeet (a b : Nat × Nat) : Bool := decide (0 < a.2) && decide (0 < b.2) && decide (a.1 < b.1 + b.2) && decide (b.1 < a.1 + a.2)

/-- A range of the upper half of the management SRAM. -/
def inSram (r : Nat × Nat) : Bool := decide (0x100000 ≤ r.1) && decide (r.1 + r.2 ≤ 0x200000)

def DmaChan.cfgBad (s : State) (c : DmaChan) : Bool :=
  let d := s.dmaDest c
  decide (c.skind = 3) || decide (c.dkind = 0) || decide (c.dkind = 3) || decide (c.shuf = 3)
    || (decide (c.shuf ≠ 0) && c.sel.isEmpty) || (decide (c.shuf = 2) && decide (c.dkind ≠ 1))
    || (c.fixed && decide (c.skind ≠ 0))
    || (!c.pack && ((decide (c.skind = 1) && decide (c.sw < 32)) || (d.isByte && decide (c.dw < 32))))
    || (decide (c.skind = 2) && (s.dmQueue (c.src % 16)).fmt1)

def DmaChan.rangeBad (s : State) (c : DmaChan) : Bool :=
  let r := c.sourceRange
  (decide (c.skind = 1) && !inSram r) || (decide (c.skind = 0) && decide (2 ^ 24 < r.1 + r.2))
    || (c.destRanges (s.dmaDest c)).any fun r => !inSram r

def State.queueOwned (s : State) (c : DmaChan) : Bool :=
  decide (c.skind = 2) && (!(s.dmQueue (c.src % 16)).hold
    || s.dm.chans.cells.any fun x => match x.2 with | some y => decide (y.skind = 2) && decide (y.src % 16 = c.src % 16) | none => false)

def DmaChan.overlaps (s : State) (c : DmaChan) : Bool :=
  let d := s.dmaDest c
  let rs := c.destRanges d
  !c.plainSram d && ((decide (c.skind = 1) && rs.any (rangesMeet c.sourceRange))
    || (List.range rs.length).any fun j => (List.range j).any fun i => rangesMeet (rs.getD i (0, 0)) (rs.getD j (0, 0)))

/-- The code of the first failing check, 0 for none. A COUNT of 0 passes. -/
def State.dmaCheck (s : State) (c : DmaChan) : Nat :=
  if c.count = 0 then 0
  else if DmaChan.cfgBad s c then 2
  else if DmaChan.rangeBad s c then 3
  else if s.queueOwned c then 4
  else if DmaChan.overlaps s c then 1
  else 0

/-! ### Byte queues (R368) -/

/-- A datagram of a byte queue goes to every Ethernet consumer; Frezen Link consumers receive nothing. -/
def State.sendBytes (s : State) (q : Nat) (bytes : List (BitVec 8)) (last : Bool) : State :=
  (s.subsOf 0 q).foldl (fun s u =>
    match u.who with
    | .eth ip port =>
      if s.subUp u then
        let key := ip * 65536 + port
        let n := Tab.get s.dm.dgSeq 0 key
        let b (x : Nat) : BitVec 8 := BitVec.ofNat 8 x
        let s := { s with dm := { s.dm with dgSeq := Tab.set s.dm.dgSeq 0 key ((n + 1) % 65536) } }
        s.send (.datagram u.lane ip port (s.ether u.lane) ([b q, b (b2n last), b (n / 256), b n] ++ bytes))
      else s.subDrop 1
    | _ => s.subDrop 1) s

/-- Full datagrams leave while more bytes follow them. -/
def State.sendFull (s : State) (q : Nat) : Nat → List (BitVec 8) → State × List (BitVec 8)
  | 0, l => (s, l)
  | f + 1, l => if l.length > 1468 then (s.sendBytes q (l.take 1468) false).sendFull q f (l.drop 1468) else (s, l)

/-- The bytes of a transfer that wait in a byte queue become others. -/
def DmQueue.withBytes (x : DmQueue) (ch : Nat) (bytes : List (BitVec 8)) : DmQueue := { x with bytes := Tab.set x.bytes [] ch bytes }

/-- A channel's bytes enter a byte queue: each transfer fills datagrams of its own. Without a subscriber they are discarded on arrival (R365). -/
def State.putBytes (s : State) (q ch : Nat) (bytes : List (BitVec 8)) : State :=
  if bytes.isEmpty then s
  else if (s.subsOf 0 q).isEmpty then s.discBytes q bytes.length
  else
    let r := s.sendFull q bytes.length (Tab.get (s.dmQueue q).bytes [] ch ++ bytes)
    (r.1.setDmQueue q ((r.1.dmQueue q).withBytes ch r.2)).dmPeak q

/-- The last datagram of a transfer leaves. -/
def State.lastBytes (s : State) (q ch : Nat) : State :=
  let l := Tab.get (s.dmQueue q).bytes [] ch
  if l = [] then s else (s.sendBytes q l true).setDmQueue q ((s.dmQueue q).withBytes ch [])

/-! ### The end of a transfer (R377) -/

/-- The channel goes idle with an ERR code: DMA_DONE, or DMA_REFUSED for codes 1 to 4. -/
def State.dmaEnd (s : State) (ch err : Nat) : State :=
  let s := { s with dm := { s.dm with chans := Tab.set s.dm.chans none ch none } }
  let s := (s.setH (Reg.DM_CH_STAT_ERR ch) err).flag (Reg.DM_CH_STAT_DONE ch) true
  let s := if err = 0 then s.inc (Reg.DM_CH_DONE_CNT_COUNT ch) else s
  s.raise (if 1 ≤ err ∧ err ≤ 4 then .dmaRefused ch else .dmaDone ch) ch err

/-- What a grant did reaches SRAM and queues. -/
def State.dmaCommit (s : State) (ch : Nat) (r : DmaRun) : State :=
  let q := r.c.dst % 16
  let sram : Tab (BitVec 8) := r.sram.foldl (fun m x => Tab.set m 0 x.1 x.2) s.dm.sram
  let s := { s with dm := { s.dm with sram := sram, chans := Tab.set s.dm.chans none ch (some r.c) } }
  let s := r.recs.foldl (fun (s : State) x => s.dmPut q x false) (s.putBytes q ch r.bytes)
  s.setH (Reg.DM_CH_LEFT_LEFT ch) r.c.left

/-- A transfer ends: flush, last datagram, status. -/
def State.dmaFinish (s : State) (ch : Nat) (r : DmaRun) (err : Nat) : State :=
  let d := s.dmaDest r.c
  let s := s.dmaCommit ch (r.flush d)
  let s := if d = .byteQueue then s.lastBytes (r.c.dst % 16) ch else s
  let s := match r.mark with | some f => s.setH (Reg.DM_CH_MARK_FRAME ch) f | none => s
  s.dmaEnd ch err

/-! ### START and STOP (R370, R375) -/

/-- The channel as its fields describe it. -/
def State.dmaFields (s : State) (ch : Nat) : DmaChan :=
  let n := s.fo (Reg.DM_CH_CNT_COUNT ch)
  { cfg := s.oneReg (Reg.DM_CH_CFG ch)
    src := s.fo (Reg.DM_CH_SRC_H_ADDR_H ch) * 2 ^ 20 + s.fo (Reg.DM_CH_SRC_L_ADDR_L ch)
    dst := s.fo (Reg.DM_CH_DST_H_ADDR_H ch) * 2 ^ 20 + s.fo (Reg.DM_CH_DST_L_ADDR_L ch)
    count := n, stride := s.fo (Reg.DM_CH_PSTRIDE_STRIDE ch), left := n }

/-- A write of 1 to START. -/
def State.dmaStart (s : State) (ch : Nat) : State :=
  if (Tab.get s.dm.chans none ch).isSome then s.flag (Reg.DM_CH_STAT_START_IGN ch) true
  else
    let c := s.dmaFields ch
    let s := (((s.flag (Reg.DM_CH_STAT_DONE ch) false).setH (Reg.DM_CH_STAT_ERR ch) 0).setH (Reg.DM_CH_LEFT_LEFT ch) c.count)
    match s.dmaCheck c with
    | 0 =>
      if c.count = 0 then s.dmaEnd ch 0
      else
        let d := s.dmaDest c
        let back := c.plainSram d && decide (c.src < c.dst) && rangesMeet c.sourceRange ((c.destRanges d).headD (0, 0))
        { s with dm := { s.dm with chans := Tab.set s.dm.chans none ch (some { c with back := back }) } }
    | e => s.dmaEnd ch e

/-- A write of 1 to STOP: at once, or after the record in progress of a queue; a flush that finds no room waits for it (R376). -/
def State.dmaStop (s : State) (ch : Nat) : State :=
  match Tab.get s.dm.chans none ch with
  | none => s
  | some c =>
    let c := { c with stopping := true }
    if c.stopsNow && !s.dmaWaits c then s.dmaFinish ch { c := c } 5
    else { s with dm := { s.dm with chans := Tab.set s.dm.chans none ch (some c) } }

/-- DMA_START (R370). -/
def execDmaStart (t : Nat) (c : DmaCh) (s : State) : Host.Outcome State Fault Refusal := s.run t fun s => s.dmaStart c

/-- DMA_STOP (R375). -/
def execDmaStop (t : Nat) (c : DmaCh) (s : State) : Host.Outcome State Fault Refusal := s.run t fun s => s.dmaStop c

/-! ### A read grant (R371, R376) -/

/-- The next running channel that is not waiting, in ascending order after the channel granted last (R376). -/
def State.dmaNext (s : State) : Option Nat :=
  ((List.range 32).map fun i => (s.dm.rr + 1 + i) % 32).find? fun ch =>
    match Tab.get s.dm.chans none ch with
    | some c => !s.dmaWaits c
    | none => false

/-- The value of the register that a channel reads next, as a host reads it; 0 for another source. -/
def State.dmaSource (s : State) (c : DmaChan) : Nat × State :=
  if c.skind = 0 then
    let r := s.readReg false (if c.fixed then c.src else c.src + c.n)
    (r.1.toNat, r.2)
  else (0, s)

/-- DMA_READ_GRANT (R376): one channel that does not wait reads one source element; one whose STOP has waited for room ends. -/
def execDmaReadGrant (t : Nat) (s : State) : Host.Outcome State Fault Refusal :=
  s.run t fun s =>
    match s.dmaNext with
    | none => s
    | some ch =>
      match Tab.get s.dm.chans none ch with
      | none => s
      | some c =>
        let s := { s with dm := { s.dm with rr := ch } }
        if c.stopsNow then s.dmaFinish ch { c := c } 5
        else
          let v := s.dmaSource c
          match v.2.dmaTake c v.1 with
          | none => v.2
          | some (s, r) => if r.ended then s.dmaFinish ch r 0 else if r.c.stopsNow then s.dmaFinish ch r 5 else s.dmaCommit ch r

/-- DM_CFG.CNT_CLR. DM_Q_PEAK goes on from the occupancy of the moment (log 143, DEDUCED: it is the highest occupancy since the clear). -/
def State.dmCntClr (s : State) : State :=
  let s := s.clear ((List.range 16).flatMap (fun q => [Reg.DM_Q_DISC_COUNT q, Reg.DM_Q_PEAK_PEAK q]) ++ (List.range 32).map Reg.DM_CH_DONE_CNT_COUNT)
  (List.range 16).foldl (fun s q => s.dmPeak q) s

/-- DM_CNT_CLR. -/
def execDmCntClr (t : Nat) (s : State) : Host.Outcome State Fault Refusal := s.run t fun s => s.dmCntClr

end Sys2Proof.Machine
end

