-- ==== Sys2Proof/Machine/Islands.lean ====
section
/-!
DEFINITION. The safety islands (13_safety_functions.md): records and frame evaluation, the cross-check, island health, feedback,
SRST, DEGRADED, and the Frezen Safe layer.
-/

namespace Sys2Proof.Machine

/-- The number of an island. -/
def Island.ix : Island → Nat
  | .a => 0
  | .b => 1

/-- The number of the other island. -/
def Island.other : Island → Nat
  | .a => 1
  | .b => 0

/-! ### Records and frame evaluation (R332 to R336, R496) -/

/-- A field of a set of SF_ values. -/
def sfOf (t : Tab Score) (f : Fld) : Nat := f.of (Tab.get t (Reg.resetRw f.addr) f.addr)

/-- The pixel of a record (R182). -/
def recPixel (v : List Score) : Nat := (v.getD 3 0).toNat / 2 ^ 7 % 2 * 16384 + (v.getD 2 0).toNat % 2 ^ 14

/-- Whether a record qualifies for a zone (R334). -/
def zoneHit (sf : Tab Score) (n k : Nat) (v : List Score) : Bool :=
  let p := recPixel v
  let cls := (v.getD 2 0).toNat / 2 ^ 16
  let range := (v.getD 0 0).toNat
  let first := sfOf sf (Reg.SF_ZN_PFIRST_PIXEL n k)
  decide (first ≤ p) && decide (p < first + sfOf sf (Reg.SF_ZN_PCOUNT_COUNT n k))
    && decide (sfOf sf (Reg.SF_ZN_RNEAR_RANGE n k) ≤ range) && decide (range ≤ sfOf sf (Reg.SF_ZN_RFAR_RANGE n k))
    && decide (1 ≤ cls) && decide (cls ≤ 4) && decide (sfOf sf (Reg.SF_ZN_CFG_CMASK n k) / 2 ^ (cls - 1) % 2 = 1)

/-- The enabled zones of enabled channels, as (channel, zone). -/
def enabledZones (sf : Tab Score) : List (Nat × Nat) :=
  (safeChans.filter fun n => sfOf sf (Reg.SF_CH_CFG_EN n) == 1).flatMap fun n =>
    ((List.range 32).filter fun k => sfOf sf (Reg.SF_ZN_CFG_EN n k) == 1).map fun k => (n, k)

/-- A record that carries SUSPECT; one that carries LOSS, or is a no-shot NONE record of R180. -/
def recSuspect (v : List Score) : Bool := decide ((v.getD 3 0).toNat / 2 ^ 6 % 2 = 1)
def recBad (v : List Score) : Bool :=
  decide ((v.getD 3 0).toNat / 2 ^ 5 % 2 = 1) || (decide ((v.getD 2 0).toNat / 2 ^ 16 = 0) && decide ((v.getD 0 0).toNat = scoreMax))

/-- The frame's records that qualify for a zone under a set of SF_ values (R334), and those of them without SUSPECT. -/
def SafeIsland.zoneCount (x : SafeIsland) (sf : Tab Score) (n k : Nat) : Nat := (x.recs.filter (zoneHit sf n k)).length
def SafeIsland.cleanCount (x : SafeIsland) (sf : Tab Score) (n k : Nat) : Nat :=
  (x.recs.filter fun v => zoneHit sf n k v && !recSuspect v).length

/-- The frame's records of a pixel. -/
def SafeIsland.recsOf (x : SafeIsland) (p : Nat) : List (List Score) := x.recs.filter fun v => decide (recPixel v = p)

/-- A zone's judgement in a frame: violated, blind by cause BLIND, by cause COVERAGE. -/
structure ZoneJudged where
  viol : Bool
  blind : Bool
  coverage : Bool
  deriving DecidableEq, Repr

/-- R333: a pixel that the report makes blind. -/
def FrameReport.blind (r : FrameReport) (p : Nat) : Bool :=
  if p < 512 then r.chans.contains p
  else !r.clear.any fun c => decide (c.1 ≤ p) && decide (p < c.1 + c.2)

/-- R335 for one zone. -/
def SafeIsland.judgeZone (x : SafeIsland) (r : FrameReport) (n k : Nat) : ZoneJudged :=
  let nmin := max 1 (sfOf r.sf (Reg.SF_ZN_CFG_NMIN n k))
  let first := sfOf r.sf (Reg.SF_ZN_PFIRST_PIXEL n k)
  let px := (List.range (sfOf r.sf (Reg.SF_ZN_PCOUNT_COUNT n k))).map (first + ·)
  { viol := if sfOf r.sf (Reg.SF_ZN_CFG_KIND n k) = 0 then decide (nmin ≤ x.zoneCount r.sf n k) else decide (x.cleanCount r.sf n k < nmin)
    blind := px.any fun p => r.blind p || (!(x.recsOf p).isEmpty && (x.recsOf p).all recBad)
    coverage := px.any fun p => (x.recsOf p).isEmpty }

def bitMask (l : List Nat) : Nat := l.foldl (fun m k => m ||| 2 ^ k) 0

/-- CONFIRM: 0 acts as 1, above 4 as 4. -/
def confirmOf (v : Nat) : Nat := max 1 (min 4 v)

/-- R336 for one channel: its causes with the frame's own causes `frame`, and the two run lengths. -/
def SafeIsland.judgeChan (x : SafeIsland) (r : FrameReport) (frame : List Nat) (n : Nat) : ChanEval × Nat × Nat :=
  if sfOf r.sf (Reg.SF_CH_CFG_EN n) = 0 then ({}, 0, 0)
  else
    let zs := ((List.range 32).filter fun k => sfOf r.sf (Reg.SF_ZN_CFG_EN n k) == 1).map fun k => (k, x.judgeZone r n k)
    let kind (k : Nat) : Nat := sfOf r.sf (Reg.SF_ZN_CFG_KIND n k)
    let ni := if zs.any fun z => z.2.viol && kind z.1 == 0 then Tab.get x.intr 0 n + 1 else 0
    let np := if zs.any fun z => z.2.viol && kind z.1 == 1 then Tab.get x.pres 0 n + 1 else 0
    let confirm := confirmOf (sfOf r.sf (Reg.SF_CH_CFG_CONFIRM n))
    let em := sfOf r.sf (Reg.SF_EMASK_EMIT n)
    let poor := (List.range 16).any fun e => decide (em / 2 ^ e % 2 = 1)
      && decide (16 * Tab.get r.fired 0 e < sfOf r.sf (Reg.SF_CH_CFG_FIRE_MIN n) * Tab.get r.reached 0 e)
    let ax := sfOf r.sf (Reg.SF_CH_CFG_AXMASK n)
    let causes := (if ni ≥ confirm then [2] else []) ++ (if np ≥ confirm then [3] else [])
      ++ (if zs.any fun z => z.2.coverage then [4] else []) ++ (if zs.any fun z => z.2.blind then [5] else [])
      ++ (if poor then [6] else []) ++ (if r.axes.any fun a => decide (ax / 2 ^ a % 2 = 1) then [7] else []) ++ frame
    ({ on := true, causes := causes, viol := bitMask ((zs.filter fun z => z.2.viol).map (·.1))
       blind := bitMask ((zs.filter fun z => z.2.blind || z.2.coverage).map (·.1)) }, ni, np)

/-- FRAME_EVALUATION (R336) by one island on the MARK of a frame; each channel with a cause is de-energised at once (R328). -/
def State.evaluate (s : State) (i : Nat) (mark : List Score) : State :=
  let x := s.si i
  let f := (mark.getD 0 0).toNat
  let incomplete := decide ((mark.getD 1 0).toNat ≠ satScore x.recs.length) || decide ((mark.getD 3 0).toNat / 2 ^ 5 % 2 = 1) || x.feedLoss
  let jump := match x.lastMark with | some l => decide (f ≠ (l + 1) % 2 ^ 20) | none => false
  let frame := (if incomplete then [8] else []) ++ (if jump then [9] else [])
  let r := (x.reports.reverse.find? fun r => decide (r.frame % 2 ^ 20 = f)).getD
    { frame := f, reached := {}, fired := {}, chans := [], clear := [(512, 16384)], axes := [], sf := x.copy }
  let judged := safeChans.map fun n => x.judgeChan r frame n
  let evals := judged.map (·.1)
  let runs (g : ChanEval × Nat × Nat → Nat) : Tab Nat := (judged.zipIdx).foldl (fun m z => Tab.set m 0 z.2 (g z.1)) {}
  let x' : SafeIsland := { x with
    lastMark := some f, markAt := s.now, missing := false, recs := [], feedLoss := false
    intr := runs fun z => z.2.1
    pres := runs fun z => z.2.2
    reports := if x.reports.any (fun q => decide (q.frame % 2 ^ 20 = f)) then (x.reports.dropWhile fun q => decide (q.frame % 2 ^ 20 ≠ f)).drop 1 else x.reports
    eval := some (f, evals) }
  let s := s.setSi i x'
  safeChans.foldl (fun s n =>
    match (evals.getD n {}).causes with
    | [] => s
    | c :: rest => s.siTrip n (rest.foldl min c)) s

/-- SI_RECORD_TAKE (R496): the oldest record of an island's input queue. -/
def execSiRecordTake (t : Nat) (i : Island) (s : State) : Host.Outcome State Fault Refusal :=
  s.run t fun s =>
    let x := s.si i.ix
    if s.siHealthy i.ix then
      match x.queue with
      | [] => s
      | v :: r =>
        let s := s.setSi i.ix { x with queue := r }
        if (v.getD 2 0).toNat / 2 ^ 16 = 15 then s.evaluate i.ix v
        else s.setSi i.ix { x with queue := r, recs := v :: x.recs }
    else s

/-- The causes of an evaluation with those of the other island. -/
def mergeEval (a b : ChanEval) : ChanEval :=
  { on := a.on && b.on, causes := a.causes ++ b.causes.filter fun c => !a.causes.contains c, viol := a.viol ||| b.viol, blind := a.blind ||| b.blind }

/-- What is compared of two evaluations: causes, and the bitmap of violated or blind zones. -/
def ChanEval.agrees (a b : ChanEval) : Bool := decide (a.causes = b.causes) && decide (a.viol ||| a.blind = b.viol ||| b.blind)

/-- What the islands show after a cross-check: bitmap, causes, and whether a complete evaluation has been. -/
def State.showEval (s : State) (both : Bool) (n : Nat) (e : ChanEval) : State :=
  let z := e.viol ||| e.blind
  let s := (s.setH (Reg.SF_VIOL_H_ZONES n) (z / 2 ^ 20)).setH (Reg.SF_VIOL_L_ZONES n) (z % 2 ^ 20)
  s.setSafeChan n { s.safeChan n with causes := e.causes, evaluated := (s.safeChan n).evaluated || (both && e.on) }

/-- RESULT_CROSS_CHECK (R337, R352, R360): the results of both islands, or of the one that has not failed. -/
def execResultCrossCheck (t : Nat) (s : State) : Host.Outcome State Fault Refusal :=
  s.run t fun s =>
    let done (s : State) (es : List ChanEval) (both : Bool) : State :=
      let s := safeChans.foldl (fun s n => s.showEval both n (es.getD n {})) s
      safeChans.foldl (fun s n => if s.sf (Reg.SF_CH_CFG_EN n) = 1 then s.zoneOut n else s) s
    if s.siLive = [0, 1] then
      match s.safe.a.eval, s.safe.b.eval with
      | some (f, ea), some (g, eb) =>
        let differ (n : Nat) : Bool := decide (f ≠ g) || !(ea.getD n {}).agrees (eb.getD n {}) || decide (s.safe.a.copy ≠ s.safe.b.copy)
        let es := safeChans.map fun n =>
          let e := mergeEval (ea.getD n {}) (eb.getD n {})
          if differ n then { e with causes := e.causes ++ [11] } else e
        let s := { s with safe := { s.safe with a := { s.safe.a with eval := none, shown := (f, ea) }, b := { s.safe.b with eval := none, shown := (g, eb) } } }
        done (safeChans.foldl (fun s n => if differ n then s.siTrip n 11 else s) s) es true
      | _, _ => s
    else
      match s.siLive with
      | i :: _ => (match (s.si i).eval with | some e => done (s.setSi i { s.si i with eval := none, shown := e }) e.2 false | none => s)
      | [] => s

/-- FRAME_MISSING_TIMEOUT (Table 13.2): no MARK within T_F + 2 ms of the previous one. -/
def execFrameMissingTimeout (t : Nat) (i : Island) (s : State) : Host.Outcome State Fault Refusal :=
  s.run t fun s =>
    let x := s.si i.ix
    if s.siHealthy i.ix ∧ x.lastMark.isSome = true ∧ x.missing = false ∧ x.markAt + s.framePerLsb + 2 * lsbMs ≤ s.now then
      (s.setSi i.ix { x with missing := true }).siTripAll 9
    else s

/-! ### Island health (R329, R339, Table 13.3) -/

/-- HEARTBEAT_SEND: the other island's cross link holds one more heartbeat. -/
def execHeartbeatSend (t : Nat) (i : Island) (s : State) : Host.Outcome State Fault Refusal :=
  s.run t fun s =>
    if s.siHealthy i.ix then
      let x := s.si i.other
      s.setSi i.other { x with inFlight := x.inFlight + 1 }
    else s

/-- HEARTBEAT_RECEIVE: `interval` is the time since the last heartbeat in ns of the receiving island's clock; the mean of 16 must lie within 2 %. -/
def execHeartbeatReceive (t : Nat) (i : Island) (interval : Nat) (s : State) : Host.Outcome State Fault Refusal :=
  s.run t fun s =>
    let x := s.si i.ix
    if s.siHealthy i.ix ∧ 0 < x.inFlight then
      let l := (interval :: x.intervals).take 16
      let s := s.setSi i.ix { x with inFlight := x.inFlight - 1, lastBeat := s.now, intervals := l }
      let sum := l.foldl (· + ·) 0
      if l.length = 16 ∧ (sum > 816000 ∨ sum < 784000) then s.siFail i.other 2 else s
    else s

/-- HEARTBEAT_LOSS: four heartbeats of the other island missing in a row. -/
def execHeartbeatLoss (t : Nat) (i : Island) (s : State) : Host.Outcome State Fault Refusal :=
  s.run t fun s =>
    if s.siHealthy i.ix ∧ max (s.si i.ix).lastBeat s.pw.readyAt + 200 * lsbUs ≤ s.now then s.siFail i.other 1 else s

/-- SELF_TEST_CYCLE: one full cycle of an island's self-test ends, without fault or with one. -/
def execSelfTestCycle (t : Nat) (i : Island) (ok : Bool) (s : State) : Host.Outcome State Fault Refusal :=
  s.run t fun s =>
    if s.siHealthy i.ix then
      if ok then s.setSi i.ix { s.si i.ix with selfTest := some s.now } else s.siFail i.ix 3
    else s

/-- SI_WATCHDOG_EXPIRY (R329): the island's own drive is held low until device reset, and its takeover switches open; if it was the
healthy one of a DEGRADED channel, the pair is de-energised (R347). -/
def execSiWatchdogExpiry (t : Nat) (i : Island) (s : State) : Host.Outcome State Fault Refusal :=
  s.run t fun s => (s.setSi i.ix { s.si i.ix with wdHold := true }).siFail i.ix 4

/-- REGULATOR_FAULT. -/
def execRegulatorFault (t : Nat) (i : Island) (s : State) : Host.Outcome State Fault Refusal :=
  s.run t fun s => s.siFail i.ix 5

/-- The CRC of an island's copy of the SF_ values (R423, R426). -/
def sfCrc (t : Tab Score) : Nat := (setCrc t [8]).toNat

/-- SF_COPY_CRC_CHECK: `upsets` are the registers of the copy that a disturbance has changed since the last check. -/
def execSfCopyCrcCheck (t : Nat) (i : Island) (upsets : List (Nat × Score)) (s : State) : Host.Outcome State Fault Refusal :=
  s.run t fun s =>
    let x := s.si i.ix
    let copy := upsets.foldl (fun m u => Tab.set m (Reg.resetRw u.1) u.1 u.2) x.copy
    let s := s.setSi i.ix { x with copy := copy }
    if s.siHealthy i.ix ∧ sfCrc copy ≠ s.safe.ref then s.siFail i.ix 6 else s

/-- DEG_EXPIRED (R347). -/
def execDegExpired (t : Nat) (n : SafeCh) (s : State) : Host.Outcome State Fault Refusal :=
  s.run t fun s =>
    match (s.safeChan n).degUntil with
    | some e => if s.chState n = 3 ∧ e ≤ s.now then s.siTrip n 17 else s
    | none => s

/-! ### Read-back and feedback (R330, R340) -/

/-- READBACK_FAULT (R330): a member's pin has stood at `level` against its command for 100 µs; a pin at its command again ends the fault. -/
def execReadbackFault (t : Nat) (m : Island) (n : SafeCh) (level : Bool) (s : State) : Host.Outcome State Fault Refusal :=
  s.run t fun s =>
    let wrong := s.soLevel m.ix n != level
    let x := s.safeChan n
    let x := if m = .a then { x with rbA := wrong } else { x with rbB := wrong }
    let s := (s.setSafeChan n x).showPins n
    if wrong && s.sf (Reg.SF_CH_CFG_EN n) == 1 then
      let s := s.siTrip n 13
      -- the pin keeps its level while the command has gone low
      let x := s.safeChan n
      let stays := s.soLevel m.ix n != level
      (s.setSafeChan n (if m = .a then { x with rbA := stays } else { x with rbB := stays })).showPins n
    else s

/-- A glitch that SFB rejects lasts at most 100 µs (Table 19.5). -/
def SfbChange.glitch (x : SfbChange) : Bool := decide (x.widthNs ≤ 100000)

/-- SFB_LEVEL_CHANGE (R340); glitches are rejected (R484). -/
def execSfbLevelChange (t : Nat) (n : SafeCh) (level : SfbChange) (s : State) : Host.Outcome State Fault Refusal :=
  s.run t fun s => if level.glitch then s else
    let level := level.level
    let s := s.flag (Reg.SF_CH_STAT_SFB n) level
    let x := s.safeChan n
    if level = !s.chEnergised n then s.setSafeChan n { x with fbOk := true, wrongAt := none }
    else if x.wrongAt.isSome then s
    else s.setSafeChan n { x with wrongAt := some s.now }

/-- FEEDBACK_FAULT (R340): no right level within SF_FB_TIME of a change, or a wrong one for 10 ms after it. -/
def execFeedbackFault (t : Nat) (n : SafeCh) (s : State) : Host.Outcome State Fault Refusal :=
  s.run t fun s =>
    let x := s.safeChan n
    let late := !x.fbOk && decide (x.changedAt + max 1 (s.sf (Reg.SF_FB_TIME_MS n)) * lsbMs ≤ s.now)
    let wrong := x.fbOk && (match x.wrongAt with | some w => decide (w + 10 * lsbMs ≤ s.now) | none => false)
    if s.chEnergised n && s.fbWrong n && (late || wrong) then (s.raise .feedbackFault n 0).siTrip n 14 else s

/-! ### Reset (R341 to R344, R358) -/

/-- A reset edge acts on the channels it is allowed for: every one that is ready enters ENERGISED. -/
def State.safeReset (s : State) (may : Nat → Bool) : State :=
  let go := safeChans.filter fun n => may n && s.chState n == 1 && s.resetReady n
  let s := go.foldl (fun s n => s.chSet n 2) s
  if go.isEmpty then s else s.raise .safeReset (bitMask go) 0

/-- SRST_LEVEL_CHANGE (R342) as one island sees it; a level that was low when NODE_RDY_N was asserted counts as low from then on (DEDUCED,
unsafe, log 79). -/
def execSrstLevelChange (t : Nat) (i : Island) (level : Bool) (s : State) : Host.Outcome State Fault Refusal :=
  s.run t fun s =>
    let x := s.si i.ix
    let f := if i = .a then Reg.SF_STAT_SRST_A else Reg.SF_STAT_SRST_B
    let x' := if level then { x with fallAt := none, riseAt := if x.fallAt.getD s.pw.readyAt + 50 * lsbMs ≤ s.now then some s.now else none }
      else { x with fallAt := some s.now, riseAt := none }
    if s.h f = b2n level then s else (s.flag f level).setSi i.ix x'

/-- SRST_EDGE (R342, R343): an island counts an edge, 10 ms after the rise; it acts when the other island counted its own within 2 ms. -/
def execSrstEdge (t : Nat) (i : Island) (s : State) : Host.Outcome State Fault Refusal :=
  s.run t fun s =>
    let x := s.si i.ix
    match x.riseAt with
    | none => s
    | some r =>
      if s.siHealthy i.ix ∧ r + 10 * lsbMs ≤ s.now then
        let y := s.si i.other
        let c := r + 10 * lsbMs
        match y.edgeAt with
        | some e =>
          if c ≤ e + 2 * lsbMs ∧ e ≤ c + 2 * lsbMs then
            ((s.setSi i.ix { x with riseAt := none }).setSi i.other { y with edgeAt := none }).safeReset
              fun n => s.sf (Reg.SF_CH_CFG_SRST_EN n) == 1
          else s.setSi i.ix { x with riseAt := none, edgeAt := some c }
        | none => s.setSi i.ix { x with riseAt := none, edgeAt := if s.siLive = [0, 1] then some c else none }
      else s

/-- SRST_MISMATCH (R343): an edge that only one of two healthy islands counted. -/
def execSrstMismatch (t : Nat) (s : State) : Host.Outcome State Fault Refusal :=
  s.run t fun s =>
    let late (x : SafeIsland) : Bool := match x.edgeAt with | some e => decide (e + 2 * lsbMs < s.now) | none => false
    if late s.safe.a || late s.safe.b then
      let s' := { s with safe := { s.safe with a := { s.safe.a with edgeAt := if late s.safe.a then none else s.safe.a.edgeAt }
                                               b := { s.safe.b with edgeAt := if late s.safe.b then none else s.safe.b.edgeAt } } }
      if s.siLive = [0, 1] then s'.raise .srstMismatch 0 0 else s'
    else s

/-! ### The Frezen Safe layer (R350 to R358) -/

def State.slot (s : State) (k : Nat) : FslRx := Tab.get s.safe.slots {} k

def State.setSlot (s : State) (k : Nat) (x : FslRx) : State := { s with safe := { s.safe with slots := Tab.set s.safe.slots {} k x } }

/-- A message that is long enough to be matched (Table 13.5). -/
structure FslMsg where
  mtype : Nat
  fver : Nat
  tlock : Bool
  plen : Nat
  src : Nat
  ch : Nat
  seq : Nat
  time : Nat
  payload : List Nat
  scores : List Score
  check : Nat
  deriving DecidableEq, Repr

def fslParse (m : List Score) : Option FslMsg :=
  if m.length < 7 then none
  else
    let g (i : Nat) : Nat := (m.getD i 0).toNat
    let n := m.length
    some { mtype := g 0 / 2 ^ 12, fver := g 0 / 2 ^ 8 % 16, tlock := decide (g 0 / 2 ^ 7 % 2 = 1), plen := g 0 % 32
           src := (joinHL (m.getD 1 0) (m.getD 2 0)).toNat, ch := g 3 / 2 ^ 16, seq := g 3 % 2 ^ 16, time := g 4
           payload := ((m.drop 5).take (n - 7)).map (·.toNat), scores := m.take (n - 2)
           check := (joinHL (m.getD (n - 2) 0) (m.getD (n - 1) 0)).toNat }

/-- The enabled slot that a source identity and CH match, in an island's copy. -/
def State.slotFor (s : State) (i : Nat) (m : FslMsg) : Option Nat :=
  safeChans.find? fun k => s.fs i (Reg.SF_RX_CFG_EN k) == 1 && s.fs i (Reg.SF_RX_CFG_CH k) == m.ch
    && s.fs i (Reg.SF_RX_ID_H_ID k) * 2 ^ 20 + s.fs i (Reg.SF_RX_ID_L_ID k) == m.src

/-- R354 step 1. -/
def FslMsg.formatOk (m : FslMsg) : Bool :=
  (m.mtype == 1 || m.mtype == 2) && m.fver == 1 && m.plen == m.payload.length && m.plen == (if m.mtype == 1 then 6 else 3)
    && (if m.mtype == 1 then decide (m.ch ≤ 7) else m.ch == 15)

/-- The age of a message (R355) in units of 100 µs. -/
def State.fslAge (s : State) (m : FslMsg) : Int := sgn 20 (low 20 ((s.nodeTime / 12800000 : Nat) - (m.time : Int)))

/-- Whether the slot judges ages against PTP time: the receiver is locked and so was the sender. -/
def State.fslAbsolute (s : State) (m : FslMsg) : Bool := s.fl.ptp.locked && m.tlock

/-- The error an island finds in a message for a slot (LAST_ERR): 0 none. -/
def State.fslJudge (s : State) (i k : Nat) (m : FslMsg) : Nat :=
  let x := s.slot k
  let key := s.fs i (Reg.SF_RX_KEY_H_KEY k) * 2 ^ 20 + s.fs i (Reg.SF_RX_KEY_L_KEY k)
  let win := max 1 (s.fs i (Reg.SF_RX_CFG_SEQ_WIN k))
  let maxAge : Int := s.fs i (Reg.SF_RX_CFG_MAXAGE k)
  let age := s.fslAge m
  let modeSame := s.h (Reg.SF_RX_STAT_REL k) == (if s.fslAbsolute m then 0 else 1)
  let ages := if modeSame then x.ages else []
  if !m.formatOk then 1
  else if fslCheck key m.scores ≠ m.check then 2
  else if (match x.lastSeq with | some l => decide ((m.seq + 65536 - l) % 65536 < 1 ∨ win < (m.seq + 65536 - l) % 65536) | none => false) then 3
  else if (if s.fslAbsolute m then decide (age < -1) || decide (maxAge < age)
      else (match ages with | [] => false | a :: r => decide (maxAge < age - r.foldl min a))) then 4
  else if m.mtype = 2 ∧ m.payload.getD 0 0 % 2 ^ 12 * 2 ^ 20 + m.payload.getD 1 0 ≠ s.ident then 6
  else 0

/-- A slot enters FAILED (R356): FSL_RX_FAIL, and the channels that follow it trip (R357). -/
def State.slotFail (s : State) (k : Nat) : State :=
  let s := (s.setH (Reg.SF_RX_STAT_STATE k) 2).setSlot k { s.slot k with lastSeq := none, okRun := 0, badRun := 0 }
  let s := s.raise .fslRxFail k (s.h (Reg.SF_RX_STAT_LAST_ERR k))
  safeChans.foldl (fun s n => if (s.follows n).contains k then s.siTrip n 16 else s) s

/-- A message that both islands reject, or that only one accepts (R354, R356). One that fails only in its age or target is a slot's new sequence
reference where it has none; after three rejections a FAILED slot looks for a new reference (R355; DEDUCED, unsafe, log 76). -/
def State.fslReject (s : State) (k err seq : Nat) : State :=
  let x := s.slot k
  let ref := if x.lastSeq.isNone && (err == 4 || err == 6) then some seq else x.lastSeq
  let s := ((s.setH (Reg.SF_RX_STAT_LAST_ERR k) err).inc (Reg.SF_RX_ERR_COUNT k)).setSlot k { x with lastSeq := ref, okRun := 0, badRun := x.badRun + 1 }
  if x.badRun + 1 < 3 then s
  else if s.h (Reg.SF_RX_STAT_STATE k) ≠ 2 then s.slotFail k
  else s.setSlot k { s.slot k with lastSeq := none, badRun := 0 }

/-- A message accepted by both islands (R355 to R358). -/
def State.fslAccept (s : State) (k : Nat) (m : FslMsg) : State :=
  let x := s.slot k
  let lost := match x.lastSeq with | some l => (m.seq + 65536 - l) % 65536 - 1 | none => 0
  let ok := x.okRun + 1
  let s := s.add (Reg.SF_RX_ERR_COUNT k) lost
  let s := s.setSlot k { x with lastSeq := some m.seq, ages := (s.fslAge m :: x.ages).take 16, okRun := ok, badRun := 0, since := s.now }
  let s := if ok ≥ 3 then s.setH (Reg.SF_RX_STAT_STATE k) 1 else s
  if m.mtype = 1 then
    let st := m.payload.getD 0 0 / 2 ^ 17
    let s := s.flag (Reg.SF_RX_STAT_REMOTE_OK k) (st == 2 || st == 3)
    if st ≤ 1 then safeChans.foldl (fun s n => if (s.follows n).contains k then s.siTrip n 16 else s) s else s
  else
    let mask := m.payload.getD 2 0 % 256
    s.safeReset fun n => decide (mask / 2 ^ n % 2 = 1) && s.sf (Reg.SF_CH_CFG_FSL_RST n) == 1

/-- The mode in which a message's age is judged (R355): a change of mode restarts the minimum of the ages. -/
def State.fslMode (s : State) (k : Nat) (m : FslMsg) : State :=
  let rel := !s.fslAbsolute m
  if s.h (Reg.SF_RX_STAT_REL k) = b2n rel then s
  else (s.flag (Reg.SF_RX_STAT_REL k) rel).setSlot k { s.slot k with ages := [] }

/-- What an island's receive path makes of a message (R354): as sent, lost, or changed. -/
def FslPath.deliver : FslPath → List Score → Option (List Score)
  | .whole, m => some m
  | .lost, _ => none
  | .changed m, _ => some m

/-- One island's judgement: no slot, or a slot and the error found there. -/
def State.fslIsland (s : State) (i : Nat) (m : List Score) : Option (Nat × FslMsg × Nat) :=
  match fslParse m with
  | none => none
  | some x => (s.slotFor i x).map fun k => (k, x, s.fslJudge i k x)

/-- FSL_MESSAGE_RECEIVE (R354 to R358): both islands receive and judge the message, each by its own path and copy. -/
def execFslMessageReceive (t : Nat) (src : RxFrom) (a b : FslPath) (s : State) : Host.Outcome State Fault Refusal :=
  s.run t fun s =>
    match s.takePacket src 7 with
    | (s, none) => s
    | (s, some body) =>
      let heard := s.siLive.filterMap fun i => ((if i = 0 then a else b).deliver body).map fun m => (i, m)
      match heard.filterMap fun h => s.fslIsland h.1 h.2 with
      | [] => if heard.isEmpty then s else s.inc Reg.SF_FSL_UNK_COUNT
      | (k, m, e) :: r =>
        let both := decide (r.length + 1 = s.siLive.length)
        let s := if (e = 0 ∨ e = 4 ∨ e = 6) ∧ (r.all fun z => z.2.2 == e && z.1 == k) = true then s.fslMode k m else s
        if both && decide (e = 0) && r.all (fun z => decide (z.2.2 = 0) && decide (z.1 = k)) then s.fslAccept k m
        else if decide (e ≠ 0) && r.all (fun z => decide (z.2.2 ≠ 0)) then s.fslReject k e m.seq
        else s.fslReject k 7 m.seq

/-- FSL_SLOT_TIMEOUT (R356): SF_RX_TMO ms without an accepted message. -/
def execFslSlotTimeout (t : Nat) (k : FslSlot) (s : State) : Host.Outcome State Fault Refusal :=
  s.run t fun s =>
    if s.sf (Reg.SF_RX_CFG_EN k) = 1 ∧ s.h (Reg.SF_RX_STAT_STATE k) ≠ 2
        ∧ (s.slot k).since + max 1 (s.sf (Reg.SF_RX_TMO_MS k)) * lsbMs ≤ s.now then
      ((s.setH (Reg.SF_RX_STAT_LAST_ERR k) 5).inc (Reg.SF_RX_ERR_COUNT k)).slotFail k
    else s

/-! ### SWAP and start-up (R331, R359, R360) -/

/-- The SF_ part of a set. -/
def sfPart (t : Tab Score) : Tab Score := ⟨t.cells.filter fun c => decide (c.1 / 65536 = 8)⟩

/-- Both copies take the SF_ values of a set with their reference: channels whose EN changes start or stop (R331), slots that change restart (R356, R360). -/
def State.loadSafety (s : State) (t : Tab Score) (ref : Nat) : State :=
  let new := sfPart t
  let was := s.safe.loaded
  let s := { s with safe := { s.safe with a := { s.safe.a with copy := new }, b := { s.safe.b with copy := new }, ref := ref, loaded := new } }
  let s := safeChans.foldl (fun s n =>
    let o := sfOf was (Reg.SF_CH_CFG_EN n)
    let e := sfOf new (Reg.SF_CH_CFG_EN n)
    if o = 0 ∧ e = 1 then s.siStartup n
    else if o = 1 ∧ e = 0 then (s.setSafeChan n { s.safeChan n with degUntil := none }).chSet n 0
    else s) s
  safeChans.foldl (fun s k =>
    let same := [Reg.SF_RX_CFG_EN k, Reg.SF_RX_CFG_CH k, Reg.SF_RX_ID_H_ID k, Reg.SF_RX_ID_L_ID k, Reg.SF_RX_KEY_H_KEY k, Reg.SF_RX_KEY_L_KEY k].all
      fun f => sfOf was f == sfOf new f
    if same then s
    else ((((s.setSlot k { since := s.now }).setH (Reg.SF_RX_STAT_STATE k) 0).flag (Reg.SF_RX_STAT_REL k) false).flag
      (Reg.SF_RX_STAT_REMOTE_OK k) false).setH (Reg.SF_RX_STAT_LAST_ERR k) 0) s

/-- FRAME_REPORT (R332): at SCAN_END both islands receive what Shepherd and the status stream say of the frame. -/
def State.frameReport (s : State) : State :=
  let s := s.noteAll
  let clear := ((List.range 48).filter fun h => s.f (Reg.FL_HEAD_CFG_EN h) == 1 && !s.safe.heads.contains h).map fun h => (512 + s.headBase h, s.headCount h)
  let r : FrameReport := { frame := s.sq.frameNo, reached := s.sq.reached, fired := s.sq.fired, chans := s.safe.chans, clear := clear
                           axes := s.safe.axes, sf := {} }
  let s := s.siLive.foldl (fun s i => s.setSi i { s.si i with reports := (s.si i).reports ++ [{ r with sf := (s.si i).copy }] }) s
  { s with safe := { s.safe with chans := [], heads := [], axes := [] } }

end Sys2Proof.Machine
end

