-- ==== Sys2Proof/Machine/Extract.lean ====
section
/-!
DEFINITION. Echo extraction (06_echo_extraction.md): dispatch, background, threshold, candidates, classes, policies, records and MARKs.
-/

namespace Sys2Proof.Machine

/-- A field of a profile register. -/
def profField (prof : List Score) (i : Nat) (f : Fld) : Nat := f.of (prof.getD i 0)

/-! ### Background and threshold (R170, R171) -/

/-- Inserts into a rising list. -/
def insertNat (x : Nat) : List Nat → List Nat
  | [] => [x]
  | y :: r => if x ≤ y then x :: y :: r else y :: insertNat x r

def sortNat (l : List Nat) : List Nat := l.foldr insertNat []

/-- The 32 segment sums. -/
def segments (bins : List Nat) : List Nat :=
  let w := bins.length / 32
  (List.range 32).map fun i => ((bins.drop (i * w)).take w).foldl (· + ·) 0

/-- The background per bin in 1/16 count, from the K lowest segment sums. -/
def background16 (bins : List Nat) (seg : Nat) : Nat :=
  let k := max 1 (min 16 seg)
  16 * (((sortNat (segments bins)).take k).foldl (· + ·) 0) * 32 / (k * bins.length)

/-- The threshold in 1/16 count: floor(16 (b + MULT/16 √b + FLOOR)). -/
def threshold16 (b16 mult flr : Nat) : Nat := b16 + 16 * flr + isqrt (mult * mult * b16 / 16)

/-! ### Candidates (R172 to R175) -/

/-- A maximal run of bins above threshold: its first bin and length, its peak bin and count, the sum of its counts, a bin at 0xF_FFFF. -/
structure Run where
  start : Nat
  len : Nat
  peak : Nat
  count : Nat
  sum : Nat
  sat : Bool
  deriving DecidableEq, Repr

/-- The runs of a histogram from bin `i` on; `cur` is the run in progress. -/
def runsFrom (t16 : Nat) : List Nat → Nat → Option Run → List Run
  | [], _, none => []
  | [], _, some r => [r]
  | h :: rest, i, cur =>
    if 16 * h > t16 then
      match cur with
      | none => runsFrom t16 rest (i + 1) (some ⟨i, 1, i, h, h, decide (h = scoreMax)⟩)
      | some r => runsFrom t16 rest (i + 1) (some
          { r with len := r.len + 1, peak := if h > r.count then i else r.peak, count := max r.count h, sum := r.sum + h,
                   sat := r.sat || decide (h = scoreMax) })
    else
      match cur with
      | none => runsFrom t16 rest (i + 1) none
      | some r => r :: runsFrom t16 rest (i + 1) none

/-- The runs kept: the 8 with the highest peak counts, the lower index winning a tie. -/
def keepRuns (rs : List Run) : List Run :=
  rs.filter fun r => decide ((rs.filter fun q => decide (q.count > r.count) || (decide (q.count = r.count) && decide (q.start < r.start))).length < 8)

/-- An echo: the run, its position in 1/16 LSB, amplitude, quality, EDGE, and class code. -/
structure Echo where
  run : Run
  r16 : Int
  amp : Nat
  qual : Nat
  edge : Bool
  cls : Nat
  deriving DecidableEq, Repr

/-- The position of a peak in 1/16 LSB (R173); a neighbour outside the window is taken as b. -/
def peakPos (bins : List Nat) (b16 wstart w : Nat) (r : Run) : Int :=
  let p : Int := 16 * r.count
  let a : Int := if r.peak = 0 then b16 else 16 * bins.getD (r.peak - 1) 0
  let c : Int := if r.peak + 1 ≥ bins.length then b16 else 16 * bins.getD (r.peak + 1) 0
  16 * wstart + 16 * r.peak * w + 8 * ((w : Int) - 1) + roundDiv (16 * w * (a - c)) (2 * (a - 2 * p + c))

/-- The amplitude of R175. -/
def amplitude (b16 n : Nat) (r : Run) : Nat := min scoreMax (roundDiv (16 * (16 * (r.sum : Int) - r.len * b16)) n).toNat

/-- The quality of R175: floor(4 (p - b) / √max(b, 1)), limited to 255. -/
def quality (b16 : Nat) (r : Run) : Nat :=
  let x := 16 * r.count - b16
  min 255 (isqrt (x * x / max b16 16))

/-- The shots of each quarter of the interval (R177). -/
def quarterShots (n c q : Nat) : Nat :=
  let lim := fun (j : Nat) => min n ((j * c + 3) / 4)
  if q = 3 then n - lim 3 else lim (q + 1) - lim q

/-- The quarter test of R177, with every x[q] scaled by 16 n. -/
def quarterForeign (trace : List Nat) (S b16 n c fratio peak : Nat) : Bool :=
  let x := fun (q : Nat) => (16 * n * trace.getD (q * (S / 32) + peak / 32) 0 : Int) - 32 * b16 * quarterShots n c q
  let used := [0, 1, 2, 3].filter fun q => decide (quarterShots n c q > 0)
  let xsum := used.foldl (fun a q => a + x q) (0 : Int)
  decide (used.length ≥ 2) && decide (xsum > 0) &&
    used.any fun q => decide (16 * x q * n ≥ fratio * xsum * quarterShots n c q)

/-- Range score and fraction (R174). -/
def rangeOf (r16 : Int) : Nat × Nat :=
  if r16 < 0 then (0, 0) else if r16 > 16777215 then (scoreMax, 15) else ((r16 / 16).toNat, (r16 % 16).toNat)

/-- The class of a candidate (Table 6.2). -/
def classOf (prof header trace : List Nat) (S b16 n c w : Nat) (traceOn : Bool) (others : List Int) (r : Run) (r16 : Int) : Nat :=
  let ovrFrac := prof.getD 0 0
  let fwidth := prof.getD 1 0
  let fratio := prof.getD 2 0
  let vw := prof.getD 3 0
  let vrate := prof.getD 4 0
  let vrmax := prof.getD 5 0
  let h7 := header.getD 7 0
  let h8 := header.getD 8 0
  let h9 := header.getD 9 0
  if r.sat || (decide (h7 ≥ 1) && decide (r.start ≤ h9) && decide (h8 < r.start + r.len) && decide (256 * h7 ≥ ovrFrac * n)) then 4
  else if traceOn && decide (r.len ≤ fwidth) && quarterForeign trace S b16 n c fratio r.peak then 3
  else if decide (r.len * w ≥ 16 * vw) && decide (16 * (16 * r.count - b16) < vrate * n)
      && (others.any (fun x => decide (x > r16)) || decide ((rangeOf r16).1 ≤ vrmax)) then 2
  else 1

/-! ### Selection and records (R178 to R182) -/

/-- Candidate `a` stands before `b` in amplitude order: higher amplitude, then lower position. -/
def ampBefore (a b : Echo) : Bool := decide (a.amp > b.amp) || (decide (a.amp = b.amp) && decide (a.r16 < b.r16))

/-- Inserts an echo in rising position. -/
def insertEcho (x : Echo) : List Echo → List Echo
  | [] => [x]
  | y :: r => if x.r16 ≤ y.r16 then x :: y :: r else y :: insertEcho x r

/-- The records a policy writes, in rising position, and whether MORE is set on them by ALL (Table 6.3). -/
def select (policy : Nat) (eligible : List Echo) : List Echo × Bool :=
  let sorted := eligible.foldr insertEcho []
  match policy with
  | 0 => (sorted.take 1, false)
  | 1 => (sorted.drop (sorted.length - 1), false)
  | 2 => (sorted.filter fun x => sorted.all fun y => !ampBefore y x, false)
  | _ =>
    if sorted.length ≤ 4 then (sorted, false)
    else (sorted.filter fun x => decide ((sorted.filter fun y => ampBefore y x).length < 4), true)

/-- The header-derived flags of every record of a histogram (Table 6.5). -/
def recordFlags (pixel : Nat) (header : List Score) (more edge : Bool) : Nat :=
  let h2 := (header.getD 2 0).toNat
  pixel / 16384 * 2 ^ 7 + h2 / 2 % 2 * 2 ^ 6 + h2 / 4 % 2 * 2 ^ 5 + h2 % 2 * 2 ^ 4 + h2 / 16 % 2 * 2 ^ 3
    + (if (header.getD 10 0).toNat > 0 then 2 ^ 2 else 0) + bnum edge 1 + bnum more 0

/-- A point record (Table 6.4). -/
def pointRecord (range amp cls idx pixel frac qual flags : Nat) : List Score :=
  [BitVec.ofNat 20 range, BitVec.ofNat 20 amp, BitVec.ofNat 20 (cls * 2 ^ 16 + idx * 2 ^ 14 + pixel % 16384),
    BitVec.ofNat 20 (frac * 2 ^ 16 + qual * 2 ^ 8 + flags)]

/-- What extraction makes of one histogram: its candidates with their classes, and its records. -/
structure Extraction where
  candidates : List Echo
  records : List (List Score)
  none : Bool
  more : Bool
  deriving DecidableEq, Repr

/-- R170 to R182 for a histogram of a pixel with its header, cells, trace and profile. -/
def extract (pixel : Nat) (iv : Interval) (hdr : List Score) (bins trace : List Nat) : Extraction :=
  let n := iv.n
  if n = 0 then
    { candidates := [], records := [pointRecord scoreMax 0 0 0 pixel 0 0 (recordFlags pixel hdr false false % 2 ^ 8)], none := true, more := false }
  else
    let pf := fun (i : Nat) (f : Fld) => profField iv.prof i f
    let w := 2 ^ descWidth iv.desc
    let S := descS iv.desc
    let b16 := background16 bins (pf 2 (Reg.EX_PROF_BG_SEG 0))
    let t16 := threshold16 b16 (pf 3 (Reg.EX_PROF_THR_MULT 0)) (pf 3 (Reg.EX_PROF_THR_FLOOR 0))
    let all := runsFrom t16 bins 0 none
    let kept := keepRuns all
    let more0 := decide (all.length > 8)
    let pos := kept.map (peakPos bins b16 (descWstart iv.desc) w)
    let lims := [pf 7 (Reg.EX_PROF_SAT_OVR_FRAC 0), pf 6 (Reg.EX_PROF_FOR_FWIDTH 0), pf 6 (Reg.EX_PROF_FOR_FRATIO 0),
      pf 4 (Reg.EX_PROF_VEIL0_VW 0), pf 4 (Reg.EX_PROF_VEIL0_VRATE 0), pf 5 (Reg.EX_PROF_VEIL1_VRMAX 0)]
    let cands : List Echo := kept.map fun r =>
      let r16 := peakPos bins b16 (descWstart iv.desc) w r
      { run := r, r16 := r16, amp := amplitude b16 n r, qual := quality b16 r
        edge := decide (r.start = 0) || decide (r.start + r.len ≥ S)
        cls := classOf lims (hdr.map (·.toNat)) trace S b16 n (descC iv.desc) w (descTrace iv.desc) pos r r16 }
    let mask := pf 0 (Reg.EX_PROF_CFG_MASK 0)
    let sel := select (pf 0 (Reg.EX_PROF_CFG_POLICY 0)) (cands.filter fun x => decide (mask / 2 ^ (x.cls - 1) % 2 = 1))
    let more := more0 || sel.2
    if sel.1.isEmpty then
      { candidates := cands, none := true, more := more
        records := [pointRecord 0 (min scoreMax (roundDiv (16 * b16) n).toNat) 0 0 pixel 0 0 (recordFlags pixel hdr more false)] }
    else
      { candidates := cands, none := false, more := more
        records := sel.1.zipIdx.map fun (x, i) =>
          let rf := rangeOf x.r16
          pointRecord rf.1 x.amp x.cls i pixel rf.2 x.qual (recordFlags pixel hdr more x.edge) }

/-! ### Dispatch (R166, R167) -/

/-- The echoes that a histogram in a cluster has still to write (at most four, R178); a NONE record is no echo, and with EX_CFG.EN at 0 none are written. -/
def State.echoesOf (s : State) (p : Proc) : Nat :=
  let e := extract p.rel.pixel p.rel.iv p.rel.header p.bins p.trace
  if s.f Reg.EX_CFG_EN = 0 || e.none then 0 else e.records.length

/-- Echoes of a cluster that are not yet written. -/
def State.echoLoad (s : State) (c : Nat) : Nat :=
  ((s.ex.procs.filter fun p => decide (p.cluster = c)).map s.echoesOf).foldl (· + ·) 0

/-- HISTOGRAM_DISPATCH (R166): a cluster with a free scan stage and at most 40 unwritten echoes takes the oldest released histogram; each cell is zeroed as it is read. -/
def execHistogramDispatch (t : Nat) (c : ExCluster) (s : State) : Host.Outcome State Fault Refusal :=
  s.run t fun s =>
    match s.ex.released with
    | [] => s
    | r :: rest =>
      if s.ex.procs.any (fun p => decide (p.cluster = c) && p.scanning) || decide (s.echoLoad c > 40) then s
      else
        let d := r.iv.desc
        let bins := readBins s.fd.mem (bufStart d r.iv.buf) (descS d)
        let tr := if descTrace d then readBins s.fd.mem (traceStart d r.iv.buf) (descS d / 8) else []
        let s := s.zeroBins (bufStart d r.iv.buf) (descS d)
        let s := if descTrace d then s.zeroBins (traceStart d r.iv.buf) (descS d / 8) else s
        let x : Proc := { cluster := c, rel := r, bins := bins, trace := tr, scanning := true }
        let s := { s with ex := { s.ex with released := rest, procs := s.ex.procs ++ [x] } }
        s.aqFoldBlock c r.pixel r.iv.cycle bins

/-- BUFFER_CLEAN (R153, R166): the last cell has been read and Fold may use the buffer again. -/
def execBufferClean (t : Nat) (c : ExCluster) (s : State) : Host.Outcome State Fault Refusal :=
  s.run t fun s =>
    match s.ex.procs.find? (fun p => decide (p.cluster = c.val) && p.scanning) with
    | none => s
    | some p =>
      let done (q : Proc) : Proc := if q.cluster = c.val then { q with scanning := false } else q
      let s := { s with ex := { s.ex with procs := s.ex.procs.map done } }
      let x := s.fdPix p.rel.pixel
      (s.setFdPix p.rel.pixel { x with dirty := x.dirty.erase p.rel.iv.buf }).aqBlockEnd c

/-! ### Delivery (R183 to R185) -/

def State.countPlaced (s : State) (dest : Nat) : State :=
  { s with ex := { s.ex with placed := Tab.set s.ex.placed 0 dest (Tab.get s.ex.placed 0 dest + 1) } }

/-- A record dropped at a delivery queue. -/
def State.qDrop (s : State) (q : Nat) : State :=
  let s := (s.inc (Reg.EX_QDROP_COUNT q)).flag Reg.EX_STAT_QDROP_SEEN true
  { s with ex := { s.ex with frameDrops := Tab.set s.ex.frameDrops 0 q (Tab.get s.ex.frameDrops 0 q + 1)
                             dropped := if s.ex.dropped.contains q then s.ex.dropped else q :: s.ex.dropped } }

/-- One record to one delivery queue. -/
def State.toQueue (s : State) (q : Nat) (rec : List Score) : State :=
  if s.dmRoom q ≥ 8 then (s.dmPut q rec false).countPlaced q else s.qDrop q

/-- One record or MARK to one island's input queue (R184, R496). -/
def State.toIsland (s : State) (i : Nat) (rec : List Score) (mark : Bool) : State :=
  if s.siRoom i then if mark then s.siPut i rec else (s.siPut i rec).countPlaced (16 + i)
  else
    let s := (((s.inc Reg.EX_SAFE_DROP_COUNT).flag Reg.EX_STAT_SAFE_LOSS_SEEN true).raise .safeFeedLoss i 0).siLost i
    { s with ex := { s.ex with dropped := if s.ex.dropped.contains (16 + i) then s.ex.dropped else (16 + i) :: s.ex.dropped } }

/-- A record goes to every destination of its profile (R183). -/
def State.deliver (s : State) (prof : List Score) (rec : List Score) : State :=
  let qmask := profField prof 1 (Reg.EX_PROF_Q_QMASK 0)
  let s := (List.range 16).foldl (fun s q => if qmask / 2 ^ q % 2 = 1 then s.toQueue q rec else s) s
  if profField prof 0 (Reg.EX_PROF_CFG_SAFE 0) = 1 then (s.toIsland 0 rec false).toIsland 1 rec false else s

/-- The wrapping counters of Table 6.10. -/
def State.wrapAdd (s : State) (f : Fld) (n : Nat) : State := (s.note f n).setH f ((s.h f + n) % 2 ^ 20)

/-- The counters of one written histogram. -/
def State.countHistogram (s : State) (c : Nat) (e : Extraction) (lat : Nat) : State :=
  let k := fun (code : Nat) => (e.candidates.filter fun x => decide (x.cls = code)).length
  let s := (s.wrapAdd Reg.EX_HIST_CNT_COUNT 1).wrapAdd (Reg.EX_CL_HIST_COUNT c) 1
  let s := if e.none then s.add Reg.EX_NONE_CNT_COUNT e.records.length else s.wrapAdd Reg.EX_ECHO_CNT_COUNT e.records.length
  let s := ((s.add Reg.EX_VEIL_CNT_COUNT (k 2)).add Reg.EX_FOREIGN_CNT_COUNT (k 3)).add Reg.EX_SAT_CNT_COUNT (k 4)
  let s := if e.more then (s.inc Reg.EX_MORE_CNT_COUNT).flag Reg.EX_STAT_MORE_SEEN true else s
  s.setH (Reg.EX_CL_LAT_LAT c) (max (s.h (Reg.EX_CL_LAT_LAT c)) lat)

/-- Whether an earlier histogram of the same pixel has still to write its records (R168): closed, released or in a cluster. -/
def State.heldBack (s : State) (r : Released) : Bool :=
  let earlier (i : Interval) : Bool := decide (i.gen < r.iv.gen)
  (s.fdPix r.pixel).closed.any earlier || s.ex.released.any (fun q => decide (q.pixel = r.pixel) && earlier q.iv)
    || s.ex.procs.any (fun q => decide (q.rel.pixel = r.pixel) && earlier q.rel.iv)

/-- The first histogram of a cluster whose scan has ended and whose records may be written. -/
def State.writable (s : State) (c : Nat) : Option Proc :=
  s.ex.procs.find? fun p => decide (p.cluster = c) && !p.scanning && !s.heldBack p.rel

/-- RECORD_WRITE (R167, R168, R170 to R184): with EX_CFG.EN at 0 the histogram is only counted. -/
def execRecordWrite (t : Nat) (c : ExCluster) (s : State) : Host.Outcome State Fault Refusal :=
  s.run t fun s =>
    match s.writable c with
    | none => s
    | some p =>
      let s := { s with ex := { s.ex with procs := s.ex.procs.erase p } }
      if s.f Reg.EX_CFG_EN = 0 then (s.wrapAdd Reg.EX_HIST_CNT_COUNT 1).wrapAdd (Reg.EX_CL_HIST_COUNT c) 1
      else
        let e := extract p.rel.pixel p.rel.iv p.rel.header p.bins p.trace
        let s := e.records.foldl (fun s r => s.deliver p.rel.iv.prof r) s
        let s := { s with ex := { s.ex with suspect := s.ex.suspect || p.rel.iv.suspect } }
        s.countHistogram c e ((s.now - p.rel.at_ + lsbUs - 1) / lsbUs)

/-- The MARK record of a destination (R185). -/
def State.markRecord (s : State) (dest frame : Nat) (carry : Bool) : List Score :=
  [BitVec.ofNat 20 frame, BitVec.ofNat 20 (satScore (Tab.get s.ex.placed 0 dest)), 0xF0000#20,
    BitVec.ofNat 20 (bnum s.ex.suspect 6 + bnum (s.ex.dropped.contains dest || carry) 5)]

/-- The MARK of a frame goes to one delivery queue, which must have room for 4 scores. -/
def State.markQueue (s : State) (frame q : Nat) : State :=
  let m := s.markRecord q frame (s.ex.markLost.contains q)
  if s.dmRoom q ≥ 4 then
    let s := s.dmPut q m true
    { s with ex := { s.ex with markLost := s.ex.markLost.filter (· ≠ q) } }
  else if s.dmByteQueue q then s
  else
    let s := s.qDrop q
    { s with ex := { s.ex with markLost := if s.ex.markLost.contains q then s.ex.markLost else q :: s.ex.markLost } }

/-- Whether a histogram of a frame's scan part is still on its way. -/
def State.frameBusy (s : State) (frame : Nat) : Bool :=
  s.pixels.any (fun p => (s.fdPix p).closed.any fun i => decide (i.frame = frame))
    || s.ex.released.any (fun r => decide (r.iv.frame = frame)) || s.ex.procs.any (fun p => decide (p.rel.iv.frame = frame))

/-- MARK_PLACE (R185): after the last histogram of the frame has written its records, one MARK goes to every delivery queue and both islands. -/
def execMarkPlace (t : Nat) (s : State) : Host.Outcome State Fault Refusal :=
  s.run t fun s =>
    match s.ex.markDue with
    | none => s
    | some f =>
      if s.frameBusy f then s
      else
        let m0 := s.markRecord 16 f false
        let m1 := s.markRecord 17 f false
        let s := (List.range 16).foldl (fun s q => s.markQueue f q) s
        let s := (s.toIsland 0 m0 true).toIsland 1 m1 true
        let s := s.setH Reg.EX_FRAME_FRAME (f % 2 ^ 20)
        { s with ex := { s.ex with markDue := none, placed := {}, dropped := [], suspect := false } }

/-- EX_CFG.CNT_CLR (R187). -/
def State.exCntClr (s : State) : State :=
  s.clear ([Reg.EX_HIST_CNT_COUNT, Reg.EX_ECHO_CNT_COUNT, Reg.EX_NONE_CNT_COUNT, Reg.EX_VEIL_CNT_COUNT, Reg.EX_FOREIGN_CNT_COUNT,
    Reg.EX_SAT_CNT_COUNT, Reg.EX_MORE_CNT_COUNT, Reg.EX_SAFE_DROP_COUNT] ++ (List.range 16).map Reg.EX_QDROP_COUNT
    ++ (List.range 8).flatMap fun c => [Reg.EX_CL_HIST_COUNT c, Reg.EX_CL_LAT_LAT c])

/-- EX_CNT_CLR (R187). -/
def execExCntClr (t : Nat) (s : State) : Host.Outcome State Fault Refusal := s.run t fun s => s.exCntClr

end Sys2Proof.Machine
end

