-- ==== Sys2Proof/Machine/Converters.lean ====
section
/-!
DEFINITION. Sensor front end and converters (08_sensor_converters.md): crosspoint, scans, outputs, restarts, overrange,
excitation switches, plausibility, impedance check, linearisation, DC block, thresholds.
-/

namespace Sys2Proof.Machine

def State.axChan (s : State) (c : Nat) : AxChan := Tab.get s.ax.chan {} c

def State.setAxChan (s : State) (c : Nat) (x : AxChan) : State :=
  { s with ax := { s.ax with chan := Tab.set s.ax.chan {} c x } }

/-- The impedance check on a pair, and the channel it holds. -/
def State.zCheck (s : State) (p : Nat) : Option ZCheck := Tab.get s.ax.check none p
def State.checking (s : State) (p : Nat) : Option Nat := (s.zCheck p).map (·.chan)

def State.setChecking (s : State) (p : Nat) (x : Option ZCheck) : State :=
  { s with ax := { s.ax with check := Tab.set s.ax.check none p x } }

/-- The start of the slot in progress of a pair. -/
def State.slotAt (s : State) (p : Nat) : Nat := Tab.get s.ax.slotAt 0 p

def State.setSlotAt (s : State) (p x : Nat) : State := { s with ax := { s.ax with slotAt := Tab.set s.ax.slotAt 0 p x } }

def State.inCalSlot (s : State) (p : Nat) : Bool := Tab.get s.ax.calSlot false p

/-! ### The crosspoint (R209 to R211) -/

def State.pinRoleField (s : State) (n : Nat) : Nat := s.fu 0 (Reg.AX_PIN_CFG_ROLE n)
def State.pinSrc (s : State) (n : Nat) : Nat := s.fu 0 (Reg.AX_PIN_CFG_SRC n)

/-- The role a pin takes: invalid roles and the higher-numbered of pins that share a source act as role 0. -/
def State.pinRole (s : State) (n : Nat) : Nat :=
  let r := s.pinRoleField n
  if r ≥ 6 ∨ s.auxBankBad = true then 0
  else if r = 2 ∧ ((List.range n).any fun m => s.pinRoleField m == 2 && s.pinSrc m == s.pinSrc n) = true then 0
  else if r = 5 ∧ ((List.range n).any fun m => s.pinRoleField m == 5) = true then 0
  else r

/-- AX_DEV_STAT.CFG_ERR: an invalid role, a shared source or a bank in the wrong class (R476). -/
def State.pinConflict (s : State) : Bool := s.auxBankBad || (List.range 32).any fun n => s.pinRole n != s.pinRoleField n

/-- The source that a pin in role 2 or 3 belongs to: 0 to 3 IEX0 to IEX3, 4 and 5 VEX0 and VEX1. -/
def State.pinSource (s : State) (n : Nat) : Option Nat :=
  if s.pinRoleField n = 2 then some (s.pinSrc n) else if s.pinRoleField n = 3 then some (4 + s.pinSrc n) else none

/-- The current of a source in µA, and the voltage of one in mV (Table 8.7): 0 is off, other values act as the nearer limit. -/
def State.iexLevel (s : State) (k : Nat) : Nat := 10 * min 200 (s.fu 0 (Reg.AX_IEX_I k))
def State.vexLevel (s : State) (k : Nat) : Nat :=
  let v := s.fu 0 (Reg.AX_VEX_V k)
  if v = 0 then 0 else max 500 (min 2500 v)

/-- The test DAC's output in µV, where it is on (Table 8.7). -/
def State.tdacLevel (s : State) : Option Rat :=
  if s.fu 0 Reg.AX_TDAC_EN = 1 then some (s.fu 0 Reg.AX_TDAC_CODE * 2500000 / 4096) else none

/-- What a running device drives at AUX pin `n` (R209, Table 8.7); a pin of role 0 or 1 and a source that is off drive nothing. -/
inductive AuxDrive
  | none
  | microamp (i : Nat)
  | millivolt (v : Rat)
  deriving DecidableEq, Repr

def State.auxDrive (s : State) (n : Nat) : AuxDrive :=
  match s.pinRole n with
  | 2 => if s.iexLevel (s.pinSrc n) = 0 then .none else .microamp (s.iexLevel (s.pinSrc n))
  | 3 => if s.pinSrc n ≥ 2 ∨ s.vexLevel (s.pinSrc n) = 0 then .none else .millivolt (s.vexLevel (s.pinSrc n))
  | 4 => if s.fu 0 Reg.AX_BIAS_EN = 1 then .millivolt 900 else .none
  | 5 => match s.tdacLevel with | some v => .millivolt (v / 1000) | none => .none
  | _ => .none

/-! ### Scans (R212 to R215) -/

/-- Slots in the scan; 0 acts as 1, above 8 as 8. -/
def State.nslot (s : State) (p : Nat) : Nat := max 1 (min 8 (s.fu p (Reg.AX_PAIR_CFG_NSLOT p)))
def State.slotChan (s : State) (p k : Nat) : Nat := s.fu p (Reg.AX_SLOT_CH p k)
def State.pairRuns (s : State) (p : Nat) : Bool := s.h (Reg.AX_PAIR_STAT_RUNNING p) == 1

/-- The first slot that names a channel, in the order pair 0 slot 0 to pair 3 slot 7 (R214). -/
def State.firstSlot (s : State) (c : Nat) : Option (Nat × Nat) :=
  ([0, 1, 2, 3].flatMap fun p => (List.range (s.nslot p)).map fun k => (p, k)).find? fun x => s.slotChan x.1 x.2 == c

/-- The channels of a pair's scan. -/
def State.scanChans (s : State) (p : Nat) : List Nat :=
  ((List.range (s.nslot p)).map (s.slotChan p)).dedup

/-- The running pair that converts a channel. -/
def State.convertedBy (s : State) (c : Nat) : Option Nat :=
  match s.firstSlot c with
  | some (p, _) => if s.pairRuns p && s.fu c (Reg.AX_CH_CFG_EN c) == 1 then some p else none
  | none => none

/-- R212: the input selection of a channel is valid. -/
def State.inputOk (s : State) (c : Nat) : Bool :=
  let nsel := s.fu c (Reg.AX_CH_SEL_NSEL c)
  nsel != 3 && (s.fu c (Reg.AX_CH_SEL_PSEL c) == 1 || s.pinRole (s.fu c (Reg.AX_CH_SEL_POS c)) != 0)
    && (nsel != 0 || s.pinRole (s.fu c (Reg.AX_CH_SEL_NEG c)) != 0)

/-- Whether a channel uses a pin. -/
def State.usesPin (s : State) (c n : Nat) : Bool :=
  (s.fu c (Reg.AX_CH_SEL_PSEL c) == 0 && s.fu c (Reg.AX_CH_SEL_POS c) == n)
    || (s.fu c (Reg.AX_CH_SEL_NSEL c) == 0 && s.fu c (Reg.AX_CH_SEL_NEG c) == n)

/-- The source a channel depends on; EXC 7 acts as none. -/
def State.dependsOn (s : State) (c : Nat) : Option Nat :=
  let e := s.fu c (Reg.AX_CH_SEL_EXC c)
  if e = 0 ∨ e = 7 then none else some (e - 1)

/-- The channels that running pairs convert. -/
def State.converted (s : State) : List Nat := (List.range 32).filter fun c => (s.convertedBy c).isSome

/-- The settle count (R217, R218). -/
def State.settleCount (s : State) (p : Nat) : Nat :=
  if s.fu p (Reg.AX_PAIR_CFG_FIRSEL p) = 1 then max 1 (s.fu p (Reg.AX_PAIR_CFG_USETTLE p))
  else [2, 3, 4, 5, 5].getD (s.fu p (Reg.AX_PAIR_CFG_PRESET p)) 5

/-- The channels that a pair's scan converts: those whose first slot lies in it (R214). -/
def State.ownChans (s : State) (p : Nat) : List Nat :=
  (s.scanChans p).filter fun c => (s.firstSlot c).any fun x => x.1 == p

/-- The other channels of a scan: the next output of each carries UNSET (R222, R231). -/
def State.loseNext (s : State) (p c : Nat) : State :=
  (s.ownChans p).foldl (fun s d => if d = c then s else s.setAxChan d { s.axChan d with nextUnset := true }) s

/-- The output period of a pair; with an invalid preset a pair does not run (R217). -/
def State.outPeriod (s : State) (p : Nat) : Nat := (presetPeriod (s.fu p (Reg.AX_PAIR_CFG_PRESET p))).getD 1

/-! ### Impedance checks (R230 to R233) -/

/-- Whether a channel of a pair's scan is the position source of an axis that is not OFF (R233, R471). -/
def State.scanServes (s : State) (p : Nat) : Bool :=
  (s.scanChans p).any fun c => [0, 1, 2, 3].any fun a =>
    s.fu a (Reg.SV_AX_CFG_SRC a) == c && s.h (Reg.SV_AX_STAT_STATE a) != 0

/-- A check begins: the pair holds the channel in its slot, and the tone of FREQ and AMP is driven for 16 periods (R230, R231). The slot of
another channel that was in progress yields nothing. -/
def State.beginCheck (s : State) (p c : Nat) : State :=
  let fast := s.fu c (Reg.AX_ZCHK_FREQ c) == 1
  let x : ZCheck := { chan := c, ends := s.now + (if fast then 1600 else 16000) * lsbUs, hz := if fast then 10000 else 1000
                      peak := if s.fu c (Reg.AX_ZCHK_AMP c) = 1 then 10 else 1 }
  let k := s.h (Reg.AX_PAIR_STAT_SLOT p)
  let s := match s.firstSlot c with
    | some y => if y.2 = k then s else (s.setH (Reg.AX_PAIR_STAT_SLOT p) y.2).setSlotAt p s.now
    | none => s
  let s := if s.inputOk c then s else s.flag (Reg.AX_STAT_CFG_ERR c) true
  (((s.flag (Reg.AX_STAT_CHK_DEFER c) false).flag (Reg.AX_STAT_CHK c) true).setAxChan c { s.axChan c with zWait := false }).setChecking p (some x)

/-- The checks that have waited for their pair: for another check, a calibration slot or an axis that was not OFF (R233). -/
def State.resumeChecks (s : State) : State :=
  [0, 1, 2, 3].foldl (fun s p =>
    match s.converted.find? fun c => (s.axChan c).zWait && s.convertedBy c == some p with
    | some c => if (s.zCheck p).isNone && !s.inCalSlot p && !s.scanServes p then s.beginCheck p c else s
    | none => s) s

/-- A calibration slot begins: it lasts two output periods and delays what follows in the pair (R471). -/
def State.beginCalSlot (s : State) (p : Nat) : State :=
  let s := s.setSlotAt p (s.slotAt p + 2 * s.outPeriod p)
  ({ s with ax := { s.ax with calSlot := Tab.set s.ax.calSlot false p true, calWait := Tab.set s.ax.calWait false p false } }).calBegins (64 + p)

/-- A calibration slot is over. -/
def State.endCalSlot (s : State) (p : Nat) : State := { s with ax := { s.ax with calSlot := Tab.set s.ax.calSlot false p false } }

/-- A calibration that waits begins after the last slot of a pair's scan, where nothing defers it (R233, R471). -/
def State.resumeCal (s : State) (p : Nat) : State :=
  if Tab.get s.ax.calWait false p && s.calItem 3 && s.pairRuns p && !s.scanServes p && s.h (Reg.AX_PAIR_STAT_SLOT p) == 0 && (s.zCheck p).isNone
      && !s.inCalSlot p then s.beginCalSlot p
  else s

/-- A check is over (R231): the other channels of the scan lose their next output. Who calls this lets waiting checks begin afterwards. -/
def State.endCheck (s : State) (p : Nat) : State :=
  match s.checking p with
  | some c => ((s.setChecking p none).flag (Reg.AX_STAT_CHK c) false).loseNext p c
  | none => s

/-- A channel's decimators restart at an instant (R220), and a check on it is aborted (R233); checks that wait for the pair begin later. -/
def State.restart (s : State) (p c at_ : Nat) : State :=
  let s := if s.checking p = some c then s.endCheck p else s
  s.setAxChan c { s.axChan c with
    prim := {}, sec := {}, primFrom := at_, secFrom := at_, settle := s.settleCount p, nextUnset := false, ovr := none, restartAtSlot := false
    synced := false }

/-- The start of a slot: a GAIN change (R224) and a restart after blanking (R225). -/
def State.slotStart (s : State) (p k : Nat) : State :=
  let c := s.slotChan p k
  if s.firstSlot c = some (p, k) then
    let ch := s.axChan c
    let g := (Reg.AX_CH_CFG_GAIN c).of (s.reaching c (Reg.AX_CH_CFG c))
    if g ≠ ch.gain ∨ ch.restartAtSlot = true then (s.setAxChan c { ch with gain := g }).restart p c (s.slotAt p) else s
  else s

/-! ### When a write takes effect (R211, R219, R224, R225) -/

/-- The source whose switch a change of an address is (R211). -/
def State.switchOf (s : State) (a : Nat) : Option Nat :=
  match axPlace a with
  | .source k => some k
  | .pin n => s.pinSource n
  | _ => none

/-- The lowest-numbered running pair that converts a channel using a pin, VBIAS or the test DAC (R211). -/
def State.pinPair (s : State) (a : Nat) : Option Nat :=
  let uses : Nat → Bool := match axPlace a with
    | .pin n => fun c => s.usesPin c n
    | .bias => fun c => s.fu c (Reg.AX_CH_SEL_NSEL c) == 1 || (List.range 32).any (fun n => s.pinRole n == 4 && s.usesPin c n)
    | .tdac => fun c => s.fu c (Reg.AX_CH_SEL_PSEL c) == 1 || (List.range 32).any (fun n => s.pinRole n == 5 && s.usesPin c n)
    | _ => fun _ => false
  [0, 1, 2, 3].find? fun p => s.converted.any fun c => uses c && s.convertedBy c == some p

/-- The channels of running pairs that depend on a source. -/
def State.dependents (s : State) (k : Nat) : List Nat := s.converted.filter fun c => s.dependsOn c == some k

/-- Whether a write to an address waits for nothing: its pair stands, no running pair converts its channel, no running pair uses its pin or depends on its source. -/
def State.axIdle (s : State) (a : Nat) : Bool :=
  match s.switchOf a with
  | some k => (s.dependents k).isEmpty
  | none =>
    match axPlace a with
    | .pair p => !s.pairRuns p
    | .slot p => !s.pairRuns p
    | .chan c => (s.firstSlot c).all fun x => !s.pairRuns x.1
    | .pin _ => (s.pinPair a).isNone
    | .bias => (s.pinPair a).isNone
    | .tdac => (s.pinPair a).isNone
    | _ => false

/-- AX_PAIR_STAT.CFG_ERR: what a pair's configuration in use makes invalid (R214, R217, R229, Table 8.7). -/
def State.pairJudge (s : State) (p : Nat) : State :=
  let preset := s.fu p (Reg.AX_PAIR_CFG_PRESET p)
  let n := s.fu p (Reg.AX_PAIR_CFG_NSLOT p)
  let twice := (List.range (s.nslot p)).any fun k => s.firstSlot (s.slotChan p k) != some (p, k)
  let bad := decide (preset ≥ 5) || decide (n = 0) || decide (n > 8) || s.fu p (Reg.AX_PAIR_CFG_SOLO p) == 3
  if bad || twice && s.fu p (Reg.AX_PAIR_CFG_RUN p) == 1 then s.flag (Reg.AX_PAIR_STAT_CFG_ERR p) true else s

/-- A pair stops: a check on it ends, and a channel that is blanked for a switch yet to come is so no more. -/
def State.pairStop (s : State) (p : Nat) : State :=
  let s := (s.ownChans p).foldl (fun s c =>
    let s := s.setAxChan c { s.axChan c with switchAhead := false }
    if (s.axChan c).blankEnd.isNone then s.flag (Reg.AX_STAT_BLANK c) false else s) s
  (((s.endCheck p).endCalSlot p).setH (Reg.AX_PAIR_STAT_SLOT p) 0).resumeChecks

/-- The configuration of a pair in use is looked at (R214, R217, R219, R229): it starts, stops or goes on, and sets CFG_ERR. -/
def State.pairConfig (s : State) (p : Nat) (restartAll : Bool) : State :=
  let run := s.fu p (Reg.AX_PAIR_CFG_RUN p) == 1 && decide (s.fu p (Reg.AX_PAIR_CFG_PRESET p) < 5)
  let was := s.pairRuns p
  let s := (s.pairJudge p).flag (Reg.AX_PAIR_STAT_RUNNING p) run
  if !run then s.pairStop p
  else if !was || restartAll then
    let s := if was then s else s.setSlotAt p s.now
    ((s.ownChans p).foldl (fun s c => s.restart p c (s.slotAt p)) (s.setH (Reg.AX_PAIR_STAT_SLOT p) 0)).slotStart p 0 |>.resumeChecks
  else s

/-- After a change of pins or sources: role conflicts are reported (R209, R210). -/
def State.pinsChecked (s : State) : State := if s.pinConflict then s.flag Reg.AX_DEV_STAT_CFG_ERR true else s

/-- Whether a value of a register that `q` names took effect between two states. -/
def State.tookEffect (was s : State) (q : Nat → Bool) : Bool :=
  (was.regs.waiting.any fun w => q w.addr && !s.regs.waiting.contains w) || was.regs.stale.any fun x => q x.addr && !s.regs.stale.contains x

def isPinReg (a : Nat) : Bool := match axPlace a with | .pin _ => true | _ => false

/-- Role conflicts, where a pin's configuration has taken effect since `was`. -/
def State.pinsSince (was s : State) : State := if was.tookEffect s isPinReg then s.pinsChecked else s

/-- DCB_EN going from 0 to 1 clears the estimate (R236). -/
def State.dcbEdge (s : State) (c was : Nat) : State :=
  if was = 0 ∧ s.fu c (Reg.AX_CH_CFG_DCB_EN c) = 1 then s.setAxChan c { s.axChan c with m := 0 } else s

/-- What follows when the registers of a channel have taken effect: DCB_EN (R236); a PER of 0 turns checks off (R230). -/
def State.chanLooked (s : State) (c dcbWas : Nat) : State :=
  let s := s.dcbEdge c dcbWas
  if s.fu c (Reg.AX_ZCHK_PER c) = 0 ∧ (s.axChan c).zWait = true then
    (s.setAxChan c { s.axChan c with zWait := false }).flag (Reg.AX_STAT_CHK_DEFER c) false
  else s

def isChanReg (c a u : Nat) : Bool := axPlace a == .chan c && decide (u = c)

/-- The registers of a channel take effect at its output. -/
def State.applyChan (s : State) (c : Nat) : State := (s.applyAt (isChanReg c)).chanLooked c (s.fu c (Reg.AX_CH_CFG_DCB_EN c))

/-- Writes that wait for nothing take effect (R211, R219, R225): those of channels that no running pair converts, and the others of the
block; a pair that stands may start. -/
def State.axAcceptIdle (s : State) : State :=
  let stopped := [0, 1, 2, 3].filter fun p => !s.pairRuns p
  let s := (List.range 32).foldl (fun s c =>
    if (s.firstSlot c).all fun x => !s.pairRuns x.1 then (s.applyNow (isChanReg c)).chanLooked c (s.fu c (Reg.AX_CH_CFG_DCB_EN c)) else s) s
  let s' := s.pinsSince (s.applyNow fun a _ => decide (a / 65536 = 6) && s.axIdle a)
  stopped.foldl (fun s' p => if s.tookEffect s' (fun a => axPlace a == .pair p || axPlace a == .slot p) then s'.pairConfig p false else s') s'

/-! ### Samples and filters (R213, R215, R217, R218) -/

/-- One modulator sample into a sinc stage of a ratio. -/
def Decim.feed (r : Nat) (d : Decim) (x : Int) : Decim :=
  let i1 := d.i1 + x
  let i2 := d.i2 + i1
  let i3 := d.i3 + i2
  let d := { d with i1 := i1, i2 := i2, i3 := i3, n := d.n + 1 }
  if d.n % r = 0 then
    let d1 := i3 - d.c1
    let d2 := d1 - d.c2
    { d with c1 := i3, c2 := d1, c3 := d2, sinc := ((d2 - d.c3) :: d.sinc).take 64 }
  else d

/-- The FIR's sum over the sinc stage's outputs, the first tap on the newest; R217 keeps the sinc ratio `r`, and the sum is so 2^18 × r³ times the result. -/
def Decim.fir (d : Decim) (taps : List Int) : Int := ((d.sinc.zip taps).map fun x => x.1 * x.2).sum

/-- The sinc ratio of a preset (Table 8.4): a quarter of the modulator samples of an output period. -/
def State.sincRatio (s : State) (p : Nat) : Nat := s.outPeriod p / 40000

/-- The taps of a pair: AX_FIR with FIRSEL 1, else those built in. -/
def State.firTaps (s : State) (p : Nat) : List Int :=
  (List.range 64).map fun t =>
    if s.fu p (Reg.AX_PAIR_CFG_FIRSEL p) = 1 then (s.oneReg (Reg.AX_FIR p t)).signed
    else (Config.builtinFir (s.fu p (Reg.AX_PAIR_CFG_PRESET p)) t).signed

/-- The filtered result of a decimator in pV. In a scan of one slot, with a whole number of output periods since the restart, it is that
of the sinc stage and the FIR; elsewhere the spec does not say where the stages' outputs fall, and it is a free value (log 133). -/
def State.filtered (s : State) (p : Nat) (d : Decim) : Rat :=
  let r := s.sincRatio p
  let taps := s.firTaps p
  if s.nslot p = 1 ∧ d.n % (4 * r) = 0 then (d.fir taps : Rat) / ((262144 * r ^ 3 : Nat) : Rat)
  else (Config.scanResult (taps ++ [(d.n : Int), d.i1, d.i2, d.i3, d.c1, d.c2, d.c3] ++ d.sinc) : Rat) / 1000

/-- One converter LSB of a gain code in pV (R213, Table 8.2). -/
def lsbPv (gain : Nat) : Rat := 1250000000000 / ((524288 * 2 ^ gain : Nat) : Rat)

/-- A result as a score (R216): the spec states neither its rounding nor what a value outside the format gives; both are free. -/
def converterScore (v : Rat) : Int :=
  let i := if v.den = 1 then v.num else v.floor + ((Config.converterRound v.num v.den).toNat : Int)
  if satSigned i = i then i else (Config.beyondScale i).signed

/-- The raw result of a modulator (0 primary, 1 secondary) for a channel: in converter LSB, less the calibrated offset and the calibrated
gain error in ppm (R471, R472; DEDUCED, unsafe, log 134: the spec gives no formula). -/
def State.rawResult (s : State) (p c which : Nat) (d : Decim) : Int :=
  let ofs : Rat := s.quantVal (axKey c (2 * which))
  let gain : Rat := s.quantVal (axKey c (2 * which + 1))
  converterScore ((s.filtered p d / lsbPv (s.axChan c).gain - ofs) * 1000000 / (1000000 + gain))

/-- The samples of a slot that a channel's decimator takes (R215): one each 78.125 ns from the start of the slot; in a scan of more slots
the first 16 are not used, and none from before `from_`. -/
def State.usable (s : State) (p from_ : Nat) (xs : List Int) : List Int :=
  let start := s.slotAt p
  let used := xs.zipIdx.filter fun x => decide (start + 10000 * x.2 ≥ from_) && (s.nslot p == 1 || decide (x.2 ≥ 16))
  used.map (·.1)

/-- The samples of the slot that ends go into its channel's decimators. -/
def State.absorb (s : State) (p c : Nat) (prim sec : List Int) : State :=
  let ch := s.axChan c
  let r := s.sincRatio p
  s.setAxChan c { ch with
    prim := (s.usable p ch.primFrom prim).foldl (fun d x => d.feed r x) ch.prim
    sec := (s.usable p ch.secFrom sec).foldl (fun d x => d.feed r x) ch.sec }

/-! ### Outputs (R216 to R237) -/

/-- The temperature of R235 in 1/1,024 °C, and whether the diode stands in for TCH. -/
def State.linTemp (s : State) (c : Nat) : Int × Bool :=
  if s.fu c (Reg.AX_LIN_CFG_TSEL c) = 0 then (s.th.plausible, false)
  else
    match (s.axChan (s.fu c (Reg.AX_LIN_CFG_TCH c))).temp with
    | some v => (v, false)
    | none => (s.th.plausible, true)

/-- The polynomial of R234 before rounding, in units of one converter LSB. -/
def State.linPoly (s : State) (c : Nat) (raw temp : Int) : Rat :=
  let x : Rat := (raw : Rat) / 524288
  let th : Rat := ((temp : Rat) / 1024 - 25) / 128
  let os := min 5 (s.fu c (Reg.AX_LIN_CFG_ORD_S c))
  let ot := s.fu c (Reg.AX_LIN_CFG_ORD_T c)
  524288 * ((List.range (os + 1)).flatMap fun i => (List.range (ot + 1)).map fun j =>
    ((s.use c (Reg.AX_LIN_C c i j)).signed : Rat) / 65536 * x ^ i * th ^ j).foldl (· + ·) 0

/-- Linearisation (R234): the value, CLIP, and TFALL. -/
def State.linearise (s : State) (c : Nat) (raw : Int) : Int × Bool × Bool :=
  if s.fu c (Reg.AX_CH_CFG_LIN_EN c) = 0 then (raw, false, false)
  else
    let t := s.linTemp c
    let v := roundRat (s.linPoly c raw t.1)
    (satSigned v, decide (satSigned v ≠ v), t.2)

/-- The DC-blocked value (R236). x - m need not be an integer, and the spec does not say how it is rounded: whether the score is its floor or the next integer is a free value. -/
def dcBlocked (x : Int) (m : Rat) : Int :=
  let d : Rat := (x : Rat) - m
  if d.den = 1 then satSigned d.num else satSigned (d.floor + ((Config.dcBlockRound d.num d.den).toNat : Int))

/-- Thresholds look at a settled output (R237). -/
def State.thresholdsAt (s : State) (c : Nat) (v : Int) : State :=
  [0, 1, 2, 3].foldl (fun s k =>
    if s.fu c (Reg.AX_THR_CFG_EN c k) = 0 then s
    else
      let lvl := (s.use c (Reg.AX_THR_LVL c k)).signed
      let hyst : Int := s.fu c (Reg.AX_THR_CFG_HYST c k)
      let dir := s.fu c (Reg.AX_THR_CFG_DIR c k)
      let was := decide (s.h (Reg.AX_STAT_THR c) / 2 ^ k % 2 = 1)
      let now := if was then !(if dir = 0 then decide (v < lvl - hyst) else decide (v > lvl + hyst))
        else if dir = 0 then decide (v ≥ lvl) else decide (v ≤ lvl)
      if now = was then s
      else
        let s := if now then s.orBit (Reg.AX_STAT_THR c) k else s.clrBit (Reg.AX_STAT_THR c) k
        let sev : Sev := if s.fu c (Reg.AX_THR_CFG_SEV c k) = 1 then .amber else .info
        let s := s.raiseSev .axThreshold sev c (2 * k + (if now then 1 else 0))
        if s.fu c (Reg.AX_THR_CFG_TRIG c k) = 1 then s.aqTrigger (.threshold c k now) else s) s

/-- The derating groups that read a channel use it again (R264). -/
def State.lampTempBack (s : State) (c : Nat) : State :=
  [0, 1, 2, 3].foldl (fun s g => if s.f (Reg.IL_DRT_SRC_CH g) = c then s.clrBit Reg.IL_STAT_DRT_FAIL g else s) s

/-- An output of a channel is delivered (R216): AX_VAL and AX_VSTAT, servo, thermal manager and derating, thresholds, acquisition. -/
def State.deliverOutput (s : State) (c : Nat) (v : Int) (unset ovr clip plaus blank : Bool) : State :=
  let ch := s.axChan c
  let n := ch.count + 1
  let bit := fun (b : Bool) (i : Nat) => if b then 2 ^ i else 0
  let status := bit unset 19 + bit ovr 18 + bit clip 17 + bit plaus 16 + bit blank 15 + bit ch.fail 14 + c * 2 ^ 9 + n % 2 ^ 9
  let s := s.setAxChan c { ch with count := n }
  let s := (s.setH (Reg.AX_VAL_VALUE c) (low 20 v)).setH (Reg.AX_VSTAT_STATUS c) status
  let s := s.flag (Reg.AX_STAT_UNSET c) unset
  let s := if ovr then (s.flag (Reg.AX_STAT_OVR c) true).inc (Reg.AX_OVR_CNT_COUNT c) else s
  let s := if clip then s.flag (Reg.AX_STAT_CLIP c) true else s
  let s := if plaus then s.inc (Reg.AX_PLAUS_CNT_COUNT c) else s
  let s := if unset then s.inc (Reg.AX_UNSET_CNT_COUNT c) else s
  let s := [0, 1, 2, 3].foldl (fun s a =>
    if s.fu a (Reg.SV_AX_CFG_SRC a) = c then
      let x : SvAxis := { Tab.get s.sv.axes {} a with inbox := some { y := v, usable := !unset && !ovr } }
      { s with sv := { s.sv with axes := Tab.set s.sv.axes {} a x } }
    else s) s
  let ch := s.axChan c
  let s := s.setAxChan c
    { ch with settled := if unset then ch.settled else some v, settledAt := if unset then ch.settledAt else s.now
              roughAt := if !unset && ch.settled.any (fun w => s.rateBad v w (s.now - ch.settledAt)) then s.now else ch.roughAt
              temp := if ch.fail then none else if unset then ch.temp else some v }
  let s := if !unset && !ch.fail then s.lampTempBack c else s
  let dcb := s.fu c (Reg.AX_CH_CFG_DCB_EN c) == 1 && !unset
  let ch := s.axChan c
  let w := if dcb then dcBlocked v ch.m else v
  let k := max 4 (min 20 (s.fu c (Reg.AX_DCB_K c)))
  let s := if dcb && s.fu c (Reg.AX_DCB_FREEZE c) == 0 then
      s.setAxChan c { ch with m := ch.m + ((v : Rat) - ch.m) / ((2 ^ k : Nat) : Rat) } else s
  let s := if unset then s else s.thresholdsAt c w
  s.aqConverter c (Score.ofSigned w) (BitVec.ofNat 20 status) unset

/-- A placeholder (R226): the last value, with BLANK and UNSET. -/
def State.placeholder (s : State) (c : Nat) : State :=
  s.deliverOutput c (sgn 20 (s.h (Reg.AX_VAL_VALUE c))) true false false false true

/-- The plausibility comparison of an output (R228). -/
def State.plausible (s : State) (c : Nat) (prim sec : Int) : State × Bool :=
  let ch := s.axChan c
  let far := decide ((prim - sec).natAbs > s.fu c (Reg.AX_PLAUS_LIM_LIM c))
  if !far then (s.setAxChan c { ch with disagree := 0, plausRaised := false }, false)
  else
    let n := ch.disagree + 1
    let hit := decide (n ≥ max 1 (s.fu c (Reg.AX_PLAUS_LIM_N c)))
    let s := s.setAxChan c { ch with disagree := n, plausRaised := ch.plausRaised || hit }
    if hit then
      let s := s.flag (Reg.AX_STAT_PLAUS c) true
      (if ch.plausRaised then s else s.raise .plausFail c 0, true)
    else (s, true)

/-- A converted output of a channel at the end of its slot. -/
def State.convert (s : State) (p c : Nat) (prim sec : Int) : State :=
  let ch := s.axChan c
  let solo := s.fu p (Reg.AX_PAIR_CFG_SOLO p)
  let unset := decide (ch.settle > 0) || ch.nextUnset || ch.ovr.isSome
  let compare := !unset && (solo == 0 || solo == 3) && decide (ch.suspend = 0)
  let s := s.setAxChan c { ch with settle := ch.settle - 1, nextUnset := false, ovr := none, suspend := ch.suspend - 1 }
  match ch.ovr with
  | some up => s.deliverOutput c (if up then 524287 else -524288) true true false false false
  | none =>
    let r := if compare then s.plausible c prim sec else (s, false)
    let s := r.1
    let l := s.linearise c (if solo = 2 then sec else prim)
    let s := if l.2.2 then s.flag (Reg.AX_STAT_TFALL c) true else s
    s.deliverOutput c l.1 unset false l.2.1 r.2 false

/-- Whether a switch of a source waits (R225). -/
def State.switchWaits (s : State) (k : Nat) : Bool :=
  s.regs.waiting.any (fun w => s.switchOf w.addr == some k && !w.left.isEmpty) || s.regs.stale.any (fun x => s.switchOf x.addr == some k)

/-- Dependent channels of a pair whose output has ended are blanked while their source waits to switch (R225), also those blanked already. -/
def State.blankDependents (s : State) (p : Nat) : State :=
  (List.range 6).foldl (fun s k =>
    if s.switchWaits k then
      (s.dependents k).foldl (fun s c =>
        if s.convertedBy c = some p then (s.setAxChan c { s.axChan c with switchAhead := true }).flag (Reg.AX_STAT_BLANK c) true else s) s
    else s) s

/-- Blanking of a channel ends at an instant (R225): in a scan of one slot its decimator restarts there, and its output instants count from
it; in a scan of more slots it restarts with its first slot from then on, but where a sync came meanwhile, at the end of blanking (R227). -/
def State.endBlank (s : State) (p c at_ : Nat) : State :=
  let s := (s.setAxChan c { s.axChan c with blankEnd := none }).flag (Reg.AX_STAT_BLANK c) false
  if s.nslot p = 1 then ((s.restart p c at_).setSlotAt p at_).resumeChecks
  else if (s.axChan c).synced then (s.restart p c at_).resumeChecks
  else s.setAxChan c { s.axChan c with restartAtSlot := true }

/-- A channel blanked for a switch that no longer comes, as its write was discarded or EXC has changed, is blanked no more. -/
def State.unblank (s : State) (p c : Nat) : State :=
  if (s.axChan c).switchAhead = true ∧ (s.dependsOn c).all (fun k => !s.switchWaits k) = true then
    let s := s.setAxChan c { s.axChan c with switchAhead := false }
    if (s.axChan c).blankEnd = none then s.endBlank p c s.now else s
  else s

/-- The output of a channel at the end of its slot (R212, R214, R226, R231): none with EN 0 or an invalid input, a placeholder while it is
blanked or under a check, else the converted samples. The spec does not say what a slot yields in which blanking ended, before the decimator
restarts with the next slot (R225): the model delivers the placeholder, and its samples feed no decimator (DESIGN CHOICE, log 159). -/
def State.chanOutput (s : State) (p c : Nat) (prim sec : List Int) : State :=
  let s := if s.fu c (Reg.AX_CH_SEL_EXC c) = 7 then s.flag (Reg.AX_STAT_CFG_ERR c) true else s
  if s.fu c (Reg.AX_CH_CFG_EN c) = 0 then s
  else if s.inputOk c = false then s.flag (Reg.AX_STAT_CFG_ERR c) true
  else
    let s :=
      if s.h (Reg.AX_STAT_BLANK c) = 1 ∨ (s.axChan c).restartAtSlot = true ∨ s.checking p = some c then s.placeholder c
      else
        let s := s.absorb p c prim sec
        let ch := s.axChan c
        s.convert p c (s.rawResult p c 0 ch.prim) (s.rawResult p c 1 ch.sec)
    s.rampStep (1024 + c)

/-- The end of a slot's conversion: writes that take effect at it, the output, and what depends on the output instant. A slot that names a
channel of an earlier slot passes with no conversion (R214). -/
def State.slotOutput (s : State) (p k : Nat) (prim sec : List Int) : State :=
  let c := s.slotChan p k
  let was := s.pinPair
  let s := if s.firstSlot c = some (p, k) then ((s.applyChan c).unblank p c).chanOutput p c prim sec else s.flag (Reg.AX_PAIR_STAT_CFG_ERR p) true
  let s := s.pinsSince (s.applyAt fun a _ => (s.switchOf a).isNone && (s.pinPair a == some p || was a == some p))
  s.blankDependents p

/-- The fields of a pair's configuration whose change restarts its scan (R219). -/
def scanFields (p : Nat) (v : Score) : List Nat :=
  [(Reg.AX_PAIR_CFG_PRESET p).of v, (Reg.AX_PAIR_CFG_NSLOT p).of v, (Reg.AX_PAIR_CFG_FIRSEL p).of v]

/-- The eight slots of a pair. -/
def State.slots (s : State) (p : Nat) : List Nat := (List.range 8).map (s.slotChan p)

/-- A scan's end (R219): a changed scan begins at slot 0 with every channel restarted; else the next scan begins, and a pair that a check
holds stays in its slot (DEDUCED, unsafe, log 135: R233 has a change under R219 abort a check, so an output instant of a check counts as
the end of the scan in progress). -/
def State.scanEnds (s : State) (p : Nat) : State :=
  let cfg := s.use p (Reg.AX_PAIR_CFG p)
  let before := s.slots p
  let s := s.applyAt fun a u => decide (u = p) && (decide (a = Reg.AX_PAIR_CFG p) || axPlace a == .slot p)
  if scanFields p (s.use p (Reg.AX_PAIR_CFG p)) ≠ scanFields p cfg ∨ s.slots p ≠ before then (s.pairConfig p true).axAcceptIdle
  else
    let k := if (s.checking p).isSome then s.h (Reg.AX_PAIR_STAT_SLOT p) else 0
    (((s.pairJudge p).setH (Reg.AX_PAIR_STAT_SLOT p) k).slotStart p k).resumeChecks.resumeCal p

/-- The end of a slot of a running pair, with the samples of its two modulators in pV (R214, R219). -/
def State.slotEnd (s : State) (p : Nat) (prim sec : List Int) : State :=
  let k := s.h (Reg.AX_PAIR_STAT_SLOT p)
  let at_ := s.slotAt p + s.outPeriod p
  let old := s.outPeriod p
  let s := s.slotOutput p k prim sec
  let s := if s.slotAt p + old = at_ then s.setSlotAt p at_ else s
  let cfg := Reg.AX_PAIR_CFG p
  let new := s.reaching p cfg
  if (Reg.AX_PAIR_CFG_RUN p).of new = 0 then
    ((s.applyAt fun a u => decide (u = p) && (decide (a = cfg) || axPlace a == .slot p)).pairConfig p false).axAcceptIdle
  else if (s.checking p).isSome ∨ k + 1 ≥ s.nslot p then s.scanEnds p
  else
    let s := if scanFields p new = scanFields p (s.use p cfg) then (s.applyAt fun a u => decide (u = p) && decide (a = cfg)).pairJudge p else s
    ((s.setH (Reg.AX_PAIR_STAT_SLOT p) (k + 1)).slotStart p (k + 1)).resumeChecks

/-- CONVERTER_OUTPUT (R214 to R229, R234 to R237, R472): the slot in progress of a pair ends. `primary` and `secondary` hold what the
modulators sampled in it, one value in pV of differential input each 78.125 ns (DESIGN CHOICE, log 43: a modulator's own noise is part of
its samples). -/
def execConverterOutput (t : Nat) (p : Pair) (primary secondary : List Int) (s : State) : Host.Outcome State Fault Refusal :=
  s.runAt t fun s =>
    if s.pairRuns p && decide (s.slotAt p + s.outPeriod p ≤ s.now) then (s.endCalSlot p).slotEnd p primary secondary else s

/-- The channel whose input a pair's modulators see and watch: its slot is in progress, it is enabled with a valid input, and it is neither
blanked nor under a check (R212, R226, R231). -/
def State.watched (s : State) (p : Nat) : Option Nat :=
  let k := s.h (Reg.AX_PAIR_STAT_SLOT p)
  let c := s.slotChan p k
  if s.pairRuns p && s.firstSlot c == some (p, k) && s.fu c (Reg.AX_CH_CFG_EN c) == 1 && s.inputOk c
      && s.h (Reg.AX_STAT_BLANK c) == 0 && (s.checking p).isNone && !s.inCalSlot p then some c
  else none

/-- A reset of a modulator takes 1 µs (R221). -/
def modReset : Nat := 128000

/-- MODULATOR_OVERLOAD (R221, R222, R226): with SOLO 2 the primary does not convert. -/
def execModulatorOverload (t : Nat) (p : Pair) (positive : Bool) (s : State) : Host.Outcome State Fault Refusal :=
  s.run t fun s =>
    match s.watched p with
    | some c =>
      if s.fu p (Reg.AX_PAIR_CFG_SOLO p) = 2 then s
      else
        let s := s.restart p c (s.now + modReset)
        (s.setAxChan c { s.axChan c with ovr := some positive }).loseNext p c
    | none => s

/-- SECONDARY_OVERLOAD (R223): the secondary alone is reset. -/
def execSecondaryOverload (t : Nat) (p : Pair) (s : State) : Host.Outcome State Fault Refusal :=
  s.run t fun s =>
    match s.watched p with
    | some c =>
      if s.fu p (Reg.AX_PAIR_CFG_SOLO p) = 1 then s
      else
        (s.setAxChan c { s.axChan c with suspend := s.settleCount p, sec := {}, secFrom := s.now + modReset }).flag (Reg.AX_PAIR_STAT_SEC_OVR p) true
    | none => s

/-- Whether the output in progress of every running pair that converts a dependent channel has ended since the switch waits (R225). -/
def State.switchDue (s : State) (k : Nat) : Bool :=
  s.switchWaits k && (s.dependents k).all fun c => (s.axChan c).switchAhead

/-- EXCITATION_SWITCH (R225): a waiting switch of a source takes place, and its dependent channels are blanked for 50 µs. -/
def execExcitationSwitch (t : Nat) (src : Fin 6) (s : State) : Host.Outcome State Fault Refusal :=
  s.runAt t fun s =>
    if s.switchDue src then
      let deps := s.dependents src
      let s := s.pinsSince (s.applyNow fun a _ => s.switchOf a == some src.val)
      deps.foldl (fun s c => (s.setAxChan c { s.axChan c with switchAhead := false, blankEnd := some (s.now + 50 * lsbUs) }).flag (Reg.AX_STAT_BLANK c) true) s
    else s

/-- EXCITATION_BLANK_END (R225); a channel whose source waits to switch again stays blanked. -/
def execExcitationBlankEnd (t : Nat) (c : AxCh) (s : State) : Host.Outcome State Fault Refusal :=
  s.run t fun s =>
    match (s.axChan c).blankEnd with
    | none => s
    | some x =>
      if x > s.now then s
      else if (s.axChan c).switchAhead then s.setAxChan c { s.axChan c with blankEnd := none }
      else
        match s.convertedBy c with
        | none => (s.setAxChan c { s.axChan c with blankEnd := none }).flag (Reg.AX_STAT_BLANK c) false
        | some p => s.endBlank p c x

/-- Every running pair restarts at slot 0 with every decimator; checks are aborted (R227). A blanked channel restarts when its blanking ends. -/
def State.decimatorSync (s : State) : State :=
  let s := [0, 1, 2, 3].foldl (fun s p =>
    if s.pairRuns p then
      let s := ((s.endCheck p).setH (Reg.AX_PAIR_STAT_SLOT p) 0).setSlotAt p s.now
      ((s.ownChans p).foldl (fun s c => if s.h (Reg.AX_STAT_BLANK c) = 1 then s.setAxChan c { s.axChan c with synced := true } else s.restart p c s.now) s).slotStart p 0
    else s) s
  s.resumeChecks.flag Reg.AX_DEV_STAT_SYNC_SEEN true

/-- SYNC_DEC_EDGE (R227): pulses shorter than 200 ns are ignored. -/
def execSyncDecEdge (t : Nat) (widthNs : Nat) (s : State) : Host.Outcome State Fault Refusal :=
  s.run t fun s =>
    if widthNs < 200 then s
    else
      let s := if s.fo Reg.AX_CFG_SYNC_PIN_EN = 1 then s.decimatorSync else s
      s.aqTrigger .syncDec

/-- AX_SYNC (R227). -/
def execAxSync (t : Nat) (s : State) : Host.Outcome State Fault Refusal := s.run t fun s => s.decimatorSync

/-- A write to AX_FIR is accepted (R218). -/
def State.firWrite (s : State) (p tap : Nat) (v : Score) : State :=
  if (Reg.AX_PAIR_CFG_RUN p).of (s.coming p (Reg.AX_PAIR_CFG p)) = 0 ∧ s.pairRuns p = false then s.setOne (Reg.AX_FIR p tap) v
  else s.flag Reg.AX_DEV_STAT_FIR_LOCK true

/-- FIR_WRITE (R218). -/
def execFirWrite (t : Nat) (p : Pair) (tap : Fin 64) (v : Score) (s : State) : Host.Outcome State Fault Refusal :=
  s.run t fun s => s.firWrite p tap v

/-- IMPEDANCE_CHECK_START (R230, R231, R233): a check that falls due, PER seconds after the last; a first one may fall due at any time. It
waits for its pair where another check, a calibration slot or an axis holds it. -/
def execImpedanceCheckStart (t : Nat) (c : AxCh) (s : State) : Host.Outcome State Fault Refusal :=
  s.run t fun s =>
    let per := min 60 (s.fu c (Reg.AX_ZCHK_PER c))
    let due := (s.axChan c).zAt.all fun x => decide (x + per * lsbS ≤ s.now)
    match s.convertedBy c with
    | none => s
    | some p =>
      if per = 0 ∨ due = false ∨ s.checking p = some c.val then s
      else
        let s := s.setAxChan c { s.axChan c with zAt := some s.now, zWait := true }
        let s := if s.scanServes p then s.flag (Reg.AX_STAT_CHK_DEFER c) true else s
        s.resumeChecks

/-- |Z| in Ω of a correlator result: the peak voltage over the peak current. -/
def zOhm (nanovolt peak : Nat) : Nat :=
  nanovolt / (1000 * peak) + (if nanovolt % (1000 * peak) = 0 then 0 else (Config.zRound nanovolt peak).toNat)

/-- IMPEDANCE_CHECK_END (R230 to R232): the 16 tone periods are over; `nanovolt` is the peak voltage that the correlator found at the tone.
SENSOR_OPEN carries whole kΩ. -/
def execImpedanceCheckEnd (t : Nat) (c : AxCh) (nanovolt : Nat) (s : State) : Host.Outcome State Fault Refusal :=
  s.run t fun s =>
    match [0, 1, 2, 3].find? fun p => s.checking p == some c.val with
    | none => s
    | some p =>
      match s.zCheck p with
      | none => s
      | some z =>
        if s.now < z.ends then s
        else
          let ohm := zOhm nanovolt z.peak
          let opened := decide (ohm > s.fu c (Reg.AX_ZMAX_ZMAX c))
          let shorted := decide (ohm < s.fu c (Reg.AX_ZCHK_ZMIN c))
          let s := s.setH (Reg.AX_Z_Z c) ohm
          let s := if opened then (s.flag (Reg.AX_STAT_OPEN c) true).raise .sensorOpen c (satScore (ohm / 1000)) else s
          let s := if shorted then (s.flag (Reg.AX_STAT_SHORT c) true).raise .sensorShort c (satScore ohm) else s
          let s := s.setAxChan c { s.axChan c with fail := opened || shorted }
          (s.restart p c s.now).resumeChecks

/-- AX_CFG.CNT_CLR (R238). -/
def State.axCntClr (s : State) : State :=
  s.clear ((List.range 32).flatMap fun c => [Reg.AX_OVR_CNT_COUNT c, Reg.AX_PLAUS_CNT_COUNT c, Reg.AX_UNSET_CNT_COUNT c])

/-- AX_CNT_CLR (R238). -/
def execAxCntClr (t : Nat) (s : State) : Host.Outcome State Fault Refusal := s.run t fun s => s.axCntClr

end Sys2Proof.Machine
end

