-- ==== Sys2Proof/Machine/Illum.lean ====
section
/-!
DEFINITION. Camera illuminator drive (10_illuminators.md): levels, fades, derating, lamp faults, verification pulses.
-/

namespace Sys2Proof.Machine

def State.ilChan (s : State) (c : Nat) : IlChan := Tab.get s.il.chan {} c

def State.setIlChan (s : State) (c : Nat) (x : IlChan) : State :=
  { s with il := { s.il with chan := Tab.set s.il.chan {} c x } }

/-! ### On-time (R259 to R264) -/

/-- The derating factor that a channel takes from a group (R263, R264), with the group's fields as they are in effect for the channel.
Before the sensor's first settled output there is no T: the factor is a free value. -/
def State.derating (s : State) (c g : Nat) : Nat :=
  let ch := s.axChan (s.fu c (Reg.IL_DRT_SRC_CH g))
  let mn := s.fu c (Reg.IL_DRT_SRC_MIN g)
  if ch.fail = true ∨ s.h Reg.IL_STAT_DRT_FAIL / 2 ^ g % 2 = 1 then mn
  else
    match ch.settled with
    | none => (Config.deratingUnknown g s.freeCtr).val
    | some v =>
      let t0 := (s.use c (Reg.IL_DRT_T0 g)).signed
      let t1 := (s.use c (Reg.IL_DRT_T1 g)).signed
      if v ≤ t0 then 256 else if v ≥ t1 then mn
      else ((256 * (t1 - t0) - (256 - (mn : Int)) * (v - t0)) / (t1 - t0)).toNat

/-- The on-time of a level (R260). -/
def onTime (level : Nat) (perceptual : Bool) (f : Nat) : Nat :=
  let on : Nat := if perceptual then (roundDiv (4000 * level * level) (4095 * 4095)).toNat else (roundDiv (4000 * level) 4095).toNat
  let on := on * f / 256
  if 1 ≤ on ∧ on ≤ 39 then 40 else on

/-- Whether ILL of a channel may be driven at all (R259, R266, R466). -/
def State.ilDriven (s : State) (c : Nat) : Bool :=
  decide (s.phase = .ready) && s.fu c (Reg.IL_CH_CFG_EN c) == 1 && s.h (Reg.IL_CH_STAT_LATCH c) == 0 && s.h Reg.TH_STAT_SHUTDOWN == 0

/-- The on-time of the period that begins. -/
def State.ilOn (s : State) (c : Nat) : Nat :=
  if s.ilDriven c then
    let f := if s.fu c (Reg.IL_CH_CFG_DRT_EN c) = 1 then s.derating c (s.fu c (Reg.IL_CH_CFG_DGRP c)) else 256
    onTime (s.ilChan c).level (s.fu c (Reg.IL_CH_CFG_CURVE c) == 1) f
  else 0

/-- One period of a fade (R261, R262): `asked` means that a target takes effect now. -/
def fadeStep (x : IlChan) (asked : Bool) (target ms : Nat) : IlChan :=
  let x := if asked then { x with l0 := x.level, l1 := target, n := 25 * ms, j := 0 } else x
  if x.n = 0 then { x with level := x.l1 }
  else if x.j < x.n then
    let j := x.j + 1
    { x with j := j, level := ((x.l0 : Int) + roundDiv (((x.l1 : Int) - x.l0) * j) x.n).toNat }
  else x

/-- The CSYNC input of a channel (CSEL; 5 to 7 act as 0). -/
def State.csel (s : State) (c : Nat) : Option Nat :=
  let x := s.fu c (Reg.IL_CH_CFG_CSEL c)
  if 1 ≤ x ∧ x ≤ 4 then some (x - 1) else none

/-! ### Pulses (R258, R259, R268) -/

/-- A tick of 10 ns, the PWM period of 4,000 ticks, and the 200 ticks that a measurement takes, in LSB. -/
def ilTick : Nat := 1280
def pwmPeriod : Nat := 4000 * ilTick
def ilMeasure : Nat := 200 * ilTick

/-- Whether a pulse is high at an instant. -/
def IllPulse.at (p : IllPulse) (x : Nat) : Bool := decide (p.start ≤ x) && decide (x < p.stop)

/-- Pulses as they are when ILL falls for good at an instant. -/
def cutPulses (x : Nat) (ps : List IllPulse) : List IllPulse :=
  (ps.filter fun p => decide (p.start < x)).map fun p => { p with stop := min p.stop x }

/-- The level of ILL of a channel now. -/
def State.ill (s : State) (c : Nat) : Bool := s.ilDriven c && (s.ilChan c).pulses.any fun p => p.at s.now

/-- ILL of a channel falls. -/
def State.illLow (s : State) (c : Nat) : State := s.setIlChan c { s.ilChan c with pulses := cutPulses s.now (s.ilChan c).pulses, omitted := none }

/-- The illuminators go off (R259, R466). -/
def State.illOff (s : State) : State := (List.range 24).foldl (fun s c => s.illLow c) s

/-- The start of the common period in progress. The spec does not say how the grid lies: it is as the first PWM_PERIOD_END shows it
(DESIGN CHOICE, log 136). -/
def State.pwmStart (s : State) : Nat :=
  match s.il.grid with
  | some g => g + (s.now - g) / pwmPeriod * pwmPeriod
  | none => s.now

/-- Since when a measurement of a dim channel is due (R268): 1 s after its last valid one, and not before it is dim. One that has never been
measured is due at once (DEDUCED, log 137). -/
def IlChan.dueAt (x : IlChan) : Option Nat :=
  match x.dimAt, x.lastMeas with
  | some d, some m => some (max d (m + lsbS))
  | some d, none => some d
  | none, _ => none

/-- Whether a measurement of a channel is due for `after` LSB. -/
def IlChan.due (x : IlChan) (now after : Nat) : Bool := x.dueAt.any fun d => decide (d + after ≤ now)

/-- The pulse of a dim channel that starts at an instant is stretched (R269). -/
def State.stretchDue (s : State) (c at_ : Nat) : Bool :=
  let x := s.ilChan c
  s.fu c (Reg.IL_CH_CFG_STRETCH c) == 1 && (if (s.csel c).isNone then x.due at_ 0 else x.due at_ (2 * lsbS))
    && x.stretchAt.all fun a => decide (a + lsbS ≤ at_)

/-- STUCK at a period end (R266): ILL has been low for at least 2 µs. -/
def State.stuckCheck (s : State) (c end_ ilsMv : Nat) : State :=
  let x := s.ilChan c
  if x.pulses.all fun p => decide (end_ ≤ p.start) || decide (p.stop + 2 * lsbUs ≤ end_) then
    let thr := s.fu c (Reg.IL_CH_SNS_OPEN_THR c)
    if ilsMv > thr then
      let n := x.stuckCount + 1
      let s := s.setIlChan c { x with stuckCount := n }
      if n ≥ 3 ∧ s.h (Reg.IL_CH_STAT_STUCK c) = 0 then (s.flag (Reg.IL_CH_STAT_STUCK c) true).raise .lampStuck c 0 else s
    else if ilsMv < thr then (s.setIlChan c { x with stuckCount := 0 }).flag (Reg.IL_CH_STAT_STUCK c) false
    else s.setIlChan c { x with stuckCount := 0 }
  else s

/-- IL_ writes take effect for a channel (R34), and its fade moves (R261). A target that is not that of the last fade starts one: so does
the level that a boot has loaded. -/
def State.ilApply (s : State) (c : Nat) : State :=
  let asked := s.regs.waiting.any fun w => decide (w.addr = Reg.IL_CH_LVL c) && w.left.contains c && s.before w
  let sel := s.csel c
  let s := s.applyAt fun a u => decide (a / 65536 = 7) && decide (u = c)
  let x := s.ilChan c
  let target := s.fu c (Reg.IL_CH_LVL_LEVEL c)
  let x := fadeStep x (asked || decide (target ≠ x.l1)) target (s.fu c (Reg.IL_CH_FADE_MS c))
  let s := s.setIlChan c { x with diagAt := if s.csel c = sel then x.diagAt else none }
  s.flag (Reg.IL_CH_STAT_FADING c) (decide (x.j < x.n))

/-- The pulse of the period that begins at `start` (R258, R260, R269): channel n begins 160n ticks later; one that would start in a
diagnostic pulse is omitted (R268). -/
def State.beginPeriod (s : State) (c start : Nat) : State :=
  let x := s.ilChan c
  let on := s.ilOn c
  let dim := decide (1 ≤ on) && decide (on ≤ 199)
  let x := { x with period := some start, shortRun := if x.shortNow then x.shortRun + 1 else 0, shortNow := false
                    dimAt := if dim then some (x.dimAt.getD start) else none
                    diagAt := if dim then x.diagAt else none
                    litAt := if s.h (Reg.IL_CH_NOW_ON c) = 0 then start else x.litAt }
  let s := (s.setIlChan c x).setH (Reg.IL_CH_NOW_ON c) on
  let s := if s.ilDriven c then s else s.illLow c
  let at_ := start + 160 * c * ilTick
  let str := s.stretchDue c at_
  let pulse : IllPulse := ⟨at_, at_ + (if str then 200 else on) * ilTick, false⟩
  if on = 0 then s
  else if x.pulses.any fun p => p.diag && p.at at_ then s.setIlChan c { s.ilChan c with omitted := some pulse }
  else
    let x := s.ilChan c
    s.setIlChan c { x with pulses := (pulse :: x.pulses).take 4
                           stretchAt := if str then some at_ else x.stretchAt }

/-- PWM_PERIOD_END (R34, R258 to R264, R266, R269): `ilsMv` is ILS at the period end. -/
def execPwmPeriodEnd (t : Nat) (c : IlCh) (ilsMv : Nat) (s : State) : Host.Outcome State Fault Refusal :=
  s.runAt t fun s =>
    let start := s.pwmStart
    if (s.ilChan c).period = some start then s
    else
      let s := { s with il := { s.il with grid := some start } }
      (((s.stuckCheck c start ilsMv).ilApply c).beginPeriod c start).fresh

/-- A pulse that still lies ahead is no longer stretched, as a valid measurement has come before it (R269). -/
def IlChan.unstretch (x : IlChan) (now on : Nat) : IlChan :=
  if x.stretchAt.any fun a => decide (now < a) then
    { x with stretchAt := none, pulses := x.pulses.map fun p => if now < p.start ∧ p.diag = false then { p with stop := p.start + on * ilTick } else p }
  else x

/-- LAMP_MEASUREMENT (R265, R266, R270): the mean of ILS from 1.5 to 2.0 µs of a pulse, valid where ILL has stayed high for 2 µs; one for
each pulse, in their order, also where pulses meet at full brightness. -/
def execLampMeasurement (t : Nat) (c : IlCh) (mv : Nat) (s : State) : Host.Outcome State Fault Refusal :=
  s.run t fun s =>
    let x := s.ilChan c
    match x.pulses.reverse.find? fun p => decide (p.start + ilMeasure ≤ p.stop) && decide (p.start + ilMeasure ≤ s.now) && x.measured.all (fun m => decide (m < p.start)) with
    | none => s
    | some p =>
      let x : IlChan := { x.unstretch s.now (s.h (Reg.IL_CH_NOW_ON c)) with measured := some p.start, lastMeas := some s.now }
      let s := (s.setH (Reg.IL_CH_SENSE_MV c) mv).flag (Reg.IL_CH_STAT_UNVERIFIED c) false
      if mv < s.fu c (Reg.IL_CH_SNS_OPEN_THR c) then
        let n := x.openCount + 1
        let s := s.setIlChan c { x with openCount := n }
        if n ≥ 3 ∧ s.h (Reg.IL_CH_STAT_OPEN c) = 0 then (s.flag (Reg.IL_CH_STAT_OPEN c) true).raise .lampOpen c mv else s
      else (s.setIlChan c { x with openCount := 0 }).flag (Reg.IL_CH_STAT_OPEN c) false

/-- LAMP_SHORT_DETECT (R266): ILS of a channel has been at a level for 100 ns; above SHORT_THR with ILL high, ILL falls for the rest of the pulse. -/
def execLampShortDetect (t : Nat) (ils : IlsLevel) (s : State) : Host.Outcome State Fault Refusal :=
  s.run t fun s =>
    let c := ils.chan.val
    if s.ill c && decide (ils.mv > s.fu c (Reg.IL_CH_SNS_SHORT_THR c)) then
      let x := s.ilChan c
      let ps := x.pulses.map fun p => if p.at s.now then { p with stop := s.now } else p
      let s := (s.setIlChan c { x with shortNow := true, pulses := ps }).inc (Reg.IL_CH_FLT_CNT_COUNT c)
      if x.shortRun + 1 ≥ 3 ∧ s.h (Reg.IL_CH_STAT_LATCH c) = 0 then
        (((s.flag (Reg.IL_CH_STAT_LATCH c) true).flag (Reg.IL_CH_STAT_SHORT c) true).illLow c).raise .lampShort c 0
      else s
    else s

/-- IL_CH_CFG.RESTART (R266). -/
def State.ilRestart (s : State) (c : Nat) : State :=
  (s.setIlChan c { s.ilChan c with shortRun := 0, shortNow := false }).flag (Reg.IL_CH_STAT_LATCH c) false

/-- IL_RESTART (R266). -/
def execIlRestart (t : Nat) (c : IlCh) (s : State) : Host.Outcome State Fault Refusal := s.run t fun s => s.ilRestart c

/-- The level of CSYNC[n] that marks exposure (R267). -/
def State.exposureLevel (s : State) (n : Nat) : Bool := s.fo (Reg.IL_CSYNC_CFG_POL n) == 0

/-- Whether a diagnostic pulse of a channel runs. -/
def State.diagRuns (s : State) (c : Nat) : Bool := (s.ilChan c).pulses.any fun p => p.diag && p.at s.now

/-- The end of exposure: every dim channel on the input whose measurement is due gets its pulse DLY µs later (R268). -/
def State.exposureEnd (s : State) (n : Nat) : State :=
  (List.range 24).foldl (fun s c =>
    let x := s.ilChan c
    if s.csel c = some n ∧ x.due s.now 0 = true ∧ x.diagAt = none ∧ s.diagRuns c = false then
      s.setIlChan c { x with diagAt := some (s.now + s.fo (Reg.IL_CSYNC_CFG_DLY n) * lsbUs) }
    else s) s

/-- Exposure begins again: pulses on the input are aborted (R268), and those yet to come are not begun (DEDUCED, log 145). A normal pulse that an
aborted one was to omit, and that still lies ahead, comes. -/
def State.exposureStart (s : State) (n : Nat) : State :=
  (List.range 24).foldl (fun s c =>
    if s.csel c = some n then
      let x := s.ilChan c
      let back := (x.omitted.filter fun p => decide (s.now ≤ p.start)).toList
      let cut := x.pulses.map fun p => if p.diag && p.at s.now then { p with stop := s.now } else p
      s.setIlChan c { x with diagAt := none, omitted := none, pulses := (back ++ cut).take 4 }
    else s) s

/-- CSYNC_EDGE (R246, R267, R268): the pin changes to `level` and stays there for `widthNs`. An edge that begins a pulse of less than 200 ns
is no edge for exposure, and neither is the one that ends the pulse. -/
def execCsyncEdge (t : Nat) (n : Fin 4) (level : Bool) (widthNs : Nat) (s : State) : Host.Outcome State Fault Refusal :=
  s.run t fun s =>
    let s := if level && !Tab.get s.il.csync false n then s.aqTrigger (.csync n) else s
    let s := { s with il := { s.il with csync := Tab.set s.il.csync false n level } }
    if widthNs < 200 ∨ level = Tab.get s.il.expo false n then s
    else
      let s := { s with il := { s.il with expo := Tab.set s.il.expo false n level } }
      if level = s.exposureLevel n then s.exposureStart n else s.exposureEnd n

/-- DIAGNOSTIC_PULSE (R268): the due pulse of 200 ticks starts, after a normal pulse that still runs at its time; a normal pulse that would
start in it is omitted. -/
def execDiagnosticPulse (t : Nat) (c : IlCh) (s : State) : Host.Outcome State Fault Refusal :=
  s.run t fun s =>
    let x := s.ilChan c
    match x.diagAt with
    | none => s
    | some a =>
      let st := match x.pulses.find? fun p => p.at a with | some p => p.stop | none => a
      if st ≤ s.now ∧ s.ilDriven c = true ∧ x.dimAt.isSome = true ∧ (s.csel c).isSome = true then
        let d : IllPulse := ⟨st, st + ilMeasure, true⟩
        s.setIlChan c { x with diagAt := none, omitted := x.pulses.find? (fun p => d.at p.start), pulses := (d :: x.pulses.filter fun p => !d.at p.start).take 4 }
      else s

/-- LAMP_UNVERIFIED (R270): lit, and the last valid measurement more than 10 s old; one that was never measured counts from when it was lit. -/
def execLampUnverified (t : Nat) (c : IlCh) (s : State) : Host.Outcome State Fault Refusal :=
  s.run t fun s =>
    let x := s.ilChan c
    if s.h (Reg.IL_CH_NOW_ON c) > 0 ∧ s.h (Reg.IL_CH_STAT_UNVERIFIED c) = 0 ∧ x.lastMeas.getD x.litAt + 10 * lsbS < s.now then
      (s.flag (Reg.IL_CH_STAT_UNVERIFIED c) true).raise .lampUnverified c 0
    else s

/-- LAMP_TEMP_LOST (R264): the group's channel carries FAIL or has been without a settled output for 2 s. -/
def execLampTempLost (t : Nat) (g : DrtGroup) (s : State) : Host.Outcome State Fault Refusal :=
  s.run t fun s =>
    let ch := s.axChan (s.f (Reg.IL_DRT_SRC_CH g))
    if (ch.fail = true ∨ ch.settledAt + 2 * lsbS ≤ s.now) ∧ s.h Reg.IL_STAT_DRT_FAIL / 2 ^ g.val % 2 = 0 then
      (s.orBit Reg.IL_STAT_DRT_FAIL g).raise .lampTempLost g 0
    else s

/-- IL_CFG.CNT_CLR (R271). -/
def State.ilCntClr (s : State) : State := s.clear ((List.range 24).map Reg.IL_CH_FLT_CNT_COUNT)

/-- IL_CNT_CLR (R271). -/
def execIlCntClr (t : Nat) (s : State) : Host.Outcome State Fault Refusal := s.run t fun s => s.ilCntClr

end Sys2Proof.Machine
end

