-- ==== Sys2Proof/Machine/Servo.lean ====
section
/-!
DEFINITION. Scanner servo (07_scanner_servo.md): the loop, set-points, modes, hand-over, the oscillation detector, injection.
Angles are fractions of a turn; sines are computed in 60-bit fixed point (see the log for what that leaves open).
-/

namespace Sys2Proof.Machine

/-! ### Sines in fixed point -/

/-- π in 2^-60. -/
def piFix : Int := 3622009729038561421

/-- The terms of the sine series of an angle `a` (radians, 2^-60): `term` is the last one, `n` the next odd number. -/
def sinSeries : Nat → Int → Int → Nat → Int → Int
  | 0, _, _, _, acc => acc
  | f + 1, a2, term, n, acc =>
    let t := -(term * a2 / (2 : Int) ^ 60) / ((n * (n + 1) : Nat) : Int)
    sinSeries f a2 t (n + 2) (acc + t)

/-- sin of an angle in radians between 0 and π/2, in 2^-60. -/
def sinQuarter (a : Int) : Int := sinSeries 14 (a * a / (2 : Int) ^ 60) a 2 a

/-- cos likewise. -/
def cosQuarter (a : Int) : Int := sinSeries 14 (a * a / (2 : Int) ^ 60) ((2 : Int) ^ 60) 1 ((2 : Int) ^ 60)

/-- sin of num/den turns, in 2^-60. -/
def sinTurn (num : Int) (den : Nat) : Int :=
  let r := 4 * (num % den)
  let q := r / den
  let a := (r % den) * piFix / (2 * (den : Int))
  if q = 0 then sinQuarter a else if q = 1 then cosQuarter a else if q = 2 then -(sinQuarter a) else -(cosQuarter a)

def cosTurn (num : Int) (den : Nat) : Int := sinTurn (4 * num + den) (4 * den)

/-- The angle of (re, im) in 2^-40 turns, by bisection over a turn; `k` halvings remain. -/
def argSearch (re im : Int) : Nat → Int → Int
  | 0, a => a
  | k + 1, a =>
    let b := a + (2 : Int) ^ k
    if re * sinTurn b (2 ^ 40) ≤ im * cosTurn b (2 ^ 40) then argSearch re im k b else argSearch re im k a

/-- arg(re + i im), in 2^-40 turns between -1/2 and +1/2. -/
def argFix (re im : Int) : Int :=
  if 0 ≤ re ∧ 0 ≤ im then argSearch re im 38 0
  else if re < 0 ∧ 0 ≤ im then (2 : Int) ^ 38 + argSearch im (-re) 38 0
  else if re < 0 then -((2 : Int) ^ 39) + argSearch (-re) (-im) 38 0
  else -((2 : Int) ^ 38) + argSearch (-im) re 38 0

/-! ### Axis fields -/

def State.axis (s : State) (a : Nat) : SvAxis := Tab.get s.sv.axes {} a

def State.setAxis (s : State) (a : Nat) (x : SvAxis) : State :=
  { s with sv := { s.sv with axes := Tab.set s.sv.axes {} a x } }

/-- A field as the axis uses it, and a signed one. -/
def State.av (s : State) (a : Nat) (f : Fld) : Nat := s.fu a f
def State.ai (s : State) (a : Nat) (f : Fld) : Int := sgn f.w (s.fu a f)

/-- The binding of an axis (R117); 3 acts as 0. -/
def State.bind (s : State) (a : Nat) : Nat := if s.fq (Reg.SQ_TRJ_CFG_BIND a) = 3 then 0 else s.fq (Reg.SQ_TRJ_CFG_BIND a)

/-- The points of the trajectory table; below 2 acts as 2. The spec gives the range 2 to 1,024 and does not say what a value above it acts as: the model
uses 1,024 and sets no CFG_ERR (DESIGN CHOICE, log 158). -/
def State.points (s : State) (a : Nat) : Nat := max 2 (min 1024 (s.fq (Reg.SQ_TRJ_CFG_POINTS a)))

def State.trjPos (s : State) (a p : Nat) : Int := (s.sqReg (Reg.SQ_TRJ_POS a p)).signed
def State.trjAcc (s : State) (a p : Nat) : Int := (s.sqReg (Reg.SQ_TRJ_ACC a p)).signed

/-! ### Set-points (R194 to R197) -/

/-- The trajectory phase in points at an instant, before any slew: R196 for BIND 1, R197 for BIND 2. -/
def State.phaseAt (s : State) (a : Nat) (x : Nat) : Rat :=
  let n : Rat := s.points a
  let phi : Int := 100 * s.h Reg.SQ_PLAN_OFS_PHI
  let from_ : Int := (x : Int) - s.sq.frameStart - phi
  if s.bind a = 1 then
    let len : Int := 100 * s.cycLen
    n * ((from_ % len : Int) : Rat) / (len : Rat)
  else
    let len : Int := (s.sq.scanEndAt : Int) - s.sq.frameStart - phi
    if len ≤ 0 then 0 else n * (from_ : Rat) / (len : Rat)

/-- A rational phase reduced to 0 ≤ x < n. -/
def wrapPhase (x : Rat) (n : Nat) : Rat := x - (n : Rat) * ((x / (n : Rat)).floor : Rat)

/-- The linear interpolation of a table at a phase. -/
def interp (f : Nat → Int) (n : Nat) (x : Rat) : Rat :=
  let y := wrapPhase x n
  let p := y.floor.toNat
  let fr := y - (p : Rat)
  (f p : Rat) + fr * ((f ((p + 1) % n) : Rat) - (f p : Rat))

/-- The start of the trajectory in the running frame, T_f + φ. -/
def State.trajStart (s : State) : Nat := s.sq.frameStart + 100 * s.h Reg.SQ_PLAN_OFS_PHI

/-- Target and acceleration of an axis for a sample at `x`, with the next sample at `x'`. A BIND 2 axis holds p_0 after the flyback until T_f + φ.
The spec does not say what phase R195 takes for acc of the last sample of the scan part, whose `x'` lies in the gap: the model evaluates R197's
phase there, beyond N, and wraps it (DESIGN CHOICE, log 150). -/
def State.setPoint (s : State) (a x x' : Nat) : Int × Rat :=
  let ax := s.axis a
  if s.bind a = 0 then (s.ai a (Reg.SV_SETPT_POS a), 0)
  else if s.bind a = 2 && !s.sq.inScan then
    if ax.flyL = 0 ∨ ax.flyJ > ax.flyL then (ax.fly0, 0)
    else
      let c := cosTurn ax.flyJ (2 * ax.flyL)
      let one : Int := (2 : Int) ^ 60
      (roundDiv (2 * one * ax.flyE + (ax.fly0 - ax.flyE) * (one - c)) (2 * one),
        ((roundDiv (256 * (ax.fly0 - ax.flyE) * piFix * piFix * c) (2 * one * one * one * (ax.flyL * ax.flyL : Nat)) : Int) : Rat))
  else if s.bind a = 2 && decide (x < s.trajStart) then (s.trjPos a 0, 0)
  else
    let ofs : Rat := (ax.slew : Rat) / 1048576
    let n := s.points a
    (roundRat (interp (s.trjPos a) n (s.phaseAt a x + ofs)), interp (s.trjAcc a) n (s.phaseAt a x' + ofs))

/-! ### Filters and the loop (R190 to R192) -/

/-- Direct form I; the sum is exact and the state keeps 12 fractional bits. -/
def Biquad.step (q : Biquad) (b0 b1 b2 a1 a2 x : Int) : Biquad × Int :=
  let y := (b0 * x + b1 * q.x1 + b2 * q.x2 - a1 * q.y1 - a2 * q.y2) / 262144
  ({ x1 := x, x2 := q.x1, y1 := y, y2 := q.y1 }, y)

/-- ef = f1(f0(e)) in 2^-12, and the filters after it. -/
def State.filters (s : State) (a : Nat) (q0 q1 : Biquad) (e : Int) : Biquad × Biquad × Int :=
  let x := e * 4096
  let r0 := if s.av a (Reg.SV_AX_CFG_F0_EN a) = 1 then
      q0.step (s.ai a (Reg.SV_F0_B0_COEF a)) (s.ai a (Reg.SV_F0_B1_COEF a)) (s.ai a (Reg.SV_F0_B2_COEF a))
        (s.ai a (Reg.SV_F0_A1_COEF a)) (s.ai a (Reg.SV_F0_A2_COEF a)) x
    else (q0, x)
  let r1 := if s.av a (Reg.SV_AX_CFG_F1_EN a) = 1 then
      q1.step (s.ai a (Reg.SV_F1_B0_COEF a)) (s.ai a (Reg.SV_F1_B1_COEF a)) (s.ai a (Reg.SV_F1_B2_COEF a))
        (s.ai a (Reg.SV_F1_A1_COEF a)) (s.ai a (Reg.SV_F1_A2_COEF a)) r0.2
    else (q1, r0.2)
  (r0.1, r1.1, r1.2)

/-- kp·ef + kd·d + ka·acc/256 in drive codes, exact. -/
def State.propTerms (s : State) (a : Nat) (ef d : Int) (acc : Rat) : Rat :=
  (s.ai a (Reg.SV_KP_K a) * ef : Int) / 16777216 + (s.ai a (Reg.SV_KD_K a) * d : Int) / 4096
    + (s.ai a (Reg.SV_KA_K a) : Rat) / 4096 * acc / 256

/-- A limit field, 0 to 524,287. -/
def State.lim (s : State) (a : Nat) (f : Fld) : Int := min 524287 (s.av a f)

/-- An output moved toward a goal by at most SLEW_LIM; a slew of 0 acts as no limit. -/
def slewTo (slew cur goal : Int) : Int := if slew = 0 then goal else max (cur - slew) (min (cur + slew) goal)

def State.axState (s : State) (a : Nat) : Nat := s.h (Reg.SV_AX_STAT_STATE a)

/-- An injection ends (R206). -/
def State.injEnd (s : State) (a : Nat) : State :=
  (s.setAxis a { s.axis a with injK := 0, injStop := false }).flag (Reg.SV_AX_STAT_TEST a) false

/-- SV_I shows round(i) (Table 7.9). -/
def State.showI (s : State) (a : Nat) : State := s.setH (Reg.SV_I_I a) (low 20 (satSigned (roundDiv (s.axis a).i 4096)))

/-- A change of the axis state: it ends an injection, and what the loop reported of TRACK or of the lock is over. -/
def State.toState (s : State) (a st : Nat) : State :=
  if s.axState a = st then s.noteAxis a
  else
    let s := s.injEnd a
    let s := (s.flag (Reg.SV_AX_STAT_FORCING a) false).flag (Reg.SV_AX_STAT_SAT a) false
    let s := if st = 3 then s else s.flag (Reg.SV_AX_STAT_LOCK a) false
    let s := s.setH (Reg.SV_AX_STAT_STATE a) st
    (if st = 0 then s.resumeChecks else s).noteAxis a

/-- An axis enters FAULT (R198): its states are cleared, its output ramps to 0, SERVO_FAULT is raised. -/
def State.axisFault (s : State) (a cause : Nat) : State :=
  let s := s.toState a 4
  let s := s.setAxis a { s.axis a with
    i := 0, f0 := {}, f1 := {}, limSign := 0, hover := none, forceDue := false, goingOff := false, bad := 0 }
  ((s.showI a).setH (Reg.SV_AX_STAT_CAUSE a) cause).raise .servoFault a cause

/-- A MODE request at the loop period end (R198). -/
def State.modeRequest (s : State) (a : Nat) : State :=
  let st := s.axState a
  let refuse := s.flag (Reg.SV_AX_STAT_CFG_ERR a) true
  let ax := s.axis a
  let acquire := fun (s : State) =>
    ((s.toState a 2).flag (Reg.SV_AX_STAT_LOCK a) false).setAxis a
      { s.axis a with amp := 4096 * s.lim a (Reg.SV_ACQ_AMP_AMP a), theta := 0, lockRun := 0, acqAt := s.now, acqTmo := false
                      goingOff := false, hover := none, forceDue := false, sumRe := 0, sumIm := 0, sumN := 0, injK := 0 }
  match s.av a (Reg.SV_AX_CFG_MODE a) with
  | 0 => if st = 0 then s.setAxis a { ax with hover := none } else s.setAxis a { ax with goingOff := true, hover := none }
  | 1 => if st = 4 then refuse else (s.toState a 1).setAxis a { ax with goingOff := false, hover := none }
  | 2 => if st = 4 ∨ s.av a (Reg.SV_AX_CFG_RESON a) = 0 ∨ s.bind a = 0 then refuse else acquire s
  | _ =>
    if st = 3 ∧ ax.goingOff = false then s
    else if st = 4 then refuse
    else if s.av a (Reg.SV_AX_CFG_RESON a) = 1 then
      if s.bind a = 0 then refuse else if st = 2 ∧ ax.goingOff = false then s else acquire s
    else if st = 0 ∨ st = 1 then s.setAxis a { ax with hover := some 0, goingOff := false } else refuse

/-- The position error is judged (R202), in every state of the axis: ERR while |e| is above SV_ERR_LIM; each period with ERR set counts. -/
def State.judgeErr (s : State) (a : Nat) : State :=
  let s := if (s.axis a).e.natAbs > s.av a (Reg.SV_ERR_LIM_LIM a) then (s.flag (Reg.SV_AX_STAT_ERR a) true).inc (Reg.SV_ERR_CNT_COUNT a)
    else s.flag (Reg.SV_AX_STAT_ERR a) false
  s.noteAxis a

/-- The oscillation detector looks at one period of TRACK (R205). -/
def State.detectOsc (s : State) (a : Nat) (e : Int) : State :=
  let ax := s.axis a
  let sign : Int := if e > 0 then 1 else if e < 0 then -1 else ax.eSign
  let cross := ax.reached && decide (sign ≠ ax.eSign) && decide (ax.eSign ≠ 0)
  let win := s.av a (Reg.SV_OSC_CFG_WIN a)
  let cs := if cross then (ax.period :: ax.crossings).filter (fun k => decide (ax.period < k + win)) else ax.crossings
  let cnt := s.av a (Reg.SV_OSC_CFG_CNT a)
  let hit := decide (e.natAbs ≥ s.av a (Reg.SV_OSC_AMP_AMP a))
  s.setAxis a { ax with eSign := sign, crossings := cs, reached := if cross then hit else ax.reached || hit
                        oscDue := ax.oscDue || (cross && decide (cnt > 0) && decide (cs.length ≥ cnt)) }

/-- TRACK begins with the preload of R200, which makes u_k equal the last output; a preload outside ±I_LIM is clamped, and the hand-over is
then forced (R201). The slew limit waits for the next period, SV_OUT_LIM does not (R190), and the period is one of TRACK for R205. -/
def State.enterTrack (s : State) (a : Nat) (x : LoopTerms) (forced : Bool) : State :=
  let ax := s.axis a
  let terms := s.propTerms a x.ef x.d x.acc
  let pre := (ax.u : Rat) - terms
  let lim : Rat := s.lim a (Reg.SV_I_LIM_LIM a)
  let clamped := decide (pre > lim) || decide (pre < -lim)
  let i := (clampRat (-lim) lim pre * 4096).floor
  let v : Rat := (i : Rat) / 4096 + terms
  let out : Rat := s.lim a (Reg.SV_OUT_LIM_LIM a)
  let v2 := clampRat (-out) out v
  let s := s.toState a 3
  let s := (s.setAxis a { s.axis a with
    i := i, u := roundRat v2, limSign := if v > v2 then 1 else if v < v2 then -1 else 0
    hover := none, forceDue := false, forcePass := 0, reached := false, eSign := 0, crossings := [] }).showI a
  let s := s.flag (Reg.SV_AX_STAT_SAT a) (decide (v2 ≠ v))
  let s := if forced || clamped then
      (((s.flag (Reg.SV_AX_STAT_FORCING a) true).inc (Reg.SV_FORCE_CNT_COUNT a)).flag (Reg.SV_AX_STAT_FORCED_SEEN a) true).raise .handoverForced a 0
    else s
  s.detectOsc a x.e

/-- One period of the loop of R190 in TRACK. -/
def State.trackPeriod (s : State) (a : Nat) (e ef d : Int) (acc : Rat) (inj : Int) : State :=
  let ax := s.axis a
  let sat := s.h (Reg.SV_AX_STAT_SAT a) = 1
  let ki := s.ai a (Reg.SV_KI_K a)
  let step := ki * ef
  let iLim := 4096 * s.lim a (Reg.SV_I_LIM_LIM a)
  let i0 := if !sat || decide (step * ax.limSign < 0) then ax.i + step / 4096 else ax.i
  let i := min (max i0 (-iLim)) iLim
  let v : Rat := s.propTerms a ef d acc + (i : Rat) / 4096 + (inj : Rat)
  let slew : Int := if s.h (Reg.SV_AX_STAT_FORCING a) = 1 then s.av a (Reg.SV_FORCE_SLEW_LIM a) else s.av a (Reg.SV_SLEW_LIM_LIM a)
  let v1 : Rat := if slew = 0 then v else clampRat (ax.u - slew : Int) (ax.u + slew : Int) v
  let out : Rat := s.lim a (Reg.SV_OUT_LIM_LIM a)
  let v2 := clampRat (-out) out v1
  let limited := decide (v2 ≠ v)
  let pass := decide (e.natAbs ≤ s.av a (Reg.SV_HANDOVER_LIM_LIM a))
  let fp := if pass then ax.forcePass + 1 else 0
  let s := s.setAxis a { ax with i := i, u := roundRat v2, limSign := if v > v2 then 1 else if v < v2 then -1 else 0, forcePass := fp }
  let s := (s.showI a).flag (Reg.SV_AX_STAT_SAT a) limited
  if fp ≥ 8 then s.flag (Reg.SV_AX_STAT_FORCING a) false else s

/-- The injection value of this period (R206), with the injection one period on. -/
def State.injValue (s : State) (a : Nat) : Int × State :=
  let ax := s.axis a
  let len := s.av a (Reg.SV_INJ_LEN_LEN a)
  if s.h (Reg.SV_AX_STAT_TEST a) = 0 ∨ (len > 0 ∧ len ≤ ax.injK) then (0, s)
  else
    let amp : Int := s.av a (Reg.SV_INJ_AMP_AMP a)
    let v := match s.av a (Reg.SV_INJ_CFG_WAVE a) with
      | 0 => roundDiv (amp * sinTurn (ax.injK * s.av a (Reg.SV_INJ_FREQ_INC a)) (2 ^ 20)) ((2 : Int) ^ 60)
      | 1 => if ax.prbs % 2 = 1 then amp else -amp
      | _ => amp
    let prbs := ax.prbs % 2 ^ 14 * 2 + (ax.prbs / 2 ^ 14 + ax.prbs / 2 ^ 13) % 2
    (v, s.setAxis a { ax with injK := ax.injK + 1, prbs := prbs })

/-- START and STOP of an injection at the loop period end (R206). -/
def State.injRequests (s : State) (a : Nat) : State :=
  let ax := s.axis a
  let s := s.setAxis a { ax with injStart := false, injStop := false }
  let s := if ax.injStop then s.injEnd a else s
  if ax.injStart then
    if (s.axState a = 1 ∨ s.axState a = 3) ∧ s.av a (Reg.SV_INJ_CFG_WAVE a) ≠ 3 then
      ((s.setAxis a { s.axis a with injK := 0, prbs := 0x7FFF }).flag (Reg.SV_AX_STAT_TEST a) true).aqTrigger (.injection a)
    else s.flag (Reg.SV_AX_STAT_CFG_ERR a) true
  else s

/-- The loop period in use, or the last one where the axis has none: the spec gives no T there (R197), and the model times the periods of such an
axis by the T it had, 5 µs if it never had one (DESIGN CHOICE, log 131). -/
def State.axisT (s : State) (a : Nat) : Nat := (s.loopPeriod a).getD (s.axis a).lastT

/-- The two cases in which R197 shortens a flyback: R138 shortened the gap, or a live write has given the axis another loop period than its set. -/
def State.flyShortens (s : State) (a : Nat) : Bool :=
  decide (s.sq.nextBoundary < s.sq.frameStart + s.framePerLsb) || decide (s.loopPeriod a ≠ (s.axis a).setT)

/-- The flyback of the gap no longer fits (R197): after a gap that R138 shortened, or with the loop period now in use; FLYBACK_SHORT once per gap. -/
def State.fitFlyback (s : State) (a : Nat) : State :=
  let ax := s.axis a
  let room := s.sq.nextBoundary - s.sq.scanEndAt - 100 * lsbUs
  let fits := match s.loopPeriod a with | some p => min ax.flyL (room / p) | none => ax.flyL
  if s.sq.inScan || s.bind a ≠ 2 || !s.flyShortens a || decide (ax.flyL ≤ fits) then s
  else
    let s := s.setAxis a { ax with flyL := fits, flyShort := true }
    if ax.flyShort then s else s.raise .flybackShort a fits

/-- The phase offset of R196 shrinks by at most N/1,024 points, and the flyback goes on by one period. -/
def State.movePhase (s : State) (a : Nat) : State :=
  let s := s.fitFlyback a
  let ax := s.axis a
  let stepP : Int := 1024 * s.points a
  let sl := if ax.slew > stepP then ax.slew - stepP else if ax.slew < -stepP then ax.slew + stepP else 0
  let s := s.setAxis a { ax with slew := sl, flyJ := if s.sq.inScan then 0 else ax.flyJ + 1 }
  s.flag (Reg.SV_AX_STAT_PHASE_SLEW a) (decide (sl ≠ 0))

/-- The phase that the servo uses for a BIND 1 axis now. -/
def State.phaseUsed (s : State) (a : Nat) : Rat := s.phaseAt a s.now + ((s.axis a).slew : Rat) / 1048576

/-- A difference of phases, taken the shorter way round. -/
def shortWay (x : Rat) (n : Nat) : Rat := let y := wrapPhase x n; if 2 * y > n then y - n else y

/-- φ or the frame epoch has changed (R138, R196): the phase used does not jump, but moves to the new phase from the one used before. The spec
gives the phase still to be made up no resolution: the model keeps it rounded to 2^-20 points (DESIGN CHOICE, log 151). -/
def State.slewPhase (s : State) (a : Nat) (before : Rat) : State :=
  if s.bind a = 1 then
    let d := roundRat (shortWay (before - s.phaseAt a s.now) (s.points a) * 1048576)
    (s.setAxis a { s.axis a with slew := d }).flag (Reg.SV_AX_STAT_PHASE_SLEW a) (decide (d ≠ 0))
  else s

/-- The output moves to 0 at SLEW_LIM per period, in FAULT and on the way to OFF (R198). -/
def State.rampDown (s : State) (a : Nat) : State :=
  let ax := s.axis a
  let u := slewTo (s.av a (Reg.SV_SLEW_LIM_LIM a)) ax.u 0
  let s := s.setAxis a { ax with u := u, goingOff := ax.goingOff && decide (u ≠ 0) }
  if ax.goingOff && decide (u = 0) then s.toState a 0 else s

/-- Whether the output of an axis ramps to 0. -/
def State.ramps (s : State) (a : Nat) : Bool := (s.axis a).goingOff || decide (s.axState a = 4)

/-- The drive of ACQUIRE (R199) and its sums over the trajectory period, which leaves the gap of a BIND 2 axis out. The spec gives the phase x of a
BIND 2 axis no value in the gap and before T_f + φ: the model goes on with R197's formula and wraps it (DESIGN CHOICE, log 152). -/
def State.acquirePeriod (s : State) (a : Nat) (y : Int) : State :=
  let ax := s.axis a
  let n := s.points a
  let ph : Rat := s.phaseUsed a
  let turn : Int := (wrapPhase ph n / (n : Rat) * ((2 : Nat) ^ 40 : Nat)).floor
  let u := satSigned (roundDiv (ax.amp * sinTurn (turn + ax.theta) (2 ^ 40)) (4096 * (2 : Int) ^ 60))
  let within := decide (s.bind a ≠ 2) || (s.sq.inScan && decide (s.trajStart ≤ s.now))
  let s := s.setAxis a { ax with u := u }
  if within then
    s.setAxis a { s.axis a with
      sumN := ax.sumN + 1
      sumRe := ax.sumRe + y * cosTurn turn (2 ^ 40) / (2 : Int) ^ 20, sumIm := ax.sumIm - y * sinTurn turn (2 ^ 40) / (2 : Int) ^ 20 }
  else s

/-- The output of a period outside TRACK: SV_OPEN_OUT in OPEN, the drive in ACQUIRE. An injection in OPEN is added ahead of the slew and output limits
(R206); SV_OUT_LIM bounds the output of OPEN only while one runs, for R198 moves it to SV_OPEN_OUT by SLEW_LIM alone (DEDUCED, log 153). -/
def State.drive (s : State) (a : Nat) (y inj : Int) : State :=
  match s.axState a with
  | 1 =>
    let goal := satSigned (s.ai a (Reg.SV_OPEN_OUT_OUT a) + inj)
    let u := slewTo (s.av a (Reg.SV_SLEW_LIM_LIM a)) (s.axis a).u goal
    let out := s.lim a (Reg.SV_OUT_LIM_LIM a)
    s.setAxis a { s.axis a with u := if s.h (Reg.SV_AX_STAT_TEST a) = 1 then max (-out) (min out u) else u }
  | 2 => s.acquirePeriod a y
  | _ => s

/-- Period `k` of a hand-over (R200, R201): TRACK begins if |e| passes; in the 8th period without a pass the last output is kept for the forced hand-over. -/
def State.handOver (s : State) (a k : Nat) (e d : Int) (acc : Rat) (y inj : Int) : State :=
  let fl := s.filters a {} {} e
  let x : LoopTerms := ⟨e, fl.2.2, d, acc⟩
  let s := s.setAxis a { s.axis a with f0 := fl.1, f1 := fl.2.1, terms := x, hover := some k, forceDue := decide (k ≥ 8) }
  if k ≤ 8 ∧ e.natAbs ≤ s.av a (Reg.SV_HANDOVER_LIM_LIM a) then s.enterTrack a x false
  else if k ≥ 8 then s
  else s.drive a y inj

/-- A period with a usable sample: the modes of Table 7.2. -/
def State.servoPeriod (s : State) (a : Nat) (y : Int) : State :=
  let sp := s.setPoint a s.now (s.now + s.axisT a)
  let inj := s.injValue a
  let s := inj.2
  let point := s.av a (Reg.SV_INJ_CFG_POINT a)
  let ax := s.axis a
  let st := s.axState a
  let target := if st = 3 ∧ point = 0 then sp.1 + inj.1 else sp.1
  let e := target - y
  let d := ax.yPrev - y
  let s := ((s.setAxis a { ax with yPrev := y, bad := 0, e := e }).setH (Reg.SV_POS_Y a) (low 20 y)).setH (Reg.SV_ERR_E a) (low 20 (satSigned e))
  let s := s.judgeErr a
  let s :=
    if s.ramps a then s.rampDown a
    else if st = 3 then
      let fl := s.filters a ax.f0 ax.f1 e
      let s := s.setAxis a { s.axis a with f0 := fl.1, f1 := fl.2.1 }
      (s.trackPeriod a e fl.2.2 d sp.2 (if point = 1 then inj.1 else 0)).detectOsc a e
    else
      match ax.hover with
      | none => s.drive a y inj.1
      | some k => s.handOver a (k + 1) e d sp.2 y inj.1
  s.aqServo a [target, y, e, (s.axis a).u, inj.1]

/-- A period without a usable sample (R193): the output computed last is latched again, and i, the filters, y and e stay; a ramp to 0 goes on, and the
period counts for the injection, for the 8 periods of a hand-over and, with ERR set, in SV_ERR_CNT. The spec does not say what y and e the servo then offers to the
acquisition engine, nor whether such a period breaks the 8 passing ones of R201: the model offers the last usable y with e from it, and
lets the run stand (DESIGN CHOICE, log 130). -/
def State.heldPeriod (s : State) (a : Nat) : State :=
  let sp := s.setPoint a s.now (s.now + s.axisT a)
  let inj := s.injValue a
  let s := inj.2.judgeErr a
  let target := if s.axState a = 3 ∧ s.av a (Reg.SV_INJ_CFG_POINT a) = 0 then sp.1 + inj.1 else sp.1
  let ax := s.axis a
  let s := s.setAxis a { ax with hover := ax.hover.map (· + 1) }
  let s := if s.ramps a then s.rampDown a else s
  s.aqServo a [target, ax.yPrev, target - ax.yPrev, (s.axis a).u, inj.1]

/-- A loop period of an axis begins (R188 to R193): the output computed last is latched, writes to the axis and its requests take effect (R34,
R198, R204, R206), and the next output is computed from the sample, if there is a usable one. -/
def State.axisPeriod (s : State) (a : Nat) (p : Option PosSample) : State :=
  let mode0 := s.av a (Reg.SV_AX_CFG_MODE a)
  let asked := s.regs.waiting.any fun w => decide (w.addr = Reg.SV_AX_CFG a) && s.before w && w.left.contains a
  let ax := s.axis a
  let s := s.setAxis a { ax with
    inbox := none, lastAt := if p.isSome then s.now else ax.lastAt, periodAt := s.now, uLatched := ax.u, period := ax.period + 1 }
  let s := s.setH (Reg.SV_OUT_U a) (low 20 (satSigned ax.u))
  let s := s.applyAt fun r u => decide (r / 65536 = 5) && decide (u = a)
  let s := s.setAxis a { s.axis a with lastT := s.axisT a }
  let s := if asked || decide (s.av a (Reg.SV_AX_CFG_MODE a) ≠ mode0) then s.modeRequest a else s
  let s := (s.injRequests a).movePhase a
  match p with
  | none => s.heldPeriod a
  | some q =>
    if q.usable then s.servoPeriod a q.y
    else ((s.setAxis a { s.axis a with bad := (s.axis a).bad + 1 }).inc (Reg.SV_HOLD_CNT_COUNT a)).heldPeriod a

/-- SERVO_SAMPLE (R188 to R193): the position output that CONVERTER_OUTPUT delivered starts a loop period. The spec does not say what times the periods
of an axis whose outputs have stopped, in which it ramps to 0 and takes MODE writes: the model lets them follow at the axis's T, or at the last one
where it has none (DESIGN CHOICE, log 131). -/
def execServoSample (t : Nat) (a : Axis) (s : State) : Host.Outcome State Fault Refusal :=
  s.runAt t fun s =>
    match (s.axis a).inbox with
    | some p => s.axisPeriod a (some p)
    | none => if (s.axis a).periodAt + s.axisT a ≤ s.now then s.axisPeriod a none else s

/-- HANDOVER_FORCED (R201): no period passed within 8 periods of lock. -/
def execHandoverForced (t : Nat) (a : Axis) (s : State) : Host.Outcome State Fault Refusal :=
  s.run t fun s =>
    let ax := s.axis a
    if ax.forceDue then s.enterTrack a ax.terms true else s

/-- The fundamental of the trajectory table: sums of P[p] times cos and sin over the points, scaled 2^40. -/
def State.tableFundamental (s : State) (a : Nat) : Int × Int :=
  let n := s.points a
  (List.range n).foldl (fun (z : Int × Int) p =>
    (z.1 + s.trjPos a p * cosTurn p n / (2 : Int) ^ 20, z.2 - s.trjPos a p * sinTurn p n / (2 : Int) ^ 20)) (0, 0)

/-- TRAJECTORY_PERIOD_END (R199): the drive's amplitude and phase are updated and lock is judged. -/
def execTrajectoryPeriodEnd (t : Nat) (a : Axis) (s : State) : Host.Outcome State Fault Refusal :=
  s.run t fun s =>
    let ax := s.axis a
    if s.axState a ≠ 2 ∨ ax.sumN = 0 then s
    else
      let g := s.tableFundamental a
      let n : Int := s.points a
      let m : Int := ax.sumN
      -- |G| and |Y| as amplitudes per point and per sample, on one scale
      let absG := isqrt (((g.1 * m) * (g.1 * m) + (g.2 * m) * (g.2 * m)).toNat)
      let absY := isqrt (((ax.sumRe * n) * (ax.sumRe * n) + (ax.sumIm * n) * (ax.sumIm * n)).toNat)
      let re := g.1 * ax.sumRe + g.2 * ax.sumIm
      let im := g.2 * ax.sumRe - g.1 * ax.sumIm
      let diff := argFix re im
      let amp := if 9 * absY ≤ 8 * absG then ax.amp * 9 / 8 else if 8 * absG ≤ 7 * absY then ax.amp * 7 / 8 else ax.amp * absG / absY
      let tol := s.av a (Reg.SV_ACQ_CFG_TOL a)
      let ok := decide (256 * ((absY : Int) - absG).natAbs ≤ tol * absG) && decide (180 * diff.natAbs ≤ 2 ^ 40)
      let run := if ok then ax.lockRun + 1 else 0
      let locked := decide (run ≥ 4)
      let s := s.setAxis a { ax with
        amp := amp, theta := ax.theta + diff / 4, lockRun := run, sumRe := 0, sumIm := 0, sumN := 0
        hover := if locked && ax.hover.isNone && s.av a (Reg.SV_AX_CFG_MODE a) == 3 then some 0 else ax.hover }
      s.flag (Reg.SV_AX_STAT_LOCK a) locked

/-- ACQ_TIMEOUT (R199): once per acquisition, and ACQUIRE goes on. -/
def execAcqTimeout (t : Nat) (a : Axis) (s : State) : Host.Outcome State Fault Refusal :=
  s.run t fun s =>
    let ax := s.axis a
    if s.axState a = 2 ∧ s.h (Reg.SV_AX_STAT_LOCK a) = 0 ∧ ax.acqTmo = false
        ∧ ax.acqAt + s.av a (Reg.SV_ACQ_CFG_TMO a) * lsbMs ≤ s.now then
      ((s.setAxis a { ax with acqTmo := true }).flag (Reg.SV_AX_STAT_ACQ_TMO_SEEN a) true).raise .acqTimeout a 0
    else s

/-- SERVO_SENSOR_LOST (R193, R199): 8 unusable samples in a row, or none for 8 loop periods. An axis in OFF runs no loop and enters no FAULT: else
every axis without a sensor would fault from reset (DEDUCED, log 132). An axis with no T (its channel in no slot, or an invalid PRESET) has no 8 × T:
the model takes the last T it had (DESIGN CHOICE, log 131). -/
def execServoSensorLost (t : Nat) (a : Axis) (s : State) : Host.Outcome State Fault Refusal :=
  s.run t fun s =>
    let ax := s.axis a
    if s.axState a ≠ 0 ∧ s.axState a ≠ 4 ∧ (ax.bad ≥ 8 ∨ ax.lastAt + 8 * s.axisT a ≤ s.now) then s.axisFault a 1 else s

/-- SERVO_OSC (R205). -/
def execServoOsc (t : Nat) (a : Axis) (s : State) : Host.Outcome State Fault Refusal :=
  s.run t fun s =>
    let ax := s.axis a
    if ax.oscDue then
      let s := s.setAxis a { ax with oscDue := false, crossings := [] }
      let s := ((s.flag (Reg.SV_AX_STAT_OSC_SEEN a) true).inc (Reg.SV_OSC_CNT_COUNT a)).raise .servoOsc a 0
      if s.av a (Reg.SV_AX_CFG_OSC_ACT a) = 1 then s.axisFault a 2 else s
    else s

/-- SV_INJ_CFG.START is held for the loop period end (R206). -/
def State.injAsk (s : State) (a : Nat) : State := s.setAxis a { s.axis a with injStart := true }

/-- SV_INJ_CFG.STOP is held for the loop period end (R206). -/
def State.injAskStop (s : State) (a : Nat) : State := s.setAxis a { s.axis a with injStop := true }

/-- SV_INJ_START (R206). -/
def execSvInjStart (t : Nat) (a : Axis) (s : State) : Host.Outcome State Fault Refusal := s.run t fun s => s.injAsk a

/-- SV_INJ_STOP (R206). -/
def execSvInjStop (t : Nat) (a : Axis) (s : State) : Host.Outcome State Fault Refusal := s.run t fun s => s.injAskStop a

/-- INJECTION_END (R206): after SV_INJ_LEN periods. -/
def execInjectionEnd (t : Nat) (a : Axis) (s : State) : Host.Outcome State Fault Refusal :=
  s.run t fun s =>
    let len := s.av a (Reg.SV_INJ_LEN_LEN a)
    if s.h (Reg.SV_AX_STAT_TEST a) = 1 ∧ len > 0 ∧ len ≤ (s.axis a).injK then s.injEnd a else s

/-- The flyback of a gap is set up at SCAN_END (R197): shortened, with FLYBACK_SHORT, where L no longer fits. -/
def State.startFlyback (s : State) (a : Nat) : State :=
  if s.bind a = 2 then
    (s.setAxis a { s.axis a with
      flyJ := 0, flyL := s.av a (Reg.SV_FLY_LEN_L a), flyShort := false
      flyE := roundRat (interp (s.trjPos a) (s.points a) (s.phaseAt a s.now)), fly0 := s.trjPos a 0 }).fitFlyback a
  else s

/-- SV_CFG.CNT_CLR (R208). -/
def State.svCntClr (s : State) : State :=
  s.clear ([0, 1, 2, 3].flatMap fun a => [Reg.SV_HOLD_CNT_COUNT a, Reg.SV_ERR_CNT_COUNT a, Reg.SV_OSC_CNT_COUNT a, Reg.SV_FORCE_CNT_COUNT a])

/-- SV_CNT_CLR (R208). -/
def execSvCntClr (t : Nat) (s : State) : Host.Outcome State Fault Refusal := s.run t fun s => s.svCntClr

end Sys2Proof.Machine
end

