-- ==== Sys2Proof/Machine/Thermal.lean ====
section
/-!
DEFINITION. Thermal management and self-calibration (18_thermal_calibration.md, R458 to R473).
-/

namespace Sys2Proof.Machine

/-! ### Domains -/

def State.thDomain (s : State) (d : Nat) : ThDomain := Tab.get s.th.domains {} d

def State.setThDomain (s : State) (d : Nat) (x : ThDomain) : State :=
  { s with th := { s.th with domains := Tab.set s.th.domains {} d x } }

/-- Values above 120 °C act as 120 °C (R465); in 1/1,024 °C. -/
def State.throttleLim (s : State) : Int := min 120 (sgn 9 (s.fu 0 Reg.TH_LIM_THROTTLE)) * 1024

/-- A WARN above THROTTLE acts as THROTTLE (R465). -/
def State.warnLim (s : State) : Int := min (min 120 (sgn 9 (s.fu 0 Reg.TH_LIM_WARN)) * 1024) s.throttleLim

def State.thHyst (s : State) : Int := s.fu 0 Reg.TH_RATE_HYST * 1024

/-- A domain's limit (R462): domain 0 is the die, domain k + 1 external domain k. -/
def State.thLimit (s : State) (d : Nat) : Int := if d = 0 then s.throttleLim else sgn 20 (s.fu 0 (Reg.TH_EXT_LIM_LIM (d - 1)))

/-- The deepest step among the die domain and the external domains. -/
def State.deepest (s : State) : Nat := [1, 2, 3, 4].foldl (fun n d => max n (s.thDomain d).step) (s.thDomain 0).step

/-- The step in effect follows the domains (R463): each change is counted once and reported. -/
def State.updateSteps (s : State) : State :=
  let die := (s.thDomain 0).step
  let deep := s.deepest
  let was := s.h Reg.TH_STAT_STEP
  if die = s.h Reg.TH_STAT_STEP_DIE ∧ deep = was then s
  else
    let s := ((s.setH Reg.TH_STAT_STEP_DIE die).setH Reg.TH_STAT_STEP deep).inc Reg.TH_STEP_CNT_COUNT
    if was = 0 then s.raise .throttle deep die
    else if deep = 0 then s.raise .throttleEnd 0 0
    else s.raise .throttleStep deep die

/-- A sensor's bit in TH_STAT. -/
def State.showFail (s : State) (d : Nat) (b : Bool) : State :=
  if d = 0 then s.flag Reg.TH_STAT_DIODE_FAIL b
  else if b then s.orBit Reg.TH_STAT_EXT_FAIL (d - 1) else s.clrBit Reg.TH_STAT_EXT_FAIL (d - 1)

/-- A sensor fails (R460): its domain goes at once to step 3. -/
def State.sensorFail (s : State) (d : Nat) : State :=
  let x := s.thDomain d
  let s := s.setThDomain d { x with failed := true, okAt := none, step := 3, roseAt := none, belowAt := none }
  if x.failed then s
  else (((s.showFail d true).flag Reg.TH_STAT_FAIL_SEEN true).inc Reg.TH_SENS_FAIL_COUNT).raise .thermalSensor d 0

/-- A reading of a sensor that is not failed against its limit (R462). In shutdown the die domain's falling time does not start. -/
def State.judgeLevel (s : State) (d : Nat) (r : Int) : State :=
  let x := s.thDomain d
  if s.thLimit d ≤ r then
    match x.roseAt with
    | none => s.setThDomain d { x with step := min 3 (x.step + 1), roseAt := some s.now, belowAt := none }
    | some _ => s.setThDomain d { x with belowAt := none }
  else if r < s.thLimit d - s.thHyst ∧ ¬(d = 0 ∧ s.h Reg.TH_STAT_SHUTDOWN = 1) then
    s.setThDomain d { x with roseAt := none, belowAt := some (x.belowAt.getD s.now) }
  else s.setThDomain d { x with roseAt := none, belowAt := none }

/-- What a sample makes of a sensor: bad, plausible while failed (R460), or a reading. -/
def State.judgeSensor (s : State) (d : Nat) (bad : Bool) (r : Option Int) : State :=
  let x := s.thDomain d
  if bad then s.sensorFail d
  else if x.failed then s.setThDomain d { x with okAt := some (x.okAt.getD s.now) }
  else match r with
    | some v => s.judgeLevel d v
    | none => s

/-- No settled output of the channel that an external domain names has come for 2 s (R460), from when the domain began to read it. -/
def State.extSilent (s : State) (k : Nat) : Bool :=
  let c := s.axChan (s.fu 0 (Reg.TH_EXT_CFG_CH k))
  match c.settled with
  | some _ => decide (max c.settledAt (s.thDomain (k + 1)).lastAt + 2 * lsbS ≤ s.now)
  | none => decide ((s.thDomain (k + 1)).lastAt + 2 * lsbS ≤ s.now)

/-- An external domain at a diode sample (R459, R460). Outputs count from when the domain, active, reads their channel: a jump since its last
evaluation is an implausible rate. -/
def State.extSample (s : State) (k : Nat) : State :=
  let d := k + 1
  if s.fu 0 (Reg.TH_EXT_CFG_EN k) = 0 then (s.setThDomain d {}).showFail d false
  else
    let c := s.axChan (s.fu 0 (Reg.TH_EXT_CFG_CH k))
    let x := s.thDomain d
    let same := decide (x.chan = some (s.fu 0 (Reg.TH_EXT_CFG_CH k)))
    let rough := same && decide (x.evalAt < c.roughAt)
    let s := s.setThDomain d { x with
      chan := some (s.fu 0 (Reg.TH_EXT_CFG_CH k)), evalAt := s.now, last := if same then x.last else none, lastAt := if same then x.lastAt else s.now }
    let x := s.thDomain d
    let bad := c.fail || s.extSilent k || rough
    let s := match c.settled with
      | some v => s.setThDomain d { x with last := some v, lastAt := max x.lastAt c.settledAt }
      | none => s
    s.judgeSensor d bad c.settled

/-- The interval of the diode samples (R458): 1 ms while the last reading lies within 10 °C of a level that something depends on, else
100 ms. -/
def State.diodePeriod (s : State) : Nat :=
  let levels : List Int := [s.warnLim, s.throttleLim, 125 * 1024]
    ++ (if s.fu 0 Reg.TH_CFG_FIRE_RANGE = 1 then [sgn 9 (s.fu 0 Reg.TH_FIRE_TJ_LO) * 1024, sgn 9 (s.fu 0 Reg.TH_FIRE_TJ_HI) * 1024] else [])
  match (s.thDomain 0).last with
  | some r => if levels.any fun l => decide ((r - l).natAbs ≤ 10 * 1024) then lsbMs else 100 * lsbMs
  | none => 100 * lsbMs

/-- A diode sample is due (R458). -/
def State.diodeDue (s : State) : Bool := decide ((s.thDomain 0).lastAt = 0) || decide ((s.thDomain 0).lastAt + s.diodePeriod ≤ s.now)

/-- Thermal shutdown (R466). -/
def State.enterShutdown (s : State) (tj : Int) : State :=
  let x := s.thDomain 0
  let s := s.setThDomain 0 { x with step := 3, belowAt := none }
  let s := (((s.flag Reg.TH_STAT_SHUTDOWN true).flag Reg.TH_STAT_SHUT_SEEN true).inc Reg.TH_SHUT_CNT_COUNT).raise .tjShutdown (low 20 (tj / 1024)) 0
  s.illOff.shutFiring

/-- Shutdown at a sample: only plausible readings of a diode that is not failed count. -/
def State.shutdownSample (s : State) (ok : Bool) (tj : Int) : State :=
  if s.h Reg.TH_STAT_SHUTDOWN = 1 then
    { s with th := { s.th with coolAt := if ok && decide (tj < 115 * 1024) then some (s.th.coolAt.getD s.now) else none } }
  else if ok && decide (125 * 1024 ≤ tj) then s.enterShutdown tj
  else s

/-- The firing range at a sample (R467). -/
def State.fireRangeSample (s : State) (ok : Bool) (tj : Int) : State :=
  if s.fu 0 Reg.TH_CFG_FIRE_RANGE = 0 then (s.flag Reg.TH_STAT_FIRE_INH false)
  else
    let lo := sgn 9 (s.fu 0 Reg.TH_FIRE_TJ_LO) * 1024
    let hi := sgn 9 (s.fu 0 Reg.TH_FIRE_TJ_HI) * 1024
    let inside := ok && decide (lo + 2048 ≤ tj) && decide (tj ≤ hi - 2048)
    let s := { s with th := { s.th with insideAt := if inside then some (s.th.insideAt.getD s.now) else none } }
    if (!ok || decide (tj < lo) || decide (hi < tj)) && s.h Reg.TH_STAT_FIRE_INH == 0 then
      let s := { s with th := { s.th with fireInh := true } }
      ((s.flag Reg.TH_STAT_FIRE_INH true).inc Reg.TH_FIRE_INH_CNT_COUNT).raise .fireTemp (low 20 (tj / 1024)) 0
    else s

/-- WARN at a sample (R465): what the diode reads counts, failed or not. -/
def State.warnSample (s : State) (tj : Int) : State :=
  if s.warnLim ≤ tj then
    if s.h Reg.TH_STAT_WARN = 1 then s else (s.flag Reg.TH_STAT_WARN true).raise .tjWarn (low 20 (tj / 1024)) 0
  else if tj < s.warnLim - s.thHyst then s.flag Reg.TH_STAT_WARN false
  else s

/-- The correction that Table 18.4 gives a quantity. -/
inductive CompForm where
  | preset | second | first
  deriving DecidableEq, Repr

/-- The compensated quantities of Table 18.4 in order: the VCO band and then the charge-pump current of the 126 PLLs (Table 1.3: time base, 64
tiles, Shepherd, 16 fold and 8 extraction clusters, 36 quads); the converter reference; IEX0 to IEX3, VEX0, VEX1 and VBIAS; the threshold
DAC references of the 64 tiles; the oscillators of SI-A, SI-B and the always-on island. -/
def compForms : List CompForm := List.replicate 252 .preset ++ (.second :: List.replicate 74 .first)

/-- What a quantity is corrected to at a junction temperature, in ppb. -/
def compTarget (f : CompForm) (k : Nat) (tj : Int) : Rat :=
  let x : Rat := (tj : Rat) / 1024
  match f with
  | .preset => Config.pllPreset k tj
  | .first => Config.compensation k 0 + Config.compensation k 1 * x
  | .second => Config.compensation k 0 + Config.compensation k 1 * x + Config.compensation k 2 * x * x

/-- Temperature compensation (R468): each quantity moves by at most 2 ppm per sample. -/
def State.compensate (s : State) : State :=
  if s.fu 0 Reg.TH_CFG_COMP_EN = 1 then
    let was := s.th.comp ++ List.replicate (compForms.length - s.th.comp.length) 0
    let l := List.zipWith (fun f v => v + max (-2000) (min 2000 (compTarget f.1 f.2 s.th.plausible - v))) compForms.zipIdx was
    { s with th := { s.th with comp := l } }
  else s

/-- A command of the thermal island, which runs from the release of the die. -/
def State.runTh (s : State) (t : Nat) (f : State → State) : Host.Outcome State Fault Refusal :=
  s.runIf (decide (s.phase = .ready ∨ s.phase = .boot)) t fun s => (f s).settleStop

/-- A diode sample (R458 to R468): TH_ writes take effect, the diode and every external domain are evaluated. -/
def State.diodeSample (s : State) (r : DiodeReading) : State :=
    let s := s.applyAt fun a _ => decide (a / 65536 = 2)
    let x := s.thDomain 0
    let rate := match x.last with | some l => s.rateBad r.tj l (s.now - x.lastAt) | none => false
    let bad := !r.inWindow || decide (r.tj < -60 * 1024) || decide (150 * 1024 < r.tj) || rate
    let tj := if r.inWindow then r.tj else sgn 20 (s.h Reg.TH_TJ_TJ)
    let s := s.setThDomain 0 { x with last := if r.inWindow then some r.tj else none, lastAt := s.now }
    let s := if r.inWindow then
        let s := s.setH Reg.TH_TJ_TJ (low 20 r.tj)
        if sgn 20 (s.h Reg.TH_TJ_MAX_TJ) < r.tj then s.setH Reg.TH_TJ_MAX_TJ (low 20 r.tj) else s
      else s
    let s := s.judgeSensor 0 bad (some tj)
    let ok := !(s.thDomain 0).failed
    let s := if ok then { s with th := { s.th with plausible := r.tj } } else s
    let s := if r.inWindow then s.warnSample r.tj else s
    let s := (s.shutdownSample ok tj).fireRangeSample ok tj
    let s := (([0, 1, 2, 3].foldl (fun s k => s.extSample k) s).compensate).updateSteps
    { s with pw := { s.pw with tj := if ok then some tj else none } }

/-- DIODE_SAMPLE (R458): one comes only when it is due. In recovery, where Afioham does not run, the reading serves the flash-write window
alone (R448, R456, log 164). -/
def execDiodeSample (t : Nat) (r : DiodeReading) (s : State) : Host.Outcome State Fault Refusal :=
  if s.phase = .recovery then
    let ok := r.inWindow && decide (-60 * 1024 ≤ r.tj) && decide (r.tj ≤ 150 * 1024)
    s.runIf true t fun s => { s with pw := { s.pw with tj := if ok then some r.tj else none } }
  else s.runTh t fun s => if s.diodeDue then s.diodeSample r else s

/-- THROTTLE_RISE (R462): 500 ms more at or above the limit. -/
def execThrottleRise (t : Nat) (d : Fin 5) (s : State) : Host.Outcome State Fault Refusal :=
  s.runTh t fun s =>
    let x := s.thDomain d
    match x.roseAt with
    | some r => if r + 500 * lsbMs ≤ s.now then (s.setThDomain d { x with step := min 3 (x.step + 1), roseAt := some s.now }).updateSteps else s
    | none => s

/-- THROTTLE_FALL (R462): 1 s without a break below the limit minus HYST. -/
def execThrottleFall (t : Nat) (d : Fin 5) (s : State) : Host.Outcome State Fault Refusal :=
  s.runTh t fun s =>
    let x := s.thDomain d
    match x.belowAt with
    | some r => if r + lsbS ≤ s.now then (s.setThDomain d { x with step := x.step - 1, belowAt := some s.now }).updateSteps else s
    | none => s

/-- SENSOR_RECOVER (R460): a failed sensor has read plausibly for 5 s. -/
def execSensorRecover (t : Nat) (d : Fin 5) (s : State) : Host.Outcome State Fault Refusal :=
  s.runTh t fun s =>
    let x := s.thDomain d
    match x.okAt with
    | some r =>
      if x.failed ∧ r + 5 * lsbS ≤ s.now then (s.setThDomain d { x with failed := false, okAt := none }).showFail d false else s
    | none => s

/-- EXT_SENSOR_SILENT (R460): no settled output for 2 s. -/
def execExtSensorSilent (t : Nat) (k : Fin 4) (s : State) : Host.Outcome State Fault Refusal :=
  s.runTh t fun s =>
    if s.fu 0 (Reg.TH_EXT_CFG_EN k) = 1 ∧ s.extSilent k = true then (s.sensorFail (k + 1)).updateSteps else s

/-- SHUTDOWN_END (R466): 5 s below 115 °C. Firing stays stopped. -/
def execShutdownEnd (t : Nat) (s : State) : Host.Outcome State Fault Refusal :=
  s.runTh t fun s =>
    match s.th.coolAt with
    | some r =>
      if s.h Reg.TH_STAT_SHUTDOWN = 1 ∧ r + 5 * lsbS ≤ s.now then
        ({ s with th := { s.th with coolAt := none } }).flag Reg.TH_STAT_SHUTDOWN false
      else s
    | none => s

/-- FIRE_RANGE_RELEASE (R467): 1 s at least 2 °C inside both limits; firing resumes at the next shot-cycle end. -/
def execFireRangeRelease (t : Nat) (s : State) : Host.Outcome State Fault Refusal :=
  s.runTh t fun s =>
    match s.th.insideAt with
    | some r => if r + lsbS ≤ s.now ∧ (s.thDomain 0).failed = false then s.flag Reg.TH_STAT_FIRE_INH false else s
    | none => s

/-- TH_CFG.CNT_CLR clears the counters and TH_TJ_MAX. -/
def State.thCntClr (s : State) : State :=
  (s.clear [Reg.TH_STEP_CNT_COUNT, Reg.TH_SKIP_CNT_COUNT, Reg.TH_SENS_FAIL_COUNT, Reg.TH_FIRE_INH_CNT_COUNT, Reg.TH_SHUT_CNT_COUNT,
    Reg.TH_CAL_RUN_COUNT, Reg.TH_CAL_FAIL_COUNT, Reg.TH_CAL_LATE_COUNT]).setH Reg.TH_TJ_MAX_TJ 0x80000

/-- TH_CNT_CLR. -/
def execThCntClr (t : Nat) (s : State) : Host.Outcome State Fault Refusal := s.run t fun s => s.thCntClr

/-! ### Self-calibration (R469 to R473) -/

def absLe (x : Int) (n : Nat) : Bool := decide (x.natAbs ≤ n)

/-- TILE_CALIBRATION (R469): in an idle interval of the tile of at least 40 µs, tile by tile in rotation: after the tile calibrated last comes the
next one that is idle (DESIGN CHOICE, log 165). Its channels' baseline loops are frozen, and its entries wait, while it lasts. -/
def execTileCalibration (t : Nat) (tile : Tile) (s : State) : Host.Outcome State Fault Refusal :=
  s.run t fun s =>
    let next := ((List.range 64).map fun i => (s.th.calNext + i) % 64).find? fun x => s.tileIdle x (40 * lsbUs)
    if (s.calItem 0 || s.calItem 1 || s.calItem 2) && decide (next = some tile.val) then
      let s := s.setH Reg.TH_CAL_STAT_TILE tile
      ({ s with th := { s.th with cal := some { tile := tile, stopAt := s.calStop tile }, calNext := (tile.val + 1) % 64 } }).calBegins tile
    else s

/-- CONVERTER_CAL_SLOT (R471): a calibration slot of two output periods after the last slot of a pair's scan; where a channel of the scan
serves an axis that is not OFF, or the pair is in the midst of its scan or held, it waits, as a check does. -/
def execConverterCalSlot (t : Nat) (p : Pair) (s : State) : Host.Outcome State Fault Refusal :=
  s.run t fun s =>
    if s.calItem 3 && s.pairRuns p && !s.inCalSlot p then
      ({ s with ax := { s.ax with calWait := Tab.set s.ax.calWait false p true } }).resumeCal p
    else s

/-- An accepted value starts its ramp from the value then in use (R472). -/
def State.startRamp (s : State) (key chan : Nat) (v0 v1 : Int) : State :=
  let rs := s.th.ramps.filter fun r => decide (r.key ≠ key)
  let r : Ramp := { key := key, chan := chan, v0 := v0, v1 := v1 }
  ({ s with th := { s.th with ramps := rs ++ [r] } }).flag Reg.TH_CAL_STAT_RAMP true

/-- A register that a calibration writes (R472). -/
def State.calWrite (s : State) (a c : Nat) (signed : Bool) (v : Int) : State :=
  let v0 := s.teVal a signed
  let s := { s with th := { s.th with teWait := s.th.teWait.filter fun x => decide (x.addr ≠ a) } }
  (s.setOne a (BitVec.ofInt 20 v)).startRamp a c v0 v

/-- CALIBRATION_RESULT (R470, R472, Table 18.5): of a tile in calibration, one range of walk per visit, or of a pair in its calibration slot. -/
def execCalibrationResult (t : Nat) (r : CalResult) (s : State) : Host.Outcome State Fault Refusal :=
  s.run t fun s =>
    match r with
    | .tdc c ofs =>
      let ok := absLe (ofs - s.teVal (Reg.TE_CH_OFS c) true) (s.fu 0 Reg.TH_CAL_LIM_TDC)
      if s.calibrating (c / 8) then s.calResult 0 (c / 8) (c / 8) ok fun s => s.calWrite (Reg.TE_CH_OFS c) c true ofs else s
    | .comparator c offs within =>
      let lim := s.fu 0 Reg.TH_CAL_LIM_CMP
      let l := (offs.take 6).zipIdx
      let ok := within && l.all fun x => absLe (x.1 - s.quantVal (cmpKey c x.2)) lim
      if s.calibrating (c / 8) then
        s.calResult 1 (c / 8) (c / 8) ok fun s => l.foldl (fun s x => s.startRamp (cmpKey c x.2) c (s.quantVal (cmpKey c x.2)) x.1) s
      else s
    | .walk c g entries =>
      let lim := s.fu 0 Reg.TH_CAL_LIM_TDC
      let ok := entries.all fun x => decide (x.2 < 256) && absLe (x.2 - s.teVal (Reg.TE_WALK c g x.1) false) lim
      if s.calibrating (c / 8) && s.calRangeFree g then
        (s.calRange g).calResult 2 (c / 8) (c / 8) ok fun s => entries.foldl (fun s x => s.calWrite (Reg.TE_WALK c g x.1) c false x.2) s
      else s
    | .converter p ofs1 gain1 ofs2 gain2 =>
      let lim := 64 * s.fu 0 Reg.TH_CAL_LIM_AX
      let cs := s.scanChans p
      let ok := absLe gain1 5000 && absLe gain2 5000
        && cs.all fun c => absLe (ofs1 - s.quantVal (axKey c 0)) lim && absLe (ofs2 - s.quantVal (axKey c 2)) lim
      if s.inCalSlot p then
        (s.endCalSlot p).resumeChecks.calResult 3 p (64 + p) ok fun s => cs.foldl (fun s c =>
          ([ofs1, gain1, ofs2, gain2].zipIdx).foldl (fun s x => s.startRamp (axKey c x.2) (1024 + c) (s.quantVal (axKey c x.2)) x.1) s) s
      else s

/-- CAL_PERIOD_MISSED (R469, R471): an enabled item not measured within PER seconds on a tile, a pair (item 3) or an attached head (item 4). -/
def execCalPeriodMissed (t : Nat) (item : Fin 5) (place : Fin 64) (s : State) : Host.Outcome State Fault Refusal :=
  s.run t fun s =>
    let k := 64 * item.val + place.val
    let per := max 1 (s.fu 0 Reg.TH_CAL_CFG_PER)
    let here := if item.val = 3 then decide (place.val < 4) else if item.val = 4 then decide (place.val < 48) && s.h (Reg.FL_HEAD_STAT_ATTACHED place.val) == 1 else true
    if here && s.calItem item && decide (max (Tab.get s.th.calAt 0 k) s.pw.readyAt + per * lsbS ≤ s.now) then
      let s := { s with th := { s.th with calAt := Tab.set s.th.calAt 0 k s.now } }
      (s.inc Reg.TH_CAL_LATE_COUNT).flag Reg.TH_STAT_CAL_LATE_SEEN true
    else s

end Sys2Proof.Machine
end

