-- ==== Sys2Proof/Machine/Writes.lean ====
section
/-!
DEFINITION. Writing the register space (R13 to R15, R34, R383, R409 to R418, R492): what an island does with a write it accepts, and
the posting queues.
-/

namespace Sys2Proof.Machine

/-! ### Accepting a write -/

/-- Bits of a field cleared where a mask has ones; a bit that its condition has set in the same island cycle stays set (R14). -/
def State.w1cField (s : State) (a v m : Nat) (f : Nat × Nat) : State :=
  let clr := (v &&& m) / 2 ^ f.1 % 2 ^ f.2
  if clr = 0 then s
  else s.setH ⟨a, f.1, f.2⟩ ((s.h ⟨a, f.1, f.2⟩ &&& ((2 ^ f.2 - 1) ^^^ clr)) ||| (clr &&& s.recentBits ⟨a, f.1, f.2⟩))

/-- W1C: a 1 clears the bit, 0 has no effect (Table 0.3). -/
def State.w1c (s : State) (k : RegKind) (a v : Nat) : State := k.hw.foldl (fun s f => s.w1cField a v k.w1c f) s

/-- The one value of a register's RSVD bits (R413). -/
def State.writeRsvd (s : State) (k : RegKind) (a v : Nat) : State :=
  let m := 0xFFFFF ^^^ k.mask
  if m = 0 then s
  else
    let x : Score := BitVec.ofNat 20 (v &&& m)
    { s with regs := { s.regs with rsvd := Tab.set s.regs.rsvd none a (some x) } }

/-- A live write waits for its boundary (R34); one that serves nobody takes effect at once. -/
def State.liveWrite (s : State) (a : Nat) (v : Score) : State :=
  let w : LiveWrite := { addr := a, value := v, acceptedAt := s.now, served := s.servedBy a v, left := s.servedBy a v }
  if w.left.isEmpty then s.takeEffect w else { s with regs := { s.regs with waiting := s.regs.waiting ++ [w] } }

/-- The pair and tap of an AX_FIR address. -/
def firPlace (a : Nat) : Option (Nat × Nat) :=
  [0, 1, 2, 3].findSome? fun p =>
    if Reg.AX_FIR p 0 ≤ a ∧ a ≤ Reg.AX_FIR p 63 then some (p, a - Reg.AX_FIR p 0) else none

/-- A write of a calibration field takes effect whole at the shot-cycle end and ends its ramp (R472); until then the value in use stays. -/
def State.writeCal (s : State) (a : Nat) (v : Score) (signed : Bool) : State :=
  let old : Score := if s.th.teWait.any fun x => decide (x.addr = a) then s.oneReg a else BitVec.ofInt 20 (s.teVal a signed)
  let left := s.th.ramps.filter fun r => decide (r.key ≠ a)
  (({ s with th := { s.th with teWait := s.th.teWait ++ [OldValue.mk a old s.now], ramps := left } }).flag Reg.TH_CAL_STAT_RAMP (!left.isEmpty)).setOne a v

/-- A write of TE_ST_CFG, TE_ST_N or TE_ST_STAT takes effect at the shot-cycle end (R34, R109); until then the value in use stays. -/
def State.writeSt (s : State) (a : Nat) (v : Score) : State :=
  ({ s with tl := { s.tl with stWait := s.tl.stWait ++ [OldValue.mk a (s.oneReg a) s.now] } }).setOne a v

/-- A single-copy field (R415) takes effect on acceptance; the FIR taps under R218, the calibration fields under R472, the fields of the
statistics units under R109. -/
def State.writeOne (s : State) (a : Nat) (v : Score) : State :=
  match firPlace a with
  | some (p, tap) => s.firWrite p tap v
  | none =>
    if 0x142000 ≤ a ∧ a < 0x142800 ∧ a % 4 = 2 then s.writeCal a v true
    else if 0x148000 ≤ a ∧ a < 0x150000 then s.writeCal a v false
    else if 0x140100 ≤ a ∧ a < 0x140140 ∧ a % 16 < 3 then s.writeSt a v
    else
      let s := s.setOne a v
      match (List.range 16).find? fun u => decide (Reg.AQ_TRG_CFG u ≤ a) && decide (a ≤ Reg.AQ_TRG_CFG u + 3) with
      | some u => s.unitWritten u
      | none => s

/-- CM_CFG.CNT_CLR (R406). -/
def State.cmCntClr (s : State) : State :=
  s.clear [Reg.CM_CNT_MAINT_COUNT, Reg.CM_CNT_PEER_COUNT, Reg.CM_CNT_BACKBONE_COUNT, Reg.CM_CNT_HEAD_COUNT, Reg.CM_REFUSE_COUNT,
    Reg.CM_DENIED_COUNT, Reg.CM_REPLAY_COUNT, Reg.CM_FMT_ERR_COUNT, Reg.CM_OVERLOAD_COUNT]

/-- CF_CRC_CFG.CNT_CLR (R433). -/
def State.cfCntClr (s : State) : State :=
  s.clear [Reg.CF_PASS_CNT_COUNT, Reg.CF_MISMATCH_CNT_COUNT, Reg.CF_SWAP_CNT_COUNT, Reg.CF_LIVE_DISC_COUNT, Reg.CF_LIVE_ERR_COUNT]

/-- The index of a register among `n` alike. -/
def ixOf (n : Nat) (r : Nat → Nat) (a : Nat) : Option Nat := (List.range n).find? fun i => decide (r i = a)

/-- What the WO bits of blocks 0x01 to 0x0A do. -/
def State.woLow (s : State) (a v : Nat) : State :=
  let bit (i : Nat) : Bool := decide (v / 2 ^ i % 2 = 1)
  if a = Reg.CM_CFG then (if bit 17 then s.cmCntClr else s)
  else if a = Reg.CF_CRC_CFG then (if bit 15 then s.cfCntClr else s)
  else if a = Reg.PW_CFG then (if bit 0 then s.pwCntClr else s)
  else if a = Reg.PW_SAVE then (if bit 0 then s.saveStart else s)
  else if a = Reg.TH_CFG then (if bit 3 then s.thCntClr else s)
  else if a = Reg.SQ_CFG then (if bit 5 then s.sqCntClr else s)
  else if a = Reg.SV_CFG then (if bit 0 then s.svCntClr else s)
  else if a = Reg.AX_CFG then
    let s := if bit 0 then s.axCntClr else s
    if bit 1 then s.decimatorSync else s
  else if a = Reg.IL_CFG then (if bit 0 then s.ilCntClr else s)
  else if a = Reg.DM_CFG then (if bit 0 then s.dmCntClr else s)
  else if a = Reg.AQ_CFG then (if bit 0 then s.aqCntClr else s)
  else if a = Reg.AQ_FORCE then (if v % 65536 = 0 then s else s.aqForce (v % 65536))
  else
    match ixOf 4 Reg.SV_INJ_CFG a, ixOf 24 Reg.IL_CH_CFG a, ixOf 32 Reg.DM_CH_CTL a, ixOf 4 Reg.AQ_BUF_CTL a with
    | some i, _, _, _ =>
      let s := if bit 4 then s.injAsk i else s
      if bit 5 then s.injAskStop i else s
    | _, some c, _, _ => if bit 10 then s.ilRestart c else s
    | _, _, some c, _ => if bit 1 then s.dmaStop c else if bit 0 then s.dmaStart c else s
    | _, _, _, some b =>
      let s := if bit 0 then s.aqArm b else s
      if bit 1 then s.aqAbort b else s
    | _, _, _, _ => s

/-- What the WO bits of blocks 0x10 to 0x24 do. -/
def State.woHigh (s : State) (a v : Nat) : State :=
  let bit (i : Nat) : Bool := decide (v / 2 ^ i % 2 = 1)
  if a = Reg.FD_CFG then (if bit 1 then s.fdCntClr else s)
  else if a = Reg.EX_CFG then (if bit 1 then s.exCntClr else s)
  else if a = Reg.FL_CFG then (if bit 1 then s.flCntClr else s)
  else
    match ixOf 64 Reg.TL_TILE_CFG a, ixOf 4 Reg.TE_ST_CFG a, ixOf 64 Reg.TE_TILE_CFG a, ixOf 36 Reg.LN_QUAD_CFG a, ixOf 144 Reg.LN_LANE_CTL a with
    | some t, _, _, _, _ => if bit 1 then s.tlCntClr t else s
    | _, some u, _, _, _ =>
      let s := if bit 17 then s.stEnd u else s
      if bit 16 then s.stAsk u else s
    | _, _, some t, _, _ => if bit 0 then s.teCntClr t else s
    | _, _, _, some q, _ => if bit 7 then s.lnCntClr q else s
    | _, _, _, _, some l =>
      let s := if bit 0 then s.laneRetrain l else s
      if bit 2 then s.laneDeep l else if bit 1 then s.laneEidle l else s
    | _, _, _, _, _ => s

/-- A write at a base address as its island accepts it. -/
def State.acceptBase (s : State) (k : RegKind) (a : Nat) (v : Score) : State :=
  let s := (s.writeRsvd k a v.toNat).w1c k a v.toNat
  let rw : Score := BitVec.ofNat 20 (v.toNat &&& k.rw)
  let s := if k.rw = 0 then s else if k.one then s.writeOne a rw else s.liveWrite a rw
  let s := if k.wo = 0 then s else if a < 0x100000 then s.woLow a (v.toNat &&& k.wo) else s.woHigh a (v.toNat &&& k.wo)
  if a / 65536 = 6 then s.axAcceptIdle else if a / 65536 = 4 ∧ s.fl.tablesDirty = true then s.hcfgGap else s

/-- A set's reference becomes invalid (R417). -/
def State.refInvalid (s : State) (b : Bool) : State := s.flag (if b then Reg.CF_STAT_REF_B else Reg.CF_STAT_REF_A) false

/-- A write at an alias address (R417, R492): set fields go to the shadow set, RSVD bits to their one value, nothing else happens. -/
def State.acceptAlias (s : State) (k : RegKind) (a : Nat) (v : Score) : State :=
  let s := s.writeRsvd k a v.toNat
  let rw : Score := BitVec.ofNat 20 (v.toNat &&& k.rw)
  let t := Tab.set s.shadowTab (Reg.resetRw a) a rw
  let s := if s.activeB then { s with regs := { s.regs with setA := t } } else { s with regs := { s.regs with setB := t } }
  s.refInvalid (!s.activeB)

/-- An island accepts a register write. -/
def State.acceptWrite (s : State) (addr : Nat) (v : Score) : State :=
  match Reg.find (Reg.base addr) with
  | none => s
  | some k =>
    if Reg.isAlias addr then (if k.inSet then s.acceptAlias k (Reg.base addr) v else s)
    else s.acceptBase k addr v

/-! ### Posting queues (R383, R410) -/

/-- The bit of CM_BUSY of an address, base or alias. -/
def busyOf (addr : Nat) : Option Nat := Reg.busyBit (Reg.base addr)

/-- A command's writes enter the posting queues one after another; writes to blocks 0x00 and 0x01 are executed in the command island. -/
def State.post (s : State) (cmd addr : Nat) : List Score → State
  | [] => s
  | v :: r =>
    let s := if (busyOf addr).isSome then { s with regs := { s.regs with posted := s.regs.posted ++ [{ addr := addr, value := v, cmd := cmd }] } }
      else s.acceptWrite addr v
    s.post cmd (addr + 1) r

/-- The first queued write that meets a condition, and the rest. -/
def takePosted (p : Posted → Bool) : List Posted → Option (Posted × List Posted)
  | [] => none
  | x :: r => if p x then some (x, r) else (takePosted p r).map fun y => (y.1, x :: y.2)

/-- The oldest queued write that meets a condition is accepted. -/
def State.acceptOne (s : State) (p : Posted → Bool) : State :=
  match takePosted p s.regs.posted with
  | some (x, r) => ({ s with regs := { s.regs with posted := r } }).acceptWrite x.addr x.value
  | none => s

/-- Every queued write that meets a condition is accepted, oldest first. -/
def State.drain (s : State) (p : Posted → Bool) : State := s.regs.posted.foldl (fun s _ => s.acceptOne p) s

/-- A read travels behind every write posted to the same block (R409). -/
def State.drainFor (s : State) (addr n : Nat) : State :=
  let bits := (List.range n).filterMap fun i => busyOf (addr + i)
  if s.regs.posted.isEmpty then s else s.drain fun x => bits.any fun b => decide (busyOf x.addr = some b)

/-- The blocks that hold a queued write to the shadow set catch up before a check of the sets (R427). -/
def State.drainShadow (s : State) : State :=
  let bits := (s.regs.posted.filter fun x => Reg.isAlias x.addr).filterMap fun x => busyOf x.addr
  s.drain fun x => bits.any fun b => decide (busyOf x.addr = some b)

/-- CM_CNT_CLR (R406). -/
def execCmCntClr (t : Nat) (s : State) : Host.Outcome State Fault Refusal := s.run t fun s => s.cmCntClr

/-- CF_CNT_CLR (R433). -/
def execCfCntClr (t : Nat) (s : State) : Host.Outcome State Fault Refusal := s.run t fun s => s.cfCntClr

end Sys2Proof.Machine
end

