-- ==== Sys2Proof/Machine/Sets.lean ====
section
/-!
DEFINITION. The configuration sets (R420 to R431): the checks of Table 16.2, COMMIT_REF, SWAP, COPY_ACTIVE, the live window, the
running CRC.
-/

namespace Sys2Proof.Machine

/-! ### The checks of Table 16.2 -/

/-- A failed check: CHECK, INDEX, and the base address of the register that holds the failing field (0 for CHECK 13 to 15). Where several
fields fail together, it is the lowest of them (log 97). -/
structure Failing where
  check : Nat
  index : Nat
  addr : Nat
  deriving DecidableEq, Repr

/-- A way to read a set's registers. -/
def setRd (tab : Tab Score) (a : Nat) : Score := Tab.get tab (Reg.resetRw a) a

/-- The enabled entries of the shot table. -/
def enabledEntries (rd : Nat → Score) : List Nat :=
  (List.range (min 4096 (Reg.SQ_ENTRIES_COUNT.of (rd Reg.SQ_ENTRIES)))).filter fun i => (shotEntry rd i).en

/-- CHECK 1, 5, 6: the frame fields (R30, R196, R197). -/
def checkFrame (rd : Nat → Score) (no : Nat) : Option Failing :=
  ((frameChecks rd).find? fun x => decide (x.1 = no)).map fun x => { check := x.1, index := x.2.1, addr := x.2.2 }

/-- CHECK 2: the lowest enabled entry that R114 finds invalid: EMIT, DSPAN and GROUP stand in its S0, WIN and SLOT from its S1 on. -/
def checkEntries (rd : Nat → Score) : Option Failing :=
  let n := min 4096 (Reg.SQ_ENTRIES_COUNT.of (rd Reg.SQ_ENTRIES))
  ((enabledEntries rd).find? fun i => !entryValid rd n (setCycLen rd) i).map fun i =>
    { check := 2, index := i, addr := if entryHeadOk rd (shotEntry rd i) then Reg.SQ_SHOT_S1 i else Reg.SQ_SHOT_S0 i }

/-- Whether two groups share a pixel (R113). -/
def groupsMeet (rd : Nat → Score) (g h : Nat) : Bool :=
  (groupRanges rd g).any fun x => (groupRanges rd h).any fun y =>
    decide (x.2 ≠ 0) && decide (y.2 ≠ 0) && decide (x.1 < y.1 + y.2) && decide (y.1 < x.1 + x.2)

/-- Whether the windows of two entries, with the 3 calibration periods before each, overlap on a pixel (R116). -/
def windowsClash (rd : Nat → Score) (x y : ShotEntry) : Bool :=
  let sx := x.slot + winOfs rd x.win
  let sy := y.slot + winOfs rd y.win
  decide (sx < sy + winLen rd y.win + 3) && decide (sy < sx + winLen rd x.win + 3) && groupsMeet rd x.group y.group

/-- CHECK 3: the later entry of a clashing pair; its WIN and SLOT place the window (log 97). -/
def checkClash (rd : Nat → Score) : Option Failing :=
  let en := enabledEntries rd
  (en.find? fun j => en.any fun i => decide (i < j) && windowsClash rd (shotEntry rd i) (shotEntry rd j)).map
    fun j => { check := 3, index := j, addr := Reg.SQ_SHOT_S1 j }

/-- CHECK 4: START_SRC 1 with an axis bound to the cycle (R133). -/
def checkExtBind (rd : Nat → Score) : Option Failing :=
  if Reg.SQ_CFG_START_SRC.of (rd Reg.SQ_CFG) = 1 then
    ([0, 1, 2, 3].find? fun a => (Reg.SQ_TRJ_CFG_BIND a).of (rd (Reg.SQ_TRJ_CFG a)) == 1).map
      fun a => { check := 4, index := a, addr := Reg.SQ_TRJ_CFG a }
  else none

/-- The pixels whose descriptor has EN at 1 in a set; the Reset column gives EN 0. -/
def enabledPixels (tab : Tab Score) : List Nat :=
  (tab.cells.filter fun c => Reg.isDescReg c.1 && decide (c.1 % 65536 % 3 = 0) && decide (c.2.toNat / 2 ^ 19 = 1)).map fun c => c.1 % 65536 / 3

/-- The descriptor of a pixel in a set. -/
def setDesc (rd : Nat → Score) (p : Nat) : List Score := [rd (Reg.FD_DESC0 p), rd (Reg.FD_DESC1 p), rd (Reg.FD_DESC2 p)]

/-- Whether two footprints share a bin. -/
def footsMeet (d e : List Score) : Bool :=
  decide (footStart d < footStart e + footLen e) && decide (footStart e < footStart d + footLen d)

/-- CHECK 7, 8, 9: the descriptors (R147). -/
def checkWidth (rd : Nat → Score) (px : List Nat) : Option Failing :=
  (px.find? fun p => decide (descWidth (setDesc rd p) = 7)).map fun p => { check := 7, index := p, addr := Reg.FD_DESC0 p }

def checkFoot (rd : Nat → Score) (px : List Nat) : Option Failing :=
  (px.find? fun p => decide (footStart (setDesc rd p) + footLen (setDesc rd p) > 20132659)).map
    fun p => { check := 8, index := p, addr := Reg.FD_DESC1 p }

def checkOverlap (rd : Nat → Score) (px : List Nat) : Option Failing :=
  (px.find? fun q => px.any fun p => decide (p < q) && footsMeet (setDesc rd p) (setDesc rd q)).map
    fun q => { check := 9, index := q, addr := Reg.FD_DESC1 q }

/-- An enabled head slot: its first lane, lanes, first remote pixel, pixel count; a WIDTH that has no meaning gives no lanes. -/
structure HeadPlace where
  slot : Nat
  lane : Nat
  width : Nat
  base : Nat
  count : Nat
  deriving DecidableEq, Repr

def headPlaces (rd : Nat → Score) : List HeadPlace :=
  ((List.range 48).filter fun h => (Reg.FL_HEAD_CFG_EN h).of (rd (Reg.FL_HEAD_CFG h)) == 1).map fun h =>
    let w := (Reg.FL_HEAD_CFG_WIDTH h).of (rd (Reg.FL_HEAD_CFG h))
    { slot := h, lane := (Reg.FL_HEAD_CFG_LANE h).of (rd (Reg.FL_HEAD_CFG h)), width := if w = 3 then 0 else 2 ^ w
      base := (Reg.FL_HEAD_BASE_BASE h).of (rd (Reg.FL_HEAD_BASE h)), count := (Reg.FL_HEAD_COUNT_COUNT h).of (rd (Reg.FL_HEAD_COUNT h)) }

/-- R39 for an H-lane link. -/
def HeadPlace.lanesOk (x : HeadPlace) : Bool := decide (x.width ≠ 0) && decide (x.lane % x.width = 0) && decide (x.lane + x.width ≤ 96)

def HeadPlace.sharesLane (x y : HeadPlace) : Bool := decide (x.lane < y.lane + y.width) && decide (y.lane < x.lane + x.width)
def HeadPlace.sharesPixel (x y : HeadPlace) : Bool :=
  decide (0 < x.count) && decide (0 < y.count) && decide (x.base < y.base + y.count) && decide (y.base < x.base + x.count)

/-- The register at fault in a head slot, if R311 refuses it. -/
def HeadPlace.fault (x : HeadPlace) (all : List HeadPlace) : Option Nat :=
  let others := all.filter fun y => decide (y.slot ≠ x.slot)
  if !x.lanesOk || others.any x.sharesLane then some (Reg.FL_HEAD_CFG x.slot)
  else if decide (x.base + x.count > 16384) || others.any x.sharesPixel then some (Reg.FL_HEAD_BASE x.slot)
  else none

/-- CHECK 10. -/
def checkHeads (rd : Nat → Score) : Option Failing :=
  let all := headPlaces rd
  all.findSome? fun x => (x.fault all).map fun a => { check := 10, index := x.slot, addr := a }

/-- The register at fault in a zone, if R359 refuses it. -/
def zoneFault (rd : Nat → Score) (n k : Nat) : Option Nat :=
  let first := (Reg.SF_ZN_PFIRST_PIXEL n k).of (rd (Reg.SF_ZN_PFIRST n k))
  let count := (Reg.SF_ZN_PCOUNT_COUNT n k).of (rd (Reg.SF_ZN_PCOUNT n k))
  if count = 0 then some (Reg.SF_ZN_PCOUNT n k)
  else if first + count > 16896 then some (Reg.SF_ZN_PFIRST n k)
  else if (rd (Reg.SF_ZN_RNEAR n k)).toNat > (rd (Reg.SF_ZN_RFAR n k)).toNat then some (Reg.SF_ZN_RNEAR n k)
  else none

/-- CHECK 11. -/
def checkZones (rd : Nat → Score) : Option Failing :=
  (List.range 256).findSome? fun z =>
    if (Reg.SF_ZN_CFG_EN (z / 32) (z % 32)).of (rd (Reg.SF_ZN_CFG (z / 32) (z % 32))) = 1 then
      (zoneFault rd (z / 32) (z % 32)).map fun a => { check := 11, index := z, addr := a }
    else none

/-- The identity and CH that an FSL slot matches. -/
def slotKey (rd : Nat → Score) (k : Nat) : Nat × Nat :=
  ((Reg.SF_RX_ID_H_ID k).of (rd (Reg.SF_RX_ID_H k)) * 2 ^ 20 + (Reg.SF_RX_ID_L_ID k).of (rd (Reg.SF_RX_ID_L k)),
    (Reg.SF_RX_CFG_CH k).of (rd (Reg.SF_RX_CFG k)))

/-- CHECK 12: a CH from 8 to 14, or an identity and CH that another slot has. -/
def checkSlots (rd : Nat → Score) : Option Failing :=
  let en := safeChans.filter fun k => (Reg.SF_RX_CFG_EN k).of (rd (Reg.SF_RX_CFG k)) == 1
  (en.find? fun k => (decide (8 ≤ (slotKey rd k).2) && decide ((slotKey rd k).2 ≤ 14))
    || en.any fun j => decide (j ≠ k) && decide (slotKey rd j = slotKey rd k)).map fun k => { check := 12, index := k, addr := Reg.SF_RX_CFG k }

/-- The SIZE values of a set's queues. -/
def queueSizes (rd : Nat → Score) : List Nat := (List.range 16).map fun q => (Reg.DM_Q_CFG_SIZE q).of (rd (Reg.DM_Q_CFG q))

/-- CHECK 13. -/
def checkQueues (rd : Nat → Score) : Option Failing :=
  if (queueSizes rd).foldl (· + ·) 0 > 256 then some { check := 13, index := 0, addr := 0 } else none

/-- CHECK 16. -/
def checkCycLen (rd : Nat → Score) : Option Failing :=
  if setCycRaw rd ≠ setCycLen rd then some { check := 16, index := 0, addr := Reg.SQ_CYC_LEN_H } else none

/-- The checks 1 to 13 in order; of several that fail, the lowest CHECK, and within it the lowest INDEX (R424). -/
def checkLow (tab : Tab Score) : Option Failing :=
  let rd := setRd tab
  let px := enabledPixels tab
  [checkFrame rd 1, checkEntries rd, checkClash rd, checkExtBind rd, checkFrame rd 5, checkFrame rd 6, checkWidth rd px, checkFoot rd px,
    checkOverlap rd px, checkHeads rd, checkZones rd, checkSlots rd, checkQueues rd].findSome? id

/-- The checks of R420 step 2, with the outcome of the reference checks 14 and 15 between CHECK 13 and CHECK 16. -/
def checkSet (tab : Tab Score) (ref : Option Failing) : Option Failing :=
  [checkLow tab, ref, checkCycLen (setRd tab)].findSome? id

/-- The detail score of CFG_REJECT, which CF_REJECT keeps too. -/
def Failing.detail (x : Failing) : Nat := x.check * 2 ^ 15 + x.index

/-- A refused set leaves its detail and the address in CF_REJECT and CF_REJECT_ADDR (R424). -/
def State.reject (s : State) (x : Failing) (shadow : Bool) : State :=
  let a := if shadow && decide (x.addr ≠ 0) then x.addr + 0x800000 else x.addr
  (((s.setH Reg.CF_REJECT_CHECK x.check).setH Reg.CF_REJECT_INDEX x.index).setH Reg.CF_REJECT_ADDR_H_ADDR_H (a / 2 ^ 20)).setH
    Reg.CF_REJECT_ADDR_L_ADDR_L (a % 2 ^ 20)

/-! ### References (R417, R427) -/

/-- The stored reference of a set. -/
def State.refValue (s : State) (b : Bool) : BitVec 32 :=
  if b then joinHL (BitVec.ofNat 20 (s.h Reg.CF_REF_B_H_REF_H)) (BitVec.ofNat 20 (s.h Reg.CF_REF_B_L_REF_L))
  else joinHL (BitVec.ofNat 20 (s.h Reg.CF_REF_A_H_REF_H)) (BitVec.ofNat 20 (s.h Reg.CF_REF_A_L_REF_L))

def State.setRef (s : State) (b : Bool) (v : BitVec 32) (valid : Bool) : State :=
  let s := if b then (s.setH Reg.CF_REF_B_H_REF_H (hiOf v).toNat).setH Reg.CF_REF_B_L_REF_L (loOf v).toNat
    else (s.setH Reg.CF_REF_A_H_REF_H (hiOf v).toNat).setH Reg.CF_REF_A_L_REF_L (loOf v).toNat
  s.flag (if b then Reg.CF_STAT_REF_B else Reg.CF_STAT_REF_A) valid

def State.refValid (s : State) (b : Bool) : Bool := s.h (if b then Reg.CF_STAT_REF_B else Reg.CF_STAT_REF_A) == 1

/-- The result of the last completed pass. -/
def State.passValue (s : State) : BitVec 32 := joinHL (BitVec.ofNat 20 (s.h Reg.CF_CRC_H_CRC_H)) (BitVec.ofNat 20 (s.h Reg.CF_CRC_L_CRC_L))

/-- CF_CRC_CFG.LIVE in ms; values outside act as the nearer limit. -/
def State.liveMs (s : State) : Nat := max 10 (min 10000 (s.fo Reg.CF_CRC_CFG_LIVE))

/-- What a command of the command island comes to: its STATUS and results. -/
structure Answer where
  status : Nat
  results : List Score := []
  deriving DecidableEq, Repr

/-- COMMIT_REF (R427) for the set `b` with a new reference. -/
def State.commitRef (s : State) (b : Bool) (ref : BitVec 32) : State × Answer :=
  if s.h Reg.CF_STAT_LOCK = 1 then (s, { status := 0x08 })
  else
    let s := if b = s.activeB then s else s.drainShadow
    let tab := if b = s.activeB then s.activeTab else s.shadowTab
    let low := [checkLow tab, checkCycLen (setRd tab)].findSome? id
    let bad := if b = s.activeB then low
      else checkSet tab (if setCrc tab setBlocks = ref then none else some { check := 15, index := 0, addr := 0 })
    match bad with
    | some x => (s.reject x (b != s.activeB), { status := 0x0A, results := [BitVec.ofNat 20 x.detail] })
    | none =>
      let s := s.setRef b ref true
      if b = s.activeB then
        (({ s with cf := { s.cf with liveUntil := s.now + s.liveMs * lsbMs } }).flag Reg.CF_STAT_LIVE true, { status := 0 })
      else (s, { status := 0 })

/-- COPY_ACTIVE (R425): every field in effect, and the reference with its validity. -/
def State.copyActive (s : State) : State × Answer :=
  if s.h Reg.CF_STAT_LOCK = 1 then (s, { status := 0x08 })
  else if s.h Reg.CF_STAT_LIVE = 1 then (s, { status := 0x0F })
  else
    let t := s.activeTab
    let s := s.setRef (!s.activeB) (s.refValue s.activeB) (s.refValid s.activeB)
    ({ s with regs := { s.regs with setA := t, setB := t } }, { status := 0 })

/-- The frame number of the boundary at which a SWAP accepted now acts (R420): the first at least 100 µs away. -/
def State.swapFrame (s : State) : Nat :=
  if s.now + 100 * lsbUs ≤ s.sq.nextBoundary then (s.sq.frameNo + 1) % 2 ^ 20 else (s.sq.frameNo + 2) % 2 ^ 20

/-- SWAP (R420): the lock, the checks, and the pending swap. -/
def State.swapStart (s : State) : State × Answer :=
  if s.h Reg.CF_STAT_LOCK = 1 then (s, { status := 0x08 })
  else
    let s := s.drainShadow
    let b := !s.activeB
    let ref : Option Failing :=
      if !s.refValid b then some { check := 14, index := 0, addr := 0 }
      else if setCrc s.shadowTab setBlocks ≠ s.refValue b then some { check := 15, index := 0, addr := 0 } else none
    match checkSet s.shadowTab ref with
    | some x => (s.reject x true, { status := 0x0A, results := [BitVec.ofNat 20 x.detail] })
    | none =>
      let n := s.swapFrame
      let p : SwapPending := { at_ := s.now, frame := n, sfRef := sfCrc (sfPart s.shadowTab) }
      ((({ s with cf := { s.cf with swap := some p } }).flag Reg.CF_STAT_LOCK true).hcfgGap, { status := 0, results := [BitVec.ofNat 20 n] })

/-! ### The running CRC (R426 to R430) -/

/-- CRC_PASS_COMPLETE (R428): a pass during which the active set changed gives no result. -/
def State.crcPass (s : State) : State :=
  if s.cf.passDirty then { s with cf := { s.cf with passDirty := false, passStart := s.now } }
  else
    let v := setCrc s.activeTab setBlocks
    let s := (s.setH Reg.CF_CRC_H_CRC_H (hiOf v).toNat).setH Reg.CF_CRC_L_CRC_L (loOf v).toNat
    let s := ({ s with cf := { s.cf with passStart := s.now, passOver := some s.activeB } }).inc Reg.CF_PASS_CNT_COUNT
    if s.refValid s.activeB && decide (v = s.refValue s.activeB) then
      ((((s.flag Reg.CF_STAT_PASS_OK true).flag Reg.CF_STAT_MISMATCH false).flag Reg.CF_STAT_STOPPED false).flag Reg.CF_STAT_LIVE false)
    else
      let s := s.flag Reg.CF_STAT_PASS_OK false
      if s.h Reg.CF_STAT_LIVE = 1 then s else s.cfMismatch

/-- CRC_PASS_COMPLETE (R428 to R430). -/
def execCrcPassComplete (t : Nat) (s : State) : Host.Outcome State Fault Refusal := s.runAt t fun s => s.crcPass

/-- LIVE_WINDOW_EXPIRY (R429). -/
def execLiveWindowExpiry (t : Nat) (s : State) : Host.Outcome State Fault Refusal :=
  s.run t fun s => if s.h Reg.CF_STAT_LIVE = 1 ∧ s.cf.liveUntil ≤ s.now then s.flag Reg.CF_STAT_LIVE false else s

/-! ### A SWAP acts (R418, R421 to R423) -/

/-- Blocks whose fields keep their earlier value beyond the frame boundary, up to a boundary of their own (Table 16.3). -/
def Reg.keepsOld (a : Nat) : Bool :=
  let b := a / 65536
  (decide (b = 2) || decide (b = 5) || decide (b = 6) || decide (b = 7) || (decide (0x20 ≤ b) && decide (b ≤ 0x23)) || decide (b = 0x24))
    && !Reg.atFrame a

/-- Live writes that a SWAP overtakes leave no trace but their count and a LIVE_DISCARD that names the block of each (R418). -/
def State.discardLive (s : State) : State :=
  match s.regs.waiting with
  | [] => s
  | w :: r =>
    let s := { s with regs := { s.regs with waiting := [] } }
    let s := (s.add Reg.CF_LIVE_DISC_COUNT (r.length + 1)).flag Reg.CF_STAT_DISC_SEEN true
    (w :: r).foldl (fun s x => s.raise .liveDiscard (x.addr / 65536) 0) s

/-- What each unit of the blocks of Table 16.3 goes on using until its own boundary: the addresses at which the sets differ. -/
def State.staleAfter (s : State) : List Stale :=
  let addrs := ((Tab.keys s.regs.setA ++ Tab.keys s.regs.setB).dedup.filter Reg.keepsOld).filter fun a => decide (s.act a ≠ s.shadow a)
  let now : List Stale := (s.regs.waiting.flatMap fun w => if Reg.keepsOld w.addr then w.served.map fun u => ⟨w.addr, u, s.use u w.addr⟩ else [])
  let all : List Stale := s.regs.stale ++ now ++ addrs.flatMap fun a => (s.unitsOf a).map fun u => ⟨a, u, s.use u a⟩
  all.foldl (fun (l : List Stale) x => if l.any fun y => decide (y.addr = x.addr) && decide (y.unit = x.unit) then l else l ++ [x]) []

/-- The values of the new set that are looked at when they come into use at the frame boundary: the tiles, the time engine, Shepherd. -/
def State.lookedAtSwap (s : State) : State :=
  let as := (Tab.keys s.activeTab).filter fun a => Reg.isTileReg a || decide (a / 65536 = 4) || decide (a / 65536 = 0x14)
  as.foldl (fun s a => (s.unitsOf a).foldl (fun s u => s.looked u a) s) s

/-- At the frame boundary the shadow set becomes active (R421 to R423). -/
def State.swapActs (s : State) (frame : Nat) : State :=
  match s.cf.swap with
  | none => s
  | some p =>
    let was := s.activeB
    let stale := s.staleAfter
    let ranges := ((List.range 512).filter fun c => decide (s.act (Reg.TL_CH_CFG c) ≠ s.shadow (Reg.TL_CH_CFG c))).map
      fun c => (c, s.use c (Reg.TL_CH_CFG c))
    let s := s.discardLive
    let valid := s.refValid was && decide (s.cf.passOver = some was) && decide (s.passValue = s.refValue was)
    let s := ({ s with regs := { s.regs with stale := stale } }).flag (if was then Reg.CF_STAT_REF_B else Reg.CF_STAT_REF_A) valid
    let s := ((s.flag Reg.CF_STAT_ACTIVE (!was)).flag Reg.CF_STAT_LOCK false).flag Reg.CF_STAT_LIVE false
    let s := { s with cf := { s.cf with swap := none, passDirty := true } }
    let s := (s.inc Reg.CF_SWAP_CNT_COUNT).setH Reg.CF_SWAP_FRAME_FRAME (frame % 2 ^ 20)
    let s := ranges.foldl (fun s x => s.settleRange x.1 x.2) s.lookedAtSwap
    let s := s.axAcceptIdle.loadSafety s.activeTab p.sfRef
    s.raise .swapDone (frame % 2 ^ 20) 0

/-! ### POSTED_WRITE_ACCEPT (R24, R410) -/

/-- The island of a block accepts its oldest queued write. -/
def State.acceptOldest (s : State) (bit : Nat) : State := s.acceptOne fun x => decide (busyOf x.addr = some bit)

end Sys2Proof.Machine
end

