-- ==== Sys2Proof/Machine/Commands.lean ====
section
/-!
DEFINITION. The command interface (15_command_interface.md): arrival, queues, reply cache, privilege, the opcodes.
-/

namespace Sys2Proof.Machine

/-! ### Packets (R379, R380) -/

def Cmd.head (c : Cmd) : Nat := (c.scores.getD 0 0).toNat
def Cmd.opcode (c : Cmd) : Nat := c.head / 2 ^ 12
def Cmd.tag (c : Cmd) : Nat := c.head / 2 ^ 6 % 64
def Cmd.np (c : Cmd) : Nat := c.head % 64

/-- Parameter `i` (S0 is 0). -/
def Cmd.p (c : Cmd) (i : Nat) : Nat := (c.scores.getD (i + 1) 0).toNat

/-- The address in A_H and A_L. -/
def Cmd.addr (c : Cmd) : Nat := c.p 0 % 16 * 2 ^ 20 + c.p 1

/-- The values of a WRITE. -/
def Cmd.values (c : Cmd) : List Score := c.scores.drop 3

/-- The codes of Table 15.2 with the valid P of each. -/
def opcodes : List (Nat × Nat × Nat) :=
  [(0x00, 0, 0), (0x01, 3, 3), (0x02, 3, 63), (0x03, 3, 63), (0x04, 2, 2), (0x10, 0, 0), (0x11, 3, 3), (0x12, 0, 0), (0x20, 0, 0),
   (0x21, 0, 0), (0x22, 0, 0), (0x30, 2, 5), (0x31, 1, 1), (0x40, 0, 0), (0x41, 13, 13), (0x42, 1, 17), (0x43, 1, 17), (0x44, 0, 0),
   (0x45, 1, 1), (0x50, 4, 63), (0x51, 0, 0), (0x52, 1, 1), (0x60, 1, 1)]

def opcodeKnown (op : Nat) : Bool := opcodes.any fun x => x.1 == op

/-- R379, R388: the packet has 1 + P scores and P is valid for the opcode; SUBSCRIBE takes 5 by UDP and 2 elsewhere. -/
def Cmd.lengthOk (c : Cmd) : Bool :=
  let udp := match c.port with | .udp _ _ _ => true | _ => false
  decide (c.scores.length = 1 + c.np)
    && (if c.opcode = 0x30 then c.np == (if udp then 5 else 2)
        else opcodes.any fun x => x.1 == c.opcode && decide (x.2.1 ≤ c.np) && decide (c.np ≤ x.2.2))

/-- Table 15.6: the opcodes that a class may send; classes 0 MAINT (open), 1 PEER, 2 BACKBONE, 3 HEAD. -/
def permitted (cls op : Nat) : Bool :=
  if op = 0x00 then true
  else if cls = 0 then opcodeKnown op
  else if cls = 1 then [0x01, 0x30, 0x31].contains op
  else if cls = 2 then opcodeKnown op && !([0x40, 0x41, 0x42, 0x43, 0x44, 0x45].contains op)
  else false

/-- The opcodes of MAINT while locked. -/
def permittedLocked (op : Nat) : Bool := [0x00, 0x01, 0x40, 0x41, 0x42].contains op

/-- R391. -/
def refusedInBrace (op : Nat) : Bool := [0x02, 0x03, 0x10, 0x11, 0x12, 0x43, 0x45, 0x50, 0x51].contains op
def refusedByTemp (op : Nat) : Bool := [0x43, 0x45, 0x50, 0x51].contains op

/-- The reply of R380. -/
def Cmd.reply (c : Cmd) (a : Answer) : List Score :=
  (BitVec.ofNat 20 (a.status % 256 * 2 ^ 12 + c.tag * 2 ^ 6 + a.results.length % 64) : Score) :: a.results

/-! ### Queues and the cache (R403, R404) -/

/-- The source behind a port of arrival (R403): on a link the identity of its partner, whatever link it is reached by (log 142). -/
def State.keyOf (s : State) : Source → CmdKey
  | .svc => .svc
  | .link l => .partner (s.link (s.linkOf l).1).ident
  | .udp _ ip port => .udp ip port

def State.cmdsOf (s : State) (k : CmdKey) : List Cmd :=
  match s.cm.queues.find? fun q => decide (q.key = k) with
  | some q => q.cmds
  | none => []

def State.setCmds (s : State) (k : CmdKey) (l : List Cmd) : State :=
  let others := s.cm.queues.filter fun q => decide (q.key ≠ k)
  { s with cm := { s.cm with queues := if l.isEmpty then others else others ++ [{ key := k, cmds := l }] } }

/-- Replaces the head of a queue. -/
def State.setHeadCmd (s : State) (k : CmdKey) (c : Cmd) : State := s.setCmds k (c :: (s.cmdsOf k).drop 1)

/-- The cached replies of a source. -/
def State.cacheOf (s : State) (k : CmdKey) : List CacheEntry :=
  match s.cm.caches.find? fun x => decide (x.key = k) with
  | some x => x.entries
  | none => []

/-- A source's cache is used: it stands first, and at most 256 are kept (R404). -/
def State.setCache (s : State) (k : CmdKey) (l : List CacheEntry) : State :=
  { s with cm := { s.cm with caches := (({ key := k, entries := l } : SrcCache) :: s.cm.caches.filter fun x => decide (x.key ≠ k)).take 256 } }

/-- The cached reply to a packet: its tag and every score equal, at most 2 s old. -/
def State.cached (s : State) (k : CmdKey) (c : Cmd) : Option (List Score) :=
  ((s.cacheOf k).find? fun e => decide (e.tag = c.tag) && decide (e.packet = c.scores) && decide (s.now < e.sentAt + 2 * lsbS)).map (·.reply)

/-- The service port holds at most 4 replies (R400). -/
def State.mayReply (s : State) (k : CmdKey) : Bool := decide (k ≠ .svc) || decide (s.cm.replies.length < 4)

/-- A reply goes on the port on which its command arrived (R381); by UDP in one datagram from the command port (R402). -/
def State.sendReply (s : State) (c : Cmd) (r : List Score) : State :=
  match c.port with
  | .svc => { s with cm := { s.cm with replies := s.cm.replies ++ [r] } }
  | .link l => s.sendLink l 4 r
  | .udp l ip port => s.send (.reply l ip port (s.ether l) (scoreOctets r))

/-- The counter of a class. -/
def classCount (cls : Nat) : Fld :=
  match cls with
  | 0 => Reg.CM_CNT_MAINT_COUNT
  | 1 => Reg.CM_CNT_PEER_COUNT
  | 2 => Reg.CM_CNT_BACKBONE_COUNT
  | _ => Reg.CM_CNT_HEAD_COUNT

/-- What a reply counts (Table 15.11). -/
def State.countReply (s : State) (c : Cmd) (status : Nat) : State :=
  if status = 0 then s.inc (classCount c.cls)
  else
    let s := s.inc Reg.CM_REFUSE_COUNT
    let s := if status = 0x05 ∨ status = 0x06 then s.inc Reg.CM_DENIED_COUNT else s
    ((s.setH Reg.CM_LAST_OPCODE c.opcode).setH Reg.CM_LAST_STATUS status).setH Reg.CM_LAST_CLASS c.cls

/-- A command is answered from the cache (R404). -/
def State.replay (s : State) (k : CmdKey) (c : Cmd) (r : List Score) : State :=
  ((s.inc Reg.CM_REPLAY_COUNT).setCache k (s.cacheOf k)).sendReply c r

/-- A reply goes out, and is the last to its tag (R404). -/
def State.cachedReply (s : State) (k : CmdKey) (c : Cmd) (a : Answer) : State :=
  let e : CacheEntry := { tag := c.tag, packet := c.scores, reply := c.reply a, sentAt := s.now }
  (s.setCache k (e :: (s.cacheOf k).filter fun x => decide (x.tag ≠ c.tag))).sendReply c (c.reply a)

/-- The head of a queue is answered, the reply cached, the command gone. -/
def State.answer (s : State) (k : CmdKey) (c : Cmd) (a : Answer) : State :=
  ((s.countReply c a.status).setCmds k ((s.cmdsOf k).drop 1)).cachedReply k c a

/-- The Frezen Link version of the link that a command came by; no limit elsewhere. -/
def State.cmdVersion (s : State) (c : Cmd) : Nat :=
  match c.port with
  | .link l => (s.link l).version
  | _ => 3

/-- The STATUS of a command whose opcode Table 15.2 does not list: what it is refused for before the opcode is looked up (log 86), else
BAD_OPCODE. -/
def State.unknownStatus (s : State) (c : Cmd) : Nat :=
  if s.cmdVersion c ≤ 1 ∧ 62 < c.np then 0x13
  else if c.scores.length ≠ 1 + c.np then 0x02
  else if s.phase = .recovery then 0x0F
  else if c.cls = 1 ∧ s.fo Reg.CM_CFG_PEER_EN = 0 then 0x05
  else 0x01

/-- Heads that need no execution are answered: repeats from the cache, opcodes that Table 15.2 does not list. -/
def State.settle (k : CmdKey) : Nat → State → State
  | 0, s => s
  | n + 1, s =>
    match s.cmdsOf k with
    | c :: r =>
      if c.since.isSome || c.posted || !s.mayReply k then s
      else
        match s.cached k c with
        | some x => State.settle k n ((s.setCmds k r).replay k c x)
        | none => if opcodeKnown c.opcode then s else State.settle k n (s.answer k c { status := s.unknownStatus c })
    | [] => s

/-- A command is answered, and the source's queue goes on. -/
def State.finish (s : State) (k : CmdKey) (c : Cmd) (a : Answer) : State :=
  let s := s.answer k c a
  State.settle k (s.cmdsOf k).length s

/-! ### Arrival (R398 to R404) -/

/-- The room in a source's queue. -/
def CmdKey.room : CmdKey → Nat
  | .svc => 4
  | _ => 16

/-- A packet arrives on a port: a repeat is answered at once, a full queue refuses it. -/
def State.arrive (s : State) (port : Source) (cls : Nat) (scores : List Score) : State :=
  if scores.isEmpty then s
  else
    let k := s.keyOf port
    let c : Cmd := { id := s.cm.nextId, scores := scores, cls := cls, port := port }
    let s := { s with cm := { s.cm with nextId := s.cm.nextId + 1 } }
    let hit := if s.mayReply k then s.cached k c else none
    match hit with
    | some r => s.replay k c r
    | none =>
      if (s.cmdsOf k).length ≥ k.room then
        let s := s.inc Reg.CM_OVERLOAD_COUNT
        if k = .svc then s else (s.countReply c 0x12).cachedReply k c { status := 0x12 }
      else
        let s := s.setCmds k (s.cmdsOf k ++ [c])
        State.settle k (s.cmdsOf k).length s

/-- The service port and its commands run with NODE_RDY_N asserted, and in recovery (R450). -/
def State.portLive (s : State) : Bool := decide (s.phase = .ready) || decide (s.phase = .recovery)

/-- A step of the command island. -/
def State.runCm (s : State) (t : Nat) (f : State → State) : Host.Outcome State Fault Refusal :=
  s.runIf s.portLive t f

/-- A step of the command island that may be an application point. -/
def State.runCmAt (s : State) (t : Nat) (f : State → State) : Host.Outcome State Fault Refusal := s.runCm t fun s => (f s).settleStop

/-- SVC_IRQ_N is asserted while a reply or an event packet waits (R400). -/
def State.svcIrq (s : State) : Bool := !s.cm.replies.isEmpty || s.cm.event.isSome

/-- The port status byte (R398). -/
def State.svcStatus (s : State) : BitVec 8 :=
  BitVec.ofNat 8 (bitsOf [!s.cm.replies.isEmpty, s.cm.event.isSome, decide ((s.cmdsOf .svc).length ≥ 4)])

/-- SVC_COMMAND (R398, R399): `bytes` follow the first byte 0xC1. -/
def execSvcCommand (t : Nat) (bytes : List (BitVec 8)) (s : State) : Host.Outcome State Fault Refusal :=
  s.runCm t fun s =>
    let full := decide ((s.cmdsOf .svc).length ≥ 4)
    let s := s.send (.svcBytes [s.svcStatus])
    let l := octetScores (bytes.length / 3) bytes
    if bytes.length < 3 ∨ bytes.length ≠ 3 * (1 + (l.getD 0 0).toNat % 64) then s.inc Reg.CM_FMT_ERR_COUNT
    else if full then s.inc Reg.CM_OVERLOAD_COUNT
    else s.arrive .svc 0 l

/-- What a read transaction clocks out of an item: 0xFF with nothing waiting, 0x00 beyond the item. -/
def clockOut (item : Option (List Score)) (n : Nat) : List (BitVec 8) :=
  match item with
  | none => List.replicate n 0xFF
  | some x => (scoreOctets x ++ List.replicate (n - (scoreOctets x).length) 0x00).take n

/-- Whether a read transaction has clocked out all of its item. -/
def clockedWhole (item : Option (List Score)) (n : Nat) : Bool :=
  match item with
  | none => false
  | some x => decide (3 * x.length ≤ n)

/-- SVC_EVENT_READ (R399). -/
def execSvcEventRead (t clocked : Nat) (s : State) : Host.Outcome State Fault Refusal :=
  s.runCm t fun s =>
    let item := s.cm.event
    let s := s.send (.svcBytes (s.svcStatus :: clockOut item clocked))
    if clockedWhole item clocked then { s with cm := { s.cm with event := none } } else s

/-- The class of a link's lane group (Table 1.8). -/
def laneClass (l : Nat) : Nat := if l < 96 then 3 else if l < 128 then 1 else 2

/-- CMD_PACKET_RECEIVE (R401). -/
def execCmdPacketReceive (t : Nat) (l : Lane) (s : State) : Host.Outcome State Fault Refusal :=
  s.run t fun s =>
    match s.takePacket (.link l) 3 with
    | (s, some body) => s.arrive (.link (s.linkOf l).1) (laneClass l) body
    | (s, none) => s

/-- UDP_COMMAND_DATAGRAM (R402): from an IPv4 address and UDP port, on a B-lane in BASE-R mode. -/
def execUdpCommandDatagram (t : Nat) (l : Lane) (env : Envelope) (ip port : Nat) (bytes : List (BitVec 8)) (s : State) :
    Host.Outcome State Fault Refusal :=
  s.run t fun s =>
    if s.ethUp l then
      if s.frameKept env s.servedPorts then
        if env.port = some 48121 then
          if bytes.length % 3 ≠ 0 ∨ bytes.length > 192 then s.inc Reg.CM_FMT_ERR_COUNT
          else if s.fo Reg.CM_CFG_UDP_LANES / 2 ^ (l.val - 128) % 2 = 0 then s.inc Reg.CM_DENIED_COUNT
          else s.arrive (.udp l ip port) 2 (octetScores (bytes.length / 3) bytes)
        else s
      else s.inc Reg.EP_RX_DROP_COUNT
    else s

/-! ### Before an opcode executes (R379, R390, R391, R401, R450) -/

/-- The refusal of a command before it executes. -/
def State.refusedFirst (s : State) (c : Cmd) : Option Nat :=
  let op := c.opcode
  let v1 := decide (s.cmdVersion c ≤ 1)
  if v1 && decide (c.np > 62) then some 0x13
  else if !c.lengthOk then some 0x02
  else if v1 && decide (op = 0x01) && decide (c.p 2 > 62) then some 0x13
  else if s.phase = .recovery then
    (if [0x00, 0x50, 0x52].contains op then (if refusedInBrace op && s.pw.brace then some 0x09 else if refusedByTemp op && !s.inWindow then some 0x10 else none)
    else some 0x0F)
  else if decide (c.cls = 1) && s.fo Reg.CM_CFG_PEER_EN == 0 then some 0x05
  else if decide (c.cls = 0) && !s.maintOpen then
    (if permittedLocked op then none else some 0x06)
  else if !permitted c.cls op then some 0x05
  else if refusedInBrace op && s.pw.brace then some 0x09
  else if refusedByTemp op && !s.flashOk then some 0x10
  else none

/-- A command at the head of a queue, neither waiting nor on its way. -/
def State.headCmd (s : State) (k : CmdKey) (op : Nat) : Option Cmd :=
  match s.cmdsOf k with
  | c :: _ => if c.opcode = op && c.since.isNone && !c.posted && s.mayReply k then some c else none
  | [] => none

/-! ### Writes (R383, R384) -/

/-- The blocks that a WRITE touches, as bits of CM_BUSY. -/
def Cmd.mask (c : Cmd) : Nat := blockBits ((List.range c.values.length).map fun i => Reg.base (c.addr + i))

/-- The refusal of one address of a write, as (rank of R383, STATUS). -/
def State.writeRefusal (s : State) (cls a : Nat) (v : Score) : Option (Nat × Nat) :=
  match (if a < 2 ^ 24 then Reg.find (Reg.base a) else none) with
  | none => some (0, 0x04)
  | some k =>
    if Reg.isAlias a && !k.inSet then some (0, 0x04)
    else if decide (cls = 2) && (decide (a / 65536 = 0) || (decide (0x10000 ≤ a) && decide (a < 0x10100))) then some (1, 0x05)
    else if decide (a / 65536 = 8) && k.inSet then some (2, 0x0B)
    else if Reg.isAlias a && s.h Reg.CF_STAT_LOCK == 1 then some (3, 0x08)
    else if decide (a = Reg.PW_SAVE) && decide (v.toNat % 2 = 1) then s.saveRefused.map fun x => (4, x)
    else none

/-- The first refusal in R383's order over all addresses of a write. -/
def State.writeRefused (s : State) (c : Cmd) : Option Nat :=
  let l := c.values.zipIdx.filterMap fun x => s.writeRefusal c.cls (c.addr + x.2) x.1
  ((List.range 5).findSome? fun r => l.find? fun x => decide (x.1 = r)).map (·.2)

/-- The writes of a WRITE go out; it replies when the last has been accepted. -/
def State.writeOut (s : State) (k : CmdKey) (c : Cmd) : State :=
  let s := s.post c.id c.addr c.values
  if s.regs.posted.any fun x => decide (x.cmd = c.id) then s.setHeadCmd k { c with since := none, posted := true }
  else s.finish k c { status := 0 }

/-- R421: a write to the shadow set stays refused while a SWAP is pending; the other checks were passed before the wait (R438). -/
def State.lockedOut (s : State) (c : Cmd) : Bool :=
  s.h Reg.CF_STAT_LOCK == 1 && (List.range c.values.length).any fun i => Reg.isAlias (c.addr + i)

/-- A waiting head goes on if what it waits for has come and its port has room for the reply (R400): a WRITE whose writes are accepted, or whose blocks are free (R384); a POLL_BUSY (R385). -/
def State.wakeOne (s : State) (k : CmdKey) : State :=
  match s.cmdsOf k with
  | c :: _ =>
    if !s.mayReply k then s
    else if c.barred && c.since.isSome && decide (c.opcode = 0x50) then s.finish k c { status := 0x09 }
    else if c.posted then
      if s.regs.posted.any fun x => decide (x.cmd = c.id) then s else s.finish k c { status := 0 }
    else if c.since.isSome && decide (c.opcode = 0x02) then
      if s.cmBusy &&& c.mask ≠ 0 then s
      else if s.lockedOut c then s.finish k c { status := 0x08 } else s.writeOut k c
    else if c.since.isSome && decide (c.opcode = 0x04) then
      if s.cmBusy &&& c.p 0 = 0 then s.finish k c { status := 0, results := [BitVec.ofNat 20 s.cmBusy] } else s
    else s
  | [] => s

/-- Every source that waits on the posting queues is looked at. -/
def State.wake (s : State) : State := (s.cm.queues.map (·.key)).foldl (fun s k => s.wakeOne k) s

/-- SVC_REPLY_READ (R399): `clocked` bytes follow the first byte. The room that it makes lets the port go on (R400). -/
def execSvcReplyRead (t clocked : Nat) (s : State) : Host.Outcome State Fault Refusal :=
  s.runCm t fun s =>
    let item := s.cm.replies.head?
    let s := s.send (.svcBytes (s.svcStatus :: clockOut item clocked))
    if clockedWhole item clocked then
      let s := { s with cm := { s.cm with replies := s.cm.replies.drop 1 } }
      (State.settle .svc (s.cmdsOf .svc).length s).wakeOne .svc
    else s

/-- POSTED_WRITE_ACCEPT (R24, R410, R384): `bit` is the block's bit in CM_BUSY. -/
def execPostedWriteAccept (t : Nat) (bit : Fin 15) (s : State) : Host.Outcome State Fault Refusal :=
  s.runAt t fun s => (s.acceptOldest bit).wake

/-- One opcode of the head of a source's queue. -/
def State.command (s : State) (k : CmdKey) (op : Nat) (f : State → Cmd → State) : State :=
  match s.headCmd k op with
  | none => s
  | some c =>
    match s.refusedFirst c with
    | some x => s.finish k c { status := x }
    | none => (f s c).wake

/-- An opcode that is answered at once. -/
def State.simple (s : State) (k : CmdKey) (op : Nat) (f : State → Cmd → State × Answer) : State :=
  s.command k op fun s c => (f s c).1.finish k c (f s c).2

/-! ### Register access -/

/-- PING (Table 15.2). -/
def State.ping (s : State) (c : Cmd) : State × Answer :=
  (s, { status := 0, results := [s.regValue Reg.SYS_ID, BitVec.ofNat 20 (c.cls * 2 ^ 18 + b2n s.pw.lockFuse * 2 ^ 17 + b2n s.maintOpen * 2 ^ 16)] })

def execPing (t : Nat) (src : Source) (s : State) : Host.Outcome State Fault Refusal := s.runCm t fun s => s.simple (s.keyOf src) 0x00 State.ping

/-- READ (R382, R390, R409). -/
def State.readCmd (s : State) (c : Cmd) : State × Answer :=
  let n := c.p 2
  let locked := decide (c.cls = 0) && !s.maintOpen
  if n = 0 ∨ n > 63 then (s, { status := 0x03 })
  else if locked && (List.range n).any fun i => decide ((c.addr + i) / 65536 ≠ 0) then (s, { status := 0x06 })
  else
    let r := (s.drainFor c.addr n).readRegs (decide (c.cls = 0) && s.maintOpen) c.addr n
    (r.2, { status := 0, results := r.1 })

def execRead (t : Nat) (src : Source) (s : State) : Host.Outcome State Fault Refusal := s.runCmAt t fun s => s.simple (s.keyOf src) 0x01 State.readCmd

/-- WRITE (R383, R384). -/
def execWrite (t : Nat) (src : Source) (s : State) : Host.Outcome State Fault Refusal :=
  s.runCmAt t fun s => s.command (s.keyOf src) 0x02 fun s c =>
    match s.writeRefused c with
    | some x => s.finish (s.keyOf src) c { status := x }
    | none => if s.cmBusy &&& c.mask = 0 then s.writeOut (s.keyOf src) c else s.setHeadCmd (s.keyOf src) { c with since := some s.now }

/-- Whether the head of a queue is a command of an opcode that has waited for so many LSB and may be answered (R400). -/
def State.waitedFor (s : State) (k : CmdKey) (op : Nat) (lsb : Cmd → Nat) : Option Cmd :=
  match s.cmdsOf k with
  | c :: _ =>
    (match c.since with
     | some x => if c.opcode = op ∧ x + lsb c ≤ s.now ∧ s.mayReply k = true then some c else none
     | none => none)
  | [] => none

/-- WRITE_BUSY_TIMEOUT (R384). -/
def execWriteBusyTimeout (t : Nat) (src : Source) (s : State) : Host.Outcome State Fault Refusal :=
  s.runCm t fun s =>
    match s.waitedFor (s.keyOf src) 0x02 fun _ => lsbMs with
    | some c => s.finish (s.keyOf src) c { status := 0x07 }
    | none => s

/-- WRITE_POSTED (R383, R384). -/
def execWritePosted (t : Nat) (src : Source) (s : State) : Host.Outcome State Fault Refusal :=
  s.runCmAt t fun s => s.simple (s.keyOf src) 0x03 fun s c =>
    match s.writeRefused c with
    | some x => (s, { status := x })
    | none => if s.cmBusy &&& c.mask = 0 then (s.post c.id c.addr c.values, { status := 0 }) else (s, { status := 0x07 })

/-- POLL_BUSY (R385). -/
def execPollBusy (t : Nat) (src : Source) (s : State) : Host.Outcome State Fault Refusal :=
  s.runCm t fun s => s.command (s.keyOf src) 0x04 fun s c =>
    if c.p 1 > 1000000 then s.finish (s.keyOf src) c { status := 0x03 }
    else if s.cmBusy &&& c.p 0 = 0 then s.finish (s.keyOf src) c { status := 0, results := [BitVec.ofNat 20 s.cmBusy] }
    else s.setHeadCmd (s.keyOf src) { c with since := some s.now }

/-- POLL_BUSY_TIMEOUT (R385). -/
def execPollBusyTimeout (t : Nat) (src : Source) (s : State) : Host.Outcome State Fault Refusal :=
  s.runCm t fun s =>
    match s.waitedFor (s.keyOf src) 0x04 fun c => c.p 1 * lsbUs with
    | some c => s.finish (s.keyOf src) c { status := 0x11, results := [BitVec.ofNat 20 s.cmBusy] }
    | none => s

/-! ### Sets and running (R386, R387) -/

/-- SWAP (R420). -/
def execSwap (t : Nat) (src : Source) (s : State) : Host.Outcome State Fault Refusal := s.runCm t fun s => s.simple (s.keyOf src) 0x10 fun s _ => s.swapStart

/-- COMMIT_REF (R427): S0 bit 0 names the set, S1 and S2 carry the reference. -/
def execCommitRef (t : Nat) (src : Source) (s : State) : Host.Outcome State Fault Refusal :=
  s.runCm t fun s => s.simple (s.keyOf src) 0x11 fun s c =>
    s.commitRef (decide (c.p 0 % 2 = 1)) (joinHL (BitVec.ofNat 20 (c.p 1 % 2 ^ 12)) (BitVec.ofNat 20 (c.p 2)))

/-- COPY_ACTIVE (R425). -/
def execCopyActive (t : Nat) (src : Source) (s : State) : Host.Outcome State Fault Refusal := s.runCm t fun s => s.simple (s.keyOf src) 0x12 fun s _ => s.copyActive

/-- The reference in use has lain within its limits for 10 ms, and the time base and every tile PLL are in lock on it (R27). -/
def State.refHolds (s : State) : Bool :=
  s.sq.refTaken && s.tilesLocked
    && (if s.h Reg.EP_STAT_REF_NOW = 0 then s.sq.refA && decide (s.sq.sinceA + 10 * lsbMs ≤ s.now) else s.sq.refB && decide (s.sq.sinceB + 10 * lsbMs ≤ s.now))

/-- FRAMES_START (R27, R130, R430): refused while a mismatch holds firing, or before a reference has come back. -/
def State.framesStart (s : State) : State × Answer :=
  if s.h Reg.CF_STAT_STOPPED = 1 ∨ (s.sq.refLost = true ∧ s.refHolds = false) then (s, { status := 0x0F })
  else ({ s with sq := { s.sq with startReq := true, refLost := false, refTaken := false } }, { status := 0 })

def execFramesStart (t : Nat) (src : Source) (s : State) : Host.Outcome State Fault Refusal := s.runCm t fun s => s.simple (s.keyOf src) 0x20 fun s _ => s.framesStart

/-- FRAMES_STOP (R130). -/
def execFramesStop (t : Nat) (src : Source) (s : State) : Host.Outcome State Fault Refusal :=
  s.runCmAt t fun s => s.simple (s.keyOf src) 0x21 fun s _ => (s.haltFiring, { status := 0 })

/-- DEC_SYNC (R227). -/
def execDecSync (t : Nat) (src : Source) (s : State) : Host.Outcome State Fault Refusal :=
  s.runCm t fun s => s.simple (s.keyOf src) 0x22 fun s _ => (s.decimatorSync, { status := 0 })

/-- SAFE_ACK (R387): FIRST, TRIP_SEEN and SF_TRIP_CNT of the channels in the mask. -/
def State.safeAck (s : State) (mask : Nat) : State :=
  safeChans.foldl (fun s n =>
    if mask / 2 ^ n % 2 = 1 then s.zero [Reg.SF_CH_CAUSE_FIRST n, Reg.SF_CH_STAT_TRIP_SEEN n, Reg.SF_TRIP_CNT_COUNT n] else s) s

def execSafeAck (t : Nat) (src : Source) (s : State) : Host.Outcome State Fault Refusal :=
  s.runCm t fun s => s.simple (s.keyOf src) 0x60 fun s c => (s.safeAck (c.p 0 % 256), { status := 0 })

/-! ### Subscriptions (R309, R388, R389) -/

/-- The consumer that a SUBSCRIBE names, with the lane it is reached on. -/
def State.consumerOf (s : State) (c : Cmd) : Option (Consumer × Nat) :=
  match c.port with
  | .svc => some (.svc, 0)
  | .link l => (s.fl.partners.find? fun p => decide (p.port = .lane l)).map fun p => (.partner p.ident, l)
  | .udp l _ _ => some (.eth (c.p 2 % 2 ^ 12 * 2 ^ 20 + c.p 3) (c.p 4 % 2 ^ 16), l)

/-- The lowest free subscription index. -/
def freeIndex (l : List Nat) : Option Nat := (List.range 1024).find? fun i => !l.contains i

/-- Creates or renews a subscription. -/
def State.subscribe (s : State) (kind arg lease : Nat) (who : Consumer) (lane : Nat) : State × Answer :=
  let ends := if lease = 0 then none else some (s.now + lease * lsbS)
  match s.fl.subs.find? fun u => decide (u.kind = kind) && decide (u.arg = arg) && decide (u.who = who) with
  | some u =>
    let subs := s.fl.subs.map fun v => if v.idx = u.idx then { v with expires := ends, lane := lane } else v
    ({ s with fl := { s.fl with subs := subs } }, { status := 0, results := [BitVec.ofNat 20 u.idx] })
  | none =>
    match freeIndex (s.fl.subs.map (·.idx)) with
    | none => (s, { status := 0x0C })
    | some i =>
      let u : Sub := { idx := i, kind := kind, arg := arg, who := who, lane := lane, expires := ends }
      let s := { s with fl := { s.fl with subs := s.fl.subs ++ [u] } }
      let s := if kind = 1 ∧ !s.ev.dests.any (fun d => decide (d.who = who)) then
          { s with ev := { s.ev with dests := s.ev.dests ++ [{ who := who, waiting := [], tokens := 32, refillAt := s.now, suppressed := 0 }] } }
        else s
      (s, { status := 0, results := [BitVec.ofNat 20 i] })

/-- SUBSCRIBE (R388). -/
def State.subscribeCmd (s : State) (c : Cmd) : State × Answer :=
  let kind := c.p 0 / 2 ^ 18
  let arg := c.p 0 % 16
  if kind = 3 then (s, { status := 0x03 })
  else if c.port = .svc ∧ kind ≠ 1 then (s, { status := 0x05 })
  else if c.p 1 > 3600 ∨ (kind = 1 ∧ arg > 2) ∨ (kind = 2 ∧ arg > 7) then (s, { status := 0x03 })
  else
    match s.consumerOf c with
    | none => (s, { status := 0x0F })
    | some (who, lane) => s.subscribe kind arg (if s.cmdVersion c ≤ 2 then 0 else c.p 1) who lane

def execSubscribe (t : Nat) (src : Source) (s : State) : Host.Outcome State Fault Refusal :=
  s.runCm t fun s => s.simple (s.keyOf src) 0x30 State.subscribeCmd

/-- Whether a source is the port of a consumer (R389). -/
def State.isPortOf (s : State) (port : Source) (who : Consumer) : Bool :=
  match who, port with
  | .svc, .svc => true
  | .eth ip _, .udp _ ip' _ => decide (ip = ip')
  | .partner i, .link l => (match s.partner i with | some p => decide (p.port = .lane l) | none => false)
  | .partner i, .udp _ ip' _ => (match s.partner i with | some p => (match p.port with | .eth _ ip => decide (ip = ip') | .lane _ => false) | none => false)
  | _, _ => false

/-- UNSUBSCRIBE (R389). -/
def State.unsubscribeCmd (s : State) (c : Cmd) : State × Answer :=
  match s.fl.subs.find? fun u => decide (u.idx = c.p 0) with
  | none => (s, { status := 0x03 })
  | some u =>
    if (decide (c.cls = 0) && s.maintOpen) || s.isPortOf c.port u.who then ((s.endSub u).pruneDests, { status := 0 })
    else (s, { status := 0x05 })

def execUnsubscribe (t : Nat) (src : Source) (s : State) : Host.Outcome State Fault Refusal :=
  s.runCm t fun s => s.simple (s.keyOf src) 0x31 State.unsubscribeCmd

/-! ### Field lock and sessions (R392 to R397) -/

/-- Splits a number into scores, right-aligned, most significant first (R3, R394). -/
def splitScores : Nat → Nat → List Score
  | 0, _ => []
  | n + 1, x => BitVec.ofNat 20 (x / 2 ^ (20 * n)) :: splitScores n x

def joinScores (l : List Score) : Nat := l.foldl (fun n v => n * 2 ^ 20 + v.toNat) 0

/-- The refusal of a blocked attempt, with the seconds left (R397). -/
def State.authBlocked (s : State) : Option Answer :=
  if s.authWait > 0 then some { status := 0x0E, results := [BitVec.ofNat 20 s.authWait] } else none

/-- A success: a session of 60 minutes, the failure count 0. -/
def State.openSession (s : State) (how : Nat) : State :=
  let had := decide (s.pw.fails ≠ 0)
  let s := { s with cm := { s.cm with session := some { how := how, ends := s.now + 3600 * lsbS } }, pw := { s.pw with fails := 0, waitUntil := none } }
  if had then s.ownWrite (.failures 0) else s

/-- A failure: from the third on, a wait of 60 × 2^(k - 3) s, at most 3,840 s. -/
def State.authFail (s : State) : State :=
  let k := s.pw.fails + 1
  let s := { s with pw := { s.pw with fails := k } }
  if k ≥ 3 then
    ({ s with pw := { s.pw with waitUntil := some (s.now + min (60 * 2 ^ (min (k - 3) 6)) 3840 * lsbS) } }).ownWrite (.failures k)
  else s

/-- CHALLENGE (R394). -/
def State.challenge (s : State) : State × Answer :=
  match s.authBlocked with
  | some a => (s, a)
  | none =>
    let n := (Config.nonce s.freeCtr).toNat
    (({ s with cm := { s.cm with nonce := some (n, s.now + 60 * lsbS) } }).fresh, { status := 0, results := splitScores 13 n })

def execChallenge (t : Nat) (src : Source) (s : State) : Host.Outcome State Fault Refusal := s.runCm t fun s => s.simple (s.keyOf src) 0x40 fun s _ => s.challenge

/-- The outstanding nonce that is still valid. -/
def State.validNonce (s : State) : Option Nat :=
  match s.cm.nonce with
  | some (n, e) => if s.now < e then some n else none
  | none => none

/-- RESPOND (R394, R395). -/
def State.respond (s : State) (c : Cmd) : State × Answer :=
  match s.authBlocked, s.validNonce with
  | some a, _ => (s, a)
  | none, none => (s, { status := 0x0F })
  | none, some n =>
    let s := { s with cm := { s.cm with nonce := none } }
    if joinScores (c.scores.drop 1) % 2 ^ 256 = respondMac s.pw.key n then (s.openSession 1, { status := 0 }) else (s.authFail, { status := 0x0D })

def execRespond (t : Nat) (src : Source) (s : State) : Host.Outcome State Fault Refusal := s.runCm t fun s => s.simple (s.keyOf src) 0x41 State.respond

/-- The bytes of a password: two per score (R396). -/
def Cmd.passBytes (c : Cmd) : List (BitVec 8) :=
  ((c.scores.drop 2).flatMap fun v => [BitVec.ofNat 8 (v.toNat / 256), BitVec.ofNat 8 v.toNat]).take (c.p 0)

/-- The refusal of a password's length (R396). -/
def Cmd.passRefused (c : Cmd) (remove : Bool) : Option Nat :=
  let n := c.p 0
  if n = 0 ∧ remove = true then (if c.np = 1 then none else some 0x02)
  else if n < 8 ∨ n > 32 then some 0x03
  else if c.np ≠ 1 + (n + 1) / 2 then some 0x02
  else none

/-- PASSWORD (R396, R397). -/
def State.passwordCmd (s : State) (c : Cmd) : State × Answer :=
  match s.authBlocked, c.passRefused false, s.half.password with
  | some a, _, _ => (s, a)
  | none, some x, _ => (s, { status := x })
  | none, none, none => (s, { status := 0x0F })
  | none, none, some p =>
    if passwordDigest p.salt c.passBytes = p.digest then (s.openSession 2, { status := 0 }) else (s.authFail, { status := 0x0D })

def execPassword (t : Nat) (src : Source) (s : State) : Host.Outcome State Fault Refusal := s.runCm t fun s => s.simple (s.keyOf src) 0x42 State.passwordCmd

/-- SET_PASSWORD (R396): the salted digest goes to the settings records. -/
def State.setPasswordCmd (s : State) (c : Cmd) : State × Answer :=
  match c.passRefused true with
  | some x => (s, { status := x })
  | none =>
    let salt := Config.passwordSalt s.freeCtr
    let p : Option Password := if c.p 0 = 0 then none else some { salt := salt, digest := passwordDigest salt c.passBytes }
    ((s.setHalf { s.half with password := p, seq := s.half.seq + 1 }).fresh, { status := 0 })

def execSetPassword (t : Nat) (src : Source) (s : State) : Host.Outcome State Fault Refusal := s.runCm t fun s => s.simple (s.keyOf src) 0x43 State.setPasswordCmd

/-- CLOSE (R393). -/
def execClose (t : Nat) (src : Source) (s : State) : Host.Outcome State Fault Refusal :=
  s.runCm t fun s => s.simple (s.keyOf src) 0x44 fun s _ => ({ s with cm := { s.cm with session := none } }, { status := 0 })

/-- LOCK_FIELD (R392). -/
def execLockField (t : Nat) (src : Source) (s : State) : Host.Outcome State Fault Refusal :=
  s.runCm t fun s => s.simple (s.keyOf src) 0x45 fun s c =>
    if c.p 0 = 0x0F1E1 then ({ s with pw := { s.pw with lockFuse := true } }, { status := 0 }) else (s, { status := 0x03 })

/-- SESSION_EXPIRY (R393). -/
def execSessionExpiry (t : Nat) (s : State) : Host.Outcome State Fault Refusal :=
  s.run t fun s =>
    match s.cm.session with
    | some x => if x.ends ≤ s.now then { s with cm := { s.cm with session := none } } else s
    | none => s

/-- NONCE_EXPIRY (R394). -/
def execNonceExpiry (t : Nat) (s : State) : Host.Outcome State Fault Refusal :=
  s.run t fun s =>
    match s.cm.nonce with
    | some (_, e) => if e ≤ s.now then { s with cm := { s.cm with nonce := none } } else s
    | none => s

/-- AUTH_WAIT_EXPIRY (R397): the wait is the always-on island's, and runs on through a reset of the die. -/
def execAuthWaitExpiry (t : Nat) (s : State) : Host.Outcome State Fault Refusal :=
  s.runIf true t fun s =>
    match s.pw.waitUntil with
    | some x => if x ≤ s.now then { s with pw := { s.pw with waitUntil := none } } else s
    | none => s

/-- JTAG_ACCESS (R42): a boundary-scan instruction, or one that reaches inside the islands, which field lock refuses. In reset TDO is
high-impedance (R477): nothing answers. -/
def execJtagAccess (t : Nat) (inside : Bool) (s : State) : Host.Outcome State Fault Refusal :=
  s.runIf (decide (s.phase ≠ .powerOn ∧ s.phase ≠ .inReset)) t fun s => s.send (.jtag (!inside || s.maintOpen))

/-! ### Firmware (R405, R451, R452) -/

/-- The slot that FW_STAGE writes: the one that does not run; in recovery slot A, or slot B when QSPI0 is unusable (R450). -/
def State.stageSlot (s : State) : Bool := if s.phase = .recovery then s.pw.badA else !s.pw.runB

/-- The refusal of an FW_STAGE. Into a slot of a flash that is not used nothing is staged (R445, log 163). -/
def State.stageRefused (s : State) (c : Cmd) : Option Nat :=
  let b := c.p 3 % 256
  let first := decide (c.p 0 / 2 ^ 19 = 1)
  let ofs := c.p 1 % 16 * 2 ^ 20 + c.p 2
  if b = 0 then some 0x03
  else if c.np ≠ 4 + (8 * b + 19) / 20 then some 0x02
  else if s.h Reg.SYS_BOOT_TRIAL = 1 ∨ s.flashBad s.stageSlot = true then some 0x0F
  else
    let want := if first then some 0 else match s.pw.staging with | some x => if x.last then none else some x.count | none => none
    if want ≠ some ofs ∨ ofs + b > 2 ^ 23 then some 0x03 else none

/-- The bytes of an FW_STAGE (Table 15.5): its data scores as one bit stream, most significant bit first. -/
def Cmd.imageBytes (c : Cmd) : List (BitVec 8) :=
  let l := c.scores.drop 5
  let b := c.p 3 % 256
  bytesOf b (joinScores l / 2 ^ (20 * l.length - 8 * b))

/-- Buffered bytes are programmed in order, up to a number of the image's bytes (R451). -/
def State.program (s : State) (upTo : Nat) : State :=
  match s.pw.staging, s.mayProgram with
  | some x, true =>
    let k := min upTo x.count - x.programmed
    (s.setImage x.slotB (s.imageOf x.slotB ++ x.buffer.take k)) |> fun s =>
      { s with pw := { s.pw with staging := some { x with programmed := x.programmed + k, buffer := x.buffer.drop k } } }
  | _, _ => s

/-- FW_STAGE places its bytes, or waits for room in the 64 KiB buffer (R451). FIRST erases the slot. -/
def State.stage (s : State) (k : CmdKey) (c : Cmd) : State :=
  let b := c.p 3 % 256
  let first := decide (c.p 0 / 2 ^ 19 = 1)
  let slot := s.stageSlot
  let x : Staging := if first then { slotB := slot } else s.pw.staging.getD { slotB := slot }
  if x.count - x.programmed + b > 65536 then s.setHeadCmd k { c with since := some (c.since.getD s.now) }
  else
    let y : Staging := { x with count := x.count + b, buffer := x.buffer ++ c.imageBytes, last := decide (c.p 0 / 2 ^ 18 % 2 = 1) }
    let s := { s with pw := { s.pw with staging := some y } }
    let s := if first then (s.setImage slot []).markSlot slot { s.slotNow slot with state := 1, length := 0 } else s
    s.finish k c { status := 0, results := [BitVec.ofNat 20 (y.count % 2 ^ 20)] }

/-- FW_STAGE (R405, R451): `programmed` bytes of the image have been programmed by now. A block that waits for room is looked at again. -/
def execFwStage (t : Nat) (src : Source) (programmed : Nat) (s : State) : Host.Outcome State Fault Refusal :=
  s.runCm t fun s =>
    let s := s.program programmed
    match s.waitedFor (s.keyOf src) 0x50 fun _ => 0 with
    | some c => s.stage (s.keyOf src) c
    | none =>
      s.command (s.keyOf src) 0x50 fun s c =>
        match s.stageRefused c with
        | some x => s.finish (s.keyOf src) c { status := x }
        | none => s.stage (s.keyOf src) c

/-- FW_STAGE_TIMEOUT (R451). -/
def execFwStageTimeout (t : Nat) (src : Source) (s : State) : Host.Outcome State Fault Refusal :=
  s.runCm t fun s =>
    match s.waitedFor (s.keyOf src) 0x50 fun _ => 50 * lsbMs with
    | some c => s.finish (s.keyOf src) c { status := 0x0F }
    | none => s

/-- FW_CONFIRM (R452). -/
def State.fwConfirm (s : State) : State × Answer :=
  if s.h Reg.SYS_BOOT_TRIAL = 0 then (s, { status := 0x0F })
  else
    let b := s.pw.runB
    let mine := s.slotNow b
    let other := s.slotNow (!b)
    let s := s.markSlot b { mine with state := 4, gen := other.gen + 1 }
    let s := s.markSlot (!b) { other with state := 5 }
    let s := { s with pw := { s.pw with
      minVersion := max s.pw.minVersion mine.version, trialHalf := none, trial := false, trialEnd := none } }
    ((s.flag Reg.SYS_BOOT_TRIAL false).raise .fwConfirmed (b2n b) 0, { status := 0 })

def execFwConfirm (t : Nat) (src : Source) (s : State) : Host.Outcome State Fault Refusal := s.runCm t fun s => s.simple (s.keyOf src) 0x51 fun s _ => s.fwConfirm

/-- REBOOT (R405): the reset follows 10 ms later. -/
def execReboot (t : Nat) (src : Source) (s : State) : Host.Outcome State Fault Refusal :=
  s.runCm t fun s => s.simple (s.keyOf src) 0x52 fun s c =>
    if c.p 0 = 0x00A55 then ({ s with pw := { s.pw with rebootAt := some (s.now + 10 * lsbMs) } }, { status := 0 }) else (s, { status := 0x03 })

end Sys2Proof.Machine
end

