-- ==== Sys2Proof/Machine/Frames.lean ====
section
/-!
DEFINITION. Frames, the frequency references and stalled islands (chapter 1: R25, R27, R29 to R33): the frame boundary, SCAN_END, the
shot-cycle end.
-/

namespace Sys2Proof.Machine

/-! ### The shot-cycle end and SCAN_END -/

/-- What every shot-cycle end brings: TE_ writes (R34), firing released or stopped (R130, R467), the calibration fields a host wrote (R472). -/
def State.cycleEnd (s : State) : State :=
  let s := (s.applyAt fun a _ => decide (a / 65536 = 0x14)).stBoundary
  let s := { s with th := { s.th with teWait := s.th.teWait.filter fun x => s.staysPast x.at_, fireInh := s.th.fireInh && s.h Reg.TH_STAT_FIRE_INH == 1 } }
  if s.sq.stopReq then s.stopFiring else s

/-- No cycle runs; a start that is held begins the next one, before SCAN_END (R31, R132). -/
def State.cycleGone (s : State) (y : Cycle) : State :=
  let s := { s with sq := { s.sq with cyc := none } }
  if s.h Reg.SQ_STAT_PEND = 1 ∧ y.endAt < s.sq.scanEndAt then
    let s := s.flag Reg.SQ_STAT_PEND false
    if s.sq.upcoming.isSome then s else s.foresee y.endAt (y.no + 1)
  else s

/-- A shot cycle is over (R32, R130): with a stop every open interval closes. -/
def State.cycleOver (s : State) (y : Cycle) : State :=
  (if s.sq.stopReq then s.cycleEnd.closeAll true else s.cycleEnd).foldCycleEnd.takeCopy.cycleGone y

/-- SHOT_CYCLE_END (R32, R130, R132). -/
def execShotCycleEnd (t : Nat) (s : State) : Host.Outcome State Fault Refusal :=
  s.runAt t fun s =>
    match s.sq.cyc with
    | none => s
    | some y => if y.endAt ≤ s.now then s.cycleOver y else s

/-- An entry that SCAN_END finds not reached (R31, R115, R120, R332, R464). -/
def State.dropEntry (s : State) (i : Nat) : State :=
  let x := shotEntry s.sqReg i
  let s := ((s.countReached x.emit).stepLfsr x.emit).1
  if s.sq.cyc.any (·.throttled) then s.inc Reg.TH_SKIP_CNT_COUNT
  else if entryValid s.sqReg s.entries s.cycLen i then s.dropScan 1 else s

/-- The entries of the running cycle that SCAN_END cuts off. -/
def State.dropRest (s : State) : State :=
  match s.sq.cyc with
  | none => s
  | some y => (((List.range s.entries).drop y.next).filter fun i => (shotEntry s.sqReg i).en).foldl (fun s i => s.dropEntry i) s

/-- SCAN_END (R31, R32, R132, R185, R197, R312, R332, R494). -/
def execScanEnd (t : Nat) (s : State) : Host.Outcome State Fault Refusal :=
  s.runAt t fun s =>
    if s.sq.inScan && decide (s.sq.scanEndAt ≤ s.now) then
      let s := s.dropRest
      let s := if s.sq.scanDrop = 0 then s else s.raise .scanOverrun (satScore s.sq.scanDrop) 0
      let cut := s.sq.cyc.isSome
      let s := if cut then s.cycleEnd else s
      let s := s.frameReport
      let s := s.takeDescs.closeAll false
      let s := (s.flag Reg.SQ_STAT_PEND false).flag Reg.SQ_STAT_GAP true
      let s := { s with
        sq := { s.sq with inScan := false, cyc := none, upcoming := none, reached := {}, fired := {} }
        ex := { s.ex with markDue := if s.f Reg.EX_CFG_EN = 1 then some s.sq.frameNo else s.ex.markDue } }
      let s := if cut then s.idleWrites.takeCopy else s
      let s := [0, 1, 2, 3].foldl (fun s a => s.startFlyback a) s
      (s.aqTrigger .scanEnd).hcfgGap
    else s

/-! ### The frame boundary -/

/-- The totals of the frame that ends (R494). -/
def State.frameTotals (s : State) : State :=
  let s := if s.fd.tokenTmoFrame = 0 then s else s.raise .foldToken (satScore s.fd.tokenTmoFrame) 0
  let s := if s.fd.dropFrame = 0 then s else s.raise .foldDrop (satScore s.fd.dropFrame) 0
  let s := (List.range 16).foldl (fun s q =>
    let n := Tab.get s.ex.frameDrops 0 q
    if n = 0 then s else s.raise .deliveryDrop q (satScore n)) s
  { s with fd := { s.fd with tokenTmoFrame := 0, dropFrame := 0 }, ex := { s.ex with frameDrops := {} } }

/-- Whether a register takes effect at the frame boundary on acceptance before it (Table 1.6, chapters 5, 6, 14, 16). -/
def Reg.atBoundary (a : Nat) : Bool :=
  decide (a / 65536 = 1) || decide (a / 65536 = 9) || decide (a = Reg.FD_CFG) || decide (a = Reg.EX_CFG)

/-- The writes whose boundary the frame boundary is; EP_, FL_ID and the head table under R491, idle pixels under R495. -/
def State.boundaryWrites (s : State) : State :=
  let s := s.applyAt fun a _ => Reg.atBoundary a
  let s := s.applyLater 12800 fun a => decide (a / 65536 = 0x26) || Reg.atFrame a
  s.idleWrites

/-- The identity that a set gives. -/
def State.setIdent (s : State) : Nat := s.f Reg.FL_ID_H_ID_H * 2 ^ 20 + s.f Reg.FL_ID_L_ID_L

/-- A written identity takes effect (R297): dither is reseeded, a topology event. -/
def State.identBoundary (s : State) (written : Bool) : State :=
  if !written then s
  else if s.setIdent = 0 ∨ s.setIdent = 0xFFFFFFFF then s.flag Reg.FL_STAT_CFG_ERR true
  else if s.setIdent = s.fl.ident then s
  else (({ s with fl := { s.fl with ident := s.setIdent } }).reseed).topology

/-- Whether a reference lies within its limits. -/
def State.refOk (s : State) (b : Nat) : Bool := if b = 0 then s.sq.refA else s.sq.refB

/-- The host selects a reference through EP_CFG.REFSEL (R27); one outside its limits is not acted on, and after both have failed the time
base chooses by itself. -/
def State.refBoundary (s : State) (written : Bool) : State :=
  if written && s.refOk (s.f Reg.EP_CFG_REFSEL) && !(s.sq.refLost && !s.sq.refTaken) then s.setH Reg.EP_STAT_REF_NOW (s.f Reg.EP_CFG_REFSEL) else s

/-- One queue takes its layout (R364, R368): a changed one discards what it holds. -/
def State.layoutQueue (s : State) (q : Nat) (written : Bool) : State :=
  let x := s.dmQueue q
  let size := s.f (Reg.DM_Q_CFG_SIZE q)
  let fmt1 := s.f (Reg.DM_Q_CFG_FMT q) == 1
  let hold := s.f (Reg.DM_Q_CFG_MODE q) == 1
  let changed := decide (x.size ≠ size) || x.hold != hold || x.fmt1 != fmt1
  let s := if hold && fmt1 && (changed || written) then s.flag Reg.DM_STAT_QCFG_ERR true else s
  if changed then
    ((s.discBytes q x.byteCount).setDmQueue q { size := size, hold := hold, fmt1 := fmt1, disc := (s.discBytes q x.byteCount).dmQueue q |>.disc }).add
      (Reg.DM_Q_DISC_COUNT q) x.items.length
  else s

/-- The layout of the delivery queues (R364). -/
def State.layoutBoundary (s : State) (written : Bool) : State :=
  if ((List.range 16).map fun q => s.f (Reg.DM_Q_CFG_SIZE q)).foldl (· + ·) 0 > 256 then
    if written then s.flag Reg.DM_STAT_QCFG_ERR true else s
  else (List.range 16).foldl (fun s q => s.layoutQueue q written) s

/-- Node time is stepped (R319). -/
def State.timeStep (s : State) : State :=
  match s.fl.ptp.stepBy with
  | none => s
  | some d => (({ s with nodeOfs := s.nodeOfs + d }).setPtp { s.fl.ptp with stepBy := none }).inc Reg.EP_PTP_STEP_COUNT

/-- The plan side of a frame boundary: φ in effect (R138), a new frame period under a plan (R419), the consist position (R45). -/
def State.planBoundary (s : State) (periodWas : Nat) : State :=
  let s := s.planJudge
  let s := if s.framePer ≠ periodWas ∧ s.h Reg.SQ_PLAN_STAT_STATE ≥ 2 then s.planStart else s
  let s := match s.sq.plan.phiDue with
    | some p => (s.setH Reg.SQ_PLAN_OFS_PHI p).setPlan { s.sq.plan with phiDue := none }
    | none => s
  let c := s.fl.consist
  match c.pendingPos with
  | some p => if c.planAgreed then { s with fl := { s.fl with consist := { c with inEffect := p, pendingPos := none, planAgreed := false } } } else s
  | none => s

/-- The new frame (R29, R30, R130): its number, its times, firing that FRAMES_START began, what runs per frame. -/
def State.newFrame (s : State) (stepped : Bool) : State :=
  let b := s.sq.nextBoundary
  let start := s.sq.startReq && s.h Reg.TH_STAT_SHUTDOWN == 0
  let s := if start then s.flag Reg.SQ_STAT_RUN true else s
  let s := { s with
    sq := { s.sq with
      frameNo := (s.sq.frameNo + 1) % 2 ^ 20, frameStart := b, prevStart := s.sq.frameStart, scanEndAt := b + s.framePerLsb - s.f Reg.CF_GAP_GAP * lsbUs
      nextBoundary := b + s.framePerLsb, inScan := true, halted := s.sq.halted && !start, startReq := false
      cycles := 0, scanDrop := 0 }
    safe := { s.safe with chans := [], heads := [], axes := [] }
    ev := { s.ev with seen := [] }
    th := { s.th with rejected := [], fireInh := s.th.fireInh && (s.sq.cyc.isSome || s.h Reg.TH_STAT_FIRE_INH == 1) } }
  let s := if stepped then { s with sq := { s.sq with nextBoundary := s.boundaryAfter s.sq.scanEndAt } } else s
  s.flag Reg.SQ_STAT_GAP false

/-- After a SWAP Shepherd works with the new set (R131, R422). -/
def State.copySq (s : State) : State :=
  { s with sq := { s.sq with nextCopy := none, copy := ⟨s.activeTab.cells.filter fun c => decide (c.1 / 65536 = 4)⟩ } }

/-- The loop periods that the set gives the axes, for R197. -/
def State.setPeriods (s : State) : State := [0, 1, 2, 3].foldl (fun s a => s.setAxis a { s.axis a with setT := setLoopPeriod s.act a }) s

/-- Whether a write to one of some registers waits. -/
def State.waits (s : State) (p : Nat → Bool) : Bool := s.regs.waiting.any fun w => p w.addr

/-- The phases that the servo used before a frame boundary are the ones from which R196 lets it move, when φ or the epoch has changed. -/
def State.slewAxes (s : State) (moved : Bool) (phi : Nat) (before : List Rat) : State :=
  if moved || decide (s.h Reg.SQ_PLAN_OFS_PHI ≠ phi) then
    (before.zipIdx).foldl (fun s x => s.slewPhase x.2 x.1) s
  else s

/-- FRAME_BOUNDARY (R29): the gap ends and the next scan part starts. -/
def execFrameBoundary (t : Nat) (s : State) : Host.Outcome State Fault Refusal :=
  s.runAt t fun s =>
    if !s.sq.inScan && decide (s.sq.nextBoundary ≤ s.now) then
      let per := s.framePer
      let ident := s.setIdent
      let sel := s.f Reg.EP_CFG_REFSEL
      let idW := s.waits fun a => decide (a = Reg.FL_ID_H) || decide (a = Reg.FL_ID_L)
      let selW := s.waits fun a => decide (a = Reg.EP_CFG)
      let layW := s.waits fun a => decide (a / 65536 = 9)
      let s := s.frameTotals.boundaryWrites
      let idW := idW && !(s.waits fun a => decide (a = Reg.FL_ID_H) || decide (a = Reg.FL_ID_L))
      let selW := selW && !(s.waits fun a => decide (a = Reg.EP_CFG))
      let dirty := s.fl.tablesDirty
      let swap := s.cf.swapDue s.sq.nextBoundary
      let s := if swap then (s.swapActs (s.sq.frameNo + 1)).copySq.setPeriods else s.takeCopy
      let s := (s.identBoundary (idW || decide (s.setIdent ≠ ident))).refBoundary (selW || decide (s.f Reg.EP_CFG_REFSEL ≠ sel))
      let phi := s.h Reg.SQ_PLAN_OFS_PHI
      let moved := decide (s.sq.frameStart ≠ 0) && decide (s.sq.nextBoundary ≠ s.sq.frameStart + per * 12800000)
      let before := [0, 1, 2, 3].map s.phaseUsed
      let s := (s.layoutBoundary layW).planBoundary per
      let s := (s.timeStep.newFrame s.fl.ptp.stepBy.isSome).slewAxes moved phi before
      let s := (s.foldFrameStart.noteAll).aqTrigger .boundary
      { s with fl := { s.fl with tablesDirty := dirty } }
    else s

/-! ### References (R27) -/

def State.setRefOk (s : State) (b : Nat) (ok : Bool) : State :=
  { s with sq := if b = 0 then { s.sq with refA := ok } else { s.sq with refB := ok } }

/-- A reference lies within its limits again, for `lsb` without a break; one that lay within them all the time keeps its instant. -/
def State.refBack (s : State) (b lsb : Nat) : State :=
  if s.refOk b then s
  else { s with sq := if b = 0 then { s.sq with refA := true, sinceA := s.now - lsb } else { s.sq with refB := true, sinceB := s.now - lsb } }

/-- REFERENCE_FAIL (R27): a reference leaves its limits; the one in use is replaced by the other, or both have failed. -/
def execReferenceFail (t : Nat) (which : Bool) (s : State) : Host.Outcome State Fault Refusal :=
  s.run t fun s =>
    let b := if which then 1 else 0
    let s := s.setRefOk b false
    if s.h Reg.EP_STAT_REF_NOW ≠ b ∨ (s.sq.refLost = true ∧ s.sq.refTaken = false) then s
    else
      let s := { s.markSuspect with fd := { s.markSuspect.fd with refSwitching := true, suspectUntil := none } }
      if s.refOk (1 - b) then
        let s := (s.setH Reg.EP_STAT_REF_NOW (1 - b)).raise .refSwitch (1 - b) 0
        { s with fd := { s.fd with suspectUntil := some (s.now + lsbMs) } }
      else if s.sq.refLost then { s with sq := { s.sq with refTaken := false } }
      else
        let s := ({ s with sq := { s.sq with refLost := true, refTaken := false } }).raise .refLost 0 0
        let s := { s.stopFiring with sq := { s.stopFiring.sq with startReq := false } }
        s.siTripAll 10

/-- The reference that the time base takes after both have failed (R27): the first that has lain within its limits for 10 ms without a
break, of two at the same instant the selected one. `a` and `b` tell for how long each has lain within them, in LSB. -/
def refToTake (a b : Option Nat) (sel : Nat) : Option Nat :=
  match a.filter (10 * lsbMs ≤ ·), b.filter (10 * lsbMs ≤ ·) with
  | some x, some y => some (if x = y then sel else if x < y then 1 else 0)
  | some _, none => some 0
  | none, some _ => some 1
  | none, none => none

/-- REFERENCE_RECOVERY (R27): references lie within their limits again, each since `a` or `b` LSB without a break (none: it does not); the
time base may then use them. After both have failed it takes one only after 10 ms. -/
def execReferenceRecovery (t : Nat) (a b : Option Nat) (s : State) : Host.Outcome State Fault Refusal :=
  s.run t fun s =>
    let s := match a with | some x => s.refBack 0 x | none => s
    let s := (match b with | some x => s.refBack 1 x | none => s).quadRefsBack a.isSome b.isSome
    if s.sq.refLost && !s.sq.refTaken then
      match refToTake a b (s.f Reg.EP_CFG_REFSEL) with
      | some use => ({ s.setH Reg.EP_STAT_REF_NOW use with sq := { s.sq with refTaken := true } }).suspectFrom
      | none => s
    else s

/-! ### Stalled islands (R25) -/

/-- ISLAND_STALL (R25, R338): the waiting island abandons the handshake and treats the silent one as failed until device reset. -/
def execIslandStall (t : Nat) (waiting silent : ClockIsland) (s : State) : Host.Outcome State Fault Refusal :=
  s.run t fun s =>
    if s.safe.stalls.contains (waiting.ix, silent.ix) then s
    else
      let s := { s with safe := { s.safe with stalls := s.safe.stalls ++ [(waiting.ix, silent.ix)] } }
      let s := s.raise .islandStall (Config.islandNumber waiting.ix).toNat (Config.islandNumber silent.ix).toNat
      if waiting.mainPath || silent.mainPath then ({ s with safe := { s.safe with pathFault := true } }).siTripAll 10 else s

end Sys2Proof.Machine
end

