-- ==== Sys2Proof/Machine/Power.lean ====
section
/-!
DEFINITION. Supplies, BRACE, reset, boot and firmware (17_power_reset_boot.md, R434 to R457; R476).
-/

namespace Sys2Proof.Machine

/-! ### Reset of the die (R436, R440, R441) -/

/-- The monitored rails: every code but 7 (Table 17.1). -/
def railOk (r : Nat) : Bool := decide (r ≠ 7)
def monitored : List Nat := (List.range 16).filter railOk

/-- The fields that the always-on island keeps through a reset of the die. -/
def keptFields : List Fld :=
  [Reg.PW_RST_HOLD_MS, Reg.PW_RAIL_STAT_BELOW, Reg.PW_IO_STAT_HV, Reg.PW_SUPPLY_CNT_COUNT, Reg.PW_PIN_CNT_COUNT]
    ++ (List.range 16).map Reg.PW_RAIL_MIN_MV

/-- The whole die except the always-on island enters reset with a cause of Table 17.3; fuses and flashes keep what they hold. -/
def State.dieReset (s : State) (cause rail : Nat) : State :=
  let p := s.tearSave.pw
  let pw : Power := { p with
    gate := { p.gate with selfTest := false }, trial := false, defaulted := none, trialEnd := none, rebootAt := none, due := [], deferred := [], saving := none, staging := none
    calSavedAt := none, formats := State.reset.pw.formats, tj := none }
  let r : State := { State.reset with
    pending := s.pending, now := s.now, tx := s.tx, freeCtr := s.freeCtr, phase := .inReset, pw := pw }
  let r := keptFields.foldl (fun r f => r.setH f (s.h f)) r
  (r.setH Reg.PW_RST_CAUSE_CAUSE cause).setH Reg.PW_RST_CAUSE_RAIL rail

/-- POWER_ON_RESET (R435, R436): VDD_AON below its reset level; the always-on island loses its records too. -/
def execPowerOnReset (t : Nat) (s : State) : Host.Outcome State Fault Refusal :=
  let s := s.clock t
  let d := s.dieReset 1 0
  let pw : Power := { d.pw with
    gate := { supplyLow := true, under := addOnce 6 s.pw.gate.under, riseAt := s.now, aonAt := s.now }, fails := 0, waitUntil := none, failsKnown := false, brace := false, braceRail := none
    braceRep := none, crossed := [], supplyRep := none, stuckRep := none }
  let r : State := { State.reset with
    pending := s.pending, now := s.now, tx := s.tx, freeCtr := s.freeCtr, phase := .powerOn, pw := pw }
  .next (r.setH Reg.PW_RST_CAUSE_CAUSE 1)

/-- POWER_ON_RELEASE (R435): VDD_AON has been above warning plus hysteresis for 1 ms; the always-on island runs, the rest of the die stays in
reset. -/
def execPowerOnRelease (t : Nat) (s : State) : Host.Outcome State Fault Refusal :=
  let s := s.clock t
  .next (
    if s.phase = .powerOn ∧ s.pw.gate.under.contains 6 = false ∧ s.pw.gate.aonAt + lsbMs ≤ s.now then { s with phase := .inReset } else s)

/-! ### Boot (R445 to R448) -/

/-- A slot on a flash that boots. -/
def State.slotUsable (s : State) (b : Bool) : Bool := !(if b then s.pw.badB else s.pw.badA)

/-- R447: the image in a slot is valid. -/
def State.slotValid (s : State) (b : Bool) : Bool := imageValid (s.image b) s.pw.keyDigest.toNat s.pw.minVersion

/-- A report that waits for the end of the boot. -/
def State.later (s : State) (e : Ev) (e10 e11 : Nat) : State := { s with pw := { s.pw with due := s.pw.due ++ [(e, e10, e11)] } }

/-- A slot found invalid. -/
def State.rejectSlot (s : State) (b : Bool) : State :=
  (s.markSlot b { s.slotNow b with state := 6 }).later .fwRejected (b2n b) 0

/-- The candidates are tried in order; those found invalid are rejected. -/
def State.tryBoot (s : State) : List Bool → State × Option Bool
  | [] => (s, none)
  | b :: r => if s.slotValid b then (s, some b) else (s.rejectSlot b).tryBoot r

/-- The slots in a state, the higher generation first. -/
def State.slotsIn (s : State) (st : Nat) : List Bool :=
  let l := if (s.slotNow true).gen.toNat > (s.slotNow false).gen.toNat then [true, false] else [false, true]
  l.filter fun b => s.slotUsable b && decide ((s.slotNow b).state = st)

/-- A slot is booted. -/
def State.bootSlot (s : State) (b trial : Bool) : State :=
  ({ s with pw := { s.pw with runB := b, trial := trial } }).flag Reg.SYS_BOOT_SLOT b

/-- PW_FW_STAT shows both slots. -/
def State.showSlots (s : State) : State := (s.showSlot false (s.slotNow false).state).showSlot true (s.slotNow true).state

/-- A TRIAL slot found at boot is rejected, and what its image saved is read no more (R448, R454). -/
def State.fallBack (s : State) (b : Bool) : State :=
  let s := { s with pw := s.pw.dropTrial }
  s.markSlot b { s.slotNow b with state := 6 }

/-- BOOT_SLOT_SELECT (R448, R450). -/
def State.selectSlot (s : State) : State :=
  let fell := (s.slotsIn 3).head?
  let s := match fell with | some b => s.fallBack b | none => s
  let staged := if s.mayProgram then (s.slotsIn 2).head? else none
  let (s, r) : State × Option Bool := match staged with
    | some b =>
      if s.slotValid b then ((s.markSlot b { s.slotNow b with state := 3 }).bootSlot b true, some b)
      else
        let s := s.rejectSlot b
        s.tryBoot (s.slotsIn 4 ++ s.slotsIn 5)
    | none => s.tryBoot (s.slotsIn 4 ++ s.slotsIn 5)
  match r with
  | none => { s with phase := .recovery }
  | some b =>
    let s := if staged = some b then s else s.bootSlot b false
    match fell with
    | some x => s.later .fwFallback (b2n b) (b2n x)
    | none => s

/-- A boot record as the boot ROM reads it: one whose CRC fails reads as EMPTY (R446). -/
def Slot.read (x : Slot) (whole : Bool) : Slot := if whole && decide (x.crc = x.sum) then x else { x with state := 0 }

/-- The die is released and its boot ROM runs (R445, R446, R448): a flash without a valid SFDP header is not used. -/
def State.dieBoot (s : State) (f : BootFacts) : State :=
  let pw : Power := { s.pw with
    releasedAt := s.now, badA := !f.sfdpA, badB := !f.sfdpB, slotA := s.pw.slotA.read f.recordA, slotB := s.pw.slotB.read f.recordB, tj := f.tj }
  let s := { s with phase := .boot, pw := pw }
  let s := if f.sfdpA then s else (s.flag Reg.PW_STAT_FLASH_FAULT true).later .flashFault 0 0
  let s := if f.sfdpB then s else (s.flag Reg.PW_STAT_FLASH_FAULT true).later .flashFault 1 0
  s.selectSlot

/-! ### Supplies (R434 to R439) -/

/-- The nominal level of a rail in mV (Table 17.1); a VDD_IO bank's is that of its class (R435). -/
def State.railNominal (s : State) (r : Nat) : Nat :=
  if r < 8 then [750, 800, 900, 1200, 1800, 3300, 1800].getD r 0
  else if (s.h Reg.PW_IO_STAT_HV).testBit (r - 8) then 3300 else 1800

/-- The warning level of a rail, 96 % of nominal, and its reset level, 92 % (R434), in mV. -/
def State.railWarning (s : State) (r : Nat) : Nat := s.railNominal r * 96 / 100
def State.railReset (s : State) (r : Nat) : Nat := s.railNominal r * 92 / 100

/-- The hysteresis of a rail in mV (Table 17.1). -/
def State.railHyst (s : State) (r : Nat) : Nat :=
  let n := s.railNominal r
  if n ≤ 900 then 10 else if n ≤ 1200 then 15 else if n ≤ 1800 then 20 else 40

/-- A rail is not above its warning level plus hysteresis: what waits for 1 ms above that level starts again when it has risen (R435, R439). -/
def State.railUnder (s : State) (r : Nat) : State :=
  { s with pw := { s.pw with gate := { s.pw.gate with under := addOnce r s.pw.gate.under } } }

/-- Every rail has been above its warning level plus hysteresis for 1 ms without a break (R435, R439). -/
def State.railsHeld (s : State) : Bool := s.pw.gate.under.isEmpty && decide (s.pw.gate.riseAt + lsbMs ≤ s.now)

/-- The minimum of a rail during the BRACE in progress (R439). -/
def State.railDown (s : State) (r mv : Nat) : State := s.setH (Reg.PW_RAIL_MIN_MV r) (min mv (s.h (Reg.PW_RAIL_MIN_MV r)))

/-- SUPPLY_RESET (R436, R441): a rail other than VDD_AON is at a level below its reset level. A BRACE that ends so keeps its record (R439). -/
def execSupplyReset (t : Nat) (r : RailLevel) (s : State) : Host.Outcome State Fault Refusal :=
  let mv := r.mv
  let r := r.rail
  let s := s.clock t
  .next (
    if r.val = 6 ∨ railOk r = false ∨ s.railReset r ≤ mv then s
    else if s.phase = .powerOn then s.railUnder r
    else
      let s := (s.orBit Reg.PW_RAIL_STAT_BELOW r).railUnder r
      let s := if s.pw.brace then s.railDown r mv else s
      let rep := if s.pw.brace then s.pw.braceRail.map fun x => (x, s.h (Reg.PW_RAIL_MIN_MV x)) else s.pw.braceRep
      let s := { s with pw := { s.pw with brace := false, braceRail := none, crossed := [], braceRep := rep } }
      if s.phase = .inReset then { s with pw := { s.pw with gate := { s.pw.gate with supplyLow := true } } }
      else
        let s := { s with pw := { s.pw with gate := { s.pw.gate with supplyLow := true }, supplyRep := some r.val } }
        (s.inc Reg.PW_SUPPLY_CNT_COUNT).dieReset 2 r)

/-- DIE_RELEASE (R435, R476): every rail above warning for 1 ms; `hv` are the VDD_IO banks above 2.5 V, latched at the first release
after power-on. RST_N may still hold the die. -/
def execDieRelease (t : Nat) (hv : BitVec 8) (boot : BootFacts) (s : State) : Host.Outcome State Fault Refusal :=
  let s := s.clock t
  .next (
    if s.phase = .inReset ∧ s.pw.gate.supplyLow = true ∧ s.railsHeld = true then
      let s := if s.pw.gate.latched then s else
        ({ s with pw := { s.pw with gate := { s.pw.gate with latched := true } } }).setH Reg.PW_IO_STAT_HV hv.toNat
      let s := { s with pw := { s.pw with gate := { s.pw.gate with supplyLow := false } } }
      if s.pw.gate.rstLow then s else s.dieBoot boot
    else s)

/-- An FW_STAGE that waits for room is refused when BRACE begins (R438). -/
def State.refuseStages (s : State) : State :=
  s.cm.queues.foldl (fun s q =>
    match s.cmdsOf q.key with
    | c :: _ => if c.since.isSome && decide (c.opcode = 0x50) then (s.setHeadCmd q.key { c with barred := true }).wakeOne q.key else s
    | [] => s) s

/-- BRACE_ENTRY (R437 to R439): a rail falls below its warning level, at `mv`; further rails may follow within one BRACE. A fall that stays
above that level but not above the hysteresis restarts the 1 ms of R435 and R439. -/
def execBraceEntry (t : Nat) (r : Rail) (mv : Nat) (s : State) : Host.Outcome State Fault Refusal :=
  let s := s.clock t
  .next (
    if railOk r = false ∨ s.railWarning r + s.railHyst r < mv then s
    else if s.phase = .powerOn ∨ s.railWarning r ≤ mv then s.railUnder r
    else if s.pw.gate.supplyLow then (s.orBit Reg.PW_RAIL_STAT_BELOW r).railUnder r
    else
      let s := (s.orBit Reg.PW_RAIL_STAT_BELOW r).railUnder r
      let s : State := if s.pw.brace then s
        else
          let s := (List.range 16).foldl (fun s i => s.setH (Reg.PW_RAIL_MIN_MV i) scoreMax) s
          let s : State := { s with pw := { s.pw with brace := true, braceRail := some r.val, crossed := [] }, th := { s.th with braceIn := List.range 176 } }
          let s := if s.phase = .inReset then s else (s.flag Reg.PW_STAT_BRACE_SEEN true).inc Reg.PW_BRACE_CNT_COUNT
          s.markSuspect.refuseStages
      ({ s with pw := { s.pw with crossed := addOnce r.val s.pw.crossed } }).railDown r mv)

/-- RAIL_ABOVE_WARNING (R435, R439): a rail has risen through its warning level plus hysteresis. -/
def execRailAboveWarning (t : Nat) (r : Rail) (dip : RailRise) (s : State) : Host.Outcome State Fault Refusal :=
  let s := s.clock t
  .next (
    if railOk r = false ∨ dip.mv ≤ s.railWarning r + s.railHyst r then s
    else
      let s := s.clrBit Reg.PW_RAIL_STAT_BELOW r
      let s := { s with pw := { s.pw with gate := { s.pw.gate with
        under := s.pw.gate.under.filter (· ≠ r.val), riseAt := s.now, aonAt := if r.val = 6 then s.now else s.pw.gate.aonAt } } }
      if s.pw.brace && s.pw.crossed.contains r.val then s.railDown r dip.minMv else s)

/-- BRACE_END (R439): every rail above warning plus hysteresis for 1 ms; SUPPLY_BRACE names the first rail and its minimum. -/
def execBraceEnd (t : Nat) (s : State) : Host.Outcome State Fault Refusal :=
  let s := s.clock t
  .next (
    match s.pw.brace, s.pw.braceRail with
    | true, some r =>
      if s.railsHeld then
        let mv := s.h (Reg.PW_RAIL_MIN_MV r)
        let s := { s with pw := { s.pw with brace := false, braceRail := none, crossed := [] } }
        if s.live then s.raise .supplyBrace r mv else { s with pw := { s.pw with braceRep := some (r, mv) } }
      else s
    | _, _ => s)

/-! ### RST_N, watchdog, REBOOT (R440 to R444, R405) -/

/-- RST_N_ASSERT (R440): the die is held in reset. -/
def execRstNAssert (t : Nat) (s : State) : Host.Outcome State Fault Refusal :=
  let s := s.clock t
  .next (
    if s.phase = .powerOn ∨ s.pw.gate.rstLow = true then s
    else
      let s := { s with pw := { s.pw with gate := { s.pw.gate with rstLow := true, rstAt := s.now } } }
      if s.phase = .inReset then s else (s.inc Reg.PW_PIN_CNT_COUNT).dieReset 3 0)

/-- RST_N_RELEASE (R440, R442): the hold is recorded; the two filters of 10 µs cancel. -/
def execRstNRelease (t : Nat) (boot : BootFacts) (s : State) : Host.Outcome State Fault Refusal :=
  let s := s.clock t
  .next (
    if s.pw.gate.rstLow then
      let hold := s.now - s.pw.gate.rstAt
      let s := s.setH Reg.PW_RST_HOLD_MS (hold / lsbMs)
      let stuck := if hold > 30 * lsbS then some (hold / lsbS) else s.pw.stuckRep
      let s := { s with pw := { s.pw with gate := { s.pw.gate with rstLow := false }, stuckRep := stuck } }
      if s.phase = .inReset ∧ s.pw.gate.supplyLow = false then s.dieBoot boot else s
    else s)

/-- A reset that nothing holds: the die boots again. -/
def State.resetNow (s : State) (cause : Nat) (boot : BootFacts) : State := (s.dieReset cause 0).dieBoot boot

/-- MGMT_WATCHDOG_EXPIRY (R444). -/
def execMgmtWatchdogExpiry (t : Nat) (boot : BootFacts) (s : State) : Host.Outcome State Fault Refusal :=
  let s := s.clock t
  .next (if s.phase = .boot ∨ s.phase = .ready then s.resetNow 5 boot else s)

/-- REBOOT_RESET (R405): 10 ms after REBOOT. -/
def execRebootReset (t : Nat) (boot : BootFacts) (s : State) : Host.Outcome State Fault Refusal :=
  let s := s.clock t
  .next (
    match s.pw.rebootAt with
    | some x => if x ≤ s.now then s.resetNow 4 boot else s
    | none => s)

/-! ### Self-tests and NODE_RDY_N (R431, R443, R449, R452) -/

/-- SELF_TEST_COMPLETE (R452). -/
def execSelfTestComplete (t : Nat) (ok : Bool) (boot : BootFacts) (s : State) : Host.Outcome State Fault Refusal :=
  let s := s.clock t
  .next (
    if s.phase = .boot then
      if ok then
        let s := { s with pw := { s.pw with gate := { s.pw.gate with selfTest := true } } }
        if s.pw.trial then (s.flag Reg.SYS_BOOT_TRIAL true).later .fwTrial (b2n s.pw.runB) 0 else s
      else if s.pw.trial then s.resetNow 6 boot
      else s
    else s)

/-- The defaults of a part of the settings (R454). -/
def Settings.defaults (x : Settings) : SettingsPart → Settings
  | .sets => { x with set := {}, ref := none }
  | .fields => { x with one := ({} : Settings).one }
  | .password => { x with password := none }
  | .failures => { x with fails := 0 }

/-- The settings records are read (R454) by an image that knows some formats: of those of a newer format it takes the defaults; those of an
older format are migrated. -/
def State.readRecords (s : State) (formats : RecordFormats) : State :=
  let l := match s.currentHalf with | some x => x.2.records | none => []
  let newer := l.filter fun x => decide (formats.of x.content.part < x.version)
  let older := l.filter fun x => decide (x.version < formats.of x.content.part)
  let s := { s with pw := { s.pw with formats := formats } }
  let s := if newer.isEmpty then s else
    { s with pw := { s.pw with defaulted := some (newer.foldl (fun x r => x.defaults r.content.part) s.half) } }
  let s := newer.foldl (fun s r => s.later .settingsNewer r.type r.version) s
  let s := older.foldl (fun s r => s.later .settingsMigrated r.type (formats.of r.content.part)) s
  if older.isEmpty then s else s.ownWrite .migrated

/-- Both sets and the saved fields are loaded (R416, R431, R297): with no identity in flash FL_ID takes the serial number. -/
def State.loadSets (s : State) : State :=
  let x := s.half
  let id := Tab.get x.set 0 Reg.FL_ID_H = 0 ∧ Tab.get x.set 0 Reg.FL_ID_L = 0
  let set := if id then Tab.set (Tab.set x.set 0 Reg.FL_ID_H (hiOf s.pw.serial)) 0 Reg.FL_ID_L (loOf s.pw.serial) else x.set
  let s := { s with regs := { s.regs with setA := set, setB := set, one := x.one } }
  match x.ref with
  | some r =>
    let ok := (checkSet set none).isNone && decide (setCrc set setBlocks = r)
    let s := (s.setRef false r ok).setRef true r ok
    if ok then s else s.later .configNoRef 0 0
  | none => s.later .configNoRef 0 0

/-- The fields marked fuse and flash (R16). -/
def State.loadFuses (s : State) : State :=
  let x := Config.imageHeader (s.image s.pw.runB)
  let s := (s.setH Reg.SYS_SERIAL_H_SER_H (s.pw.serial.toNat / 2 ^ 20)).setH Reg.SYS_SERIAL_L_SER_L (s.pw.serial.toNat % 2 ^ 20)
  let s := ((s.setH Reg.EP_MAC_H_MAC (s.pw.mac.toNat / 2 ^ 32)).setH Reg.EP_MAC_M_MAC (s.pw.mac.toNat / 2 ^ 16 % 2 ^ 16)).setH
    Reg.EP_MAC_L_MAC (s.pw.mac.toNat % 2 ^ 16)
  let s := ((s.setH Reg.SYS_FW_VER_MAJOR (x.fwVer.toNat / 2 ^ 12)).setH Reg.SYS_FW_VER_MINOR (x.fwVer.toNat / 2 ^ 4 % 2 ^ 8)).setH
    Reg.SYS_FW_VER_PATCH (x.fwVer.toNat % 2 ^ 4)
  let s := (s.setH Reg.SYS_FW_BUILD_BUILD x.build.toNat).flag Reg.SYS_BOOT_SLOT s.pw.runB
  s.showSlots

/-- The blocks take the loaded values. -/
def State.startBlocks (s : State) : State :=
  let id := s.setIdent
  let s := { s with fl := { s.fl with ident := if id = 0 ∨ id = 0xFFFFFFFF then s.pw.serial.toNat else id } }
  let s := (s.reseed.copySq).setH Reg.EP_STAT_REF_NOW (s.f Reg.EP_CFG_REFSEL)
  let s := (List.range 64).foldl (fun s t => s.flag (Reg.TL_TILE_STAT_LOCK t) true) s
  let s := s.lookedAtSwap.pinsChecked
  let s := (List.range 512).foldl (fun s c => s.settleRange c 0) s
  let s := [0, 1, 2, 3].foldl (fun s p => s.pairConfig p true) s
  let s := (List.range 36).foldl (fun s q => s.quadCheck q) s
  let s := (List.range 144).foldl (fun s l => s.laneEnable l) s
  let s := { s with fl := { s.fl with tablesDirty := false }, sq := { s.sq with nextBoundary := s.gridFrom s.now } }
  s.loadSafety s.activeTab (sfCrc (sfPart s.activeTab))

/-- The failure count after a power-on reset (R397). -/
def State.restoreFails (s : State) : State :=
  if s.pw.failsKnown then s
  else
    let k := s.half.fails
    { s with pw := { s.pw with failsKnown := true, fails := k, waitUntil := if k ≥ 3 then some (s.now + 60 * lsbS) else none } }

/-- The reports and flags that wait for the end of the boot (R439, R442, R448, R476). -/
def State.bootReports (s : State) : State :=
  let s := match s.pw.stuckRep with
    | some x => (s.raise .stuckReset (satScore x) 0).flag Reg.PW_STAT_STUCK_SEEN true
    | none => s
  let s := match s.pw.supplyRep with | some r => s.raise .supplyReset r 0 | none => s
  let s := match s.pw.braceRep with | some (r, mv) => s.raise .supplyBrace r mv | none => s
  let s := if s.fireBankBad then s.raise .ioClass 0 0 else s
  let s := if s.auxBankBad then s.raise .ioClass 7 0 else s
  let due := s.pw.due
  let s := { s with pw := { s.pw with stuckRep := none, supplyRep := none, braceRep := none, due := [] } }
  let s := due.foldl (fun s x => s.raise x.1 x.2.1 x.2.2) s
  let s := if due.any fun x => decide (x.1.code = Ev.fwFallback.code) then s.flag Reg.PW_STAT_FALLBACK_SEEN true else s
  if due.any fun x => decide (x.1.code = Ev.fwRejected.code) then s.flag Reg.PW_STAT_REJECT_SEEN true else s

/-- NODE_RDY_ASSERT (R449): the boot conditions hold; `formats` are the format versions that the image knows. -/
def execNodeRdyAssert (t : Nat) (formats : RecordFormats) (s : State) : Host.Outcome State Fault Refusal :=
  let s := s.clock t
  .next (
    if s.phase = .boot ∧ s.pw.gate.selfTest = true then
      let s := (s.readRecords formats).loadSets.loadFuses
      let s := { s with phase := .ready, pw := { s.pw with
        readyAt := s.now, trialEnd := if s.h Reg.SYS_BOOT_TRIAL = 1 then some (s.now + 600 * lsbS) else none } }
      let s := if s.h Reg.PW_RST_CAUSE_CAUSE = 0 then s.setH Reg.PW_RST_CAUSE_CAUSE 1 else s
      s.restoreFails.startBlocks.bootReports
    else s)

/-- NODE_RDY_N is asserted (R443): not in reset, boot or recovery, and not after the acceptance of REBOOT. -/
def State.nodeRdy (s : State) : Bool := s.live && s.pw.rebootAt.isNone

/-! ### Firmware (R451, R452) -/

/-- STAGE_COMPLETE (R451): `programmed` bytes of the image have been programmed by now. Once they are all, the boot record is written; the
slot is STAGED and PENDING 0 when it stands in flash. -/
def execStageComplete (t : Nat) (programmed : Nat) (s : State) : Host.Outcome State Fault Refusal :=
  s.runCm t fun s =>
    let s := s.program programmed
    match s.pw.staging with
    | some x =>
      if x.last && decide (x.programmed = x.count) && !x.recorded then
        let y : Slot := { s.slotNow x.slotB with
          state := 2, length := x.count, version := (Config.imageHeader ((s.imageOf x.slotB).take x.count)).version }
        ({ s with pw := { s.pw with staging := some { x with recorded := true } } }).markSlot x.slotB y
      else s
    | none => s

/-- FW_TRIAL_EXPIRED (R452): the image keeps running. -/
def execFwTrialExpired (t : Nat) (s : State) : Host.Outcome State Fault Refusal :=
  s.run t fun s =>
    match s.pw.trialEnd with
    | some e =>
      if e ≤ s.now then
        (({ s with pw := { s.pw with trialEnd := none } }).flag Reg.SYS_BOOT_TRIAL false).raise .fwTrialExpired (b2n s.pw.runB) 0
      else s
    | none => s

end Sys2Proof.Machine
end

