-- ==== Sys2Proof/Machine/Dispatch.lean ====
section
/-!
DEFINITION. The meaning of every command: one arm per constructor, one call of its meaning.
-/

namespace Sys2Proof.Machine

def exec (i : Instr) (s : State) : Host.Outcome State Fault Refusal :=
  match i with
  | .frameBoundary t => Sys2Proof.Machine.execFrameBoundary t s
  | .scanEnd t => Sys2Proof.Machine.execScanEnd t s
  | .shotCycleEnd t => Sys2Proof.Machine.execShotCycleEnd t s
  | .referenceFail t which => Sys2Proof.Machine.execReferenceFail t which s
  | .referenceRecovery t a b => Sys2Proof.Machine.execReferenceRecovery t a b s
  | .islandStall t waiting silent => Sys2Proof.Machine.execIslandStall t waiting silent s
  | .comparatorReturn t c r => Sys2Proof.Machine.execComparatorReturn t c r s
  | .clampEngage t c => Sys2Proof.Machine.execClampEngage t c s
  | .clampRelease t c => Sys2Proof.Machine.execClampRelease t c s
  | .blankingEnd t c => Sys2Proof.Machine.execBlankingEnd t c s
  | .rxRecovery t c => Sys2Proof.Machine.execRxRecovery t c s
  | .xtkWindowClose t tile => Sys2Proof.Machine.execXtkWindowClose t tile s
  | .baselineUpdate t c nanoamp => Sys2Proof.Machine.execBaselineUpdate t c nanoamp s
  | .windowOpen t c shot coarse => Sys2Proof.Machine.execWindowOpen t c shot coarse s
  | .windowClose t c => Sys2Proof.Machine.execWindowClose t c s
  | .tileQueueDrain t tile => Sys2Proof.Machine.execTileQueueDrain t tile s
  | .tileUnlock t tile => Sys2Proof.Machine.execTileUnlock t tile s
  | .tileRelock t tile => Sys2Proof.Machine.execTileRelock t tile s
  | .samplerCaptureStart t tile => Sys2Proof.Machine.execSamplerCaptureStart t tile s
  | .samplerCaptureComplete t tile microvolts => Sys2Proof.Machine.execSamplerCaptureComplete t tile microvolts s
  | .perShotCalibration t c codes strobe => Sys2Proof.Machine.execPerShotCalibration t c codes strobe s
  | .ffbEdge t e edge cal => Sys2Proof.Machine.execFfbEdge t e edge cal s
  | .ffbMissing t e => Sys2Proof.Machine.execFfbMissing t e s
  | .stStart t u => Sys2Proof.Machine.execStStart t u s
  | .stStop t u => Sys2Proof.Machine.execStStop t u s
  | .shepherdSnapshot t => Sys2Proof.Machine.execShepherdSnapshot t s
  | .shotCycleStart t => Sys2Proof.Machine.execShotCycleStart t s
  | .shotCommit t => Sys2Proof.Machine.execShotCommit t s
  | .governorReleaseCheck t => Sys2Proof.Machine.execGovernorReleaseCheck t s
  | .externalStart t src => Sys2Proof.Machine.execExternalStart t src s
  | .tlCntClr t tile => Sys2Proof.Machine.execTlCntClr t tile s
  | .teCntClr t tile => Sys2Proof.Machine.execTeCntClr t tile s
  | .sqCntClr t => Sys2Proof.Machine.execSqCntClr t s
  | .footprintClearEnd t p => Sys2Proof.Machine.execFootprintClearEnd t p s
  | .shotDescriptorReceive t => Sys2Proof.Machine.execShotDescriptorReceive t s
  | .eventIntake t p => Sys2Proof.Machine.execEventIntake t p s
  | .coalesceEntry t k port => Sys2Proof.Machine.execCoalesceEntry t k port s
  | .bankRmw t bank => Sys2Proof.Machine.execBankRmw t bank s
  | .ageDrop t k port => Sys2Proof.Machine.execAgeDrop t k port s
  | .closeTokenArrival t p => Sys2Proof.Machine.execCloseTokenArrival t p s
  | .bufferRelease t p => Sys2Proof.Machine.execBufferRelease t p s
  | .tokenTimeout t p => Sys2Proof.Machine.execTokenTimeout t p s
  | .suspectEnd t => Sys2Proof.Machine.execSuspectEnd t s
  | .histogramDispatch t c => Sys2Proof.Machine.execHistogramDispatch t c s
  | .bufferClean t c => Sys2Proof.Machine.execBufferClean t c s
  | .recordWrite t c => Sys2Proof.Machine.execRecordWrite t c s
  | .markPlace t => Sys2Proof.Machine.execMarkPlace t s
  | .fdCntClr t => Sys2Proof.Machine.execFdCntClr t s
  | .exCntClr t => Sys2Proof.Machine.execExCntClr t s
  | .servoSample t a => Sys2Proof.Machine.execServoSample t a s
  | .handoverForced t a => Sys2Proof.Machine.execHandoverForced t a s
  | .trajectoryPeriodEnd t a => Sys2Proof.Machine.execTrajectoryPeriodEnd t a s
  | .acqTimeout t a => Sys2Proof.Machine.execAcqTimeout t a s
  | .servoSensorLost t a => Sys2Proof.Machine.execServoSensorLost t a s
  | .servoOsc t a => Sys2Proof.Machine.execServoOsc t a s
  | .svInjStart t a => Sys2Proof.Machine.execSvInjStart t a s
  | .svInjStop t a => Sys2Proof.Machine.execSvInjStop t a s
  | .injectionEnd t a => Sys2Proof.Machine.execInjectionEnd t a s
  | .svCntClr t => Sys2Proof.Machine.execSvCntClr t s
  | .converterOutput t p primary secondary => Sys2Proof.Machine.execConverterOutput t p primary secondary s
  | .modulatorOverload t p positive => Sys2Proof.Machine.execModulatorOverload t p positive s
  | .secondaryOverload t p => Sys2Proof.Machine.execSecondaryOverload t p s
  | .excitationSwitch t src => Sys2Proof.Machine.execExcitationSwitch t src s
  | .excitationBlankEnd t c => Sys2Proof.Machine.execExcitationBlankEnd t c s
  | .syncDecEdge t widthNs => Sys2Proof.Machine.execSyncDecEdge t widthNs s
  | .axSync t => Sys2Proof.Machine.execAxSync t s
  | .firWrite t p tap v => Sys2Proof.Machine.execFirWrite t p tap v s
  | .impedanceCheckStart t c => Sys2Proof.Machine.execImpedanceCheckStart t c s
  | .impedanceCheckEnd t c nanovolt => Sys2Proof.Machine.execImpedanceCheckEnd t c nanovolt s
  | .axCntClr t => Sys2Proof.Machine.execAxCntClr t s
  | .aqArm t b => Sys2Proof.Machine.execAqArm t b s
  | .aqAbort t b => Sys2Proof.Machine.execAqAbort t b s
  | .aqForce t units => Sys2Proof.Machine.execAqForce t units s
  | .triggerHoldEnd t u => Sys2Proof.Machine.execTriggerHoldEnd t u s
  | .aqRdDataRead t b => Sys2Proof.Machine.execAqRdDataRead t b s
  | .aqHistDataRead t b => Sys2Proof.Machine.execAqHistDataRead t b s
  | .aqCntClr t => Sys2Proof.Machine.execAqCntClr t s
  | .pwmPeriodEnd t c ilsMv => Sys2Proof.Machine.execPwmPeriodEnd t c ilsMv s
  | .lampMeasurement t c mv => Sys2Proof.Machine.execLampMeasurement t c mv s
  | .lampShortDetect t ils => Sys2Proof.Machine.execLampShortDetect t ils s
  | .ilRestart t c => Sys2Proof.Machine.execIlRestart t c s
  | .csyncEdge t n level widthNs => Sys2Proof.Machine.execCsyncEdge t n level widthNs s
  | .diagnosticPulse t c => Sys2Proof.Machine.execDiagnosticPulse t c s
  | .lampUnverified t c => Sys2Proof.Machine.execLampUnverified t c s
  | .lampTempLost t g => Sys2Proof.Machine.execLampTempLost t g s
  | .ilCntClr t => Sys2Proof.Machine.execIlCntClr t s
  | .laneEnergyDetect t l => Sys2Proof.Machine.execLaneEnergyDetect t l s
  | .laneClockLock t l ppm => Sys2Proof.Machine.execLaneClockLock t l ppm s
  | .laneAlign t l m1 m2 m3 => Sys2Proof.Machine.execLaneAlign t l m1 m2 m3 s
  | .trainingScore t l t0 => Sys2Proof.Machine.execTrainingScore t l t0 s
  | .laneRateSwitch t l => Sys2Proof.Machine.execLaneRateSwitch t l s
  | .deskewDone t l skew => Sys2Proof.Machine.execDeskewDone t l skew s
  | .trainingTimeout t l => Sys2Proof.Machine.execTrainingTimeout t l s
  | .retrain t l => Sys2Proof.Machine.execRetrain t l s
  | .laneDown t l => Sys2Proof.Machine.execLaneDown t l s
  | .markerReceive t l first marker line after cycles => Sys2Proof.Machine.execMarkerReceive t l first marker line after cycles s
  | .fillBlockReceive t l cycles => Sys2Proof.Machine.execFillBlockReceive t l cycles s
  | .fillBlockSend t l => Sys2Proof.Machine.execFillBlockSend t l s
  | .eidleRequest t l => Sys2Proof.Machine.execEidleRequest t l s
  | .eidleExit t l => Sys2Proof.Machine.execEidleExit t l s
  | .deepRequest t l => Sys2Proof.Machine.execDeepRequest t l s
  | .wakeDetect t l => Sys2Proof.Machine.execWakeDetect t l s
  | .quadRefSwitch t q otherGood => Sys2Proof.Machine.execQuadRefSwitch t q otherGood s
  | .baserLinkChange t l pcs corrected uncorrected => Sys2Proof.Machine.execBaserLinkChange t l pcs corrected uncorrected s
  | .lnCntClr t q => Sys2Proof.Machine.execLnCntClr t q s
  | .capsSend t l => Sys2Proof.Machine.execCapsSend t l s
  | .capsReceive t l => Sys2Proof.Machine.execCapsReceive t l s
  | .helloSend t l => Sys2Proof.Machine.execHelloSend t l s
  | .helloReceive t src => Sys2Proof.Machine.execHelloReceive t src s
  | .detach t ix => Sys2Proof.Machine.execDetach t ix s
  | .consistReceive t src => Sys2Proof.Machine.execConsistReceive t src s
  | .planAnnSend t => Sys2Proof.Machine.execPlanAnnSend t s
  | .planAnnReceive t src ann => Sys2Proof.Machine.execPlanAnnReceive t src ann s
  | .planActivation t => Sys2Proof.Machine.execPlanActivation t s
  | .planTimeout t => Sys2Proof.Machine.execPlanTimeout t s
  | .endshotReceive t l => Sys2Proof.Machine.execEndshotReceive t l s
  | .hevtReceive t l => Sys2Proof.Machine.execHevtReceive t l s
  | .headTimeRequest t h => Sys2Proof.Machine.execHeadTimeRequest t h s
  | .timeReplyReceive t l => Sys2Proof.Machine.execTimeReplyReceive t l s
  | .timeReplyTimeout t h => Sys2Proof.Machine.execTimeReplyTimeout t h s
  | .trigReceive t l => Sys2Proof.Machine.execTrigReceive t l s
  | .subExpired t ix => Sys2Proof.Machine.execSubExpired t ix s
  | .ptpSyncReceive t m origin => Sys2Proof.Machine.execPtpSyncReceive t m origin s
  | .ptpSyncTimeout t => Sys2Proof.Machine.execPtpSyncTimeout t s
  | .eventReport t => Sys2Proof.Machine.execEventReport t s
  | .eventMergeEnd t => Sys2Proof.Machine.execEventMergeEnd t s
  | .eventPacketSend t ix => Sys2Proof.Machine.execEventPacketSend t ix s
  | .eventPacketReceive t src => Sys2Proof.Machine.execEventPacketReceive t src s
  | .packetDiscard t src => Sys2Proof.Machine.execPacketDiscard t src s
  | .ptpAnnounceReceive t m ann => Sys2Proof.Machine.execPtpAnnounceReceive t m ann s
  | .ptpDelayRespReceive t m sent received => Sys2Proof.Machine.execPtpDelayRespReceive t m sent received s
  | .flCntClr t => Sys2Proof.Machine.execFlCntClr t s
  | .epTimeRead t => Sys2Proof.Machine.execEpTimeRead t s
  | .siRecordTake t ix => Sys2Proof.Machine.execSiRecordTake t ix s
  | .resultCrossCheck t => Sys2Proof.Machine.execResultCrossCheck t s
  | .frameMissingTimeout t ix => Sys2Proof.Machine.execFrameMissingTimeout t ix s
  | .heartbeatSend t ix => Sys2Proof.Machine.execHeartbeatSend t ix s
  | .heartbeatReceive t ix interval => Sys2Proof.Machine.execHeartbeatReceive t ix interval s
  | .heartbeatLoss t ix => Sys2Proof.Machine.execHeartbeatLoss t ix s
  | .selfTestCycle t ix ok => Sys2Proof.Machine.execSelfTestCycle t ix ok s
  | .siWatchdogExpiry t ix => Sys2Proof.Machine.execSiWatchdogExpiry t ix s
  | .regulatorFault t ix => Sys2Proof.Machine.execRegulatorFault t ix s
  | .sfCopyCrcCheck t ix upsets => Sys2Proof.Machine.execSfCopyCrcCheck t ix upsets s
  | .degExpired t n => Sys2Proof.Machine.execDegExpired t n s
  | .readbackFault t m n level => Sys2Proof.Machine.execReadbackFault t m n level s
  | .feedbackFault t n => Sys2Proof.Machine.execFeedbackFault t n s
  | .srstLevelChange t ix level => Sys2Proof.Machine.execSrstLevelChange t ix level s
  | .srstEdge t ix => Sys2Proof.Machine.execSrstEdge t ix s
  | .srstMismatch t => Sys2Proof.Machine.execSrstMismatch t s
  | .fslMessageReceive t src a b => Sys2Proof.Machine.execFslMessageReceive t src a b s
  | .fslSlotTimeout t k => Sys2Proof.Machine.execFslSlotTimeout t k s
  | .sfbLevelChange t n level => Sys2Proof.Machine.execSfbLevelChange t n level s
  | .pointsHoldExpiry t q => Sys2Proof.Machine.execPointsHoldExpiry t q s
  | .dmaStart t c => Sys2Proof.Machine.execDmaStart t c s
  | .dmaStop t c => Sys2Proof.Machine.execDmaStop t c s
  | .dmaReadGrant t => Sys2Proof.Machine.execDmaReadGrant t s
  | .dmCntClr t => Sys2Proof.Machine.execDmCntClr t s
  | .svcCommand t bytes => Sys2Proof.Machine.execSvcCommand t bytes s
  | .svcReplyRead t clocked => Sys2Proof.Machine.execSvcReplyRead t clocked s
  | .svcEventRead t clocked => Sys2Proof.Machine.execSvcEventRead t clocked s
  | .cmdPacketReceive t l => Sys2Proof.Machine.execCmdPacketReceive t l s
  | .udpCommandDatagram t l env ip port bytes => Sys2Proof.Machine.execUdpCommandDatagram t l env ip port bytes s
  | .ping t src => Sys2Proof.Machine.execPing t src s
  | .read t src => Sys2Proof.Machine.execRead t src s
  | .write t src => Sys2Proof.Machine.execWrite t src s
  | .writeBusyTimeout t src => Sys2Proof.Machine.execWriteBusyTimeout t src s
  | .writePosted t src => Sys2Proof.Machine.execWritePosted t src s
  | .pollBusy t src => Sys2Proof.Machine.execPollBusy t src s
  | .pollBusyTimeout t src => Sys2Proof.Machine.execPollBusyTimeout t src s
  | .swap t src => Sys2Proof.Machine.execSwap t src s
  | .commitRef t src => Sys2Proof.Machine.execCommitRef t src s
  | .copyActive t src => Sys2Proof.Machine.execCopyActive t src s
  | .framesStart t src => Sys2Proof.Machine.execFramesStart t src s
  | .framesStop t src => Sys2Proof.Machine.execFramesStop t src s
  | .decSync t src => Sys2Proof.Machine.execDecSync t src s
  | .subscribe t src => Sys2Proof.Machine.execSubscribe t src s
  | .unsubscribe t src => Sys2Proof.Machine.execUnsubscribe t src s
  | .challenge t src => Sys2Proof.Machine.execChallenge t src s
  | .respond t src => Sys2Proof.Machine.execRespond t src s
  | .password t src => Sys2Proof.Machine.execPassword t src s
  | .setPassword t src => Sys2Proof.Machine.execSetPassword t src s
  | .close t src => Sys2Proof.Machine.execClose t src s
  | .lockField t src => Sys2Proof.Machine.execLockField t src s
  | .fwStage t src programmed => Sys2Proof.Machine.execFwStage t src programmed s
  | .fwStageTimeout t src => Sys2Proof.Machine.execFwStageTimeout t src s
  | .fwConfirm t src => Sys2Proof.Machine.execFwConfirm t src s
  | .reboot t src => Sys2Proof.Machine.execReboot t src s
  | .rebootReset t boot => Sys2Proof.Machine.execRebootReset t boot s
  | .safeAck t src => Sys2Proof.Machine.execSafeAck t src s
  | .sessionExpiry t => Sys2Proof.Machine.execSessionExpiry t s
  | .nonceExpiry t => Sys2Proof.Machine.execNonceExpiry t s
  | .authWaitExpiry t => Sys2Proof.Machine.execAuthWaitExpiry t s
  | .jtagAccess t inside => Sys2Proof.Machine.execJtagAccess t inside s
  | .postedWriteAccept t bit => Sys2Proof.Machine.execPostedWriteAccept t bit s
  | .liveWriteApply t l => Sys2Proof.Machine.execLiveWriteApply t l s
  | .crcPassComplete t => Sys2Proof.Machine.execCrcPassComplete t s
  | .liveWindowExpiry t => Sys2Proof.Machine.execLiveWindowExpiry t s
  | .cmCntClr t => Sys2Proof.Machine.execCmCntClr t s
  | .cfCntClr t => Sys2Proof.Machine.execCfCntClr t s
  | .sysUptimeRead t => Sys2Proof.Machine.execSysUptimeRead t s
  | .powerOnReset t => Sys2Proof.Machine.execPowerOnReset t s
  | .powerOnRelease t => Sys2Proof.Machine.execPowerOnRelease t s
  | .railAboveWarning t r dip => Sys2Proof.Machine.execRailAboveWarning t r dip s
  | .supplyReset t r => Sys2Proof.Machine.execSupplyReset t r s
  | .dieRelease t hv boot => Sys2Proof.Machine.execDieRelease t hv boot s
  | .selfTestComplete t ok boot => Sys2Proof.Machine.execSelfTestComplete t ok boot s
  | .nodeRdyAssert t formats => Sys2Proof.Machine.execNodeRdyAssert t formats s
  | .braceEntry t r mv => Sys2Proof.Machine.execBraceEntry t r mv s
  | .braceEnd t => Sys2Proof.Machine.execBraceEnd t s
  | .rstNAssert t => Sys2Proof.Machine.execRstNAssert t s
  | .rstNRelease t boot => Sys2Proof.Machine.execRstNRelease t boot s
  | .mgmtWatchdogExpiry t boot => Sys2Proof.Machine.execMgmtWatchdogExpiry t boot s
  | .stageComplete t programmed => Sys2Proof.Machine.execStageComplete t programmed s
  | .fwTrialExpired t => Sys2Proof.Machine.execFwTrialExpired t s
  | .settingsSave t => Sys2Proof.Machine.execSettingsSave t s
  | .settingsSaved t => Sys2Proof.Machine.execSettingsSaved t s
  | .flashWriteResume t => Sys2Proof.Machine.execFlashWriteResume t s
  | .pwCntClr t => Sys2Proof.Machine.execPwCntClr t s
  | .diodeSample t r => Sys2Proof.Machine.execDiodeSample t r s
  | .throttleRise t d => Sys2Proof.Machine.execThrottleRise t d s
  | .throttleFall t d => Sys2Proof.Machine.execThrottleFall t d s
  | .sensorRecover t d => Sys2Proof.Machine.execSensorRecover t d s
  | .extSensorSilent t k => Sys2Proof.Machine.execExtSensorSilent t k s
  | .shutdownEnd t => Sys2Proof.Machine.execShutdownEnd t s
  | .fireRangeRelease t => Sys2Proof.Machine.execFireRangeRelease t s
  | .tileCalibration t tile => Sys2Proof.Machine.execTileCalibration t tile s
  | .converterCalSlot t p => Sys2Proof.Machine.execConverterCalSlot t p s
  | .calibrationResult t r => Sys2Proof.Machine.execCalibrationResult t r s
  | .calPeriodMissed t item place => Sys2Proof.Machine.execCalPeriodMissed t item place s
  | .calSettingsSave t => Sys2Proof.Machine.execCalSettingsSave t s
  | .thCntClr t => Sys2Proof.Machine.execThCntClr t s

end Sys2Proof.Machine
end

