-- ==== Sys2Proof/Machine/Pins.lean ====
section
/-!
DEFINITION. The pins as the device drives them (19_pins_package_electrical.md, R477, R479, R485), read off State.
-/

namespace Sys2Proof.Machine

/-- The rows of Table 19.3. -/
inductive PinGroup where
  | rx | laneTx | laneRx | fire | ffb | axo | aux | ill | sense | so | srst | serialOut | openDrain | flashSelect | serialIn
  deriving DecidableEq, Repr

/-- The entries of Table 19.3; `function` refers to the chapter of the group. -/
inductive PinState where
  | highZ | unterminated | clamped | biased | electricalIdle | terminated | bothLow | low | inhibit | input | pulledInput | weakPullUp
  | whenSelected | driven | pulledUp | function
  deriving DecidableEq, Repr

/-- What a group holds while the device is unpowered. -/
def PinGroup.unpowered : PinGroup → PinState
  | .laneTx | .laneRx => .unterminated
  | .fire | .axo => .bothLow
  | .ill | .so => .low
  | .srst => .pulledUp
  | .rx | .ffb | .aux | .sense | .serialOut | .openDrain | .flashSelect | .serialIn => .highZ

/-- What a group holds in reset, which covers power-on reset. -/
def PinGroup.inReset : PinGroup → PinState
  | .rx => .clamped
  | .laneTx | .laneRx => .unterminated
  | .fire => .inhibit
  | .axo => .bothLow
  | .ill | .so => .low
  | .ffb | .aux | .sense | .serialOut | .openDrain => .highZ
  | .srst => .input
  | .flashSelect => .weakPullUp
  | .serialIn => .pulledInput

/-- What a group holds from the release of the die until NODE_RDY_N is first asserted, recovery included. -/
def PinGroup.inBoot : PinGroup → PinState
  | .rx => .biased
  | .laneTx => .electricalIdle
  | .laneRx | .ffb => .terminated
  | .fire => .inhibit
  | .axo => .bothLow
  | .aux | .openDrain => .highZ
  | .ill | .so => .low
  | .sense | .srst => .input
  | .serialOut => .whenSelected
  | .flashSelect => .driven
  | .serialIn => .pulledInput

/-- What a group holds while the die runs. -/
def PinGroup.running : PinGroup → PinState
  | .rx | .laneTx | .fire | .axo | .aux | .ill | .so | .openDrain => .function
  | .laneRx | .ffb => .terminated
  | .sense | .srst => .input
  | .serialOut => .whenSelected
  | .flashSelect => .driven
  | .serialIn => .pulledInput

/-- The device is unpowered: in power-on reset with no rail above its warning level plus hysteresis (DEDUCED, unsafe, log 167). -/
def State.unpowered (s : State) : Bool := decide (s.phase = .powerOn) && monitored.all s.pw.gate.under.contains

/-- The state of a pin group (R477). -/
def State.pinState (s : State) (g : PinGroup) : PinState :=
  if s.unpowered then g.unpowered
  else match s.phase with
  | .powerOn | .inReset => g.inReset
  | .boot | .recovery => g.inBoot
  | .ready => g.running

/-- Whether the device pulls SVC_IRQ_N low (R400); it is high-impedance until the die runs (Table 19.3). -/
def State.svcIrqLow (s : State) : Bool := s.live && s.svcIrq

/-- The mean differential voltage of a running AXO pair as a fraction of VDD_IO1 (R479); none where both legs are low. -/
def State.axoMean (s : State) (a : Nat) : Option Rat :=
  if s.live then some ((s.axis a).uLatched / 524288) else none

/-- The transmitter swing of a lane in mV peak to peak (R485). -/
def State.txSwing (s : State) (l : Nat) : Nat := 400 + 50 * s.fu l (Reg.LN_TX_EQ_SWING l)

/-- PRE and POST of a lane in steps of 0.5 dB (R485): a sum above 24 shortens POST. -/
def State.txEq (s : State) (l : Nat) : Nat × Nat :=
  let pre := s.fu l (Reg.LN_TX_EQ_PRE l)
  (pre, min (s.fu l (Reg.LN_TX_EQ_POST l)) (24 - pre))

end Sys2Proof.Machine
end

