-- ==== Sys2Proof/Safety.lean ====
section
/-!
DEFINITION. What counts as safe: the terms in which claims about runs are stated.
-/

namespace Sys2Proof.Machine

/-- The die is held in reset: power-on reset, or another reset (R435, R436, R440). -/
def State.held (s : State) : Bool := decide (s.phase = .powerOn) || decide (s.phase = .inReset)

/-- What holds the die: RST_N low, or supplies not yet above their levels. -/
def Gate.holds (g : Gate) : Bool := g.rstLow || g.supplyLow

/-- The die stands in reset exactly while RST_N or a supply holds it, and no REBOOT is due then; in power-on reset it is a supply that
holds it; NODE_RDY_N is asserted only after the self-tests of the boot have passed (R405, R435, R436, R440, R449, R452). -/
def State.Gated (s : State) : Prop :=
  s.held = s.pw.gate.holds ∧ (s.phase = .powerOn → s.pw.gate.supplyLow = true ∧ s.pw.gate.rstLow = false)
    ∧ (s.held = true → s.pw.rebootAt = none) ∧ (s.phase = .ready → s.pw.gate.selfTest = true)

/-- Both members of a safety pair are low: the safe state (R23, R327). -/
def State.pairLow (s : State) (n : Nat) : Prop := s.soLevel 0 n = false ∧ s.soLevel 1 n = false

/-! ### What statements about commands say -/

/-- The command completes: exec answers a next state, and it satisfies `P`. -/
def Yields (c : Instr) (s : State) (P : State → Prop) : Prop := ∃ x, exec c s = .next x ∧ P x

/-- The parts of the state that frames name: the two configuration sets, the single-copy registers, the RSVD bits, the RO and W1C
fields with the notes of what has just arrived at them, the writes that wait, and one part per block; the fold memory and the SRAM stand apart from their blocks. -/
inductive Group where
  | sets | ones | rsvd | fields | waits | nodeOfs | freeCtr | tx
  | tiles | shepherd | fold | foldMem | extract | servo | converters | acquire | illum | lanes | link | events | safety
  | delivery | sram | command | config | power | thermal
  deriving DecidableEq, Repr

/-- A part of two states is equal. -/
def Group.same (s x : State) : Group → Prop
  | .sets => x.regs.setA = s.regs.setA ∧ x.regs.setB = s.regs.setB
  | .ones => x.regs.one = s.regs.one
  | .rsvd => x.regs.rsvd = s.regs.rsvd
  | .fields => x.regs.hw = s.regs.hw ∧ x.regs.recent = s.regs.recent
  | .waits => x.regs.waiting = s.regs.waiting ∧ x.regs.stale = s.regs.stale ∧ x.regs.posted = s.regs.posted
  | .nodeOfs => x.nodeOfs = s.nodeOfs
  | .freeCtr => x.freeCtr = s.freeCtr
  | .tx => x.tx = s.tx
  | .tiles => x.tl = s.tl
  | .shepherd => x.sq = s.sq
  | .fold => { x.fd with mem := {} } = { s.fd with mem := {} }
  | .foldMem => x.fd.mem = s.fd.mem
  | .extract => x.ex = s.ex
  | .servo => x.sv = s.sv
  | .converters => x.ax = s.ax
  | .acquire => x.aq = s.aq
  | .illum => x.il = s.il
  | .lanes => x.ln = s.ln
  | .link => x.fl = s.fl
  | .events => x.ev = s.ev
  | .safety => x.safe = s.safe
  | .delivery => { x.dm with sram := {} } = { s.dm with sram := {} }
  | .sram => x.dm.sram = s.dm.sram
  | .command => x.cm = s.cm
  | .config => x.cf = s.cf
  | .power => x.pw = s.pw
  | .thermal => x.th = s.th

/-- The frame of a command of a block at instant `t`: the queue of commands, the phase of the die and what holds it in reset stay, the
clock reaches `t`, and every part that is not in `l` is as it was. -/
def Frame (t : Nat) (l : List Group) (s x : State) : Prop :=
  x.pending = s.pending ∧ x.phase = s.phase ∧ x.pw.gate = s.pw.gate ∧ x.now = max s.now t ∧ ∀ g, g ∉ l → g.same s x

/-- Of the RO and W1C fields only those in `l` may have changed. -/
def OnlyFields (l : List Fld) (s x : State) : Prop := ∀ f : Fld, f.key ∉ l.map Fld.key → x.h f = s.h f

/-- A counter clear: each listed field reads what has arrived at it in the present island cycle, no other RO or W1C field and no other part
of the state changes. -/
def Clears (t : Nat) (l : List Fld) (s x : State) : Prop :=
  (∀ f ∈ l, x.h f = min ((s.clock t).recentCount f) f.top) ∧ OnlyFields l s x ∧ Frame t [.fields] s x

/-- The clock as a command at instant `t` finds it. -/
def State.at_ (s : State) (t : Nat) : Nat := max s.now t

/-- The oldest packet that the receiver of a lane's link holds whole (R299), with its stamp, and what follows it. -/
def State.holds (s : State) (l : Lane) (kind : Nat) (body : List Score) (stamp : Nat) (r : List RxPacket) : Prop :=
  (s.link (s.linkOf l).1).arrived = { kind := kind, body := body, ok := true, stamp := stamp } :: r

/-! ### What statements about commands of the command interface say -/

/-- A command `c` with an opcode is what a source's queue holds, and it may execute: no refusal comes first, a reply may be sent, and no
command of any source waits or is on its way (R379, R384, R390, R403). -/
def State.asks (s : State) (src : Source) (op : Nat) (c : Cmd) : Prop :=
  s.cmdsOf (s.keyOf src) = [c] ∧ c.opcode = op ∧ s.mayReply (s.keyOf src) = true ∧ s.refusedFirst c = none
    ∧ ∀ q ∈ s.cm.queues, ∀ d ∈ q.cmds, d.since = none ∧ d.posted = false

/-- A reply has left on the port of arrival (R381), or joined its link's stream, where the link takes it. -/
def State.replied (s x : State) (c : Cmd) (r : List Score) : Prop :=
  match c.port with
  | .svc => x.cm.replies = s.cm.replies ++ [r] ∧ x.tx = s.tx
  | .link l => x.cm.replies = s.cm.replies ∧ x.tx = s.tx ∧ x.link l = if (s.link l).takes 4 then (s.link l).push ⟨4, r⟩ else s.link l
  | .udp l ip port => x.cm.replies = s.cm.replies ∧ x.tx = s.tx ++ [.reply l ip port (s.ether l) (scoreOctets r)]

/-- The command at the head of a source's queue is gone, answered with a STATUS and results, cached (R404) and counted (R406). -/
def State.answered (s x : State) (src : Source) (c : Cmd) (a : Answer) : Prop :=
  x.cmdsOf (s.keyOf src) = [] ∧ s.replied x c (c.reply a) ∧ (x.cacheOf (s.keyOf src)).head? = some ⟨c.tag, c.scores, c.reply a, x.now⟩
    ∧ (if a.status = 0 then x.h (classCount c.cls) = min (s.h (classCount c.cls) + 1) (classCount c.cls).top
       else x.h Reg.CM_REFUSE_COUNT = min (s.h Reg.CM_REFUSE_COUNT + 1) Reg.CM_REFUSE_COUNT.top)

end Sys2Proof.Machine
end

