-- ==== Sys2Proof/Certificates/Slice0/Obligations.lean ====
section
/-!
DEFINITION. The statements for the provers. They come from the numbered rules of spec/; what rests on a choice of the model names the
log entry. Every command has a clause whose conclusion is that it answers a next state, under hypotheses on the state and its operands.
-/

section

open Sys2Proof Sys2Proof.Machine

/-- A step is the command at the front of the queue; with none waiting it answers the same state (model's choice, log entries 1 and 2). For
every command c, list r and state s, a step of s with c :: r waiting is exec of c on s with r waiting. A step of a state with no command
waiting answers that state, which is the model's own choice (log entries 1 and 2). (95_what_each_step_holds.md.) -/
def Obligations.StepRunsFront : Prop :=
  (∀ (c : Instr) (r : List Instr) (s : State), step { s with pending := c :: r } = exec c { s with pending := r })
    ∧ ∀ s : State, s.pending = [] → step s = .next s

/-- Every command answers a next state, keeps the queue, and the clock never runs back (model's choice, log entries 1 and 3). For every command
and every state, exec answers a next state whose queue of waiting commands is the old one and whose clock is not earlier. That an order of
commands is free and that a late command is taken at the present time is the model's choice (log entries 1 and 3).
(95_what_each_step_holds.md; 98_reader.md.) -/
def Obligations.EveryCommandCompletes : Prop :=
  ∀ (c : Instr) (s : State), Yields c s fun x => x.pending = s.pending ∧ s.now ≤ x.now

/-- A step from a state that meets State.Gated leads to one that meets it. For every state that meets State.Gated, if step answers a next state,
that state meets it too. State.Gated: the die is in a reset phase exactly while RST_N or a supply holds it; in power-on reset a supply holds
it and RST_N does not; no REBOOT is due while it is held in a reset phase; and it is ready only with the self-tests of the boot passed.
(15_command_interface.md (parts of R405); 17_power_reset_boot.md (parts of R435, R436, R440, R443, R449, R452).) -/
def Obligations.GatedKept : Prop :=
  ∀ s x : State, s.Gated → step s = .next x → x.Gated

/-- A step keeps the canonical form of the fold memory and of the SRAM (model's choice, log entries 6 and 7). For every state whose fold memory
and SRAM are in canonical form (keys strictly rising, no entry equal to 0, which an unlisted key reads as), if step answers a next state,
both are in canonical form in it. The form, and that an unlisted bin or byte reads as 0, are the model's choice (log entries 6 and 7).
(05_fold_engine.md (parts of R158, R159); 14_dma_and_delivery.md (parts of R370).) -/
def Obligations.MemoriesStayCanonical : Prop :=
  ∀ s x : State, s.fd.mem.wf 0 = true ∧ s.dm.sram.wf 0 = true → step s = .next x → x.fd.mem.wf 0 = true ∧ x.dm.sram.wf 0 = true

/-- What State.reset holds (in part the model's choice, log entries 5, 6, 7 and 9). In State.reset PART reads 0x5120 and STEP 2, the die boots
(log entry 5) and State.Gated holds; both sets and the single-copy registers read their Reset column at every address; no command waits,
nothing was sent and no report is in; the fold memory and the SRAM are in canonical form (log entries 6, 7, 9). (00_scope.md (parts of R1);
17_power_reset_boot.md (parts of R435, R443).) -/
def Obligations.ResetState : Prop :=
  State.reset.h Reg.SYS_ID_PART = 0x5120 ∧ State.reset.h Reg.SYS_ID_STEP = 2 ∧ State.reset.phase = .boot ∧ State.reset.Gated
    ∧ (∀ a, State.reset.act a = Reg.resetRw a ∧ State.reset.shadow a = Reg.resetRw a ∧ State.reset.oneReg a = Reg.resetRw a)
    ∧ State.reset.pending = [] ∧ State.reset.tx = [] ∧ State.reset.ev.inbox = []
    ∧ State.reset.fd.mem.wf 0 = true ∧ State.reset.dm.sram.wf 0 = true

/-- TL_CNT_CLR, TE_CNT_CLR, SQ_CNT_CLR, FD_CNT_CLR, EX_CNT_CLR, SV_CNT_CLR, AX_CNT_CLR, AQ_CNT_CLR and IL_CNT_CLR complete. While the die runs,
each of them leaves every counter that it lists with what has arrived at that counter in the present cycle of its island (0 where nothing
has), no more than the counter holds; every other RO and W1C field and every other part of the state is as it was. TL_CNT_CLR and TE_CNT_CLR
act on the tile they name. (02_return_front_end.md (parts of R83); 03_time_engine.md (parts of R109); 04_shepherd_sequencer.md (parts of
R139); 05_fold_engine.md (parts of R164); 06_echo_extraction.md (parts of R187); 07_scanner_servo.md (parts of R208);
08_sensor_converters.md (parts of R238); 09_acquisition_engine.md (parts of R257); 10_illuminators.md (parts of R271).) -/
def Obligations.CountersCleared : Prop :=
  (∀ t (k : Tile) (s : State), s.phase = .ready → Yields (.tlCntClr t k) s (Clears t ([Reg.TL_XTK_CNT_COUNT k, Reg.TL_GSW_SKIP_COUNT k]
      ++ (List.range 8).map fun i => Reg.TL_CH_OVR_CNT_COUNT (8 * k + i)) s))
    ∧ (∀ t (k : Tile) (s : State), s.phase = .ready → Yields (.teCntClr t k) s (Clears t [Reg.TE_ORDER_ERR_COUNT k, Reg.TE_OVF_CNT_COUNT k,
      Reg.TE_QDROP_CNT_COUNT k, Reg.TE_CAL_FAIL_CNT_COUNT k, Reg.TE_CAL_REUSE_CNT_COUNT k] s))
    ∧ (∀ t (s : State), s.phase = .ready → Yields (.sqCntClr t) s (Clears t ([Reg.SQ_ENTRY_ERR_COUNT, Reg.SQ_WIN_CLASH_COUNT,
      Reg.SQ_START_DROP_COUNT, Reg.SQ_SKIP_SERVO_COUNT, Reg.SQ_SCAN_DROP_COUNT] ++ (List.range 16).map Reg.SQ_GOV_SKIP_COUNT) s))
    ∧ (∀ t (s : State), s.phase = .ready → Yields (.fdCntClr t) s (Clears t ([Reg.FD_ORPHAN_COUNT, Reg.FD_DISC_CNT_COUNT, Reg.FD_PIX_ERR_COUNT,
      Reg.FD_LATE_COUNT, Reg.FD_HOLD_COUNT, Reg.FD_AGE_DROP_COUNT, Reg.FD_RELAYOUT_COUNT, Reg.FD_SAT_CNT_COUNT, Reg.FD_TOKEN_TMO_COUNT]
      ++ (List.range 16).flatMap fun k => [Reg.FD_CL_STALL_COUNT k, Reg.FD_CL_MERGE_COUNT k, Reg.FD_CL_PEAK_PEAK k]) s))
    ∧ (∀ t (s : State), s.phase = .ready → Yields (.exCntClr t) s (Clears t ([Reg.EX_HIST_CNT_COUNT, Reg.EX_ECHO_CNT_COUNT, Reg.EX_NONE_CNT_COUNT,
      Reg.EX_VEIL_CNT_COUNT, Reg.EX_FOREIGN_CNT_COUNT, Reg.EX_SAT_CNT_COUNT, Reg.EX_MORE_CNT_COUNT, Reg.EX_SAFE_DROP_COUNT]
      ++ (List.range 16).map Reg.EX_QDROP_COUNT ++ (List.range 8).flatMap fun c => [Reg.EX_CL_HIST_COUNT c, Reg.EX_CL_LAT_LAT c]) s))
    ∧ (∀ t (s : State), s.phase = .ready → Yields (.svCntClr t) s (Clears t ([0, 1, 2, 3].flatMap fun a =>
      [Reg.SV_HOLD_CNT_COUNT a, Reg.SV_ERR_CNT_COUNT a, Reg.SV_OSC_CNT_COUNT a, Reg.SV_FORCE_CNT_COUNT a]) s))
    ∧ (∀ t (s : State), s.phase = .ready → Yields (.axCntClr t) s (Clears t ((List.range 32).flatMap fun c =>
      [Reg.AX_OVR_CNT_COUNT c, Reg.AX_PLAUS_CNT_COUNT c, Reg.AX_UNSET_CNT_COUNT c]) s))
    ∧ (∀ t (s : State), s.phase = .ready → Yields (.aqCntClr t) s (Clears t ([0, 1, 2, 3].flatMap fun b =>
      [Reg.AQ_MISSED_COUNT b, Reg.AQ_BLOCK_SKIP_COUNT b]) s))
    ∧ ∀ t (s : State), s.phase = .ready → Yields (.ilCntClr t) s (Clears t ((List.range 24).map Reg.IL_CH_FLT_CNT_COUNT) s)

/-- LN_CNT_CLR, FL_CNT_CLR, DM_CNT_CLR, CM_CNT_CLR, CF_CNT_CLR, PW_CNT_CLR and TH_CNT_CLR complete. While the die runs (for LN_CNT_CLR with no
stop to be settled), each of them leaves every counter that it lists with what has arrived at that counter in the present cycle of its
island (0 where nothing has), no more than the counter holds; every other RO and W1C field and every other part of the state is as it was.
Beside that DM_CNT_CLR leaves each DM_Q_PEAK no lower than the queue's occupancy of the moment (model's choice, log entry 143), and
TH_CNT_CLR sets TH_TJ_MAX to 0x8_0000. LN_CNT_CLR acts on the lanes of the quad it names. (11_lanes_physical.md (parts of R296);
12_frezen_link_partners.md (parts of R326); 14_dma_and_delivery.md (parts of R378); 15_command_interface.md (parts of R406);
16_registers_configuration.md (parts of R433); 17_power_reset_boot.md (parts of R457); 18_thermal_calibration.md (parts of R474).) -/
def Obligations.CountersClearedToo : Prop :=
  (∀ t (q : Quad) (s : State), s.phase = .ready → s.sq.closeDue = false → Yields (.lnCntClr t q) s (Clears t
      ([4 * q.val, 4 * q.val + 1, 4 * q.val + 2, 4 * q.val + 3].flatMap fun l =>
        [Reg.LN_CV_CNT_COUNT l, Reg.LN_MK_ERR_COUNT l, Reg.LN_FILL_DEL_COUNT l, Reg.LN_FILL_REP_COUNT l, Reg.LN_DOWN_CNT_COUNT l,
          Reg.LN_STUFF_CNT_COUNT l, Reg.LN_FEC_CORR_COUNT l, Reg.LN_FEC_UNCORR_COUNT l, Reg.LN_RETRY_COUNT l]) s))
    ∧ (∀ t (s : State), s.phase = .ready → Yields (.flCntClr t) s (Clears t ([Reg.FL_PKT_ERR_COUNT, Reg.FL_PT_REFUSE_COUNT, Reg.FL_SUB_DROP_COUNT,
      Reg.FL_EVT_MERGED_COUNT, Reg.FL_EVT_SUPP_COUNT, Reg.EP_RX_DROP_COUNT, Reg.EP_PTP_STEP_COUNT] ++ (List.range 48).map Reg.FL_HEAD_DISC_COUNT) s))
    ∧ (∀ t (s : State), s.phase = .ready → Yields (.dmCntClr t) s fun x =>
      (∀ f ∈ (List.range 16).map Reg.DM_Q_DISC_COUNT ++ (List.range 32).map Reg.DM_CH_DONE_CNT_COUNT, x.h f = min ((s.clock t).recentCount f) f.top)
        ∧ (∀ q, q < 16 → x.h (Reg.DM_Q_PEAK_PEAK q)
            = min (max (min ((s.clock t).recentCount (Reg.DM_Q_PEAK_PEAK q)) (Reg.DM_Q_PEAK_PEAK q).top) (s.dmQueue q).units) (Reg.DM_Q_PEAK_PEAK q).top)
        ∧ OnlyFields ((List.range 16).flatMap (fun q => [Reg.DM_Q_DISC_COUNT q, Reg.DM_Q_PEAK_PEAK q]) ++ (List.range 32).map Reg.DM_CH_DONE_CNT_COUNT) s x
        ∧ Frame t [.fields] s x)
    ∧ (∀ t (s : State), s.phase = .ready → Yields (.cmCntClr t) s (Clears t [Reg.CM_CNT_MAINT_COUNT, Reg.CM_CNT_PEER_COUNT, Reg.CM_CNT_BACKBONE_COUNT,
      Reg.CM_CNT_HEAD_COUNT, Reg.CM_REFUSE_COUNT, Reg.CM_DENIED_COUNT, Reg.CM_REPLAY_COUNT, Reg.CM_FMT_ERR_COUNT, Reg.CM_OVERLOAD_COUNT] s))
    ∧ (∀ t (s : State), s.phase = .ready → Yields (.cfCntClr t) s (Clears t [Reg.CF_PASS_CNT_COUNT, Reg.CF_MISMATCH_CNT_COUNT, Reg.CF_SWAP_CNT_COUNT,
      Reg.CF_LIVE_DISC_COUNT, Reg.CF_LIVE_ERR_COUNT] s))
    ∧ (∀ t (s : State), s.phase = .ready → Yields (.pwCntClr t) s (Clears t [Reg.PW_BRACE_CNT_COUNT, Reg.PW_SUPPLY_CNT_COUNT, Reg.PW_PIN_CNT_COUNT,
      Reg.PW_DEFER_CNT_COUNT] s))
    ∧ ∀ t (s : State), s.phase = .ready → Yields (.thCntClr t) s fun x =>
        (∀ f ∈ [Reg.TH_STEP_CNT_COUNT, Reg.TH_SKIP_CNT_COUNT, Reg.TH_SENS_FAIL_COUNT, Reg.TH_FIRE_INH_CNT_COUNT, Reg.TH_SHUT_CNT_COUNT,
          Reg.TH_CAL_RUN_COUNT, Reg.TH_CAL_FAIL_COUNT, Reg.TH_CAL_LATE_COUNT], x.h f = min ((s.clock t).recentCount f) f.top)
          ∧ x.h Reg.TH_TJ_MAX_TJ = 0x80000
          ∧ OnlyFields [Reg.TH_STEP_CNT_COUNT, Reg.TH_SKIP_CNT_COUNT, Reg.TH_SENS_FAIL_COUNT, Reg.TH_FIRE_INH_CNT_COUNT, Reg.TH_SHUT_CNT_COUNT,
              Reg.TH_CAL_RUN_COUNT, Reg.TH_CAL_FAIL_COUNT, Reg.TH_CAL_LATE_COUNT, Reg.TH_TJ_MAX_TJ] s x
          ∧ Frame t [.fields] s x

/-- FRAME_BOUNDARY, SCAN_END and SHOT_CYCLE_END complete when they are due. While the die runs: a FRAME_BOUNDARY in the gap, at or after the
planned boundary, completes: the scan part runs, GAP is 0, the frame number is one more (of 20 bits), the frame starts at the planned
boundary, and the lanes, the illuminators, the SRAM, the queue of commands and what holds the die in reset are as they were. A SCAN_END in
the scan part, at or after the scan end, completes: the gap runs, GAP is 1 and PEND 0, no shot cycle runs and none is planned, and the frame
number, the illuminators, the lanes and the SRAM are as they were. A SHOT_CYCLE_END at or after the end of the running cycle completes: no
cycle runs; with a stop requested RUN is 0 and the request is gone; the frame number, scan part, illuminators, lanes and SRAM are as they
were. That a late command acts at the instant it is taken is the model's choice (log entries 3 and 13). The order of the steps of a frame
boundary and at a cycle end is the model’s reading (log entries 19, 20 and 31). (01_node_architecture.md (parts of R29, R31, R32, R33);
04_shepherd_sequencer.md (parts of R130).) -/
def Obligations.FramesRunAndScansEnd : Prop :=
  (∀ t (s : State), s.phase = .ready → s.sq.inScan = false → s.sq.nextBoundary ≤ max s.now t →
      Yields (.frameBoundary t) s fun x => x.sq.inScan = true ∧ x.h Reg.SQ_STAT_GAP = 0 ∧ x.sq.frameNo = (s.sq.frameNo + 1) % 2 ^ 20
        ∧ x.sq.frameStart = s.sq.nextBoundary ∧ x.ln = s.ln ∧ x.il = s.il ∧ x.dm.sram = s.dm.sram ∧ x.pending = s.pending ∧ x.pw.gate = s.pw.gate)
    ∧ (∀ t (s : State), s.phase = .ready → s.sq.inScan = true → s.sq.scanEndAt ≤ max s.now t →
      Yields (.scanEnd t) s fun x => x.sq.inScan = false ∧ x.h Reg.SQ_STAT_GAP = 1 ∧ x.h Reg.SQ_STAT_PEND = 0 ∧ x.sq.cyc = none
        ∧ x.sq.upcoming = none ∧ x.sq.frameNo = s.sq.frameNo ∧ x.il = s.il ∧ x.ln = s.ln ∧ x.dm.sram = s.dm.sram)
    ∧ ∀ t (s : State) (y : Cycle), s.phase = .ready → s.sq.cyc = some y → y.startAt + 100 * y.len ≤ max s.now t →
      Yields (.shotCycleEnd t) s fun x => x.sq.cyc = none ∧ (s.sq.stopReq = true → x.h Reg.SQ_STAT_RUN = 0 ∧ x.sq.stopReq = false)
        ∧ x.sq.frameNo = s.sq.frameNo ∧ x.sq.inScan = s.sq.inScan ∧ x.il = s.il ∧ x.ln = s.ln ∧ x.dm.sram = s.dm.sram

/-- REFERENCE_FAIL, REFERENCE_RECOVERY and ISLAND_STALL complete. While the die runs: where the reference in use fails and both have not failed
before, with the other within its limits EP_STAT.REF_NOW names the other, a REF_SWITCH report is made and the histograms are suspect until 1
ms later (counted from the switch, the model's reading, log entry 36); with the other outside, REF_LOST is reported, references are lost and
every pair is in INHIBIT; where the other reference fails nothing changes but what is known of it. After the loss of both, a reference that
has lain within its limits for 10 ms is taken: the earlier one, or of two at the same instant that of EP_CFG.REFSEL (log entry 16). An
ISLAND_STALL that is not yet recorded records the pair of islands and reports it, and where one of them belongs to the main path the path
fault is recorded; a second one for the same pair changes nothing (the model's choice, log entry 18). The numbers of the islands are free
values (log entry 17). (01_node_architecture.md (parts of R25, R27); 13_safety_functions.md (parts of R338).) -/
def Obligations.ReferencesAndIslandsFail : Prop :=
  (∀ t (b : Bool) (s : State), s.phase = .ready → s.h Reg.EP_STAT_REF_NOW = (if b then 1 else 0) → s.sq.refLost = false →
      s.refOk (if b then 0 else 1) = true → Yields (.referenceFail t b) s fun x =>
        x.h Reg.EP_STAT_REF_NOW = (if b then 0 else 1) ∧ x.fd.suspectUntil = some (max s.now t + lsbMs)
          ∧ (∃ r, x.ev.inbox = s.ev.inbox ++ [r] ∧ r.code = Ev.refSwitch.code) ∧ Frame t [.fields, .events, .shepherd, .fold, .extract, .command] s x)
    ∧ (∀ t (b : Bool) (s : State), s.phase = .ready → s.h Reg.EP_STAT_REF_NOW = (if b then 1 else 0) → s.sq.refLost = false →
      s.refOk (if b then 0 else 1) = false → Yields (.referenceFail t b) s fun x => x.sq.refLost = true ∧ x.sq.refTaken = false
        ∧ (∃ r, r ∈ x.ev.inbox ∧ r.code = Ev.refLost.code) ∧ ∀ e, x.inhibited e = true)
    ∧ (∀ t (b : Bool) (s : State), s.phase = .ready → s.h Reg.EP_STAT_REF_NOW ≠ (if b then 1 else 0) → Yields (.referenceFail t b) s fun x =>
        x.refOk (if b then 1 else 0) = false ∧ x.refOk (if b then 0 else 1) = s.refOk (if b then 0 else 1) ∧ Frame t [.shepherd] s x)
    ∧ (∀ t (a b : Option Nat) (n : Nat) (s : State), s.phase = .ready → s.sq.refLost = true → s.sq.refTaken = false →
      refToTake a b (s.f Reg.EP_CFG_REFSEL) = some n → Yields (.referenceRecovery t a b) s fun x => x.sq.refTaken = true
        ∧ x.h Reg.EP_STAT_REF_NOW = min 1 n ∧ Frame t [.fields, .shepherd, .fold, .lanes] s x)
    ∧ (∀ t (w q : ClockIsland) (s : State), s.phase = .ready → s.safe.stalls.contains (w.ix, q.ix) = false →
      Yields (.islandStall t w q) s fun x => (w.ix, q.ix) ∈ x.safe.stalls ∧ (∃ r, r ∈ x.ev.inbox ∧ r.code = Ev.islandStall.code)
        ∧ (w.mainPath || q.mainPath → x.safe.pathFault = true))
    ∧ ∀ t (w q : ClockIsland) (s : State), s.phase = .ready → s.safe.stalls.contains (w.ix, q.ix) = true →
      Yields (.islandStall t w q) s fun x => Frame t [] s x

/-- COMPARATOR_RETURN completes: a return whose output crossed LT only is formed from its calibrated LT edges. For a channel with an open window
in which no return has fallen yet, not blinded, a locked tile without a clamp in it, a calibration in use, no walk correction (WALK 0) and a
shot whose emission reference is still to come: a return with one LT rise and one LT fall at least 400 ps (52 LSB) later and no HT pulse
waits for its shot's start reference with the calibrated leading edge less the channel's offset, the amplitude class of its LT time over
threshold, the range in use and the flag that HT is absent; nothing but the tiles' state changes. That a formed return waits for its shot's
reference and is stamped then, and that the filter of R63 acts on the pulses the command brings, is the model's reading (log entries 23 and
22). What an edge brings is log entry 21. (02_return_front_end.md (parts of R63, R64, R66); 03_time_engine.md (parts of R89, R97, R98).) -/
def Obligations.ReturnTakesEdges : Prop :=
  ∀ t (c : Chan) (a b : Edge) (cal : CalSet) (x0 : TeShot) (s : State), s.phase = .ready →
    (s.chan c).winOpen = true → (s.chan c).blind = false → (s.chan c).recovFail = false → (s.chan c).lastFall = none →
    (s.tile (c / 8)).clamps = [] → s.tileLock (c / 8) = true → (s.chan c).calUsed = some cal →
    s.h (Reg.TE_CH_STAT_FAIL c) = 0 → s.h (Reg.TE_TILE_STAT_SKEW (c / 8)) = 0 → s.f (Reg.TE_CH_CFG_WALK c) = 0 →
    s.teShot (s.chan c).shot = some x0 → x0.ffb = none → a.instant + 52 ≤ b.instant →
    Yields (.comparatorReturn t c ⟨[⟨some a, some b⟩], []⟩) s fun x =>
      x.tl.raw = s.tl.raw ++ [{
        chan := c, shot := (s.chan c).shot
        lead := tileWrap (edgeAbs cal.ltRise a - 0 - s.teVal (Reg.TE_CH_OFS c) true)
        tag := totBand (tileWrap (edgeAbs cal.ltFall b - edgeAbs cal.ltRise a)).toNat 1 * 2 ^ 16 + s.gainNow c * 2 ^ 14 + 2 ^ 8 + (s.chan c).shot % 32
        readyAt := b.instant + 512 }]
      ∧ Frame t [.tiles] s x

/-- CLAMP_ENGAGE, CLAMP_RELEASE, BLANKING_END, RX_RECOVERY and XTK_WINDOW_CLOSE complete. While the die runs: CLAMP_ENGAGE engages the channel's
clamp and opens the tile's crosstalk window, counted if it was closed. CLAMP_RELEASE releases the channel's engaged clamp: the channel is
blanked from then on. BLANKING_END ends the blanking of each of the channel's released clamps. RX_RECOVERY, 1 µs or more after the release
of a clamp whose blanking lasts, does the same, sets RECOV_FAIL and reports RX_RECOVERY with the channel. XTK_WINDOW_CLOSE, 12 ns after
every clamp of the tile has been released, closes the crosstalk window. Nothing but the parts of the state that each clause names changes.
(02_return_front_end.md (parts of R67, R68, R69, R70, R71).) -/
def Obligations.ClampAndBlanking : Prop :=
  (∀ t (c : Chan) (s : State), s.phase = .ready → Yields (.clampEngage t c) s fun x =>
      x.clampOn c = true ∧ (x.tile (c / 8)).xtkOpen = true
        ∧ (x.h (Reg.TL_XTK_CNT_COUNT (c / 8)) = if (s.tile (c / 8)).xtkOpen then s.h (Reg.TL_XTK_CNT_COUNT (c / 8))
          else min (s.h (Reg.TL_XTK_CNT_COUNT (c / 8)) + 1) (Reg.TL_XTK_CNT_COUNT (c / 8)).top)
        ∧ (∀ d, x.chan d = s.chan d) ∧ OnlyFields [Reg.TL_XTK_CNT_COUNT (c / 8)] s x ∧ Frame t [.fields, .tiles] s x)
    ∧ (∀ t (c : Chan) (s : State), s.phase = .ready → (∃ l, l ∈ s.ownClamps c ∧ l.released = none ∧ l.ended = none) →
      Yields (.clampRelease t c) s fun x => x.clampOn c = false ∧ x.blankedAt c (max s.now t) = true ∧ (∀ d, x.chan d = s.chan d) ∧ Frame t [.tiles] s x)
    ∧ (∀ t (c : Chan) (s : State), s.phase = .ready → Yields (.blankingEnd t c) s fun x =>
      (∀ l ∈ x.ownClamps c, l.released.isSome = true → l.ended.isSome = true) ∧ x.clampOn c = s.clampOn c ∧ (∀ d, x.chan d = s.chan d)
        ∧ Frame t [.tiles] s x)
    ∧ (∀ t (c : Chan) (s : State), s.phase = .ready → (s.clock t).blankingLong c = true → Yields (.rxRecovery t c) s fun x =>
      (∀ l ∈ x.ownClamps c, l.released.isSome = true → l.ended.isSome = true) ∧ (x.chan c).recovFail = true ∧ x.h (Reg.TL_CH_STAT_RECOV_FAIL c) = 1
        ∧ (∃ r, x.ev.inbox = s.ev.inbox ++ [r] ∧ r.code = Ev.rxRecovery.code ∧ r.e10 = c.val) ∧ OnlyFields [Reg.TL_CH_STAT_RECOV_FAIL c] s x
        ∧ Frame t [.fields, .tiles, .events] s x)
    ∧ ∀ t (k : Tile) (s : State), s.phase = .ready →
      (∀ l ∈ (s.tile k).clamps, ∃ r, l.released = some r ∧ r + 1536 ≤ max s.now t) →
      Yields (.xtkWindowClose t k) s fun x => (x.tile k).xtkOpen = false ∧ (∀ c, x.chan c = s.chan c) ∧ Frame t [.tiles] s x

/-- BASELINE_UPDATE, WINDOW_OPEN and WINDOW_CLOSE complete. While the die runs: BASELINE_UPDATE of an enabled and powered channel with BL_EN 1,
no open window and no freeze, whose tile is not being calibrated (log entry 165), sets TL_CH_BASE.DC to the current, limited to 20, 100 or
500 µA by the range in use, and DC_LIMIT at the limit. WINDOW_OPEN for a window of a fired shot that is due on a channel with none open
opens it for that shot, with its planned instants, and freezes the baseline loop; a calibration of the tile is over (R469). WINDOW_CLOSE of
an open window at or after its end closes it and ends the freeze, and with the tile in lock places the shot's close token last in the
channel queue. Nothing but the parts of the state that each clause names changes. (02_return_front_end.md (parts of R50, R51, R52, R65,
R81); 03_time_engine.md (parts of R102); 04_shepherd_sequencer.md (parts of R126).) -/
def Obligations.BaselineAndWindows : Prop :=
  (∀ t (c : Chan) (n : Nat) (s : State), s.phase = .ready → s.chanOn c = true → s.fu c (Reg.TL_CH_CFG_BL_EN c) = 1 →
      (s.chan c).winOpen = false → (s.chan c).frozen = false → (s.clock t).calibrating (c / 8) = false → Yields (.baselineUpdate t c n) s fun x =>
        x.h (Reg.TL_CH_BASE_DC c) = min (min n (dcLimit (s.gainNow c))) (Reg.TL_CH_BASE_DC c).top
          ∧ (n ≥ dcLimit (s.gainNow c) → x.h (Reg.TL_CH_STAT_DC_LIMIT c) = 1)
          ∧ OnlyFields [Reg.TL_CH_BASE_DC c, Reg.TL_CH_STAT_DC_LIMIT c] s x ∧ Frame t [.fields, .tiles, .events] s x)
    ∧ (∀ t (c : Chan) (shot coarse : Nat) (w : ShotWin) (s : State), s.phase = .ready → (s.clock t).dueWindow c shot = some w → (s.chan c).winOpen = false →
      Yields (.windowOpen t c shot coarse) s fun x =>
        (x.chan c).winOpen = true ∧ (x.chan c).openAt = w.from_ ∧ (x.chan c).closeAt = w.to_ ∧ (x.chan c).shot = w.seq ∧ (x.chan c).frozen = true
          ∧ (x.chan c).queue = (s.chan c).queue ∧ (∀ d, d ≠ c.val → x.chan d = s.chan d) ∧ Frame t [.fields, .tiles, .fold, .thermal] s x)
    ∧ ∀ t (c : Chan) (s : State), s.phase = .ready → (s.chan c).winOpen = true → (s.chan c).closeAt ≤ max s.now t → Yields (.windowClose t c) s fun x =>
      (x.chan c).winOpen = false ∧ (x.chan c).frozen = false
        ∧ (x.chan c).queue = (if s.tileLock (c / 8) then (s.chan c).queue ++ [.token (s.chan c).shot] else (s.chan c).queue)
        ∧ (∀ d, d ≠ c.val → x.chan d = s.chan d) ∧ Frame t [.tiles, .shepherd] s x

/-- TILE_QUEUE_DRAIN, SHOT_DESCRIPTOR_RECEIVE and CLOSE_TOKEN_ARRIVAL complete. While the die runs, where the tile is not being calibrated (log
entry 165) and its channel in turn holds first an entry that is complete, or a close token with the tile in lock, TILE_QUEUE_DRAIN takes it
from the queue, appends it to the fold intake, and gives the turn to the next channel. SHOT_DESCRIPTOR_RECEIVE with Fold enabled, for a
descriptor whose cycle has begun (log entry 128) and fewer than 1,024 shots known, takes the oldest descriptor and knows its shot from then
on, with its dither, group and cycle; the fold memory, Shepherd and the tiles stay. CLOSE_TOKEN_ARRIVAL of a token of a shot that was
counted into the pixel's interval in progress takes the token from the intake and removes that shot from those whose token the interval
awaits, at the instant of the last token. Of the state each clause names what may change. (02_return_front_end.md (parts of R81);
03_time_engine.md (parts of R102); 05_fold_engine.md (parts of R140, R142, R151, R154).) -/
def Obligations.ItemsShotsAndTokensReachFold : Prop :=
  (∀ t (k : Tile) (shot r : Nat) (a b : Score) (q : List QItem) (s : State), s.phase = .ready → (s.tile k).rr < 8 → (s.clock t).calibrating k = false →
      (s.chan (8 * k.val + (s.tile k).rr)).queue = .entry shot a b r :: q → r ≤ max s.now t → Yields (.tileQueueDrain t k) s fun x =>
        x.fd = { s.fd with intake := s.fd.intake ++ [.analog (8 * k.val + (s.tile k).rr) shot a b] } ∧ (x.chan (8 * k.val + (s.tile k).rr)).queue = q
          ∧ (x.tile k).rr = ((s.tile k).rr + 1) % 8 ∧ Frame t [.tiles, .fold] s x)
    ∧ (∀ t (k : Tile) (shot : Nat) (q : List QItem) (s : State), s.phase = .ready → (s.tile k).rr < 8 → (s.clock t).calibrating k = false → s.tileLock k = true →
      (s.chan (8 * k.val + (s.tile k).rr)).queue = .token shot :: q → Yields (.tileQueueDrain t k) s fun x =>
        x.fd = { s.fd with intake := s.fd.intake ++ [.token (8 * k.val + (s.tile k).rr) shot] } ∧ (x.chan (8 * k.val + (s.tile k).rr)).queue = q
          ∧ (x.tile k).rr = ((s.tile k).rr + 1) % 8 ∧ Frame t [.tiles, .fold] s x)
    ∧ (∀ t (d : ShotDesc) (r : List ShotDesc) (s : State), s.phase = .ready → s.fd.inbound = d :: r → s.early d = false → s.f Reg.FD_CFG_EN = 1 →
      s.fd.shots.length < 1024 → Yields (.shotDescriptorReceive t) s fun x => x.fd.inbound = r
        ∧ (∃ parts, x.fd.shots = s.fd.shots ++ [(⟨d.seq, d.dither, d.group, d.cycle, parts⟩ : FdShot)])
        ∧ x.fd.mem = s.fd.mem ∧ x.sq = s.sq ∧ x.tl = s.tl)
    ∧ ∀ t (p : Pixel) (q shot k : Nat) (r : List Intake) (d : FdShot) (s : State), s.phase = .ready →
      takeIntake p s.fd.intake = some (.token q shot, r) → s.fd.shots.reverse.find? (fun z => decide (z.seq = shot)) = some d →
      d.parts.find? (fun z => match z with | .counted a _ _ => decide (a = p.val) | .disabled _ => false) = some (.counted p (s.fdPix p).cur.gen k) →
      Yields (.closeTokenArrival t p) s fun x => (x.fdPix p).cur.tokens = (s.fdPix p).cur.tokens.filter (· ≠ shot)
        ∧ (x.fdPix p).cur.lastToken = max s.now t ∧ x.fd.intake = r ∧ (∀ z, z ≠ p.val → x.fdPix z = s.fdPix z) ∧ Frame t [.fold] s x

/-- TILE_UNLOCK, TILE_RELOCK, SAMPLER_CAPTURE_START and SAMPLER_CAPTURE_COMPLETE complete. While the die runs: TILE_UNLOCK sets LOCK 0 and
UNLOCK_SEEN 1, reports TILE_UNLOCK with the tile, and its eight channels take no further edges in windows that are open. TILE_RELOCK sets
LOCK 1, and the eight channels wait for their next calibration. SAMPLER_CAPTURE_START with MODE 2 (FORCE) of an armed sampler that can
capture begins the capture now on the selected channel, and the sampler is no longer armed. SAMPLER_CAPTURE_COMPLETE of a running capture,
with no register write waiting and no acquisition buffer on the sampler, ends it, keeps its first 2,048 samples as scores with the marks of
their instants, and sets WS_FULL. (02_return_front_end.md (parts of R74, R76, R77, R78, R81).) -/
def Obligations.TileLockAndSampler : Prop :=
  (∀ t (k : Tile) (s : State), s.phase = .ready → Yields (.tileUnlock t k) s fun x =>
      x.h (Reg.TL_TILE_STAT_LOCK k) = 0 ∧ x.h (Reg.TL_TILE_STAT_UNLOCK_SEEN k) = 1 ∧ (∀ i, i < 8 → (x.chan (8 * k.val + i)).blind = true)
        ∧ (∃ r, x.ev.inbox = s.ev.inbox ++ [r] ∧ r.code = Ev.tileUnlock.code ∧ r.e10 = k.val) ∧ Frame t [.fields, .tiles, .events, .safety] s x)
    ∧ (∀ t (k : Tile) (s : State), s.phase = .ready → Yields (.tileRelock t k) s fun x =>
      x.h (Reg.TL_TILE_STAT_LOCK k) = 1 ∧ (∀ i, i < 8 → (x.chan (8 * k.val + i)).awaitCal = true) ∧ OnlyFields [Reg.TL_TILE_STAT_LOCK k] s x
        ∧ Frame t [.fields, .tiles, .fold] s x)
    ∧ (∀ t (k : Tile) (s : State), s.phase = .ready → s.f (Reg.TL_WS_CFG_MODE k) = 2 → (s.tile k).wsArmed = true → s.samplerOn k = true →
      Yields (.samplerCaptureStart t k) s fun x => (x.tile k).wsBusy = true ∧ (x.tile k).wsArmed = false ∧ (x.tile k).wsStart = max s.now t
        ∧ (x.tile k).wsChan = s.samplerChan k ∧ x.h (Reg.TL_TILE_STAT_WS_ARMED k) = 0 ∧ OnlyFields [Reg.TL_TILE_STAT_WS_ARMED k] s x
        ∧ Frame t [.fields, .tiles] s x)
    ∧ ∀ t (k : Tile) (l : List Int) (s : State), s.phase = .ready → (s.tile k).wsBusy = true → s.regs.waiting = [] → s.regs.stale = [] →
      s.aqUsers 0 k = [] → Yields (.samplerCaptureComplete t k l) s fun x => (x.tile k).wsBusy = false
        ∧ (x.tile k).wsSamples = s.sampleScores k 0 (l.take 2048) ∧ x.h (Reg.TL_TILE_STAT_WS_FULL k) = 1

/-- PER_SHOT_CALIBRATION, FFB_EDGE and FFB_MISSING complete. While the die runs, for a channel with its window closed and no window of it coming
or none closed before: PER_SHOT_CALIBRATION with four valid interpolators makes the set the one in use, ends a wait after relock and the run
of bad ones; with an invalid one it counts the failure in TE_CAL_FAIL_CNT, begins the run of good ones anew, and uses the last valid set, if
any. While a shot of the emitter awaits its FFB edge: an FFB_EDGE from the FIRE instant to TMO coarse periods later becomes the shot's
emission reference without FBS; FFB_MISSING from then on makes the placement plus the nominal delay its reference, with FBS, and is
reported; no return waits for that shot's reference any longer. The codes that come with an FFB edge are used unchecked (the model's choice,
log entry 120); that a return waits for its shot's reference is the model's reading (log entry 23), and the pulses that such a return was
formed from were filtered as the command brought them (log entry 22). What an edge brings, and which calibration is shown, are log entries
21 and 24. (03_time_engine.md (parts of R88, R90, R91, R93, R94, R97).) -/
def Obligations.ShotTimesAreReferred : Prop :=
  (∀ t (c : Chan) (k : CalSet) (s : State), s.phase = .ready → (s.chan c).winOpen = false →
      s.sq.windows.find? (fun w => decide (w.pixel = c.val)) = none ∨ (s.chan c).lastClose = none → k.valid = true →
      Yields (.perShotCalibration t c k none) s fun x => (x.chan c).calUsed = some k ∧ (x.chan c).cal = some k ∧ (x.chan c).awaitCal = false
        ∧ (x.chan c).calBad = 0 ∧ (∀ d, d ≠ c.val → x.chan d = s.chan d) ∧ Frame t [.fields, .tiles] s x)
    ∧ (∀ t (c : Chan) (k : CalSet) (s : State), s.phase = .ready → (s.chan c).winOpen = false →
      s.sq.windows.find? (fun w => decide (w.pixel = c.val)) = none ∨ (s.chan c).lastClose = none → k.valid = false →
      Yields (.perShotCalibration t c k none) s fun x => (x.chan c).calUsed = (s.chan c).cal ∧ (x.chan c).calGood = 0
        ∧ x.h (Reg.TE_CAL_FAIL_CNT_COUNT (c / 8)) = min (s.h (Reg.TE_CAL_FAIL_CNT_COUNT (c / 8)) + 1) (Reg.TE_CAL_FAIL_CNT_COUNT (c / 8)).top
        ∧ (∀ d, d ≠ c.val → x.chan d = s.chan d) ∧ Frame t [.fields, .tiles, .events, .safety] s x)
    ∧ (∀ t (e : Emitter) (ed : Edge) (k : CalCodes) (y : TeShot) (s : State), s.phase = .ready → s.awaitingFfb e = some y → y.placedAt ≤ ed.instant →
      ed.instant ≤ y.placedAt + 100 * s.ffbTmo → Yields (.ffbEdge t e ed k) s fun x =>
        x.tl.shots = s.tl.shots.map (fun z => if z.seq = y.seq then { y with ffb := some (edgeAbs k ed), fbs := false } else z)
          ∧ x.tl.raw = s.tl.raw.filter (fun r => r.shot ≠ y.seq) ∧ Frame t [.fields, .tiles, .events] s x)
    ∧ ∀ t (e : Emitter) (y : TeShot) (s : State), s.phase = .ready → s.awaitingFfb e = some y → y.placedAt + 100 * s.ffbTmo ≤ max s.now t →
      Yields (.ffbMissing t e) s fun x =>
        x.tl.shots = s.tl.shots.map (fun z => if z.seq = y.seq then { y with ffb := some (y.place + s.f (Reg.TE_FFB_NOM_NOM e)), fbs := true } else z)
          ∧ x.tl.raw = s.tl.raw.filter (fun r => r.shot ≠ y.seq) ∧ (∃ r, r ∈ x.ev.inbox ∧ r.code = Ev.ffbMissing.code ∧ r.e10 = e.val)
          ∧ Frame t [.fields, .tiles, .events] s x

/-- ST_START and ST_STOP complete: START and STOP of a statistics unit. TE_ST_N.N in use is at most 65,535. While the die runs: START of an idle
unit with N below 2 sets CFG_ERR and does not start it; START of a busy unit is ignored and sets START_IGN; START of an idle unit with N of
at least 2 and a STOP_SEL that is not reserved makes it BUSY with its results cleared and no interval accepted; STOP of a busy unit ends the
run at once and sets PARTIAL: with at least 2 accepted intervals the five results are those of the intervals accepted, by the formulas of
R107, and DONE is set too (the model's reading, log entry 26); with fewer no other field changes (log entry 26). ST_START and ST_STOP stand
for the bits as they take effect, START at a shot-cycle end (the model's choice, log entry 122). (03_time_engine.md (parts of R107, R108).) -/
def Obligations.StatisticsRuns : Prop :=
  (∀ (u : StUnit) (s : State), s.fst (Reg.TE_ST_N_N u) ≤ 65535)
    ∧ (∀ t (u : StUnit) (s : State), s.phase = .ready → s.h (Reg.TE_ST_STAT_BUSY u) = 0 → s.fst (Reg.TE_ST_N_N u) < 2 →
      Yields (.stStart t u) s fun x => x.h (Reg.TE_ST_STAT_CFG_ERR u) = 1 ∧ x.h (Reg.TE_ST_STAT_BUSY u) = 0
        ∧ OnlyFields [Reg.TE_ST_STAT_CFG_ERR u] s x ∧ Frame t [.fields] s x)
    ∧ (∀ t (u : StUnit) (s : State), s.phase = .ready → s.h (Reg.TE_ST_STAT_BUSY u) = 1 →
      Yields (.stStart t u) s fun x => x.h (Reg.TE_ST_STAT_START_IGN u) = 1 ∧ x.stRun u = s.stRun u
        ∧ OnlyFields [Reg.TE_ST_STAT_START_IGN u] s x ∧ Frame t [.fields] s x)
    ∧ (∀ t (u : StUnit) (s : State), s.phase = .ready → s.h (Reg.TE_ST_STAT_BUSY u) = 0 → 2 ≤ s.fst (Reg.TE_ST_N_N u) →
      s.fst (Reg.TE_ST_CFG_STOP_SEL u) ≤ 2 → Yields (.stStart t u) s fun x =>
        x.h (Reg.TE_ST_STAT_BUSY u) = 1 ∧ x.stRun u = {} ∧ (∀ f ∈ [Reg.TE_ST_STAT_DONE u, Reg.TE_ST_STAT_PARTIAL u, Reg.TE_ST_MEAN_MEAN u,
          Reg.TE_ST_MEANF_FRAC u, Reg.TE_ST_SD_SD u, Reg.TE_ST_MIN_VALUE u, Reg.TE_ST_MAX_VALUE u, Reg.TE_ST_IGN_COUNT u], x.h f = 0)
        ∧ Frame t [.fields, .tiles] s x)
    ∧ (∀ t (u : StUnit) (s : State), s.phase = .ready → s.h (Reg.TE_ST_STAT_BUSY u) = 1 → 2 ≤ (s.stRun u).n → Yields (.stStop t u) s fun x =>
        x.h (Reg.TE_ST_STAT_BUSY u) = 0 ∧ x.h (Reg.TE_ST_STAT_PARTIAL u) = 1 ∧ x.h (Reg.TE_ST_STAT_DONE u) = 1
          ∧ x.h (Reg.TE_ST_MEAN_MEAN u) = min ((s.stRun u).sum / (s.stRun u).n) (Reg.TE_ST_MEAN_MEAN u).top
          ∧ ((2 * 16 * ((s.stRun u).sum % (s.stRun u).n) + (s.stRun u).n) / (2 * (s.stRun u).n) ≤ 15 → x.h (Reg.TE_ST_MEANF_FRAC u)
            = (2 * 16 * ((s.stRun u).sum % (s.stRun u).n) + (s.stRun u).n) / (2 * (s.stRun u).n))
          ∧ x.h (Reg.TE_ST_SD_SD u) = min ((isqrt (1024 * ((s.stRun u).n * (s.stRun u).sumsq - (s.stRun u).sum * (s.stRun u).sum)
            / ((s.stRun u).n * ((s.stRun u).n - 1))) + 1) / 2) (Reg.TE_ST_SD_SD u).top
          ∧ x.h (Reg.TE_ST_MIN_VALUE u) = min (s.stRun u).lo (Reg.TE_ST_MIN_VALUE u).top
          ∧ x.h (Reg.TE_ST_MAX_VALUE u) = min (s.stRun u).hi (Reg.TE_ST_MAX_VALUE u).top ∧ Frame t [.fields] s x)
    ∧ ∀ t (u : StUnit) (s : State), s.phase = .ready → s.h (Reg.TE_ST_STAT_BUSY u) = 1 → (s.stRun u).n < 2 → Yields (.stStop t u) s fun x =>
        x.h (Reg.TE_ST_STAT_BUSY u) = 0 ∧ x.h (Reg.TE_ST_STAT_PARTIAL u) = 1
          ∧ OnlyFields [Reg.TE_ST_STAT_BUSY u, Reg.TE_ST_STAT_PARTIAL u] s x ∧ Frame t [.fields] s x

/-- SHEPHERD_SNAPSHOT and SHOT_CYCLE_START complete. While the die runs: a SHEPHERD_SNAPSHOT that comes in the last 64 coarse periods of the
running cycle, or later, with none taken for the next one yet and no register write waiting, takes the SQ_ block of the active set as the
copy of the next cycle; where that copy has back-to-back starts and the running cycle ends before SCAN_END, the next cycle is planned for
that end, with the next number and from its first entry; the running cycle, Fold and the tiles stay. A SHOT_CYCLE_START in the scan part,
before its end, with no cycle running, no stop in force and one planned whose start has come, starts that cycle: it runs, none is planned,
it is the last one counted, and the copy taken for it governs. (04_shepherd_sequencer.md (parts of R110, R131, R132).) -/
def Obligations.ShepherdCyclesRun : Prop :=
  (∀ t (y : Cycle) (s : State), s.phase = .ready → s.regs.waiting = [] → s.sq.cyc = some y → y.startAt + 100 * y.len ≤ max s.now t + 6400 →
      s.sq.nextCopy = none → Yields (.shepherdSnapshot t) s fun x =>
        x.sq.nextCopy = some ⟨(if s.activeB then s.regs.setB else s.regs.setA).cells.filter fun c => decide (c.1 / 65536 = 4)⟩
          ∧ x.sq.cyc = some y ∧ x.fd = s.fd ∧ x.tl = s.tl ∧ x.sq.copy = s.sq.copy
          ∧ (x.backToBack = true → y.startAt + 100 * y.len < s.sq.scanEndAt →
            ∃ z, x.sq.upcoming = some z ∧ z.startAt = y.startAt + 100 * y.len ∧ z.no = y.no + 1 ∧ z.next = 0))
    ∧ ∀ t (y : Cycle) (s : State), s.phase = .ready → s.sq.halted = false → s.sq.inScan = true → s.sq.cyc = none →
      max s.now t < s.sq.scanEndAt → s.sq.upcoming = some y → y.startAt ≤ max s.now t → Yields (.shotCycleStart t) s fun x =>
        x.sq.cyc = some y ∧ x.sq.upcoming = none ∧ x.sq.cycles = y.no ∧ x.sq.copy = s.sq.nextCopy.getD s.sq.copy ∧ x.sq.nextCopy = none
          ∧ Frame t [.fields, .shepherd, .events] s x

/-- SHOT_COMMIT completes: a reached entry steps its emitter's dither register, fires where nothing stands against it, and never against a 100
µs budget of 0. While the die and a cycle run and an enabled entry of it is next. Where that entry is valid, SHOT_COMMIT steps the dither
register of its emitter once, counts the emitter as reached and passes on to the next entry, fired or not; the frame number, servo, lanes
and thermal state stay. Where in addition its window fits the scan part, the cycle is not throttled, firing is started and no inhibit, lost
reference, bank, servo gate or governor stands against it, it fires: the sequence number counts on (20 bits), a descriptor with it, the
emitter, its dither, its group and the cycle goes to Fold, and the emitter's pulse begins at the slot plus the dither and lasts PW coarse
periods (0 acting as 1). With a 100 µs budget of 0 nothing is fired: the sequence number, Fold, the tiles and what has left the device stay.
Which of several reasons counts a shot, and the instant of the ledgers, are the model’s choice (log entries 147 and 148); banks of a wrong
class are log entry 104. (04_shepherd_sequencer.md (parts of R116, R120, R121, R125, R128, R129).) -/
def Obligations.ShotsAreCommitted : Prop :=
  (∀ t (y : Cycle) (n : Nat) (s : State), s.phase = .ready → s.sq.cyc = some y → nextEnabled s.sqReg s.entries y.next = some n →
      entryValid s.sqReg s.entries s.cycLen n = true → Yields (.shotCommit t) s fun x =>
        x.sq.lfsr = s.sq.lfsr.set (shotEntry s.sqReg n).emit (lfsrStep (s.sq.lfsr.getD (shotEntry s.sqReg n).emit 0))
          ∧ Tab.get x.sq.reached 0 (shotEntry s.sqReg n).emit = Tab.get s.sq.reached 0 (shotEntry s.sqReg n).emit + 1
          ∧ x.sq.cyc = some { y with next := n + 1 } ∧ x.sq.frameNo = s.sq.frameNo ∧ x.sv = s.sv ∧ x.ln = s.ln ∧ x.th = s.th)
    ∧ (∀ t (y : Cycle) (n : Nat) (s : State), s.phase = .ready → s.sq.cyc = some y → nextEnabled s.sqReg s.entries y.next = some n →
      entryValid s.sqReg s.entries s.cycLen n = true → y.throttled = false → s.firing = true → s.th.fireInh = false →
      s.h Reg.TH_STAT_SHUTDOWN = 0 → s.sq.refLost = false → s.fireBankBad = false → s.gateShut = false →
      y.startAt + 100 * ((shotEntry s.sqReg n).slot + winOfs s.sqReg (shotEntry s.sqReg n).win + winLen s.sqReg (shotEntry s.sqReg n).win) ≤ s.sq.scanEndAt →
      s.govRefuses (shotEntry s.sqReg n).emit (y.startAt + 100 * (shotEntry s.sqReg n).slot) = none →
      Yields (.shotCommit t) s fun x => x.h Reg.SQ_SEQ_SEQ = (s.h Reg.SQ_SEQ_SEQ + 1) % 2 ^ 20
        ∧ Tab.get x.sq.pulses (0, 0) (shotEntry s.sqReg n).emit
          = (y.startAt + 100 * (shotEntry s.sqReg n).slot
              + ditherOf (lfsrStep (s.sq.lfsr.getD (shotEntry s.sqReg n).emit 0)) (shotEntry s.sqReg n).dspan,
            y.startAt + 100 * (shotEntry s.sqReg n).slot
              + ditherOf (lfsrStep (s.sq.lfsr.getD (shotEntry s.sqReg n).emit 0)) (shotEntry s.sqReg n).dspan
              + 100 * max 1 (s.fq (Reg.SQ_EMIT_CFG_PW (shotEntry s.sqReg n).emit)))
        ∧ ∃ d, x.fd.inbound = s.fd.inbound ++ [d] ∧ d.seq = (s.h Reg.SQ_SEQ_SEQ + 1) % 2 ^ 20 ∧ d.emitter = (shotEntry s.sqReg n).emit
          ∧ d.dither = ditherOf (lfsrStep (s.sq.lfsr.getD (shotEntry s.sqReg n).emit 0)) (shotEntry s.sqReg n).dspan
          ∧ d.group = (shotEntry s.sqReg n).group ∧ d.cycle = y.no)
    ∧ ∀ t (y : Cycle) (n : Nat) (s : State), s.phase = .ready → s.sq.cyc = some y → nextEnabled s.sqReg s.entries y.next = some n →
      s.fq (Reg.SQ_GOV_B100_B (shotEntry s.sqReg n).emit) = 0 → Yields (.shotCommit t) s fun x =>
        x.h Reg.SQ_SEQ_SEQ = s.h Reg.SQ_SEQ_SEQ ∧ x.fd = s.fd ∧ x.tl = s.tl ∧ x.tx = s.tx

/-- GOVERNOR_RELEASE_CHECK and EXTERNAL_START complete. While the die runs: GOVERNOR_RELEASE_CHECK keeps inhibited exactly the refused emitters
that would still be refused, and changes nothing else. With START_SRC 1, an EXTERNAL_START of the source that EXT_SEL selects (not the
trigger unit) is dropped and counted in SQ_START_DROP in the gap; while a cycle runs in a scan part that no stop has ended, with none
pending, it is marked PEND; with no cycle running or planned it plans the next cycle for 3,200 LSB (25 ns) later, where that is before
SCAN_END. An EXTERNAL_START of the trigger unit acts so where a firing of the last 50 ns (6,400 LSB; the model's reading, log entry 55) has
not been registered yet, and uses up the oldest one; without one it only forgets older firings. Held and passed-over starts are log entries
31 and 127. (04_shepherd_sequencer.md (parts of R128, R131, R132); 09_acquisition_engine.md (parts of R249).) -/
def Obligations.GovernorAndExternalStarts : Prop :=
  (∀ t (s : State), s.phase = .ready → Yields (.governorReleaseCheck t) s fun x =>
      (∀ e, e ∈ x.sq.govInh ↔ e ∈ s.sq.govInh ∧ (s.govRefuses e (max s.now t)).isSome = true) ∧ x.sq = { s.sq with govInh := x.sq.govInh }
        ∧ Frame t [.shepherd] s x)
    ∧ (∀ t (src : ExtSource) (s : State), s.phase = .ready → src ≠ .triggerUnit → s.fq Reg.SQ_CFG_START_SRC = 1 →
      s.fq Reg.SQ_CFG_EXT_SEL = src.sel → s.sq.inScan = false → Yields (.externalStart t src) s fun x =>
        x.h Reg.SQ_START_DROP_COUNT = min (s.h Reg.SQ_START_DROP_COUNT + 1) Reg.SQ_START_DROP_COUNT.top
          ∧ OnlyFields [Reg.SQ_START_DROP_COUNT] s x ∧ Frame t [.fields] s x)
    ∧ (∀ t (src : ExtSource) (s : State), s.phase = .ready → src ≠ .triggerUnit → s.sq.halted = false → s.fq Reg.SQ_CFG_START_SRC = 1 →
      s.fq Reg.SQ_CFG_EXT_SEL = src.sel → s.sq.inScan = true → s.sq.cyc.isSome = true → s.h Reg.SQ_STAT_PEND = 0 →
      Yields (.externalStart t src) s fun x => x.h Reg.SQ_STAT_PEND = 1 ∧ x.sq.cyc = s.sq.cyc ∧ OnlyFields [Reg.SQ_STAT_PEND] s x
        ∧ Frame t [.fields, .shepherd] s x)
    ∧ (∀ t (src : ExtSource) (s : State), s.phase = .ready → src ≠ .triggerUnit → s.sq.halted = false → s.fq Reg.SQ_CFG_START_SRC = 1 →
      s.fq Reg.SQ_CFG_EXT_SEL = src.sel → s.sq.inScan = true → s.sq.cyc = none → s.sq.upcoming = none → max s.now t + 3200 < s.sq.scanEndAt →
      Yields (.externalStart t src) s fun x => ∃ z, x.sq.upcoming = some z ∧ z.startAt = max s.now t + 3200 ∧ z.no = s.sq.cycles + 1)
    ∧ (∀ t (a : Nat) (r : List Nat) (s : State), s.phase = .ready → (s.aq.toShepherd.filter fun x => decide (max s.now t ≤ x + 6400)) = a :: r →
      s.sq.halted = false → s.fq Reg.SQ_CFG_START_SRC = 1 → s.fq Reg.SQ_CFG_EXT_SEL = ExtSource.triggerUnit.sel → s.sq.inScan = true →
      s.sq.cyc.isSome = true → s.h Reg.SQ_STAT_PEND = 0 → Yields (.externalStart t .triggerUnit) s fun x =>
        x.h Reg.SQ_STAT_PEND = 1 ∧ x.sq.cyc = s.sq.cyc ∧ x.aq = { s.aq with toShepherd := r } ∧ OnlyFields [Reg.SQ_STAT_PEND] s x
          ∧ Frame t [.fields, .shepherd, .acquire] s x)
    ∧ (∀ t (a : Nat) (r : List Nat) (s : State), s.phase = .ready → (s.aq.toShepherd.filter fun x => decide (max s.now t ≤ x + 6400)) = a :: r →
      s.sq.halted = false → s.fq Reg.SQ_CFG_START_SRC = 1 → s.fq Reg.SQ_CFG_EXT_SEL = ExtSource.triggerUnit.sel → s.sq.inScan = true →
      s.sq.cyc = none → s.sq.upcoming = none → max s.now t + 3200 < s.sq.scanEndAt → Yields (.externalStart t .triggerUnit) s fun x =>
        ∃ z, x.sq.upcoming = some z ∧ z.startAt = max s.now t + 3200 ∧ z.no = s.sq.cycles + 1)
    ∧ ∀ t (s : State), s.phase = .ready → (s.aq.toShepherd.filter fun x => decide (max s.now t ≤ x + 6400)) = [] →
      Yields (.externalStart t .triggerUnit) s fun x => x.aq = { s.aq with toShepherd := [] } ∧ Frame t [.acquire] s x

/-- EVENT_INTAKE completes: an event whose shot was counted into a released buffer is discarded and counted in FD_LATE (R155). While the die
runs with Fold enabled, if the oldest item of a pixel in flight is an event (of an analog channel without ORDER or OVF, which R144 discards
first, or of a head) of a shot that Fold counted for the pixel into an interval that is neither in progress nor closed and unreleased,
EVENT_INTAKE takes the item, counts FD_LATE, and changes no other field, no bin, no request and no interval. (05_fold_engine.md R155.) -/
def Obligations.LateEventsDiscarded : Prop :=
  (∀ t (p : Pixel) (q shot gen k : Nat) (stamp tag : Score) (r : List Intake) (d : FdShot) (s : State), s.phase = .ready → s.f Reg.FD_CFG_EN = 1 →
      takeIntake p s.fd.intake = some (.analog q shot stamp tag, r) → tagBit tag 10 = false → tagBit tag 9 = false →
      s.fd.shots.reverse.find? (fun z => decide (z.seq = shot)) = some d →
      d.parts.find? (fun z => match z with | .counted a _ _ => decide (a = p.val) | .disabled a => decide (a = p.val)) = some (.counted p gen k) →
      (s.fdPix p).has gen = false → Yields (.eventIntake t p) s fun x =>
        x.h Reg.FD_LATE_COUNT = min (s.h Reg.FD_LATE_COUNT + 1) Reg.FD_LATE_COUNT.top ∧ x.fd = { s.fd with intake := r }
          ∧ OnlyFields [Reg.FD_LATE_COUNT] s x ∧ Frame t [.fields, .fold] s x)
    ∧ ∀ t (p : Pixel) (q shot gen k : Nat) (stamp : Score) (hs hl : Bool) (r : List Intake) (d : FdShot) (s : State), s.phase = .ready →
      s.f Reg.FD_CFG_EN = 1 → takeIntake p s.fd.intake = some (.head q shot stamp hs hl, r) →
      s.fd.shots.reverse.find? (fun z => decide (z.seq = shot)) = some d →
      d.parts.find? (fun z => match z with | .counted a _ _ => decide (a = p.val) | .disabled a => decide (a = p.val)) = some (.counted p gen k) →
      (s.fdPix p).has gen = false → Yields (.eventIntake t p) s fun x =>
        x.h Reg.FD_LATE_COUNT = min (s.h Reg.FD_LATE_COUNT + 1) Reg.FD_LATE_COUNT.top ∧ x.fd = { s.fd with intake := r }
          ∧ OnlyFields [Reg.FD_LATE_COUNT] s x ∧ Frame t [.fields, .fold] s x

/-- EVENT_INTAKE completes: an event of a counted shot whose bin lies in the window requests an increment of that bin. While the die runs with
Fold enabled, for a pixel without TRACE: an event of an analog channel without ORDER or OVF of a shot counted into the pixel's interval in
progress, whose stamp less dither falls in a bin of the window, asks a port of the bin's cluster for an increment at the address of that bin
in the interval's buffer, at this instant (which port is a free value, log entry 34); the item leaves the intake, and nothing outside Fold
and no bin of the memory changes. (05_fold_engine.md (parts of R145, R148, R160).) -/
def Obligations.EventsBecomeRequests : Prop :=
  ∀ t (p : Pixel) (q shot k b : Nat) (stamp tag : Score) (r : List Intake) (d : FdShot) (s : State), s.phase = .ready → s.f Reg.FD_CFG_EN = 1 →
    takeIntake p s.fd.intake = some (.analog q shot stamp tag, r) → tagBit tag 10 = false → tagBit tag 9 = false →
    s.fd.shots.reverse.find? (fun z => decide (z.seq = shot)) = some d →
    d.parts.find? (fun z => match z with | .counted a _ _ => decide (a = p.val) | .disabled a => decide (a = p.val))
      = some (.counted p (s.fdPix p).cur.gen k) →
    binOf (s.fdPix p).cur.desc stamp.toNat d.dither = .bin b → descTrace (s.fdPix p).cur.desc = false →
    Yields (.eventIntake t p) s fun x =>
      (∃ port : Fin 16, Tab.get x.fd.ports [] (16 * clusterOf (bufStart (s.fdPix p).cur.desc (s.fdPix p).cur.buf + b) + port.val)
          = Tab.get s.fd.ports [] (16 * clusterOf (bufStart (s.fdPix p).cur.desc (s.fdPix p).cur.buf + b) + port.val)
            ++ [(⟨bufStart (s.fdPix p).cur.desc (s.fdPix p).cur.buf + b, p, (s.fdPix p).cur.gen, max s.now t⟩ : Req)])
        ∧ x.fd.intake = r ∧ Frame t [.fold] s x

/-- BANK_RMW and FOOTPRINT_CLEAR_END complete: one bin is added to, one footprint is zeroed, no other bin changes. While the die runs: BANK_RMW
with an entry waiting, where the bank has not yet read and written a bin in this cycle of Fold's clock, adds its count to the entry's bin,
limited to 1,048,575, frees the entry and leaves every other bin and every other bank's entries; FOOTPRINT_CLEAR_END of a pixel being
cleared sets every bin of its footprint to 0, leaves every other bin and every other pixel, and the pixel is no longer being cleared.
(05_fold_engine.md (parts of R148, R150, R159, R161).) -/
def Obligations.FoldMemoryWrites : Prop :=
  (∀ t (b : Fin 1024) (e : Coal) (q : List Coal) (s : State), s.phase = .ready → Tab.get s.fd.coal [] b = e :: q →
      (s.clock t).fdMay (bankMem b) 1 = true → Yields (.bankRmw t b) s fun x =>
      x.bin e.addr = min 1048575 (s.bin e.addr + e.count) ∧ (∀ a, a ≠ e.addr → x.bin a = s.bin a) ∧ Tab.get x.fd.coal [] b = q
        ∧ (∀ c, c ≠ b.val → Tab.get x.fd.coal [] c = Tab.get s.fd.coal [] c) ∧ Frame t [.fold, .foldMem] s x)
    ∧ ∀ t (p : Pixel) (s : State), s.phase = .ready → (s.fdPix p).clearing = true → s.fd.mem.wf 0 = true → Yields (.footprintClearEnd t p) s fun x =>
      (∀ a, footStart (s.fdPix p).desc ≤ a → a < footStart (s.fdPix p).desc + footLen (s.fdPix p).desc → x.bin a = 0)
        ∧ (∀ a, a < footStart (s.fdPix p).desc ∨ footStart (s.fdPix p).desc + footLen (s.fdPix p).desc ≤ a → x.bin a = s.bin a)
        ∧ (x.fdPix p).clearing = false ∧ (∀ z, z ≠ p.val → x.fdPix z = s.fdPix z) ∧ Frame t [.fold, .foldMem] s x

/-- COALESCE_ENTRY and AGE_DROP complete: the oldest request of a port takes an entry of its bank; one that waited 1.8 µs is dropped. While the
die runs with a request oldest at a port: COALESCE_ENTRY with fewer than 16 entries and none of that address in the bank's buffer, where in
this cycle of Fold's clock the port has passed none and the bank has taken fewer than four, takes a new entry of count 1; AGE_DROP of a
request that has waited 1.8 µs (230,400 LSB) discards it, counts FD_AGE_DROP, sets DROP_SEEN and changes no other field. No bin changes. At
most one stall a cycle, and the first request’s pixel where two merge, are the model’s reading (log entries 35 and 149). (05_fold_engine.md
(parts of R161, R162, R163).) -/
def Obligations.RequestsCoalesceOrDrop : Prop :=
  (∀ t (k : FoldCluster) (port : Fin 16) (r : Req) (l : List Req) (s : State), s.phase = .ready → Tab.get s.fd.ports [] (16 * k.val + port.val) = r :: l →
      (Tab.get s.fd.coal [] (bankOf r.addr)).any (fun e => decide (e.addr = r.addr)) = false → (Tab.get s.fd.coal [] (bankOf r.addr)).length < 16 →
      (s.clock t).fdMay (portPlace k port) 1 = true → (s.clock t).fdMay (bankIn (bankOf r.addr)) 4 = true →
      Yields (.coalesceEntry t k port) s fun x => Tab.get x.fd.ports [] (16 * k.val + port.val) = l
        ∧ Tab.get x.fd.coal [] (bankOf r.addr) = Tab.get s.fd.coal [] (bankOf r.addr) ++ [{ addr := r.addr, count := 1, pixel := r.pixel, gen := r.gen }]
        ∧ Frame t [.fields, .fold] s x)
    ∧ ∀ t (k : FoldCluster) (port : Fin 16) (r : Req) (l : List Req) (s : State), s.phase = .ready → Tab.get s.fd.ports [] (16 * k.val + port.val) = r :: l →
      r.arrived + 230400 ≤ max s.now t → Yields (.ageDrop t k port) s fun x => Tab.get x.fd.ports [] (16 * k.val + port.val) = l
        ∧ x.h Reg.FD_AGE_DROP_COUNT = min (s.h Reg.FD_AGE_DROP_COUNT + 1) Reg.FD_AGE_DROP_COUNT.top ∧ x.h Reg.FD_STAT_DROP_SEEN = 1
        ∧ OnlyFields [Reg.FD_AGE_DROP_COUNT, Reg.FD_STAT_DROP_SEEN] s x ∧ Frame t [.fields, .fold] s x

/-- BUFFER_RELEASE, TOKEN_TIMEOUT and SUSPECT_END complete. While the die runs: BUFFER_RELEASE, with a closed interval of the pixel that has
every token in and whose end and last token lie 2 µs back, gives the first such interval to extraction with its header, and the pixel keeps
none of its number. TOKEN_TIMEOUT, with one that misses a token 40 µs after its end, gives the first such to extraction with LOSS, counts
FD_TOKEN_TMO and sets TOKEN_TMO_SEEN. SUSPECT_END at its instant ends the marking of a reference switch. Of the state each clause names what
may change. When the suspect millisecond ends is log entry 36. (01_node_architecture.md (parts of R27); 05_fold_engine.md (parts of R154,
R156, R157).) -/
def Obligations.BuffersAreReleased : Prop :=
  (∀ t (p : Pixel) (iv : Interval) (s : State), s.phase = .ready → (s.fdPix p).closed.find? (fun i => i.ripe (max s.now t)) = some iv →
      Yields (.bufferRelease t p) s fun x =>
        x.ex.released = s.ex.released ++ [{ pixel := p, iv := iv, header := header p iv, at_ := max s.now t }]
          ∧ (∀ j ∈ (x.fdPix p).closed, j.gen ≠ iv.gen) ∧ Frame t [.fields, .fold, .extract] s x)
    ∧ (∀ t (p : Pixel) (iv : Interval) (s : State), s.phase = .ready → (s.fdPix p).closed.find? (fun i => i.overdue (max s.now t)) = some iv →
      Yields (.tokenTimeout t p) s fun x =>
        x.ex.released = s.ex.released ++ [{ pixel := p, iv := { iv with loss := true }, header := header p { iv with loss := true }, at_ := max s.now t }]
          ∧ (∀ j ∈ (x.fdPix p).closed, j.gen ≠ iv.gen)
          ∧ x.h Reg.FD_TOKEN_TMO_COUNT = min (s.h Reg.FD_TOKEN_TMO_COUNT + 1) Reg.FD_TOKEN_TMO_COUNT.top
          ∧ x.h Reg.FD_STAT_TOKEN_TMO_SEEN = 1 ∧ Frame t [.fields, .fold, .extract] s x)
    ∧ ∀ t (u : Nat) (s : State), s.phase = .ready → s.fd.suspectUntil = some u → u ≤ max s.now t → Yields (.suspectEnd t) s fun x =>
        x.fd = { s.fd with refSwitching := false, suspectUntil := none } ∧ Frame t [.fold] s x

/-- HISTOGRAM_DISPATCH, BUFFER_CLEAN, RECORD_WRITE and MARK_PLACE complete. While the die runs: HISTOGRAM_DISPATCH to a cluster that scans
nothing and has at most 40 unwritten echoes takes the oldest released histogram (here one without TRACE) with its bins as they stood; the
fold memory then reads 0 in that buffer and as before everywhere else; Shepherd, the tiles and the DMA block stay. That all of it is read
and zeroed at the dispatch, where R166 clears cell by cell, is the model's reading (log entry 37). BUFFER_CLEAN of the histogram that the
cluster scans takes its buffer out of the pixel's buffers not yet read, and the cluster scans nothing; the fold memory, the DMA block and
Shepherd stay. The latency is rounded up (log entry 38). While the die runs: RECORD_WRITE takes from the cluster the first histogram that
has been scanned and that no earlier one of its pixel holds back, and EX_HIST_CNT counts on (20 bits); Fold, Shepherd, the tiles and what
holds the die in reset stay, and with EX_CFG.EN at 0 it is only counted (EX_HIST_CNT and EX_CL_HIST of the cluster): nothing is delivered to
the DMA block or the safety islands. MARK_PLACE of a frame with no histogram on its way shows the frame in EX_FRAME, ends the wait for the
MARK and clears the frame's counts of placed and dropped records and its SUSPECT; Fold and Shepherd stay. (05_fold_engine.md (parts of R153,
R154); 06_echo_extraction.md (parts of R165, R166); 06_echo_extraction.md (parts of R167, R168, R185, R187).) -/
def Obligations.HistogramsAreRead : Prop :=
  ((∀ t (c : ExCluster) (r : Released) (l : List Released) (s : State), s.phase = .ready → s.ex.released = r :: l → s.fd.mem.wf 0 = true →
      s.ex.procs.any (fun p => decide (p.cluster = c) && p.scanning) = false → s.echoLoad c ≤ 40 → descTrace r.iv.desc = false →
      Yields (.histogramDispatch t c) s fun x => x.ex.released = l
        ∧ (∃ p, x.ex.procs = s.ex.procs ++ [p] ∧ p.cluster = c.val ∧ p.rel = r ∧ p.scanning = true
          ∧ p.bins = (List.range (descS r.iv.desc)).map fun i => s.bin (bufStart r.iv.desc r.iv.buf + i))
        ∧ (∀ i, i < descS r.iv.desc → x.bin (bufStart r.iv.desc r.iv.buf + i) = 0)
        ∧ (∀ a, a < bufStart r.iv.desc r.iv.buf ∨ bufStart r.iv.desc r.iv.buf + descS r.iv.desc ≤ a → x.bin a = s.bin a)
        ∧ x.sq = s.sq ∧ x.tl = s.tl ∧ x.dm = s.dm)
    ∧ ∀ t (c : ExCluster) (p : Proc) (s : State), s.phase = .ready → s.ex.procs.find? (fun q => decide (q.cluster = c.val) && q.scanning) = some p →
      Yields (.bufferClean t c) s fun x => (x.fdPix p.rel.pixel).dirty = (s.fdPix p.rel.pixel).dirty.erase p.rel.iv.buf
        ∧ (∀ q ∈ x.ex.procs, q.cluster = c.val → q.scanning = false) ∧ x.fd.mem = s.fd.mem ∧ x.dm = s.dm ∧ x.sq = s.sq)
  ∧ ((∀ t (c : ExCluster) (p : Proc) (s : State), s.phase = .ready → s.writable c = some p → Yields (.recordWrite t c) s fun x =>
      x.ex.procs = s.ex.procs.erase p ∧ x.h Reg.EX_HIST_CNT_COUNT = (s.h Reg.EX_HIST_CNT_COUNT + 1) % 2 ^ 20
        ∧ x.fd = s.fd ∧ x.sq = s.sq ∧ x.tl = s.tl ∧ x.pw.gate = s.pw.gate
        ∧ (s.f Reg.EX_CFG_EN = 0 → OnlyFields [Reg.EX_HIST_CNT_COUNT, Reg.EX_CL_HIST_COUNT c] s x ∧ x.dm = s.dm ∧ x.safe = s.safe))
    ∧ ∀ t (n : Nat) (s : State), s.phase = .ready → s.ex.markDue = some n → s.frameBusy n = false → Yields (.markPlace t) s fun x =>
      x.ex.markDue = none ∧ x.h Reg.EX_FRAME_FRAME = n % 2 ^ 20 ∧ x.ex.placed = {} ∧ x.ex.dropped = [] ∧ x.ex.suspect = false
        ∧ x.fd = s.fd ∧ x.sq = s.sq)

/-- DMA_START and DMA_STOP complete. While the die runs: DMA_START of a running channel is ignored and sets START_IGN. DMA_START of an idle
channel with no error in its fields and a COUNT above 0 runs it with the fields as they stand; the SRAM, the queues and the other channels
stay. With an error, or a COUNT of 0, the channel stays idle: DONE is set, ERR is the error (0 for none), and one report is made (that DONE
is set after a refusal too, and the order of the checks, is the model's reading, log entries 82 and 81). DMA_STOP of a running channel that
is not inside a queue record, with room at its destination for what it still has to write (log entry 82), ends it: it is idle, DONE is set
and ERR is 5; Fold and Shepherd stay. Where a byte queue has room is log entry 162. (14_dma_and_delivery.md (parts of R370, R371, R375,
R377).) -/
def Obligations.TransfersStartAndStop : Prop :=
  (∀ t (c : DmaCh) (r : DmaChan) (s : State), s.phase = .ready → Tab.get s.dm.chans none c = some r → Yields (.dmaStart t c) s fun x =>
      x.h (Reg.DM_CH_STAT_START_IGN c) = 1 ∧ OnlyFields [Reg.DM_CH_STAT_START_IGN c] s x ∧ Frame t [.fields] s x)
    ∧ (∀ t (c : DmaCh) (s : State), s.phase = .ready → Tab.get s.dm.chans none c = none →
      s.dmaCheck (s.dmaFields c) = 0 →
      (s.dmaFields c).count ≠ 0 → Yields (.dmaStart t c) s fun x =>
        (∃ b, Tab.get x.dm.chans none c = some { s.dmaFields c with back := b }) ∧ x.dm.sram = s.dm.sram ∧ x.dm.queues = s.dm.queues
          ∧ (∀ k, k ≠ c.val → Tab.get x.dm.chans none k = Tab.get s.dm.chans none k) ∧ Frame t [.fields, .delivery] s x)
    ∧ (∀ t (c : DmaCh) (s : State), s.phase = .ready → Tab.get s.dm.chans none c = none →
      s.dmaCheck (s.dmaFields c) ≠ 0 ∨ (s.dmaFields c).count = 0 → Yields (.dmaStart t c) s fun x =>
        Tab.get x.dm.chans none c = none ∧ x.h (Reg.DM_CH_STAT_DONE c) = 1
          ∧ x.h (Reg.DM_CH_STAT_ERR c) = min (s.dmaCheck (s.dmaFields c)) (Reg.DM_CH_STAT_ERR c).top
          ∧ (∃ r, x.ev.inbox = s.ev.inbox ++ [r] ∧ r.e10 = c.val) ∧ x.dm.queues = s.dm.queues ∧ Frame t [.fields, .delivery, .events] s x)
    ∧ ∀ t (c : DmaCh) (r : DmaChan) (s : State), s.phase = .ready → Tab.get s.dm.chans none c = some r → (r.skind ≠ 2 ∨ r.held = []) →
      (s.clock t).dmaFits ((DmaRun.mk r [] [] [] false none).flush (s.dmaDest r)) = true →
      Yields (.dmaStop t c) s fun x => Tab.get x.dm.chans none c = none ∧ x.h (Reg.DM_CH_STAT_DONE c) = 1 ∧ x.h (Reg.DM_CH_STAT_ERR c) = 5
        ∧ x.fd = s.fd ∧ x.sq = s.sq

/-- DMA_READ_GRANT and POINTS_HOLD_EXPIRY complete. While the die runs: DMA_READ_GRANT gives the turn to the next channel that can run after the
one served last, and the fold memory, Shepherd, both configuration sets and the session are as they were; where that channel copies from the
SRAM without shuffling, is not stopping and has more than one element left, it reads exactly one (the model's reading, log entry 81): one
more is read, one fewer is left, DM_CH_LEFT shows it, and no other channel changes; where that channel copies from the SRAM without
shuffling and reads its last element with room at its destination, it goes idle, DONE is set and ERR is 0. POINTS_HOLD_EXPIRY of a queue
whose one subscription's oldest record has waited for HOLD takes the packet's copies (one record with HOLD 0, else up to the packet's limit
and no record after a MARK) out of the queue, and no other queue changes. What is flushed, and where a byte queue has room, are log entries
82 and 162. (14_dma_and_delivery.md (parts of R366, R370, R371, R376, R377).) -/
def Obligations.GrantsReadOneElement : Prop :=
  (∀ t (c : Nat) (s : State), s.phase = .ready → (s.clock t).dmaNext = some c → Yields (.dmaReadGrant t) s fun x =>
      x.fd.mem = s.fd.mem ∧ x.sq = s.sq ∧ x.regs.setA = s.regs.setA ∧ x.regs.setB = s.regs.setB ∧ x.cm.session = s.cm.session ∧ x.dm.rr = c)
    ∧ (∀ t (c : Nat) (r : DmaChan) (s : State), s.phase = .ready → (s.clock t).dmaNext = some c → Tab.get s.dm.chans none c = some r →
      r.skind = 1 → r.shuf = 0 → 1 < r.left → r.stopping = false → Yields (.dmaReadGrant t) s fun x =>
        (∃ z, Tab.get x.dm.chans none c = some z ∧ z.n = r.n + 1 ∧ z.left = r.left - 1)
          ∧ x.h (Reg.DM_CH_LEFT_LEFT c) = min (r.left - 1) (Reg.DM_CH_LEFT_LEFT c).top
          ∧ ∀ k, k ≠ c → Tab.get x.dm.chans none k = Tab.get s.dm.chans none k)
    ∧ (∀ t (c : Nat) (r : DmaChan) (s : State), s.phase = .ready → (s.clock t).dmaNext = some c → Tab.get s.dm.chans none c = some r →
      r.skind = 1 → r.shuf = 0 → r.left = 1 →
      s.dmaFits ((DmaRun.element { c := r } (s.dmaDest r) (s.sramElem r)).flush (s.dmaDest r)) = true → Yields (.dmaReadGrant t) s fun x =>
        Tab.get x.dm.chans none c = none ∧ x.h (Reg.DM_CH_STAT_DONE c) = 1 ∧ x.h (Reg.DM_CH_STAT_ERR c) = 0)
    ∧ ∀ t (q : Queue) (u : Sub) (i : DmItem) (l : List DmItem) (s : State), s.phase = .ready → s.subsOf 0 q = [u] →
      (s.dmQueue q).waitingFor u.idx = i :: l → i.since + s.f (Reg.DM_Q_CFG_HOLD q) * lsbUs ≤ max s.now t →
      Yields (.pointsHoldExpiry t q) s fun x =>
        (x.dmQueue q).items = takeCopies u.idx (packetTake (s.packetLimit q u) (i :: l)) (s.dmQueue q).items
          ∧ (∀ z, z ≠ q.val → x.dmQueue z = s.dmQueue z) ∧ Frame t [.fields, .tx, .link, .delivery] s x

/-- SERVO_SAMPLE completes: it takes the axis's sample and latches the output of the period before. While the die runs, no stop of firing waits
to be settled and an axis has a sample: SERVO_SAMPLE takes the sample, latches the output of the period before and notes the instant; the
other axes stay. With a usable sample SV_POS is the sample's value (its low 20 bits) and the run of unusable samples is 0. With an unusable
one, and no write waiting or kept from before a SWAP, SV_HOLD_CNT counts on to its limit; SV_POS, Shepherd, Fold and the tiles stay. What
paces an axis whose outputs stopped is log entry 131. (07_scanner_servo.md (parts of R188, R189, R193).) -/
def Obligations.ServoSamplesAreTaken : Prop :=
  (∀ t (a : Axis) (p : PosSample) (s : State), s.phase = .ready → s.sq.closeDue = false → (s.axis a).inbox = some p →
      Yields (.servoSample t a) s fun x => (x.axis a).inbox = none ∧ (x.axis a).uLatched = (s.axis a).u
        ∧ (x.axis a).lastAt = max s.now t ∧ (∀ b, b ≠ a.val → x.axis b = s.axis b))
    ∧ (∀ t (a : Axis) (p : PosSample) (s : State), s.phase = .ready → s.sq.closeDue = false → (s.axis a).inbox = some p → p.usable = true →
      Yields (.servoSample t a) s fun x => x.h (Reg.SV_POS_Y a) = low 20 p.y ∧ (x.axis a).yPrev = p.y ∧ (x.axis a).bad = 0)
    ∧ ∀ t (a : Axis) (p : PosSample) (s : State), s.phase = .ready → s.sq.closeDue = false → s.regs.waiting = [] → s.regs.stale = [] →
      (s.axis a).inbox = some p → p.usable = false → Yields (.servoSample t a) s fun x =>
        x.h (Reg.SV_HOLD_CNT_COUNT a) = min (s.h (Reg.SV_HOLD_CNT_COUNT a) + 1) (Reg.SV_HOLD_CNT_COUNT a).top
          ∧ x.h (Reg.SV_POS_Y a) = s.h (Reg.SV_POS_Y a) ∧ (x.axis a).yPrev = (s.axis a).yPrev ∧ x.sq = s.sq ∧ x.fd = s.fd ∧ x.tl = s.tl

/-- HANDOVER_FORCED, TRAJECTORY_PERIOD_END, ACQ_TIMEOUT, SERVO_SENSOR_LOST, SERVO_OSC, SV_INJ_START, SV_INJ_STOP and INJECTION_END complete.
While the die runs, for one axis (every other part of the state but those named stays): HANDOVER_FORCED that is due puts the axis in TRACK
(STATE 3), sets FORCING and FORCED_SEEN, and is due no more; the other axes stay. TRAJECTORY_PERIOD_END in ACQUIRE with samples summed
clears the sums, ends or prolongs the run of passing periods, and LOCK is 1 exactly with a run of at least 4; the other axes stay.
ACQ_TIMEOUT in ACQUIRE without LOCK, once TMO has passed, sets ACQ_TMO_SEEN once and reports ACQ_TIMEOUT for the axis. SERVO_SENSOR_LOST of
an axis neither OFF nor in FAULT, after 8 unusable samples in a row, puts it in FAULT (STATE 4, CAUSE 1) without LOCK, clears the integrator
and reports SERVO_FAULT; the other axes stay. SERVO_OSC when due sets OSC_SEEN, counts in SV_OSC_CNT to its limit, and with OSC_ACT 1 leaves
the axis in STATE 4. SV_INJ_START and SV_INJ_STOP are kept for the loop period. INJECTION_END, once SV_INJ_LEN periods have passed, clears
TEST and the period count. An axis in OFF does not fault, and an axis without outputs is paced by its last T (log entries 132 and 131).
(07_scanner_servo.md (parts of R193, R198, R199, R201, R205, R206).) -/
def Obligations.ServoModesAndFaults : Prop :=
  (∀ t (a : Axis) (s : State), s.phase = .ready → (s.axis a).forceDue = true → Yields (.handoverForced t a) s fun x =>
      x.h (Reg.SV_AX_STAT_STATE a) = 3 ∧ x.h (Reg.SV_AX_STAT_FORCING a) = 1 ∧ x.h (Reg.SV_AX_STAT_FORCED_SEEN a) = 1 ∧ (x.axis a).forceDue = false
        ∧ (∀ b, b ≠ a.val → x.axis b = s.axis b) ∧ Frame t [.fields, .servo, .events, .safety] s x)
    ∧ (∀ t (a : Axis) (s : State), s.phase = .ready → s.axState a = 2 → (s.axis a).sumN ≠ 0 → Yields (.trajectoryPeriodEnd t a) s fun x =>
      (x.axis a).sumN = 0 ∧ (x.axis a).sumRe = 0 ∧ (x.axis a).sumIm = 0 ∧ ((x.axis a).lockRun = 0 ∨ (x.axis a).lockRun = (s.axis a).lockRun + 1)
        ∧ x.h (Reg.SV_AX_STAT_LOCK a) = (if 4 ≤ (x.axis a).lockRun then 1 else 0)
        ∧ (∀ b, b ≠ a.val → x.axis b = s.axis b) ∧ OnlyFields [Reg.SV_AX_STAT_LOCK a] s x ∧ Frame t [.fields, .servo] s x)
    ∧ (∀ t (a : Axis) (s : State), s.phase = .ready → s.axState a = 2 → s.h (Reg.SV_AX_STAT_LOCK a) = 0 → (s.axis a).acqTmo = false →
      (s.axis a).acqAt + s.av a (Reg.SV_ACQ_CFG_TMO a) * lsbMs ≤ max s.now t → Yields (.acqTimeout t a) s fun x =>
        x.h (Reg.SV_AX_STAT_ACQ_TMO_SEEN a) = 1 ∧ (x.axis a).acqTmo = true ∧ OnlyFields [Reg.SV_AX_STAT_ACQ_TMO_SEEN a] s x
          ∧ (∃ r, x.ev.inbox = s.ev.inbox ++ [r] ∧ r.code = Ev.acqTimeout.code ∧ r.e10 = a.val) ∧ Frame t [.fields, .servo, .events] s x)
    ∧ (∀ t (a : Axis) (s : State), s.phase = .ready → s.axState a ≠ 0 → s.axState a ≠ 4 → 8 ≤ (s.axis a).bad → Yields (.servoSensorLost t a) s fun x =>
      x.h (Reg.SV_AX_STAT_STATE a) = 4 ∧ x.h (Reg.SV_AX_STAT_CAUSE a) = 1 ∧ x.h (Reg.SV_AX_STAT_LOCK a) = 0 ∧ (x.axis a).i = 0
        ∧ (∃ r, x.ev.inbox = s.ev.inbox ++ [r] ∧ r.code = Ev.servoFault.code ∧ r.e10 = a.val)
        ∧ (∀ b, b ≠ a.val → x.axis b = s.axis b) ∧ Frame t [.fields, .servo, .events, .safety] s x)
    ∧ (∀ t (a : Axis) (s : State), s.phase = .ready → (s.axis a).oscDue = true → Yields (.servoOsc t a) s fun x =>
      x.h (Reg.SV_AX_STAT_OSC_SEEN a) = 1 ∧ (x.axis a).oscDue = false
        ∧ x.h (Reg.SV_OSC_CNT_COUNT a) = min (s.h (Reg.SV_OSC_CNT_COUNT a) + 1) (Reg.SV_OSC_CNT_COUNT a).top
        ∧ (s.av a (Reg.SV_AX_CFG_OSC_ACT a) = 1 → x.h (Reg.SV_AX_STAT_STATE a) = 4) ∧ Frame t [.fields, .servo, .events, .safety] s x)
    ∧ (∀ t (a : Axis) (s : State), s.phase = .ready → Yields (.svInjStart t a) s fun x => x.axis a = { s.axis a with injStart := true }
      ∧ (∀ b, b ≠ a.val → x.axis b = s.axis b) ∧ Frame t [.servo] s x)
    ∧ (∀ t (a : Axis) (s : State), s.phase = .ready → Yields (.svInjStop t a) s fun x => x.axis a = { s.axis a with injStop := true }
      ∧ (∀ b, b ≠ a.val → x.axis b = s.axis b) ∧ Frame t [.servo] s x)
    ∧ ∀ t (a : Axis) (s : State), s.phase = .ready → s.h (Reg.SV_AX_STAT_TEST a) = 1 → 0 < s.av a (Reg.SV_INJ_LEN_LEN a) →
      s.av a (Reg.SV_INJ_LEN_LEN a) ≤ (s.axis a).injK → Yields (.injectionEnd t a) s fun x => x.h (Reg.SV_AX_STAT_TEST a) = 0
        ∧ (x.axis a).injK = 0 ∧ OnlyFields [Reg.SV_AX_STAT_TEST a] s x ∧ Frame t [.fields, .servo] s x

/-- CONVERTER_OUTPUT completes: at the end of an output period the next slot of the scan begins. While the die runs and a pair with RUN 1 runs
its scan, with no stop of firing to be settled, no check running or waiting, no calibration slot, no write waiting and no field kept from
before a SWAP: CONVERTER_OUTPUT of the pair, an output period or more after the start of a slot before the last, makes the next slot current
(AX_PAIR_STAT.SLOT counts on by 1); Fold, Shepherd, the tiles and the DMA block stay. What a slot brings is log entry 43.
(08_sensor_converters.md (parts of R214, R216, R219).) -/
def Obligations.ConverterSlotsAdvance : Prop :=
  ∀ t (p : Pair) (v w : List Int) (s : State), s.phase = .ready → s.sq.closeDue = false → s.pairRuns p = true → s.inCalSlot p = false →
    s.checking p = none → (∀ c, (s.axChan c).zWait = false) → s.regs.waiting = [] → s.regs.stale = [] → s.fu p (Reg.AX_PAIR_CFG_RUN p) = 1 →
    s.slotAt p + s.outPeriod p ≤ max s.now t →
    s.h (Reg.AX_PAIR_STAT_SLOT p) + 1 < s.nslot p → Yields (.converterOutput t p v w) s fun x =>
      x.h (Reg.AX_PAIR_STAT_SLOT p) = s.h (Reg.AX_PAIR_STAT_SLOT p) + 1 ∧ x.fd = s.fd ∧ x.sq = s.sq ∧ x.tl = s.tl ∧ x.dm = s.dm

/-- MODULATOR_OVERLOAD, SECONDARY_OVERLOAD, EXCITATION_SWITCH, EXCITATION_BLANK_END, AX_SYNC, SYNC_DEC_EDGE and FIR_WRITE complete. While the
die runs: MODULATOR_OVERLOAD of a pair that watches a channel, SOLO not 2, notes the overload's sign for the channel's output and starts its
settle count. SECONDARY_OVERLOAD there, SOLO not 1, sets SEC_OVR, empties the secondary's decimator and suspends the comparison for the
settle count. EXCITATION_SWITCH of a source whose switch is due (no stop of firing to be settled) blanks each of its dependent channels for
50 µs; the tiles and the DMA block stay. EXCITATION_BLANK_END when due ends the channel's blanking, where its source does not wait to switch
again. AX_SYNC sets SYNC_SEEN, and, where no channel waits for a check, every running pair is in slot 0 with no check. A SYNC_DEC edge of a
pulse of at least 200 ns with the pin enabled sets SYNC_SEEN; Fold and Shepherd stay. FIR_WRITE to a stopped pair with RUN 0 stores the tap
alone; to a running pair it sets FIR_LOCK alone. Which overloads are watched is log entry 45. (08_sensor_converters.md (parts of R218, R221,
R223, R225, R227).) -/
def Obligations.ConvertersReact : Prop :=
  (∀ t (p : Pair) (b : Bool) (c : Nat) (s : State), s.phase = .ready → s.watched p = some c → s.fu p (Reg.AX_PAIR_CFG_SOLO p) ≠ 2 →
      Yields (.modulatorOverload t p b) s fun x => (x.axChan c).ovr = some b ∧ (x.axChan c).settle = s.settleCount p ∧ Frame t [.converters] s x)
    ∧ (∀ t (p : Pair) (c : Nat) (s : State), s.phase = .ready → s.watched p = some c → s.fu p (Reg.AX_PAIR_CFG_SOLO p) ≠ 1 →
      Yields (.secondaryOverload t p) s fun x => x.h (Reg.AX_PAIR_STAT_SEC_OVR p) = 1 ∧ (x.axChan c).suspend = s.settleCount p ∧ (x.axChan c).sec = {}
          ∧ OnlyFields [Reg.AX_PAIR_STAT_SEC_OVR p] s x ∧ Frame t [.fields, .converters] s x)
    ∧ (∀ t (k : Fin 6) (s : State), s.phase = .ready → s.sq.closeDue = false → s.switchDue k = true → Yields (.excitationSwitch t k) s fun x =>
        (∀ c ∈ s.dependents k, (x.axChan c).blankEnd = some (max s.now t + 50 * lsbUs) ∧ x.h (Reg.AX_STAT_BLANK c) = 1)
          ∧ x.tl = s.tl ∧ x.dm = s.dm)
    ∧ (∀ t (c : AxCh) (n : Nat) (s : State), s.phase = .ready → (s.axChan c).blankEnd = some n → n ≤ max s.now t →
      (s.axChan c).switchAhead = false → Yields (.excitationBlankEnd t c) s fun x =>
        x.h (Reg.AX_STAT_BLANK c) = 0 ∧ (x.axChan c).blankEnd = none ∧ Frame t [.fields, .converters] s x)
    ∧ (∀ t (s : State), s.phase = .ready → Yields (.axSync t) s fun x => x.h Reg.AX_DEV_STAT_SYNC_SEEN = 1
        ∧ ((∀ c, (s.axChan c).zWait = false) → ∀ p, p < 4 → s.pairRuns p = true → x.h (Reg.AX_PAIR_STAT_SLOT p) = 0 ∧ x.checking p = none)
        ∧ Frame t [.fields, .converters] s x)
    ∧ (∀ t (w : Nat) (s : State), s.phase = .ready → 200 ≤ w → s.fo Reg.AX_CFG_SYNC_PIN_EN = 1 → Yields (.syncDecEdge t w) s fun x =>
        x.h Reg.AX_DEV_STAT_SYNC_SEEN = 1 ∧ x.fd = s.fd ∧ x.sq = s.sq)
    ∧ (∀ t (p : Pair) (k : Fin 64) (v : Score) (s : State), s.phase = .ready → (Reg.AX_PAIR_CFG_RUN p).of (s.coming p (Reg.AX_PAIR_CFG p)) = 0 →
      s.pairRuns p = false → Yields (.firWrite t p k v) s fun x => x.oneReg (Reg.AX_FIR p k) = v
        ∧ (∀ a, a ≠ Reg.AX_FIR p k → x.oneReg a = s.oneReg a) ∧ Frame t [.ones] s x)
    ∧ ∀ t (p : Pair) (k : Fin 64) (v : Score) (s : State), s.phase = .ready → s.pairRuns p = true → Yields (.firWrite t p k v) s fun x =>
        x.h Reg.AX_DEV_STAT_FIR_LOCK = 1 ∧ OnlyFields [Reg.AX_DEV_STAT_FIR_LOCK] s x ∧ Frame t [.fields] s x

/-- IMPEDANCE_CHECK_START and IMPEDANCE_CHECK_END complete. While the die runs, for a channel c that a pair converts, with PER above 0 and a
check due, where no other channel waits for one: IMPEDANCE_CHECK_START on a free pair (no check, no calibration slot, serving no axis) makes
the pair check c for 16 ms at 1 kHz or 1.6 ms at 10 kHz, sets CHK and clears CHK_DEFER. On a pair that serves an axis that is not OFF it
sets CHK_DEFER, and no check begins. IMPEDANCE_CHECK_END of the channel that a pair checks, when its tone has ended, shows the impedance
(08_sensor_converters.md (parts of R230, R231, R232, R233).) -/
def Obligations.ImpedanceChecks : Prop :=
  (∀ t (c : AxCh) (p : Pair) (s : State), s.phase = .ready → s.convertedBy c = some p.val → s.fu c (Reg.AX_ZCHK_PER c) ≠ 0 →
      (∀ x ∈ (s.axChan c).zAt, x + min 60 (s.fu c (Reg.AX_ZCHK_PER c)) * lsbS ≤ max s.now t) → s.checking p = none → (∀ d, (s.axChan d).zWait = false) →
      s.inCalSlot p = false → s.scanServes p = false → Yields (.impedanceCheckStart t c) s fun x =>
        (∃ z, x.zCheck p = some z ∧ z.chan = c.val ∧ z.ends = max s.now t + (if s.fu c (Reg.AX_ZCHK_FREQ c) = 1 then 1600 else 16000) * lsbUs)
          ∧ x.h (Reg.AX_STAT_CHK c) = 1 ∧ x.h (Reg.AX_STAT_CHK_DEFER c) = 0 ∧ Frame t [.fields, .converters] s x)
    ∧ (∀ t (c : AxCh) (p : Pair) (s : State), s.phase = .ready → s.convertedBy c = some p.val → s.fu c (Reg.AX_ZCHK_PER c) ≠ 0 →
      (∀ x ∈ (s.axChan c).zAt, x + min 60 (s.fu c (Reg.AX_ZCHK_PER c)) * lsbS ≤ max s.now t) → s.checking p = none → (∀ d, (s.axChan d).zWait = false) →
      s.scanServes p = true → Yields (.impedanceCheckStart t c) s fun x => x.h (Reg.AX_STAT_CHK_DEFER c) = 1 ∧ x.checking p = none
        ∧ OnlyFields [Reg.AX_STAT_CHK_DEFER c] s x ∧ Frame t [.fields, .converters] s x)
    ∧ ∀ t (c : AxCh) (n : Nat) (p : Pair) (z : ZCheck) (s : State), s.phase = .ready → s.zCheck p = some z → z.chan = c.val → z.ends ≤ max s.now t →
      (∀ q, q ≠ p.val → s.checking q ≠ some c.val) → (∀ d, (s.axChan d).zWait = false) → Yields (.impedanceCheckEnd t c n) s fun x =>
        x.h (Reg.AX_Z_Z c) = min (zOhm n z.peak) (Reg.AX_Z_Z c).top ∧ x.checking p = none ∧ x.h (Reg.AX_STAT_CHK c) = 0
          ∧ (s.fu c (Reg.AX_ZMAX_ZMAX c) < zOhm n z.peak → x.h (Reg.AX_STAT_OPEN c) = 1)
          ∧ (zOhm n z.peak < s.fu c (Reg.AX_ZCHK_ZMIN c) → x.h (Reg.AX_STAT_SHORT c) = 1)
          ∧ (x.axChan c).fail = (decide (s.fu c (Reg.AX_ZMAX_ZMAX c) < zOhm n z.peak) || decide (zOhm n z.peak < s.fu c (Reg.AX_ZCHK_ZMIN c)))
          ∧ Frame t [.fields, .converters, .events] s x

/-- AQ_ARM, AQ_ABORT, AQ_FORCE and TRIGGER_HOLD_END complete. While the die runs: AQ_ARM of a buffer that is armed or capturing sets ARM_IGN
alone. AQ_ARM of another buffer takes its seven configuration registers as last written and empties its samples; besides the acquisition
engine and the status fields only the tiles may change. With fields that are valid, without a held trigger, and a source that is no sampler,
the buffer is ARMED (STATE 1), and CAPTURING (STATE 2) with HELD cleared where it holds one; CFG_ERR is as it was where AVG is at most 10.
With invalid fields CFG_ERR is set and the buffer is IDLE (the model's reading, log entry 51). AQ_ABORT makes the buffer IDLE, forgets its
samples and every trigger it held or heard, and clears HELD; the other buffers stay. AQ_FORCE fires the selected units: every selected one
with a hold-off is held off from now on; with no unit selected nothing changes but time. TRIGGER_HOLD_END when due ends the unit's hold-off;
the other units stay. (09_acquisition_engine.md (parts of R242, R243, R248, R251).) -/
def Obligations.CapturesAreArmed : Prop :=
  (∀ t (b : AqBufIx) (s : State), s.phase = .ready → s.aqTaking b = true → Yields (.aqArm t b) s fun x => x.h (Reg.AQ_BUF_STAT_ARM_IGN b) = 1
      ∧ OnlyFields [Reg.AQ_BUF_STAT_ARM_IGN b] s x ∧ Frame t [.fields] s x)
    ∧ (∀ t (b : AqBufIx) (s : State), s.phase = .ready → s.aqTaking b = false → Yields (.aqArm t b) s fun x =>
      (x.aqBuf b).cfg = [Reg.AQ_BUF_CFG b, Reg.AQ_BUF_SRC b, Reg.AQ_BUF_SRC2 b, Reg.AQ_BUF_LEN b, Reg.AQ_BUF_POST b, Reg.AQ_BUF_TRIG b,
        Reg.AQ_BUF_OFS b].map s.oneReg ∧ (x.aqBuf b).data = [] ∧ Frame t [.fields, .acquire, .tiles] s x)
    ∧ (∀ t (b : AqBufIx) (z : AqBuf) (s : State), s.phase = .ready → s.aqTaking b = false →
      z = { cfg := [Reg.AQ_BUF_CFG b, Reg.AQ_BUF_SRC b, Reg.AQ_BUF_SRC2 b, Reg.AQ_BUF_LEN b, Reg.AQ_BUF_POST b, Reg.AQ_BUF_TRIG b,
        Reg.AQ_BUF_OFS b].map s.oneReg, size := s.aqSize (aqSrc (s.oneReg (Reg.AQ_BUF_SRC b))) } → z.armOk = true → z.src.kind ≠ 0 →
      Yields (.aqArm t b) s fun x => x.aqState b = (if (s.aqBuf b).held.isSome then 2 else 1)
        ∧ ((s.aqBuf b).held.isSome → x.h (Reg.AQ_BUF_STAT_HELD b) = 0)
        ∧ ((Reg.AQ_BUF_CFG_AVG b).of (s.oneReg (Reg.AQ_BUF_CFG b)) ≤ 10 → x.h (Reg.AQ_BUF_STAT_CFG_ERR b) = s.h (Reg.AQ_BUF_STAT_CFG_ERR b)))
    ∧ (∀ t (b : AqBufIx) (z : AqBuf) (s : State), s.phase = .ready → s.aqTaking b = false →
      z = { cfg := [Reg.AQ_BUF_CFG b, Reg.AQ_BUF_SRC b, Reg.AQ_BUF_SRC2 b, Reg.AQ_BUF_LEN b, Reg.AQ_BUF_POST b, Reg.AQ_BUF_TRIG b,
        Reg.AQ_BUF_OFS b].map s.oneReg, size := s.aqSize (aqSrc (s.oneReg (Reg.AQ_BUF_SRC b))) } → z.armOk = false →
      Yields (.aqArm t b) s fun x => x.aqState b = 0 ∧ x.h (Reg.AQ_BUF_STAT_CFG_ERR b) = 1 ∧ (x.aqBuf b).data = [] ∧ Frame t [.fields, .acquire] s x)
    ∧ (∀ t (b : AqBufIx) (s : State), s.phase = .ready → Yields (.aqAbort t b) s fun x => x.aqState b = 0
      ∧ x.h (Reg.AQ_BUF_STAT_HELD b) = 0 ∧ (x.aqBuf b).held = none ∧ (x.aqBuf b).next = [] ∧ (x.aqBuf b).data = []
      ∧ (∀ c, c ≠ b.val → x.aqBuf c = s.aqBuf c) ∧ Frame t [.fields, .acquire] s x)
    ∧ (∀ t (m : Fin 65536) (s : State), s.phase = .ready → Yields (.aqForce t m) s fun x =>
      (∀ u, u < 16 → m.val / 2 ^ u % 2 = 1 → (Reg.AQ_TRG_CFG_HOLD 0).of ((s.aqUnit u).cfg.getD 0 0) ≠ 0 →
        (x.aqUnit u).hold = some (max s.now t + (Reg.AQ_TRG_CFG_HOLD 0).of ((s.aqUnit u).cfg.getD 0 0) * lsbUs))
        ∧ (m.val = 0 → Frame t [] s x) ∧ Frame t [.fields, .acquire, .link, .tx] s x)
    ∧ ∀ t (u : AqUnit) (n : Nat) (s : State), s.phase = .ready → (s.aqUnit u).hold = some n → n ≤ max s.now t → Yields (.triggerHoldEnd t u) s fun x =>
      x.aqUnit u = { s.aqUnit u with hold := none } ∧ (∀ v, v ≠ u.val → x.aqUnit v = s.aqUnit v) ∧ Frame t [.acquire] s x

/-- AQ_RD_DATA_READ and AQ_HIST_DATA_READ complete: reads of a full buffer step their address; reads in another state set RD_ERR. While the die
runs: AQ_RD_DATA_READ of a FULL buffer without AUTO steps AQ_RD_ADDR (65,536 scores), as does one with AUTO whose address is not its last
sample's; AQ_HIST_DATA_READ of a FULL buffer steps AQ_HIST_ADDR (1,024 counters); each changes single-copy registers only. AQ_RD_DATA_READ
of the last sample with AUTO steps the address and arms the buffer again. Outside FULL each sets RD_ERR and changes nothing else (the
model's reading, log entry 54). A host's read of AQ_RD_DATA of a FULL buffer returns the sample, or the map cell, at AQ_RD_ADDR, and one of
AQ_HIST_DATA the counter at AQ_HIST_ADDR; outside FULL each returns 0 (log entry 54). (09_acquisition_engine.md (parts of R255, R256).) -/
def Obligations.CapturesAreRead : Prop :=
  (∀ t (b : AqBufIx) (s : State), s.phase = .ready → s.aqState b = 3 →
      ((Reg.AQ_BUF_CFG_AUTO 0).of ((s.aqBuf b).reg 0) = 0 ∨ s.fo (Reg.AQ_RD_ADDR_ADDR b)
        ≠ (if (s.aqBuf b).isMap then 65535 else (s.aqBuf b).preCount + (s.aqBuf b).postLen - 1)) →
      Yields (.aqRdDataRead t b) s fun x => x.fo (Reg.AQ_RD_ADDR_ADDR b) = (s.fo (Reg.AQ_RD_ADDR_ADDR b) + 1) % 65536 ∧ Frame t [.ones] s x)
    ∧ (∀ t (b : AqBufIx) (s : State), s.phase = .ready → s.aqState b = 3 → (Reg.AQ_BUF_CFG_AUTO 0).of ((s.aqBuf b).reg 0) = 1 →
      s.fo (Reg.AQ_RD_ADDR_ADDR b) = (if (s.aqBuf b).isMap then 65535 else (s.aqBuf b).preCount + (s.aqBuf b).postLen - 1) →
      Yields (.aqRdDataRead t b) s fun x => x.fo (Reg.AQ_RD_ADDR_ADDR b) = (s.fo (Reg.AQ_RD_ADDR_ADDR b) + 1) % 65536
        ∧ (x.aqBuf b).cfg = [Reg.AQ_BUF_CFG b, Reg.AQ_BUF_SRC b, Reg.AQ_BUF_SRC2 b, Reg.AQ_BUF_LEN b, Reg.AQ_BUF_POST b, Reg.AQ_BUF_TRIG b,
          Reg.AQ_BUF_OFS b].map s.oneReg ∧ (x.aqBuf b).data = [] ∧ Frame t [.ones, .fields, .acquire, .tiles] s x)
    ∧ (∀ t (b : AqBufIx) (s : State), s.phase = .ready → s.aqState b ≠ 3 → Yields (.aqRdDataRead t b) s fun x =>
      x.h (Reg.AQ_BUF_STAT_RD_ERR b) = 1 ∧ OnlyFields [Reg.AQ_BUF_STAT_RD_ERR b] s x ∧ Frame t [.fields] s x)
    ∧ (∀ t (b : AqBufIx) (s : State), s.phase = .ready → s.aqState b = 3 → Yields (.aqHistDataRead t b) s fun x =>
      x.fo (Reg.AQ_HIST_ADDR_ADDR b) = (s.fo (Reg.AQ_HIST_ADDR_ADDR b) + 1) % 1024 ∧ Frame t [.ones] s x)
    ∧ (∀ t (b : AqBufIx) (s : State), s.phase = .ready → s.aqState b ≠ 3 → Yields (.aqHistDataRead t b) s fun x =>
      x.h (Reg.AQ_BUF_STAT_RD_ERR b) = 1 ∧ OnlyFields [Reg.AQ_BUF_STAT_RD_ERR b] s x ∧ Frame t [.fields] s x)
    ∧ (∀ (o : Bool) (b : AqBufIx) (s : State), s.aqState b = 3 → (s.readReg o (Reg.AQ_RD_DATA b)).1
        = (if (s.aqBuf b).isMap then BitVec.ofNat 20 (Tab.get (s.aqBuf b).map 0 (s.fo (Reg.AQ_RD_ADDR_ADDR b)))
          else (s.aqBuf b).data.getD (s.fo (Reg.AQ_RD_ADDR_ADDR b)) 0)
        ∧ (s.readReg o (Reg.AQ_HIST_DATA b)).1 = BitVec.ofNat 20 (Tab.get (s.aqBuf b).hist 0 (s.fo (Reg.AQ_HIST_ADDR_ADDR b))))
    ∧ ∀ (o : Bool) (b : AqBufIx) (s : State), s.aqState b ≠ 3 → (s.readReg o (Reg.AQ_RD_DATA b)).1 = 0 ∧ (s.readReg o (Reg.AQ_HIST_DATA b)).1 = 0

/-- PWM_PERIOD_END, LAMP_MEASUREMENT, LAMP_SHORT_DETECT and IL_RESTART complete. While the die runs (every part of the state but those named
stays): PWM_PERIOD_END in a period not yet begun for the channel, with no stop of firing to be settled and no write waiting or kept from
before a SWAP, begins the period for it and moves its fade by one period (toward LEVEL over FADE ms; a LEVEL that is not the fade's target
starts a new fade); with EN 0 the on-time shown is 0; the other channels stay (one period for all channels, and a shown 0 of a channel that
is not driven, are the model's reading, log entry 56). LAMP_MEASUREMENT of at least the open threshold, where the newest pulse has been high
for 2 µs and none that began as late has been measured, shows the value in SENSE (to its limit), clears UNVERIFIED and OPEN and ends the run
of low measurements (log entry 57). LAMP_SHORT_DETECT above SHORT_THR with ILL high makes ILL low and counts in FLT_CNT to its limit.
IL_RESTART clears LATCH and the run of periods with a short and leaves the SHORT flag (log entry 58); the other channels stay. The phase of
the PWM grid is log entry 136. (10_illuminators.md (parts of R259, R261, R265, R266).) -/
def Obligations.LampsAreDrivenAndWatched : Prop :=
  (∀ t (c : IlCh) (mv : Nat) (s : State), s.phase = .ready → s.sq.closeDue = false → s.regs.waiting = [] → s.regs.stale = [] →
      (s.ilChan c).period ≠ some (s.clock t).pwmStart → Yields (.pwmPeriodEnd t c mv) s fun x =>
        (x.ilChan c).level = (fadeStep (s.ilChan c) (decide (s.fu c (Reg.IL_CH_LVL_LEVEL c) ≠ (s.ilChan c).l1)) (s.fu c (Reg.IL_CH_LVL_LEVEL c))
            (s.fu c (Reg.IL_CH_FADE_MS c))).level
          ∧ (x.ilChan c).period = some (s.clock t).pwmStart ∧ (s.fu c (Reg.IL_CH_CFG_EN c) = 0 → x.h (Reg.IL_CH_NOW_ON c) = 0)
          ∧ (∀ d, d ≠ c.val → x.ilChan d = s.ilChan d) ∧ Frame t [.fields, .illum, .events, .freeCtr] s x)
    ∧ (∀ t (c : IlCh) (mv : Nat) (p : IllPulse) (l : List IllPulse) (s : State), s.phase = .ready → (s.ilChan c).pulses = p :: l →
      p.start + ilMeasure ≤ p.stop → p.start + ilMeasure ≤ max s.now t → (∀ m ∈ (s.ilChan c).measured, m < p.start) →
      s.fu c (Reg.IL_CH_SNS_OPEN_THR c) ≤ mv → Yields (.lampMeasurement t c mv) s fun x =>
        x.h (Reg.IL_CH_SENSE_MV c) = min mv (Reg.IL_CH_SENSE_MV c).top ∧ x.h (Reg.IL_CH_STAT_UNVERIFIED c) = 0 ∧ x.h (Reg.IL_CH_STAT_OPEN c) = 0
          ∧ (x.ilChan c).openCount = 0 ∧ OnlyFields [Reg.IL_CH_SENSE_MV c, Reg.IL_CH_STAT_UNVERIFIED c, Reg.IL_CH_STAT_OPEN c] s x
          ∧ Frame t [.fields, .illum] s x)
    ∧ (∀ t (c : IlCh) (mv : Nat) (s : State), s.phase = .ready → (s.clock t).ill c = true → s.fu c (Reg.IL_CH_SNS_SHORT_THR c) < mv →
      Yields (.lampShortDetect t ⟨c, mv⟩) s fun x => x.ill c = false
        ∧ x.h (Reg.IL_CH_FLT_CNT_COUNT c) = min (s.h (Reg.IL_CH_FLT_CNT_COUNT c) + 1) (Reg.IL_CH_FLT_CNT_COUNT c).top
        ∧ Frame t [.fields, .illum, .events] s x)
    ∧ ∀ t (c : IlCh) (s : State), s.phase = .ready → Yields (.ilRestart t c) s fun x => x.h (Reg.IL_CH_STAT_LATCH c) = 0 ∧ (x.ilChan c).shortRun = 0
        ∧ OnlyFields [Reg.IL_CH_STAT_LATCH c] s x ∧ (∀ d, d ≠ c.val → x.ilChan d = s.ilChan d) ∧ Frame t [.fields, .illum] s x

/-- CSYNC_EDGE, DIAGNOSTIC_PULSE, LAMP_UNVERIFIED and LAMP_TEMP_LOST complete. While the die runs (every part of the state but those named
stays): CSYNC_EDGE is the new level of its input, and of the exposure input where the level lasts at least 200 ns; the other inputs stay.
DIAGNOSTIC_PULSE that is due in a driven dim channel with CSEL, with no pulse running at its time, gives a pulse of 2 µs from that time; the
other channels stay. LAMP_UNVERIFIED of a lit channel not yet UNVERIFIED, with more than 10 s since its last measurement (or since it was
lit, if it has none), sets UNVERIFIED alone and reports LAMP_UNVERIFIED. LAMP_TEMP_LOST of a group whose source has failed sets the group's
bit of DRT_FAIL alone and reports LAMP_TEMP_LOST. Which CSYNC edges count is log entry 59. (10_illuminators.md (parts of R264, R267, R268,
R270).) -/
def Obligations.LampsAreDiagnosed : Prop :=
  (∀ t (n : Fin 4) (v : Bool) (w : Nat) (s : State), s.phase = .ready → Yields (.csyncEdge t n v w) s fun x =>
      Tab.get x.il.csync false n = v ∧ (200 ≤ w → Tab.get x.il.expo false n = v)
        ∧ (∀ m, m ≠ n.val → Tab.get x.il.csync false m = Tab.get s.il.csync false m ∧ Tab.get x.il.expo false m = Tab.get s.il.expo false m)
        ∧ Frame t [.illum, .acquire, .fields, .tx, .link] s x)
    ∧ (∀ t (c : IlCh) (a : Nat) (s : State), s.phase = .ready → (s.ilChan c).diagAt = some a → a ≤ max s.now t → s.ilDriven c = true →
      (∀ p ∈ (s.ilChan c).pulses, p.at a = false) → (s.ilChan c).dimAt.isSome = true → (s.csel c).isSome = true →
      Yields (.diagnosticPulse t c) s fun x => ⟨a, a + 2 * lsbUs, true⟩ ∈ (x.ilChan c).pulses ∧ (x.ilChan c).diagAt = none
        ∧ (∀ d, d ≠ c.val → x.ilChan d = s.ilChan d) ∧ Frame t [.illum] s x)
    ∧ (∀ t (c : IlCh) (s : State), s.phase = .ready → 0 < s.h (Reg.IL_CH_NOW_ON c) → s.h (Reg.IL_CH_STAT_UNVERIFIED c) = 0 →
      (s.ilChan c).lastMeas.getD (s.ilChan c).litAt + 10 * lsbS < max s.now t → Yields (.lampUnverified t c) s fun x =>
        x.h (Reg.IL_CH_STAT_UNVERIFIED c) = 1 ∧ OnlyFields [Reg.IL_CH_STAT_UNVERIFIED c] s x
          ∧ (∃ r, x.ev.inbox = s.ev.inbox ++ [r] ∧ r.code = Ev.lampUnverified.code ∧ r.e10 = c.val) ∧ Frame t [.fields, .events] s x)
    ∧ ∀ t (g : DrtGroup) (s : State), s.phase = .ready → (s.axChan (s.f (Reg.IL_DRT_SRC_CH g))).fail = true →
      s.h Reg.IL_STAT_DRT_FAIL / 2 ^ g.val % 2 = 0 → Yields (.lampTempLost t g) s fun x => x.h Reg.IL_STAT_DRT_FAIL = min (s.h Reg.IL_STAT_DRT_FAIL ||| 2 ^ g.val) Reg.IL_STAT_DRT_FAIL.top
        ∧ OnlyFields [Reg.IL_STAT_DRT_FAIL] s x ∧ (∃ r, x.ev.inbox = s.ev.inbox ++ [r] ∧ r.code = Ev.lampTempLost.code ∧ r.e10 = g.val)
        ∧ Frame t [.fields, .events] s x

/-- LANE_ENERGY_DETECT, LANE_CLOCK_LOCK, LANE_ALIGN, TRAINING_SCORE, LANE_RATE_SWITCH and DESKEW_DONE complete. While the die runs and no stop
of firing is to be settled (every part of the state but the status fields, the lanes, those named and what waits for a consumer whose port
is down, R365, stays): LANE_ENERGY_DETECT in DETECT (1), Frezen Link mode, the PLL in lock and no write that waits for training, leads to
state 2 and notes the instant. LANE_CLOCK_LOCK in state 2 or 3 shows the offset in LN_PPM and leads to ALIGN (4), from state 2 as well (log
entry 61). LANE_ALIGN in ALIGN, where the line bits without their stuff bits hold an alignment, inverted or not, shows the inversion and
leads to state 7 after GO, else to OFFER (5). TRAINING_SCORE in OFFER of a one-lane link with a T0 of its width and index that is locked
leads to SWITCH (6) with GO, at the highest rate of both offers. With a T0 of another width it sets MISMATCH, and the lane stays in OFFER.
LANE_RATE_SWITCH in SWITCH after 8 TRAIN superframes with GO shows the chosen rate and leads to state 7 at rate 0, else to state 3.
DESKEW_DONE with every lane of the link in state 7 and the skew their markers show, of at most 16 score times puts every lane in UP (8), and
the link is up in its width. (11_lanes_physical.md (parts of R277, R280, R286, R287, R288, R289).) -/
def Obligations.LanesTrain : Prop :=
  (∀ t (l : Lane) (s : State), s.phase = .ready → s.sq.closeDue = false → s.laneSt l = 1 → s.laneMode l = 0 → s.quadLive l = true →
      s.trainPending l = false →
      Yields (.laneEnergyDetect t l) s fun x =>
      x.laneSt l = 2 ∧ (x.lane l).since = max s.now t ∧ OnlyFields [Reg.LN_LANE_STAT_STATE l, Reg.LN_QUAD_STAT_LOCK (l / 4), Reg.FL_SUB_DROP_COUNT] s x
        ∧ Frame t [.fields, .lanes, .delivery] s x)
    ∧ (∀ t (l : Lane) (v : Score) (s : State), s.phase = .ready → s.sq.closeDue = false → s.laneSt l = 2 ∨ s.laneSt l = 3 → Yields (.laneClockLock t l v) s fun x =>
      x.laneSt l = 4 ∧ x.h (Reg.LN_PPM_PPM l) = min v.toNat (Reg.LN_PPM_PPM l).top
        ∧ OnlyFields [Reg.LN_LANE_STAT_STATE l, Reg.LN_QUAD_STAT_LOCK (l / 4), Reg.LN_PPM_PPM l, Reg.FL_SUB_DROP_COUNT] s x
        ∧ Frame t [.fields, .lanes, .delivery] s x)
    ∧ (∀ t (l : Lane) (m1 m2 m3 : List Bool) (i : Bool) (bs : List Bool) (s : State), s.phase = .ready → s.sq.closeDue = false → s.laneSt l = 4 →
      findAlignment (destuff (s.lane l).rxRun (m1 ++ m2 ++ m3)).1 = some (i, bs) →
      Yields (.laneAlign t l m1 m2 m3) s fun x => x.laneSt l = (if (s.lane l).go then 7 else 5) ∧ x.h (Reg.LN_LANE_STAT_RX_INV_DET l) = (if i then 1 else 0)
        ∧ (x.lane l).missed = 0 ∧ Frame t [.fields, .lanes, .delivery] s x)
    ∧ (∀ t (l : Lane) (v : Score) (r : Nat) (s : State), s.phase = .ready → s.sq.closeDue = false → s.laneSt l = 5 → s.linkOf l = (l.val, 1) →
      (s.lane l).rxT0 = some v → (readT0 v).width = 0 → (readT0 v).idx = 0 → (readT0 v).locked = true →
      highestRate (7 &&& s.ownRates l &&& (readT0 v).rates) = some r →
      Yields (.trainingScore t l v) s fun x => x.laneSt l = 6 ∧ (x.lane l).chosen = r ∧ (x.lane l).go = true ∧ Frame t [.fields, .lanes, .events, .delivery] s x)
    ∧ (∀ t (l : Lane) (v : Score) (s : State), s.phase = .ready → s.sq.closeDue = false → s.laneSt l = 5 → s.linkOf l = (l.val, 1) →
      (s.lane l).rxT0 = some v → (readT0 v).width ≠ 0 →
      Yields (.trainingScore t l v) s fun x => x.h (Reg.LN_LANE_STAT_MISMATCH l) = 1 ∧ x.laneSt l = 5 ∧ Frame t [.fields, .lanes, .events] s x)
    ∧ (∀ t (l : Lane) (s : State), s.phase = .ready → s.sq.closeDue = false → s.laneSt l = 6 → 8 ≤ (s.lane l).goSent → Yields (.laneRateSwitch t l) s fun x =>
      x.h (Reg.LN_LANE_STAT_RATE l) = min (s.lane l).chosen (Reg.LN_LANE_STAT_RATE l).top ∧ x.laneSt l = (if (s.lane l).chosen = 0 then 7 else 3)
        ∧ Frame t [.fields, .lanes, .delivery] s x)
    ∧ ∀ t (l : Lane) (n : Nat) (s : State), s.phase = .ready → s.sq.closeDue = false → (∀ d ∈ s.linkLanes l, s.laneSt d = 7) → s.skew (s.linkLanes l) = some n →
      n ≤ 16 * s.scoreTime l → Yields (.deskewDone t l n) s fun x =>
      (∀ d ∈ s.linkLanes l, x.laneSt d = 8) ∧ (x.link (s.linkOf l).1).up = true ∧ (x.link (s.linkOf l).1).width = (s.linkOf l).2
        ∧ Frame t [.fields, .lanes, .link, .delivery] s x

/-- TRAINING_TIMEOUT, RETRAIN, LANE_DOWN, QUAD_REF_SWITCH and BASER_LINK_CHANGE complete. While the die runs, with no stop of firing to be
settled (every part of the state but the status fields, the lanes, the links, those named and what waits for a consumer whose port is down,
R365, stays; those but the last with no write waiting or kept from before a SWAP): TRAINING_TIMEOUT of an enabled lane in states 2 to 7 for
more than 1 ms puts it in state 1 without GO and counts in LN_RETRY to its limit. RETRAIN of an enabled lane in states 1 to 10 puts it in
state 1 with no offer of its partner; of a lane in 8 or 9 every lane of the link that is in 8 or 9 and enabled goes to 1 and the link is not
up; every other lane keeps its state. LANE_DOWN of a Frezen Link lane in state 8 or 9 whose partner has not announced idle sets DOWN_SEEN,
counts in LN_DOWN_CNT to its limit, reports LANE_DOWN, and its link is not up; a lane in its own EIDLE (9) counts its loss too (log entry
64). QUAD_REF_SWITCH with AUTOREF and the other reference good shows the other one in REF_NOW and sets REF_SW_SEEN; with the other one bad
it clears LOCK and sets UNLOCK_SEEN; both may report events. BASER_LINK_CHANGE of a BASE-R lane in state 1 with the PLL in lock, block lock
and no high bit error rate on the line as it comes, with RX_INV 1 on the line inverted, puts it in UP (8) with rate code 3, shows the offset
in LN_PPM, its link is up, and with FEC 1 LN_FEC_CORR counts the corrected blocks to its limit (brought as counts, log entry 146).
(11_lanes_physical.md (parts of R273, R274, R289, R290, R291, R293, R294, R295).) -/
def Obligations.LanesFailAndRetrain : Prop :=
  (∀ t (l : Lane) (s : State), s.phase = .ready → s.sq.closeDue = false → s.regs.waiting = [] → s.regs.stale = [] → s.fu l (Reg.LN_LANE_CFG_EN l) = 1 →
      2 ≤ s.laneSt l → s.laneSt l ≤ 7 → (s.lane l).since + lsbMs < max s.now t → Yields (.trainingTimeout t l) s fun x =>
        x.laneSt l = 1 ∧ x.h (Reg.LN_RETRY_COUNT l) = min (s.h (Reg.LN_RETRY_COUNT l) + 1) (Reg.LN_RETRY_COUNT l).top ∧ (x.lane l).go = false
          ∧ Frame t [.fields, .lanes, .link, .delivery] s x)
    ∧ (∀ t (l : Lane) (s : State), s.phase = .ready → s.sq.closeDue = false → s.regs.waiting = [] → s.regs.stale = [] → s.fu l (Reg.LN_LANE_CFG_EN l) = 1 →
      1 ≤ s.laneSt l → s.laneSt l ≤ 10 → Yields (.retrain t l) s fun x =>
        x.laneSt l = 1 ∧ (x.lane l).peer = none ∧ (∀ d ∈ s.fallsWith l, s.fu d (Reg.LN_LANE_CFG_EN d) = 1 → x.laneSt d = 1)
          ∧ (∀ d, d ∉ s.fallsWith l → x.laneSt d = s.laneSt d) ∧ (s.laneSt l = 8 ∨ s.laneSt l = 9 → (x.link (s.linkOf l).1).up = false)
          ∧ Frame t [.fields, .lanes, .link, .delivery] s x)
    ∧ (∀ t (l : Lane) (s : State), s.phase = .ready → s.sq.closeDue = false → s.regs.waiting = [] → s.regs.stale = [] → s.laneSt l = 8 ∨ s.laneSt l = 9 →
      s.h (Reg.LN_LANE_STAT_PEER_IDLE l) = 0 → s.laneMode l = 0 → Yields (.laneDown t l) s fun x =>
        x.h (Reg.LN_LANE_STAT_DOWN_SEEN l) = 1 ∧ x.h (Reg.LN_DOWN_CNT_COUNT l) = min (s.h (Reg.LN_DOWN_CNT_COUNT l) + 1) (Reg.LN_DOWN_CNT_COUNT l).top
          ∧ (∃ r, x.ev.inbox = s.ev.inbox ++ [r] ∧ r.code = Ev.laneDown.code ∧ r.e10 = l.val) ∧ (x.link (s.linkOf l).1).up = false
          ∧ Frame t [.fields, .lanes, .link, .events, .delivery] s x)
    ∧ (∀ t (q : Quad) (s : State), s.phase = .ready → s.sq.closeDue = false → s.regs.waiting = [] → s.regs.stale = [] →
      s.fu q (Reg.LN_QUAD_CFG_AUTOREF q) = 1 → Yields (.quadRefSwitch t q true) s fun x =>
        x.h (Reg.LN_QUAD_STAT_REF_NOW q) = 1 - s.h (Reg.LN_QUAD_STAT_REF_NOW q) ∧ x.h (Reg.LN_QUAD_STAT_REF_SW_SEEN q) = 1
          ∧ Frame t [.fields, .lanes, .link, .events, .delivery] s x)
    ∧ (∀ t (q : Quad) (s : State), s.phase = .ready → s.sq.closeDue = false → s.regs.waiting = [] → s.regs.stale = [] → Yields (.quadRefSwitch t q false) s fun x =>
        x.h (Reg.LN_QUAD_STAT_LOCK q) = 0 ∧ x.h (Reg.LN_QUAD_STAT_UNLOCK_SEEN q) = 1 ∧ Frame t [.fields, .lanes, .link, .events, .delivery] s x)
    ∧ ∀ t (l : Lane) (r : PcsReport) (a b : Nat) (s : State), s.phase = .ready → s.sq.closeDue = false → s.laneMode l ≠ 0 → s.laneSt l = 1 →
      s.quadLive l = true → (if s.fu l (Reg.LN_LANE_CFG_RX_INV l) = 1 then r.inverted else r.plain) = ⟨true, false⟩ →
      Yields (.baserLinkChange t l r a b) s fun x =>
        x.laneSt l = 8 ∧ x.h (Reg.LN_PPM_PPM l) = min r.ppm.toNat (Reg.LN_PPM_PPM l).top ∧ x.h (Reg.LN_LANE_STAT_RATE l) = 3 ∧ (x.link (s.linkOf l).1).up = true
          ∧ (s.fu l (Reg.LN_LANE_CFG_FEC l) = 1 → x.h (Reg.LN_FEC_CORR_COUNT l) = min (s.h (Reg.LN_FEC_CORR_COUNT l) + a) (Reg.LN_FEC_CORR_COUNT l).top)
          ∧ Frame t [.fields, .lanes, .link, .delivery] s x

/-- MARKER_RECEIVE, LIVE_WRITE_APPLY, FILL_BLOCK_RECEIVE, FILL_BLOCK_SEND, EIDLE_REQUEST, EIDLE_EXIT, DEEP_REQUEST and WAKE_DETECT complete.
While the die runs, with no stop of firing to be settled (every part of the state but the status fields, the lanes and those named stays, in
all but the first of LIVE_WRITE_APPLY, and where a lane changes its state but for what waits for a consumer whose port is down, R365):
MARKER_RECEIVE of an enabled training lane (5 to 7, Frezen Link, the partner not idle, no write waiting or kept) with a TRAIN superframe
clears the run of bad markers, notes its SEQ, the instant of its first bit and its descrambled first score, and LN_STUFF_CNT counts the
stuff bits removed to its limit; the lane's state stays. LIVE_WRITE_APPLY of an enabled lane with its LN_TX_EQ write alone waiting makes
that value the one in effect, nothing waits any more, and the lane's state stays. LIVE_WRITE_APPLY of an enabled one-lane link in training
(1 to 7, the PLL in lock, no FILL block due, no write waiting or kept) sends one block: a TRAIN marker with the lane's SEQ, its T0 and 62
zeros. LIVE_WRITE_APPLY is the boundary of the LN_ and FL_ writes and sends the next superframe of the lane's link (log entries 62 and 140).
FILL_BLOCK_RECEIVE of a FILL block seen on a one-lane link in UP takes the scores exchanged since its marker, one in 1, 2 or 4 island cycles
by the rate (judged at blocks, log entry 139), off the fill, and leaves a fill of then 14 to 18; above 18, to 32, it deletes up to 3 scores
down toward 18 and counts them in LN_FILL_DEL to its limit. FILL_BLOCK_SEND of a one-lane link in states 1 to 8 with the PLL in lock sends
one FILL block. EIDLE_REQUEST in UP puts every UP lane of the link in state 9 (superframes are sent). EIDLE_EXIT with a packet waiting puts
every lane of the link that is in state 9 in UP (superframes are sent). DEEP_REQUEST in state 1 puts the lane in DEEP (10); the other lanes
keep their states. WAKE_DETECT of an enabled lane in DEEP with WAKE_DET, no write waiting or kept, puts it in state 1, and LOCK is 1 where
the quad's reference is good; links may change. (11_lanes_physical.md (parts of R277, R278, R281, R282, R286, R292, R293);
01_node_architecture.md (parts of R34).) -/
def Obligations.LanesCarryAndSleep : Prop :=
  (∀ t (l : Lane) (f : Nat) (mk line : List Bool) (v : Score) (cy : Nat) (m : Score) (r : List Score) (s : State), s.phase = .ready → s.sq.closeDue = false →
      s.regs.waiting = [] → s.regs.stale = [] → s.fu l (Reg.LN_LANE_CFG_EN l) = 1 → 5 ≤ s.laneSt l → s.laneSt l ≤ 7 → s.laneMode l = 0 →
      s.h (Reg.LN_LANE_STAT_PEER_IDLE l) = 0 →
      (lineScores (destuff (s.lane l).rxRun (mk ++ line)).1).map (polar (s.h (Reg.LN_LANE_STAT_RX_INV_DET l) == 1)) = m :: r → markerType m = some 2 →
      Yields (.markerReceive t l f mk line v cy) s fun x => (x.lane l).missed = 0 ∧ (x.lane l).rxSeq = some (markerSeq m) ∧ (x.lane l).rxAt = f
        ∧ (x.lane l).rxT0 = (descramble (s.lane l).descr r).1.head? ∧ x.laneSt l = s.laneSt l
        ∧ x.h (Reg.LN_STUFF_CNT_COUNT l) = min (s.h (Reg.LN_STUFF_CNT_COUNT l) + (destuff (s.lane l).rxRun (mk ++ line)).2.2.1) (Reg.LN_STUFF_CNT_COUNT l).top
        ∧ Frame t [.fields, .lanes] s x)
    ∧ (∀ t (l : Lane) (v : Score) (at_ : Nat) (s : State), s.phase = .ready → s.sq.closeDue = false → s.laneSt l ≠ 0 → s.fu l (Reg.LN_LANE_CFG_EN l) = 1 →
      s.regs.stale = [] → s.regs.waiting = [{ addr := Reg.LN_TX_EQ l, value := v, acceptedAt := at_, served := [l.val], left := [l.val] }] →
      at_ < s.now → Yields (.liveWriteApply t l) s fun x => x.act (Reg.LN_TX_EQ l) = v ∧ x.regs.waiting = [] ∧ x.laneSt l = s.laneSt l)
    ∧ (∀ t (l : Lane) (s : State), s.phase = .ready → s.sq.closeDue = false → s.regs.waiting = [] → s.regs.stale = [] →
      s.fu l (Reg.LN_LANE_CFG_EN l) = 1 → s.linkOf l = (l.val, 1) → 1 ≤ s.laneSt l → s.laneSt l ≤ 7 → s.laneMode l = 0 → s.quadLive l = true →
      (s.lane l).sinceFill < 63 → (s.lane l).spacing ≤ 4096 → Yields (.liveWriteApply t l) s fun x =>
        (∃ b, x.tx = s.tx ++ [.block l (markerScore 2 (s.lane l).txSeq :: s.ownT0 l :: List.replicate 62 0) b]) ∧ Frame t [.tx, .lanes] s x)
    ∧ (∀ t (l : Lane) (cy n : Nat) (s : State), s.phase = .ready → s.sq.closeDue = false → s.laneSt l = 8 → s.linkOf l = (l.val, 1) → s.laneMode l = 0 →
      (s.lane l).fillSeen = true → (s.lane l).decided ≤ (s.lane l).fills → s.h (Reg.LN_EB_FILL l) = n + ((s.lane l).cycles + cy) / s.cyclesPerScore l → 14 ≤ n → n ≤ 18 →
      Yields (.fillBlockReceive t l cy) s fun x => x.h (Reg.LN_EB_FILL l) = n ∧ (x.lane l).fillSeen = false
        ∧ OnlyFields [Reg.LN_EB_FILL l, Reg.LN_FILL_REP_COUNT l] s x ∧ Frame t [.fields, .lanes] s x)
    ∧ (∀ t (l : Lane) (cy n : Nat) (s : State), s.phase = .ready → s.sq.closeDue = false → s.laneSt l = 8 → s.linkOf l = (l.val, 1) → s.laneMode l = 0 →
      (s.lane l).fillSeen = true → (s.lane l).decided ≤ (s.lane l).fills → s.h (Reg.LN_EB_FILL l) = n + ((s.lane l).cycles + cy) / s.cyclesPerScore l → 18 < n → n ≤ 32 →
      Yields (.fillBlockReceive t l cy) s fun x => x.h (Reg.LN_EB_FILL l) = n - min 3 (n - 18)
        ∧ x.h (Reg.LN_FILL_DEL_COUNT l) = min (s.h (Reg.LN_FILL_DEL_COUNT l) + min 3 (n - 18)) (Reg.LN_FILL_DEL_COUNT l).top ∧ Frame t [.fields, .lanes] s x)
    ∧ (∀ t (l : Lane) (s : State), s.phase = .ready → s.sq.closeDue = false → s.linkOf l = (l.val, 1) → 1 ≤ s.laneSt l → s.laneSt l ≤ 8 → s.laneMode l = 0 →
      s.quadLive l = true → Yields (.fillBlockSend t l) s fun x => (∃ b, x.tx = s.tx ++ [.block l [0xE110E, 0xA5A5A, 0xA5A5A, 0xA5A5A] b])
        ∧ Frame t [.tx, .lanes] s x)
    ∧ (∀ t (l : Lane) (s : State), s.phase = .ready → s.sq.closeDue = false → s.laneSt l = 8 → s.laneMode l = 0 → Yields (.eidleRequest t l) s fun x =>
      (∀ d ∈ s.linkLanes l, s.laneSt d = 8 → x.laneSt d = 9) ∧ Frame t [.fields, .lanes, .tx, .delivery] s x)
    ∧ (∀ t (l : Lane) (s : State), s.phase = .ready → s.sq.closeDue = false → (s.link (s.linkOf l).1).queue ≠ [] → Yields (.eidleExit t l) s fun x =>
      (∀ d ∈ s.linkLanes l, s.laneSt d = 9 → x.laneSt d = 8) ∧ Frame t [.fields, .lanes, .tx, .delivery] s x)
    ∧ (∀ t (l : Lane) (s : State), s.phase = .ready → s.sq.closeDue = false → s.laneSt l = 1 → Yields (.deepRequest t l) s fun x =>
      x.laneSt l = 10 ∧ (∀ d, d ≠ l.val → x.laneSt d = s.laneSt d) ∧ Frame t [.fields, .lanes, .delivery] s x)
    ∧ ∀ t (l : Lane) (s : State), s.phase = .ready → s.sq.closeDue = false → s.regs.waiting = [] → s.regs.stale = [] → s.fu l (Reg.LN_LANE_CFG_EN l) = 1 →
      s.laneSt l = 10 → s.fu l (Reg.LN_LANE_CFG_WAKE_DET l) = 1 → Yields (.wakeDetect t l) s fun x =>
        x.laneSt l = 1 ∧ (s.quadRefOk (l / 4) = true → x.h (Reg.LN_QUAD_STAT_LOCK (l / 4)) = 1) ∧ Frame t [.fields, .lanes, .link, .delivery] s x

/-- CAPS_SEND, CAPS_RECEIVE, HELLO_SEND, HELLO_RECEIVE and PACKET_DISCARD complete. While the die runs, b being the lane that a lane's link is
named by (every part of the state but the links and those named stays; what counts as one exchange, log entry 66): CAPS_SEND on a link that
is up, its CAPS exchange not complete, in Frezen Link mode, when due, puts a CAPS of versions 7, profile and identity among the packets that
wait, and completes the exchange exactly if the partner's CAPS has come. CAPS_RECEIVE of a CAPS of three scores that is not refused, on a
link that is up and has none, gives the link its identity and the highest version of its first score. HELLO_SEND on a link that can carry
packets, its lane not an Ethernet port, when due, puts the HELLO among the packets that wait. HELLO_RECEIVE of eight scores from the one
partner of the table, on its port, leaves that one partner in its place, heard now with that HELLO; Shepherd, status fields and events may
change. PACKET_DISCARD of an oldest packet that does not stand takes it and counts in FL_PKT_ERR alone, to its limit.
(12_frezen_link_partners.md (parts of R299, R300, R301, R304, R305).) -/
def Obligations.LinksIntroduceThemselves : Prop :=
  (∀ t (l : Lane) (s : State), s.phase = .ready → (s.link (s.linkOf l).1).up = true → (s.link (s.linkOf l).1).capsDone = false → s.laneMode (s.linkOf l).1 = 0 →
      dueAgain (max s.now t) (s.link (s.linkOf l).1).capsAt lsbMs = true → Yields (.capsSend t l) s fun x =>
        (x.link (s.linkOf l).1).queue = ((s.link (s.linkOf l).1).push ⟨1,
          [BitVec.ofNat 20 (7 * 2 ^ 17 + laneProfile (s.linkOf l).1 * 2 ^ 15), BitVec.ofNat 20 (s.ident / 2 ^ 20), BitVec.ofNat 20 s.ident]⟩).queue
          ∧ (x.link (s.linkOf l).1).capsAt = some (max s.now t)
          ∧ (x.link (s.linkOf l).1).capsDone = (s.link (s.linkOf l).1).capsGot ∧ Frame t [.link] s x)
    ∧ (∀ t (l : Lane) (a b c : Score) (z : Nat) (r : List RxPacket) (s : State), s.phase = .ready → s.holds l 1 [a, b, c] z r → (s.link (s.linkOf l).1).up = true →
      (s.link (s.linkOf l).1).capsGot = false → s.capsRefusal (s.linkOf l).1 (a.toNat / 2 ^ 17) (a.toNat / 2 ^ 15 % 4) = none → Yields (.capsReceive t l) s fun x =>
        (x.link (s.linkOf l).1).capsGot = true ∧ (x.link (s.linkOf l).1).ident = (joinHL b c).toNat ∧ (x.link (s.linkOf l).1).arrived = r
          ∧ (x.link (s.linkOf l).1).version = (highestRate (a.toNat / 2 ^ 17)).elim 0 (· + 1) ∧ Frame t [.link] s x)
    ∧ (∀ t (l : Lane) (s : State), s.phase = .ready → s.ethUp l = false → s.portUp (.lane (s.linkOf l).1) = true →
      dueAgain (max s.now t) (s.link (s.linkOf l).1).helloAt s.beacon = true → Yields (.helloSend t l) s fun x =>
        (x.link (s.linkOf l).1).queue = ((s.link (s.linkOf l).1).push ⟨2, s.helloBody (laneProfile (s.linkOf l).1) (s.link (s.linkOf l).1).version⟩).queue
          ∧ (x.link (s.linkOf l).1).helloAt = some (max s.now t) ∧ Frame t [.link] s x)
    ∧ (∀ t (l : Lane) (b : List Score) (z : Nat) (r : List RxPacket) (p : Partner) (s : State), s.phase = .ready → s.holds l 2 b z r → b.length = 8 →
      (joinHL (b.getD 0 0) (b.getD 1 0)).toNat ≠ s.ident → s.fl.partners = [p] → p.ident = (joinHL (b.getD 0 0) (b.getD 1 0)).toNat →
      p.port = .lane (s.linkOf l).1 → Yields (.helloReceive t (.link l)) s fun x =>
        (∃ q, x.fl.partners = [q] ∧ q.ident = p.ident ∧ q.heardAt = max s.now t ∧ q.hello = b ∧ q.idx = p.idx)
          ∧ Frame t [.link, .shepherd, .fields, .events] s x)
    ∧ ∀ t (l : Lane) (p : RxPacket) (r : List RxPacket) (s : State), s.phase = .ready → (s.link (s.linkOf l).1).arrived = p :: r → p.ok = false →
      Yields (.packetDiscard t (.link l)) s fun x => (x.link (s.linkOf l).1).arrived = r
        ∧ x.h Reg.FL_PKT_ERR_COUNT = min (s.h Reg.FL_PKT_ERR_COUNT + 1) Reg.FL_PKT_ERR_COUNT.top ∧ OnlyFields [Reg.FL_PKT_ERR_COUNT] s x
        ∧ Frame t [.fields, .link] s x

/-- DETACH, CONSIST_RECEIVE and SUB_EXPIRED complete. While the die runs: DETACH of a partner of the table whose time has come leaves no partner
of its identity and no subscription of it; the illuminators, the servo and both configuration sets stay. CONSIST_RECEIVE of seven scores on
a backbone lane (128 and up) keeps the low 32 bits of the first two scores as the topology counter (the model's width, log 123) and the
third as the position; the position in effect stays, and so does every part of the state but the links, Shepherd, status fields and events.
SUB_EXPIRED of a subscription whose time has ended leaves none at its index and reports SUB_EXPIRED; only status fields, links, events and
the delivery queues change. The width of the topology counter, that the first CONSIST is a change, and the source of the events are log
entries 123 and 129. (01_node_architecture.md (parts of R45); 12_frezen_link_partners.md (parts of R306, R307, R308, R309).) -/
def Obligations.PartnersLeaveAndConsistSpeaks : Prop :=
  (∀ t (i : Fin 256) (p : Partner) (s : State), s.phase = .ready → s.fl.partners.find? (fun q => decide (q.idx = i.val)) = some p →
      (s.clock t).detachDue p = true → Yields (.detach t i) s fun x => (∀ q ∈ x.fl.partners, q.ident ≠ p.ident)
        ∧ (∀ u ∈ x.fl.subs, Sub.ofPartner p.ident u = false) ∧ x.il = s.il ∧ x.sv = s.sv ∧ x.regs.setA = s.regs.setA ∧ x.regs.setB = s.regs.setB)
    ∧ (∀ t (l : Lane) (b : List Score) (z : Nat) (r : List RxPacket) (s : State), s.phase = .ready → s.holds l 15 b z r → b.length = 7 → 128 ≤ (s.linkOf l).1 →
      Yields (.consistReceive t (.link l)) s fun x => x.fl.consist.have_ = true ∧ x.fl.consist.counter = (joinHL (b.getD 0 0) (b.getD 1 0)).toNat
        ∧ x.fl.consist.position = b.getD 2 0 ∧ x.fl.consist.inEffect = s.fl.consist.inEffect ∧ Frame t [.link, .shepherd, .fields, .events] s x)
    ∧ ∀ t (i : Fin 1024) (u : Sub) (e : Nat) (s : State), s.phase = .ready → s.fl.subs.find? (fun v => decide (v.idx = i.val)) = some u →
      u.expires = some e → e ≤ max s.now t → Yields (.subExpired t i) s fun x => (∀ v ∈ x.fl.subs, v.idx ≠ i.val)
        ∧ (∃ z, x.ev.inbox = s.ev.inbox ++ [z] ∧ z.code = Ev.subExpired.code ∧ z.e10 = i.val) ∧ Frame t [.fields, .link, .events, .delivery] s x

/-- PLAN_ANN_SEND, PLAN_ANN_RECEIVE, PLAN_ACTIVATION and PLAN_TIMEOUT complete. While the die runs: PLAN_ANN_SEND in STATE 1 announces as
earliest activation the node time 100 ms later; Fold, the tiles and both configuration sets stay. PLAN_ANN_RECEIVE of a packet from a
partner that takes part in plans takes the packet and keeps the announcement's digest and earliest activation as heard now; only links,
Shepherd, status fields and events change. PLAN_ACTIVATION in STATE 2 of a plan that is due sets STATE 3 and N, the plan's φ waits for the
frame boundary, and no activation stands; only Shepherd and status fields change. PLAN_TIMEOUT in STATE 1 for 2 s starts the time anew and
reports PLAN_TIMEOUT; only Shepherd and events change. (04_shepherd_sequencer.md (parts of R135, R136, R137, R138).) -/
def Obligations.PlansAreNegotiated : Prop :=
  (∀ t (s : State), s.phase = .ready → s.h Reg.SQ_PLAN_STAT_STATE = 1 → Yields (.planAnnSend t) s fun x =>
      x.sq.plan.earliest = some ((s.clock t).nodeTime + 100 * lsbMs) ∧ x.fd = s.fd ∧ x.tl = s.tl ∧ x.regs.setA = s.regs.setA ∧ x.regs.setB = s.regs.setB)
    ∧ (∀ t (l : Lane) (b : List Score) (z : Nat) (r : List RxPacket) (a : PlanAnn) (s : State), s.phase = .ready → s.holds l 8 b z r →
      s.planPartners.any (fun p => decide (p.ident = a.ident)) = true → Yields (.planAnnReceive t (.link l) a) s fun x =>
        (∃ p ∈ x.sq.plan.peers, p.ident = a.ident ∧ p.digest = a.digest ∧ p.earliest = a.earliest ∧ p.heardAt = some (max s.now t))
          ∧ (x.link (s.linkOf l).1).arrived = r ∧ Frame t [.link, .shepherd, .fields, .events] s x)
    ∧ (∀ t (n : Nat) (s : State), s.phase = .ready → s.sq.plan.activation = some n → s.h Reg.SQ_PLAN_STAT_STATE = 2 → n ≤ (s.clock t).nodeTime →
      Yields (.planActivation t) s fun x => x.h Reg.SQ_PLAN_STAT_STATE = 3 ∧ x.h Reg.SQ_PLAN_STAT_N = min s.sq.plan.newN Reg.SQ_PLAN_STAT_N.top
        ∧ x.sq.plan.phiDue = some s.sq.plan.newPhi ∧ x.sq.plan.activation = none ∧ Frame t [.shepherd, .fields] s x)
    ∧ ∀ t (s : State), s.phase = .ready → s.h Reg.SQ_PLAN_STAT_STATE = 1 → s.sq.plan.since + 2 * lsbS ≤ max s.now t → Yields (.planTimeout t) s fun x =>
        x.sq.plan.since = max s.now t ∧ (∃ z, x.ev.inbox = s.ev.inbox ++ [z] ∧ z.code = Ev.planTimeout.code) ∧ Frame t [.shepherd, .events] s x

/-- ENDSHOT_RECEIVE, HEVT_RECEIVE, HEAD_TIME_REQUEST, TIME_REPLY_RECEIVE, TIME_REPLY_TIMEOUT and TRIG_RECEIVE complete. While the die runs:
ENDSHOT_RECEIVE from the link of an attached head takes the packet and gives Fold one close token for each pixel of the head that takes part
in the shot; only links and Fold change. HEVT_RECEIVE with FD_CFG.EN of one event of a shot whose emission reference has been measured, for
a pixel that the head has, with no loss owed and a stamp from 0 to 1,048,575 after the shot's reference is taken off, gives Fold that one
head event; only links and Fold change. HEAD_TIME_REQUEST of an attached head on a link that can carry packets, 1 ms or more after the last,
puts a TIME packet among those that wait and a request is under way whose send stamp is not yet known; only links and the free counter
change. TIME_REPLY_RECEIVE of four scores within 100 µs of a request whose TIME has gone ends the request and takes the packet; Fold and
Shepherd stay. TIME_REPLY_TIMEOUT 100 µs after a request ends it; the other heads stay. TRIG_RECEIVE where the TRIG marker is the selected
start takes the packet, and: where no scan part runs it counts in SQ_START_DROP alone, to its limit; while a cycle runs in a scan part that
no stop has ended, with none pending, it is marked PEND; with one pending it counts in SQ_START_DROP alone; with no cycle running or planned
it plans the next cycle for 3,200 LSB (25 ns) later, where that is before SCAN_END, and counts in SQ_START_DROP alone where it is not; Fold
and the tiles stay. That an HEVT waits for its shot’s reference is log entry 68. (04_shepherd_sequencer.md (parts of R131, R132);
05_fold_engine.md (parts of R140, R141); 12_frezen_link_partners.md (parts of R313, R316, R317, R321).) -/
def Obligations.HeadsReportShots : Prop :=
  (∀ t (l : Lane) (b : List Score) (z : Nat) (r : List RxPacket) (k : Nat) (s : State), s.phase = .ready → s.holds l 11 b z r → s.slotOn (s.linkOf l).1 = some k →
      Yields (.endshotReceive t l) s fun x =>
        x.fd.intake = s.fd.intake ++ (s.shotPixels (b.getD 0 0).toNat k).map (fun p => .token p (b.getD 0 0).toNat)
          ∧ (x.link (s.linkOf l).1).arrived = r ∧ Frame t [.link, .fold] s x)
    ∧ (∀ t (l : Lane) (q a b : Score) (z : Nat) (r : List RxPacket) (k : Nat) (y : TeShot) (n : Int) (s : State), s.phase = .ready → s.holds l 12 [q, a, b] z r →
      s.f Reg.FD_CFG_EN = 1 → s.slotOn (s.linkOf l).1 = some k → (s.link (s.linkOf l).1).gap = false →
      s.tl.shots.find? (fun v => decide (v.seq = q.toNat)) = some y → y.ffb = some n →
      b.toNat % 2 ^ 14 < s.headCount k → 512 + s.headBase k + b.toNat % 2 ^ 14 ≤ 16895 → (s.head k).lossPix = [] →
      0 ≤ (a.toNat : Int) - (stampDiff n y.place - sgn 20 (s.f (Reg.TE_FFB_DLY_DLY y.emitter))) →
      (a.toNat : Int) - (stampDiff n y.place - sgn 20 (s.f (Reg.TE_FFB_DLY_DLY y.emitter))) ≤ 1048575 → Yields (.hevtReceive t l) s fun x =>
        x.fd.intake = s.fd.intake ++ [.head (512 + s.headBase k + b.toNat % 2 ^ 14) q.toNat
          (BitVec.ofInt 20 ((a.toNat : Int) - (stampDiff n y.place - sgn 20 (s.f (Reg.TE_FFB_DLY_DLY y.emitter)))))
          (decide (b.toNat / 2 ^ 19 = 1)) (decide (b.toNat / 2 ^ 18 % 2 = 1))] ∧ Frame t [.link, .fold] s x)
    ∧ (∀ t (k : HeadSlot) (s : State), s.phase = .ready → s.h (Reg.FL_HEAD_STAT_ATTACHED k) = 1 → s.portUp (.lane (s.head k).lane) = true →
      dueAgain (max s.now t) (s.head k).asked lsbMs = true → Yields (.headTimeRequest t k) s fun x =>
        (x.head k).request = some (max s.now t) ∧ (x.head k).asked = some (max s.now t) ∧ (x.head k).t1 = none
        ∧ (x.link (s.head k).lane).queue = ((s.link (s.head k).lane).push ⟨13, (Config.timeBody s.freeCtr).take 8⟩).queue ∧ Frame t [.link, .freeCtr] s x)
    ∧ (∀ t (l : Lane) (a b c d : Score) (z : Nat) (r : List RxPacket) (k n m : Nat) (s : State), s.phase = .ready → s.holds l 13 [a, b, c, d] z r →
      s.slotOn (s.linkOf l).1 = some k → (s.head k).request = some n → (s.head k).t1 = some m → max s.now t < n + 100 * lsbUs →
      Yields (.timeReplyReceive t l) s fun x => (x.head k).request = none ∧ (x.link (s.linkOf l).1).arrived = r ∧ x.fd = s.fd ∧ x.sq = s.sq)
    ∧ (∀ t (k : HeadSlot) (n : Nat) (s : State), s.phase = .ready → (s.head k).request = some n → n + 100 * lsbUs ≤ max s.now t → Yields (.timeReplyTimeout t k) s fun x =>
      x.head k = { s.head k with request := none } ∧ (∀ j, j ≠ k.val → x.head j = s.head j) ∧ Frame t [.link] s x)
    ∧ (∀ t (l : Lane) (b : List Score) (z : Nat) (r : List RxPacket) (s : State), s.phase = .ready → s.holds l 9 b z r →
      s.fq Reg.SQ_CFG_START_SRC = 1 → s.fq Reg.SQ_CFG_EXT_SEL = 3 →
      s.sq.inScan = false ∨ (s.sq.halted = false ∧ s.sq.cyc.isSome = true ∧ s.h Reg.SQ_STAT_PEND = 1)
        ∨ (s.sq.halted = false ∧ s.sq.cyc = none ∧ s.sq.upcoming = none ∧ s.sq.scanEndAt ≤ max s.now t + 3200) →
      Yields (.trigReceive t l) s fun x =>
        (x.link (s.linkOf l).1).arrived = r ∧ x.h Reg.SQ_START_DROP_COUNT = min (s.h Reg.SQ_START_DROP_COUNT + 1) Reg.SQ_START_DROP_COUNT.top
          ∧ OnlyFields [Reg.SQ_START_DROP_COUNT] s x ∧ Frame t [.fields, .link] s x)
    ∧ (∀ t (l : Lane) (b : List Score) (z : Nat) (r : List RxPacket) (s : State), s.phase = .ready → s.holds l 9 b z r →
      s.fq Reg.SQ_CFG_START_SRC = 1 → s.fq Reg.SQ_CFG_EXT_SEL = 3 → s.sq.inScan = true → s.sq.halted = false → s.sq.cyc.isSome = true →
      s.h Reg.SQ_STAT_PEND = 0 → Yields (.trigReceive t l) s fun x =>
        x.h Reg.SQ_STAT_PEND = 1 ∧ x.sq.cyc = s.sq.cyc ∧ (x.link (s.linkOf l).1).arrived = r ∧ OnlyFields [Reg.SQ_STAT_PEND] s x
          ∧ Frame t [.fields, .link, .shepherd] s x)
    ∧ ∀ t (l : Lane) (b : List Score) (z : Nat) (r : List RxPacket) (s : State), s.phase = .ready → s.holds l 9 b z r →
      s.fq Reg.SQ_CFG_START_SRC = 1 → s.fq Reg.SQ_CFG_EXT_SEL = 3 → s.sq.inScan = true → s.sq.halted = false → s.sq.cyc = none → s.sq.upcoming = none →
      max s.now t + 3200 < s.sq.scanEndAt → Yields (.trigReceive t l) s fun x =>
        (∃ y, x.sq.upcoming = some y ∧ y.startAt = max s.now t + 3200 ∧ y.no = s.sq.cycles + 1 ∧ y.next = 0)
          ∧ (x.link (s.linkOf l).1).arrived = r ∧ x.fd = s.fd ∧ x.tl = s.tl

/-- PTP_ANNOUNCE_RECEIVE, PTP_SYNC_RECEIVE, PTP_DELAY_RESP_RECEIVE, PTP_SYNC_TIMEOUT and EP_TIME_READ complete. While the die runs: for a PTP
message whose frame is kept and that the node takes, PTP_ANNOUNCE_RECEIVE chooses the best of the time transmitters heard within the receipt
time-out, with the sender's data set anew among them (the order of data sets and the time-out are PRESUMED, log entry 69), and lock stays
(only links and status fields change); PTP_SYNC_RECEIVE of the transmitter chosen of those still heard notes the instant and the difference
of node time and its stamp, a Delay_Req leaves on its lane, and the time offset, Fold and the tiles stay; PTP_DELAY_RESP_RECEIVE of the
chosen one while a Delay_Req is unanswered sets the path delay to half the sum of that difference and the stamps' difference, rounded, and
nothing else changes. PTP_SYNC_TIMEOUT while locked, 3 s after the last Sync, ends lock and choice, and SQ_PLAN_STAT.STATE is 0 (only status
fields, links, Shepherd and events change). EP_TIME_READ latches node time in seconds and nanoseconds in the EP_TIME fields, and nothing
else changes. The slew is log entry 161. (12_frezen_link_partners.md (parts of R318, R319, R326).) -/
def Obligations.NodeTimeFollowsPtp : Prop :=
  (∀ t (m : PtpFrom) (ann : PtpAnnounce) (s : State), s.phase = .ready → s.frameKept m.env s.servedPorts = true → s.ptpTakes m = true →
      Yields (.ptpAnnounceReceive t m ann) s fun x => x.fl.ptp.chosen = bestMaster ((s.clock t).ptpHeard.filter
          (fun z => decide (z.ident ≠ m.sender) || decide (z.lane ≠ m.lane.val)) ++ [{ ann := ann, heardAt := max s.now t, lane := m.lane, ident := m.sender }])
        ∧ x.fl.ptp.locked = s.fl.ptp.locked ∧ Frame t [.fields, .link] s x)
    ∧ (∀ t (m : PtpFrom) (n : Nat) (s : State), s.phase = .ready → s.frameKept m.env s.servedPorts = true → s.ptpTakes m = true →
      ((s.clock t).ptpPrune.fl.ptp.chosen.any fun c => decide (c.ident = m.sender) && decide (c.lane = m.lane.val)) = true →
      Yields (.ptpSyncReceive t m n) s fun x =>
        x.fl.ptp.lastSync = max s.now t ∧ x.fl.ptp.syncDiff = ((s.clock t).nodeTime : Int) - n ∧ x.fl.ptp.asked = true
          ∧ .delayReq m.lane m.domain m.udp (s.ether m.lane) ∈ x.tx ∧ x.nodeOfs = s.nodeOfs ∧ x.fd = s.fd ∧ x.tl = s.tl)
    ∧ (∀ t (m : PtpFrom) (a b : Nat) (s : State), s.phase = .ready → s.frameKept m.env s.servedPorts = true → s.ptpTakes m = true →
      s.fl.ptp.asked = true → (s.fl.ptp.chosen.any fun c => decide (c.ident = m.sender) && decide (c.lane = m.lane.val)) = true →
      Yields (.ptpDelayRespReceive t m a b) s fun x =>
        x.fl = { s.fl with ptp := { s.fl.ptp with asked := false, delay := roundDiv (s.fl.ptp.syncDiff + ((b : Int) - a)) 2 } } ∧ Frame t [.link] s x)
    ∧ (∀ t (s : State), s.phase = .ready → s.fl.ptp.lastSync + 3 * lsbS ≤ max s.now t → s.fl.ptp.locked = true → Yields (.ptpSyncTimeout t) s fun x =>
        x.fl.ptp.locked = false ∧ x.fl.ptp.chosen = none ∧ x.h Reg.SQ_PLAN_STAT_STATE = 0 ∧ Frame t [.fields, .link, .shepherd, .events] s x)
    ∧ ∀ t (s : State), s.phase = .ready → Yields (.epTimeRead t) s fun x =>
        x.h Reg.EP_TIME_SEC_SEC = (s.clock t).nodeTime / lsbS % 2 ^ 20
          ∧ x.h Reg.EP_TIME_NS_H_NS * 2 ^ 20 + x.h Reg.EP_TIME_NS_L_NS = (s.clock t).nodeTime % lsbS / 128
          ∧ OnlyFields [Reg.EP_TIME_SEC_SEC, Reg.EP_TIME_NS_H_NS, Reg.EP_TIME_NS_L_NS] s x ∧ Frame t [.fields] s x

/-- EVENT_REPORT, EVENT_MERGE_END, EVENT_PACKET_SEND and EVENT_PACKET_RECEIVE complete. While the die runs: EVENT_REPORT takes the oldest
report, and after it a merge window for its source and code is open; both configuration sets, Fold and Shepherd stay. EVENT_MERGE_END, where
no two windows have one source and code, leaves open exactly the windows that are not 20 ms old; the reports not yet taken stay, and only
status fields and events change. EVENT_PACKET_SEND to the service port with a record waiting, a token left and no packet waiting there makes
a packet wait there, counts its sequence on, and takes one token; only events and the command interface change. EVENT_PACKET_RECEIVE of a
link's EVENT packet takes it and puts its records, each with a port of arrival, behind the reports not yet taken; only events and links
change. How counts merge is log entry 72. (12_frezen_link_partners.md (parts of R322, R323, R324); 15_command_interface.md (parts of R398).) -/
def Obligations.EventsAreMergedAndSent : Prop :=
  (∀ t (r : Report) (l : List Report) (s : State), s.phase = .ready → s.ev.inbox = r :: l → Yields (.eventReport t) s fun x => x.ev.inbox = l
      ∧ (∃ w ∈ x.ev.windows, (w.src, w.code) = r.key) ∧ x.regs.setA = s.regs.setA ∧ x.regs.setB = s.regs.setB ∧ x.fd = s.fd ∧ x.sq = s.sq)
    ∧ (∀ t (s : State), s.phase = .ready → (s.ev.windows.Pairwise fun v w => (v.src, v.code) ≠ (w.src, w.code)) → Yields (.eventMergeEnd t) s fun x =>
      (∀ w, w ∈ x.ev.windows ↔ w ∈ s.ev.windows ∧ max s.now t < w.opened + 20 * lsbMs) ∧ x.ev.inbox = s.ev.inbox ∧ Frame t [.fields, .events] s x)
    ∧ (∀ t (i : Fin 1024) (d : EvDest) (s : State), s.phase = .ready → s.ev.dests[i.val]? = some d → d.who = .svc → s.cm.event = none →
      (d.refill (max s.now t)).waiting ≠ [] → (d.refill (max s.now t)).tokens ≠ 0 → Yields (.eventPacketSend t i) s fun x =>
        x.cm.event.isSome = true ∧ x.cm.evSeq = (s.cm.evSeq + 1) % 256
          ∧ (∃ d', x.ev.dests[i.val]? = some d' ∧ d'.tokens = (d.refill (max s.now t)).tokens - 1) ∧ Frame t [.events, .command] s x)
    ∧ ∀ t (l : Lane) (b : List Score) (z : Nat) (r : List RxPacket) (s : State), s.phase = .ready → s.holds l 5 b z r → Yields (.eventPacketReceive t (.link l)) s fun x =>
        (∃ rs, x.ev.inbox = s.ev.inbox ++ rs ∧ ∀ v ∈ rs, v.port.isSome = true) ∧ (x.link (s.linkOf l).1).arrived = r ∧ Frame t [.events, .link] s x

/-- SI_RECORD_TAKE, RESULT_CROSS_CHECK and FRAME_MISSING_TIMEOUT complete. While the die runs: SI_RECORD_TAKE by a healthy island of a point
record takes it from its queue, keeps it first among the records of the frame, and so raises by one the count of every enabled zone that it
qualifies for and of no other enabled zone; the other island and every part of the state but the islands' stay. SI_RECORD_TAKE of a MARK
keeps the frame's number and an evaluation of eight channels, starts the records of a frame anew, and leaves no channel with a cause
energised. RESULT_CROSS_CHECK of two healthy islands with an evaluation each shows each island's own, takes both, gives each channel at
least the causes of both, and leaves no channel energised whose evaluations differ in frame, causes or zones, or with unequal copies of the
SF_ values. RESULT_CROSS_CHECK with one healthy island that has an evaluation shows and takes it. FRAME_MISSING_TIMEOUT of a healthy island
that has had a MARK, T_F + 2 ms after it, notes it and leaves no channel energised. But for the first, only status fields, the islands,
events and what is sent change. (13_safety_functions.md (parts of R334, R336, R337, R338).) -/
def Obligations.FramesAreEvaluated : Prop :=
  (∀ t (i : Island) (v : List Score) (r : List (List Score)) (s : State), s.phase = .ready → s.siHealthy i.ix = true → (s.si i.ix).queue = v :: r →
      (v.getD 2 0).toNat / 2 ^ 16 ≠ 15 → Yields (.siRecordTake t i) s fun x =>
        (x.si i.ix).queue = r ∧ (x.si i.ix).recs = v :: (s.si i.ix).recs ∧ x.si i.other = s.si i.other
          ∧ (∀ z ∈ enabledZones (s.si i.ix).copy, (x.si i.ix).zoneCount (s.si i.ix).copy z.1 z.2
              = (s.si i.ix).zoneCount (s.si i.ix).copy z.1 z.2 + if zoneHit (s.si i.ix).copy z.1 z.2 v then 1 else 0)
          ∧ Frame t [.safety] s x)
    ∧ (∀ t (i : Island) (v : List Score) (r : List (List Score)) (s : State), s.phase = .ready → s.siHealthy i.ix = true → (s.si i.ix).queue = v :: r →
      (v.getD 2 0).toNat / 2 ^ 16 = 15 → Yields (.siRecordTake t i) s fun x =>
        (x.si i.ix).queue = r ∧ (x.si i.ix).lastMark = some (v.getD 0 0).toNat ∧ (x.si i.ix).recs = []
          ∧ (∃ es : List ChanEval, es.length = 8 ∧ (x.si i.ix).eval = some ((v.getD 0 0).toNat, es)
              ∧ ∀ n, n < 8 → (es.getD n {}).causes ≠ [] → x.chEnergised n = false)
          ∧ Frame t [.fields, .safety, .events, .tx, .link] s x)
    ∧ (∀ t (f g : Nat) (ea eb : List ChanEval) (s : State), s.phase = .ready → s.siLive = [0, 1] → s.safe.a.eval = some (f, ea) → s.safe.b.eval = some (g, eb) →
      Yields (.resultCrossCheck t) s fun x => x.safe.a.shown = (f, ea) ∧ x.safe.b.shown = (g, eb) ∧ x.safe.a.eval = none ∧ x.safe.b.eval = none
        ∧ (∀ n, n < 8 → ∀ c ∈ (mergeEval (ea.getD n {}) (eb.getD n {})).causes, c ∈ (x.safeChan n).causes)
        ∧ (∀ n, n < 8 → (f ≠ g ∨ (ea.getD n {}).agrees (eb.getD n {}) = false ∨ s.safe.a.copy ≠ s.safe.b.copy) → x.chEnergised n = false)
        ∧ Frame t [.fields, .safety, .events, .tx, .link] s x)
    ∧ (∀ t (i : Island) (f : Nat) (es : List ChanEval) (s : State), s.phase = .ready → s.siLive = [i.ix] → (s.si i.ix).eval = some (f, es) →
      Yields (.resultCrossCheck t) s fun x => (x.si i.ix).shown = (f, es) ∧ (x.si i.ix).eval = none
        ∧ Frame t [.fields, .safety, .events, .tx, .link] s x)
    ∧ ∀ t (i : Island) (s : State), s.phase = .ready → s.siHealthy i.ix = true → (s.si i.ix).lastMark.isSome = true → (s.si i.ix).missing = false →
      (s.si i.ix).markAt + s.framePerLsb + 2 * lsbMs ≤ max s.now t → Yields (.frameMissingTimeout t i) s fun x =>
        (x.si i.ix).missing = true ∧ (∀ n, n < 8 → x.chEnergised n = false) ∧ Frame t [.fields, .safety, .events, .tx, .link] s x

/-- HEARTBEAT_SEND, HEARTBEAT_RECEIVE, HEARTBEAT_LOSS, SELF_TEST_CYCLE, SI_WATCHDOG_EXPIRY, REGULATOR_FAULT and SF_COPY_CRC_CHECK complete.
While the die runs, by a healthy island i: HEARTBEAT_SEND puts one more heartbeat on the other island's cross link, and i stays.
HEARTBEAT_RECEIVE with one there and fewer than 15 intervals kept takes it, notes the instant and keeps the interval; only the islands
change. With 15 kept, both islands healthy and a sum of the 16 above 816,000 ns it sets the other island's cause to 2. HEARTBEAT_LOSS with
both healthy, 200 µs after the last heartbeat and after the die's release, sets the other island's cause to 1. SELF_TEST_CYCLE without fault
notes the instant; with one it sets i's cause to 3. SI_WATCHDOG_EXPIRY sets it to 4 and holds i's drive, REGULATOR_FAULT sets it to 5.
SF_COPY_CRC_CHECK with no upset and a copy that matches its reference changes nothing but time; with an upset of one register that makes it
miss the reference it leaves that copy and sets i's cause to 6. Wherever a cause is set, every channel still energised is DEGRADED (state
3), and only status fields, the islands, events and what is sent change. In whose clock the interval is brought, and how an upset comes, are
log entries 77 and 78. (13_safety_functions.md (parts of R329, R339, R345, R346, R360).) -/
def Obligations.IslandsWatchEachOther : Prop :=
  (∀ t (i : Island) (s : State), s.phase = .ready → s.siHealthy i.ix = true → Yields (.heartbeatSend t i) s fun x =>
      (x.si i.other).inFlight = (s.si i.other).inFlight + 1 ∧ x.si i.ix = s.si i.ix ∧ Frame t [.safety] s x)
    ∧ (∀ t (i : Island) (n : Nat) (s : State), s.phase = .ready → s.siHealthy i.ix = true → 0 < (s.si i.ix).inFlight → (s.si i.ix).intervals.length < 15 →
      Yields (.heartbeatReceive t i n) s fun x => (x.si i.ix).inFlight = (s.si i.ix).inFlight - 1 ∧ (x.si i.ix).lastBeat = max s.now t
        ∧ (x.si i.ix).intervals = n :: (s.si i.ix).intervals ∧ Frame t [.safety] s x)
    ∧ (∀ t (i : Island) (n : Nat) (s : State), s.phase = .ready → s.siLive = [0, 1] → 0 < (s.si i.ix).inFlight → (s.si i.ix).intervals.length = 15 →
      816000 < n + (s.si i.ix).intervals.sum → Yields (.heartbeatReceive t i n) s fun x => x.h (siCause i.other) = 2
        ∧ (∀ k, k < 8 → x.chEnergised k = true → x.chState k = 3) ∧ Frame t [.fields, .safety, .events, .tx, .link] s x)
    ∧ (∀ t (i : Island) (s : State), s.phase = .ready → s.siLive = [0, 1] → max (s.si i.ix).lastBeat s.pw.readyAt + 200 * lsbUs ≤ max s.now t →
      Yields (.heartbeatLoss t i) s fun x => x.h (siCause i.other) = 1 ∧ (∀ k, k < 8 → x.chEnergised k = true → x.chState k = 3)
        ∧ Frame t [.fields, .safety, .events, .tx, .link] s x)
    ∧ (∀ t (i : Island) (s : State), s.phase = .ready → s.siHealthy i.ix = true → Yields (.selfTestCycle t i true) s fun x =>
        (x.si i.ix).selfTest = some (max s.now t) ∧ Frame t [.safety] s x)
    ∧ (∀ t (i : Island) (s : State), s.phase = .ready → s.siHealthy i.ix = true → Yields (.selfTestCycle t i false) s fun x =>
        x.h (siCause i.ix) = 3 ∧ (∀ k, k < 8 → x.chEnergised k = true → x.chState k = 3) ∧ Frame t [.fields, .safety, .events, .tx, .link] s x)
    ∧ (∀ t (i : Island) (s : State), s.phase = .ready → s.siHealthy i.ix = true → Yields (.siWatchdogExpiry t i) s fun x =>
        x.h (siCause i.ix) = 4 ∧ (x.si i.ix).wdHold = true ∧ (∀ k, k < 8 → x.chEnergised k = true → x.chState k = 3)
          ∧ Frame t [.fields, .safety, .events, .tx, .link] s x)
    ∧ (∀ t (i : Island) (s : State), s.phase = .ready → s.siHealthy i.ix = true → Yields (.regulatorFault t i) s fun x =>
        x.h (siCause i.ix) = 5 ∧ (∀ k, k < 8 → x.chEnergised k = true → x.chState k = 3) ∧ Frame t [.fields, .safety, .events, .tx, .link] s x)
    ∧ (∀ t (i : Island) (s : State), s.phase = .ready → s.siHealthy i.ix = true → sfCrc (s.si i.ix).copy = s.safe.ref →
      Yields (.sfCopyCrcCheck t i []) s fun x => Frame t [] s x)
    ∧ ∀ t (i : Island) (a : Nat) (v : Score) (s : State), s.phase = .ready → s.siHealthy i.ix = true →
      sfCrc (Tab.set (s.si i.ix).copy (Reg.resetRw a) a v) ≠ s.safe.ref → Yields (.sfCopyCrcCheck t i [(a, v)]) s fun x =>
        x.h (siCause i.ix) = 6 ∧ (x.si i.ix).copy = Tab.set (s.si i.ix).copy (Reg.resetRw a) a v
          ∧ (∀ k, k < 8 → x.chEnergised k = true → x.chState k = 3) ∧ Frame t [.fields, .safety, .events, .tx, .link] s x

/-- READBACK_FAULT, SFB_LEVEL_CHANGE, FEEDBACK_FAULT, DEG_EXPIRED and FSL_SLOT_TIMEOUT complete. While the die runs: READBACK_FAULT of an
energised enabled channel with a level against the member's command puts the channel in TRIPPED (1) with cause 13, commands both members
low, counts in SF_TRIP_CNT to its limit, and the other channels keep their states; with the commanded level only the read-back bits and the
islands' state change. SFB_LEVEL_CHANGE of a change that lasts at most 100 µs changes nothing (R484); of a longer one it shows the level in
SFB alone, and one that is right for the channel's state is noted as right with no wrong one running. FEEDBACK_FAULT of an energised channel
whose feedback is wrong and has not been right within SF_FB_TIME of its change puts it in TRIPPED with cause 14, both members low, and
reports FEEDBACK_FAULT. DEG_EXPIRED of a DEGRADED channel at the end of its time puts it in TRIPPED with cause 17, both members low, and the
time ends. FSL_SLOT_TIMEOUT of an enabled slot not FAILED, SF_RX_TMO after its last accepted message, sets STATE 2 and LAST_ERR 5, counts in
SF_RX_ERR to its limit, reports FSL_RX_FAIL, and no channel that follows the slot stays energised. But for the forms named as changing less,
only status fields, the islands, events and what is sent change. (13_safety_functions.md (parts of R330, R338, R340, R347, R356, R357);
19_pins_package_electrical.md (parts of R484).) -/
def Obligations.ChannelsTripAtFaults : Prop :=
  (∀ t (m : Island) (n : SafeCh) (level : Bool) (s : State), s.phase = .ready → s.chEnergised n = true → s.sf (Reg.SF_CH_CFG_EN n) = 1 →
      level ≠ s.soLevel m.ix n → Yields (.readbackFault t m n level) s fun x => x.chState n = 1 ∧ x.pairLow n ∧ x.h (Reg.SF_CH_CAUSE_FIRST n) = 13
        ∧ x.h (Reg.SF_TRIP_CNT_COUNT n) = min (s.h (Reg.SF_TRIP_CNT_COUNT n) + 1) (Reg.SF_TRIP_CNT_COUNT n).top
        ∧ (∀ k, k < 8 → k ≠ n.val → x.chState k = s.chState k) ∧ Frame t [.fields, .safety, .events, .tx, .link] s x)
    ∧ (∀ t (m : Island) (n : SafeCh) (s : State), s.phase = .ready → Yields (.readbackFault t m n (s.soLevel m.ix n)) s fun x =>
        OnlyFields [Reg.SF_CH_STAT_SOA_RB n, Reg.SF_CH_STAT_SOB_RB n] s x ∧ Frame t [.fields, .safety] s x)
    ∧ (∀ t (n : SafeCh) (c : SfbChange) (s : State), s.phase = .ready → c.widthNs ≤ 100000 → Yields (.sfbLevelChange t n c) s fun x => Frame t [] s x)
    ∧ (∀ t (n : SafeCh) (c : SfbChange) (s : State), s.phase = .ready → 100000 < c.widthNs → Yields (.sfbLevelChange t n c) s fun x =>
        x.h (Reg.SF_CH_STAT_SFB n) = (if c.level then 1 else 0) ∧ (c.level = !s.chEnergised n → (x.safeChan n).fbOk = true ∧ (x.safeChan n).wrongAt = none)
          ∧ OnlyFields [Reg.SF_CH_STAT_SFB n] s x ∧ Frame t [.fields, .safety] s x)
    ∧ (∀ t (n : SafeCh) (s : State), s.phase = .ready → s.chEnergised n = true → s.fbWrong n = true → (s.safeChan n).fbOk = false →
      (s.safeChan n).changedAt + max 1 (s.sf (Reg.SF_FB_TIME_MS n)) * lsbMs ≤ max s.now t → Yields (.feedbackFault t n) s fun x =>
        x.chState n = 1 ∧ x.pairLow n ∧ x.h (Reg.SF_CH_CAUSE_FIRST n) = 14 ∧ (∃ r ∈ x.ev.inbox, r.code = Ev.feedbackFault.code ∧ r.e10 = n.val)
          ∧ Frame t [.fields, .safety, .events, .tx, .link] s x)
    ∧ (∀ t (n : SafeCh) (e : Nat) (s : State), s.phase = .ready → s.chState n = 3 → (s.safeChan n).degUntil = some e → e ≤ max s.now t →
      Yields (.degExpired t n) s fun x => x.chState n = 1 ∧ x.pairLow n ∧ x.h (Reg.SF_CH_CAUSE_FIRST n) = 17 ∧ (x.safeChan n).degUntil = none
        ∧ Frame t [.fields, .safety, .events, .tx, .link] s x)
    ∧ ∀ t (k : FslSlot) (s : State), s.phase = .ready → s.sf (Reg.SF_RX_CFG_EN k) = 1 → s.h (Reg.SF_RX_STAT_STATE k) ≠ 2 →
      (s.slot k).since + max 1 (s.sf (Reg.SF_RX_TMO_MS k)) * lsbMs ≤ max s.now t → Yields (.fslSlotTimeout t k) s fun x =>
        x.h (Reg.SF_RX_STAT_STATE k) = 2 ∧ x.h (Reg.SF_RX_STAT_LAST_ERR k) = 5
          ∧ x.h (Reg.SF_RX_ERR_COUNT k) = min (s.h (Reg.SF_RX_ERR_COUNT k) + 1) (Reg.SF_RX_ERR_COUNT k).top
          ∧ (∃ r ∈ x.ev.inbox, r.code = Ev.fslRxFail.code ∧ r.e10 = k.val) ∧ (∀ n, n < 8 → (s.follows n).contains k.val = true → x.chEnergised n = false)
          ∧ Frame t [.fields, .safety, .events, .tx, .link] s x

/-- SRST_LEVEL_CHANGE, SRST_EDGE, SRST_MISMATCH and FSL_MESSAGE_RECEIVE complete. While the die runs: SRST_LEVEL_CHANGE to low at an island that
saw high notes the fall and no rise; to high at one that saw low, 50 ms or more after its fall, notes the rise. SRST_EDGE of a healthy pair,
10 ms or more after the rise: where the other island has counted no edge, the edge counts 10 ms after the rise and waits; where the other's
lies within 2 ms of it, it puts a channel that allows SRST and is ready for reset in ENERGISED (2), SAFE_RESET is reported and neither edge
waits (the copies of the SF_ values and the frames shown being equal). SRST_MISMATCH of a healthy pair with an edge of either island more
than 2 ms old drops it, keeps a younger one of the other island, and reports SRST_MISMATCH once. FSL_MESSAGE_RECEIVE, at two healthy islands
that both get the message whole: a ZONE_STATE of state 2 that both accept for a slot is taken from its link, becomes the slot's last
sequence number, lengthens its run of accepted ones, ends its run of rejected ones, notes the instant and sets REMOTE_OK; one that both
reject, the second at most in a row, sets LAST_ERR to the first island's error, lengthens the run of rejected ones, counts in SF_RX_ERR to
its limit and leaves a sequence number that the slot has (the new reference of a slot that has none, log entry 76). SRST low at release is
log entry 79. (13_safety_functions.md (parts of R341, R342, R343, R354, R355, R356, R358).) -/
def Obligations.ResetsAndMessagesAct : Prop :=
  (∀ t (i : Island) (s : State), s.phase = .ready → s.h (if i = .a then Reg.SF_STAT_SRST_A else Reg.SF_STAT_SRST_B) = 1 →
      Yields (.srstLevelChange t i false) s fun x =>
      (x.si i.ix).fallAt = some (max s.now t) ∧ (x.si i.ix).riseAt = none ∧ Frame t [.fields, .safety] s x)
    ∧ (∀ t (i : Island) (f : Nat) (s : State), s.phase = .ready → s.h (if i = .a then Reg.SF_STAT_SRST_A else Reg.SF_STAT_SRST_B) = 0 →
      (s.si i.ix).fallAt = some f → f + 50 * lsbMs ≤ max s.now t →
      Yields (.srstLevelChange t i true) s fun x => (x.si i.ix).riseAt = some (max s.now t) ∧ Frame t [.fields, .safety] s x)
    ∧ (∀ t (i : Island) (r : Nat) (s : State), s.phase = .ready → s.siLive = [0, 1] → (s.si i.ix).riseAt = some r → r + 10 * lsbMs ≤ max s.now t →
      (s.si i.other).edgeAt = none → Yields (.srstEdge t i) s fun x => (x.si i.ix).edgeAt = some (r + 10 * lsbMs) ∧ (x.si i.ix).riseAt = none ∧ Frame t [.safety] s x)
    ∧ (∀ t (i : Island) (r e : Nat) (n : SafeCh) (s : State), s.phase = .ready → s.siLive = [0, 1] → (s.si i.ix).riseAt = some r → r + 10 * lsbMs ≤ max s.now t →
      (s.si i.other).edgeAt = some e → r + 10 * lsbMs ≤ e + 2 * lsbMs → e ≤ r + 10 * lsbMs + 2 * lsbMs → s.sf (Reg.SF_CH_CFG_SRST_EN n) = 1 → s.resetReady n = true → s.safe.a.copy = s.safe.b.copy → s.safe.a.shown = s.safe.b.shown →
      Yields (.srstEdge t i) s fun x => x.chState n = 2 ∧ (∃ r ∈ x.ev.inbox, r.code = Ev.safeReset.code) ∧ (x.si i.other).edgeAt = none ∧ (x.si i.ix).riseAt = none
        ∧ Frame t [.fields, .safety, .events, .tx, .link] s x)
    ∧ (∀ t (i : Island) (e : Nat) (s : State), s.phase = .ready → s.siLive = [0, 1] → (s.si i.ix).edgeAt = some e → e + 2 * lsbMs < max s.now t →
      Yields (.srstMismatch t) s fun x => (x.si i.ix).edgeAt = none
        ∧ (∀ f, (s.si i.other).edgeAt = some f → max s.now t ≤ f + 2 * lsbMs → (x.si i.other).edgeAt = some f) ∧ (∃ r, x.ev.inbox = s.ev.inbox ++ [r] ∧ r.code = Ev.srstMismatch.code)
        ∧ Frame t [.safety, .events] s x)
    ∧ (∀ t (l : Lane) (b : List Score) (z : Nat) (r : List RxPacket) (k : Nat) (m : FslMsg) (s : State), s.phase = .ready → s.siLive = [0, 1] → s.holds l 7 b z r →
      (s.clock t).fslIsland 0 b = some (k, m, 0) → (s.clock t).fslIsland 1 b = some (k, m, 0) → m.mtype = 1 →
      m.payload.getD 0 0 / 2 ^ 17 = 2 → Yields (.fslMessageReceive t (.link l) .whole .whole) s fun x =>
        (x.slot k).lastSeq = some m.seq ∧ (x.slot k).okRun = (s.slot k).okRun + 1 ∧ (x.slot k).badRun = 0 ∧ (x.slot k).since = max s.now t
          ∧ x.h (Reg.SF_RX_STAT_REMOTE_OK k) = 1 ∧ (x.link (s.linkOf l).1).arrived = r ∧ Frame t [.fields, .safety, .link] s x)
    ∧ ∀ t (l : Lane) (b : List Score) (z : Nat) (r : List RxPacket) (k e f : Nat) (m : FslMsg) (s : State), s.phase = .ready → s.siLive = [0, 1] → s.holds l 7 b z r →
      (s.clock t).fslIsland 0 b = some (k, m, e) → (s.clock t).fslIsland 1 b = some (k, m, f) → e ≠ 0 → f ≠ 0 → (s.slot k).badRun < 2 →
      Yields (.fslMessageReceive t (.link l) .whole .whole) s fun x =>
        x.h (Reg.SF_RX_STAT_LAST_ERR k) = e ∧ (x.slot k).badRun = (s.slot k).badRun + 1 ∧ ((s.slot k).lastSeq.isSome = true → (x.slot k).lastSeq = (s.slot k).lastSeq)
          ∧ x.h (Reg.SF_RX_ERR_COUNT k) = min (s.h (Reg.SF_RX_ERR_COUNT k) + 1) (Reg.SF_RX_ERR_COUNT k).top ∧ Frame t [.fields, .safety, .link] s x

/-- No event of the safety islands energises a channel but a reset edge or an accepted message. Of the events that the safety islands see
(records, cross-checks, timeouts, heartbeats, self-tests, watchdogs, regulators, copy checks, the end of DEGRADED, read-back, feedback, SRST
levels and mismatches, silent slots) none makes a channel energised that was not, in any state, running or not. (13_safety_functions.md
(parts of R338, R341, R342, R346, R358).) -/
def Obligations.OnlyResetsEnergise : Prop :=
  ∀ t (i : Island) (n : SafeCh) (k : FslSlot) (b : Bool) (iv w : Nat) (us : List (Nat × Score)),
    ∀ c ∈ [Instr.siRecordTake t i, .resultCrossCheck t, .frameMissingTimeout t i, .heartbeatSend t i, .heartbeatReceive t i iv, .heartbeatLoss t i,
      .selfTestCycle t i b, .siWatchdogExpiry t i, .regulatorFault t i, .sfCopyCrcCheck t i us, .degExpired t n, .readbackFault t i n b, .sfbLevelChange t n ⟨b, w⟩,
      .feedbackFault t n, .srstLevelChange t i b, .srstMismatch t, .fslSlotTimeout t k],
    ∀ s : State, Yields c s fun x => ∀ m, m < 8 → x.chEnergised m = true → s.chEnergised m = true

/-- SVC_COMMAND, SVC_REPLY_READ, SVC_EVENT_READ, CMD_PACKET_RECEIVE, UDP_COMMAND_DATAGRAM, PING, READ and SYS_UPTIME_READ complete. While the
die runs: SVC_COMMAND of at least 3 bytes, as many as its P gives, of a known opcode, with the port's queue empty and nothing cached for it,
puts the command as class 0 into that queue and clocks out the status byte; one of another length counts 1 in CM_FMT_ERR. SVC_REPLY_READ of
at least the bytes of the oldest reply, with the queue empty, clocks them out and removes that reply; SVC_EVENT_READ of at least the bytes
of the waiting event clocks them out and removes it. CMD_PACKET_RECEIVE of a packet that the link holds, not empty and of a known opcode,
and UDP_COMMAND_DATAGRAM of 1 to 64 scores to port 48121 on a lane that CM_CFG names, each with the source's queue empty and nothing cached
for it, put the command with its class (the lane group's; 2 for UDP) into that queue. PING that may execute is answered with SYS_ID and with
class, lock fuse and MAINT state. READ of one register with no side effect, with MAINT open or another class, is answered with its value.
SYS_UPTIME_READ puts the seconds since the die's release into SYS_UPTIME. The checks of a datagram, when MAINT is open and what a source is
are log entries 90, 95 and 142. (15_command_interface.md (parts of R380, R382, R398, R399, R401, R402, R403, R404);
16_registers_configuration.md (parts of R409).) -/
def Obligations.CommandsArriveAndReplyIsRead : Prop :=
  (∀ t (bytes : List (BitVec 8)) (s : State), s.phase = .ready → 3 ≤ bytes.length → s.cmdsOf .svc = [] → s.cacheOf .svc = [] →
      bytes.length = 3 * (1 + ((octetScores (bytes.length / 3) bytes).getD 0 0).toNat % 64) →
      opcodeKnown (((octetScores (bytes.length / 3) bytes).getD 0 0).toNat / 2 ^ 12) = true → Yields (.svcCommand t bytes) s fun x =>
        x.cmdsOf .svc = [{ id := s.cm.nextId, scores := octetScores (bytes.length / 3) bytes, cls := 0, port := .svc }]
          ∧ x.tx = s.tx ++ [.svcBytes [s.svcStatus]] ∧ Frame t [.tx, .command] s x)
    ∧ (∀ t (bytes : List (BitVec 8)) (s : State), s.phase = .ready → bytes.length < 3 ∨ bytes.length ≠ 3 * (1 + ((octetScores (bytes.length / 3) bytes).getD 0 0).toNat % 64) →
      Yields (.svcCommand t bytes) s fun x => x.h Reg.CM_FMT_ERR_COUNT = min (s.h Reg.CM_FMT_ERR_COUNT + 1) Reg.CM_FMT_ERR_COUNT.top
        ∧ OnlyFields [Reg.CM_FMT_ERR_COUNT] s x ∧ Frame t [.tx, .fields] s x)
    ∧ (∀ t (n : Nat) (r : List Score) (rest : List (List Score)) (s : State), s.phase = .ready → s.cm.replies = r :: rest → 3 * r.length ≤ n → s.cmdsOf .svc = [] →
      Yields (.svcReplyRead t n) s fun x => x.cm.replies = rest ∧ x.tx = s.tx ++ [.svcBytes (s.svcStatus :: clockOut (some r) n)] ∧ Frame t [.tx, .command] s x)
    ∧ (∀ t (n : Nat) (e : List Score) (s : State), s.phase = .ready → s.cm.event = some e → 3 * e.length ≤ n →
      Yields (.svcEventRead t n) s fun x => x.cm.event = none ∧ x.tx = s.tx ++ [.svcBytes (s.svcStatus :: clockOut (some e) n)]
        ∧ x.cm.replies = s.cm.replies ∧ Frame t [.tx, .command] s x)
    ∧ (∀ t (l : Lane) (b : List Score) (k : Nat) (r : List RxPacket) (s : State), s.phase = .ready → s.holds l 3 b k r → b ≠ [] → opcodeKnown ((b.getD 0 0).toNat / 2 ^ 12) = true →
      s.cmdsOf (s.keyOf (.link (s.linkOf l).1)) = [] → s.cacheOf (s.keyOf (.link (s.linkOf l).1)) = [] → Yields (.cmdPacketReceive t l) s fun x =>
        x.cmdsOf (s.keyOf (.link (s.linkOf l).1)) = [{ id := s.cm.nextId, scores := b, cls := laneClass l, port := .link (s.linkOf l).1 }] ∧ (x.link (s.linkOf l).1).arrived = r
          ∧ Frame t [.command, .link] s x)
    ∧ (∀ t (l : Lane) (env : Envelope) (ip port : Nat) (bytes : List (BitVec 8)) (s : State), s.phase = .ready → s.ethUp l = true →
      s.frameKept env s.servedPorts = true → env.port = some 48121 → 3 ≤ bytes.length → bytes.length % 3 = 0 → bytes.length ≤ 192 →
      s.fo Reg.CM_CFG_UDP_LANES / 2 ^ (l.val - 128) % 2 = 1 → opcodeKnown (((octetScores (bytes.length / 3) bytes).getD 0 0).toNat / 2 ^ 12) = true →
      s.cmdsOf (s.keyOf (.udp l ip port)) = [] → s.cacheOf (s.keyOf (.udp l ip port)) = [] → Yields (.udpCommandDatagram t l env ip port bytes) s fun x =>
        x.cmdsOf (s.keyOf (.udp l ip port)) = [{ id := s.cm.nextId, scores := octetScores (bytes.length / 3) bytes, cls := 2, port := .udp l ip port }] ∧ Frame t [.command] s x)
    ∧ (∀ t (src : Source) (c : Cmd) (s : State), s.phase = .ready → (s.clock t).asks src 0x00 c → Yields (.ping t src) s fun x =>
        s.answered x src c { status := 0, results := [s.regValue Reg.SYS_ID,
          BitVec.ofNat 20 (c.cls * 2 ^ 18 + (if s.pw.lockFuse then 1 else 0) * 2 ^ 17 + (if (s.clock t).maintOpen then 1 else 0) * 2 ^ 16)] }
          ∧ Frame t [.fields, .command, .tx, .link] s x)
    ∧ (∀ t (src : Source) (c : Cmd) (s : State), s.phase = .ready → s.sq.closeDue = false → (s.clock t).asks src 0x01 c → (c.cls ≠ 0 ∨ (s.clock t).maintOpen = true) →
      c.p 2 = 1 → s.regs.posted = [] → c.addr ≠ Reg.SYS_UPTIME_H → c.addr ≠ Reg.EP_TIME_SEC → isKeyReg (Reg.base c.addr) = false →
      (∀ b, b < 4 → c.addr ≠ Reg.AQ_RD_DATA b ∧ c.addr ≠ Reg.AQ_HIST_DATA b) → Yields (.read t src) s fun x =>
        s.answered x src c { status := 0, results := [(s.clock t).regValue c.addr] } ∧ Frame t [.fields, .command, .tx, .link] s x)
    ∧ ∀ t (s : State), s.phase = .ready → Yields (.sysUptimeRead t) s fun x =>
        x.h Reg.SYS_UPTIME_L_UP_L = (max s.now t - s.pw.releasedAt) / lsbS % 2 ^ 20 ∧ OnlyFields [Reg.SYS_UPTIME_H_UP_H, Reg.SYS_UPTIME_L_UP_L] s x
          ∧ Frame t [.fields] s x

/-- WRITE, WRITE_POSTED, POSTED_WRITE_ACCEPT, WRITE_BUSY_TIMEOUT, POLL_BUSY and POLL_BUSY_TIMEOUT complete. While the die runs: WRITE of CM_CFG
in class 0 without CNT_CLR gives its two fields the value and is answered OK. WRITE of one value to a posted block that nothing refuses,
with no write posted, puts the value into the posting queue and keeps the command waiting for it; WRITE_POSTED of the same is answered OK at
once. POSTED_WRITE_ACCEPT of a block whose oldest write goes to an alias address of a set register gives the shadow set the value, leaves
the active value, empties the queue and makes the shadow set's reference invalid. WRITE_BUSY_TIMEOUT of a WRITE that has waited 1 ms, with
room for its reply (R400), answers 0x07. POLL_BUSY of at most 1,000,000 µs is answered with CM_BUSY where the blocks it names are free, else
the command waits from now; POLL_BUSY_TIMEOUT after its time, with room too, answers 0x11 with CM_BUSY. But for the WRITEs and the
acceptance, only the command island, counters and what is sent change. What a source is is log entry 142. (15_command_interface.md (parts of
R383, R384, R385); 16_registers_configuration.md (parts of R410, R415, R417, R418).) -/
def Obligations.RegistersAreWritten : Prop :=
  (∀ t (src : Source) (c : Cmd) (v : Score) (s : State), s.phase = .ready → s.sq.closeDue = false → (s.clock t).asks src 0x02 c → s.regs.posted = [] →
      c.values = [v] → c.addr = Reg.CM_CFG → c.cls = 0 → v.toNat / 2 ^ 17 = 0 → Yields (.write t src) s fun x =>
        x.fo Reg.CM_CFG_PEER_EN = Reg.CM_CFG_PEER_EN.of v ∧ x.fo Reg.CM_CFG_UDP_LANES = Reg.CM_CFG_UDP_LANES.of v
          ∧ s.answered x src c { status := 0 } ∧ Frame t [.ones, .rsvd, .fields, .command, .tx, .link] s x)
    ∧ (∀ t (src : Source) (c : Cmd) (v : Score) (s : State), s.phase = .ready → s.sq.closeDue = false → (s.clock t).asks src 0x02 c → s.regs.posted = [] →
      c.values = [v] → (busyOf c.addr).isSome = true → (s.clock t).writeRefused c = none → Yields (.write t src) s fun x =>
        x.regs.posted = [{ addr := c.addr, value := v, cmd := c.id }] ∧ x.cmdsOf (s.keyOf src) = [{ c with since := none, posted := true }]
          ∧ Frame t [.waits, .command] s x)
    ∧ (∀ t (src : Source) (c : Cmd) (v : Score) (s : State), s.phase = .ready → s.sq.closeDue = false → (s.clock t).asks src 0x03 c → s.regs.posted = [] →
      c.values = [v] → (busyOf c.addr).isSome = true → (s.clock t).writeRefused c = none → Yields (.writePosted t src) s fun x =>
        x.regs.posted = [{ addr := c.addr, value := v, cmd := c.id }] ∧ s.answered x src c { status := 0 } ∧ Frame t [.waits, .fields, .command, .tx, .link] s x)
    ∧ (∀ t (bit : Fin 15) (a : Nat) (k : RegKind) (v : Score) (s : State), s.phase = .ready → s.sq.closeDue = false → s.cm.queues = [] →
      s.regs.posted = [{ addr := a + 0x800000, value := v, cmd := 0 }] → busyOf (a + 0x800000) = some bit.val → Reg.find a = some k → k.inSet = true →
      Yields (.postedWriteAccept t bit) s fun x => x.shadow a = BitVec.ofNat 20 (v.toNat &&& k.rw) ∧ x.act a = s.act a ∧ x.regs.posted = []
        ∧ x.h (if s.activeB then Reg.CF_STAT_REF_A else Reg.CF_STAT_REF_B) = 0 ∧ Frame t [.sets, .rsvd, .fields, .waits] s x)
    ∧ (∀ t (src : Source) (c : Cmd) (y : Nat) (s : State), s.phase = .ready → s.cmdsOf (s.keyOf src) = [c] → c.since = some y → c.opcode = 0x02 → y + lsbMs ≤ max s.now t →
      s.mayReply (s.keyOf src) = true →
      Yields (.writeBusyTimeout t src) s fun x => s.answered x src c { status := 0x07 } ∧ Frame t [.fields, .command, .tx, .link] s x)
    ∧ (∀ t (src : Source) (c : Cmd) (s : State), s.phase = .ready → (s.clock t).asks src 0x04 c → c.p 1 ≤ 1000000 → s.cmBusy &&& c.p 0 = 0 →
      Yields (.pollBusy t src) s fun x => s.answered x src c { status := 0, results := [BitVec.ofNat 20 s.cmBusy] } ∧ Frame t [.fields, .command, .tx, .link] s x)
    ∧ (∀ t (src : Source) (c : Cmd) (s : State), s.phase = .ready → (s.clock t).asks src 0x04 c → c.p 1 ≤ 1000000 → s.cmBusy &&& c.p 0 ≠ 0 →
      Yields (.pollBusy t src) s fun x => x.cmdsOf (s.keyOf src) = [{ c with since := some (max s.now t) }] ∧ Frame t [.command] s x)
    ∧ ∀ t (src : Source) (c : Cmd) (y : Nat) (s : State), s.phase = .ready → s.cmdsOf (s.keyOf src) = [c] → c.since = some y → c.opcode = 0x04 →
      y + c.p 1 * lsbUs ≤ max s.now t → s.mayReply (s.keyOf src) = true →
      Yields (.pollBusyTimeout t src) s fun x => s.answered x src c { status := 0x11, results := [BitVec.ofNat 20 s.cmBusy] }
        ∧ Frame t [.fields, .command, .tx, .link] s x

/-- COMMIT_REF, COPY_ACTIVE, SWAP, CRC_PASS_COMPLETE and LIVE_WINDOW_EXPIRY complete. While the die runs: COMMIT_REF of the active set,
unlocked, where the set passes the checks, stores the reference as valid, opens the live window for CF_CRC_CFG.LIVE and is answered OK; of
the shadow set, with nothing posted and a reference equal to the set's CRC, it stores that as valid and is answered OK. COPY_ACTIVE,
unlocked and with no live window, makes both sets equal to the active one, gives the shadow set the active reference with its validity and
is answered OK. SWAP, unlocked and with nothing posted, of a shadow set that passes the checks and matches its valid reference, at least 100
µs before the next boundary, locks the shadow set, notes the swap for the next frame and answers that frame's number (at once: the time
between the two is not modelled, log entry 96). CRC_PASS_COMPLETE of a pass that saw a change starts the next pass and gives no result; of
one that matches a valid reference it gives the CRC, sets PASS_OK, clears MISMATCH, STOPPED and LIVE; of one that differs, outside a live
window and with CRC_TRIP and STOP_FIRE 0, it clears PASS_OK, sets MISMATCH, counts it, and reports CONFIG_CRC where MISMATCH was 0.
LIVE_WINDOW_EXPIRY at the window's end clears LIVE. Each leaves every part of the state that its frame does not name. Which detail a check
names is log entry 97. (16_registers_configuration.md (parts of R417, R420, R425, R427, R428, R429, R430).) -/
def Obligations.SetsAreCheckedAndChecksummed : Prop :=
  (∀ t (src : Source) (c : Cmd) (s : State), s.phase = .ready → (s.clock t).asks src 0x11 c → s.h Reg.CF_STAT_LOCK = 0 → s.activeB = decide (c.p 0 % 2 = 1) →
      checkSet s.activeTab none = none → Yields (.commitRef t src) s fun x =>
        x.refValue s.activeB = BitVec.ofNat 32 (c.p 1 % 2 ^ 12 * 2 ^ 20 + c.p 2) ∧ x.refValid s.activeB = true ∧ x.h Reg.CF_STAT_LIVE = 1
          ∧ x.cf.liveUntil = max s.now t + s.liveMs * lsbMs ∧ s.answered x src c { status := 0 } ∧ Frame t [.fields, .config, .command, .tx, .link] s x)
    ∧ (∀ t (src : Source) (c : Cmd) (s : State), s.phase = .ready → (s.clock t).asks src 0x11 c → s.h Reg.CF_STAT_LOCK = 0 → s.activeB = !decide (c.p 0 % 2 = 1) →
      s.regs.posted = [] → checkSet s.shadowTab none = none → setCrc s.shadowTab setBlocks = BitVec.ofNat 32 (c.p 1 % 2 ^ 12 * 2 ^ 20 + c.p 2) →
      Yields (.commitRef t src) s fun x => x.refValue (!s.activeB) = setCrc s.shadowTab setBlocks ∧ x.refValid (!s.activeB) = true
        ∧ s.answered x src c { status := 0 } ∧ Frame t [.fields, .command, .tx, .link] s x)
    ∧ (∀ t (src : Source) (c : Cmd) (s : State), s.phase = .ready → (s.clock t).asks src 0x12 c → s.h Reg.CF_STAT_LOCK = 0 → s.h Reg.CF_STAT_LIVE = 0 →
      Yields (.copyActive t src) s fun x => x.shadowTab = s.activeTab ∧ x.activeTab = s.activeTab ∧ x.refValue (!s.activeB) = s.refValue s.activeB
        ∧ x.refValid (!s.activeB) = s.refValid s.activeB ∧ s.answered x src c { status := 0 } ∧ Frame t [.sets, .fields, .command, .tx, .link] s x)
    ∧ (∀ t (src : Source) (c : Cmd) (s : State), s.phase = .ready → (s.clock t).asks src 0x10 c → s.h Reg.CF_STAT_LOCK = 0 → s.regs.posted = [] →
      s.refValid (!s.activeB) = true → setCrc s.shadowTab setBlocks = s.refValue (!s.activeB) → checkSet s.shadowTab none = none →
      max s.now t + 100 * lsbUs ≤ s.sq.nextBoundary →
      Yields (.swap t src) s fun x => x.h Reg.CF_STAT_LOCK = 1 ∧ x.cf.swap = some ⟨max s.now t, (s.sq.frameNo + 1) % 2 ^ 20, sfCrc (sfPart s.shadowTab)⟩
        ∧ s.answered x src c { status := 0, results := [BitVec.ofNat 20 ((s.sq.frameNo + 1) % 2 ^ 20)] }
          ∧ Frame t [.fields, .config, .command, .tx, .link] s x)
    ∧ (∀ t (s : State), s.phase = .ready → s.sq.closeDue = false → s.cf.passDirty = true → Yields (.crcPassComplete t) s fun x =>
        x.cf.passDirty = false ∧ x.cf.passStart = max s.now t ∧ Frame t [.config] s x)
    ∧ (∀ t (s : State), s.phase = .ready → s.sq.closeDue = false → s.cf.passDirty = false → s.refValid s.activeB = true → setCrc s.activeTab setBlocks = s.refValue s.activeB →
      Yields (.crcPassComplete t) s fun x => x.passValue = setCrc s.activeTab setBlocks ∧ x.h Reg.CF_STAT_PASS_OK = 1 ∧ x.h Reg.CF_STAT_MISMATCH = 0
        ∧ x.h Reg.CF_STAT_STOPPED = 0 ∧ x.h Reg.CF_STAT_LIVE = 0 ∧ x.cf.passOver = some s.activeB ∧ Frame t [.fields, .config] s x)
    ∧ (∀ t (s : State), s.phase = .ready → s.sq.closeDue = false → s.cf.passDirty = false → setCrc s.activeTab setBlocks ≠ s.refValue s.activeB → s.h Reg.CF_STAT_LIVE = 0 →
      s.sf Reg.SF_CFG_CRC_TRIP = 0 → s.fo Reg.CF_CRC_CFG_STOP_FIRE = 0 → Yields (.crcPassComplete t) s fun x =>
        x.h Reg.CF_STAT_MISMATCH = 1 ∧ x.h Reg.CF_STAT_PASS_OK = 0 ∧ x.h Reg.CF_MISMATCH_CNT_COUNT = min (s.h Reg.CF_MISMATCH_CNT_COUNT + 1) Reg.CF_MISMATCH_CNT_COUNT.top
          ∧ (s.h Reg.CF_STAT_MISMATCH = 0 → ∃ r, x.ev.inbox = s.ev.inbox ++ [r] ∧ r.code = Ev.configCrc.code) ∧ Frame t [.fields, .config, .events] s x)
    ∧ ∀ t (s : State), s.phase = .ready → s.h Reg.CF_STAT_LIVE = 1 → s.cf.liveUntil ≤ max s.now t → Yields (.liveWindowExpiry t) s fun x =>
        x.h Reg.CF_STAT_LIVE = 0 ∧ OnlyFields [Reg.CF_STAT_LIVE] s x ∧ Frame t [.fields] s x

/-- FRAMES_START, FRAMES_STOP, DEC_SYNC, SUBSCRIBE, UNSUBSCRIBE and SAFE_ACK complete. While the die runs, each where it may execute:
FRAMES_START with no STOPPED and no reference lost asks for firing, leaves the running cycle and is answered OK. FRAMES_STOP with a cycle
running asks for the stop at its end and takes back a request to start, the cycle going on; with none running outside a scan part it clears
RUN, holds cycles off and forgets the cycle to come; both are answered OK. DEC_SYNC with no check waiting sets SYNC_SEEN, puts every running
pair back to slot 0 and is answered OK. SUBSCRIBE to events of the service port, as the first subscription, with a valid severity and a
lease of 1 to 3,600 s, makes subscription 0 with that lease, lists the port as an event consumer and answers the index. UNSUBSCRIBE from an
open MAINT session of the only subscription, one to events, removes it and every event consumer and is answered OK. SAFE_ACK clears FIRST,
TRIP_SEEN and the trip count of every channel in its mask, leaves the FIRST of the others and every channel's state, and is answered OK.
SAFE_ACK and an open MAINT session are log entries 80 and 95. (04_shepherd_sequencer.md (parts of R130); 08_sensor_converters.md (parts of
R227); 15_command_interface.md (parts of R386, R387, R388, R389).) -/
def Obligations.CommandsRunTheDevice : Prop :=
  (∀ t (src : Source) (c : Cmd) (s : State), s.phase = .ready → (s.clock t).asks src 0x20 c → s.h Reg.CF_STAT_STOPPED = 0 → s.sq.refLost = false →
      Yields (.framesStart t src) s fun x => x.sq.startReq = true ∧ x.sq.cyc = s.sq.cyc ∧ s.answered x src c { status := 0 }
        ∧ Frame t [.shepherd, .fields, .command, .tx, .link] s x)
    ∧ (∀ t (src : Source) (c : Cmd) (y : Cycle) (s : State), s.phase = .ready → s.sq.closeDue = false → (s.clock t).asks src 0x21 c → s.sq.cyc = some y →
      Yields (.framesStop t src) s fun x => x.sq.stopReq = true ∧ x.sq.startReq = false ∧ x.sq.cyc = some y ∧ s.answered x src c { status := 0 }
        ∧ Frame t [.shepherd, .fields, .command, .tx, .link] s x)
    ∧ (∀ t (src : Source) (c : Cmd) (s : State), s.phase = .ready → s.sq.closeDue = false → (s.clock t).asks src 0x21 c → s.sq.cyc = none → s.sq.inScan = false →
      Yields (.framesStop t src) s fun x => x.h Reg.SQ_STAT_RUN = 0 ∧ x.sq.halted = true ∧ x.sq.upcoming = none ∧ x.sq.startReq = false
        ∧ s.answered x src c { status := 0 } ∧ Frame t [.shepherd, .fields, .command, .tx, .link] s x)
    ∧ (∀ t (src : Source) (c : Cmd) (s : State), s.phase = .ready → (s.clock t).asks src 0x22 c → (∀ d, (s.axChan d).zWait = false) →
      Yields (.decSync t src) s fun x =>
        x.h Reg.AX_DEV_STAT_SYNC_SEEN = 1 ∧ (∀ p, p < 4 → s.pairRuns p = true → x.h (Reg.AX_PAIR_STAT_SLOT p) = 0) ∧ s.answered x src c { status := 0 }
          ∧ Frame t [.converters, .fields, .command, .tx, .link] s x)
    ∧ (∀ t (c : Cmd) (s : State), s.phase = .ready → (s.clock t).asks .svc 0x30 c → c.port = .svc → c.p 0 / 2 ^ 18 = 1 → c.p 0 % 16 ≤ 2 → 1 ≤ c.p 1 → c.p 1 ≤ 3600 → s.fl.subs = [] →
      Yields (.subscribe t .svc) s fun x => x.fl.subs = [⟨0, 1, c.p 0 % 16, .svc, 0, some (max s.now t + c.p 1 * lsbS)⟩]
        ∧ (∃ d ∈ x.ev.dests, d.who = .svc) ∧ s.answered x .svc c { status := 0, results := [0] } ∧ Frame t [.link, .events, .fields, .command] s x)
    ∧ (∀ t (c : Cmd) (u : Sub) (s : State), s.phase = .ready → (s.clock t).asks .svc 0x31 c → c.cls = 0 → (s.clock t).maintOpen = true → u.kind = 1 → u.idx = c.p 0 →
      s.fl.subs = [u] → Yields (.unsubscribe t .svc) s fun x => x.fl.subs = [] ∧ x.ev.dests = [] ∧ s.answered x .svc c { status := 0 }
        ∧ Frame t [.link, .events, .fields, .command] s x)
    ∧ ∀ t (src : Source) (c : Cmd) (s : State), s.phase = .ready → (s.clock t).asks src 0x60 c → Yields (.safeAck t src) s fun x =>
        (∀ n, n < 8 → c.p 0 / 2 ^ n % 2 = 1 → x.h (Reg.SF_CH_CAUSE_FIRST n) = 0 ∧ x.h (Reg.SF_CH_STAT_TRIP_SEEN n) = 0 ∧ x.h (Reg.SF_TRIP_CNT_COUNT n) = 0)
          ∧ (∀ n, n < 8 → x.chState n = s.chState n) ∧ (∀ n, n < 8 → c.p 0 / 2 ^ n % 2 = 0 → x.h (Reg.SF_CH_CAUSE_FIRST n) = s.h (Reg.SF_CH_CAUSE_FIRST n))
          ∧ s.answered x src c { status := 0 } ∧ Frame t [.fields, .command, .tx, .link] s x

/-- RESPOND without a valid nonce is answered STATE; one with a wrong MAC is answered AUTH_FAIL and uses up the nonce (R395). While the die
runs, where RESPOND may execute and no authentication wait runs: with no nonce, or one whose 60 s have passed, it is answered STATE (0x0F),
opens no session, keeps the failure count, and changes nothing but the answer's own bookkeeping; with a valid nonce and a MAC that is not
HMAC-SHA-256 of it under the device's key, it is answered AUTH_FAIL (0x0D), opens no session, and no nonce is left. (15_command_interface.md
R395.) -/
def Obligations.RespondFails : Prop :=
  (∀ t (src : Source) (c : Cmd) (s : State), s.phase = .ready → (s.clock t).asks src 0x41 c → (s.clock t).authWait = 0 →
      (∀ n e, s.cm.nonce = some (n, e) → e ≤ max s.now t) → Yields (.respond t src) s fun x =>
        s.answered x src c { status := 0x0F } ∧ x.cm.session = s.cm.session ∧ x.pw = s.pw ∧ Frame t [.fields, .command, .tx, .link] s x)
    ∧ ∀ t (src : Source) (c : Cmd) (n e : Nat) (s : State), s.phase = .ready → (s.clock t).asks src 0x41 c → (s.clock t).authWait = 0 →
      s.cm.nonce = some (n, e) → max s.now t < e → joinScores (c.scores.drop 1) % 2 ^ 256 ≠ respondMac s.pw.key n → Yields (.respond t src) s fun x =>
        s.answered x src c { status := 0x0D } ∧ x.cm.nonce = none ∧ x.cm.session = s.cm.session ∧ Frame t [.fields, .command, .tx, .link, .power] s x

/-- CHALLENGE, RESPOND, PASSWORD, SET_PASSWORD, CLOSE, LOCK_FIELD, SESSION_EXPIRY, NONCE_EXPIRY, AUTH_WAIT_EXPIRY and JTAG_ACCESS complete.
While the die runs, each where it may execute and no wait runs: CHALLENGE keeps a nonce for 60 s and answers it in 13 scores. RESPOND with
the right code within that time, with no failure counted, opens a session of 3,600 s and ends the nonce; with a wrong one it ends the nonce,
leaves the session, counts one failure and is answered 0x0D, a first or second failure starting no wait and a third one that of 60 s.
PASSWORD whose salted SHA-384 is the stored digest, with no failure counted, opens a session of 3,600 s; another one leaves the session,
counts one failure and is answered 0x0D. SET_PASSWORD of a valid length, with a flash that is used, keeps a fresh salt with the digest and
leaves the saved set. CLOSE ends the session. LOCK_FIELD with its key blows the fuse. SESSION_EXPIRY and NONCE_EXPIRY at their times end
session and nonce and nothing else. Where not said otherwise the answer is OK. In any phase (log entries 4 and 91) AUTH_WAIT_EXPIRY at its
time ends the wait, and out of reset JTAG_ACCESS sends whether it may reach inside: a boundary-scan instruction always, another with MAINT
open; in reset it sends nothing (R477). Lengths of passwords, random numbers, an open MAINT session and the salt’s place are log entries 88,
94, 95 and 168. (01_node_architecture.md (parts of R42); 15_command_interface.md (parts of R392, R393, R394, R395, R396, R397);
19_pins_package_electrical.md (parts of R477).) -/
def Obligations.SessionsOpenAndClose : Prop :=
  (∀ t (src : Source) (c : Cmd) (s : State), s.phase = .ready → (s.clock t).asks src 0x40 c → (s.clock t).authWait = 0 → Yields (.challenge t src) s fun x =>
      x.cm.nonce = some ((Config.nonce s.freeCtr).toNat, max s.now t + 60 * lsbS) ∧ s.answered x src c { status := 0, results := splitScores 13 (Config.nonce s.freeCtr).toNat }
        ∧ Frame t [.freeCtr, .fields, .command, .tx, .link] s x)
    ∧ (∀ t (src : Source) (c : Cmd) (n e : Nat) (s : State), s.phase = .ready → (s.clock t).asks src 0x41 c → (s.clock t).authWait = 0 → s.cm.nonce = some (n, e) →
      max s.now t < e → joinScores (c.scores.drop 1) % 2 ^ 256 = respondMac s.pw.key n → s.pw.fails = 0 → Yields (.respond t src) s fun x =>
        x.cm.session = some ⟨1, max s.now t + 3600 * lsbS⟩ ∧ x.cm.nonce = none ∧ x.maintOpen = true ∧ s.answered x src c { status := 0 }
          ∧ Frame t [.fields, .command, .tx, .link, .power] s x)
    ∧ (∀ t (src : Source) (c : Cmd) (n e : Nat) (s : State), s.phase = .ready → (s.clock t).asks src 0x41 c → (s.clock t).authWait = 0 → s.cm.nonce = some (n, e) →
      max s.now t < e → joinScores (c.scores.drop 1) % 2 ^ 256 ≠ respondMac s.pw.key n → Yields (.respond t src) s fun x =>
        x.cm.session = s.cm.session ∧ x.cm.nonce = none ∧ x.pw.fails = s.pw.fails + 1 ∧ s.answered x src c { status := 0x0D }
          ∧ (s.pw.fails < 2 → x.pw.waitUntil = s.pw.waitUntil) ∧ (s.pw.fails = 2 → x.pw.waitUntil = some (max s.now t + 60 * lsbS))
          ∧ Frame t [.fields, .command, .tx, .link, .power] s x)
    ∧ (∀ t (src : Source) (c : Cmd) (p : Password) (s : State), s.phase = .ready → (s.clock t).asks src 0x42 c → (s.clock t).authWait = 0 → c.passRefused false = none →
      s.half.password = some p → passwordDigest p.salt c.passBytes = p.digest → s.pw.fails = 0 → Yields (.password t src) s fun x =>
        x.cm.session = some ⟨2, max s.now t + 3600 * lsbS⟩ ∧ x.maintOpen = true ∧ s.answered x src c { status := 0 } ∧ Frame t [.fields, .command, .tx, .link, .power] s x)
    ∧ (∀ t (src : Source) (c : Cmd) (p : Password) (s : State), s.phase = .ready → (s.clock t).asks src 0x42 c → (s.clock t).authWait = 0 → c.passRefused false = none →
      s.half.password = some p → passwordDigest p.salt c.passBytes ≠ p.digest → Yields (.password t src) s fun x =>
        x.cm.session = s.cm.session ∧ x.pw.fails = s.pw.fails + 1 ∧ s.answered x src c { status := 0x0D } ∧ Frame t [.fields, .command, .tx, .link, .power] s x)
    ∧ (∀ t (src : Source) (c : Cmd) (s : State), s.phase = .ready → (s.clock t).asks src 0x43 c → c.passRefused true = none → c.p 0 ≠ 0 →
      s.pw.badA = false ∨ s.pw.badB = false → s.storedHalf.seq ≤ s.half.seq → Yields (.setPassword t src) s fun x =>
        x.half.password = some ⟨Config.passwordSalt s.freeCtr, passwordDigest (Config.passwordSalt s.freeCtr) c.passBytes⟩ ∧ x.half.set = s.half.set
          ∧ s.answered x src c { status := 0 } ∧ Frame t [.freeCtr, .fields, .command, .tx, .link, .power] s x)
    ∧ (∀ t (src : Source) (c : Cmd) (s : State), s.phase = .ready → (s.clock t).asks src 0x44 c → Yields (.close t src) s fun x =>
        x.cm.session = none ∧ s.answered x src c { status := 0 } ∧ Frame t [.fields, .command, .tx, .link] s x)
    ∧ (∀ t (src : Source) (c : Cmd) (s : State), s.phase = .ready → (s.clock t).asks src 0x45 c → c.p 0 = 0x0F1E1 → Yields (.lockField t src) s fun x =>
        x.pw.lockFuse = true ∧ s.answered x src c { status := 0 } ∧ Frame t [.fields, .command, .tx, .link, .power] s x)
    ∧ (∀ t (e : Session) (s : State), s.phase = .ready → s.cm.session = some e → e.ends ≤ max s.now t → Yields (.sessionExpiry t) s fun x =>
        x.cm.session = none ∧ x.cm = { s.cm with session := none } ∧ Frame t [.command] s x)
    ∧ (∀ t (n e : Nat) (s : State), s.phase = .ready → s.cm.nonce = some (n, e) → e ≤ max s.now t → Yields (.nonceExpiry t) s fun x =>
        x.cm = { s.cm with nonce := none } ∧ Frame t [.command] s x)
    ∧ (∀ t (y : Nat) (s : State), s.pw.waitUntil = some y → y ≤ max s.now t → Yields (.authWaitExpiry t) s fun x =>
        x.pw = { s.pw with waitUntil := none } ∧ Frame t [.power] s x)
    ∧ (∀ t (b : Bool) (s : State), s.phase = .powerOn ∨ s.phase = .inReset → Yields (.jtagAccess t b) s fun x => Frame t [] s x)
    ∧ ∀ t (b : Bool) (s : State), s.phase ≠ .powerOn → s.phase ≠ .inReset → Yields (.jtagAccess t b) s fun x => x.tx = s.tx ++ [.jtag (!b || (s.clock t).maintOpen)] ∧ Frame t [.tx] s x

/-- POWER_ON_RESET, POWER_ON_RELEASE, SUPPLY_RESET, RST_N_ASSERT, RST_N_RELEASE, DIE_RELEASE, MGMT_WATCHDOG_EXPIRY and REBOOT_RESET complete.
POWER_ON_RESET in any state leads to power-on reset with cause 1, a supply low and no failure count; POWER_ON_RELEASE leads from there, once
VDD_AON has been above its warning level and hysteresis for 1 ms, to reset with nothing else but the clock moved on. Out of reset,
SUPPLY_RESET of a rail other than VDD_AON below its reset level resets the die with cause 2 and that rail, counts it, ends BRACE and keeps
the rail for a report; RST_N_ASSERT resets it with cause 3 and counts it. RST_N_RELEASE in reset records the hold in ms; with a supply low
the die stays in reset and only that field changes, with none it leaves reset for boot or recovery. DIE_RELEASE in reset, with every rail
above its warning level and hysteresis for 1 ms: with RST_N low and the VDD_IO classes not yet latched it latches them and the die stays in
reset; with RST_N high, both flashes and boot records readable, no flash write deferred, slot A confirmed and slot B empty, the die boots
slot A, no trial, where its image is valid (R447), and else enters recovery. MGMT_WATCHDOG_EXPIRY while the die runs and REBOOT_RESET when
due reset it with causes 5 and 4 and it leaves reset for boot or recovery. At the first, the supply reset, RST_N_ASSERT, the watchdog and
REBOOT every safety pair is low and the queue of commands, what was sent and the lock fuse stay; at the first three of these the settings
too, but for the half that a save was writing. In the phases named; what holds the die lies between the filtered instants (log entry 102).
How rails come and are held, the recorded cause, the watchdog, the boot’s facts and the layouts of records are log entries 101, 103, 109,
164 and 166. (13_safety_functions.md (parts of R327); 15_command_interface.md (parts of R405); 17_power_reset_boot.md (parts of R434, R435,
R436, R440, R441, R442, R444, R445, R448).) -/
def Obligations.ResetsHoldTheDie : Prop :=
  (∀ t (s : State), Yields (.powerOnReset t) s fun x => x.phase = .powerOn ∧ x.pw.gate = { supplyLow := true, under := addOnce 6 s.pw.gate.under, riseAt := max s.now t, aonAt := max s.now t } ∧ x.h Reg.PW_RST_CAUSE_CAUSE = 1 ∧ x.pw.fails = 0
      ∧ x.pw.setsA = s.tearSave.pw.setsA ∧ x.pw.setsB = s.tearSave.pw.setsB ∧ x.pw.lockFuse = s.pw.lockFuse ∧ x.tx = s.tx ∧ x.pending = s.pending ∧ x.now = max s.now t ∧ ∀ n, x.pairLow n)
    ∧ (∀ t (s : State), s.phase = .powerOn → s.pw.gate.under.contains 6 = false → s.pw.gate.aonAt + lsbMs ≤ max s.now t → Yields (.powerOnRelease t) s fun x => x = { s.clock t with phase := .inReset })
    ∧ (∀ t (r : Rail) (mv : Nat) (s : State), s.phase ≠ .powerOn → s.phase ≠ .inReset → r ≠ 6 → r ≠ 7 → mv < s.railReset r →
      Yields (.supplyReset t ⟨r, mv⟩) s fun x =>
        x.phase = .inReset ∧ x.pw.gate.supplyLow = true ∧ x.h Reg.PW_RST_CAUSE_CAUSE = 2 ∧ x.h Reg.PW_RST_CAUSE_RAIL = r.val ∧ x.pw.supplyRep = some r.val
          ∧ x.pw.brace = false ∧ x.h Reg.PW_SUPPLY_CNT_COUNT = min (s.h Reg.PW_SUPPLY_CNT_COUNT + 1) Reg.PW_SUPPLY_CNT_COUNT.top
          ∧ x.pw.setsA = s.tearSave.pw.setsA ∧ x.pw.setsB = s.tearSave.pw.setsB ∧ x.pw.lockFuse = s.pw.lockFuse ∧ x.tx = s.tx ∧ x.pending = s.pending ∧ ∀ n, x.pairLow n)
    ∧ (∀ t (s : State), s.phase ≠ .powerOn → s.phase ≠ .inReset → s.pw.gate.rstLow = false → Yields (.rstNAssert t) s fun x =>
        x.phase = .inReset ∧ x.pw.gate.rstLow = true ∧ x.pw.gate.rstAt = max s.now t ∧ x.h Reg.PW_RST_CAUSE_CAUSE = 3
          ∧ x.h Reg.PW_PIN_CNT_COUNT = min (s.h Reg.PW_PIN_CNT_COUNT + 1) Reg.PW_PIN_CNT_COUNT.top
          ∧ x.pw.setsA = s.tearSave.pw.setsA ∧ x.pw.setsB = s.tearSave.pw.setsB ∧ x.pw.lockFuse = s.pw.lockFuse ∧ x.tx = s.tx ∧ x.pending = s.pending ∧ ∀ n, x.pairLow n)
    ∧ (∀ t (boot : BootFacts) (s : State), s.phase = .inReset → s.pw.gate.rstLow = true → s.pw.gate.supplyLow = true → Yields (.rstNRelease t boot) s fun x =>
        x.phase = .inReset ∧ x.pw.gate.rstLow = false ∧ x.pw.gate.supplyLow = true
          ∧ x.h Reg.PW_RST_HOLD_MS = min ((max s.now t - s.pw.gate.rstAt) / lsbMs) Reg.PW_RST_HOLD_MS.top ∧ OnlyFields [Reg.PW_RST_HOLD_MS] s x)
    ∧ (∀ t (boot : BootFacts) (s : State), s.phase = .inReset → s.pw.gate.rstLow = true → s.pw.gate.supplyLow = false → Yields (.rstNRelease t boot) s fun x =>
        (x.phase = .boot ∨ x.phase = .recovery) ∧ x.pw.gate.rstLow = false ∧ x.pw.releasedAt = max s.now t
          ∧ x.h Reg.PW_RST_HOLD_MS = min ((max s.now t - s.pw.gate.rstAt) / lsbMs) Reg.PW_RST_HOLD_MS.top)
    ∧ (∀ t (hv : BitVec 8) (boot : BootFacts) (s : State), s.phase = .inReset → s.pw.gate.supplyLow = true → (s.clock t).railsHeld = true → s.pw.gate.rstLow = true → s.pw.gate.latched = false → Yields (.dieRelease t hv boot) s fun x =>
        x.phase = .inReset ∧ x.pw.gate.supplyLow = false ∧ x.pw.gate.latched = true ∧ x.h Reg.PW_IO_STAT_HV = hv.toNat ∧ OnlyFields [Reg.PW_IO_STAT_HV] s x)
    ∧ (∀ t (hv : BitVec 8) (boot : BootFacts) (s : State), s.phase = .inReset → s.pw.gate.supplyLow = true → (s.clock t).railsHeld = true → s.pw.gate.rstLow = false →
      boot.sfdpA = true → boot.sfdpB = true → boot.recordA = true → boot.recordB = true → s.pw.deferred = [] → s.pw.slotA.crc = s.pw.slotA.sum →
      s.pw.slotA.state = 4 → s.pw.slotB.state = 0 → Yields (.dieRelease t hv boot) s fun x =>
        (x.phase = if imageValid (s.pw.imageA.take s.pw.slotA.length) s.pw.keyDigest.toNat s.pw.minVersion then .boot else .recovery)
          ∧ (x.phase = .boot → x.pw.runB = false ∧ x.pw.trial = false ∧ x.h Reg.SYS_BOOT_SLOT = 0) ∧ x.pw.gate.supplyLow = false ∧ x.pw.releasedAt = max s.now t)
    ∧ (∀ t (boot : BootFacts) (s : State), s.phase = .ready → Yields (.mgmtWatchdogExpiry t boot) s fun x =>
        (x.phase = .boot ∨ x.phase = .recovery) ∧ x.h Reg.PW_RST_CAUSE_CAUSE = 5 ∧ x.pw.releasedAt = max s.now t ∧ x.tx = s.tx ∧ x.pending = s.pending
          ∧ x.pw.lockFuse = s.pw.lockFuse ∧ ∀ n, x.pairLow n)
    ∧ ∀ t (boot : BootFacts) (y : Nat) (s : State), s.pw.rebootAt = some y → y ≤ max s.now t → Yields (.rebootReset t boot) s fun x =>
        (x.phase = .boot ∨ x.phase = .recovery) ∧ x.h Reg.PW_RST_CAUSE_CAUSE = 4 ∧ x.pw.rebootAt = none ∧ x.tx = s.tx ∧ x.pending = s.pending
          ∧ x.pw.lockFuse = s.pw.lockFuse ∧ ∀ n, x.pairLow n

/-- BRACE_ENTRY, RAIL_ABOVE_WARNING, BRACE_END, SELF_TEST_COMPLETE and NODE_RDY_ASSERT complete. BRACE_ENTRY of a rail below its warning level
while the die runs, with no BRACE, no supply low and no command queued, begins BRACE: it notes the rail and that it is under, sets
BRACE_SEEN, counts it, keeps the level as the rail's minimum and sets the rail's bit; only status fields, power, thermal and fold change.
One of a rail that falls below warning level and hysteresis but not below the warning level only notes that it is under. RAIL_ABOVE_WARNING
of a rail above its warning level and hysteresis, with no BRACE, clears its bit, notes the instant and that the rail is under no more, and
leaves the phase and what was sent. BRACE_END while the die runs, with every rail above warning level and hysteresis for 1 ms, ends BRACE
and reports SUPPLY_BRACE with the rail and its minimum. SELF_TEST_COMPLETE at boot: passed with no trial image, it is noted, the boot goes
on and no register changes; failed by a trial image, the die resets with cause 6 and leaves reset for boot or recovery. NODE_RDY_ASSERT
after a passed self-test makes the die ready, with NODE_RDY_N asserted unless a REBOOT is due and no report of the boot left waiting. How
rails come, the recorded cause, the boot and its facts are log entries 101, 103, 105 and 164. (17_power_reset_boot.md (parts of R434, R437,
R438, R439, R449, R452).) -/
def Obligations.BraceAndBootComplete : Prop :=
  (∀ t (r : Rail) (mv : Nat) (s : State), s.phase = .ready → s.pw.gate.supplyLow = false → r ≠ 7 → s.pw.brace = false → s.cm.queues = [] → mv < s.railWarning r →
      Yields (.braceEntry t r mv) s fun x => x.pw.brace = true ∧ x.pw.braceRail = some r.val ∧ x.h Reg.PW_STAT_BRACE_SEEN = 1
        ∧ x.h Reg.PW_BRACE_CNT_COUNT = min (s.h Reg.PW_BRACE_CNT_COUNT + 1) Reg.PW_BRACE_CNT_COUNT.top
        ∧ x.h (Reg.PW_RAIL_MIN_MV r) = min mv (Reg.PW_RAIL_MIN_MV r).top ∧ (x.h Reg.PW_RAIL_STAT_BELOW).testBit r = true
        ∧ x.pw.gate = { s.pw.gate with under := addOnce r.val s.pw.gate.under }
        ∧ Frame t [.fields, .power, .thermal, .fold] s { x with pw := { x.pw with gate := s.pw.gate } })
    ∧ (∀ t (r : Rail) (mv : Nat) (s : State), r ≠ 7 → s.railWarning r ≤ mv → mv ≤ s.railWarning r + s.railHyst r → Yields (.braceEntry t r mv) s fun x =>
        x.pw.gate = { s.pw.gate with under := addOnce r.val s.pw.gate.under } ∧ x = { s.clock t with pw := { s.pw with gate := x.pw.gate } })
    ∧ (∀ t (r : Rail) (mv lo : Nat) (s : State), s.phase ≠ .powerOn → r ≠ 7 → s.pw.brace = false → s.railWarning r + s.railHyst r < mv →
      Yields (.railAboveWarning t r ⟨mv, lo⟩) s fun x =>
        (x.h Reg.PW_RAIL_STAT_BELOW).testBit r = false ∧ x.pw.gate = { s.pw.gate with
          under := s.pw.gate.under.filter (· ≠ r.val), riseAt := max s.now t, aonAt := if r.val = 6 then max s.now t else s.pw.gate.aonAt } ∧ x.phase = s.phase ∧ x.tx = s.tx
          ∧ OnlyFields [Reg.PW_RAIL_STAT_BELOW] s x)
    ∧ (∀ t (r : Nat) (s : State), s.phase = .ready → s.pw.brace = true → s.pw.braceRail = some r → (s.clock t).railsHeld = true →
      Yields (.braceEnd t) s fun x => x.pw.brace = false ∧ (∃ q, x.ev.inbox = s.ev.inbox ++ [q] ∧ q.code = Ev.supplyBrace.code ∧ q.e10 = r % 2 ^ 20
        ∧ q.e11 = s.h (Reg.PW_RAIL_MIN_MV r) % 2 ^ 20) ∧ Frame t [.power, .events] s x)
    ∧ (∀ t (boot : BootFacts) (s : State), s.phase = .boot → s.pw.trial = false → Yields (.selfTestComplete t true boot) s fun x =>
        x.pw = { s.pw with gate := { s.pw.gate with selfTest := true } } ∧ x.phase = .boot ∧ x.regs = s.regs)
    ∧ (∀ t (boot : BootFacts) (s : State), s.phase = .boot → s.pw.trial = true → Yields (.selfTestComplete t false boot) s fun x =>
        (x.phase = .boot ∨ x.phase = .recovery) ∧ x.h Reg.PW_RST_CAUSE_CAUSE = 6 ∧ x.pw.releasedAt = max s.now t)
    ∧ ∀ t (f : RecordFormats) (s : State), s.phase = .boot → s.pw.gate.selfTest = true → Yields (.nodeRdyAssert t f) s fun x =>
        x.phase = .ready ∧ x.pw.readyAt = max s.now t ∧ x.pw.gate = s.pw.gate ∧ x.nodeRdy = s.pw.rebootAt.isNone ∧ x.pw.due = [] ∧ x.pending = s.pending

/-- FW_STAGE, FW_STAGE_TIMEOUT, STAGE_COMPLETE, FW_CONFIRM, FW_TRIAL_EXPIRED, REBOOT, SETTINGS_SAVE, SETTINGS_SAVED and FLASH_WRITE_RESUME
complete. While the die runs: FW_STAGE of a first block that nothing refuses, with no staging, begins staging in the slot that does not run,
erases and marks it WRITING (1), buffers its bytes and answers how many were taken. FW_STAGE_TIMEOUT of one that has waited 50 ms, with room
for its reply, answers 0x0F. STAGE_COMPLETE after the last block, where every byte has been programmed by now, the flash is used and may be
programmed and no write waits, ends staging with the image's bytes in the slot and marks it STAGED (2) with its length and the security
version of its header; the other slot stays. With bytes left that may not be programmed it changes nothing. FW_CONFIRM of a trial, with both
flashes used, confirms the running slot (4) with a generation above the other's, which becomes PREVIOUS (5), clears TRIAL, raises the
minimum version to the slot's, keeps the settings in use, reports FW_CONFIRMED and answers OK. FW_TRIAL_EXPIRED at its time clears TRIAL and
reports it. REBOOT with its key releases NODE_RDY_N, is due 10 ms later and answers OK. SETTINGS_SAVE that nothing refuses takes the active
set, the saved single-copy fields and the reference; the settings in use stay. SETTINGS_SAVED, where a flash is used and may be programmed,
makes that save the settings in use with the present password and failure count and the next sequence number, and reports it.
FLASH_WRITE_RESUME inside the window and outside BRACE, also in recovery, with a failure count deferred, stores it with the next sequence
number. The order of the refusals, what a source is, when the flash is written and a flash that is not used are log entries 89, 142, 144 and
163. (15_command_interface.md (parts of R405); 17_power_reset_boot.md (parts of R448, R451, R452, R453, R455, R456).) -/
def Obligations.FirmwareAndSettingsAreWritten : Prop :=
  (∀ t (src : Source) (c : Cmd) (n : Nat) (s : State), s.phase = .ready → (s.clock t).asks src 0x50 c → s.pw.staging = none → (s.clock t).stageRefused c = none → c.p 0 / 2 ^ 19 = 1 →
      Yields (.fwStage t src n) s fun x => x.pw.staging = some { slotB := !s.pw.runB, count := c.p 3 % 256, buffer := c.imageBytes, last := decide (c.p 0 / 2 ^ 18 % 2 = 1) }
        ∧ x.imageOf (!s.pw.runB) = [] ∧ (x.slotNow (!s.pw.runB)).state = 1 ∧ s.answered x src c { status := 0, results := [BitVec.ofNat 20 (c.p 3 % 256)] }
        ∧ Frame t [.fields, .command, .tx, .link, .power] s x)
    ∧ (∀ t (src : Source) (c : Cmd) (y : Nat) (s : State), s.phase = .ready → s.cmdsOf (s.keyOf src) = [c] → c.since = some y → c.opcode = 0x50 → y + 50 * lsbMs ≤ max s.now t →
      s.mayReply (s.keyOf src) = true →
      Yields (.fwStageTimeout t src) s fun x => s.answered x src c { status := 0x0F } ∧ Frame t [.fields, .command, .tx, .link] s x)
    ∧ (∀ t (n : Nat) (y : Staging) (s : State), s.phase = .ready → s.pw.staging = some y → y.last = true → y.recorded = false → s.mayProgram = true →
      s.pw.deferred = [] → s.flashBad y.slotB = false → y.programmed ≤ y.count → y.count ≤ n → Yields (.stageComplete t n) s fun x =>
        x.pw.staging = none ∧ x.imageOf y.slotB = s.imageOf y.slotB ++ y.buffer.take (y.count - y.programmed)
          ∧ x.slotNow y.slotB = ({ s.slotNow y.slotB with
              state := 2, length := y.count, version := (Config.imageHeader ((x.imageOf y.slotB).take y.count)).version } : Slot).sealed
          ∧ x.slotNow (!y.slotB) = s.slotNow (!y.slotB) ∧ Frame t [.fields, .power] s x)
    ∧ (∀ t (n : Nat) (y : Staging) (s : State), s.phase = .ready → s.pw.staging = some y → s.mayProgram = false → y.programmed < y.count →
      Yields (.stageComplete t n) s fun x => Frame t [] s x)
    ∧ (∀ t (src : Source) (c : Cmd) (s : State), s.phase = .ready → (s.clock t).asks src 0x51 c → s.h Reg.SYS_BOOT_TRIAL = 1 → s.pw.badA = false → s.pw.badB = false → Yields (.fwConfirm t src) s fun x =>
        (x.slotNow s.pw.runB).state = 4 ∧ (x.slotNow s.pw.runB).gen = (s.slotNow (!s.pw.runB)).gen + 1 ∧ (x.slotNow (!s.pw.runB)).state = 5
          ∧ x.h Reg.SYS_BOOT_TRIAL = 0 ∧ x.pw.minVersion = max s.pw.minVersion (s.slotNow s.pw.runB).version ∧ x.half = s.half
          ∧ (∃ r ∈ x.ev.inbox, r.code = Ev.fwConfirmed.code) ∧ s.answered x src c { status := 0 } ∧ Frame t [.fields, .events, .command, .tx, .link, .power] s x)
    ∧ (∀ t (e : Nat) (s : State), s.phase = .ready → s.pw.trialEnd = some e → e ≤ max s.now t → Yields (.fwTrialExpired t) s fun x =>
        x.h Reg.SYS_BOOT_TRIAL = 0 ∧ x.pw = { s.pw with trialEnd := none } ∧ (∃ r, x.ev.inbox = s.ev.inbox ++ [r] ∧ r.code = Ev.fwTrialExpired.code)
          ∧ Frame t [.fields, .events, .power] s x)
    ∧ (∀ t (src : Source) (c : Cmd) (s : State), s.phase = .ready → (s.clock t).asks src 0x52 c → c.p 0 = 0x00A55 → Yields (.reboot t src) s fun x =>
        x.pw.rebootAt = some (max s.now t + 10 * lsbMs) ∧ x.nodeRdy = false ∧ s.answered x src c { status := 0 } ∧ Frame t [.fields, .command, .tx, .link, .power] s x)
    ∧ (∀ t (s : State), s.phase = .ready → s.saveRefused = none → Yields (.settingsSave t) s fun x =>
        (∃ y, x.pw.saving = some y ∧ y.set = s.activeTab ∧ y.one = s.savedOnes ∧ y.ref = s.refOf s.activeB) ∧ x.half = s.half ∧ Frame t [.power] s x)
    ∧ (∀ t (y : Settings) (s : State), s.phase = .ready → s.pw.saving = some y → s.mayProgram = true →
      s.pw.badA = false ∨ s.pw.badB = false → s.storedHalf.seq ≤ s.half.seq → Yields (.settingsSaved t) s fun x =>
        x.half = { y with password := s.half.password, fails := s.half.fails, seq := s.half.seq + 1 } ∧ x.pw.saving = none
          ∧ (∃ r, x.ev.inbox = s.ev.inbox ++ [r] ∧ r.code = Ev.settingsSaved.code) ∧ Frame t [.power, .events] s x)
    ∧ ∀ t (k : Nat) (s : State), s.phase = .ready ∨ s.phase = .recovery → s.mayProgram = true → s.pw.deferred = [.failures k] →
      s.pw.badA = false ∨ s.pw.badB = false → s.storedHalf.seq ≤ s.half.seq → Yields (.flashWriteResume t) s fun x =>
        x.pw.deferred = [] ∧ x.half.fails = k ∧ x.half.seq = s.half.seq + 1 ∧ x.half.set = s.half.set ∧ Frame t [.power] s x

/-- What the twelve commands of thermal management and calibration named in the statement do. While the die runs (for the first seven with no
stop to be settled): DIODE_SAMPLE that is due, with no write waiting: a reading inside the converter's window shows as TH_TJ and is kept
with its instant, the lanes staying; one outside fails the diode, puts the die domain and the step in effect to 3, leaves TH_TJ, and sets
DIODE_FAIL where the diode had not failed; in recovery it gives the flash-write window its reading alone (log entry 164). THROTTLE_RISE 500
ms after a domain's last rise raises its step by one, at most 3; THROTTLE_FALL after 1 s below lowers it by one; TH_STAT shows the deepest
step. SENSOR_RECOVER of a failed sensor after 5 s ends its failure and keeps its domain's step. EXT_SENSOR_SILENT of an enabled sensor
silent for 2 s fails it and puts its domain and the step in effect to 3. SHUTDOWN_END after 5 s clears SHUTDOWN and leaves RUN;
FIRE_RANGE_RELEASE after 1 s clears FIRE_INH, the engine's own note staying. TILE_CALIBRATION of an enabled item on the first idle tile
after the one calibrated last (rotation, log entry 165) shows the tile, which is in calibration until 5 µs before a window, and the next one
is next. CONVERTER_CAL_SLOT on a running pair at slot 0 that is free opens a calibration slot of two output periods; on one that serves an
axis it waits. CALIBRATION_RESULT of a TDC offset of a tile in calibration: within its limit, outside BRACE, it gives TE_CH_OFS the value,
starts its ramp from the value in use and counts; beyond the limit it counts as failed for its tile; of another tile it changes nothing.
CAL_PERIOD_MISSED of an enabled item after its period (a tile, a pair or an attached head) counts it, sets CAL_LATE_SEEN and notes the
instant. CAL_SETTINGS_SAVE, never done since the release, of changed values inside the window and outside BRACE, with a flash that is used,
stores them with the next sequence number and notes the instant. What a calibration result brings, and when BRACE discards it, are log
entries 112 and 144. (17_power_reset_boot.md (parts of R448, R456); 18_thermal_calibration.md (parts of R458, R460, R462, R463, R466, R467,
R469, R470, R471, R472, R473).) -/
def Obligations.TemperaturesThrottleAndCalibrate : Prop :=
  (∀ t (r : DiodeReading) (s : State), s.phase = .ready → s.sq.closeDue = false → s.regs.waiting = [] → s.regs.stale = [] → r.inWindow = true →
      (s.clock t).diodeDue = true → Yields (.diodeSample t r) s fun x => x.h Reg.TH_TJ_TJ = low 20 r.tj ∧ (x.thDomain 0).last = some r.tj ∧ (x.thDomain 0).lastAt = max s.now t ∧ x.ln = s.ln)
    ∧ (∀ t (r : DiodeReading) (s : State), s.phase = .ready → s.sq.closeDue = false → s.regs.waiting = [] → s.regs.stale = [] → r.inWindow = false →
      (s.clock t).diodeDue = true → Yields (.diodeSample t r) s fun x => (x.thDomain 0).failed = true ∧ (x.thDomain 0).step = 3 ∧ x.h Reg.TH_STAT_STEP = 3 ∧ x.h Reg.TH_STAT_STEP_DIE = 3
        ∧ (s.h Reg.TH_STAT_DIODE_FAIL = 0 → (s.thDomain 0).failed = false → x.h Reg.TH_STAT_DIODE_FAIL = 1) ∧ x.h Reg.TH_TJ_TJ = s.h Reg.TH_TJ_TJ)
    ∧ (∀ t (r : DiodeReading) (s : State), s.phase = .recovery → Yields (.diodeSample t r) s fun x =>
        x.pw.tj = (if r.inWindow = true ∧ -60 * 1024 ≤ r.tj ∧ r.tj ≤ 150 * 1024 then some r.tj else none) ∧ Frame t [.power] s x)
    ∧ (∀ t (d : Fin 5) (y : Nat) (s : State), s.phase = .ready → s.sq.closeDue = false → (s.thDomain d).roseAt = some y → y + 500 * lsbMs ≤ max s.now t →
      Yields (.throttleRise t d) s fun x => (x.thDomain d).step = min 3 ((s.thDomain d).step + 1) ∧ (x.thDomain d).roseAt = some (max s.now t)
        ∧ x.h Reg.TH_STAT_STEP = min x.deepest Reg.TH_STAT_STEP.top ∧ Frame t [.fields, .thermal, .events] s x)
    ∧ (∀ t (d : Fin 5) (y : Nat) (s : State), s.phase = .ready → s.sq.closeDue = false → (s.thDomain d).belowAt = some y → y + lsbS ≤ max s.now t →
      Yields (.throttleFall t d) s fun x => (x.thDomain d).step = (s.thDomain d).step - 1 ∧ (x.thDomain d).belowAt = some (max s.now t)
        ∧ x.h Reg.TH_STAT_STEP = min x.deepest Reg.TH_STAT_STEP.top ∧ Frame t [.fields, .thermal, .events] s x)
    ∧ (∀ t (d : Fin 5) (y : Nat) (s : State), s.phase = .ready → s.sq.closeDue = false → (s.thDomain d).okAt = some y → (s.thDomain d).failed = true → y + 5 * lsbS ≤ max s.now t →
      Yields (.sensorRecover t d) s fun x => (x.thDomain d).failed = false ∧ (x.thDomain d).step = (s.thDomain d).step ∧ (d = 0 → x.h Reg.TH_STAT_DIODE_FAIL = 0)
        ∧ OnlyFields [Reg.TH_STAT_DIODE_FAIL, Reg.TH_STAT_EXT_FAIL] s x ∧ Frame t [.fields, .thermal] s x)
    ∧ (∀ t (k : Fin 4) (s : State), s.phase = .ready → s.sq.closeDue = false → s.fu 0 (Reg.TH_EXT_CFG_EN k) = 1 → (s.clock t).extSilent k = true →
      Yields (.extSensorSilent t k) s fun x => (x.thDomain (k + 1)).failed = true ∧ (x.thDomain (k + 1)).step = 3 ∧ x.h Reg.TH_STAT_STEP = 3
        ∧ Frame t [.fields, .thermal, .events] s x)
    ∧ (∀ t (y : Nat) (s : State), s.phase = .ready → s.sq.closeDue = false → s.th.coolAt = some y → s.h Reg.TH_STAT_SHUTDOWN = 1 → y + 5 * lsbS ≤ max s.now t →
      Yields (.shutdownEnd t) s fun x => x.h Reg.TH_STAT_SHUTDOWN = 0 ∧ x.h Reg.SQ_STAT_RUN = s.h Reg.SQ_STAT_RUN ∧ OnlyFields [Reg.TH_STAT_SHUTDOWN] s x
        ∧ Frame t [.fields, .thermal] s x)
    ∧ (∀ t (y : Nat) (s : State), s.phase = .ready → s.sq.closeDue = false → s.th.insideAt = some y → y + lsbS ≤ max s.now t → (s.thDomain 0).failed = false →
      Yields (.fireRangeRelease t) s fun x => x.h Reg.TH_STAT_FIRE_INH = 0 ∧ x.th.fireInh = s.th.fireInh ∧ OnlyFields [Reg.TH_STAT_FIRE_INH] s x ∧ Frame t [.fields] s x)
    ∧ (∀ t (i : Tile) (s : State), s.phase = .ready → s.calItem 0 = true ∨ s.calItem 1 = true ∨ s.calItem 2 = true →
      ((List.range 64).map fun k => (s.th.calNext + k) % 64).find? (fun k => (s.clock t).tileIdle k (40 * lsbUs)) = some i.val →
      Yields (.tileCalibration t i) s fun x =>
        x.h Reg.TH_CAL_STAT_TILE = i.val ∧ x.calibrating i = true ∧ x.th.calNext = (i.val + 1) % 64 ∧ x.calInBrace i = s.pw.brace
          ∧ OnlyFields [Reg.TH_CAL_STAT_TILE] s x ∧ Frame t [.fields, .thermal] s x)
    ∧ (∀ t (p : Pair) (s : State), s.phase = .ready → s.calItem 3 = true → s.pairRuns p = true → s.scanServes p = true → s.inCalSlot p = false →
      Yields (.converterCalSlot t p) s fun x => Tab.get x.ax.calWait false p = true ∧ x.inCalSlot p = false ∧ Frame t [.converters] s x)
    ∧ (∀ t (p : Pair) (s : State), s.phase = .ready → s.calItem 3 = true → s.pairRuns p = true → s.scanServes p = false → s.h (Reg.AX_PAIR_STAT_SLOT p) = 0 →
      s.zCheck p = none → s.inCalSlot p = false → Yields (.converterCalSlot t p) s fun x =>
        x.inCalSlot p = true ∧ x.slotAt p = s.slotAt p + 2 * s.outPeriod p ∧ Frame t [.converters, .thermal] s x)
    ∧ (∀ t (c : Fin 512) (o : Int) (s : State), s.phase = .ready → s.calItem 0 = true → s.calInBrace (c / 8) = false → (s.clock t).calibrating (c / 8) = true →
      absLe (o - s.teVal (Reg.TE_CH_OFS c) true) (s.fu 0 Reg.TH_CAL_LIM_TDC) = true → Yields (.calibrationResult t (.tdc c o)) s fun x =>
        x.oneReg (Reg.TE_CH_OFS c) = BitVec.ofInt 20 o ∧ (∃ r ∈ x.th.ramps, r.key = Reg.TE_CH_OFS c ∧ r.v1 = o ∧ r.v0 = s.teVal (Reg.TE_CH_OFS c) true ∧ r.j = 0)
          ∧ x.h Reg.TH_CAL_RUN_COUNT = min (s.h Reg.TH_CAL_RUN_COUNT + 1) Reg.TH_CAL_RUN_COUNT.top
          ∧ Frame t [.ones, .fields, .thermal] s x)
    ∧ (∀ t (c : Fin 512) (o : Int) (s : State), s.phase = .ready → (s.clock t).calibrating (c / 8) = false → Yields (.calibrationResult t (.tdc c o)) s fun x =>
        Frame t [] s x)
    ∧ (∀ t (c : Fin 512) (o : Int) (s : State), s.phase = .ready → s.calItem 0 = true → (s.clock t).calibrating (c / 8) = true →
      absLe (o - s.teVal (Reg.TE_CH_OFS c) true) (s.fu 0 Reg.TH_CAL_LIM_TDC) = false → Yields (.calibrationResult t (.tdc c o)) s fun x =>
        x.h Reg.TH_CAL_FAIL_COUNT = min (s.h Reg.TH_CAL_FAIL_COUNT + 1) Reg.TH_CAL_FAIL_COUNT.top
          ∧ Tab.get x.th.calBad 0 (c / 8) = Tab.get s.th.calBad 0 (c / 8) + 1 ∧ Frame t [.fields, .thermal, .events] s x)
    ∧ (∀ t (i : Fin 5) (p : Fin 64) (s : State), s.phase = .ready → s.calItem i = true →
      (i.val = 3 → p.val < 4) → (i.val = 4 → p.val < 48 ∧ s.h (Reg.FL_HEAD_STAT_ATTACHED p) = 1) →
      max (Tab.get s.th.calAt 0 (64 * i.val + p.val)) s.pw.readyAt + max 1 (s.fu 0 Reg.TH_CAL_CFG_PER) * lsbS ≤ max s.now t → Yields (.calPeriodMissed t i p) s fun x =>
        x.h Reg.TH_CAL_LATE_COUNT = min (s.h Reg.TH_CAL_LATE_COUNT + 1) Reg.TH_CAL_LATE_COUNT.top ∧ x.h Reg.TH_STAT_CAL_LATE_SEEN = 1
          ∧ Tab.get x.th.calAt 0 (64 * i.val + p.val) = max s.now t ∧ Frame t [.fields, .thermal] s x)
    ∧ ∀ t (s : State), s.phase = .ready → s.pw.calSavedAt = none → s.mayProgram = true → s.pw.deferred = [] →
      s.pw.badA = false ∨ s.pw.badB = false → s.storedHalf.seq ≤ s.half.seq →
      (s.savedOnes.cells.filter fun c => c.1 != Reg.PW_FLASH_TJ) ≠ (s.half.one.cells.filter fun c => c.1 != Reg.PW_FLASH_TJ) → Yields (.calSettingsSave t) s fun x =>
        x.half.one.cells = (s.half.one.cells.filter fun c => c.1 == Reg.PW_FLASH_TJ) ++ (s.savedOnes.cells.filter fun c => c.1 != Reg.PW_FLASH_TJ)
          ∧ x.half.seq = s.half.seq + 1 ∧ x.pw.calSavedAt = some (max s.now t) ∧ Frame t [.power] s x

end
end

