-- ==== Sys2Proof/Laws/State.lean ====
section
/-!
SUPPORT. One lemma per field and update of the state.
-/

namespace Sys2Proof.Machine

/-! ### setOne -/

@[simp] theorem State.setOne_pending (s : State) (a : Nat) (v : Score) : (s.setOne a v).pending = s.pending := (rfl)
@[simp] theorem State.setOne_now (s : State) (a : Nat) (v : Score) : (s.setOne a v).now = s.now := (rfl)
@[simp] theorem State.setOne_nodeOfs (s : State) (a : Nat) (v : Score) : (s.setOne a v).nodeOfs = s.nodeOfs := (rfl)
@[simp] theorem State.setOne_phase (s : State) (a : Nat) (v : Score) : (s.setOne a v).phase = s.phase := (rfl)
@[simp] theorem State.setOne_freeCtr (s : State) (a : Nat) (v : Score) : (s.setOne a v).freeCtr = s.freeCtr := (rfl)
@[simp] theorem State.setOne_tx (s : State) (a : Nat) (v : Score) : (s.setOne a v).tx = s.tx := (rfl)
@[simp] theorem State.setOne_tl (s : State) (a : Nat) (v : Score) : (s.setOne a v).tl = s.tl := (rfl)
@[simp] theorem State.setOne_sq (s : State) (a : Nat) (v : Score) : (s.setOne a v).sq = s.sq := (rfl)
@[simp] theorem State.setOne_fd (s : State) (a : Nat) (v : Score) : (s.setOne a v).fd = s.fd := (rfl)
@[simp] theorem State.setOne_ex (s : State) (a : Nat) (v : Score) : (s.setOne a v).ex = s.ex := (rfl)
@[simp] theorem State.setOne_sv (s : State) (a : Nat) (v : Score) : (s.setOne a v).sv = s.sv := (rfl)
@[simp] theorem State.setOne_ax (s : State) (a : Nat) (v : Score) : (s.setOne a v).ax = s.ax := (rfl)
@[simp] theorem State.setOne_aq (s : State) (a : Nat) (v : Score) : (s.setOne a v).aq = s.aq := (rfl)
@[simp] theorem State.setOne_il (s : State) (a : Nat) (v : Score) : (s.setOne a v).il = s.il := (rfl)
@[simp] theorem State.setOne_ln (s : State) (a : Nat) (v : Score) : (s.setOne a v).ln = s.ln := (rfl)
@[simp] theorem State.setOne_fl (s : State) (a : Nat) (v : Score) : (s.setOne a v).fl = s.fl := (rfl)
@[simp] theorem State.setOne_ev (s : State) (a : Nat) (v : Score) : (s.setOne a v).ev = s.ev := (rfl)
@[simp] theorem State.setOne_safe (s : State) (a : Nat) (v : Score) : (s.setOne a v).safe = s.safe := (rfl)
@[simp] theorem State.setOne_dm (s : State) (a : Nat) (v : Score) : (s.setOne a v).dm = s.dm := (rfl)
@[simp] theorem State.setOne_cm (s : State) (a : Nat) (v : Score) : (s.setOne a v).cm = s.cm := (rfl)
@[simp] theorem State.setOne_cf (s : State) (a : Nat) (v : Score) : (s.setOne a v).cf = s.cf := (rfl)
@[simp] theorem State.setOne_pw (s : State) (a : Nat) (v : Score) : (s.setOne a v).pw = s.pw := (rfl)
@[simp] theorem State.setOne_th (s : State) (a : Nat) (v : Score) : (s.setOne a v).th = s.th := (rfl)

/-! ### setH -/

@[simp] theorem State.setH_pending (s : State) (f : Fld) (x : Nat) : (s.setH f x).pending = s.pending := (rfl)
@[simp] theorem State.setH_now (s : State) (f : Fld) (x : Nat) : (s.setH f x).now = s.now := (rfl)
@[simp] theorem State.setH_nodeOfs (s : State) (f : Fld) (x : Nat) : (s.setH f x).nodeOfs = s.nodeOfs := (rfl)
@[simp] theorem State.setH_phase (s : State) (f : Fld) (x : Nat) : (s.setH f x).phase = s.phase := (rfl)
@[simp] theorem State.setH_freeCtr (s : State) (f : Fld) (x : Nat) : (s.setH f x).freeCtr = s.freeCtr := (rfl)
@[simp] theorem State.setH_tx (s : State) (f : Fld) (x : Nat) : (s.setH f x).tx = s.tx := (rfl)
@[simp] theorem State.setH_tl (s : State) (f : Fld) (x : Nat) : (s.setH f x).tl = s.tl := (rfl)
@[simp] theorem State.setH_sq (s : State) (f : Fld) (x : Nat) : (s.setH f x).sq = s.sq := (rfl)
@[simp] theorem State.setH_fd (s : State) (f : Fld) (x : Nat) : (s.setH f x).fd = s.fd := (rfl)
@[simp] theorem State.setH_ex (s : State) (f : Fld) (x : Nat) : (s.setH f x).ex = s.ex := (rfl)
@[simp] theorem State.setH_sv (s : State) (f : Fld) (x : Nat) : (s.setH f x).sv = s.sv := (rfl)
@[simp] theorem State.setH_ax (s : State) (f : Fld) (x : Nat) : (s.setH f x).ax = s.ax := (rfl)
@[simp] theorem State.setH_aq (s : State) (f : Fld) (x : Nat) : (s.setH f x).aq = s.aq := (rfl)
@[simp] theorem State.setH_il (s : State) (f : Fld) (x : Nat) : (s.setH f x).il = s.il := (rfl)
@[simp] theorem State.setH_ln (s : State) (f : Fld) (x : Nat) : (s.setH f x).ln = s.ln := (rfl)
@[simp] theorem State.setH_fl (s : State) (f : Fld) (x : Nat) : (s.setH f x).fl = s.fl := (rfl)
@[simp] theorem State.setH_ev (s : State) (f : Fld) (x : Nat) : (s.setH f x).ev = s.ev := (rfl)
@[simp] theorem State.setH_safe (s : State) (f : Fld) (x : Nat) : (s.setH f x).safe = s.safe := (rfl)
@[simp] theorem State.setH_dm (s : State) (f : Fld) (x : Nat) : (s.setH f x).dm = s.dm := (rfl)
@[simp] theorem State.setH_cm (s : State) (f : Fld) (x : Nat) : (s.setH f x).cm = s.cm := (rfl)
@[simp] theorem State.setH_cf (s : State) (f : Fld) (x : Nat) : (s.setH f x).cf = s.cf := (rfl)
@[simp] theorem State.setH_pw (s : State) (f : Fld) (x : Nat) : (s.setH f x).pw = s.pw := (rfl)
@[simp] theorem State.setH_th (s : State) (f : Fld) (x : Nat) : (s.setH f x).th = s.th := (rfl)

/-! ### clock -/

@[simp] theorem State.clock_pending (s : State) (t : Nat) : (s.clock t).pending = s.pending := (rfl)
@[simp] theorem State.clock_now (s : State) (t : Nat) : (s.clock t).now = max s.now t := (rfl)
@[simp] theorem State.clock_nodeOfs (s : State) (t : Nat) : (s.clock t).nodeOfs = s.nodeOfs := (rfl)
@[simp] theorem State.clock_phase (s : State) (t : Nat) : (s.clock t).phase = s.phase := (rfl)
@[simp] theorem State.clock_freeCtr (s : State) (t : Nat) : (s.clock t).freeCtr = s.freeCtr := (rfl)
@[simp] theorem State.clock_tx (s : State) (t : Nat) : (s.clock t).tx = s.tx := (rfl)
@[simp] theorem State.clock_regs (s : State) (t : Nat) : (s.clock t).regs = s.regs := (rfl)
@[simp] theorem State.clock_tl (s : State) (t : Nat) : (s.clock t).tl = s.tl := (rfl)
@[simp] theorem State.clock_sq (s : State) (t : Nat) : (s.clock t).sq = s.sq := (rfl)
@[simp] theorem State.clock_fd (s : State) (t : Nat) : (s.clock t).fd = s.fd := (rfl)
@[simp] theorem State.clock_ex (s : State) (t : Nat) : (s.clock t).ex = s.ex := (rfl)
@[simp] theorem State.clock_sv (s : State) (t : Nat) : (s.clock t).sv = s.sv := (rfl)
@[simp] theorem State.clock_ax (s : State) (t : Nat) : (s.clock t).ax = s.ax := (rfl)
@[simp] theorem State.clock_aq (s : State) (t : Nat) : (s.clock t).aq = s.aq := (rfl)
@[simp] theorem State.clock_il (s : State) (t : Nat) : (s.clock t).il = s.il := (rfl)
@[simp] theorem State.clock_ln (s : State) (t : Nat) : (s.clock t).ln = s.ln := (rfl)
@[simp] theorem State.clock_fl (s : State) (t : Nat) : (s.clock t).fl = s.fl := (rfl)
@[simp] theorem State.clock_ev (s : State) (t : Nat) : (s.clock t).ev = s.ev := (rfl)
@[simp] theorem State.clock_safe (s : State) (t : Nat) : (s.clock t).safe = s.safe := (rfl)
@[simp] theorem State.clock_dm (s : State) (t : Nat) : (s.clock t).dm = s.dm := (rfl)
@[simp] theorem State.clock_cm (s : State) (t : Nat) : (s.clock t).cm = s.cm := (rfl)
@[simp] theorem State.clock_cf (s : State) (t : Nat) : (s.clock t).cf = s.cf := (rfl)
@[simp] theorem State.clock_pw (s : State) (t : Nat) : (s.clock t).pw = s.pw := (rfl)
@[simp] theorem State.clock_th (s : State) (t : Nat) : (s.clock t).th = s.th := (rfl)

/-! ### send -/

@[simp] theorem State.send_pending (s : State) (x : Tx) : (s.send x).pending = s.pending := (rfl)
@[simp] theorem State.send_now (s : State) (x : Tx) : (s.send x).now = s.now := (rfl)
@[simp] theorem State.send_nodeOfs (s : State) (x : Tx) : (s.send x).nodeOfs = s.nodeOfs := (rfl)
@[simp] theorem State.send_phase (s : State) (x : Tx) : (s.send x).phase = s.phase := (rfl)
@[simp] theorem State.send_freeCtr (s : State) (x : Tx) : (s.send x).freeCtr = s.freeCtr := (rfl)
@[simp] theorem State.send_tx (s : State) (x : Tx) : (s.send x).tx = s.tx ++ [x] := (rfl)
@[simp] theorem State.send_regs (s : State) (x : Tx) : (s.send x).regs = s.regs := (rfl)
@[simp] theorem State.send_tl (s : State) (x : Tx) : (s.send x).tl = s.tl := (rfl)
@[simp] theorem State.send_sq (s : State) (x : Tx) : (s.send x).sq = s.sq := (rfl)
@[simp] theorem State.send_fd (s : State) (x : Tx) : (s.send x).fd = s.fd := (rfl)
@[simp] theorem State.send_ex (s : State) (x : Tx) : (s.send x).ex = s.ex := (rfl)
@[simp] theorem State.send_sv (s : State) (x : Tx) : (s.send x).sv = s.sv := (rfl)
@[simp] theorem State.send_ax (s : State) (x : Tx) : (s.send x).ax = s.ax := (rfl)
@[simp] theorem State.send_aq (s : State) (x : Tx) : (s.send x).aq = s.aq := (rfl)
@[simp] theorem State.send_il (s : State) (x : Tx) : (s.send x).il = s.il := (rfl)
@[simp] theorem State.send_ln (s : State) (x : Tx) : (s.send x).ln = s.ln := (rfl)
@[simp] theorem State.send_fl (s : State) (x : Tx) : (s.send x).fl = s.fl := (rfl)
@[simp] theorem State.send_ev (s : State) (x : Tx) : (s.send x).ev = s.ev := (rfl)
@[simp] theorem State.send_safe (s : State) (x : Tx) : (s.send x).safe = s.safe := (rfl)
@[simp] theorem State.send_dm (s : State) (x : Tx) : (s.send x).dm = s.dm := (rfl)
@[simp] theorem State.send_cm (s : State) (x : Tx) : (s.send x).cm = s.cm := (rfl)
@[simp] theorem State.send_cf (s : State) (x : Tx) : (s.send x).cf = s.cf := (rfl)
@[simp] theorem State.send_pw (s : State) (x : Tx) : (s.send x).pw = s.pw := (rfl)
@[simp] theorem State.send_th (s : State) (x : Tx) : (s.send x).th = s.th := (rfl)

/-! ### raiseSev -/

@[simp] theorem State.raiseSev_pending (s : State) (e : Ev) (v : Sev) (a b : Nat) : (s.raiseSev e v a b).pending = s.pending := (rfl)
@[simp] theorem State.raiseSev_now (s : State) (e : Ev) (v : Sev) (a b : Nat) : (s.raiseSev e v a b).now = s.now := (rfl)
@[simp] theorem State.raiseSev_nodeOfs (s : State) (e : Ev) (v : Sev) (a b : Nat) : (s.raiseSev e v a b).nodeOfs = s.nodeOfs := (rfl)
@[simp] theorem State.raiseSev_phase (s : State) (e : Ev) (v : Sev) (a b : Nat) : (s.raiseSev e v a b).phase = s.phase := (rfl)
@[simp] theorem State.raiseSev_freeCtr (s : State) (e : Ev) (v : Sev) (a b : Nat) : (s.raiseSev e v a b).freeCtr = s.freeCtr := (rfl)
@[simp] theorem State.raiseSev_tx (s : State) (e : Ev) (v : Sev) (a b : Nat) : (s.raiseSev e v a b).tx = s.tx := (rfl)
@[simp] theorem State.raiseSev_regs (s : State) (e : Ev) (v : Sev) (a b : Nat) : (s.raiseSev e v a b).regs = s.regs := (rfl)
@[simp] theorem State.raiseSev_tl (s : State) (e : Ev) (v : Sev) (a b : Nat) : (s.raiseSev e v a b).tl = s.tl := (rfl)
@[simp] theorem State.raiseSev_sq (s : State) (e : Ev) (v : Sev) (a b : Nat) : (s.raiseSev e v a b).sq = s.sq := (rfl)
@[simp] theorem State.raiseSev_fd (s : State) (e : Ev) (v : Sev) (a b : Nat) : (s.raiseSev e v a b).fd = s.fd := (rfl)
@[simp] theorem State.raiseSev_ex (s : State) (e : Ev) (v : Sev) (a b : Nat) : (s.raiseSev e v a b).ex = s.ex := (rfl)
@[simp] theorem State.raiseSev_sv (s : State) (e : Ev) (v : Sev) (a b : Nat) : (s.raiseSev e v a b).sv = s.sv := (rfl)
@[simp] theorem State.raiseSev_ax (s : State) (e : Ev) (v : Sev) (a b : Nat) : (s.raiseSev e v a b).ax = s.ax := (rfl)
@[simp] theorem State.raiseSev_aq (s : State) (e : Ev) (v : Sev) (a b : Nat) : (s.raiseSev e v a b).aq = s.aq := (rfl)
@[simp] theorem State.raiseSev_il (s : State) (e : Ev) (v : Sev) (a b : Nat) : (s.raiseSev e v a b).il = s.il := (rfl)
@[simp] theorem State.raiseSev_ln (s : State) (e : Ev) (v : Sev) (a b : Nat) : (s.raiseSev e v a b).ln = s.ln := (rfl)
@[simp] theorem State.raiseSev_fl (s : State) (e : Ev) (v : Sev) (a b : Nat) : (s.raiseSev e v a b).fl = s.fl := (rfl)
@[simp] theorem State.raiseSev_safe (s : State) (e : Ev) (v : Sev) (a b : Nat) : (s.raiseSev e v a b).safe = s.safe := (rfl)
@[simp] theorem State.raiseSev_dm (s : State) (e : Ev) (v : Sev) (a b : Nat) : (s.raiseSev e v a b).dm = s.dm := (rfl)
@[simp] theorem State.raiseSev_cm (s : State) (e : Ev) (v : Sev) (a b : Nat) : (s.raiseSev e v a b).cm = s.cm := (rfl)
@[simp] theorem State.raiseSev_cf (s : State) (e : Ev) (v : Sev) (a b : Nat) : (s.raiseSev e v a b).cf = s.cf := (rfl)
@[simp] theorem State.raiseSev_pw (s : State) (e : Ev) (v : Sev) (a b : Nat) : (s.raiseSev e v a b).pw = s.pw := (rfl)
@[simp] theorem State.raiseSev_th (s : State) (e : Ev) (v : Sev) (a b : Nat) : (s.raiseSev e v a b).th = s.th := (rfl)

/-! ### fresh -/

@[simp] theorem State.fresh_pending (s : State) : (s.fresh).pending = s.pending := (rfl)
@[simp] theorem State.fresh_now (s : State) : (s.fresh).now = s.now := (rfl)
@[simp] theorem State.fresh_nodeOfs (s : State) : (s.fresh).nodeOfs = s.nodeOfs := (rfl)
@[simp] theorem State.fresh_phase (s : State) : (s.fresh).phase = s.phase := (rfl)
@[simp] theorem State.fresh_freeCtr (s : State) : (s.fresh).freeCtr = s.freeCtr + 1 := (rfl)
@[simp] theorem State.fresh_tx (s : State) : (s.fresh).tx = s.tx := (rfl)
@[simp] theorem State.fresh_regs (s : State) : (s.fresh).regs = s.regs := (rfl)
@[simp] theorem State.fresh_tl (s : State) : (s.fresh).tl = s.tl := (rfl)
@[simp] theorem State.fresh_sq (s : State) : (s.fresh).sq = s.sq := (rfl)
@[simp] theorem State.fresh_fd (s : State) : (s.fresh).fd = s.fd := (rfl)
@[simp] theorem State.fresh_ex (s : State) : (s.fresh).ex = s.ex := (rfl)
@[simp] theorem State.fresh_sv (s : State) : (s.fresh).sv = s.sv := (rfl)
@[simp] theorem State.fresh_ax (s : State) : (s.fresh).ax = s.ax := (rfl)
@[simp] theorem State.fresh_aq (s : State) : (s.fresh).aq = s.aq := (rfl)
@[simp] theorem State.fresh_il (s : State) : (s.fresh).il = s.il := (rfl)
@[simp] theorem State.fresh_ln (s : State) : (s.fresh).ln = s.ln := (rfl)
@[simp] theorem State.fresh_fl (s : State) : (s.fresh).fl = s.fl := (rfl)
@[simp] theorem State.fresh_ev (s : State) : (s.fresh).ev = s.ev := (rfl)
@[simp] theorem State.fresh_safe (s : State) : (s.fresh).safe = s.safe := (rfl)
@[simp] theorem State.fresh_dm (s : State) : (s.fresh).dm = s.dm := (rfl)
@[simp] theorem State.fresh_cm (s : State) : (s.fresh).cm = s.cm := (rfl)
@[simp] theorem State.fresh_cf (s : State) : (s.fresh).cf = s.cf := (rfl)
@[simp] theorem State.fresh_pw (s : State) : (s.fresh).pw = s.pw := (rfl)
@[simp] theorem State.fresh_th (s : State) : (s.fresh).th = s.th := (rfl)

/-! ### keep -/

@[simp] theorem State.keep_pending (s : State) (t : Nat) (x : State) : (s.keep t x).pending = s.pending := (rfl)
@[simp] theorem State.keep_now (s : State) (t : Nat) (x : State) : (s.keep t x).now = max s.now t := (rfl)
@[simp] theorem State.keep_nodeOfs (s : State) (t : Nat) (x : State) : (s.keep t x).nodeOfs = x.nodeOfs := (rfl)
@[simp] theorem State.keep_phase (s : State) (t : Nat) (x : State) : (s.keep t x).phase = s.phase := (rfl)
@[simp] theorem State.keep_freeCtr (s : State) (t : Nat) (x : State) : (s.keep t x).freeCtr = x.freeCtr := (rfl)
@[simp] theorem State.keep_tx (s : State) (t : Nat) (x : State) : (s.keep t x).tx = x.tx := (rfl)
@[simp] theorem State.keep_regs (s : State) (t : Nat) (x : State) : (s.keep t x).regs = x.regs := (rfl)
@[simp] theorem State.keep_tl (s : State) (t : Nat) (x : State) : (s.keep t x).tl = x.tl := (rfl)
@[simp] theorem State.keep_sq (s : State) (t : Nat) (x : State) : (s.keep t x).sq = x.sq := (rfl)
@[simp] theorem State.keep_fd (s : State) (t : Nat) (x : State) : (s.keep t x).fd = x.fd := (rfl)
@[simp] theorem State.keep_ex (s : State) (t : Nat) (x : State) : (s.keep t x).ex = x.ex := (rfl)
@[simp] theorem State.keep_sv (s : State) (t : Nat) (x : State) : (s.keep t x).sv = x.sv := (rfl)
@[simp] theorem State.keep_ax (s : State) (t : Nat) (x : State) : (s.keep t x).ax = x.ax := (rfl)
@[simp] theorem State.keep_aq (s : State) (t : Nat) (x : State) : (s.keep t x).aq = x.aq := (rfl)
@[simp] theorem State.keep_il (s : State) (t : Nat) (x : State) : (s.keep t x).il = x.il := (rfl)
@[simp] theorem State.keep_ln (s : State) (t : Nat) (x : State) : (s.keep t x).ln = x.ln := (rfl)
@[simp] theorem State.keep_fl (s : State) (t : Nat) (x : State) : (s.keep t x).fl = x.fl := (rfl)
@[simp] theorem State.keep_ev (s : State) (t : Nat) (x : State) : (s.keep t x).ev = x.ev := (rfl)
@[simp] theorem State.keep_safe (s : State) (t : Nat) (x : State) : (s.keep t x).safe = x.safe := (rfl)
@[simp] theorem State.keep_dm (s : State) (t : Nat) (x : State) : (s.keep t x).dm = x.dm := (rfl)
@[simp] theorem State.keep_cm (s : State) (t : Nat) (x : State) : (s.keep t x).cm = x.cm := (rfl)
@[simp] theorem State.keep_cf (s : State) (t : Nat) (x : State) : (s.keep t x).cf = x.cf := (rfl)
@[simp] theorem State.keep_pw (s : State) (t : Nat) (x : State) : (s.keep t x).pw = { x.pw with gate := s.pw.gate } := (rfl)
@[simp] theorem State.keep_th (s : State) (t : Nat) (x : State) : (s.keep t x).th = x.th := (rfl)

/-! ### flag -/

@[simp] theorem State.flag_pending (s : State) (f : Fld) (b : Bool) : (s.flag f b).pending = s.pending := (rfl)
@[simp] theorem State.flag_now (s : State) (f : Fld) (b : Bool) : (s.flag f b).now = s.now := (rfl)
@[simp] theorem State.flag_nodeOfs (s : State) (f : Fld) (b : Bool) : (s.flag f b).nodeOfs = s.nodeOfs := (rfl)
@[simp] theorem State.flag_phase (s : State) (f : Fld) (b : Bool) : (s.flag f b).phase = s.phase := (rfl)
@[simp] theorem State.flag_freeCtr (s : State) (f : Fld) (b : Bool) : (s.flag f b).freeCtr = s.freeCtr := (rfl)
@[simp] theorem State.flag_tx (s : State) (f : Fld) (b : Bool) : (s.flag f b).tx = s.tx := (rfl)
@[simp] theorem State.flag_tl (s : State) (f : Fld) (b : Bool) : (s.flag f b).tl = s.tl := (rfl)
@[simp] theorem State.flag_sq (s : State) (f : Fld) (b : Bool) : (s.flag f b).sq = s.sq := (rfl)
@[simp] theorem State.flag_fd (s : State) (f : Fld) (b : Bool) : (s.flag f b).fd = s.fd := (rfl)
@[simp] theorem State.flag_ex (s : State) (f : Fld) (b : Bool) : (s.flag f b).ex = s.ex := (rfl)
@[simp] theorem State.flag_sv (s : State) (f : Fld) (b : Bool) : (s.flag f b).sv = s.sv := (rfl)
@[simp] theorem State.flag_ax (s : State) (f : Fld) (b : Bool) : (s.flag f b).ax = s.ax := (rfl)
@[simp] theorem State.flag_aq (s : State) (f : Fld) (b : Bool) : (s.flag f b).aq = s.aq := (rfl)
@[simp] theorem State.flag_il (s : State) (f : Fld) (b : Bool) : (s.flag f b).il = s.il := (rfl)
@[simp] theorem State.flag_ln (s : State) (f : Fld) (b : Bool) : (s.flag f b).ln = s.ln := (rfl)
@[simp] theorem State.flag_fl (s : State) (f : Fld) (b : Bool) : (s.flag f b).fl = s.fl := (rfl)
@[simp] theorem State.flag_ev (s : State) (f : Fld) (b : Bool) : (s.flag f b).ev = s.ev := (rfl)
@[simp] theorem State.flag_safe (s : State) (f : Fld) (b : Bool) : (s.flag f b).safe = s.safe := (rfl)
@[simp] theorem State.flag_dm (s : State) (f : Fld) (b : Bool) : (s.flag f b).dm = s.dm := (rfl)
@[simp] theorem State.flag_cm (s : State) (f : Fld) (b : Bool) : (s.flag f b).cm = s.cm := (rfl)
@[simp] theorem State.flag_cf (s : State) (f : Fld) (b : Bool) : (s.flag f b).cf = s.cf := (rfl)
@[simp] theorem State.flag_pw (s : State) (f : Fld) (b : Bool) : (s.flag f b).pw = s.pw := (rfl)
@[simp] theorem State.flag_th (s : State) (f : Fld) (b : Bool) : (s.flag f b).th = s.th := (rfl)

/-! ### orBit -/

@[simp] theorem State.orBit_pending (s : State) (f : Fld) (i : Nat) : (s.orBit f i).pending = s.pending := (rfl)
@[simp] theorem State.orBit_now (s : State) (f : Fld) (i : Nat) : (s.orBit f i).now = s.now := (rfl)
@[simp] theorem State.orBit_nodeOfs (s : State) (f : Fld) (i : Nat) : (s.orBit f i).nodeOfs = s.nodeOfs := (rfl)
@[simp] theorem State.orBit_phase (s : State) (f : Fld) (i : Nat) : (s.orBit f i).phase = s.phase := (rfl)
@[simp] theorem State.orBit_freeCtr (s : State) (f : Fld) (i : Nat) : (s.orBit f i).freeCtr = s.freeCtr := (rfl)
@[simp] theorem State.orBit_tx (s : State) (f : Fld) (i : Nat) : (s.orBit f i).tx = s.tx := (rfl)
@[simp] theorem State.orBit_tl (s : State) (f : Fld) (i : Nat) : (s.orBit f i).tl = s.tl := (rfl)
@[simp] theorem State.orBit_sq (s : State) (f : Fld) (i : Nat) : (s.orBit f i).sq = s.sq := (rfl)
@[simp] theorem State.orBit_fd (s : State) (f : Fld) (i : Nat) : (s.orBit f i).fd = s.fd := (rfl)
@[simp] theorem State.orBit_ex (s : State) (f : Fld) (i : Nat) : (s.orBit f i).ex = s.ex := (rfl)
@[simp] theorem State.orBit_sv (s : State) (f : Fld) (i : Nat) : (s.orBit f i).sv = s.sv := (rfl)
@[simp] theorem State.orBit_ax (s : State) (f : Fld) (i : Nat) : (s.orBit f i).ax = s.ax := (rfl)
@[simp] theorem State.orBit_aq (s : State) (f : Fld) (i : Nat) : (s.orBit f i).aq = s.aq := (rfl)
@[simp] theorem State.orBit_il (s : State) (f : Fld) (i : Nat) : (s.orBit f i).il = s.il := (rfl)
@[simp] theorem State.orBit_ln (s : State) (f : Fld) (i : Nat) : (s.orBit f i).ln = s.ln := (rfl)
@[simp] theorem State.orBit_fl (s : State) (f : Fld) (i : Nat) : (s.orBit f i).fl = s.fl := (rfl)
@[simp] theorem State.orBit_ev (s : State) (f : Fld) (i : Nat) : (s.orBit f i).ev = s.ev := (rfl)
@[simp] theorem State.orBit_safe (s : State) (f : Fld) (i : Nat) : (s.orBit f i).safe = s.safe := (rfl)
@[simp] theorem State.orBit_dm (s : State) (f : Fld) (i : Nat) : (s.orBit f i).dm = s.dm := (rfl)
@[simp] theorem State.orBit_cm (s : State) (f : Fld) (i : Nat) : (s.orBit f i).cm = s.cm := (rfl)
@[simp] theorem State.orBit_cf (s : State) (f : Fld) (i : Nat) : (s.orBit f i).cf = s.cf := (rfl)
@[simp] theorem State.orBit_pw (s : State) (f : Fld) (i : Nat) : (s.orBit f i).pw = s.pw := (rfl)
@[simp] theorem State.orBit_th (s : State) (f : Fld) (i : Nat) : (s.orBit f i).th = s.th := (rfl)

/-! ### clrBit -/

@[simp] theorem State.clrBit_pending (s : State) (f : Fld) (i : Nat) : (s.clrBit f i).pending = s.pending := (rfl)
@[simp] theorem State.clrBit_now (s : State) (f : Fld) (i : Nat) : (s.clrBit f i).now = s.now := (rfl)
@[simp] theorem State.clrBit_nodeOfs (s : State) (f : Fld) (i : Nat) : (s.clrBit f i).nodeOfs = s.nodeOfs := (rfl)
@[simp] theorem State.clrBit_phase (s : State) (f : Fld) (i : Nat) : (s.clrBit f i).phase = s.phase := (rfl)
@[simp] theorem State.clrBit_freeCtr (s : State) (f : Fld) (i : Nat) : (s.clrBit f i).freeCtr = s.freeCtr := (rfl)
@[simp] theorem State.clrBit_tx (s : State) (f : Fld) (i : Nat) : (s.clrBit f i).tx = s.tx := (rfl)
@[simp] theorem State.clrBit_tl (s : State) (f : Fld) (i : Nat) : (s.clrBit f i).tl = s.tl := (rfl)
@[simp] theorem State.clrBit_sq (s : State) (f : Fld) (i : Nat) : (s.clrBit f i).sq = s.sq := (rfl)
@[simp] theorem State.clrBit_fd (s : State) (f : Fld) (i : Nat) : (s.clrBit f i).fd = s.fd := (rfl)
@[simp] theorem State.clrBit_ex (s : State) (f : Fld) (i : Nat) : (s.clrBit f i).ex = s.ex := (rfl)
@[simp] theorem State.clrBit_sv (s : State) (f : Fld) (i : Nat) : (s.clrBit f i).sv = s.sv := (rfl)
@[simp] theorem State.clrBit_ax (s : State) (f : Fld) (i : Nat) : (s.clrBit f i).ax = s.ax := (rfl)
@[simp] theorem State.clrBit_aq (s : State) (f : Fld) (i : Nat) : (s.clrBit f i).aq = s.aq := (rfl)
@[simp] theorem State.clrBit_il (s : State) (f : Fld) (i : Nat) : (s.clrBit f i).il = s.il := (rfl)
@[simp] theorem State.clrBit_ln (s : State) (f : Fld) (i : Nat) : (s.clrBit f i).ln = s.ln := (rfl)
@[simp] theorem State.clrBit_fl (s : State) (f : Fld) (i : Nat) : (s.clrBit f i).fl = s.fl := (rfl)
@[simp] theorem State.clrBit_ev (s : State) (f : Fld) (i : Nat) : (s.clrBit f i).ev = s.ev := (rfl)
@[simp] theorem State.clrBit_safe (s : State) (f : Fld) (i : Nat) : (s.clrBit f i).safe = s.safe := (rfl)
@[simp] theorem State.clrBit_dm (s : State) (f : Fld) (i : Nat) : (s.clrBit f i).dm = s.dm := (rfl)
@[simp] theorem State.clrBit_cm (s : State) (f : Fld) (i : Nat) : (s.clrBit f i).cm = s.cm := (rfl)
@[simp] theorem State.clrBit_cf (s : State) (f : Fld) (i : Nat) : (s.clrBit f i).cf = s.cf := (rfl)
@[simp] theorem State.clrBit_pw (s : State) (f : Fld) (i : Nat) : (s.clrBit f i).pw = s.pw := (rfl)
@[simp] theorem State.clrBit_th (s : State) (f : Fld) (i : Nat) : (s.clrBit f i).th = s.th := (rfl)

/-! ### add -/

@[simp] theorem State.add_pending (s : State) (f : Fld) (n : Nat) : (s.add f n).pending = s.pending := (rfl)
@[simp] theorem State.add_now (s : State) (f : Fld) (n : Nat) : (s.add f n).now = s.now := (rfl)
@[simp] theorem State.add_nodeOfs (s : State) (f : Fld) (n : Nat) : (s.add f n).nodeOfs = s.nodeOfs := (rfl)
@[simp] theorem State.add_phase (s : State) (f : Fld) (n : Nat) : (s.add f n).phase = s.phase := (rfl)
@[simp] theorem State.add_freeCtr (s : State) (f : Fld) (n : Nat) : (s.add f n).freeCtr = s.freeCtr := (rfl)
@[simp] theorem State.add_tx (s : State) (f : Fld) (n : Nat) : (s.add f n).tx = s.tx := (rfl)
@[simp] theorem State.add_tl (s : State) (f : Fld) (n : Nat) : (s.add f n).tl = s.tl := (rfl)
@[simp] theorem State.add_sq (s : State) (f : Fld) (n : Nat) : (s.add f n).sq = s.sq := (rfl)
@[simp] theorem State.add_fd (s : State) (f : Fld) (n : Nat) : (s.add f n).fd = s.fd := (rfl)
@[simp] theorem State.add_ex (s : State) (f : Fld) (n : Nat) : (s.add f n).ex = s.ex := (rfl)
@[simp] theorem State.add_sv (s : State) (f : Fld) (n : Nat) : (s.add f n).sv = s.sv := (rfl)
@[simp] theorem State.add_ax (s : State) (f : Fld) (n : Nat) : (s.add f n).ax = s.ax := (rfl)
@[simp] theorem State.add_aq (s : State) (f : Fld) (n : Nat) : (s.add f n).aq = s.aq := (rfl)
@[simp] theorem State.add_il (s : State) (f : Fld) (n : Nat) : (s.add f n).il = s.il := (rfl)
@[simp] theorem State.add_ln (s : State) (f : Fld) (n : Nat) : (s.add f n).ln = s.ln := (rfl)
@[simp] theorem State.add_fl (s : State) (f : Fld) (n : Nat) : (s.add f n).fl = s.fl := (rfl)
@[simp] theorem State.add_ev (s : State) (f : Fld) (n : Nat) : (s.add f n).ev = s.ev := (rfl)
@[simp] theorem State.add_safe (s : State) (f : Fld) (n : Nat) : (s.add f n).safe = s.safe := (rfl)
@[simp] theorem State.add_dm (s : State) (f : Fld) (n : Nat) : (s.add f n).dm = s.dm := (rfl)
@[simp] theorem State.add_cm (s : State) (f : Fld) (n : Nat) : (s.add f n).cm = s.cm := (rfl)
@[simp] theorem State.add_cf (s : State) (f : Fld) (n : Nat) : (s.add f n).cf = s.cf := (rfl)
@[simp] theorem State.add_pw (s : State) (f : Fld) (n : Nat) : (s.add f n).pw = s.pw := (rfl)
@[simp] theorem State.add_th (s : State) (f : Fld) (n : Nat) : (s.add f n).th = s.th := (rfl)

/-! ### inc -/

@[simp] theorem State.inc_pending (s : State) (f : Fld) : (s.inc f).pending = s.pending := (rfl)
@[simp] theorem State.inc_now (s : State) (f : Fld) : (s.inc f).now = s.now := (rfl)
@[simp] theorem State.inc_nodeOfs (s : State) (f : Fld) : (s.inc f).nodeOfs = s.nodeOfs := (rfl)
@[simp] theorem State.inc_phase (s : State) (f : Fld) : (s.inc f).phase = s.phase := (rfl)
@[simp] theorem State.inc_freeCtr (s : State) (f : Fld) : (s.inc f).freeCtr = s.freeCtr := (rfl)
@[simp] theorem State.inc_tx (s : State) (f : Fld) : (s.inc f).tx = s.tx := (rfl)
@[simp] theorem State.inc_tl (s : State) (f : Fld) : (s.inc f).tl = s.tl := (rfl)
@[simp] theorem State.inc_sq (s : State) (f : Fld) : (s.inc f).sq = s.sq := (rfl)
@[simp] theorem State.inc_fd (s : State) (f : Fld) : (s.inc f).fd = s.fd := (rfl)
@[simp] theorem State.inc_ex (s : State) (f : Fld) : (s.inc f).ex = s.ex := (rfl)
@[simp] theorem State.inc_sv (s : State) (f : Fld) : (s.inc f).sv = s.sv := (rfl)
@[simp] theorem State.inc_ax (s : State) (f : Fld) : (s.inc f).ax = s.ax := (rfl)
@[simp] theorem State.inc_aq (s : State) (f : Fld) : (s.inc f).aq = s.aq := (rfl)
@[simp] theorem State.inc_il (s : State) (f : Fld) : (s.inc f).il = s.il := (rfl)
@[simp] theorem State.inc_ln (s : State) (f : Fld) : (s.inc f).ln = s.ln := (rfl)
@[simp] theorem State.inc_fl (s : State) (f : Fld) : (s.inc f).fl = s.fl := (rfl)
@[simp] theorem State.inc_ev (s : State) (f : Fld) : (s.inc f).ev = s.ev := (rfl)
@[simp] theorem State.inc_safe (s : State) (f : Fld) : (s.inc f).safe = s.safe := (rfl)
@[simp] theorem State.inc_dm (s : State) (f : Fld) : (s.inc f).dm = s.dm := (rfl)
@[simp] theorem State.inc_cm (s : State) (f : Fld) : (s.inc f).cm = s.cm := (rfl)
@[simp] theorem State.inc_cf (s : State) (f : Fld) : (s.inc f).cf = s.cf := (rfl)
@[simp] theorem State.inc_pw (s : State) (f : Fld) : (s.inc f).pw = s.pw := (rfl)
@[simp] theorem State.inc_th (s : State) (f : Fld) : (s.inc f).th = s.th := (rfl)

/-! ### setFo -/

@[simp] theorem State.setFo_pending (s : State) (f : Fld) (x : Nat) : (s.setFo f x).pending = s.pending := (rfl)
@[simp] theorem State.setFo_now (s : State) (f : Fld) (x : Nat) : (s.setFo f x).now = s.now := (rfl)
@[simp] theorem State.setFo_nodeOfs (s : State) (f : Fld) (x : Nat) : (s.setFo f x).nodeOfs = s.nodeOfs := (rfl)
@[simp] theorem State.setFo_phase (s : State) (f : Fld) (x : Nat) : (s.setFo f x).phase = s.phase := (rfl)
@[simp] theorem State.setFo_freeCtr (s : State) (f : Fld) (x : Nat) : (s.setFo f x).freeCtr = s.freeCtr := (rfl)
@[simp] theorem State.setFo_tx (s : State) (f : Fld) (x : Nat) : (s.setFo f x).tx = s.tx := (rfl)
@[simp] theorem State.setFo_tl (s : State) (f : Fld) (x : Nat) : (s.setFo f x).tl = s.tl := (rfl)
@[simp] theorem State.setFo_sq (s : State) (f : Fld) (x : Nat) : (s.setFo f x).sq = s.sq := (rfl)
@[simp] theorem State.setFo_fd (s : State) (f : Fld) (x : Nat) : (s.setFo f x).fd = s.fd := (rfl)
@[simp] theorem State.setFo_ex (s : State) (f : Fld) (x : Nat) : (s.setFo f x).ex = s.ex := (rfl)
@[simp] theorem State.setFo_sv (s : State) (f : Fld) (x : Nat) : (s.setFo f x).sv = s.sv := (rfl)
@[simp] theorem State.setFo_ax (s : State) (f : Fld) (x : Nat) : (s.setFo f x).ax = s.ax := (rfl)
@[simp] theorem State.setFo_aq (s : State) (f : Fld) (x : Nat) : (s.setFo f x).aq = s.aq := (rfl)
@[simp] theorem State.setFo_il (s : State) (f : Fld) (x : Nat) : (s.setFo f x).il = s.il := (rfl)
@[simp] theorem State.setFo_ln (s : State) (f : Fld) (x : Nat) : (s.setFo f x).ln = s.ln := (rfl)
@[simp] theorem State.setFo_fl (s : State) (f : Fld) (x : Nat) : (s.setFo f x).fl = s.fl := (rfl)
@[simp] theorem State.setFo_ev (s : State) (f : Fld) (x : Nat) : (s.setFo f x).ev = s.ev := (rfl)
@[simp] theorem State.setFo_safe (s : State) (f : Fld) (x : Nat) : (s.setFo f x).safe = s.safe := (rfl)
@[simp] theorem State.setFo_dm (s : State) (f : Fld) (x : Nat) : (s.setFo f x).dm = s.dm := (rfl)
@[simp] theorem State.setFo_cm (s : State) (f : Fld) (x : Nat) : (s.setFo f x).cm = s.cm := (rfl)
@[simp] theorem State.setFo_cf (s : State) (f : Fld) (x : Nat) : (s.setFo f x).cf = s.cf := (rfl)
@[simp] theorem State.setFo_pw (s : State) (f : Fld) (x : Nat) : (s.setFo f x).pw = s.pw := (rfl)
@[simp] theorem State.setFo_th (s : State) (f : Fld) (x : Nat) : (s.setFo f x).th = s.th := (rfl)

/-! ### raise -/

@[simp] theorem State.raise_pending (s : State) (e : Ev) (a b : Nat) : (s.raise e a b).pending = s.pending := (rfl)
@[simp] theorem State.raise_now (s : State) (e : Ev) (a b : Nat) : (s.raise e a b).now = s.now := (rfl)
@[simp] theorem State.raise_nodeOfs (s : State) (e : Ev) (a b : Nat) : (s.raise e a b).nodeOfs = s.nodeOfs := (rfl)
@[simp] theorem State.raise_phase (s : State) (e : Ev) (a b : Nat) : (s.raise e a b).phase = s.phase := (rfl)
@[simp] theorem State.raise_freeCtr (s : State) (e : Ev) (a b : Nat) : (s.raise e a b).freeCtr = s.freeCtr := (rfl)
@[simp] theorem State.raise_tx (s : State) (e : Ev) (a b : Nat) : (s.raise e a b).tx = s.tx := (rfl)
@[simp] theorem State.raise_regs (s : State) (e : Ev) (a b : Nat) : (s.raise e a b).regs = s.regs := (rfl)
@[simp] theorem State.raise_tl (s : State) (e : Ev) (a b : Nat) : (s.raise e a b).tl = s.tl := (rfl)
@[simp] theorem State.raise_sq (s : State) (e : Ev) (a b : Nat) : (s.raise e a b).sq = s.sq := (rfl)
@[simp] theorem State.raise_fd (s : State) (e : Ev) (a b : Nat) : (s.raise e a b).fd = s.fd := (rfl)
@[simp] theorem State.raise_ex (s : State) (e : Ev) (a b : Nat) : (s.raise e a b).ex = s.ex := (rfl)
@[simp] theorem State.raise_sv (s : State) (e : Ev) (a b : Nat) : (s.raise e a b).sv = s.sv := (rfl)
@[simp] theorem State.raise_ax (s : State) (e : Ev) (a b : Nat) : (s.raise e a b).ax = s.ax := (rfl)
@[simp] theorem State.raise_aq (s : State) (e : Ev) (a b : Nat) : (s.raise e a b).aq = s.aq := (rfl)
@[simp] theorem State.raise_il (s : State) (e : Ev) (a b : Nat) : (s.raise e a b).il = s.il := (rfl)
@[simp] theorem State.raise_ln (s : State) (e : Ev) (a b : Nat) : (s.raise e a b).ln = s.ln := (rfl)
@[simp] theorem State.raise_fl (s : State) (e : Ev) (a b : Nat) : (s.raise e a b).fl = s.fl := (rfl)
@[simp] theorem State.raise_safe (s : State) (e : Ev) (a b : Nat) : (s.raise e a b).safe = s.safe := (rfl)
@[simp] theorem State.raise_dm (s : State) (e : Ev) (a b : Nat) : (s.raise e a b).dm = s.dm := (rfl)
@[simp] theorem State.raise_cm (s : State) (e : Ev) (a b : Nat) : (s.raise e a b).cm = s.cm := (rfl)
@[simp] theorem State.raise_cf (s : State) (e : Ev) (a b : Nat) : (s.raise e a b).cf = s.cf := (rfl)
@[simp] theorem State.raise_pw (s : State) (e : Ev) (a b : Nat) : (s.raise e a b).pw = s.pw := (rfl)
@[simp] theorem State.raise_th (s : State) (e : Ev) (a b : Nat) : (s.raise e a b).th = s.th := (rfl)

/-! ### clear and raiseOnce -/

theorem foldl_inv {α β γ : Type} (p : β → γ) (l : List α) (f : β → α → β) (s : β) (h : ∀ s x, p (f s x) = p s) : p (l.foldl f s) = p s := by
  induction l generalizing s with
  | nil => rfl
  | cons x r ih => rw [List.foldl_cons, ih, h]

@[simp] theorem State.clear_pending (s : State) (fs : List Fld) : (s.clear fs).pending = s.pending :=
  foldl_inv State.pending fs _ s fun x f => State.setH_pending x f _

@[simp] theorem State.clear_now (s : State) (fs : List Fld) : (s.clear fs).now = s.now :=
  foldl_inv State.now fs _ s fun x f => State.setH_now x f _

@[simp] theorem State.clear_nodeOfs (s : State) (fs : List Fld) : (s.clear fs).nodeOfs = s.nodeOfs :=
  foldl_inv State.nodeOfs fs _ s fun x f => State.setH_nodeOfs x f _

@[simp] theorem State.clear_phase (s : State) (fs : List Fld) : (s.clear fs).phase = s.phase :=
  foldl_inv State.phase fs _ s fun x f => State.setH_phase x f _

@[simp] theorem State.clear_freeCtr (s : State) (fs : List Fld) : (s.clear fs).freeCtr = s.freeCtr :=
  foldl_inv State.freeCtr fs _ s fun x f => State.setH_freeCtr x f _

@[simp] theorem State.clear_tx (s : State) (fs : List Fld) : (s.clear fs).tx = s.tx :=
  foldl_inv State.tx fs _ s fun x f => State.setH_tx x f _

@[simp] theorem State.clear_tl (s : State) (fs : List Fld) : (s.clear fs).tl = s.tl :=
  foldl_inv State.tl fs _ s fun x f => State.setH_tl x f _

@[simp] theorem State.clear_sq (s : State) (fs : List Fld) : (s.clear fs).sq = s.sq :=
  foldl_inv State.sq fs _ s fun x f => State.setH_sq x f _

@[simp] theorem State.clear_fd (s : State) (fs : List Fld) : (s.clear fs).fd = s.fd :=
  foldl_inv State.fd fs _ s fun x f => State.setH_fd x f _

@[simp] theorem State.clear_ex (s : State) (fs : List Fld) : (s.clear fs).ex = s.ex :=
  foldl_inv State.ex fs _ s fun x f => State.setH_ex x f _

@[simp] theorem State.clear_sv (s : State) (fs : List Fld) : (s.clear fs).sv = s.sv :=
  foldl_inv State.sv fs _ s fun x f => State.setH_sv x f _

@[simp] theorem State.clear_ax (s : State) (fs : List Fld) : (s.clear fs).ax = s.ax :=
  foldl_inv State.ax fs _ s fun x f => State.setH_ax x f _

@[simp] theorem State.clear_aq (s : State) (fs : List Fld) : (s.clear fs).aq = s.aq :=
  foldl_inv State.aq fs _ s fun x f => State.setH_aq x f _

@[simp] theorem State.clear_il (s : State) (fs : List Fld) : (s.clear fs).il = s.il :=
  foldl_inv State.il fs _ s fun x f => State.setH_il x f _

@[simp] theorem State.clear_ln (s : State) (fs : List Fld) : (s.clear fs).ln = s.ln :=
  foldl_inv State.ln fs _ s fun x f => State.setH_ln x f _

@[simp] theorem State.clear_fl (s : State) (fs : List Fld) : (s.clear fs).fl = s.fl :=
  foldl_inv State.fl fs _ s fun x f => State.setH_fl x f _

@[simp] theorem State.clear_ev (s : State) (fs : List Fld) : (s.clear fs).ev = s.ev :=
  foldl_inv State.ev fs _ s fun x f => State.setH_ev x f _

@[simp] theorem State.clear_safe (s : State) (fs : List Fld) : (s.clear fs).safe = s.safe :=
  foldl_inv State.safe fs _ s fun x f => State.setH_safe x f _

@[simp] theorem State.clear_dm (s : State) (fs : List Fld) : (s.clear fs).dm = s.dm :=
  foldl_inv State.dm fs _ s fun x f => State.setH_dm x f _

@[simp] theorem State.clear_cm (s : State) (fs : List Fld) : (s.clear fs).cm = s.cm :=
  foldl_inv State.cm fs _ s fun x f => State.setH_cm x f _

@[simp] theorem State.clear_cf (s : State) (fs : List Fld) : (s.clear fs).cf = s.cf :=
  foldl_inv State.cf fs _ s fun x f => State.setH_cf x f _

@[simp] theorem State.clear_pw (s : State) (fs : List Fld) : (s.clear fs).pw = s.pw :=
  foldl_inv State.pw fs _ s fun x f => State.setH_pw x f _

@[simp] theorem State.clear_th (s : State) (fs : List Fld) : (s.clear fs).th = s.th :=
  foldl_inv State.th fs _ s fun x f => State.setH_th x f _

@[simp] theorem State.raiseOnce_pending (s : State) (e : Ev) (a b : Nat) : (s.raiseOnce e a b).pending = s.pending := by
  unfold State.raiseOnce; split <;> rfl

@[simp] theorem State.raiseOnce_now (s : State) (e : Ev) (a b : Nat) : (s.raiseOnce e a b).now = s.now := by
  unfold State.raiseOnce; split <;> rfl

@[simp] theorem State.raiseOnce_nodeOfs (s : State) (e : Ev) (a b : Nat) : (s.raiseOnce e a b).nodeOfs = s.nodeOfs := by
  unfold State.raiseOnce; split <;> rfl

@[simp] theorem State.raiseOnce_phase (s : State) (e : Ev) (a b : Nat) : (s.raiseOnce e a b).phase = s.phase := by
  unfold State.raiseOnce; split <;> rfl

@[simp] theorem State.raiseOnce_freeCtr (s : State) (e : Ev) (a b : Nat) : (s.raiseOnce e a b).freeCtr = s.freeCtr := by
  unfold State.raiseOnce; split <;> rfl

@[simp] theorem State.raiseOnce_tx (s : State) (e : Ev) (a b : Nat) : (s.raiseOnce e a b).tx = s.tx := by
  unfold State.raiseOnce; split <;> rfl

@[simp] theorem State.raiseOnce_regs (s : State) (e : Ev) (a b : Nat) : (s.raiseOnce e a b).regs = s.regs := by
  unfold State.raiseOnce; split <;> rfl

@[simp] theorem State.raiseOnce_tl (s : State) (e : Ev) (a b : Nat) : (s.raiseOnce e a b).tl = s.tl := by
  unfold State.raiseOnce; split <;> rfl

@[simp] theorem State.raiseOnce_sq (s : State) (e : Ev) (a b : Nat) : (s.raiseOnce e a b).sq = s.sq := by
  unfold State.raiseOnce; split <;> rfl

@[simp] theorem State.raiseOnce_fd (s : State) (e : Ev) (a b : Nat) : (s.raiseOnce e a b).fd = s.fd := by
  unfold State.raiseOnce; split <;> rfl

@[simp] theorem State.raiseOnce_ex (s : State) (e : Ev) (a b : Nat) : (s.raiseOnce e a b).ex = s.ex := by
  unfold State.raiseOnce; split <;> rfl

@[simp] theorem State.raiseOnce_sv (s : State) (e : Ev) (a b : Nat) : (s.raiseOnce e a b).sv = s.sv := by
  unfold State.raiseOnce; split <;> rfl

@[simp] theorem State.raiseOnce_ax (s : State) (e : Ev) (a b : Nat) : (s.raiseOnce e a b).ax = s.ax := by
  unfold State.raiseOnce; split <;> rfl

@[simp] theorem State.raiseOnce_aq (s : State) (e : Ev) (a b : Nat) : (s.raiseOnce e a b).aq = s.aq := by
  unfold State.raiseOnce; split <;> rfl

@[simp] theorem State.raiseOnce_il (s : State) (e : Ev) (a b : Nat) : (s.raiseOnce e a b).il = s.il := by
  unfold State.raiseOnce; split <;> rfl

@[simp] theorem State.raiseOnce_ln (s : State) (e : Ev) (a b : Nat) : (s.raiseOnce e a b).ln = s.ln := by
  unfold State.raiseOnce; split <;> rfl

@[simp] theorem State.raiseOnce_fl (s : State) (e : Ev) (a b : Nat) : (s.raiseOnce e a b).fl = s.fl := by
  unfold State.raiseOnce; split <;> rfl

@[simp] theorem State.raiseOnce_safe (s : State) (e : Ev) (a b : Nat) : (s.raiseOnce e a b).safe = s.safe := by
  unfold State.raiseOnce; split <;> rfl

@[simp] theorem State.raiseOnce_dm (s : State) (e : Ev) (a b : Nat) : (s.raiseOnce e a b).dm = s.dm := by
  unfold State.raiseOnce; split <;> rfl

@[simp] theorem State.raiseOnce_cm (s : State) (e : Ev) (a b : Nat) : (s.raiseOnce e a b).cm = s.cm := by
  unfold State.raiseOnce; split <;> rfl

@[simp] theorem State.raiseOnce_cf (s : State) (e : Ev) (a b : Nat) : (s.raiseOnce e a b).cf = s.cf := by
  unfold State.raiseOnce; split <;> rfl

@[simp] theorem State.raiseOnce_pw (s : State) (e : Ev) (a b : Nat) : (s.raiseOnce e a b).pw = s.pw := by
  unfold State.raiseOnce; split <;> rfl

@[simp] theorem State.raiseOnce_th (s : State) (e : Ev) (a b : Nat) : (s.raiseOnce e a b).th = s.th := by
  unfold State.raiseOnce; split <;> rfl

/-! ### Every field through a choice of states, and through a fold of an operation that keeps it -/

@[simp] theorem State.pending_ite (c : Prop) [Decidable c] (a b : State) : (if c then a else b).pending = if c then a.pending else b.pending := by split <;> rfl

@[simp] theorem State.pending_foldl {α : Type} (l : List α) (f : State → α → State) (s : State) (h : ∀ s x, (f s x).pending = s.pending) :
    (l.foldl f s).pending = s.pending := foldl_inv State.pending l f s h

@[simp] theorem State.now_ite (c : Prop) [Decidable c] (a b : State) : (if c then a else b).now = if c then a.now else b.now := by split <;> rfl

@[simp] theorem State.now_foldl {α : Type} (l : List α) (f : State → α → State) (s : State) (h : ∀ s x, (f s x).now = s.now) :
    (l.foldl f s).now = s.now := foldl_inv State.now l f s h

@[simp] theorem State.nodeOfs_ite (c : Prop) [Decidable c] (a b : State) : (if c then a else b).nodeOfs = if c then a.nodeOfs else b.nodeOfs := by split <;> rfl

@[simp] theorem State.nodeOfs_foldl {α : Type} (l : List α) (f : State → α → State) (s : State) (h : ∀ s x, (f s x).nodeOfs = s.nodeOfs) :
    (l.foldl f s).nodeOfs = s.nodeOfs := foldl_inv State.nodeOfs l f s h

@[simp] theorem State.phase_ite (c : Prop) [Decidable c] (a b : State) : (if c then a else b).phase = if c then a.phase else b.phase := by split <;> rfl

@[simp] theorem State.phase_foldl {α : Type} (l : List α) (f : State → α → State) (s : State) (h : ∀ s x, (f s x).phase = s.phase) :
    (l.foldl f s).phase = s.phase := foldl_inv State.phase l f s h

@[simp] theorem State.freeCtr_ite (c : Prop) [Decidable c] (a b : State) : (if c then a else b).freeCtr = if c then a.freeCtr else b.freeCtr := by split <;> rfl

@[simp] theorem State.freeCtr_foldl {α : Type} (l : List α) (f : State → α → State) (s : State) (h : ∀ s x, (f s x).freeCtr = s.freeCtr) :
    (l.foldl f s).freeCtr = s.freeCtr := foldl_inv State.freeCtr l f s h

@[simp] theorem State.tx_ite (c : Prop) [Decidable c] (a b : State) : (if c then a else b).tx = if c then a.tx else b.tx := by split <;> rfl

@[simp] theorem State.tx_foldl {α : Type} (l : List α) (f : State → α → State) (s : State) (h : ∀ s x, (f s x).tx = s.tx) :
    (l.foldl f s).tx = s.tx := foldl_inv State.tx l f s h

@[simp] theorem State.regs_ite (c : Prop) [Decidable c] (a b : State) : (if c then a else b).regs = if c then a.regs else b.regs := by split <;> rfl

@[simp] theorem State.regs_foldl {α : Type} (l : List α) (f : State → α → State) (s : State) (h : ∀ s x, (f s x).regs = s.regs) :
    (l.foldl f s).regs = s.regs := foldl_inv State.regs l f s h

@[simp] theorem State.tl_ite (c : Prop) [Decidable c] (a b : State) : (if c then a else b).tl = if c then a.tl else b.tl := by split <;> rfl

@[simp] theorem State.tl_foldl {α : Type} (l : List α) (f : State → α → State) (s : State) (h : ∀ s x, (f s x).tl = s.tl) :
    (l.foldl f s).tl = s.tl := foldl_inv State.tl l f s h

@[simp] theorem State.sq_ite (c : Prop) [Decidable c] (a b : State) : (if c then a else b).sq = if c then a.sq else b.sq := by split <;> rfl

@[simp] theorem State.sq_foldl {α : Type} (l : List α) (f : State → α → State) (s : State) (h : ∀ s x, (f s x).sq = s.sq) :
    (l.foldl f s).sq = s.sq := foldl_inv State.sq l f s h

@[simp] theorem State.fd_ite (c : Prop) [Decidable c] (a b : State) : (if c then a else b).fd = if c then a.fd else b.fd := by split <;> rfl

@[simp] theorem State.fd_foldl {α : Type} (l : List α) (f : State → α → State) (s : State) (h : ∀ s x, (f s x).fd = s.fd) :
    (l.foldl f s).fd = s.fd := foldl_inv State.fd l f s h

@[simp] theorem State.ex_ite (c : Prop) [Decidable c] (a b : State) : (if c then a else b).ex = if c then a.ex else b.ex := by split <;> rfl

@[simp] theorem State.ex_foldl {α : Type} (l : List α) (f : State → α → State) (s : State) (h : ∀ s x, (f s x).ex = s.ex) :
    (l.foldl f s).ex = s.ex := foldl_inv State.ex l f s h

@[simp] theorem State.sv_ite (c : Prop) [Decidable c] (a b : State) : (if c then a else b).sv = if c then a.sv else b.sv := by split <;> rfl

@[simp] theorem State.sv_foldl {α : Type} (l : List α) (f : State → α → State) (s : State) (h : ∀ s x, (f s x).sv = s.sv) :
    (l.foldl f s).sv = s.sv := foldl_inv State.sv l f s h

@[simp] theorem State.ax_ite (c : Prop) [Decidable c] (a b : State) : (if c then a else b).ax = if c then a.ax else b.ax := by split <;> rfl

@[simp] theorem State.ax_foldl {α : Type} (l : List α) (f : State → α → State) (s : State) (h : ∀ s x, (f s x).ax = s.ax) :
    (l.foldl f s).ax = s.ax := foldl_inv State.ax l f s h

@[simp] theorem State.aq_ite (c : Prop) [Decidable c] (a b : State) : (if c then a else b).aq = if c then a.aq else b.aq := by split <;> rfl

@[simp] theorem State.aq_foldl {α : Type} (l : List α) (f : State → α → State) (s : State) (h : ∀ s x, (f s x).aq = s.aq) :
    (l.foldl f s).aq = s.aq := foldl_inv State.aq l f s h

@[simp] theorem State.il_ite (c : Prop) [Decidable c] (a b : State) : (if c then a else b).il = if c then a.il else b.il := by split <;> rfl

@[simp] theorem State.il_foldl {α : Type} (l : List α) (f : State → α → State) (s : State) (h : ∀ s x, (f s x).il = s.il) :
    (l.foldl f s).il = s.il := foldl_inv State.il l f s h

@[simp] theorem State.ln_ite (c : Prop) [Decidable c] (a b : State) : (if c then a else b).ln = if c then a.ln else b.ln := by split <;> rfl

@[simp] theorem State.ln_foldl {α : Type} (l : List α) (f : State → α → State) (s : State) (h : ∀ s x, (f s x).ln = s.ln) :
    (l.foldl f s).ln = s.ln := foldl_inv State.ln l f s h

@[simp] theorem State.fl_ite (c : Prop) [Decidable c] (a b : State) : (if c then a else b).fl = if c then a.fl else b.fl := by split <;> rfl

@[simp] theorem State.fl_foldl {α : Type} (l : List α) (f : State → α → State) (s : State) (h : ∀ s x, (f s x).fl = s.fl) :
    (l.foldl f s).fl = s.fl := foldl_inv State.fl l f s h

@[simp] theorem State.ev_ite (c : Prop) [Decidable c] (a b : State) : (if c then a else b).ev = if c then a.ev else b.ev := by split <;> rfl

@[simp] theorem State.ev_foldl {α : Type} (l : List α) (f : State → α → State) (s : State) (h : ∀ s x, (f s x).ev = s.ev) :
    (l.foldl f s).ev = s.ev := foldl_inv State.ev l f s h

@[simp] theorem State.safe_ite (c : Prop) [Decidable c] (a b : State) : (if c then a else b).safe = if c then a.safe else b.safe := by split <;> rfl

@[simp] theorem State.safe_foldl {α : Type} (l : List α) (f : State → α → State) (s : State) (h : ∀ s x, (f s x).safe = s.safe) :
    (l.foldl f s).safe = s.safe := foldl_inv State.safe l f s h

@[simp] theorem State.dm_ite (c : Prop) [Decidable c] (a b : State) : (if c then a else b).dm = if c then a.dm else b.dm := by split <;> rfl

@[simp] theorem State.dm_foldl {α : Type} (l : List α) (f : State → α → State) (s : State) (h : ∀ s x, (f s x).dm = s.dm) :
    (l.foldl f s).dm = s.dm := foldl_inv State.dm l f s h

@[simp] theorem State.cm_ite (c : Prop) [Decidable c] (a b : State) : (if c then a else b).cm = if c then a.cm else b.cm := by split <;> rfl

@[simp] theorem State.cm_foldl {α : Type} (l : List α) (f : State → α → State) (s : State) (h : ∀ s x, (f s x).cm = s.cm) :
    (l.foldl f s).cm = s.cm := foldl_inv State.cm l f s h

@[simp] theorem State.cf_ite (c : Prop) [Decidable c] (a b : State) : (if c then a else b).cf = if c then a.cf else b.cf := by split <;> rfl

@[simp] theorem State.cf_foldl {α : Type} (l : List α) (f : State → α → State) (s : State) (h : ∀ s x, (f s x).cf = s.cf) :
    (l.foldl f s).cf = s.cf := foldl_inv State.cf l f s h

@[simp] theorem State.pw_ite (c : Prop) [Decidable c] (a b : State) : (if c then a else b).pw = if c then a.pw else b.pw := by split <;> rfl

@[simp] theorem State.pw_foldl {α : Type} (l : List α) (f : State → α → State) (s : State) (h : ∀ s x, (f s x).pw = s.pw) :
    (l.foldl f s).pw = s.pw := foldl_inv State.pw l f s h

@[simp] theorem State.th_ite (c : Prop) [Decidable c] (a b : State) : (if c then a else b).th = if c then a.th else b.th := by split <;> rfl

@[simp] theorem State.th_foldl {α : Type} (l : List α) (f : State → α → State) (s : State) (h : ∀ s x, (f s x).th = s.th) :
    (l.foldl f s).th = s.th := foldl_inv State.th l f s h

/-! ### Parts of groups, through folds -/

@[simp] theorem State.regs_setA_foldl {α : Type} (l : List α) (f : State → α → State) (s : State) (h : ∀ s x, (f s x).regs.setA = s.regs.setA) :
    (l.foldl f s).regs.setA = s.regs.setA := foldl_inv (fun s => s.regs.setA) l f s h

@[simp] theorem State.regs_setB_foldl {α : Type} (l : List α) (f : State → α → State) (s : State) (h : ∀ s x, (f s x).regs.setB = s.regs.setB) :
    (l.foldl f s).regs.setB = s.regs.setB := foldl_inv (fun s => s.regs.setB) l f s h

@[simp] theorem State.regs_one_foldl {α : Type} (l : List α) (f : State → α → State) (s : State) (h : ∀ s x, (f s x).regs.one = s.regs.one) :
    (l.foldl f s).regs.one = s.regs.one := foldl_inv (fun s => s.regs.one) l f s h

@[simp] theorem State.regs_rsvd_foldl {α : Type} (l : List α) (f : State → α → State) (s : State) (h : ∀ s x, (f s x).regs.rsvd = s.regs.rsvd) :
    (l.foldl f s).regs.rsvd = s.regs.rsvd := foldl_inv (fun s => s.regs.rsvd) l f s h

@[simp] theorem State.regs_waiting_foldl {α : Type} (l : List α) (f : State → α → State) (s : State) (h : ∀ s x, (f s x).regs.waiting = s.regs.waiting) :
    (l.foldl f s).regs.waiting = s.regs.waiting := foldl_inv (fun s => s.regs.waiting) l f s h

@[simp] theorem State.fd_mem_foldl {α : Type} (l : List α) (f : State → α → State) (s : State) (h : ∀ s x, (f s x).fd.mem = s.fd.mem) :
    (l.foldl f s).fd.mem = s.fd.mem := foldl_inv (fun s => s.fd.mem) l f s h

@[simp] theorem State.dm_sram_foldl {α : Type} (l : List α) (f : State → α → State) (s : State) (h : ∀ s x, (f s x).dm.sram = s.dm.sram) :
    (l.foldl f s).dm.sram = s.dm.sram := foldl_inv (fun s => s.dm.sram) l f s h

@[simp] theorem State.sq_frameNo_foldl {α : Type} (l : List α) (f : State → α → State) (s : State) (h : ∀ s x, (f s x).sq.frameNo = s.sq.frameNo) :
    (l.foldl f s).sq.frameNo = s.sq.frameNo := foldl_inv (fun s => s.sq.frameNo) l f s h

@[simp] theorem State.sq_inScan_foldl {α : Type} (l : List α) (f : State → α → State) (s : State) (h : ∀ s x, (f s x).sq.inScan = s.sq.inScan) :
    (l.foldl f s).sq.inScan = s.sq.inScan := foldl_inv (fun s => s.sq.inScan) l f s h

@[simp] theorem State.sq_nextBoundary_foldl {α : Type} (l : List α) (f : State → α → State) (s : State) (h : ∀ s x, (f s x).sq.nextBoundary = s.sq.nextBoundary) :
    (l.foldl f s).sq.nextBoundary = s.sq.nextBoundary := foldl_inv (fun s => s.sq.nextBoundary) l f s h

@[simp] theorem State.pw_gate_foldl {α : Type} (l : List α) (f : State → α → State) (s : State) (h : ∀ s x, (f s x).pw.gate = s.pw.gate) :
    (l.foldl f s).pw.gate = s.pw.gate := foldl_inv (fun s => s.pw.gate) l f s h

/-! ### The RO and W1C fields alone change -/

@[simp] theorem State.setH_regs_setA (s : State) (f : Fld) (x : Nat) : (s.setH f x).regs.setA = s.regs.setA := (rfl)
@[simp] theorem State.setH_regs_setB (s : State) (f : Fld) (x : Nat) : (s.setH f x).regs.setB = s.regs.setB := (rfl)
@[simp] theorem State.setH_regs_one (s : State) (f : Fld) (x : Nat) : (s.setH f x).regs.one = s.regs.one := (rfl)
@[simp] theorem State.setH_regs_rsvd (s : State) (f : Fld) (x : Nat) : (s.setH f x).regs.rsvd = s.regs.rsvd := (rfl)
@[simp] theorem State.setH_regs_waiting (s : State) (f : Fld) (x : Nat) : (s.setH f x).regs.waiting = s.regs.waiting := (rfl)

@[simp] theorem State.flag_regs_setA (s : State) (f : Fld) (b : Bool) : (s.flag f b).regs.setA = s.regs.setA := (rfl)
@[simp] theorem State.flag_regs_setB (s : State) (f : Fld) (b : Bool) : (s.flag f b).regs.setB = s.regs.setB := (rfl)
@[simp] theorem State.flag_regs_one (s : State) (f : Fld) (b : Bool) : (s.flag f b).regs.one = s.regs.one := (rfl)
@[simp] theorem State.flag_regs_rsvd (s : State) (f : Fld) (b : Bool) : (s.flag f b).regs.rsvd = s.regs.rsvd := (rfl)
@[simp] theorem State.flag_regs_waiting (s : State) (f : Fld) (b : Bool) : (s.flag f b).regs.waiting = s.regs.waiting := (rfl)

@[simp] theorem State.orBit_regs_setA (s : State) (f : Fld) (i : Nat) : (s.orBit f i).regs.setA = s.regs.setA := (rfl)
@[simp] theorem State.orBit_regs_setB (s : State) (f : Fld) (i : Nat) : (s.orBit f i).regs.setB = s.regs.setB := (rfl)
@[simp] theorem State.orBit_regs_one (s : State) (f : Fld) (i : Nat) : (s.orBit f i).regs.one = s.regs.one := (rfl)
@[simp] theorem State.orBit_regs_rsvd (s : State) (f : Fld) (i : Nat) : (s.orBit f i).regs.rsvd = s.regs.rsvd := (rfl)
@[simp] theorem State.orBit_regs_waiting (s : State) (f : Fld) (i : Nat) : (s.orBit f i).regs.waiting = s.regs.waiting := (rfl)

@[simp] theorem State.clrBit_regs_setA (s : State) (f : Fld) (i : Nat) : (s.clrBit f i).regs.setA = s.regs.setA := (rfl)
@[simp] theorem State.clrBit_regs_setB (s : State) (f : Fld) (i : Nat) : (s.clrBit f i).regs.setB = s.regs.setB := (rfl)
@[simp] theorem State.clrBit_regs_one (s : State) (f : Fld) (i : Nat) : (s.clrBit f i).regs.one = s.regs.one := (rfl)
@[simp] theorem State.clrBit_regs_rsvd (s : State) (f : Fld) (i : Nat) : (s.clrBit f i).regs.rsvd = s.regs.rsvd := (rfl)
@[simp] theorem State.clrBit_regs_waiting (s : State) (f : Fld) (i : Nat) : (s.clrBit f i).regs.waiting = s.regs.waiting := (rfl)

@[simp] theorem State.add_regs_setA (s : State) (f : Fld) (n : Nat) : (s.add f n).regs.setA = s.regs.setA := (rfl)
@[simp] theorem State.add_regs_setB (s : State) (f : Fld) (n : Nat) : (s.add f n).regs.setB = s.regs.setB := (rfl)
@[simp] theorem State.add_regs_one (s : State) (f : Fld) (n : Nat) : (s.add f n).regs.one = s.regs.one := (rfl)
@[simp] theorem State.add_regs_rsvd (s : State) (f : Fld) (n : Nat) : (s.add f n).regs.rsvd = s.regs.rsvd := (rfl)
@[simp] theorem State.add_regs_waiting (s : State) (f : Fld) (n : Nat) : (s.add f n).regs.waiting = s.regs.waiting := (rfl)

@[simp] theorem State.inc_regs_setA (s : State) (f : Fld) : (s.inc f).regs.setA = s.regs.setA := (rfl)
@[simp] theorem State.inc_regs_setB (s : State) (f : Fld) : (s.inc f).regs.setB = s.regs.setB := (rfl)
@[simp] theorem State.inc_regs_one (s : State) (f : Fld) : (s.inc f).regs.one = s.regs.one := (rfl)
@[simp] theorem State.inc_regs_rsvd (s : State) (f : Fld) : (s.inc f).regs.rsvd = s.regs.rsvd := (rfl)
@[simp] theorem State.inc_regs_waiting (s : State) (f : Fld) : (s.inc f).regs.waiting = s.regs.waiting := (rfl)

@[simp] theorem State.clear_regs_setA (s : State) (fs : List Fld) : (s.clear fs).regs.setA = s.regs.setA := by
  unfold State.clear; simp

@[simp] theorem State.clear_regs_setB (s : State) (fs : List Fld) : (s.clear fs).regs.setB = s.regs.setB := by
  unfold State.clear; simp

@[simp] theorem State.clear_regs_one (s : State) (fs : List Fld) : (s.clear fs).regs.one = s.regs.one := by
  unfold State.clear; simp

@[simp] theorem State.clear_regs_rsvd (s : State) (fs : List Fld) : (s.clear fs).regs.rsvd = s.regs.rsvd := by
  unfold State.clear; simp

@[simp] theorem State.clear_regs_waiting (s : State) (fs : List Fld) : (s.clear fs).regs.waiting = s.regs.waiting := by
  unfold State.clear; simp

@[simp] theorem State.setOne_regs_setA (s : State) (a : Nat) (v : Score) : (s.setOne a v).regs.setA = s.regs.setA := (rfl)
@[simp] theorem State.setFo_regs_setA (s : State) (f : Fld) (x : Nat) : (s.setFo f x).regs.setA = s.regs.setA := (rfl)
@[simp] theorem State.setOne_regs_setB (s : State) (a : Nat) (v : Score) : (s.setOne a v).regs.setB = s.regs.setB := (rfl)
@[simp] theorem State.setFo_regs_setB (s : State) (f : Fld) (x : Nat) : (s.setFo f x).regs.setB = s.regs.setB := (rfl)
@[simp] theorem State.setOne_regs_rsvd (s : State) (a : Nat) (v : Score) : (s.setOne a v).regs.rsvd = s.regs.rsvd := (rfl)
@[simp] theorem State.setFo_regs_rsvd (s : State) (f : Fld) (x : Nat) : (s.setFo f x).regs.rsvd = s.regs.rsvd := (rfl)
@[simp] theorem State.setOne_regs_waiting (s : State) (a : Nat) (v : Score) : (s.setOne a v).regs.waiting = s.regs.waiting := (rfl)
@[simp] theorem State.setFo_regs_waiting (s : State) (f : Fld) (x : Nat) : (s.setFo f x).regs.waiting = s.regs.waiting := (rfl)

@[simp] theorem State.regs_stale_foldl {α : Type} (l : List α) (f : State → α → State) (s : State) (h : ∀ s x, (f s x).regs.stale = s.regs.stale) :
    (l.foldl f s).regs.stale = s.regs.stale := foldl_inv (fun s => s.regs.stale) l f s h

@[simp] theorem State.setH_regs_stale (s : State) (f : Fld) (x : Nat) : (s.setH f x).regs.stale = s.regs.stale := (rfl)
@[simp] theorem State.flag_regs_stale (s : State) (f : Fld) (b : Bool) : (s.flag f b).regs.stale = s.regs.stale := (rfl)
@[simp] theorem State.orBit_regs_stale (s : State) (f : Fld) (i : Nat) : (s.orBit f i).regs.stale = s.regs.stale := (rfl)
@[simp] theorem State.clrBit_regs_stale (s : State) (f : Fld) (i : Nat) : (s.clrBit f i).regs.stale = s.regs.stale := (rfl)
@[simp] theorem State.add_regs_stale (s : State) (f : Fld) (n : Nat) : (s.add f n).regs.stale = s.regs.stale := (rfl)
@[simp] theorem State.inc_regs_stale (s : State) (f : Fld) : (s.inc f).regs.stale = s.regs.stale := (rfl)
@[simp] theorem State.setOne_regs_stale (s : State) (a : Nat) (v : Score) : (s.setOne a v).regs.stale = s.regs.stale := (rfl)
@[simp] theorem State.setFo_regs_stale (s : State) (f : Fld) (x : Nat) : (s.setFo f x).regs.stale = s.regs.stale := (rfl)

@[simp] theorem State.clear_regs_stale (s : State) (fs : List Fld) : (s.clear fs).regs.stale = s.regs.stale := by
  unfold State.clear; simp

@[simp] theorem State.regs_posted_foldl {α : Type} (l : List α) (f : State → α → State) (s : State) (h : ∀ s x, (f s x).regs.posted = s.regs.posted) :
    (l.foldl f s).regs.posted = s.regs.posted := foldl_inv (fun s => s.regs.posted) l f s h

@[simp] theorem State.setH_regs_posted (s : State) (f : Fld) (x : Nat) : (s.setH f x).regs.posted = s.regs.posted := (rfl)
@[simp] theorem State.flag_regs_posted (s : State) (f : Fld) (b : Bool) : (s.flag f b).regs.posted = s.regs.posted := (rfl)
@[simp] theorem State.orBit_regs_posted (s : State) (f : Fld) (i : Nat) : (s.orBit f i).regs.posted = s.regs.posted := (rfl)
@[simp] theorem State.clrBit_regs_posted (s : State) (f : Fld) (i : Nat) : (s.clrBit f i).regs.posted = s.regs.posted := (rfl)
@[simp] theorem State.add_regs_posted (s : State) (f : Fld) (n : Nat) : (s.add f n).regs.posted = s.regs.posted := (rfl)
@[simp] theorem State.inc_regs_posted (s : State) (f : Fld) : (s.inc f).regs.posted = s.regs.posted := (rfl)
@[simp] theorem State.setOne_regs_posted (s : State) (a : Nat) (v : Score) : (s.setOne a v).regs.posted = s.regs.posted := (rfl)
@[simp] theorem State.setFo_regs_posted (s : State) (f : Fld) (x : Nat) : (s.setFo f x).regs.posted = s.regs.posted := (rfl)

@[simp] theorem State.clear_regs_posted (s : State) (fs : List Fld) : (s.clear fs).regs.posted = s.regs.posted := by
  unfold State.clear; simp

end Sys2Proof.Machine
end

