-- ==== Sys2Proof/Laws/FrameLinkOps.lean ====
section
/-!
SUPPORT. The frames of the operations of Machine/LinkOps.lean: the parts of the state that each of them leaves as they were.
-/

set_option linter.unusedTactic false
set_option linter.unreachableTactic false
set_option linter.unusedSimpArgs false

namespace Sys2Proof.Machine

@[simp] theorem State.setLink_frame (s : State) (l : Nat) (x : Link) :
    (s.setLink l x).now = s.now ∧ (s.setLink l x).phase = s.phase ∧ (s.setLink l x).pending = s.pending ∧
    (s.setLink l x).nodeOfs = s.nodeOfs ∧ (s.setLink l x).freeCtr = s.freeCtr ∧ (s.setLink l x).tx = s.tx ∧
    (s.setLink l x).regs = s.regs ∧ (s.setLink l x).tl = s.tl ∧ (s.setLink l x).sq = s.sq ∧ (s.setLink l x).fd = s.fd ∧
    (s.setLink l x).ex = s.ex ∧ (s.setLink l x).sv = s.sv ∧ (s.setLink l x).ax = s.ax ∧ (s.setLink l x).aq = s.aq ∧
    (s.setLink l x).il = s.il ∧ (s.setLink l x).ln = s.ln ∧ (s.setLink l x).ev = s.ev ∧ (s.setLink l x).safe = s.safe ∧
    (s.setLink l x).dm = s.dm ∧ (s.setLink l x).cm = s.cm ∧ (s.setLink l x).cf = s.cf ∧ (s.setLink l x).pw = s.pw ∧
    (s.setLink l x).th = s.th := by
  and_intros <;> (unfold State.setLink; repeat' (first | with_reducible rfl | (simp; done) | split | with_reducible refine (foldl_inv _ _ _ _ (fun _ _ => ?_)).trans ?_ | (dsimp only; first | split | with_reducible refine (foldl_inv _ _ _ _ (fun _ _ => ?_)).trans ?_)))

@[simp] theorem State.setHead_frame (s : State) (h : Nat) (x : Head) :
    (s.setHead h x).now = s.now ∧ (s.setHead h x).phase = s.phase ∧ (s.setHead h x).pending = s.pending ∧
    (s.setHead h x).nodeOfs = s.nodeOfs ∧ (s.setHead h x).freeCtr = s.freeCtr ∧ (s.setHead h x).tx = s.tx ∧
    (s.setHead h x).regs = s.regs ∧ (s.setHead h x).tl = s.tl ∧ (s.setHead h x).sq = s.sq ∧ (s.setHead h x).fd = s.fd ∧
    (s.setHead h x).ex = s.ex ∧ (s.setHead h x).sv = s.sv ∧ (s.setHead h x).ax = s.ax ∧ (s.setHead h x).aq = s.aq ∧
    (s.setHead h x).il = s.il ∧ (s.setHead h x).ln = s.ln ∧ (s.setHead h x).ev = s.ev ∧ (s.setHead h x).safe = s.safe ∧
    (s.setHead h x).dm = s.dm ∧ (s.setHead h x).cm = s.cm ∧ (s.setHead h x).cf = s.cf ∧ (s.setHead h x).pw = s.pw ∧
    (s.setHead h x).th = s.th := by
  and_intros <;> (unfold State.setHead; repeat' (first | with_reducible rfl | (simp; done) | split | with_reducible refine (foldl_inv _ _ _ _ (fun _ _ => ?_)).trans ?_ | (dsimp only; first | split | with_reducible refine (foldl_inv _ _ _ _ (fun _ _ => ?_)).trans ?_)))

@[simp] theorem State.sendLink_frame (s : State) (l kind : Nat) (body : List Score) :
    (s.sendLink l kind body).now = s.now ∧ (s.sendLink l kind body).phase = s.phase ∧
    (s.sendLink l kind body).pending = s.pending ∧ (s.sendLink l kind body).nodeOfs = s.nodeOfs ∧
    (s.sendLink l kind body).freeCtr = s.freeCtr ∧ (s.sendLink l kind body).tx = s.tx ∧
    (s.sendLink l kind body).regs = s.regs ∧ (s.sendLink l kind body).tl = s.tl ∧ (s.sendLink l kind body).sq = s.sq ∧
    (s.sendLink l kind body).fd = s.fd ∧ (s.sendLink l kind body).ex = s.ex ∧ (s.sendLink l kind body).sv = s.sv ∧
    (s.sendLink l kind body).ax = s.ax ∧ (s.sendLink l kind body).aq = s.aq ∧ (s.sendLink l kind body).il = s.il ∧
    (s.sendLink l kind body).ln = s.ln ∧ (s.sendLink l kind body).ev = s.ev ∧ (s.sendLink l kind body).safe = s.safe ∧
    (s.sendLink l kind body).dm = s.dm ∧ (s.sendLink l kind body).cm = s.cm ∧ (s.sendLink l kind body).cf = s.cf ∧
    (s.sendLink l kind body).pw = s.pw ∧ (s.sendLink l kind body).th = s.th := by
  and_intros <;> (unfold State.sendLink; repeat' (first | with_reducible rfl | (simp; done) | split | with_reducible refine (foldl_inv _ _ _ _ (fun _ _ => ?_)).trans ?_ | (dsimp only; first | split | with_reducible refine (foldl_inv _ _ _ _ (fun _ _ => ?_)).trans ?_)))

@[simp] theorem State.sendUdp_frame (s : State) (lane ip port kind : Nat) (body : List Score) :
    (s.sendUdp lane ip port kind body).now = s.now ∧ (s.sendUdp lane ip port kind body).phase = s.phase ∧
    (s.sendUdp lane ip port kind body).pending = s.pending ∧ (s.sendUdp lane ip port kind body).nodeOfs = s.nodeOfs ∧
    (s.sendUdp lane ip port kind body).freeCtr = s.freeCtr ∧ (s.sendUdp lane ip port kind body).regs = s.regs ∧
    (s.sendUdp lane ip port kind body).tl = s.tl ∧ (s.sendUdp lane ip port kind body).sq = s.sq ∧
    (s.sendUdp lane ip port kind body).fd = s.fd ∧ (s.sendUdp lane ip port kind body).ex = s.ex ∧
    (s.sendUdp lane ip port kind body).sv = s.sv ∧ (s.sendUdp lane ip port kind body).ax = s.ax ∧
    (s.sendUdp lane ip port kind body).aq = s.aq ∧ (s.sendUdp lane ip port kind body).il = s.il ∧
    (s.sendUdp lane ip port kind body).ln = s.ln ∧ (s.sendUdp lane ip port kind body).ev = s.ev ∧
    (s.sendUdp lane ip port kind body).safe = s.safe ∧ (s.sendUdp lane ip port kind body).dm = s.dm ∧
    (s.sendUdp lane ip port kind body).cm = s.cm ∧ (s.sendUdp lane ip port kind body).cf = s.cf ∧
    (s.sendUdp lane ip port kind body).pw = s.pw ∧ (s.sendUdp lane ip port kind body).th = s.th := by
  and_intros <;> (unfold State.sendUdp; repeat' (first | with_reducible rfl | (simp; done) | split | with_reducible refine (foldl_inv _ _ _ _ (fun _ _ => ?_)).trans ?_ | (dsimp only; first | split | with_reducible refine (foldl_inv _ _ _ _ (fun _ _ => ?_)).trans ?_)))

@[simp] theorem State.sendPartner_frame (s : State) (p : Partner) (kind : Nat) (body : List Score) :
    (s.sendPartner p kind body).now = s.now ∧ (s.sendPartner p kind body).phase = s.phase ∧
    (s.sendPartner p kind body).pending = s.pending ∧ (s.sendPartner p kind body).nodeOfs = s.nodeOfs ∧
    (s.sendPartner p kind body).freeCtr = s.freeCtr ∧ (s.sendPartner p kind body).regs = s.regs ∧
    (s.sendPartner p kind body).tl = s.tl ∧ (s.sendPartner p kind body).sq = s.sq ∧ (s.sendPartner p kind body).fd = s.fd ∧
    (s.sendPartner p kind body).ex = s.ex ∧ (s.sendPartner p kind body).sv = s.sv ∧ (s.sendPartner p kind body).ax = s.ax ∧
    (s.sendPartner p kind body).aq = s.aq ∧ (s.sendPartner p kind body).il = s.il ∧ (s.sendPartner p kind body).ln = s.ln ∧
    (s.sendPartner p kind body).ev = s.ev ∧ (s.sendPartner p kind body).safe = s.safe ∧
    (s.sendPartner p kind body).dm = s.dm ∧ (s.sendPartner p kind body).cm = s.cm ∧ (s.sendPartner p kind body).cf = s.cf ∧
    (s.sendPartner p kind body).pw = s.pw ∧ (s.sendPartner p kind body).th = s.th := by
  and_intros <;> (unfold State.sendPartner; repeat' (first | with_reducible rfl | (simp; done) | split | with_reducible refine (foldl_inv _ _ _ _ (fun _ _ => ?_)).trans ?_ | (dsimp only; first | split | with_reducible refine (foldl_inv _ _ _ _ (fun _ _ => ?_)).trans ?_)))

@[simp] theorem State.sendSub_frame (s : State) (u : Sub) (kind : Nat) (body : List Score) :
    (s.sendSub u kind body).now = s.now ∧ (s.sendSub u kind body).phase = s.phase ∧
    (s.sendSub u kind body).pending = s.pending ∧ (s.sendSub u kind body).nodeOfs = s.nodeOfs ∧
    (s.sendSub u kind body).freeCtr = s.freeCtr ∧ (s.sendSub u kind body).regs = s.regs ∧ (s.sendSub u kind body).tl = s.tl ∧
    (s.sendSub u kind body).sq = s.sq ∧ (s.sendSub u kind body).fd = s.fd ∧ (s.sendSub u kind body).ex = s.ex ∧
    (s.sendSub u kind body).sv = s.sv ∧ (s.sendSub u kind body).ax = s.ax ∧ (s.sendSub u kind body).aq = s.aq ∧
    (s.sendSub u kind body).il = s.il ∧ (s.sendSub u kind body).ln = s.ln ∧ (s.sendSub u kind body).ev = s.ev ∧
    (s.sendSub u kind body).safe = s.safe ∧ (s.sendSub u kind body).dm = s.dm ∧ (s.sendSub u kind body).cm = s.cm ∧
    (s.sendSub u kind body).cf = s.cf ∧ (s.sendSub u kind body).pw = s.pw ∧ (s.sendSub u kind body).th = s.th := by
  and_intros <;> (unfold State.sendSub; repeat' (first | with_reducible rfl | (simp; done) | split | with_reducible refine (foldl_inv _ _ _ _ (fun _ _ => ?_)).trans ?_ | (dsimp only; first | split | with_reducible refine (foldl_inv _ _ _ _ (fun _ _ => ?_)).trans ?_)))

@[simp] theorem State.subDrop_frame (s : State) (n : Nat) :
    (s.subDrop n).now = s.now ∧ (s.subDrop n).phase = s.phase ∧ (s.subDrop n).pending = s.pending ∧
    (s.subDrop n).nodeOfs = s.nodeOfs ∧ (s.subDrop n).freeCtr = s.freeCtr ∧ (s.subDrop n).tx = s.tx ∧
    (s.subDrop n).tl = s.tl ∧ (s.subDrop n).sq = s.sq ∧ (s.subDrop n).fd = s.fd ∧ (s.subDrop n).ex = s.ex ∧
    (s.subDrop n).sv = s.sv ∧ (s.subDrop n).ax = s.ax ∧ (s.subDrop n).aq = s.aq ∧ (s.subDrop n).il = s.il ∧
    (s.subDrop n).ln = s.ln ∧ (s.subDrop n).fl = s.fl ∧ (s.subDrop n).ev = s.ev ∧ (s.subDrop n).safe = s.safe ∧
    (s.subDrop n).dm = s.dm ∧ (s.subDrop n).cm = s.cm ∧ (s.subDrop n).cf = s.cf ∧ (s.subDrop n).pw = s.pw ∧
    (s.subDrop n).th = s.th := by
  and_intros <;> (unfold State.subDrop; repeat' (first | with_reducible rfl | (simp; done) | split | with_reducible refine (foldl_inv _ _ _ _ (fun _ _ => ?_)).trans ?_ | (dsimp only; first | split | with_reducible refine (foldl_inv _ _ _ _ (fun _ _ => ?_)).trans ?_)))

@[simp] theorem State.sendShot_frame (s : State) (d : ShotDesc) (slotAt : Nat) (pixels : List Nat) :
    (s.sendShot d slotAt pixels).now = s.now ∧ (s.sendShot d slotAt pixels).phase = s.phase ∧
    (s.sendShot d slotAt pixels).pending = s.pending ∧ (s.sendShot d slotAt pixels).nodeOfs = s.nodeOfs ∧
    (s.sendShot d slotAt pixels).freeCtr = s.freeCtr ∧ (s.sendShot d slotAt pixels).tx = s.tx ∧
    (s.sendShot d slotAt pixels).regs = s.regs ∧ (s.sendShot d slotAt pixels).tl = s.tl ∧
    (s.sendShot d slotAt pixels).sq = s.sq ∧ (s.sendShot d slotAt pixels).fd = s.fd ∧ (s.sendShot d slotAt pixels).ex = s.ex ∧
    (s.sendShot d slotAt pixels).sv = s.sv ∧ (s.sendShot d slotAt pixels).ax = s.ax ∧ (s.sendShot d slotAt pixels).aq = s.aq ∧
    (s.sendShot d slotAt pixels).il = s.il ∧ (s.sendShot d slotAt pixels).ln = s.ln ∧ (s.sendShot d slotAt pixels).ev = s.ev ∧
    (s.sendShot d slotAt pixels).safe = s.safe ∧ (s.sendShot d slotAt pixels).dm = s.dm ∧
    (s.sendShot d slotAt pixels).cm = s.cm ∧ (s.sendShot d slotAt pixels).cf = s.cf ∧ (s.sendShot d slotAt pixels).pw = s.pw ∧
    (s.sendShot d slotAt pixels).th = s.th := by
  and_intros <;> (unfold State.sendShot; repeat' (first | with_reducible rfl | (simp; done) | split | with_reducible refine (foldl_inv _ _ _ _ (fun _ _ => ?_)).trans ?_ | (dsimp only; first | split | with_reducible refine (foldl_inv _ _ _ _ (fun _ _ => ?_)).trans ?_)))

@[simp] theorem State.subDrop_parts (s : State) (n : Nat) :
    (s.subDrop n).regs.setA = s.regs.setA ∧ (s.subDrop n).regs.setB = s.regs.setB ∧ (s.subDrop n).regs.one = s.regs.one ∧
    (s.subDrop n).regs.rsvd = s.regs.rsvd ∧ (s.subDrop n).regs.waiting = s.regs.waiting ∧
    (s.subDrop n).regs.stale = s.regs.stale ∧ (s.subDrop n).regs.posted = s.regs.posted := by
  and_intros <;> (unfold State.subDrop; repeat' (first | with_reducible rfl | (simp; done) | split | with_reducible refine (State.regs_setA_foldl _ _ _ (fun _ _ => ?_)).trans ?_ | with_reducible refine (State.regs_setB_foldl _ _ _ (fun _ _ => ?_)).trans ?_ | with_reducible refine (State.regs_one_foldl _ _ _ (fun _ _ => ?_)).trans ?_ | with_reducible refine (State.regs_rsvd_foldl _ _ _ (fun _ _ => ?_)).trans ?_ | with_reducible refine (State.regs_waiting_foldl _ _ _ (fun _ _ => ?_)).trans ?_ | with_reducible refine (State.regs_stale_foldl _ _ _ (fun _ _ => ?_)).trans ?_ | with_reducible refine (State.regs_posted_foldl _ _ _ (fun _ _ => ?_)).trans ?_ | with_reducible refine (State.fd_mem_foldl _ _ _ (fun _ _ => ?_)).trans ?_ | with_reducible refine (State.dm_sram_foldl _ _ _ (fun _ _ => ?_)).trans ?_ | with_reducible refine (State.sq_frameNo_foldl _ _ _ (fun _ _ => ?_)).trans ?_ | with_reducible refine (State.sq_inScan_foldl _ _ _ (fun _ _ => ?_)).trans ?_ | with_reducible refine (State.sq_nextBoundary_foldl _ _ _ (fun _ _ => ?_)).trans ?_ | with_reducible refine (State.pw_gate_foldl _ _ _ (fun _ _ => ?_)).trans ?_ | (dsimp only; first | split | with_reducible refine (State.regs_setA_foldl _ _ _ (fun _ _ => ?_)).trans ?_ | with_reducible refine (State.regs_setB_foldl _ _ _ (fun _ _ => ?_)).trans ?_ | with_reducible refine (State.regs_one_foldl _ _ _ (fun _ _ => ?_)).trans ?_ | with_reducible refine (State.regs_rsvd_foldl _ _ _ (fun _ _ => ?_)).trans ?_ | with_reducible refine (State.regs_waiting_foldl _ _ _ (fun _ _ => ?_)).trans ?_ | with_reducible refine (State.regs_stale_foldl _ _ _ (fun _ _ => ?_)).trans ?_ | with_reducible refine (State.regs_posted_foldl _ _ _ (fun _ _ => ?_)).trans ?_ | with_reducible refine (State.fd_mem_foldl _ _ _ (fun _ _ => ?_)).trans ?_ | with_reducible refine (State.dm_sram_foldl _ _ _ (fun _ _ => ?_)).trans ?_ | with_reducible refine (State.sq_frameNo_foldl _ _ _ (fun _ _ => ?_)).trans ?_ | with_reducible refine (State.sq_inScan_foldl _ _ _ (fun _ _ => ?_)).trans ?_ | with_reducible refine (State.sq_nextBoundary_foldl _ _ _ (fun _ _ => ?_)).trans ?_ | with_reducible refine (State.pw_gate_foldl _ _ _ (fun _ _ => ?_)).trans ?_)))

end Sys2Proof.Machine
end

