-- ==== Sys2Proof/Laws/FrameSafeOps.lean ====
section
/-!
SUPPORT. The frames of the operations of Machine/SafeOps.lean: the parts of the state that each of them leaves as they were.
-/

set_option linter.unusedTactic false
set_option linter.unreachableTactic false
set_option linter.unusedSimpArgs false

namespace Sys2Proof.Machine

@[simp] theorem State.setSi_frame (s : State) (i : Nat) (x : SafeIsland) :
    (s.setSi i x).now = s.now ∧ (s.setSi i x).phase = s.phase ∧ (s.setSi i x).pending = s.pending ∧
    (s.setSi i x).nodeOfs = s.nodeOfs ∧ (s.setSi i x).freeCtr = s.freeCtr ∧ (s.setSi i x).tx = s.tx ∧
    (s.setSi i x).regs = s.regs ∧ (s.setSi i x).tl = s.tl ∧ (s.setSi i x).sq = s.sq ∧ (s.setSi i x).fd = s.fd ∧
    (s.setSi i x).ex = s.ex ∧ (s.setSi i x).sv = s.sv ∧ (s.setSi i x).ax = s.ax ∧ (s.setSi i x).aq = s.aq ∧
    (s.setSi i x).il = s.il ∧ (s.setSi i x).ln = s.ln ∧ (s.setSi i x).fl = s.fl ∧ (s.setSi i x).ev = s.ev ∧
    (s.setSi i x).dm = s.dm ∧ (s.setSi i x).cm = s.cm ∧ (s.setSi i x).cf = s.cf ∧ (s.setSi i x).pw = s.pw ∧
    (s.setSi i x).th = s.th := by
  and_intros <;> (unfold State.setSi; repeat' (first | with_reducible rfl | (simp; done) | split | with_reducible refine (foldl_inv _ _ _ _ (fun _ _ => ?_)).trans ?_ | (dsimp only; first | split | with_reducible refine (foldl_inv _ _ _ _ (fun _ _ => ?_)).trans ?_)))

@[simp] theorem State.setSafeChan_frame (s : State) (n : Nat) (x : SafeChan) :
    (s.setSafeChan n x).now = s.now ∧ (s.setSafeChan n x).phase = s.phase ∧ (s.setSafeChan n x).pending = s.pending ∧
    (s.setSafeChan n x).nodeOfs = s.nodeOfs ∧ (s.setSafeChan n x).freeCtr = s.freeCtr ∧ (s.setSafeChan n x).tx = s.tx ∧
    (s.setSafeChan n x).regs = s.regs ∧ (s.setSafeChan n x).tl = s.tl ∧ (s.setSafeChan n x).sq = s.sq ∧
    (s.setSafeChan n x).fd = s.fd ∧ (s.setSafeChan n x).ex = s.ex ∧ (s.setSafeChan n x).sv = s.sv ∧
    (s.setSafeChan n x).ax = s.ax ∧ (s.setSafeChan n x).aq = s.aq ∧ (s.setSafeChan n x).il = s.il ∧
    (s.setSafeChan n x).ln = s.ln ∧ (s.setSafeChan n x).fl = s.fl ∧ (s.setSafeChan n x).ev = s.ev ∧
    (s.setSafeChan n x).dm = s.dm ∧ (s.setSafeChan n x).cm = s.cm ∧ (s.setSafeChan n x).cf = s.cf ∧
    (s.setSafeChan n x).pw = s.pw ∧ (s.setSafeChan n x).th = s.th := by
  and_intros <;> (unfold State.setSafeChan; repeat' (first | with_reducible rfl | (simp; done) | split | with_reducible refine (foldl_inv _ _ _ _ (fun _ _ => ?_)).trans ?_ | (dsimp only; first | split | with_reducible refine (foldl_inv _ _ _ _ (fun _ _ => ?_)).trans ?_)))

@[simp] theorem State.showPins_frame (s : State) (n : Nat) :
    (s.showPins n).now = s.now ∧ (s.showPins n).phase = s.phase ∧ (s.showPins n).pending = s.pending ∧
    (s.showPins n).nodeOfs = s.nodeOfs ∧ (s.showPins n).freeCtr = s.freeCtr ∧ (s.showPins n).tx = s.tx ∧
    (s.showPins n).tl = s.tl ∧ (s.showPins n).sq = s.sq ∧ (s.showPins n).fd = s.fd ∧ (s.showPins n).ex = s.ex ∧
    (s.showPins n).sv = s.sv ∧ (s.showPins n).ax = s.ax ∧ (s.showPins n).aq = s.aq ∧ (s.showPins n).il = s.il ∧
    (s.showPins n).ln = s.ln ∧ (s.showPins n).fl = s.fl ∧ (s.showPins n).ev = s.ev ∧ (s.showPins n).safe = s.safe ∧
    (s.showPins n).dm = s.dm ∧ (s.showPins n).cm = s.cm ∧ (s.showPins n).cf = s.cf ∧ (s.showPins n).pw = s.pw ∧
    (s.showPins n).th = s.th := by
  and_intros <;> (unfold State.showPins; repeat' (first | with_reducible rfl | (simp; done) | split | with_reducible refine (foldl_inv _ _ _ _ (fun _ _ => ?_)).trans ?_ | (dsimp only; first | split | with_reducible refine (foldl_inv _ _ _ _ (fun _ _ => ?_)).trans ?_)))

@[simp] theorem State.sendZone_frame (s : State) (n : Nat) :
    (s.sendZone n).now = s.now ∧ (s.sendZone n).phase = s.phase ∧ (s.sendZone n).pending = s.pending ∧
    (s.sendZone n).nodeOfs = s.nodeOfs ∧ (s.sendZone n).freeCtr = s.freeCtr ∧ (s.sendZone n).tl = s.tl ∧
    (s.sendZone n).sq = s.sq ∧ (s.sendZone n).fd = s.fd ∧ (s.sendZone n).ex = s.ex ∧ (s.sendZone n).sv = s.sv ∧
    (s.sendZone n).ax = s.ax ∧ (s.sendZone n).aq = s.aq ∧ (s.sendZone n).il = s.il ∧ (s.sendZone n).ln = s.ln ∧
    (s.sendZone n).ev = s.ev ∧ (s.sendZone n).dm = s.dm ∧ (s.sendZone n).cm = s.cm ∧ (s.sendZone n).cf = s.cf ∧
    (s.sendZone n).pw = s.pw ∧ (s.sendZone n).th = s.th := by
  and_intros <;> (unfold State.sendZone; repeat' (first | with_reducible rfl | (simp; done) | split | with_reducible refine (foldl_inv _ _ _ _ (fun _ _ => ?_)).trans ?_ | (dsimp only; first | split | with_reducible refine (foldl_inv _ _ _ _ (fun _ _ => ?_)).trans ?_)))

@[simp] theorem State.chMove_frame (s : State) (n st : Nat) :
    (s.chMove n st).now = s.now ∧ (s.chMove n st).phase = s.phase ∧ (s.chMove n st).pending = s.pending ∧
    (s.chMove n st).nodeOfs = s.nodeOfs ∧ (s.chMove n st).freeCtr = s.freeCtr ∧ (s.chMove n st).tx = s.tx ∧
    (s.chMove n st).tl = s.tl ∧ (s.chMove n st).sq = s.sq ∧ (s.chMove n st).fd = s.fd ∧ (s.chMove n st).ex = s.ex ∧
    (s.chMove n st).sv = s.sv ∧ (s.chMove n st).ax = s.ax ∧ (s.chMove n st).aq = s.aq ∧ (s.chMove n st).il = s.il ∧
    (s.chMove n st).ln = s.ln ∧ (s.chMove n st).fl = s.fl ∧ (s.chMove n st).ev = s.ev ∧ (s.chMove n st).dm = s.dm ∧
    (s.chMove n st).cm = s.cm ∧ (s.chMove n st).cf = s.cf ∧ (s.chMove n st).pw = s.pw ∧ (s.chMove n st).th = s.th := by
  and_intros <;> (unfold State.chMove; repeat' (first | with_reducible rfl | (simp; done) | split | with_reducible refine (foldl_inv _ _ _ _ (fun _ _ => ?_)).trans ?_ | (dsimp only; first | split | with_reducible refine (foldl_inv _ _ _ _ (fun _ _ => ?_)).trans ?_)))

@[simp] theorem State.tripMove_frame (s : State) (n cause : Nat) :
    (s.tripMove n cause).now = s.now ∧ (s.tripMove n cause).phase = s.phase ∧ (s.tripMove n cause).pending = s.pending ∧
    (s.tripMove n cause).nodeOfs = s.nodeOfs ∧ (s.tripMove n cause).freeCtr = s.freeCtr ∧ (s.tripMove n cause).tx = s.tx ∧
    (s.tripMove n cause).tl = s.tl ∧ (s.tripMove n cause).sq = s.sq ∧ (s.tripMove n cause).fd = s.fd ∧
    (s.tripMove n cause).ex = s.ex ∧ (s.tripMove n cause).sv = s.sv ∧ (s.tripMove n cause).ax = s.ax ∧
    (s.tripMove n cause).aq = s.aq ∧ (s.tripMove n cause).il = s.il ∧ (s.tripMove n cause).ln = s.ln ∧
    (s.tripMove n cause).fl = s.fl ∧ (s.tripMove n cause).dm = s.dm ∧ (s.tripMove n cause).cm = s.cm ∧
    (s.tripMove n cause).cf = s.cf ∧ (s.tripMove n cause).pw = s.pw ∧ (s.tripMove n cause).th = s.th := by
  and_intros <;> (unfold State.tripMove; repeat' (first | with_reducible rfl | (simp; done) | split | with_reducible refine (foldl_inv _ _ _ _ (fun _ _ => ?_)).trans ?_ | (dsimp only; first | split | with_reducible refine (foldl_inv _ _ _ _ (fun _ _ => ?_)).trans ?_)))

@[simp] theorem State.zoneOut_frame (s : State) (n : Nat) :
    (s.zoneOut n).now = s.now ∧ (s.zoneOut n).phase = s.phase ∧ (s.zoneOut n).pending = s.pending ∧
    (s.zoneOut n).nodeOfs = s.nodeOfs ∧ (s.zoneOut n).freeCtr = s.freeCtr ∧ (s.zoneOut n).tl = s.tl ∧
    (s.zoneOut n).sq = s.sq ∧ (s.zoneOut n).fd = s.fd ∧ (s.zoneOut n).ex = s.ex ∧ (s.zoneOut n).sv = s.sv ∧
    (s.zoneOut n).ax = s.ax ∧ (s.zoneOut n).aq = s.aq ∧ (s.zoneOut n).il = s.il ∧ (s.zoneOut n).ln = s.ln ∧
    (s.zoneOut n).dm = s.dm ∧ (s.zoneOut n).cm = s.cm ∧ (s.zoneOut n).cf = s.cf ∧ (s.zoneOut n).pw = s.pw ∧
    (s.zoneOut n).th = s.th := by
  and_intros <;> (unfold State.zoneOut; repeat' (first | with_reducible rfl | (simp; done) | split | with_reducible refine (foldl_inv _ _ _ _ (fun _ _ => ?_)).trans ?_ | (dsimp only; first | split | with_reducible refine (foldl_inv _ _ _ _ (fun _ _ => ?_)).trans ?_)))

@[simp] theorem State.chSet_frame (s : State) (n st : Nat) :
    (s.chSet n st).now = s.now ∧ (s.chSet n st).phase = s.phase ∧ (s.chSet n st).pending = s.pending ∧
    (s.chSet n st).nodeOfs = s.nodeOfs ∧ (s.chSet n st).freeCtr = s.freeCtr ∧ (s.chSet n st).tl = s.tl ∧
    (s.chSet n st).sq = s.sq ∧ (s.chSet n st).fd = s.fd ∧ (s.chSet n st).ex = s.ex ∧ (s.chSet n st).sv = s.sv ∧
    (s.chSet n st).ax = s.ax ∧ (s.chSet n st).aq = s.aq ∧ (s.chSet n st).il = s.il ∧ (s.chSet n st).ln = s.ln ∧
    (s.chSet n st).dm = s.dm ∧ (s.chSet n st).cm = s.cm ∧ (s.chSet n st).cf = s.cf ∧ (s.chSet n st).pw = s.pw ∧
    (s.chSet n st).th = s.th := by
  and_intros <;> (unfold State.chSet; repeat' (first | with_reducible rfl | (simp; done) | split | with_reducible refine (foldl_inv _ _ _ _ (fun _ _ => ?_)).trans ?_ | (dsimp only; first | split | with_reducible refine (foldl_inv _ _ _ _ (fun _ _ => ?_)).trans ?_)))

@[simp] theorem State.siTrip_frame (s : State) (n cause : Nat) :
    (s.siTrip n cause).now = s.now ∧ (s.siTrip n cause).phase = s.phase ∧ (s.siTrip n cause).pending = s.pending ∧
    (s.siTrip n cause).nodeOfs = s.nodeOfs ∧ (s.siTrip n cause).freeCtr = s.freeCtr ∧ (s.siTrip n cause).tl = s.tl ∧
    (s.siTrip n cause).sq = s.sq ∧ (s.siTrip n cause).fd = s.fd ∧ (s.siTrip n cause).ex = s.ex ∧
    (s.siTrip n cause).sv = s.sv ∧ (s.siTrip n cause).ax = s.ax ∧ (s.siTrip n cause).aq = s.aq ∧
    (s.siTrip n cause).il = s.il ∧ (s.siTrip n cause).ln = s.ln ∧ (s.siTrip n cause).dm = s.dm ∧
    (s.siTrip n cause).cm = s.cm ∧ (s.siTrip n cause).cf = s.cf ∧ (s.siTrip n cause).pw = s.pw ∧
    (s.siTrip n cause).th = s.th := by
  and_intros <;> (unfold State.siTrip; repeat' (first | with_reducible rfl | (simp; done) | split | with_reducible refine (foldl_inv _ _ _ _ (fun _ _ => ?_)).trans ?_ | (dsimp only; first | split | with_reducible refine (foldl_inv _ _ _ _ (fun _ _ => ?_)).trans ?_)))

@[simp] theorem State.siTripAll_frame (s : State) (cause : Nat) :
    (s.siTripAll cause).now = s.now ∧ (s.siTripAll cause).phase = s.phase ∧ (s.siTripAll cause).pending = s.pending ∧
    (s.siTripAll cause).nodeOfs = s.nodeOfs ∧ (s.siTripAll cause).freeCtr = s.freeCtr ∧ (s.siTripAll cause).tl = s.tl ∧
    (s.siTripAll cause).sq = s.sq ∧ (s.siTripAll cause).fd = s.fd ∧ (s.siTripAll cause).ex = s.ex ∧
    (s.siTripAll cause).sv = s.sv ∧ (s.siTripAll cause).ax = s.ax ∧ (s.siTripAll cause).aq = s.aq ∧
    (s.siTripAll cause).il = s.il ∧ (s.siTripAll cause).ln = s.ln ∧ (s.siTripAll cause).dm = s.dm ∧
    (s.siTripAll cause).cm = s.cm ∧ (s.siTripAll cause).cf = s.cf ∧ (s.siTripAll cause).pw = s.pw ∧
    (s.siTripAll cause).th = s.th := by
  and_intros <;> (unfold State.siTripAll; repeat' (first | with_reducible rfl | (simp; done) | split | with_reducible refine (foldl_inv _ _ _ _ (fun _ _ => ?_)).trans ?_ | (dsimp only; first | split | with_reducible refine (foldl_inv _ _ _ _ (fun _ _ => ?_)).trans ?_)))

@[simp] theorem State.siStartup_frame (s : State) (n : Nat) :
    (s.siStartup n).now = s.now ∧ (s.siStartup n).phase = s.phase ∧ (s.siStartup n).pending = s.pending ∧
    (s.siStartup n).nodeOfs = s.nodeOfs ∧ (s.siStartup n).freeCtr = s.freeCtr ∧ (s.siStartup n).tl = s.tl ∧
    (s.siStartup n).sq = s.sq ∧ (s.siStartup n).fd = s.fd ∧ (s.siStartup n).ex = s.ex ∧ (s.siStartup n).sv = s.sv ∧
    (s.siStartup n).ax = s.ax ∧ (s.siStartup n).aq = s.aq ∧ (s.siStartup n).il = s.il ∧ (s.siStartup n).ln = s.ln ∧
    (s.siStartup n).dm = s.dm ∧ (s.siStartup n).cm = s.cm ∧ (s.siStartup n).cf = s.cf ∧ (s.siStartup n).pw = s.pw ∧
    (s.siStartup n).th = s.th := by
  and_intros <;> (unfold State.siStartup; repeat' (first | with_reducible rfl | (simp; done) | split | with_reducible refine (foldl_inv _ _ _ _ (fun _ _ => ?_)).trans ?_ | (dsimp only; first | split | with_reducible refine (foldl_inv _ _ _ _ (fun _ _ => ?_)).trans ?_)))

@[simp] theorem State.siFail_frame (s : State) (i cause : Nat) :
    (s.siFail i cause).now = s.now ∧ (s.siFail i cause).phase = s.phase ∧ (s.siFail i cause).pending = s.pending ∧
    (s.siFail i cause).nodeOfs = s.nodeOfs ∧ (s.siFail i cause).freeCtr = s.freeCtr ∧ (s.siFail i cause).tl = s.tl ∧
    (s.siFail i cause).sq = s.sq ∧ (s.siFail i cause).fd = s.fd ∧ (s.siFail i cause).ex = s.ex ∧
    (s.siFail i cause).sv = s.sv ∧ (s.siFail i cause).ax = s.ax ∧ (s.siFail i cause).aq = s.aq ∧
    (s.siFail i cause).il = s.il ∧ (s.siFail i cause).ln = s.ln ∧ (s.siFail i cause).dm = s.dm ∧
    (s.siFail i cause).cm = s.cm ∧ (s.siFail i cause).cf = s.cf ∧ (s.siFail i cause).pw = s.pw ∧
    (s.siFail i cause).th = s.th := by
  and_intros <;> (unfold State.siFail; repeat' (first | with_reducible rfl | (simp; done) | split | with_reducible refine (foldl_inv _ _ _ _ (fun _ _ => ?_)).trans ?_ | (dsimp only; first | split | with_reducible refine (foldl_inv _ _ _ _ (fun _ _ => ?_)).trans ?_)))

@[simp] theorem State.siPut_frame (s : State) (i : Nat) (rec : List Score) :
    (s.siPut i rec).now = s.now ∧ (s.siPut i rec).phase = s.phase ∧ (s.siPut i rec).pending = s.pending ∧
    (s.siPut i rec).nodeOfs = s.nodeOfs ∧ (s.siPut i rec).freeCtr = s.freeCtr ∧ (s.siPut i rec).tx = s.tx ∧
    (s.siPut i rec).regs = s.regs ∧ (s.siPut i rec).tl = s.tl ∧ (s.siPut i rec).sq = s.sq ∧ (s.siPut i rec).fd = s.fd ∧
    (s.siPut i rec).ex = s.ex ∧ (s.siPut i rec).sv = s.sv ∧ (s.siPut i rec).ax = s.ax ∧ (s.siPut i rec).aq = s.aq ∧
    (s.siPut i rec).il = s.il ∧ (s.siPut i rec).ln = s.ln ∧ (s.siPut i rec).fl = s.fl ∧ (s.siPut i rec).ev = s.ev ∧
    (s.siPut i rec).dm = s.dm ∧ (s.siPut i rec).cm = s.cm ∧ (s.siPut i rec).cf = s.cf ∧ (s.siPut i rec).pw = s.pw ∧
    (s.siPut i rec).th = s.th := by
  and_intros <;> (unfold State.siPut; repeat' (first | with_reducible rfl | (simp; done) | split | with_reducible refine (foldl_inv _ _ _ _ (fun _ _ => ?_)).trans ?_ | (dsimp only; first | split | with_reducible refine (foldl_inv _ _ _ _ (fun _ _ => ?_)).trans ?_)))

@[simp] theorem State.siLost_frame (s : State) (i : Nat) :
    (s.siLost i).now = s.now ∧ (s.siLost i).phase = s.phase ∧ (s.siLost i).pending = s.pending ∧
    (s.siLost i).nodeOfs = s.nodeOfs ∧ (s.siLost i).freeCtr = s.freeCtr ∧ (s.siLost i).tx = s.tx ∧
    (s.siLost i).regs = s.regs ∧ (s.siLost i).tl = s.tl ∧ (s.siLost i).sq = s.sq ∧ (s.siLost i).fd = s.fd ∧
    (s.siLost i).ex = s.ex ∧ (s.siLost i).sv = s.sv ∧ (s.siLost i).ax = s.ax ∧ (s.siLost i).aq = s.aq ∧
    (s.siLost i).il = s.il ∧ (s.siLost i).ln = s.ln ∧ (s.siLost i).fl = s.fl ∧ (s.siLost i).ev = s.ev ∧
    (s.siLost i).dm = s.dm ∧ (s.siLost i).cm = s.cm ∧ (s.siLost i).cf = s.cf ∧ (s.siLost i).pw = s.pw ∧
    (s.siLost i).th = s.th := by
  and_intros <;> (unfold State.siLost; repeat' (first | with_reducible rfl | (simp; done) | split | with_reducible refine (foldl_inv _ _ _ _ (fun _ _ => ?_)).trans ?_ | (dsimp only; first | split | with_reducible refine (foldl_inv _ _ _ _ (fun _ _ => ?_)).trans ?_)))

@[simp] theorem State.noteChan_frame (s : State) (c : Nat) :
    (s.noteChan c).now = s.now ∧ (s.noteChan c).phase = s.phase ∧ (s.noteChan c).pending = s.pending ∧
    (s.noteChan c).nodeOfs = s.nodeOfs ∧ (s.noteChan c).freeCtr = s.freeCtr ∧ (s.noteChan c).tx = s.tx ∧
    (s.noteChan c).regs = s.regs ∧ (s.noteChan c).tl = s.tl ∧ (s.noteChan c).sq = s.sq ∧ (s.noteChan c).fd = s.fd ∧
    (s.noteChan c).ex = s.ex ∧ (s.noteChan c).sv = s.sv ∧ (s.noteChan c).ax = s.ax ∧ (s.noteChan c).aq = s.aq ∧
    (s.noteChan c).il = s.il ∧ (s.noteChan c).ln = s.ln ∧ (s.noteChan c).fl = s.fl ∧ (s.noteChan c).ev = s.ev ∧
    (s.noteChan c).dm = s.dm ∧ (s.noteChan c).cm = s.cm ∧ (s.noteChan c).cf = s.cf ∧ (s.noteChan c).pw = s.pw ∧
    (s.noteChan c).th = s.th := by
  and_intros <;> (unfold State.noteChan; repeat' (first | with_reducible rfl | (simp; done) | split | with_reducible refine (foldl_inv _ _ _ _ (fun _ _ => ?_)).trans ?_ | (dsimp only; first | split | with_reducible refine (foldl_inv _ _ _ _ (fun _ _ => ?_)).trans ?_)))

@[simp] theorem State.noteHead_frame (s : State) (h : Nat) :
    (s.noteHead h).now = s.now ∧ (s.noteHead h).phase = s.phase ∧ (s.noteHead h).pending = s.pending ∧
    (s.noteHead h).nodeOfs = s.nodeOfs ∧ (s.noteHead h).freeCtr = s.freeCtr ∧ (s.noteHead h).tx = s.tx ∧
    (s.noteHead h).regs = s.regs ∧ (s.noteHead h).tl = s.tl ∧ (s.noteHead h).sq = s.sq ∧ (s.noteHead h).fd = s.fd ∧
    (s.noteHead h).ex = s.ex ∧ (s.noteHead h).sv = s.sv ∧ (s.noteHead h).ax = s.ax ∧ (s.noteHead h).aq = s.aq ∧
    (s.noteHead h).il = s.il ∧ (s.noteHead h).ln = s.ln ∧ (s.noteHead h).fl = s.fl ∧ (s.noteHead h).ev = s.ev ∧
    (s.noteHead h).dm = s.dm ∧ (s.noteHead h).cm = s.cm ∧ (s.noteHead h).cf = s.cf ∧ (s.noteHead h).pw = s.pw ∧
    (s.noteHead h).th = s.th := by
  and_intros <;> (unfold State.noteHead; repeat' (first | with_reducible rfl | (simp; done) | split | with_reducible refine (foldl_inv _ _ _ _ (fun _ _ => ?_)).trans ?_ | (dsimp only; first | split | with_reducible refine (foldl_inv _ _ _ _ (fun _ _ => ?_)).trans ?_)))

@[simp] theorem State.noteAxis_frame (s : State) (a : Nat) :
    (s.noteAxis a).now = s.now ∧ (s.noteAxis a).phase = s.phase ∧ (s.noteAxis a).pending = s.pending ∧
    (s.noteAxis a).nodeOfs = s.nodeOfs ∧ (s.noteAxis a).freeCtr = s.freeCtr ∧ (s.noteAxis a).tx = s.tx ∧
    (s.noteAxis a).regs = s.regs ∧ (s.noteAxis a).tl = s.tl ∧ (s.noteAxis a).sq = s.sq ∧ (s.noteAxis a).fd = s.fd ∧
    (s.noteAxis a).ex = s.ex ∧ (s.noteAxis a).sv = s.sv ∧ (s.noteAxis a).ax = s.ax ∧ (s.noteAxis a).aq = s.aq ∧
    (s.noteAxis a).il = s.il ∧ (s.noteAxis a).ln = s.ln ∧ (s.noteAxis a).fl = s.fl ∧ (s.noteAxis a).ev = s.ev ∧
    (s.noteAxis a).dm = s.dm ∧ (s.noteAxis a).cm = s.cm ∧ (s.noteAxis a).cf = s.cf ∧ (s.noteAxis a).pw = s.pw ∧
    (s.noteAxis a).th = s.th := by
  and_intros <;> (unfold State.noteAxis; repeat' (first | with_reducible rfl | (simp; done) | split | with_reducible refine (foldl_inv _ _ _ _ (fun _ _ => ?_)).trans ?_ | (dsimp only; first | split | with_reducible refine (foldl_inv _ _ _ _ (fun _ _ => ?_)).trans ?_)))

@[simp] theorem State.noteTile_frame (s : State) (t : Nat) :
    (s.noteTile t).now = s.now ∧ (s.noteTile t).phase = s.phase ∧ (s.noteTile t).pending = s.pending ∧
    (s.noteTile t).nodeOfs = s.nodeOfs ∧ (s.noteTile t).freeCtr = s.freeCtr ∧ (s.noteTile t).tx = s.tx ∧
    (s.noteTile t).regs = s.regs ∧ (s.noteTile t).tl = s.tl ∧ (s.noteTile t).sq = s.sq ∧ (s.noteTile t).fd = s.fd ∧
    (s.noteTile t).ex = s.ex ∧ (s.noteTile t).sv = s.sv ∧ (s.noteTile t).ax = s.ax ∧ (s.noteTile t).aq = s.aq ∧
    (s.noteTile t).il = s.il ∧ (s.noteTile t).ln = s.ln ∧ (s.noteTile t).fl = s.fl ∧ (s.noteTile t).ev = s.ev ∧
    (s.noteTile t).dm = s.dm ∧ (s.noteTile t).cm = s.cm ∧ (s.noteTile t).cf = s.cf ∧ (s.noteTile t).pw = s.pw ∧
    (s.noteTile t).th = s.th := by
  and_intros <;> (unfold State.noteTile; repeat' (first | with_reducible rfl | (simp; done) | split | with_reducible refine (foldl_inv _ _ _ _ (fun _ _ => ?_)).trans ?_ | (dsimp only; first | split | with_reducible refine (foldl_inv _ _ _ _ (fun _ _ => ?_)).trans ?_)))

@[simp] theorem State.noteAll_frame (s : State) :
    (s.noteAll).now = s.now ∧ (s.noteAll).phase = s.phase ∧ (s.noteAll).pending = s.pending ∧
    (s.noteAll).nodeOfs = s.nodeOfs ∧ (s.noteAll).freeCtr = s.freeCtr ∧ (s.noteAll).tx = s.tx ∧ (s.noteAll).regs = s.regs ∧
    (s.noteAll).tl = s.tl ∧ (s.noteAll).sq = s.sq ∧ (s.noteAll).fd = s.fd ∧ (s.noteAll).ex = s.ex ∧ (s.noteAll).sv = s.sv ∧
    (s.noteAll).ax = s.ax ∧ (s.noteAll).aq = s.aq ∧ (s.noteAll).il = s.il ∧ (s.noteAll).ln = s.ln ∧ (s.noteAll).fl = s.fl ∧
    (s.noteAll).ev = s.ev ∧ (s.noteAll).dm = s.dm ∧ (s.noteAll).cm = s.cm ∧ (s.noteAll).cf = s.cf ∧ (s.noteAll).pw = s.pw ∧
    (s.noteAll).th = s.th := by
  and_intros <;> (unfold State.noteAll; repeat' (first | with_reducible rfl | (simp; done) | split | with_reducible refine (foldl_inv _ _ _ _ (fun _ _ => ?_)).trans ?_ | (dsimp only; first | split | with_reducible refine (foldl_inv _ _ _ _ (fun _ _ => ?_)).trans ?_)))

@[simp] theorem State.showPins_parts (s : State) (n : Nat) :
    (s.showPins n).regs.setA = s.regs.setA ∧ (s.showPins n).regs.setB = s.regs.setB ∧ (s.showPins n).regs.one = s.regs.one ∧
    (s.showPins n).regs.rsvd = s.regs.rsvd ∧ (s.showPins n).regs.waiting = s.regs.waiting ∧
    (s.showPins n).regs.stale = s.regs.stale ∧ (s.showPins n).regs.posted = s.regs.posted := by
  and_intros <;> (unfold State.showPins; repeat' (first | with_reducible rfl | (simp; done) | split | with_reducible refine (State.regs_setA_foldl _ _ _ (fun _ _ => ?_)).trans ?_ | with_reducible refine (State.regs_setB_foldl _ _ _ (fun _ _ => ?_)).trans ?_ | with_reducible refine (State.regs_one_foldl _ _ _ (fun _ _ => ?_)).trans ?_ | with_reducible refine (State.regs_rsvd_foldl _ _ _ (fun _ _ => ?_)).trans ?_ | with_reducible refine (State.regs_waiting_foldl _ _ _ (fun _ _ => ?_)).trans ?_ | with_reducible refine (State.regs_stale_foldl _ _ _ (fun _ _ => ?_)).trans ?_ | with_reducible refine (State.regs_posted_foldl _ _ _ (fun _ _ => ?_)).trans ?_ | with_reducible refine (State.fd_mem_foldl _ _ _ (fun _ _ => ?_)).trans ?_ | with_reducible refine (State.dm_sram_foldl _ _ _ (fun _ _ => ?_)).trans ?_ | with_reducible refine (State.sq_frameNo_foldl _ _ _ (fun _ _ => ?_)).trans ?_ | with_reducible refine (State.sq_inScan_foldl _ _ _ (fun _ _ => ?_)).trans ?_ | with_reducible refine (State.sq_nextBoundary_foldl _ _ _ (fun _ _ => ?_)).trans ?_ | with_reducible refine (State.pw_gate_foldl _ _ _ (fun _ _ => ?_)).trans ?_ | (dsimp only; first | split | with_reducible refine (State.regs_setA_foldl _ _ _ (fun _ _ => ?_)).trans ?_ | with_reducible refine (State.regs_setB_foldl _ _ _ (fun _ _ => ?_)).trans ?_ | with_reducible refine (State.regs_one_foldl _ _ _ (fun _ _ => ?_)).trans ?_ | with_reducible refine (State.regs_rsvd_foldl _ _ _ (fun _ _ => ?_)).trans ?_ | with_reducible refine (State.regs_waiting_foldl _ _ _ (fun _ _ => ?_)).trans ?_ | with_reducible refine (State.regs_stale_foldl _ _ _ (fun _ _ => ?_)).trans ?_ | with_reducible refine (State.regs_posted_foldl _ _ _ (fun _ _ => ?_)).trans ?_ | with_reducible refine (State.fd_mem_foldl _ _ _ (fun _ _ => ?_)).trans ?_ | with_reducible refine (State.dm_sram_foldl _ _ _ (fun _ _ => ?_)).trans ?_ | with_reducible refine (State.sq_frameNo_foldl _ _ _ (fun _ _ => ?_)).trans ?_ | with_reducible refine (State.sq_inScan_foldl _ _ _ (fun _ _ => ?_)).trans ?_ | with_reducible refine (State.sq_nextBoundary_foldl _ _ _ (fun _ _ => ?_)).trans ?_ | with_reducible refine (State.pw_gate_foldl _ _ _ (fun _ _ => ?_)).trans ?_)))

@[simp] theorem State.sendZone_parts (s : State) (n : Nat) :
    (s.sendZone n).regs.setA = s.regs.setA ∧ (s.sendZone n).regs.setB = s.regs.setB ∧ (s.sendZone n).regs.one = s.regs.one ∧
    (s.sendZone n).regs.rsvd = s.regs.rsvd ∧ (s.sendZone n).regs.waiting = s.regs.waiting ∧
    (s.sendZone n).regs.stale = s.regs.stale ∧ (s.sendZone n).regs.posted = s.regs.posted := by
  and_intros <;> (unfold State.sendZone; repeat' (first | with_reducible rfl | (simp; done) | split | with_reducible refine (State.regs_setA_foldl _ _ _ (fun _ _ => ?_)).trans ?_ | with_reducible refine (State.regs_setB_foldl _ _ _ (fun _ _ => ?_)).trans ?_ | with_reducible refine (State.regs_one_foldl _ _ _ (fun _ _ => ?_)).trans ?_ | with_reducible refine (State.regs_rsvd_foldl _ _ _ (fun _ _ => ?_)).trans ?_ | with_reducible refine (State.regs_waiting_foldl _ _ _ (fun _ _ => ?_)).trans ?_ | with_reducible refine (State.regs_stale_foldl _ _ _ (fun _ _ => ?_)).trans ?_ | with_reducible refine (State.regs_posted_foldl _ _ _ (fun _ _ => ?_)).trans ?_ | with_reducible refine (State.fd_mem_foldl _ _ _ (fun _ _ => ?_)).trans ?_ | with_reducible refine (State.dm_sram_foldl _ _ _ (fun _ _ => ?_)).trans ?_ | with_reducible refine (State.sq_frameNo_foldl _ _ _ (fun _ _ => ?_)).trans ?_ | with_reducible refine (State.sq_inScan_foldl _ _ _ (fun _ _ => ?_)).trans ?_ | with_reducible refine (State.sq_nextBoundary_foldl _ _ _ (fun _ _ => ?_)).trans ?_ | with_reducible refine (State.pw_gate_foldl _ _ _ (fun _ _ => ?_)).trans ?_ | (dsimp only; first | split | with_reducible refine (State.regs_setA_foldl _ _ _ (fun _ _ => ?_)).trans ?_ | with_reducible refine (State.regs_setB_foldl _ _ _ (fun _ _ => ?_)).trans ?_ | with_reducible refine (State.regs_one_foldl _ _ _ (fun _ _ => ?_)).trans ?_ | with_reducible refine (State.regs_rsvd_foldl _ _ _ (fun _ _ => ?_)).trans ?_ | with_reducible refine (State.regs_waiting_foldl _ _ _ (fun _ _ => ?_)).trans ?_ | with_reducible refine (State.regs_stale_foldl _ _ _ (fun _ _ => ?_)).trans ?_ | with_reducible refine (State.regs_posted_foldl _ _ _ (fun _ _ => ?_)).trans ?_ | with_reducible refine (State.fd_mem_foldl _ _ _ (fun _ _ => ?_)).trans ?_ | with_reducible refine (State.dm_sram_foldl _ _ _ (fun _ _ => ?_)).trans ?_ | with_reducible refine (State.sq_frameNo_foldl _ _ _ (fun _ _ => ?_)).trans ?_ | with_reducible refine (State.sq_inScan_foldl _ _ _ (fun _ _ => ?_)).trans ?_ | with_reducible refine (State.sq_nextBoundary_foldl _ _ _ (fun _ _ => ?_)).trans ?_ | with_reducible refine (State.pw_gate_foldl _ _ _ (fun _ _ => ?_)).trans ?_)))

@[simp] theorem State.chMove_parts (s : State) (n st : Nat) :
    (s.chMove n st).regs.setA = s.regs.setA ∧ (s.chMove n st).regs.setB = s.regs.setB ∧
    (s.chMove n st).regs.one = s.regs.one ∧ (s.chMove n st).regs.rsvd = s.regs.rsvd ∧
    (s.chMove n st).regs.waiting = s.regs.waiting ∧ (s.chMove n st).regs.stale = s.regs.stale ∧
    (s.chMove n st).regs.posted = s.regs.posted := by
  and_intros <;> (unfold State.chMove; repeat' (first | with_reducible rfl | (simp; done) | split | with_reducible refine (State.regs_setA_foldl _ _ _ (fun _ _ => ?_)).trans ?_ | with_reducible refine (State.regs_setB_foldl _ _ _ (fun _ _ => ?_)).trans ?_ | with_reducible refine (State.regs_one_foldl _ _ _ (fun _ _ => ?_)).trans ?_ | with_reducible refine (State.regs_rsvd_foldl _ _ _ (fun _ _ => ?_)).trans ?_ | with_reducible refine (State.regs_waiting_foldl _ _ _ (fun _ _ => ?_)).trans ?_ | with_reducible refine (State.regs_stale_foldl _ _ _ (fun _ _ => ?_)).trans ?_ | with_reducible refine (State.regs_posted_foldl _ _ _ (fun _ _ => ?_)).trans ?_ | with_reducible refine (State.fd_mem_foldl _ _ _ (fun _ _ => ?_)).trans ?_ | with_reducible refine (State.dm_sram_foldl _ _ _ (fun _ _ => ?_)).trans ?_ | with_reducible refine (State.sq_frameNo_foldl _ _ _ (fun _ _ => ?_)).trans ?_ | with_reducible refine (State.sq_inScan_foldl _ _ _ (fun _ _ => ?_)).trans ?_ | with_reducible refine (State.sq_nextBoundary_foldl _ _ _ (fun _ _ => ?_)).trans ?_ | with_reducible refine (State.pw_gate_foldl _ _ _ (fun _ _ => ?_)).trans ?_ | (dsimp only; first | split | with_reducible refine (State.regs_setA_foldl _ _ _ (fun _ _ => ?_)).trans ?_ | with_reducible refine (State.regs_setB_foldl _ _ _ (fun _ _ => ?_)).trans ?_ | with_reducible refine (State.regs_one_foldl _ _ _ (fun _ _ => ?_)).trans ?_ | with_reducible refine (State.regs_rsvd_foldl _ _ _ (fun _ _ => ?_)).trans ?_ | with_reducible refine (State.regs_waiting_foldl _ _ _ (fun _ _ => ?_)).trans ?_ | with_reducible refine (State.regs_stale_foldl _ _ _ (fun _ _ => ?_)).trans ?_ | with_reducible refine (State.regs_posted_foldl _ _ _ (fun _ _ => ?_)).trans ?_ | with_reducible refine (State.fd_mem_foldl _ _ _ (fun _ _ => ?_)).trans ?_ | with_reducible refine (State.dm_sram_foldl _ _ _ (fun _ _ => ?_)).trans ?_ | with_reducible refine (State.sq_frameNo_foldl _ _ _ (fun _ _ => ?_)).trans ?_ | with_reducible refine (State.sq_inScan_foldl _ _ _ (fun _ _ => ?_)).trans ?_ | with_reducible refine (State.sq_nextBoundary_foldl _ _ _ (fun _ _ => ?_)).trans ?_ | with_reducible refine (State.pw_gate_foldl _ _ _ (fun _ _ => ?_)).trans ?_)))

@[simp] theorem State.tripMove_parts (s : State) (n cause : Nat) :
    (s.tripMove n cause).regs.setA = s.regs.setA ∧ (s.tripMove n cause).regs.setB = s.regs.setB ∧
    (s.tripMove n cause).regs.one = s.regs.one ∧ (s.tripMove n cause).regs.rsvd = s.regs.rsvd ∧
    (s.tripMove n cause).regs.waiting = s.regs.waiting ∧ (s.tripMove n cause).regs.stale = s.regs.stale ∧
    (s.tripMove n cause).regs.posted = s.regs.posted := by
  and_intros <;> (unfold State.tripMove; repeat' (first | with_reducible rfl | (simp; done) | split | with_reducible refine (State.regs_setA_foldl _ _ _ (fun _ _ => ?_)).trans ?_ | with_reducible refine (State.regs_setB_foldl _ _ _ (fun _ _ => ?_)).trans ?_ | with_reducible refine (State.regs_one_foldl _ _ _ (fun _ _ => ?_)).trans ?_ | with_reducible refine (State.regs_rsvd_foldl _ _ _ (fun _ _ => ?_)).trans ?_ | with_reducible refine (State.regs_waiting_foldl _ _ _ (fun _ _ => ?_)).trans ?_ | with_reducible refine (State.regs_stale_foldl _ _ _ (fun _ _ => ?_)).trans ?_ | with_reducible refine (State.regs_posted_foldl _ _ _ (fun _ _ => ?_)).trans ?_ | with_reducible refine (State.fd_mem_foldl _ _ _ (fun _ _ => ?_)).trans ?_ | with_reducible refine (State.dm_sram_foldl _ _ _ (fun _ _ => ?_)).trans ?_ | with_reducible refine (State.sq_frameNo_foldl _ _ _ (fun _ _ => ?_)).trans ?_ | with_reducible refine (State.sq_inScan_foldl _ _ _ (fun _ _ => ?_)).trans ?_ | with_reducible refine (State.sq_nextBoundary_foldl _ _ _ (fun _ _ => ?_)).trans ?_ | with_reducible refine (State.pw_gate_foldl _ _ _ (fun _ _ => ?_)).trans ?_ | (dsimp only; first | split | with_reducible refine (State.regs_setA_foldl _ _ _ (fun _ _ => ?_)).trans ?_ | with_reducible refine (State.regs_setB_foldl _ _ _ (fun _ _ => ?_)).trans ?_ | with_reducible refine (State.regs_one_foldl _ _ _ (fun _ _ => ?_)).trans ?_ | with_reducible refine (State.regs_rsvd_foldl _ _ _ (fun _ _ => ?_)).trans ?_ | with_reducible refine (State.regs_waiting_foldl _ _ _ (fun _ _ => ?_)).trans ?_ | with_reducible refine (State.regs_stale_foldl _ _ _ (fun _ _ => ?_)).trans ?_ | with_reducible refine (State.regs_posted_foldl _ _ _ (fun _ _ => ?_)).trans ?_ | with_reducible refine (State.fd_mem_foldl _ _ _ (fun _ _ => ?_)).trans ?_ | with_reducible refine (State.dm_sram_foldl _ _ _ (fun _ _ => ?_)).trans ?_ | with_reducible refine (State.sq_frameNo_foldl _ _ _ (fun _ _ => ?_)).trans ?_ | with_reducible refine (State.sq_inScan_foldl _ _ _ (fun _ _ => ?_)).trans ?_ | with_reducible refine (State.sq_nextBoundary_foldl _ _ _ (fun _ _ => ?_)).trans ?_ | with_reducible refine (State.pw_gate_foldl _ _ _ (fun _ _ => ?_)).trans ?_)))

@[simp] theorem State.zoneOut_parts (s : State) (n : Nat) :
    (s.zoneOut n).regs.setA = s.regs.setA ∧ (s.zoneOut n).regs.setB = s.regs.setB ∧ (s.zoneOut n).regs.one = s.regs.one ∧
    (s.zoneOut n).regs.rsvd = s.regs.rsvd ∧ (s.zoneOut n).regs.waiting = s.regs.waiting ∧
    (s.zoneOut n).regs.stale = s.regs.stale ∧ (s.zoneOut n).regs.posted = s.regs.posted := by
  and_intros <;> (unfold State.zoneOut; repeat' (first | with_reducible rfl | (simp; done) | split | with_reducible refine (State.regs_setA_foldl _ _ _ (fun _ _ => ?_)).trans ?_ | with_reducible refine (State.regs_setB_foldl _ _ _ (fun _ _ => ?_)).trans ?_ | with_reducible refine (State.regs_one_foldl _ _ _ (fun _ _ => ?_)).trans ?_ | with_reducible refine (State.regs_rsvd_foldl _ _ _ (fun _ _ => ?_)).trans ?_ | with_reducible refine (State.regs_waiting_foldl _ _ _ (fun _ _ => ?_)).trans ?_ | with_reducible refine (State.regs_stale_foldl _ _ _ (fun _ _ => ?_)).trans ?_ | with_reducible refine (State.regs_posted_foldl _ _ _ (fun _ _ => ?_)).trans ?_ | with_reducible refine (State.fd_mem_foldl _ _ _ (fun _ _ => ?_)).trans ?_ | with_reducible refine (State.dm_sram_foldl _ _ _ (fun _ _ => ?_)).trans ?_ | with_reducible refine (State.sq_frameNo_foldl _ _ _ (fun _ _ => ?_)).trans ?_ | with_reducible refine (State.sq_inScan_foldl _ _ _ (fun _ _ => ?_)).trans ?_ | with_reducible refine (State.sq_nextBoundary_foldl _ _ _ (fun _ _ => ?_)).trans ?_ | with_reducible refine (State.pw_gate_foldl _ _ _ (fun _ _ => ?_)).trans ?_ | (dsimp only; first | split | with_reducible refine (State.regs_setA_foldl _ _ _ (fun _ _ => ?_)).trans ?_ | with_reducible refine (State.regs_setB_foldl _ _ _ (fun _ _ => ?_)).trans ?_ | with_reducible refine (State.regs_one_foldl _ _ _ (fun _ _ => ?_)).trans ?_ | with_reducible refine (State.regs_rsvd_foldl _ _ _ (fun _ _ => ?_)).trans ?_ | with_reducible refine (State.regs_waiting_foldl _ _ _ (fun _ _ => ?_)).trans ?_ | with_reducible refine (State.regs_stale_foldl _ _ _ (fun _ _ => ?_)).trans ?_ | with_reducible refine (State.regs_posted_foldl _ _ _ (fun _ _ => ?_)).trans ?_ | with_reducible refine (State.fd_mem_foldl _ _ _ (fun _ _ => ?_)).trans ?_ | with_reducible refine (State.dm_sram_foldl _ _ _ (fun _ _ => ?_)).trans ?_ | with_reducible refine (State.sq_frameNo_foldl _ _ _ (fun _ _ => ?_)).trans ?_ | with_reducible refine (State.sq_inScan_foldl _ _ _ (fun _ _ => ?_)).trans ?_ | with_reducible refine (State.sq_nextBoundary_foldl _ _ _ (fun _ _ => ?_)).trans ?_ | with_reducible refine (State.pw_gate_foldl _ _ _ (fun _ _ => ?_)).trans ?_)))

@[simp] theorem State.chSet_parts (s : State) (n st : Nat) :
    (s.chSet n st).regs.setA = s.regs.setA ∧ (s.chSet n st).regs.setB = s.regs.setB ∧ (s.chSet n st).regs.one = s.regs.one ∧
    (s.chSet n st).regs.rsvd = s.regs.rsvd ∧ (s.chSet n st).regs.waiting = s.regs.waiting ∧
    (s.chSet n st).regs.stale = s.regs.stale ∧ (s.chSet n st).regs.posted = s.regs.posted := by
  and_intros <;> (unfold State.chSet; repeat' (first | with_reducible rfl | (simp; done) | split | with_reducible refine (State.regs_setA_foldl _ _ _ (fun _ _ => ?_)).trans ?_ | with_reducible refine (State.regs_setB_foldl _ _ _ (fun _ _ => ?_)).trans ?_ | with_reducible refine (State.regs_one_foldl _ _ _ (fun _ _ => ?_)).trans ?_ | with_reducible refine (State.regs_rsvd_foldl _ _ _ (fun _ _ => ?_)).trans ?_ | with_reducible refine (State.regs_waiting_foldl _ _ _ (fun _ _ => ?_)).trans ?_ | with_reducible refine (State.regs_stale_foldl _ _ _ (fun _ _ => ?_)).trans ?_ | with_reducible refine (State.regs_posted_foldl _ _ _ (fun _ _ => ?_)).trans ?_ | with_reducible refine (State.fd_mem_foldl _ _ _ (fun _ _ => ?_)).trans ?_ | with_reducible refine (State.dm_sram_foldl _ _ _ (fun _ _ => ?_)).trans ?_ | with_reducible refine (State.sq_frameNo_foldl _ _ _ (fun _ _ => ?_)).trans ?_ | with_reducible refine (State.sq_inScan_foldl _ _ _ (fun _ _ => ?_)).trans ?_ | with_reducible refine (State.sq_nextBoundary_foldl _ _ _ (fun _ _ => ?_)).trans ?_ | with_reducible refine (State.pw_gate_foldl _ _ _ (fun _ _ => ?_)).trans ?_ | (dsimp only; first | split | with_reducible refine (State.regs_setA_foldl _ _ _ (fun _ _ => ?_)).trans ?_ | with_reducible refine (State.regs_setB_foldl _ _ _ (fun _ _ => ?_)).trans ?_ | with_reducible refine (State.regs_one_foldl _ _ _ (fun _ _ => ?_)).trans ?_ | with_reducible refine (State.regs_rsvd_foldl _ _ _ (fun _ _ => ?_)).trans ?_ | with_reducible refine (State.regs_waiting_foldl _ _ _ (fun _ _ => ?_)).trans ?_ | with_reducible refine (State.regs_stale_foldl _ _ _ (fun _ _ => ?_)).trans ?_ | with_reducible refine (State.regs_posted_foldl _ _ _ (fun _ _ => ?_)).trans ?_ | with_reducible refine (State.fd_mem_foldl _ _ _ (fun _ _ => ?_)).trans ?_ | with_reducible refine (State.dm_sram_foldl _ _ _ (fun _ _ => ?_)).trans ?_ | with_reducible refine (State.sq_frameNo_foldl _ _ _ (fun _ _ => ?_)).trans ?_ | with_reducible refine (State.sq_inScan_foldl _ _ _ (fun _ _ => ?_)).trans ?_ | with_reducible refine (State.sq_nextBoundary_foldl _ _ _ (fun _ _ => ?_)).trans ?_ | with_reducible refine (State.pw_gate_foldl _ _ _ (fun _ _ => ?_)).trans ?_)))

@[simp] theorem State.siTrip_parts (s : State) (n cause : Nat) :
    (s.siTrip n cause).regs.setA = s.regs.setA ∧ (s.siTrip n cause).regs.setB = s.regs.setB ∧
    (s.siTrip n cause).regs.one = s.regs.one ∧ (s.siTrip n cause).regs.rsvd = s.regs.rsvd ∧
    (s.siTrip n cause).regs.waiting = s.regs.waiting ∧ (s.siTrip n cause).regs.stale = s.regs.stale ∧
    (s.siTrip n cause).regs.posted = s.regs.posted := by
  and_intros <;> (unfold State.siTrip; repeat' (first | with_reducible rfl | (simp; done) | split | with_reducible refine (State.regs_setA_foldl _ _ _ (fun _ _ => ?_)).trans ?_ | with_reducible refine (State.regs_setB_foldl _ _ _ (fun _ _ => ?_)).trans ?_ | with_reducible refine (State.regs_one_foldl _ _ _ (fun _ _ => ?_)).trans ?_ | with_reducible refine (State.regs_rsvd_foldl _ _ _ (fun _ _ => ?_)).trans ?_ | with_reducible refine (State.regs_waiting_foldl _ _ _ (fun _ _ => ?_)).trans ?_ | with_reducible refine (State.regs_stale_foldl _ _ _ (fun _ _ => ?_)).trans ?_ | with_reducible refine (State.regs_posted_foldl _ _ _ (fun _ _ => ?_)).trans ?_ | with_reducible refine (State.fd_mem_foldl _ _ _ (fun _ _ => ?_)).trans ?_ | with_reducible refine (State.dm_sram_foldl _ _ _ (fun _ _ => ?_)).trans ?_ | with_reducible refine (State.sq_frameNo_foldl _ _ _ (fun _ _ => ?_)).trans ?_ | with_reducible refine (State.sq_inScan_foldl _ _ _ (fun _ _ => ?_)).trans ?_ | with_reducible refine (State.sq_nextBoundary_foldl _ _ _ (fun _ _ => ?_)).trans ?_ | with_reducible refine (State.pw_gate_foldl _ _ _ (fun _ _ => ?_)).trans ?_ | (dsimp only; first | split | with_reducible refine (State.regs_setA_foldl _ _ _ (fun _ _ => ?_)).trans ?_ | with_reducible refine (State.regs_setB_foldl _ _ _ (fun _ _ => ?_)).trans ?_ | with_reducible refine (State.regs_one_foldl _ _ _ (fun _ _ => ?_)).trans ?_ | with_reducible refine (State.regs_rsvd_foldl _ _ _ (fun _ _ => ?_)).trans ?_ | with_reducible refine (State.regs_waiting_foldl _ _ _ (fun _ _ => ?_)).trans ?_ | with_reducible refine (State.regs_stale_foldl _ _ _ (fun _ _ => ?_)).trans ?_ | with_reducible refine (State.regs_posted_foldl _ _ _ (fun _ _ => ?_)).trans ?_ | with_reducible refine (State.fd_mem_foldl _ _ _ (fun _ _ => ?_)).trans ?_ | with_reducible refine (State.dm_sram_foldl _ _ _ (fun _ _ => ?_)).trans ?_ | with_reducible refine (State.sq_frameNo_foldl _ _ _ (fun _ _ => ?_)).trans ?_ | with_reducible refine (State.sq_inScan_foldl _ _ _ (fun _ _ => ?_)).trans ?_ | with_reducible refine (State.sq_nextBoundary_foldl _ _ _ (fun _ _ => ?_)).trans ?_ | with_reducible refine (State.pw_gate_foldl _ _ _ (fun _ _ => ?_)).trans ?_)))

@[simp] theorem State.siTripAll_parts (s : State) (cause : Nat) :
    (s.siTripAll cause).regs.setA = s.regs.setA ∧ (s.siTripAll cause).regs.setB = s.regs.setB ∧
    (s.siTripAll cause).regs.one = s.regs.one ∧ (s.siTripAll cause).regs.rsvd = s.regs.rsvd ∧
    (s.siTripAll cause).regs.waiting = s.regs.waiting ∧ (s.siTripAll cause).regs.stale = s.regs.stale ∧
    (s.siTripAll cause).regs.posted = s.regs.posted := by
  and_intros <;> (unfold State.siTripAll; repeat' (first | with_reducible rfl | (simp; done) | split | with_reducible refine (State.regs_setA_foldl _ _ _ (fun _ _ => ?_)).trans ?_ | with_reducible refine (State.regs_setB_foldl _ _ _ (fun _ _ => ?_)).trans ?_ | with_reducible refine (State.regs_one_foldl _ _ _ (fun _ _ => ?_)).trans ?_ | with_reducible refine (State.regs_rsvd_foldl _ _ _ (fun _ _ => ?_)).trans ?_ | with_reducible refine (State.regs_waiting_foldl _ _ _ (fun _ _ => ?_)).trans ?_ | with_reducible refine (State.regs_stale_foldl _ _ _ (fun _ _ => ?_)).trans ?_ | with_reducible refine (State.regs_posted_foldl _ _ _ (fun _ _ => ?_)).trans ?_ | with_reducible refine (State.fd_mem_foldl _ _ _ (fun _ _ => ?_)).trans ?_ | with_reducible refine (State.dm_sram_foldl _ _ _ (fun _ _ => ?_)).trans ?_ | with_reducible refine (State.sq_frameNo_foldl _ _ _ (fun _ _ => ?_)).trans ?_ | with_reducible refine (State.sq_inScan_foldl _ _ _ (fun _ _ => ?_)).trans ?_ | with_reducible refine (State.sq_nextBoundary_foldl _ _ _ (fun _ _ => ?_)).trans ?_ | with_reducible refine (State.pw_gate_foldl _ _ _ (fun _ _ => ?_)).trans ?_ | (dsimp only; first | split | with_reducible refine (State.regs_setA_foldl _ _ _ (fun _ _ => ?_)).trans ?_ | with_reducible refine (State.regs_setB_foldl _ _ _ (fun _ _ => ?_)).trans ?_ | with_reducible refine (State.regs_one_foldl _ _ _ (fun _ _ => ?_)).trans ?_ | with_reducible refine (State.regs_rsvd_foldl _ _ _ (fun _ _ => ?_)).trans ?_ | with_reducible refine (State.regs_waiting_foldl _ _ _ (fun _ _ => ?_)).trans ?_ | with_reducible refine (State.regs_stale_foldl _ _ _ (fun _ _ => ?_)).trans ?_ | with_reducible refine (State.regs_posted_foldl _ _ _ (fun _ _ => ?_)).trans ?_ | with_reducible refine (State.fd_mem_foldl _ _ _ (fun _ _ => ?_)).trans ?_ | with_reducible refine (State.dm_sram_foldl _ _ _ (fun _ _ => ?_)).trans ?_ | with_reducible refine (State.sq_frameNo_foldl _ _ _ (fun _ _ => ?_)).trans ?_ | with_reducible refine (State.sq_inScan_foldl _ _ _ (fun _ _ => ?_)).trans ?_ | with_reducible refine (State.sq_nextBoundary_foldl _ _ _ (fun _ _ => ?_)).trans ?_ | with_reducible refine (State.pw_gate_foldl _ _ _ (fun _ _ => ?_)).trans ?_)))

@[simp] theorem State.siStartup_parts (s : State) (n : Nat) :
    (s.siStartup n).regs.setA = s.regs.setA ∧ (s.siStartup n).regs.setB = s.regs.setB ∧
    (s.siStartup n).regs.one = s.regs.one ∧ (s.siStartup n).regs.rsvd = s.regs.rsvd ∧
    (s.siStartup n).regs.waiting = s.regs.waiting ∧ (s.siStartup n).regs.stale = s.regs.stale ∧
    (s.siStartup n).regs.posted = s.regs.posted := by
  and_intros <;> (unfold State.siStartup; repeat' (first | with_reducible rfl | (simp; done) | split | with_reducible refine (State.regs_setA_foldl _ _ _ (fun _ _ => ?_)).trans ?_ | with_reducible refine (State.regs_setB_foldl _ _ _ (fun _ _ => ?_)).trans ?_ | with_reducible refine (State.regs_one_foldl _ _ _ (fun _ _ => ?_)).trans ?_ | with_reducible refine (State.regs_rsvd_foldl _ _ _ (fun _ _ => ?_)).trans ?_ | with_reducible refine (State.regs_waiting_foldl _ _ _ (fun _ _ => ?_)).trans ?_ | with_reducible refine (State.regs_stale_foldl _ _ _ (fun _ _ => ?_)).trans ?_ | with_reducible refine (State.regs_posted_foldl _ _ _ (fun _ _ => ?_)).trans ?_ | with_reducible refine (State.fd_mem_foldl _ _ _ (fun _ _ => ?_)).trans ?_ | with_reducible refine (State.dm_sram_foldl _ _ _ (fun _ _ => ?_)).trans ?_ | with_reducible refine (State.sq_frameNo_foldl _ _ _ (fun _ _ => ?_)).trans ?_ | with_reducible refine (State.sq_inScan_foldl _ _ _ (fun _ _ => ?_)).trans ?_ | with_reducible refine (State.sq_nextBoundary_foldl _ _ _ (fun _ _ => ?_)).trans ?_ | with_reducible refine (State.pw_gate_foldl _ _ _ (fun _ _ => ?_)).trans ?_ | (dsimp only; first | split | with_reducible refine (State.regs_setA_foldl _ _ _ (fun _ _ => ?_)).trans ?_ | with_reducible refine (State.regs_setB_foldl _ _ _ (fun _ _ => ?_)).trans ?_ | with_reducible refine (State.regs_one_foldl _ _ _ (fun _ _ => ?_)).trans ?_ | with_reducible refine (State.regs_rsvd_foldl _ _ _ (fun _ _ => ?_)).trans ?_ | with_reducible refine (State.regs_waiting_foldl _ _ _ (fun _ _ => ?_)).trans ?_ | with_reducible refine (State.regs_stale_foldl _ _ _ (fun _ _ => ?_)).trans ?_ | with_reducible refine (State.regs_posted_foldl _ _ _ (fun _ _ => ?_)).trans ?_ | with_reducible refine (State.fd_mem_foldl _ _ _ (fun _ _ => ?_)).trans ?_ | with_reducible refine (State.dm_sram_foldl _ _ _ (fun _ _ => ?_)).trans ?_ | with_reducible refine (State.sq_frameNo_foldl _ _ _ (fun _ _ => ?_)).trans ?_ | with_reducible refine (State.sq_inScan_foldl _ _ _ (fun _ _ => ?_)).trans ?_ | with_reducible refine (State.sq_nextBoundary_foldl _ _ _ (fun _ _ => ?_)).trans ?_ | with_reducible refine (State.pw_gate_foldl _ _ _ (fun _ _ => ?_)).trans ?_)))

@[simp] theorem State.siFail_parts (s : State) (i cause : Nat) :
    (s.siFail i cause).regs.setA = s.regs.setA ∧ (s.siFail i cause).regs.setB = s.regs.setB ∧
    (s.siFail i cause).regs.one = s.regs.one ∧ (s.siFail i cause).regs.rsvd = s.regs.rsvd ∧
    (s.siFail i cause).regs.waiting = s.regs.waiting ∧ (s.siFail i cause).regs.stale = s.regs.stale ∧
    (s.siFail i cause).regs.posted = s.regs.posted := by
  and_intros <;> (unfold State.siFail; repeat' (first | with_reducible rfl | (simp; done) | split | with_reducible refine (State.regs_setA_foldl _ _ _ (fun _ _ => ?_)).trans ?_ | with_reducible refine (State.regs_setB_foldl _ _ _ (fun _ _ => ?_)).trans ?_ | with_reducible refine (State.regs_one_foldl _ _ _ (fun _ _ => ?_)).trans ?_ | with_reducible refine (State.regs_rsvd_foldl _ _ _ (fun _ _ => ?_)).trans ?_ | with_reducible refine (State.regs_waiting_foldl _ _ _ (fun _ _ => ?_)).trans ?_ | with_reducible refine (State.regs_stale_foldl _ _ _ (fun _ _ => ?_)).trans ?_ | with_reducible refine (State.regs_posted_foldl _ _ _ (fun _ _ => ?_)).trans ?_ | with_reducible refine (State.fd_mem_foldl _ _ _ (fun _ _ => ?_)).trans ?_ | with_reducible refine (State.dm_sram_foldl _ _ _ (fun _ _ => ?_)).trans ?_ | with_reducible refine (State.sq_frameNo_foldl _ _ _ (fun _ _ => ?_)).trans ?_ | with_reducible refine (State.sq_inScan_foldl _ _ _ (fun _ _ => ?_)).trans ?_ | with_reducible refine (State.sq_nextBoundary_foldl _ _ _ (fun _ _ => ?_)).trans ?_ | with_reducible refine (State.pw_gate_foldl _ _ _ (fun _ _ => ?_)).trans ?_ | (dsimp only; first | split | with_reducible refine (State.regs_setA_foldl _ _ _ (fun _ _ => ?_)).trans ?_ | with_reducible refine (State.regs_setB_foldl _ _ _ (fun _ _ => ?_)).trans ?_ | with_reducible refine (State.regs_one_foldl _ _ _ (fun _ _ => ?_)).trans ?_ | with_reducible refine (State.regs_rsvd_foldl _ _ _ (fun _ _ => ?_)).trans ?_ | with_reducible refine (State.regs_waiting_foldl _ _ _ (fun _ _ => ?_)).trans ?_ | with_reducible refine (State.regs_stale_foldl _ _ _ (fun _ _ => ?_)).trans ?_ | with_reducible refine (State.regs_posted_foldl _ _ _ (fun _ _ => ?_)).trans ?_ | with_reducible refine (State.fd_mem_foldl _ _ _ (fun _ _ => ?_)).trans ?_ | with_reducible refine (State.dm_sram_foldl _ _ _ (fun _ _ => ?_)).trans ?_ | with_reducible refine (State.sq_frameNo_foldl _ _ _ (fun _ _ => ?_)).trans ?_ | with_reducible refine (State.sq_inScan_foldl _ _ _ (fun _ _ => ?_)).trans ?_ | with_reducible refine (State.sq_nextBoundary_foldl _ _ _ (fun _ _ => ?_)).trans ?_ | with_reducible refine (State.pw_gate_foldl _ _ _ (fun _ _ => ?_)).trans ?_)))

end Sys2Proof.Machine
end

