-- ==== Sys2Proof/Laws/FrameOperands.lean ====
section
/-!
SUPPORT. The frames of the operations of Machine/Operands.lean: the parts of the state that each of them leaves as they were.
-/

set_option linter.unusedTactic false
set_option linter.unreachableTactic false
set_option linter.unusedSimpArgs false

namespace Sys2Proof.Machine

@[simp] theorem State.setChan_frame (s : State) (c : Nat) (x : ChanState) :
    (s.setChan c x).now = s.now ∧ (s.setChan c x).phase = s.phase ∧ (s.setChan c x).pending = s.pending ∧
    (s.setChan c x).nodeOfs = s.nodeOfs ∧ (s.setChan c x).freeCtr = s.freeCtr ∧ (s.setChan c x).tx = s.tx ∧
    (s.setChan c x).regs = s.regs ∧ (s.setChan c x).sq = s.sq ∧ (s.setChan c x).fd = s.fd ∧ (s.setChan c x).ex = s.ex ∧
    (s.setChan c x).sv = s.sv ∧ (s.setChan c x).ax = s.ax ∧ (s.setChan c x).aq = s.aq ∧ (s.setChan c x).il = s.il ∧
    (s.setChan c x).ln = s.ln ∧ (s.setChan c x).fl = s.fl ∧ (s.setChan c x).ev = s.ev ∧ (s.setChan c x).safe = s.safe ∧
    (s.setChan c x).dm = s.dm ∧ (s.setChan c x).cm = s.cm ∧ (s.setChan c x).cf = s.cf ∧ (s.setChan c x).pw = s.pw ∧
    (s.setChan c x).th = s.th := by
  and_intros <;> (unfold State.setChan; repeat' (first | with_reducible rfl | (simp; done) | split | with_reducible refine (foldl_inv _ _ _ _ (fun _ _ => ?_)).trans ?_ | (dsimp only; first | split | with_reducible refine (foldl_inv _ _ _ _ (fun _ _ => ?_)).trans ?_)))

@[simp] theorem State.setTile_frame (s : State) (t : Nat) (x : TileState) :
    (s.setTile t x).now = s.now ∧ (s.setTile t x).phase = s.phase ∧ (s.setTile t x).pending = s.pending ∧
    (s.setTile t x).nodeOfs = s.nodeOfs ∧ (s.setTile t x).freeCtr = s.freeCtr ∧ (s.setTile t x).tx = s.tx ∧
    (s.setTile t x).regs = s.regs ∧ (s.setTile t x).sq = s.sq ∧ (s.setTile t x).fd = s.fd ∧ (s.setTile t x).ex = s.ex ∧
    (s.setTile t x).sv = s.sv ∧ (s.setTile t x).ax = s.ax ∧ (s.setTile t x).aq = s.aq ∧ (s.setTile t x).il = s.il ∧
    (s.setTile t x).ln = s.ln ∧ (s.setTile t x).fl = s.fl ∧ (s.setTile t x).ev = s.ev ∧ (s.setTile t x).safe = s.safe ∧
    (s.setTile t x).dm = s.dm ∧ (s.setTile t x).cm = s.cm ∧ (s.setTile t x).cf = s.cf ∧ (s.setTile t x).pw = s.pw ∧
    (s.setTile t x).th = s.th := by
  and_intros <;> (unfold State.setTile; repeat' (first | with_reducible rfl | (simp; done) | split | with_reducible refine (foldl_inv _ _ _ _ (fun _ _ => ?_)).trans ?_ | (dsimp only; first | split | with_reducible refine (foldl_inv _ _ _ _ (fun _ _ => ?_)).trans ?_)))

@[simp] theorem State.join_frame (s : State) (u : Nat) (mine : Nat → Bool) :
    (s.join u mine).now = s.now ∧ (s.join u mine).phase = s.phase ∧ (s.join u mine).pending = s.pending ∧
    (s.join u mine).nodeOfs = s.nodeOfs ∧ (s.join u mine).freeCtr = s.freeCtr ∧ (s.join u mine).tx = s.tx ∧
    (s.join u mine).tl = s.tl ∧ (s.join u mine).sq = s.sq ∧ (s.join u mine).fd = s.fd ∧ (s.join u mine).ex = s.ex ∧
    (s.join u mine).sv = s.sv ∧ (s.join u mine).ax = s.ax ∧ (s.join u mine).aq = s.aq ∧ (s.join u mine).il = s.il ∧
    (s.join u mine).ln = s.ln ∧ (s.join u mine).fl = s.fl ∧ (s.join u mine).ev = s.ev ∧ (s.join u mine).safe = s.safe ∧
    (s.join u mine).dm = s.dm ∧ (s.join u mine).cm = s.cm ∧ (s.join u mine).cf = s.cf ∧ (s.join u mine).pw = s.pw ∧
    (s.join u mine).th = s.th := by
  and_intros <;> (unfold State.join; repeat' (first | with_reducible rfl | (simp; done) | split | with_reducible refine (foldl_inv _ _ _ _ (fun _ _ => ?_)).trans ?_ | (dsimp only; first | split | with_reducible refine (foldl_inv _ _ _ _ (fun _ _ => ?_)).trans ?_)))

@[simp] theorem State.joinProfile_frame (s : State) (p : Nat) :
    (s.joinProfile p).now = s.now ∧ (s.joinProfile p).phase = s.phase ∧ (s.joinProfile p).pending = s.pending ∧
    (s.joinProfile p).nodeOfs = s.nodeOfs ∧ (s.joinProfile p).freeCtr = s.freeCtr ∧ (s.joinProfile p).tx = s.tx ∧
    (s.joinProfile p).tl = s.tl ∧ (s.joinProfile p).sq = s.sq ∧ (s.joinProfile p).fd = s.fd ∧ (s.joinProfile p).ex = s.ex ∧
    (s.joinProfile p).sv = s.sv ∧ (s.joinProfile p).ax = s.ax ∧ (s.joinProfile p).aq = s.aq ∧ (s.joinProfile p).il = s.il ∧
    (s.joinProfile p).ln = s.ln ∧ (s.joinProfile p).fl = s.fl ∧ (s.joinProfile p).ev = s.ev ∧
    (s.joinProfile p).safe = s.safe ∧ (s.joinProfile p).dm = s.dm ∧ (s.joinProfile p).cm = s.cm ∧
    (s.joinProfile p).cf = s.cf ∧ (s.joinProfile p).pw = s.pw ∧ (s.joinProfile p).th = s.th := by
  and_intros <;> (unfold State.joinProfile; repeat' (first | with_reducible rfl | (simp; done) | split | with_reducible refine (foldl_inv _ _ _ _ (fun _ _ => ?_)).trans ?_ | (dsimp only; first | split | with_reducible refine (foldl_inv _ _ _ _ (fun _ _ => ?_)).trans ?_)))

@[simp] theorem State.joinGroup_frame (s : State) (c : Nat) :
    (s.joinGroup c).now = s.now ∧ (s.joinGroup c).phase = s.phase ∧ (s.joinGroup c).pending = s.pending ∧
    (s.joinGroup c).nodeOfs = s.nodeOfs ∧ (s.joinGroup c).freeCtr = s.freeCtr ∧ (s.joinGroup c).tx = s.tx ∧
    (s.joinGroup c).tl = s.tl ∧ (s.joinGroup c).sq = s.sq ∧ (s.joinGroup c).fd = s.fd ∧ (s.joinGroup c).ex = s.ex ∧
    (s.joinGroup c).sv = s.sv ∧ (s.joinGroup c).ax = s.ax ∧ (s.joinGroup c).aq = s.aq ∧ (s.joinGroup c).il = s.il ∧
    (s.joinGroup c).ln = s.ln ∧ (s.joinGroup c).fl = s.fl ∧ (s.joinGroup c).ev = s.ev ∧ (s.joinGroup c).safe = s.safe ∧
    (s.joinGroup c).dm = s.dm ∧ (s.joinGroup c).cm = s.cm ∧ (s.joinGroup c).cf = s.cf ∧ (s.joinGroup c).pw = s.pw ∧
    (s.joinGroup c).th = s.th := by
  and_intros <;> (unfold State.joinGroup; repeat' (first | with_reducible rfl | (simp; done) | split | with_reducible refine (foldl_inv _ _ _ _ (fun _ _ => ?_)).trans ?_ | (dsimp only; first | split | with_reducible refine (foldl_inv _ _ _ _ (fun _ _ => ?_)).trans ?_)))

@[simp] theorem State.looked_frame (s : State) (u a : Nat) :
    (s.looked u a).now = s.now ∧ (s.looked u a).phase = s.phase ∧ (s.looked u a).pending = s.pending ∧
    (s.looked u a).nodeOfs = s.nodeOfs ∧ (s.looked u a).freeCtr = s.freeCtr ∧ (s.looked u a).tx = s.tx ∧
    (s.looked u a).tl = s.tl ∧ (s.looked u a).sq = s.sq ∧ (s.looked u a).fd = s.fd ∧ (s.looked u a).ex = s.ex ∧
    (s.looked u a).sv = s.sv ∧ (s.looked u a).ax = s.ax ∧ (s.looked u a).aq = s.aq ∧ (s.looked u a).il = s.il ∧
    (s.looked u a).ln = s.ln ∧ (s.looked u a).ev = s.ev ∧ (s.looked u a).safe = s.safe ∧ (s.looked u a).dm = s.dm ∧
    (s.looked u a).cm = s.cm ∧ (s.looked u a).cf = s.cf ∧ (s.looked u a).pw = s.pw ∧ (s.looked u a).th = s.th := by
  and_intros <;> (unfold State.looked; repeat' (first | with_reducible rfl | (simp; done) | split | with_reducible refine (foldl_inv _ _ _ _ (fun _ _ => ?_)).trans ?_ | (dsimp only; first | split | with_reducible refine (foldl_inv _ _ _ _ (fun _ _ => ?_)).trans ?_)))

@[simp] theorem State.stopFiring_frame (s : State) :
    (s.stopFiring).now = s.now ∧ (s.stopFiring).phase = s.phase ∧ (s.stopFiring).pending = s.pending ∧
    (s.stopFiring).nodeOfs = s.nodeOfs ∧ (s.stopFiring).freeCtr = s.freeCtr ∧ (s.stopFiring).tx = s.tx ∧
    (s.stopFiring).tl = s.tl ∧ (s.stopFiring).fd = s.fd ∧ (s.stopFiring).ex = s.ex ∧ (s.stopFiring).sv = s.sv ∧
    (s.stopFiring).ax = s.ax ∧ (s.stopFiring).aq = s.aq ∧ (s.stopFiring).il = s.il ∧ (s.stopFiring).ln = s.ln ∧
    (s.stopFiring).fl = s.fl ∧ (s.stopFiring).ev = s.ev ∧ (s.stopFiring).safe = s.safe ∧ (s.stopFiring).dm = s.dm ∧
    (s.stopFiring).cm = s.cm ∧ (s.stopFiring).cf = s.cf ∧ (s.stopFiring).pw = s.pw ∧ (s.stopFiring).th = s.th := by
  and_intros <;> (unfold State.stopFiring; repeat' (first | with_reducible rfl | (simp; done) | split | with_reducible refine (foldl_inv _ _ _ _ (fun _ _ => ?_)).trans ?_ | (dsimp only; first | split | with_reducible refine (foldl_inv _ _ _ _ (fun _ _ => ?_)).trans ?_)))

@[simp] theorem State.haltFiring_frame (s : State) :
    (s.haltFiring).now = s.now ∧ (s.haltFiring).phase = s.phase ∧ (s.haltFiring).pending = s.pending ∧
    (s.haltFiring).nodeOfs = s.nodeOfs ∧ (s.haltFiring).freeCtr = s.freeCtr ∧ (s.haltFiring).tx = s.tx ∧
    (s.haltFiring).tl = s.tl ∧ (s.haltFiring).fd = s.fd ∧ (s.haltFiring).ex = s.ex ∧ (s.haltFiring).sv = s.sv ∧
    (s.haltFiring).ax = s.ax ∧ (s.haltFiring).aq = s.aq ∧ (s.haltFiring).il = s.il ∧ (s.haltFiring).ln = s.ln ∧
    (s.haltFiring).fl = s.fl ∧ (s.haltFiring).ev = s.ev ∧ (s.haltFiring).safe = s.safe ∧ (s.haltFiring).dm = s.dm ∧
    (s.haltFiring).cm = s.cm ∧ (s.haltFiring).cf = s.cf ∧ (s.haltFiring).pw = s.pw ∧ (s.haltFiring).th = s.th := by
  and_intros <;> (unfold State.haltFiring; repeat' (first | with_reducible rfl | (simp; done) | split | with_reducible refine (foldl_inv _ _ _ _ (fun _ _ => ?_)).trans ?_ | (dsimp only; first | split | with_reducible refine (foldl_inv _ _ _ _ (fun _ _ => ?_)).trans ?_)))

@[simp] theorem State.shutFiring_frame (s : State) :
    (s.shutFiring).now = s.now ∧ (s.shutFiring).phase = s.phase ∧ (s.shutFiring).pending = s.pending ∧
    (s.shutFiring).nodeOfs = s.nodeOfs ∧ (s.shutFiring).freeCtr = s.freeCtr ∧ (s.shutFiring).tx = s.tx ∧
    (s.shutFiring).tl = s.tl ∧ (s.shutFiring).fd = s.fd ∧ (s.shutFiring).ex = s.ex ∧ (s.shutFiring).sv = s.sv ∧
    (s.shutFiring).ax = s.ax ∧ (s.shutFiring).aq = s.aq ∧ (s.shutFiring).il = s.il ∧ (s.shutFiring).ln = s.ln ∧
    (s.shutFiring).fl = s.fl ∧ (s.shutFiring).ev = s.ev ∧ (s.shutFiring).safe = s.safe ∧ (s.shutFiring).dm = s.dm ∧
    (s.shutFiring).cm = s.cm ∧ (s.shutFiring).cf = s.cf ∧ (s.shutFiring).pw = s.pw ∧ (s.shutFiring).th = s.th := by
  and_intros <;> (unfold State.shutFiring; repeat' (first | with_reducible rfl | (simp; done) | split | with_reducible refine (foldl_inv _ _ _ _ (fun _ _ => ?_)).trans ?_ | (dsimp only; first | split | with_reducible refine (foldl_inv _ _ _ _ (fun _ _ => ?_)).trans ?_)))

@[simp] theorem State.cfMismatch_frame (s : State) :
    (s.cfMismatch).now = s.now ∧ (s.cfMismatch).phase = s.phase ∧ (s.cfMismatch).pending = s.pending ∧
    (s.cfMismatch).nodeOfs = s.nodeOfs ∧ (s.cfMismatch).freeCtr = s.freeCtr ∧ (s.cfMismatch).tl = s.tl ∧
    (s.cfMismatch).fd = s.fd ∧ (s.cfMismatch).ex = s.ex ∧ (s.cfMismatch).sv = s.sv ∧ (s.cfMismatch).ax = s.ax ∧
    (s.cfMismatch).aq = s.aq ∧ (s.cfMismatch).il = s.il ∧ (s.cfMismatch).ln = s.ln ∧ (s.cfMismatch).dm = s.dm ∧
    (s.cfMismatch).cm = s.cm ∧ (s.cfMismatch).cf = s.cf ∧ (s.cfMismatch).pw = s.pw ∧ (s.cfMismatch).th = s.th := by
  and_intros <;> (unfold State.cfMismatch; repeat' (first | with_reducible rfl | (simp; done) | split | with_reducible refine (foldl_inv _ _ _ _ (fun _ _ => ?_)).trans ?_ | (dsimp only; first | split | with_reducible refine (foldl_inv _ _ _ _ (fun _ _ => ?_)).trans ?_)))

@[simp] theorem State.setAct_frame (s : State) (a : Nat) (v : Score) :
    (s.setAct a v).now = s.now ∧ (s.setAct a v).phase = s.phase ∧ (s.setAct a v).pending = s.pending ∧
    (s.setAct a v).nodeOfs = s.nodeOfs ∧ (s.setAct a v).freeCtr = s.freeCtr ∧ (s.setAct a v).tx = s.tx ∧
    (s.setAct a v).tl = s.tl ∧ (s.setAct a v).sq = s.sq ∧ (s.setAct a v).fd = s.fd ∧ (s.setAct a v).ex = s.ex ∧
    (s.setAct a v).sv = s.sv ∧ (s.setAct a v).ax = s.ax ∧ (s.setAct a v).aq = s.aq ∧ (s.setAct a v).il = s.il ∧
    (s.setAct a v).ln = s.ln ∧ (s.setAct a v).fl = s.fl ∧ (s.setAct a v).ev = s.ev ∧ (s.setAct a v).safe = s.safe ∧
    (s.setAct a v).dm = s.dm ∧ (s.setAct a v).cm = s.cm ∧ (s.setAct a v).cf = s.cf ∧ (s.setAct a v).pw = s.pw ∧
    (s.setAct a v).th = s.th := by
  and_intros <;> (unfold State.setAct; repeat' (first | with_reducible rfl | (simp; done) | split | with_reducible refine (foldl_inv _ _ _ _ (fun _ _ => ?_)).trans ?_ | (dsimp only; first | split | with_reducible refine (foldl_inv _ _ _ _ (fun _ _ => ?_)).trans ?_)))

@[simp] theorem State.takeEffect_frame (s : State) (w : LiveWrite) :
    (s.takeEffect w).now = s.now ∧ (s.takeEffect w).phase = s.phase ∧ (s.takeEffect w).pending = s.pending ∧
    (s.takeEffect w).nodeOfs = s.nodeOfs ∧ (s.takeEffect w).freeCtr = s.freeCtr ∧ (s.takeEffect w).tl = s.tl ∧
    (s.takeEffect w).fd = s.fd ∧ (s.takeEffect w).ex = s.ex ∧ (s.takeEffect w).sv = s.sv ∧ (s.takeEffect w).ax = s.ax ∧
    (s.takeEffect w).aq = s.aq ∧ (s.takeEffect w).il = s.il ∧ (s.takeEffect w).ln = s.ln ∧ (s.takeEffect w).dm = s.dm ∧
    (s.takeEffect w).cm = s.cm ∧ (s.takeEffect w).pw = s.pw ∧ (s.takeEffect w).th = s.th := by
  and_intros <;> (unfold State.takeEffect; repeat' (first | with_reducible rfl | (simp; done) | split | with_reducible refine (foldl_inv _ _ _ _ (fun _ _ => ?_)).trans ?_ | (dsimp only; first | split | with_reducible refine (foldl_inv _ _ _ _ (fun _ _ => ?_)).trans ?_)))

@[simp] theorem State.applyOn_frame (s : State) (ok : LiveWrite → Bool) (p : Nat → Nat → Bool) :
    (s.applyOn ok p).now = s.now ∧ (s.applyOn ok p).phase = s.phase ∧ (s.applyOn ok p).pending = s.pending ∧
    (s.applyOn ok p).nodeOfs = s.nodeOfs ∧ (s.applyOn ok p).freeCtr = s.freeCtr ∧ (s.applyOn ok p).tl = s.tl ∧
    (s.applyOn ok p).fd = s.fd ∧ (s.applyOn ok p).ex = s.ex ∧ (s.applyOn ok p).sv = s.sv ∧ (s.applyOn ok p).ax = s.ax ∧
    (s.applyOn ok p).aq = s.aq ∧ (s.applyOn ok p).il = s.il ∧ (s.applyOn ok p).ln = s.ln ∧ (s.applyOn ok p).dm = s.dm ∧
    (s.applyOn ok p).cm = s.cm ∧ (s.applyOn ok p).pw = s.pw ∧ (s.applyOn ok p).th = s.th := by
  and_intros <;> (unfold State.applyOn; repeat' (first | with_reducible rfl | (simp; done) | split | with_reducible refine (foldl_inv _ _ _ _ (fun _ _ => ?_)).trans ?_ | (dsimp only; first | split | with_reducible refine (foldl_inv _ _ _ _ (fun _ _ => ?_)).trans ?_)))

@[simp] theorem State.applyAt_frame (s : State) (p : Nat → Nat → Bool) :
    (s.applyAt p).now = s.now ∧ (s.applyAt p).phase = s.phase ∧ (s.applyAt p).pending = s.pending ∧
    (s.applyAt p).nodeOfs = s.nodeOfs ∧ (s.applyAt p).freeCtr = s.freeCtr ∧ (s.applyAt p).tl = s.tl ∧
    (s.applyAt p).fd = s.fd ∧ (s.applyAt p).ex = s.ex ∧ (s.applyAt p).sv = s.sv ∧ (s.applyAt p).ax = s.ax ∧
    (s.applyAt p).aq = s.aq ∧ (s.applyAt p).il = s.il ∧ (s.applyAt p).ln = s.ln ∧ (s.applyAt p).dm = s.dm ∧
    (s.applyAt p).cm = s.cm ∧ (s.applyAt p).pw = s.pw ∧ (s.applyAt p).th = s.th := by
  and_intros <;> (unfold State.applyAt; repeat' (first | with_reducible rfl | (simp; done) | split | with_reducible refine (foldl_inv _ _ _ _ (fun _ _ => ?_)).trans ?_ | (dsimp only; first | split | with_reducible refine (foldl_inv _ _ _ _ (fun _ _ => ?_)).trans ?_)))

@[simp] theorem State.applyNow_frame (s : State) (p : Nat → Nat → Bool) :
    (s.applyNow p).now = s.now ∧ (s.applyNow p).phase = s.phase ∧ (s.applyNow p).pending = s.pending ∧
    (s.applyNow p).nodeOfs = s.nodeOfs ∧ (s.applyNow p).freeCtr = s.freeCtr ∧ (s.applyNow p).tl = s.tl ∧
    (s.applyNow p).fd = s.fd ∧ (s.applyNow p).ex = s.ex ∧ (s.applyNow p).sv = s.sv ∧ (s.applyNow p).ax = s.ax ∧
    (s.applyNow p).aq = s.aq ∧ (s.applyNow p).il = s.il ∧ (s.applyNow p).ln = s.ln ∧ (s.applyNow p).dm = s.dm ∧
    (s.applyNow p).cm = s.cm ∧ (s.applyNow p).pw = s.pw ∧ (s.applyNow p).th = s.th := by
  and_intros <;> (unfold State.applyNow; repeat' (first | with_reducible rfl | (simp; done) | split | with_reducible refine (foldl_inv _ _ _ _ (fun _ _ => ?_)).trans ?_ | (dsimp only; first | split | with_reducible refine (foldl_inv _ _ _ _ (fun _ _ => ?_)).trans ?_)))

@[simp] theorem State.applyLater_frame (s : State) (lsb : Nat) (p : Nat → Bool) :
    (s.applyLater lsb p).now = s.now ∧ (s.applyLater lsb p).phase = s.phase ∧ (s.applyLater lsb p).pending = s.pending ∧
    (s.applyLater lsb p).nodeOfs = s.nodeOfs ∧ (s.applyLater lsb p).freeCtr = s.freeCtr ∧ (s.applyLater lsb p).tl = s.tl ∧
    (s.applyLater lsb p).fd = s.fd ∧ (s.applyLater lsb p).ex = s.ex ∧ (s.applyLater lsb p).sv = s.sv ∧
    (s.applyLater lsb p).ax = s.ax ∧ (s.applyLater lsb p).aq = s.aq ∧ (s.applyLater lsb p).il = s.il ∧
    (s.applyLater lsb p).ln = s.ln ∧ (s.applyLater lsb p).dm = s.dm ∧ (s.applyLater lsb p).cm = s.cm ∧
    (s.applyLater lsb p).pw = s.pw ∧ (s.applyLater lsb p).th = s.th := by
  and_intros <;> (unfold State.applyLater; repeat' (first | with_reducible rfl | (simp; done) | split | with_reducible refine (foldl_inv _ _ _ _ (fun _ _ => ?_)).trans ?_ | (dsimp only; first | split | with_reducible refine (foldl_inv _ _ _ _ (fun _ _ => ?_)).trans ?_)))

@[simp] theorem State.rampStep_frame (s : State) (chan : Nat) :
    (s.rampStep chan).now = s.now ∧ (s.rampStep chan).phase = s.phase ∧ (s.rampStep chan).pending = s.pending ∧
    (s.rampStep chan).nodeOfs = s.nodeOfs ∧ (s.rampStep chan).freeCtr = s.freeCtr ∧ (s.rampStep chan).tx = s.tx ∧
    (s.rampStep chan).tl = s.tl ∧ (s.rampStep chan).sq = s.sq ∧ (s.rampStep chan).fd = s.fd ∧ (s.rampStep chan).ex = s.ex ∧
    (s.rampStep chan).sv = s.sv ∧ (s.rampStep chan).ax = s.ax ∧ (s.rampStep chan).aq = s.aq ∧ (s.rampStep chan).il = s.il ∧
    (s.rampStep chan).ln = s.ln ∧ (s.rampStep chan).fl = s.fl ∧ (s.rampStep chan).ev = s.ev ∧
    (s.rampStep chan).safe = s.safe ∧ (s.rampStep chan).dm = s.dm ∧ (s.rampStep chan).cm = s.cm ∧
    (s.rampStep chan).cf = s.cf ∧ (s.rampStep chan).pw = s.pw := by
  and_intros <;> (unfold State.rampStep; repeat' (first | with_reducible rfl | (simp; done) | split | with_reducible refine (foldl_inv _ _ _ _ (fun _ _ => ?_)).trans ?_ | (dsimp only; first | split | with_reducible refine (foldl_inv _ _ _ _ (fun _ _ => ?_)).trans ?_)))

@[simp] theorem State.setPlan_frame (s : State) (p : Plan) :
    (s.setPlan p).now = s.now ∧ (s.setPlan p).phase = s.phase ∧ (s.setPlan p).pending = s.pending ∧
    (s.setPlan p).nodeOfs = s.nodeOfs ∧ (s.setPlan p).freeCtr = s.freeCtr ∧ (s.setPlan p).tx = s.tx ∧
    (s.setPlan p).regs = s.regs ∧ (s.setPlan p).tl = s.tl ∧ (s.setPlan p).fd = s.fd ∧ (s.setPlan p).ex = s.ex ∧
    (s.setPlan p).sv = s.sv ∧ (s.setPlan p).ax = s.ax ∧ (s.setPlan p).aq = s.aq ∧ (s.setPlan p).il = s.il ∧
    (s.setPlan p).ln = s.ln ∧ (s.setPlan p).fl = s.fl ∧ (s.setPlan p).ev = s.ev ∧ (s.setPlan p).safe = s.safe ∧
    (s.setPlan p).dm = s.dm ∧ (s.setPlan p).cm = s.cm ∧ (s.setPlan p).cf = s.cf ∧ (s.setPlan p).pw = s.pw ∧
    (s.setPlan p).th = s.th := by
  and_intros <;> (unfold State.setPlan; repeat' (first | with_reducible rfl | (simp; done) | split | with_reducible refine (foldl_inv _ _ _ _ (fun _ _ => ?_)).trans ?_ | (dsimp only; first | split | with_reducible refine (foldl_inv _ _ _ _ (fun _ _ => ?_)).trans ?_)))

@[simp] theorem State.intake_frame (s : State) (i : Intake) :
    (s.intake i).now = s.now ∧ (s.intake i).phase = s.phase ∧ (s.intake i).pending = s.pending ∧
    (s.intake i).nodeOfs = s.nodeOfs ∧ (s.intake i).freeCtr = s.freeCtr ∧ (s.intake i).tx = s.tx ∧
    (s.intake i).regs = s.regs ∧ (s.intake i).tl = s.tl ∧ (s.intake i).sq = s.sq ∧ (s.intake i).ex = s.ex ∧
    (s.intake i).sv = s.sv ∧ (s.intake i).ax = s.ax ∧ (s.intake i).aq = s.aq ∧ (s.intake i).il = s.il ∧
    (s.intake i).ln = s.ln ∧ (s.intake i).fl = s.fl ∧ (s.intake i).ev = s.ev ∧ (s.intake i).safe = s.safe ∧
    (s.intake i).dm = s.dm ∧ (s.intake i).cm = s.cm ∧ (s.intake i).cf = s.cf ∧ (s.intake i).pw = s.pw ∧
    (s.intake i).th = s.th := by
  and_intros <;> (unfold State.intake; repeat' (first | with_reducible rfl | (simp; done) | split | with_reducible refine (foldl_inv _ _ _ _ (fun _ _ => ?_)).trans ?_ | (dsimp only; first | split | with_reducible refine (foldl_inv _ _ _ _ (fun _ _ => ?_)).trans ?_)))

@[simp] theorem State.fdUncount_frame (s : State) (c seq : Nat) :
    (s.fdUncount c seq).now = s.now ∧ (s.fdUncount c seq).phase = s.phase ∧ (s.fdUncount c seq).pending = s.pending ∧
    (s.fdUncount c seq).nodeOfs = s.nodeOfs ∧ (s.fdUncount c seq).freeCtr = s.freeCtr ∧ (s.fdUncount c seq).tx = s.tx ∧
    (s.fdUncount c seq).regs = s.regs ∧ (s.fdUncount c seq).tl = s.tl ∧ (s.fdUncount c seq).sq = s.sq ∧
    (s.fdUncount c seq).ex = s.ex ∧ (s.fdUncount c seq).sv = s.sv ∧ (s.fdUncount c seq).ax = s.ax ∧
    (s.fdUncount c seq).aq = s.aq ∧ (s.fdUncount c seq).il = s.il ∧ (s.fdUncount c seq).ln = s.ln ∧
    (s.fdUncount c seq).fl = s.fl ∧ (s.fdUncount c seq).ev = s.ev ∧ (s.fdUncount c seq).safe = s.safe ∧
    (s.fdUncount c seq).dm = s.dm ∧ (s.fdUncount c seq).cm = s.cm ∧ (s.fdUncount c seq).cf = s.cf ∧
    (s.fdUncount c seq).pw = s.pw ∧ (s.fdUncount c seq).th = s.th := by
  and_intros <;> (unfold State.fdUncount; repeat' (first | with_reducible rfl | (simp; done) | split | with_reducible refine (foldl_inv _ _ _ _ (fun _ _ => ?_)).trans ?_ | (dsimp only; first | split | with_reducible refine (foldl_inv _ _ _ _ (fun _ _ => ?_)).trans ?_)))

@[simp] theorem State.join_parts (s : State) (u : Nat) (mine : Nat → Bool) :
    (s.join u mine).regs.setA = s.regs.setA ∧ (s.join u mine).regs.setB = s.regs.setB ∧
    (s.join u mine).regs.one = s.regs.one ∧ (s.join u mine).regs.rsvd = s.regs.rsvd ∧
    (s.join u mine).regs.stale = s.regs.stale ∧ (s.join u mine).regs.posted = s.regs.posted := by
  and_intros <;> (unfold State.join; repeat' (first | with_reducible rfl | (simp; done) | split | with_reducible refine (State.regs_setA_foldl _ _ _ (fun _ _ => ?_)).trans ?_ | with_reducible refine (State.regs_setB_foldl _ _ _ (fun _ _ => ?_)).trans ?_ | with_reducible refine (State.regs_one_foldl _ _ _ (fun _ _ => ?_)).trans ?_ | with_reducible refine (State.regs_rsvd_foldl _ _ _ (fun _ _ => ?_)).trans ?_ | with_reducible refine (State.regs_waiting_foldl _ _ _ (fun _ _ => ?_)).trans ?_ | with_reducible refine (State.regs_stale_foldl _ _ _ (fun _ _ => ?_)).trans ?_ | with_reducible refine (State.regs_posted_foldl _ _ _ (fun _ _ => ?_)).trans ?_ | with_reducible refine (State.fd_mem_foldl _ _ _ (fun _ _ => ?_)).trans ?_ | with_reducible refine (State.dm_sram_foldl _ _ _ (fun _ _ => ?_)).trans ?_ | with_reducible refine (State.sq_frameNo_foldl _ _ _ (fun _ _ => ?_)).trans ?_ | with_reducible refine (State.sq_inScan_foldl _ _ _ (fun _ _ => ?_)).trans ?_ | with_reducible refine (State.sq_nextBoundary_foldl _ _ _ (fun _ _ => ?_)).trans ?_ | with_reducible refine (State.pw_gate_foldl _ _ _ (fun _ _ => ?_)).trans ?_ | (dsimp only; first | split | with_reducible refine (State.regs_setA_foldl _ _ _ (fun _ _ => ?_)).trans ?_ | with_reducible refine (State.regs_setB_foldl _ _ _ (fun _ _ => ?_)).trans ?_ | with_reducible refine (State.regs_one_foldl _ _ _ (fun _ _ => ?_)).trans ?_ | with_reducible refine (State.regs_rsvd_foldl _ _ _ (fun _ _ => ?_)).trans ?_ | with_reducible refine (State.regs_waiting_foldl _ _ _ (fun _ _ => ?_)).trans ?_ | with_reducible refine (State.regs_stale_foldl _ _ _ (fun _ _ => ?_)).trans ?_ | with_reducible refine (State.regs_posted_foldl _ _ _ (fun _ _ => ?_)).trans ?_ | with_reducible refine (State.fd_mem_foldl _ _ _ (fun _ _ => ?_)).trans ?_ | with_reducible refine (State.dm_sram_foldl _ _ _ (fun _ _ => ?_)).trans ?_ | with_reducible refine (State.sq_frameNo_foldl _ _ _ (fun _ _ => ?_)).trans ?_ | with_reducible refine (State.sq_inScan_foldl _ _ _ (fun _ _ => ?_)).trans ?_ | with_reducible refine (State.sq_nextBoundary_foldl _ _ _ (fun _ _ => ?_)).trans ?_ | with_reducible refine (State.pw_gate_foldl _ _ _ (fun _ _ => ?_)).trans ?_)))

@[simp] theorem State.joinProfile_parts (s : State) (p : Nat) :
    (s.joinProfile p).regs.setA = s.regs.setA ∧ (s.joinProfile p).regs.setB = s.regs.setB ∧
    (s.joinProfile p).regs.one = s.regs.one ∧ (s.joinProfile p).regs.rsvd = s.regs.rsvd ∧
    (s.joinProfile p).regs.stale = s.regs.stale ∧ (s.joinProfile p).regs.posted = s.regs.posted := by
  and_intros <;> (unfold State.joinProfile; repeat' (first | with_reducible rfl | (simp; done) | split | with_reducible refine (State.regs_setA_foldl _ _ _ (fun _ _ => ?_)).trans ?_ | with_reducible refine (State.regs_setB_foldl _ _ _ (fun _ _ => ?_)).trans ?_ | with_reducible refine (State.regs_one_foldl _ _ _ (fun _ _ => ?_)).trans ?_ | with_reducible refine (State.regs_rsvd_foldl _ _ _ (fun _ _ => ?_)).trans ?_ | with_reducible refine (State.regs_waiting_foldl _ _ _ (fun _ _ => ?_)).trans ?_ | with_reducible refine (State.regs_stale_foldl _ _ _ (fun _ _ => ?_)).trans ?_ | with_reducible refine (State.regs_posted_foldl _ _ _ (fun _ _ => ?_)).trans ?_ | with_reducible refine (State.fd_mem_foldl _ _ _ (fun _ _ => ?_)).trans ?_ | with_reducible refine (State.dm_sram_foldl _ _ _ (fun _ _ => ?_)).trans ?_ | with_reducible refine (State.sq_frameNo_foldl _ _ _ (fun _ _ => ?_)).trans ?_ | with_reducible refine (State.sq_inScan_foldl _ _ _ (fun _ _ => ?_)).trans ?_ | with_reducible refine (State.sq_nextBoundary_foldl _ _ _ (fun _ _ => ?_)).trans ?_ | with_reducible refine (State.pw_gate_foldl _ _ _ (fun _ _ => ?_)).trans ?_ | (dsimp only; first | split | with_reducible refine (State.regs_setA_foldl _ _ _ (fun _ _ => ?_)).trans ?_ | with_reducible refine (State.regs_setB_foldl _ _ _ (fun _ _ => ?_)).trans ?_ | with_reducible refine (State.regs_one_foldl _ _ _ (fun _ _ => ?_)).trans ?_ | with_reducible refine (State.regs_rsvd_foldl _ _ _ (fun _ _ => ?_)).trans ?_ | with_reducible refine (State.regs_waiting_foldl _ _ _ (fun _ _ => ?_)).trans ?_ | with_reducible refine (State.regs_stale_foldl _ _ _ (fun _ _ => ?_)).trans ?_ | with_reducible refine (State.regs_posted_foldl _ _ _ (fun _ _ => ?_)).trans ?_ | with_reducible refine (State.fd_mem_foldl _ _ _ (fun _ _ => ?_)).trans ?_ | with_reducible refine (State.dm_sram_foldl _ _ _ (fun _ _ => ?_)).trans ?_ | with_reducible refine (State.sq_frameNo_foldl _ _ _ (fun _ _ => ?_)).trans ?_ | with_reducible refine (State.sq_inScan_foldl _ _ _ (fun _ _ => ?_)).trans ?_ | with_reducible refine (State.sq_nextBoundary_foldl _ _ _ (fun _ _ => ?_)).trans ?_ | with_reducible refine (State.pw_gate_foldl _ _ _ (fun _ _ => ?_)).trans ?_)))

@[simp] theorem State.joinGroup_parts (s : State) (c : Nat) :
    (s.joinGroup c).regs.setA = s.regs.setA ∧ (s.joinGroup c).regs.setB = s.regs.setB ∧
    (s.joinGroup c).regs.one = s.regs.one ∧ (s.joinGroup c).regs.rsvd = s.regs.rsvd ∧
    (s.joinGroup c).regs.stale = s.regs.stale ∧ (s.joinGroup c).regs.posted = s.regs.posted := by
  and_intros <;> (unfold State.joinGroup; repeat' (first | with_reducible rfl | (simp; done) | split | with_reducible refine (State.regs_setA_foldl _ _ _ (fun _ _ => ?_)).trans ?_ | with_reducible refine (State.regs_setB_foldl _ _ _ (fun _ _ => ?_)).trans ?_ | with_reducible refine (State.regs_one_foldl _ _ _ (fun _ _ => ?_)).trans ?_ | with_reducible refine (State.regs_rsvd_foldl _ _ _ (fun _ _ => ?_)).trans ?_ | with_reducible refine (State.regs_waiting_foldl _ _ _ (fun _ _ => ?_)).trans ?_ | with_reducible refine (State.regs_stale_foldl _ _ _ (fun _ _ => ?_)).trans ?_ | with_reducible refine (State.regs_posted_foldl _ _ _ (fun _ _ => ?_)).trans ?_ | with_reducible refine (State.fd_mem_foldl _ _ _ (fun _ _ => ?_)).trans ?_ | with_reducible refine (State.dm_sram_foldl _ _ _ (fun _ _ => ?_)).trans ?_ | with_reducible refine (State.sq_frameNo_foldl _ _ _ (fun _ _ => ?_)).trans ?_ | with_reducible refine (State.sq_inScan_foldl _ _ _ (fun _ _ => ?_)).trans ?_ | with_reducible refine (State.sq_nextBoundary_foldl _ _ _ (fun _ _ => ?_)).trans ?_ | with_reducible refine (State.pw_gate_foldl _ _ _ (fun _ _ => ?_)).trans ?_ | (dsimp only; first | split | with_reducible refine (State.regs_setA_foldl _ _ _ (fun _ _ => ?_)).trans ?_ | with_reducible refine (State.regs_setB_foldl _ _ _ (fun _ _ => ?_)).trans ?_ | with_reducible refine (State.regs_one_foldl _ _ _ (fun _ _ => ?_)).trans ?_ | with_reducible refine (State.regs_rsvd_foldl _ _ _ (fun _ _ => ?_)).trans ?_ | with_reducible refine (State.regs_waiting_foldl _ _ _ (fun _ _ => ?_)).trans ?_ | with_reducible refine (State.regs_stale_foldl _ _ _ (fun _ _ => ?_)).trans ?_ | with_reducible refine (State.regs_posted_foldl _ _ _ (fun _ _ => ?_)).trans ?_ | with_reducible refine (State.fd_mem_foldl _ _ _ (fun _ _ => ?_)).trans ?_ | with_reducible refine (State.dm_sram_foldl _ _ _ (fun _ _ => ?_)).trans ?_ | with_reducible refine (State.sq_frameNo_foldl _ _ _ (fun _ _ => ?_)).trans ?_ | with_reducible refine (State.sq_inScan_foldl _ _ _ (fun _ _ => ?_)).trans ?_ | with_reducible refine (State.sq_nextBoundary_foldl _ _ _ (fun _ _ => ?_)).trans ?_ | with_reducible refine (State.pw_gate_foldl _ _ _ (fun _ _ => ?_)).trans ?_)))

@[simp] theorem State.looked_parts (s : State) (u a : Nat) :
    (s.looked u a).regs.setA = s.regs.setA ∧ (s.looked u a).regs.setB = s.regs.setB ∧ (s.looked u a).regs.one = s.regs.one ∧
    (s.looked u a).regs.rsvd = s.regs.rsvd ∧ (s.looked u a).regs.stale = s.regs.stale ∧
    (s.looked u a).regs.posted = s.regs.posted := by
  and_intros <;> (unfold State.looked; repeat' (first | with_reducible rfl | (simp; done) | split | with_reducible refine (State.regs_setA_foldl _ _ _ (fun _ _ => ?_)).trans ?_ | with_reducible refine (State.regs_setB_foldl _ _ _ (fun _ _ => ?_)).trans ?_ | with_reducible refine (State.regs_one_foldl _ _ _ (fun _ _ => ?_)).trans ?_ | with_reducible refine (State.regs_rsvd_foldl _ _ _ (fun _ _ => ?_)).trans ?_ | with_reducible refine (State.regs_waiting_foldl _ _ _ (fun _ _ => ?_)).trans ?_ | with_reducible refine (State.regs_stale_foldl _ _ _ (fun _ _ => ?_)).trans ?_ | with_reducible refine (State.regs_posted_foldl _ _ _ (fun _ _ => ?_)).trans ?_ | with_reducible refine (State.fd_mem_foldl _ _ _ (fun _ _ => ?_)).trans ?_ | with_reducible refine (State.dm_sram_foldl _ _ _ (fun _ _ => ?_)).trans ?_ | with_reducible refine (State.sq_frameNo_foldl _ _ _ (fun _ _ => ?_)).trans ?_ | with_reducible refine (State.sq_inScan_foldl _ _ _ (fun _ _ => ?_)).trans ?_ | with_reducible refine (State.sq_nextBoundary_foldl _ _ _ (fun _ _ => ?_)).trans ?_ | with_reducible refine (State.pw_gate_foldl _ _ _ (fun _ _ => ?_)).trans ?_ | (dsimp only; first | split | with_reducible refine (State.regs_setA_foldl _ _ _ (fun _ _ => ?_)).trans ?_ | with_reducible refine (State.regs_setB_foldl _ _ _ (fun _ _ => ?_)).trans ?_ | with_reducible refine (State.regs_one_foldl _ _ _ (fun _ _ => ?_)).trans ?_ | with_reducible refine (State.regs_rsvd_foldl _ _ _ (fun _ _ => ?_)).trans ?_ | with_reducible refine (State.regs_waiting_foldl _ _ _ (fun _ _ => ?_)).trans ?_ | with_reducible refine (State.regs_stale_foldl _ _ _ (fun _ _ => ?_)).trans ?_ | with_reducible refine (State.regs_posted_foldl _ _ _ (fun _ _ => ?_)).trans ?_ | with_reducible refine (State.fd_mem_foldl _ _ _ (fun _ _ => ?_)).trans ?_ | with_reducible refine (State.dm_sram_foldl _ _ _ (fun _ _ => ?_)).trans ?_ | with_reducible refine (State.sq_frameNo_foldl _ _ _ (fun _ _ => ?_)).trans ?_ | with_reducible refine (State.sq_inScan_foldl _ _ _ (fun _ _ => ?_)).trans ?_ | with_reducible refine (State.sq_nextBoundary_foldl _ _ _ (fun _ _ => ?_)).trans ?_ | with_reducible refine (State.pw_gate_foldl _ _ _ (fun _ _ => ?_)).trans ?_)))

@[simp] theorem State.stopFiring_parts (s : State) :
    (s.stopFiring).regs.setA = s.regs.setA ∧ (s.stopFiring).regs.setB = s.regs.setB ∧ (s.stopFiring).regs.one = s.regs.one ∧
    (s.stopFiring).regs.rsvd = s.regs.rsvd ∧ (s.stopFiring).regs.waiting = s.regs.waiting ∧
    (s.stopFiring).regs.stale = s.regs.stale ∧ (s.stopFiring).regs.posted = s.regs.posted ∧
    (s.stopFiring).sq.frameNo = s.sq.frameNo ∧ (s.stopFiring).sq.inScan = s.sq.inScan ∧
    (s.stopFiring).sq.nextBoundary = s.sq.nextBoundary := by
  and_intros <;> (unfold State.stopFiring; repeat' (first | with_reducible rfl | (simp; done) | split | with_reducible refine (State.regs_setA_foldl _ _ _ (fun _ _ => ?_)).trans ?_ | with_reducible refine (State.regs_setB_foldl _ _ _ (fun _ _ => ?_)).trans ?_ | with_reducible refine (State.regs_one_foldl _ _ _ (fun _ _ => ?_)).trans ?_ | with_reducible refine (State.regs_rsvd_foldl _ _ _ (fun _ _ => ?_)).trans ?_ | with_reducible refine (State.regs_waiting_foldl _ _ _ (fun _ _ => ?_)).trans ?_ | with_reducible refine (State.regs_stale_foldl _ _ _ (fun _ _ => ?_)).trans ?_ | with_reducible refine (State.regs_posted_foldl _ _ _ (fun _ _ => ?_)).trans ?_ | with_reducible refine (State.fd_mem_foldl _ _ _ (fun _ _ => ?_)).trans ?_ | with_reducible refine (State.dm_sram_foldl _ _ _ (fun _ _ => ?_)).trans ?_ | with_reducible refine (State.sq_frameNo_foldl _ _ _ (fun _ _ => ?_)).trans ?_ | with_reducible refine (State.sq_inScan_foldl _ _ _ (fun _ _ => ?_)).trans ?_ | with_reducible refine (State.sq_nextBoundary_foldl _ _ _ (fun _ _ => ?_)).trans ?_ | with_reducible refine (State.pw_gate_foldl _ _ _ (fun _ _ => ?_)).trans ?_ | (dsimp only; first | split | with_reducible refine (State.regs_setA_foldl _ _ _ (fun _ _ => ?_)).trans ?_ | with_reducible refine (State.regs_setB_foldl _ _ _ (fun _ _ => ?_)).trans ?_ | with_reducible refine (State.regs_one_foldl _ _ _ (fun _ _ => ?_)).trans ?_ | with_reducible refine (State.regs_rsvd_foldl _ _ _ (fun _ _ => ?_)).trans ?_ | with_reducible refine (State.regs_waiting_foldl _ _ _ (fun _ _ => ?_)).trans ?_ | with_reducible refine (State.regs_stale_foldl _ _ _ (fun _ _ => ?_)).trans ?_ | with_reducible refine (State.regs_posted_foldl _ _ _ (fun _ _ => ?_)).trans ?_ | with_reducible refine (State.fd_mem_foldl _ _ _ (fun _ _ => ?_)).trans ?_ | with_reducible refine (State.dm_sram_foldl _ _ _ (fun _ _ => ?_)).trans ?_ | with_reducible refine (State.sq_frameNo_foldl _ _ _ (fun _ _ => ?_)).trans ?_ | with_reducible refine (State.sq_inScan_foldl _ _ _ (fun _ _ => ?_)).trans ?_ | with_reducible refine (State.sq_nextBoundary_foldl _ _ _ (fun _ _ => ?_)).trans ?_ | with_reducible refine (State.pw_gate_foldl _ _ _ (fun _ _ => ?_)).trans ?_)))

@[simp] theorem State.haltFiring_parts (s : State) :
    (s.haltFiring).regs.setA = s.regs.setA ∧ (s.haltFiring).regs.setB = s.regs.setB ∧ (s.haltFiring).regs.one = s.regs.one ∧
    (s.haltFiring).regs.rsvd = s.regs.rsvd ∧ (s.haltFiring).regs.waiting = s.regs.waiting ∧
    (s.haltFiring).regs.stale = s.regs.stale ∧ (s.haltFiring).regs.posted = s.regs.posted ∧
    (s.haltFiring).sq.frameNo = s.sq.frameNo ∧ (s.haltFiring).sq.inScan = s.sq.inScan ∧
    (s.haltFiring).sq.nextBoundary = s.sq.nextBoundary := by
  and_intros <;> (unfold State.haltFiring; repeat' (first | with_reducible rfl | (simp; done) | split | with_reducible refine (State.regs_setA_foldl _ _ _ (fun _ _ => ?_)).trans ?_ | with_reducible refine (State.regs_setB_foldl _ _ _ (fun _ _ => ?_)).trans ?_ | with_reducible refine (State.regs_one_foldl _ _ _ (fun _ _ => ?_)).trans ?_ | with_reducible refine (State.regs_rsvd_foldl _ _ _ (fun _ _ => ?_)).trans ?_ | with_reducible refine (State.regs_waiting_foldl _ _ _ (fun _ _ => ?_)).trans ?_ | with_reducible refine (State.regs_stale_foldl _ _ _ (fun _ _ => ?_)).trans ?_ | with_reducible refine (State.regs_posted_foldl _ _ _ (fun _ _ => ?_)).trans ?_ | with_reducible refine (State.fd_mem_foldl _ _ _ (fun _ _ => ?_)).trans ?_ | with_reducible refine (State.dm_sram_foldl _ _ _ (fun _ _ => ?_)).trans ?_ | with_reducible refine (State.sq_frameNo_foldl _ _ _ (fun _ _ => ?_)).trans ?_ | with_reducible refine (State.sq_inScan_foldl _ _ _ (fun _ _ => ?_)).trans ?_ | with_reducible refine (State.sq_nextBoundary_foldl _ _ _ (fun _ _ => ?_)).trans ?_ | with_reducible refine (State.pw_gate_foldl _ _ _ (fun _ _ => ?_)).trans ?_ | (dsimp only; first | split | with_reducible refine (State.regs_setA_foldl _ _ _ (fun _ _ => ?_)).trans ?_ | with_reducible refine (State.regs_setB_foldl _ _ _ (fun _ _ => ?_)).trans ?_ | with_reducible refine (State.regs_one_foldl _ _ _ (fun _ _ => ?_)).trans ?_ | with_reducible refine (State.regs_rsvd_foldl _ _ _ (fun _ _ => ?_)).trans ?_ | with_reducible refine (State.regs_waiting_foldl _ _ _ (fun _ _ => ?_)).trans ?_ | with_reducible refine (State.regs_stale_foldl _ _ _ (fun _ _ => ?_)).trans ?_ | with_reducible refine (State.regs_posted_foldl _ _ _ (fun _ _ => ?_)).trans ?_ | with_reducible refine (State.fd_mem_foldl _ _ _ (fun _ _ => ?_)).trans ?_ | with_reducible refine (State.dm_sram_foldl _ _ _ (fun _ _ => ?_)).trans ?_ | with_reducible refine (State.sq_frameNo_foldl _ _ _ (fun _ _ => ?_)).trans ?_ | with_reducible refine (State.sq_inScan_foldl _ _ _ (fun _ _ => ?_)).trans ?_ | with_reducible refine (State.sq_nextBoundary_foldl _ _ _ (fun _ _ => ?_)).trans ?_ | with_reducible refine (State.pw_gate_foldl _ _ _ (fun _ _ => ?_)).trans ?_)))

@[simp] theorem State.shutFiring_parts (s : State) :
    (s.shutFiring).regs.setA = s.regs.setA ∧ (s.shutFiring).regs.setB = s.regs.setB ∧ (s.shutFiring).regs.one = s.regs.one ∧
    (s.shutFiring).regs.rsvd = s.regs.rsvd ∧ (s.shutFiring).regs.waiting = s.regs.waiting ∧
    (s.shutFiring).regs.stale = s.regs.stale ∧ (s.shutFiring).regs.posted = s.regs.posted ∧
    (s.shutFiring).sq.frameNo = s.sq.frameNo ∧ (s.shutFiring).sq.inScan = s.sq.inScan ∧
    (s.shutFiring).sq.nextBoundary = s.sq.nextBoundary := by
  and_intros <;> (unfold State.shutFiring; repeat' (first | with_reducible rfl | (simp; done) | split | with_reducible refine (State.regs_setA_foldl _ _ _ (fun _ _ => ?_)).trans ?_ | with_reducible refine (State.regs_setB_foldl _ _ _ (fun _ _ => ?_)).trans ?_ | with_reducible refine (State.regs_one_foldl _ _ _ (fun _ _ => ?_)).trans ?_ | with_reducible refine (State.regs_rsvd_foldl _ _ _ (fun _ _ => ?_)).trans ?_ | with_reducible refine (State.regs_waiting_foldl _ _ _ (fun _ _ => ?_)).trans ?_ | with_reducible refine (State.regs_stale_foldl _ _ _ (fun _ _ => ?_)).trans ?_ | with_reducible refine (State.regs_posted_foldl _ _ _ (fun _ _ => ?_)).trans ?_ | with_reducible refine (State.fd_mem_foldl _ _ _ (fun _ _ => ?_)).trans ?_ | with_reducible refine (State.dm_sram_foldl _ _ _ (fun _ _ => ?_)).trans ?_ | with_reducible refine (State.sq_frameNo_foldl _ _ _ (fun _ _ => ?_)).trans ?_ | with_reducible refine (State.sq_inScan_foldl _ _ _ (fun _ _ => ?_)).trans ?_ | with_reducible refine (State.sq_nextBoundary_foldl _ _ _ (fun _ _ => ?_)).trans ?_ | with_reducible refine (State.pw_gate_foldl _ _ _ (fun _ _ => ?_)).trans ?_ | (dsimp only; first | split | with_reducible refine (State.regs_setA_foldl _ _ _ (fun _ _ => ?_)).trans ?_ | with_reducible refine (State.regs_setB_foldl _ _ _ (fun _ _ => ?_)).trans ?_ | with_reducible refine (State.regs_one_foldl _ _ _ (fun _ _ => ?_)).trans ?_ | with_reducible refine (State.regs_rsvd_foldl _ _ _ (fun _ _ => ?_)).trans ?_ | with_reducible refine (State.regs_waiting_foldl _ _ _ (fun _ _ => ?_)).trans ?_ | with_reducible refine (State.regs_stale_foldl _ _ _ (fun _ _ => ?_)).trans ?_ | with_reducible refine (State.regs_posted_foldl _ _ _ (fun _ _ => ?_)).trans ?_ | with_reducible refine (State.fd_mem_foldl _ _ _ (fun _ _ => ?_)).trans ?_ | with_reducible refine (State.dm_sram_foldl _ _ _ (fun _ _ => ?_)).trans ?_ | with_reducible refine (State.sq_frameNo_foldl _ _ _ (fun _ _ => ?_)).trans ?_ | with_reducible refine (State.sq_inScan_foldl _ _ _ (fun _ _ => ?_)).trans ?_ | with_reducible refine (State.sq_nextBoundary_foldl _ _ _ (fun _ _ => ?_)).trans ?_ | with_reducible refine (State.pw_gate_foldl _ _ _ (fun _ _ => ?_)).trans ?_)))

@[simp] theorem State.cfMismatch_parts (s : State) :
    (s.cfMismatch).regs.setA = s.regs.setA ∧ (s.cfMismatch).regs.setB = s.regs.setB ∧ (s.cfMismatch).regs.one = s.regs.one ∧
    (s.cfMismatch).regs.rsvd = s.regs.rsvd ∧ (s.cfMismatch).regs.waiting = s.regs.waiting ∧
    (s.cfMismatch).regs.stale = s.regs.stale ∧ (s.cfMismatch).regs.posted = s.regs.posted ∧
    (s.cfMismatch).sq.frameNo = s.sq.frameNo ∧ (s.cfMismatch).sq.inScan = s.sq.inScan ∧
    (s.cfMismatch).sq.nextBoundary = s.sq.nextBoundary := by
  and_intros <;> (unfold State.cfMismatch; repeat' (first | with_reducible rfl | (simp; done) | split | with_reducible refine (State.regs_setA_foldl _ _ _ (fun _ _ => ?_)).trans ?_ | with_reducible refine (State.regs_setB_foldl _ _ _ (fun _ _ => ?_)).trans ?_ | with_reducible refine (State.regs_one_foldl _ _ _ (fun _ _ => ?_)).trans ?_ | with_reducible refine (State.regs_rsvd_foldl _ _ _ (fun _ _ => ?_)).trans ?_ | with_reducible refine (State.regs_waiting_foldl _ _ _ (fun _ _ => ?_)).trans ?_ | with_reducible refine (State.regs_stale_foldl _ _ _ (fun _ _ => ?_)).trans ?_ | with_reducible refine (State.regs_posted_foldl _ _ _ (fun _ _ => ?_)).trans ?_ | with_reducible refine (State.fd_mem_foldl _ _ _ (fun _ _ => ?_)).trans ?_ | with_reducible refine (State.dm_sram_foldl _ _ _ (fun _ _ => ?_)).trans ?_ | with_reducible refine (State.sq_frameNo_foldl _ _ _ (fun _ _ => ?_)).trans ?_ | with_reducible refine (State.sq_inScan_foldl _ _ _ (fun _ _ => ?_)).trans ?_ | with_reducible refine (State.sq_nextBoundary_foldl _ _ _ (fun _ _ => ?_)).trans ?_ | with_reducible refine (State.pw_gate_foldl _ _ _ (fun _ _ => ?_)).trans ?_ | (dsimp only; first | split | with_reducible refine (State.regs_setA_foldl _ _ _ (fun _ _ => ?_)).trans ?_ | with_reducible refine (State.regs_setB_foldl _ _ _ (fun _ _ => ?_)).trans ?_ | with_reducible refine (State.regs_one_foldl _ _ _ (fun _ _ => ?_)).trans ?_ | with_reducible refine (State.regs_rsvd_foldl _ _ _ (fun _ _ => ?_)).trans ?_ | with_reducible refine (State.regs_waiting_foldl _ _ _ (fun _ _ => ?_)).trans ?_ | with_reducible refine (State.regs_stale_foldl _ _ _ (fun _ _ => ?_)).trans ?_ | with_reducible refine (State.regs_posted_foldl _ _ _ (fun _ _ => ?_)).trans ?_ | with_reducible refine (State.fd_mem_foldl _ _ _ (fun _ _ => ?_)).trans ?_ | with_reducible refine (State.dm_sram_foldl _ _ _ (fun _ _ => ?_)).trans ?_ | with_reducible refine (State.sq_frameNo_foldl _ _ _ (fun _ _ => ?_)).trans ?_ | with_reducible refine (State.sq_inScan_foldl _ _ _ (fun _ _ => ?_)).trans ?_ | with_reducible refine (State.sq_nextBoundary_foldl _ _ _ (fun _ _ => ?_)).trans ?_ | with_reducible refine (State.pw_gate_foldl _ _ _ (fun _ _ => ?_)).trans ?_)))

@[simp] theorem State.setAct_parts (s : State) (a : Nat) (v : Score) :
    (s.setAct a v).regs.one = s.regs.one ∧ (s.setAct a v).regs.rsvd = s.regs.rsvd ∧
    (s.setAct a v).regs.waiting = s.regs.waiting ∧ (s.setAct a v).regs.stale = s.regs.stale ∧
    (s.setAct a v).regs.posted = s.regs.posted := by
  and_intros <;> (unfold State.setAct; repeat' (first | with_reducible rfl | (simp; done) | split | with_reducible refine (State.regs_setA_foldl _ _ _ (fun _ _ => ?_)).trans ?_ | with_reducible refine (State.regs_setB_foldl _ _ _ (fun _ _ => ?_)).trans ?_ | with_reducible refine (State.regs_one_foldl _ _ _ (fun _ _ => ?_)).trans ?_ | with_reducible refine (State.regs_rsvd_foldl _ _ _ (fun _ _ => ?_)).trans ?_ | with_reducible refine (State.regs_waiting_foldl _ _ _ (fun _ _ => ?_)).trans ?_ | with_reducible refine (State.regs_stale_foldl _ _ _ (fun _ _ => ?_)).trans ?_ | with_reducible refine (State.regs_posted_foldl _ _ _ (fun _ _ => ?_)).trans ?_ | with_reducible refine (State.fd_mem_foldl _ _ _ (fun _ _ => ?_)).trans ?_ | with_reducible refine (State.dm_sram_foldl _ _ _ (fun _ _ => ?_)).trans ?_ | with_reducible refine (State.sq_frameNo_foldl _ _ _ (fun _ _ => ?_)).trans ?_ | with_reducible refine (State.sq_inScan_foldl _ _ _ (fun _ _ => ?_)).trans ?_ | with_reducible refine (State.sq_nextBoundary_foldl _ _ _ (fun _ _ => ?_)).trans ?_ | with_reducible refine (State.pw_gate_foldl _ _ _ (fun _ _ => ?_)).trans ?_ | (dsimp only; first | split | with_reducible refine (State.regs_setA_foldl _ _ _ (fun _ _ => ?_)).trans ?_ | with_reducible refine (State.regs_setB_foldl _ _ _ (fun _ _ => ?_)).trans ?_ | with_reducible refine (State.regs_one_foldl _ _ _ (fun _ _ => ?_)).trans ?_ | with_reducible refine (State.regs_rsvd_foldl _ _ _ (fun _ _ => ?_)).trans ?_ | with_reducible refine (State.regs_waiting_foldl _ _ _ (fun _ _ => ?_)).trans ?_ | with_reducible refine (State.regs_stale_foldl _ _ _ (fun _ _ => ?_)).trans ?_ | with_reducible refine (State.regs_posted_foldl _ _ _ (fun _ _ => ?_)).trans ?_ | with_reducible refine (State.fd_mem_foldl _ _ _ (fun _ _ => ?_)).trans ?_ | with_reducible refine (State.dm_sram_foldl _ _ _ (fun _ _ => ?_)).trans ?_ | with_reducible refine (State.sq_frameNo_foldl _ _ _ (fun _ _ => ?_)).trans ?_ | with_reducible refine (State.sq_inScan_foldl _ _ _ (fun _ _ => ?_)).trans ?_ | with_reducible refine (State.sq_nextBoundary_foldl _ _ _ (fun _ _ => ?_)).trans ?_ | with_reducible refine (State.pw_gate_foldl _ _ _ (fun _ _ => ?_)).trans ?_)))

@[simp] theorem State.takeEffect_parts (s : State) (w : LiveWrite) :
    (s.takeEffect w).regs.one = s.regs.one ∧ (s.takeEffect w).regs.rsvd = s.regs.rsvd ∧
    (s.takeEffect w).regs.waiting = s.regs.waiting ∧ (s.takeEffect w).regs.stale = s.regs.stale ∧
    (s.takeEffect w).regs.posted = s.regs.posted ∧ (s.takeEffect w).sq.frameNo = s.sq.frameNo ∧
    (s.takeEffect w).sq.inScan = s.sq.inScan ∧ (s.takeEffect w).sq.nextBoundary = s.sq.nextBoundary := by
  and_intros <;> (unfold State.takeEffect; repeat' (first | with_reducible rfl | (simp; done) | split | with_reducible refine (State.regs_setA_foldl _ _ _ (fun _ _ => ?_)).trans ?_ | with_reducible refine (State.regs_setB_foldl _ _ _ (fun _ _ => ?_)).trans ?_ | with_reducible refine (State.regs_one_foldl _ _ _ (fun _ _ => ?_)).trans ?_ | with_reducible refine (State.regs_rsvd_foldl _ _ _ (fun _ _ => ?_)).trans ?_ | with_reducible refine (State.regs_waiting_foldl _ _ _ (fun _ _ => ?_)).trans ?_ | with_reducible refine (State.regs_stale_foldl _ _ _ (fun _ _ => ?_)).trans ?_ | with_reducible refine (State.regs_posted_foldl _ _ _ (fun _ _ => ?_)).trans ?_ | with_reducible refine (State.fd_mem_foldl _ _ _ (fun _ _ => ?_)).trans ?_ | with_reducible refine (State.dm_sram_foldl _ _ _ (fun _ _ => ?_)).trans ?_ | with_reducible refine (State.sq_frameNo_foldl _ _ _ (fun _ _ => ?_)).trans ?_ | with_reducible refine (State.sq_inScan_foldl _ _ _ (fun _ _ => ?_)).trans ?_ | with_reducible refine (State.sq_nextBoundary_foldl _ _ _ (fun _ _ => ?_)).trans ?_ | with_reducible refine (State.pw_gate_foldl _ _ _ (fun _ _ => ?_)).trans ?_ | (dsimp only; first | split | with_reducible refine (State.regs_setA_foldl _ _ _ (fun _ _ => ?_)).trans ?_ | with_reducible refine (State.regs_setB_foldl _ _ _ (fun _ _ => ?_)).trans ?_ | with_reducible refine (State.regs_one_foldl _ _ _ (fun _ _ => ?_)).trans ?_ | with_reducible refine (State.regs_rsvd_foldl _ _ _ (fun _ _ => ?_)).trans ?_ | with_reducible refine (State.regs_waiting_foldl _ _ _ (fun _ _ => ?_)).trans ?_ | with_reducible refine (State.regs_stale_foldl _ _ _ (fun _ _ => ?_)).trans ?_ | with_reducible refine (State.regs_posted_foldl _ _ _ (fun _ _ => ?_)).trans ?_ | with_reducible refine (State.fd_mem_foldl _ _ _ (fun _ _ => ?_)).trans ?_ | with_reducible refine (State.dm_sram_foldl _ _ _ (fun _ _ => ?_)).trans ?_ | with_reducible refine (State.sq_frameNo_foldl _ _ _ (fun _ _ => ?_)).trans ?_ | with_reducible refine (State.sq_inScan_foldl _ _ _ (fun _ _ => ?_)).trans ?_ | with_reducible refine (State.sq_nextBoundary_foldl _ _ _ (fun _ _ => ?_)).trans ?_ | with_reducible refine (State.pw_gate_foldl _ _ _ (fun _ _ => ?_)).trans ?_)))

@[simp] theorem State.applyOn_parts (s : State) (ok : LiveWrite → Bool) (p : Nat → Nat → Bool) :
    (s.applyOn ok p).regs.one = s.regs.one ∧ (s.applyOn ok p).regs.rsvd = s.regs.rsvd ∧
    (s.applyOn ok p).regs.posted = s.regs.posted ∧ (s.applyOn ok p).sq.frameNo = s.sq.frameNo ∧
    (s.applyOn ok p).sq.inScan = s.sq.inScan ∧ (s.applyOn ok p).sq.nextBoundary = s.sq.nextBoundary := by
  and_intros <;> (unfold State.applyOn; repeat' (first | with_reducible rfl | (simp; done) | split | with_reducible refine (State.regs_setA_foldl _ _ _ (fun _ _ => ?_)).trans ?_ | with_reducible refine (State.regs_setB_foldl _ _ _ (fun _ _ => ?_)).trans ?_ | with_reducible refine (State.regs_one_foldl _ _ _ (fun _ _ => ?_)).trans ?_ | with_reducible refine (State.regs_rsvd_foldl _ _ _ (fun _ _ => ?_)).trans ?_ | with_reducible refine (State.regs_waiting_foldl _ _ _ (fun _ _ => ?_)).trans ?_ | with_reducible refine (State.regs_stale_foldl _ _ _ (fun _ _ => ?_)).trans ?_ | with_reducible refine (State.regs_posted_foldl _ _ _ (fun _ _ => ?_)).trans ?_ | with_reducible refine (State.fd_mem_foldl _ _ _ (fun _ _ => ?_)).trans ?_ | with_reducible refine (State.dm_sram_foldl _ _ _ (fun _ _ => ?_)).trans ?_ | with_reducible refine (State.sq_frameNo_foldl _ _ _ (fun _ _ => ?_)).trans ?_ | with_reducible refine (State.sq_inScan_foldl _ _ _ (fun _ _ => ?_)).trans ?_ | with_reducible refine (State.sq_nextBoundary_foldl _ _ _ (fun _ _ => ?_)).trans ?_ | with_reducible refine (State.pw_gate_foldl _ _ _ (fun _ _ => ?_)).trans ?_ | (dsimp only; first | split | with_reducible refine (State.regs_setA_foldl _ _ _ (fun _ _ => ?_)).trans ?_ | with_reducible refine (State.regs_setB_foldl _ _ _ (fun _ _ => ?_)).trans ?_ | with_reducible refine (State.regs_one_foldl _ _ _ (fun _ _ => ?_)).trans ?_ | with_reducible refine (State.regs_rsvd_foldl _ _ _ (fun _ _ => ?_)).trans ?_ | with_reducible refine (State.regs_waiting_foldl _ _ _ (fun _ _ => ?_)).trans ?_ | with_reducible refine (State.regs_stale_foldl _ _ _ (fun _ _ => ?_)).trans ?_ | with_reducible refine (State.regs_posted_foldl _ _ _ (fun _ _ => ?_)).trans ?_ | with_reducible refine (State.fd_mem_foldl _ _ _ (fun _ _ => ?_)).trans ?_ | with_reducible refine (State.dm_sram_foldl _ _ _ (fun _ _ => ?_)).trans ?_ | with_reducible refine (State.sq_frameNo_foldl _ _ _ (fun _ _ => ?_)).trans ?_ | with_reducible refine (State.sq_inScan_foldl _ _ _ (fun _ _ => ?_)).trans ?_ | with_reducible refine (State.sq_nextBoundary_foldl _ _ _ (fun _ _ => ?_)).trans ?_ | with_reducible refine (State.pw_gate_foldl _ _ _ (fun _ _ => ?_)).trans ?_)))

@[simp] theorem State.applyAt_parts (s : State) (p : Nat → Nat → Bool) :
    (s.applyAt p).regs.one = s.regs.one ∧ (s.applyAt p).regs.rsvd = s.regs.rsvd ∧ (s.applyAt p).regs.posted = s.regs.posted ∧
    (s.applyAt p).sq.frameNo = s.sq.frameNo ∧ (s.applyAt p).sq.inScan = s.sq.inScan ∧
    (s.applyAt p).sq.nextBoundary = s.sq.nextBoundary := by
  and_intros <;> (unfold State.applyAt; repeat' (first | with_reducible rfl | (simp; done) | split | with_reducible refine (State.regs_setA_foldl _ _ _ (fun _ _ => ?_)).trans ?_ | with_reducible refine (State.regs_setB_foldl _ _ _ (fun _ _ => ?_)).trans ?_ | with_reducible refine (State.regs_one_foldl _ _ _ (fun _ _ => ?_)).trans ?_ | with_reducible refine (State.regs_rsvd_foldl _ _ _ (fun _ _ => ?_)).trans ?_ | with_reducible refine (State.regs_waiting_foldl _ _ _ (fun _ _ => ?_)).trans ?_ | with_reducible refine (State.regs_stale_foldl _ _ _ (fun _ _ => ?_)).trans ?_ | with_reducible refine (State.regs_posted_foldl _ _ _ (fun _ _ => ?_)).trans ?_ | with_reducible refine (State.fd_mem_foldl _ _ _ (fun _ _ => ?_)).trans ?_ | with_reducible refine (State.dm_sram_foldl _ _ _ (fun _ _ => ?_)).trans ?_ | with_reducible refine (State.sq_frameNo_foldl _ _ _ (fun _ _ => ?_)).trans ?_ | with_reducible refine (State.sq_inScan_foldl _ _ _ (fun _ _ => ?_)).trans ?_ | with_reducible refine (State.sq_nextBoundary_foldl _ _ _ (fun _ _ => ?_)).trans ?_ | with_reducible refine (State.pw_gate_foldl _ _ _ (fun _ _ => ?_)).trans ?_ | (dsimp only; first | split | with_reducible refine (State.regs_setA_foldl _ _ _ (fun _ _ => ?_)).trans ?_ | with_reducible refine (State.regs_setB_foldl _ _ _ (fun _ _ => ?_)).trans ?_ | with_reducible refine (State.regs_one_foldl _ _ _ (fun _ _ => ?_)).trans ?_ | with_reducible refine (State.regs_rsvd_foldl _ _ _ (fun _ _ => ?_)).trans ?_ | with_reducible refine (State.regs_waiting_foldl _ _ _ (fun _ _ => ?_)).trans ?_ | with_reducible refine (State.regs_stale_foldl _ _ _ (fun _ _ => ?_)).trans ?_ | with_reducible refine (State.regs_posted_foldl _ _ _ (fun _ _ => ?_)).trans ?_ | with_reducible refine (State.fd_mem_foldl _ _ _ (fun _ _ => ?_)).trans ?_ | with_reducible refine (State.dm_sram_foldl _ _ _ (fun _ _ => ?_)).trans ?_ | with_reducible refine (State.sq_frameNo_foldl _ _ _ (fun _ _ => ?_)).trans ?_ | with_reducible refine (State.sq_inScan_foldl _ _ _ (fun _ _ => ?_)).trans ?_ | with_reducible refine (State.sq_nextBoundary_foldl _ _ _ (fun _ _ => ?_)).trans ?_ | with_reducible refine (State.pw_gate_foldl _ _ _ (fun _ _ => ?_)).trans ?_)))

@[simp] theorem State.applyNow_parts (s : State) (p : Nat → Nat → Bool) :
    (s.applyNow p).regs.one = s.regs.one ∧ (s.applyNow p).regs.rsvd = s.regs.rsvd ∧
    (s.applyNow p).regs.posted = s.regs.posted ∧ (s.applyNow p).sq.frameNo = s.sq.frameNo ∧
    (s.applyNow p).sq.inScan = s.sq.inScan ∧ (s.applyNow p).sq.nextBoundary = s.sq.nextBoundary := by
  and_intros <;> (unfold State.applyNow; repeat' (first | with_reducible rfl | (simp; done) | split | with_reducible refine (State.regs_setA_foldl _ _ _ (fun _ _ => ?_)).trans ?_ | with_reducible refine (State.regs_setB_foldl _ _ _ (fun _ _ => ?_)).trans ?_ | with_reducible refine (State.regs_one_foldl _ _ _ (fun _ _ => ?_)).trans ?_ | with_reducible refine (State.regs_rsvd_foldl _ _ _ (fun _ _ => ?_)).trans ?_ | with_reducible refine (State.regs_waiting_foldl _ _ _ (fun _ _ => ?_)).trans ?_ | with_reducible refine (State.regs_stale_foldl _ _ _ (fun _ _ => ?_)).trans ?_ | with_reducible refine (State.regs_posted_foldl _ _ _ (fun _ _ => ?_)).trans ?_ | with_reducible refine (State.fd_mem_foldl _ _ _ (fun _ _ => ?_)).trans ?_ | with_reducible refine (State.dm_sram_foldl _ _ _ (fun _ _ => ?_)).trans ?_ | with_reducible refine (State.sq_frameNo_foldl _ _ _ (fun _ _ => ?_)).trans ?_ | with_reducible refine (State.sq_inScan_foldl _ _ _ (fun _ _ => ?_)).trans ?_ | with_reducible refine (State.sq_nextBoundary_foldl _ _ _ (fun _ _ => ?_)).trans ?_ | with_reducible refine (State.pw_gate_foldl _ _ _ (fun _ _ => ?_)).trans ?_ | (dsimp only; first | split | with_reducible refine (State.regs_setA_foldl _ _ _ (fun _ _ => ?_)).trans ?_ | with_reducible refine (State.regs_setB_foldl _ _ _ (fun _ _ => ?_)).trans ?_ | with_reducible refine (State.regs_one_foldl _ _ _ (fun _ _ => ?_)).trans ?_ | with_reducible refine (State.regs_rsvd_foldl _ _ _ (fun _ _ => ?_)).trans ?_ | with_reducible refine (State.regs_waiting_foldl _ _ _ (fun _ _ => ?_)).trans ?_ | with_reducible refine (State.regs_stale_foldl _ _ _ (fun _ _ => ?_)).trans ?_ | with_reducible refine (State.regs_posted_foldl _ _ _ (fun _ _ => ?_)).trans ?_ | with_reducible refine (State.fd_mem_foldl _ _ _ (fun _ _ => ?_)).trans ?_ | with_reducible refine (State.dm_sram_foldl _ _ _ (fun _ _ => ?_)).trans ?_ | with_reducible refine (State.sq_frameNo_foldl _ _ _ (fun _ _ => ?_)).trans ?_ | with_reducible refine (State.sq_inScan_foldl _ _ _ (fun _ _ => ?_)).trans ?_ | with_reducible refine (State.sq_nextBoundary_foldl _ _ _ (fun _ _ => ?_)).trans ?_ | with_reducible refine (State.pw_gate_foldl _ _ _ (fun _ _ => ?_)).trans ?_)))

@[simp] theorem State.applyLater_parts (s : State) (lsb : Nat) (p : Nat → Bool) :
    (s.applyLater lsb p).regs.one = s.regs.one ∧ (s.applyLater lsb p).regs.rsvd = s.regs.rsvd ∧
    (s.applyLater lsb p).regs.posted = s.regs.posted ∧ (s.applyLater lsb p).sq.frameNo = s.sq.frameNo ∧
    (s.applyLater lsb p).sq.inScan = s.sq.inScan ∧ (s.applyLater lsb p).sq.nextBoundary = s.sq.nextBoundary := by
  and_intros <;> (unfold State.applyLater; repeat' (first | with_reducible rfl | (simp; done) | split | with_reducible refine (State.regs_setA_foldl _ _ _ (fun _ _ => ?_)).trans ?_ | with_reducible refine (State.regs_setB_foldl _ _ _ (fun _ _ => ?_)).trans ?_ | with_reducible refine (State.regs_one_foldl _ _ _ (fun _ _ => ?_)).trans ?_ | with_reducible refine (State.regs_rsvd_foldl _ _ _ (fun _ _ => ?_)).trans ?_ | with_reducible refine (State.regs_waiting_foldl _ _ _ (fun _ _ => ?_)).trans ?_ | with_reducible refine (State.regs_stale_foldl _ _ _ (fun _ _ => ?_)).trans ?_ | with_reducible refine (State.regs_posted_foldl _ _ _ (fun _ _ => ?_)).trans ?_ | with_reducible refine (State.fd_mem_foldl _ _ _ (fun _ _ => ?_)).trans ?_ | with_reducible refine (State.dm_sram_foldl _ _ _ (fun _ _ => ?_)).trans ?_ | with_reducible refine (State.sq_frameNo_foldl _ _ _ (fun _ _ => ?_)).trans ?_ | with_reducible refine (State.sq_inScan_foldl _ _ _ (fun _ _ => ?_)).trans ?_ | with_reducible refine (State.sq_nextBoundary_foldl _ _ _ (fun _ _ => ?_)).trans ?_ | with_reducible refine (State.pw_gate_foldl _ _ _ (fun _ _ => ?_)).trans ?_ | (dsimp only; first | split | with_reducible refine (State.regs_setA_foldl _ _ _ (fun _ _ => ?_)).trans ?_ | with_reducible refine (State.regs_setB_foldl _ _ _ (fun _ _ => ?_)).trans ?_ | with_reducible refine (State.regs_one_foldl _ _ _ (fun _ _ => ?_)).trans ?_ | with_reducible refine (State.regs_rsvd_foldl _ _ _ (fun _ _ => ?_)).trans ?_ | with_reducible refine (State.regs_waiting_foldl _ _ _ (fun _ _ => ?_)).trans ?_ | with_reducible refine (State.regs_stale_foldl _ _ _ (fun _ _ => ?_)).trans ?_ | with_reducible refine (State.regs_posted_foldl _ _ _ (fun _ _ => ?_)).trans ?_ | with_reducible refine (State.fd_mem_foldl _ _ _ (fun _ _ => ?_)).trans ?_ | with_reducible refine (State.dm_sram_foldl _ _ _ (fun _ _ => ?_)).trans ?_ | with_reducible refine (State.sq_frameNo_foldl _ _ _ (fun _ _ => ?_)).trans ?_ | with_reducible refine (State.sq_inScan_foldl _ _ _ (fun _ _ => ?_)).trans ?_ | with_reducible refine (State.sq_nextBoundary_foldl _ _ _ (fun _ _ => ?_)).trans ?_ | with_reducible refine (State.pw_gate_foldl _ _ _ (fun _ _ => ?_)).trans ?_)))

@[simp] theorem State.rampStep_parts (s : State) (chan : Nat) :
    (s.rampStep chan).regs.setA = s.regs.setA ∧ (s.rampStep chan).regs.setB = s.regs.setB ∧
    (s.rampStep chan).regs.one = s.regs.one ∧ (s.rampStep chan).regs.rsvd = s.regs.rsvd ∧
    (s.rampStep chan).regs.waiting = s.regs.waiting ∧ (s.rampStep chan).regs.stale = s.regs.stale ∧
    (s.rampStep chan).regs.posted = s.regs.posted := by
  and_intros <;> (unfold State.rampStep; repeat' (first | with_reducible rfl | (simp; done) | split | with_reducible refine (State.regs_setA_foldl _ _ _ (fun _ _ => ?_)).trans ?_ | with_reducible refine (State.regs_setB_foldl _ _ _ (fun _ _ => ?_)).trans ?_ | with_reducible refine (State.regs_one_foldl _ _ _ (fun _ _ => ?_)).trans ?_ | with_reducible refine (State.regs_rsvd_foldl _ _ _ (fun _ _ => ?_)).trans ?_ | with_reducible refine (State.regs_waiting_foldl _ _ _ (fun _ _ => ?_)).trans ?_ | with_reducible refine (State.regs_stale_foldl _ _ _ (fun _ _ => ?_)).trans ?_ | with_reducible refine (State.regs_posted_foldl _ _ _ (fun _ _ => ?_)).trans ?_ | with_reducible refine (State.fd_mem_foldl _ _ _ (fun _ _ => ?_)).trans ?_ | with_reducible refine (State.dm_sram_foldl _ _ _ (fun _ _ => ?_)).trans ?_ | with_reducible refine (State.sq_frameNo_foldl _ _ _ (fun _ _ => ?_)).trans ?_ | with_reducible refine (State.sq_inScan_foldl _ _ _ (fun _ _ => ?_)).trans ?_ | with_reducible refine (State.sq_nextBoundary_foldl _ _ _ (fun _ _ => ?_)).trans ?_ | with_reducible refine (State.pw_gate_foldl _ _ _ (fun _ _ => ?_)).trans ?_ | (dsimp only; first | split | with_reducible refine (State.regs_setA_foldl _ _ _ (fun _ _ => ?_)).trans ?_ | with_reducible refine (State.regs_setB_foldl _ _ _ (fun _ _ => ?_)).trans ?_ | with_reducible refine (State.regs_one_foldl _ _ _ (fun _ _ => ?_)).trans ?_ | with_reducible refine (State.regs_rsvd_foldl _ _ _ (fun _ _ => ?_)).trans ?_ | with_reducible refine (State.regs_waiting_foldl _ _ _ (fun _ _ => ?_)).trans ?_ | with_reducible refine (State.regs_stale_foldl _ _ _ (fun _ _ => ?_)).trans ?_ | with_reducible refine (State.regs_posted_foldl _ _ _ (fun _ _ => ?_)).trans ?_ | with_reducible refine (State.fd_mem_foldl _ _ _ (fun _ _ => ?_)).trans ?_ | with_reducible refine (State.dm_sram_foldl _ _ _ (fun _ _ => ?_)).trans ?_ | with_reducible refine (State.sq_frameNo_foldl _ _ _ (fun _ _ => ?_)).trans ?_ | with_reducible refine (State.sq_inScan_foldl _ _ _ (fun _ _ => ?_)).trans ?_ | with_reducible refine (State.sq_nextBoundary_foldl _ _ _ (fun _ _ => ?_)).trans ?_ | with_reducible refine (State.pw_gate_foldl _ _ _ (fun _ _ => ?_)).trans ?_)))

@[simp] theorem State.setPlan_parts (s : State) (p : Plan) :
    (s.setPlan p).sq.frameNo = s.sq.frameNo ∧ (s.setPlan p).sq.inScan = s.sq.inScan ∧
    (s.setPlan p).sq.nextBoundary = s.sq.nextBoundary := by
  and_intros <;> (unfold State.setPlan; repeat' (first | with_reducible rfl | (simp; done) | split | with_reducible refine (State.regs_setA_foldl _ _ _ (fun _ _ => ?_)).trans ?_ | with_reducible refine (State.regs_setB_foldl _ _ _ (fun _ _ => ?_)).trans ?_ | with_reducible refine (State.regs_one_foldl _ _ _ (fun _ _ => ?_)).trans ?_ | with_reducible refine (State.regs_rsvd_foldl _ _ _ (fun _ _ => ?_)).trans ?_ | with_reducible refine (State.regs_waiting_foldl _ _ _ (fun _ _ => ?_)).trans ?_ | with_reducible refine (State.regs_stale_foldl _ _ _ (fun _ _ => ?_)).trans ?_ | with_reducible refine (State.regs_posted_foldl _ _ _ (fun _ _ => ?_)).trans ?_ | with_reducible refine (State.fd_mem_foldl _ _ _ (fun _ _ => ?_)).trans ?_ | with_reducible refine (State.dm_sram_foldl _ _ _ (fun _ _ => ?_)).trans ?_ | with_reducible refine (State.sq_frameNo_foldl _ _ _ (fun _ _ => ?_)).trans ?_ | with_reducible refine (State.sq_inScan_foldl _ _ _ (fun _ _ => ?_)).trans ?_ | with_reducible refine (State.sq_nextBoundary_foldl _ _ _ (fun _ _ => ?_)).trans ?_ | with_reducible refine (State.pw_gate_foldl _ _ _ (fun _ _ => ?_)).trans ?_ | (dsimp only; first | split | with_reducible refine (State.regs_setA_foldl _ _ _ (fun _ _ => ?_)).trans ?_ | with_reducible refine (State.regs_setB_foldl _ _ _ (fun _ _ => ?_)).trans ?_ | with_reducible refine (State.regs_one_foldl _ _ _ (fun _ _ => ?_)).trans ?_ | with_reducible refine (State.regs_rsvd_foldl _ _ _ (fun _ _ => ?_)).trans ?_ | with_reducible refine (State.regs_waiting_foldl _ _ _ (fun _ _ => ?_)).trans ?_ | with_reducible refine (State.regs_stale_foldl _ _ _ (fun _ _ => ?_)).trans ?_ | with_reducible refine (State.regs_posted_foldl _ _ _ (fun _ _ => ?_)).trans ?_ | with_reducible refine (State.fd_mem_foldl _ _ _ (fun _ _ => ?_)).trans ?_ | with_reducible refine (State.dm_sram_foldl _ _ _ (fun _ _ => ?_)).trans ?_ | with_reducible refine (State.sq_frameNo_foldl _ _ _ (fun _ _ => ?_)).trans ?_ | with_reducible refine (State.sq_inScan_foldl _ _ _ (fun _ _ => ?_)).trans ?_ | with_reducible refine (State.sq_nextBoundary_foldl _ _ _ (fun _ _ => ?_)).trans ?_ | with_reducible refine (State.pw_gate_foldl _ _ _ (fun _ _ => ?_)).trans ?_)))

@[simp] theorem State.intake_parts (s : State) (i : Intake) :
    (s.intake i).fd.mem = s.fd.mem := by
  unfold State.intake; repeat' (first | with_reducible rfl | (simp; done) | split | with_reducible refine (State.regs_setA_foldl _ _ _ (fun _ _ => ?_)).trans ?_ | with_reducible refine (State.regs_setB_foldl _ _ _ (fun _ _ => ?_)).trans ?_ | with_reducible refine (State.regs_one_foldl _ _ _ (fun _ _ => ?_)).trans ?_ | with_reducible refine (State.regs_rsvd_foldl _ _ _ (fun _ _ => ?_)).trans ?_ | with_reducible refine (State.regs_waiting_foldl _ _ _ (fun _ _ => ?_)).trans ?_ | with_reducible refine (State.regs_stale_foldl _ _ _ (fun _ _ => ?_)).trans ?_ | with_reducible refine (State.regs_posted_foldl _ _ _ (fun _ _ => ?_)).trans ?_ | with_reducible refine (State.fd_mem_foldl _ _ _ (fun _ _ => ?_)).trans ?_ | with_reducible refine (State.dm_sram_foldl _ _ _ (fun _ _ => ?_)).trans ?_ | with_reducible refine (State.sq_frameNo_foldl _ _ _ (fun _ _ => ?_)).trans ?_ | with_reducible refine (State.sq_inScan_foldl _ _ _ (fun _ _ => ?_)).trans ?_ | with_reducible refine (State.sq_nextBoundary_foldl _ _ _ (fun _ _ => ?_)).trans ?_ | with_reducible refine (State.pw_gate_foldl _ _ _ (fun _ _ => ?_)).trans ?_ | (dsimp only; first | split | with_reducible refine (State.regs_setA_foldl _ _ _ (fun _ _ => ?_)).trans ?_ | with_reducible refine (State.regs_setB_foldl _ _ _ (fun _ _ => ?_)).trans ?_ | with_reducible refine (State.regs_one_foldl _ _ _ (fun _ _ => ?_)).trans ?_ | with_reducible refine (State.regs_rsvd_foldl _ _ _ (fun _ _ => ?_)).trans ?_ | with_reducible refine (State.regs_waiting_foldl _ _ _ (fun _ _ => ?_)).trans ?_ | with_reducible refine (State.regs_stale_foldl _ _ _ (fun _ _ => ?_)).trans ?_ | with_reducible refine (State.regs_posted_foldl _ _ _ (fun _ _ => ?_)).trans ?_ | with_reducible refine (State.fd_mem_foldl _ _ _ (fun _ _ => ?_)).trans ?_ | with_reducible refine (State.dm_sram_foldl _ _ _ (fun _ _ => ?_)).trans ?_ | with_reducible refine (State.sq_frameNo_foldl _ _ _ (fun _ _ => ?_)).trans ?_ | with_reducible refine (State.sq_inScan_foldl _ _ _ (fun _ _ => ?_)).trans ?_ | with_reducible refine (State.sq_nextBoundary_foldl _ _ _ (fun _ _ => ?_)).trans ?_ | with_reducible refine (State.pw_gate_foldl _ _ _ (fun _ _ => ?_)).trans ?_))

@[simp] theorem State.fdUncount_parts (s : State) (c seq : Nat) :
    (s.fdUncount c seq).fd.mem = s.fd.mem := by
  unfold State.fdUncount; repeat' (first | with_reducible rfl | (simp; done) | split | with_reducible refine (State.regs_setA_foldl _ _ _ (fun _ _ => ?_)).trans ?_ | with_reducible refine (State.regs_setB_foldl _ _ _ (fun _ _ => ?_)).trans ?_ | with_reducible refine (State.regs_one_foldl _ _ _ (fun _ _ => ?_)).trans ?_ | with_reducible refine (State.regs_rsvd_foldl _ _ _ (fun _ _ => ?_)).trans ?_ | with_reducible refine (State.regs_waiting_foldl _ _ _ (fun _ _ => ?_)).trans ?_ | with_reducible refine (State.regs_stale_foldl _ _ _ (fun _ _ => ?_)).trans ?_ | with_reducible refine (State.regs_posted_foldl _ _ _ (fun _ _ => ?_)).trans ?_ | with_reducible refine (State.fd_mem_foldl _ _ _ (fun _ _ => ?_)).trans ?_ | with_reducible refine (State.dm_sram_foldl _ _ _ (fun _ _ => ?_)).trans ?_ | with_reducible refine (State.sq_frameNo_foldl _ _ _ (fun _ _ => ?_)).trans ?_ | with_reducible refine (State.sq_inScan_foldl _ _ _ (fun _ _ => ?_)).trans ?_ | with_reducible refine (State.sq_nextBoundary_foldl _ _ _ (fun _ _ => ?_)).trans ?_ | with_reducible refine (State.pw_gate_foldl _ _ _ (fun _ _ => ?_)).trans ?_ | (dsimp only; first | split | with_reducible refine (State.regs_setA_foldl _ _ _ (fun _ _ => ?_)).trans ?_ | with_reducible refine (State.regs_setB_foldl _ _ _ (fun _ _ => ?_)).trans ?_ | with_reducible refine (State.regs_one_foldl _ _ _ (fun _ _ => ?_)).trans ?_ | with_reducible refine (State.regs_rsvd_foldl _ _ _ (fun _ _ => ?_)).trans ?_ | with_reducible refine (State.regs_waiting_foldl _ _ _ (fun _ _ => ?_)).trans ?_ | with_reducible refine (State.regs_stale_foldl _ _ _ (fun _ _ => ?_)).trans ?_ | with_reducible refine (State.regs_posted_foldl _ _ _ (fun _ _ => ?_)).trans ?_ | with_reducible refine (State.fd_mem_foldl _ _ _ (fun _ _ => ?_)).trans ?_ | with_reducible refine (State.dm_sram_foldl _ _ _ (fun _ _ => ?_)).trans ?_ | with_reducible refine (State.sq_frameNo_foldl _ _ _ (fun _ _ => ?_)).trans ?_ | with_reducible refine (State.sq_inScan_foldl _ _ _ (fun _ _ => ?_)).trans ?_ | with_reducible refine (State.sq_nextBoundary_foldl _ _ _ (fun _ _ => ?_)).trans ?_ | with_reducible refine (State.pw_gate_foldl _ _ _ (fun _ _ => ?_)).trans ?_))

end Sys2Proof.Machine
end

