-- ==== Sys2Proof/Laws/FrameAqOps.lean ====
section
/-!
SUPPORT. The frames of the operations of Machine/AqOps.lean: the parts of the state that each of them leaves as they were.
-/

set_option linter.unusedTactic false
set_option linter.unreachableTactic false
set_option linter.unusedSimpArgs false

namespace Sys2Proof.Machine

@[simp] theorem State.setAqBuf_frame (s : State) (b : Nat) (x : AqBuf) :
    (s.setAqBuf b x).now = s.now ∧ (s.setAqBuf b x).phase = s.phase ∧ (s.setAqBuf b x).pending = s.pending ∧
    (s.setAqBuf b x).nodeOfs = s.nodeOfs ∧ (s.setAqBuf b x).freeCtr = s.freeCtr ∧ (s.setAqBuf b x).tx = s.tx ∧
    (s.setAqBuf b x).regs = s.regs ∧ (s.setAqBuf b x).tl = s.tl := by
  and_intros <;> (unfold State.setAqBuf; repeat' (first | with_reducible rfl | (simp; done) | split | with_reducible refine (foldl_inv _ _ _ _ (fun _ _ => ?_)).trans ?_ | (dsimp only; first | split | with_reducible refine (foldl_inv _ _ _ _ (fun _ _ => ?_)).trans ?_)))

@[simp] theorem State.setAqBuf_frame2 (s : State) (b : Nat) (x : AqBuf) :
    (s.setAqBuf b x).sq = s.sq ∧ (s.setAqBuf b x).fd = s.fd ∧ (s.setAqBuf b x).ex = s.ex ∧ (s.setAqBuf b x).sv = s.sv ∧
    (s.setAqBuf b x).ax = s.ax ∧ (s.setAqBuf b x).il = s.il ∧ (s.setAqBuf b x).ln = s.ln ∧ (s.setAqBuf b x).fl = s.fl := by
  and_intros <;> (unfold State.setAqBuf; repeat' (first | with_reducible rfl | (simp; done) | split | with_reducible refine (foldl_inv _ _ _ _ (fun _ _ => ?_)).trans ?_ | (dsimp only; first | split | with_reducible refine (foldl_inv _ _ _ _ (fun _ _ => ?_)).trans ?_)))

@[simp] theorem State.setAqBuf_frame3 (s : State) (b : Nat) (x : AqBuf) :
    (s.setAqBuf b x).ev = s.ev ∧ (s.setAqBuf b x).safe = s.safe ∧ (s.setAqBuf b x).dm = s.dm ∧ (s.setAqBuf b x).cm = s.cm ∧
    (s.setAqBuf b x).cf = s.cf ∧ (s.setAqBuf b x).pw = s.pw ∧ (s.setAqBuf b x).th = s.th := by
  and_intros <;> (unfold State.setAqBuf; repeat' (first | with_reducible rfl | (simp; done) | split | with_reducible refine (foldl_inv _ _ _ _ (fun _ _ => ?_)).trans ?_ | (dsimp only; first | split | with_reducible refine (foldl_inv _ _ _ _ (fun _ _ => ?_)).trans ?_)))

@[simp] theorem State.setAqUnit_frame (s : State) (u : Nat) (x : AqUnitState) :
    (s.setAqUnit u x).now = s.now ∧ (s.setAqUnit u x).phase = s.phase ∧ (s.setAqUnit u x).pending = s.pending ∧
    (s.setAqUnit u x).nodeOfs = s.nodeOfs ∧ (s.setAqUnit u x).freeCtr = s.freeCtr ∧ (s.setAqUnit u x).tx = s.tx ∧
    (s.setAqUnit u x).regs = s.regs ∧ (s.setAqUnit u x).tl = s.tl := by
  and_intros <;> (unfold State.setAqUnit; repeat' (first | with_reducible rfl | (simp; done) | split | with_reducible refine (foldl_inv _ _ _ _ (fun _ _ => ?_)).trans ?_ | (dsimp only; first | split | with_reducible refine (foldl_inv _ _ _ _ (fun _ _ => ?_)).trans ?_)))

@[simp] theorem State.setAqUnit_frame2 (s : State) (u : Nat) (x : AqUnitState) :
    (s.setAqUnit u x).sq = s.sq ∧ (s.setAqUnit u x).fd = s.fd ∧ (s.setAqUnit u x).ex = s.ex ∧ (s.setAqUnit u x).sv = s.sv ∧
    (s.setAqUnit u x).ax = s.ax ∧ (s.setAqUnit u x).il = s.il ∧ (s.setAqUnit u x).ln = s.ln ∧ (s.setAqUnit u x).fl = s.fl := by
  and_intros <;> (unfold State.setAqUnit; repeat' (first | with_reducible rfl | (simp; done) | split | with_reducible refine (foldl_inv _ _ _ _ (fun _ _ => ?_)).trans ?_ | (dsimp only; first | split | with_reducible refine (foldl_inv _ _ _ _ (fun _ _ => ?_)).trans ?_)))

@[simp] theorem State.setAqUnit_frame3 (s : State) (u : Nat) (x : AqUnitState) :
    (s.setAqUnit u x).ev = s.ev ∧ (s.setAqUnit u x).safe = s.safe ∧ (s.setAqUnit u x).dm = s.dm ∧
    (s.setAqUnit u x).cm = s.cm ∧ (s.setAqUnit u x).cf = s.cf ∧ (s.setAqUnit u x).pw = s.pw ∧ (s.setAqUnit u x).th = s.th := by
  and_intros <;> (unfold State.setAqUnit; repeat' (first | with_reducible rfl | (simp; done) | split | with_reducible refine (foldl_inv _ _ _ _ (fun _ _ => ?_)).trans ?_ | (dsimp only; first | split | with_reducible refine (foldl_inv _ _ _ _ (fun _ _ => ?_)).trans ?_)))

@[simp] theorem State.aqFull_frame (s : State) (b : Nat) :
    (s.aqFull b).now = s.now ∧ (s.aqFull b).phase = s.phase ∧ (s.aqFull b).pending = s.pending ∧
    (s.aqFull b).nodeOfs = s.nodeOfs ∧ (s.aqFull b).freeCtr = s.freeCtr ∧ (s.aqFull b).tx = s.tx ∧ (s.aqFull b).tl = s.tl ∧
    (s.aqFull b).sq = s.sq := by
  and_intros <;> (unfold State.aqFull; repeat' (first | with_reducible rfl | (simp; done) | split | with_reducible refine (foldl_inv _ _ _ _ (fun _ _ => ?_)).trans ?_ | (dsimp only; first | split | with_reducible refine (foldl_inv _ _ _ _ (fun _ _ => ?_)).trans ?_)))

@[simp] theorem State.aqFull_frame2 (s : State) (b : Nat) :
    (s.aqFull b).fd = s.fd ∧ (s.aqFull b).ex = s.ex ∧ (s.aqFull b).sv = s.sv ∧ (s.aqFull b).ax = s.ax ∧
    (s.aqFull b).aq = s.aq ∧ (s.aqFull b).il = s.il ∧ (s.aqFull b).ln = s.ln ∧ (s.aqFull b).fl = s.fl := by
  and_intros <;> (unfold State.aqFull; repeat' (first | with_reducible rfl | (simp; done) | split | with_reducible refine (foldl_inv _ _ _ _ (fun _ _ => ?_)).trans ?_ | (dsimp only; first | split | with_reducible refine (foldl_inv _ _ _ _ (fun _ _ => ?_)).trans ?_)))

@[simp] theorem State.aqFull_frame3 (s : State) (b : Nat) :
    (s.aqFull b).safe = s.safe ∧ (s.aqFull b).dm = s.dm ∧ (s.aqFull b).cm = s.cm ∧ (s.aqFull b).cf = s.cf ∧
    (s.aqFull b).pw = s.pw ∧ (s.aqFull b).th = s.th := by
  and_intros <;> (unfold State.aqFull; repeat' (first | with_reducible rfl | (simp; done) | split | with_reducible refine (foldl_inv _ _ _ _ (fun _ _ => ?_)).trans ?_ | (dsimp only; first | split | with_reducible refine (foldl_inv _ _ _ _ (fun _ _ => ?_)).trans ?_)))

@[simp] theorem State.aqStore_frame (s : State) (b : Nat) (vals : List Score) (seq : Nat) :
    (s.aqStore b vals seq).now = s.now ∧ (s.aqStore b vals seq).phase = s.phase ∧ (s.aqStore b vals seq).pending = s.pending ∧
    (s.aqStore b vals seq).nodeOfs = s.nodeOfs ∧ (s.aqStore b vals seq).freeCtr = s.freeCtr ∧
    (s.aqStore b vals seq).tx = s.tx ∧ (s.aqStore b vals seq).tl = s.tl ∧ (s.aqStore b vals seq).sq = s.sq := by
  and_intros <;> (unfold State.aqStore; repeat' (first | with_reducible rfl | (simp; done) | split | with_reducible refine (foldl_inv _ _ _ _ (fun _ _ => ?_)).trans ?_ | (dsimp only; first | split | with_reducible refine (foldl_inv _ _ _ _ (fun _ _ => ?_)).trans ?_)))

@[simp] theorem State.aqStore_frame2 (s : State) (b : Nat) (vals : List Score) (seq : Nat) :
    (s.aqStore b vals seq).fd = s.fd ∧ (s.aqStore b vals seq).ex = s.ex ∧ (s.aqStore b vals seq).sv = s.sv ∧
    (s.aqStore b vals seq).ax = s.ax ∧ (s.aqStore b vals seq).il = s.il ∧ (s.aqStore b vals seq).ln = s.ln ∧
    (s.aqStore b vals seq).fl = s.fl ∧ (s.aqStore b vals seq).safe = s.safe := by
  and_intros <;> (unfold State.aqStore; repeat' (first | with_reducible rfl | (simp; done) | split | with_reducible refine (foldl_inv _ _ _ _ (fun _ _ => ?_)).trans ?_ | (dsimp only; first | split | with_reducible refine (foldl_inv _ _ _ _ (fun _ _ => ?_)).trans ?_)))

@[simp] theorem State.aqStore_frame3 (s : State) (b : Nat) (vals : List Score) (seq : Nat) :
    (s.aqStore b vals seq).dm = s.dm ∧ (s.aqStore b vals seq).cm = s.cm ∧ (s.aqStore b vals seq).cf = s.cf ∧
    (s.aqStore b vals seq).pw = s.pw ∧ (s.aqStore b vals seq).th = s.th := by
  and_intros <;> (unfold State.aqStore; repeat' (first | with_reducible rfl | (simp; done) | split | with_reducible refine (foldl_inv _ _ _ _ (fun _ _ => ?_)).trans ?_ | (dsimp only; first | split | with_reducible refine (foldl_inv _ _ _ _ (fun _ _ => ?_)).trans ?_)))

@[simp] theorem State.aqPost_frame (s : State) (b : Nat) (vals : List Score) (seq : Nat) :
    (s.aqPost b vals seq).now = s.now ∧ (s.aqPost b vals seq).phase = s.phase ∧ (s.aqPost b vals seq).pending = s.pending ∧
    (s.aqPost b vals seq).nodeOfs = s.nodeOfs ∧ (s.aqPost b vals seq).freeCtr = s.freeCtr ∧ (s.aqPost b vals seq).tx = s.tx ∧
    (s.aqPost b vals seq).tl = s.tl ∧ (s.aqPost b vals seq).sq = s.sq := by
  and_intros <;> (unfold State.aqPost; repeat' (first | with_reducible rfl | (simp; done) | split | with_reducible refine (foldl_inv _ _ _ _ (fun _ _ => ?_)).trans ?_ | (dsimp only; first | split | with_reducible refine (foldl_inv _ _ _ _ (fun _ _ => ?_)).trans ?_)))

@[simp] theorem State.aqPost_frame2 (s : State) (b : Nat) (vals : List Score) (seq : Nat) :
    (s.aqPost b vals seq).fd = s.fd ∧ (s.aqPost b vals seq).ex = s.ex ∧ (s.aqPost b vals seq).sv = s.sv ∧
    (s.aqPost b vals seq).ax = s.ax ∧ (s.aqPost b vals seq).il = s.il ∧ (s.aqPost b vals seq).ln = s.ln ∧
    (s.aqPost b vals seq).fl = s.fl ∧ (s.aqPost b vals seq).safe = s.safe := by
  and_intros <;> (unfold State.aqPost; repeat' (first | with_reducible rfl | (simp; done) | split | with_reducible refine (foldl_inv _ _ _ _ (fun _ _ => ?_)).trans ?_ | (dsimp only; first | split | with_reducible refine (foldl_inv _ _ _ _ (fun _ _ => ?_)).trans ?_)))

@[simp] theorem State.aqPost_frame3 (s : State) (b : Nat) (vals : List Score) (seq : Nat) :
    (s.aqPost b vals seq).dm = s.dm ∧ (s.aqPost b vals seq).cm = s.cm ∧ (s.aqPost b vals seq).cf = s.cf ∧
    (s.aqPost b vals seq).pw = s.pw ∧ (s.aqPost b vals seq).th = s.th := by
  and_intros <;> (unfold State.aqPost; repeat' (first | with_reducible rfl | (simp; done) | split | with_reducible refine (foldl_inv _ _ _ _ (fun _ _ => ?_)).trans ?_ | (dsimp only; first | split | with_reducible refine (foldl_inv _ _ _ _ (fun _ _ => ?_)).trans ?_)))

@[simp] theorem State.aqBack_frame (s : State) (b : Nat) (f : AqFire) :
    (s.aqBack b f).now = s.now ∧ (s.aqBack b f).phase = s.phase ∧ (s.aqBack b f).pending = s.pending ∧
    (s.aqBack b f).nodeOfs = s.nodeOfs ∧ (s.aqBack b f).freeCtr = s.freeCtr ∧ (s.aqBack b f).tx = s.tx ∧
    (s.aqBack b f).tl = s.tl ∧ (s.aqBack b f).sq = s.sq := by
  and_intros <;> (unfold State.aqBack; repeat' (first | with_reducible rfl | (simp; done) | split | with_reducible refine (foldl_inv _ _ _ _ (fun _ _ => ?_)).trans ?_ | (dsimp only; first | split | with_reducible refine (foldl_inv _ _ _ _ (fun _ _ => ?_)).trans ?_)))

@[simp] theorem State.aqBack_frame2 (s : State) (b : Nat) (f : AqFire) :
    (s.aqBack b f).fd = s.fd ∧ (s.aqBack b f).ex = s.ex ∧ (s.aqBack b f).sv = s.sv ∧ (s.aqBack b f).ax = s.ax ∧
    (s.aqBack b f).il = s.il ∧ (s.aqBack b f).ln = s.ln ∧ (s.aqBack b f).fl = s.fl ∧ (s.aqBack b f).safe = s.safe := by
  and_intros <;> (unfold State.aqBack; repeat' (first | with_reducible rfl | (simp; done) | split | with_reducible refine (foldl_inv _ _ _ _ (fun _ _ => ?_)).trans ?_ | (dsimp only; first | split | with_reducible refine (foldl_inv _ _ _ _ (fun _ _ => ?_)).trans ?_)))

@[simp] theorem State.aqBack_frame3 (s : State) (b : Nat) (f : AqFire) :
    (s.aqBack b f).dm = s.dm ∧ (s.aqBack b f).cm = s.cm ∧ (s.aqBack b f).cf = s.cf ∧ (s.aqBack b f).pw = s.pw ∧
    (s.aqBack b f).th = s.th := by
  and_intros <;> (unfold State.aqBack; repeat' (first | with_reducible rfl | (simp; done) | split | with_reducible refine (foldl_inv _ _ _ _ (fun _ _ => ?_)).trans ?_ | (dsimp only; first | split | with_reducible refine (foldl_inv _ _ _ _ (fun _ _ => ?_)).trans ?_)))

@[simp] theorem State.aqLate_frame (s : State) (b : Nat) (f : AqFire) :
    (s.aqLate b f).now = s.now ∧ (s.aqLate b f).phase = s.phase ∧ (s.aqLate b f).pending = s.pending ∧
    (s.aqLate b f).nodeOfs = s.nodeOfs ∧ (s.aqLate b f).freeCtr = s.freeCtr ∧ (s.aqLate b f).tx = s.tx ∧
    (s.aqLate b f).tl = s.tl ∧ (s.aqLate b f).sq = s.sq := by
  and_intros <;> (unfold State.aqLate; repeat' (first | with_reducible rfl | (simp; done) | split | with_reducible refine (foldl_inv _ _ _ _ (fun _ _ => ?_)).trans ?_ | (dsimp only; first | split | with_reducible refine (foldl_inv _ _ _ _ (fun _ _ => ?_)).trans ?_)))

@[simp] theorem State.aqLate_frame2 (s : State) (b : Nat) (f : AqFire) :
    (s.aqLate b f).fd = s.fd ∧ (s.aqLate b f).ex = s.ex ∧ (s.aqLate b f).sv = s.sv ∧ (s.aqLate b f).ax = s.ax ∧
    (s.aqLate b f).il = s.il ∧ (s.aqLate b f).ln = s.ln ∧ (s.aqLate b f).fl = s.fl ∧ (s.aqLate b f).ev = s.ev := by
  and_intros <;> (unfold State.aqLate; repeat' (first | with_reducible rfl | (simp; done) | split | with_reducible refine (foldl_inv _ _ _ _ (fun _ _ => ?_)).trans ?_ | (dsimp only; first | split | with_reducible refine (foldl_inv _ _ _ _ (fun _ _ => ?_)).trans ?_)))

@[simp] theorem State.aqLate_frame3 (s : State) (b : Nat) (f : AqFire) :
    (s.aqLate b f).safe = s.safe ∧ (s.aqLate b f).dm = s.dm ∧ (s.aqLate b f).cm = s.cm ∧ (s.aqLate b f).cf = s.cf ∧
    (s.aqLate b f).pw = s.pw ∧ (s.aqLate b f).th = s.th := by
  and_intros <;> (unfold State.aqLate; repeat' (first | with_reducible rfl | (simp; done) | split | with_reducible refine (foldl_inv _ _ _ _ (fun _ _ => ?_)).trans ?_ | (dsimp only; first | split | with_reducible refine (foldl_inv _ _ _ _ (fun _ _ => ?_)).trans ?_)))

@[simp] theorem State.aqHear_frame (s : State) (b : Nat) (f : AqFire) :
    (s.aqHear b f).now = s.now ∧ (s.aqHear b f).phase = s.phase ∧ (s.aqHear b f).pending = s.pending ∧
    (s.aqHear b f).nodeOfs = s.nodeOfs ∧ (s.aqHear b f).freeCtr = s.freeCtr ∧ (s.aqHear b f).tx = s.tx ∧
    (s.aqHear b f).tl = s.tl ∧ (s.aqHear b f).sq = s.sq := by
  and_intros <;> (unfold State.aqHear; repeat' (first | with_reducible rfl | (simp; done) | split | with_reducible refine (foldl_inv _ _ _ _ (fun _ _ => ?_)).trans ?_ | (dsimp only; first | split | with_reducible refine (foldl_inv _ _ _ _ (fun _ _ => ?_)).trans ?_)))

@[simp] theorem State.aqHear_frame2 (s : State) (b : Nat) (f : AqFire) :
    (s.aqHear b f).fd = s.fd ∧ (s.aqHear b f).ex = s.ex ∧ (s.aqHear b f).sv = s.sv ∧ (s.aqHear b f).ax = s.ax ∧
    (s.aqHear b f).il = s.il ∧ (s.aqHear b f).ln = s.ln ∧ (s.aqHear b f).fl = s.fl ∧ (s.aqHear b f).safe = s.safe := by
  and_intros <;> (unfold State.aqHear; repeat' (first | with_reducible rfl | (simp; done) | split | with_reducible refine (foldl_inv _ _ _ _ (fun _ _ => ?_)).trans ?_ | (dsimp only; first | split | with_reducible refine (foldl_inv _ _ _ _ (fun _ _ => ?_)).trans ?_)))

@[simp] theorem State.aqHear_frame3 (s : State) (b : Nat) (f : AqFire) :
    (s.aqHear b f).dm = s.dm ∧ (s.aqHear b f).cm = s.cm ∧ (s.aqHear b f).cf = s.cf ∧ (s.aqHear b f).pw = s.pw ∧
    (s.aqHear b f).th = s.th := by
  and_intros <;> (unfold State.aqHear; repeat' (first | with_reducible rfl | (simp; done) | split | with_reducible refine (foldl_inv _ _ _ _ (fun _ _ => ?_)).trans ?_ | (dsimp only; first | split | with_reducible refine (foldl_inv _ _ _ _ (fun _ _ => ?_)).trans ?_)))

@[simp] theorem State.sendTrig_frame (s : State) (at_ : Nat) :
    (s.sendTrig at_).now = s.now ∧ (s.sendTrig at_).phase = s.phase ∧ (s.sendTrig at_).pending = s.pending ∧
    (s.sendTrig at_).nodeOfs = s.nodeOfs ∧ (s.sendTrig at_).freeCtr = s.freeCtr ∧ (s.sendTrig at_).tx = s.tx ∧
    (s.sendTrig at_).regs = s.regs ∧ (s.sendTrig at_).tl = s.tl := by
  and_intros <;> (unfold State.sendTrig; repeat' (first | with_reducible rfl | (simp; done) | split | with_reducible refine (foldl_inv _ _ _ _ (fun _ _ => ?_)).trans ?_ | (dsimp only; first | split | with_reducible refine (foldl_inv _ _ _ _ (fun _ _ => ?_)).trans ?_)))

@[simp] theorem State.sendTrig_frame2 (s : State) (at_ : Nat) :
    (s.sendTrig at_).sq = s.sq ∧ (s.sendTrig at_).fd = s.fd ∧ (s.sendTrig at_).ex = s.ex ∧ (s.sendTrig at_).sv = s.sv ∧
    (s.sendTrig at_).ax = s.ax ∧ (s.sendTrig at_).aq = s.aq ∧ (s.sendTrig at_).il = s.il ∧ (s.sendTrig at_).ln = s.ln := by
  and_intros <;> (unfold State.sendTrig; repeat' (first | with_reducible rfl | (simp; done) | split | with_reducible refine (foldl_inv _ _ _ _ (fun _ _ => ?_)).trans ?_ | (dsimp only; first | split | with_reducible refine (foldl_inv _ _ _ _ (fun _ _ => ?_)).trans ?_)))

@[simp] theorem State.sendTrig_frame3 (s : State) (at_ : Nat) :
    (s.sendTrig at_).ev = s.ev ∧ (s.sendTrig at_).safe = s.safe ∧ (s.sendTrig at_).dm = s.dm ∧ (s.sendTrig at_).cm = s.cm ∧
    (s.sendTrig at_).cf = s.cf ∧ (s.sendTrig at_).pw = s.pw ∧ (s.sendTrig at_).th = s.th := by
  and_intros <;> (unfold State.sendTrig; repeat' (first | with_reducible rfl | (simp; done) | split | with_reducible refine (foldl_inv _ _ _ _ (fun _ _ => ?_)).trans ?_ | (dsimp only; first | split | with_reducible refine (foldl_inv _ _ _ _ (fun _ _ => ?_)).trans ?_)))

@[simp] theorem State.aqFireAt_frame (s : State) (u at_ : Nat) :
    (s.aqFireAt u at_).now = s.now ∧ (s.aqFireAt u at_).phase = s.phase ∧ (s.aqFireAt u at_).pending = s.pending ∧
    (s.aqFireAt u at_).nodeOfs = s.nodeOfs ∧ (s.aqFireAt u at_).freeCtr = s.freeCtr ∧ (s.aqFireAt u at_).tx = s.tx ∧
    (s.aqFireAt u at_).tl = s.tl ∧ (s.aqFireAt u at_).sq = s.sq := by
  and_intros <;> (unfold State.aqFireAt; repeat' (first | with_reducible rfl | (simp; done) | split | with_reducible refine (foldl_inv _ _ _ _ (fun _ _ => ?_)).trans ?_ | (dsimp only; first | split | with_reducible refine (foldl_inv _ _ _ _ (fun _ _ => ?_)).trans ?_)))

@[simp] theorem State.aqFireAt_frame2 (s : State) (u at_ : Nat) :
    (s.aqFireAt u at_).fd = s.fd ∧ (s.aqFireAt u at_).ex = s.ex ∧ (s.aqFireAt u at_).sv = s.sv ∧
    (s.aqFireAt u at_).ax = s.ax ∧ (s.aqFireAt u at_).il = s.il ∧ (s.aqFireAt u at_).ln = s.ln ∧
    (s.aqFireAt u at_).safe = s.safe ∧ (s.aqFireAt u at_).dm = s.dm := by
  and_intros <;> (unfold State.aqFireAt; repeat' (first | with_reducible rfl | (simp; done) | split | with_reducible refine (foldl_inv _ _ _ _ (fun _ _ => ?_)).trans ?_ | (dsimp only; first | split | with_reducible refine (foldl_inv _ _ _ _ (fun _ _ => ?_)).trans ?_)))

@[simp] theorem State.aqFireAt_frame3 (s : State) (u at_ : Nat) :
    (s.aqFireAt u at_).cm = s.cm ∧ (s.aqFireAt u at_).cf = s.cf ∧ (s.aqFireAt u at_).pw = s.pw ∧
    (s.aqFireAt u at_).th = s.th := by
  and_intros <;> (unfold State.aqFireAt; repeat' (first | with_reducible rfl | (simp; done) | split | with_reducible refine (foldl_inv _ _ _ _ (fun _ _ => ?_)).trans ?_ | (dsimp only; first | split | with_reducible refine (foldl_inv _ _ _ _ (fun _ _ => ?_)).trans ?_)))

@[simp] theorem State.aqFire_frame (s : State) (u : Nat) :
    (s.aqFire u).now = s.now ∧ (s.aqFire u).phase = s.phase ∧ (s.aqFire u).pending = s.pending ∧
    (s.aqFire u).nodeOfs = s.nodeOfs ∧ (s.aqFire u).freeCtr = s.freeCtr ∧ (s.aqFire u).tx = s.tx ∧ (s.aqFire u).tl = s.tl ∧
    (s.aqFire u).sq = s.sq := by
  and_intros <;> (unfold State.aqFire; repeat' (first | with_reducible rfl | (simp; done) | split | with_reducible refine (foldl_inv _ _ _ _ (fun _ _ => ?_)).trans ?_ | (dsimp only; first | split | with_reducible refine (foldl_inv _ _ _ _ (fun _ _ => ?_)).trans ?_)))

@[simp] theorem State.aqFire_frame2 (s : State) (u : Nat) :
    (s.aqFire u).fd = s.fd ∧ (s.aqFire u).ex = s.ex ∧ (s.aqFire u).sv = s.sv ∧ (s.aqFire u).ax = s.ax ∧
    (s.aqFire u).il = s.il ∧ (s.aqFire u).ln = s.ln ∧ (s.aqFire u).safe = s.safe ∧ (s.aqFire u).dm = s.dm := by
  and_intros <;> (unfold State.aqFire; repeat' (first | with_reducible rfl | (simp; done) | split | with_reducible refine (foldl_inv _ _ _ _ (fun _ _ => ?_)).trans ?_ | (dsimp only; first | split | with_reducible refine (foldl_inv _ _ _ _ (fun _ _ => ?_)).trans ?_)))

@[simp] theorem State.aqFire_frame3 (s : State) (u : Nat) :
    (s.aqFire u).cm = s.cm ∧ (s.aqFire u).cf = s.cf ∧ (s.aqFire u).pw = s.pw ∧ (s.aqFire u).th = s.th := by
  and_intros <;> (unfold State.aqFire; repeat' (first | with_reducible rfl | (simp; done) | split | with_reducible refine (foldl_inv _ _ _ _ (fun _ _ => ?_)).trans ?_ | (dsimp only; first | split | with_reducible refine (foldl_inv _ _ _ _ (fun _ _ => ?_)).trans ?_)))

@[simp] theorem State.aqTriggerAt_frame (s : State) (cause : AqCause) (at_ : Nat) :
    (s.aqTriggerAt cause at_).now = s.now ∧ (s.aqTriggerAt cause at_).phase = s.phase ∧
    (s.aqTriggerAt cause at_).pending = s.pending ∧ (s.aqTriggerAt cause at_).nodeOfs = s.nodeOfs ∧
    (s.aqTriggerAt cause at_).freeCtr = s.freeCtr ∧ (s.aqTriggerAt cause at_).tx = s.tx ∧
    (s.aqTriggerAt cause at_).tl = s.tl ∧ (s.aqTriggerAt cause at_).sq = s.sq := by
  and_intros <;> (unfold State.aqTriggerAt; repeat' (first | with_reducible rfl | (simp; done) | split | with_reducible refine (foldl_inv _ _ _ _ (fun _ _ => ?_)).trans ?_ | (dsimp only; first | split | with_reducible refine (foldl_inv _ _ _ _ (fun _ _ => ?_)).trans ?_)))

@[simp] theorem State.aqTriggerAt_frame2 (s : State) (cause : AqCause) (at_ : Nat) :
    (s.aqTriggerAt cause at_).fd = s.fd ∧ (s.aqTriggerAt cause at_).ex = s.ex ∧ (s.aqTriggerAt cause at_).sv = s.sv ∧
    (s.aqTriggerAt cause at_).ax = s.ax ∧ (s.aqTriggerAt cause at_).il = s.il ∧ (s.aqTriggerAt cause at_).ln = s.ln ∧
    (s.aqTriggerAt cause at_).safe = s.safe ∧ (s.aqTriggerAt cause at_).dm = s.dm := by
  and_intros <;> (unfold State.aqTriggerAt; repeat' (first | with_reducible rfl | (simp; done) | split | with_reducible refine (foldl_inv _ _ _ _ (fun _ _ => ?_)).trans ?_ | (dsimp only; first | split | with_reducible refine (foldl_inv _ _ _ _ (fun _ _ => ?_)).trans ?_)))

@[simp] theorem State.aqTriggerAt_frame3 (s : State) (cause : AqCause) (at_ : Nat) :
    (s.aqTriggerAt cause at_).cm = s.cm ∧ (s.aqTriggerAt cause at_).cf = s.cf ∧ (s.aqTriggerAt cause at_).pw = s.pw ∧
    (s.aqTriggerAt cause at_).th = s.th := by
  and_intros <;> (unfold State.aqTriggerAt; repeat' (first | with_reducible rfl | (simp; done) | split | with_reducible refine (foldl_inv _ _ _ _ (fun _ _ => ?_)).trans ?_ | (dsimp only; first | split | with_reducible refine (foldl_inv _ _ _ _ (fun _ _ => ?_)).trans ?_)))

@[simp] theorem State.aqTrigger_frame (s : State) (cause : AqCause) :
    (s.aqTrigger cause).now = s.now ∧ (s.aqTrigger cause).phase = s.phase ∧ (s.aqTrigger cause).pending = s.pending ∧
    (s.aqTrigger cause).nodeOfs = s.nodeOfs ∧ (s.aqTrigger cause).freeCtr = s.freeCtr ∧ (s.aqTrigger cause).tx = s.tx ∧
    (s.aqTrigger cause).tl = s.tl ∧ (s.aqTrigger cause).sq = s.sq := by
  and_intros <;> (unfold State.aqTrigger; repeat' (first | with_reducible rfl | (simp; done) | split | with_reducible refine (foldl_inv _ _ _ _ (fun _ _ => ?_)).trans ?_ | (dsimp only; first | split | with_reducible refine (foldl_inv _ _ _ _ (fun _ _ => ?_)).trans ?_)))

@[simp] theorem State.aqTrigger_frame2 (s : State) (cause : AqCause) :
    (s.aqTrigger cause).fd = s.fd ∧ (s.aqTrigger cause).ex = s.ex ∧ (s.aqTrigger cause).sv = s.sv ∧
    (s.aqTrigger cause).ax = s.ax ∧ (s.aqTrigger cause).il = s.il ∧ (s.aqTrigger cause).ln = s.ln ∧
    (s.aqTrigger cause).safe = s.safe ∧ (s.aqTrigger cause).dm = s.dm := by
  and_intros <;> (unfold State.aqTrigger; repeat' (first | with_reducible rfl | (simp; done) | split | with_reducible refine (foldl_inv _ _ _ _ (fun _ _ => ?_)).trans ?_ | (dsimp only; first | split | with_reducible refine (foldl_inv _ _ _ _ (fun _ _ => ?_)).trans ?_)))

@[simp] theorem State.aqTrigger_frame3 (s : State) (cause : AqCause) :
    (s.aqTrigger cause).cm = s.cm ∧ (s.aqTrigger cause).cf = s.cf ∧ (s.aqTrigger cause).pw = s.pw ∧
    (s.aqTrigger cause).th = s.th := by
  and_intros <;> (unfold State.aqTrigger; repeat' (first | with_reducible rfl | (simp; done) | split | with_reducible refine (foldl_inv _ _ _ _ (fun _ _ => ?_)).trans ?_ | (dsimp only; first | split | with_reducible refine (foldl_inv _ _ _ _ (fun _ _ => ?_)).trans ?_)))

@[simp] theorem State.aqLevels_frame (s : State) (src : AqSrc) (sample : Nat → Option Score) :
    (s.aqLevels src sample).now = s.now ∧ (s.aqLevels src sample).phase = s.phase ∧
    (s.aqLevels src sample).pending = s.pending ∧ (s.aqLevels src sample).nodeOfs = s.nodeOfs ∧
    (s.aqLevels src sample).freeCtr = s.freeCtr ∧ (s.aqLevels src sample).tx = s.tx ∧ (s.aqLevels src sample).tl = s.tl ∧
    (s.aqLevels src sample).sq = s.sq := by
  and_intros <;> (unfold State.aqLevels; repeat' (first | with_reducible rfl | (simp; done) | split | with_reducible refine (foldl_inv _ _ _ _ (fun _ _ => ?_)).trans ?_ | (dsimp only; first | split | with_reducible refine (foldl_inv _ _ _ _ (fun _ _ => ?_)).trans ?_)))

@[simp] theorem State.aqLevels_frame2 (s : State) (src : AqSrc) (sample : Nat → Option Score) :
    (s.aqLevels src sample).fd = s.fd ∧ (s.aqLevels src sample).ex = s.ex ∧ (s.aqLevels src sample).sv = s.sv ∧
    (s.aqLevels src sample).ax = s.ax ∧ (s.aqLevels src sample).il = s.il ∧ (s.aqLevels src sample).ln = s.ln ∧
    (s.aqLevels src sample).safe = s.safe ∧ (s.aqLevels src sample).dm = s.dm := by
  and_intros <;> (unfold State.aqLevels; repeat' (first | with_reducible rfl | (simp; done) | split | with_reducible refine (foldl_inv _ _ _ _ (fun _ _ => ?_)).trans ?_ | (dsimp only; first | split | with_reducible refine (foldl_inv _ _ _ _ (fun _ _ => ?_)).trans ?_)))

@[simp] theorem State.aqLevels_frame3 (s : State) (src : AqSrc) (sample : Nat → Option Score) :
    (s.aqLevels src sample).cm = s.cm ∧ (s.aqLevels src sample).cf = s.cf ∧ (s.aqLevels src sample).pw = s.pw ∧
    (s.aqLevels src sample).th = s.th := by
  and_intros <;> (unfold State.aqLevels; repeat' (first | with_reducible rfl | (simp; done) | split | with_reducible refine (foldl_inv _ _ _ _ (fun _ _ => ?_)).trans ?_ | (dsimp only; first | split | with_reducible refine (foldl_inv _ _ _ _ (fun _ _ => ?_)).trans ?_)))

@[simp] theorem State.aqPass_frame (s : State) (b : Nat) :
    (s.aqPass b).now = s.now ∧ (s.aqPass b).phase = s.phase ∧ (s.aqPass b).pending = s.pending ∧
    (s.aqPass b).nodeOfs = s.nodeOfs ∧ (s.aqPass b).freeCtr = s.freeCtr ∧ (s.aqPass b).tx = s.tx ∧ (s.aqPass b).tl = s.tl ∧
    (s.aqPass b).sq = s.sq := by
  and_intros <;> (unfold State.aqPass; repeat' (first | with_reducible rfl | (simp; done) | split | with_reducible refine (foldl_inv _ _ _ _ (fun _ _ => ?_)).trans ?_ | (dsimp only; first | split | with_reducible refine (foldl_inv _ _ _ _ (fun _ _ => ?_)).trans ?_)))

@[simp] theorem State.aqPass_frame2 (s : State) (b : Nat) :
    (s.aqPass b).fd = s.fd ∧ (s.aqPass b).ex = s.ex ∧ (s.aqPass b).sv = s.sv ∧ (s.aqPass b).ax = s.ax ∧
    (s.aqPass b).il = s.il ∧ (s.aqPass b).ln = s.ln ∧ (s.aqPass b).fl = s.fl ∧ (s.aqPass b).ev = s.ev := by
  and_intros <;> (unfold State.aqPass; repeat' (first | with_reducible rfl | (simp; done) | split | with_reducible refine (foldl_inv _ _ _ _ (fun _ _ => ?_)).trans ?_ | (dsimp only; first | split | with_reducible refine (foldl_inv _ _ _ _ (fun _ _ => ?_)).trans ?_)))

@[simp] theorem State.aqPass_frame3 (s : State) (b : Nat) :
    (s.aqPass b).safe = s.safe ∧ (s.aqPass b).dm = s.dm ∧ (s.aqPass b).cm = s.cm ∧ (s.aqPass b).cf = s.cf ∧
    (s.aqPass b).pw = s.pw ∧ (s.aqPass b).th = s.th := by
  and_intros <;> (unfold State.aqPass; repeat' (first | with_reducible rfl | (simp; done) | split | with_reducible refine (foldl_inv _ _ _ _ (fun _ _ => ?_)).trans ?_ | (dsimp only; first | split | with_reducible refine (foldl_inv _ _ _ _ (fun _ _ => ?_)).trans ?_)))

@[simp] theorem State.aqTake_frame (s : State) (b : Nat) (vals : List Score) (seq : Nat) :
    (s.aqTake b vals seq).now = s.now ∧ (s.aqTake b vals seq).phase = s.phase ∧ (s.aqTake b vals seq).pending = s.pending ∧
    (s.aqTake b vals seq).nodeOfs = s.nodeOfs ∧ (s.aqTake b vals seq).freeCtr = s.freeCtr ∧ (s.aqTake b vals seq).tx = s.tx ∧
    (s.aqTake b vals seq).tl = s.tl ∧ (s.aqTake b vals seq).sq = s.sq := by
  and_intros <;> (unfold State.aqTake; repeat' (first | with_reducible rfl | (simp; done) | split | with_reducible refine (foldl_inv _ _ _ _ (fun _ _ => ?_)).trans ?_ | (dsimp only; first | split | with_reducible refine (foldl_inv _ _ _ _ (fun _ _ => ?_)).trans ?_)))

@[simp] theorem State.aqTake_frame2 (s : State) (b : Nat) (vals : List Score) (seq : Nat) :
    (s.aqTake b vals seq).fd = s.fd ∧ (s.aqTake b vals seq).ex = s.ex ∧ (s.aqTake b vals seq).sv = s.sv ∧
    (s.aqTake b vals seq).ax = s.ax ∧ (s.aqTake b vals seq).il = s.il ∧ (s.aqTake b vals seq).ln = s.ln ∧
    (s.aqTake b vals seq).fl = s.fl ∧ (s.aqTake b vals seq).safe = s.safe := by
  and_intros <;> (unfold State.aqTake; repeat' (first | with_reducible rfl | (simp; done) | split | with_reducible refine (foldl_inv _ _ _ _ (fun _ _ => ?_)).trans ?_ | (dsimp only; first | split | with_reducible refine (foldl_inv _ _ _ _ (fun _ _ => ?_)).trans ?_)))

@[simp] theorem State.aqTake_frame3 (s : State) (b : Nat) (vals : List Score) (seq : Nat) :
    (s.aqTake b vals seq).dm = s.dm ∧ (s.aqTake b vals seq).cm = s.cm ∧ (s.aqTake b vals seq).cf = s.cf ∧
    (s.aqTake b vals seq).pw = s.pw ∧ (s.aqTake b vals seq).th = s.th := by
  and_intros <;> (unfold State.aqTake; repeat' (first | with_reducible rfl | (simp; done) | split | with_reducible refine (foldl_inv _ _ _ _ (fun _ _ => ?_)).trans ?_ | (dsimp only; first | split | with_reducible refine (foldl_inv _ _ _ _ (fun _ _ => ?_)).trans ?_)))

@[simp] theorem State.aqOffer_frame (s : State) (b : Nat) (vals : List Score) (seq : Nat) :
    (s.aqOffer b vals seq).now = s.now ∧ (s.aqOffer b vals seq).phase = s.phase ∧ (s.aqOffer b vals seq).pending = s.pending ∧
    (s.aqOffer b vals seq).nodeOfs = s.nodeOfs ∧ (s.aqOffer b vals seq).freeCtr = s.freeCtr ∧
    (s.aqOffer b vals seq).tx = s.tx ∧ (s.aqOffer b vals seq).tl = s.tl ∧ (s.aqOffer b vals seq).sq = s.sq := by
  and_intros <;> (unfold State.aqOffer; repeat' (first | with_reducible rfl | (simp; done) | split | with_reducible refine (foldl_inv _ _ _ _ (fun _ _ => ?_)).trans ?_ | (dsimp only; first | split | with_reducible refine (foldl_inv _ _ _ _ (fun _ _ => ?_)).trans ?_)))

@[simp] theorem State.aqOffer_frame2 (s : State) (b : Nat) (vals : List Score) (seq : Nat) :
    (s.aqOffer b vals seq).fd = s.fd ∧ (s.aqOffer b vals seq).ex = s.ex ∧ (s.aqOffer b vals seq).sv = s.sv ∧
    (s.aqOffer b vals seq).ax = s.ax ∧ (s.aqOffer b vals seq).il = s.il ∧ (s.aqOffer b vals seq).ln = s.ln ∧
    (s.aqOffer b vals seq).fl = s.fl ∧ (s.aqOffer b vals seq).safe = s.safe := by
  and_intros <;> (unfold State.aqOffer; repeat' (first | with_reducible rfl | (simp; done) | split | with_reducible refine (foldl_inv _ _ _ _ (fun _ _ => ?_)).trans ?_ | (dsimp only; first | split | with_reducible refine (foldl_inv _ _ _ _ (fun _ _ => ?_)).trans ?_)))

@[simp] theorem State.aqOffer_frame3 (s : State) (b : Nat) (vals : List Score) (seq : Nat) :
    (s.aqOffer b vals seq).dm = s.dm ∧ (s.aqOffer b vals seq).cm = s.cm ∧ (s.aqOffer b vals seq).cf = s.cf ∧
    (s.aqOffer b vals seq).pw = s.pw ∧ (s.aqOffer b vals seq).th = s.th := by
  and_intros <;> (unfold State.aqOffer; repeat' (first | with_reducible rfl | (simp; done) | split | with_reducible refine (foldl_inv _ _ _ _ (fun _ _ => ?_)).trans ?_ | (dsimp only; first | split | with_reducible refine (foldl_inv _ _ _ _ (fun _ _ => ?_)).trans ?_)))

@[simp] theorem State.aqStream_frame (s : State) (src : AqSrc) (v : Score) :
    (s.aqStream src v).now = s.now ∧ (s.aqStream src v).phase = s.phase ∧ (s.aqStream src v).pending = s.pending ∧
    (s.aqStream src v).nodeOfs = s.nodeOfs ∧ (s.aqStream src v).freeCtr = s.freeCtr ∧ (s.aqStream src v).tx = s.tx ∧
    (s.aqStream src v).tl = s.tl ∧ (s.aqStream src v).sq = s.sq := by
  and_intros <;> (unfold State.aqStream; repeat' (first | with_reducible rfl | (simp; done) | split | with_reducible refine (foldl_inv _ _ _ _ (fun _ _ => ?_)).trans ?_ | (dsimp only; first | split | with_reducible refine (foldl_inv _ _ _ _ (fun _ _ => ?_)).trans ?_)))

@[simp] theorem State.aqStream_frame2 (s : State) (src : AqSrc) (v : Score) :
    (s.aqStream src v).fd = s.fd ∧ (s.aqStream src v).ex = s.ex ∧ (s.aqStream src v).sv = s.sv ∧
    (s.aqStream src v).ax = s.ax ∧ (s.aqStream src v).il = s.il ∧ (s.aqStream src v).ln = s.ln ∧
    (s.aqStream src v).fl = s.fl ∧ (s.aqStream src v).safe = s.safe := by
  and_intros <;> (unfold State.aqStream; repeat' (first | with_reducible rfl | (simp; done) | split | with_reducible refine (foldl_inv _ _ _ _ (fun _ _ => ?_)).trans ?_ | (dsimp only; first | split | with_reducible refine (foldl_inv _ _ _ _ (fun _ _ => ?_)).trans ?_)))

@[simp] theorem State.aqStream_frame3 (s : State) (src : AqSrc) (v : Score) :
    (s.aqStream src v).dm = s.dm ∧ (s.aqStream src v).cm = s.cm ∧ (s.aqStream src v).cf = s.cf ∧
    (s.aqStream src v).pw = s.pw ∧ (s.aqStream src v).th = s.th := by
  and_intros <;> (unfold State.aqStream; repeat' (first | with_reducible rfl | (simp; done) | split | with_reducible refine (foldl_inv _ _ _ _ (fun _ _ => ?_)).trans ?_ | (dsimp only; first | split | with_reducible refine (foldl_inv _ _ _ _ (fun _ _ => ?_)).trans ?_)))

@[simp] theorem State.aqConverter_frame (s : State) (c : Nat) (value status : Score) (unset : Bool) :
    (s.aqConverter c value status unset).now = s.now ∧ (s.aqConverter c value status unset).phase = s.phase ∧
    (s.aqConverter c value status unset).pending = s.pending ∧ (s.aqConverter c value status unset).nodeOfs = s.nodeOfs ∧
    (s.aqConverter c value status unset).freeCtr = s.freeCtr ∧ (s.aqConverter c value status unset).tx = s.tx ∧
    (s.aqConverter c value status unset).tl = s.tl ∧ (s.aqConverter c value status unset).sq = s.sq := by
  and_intros <;> (unfold State.aqConverter; repeat' (first | with_reducible rfl | (simp; done) | split | with_reducible refine (foldl_inv _ _ _ _ (fun _ _ => ?_)).trans ?_ | (dsimp only; first | split | with_reducible refine (foldl_inv _ _ _ _ (fun _ _ => ?_)).trans ?_)))

@[simp] theorem State.aqConverter_frame2 (s : State) (c : Nat) (value status : Score) (unset : Bool) :
    (s.aqConverter c value status unset).fd = s.fd ∧ (s.aqConverter c value status unset).ex = s.ex ∧
    (s.aqConverter c value status unset).sv = s.sv ∧ (s.aqConverter c value status unset).ax = s.ax ∧
    (s.aqConverter c value status unset).il = s.il ∧ (s.aqConverter c value status unset).ln = s.ln ∧
    (s.aqConverter c value status unset).safe = s.safe ∧ (s.aqConverter c value status unset).dm = s.dm := by
  and_intros <;> (unfold State.aqConverter; repeat' (first | with_reducible rfl | (simp; done) | split | with_reducible refine (foldl_inv _ _ _ _ (fun _ _ => ?_)).trans ?_ | (dsimp only; first | split | with_reducible refine (foldl_inv _ _ _ _ (fun _ _ => ?_)).trans ?_)))

@[simp] theorem State.aqConverter_frame3 (s : State) (c : Nat) (value status : Score) (unset : Bool) :
    (s.aqConverter c value status unset).cm = s.cm ∧ (s.aqConverter c value status unset).cf = s.cf ∧
    (s.aqConverter c value status unset).pw = s.pw ∧ (s.aqConverter c value status unset).th = s.th := by
  and_intros <;> (unfold State.aqConverter; repeat' (first | with_reducible rfl | (simp; done) | split | with_reducible refine (foldl_inv _ _ _ _ (fun _ _ => ?_)).trans ?_ | (dsimp only; first | split | with_reducible refine (foldl_inv _ _ _ _ (fun _ _ => ?_)).trans ?_)))

@[simp] theorem State.aqServo_frame (s : State) (a : Nat) (vals : List Int) :
    (s.aqServo a vals).now = s.now ∧ (s.aqServo a vals).phase = s.phase ∧ (s.aqServo a vals).pending = s.pending ∧
    (s.aqServo a vals).nodeOfs = s.nodeOfs ∧ (s.aqServo a vals).freeCtr = s.freeCtr ∧ (s.aqServo a vals).tx = s.tx ∧
    (s.aqServo a vals).tl = s.tl ∧ (s.aqServo a vals).sq = s.sq := by
  and_intros <;> (unfold State.aqServo; repeat' (first | with_reducible rfl | (simp; done) | split | with_reducible refine (foldl_inv _ _ _ _ (fun _ _ => ?_)).trans ?_ | (dsimp only; first | split | with_reducible refine (foldl_inv _ _ _ _ (fun _ _ => ?_)).trans ?_)))

@[simp] theorem State.aqServo_frame2 (s : State) (a : Nat) (vals : List Int) :
    (s.aqServo a vals).fd = s.fd ∧ (s.aqServo a vals).ex = s.ex ∧ (s.aqServo a vals).sv = s.sv ∧
    (s.aqServo a vals).ax = s.ax ∧ (s.aqServo a vals).il = s.il ∧ (s.aqServo a vals).ln = s.ln ∧
    (s.aqServo a vals).safe = s.safe ∧ (s.aqServo a vals).dm = s.dm := by
  and_intros <;> (unfold State.aqServo; repeat' (first | with_reducible rfl | (simp; done) | split | with_reducible refine (foldl_inv _ _ _ _ (fun _ _ => ?_)).trans ?_ | (dsimp only; first | split | with_reducible refine (foldl_inv _ _ _ _ (fun _ _ => ?_)).trans ?_)))

@[simp] theorem State.aqServo_frame3 (s : State) (a : Nat) (vals : List Int) :
    (s.aqServo a vals).cm = s.cm ∧ (s.aqServo a vals).cf = s.cf ∧ (s.aqServo a vals).pw = s.pw ∧
    (s.aqServo a vals).th = s.th := by
  and_intros <;> (unfold State.aqServo; repeat' (first | with_reducible rfl | (simp; done) | split | with_reducible refine (foldl_inv _ _ _ _ (fun _ _ => ?_)).trans ?_ | (dsimp only; first | split | with_reducible refine (foldl_inv _ _ _ _ (fun _ _ => ?_)).trans ?_)))

@[simp] theorem State.samplerBegin_frame (s : State) (tile start : Nat) :
    (s.samplerBegin tile start).now = s.now ∧ (s.samplerBegin tile start).phase = s.phase ∧
    (s.samplerBegin tile start).pending = s.pending ∧ (s.samplerBegin tile start).nodeOfs = s.nodeOfs ∧
    (s.samplerBegin tile start).freeCtr = s.freeCtr ∧ (s.samplerBegin tile start).tx = s.tx ∧
    (s.samplerBegin tile start).sq = s.sq ∧ (s.samplerBegin tile start).fd = s.fd := by
  and_intros <;> (unfold State.samplerBegin; repeat' (first | with_reducible rfl | (simp; done) | split | with_reducible refine (foldl_inv _ _ _ _ (fun _ _ => ?_)).trans ?_ | (dsimp only; first | split | with_reducible refine (foldl_inv _ _ _ _ (fun _ _ => ?_)).trans ?_)))

@[simp] theorem State.samplerBegin_frame2 (s : State) (tile start : Nat) :
    (s.samplerBegin tile start).ex = s.ex ∧ (s.samplerBegin tile start).sv = s.sv ∧ (s.samplerBegin tile start).ax = s.ax ∧
    (s.samplerBegin tile start).aq = s.aq ∧ (s.samplerBegin tile start).il = s.il ∧ (s.samplerBegin tile start).ln = s.ln ∧
    (s.samplerBegin tile start).fl = s.fl ∧ (s.samplerBegin tile start).ev = s.ev := by
  and_intros <;> (unfold State.samplerBegin; repeat' (first | with_reducible rfl | (simp; done) | split | with_reducible refine (foldl_inv _ _ _ _ (fun _ _ => ?_)).trans ?_ | (dsimp only; first | split | with_reducible refine (foldl_inv _ _ _ _ (fun _ _ => ?_)).trans ?_)))

@[simp] theorem State.samplerBegin_frame3 (s : State) (tile start : Nat) :
    (s.samplerBegin tile start).safe = s.safe ∧ (s.samplerBegin tile start).dm = s.dm ∧
    (s.samplerBegin tile start).cm = s.cm ∧ (s.samplerBegin tile start).cf = s.cf ∧ (s.samplerBegin tile start).pw = s.pw ∧
    (s.samplerBegin tile start).th = s.th := by
  and_intros <;> (unfold State.samplerBegin; repeat' (first | with_reducible rfl | (simp; done) | split | with_reducible refine (foldl_inv _ _ _ _ (fun _ _ => ?_)).trans ?_ | (dsimp only; first | split | with_reducible refine (foldl_inv _ _ _ _ (fun _ _ => ?_)).trans ?_)))

@[simp] theorem State.aqArmSampler_frame (s : State) (tile : Nat) :
    (s.aqArmSampler tile).now = s.now ∧ (s.aqArmSampler tile).phase = s.phase ∧ (s.aqArmSampler tile).pending = s.pending ∧
    (s.aqArmSampler tile).nodeOfs = s.nodeOfs ∧ (s.aqArmSampler tile).freeCtr = s.freeCtr ∧ (s.aqArmSampler tile).tx = s.tx ∧
    (s.aqArmSampler tile).sq = s.sq ∧ (s.aqArmSampler tile).fd = s.fd := by
  and_intros <;> (unfold State.aqArmSampler; repeat' (first | with_reducible rfl | (simp; done) | split | with_reducible refine (foldl_inv _ _ _ _ (fun _ _ => ?_)).trans ?_ | (dsimp only; first | split | with_reducible refine (foldl_inv _ _ _ _ (fun _ _ => ?_)).trans ?_)))

@[simp] theorem State.aqArmSampler_frame2 (s : State) (tile : Nat) :
    (s.aqArmSampler tile).ex = s.ex ∧ (s.aqArmSampler tile).sv = s.sv ∧ (s.aqArmSampler tile).ax = s.ax ∧
    (s.aqArmSampler tile).aq = s.aq ∧ (s.aqArmSampler tile).il = s.il ∧ (s.aqArmSampler tile).ln = s.ln ∧
    (s.aqArmSampler tile).fl = s.fl ∧ (s.aqArmSampler tile).ev = s.ev := by
  and_intros <;> (unfold State.aqArmSampler; repeat' (first | with_reducible rfl | (simp; done) | split | with_reducible refine (foldl_inv _ _ _ _ (fun _ _ => ?_)).trans ?_ | (dsimp only; first | split | with_reducible refine (foldl_inv _ _ _ _ (fun _ _ => ?_)).trans ?_)))

@[simp] theorem State.aqArmSampler_frame3 (s : State) (tile : Nat) :
    (s.aqArmSampler tile).safe = s.safe ∧ (s.aqArmSampler tile).dm = s.dm ∧ (s.aqArmSampler tile).cm = s.cm ∧
    (s.aqArmSampler tile).cf = s.cf ∧ (s.aqArmSampler tile).pw = s.pw ∧ (s.aqArmSampler tile).th = s.th := by
  and_intros <;> (unfold State.aqArmSampler; repeat' (first | with_reducible rfl | (simp; done) | split | with_reducible refine (foldl_inv _ _ _ _ (fun _ _ => ?_)).trans ?_ | (dsimp only; first | split | with_reducible refine (foldl_inv _ _ _ _ (fun _ _ => ?_)).trans ?_)))

@[simp] theorem State.aqCopyBlock_frame (s : State) (tile : Nat) :
    (s.aqCopyBlock tile).now = s.now ∧ (s.aqCopyBlock tile).phase = s.phase ∧ (s.aqCopyBlock tile).pending = s.pending ∧
    (s.aqCopyBlock tile).nodeOfs = s.nodeOfs ∧ (s.aqCopyBlock tile).freeCtr = s.freeCtr ∧ (s.aqCopyBlock tile).tx = s.tx ∧
    (s.aqCopyBlock tile).sq = s.sq ∧ (s.aqCopyBlock tile).fd = s.fd := by
  and_intros <;> (unfold State.aqCopyBlock; repeat' (first | with_reducible rfl | (simp; done) | split | with_reducible refine (foldl_inv _ _ _ _ (fun _ _ => ?_)).trans ?_ | (dsimp only; first | split | with_reducible refine (foldl_inv _ _ _ _ (fun _ _ => ?_)).trans ?_)))

@[simp] theorem State.aqCopyBlock_frame2 (s : State) (tile : Nat) :
    (s.aqCopyBlock tile).ex = s.ex ∧ (s.aqCopyBlock tile).sv = s.sv ∧ (s.aqCopyBlock tile).ax = s.ax ∧
    (s.aqCopyBlock tile).il = s.il ∧ (s.aqCopyBlock tile).ln = s.ln ∧ (s.aqCopyBlock tile).fl = s.fl ∧
    (s.aqCopyBlock tile).safe = s.safe ∧ (s.aqCopyBlock tile).dm = s.dm := by
  and_intros <;> (unfold State.aqCopyBlock; repeat' (first | with_reducible rfl | (simp; done) | split | with_reducible refine (foldl_inv _ _ _ _ (fun _ _ => ?_)).trans ?_ | (dsimp only; first | split | with_reducible refine (foldl_inv _ _ _ _ (fun _ _ => ?_)).trans ?_)))

@[simp] theorem State.aqCopyBlock_frame3 (s : State) (tile : Nat) :
    (s.aqCopyBlock tile).cm = s.cm ∧ (s.aqCopyBlock tile).cf = s.cf ∧ (s.aqCopyBlock tile).pw = s.pw ∧
    (s.aqCopyBlock tile).th = s.th := by
  and_intros <;> (unfold State.aqCopyBlock; repeat' (first | with_reducible rfl | (simp; done) | split | with_reducible refine (foldl_inv _ _ _ _ (fun _ _ => ?_)).trans ?_ | (dsimp only; first | split | with_reducible refine (foldl_inv _ _ _ _ (fun _ _ => ?_)).trans ?_)))

@[simp] theorem State.aqSamplerBlock_frame (s : State) (tile : Nat) :
    (s.aqSamplerBlock tile).now = s.now ∧ (s.aqSamplerBlock tile).phase = s.phase ∧
    (s.aqSamplerBlock tile).pending = s.pending ∧ (s.aqSamplerBlock tile).nodeOfs = s.nodeOfs ∧
    (s.aqSamplerBlock tile).freeCtr = s.freeCtr ∧ (s.aqSamplerBlock tile).tx = s.tx ∧ (s.aqSamplerBlock tile).sq = s.sq ∧
    (s.aqSamplerBlock tile).fd = s.fd := by
  and_intros <;> (unfold State.aqSamplerBlock; repeat' (first | with_reducible rfl | (simp; done) | split | with_reducible refine (foldl_inv _ _ _ _ (fun _ _ => ?_)).trans ?_ | (dsimp only; first | split | with_reducible refine (foldl_inv _ _ _ _ (fun _ _ => ?_)).trans ?_)))

@[simp] theorem State.aqSamplerBlock_frame2 (s : State) (tile : Nat) :
    (s.aqSamplerBlock tile).ex = s.ex ∧ (s.aqSamplerBlock tile).sv = s.sv ∧ (s.aqSamplerBlock tile).ax = s.ax ∧
    (s.aqSamplerBlock tile).il = s.il ∧ (s.aqSamplerBlock tile).ln = s.ln ∧ (s.aqSamplerBlock tile).safe = s.safe ∧
    (s.aqSamplerBlock tile).dm = s.dm ∧ (s.aqSamplerBlock tile).cm = s.cm := by
  and_intros <;> (unfold State.aqSamplerBlock; repeat' (first | with_reducible rfl | (simp; done) | split | with_reducible refine (foldl_inv _ _ _ _ (fun _ _ => ?_)).trans ?_ | (dsimp only; first | split | with_reducible refine (foldl_inv _ _ _ _ (fun _ _ => ?_)).trans ?_)))

@[simp] theorem State.aqSamplerBlock_frame3 (s : State) (tile : Nat) :
    (s.aqSamplerBlock tile).cf = s.cf ∧ (s.aqSamplerBlock tile).pw = s.pw ∧ (s.aqSamplerBlock tile).th = s.th := by
  and_intros <;> (unfold State.aqSamplerBlock; repeat' (first | with_reducible rfl | (simp; done) | split | with_reducible refine (foldl_inv _ _ _ _ (fun _ _ => ?_)).trans ?_ | (dsimp only; first | split | with_reducible refine (foldl_inv _ _ _ _ (fun _ _ => ?_)).trans ?_)))

@[simp] theorem State.aqSamplerArm_frame (s : State) (tile : Nat) :
    (s.aqSamplerArm tile).now = s.now ∧ (s.aqSamplerArm tile).phase = s.phase ∧ (s.aqSamplerArm tile).pending = s.pending ∧
    (s.aqSamplerArm tile).nodeOfs = s.nodeOfs ∧ (s.aqSamplerArm tile).freeCtr = s.freeCtr ∧ (s.aqSamplerArm tile).tx = s.tx ∧
    (s.aqSamplerArm tile).sq = s.sq ∧ (s.aqSamplerArm tile).fd = s.fd := by
  and_intros <;> (unfold State.aqSamplerArm; repeat' (first | with_reducible rfl | (simp; done) | split | with_reducible refine (foldl_inv _ _ _ _ (fun _ _ => ?_)).trans ?_ | (dsimp only; first | split | with_reducible refine (foldl_inv _ _ _ _ (fun _ _ => ?_)).trans ?_)))

@[simp] theorem State.aqSamplerArm_frame2 (s : State) (tile : Nat) :
    (s.aqSamplerArm tile).ex = s.ex ∧ (s.aqSamplerArm tile).sv = s.sv ∧ (s.aqSamplerArm tile).ax = s.ax ∧
    (s.aqSamplerArm tile).il = s.il ∧ (s.aqSamplerArm tile).ln = s.ln ∧ (s.aqSamplerArm tile).fl = s.fl ∧
    (s.aqSamplerArm tile).safe = s.safe ∧ (s.aqSamplerArm tile).dm = s.dm := by
  and_intros <;> (unfold State.aqSamplerArm; repeat' (first | with_reducible rfl | (simp; done) | split | with_reducible refine (foldl_inv _ _ _ _ (fun _ _ => ?_)).trans ?_ | (dsimp only; first | split | with_reducible refine (foldl_inv _ _ _ _ (fun _ _ => ?_)).trans ?_)))

@[simp] theorem State.aqSamplerArm_frame3 (s : State) (tile : Nat) :
    (s.aqSamplerArm tile).cm = s.cm ∧ (s.aqSamplerArm tile).cf = s.cf ∧ (s.aqSamplerArm tile).pw = s.pw ∧
    (s.aqSamplerArm tile).th = s.th := by
  and_intros <;> (unfold State.aqSamplerArm; repeat' (first | with_reducible rfl | (simp; done) | split | with_reducible refine (foldl_inv _ _ _ _ (fun _ _ => ?_)).trans ?_ | (dsimp only; first | split | with_reducible refine (foldl_inv _ _ _ _ (fun _ _ => ?_)).trans ?_)))

@[simp] theorem State.aqFoldBlock_frame (s : State) (k pixel cycle : Nat) (bins : List Nat) :
    (s.aqFoldBlock k pixel cycle bins).now = s.now ∧ (s.aqFoldBlock k pixel cycle bins).phase = s.phase ∧
    (s.aqFoldBlock k pixel cycle bins).pending = s.pending ∧ (s.aqFoldBlock k pixel cycle bins).nodeOfs = s.nodeOfs ∧
    (s.aqFoldBlock k pixel cycle bins).freeCtr = s.freeCtr ∧ (s.aqFoldBlock k pixel cycle bins).tx = s.tx ∧
    (s.aqFoldBlock k pixel cycle bins).tl = s.tl ∧ (s.aqFoldBlock k pixel cycle bins).sq = s.sq := by
  and_intros <;> (unfold State.aqFoldBlock; repeat' (first | with_reducible rfl | (simp; done) | split | with_reducible refine (foldl_inv _ _ _ _ (fun _ _ => ?_)).trans ?_ | (dsimp only; first | split | with_reducible refine (foldl_inv _ _ _ _ (fun _ _ => ?_)).trans ?_)))

@[simp] theorem State.aqFoldBlock_frame2 (s : State) (k pixel cycle : Nat) (bins : List Nat) :
    (s.aqFoldBlock k pixel cycle bins).fd = s.fd ∧ (s.aqFoldBlock k pixel cycle bins).ex = s.ex ∧
    (s.aqFoldBlock k pixel cycle bins).sv = s.sv ∧ (s.aqFoldBlock k pixel cycle bins).ax = s.ax ∧
    (s.aqFoldBlock k pixel cycle bins).il = s.il ∧ (s.aqFoldBlock k pixel cycle bins).ln = s.ln ∧
    (s.aqFoldBlock k pixel cycle bins).safe = s.safe ∧ (s.aqFoldBlock k pixel cycle bins).dm = s.dm := by
  and_intros <;> (unfold State.aqFoldBlock; repeat' (first | with_reducible rfl | (simp; done) | split | with_reducible refine (foldl_inv _ _ _ _ (fun _ _ => ?_)).trans ?_ | (dsimp only; first | split | with_reducible refine (foldl_inv _ _ _ _ (fun _ _ => ?_)).trans ?_)))

@[simp] theorem State.aqFoldBlock_frame3 (s : State) (k pixel cycle : Nat) (bins : List Nat) :
    (s.aqFoldBlock k pixel cycle bins).cm = s.cm ∧ (s.aqFoldBlock k pixel cycle bins).cf = s.cf ∧
    (s.aqFoldBlock k pixel cycle bins).pw = s.pw ∧ (s.aqFoldBlock k pixel cycle bins).th = s.th := by
  and_intros <;> (unfold State.aqFoldBlock; repeat' (first | with_reducible rfl | (simp; done) | split | with_reducible refine (foldl_inv _ _ _ _ (fun _ _ => ?_)).trans ?_ | (dsimp only; first | split | with_reducible refine (foldl_inv _ _ _ _ (fun _ _ => ?_)).trans ?_)))

@[simp] theorem State.aqBlockEnd_frame (s : State) (k : Nat) :
    (s.aqBlockEnd k).now = s.now ∧ (s.aqBlockEnd k).phase = s.phase ∧ (s.aqBlockEnd k).pending = s.pending ∧
    (s.aqBlockEnd k).nodeOfs = s.nodeOfs ∧ (s.aqBlockEnd k).freeCtr = s.freeCtr ∧ (s.aqBlockEnd k).tx = s.tx ∧
    (s.aqBlockEnd k).regs = s.regs ∧ (s.aqBlockEnd k).tl = s.tl := by
  and_intros <;> (unfold State.aqBlockEnd; repeat' (first | with_reducible rfl | (simp; done) | split | with_reducible refine (foldl_inv _ _ _ _ (fun _ _ => ?_)).trans ?_ | (dsimp only; first | split | with_reducible refine (foldl_inv _ _ _ _ (fun _ _ => ?_)).trans ?_)))

@[simp] theorem State.aqBlockEnd_frame2 (s : State) (k : Nat) :
    (s.aqBlockEnd k).sq = s.sq ∧ (s.aqBlockEnd k).fd = s.fd ∧ (s.aqBlockEnd k).ex = s.ex ∧ (s.aqBlockEnd k).sv = s.sv ∧
    (s.aqBlockEnd k).ax = s.ax ∧ (s.aqBlockEnd k).il = s.il ∧ (s.aqBlockEnd k).ln = s.ln ∧ (s.aqBlockEnd k).fl = s.fl := by
  and_intros <;> (unfold State.aqBlockEnd; repeat' (first | with_reducible rfl | (simp; done) | split | with_reducible refine (foldl_inv _ _ _ _ (fun _ _ => ?_)).trans ?_ | (dsimp only; first | split | with_reducible refine (foldl_inv _ _ _ _ (fun _ _ => ?_)).trans ?_)))

@[simp] theorem State.aqBlockEnd_frame3 (s : State) (k : Nat) :
    (s.aqBlockEnd k).ev = s.ev ∧ (s.aqBlockEnd k).safe = s.safe ∧ (s.aqBlockEnd k).dm = s.dm ∧ (s.aqBlockEnd k).cm = s.cm ∧
    (s.aqBlockEnd k).cf = s.cf ∧ (s.aqBlockEnd k).pw = s.pw ∧ (s.aqBlockEnd k).th = s.th := by
  and_intros <;> (unfold State.aqBlockEnd; repeat' (first | with_reducible rfl | (simp; done) | split | with_reducible refine (foldl_inv _ _ _ _ (fun _ _ => ?_)).trans ?_ | (dsimp only; first | split | with_reducible refine (foldl_inv _ _ _ _ (fun _ _ => ?_)).trans ?_)))

@[simp] theorem State.aqFull_parts (s : State) (b : Nat) :
    (s.aqFull b).regs.setA = s.regs.setA ∧ (s.aqFull b).regs.setB = s.regs.setB ∧ (s.aqFull b).regs.one = s.regs.one ∧
    (s.aqFull b).regs.rsvd = s.regs.rsvd ∧ (s.aqFull b).regs.waiting = s.regs.waiting ∧
    (s.aqFull b).regs.stale = s.regs.stale ∧ (s.aqFull b).regs.posted = s.regs.posted := by
  and_intros <;> (unfold State.aqFull; repeat' (first | with_reducible rfl | (simp; done) | split | with_reducible refine (State.regs_setA_foldl _ _ _ (fun _ _ => ?_)).trans ?_ | with_reducible refine (State.regs_setB_foldl _ _ _ (fun _ _ => ?_)).trans ?_ | with_reducible refine (State.regs_one_foldl _ _ _ (fun _ _ => ?_)).trans ?_ | with_reducible refine (State.regs_rsvd_foldl _ _ _ (fun _ _ => ?_)).trans ?_ | with_reducible refine (State.regs_waiting_foldl _ _ _ (fun _ _ => ?_)).trans ?_ | with_reducible refine (State.regs_stale_foldl _ _ _ (fun _ _ => ?_)).trans ?_ | with_reducible refine (State.regs_posted_foldl _ _ _ (fun _ _ => ?_)).trans ?_ | with_reducible refine (State.fd_mem_foldl _ _ _ (fun _ _ => ?_)).trans ?_ | with_reducible refine (State.dm_sram_foldl _ _ _ (fun _ _ => ?_)).trans ?_ | with_reducible refine (State.sq_frameNo_foldl _ _ _ (fun _ _ => ?_)).trans ?_ | with_reducible refine (State.sq_inScan_foldl _ _ _ (fun _ _ => ?_)).trans ?_ | with_reducible refine (State.sq_nextBoundary_foldl _ _ _ (fun _ _ => ?_)).trans ?_ | with_reducible refine (State.pw_gate_foldl _ _ _ (fun _ _ => ?_)).trans ?_ | (dsimp only; first | split | with_reducible refine (State.regs_setA_foldl _ _ _ (fun _ _ => ?_)).trans ?_ | with_reducible refine (State.regs_setB_foldl _ _ _ (fun _ _ => ?_)).trans ?_ | with_reducible refine (State.regs_one_foldl _ _ _ (fun _ _ => ?_)).trans ?_ | with_reducible refine (State.regs_rsvd_foldl _ _ _ (fun _ _ => ?_)).trans ?_ | with_reducible refine (State.regs_waiting_foldl _ _ _ (fun _ _ => ?_)).trans ?_ | with_reducible refine (State.regs_stale_foldl _ _ _ (fun _ _ => ?_)).trans ?_ | with_reducible refine (State.regs_posted_foldl _ _ _ (fun _ _ => ?_)).trans ?_ | with_reducible refine (State.fd_mem_foldl _ _ _ (fun _ _ => ?_)).trans ?_ | with_reducible refine (State.dm_sram_foldl _ _ _ (fun _ _ => ?_)).trans ?_ | with_reducible refine (State.sq_frameNo_foldl _ _ _ (fun _ _ => ?_)).trans ?_ | with_reducible refine (State.sq_inScan_foldl _ _ _ (fun _ _ => ?_)).trans ?_ | with_reducible refine (State.sq_nextBoundary_foldl _ _ _ (fun _ _ => ?_)).trans ?_ | with_reducible refine (State.pw_gate_foldl _ _ _ (fun _ _ => ?_)).trans ?_)))

@[simp] theorem State.aqStore_parts (s : State) (b : Nat) (vals : List Score) (seq : Nat) :
    (s.aqStore b vals seq).regs.setA = s.regs.setA ∧ (s.aqStore b vals seq).regs.setB = s.regs.setB ∧
    (s.aqStore b vals seq).regs.one = s.regs.one ∧ (s.aqStore b vals seq).regs.rsvd = s.regs.rsvd ∧
    (s.aqStore b vals seq).regs.waiting = s.regs.waiting ∧ (s.aqStore b vals seq).regs.stale = s.regs.stale ∧
    (s.aqStore b vals seq).regs.posted = s.regs.posted := by
  and_intros <;> (unfold State.aqStore; repeat' (first | with_reducible rfl | (simp; done) | split | with_reducible refine (State.regs_setA_foldl _ _ _ (fun _ _ => ?_)).trans ?_ | with_reducible refine (State.regs_setB_foldl _ _ _ (fun _ _ => ?_)).trans ?_ | with_reducible refine (State.regs_one_foldl _ _ _ (fun _ _ => ?_)).trans ?_ | with_reducible refine (State.regs_rsvd_foldl _ _ _ (fun _ _ => ?_)).trans ?_ | with_reducible refine (State.regs_waiting_foldl _ _ _ (fun _ _ => ?_)).trans ?_ | with_reducible refine (State.regs_stale_foldl _ _ _ (fun _ _ => ?_)).trans ?_ | with_reducible refine (State.regs_posted_foldl _ _ _ (fun _ _ => ?_)).trans ?_ | with_reducible refine (State.fd_mem_foldl _ _ _ (fun _ _ => ?_)).trans ?_ | with_reducible refine (State.dm_sram_foldl _ _ _ (fun _ _ => ?_)).trans ?_ | with_reducible refine (State.sq_frameNo_foldl _ _ _ (fun _ _ => ?_)).trans ?_ | with_reducible refine (State.sq_inScan_foldl _ _ _ (fun _ _ => ?_)).trans ?_ | with_reducible refine (State.sq_nextBoundary_foldl _ _ _ (fun _ _ => ?_)).trans ?_ | with_reducible refine (State.pw_gate_foldl _ _ _ (fun _ _ => ?_)).trans ?_ | (dsimp only; first | split | with_reducible refine (State.regs_setA_foldl _ _ _ (fun _ _ => ?_)).trans ?_ | with_reducible refine (State.regs_setB_foldl _ _ _ (fun _ _ => ?_)).trans ?_ | with_reducible refine (State.regs_one_foldl _ _ _ (fun _ _ => ?_)).trans ?_ | with_reducible refine (State.regs_rsvd_foldl _ _ _ (fun _ _ => ?_)).trans ?_ | with_reducible refine (State.regs_waiting_foldl _ _ _ (fun _ _ => ?_)).trans ?_ | with_reducible refine (State.regs_stale_foldl _ _ _ (fun _ _ => ?_)).trans ?_ | with_reducible refine (State.regs_posted_foldl _ _ _ (fun _ _ => ?_)).trans ?_ | with_reducible refine (State.fd_mem_foldl _ _ _ (fun _ _ => ?_)).trans ?_ | with_reducible refine (State.dm_sram_foldl _ _ _ (fun _ _ => ?_)).trans ?_ | with_reducible refine (State.sq_frameNo_foldl _ _ _ (fun _ _ => ?_)).trans ?_ | with_reducible refine (State.sq_inScan_foldl _ _ _ (fun _ _ => ?_)).trans ?_ | with_reducible refine (State.sq_nextBoundary_foldl _ _ _ (fun _ _ => ?_)).trans ?_ | with_reducible refine (State.pw_gate_foldl _ _ _ (fun _ _ => ?_)).trans ?_)))

@[simp] theorem State.aqPost_parts (s : State) (b : Nat) (vals : List Score) (seq : Nat) :
    (s.aqPost b vals seq).regs.setA = s.regs.setA ∧ (s.aqPost b vals seq).regs.setB = s.regs.setB ∧
    (s.aqPost b vals seq).regs.one = s.regs.one ∧ (s.aqPost b vals seq).regs.rsvd = s.regs.rsvd ∧
    (s.aqPost b vals seq).regs.waiting = s.regs.waiting ∧ (s.aqPost b vals seq).regs.stale = s.regs.stale ∧
    (s.aqPost b vals seq).regs.posted = s.regs.posted := by
  and_intros <;> (unfold State.aqPost; repeat' (first | with_reducible rfl | (simp; done) | split | with_reducible refine (State.regs_setA_foldl _ _ _ (fun _ _ => ?_)).trans ?_ | with_reducible refine (State.regs_setB_foldl _ _ _ (fun _ _ => ?_)).trans ?_ | with_reducible refine (State.regs_one_foldl _ _ _ (fun _ _ => ?_)).trans ?_ | with_reducible refine (State.regs_rsvd_foldl _ _ _ (fun _ _ => ?_)).trans ?_ | with_reducible refine (State.regs_waiting_foldl _ _ _ (fun _ _ => ?_)).trans ?_ | with_reducible refine (State.regs_stale_foldl _ _ _ (fun _ _ => ?_)).trans ?_ | with_reducible refine (State.regs_posted_foldl _ _ _ (fun _ _ => ?_)).trans ?_ | with_reducible refine (State.fd_mem_foldl _ _ _ (fun _ _ => ?_)).trans ?_ | with_reducible refine (State.dm_sram_foldl _ _ _ (fun _ _ => ?_)).trans ?_ | with_reducible refine (State.sq_frameNo_foldl _ _ _ (fun _ _ => ?_)).trans ?_ | with_reducible refine (State.sq_inScan_foldl _ _ _ (fun _ _ => ?_)).trans ?_ | with_reducible refine (State.sq_nextBoundary_foldl _ _ _ (fun _ _ => ?_)).trans ?_ | with_reducible refine (State.pw_gate_foldl _ _ _ (fun _ _ => ?_)).trans ?_ | (dsimp only; first | split | with_reducible refine (State.regs_setA_foldl _ _ _ (fun _ _ => ?_)).trans ?_ | with_reducible refine (State.regs_setB_foldl _ _ _ (fun _ _ => ?_)).trans ?_ | with_reducible refine (State.regs_one_foldl _ _ _ (fun _ _ => ?_)).trans ?_ | with_reducible refine (State.regs_rsvd_foldl _ _ _ (fun _ _ => ?_)).trans ?_ | with_reducible refine (State.regs_waiting_foldl _ _ _ (fun _ _ => ?_)).trans ?_ | with_reducible refine (State.regs_stale_foldl _ _ _ (fun _ _ => ?_)).trans ?_ | with_reducible refine (State.regs_posted_foldl _ _ _ (fun _ _ => ?_)).trans ?_ | with_reducible refine (State.fd_mem_foldl _ _ _ (fun _ _ => ?_)).trans ?_ | with_reducible refine (State.dm_sram_foldl _ _ _ (fun _ _ => ?_)).trans ?_ | with_reducible refine (State.sq_frameNo_foldl _ _ _ (fun _ _ => ?_)).trans ?_ | with_reducible refine (State.sq_inScan_foldl _ _ _ (fun _ _ => ?_)).trans ?_ | with_reducible refine (State.sq_nextBoundary_foldl _ _ _ (fun _ _ => ?_)).trans ?_ | with_reducible refine (State.pw_gate_foldl _ _ _ (fun _ _ => ?_)).trans ?_)))

@[simp] theorem State.aqBack_parts (s : State) (b : Nat) (f : AqFire) :
    (s.aqBack b f).regs.setA = s.regs.setA ∧ (s.aqBack b f).regs.setB = s.regs.setB ∧ (s.aqBack b f).regs.one = s.regs.one ∧
    (s.aqBack b f).regs.rsvd = s.regs.rsvd ∧ (s.aqBack b f).regs.waiting = s.regs.waiting ∧
    (s.aqBack b f).regs.stale = s.regs.stale ∧ (s.aqBack b f).regs.posted = s.regs.posted := by
  and_intros <;> (unfold State.aqBack; repeat' (first | with_reducible rfl | (simp; done) | split | with_reducible refine (State.regs_setA_foldl _ _ _ (fun _ _ => ?_)).trans ?_ | with_reducible refine (State.regs_setB_foldl _ _ _ (fun _ _ => ?_)).trans ?_ | with_reducible refine (State.regs_one_foldl _ _ _ (fun _ _ => ?_)).trans ?_ | with_reducible refine (State.regs_rsvd_foldl _ _ _ (fun _ _ => ?_)).trans ?_ | with_reducible refine (State.regs_waiting_foldl _ _ _ (fun _ _ => ?_)).trans ?_ | with_reducible refine (State.regs_stale_foldl _ _ _ (fun _ _ => ?_)).trans ?_ | with_reducible refine (State.regs_posted_foldl _ _ _ (fun _ _ => ?_)).trans ?_ | with_reducible refine (State.fd_mem_foldl _ _ _ (fun _ _ => ?_)).trans ?_ | with_reducible refine (State.dm_sram_foldl _ _ _ (fun _ _ => ?_)).trans ?_ | with_reducible refine (State.sq_frameNo_foldl _ _ _ (fun _ _ => ?_)).trans ?_ | with_reducible refine (State.sq_inScan_foldl _ _ _ (fun _ _ => ?_)).trans ?_ | with_reducible refine (State.sq_nextBoundary_foldl _ _ _ (fun _ _ => ?_)).trans ?_ | with_reducible refine (State.pw_gate_foldl _ _ _ (fun _ _ => ?_)).trans ?_ | (dsimp only; first | split | with_reducible refine (State.regs_setA_foldl _ _ _ (fun _ _ => ?_)).trans ?_ | with_reducible refine (State.regs_setB_foldl _ _ _ (fun _ _ => ?_)).trans ?_ | with_reducible refine (State.regs_one_foldl _ _ _ (fun _ _ => ?_)).trans ?_ | with_reducible refine (State.regs_rsvd_foldl _ _ _ (fun _ _ => ?_)).trans ?_ | with_reducible refine (State.regs_waiting_foldl _ _ _ (fun _ _ => ?_)).trans ?_ | with_reducible refine (State.regs_stale_foldl _ _ _ (fun _ _ => ?_)).trans ?_ | with_reducible refine (State.regs_posted_foldl _ _ _ (fun _ _ => ?_)).trans ?_ | with_reducible refine (State.fd_mem_foldl _ _ _ (fun _ _ => ?_)).trans ?_ | with_reducible refine (State.dm_sram_foldl _ _ _ (fun _ _ => ?_)).trans ?_ | with_reducible refine (State.sq_frameNo_foldl _ _ _ (fun _ _ => ?_)).trans ?_ | with_reducible refine (State.sq_inScan_foldl _ _ _ (fun _ _ => ?_)).trans ?_ | with_reducible refine (State.sq_nextBoundary_foldl _ _ _ (fun _ _ => ?_)).trans ?_ | with_reducible refine (State.pw_gate_foldl _ _ _ (fun _ _ => ?_)).trans ?_)))

@[simp] theorem State.aqLate_parts (s : State) (b : Nat) (f : AqFire) :
    (s.aqLate b f).regs.setA = s.regs.setA ∧ (s.aqLate b f).regs.setB = s.regs.setB ∧ (s.aqLate b f).regs.one = s.regs.one ∧
    (s.aqLate b f).regs.rsvd = s.regs.rsvd ∧ (s.aqLate b f).regs.waiting = s.regs.waiting ∧
    (s.aqLate b f).regs.stale = s.regs.stale ∧ (s.aqLate b f).regs.posted = s.regs.posted := by
  and_intros <;> (unfold State.aqLate; repeat' (first | with_reducible rfl | (simp; done) | split | with_reducible refine (State.regs_setA_foldl _ _ _ (fun _ _ => ?_)).trans ?_ | with_reducible refine (State.regs_setB_foldl _ _ _ (fun _ _ => ?_)).trans ?_ | with_reducible refine (State.regs_one_foldl _ _ _ (fun _ _ => ?_)).trans ?_ | with_reducible refine (State.regs_rsvd_foldl _ _ _ (fun _ _ => ?_)).trans ?_ | with_reducible refine (State.regs_waiting_foldl _ _ _ (fun _ _ => ?_)).trans ?_ | with_reducible refine (State.regs_stale_foldl _ _ _ (fun _ _ => ?_)).trans ?_ | with_reducible refine (State.regs_posted_foldl _ _ _ (fun _ _ => ?_)).trans ?_ | with_reducible refine (State.fd_mem_foldl _ _ _ (fun _ _ => ?_)).trans ?_ | with_reducible refine (State.dm_sram_foldl _ _ _ (fun _ _ => ?_)).trans ?_ | with_reducible refine (State.sq_frameNo_foldl _ _ _ (fun _ _ => ?_)).trans ?_ | with_reducible refine (State.sq_inScan_foldl _ _ _ (fun _ _ => ?_)).trans ?_ | with_reducible refine (State.sq_nextBoundary_foldl _ _ _ (fun _ _ => ?_)).trans ?_ | with_reducible refine (State.pw_gate_foldl _ _ _ (fun _ _ => ?_)).trans ?_ | (dsimp only; first | split | with_reducible refine (State.regs_setA_foldl _ _ _ (fun _ _ => ?_)).trans ?_ | with_reducible refine (State.regs_setB_foldl _ _ _ (fun _ _ => ?_)).trans ?_ | with_reducible refine (State.regs_one_foldl _ _ _ (fun _ _ => ?_)).trans ?_ | with_reducible refine (State.regs_rsvd_foldl _ _ _ (fun _ _ => ?_)).trans ?_ | with_reducible refine (State.regs_waiting_foldl _ _ _ (fun _ _ => ?_)).trans ?_ | with_reducible refine (State.regs_stale_foldl _ _ _ (fun _ _ => ?_)).trans ?_ | with_reducible refine (State.regs_posted_foldl _ _ _ (fun _ _ => ?_)).trans ?_ | with_reducible refine (State.fd_mem_foldl _ _ _ (fun _ _ => ?_)).trans ?_ | with_reducible refine (State.dm_sram_foldl _ _ _ (fun _ _ => ?_)).trans ?_ | with_reducible refine (State.sq_frameNo_foldl _ _ _ (fun _ _ => ?_)).trans ?_ | with_reducible refine (State.sq_inScan_foldl _ _ _ (fun _ _ => ?_)).trans ?_ | with_reducible refine (State.sq_nextBoundary_foldl _ _ _ (fun _ _ => ?_)).trans ?_ | with_reducible refine (State.pw_gate_foldl _ _ _ (fun _ _ => ?_)).trans ?_)))

@[simp] theorem State.aqHear_parts (s : State) (b : Nat) (f : AqFire) :
    (s.aqHear b f).regs.setA = s.regs.setA ∧ (s.aqHear b f).regs.setB = s.regs.setB ∧ (s.aqHear b f).regs.one = s.regs.one ∧
    (s.aqHear b f).regs.rsvd = s.regs.rsvd ∧ (s.aqHear b f).regs.waiting = s.regs.waiting ∧
    (s.aqHear b f).regs.stale = s.regs.stale ∧ (s.aqHear b f).regs.posted = s.regs.posted := by
  and_intros <;> (unfold State.aqHear; repeat' (first | with_reducible rfl | (simp; done) | split | with_reducible refine (State.regs_setA_foldl _ _ _ (fun _ _ => ?_)).trans ?_ | with_reducible refine (State.regs_setB_foldl _ _ _ (fun _ _ => ?_)).trans ?_ | with_reducible refine (State.regs_one_foldl _ _ _ (fun _ _ => ?_)).trans ?_ | with_reducible refine (State.regs_rsvd_foldl _ _ _ (fun _ _ => ?_)).trans ?_ | with_reducible refine (State.regs_waiting_foldl _ _ _ (fun _ _ => ?_)).trans ?_ | with_reducible refine (State.regs_stale_foldl _ _ _ (fun _ _ => ?_)).trans ?_ | with_reducible refine (State.regs_posted_foldl _ _ _ (fun _ _ => ?_)).trans ?_ | with_reducible refine (State.fd_mem_foldl _ _ _ (fun _ _ => ?_)).trans ?_ | with_reducible refine (State.dm_sram_foldl _ _ _ (fun _ _ => ?_)).trans ?_ | with_reducible refine (State.sq_frameNo_foldl _ _ _ (fun _ _ => ?_)).trans ?_ | with_reducible refine (State.sq_inScan_foldl _ _ _ (fun _ _ => ?_)).trans ?_ | with_reducible refine (State.sq_nextBoundary_foldl _ _ _ (fun _ _ => ?_)).trans ?_ | with_reducible refine (State.pw_gate_foldl _ _ _ (fun _ _ => ?_)).trans ?_ | (dsimp only; first | split | with_reducible refine (State.regs_setA_foldl _ _ _ (fun _ _ => ?_)).trans ?_ | with_reducible refine (State.regs_setB_foldl _ _ _ (fun _ _ => ?_)).trans ?_ | with_reducible refine (State.regs_one_foldl _ _ _ (fun _ _ => ?_)).trans ?_ | with_reducible refine (State.regs_rsvd_foldl _ _ _ (fun _ _ => ?_)).trans ?_ | with_reducible refine (State.regs_waiting_foldl _ _ _ (fun _ _ => ?_)).trans ?_ | with_reducible refine (State.regs_stale_foldl _ _ _ (fun _ _ => ?_)).trans ?_ | with_reducible refine (State.regs_posted_foldl _ _ _ (fun _ _ => ?_)).trans ?_ | with_reducible refine (State.fd_mem_foldl _ _ _ (fun _ _ => ?_)).trans ?_ | with_reducible refine (State.dm_sram_foldl _ _ _ (fun _ _ => ?_)).trans ?_ | with_reducible refine (State.sq_frameNo_foldl _ _ _ (fun _ _ => ?_)).trans ?_ | with_reducible refine (State.sq_inScan_foldl _ _ _ (fun _ _ => ?_)).trans ?_ | with_reducible refine (State.sq_nextBoundary_foldl _ _ _ (fun _ _ => ?_)).trans ?_ | with_reducible refine (State.pw_gate_foldl _ _ _ (fun _ _ => ?_)).trans ?_)))

@[simp] theorem State.aqPass_parts (s : State) (b : Nat) :
    (s.aqPass b).regs.setA = s.regs.setA ∧ (s.aqPass b).regs.setB = s.regs.setB ∧ (s.aqPass b).regs.one = s.regs.one ∧
    (s.aqPass b).regs.rsvd = s.regs.rsvd ∧ (s.aqPass b).regs.waiting = s.regs.waiting ∧
    (s.aqPass b).regs.stale = s.regs.stale ∧ (s.aqPass b).regs.posted = s.regs.posted := by
  and_intros <;> (unfold State.aqPass; repeat' (first | with_reducible rfl | (simp; done) | split | with_reducible refine (State.regs_setA_foldl _ _ _ (fun _ _ => ?_)).trans ?_ | with_reducible refine (State.regs_setB_foldl _ _ _ (fun _ _ => ?_)).trans ?_ | with_reducible refine (State.regs_one_foldl _ _ _ (fun _ _ => ?_)).trans ?_ | with_reducible refine (State.regs_rsvd_foldl _ _ _ (fun _ _ => ?_)).trans ?_ | with_reducible refine (State.regs_waiting_foldl _ _ _ (fun _ _ => ?_)).trans ?_ | with_reducible refine (State.regs_stale_foldl _ _ _ (fun _ _ => ?_)).trans ?_ | with_reducible refine (State.regs_posted_foldl _ _ _ (fun _ _ => ?_)).trans ?_ | with_reducible refine (State.fd_mem_foldl _ _ _ (fun _ _ => ?_)).trans ?_ | with_reducible refine (State.dm_sram_foldl _ _ _ (fun _ _ => ?_)).trans ?_ | with_reducible refine (State.sq_frameNo_foldl _ _ _ (fun _ _ => ?_)).trans ?_ | with_reducible refine (State.sq_inScan_foldl _ _ _ (fun _ _ => ?_)).trans ?_ | with_reducible refine (State.sq_nextBoundary_foldl _ _ _ (fun _ _ => ?_)).trans ?_ | with_reducible refine (State.pw_gate_foldl _ _ _ (fun _ _ => ?_)).trans ?_ | (dsimp only; first | split | with_reducible refine (State.regs_setA_foldl _ _ _ (fun _ _ => ?_)).trans ?_ | with_reducible refine (State.regs_setB_foldl _ _ _ (fun _ _ => ?_)).trans ?_ | with_reducible refine (State.regs_one_foldl _ _ _ (fun _ _ => ?_)).trans ?_ | with_reducible refine (State.regs_rsvd_foldl _ _ _ (fun _ _ => ?_)).trans ?_ | with_reducible refine (State.regs_waiting_foldl _ _ _ (fun _ _ => ?_)).trans ?_ | with_reducible refine (State.regs_stale_foldl _ _ _ (fun _ _ => ?_)).trans ?_ | with_reducible refine (State.regs_posted_foldl _ _ _ (fun _ _ => ?_)).trans ?_ | with_reducible refine (State.fd_mem_foldl _ _ _ (fun _ _ => ?_)).trans ?_ | with_reducible refine (State.dm_sram_foldl _ _ _ (fun _ _ => ?_)).trans ?_ | with_reducible refine (State.sq_frameNo_foldl _ _ _ (fun _ _ => ?_)).trans ?_ | with_reducible refine (State.sq_inScan_foldl _ _ _ (fun _ _ => ?_)).trans ?_ | with_reducible refine (State.sq_nextBoundary_foldl _ _ _ (fun _ _ => ?_)).trans ?_ | with_reducible refine (State.pw_gate_foldl _ _ _ (fun _ _ => ?_)).trans ?_)))

@[simp] theorem State.aqTake_parts (s : State) (b : Nat) (vals : List Score) (seq : Nat) :
    (s.aqTake b vals seq).regs.setA = s.regs.setA ∧ (s.aqTake b vals seq).regs.setB = s.regs.setB ∧
    (s.aqTake b vals seq).regs.one = s.regs.one ∧ (s.aqTake b vals seq).regs.rsvd = s.regs.rsvd ∧
    (s.aqTake b vals seq).regs.waiting = s.regs.waiting ∧ (s.aqTake b vals seq).regs.stale = s.regs.stale ∧
    (s.aqTake b vals seq).regs.posted = s.regs.posted := by
  and_intros <;> (unfold State.aqTake; repeat' (first | with_reducible rfl | (simp; done) | split | with_reducible refine (State.regs_setA_foldl _ _ _ (fun _ _ => ?_)).trans ?_ | with_reducible refine (State.regs_setB_foldl _ _ _ (fun _ _ => ?_)).trans ?_ | with_reducible refine (State.regs_one_foldl _ _ _ (fun _ _ => ?_)).trans ?_ | with_reducible refine (State.regs_rsvd_foldl _ _ _ (fun _ _ => ?_)).trans ?_ | with_reducible refine (State.regs_waiting_foldl _ _ _ (fun _ _ => ?_)).trans ?_ | with_reducible refine (State.regs_stale_foldl _ _ _ (fun _ _ => ?_)).trans ?_ | with_reducible refine (State.regs_posted_foldl _ _ _ (fun _ _ => ?_)).trans ?_ | with_reducible refine (State.fd_mem_foldl _ _ _ (fun _ _ => ?_)).trans ?_ | with_reducible refine (State.dm_sram_foldl _ _ _ (fun _ _ => ?_)).trans ?_ | with_reducible refine (State.sq_frameNo_foldl _ _ _ (fun _ _ => ?_)).trans ?_ | with_reducible refine (State.sq_inScan_foldl _ _ _ (fun _ _ => ?_)).trans ?_ | with_reducible refine (State.sq_nextBoundary_foldl _ _ _ (fun _ _ => ?_)).trans ?_ | with_reducible refine (State.pw_gate_foldl _ _ _ (fun _ _ => ?_)).trans ?_ | (dsimp only; first | split | with_reducible refine (State.regs_setA_foldl _ _ _ (fun _ _ => ?_)).trans ?_ | with_reducible refine (State.regs_setB_foldl _ _ _ (fun _ _ => ?_)).trans ?_ | with_reducible refine (State.regs_one_foldl _ _ _ (fun _ _ => ?_)).trans ?_ | with_reducible refine (State.regs_rsvd_foldl _ _ _ (fun _ _ => ?_)).trans ?_ | with_reducible refine (State.regs_waiting_foldl _ _ _ (fun _ _ => ?_)).trans ?_ | with_reducible refine (State.regs_stale_foldl _ _ _ (fun _ _ => ?_)).trans ?_ | with_reducible refine (State.regs_posted_foldl _ _ _ (fun _ _ => ?_)).trans ?_ | with_reducible refine (State.fd_mem_foldl _ _ _ (fun _ _ => ?_)).trans ?_ | with_reducible refine (State.dm_sram_foldl _ _ _ (fun _ _ => ?_)).trans ?_ | with_reducible refine (State.sq_frameNo_foldl _ _ _ (fun _ _ => ?_)).trans ?_ | with_reducible refine (State.sq_inScan_foldl _ _ _ (fun _ _ => ?_)).trans ?_ | with_reducible refine (State.sq_nextBoundary_foldl _ _ _ (fun _ _ => ?_)).trans ?_ | with_reducible refine (State.pw_gate_foldl _ _ _ (fun _ _ => ?_)).trans ?_)))

@[simp] theorem State.aqOffer_parts (s : State) (b : Nat) (vals : List Score) (seq : Nat) :
    (s.aqOffer b vals seq).regs.setA = s.regs.setA ∧ (s.aqOffer b vals seq).regs.setB = s.regs.setB ∧
    (s.aqOffer b vals seq).regs.one = s.regs.one ∧ (s.aqOffer b vals seq).regs.rsvd = s.regs.rsvd ∧
    (s.aqOffer b vals seq).regs.waiting = s.regs.waiting ∧ (s.aqOffer b vals seq).regs.stale = s.regs.stale ∧
    (s.aqOffer b vals seq).regs.posted = s.regs.posted := by
  and_intros <;> (unfold State.aqOffer; repeat' (first | with_reducible rfl | (simp; done) | split | with_reducible refine (State.regs_setA_foldl _ _ _ (fun _ _ => ?_)).trans ?_ | with_reducible refine (State.regs_setB_foldl _ _ _ (fun _ _ => ?_)).trans ?_ | with_reducible refine (State.regs_one_foldl _ _ _ (fun _ _ => ?_)).trans ?_ | with_reducible refine (State.regs_rsvd_foldl _ _ _ (fun _ _ => ?_)).trans ?_ | with_reducible refine (State.regs_waiting_foldl _ _ _ (fun _ _ => ?_)).trans ?_ | with_reducible refine (State.regs_stale_foldl _ _ _ (fun _ _ => ?_)).trans ?_ | with_reducible refine (State.regs_posted_foldl _ _ _ (fun _ _ => ?_)).trans ?_ | with_reducible refine (State.fd_mem_foldl _ _ _ (fun _ _ => ?_)).trans ?_ | with_reducible refine (State.dm_sram_foldl _ _ _ (fun _ _ => ?_)).trans ?_ | with_reducible refine (State.sq_frameNo_foldl _ _ _ (fun _ _ => ?_)).trans ?_ | with_reducible refine (State.sq_inScan_foldl _ _ _ (fun _ _ => ?_)).trans ?_ | with_reducible refine (State.sq_nextBoundary_foldl _ _ _ (fun _ _ => ?_)).trans ?_ | with_reducible refine (State.pw_gate_foldl _ _ _ (fun _ _ => ?_)).trans ?_ | (dsimp only; first | split | with_reducible refine (State.regs_setA_foldl _ _ _ (fun _ _ => ?_)).trans ?_ | with_reducible refine (State.regs_setB_foldl _ _ _ (fun _ _ => ?_)).trans ?_ | with_reducible refine (State.regs_one_foldl _ _ _ (fun _ _ => ?_)).trans ?_ | with_reducible refine (State.regs_rsvd_foldl _ _ _ (fun _ _ => ?_)).trans ?_ | with_reducible refine (State.regs_waiting_foldl _ _ _ (fun _ _ => ?_)).trans ?_ | with_reducible refine (State.regs_stale_foldl _ _ _ (fun _ _ => ?_)).trans ?_ | with_reducible refine (State.regs_posted_foldl _ _ _ (fun _ _ => ?_)).trans ?_ | with_reducible refine (State.fd_mem_foldl _ _ _ (fun _ _ => ?_)).trans ?_ | with_reducible refine (State.dm_sram_foldl _ _ _ (fun _ _ => ?_)).trans ?_ | with_reducible refine (State.sq_frameNo_foldl _ _ _ (fun _ _ => ?_)).trans ?_ | with_reducible refine (State.sq_inScan_foldl _ _ _ (fun _ _ => ?_)).trans ?_ | with_reducible refine (State.sq_nextBoundary_foldl _ _ _ (fun _ _ => ?_)).trans ?_ | with_reducible refine (State.pw_gate_foldl _ _ _ (fun _ _ => ?_)).trans ?_)))

@[simp] theorem State.aqStream_parts (s : State) (src : AqSrc) (v : Score) :
    (s.aqStream src v).regs.setA = s.regs.setA ∧ (s.aqStream src v).regs.setB = s.regs.setB ∧
    (s.aqStream src v).regs.one = s.regs.one ∧ (s.aqStream src v).regs.rsvd = s.regs.rsvd ∧
    (s.aqStream src v).regs.waiting = s.regs.waiting ∧ (s.aqStream src v).regs.stale = s.regs.stale ∧
    (s.aqStream src v).regs.posted = s.regs.posted := by
  and_intros <;> (unfold State.aqStream; repeat' (first | with_reducible rfl | (simp; done) | split | with_reducible refine (State.regs_setA_foldl _ _ _ (fun _ _ => ?_)).trans ?_ | with_reducible refine (State.regs_setB_foldl _ _ _ (fun _ _ => ?_)).trans ?_ | with_reducible refine (State.regs_one_foldl _ _ _ (fun _ _ => ?_)).trans ?_ | with_reducible refine (State.regs_rsvd_foldl _ _ _ (fun _ _ => ?_)).trans ?_ | with_reducible refine (State.regs_waiting_foldl _ _ _ (fun _ _ => ?_)).trans ?_ | with_reducible refine (State.regs_stale_foldl _ _ _ (fun _ _ => ?_)).trans ?_ | with_reducible refine (State.regs_posted_foldl _ _ _ (fun _ _ => ?_)).trans ?_ | with_reducible refine (State.fd_mem_foldl _ _ _ (fun _ _ => ?_)).trans ?_ | with_reducible refine (State.dm_sram_foldl _ _ _ (fun _ _ => ?_)).trans ?_ | with_reducible refine (State.sq_frameNo_foldl _ _ _ (fun _ _ => ?_)).trans ?_ | with_reducible refine (State.sq_inScan_foldl _ _ _ (fun _ _ => ?_)).trans ?_ | with_reducible refine (State.sq_nextBoundary_foldl _ _ _ (fun _ _ => ?_)).trans ?_ | with_reducible refine (State.pw_gate_foldl _ _ _ (fun _ _ => ?_)).trans ?_ | (dsimp only; first | split | with_reducible refine (State.regs_setA_foldl _ _ _ (fun _ _ => ?_)).trans ?_ | with_reducible refine (State.regs_setB_foldl _ _ _ (fun _ _ => ?_)).trans ?_ | with_reducible refine (State.regs_one_foldl _ _ _ (fun _ _ => ?_)).trans ?_ | with_reducible refine (State.regs_rsvd_foldl _ _ _ (fun _ _ => ?_)).trans ?_ | with_reducible refine (State.regs_waiting_foldl _ _ _ (fun _ _ => ?_)).trans ?_ | with_reducible refine (State.regs_stale_foldl _ _ _ (fun _ _ => ?_)).trans ?_ | with_reducible refine (State.regs_posted_foldl _ _ _ (fun _ _ => ?_)).trans ?_ | with_reducible refine (State.fd_mem_foldl _ _ _ (fun _ _ => ?_)).trans ?_ | with_reducible refine (State.dm_sram_foldl _ _ _ (fun _ _ => ?_)).trans ?_ | with_reducible refine (State.sq_frameNo_foldl _ _ _ (fun _ _ => ?_)).trans ?_ | with_reducible refine (State.sq_inScan_foldl _ _ _ (fun _ _ => ?_)).trans ?_ | with_reducible refine (State.sq_nextBoundary_foldl _ _ _ (fun _ _ => ?_)).trans ?_ | with_reducible refine (State.pw_gate_foldl _ _ _ (fun _ _ => ?_)).trans ?_)))

@[simp] theorem State.samplerBegin_parts (s : State) (tile start : Nat) :
    (s.samplerBegin tile start).regs.setA = s.regs.setA ∧ (s.samplerBegin tile start).regs.setB = s.regs.setB ∧
    (s.samplerBegin tile start).regs.one = s.regs.one ∧ (s.samplerBegin tile start).regs.rsvd = s.regs.rsvd ∧
    (s.samplerBegin tile start).regs.waiting = s.regs.waiting ∧ (s.samplerBegin tile start).regs.stale = s.regs.stale ∧
    (s.samplerBegin tile start).regs.posted = s.regs.posted := by
  and_intros <;> (unfold State.samplerBegin; repeat' (first | with_reducible rfl | (simp; done) | split | with_reducible refine (State.regs_setA_foldl _ _ _ (fun _ _ => ?_)).trans ?_ | with_reducible refine (State.regs_setB_foldl _ _ _ (fun _ _ => ?_)).trans ?_ | with_reducible refine (State.regs_one_foldl _ _ _ (fun _ _ => ?_)).trans ?_ | with_reducible refine (State.regs_rsvd_foldl _ _ _ (fun _ _ => ?_)).trans ?_ | with_reducible refine (State.regs_waiting_foldl _ _ _ (fun _ _ => ?_)).trans ?_ | with_reducible refine (State.regs_stale_foldl _ _ _ (fun _ _ => ?_)).trans ?_ | with_reducible refine (State.regs_posted_foldl _ _ _ (fun _ _ => ?_)).trans ?_ | with_reducible refine (State.fd_mem_foldl _ _ _ (fun _ _ => ?_)).trans ?_ | with_reducible refine (State.dm_sram_foldl _ _ _ (fun _ _ => ?_)).trans ?_ | with_reducible refine (State.sq_frameNo_foldl _ _ _ (fun _ _ => ?_)).trans ?_ | with_reducible refine (State.sq_inScan_foldl _ _ _ (fun _ _ => ?_)).trans ?_ | with_reducible refine (State.sq_nextBoundary_foldl _ _ _ (fun _ _ => ?_)).trans ?_ | with_reducible refine (State.pw_gate_foldl _ _ _ (fun _ _ => ?_)).trans ?_ | (dsimp only; first | split | with_reducible refine (State.regs_setA_foldl _ _ _ (fun _ _ => ?_)).trans ?_ | with_reducible refine (State.regs_setB_foldl _ _ _ (fun _ _ => ?_)).trans ?_ | with_reducible refine (State.regs_one_foldl _ _ _ (fun _ _ => ?_)).trans ?_ | with_reducible refine (State.regs_rsvd_foldl _ _ _ (fun _ _ => ?_)).trans ?_ | with_reducible refine (State.regs_waiting_foldl _ _ _ (fun _ _ => ?_)).trans ?_ | with_reducible refine (State.regs_stale_foldl _ _ _ (fun _ _ => ?_)).trans ?_ | with_reducible refine (State.regs_posted_foldl _ _ _ (fun _ _ => ?_)).trans ?_ | with_reducible refine (State.fd_mem_foldl _ _ _ (fun _ _ => ?_)).trans ?_ | with_reducible refine (State.dm_sram_foldl _ _ _ (fun _ _ => ?_)).trans ?_ | with_reducible refine (State.sq_frameNo_foldl _ _ _ (fun _ _ => ?_)).trans ?_ | with_reducible refine (State.sq_inScan_foldl _ _ _ (fun _ _ => ?_)).trans ?_ | with_reducible refine (State.sq_nextBoundary_foldl _ _ _ (fun _ _ => ?_)).trans ?_ | with_reducible refine (State.pw_gate_foldl _ _ _ (fun _ _ => ?_)).trans ?_)))

@[simp] theorem State.aqArmSampler_parts (s : State) (tile : Nat) :
    (s.aqArmSampler tile).regs.setA = s.regs.setA ∧ (s.aqArmSampler tile).regs.setB = s.regs.setB ∧
    (s.aqArmSampler tile).regs.one = s.regs.one ∧ (s.aqArmSampler tile).regs.rsvd = s.regs.rsvd ∧
    (s.aqArmSampler tile).regs.waiting = s.regs.waiting ∧ (s.aqArmSampler tile).regs.stale = s.regs.stale ∧
    (s.aqArmSampler tile).regs.posted = s.regs.posted := by
  and_intros <;> (unfold State.aqArmSampler; repeat' (first | with_reducible rfl | (simp; done) | split | with_reducible refine (State.regs_setA_foldl _ _ _ (fun _ _ => ?_)).trans ?_ | with_reducible refine (State.regs_setB_foldl _ _ _ (fun _ _ => ?_)).trans ?_ | with_reducible refine (State.regs_one_foldl _ _ _ (fun _ _ => ?_)).trans ?_ | with_reducible refine (State.regs_rsvd_foldl _ _ _ (fun _ _ => ?_)).trans ?_ | with_reducible refine (State.regs_waiting_foldl _ _ _ (fun _ _ => ?_)).trans ?_ | with_reducible refine (State.regs_stale_foldl _ _ _ (fun _ _ => ?_)).trans ?_ | with_reducible refine (State.regs_posted_foldl _ _ _ (fun _ _ => ?_)).trans ?_ | with_reducible refine (State.fd_mem_foldl _ _ _ (fun _ _ => ?_)).trans ?_ | with_reducible refine (State.dm_sram_foldl _ _ _ (fun _ _ => ?_)).trans ?_ | with_reducible refine (State.sq_frameNo_foldl _ _ _ (fun _ _ => ?_)).trans ?_ | with_reducible refine (State.sq_inScan_foldl _ _ _ (fun _ _ => ?_)).trans ?_ | with_reducible refine (State.sq_nextBoundary_foldl _ _ _ (fun _ _ => ?_)).trans ?_ | with_reducible refine (State.pw_gate_foldl _ _ _ (fun _ _ => ?_)).trans ?_ | (dsimp only; first | split | with_reducible refine (State.regs_setA_foldl _ _ _ (fun _ _ => ?_)).trans ?_ | with_reducible refine (State.regs_setB_foldl _ _ _ (fun _ _ => ?_)).trans ?_ | with_reducible refine (State.regs_one_foldl _ _ _ (fun _ _ => ?_)).trans ?_ | with_reducible refine (State.regs_rsvd_foldl _ _ _ (fun _ _ => ?_)).trans ?_ | with_reducible refine (State.regs_waiting_foldl _ _ _ (fun _ _ => ?_)).trans ?_ | with_reducible refine (State.regs_stale_foldl _ _ _ (fun _ _ => ?_)).trans ?_ | with_reducible refine (State.regs_posted_foldl _ _ _ (fun _ _ => ?_)).trans ?_ | with_reducible refine (State.fd_mem_foldl _ _ _ (fun _ _ => ?_)).trans ?_ | with_reducible refine (State.dm_sram_foldl _ _ _ (fun _ _ => ?_)).trans ?_ | with_reducible refine (State.sq_frameNo_foldl _ _ _ (fun _ _ => ?_)).trans ?_ | with_reducible refine (State.sq_inScan_foldl _ _ _ (fun _ _ => ?_)).trans ?_ | with_reducible refine (State.sq_nextBoundary_foldl _ _ _ (fun _ _ => ?_)).trans ?_ | with_reducible refine (State.pw_gate_foldl _ _ _ (fun _ _ => ?_)).trans ?_)))

@[simp] theorem State.aqCopyBlock_parts (s : State) (tile : Nat) :
    (s.aqCopyBlock tile).regs.setA = s.regs.setA ∧ (s.aqCopyBlock tile).regs.setB = s.regs.setB ∧
    (s.aqCopyBlock tile).regs.one = s.regs.one ∧ (s.aqCopyBlock tile).regs.rsvd = s.regs.rsvd ∧
    (s.aqCopyBlock tile).regs.waiting = s.regs.waiting ∧ (s.aqCopyBlock tile).regs.stale = s.regs.stale ∧
    (s.aqCopyBlock tile).regs.posted = s.regs.posted := by
  and_intros <;> (unfold State.aqCopyBlock; repeat' (first | with_reducible rfl | (simp; done) | split | with_reducible refine (State.regs_setA_foldl _ _ _ (fun _ _ => ?_)).trans ?_ | with_reducible refine (State.regs_setB_foldl _ _ _ (fun _ _ => ?_)).trans ?_ | with_reducible refine (State.regs_one_foldl _ _ _ (fun _ _ => ?_)).trans ?_ | with_reducible refine (State.regs_rsvd_foldl _ _ _ (fun _ _ => ?_)).trans ?_ | with_reducible refine (State.regs_waiting_foldl _ _ _ (fun _ _ => ?_)).trans ?_ | with_reducible refine (State.regs_stale_foldl _ _ _ (fun _ _ => ?_)).trans ?_ | with_reducible refine (State.regs_posted_foldl _ _ _ (fun _ _ => ?_)).trans ?_ | with_reducible refine (State.fd_mem_foldl _ _ _ (fun _ _ => ?_)).trans ?_ | with_reducible refine (State.dm_sram_foldl _ _ _ (fun _ _ => ?_)).trans ?_ | with_reducible refine (State.sq_frameNo_foldl _ _ _ (fun _ _ => ?_)).trans ?_ | with_reducible refine (State.sq_inScan_foldl _ _ _ (fun _ _ => ?_)).trans ?_ | with_reducible refine (State.sq_nextBoundary_foldl _ _ _ (fun _ _ => ?_)).trans ?_ | with_reducible refine (State.pw_gate_foldl _ _ _ (fun _ _ => ?_)).trans ?_ | (dsimp only; first | split | with_reducible refine (State.regs_setA_foldl _ _ _ (fun _ _ => ?_)).trans ?_ | with_reducible refine (State.regs_setB_foldl _ _ _ (fun _ _ => ?_)).trans ?_ | with_reducible refine (State.regs_one_foldl _ _ _ (fun _ _ => ?_)).trans ?_ | with_reducible refine (State.regs_rsvd_foldl _ _ _ (fun _ _ => ?_)).trans ?_ | with_reducible refine (State.regs_waiting_foldl _ _ _ (fun _ _ => ?_)).trans ?_ | with_reducible refine (State.regs_stale_foldl _ _ _ (fun _ _ => ?_)).trans ?_ | with_reducible refine (State.regs_posted_foldl _ _ _ (fun _ _ => ?_)).trans ?_ | with_reducible refine (State.fd_mem_foldl _ _ _ (fun _ _ => ?_)).trans ?_ | with_reducible refine (State.dm_sram_foldl _ _ _ (fun _ _ => ?_)).trans ?_ | with_reducible refine (State.sq_frameNo_foldl _ _ _ (fun _ _ => ?_)).trans ?_ | with_reducible refine (State.sq_inScan_foldl _ _ _ (fun _ _ => ?_)).trans ?_ | with_reducible refine (State.sq_nextBoundary_foldl _ _ _ (fun _ _ => ?_)).trans ?_ | with_reducible refine (State.pw_gate_foldl _ _ _ (fun _ _ => ?_)).trans ?_)))

@[simp] theorem State.aqSamplerArm_parts (s : State) (tile : Nat) :
    (s.aqSamplerArm tile).regs.setA = s.regs.setA ∧ (s.aqSamplerArm tile).regs.setB = s.regs.setB ∧
    (s.aqSamplerArm tile).regs.one = s.regs.one ∧ (s.aqSamplerArm tile).regs.rsvd = s.regs.rsvd ∧
    (s.aqSamplerArm tile).regs.waiting = s.regs.waiting ∧ (s.aqSamplerArm tile).regs.stale = s.regs.stale ∧
    (s.aqSamplerArm tile).regs.posted = s.regs.posted := by
  and_intros <;> (unfold State.aqSamplerArm; repeat' (first | with_reducible rfl | (simp; done) | split | with_reducible refine (State.regs_setA_foldl _ _ _ (fun _ _ => ?_)).trans ?_ | with_reducible refine (State.regs_setB_foldl _ _ _ (fun _ _ => ?_)).trans ?_ | with_reducible refine (State.regs_one_foldl _ _ _ (fun _ _ => ?_)).trans ?_ | with_reducible refine (State.regs_rsvd_foldl _ _ _ (fun _ _ => ?_)).trans ?_ | with_reducible refine (State.regs_waiting_foldl _ _ _ (fun _ _ => ?_)).trans ?_ | with_reducible refine (State.regs_stale_foldl _ _ _ (fun _ _ => ?_)).trans ?_ | with_reducible refine (State.regs_posted_foldl _ _ _ (fun _ _ => ?_)).trans ?_ | with_reducible refine (State.fd_mem_foldl _ _ _ (fun _ _ => ?_)).trans ?_ | with_reducible refine (State.dm_sram_foldl _ _ _ (fun _ _ => ?_)).trans ?_ | with_reducible refine (State.sq_frameNo_foldl _ _ _ (fun _ _ => ?_)).trans ?_ | with_reducible refine (State.sq_inScan_foldl _ _ _ (fun _ _ => ?_)).trans ?_ | with_reducible refine (State.sq_nextBoundary_foldl _ _ _ (fun _ _ => ?_)).trans ?_ | with_reducible refine (State.pw_gate_foldl _ _ _ (fun _ _ => ?_)).trans ?_ | (dsimp only; first | split | with_reducible refine (State.regs_setA_foldl _ _ _ (fun _ _ => ?_)).trans ?_ | with_reducible refine (State.regs_setB_foldl _ _ _ (fun _ _ => ?_)).trans ?_ | with_reducible refine (State.regs_one_foldl _ _ _ (fun _ _ => ?_)).trans ?_ | with_reducible refine (State.regs_rsvd_foldl _ _ _ (fun _ _ => ?_)).trans ?_ | with_reducible refine (State.regs_waiting_foldl _ _ _ (fun _ _ => ?_)).trans ?_ | with_reducible refine (State.regs_stale_foldl _ _ _ (fun _ _ => ?_)).trans ?_ | with_reducible refine (State.regs_posted_foldl _ _ _ (fun _ _ => ?_)).trans ?_ | with_reducible refine (State.fd_mem_foldl _ _ _ (fun _ _ => ?_)).trans ?_ | with_reducible refine (State.dm_sram_foldl _ _ _ (fun _ _ => ?_)).trans ?_ | with_reducible refine (State.sq_frameNo_foldl _ _ _ (fun _ _ => ?_)).trans ?_ | with_reducible refine (State.sq_inScan_foldl _ _ _ (fun _ _ => ?_)).trans ?_ | with_reducible refine (State.sq_nextBoundary_foldl _ _ _ (fun _ _ => ?_)).trans ?_ | with_reducible refine (State.pw_gate_foldl _ _ _ (fun _ _ => ?_)).trans ?_)))

end Sys2Proof.Machine
end

