-- ==== Sys2Proof/Laws/FrameShepherd.lean ====
section
/-!
SUPPORT. The frames of the operations of Machine/Shepherd.lean: the parts of the state that each of them leaves as they were.
-/

set_option linter.unusedTactic false
set_option linter.unreachableTactic false
set_option linter.unusedSimpArgs false

namespace Sys2Proof.Machine

@[simp] theorem State.reseed_frame (s : State) :
    (s.reseed).now = s.now ∧ (s.reseed).phase = s.phase ∧ (s.reseed).pending = s.pending ∧ (s.reseed).nodeOfs = s.nodeOfs ∧
    (s.reseed).freeCtr = s.freeCtr ∧ (s.reseed).tx = s.tx ∧ (s.reseed).regs = s.regs ∧ (s.reseed).tl = s.tl := by
  and_intros <;> (unfold State.reseed; repeat' (first | with_reducible rfl | (simp; done) | split | with_reducible refine (foldl_inv _ _ _ _ (fun _ _ => ?_)).trans ?_ | (dsimp only; first | split | with_reducible refine (foldl_inv _ _ _ _ (fun _ _ => ?_)).trans ?_)))

@[simp] theorem State.reseed_frame2 (s : State) :
    (s.reseed).fd = s.fd ∧ (s.reseed).ex = s.ex ∧ (s.reseed).sv = s.sv ∧ (s.reseed).ax = s.ax ∧ (s.reseed).aq = s.aq ∧
    (s.reseed).il = s.il ∧ (s.reseed).ln = s.ln ∧ (s.reseed).fl = s.fl := by
  and_intros <;> (unfold State.reseed; repeat' (first | with_reducible rfl | (simp; done) | split | with_reducible refine (foldl_inv _ _ _ _ (fun _ _ => ?_)).trans ?_ | (dsimp only; first | split | with_reducible refine (foldl_inv _ _ _ _ (fun _ _ => ?_)).trans ?_)))

@[simp] theorem State.reseed_frame3 (s : State) :
    (s.reseed).ev = s.ev ∧ (s.reseed).safe = s.safe ∧ (s.reseed).dm = s.dm ∧ (s.reseed).cm = s.cm ∧ (s.reseed).cf = s.cf ∧
    (s.reseed).pw = s.pw ∧ (s.reseed).th = s.th := by
  and_intros <;> (unfold State.reseed; repeat' (first | with_reducible rfl | (simp; done) | split | with_reducible refine (foldl_inv _ _ _ _ (fun _ _ => ?_)).trans ?_ | (dsimp only; first | split | with_reducible refine (foldl_inv _ _ _ _ (fun _ _ => ?_)).trans ?_)))

@[simp] theorem State.govAdd_frame (s : State) (e x : Nat) :
    (s.govAdd e x).now = s.now ∧ (s.govAdd e x).phase = s.phase ∧ (s.govAdd e x).pending = s.pending ∧
    (s.govAdd e x).nodeOfs = s.nodeOfs ∧ (s.govAdd e x).freeCtr = s.freeCtr ∧ (s.govAdd e x).tx = s.tx ∧
    (s.govAdd e x).regs = s.regs ∧ (s.govAdd e x).tl = s.tl := by
  and_intros <;> (unfold State.govAdd; repeat' (first | with_reducible rfl | (simp; done) | split | with_reducible refine (foldl_inv _ _ _ _ (fun _ _ => ?_)).trans ?_ | (dsimp only; first | split | with_reducible refine (foldl_inv _ _ _ _ (fun _ _ => ?_)).trans ?_)))

@[simp] theorem State.govAdd_frame2 (s : State) (e x : Nat) :
    (s.govAdd e x).fd = s.fd ∧ (s.govAdd e x).ex = s.ex ∧ (s.govAdd e x).sv = s.sv ∧ (s.govAdd e x).ax = s.ax ∧
    (s.govAdd e x).aq = s.aq ∧ (s.govAdd e x).il = s.il ∧ (s.govAdd e x).ln = s.ln ∧ (s.govAdd e x).fl = s.fl := by
  and_intros <;> (unfold State.govAdd; repeat' (first | with_reducible rfl | (simp; done) | split | with_reducible refine (foldl_inv _ _ _ _ (fun _ _ => ?_)).trans ?_ | (dsimp only; first | split | with_reducible refine (foldl_inv _ _ _ _ (fun _ _ => ?_)).trans ?_)))

@[simp] theorem State.govAdd_frame3 (s : State) (e x : Nat) :
    (s.govAdd e x).ev = s.ev ∧ (s.govAdd e x).safe = s.safe ∧ (s.govAdd e x).dm = s.dm ∧ (s.govAdd e x).cm = s.cm ∧
    (s.govAdd e x).cf = s.cf ∧ (s.govAdd e x).pw = s.pw ∧ (s.govAdd e x).th = s.th := by
  and_intros <;> (unfold State.govAdd; repeat' (first | with_reducible rfl | (simp; done) | split | with_reducible refine (foldl_inv _ _ _ _ (fun _ _ => ?_)).trans ?_ | (dsimp only; first | split | with_reducible refine (foldl_inv _ _ _ _ (fun _ _ => ?_)).trans ?_)))

@[simp] theorem State.takeCopy_frame (s : State) :
    (s.takeCopy).now = s.now ∧ (s.takeCopy).phase = s.phase ∧ (s.takeCopy).pending = s.pending ∧
    (s.takeCopy).nodeOfs = s.nodeOfs ∧ (s.takeCopy).freeCtr = s.freeCtr ∧ (s.takeCopy).tx = s.tx ∧
    (s.takeCopy).regs = s.regs ∧ (s.takeCopy).tl = s.tl := by
  and_intros <;> (unfold State.takeCopy; repeat' (first | with_reducible rfl | (simp; done) | split | with_reducible refine (foldl_inv _ _ _ _ (fun _ _ => ?_)).trans ?_ | (dsimp only; first | split | with_reducible refine (foldl_inv _ _ _ _ (fun _ _ => ?_)).trans ?_)))

@[simp] theorem State.takeCopy_frame2 (s : State) :
    (s.takeCopy).fd = s.fd ∧ (s.takeCopy).ex = s.ex ∧ (s.takeCopy).sv = s.sv ∧ (s.takeCopy).ax = s.ax ∧
    (s.takeCopy).aq = s.aq ∧ (s.takeCopy).il = s.il ∧ (s.takeCopy).ln = s.ln ∧ (s.takeCopy).fl = s.fl := by
  and_intros <;> (unfold State.takeCopy; repeat' (first | with_reducible rfl | (simp; done) | split | with_reducible refine (foldl_inv _ _ _ _ (fun _ _ => ?_)).trans ?_ | (dsimp only; first | split | with_reducible refine (foldl_inv _ _ _ _ (fun _ _ => ?_)).trans ?_)))

@[simp] theorem State.takeCopy_frame3 (s : State) :
    (s.takeCopy).ev = s.ev ∧ (s.takeCopy).safe = s.safe ∧ (s.takeCopy).dm = s.dm ∧ (s.takeCopy).cm = s.cm ∧
    (s.takeCopy).cf = s.cf ∧ (s.takeCopy).pw = s.pw ∧ (s.takeCopy).th = s.th := by
  and_intros <;> (unfold State.takeCopy; repeat' (first | with_reducible rfl | (simp; done) | split | with_reducible refine (foldl_inv _ _ _ _ (fun _ _ => ?_)).trans ?_ | (dsimp only; first | split | with_reducible refine (foldl_inv _ _ _ _ (fun _ _ => ?_)).trans ?_)))

@[simp] theorem State.tableErrOnce_frame (s : State) (i : Nat) :
    (s.tableErrOnce i).now = s.now ∧ (s.tableErrOnce i).phase = s.phase ∧ (s.tableErrOnce i).pending = s.pending ∧
    (s.tableErrOnce i).nodeOfs = s.nodeOfs ∧ (s.tableErrOnce i).freeCtr = s.freeCtr ∧ (s.tableErrOnce i).tx = s.tx ∧
    (s.tableErrOnce i).regs = s.regs ∧ (s.tableErrOnce i).tl = s.tl := by
  and_intros <;> (unfold State.tableErrOnce; repeat' (first | with_reducible rfl | (simp; done) | split | with_reducible refine (foldl_inv _ _ _ _ (fun _ _ => ?_)).trans ?_ | (dsimp only; first | split | with_reducible refine (foldl_inv _ _ _ _ (fun _ _ => ?_)).trans ?_)))

@[simp] theorem State.tableErrOnce_frame2 (s : State) (i : Nat) :
    (s.tableErrOnce i).sq = s.sq ∧ (s.tableErrOnce i).fd = s.fd ∧ (s.tableErrOnce i).ex = s.ex ∧
    (s.tableErrOnce i).sv = s.sv ∧ (s.tableErrOnce i).ax = s.ax ∧ (s.tableErrOnce i).aq = s.aq ∧
    (s.tableErrOnce i).il = s.il ∧ (s.tableErrOnce i).ln = s.ln := by
  and_intros <;> (unfold State.tableErrOnce; repeat' (first | with_reducible rfl | (simp; done) | split | with_reducible refine (foldl_inv _ _ _ _ (fun _ _ => ?_)).trans ?_ | (dsimp only; first | split | with_reducible refine (foldl_inv _ _ _ _ (fun _ _ => ?_)).trans ?_)))

@[simp] theorem State.tableErrOnce_frame3 (s : State) (i : Nat) :
    (s.tableErrOnce i).fl = s.fl ∧ (s.tableErrOnce i).safe = s.safe ∧ (s.tableErrOnce i).dm = s.dm ∧
    (s.tableErrOnce i).cm = s.cm ∧ (s.tableErrOnce i).cf = s.cf ∧ (s.tableErrOnce i).pw = s.pw ∧
    (s.tableErrOnce i).th = s.th := by
  and_intros <;> (unfold State.tableErrOnce; repeat' (first | with_reducible rfl | (simp; done) | split | with_reducible refine (foldl_inv _ _ _ _ (fun _ _ => ?_)).trans ?_ | (dsimp only; first | split | with_reducible refine (foldl_inv _ _ _ _ (fun _ _ => ?_)).trans ?_)))

@[simp] theorem State.tableErr_frame (s : State) (bad : List Nat) :
    (s.tableErr bad).now = s.now ∧ (s.tableErr bad).phase = s.phase ∧ (s.tableErr bad).pending = s.pending ∧
    (s.tableErr bad).nodeOfs = s.nodeOfs ∧ (s.tableErr bad).freeCtr = s.freeCtr ∧ (s.tableErr bad).tx = s.tx ∧
    (s.tableErr bad).tl = s.tl ∧ (s.tableErr bad).sq = s.sq := by
  and_intros <;> (unfold State.tableErr; repeat' (first | with_reducible rfl | (simp; done) | split | with_reducible refine (foldl_inv _ _ _ _ (fun _ _ => ?_)).trans ?_ | (dsimp only; first | split | with_reducible refine (foldl_inv _ _ _ _ (fun _ _ => ?_)).trans ?_)))

@[simp] theorem State.tableErr_frame2 (s : State) (bad : List Nat) :
    (s.tableErr bad).fd = s.fd ∧ (s.tableErr bad).ex = s.ex ∧ (s.tableErr bad).sv = s.sv ∧ (s.tableErr bad).ax = s.ax ∧
    (s.tableErr bad).aq = s.aq ∧ (s.tableErr bad).il = s.il ∧ (s.tableErr bad).ln = s.ln ∧ (s.tableErr bad).fl = s.fl := by
  and_intros <;> (unfold State.tableErr; repeat' (first | with_reducible rfl | (simp; done) | split | with_reducible refine (foldl_inv _ _ _ _ (fun _ _ => ?_)).trans ?_ | (dsimp only; first | split | with_reducible refine (foldl_inv _ _ _ _ (fun _ _ => ?_)).trans ?_)))

@[simp] theorem State.tableErr_frame3 (s : State) (bad : List Nat) :
    (s.tableErr bad).safe = s.safe ∧ (s.tableErr bad).dm = s.dm ∧ (s.tableErr bad).cm = s.cm ∧ (s.tableErr bad).cf = s.cf ∧
    (s.tableErr bad).pw = s.pw ∧ (s.tableErr bad).th = s.th := by
  and_intros <;> (unfold State.tableErr; repeat' (first | with_reducible rfl | (simp; done) | split | with_reducible refine (foldl_inv _ _ _ _ (fun _ _ => ?_)).trans ?_ | (dsimp only; first | split | with_reducible refine (foldl_inv _ _ _ _ (fun _ _ => ?_)).trans ?_)))

@[simp] theorem State.beginCycle_frame (s : State) (y : Cycle) :
    (s.beginCycle y).now = s.now ∧ (s.beginCycle y).phase = s.phase ∧ (s.beginCycle y).pending = s.pending ∧
    (s.beginCycle y).nodeOfs = s.nodeOfs ∧ (s.beginCycle y).freeCtr = s.freeCtr ∧ (s.beginCycle y).tx = s.tx ∧
    (s.beginCycle y).tl = s.tl ∧ (s.beginCycle y).fd = s.fd := by
  and_intros <;> (unfold State.beginCycle; repeat' (first | with_reducible rfl | (simp; done) | split | with_reducible refine (foldl_inv _ _ _ _ (fun _ _ => ?_)).trans ?_ | (dsimp only; first | split | with_reducible refine (foldl_inv _ _ _ _ (fun _ _ => ?_)).trans ?_)))

@[simp] theorem State.beginCycle_frame2 (s : State) (y : Cycle) :
    (s.beginCycle y).ex = s.ex ∧ (s.beginCycle y).sv = s.sv ∧ (s.beginCycle y).ax = s.ax ∧ (s.beginCycle y).aq = s.aq ∧
    (s.beginCycle y).il = s.il ∧ (s.beginCycle y).ln = s.ln ∧ (s.beginCycle y).fl = s.fl ∧ (s.beginCycle y).safe = s.safe := by
  and_intros <;> (unfold State.beginCycle; repeat' (first | with_reducible rfl | (simp; done) | split | with_reducible refine (foldl_inv _ _ _ _ (fun _ _ => ?_)).trans ?_ | (dsimp only; first | split | with_reducible refine (foldl_inv _ _ _ _ (fun _ _ => ?_)).trans ?_)))

@[simp] theorem State.beginCycle_frame3 (s : State) (y : Cycle) :
    (s.beginCycle y).dm = s.dm ∧ (s.beginCycle y).cm = s.cm ∧ (s.beginCycle y).cf = s.cf ∧ (s.beginCycle y).pw = s.pw ∧
    (s.beginCycle y).th = s.th := by
  and_intros <;> (unfold State.beginCycle; repeat' (first | with_reducible rfl | (simp; done) | split | with_reducible refine (foldl_inv _ _ _ _ (fun _ _ => ?_)).trans ?_ | (dsimp only; first | split | with_reducible refine (foldl_inv _ _ _ _ (fun _ _ => ?_)).trans ?_)))

@[simp] theorem State.countReached_frame (s : State) (e : Nat) :
    (s.countReached e).now = s.now ∧ (s.countReached e).phase = s.phase ∧ (s.countReached e).pending = s.pending ∧
    (s.countReached e).nodeOfs = s.nodeOfs ∧ (s.countReached e).freeCtr = s.freeCtr ∧ (s.countReached e).tx = s.tx ∧
    (s.countReached e).regs = s.regs ∧ (s.countReached e).tl = s.tl := by
  and_intros <;> (unfold State.countReached; repeat' (first | with_reducible rfl | (simp; done) | split | with_reducible refine (foldl_inv _ _ _ _ (fun _ _ => ?_)).trans ?_ | (dsimp only; first | split | with_reducible refine (foldl_inv _ _ _ _ (fun _ _ => ?_)).trans ?_)))

@[simp] theorem State.countReached_frame2 (s : State) (e : Nat) :
    (s.countReached e).fd = s.fd ∧ (s.countReached e).ex = s.ex ∧ (s.countReached e).sv = s.sv ∧
    (s.countReached e).ax = s.ax ∧ (s.countReached e).aq = s.aq ∧ (s.countReached e).il = s.il ∧
    (s.countReached e).ln = s.ln ∧ (s.countReached e).fl = s.fl := by
  and_intros <;> (unfold State.countReached; repeat' (first | with_reducible rfl | (simp; done) | split | with_reducible refine (foldl_inv _ _ _ _ (fun _ _ => ?_)).trans ?_ | (dsimp only; first | split | with_reducible refine (foldl_inv _ _ _ _ (fun _ _ => ?_)).trans ?_)))

@[simp] theorem State.countReached_frame3 (s : State) (e : Nat) :
    (s.countReached e).ev = s.ev ∧ (s.countReached e).safe = s.safe ∧ (s.countReached e).dm = s.dm ∧
    (s.countReached e).cm = s.cm ∧ (s.countReached e).cf = s.cf ∧ (s.countReached e).pw = s.pw ∧
    (s.countReached e).th = s.th := by
  and_intros <;> (unfold State.countReached; repeat' (first | with_reducible rfl | (simp; done) | split | with_reducible refine (foldl_inv _ _ _ _ (fun _ _ => ?_)).trans ?_ | (dsimp only; first | split | with_reducible refine (foldl_inv _ _ _ _ (fun _ _ => ?_)).trans ?_)))

@[simp] theorem State.countFired_frame (s : State) (e : Nat) :
    (s.countFired e).now = s.now ∧ (s.countFired e).phase = s.phase ∧ (s.countFired e).pending = s.pending ∧
    (s.countFired e).nodeOfs = s.nodeOfs ∧ (s.countFired e).freeCtr = s.freeCtr ∧ (s.countFired e).tx = s.tx ∧
    (s.countFired e).regs = s.regs ∧ (s.countFired e).tl = s.tl := by
  and_intros <;> (unfold State.countFired; repeat' (first | with_reducible rfl | (simp; done) | split | with_reducible refine (foldl_inv _ _ _ _ (fun _ _ => ?_)).trans ?_ | (dsimp only; first | split | with_reducible refine (foldl_inv _ _ _ _ (fun _ _ => ?_)).trans ?_)))

@[simp] theorem State.countFired_frame2 (s : State) (e : Nat) :
    (s.countFired e).fd = s.fd ∧ (s.countFired e).ex = s.ex ∧ (s.countFired e).sv = s.sv ∧ (s.countFired e).ax = s.ax ∧
    (s.countFired e).aq = s.aq ∧ (s.countFired e).il = s.il ∧ (s.countFired e).ln = s.ln ∧ (s.countFired e).fl = s.fl := by
  and_intros <;> (unfold State.countFired; repeat' (first | with_reducible rfl | (simp; done) | split | with_reducible refine (foldl_inv _ _ _ _ (fun _ _ => ?_)).trans ?_ | (dsimp only; first | split | with_reducible refine (foldl_inv _ _ _ _ (fun _ _ => ?_)).trans ?_)))

@[simp] theorem State.countFired_frame3 (s : State) (e : Nat) :
    (s.countFired e).ev = s.ev ∧ (s.countFired e).safe = s.safe ∧ (s.countFired e).dm = s.dm ∧ (s.countFired e).cm = s.cm ∧
    (s.countFired e).cf = s.cf ∧ (s.countFired e).pw = s.pw ∧ (s.countFired e).th = s.th := by
  and_intros <;> (unfold State.countFired; repeat' (first | with_reducible rfl | (simp; done) | split | with_reducible refine (foldl_inv _ _ _ _ (fun _ _ => ?_)).trans ?_ | (dsimp only; first | split | with_reducible refine (foldl_inv _ _ _ _ (fun _ _ => ?_)).trans ?_)))

@[simp] theorem State.stepLfsr_frame (s : State) (e : Nat) :
    (s.stepLfsr e).1.now = s.now ∧ (s.stepLfsr e).1.phase = s.phase ∧ (s.stepLfsr e).1.pending = s.pending ∧
    (s.stepLfsr e).1.nodeOfs = s.nodeOfs ∧ (s.stepLfsr e).1.freeCtr = s.freeCtr ∧ (s.stepLfsr e).1.tx = s.tx ∧
    (s.stepLfsr e).1.regs = s.regs ∧ (s.stepLfsr e).1.tl = s.tl := by
  and_intros <;> (unfold State.stepLfsr; repeat' (first | with_reducible rfl | (simp; done) | split | with_reducible refine (foldl_inv _ _ _ _ (fun _ _ => ?_)).trans ?_ | (dsimp only; first | split | with_reducible refine (foldl_inv _ _ _ _ (fun _ _ => ?_)).trans ?_)))

@[simp] theorem State.stepLfsr_frame2 (s : State) (e : Nat) :
    (s.stepLfsr e).1.fd = s.fd ∧ (s.stepLfsr e).1.ex = s.ex ∧ (s.stepLfsr e).1.sv = s.sv ∧ (s.stepLfsr e).1.ax = s.ax ∧
    (s.stepLfsr e).1.aq = s.aq ∧ (s.stepLfsr e).1.il = s.il ∧ (s.stepLfsr e).1.ln = s.ln ∧ (s.stepLfsr e).1.fl = s.fl := by
  and_intros <;> (unfold State.stepLfsr; repeat' (first | with_reducible rfl | (simp; done) | split | with_reducible refine (foldl_inv _ _ _ _ (fun _ _ => ?_)).trans ?_ | (dsimp only; first | split | with_reducible refine (foldl_inv _ _ _ _ (fun _ _ => ?_)).trans ?_)))

@[simp] theorem State.stepLfsr_frame3 (s : State) (e : Nat) :
    (s.stepLfsr e).1.ev = s.ev ∧ (s.stepLfsr e).1.safe = s.safe ∧ (s.stepLfsr e).1.dm = s.dm ∧ (s.stepLfsr e).1.cm = s.cm ∧
    (s.stepLfsr e).1.cf = s.cf ∧ (s.stepLfsr e).1.pw = s.pw ∧ (s.stepLfsr e).1.th = s.th := by
  and_intros <;> (unfold State.stepLfsr; repeat' (first | with_reducible rfl | (simp; done) | split | with_reducible refine (foldl_inv _ _ _ _ (fun _ _ => ?_)).trans ?_ | (dsimp only; first | split | with_reducible refine (foldl_inv _ _ _ _ (fun _ _ => ?_)).trans ?_)))

@[simp] theorem State.dropScan_frame (s : State) (n : Nat) :
    (s.dropScan n).now = s.now ∧ (s.dropScan n).phase = s.phase ∧ (s.dropScan n).pending = s.pending ∧
    (s.dropScan n).nodeOfs = s.nodeOfs ∧ (s.dropScan n).freeCtr = s.freeCtr ∧ (s.dropScan n).tx = s.tx ∧
    (s.dropScan n).tl = s.tl ∧ (s.dropScan n).fd = s.fd := by
  and_intros <;> (unfold State.dropScan; repeat' (first | with_reducible rfl | (simp; done) | split | with_reducible refine (foldl_inv _ _ _ _ (fun _ _ => ?_)).trans ?_ | (dsimp only; first | split | with_reducible refine (foldl_inv _ _ _ _ (fun _ _ => ?_)).trans ?_)))

@[simp] theorem State.dropScan_frame2 (s : State) (n : Nat) :
    (s.dropScan n).ex = s.ex ∧ (s.dropScan n).sv = s.sv ∧ (s.dropScan n).ax = s.ax ∧ (s.dropScan n).aq = s.aq ∧
    (s.dropScan n).il = s.il ∧ (s.dropScan n).ln = s.ln ∧ (s.dropScan n).fl = s.fl ∧ (s.dropScan n).ev = s.ev := by
  and_intros <;> (unfold State.dropScan; repeat' (first | with_reducible rfl | (simp; done) | split | with_reducible refine (foldl_inv _ _ _ _ (fun _ _ => ?_)).trans ?_ | (dsimp only; first | split | with_reducible refine (foldl_inv _ _ _ _ (fun _ _ => ?_)).trans ?_)))

@[simp] theorem State.dropScan_frame3 (s : State) (n : Nat) :
    (s.dropScan n).safe = s.safe ∧ (s.dropScan n).dm = s.dm ∧ (s.dropScan n).cm = s.cm ∧ (s.dropScan n).cf = s.cf ∧
    (s.dropScan n).pw = s.pw ∧ (s.dropScan n).th = s.th := by
  and_intros <;> (unfold State.dropScan; repeat' (first | with_reducible rfl | (simp; done) | split | with_reducible refine (foldl_inv _ _ _ _ (fun _ _ => ?_)).trans ?_ | (dsimp only; first | split | with_reducible refine (foldl_inv _ _ _ _ (fun _ _ => ?_)).trans ?_)))

@[simp] theorem State.fireShot_frame (s : State) (y : Cycle) (x : ShotEntry) (d : Nat) :
    (s.fireShot y x d).now = s.now ∧ (s.fireShot y x d).phase = s.phase ∧ (s.fireShot y x d).pending = s.pending ∧
    (s.fireShot y x d).nodeOfs = s.nodeOfs ∧ (s.fireShot y x d).freeCtr = s.freeCtr ∧ (s.fireShot y x d).ex = s.ex ∧
    (s.fireShot y x d).sv = s.sv ∧ (s.fireShot y x d).ax = s.ax := by
  and_intros <;> (unfold State.fireShot; repeat' (first | with_reducible rfl | (simp; done) | split | with_reducible refine (foldl_inv _ _ _ _ (fun _ _ => ?_)).trans ?_ | (dsimp only; first | split | with_reducible refine (foldl_inv _ _ _ _ (fun _ _ => ?_)).trans ?_)))

@[simp] theorem State.fireShot_frame2 (s : State) (y : Cycle) (x : ShotEntry) (d : Nat) :
    (s.fireShot y x d).il = s.il ∧ (s.fireShot y x d).ln = s.ln ∧ (s.fireShot y x d).safe = s.safe ∧
    (s.fireShot y x d).dm = s.dm ∧ (s.fireShot y x d).cm = s.cm ∧ (s.fireShot y x d).cf = s.cf ∧
    (s.fireShot y x d).pw = s.pw ∧ (s.fireShot y x d).th = s.th := by
  and_intros <;> (unfold State.fireShot; repeat' (first | with_reducible rfl | (simp; done) | split | with_reducible refine (foldl_inv _ _ _ _ (fun _ _ => ?_)).trans ?_ | (dsimp only; first | split | with_reducible refine (foldl_inv _ _ _ _ (fun _ _ => ?_)).trans ?_)))

@[simp] theorem State.commitShot_frame (s : State) (y : Cycle) (x : ShotEntry) :
    (s.commitShot y x).now = s.now ∧ (s.commitShot y x).phase = s.phase ∧ (s.commitShot y x).pending = s.pending ∧
    (s.commitShot y x).nodeOfs = s.nodeOfs ∧ (s.commitShot y x).freeCtr = s.freeCtr ∧ (s.commitShot y x).ex = s.ex ∧
    (s.commitShot y x).sv = s.sv ∧ (s.commitShot y x).ax = s.ax := by
  and_intros <;> (unfold State.commitShot; repeat' (first | with_reducible rfl | (simp; done) | split | with_reducible refine (foldl_inv _ _ _ _ (fun _ _ => ?_)).trans ?_ | (dsimp only; first | split | with_reducible refine (foldl_inv _ _ _ _ (fun _ _ => ?_)).trans ?_)))

@[simp] theorem State.commitShot_frame2 (s : State) (y : Cycle) (x : ShotEntry) :
    (s.commitShot y x).il = s.il ∧ (s.commitShot y x).ln = s.ln ∧ (s.commitShot y x).safe = s.safe ∧
    (s.commitShot y x).dm = s.dm ∧ (s.commitShot y x).cm = s.cm ∧ (s.commitShot y x).cf = s.cf ∧
    (s.commitShot y x).pw = s.pw ∧ (s.commitShot y x).th = s.th := by
  and_intros <;> (unfold State.commitShot; repeat' (first | with_reducible rfl | (simp; done) | split | with_reducible refine (foldl_inv _ _ _ _ (fun _ _ => ?_)).trans ?_ | (dsimp only; first | split | with_reducible refine (foldl_inv _ _ _ _ (fun _ _ => ?_)).trans ?_)))

@[simp] theorem State.passInvalid_frame (s : State) (y : Cycle) (x : ShotEntry) :
    (s.passInvalid y x).now = s.now ∧ (s.passInvalid y x).phase = s.phase ∧ (s.passInvalid y x).pending = s.pending ∧
    (s.passInvalid y x).nodeOfs = s.nodeOfs ∧ (s.passInvalid y x).freeCtr = s.freeCtr ∧ (s.passInvalid y x).tx = s.tx ∧
    (s.passInvalid y x).tl = s.tl ∧ (s.passInvalid y x).fd = s.fd := by
  and_intros <;> (unfold State.passInvalid; repeat' (first | with_reducible rfl | (simp; done) | split | with_reducible refine (foldl_inv _ _ _ _ (fun _ _ => ?_)).trans ?_ | (dsimp only; first | split | with_reducible refine (foldl_inv _ _ _ _ (fun _ _ => ?_)).trans ?_)))

@[simp] theorem State.passInvalid_frame2 (s : State) (y : Cycle) (x : ShotEntry) :
    (s.passInvalid y x).ex = s.ex ∧ (s.passInvalid y x).sv = s.sv ∧ (s.passInvalid y x).ax = s.ax ∧
    (s.passInvalid y x).aq = s.aq ∧ (s.passInvalid y x).il = s.il ∧ (s.passInvalid y x).ln = s.ln ∧
    (s.passInvalid y x).fl = s.fl ∧ (s.passInvalid y x).ev = s.ev := by
  and_intros <;> (unfold State.passInvalid; repeat' (first | with_reducible rfl | (simp; done) | split | with_reducible refine (foldl_inv _ _ _ _ (fun _ _ => ?_)).trans ?_ | (dsimp only; first | split | with_reducible refine (foldl_inv _ _ _ _ (fun _ _ => ?_)).trans ?_)))

@[simp] theorem State.passInvalid_frame3 (s : State) (y : Cycle) (x : ShotEntry) :
    (s.passInvalid y x).safe = s.safe ∧ (s.passInvalid y x).dm = s.dm ∧ (s.passInvalid y x).cm = s.cm ∧
    (s.passInvalid y x).cf = s.cf ∧ (s.passInvalid y x).pw = s.pw ∧ (s.passInvalid y x).th = s.th := by
  and_intros <;> (unfold State.passInvalid; repeat' (first | with_reducible rfl | (simp; done) | split | with_reducible refine (foldl_inv _ _ _ _ (fun _ _ => ?_)).trans ?_ | (dsimp only; first | split | with_reducible refine (foldl_inv _ _ _ _ (fun _ _ => ?_)).trans ?_)))

@[simp] theorem State.sqCntClr_frame (s : State) :
    (s.sqCntClr).now = s.now ∧ (s.sqCntClr).phase = s.phase ∧ (s.sqCntClr).pending = s.pending ∧
    (s.sqCntClr).nodeOfs = s.nodeOfs ∧ (s.sqCntClr).freeCtr = s.freeCtr ∧ (s.sqCntClr).tx = s.tx ∧ (s.sqCntClr).tl = s.tl ∧
    (s.sqCntClr).sq = s.sq := by
  and_intros <;> (unfold State.sqCntClr; repeat' (first | with_reducible rfl | (simp; done) | split | with_reducible refine (foldl_inv _ _ _ _ (fun _ _ => ?_)).trans ?_ | (dsimp only; first | split | with_reducible refine (foldl_inv _ _ _ _ (fun _ _ => ?_)).trans ?_)))

@[simp] theorem State.sqCntClr_frame2 (s : State) :
    (s.sqCntClr).fd = s.fd ∧ (s.sqCntClr).ex = s.ex ∧ (s.sqCntClr).sv = s.sv ∧ (s.sqCntClr).ax = s.ax ∧
    (s.sqCntClr).aq = s.aq ∧ (s.sqCntClr).il = s.il ∧ (s.sqCntClr).ln = s.ln ∧ (s.sqCntClr).fl = s.fl := by
  and_intros <;> (unfold State.sqCntClr; repeat' (first | with_reducible rfl | (simp; done) | split | with_reducible refine (foldl_inv _ _ _ _ (fun _ _ => ?_)).trans ?_ | (dsimp only; first | split | with_reducible refine (foldl_inv _ _ _ _ (fun _ _ => ?_)).trans ?_)))

@[simp] theorem State.sqCntClr_frame3 (s : State) :
    (s.sqCntClr).ev = s.ev ∧ (s.sqCntClr).safe = s.safe ∧ (s.sqCntClr).dm = s.dm ∧ (s.sqCntClr).cm = s.cm ∧
    (s.sqCntClr).cf = s.cf ∧ (s.sqCntClr).pw = s.pw ∧ (s.sqCntClr).th = s.th := by
  and_intros <;> (unfold State.sqCntClr; repeat' (first | with_reducible rfl | (simp; done) | split | with_reducible refine (foldl_inv _ _ _ _ (fun _ _ => ?_)).trans ?_ | (dsimp only; first | split | with_reducible refine (foldl_inv _ _ _ _ (fun _ _ => ?_)).trans ?_)))

@[simp] theorem State.reseed_parts (s : State) :
    (s.reseed).sq.frameNo = s.sq.frameNo ∧ (s.reseed).sq.inScan = s.sq.inScan ∧
    (s.reseed).sq.nextBoundary = s.sq.nextBoundary := by
  and_intros <;> (unfold State.reseed; repeat' (first | with_reducible rfl | (simp; done) | split | with_reducible refine (State.regs_setA_foldl _ _ _ (fun _ _ => ?_)).trans ?_ | with_reducible refine (State.regs_setB_foldl _ _ _ (fun _ _ => ?_)).trans ?_ | with_reducible refine (State.regs_one_foldl _ _ _ (fun _ _ => ?_)).trans ?_ | with_reducible refine (State.regs_rsvd_foldl _ _ _ (fun _ _ => ?_)).trans ?_ | with_reducible refine (State.regs_waiting_foldl _ _ _ (fun _ _ => ?_)).trans ?_ | with_reducible refine (State.regs_stale_foldl _ _ _ (fun _ _ => ?_)).trans ?_ | with_reducible refine (State.regs_posted_foldl _ _ _ (fun _ _ => ?_)).trans ?_ | with_reducible refine (State.fd_mem_foldl _ _ _ (fun _ _ => ?_)).trans ?_ | with_reducible refine (State.dm_sram_foldl _ _ _ (fun _ _ => ?_)).trans ?_ | with_reducible refine (State.sq_frameNo_foldl _ _ _ (fun _ _ => ?_)).trans ?_ | with_reducible refine (State.sq_inScan_foldl _ _ _ (fun _ _ => ?_)).trans ?_ | with_reducible refine (State.sq_nextBoundary_foldl _ _ _ (fun _ _ => ?_)).trans ?_ | with_reducible refine (State.pw_gate_foldl _ _ _ (fun _ _ => ?_)).trans ?_ | (dsimp only; first | split | with_reducible refine (State.regs_setA_foldl _ _ _ (fun _ _ => ?_)).trans ?_ | with_reducible refine (State.regs_setB_foldl _ _ _ (fun _ _ => ?_)).trans ?_ | with_reducible refine (State.regs_one_foldl _ _ _ (fun _ _ => ?_)).trans ?_ | with_reducible refine (State.regs_rsvd_foldl _ _ _ (fun _ _ => ?_)).trans ?_ | with_reducible refine (State.regs_waiting_foldl _ _ _ (fun _ _ => ?_)).trans ?_ | with_reducible refine (State.regs_stale_foldl _ _ _ (fun _ _ => ?_)).trans ?_ | with_reducible refine (State.regs_posted_foldl _ _ _ (fun _ _ => ?_)).trans ?_ | with_reducible refine (State.fd_mem_foldl _ _ _ (fun _ _ => ?_)).trans ?_ | with_reducible refine (State.dm_sram_foldl _ _ _ (fun _ _ => ?_)).trans ?_ | with_reducible refine (State.sq_frameNo_foldl _ _ _ (fun _ _ => ?_)).trans ?_ | with_reducible refine (State.sq_inScan_foldl _ _ _ (fun _ _ => ?_)).trans ?_ | with_reducible refine (State.sq_nextBoundary_foldl _ _ _ (fun _ _ => ?_)).trans ?_ | with_reducible refine (State.pw_gate_foldl _ _ _ (fun _ _ => ?_)).trans ?_)))

@[simp] theorem State.govAdd_parts (s : State) (e x : Nat) :
    (s.govAdd e x).sq.frameNo = s.sq.frameNo ∧ (s.govAdd e x).sq.inScan = s.sq.inScan ∧
    (s.govAdd e x).sq.nextBoundary = s.sq.nextBoundary := by
  and_intros <;> (unfold State.govAdd; repeat' (first | with_reducible rfl | (simp; done) | split | with_reducible refine (State.regs_setA_foldl _ _ _ (fun _ _ => ?_)).trans ?_ | with_reducible refine (State.regs_setB_foldl _ _ _ (fun _ _ => ?_)).trans ?_ | with_reducible refine (State.regs_one_foldl _ _ _ (fun _ _ => ?_)).trans ?_ | with_reducible refine (State.regs_rsvd_foldl _ _ _ (fun _ _ => ?_)).trans ?_ | with_reducible refine (State.regs_waiting_foldl _ _ _ (fun _ _ => ?_)).trans ?_ | with_reducible refine (State.regs_stale_foldl _ _ _ (fun _ _ => ?_)).trans ?_ | with_reducible refine (State.regs_posted_foldl _ _ _ (fun _ _ => ?_)).trans ?_ | with_reducible refine (State.fd_mem_foldl _ _ _ (fun _ _ => ?_)).trans ?_ | with_reducible refine (State.dm_sram_foldl _ _ _ (fun _ _ => ?_)).trans ?_ | with_reducible refine (State.sq_frameNo_foldl _ _ _ (fun _ _ => ?_)).trans ?_ | with_reducible refine (State.sq_inScan_foldl _ _ _ (fun _ _ => ?_)).trans ?_ | with_reducible refine (State.sq_nextBoundary_foldl _ _ _ (fun _ _ => ?_)).trans ?_ | with_reducible refine (State.pw_gate_foldl _ _ _ (fun _ _ => ?_)).trans ?_ | (dsimp only; first | split | with_reducible refine (State.regs_setA_foldl _ _ _ (fun _ _ => ?_)).trans ?_ | with_reducible refine (State.regs_setB_foldl _ _ _ (fun _ _ => ?_)).trans ?_ | with_reducible refine (State.regs_one_foldl _ _ _ (fun _ _ => ?_)).trans ?_ | with_reducible refine (State.regs_rsvd_foldl _ _ _ (fun _ _ => ?_)).trans ?_ | with_reducible refine (State.regs_waiting_foldl _ _ _ (fun _ _ => ?_)).trans ?_ | with_reducible refine (State.regs_stale_foldl _ _ _ (fun _ _ => ?_)).trans ?_ | with_reducible refine (State.regs_posted_foldl _ _ _ (fun _ _ => ?_)).trans ?_ | with_reducible refine (State.fd_mem_foldl _ _ _ (fun _ _ => ?_)).trans ?_ | with_reducible refine (State.dm_sram_foldl _ _ _ (fun _ _ => ?_)).trans ?_ | with_reducible refine (State.sq_frameNo_foldl _ _ _ (fun _ _ => ?_)).trans ?_ | with_reducible refine (State.sq_inScan_foldl _ _ _ (fun _ _ => ?_)).trans ?_ | with_reducible refine (State.sq_nextBoundary_foldl _ _ _ (fun _ _ => ?_)).trans ?_ | with_reducible refine (State.pw_gate_foldl _ _ _ (fun _ _ => ?_)).trans ?_)))

@[simp] theorem State.takeCopy_parts (s : State) :
    (s.takeCopy).sq.frameNo = s.sq.frameNo ∧ (s.takeCopy).sq.inScan = s.sq.inScan ∧
    (s.takeCopy).sq.nextBoundary = s.sq.nextBoundary := by
  and_intros <;> (unfold State.takeCopy; repeat' (first | with_reducible rfl | (simp; done) | split | with_reducible refine (State.regs_setA_foldl _ _ _ (fun _ _ => ?_)).trans ?_ | with_reducible refine (State.regs_setB_foldl _ _ _ (fun _ _ => ?_)).trans ?_ | with_reducible refine (State.regs_one_foldl _ _ _ (fun _ _ => ?_)).trans ?_ | with_reducible refine (State.regs_rsvd_foldl _ _ _ (fun _ _ => ?_)).trans ?_ | with_reducible refine (State.regs_waiting_foldl _ _ _ (fun _ _ => ?_)).trans ?_ | with_reducible refine (State.regs_stale_foldl _ _ _ (fun _ _ => ?_)).trans ?_ | with_reducible refine (State.regs_posted_foldl _ _ _ (fun _ _ => ?_)).trans ?_ | with_reducible refine (State.fd_mem_foldl _ _ _ (fun _ _ => ?_)).trans ?_ | with_reducible refine (State.dm_sram_foldl _ _ _ (fun _ _ => ?_)).trans ?_ | with_reducible refine (State.sq_frameNo_foldl _ _ _ (fun _ _ => ?_)).trans ?_ | with_reducible refine (State.sq_inScan_foldl _ _ _ (fun _ _ => ?_)).trans ?_ | with_reducible refine (State.sq_nextBoundary_foldl _ _ _ (fun _ _ => ?_)).trans ?_ | with_reducible refine (State.pw_gate_foldl _ _ _ (fun _ _ => ?_)).trans ?_ | (dsimp only; first | split | with_reducible refine (State.regs_setA_foldl _ _ _ (fun _ _ => ?_)).trans ?_ | with_reducible refine (State.regs_setB_foldl _ _ _ (fun _ _ => ?_)).trans ?_ | with_reducible refine (State.regs_one_foldl _ _ _ (fun _ _ => ?_)).trans ?_ | with_reducible refine (State.regs_rsvd_foldl _ _ _ (fun _ _ => ?_)).trans ?_ | with_reducible refine (State.regs_waiting_foldl _ _ _ (fun _ _ => ?_)).trans ?_ | with_reducible refine (State.regs_stale_foldl _ _ _ (fun _ _ => ?_)).trans ?_ | with_reducible refine (State.regs_posted_foldl _ _ _ (fun _ _ => ?_)).trans ?_ | with_reducible refine (State.fd_mem_foldl _ _ _ (fun _ _ => ?_)).trans ?_ | with_reducible refine (State.dm_sram_foldl _ _ _ (fun _ _ => ?_)).trans ?_ | with_reducible refine (State.sq_frameNo_foldl _ _ _ (fun _ _ => ?_)).trans ?_ | with_reducible refine (State.sq_inScan_foldl _ _ _ (fun _ _ => ?_)).trans ?_ | with_reducible refine (State.sq_nextBoundary_foldl _ _ _ (fun _ _ => ?_)).trans ?_ | with_reducible refine (State.pw_gate_foldl _ _ _ (fun _ _ => ?_)).trans ?_)))

@[simp] theorem State.tableErr_parts (s : State) (bad : List Nat) :
    (s.tableErr bad).regs.setA = s.regs.setA ∧ (s.tableErr bad).regs.setB = s.regs.setB ∧
    (s.tableErr bad).regs.one = s.regs.one ∧ (s.tableErr bad).regs.rsvd = s.regs.rsvd ∧
    (s.tableErr bad).regs.waiting = s.regs.waiting ∧ (s.tableErr bad).regs.stale = s.regs.stale ∧
    (s.tableErr bad).regs.posted = s.regs.posted := by
  and_intros <;> (unfold State.tableErr; repeat' (first | with_reducible rfl | (simp; done) | split | with_reducible refine (State.regs_setA_foldl _ _ _ (fun _ _ => ?_)).trans ?_ | with_reducible refine (State.regs_setB_foldl _ _ _ (fun _ _ => ?_)).trans ?_ | with_reducible refine (State.regs_one_foldl _ _ _ (fun _ _ => ?_)).trans ?_ | with_reducible refine (State.regs_rsvd_foldl _ _ _ (fun _ _ => ?_)).trans ?_ | with_reducible refine (State.regs_waiting_foldl _ _ _ (fun _ _ => ?_)).trans ?_ | with_reducible refine (State.regs_stale_foldl _ _ _ (fun _ _ => ?_)).trans ?_ | with_reducible refine (State.regs_posted_foldl _ _ _ (fun _ _ => ?_)).trans ?_ | with_reducible refine (State.fd_mem_foldl _ _ _ (fun _ _ => ?_)).trans ?_ | with_reducible refine (State.dm_sram_foldl _ _ _ (fun _ _ => ?_)).trans ?_ | with_reducible refine (State.sq_frameNo_foldl _ _ _ (fun _ _ => ?_)).trans ?_ | with_reducible refine (State.sq_inScan_foldl _ _ _ (fun _ _ => ?_)).trans ?_ | with_reducible refine (State.sq_nextBoundary_foldl _ _ _ (fun _ _ => ?_)).trans ?_ | with_reducible refine (State.pw_gate_foldl _ _ _ (fun _ _ => ?_)).trans ?_ | (dsimp only; first | split | with_reducible refine (State.regs_setA_foldl _ _ _ (fun _ _ => ?_)).trans ?_ | with_reducible refine (State.regs_setB_foldl _ _ _ (fun _ _ => ?_)).trans ?_ | with_reducible refine (State.regs_one_foldl _ _ _ (fun _ _ => ?_)).trans ?_ | with_reducible refine (State.regs_rsvd_foldl _ _ _ (fun _ _ => ?_)).trans ?_ | with_reducible refine (State.regs_waiting_foldl _ _ _ (fun _ _ => ?_)).trans ?_ | with_reducible refine (State.regs_stale_foldl _ _ _ (fun _ _ => ?_)).trans ?_ | with_reducible refine (State.regs_posted_foldl _ _ _ (fun _ _ => ?_)).trans ?_ | with_reducible refine (State.fd_mem_foldl _ _ _ (fun _ _ => ?_)).trans ?_ | with_reducible refine (State.dm_sram_foldl _ _ _ (fun _ _ => ?_)).trans ?_ | with_reducible refine (State.sq_frameNo_foldl _ _ _ (fun _ _ => ?_)).trans ?_ | with_reducible refine (State.sq_inScan_foldl _ _ _ (fun _ _ => ?_)).trans ?_ | with_reducible refine (State.sq_nextBoundary_foldl _ _ _ (fun _ _ => ?_)).trans ?_ | with_reducible refine (State.pw_gate_foldl _ _ _ (fun _ _ => ?_)).trans ?_)))

@[simp] theorem State.beginCycle_parts (s : State) (y : Cycle) :
    (s.beginCycle y).regs.setA = s.regs.setA ∧ (s.beginCycle y).regs.setB = s.regs.setB ∧
    (s.beginCycle y).regs.one = s.regs.one ∧ (s.beginCycle y).regs.rsvd = s.regs.rsvd ∧
    (s.beginCycle y).regs.waiting = s.regs.waiting ∧ (s.beginCycle y).regs.stale = s.regs.stale ∧
    (s.beginCycle y).regs.posted = s.regs.posted ∧ (s.beginCycle y).sq.frameNo = s.sq.frameNo ∧
    (s.beginCycle y).sq.inScan = s.sq.inScan ∧ (s.beginCycle y).sq.nextBoundary = s.sq.nextBoundary := by
  and_intros <;> (unfold State.beginCycle; repeat' (first | with_reducible rfl | (simp; done) | split | with_reducible refine (State.regs_setA_foldl _ _ _ (fun _ _ => ?_)).trans ?_ | with_reducible refine (State.regs_setB_foldl _ _ _ (fun _ _ => ?_)).trans ?_ | with_reducible refine (State.regs_one_foldl _ _ _ (fun _ _ => ?_)).trans ?_ | with_reducible refine (State.regs_rsvd_foldl _ _ _ (fun _ _ => ?_)).trans ?_ | with_reducible refine (State.regs_waiting_foldl _ _ _ (fun _ _ => ?_)).trans ?_ | with_reducible refine (State.regs_stale_foldl _ _ _ (fun _ _ => ?_)).trans ?_ | with_reducible refine (State.regs_posted_foldl _ _ _ (fun _ _ => ?_)).trans ?_ | with_reducible refine (State.fd_mem_foldl _ _ _ (fun _ _ => ?_)).trans ?_ | with_reducible refine (State.dm_sram_foldl _ _ _ (fun _ _ => ?_)).trans ?_ | with_reducible refine (State.sq_frameNo_foldl _ _ _ (fun _ _ => ?_)).trans ?_ | with_reducible refine (State.sq_inScan_foldl _ _ _ (fun _ _ => ?_)).trans ?_ | with_reducible refine (State.sq_nextBoundary_foldl _ _ _ (fun _ _ => ?_)).trans ?_ | with_reducible refine (State.pw_gate_foldl _ _ _ (fun _ _ => ?_)).trans ?_ | (dsimp only; first | split | with_reducible refine (State.regs_setA_foldl _ _ _ (fun _ _ => ?_)).trans ?_ | with_reducible refine (State.regs_setB_foldl _ _ _ (fun _ _ => ?_)).trans ?_ | with_reducible refine (State.regs_one_foldl _ _ _ (fun _ _ => ?_)).trans ?_ | with_reducible refine (State.regs_rsvd_foldl _ _ _ (fun _ _ => ?_)).trans ?_ | with_reducible refine (State.regs_waiting_foldl _ _ _ (fun _ _ => ?_)).trans ?_ | with_reducible refine (State.regs_stale_foldl _ _ _ (fun _ _ => ?_)).trans ?_ | with_reducible refine (State.regs_posted_foldl _ _ _ (fun _ _ => ?_)).trans ?_ | with_reducible refine (State.fd_mem_foldl _ _ _ (fun _ _ => ?_)).trans ?_ | with_reducible refine (State.dm_sram_foldl _ _ _ (fun _ _ => ?_)).trans ?_ | with_reducible refine (State.sq_frameNo_foldl _ _ _ (fun _ _ => ?_)).trans ?_ | with_reducible refine (State.sq_inScan_foldl _ _ _ (fun _ _ => ?_)).trans ?_ | with_reducible refine (State.sq_nextBoundary_foldl _ _ _ (fun _ _ => ?_)).trans ?_ | with_reducible refine (State.pw_gate_foldl _ _ _ (fun _ _ => ?_)).trans ?_)))

@[simp] theorem State.countReached_parts (s : State) (e : Nat) :
    (s.countReached e).sq.frameNo = s.sq.frameNo ∧ (s.countReached e).sq.inScan = s.sq.inScan ∧
    (s.countReached e).sq.nextBoundary = s.sq.nextBoundary := by
  and_intros <;> (unfold State.countReached; repeat' (first | with_reducible rfl | (simp; done) | split | with_reducible refine (State.regs_setA_foldl _ _ _ (fun _ _ => ?_)).trans ?_ | with_reducible refine (State.regs_setB_foldl _ _ _ (fun _ _ => ?_)).trans ?_ | with_reducible refine (State.regs_one_foldl _ _ _ (fun _ _ => ?_)).trans ?_ | with_reducible refine (State.regs_rsvd_foldl _ _ _ (fun _ _ => ?_)).trans ?_ | with_reducible refine (State.regs_waiting_foldl _ _ _ (fun _ _ => ?_)).trans ?_ | with_reducible refine (State.regs_stale_foldl _ _ _ (fun _ _ => ?_)).trans ?_ | with_reducible refine (State.regs_posted_foldl _ _ _ (fun _ _ => ?_)).trans ?_ | with_reducible refine (State.fd_mem_foldl _ _ _ (fun _ _ => ?_)).trans ?_ | with_reducible refine (State.dm_sram_foldl _ _ _ (fun _ _ => ?_)).trans ?_ | with_reducible refine (State.sq_frameNo_foldl _ _ _ (fun _ _ => ?_)).trans ?_ | with_reducible refine (State.sq_inScan_foldl _ _ _ (fun _ _ => ?_)).trans ?_ | with_reducible refine (State.sq_nextBoundary_foldl _ _ _ (fun _ _ => ?_)).trans ?_ | with_reducible refine (State.pw_gate_foldl _ _ _ (fun _ _ => ?_)).trans ?_ | (dsimp only; first | split | with_reducible refine (State.regs_setA_foldl _ _ _ (fun _ _ => ?_)).trans ?_ | with_reducible refine (State.regs_setB_foldl _ _ _ (fun _ _ => ?_)).trans ?_ | with_reducible refine (State.regs_one_foldl _ _ _ (fun _ _ => ?_)).trans ?_ | with_reducible refine (State.regs_rsvd_foldl _ _ _ (fun _ _ => ?_)).trans ?_ | with_reducible refine (State.regs_waiting_foldl _ _ _ (fun _ _ => ?_)).trans ?_ | with_reducible refine (State.regs_stale_foldl _ _ _ (fun _ _ => ?_)).trans ?_ | with_reducible refine (State.regs_posted_foldl _ _ _ (fun _ _ => ?_)).trans ?_ | with_reducible refine (State.fd_mem_foldl _ _ _ (fun _ _ => ?_)).trans ?_ | with_reducible refine (State.dm_sram_foldl _ _ _ (fun _ _ => ?_)).trans ?_ | with_reducible refine (State.sq_frameNo_foldl _ _ _ (fun _ _ => ?_)).trans ?_ | with_reducible refine (State.sq_inScan_foldl _ _ _ (fun _ _ => ?_)).trans ?_ | with_reducible refine (State.sq_nextBoundary_foldl _ _ _ (fun _ _ => ?_)).trans ?_ | with_reducible refine (State.pw_gate_foldl _ _ _ (fun _ _ => ?_)).trans ?_)))

@[simp] theorem State.countFired_parts (s : State) (e : Nat) :
    (s.countFired e).sq.frameNo = s.sq.frameNo ∧ (s.countFired e).sq.inScan = s.sq.inScan ∧
    (s.countFired e).sq.nextBoundary = s.sq.nextBoundary := by
  and_intros <;> (unfold State.countFired; repeat' (first | with_reducible rfl | (simp; done) | split | with_reducible refine (State.regs_setA_foldl _ _ _ (fun _ _ => ?_)).trans ?_ | with_reducible refine (State.regs_setB_foldl _ _ _ (fun _ _ => ?_)).trans ?_ | with_reducible refine (State.regs_one_foldl _ _ _ (fun _ _ => ?_)).trans ?_ | with_reducible refine (State.regs_rsvd_foldl _ _ _ (fun _ _ => ?_)).trans ?_ | with_reducible refine (State.regs_waiting_foldl _ _ _ (fun _ _ => ?_)).trans ?_ | with_reducible refine (State.regs_stale_foldl _ _ _ (fun _ _ => ?_)).trans ?_ | with_reducible refine (State.regs_posted_foldl _ _ _ (fun _ _ => ?_)).trans ?_ | with_reducible refine (State.fd_mem_foldl _ _ _ (fun _ _ => ?_)).trans ?_ | with_reducible refine (State.dm_sram_foldl _ _ _ (fun _ _ => ?_)).trans ?_ | with_reducible refine (State.sq_frameNo_foldl _ _ _ (fun _ _ => ?_)).trans ?_ | with_reducible refine (State.sq_inScan_foldl _ _ _ (fun _ _ => ?_)).trans ?_ | with_reducible refine (State.sq_nextBoundary_foldl _ _ _ (fun _ _ => ?_)).trans ?_ | with_reducible refine (State.pw_gate_foldl _ _ _ (fun _ _ => ?_)).trans ?_ | (dsimp only; first | split | with_reducible refine (State.regs_setA_foldl _ _ _ (fun _ _ => ?_)).trans ?_ | with_reducible refine (State.regs_setB_foldl _ _ _ (fun _ _ => ?_)).trans ?_ | with_reducible refine (State.regs_one_foldl _ _ _ (fun _ _ => ?_)).trans ?_ | with_reducible refine (State.regs_rsvd_foldl _ _ _ (fun _ _ => ?_)).trans ?_ | with_reducible refine (State.regs_waiting_foldl _ _ _ (fun _ _ => ?_)).trans ?_ | with_reducible refine (State.regs_stale_foldl _ _ _ (fun _ _ => ?_)).trans ?_ | with_reducible refine (State.regs_posted_foldl _ _ _ (fun _ _ => ?_)).trans ?_ | with_reducible refine (State.fd_mem_foldl _ _ _ (fun _ _ => ?_)).trans ?_ | with_reducible refine (State.dm_sram_foldl _ _ _ (fun _ _ => ?_)).trans ?_ | with_reducible refine (State.sq_frameNo_foldl _ _ _ (fun _ _ => ?_)).trans ?_ | with_reducible refine (State.sq_inScan_foldl _ _ _ (fun _ _ => ?_)).trans ?_ | with_reducible refine (State.sq_nextBoundary_foldl _ _ _ (fun _ _ => ?_)).trans ?_ | with_reducible refine (State.pw_gate_foldl _ _ _ (fun _ _ => ?_)).trans ?_)))

@[simp] theorem State.stepLfsr_parts (s : State) (e : Nat) :
    (s.stepLfsr e).1.sq.frameNo = s.sq.frameNo ∧ (s.stepLfsr e).1.sq.inScan = s.sq.inScan ∧
    (s.stepLfsr e).1.sq.nextBoundary = s.sq.nextBoundary := by
  and_intros <;> (unfold State.stepLfsr; repeat' (first | with_reducible rfl | (simp; done) | split | with_reducible refine (State.regs_setA_foldl _ _ _ (fun _ _ => ?_)).trans ?_ | with_reducible refine (State.regs_setB_foldl _ _ _ (fun _ _ => ?_)).trans ?_ | with_reducible refine (State.regs_one_foldl _ _ _ (fun _ _ => ?_)).trans ?_ | with_reducible refine (State.regs_rsvd_foldl _ _ _ (fun _ _ => ?_)).trans ?_ | with_reducible refine (State.regs_waiting_foldl _ _ _ (fun _ _ => ?_)).trans ?_ | with_reducible refine (State.regs_stale_foldl _ _ _ (fun _ _ => ?_)).trans ?_ | with_reducible refine (State.regs_posted_foldl _ _ _ (fun _ _ => ?_)).trans ?_ | with_reducible refine (State.fd_mem_foldl _ _ _ (fun _ _ => ?_)).trans ?_ | with_reducible refine (State.dm_sram_foldl _ _ _ (fun _ _ => ?_)).trans ?_ | with_reducible refine (State.sq_frameNo_foldl _ _ _ (fun _ _ => ?_)).trans ?_ | with_reducible refine (State.sq_inScan_foldl _ _ _ (fun _ _ => ?_)).trans ?_ | with_reducible refine (State.sq_nextBoundary_foldl _ _ _ (fun _ _ => ?_)).trans ?_ | with_reducible refine (State.pw_gate_foldl _ _ _ (fun _ _ => ?_)).trans ?_ | (dsimp only; first | split | with_reducible refine (State.regs_setA_foldl _ _ _ (fun _ _ => ?_)).trans ?_ | with_reducible refine (State.regs_setB_foldl _ _ _ (fun _ _ => ?_)).trans ?_ | with_reducible refine (State.regs_one_foldl _ _ _ (fun _ _ => ?_)).trans ?_ | with_reducible refine (State.regs_rsvd_foldl _ _ _ (fun _ _ => ?_)).trans ?_ | with_reducible refine (State.regs_waiting_foldl _ _ _ (fun _ _ => ?_)).trans ?_ | with_reducible refine (State.regs_stale_foldl _ _ _ (fun _ _ => ?_)).trans ?_ | with_reducible refine (State.regs_posted_foldl _ _ _ (fun _ _ => ?_)).trans ?_ | with_reducible refine (State.fd_mem_foldl _ _ _ (fun _ _ => ?_)).trans ?_ | with_reducible refine (State.dm_sram_foldl _ _ _ (fun _ _ => ?_)).trans ?_ | with_reducible refine (State.sq_frameNo_foldl _ _ _ (fun _ _ => ?_)).trans ?_ | with_reducible refine (State.sq_inScan_foldl _ _ _ (fun _ _ => ?_)).trans ?_ | with_reducible refine (State.sq_nextBoundary_foldl _ _ _ (fun _ _ => ?_)).trans ?_ | with_reducible refine (State.pw_gate_foldl _ _ _ (fun _ _ => ?_)).trans ?_)))

@[simp] theorem State.dropScan_parts (s : State) (n : Nat) :
    (s.dropScan n).regs.setA = s.regs.setA ∧ (s.dropScan n).regs.setB = s.regs.setB ∧ (s.dropScan n).regs.one = s.regs.one ∧
    (s.dropScan n).regs.rsvd = s.regs.rsvd ∧ (s.dropScan n).regs.waiting = s.regs.waiting ∧
    (s.dropScan n).regs.stale = s.regs.stale ∧ (s.dropScan n).regs.posted = s.regs.posted ∧
    (s.dropScan n).sq.frameNo = s.sq.frameNo ∧ (s.dropScan n).sq.inScan = s.sq.inScan ∧
    (s.dropScan n).sq.nextBoundary = s.sq.nextBoundary := by
  and_intros <;> (unfold State.dropScan; repeat' (first | with_reducible rfl | (simp; done) | split | with_reducible refine (State.regs_setA_foldl _ _ _ (fun _ _ => ?_)).trans ?_ | with_reducible refine (State.regs_setB_foldl _ _ _ (fun _ _ => ?_)).trans ?_ | with_reducible refine (State.regs_one_foldl _ _ _ (fun _ _ => ?_)).trans ?_ | with_reducible refine (State.regs_rsvd_foldl _ _ _ (fun _ _ => ?_)).trans ?_ | with_reducible refine (State.regs_waiting_foldl _ _ _ (fun _ _ => ?_)).trans ?_ | with_reducible refine (State.regs_stale_foldl _ _ _ (fun _ _ => ?_)).trans ?_ | with_reducible refine (State.regs_posted_foldl _ _ _ (fun _ _ => ?_)).trans ?_ | with_reducible refine (State.fd_mem_foldl _ _ _ (fun _ _ => ?_)).trans ?_ | with_reducible refine (State.dm_sram_foldl _ _ _ (fun _ _ => ?_)).trans ?_ | with_reducible refine (State.sq_frameNo_foldl _ _ _ (fun _ _ => ?_)).trans ?_ | with_reducible refine (State.sq_inScan_foldl _ _ _ (fun _ _ => ?_)).trans ?_ | with_reducible refine (State.sq_nextBoundary_foldl _ _ _ (fun _ _ => ?_)).trans ?_ | with_reducible refine (State.pw_gate_foldl _ _ _ (fun _ _ => ?_)).trans ?_ | (dsimp only; first | split | with_reducible refine (State.regs_setA_foldl _ _ _ (fun _ _ => ?_)).trans ?_ | with_reducible refine (State.regs_setB_foldl _ _ _ (fun _ _ => ?_)).trans ?_ | with_reducible refine (State.regs_one_foldl _ _ _ (fun _ _ => ?_)).trans ?_ | with_reducible refine (State.regs_rsvd_foldl _ _ _ (fun _ _ => ?_)).trans ?_ | with_reducible refine (State.regs_waiting_foldl _ _ _ (fun _ _ => ?_)).trans ?_ | with_reducible refine (State.regs_stale_foldl _ _ _ (fun _ _ => ?_)).trans ?_ | with_reducible refine (State.regs_posted_foldl _ _ _ (fun _ _ => ?_)).trans ?_ | with_reducible refine (State.fd_mem_foldl _ _ _ (fun _ _ => ?_)).trans ?_ | with_reducible refine (State.dm_sram_foldl _ _ _ (fun _ _ => ?_)).trans ?_ | with_reducible refine (State.sq_frameNo_foldl _ _ _ (fun _ _ => ?_)).trans ?_ | with_reducible refine (State.sq_inScan_foldl _ _ _ (fun _ _ => ?_)).trans ?_ | with_reducible refine (State.sq_nextBoundary_foldl _ _ _ (fun _ _ => ?_)).trans ?_ | with_reducible refine (State.pw_gate_foldl _ _ _ (fun _ _ => ?_)).trans ?_)))

@[simp] theorem State.fireShot_parts (s : State) (y : Cycle) (x : ShotEntry) (d : Nat) :
    (s.fireShot y x d).fd.mem = s.fd.mem ∧ (s.fireShot y x d).sq.frameNo = s.sq.frameNo ∧
    (s.fireShot y x d).sq.inScan = s.sq.inScan ∧ (s.fireShot y x d).sq.nextBoundary = s.sq.nextBoundary := by
  and_intros <;> (unfold State.fireShot; repeat' (first | with_reducible rfl | (simp; done) | split | with_reducible refine (State.regs_setA_foldl _ _ _ (fun _ _ => ?_)).trans ?_ | with_reducible refine (State.regs_setB_foldl _ _ _ (fun _ _ => ?_)).trans ?_ | with_reducible refine (State.regs_one_foldl _ _ _ (fun _ _ => ?_)).trans ?_ | with_reducible refine (State.regs_rsvd_foldl _ _ _ (fun _ _ => ?_)).trans ?_ | with_reducible refine (State.regs_waiting_foldl _ _ _ (fun _ _ => ?_)).trans ?_ | with_reducible refine (State.regs_stale_foldl _ _ _ (fun _ _ => ?_)).trans ?_ | with_reducible refine (State.regs_posted_foldl _ _ _ (fun _ _ => ?_)).trans ?_ | with_reducible refine (State.fd_mem_foldl _ _ _ (fun _ _ => ?_)).trans ?_ | with_reducible refine (State.dm_sram_foldl _ _ _ (fun _ _ => ?_)).trans ?_ | with_reducible refine (State.sq_frameNo_foldl _ _ _ (fun _ _ => ?_)).trans ?_ | with_reducible refine (State.sq_inScan_foldl _ _ _ (fun _ _ => ?_)).trans ?_ | with_reducible refine (State.sq_nextBoundary_foldl _ _ _ (fun _ _ => ?_)).trans ?_ | with_reducible refine (State.pw_gate_foldl _ _ _ (fun _ _ => ?_)).trans ?_ | (dsimp only; first | split | with_reducible refine (State.regs_setA_foldl _ _ _ (fun _ _ => ?_)).trans ?_ | with_reducible refine (State.regs_setB_foldl _ _ _ (fun _ _ => ?_)).trans ?_ | with_reducible refine (State.regs_one_foldl _ _ _ (fun _ _ => ?_)).trans ?_ | with_reducible refine (State.regs_rsvd_foldl _ _ _ (fun _ _ => ?_)).trans ?_ | with_reducible refine (State.regs_waiting_foldl _ _ _ (fun _ _ => ?_)).trans ?_ | with_reducible refine (State.regs_stale_foldl _ _ _ (fun _ _ => ?_)).trans ?_ | with_reducible refine (State.regs_posted_foldl _ _ _ (fun _ _ => ?_)).trans ?_ | with_reducible refine (State.fd_mem_foldl _ _ _ (fun _ _ => ?_)).trans ?_ | with_reducible refine (State.dm_sram_foldl _ _ _ (fun _ _ => ?_)).trans ?_ | with_reducible refine (State.sq_frameNo_foldl _ _ _ (fun _ _ => ?_)).trans ?_ | with_reducible refine (State.sq_inScan_foldl _ _ _ (fun _ _ => ?_)).trans ?_ | with_reducible refine (State.sq_nextBoundary_foldl _ _ _ (fun _ _ => ?_)).trans ?_ | with_reducible refine (State.pw_gate_foldl _ _ _ (fun _ _ => ?_)).trans ?_)))

@[simp] theorem State.commitShot_parts (s : State) (y : Cycle) (x : ShotEntry) :
    (s.commitShot y x).fd.mem = s.fd.mem ∧ (s.commitShot y x).sq.frameNo = s.sq.frameNo ∧
    (s.commitShot y x).sq.inScan = s.sq.inScan ∧ (s.commitShot y x).sq.nextBoundary = s.sq.nextBoundary := by
  and_intros <;> (unfold State.commitShot; repeat' (first | with_reducible rfl | (simp; done) | split | with_reducible refine (State.regs_setA_foldl _ _ _ (fun _ _ => ?_)).trans ?_ | with_reducible refine (State.regs_setB_foldl _ _ _ (fun _ _ => ?_)).trans ?_ | with_reducible refine (State.regs_one_foldl _ _ _ (fun _ _ => ?_)).trans ?_ | with_reducible refine (State.regs_rsvd_foldl _ _ _ (fun _ _ => ?_)).trans ?_ | with_reducible refine (State.regs_waiting_foldl _ _ _ (fun _ _ => ?_)).trans ?_ | with_reducible refine (State.regs_stale_foldl _ _ _ (fun _ _ => ?_)).trans ?_ | with_reducible refine (State.regs_posted_foldl _ _ _ (fun _ _ => ?_)).trans ?_ | with_reducible refine (State.fd_mem_foldl _ _ _ (fun _ _ => ?_)).trans ?_ | with_reducible refine (State.dm_sram_foldl _ _ _ (fun _ _ => ?_)).trans ?_ | with_reducible refine (State.sq_frameNo_foldl _ _ _ (fun _ _ => ?_)).trans ?_ | with_reducible refine (State.sq_inScan_foldl _ _ _ (fun _ _ => ?_)).trans ?_ | with_reducible refine (State.sq_nextBoundary_foldl _ _ _ (fun _ _ => ?_)).trans ?_ | with_reducible refine (State.pw_gate_foldl _ _ _ (fun _ _ => ?_)).trans ?_ | (dsimp only; first | split | with_reducible refine (State.regs_setA_foldl _ _ _ (fun _ _ => ?_)).trans ?_ | with_reducible refine (State.regs_setB_foldl _ _ _ (fun _ _ => ?_)).trans ?_ | with_reducible refine (State.regs_one_foldl _ _ _ (fun _ _ => ?_)).trans ?_ | with_reducible refine (State.regs_rsvd_foldl _ _ _ (fun _ _ => ?_)).trans ?_ | with_reducible refine (State.regs_waiting_foldl _ _ _ (fun _ _ => ?_)).trans ?_ | with_reducible refine (State.regs_stale_foldl _ _ _ (fun _ _ => ?_)).trans ?_ | with_reducible refine (State.regs_posted_foldl _ _ _ (fun _ _ => ?_)).trans ?_ | with_reducible refine (State.fd_mem_foldl _ _ _ (fun _ _ => ?_)).trans ?_ | with_reducible refine (State.dm_sram_foldl _ _ _ (fun _ _ => ?_)).trans ?_ | with_reducible refine (State.sq_frameNo_foldl _ _ _ (fun _ _ => ?_)).trans ?_ | with_reducible refine (State.sq_inScan_foldl _ _ _ (fun _ _ => ?_)).trans ?_ | with_reducible refine (State.sq_nextBoundary_foldl _ _ _ (fun _ _ => ?_)).trans ?_ | with_reducible refine (State.pw_gate_foldl _ _ _ (fun _ _ => ?_)).trans ?_)))

@[simp] theorem State.passInvalid_parts (s : State) (y : Cycle) (x : ShotEntry) :
    (s.passInvalid y x).regs.setA = s.regs.setA ∧ (s.passInvalid y x).regs.setB = s.regs.setB ∧
    (s.passInvalid y x).regs.one = s.regs.one ∧ (s.passInvalid y x).regs.rsvd = s.regs.rsvd ∧
    (s.passInvalid y x).regs.waiting = s.regs.waiting ∧ (s.passInvalid y x).regs.stale = s.regs.stale ∧
    (s.passInvalid y x).regs.posted = s.regs.posted ∧ (s.passInvalid y x).sq.frameNo = s.sq.frameNo ∧
    (s.passInvalid y x).sq.inScan = s.sq.inScan ∧ (s.passInvalid y x).sq.nextBoundary = s.sq.nextBoundary := by
  and_intros <;> (unfold State.passInvalid; repeat' (first | with_reducible rfl | (simp; done) | split | with_reducible refine (State.regs_setA_foldl _ _ _ (fun _ _ => ?_)).trans ?_ | with_reducible refine (State.regs_setB_foldl _ _ _ (fun _ _ => ?_)).trans ?_ | with_reducible refine (State.regs_one_foldl _ _ _ (fun _ _ => ?_)).trans ?_ | with_reducible refine (State.regs_rsvd_foldl _ _ _ (fun _ _ => ?_)).trans ?_ | with_reducible refine (State.regs_waiting_foldl _ _ _ (fun _ _ => ?_)).trans ?_ | with_reducible refine (State.regs_stale_foldl _ _ _ (fun _ _ => ?_)).trans ?_ | with_reducible refine (State.regs_posted_foldl _ _ _ (fun _ _ => ?_)).trans ?_ | with_reducible refine (State.fd_mem_foldl _ _ _ (fun _ _ => ?_)).trans ?_ | with_reducible refine (State.dm_sram_foldl _ _ _ (fun _ _ => ?_)).trans ?_ | with_reducible refine (State.sq_frameNo_foldl _ _ _ (fun _ _ => ?_)).trans ?_ | with_reducible refine (State.sq_inScan_foldl _ _ _ (fun _ _ => ?_)).trans ?_ | with_reducible refine (State.sq_nextBoundary_foldl _ _ _ (fun _ _ => ?_)).trans ?_ | with_reducible refine (State.pw_gate_foldl _ _ _ (fun _ _ => ?_)).trans ?_ | (dsimp only; first | split | with_reducible refine (State.regs_setA_foldl _ _ _ (fun _ _ => ?_)).trans ?_ | with_reducible refine (State.regs_setB_foldl _ _ _ (fun _ _ => ?_)).trans ?_ | with_reducible refine (State.regs_one_foldl _ _ _ (fun _ _ => ?_)).trans ?_ | with_reducible refine (State.regs_rsvd_foldl _ _ _ (fun _ _ => ?_)).trans ?_ | with_reducible refine (State.regs_waiting_foldl _ _ _ (fun _ _ => ?_)).trans ?_ | with_reducible refine (State.regs_stale_foldl _ _ _ (fun _ _ => ?_)).trans ?_ | with_reducible refine (State.regs_posted_foldl _ _ _ (fun _ _ => ?_)).trans ?_ | with_reducible refine (State.fd_mem_foldl _ _ _ (fun _ _ => ?_)).trans ?_ | with_reducible refine (State.dm_sram_foldl _ _ _ (fun _ _ => ?_)).trans ?_ | with_reducible refine (State.sq_frameNo_foldl _ _ _ (fun _ _ => ?_)).trans ?_ | with_reducible refine (State.sq_inScan_foldl _ _ _ (fun _ _ => ?_)).trans ?_ | with_reducible refine (State.sq_nextBoundary_foldl _ _ _ (fun _ _ => ?_)).trans ?_ | with_reducible refine (State.pw_gate_foldl _ _ _ (fun _ _ => ?_)).trans ?_)))

@[simp] theorem State.sqCntClr_parts (s : State) :
    (s.sqCntClr).regs.setA = s.regs.setA ∧ (s.sqCntClr).regs.setB = s.regs.setB ∧ (s.sqCntClr).regs.one = s.regs.one ∧
    (s.sqCntClr).regs.rsvd = s.regs.rsvd ∧ (s.sqCntClr).regs.waiting = s.regs.waiting ∧
    (s.sqCntClr).regs.stale = s.regs.stale ∧ (s.sqCntClr).regs.posted = s.regs.posted := by
  and_intros <;> (unfold State.sqCntClr; repeat' (first | with_reducible rfl | (simp; done) | split | with_reducible refine (State.regs_setA_foldl _ _ _ (fun _ _ => ?_)).trans ?_ | with_reducible refine (State.regs_setB_foldl _ _ _ (fun _ _ => ?_)).trans ?_ | with_reducible refine (State.regs_one_foldl _ _ _ (fun _ _ => ?_)).trans ?_ | with_reducible refine (State.regs_rsvd_foldl _ _ _ (fun _ _ => ?_)).trans ?_ | with_reducible refine (State.regs_waiting_foldl _ _ _ (fun _ _ => ?_)).trans ?_ | with_reducible refine (State.regs_stale_foldl _ _ _ (fun _ _ => ?_)).trans ?_ | with_reducible refine (State.regs_posted_foldl _ _ _ (fun _ _ => ?_)).trans ?_ | with_reducible refine (State.fd_mem_foldl _ _ _ (fun _ _ => ?_)).trans ?_ | with_reducible refine (State.dm_sram_foldl _ _ _ (fun _ _ => ?_)).trans ?_ | with_reducible refine (State.sq_frameNo_foldl _ _ _ (fun _ _ => ?_)).trans ?_ | with_reducible refine (State.sq_inScan_foldl _ _ _ (fun _ _ => ?_)).trans ?_ | with_reducible refine (State.sq_nextBoundary_foldl _ _ _ (fun _ _ => ?_)).trans ?_ | with_reducible refine (State.pw_gate_foldl _ _ _ (fun _ _ => ?_)).trans ?_ | (dsimp only; first | split | with_reducible refine (State.regs_setA_foldl _ _ _ (fun _ _ => ?_)).trans ?_ | with_reducible refine (State.regs_setB_foldl _ _ _ (fun _ _ => ?_)).trans ?_ | with_reducible refine (State.regs_one_foldl _ _ _ (fun _ _ => ?_)).trans ?_ | with_reducible refine (State.regs_rsvd_foldl _ _ _ (fun _ _ => ?_)).trans ?_ | with_reducible refine (State.regs_waiting_foldl _ _ _ (fun _ _ => ?_)).trans ?_ | with_reducible refine (State.regs_stale_foldl _ _ _ (fun _ _ => ?_)).trans ?_ | with_reducible refine (State.regs_posted_foldl _ _ _ (fun _ _ => ?_)).trans ?_ | with_reducible refine (State.fd_mem_foldl _ _ _ (fun _ _ => ?_)).trans ?_ | with_reducible refine (State.dm_sram_foldl _ _ _ (fun _ _ => ?_)).trans ?_ | with_reducible refine (State.sq_frameNo_foldl _ _ _ (fun _ _ => ?_)).trans ?_ | with_reducible refine (State.sq_inScan_foldl _ _ _ (fun _ _ => ?_)).trans ?_ | with_reducible refine (State.sq_nextBoundary_foldl _ _ _ (fun _ _ => ?_)).trans ?_ | with_reducible refine (State.pw_gate_foldl _ _ _ (fun _ _ => ?_)).trans ?_)))

end Sys2Proof.Machine
end

