-- ==== Sys2Proof/Laws/FrameCalOps.lean ====
section
/-!
SUPPORT. The frames of the operations of Machine/CalOps.lean: the parts of the state that each of them leaves as they were.
-/

set_option linter.unusedTactic false
set_option linter.unreachableTactic false
set_option linter.unusedSimpArgs false

namespace Sys2Proof.Machine

@[simp] theorem State.calOver_frame (s : State) (tile : Nat) :
    (s.calOver tile).now = s.now ∧ (s.calOver tile).phase = s.phase ∧ (s.calOver tile).pending = s.pending ∧
    (s.calOver tile).nodeOfs = s.nodeOfs ∧ (s.calOver tile).freeCtr = s.freeCtr ∧ (s.calOver tile).tx = s.tx ∧
    (s.calOver tile).regs = s.regs ∧ (s.calOver tile).tl = s.tl := by
  and_intros <;> (unfold State.calOver; repeat' (first | with_reducible rfl | (simp; done) | split | with_reducible refine (foldl_inv _ _ _ _ (fun _ _ => ?_)).trans ?_ | (dsimp only; first | split | with_reducible refine (foldl_inv _ _ _ _ (fun _ _ => ?_)).trans ?_)))

@[simp] theorem State.calOver_frame2 (s : State) (tile : Nat) :
    (s.calOver tile).sq = s.sq ∧ (s.calOver tile).fd = s.fd ∧ (s.calOver tile).ex = s.ex ∧ (s.calOver tile).sv = s.sv ∧
    (s.calOver tile).ax = s.ax ∧ (s.calOver tile).aq = s.aq ∧ (s.calOver tile).il = s.il ∧ (s.calOver tile).ln = s.ln := by
  and_intros <;> (unfold State.calOver; repeat' (first | with_reducible rfl | (simp; done) | split | with_reducible refine (foldl_inv _ _ _ _ (fun _ _ => ?_)).trans ?_ | (dsimp only; first | split | with_reducible refine (foldl_inv _ _ _ _ (fun _ _ => ?_)).trans ?_)))

@[simp] theorem State.calOver_frame3 (s : State) (tile : Nat) :
    (s.calOver tile).fl = s.fl ∧ (s.calOver tile).ev = s.ev ∧ (s.calOver tile).safe = s.safe ∧ (s.calOver tile).dm = s.dm ∧
    (s.calOver tile).cm = s.cm ∧ (s.calOver tile).cf = s.cf ∧ (s.calOver tile).pw = s.pw := by
  and_intros <;> (unfold State.calOver; repeat' (first | with_reducible rfl | (simp; done) | split | with_reducible refine (foldl_inv _ _ _ _ (fun _ _ => ?_)).trans ?_ | (dsimp only; first | split | with_reducible refine (foldl_inv _ _ _ _ (fun _ _ => ?_)).trans ?_)))

@[simp] theorem State.calRange_frame (s : State) (g : Nat) :
    (s.calRange g).now = s.now ∧ (s.calRange g).phase = s.phase ∧ (s.calRange g).pending = s.pending ∧
    (s.calRange g).nodeOfs = s.nodeOfs ∧ (s.calRange g).freeCtr = s.freeCtr ∧ (s.calRange g).tx = s.tx ∧
    (s.calRange g).regs = s.regs ∧ (s.calRange g).tl = s.tl := by
  and_intros <;> (unfold State.calRange; repeat' (first | with_reducible rfl | (simp; done) | split | with_reducible refine (foldl_inv _ _ _ _ (fun _ _ => ?_)).trans ?_ | (dsimp only; first | split | with_reducible refine (foldl_inv _ _ _ _ (fun _ _ => ?_)).trans ?_)))

@[simp] theorem State.calRange_frame2 (s : State) (g : Nat) :
    (s.calRange g).sq = s.sq ∧ (s.calRange g).fd = s.fd ∧ (s.calRange g).ex = s.ex ∧ (s.calRange g).sv = s.sv ∧
    (s.calRange g).ax = s.ax ∧ (s.calRange g).aq = s.aq ∧ (s.calRange g).il = s.il ∧ (s.calRange g).ln = s.ln := by
  and_intros <;> (unfold State.calRange; repeat' (first | with_reducible rfl | (simp; done) | split | with_reducible refine (foldl_inv _ _ _ _ (fun _ _ => ?_)).trans ?_ | (dsimp only; first | split | with_reducible refine (foldl_inv _ _ _ _ (fun _ _ => ?_)).trans ?_)))

@[simp] theorem State.calRange_frame3 (s : State) (g : Nat) :
    (s.calRange g).fl = s.fl ∧ (s.calRange g).ev = s.ev ∧ (s.calRange g).safe = s.safe ∧ (s.calRange g).dm = s.dm ∧
    (s.calRange g).cm = s.cm ∧ (s.calRange g).cf = s.cf ∧ (s.calRange g).pw = s.pw := by
  and_intros <;> (unfold State.calRange; repeat' (first | with_reducible rfl | (simp; done) | split | with_reducible refine (foldl_inv _ _ _ _ (fun _ _ => ?_)).trans ?_ | (dsimp only; first | split | with_reducible refine (foldl_inv _ _ _ _ (fun _ _ => ?_)).trans ?_)))

@[simp] theorem State.calBegins_frame (s : State) (place : Nat) :
    (s.calBegins place).now = s.now ∧ (s.calBegins place).phase = s.phase ∧ (s.calBegins place).pending = s.pending ∧
    (s.calBegins place).nodeOfs = s.nodeOfs ∧ (s.calBegins place).freeCtr = s.freeCtr ∧ (s.calBegins place).tx = s.tx ∧
    (s.calBegins place).regs = s.regs ∧ (s.calBegins place).tl = s.tl := by
  and_intros <;> (unfold State.calBegins; repeat' (first | with_reducible rfl | (simp; done) | split | with_reducible refine (foldl_inv _ _ _ _ (fun _ _ => ?_)).trans ?_ | (dsimp only; first | split | with_reducible refine (foldl_inv _ _ _ _ (fun _ _ => ?_)).trans ?_)))

@[simp] theorem State.calBegins_frame2 (s : State) (place : Nat) :
    (s.calBegins place).sq = s.sq ∧ (s.calBegins place).fd = s.fd ∧ (s.calBegins place).ex = s.ex ∧
    (s.calBegins place).sv = s.sv ∧ (s.calBegins place).ax = s.ax ∧ (s.calBegins place).aq = s.aq ∧
    (s.calBegins place).il = s.il ∧ (s.calBegins place).ln = s.ln := by
  and_intros <;> (unfold State.calBegins; repeat' (first | with_reducible rfl | (simp; done) | split | with_reducible refine (foldl_inv _ _ _ _ (fun _ _ => ?_)).trans ?_ | (dsimp only; first | split | with_reducible refine (foldl_inv _ _ _ _ (fun _ _ => ?_)).trans ?_)))

@[simp] theorem State.calBegins_frame3 (s : State) (place : Nat) :
    (s.calBegins place).fl = s.fl ∧ (s.calBegins place).ev = s.ev ∧ (s.calBegins place).safe = s.safe ∧
    (s.calBegins place).dm = s.dm ∧ (s.calBegins place).cm = s.cm ∧ (s.calBegins place).cf = s.cf ∧
    (s.calBegins place).pw = s.pw := by
  and_intros <;> (unfold State.calBegins; repeat' (first | with_reducible rfl | (simp; done) | split | with_reducible refine (foldl_inv _ _ _ _ (fun _ _ => ?_)).trans ?_ | (dsimp only; first | split | with_reducible refine (foldl_inv _ _ _ _ (fun _ _ => ?_)).trans ?_)))

@[simp] theorem State.calReject_frame (s : State) (item place : Nat) :
    (s.calReject item place).now = s.now ∧ (s.calReject item place).phase = s.phase ∧
    (s.calReject item place).pending = s.pending ∧ (s.calReject item place).nodeOfs = s.nodeOfs ∧
    (s.calReject item place).freeCtr = s.freeCtr ∧ (s.calReject item place).tx = s.tx ∧ (s.calReject item place).tl = s.tl ∧
    (s.calReject item place).sq = s.sq := by
  and_intros <;> (unfold State.calReject; repeat' (first | with_reducible rfl | (simp; done) | split | with_reducible refine (foldl_inv _ _ _ _ (fun _ _ => ?_)).trans ?_ | (dsimp only; first | split | with_reducible refine (foldl_inv _ _ _ _ (fun _ _ => ?_)).trans ?_)))

@[simp] theorem State.calReject_frame2 (s : State) (item place : Nat) :
    (s.calReject item place).fd = s.fd ∧ (s.calReject item place).ex = s.ex ∧ (s.calReject item place).sv = s.sv ∧
    (s.calReject item place).ax = s.ax ∧ (s.calReject item place).aq = s.aq ∧ (s.calReject item place).il = s.il ∧
    (s.calReject item place).ln = s.ln ∧ (s.calReject item place).fl = s.fl := by
  and_intros <;> (unfold State.calReject; repeat' (first | with_reducible rfl | (simp; done) | split | with_reducible refine (foldl_inv _ _ _ _ (fun _ _ => ?_)).trans ?_ | (dsimp only; first | split | with_reducible refine (foldl_inv _ _ _ _ (fun _ _ => ?_)).trans ?_)))

@[simp] theorem State.calReject_frame3 (s : State) (item place : Nat) :
    (s.calReject item place).safe = s.safe ∧ (s.calReject item place).dm = s.dm ∧ (s.calReject item place).cm = s.cm ∧
    (s.calReject item place).cf = s.cf ∧ (s.calReject item place).pw = s.pw := by
  and_intros <;> (unfold State.calReject; repeat' (first | with_reducible rfl | (simp; done) | split | with_reducible refine (foldl_inv _ _ _ _ (fun _ _ => ?_)).trans ?_ | (dsimp only; first | split | with_reducible refine (foldl_inv _ _ _ _ (fun _ _ => ?_)).trans ?_)))

@[simp] theorem State.calReject_parts (s : State) (item place : Nat) :
    (s.calReject item place).regs.setA = s.regs.setA ∧ (s.calReject item place).regs.setB = s.regs.setB ∧
    (s.calReject item place).regs.one = s.regs.one ∧ (s.calReject item place).regs.rsvd = s.regs.rsvd ∧
    (s.calReject item place).regs.waiting = s.regs.waiting ∧ (s.calReject item place).regs.stale = s.regs.stale ∧
    (s.calReject item place).regs.posted = s.regs.posted := by
  and_intros <;> (unfold State.calReject; repeat' (first | with_reducible rfl | (simp; done) | split | with_reducible refine (State.regs_setA_foldl _ _ _ (fun _ _ => ?_)).trans ?_ | with_reducible refine (State.regs_setB_foldl _ _ _ (fun _ _ => ?_)).trans ?_ | with_reducible refine (State.regs_one_foldl _ _ _ (fun _ _ => ?_)).trans ?_ | with_reducible refine (State.regs_rsvd_foldl _ _ _ (fun _ _ => ?_)).trans ?_ | with_reducible refine (State.regs_waiting_foldl _ _ _ (fun _ _ => ?_)).trans ?_ | with_reducible refine (State.regs_stale_foldl _ _ _ (fun _ _ => ?_)).trans ?_ | with_reducible refine (State.regs_posted_foldl _ _ _ (fun _ _ => ?_)).trans ?_ | with_reducible refine (State.fd_mem_foldl _ _ _ (fun _ _ => ?_)).trans ?_ | with_reducible refine (State.dm_sram_foldl _ _ _ (fun _ _ => ?_)).trans ?_ | with_reducible refine (State.sq_frameNo_foldl _ _ _ (fun _ _ => ?_)).trans ?_ | with_reducible refine (State.sq_inScan_foldl _ _ _ (fun _ _ => ?_)).trans ?_ | with_reducible refine (State.sq_nextBoundary_foldl _ _ _ (fun _ _ => ?_)).trans ?_ | with_reducible refine (State.pw_gate_foldl _ _ _ (fun _ _ => ?_)).trans ?_ | (dsimp only; first | split | with_reducible refine (State.regs_setA_foldl _ _ _ (fun _ _ => ?_)).trans ?_ | with_reducible refine (State.regs_setB_foldl _ _ _ (fun _ _ => ?_)).trans ?_ | with_reducible refine (State.regs_one_foldl _ _ _ (fun _ _ => ?_)).trans ?_ | with_reducible refine (State.regs_rsvd_foldl _ _ _ (fun _ _ => ?_)).trans ?_ | with_reducible refine (State.regs_waiting_foldl _ _ _ (fun _ _ => ?_)).trans ?_ | with_reducible refine (State.regs_stale_foldl _ _ _ (fun _ _ => ?_)).trans ?_ | with_reducible refine (State.regs_posted_foldl _ _ _ (fun _ _ => ?_)).trans ?_ | with_reducible refine (State.fd_mem_foldl _ _ _ (fun _ _ => ?_)).trans ?_ | with_reducible refine (State.dm_sram_foldl _ _ _ (fun _ _ => ?_)).trans ?_ | with_reducible refine (State.sq_frameNo_foldl _ _ _ (fun _ _ => ?_)).trans ?_ | with_reducible refine (State.sq_inScan_foldl _ _ _ (fun _ _ => ?_)).trans ?_ | with_reducible refine (State.sq_nextBoundary_foldl _ _ _ (fun _ _ => ?_)).trans ?_ | with_reducible refine (State.pw_gate_foldl _ _ _ (fun _ _ => ?_)).trans ?_)))

end Sys2Proof.Machine
end

