-- ==== Sys2Proof/Laws/FrameAcquire.lean ====
section
/-!
SUPPORT. The frames of the operations of Machine/Acquire.lean: the parts of the state that each of them leaves as they were.
-/

set_option linter.unusedTactic false
set_option linter.unreachableTactic false
set_option linter.unusedSimpArgs false

namespace Sys2Proof.Machine

@[simp] theorem State.loadUnit_frame (s : State) (u : Nat) :
    (s.loadUnit u).now = s.now ∧ (s.loadUnit u).phase = s.phase ∧ (s.loadUnit u).pending = s.pending ∧
    (s.loadUnit u).nodeOfs = s.nodeOfs ∧ (s.loadUnit u).freeCtr = s.freeCtr ∧ (s.loadUnit u).tx = s.tx ∧
    (s.loadUnit u).tl = s.tl ∧ (s.loadUnit u).sq = s.sq := by
  and_intros <;> (unfold State.loadUnit; repeat' (first | with_reducible rfl | (simp; done) | split | with_reducible refine (foldl_inv _ _ _ _ (fun _ _ => ?_)).trans ?_ | (dsimp only; first | split | with_reducible refine (foldl_inv _ _ _ _ (fun _ _ => ?_)).trans ?_)))

@[simp] theorem State.loadUnit_frame2 (s : State) (u : Nat) :
    (s.loadUnit u).fd = s.fd ∧ (s.loadUnit u).ex = s.ex ∧ (s.loadUnit u).sv = s.sv ∧ (s.loadUnit u).ax = s.ax ∧
    (s.loadUnit u).il = s.il ∧ (s.loadUnit u).ln = s.ln ∧ (s.loadUnit u).fl = s.fl ∧ (s.loadUnit u).ev = s.ev := by
  and_intros <;> (unfold State.loadUnit; repeat' (first | with_reducible rfl | (simp; done) | split | with_reducible refine (foldl_inv _ _ _ _ (fun _ _ => ?_)).trans ?_ | (dsimp only; first | split | with_reducible refine (foldl_inv _ _ _ _ (fun _ _ => ?_)).trans ?_)))

@[simp] theorem State.loadUnit_frame3 (s : State) (u : Nat) :
    (s.loadUnit u).safe = s.safe ∧ (s.loadUnit u).dm = s.dm ∧ (s.loadUnit u).cm = s.cm ∧ (s.loadUnit u).cf = s.cf ∧
    (s.loadUnit u).pw = s.pw ∧ (s.loadUnit u).th = s.th := by
  and_intros <;> (unfold State.loadUnit; repeat' (first | with_reducible rfl | (simp; done) | split | with_reducible refine (foldl_inv _ _ _ _ (fun _ _ => ?_)).trans ?_ | (dsimp only; first | split | with_reducible refine (foldl_inv _ _ _ _ (fun _ _ => ?_)).trans ?_)))

@[simp] theorem State.unitWritten_frame (s : State) (u : Nat) :
    (s.unitWritten u).now = s.now ∧ (s.unitWritten u).phase = s.phase ∧ (s.unitWritten u).pending = s.pending ∧
    (s.unitWritten u).nodeOfs = s.nodeOfs ∧ (s.unitWritten u).freeCtr = s.freeCtr ∧ (s.unitWritten u).tx = s.tx ∧
    (s.unitWritten u).tl = s.tl ∧ (s.unitWritten u).sq = s.sq := by
  and_intros <;> (unfold State.unitWritten; repeat' (first | with_reducible rfl | (simp; done) | split | with_reducible refine (foldl_inv _ _ _ _ (fun _ _ => ?_)).trans ?_ | (dsimp only; first | split | with_reducible refine (foldl_inv _ _ _ _ (fun _ _ => ?_)).trans ?_)))

@[simp] theorem State.unitWritten_frame2 (s : State) (u : Nat) :
    (s.unitWritten u).fd = s.fd ∧ (s.unitWritten u).ex = s.ex ∧ (s.unitWritten u).sv = s.sv ∧ (s.unitWritten u).ax = s.ax ∧
    (s.unitWritten u).il = s.il ∧ (s.unitWritten u).ln = s.ln ∧ (s.unitWritten u).fl = s.fl ∧ (s.unitWritten u).ev = s.ev := by
  and_intros <;> (unfold State.unitWritten; repeat' (first | with_reducible rfl | (simp; done) | split | with_reducible refine (foldl_inv _ _ _ _ (fun _ _ => ?_)).trans ?_ | (dsimp only; first | split | with_reducible refine (foldl_inv _ _ _ _ (fun _ _ => ?_)).trans ?_)))

@[simp] theorem State.unitWritten_frame3 (s : State) (u : Nat) :
    (s.unitWritten u).safe = s.safe ∧ (s.unitWritten u).dm = s.dm ∧ (s.unitWritten u).cm = s.cm ∧
    (s.unitWritten u).cf = s.cf ∧ (s.unitWritten u).pw = s.pw ∧ (s.unitWritten u).th = s.th := by
  and_intros <;> (unfold State.unitWritten; repeat' (first | with_reducible rfl | (simp; done) | split | with_reducible refine (foldl_inv _ _ _ _ (fun _ _ => ?_)).trans ?_ | (dsimp only; first | split | with_reducible refine (foldl_inv _ _ _ _ (fun _ _ => ?_)).trans ?_)))

@[simp] theorem State.aqArm_frame (s : State) (b : Nat) :
    (s.aqArm b).now = s.now ∧ (s.aqArm b).phase = s.phase ∧ (s.aqArm b).pending = s.pending ∧
    (s.aqArm b).nodeOfs = s.nodeOfs ∧ (s.aqArm b).freeCtr = s.freeCtr ∧ (s.aqArm b).tx = s.tx ∧ (s.aqArm b).sq = s.sq ∧
    (s.aqArm b).fd = s.fd := by
  and_intros <;> (unfold State.aqArm; repeat' (first | with_reducible rfl | (simp; done) | split | with_reducible refine (foldl_inv _ _ _ _ (fun _ _ => ?_)).trans ?_ | (dsimp only; first | split | with_reducible refine (foldl_inv _ _ _ _ (fun _ _ => ?_)).trans ?_)))

@[simp] theorem State.aqArm_frame2 (s : State) (b : Nat) :
    (s.aqArm b).ex = s.ex ∧ (s.aqArm b).sv = s.sv ∧ (s.aqArm b).ax = s.ax ∧ (s.aqArm b).il = s.il ∧ (s.aqArm b).ln = s.ln ∧
    (s.aqArm b).fl = s.fl ∧ (s.aqArm b).safe = s.safe ∧ (s.aqArm b).dm = s.dm := by
  and_intros <;> (unfold State.aqArm; repeat' (first | with_reducible rfl | (simp; done) | split | with_reducible refine (foldl_inv _ _ _ _ (fun _ _ => ?_)).trans ?_ | (dsimp only; first | split | with_reducible refine (foldl_inv _ _ _ _ (fun _ _ => ?_)).trans ?_)))

@[simp] theorem State.aqArm_frame3 (s : State) (b : Nat) :
    (s.aqArm b).cm = s.cm ∧ (s.aqArm b).cf = s.cf ∧ (s.aqArm b).pw = s.pw ∧ (s.aqArm b).th = s.th := by
  and_intros <;> (unfold State.aqArm; repeat' (first | with_reducible rfl | (simp; done) | split | with_reducible refine (foldl_inv _ _ _ _ (fun _ _ => ?_)).trans ?_ | (dsimp only; first | split | with_reducible refine (foldl_inv _ _ _ _ (fun _ _ => ?_)).trans ?_)))

@[simp] theorem State.aqAbort_frame (s : State) (b : Nat) :
    (s.aqAbort b).now = s.now ∧ (s.aqAbort b).phase = s.phase ∧ (s.aqAbort b).pending = s.pending ∧
    (s.aqAbort b).nodeOfs = s.nodeOfs ∧ (s.aqAbort b).freeCtr = s.freeCtr ∧ (s.aqAbort b).tx = s.tx ∧
    (s.aqAbort b).tl = s.tl ∧ (s.aqAbort b).sq = s.sq := by
  and_intros <;> (unfold State.aqAbort; repeat' (first | with_reducible rfl | (simp; done) | split | with_reducible refine (foldl_inv _ _ _ _ (fun _ _ => ?_)).trans ?_ | (dsimp only; first | split | with_reducible refine (foldl_inv _ _ _ _ (fun _ _ => ?_)).trans ?_)))

@[simp] theorem State.aqAbort_frame2 (s : State) (b : Nat) :
    (s.aqAbort b).fd = s.fd ∧ (s.aqAbort b).ex = s.ex ∧ (s.aqAbort b).sv = s.sv ∧ (s.aqAbort b).ax = s.ax ∧
    (s.aqAbort b).il = s.il ∧ (s.aqAbort b).ln = s.ln ∧ (s.aqAbort b).fl = s.fl ∧ (s.aqAbort b).ev = s.ev := by
  and_intros <;> (unfold State.aqAbort; repeat' (first | with_reducible rfl | (simp; done) | split | with_reducible refine (foldl_inv _ _ _ _ (fun _ _ => ?_)).trans ?_ | (dsimp only; first | split | with_reducible refine (foldl_inv _ _ _ _ (fun _ _ => ?_)).trans ?_)))

@[simp] theorem State.aqAbort_frame3 (s : State) (b : Nat) :
    (s.aqAbort b).safe = s.safe ∧ (s.aqAbort b).dm = s.dm ∧ (s.aqAbort b).cm = s.cm ∧ (s.aqAbort b).cf = s.cf ∧
    (s.aqAbort b).pw = s.pw ∧ (s.aqAbort b).th = s.th := by
  and_intros <;> (unfold State.aqAbort; repeat' (first | with_reducible rfl | (simp; done) | split | with_reducible refine (foldl_inv _ _ _ _ (fun _ _ => ?_)).trans ?_ | (dsimp only; first | split | with_reducible refine (foldl_inv _ _ _ _ (fun _ _ => ?_)).trans ?_)))

@[simp] theorem State.aqForce_frame (s : State) (units : Nat) :
    (s.aqForce units).now = s.now ∧ (s.aqForce units).phase = s.phase ∧ (s.aqForce units).pending = s.pending ∧
    (s.aqForce units).nodeOfs = s.nodeOfs ∧ (s.aqForce units).freeCtr = s.freeCtr ∧ (s.aqForce units).tx = s.tx ∧
    (s.aqForce units).tl = s.tl ∧ (s.aqForce units).sq = s.sq := by
  and_intros <;> (unfold State.aqForce; repeat' (first | with_reducible rfl | (simp; done) | split | with_reducible refine (foldl_inv _ _ _ _ (fun _ _ => ?_)).trans ?_ | (dsimp only; first | split | with_reducible refine (foldl_inv _ _ _ _ (fun _ _ => ?_)).trans ?_)))

@[simp] theorem State.aqForce_frame2 (s : State) (units : Nat) :
    (s.aqForce units).fd = s.fd ∧ (s.aqForce units).ex = s.ex ∧ (s.aqForce units).sv = s.sv ∧ (s.aqForce units).ax = s.ax ∧
    (s.aqForce units).il = s.il ∧ (s.aqForce units).ln = s.ln ∧ (s.aqForce units).safe = s.safe ∧
    (s.aqForce units).dm = s.dm := by
  and_intros <;> (unfold State.aqForce; repeat' (first | with_reducible rfl | (simp; done) | split | with_reducible refine (foldl_inv _ _ _ _ (fun _ _ => ?_)).trans ?_ | (dsimp only; first | split | with_reducible refine (foldl_inv _ _ _ _ (fun _ _ => ?_)).trans ?_)))

@[simp] theorem State.aqForce_frame3 (s : State) (units : Nat) :
    (s.aqForce units).cm = s.cm ∧ (s.aqForce units).cf = s.cf ∧ (s.aqForce units).pw = s.pw ∧ (s.aqForce units).th = s.th := by
  and_intros <;> (unfold State.aqForce; repeat' (first | with_reducible rfl | (simp; done) | split | with_reducible refine (foldl_inv _ _ _ _ (fun _ _ => ?_)).trans ?_ | (dsimp only; first | split | with_reducible refine (foldl_inv _ _ _ _ (fun _ _ => ?_)).trans ?_)))

@[simp] theorem State.aqCntClr_frame (s : State) :
    (s.aqCntClr).now = s.now ∧ (s.aqCntClr).phase = s.phase ∧ (s.aqCntClr).pending = s.pending ∧
    (s.aqCntClr).nodeOfs = s.nodeOfs ∧ (s.aqCntClr).freeCtr = s.freeCtr ∧ (s.aqCntClr).tx = s.tx ∧ (s.aqCntClr).tl = s.tl ∧
    (s.aqCntClr).sq = s.sq := by
  and_intros <;> (unfold State.aqCntClr; repeat' (first | with_reducible rfl | (simp; done) | split | with_reducible refine (foldl_inv _ _ _ _ (fun _ _ => ?_)).trans ?_ | (dsimp only; first | split | with_reducible refine (foldl_inv _ _ _ _ (fun _ _ => ?_)).trans ?_)))

@[simp] theorem State.aqCntClr_frame2 (s : State) :
    (s.aqCntClr).fd = s.fd ∧ (s.aqCntClr).ex = s.ex ∧ (s.aqCntClr).sv = s.sv ∧ (s.aqCntClr).ax = s.ax ∧
    (s.aqCntClr).aq = s.aq ∧ (s.aqCntClr).il = s.il ∧ (s.aqCntClr).ln = s.ln ∧ (s.aqCntClr).fl = s.fl := by
  and_intros <;> (unfold State.aqCntClr; repeat' (first | with_reducible rfl | (simp; done) | split | with_reducible refine (foldl_inv _ _ _ _ (fun _ _ => ?_)).trans ?_ | (dsimp only; first | split | with_reducible refine (foldl_inv _ _ _ _ (fun _ _ => ?_)).trans ?_)))

@[simp] theorem State.aqCntClr_frame3 (s : State) :
    (s.aqCntClr).ev = s.ev ∧ (s.aqCntClr).safe = s.safe ∧ (s.aqCntClr).dm = s.dm ∧ (s.aqCntClr).cm = s.cm ∧
    (s.aqCntClr).cf = s.cf ∧ (s.aqCntClr).pw = s.pw ∧ (s.aqCntClr).th = s.th := by
  and_intros <;> (unfold State.aqCntClr; repeat' (first | with_reducible rfl | (simp; done) | split | with_reducible refine (foldl_inv _ _ _ _ (fun _ _ => ?_)).trans ?_ | (dsimp only; first | split | with_reducible refine (foldl_inv _ _ _ _ (fun _ _ => ?_)).trans ?_)))

@[simp] theorem State.loadUnit_parts (s : State) (u : Nat) :
    (s.loadUnit u).regs.setA = s.regs.setA ∧ (s.loadUnit u).regs.setB = s.regs.setB ∧ (s.loadUnit u).regs.one = s.regs.one ∧
    (s.loadUnit u).regs.rsvd = s.regs.rsvd ∧ (s.loadUnit u).regs.waiting = s.regs.waiting ∧
    (s.loadUnit u).regs.stale = s.regs.stale ∧ (s.loadUnit u).regs.posted = s.regs.posted := by
  and_intros <;> (unfold State.loadUnit; repeat' (first | with_reducible rfl | (simp; done) | split | with_reducible refine (State.regs_setA_foldl _ _ _ (fun _ _ => ?_)).trans ?_ | with_reducible refine (State.regs_setB_foldl _ _ _ (fun _ _ => ?_)).trans ?_ | with_reducible refine (State.regs_one_foldl _ _ _ (fun _ _ => ?_)).trans ?_ | with_reducible refine (State.regs_rsvd_foldl _ _ _ (fun _ _ => ?_)).trans ?_ | with_reducible refine (State.regs_waiting_foldl _ _ _ (fun _ _ => ?_)).trans ?_ | with_reducible refine (State.regs_stale_foldl _ _ _ (fun _ _ => ?_)).trans ?_ | with_reducible refine (State.regs_posted_foldl _ _ _ (fun _ _ => ?_)).trans ?_ | with_reducible refine (State.fd_mem_foldl _ _ _ (fun _ _ => ?_)).trans ?_ | with_reducible refine (State.dm_sram_foldl _ _ _ (fun _ _ => ?_)).trans ?_ | with_reducible refine (State.sq_frameNo_foldl _ _ _ (fun _ _ => ?_)).trans ?_ | with_reducible refine (State.sq_inScan_foldl _ _ _ (fun _ _ => ?_)).trans ?_ | with_reducible refine (State.sq_nextBoundary_foldl _ _ _ (fun _ _ => ?_)).trans ?_ | with_reducible refine (State.pw_gate_foldl _ _ _ (fun _ _ => ?_)).trans ?_ | (dsimp only; first | split | with_reducible refine (State.regs_setA_foldl _ _ _ (fun _ _ => ?_)).trans ?_ | with_reducible refine (State.regs_setB_foldl _ _ _ (fun _ _ => ?_)).trans ?_ | with_reducible refine (State.regs_one_foldl _ _ _ (fun _ _ => ?_)).trans ?_ | with_reducible refine (State.regs_rsvd_foldl _ _ _ (fun _ _ => ?_)).trans ?_ | with_reducible refine (State.regs_waiting_foldl _ _ _ (fun _ _ => ?_)).trans ?_ | with_reducible refine (State.regs_stale_foldl _ _ _ (fun _ _ => ?_)).trans ?_ | with_reducible refine (State.regs_posted_foldl _ _ _ (fun _ _ => ?_)).trans ?_ | with_reducible refine (State.fd_mem_foldl _ _ _ (fun _ _ => ?_)).trans ?_ | with_reducible refine (State.dm_sram_foldl _ _ _ (fun _ _ => ?_)).trans ?_ | with_reducible refine (State.sq_frameNo_foldl _ _ _ (fun _ _ => ?_)).trans ?_ | with_reducible refine (State.sq_inScan_foldl _ _ _ (fun _ _ => ?_)).trans ?_ | with_reducible refine (State.sq_nextBoundary_foldl _ _ _ (fun _ _ => ?_)).trans ?_ | with_reducible refine (State.pw_gate_foldl _ _ _ (fun _ _ => ?_)).trans ?_)))

@[simp] theorem State.unitWritten_parts (s : State) (u : Nat) :
    (s.unitWritten u).regs.setA = s.regs.setA ∧ (s.unitWritten u).regs.setB = s.regs.setB ∧
    (s.unitWritten u).regs.one = s.regs.one ∧ (s.unitWritten u).regs.rsvd = s.regs.rsvd ∧
    (s.unitWritten u).regs.waiting = s.regs.waiting ∧ (s.unitWritten u).regs.stale = s.regs.stale ∧
    (s.unitWritten u).regs.posted = s.regs.posted := by
  and_intros <;> (unfold State.unitWritten; repeat' (first | with_reducible rfl | (simp; done) | split | with_reducible refine (State.regs_setA_foldl _ _ _ (fun _ _ => ?_)).trans ?_ | with_reducible refine (State.regs_setB_foldl _ _ _ (fun _ _ => ?_)).trans ?_ | with_reducible refine (State.regs_one_foldl _ _ _ (fun _ _ => ?_)).trans ?_ | with_reducible refine (State.regs_rsvd_foldl _ _ _ (fun _ _ => ?_)).trans ?_ | with_reducible refine (State.regs_waiting_foldl _ _ _ (fun _ _ => ?_)).trans ?_ | with_reducible refine (State.regs_stale_foldl _ _ _ (fun _ _ => ?_)).trans ?_ | with_reducible refine (State.regs_posted_foldl _ _ _ (fun _ _ => ?_)).trans ?_ | with_reducible refine (State.fd_mem_foldl _ _ _ (fun _ _ => ?_)).trans ?_ | with_reducible refine (State.dm_sram_foldl _ _ _ (fun _ _ => ?_)).trans ?_ | with_reducible refine (State.sq_frameNo_foldl _ _ _ (fun _ _ => ?_)).trans ?_ | with_reducible refine (State.sq_inScan_foldl _ _ _ (fun _ _ => ?_)).trans ?_ | with_reducible refine (State.sq_nextBoundary_foldl _ _ _ (fun _ _ => ?_)).trans ?_ | with_reducible refine (State.pw_gate_foldl _ _ _ (fun _ _ => ?_)).trans ?_ | (dsimp only; first | split | with_reducible refine (State.regs_setA_foldl _ _ _ (fun _ _ => ?_)).trans ?_ | with_reducible refine (State.regs_setB_foldl _ _ _ (fun _ _ => ?_)).trans ?_ | with_reducible refine (State.regs_one_foldl _ _ _ (fun _ _ => ?_)).trans ?_ | with_reducible refine (State.regs_rsvd_foldl _ _ _ (fun _ _ => ?_)).trans ?_ | with_reducible refine (State.regs_waiting_foldl _ _ _ (fun _ _ => ?_)).trans ?_ | with_reducible refine (State.regs_stale_foldl _ _ _ (fun _ _ => ?_)).trans ?_ | with_reducible refine (State.regs_posted_foldl _ _ _ (fun _ _ => ?_)).trans ?_ | with_reducible refine (State.fd_mem_foldl _ _ _ (fun _ _ => ?_)).trans ?_ | with_reducible refine (State.dm_sram_foldl _ _ _ (fun _ _ => ?_)).trans ?_ | with_reducible refine (State.sq_frameNo_foldl _ _ _ (fun _ _ => ?_)).trans ?_ | with_reducible refine (State.sq_inScan_foldl _ _ _ (fun _ _ => ?_)).trans ?_ | with_reducible refine (State.sq_nextBoundary_foldl _ _ _ (fun _ _ => ?_)).trans ?_ | with_reducible refine (State.pw_gate_foldl _ _ _ (fun _ _ => ?_)).trans ?_)))

@[simp] theorem State.aqAbort_parts (s : State) (b : Nat) :
    (s.aqAbort b).regs.setA = s.regs.setA ∧ (s.aqAbort b).regs.setB = s.regs.setB ∧ (s.aqAbort b).regs.one = s.regs.one ∧
    (s.aqAbort b).regs.rsvd = s.regs.rsvd ∧ (s.aqAbort b).regs.waiting = s.regs.waiting ∧
    (s.aqAbort b).regs.stale = s.regs.stale ∧ (s.aqAbort b).regs.posted = s.regs.posted := by
  and_intros <;> (unfold State.aqAbort; repeat' (first | with_reducible rfl | (simp; done) | split | with_reducible refine (State.regs_setA_foldl _ _ _ (fun _ _ => ?_)).trans ?_ | with_reducible refine (State.regs_setB_foldl _ _ _ (fun _ _ => ?_)).trans ?_ | with_reducible refine (State.regs_one_foldl _ _ _ (fun _ _ => ?_)).trans ?_ | with_reducible refine (State.regs_rsvd_foldl _ _ _ (fun _ _ => ?_)).trans ?_ | with_reducible refine (State.regs_waiting_foldl _ _ _ (fun _ _ => ?_)).trans ?_ | with_reducible refine (State.regs_stale_foldl _ _ _ (fun _ _ => ?_)).trans ?_ | with_reducible refine (State.regs_posted_foldl _ _ _ (fun _ _ => ?_)).trans ?_ | with_reducible refine (State.fd_mem_foldl _ _ _ (fun _ _ => ?_)).trans ?_ | with_reducible refine (State.dm_sram_foldl _ _ _ (fun _ _ => ?_)).trans ?_ | with_reducible refine (State.sq_frameNo_foldl _ _ _ (fun _ _ => ?_)).trans ?_ | with_reducible refine (State.sq_inScan_foldl _ _ _ (fun _ _ => ?_)).trans ?_ | with_reducible refine (State.sq_nextBoundary_foldl _ _ _ (fun _ _ => ?_)).trans ?_ | with_reducible refine (State.pw_gate_foldl _ _ _ (fun _ _ => ?_)).trans ?_ | (dsimp only; first | split | with_reducible refine (State.regs_setA_foldl _ _ _ (fun _ _ => ?_)).trans ?_ | with_reducible refine (State.regs_setB_foldl _ _ _ (fun _ _ => ?_)).trans ?_ | with_reducible refine (State.regs_one_foldl _ _ _ (fun _ _ => ?_)).trans ?_ | with_reducible refine (State.regs_rsvd_foldl _ _ _ (fun _ _ => ?_)).trans ?_ | with_reducible refine (State.regs_waiting_foldl _ _ _ (fun _ _ => ?_)).trans ?_ | with_reducible refine (State.regs_stale_foldl _ _ _ (fun _ _ => ?_)).trans ?_ | with_reducible refine (State.regs_posted_foldl _ _ _ (fun _ _ => ?_)).trans ?_ | with_reducible refine (State.fd_mem_foldl _ _ _ (fun _ _ => ?_)).trans ?_ | with_reducible refine (State.dm_sram_foldl _ _ _ (fun _ _ => ?_)).trans ?_ | with_reducible refine (State.sq_frameNo_foldl _ _ _ (fun _ _ => ?_)).trans ?_ | with_reducible refine (State.sq_inScan_foldl _ _ _ (fun _ _ => ?_)).trans ?_ | with_reducible refine (State.sq_nextBoundary_foldl _ _ _ (fun _ _ => ?_)).trans ?_ | with_reducible refine (State.pw_gate_foldl _ _ _ (fun _ _ => ?_)).trans ?_)))

@[simp] theorem State.aqCntClr_parts (s : State) :
    (s.aqCntClr).regs.setA = s.regs.setA ∧ (s.aqCntClr).regs.setB = s.regs.setB ∧ (s.aqCntClr).regs.one = s.regs.one ∧
    (s.aqCntClr).regs.rsvd = s.regs.rsvd ∧ (s.aqCntClr).regs.waiting = s.regs.waiting ∧
    (s.aqCntClr).regs.stale = s.regs.stale ∧ (s.aqCntClr).regs.posted = s.regs.posted := by
  and_intros <;> (unfold State.aqCntClr; repeat' (first | with_reducible rfl | (simp; done) | split | with_reducible refine (State.regs_setA_foldl _ _ _ (fun _ _ => ?_)).trans ?_ | with_reducible refine (State.regs_setB_foldl _ _ _ (fun _ _ => ?_)).trans ?_ | with_reducible refine (State.regs_one_foldl _ _ _ (fun _ _ => ?_)).trans ?_ | with_reducible refine (State.regs_rsvd_foldl _ _ _ (fun _ _ => ?_)).trans ?_ | with_reducible refine (State.regs_waiting_foldl _ _ _ (fun _ _ => ?_)).trans ?_ | with_reducible refine (State.regs_stale_foldl _ _ _ (fun _ _ => ?_)).trans ?_ | with_reducible refine (State.regs_posted_foldl _ _ _ (fun _ _ => ?_)).trans ?_ | with_reducible refine (State.fd_mem_foldl _ _ _ (fun _ _ => ?_)).trans ?_ | with_reducible refine (State.dm_sram_foldl _ _ _ (fun _ _ => ?_)).trans ?_ | with_reducible refine (State.sq_frameNo_foldl _ _ _ (fun _ _ => ?_)).trans ?_ | with_reducible refine (State.sq_inScan_foldl _ _ _ (fun _ _ => ?_)).trans ?_ | with_reducible refine (State.sq_nextBoundary_foldl _ _ _ (fun _ _ => ?_)).trans ?_ | with_reducible refine (State.pw_gate_foldl _ _ _ (fun _ _ => ?_)).trans ?_ | (dsimp only; first | split | with_reducible refine (State.regs_setA_foldl _ _ _ (fun _ _ => ?_)).trans ?_ | with_reducible refine (State.regs_setB_foldl _ _ _ (fun _ _ => ?_)).trans ?_ | with_reducible refine (State.regs_one_foldl _ _ _ (fun _ _ => ?_)).trans ?_ | with_reducible refine (State.regs_rsvd_foldl _ _ _ (fun _ _ => ?_)).trans ?_ | with_reducible refine (State.regs_waiting_foldl _ _ _ (fun _ _ => ?_)).trans ?_ | with_reducible refine (State.regs_stale_foldl _ _ _ (fun _ _ => ?_)).trans ?_ | with_reducible refine (State.regs_posted_foldl _ _ _ (fun _ _ => ?_)).trans ?_ | with_reducible refine (State.fd_mem_foldl _ _ _ (fun _ _ => ?_)).trans ?_ | with_reducible refine (State.dm_sram_foldl _ _ _ (fun _ _ => ?_)).trans ?_ | with_reducible refine (State.sq_frameNo_foldl _ _ _ (fun _ _ => ?_)).trans ?_ | with_reducible refine (State.sq_inScan_foldl _ _ _ (fun _ _ => ?_)).trans ?_ | with_reducible refine (State.sq_nextBoundary_foldl _ _ _ (fun _ _ => ?_)).trans ?_ | with_reducible refine (State.pw_gate_foldl _ _ _ (fun _ _ => ?_)).trans ?_)))

end Sys2Proof.Machine
end

