-- ==== Sys2Proof/Laws/FrameTiles.lean ====
section
/-!
SUPPORT. The frames of the operations of Machine/Tiles.lean: the parts of the state that each of them leaves as they were.
-/

set_option linter.unusedTactic false
set_option linter.unreachableTactic false
set_option linter.unusedSimpArgs false

namespace Sys2Proof.Machine

@[simp] theorem State.setStRun_frame (s : State) (u : Nat) (x : StRun) :
    (s.setStRun u x).now = s.now ∧ (s.setStRun u x).phase = s.phase ∧ (s.setStRun u x).pending = s.pending ∧
    (s.setStRun u x).nodeOfs = s.nodeOfs ∧ (s.setStRun u x).freeCtr = s.freeCtr ∧ (s.setStRun u x).tx = s.tx ∧
    (s.setStRun u x).regs = s.regs ∧ (s.setStRun u x).sq = s.sq := by
  and_intros <;> (unfold State.setStRun; repeat' (first | with_reducible rfl | (simp; done) | split | with_reducible refine (foldl_inv _ _ _ _ (fun _ _ => ?_)).trans ?_ | (dsimp only; first | split | with_reducible refine (foldl_inv _ _ _ _ (fun _ _ => ?_)).trans ?_)))

@[simp] theorem State.setStRun_frame2 (s : State) (u : Nat) (x : StRun) :
    (s.setStRun u x).fd = s.fd ∧ (s.setStRun u x).ex = s.ex ∧ (s.setStRun u x).sv = s.sv ∧ (s.setStRun u x).ax = s.ax ∧
    (s.setStRun u x).aq = s.aq ∧ (s.setStRun u x).il = s.il ∧ (s.setStRun u x).ln = s.ln ∧ (s.setStRun u x).fl = s.fl := by
  and_intros <;> (unfold State.setStRun; repeat' (first | with_reducible rfl | (simp; done) | split | with_reducible refine (foldl_inv _ _ _ _ (fun _ _ => ?_)).trans ?_ | (dsimp only; first | split | with_reducible refine (foldl_inv _ _ _ _ (fun _ _ => ?_)).trans ?_)))

@[simp] theorem State.setStRun_frame3 (s : State) (u : Nat) (x : StRun) :
    (s.setStRun u x).ev = s.ev ∧ (s.setStRun u x).safe = s.safe ∧ (s.setStRun u x).dm = s.dm ∧ (s.setStRun u x).cm = s.cm ∧
    (s.setStRun u x).cf = s.cf ∧ (s.setStRun u x).pw = s.pw ∧ (s.setStRun u x).th = s.th := by
  and_intros <;> (unfold State.setStRun; repeat' (first | with_reducible rfl | (simp; done) | split | with_reducible refine (foldl_inv _ _ _ _ (fun _ _ => ?_)).trans ?_ | (dsimp only; first | split | with_reducible refine (foldl_inv _ _ _ _ (fun _ _ => ?_)).trans ?_)))

@[simp] theorem State.stResults_frame (s : State) (u : Nat) (x : StRun) :
    (s.stResults u x).now = s.now ∧ (s.stResults u x).phase = s.phase ∧ (s.stResults u x).pending = s.pending ∧
    (s.stResults u x).nodeOfs = s.nodeOfs ∧ (s.stResults u x).freeCtr = s.freeCtr ∧ (s.stResults u x).tx = s.tx ∧
    (s.stResults u x).tl = s.tl ∧ (s.stResults u x).sq = s.sq := by
  and_intros <;> (unfold State.stResults; repeat' (first | with_reducible rfl | (simp; done) | split | with_reducible refine (foldl_inv _ _ _ _ (fun _ _ => ?_)).trans ?_ | (dsimp only; first | split | with_reducible refine (foldl_inv _ _ _ _ (fun _ _ => ?_)).trans ?_)))

@[simp] theorem State.stResults_frame2 (s : State) (u : Nat) (x : StRun) :
    (s.stResults u x).fd = s.fd ∧ (s.stResults u x).ex = s.ex ∧ (s.stResults u x).sv = s.sv ∧ (s.stResults u x).ax = s.ax ∧
    (s.stResults u x).aq = s.aq ∧ (s.stResults u x).il = s.il ∧ (s.stResults u x).ln = s.ln ∧ (s.stResults u x).fl = s.fl := by
  and_intros <;> (unfold State.stResults; repeat' (first | with_reducible rfl | (simp; done) | split | with_reducible refine (foldl_inv _ _ _ _ (fun _ _ => ?_)).trans ?_ | (dsimp only; first | split | with_reducible refine (foldl_inv _ _ _ _ (fun _ _ => ?_)).trans ?_)))

@[simp] theorem State.stResults_frame3 (s : State) (u : Nat) (x : StRun) :
    (s.stResults u x).ev = s.ev ∧ (s.stResults u x).safe = s.safe ∧ (s.stResults u x).dm = s.dm ∧
    (s.stResults u x).cm = s.cm ∧ (s.stResults u x).cf = s.cf ∧ (s.stResults u x).pw = s.pw ∧ (s.stResults u x).th = s.th := by
  and_intros <;> (unfold State.stResults; repeat' (first | with_reducible rfl | (simp; done) | split | with_reducible refine (foldl_inv _ _ _ _ (fun _ _ => ?_)).trans ?_ | (dsimp only; first | split | with_reducible refine (foldl_inv _ _ _ _ (fun _ _ => ?_)).trans ?_)))

@[simp] theorem State.stOffer_frame (s : State) (u : Nat) (v : Option Nat) :
    (s.stOffer u v).now = s.now ∧ (s.stOffer u v).phase = s.phase ∧ (s.stOffer u v).pending = s.pending ∧
    (s.stOffer u v).nodeOfs = s.nodeOfs ∧ (s.stOffer u v).freeCtr = s.freeCtr ∧ (s.stOffer u v).tx = s.tx ∧
    (s.stOffer u v).sq = s.sq ∧ (s.stOffer u v).fd = s.fd := by
  and_intros <;> (unfold State.stOffer; repeat' (first | with_reducible rfl | (simp; done) | split | with_reducible refine (foldl_inv _ _ _ _ (fun _ _ => ?_)).trans ?_ | (dsimp only; first | split | with_reducible refine (foldl_inv _ _ _ _ (fun _ _ => ?_)).trans ?_)))

@[simp] theorem State.stOffer_frame2 (s : State) (u : Nat) (v : Option Nat) :
    (s.stOffer u v).ex = s.ex ∧ (s.stOffer u v).sv = s.sv ∧ (s.stOffer u v).ax = s.ax ∧ (s.stOffer u v).aq = s.aq ∧
    (s.stOffer u v).il = s.il ∧ (s.stOffer u v).ln = s.ln ∧ (s.stOffer u v).fl = s.fl ∧ (s.stOffer u v).safe = s.safe := by
  and_intros <;> (unfold State.stOffer; repeat' (first | with_reducible rfl | (simp; done) | split | with_reducible refine (foldl_inv _ _ _ _ (fun _ _ => ?_)).trans ?_ | (dsimp only; first | split | with_reducible refine (foldl_inv _ _ _ _ (fun _ _ => ?_)).trans ?_)))

@[simp] theorem State.stOffer_frame3 (s : State) (u : Nat) (v : Option Nat) :
    (s.stOffer u v).dm = s.dm ∧ (s.stOffer u v).cm = s.cm ∧ (s.stOffer u v).cf = s.cf ∧ (s.stOffer u v).pw = s.pw ∧
    (s.stOffer u v).th = s.th := by
  and_intros <;> (unfold State.stOffer; repeat' (first | with_reducible rfl | (simp; done) | split | with_reducible refine (foldl_inv _ _ _ _ (fun _ _ => ?_)).trans ?_ | (dsimp only; first | split | with_reducible refine (foldl_inv _ _ _ _ (fun _ _ => ?_)).trans ?_)))

@[simp] theorem State.stEntry_frame (s : State) (c emitter : Nat) (first : Bool) (v : Option Nat) :
    (s.stEntry c emitter first v).now = s.now ∧ (s.stEntry c emitter first v).phase = s.phase ∧
    (s.stEntry c emitter first v).pending = s.pending ∧ (s.stEntry c emitter first v).nodeOfs = s.nodeOfs ∧
    (s.stEntry c emitter first v).freeCtr = s.freeCtr ∧ (s.stEntry c emitter first v).tx = s.tx ∧
    (s.stEntry c emitter first v).sq = s.sq ∧ (s.stEntry c emitter first v).fd = s.fd := by
  and_intros <;> (unfold State.stEntry; repeat' (first | with_reducible rfl | (simp; done) | split | with_reducible refine (foldl_inv _ _ _ _ (fun _ _ => ?_)).trans ?_ | (dsimp only; first | split | with_reducible refine (foldl_inv _ _ _ _ (fun _ _ => ?_)).trans ?_)))

@[simp] theorem State.stEntry_frame2 (s : State) (c emitter : Nat) (first : Bool) (v : Option Nat) :
    (s.stEntry c emitter first v).ex = s.ex ∧ (s.stEntry c emitter first v).sv = s.sv ∧
    (s.stEntry c emitter first v).ax = s.ax ∧ (s.stEntry c emitter first v).aq = s.aq ∧
    (s.stEntry c emitter first v).il = s.il ∧ (s.stEntry c emitter first v).ln = s.ln ∧
    (s.stEntry c emitter first v).fl = s.fl ∧ (s.stEntry c emitter first v).safe = s.safe := by
  and_intros <;> (unfold State.stEntry; repeat' (first | with_reducible rfl | (simp; done) | split | with_reducible refine (foldl_inv _ _ _ _ (fun _ _ => ?_)).trans ?_ | (dsimp only; first | split | with_reducible refine (foldl_inv _ _ _ _ (fun _ _ => ?_)).trans ?_)))

@[simp] theorem State.stEntry_frame3 (s : State) (c emitter : Nat) (first : Bool) (v : Option Nat) :
    (s.stEntry c emitter first v).dm = s.dm ∧ (s.stEntry c emitter first v).cm = s.cm ∧
    (s.stEntry c emitter first v).cf = s.cf ∧ (s.stEntry c emitter first v).pw = s.pw ∧
    (s.stEntry c emitter first v).th = s.th := by
  and_intros <;> (unfold State.stEntry; repeat' (first | with_reducible rfl | (simp; done) | split | with_reducible refine (foldl_inv _ _ _ _ (fun _ _ => ?_)).trans ?_ | (dsimp only; first | split | with_reducible refine (foldl_inv _ _ _ _ (fun _ _ => ?_)).trans ?_)))

@[simp] theorem State.stFfb_frame (s : State) (e : Nat) (delay : Int) :
    (s.stFfb e delay).now = s.now ∧ (s.stFfb e delay).phase = s.phase ∧ (s.stFfb e delay).pending = s.pending ∧
    (s.stFfb e delay).nodeOfs = s.nodeOfs ∧ (s.stFfb e delay).freeCtr = s.freeCtr ∧ (s.stFfb e delay).tx = s.tx ∧
    (s.stFfb e delay).sq = s.sq ∧ (s.stFfb e delay).fd = s.fd := by
  and_intros <;> (unfold State.stFfb; repeat' (first | with_reducible rfl | (simp; done) | split | with_reducible refine (foldl_inv _ _ _ _ (fun _ _ => ?_)).trans ?_ | (dsimp only; first | split | with_reducible refine (foldl_inv _ _ _ _ (fun _ _ => ?_)).trans ?_)))

@[simp] theorem State.stFfb_frame2 (s : State) (e : Nat) (delay : Int) :
    (s.stFfb e delay).ex = s.ex ∧ (s.stFfb e delay).sv = s.sv ∧ (s.stFfb e delay).ax = s.ax ∧ (s.stFfb e delay).aq = s.aq ∧
    (s.stFfb e delay).il = s.il ∧ (s.stFfb e delay).ln = s.ln ∧ (s.stFfb e delay).fl = s.fl ∧
    (s.stFfb e delay).safe = s.safe := by
  and_intros <;> (unfold State.stFfb; repeat' (first | with_reducible rfl | (simp; done) | split | with_reducible refine (foldl_inv _ _ _ _ (fun _ _ => ?_)).trans ?_ | (dsimp only; first | split | with_reducible refine (foldl_inv _ _ _ _ (fun _ _ => ?_)).trans ?_)))

@[simp] theorem State.stFfb_frame3 (s : State) (e : Nat) (delay : Int) :
    (s.stFfb e delay).dm = s.dm ∧ (s.stFfb e delay).cm = s.cm ∧ (s.stFfb e delay).cf = s.cf ∧ (s.stFfb e delay).pw = s.pw ∧
    (s.stFfb e delay).th = s.th := by
  and_intros <;> (unfold State.stFfb; repeat' (first | with_reducible rfl | (simp; done) | split | with_reducible refine (foldl_inv _ _ _ _ (fun _ _ => ?_)).trans ?_ | (dsimp only; first | split | with_reducible refine (foldl_inv _ _ _ _ (fun _ _ => ?_)).trans ?_)))

@[simp] theorem State.enterStamp_frame (s : State) (r : RawEntry) (x : TeShot) (ffb : Int) :
    (s.enterStamp r x ffb).now = s.now ∧ (s.enterStamp r x ffb).phase = s.phase ∧ (s.enterStamp r x ffb).pending = s.pending ∧
    (s.enterStamp r x ffb).nodeOfs = s.nodeOfs ∧ (s.enterStamp r x ffb).freeCtr = s.freeCtr ∧
    (s.enterStamp r x ffb).tx = s.tx ∧ (s.enterStamp r x ffb).sq = s.sq ∧ (s.enterStamp r x ffb).fd = s.fd := by
  and_intros <;> (unfold State.enterStamp; repeat' (first | with_reducible rfl | (simp; done) | split | with_reducible refine (foldl_inv _ _ _ _ (fun _ _ => ?_)).trans ?_ | (dsimp only; first | split | with_reducible refine (foldl_inv _ _ _ _ (fun _ _ => ?_)).trans ?_)))

@[simp] theorem State.enterStamp_frame2 (s : State) (r : RawEntry) (x : TeShot) (ffb : Int) :
    (s.enterStamp r x ffb).ex = s.ex ∧ (s.enterStamp r x ffb).sv = s.sv ∧ (s.enterStamp r x ffb).ax = s.ax ∧
    (s.enterStamp r x ffb).aq = s.aq ∧ (s.enterStamp r x ffb).il = s.il ∧ (s.enterStamp r x ffb).ln = s.ln ∧
    (s.enterStamp r x ffb).fl = s.fl ∧ (s.enterStamp r x ffb).safe = s.safe := by
  and_intros <;> (unfold State.enterStamp; repeat' (first | with_reducible rfl | (simp; done) | split | with_reducible refine (foldl_inv _ _ _ _ (fun _ _ => ?_)).trans ?_ | (dsimp only; first | split | with_reducible refine (foldl_inv _ _ _ _ (fun _ _ => ?_)).trans ?_)))

@[simp] theorem State.enterStamp_frame3 (s : State) (r : RawEntry) (x : TeShot) (ffb : Int) :
    (s.enterStamp r x ffb).dm = s.dm ∧ (s.enterStamp r x ffb).cm = s.cm ∧ (s.enterStamp r x ffb).cf = s.cf ∧
    (s.enterStamp r x ffb).pw = s.pw ∧ (s.enterStamp r x ffb).th = s.th := by
  and_intros <;> (unfold State.enterStamp; repeat' (first | with_reducible rfl | (simp; done) | split | with_reducible refine (foldl_inv _ _ _ _ (fun _ _ => ?_)).trans ?_ | (dsimp only; first | split | with_reducible refine (foldl_inv _ _ _ _ (fun _ _ => ?_)).trans ?_)))

@[simp] theorem State.formed_frame (s : State) (r : RawEntry) :
    (s.formed r).now = s.now ∧ (s.formed r).phase = s.phase ∧ (s.formed r).pending = s.pending ∧
    (s.formed r).nodeOfs = s.nodeOfs ∧ (s.formed r).freeCtr = s.freeCtr ∧ (s.formed r).tx = s.tx ∧ (s.formed r).sq = s.sq ∧
    (s.formed r).fd = s.fd := by
  and_intros <;> (unfold State.formed; repeat' (first | with_reducible rfl | (simp; done) | split | with_reducible refine (foldl_inv _ _ _ _ (fun _ _ => ?_)).trans ?_ | (dsimp only; first | split | with_reducible refine (foldl_inv _ _ _ _ (fun _ _ => ?_)).trans ?_)))

@[simp] theorem State.formed_frame2 (s : State) (r : RawEntry) :
    (s.formed r).ex = s.ex ∧ (s.formed r).sv = s.sv ∧ (s.formed r).ax = s.ax ∧ (s.formed r).aq = s.aq ∧
    (s.formed r).il = s.il ∧ (s.formed r).ln = s.ln ∧ (s.formed r).fl = s.fl ∧ (s.formed r).safe = s.safe := by
  and_intros <;> (unfold State.formed; repeat' (first | with_reducible rfl | (simp; done) | split | with_reducible refine (foldl_inv _ _ _ _ (fun _ _ => ?_)).trans ?_ | (dsimp only; first | split | with_reducible refine (foldl_inv _ _ _ _ (fun _ _ => ?_)).trans ?_)))

@[simp] theorem State.formed_frame3 (s : State) (r : RawEntry) :
    (s.formed r).dm = s.dm ∧ (s.formed r).cm = s.cm ∧ (s.formed r).cf = s.cf ∧ (s.formed r).pw = s.pw ∧
    (s.formed r).th = s.th := by
  and_intros <;> (unfold State.formed; repeat' (first | with_reducible rfl | (simp; done) | split | with_reducible refine (foldl_inv _ _ _ _ (fun _ _ => ?_)).trans ?_ | (dsimp only; first | split | with_reducible refine (foldl_inv _ _ _ _ (fun _ _ => ?_)).trans ?_)))

@[simp] theorem State.setFfb_frame (s : State) (x : TeShot) (ffb : Int) (fbs : Bool) :
    (s.setFfb x ffb fbs).now = s.now ∧ (s.setFfb x ffb fbs).phase = s.phase ∧ (s.setFfb x ffb fbs).pending = s.pending ∧
    (s.setFfb x ffb fbs).nodeOfs = s.nodeOfs ∧ (s.setFfb x ffb fbs).freeCtr = s.freeCtr ∧ (s.setFfb x ffb fbs).tx = s.tx ∧
    (s.setFfb x ffb fbs).sq = s.sq ∧ (s.setFfb x ffb fbs).fd = s.fd := by
  and_intros <;> (unfold State.setFfb; repeat' (first | with_reducible rfl | (simp; done) | split | with_reducible refine (foldl_inv _ _ _ _ (fun _ _ => ?_)).trans ?_ | (dsimp only; first | split | with_reducible refine (foldl_inv _ _ _ _ (fun _ _ => ?_)).trans ?_)))

@[simp] theorem State.setFfb_frame2 (s : State) (x : TeShot) (ffb : Int) (fbs : Bool) :
    (s.setFfb x ffb fbs).ex = s.ex ∧ (s.setFfb x ffb fbs).sv = s.sv ∧ (s.setFfb x ffb fbs).ax = s.ax ∧
    (s.setFfb x ffb fbs).aq = s.aq ∧ (s.setFfb x ffb fbs).il = s.il ∧ (s.setFfb x ffb fbs).ln = s.ln ∧
    (s.setFfb x ffb fbs).fl = s.fl ∧ (s.setFfb x ffb fbs).safe = s.safe := by
  and_intros <;> (unfold State.setFfb; repeat' (first | with_reducible rfl | (simp; done) | split | with_reducible refine (foldl_inv _ _ _ _ (fun _ _ => ?_)).trans ?_ | (dsimp only; first | split | with_reducible refine (foldl_inv _ _ _ _ (fun _ _ => ?_)).trans ?_)))

@[simp] theorem State.setFfb_frame3 (s : State) (x : TeShot) (ffb : Int) (fbs : Bool) :
    (s.setFfb x ffb fbs).dm = s.dm ∧ (s.setFfb x ffb fbs).cm = s.cm ∧ (s.setFfb x ffb fbs).cf = s.cf ∧
    (s.setFfb x ffb fbs).pw = s.pw ∧ (s.setFfb x ffb fbs).th = s.th := by
  and_intros <;> (unfold State.setFfb; repeat' (first | with_reducible rfl | (simp; done) | split | with_reducible refine (foldl_inv _ _ _ _ (fun _ _ => ?_)).trans ?_ | (dsimp only; first | split | with_reducible refine (foldl_inv _ _ _ _ (fun _ _ => ?_)).trans ?_)))

@[simp] theorem State.mapClamps_frame (s : State) (c : Nat) (f : ClampLog → ClampLog) :
    (s.mapClamps c f).now = s.now ∧ (s.mapClamps c f).phase = s.phase ∧ (s.mapClamps c f).pending = s.pending ∧
    (s.mapClamps c f).nodeOfs = s.nodeOfs ∧ (s.mapClamps c f).freeCtr = s.freeCtr ∧ (s.mapClamps c f).tx = s.tx ∧
    (s.mapClamps c f).regs = s.regs ∧ (s.mapClamps c f).sq = s.sq := by
  and_intros <;> (unfold State.mapClamps; repeat' (first | with_reducible rfl | (simp; done) | split | with_reducible refine (foldl_inv _ _ _ _ (fun _ _ => ?_)).trans ?_ | (dsimp only; first | split | with_reducible refine (foldl_inv _ _ _ _ (fun _ _ => ?_)).trans ?_)))

@[simp] theorem State.mapClamps_frame2 (s : State) (c : Nat) (f : ClampLog → ClampLog) :
    (s.mapClamps c f).fd = s.fd ∧ (s.mapClamps c f).ex = s.ex ∧ (s.mapClamps c f).sv = s.sv ∧ (s.mapClamps c f).ax = s.ax ∧
    (s.mapClamps c f).aq = s.aq ∧ (s.mapClamps c f).il = s.il ∧ (s.mapClamps c f).ln = s.ln ∧ (s.mapClamps c f).fl = s.fl := by
  and_intros <;> (unfold State.mapClamps; repeat' (first | with_reducible rfl | (simp; done) | split | with_reducible refine (foldl_inv _ _ _ _ (fun _ _ => ?_)).trans ?_ | (dsimp only; first | split | with_reducible refine (foldl_inv _ _ _ _ (fun _ _ => ?_)).trans ?_)))

@[simp] theorem State.mapClamps_frame3 (s : State) (c : Nat) (f : ClampLog → ClampLog) :
    (s.mapClamps c f).ev = s.ev ∧ (s.mapClamps c f).safe = s.safe ∧ (s.mapClamps c f).dm = s.dm ∧
    (s.mapClamps c f).cm = s.cm ∧ (s.mapClamps c f).cf = s.cf ∧ (s.mapClamps c f).pw = s.pw ∧ (s.mapClamps c f).th = s.th := by
  and_intros <;> (unfold State.mapClamps; repeat' (first | with_reducible rfl | (simp; done) | split | with_reducible refine (foldl_inv _ _ _ _ (fun _ _ => ?_)).trans ?_ | (dsimp only; first | split | with_reducible refine (foldl_inv _ _ _ _ (fun _ _ => ?_)).trans ?_)))

@[simp] theorem State.endBlanking_frame (s : State) (c : Nat) :
    (s.endBlanking c).now = s.now ∧ (s.endBlanking c).phase = s.phase ∧ (s.endBlanking c).pending = s.pending ∧
    (s.endBlanking c).nodeOfs = s.nodeOfs ∧ (s.endBlanking c).freeCtr = s.freeCtr ∧ (s.endBlanking c).tx = s.tx ∧
    (s.endBlanking c).regs = s.regs ∧ (s.endBlanking c).sq = s.sq := by
  and_intros <;> (unfold State.endBlanking; repeat' (first | with_reducible rfl | (simp; done) | split | with_reducible refine (foldl_inv _ _ _ _ (fun _ _ => ?_)).trans ?_ | (dsimp only; first | split | with_reducible refine (foldl_inv _ _ _ _ (fun _ _ => ?_)).trans ?_)))

@[simp] theorem State.endBlanking_frame2 (s : State) (c : Nat) :
    (s.endBlanking c).fd = s.fd ∧ (s.endBlanking c).ex = s.ex ∧ (s.endBlanking c).sv = s.sv ∧ (s.endBlanking c).ax = s.ax ∧
    (s.endBlanking c).aq = s.aq ∧ (s.endBlanking c).il = s.il ∧ (s.endBlanking c).ln = s.ln ∧ (s.endBlanking c).fl = s.fl := by
  and_intros <;> (unfold State.endBlanking; repeat' (first | with_reducible rfl | (simp; done) | split | with_reducible refine (foldl_inv _ _ _ _ (fun _ _ => ?_)).trans ?_ | (dsimp only; first | split | with_reducible refine (foldl_inv _ _ _ _ (fun _ _ => ?_)).trans ?_)))

@[simp] theorem State.endBlanking_frame3 (s : State) (c : Nat) :
    (s.endBlanking c).ev = s.ev ∧ (s.endBlanking c).safe = s.safe ∧ (s.endBlanking c).dm = s.dm ∧
    (s.endBlanking c).cm = s.cm ∧ (s.endBlanking c).cf = s.cf ∧ (s.endBlanking c).pw = s.pw ∧ (s.endBlanking c).th = s.th := by
  and_intros <;> (unfold State.endBlanking; repeat' (first | with_reducible rfl | (simp; done) | split | with_reducible refine (foldl_inv _ _ _ _ (fun _ _ => ?_)).trans ?_ | (dsimp only; first | split | with_reducible refine (foldl_inv _ _ _ _ (fun _ _ => ?_)).trans ?_)))

@[simp] theorem State.openWindow_frame (s : State) (c coarse : Nat) (w : ShotWin) :
    (s.openWindow c coarse w).now = s.now ∧ (s.openWindow c coarse w).phase = s.phase ∧
    (s.openWindow c coarse w).pending = s.pending ∧ (s.openWindow c coarse w).nodeOfs = s.nodeOfs ∧
    (s.openWindow c coarse w).freeCtr = s.freeCtr ∧ (s.openWindow c coarse w).tx = s.tx ∧
    (s.openWindow c coarse w).sq = s.sq ∧ (s.openWindow c coarse w).ex = s.ex := by
  and_intros <;> (unfold State.openWindow; repeat' (first | with_reducible rfl | (simp; done) | split | with_reducible refine (foldl_inv _ _ _ _ (fun _ _ => ?_)).trans ?_ | (dsimp only; first | split | with_reducible refine (foldl_inv _ _ _ _ (fun _ _ => ?_)).trans ?_)))

@[simp] theorem State.openWindow_frame2 (s : State) (c coarse : Nat) (w : ShotWin) :
    (s.openWindow c coarse w).sv = s.sv ∧ (s.openWindow c coarse w).ax = s.ax ∧ (s.openWindow c coarse w).aq = s.aq ∧
    (s.openWindow c coarse w).il = s.il ∧ (s.openWindow c coarse w).ln = s.ln ∧ (s.openWindow c coarse w).fl = s.fl ∧
    (s.openWindow c coarse w).ev = s.ev ∧ (s.openWindow c coarse w).safe = s.safe := by
  and_intros <;> (unfold State.openWindow; repeat' (first | with_reducible rfl | (simp; done) | split | with_reducible refine (foldl_inv _ _ _ _ (fun _ _ => ?_)).trans ?_ | (dsimp only; first | split | with_reducible refine (foldl_inv _ _ _ _ (fun _ _ => ?_)).trans ?_)))

@[simp] theorem State.openWindow_frame3 (s : State) (c coarse : Nat) (w : ShotWin) :
    (s.openWindow c coarse w).dm = s.dm ∧ (s.openWindow c coarse w).cm = s.cm ∧ (s.openWindow c coarse w).cf = s.cf ∧
    (s.openWindow c coarse w).pw = s.pw := by
  and_intros <;> (unfold State.openWindow; repeat' (first | with_reducible rfl | (simp; done) | split | with_reducible refine (foldl_inv _ _ _ _ (fun _ _ => ?_)).trans ?_ | (dsimp only; first | split | with_reducible refine (foldl_inv _ _ _ _ (fun _ _ => ?_)).trans ?_)))

@[simp] theorem State.suspectFrom_frame (s : State) :
    (s.suspectFrom).now = s.now ∧ (s.suspectFrom).phase = s.phase ∧ (s.suspectFrom).pending = s.pending ∧
    (s.suspectFrom).nodeOfs = s.nodeOfs ∧ (s.suspectFrom).freeCtr = s.freeCtr ∧ (s.suspectFrom).tx = s.tx ∧
    (s.suspectFrom).regs = s.regs ∧ (s.suspectFrom).tl = s.tl := by
  and_intros <;> (unfold State.suspectFrom; repeat' (first | with_reducible rfl | (simp; done) | split | with_reducible refine (foldl_inv _ _ _ _ (fun _ _ => ?_)).trans ?_ | (dsimp only; first | split | with_reducible refine (foldl_inv _ _ _ _ (fun _ _ => ?_)).trans ?_)))

@[simp] theorem State.suspectFrom_frame2 (s : State) :
    (s.suspectFrom).sq = s.sq ∧ (s.suspectFrom).ex = s.ex ∧ (s.suspectFrom).sv = s.sv ∧ (s.suspectFrom).ax = s.ax ∧
    (s.suspectFrom).aq = s.aq ∧ (s.suspectFrom).il = s.il ∧ (s.suspectFrom).ln = s.ln ∧ (s.suspectFrom).fl = s.fl := by
  and_intros <;> (unfold State.suspectFrom; repeat' (first | with_reducible rfl | (simp; done) | split | with_reducible refine (foldl_inv _ _ _ _ (fun _ _ => ?_)).trans ?_ | (dsimp only; first | split | with_reducible refine (foldl_inv _ _ _ _ (fun _ _ => ?_)).trans ?_)))

@[simp] theorem State.suspectFrom_frame3 (s : State) :
    (s.suspectFrom).ev = s.ev ∧ (s.suspectFrom).safe = s.safe ∧ (s.suspectFrom).dm = s.dm ∧ (s.suspectFrom).cm = s.cm ∧
    (s.suspectFrom).cf = s.cf ∧ (s.suspectFrom).pw = s.pw ∧ (s.suspectFrom).th = s.th := by
  and_intros <;> (unfold State.suspectFrom; repeat' (first | with_reducible rfl | (simp; done) | split | with_reducible refine (foldl_inv _ _ _ _ (fun _ _ => ?_)).trans ?_ | (dsimp only; first | split | with_reducible refine (foldl_inv _ _ _ _ (fun _ _ => ?_)).trans ?_)))

@[simp] theorem State.strobe_frame (s : State) (t : Nat) (m : Int) :
    (s.strobe t m).now = s.now ∧ (s.strobe t m).phase = s.phase ∧ (s.strobe t m).pending = s.pending ∧
    (s.strobe t m).nodeOfs = s.nodeOfs ∧ (s.strobe t m).freeCtr = s.freeCtr ∧ (s.strobe t m).tx = s.tx ∧
    (s.strobe t m).sq = s.sq ∧ (s.strobe t m).fd = s.fd := by
  and_intros <;> (unfold State.strobe; repeat' (first | with_reducible rfl | (simp; done) | split | with_reducible refine (foldl_inv _ _ _ _ (fun _ _ => ?_)).trans ?_ | (dsimp only; first | split | with_reducible refine (foldl_inv _ _ _ _ (fun _ _ => ?_)).trans ?_)))

@[simp] theorem State.strobe_frame2 (s : State) (t : Nat) (m : Int) :
    (s.strobe t m).ex = s.ex ∧ (s.strobe t m).sv = s.sv ∧ (s.strobe t m).ax = s.ax ∧ (s.strobe t m).aq = s.aq ∧
    (s.strobe t m).il = s.il ∧ (s.strobe t m).ln = s.ln ∧ (s.strobe t m).fl = s.fl ∧ (s.strobe t m).dm = s.dm := by
  and_intros <;> (unfold State.strobe; repeat' (first | with_reducible rfl | (simp; done) | split | with_reducible refine (foldl_inv _ _ _ _ (fun _ _ => ?_)).trans ?_ | (dsimp only; first | split | with_reducible refine (foldl_inv _ _ _ _ (fun _ _ => ?_)).trans ?_)))

@[simp] theorem State.strobe_frame3 (s : State) (t : Nat) (m : Int) :
    (s.strobe t m).cm = s.cm ∧ (s.strobe t m).cf = s.cf ∧ (s.strobe t m).pw = s.pw ∧ (s.strobe t m).th = s.th := by
  and_intros <;> (unfold State.strobe; repeat' (first | with_reducible rfl | (simp; done) | split | with_reducible refine (foldl_inv _ _ _ _ (fun _ _ => ?_)).trans ?_ | (dsimp only; first | split | with_reducible refine (foldl_inv _ _ _ _ (fun _ _ => ?_)).trans ?_)))

@[simp] theorem State.stAsk_frame (s : State) (u : Nat) :
    (s.stAsk u).now = s.now ∧ (s.stAsk u).phase = s.phase ∧ (s.stAsk u).pending = s.pending ∧
    (s.stAsk u).nodeOfs = s.nodeOfs ∧ (s.stAsk u).freeCtr = s.freeCtr ∧ (s.stAsk u).tx = s.tx ∧ (s.stAsk u).regs = s.regs ∧
    (s.stAsk u).sq = s.sq := by
  and_intros <;> (unfold State.stAsk; repeat' (first | with_reducible rfl | (simp; done) | split | with_reducible refine (foldl_inv _ _ _ _ (fun _ _ => ?_)).trans ?_ | (dsimp only; first | split | with_reducible refine (foldl_inv _ _ _ _ (fun _ _ => ?_)).trans ?_)))

@[simp] theorem State.stAsk_frame2 (s : State) (u : Nat) :
    (s.stAsk u).fd = s.fd ∧ (s.stAsk u).ex = s.ex ∧ (s.stAsk u).sv = s.sv ∧ (s.stAsk u).ax = s.ax ∧ (s.stAsk u).aq = s.aq ∧
    (s.stAsk u).il = s.il ∧ (s.stAsk u).ln = s.ln ∧ (s.stAsk u).fl = s.fl := by
  and_intros <;> (unfold State.stAsk; repeat' (first | with_reducible rfl | (simp; done) | split | with_reducible refine (foldl_inv _ _ _ _ (fun _ _ => ?_)).trans ?_ | (dsimp only; first | split | with_reducible refine (foldl_inv _ _ _ _ (fun _ _ => ?_)).trans ?_)))

@[simp] theorem State.stAsk_frame3 (s : State) (u : Nat) :
    (s.stAsk u).ev = s.ev ∧ (s.stAsk u).safe = s.safe ∧ (s.stAsk u).dm = s.dm ∧ (s.stAsk u).cm = s.cm ∧
    (s.stAsk u).cf = s.cf ∧ (s.stAsk u).pw = s.pw ∧ (s.stAsk u).th = s.th := by
  and_intros <;> (unfold State.stAsk; repeat' (first | with_reducible rfl | (simp; done) | split | with_reducible refine (foldl_inv _ _ _ _ (fun _ _ => ?_)).trans ?_ | (dsimp only; first | split | with_reducible refine (foldl_inv _ _ _ _ (fun _ _ => ?_)).trans ?_)))

@[simp] theorem State.stEnd_frame (s : State) (u : Nat) :
    (s.stEnd u).now = s.now ∧ (s.stEnd u).phase = s.phase ∧ (s.stEnd u).pending = s.pending ∧
    (s.stEnd u).nodeOfs = s.nodeOfs ∧ (s.stEnd u).freeCtr = s.freeCtr ∧ (s.stEnd u).tx = s.tx ∧ (s.stEnd u).tl = s.tl ∧
    (s.stEnd u).sq = s.sq := by
  and_intros <;> (unfold State.stEnd; repeat' (first | with_reducible rfl | (simp; done) | split | with_reducible refine (foldl_inv _ _ _ _ (fun _ _ => ?_)).trans ?_ | (dsimp only; first | split | with_reducible refine (foldl_inv _ _ _ _ (fun _ _ => ?_)).trans ?_)))

@[simp] theorem State.stEnd_frame2 (s : State) (u : Nat) :
    (s.stEnd u).fd = s.fd ∧ (s.stEnd u).ex = s.ex ∧ (s.stEnd u).sv = s.sv ∧ (s.stEnd u).ax = s.ax ∧ (s.stEnd u).aq = s.aq ∧
    (s.stEnd u).il = s.il ∧ (s.stEnd u).ln = s.ln ∧ (s.stEnd u).fl = s.fl := by
  and_intros <;> (unfold State.stEnd; repeat' (first | with_reducible rfl | (simp; done) | split | with_reducible refine (foldl_inv _ _ _ _ (fun _ _ => ?_)).trans ?_ | (dsimp only; first | split | with_reducible refine (foldl_inv _ _ _ _ (fun _ _ => ?_)).trans ?_)))

@[simp] theorem State.stEnd_frame3 (s : State) (u : Nat) :
    (s.stEnd u).ev = s.ev ∧ (s.stEnd u).safe = s.safe ∧ (s.stEnd u).dm = s.dm ∧ (s.stEnd u).cm = s.cm ∧
    (s.stEnd u).cf = s.cf ∧ (s.stEnd u).pw = s.pw ∧ (s.stEnd u).th = s.th := by
  and_intros <;> (unfold State.stEnd; repeat' (first | with_reducible rfl | (simp; done) | split | with_reducible refine (foldl_inv _ _ _ _ (fun _ _ => ?_)).trans ?_ | (dsimp only; first | split | with_reducible refine (foldl_inv _ _ _ _ (fun _ _ => ?_)).trans ?_)))

@[simp] theorem State.switchRange_frame (s : State) (c g : Nat) :
    (s.switchRange c g).now = s.now ∧ (s.switchRange c g).phase = s.phase ∧ (s.switchRange c g).pending = s.pending ∧
    (s.switchRange c g).nodeOfs = s.nodeOfs ∧ (s.switchRange c g).freeCtr = s.freeCtr ∧ (s.switchRange c g).tx = s.tx ∧
    (s.switchRange c g).sq = s.sq ∧ (s.switchRange c g).fd = s.fd := by
  and_intros <;> (unfold State.switchRange; repeat' (first | with_reducible rfl | (simp; done) | split | with_reducible refine (foldl_inv _ _ _ _ (fun _ _ => ?_)).trans ?_ | (dsimp only; first | split | with_reducible refine (foldl_inv _ _ _ _ (fun _ _ => ?_)).trans ?_)))

@[simp] theorem State.switchRange_frame2 (s : State) (c g : Nat) :
    (s.switchRange c g).ex = s.ex ∧ (s.switchRange c g).sv = s.sv ∧ (s.switchRange c g).ax = s.ax ∧
    (s.switchRange c g).aq = s.aq ∧ (s.switchRange c g).il = s.il ∧ (s.switchRange c g).ln = s.ln ∧
    (s.switchRange c g).fl = s.fl ∧ (s.switchRange c g).safe = s.safe := by
  and_intros <;> (unfold State.switchRange; repeat' (first | with_reducible rfl | (simp; done) | split | with_reducible refine (foldl_inv _ _ _ _ (fun _ _ => ?_)).trans ?_ | (dsimp only; first | split | with_reducible refine (foldl_inv _ _ _ _ (fun _ _ => ?_)).trans ?_)))

@[simp] theorem State.switchRange_frame3 (s : State) (c g : Nat) :
    (s.switchRange c g).dm = s.dm ∧ (s.switchRange c g).cm = s.cm ∧ (s.switchRange c g).cf = s.cf ∧
    (s.switchRange c g).pw = s.pw ∧ (s.switchRange c g).th = s.th := by
  and_intros <;> (unfold State.switchRange; repeat' (first | with_reducible rfl | (simp; done) | split | with_reducible refine (foldl_inv _ _ _ _ (fun _ _ => ?_)).trans ?_ | (dsimp only; first | split | with_reducible refine (foldl_inv _ _ _ _ (fun _ _ => ?_)).trans ?_)))

@[simp] theorem State.holdSelection_frame (s : State) (c : Nat) :
    (s.holdSelection c).now = s.now ∧ (s.holdSelection c).phase = s.phase ∧ (s.holdSelection c).pending = s.pending ∧
    (s.holdSelection c).nodeOfs = s.nodeOfs ∧ (s.holdSelection c).freeCtr = s.freeCtr ∧ (s.holdSelection c).tx = s.tx ∧
    (s.holdSelection c).tl = s.tl ∧ (s.holdSelection c).sq = s.sq := by
  and_intros <;> (unfold State.holdSelection; repeat' (first | with_reducible rfl | (simp; done) | split | with_reducible refine (foldl_inv _ _ _ _ (fun _ _ => ?_)).trans ?_ | (dsimp only; first | split | with_reducible refine (foldl_inv _ _ _ _ (fun _ _ => ?_)).trans ?_)))

@[simp] theorem State.holdSelection_frame2 (s : State) (c : Nat) :
    (s.holdSelection c).fd = s.fd ∧ (s.holdSelection c).ex = s.ex ∧ (s.holdSelection c).sv = s.sv ∧
    (s.holdSelection c).ax = s.ax ∧ (s.holdSelection c).aq = s.aq ∧ (s.holdSelection c).il = s.il ∧
    (s.holdSelection c).ln = s.ln ∧ (s.holdSelection c).fl = s.fl := by
  and_intros <;> (unfold State.holdSelection; repeat' (first | with_reducible rfl | (simp; done) | split | with_reducible refine (foldl_inv _ _ _ _ (fun _ _ => ?_)).trans ?_ | (dsimp only; first | split | with_reducible refine (foldl_inv _ _ _ _ (fun _ _ => ?_)).trans ?_)))

@[simp] theorem State.holdSelection_frame3 (s : State) (c : Nat) :
    (s.holdSelection c).ev = s.ev ∧ (s.holdSelection c).safe = s.safe ∧ (s.holdSelection c).dm = s.dm ∧
    (s.holdSelection c).cm = s.cm ∧ (s.holdSelection c).cf = s.cf ∧ (s.holdSelection c).pw = s.pw ∧
    (s.holdSelection c).th = s.th := by
  and_intros <;> (unfold State.holdSelection; repeat' (first | with_reducible rfl | (simp; done) | split | with_reducible refine (foldl_inv _ _ _ _ (fun _ _ => ?_)).trans ?_ | (dsimp only; first | split | with_reducible refine (foldl_inv _ _ _ _ (fun _ _ => ?_)).trans ?_)))

@[simp] theorem State.settleRange_frame (s : State) (c : Nat) (old : Score) :
    (s.settleRange c old).now = s.now ∧ (s.settleRange c old).phase = s.phase ∧ (s.settleRange c old).pending = s.pending ∧
    (s.settleRange c old).nodeOfs = s.nodeOfs ∧ (s.settleRange c old).freeCtr = s.freeCtr ∧ (s.settleRange c old).tx = s.tx ∧
    (s.settleRange c old).sq = s.sq ∧ (s.settleRange c old).fd = s.fd := by
  and_intros <;> (unfold State.settleRange; repeat' (first | with_reducible rfl | (simp; done) | split | with_reducible refine (foldl_inv _ _ _ _ (fun _ _ => ?_)).trans ?_ | (dsimp only; first | split | with_reducible refine (foldl_inv _ _ _ _ (fun _ _ => ?_)).trans ?_)))

@[simp] theorem State.settleRange_frame2 (s : State) (c : Nat) (old : Score) :
    (s.settleRange c old).ex = s.ex ∧ (s.settleRange c old).sv = s.sv ∧ (s.settleRange c old).ax = s.ax ∧
    (s.settleRange c old).aq = s.aq ∧ (s.settleRange c old).il = s.il ∧ (s.settleRange c old).ln = s.ln ∧
    (s.settleRange c old).fl = s.fl ∧ (s.settleRange c old).safe = s.safe := by
  and_intros <;> (unfold State.settleRange; repeat' (first | with_reducible rfl | (simp; done) | split | with_reducible refine (foldl_inv _ _ _ _ (fun _ _ => ?_)).trans ?_ | (dsimp only; first | split | with_reducible refine (foldl_inv _ _ _ _ (fun _ _ => ?_)).trans ?_)))

@[simp] theorem State.settleRange_frame3 (s : State) (c : Nat) (old : Score) :
    (s.settleRange c old).dm = s.dm ∧ (s.settleRange c old).cm = s.cm ∧ (s.settleRange c old).cf = s.cf ∧
    (s.settleRange c old).pw = s.pw ∧ (s.settleRange c old).th = s.th := by
  and_intros <;> (unfold State.settleRange; repeat' (first | with_reducible rfl | (simp; done) | split | with_reducible refine (foldl_inv _ _ _ _ (fun _ _ => ?_)).trans ?_ | (dsimp only; first | split | with_reducible refine (foldl_inv _ _ _ _ (fun _ _ => ?_)).trans ?_)))

@[simp] theorem State.applyChannel_frame (s : State) (c : Nat) :
    (s.applyChannel c).now = s.now ∧ (s.applyChannel c).phase = s.phase ∧ (s.applyChannel c).pending = s.pending ∧
    (s.applyChannel c).nodeOfs = s.nodeOfs ∧ (s.applyChannel c).freeCtr = s.freeCtr ∧ (s.applyChannel c).tl = s.tl ∧
    (s.applyChannel c).fd = s.fd ∧ (s.applyChannel c).ex = s.ex := by
  and_intros <;> (unfold State.applyChannel; repeat' (first | with_reducible rfl | (simp; done) | split | with_reducible refine (foldl_inv _ _ _ _ (fun _ _ => ?_)).trans ?_ | (dsimp only; first | split | with_reducible refine (foldl_inv _ _ _ _ (fun _ _ => ?_)).trans ?_)))

@[simp] theorem State.applyChannel_frame2 (s : State) (c : Nat) :
    (s.applyChannel c).sv = s.sv ∧ (s.applyChannel c).ax = s.ax ∧ (s.applyChannel c).aq = s.aq ∧
    (s.applyChannel c).il = s.il ∧ (s.applyChannel c).ln = s.ln ∧ (s.applyChannel c).dm = s.dm ∧
    (s.applyChannel c).cm = s.cm ∧ (s.applyChannel c).pw = s.pw := by
  and_intros <;> (unfold State.applyChannel; repeat' (first | with_reducible rfl | (simp; done) | split | with_reducible refine (foldl_inv _ _ _ _ (fun _ _ => ?_)).trans ?_ | (dsimp only; first | split | with_reducible refine (foldl_inv _ _ _ _ (fun _ _ => ?_)).trans ?_)))

@[simp] theorem State.applyChannel_frame3 (s : State) (c : Nat) :
    (s.applyChannel c).th = s.th := by
  unfold State.applyChannel; repeat' (first | with_reducible rfl | (simp; done) | split | with_reducible refine (foldl_inv _ _ _ _ (fun _ _ => ?_)).trans ?_ | (dsimp only; first | split | with_reducible refine (foldl_inv _ _ _ _ (fun _ _ => ?_)).trans ?_))

@[simp] theorem State.channelIntervalEnd_frame (s : State) (c : Nat) (seqs : List Nat) :
    (s.channelIntervalEnd c seqs).now = s.now ∧ (s.channelIntervalEnd c seqs).phase = s.phase ∧
    (s.channelIntervalEnd c seqs).pending = s.pending ∧ (s.channelIntervalEnd c seqs).nodeOfs = s.nodeOfs ∧
    (s.channelIntervalEnd c seqs).freeCtr = s.freeCtr ∧ (s.channelIntervalEnd c seqs).fd = s.fd ∧
    (s.channelIntervalEnd c seqs).ex = s.ex ∧ (s.channelIntervalEnd c seqs).sv = s.sv := by
  and_intros <;> (unfold State.channelIntervalEnd; repeat' (first | with_reducible rfl | (simp; done) | split | with_reducible refine (foldl_inv _ _ _ _ (fun _ _ => ?_)).trans ?_ | (dsimp only; first | split | with_reducible refine (foldl_inv _ _ _ _ (fun _ _ => ?_)).trans ?_)))

@[simp] theorem State.channelIntervalEnd_frame2 (s : State) (c : Nat) (seqs : List Nat) :
    (s.channelIntervalEnd c seqs).ax = s.ax ∧ (s.channelIntervalEnd c seqs).aq = s.aq ∧
    (s.channelIntervalEnd c seqs).il = s.il ∧ (s.channelIntervalEnd c seqs).ln = s.ln ∧
    (s.channelIntervalEnd c seqs).dm = s.dm ∧ (s.channelIntervalEnd c seqs).cm = s.cm ∧
    (s.channelIntervalEnd c seqs).pw = s.pw ∧ (s.channelIntervalEnd c seqs).th = s.th := by
  and_intros <;> (unfold State.channelIntervalEnd; repeat' (first | with_reducible rfl | (simp; done) | split | with_reducible refine (foldl_inv _ _ _ _ (fun _ _ => ?_)).trans ?_ | (dsimp only; first | split | with_reducible refine (foldl_inv _ _ _ _ (fun _ _ => ?_)).trans ?_)))

@[simp] theorem State.channelIdle_frame (s : State) (c : Nat) :
    (s.channelIdle c).now = s.now ∧ (s.channelIdle c).phase = s.phase ∧ (s.channelIdle c).pending = s.pending ∧
    (s.channelIdle c).nodeOfs = s.nodeOfs ∧ (s.channelIdle c).freeCtr = s.freeCtr ∧ (s.channelIdle c).fd = s.fd ∧
    (s.channelIdle c).ex = s.ex ∧ (s.channelIdle c).sv = s.sv := by
  and_intros <;> (unfold State.channelIdle; repeat' (first | with_reducible rfl | (simp; done) | split | with_reducible refine (foldl_inv _ _ _ _ (fun _ _ => ?_)).trans ?_ | (dsimp only; first | split | with_reducible refine (foldl_inv _ _ _ _ (fun _ _ => ?_)).trans ?_)))

@[simp] theorem State.channelIdle_frame2 (s : State) (c : Nat) :
    (s.channelIdle c).ax = s.ax ∧ (s.channelIdle c).aq = s.aq ∧ (s.channelIdle c).il = s.il ∧ (s.channelIdle c).ln = s.ln ∧
    (s.channelIdle c).dm = s.dm ∧ (s.channelIdle c).cm = s.cm ∧ (s.channelIdle c).pw = s.pw ∧ (s.channelIdle c).th = s.th := by
  and_intros <;> (unfold State.channelIdle; repeat' (first | with_reducible rfl | (simp; done) | split | with_reducible refine (foldl_inv _ _ _ _ (fun _ _ => ?_)).trans ?_ | (dsimp only; first | split | with_reducible refine (foldl_inv _ _ _ _ (fun _ _ => ?_)).trans ?_)))

@[simp] theorem State.tlCntClr_frame (s : State) (t : Nat) :
    (s.tlCntClr t).now = s.now ∧ (s.tlCntClr t).phase = s.phase ∧ (s.tlCntClr t).pending = s.pending ∧
    (s.tlCntClr t).nodeOfs = s.nodeOfs ∧ (s.tlCntClr t).freeCtr = s.freeCtr ∧ (s.tlCntClr t).tx = s.tx ∧
    (s.tlCntClr t).tl = s.tl ∧ (s.tlCntClr t).sq = s.sq := by
  and_intros <;> (unfold State.tlCntClr; repeat' (first | with_reducible rfl | (simp; done) | split | with_reducible refine (foldl_inv _ _ _ _ (fun _ _ => ?_)).trans ?_ | (dsimp only; first | split | with_reducible refine (foldl_inv _ _ _ _ (fun _ _ => ?_)).trans ?_)))

@[simp] theorem State.tlCntClr_frame2 (s : State) (t : Nat) :
    (s.tlCntClr t).fd = s.fd ∧ (s.tlCntClr t).ex = s.ex ∧ (s.tlCntClr t).sv = s.sv ∧ (s.tlCntClr t).ax = s.ax ∧
    (s.tlCntClr t).aq = s.aq ∧ (s.tlCntClr t).il = s.il ∧ (s.tlCntClr t).ln = s.ln ∧ (s.tlCntClr t).fl = s.fl := by
  and_intros <;> (unfold State.tlCntClr; repeat' (first | with_reducible rfl | (simp; done) | split | with_reducible refine (foldl_inv _ _ _ _ (fun _ _ => ?_)).trans ?_ | (dsimp only; first | split | with_reducible refine (foldl_inv _ _ _ _ (fun _ _ => ?_)).trans ?_)))

@[simp] theorem State.tlCntClr_frame3 (s : State) (t : Nat) :
    (s.tlCntClr t).ev = s.ev ∧ (s.tlCntClr t).safe = s.safe ∧ (s.tlCntClr t).dm = s.dm ∧ (s.tlCntClr t).cm = s.cm ∧
    (s.tlCntClr t).cf = s.cf ∧ (s.tlCntClr t).pw = s.pw ∧ (s.tlCntClr t).th = s.th := by
  and_intros <;> (unfold State.tlCntClr; repeat' (first | with_reducible rfl | (simp; done) | split | with_reducible refine (foldl_inv _ _ _ _ (fun _ _ => ?_)).trans ?_ | (dsimp only; first | split | with_reducible refine (foldl_inv _ _ _ _ (fun _ _ => ?_)).trans ?_)))

@[simp] theorem State.teCntClr_frame (s : State) (t : Nat) :
    (s.teCntClr t).now = s.now ∧ (s.teCntClr t).phase = s.phase ∧ (s.teCntClr t).pending = s.pending ∧
    (s.teCntClr t).nodeOfs = s.nodeOfs ∧ (s.teCntClr t).freeCtr = s.freeCtr ∧ (s.teCntClr t).tx = s.tx ∧
    (s.teCntClr t).tl = s.tl ∧ (s.teCntClr t).sq = s.sq := by
  and_intros <;> (unfold State.teCntClr; repeat' (first | with_reducible rfl | (simp; done) | split | with_reducible refine (foldl_inv _ _ _ _ (fun _ _ => ?_)).trans ?_ | (dsimp only; first | split | with_reducible refine (foldl_inv _ _ _ _ (fun _ _ => ?_)).trans ?_)))

@[simp] theorem State.teCntClr_frame2 (s : State) (t : Nat) :
    (s.teCntClr t).fd = s.fd ∧ (s.teCntClr t).ex = s.ex ∧ (s.teCntClr t).sv = s.sv ∧ (s.teCntClr t).ax = s.ax ∧
    (s.teCntClr t).aq = s.aq ∧ (s.teCntClr t).il = s.il ∧ (s.teCntClr t).ln = s.ln ∧ (s.teCntClr t).fl = s.fl := by
  and_intros <;> (unfold State.teCntClr; repeat' (first | with_reducible rfl | (simp; done) | split | with_reducible refine (foldl_inv _ _ _ _ (fun _ _ => ?_)).trans ?_ | (dsimp only; first | split | with_reducible refine (foldl_inv _ _ _ _ (fun _ _ => ?_)).trans ?_)))

@[simp] theorem State.teCntClr_frame3 (s : State) (t : Nat) :
    (s.teCntClr t).ev = s.ev ∧ (s.teCntClr t).safe = s.safe ∧ (s.teCntClr t).dm = s.dm ∧ (s.teCntClr t).cm = s.cm ∧
    (s.teCntClr t).cf = s.cf ∧ (s.teCntClr t).pw = s.pw ∧ (s.teCntClr t).th = s.th := by
  and_intros <;> (unfold State.teCntClr; repeat' (first | with_reducible rfl | (simp; done) | split | with_reducible refine (foldl_inv _ _ _ _ (fun _ _ => ?_)).trans ?_ | (dsimp only; first | split | with_reducible refine (foldl_inv _ _ _ _ (fun _ _ => ?_)).trans ?_)))

@[simp] theorem State.stResults_parts (s : State) (u : Nat) (x : StRun) :
    (s.stResults u x).regs.setA = s.regs.setA ∧ (s.stResults u x).regs.setB = s.regs.setB ∧
    (s.stResults u x).regs.one = s.regs.one ∧ (s.stResults u x).regs.rsvd = s.regs.rsvd ∧
    (s.stResults u x).regs.waiting = s.regs.waiting ∧ (s.stResults u x).regs.stale = s.regs.stale ∧
    (s.stResults u x).regs.posted = s.regs.posted := by
  and_intros <;> (unfold State.stResults; repeat' (first | with_reducible rfl | (simp; done) | split | with_reducible refine (State.regs_setA_foldl _ _ _ (fun _ _ => ?_)).trans ?_ | with_reducible refine (State.regs_setB_foldl _ _ _ (fun _ _ => ?_)).trans ?_ | with_reducible refine (State.regs_one_foldl _ _ _ (fun _ _ => ?_)).trans ?_ | with_reducible refine (State.regs_rsvd_foldl _ _ _ (fun _ _ => ?_)).trans ?_ | with_reducible refine (State.regs_waiting_foldl _ _ _ (fun _ _ => ?_)).trans ?_ | with_reducible refine (State.regs_stale_foldl _ _ _ (fun _ _ => ?_)).trans ?_ | with_reducible refine (State.regs_posted_foldl _ _ _ (fun _ _ => ?_)).trans ?_ | with_reducible refine (State.fd_mem_foldl _ _ _ (fun _ _ => ?_)).trans ?_ | with_reducible refine (State.dm_sram_foldl _ _ _ (fun _ _ => ?_)).trans ?_ | with_reducible refine (State.sq_frameNo_foldl _ _ _ (fun _ _ => ?_)).trans ?_ | with_reducible refine (State.sq_inScan_foldl _ _ _ (fun _ _ => ?_)).trans ?_ | with_reducible refine (State.sq_nextBoundary_foldl _ _ _ (fun _ _ => ?_)).trans ?_ | with_reducible refine (State.pw_gate_foldl _ _ _ (fun _ _ => ?_)).trans ?_ | (dsimp only; first | split | with_reducible refine (State.regs_setA_foldl _ _ _ (fun _ _ => ?_)).trans ?_ | with_reducible refine (State.regs_setB_foldl _ _ _ (fun _ _ => ?_)).trans ?_ | with_reducible refine (State.regs_one_foldl _ _ _ (fun _ _ => ?_)).trans ?_ | with_reducible refine (State.regs_rsvd_foldl _ _ _ (fun _ _ => ?_)).trans ?_ | with_reducible refine (State.regs_waiting_foldl _ _ _ (fun _ _ => ?_)).trans ?_ | with_reducible refine (State.regs_stale_foldl _ _ _ (fun _ _ => ?_)).trans ?_ | with_reducible refine (State.regs_posted_foldl _ _ _ (fun _ _ => ?_)).trans ?_ | with_reducible refine (State.fd_mem_foldl _ _ _ (fun _ _ => ?_)).trans ?_ | with_reducible refine (State.dm_sram_foldl _ _ _ (fun _ _ => ?_)).trans ?_ | with_reducible refine (State.sq_frameNo_foldl _ _ _ (fun _ _ => ?_)).trans ?_ | with_reducible refine (State.sq_inScan_foldl _ _ _ (fun _ _ => ?_)).trans ?_ | with_reducible refine (State.sq_nextBoundary_foldl _ _ _ (fun _ _ => ?_)).trans ?_ | with_reducible refine (State.pw_gate_foldl _ _ _ (fun _ _ => ?_)).trans ?_)))

@[simp] theorem State.stOffer_parts (s : State) (u : Nat) (v : Option Nat) :
    (s.stOffer u v).regs.setA = s.regs.setA ∧ (s.stOffer u v).regs.setB = s.regs.setB ∧
    (s.stOffer u v).regs.one = s.regs.one ∧ (s.stOffer u v).regs.rsvd = s.regs.rsvd ∧
    (s.stOffer u v).regs.waiting = s.regs.waiting ∧ (s.stOffer u v).regs.stale = s.regs.stale ∧
    (s.stOffer u v).regs.posted = s.regs.posted := by
  and_intros <;> (unfold State.stOffer; repeat' (first | with_reducible rfl | (simp; done) | split | with_reducible refine (State.regs_setA_foldl _ _ _ (fun _ _ => ?_)).trans ?_ | with_reducible refine (State.regs_setB_foldl _ _ _ (fun _ _ => ?_)).trans ?_ | with_reducible refine (State.regs_one_foldl _ _ _ (fun _ _ => ?_)).trans ?_ | with_reducible refine (State.regs_rsvd_foldl _ _ _ (fun _ _ => ?_)).trans ?_ | with_reducible refine (State.regs_waiting_foldl _ _ _ (fun _ _ => ?_)).trans ?_ | with_reducible refine (State.regs_stale_foldl _ _ _ (fun _ _ => ?_)).trans ?_ | with_reducible refine (State.regs_posted_foldl _ _ _ (fun _ _ => ?_)).trans ?_ | with_reducible refine (State.fd_mem_foldl _ _ _ (fun _ _ => ?_)).trans ?_ | with_reducible refine (State.dm_sram_foldl _ _ _ (fun _ _ => ?_)).trans ?_ | with_reducible refine (State.sq_frameNo_foldl _ _ _ (fun _ _ => ?_)).trans ?_ | with_reducible refine (State.sq_inScan_foldl _ _ _ (fun _ _ => ?_)).trans ?_ | with_reducible refine (State.sq_nextBoundary_foldl _ _ _ (fun _ _ => ?_)).trans ?_ | with_reducible refine (State.pw_gate_foldl _ _ _ (fun _ _ => ?_)).trans ?_ | (dsimp only; first | split | with_reducible refine (State.regs_setA_foldl _ _ _ (fun _ _ => ?_)).trans ?_ | with_reducible refine (State.regs_setB_foldl _ _ _ (fun _ _ => ?_)).trans ?_ | with_reducible refine (State.regs_one_foldl _ _ _ (fun _ _ => ?_)).trans ?_ | with_reducible refine (State.regs_rsvd_foldl _ _ _ (fun _ _ => ?_)).trans ?_ | with_reducible refine (State.regs_waiting_foldl _ _ _ (fun _ _ => ?_)).trans ?_ | with_reducible refine (State.regs_stale_foldl _ _ _ (fun _ _ => ?_)).trans ?_ | with_reducible refine (State.regs_posted_foldl _ _ _ (fun _ _ => ?_)).trans ?_ | with_reducible refine (State.fd_mem_foldl _ _ _ (fun _ _ => ?_)).trans ?_ | with_reducible refine (State.dm_sram_foldl _ _ _ (fun _ _ => ?_)).trans ?_ | with_reducible refine (State.sq_frameNo_foldl _ _ _ (fun _ _ => ?_)).trans ?_ | with_reducible refine (State.sq_inScan_foldl _ _ _ (fun _ _ => ?_)).trans ?_ | with_reducible refine (State.sq_nextBoundary_foldl _ _ _ (fun _ _ => ?_)).trans ?_ | with_reducible refine (State.pw_gate_foldl _ _ _ (fun _ _ => ?_)).trans ?_)))

@[simp] theorem State.stEntry_parts (s : State) (c emitter : Nat) (first : Bool) (v : Option Nat) :
    (s.stEntry c emitter first v).regs.setA = s.regs.setA ∧ (s.stEntry c emitter first v).regs.setB = s.regs.setB ∧
    (s.stEntry c emitter first v).regs.one = s.regs.one ∧ (s.stEntry c emitter first v).regs.rsvd = s.regs.rsvd ∧
    (s.stEntry c emitter first v).regs.waiting = s.regs.waiting ∧ (s.stEntry c emitter first v).regs.stale = s.regs.stale ∧
    (s.stEntry c emitter first v).regs.posted = s.regs.posted := by
  and_intros <;> (unfold State.stEntry; repeat' (first | with_reducible rfl | (simp; done) | split | with_reducible refine (State.regs_setA_foldl _ _ _ (fun _ _ => ?_)).trans ?_ | with_reducible refine (State.regs_setB_foldl _ _ _ (fun _ _ => ?_)).trans ?_ | with_reducible refine (State.regs_one_foldl _ _ _ (fun _ _ => ?_)).trans ?_ | with_reducible refine (State.regs_rsvd_foldl _ _ _ (fun _ _ => ?_)).trans ?_ | with_reducible refine (State.regs_waiting_foldl _ _ _ (fun _ _ => ?_)).trans ?_ | with_reducible refine (State.regs_stale_foldl _ _ _ (fun _ _ => ?_)).trans ?_ | with_reducible refine (State.regs_posted_foldl _ _ _ (fun _ _ => ?_)).trans ?_ | with_reducible refine (State.fd_mem_foldl _ _ _ (fun _ _ => ?_)).trans ?_ | with_reducible refine (State.dm_sram_foldl _ _ _ (fun _ _ => ?_)).trans ?_ | with_reducible refine (State.sq_frameNo_foldl _ _ _ (fun _ _ => ?_)).trans ?_ | with_reducible refine (State.sq_inScan_foldl _ _ _ (fun _ _ => ?_)).trans ?_ | with_reducible refine (State.sq_nextBoundary_foldl _ _ _ (fun _ _ => ?_)).trans ?_ | with_reducible refine (State.pw_gate_foldl _ _ _ (fun _ _ => ?_)).trans ?_ | (dsimp only; first | split | with_reducible refine (State.regs_setA_foldl _ _ _ (fun _ _ => ?_)).trans ?_ | with_reducible refine (State.regs_setB_foldl _ _ _ (fun _ _ => ?_)).trans ?_ | with_reducible refine (State.regs_one_foldl _ _ _ (fun _ _ => ?_)).trans ?_ | with_reducible refine (State.regs_rsvd_foldl _ _ _ (fun _ _ => ?_)).trans ?_ | with_reducible refine (State.regs_waiting_foldl _ _ _ (fun _ _ => ?_)).trans ?_ | with_reducible refine (State.regs_stale_foldl _ _ _ (fun _ _ => ?_)).trans ?_ | with_reducible refine (State.regs_posted_foldl _ _ _ (fun _ _ => ?_)).trans ?_ | with_reducible refine (State.fd_mem_foldl _ _ _ (fun _ _ => ?_)).trans ?_ | with_reducible refine (State.dm_sram_foldl _ _ _ (fun _ _ => ?_)).trans ?_ | with_reducible refine (State.sq_frameNo_foldl _ _ _ (fun _ _ => ?_)).trans ?_ | with_reducible refine (State.sq_inScan_foldl _ _ _ (fun _ _ => ?_)).trans ?_ | with_reducible refine (State.sq_nextBoundary_foldl _ _ _ (fun _ _ => ?_)).trans ?_ | with_reducible refine (State.pw_gate_foldl _ _ _ (fun _ _ => ?_)).trans ?_)))

@[simp] theorem State.stFfb_parts (s : State) (e : Nat) (delay : Int) :
    (s.stFfb e delay).regs.setA = s.regs.setA ∧ (s.stFfb e delay).regs.setB = s.regs.setB ∧
    (s.stFfb e delay).regs.one = s.regs.one ∧ (s.stFfb e delay).regs.rsvd = s.regs.rsvd ∧
    (s.stFfb e delay).regs.waiting = s.regs.waiting ∧ (s.stFfb e delay).regs.stale = s.regs.stale ∧
    (s.stFfb e delay).regs.posted = s.regs.posted := by
  and_intros <;> (unfold State.stFfb; repeat' (first | with_reducible rfl | (simp; done) | split | with_reducible refine (State.regs_setA_foldl _ _ _ (fun _ _ => ?_)).trans ?_ | with_reducible refine (State.regs_setB_foldl _ _ _ (fun _ _ => ?_)).trans ?_ | with_reducible refine (State.regs_one_foldl _ _ _ (fun _ _ => ?_)).trans ?_ | with_reducible refine (State.regs_rsvd_foldl _ _ _ (fun _ _ => ?_)).trans ?_ | with_reducible refine (State.regs_waiting_foldl _ _ _ (fun _ _ => ?_)).trans ?_ | with_reducible refine (State.regs_stale_foldl _ _ _ (fun _ _ => ?_)).trans ?_ | with_reducible refine (State.regs_posted_foldl _ _ _ (fun _ _ => ?_)).trans ?_ | with_reducible refine (State.fd_mem_foldl _ _ _ (fun _ _ => ?_)).trans ?_ | with_reducible refine (State.dm_sram_foldl _ _ _ (fun _ _ => ?_)).trans ?_ | with_reducible refine (State.sq_frameNo_foldl _ _ _ (fun _ _ => ?_)).trans ?_ | with_reducible refine (State.sq_inScan_foldl _ _ _ (fun _ _ => ?_)).trans ?_ | with_reducible refine (State.sq_nextBoundary_foldl _ _ _ (fun _ _ => ?_)).trans ?_ | with_reducible refine (State.pw_gate_foldl _ _ _ (fun _ _ => ?_)).trans ?_ | (dsimp only; first | split | with_reducible refine (State.regs_setA_foldl _ _ _ (fun _ _ => ?_)).trans ?_ | with_reducible refine (State.regs_setB_foldl _ _ _ (fun _ _ => ?_)).trans ?_ | with_reducible refine (State.regs_one_foldl _ _ _ (fun _ _ => ?_)).trans ?_ | with_reducible refine (State.regs_rsvd_foldl _ _ _ (fun _ _ => ?_)).trans ?_ | with_reducible refine (State.regs_waiting_foldl _ _ _ (fun _ _ => ?_)).trans ?_ | with_reducible refine (State.regs_stale_foldl _ _ _ (fun _ _ => ?_)).trans ?_ | with_reducible refine (State.regs_posted_foldl _ _ _ (fun _ _ => ?_)).trans ?_ | with_reducible refine (State.fd_mem_foldl _ _ _ (fun _ _ => ?_)).trans ?_ | with_reducible refine (State.dm_sram_foldl _ _ _ (fun _ _ => ?_)).trans ?_ | with_reducible refine (State.sq_frameNo_foldl _ _ _ (fun _ _ => ?_)).trans ?_ | with_reducible refine (State.sq_inScan_foldl _ _ _ (fun _ _ => ?_)).trans ?_ | with_reducible refine (State.sq_nextBoundary_foldl _ _ _ (fun _ _ => ?_)).trans ?_ | with_reducible refine (State.pw_gate_foldl _ _ _ (fun _ _ => ?_)).trans ?_)))

@[simp] theorem State.openWindow_parts (s : State) (c coarse : Nat) (w : ShotWin) :
    (s.openWindow c coarse w).regs.setA = s.regs.setA ∧ (s.openWindow c coarse w).regs.setB = s.regs.setB ∧
    (s.openWindow c coarse w).regs.one = s.regs.one ∧ (s.openWindow c coarse w).regs.rsvd = s.regs.rsvd ∧
    (s.openWindow c coarse w).regs.waiting = s.regs.waiting ∧ (s.openWindow c coarse w).regs.stale = s.regs.stale ∧
    (s.openWindow c coarse w).regs.posted = s.regs.posted ∧ (s.openWindow c coarse w).fd.mem = s.fd.mem := by
  and_intros <;> (unfold State.openWindow; repeat' (first | with_reducible rfl | (simp; done) | split | with_reducible refine (State.regs_setA_foldl _ _ _ (fun _ _ => ?_)).trans ?_ | with_reducible refine (State.regs_setB_foldl _ _ _ (fun _ _ => ?_)).trans ?_ | with_reducible refine (State.regs_one_foldl _ _ _ (fun _ _ => ?_)).trans ?_ | with_reducible refine (State.regs_rsvd_foldl _ _ _ (fun _ _ => ?_)).trans ?_ | with_reducible refine (State.regs_waiting_foldl _ _ _ (fun _ _ => ?_)).trans ?_ | with_reducible refine (State.regs_stale_foldl _ _ _ (fun _ _ => ?_)).trans ?_ | with_reducible refine (State.regs_posted_foldl _ _ _ (fun _ _ => ?_)).trans ?_ | with_reducible refine (State.fd_mem_foldl _ _ _ (fun _ _ => ?_)).trans ?_ | with_reducible refine (State.dm_sram_foldl _ _ _ (fun _ _ => ?_)).trans ?_ | with_reducible refine (State.sq_frameNo_foldl _ _ _ (fun _ _ => ?_)).trans ?_ | with_reducible refine (State.sq_inScan_foldl _ _ _ (fun _ _ => ?_)).trans ?_ | with_reducible refine (State.sq_nextBoundary_foldl _ _ _ (fun _ _ => ?_)).trans ?_ | with_reducible refine (State.pw_gate_foldl _ _ _ (fun _ _ => ?_)).trans ?_ | (dsimp only; first | split | with_reducible refine (State.regs_setA_foldl _ _ _ (fun _ _ => ?_)).trans ?_ | with_reducible refine (State.regs_setB_foldl _ _ _ (fun _ _ => ?_)).trans ?_ | with_reducible refine (State.regs_one_foldl _ _ _ (fun _ _ => ?_)).trans ?_ | with_reducible refine (State.regs_rsvd_foldl _ _ _ (fun _ _ => ?_)).trans ?_ | with_reducible refine (State.regs_waiting_foldl _ _ _ (fun _ _ => ?_)).trans ?_ | with_reducible refine (State.regs_stale_foldl _ _ _ (fun _ _ => ?_)).trans ?_ | with_reducible refine (State.regs_posted_foldl _ _ _ (fun _ _ => ?_)).trans ?_ | with_reducible refine (State.fd_mem_foldl _ _ _ (fun _ _ => ?_)).trans ?_ | with_reducible refine (State.dm_sram_foldl _ _ _ (fun _ _ => ?_)).trans ?_ | with_reducible refine (State.sq_frameNo_foldl _ _ _ (fun _ _ => ?_)).trans ?_ | with_reducible refine (State.sq_inScan_foldl _ _ _ (fun _ _ => ?_)).trans ?_ | with_reducible refine (State.sq_nextBoundary_foldl _ _ _ (fun _ _ => ?_)).trans ?_ | with_reducible refine (State.pw_gate_foldl _ _ _ (fun _ _ => ?_)).trans ?_)))

@[simp] theorem State.suspectFrom_parts (s : State) :
    (s.suspectFrom).fd.mem = s.fd.mem := by
  unfold State.suspectFrom; repeat' (first | with_reducible rfl | (simp; done) | split | with_reducible refine (State.regs_setA_foldl _ _ _ (fun _ _ => ?_)).trans ?_ | with_reducible refine (State.regs_setB_foldl _ _ _ (fun _ _ => ?_)).trans ?_ | with_reducible refine (State.regs_one_foldl _ _ _ (fun _ _ => ?_)).trans ?_ | with_reducible refine (State.regs_rsvd_foldl _ _ _ (fun _ _ => ?_)).trans ?_ | with_reducible refine (State.regs_waiting_foldl _ _ _ (fun _ _ => ?_)).trans ?_ | with_reducible refine (State.regs_stale_foldl _ _ _ (fun _ _ => ?_)).trans ?_ | with_reducible refine (State.regs_posted_foldl _ _ _ (fun _ _ => ?_)).trans ?_ | with_reducible refine (State.fd_mem_foldl _ _ _ (fun _ _ => ?_)).trans ?_ | with_reducible refine (State.dm_sram_foldl _ _ _ (fun _ _ => ?_)).trans ?_ | with_reducible refine (State.sq_frameNo_foldl _ _ _ (fun _ _ => ?_)).trans ?_ | with_reducible refine (State.sq_inScan_foldl _ _ _ (fun _ _ => ?_)).trans ?_ | with_reducible refine (State.sq_nextBoundary_foldl _ _ _ (fun _ _ => ?_)).trans ?_ | with_reducible refine (State.pw_gate_foldl _ _ _ (fun _ _ => ?_)).trans ?_ | (dsimp only; first | split | with_reducible refine (State.regs_setA_foldl _ _ _ (fun _ _ => ?_)).trans ?_ | with_reducible refine (State.regs_setB_foldl _ _ _ (fun _ _ => ?_)).trans ?_ | with_reducible refine (State.regs_one_foldl _ _ _ (fun _ _ => ?_)).trans ?_ | with_reducible refine (State.regs_rsvd_foldl _ _ _ (fun _ _ => ?_)).trans ?_ | with_reducible refine (State.regs_waiting_foldl _ _ _ (fun _ _ => ?_)).trans ?_ | with_reducible refine (State.regs_stale_foldl _ _ _ (fun _ _ => ?_)).trans ?_ | with_reducible refine (State.regs_posted_foldl _ _ _ (fun _ _ => ?_)).trans ?_ | with_reducible refine (State.fd_mem_foldl _ _ _ (fun _ _ => ?_)).trans ?_ | with_reducible refine (State.dm_sram_foldl _ _ _ (fun _ _ => ?_)).trans ?_ | with_reducible refine (State.sq_frameNo_foldl _ _ _ (fun _ _ => ?_)).trans ?_ | with_reducible refine (State.sq_inScan_foldl _ _ _ (fun _ _ => ?_)).trans ?_ | with_reducible refine (State.sq_nextBoundary_foldl _ _ _ (fun _ _ => ?_)).trans ?_ | with_reducible refine (State.pw_gate_foldl _ _ _ (fun _ _ => ?_)).trans ?_))

@[simp] theorem State.strobe_parts (s : State) (t : Nat) (m : Int) :
    (s.strobe t m).regs.setA = s.regs.setA ∧ (s.strobe t m).regs.setB = s.regs.setB ∧ (s.strobe t m).regs.one = s.regs.one ∧
    (s.strobe t m).regs.rsvd = s.regs.rsvd ∧ (s.strobe t m).regs.waiting = s.regs.waiting ∧
    (s.strobe t m).regs.stale = s.regs.stale ∧ (s.strobe t m).regs.posted = s.regs.posted := by
  and_intros <;> (unfold State.strobe; repeat' (first | with_reducible rfl | (simp; done) | split | with_reducible refine (State.regs_setA_foldl _ _ _ (fun _ _ => ?_)).trans ?_ | with_reducible refine (State.regs_setB_foldl _ _ _ (fun _ _ => ?_)).trans ?_ | with_reducible refine (State.regs_one_foldl _ _ _ (fun _ _ => ?_)).trans ?_ | with_reducible refine (State.regs_rsvd_foldl _ _ _ (fun _ _ => ?_)).trans ?_ | with_reducible refine (State.regs_waiting_foldl _ _ _ (fun _ _ => ?_)).trans ?_ | with_reducible refine (State.regs_stale_foldl _ _ _ (fun _ _ => ?_)).trans ?_ | with_reducible refine (State.regs_posted_foldl _ _ _ (fun _ _ => ?_)).trans ?_ | with_reducible refine (State.fd_mem_foldl _ _ _ (fun _ _ => ?_)).trans ?_ | with_reducible refine (State.dm_sram_foldl _ _ _ (fun _ _ => ?_)).trans ?_ | with_reducible refine (State.sq_frameNo_foldl _ _ _ (fun _ _ => ?_)).trans ?_ | with_reducible refine (State.sq_inScan_foldl _ _ _ (fun _ _ => ?_)).trans ?_ | with_reducible refine (State.sq_nextBoundary_foldl _ _ _ (fun _ _ => ?_)).trans ?_ | with_reducible refine (State.pw_gate_foldl _ _ _ (fun _ _ => ?_)).trans ?_ | (dsimp only; first | split | with_reducible refine (State.regs_setA_foldl _ _ _ (fun _ _ => ?_)).trans ?_ | with_reducible refine (State.regs_setB_foldl _ _ _ (fun _ _ => ?_)).trans ?_ | with_reducible refine (State.regs_one_foldl _ _ _ (fun _ _ => ?_)).trans ?_ | with_reducible refine (State.regs_rsvd_foldl _ _ _ (fun _ _ => ?_)).trans ?_ | with_reducible refine (State.regs_waiting_foldl _ _ _ (fun _ _ => ?_)).trans ?_ | with_reducible refine (State.regs_stale_foldl _ _ _ (fun _ _ => ?_)).trans ?_ | with_reducible refine (State.regs_posted_foldl _ _ _ (fun _ _ => ?_)).trans ?_ | with_reducible refine (State.fd_mem_foldl _ _ _ (fun _ _ => ?_)).trans ?_ | with_reducible refine (State.dm_sram_foldl _ _ _ (fun _ _ => ?_)).trans ?_ | with_reducible refine (State.sq_frameNo_foldl _ _ _ (fun _ _ => ?_)).trans ?_ | with_reducible refine (State.sq_inScan_foldl _ _ _ (fun _ _ => ?_)).trans ?_ | with_reducible refine (State.sq_nextBoundary_foldl _ _ _ (fun _ _ => ?_)).trans ?_ | with_reducible refine (State.pw_gate_foldl _ _ _ (fun _ _ => ?_)).trans ?_)))

@[simp] theorem State.stEnd_parts (s : State) (u : Nat) :
    (s.stEnd u).regs.setA = s.regs.setA ∧ (s.stEnd u).regs.setB = s.regs.setB ∧ (s.stEnd u).regs.one = s.regs.one ∧
    (s.stEnd u).regs.rsvd = s.regs.rsvd ∧ (s.stEnd u).regs.waiting = s.regs.waiting ∧ (s.stEnd u).regs.stale = s.regs.stale ∧
    (s.stEnd u).regs.posted = s.regs.posted := by
  and_intros <;> (unfold State.stEnd; repeat' (first | with_reducible rfl | (simp; done) | split | with_reducible refine (State.regs_setA_foldl _ _ _ (fun _ _ => ?_)).trans ?_ | with_reducible refine (State.regs_setB_foldl _ _ _ (fun _ _ => ?_)).trans ?_ | with_reducible refine (State.regs_one_foldl _ _ _ (fun _ _ => ?_)).trans ?_ | with_reducible refine (State.regs_rsvd_foldl _ _ _ (fun _ _ => ?_)).trans ?_ | with_reducible refine (State.regs_waiting_foldl _ _ _ (fun _ _ => ?_)).trans ?_ | with_reducible refine (State.regs_stale_foldl _ _ _ (fun _ _ => ?_)).trans ?_ | with_reducible refine (State.regs_posted_foldl _ _ _ (fun _ _ => ?_)).trans ?_ | with_reducible refine (State.fd_mem_foldl _ _ _ (fun _ _ => ?_)).trans ?_ | with_reducible refine (State.dm_sram_foldl _ _ _ (fun _ _ => ?_)).trans ?_ | with_reducible refine (State.sq_frameNo_foldl _ _ _ (fun _ _ => ?_)).trans ?_ | with_reducible refine (State.sq_inScan_foldl _ _ _ (fun _ _ => ?_)).trans ?_ | with_reducible refine (State.sq_nextBoundary_foldl _ _ _ (fun _ _ => ?_)).trans ?_ | with_reducible refine (State.pw_gate_foldl _ _ _ (fun _ _ => ?_)).trans ?_ | (dsimp only; first | split | with_reducible refine (State.regs_setA_foldl _ _ _ (fun _ _ => ?_)).trans ?_ | with_reducible refine (State.regs_setB_foldl _ _ _ (fun _ _ => ?_)).trans ?_ | with_reducible refine (State.regs_one_foldl _ _ _ (fun _ _ => ?_)).trans ?_ | with_reducible refine (State.regs_rsvd_foldl _ _ _ (fun _ _ => ?_)).trans ?_ | with_reducible refine (State.regs_waiting_foldl _ _ _ (fun _ _ => ?_)).trans ?_ | with_reducible refine (State.regs_stale_foldl _ _ _ (fun _ _ => ?_)).trans ?_ | with_reducible refine (State.regs_posted_foldl _ _ _ (fun _ _ => ?_)).trans ?_ | with_reducible refine (State.fd_mem_foldl _ _ _ (fun _ _ => ?_)).trans ?_ | with_reducible refine (State.dm_sram_foldl _ _ _ (fun _ _ => ?_)).trans ?_ | with_reducible refine (State.sq_frameNo_foldl _ _ _ (fun _ _ => ?_)).trans ?_ | with_reducible refine (State.sq_inScan_foldl _ _ _ (fun _ _ => ?_)).trans ?_ | with_reducible refine (State.sq_nextBoundary_foldl _ _ _ (fun _ _ => ?_)).trans ?_ | with_reducible refine (State.pw_gate_foldl _ _ _ (fun _ _ => ?_)).trans ?_)))

@[simp] theorem State.switchRange_parts (s : State) (c g : Nat) :
    (s.switchRange c g).regs.setA = s.regs.setA ∧ (s.switchRange c g).regs.setB = s.regs.setB ∧
    (s.switchRange c g).regs.one = s.regs.one ∧ (s.switchRange c g).regs.rsvd = s.regs.rsvd ∧
    (s.switchRange c g).regs.waiting = s.regs.waiting ∧ (s.switchRange c g).regs.stale = s.regs.stale ∧
    (s.switchRange c g).regs.posted = s.regs.posted := by
  and_intros <;> (unfold State.switchRange; repeat' (first | with_reducible rfl | (simp; done) | split | with_reducible refine (State.regs_setA_foldl _ _ _ (fun _ _ => ?_)).trans ?_ | with_reducible refine (State.regs_setB_foldl _ _ _ (fun _ _ => ?_)).trans ?_ | with_reducible refine (State.regs_one_foldl _ _ _ (fun _ _ => ?_)).trans ?_ | with_reducible refine (State.regs_rsvd_foldl _ _ _ (fun _ _ => ?_)).trans ?_ | with_reducible refine (State.regs_waiting_foldl _ _ _ (fun _ _ => ?_)).trans ?_ | with_reducible refine (State.regs_stale_foldl _ _ _ (fun _ _ => ?_)).trans ?_ | with_reducible refine (State.regs_posted_foldl _ _ _ (fun _ _ => ?_)).trans ?_ | with_reducible refine (State.fd_mem_foldl _ _ _ (fun _ _ => ?_)).trans ?_ | with_reducible refine (State.dm_sram_foldl _ _ _ (fun _ _ => ?_)).trans ?_ | with_reducible refine (State.sq_frameNo_foldl _ _ _ (fun _ _ => ?_)).trans ?_ | with_reducible refine (State.sq_inScan_foldl _ _ _ (fun _ _ => ?_)).trans ?_ | with_reducible refine (State.sq_nextBoundary_foldl _ _ _ (fun _ _ => ?_)).trans ?_ | with_reducible refine (State.pw_gate_foldl _ _ _ (fun _ _ => ?_)).trans ?_ | (dsimp only; first | split | with_reducible refine (State.regs_setA_foldl _ _ _ (fun _ _ => ?_)).trans ?_ | with_reducible refine (State.regs_setB_foldl _ _ _ (fun _ _ => ?_)).trans ?_ | with_reducible refine (State.regs_one_foldl _ _ _ (fun _ _ => ?_)).trans ?_ | with_reducible refine (State.regs_rsvd_foldl _ _ _ (fun _ _ => ?_)).trans ?_ | with_reducible refine (State.regs_waiting_foldl _ _ _ (fun _ _ => ?_)).trans ?_ | with_reducible refine (State.regs_stale_foldl _ _ _ (fun _ _ => ?_)).trans ?_ | with_reducible refine (State.regs_posted_foldl _ _ _ (fun _ _ => ?_)).trans ?_ | with_reducible refine (State.fd_mem_foldl _ _ _ (fun _ _ => ?_)).trans ?_ | with_reducible refine (State.dm_sram_foldl _ _ _ (fun _ _ => ?_)).trans ?_ | with_reducible refine (State.sq_frameNo_foldl _ _ _ (fun _ _ => ?_)).trans ?_ | with_reducible refine (State.sq_inScan_foldl _ _ _ (fun _ _ => ?_)).trans ?_ | with_reducible refine (State.sq_nextBoundary_foldl _ _ _ (fun _ _ => ?_)).trans ?_ | with_reducible refine (State.pw_gate_foldl _ _ _ (fun _ _ => ?_)).trans ?_)))

@[simp] theorem State.holdSelection_parts (s : State) (c : Nat) :
    (s.holdSelection c).regs.setA = s.regs.setA ∧ (s.holdSelection c).regs.setB = s.regs.setB ∧
    (s.holdSelection c).regs.one = s.regs.one ∧ (s.holdSelection c).regs.rsvd = s.regs.rsvd ∧
    (s.holdSelection c).regs.stale = s.regs.stale ∧ (s.holdSelection c).regs.posted = s.regs.posted := by
  and_intros <;> (unfold State.holdSelection; repeat' (first | with_reducible rfl | (simp; done) | split | with_reducible refine (State.regs_setA_foldl _ _ _ (fun _ _ => ?_)).trans ?_ | with_reducible refine (State.regs_setB_foldl _ _ _ (fun _ _ => ?_)).trans ?_ | with_reducible refine (State.regs_one_foldl _ _ _ (fun _ _ => ?_)).trans ?_ | with_reducible refine (State.regs_rsvd_foldl _ _ _ (fun _ _ => ?_)).trans ?_ | with_reducible refine (State.regs_waiting_foldl _ _ _ (fun _ _ => ?_)).trans ?_ | with_reducible refine (State.regs_stale_foldl _ _ _ (fun _ _ => ?_)).trans ?_ | with_reducible refine (State.regs_posted_foldl _ _ _ (fun _ _ => ?_)).trans ?_ | with_reducible refine (State.fd_mem_foldl _ _ _ (fun _ _ => ?_)).trans ?_ | with_reducible refine (State.dm_sram_foldl _ _ _ (fun _ _ => ?_)).trans ?_ | with_reducible refine (State.sq_frameNo_foldl _ _ _ (fun _ _ => ?_)).trans ?_ | with_reducible refine (State.sq_inScan_foldl _ _ _ (fun _ _ => ?_)).trans ?_ | with_reducible refine (State.sq_nextBoundary_foldl _ _ _ (fun _ _ => ?_)).trans ?_ | with_reducible refine (State.pw_gate_foldl _ _ _ (fun _ _ => ?_)).trans ?_ | (dsimp only; first | split | with_reducible refine (State.regs_setA_foldl _ _ _ (fun _ _ => ?_)).trans ?_ | with_reducible refine (State.regs_setB_foldl _ _ _ (fun _ _ => ?_)).trans ?_ | with_reducible refine (State.regs_one_foldl _ _ _ (fun _ _ => ?_)).trans ?_ | with_reducible refine (State.regs_rsvd_foldl _ _ _ (fun _ _ => ?_)).trans ?_ | with_reducible refine (State.regs_waiting_foldl _ _ _ (fun _ _ => ?_)).trans ?_ | with_reducible refine (State.regs_stale_foldl _ _ _ (fun _ _ => ?_)).trans ?_ | with_reducible refine (State.regs_posted_foldl _ _ _ (fun _ _ => ?_)).trans ?_ | with_reducible refine (State.fd_mem_foldl _ _ _ (fun _ _ => ?_)).trans ?_ | with_reducible refine (State.dm_sram_foldl _ _ _ (fun _ _ => ?_)).trans ?_ | with_reducible refine (State.sq_frameNo_foldl _ _ _ (fun _ _ => ?_)).trans ?_ | with_reducible refine (State.sq_inScan_foldl _ _ _ (fun _ _ => ?_)).trans ?_ | with_reducible refine (State.sq_nextBoundary_foldl _ _ _ (fun _ _ => ?_)).trans ?_ | with_reducible refine (State.pw_gate_foldl _ _ _ (fun _ _ => ?_)).trans ?_)))

@[simp] theorem State.settleRange_parts (s : State) (c : Nat) (old : Score) :
    (s.settleRange c old).regs.setA = s.regs.setA ∧ (s.settleRange c old).regs.setB = s.regs.setB ∧
    (s.settleRange c old).regs.one = s.regs.one ∧ (s.settleRange c old).regs.rsvd = s.regs.rsvd ∧
    (s.settleRange c old).regs.waiting = s.regs.waiting ∧ (s.settleRange c old).regs.stale = s.regs.stale ∧
    (s.settleRange c old).regs.posted = s.regs.posted := by
  and_intros <;> (unfold State.settleRange; repeat' (first | with_reducible rfl | (simp; done) | split | with_reducible refine (State.regs_setA_foldl _ _ _ (fun _ _ => ?_)).trans ?_ | with_reducible refine (State.regs_setB_foldl _ _ _ (fun _ _ => ?_)).trans ?_ | with_reducible refine (State.regs_one_foldl _ _ _ (fun _ _ => ?_)).trans ?_ | with_reducible refine (State.regs_rsvd_foldl _ _ _ (fun _ _ => ?_)).trans ?_ | with_reducible refine (State.regs_waiting_foldl _ _ _ (fun _ _ => ?_)).trans ?_ | with_reducible refine (State.regs_stale_foldl _ _ _ (fun _ _ => ?_)).trans ?_ | with_reducible refine (State.regs_posted_foldl _ _ _ (fun _ _ => ?_)).trans ?_ | with_reducible refine (State.fd_mem_foldl _ _ _ (fun _ _ => ?_)).trans ?_ | with_reducible refine (State.dm_sram_foldl _ _ _ (fun _ _ => ?_)).trans ?_ | with_reducible refine (State.sq_frameNo_foldl _ _ _ (fun _ _ => ?_)).trans ?_ | with_reducible refine (State.sq_inScan_foldl _ _ _ (fun _ _ => ?_)).trans ?_ | with_reducible refine (State.sq_nextBoundary_foldl _ _ _ (fun _ _ => ?_)).trans ?_ | with_reducible refine (State.pw_gate_foldl _ _ _ (fun _ _ => ?_)).trans ?_ | (dsimp only; first | split | with_reducible refine (State.regs_setA_foldl _ _ _ (fun _ _ => ?_)).trans ?_ | with_reducible refine (State.regs_setB_foldl _ _ _ (fun _ _ => ?_)).trans ?_ | with_reducible refine (State.regs_one_foldl _ _ _ (fun _ _ => ?_)).trans ?_ | with_reducible refine (State.regs_rsvd_foldl _ _ _ (fun _ _ => ?_)).trans ?_ | with_reducible refine (State.regs_waiting_foldl _ _ _ (fun _ _ => ?_)).trans ?_ | with_reducible refine (State.regs_stale_foldl _ _ _ (fun _ _ => ?_)).trans ?_ | with_reducible refine (State.regs_posted_foldl _ _ _ (fun _ _ => ?_)).trans ?_ | with_reducible refine (State.fd_mem_foldl _ _ _ (fun _ _ => ?_)).trans ?_ | with_reducible refine (State.dm_sram_foldl _ _ _ (fun _ _ => ?_)).trans ?_ | with_reducible refine (State.sq_frameNo_foldl _ _ _ (fun _ _ => ?_)).trans ?_ | with_reducible refine (State.sq_inScan_foldl _ _ _ (fun _ _ => ?_)).trans ?_ | with_reducible refine (State.sq_nextBoundary_foldl _ _ _ (fun _ _ => ?_)).trans ?_ | with_reducible refine (State.pw_gate_foldl _ _ _ (fun _ _ => ?_)).trans ?_)))

@[simp] theorem State.applyChannel_parts (s : State) (c : Nat) :
    (s.applyChannel c).regs.one = s.regs.one ∧ (s.applyChannel c).regs.rsvd = s.regs.rsvd ∧
    (s.applyChannel c).regs.posted = s.regs.posted ∧ (s.applyChannel c).sq.frameNo = s.sq.frameNo ∧
    (s.applyChannel c).sq.inScan = s.sq.inScan ∧ (s.applyChannel c).sq.nextBoundary = s.sq.nextBoundary := by
  and_intros <;> (unfold State.applyChannel; repeat' (first | with_reducible rfl | (simp; done) | split | with_reducible refine (State.regs_setA_foldl _ _ _ (fun _ _ => ?_)).trans ?_ | with_reducible refine (State.regs_setB_foldl _ _ _ (fun _ _ => ?_)).trans ?_ | with_reducible refine (State.regs_one_foldl _ _ _ (fun _ _ => ?_)).trans ?_ | with_reducible refine (State.regs_rsvd_foldl _ _ _ (fun _ _ => ?_)).trans ?_ | with_reducible refine (State.regs_waiting_foldl _ _ _ (fun _ _ => ?_)).trans ?_ | with_reducible refine (State.regs_stale_foldl _ _ _ (fun _ _ => ?_)).trans ?_ | with_reducible refine (State.regs_posted_foldl _ _ _ (fun _ _ => ?_)).trans ?_ | with_reducible refine (State.fd_mem_foldl _ _ _ (fun _ _ => ?_)).trans ?_ | with_reducible refine (State.dm_sram_foldl _ _ _ (fun _ _ => ?_)).trans ?_ | with_reducible refine (State.sq_frameNo_foldl _ _ _ (fun _ _ => ?_)).trans ?_ | with_reducible refine (State.sq_inScan_foldl _ _ _ (fun _ _ => ?_)).trans ?_ | with_reducible refine (State.sq_nextBoundary_foldl _ _ _ (fun _ _ => ?_)).trans ?_ | with_reducible refine (State.pw_gate_foldl _ _ _ (fun _ _ => ?_)).trans ?_ | (dsimp only; first | split | with_reducible refine (State.regs_setA_foldl _ _ _ (fun _ _ => ?_)).trans ?_ | with_reducible refine (State.regs_setB_foldl _ _ _ (fun _ _ => ?_)).trans ?_ | with_reducible refine (State.regs_one_foldl _ _ _ (fun _ _ => ?_)).trans ?_ | with_reducible refine (State.regs_rsvd_foldl _ _ _ (fun _ _ => ?_)).trans ?_ | with_reducible refine (State.regs_waiting_foldl _ _ _ (fun _ _ => ?_)).trans ?_ | with_reducible refine (State.regs_stale_foldl _ _ _ (fun _ _ => ?_)).trans ?_ | with_reducible refine (State.regs_posted_foldl _ _ _ (fun _ _ => ?_)).trans ?_ | with_reducible refine (State.fd_mem_foldl _ _ _ (fun _ _ => ?_)).trans ?_ | with_reducible refine (State.dm_sram_foldl _ _ _ (fun _ _ => ?_)).trans ?_ | with_reducible refine (State.sq_frameNo_foldl _ _ _ (fun _ _ => ?_)).trans ?_ | with_reducible refine (State.sq_inScan_foldl _ _ _ (fun _ _ => ?_)).trans ?_ | with_reducible refine (State.sq_nextBoundary_foldl _ _ _ (fun _ _ => ?_)).trans ?_ | with_reducible refine (State.pw_gate_foldl _ _ _ (fun _ _ => ?_)).trans ?_)))

@[simp] theorem State.channelIntervalEnd_parts (s : State) (c : Nat) (seqs : List Nat) :
    (s.channelIntervalEnd c seqs).regs.one = s.regs.one ∧ (s.channelIntervalEnd c seqs).regs.rsvd = s.regs.rsvd ∧
    (s.channelIntervalEnd c seqs).regs.posted = s.regs.posted ∧ (s.channelIntervalEnd c seqs).sq.frameNo = s.sq.frameNo ∧
    (s.channelIntervalEnd c seqs).sq.inScan = s.sq.inScan ∧
    (s.channelIntervalEnd c seqs).sq.nextBoundary = s.sq.nextBoundary := by
  and_intros <;> (unfold State.channelIntervalEnd; repeat' (first | with_reducible rfl | (simp; done) | split | with_reducible refine (State.regs_setA_foldl _ _ _ (fun _ _ => ?_)).trans ?_ | with_reducible refine (State.regs_setB_foldl _ _ _ (fun _ _ => ?_)).trans ?_ | with_reducible refine (State.regs_one_foldl _ _ _ (fun _ _ => ?_)).trans ?_ | with_reducible refine (State.regs_rsvd_foldl _ _ _ (fun _ _ => ?_)).trans ?_ | with_reducible refine (State.regs_waiting_foldl _ _ _ (fun _ _ => ?_)).trans ?_ | with_reducible refine (State.regs_stale_foldl _ _ _ (fun _ _ => ?_)).trans ?_ | with_reducible refine (State.regs_posted_foldl _ _ _ (fun _ _ => ?_)).trans ?_ | with_reducible refine (State.fd_mem_foldl _ _ _ (fun _ _ => ?_)).trans ?_ | with_reducible refine (State.dm_sram_foldl _ _ _ (fun _ _ => ?_)).trans ?_ | with_reducible refine (State.sq_frameNo_foldl _ _ _ (fun _ _ => ?_)).trans ?_ | with_reducible refine (State.sq_inScan_foldl _ _ _ (fun _ _ => ?_)).trans ?_ | with_reducible refine (State.sq_nextBoundary_foldl _ _ _ (fun _ _ => ?_)).trans ?_ | with_reducible refine (State.pw_gate_foldl _ _ _ (fun _ _ => ?_)).trans ?_ | (dsimp only; first | split | with_reducible refine (State.regs_setA_foldl _ _ _ (fun _ _ => ?_)).trans ?_ | with_reducible refine (State.regs_setB_foldl _ _ _ (fun _ _ => ?_)).trans ?_ | with_reducible refine (State.regs_one_foldl _ _ _ (fun _ _ => ?_)).trans ?_ | with_reducible refine (State.regs_rsvd_foldl _ _ _ (fun _ _ => ?_)).trans ?_ | with_reducible refine (State.regs_waiting_foldl _ _ _ (fun _ _ => ?_)).trans ?_ | with_reducible refine (State.regs_stale_foldl _ _ _ (fun _ _ => ?_)).trans ?_ | with_reducible refine (State.regs_posted_foldl _ _ _ (fun _ _ => ?_)).trans ?_ | with_reducible refine (State.fd_mem_foldl _ _ _ (fun _ _ => ?_)).trans ?_ | with_reducible refine (State.dm_sram_foldl _ _ _ (fun _ _ => ?_)).trans ?_ | with_reducible refine (State.sq_frameNo_foldl _ _ _ (fun _ _ => ?_)).trans ?_ | with_reducible refine (State.sq_inScan_foldl _ _ _ (fun _ _ => ?_)).trans ?_ | with_reducible refine (State.sq_nextBoundary_foldl _ _ _ (fun _ _ => ?_)).trans ?_ | with_reducible refine (State.pw_gate_foldl _ _ _ (fun _ _ => ?_)).trans ?_)))

@[simp] theorem State.channelIdle_parts (s : State) (c : Nat) :
    (s.channelIdle c).regs.one = s.regs.one ∧ (s.channelIdle c).regs.rsvd = s.regs.rsvd ∧
    (s.channelIdle c).regs.posted = s.regs.posted ∧ (s.channelIdle c).sq.frameNo = s.sq.frameNo ∧
    (s.channelIdle c).sq.inScan = s.sq.inScan ∧ (s.channelIdle c).sq.nextBoundary = s.sq.nextBoundary := by
  and_intros <;> (unfold State.channelIdle; repeat' (first | with_reducible rfl | (simp; done) | split | with_reducible refine (State.regs_setA_foldl _ _ _ (fun _ _ => ?_)).trans ?_ | with_reducible refine (State.regs_setB_foldl _ _ _ (fun _ _ => ?_)).trans ?_ | with_reducible refine (State.regs_one_foldl _ _ _ (fun _ _ => ?_)).trans ?_ | with_reducible refine (State.regs_rsvd_foldl _ _ _ (fun _ _ => ?_)).trans ?_ | with_reducible refine (State.regs_waiting_foldl _ _ _ (fun _ _ => ?_)).trans ?_ | with_reducible refine (State.regs_stale_foldl _ _ _ (fun _ _ => ?_)).trans ?_ | with_reducible refine (State.regs_posted_foldl _ _ _ (fun _ _ => ?_)).trans ?_ | with_reducible refine (State.fd_mem_foldl _ _ _ (fun _ _ => ?_)).trans ?_ | with_reducible refine (State.dm_sram_foldl _ _ _ (fun _ _ => ?_)).trans ?_ | with_reducible refine (State.sq_frameNo_foldl _ _ _ (fun _ _ => ?_)).trans ?_ | with_reducible refine (State.sq_inScan_foldl _ _ _ (fun _ _ => ?_)).trans ?_ | with_reducible refine (State.sq_nextBoundary_foldl _ _ _ (fun _ _ => ?_)).trans ?_ | with_reducible refine (State.pw_gate_foldl _ _ _ (fun _ _ => ?_)).trans ?_ | (dsimp only; first | split | with_reducible refine (State.regs_setA_foldl _ _ _ (fun _ _ => ?_)).trans ?_ | with_reducible refine (State.regs_setB_foldl _ _ _ (fun _ _ => ?_)).trans ?_ | with_reducible refine (State.regs_one_foldl _ _ _ (fun _ _ => ?_)).trans ?_ | with_reducible refine (State.regs_rsvd_foldl _ _ _ (fun _ _ => ?_)).trans ?_ | with_reducible refine (State.regs_waiting_foldl _ _ _ (fun _ _ => ?_)).trans ?_ | with_reducible refine (State.regs_stale_foldl _ _ _ (fun _ _ => ?_)).trans ?_ | with_reducible refine (State.regs_posted_foldl _ _ _ (fun _ _ => ?_)).trans ?_ | with_reducible refine (State.fd_mem_foldl _ _ _ (fun _ _ => ?_)).trans ?_ | with_reducible refine (State.dm_sram_foldl _ _ _ (fun _ _ => ?_)).trans ?_ | with_reducible refine (State.sq_frameNo_foldl _ _ _ (fun _ _ => ?_)).trans ?_ | with_reducible refine (State.sq_inScan_foldl _ _ _ (fun _ _ => ?_)).trans ?_ | with_reducible refine (State.sq_nextBoundary_foldl _ _ _ (fun _ _ => ?_)).trans ?_ | with_reducible refine (State.pw_gate_foldl _ _ _ (fun _ _ => ?_)).trans ?_)))

@[simp] theorem State.tlCntClr_parts (s : State) (t : Nat) :
    (s.tlCntClr t).regs.setA = s.regs.setA ∧ (s.tlCntClr t).regs.setB = s.regs.setB ∧ (s.tlCntClr t).regs.one = s.regs.one ∧
    (s.tlCntClr t).regs.rsvd = s.regs.rsvd ∧ (s.tlCntClr t).regs.waiting = s.regs.waiting ∧
    (s.tlCntClr t).regs.stale = s.regs.stale ∧ (s.tlCntClr t).regs.posted = s.regs.posted := by
  and_intros <;> (unfold State.tlCntClr; repeat' (first | with_reducible rfl | (simp; done) | split | with_reducible refine (State.regs_setA_foldl _ _ _ (fun _ _ => ?_)).trans ?_ | with_reducible refine (State.regs_setB_foldl _ _ _ (fun _ _ => ?_)).trans ?_ | with_reducible refine (State.regs_one_foldl _ _ _ (fun _ _ => ?_)).trans ?_ | with_reducible refine (State.regs_rsvd_foldl _ _ _ (fun _ _ => ?_)).trans ?_ | with_reducible refine (State.regs_waiting_foldl _ _ _ (fun _ _ => ?_)).trans ?_ | with_reducible refine (State.regs_stale_foldl _ _ _ (fun _ _ => ?_)).trans ?_ | with_reducible refine (State.regs_posted_foldl _ _ _ (fun _ _ => ?_)).trans ?_ | with_reducible refine (State.fd_mem_foldl _ _ _ (fun _ _ => ?_)).trans ?_ | with_reducible refine (State.dm_sram_foldl _ _ _ (fun _ _ => ?_)).trans ?_ | with_reducible refine (State.sq_frameNo_foldl _ _ _ (fun _ _ => ?_)).trans ?_ | with_reducible refine (State.sq_inScan_foldl _ _ _ (fun _ _ => ?_)).trans ?_ | with_reducible refine (State.sq_nextBoundary_foldl _ _ _ (fun _ _ => ?_)).trans ?_ | with_reducible refine (State.pw_gate_foldl _ _ _ (fun _ _ => ?_)).trans ?_ | (dsimp only; first | split | with_reducible refine (State.regs_setA_foldl _ _ _ (fun _ _ => ?_)).trans ?_ | with_reducible refine (State.regs_setB_foldl _ _ _ (fun _ _ => ?_)).trans ?_ | with_reducible refine (State.regs_one_foldl _ _ _ (fun _ _ => ?_)).trans ?_ | with_reducible refine (State.regs_rsvd_foldl _ _ _ (fun _ _ => ?_)).trans ?_ | with_reducible refine (State.regs_waiting_foldl _ _ _ (fun _ _ => ?_)).trans ?_ | with_reducible refine (State.regs_stale_foldl _ _ _ (fun _ _ => ?_)).trans ?_ | with_reducible refine (State.regs_posted_foldl _ _ _ (fun _ _ => ?_)).trans ?_ | with_reducible refine (State.fd_mem_foldl _ _ _ (fun _ _ => ?_)).trans ?_ | with_reducible refine (State.dm_sram_foldl _ _ _ (fun _ _ => ?_)).trans ?_ | with_reducible refine (State.sq_frameNo_foldl _ _ _ (fun _ _ => ?_)).trans ?_ | with_reducible refine (State.sq_inScan_foldl _ _ _ (fun _ _ => ?_)).trans ?_ | with_reducible refine (State.sq_nextBoundary_foldl _ _ _ (fun _ _ => ?_)).trans ?_ | with_reducible refine (State.pw_gate_foldl _ _ _ (fun _ _ => ?_)).trans ?_)))

@[simp] theorem State.teCntClr_parts (s : State) (t : Nat) :
    (s.teCntClr t).regs.setA = s.regs.setA ∧ (s.teCntClr t).regs.setB = s.regs.setB ∧ (s.teCntClr t).regs.one = s.regs.one ∧
    (s.teCntClr t).regs.rsvd = s.regs.rsvd ∧ (s.teCntClr t).regs.waiting = s.regs.waiting ∧
    (s.teCntClr t).regs.stale = s.regs.stale ∧ (s.teCntClr t).regs.posted = s.regs.posted := by
  and_intros <;> (unfold State.teCntClr; repeat' (first | with_reducible rfl | (simp; done) | split | with_reducible refine (State.regs_setA_foldl _ _ _ (fun _ _ => ?_)).trans ?_ | with_reducible refine (State.regs_setB_foldl _ _ _ (fun _ _ => ?_)).trans ?_ | with_reducible refine (State.regs_one_foldl _ _ _ (fun _ _ => ?_)).trans ?_ | with_reducible refine (State.regs_rsvd_foldl _ _ _ (fun _ _ => ?_)).trans ?_ | with_reducible refine (State.regs_waiting_foldl _ _ _ (fun _ _ => ?_)).trans ?_ | with_reducible refine (State.regs_stale_foldl _ _ _ (fun _ _ => ?_)).trans ?_ | with_reducible refine (State.regs_posted_foldl _ _ _ (fun _ _ => ?_)).trans ?_ | with_reducible refine (State.fd_mem_foldl _ _ _ (fun _ _ => ?_)).trans ?_ | with_reducible refine (State.dm_sram_foldl _ _ _ (fun _ _ => ?_)).trans ?_ | with_reducible refine (State.sq_frameNo_foldl _ _ _ (fun _ _ => ?_)).trans ?_ | with_reducible refine (State.sq_inScan_foldl _ _ _ (fun _ _ => ?_)).trans ?_ | with_reducible refine (State.sq_nextBoundary_foldl _ _ _ (fun _ _ => ?_)).trans ?_ | with_reducible refine (State.pw_gate_foldl _ _ _ (fun _ _ => ?_)).trans ?_ | (dsimp only; first | split | with_reducible refine (State.regs_setA_foldl _ _ _ (fun _ _ => ?_)).trans ?_ | with_reducible refine (State.regs_setB_foldl _ _ _ (fun _ _ => ?_)).trans ?_ | with_reducible refine (State.regs_one_foldl _ _ _ (fun _ _ => ?_)).trans ?_ | with_reducible refine (State.regs_rsvd_foldl _ _ _ (fun _ _ => ?_)).trans ?_ | with_reducible refine (State.regs_waiting_foldl _ _ _ (fun _ _ => ?_)).trans ?_ | with_reducible refine (State.regs_stale_foldl _ _ _ (fun _ _ => ?_)).trans ?_ | with_reducible refine (State.regs_posted_foldl _ _ _ (fun _ _ => ?_)).trans ?_ | with_reducible refine (State.fd_mem_foldl _ _ _ (fun _ _ => ?_)).trans ?_ | with_reducible refine (State.dm_sram_foldl _ _ _ (fun _ _ => ?_)).trans ?_ | with_reducible refine (State.sq_frameNo_foldl _ _ _ (fun _ _ => ?_)).trans ?_ | with_reducible refine (State.sq_inScan_foldl _ _ _ (fun _ _ => ?_)).trans ?_ | with_reducible refine (State.sq_nextBoundary_foldl _ _ _ (fun _ _ => ?_)).trans ?_ | with_reducible refine (State.pw_gate_foldl _ _ _ (fun _ _ => ?_)).trans ?_)))

end Sys2Proof.Machine
end

