-- ==== Sys2Proof/Laws/FrameFold.lean ====
section
/-!
SUPPORT. The frames of the operations of Machine/Fold.lean: the parts of the state that each of them leaves as they were.
-/

set_option linter.unusedTactic false
set_option linter.unreachableTactic false
set_option linter.unusedSimpArgs false

namespace Sys2Proof.Machine

@[simp] theorem State.setFdPix_frame (s : State) (p : Nat) (x : FdPixel) :
    (s.setFdPix p x).now = s.now ∧ (s.setFdPix p x).phase = s.phase ∧ (s.setFdPix p x).pending = s.pending ∧
    (s.setFdPix p x).nodeOfs = s.nodeOfs ∧ (s.setFdPix p x).freeCtr = s.freeCtr ∧ (s.setFdPix p x).tx = s.tx ∧
    (s.setFdPix p x).regs = s.regs ∧ (s.setFdPix p x).tl = s.tl := by
  and_intros <;> (unfold State.setFdPix; repeat' (first | with_reducible rfl | (simp; done) | split | with_reducible refine (foldl_inv _ _ _ _ (fun _ _ => ?_)).trans ?_ | (dsimp only; first | split | with_reducible refine (foldl_inv _ _ _ _ (fun _ _ => ?_)).trans ?_)))

@[simp] theorem State.setFdPix_frame2 (s : State) (p : Nat) (x : FdPixel) :
    (s.setFdPix p x).sq = s.sq ∧ (s.setFdPix p x).ex = s.ex ∧ (s.setFdPix p x).sv = s.sv ∧ (s.setFdPix p x).ax = s.ax ∧
    (s.setFdPix p x).aq = s.aq ∧ (s.setFdPix p x).il = s.il ∧ (s.setFdPix p x).ln = s.ln ∧ (s.setFdPix p x).fl = s.fl := by
  and_intros <;> (unfold State.setFdPix; repeat' (first | with_reducible rfl | (simp; done) | split | with_reducible refine (foldl_inv _ _ _ _ (fun _ _ => ?_)).trans ?_ | (dsimp only; first | split | with_reducible refine (foldl_inv _ _ _ _ (fun _ _ => ?_)).trans ?_)))

@[simp] theorem State.setFdPix_frame3 (s : State) (p : Nat) (x : FdPixel) :
    (s.setFdPix p x).ev = s.ev ∧ (s.setFdPix p x).safe = s.safe ∧ (s.setFdPix p x).dm = s.dm ∧ (s.setFdPix p x).cm = s.cm ∧
    (s.setFdPix p x).cf = s.cf ∧ (s.setFdPix p x).pw = s.pw ∧ (s.setFdPix p x).th = s.th := by
  and_intros <;> (unfold State.setFdPix; repeat' (first | with_reducible rfl | (simp; done) | split | with_reducible refine (foldl_inv _ _ _ _ (fun _ _ => ?_)).trans ?_ | (dsimp only; first | split | with_reducible refine (foldl_inv _ _ _ _ (fun _ _ => ?_)).trans ?_)))

@[simp] theorem State.setBin_frame (s : State) (a v : Nat) :
    (s.setBin a v).now = s.now ∧ (s.setBin a v).phase = s.phase ∧ (s.setBin a v).pending = s.pending ∧
    (s.setBin a v).nodeOfs = s.nodeOfs ∧ (s.setBin a v).freeCtr = s.freeCtr ∧ (s.setBin a v).tx = s.tx ∧
    (s.setBin a v).regs = s.regs ∧ (s.setBin a v).tl = s.tl := by
  and_intros <;> (unfold State.setBin; repeat' (first | with_reducible rfl | (simp; done) | split | with_reducible refine (foldl_inv _ _ _ _ (fun _ _ => ?_)).trans ?_ | (dsimp only; first | split | with_reducible refine (foldl_inv _ _ _ _ (fun _ _ => ?_)).trans ?_)))

@[simp] theorem State.setBin_frame2 (s : State) (a v : Nat) :
    (s.setBin a v).sq = s.sq ∧ (s.setBin a v).ex = s.ex ∧ (s.setBin a v).sv = s.sv ∧ (s.setBin a v).ax = s.ax ∧
    (s.setBin a v).aq = s.aq ∧ (s.setBin a v).il = s.il ∧ (s.setBin a v).ln = s.ln ∧ (s.setBin a v).fl = s.fl := by
  and_intros <;> (unfold State.setBin; repeat' (first | with_reducible rfl | (simp; done) | split | with_reducible refine (foldl_inv _ _ _ _ (fun _ _ => ?_)).trans ?_ | (dsimp only; first | split | with_reducible refine (foldl_inv _ _ _ _ (fun _ _ => ?_)).trans ?_)))

@[simp] theorem State.setBin_frame3 (s : State) (a v : Nat) :
    (s.setBin a v).ev = s.ev ∧ (s.setBin a v).safe = s.safe ∧ (s.setBin a v).dm = s.dm ∧ (s.setBin a v).cm = s.cm ∧
    (s.setBin a v).cf = s.cf ∧ (s.setBin a v).pw = s.pw ∧ (s.setBin a v).th = s.th := by
  and_intros <;> (unfold State.setBin; repeat' (first | with_reducible rfl | (simp; done) | split | with_reducible refine (foldl_inv _ _ _ _ (fun _ _ => ?_)).trans ?_ | (dsimp only; first | split | with_reducible refine (foldl_inv _ _ _ _ (fun _ _ => ?_)).trans ?_)))

@[simp] theorem State.zeroBins_frame (s : State) (start len : Nat) :
    (s.zeroBins start len).now = s.now ∧ (s.zeroBins start len).phase = s.phase ∧ (s.zeroBins start len).pending = s.pending ∧
    (s.zeroBins start len).nodeOfs = s.nodeOfs ∧ (s.zeroBins start len).freeCtr = s.freeCtr ∧
    (s.zeroBins start len).tx = s.tx ∧ (s.zeroBins start len).regs = s.regs ∧ (s.zeroBins start len).tl = s.tl := by
  and_intros <;> (unfold State.zeroBins; repeat' (first | with_reducible rfl | (simp; done) | split | with_reducible refine (foldl_inv _ _ _ _ (fun _ _ => ?_)).trans ?_ | (dsimp only; first | split | with_reducible refine (foldl_inv _ _ _ _ (fun _ _ => ?_)).trans ?_)))

@[simp] theorem State.zeroBins_frame2 (s : State) (start len : Nat) :
    (s.zeroBins start len).sq = s.sq ∧ (s.zeroBins start len).ex = s.ex ∧ (s.zeroBins start len).sv = s.sv ∧
    (s.zeroBins start len).ax = s.ax ∧ (s.zeroBins start len).aq = s.aq ∧ (s.zeroBins start len).il = s.il ∧
    (s.zeroBins start len).ln = s.ln ∧ (s.zeroBins start len).fl = s.fl := by
  and_intros <;> (unfold State.zeroBins; repeat' (first | with_reducible rfl | (simp; done) | split | with_reducible refine (foldl_inv _ _ _ _ (fun _ _ => ?_)).trans ?_ | (dsimp only; first | split | with_reducible refine (foldl_inv _ _ _ _ (fun _ _ => ?_)).trans ?_)))

@[simp] theorem State.zeroBins_frame3 (s : State) (start len : Nat) :
    (s.zeroBins start len).ev = s.ev ∧ (s.zeroBins start len).safe = s.safe ∧ (s.zeroBins start len).dm = s.dm ∧
    (s.zeroBins start len).cm = s.cm ∧ (s.zeroBins start len).cf = s.cf ∧ (s.zeroBins start len).pw = s.pw ∧
    (s.zeroBins start len).th = s.th := by
  and_intros <;> (unfold State.zeroBins; repeat' (first | with_reducible rfl | (simp; done) | split | with_reducible refine (foldl_inv _ _ _ _ (fun _ _ => ?_)).trans ?_ | (dsimp only; first | split | with_reducible refine (foldl_inv _ _ _ _ (fun _ _ => ?_)).trans ?_)))

@[simp] theorem State.openInterval_frame (s : State) (p gen buf : Nat) :
    (s.openInterval p gen buf).now = s.now ∧ (s.openInterval p gen buf).phase = s.phase ∧
    (s.openInterval p gen buf).pending = s.pending ∧ (s.openInterval p gen buf).nodeOfs = s.nodeOfs ∧
    (s.openInterval p gen buf).freeCtr = s.freeCtr ∧ (s.openInterval p gen buf).tx = s.tx ∧
    (s.openInterval p gen buf).regs = s.regs ∧ (s.openInterval p gen buf).tl = s.tl := by
  and_intros <;> (unfold State.openInterval; repeat' (first | with_reducible rfl | (simp; done) | split | with_reducible refine (foldl_inv _ _ _ _ (fun _ _ => ?_)).trans ?_ | (dsimp only; first | split | with_reducible refine (foldl_inv _ _ _ _ (fun _ _ => ?_)).trans ?_)))

@[simp] theorem State.openInterval_frame2 (s : State) (p gen buf : Nat) :
    (s.openInterval p gen buf).sq = s.sq ∧ (s.openInterval p gen buf).ex = s.ex ∧ (s.openInterval p gen buf).sv = s.sv ∧
    (s.openInterval p gen buf).ax = s.ax ∧ (s.openInterval p gen buf).aq = s.aq ∧ (s.openInterval p gen buf).il = s.il ∧
    (s.openInterval p gen buf).ln = s.ln ∧ (s.openInterval p gen buf).fl = s.fl := by
  and_intros <;> (unfold State.openInterval; repeat' (first | with_reducible rfl | (simp; done) | split | with_reducible refine (foldl_inv _ _ _ _ (fun _ _ => ?_)).trans ?_ | (dsimp only; first | split | with_reducible refine (foldl_inv _ _ _ _ (fun _ _ => ?_)).trans ?_)))

@[simp] theorem State.openInterval_frame3 (s : State) (p gen buf : Nat) :
    (s.openInterval p gen buf).ev = s.ev ∧ (s.openInterval p gen buf).safe = s.safe ∧ (s.openInterval p gen buf).dm = s.dm ∧
    (s.openInterval p gen buf).cm = s.cm ∧ (s.openInterval p gen buf).cf = s.cf ∧ (s.openInterval p gen buf).pw = s.pw ∧
    (s.openInterval p gen buf).th = s.th := by
  and_intros <;> (unfold State.openInterval; repeat' (first | with_reducible rfl | (simp; done) | split | with_reducible refine (foldl_inv _ _ _ _ (fun _ _ => ?_)).trans ?_ | (dsimp only; first | split | with_reducible refine (foldl_inv _ _ _ _ (fun _ _ => ?_)).trans ?_)))

@[simp] theorem State.takeDesc_frame (s : State) (p : Nat) (written : Bool) :
    (s.takeDesc p written).now = s.now ∧ (s.takeDesc p written).phase = s.phase ∧ (s.takeDesc p written).pending = s.pending ∧
    (s.takeDesc p written).nodeOfs = s.nodeOfs ∧ (s.takeDesc p written).freeCtr = s.freeCtr ∧
    (s.takeDesc p written).tx = s.tx ∧ (s.takeDesc p written).tl = s.tl ∧ (s.takeDesc p written).sq = s.sq := by
  and_intros <;> (unfold State.takeDesc; repeat' (first | with_reducible rfl | (simp; done) | split | with_reducible refine (foldl_inv _ _ _ _ (fun _ _ => ?_)).trans ?_ | (dsimp only; first | split | with_reducible refine (foldl_inv _ _ _ _ (fun _ _ => ?_)).trans ?_)))

@[simp] theorem State.takeDesc_frame2 (s : State) (p : Nat) (written : Bool) :
    (s.takeDesc p written).ex = s.ex ∧ (s.takeDesc p written).sv = s.sv ∧ (s.takeDesc p written).ax = s.ax ∧
    (s.takeDesc p written).aq = s.aq ∧ (s.takeDesc p written).il = s.il ∧ (s.takeDesc p written).ln = s.ln ∧
    (s.takeDesc p written).fl = s.fl ∧ (s.takeDesc p written).safe = s.safe := by
  and_intros <;> (unfold State.takeDesc; repeat' (first | with_reducible rfl | (simp; done) | split | with_reducible refine (foldl_inv _ _ _ _ (fun _ _ => ?_)).trans ?_ | (dsimp only; first | split | with_reducible refine (foldl_inv _ _ _ _ (fun _ _ => ?_)).trans ?_)))

@[simp] theorem State.takeDesc_frame3 (s : State) (p : Nat) (written : Bool) :
    (s.takeDesc p written).dm = s.dm ∧ (s.takeDesc p written).cm = s.cm ∧ (s.takeDesc p written).cf = s.cf ∧
    (s.takeDesc p written).pw = s.pw ∧ (s.takeDesc p written).th = s.th := by
  and_intros <;> (unfold State.takeDesc; repeat' (first | with_reducible rfl | (simp; done) | split | with_reducible refine (foldl_inv _ _ _ _ (fun _ _ => ?_)).trans ?_ | (dsimp only; first | split | with_reducible refine (foldl_inv _ _ _ _ (fun _ _ => ?_)).trans ?_)))

@[simp] theorem State.applyPixel_frame (s : State) (p : Nat) :
    (s.applyPixel p).now = s.now ∧ (s.applyPixel p).phase = s.phase ∧ (s.applyPixel p).pending = s.pending ∧
    (s.applyPixel p).nodeOfs = s.nodeOfs ∧ (s.applyPixel p).freeCtr = s.freeCtr ∧ (s.applyPixel p).tl = s.tl ∧
    (s.applyPixel p).fd = s.fd ∧ (s.applyPixel p).ex = s.ex := by
  and_intros <;> (unfold State.applyPixel; repeat' (first | with_reducible rfl | (simp; done) | split | with_reducible refine (foldl_inv _ _ _ _ (fun _ _ => ?_)).trans ?_ | (dsimp only; first | split | with_reducible refine (foldl_inv _ _ _ _ (fun _ _ => ?_)).trans ?_)))

@[simp] theorem State.applyPixel_frame2 (s : State) (p : Nat) :
    (s.applyPixel p).sv = s.sv ∧ (s.applyPixel p).ax = s.ax ∧ (s.applyPixel p).aq = s.aq ∧ (s.applyPixel p).il = s.il ∧
    (s.applyPixel p).ln = s.ln ∧ (s.applyPixel p).dm = s.dm ∧ (s.applyPixel p).cm = s.cm ∧ (s.applyPixel p).pw = s.pw := by
  and_intros <;> (unfold State.applyPixel; repeat' (first | with_reducible rfl | (simp; done) | split | with_reducible refine (foldl_inv _ _ _ _ (fun _ _ => ?_)).trans ?_ | (dsimp only; first | split | with_reducible refine (foldl_inv _ _ _ _ (fun _ _ => ?_)).trans ?_)))

@[simp] theorem State.applyPixel_frame3 (s : State) (p : Nat) :
    (s.applyPixel p).th = s.th := by
  unfold State.applyPixel; repeat' (first | with_reducible rfl | (simp; done) | split | with_reducible refine (foldl_inv _ _ _ _ (fun _ _ => ?_)).trans ?_ | (dsimp only; first | split | with_reducible refine (foldl_inv _ _ _ _ (fun _ _ => ?_)).trans ?_))

@[simp] theorem State.pixelBoundary_frame (s : State) (p : Nat) :
    (s.pixelBoundary p).now = s.now ∧ (s.pixelBoundary p).phase = s.phase ∧ (s.pixelBoundary p).pending = s.pending ∧
    (s.pixelBoundary p).nodeOfs = s.nodeOfs ∧ (s.pixelBoundary p).freeCtr = s.freeCtr ∧ (s.pixelBoundary p).tl = s.tl ∧
    (s.pixelBoundary p).ex = s.ex ∧ (s.pixelBoundary p).sv = s.sv := by
  and_intros <;> (unfold State.pixelBoundary; repeat' (first | with_reducible rfl | (simp; done) | split | with_reducible refine (foldl_inv _ _ _ _ (fun _ _ => ?_)).trans ?_ | (dsimp only; first | split | with_reducible refine (foldl_inv _ _ _ _ (fun _ _ => ?_)).trans ?_)))

@[simp] theorem State.pixelBoundary_frame2 (s : State) (p : Nat) :
    (s.pixelBoundary p).ax = s.ax ∧ (s.pixelBoundary p).aq = s.aq ∧ (s.pixelBoundary p).il = s.il ∧
    (s.pixelBoundary p).ln = s.ln ∧ (s.pixelBoundary p).dm = s.dm ∧ (s.pixelBoundary p).cm = s.cm ∧
    (s.pixelBoundary p).pw = s.pw ∧ (s.pixelBoundary p).th = s.th := by
  and_intros <;> (unfold State.pixelBoundary; repeat' (first | with_reducible rfl | (simp; done) | split | with_reducible refine (foldl_inv _ _ _ _ (fun _ _ => ?_)).trans ?_ | (dsimp only; first | split | with_reducible refine (foldl_inv _ _ _ _ (fun _ _ => ?_)).trans ?_)))

@[simp] theorem State.closeInterval_frame (s : State) (p : Nat) (forced again : Bool) :
    (s.closeInterval p forced again).now = s.now ∧ (s.closeInterval p forced again).phase = s.phase ∧
    (s.closeInterval p forced again).pending = s.pending ∧ (s.closeInterval p forced again).nodeOfs = s.nodeOfs ∧
    (s.closeInterval p forced again).freeCtr = s.freeCtr ∧ (s.closeInterval p forced again).ex = s.ex ∧
    (s.closeInterval p forced again).sv = s.sv ∧ (s.closeInterval p forced again).ax = s.ax := by
  and_intros <;> (unfold State.closeInterval; repeat' (first | with_reducible rfl | (simp; done) | split | with_reducible refine (foldl_inv _ _ _ _ (fun _ _ => ?_)).trans ?_ | (dsimp only; first | split | with_reducible refine (foldl_inv _ _ _ _ (fun _ _ => ?_)).trans ?_)))

@[simp] theorem State.closeInterval_frame2 (s : State) (p : Nat) (forced again : Bool) :
    (s.closeInterval p forced again).aq = s.aq ∧ (s.closeInterval p forced again).il = s.il ∧
    (s.closeInterval p forced again).ln = s.ln ∧ (s.closeInterval p forced again).dm = s.dm ∧
    (s.closeInterval p forced again).cm = s.cm ∧ (s.closeInterval p forced again).pw = s.pw := by
  and_intros <;> (unfold State.closeInterval; repeat' (first | with_reducible rfl | (simp; done) | split | with_reducible refine (foldl_inv _ _ _ _ (fun _ _ => ?_)).trans ?_ | (dsimp only; first | split | with_reducible refine (foldl_inv _ _ _ _ (fun _ _ => ?_)).trans ?_)))

@[simp] theorem State.intervalEnd_frame (s : State) (p : Nat) :
    (s.intervalEnd p).now = s.now ∧ (s.intervalEnd p).phase = s.phase ∧ (s.intervalEnd p).pending = s.pending ∧
    (s.intervalEnd p).nodeOfs = s.nodeOfs ∧ (s.intervalEnd p).freeCtr = s.freeCtr ∧ (s.intervalEnd p).ex = s.ex ∧
    (s.intervalEnd p).sv = s.sv ∧ (s.intervalEnd p).ax = s.ax := by
  and_intros <;> (unfold State.intervalEnd; repeat' (first | with_reducible rfl | (simp; done) | split | with_reducible refine (foldl_inv _ _ _ _ (fun _ _ => ?_)).trans ?_ | (dsimp only; first | split | with_reducible refine (foldl_inv _ _ _ _ (fun _ _ => ?_)).trans ?_)))

@[simp] theorem State.intervalEnd_frame2 (s : State) (p : Nat) :
    (s.intervalEnd p).aq = s.aq ∧ (s.intervalEnd p).il = s.il ∧ (s.intervalEnd p).ln = s.ln ∧ (s.intervalEnd p).dm = s.dm ∧
    (s.intervalEnd p).cm = s.cm ∧ (s.intervalEnd p).pw = s.pw := by
  and_intros <;> (unfold State.intervalEnd; repeat' (first | with_reducible rfl | (simp; done) | split | with_reducible refine (foldl_inv _ _ _ _ (fun _ _ => ?_)).trans ?_ | (dsimp only; first | split | with_reducible refine (foldl_inv _ _ _ _ (fun _ _ => ?_)).trans ?_)))

@[simp] theorem State.idlePixel_frame (s : State) (p : Nat) :
    (s.idlePixel p).now = s.now ∧ (s.idlePixel p).phase = s.phase ∧ (s.idlePixel p).pending = s.pending ∧
    (s.idlePixel p).nodeOfs = s.nodeOfs ∧ (s.idlePixel p).freeCtr = s.freeCtr ∧ (s.idlePixel p).ex = s.ex ∧
    (s.idlePixel p).sv = s.sv ∧ (s.idlePixel p).ax = s.ax := by
  and_intros <;> (unfold State.idlePixel; repeat' (first | with_reducible rfl | (simp; done) | split | with_reducible refine (foldl_inv _ _ _ _ (fun _ _ => ?_)).trans ?_ | (dsimp only; first | split | with_reducible refine (foldl_inv _ _ _ _ (fun _ _ => ?_)).trans ?_)))

@[simp] theorem State.idlePixel_frame2 (s : State) (p : Nat) :
    (s.idlePixel p).aq = s.aq ∧ (s.idlePixel p).il = s.il ∧ (s.idlePixel p).ln = s.ln ∧ (s.idlePixel p).dm = s.dm ∧
    (s.idlePixel p).cm = s.cm ∧ (s.idlePixel p).pw = s.pw ∧ (s.idlePixel p).th = s.th := by
  and_intros <;> (unfold State.idlePixel; repeat' (first | with_reducible rfl | (simp; done) | split | with_reducible refine (foldl_inv _ _ _ _ (fun _ _ => ?_)).trans ?_ | (dsimp only; first | split | with_reducible refine (foldl_inv _ _ _ _ (fun _ _ => ?_)).trans ?_)))

@[simp] theorem State.idleWrites_frame (s : State) :
    (s.idleWrites).now = s.now ∧ (s.idleWrites).phase = s.phase ∧ (s.idleWrites).pending = s.pending ∧
    (s.idleWrites).nodeOfs = s.nodeOfs ∧ (s.idleWrites).freeCtr = s.freeCtr ∧ (s.idleWrites).ex = s.ex ∧
    (s.idleWrites).sv = s.sv ∧ (s.idleWrites).ax = s.ax := by
  and_intros <;> (unfold State.idleWrites; repeat' (first | with_reducible rfl | (simp; done) | split | with_reducible refine (foldl_inv _ _ _ _ (fun _ _ => ?_)).trans ?_ | (dsimp only; first | split | with_reducible refine (foldl_inv _ _ _ _ (fun _ _ => ?_)).trans ?_)))

@[simp] theorem State.idleWrites_frame2 (s : State) :
    (s.idleWrites).aq = s.aq ∧ (s.idleWrites).il = s.il ∧ (s.idleWrites).ln = s.ln ∧ (s.idleWrites).dm = s.dm ∧
    (s.idleWrites).cm = s.cm ∧ (s.idleWrites).pw = s.pw ∧ (s.idleWrites).th = s.th := by
  and_intros <;> (unfold State.idleWrites; repeat' (first | with_reducible rfl | (simp; done) | split | with_reducible refine (foldl_inv _ _ _ _ (fun _ _ => ?_)).trans ?_ | (dsimp only; first | split | with_reducible refine (foldl_inv _ _ _ _ (fun _ _ => ?_)).trans ?_)))

@[simp] theorem State.countShot_frame (s : State) (seq p : Nat) :
    (s.countShot seq p).1.now = s.now ∧ (s.countShot seq p).1.phase = s.phase ∧ (s.countShot seq p).1.pending = s.pending ∧
    (s.countShot seq p).1.nodeOfs = s.nodeOfs ∧ (s.countShot seq p).1.freeCtr = s.freeCtr ∧ (s.countShot seq p).1.tx = s.tx ∧
    (s.countShot seq p).1.tl = s.tl ∧ (s.countShot seq p).1.sq = s.sq := by
  and_intros <;> (unfold State.countShot; repeat' (first | with_reducible rfl | (simp; done) | split | with_reducible refine (foldl_inv _ _ _ _ (fun _ _ => ?_)).trans ?_ | (dsimp only; first | split | with_reducible refine (foldl_inv _ _ _ _ (fun _ _ => ?_)).trans ?_)))

@[simp] theorem State.countShot_frame2 (s : State) (seq p : Nat) :
    (s.countShot seq p).1.ex = s.ex ∧ (s.countShot seq p).1.sv = s.sv ∧ (s.countShot seq p).1.ax = s.ax ∧
    (s.countShot seq p).1.aq = s.aq ∧ (s.countShot seq p).1.il = s.il ∧ (s.countShot seq p).1.ln = s.ln ∧
    (s.countShot seq p).1.fl = s.fl ∧ (s.countShot seq p).1.ev = s.ev := by
  and_intros <;> (unfold State.countShot; repeat' (first | with_reducible rfl | (simp; done) | split | with_reducible refine (foldl_inv _ _ _ _ (fun _ _ => ?_)).trans ?_ | (dsimp only; first | split | with_reducible refine (foldl_inv _ _ _ _ (fun _ _ => ?_)).trans ?_)))

@[simp] theorem State.countShot_frame3 (s : State) (seq p : Nat) :
    (s.countShot seq p).1.safe = s.safe ∧ (s.countShot seq p).1.dm = s.dm ∧ (s.countShot seq p).1.cm = s.cm ∧
    (s.countShot seq p).1.cf = s.cf ∧ (s.countShot seq p).1.pw = s.pw ∧ (s.countShot seq p).1.th = s.th := by
  and_intros <;> (unfold State.countShot; repeat' (first | with_reducible rfl | (simp; done) | split | with_reducible refine (foldl_inv _ _ _ _ (fun _ _ => ?_)).trans ?_ | (dsimp only; first | split | with_reducible refine (foldl_inv _ _ _ _ (fun _ _ => ?_)).trans ?_)))

@[simp] theorem State.closeAll_frame (s : State) (again : Bool) :
    (s.closeAll again).now = s.now ∧ (s.closeAll again).phase = s.phase ∧ (s.closeAll again).pending = s.pending ∧
    (s.closeAll again).nodeOfs = s.nodeOfs ∧ (s.closeAll again).freeCtr = s.freeCtr ∧ (s.closeAll again).ex = s.ex ∧
    (s.closeAll again).sv = s.sv ∧ (s.closeAll again).ax = s.ax := by
  and_intros <;> (unfold State.closeAll; repeat' (first | with_reducible rfl | (simp; done) | split | with_reducible refine (foldl_inv _ _ _ _ (fun _ _ => ?_)).trans ?_ | (dsimp only; first | split | with_reducible refine (foldl_inv _ _ _ _ (fun _ _ => ?_)).trans ?_)))

@[simp] theorem State.closeAll_frame2 (s : State) (again : Bool) :
    (s.closeAll again).aq = s.aq ∧ (s.closeAll again).il = s.il ∧ (s.closeAll again).ln = s.ln ∧
    (s.closeAll again).dm = s.dm ∧ (s.closeAll again).cm = s.cm ∧ (s.closeAll again).pw = s.pw := by
  and_intros <;> (unfold State.closeAll; repeat' (first | with_reducible rfl | (simp; done) | split | with_reducible refine (foldl_inv _ _ _ _ (fun _ _ => ?_)).trans ?_ | (dsimp only; first | split | with_reducible refine (foldl_inv _ _ _ _ (fun _ _ => ?_)).trans ?_)))

@[simp] theorem State.settleStop_frame (s : State) :
    (s.settleStop).now = s.now ∧ (s.settleStop).phase = s.phase ∧ (s.settleStop).pending = s.pending ∧
    (s.settleStop).nodeOfs = s.nodeOfs ∧ (s.settleStop).freeCtr = s.freeCtr ∧ (s.settleStop).ex = s.ex ∧
    (s.settleStop).sv = s.sv ∧ (s.settleStop).ax = s.ax := by
  and_intros <;> (unfold State.settleStop; repeat' (first | with_reducible rfl | (simp; done) | split | with_reducible refine (foldl_inv _ _ _ _ (fun _ _ => ?_)).trans ?_ | (dsimp only; first | split | with_reducible refine (foldl_inv _ _ _ _ (fun _ _ => ?_)).trans ?_)))

@[simp] theorem State.settleStop_frame2 (s : State) :
    (s.settleStop).aq = s.aq ∧ (s.settleStop).il = s.il ∧ (s.settleStop).ln = s.ln ∧ (s.settleStop).dm = s.dm ∧
    (s.settleStop).cm = s.cm ∧ (s.settleStop).pw = s.pw := by
  and_intros <;> (unfold State.settleStop; repeat' (first | with_reducible rfl | (simp; done) | split | with_reducible refine (foldl_inv _ _ _ _ (fun _ _ => ?_)).trans ?_ | (dsimp only; first | split | with_reducible refine (foldl_inv _ _ _ _ (fun _ _ => ?_)).trans ?_)))

@[simp] theorem State.foldFrameStart_frame (s : State) :
    (s.foldFrameStart).now = s.now ∧ (s.foldFrameStart).phase = s.phase ∧ (s.foldFrameStart).pending = s.pending ∧
    (s.foldFrameStart).nodeOfs = s.nodeOfs ∧ (s.foldFrameStart).freeCtr = s.freeCtr ∧ (s.foldFrameStart).ex = s.ex ∧
    (s.foldFrameStart).sv = s.sv ∧ (s.foldFrameStart).ax = s.ax := by
  and_intros <;> (unfold State.foldFrameStart; repeat' (first | with_reducible rfl | (simp; done) | split | with_reducible refine (foldl_inv _ _ _ _ (fun _ _ => ?_)).trans ?_ | (dsimp only; first | split | with_reducible refine (foldl_inv _ _ _ _ (fun _ _ => ?_)).trans ?_)))

@[simp] theorem State.foldFrameStart_frame2 (s : State) :
    (s.foldFrameStart).aq = s.aq ∧ (s.foldFrameStart).il = s.il ∧ (s.foldFrameStart).ln = s.ln ∧
    (s.foldFrameStart).dm = s.dm ∧ (s.foldFrameStart).cm = s.cm ∧ (s.foldFrameStart).pw = s.pw ∧
    (s.foldFrameStart).th = s.th := by
  and_intros <;> (unfold State.foldFrameStart; repeat' (first | with_reducible rfl | (simp; done) | split | with_reducible refine (foldl_inv _ _ _ _ (fun _ _ => ?_)).trans ?_ | (dsimp only; first | split | with_reducible refine (foldl_inv _ _ _ _ (fun _ _ => ?_)).trans ?_)))

@[simp] theorem State.request_frame (s : State) (r : Req) :
    (s.request r).now = s.now ∧ (s.request r).phase = s.phase ∧ (s.request r).pending = s.pending ∧
    (s.request r).nodeOfs = s.nodeOfs ∧ (s.request r).freeCtr = s.freeCtr ∧ (s.request r).tx = s.tx ∧
    (s.request r).regs = s.regs ∧ (s.request r).tl = s.tl := by
  and_intros <;> (unfold State.request; repeat' (first | with_reducible rfl | (simp; done) | split | with_reducible refine (foldl_inv _ _ _ _ (fun _ _ => ?_)).trans ?_ | (dsimp only; first | split | with_reducible refine (foldl_inv _ _ _ _ (fun _ _ => ?_)).trans ?_)))

@[simp] theorem State.request_frame2 (s : State) (r : Req) :
    (s.request r).sq = s.sq ∧ (s.request r).ex = s.ex ∧ (s.request r).sv = s.sv ∧ (s.request r).ax = s.ax ∧
    (s.request r).aq = s.aq ∧ (s.request r).il = s.il ∧ (s.request r).ln = s.ln ∧ (s.request r).fl = s.fl := by
  and_intros <;> (unfold State.request; repeat' (first | with_reducible rfl | (simp; done) | split | with_reducible refine (foldl_inv _ _ _ _ (fun _ _ => ?_)).trans ?_ | (dsimp only; first | split | with_reducible refine (foldl_inv _ _ _ _ (fun _ _ => ?_)).trans ?_)))

@[simp] theorem State.request_frame3 (s : State) (r : Req) :
    (s.request r).ev = s.ev ∧ (s.request r).safe = s.safe ∧ (s.request r).dm = s.dm ∧ (s.request r).cm = s.cm ∧
    (s.request r).cf = s.cf ∧ (s.request r).pw = s.pw ∧ (s.request r).th = s.th := by
  and_intros <;> (unfold State.request; repeat' (first | with_reducible rfl | (simp; done) | split | with_reducible refine (foldl_inv _ _ _ _ (fun _ _ => ?_)).trans ?_ | (dsimp only; first | split | with_reducible refine (foldl_inv _ _ _ _ (fun _ _ => ?_)).trans ?_)))

@[simp] theorem State.histEvent_frame (s : State) (p gen k stamp dither : Nat) (ovr xtk loss fbs : Bool) :
    (s.histEvent p gen k stamp dither ovr xtk loss fbs).now = s.now ∧
    (s.histEvent p gen k stamp dither ovr xtk loss fbs).phase = s.phase ∧
    (s.histEvent p gen k stamp dither ovr xtk loss fbs).pending = s.pending ∧
    (s.histEvent p gen k stamp dither ovr xtk loss fbs).nodeOfs = s.nodeOfs ∧
    (s.histEvent p gen k stamp dither ovr xtk loss fbs).freeCtr = s.freeCtr ∧
    (s.histEvent p gen k stamp dither ovr xtk loss fbs).tx = s.tx ∧
    (s.histEvent p gen k stamp dither ovr xtk loss fbs).regs = s.regs ∧
    (s.histEvent p gen k stamp dither ovr xtk loss fbs).tl = s.tl := by
  and_intros <;> (unfold State.histEvent; repeat' (first | with_reducible rfl | (simp; done) | split | with_reducible refine (foldl_inv _ _ _ _ (fun _ _ => ?_)).trans ?_ | (dsimp only; first | split | with_reducible refine (foldl_inv _ _ _ _ (fun _ _ => ?_)).trans ?_)))

@[simp] theorem State.histEvent_frame2 (s : State) (p gen k stamp dither : Nat) (ovr xtk loss fbs : Bool) :
    (s.histEvent p gen k stamp dither ovr xtk loss fbs).sq = s.sq ∧
    (s.histEvent p gen k stamp dither ovr xtk loss fbs).ex = s.ex ∧
    (s.histEvent p gen k stamp dither ovr xtk loss fbs).sv = s.sv ∧
    (s.histEvent p gen k stamp dither ovr xtk loss fbs).ax = s.ax ∧
    (s.histEvent p gen k stamp dither ovr xtk loss fbs).aq = s.aq ∧
    (s.histEvent p gen k stamp dither ovr xtk loss fbs).il = s.il ∧
    (s.histEvent p gen k stamp dither ovr xtk loss fbs).ln = s.ln ∧
    (s.histEvent p gen k stamp dither ovr xtk loss fbs).fl = s.fl := by
  and_intros <;> (unfold State.histEvent; repeat' (first | with_reducible rfl | (simp; done) | split | with_reducible refine (foldl_inv _ _ _ _ (fun _ _ => ?_)).trans ?_ | (dsimp only; first | split | with_reducible refine (foldl_inv _ _ _ _ (fun _ _ => ?_)).trans ?_)))

@[simp] theorem State.histEvent_frame3 (s : State) (p gen k stamp dither : Nat) (ovr xtk loss fbs : Bool) :
    (s.histEvent p gen k stamp dither ovr xtk loss fbs).ev = s.ev ∧
    (s.histEvent p gen k stamp dither ovr xtk loss fbs).safe = s.safe ∧
    (s.histEvent p gen k stamp dither ovr xtk loss fbs).dm = s.dm ∧
    (s.histEvent p gen k stamp dither ovr xtk loss fbs).cm = s.cm ∧
    (s.histEvent p gen k stamp dither ovr xtk loss fbs).cf = s.cf ∧
    (s.histEvent p gen k stamp dither ovr xtk loss fbs).pw = s.pw ∧
    (s.histEvent p gen k stamp dither ovr xtk loss fbs).th = s.th := by
  and_intros <;> (unfold State.histEvent; repeat' (first | with_reducible rfl | (simp; done) | split | with_reducible refine (foldl_inv _ _ _ _ (fun _ _ => ?_)).trans ?_ | (dsimp only; first | split | with_reducible refine (foldl_inv _ _ _ _ (fun _ _ => ?_)).trans ?_)))

@[simp] theorem State.takeEvent_frame (s : State) (p shot stamp : Nat) (drop ovr xtk loss fbs : Bool) :
    (s.takeEvent p shot stamp drop ovr xtk loss fbs).now = s.now ∧
    (s.takeEvent p shot stamp drop ovr xtk loss fbs).phase = s.phase ∧
    (s.takeEvent p shot stamp drop ovr xtk loss fbs).pending = s.pending ∧
    (s.takeEvent p shot stamp drop ovr xtk loss fbs).nodeOfs = s.nodeOfs ∧
    (s.takeEvent p shot stamp drop ovr xtk loss fbs).freeCtr = s.freeCtr ∧
    (s.takeEvent p shot stamp drop ovr xtk loss fbs).tx = s.tx ∧ (s.takeEvent p shot stamp drop ovr xtk loss fbs).tl = s.tl ∧
    (s.takeEvent p shot stamp drop ovr xtk loss fbs).sq = s.sq := by
  and_intros <;> (unfold State.takeEvent; repeat' (first | with_reducible rfl | (simp; done) | split | with_reducible refine (foldl_inv _ _ _ _ (fun _ _ => ?_)).trans ?_ | (dsimp only; first | split | with_reducible refine (foldl_inv _ _ _ _ (fun _ _ => ?_)).trans ?_)))

@[simp] theorem State.takeEvent_frame2 (s : State) (p shot stamp : Nat) (drop ovr xtk loss fbs : Bool) :
    (s.takeEvent p shot stamp drop ovr xtk loss fbs).ex = s.ex ∧ (s.takeEvent p shot stamp drop ovr xtk loss fbs).sv = s.sv ∧
    (s.takeEvent p shot stamp drop ovr xtk loss fbs).ax = s.ax ∧ (s.takeEvent p shot stamp drop ovr xtk loss fbs).aq = s.aq ∧
    (s.takeEvent p shot stamp drop ovr xtk loss fbs).il = s.il ∧ (s.takeEvent p shot stamp drop ovr xtk loss fbs).ln = s.ln ∧
    (s.takeEvent p shot stamp drop ovr xtk loss fbs).fl = s.fl ∧ (s.takeEvent p shot stamp drop ovr xtk loss fbs).ev = s.ev := by
  and_intros <;> (unfold State.takeEvent; repeat' (first | with_reducible rfl | (simp; done) | split | with_reducible refine (foldl_inv _ _ _ _ (fun _ _ => ?_)).trans ?_ | (dsimp only; first | split | with_reducible refine (foldl_inv _ _ _ _ (fun _ _ => ?_)).trans ?_)))

@[simp] theorem State.takeEvent_frame3 (s : State) (p shot stamp : Nat) (drop ovr xtk loss fbs : Bool) :
    (s.takeEvent p shot stamp drop ovr xtk loss fbs).safe = s.safe ∧
    (s.takeEvent p shot stamp drop ovr xtk loss fbs).dm = s.dm ∧ (s.takeEvent p shot stamp drop ovr xtk loss fbs).cm = s.cm ∧
    (s.takeEvent p shot stamp drop ovr xtk loss fbs).cf = s.cf ∧ (s.takeEvent p shot stamp drop ovr xtk loss fbs).pw = s.pw ∧
    (s.takeEvent p shot stamp drop ovr xtk loss fbs).th = s.th := by
  and_intros <;> (unfold State.takeEvent; repeat' (first | with_reducible rfl | (simp; done) | split | with_reducible refine (foldl_inv _ _ _ _ (fun _ _ => ?_)).trans ?_ | (dsimp only; first | split | with_reducible refine (foldl_inv _ _ _ _ (fun _ _ => ?_)).trans ?_)))

@[simp] theorem State.takeToken_frame (s : State) (p shot : Nat) :
    (s.takeToken p shot).now = s.now ∧ (s.takeToken p shot).phase = s.phase ∧ (s.takeToken p shot).pending = s.pending ∧
    (s.takeToken p shot).nodeOfs = s.nodeOfs ∧ (s.takeToken p shot).freeCtr = s.freeCtr ∧ (s.takeToken p shot).tx = s.tx ∧
    (s.takeToken p shot).regs = s.regs ∧ (s.takeToken p shot).tl = s.tl := by
  and_intros <;> (unfold State.takeToken; repeat' (first | with_reducible rfl | (simp; done) | split | with_reducible refine (foldl_inv _ _ _ _ (fun _ _ => ?_)).trans ?_ | (dsimp only; first | split | with_reducible refine (foldl_inv _ _ _ _ (fun _ _ => ?_)).trans ?_)))

@[simp] theorem State.takeToken_frame2 (s : State) (p shot : Nat) :
    (s.takeToken p shot).sq = s.sq ∧ (s.takeToken p shot).ex = s.ex ∧ (s.takeToken p shot).sv = s.sv ∧
    (s.takeToken p shot).ax = s.ax ∧ (s.takeToken p shot).aq = s.aq ∧ (s.takeToken p shot).il = s.il ∧
    (s.takeToken p shot).ln = s.ln ∧ (s.takeToken p shot).fl = s.fl := by
  and_intros <;> (unfold State.takeToken; repeat' (first | with_reducible rfl | (simp; done) | split | with_reducible refine (foldl_inv _ _ _ _ (fun _ _ => ?_)).trans ?_ | (dsimp only; first | split | with_reducible refine (foldl_inv _ _ _ _ (fun _ _ => ?_)).trans ?_)))

@[simp] theorem State.takeToken_frame3 (s : State) (p shot : Nat) :
    (s.takeToken p shot).ev = s.ev ∧ (s.takeToken p shot).safe = s.safe ∧ (s.takeToken p shot).dm = s.dm ∧
    (s.takeToken p shot).cm = s.cm ∧ (s.takeToken p shot).cf = s.cf ∧ (s.takeToken p shot).pw = s.pw ∧
    (s.takeToken p shot).th = s.th := by
  and_intros <;> (unfold State.takeToken; repeat' (first | with_reducible rfl | (simp; done) | split | with_reducible refine (foldl_inv _ _ _ _ (fun _ _ => ?_)).trans ?_ | (dsimp only; first | split | with_reducible refine (foldl_inv _ _ _ _ (fun _ _ => ?_)).trans ?_)))

@[simp] theorem State.release_frame (s : State) (p : Nat) (i : Interval) :
    (s.release p i).now = s.now ∧ (s.release p i).phase = s.phase ∧ (s.release p i).pending = s.pending ∧
    (s.release p i).nodeOfs = s.nodeOfs ∧ (s.release p i).freeCtr = s.freeCtr ∧ (s.release p i).tx = s.tx ∧
    (s.release p i).tl = s.tl ∧ (s.release p i).sq = s.sq := by
  and_intros <;> (unfold State.release; repeat' (first | with_reducible rfl | (simp; done) | split | with_reducible refine (foldl_inv _ _ _ _ (fun _ _ => ?_)).trans ?_ | (dsimp only; first | split | with_reducible refine (foldl_inv _ _ _ _ (fun _ _ => ?_)).trans ?_)))

@[simp] theorem State.release_frame2 (s : State) (p : Nat) (i : Interval) :
    (s.release p i).sv = s.sv ∧ (s.release p i).ax = s.ax ∧ (s.release p i).aq = s.aq ∧ (s.release p i).il = s.il ∧
    (s.release p i).ln = s.ln ∧ (s.release p i).fl = s.fl ∧ (s.release p i).ev = s.ev ∧ (s.release p i).safe = s.safe := by
  and_intros <;> (unfold State.release; repeat' (first | with_reducible rfl | (simp; done) | split | with_reducible refine (foldl_inv _ _ _ _ (fun _ _ => ?_)).trans ?_ | (dsimp only; first | split | with_reducible refine (foldl_inv _ _ _ _ (fun _ _ => ?_)).trans ?_)))

@[simp] theorem State.release_frame3 (s : State) (p : Nat) (i : Interval) :
    (s.release p i).dm = s.dm ∧ (s.release p i).cm = s.cm ∧ (s.release p i).cf = s.cf ∧ (s.release p i).pw = s.pw ∧
    (s.release p i).th = s.th := by
  and_intros <;> (unfold State.release; repeat' (first | with_reducible rfl | (simp; done) | split | with_reducible refine (foldl_inv _ _ _ _ (fun _ _ => ?_)).trans ?_ | (dsimp only; first | split | with_reducible refine (foldl_inv _ _ _ _ (fun _ _ => ?_)).trans ?_)))

@[simp] theorem State.markSuspect_frame (s : State) :
    (s.markSuspect).now = s.now ∧ (s.markSuspect).phase = s.phase ∧ (s.markSuspect).pending = s.pending ∧
    (s.markSuspect).nodeOfs = s.nodeOfs ∧ (s.markSuspect).freeCtr = s.freeCtr ∧ (s.markSuspect).tx = s.tx ∧
    (s.markSuspect).regs = s.regs ∧ (s.markSuspect).tl = s.tl := by
  and_intros <;> (unfold State.markSuspect; repeat' (first | with_reducible rfl | (simp; done) | split | with_reducible refine (foldl_inv _ _ _ _ (fun _ _ => ?_)).trans ?_ | (dsimp only; first | split | with_reducible refine (foldl_inv _ _ _ _ (fun _ _ => ?_)).trans ?_)))

@[simp] theorem State.markSuspect_frame2 (s : State) :
    (s.markSuspect).sq = s.sq ∧ (s.markSuspect).ex = s.ex ∧ (s.markSuspect).sv = s.sv ∧ (s.markSuspect).ax = s.ax ∧
    (s.markSuspect).aq = s.aq ∧ (s.markSuspect).il = s.il ∧ (s.markSuspect).ln = s.ln ∧ (s.markSuspect).fl = s.fl := by
  and_intros <;> (unfold State.markSuspect; repeat' (first | with_reducible rfl | (simp; done) | split | with_reducible refine (foldl_inv _ _ _ _ (fun _ _ => ?_)).trans ?_ | (dsimp only; first | split | with_reducible refine (foldl_inv _ _ _ _ (fun _ _ => ?_)).trans ?_)))

@[simp] theorem State.markSuspect_frame3 (s : State) :
    (s.markSuspect).ev = s.ev ∧ (s.markSuspect).safe = s.safe ∧ (s.markSuspect).dm = s.dm ∧ (s.markSuspect).cm = s.cm ∧
    (s.markSuspect).cf = s.cf ∧ (s.markSuspect).pw = s.pw ∧ (s.markSuspect).th = s.th := by
  and_intros <;> (unfold State.markSuspect; repeat' (first | with_reducible rfl | (simp; done) | split | with_reducible refine (foldl_inv _ _ _ _ (fun _ _ => ?_)).trans ?_ | (dsimp only; first | split | with_reducible refine (foldl_inv _ _ _ _ (fun _ _ => ?_)).trans ?_)))

@[simp] theorem State.fdPass_frame (s : State) (u : Nat) :
    (s.fdPass u).now = s.now ∧ (s.fdPass u).phase = s.phase ∧ (s.fdPass u).pending = s.pending ∧
    (s.fdPass u).nodeOfs = s.nodeOfs ∧ (s.fdPass u).freeCtr = s.freeCtr ∧ (s.fdPass u).tx = s.tx ∧
    (s.fdPass u).regs = s.regs ∧ (s.fdPass u).tl = s.tl := by
  and_intros <;> (unfold State.fdPass; repeat' (first | with_reducible rfl | (simp; done) | split | with_reducible refine (foldl_inv _ _ _ _ (fun _ _ => ?_)).trans ?_ | (dsimp only; first | split | with_reducible refine (foldl_inv _ _ _ _ (fun _ _ => ?_)).trans ?_)))

@[simp] theorem State.fdPass_frame2 (s : State) (u : Nat) :
    (s.fdPass u).sq = s.sq ∧ (s.fdPass u).ex = s.ex ∧ (s.fdPass u).sv = s.sv ∧ (s.fdPass u).ax = s.ax ∧
    (s.fdPass u).aq = s.aq ∧ (s.fdPass u).il = s.il ∧ (s.fdPass u).ln = s.ln ∧ (s.fdPass u).fl = s.fl := by
  and_intros <;> (unfold State.fdPass; repeat' (first | with_reducible rfl | (simp; done) | split | with_reducible refine (foldl_inv _ _ _ _ (fun _ _ => ?_)).trans ?_ | (dsimp only; first | split | with_reducible refine (foldl_inv _ _ _ _ (fun _ _ => ?_)).trans ?_)))

@[simp] theorem State.fdPass_frame3 (s : State) (u : Nat) :
    (s.fdPass u).ev = s.ev ∧ (s.fdPass u).safe = s.safe ∧ (s.fdPass u).dm = s.dm ∧ (s.fdPass u).cm = s.cm ∧
    (s.fdPass u).cf = s.cf ∧ (s.fdPass u).pw = s.pw ∧ (s.fdPass u).th = s.th := by
  and_intros <;> (unfold State.fdPass; repeat' (first | with_reducible rfl | (simp; done) | split | with_reducible refine (foldl_inv _ _ _ _ (fun _ _ => ?_)).trans ?_ | (dsimp only; first | split | with_reducible refine (foldl_inv _ _ _ _ (fun _ _ => ?_)).trans ?_)))

@[simp] theorem State.fdCntClr_frame (s : State) :
    (s.fdCntClr).now = s.now ∧ (s.fdCntClr).phase = s.phase ∧ (s.fdCntClr).pending = s.pending ∧
    (s.fdCntClr).nodeOfs = s.nodeOfs ∧ (s.fdCntClr).freeCtr = s.freeCtr ∧ (s.fdCntClr).tx = s.tx ∧ (s.fdCntClr).tl = s.tl ∧
    (s.fdCntClr).sq = s.sq := by
  and_intros <;> (unfold State.fdCntClr; repeat' (first | with_reducible rfl | (simp; done) | split | with_reducible refine (foldl_inv _ _ _ _ (fun _ _ => ?_)).trans ?_ | (dsimp only; first | split | with_reducible refine (foldl_inv _ _ _ _ (fun _ _ => ?_)).trans ?_)))

@[simp] theorem State.fdCntClr_frame2 (s : State) :
    (s.fdCntClr).fd = s.fd ∧ (s.fdCntClr).ex = s.ex ∧ (s.fdCntClr).sv = s.sv ∧ (s.fdCntClr).ax = s.ax ∧
    (s.fdCntClr).aq = s.aq ∧ (s.fdCntClr).il = s.il ∧ (s.fdCntClr).ln = s.ln ∧ (s.fdCntClr).fl = s.fl := by
  and_intros <;> (unfold State.fdCntClr; repeat' (first | with_reducible rfl | (simp; done) | split | with_reducible refine (foldl_inv _ _ _ _ (fun _ _ => ?_)).trans ?_ | (dsimp only; first | split | with_reducible refine (foldl_inv _ _ _ _ (fun _ _ => ?_)).trans ?_)))

@[simp] theorem State.fdCntClr_frame3 (s : State) :
    (s.fdCntClr).ev = s.ev ∧ (s.fdCntClr).safe = s.safe ∧ (s.fdCntClr).dm = s.dm ∧ (s.fdCntClr).cm = s.cm ∧
    (s.fdCntClr).cf = s.cf ∧ (s.fdCntClr).pw = s.pw ∧ (s.fdCntClr).th = s.th := by
  and_intros <;> (unfold State.fdCntClr; repeat' (first | with_reducible rfl | (simp; done) | split | with_reducible refine (foldl_inv _ _ _ _ (fun _ _ => ?_)).trans ?_ | (dsimp only; first | split | with_reducible refine (foldl_inv _ _ _ _ (fun _ _ => ?_)).trans ?_)))

@[simp] theorem State.setFdPix_parts (s : State) (p : Nat) (x : FdPixel) :
    (s.setFdPix p x).fd.mem = s.fd.mem := by
  unfold State.setFdPix; repeat' (first | with_reducible rfl | (simp; done) | split | with_reducible refine (State.regs_setA_foldl _ _ _ (fun _ _ => ?_)).trans ?_ | with_reducible refine (State.regs_setB_foldl _ _ _ (fun _ _ => ?_)).trans ?_ | with_reducible refine (State.regs_one_foldl _ _ _ (fun _ _ => ?_)).trans ?_ | with_reducible refine (State.regs_rsvd_foldl _ _ _ (fun _ _ => ?_)).trans ?_ | with_reducible refine (State.regs_waiting_foldl _ _ _ (fun _ _ => ?_)).trans ?_ | with_reducible refine (State.regs_stale_foldl _ _ _ (fun _ _ => ?_)).trans ?_ | with_reducible refine (State.regs_posted_foldl _ _ _ (fun _ _ => ?_)).trans ?_ | with_reducible refine (State.fd_mem_foldl _ _ _ (fun _ _ => ?_)).trans ?_ | with_reducible refine (State.dm_sram_foldl _ _ _ (fun _ _ => ?_)).trans ?_ | with_reducible refine (State.sq_frameNo_foldl _ _ _ (fun _ _ => ?_)).trans ?_ | with_reducible refine (State.sq_inScan_foldl _ _ _ (fun _ _ => ?_)).trans ?_ | with_reducible refine (State.sq_nextBoundary_foldl _ _ _ (fun _ _ => ?_)).trans ?_ | with_reducible refine (State.pw_gate_foldl _ _ _ (fun _ _ => ?_)).trans ?_ | (dsimp only; first | split | with_reducible refine (State.regs_setA_foldl _ _ _ (fun _ _ => ?_)).trans ?_ | with_reducible refine (State.regs_setB_foldl _ _ _ (fun _ _ => ?_)).trans ?_ | with_reducible refine (State.regs_one_foldl _ _ _ (fun _ _ => ?_)).trans ?_ | with_reducible refine (State.regs_rsvd_foldl _ _ _ (fun _ _ => ?_)).trans ?_ | with_reducible refine (State.regs_waiting_foldl _ _ _ (fun _ _ => ?_)).trans ?_ | with_reducible refine (State.regs_stale_foldl _ _ _ (fun _ _ => ?_)).trans ?_ | with_reducible refine (State.regs_posted_foldl _ _ _ (fun _ _ => ?_)).trans ?_ | with_reducible refine (State.fd_mem_foldl _ _ _ (fun _ _ => ?_)).trans ?_ | with_reducible refine (State.dm_sram_foldl _ _ _ (fun _ _ => ?_)).trans ?_ | with_reducible refine (State.sq_frameNo_foldl _ _ _ (fun _ _ => ?_)).trans ?_ | with_reducible refine (State.sq_inScan_foldl _ _ _ (fun _ _ => ?_)).trans ?_ | with_reducible refine (State.sq_nextBoundary_foldl _ _ _ (fun _ _ => ?_)).trans ?_ | with_reducible refine (State.pw_gate_foldl _ _ _ (fun _ _ => ?_)).trans ?_))

@[simp] theorem State.openInterval_parts (s : State) (p gen buf : Nat) :
    (s.openInterval p gen buf).fd.mem = s.fd.mem := by
  unfold State.openInterval; repeat' (first | with_reducible rfl | (simp; done) | split | with_reducible refine (State.regs_setA_foldl _ _ _ (fun _ _ => ?_)).trans ?_ | with_reducible refine (State.regs_setB_foldl _ _ _ (fun _ _ => ?_)).trans ?_ | with_reducible refine (State.regs_one_foldl _ _ _ (fun _ _ => ?_)).trans ?_ | with_reducible refine (State.regs_rsvd_foldl _ _ _ (fun _ _ => ?_)).trans ?_ | with_reducible refine (State.regs_waiting_foldl _ _ _ (fun _ _ => ?_)).trans ?_ | with_reducible refine (State.regs_stale_foldl _ _ _ (fun _ _ => ?_)).trans ?_ | with_reducible refine (State.regs_posted_foldl _ _ _ (fun _ _ => ?_)).trans ?_ | with_reducible refine (State.fd_mem_foldl _ _ _ (fun _ _ => ?_)).trans ?_ | with_reducible refine (State.dm_sram_foldl _ _ _ (fun _ _ => ?_)).trans ?_ | with_reducible refine (State.sq_frameNo_foldl _ _ _ (fun _ _ => ?_)).trans ?_ | with_reducible refine (State.sq_inScan_foldl _ _ _ (fun _ _ => ?_)).trans ?_ | with_reducible refine (State.sq_nextBoundary_foldl _ _ _ (fun _ _ => ?_)).trans ?_ | with_reducible refine (State.pw_gate_foldl _ _ _ (fun _ _ => ?_)).trans ?_ | (dsimp only; first | split | with_reducible refine (State.regs_setA_foldl _ _ _ (fun _ _ => ?_)).trans ?_ | with_reducible refine (State.regs_setB_foldl _ _ _ (fun _ _ => ?_)).trans ?_ | with_reducible refine (State.regs_one_foldl _ _ _ (fun _ _ => ?_)).trans ?_ | with_reducible refine (State.regs_rsvd_foldl _ _ _ (fun _ _ => ?_)).trans ?_ | with_reducible refine (State.regs_waiting_foldl _ _ _ (fun _ _ => ?_)).trans ?_ | with_reducible refine (State.regs_stale_foldl _ _ _ (fun _ _ => ?_)).trans ?_ | with_reducible refine (State.regs_posted_foldl _ _ _ (fun _ _ => ?_)).trans ?_ | with_reducible refine (State.fd_mem_foldl _ _ _ (fun _ _ => ?_)).trans ?_ | with_reducible refine (State.dm_sram_foldl _ _ _ (fun _ _ => ?_)).trans ?_ | with_reducible refine (State.sq_frameNo_foldl _ _ _ (fun _ _ => ?_)).trans ?_ | with_reducible refine (State.sq_inScan_foldl _ _ _ (fun _ _ => ?_)).trans ?_ | with_reducible refine (State.sq_nextBoundary_foldl _ _ _ (fun _ _ => ?_)).trans ?_ | with_reducible refine (State.pw_gate_foldl _ _ _ (fun _ _ => ?_)).trans ?_))

@[simp] theorem State.takeDesc_parts (s : State) (p : Nat) (written : Bool) :
    (s.takeDesc p written).regs.setA = s.regs.setA ∧ (s.takeDesc p written).regs.setB = s.regs.setB ∧
    (s.takeDesc p written).regs.one = s.regs.one ∧ (s.takeDesc p written).regs.rsvd = s.regs.rsvd ∧
    (s.takeDesc p written).regs.waiting = s.regs.waiting ∧ (s.takeDesc p written).regs.stale = s.regs.stale ∧
    (s.takeDesc p written).regs.posted = s.regs.posted ∧ (s.takeDesc p written).fd.mem = s.fd.mem := by
  and_intros <;> (unfold State.takeDesc; repeat' (first | with_reducible rfl | (simp; done) | split | with_reducible refine (State.regs_setA_foldl _ _ _ (fun _ _ => ?_)).trans ?_ | with_reducible refine (State.regs_setB_foldl _ _ _ (fun _ _ => ?_)).trans ?_ | with_reducible refine (State.regs_one_foldl _ _ _ (fun _ _ => ?_)).trans ?_ | with_reducible refine (State.regs_rsvd_foldl _ _ _ (fun _ _ => ?_)).trans ?_ | with_reducible refine (State.regs_waiting_foldl _ _ _ (fun _ _ => ?_)).trans ?_ | with_reducible refine (State.regs_stale_foldl _ _ _ (fun _ _ => ?_)).trans ?_ | with_reducible refine (State.regs_posted_foldl _ _ _ (fun _ _ => ?_)).trans ?_ | with_reducible refine (State.fd_mem_foldl _ _ _ (fun _ _ => ?_)).trans ?_ | with_reducible refine (State.dm_sram_foldl _ _ _ (fun _ _ => ?_)).trans ?_ | with_reducible refine (State.sq_frameNo_foldl _ _ _ (fun _ _ => ?_)).trans ?_ | with_reducible refine (State.sq_inScan_foldl _ _ _ (fun _ _ => ?_)).trans ?_ | with_reducible refine (State.sq_nextBoundary_foldl _ _ _ (fun _ _ => ?_)).trans ?_ | with_reducible refine (State.pw_gate_foldl _ _ _ (fun _ _ => ?_)).trans ?_ | (dsimp only; first | split | with_reducible refine (State.regs_setA_foldl _ _ _ (fun _ _ => ?_)).trans ?_ | with_reducible refine (State.regs_setB_foldl _ _ _ (fun _ _ => ?_)).trans ?_ | with_reducible refine (State.regs_one_foldl _ _ _ (fun _ _ => ?_)).trans ?_ | with_reducible refine (State.regs_rsvd_foldl _ _ _ (fun _ _ => ?_)).trans ?_ | with_reducible refine (State.regs_waiting_foldl _ _ _ (fun _ _ => ?_)).trans ?_ | with_reducible refine (State.regs_stale_foldl _ _ _ (fun _ _ => ?_)).trans ?_ | with_reducible refine (State.regs_posted_foldl _ _ _ (fun _ _ => ?_)).trans ?_ | with_reducible refine (State.fd_mem_foldl _ _ _ (fun _ _ => ?_)).trans ?_ | with_reducible refine (State.dm_sram_foldl _ _ _ (fun _ _ => ?_)).trans ?_ | with_reducible refine (State.sq_frameNo_foldl _ _ _ (fun _ _ => ?_)).trans ?_ | with_reducible refine (State.sq_inScan_foldl _ _ _ (fun _ _ => ?_)).trans ?_ | with_reducible refine (State.sq_nextBoundary_foldl _ _ _ (fun _ _ => ?_)).trans ?_ | with_reducible refine (State.pw_gate_foldl _ _ _ (fun _ _ => ?_)).trans ?_)))

@[simp] theorem State.applyPixel_parts (s : State) (p : Nat) :
    (s.applyPixel p).regs.one = s.regs.one ∧ (s.applyPixel p).regs.rsvd = s.regs.rsvd ∧
    (s.applyPixel p).regs.posted = s.regs.posted ∧ (s.applyPixel p).sq.frameNo = s.sq.frameNo ∧
    (s.applyPixel p).sq.inScan = s.sq.inScan ∧ (s.applyPixel p).sq.nextBoundary = s.sq.nextBoundary := by
  and_intros <;> (unfold State.applyPixel; repeat' (first | with_reducible rfl | (simp; done) | split | with_reducible refine (State.regs_setA_foldl _ _ _ (fun _ _ => ?_)).trans ?_ | with_reducible refine (State.regs_setB_foldl _ _ _ (fun _ _ => ?_)).trans ?_ | with_reducible refine (State.regs_one_foldl _ _ _ (fun _ _ => ?_)).trans ?_ | with_reducible refine (State.regs_rsvd_foldl _ _ _ (fun _ _ => ?_)).trans ?_ | with_reducible refine (State.regs_waiting_foldl _ _ _ (fun _ _ => ?_)).trans ?_ | with_reducible refine (State.regs_stale_foldl _ _ _ (fun _ _ => ?_)).trans ?_ | with_reducible refine (State.regs_posted_foldl _ _ _ (fun _ _ => ?_)).trans ?_ | with_reducible refine (State.fd_mem_foldl _ _ _ (fun _ _ => ?_)).trans ?_ | with_reducible refine (State.dm_sram_foldl _ _ _ (fun _ _ => ?_)).trans ?_ | with_reducible refine (State.sq_frameNo_foldl _ _ _ (fun _ _ => ?_)).trans ?_ | with_reducible refine (State.sq_inScan_foldl _ _ _ (fun _ _ => ?_)).trans ?_ | with_reducible refine (State.sq_nextBoundary_foldl _ _ _ (fun _ _ => ?_)).trans ?_ | with_reducible refine (State.pw_gate_foldl _ _ _ (fun _ _ => ?_)).trans ?_ | (dsimp only; first | split | with_reducible refine (State.regs_setA_foldl _ _ _ (fun _ _ => ?_)).trans ?_ | with_reducible refine (State.regs_setB_foldl _ _ _ (fun _ _ => ?_)).trans ?_ | with_reducible refine (State.regs_one_foldl _ _ _ (fun _ _ => ?_)).trans ?_ | with_reducible refine (State.regs_rsvd_foldl _ _ _ (fun _ _ => ?_)).trans ?_ | with_reducible refine (State.regs_waiting_foldl _ _ _ (fun _ _ => ?_)).trans ?_ | with_reducible refine (State.regs_stale_foldl _ _ _ (fun _ _ => ?_)).trans ?_ | with_reducible refine (State.regs_posted_foldl _ _ _ (fun _ _ => ?_)).trans ?_ | with_reducible refine (State.fd_mem_foldl _ _ _ (fun _ _ => ?_)).trans ?_ | with_reducible refine (State.dm_sram_foldl _ _ _ (fun _ _ => ?_)).trans ?_ | with_reducible refine (State.sq_frameNo_foldl _ _ _ (fun _ _ => ?_)).trans ?_ | with_reducible refine (State.sq_inScan_foldl _ _ _ (fun _ _ => ?_)).trans ?_ | with_reducible refine (State.sq_nextBoundary_foldl _ _ _ (fun _ _ => ?_)).trans ?_ | with_reducible refine (State.pw_gate_foldl _ _ _ (fun _ _ => ?_)).trans ?_)))

@[simp] theorem State.pixelBoundary_parts (s : State) (p : Nat) :
    (s.pixelBoundary p).regs.one = s.regs.one ∧ (s.pixelBoundary p).regs.rsvd = s.regs.rsvd ∧
    (s.pixelBoundary p).regs.posted = s.regs.posted ∧ (s.pixelBoundary p).fd.mem = s.fd.mem ∧
    (s.pixelBoundary p).sq.frameNo = s.sq.frameNo ∧ (s.pixelBoundary p).sq.inScan = s.sq.inScan ∧
    (s.pixelBoundary p).sq.nextBoundary = s.sq.nextBoundary := by
  and_intros <;> (unfold State.pixelBoundary; repeat' (first | with_reducible rfl | (simp; done) | split | with_reducible refine (State.regs_setA_foldl _ _ _ (fun _ _ => ?_)).trans ?_ | with_reducible refine (State.regs_setB_foldl _ _ _ (fun _ _ => ?_)).trans ?_ | with_reducible refine (State.regs_one_foldl _ _ _ (fun _ _ => ?_)).trans ?_ | with_reducible refine (State.regs_rsvd_foldl _ _ _ (fun _ _ => ?_)).trans ?_ | with_reducible refine (State.regs_waiting_foldl _ _ _ (fun _ _ => ?_)).trans ?_ | with_reducible refine (State.regs_stale_foldl _ _ _ (fun _ _ => ?_)).trans ?_ | with_reducible refine (State.regs_posted_foldl _ _ _ (fun _ _ => ?_)).trans ?_ | with_reducible refine (State.fd_mem_foldl _ _ _ (fun _ _ => ?_)).trans ?_ | with_reducible refine (State.dm_sram_foldl _ _ _ (fun _ _ => ?_)).trans ?_ | with_reducible refine (State.sq_frameNo_foldl _ _ _ (fun _ _ => ?_)).trans ?_ | with_reducible refine (State.sq_inScan_foldl _ _ _ (fun _ _ => ?_)).trans ?_ | with_reducible refine (State.sq_nextBoundary_foldl _ _ _ (fun _ _ => ?_)).trans ?_ | with_reducible refine (State.pw_gate_foldl _ _ _ (fun _ _ => ?_)).trans ?_ | (dsimp only; first | split | with_reducible refine (State.regs_setA_foldl _ _ _ (fun _ _ => ?_)).trans ?_ | with_reducible refine (State.regs_setB_foldl _ _ _ (fun _ _ => ?_)).trans ?_ | with_reducible refine (State.regs_one_foldl _ _ _ (fun _ _ => ?_)).trans ?_ | with_reducible refine (State.regs_rsvd_foldl _ _ _ (fun _ _ => ?_)).trans ?_ | with_reducible refine (State.regs_waiting_foldl _ _ _ (fun _ _ => ?_)).trans ?_ | with_reducible refine (State.regs_stale_foldl _ _ _ (fun _ _ => ?_)).trans ?_ | with_reducible refine (State.regs_posted_foldl _ _ _ (fun _ _ => ?_)).trans ?_ | with_reducible refine (State.fd_mem_foldl _ _ _ (fun _ _ => ?_)).trans ?_ | with_reducible refine (State.dm_sram_foldl _ _ _ (fun _ _ => ?_)).trans ?_ | with_reducible refine (State.sq_frameNo_foldl _ _ _ (fun _ _ => ?_)).trans ?_ | with_reducible refine (State.sq_inScan_foldl _ _ _ (fun _ _ => ?_)).trans ?_ | with_reducible refine (State.sq_nextBoundary_foldl _ _ _ (fun _ _ => ?_)).trans ?_ | with_reducible refine (State.pw_gate_foldl _ _ _ (fun _ _ => ?_)).trans ?_)))

@[simp] theorem State.closeInterval_parts (s : State) (p : Nat) (forced again : Bool) :
    (s.closeInterval p forced again).regs.one = s.regs.one ∧ (s.closeInterval p forced again).regs.rsvd = s.regs.rsvd ∧
    (s.closeInterval p forced again).regs.posted = s.regs.posted ∧ (s.closeInterval p forced again).fd.mem = s.fd.mem ∧
    (s.closeInterval p forced again).sq.frameNo = s.sq.frameNo ∧ (s.closeInterval p forced again).sq.inScan = s.sq.inScan ∧
    (s.closeInterval p forced again).sq.nextBoundary = s.sq.nextBoundary := by
  and_intros <;> (unfold State.closeInterval; repeat' (first | with_reducible rfl | (simp; done) | split | with_reducible refine (State.regs_setA_foldl _ _ _ (fun _ _ => ?_)).trans ?_ | with_reducible refine (State.regs_setB_foldl _ _ _ (fun _ _ => ?_)).trans ?_ | with_reducible refine (State.regs_one_foldl _ _ _ (fun _ _ => ?_)).trans ?_ | with_reducible refine (State.regs_rsvd_foldl _ _ _ (fun _ _ => ?_)).trans ?_ | with_reducible refine (State.regs_waiting_foldl _ _ _ (fun _ _ => ?_)).trans ?_ | with_reducible refine (State.regs_stale_foldl _ _ _ (fun _ _ => ?_)).trans ?_ | with_reducible refine (State.regs_posted_foldl _ _ _ (fun _ _ => ?_)).trans ?_ | with_reducible refine (State.fd_mem_foldl _ _ _ (fun _ _ => ?_)).trans ?_ | with_reducible refine (State.dm_sram_foldl _ _ _ (fun _ _ => ?_)).trans ?_ | with_reducible refine (State.sq_frameNo_foldl _ _ _ (fun _ _ => ?_)).trans ?_ | with_reducible refine (State.sq_inScan_foldl _ _ _ (fun _ _ => ?_)).trans ?_ | with_reducible refine (State.sq_nextBoundary_foldl _ _ _ (fun _ _ => ?_)).trans ?_ | with_reducible refine (State.pw_gate_foldl _ _ _ (fun _ _ => ?_)).trans ?_ | (dsimp only; first | split | with_reducible refine (State.regs_setA_foldl _ _ _ (fun _ _ => ?_)).trans ?_ | with_reducible refine (State.regs_setB_foldl _ _ _ (fun _ _ => ?_)).trans ?_ | with_reducible refine (State.regs_one_foldl _ _ _ (fun _ _ => ?_)).trans ?_ | with_reducible refine (State.regs_rsvd_foldl _ _ _ (fun _ _ => ?_)).trans ?_ | with_reducible refine (State.regs_waiting_foldl _ _ _ (fun _ _ => ?_)).trans ?_ | with_reducible refine (State.regs_stale_foldl _ _ _ (fun _ _ => ?_)).trans ?_ | with_reducible refine (State.regs_posted_foldl _ _ _ (fun _ _ => ?_)).trans ?_ | with_reducible refine (State.fd_mem_foldl _ _ _ (fun _ _ => ?_)).trans ?_ | with_reducible refine (State.dm_sram_foldl _ _ _ (fun _ _ => ?_)).trans ?_ | with_reducible refine (State.sq_frameNo_foldl _ _ _ (fun _ _ => ?_)).trans ?_ | with_reducible refine (State.sq_inScan_foldl _ _ _ (fun _ _ => ?_)).trans ?_ | with_reducible refine (State.sq_nextBoundary_foldl _ _ _ (fun _ _ => ?_)).trans ?_ | with_reducible refine (State.pw_gate_foldl _ _ _ (fun _ _ => ?_)).trans ?_)))

@[simp] theorem State.intervalEnd_parts (s : State) (p : Nat) :
    (s.intervalEnd p).regs.one = s.regs.one ∧ (s.intervalEnd p).regs.rsvd = s.regs.rsvd ∧
    (s.intervalEnd p).regs.posted = s.regs.posted ∧ (s.intervalEnd p).fd.mem = s.fd.mem ∧
    (s.intervalEnd p).sq.frameNo = s.sq.frameNo ∧ (s.intervalEnd p).sq.inScan = s.sq.inScan ∧
    (s.intervalEnd p).sq.nextBoundary = s.sq.nextBoundary := by
  and_intros <;> (unfold State.intervalEnd; repeat' (first | with_reducible rfl | (simp; done) | split | with_reducible refine (State.regs_setA_foldl _ _ _ (fun _ _ => ?_)).trans ?_ | with_reducible refine (State.regs_setB_foldl _ _ _ (fun _ _ => ?_)).trans ?_ | with_reducible refine (State.regs_one_foldl _ _ _ (fun _ _ => ?_)).trans ?_ | with_reducible refine (State.regs_rsvd_foldl _ _ _ (fun _ _ => ?_)).trans ?_ | with_reducible refine (State.regs_waiting_foldl _ _ _ (fun _ _ => ?_)).trans ?_ | with_reducible refine (State.regs_stale_foldl _ _ _ (fun _ _ => ?_)).trans ?_ | with_reducible refine (State.regs_posted_foldl _ _ _ (fun _ _ => ?_)).trans ?_ | with_reducible refine (State.fd_mem_foldl _ _ _ (fun _ _ => ?_)).trans ?_ | with_reducible refine (State.dm_sram_foldl _ _ _ (fun _ _ => ?_)).trans ?_ | with_reducible refine (State.sq_frameNo_foldl _ _ _ (fun _ _ => ?_)).trans ?_ | with_reducible refine (State.sq_inScan_foldl _ _ _ (fun _ _ => ?_)).trans ?_ | with_reducible refine (State.sq_nextBoundary_foldl _ _ _ (fun _ _ => ?_)).trans ?_ | with_reducible refine (State.pw_gate_foldl _ _ _ (fun _ _ => ?_)).trans ?_ | (dsimp only; first | split | with_reducible refine (State.regs_setA_foldl _ _ _ (fun _ _ => ?_)).trans ?_ | with_reducible refine (State.regs_setB_foldl _ _ _ (fun _ _ => ?_)).trans ?_ | with_reducible refine (State.regs_one_foldl _ _ _ (fun _ _ => ?_)).trans ?_ | with_reducible refine (State.regs_rsvd_foldl _ _ _ (fun _ _ => ?_)).trans ?_ | with_reducible refine (State.regs_waiting_foldl _ _ _ (fun _ _ => ?_)).trans ?_ | with_reducible refine (State.regs_stale_foldl _ _ _ (fun _ _ => ?_)).trans ?_ | with_reducible refine (State.regs_posted_foldl _ _ _ (fun _ _ => ?_)).trans ?_ | with_reducible refine (State.fd_mem_foldl _ _ _ (fun _ _ => ?_)).trans ?_ | with_reducible refine (State.dm_sram_foldl _ _ _ (fun _ _ => ?_)).trans ?_ | with_reducible refine (State.sq_frameNo_foldl _ _ _ (fun _ _ => ?_)).trans ?_ | with_reducible refine (State.sq_inScan_foldl _ _ _ (fun _ _ => ?_)).trans ?_ | with_reducible refine (State.sq_nextBoundary_foldl _ _ _ (fun _ _ => ?_)).trans ?_ | with_reducible refine (State.pw_gate_foldl _ _ _ (fun _ _ => ?_)).trans ?_)))

@[simp] theorem State.idlePixel_parts (s : State) (p : Nat) :
    (s.idlePixel p).regs.one = s.regs.one ∧ (s.idlePixel p).regs.rsvd = s.regs.rsvd ∧
    (s.idlePixel p).regs.posted = s.regs.posted ∧ (s.idlePixel p).fd.mem = s.fd.mem ∧
    (s.idlePixel p).sq.frameNo = s.sq.frameNo ∧ (s.idlePixel p).sq.inScan = s.sq.inScan ∧
    (s.idlePixel p).sq.nextBoundary = s.sq.nextBoundary := by
  and_intros <;> (unfold State.idlePixel; repeat' (first | with_reducible rfl | (simp; done) | split | with_reducible refine (State.regs_setA_foldl _ _ _ (fun _ _ => ?_)).trans ?_ | with_reducible refine (State.regs_setB_foldl _ _ _ (fun _ _ => ?_)).trans ?_ | with_reducible refine (State.regs_one_foldl _ _ _ (fun _ _ => ?_)).trans ?_ | with_reducible refine (State.regs_rsvd_foldl _ _ _ (fun _ _ => ?_)).trans ?_ | with_reducible refine (State.regs_waiting_foldl _ _ _ (fun _ _ => ?_)).trans ?_ | with_reducible refine (State.regs_stale_foldl _ _ _ (fun _ _ => ?_)).trans ?_ | with_reducible refine (State.regs_posted_foldl _ _ _ (fun _ _ => ?_)).trans ?_ | with_reducible refine (State.fd_mem_foldl _ _ _ (fun _ _ => ?_)).trans ?_ | with_reducible refine (State.dm_sram_foldl _ _ _ (fun _ _ => ?_)).trans ?_ | with_reducible refine (State.sq_frameNo_foldl _ _ _ (fun _ _ => ?_)).trans ?_ | with_reducible refine (State.sq_inScan_foldl _ _ _ (fun _ _ => ?_)).trans ?_ | with_reducible refine (State.sq_nextBoundary_foldl _ _ _ (fun _ _ => ?_)).trans ?_ | with_reducible refine (State.pw_gate_foldl _ _ _ (fun _ _ => ?_)).trans ?_ | (dsimp only; first | split | with_reducible refine (State.regs_setA_foldl _ _ _ (fun _ _ => ?_)).trans ?_ | with_reducible refine (State.regs_setB_foldl _ _ _ (fun _ _ => ?_)).trans ?_ | with_reducible refine (State.regs_one_foldl _ _ _ (fun _ _ => ?_)).trans ?_ | with_reducible refine (State.regs_rsvd_foldl _ _ _ (fun _ _ => ?_)).trans ?_ | with_reducible refine (State.regs_waiting_foldl _ _ _ (fun _ _ => ?_)).trans ?_ | with_reducible refine (State.regs_stale_foldl _ _ _ (fun _ _ => ?_)).trans ?_ | with_reducible refine (State.regs_posted_foldl _ _ _ (fun _ _ => ?_)).trans ?_ | with_reducible refine (State.fd_mem_foldl _ _ _ (fun _ _ => ?_)).trans ?_ | with_reducible refine (State.dm_sram_foldl _ _ _ (fun _ _ => ?_)).trans ?_ | with_reducible refine (State.sq_frameNo_foldl _ _ _ (fun _ _ => ?_)).trans ?_ | with_reducible refine (State.sq_inScan_foldl _ _ _ (fun _ _ => ?_)).trans ?_ | with_reducible refine (State.sq_nextBoundary_foldl _ _ _ (fun _ _ => ?_)).trans ?_ | with_reducible refine (State.pw_gate_foldl _ _ _ (fun _ _ => ?_)).trans ?_)))

@[simp] theorem State.idleWrites_parts (s : State) :
    (s.idleWrites).regs.one = s.regs.one ∧ (s.idleWrites).regs.rsvd = s.regs.rsvd ∧
    (s.idleWrites).regs.posted = s.regs.posted ∧ (s.idleWrites).fd.mem = s.fd.mem ∧ (s.idleWrites).sq.frameNo = s.sq.frameNo ∧
    (s.idleWrites).sq.inScan = s.sq.inScan ∧ (s.idleWrites).sq.nextBoundary = s.sq.nextBoundary := by
  and_intros <;> (unfold State.idleWrites; repeat' (first | with_reducible rfl | (simp; done) | split | with_reducible refine (State.regs_setA_foldl _ _ _ (fun _ _ => ?_)).trans ?_ | with_reducible refine (State.regs_setB_foldl _ _ _ (fun _ _ => ?_)).trans ?_ | with_reducible refine (State.regs_one_foldl _ _ _ (fun _ _ => ?_)).trans ?_ | with_reducible refine (State.regs_rsvd_foldl _ _ _ (fun _ _ => ?_)).trans ?_ | with_reducible refine (State.regs_waiting_foldl _ _ _ (fun _ _ => ?_)).trans ?_ | with_reducible refine (State.regs_stale_foldl _ _ _ (fun _ _ => ?_)).trans ?_ | with_reducible refine (State.regs_posted_foldl _ _ _ (fun _ _ => ?_)).trans ?_ | with_reducible refine (State.fd_mem_foldl _ _ _ (fun _ _ => ?_)).trans ?_ | with_reducible refine (State.dm_sram_foldl _ _ _ (fun _ _ => ?_)).trans ?_ | with_reducible refine (State.sq_frameNo_foldl _ _ _ (fun _ _ => ?_)).trans ?_ | with_reducible refine (State.sq_inScan_foldl _ _ _ (fun _ _ => ?_)).trans ?_ | with_reducible refine (State.sq_nextBoundary_foldl _ _ _ (fun _ _ => ?_)).trans ?_ | with_reducible refine (State.pw_gate_foldl _ _ _ (fun _ _ => ?_)).trans ?_ | (dsimp only; first | split | with_reducible refine (State.regs_setA_foldl _ _ _ (fun _ _ => ?_)).trans ?_ | with_reducible refine (State.regs_setB_foldl _ _ _ (fun _ _ => ?_)).trans ?_ | with_reducible refine (State.regs_one_foldl _ _ _ (fun _ _ => ?_)).trans ?_ | with_reducible refine (State.regs_rsvd_foldl _ _ _ (fun _ _ => ?_)).trans ?_ | with_reducible refine (State.regs_waiting_foldl _ _ _ (fun _ _ => ?_)).trans ?_ | with_reducible refine (State.regs_stale_foldl _ _ _ (fun _ _ => ?_)).trans ?_ | with_reducible refine (State.regs_posted_foldl _ _ _ (fun _ _ => ?_)).trans ?_ | with_reducible refine (State.fd_mem_foldl _ _ _ (fun _ _ => ?_)).trans ?_ | with_reducible refine (State.dm_sram_foldl _ _ _ (fun _ _ => ?_)).trans ?_ | with_reducible refine (State.sq_frameNo_foldl _ _ _ (fun _ _ => ?_)).trans ?_ | with_reducible refine (State.sq_inScan_foldl _ _ _ (fun _ _ => ?_)).trans ?_ | with_reducible refine (State.sq_nextBoundary_foldl _ _ _ (fun _ _ => ?_)).trans ?_ | with_reducible refine (State.pw_gate_foldl _ _ _ (fun _ _ => ?_)).trans ?_)))

@[simp] theorem State.countShot_parts (s : State) (seq p : Nat) :
    (s.countShot seq p).1.regs.setA = s.regs.setA ∧ (s.countShot seq p).1.regs.setB = s.regs.setB ∧
    (s.countShot seq p).1.regs.one = s.regs.one ∧ (s.countShot seq p).1.regs.rsvd = s.regs.rsvd ∧
    (s.countShot seq p).1.regs.waiting = s.regs.waiting ∧ (s.countShot seq p).1.regs.stale = s.regs.stale ∧
    (s.countShot seq p).1.regs.posted = s.regs.posted ∧ (s.countShot seq p).1.fd.mem = s.fd.mem := by
  and_intros <;> (unfold State.countShot; repeat' (first | with_reducible rfl | (simp; done) | split | with_reducible refine (State.regs_setA_foldl _ _ _ (fun _ _ => ?_)).trans ?_ | with_reducible refine (State.regs_setB_foldl _ _ _ (fun _ _ => ?_)).trans ?_ | with_reducible refine (State.regs_one_foldl _ _ _ (fun _ _ => ?_)).trans ?_ | with_reducible refine (State.regs_rsvd_foldl _ _ _ (fun _ _ => ?_)).trans ?_ | with_reducible refine (State.regs_waiting_foldl _ _ _ (fun _ _ => ?_)).trans ?_ | with_reducible refine (State.regs_stale_foldl _ _ _ (fun _ _ => ?_)).trans ?_ | with_reducible refine (State.regs_posted_foldl _ _ _ (fun _ _ => ?_)).trans ?_ | with_reducible refine (State.fd_mem_foldl _ _ _ (fun _ _ => ?_)).trans ?_ | with_reducible refine (State.dm_sram_foldl _ _ _ (fun _ _ => ?_)).trans ?_ | with_reducible refine (State.sq_frameNo_foldl _ _ _ (fun _ _ => ?_)).trans ?_ | with_reducible refine (State.sq_inScan_foldl _ _ _ (fun _ _ => ?_)).trans ?_ | with_reducible refine (State.sq_nextBoundary_foldl _ _ _ (fun _ _ => ?_)).trans ?_ | with_reducible refine (State.pw_gate_foldl _ _ _ (fun _ _ => ?_)).trans ?_ | (dsimp only; first | split | with_reducible refine (State.regs_setA_foldl _ _ _ (fun _ _ => ?_)).trans ?_ | with_reducible refine (State.regs_setB_foldl _ _ _ (fun _ _ => ?_)).trans ?_ | with_reducible refine (State.regs_one_foldl _ _ _ (fun _ _ => ?_)).trans ?_ | with_reducible refine (State.regs_rsvd_foldl _ _ _ (fun _ _ => ?_)).trans ?_ | with_reducible refine (State.regs_waiting_foldl _ _ _ (fun _ _ => ?_)).trans ?_ | with_reducible refine (State.regs_stale_foldl _ _ _ (fun _ _ => ?_)).trans ?_ | with_reducible refine (State.regs_posted_foldl _ _ _ (fun _ _ => ?_)).trans ?_ | with_reducible refine (State.fd_mem_foldl _ _ _ (fun _ _ => ?_)).trans ?_ | with_reducible refine (State.dm_sram_foldl _ _ _ (fun _ _ => ?_)).trans ?_ | with_reducible refine (State.sq_frameNo_foldl _ _ _ (fun _ _ => ?_)).trans ?_ | with_reducible refine (State.sq_inScan_foldl _ _ _ (fun _ _ => ?_)).trans ?_ | with_reducible refine (State.sq_nextBoundary_foldl _ _ _ (fun _ _ => ?_)).trans ?_ | with_reducible refine (State.pw_gate_foldl _ _ _ (fun _ _ => ?_)).trans ?_)))

@[simp] theorem State.closeAll_parts (s : State) (again : Bool) :
    (s.closeAll again).regs.one = s.regs.one ∧ (s.closeAll again).regs.rsvd = s.regs.rsvd ∧
    (s.closeAll again).regs.posted = s.regs.posted ∧ (s.closeAll again).fd.mem = s.fd.mem ∧
    (s.closeAll again).sq.frameNo = s.sq.frameNo ∧ (s.closeAll again).sq.inScan = s.sq.inScan ∧
    (s.closeAll again).sq.nextBoundary = s.sq.nextBoundary := by
  and_intros <;> (unfold State.closeAll; repeat' (first | with_reducible rfl | (simp; done) | split | with_reducible refine (State.regs_setA_foldl _ _ _ (fun _ _ => ?_)).trans ?_ | with_reducible refine (State.regs_setB_foldl _ _ _ (fun _ _ => ?_)).trans ?_ | with_reducible refine (State.regs_one_foldl _ _ _ (fun _ _ => ?_)).trans ?_ | with_reducible refine (State.regs_rsvd_foldl _ _ _ (fun _ _ => ?_)).trans ?_ | with_reducible refine (State.regs_waiting_foldl _ _ _ (fun _ _ => ?_)).trans ?_ | with_reducible refine (State.regs_stale_foldl _ _ _ (fun _ _ => ?_)).trans ?_ | with_reducible refine (State.regs_posted_foldl _ _ _ (fun _ _ => ?_)).trans ?_ | with_reducible refine (State.fd_mem_foldl _ _ _ (fun _ _ => ?_)).trans ?_ | with_reducible refine (State.dm_sram_foldl _ _ _ (fun _ _ => ?_)).trans ?_ | with_reducible refine (State.sq_frameNo_foldl _ _ _ (fun _ _ => ?_)).trans ?_ | with_reducible refine (State.sq_inScan_foldl _ _ _ (fun _ _ => ?_)).trans ?_ | with_reducible refine (State.sq_nextBoundary_foldl _ _ _ (fun _ _ => ?_)).trans ?_ | with_reducible refine (State.pw_gate_foldl _ _ _ (fun _ _ => ?_)).trans ?_ | (dsimp only; first | split | with_reducible refine (State.regs_setA_foldl _ _ _ (fun _ _ => ?_)).trans ?_ | with_reducible refine (State.regs_setB_foldl _ _ _ (fun _ _ => ?_)).trans ?_ | with_reducible refine (State.regs_one_foldl _ _ _ (fun _ _ => ?_)).trans ?_ | with_reducible refine (State.regs_rsvd_foldl _ _ _ (fun _ _ => ?_)).trans ?_ | with_reducible refine (State.regs_waiting_foldl _ _ _ (fun _ _ => ?_)).trans ?_ | with_reducible refine (State.regs_stale_foldl _ _ _ (fun _ _ => ?_)).trans ?_ | with_reducible refine (State.regs_posted_foldl _ _ _ (fun _ _ => ?_)).trans ?_ | with_reducible refine (State.fd_mem_foldl _ _ _ (fun _ _ => ?_)).trans ?_ | with_reducible refine (State.dm_sram_foldl _ _ _ (fun _ _ => ?_)).trans ?_ | with_reducible refine (State.sq_frameNo_foldl _ _ _ (fun _ _ => ?_)).trans ?_ | with_reducible refine (State.sq_inScan_foldl _ _ _ (fun _ _ => ?_)).trans ?_ | with_reducible refine (State.sq_nextBoundary_foldl _ _ _ (fun _ _ => ?_)).trans ?_ | with_reducible refine (State.pw_gate_foldl _ _ _ (fun _ _ => ?_)).trans ?_)))

@[simp] theorem State.settleStop_parts (s : State) :
    (s.settleStop).regs.one = s.regs.one ∧ (s.settleStop).regs.rsvd = s.regs.rsvd ∧
    (s.settleStop).regs.posted = s.regs.posted ∧ (s.settleStop).fd.mem = s.fd.mem ∧ (s.settleStop).sq.frameNo = s.sq.frameNo ∧
    (s.settleStop).sq.inScan = s.sq.inScan ∧ (s.settleStop).sq.nextBoundary = s.sq.nextBoundary := by
  and_intros <;> (unfold State.settleStop; repeat' (first | with_reducible rfl | (simp; done) | split | with_reducible refine (State.regs_setA_foldl _ _ _ (fun _ _ => ?_)).trans ?_ | with_reducible refine (State.regs_setB_foldl _ _ _ (fun _ _ => ?_)).trans ?_ | with_reducible refine (State.regs_one_foldl _ _ _ (fun _ _ => ?_)).trans ?_ | with_reducible refine (State.regs_rsvd_foldl _ _ _ (fun _ _ => ?_)).trans ?_ | with_reducible refine (State.regs_waiting_foldl _ _ _ (fun _ _ => ?_)).trans ?_ | with_reducible refine (State.regs_stale_foldl _ _ _ (fun _ _ => ?_)).trans ?_ | with_reducible refine (State.regs_posted_foldl _ _ _ (fun _ _ => ?_)).trans ?_ | with_reducible refine (State.fd_mem_foldl _ _ _ (fun _ _ => ?_)).trans ?_ | with_reducible refine (State.dm_sram_foldl _ _ _ (fun _ _ => ?_)).trans ?_ | with_reducible refine (State.sq_frameNo_foldl _ _ _ (fun _ _ => ?_)).trans ?_ | with_reducible refine (State.sq_inScan_foldl _ _ _ (fun _ _ => ?_)).trans ?_ | with_reducible refine (State.sq_nextBoundary_foldl _ _ _ (fun _ _ => ?_)).trans ?_ | with_reducible refine (State.pw_gate_foldl _ _ _ (fun _ _ => ?_)).trans ?_ | (dsimp only; first | split | with_reducible refine (State.regs_setA_foldl _ _ _ (fun _ _ => ?_)).trans ?_ | with_reducible refine (State.regs_setB_foldl _ _ _ (fun _ _ => ?_)).trans ?_ | with_reducible refine (State.regs_one_foldl _ _ _ (fun _ _ => ?_)).trans ?_ | with_reducible refine (State.regs_rsvd_foldl _ _ _ (fun _ _ => ?_)).trans ?_ | with_reducible refine (State.regs_waiting_foldl _ _ _ (fun _ _ => ?_)).trans ?_ | with_reducible refine (State.regs_stale_foldl _ _ _ (fun _ _ => ?_)).trans ?_ | with_reducible refine (State.regs_posted_foldl _ _ _ (fun _ _ => ?_)).trans ?_ | with_reducible refine (State.fd_mem_foldl _ _ _ (fun _ _ => ?_)).trans ?_ | with_reducible refine (State.dm_sram_foldl _ _ _ (fun _ _ => ?_)).trans ?_ | with_reducible refine (State.sq_frameNo_foldl _ _ _ (fun _ _ => ?_)).trans ?_ | with_reducible refine (State.sq_inScan_foldl _ _ _ (fun _ _ => ?_)).trans ?_ | with_reducible refine (State.sq_nextBoundary_foldl _ _ _ (fun _ _ => ?_)).trans ?_ | with_reducible refine (State.pw_gate_foldl _ _ _ (fun _ _ => ?_)).trans ?_)))

@[simp] theorem State.foldFrameStart_parts (s : State) :
    (s.foldFrameStart).regs.one = s.regs.one ∧ (s.foldFrameStart).regs.rsvd = s.regs.rsvd ∧
    (s.foldFrameStart).regs.posted = s.regs.posted ∧ (s.foldFrameStart).fd.mem = s.fd.mem ∧
    (s.foldFrameStart).sq.frameNo = s.sq.frameNo ∧ (s.foldFrameStart).sq.inScan = s.sq.inScan ∧
    (s.foldFrameStart).sq.nextBoundary = s.sq.nextBoundary := by
  and_intros <;> (unfold State.foldFrameStart; repeat' (first | with_reducible rfl | (simp; done) | split | with_reducible refine (State.regs_setA_foldl _ _ _ (fun _ _ => ?_)).trans ?_ | with_reducible refine (State.regs_setB_foldl _ _ _ (fun _ _ => ?_)).trans ?_ | with_reducible refine (State.regs_one_foldl _ _ _ (fun _ _ => ?_)).trans ?_ | with_reducible refine (State.regs_rsvd_foldl _ _ _ (fun _ _ => ?_)).trans ?_ | with_reducible refine (State.regs_waiting_foldl _ _ _ (fun _ _ => ?_)).trans ?_ | with_reducible refine (State.regs_stale_foldl _ _ _ (fun _ _ => ?_)).trans ?_ | with_reducible refine (State.regs_posted_foldl _ _ _ (fun _ _ => ?_)).trans ?_ | with_reducible refine (State.fd_mem_foldl _ _ _ (fun _ _ => ?_)).trans ?_ | with_reducible refine (State.dm_sram_foldl _ _ _ (fun _ _ => ?_)).trans ?_ | with_reducible refine (State.sq_frameNo_foldl _ _ _ (fun _ _ => ?_)).trans ?_ | with_reducible refine (State.sq_inScan_foldl _ _ _ (fun _ _ => ?_)).trans ?_ | with_reducible refine (State.sq_nextBoundary_foldl _ _ _ (fun _ _ => ?_)).trans ?_ | with_reducible refine (State.pw_gate_foldl _ _ _ (fun _ _ => ?_)).trans ?_ | (dsimp only; first | split | with_reducible refine (State.regs_setA_foldl _ _ _ (fun _ _ => ?_)).trans ?_ | with_reducible refine (State.regs_setB_foldl _ _ _ (fun _ _ => ?_)).trans ?_ | with_reducible refine (State.regs_one_foldl _ _ _ (fun _ _ => ?_)).trans ?_ | with_reducible refine (State.regs_rsvd_foldl _ _ _ (fun _ _ => ?_)).trans ?_ | with_reducible refine (State.regs_waiting_foldl _ _ _ (fun _ _ => ?_)).trans ?_ | with_reducible refine (State.regs_stale_foldl _ _ _ (fun _ _ => ?_)).trans ?_ | with_reducible refine (State.regs_posted_foldl _ _ _ (fun _ _ => ?_)).trans ?_ | with_reducible refine (State.fd_mem_foldl _ _ _ (fun _ _ => ?_)).trans ?_ | with_reducible refine (State.dm_sram_foldl _ _ _ (fun _ _ => ?_)).trans ?_ | with_reducible refine (State.sq_frameNo_foldl _ _ _ (fun _ _ => ?_)).trans ?_ | with_reducible refine (State.sq_inScan_foldl _ _ _ (fun _ _ => ?_)).trans ?_ | with_reducible refine (State.sq_nextBoundary_foldl _ _ _ (fun _ _ => ?_)).trans ?_ | with_reducible refine (State.pw_gate_foldl _ _ _ (fun _ _ => ?_)).trans ?_)))

@[simp] theorem State.request_parts (s : State) (r : Req) :
    (s.request r).fd.mem = s.fd.mem := by
  unfold State.request; repeat' (first | with_reducible rfl | (simp; done) | split | with_reducible refine (State.regs_setA_foldl _ _ _ (fun _ _ => ?_)).trans ?_ | with_reducible refine (State.regs_setB_foldl _ _ _ (fun _ _ => ?_)).trans ?_ | with_reducible refine (State.regs_one_foldl _ _ _ (fun _ _ => ?_)).trans ?_ | with_reducible refine (State.regs_rsvd_foldl _ _ _ (fun _ _ => ?_)).trans ?_ | with_reducible refine (State.regs_waiting_foldl _ _ _ (fun _ _ => ?_)).trans ?_ | with_reducible refine (State.regs_stale_foldl _ _ _ (fun _ _ => ?_)).trans ?_ | with_reducible refine (State.regs_posted_foldl _ _ _ (fun _ _ => ?_)).trans ?_ | with_reducible refine (State.fd_mem_foldl _ _ _ (fun _ _ => ?_)).trans ?_ | with_reducible refine (State.dm_sram_foldl _ _ _ (fun _ _ => ?_)).trans ?_ | with_reducible refine (State.sq_frameNo_foldl _ _ _ (fun _ _ => ?_)).trans ?_ | with_reducible refine (State.sq_inScan_foldl _ _ _ (fun _ _ => ?_)).trans ?_ | with_reducible refine (State.sq_nextBoundary_foldl _ _ _ (fun _ _ => ?_)).trans ?_ | with_reducible refine (State.pw_gate_foldl _ _ _ (fun _ _ => ?_)).trans ?_ | (dsimp only; first | split | with_reducible refine (State.regs_setA_foldl _ _ _ (fun _ _ => ?_)).trans ?_ | with_reducible refine (State.regs_setB_foldl _ _ _ (fun _ _ => ?_)).trans ?_ | with_reducible refine (State.regs_one_foldl _ _ _ (fun _ _ => ?_)).trans ?_ | with_reducible refine (State.regs_rsvd_foldl _ _ _ (fun _ _ => ?_)).trans ?_ | with_reducible refine (State.regs_waiting_foldl _ _ _ (fun _ _ => ?_)).trans ?_ | with_reducible refine (State.regs_stale_foldl _ _ _ (fun _ _ => ?_)).trans ?_ | with_reducible refine (State.regs_posted_foldl _ _ _ (fun _ _ => ?_)).trans ?_ | with_reducible refine (State.fd_mem_foldl _ _ _ (fun _ _ => ?_)).trans ?_ | with_reducible refine (State.dm_sram_foldl _ _ _ (fun _ _ => ?_)).trans ?_ | with_reducible refine (State.sq_frameNo_foldl _ _ _ (fun _ _ => ?_)).trans ?_ | with_reducible refine (State.sq_inScan_foldl _ _ _ (fun _ _ => ?_)).trans ?_ | with_reducible refine (State.sq_nextBoundary_foldl _ _ _ (fun _ _ => ?_)).trans ?_ | with_reducible refine (State.pw_gate_foldl _ _ _ (fun _ _ => ?_)).trans ?_))

@[simp] theorem State.histEvent_parts (s : State) (p gen k stamp dither : Nat) (ovr xtk loss fbs : Bool) :
    (s.histEvent p gen k stamp dither ovr xtk loss fbs).fd.mem = s.fd.mem := by
  unfold State.histEvent; repeat' (first | with_reducible rfl | (simp; done) | split | with_reducible refine (State.regs_setA_foldl _ _ _ (fun _ _ => ?_)).trans ?_ | with_reducible refine (State.regs_setB_foldl _ _ _ (fun _ _ => ?_)).trans ?_ | with_reducible refine (State.regs_one_foldl _ _ _ (fun _ _ => ?_)).trans ?_ | with_reducible refine (State.regs_rsvd_foldl _ _ _ (fun _ _ => ?_)).trans ?_ | with_reducible refine (State.regs_waiting_foldl _ _ _ (fun _ _ => ?_)).trans ?_ | with_reducible refine (State.regs_stale_foldl _ _ _ (fun _ _ => ?_)).trans ?_ | with_reducible refine (State.regs_posted_foldl _ _ _ (fun _ _ => ?_)).trans ?_ | with_reducible refine (State.fd_mem_foldl _ _ _ (fun _ _ => ?_)).trans ?_ | with_reducible refine (State.dm_sram_foldl _ _ _ (fun _ _ => ?_)).trans ?_ | with_reducible refine (State.sq_frameNo_foldl _ _ _ (fun _ _ => ?_)).trans ?_ | with_reducible refine (State.sq_inScan_foldl _ _ _ (fun _ _ => ?_)).trans ?_ | with_reducible refine (State.sq_nextBoundary_foldl _ _ _ (fun _ _ => ?_)).trans ?_ | with_reducible refine (State.pw_gate_foldl _ _ _ (fun _ _ => ?_)).trans ?_ | (dsimp only; first | split | with_reducible refine (State.regs_setA_foldl _ _ _ (fun _ _ => ?_)).trans ?_ | with_reducible refine (State.regs_setB_foldl _ _ _ (fun _ _ => ?_)).trans ?_ | with_reducible refine (State.regs_one_foldl _ _ _ (fun _ _ => ?_)).trans ?_ | with_reducible refine (State.regs_rsvd_foldl _ _ _ (fun _ _ => ?_)).trans ?_ | with_reducible refine (State.regs_waiting_foldl _ _ _ (fun _ _ => ?_)).trans ?_ | with_reducible refine (State.regs_stale_foldl _ _ _ (fun _ _ => ?_)).trans ?_ | with_reducible refine (State.regs_posted_foldl _ _ _ (fun _ _ => ?_)).trans ?_ | with_reducible refine (State.fd_mem_foldl _ _ _ (fun _ _ => ?_)).trans ?_ | with_reducible refine (State.dm_sram_foldl _ _ _ (fun _ _ => ?_)).trans ?_ | with_reducible refine (State.sq_frameNo_foldl _ _ _ (fun _ _ => ?_)).trans ?_ | with_reducible refine (State.sq_inScan_foldl _ _ _ (fun _ _ => ?_)).trans ?_ | with_reducible refine (State.sq_nextBoundary_foldl _ _ _ (fun _ _ => ?_)).trans ?_ | with_reducible refine (State.pw_gate_foldl _ _ _ (fun _ _ => ?_)).trans ?_))

@[simp] theorem State.takeEvent_parts (s : State) (p shot stamp : Nat) (drop ovr xtk loss fbs : Bool) :
    (s.takeEvent p shot stamp drop ovr xtk loss fbs).regs.setA = s.regs.setA ∧
    (s.takeEvent p shot stamp drop ovr xtk loss fbs).regs.setB = s.regs.setB ∧
    (s.takeEvent p shot stamp drop ovr xtk loss fbs).regs.one = s.regs.one ∧
    (s.takeEvent p shot stamp drop ovr xtk loss fbs).regs.rsvd = s.regs.rsvd ∧
    (s.takeEvent p shot stamp drop ovr xtk loss fbs).regs.waiting = s.regs.waiting ∧
    (s.takeEvent p shot stamp drop ovr xtk loss fbs).regs.stale = s.regs.stale ∧
    (s.takeEvent p shot stamp drop ovr xtk loss fbs).regs.posted = s.regs.posted ∧
    (s.takeEvent p shot stamp drop ovr xtk loss fbs).fd.mem = s.fd.mem := by
  and_intros <;> (unfold State.takeEvent; repeat' (first | with_reducible rfl | (simp; done) | split | with_reducible refine (State.regs_setA_foldl _ _ _ (fun _ _ => ?_)).trans ?_ | with_reducible refine (State.regs_setB_foldl _ _ _ (fun _ _ => ?_)).trans ?_ | with_reducible refine (State.regs_one_foldl _ _ _ (fun _ _ => ?_)).trans ?_ | with_reducible refine (State.regs_rsvd_foldl _ _ _ (fun _ _ => ?_)).trans ?_ | with_reducible refine (State.regs_waiting_foldl _ _ _ (fun _ _ => ?_)).trans ?_ | with_reducible refine (State.regs_stale_foldl _ _ _ (fun _ _ => ?_)).trans ?_ | with_reducible refine (State.regs_posted_foldl _ _ _ (fun _ _ => ?_)).trans ?_ | with_reducible refine (State.fd_mem_foldl _ _ _ (fun _ _ => ?_)).trans ?_ | with_reducible refine (State.dm_sram_foldl _ _ _ (fun _ _ => ?_)).trans ?_ | with_reducible refine (State.sq_frameNo_foldl _ _ _ (fun _ _ => ?_)).trans ?_ | with_reducible refine (State.sq_inScan_foldl _ _ _ (fun _ _ => ?_)).trans ?_ | with_reducible refine (State.sq_nextBoundary_foldl _ _ _ (fun _ _ => ?_)).trans ?_ | with_reducible refine (State.pw_gate_foldl _ _ _ (fun _ _ => ?_)).trans ?_ | (dsimp only; first | split | with_reducible refine (State.regs_setA_foldl _ _ _ (fun _ _ => ?_)).trans ?_ | with_reducible refine (State.regs_setB_foldl _ _ _ (fun _ _ => ?_)).trans ?_ | with_reducible refine (State.regs_one_foldl _ _ _ (fun _ _ => ?_)).trans ?_ | with_reducible refine (State.regs_rsvd_foldl _ _ _ (fun _ _ => ?_)).trans ?_ | with_reducible refine (State.regs_waiting_foldl _ _ _ (fun _ _ => ?_)).trans ?_ | with_reducible refine (State.regs_stale_foldl _ _ _ (fun _ _ => ?_)).trans ?_ | with_reducible refine (State.regs_posted_foldl _ _ _ (fun _ _ => ?_)).trans ?_ | with_reducible refine (State.fd_mem_foldl _ _ _ (fun _ _ => ?_)).trans ?_ | with_reducible refine (State.dm_sram_foldl _ _ _ (fun _ _ => ?_)).trans ?_ | with_reducible refine (State.sq_frameNo_foldl _ _ _ (fun _ _ => ?_)).trans ?_ | with_reducible refine (State.sq_inScan_foldl _ _ _ (fun _ _ => ?_)).trans ?_ | with_reducible refine (State.sq_nextBoundary_foldl _ _ _ (fun _ _ => ?_)).trans ?_ | with_reducible refine (State.pw_gate_foldl _ _ _ (fun _ _ => ?_)).trans ?_)))

@[simp] theorem State.takeToken_parts (s : State) (p shot : Nat) :
    (s.takeToken p shot).fd.mem = s.fd.mem := by
  unfold State.takeToken; repeat' (first | with_reducible rfl | (simp; done) | split | with_reducible refine (State.regs_setA_foldl _ _ _ (fun _ _ => ?_)).trans ?_ | with_reducible refine (State.regs_setB_foldl _ _ _ (fun _ _ => ?_)).trans ?_ | with_reducible refine (State.regs_one_foldl _ _ _ (fun _ _ => ?_)).trans ?_ | with_reducible refine (State.regs_rsvd_foldl _ _ _ (fun _ _ => ?_)).trans ?_ | with_reducible refine (State.regs_waiting_foldl _ _ _ (fun _ _ => ?_)).trans ?_ | with_reducible refine (State.regs_stale_foldl _ _ _ (fun _ _ => ?_)).trans ?_ | with_reducible refine (State.regs_posted_foldl _ _ _ (fun _ _ => ?_)).trans ?_ | with_reducible refine (State.fd_mem_foldl _ _ _ (fun _ _ => ?_)).trans ?_ | with_reducible refine (State.dm_sram_foldl _ _ _ (fun _ _ => ?_)).trans ?_ | with_reducible refine (State.sq_frameNo_foldl _ _ _ (fun _ _ => ?_)).trans ?_ | with_reducible refine (State.sq_inScan_foldl _ _ _ (fun _ _ => ?_)).trans ?_ | with_reducible refine (State.sq_nextBoundary_foldl _ _ _ (fun _ _ => ?_)).trans ?_ | with_reducible refine (State.pw_gate_foldl _ _ _ (fun _ _ => ?_)).trans ?_ | (dsimp only; first | split | with_reducible refine (State.regs_setA_foldl _ _ _ (fun _ _ => ?_)).trans ?_ | with_reducible refine (State.regs_setB_foldl _ _ _ (fun _ _ => ?_)).trans ?_ | with_reducible refine (State.regs_one_foldl _ _ _ (fun _ _ => ?_)).trans ?_ | with_reducible refine (State.regs_rsvd_foldl _ _ _ (fun _ _ => ?_)).trans ?_ | with_reducible refine (State.regs_waiting_foldl _ _ _ (fun _ _ => ?_)).trans ?_ | with_reducible refine (State.regs_stale_foldl _ _ _ (fun _ _ => ?_)).trans ?_ | with_reducible refine (State.regs_posted_foldl _ _ _ (fun _ _ => ?_)).trans ?_ | with_reducible refine (State.fd_mem_foldl _ _ _ (fun _ _ => ?_)).trans ?_ | with_reducible refine (State.dm_sram_foldl _ _ _ (fun _ _ => ?_)).trans ?_ | with_reducible refine (State.sq_frameNo_foldl _ _ _ (fun _ _ => ?_)).trans ?_ | with_reducible refine (State.sq_inScan_foldl _ _ _ (fun _ _ => ?_)).trans ?_ | with_reducible refine (State.sq_nextBoundary_foldl _ _ _ (fun _ _ => ?_)).trans ?_ | with_reducible refine (State.pw_gate_foldl _ _ _ (fun _ _ => ?_)).trans ?_))

@[simp] theorem State.release_parts (s : State) (p : Nat) (i : Interval) :
    (s.release p i).regs.setA = s.regs.setA ∧ (s.release p i).regs.setB = s.regs.setB ∧
    (s.release p i).regs.one = s.regs.one ∧ (s.release p i).regs.rsvd = s.regs.rsvd ∧
    (s.release p i).regs.waiting = s.regs.waiting ∧ (s.release p i).regs.stale = s.regs.stale ∧
    (s.release p i).regs.posted = s.regs.posted ∧ (s.release p i).fd.mem = s.fd.mem := by
  and_intros <;> (unfold State.release; repeat' (first | with_reducible rfl | (simp; done) | split | with_reducible refine (State.regs_setA_foldl _ _ _ (fun _ _ => ?_)).trans ?_ | with_reducible refine (State.regs_setB_foldl _ _ _ (fun _ _ => ?_)).trans ?_ | with_reducible refine (State.regs_one_foldl _ _ _ (fun _ _ => ?_)).trans ?_ | with_reducible refine (State.regs_rsvd_foldl _ _ _ (fun _ _ => ?_)).trans ?_ | with_reducible refine (State.regs_waiting_foldl _ _ _ (fun _ _ => ?_)).trans ?_ | with_reducible refine (State.regs_stale_foldl _ _ _ (fun _ _ => ?_)).trans ?_ | with_reducible refine (State.regs_posted_foldl _ _ _ (fun _ _ => ?_)).trans ?_ | with_reducible refine (State.fd_mem_foldl _ _ _ (fun _ _ => ?_)).trans ?_ | with_reducible refine (State.dm_sram_foldl _ _ _ (fun _ _ => ?_)).trans ?_ | with_reducible refine (State.sq_frameNo_foldl _ _ _ (fun _ _ => ?_)).trans ?_ | with_reducible refine (State.sq_inScan_foldl _ _ _ (fun _ _ => ?_)).trans ?_ | with_reducible refine (State.sq_nextBoundary_foldl _ _ _ (fun _ _ => ?_)).trans ?_ | with_reducible refine (State.pw_gate_foldl _ _ _ (fun _ _ => ?_)).trans ?_ | (dsimp only; first | split | with_reducible refine (State.regs_setA_foldl _ _ _ (fun _ _ => ?_)).trans ?_ | with_reducible refine (State.regs_setB_foldl _ _ _ (fun _ _ => ?_)).trans ?_ | with_reducible refine (State.regs_one_foldl _ _ _ (fun _ _ => ?_)).trans ?_ | with_reducible refine (State.regs_rsvd_foldl _ _ _ (fun _ _ => ?_)).trans ?_ | with_reducible refine (State.regs_waiting_foldl _ _ _ (fun _ _ => ?_)).trans ?_ | with_reducible refine (State.regs_stale_foldl _ _ _ (fun _ _ => ?_)).trans ?_ | with_reducible refine (State.regs_posted_foldl _ _ _ (fun _ _ => ?_)).trans ?_ | with_reducible refine (State.fd_mem_foldl _ _ _ (fun _ _ => ?_)).trans ?_ | with_reducible refine (State.dm_sram_foldl _ _ _ (fun _ _ => ?_)).trans ?_ | with_reducible refine (State.sq_frameNo_foldl _ _ _ (fun _ _ => ?_)).trans ?_ | with_reducible refine (State.sq_inScan_foldl _ _ _ (fun _ _ => ?_)).trans ?_ | with_reducible refine (State.sq_nextBoundary_foldl _ _ _ (fun _ _ => ?_)).trans ?_ | with_reducible refine (State.pw_gate_foldl _ _ _ (fun _ _ => ?_)).trans ?_)))

@[simp] theorem State.markSuspect_parts (s : State) :
    (s.markSuspect).fd.mem = s.fd.mem := by
  unfold State.markSuspect; repeat' (first | with_reducible rfl | (simp; done) | split | with_reducible refine (State.regs_setA_foldl _ _ _ (fun _ _ => ?_)).trans ?_ | with_reducible refine (State.regs_setB_foldl _ _ _ (fun _ _ => ?_)).trans ?_ | with_reducible refine (State.regs_one_foldl _ _ _ (fun _ _ => ?_)).trans ?_ | with_reducible refine (State.regs_rsvd_foldl _ _ _ (fun _ _ => ?_)).trans ?_ | with_reducible refine (State.regs_waiting_foldl _ _ _ (fun _ _ => ?_)).trans ?_ | with_reducible refine (State.regs_stale_foldl _ _ _ (fun _ _ => ?_)).trans ?_ | with_reducible refine (State.regs_posted_foldl _ _ _ (fun _ _ => ?_)).trans ?_ | with_reducible refine (State.fd_mem_foldl _ _ _ (fun _ _ => ?_)).trans ?_ | with_reducible refine (State.dm_sram_foldl _ _ _ (fun _ _ => ?_)).trans ?_ | with_reducible refine (State.sq_frameNo_foldl _ _ _ (fun _ _ => ?_)).trans ?_ | with_reducible refine (State.sq_inScan_foldl _ _ _ (fun _ _ => ?_)).trans ?_ | with_reducible refine (State.sq_nextBoundary_foldl _ _ _ (fun _ _ => ?_)).trans ?_ | with_reducible refine (State.pw_gate_foldl _ _ _ (fun _ _ => ?_)).trans ?_ | (dsimp only; first | split | with_reducible refine (State.regs_setA_foldl _ _ _ (fun _ _ => ?_)).trans ?_ | with_reducible refine (State.regs_setB_foldl _ _ _ (fun _ _ => ?_)).trans ?_ | with_reducible refine (State.regs_one_foldl _ _ _ (fun _ _ => ?_)).trans ?_ | with_reducible refine (State.regs_rsvd_foldl _ _ _ (fun _ _ => ?_)).trans ?_ | with_reducible refine (State.regs_waiting_foldl _ _ _ (fun _ _ => ?_)).trans ?_ | with_reducible refine (State.regs_stale_foldl _ _ _ (fun _ _ => ?_)).trans ?_ | with_reducible refine (State.regs_posted_foldl _ _ _ (fun _ _ => ?_)).trans ?_ | with_reducible refine (State.fd_mem_foldl _ _ _ (fun _ _ => ?_)).trans ?_ | with_reducible refine (State.dm_sram_foldl _ _ _ (fun _ _ => ?_)).trans ?_ | with_reducible refine (State.sq_frameNo_foldl _ _ _ (fun _ _ => ?_)).trans ?_ | with_reducible refine (State.sq_inScan_foldl _ _ _ (fun _ _ => ?_)).trans ?_ | with_reducible refine (State.sq_nextBoundary_foldl _ _ _ (fun _ _ => ?_)).trans ?_ | with_reducible refine (State.pw_gate_foldl _ _ _ (fun _ _ => ?_)).trans ?_))

@[simp] theorem State.fdPass_parts (s : State) (u : Nat) :
    (s.fdPass u).fd.mem = s.fd.mem := by
  unfold State.fdPass; repeat' (first | with_reducible rfl | (simp; done) | split | with_reducible refine (State.regs_setA_foldl _ _ _ (fun _ _ => ?_)).trans ?_ | with_reducible refine (State.regs_setB_foldl _ _ _ (fun _ _ => ?_)).trans ?_ | with_reducible refine (State.regs_one_foldl _ _ _ (fun _ _ => ?_)).trans ?_ | with_reducible refine (State.regs_rsvd_foldl _ _ _ (fun _ _ => ?_)).trans ?_ | with_reducible refine (State.regs_waiting_foldl _ _ _ (fun _ _ => ?_)).trans ?_ | with_reducible refine (State.regs_stale_foldl _ _ _ (fun _ _ => ?_)).trans ?_ | with_reducible refine (State.regs_posted_foldl _ _ _ (fun _ _ => ?_)).trans ?_ | with_reducible refine (State.fd_mem_foldl _ _ _ (fun _ _ => ?_)).trans ?_ | with_reducible refine (State.dm_sram_foldl _ _ _ (fun _ _ => ?_)).trans ?_ | with_reducible refine (State.sq_frameNo_foldl _ _ _ (fun _ _ => ?_)).trans ?_ | with_reducible refine (State.sq_inScan_foldl _ _ _ (fun _ _ => ?_)).trans ?_ | with_reducible refine (State.sq_nextBoundary_foldl _ _ _ (fun _ _ => ?_)).trans ?_ | with_reducible refine (State.pw_gate_foldl _ _ _ (fun _ _ => ?_)).trans ?_ | (dsimp only; first | split | with_reducible refine (State.regs_setA_foldl _ _ _ (fun _ _ => ?_)).trans ?_ | with_reducible refine (State.regs_setB_foldl _ _ _ (fun _ _ => ?_)).trans ?_ | with_reducible refine (State.regs_one_foldl _ _ _ (fun _ _ => ?_)).trans ?_ | with_reducible refine (State.regs_rsvd_foldl _ _ _ (fun _ _ => ?_)).trans ?_ | with_reducible refine (State.regs_waiting_foldl _ _ _ (fun _ _ => ?_)).trans ?_ | with_reducible refine (State.regs_stale_foldl _ _ _ (fun _ _ => ?_)).trans ?_ | with_reducible refine (State.regs_posted_foldl _ _ _ (fun _ _ => ?_)).trans ?_ | with_reducible refine (State.fd_mem_foldl _ _ _ (fun _ _ => ?_)).trans ?_ | with_reducible refine (State.dm_sram_foldl _ _ _ (fun _ _ => ?_)).trans ?_ | with_reducible refine (State.sq_frameNo_foldl _ _ _ (fun _ _ => ?_)).trans ?_ | with_reducible refine (State.sq_inScan_foldl _ _ _ (fun _ _ => ?_)).trans ?_ | with_reducible refine (State.sq_nextBoundary_foldl _ _ _ (fun _ _ => ?_)).trans ?_ | with_reducible refine (State.pw_gate_foldl _ _ _ (fun _ _ => ?_)).trans ?_))

@[simp] theorem State.fdCntClr_parts (s : State) :
    (s.fdCntClr).regs.setA = s.regs.setA ∧ (s.fdCntClr).regs.setB = s.regs.setB ∧ (s.fdCntClr).regs.one = s.regs.one ∧
    (s.fdCntClr).regs.rsvd = s.regs.rsvd ∧ (s.fdCntClr).regs.waiting = s.regs.waiting ∧
    (s.fdCntClr).regs.stale = s.regs.stale ∧ (s.fdCntClr).regs.posted = s.regs.posted := by
  and_intros <;> (unfold State.fdCntClr; repeat' (first | with_reducible rfl | (simp; done) | split | with_reducible refine (State.regs_setA_foldl _ _ _ (fun _ _ => ?_)).trans ?_ | with_reducible refine (State.regs_setB_foldl _ _ _ (fun _ _ => ?_)).trans ?_ | with_reducible refine (State.regs_one_foldl _ _ _ (fun _ _ => ?_)).trans ?_ | with_reducible refine (State.regs_rsvd_foldl _ _ _ (fun _ _ => ?_)).trans ?_ | with_reducible refine (State.regs_waiting_foldl _ _ _ (fun _ _ => ?_)).trans ?_ | with_reducible refine (State.regs_stale_foldl _ _ _ (fun _ _ => ?_)).trans ?_ | with_reducible refine (State.regs_posted_foldl _ _ _ (fun _ _ => ?_)).trans ?_ | with_reducible refine (State.fd_mem_foldl _ _ _ (fun _ _ => ?_)).trans ?_ | with_reducible refine (State.dm_sram_foldl _ _ _ (fun _ _ => ?_)).trans ?_ | with_reducible refine (State.sq_frameNo_foldl _ _ _ (fun _ _ => ?_)).trans ?_ | with_reducible refine (State.sq_inScan_foldl _ _ _ (fun _ _ => ?_)).trans ?_ | with_reducible refine (State.sq_nextBoundary_foldl _ _ _ (fun _ _ => ?_)).trans ?_ | with_reducible refine (State.pw_gate_foldl _ _ _ (fun _ _ => ?_)).trans ?_ | (dsimp only; first | split | with_reducible refine (State.regs_setA_foldl _ _ _ (fun _ _ => ?_)).trans ?_ | with_reducible refine (State.regs_setB_foldl _ _ _ (fun _ _ => ?_)).trans ?_ | with_reducible refine (State.regs_one_foldl _ _ _ (fun _ _ => ?_)).trans ?_ | with_reducible refine (State.regs_rsvd_foldl _ _ _ (fun _ _ => ?_)).trans ?_ | with_reducible refine (State.regs_waiting_foldl _ _ _ (fun _ _ => ?_)).trans ?_ | with_reducible refine (State.regs_stale_foldl _ _ _ (fun _ _ => ?_)).trans ?_ | with_reducible refine (State.regs_posted_foldl _ _ _ (fun _ _ => ?_)).trans ?_ | with_reducible refine (State.fd_mem_foldl _ _ _ (fun _ _ => ?_)).trans ?_ | with_reducible refine (State.dm_sram_foldl _ _ _ (fun _ _ => ?_)).trans ?_ | with_reducible refine (State.sq_frameNo_foldl _ _ _ (fun _ _ => ?_)).trans ?_ | with_reducible refine (State.sq_inScan_foldl _ _ _ (fun _ _ => ?_)).trans ?_ | with_reducible refine (State.sq_nextBoundary_foldl _ _ _ (fun _ _ => ?_)).trans ?_ | with_reducible refine (State.pw_gate_foldl _ _ _ (fun _ _ => ?_)).trans ?_)))

end Sys2Proof.Machine
end

