-- ==== Sys2Proof/Laws/FrameConverters.lean ====
section
/-!
SUPPORT. The frames of the operations of Machine/Converters.lean: the parts of the state that each of them leaves as they were.
-/

set_option linter.unusedTactic false
set_option linter.unreachableTactic false
set_option linter.unusedSimpArgs false

namespace Sys2Proof.Machine

@[simp] theorem State.setAxChan_frame (s : State) (c : Nat) (x : AxChan) :
    (s.setAxChan c x).now = s.now ∧ (s.setAxChan c x).phase = s.phase ∧ (s.setAxChan c x).pending = s.pending ∧
    (s.setAxChan c x).nodeOfs = s.nodeOfs ∧ (s.setAxChan c x).freeCtr = s.freeCtr ∧ (s.setAxChan c x).tx = s.tx ∧
    (s.setAxChan c x).regs = s.regs ∧ (s.setAxChan c x).tl = s.tl := by
  and_intros <;> (unfold State.setAxChan; repeat' (first | with_reducible rfl | (simp; done) | split | with_reducible refine (foldl_inv _ _ _ _ (fun _ _ => ?_)).trans ?_ | (dsimp only; first | split | with_reducible refine (foldl_inv _ _ _ _ (fun _ _ => ?_)).trans ?_)))

@[simp] theorem State.setAxChan_frame2 (s : State) (c : Nat) (x : AxChan) :
    (s.setAxChan c x).sq = s.sq ∧ (s.setAxChan c x).fd = s.fd ∧ (s.setAxChan c x).ex = s.ex ∧ (s.setAxChan c x).sv = s.sv ∧
    (s.setAxChan c x).aq = s.aq ∧ (s.setAxChan c x).il = s.il ∧ (s.setAxChan c x).ln = s.ln ∧ (s.setAxChan c x).fl = s.fl := by
  and_intros <;> (unfold State.setAxChan; repeat' (first | with_reducible rfl | (simp; done) | split | with_reducible refine (foldl_inv _ _ _ _ (fun _ _ => ?_)).trans ?_ | (dsimp only; first | split | with_reducible refine (foldl_inv _ _ _ _ (fun _ _ => ?_)).trans ?_)))

@[simp] theorem State.setAxChan_frame3 (s : State) (c : Nat) (x : AxChan) :
    (s.setAxChan c x).ev = s.ev ∧ (s.setAxChan c x).safe = s.safe ∧ (s.setAxChan c x).dm = s.dm ∧
    (s.setAxChan c x).cm = s.cm ∧ (s.setAxChan c x).cf = s.cf ∧ (s.setAxChan c x).pw = s.pw ∧ (s.setAxChan c x).th = s.th := by
  and_intros <;> (unfold State.setAxChan; repeat' (first | with_reducible rfl | (simp; done) | split | with_reducible refine (foldl_inv _ _ _ _ (fun _ _ => ?_)).trans ?_ | (dsimp only; first | split | with_reducible refine (foldl_inv _ _ _ _ (fun _ _ => ?_)).trans ?_)))

@[simp] theorem State.setChecking_frame (s : State) (p : Nat) (x : Option ZCheck) :
    (s.setChecking p x).now = s.now ∧ (s.setChecking p x).phase = s.phase ∧ (s.setChecking p x).pending = s.pending ∧
    (s.setChecking p x).nodeOfs = s.nodeOfs ∧ (s.setChecking p x).freeCtr = s.freeCtr ∧ (s.setChecking p x).tx = s.tx ∧
    (s.setChecking p x).regs = s.regs ∧ (s.setChecking p x).tl = s.tl := by
  and_intros <;> (unfold State.setChecking; repeat' (first | with_reducible rfl | (simp; done) | split | with_reducible refine (foldl_inv _ _ _ _ (fun _ _ => ?_)).trans ?_ | (dsimp only; first | split | with_reducible refine (foldl_inv _ _ _ _ (fun _ _ => ?_)).trans ?_)))

@[simp] theorem State.setChecking_frame2 (s : State) (p : Nat) (x : Option ZCheck) :
    (s.setChecking p x).sq = s.sq ∧ (s.setChecking p x).fd = s.fd ∧ (s.setChecking p x).ex = s.ex ∧
    (s.setChecking p x).sv = s.sv ∧ (s.setChecking p x).aq = s.aq ∧ (s.setChecking p x).il = s.il ∧
    (s.setChecking p x).ln = s.ln ∧ (s.setChecking p x).fl = s.fl := by
  and_intros <;> (unfold State.setChecking; repeat' (first | with_reducible rfl | (simp; done) | split | with_reducible refine (foldl_inv _ _ _ _ (fun _ _ => ?_)).trans ?_ | (dsimp only; first | split | with_reducible refine (foldl_inv _ _ _ _ (fun _ _ => ?_)).trans ?_)))

@[simp] theorem State.setChecking_frame3 (s : State) (p : Nat) (x : Option ZCheck) :
    (s.setChecking p x).ev = s.ev ∧ (s.setChecking p x).safe = s.safe ∧ (s.setChecking p x).dm = s.dm ∧
    (s.setChecking p x).cm = s.cm ∧ (s.setChecking p x).cf = s.cf ∧ (s.setChecking p x).pw = s.pw ∧
    (s.setChecking p x).th = s.th := by
  and_intros <;> (unfold State.setChecking; repeat' (first | with_reducible rfl | (simp; done) | split | with_reducible refine (foldl_inv _ _ _ _ (fun _ _ => ?_)).trans ?_ | (dsimp only; first | split | with_reducible refine (foldl_inv _ _ _ _ (fun _ _ => ?_)).trans ?_)))

@[simp] theorem State.setSlotAt_frame (s : State) (p x : Nat) :
    (s.setSlotAt p x).now = s.now ∧ (s.setSlotAt p x).phase = s.phase ∧ (s.setSlotAt p x).pending = s.pending ∧
    (s.setSlotAt p x).nodeOfs = s.nodeOfs ∧ (s.setSlotAt p x).freeCtr = s.freeCtr ∧ (s.setSlotAt p x).tx = s.tx ∧
    (s.setSlotAt p x).regs = s.regs ∧ (s.setSlotAt p x).tl = s.tl := by
  and_intros <;> (unfold State.setSlotAt; repeat' (first | with_reducible rfl | (simp; done) | split | with_reducible refine (foldl_inv _ _ _ _ (fun _ _ => ?_)).trans ?_ | (dsimp only; first | split | with_reducible refine (foldl_inv _ _ _ _ (fun _ _ => ?_)).trans ?_)))

@[simp] theorem State.setSlotAt_frame2 (s : State) (p x : Nat) :
    (s.setSlotAt p x).sq = s.sq ∧ (s.setSlotAt p x).fd = s.fd ∧ (s.setSlotAt p x).ex = s.ex ∧ (s.setSlotAt p x).sv = s.sv ∧
    (s.setSlotAt p x).aq = s.aq ∧ (s.setSlotAt p x).il = s.il ∧ (s.setSlotAt p x).ln = s.ln ∧ (s.setSlotAt p x).fl = s.fl := by
  and_intros <;> (unfold State.setSlotAt; repeat' (first | with_reducible rfl | (simp; done) | split | with_reducible refine (foldl_inv _ _ _ _ (fun _ _ => ?_)).trans ?_ | (dsimp only; first | split | with_reducible refine (foldl_inv _ _ _ _ (fun _ _ => ?_)).trans ?_)))

@[simp] theorem State.setSlotAt_frame3 (s : State) (p x : Nat) :
    (s.setSlotAt p x).ev = s.ev ∧ (s.setSlotAt p x).safe = s.safe ∧ (s.setSlotAt p x).dm = s.dm ∧
    (s.setSlotAt p x).cm = s.cm ∧ (s.setSlotAt p x).cf = s.cf ∧ (s.setSlotAt p x).pw = s.pw ∧ (s.setSlotAt p x).th = s.th := by
  and_intros <;> (unfold State.setSlotAt; repeat' (first | with_reducible rfl | (simp; done) | split | with_reducible refine (foldl_inv _ _ _ _ (fun _ _ => ?_)).trans ?_ | (dsimp only; first | split | with_reducible refine (foldl_inv _ _ _ _ (fun _ _ => ?_)).trans ?_)))

@[simp] theorem State.loseNext_frame (s : State) (p c : Nat) :
    (s.loseNext p c).now = s.now ∧ (s.loseNext p c).phase = s.phase ∧ (s.loseNext p c).pending = s.pending ∧
    (s.loseNext p c).nodeOfs = s.nodeOfs ∧ (s.loseNext p c).freeCtr = s.freeCtr ∧ (s.loseNext p c).tx = s.tx ∧
    (s.loseNext p c).regs = s.regs ∧ (s.loseNext p c).tl = s.tl := by
  and_intros <;> (unfold State.loseNext; repeat' (first | with_reducible rfl | (simp; done) | split | with_reducible refine (foldl_inv _ _ _ _ (fun _ _ => ?_)).trans ?_ | (dsimp only; first | split | with_reducible refine (foldl_inv _ _ _ _ (fun _ _ => ?_)).trans ?_)))

@[simp] theorem State.loseNext_frame2 (s : State) (p c : Nat) :
    (s.loseNext p c).sq = s.sq ∧ (s.loseNext p c).fd = s.fd ∧ (s.loseNext p c).ex = s.ex ∧ (s.loseNext p c).sv = s.sv ∧
    (s.loseNext p c).aq = s.aq ∧ (s.loseNext p c).il = s.il ∧ (s.loseNext p c).ln = s.ln ∧ (s.loseNext p c).fl = s.fl := by
  and_intros <;> (unfold State.loseNext; repeat' (first | with_reducible rfl | (simp; done) | split | with_reducible refine (foldl_inv _ _ _ _ (fun _ _ => ?_)).trans ?_ | (dsimp only; first | split | with_reducible refine (foldl_inv _ _ _ _ (fun _ _ => ?_)).trans ?_)))

@[simp] theorem State.loseNext_frame3 (s : State) (p c : Nat) :
    (s.loseNext p c).ev = s.ev ∧ (s.loseNext p c).safe = s.safe ∧ (s.loseNext p c).dm = s.dm ∧ (s.loseNext p c).cm = s.cm ∧
    (s.loseNext p c).cf = s.cf ∧ (s.loseNext p c).pw = s.pw ∧ (s.loseNext p c).th = s.th := by
  and_intros <;> (unfold State.loseNext; repeat' (first | with_reducible rfl | (simp; done) | split | with_reducible refine (foldl_inv _ _ _ _ (fun _ _ => ?_)).trans ?_ | (dsimp only; first | split | with_reducible refine (foldl_inv _ _ _ _ (fun _ _ => ?_)).trans ?_)))

@[simp] theorem State.beginCheck_frame (s : State) (p c : Nat) :
    (s.beginCheck p c).now = s.now ∧ (s.beginCheck p c).phase = s.phase ∧ (s.beginCheck p c).pending = s.pending ∧
    (s.beginCheck p c).nodeOfs = s.nodeOfs ∧ (s.beginCheck p c).freeCtr = s.freeCtr ∧ (s.beginCheck p c).tx = s.tx ∧
    (s.beginCheck p c).tl = s.tl ∧ (s.beginCheck p c).sq = s.sq := by
  and_intros <;> (unfold State.beginCheck; repeat' (first | with_reducible rfl | (simp; done) | split | with_reducible refine (foldl_inv _ _ _ _ (fun _ _ => ?_)).trans ?_ | (dsimp only; first | split | with_reducible refine (foldl_inv _ _ _ _ (fun _ _ => ?_)).trans ?_)))

@[simp] theorem State.beginCheck_frame2 (s : State) (p c : Nat) :
    (s.beginCheck p c).fd = s.fd ∧ (s.beginCheck p c).ex = s.ex ∧ (s.beginCheck p c).sv = s.sv ∧
    (s.beginCheck p c).aq = s.aq ∧ (s.beginCheck p c).il = s.il ∧ (s.beginCheck p c).ln = s.ln ∧
    (s.beginCheck p c).fl = s.fl ∧ (s.beginCheck p c).ev = s.ev := by
  and_intros <;> (unfold State.beginCheck; repeat' (first | with_reducible rfl | (simp; done) | split | with_reducible refine (foldl_inv _ _ _ _ (fun _ _ => ?_)).trans ?_ | (dsimp only; first | split | with_reducible refine (foldl_inv _ _ _ _ (fun _ _ => ?_)).trans ?_)))

@[simp] theorem State.beginCheck_frame3 (s : State) (p c : Nat) :
    (s.beginCheck p c).safe = s.safe ∧ (s.beginCheck p c).dm = s.dm ∧ (s.beginCheck p c).cm = s.cm ∧
    (s.beginCheck p c).cf = s.cf ∧ (s.beginCheck p c).pw = s.pw ∧ (s.beginCheck p c).th = s.th := by
  and_intros <;> (unfold State.beginCheck; repeat' (first | with_reducible rfl | (simp; done) | split | with_reducible refine (foldl_inv _ _ _ _ (fun _ _ => ?_)).trans ?_ | (dsimp only; first | split | with_reducible refine (foldl_inv _ _ _ _ (fun _ _ => ?_)).trans ?_)))

@[simp] theorem State.resumeChecks_frame (s : State) :
    (s.resumeChecks).now = s.now ∧ (s.resumeChecks).phase = s.phase ∧ (s.resumeChecks).pending = s.pending ∧
    (s.resumeChecks).nodeOfs = s.nodeOfs ∧ (s.resumeChecks).freeCtr = s.freeCtr ∧ (s.resumeChecks).tx = s.tx ∧
    (s.resumeChecks).tl = s.tl ∧ (s.resumeChecks).sq = s.sq := by
  and_intros <;> (unfold State.resumeChecks; repeat' (first | with_reducible rfl | (simp; done) | split | with_reducible refine (foldl_inv _ _ _ _ (fun _ _ => ?_)).trans ?_ | (dsimp only; first | split | with_reducible refine (foldl_inv _ _ _ _ (fun _ _ => ?_)).trans ?_)))

@[simp] theorem State.resumeChecks_frame2 (s : State) :
    (s.resumeChecks).fd = s.fd ∧ (s.resumeChecks).ex = s.ex ∧ (s.resumeChecks).sv = s.sv ∧ (s.resumeChecks).aq = s.aq ∧
    (s.resumeChecks).il = s.il ∧ (s.resumeChecks).ln = s.ln ∧ (s.resumeChecks).fl = s.fl ∧ (s.resumeChecks).ev = s.ev := by
  and_intros <;> (unfold State.resumeChecks; repeat' (first | with_reducible rfl | (simp; done) | split | with_reducible refine (foldl_inv _ _ _ _ (fun _ _ => ?_)).trans ?_ | (dsimp only; first | split | with_reducible refine (foldl_inv _ _ _ _ (fun _ _ => ?_)).trans ?_)))

@[simp] theorem State.resumeChecks_frame3 (s : State) :
    (s.resumeChecks).safe = s.safe ∧ (s.resumeChecks).dm = s.dm ∧ (s.resumeChecks).cm = s.cm ∧ (s.resumeChecks).cf = s.cf ∧
    (s.resumeChecks).pw = s.pw ∧ (s.resumeChecks).th = s.th := by
  and_intros <;> (unfold State.resumeChecks; repeat' (first | with_reducible rfl | (simp; done) | split | with_reducible refine (foldl_inv _ _ _ _ (fun _ _ => ?_)).trans ?_ | (dsimp only; first | split | with_reducible refine (foldl_inv _ _ _ _ (fun _ _ => ?_)).trans ?_)))

@[simp] theorem State.beginCalSlot_frame (s : State) (p : Nat) :
    (s.beginCalSlot p).now = s.now ∧ (s.beginCalSlot p).phase = s.phase ∧ (s.beginCalSlot p).pending = s.pending ∧
    (s.beginCalSlot p).nodeOfs = s.nodeOfs ∧ (s.beginCalSlot p).freeCtr = s.freeCtr ∧ (s.beginCalSlot p).tx = s.tx ∧
    (s.beginCalSlot p).regs = s.regs ∧ (s.beginCalSlot p).tl = s.tl := by
  and_intros <;> (unfold State.beginCalSlot; repeat' (first | with_reducible rfl | (simp; done) | split | with_reducible refine (foldl_inv _ _ _ _ (fun _ _ => ?_)).trans ?_ | (dsimp only; first | split | with_reducible refine (foldl_inv _ _ _ _ (fun _ _ => ?_)).trans ?_)))

@[simp] theorem State.beginCalSlot_frame2 (s : State) (p : Nat) :
    (s.beginCalSlot p).sq = s.sq ∧ (s.beginCalSlot p).fd = s.fd ∧ (s.beginCalSlot p).ex = s.ex ∧
    (s.beginCalSlot p).sv = s.sv ∧ (s.beginCalSlot p).aq = s.aq ∧ (s.beginCalSlot p).il = s.il ∧
    (s.beginCalSlot p).ln = s.ln ∧ (s.beginCalSlot p).fl = s.fl := by
  and_intros <;> (unfold State.beginCalSlot; repeat' (first | with_reducible rfl | (simp; done) | split | with_reducible refine (foldl_inv _ _ _ _ (fun _ _ => ?_)).trans ?_ | (dsimp only; first | split | with_reducible refine (foldl_inv _ _ _ _ (fun _ _ => ?_)).trans ?_)))

@[simp] theorem State.beginCalSlot_frame3 (s : State) (p : Nat) :
    (s.beginCalSlot p).ev = s.ev ∧ (s.beginCalSlot p).safe = s.safe ∧ (s.beginCalSlot p).dm = s.dm ∧
    (s.beginCalSlot p).cm = s.cm ∧ (s.beginCalSlot p).cf = s.cf ∧ (s.beginCalSlot p).pw = s.pw := by
  and_intros <;> (unfold State.beginCalSlot; repeat' (first | with_reducible rfl | (simp; done) | split | with_reducible refine (foldl_inv _ _ _ _ (fun _ _ => ?_)).trans ?_ | (dsimp only; first | split | with_reducible refine (foldl_inv _ _ _ _ (fun _ _ => ?_)).trans ?_)))

@[simp] theorem State.endCalSlot_frame (s : State) (p : Nat) :
    (s.endCalSlot p).now = s.now ∧ (s.endCalSlot p).phase = s.phase ∧ (s.endCalSlot p).pending = s.pending ∧
    (s.endCalSlot p).nodeOfs = s.nodeOfs ∧ (s.endCalSlot p).freeCtr = s.freeCtr ∧ (s.endCalSlot p).tx = s.tx ∧
    (s.endCalSlot p).regs = s.regs ∧ (s.endCalSlot p).tl = s.tl := by
  and_intros <;> (unfold State.endCalSlot; repeat' (first | with_reducible rfl | (simp; done) | split | with_reducible refine (foldl_inv _ _ _ _ (fun _ _ => ?_)).trans ?_ | (dsimp only; first | split | with_reducible refine (foldl_inv _ _ _ _ (fun _ _ => ?_)).trans ?_)))

@[simp] theorem State.endCalSlot_frame2 (s : State) (p : Nat) :
    (s.endCalSlot p).sq = s.sq ∧ (s.endCalSlot p).fd = s.fd ∧ (s.endCalSlot p).ex = s.ex ∧ (s.endCalSlot p).sv = s.sv ∧
    (s.endCalSlot p).aq = s.aq ∧ (s.endCalSlot p).il = s.il ∧ (s.endCalSlot p).ln = s.ln ∧ (s.endCalSlot p).fl = s.fl := by
  and_intros <;> (unfold State.endCalSlot; repeat' (first | with_reducible rfl | (simp; done) | split | with_reducible refine (foldl_inv _ _ _ _ (fun _ _ => ?_)).trans ?_ | (dsimp only; first | split | with_reducible refine (foldl_inv _ _ _ _ (fun _ _ => ?_)).trans ?_)))

@[simp] theorem State.endCalSlot_frame3 (s : State) (p : Nat) :
    (s.endCalSlot p).ev = s.ev ∧ (s.endCalSlot p).safe = s.safe ∧ (s.endCalSlot p).dm = s.dm ∧ (s.endCalSlot p).cm = s.cm ∧
    (s.endCalSlot p).cf = s.cf ∧ (s.endCalSlot p).pw = s.pw ∧ (s.endCalSlot p).th = s.th := by
  and_intros <;> (unfold State.endCalSlot; repeat' (first | with_reducible rfl | (simp; done) | split | with_reducible refine (foldl_inv _ _ _ _ (fun _ _ => ?_)).trans ?_ | (dsimp only; first | split | with_reducible refine (foldl_inv _ _ _ _ (fun _ _ => ?_)).trans ?_)))

@[simp] theorem State.resumeCal_frame (s : State) (p : Nat) :
    (s.resumeCal p).now = s.now ∧ (s.resumeCal p).phase = s.phase ∧ (s.resumeCal p).pending = s.pending ∧
    (s.resumeCal p).nodeOfs = s.nodeOfs ∧ (s.resumeCal p).freeCtr = s.freeCtr ∧ (s.resumeCal p).tx = s.tx ∧
    (s.resumeCal p).regs = s.regs ∧ (s.resumeCal p).tl = s.tl := by
  and_intros <;> (unfold State.resumeCal; repeat' (first | with_reducible rfl | (simp; done) | split | with_reducible refine (foldl_inv _ _ _ _ (fun _ _ => ?_)).trans ?_ | (dsimp only; first | split | with_reducible refine (foldl_inv _ _ _ _ (fun _ _ => ?_)).trans ?_)))

@[simp] theorem State.resumeCal_frame2 (s : State) (p : Nat) :
    (s.resumeCal p).sq = s.sq ∧ (s.resumeCal p).fd = s.fd ∧ (s.resumeCal p).ex = s.ex ∧ (s.resumeCal p).sv = s.sv ∧
    (s.resumeCal p).aq = s.aq ∧ (s.resumeCal p).il = s.il ∧ (s.resumeCal p).ln = s.ln ∧ (s.resumeCal p).fl = s.fl := by
  and_intros <;> (unfold State.resumeCal; repeat' (first | with_reducible rfl | (simp; done) | split | with_reducible refine (foldl_inv _ _ _ _ (fun _ _ => ?_)).trans ?_ | (dsimp only; first | split | with_reducible refine (foldl_inv _ _ _ _ (fun _ _ => ?_)).trans ?_)))

@[simp] theorem State.resumeCal_frame3 (s : State) (p : Nat) :
    (s.resumeCal p).ev = s.ev ∧ (s.resumeCal p).safe = s.safe ∧ (s.resumeCal p).dm = s.dm ∧ (s.resumeCal p).cm = s.cm ∧
    (s.resumeCal p).cf = s.cf ∧ (s.resumeCal p).pw = s.pw := by
  and_intros <;> (unfold State.resumeCal; repeat' (first | with_reducible rfl | (simp; done) | split | with_reducible refine (foldl_inv _ _ _ _ (fun _ _ => ?_)).trans ?_ | (dsimp only; first | split | with_reducible refine (foldl_inv _ _ _ _ (fun _ _ => ?_)).trans ?_)))

@[simp] theorem State.endCheck_frame (s : State) (p : Nat) :
    (s.endCheck p).now = s.now ∧ (s.endCheck p).phase = s.phase ∧ (s.endCheck p).pending = s.pending ∧
    (s.endCheck p).nodeOfs = s.nodeOfs ∧ (s.endCheck p).freeCtr = s.freeCtr ∧ (s.endCheck p).tx = s.tx ∧
    (s.endCheck p).tl = s.tl ∧ (s.endCheck p).sq = s.sq := by
  and_intros <;> (unfold State.endCheck; repeat' (first | with_reducible rfl | (simp; done) | split | with_reducible refine (foldl_inv _ _ _ _ (fun _ _ => ?_)).trans ?_ | (dsimp only; first | split | with_reducible refine (foldl_inv _ _ _ _ (fun _ _ => ?_)).trans ?_)))

@[simp] theorem State.endCheck_frame2 (s : State) (p : Nat) :
    (s.endCheck p).fd = s.fd ∧ (s.endCheck p).ex = s.ex ∧ (s.endCheck p).sv = s.sv ∧ (s.endCheck p).aq = s.aq ∧
    (s.endCheck p).il = s.il ∧ (s.endCheck p).ln = s.ln ∧ (s.endCheck p).fl = s.fl ∧ (s.endCheck p).ev = s.ev := by
  and_intros <;> (unfold State.endCheck; repeat' (first | with_reducible rfl | (simp; done) | split | with_reducible refine (foldl_inv _ _ _ _ (fun _ _ => ?_)).trans ?_ | (dsimp only; first | split | with_reducible refine (foldl_inv _ _ _ _ (fun _ _ => ?_)).trans ?_)))

@[simp] theorem State.endCheck_frame3 (s : State) (p : Nat) :
    (s.endCheck p).safe = s.safe ∧ (s.endCheck p).dm = s.dm ∧ (s.endCheck p).cm = s.cm ∧ (s.endCheck p).cf = s.cf ∧
    (s.endCheck p).pw = s.pw ∧ (s.endCheck p).th = s.th := by
  and_intros <;> (unfold State.endCheck; repeat' (first | with_reducible rfl | (simp; done) | split | with_reducible refine (foldl_inv _ _ _ _ (fun _ _ => ?_)).trans ?_ | (dsimp only; first | split | with_reducible refine (foldl_inv _ _ _ _ (fun _ _ => ?_)).trans ?_)))

@[simp] theorem State.restart_frame (s : State) (p c at_ : Nat) :
    (s.restart p c at_).now = s.now ∧ (s.restart p c at_).phase = s.phase ∧ (s.restart p c at_).pending = s.pending ∧
    (s.restart p c at_).nodeOfs = s.nodeOfs ∧ (s.restart p c at_).freeCtr = s.freeCtr ∧ (s.restart p c at_).tx = s.tx ∧
    (s.restart p c at_).tl = s.tl ∧ (s.restart p c at_).sq = s.sq := by
  and_intros <;> (unfold State.restart; repeat' (first | with_reducible rfl | (simp; done) | split | with_reducible refine (foldl_inv _ _ _ _ (fun _ _ => ?_)).trans ?_ | (dsimp only; first | split | with_reducible refine (foldl_inv _ _ _ _ (fun _ _ => ?_)).trans ?_)))

@[simp] theorem State.restart_frame2 (s : State) (p c at_ : Nat) :
    (s.restart p c at_).fd = s.fd ∧ (s.restart p c at_).ex = s.ex ∧ (s.restart p c at_).sv = s.sv ∧
    (s.restart p c at_).aq = s.aq ∧ (s.restart p c at_).il = s.il ∧ (s.restart p c at_).ln = s.ln ∧
    (s.restart p c at_).fl = s.fl ∧ (s.restart p c at_).ev = s.ev := by
  and_intros <;> (unfold State.restart; repeat' (first | with_reducible rfl | (simp; done) | split | with_reducible refine (foldl_inv _ _ _ _ (fun _ _ => ?_)).trans ?_ | (dsimp only; first | split | with_reducible refine (foldl_inv _ _ _ _ (fun _ _ => ?_)).trans ?_)))

@[simp] theorem State.restart_frame3 (s : State) (p c at_ : Nat) :
    (s.restart p c at_).safe = s.safe ∧ (s.restart p c at_).dm = s.dm ∧ (s.restart p c at_).cm = s.cm ∧
    (s.restart p c at_).cf = s.cf ∧ (s.restart p c at_).pw = s.pw ∧ (s.restart p c at_).th = s.th := by
  and_intros <;> (unfold State.restart; repeat' (first | with_reducible rfl | (simp; done) | split | with_reducible refine (foldl_inv _ _ _ _ (fun _ _ => ?_)).trans ?_ | (dsimp only; first | split | with_reducible refine (foldl_inv _ _ _ _ (fun _ _ => ?_)).trans ?_)))

@[simp] theorem State.slotStart_frame (s : State) (p k : Nat) :
    (s.slotStart p k).now = s.now ∧ (s.slotStart p k).phase = s.phase ∧ (s.slotStart p k).pending = s.pending ∧
    (s.slotStart p k).nodeOfs = s.nodeOfs ∧ (s.slotStart p k).freeCtr = s.freeCtr ∧ (s.slotStart p k).tx = s.tx ∧
    (s.slotStart p k).tl = s.tl ∧ (s.slotStart p k).sq = s.sq := by
  and_intros <;> (unfold State.slotStart; repeat' (first | with_reducible rfl | (simp; done) | split | with_reducible refine (foldl_inv _ _ _ _ (fun _ _ => ?_)).trans ?_ | (dsimp only; first | split | with_reducible refine (foldl_inv _ _ _ _ (fun _ _ => ?_)).trans ?_)))

@[simp] theorem State.slotStart_frame2 (s : State) (p k : Nat) :
    (s.slotStart p k).fd = s.fd ∧ (s.slotStart p k).ex = s.ex ∧ (s.slotStart p k).sv = s.sv ∧ (s.slotStart p k).aq = s.aq ∧
    (s.slotStart p k).il = s.il ∧ (s.slotStart p k).ln = s.ln ∧ (s.slotStart p k).fl = s.fl ∧ (s.slotStart p k).ev = s.ev := by
  and_intros <;> (unfold State.slotStart; repeat' (first | with_reducible rfl | (simp; done) | split | with_reducible refine (foldl_inv _ _ _ _ (fun _ _ => ?_)).trans ?_ | (dsimp only; first | split | with_reducible refine (foldl_inv _ _ _ _ (fun _ _ => ?_)).trans ?_)))

@[simp] theorem State.slotStart_frame3 (s : State) (p k : Nat) :
    (s.slotStart p k).safe = s.safe ∧ (s.slotStart p k).dm = s.dm ∧ (s.slotStart p k).cm = s.cm ∧
    (s.slotStart p k).cf = s.cf ∧ (s.slotStart p k).pw = s.pw ∧ (s.slotStart p k).th = s.th := by
  and_intros <;> (unfold State.slotStart; repeat' (first | with_reducible rfl | (simp; done) | split | with_reducible refine (foldl_inv _ _ _ _ (fun _ _ => ?_)).trans ?_ | (dsimp only; first | split | with_reducible refine (foldl_inv _ _ _ _ (fun _ _ => ?_)).trans ?_)))

@[simp] theorem State.pairJudge_frame (s : State) (p : Nat) :
    (s.pairJudge p).now = s.now ∧ (s.pairJudge p).phase = s.phase ∧ (s.pairJudge p).pending = s.pending ∧
    (s.pairJudge p).nodeOfs = s.nodeOfs ∧ (s.pairJudge p).freeCtr = s.freeCtr ∧ (s.pairJudge p).tx = s.tx ∧
    (s.pairJudge p).tl = s.tl ∧ (s.pairJudge p).sq = s.sq := by
  and_intros <;> (unfold State.pairJudge; repeat' (first | with_reducible rfl | (simp; done) | split | with_reducible refine (foldl_inv _ _ _ _ (fun _ _ => ?_)).trans ?_ | (dsimp only; first | split | with_reducible refine (foldl_inv _ _ _ _ (fun _ _ => ?_)).trans ?_)))

@[simp] theorem State.pairJudge_frame2 (s : State) (p : Nat) :
    (s.pairJudge p).fd = s.fd ∧ (s.pairJudge p).ex = s.ex ∧ (s.pairJudge p).sv = s.sv ∧ (s.pairJudge p).ax = s.ax ∧
    (s.pairJudge p).aq = s.aq ∧ (s.pairJudge p).il = s.il ∧ (s.pairJudge p).ln = s.ln ∧ (s.pairJudge p).fl = s.fl := by
  and_intros <;> (unfold State.pairJudge; repeat' (first | with_reducible rfl | (simp; done) | split | with_reducible refine (foldl_inv _ _ _ _ (fun _ _ => ?_)).trans ?_ | (dsimp only; first | split | with_reducible refine (foldl_inv _ _ _ _ (fun _ _ => ?_)).trans ?_)))

@[simp] theorem State.pairJudge_frame3 (s : State) (p : Nat) :
    (s.pairJudge p).ev = s.ev ∧ (s.pairJudge p).safe = s.safe ∧ (s.pairJudge p).dm = s.dm ∧ (s.pairJudge p).cm = s.cm ∧
    (s.pairJudge p).cf = s.cf ∧ (s.pairJudge p).pw = s.pw ∧ (s.pairJudge p).th = s.th := by
  and_intros <;> (unfold State.pairJudge; repeat' (first | with_reducible rfl | (simp; done) | split | with_reducible refine (foldl_inv _ _ _ _ (fun _ _ => ?_)).trans ?_ | (dsimp only; first | split | with_reducible refine (foldl_inv _ _ _ _ (fun _ _ => ?_)).trans ?_)))

@[simp] theorem State.pairStop_frame (s : State) (p : Nat) :
    (s.pairStop p).now = s.now ∧ (s.pairStop p).phase = s.phase ∧ (s.pairStop p).pending = s.pending ∧
    (s.pairStop p).nodeOfs = s.nodeOfs ∧ (s.pairStop p).freeCtr = s.freeCtr ∧ (s.pairStop p).tx = s.tx ∧
    (s.pairStop p).tl = s.tl ∧ (s.pairStop p).sq = s.sq := by
  and_intros <;> (unfold State.pairStop; repeat' (first | with_reducible rfl | (simp; done) | split | with_reducible refine (foldl_inv _ _ _ _ (fun _ _ => ?_)).trans ?_ | (dsimp only; first | split | with_reducible refine (foldl_inv _ _ _ _ (fun _ _ => ?_)).trans ?_)))

@[simp] theorem State.pairStop_frame2 (s : State) (p : Nat) :
    (s.pairStop p).fd = s.fd ∧ (s.pairStop p).ex = s.ex ∧ (s.pairStop p).sv = s.sv ∧ (s.pairStop p).aq = s.aq ∧
    (s.pairStop p).il = s.il ∧ (s.pairStop p).ln = s.ln ∧ (s.pairStop p).fl = s.fl ∧ (s.pairStop p).ev = s.ev := by
  and_intros <;> (unfold State.pairStop; repeat' (first | with_reducible rfl | (simp; done) | split | with_reducible refine (foldl_inv _ _ _ _ (fun _ _ => ?_)).trans ?_ | (dsimp only; first | split | with_reducible refine (foldl_inv _ _ _ _ (fun _ _ => ?_)).trans ?_)))

@[simp] theorem State.pairStop_frame3 (s : State) (p : Nat) :
    (s.pairStop p).safe = s.safe ∧ (s.pairStop p).dm = s.dm ∧ (s.pairStop p).cm = s.cm ∧ (s.pairStop p).cf = s.cf ∧
    (s.pairStop p).pw = s.pw ∧ (s.pairStop p).th = s.th := by
  and_intros <;> (unfold State.pairStop; repeat' (first | with_reducible rfl | (simp; done) | split | with_reducible refine (foldl_inv _ _ _ _ (fun _ _ => ?_)).trans ?_ | (dsimp only; first | split | with_reducible refine (foldl_inv _ _ _ _ (fun _ _ => ?_)).trans ?_)))

@[simp] theorem State.pairConfig_frame (s : State) (p : Nat) (restartAll : Bool) :
    (s.pairConfig p restartAll).now = s.now ∧ (s.pairConfig p restartAll).phase = s.phase ∧
    (s.pairConfig p restartAll).pending = s.pending ∧ (s.pairConfig p restartAll).nodeOfs = s.nodeOfs ∧
    (s.pairConfig p restartAll).freeCtr = s.freeCtr ∧ (s.pairConfig p restartAll).tx = s.tx ∧
    (s.pairConfig p restartAll).tl = s.tl ∧ (s.pairConfig p restartAll).sq = s.sq := by
  and_intros <;> (unfold State.pairConfig; repeat' (first | with_reducible rfl | (simp; done) | split | with_reducible refine (foldl_inv _ _ _ _ (fun _ _ => ?_)).trans ?_ | (dsimp only; first | split | with_reducible refine (foldl_inv _ _ _ _ (fun _ _ => ?_)).trans ?_)))

@[simp] theorem State.pairConfig_frame2 (s : State) (p : Nat) (restartAll : Bool) :
    (s.pairConfig p restartAll).fd = s.fd ∧ (s.pairConfig p restartAll).ex = s.ex ∧ (s.pairConfig p restartAll).sv = s.sv ∧
    (s.pairConfig p restartAll).aq = s.aq ∧ (s.pairConfig p restartAll).il = s.il ∧ (s.pairConfig p restartAll).ln = s.ln ∧
    (s.pairConfig p restartAll).fl = s.fl ∧ (s.pairConfig p restartAll).ev = s.ev := by
  and_intros <;> (unfold State.pairConfig; repeat' (first | with_reducible rfl | (simp; done) | split | with_reducible refine (foldl_inv _ _ _ _ (fun _ _ => ?_)).trans ?_ | (dsimp only; first | split | with_reducible refine (foldl_inv _ _ _ _ (fun _ _ => ?_)).trans ?_)))

@[simp] theorem State.pairConfig_frame3 (s : State) (p : Nat) (restartAll : Bool) :
    (s.pairConfig p restartAll).safe = s.safe ∧ (s.pairConfig p restartAll).dm = s.dm ∧
    (s.pairConfig p restartAll).cm = s.cm ∧ (s.pairConfig p restartAll).cf = s.cf ∧ (s.pairConfig p restartAll).pw = s.pw ∧
    (s.pairConfig p restartAll).th = s.th := by
  and_intros <;> (unfold State.pairConfig; repeat' (first | with_reducible rfl | (simp; done) | split | with_reducible refine (foldl_inv _ _ _ _ (fun _ _ => ?_)).trans ?_ | (dsimp only; first | split | with_reducible refine (foldl_inv _ _ _ _ (fun _ _ => ?_)).trans ?_)))

@[simp] theorem State.pinsChecked_frame (s : State) :
    (s.pinsChecked).now = s.now ∧ (s.pinsChecked).phase = s.phase ∧ (s.pinsChecked).pending = s.pending ∧
    (s.pinsChecked).nodeOfs = s.nodeOfs ∧ (s.pinsChecked).freeCtr = s.freeCtr ∧ (s.pinsChecked).tx = s.tx ∧
    (s.pinsChecked).tl = s.tl ∧ (s.pinsChecked).sq = s.sq := by
  and_intros <;> (unfold State.pinsChecked; repeat' (first | with_reducible rfl | (simp; done) | split | with_reducible refine (foldl_inv _ _ _ _ (fun _ _ => ?_)).trans ?_ | (dsimp only; first | split | with_reducible refine (foldl_inv _ _ _ _ (fun _ _ => ?_)).trans ?_)))

@[simp] theorem State.pinsChecked_frame2 (s : State) :
    (s.pinsChecked).fd = s.fd ∧ (s.pinsChecked).ex = s.ex ∧ (s.pinsChecked).sv = s.sv ∧ (s.pinsChecked).ax = s.ax ∧
    (s.pinsChecked).aq = s.aq ∧ (s.pinsChecked).il = s.il ∧ (s.pinsChecked).ln = s.ln ∧ (s.pinsChecked).fl = s.fl := by
  and_intros <;> (unfold State.pinsChecked; repeat' (first | with_reducible rfl | (simp; done) | split | with_reducible refine (foldl_inv _ _ _ _ (fun _ _ => ?_)).trans ?_ | (dsimp only; first | split | with_reducible refine (foldl_inv _ _ _ _ (fun _ _ => ?_)).trans ?_)))

@[simp] theorem State.pinsChecked_frame3 (s : State) :
    (s.pinsChecked).ev = s.ev ∧ (s.pinsChecked).safe = s.safe ∧ (s.pinsChecked).dm = s.dm ∧ (s.pinsChecked).cm = s.cm ∧
    (s.pinsChecked).cf = s.cf ∧ (s.pinsChecked).pw = s.pw ∧ (s.pinsChecked).th = s.th := by
  and_intros <;> (unfold State.pinsChecked; repeat' (first | with_reducible rfl | (simp; done) | split | with_reducible refine (foldl_inv _ _ _ _ (fun _ _ => ?_)).trans ?_ | (dsimp only; first | split | with_reducible refine (foldl_inv _ _ _ _ (fun _ _ => ?_)).trans ?_)))

@[simp] theorem State.dcbEdge_frame (s : State) (c was : Nat) :
    (s.dcbEdge c was).now = s.now ∧ (s.dcbEdge c was).phase = s.phase ∧ (s.dcbEdge c was).pending = s.pending ∧
    (s.dcbEdge c was).nodeOfs = s.nodeOfs ∧ (s.dcbEdge c was).freeCtr = s.freeCtr ∧ (s.dcbEdge c was).tx = s.tx ∧
    (s.dcbEdge c was).regs = s.regs ∧ (s.dcbEdge c was).tl = s.tl := by
  and_intros <;> (unfold State.dcbEdge; repeat' (first | with_reducible rfl | (simp; done) | split | with_reducible refine (foldl_inv _ _ _ _ (fun _ _ => ?_)).trans ?_ | (dsimp only; first | split | with_reducible refine (foldl_inv _ _ _ _ (fun _ _ => ?_)).trans ?_)))

@[simp] theorem State.dcbEdge_frame2 (s : State) (c was : Nat) :
    (s.dcbEdge c was).sq = s.sq ∧ (s.dcbEdge c was).fd = s.fd ∧ (s.dcbEdge c was).ex = s.ex ∧ (s.dcbEdge c was).sv = s.sv ∧
    (s.dcbEdge c was).aq = s.aq ∧ (s.dcbEdge c was).il = s.il ∧ (s.dcbEdge c was).ln = s.ln ∧ (s.dcbEdge c was).fl = s.fl := by
  and_intros <;> (unfold State.dcbEdge; repeat' (first | with_reducible rfl | (simp; done) | split | with_reducible refine (foldl_inv _ _ _ _ (fun _ _ => ?_)).trans ?_ | (dsimp only; first | split | with_reducible refine (foldl_inv _ _ _ _ (fun _ _ => ?_)).trans ?_)))

@[simp] theorem State.dcbEdge_frame3 (s : State) (c was : Nat) :
    (s.dcbEdge c was).ev = s.ev ∧ (s.dcbEdge c was).safe = s.safe ∧ (s.dcbEdge c was).dm = s.dm ∧
    (s.dcbEdge c was).cm = s.cm ∧ (s.dcbEdge c was).cf = s.cf ∧ (s.dcbEdge c was).pw = s.pw ∧ (s.dcbEdge c was).th = s.th := by
  and_intros <;> (unfold State.dcbEdge; repeat' (first | with_reducible rfl | (simp; done) | split | with_reducible refine (foldl_inv _ _ _ _ (fun _ _ => ?_)).trans ?_ | (dsimp only; first | split | with_reducible refine (foldl_inv _ _ _ _ (fun _ _ => ?_)).trans ?_)))

@[simp] theorem State.chanLooked_frame (s : State) (c dcbWas : Nat) :
    (s.chanLooked c dcbWas).now = s.now ∧ (s.chanLooked c dcbWas).phase = s.phase ∧
    (s.chanLooked c dcbWas).pending = s.pending ∧ (s.chanLooked c dcbWas).nodeOfs = s.nodeOfs ∧
    (s.chanLooked c dcbWas).freeCtr = s.freeCtr ∧ (s.chanLooked c dcbWas).tx = s.tx ∧ (s.chanLooked c dcbWas).tl = s.tl ∧
    (s.chanLooked c dcbWas).sq = s.sq := by
  and_intros <;> (unfold State.chanLooked; repeat' (first | with_reducible rfl | (simp; done) | split | with_reducible refine (foldl_inv _ _ _ _ (fun _ _ => ?_)).trans ?_ | (dsimp only; first | split | with_reducible refine (foldl_inv _ _ _ _ (fun _ _ => ?_)).trans ?_)))

@[simp] theorem State.chanLooked_frame2 (s : State) (c dcbWas : Nat) :
    (s.chanLooked c dcbWas).fd = s.fd ∧ (s.chanLooked c dcbWas).ex = s.ex ∧ (s.chanLooked c dcbWas).sv = s.sv ∧
    (s.chanLooked c dcbWas).aq = s.aq ∧ (s.chanLooked c dcbWas).il = s.il ∧ (s.chanLooked c dcbWas).ln = s.ln ∧
    (s.chanLooked c dcbWas).fl = s.fl ∧ (s.chanLooked c dcbWas).ev = s.ev := by
  and_intros <;> (unfold State.chanLooked; repeat' (first | with_reducible rfl | (simp; done) | split | with_reducible refine (foldl_inv _ _ _ _ (fun _ _ => ?_)).trans ?_ | (dsimp only; first | split | with_reducible refine (foldl_inv _ _ _ _ (fun _ _ => ?_)).trans ?_)))

@[simp] theorem State.chanLooked_frame3 (s : State) (c dcbWas : Nat) :
    (s.chanLooked c dcbWas).safe = s.safe ∧ (s.chanLooked c dcbWas).dm = s.dm ∧ (s.chanLooked c dcbWas).cm = s.cm ∧
    (s.chanLooked c dcbWas).cf = s.cf ∧ (s.chanLooked c dcbWas).pw = s.pw ∧ (s.chanLooked c dcbWas).th = s.th := by
  and_intros <;> (unfold State.chanLooked; repeat' (first | with_reducible rfl | (simp; done) | split | with_reducible refine (foldl_inv _ _ _ _ (fun _ _ => ?_)).trans ?_ | (dsimp only; first | split | with_reducible refine (foldl_inv _ _ _ _ (fun _ _ => ?_)).trans ?_)))

@[simp] theorem State.applyChan_frame (s : State) (c : Nat) :
    (s.applyChan c).now = s.now ∧ (s.applyChan c).phase = s.phase ∧ (s.applyChan c).pending = s.pending ∧
    (s.applyChan c).nodeOfs = s.nodeOfs ∧ (s.applyChan c).freeCtr = s.freeCtr ∧ (s.applyChan c).tl = s.tl ∧
    (s.applyChan c).fd = s.fd ∧ (s.applyChan c).ex = s.ex := by
  and_intros <;> (unfold State.applyChan; repeat' (first | with_reducible rfl | (simp; done) | split | with_reducible refine (foldl_inv _ _ _ _ (fun _ _ => ?_)).trans ?_ | (dsimp only; first | split | with_reducible refine (foldl_inv _ _ _ _ (fun _ _ => ?_)).trans ?_)))

@[simp] theorem State.applyChan_frame2 (s : State) (c : Nat) :
    (s.applyChan c).sv = s.sv ∧ (s.applyChan c).aq = s.aq ∧ (s.applyChan c).il = s.il ∧ (s.applyChan c).ln = s.ln ∧
    (s.applyChan c).dm = s.dm ∧ (s.applyChan c).cm = s.cm ∧ (s.applyChan c).pw = s.pw ∧ (s.applyChan c).th = s.th := by
  and_intros <;> (unfold State.applyChan; repeat' (first | with_reducible rfl | (simp; done) | split | with_reducible refine (foldl_inv _ _ _ _ (fun _ _ => ?_)).trans ?_ | (dsimp only; first | split | with_reducible refine (foldl_inv _ _ _ _ (fun _ _ => ?_)).trans ?_)))

@[simp] theorem State.absorb_frame (s : State) (p c : Nat) (prim sec : List Int) :
    (s.absorb p c prim sec).now = s.now ∧ (s.absorb p c prim sec).phase = s.phase ∧
    (s.absorb p c prim sec).pending = s.pending ∧ (s.absorb p c prim sec).nodeOfs = s.nodeOfs ∧
    (s.absorb p c prim sec).freeCtr = s.freeCtr ∧ (s.absorb p c prim sec).tx = s.tx ∧ (s.absorb p c prim sec).regs = s.regs ∧
    (s.absorb p c prim sec).tl = s.tl := by
  and_intros <;> (unfold State.absorb; repeat' (first | with_reducible rfl | (simp; done) | split | with_reducible refine (foldl_inv _ _ _ _ (fun _ _ => ?_)).trans ?_ | (dsimp only; first | split | with_reducible refine (foldl_inv _ _ _ _ (fun _ _ => ?_)).trans ?_)))

@[simp] theorem State.absorb_frame2 (s : State) (p c : Nat) (prim sec : List Int) :
    (s.absorb p c prim sec).sq = s.sq ∧ (s.absorb p c prim sec).fd = s.fd ∧ (s.absorb p c prim sec).ex = s.ex ∧
    (s.absorb p c prim sec).sv = s.sv ∧ (s.absorb p c prim sec).aq = s.aq ∧ (s.absorb p c prim sec).il = s.il ∧
    (s.absorb p c prim sec).ln = s.ln ∧ (s.absorb p c prim sec).fl = s.fl := by
  and_intros <;> (unfold State.absorb; repeat' (first | with_reducible rfl | (simp; done) | split | with_reducible refine (foldl_inv _ _ _ _ (fun _ _ => ?_)).trans ?_ | (dsimp only; first | split | with_reducible refine (foldl_inv _ _ _ _ (fun _ _ => ?_)).trans ?_)))

@[simp] theorem State.absorb_frame3 (s : State) (p c : Nat) (prim sec : List Int) :
    (s.absorb p c prim sec).ev = s.ev ∧ (s.absorb p c prim sec).safe = s.safe ∧ (s.absorb p c prim sec).dm = s.dm ∧
    (s.absorb p c prim sec).cm = s.cm ∧ (s.absorb p c prim sec).cf = s.cf ∧ (s.absorb p c prim sec).pw = s.pw ∧
    (s.absorb p c prim sec).th = s.th := by
  and_intros <;> (unfold State.absorb; repeat' (first | with_reducible rfl | (simp; done) | split | with_reducible refine (foldl_inv _ _ _ _ (fun _ _ => ?_)).trans ?_ | (dsimp only; first | split | with_reducible refine (foldl_inv _ _ _ _ (fun _ _ => ?_)).trans ?_)))

@[simp] theorem State.thresholdsAt_frame (s : State) (c : Nat) (v : Int) :
    (s.thresholdsAt c v).now = s.now ∧ (s.thresholdsAt c v).phase = s.phase ∧ (s.thresholdsAt c v).pending = s.pending ∧
    (s.thresholdsAt c v).nodeOfs = s.nodeOfs ∧ (s.thresholdsAt c v).freeCtr = s.freeCtr ∧ (s.thresholdsAt c v).tx = s.tx ∧
    (s.thresholdsAt c v).tl = s.tl ∧ (s.thresholdsAt c v).sq = s.sq := by
  and_intros <;> (unfold State.thresholdsAt; repeat' (first | with_reducible rfl | (simp; done) | split | with_reducible refine (foldl_inv _ _ _ _ (fun _ _ => ?_)).trans ?_ | (dsimp only; first | split | with_reducible refine (foldl_inv _ _ _ _ (fun _ _ => ?_)).trans ?_)))

@[simp] theorem State.thresholdsAt_frame2 (s : State) (c : Nat) (v : Int) :
    (s.thresholdsAt c v).fd = s.fd ∧ (s.thresholdsAt c v).ex = s.ex ∧ (s.thresholdsAt c v).sv = s.sv ∧
    (s.thresholdsAt c v).ax = s.ax ∧ (s.thresholdsAt c v).il = s.il ∧ (s.thresholdsAt c v).ln = s.ln ∧
    (s.thresholdsAt c v).safe = s.safe ∧ (s.thresholdsAt c v).dm = s.dm := by
  and_intros <;> (unfold State.thresholdsAt; repeat' (first | with_reducible rfl | (simp; done) | split | with_reducible refine (foldl_inv _ _ _ _ (fun _ _ => ?_)).trans ?_ | (dsimp only; first | split | with_reducible refine (foldl_inv _ _ _ _ (fun _ _ => ?_)).trans ?_)))

@[simp] theorem State.thresholdsAt_frame3 (s : State) (c : Nat) (v : Int) :
    (s.thresholdsAt c v).cm = s.cm ∧ (s.thresholdsAt c v).cf = s.cf ∧ (s.thresholdsAt c v).pw = s.pw ∧
    (s.thresholdsAt c v).th = s.th := by
  and_intros <;> (unfold State.thresholdsAt; repeat' (first | with_reducible rfl | (simp; done) | split | with_reducible refine (foldl_inv _ _ _ _ (fun _ _ => ?_)).trans ?_ | (dsimp only; first | split | with_reducible refine (foldl_inv _ _ _ _ (fun _ _ => ?_)).trans ?_)))

@[simp] theorem State.lampTempBack_frame (s : State) (c : Nat) :
    (s.lampTempBack c).now = s.now ∧ (s.lampTempBack c).phase = s.phase ∧ (s.lampTempBack c).pending = s.pending ∧
    (s.lampTempBack c).nodeOfs = s.nodeOfs ∧ (s.lampTempBack c).freeCtr = s.freeCtr ∧ (s.lampTempBack c).tx = s.tx ∧
    (s.lampTempBack c).tl = s.tl ∧ (s.lampTempBack c).sq = s.sq := by
  and_intros <;> (unfold State.lampTempBack; repeat' (first | with_reducible rfl | (simp; done) | split | with_reducible refine (foldl_inv _ _ _ _ (fun _ _ => ?_)).trans ?_ | (dsimp only; first | split | with_reducible refine (foldl_inv _ _ _ _ (fun _ _ => ?_)).trans ?_)))

@[simp] theorem State.lampTempBack_frame2 (s : State) (c : Nat) :
    (s.lampTempBack c).fd = s.fd ∧ (s.lampTempBack c).ex = s.ex ∧ (s.lampTempBack c).sv = s.sv ∧
    (s.lampTempBack c).ax = s.ax ∧ (s.lampTempBack c).aq = s.aq ∧ (s.lampTempBack c).il = s.il ∧
    (s.lampTempBack c).ln = s.ln ∧ (s.lampTempBack c).fl = s.fl := by
  and_intros <;> (unfold State.lampTempBack; repeat' (first | with_reducible rfl | (simp; done) | split | with_reducible refine (foldl_inv _ _ _ _ (fun _ _ => ?_)).trans ?_ | (dsimp only; first | split | with_reducible refine (foldl_inv _ _ _ _ (fun _ _ => ?_)).trans ?_)))

@[simp] theorem State.lampTempBack_frame3 (s : State) (c : Nat) :
    (s.lampTempBack c).ev = s.ev ∧ (s.lampTempBack c).safe = s.safe ∧ (s.lampTempBack c).dm = s.dm ∧
    (s.lampTempBack c).cm = s.cm ∧ (s.lampTempBack c).cf = s.cf ∧ (s.lampTempBack c).pw = s.pw ∧
    (s.lampTempBack c).th = s.th := by
  and_intros <;> (unfold State.lampTempBack; repeat' (first | with_reducible rfl | (simp; done) | split | with_reducible refine (foldl_inv _ _ _ _ (fun _ _ => ?_)).trans ?_ | (dsimp only; first | split | with_reducible refine (foldl_inv _ _ _ _ (fun _ _ => ?_)).trans ?_)))

@[simp] theorem State.deliverOutput_frame (s : State) (c : Nat) (v : Int) (unset ovr clip plaus blank : Bool) :
    (s.deliverOutput c v unset ovr clip plaus blank).now = s.now ∧
    (s.deliverOutput c v unset ovr clip plaus blank).phase = s.phase ∧
    (s.deliverOutput c v unset ovr clip plaus blank).pending = s.pending ∧
    (s.deliverOutput c v unset ovr clip plaus blank).nodeOfs = s.nodeOfs ∧
    (s.deliverOutput c v unset ovr clip plaus blank).freeCtr = s.freeCtr ∧
    (s.deliverOutput c v unset ovr clip plaus blank).tx = s.tx ∧ (s.deliverOutput c v unset ovr clip plaus blank).tl = s.tl ∧
    (s.deliverOutput c v unset ovr clip plaus blank).sq = s.sq := by
  and_intros <;> (unfold State.deliverOutput; repeat' (first | with_reducible rfl | (simp; done) | split | with_reducible refine (foldl_inv _ _ _ _ (fun _ _ => ?_)).trans ?_ | (dsimp only; first | split | with_reducible refine (foldl_inv _ _ _ _ (fun _ _ => ?_)).trans ?_)))

@[simp] theorem State.deliverOutput_frame2 (s : State) (c : Nat) (v : Int) (unset ovr clip plaus blank : Bool) :
    (s.deliverOutput c v unset ovr clip plaus blank).fd = s.fd ∧ (s.deliverOutput c v unset ovr clip plaus blank).ex = s.ex ∧
    (s.deliverOutput c v unset ovr clip plaus blank).il = s.il ∧ (s.deliverOutput c v unset ovr clip plaus blank).ln = s.ln ∧
    (s.deliverOutput c v unset ovr clip plaus blank).safe = s.safe ∧
    (s.deliverOutput c v unset ovr clip plaus blank).dm = s.dm ∧ (s.deliverOutput c v unset ovr clip plaus blank).cm = s.cm ∧
    (s.deliverOutput c v unset ovr clip plaus blank).cf = s.cf := by
  and_intros <;> (unfold State.deliverOutput; repeat' (first | with_reducible rfl | (simp; done) | split | with_reducible refine (foldl_inv _ _ _ _ (fun _ _ => ?_)).trans ?_ | (dsimp only; first | split | with_reducible refine (foldl_inv _ _ _ _ (fun _ _ => ?_)).trans ?_)))

@[simp] theorem State.deliverOutput_frame3 (s : State) (c : Nat) (v : Int) (unset ovr clip plaus blank : Bool) :
    (s.deliverOutput c v unset ovr clip plaus blank).pw = s.pw ∧ (s.deliverOutput c v unset ovr clip plaus blank).th = s.th := by
  and_intros <;> (unfold State.deliverOutput; repeat' (first | with_reducible rfl | (simp; done) | split | with_reducible refine (foldl_inv _ _ _ _ (fun _ _ => ?_)).trans ?_ | (dsimp only; first | split | with_reducible refine (foldl_inv _ _ _ _ (fun _ _ => ?_)).trans ?_)))

@[simp] theorem State.placeholder_frame (s : State) (c : Nat) :
    (s.placeholder c).now = s.now ∧ (s.placeholder c).phase = s.phase ∧ (s.placeholder c).pending = s.pending ∧
    (s.placeholder c).nodeOfs = s.nodeOfs ∧ (s.placeholder c).freeCtr = s.freeCtr ∧ (s.placeholder c).tx = s.tx ∧
    (s.placeholder c).tl = s.tl ∧ (s.placeholder c).sq = s.sq := by
  and_intros <;> (unfold State.placeholder; repeat' (first | with_reducible rfl | (simp; done) | split | with_reducible refine (foldl_inv _ _ _ _ (fun _ _ => ?_)).trans ?_ | (dsimp only; first | split | with_reducible refine (foldl_inv _ _ _ _ (fun _ _ => ?_)).trans ?_)))

@[simp] theorem State.placeholder_frame2 (s : State) (c : Nat) :
    (s.placeholder c).fd = s.fd ∧ (s.placeholder c).ex = s.ex ∧ (s.placeholder c).il = s.il ∧ (s.placeholder c).ln = s.ln ∧
    (s.placeholder c).safe = s.safe ∧ (s.placeholder c).dm = s.dm ∧ (s.placeholder c).cm = s.cm ∧
    (s.placeholder c).cf = s.cf := by
  and_intros <;> (unfold State.placeholder; repeat' (first | with_reducible rfl | (simp; done) | split | with_reducible refine (foldl_inv _ _ _ _ (fun _ _ => ?_)).trans ?_ | (dsimp only; first | split | with_reducible refine (foldl_inv _ _ _ _ (fun _ _ => ?_)).trans ?_)))

@[simp] theorem State.placeholder_frame3 (s : State) (c : Nat) :
    (s.placeholder c).pw = s.pw ∧ (s.placeholder c).th = s.th := by
  and_intros <;> (unfold State.placeholder; repeat' (first | with_reducible rfl | (simp; done) | split | with_reducible refine (foldl_inv _ _ _ _ (fun _ _ => ?_)).trans ?_ | (dsimp only; first | split | with_reducible refine (foldl_inv _ _ _ _ (fun _ _ => ?_)).trans ?_)))

@[simp] theorem State.plausible_frame (s : State) (c : Nat) (prim sec : Int) :
    (s.plausible c prim sec).1.now = s.now ∧ (s.plausible c prim sec).1.phase = s.phase ∧
    (s.plausible c prim sec).1.pending = s.pending ∧ (s.plausible c prim sec).1.nodeOfs = s.nodeOfs ∧
    (s.plausible c prim sec).1.freeCtr = s.freeCtr ∧ (s.plausible c prim sec).1.tx = s.tx ∧
    (s.plausible c prim sec).1.tl = s.tl ∧ (s.plausible c prim sec).1.sq = s.sq := by
  and_intros <;> (unfold State.plausible; repeat' (first | with_reducible rfl | (simp; done) | split | with_reducible refine (foldl_inv _ _ _ _ (fun _ _ => ?_)).trans ?_ | (dsimp only; first | split | with_reducible refine (foldl_inv _ _ _ _ (fun _ _ => ?_)).trans ?_)))

@[simp] theorem State.plausible_frame2 (s : State) (c : Nat) (prim sec : Int) :
    (s.plausible c prim sec).1.fd = s.fd ∧ (s.plausible c prim sec).1.ex = s.ex ∧ (s.plausible c prim sec).1.sv = s.sv ∧
    (s.plausible c prim sec).1.aq = s.aq ∧ (s.plausible c prim sec).1.il = s.il ∧ (s.plausible c prim sec).1.ln = s.ln ∧
    (s.plausible c prim sec).1.fl = s.fl ∧ (s.plausible c prim sec).1.safe = s.safe := by
  and_intros <;> (unfold State.plausible; repeat' (first | with_reducible rfl | (simp; done) | split | with_reducible refine (foldl_inv _ _ _ _ (fun _ _ => ?_)).trans ?_ | (dsimp only; first | split | with_reducible refine (foldl_inv _ _ _ _ (fun _ _ => ?_)).trans ?_)))

@[simp] theorem State.plausible_frame3 (s : State) (c : Nat) (prim sec : Int) :
    (s.plausible c prim sec).1.dm = s.dm ∧ (s.plausible c prim sec).1.cm = s.cm ∧ (s.plausible c prim sec).1.cf = s.cf ∧
    (s.plausible c prim sec).1.pw = s.pw ∧ (s.plausible c prim sec).1.th = s.th := by
  and_intros <;> (unfold State.plausible; repeat' (first | with_reducible rfl | (simp; done) | split | with_reducible refine (foldl_inv _ _ _ _ (fun _ _ => ?_)).trans ?_ | (dsimp only; first | split | with_reducible refine (foldl_inv _ _ _ _ (fun _ _ => ?_)).trans ?_)))

@[simp] theorem State.convert_frame (s : State) (p c : Nat) (prim sec : Int) :
    (s.convert p c prim sec).now = s.now ∧ (s.convert p c prim sec).phase = s.phase ∧
    (s.convert p c prim sec).pending = s.pending ∧ (s.convert p c prim sec).nodeOfs = s.nodeOfs ∧
    (s.convert p c prim sec).freeCtr = s.freeCtr ∧ (s.convert p c prim sec).tx = s.tx ∧ (s.convert p c prim sec).tl = s.tl ∧
    (s.convert p c prim sec).sq = s.sq := by
  and_intros <;> (unfold State.convert; repeat' (first | with_reducible rfl | (simp; done) | split | with_reducible refine (foldl_inv _ _ _ _ (fun _ _ => ?_)).trans ?_ | (dsimp only; first | split | with_reducible refine (foldl_inv _ _ _ _ (fun _ _ => ?_)).trans ?_)))

@[simp] theorem State.convert_frame2 (s : State) (p c : Nat) (prim sec : Int) :
    (s.convert p c prim sec).fd = s.fd ∧ (s.convert p c prim sec).ex = s.ex ∧ (s.convert p c prim sec).il = s.il ∧
    (s.convert p c prim sec).ln = s.ln ∧ (s.convert p c prim sec).safe = s.safe ∧ (s.convert p c prim sec).dm = s.dm ∧
    (s.convert p c prim sec).cm = s.cm ∧ (s.convert p c prim sec).cf = s.cf := by
  and_intros <;> (unfold State.convert; repeat' (first | with_reducible rfl | (simp; done) | split | with_reducible refine (foldl_inv _ _ _ _ (fun _ _ => ?_)).trans ?_ | (dsimp only; first | split | with_reducible refine (foldl_inv _ _ _ _ (fun _ _ => ?_)).trans ?_)))

@[simp] theorem State.convert_frame3 (s : State) (p c : Nat) (prim sec : Int) :
    (s.convert p c prim sec).pw = s.pw ∧ (s.convert p c prim sec).th = s.th := by
  and_intros <;> (unfold State.convert; repeat' (first | with_reducible rfl | (simp; done) | split | with_reducible refine (foldl_inv _ _ _ _ (fun _ _ => ?_)).trans ?_ | (dsimp only; first | split | with_reducible refine (foldl_inv _ _ _ _ (fun _ _ => ?_)).trans ?_)))

@[simp] theorem State.blankDependents_frame (s : State) (p : Nat) :
    (s.blankDependents p).now = s.now ∧ (s.blankDependents p).phase = s.phase ∧ (s.blankDependents p).pending = s.pending ∧
    (s.blankDependents p).nodeOfs = s.nodeOfs ∧ (s.blankDependents p).freeCtr = s.freeCtr ∧ (s.blankDependents p).tx = s.tx ∧
    (s.blankDependents p).tl = s.tl ∧ (s.blankDependents p).sq = s.sq := by
  and_intros <;> (unfold State.blankDependents; repeat' (first | with_reducible rfl | (simp; done) | split | with_reducible refine (foldl_inv _ _ _ _ (fun _ _ => ?_)).trans ?_ | (dsimp only; first | split | with_reducible refine (foldl_inv _ _ _ _ (fun _ _ => ?_)).trans ?_)))

@[simp] theorem State.blankDependents_frame2 (s : State) (p : Nat) :
    (s.blankDependents p).fd = s.fd ∧ (s.blankDependents p).ex = s.ex ∧ (s.blankDependents p).sv = s.sv ∧
    (s.blankDependents p).aq = s.aq ∧ (s.blankDependents p).il = s.il ∧ (s.blankDependents p).ln = s.ln ∧
    (s.blankDependents p).fl = s.fl ∧ (s.blankDependents p).ev = s.ev := by
  and_intros <;> (unfold State.blankDependents; repeat' (first | with_reducible rfl | (simp; done) | split | with_reducible refine (foldl_inv _ _ _ _ (fun _ _ => ?_)).trans ?_ | (dsimp only; first | split | with_reducible refine (foldl_inv _ _ _ _ (fun _ _ => ?_)).trans ?_)))

@[simp] theorem State.blankDependents_frame3 (s : State) (p : Nat) :
    (s.blankDependents p).safe = s.safe ∧ (s.blankDependents p).dm = s.dm ∧ (s.blankDependents p).cm = s.cm ∧
    (s.blankDependents p).cf = s.cf ∧ (s.blankDependents p).pw = s.pw ∧ (s.blankDependents p).th = s.th := by
  and_intros <;> (unfold State.blankDependents; repeat' (first | with_reducible rfl | (simp; done) | split | with_reducible refine (foldl_inv _ _ _ _ (fun _ _ => ?_)).trans ?_ | (dsimp only; first | split | with_reducible refine (foldl_inv _ _ _ _ (fun _ _ => ?_)).trans ?_)))

@[simp] theorem State.endBlank_frame (s : State) (p c at_ : Nat) :
    (s.endBlank p c at_).now = s.now ∧ (s.endBlank p c at_).phase = s.phase ∧ (s.endBlank p c at_).pending = s.pending ∧
    (s.endBlank p c at_).nodeOfs = s.nodeOfs ∧ (s.endBlank p c at_).freeCtr = s.freeCtr ∧ (s.endBlank p c at_).tx = s.tx ∧
    (s.endBlank p c at_).tl = s.tl ∧ (s.endBlank p c at_).sq = s.sq := by
  and_intros <;> (unfold State.endBlank; repeat' (first | with_reducible rfl | (simp; done) | split | with_reducible refine (foldl_inv _ _ _ _ (fun _ _ => ?_)).trans ?_ | (dsimp only; first | split | with_reducible refine (foldl_inv _ _ _ _ (fun _ _ => ?_)).trans ?_)))

@[simp] theorem State.endBlank_frame2 (s : State) (p c at_ : Nat) :
    (s.endBlank p c at_).fd = s.fd ∧ (s.endBlank p c at_).ex = s.ex ∧ (s.endBlank p c at_).sv = s.sv ∧
    (s.endBlank p c at_).aq = s.aq ∧ (s.endBlank p c at_).il = s.il ∧ (s.endBlank p c at_).ln = s.ln ∧
    (s.endBlank p c at_).fl = s.fl ∧ (s.endBlank p c at_).ev = s.ev := by
  and_intros <;> (unfold State.endBlank; repeat' (first | with_reducible rfl | (simp; done) | split | with_reducible refine (foldl_inv _ _ _ _ (fun _ _ => ?_)).trans ?_ | (dsimp only; first | split | with_reducible refine (foldl_inv _ _ _ _ (fun _ _ => ?_)).trans ?_)))

@[simp] theorem State.endBlank_frame3 (s : State) (p c at_ : Nat) :
    (s.endBlank p c at_).safe = s.safe ∧ (s.endBlank p c at_).dm = s.dm ∧ (s.endBlank p c at_).cm = s.cm ∧
    (s.endBlank p c at_).cf = s.cf ∧ (s.endBlank p c at_).pw = s.pw ∧ (s.endBlank p c at_).th = s.th := by
  and_intros <;> (unfold State.endBlank; repeat' (first | with_reducible rfl | (simp; done) | split | with_reducible refine (foldl_inv _ _ _ _ (fun _ _ => ?_)).trans ?_ | (dsimp only; first | split | with_reducible refine (foldl_inv _ _ _ _ (fun _ _ => ?_)).trans ?_)))

@[simp] theorem State.unblank_frame (s : State) (p c : Nat) :
    (s.unblank p c).now = s.now ∧ (s.unblank p c).phase = s.phase ∧ (s.unblank p c).pending = s.pending ∧
    (s.unblank p c).nodeOfs = s.nodeOfs ∧ (s.unblank p c).freeCtr = s.freeCtr ∧ (s.unblank p c).tx = s.tx ∧
    (s.unblank p c).tl = s.tl ∧ (s.unblank p c).sq = s.sq := by
  and_intros <;> (unfold State.unblank; repeat' (first | with_reducible rfl | (simp; done) | split | with_reducible refine (foldl_inv _ _ _ _ (fun _ _ => ?_)).trans ?_ | (dsimp only; first | split | with_reducible refine (foldl_inv _ _ _ _ (fun _ _ => ?_)).trans ?_)))

@[simp] theorem State.unblank_frame2 (s : State) (p c : Nat) :
    (s.unblank p c).fd = s.fd ∧ (s.unblank p c).ex = s.ex ∧ (s.unblank p c).sv = s.sv ∧ (s.unblank p c).aq = s.aq ∧
    (s.unblank p c).il = s.il ∧ (s.unblank p c).ln = s.ln ∧ (s.unblank p c).fl = s.fl ∧ (s.unblank p c).ev = s.ev := by
  and_intros <;> (unfold State.unblank; repeat' (first | with_reducible rfl | (simp; done) | split | with_reducible refine (foldl_inv _ _ _ _ (fun _ _ => ?_)).trans ?_ | (dsimp only; first | split | with_reducible refine (foldl_inv _ _ _ _ (fun _ _ => ?_)).trans ?_)))

@[simp] theorem State.unblank_frame3 (s : State) (p c : Nat) :
    (s.unblank p c).safe = s.safe ∧ (s.unblank p c).dm = s.dm ∧ (s.unblank p c).cm = s.cm ∧ (s.unblank p c).cf = s.cf ∧
    (s.unblank p c).pw = s.pw ∧ (s.unblank p c).th = s.th := by
  and_intros <;> (unfold State.unblank; repeat' (first | with_reducible rfl | (simp; done) | split | with_reducible refine (foldl_inv _ _ _ _ (fun _ _ => ?_)).trans ?_ | (dsimp only; first | split | with_reducible refine (foldl_inv _ _ _ _ (fun _ _ => ?_)).trans ?_)))

@[simp] theorem State.chanOutput_frame (s : State) (p c : Nat) (prim sec : List Int) :
    (s.chanOutput p c prim sec).now = s.now ∧ (s.chanOutput p c prim sec).phase = s.phase ∧
    (s.chanOutput p c prim sec).pending = s.pending ∧ (s.chanOutput p c prim sec).nodeOfs = s.nodeOfs ∧
    (s.chanOutput p c prim sec).freeCtr = s.freeCtr ∧ (s.chanOutput p c prim sec).tx = s.tx ∧
    (s.chanOutput p c prim sec).tl = s.tl ∧ (s.chanOutput p c prim sec).sq = s.sq := by
  and_intros <;> (unfold State.chanOutput; repeat' (first | with_reducible rfl | (simp; done) | split | with_reducible refine (foldl_inv _ _ _ _ (fun _ _ => ?_)).trans ?_ | (dsimp only; first | split | with_reducible refine (foldl_inv _ _ _ _ (fun _ _ => ?_)).trans ?_)))

@[simp] theorem State.chanOutput_frame2 (s : State) (p c : Nat) (prim sec : List Int) :
    (s.chanOutput p c prim sec).fd = s.fd ∧ (s.chanOutput p c prim sec).ex = s.ex ∧ (s.chanOutput p c prim sec).il = s.il ∧
    (s.chanOutput p c prim sec).ln = s.ln ∧ (s.chanOutput p c prim sec).safe = s.safe ∧
    (s.chanOutput p c prim sec).dm = s.dm ∧ (s.chanOutput p c prim sec).cm = s.cm ∧ (s.chanOutput p c prim sec).cf = s.cf := by
  and_intros <;> (unfold State.chanOutput; repeat' (first | with_reducible rfl | (simp; done) | split | with_reducible refine (foldl_inv _ _ _ _ (fun _ _ => ?_)).trans ?_ | (dsimp only; first | split | with_reducible refine (foldl_inv _ _ _ _ (fun _ _ => ?_)).trans ?_)))

@[simp] theorem State.chanOutput_frame3 (s : State) (p c : Nat) (prim sec : List Int) :
    (s.chanOutput p c prim sec).pw = s.pw := by
  unfold State.chanOutput; repeat' (first | with_reducible rfl | (simp; done) | split | with_reducible refine (foldl_inv _ _ _ _ (fun _ _ => ?_)).trans ?_ | (dsimp only; first | split | with_reducible refine (foldl_inv _ _ _ _ (fun _ _ => ?_)).trans ?_))

@[simp] theorem State.decimatorSync_frame (s : State) :
    (s.decimatorSync).now = s.now ∧ (s.decimatorSync).phase = s.phase ∧ (s.decimatorSync).pending = s.pending ∧
    (s.decimatorSync).nodeOfs = s.nodeOfs ∧ (s.decimatorSync).freeCtr = s.freeCtr ∧ (s.decimatorSync).tx = s.tx ∧
    (s.decimatorSync).tl = s.tl ∧ (s.decimatorSync).sq = s.sq := by
  and_intros <;> (unfold State.decimatorSync; repeat' (first | with_reducible rfl | (simp; done) | split | with_reducible refine (foldl_inv _ _ _ _ (fun _ _ => ?_)).trans ?_ | (dsimp only; first | split | with_reducible refine (foldl_inv _ _ _ _ (fun _ _ => ?_)).trans ?_)))

@[simp] theorem State.decimatorSync_frame2 (s : State) :
    (s.decimatorSync).fd = s.fd ∧ (s.decimatorSync).ex = s.ex ∧ (s.decimatorSync).sv = s.sv ∧ (s.decimatorSync).aq = s.aq ∧
    (s.decimatorSync).il = s.il ∧ (s.decimatorSync).ln = s.ln ∧ (s.decimatorSync).fl = s.fl ∧ (s.decimatorSync).ev = s.ev := by
  and_intros <;> (unfold State.decimatorSync; repeat' (first | with_reducible rfl | (simp; done) | split | with_reducible refine (foldl_inv _ _ _ _ (fun _ _ => ?_)).trans ?_ | (dsimp only; first | split | with_reducible refine (foldl_inv _ _ _ _ (fun _ _ => ?_)).trans ?_)))

@[simp] theorem State.decimatorSync_frame3 (s : State) :
    (s.decimatorSync).safe = s.safe ∧ (s.decimatorSync).dm = s.dm ∧ (s.decimatorSync).cm = s.cm ∧
    (s.decimatorSync).cf = s.cf ∧ (s.decimatorSync).pw = s.pw ∧ (s.decimatorSync).th = s.th := by
  and_intros <;> (unfold State.decimatorSync; repeat' (first | with_reducible rfl | (simp; done) | split | with_reducible refine (foldl_inv _ _ _ _ (fun _ _ => ?_)).trans ?_ | (dsimp only; first | split | with_reducible refine (foldl_inv _ _ _ _ (fun _ _ => ?_)).trans ?_)))

@[simp] theorem State.firWrite_frame (s : State) (p tap : Nat) (v : Score) :
    (s.firWrite p tap v).now = s.now ∧ (s.firWrite p tap v).phase = s.phase ∧ (s.firWrite p tap v).pending = s.pending ∧
    (s.firWrite p tap v).nodeOfs = s.nodeOfs ∧ (s.firWrite p tap v).freeCtr = s.freeCtr ∧ (s.firWrite p tap v).tx = s.tx ∧
    (s.firWrite p tap v).tl = s.tl ∧ (s.firWrite p tap v).sq = s.sq := by
  and_intros <;> (unfold State.firWrite; repeat' (first | with_reducible rfl | (simp; done) | split | with_reducible refine (foldl_inv _ _ _ _ (fun _ _ => ?_)).trans ?_ | (dsimp only; first | split | with_reducible refine (foldl_inv _ _ _ _ (fun _ _ => ?_)).trans ?_)))

@[simp] theorem State.firWrite_frame2 (s : State) (p tap : Nat) (v : Score) :
    (s.firWrite p tap v).fd = s.fd ∧ (s.firWrite p tap v).ex = s.ex ∧ (s.firWrite p tap v).sv = s.sv ∧
    (s.firWrite p tap v).ax = s.ax ∧ (s.firWrite p tap v).aq = s.aq ∧ (s.firWrite p tap v).il = s.il ∧
    (s.firWrite p tap v).ln = s.ln ∧ (s.firWrite p tap v).fl = s.fl := by
  and_intros <;> (unfold State.firWrite; repeat' (first | with_reducible rfl | (simp; done) | split | with_reducible refine (foldl_inv _ _ _ _ (fun _ _ => ?_)).trans ?_ | (dsimp only; first | split | with_reducible refine (foldl_inv _ _ _ _ (fun _ _ => ?_)).trans ?_)))

@[simp] theorem State.firWrite_frame3 (s : State) (p tap : Nat) (v : Score) :
    (s.firWrite p tap v).ev = s.ev ∧ (s.firWrite p tap v).safe = s.safe ∧ (s.firWrite p tap v).dm = s.dm ∧
    (s.firWrite p tap v).cm = s.cm ∧ (s.firWrite p tap v).cf = s.cf ∧ (s.firWrite p tap v).pw = s.pw ∧
    (s.firWrite p tap v).th = s.th := by
  and_intros <;> (unfold State.firWrite; repeat' (first | with_reducible rfl | (simp; done) | split | with_reducible refine (foldl_inv _ _ _ _ (fun _ _ => ?_)).trans ?_ | (dsimp only; first | split | with_reducible refine (foldl_inv _ _ _ _ (fun _ _ => ?_)).trans ?_)))

@[simp] theorem State.axCntClr_frame (s : State) :
    (s.axCntClr).now = s.now ∧ (s.axCntClr).phase = s.phase ∧ (s.axCntClr).pending = s.pending ∧
    (s.axCntClr).nodeOfs = s.nodeOfs ∧ (s.axCntClr).freeCtr = s.freeCtr ∧ (s.axCntClr).tx = s.tx ∧ (s.axCntClr).tl = s.tl ∧
    (s.axCntClr).sq = s.sq := by
  and_intros <;> (unfold State.axCntClr; repeat' (first | with_reducible rfl | (simp; done) | split | with_reducible refine (foldl_inv _ _ _ _ (fun _ _ => ?_)).trans ?_ | (dsimp only; first | split | with_reducible refine (foldl_inv _ _ _ _ (fun _ _ => ?_)).trans ?_)))

@[simp] theorem State.axCntClr_frame2 (s : State) :
    (s.axCntClr).fd = s.fd ∧ (s.axCntClr).ex = s.ex ∧ (s.axCntClr).sv = s.sv ∧ (s.axCntClr).ax = s.ax ∧
    (s.axCntClr).aq = s.aq ∧ (s.axCntClr).il = s.il ∧ (s.axCntClr).ln = s.ln ∧ (s.axCntClr).fl = s.fl := by
  and_intros <;> (unfold State.axCntClr; repeat' (first | with_reducible rfl | (simp; done) | split | with_reducible refine (foldl_inv _ _ _ _ (fun _ _ => ?_)).trans ?_ | (dsimp only; first | split | with_reducible refine (foldl_inv _ _ _ _ (fun _ _ => ?_)).trans ?_)))

@[simp] theorem State.axCntClr_frame3 (s : State) :
    (s.axCntClr).ev = s.ev ∧ (s.axCntClr).safe = s.safe ∧ (s.axCntClr).dm = s.dm ∧ (s.axCntClr).cm = s.cm ∧
    (s.axCntClr).cf = s.cf ∧ (s.axCntClr).pw = s.pw ∧ (s.axCntClr).th = s.th := by
  and_intros <;> (unfold State.axCntClr; repeat' (first | with_reducible rfl | (simp; done) | split | with_reducible refine (foldl_inv _ _ _ _ (fun _ _ => ?_)).trans ?_ | (dsimp only; first | split | with_reducible refine (foldl_inv _ _ _ _ (fun _ _ => ?_)).trans ?_)))

@[simp] theorem State.beginCheck_parts (s : State) (p c : Nat) :
    (s.beginCheck p c).regs.setA = s.regs.setA ∧ (s.beginCheck p c).regs.setB = s.regs.setB ∧
    (s.beginCheck p c).regs.one = s.regs.one ∧ (s.beginCheck p c).regs.rsvd = s.regs.rsvd ∧
    (s.beginCheck p c).regs.waiting = s.regs.waiting ∧ (s.beginCheck p c).regs.stale = s.regs.stale ∧
    (s.beginCheck p c).regs.posted = s.regs.posted := by
  and_intros <;> (unfold State.beginCheck; repeat' (first | with_reducible rfl | (simp; done) | split | with_reducible refine (State.regs_setA_foldl _ _ _ (fun _ _ => ?_)).trans ?_ | with_reducible refine (State.regs_setB_foldl _ _ _ (fun _ _ => ?_)).trans ?_ | with_reducible refine (State.regs_one_foldl _ _ _ (fun _ _ => ?_)).trans ?_ | with_reducible refine (State.regs_rsvd_foldl _ _ _ (fun _ _ => ?_)).trans ?_ | with_reducible refine (State.regs_waiting_foldl _ _ _ (fun _ _ => ?_)).trans ?_ | with_reducible refine (State.regs_stale_foldl _ _ _ (fun _ _ => ?_)).trans ?_ | with_reducible refine (State.regs_posted_foldl _ _ _ (fun _ _ => ?_)).trans ?_ | with_reducible refine (State.fd_mem_foldl _ _ _ (fun _ _ => ?_)).trans ?_ | with_reducible refine (State.dm_sram_foldl _ _ _ (fun _ _ => ?_)).trans ?_ | with_reducible refine (State.sq_frameNo_foldl _ _ _ (fun _ _ => ?_)).trans ?_ | with_reducible refine (State.sq_inScan_foldl _ _ _ (fun _ _ => ?_)).trans ?_ | with_reducible refine (State.sq_nextBoundary_foldl _ _ _ (fun _ _ => ?_)).trans ?_ | with_reducible refine (State.pw_gate_foldl _ _ _ (fun _ _ => ?_)).trans ?_ | (dsimp only; first | split | with_reducible refine (State.regs_setA_foldl _ _ _ (fun _ _ => ?_)).trans ?_ | with_reducible refine (State.regs_setB_foldl _ _ _ (fun _ _ => ?_)).trans ?_ | with_reducible refine (State.regs_one_foldl _ _ _ (fun _ _ => ?_)).trans ?_ | with_reducible refine (State.regs_rsvd_foldl _ _ _ (fun _ _ => ?_)).trans ?_ | with_reducible refine (State.regs_waiting_foldl _ _ _ (fun _ _ => ?_)).trans ?_ | with_reducible refine (State.regs_stale_foldl _ _ _ (fun _ _ => ?_)).trans ?_ | with_reducible refine (State.regs_posted_foldl _ _ _ (fun _ _ => ?_)).trans ?_ | with_reducible refine (State.fd_mem_foldl _ _ _ (fun _ _ => ?_)).trans ?_ | with_reducible refine (State.dm_sram_foldl _ _ _ (fun _ _ => ?_)).trans ?_ | with_reducible refine (State.sq_frameNo_foldl _ _ _ (fun _ _ => ?_)).trans ?_ | with_reducible refine (State.sq_inScan_foldl _ _ _ (fun _ _ => ?_)).trans ?_ | with_reducible refine (State.sq_nextBoundary_foldl _ _ _ (fun _ _ => ?_)).trans ?_ | with_reducible refine (State.pw_gate_foldl _ _ _ (fun _ _ => ?_)).trans ?_)))

@[simp] theorem State.resumeChecks_parts (s : State) :
    (s.resumeChecks).regs.setA = s.regs.setA ∧ (s.resumeChecks).regs.setB = s.regs.setB ∧
    (s.resumeChecks).regs.one = s.regs.one ∧ (s.resumeChecks).regs.rsvd = s.regs.rsvd ∧
    (s.resumeChecks).regs.waiting = s.regs.waiting ∧ (s.resumeChecks).regs.stale = s.regs.stale ∧
    (s.resumeChecks).regs.posted = s.regs.posted := by
  and_intros <;> (unfold State.resumeChecks; repeat' (first | with_reducible rfl | (simp; done) | split | with_reducible refine (State.regs_setA_foldl _ _ _ (fun _ _ => ?_)).trans ?_ | with_reducible refine (State.regs_setB_foldl _ _ _ (fun _ _ => ?_)).trans ?_ | with_reducible refine (State.regs_one_foldl _ _ _ (fun _ _ => ?_)).trans ?_ | with_reducible refine (State.regs_rsvd_foldl _ _ _ (fun _ _ => ?_)).trans ?_ | with_reducible refine (State.regs_waiting_foldl _ _ _ (fun _ _ => ?_)).trans ?_ | with_reducible refine (State.regs_stale_foldl _ _ _ (fun _ _ => ?_)).trans ?_ | with_reducible refine (State.regs_posted_foldl _ _ _ (fun _ _ => ?_)).trans ?_ | with_reducible refine (State.fd_mem_foldl _ _ _ (fun _ _ => ?_)).trans ?_ | with_reducible refine (State.dm_sram_foldl _ _ _ (fun _ _ => ?_)).trans ?_ | with_reducible refine (State.sq_frameNo_foldl _ _ _ (fun _ _ => ?_)).trans ?_ | with_reducible refine (State.sq_inScan_foldl _ _ _ (fun _ _ => ?_)).trans ?_ | with_reducible refine (State.sq_nextBoundary_foldl _ _ _ (fun _ _ => ?_)).trans ?_ | with_reducible refine (State.pw_gate_foldl _ _ _ (fun _ _ => ?_)).trans ?_ | (dsimp only; first | split | with_reducible refine (State.regs_setA_foldl _ _ _ (fun _ _ => ?_)).trans ?_ | with_reducible refine (State.regs_setB_foldl _ _ _ (fun _ _ => ?_)).trans ?_ | with_reducible refine (State.regs_one_foldl _ _ _ (fun _ _ => ?_)).trans ?_ | with_reducible refine (State.regs_rsvd_foldl _ _ _ (fun _ _ => ?_)).trans ?_ | with_reducible refine (State.regs_waiting_foldl _ _ _ (fun _ _ => ?_)).trans ?_ | with_reducible refine (State.regs_stale_foldl _ _ _ (fun _ _ => ?_)).trans ?_ | with_reducible refine (State.regs_posted_foldl _ _ _ (fun _ _ => ?_)).trans ?_ | with_reducible refine (State.fd_mem_foldl _ _ _ (fun _ _ => ?_)).trans ?_ | with_reducible refine (State.dm_sram_foldl _ _ _ (fun _ _ => ?_)).trans ?_ | with_reducible refine (State.sq_frameNo_foldl _ _ _ (fun _ _ => ?_)).trans ?_ | with_reducible refine (State.sq_inScan_foldl _ _ _ (fun _ _ => ?_)).trans ?_ | with_reducible refine (State.sq_nextBoundary_foldl _ _ _ (fun _ _ => ?_)).trans ?_ | with_reducible refine (State.pw_gate_foldl _ _ _ (fun _ _ => ?_)).trans ?_)))

@[simp] theorem State.endCheck_parts (s : State) (p : Nat) :
    (s.endCheck p).regs.setA = s.regs.setA ∧ (s.endCheck p).regs.setB = s.regs.setB ∧ (s.endCheck p).regs.one = s.regs.one ∧
    (s.endCheck p).regs.rsvd = s.regs.rsvd ∧ (s.endCheck p).regs.waiting = s.regs.waiting ∧
    (s.endCheck p).regs.stale = s.regs.stale ∧ (s.endCheck p).regs.posted = s.regs.posted := by
  and_intros <;> (unfold State.endCheck; repeat' (first | with_reducible rfl | (simp; done) | split | with_reducible refine (State.regs_setA_foldl _ _ _ (fun _ _ => ?_)).trans ?_ | with_reducible refine (State.regs_setB_foldl _ _ _ (fun _ _ => ?_)).trans ?_ | with_reducible refine (State.regs_one_foldl _ _ _ (fun _ _ => ?_)).trans ?_ | with_reducible refine (State.regs_rsvd_foldl _ _ _ (fun _ _ => ?_)).trans ?_ | with_reducible refine (State.regs_waiting_foldl _ _ _ (fun _ _ => ?_)).trans ?_ | with_reducible refine (State.regs_stale_foldl _ _ _ (fun _ _ => ?_)).trans ?_ | with_reducible refine (State.regs_posted_foldl _ _ _ (fun _ _ => ?_)).trans ?_ | with_reducible refine (State.fd_mem_foldl _ _ _ (fun _ _ => ?_)).trans ?_ | with_reducible refine (State.dm_sram_foldl _ _ _ (fun _ _ => ?_)).trans ?_ | with_reducible refine (State.sq_frameNo_foldl _ _ _ (fun _ _ => ?_)).trans ?_ | with_reducible refine (State.sq_inScan_foldl _ _ _ (fun _ _ => ?_)).trans ?_ | with_reducible refine (State.sq_nextBoundary_foldl _ _ _ (fun _ _ => ?_)).trans ?_ | with_reducible refine (State.pw_gate_foldl _ _ _ (fun _ _ => ?_)).trans ?_ | (dsimp only; first | split | with_reducible refine (State.regs_setA_foldl _ _ _ (fun _ _ => ?_)).trans ?_ | with_reducible refine (State.regs_setB_foldl _ _ _ (fun _ _ => ?_)).trans ?_ | with_reducible refine (State.regs_one_foldl _ _ _ (fun _ _ => ?_)).trans ?_ | with_reducible refine (State.regs_rsvd_foldl _ _ _ (fun _ _ => ?_)).trans ?_ | with_reducible refine (State.regs_waiting_foldl _ _ _ (fun _ _ => ?_)).trans ?_ | with_reducible refine (State.regs_stale_foldl _ _ _ (fun _ _ => ?_)).trans ?_ | with_reducible refine (State.regs_posted_foldl _ _ _ (fun _ _ => ?_)).trans ?_ | with_reducible refine (State.fd_mem_foldl _ _ _ (fun _ _ => ?_)).trans ?_ | with_reducible refine (State.dm_sram_foldl _ _ _ (fun _ _ => ?_)).trans ?_ | with_reducible refine (State.sq_frameNo_foldl _ _ _ (fun _ _ => ?_)).trans ?_ | with_reducible refine (State.sq_inScan_foldl _ _ _ (fun _ _ => ?_)).trans ?_ | with_reducible refine (State.sq_nextBoundary_foldl _ _ _ (fun _ _ => ?_)).trans ?_ | with_reducible refine (State.pw_gate_foldl _ _ _ (fun _ _ => ?_)).trans ?_)))

@[simp] theorem State.restart_parts (s : State) (p c at_ : Nat) :
    (s.restart p c at_).regs.setA = s.regs.setA ∧ (s.restart p c at_).regs.setB = s.regs.setB ∧
    (s.restart p c at_).regs.one = s.regs.one ∧ (s.restart p c at_).regs.rsvd = s.regs.rsvd ∧
    (s.restart p c at_).regs.waiting = s.regs.waiting ∧ (s.restart p c at_).regs.stale = s.regs.stale ∧
    (s.restart p c at_).regs.posted = s.regs.posted := by
  and_intros <;> (unfold State.restart; repeat' (first | with_reducible rfl | (simp; done) | split | with_reducible refine (State.regs_setA_foldl _ _ _ (fun _ _ => ?_)).trans ?_ | with_reducible refine (State.regs_setB_foldl _ _ _ (fun _ _ => ?_)).trans ?_ | with_reducible refine (State.regs_one_foldl _ _ _ (fun _ _ => ?_)).trans ?_ | with_reducible refine (State.regs_rsvd_foldl _ _ _ (fun _ _ => ?_)).trans ?_ | with_reducible refine (State.regs_waiting_foldl _ _ _ (fun _ _ => ?_)).trans ?_ | with_reducible refine (State.regs_stale_foldl _ _ _ (fun _ _ => ?_)).trans ?_ | with_reducible refine (State.regs_posted_foldl _ _ _ (fun _ _ => ?_)).trans ?_ | with_reducible refine (State.fd_mem_foldl _ _ _ (fun _ _ => ?_)).trans ?_ | with_reducible refine (State.dm_sram_foldl _ _ _ (fun _ _ => ?_)).trans ?_ | with_reducible refine (State.sq_frameNo_foldl _ _ _ (fun _ _ => ?_)).trans ?_ | with_reducible refine (State.sq_inScan_foldl _ _ _ (fun _ _ => ?_)).trans ?_ | with_reducible refine (State.sq_nextBoundary_foldl _ _ _ (fun _ _ => ?_)).trans ?_ | with_reducible refine (State.pw_gate_foldl _ _ _ (fun _ _ => ?_)).trans ?_ | (dsimp only; first | split | with_reducible refine (State.regs_setA_foldl _ _ _ (fun _ _ => ?_)).trans ?_ | with_reducible refine (State.regs_setB_foldl _ _ _ (fun _ _ => ?_)).trans ?_ | with_reducible refine (State.regs_one_foldl _ _ _ (fun _ _ => ?_)).trans ?_ | with_reducible refine (State.regs_rsvd_foldl _ _ _ (fun _ _ => ?_)).trans ?_ | with_reducible refine (State.regs_waiting_foldl _ _ _ (fun _ _ => ?_)).trans ?_ | with_reducible refine (State.regs_stale_foldl _ _ _ (fun _ _ => ?_)).trans ?_ | with_reducible refine (State.regs_posted_foldl _ _ _ (fun _ _ => ?_)).trans ?_ | with_reducible refine (State.fd_mem_foldl _ _ _ (fun _ _ => ?_)).trans ?_ | with_reducible refine (State.dm_sram_foldl _ _ _ (fun _ _ => ?_)).trans ?_ | with_reducible refine (State.sq_frameNo_foldl _ _ _ (fun _ _ => ?_)).trans ?_ | with_reducible refine (State.sq_inScan_foldl _ _ _ (fun _ _ => ?_)).trans ?_ | with_reducible refine (State.sq_nextBoundary_foldl _ _ _ (fun _ _ => ?_)).trans ?_ | with_reducible refine (State.pw_gate_foldl _ _ _ (fun _ _ => ?_)).trans ?_)))

@[simp] theorem State.slotStart_parts (s : State) (p k : Nat) :
    (s.slotStart p k).regs.setA = s.regs.setA ∧ (s.slotStart p k).regs.setB = s.regs.setB ∧
    (s.slotStart p k).regs.one = s.regs.one ∧ (s.slotStart p k).regs.rsvd = s.regs.rsvd ∧
    (s.slotStart p k).regs.waiting = s.regs.waiting ∧ (s.slotStart p k).regs.stale = s.regs.stale ∧
    (s.slotStart p k).regs.posted = s.regs.posted := by
  and_intros <;> (unfold State.slotStart; repeat' (first | with_reducible rfl | (simp; done) | split | with_reducible refine (State.regs_setA_foldl _ _ _ (fun _ _ => ?_)).trans ?_ | with_reducible refine (State.regs_setB_foldl _ _ _ (fun _ _ => ?_)).trans ?_ | with_reducible refine (State.regs_one_foldl _ _ _ (fun _ _ => ?_)).trans ?_ | with_reducible refine (State.regs_rsvd_foldl _ _ _ (fun _ _ => ?_)).trans ?_ | with_reducible refine (State.regs_waiting_foldl _ _ _ (fun _ _ => ?_)).trans ?_ | with_reducible refine (State.regs_stale_foldl _ _ _ (fun _ _ => ?_)).trans ?_ | with_reducible refine (State.regs_posted_foldl _ _ _ (fun _ _ => ?_)).trans ?_ | with_reducible refine (State.fd_mem_foldl _ _ _ (fun _ _ => ?_)).trans ?_ | with_reducible refine (State.dm_sram_foldl _ _ _ (fun _ _ => ?_)).trans ?_ | with_reducible refine (State.sq_frameNo_foldl _ _ _ (fun _ _ => ?_)).trans ?_ | with_reducible refine (State.sq_inScan_foldl _ _ _ (fun _ _ => ?_)).trans ?_ | with_reducible refine (State.sq_nextBoundary_foldl _ _ _ (fun _ _ => ?_)).trans ?_ | with_reducible refine (State.pw_gate_foldl _ _ _ (fun _ _ => ?_)).trans ?_ | (dsimp only; first | split | with_reducible refine (State.regs_setA_foldl _ _ _ (fun _ _ => ?_)).trans ?_ | with_reducible refine (State.regs_setB_foldl _ _ _ (fun _ _ => ?_)).trans ?_ | with_reducible refine (State.regs_one_foldl _ _ _ (fun _ _ => ?_)).trans ?_ | with_reducible refine (State.regs_rsvd_foldl _ _ _ (fun _ _ => ?_)).trans ?_ | with_reducible refine (State.regs_waiting_foldl _ _ _ (fun _ _ => ?_)).trans ?_ | with_reducible refine (State.regs_stale_foldl _ _ _ (fun _ _ => ?_)).trans ?_ | with_reducible refine (State.regs_posted_foldl _ _ _ (fun _ _ => ?_)).trans ?_ | with_reducible refine (State.fd_mem_foldl _ _ _ (fun _ _ => ?_)).trans ?_ | with_reducible refine (State.dm_sram_foldl _ _ _ (fun _ _ => ?_)).trans ?_ | with_reducible refine (State.sq_frameNo_foldl _ _ _ (fun _ _ => ?_)).trans ?_ | with_reducible refine (State.sq_inScan_foldl _ _ _ (fun _ _ => ?_)).trans ?_ | with_reducible refine (State.sq_nextBoundary_foldl _ _ _ (fun _ _ => ?_)).trans ?_ | with_reducible refine (State.pw_gate_foldl _ _ _ (fun _ _ => ?_)).trans ?_)))

@[simp] theorem State.pairJudge_parts (s : State) (p : Nat) :
    (s.pairJudge p).regs.setA = s.regs.setA ∧ (s.pairJudge p).regs.setB = s.regs.setB ∧
    (s.pairJudge p).regs.one = s.regs.one ∧ (s.pairJudge p).regs.rsvd = s.regs.rsvd ∧
    (s.pairJudge p).regs.waiting = s.regs.waiting ∧ (s.pairJudge p).regs.stale = s.regs.stale ∧
    (s.pairJudge p).regs.posted = s.regs.posted := by
  and_intros <;> (unfold State.pairJudge; repeat' (first | with_reducible rfl | (simp; done) | split | with_reducible refine (State.regs_setA_foldl _ _ _ (fun _ _ => ?_)).trans ?_ | with_reducible refine (State.regs_setB_foldl _ _ _ (fun _ _ => ?_)).trans ?_ | with_reducible refine (State.regs_one_foldl _ _ _ (fun _ _ => ?_)).trans ?_ | with_reducible refine (State.regs_rsvd_foldl _ _ _ (fun _ _ => ?_)).trans ?_ | with_reducible refine (State.regs_waiting_foldl _ _ _ (fun _ _ => ?_)).trans ?_ | with_reducible refine (State.regs_stale_foldl _ _ _ (fun _ _ => ?_)).trans ?_ | with_reducible refine (State.regs_posted_foldl _ _ _ (fun _ _ => ?_)).trans ?_ | with_reducible refine (State.fd_mem_foldl _ _ _ (fun _ _ => ?_)).trans ?_ | with_reducible refine (State.dm_sram_foldl _ _ _ (fun _ _ => ?_)).trans ?_ | with_reducible refine (State.sq_frameNo_foldl _ _ _ (fun _ _ => ?_)).trans ?_ | with_reducible refine (State.sq_inScan_foldl _ _ _ (fun _ _ => ?_)).trans ?_ | with_reducible refine (State.sq_nextBoundary_foldl _ _ _ (fun _ _ => ?_)).trans ?_ | with_reducible refine (State.pw_gate_foldl _ _ _ (fun _ _ => ?_)).trans ?_ | (dsimp only; first | split | with_reducible refine (State.regs_setA_foldl _ _ _ (fun _ _ => ?_)).trans ?_ | with_reducible refine (State.regs_setB_foldl _ _ _ (fun _ _ => ?_)).trans ?_ | with_reducible refine (State.regs_one_foldl _ _ _ (fun _ _ => ?_)).trans ?_ | with_reducible refine (State.regs_rsvd_foldl _ _ _ (fun _ _ => ?_)).trans ?_ | with_reducible refine (State.regs_waiting_foldl _ _ _ (fun _ _ => ?_)).trans ?_ | with_reducible refine (State.regs_stale_foldl _ _ _ (fun _ _ => ?_)).trans ?_ | with_reducible refine (State.regs_posted_foldl _ _ _ (fun _ _ => ?_)).trans ?_ | with_reducible refine (State.fd_mem_foldl _ _ _ (fun _ _ => ?_)).trans ?_ | with_reducible refine (State.dm_sram_foldl _ _ _ (fun _ _ => ?_)).trans ?_ | with_reducible refine (State.sq_frameNo_foldl _ _ _ (fun _ _ => ?_)).trans ?_ | with_reducible refine (State.sq_inScan_foldl _ _ _ (fun _ _ => ?_)).trans ?_ | with_reducible refine (State.sq_nextBoundary_foldl _ _ _ (fun _ _ => ?_)).trans ?_ | with_reducible refine (State.pw_gate_foldl _ _ _ (fun _ _ => ?_)).trans ?_)))

@[simp] theorem State.pinsChecked_parts (s : State) :
    (s.pinsChecked).regs.setA = s.regs.setA ∧ (s.pinsChecked).regs.setB = s.regs.setB ∧
    (s.pinsChecked).regs.one = s.regs.one ∧ (s.pinsChecked).regs.rsvd = s.regs.rsvd ∧
    (s.pinsChecked).regs.waiting = s.regs.waiting ∧ (s.pinsChecked).regs.stale = s.regs.stale ∧
    (s.pinsChecked).regs.posted = s.regs.posted := by
  and_intros <;> (unfold State.pinsChecked; repeat' (first | with_reducible rfl | (simp; done) | split | with_reducible refine (State.regs_setA_foldl _ _ _ (fun _ _ => ?_)).trans ?_ | with_reducible refine (State.regs_setB_foldl _ _ _ (fun _ _ => ?_)).trans ?_ | with_reducible refine (State.regs_one_foldl _ _ _ (fun _ _ => ?_)).trans ?_ | with_reducible refine (State.regs_rsvd_foldl _ _ _ (fun _ _ => ?_)).trans ?_ | with_reducible refine (State.regs_waiting_foldl _ _ _ (fun _ _ => ?_)).trans ?_ | with_reducible refine (State.regs_stale_foldl _ _ _ (fun _ _ => ?_)).trans ?_ | with_reducible refine (State.regs_posted_foldl _ _ _ (fun _ _ => ?_)).trans ?_ | with_reducible refine (State.fd_mem_foldl _ _ _ (fun _ _ => ?_)).trans ?_ | with_reducible refine (State.dm_sram_foldl _ _ _ (fun _ _ => ?_)).trans ?_ | with_reducible refine (State.sq_frameNo_foldl _ _ _ (fun _ _ => ?_)).trans ?_ | with_reducible refine (State.sq_inScan_foldl _ _ _ (fun _ _ => ?_)).trans ?_ | with_reducible refine (State.sq_nextBoundary_foldl _ _ _ (fun _ _ => ?_)).trans ?_ | with_reducible refine (State.pw_gate_foldl _ _ _ (fun _ _ => ?_)).trans ?_ | (dsimp only; first | split | with_reducible refine (State.regs_setA_foldl _ _ _ (fun _ _ => ?_)).trans ?_ | with_reducible refine (State.regs_setB_foldl _ _ _ (fun _ _ => ?_)).trans ?_ | with_reducible refine (State.regs_one_foldl _ _ _ (fun _ _ => ?_)).trans ?_ | with_reducible refine (State.regs_rsvd_foldl _ _ _ (fun _ _ => ?_)).trans ?_ | with_reducible refine (State.regs_waiting_foldl _ _ _ (fun _ _ => ?_)).trans ?_ | with_reducible refine (State.regs_stale_foldl _ _ _ (fun _ _ => ?_)).trans ?_ | with_reducible refine (State.regs_posted_foldl _ _ _ (fun _ _ => ?_)).trans ?_ | with_reducible refine (State.fd_mem_foldl _ _ _ (fun _ _ => ?_)).trans ?_ | with_reducible refine (State.dm_sram_foldl _ _ _ (fun _ _ => ?_)).trans ?_ | with_reducible refine (State.sq_frameNo_foldl _ _ _ (fun _ _ => ?_)).trans ?_ | with_reducible refine (State.sq_inScan_foldl _ _ _ (fun _ _ => ?_)).trans ?_ | with_reducible refine (State.sq_nextBoundary_foldl _ _ _ (fun _ _ => ?_)).trans ?_ | with_reducible refine (State.pw_gate_foldl _ _ _ (fun _ _ => ?_)).trans ?_)))

@[simp] theorem State.chanLooked_parts (s : State) (c dcbWas : Nat) :
    (s.chanLooked c dcbWas).regs.setA = s.regs.setA ∧ (s.chanLooked c dcbWas).regs.setB = s.regs.setB ∧
    (s.chanLooked c dcbWas).regs.one = s.regs.one ∧ (s.chanLooked c dcbWas).regs.rsvd = s.regs.rsvd ∧
    (s.chanLooked c dcbWas).regs.waiting = s.regs.waiting ∧ (s.chanLooked c dcbWas).regs.stale = s.regs.stale ∧
    (s.chanLooked c dcbWas).regs.posted = s.regs.posted := by
  and_intros <;> (unfold State.chanLooked; repeat' (first | with_reducible rfl | (simp; done) | split | with_reducible refine (State.regs_setA_foldl _ _ _ (fun _ _ => ?_)).trans ?_ | with_reducible refine (State.regs_setB_foldl _ _ _ (fun _ _ => ?_)).trans ?_ | with_reducible refine (State.regs_one_foldl _ _ _ (fun _ _ => ?_)).trans ?_ | with_reducible refine (State.regs_rsvd_foldl _ _ _ (fun _ _ => ?_)).trans ?_ | with_reducible refine (State.regs_waiting_foldl _ _ _ (fun _ _ => ?_)).trans ?_ | with_reducible refine (State.regs_stale_foldl _ _ _ (fun _ _ => ?_)).trans ?_ | with_reducible refine (State.regs_posted_foldl _ _ _ (fun _ _ => ?_)).trans ?_ | with_reducible refine (State.fd_mem_foldl _ _ _ (fun _ _ => ?_)).trans ?_ | with_reducible refine (State.dm_sram_foldl _ _ _ (fun _ _ => ?_)).trans ?_ | with_reducible refine (State.sq_frameNo_foldl _ _ _ (fun _ _ => ?_)).trans ?_ | with_reducible refine (State.sq_inScan_foldl _ _ _ (fun _ _ => ?_)).trans ?_ | with_reducible refine (State.sq_nextBoundary_foldl _ _ _ (fun _ _ => ?_)).trans ?_ | with_reducible refine (State.pw_gate_foldl _ _ _ (fun _ _ => ?_)).trans ?_ | (dsimp only; first | split | with_reducible refine (State.regs_setA_foldl _ _ _ (fun _ _ => ?_)).trans ?_ | with_reducible refine (State.regs_setB_foldl _ _ _ (fun _ _ => ?_)).trans ?_ | with_reducible refine (State.regs_one_foldl _ _ _ (fun _ _ => ?_)).trans ?_ | with_reducible refine (State.regs_rsvd_foldl _ _ _ (fun _ _ => ?_)).trans ?_ | with_reducible refine (State.regs_waiting_foldl _ _ _ (fun _ _ => ?_)).trans ?_ | with_reducible refine (State.regs_stale_foldl _ _ _ (fun _ _ => ?_)).trans ?_ | with_reducible refine (State.regs_posted_foldl _ _ _ (fun _ _ => ?_)).trans ?_ | with_reducible refine (State.fd_mem_foldl _ _ _ (fun _ _ => ?_)).trans ?_ | with_reducible refine (State.dm_sram_foldl _ _ _ (fun _ _ => ?_)).trans ?_ | with_reducible refine (State.sq_frameNo_foldl _ _ _ (fun _ _ => ?_)).trans ?_ | with_reducible refine (State.sq_inScan_foldl _ _ _ (fun _ _ => ?_)).trans ?_ | with_reducible refine (State.sq_nextBoundary_foldl _ _ _ (fun _ _ => ?_)).trans ?_ | with_reducible refine (State.pw_gate_foldl _ _ _ (fun _ _ => ?_)).trans ?_)))

@[simp] theorem State.applyChan_parts (s : State) (c : Nat) :
    (s.applyChan c).regs.one = s.regs.one ∧ (s.applyChan c).regs.rsvd = s.regs.rsvd ∧
    (s.applyChan c).regs.posted = s.regs.posted ∧ (s.applyChan c).sq.frameNo = s.sq.frameNo ∧
    (s.applyChan c).sq.inScan = s.sq.inScan ∧ (s.applyChan c).sq.nextBoundary = s.sq.nextBoundary := by
  and_intros <;> (unfold State.applyChan; repeat' (first | with_reducible rfl | (simp; done) | split | with_reducible refine (State.regs_setA_foldl _ _ _ (fun _ _ => ?_)).trans ?_ | with_reducible refine (State.regs_setB_foldl _ _ _ (fun _ _ => ?_)).trans ?_ | with_reducible refine (State.regs_one_foldl _ _ _ (fun _ _ => ?_)).trans ?_ | with_reducible refine (State.regs_rsvd_foldl _ _ _ (fun _ _ => ?_)).trans ?_ | with_reducible refine (State.regs_waiting_foldl _ _ _ (fun _ _ => ?_)).trans ?_ | with_reducible refine (State.regs_stale_foldl _ _ _ (fun _ _ => ?_)).trans ?_ | with_reducible refine (State.regs_posted_foldl _ _ _ (fun _ _ => ?_)).trans ?_ | with_reducible refine (State.fd_mem_foldl _ _ _ (fun _ _ => ?_)).trans ?_ | with_reducible refine (State.dm_sram_foldl _ _ _ (fun _ _ => ?_)).trans ?_ | with_reducible refine (State.sq_frameNo_foldl _ _ _ (fun _ _ => ?_)).trans ?_ | with_reducible refine (State.sq_inScan_foldl _ _ _ (fun _ _ => ?_)).trans ?_ | with_reducible refine (State.sq_nextBoundary_foldl _ _ _ (fun _ _ => ?_)).trans ?_ | with_reducible refine (State.pw_gate_foldl _ _ _ (fun _ _ => ?_)).trans ?_ | (dsimp only; first | split | with_reducible refine (State.regs_setA_foldl _ _ _ (fun _ _ => ?_)).trans ?_ | with_reducible refine (State.regs_setB_foldl _ _ _ (fun _ _ => ?_)).trans ?_ | with_reducible refine (State.regs_one_foldl _ _ _ (fun _ _ => ?_)).trans ?_ | with_reducible refine (State.regs_rsvd_foldl _ _ _ (fun _ _ => ?_)).trans ?_ | with_reducible refine (State.regs_waiting_foldl _ _ _ (fun _ _ => ?_)).trans ?_ | with_reducible refine (State.regs_stale_foldl _ _ _ (fun _ _ => ?_)).trans ?_ | with_reducible refine (State.regs_posted_foldl _ _ _ (fun _ _ => ?_)).trans ?_ | with_reducible refine (State.fd_mem_foldl _ _ _ (fun _ _ => ?_)).trans ?_ | with_reducible refine (State.dm_sram_foldl _ _ _ (fun _ _ => ?_)).trans ?_ | with_reducible refine (State.sq_frameNo_foldl _ _ _ (fun _ _ => ?_)).trans ?_ | with_reducible refine (State.sq_inScan_foldl _ _ _ (fun _ _ => ?_)).trans ?_ | with_reducible refine (State.sq_nextBoundary_foldl _ _ _ (fun _ _ => ?_)).trans ?_ | with_reducible refine (State.pw_gate_foldl _ _ _ (fun _ _ => ?_)).trans ?_)))

@[simp] theorem State.lampTempBack_parts (s : State) (c : Nat) :
    (s.lampTempBack c).regs.setA = s.regs.setA ∧ (s.lampTempBack c).regs.setB = s.regs.setB ∧
    (s.lampTempBack c).regs.one = s.regs.one ∧ (s.lampTempBack c).regs.rsvd = s.regs.rsvd ∧
    (s.lampTempBack c).regs.waiting = s.regs.waiting ∧ (s.lampTempBack c).regs.stale = s.regs.stale ∧
    (s.lampTempBack c).regs.posted = s.regs.posted := by
  and_intros <;> (unfold State.lampTempBack; repeat' (first | with_reducible rfl | (simp; done) | split | with_reducible refine (State.regs_setA_foldl _ _ _ (fun _ _ => ?_)).trans ?_ | with_reducible refine (State.regs_setB_foldl _ _ _ (fun _ _ => ?_)).trans ?_ | with_reducible refine (State.regs_one_foldl _ _ _ (fun _ _ => ?_)).trans ?_ | with_reducible refine (State.regs_rsvd_foldl _ _ _ (fun _ _ => ?_)).trans ?_ | with_reducible refine (State.regs_waiting_foldl _ _ _ (fun _ _ => ?_)).trans ?_ | with_reducible refine (State.regs_stale_foldl _ _ _ (fun _ _ => ?_)).trans ?_ | with_reducible refine (State.regs_posted_foldl _ _ _ (fun _ _ => ?_)).trans ?_ | with_reducible refine (State.fd_mem_foldl _ _ _ (fun _ _ => ?_)).trans ?_ | with_reducible refine (State.dm_sram_foldl _ _ _ (fun _ _ => ?_)).trans ?_ | with_reducible refine (State.sq_frameNo_foldl _ _ _ (fun _ _ => ?_)).trans ?_ | with_reducible refine (State.sq_inScan_foldl _ _ _ (fun _ _ => ?_)).trans ?_ | with_reducible refine (State.sq_nextBoundary_foldl _ _ _ (fun _ _ => ?_)).trans ?_ | with_reducible refine (State.pw_gate_foldl _ _ _ (fun _ _ => ?_)).trans ?_ | (dsimp only; first | split | with_reducible refine (State.regs_setA_foldl _ _ _ (fun _ _ => ?_)).trans ?_ | with_reducible refine (State.regs_setB_foldl _ _ _ (fun _ _ => ?_)).trans ?_ | with_reducible refine (State.regs_one_foldl _ _ _ (fun _ _ => ?_)).trans ?_ | with_reducible refine (State.regs_rsvd_foldl _ _ _ (fun _ _ => ?_)).trans ?_ | with_reducible refine (State.regs_waiting_foldl _ _ _ (fun _ _ => ?_)).trans ?_ | with_reducible refine (State.regs_stale_foldl _ _ _ (fun _ _ => ?_)).trans ?_ | with_reducible refine (State.regs_posted_foldl _ _ _ (fun _ _ => ?_)).trans ?_ | with_reducible refine (State.fd_mem_foldl _ _ _ (fun _ _ => ?_)).trans ?_ | with_reducible refine (State.dm_sram_foldl _ _ _ (fun _ _ => ?_)).trans ?_ | with_reducible refine (State.sq_frameNo_foldl _ _ _ (fun _ _ => ?_)).trans ?_ | with_reducible refine (State.sq_inScan_foldl _ _ _ (fun _ _ => ?_)).trans ?_ | with_reducible refine (State.sq_nextBoundary_foldl _ _ _ (fun _ _ => ?_)).trans ?_ | with_reducible refine (State.pw_gate_foldl _ _ _ (fun _ _ => ?_)).trans ?_)))

@[simp] theorem State.plausible_parts (s : State) (c : Nat) (prim sec : Int) :
    (s.plausible c prim sec).1.regs.setA = s.regs.setA ∧ (s.plausible c prim sec).1.regs.setB = s.regs.setB ∧
    (s.plausible c prim sec).1.regs.one = s.regs.one ∧ (s.plausible c prim sec).1.regs.rsvd = s.regs.rsvd ∧
    (s.plausible c prim sec).1.regs.waiting = s.regs.waiting ∧ (s.plausible c prim sec).1.regs.stale = s.regs.stale ∧
    (s.plausible c prim sec).1.regs.posted = s.regs.posted := by
  and_intros <;> (unfold State.plausible; repeat' (first | with_reducible rfl | (simp; done) | split | with_reducible refine (State.regs_setA_foldl _ _ _ (fun _ _ => ?_)).trans ?_ | with_reducible refine (State.regs_setB_foldl _ _ _ (fun _ _ => ?_)).trans ?_ | with_reducible refine (State.regs_one_foldl _ _ _ (fun _ _ => ?_)).trans ?_ | with_reducible refine (State.regs_rsvd_foldl _ _ _ (fun _ _ => ?_)).trans ?_ | with_reducible refine (State.regs_waiting_foldl _ _ _ (fun _ _ => ?_)).trans ?_ | with_reducible refine (State.regs_stale_foldl _ _ _ (fun _ _ => ?_)).trans ?_ | with_reducible refine (State.regs_posted_foldl _ _ _ (fun _ _ => ?_)).trans ?_ | with_reducible refine (State.fd_mem_foldl _ _ _ (fun _ _ => ?_)).trans ?_ | with_reducible refine (State.dm_sram_foldl _ _ _ (fun _ _ => ?_)).trans ?_ | with_reducible refine (State.sq_frameNo_foldl _ _ _ (fun _ _ => ?_)).trans ?_ | with_reducible refine (State.sq_inScan_foldl _ _ _ (fun _ _ => ?_)).trans ?_ | with_reducible refine (State.sq_nextBoundary_foldl _ _ _ (fun _ _ => ?_)).trans ?_ | with_reducible refine (State.pw_gate_foldl _ _ _ (fun _ _ => ?_)).trans ?_ | (dsimp only; first | split | with_reducible refine (State.regs_setA_foldl _ _ _ (fun _ _ => ?_)).trans ?_ | with_reducible refine (State.regs_setB_foldl _ _ _ (fun _ _ => ?_)).trans ?_ | with_reducible refine (State.regs_one_foldl _ _ _ (fun _ _ => ?_)).trans ?_ | with_reducible refine (State.regs_rsvd_foldl _ _ _ (fun _ _ => ?_)).trans ?_ | with_reducible refine (State.regs_waiting_foldl _ _ _ (fun _ _ => ?_)).trans ?_ | with_reducible refine (State.regs_stale_foldl _ _ _ (fun _ _ => ?_)).trans ?_ | with_reducible refine (State.regs_posted_foldl _ _ _ (fun _ _ => ?_)).trans ?_ | with_reducible refine (State.fd_mem_foldl _ _ _ (fun _ _ => ?_)).trans ?_ | with_reducible refine (State.dm_sram_foldl _ _ _ (fun _ _ => ?_)).trans ?_ | with_reducible refine (State.sq_frameNo_foldl _ _ _ (fun _ _ => ?_)).trans ?_ | with_reducible refine (State.sq_inScan_foldl _ _ _ (fun _ _ => ?_)).trans ?_ | with_reducible refine (State.sq_nextBoundary_foldl _ _ _ (fun _ _ => ?_)).trans ?_ | with_reducible refine (State.pw_gate_foldl _ _ _ (fun _ _ => ?_)).trans ?_)))

@[simp] theorem State.blankDependents_parts (s : State) (p : Nat) :
    (s.blankDependents p).regs.setA = s.regs.setA ∧ (s.blankDependents p).regs.setB = s.regs.setB ∧
    (s.blankDependents p).regs.one = s.regs.one ∧ (s.blankDependents p).regs.rsvd = s.regs.rsvd ∧
    (s.blankDependents p).regs.waiting = s.regs.waiting ∧ (s.blankDependents p).regs.stale = s.regs.stale ∧
    (s.blankDependents p).regs.posted = s.regs.posted := by
  and_intros <;> (unfold State.blankDependents; repeat' (first | with_reducible rfl | (simp; done) | split | with_reducible refine (State.regs_setA_foldl _ _ _ (fun _ _ => ?_)).trans ?_ | with_reducible refine (State.regs_setB_foldl _ _ _ (fun _ _ => ?_)).trans ?_ | with_reducible refine (State.regs_one_foldl _ _ _ (fun _ _ => ?_)).trans ?_ | with_reducible refine (State.regs_rsvd_foldl _ _ _ (fun _ _ => ?_)).trans ?_ | with_reducible refine (State.regs_waiting_foldl _ _ _ (fun _ _ => ?_)).trans ?_ | with_reducible refine (State.regs_stale_foldl _ _ _ (fun _ _ => ?_)).trans ?_ | with_reducible refine (State.regs_posted_foldl _ _ _ (fun _ _ => ?_)).trans ?_ | with_reducible refine (State.fd_mem_foldl _ _ _ (fun _ _ => ?_)).trans ?_ | with_reducible refine (State.dm_sram_foldl _ _ _ (fun _ _ => ?_)).trans ?_ | with_reducible refine (State.sq_frameNo_foldl _ _ _ (fun _ _ => ?_)).trans ?_ | with_reducible refine (State.sq_inScan_foldl _ _ _ (fun _ _ => ?_)).trans ?_ | with_reducible refine (State.sq_nextBoundary_foldl _ _ _ (fun _ _ => ?_)).trans ?_ | with_reducible refine (State.pw_gate_foldl _ _ _ (fun _ _ => ?_)).trans ?_ | (dsimp only; first | split | with_reducible refine (State.regs_setA_foldl _ _ _ (fun _ _ => ?_)).trans ?_ | with_reducible refine (State.regs_setB_foldl _ _ _ (fun _ _ => ?_)).trans ?_ | with_reducible refine (State.regs_one_foldl _ _ _ (fun _ _ => ?_)).trans ?_ | with_reducible refine (State.regs_rsvd_foldl _ _ _ (fun _ _ => ?_)).trans ?_ | with_reducible refine (State.regs_waiting_foldl _ _ _ (fun _ _ => ?_)).trans ?_ | with_reducible refine (State.regs_stale_foldl _ _ _ (fun _ _ => ?_)).trans ?_ | with_reducible refine (State.regs_posted_foldl _ _ _ (fun _ _ => ?_)).trans ?_ | with_reducible refine (State.fd_mem_foldl _ _ _ (fun _ _ => ?_)).trans ?_ | with_reducible refine (State.dm_sram_foldl _ _ _ (fun _ _ => ?_)).trans ?_ | with_reducible refine (State.sq_frameNo_foldl _ _ _ (fun _ _ => ?_)).trans ?_ | with_reducible refine (State.sq_inScan_foldl _ _ _ (fun _ _ => ?_)).trans ?_ | with_reducible refine (State.sq_nextBoundary_foldl _ _ _ (fun _ _ => ?_)).trans ?_ | with_reducible refine (State.pw_gate_foldl _ _ _ (fun _ _ => ?_)).trans ?_)))

@[simp] theorem State.endBlank_parts (s : State) (p c at_ : Nat) :
    (s.endBlank p c at_).regs.setA = s.regs.setA ∧ (s.endBlank p c at_).regs.setB = s.regs.setB ∧
    (s.endBlank p c at_).regs.one = s.regs.one ∧ (s.endBlank p c at_).regs.rsvd = s.regs.rsvd ∧
    (s.endBlank p c at_).regs.waiting = s.regs.waiting ∧ (s.endBlank p c at_).regs.stale = s.regs.stale ∧
    (s.endBlank p c at_).regs.posted = s.regs.posted := by
  and_intros <;> (unfold State.endBlank; repeat' (first | with_reducible rfl | (simp; done) | split | with_reducible refine (State.regs_setA_foldl _ _ _ (fun _ _ => ?_)).trans ?_ | with_reducible refine (State.regs_setB_foldl _ _ _ (fun _ _ => ?_)).trans ?_ | with_reducible refine (State.regs_one_foldl _ _ _ (fun _ _ => ?_)).trans ?_ | with_reducible refine (State.regs_rsvd_foldl _ _ _ (fun _ _ => ?_)).trans ?_ | with_reducible refine (State.regs_waiting_foldl _ _ _ (fun _ _ => ?_)).trans ?_ | with_reducible refine (State.regs_stale_foldl _ _ _ (fun _ _ => ?_)).trans ?_ | with_reducible refine (State.regs_posted_foldl _ _ _ (fun _ _ => ?_)).trans ?_ | with_reducible refine (State.fd_mem_foldl _ _ _ (fun _ _ => ?_)).trans ?_ | with_reducible refine (State.dm_sram_foldl _ _ _ (fun _ _ => ?_)).trans ?_ | with_reducible refine (State.sq_frameNo_foldl _ _ _ (fun _ _ => ?_)).trans ?_ | with_reducible refine (State.sq_inScan_foldl _ _ _ (fun _ _ => ?_)).trans ?_ | with_reducible refine (State.sq_nextBoundary_foldl _ _ _ (fun _ _ => ?_)).trans ?_ | with_reducible refine (State.pw_gate_foldl _ _ _ (fun _ _ => ?_)).trans ?_ | (dsimp only; first | split | with_reducible refine (State.regs_setA_foldl _ _ _ (fun _ _ => ?_)).trans ?_ | with_reducible refine (State.regs_setB_foldl _ _ _ (fun _ _ => ?_)).trans ?_ | with_reducible refine (State.regs_one_foldl _ _ _ (fun _ _ => ?_)).trans ?_ | with_reducible refine (State.regs_rsvd_foldl _ _ _ (fun _ _ => ?_)).trans ?_ | with_reducible refine (State.regs_waiting_foldl _ _ _ (fun _ _ => ?_)).trans ?_ | with_reducible refine (State.regs_stale_foldl _ _ _ (fun _ _ => ?_)).trans ?_ | with_reducible refine (State.regs_posted_foldl _ _ _ (fun _ _ => ?_)).trans ?_ | with_reducible refine (State.fd_mem_foldl _ _ _ (fun _ _ => ?_)).trans ?_ | with_reducible refine (State.dm_sram_foldl _ _ _ (fun _ _ => ?_)).trans ?_ | with_reducible refine (State.sq_frameNo_foldl _ _ _ (fun _ _ => ?_)).trans ?_ | with_reducible refine (State.sq_inScan_foldl _ _ _ (fun _ _ => ?_)).trans ?_ | with_reducible refine (State.sq_nextBoundary_foldl _ _ _ (fun _ _ => ?_)).trans ?_ | with_reducible refine (State.pw_gate_foldl _ _ _ (fun _ _ => ?_)).trans ?_)))

@[simp] theorem State.unblank_parts (s : State) (p c : Nat) :
    (s.unblank p c).regs.setA = s.regs.setA ∧ (s.unblank p c).regs.setB = s.regs.setB ∧
    (s.unblank p c).regs.one = s.regs.one ∧ (s.unblank p c).regs.rsvd = s.regs.rsvd ∧
    (s.unblank p c).regs.waiting = s.regs.waiting ∧ (s.unblank p c).regs.stale = s.regs.stale ∧
    (s.unblank p c).regs.posted = s.regs.posted := by
  and_intros <;> (unfold State.unblank; repeat' (first | with_reducible rfl | (simp; done) | split | with_reducible refine (State.regs_setA_foldl _ _ _ (fun _ _ => ?_)).trans ?_ | with_reducible refine (State.regs_setB_foldl _ _ _ (fun _ _ => ?_)).trans ?_ | with_reducible refine (State.regs_one_foldl _ _ _ (fun _ _ => ?_)).trans ?_ | with_reducible refine (State.regs_rsvd_foldl _ _ _ (fun _ _ => ?_)).trans ?_ | with_reducible refine (State.regs_waiting_foldl _ _ _ (fun _ _ => ?_)).trans ?_ | with_reducible refine (State.regs_stale_foldl _ _ _ (fun _ _ => ?_)).trans ?_ | with_reducible refine (State.regs_posted_foldl _ _ _ (fun _ _ => ?_)).trans ?_ | with_reducible refine (State.fd_mem_foldl _ _ _ (fun _ _ => ?_)).trans ?_ | with_reducible refine (State.dm_sram_foldl _ _ _ (fun _ _ => ?_)).trans ?_ | with_reducible refine (State.sq_frameNo_foldl _ _ _ (fun _ _ => ?_)).trans ?_ | with_reducible refine (State.sq_inScan_foldl _ _ _ (fun _ _ => ?_)).trans ?_ | with_reducible refine (State.sq_nextBoundary_foldl _ _ _ (fun _ _ => ?_)).trans ?_ | with_reducible refine (State.pw_gate_foldl _ _ _ (fun _ _ => ?_)).trans ?_ | (dsimp only; first | split | with_reducible refine (State.regs_setA_foldl _ _ _ (fun _ _ => ?_)).trans ?_ | with_reducible refine (State.regs_setB_foldl _ _ _ (fun _ _ => ?_)).trans ?_ | with_reducible refine (State.regs_one_foldl _ _ _ (fun _ _ => ?_)).trans ?_ | with_reducible refine (State.regs_rsvd_foldl _ _ _ (fun _ _ => ?_)).trans ?_ | with_reducible refine (State.regs_waiting_foldl _ _ _ (fun _ _ => ?_)).trans ?_ | with_reducible refine (State.regs_stale_foldl _ _ _ (fun _ _ => ?_)).trans ?_ | with_reducible refine (State.regs_posted_foldl _ _ _ (fun _ _ => ?_)).trans ?_ | with_reducible refine (State.fd_mem_foldl _ _ _ (fun _ _ => ?_)).trans ?_ | with_reducible refine (State.dm_sram_foldl _ _ _ (fun _ _ => ?_)).trans ?_ | with_reducible refine (State.sq_frameNo_foldl _ _ _ (fun _ _ => ?_)).trans ?_ | with_reducible refine (State.sq_inScan_foldl _ _ _ (fun _ _ => ?_)).trans ?_ | with_reducible refine (State.sq_nextBoundary_foldl _ _ _ (fun _ _ => ?_)).trans ?_ | with_reducible refine (State.pw_gate_foldl _ _ _ (fun _ _ => ?_)).trans ?_)))

@[simp] theorem State.firWrite_parts (s : State) (p tap : Nat) (v : Score) :
    (s.firWrite p tap v).regs.setA = s.regs.setA ∧ (s.firWrite p tap v).regs.setB = s.regs.setB ∧
    (s.firWrite p tap v).regs.rsvd = s.regs.rsvd ∧ (s.firWrite p tap v).regs.waiting = s.regs.waiting ∧
    (s.firWrite p tap v).regs.stale = s.regs.stale ∧ (s.firWrite p tap v).regs.posted = s.regs.posted := by
  and_intros <;> (unfold State.firWrite; repeat' (first | with_reducible rfl | (simp; done) | split | with_reducible refine (State.regs_setA_foldl _ _ _ (fun _ _ => ?_)).trans ?_ | with_reducible refine (State.regs_setB_foldl _ _ _ (fun _ _ => ?_)).trans ?_ | with_reducible refine (State.regs_one_foldl _ _ _ (fun _ _ => ?_)).trans ?_ | with_reducible refine (State.regs_rsvd_foldl _ _ _ (fun _ _ => ?_)).trans ?_ | with_reducible refine (State.regs_waiting_foldl _ _ _ (fun _ _ => ?_)).trans ?_ | with_reducible refine (State.regs_stale_foldl _ _ _ (fun _ _ => ?_)).trans ?_ | with_reducible refine (State.regs_posted_foldl _ _ _ (fun _ _ => ?_)).trans ?_ | with_reducible refine (State.fd_mem_foldl _ _ _ (fun _ _ => ?_)).trans ?_ | with_reducible refine (State.dm_sram_foldl _ _ _ (fun _ _ => ?_)).trans ?_ | with_reducible refine (State.sq_frameNo_foldl _ _ _ (fun _ _ => ?_)).trans ?_ | with_reducible refine (State.sq_inScan_foldl _ _ _ (fun _ _ => ?_)).trans ?_ | with_reducible refine (State.sq_nextBoundary_foldl _ _ _ (fun _ _ => ?_)).trans ?_ | with_reducible refine (State.pw_gate_foldl _ _ _ (fun _ _ => ?_)).trans ?_ | (dsimp only; first | split | with_reducible refine (State.regs_setA_foldl _ _ _ (fun _ _ => ?_)).trans ?_ | with_reducible refine (State.regs_setB_foldl _ _ _ (fun _ _ => ?_)).trans ?_ | with_reducible refine (State.regs_one_foldl _ _ _ (fun _ _ => ?_)).trans ?_ | with_reducible refine (State.regs_rsvd_foldl _ _ _ (fun _ _ => ?_)).trans ?_ | with_reducible refine (State.regs_waiting_foldl _ _ _ (fun _ _ => ?_)).trans ?_ | with_reducible refine (State.regs_stale_foldl _ _ _ (fun _ _ => ?_)).trans ?_ | with_reducible refine (State.regs_posted_foldl _ _ _ (fun _ _ => ?_)).trans ?_ | with_reducible refine (State.fd_mem_foldl _ _ _ (fun _ _ => ?_)).trans ?_ | with_reducible refine (State.dm_sram_foldl _ _ _ (fun _ _ => ?_)).trans ?_ | with_reducible refine (State.sq_frameNo_foldl _ _ _ (fun _ _ => ?_)).trans ?_ | with_reducible refine (State.sq_inScan_foldl _ _ _ (fun _ _ => ?_)).trans ?_ | with_reducible refine (State.sq_nextBoundary_foldl _ _ _ (fun _ _ => ?_)).trans ?_ | with_reducible refine (State.pw_gate_foldl _ _ _ (fun _ _ => ?_)).trans ?_)))

@[simp] theorem State.axCntClr_parts (s : State) :
    (s.axCntClr).regs.setA = s.regs.setA ∧ (s.axCntClr).regs.setB = s.regs.setB ∧ (s.axCntClr).regs.one = s.regs.one ∧
    (s.axCntClr).regs.rsvd = s.regs.rsvd ∧ (s.axCntClr).regs.waiting = s.regs.waiting ∧
    (s.axCntClr).regs.stale = s.regs.stale ∧ (s.axCntClr).regs.posted = s.regs.posted := by
  and_intros <;> (unfold State.axCntClr; repeat' (first | with_reducible rfl | (simp; done) | split | with_reducible refine (State.regs_setA_foldl _ _ _ (fun _ _ => ?_)).trans ?_ | with_reducible refine (State.regs_setB_foldl _ _ _ (fun _ _ => ?_)).trans ?_ | with_reducible refine (State.regs_one_foldl _ _ _ (fun _ _ => ?_)).trans ?_ | with_reducible refine (State.regs_rsvd_foldl _ _ _ (fun _ _ => ?_)).trans ?_ | with_reducible refine (State.regs_waiting_foldl _ _ _ (fun _ _ => ?_)).trans ?_ | with_reducible refine (State.regs_stale_foldl _ _ _ (fun _ _ => ?_)).trans ?_ | with_reducible refine (State.regs_posted_foldl _ _ _ (fun _ _ => ?_)).trans ?_ | with_reducible refine (State.fd_mem_foldl _ _ _ (fun _ _ => ?_)).trans ?_ | with_reducible refine (State.dm_sram_foldl _ _ _ (fun _ _ => ?_)).trans ?_ | with_reducible refine (State.sq_frameNo_foldl _ _ _ (fun _ _ => ?_)).trans ?_ | with_reducible refine (State.sq_inScan_foldl _ _ _ (fun _ _ => ?_)).trans ?_ | with_reducible refine (State.sq_nextBoundary_foldl _ _ _ (fun _ _ => ?_)).trans ?_ | with_reducible refine (State.pw_gate_foldl _ _ _ (fun _ _ => ?_)).trans ?_ | (dsimp only; first | split | with_reducible refine (State.regs_setA_foldl _ _ _ (fun _ _ => ?_)).trans ?_ | with_reducible refine (State.regs_setB_foldl _ _ _ (fun _ _ => ?_)).trans ?_ | with_reducible refine (State.regs_one_foldl _ _ _ (fun _ _ => ?_)).trans ?_ | with_reducible refine (State.regs_rsvd_foldl _ _ _ (fun _ _ => ?_)).trans ?_ | with_reducible refine (State.regs_waiting_foldl _ _ _ (fun _ _ => ?_)).trans ?_ | with_reducible refine (State.regs_stale_foldl _ _ _ (fun _ _ => ?_)).trans ?_ | with_reducible refine (State.regs_posted_foldl _ _ _ (fun _ _ => ?_)).trans ?_ | with_reducible refine (State.fd_mem_foldl _ _ _ (fun _ _ => ?_)).trans ?_ | with_reducible refine (State.dm_sram_foldl _ _ _ (fun _ _ => ?_)).trans ?_ | with_reducible refine (State.sq_frameNo_foldl _ _ _ (fun _ _ => ?_)).trans ?_ | with_reducible refine (State.sq_inScan_foldl _ _ _ (fun _ _ => ?_)).trans ?_ | with_reducible refine (State.sq_nextBoundary_foldl _ _ _ (fun _ _ => ?_)).trans ?_ | with_reducible refine (State.pw_gate_foldl _ _ _ (fun _ _ => ?_)).trans ?_)))

end Sys2Proof.Machine
end

