-- ==== Sys2Proof/Laws/FrameIllum.lean ====
section
/-!
SUPPORT. The frames of the operations of Machine/Illum.lean: the parts of the state that each of them leaves as they were.
-/

set_option linter.unusedTactic false
set_option linter.unreachableTactic false
set_option linter.unusedSimpArgs false

namespace Sys2Proof.Machine

@[simp] theorem State.setIlChan_frame (s : State) (c : Nat) (x : IlChan) :
    (s.setIlChan c x).now = s.now ∧ (s.setIlChan c x).phase = s.phase ∧ (s.setIlChan c x).pending = s.pending ∧
    (s.setIlChan c x).nodeOfs = s.nodeOfs ∧ (s.setIlChan c x).freeCtr = s.freeCtr ∧ (s.setIlChan c x).tx = s.tx ∧
    (s.setIlChan c x).regs = s.regs ∧ (s.setIlChan c x).tl = s.tl := by
  and_intros <;> (unfold State.setIlChan; repeat' (first | with_reducible rfl | (simp; done) | split | with_reducible refine (foldl_inv _ _ _ _ (fun _ _ => ?_)).trans ?_ | (dsimp only; first | split | with_reducible refine (foldl_inv _ _ _ _ (fun _ _ => ?_)).trans ?_)))

@[simp] theorem State.setIlChan_frame2 (s : State) (c : Nat) (x : IlChan) :
    (s.setIlChan c x).sq = s.sq ∧ (s.setIlChan c x).fd = s.fd ∧ (s.setIlChan c x).ex = s.ex ∧ (s.setIlChan c x).sv = s.sv ∧
    (s.setIlChan c x).ax = s.ax ∧ (s.setIlChan c x).aq = s.aq ∧ (s.setIlChan c x).ln = s.ln ∧ (s.setIlChan c x).fl = s.fl := by
  and_intros <;> (unfold State.setIlChan; repeat' (first | with_reducible rfl | (simp; done) | split | with_reducible refine (foldl_inv _ _ _ _ (fun _ _ => ?_)).trans ?_ | (dsimp only; first | split | with_reducible refine (foldl_inv _ _ _ _ (fun _ _ => ?_)).trans ?_)))

@[simp] theorem State.setIlChan_frame3 (s : State) (c : Nat) (x : IlChan) :
    (s.setIlChan c x).ev = s.ev ∧ (s.setIlChan c x).safe = s.safe ∧ (s.setIlChan c x).dm = s.dm ∧
    (s.setIlChan c x).cm = s.cm ∧ (s.setIlChan c x).cf = s.cf ∧ (s.setIlChan c x).pw = s.pw ∧ (s.setIlChan c x).th = s.th := by
  and_intros <;> (unfold State.setIlChan; repeat' (first | with_reducible rfl | (simp; done) | split | with_reducible refine (foldl_inv _ _ _ _ (fun _ _ => ?_)).trans ?_ | (dsimp only; first | split | with_reducible refine (foldl_inv _ _ _ _ (fun _ _ => ?_)).trans ?_)))

@[simp] theorem State.illLow_frame (s : State) (c : Nat) :
    (s.illLow c).now = s.now ∧ (s.illLow c).phase = s.phase ∧ (s.illLow c).pending = s.pending ∧
    (s.illLow c).nodeOfs = s.nodeOfs ∧ (s.illLow c).freeCtr = s.freeCtr ∧ (s.illLow c).tx = s.tx ∧
    (s.illLow c).regs = s.regs ∧ (s.illLow c).tl = s.tl := by
  and_intros <;> (unfold State.illLow; repeat' (first | with_reducible rfl | (simp; done) | split | with_reducible refine (foldl_inv _ _ _ _ (fun _ _ => ?_)).trans ?_ | (dsimp only; first | split | with_reducible refine (foldl_inv _ _ _ _ (fun _ _ => ?_)).trans ?_)))

@[simp] theorem State.illLow_frame2 (s : State) (c : Nat) :
    (s.illLow c).sq = s.sq ∧ (s.illLow c).fd = s.fd ∧ (s.illLow c).ex = s.ex ∧ (s.illLow c).sv = s.sv ∧
    (s.illLow c).ax = s.ax ∧ (s.illLow c).aq = s.aq ∧ (s.illLow c).ln = s.ln ∧ (s.illLow c).fl = s.fl := by
  and_intros <;> (unfold State.illLow; repeat' (first | with_reducible rfl | (simp; done) | split | with_reducible refine (foldl_inv _ _ _ _ (fun _ _ => ?_)).trans ?_ | (dsimp only; first | split | with_reducible refine (foldl_inv _ _ _ _ (fun _ _ => ?_)).trans ?_)))

@[simp] theorem State.illLow_frame3 (s : State) (c : Nat) :
    (s.illLow c).ev = s.ev ∧ (s.illLow c).safe = s.safe ∧ (s.illLow c).dm = s.dm ∧ (s.illLow c).cm = s.cm ∧
    (s.illLow c).cf = s.cf ∧ (s.illLow c).pw = s.pw ∧ (s.illLow c).th = s.th := by
  and_intros <;> (unfold State.illLow; repeat' (first | with_reducible rfl | (simp; done) | split | with_reducible refine (foldl_inv _ _ _ _ (fun _ _ => ?_)).trans ?_ | (dsimp only; first | split | with_reducible refine (foldl_inv _ _ _ _ (fun _ _ => ?_)).trans ?_)))

@[simp] theorem State.illOff_frame (s : State) :
    (s.illOff).now = s.now ∧ (s.illOff).phase = s.phase ∧ (s.illOff).pending = s.pending ∧ (s.illOff).nodeOfs = s.nodeOfs ∧
    (s.illOff).freeCtr = s.freeCtr ∧ (s.illOff).tx = s.tx ∧ (s.illOff).regs = s.regs ∧ (s.illOff).tl = s.tl := by
  and_intros <;> (unfold State.illOff; repeat' (first | with_reducible rfl | (simp; done) | split | with_reducible refine (foldl_inv _ _ _ _ (fun _ _ => ?_)).trans ?_ | (dsimp only; first | split | with_reducible refine (foldl_inv _ _ _ _ (fun _ _ => ?_)).trans ?_)))

@[simp] theorem State.illOff_frame2 (s : State) :
    (s.illOff).sq = s.sq ∧ (s.illOff).fd = s.fd ∧ (s.illOff).ex = s.ex ∧ (s.illOff).sv = s.sv ∧ (s.illOff).ax = s.ax ∧
    (s.illOff).aq = s.aq ∧ (s.illOff).ln = s.ln ∧ (s.illOff).fl = s.fl := by
  and_intros <;> (unfold State.illOff; repeat' (first | with_reducible rfl | (simp; done) | split | with_reducible refine (foldl_inv _ _ _ _ (fun _ _ => ?_)).trans ?_ | (dsimp only; first | split | with_reducible refine (foldl_inv _ _ _ _ (fun _ _ => ?_)).trans ?_)))

@[simp] theorem State.illOff_frame3 (s : State) :
    (s.illOff).ev = s.ev ∧ (s.illOff).safe = s.safe ∧ (s.illOff).dm = s.dm ∧ (s.illOff).cm = s.cm ∧ (s.illOff).cf = s.cf ∧
    (s.illOff).pw = s.pw ∧ (s.illOff).th = s.th := by
  and_intros <;> (unfold State.illOff; repeat' (first | with_reducible rfl | (simp; done) | split | with_reducible refine (foldl_inv _ _ _ _ (fun _ _ => ?_)).trans ?_ | (dsimp only; first | split | with_reducible refine (foldl_inv _ _ _ _ (fun _ _ => ?_)).trans ?_)))

@[simp] theorem State.stuckCheck_frame (s : State) (c end_ ilsMv : Nat) :
    (s.stuckCheck c end_ ilsMv).now = s.now ∧ (s.stuckCheck c end_ ilsMv).phase = s.phase ∧
    (s.stuckCheck c end_ ilsMv).pending = s.pending ∧ (s.stuckCheck c end_ ilsMv).nodeOfs = s.nodeOfs ∧
    (s.stuckCheck c end_ ilsMv).freeCtr = s.freeCtr ∧ (s.stuckCheck c end_ ilsMv).tx = s.tx ∧
    (s.stuckCheck c end_ ilsMv).tl = s.tl ∧ (s.stuckCheck c end_ ilsMv).sq = s.sq := by
  and_intros <;> (unfold State.stuckCheck; repeat' (first | with_reducible rfl | (simp; done) | split | with_reducible refine (foldl_inv _ _ _ _ (fun _ _ => ?_)).trans ?_ | (dsimp only; first | split | with_reducible refine (foldl_inv _ _ _ _ (fun _ _ => ?_)).trans ?_)))

@[simp] theorem State.stuckCheck_frame2 (s : State) (c end_ ilsMv : Nat) :
    (s.stuckCheck c end_ ilsMv).fd = s.fd ∧ (s.stuckCheck c end_ ilsMv).ex = s.ex ∧ (s.stuckCheck c end_ ilsMv).sv = s.sv ∧
    (s.stuckCheck c end_ ilsMv).ax = s.ax ∧ (s.stuckCheck c end_ ilsMv).aq = s.aq ∧ (s.stuckCheck c end_ ilsMv).ln = s.ln ∧
    (s.stuckCheck c end_ ilsMv).fl = s.fl ∧ (s.stuckCheck c end_ ilsMv).safe = s.safe := by
  and_intros <;> (unfold State.stuckCheck; repeat' (first | with_reducible rfl | (simp; done) | split | with_reducible refine (foldl_inv _ _ _ _ (fun _ _ => ?_)).trans ?_ | (dsimp only; first | split | with_reducible refine (foldl_inv _ _ _ _ (fun _ _ => ?_)).trans ?_)))

@[simp] theorem State.stuckCheck_frame3 (s : State) (c end_ ilsMv : Nat) :
    (s.stuckCheck c end_ ilsMv).dm = s.dm ∧ (s.stuckCheck c end_ ilsMv).cm = s.cm ∧ (s.stuckCheck c end_ ilsMv).cf = s.cf ∧
    (s.stuckCheck c end_ ilsMv).pw = s.pw ∧ (s.stuckCheck c end_ ilsMv).th = s.th := by
  and_intros <;> (unfold State.stuckCheck; repeat' (first | with_reducible rfl | (simp; done) | split | with_reducible refine (foldl_inv _ _ _ _ (fun _ _ => ?_)).trans ?_ | (dsimp only; first | split | with_reducible refine (foldl_inv _ _ _ _ (fun _ _ => ?_)).trans ?_)))

@[simp] theorem State.ilApply_frame (s : State) (c : Nat) :
    (s.ilApply c).now = s.now ∧ (s.ilApply c).phase = s.phase ∧ (s.ilApply c).pending = s.pending ∧
    (s.ilApply c).nodeOfs = s.nodeOfs ∧ (s.ilApply c).freeCtr = s.freeCtr ∧ (s.ilApply c).tl = s.tl ∧
    (s.ilApply c).fd = s.fd ∧ (s.ilApply c).ex = s.ex := by
  and_intros <;> (unfold State.ilApply; repeat' (first | with_reducible rfl | (simp; done) | split | with_reducible refine (foldl_inv _ _ _ _ (fun _ _ => ?_)).trans ?_ | (dsimp only; first | split | with_reducible refine (foldl_inv _ _ _ _ (fun _ _ => ?_)).trans ?_)))

@[simp] theorem State.ilApply_frame2 (s : State) (c : Nat) :
    (s.ilApply c).sv = s.sv ∧ (s.ilApply c).ax = s.ax ∧ (s.ilApply c).aq = s.aq ∧ (s.ilApply c).ln = s.ln ∧
    (s.ilApply c).dm = s.dm ∧ (s.ilApply c).cm = s.cm ∧ (s.ilApply c).pw = s.pw ∧ (s.ilApply c).th = s.th := by
  and_intros <;> (unfold State.ilApply; repeat' (first | with_reducible rfl | (simp; done) | split | with_reducible refine (foldl_inv _ _ _ _ (fun _ _ => ?_)).trans ?_ | (dsimp only; first | split | with_reducible refine (foldl_inv _ _ _ _ (fun _ _ => ?_)).trans ?_)))

@[simp] theorem State.beginPeriod_frame (s : State) (c start : Nat) :
    (s.beginPeriod c start).now = s.now ∧ (s.beginPeriod c start).phase = s.phase ∧
    (s.beginPeriod c start).pending = s.pending ∧ (s.beginPeriod c start).nodeOfs = s.nodeOfs ∧
    (s.beginPeriod c start).freeCtr = s.freeCtr ∧ (s.beginPeriod c start).tx = s.tx ∧ (s.beginPeriod c start).tl = s.tl ∧
    (s.beginPeriod c start).sq = s.sq := by
  and_intros <;> (unfold State.beginPeriod; repeat' (first | with_reducible rfl | (simp; done) | split | with_reducible refine (foldl_inv _ _ _ _ (fun _ _ => ?_)).trans ?_ | (dsimp only; first | split | with_reducible refine (foldl_inv _ _ _ _ (fun _ _ => ?_)).trans ?_)))

@[simp] theorem State.beginPeriod_frame2 (s : State) (c start : Nat) :
    (s.beginPeriod c start).fd = s.fd ∧ (s.beginPeriod c start).ex = s.ex ∧ (s.beginPeriod c start).sv = s.sv ∧
    (s.beginPeriod c start).ax = s.ax ∧ (s.beginPeriod c start).aq = s.aq ∧ (s.beginPeriod c start).ln = s.ln ∧
    (s.beginPeriod c start).fl = s.fl ∧ (s.beginPeriod c start).ev = s.ev := by
  and_intros <;> (unfold State.beginPeriod; repeat' (first | with_reducible rfl | (simp; done) | split | with_reducible refine (foldl_inv _ _ _ _ (fun _ _ => ?_)).trans ?_ | (dsimp only; first | split | with_reducible refine (foldl_inv _ _ _ _ (fun _ _ => ?_)).trans ?_)))

@[simp] theorem State.beginPeriod_frame3 (s : State) (c start : Nat) :
    (s.beginPeriod c start).safe = s.safe ∧ (s.beginPeriod c start).dm = s.dm ∧ (s.beginPeriod c start).cm = s.cm ∧
    (s.beginPeriod c start).cf = s.cf ∧ (s.beginPeriod c start).pw = s.pw ∧ (s.beginPeriod c start).th = s.th := by
  and_intros <;> (unfold State.beginPeriod; repeat' (first | with_reducible rfl | (simp; done) | split | with_reducible refine (foldl_inv _ _ _ _ (fun _ _ => ?_)).trans ?_ | (dsimp only; first | split | with_reducible refine (foldl_inv _ _ _ _ (fun _ _ => ?_)).trans ?_)))

@[simp] theorem State.ilRestart_frame (s : State) (c : Nat) :
    (s.ilRestart c).now = s.now ∧ (s.ilRestart c).phase = s.phase ∧ (s.ilRestart c).pending = s.pending ∧
    (s.ilRestart c).nodeOfs = s.nodeOfs ∧ (s.ilRestart c).freeCtr = s.freeCtr ∧ (s.ilRestart c).tx = s.tx ∧
    (s.ilRestart c).tl = s.tl ∧ (s.ilRestart c).sq = s.sq := by
  and_intros <;> (unfold State.ilRestart; repeat' (first | with_reducible rfl | (simp; done) | split | with_reducible refine (foldl_inv _ _ _ _ (fun _ _ => ?_)).trans ?_ | (dsimp only; first | split | with_reducible refine (foldl_inv _ _ _ _ (fun _ _ => ?_)).trans ?_)))

@[simp] theorem State.ilRestart_frame2 (s : State) (c : Nat) :
    (s.ilRestart c).fd = s.fd ∧ (s.ilRestart c).ex = s.ex ∧ (s.ilRestart c).sv = s.sv ∧ (s.ilRestart c).ax = s.ax ∧
    (s.ilRestart c).aq = s.aq ∧ (s.ilRestart c).ln = s.ln ∧ (s.ilRestart c).fl = s.fl ∧ (s.ilRestart c).ev = s.ev := by
  and_intros <;> (unfold State.ilRestart; repeat' (first | with_reducible rfl | (simp; done) | split | with_reducible refine (foldl_inv _ _ _ _ (fun _ _ => ?_)).trans ?_ | (dsimp only; first | split | with_reducible refine (foldl_inv _ _ _ _ (fun _ _ => ?_)).trans ?_)))

@[simp] theorem State.ilRestart_frame3 (s : State) (c : Nat) :
    (s.ilRestart c).safe = s.safe ∧ (s.ilRestart c).dm = s.dm ∧ (s.ilRestart c).cm = s.cm ∧ (s.ilRestart c).cf = s.cf ∧
    (s.ilRestart c).pw = s.pw ∧ (s.ilRestart c).th = s.th := by
  and_intros <;> (unfold State.ilRestart; repeat' (first | with_reducible rfl | (simp; done) | split | with_reducible refine (foldl_inv _ _ _ _ (fun _ _ => ?_)).trans ?_ | (dsimp only; first | split | with_reducible refine (foldl_inv _ _ _ _ (fun _ _ => ?_)).trans ?_)))

@[simp] theorem State.exposureEnd_frame (s : State) (n : Nat) :
    (s.exposureEnd n).now = s.now ∧ (s.exposureEnd n).phase = s.phase ∧ (s.exposureEnd n).pending = s.pending ∧
    (s.exposureEnd n).nodeOfs = s.nodeOfs ∧ (s.exposureEnd n).freeCtr = s.freeCtr ∧ (s.exposureEnd n).tx = s.tx ∧
    (s.exposureEnd n).regs = s.regs ∧ (s.exposureEnd n).tl = s.tl := by
  and_intros <;> (unfold State.exposureEnd; repeat' (first | with_reducible rfl | (simp; done) | split | with_reducible refine (foldl_inv _ _ _ _ (fun _ _ => ?_)).trans ?_ | (dsimp only; first | split | with_reducible refine (foldl_inv _ _ _ _ (fun _ _ => ?_)).trans ?_)))

@[simp] theorem State.exposureEnd_frame2 (s : State) (n : Nat) :
    (s.exposureEnd n).sq = s.sq ∧ (s.exposureEnd n).fd = s.fd ∧ (s.exposureEnd n).ex = s.ex ∧ (s.exposureEnd n).sv = s.sv ∧
    (s.exposureEnd n).ax = s.ax ∧ (s.exposureEnd n).aq = s.aq ∧ (s.exposureEnd n).ln = s.ln ∧ (s.exposureEnd n).fl = s.fl := by
  and_intros <;> (unfold State.exposureEnd; repeat' (first | with_reducible rfl | (simp; done) | split | with_reducible refine (foldl_inv _ _ _ _ (fun _ _ => ?_)).trans ?_ | (dsimp only; first | split | with_reducible refine (foldl_inv _ _ _ _ (fun _ _ => ?_)).trans ?_)))

@[simp] theorem State.exposureEnd_frame3 (s : State) (n : Nat) :
    (s.exposureEnd n).ev = s.ev ∧ (s.exposureEnd n).safe = s.safe ∧ (s.exposureEnd n).dm = s.dm ∧
    (s.exposureEnd n).cm = s.cm ∧ (s.exposureEnd n).cf = s.cf ∧ (s.exposureEnd n).pw = s.pw ∧ (s.exposureEnd n).th = s.th := by
  and_intros <;> (unfold State.exposureEnd; repeat' (first | with_reducible rfl | (simp; done) | split | with_reducible refine (foldl_inv _ _ _ _ (fun _ _ => ?_)).trans ?_ | (dsimp only; first | split | with_reducible refine (foldl_inv _ _ _ _ (fun _ _ => ?_)).trans ?_)))

@[simp] theorem State.exposureStart_frame (s : State) (n : Nat) :
    (s.exposureStart n).now = s.now ∧ (s.exposureStart n).phase = s.phase ∧ (s.exposureStart n).pending = s.pending ∧
    (s.exposureStart n).nodeOfs = s.nodeOfs ∧ (s.exposureStart n).freeCtr = s.freeCtr ∧ (s.exposureStart n).tx = s.tx ∧
    (s.exposureStart n).regs = s.regs ∧ (s.exposureStart n).tl = s.tl := by
  and_intros <;> (unfold State.exposureStart; repeat' (first | with_reducible rfl | (simp; done) | split | with_reducible refine (foldl_inv _ _ _ _ (fun _ _ => ?_)).trans ?_ | (dsimp only; first | split | with_reducible refine (foldl_inv _ _ _ _ (fun _ _ => ?_)).trans ?_)))

@[simp] theorem State.exposureStart_frame2 (s : State) (n : Nat) :
    (s.exposureStart n).sq = s.sq ∧ (s.exposureStart n).fd = s.fd ∧ (s.exposureStart n).ex = s.ex ∧
    (s.exposureStart n).sv = s.sv ∧ (s.exposureStart n).ax = s.ax ∧ (s.exposureStart n).aq = s.aq ∧
    (s.exposureStart n).ln = s.ln ∧ (s.exposureStart n).fl = s.fl := by
  and_intros <;> (unfold State.exposureStart; repeat' (first | with_reducible rfl | (simp; done) | split | with_reducible refine (foldl_inv _ _ _ _ (fun _ _ => ?_)).trans ?_ | (dsimp only; first | split | with_reducible refine (foldl_inv _ _ _ _ (fun _ _ => ?_)).trans ?_)))

@[simp] theorem State.exposureStart_frame3 (s : State) (n : Nat) :
    (s.exposureStart n).ev = s.ev ∧ (s.exposureStart n).safe = s.safe ∧ (s.exposureStart n).dm = s.dm ∧
    (s.exposureStart n).cm = s.cm ∧ (s.exposureStart n).cf = s.cf ∧ (s.exposureStart n).pw = s.pw ∧
    (s.exposureStart n).th = s.th := by
  and_intros <;> (unfold State.exposureStart; repeat' (first | with_reducible rfl | (simp; done) | split | with_reducible refine (foldl_inv _ _ _ _ (fun _ _ => ?_)).trans ?_ | (dsimp only; first | split | with_reducible refine (foldl_inv _ _ _ _ (fun _ _ => ?_)).trans ?_)))

@[simp] theorem State.ilCntClr_frame (s : State) :
    (s.ilCntClr).now = s.now ∧ (s.ilCntClr).phase = s.phase ∧ (s.ilCntClr).pending = s.pending ∧
    (s.ilCntClr).nodeOfs = s.nodeOfs ∧ (s.ilCntClr).freeCtr = s.freeCtr ∧ (s.ilCntClr).tx = s.tx ∧ (s.ilCntClr).tl = s.tl ∧
    (s.ilCntClr).sq = s.sq := by
  and_intros <;> (unfold State.ilCntClr; repeat' (first | with_reducible rfl | (simp; done) | split | with_reducible refine (foldl_inv _ _ _ _ (fun _ _ => ?_)).trans ?_ | (dsimp only; first | split | with_reducible refine (foldl_inv _ _ _ _ (fun _ _ => ?_)).trans ?_)))

@[simp] theorem State.ilCntClr_frame2 (s : State) :
    (s.ilCntClr).fd = s.fd ∧ (s.ilCntClr).ex = s.ex ∧ (s.ilCntClr).sv = s.sv ∧ (s.ilCntClr).ax = s.ax ∧
    (s.ilCntClr).aq = s.aq ∧ (s.ilCntClr).il = s.il ∧ (s.ilCntClr).ln = s.ln ∧ (s.ilCntClr).fl = s.fl := by
  and_intros <;> (unfold State.ilCntClr; repeat' (first | with_reducible rfl | (simp; done) | split | with_reducible refine (foldl_inv _ _ _ _ (fun _ _ => ?_)).trans ?_ | (dsimp only; first | split | with_reducible refine (foldl_inv _ _ _ _ (fun _ _ => ?_)).trans ?_)))

@[simp] theorem State.ilCntClr_frame3 (s : State) :
    (s.ilCntClr).ev = s.ev ∧ (s.ilCntClr).safe = s.safe ∧ (s.ilCntClr).dm = s.dm ∧ (s.ilCntClr).cm = s.cm ∧
    (s.ilCntClr).cf = s.cf ∧ (s.ilCntClr).pw = s.pw ∧ (s.ilCntClr).th = s.th := by
  and_intros <;> (unfold State.ilCntClr; repeat' (first | with_reducible rfl | (simp; done) | split | with_reducible refine (foldl_inv _ _ _ _ (fun _ _ => ?_)).trans ?_ | (dsimp only; first | split | with_reducible refine (foldl_inv _ _ _ _ (fun _ _ => ?_)).trans ?_)))

@[simp] theorem State.stuckCheck_parts (s : State) (c end_ ilsMv : Nat) :
    (s.stuckCheck c end_ ilsMv).regs.setA = s.regs.setA ∧ (s.stuckCheck c end_ ilsMv).regs.setB = s.regs.setB ∧
    (s.stuckCheck c end_ ilsMv).regs.one = s.regs.one ∧ (s.stuckCheck c end_ ilsMv).regs.rsvd = s.regs.rsvd ∧
    (s.stuckCheck c end_ ilsMv).regs.waiting = s.regs.waiting ∧ (s.stuckCheck c end_ ilsMv).regs.stale = s.regs.stale ∧
    (s.stuckCheck c end_ ilsMv).regs.posted = s.regs.posted := by
  and_intros <;> (unfold State.stuckCheck; repeat' (first | with_reducible rfl | (simp; done) | split | with_reducible refine (State.regs_setA_foldl _ _ _ (fun _ _ => ?_)).trans ?_ | with_reducible refine (State.regs_setB_foldl _ _ _ (fun _ _ => ?_)).trans ?_ | with_reducible refine (State.regs_one_foldl _ _ _ (fun _ _ => ?_)).trans ?_ | with_reducible refine (State.regs_rsvd_foldl _ _ _ (fun _ _ => ?_)).trans ?_ | with_reducible refine (State.regs_waiting_foldl _ _ _ (fun _ _ => ?_)).trans ?_ | with_reducible refine (State.regs_stale_foldl _ _ _ (fun _ _ => ?_)).trans ?_ | with_reducible refine (State.regs_posted_foldl _ _ _ (fun _ _ => ?_)).trans ?_ | with_reducible refine (State.fd_mem_foldl _ _ _ (fun _ _ => ?_)).trans ?_ | with_reducible refine (State.dm_sram_foldl _ _ _ (fun _ _ => ?_)).trans ?_ | with_reducible refine (State.sq_frameNo_foldl _ _ _ (fun _ _ => ?_)).trans ?_ | with_reducible refine (State.sq_inScan_foldl _ _ _ (fun _ _ => ?_)).trans ?_ | with_reducible refine (State.sq_nextBoundary_foldl _ _ _ (fun _ _ => ?_)).trans ?_ | with_reducible refine (State.pw_gate_foldl _ _ _ (fun _ _ => ?_)).trans ?_ | (dsimp only; first | split | with_reducible refine (State.regs_setA_foldl _ _ _ (fun _ _ => ?_)).trans ?_ | with_reducible refine (State.regs_setB_foldl _ _ _ (fun _ _ => ?_)).trans ?_ | with_reducible refine (State.regs_one_foldl _ _ _ (fun _ _ => ?_)).trans ?_ | with_reducible refine (State.regs_rsvd_foldl _ _ _ (fun _ _ => ?_)).trans ?_ | with_reducible refine (State.regs_waiting_foldl _ _ _ (fun _ _ => ?_)).trans ?_ | with_reducible refine (State.regs_stale_foldl _ _ _ (fun _ _ => ?_)).trans ?_ | with_reducible refine (State.regs_posted_foldl _ _ _ (fun _ _ => ?_)).trans ?_ | with_reducible refine (State.fd_mem_foldl _ _ _ (fun _ _ => ?_)).trans ?_ | with_reducible refine (State.dm_sram_foldl _ _ _ (fun _ _ => ?_)).trans ?_ | with_reducible refine (State.sq_frameNo_foldl _ _ _ (fun _ _ => ?_)).trans ?_ | with_reducible refine (State.sq_inScan_foldl _ _ _ (fun _ _ => ?_)).trans ?_ | with_reducible refine (State.sq_nextBoundary_foldl _ _ _ (fun _ _ => ?_)).trans ?_ | with_reducible refine (State.pw_gate_foldl _ _ _ (fun _ _ => ?_)).trans ?_)))

@[simp] theorem State.ilApply_parts (s : State) (c : Nat) :
    (s.ilApply c).regs.one = s.regs.one ∧ (s.ilApply c).regs.rsvd = s.regs.rsvd ∧ (s.ilApply c).regs.posted = s.regs.posted ∧
    (s.ilApply c).sq.frameNo = s.sq.frameNo ∧ (s.ilApply c).sq.inScan = s.sq.inScan ∧
    (s.ilApply c).sq.nextBoundary = s.sq.nextBoundary := by
  and_intros <;> (unfold State.ilApply; repeat' (first | with_reducible rfl | (simp; done) | split | with_reducible refine (State.regs_setA_foldl _ _ _ (fun _ _ => ?_)).trans ?_ | with_reducible refine (State.regs_setB_foldl _ _ _ (fun _ _ => ?_)).trans ?_ | with_reducible refine (State.regs_one_foldl _ _ _ (fun _ _ => ?_)).trans ?_ | with_reducible refine (State.regs_rsvd_foldl _ _ _ (fun _ _ => ?_)).trans ?_ | with_reducible refine (State.regs_waiting_foldl _ _ _ (fun _ _ => ?_)).trans ?_ | with_reducible refine (State.regs_stale_foldl _ _ _ (fun _ _ => ?_)).trans ?_ | with_reducible refine (State.regs_posted_foldl _ _ _ (fun _ _ => ?_)).trans ?_ | with_reducible refine (State.fd_mem_foldl _ _ _ (fun _ _ => ?_)).trans ?_ | with_reducible refine (State.dm_sram_foldl _ _ _ (fun _ _ => ?_)).trans ?_ | with_reducible refine (State.sq_frameNo_foldl _ _ _ (fun _ _ => ?_)).trans ?_ | with_reducible refine (State.sq_inScan_foldl _ _ _ (fun _ _ => ?_)).trans ?_ | with_reducible refine (State.sq_nextBoundary_foldl _ _ _ (fun _ _ => ?_)).trans ?_ | with_reducible refine (State.pw_gate_foldl _ _ _ (fun _ _ => ?_)).trans ?_ | (dsimp only; first | split | with_reducible refine (State.regs_setA_foldl _ _ _ (fun _ _ => ?_)).trans ?_ | with_reducible refine (State.regs_setB_foldl _ _ _ (fun _ _ => ?_)).trans ?_ | with_reducible refine (State.regs_one_foldl _ _ _ (fun _ _ => ?_)).trans ?_ | with_reducible refine (State.regs_rsvd_foldl _ _ _ (fun _ _ => ?_)).trans ?_ | with_reducible refine (State.regs_waiting_foldl _ _ _ (fun _ _ => ?_)).trans ?_ | with_reducible refine (State.regs_stale_foldl _ _ _ (fun _ _ => ?_)).trans ?_ | with_reducible refine (State.regs_posted_foldl _ _ _ (fun _ _ => ?_)).trans ?_ | with_reducible refine (State.fd_mem_foldl _ _ _ (fun _ _ => ?_)).trans ?_ | with_reducible refine (State.dm_sram_foldl _ _ _ (fun _ _ => ?_)).trans ?_ | with_reducible refine (State.sq_frameNo_foldl _ _ _ (fun _ _ => ?_)).trans ?_ | with_reducible refine (State.sq_inScan_foldl _ _ _ (fun _ _ => ?_)).trans ?_ | with_reducible refine (State.sq_nextBoundary_foldl _ _ _ (fun _ _ => ?_)).trans ?_ | with_reducible refine (State.pw_gate_foldl _ _ _ (fun _ _ => ?_)).trans ?_)))

@[simp] theorem State.beginPeriod_parts (s : State) (c start : Nat) :
    (s.beginPeriod c start).regs.setA = s.regs.setA ∧ (s.beginPeriod c start).regs.setB = s.regs.setB ∧
    (s.beginPeriod c start).regs.one = s.regs.one ∧ (s.beginPeriod c start).regs.rsvd = s.regs.rsvd ∧
    (s.beginPeriod c start).regs.waiting = s.regs.waiting ∧ (s.beginPeriod c start).regs.stale = s.regs.stale ∧
    (s.beginPeriod c start).regs.posted = s.regs.posted := by
  and_intros <;> (unfold State.beginPeriod; repeat' (first | with_reducible rfl | (simp; done) | split | with_reducible refine (State.regs_setA_foldl _ _ _ (fun _ _ => ?_)).trans ?_ | with_reducible refine (State.regs_setB_foldl _ _ _ (fun _ _ => ?_)).trans ?_ | with_reducible refine (State.regs_one_foldl _ _ _ (fun _ _ => ?_)).trans ?_ | with_reducible refine (State.regs_rsvd_foldl _ _ _ (fun _ _ => ?_)).trans ?_ | with_reducible refine (State.regs_waiting_foldl _ _ _ (fun _ _ => ?_)).trans ?_ | with_reducible refine (State.regs_stale_foldl _ _ _ (fun _ _ => ?_)).trans ?_ | with_reducible refine (State.regs_posted_foldl _ _ _ (fun _ _ => ?_)).trans ?_ | with_reducible refine (State.fd_mem_foldl _ _ _ (fun _ _ => ?_)).trans ?_ | with_reducible refine (State.dm_sram_foldl _ _ _ (fun _ _ => ?_)).trans ?_ | with_reducible refine (State.sq_frameNo_foldl _ _ _ (fun _ _ => ?_)).trans ?_ | with_reducible refine (State.sq_inScan_foldl _ _ _ (fun _ _ => ?_)).trans ?_ | with_reducible refine (State.sq_nextBoundary_foldl _ _ _ (fun _ _ => ?_)).trans ?_ | with_reducible refine (State.pw_gate_foldl _ _ _ (fun _ _ => ?_)).trans ?_ | (dsimp only; first | split | with_reducible refine (State.regs_setA_foldl _ _ _ (fun _ _ => ?_)).trans ?_ | with_reducible refine (State.regs_setB_foldl _ _ _ (fun _ _ => ?_)).trans ?_ | with_reducible refine (State.regs_one_foldl _ _ _ (fun _ _ => ?_)).trans ?_ | with_reducible refine (State.regs_rsvd_foldl _ _ _ (fun _ _ => ?_)).trans ?_ | with_reducible refine (State.regs_waiting_foldl _ _ _ (fun _ _ => ?_)).trans ?_ | with_reducible refine (State.regs_stale_foldl _ _ _ (fun _ _ => ?_)).trans ?_ | with_reducible refine (State.regs_posted_foldl _ _ _ (fun _ _ => ?_)).trans ?_ | with_reducible refine (State.fd_mem_foldl _ _ _ (fun _ _ => ?_)).trans ?_ | with_reducible refine (State.dm_sram_foldl _ _ _ (fun _ _ => ?_)).trans ?_ | with_reducible refine (State.sq_frameNo_foldl _ _ _ (fun _ _ => ?_)).trans ?_ | with_reducible refine (State.sq_inScan_foldl _ _ _ (fun _ _ => ?_)).trans ?_ | with_reducible refine (State.sq_nextBoundary_foldl _ _ _ (fun _ _ => ?_)).trans ?_ | with_reducible refine (State.pw_gate_foldl _ _ _ (fun _ _ => ?_)).trans ?_)))

@[simp] theorem State.ilRestart_parts (s : State) (c : Nat) :
    (s.ilRestart c).regs.setA = s.regs.setA ∧ (s.ilRestart c).regs.setB = s.regs.setB ∧
    (s.ilRestart c).regs.one = s.regs.one ∧ (s.ilRestart c).regs.rsvd = s.regs.rsvd ∧
    (s.ilRestart c).regs.waiting = s.regs.waiting ∧ (s.ilRestart c).regs.stale = s.regs.stale ∧
    (s.ilRestart c).regs.posted = s.regs.posted := by
  and_intros <;> (unfold State.ilRestart; repeat' (first | with_reducible rfl | (simp; done) | split | with_reducible refine (State.regs_setA_foldl _ _ _ (fun _ _ => ?_)).trans ?_ | with_reducible refine (State.regs_setB_foldl _ _ _ (fun _ _ => ?_)).trans ?_ | with_reducible refine (State.regs_one_foldl _ _ _ (fun _ _ => ?_)).trans ?_ | with_reducible refine (State.regs_rsvd_foldl _ _ _ (fun _ _ => ?_)).trans ?_ | with_reducible refine (State.regs_waiting_foldl _ _ _ (fun _ _ => ?_)).trans ?_ | with_reducible refine (State.regs_stale_foldl _ _ _ (fun _ _ => ?_)).trans ?_ | with_reducible refine (State.regs_posted_foldl _ _ _ (fun _ _ => ?_)).trans ?_ | with_reducible refine (State.fd_mem_foldl _ _ _ (fun _ _ => ?_)).trans ?_ | with_reducible refine (State.dm_sram_foldl _ _ _ (fun _ _ => ?_)).trans ?_ | with_reducible refine (State.sq_frameNo_foldl _ _ _ (fun _ _ => ?_)).trans ?_ | with_reducible refine (State.sq_inScan_foldl _ _ _ (fun _ _ => ?_)).trans ?_ | with_reducible refine (State.sq_nextBoundary_foldl _ _ _ (fun _ _ => ?_)).trans ?_ | with_reducible refine (State.pw_gate_foldl _ _ _ (fun _ _ => ?_)).trans ?_ | (dsimp only; first | split | with_reducible refine (State.regs_setA_foldl _ _ _ (fun _ _ => ?_)).trans ?_ | with_reducible refine (State.regs_setB_foldl _ _ _ (fun _ _ => ?_)).trans ?_ | with_reducible refine (State.regs_one_foldl _ _ _ (fun _ _ => ?_)).trans ?_ | with_reducible refine (State.regs_rsvd_foldl _ _ _ (fun _ _ => ?_)).trans ?_ | with_reducible refine (State.regs_waiting_foldl _ _ _ (fun _ _ => ?_)).trans ?_ | with_reducible refine (State.regs_stale_foldl _ _ _ (fun _ _ => ?_)).trans ?_ | with_reducible refine (State.regs_posted_foldl _ _ _ (fun _ _ => ?_)).trans ?_ | with_reducible refine (State.fd_mem_foldl _ _ _ (fun _ _ => ?_)).trans ?_ | with_reducible refine (State.dm_sram_foldl _ _ _ (fun _ _ => ?_)).trans ?_ | with_reducible refine (State.sq_frameNo_foldl _ _ _ (fun _ _ => ?_)).trans ?_ | with_reducible refine (State.sq_inScan_foldl _ _ _ (fun _ _ => ?_)).trans ?_ | with_reducible refine (State.sq_nextBoundary_foldl _ _ _ (fun _ _ => ?_)).trans ?_ | with_reducible refine (State.pw_gate_foldl _ _ _ (fun _ _ => ?_)).trans ?_)))

@[simp] theorem State.ilCntClr_parts (s : State) :
    (s.ilCntClr).regs.setA = s.regs.setA ∧ (s.ilCntClr).regs.setB = s.regs.setB ∧ (s.ilCntClr).regs.one = s.regs.one ∧
    (s.ilCntClr).regs.rsvd = s.regs.rsvd ∧ (s.ilCntClr).regs.waiting = s.regs.waiting ∧
    (s.ilCntClr).regs.stale = s.regs.stale ∧ (s.ilCntClr).regs.posted = s.regs.posted := by
  and_intros <;> (unfold State.ilCntClr; repeat' (first | with_reducible rfl | (simp; done) | split | with_reducible refine (State.regs_setA_foldl _ _ _ (fun _ _ => ?_)).trans ?_ | with_reducible refine (State.regs_setB_foldl _ _ _ (fun _ _ => ?_)).trans ?_ | with_reducible refine (State.regs_one_foldl _ _ _ (fun _ _ => ?_)).trans ?_ | with_reducible refine (State.regs_rsvd_foldl _ _ _ (fun _ _ => ?_)).trans ?_ | with_reducible refine (State.regs_waiting_foldl _ _ _ (fun _ _ => ?_)).trans ?_ | with_reducible refine (State.regs_stale_foldl _ _ _ (fun _ _ => ?_)).trans ?_ | with_reducible refine (State.regs_posted_foldl _ _ _ (fun _ _ => ?_)).trans ?_ | with_reducible refine (State.fd_mem_foldl _ _ _ (fun _ _ => ?_)).trans ?_ | with_reducible refine (State.dm_sram_foldl _ _ _ (fun _ _ => ?_)).trans ?_ | with_reducible refine (State.sq_frameNo_foldl _ _ _ (fun _ _ => ?_)).trans ?_ | with_reducible refine (State.sq_inScan_foldl _ _ _ (fun _ _ => ?_)).trans ?_ | with_reducible refine (State.sq_nextBoundary_foldl _ _ _ (fun _ _ => ?_)).trans ?_ | with_reducible refine (State.pw_gate_foldl _ _ _ (fun _ _ => ?_)).trans ?_ | (dsimp only; first | split | with_reducible refine (State.regs_setA_foldl _ _ _ (fun _ _ => ?_)).trans ?_ | with_reducible refine (State.regs_setB_foldl _ _ _ (fun _ _ => ?_)).trans ?_ | with_reducible refine (State.regs_one_foldl _ _ _ (fun _ _ => ?_)).trans ?_ | with_reducible refine (State.regs_rsvd_foldl _ _ _ (fun _ _ => ?_)).trans ?_ | with_reducible refine (State.regs_waiting_foldl _ _ _ (fun _ _ => ?_)).trans ?_ | with_reducible refine (State.regs_stale_foldl _ _ _ (fun _ _ => ?_)).trans ?_ | with_reducible refine (State.regs_posted_foldl _ _ _ (fun _ _ => ?_)).trans ?_ | with_reducible refine (State.fd_mem_foldl _ _ _ (fun _ _ => ?_)).trans ?_ | with_reducible refine (State.dm_sram_foldl _ _ _ (fun _ _ => ?_)).trans ?_ | with_reducible refine (State.sq_frameNo_foldl _ _ _ (fun _ _ => ?_)).trans ?_ | with_reducible refine (State.sq_inScan_foldl _ _ _ (fun _ _ => ?_)).trans ?_ | with_reducible refine (State.sq_nextBoundary_foldl _ _ _ (fun _ _ => ?_)).trans ?_ | with_reducible refine (State.pw_gate_foldl _ _ _ (fun _ _ => ?_)).trans ?_)))

end Sys2Proof.Machine
end

