-- ==== Sys2Proof/Laws/FrameDelivery.lean ====
section
/-!
SUPPORT. The frames of the operations of Machine/Delivery.lean: the parts of the state that each of them leaves as they were.
-/

set_option linter.unusedTactic false
set_option linter.unreachableTactic false
set_option linter.unusedSimpArgs false

namespace Sys2Proof.Machine

@[simp] theorem State.setDmQueue_frame (s : State) (q : Nat) (x : DmQueue) :
    (s.setDmQueue q x).now = s.now ∧ (s.setDmQueue q x).phase = s.phase ∧ (s.setDmQueue q x).pending = s.pending ∧
    (s.setDmQueue q x).nodeOfs = s.nodeOfs ∧ (s.setDmQueue q x).freeCtr = s.freeCtr ∧ (s.setDmQueue q x).tx = s.tx ∧
    (s.setDmQueue q x).regs = s.regs ∧ (s.setDmQueue q x).tl = s.tl := by
  and_intros <;> (unfold State.setDmQueue; repeat' (first | with_reducible rfl | (simp; done) | split | with_reducible refine (foldl_inv _ _ _ _ (fun _ _ => ?_)).trans ?_ | (dsimp only; first | split | with_reducible refine (foldl_inv _ _ _ _ (fun _ _ => ?_)).trans ?_)))

@[simp] theorem State.setDmQueue_frame2 (s : State) (q : Nat) (x : DmQueue) :
    (s.setDmQueue q x).sq = s.sq ∧ (s.setDmQueue q x).fd = s.fd ∧ (s.setDmQueue q x).ex = s.ex ∧
    (s.setDmQueue q x).sv = s.sv ∧ (s.setDmQueue q x).ax = s.ax ∧ (s.setDmQueue q x).aq = s.aq ∧
    (s.setDmQueue q x).il = s.il ∧ (s.setDmQueue q x).ln = s.ln := by
  and_intros <;> (unfold State.setDmQueue; repeat' (first | with_reducible rfl | (simp; done) | split | with_reducible refine (foldl_inv _ _ _ _ (fun _ _ => ?_)).trans ?_ | (dsimp only; first | split | with_reducible refine (foldl_inv _ _ _ _ (fun _ _ => ?_)).trans ?_)))

@[simp] theorem State.setDmQueue_frame3 (s : State) (q : Nat) (x : DmQueue) :
    (s.setDmQueue q x).fl = s.fl ∧ (s.setDmQueue q x).ev = s.ev ∧ (s.setDmQueue q x).safe = s.safe ∧
    (s.setDmQueue q x).cm = s.cm ∧ (s.setDmQueue q x).cf = s.cf ∧ (s.setDmQueue q x).pw = s.pw ∧
    (s.setDmQueue q x).th = s.th := by
  and_intros <;> (unfold State.setDmQueue; repeat' (first | with_reducible rfl | (simp; done) | split | with_reducible refine (foldl_inv _ _ _ _ (fun _ _ => ?_)).trans ?_ | (dsimp only; first | split | with_reducible refine (foldl_inv _ _ _ _ (fun _ _ => ?_)).trans ?_)))

@[simp] theorem State.discBytes_frame (s : State) (q n : Nat) :
    (s.discBytes q n).now = s.now ∧ (s.discBytes q n).phase = s.phase ∧ (s.discBytes q n).pending = s.pending ∧
    (s.discBytes q n).nodeOfs = s.nodeOfs ∧ (s.discBytes q n).freeCtr = s.freeCtr ∧ (s.discBytes q n).tx = s.tx ∧
    (s.discBytes q n).tl = s.tl ∧ (s.discBytes q n).sq = s.sq := by
  and_intros <;> (unfold State.discBytes; repeat' (first | with_reducible rfl | (simp; done) | split | with_reducible refine (foldl_inv _ _ _ _ (fun _ _ => ?_)).trans ?_ | (dsimp only; first | split | with_reducible refine (foldl_inv _ _ _ _ (fun _ _ => ?_)).trans ?_)))

@[simp] theorem State.discBytes_frame2 (s : State) (q n : Nat) :
    (s.discBytes q n).fd = s.fd ∧ (s.discBytes q n).ex = s.ex ∧ (s.discBytes q n).sv = s.sv ∧ (s.discBytes q n).ax = s.ax ∧
    (s.discBytes q n).aq = s.aq ∧ (s.discBytes q n).il = s.il ∧ (s.discBytes q n).ln = s.ln ∧ (s.discBytes q n).fl = s.fl := by
  and_intros <;> (unfold State.discBytes; repeat' (first | with_reducible rfl | (simp; done) | split | with_reducible refine (foldl_inv _ _ _ _ (fun _ _ => ?_)).trans ?_ | (dsimp only; first | split | with_reducible refine (foldl_inv _ _ _ _ (fun _ _ => ?_)).trans ?_)))

@[simp] theorem State.discBytes_frame3 (s : State) (q n : Nat) :
    (s.discBytes q n).ev = s.ev ∧ (s.discBytes q n).safe = s.safe ∧ (s.discBytes q n).cm = s.cm ∧
    (s.discBytes q n).cf = s.cf ∧ (s.discBytes q n).pw = s.pw ∧ (s.discBytes q n).th = s.th := by
  and_intros <;> (unfold State.discBytes; repeat' (first | with_reducible rfl | (simp; done) | split | with_reducible refine (foldl_inv _ _ _ _ (fun _ _ => ?_)).trans ?_ | (dsimp only; first | split | with_reducible refine (foldl_inv _ _ _ _ (fun _ _ => ?_)).trans ?_)))

@[simp] theorem State.dmPeak_frame (s : State) (q : Nat) :
    (s.dmPeak q).now = s.now ∧ (s.dmPeak q).phase = s.phase ∧ (s.dmPeak q).pending = s.pending ∧
    (s.dmPeak q).nodeOfs = s.nodeOfs ∧ (s.dmPeak q).freeCtr = s.freeCtr ∧ (s.dmPeak q).tx = s.tx ∧ (s.dmPeak q).tl = s.tl ∧
    (s.dmPeak q).sq = s.sq := by
  and_intros <;> (unfold State.dmPeak; repeat' (first | with_reducible rfl | (simp; done) | split | with_reducible refine (foldl_inv _ _ _ _ (fun _ _ => ?_)).trans ?_ | (dsimp only; first | split | with_reducible refine (foldl_inv _ _ _ _ (fun _ _ => ?_)).trans ?_)))

@[simp] theorem State.dmPeak_frame2 (s : State) (q : Nat) :
    (s.dmPeak q).fd = s.fd ∧ (s.dmPeak q).ex = s.ex ∧ (s.dmPeak q).sv = s.sv ∧ (s.dmPeak q).ax = s.ax ∧
    (s.dmPeak q).aq = s.aq ∧ (s.dmPeak q).il = s.il ∧ (s.dmPeak q).ln = s.ln ∧ (s.dmPeak q).fl = s.fl := by
  and_intros <;> (unfold State.dmPeak; repeat' (first | with_reducible rfl | (simp; done) | split | with_reducible refine (foldl_inv _ _ _ _ (fun _ _ => ?_)).trans ?_ | (dsimp only; first | split | with_reducible refine (foldl_inv _ _ _ _ (fun _ _ => ?_)).trans ?_)))

@[simp] theorem State.dmPeak_frame3 (s : State) (q : Nat) :
    (s.dmPeak q).ev = s.ev ∧ (s.dmPeak q).safe = s.safe ∧ (s.dmPeak q).dm = s.dm ∧ (s.dmPeak q).cm = s.cm ∧
    (s.dmPeak q).cf = s.cf ∧ (s.dmPeak q).pw = s.pw ∧ (s.dmPeak q).th = s.th := by
  and_intros <;> (unfold State.dmPeak; repeat' (first | with_reducible rfl | (simp; done) | split | with_reducible refine (foldl_inv _ _ _ _ (fun _ _ => ?_)).trans ?_ | (dsimp only; first | split | with_reducible refine (foldl_inv _ _ _ _ (fun _ _ => ?_)).trans ?_)))

@[simp] theorem State.sendPoints_frame (s : State) (q : Nat) (u : Sub) :
    (s.sendPoints q u).now = s.now ∧ (s.sendPoints q u).phase = s.phase ∧ (s.sendPoints q u).pending = s.pending ∧
    (s.sendPoints q u).nodeOfs = s.nodeOfs ∧ (s.sendPoints q u).freeCtr = s.freeCtr ∧ (s.sendPoints q u).tl = s.tl ∧
    (s.sendPoints q u).sq = s.sq ∧ (s.sendPoints q u).fd = s.fd := by
  and_intros <;> (unfold State.sendPoints; repeat' (first | with_reducible rfl | (simp; done) | split | with_reducible refine (foldl_inv _ _ _ _ (fun _ _ => ?_)).trans ?_ | (dsimp only; first | split | with_reducible refine (foldl_inv _ _ _ _ (fun _ _ => ?_)).trans ?_)))

@[simp] theorem State.sendPoints_frame2 (s : State) (q : Nat) (u : Sub) :
    (s.sendPoints q u).ex = s.ex ∧ (s.sendPoints q u).sv = s.sv ∧ (s.sendPoints q u).ax = s.ax ∧
    (s.sendPoints q u).aq = s.aq ∧ (s.sendPoints q u).il = s.il ∧ (s.sendPoints q u).ln = s.ln ∧
    (s.sendPoints q u).ev = s.ev ∧ (s.sendPoints q u).safe = s.safe := by
  and_intros <;> (unfold State.sendPoints; repeat' (first | with_reducible rfl | (simp; done) | split | with_reducible refine (foldl_inv _ _ _ _ (fun _ _ => ?_)).trans ?_ | (dsimp only; first | split | with_reducible refine (foldl_inv _ _ _ _ (fun _ _ => ?_)).trans ?_)))

@[simp] theorem State.sendPoints_frame3 (s : State) (q : Nat) (u : Sub) :
    (s.sendPoints q u).cm = s.cm ∧ (s.sendPoints q u).cf = s.cf ∧ (s.sendPoints q u).pw = s.pw ∧
    (s.sendPoints q u).th = s.th := by
  and_intros <;> (unfold State.sendPoints; repeat' (first | with_reducible rfl | (simp; done) | split | with_reducible refine (foldl_inv _ _ _ _ (fun _ _ => ?_)).trans ?_ | (dsimp only; first | split | with_reducible refine (foldl_inv _ _ _ _ (fun _ _ => ?_)).trans ?_)))

@[simp] theorem State.dropSubCopies_frame (s : State) (u : Sub) :
    (s.dropSubCopies u).now = s.now ∧ (s.dropSubCopies u).phase = s.phase ∧ (s.dropSubCopies u).pending = s.pending ∧
    (s.dropSubCopies u).nodeOfs = s.nodeOfs ∧ (s.dropSubCopies u).freeCtr = s.freeCtr ∧ (s.dropSubCopies u).tx = s.tx ∧
    (s.dropSubCopies u).tl = s.tl ∧ (s.dropSubCopies u).sq = s.sq := by
  and_intros <;> (unfold State.dropSubCopies; repeat' (first | with_reducible rfl | (simp; done) | split | with_reducible refine (foldl_inv _ _ _ _ (fun _ _ => ?_)).trans ?_ | (dsimp only; first | split | with_reducible refine (foldl_inv _ _ _ _ (fun _ _ => ?_)).trans ?_)))

@[simp] theorem State.dropSubCopies_frame2 (s : State) (u : Sub) :
    (s.dropSubCopies u).fd = s.fd ∧ (s.dropSubCopies u).ex = s.ex ∧ (s.dropSubCopies u).sv = s.sv ∧
    (s.dropSubCopies u).ax = s.ax ∧ (s.dropSubCopies u).aq = s.aq ∧ (s.dropSubCopies u).il = s.il ∧
    (s.dropSubCopies u).ln = s.ln ∧ (s.dropSubCopies u).fl = s.fl := by
  and_intros <;> (unfold State.dropSubCopies; repeat' (first | with_reducible rfl | (simp; done) | split | with_reducible refine (foldl_inv _ _ _ _ (fun _ _ => ?_)).trans ?_ | (dsimp only; first | split | with_reducible refine (foldl_inv _ _ _ _ (fun _ _ => ?_)).trans ?_)))

@[simp] theorem State.dropSubCopies_frame3 (s : State) (u : Sub) :
    (s.dropSubCopies u).ev = s.ev ∧ (s.dropSubCopies u).safe = s.safe ∧ (s.dropSubCopies u).cm = s.cm ∧
    (s.dropSubCopies u).cf = s.cf ∧ (s.dropSubCopies u).pw = s.pw ∧ (s.dropSubCopies u).th = s.th := by
  and_intros <;> (unfold State.dropSubCopies; repeat' (first | with_reducible rfl | (simp; done) | split | with_reducible refine (foldl_inv _ _ _ _ (fun _ _ => ?_)).trans ?_ | (dsimp only; first | split | with_reducible refine (foldl_inv _ _ _ _ (fun _ _ => ?_)).trans ?_)))

@[simp] theorem State.dropDown_frame (s : State) :
    (s.dropDown).now = s.now ∧ (s.dropDown).phase = s.phase ∧ (s.dropDown).pending = s.pending ∧
    (s.dropDown).nodeOfs = s.nodeOfs ∧ (s.dropDown).freeCtr = s.freeCtr ∧ (s.dropDown).tx = s.tx ∧ (s.dropDown).tl = s.tl ∧
    (s.dropDown).sq = s.sq := by
  and_intros <;> (unfold State.dropDown; repeat' (first | with_reducible rfl | (simp; done) | split | with_reducible refine (foldl_inv _ _ _ _ (fun _ _ => ?_)).trans ?_ | (dsimp only; first | split | with_reducible refine (foldl_inv _ _ _ _ (fun _ _ => ?_)).trans ?_)))

@[simp] theorem State.dropDown_frame2 (s : State) :
    (s.dropDown).fd = s.fd ∧ (s.dropDown).ex = s.ex ∧ (s.dropDown).sv = s.sv ∧ (s.dropDown).ax = s.ax ∧
    (s.dropDown).aq = s.aq ∧ (s.dropDown).il = s.il ∧ (s.dropDown).ln = s.ln ∧ (s.dropDown).fl = s.fl := by
  and_intros <;> (unfold State.dropDown; repeat' (first | with_reducible rfl | (simp; done) | split | with_reducible refine (foldl_inv _ _ _ _ (fun _ _ => ?_)).trans ?_ | (dsimp only; first | split | with_reducible refine (foldl_inv _ _ _ _ (fun _ _ => ?_)).trans ?_)))

@[simp] theorem State.dropDown_frame3 (s : State) :
    (s.dropDown).ev = s.ev ∧ (s.dropDown).safe = s.safe ∧ (s.dropDown).cm = s.cm ∧ (s.dropDown).cf = s.cf ∧
    (s.dropDown).pw = s.pw ∧ (s.dropDown).th = s.th := by
  and_intros <;> (unfold State.dropDown; repeat' (first | with_reducible rfl | (simp; done) | split | with_reducible refine (foldl_inv _ _ _ _ (fun _ _ => ?_)).trans ?_ | (dsimp only; first | split | with_reducible refine (foldl_inv _ _ _ _ (fun _ _ => ?_)).trans ?_)))

@[simp] theorem State.dropBytes_frame (s : State) (q : Nat) :
    (s.dropBytes q).now = s.now ∧ (s.dropBytes q).phase = s.phase ∧ (s.dropBytes q).pending = s.pending ∧
    (s.dropBytes q).nodeOfs = s.nodeOfs ∧ (s.dropBytes q).freeCtr = s.freeCtr ∧ (s.dropBytes q).tx = s.tx ∧
    (s.dropBytes q).tl = s.tl ∧ (s.dropBytes q).sq = s.sq := by
  and_intros <;> (unfold State.dropBytes; repeat' (first | with_reducible rfl | (simp; done) | split | with_reducible refine (foldl_inv _ _ _ _ (fun _ _ => ?_)).trans ?_ | (dsimp only; first | split | with_reducible refine (foldl_inv _ _ _ _ (fun _ _ => ?_)).trans ?_)))

@[simp] theorem State.dropBytes_frame2 (s : State) (q : Nat) :
    (s.dropBytes q).fd = s.fd ∧ (s.dropBytes q).ex = s.ex ∧ (s.dropBytes q).sv = s.sv ∧ (s.dropBytes q).ax = s.ax ∧
    (s.dropBytes q).aq = s.aq ∧ (s.dropBytes q).il = s.il ∧ (s.dropBytes q).ln = s.ln ∧ (s.dropBytes q).fl = s.fl := by
  and_intros <;> (unfold State.dropBytes; repeat' (first | with_reducible rfl | (simp; done) | split | with_reducible refine (foldl_inv _ _ _ _ (fun _ _ => ?_)).trans ?_ | (dsimp only; first | split | with_reducible refine (foldl_inv _ _ _ _ (fun _ _ => ?_)).trans ?_)))

@[simp] theorem State.dropBytes_frame3 (s : State) (q : Nat) :
    (s.dropBytes q).ev = s.ev ∧ (s.dropBytes q).safe = s.safe ∧ (s.dropBytes q).cm = s.cm ∧ (s.dropBytes q).cf = s.cf ∧
    (s.dropBytes q).pw = s.pw ∧ (s.dropBytes q).th = s.th := by
  and_intros <;> (unfold State.dropBytes; repeat' (first | with_reducible rfl | (simp; done) | split | with_reducible refine (foldl_inv _ _ _ _ (fun _ _ => ?_)).trans ?_ | (dsimp only; first | split | with_reducible refine (foldl_inv _ _ _ _ (fun _ _ => ?_)).trans ?_)))

@[simp] theorem State.endSub_frame (s : State) (u : Sub) :
    (s.endSub u).now = s.now ∧ (s.endSub u).phase = s.phase ∧ (s.endSub u).pending = s.pending ∧
    (s.endSub u).nodeOfs = s.nodeOfs ∧ (s.endSub u).freeCtr = s.freeCtr ∧ (s.endSub u).tx = s.tx ∧ (s.endSub u).tl = s.tl ∧
    (s.endSub u).sq = s.sq := by
  and_intros <;> (unfold State.endSub; repeat' (first | with_reducible rfl | (simp; done) | split | with_reducible refine (foldl_inv _ _ _ _ (fun _ _ => ?_)).trans ?_ | (dsimp only; first | split | with_reducible refine (foldl_inv _ _ _ _ (fun _ _ => ?_)).trans ?_)))

@[simp] theorem State.endSub_frame2 (s : State) (u : Sub) :
    (s.endSub u).fd = s.fd ∧ (s.endSub u).ex = s.ex ∧ (s.endSub u).sv = s.sv ∧ (s.endSub u).ax = s.ax ∧
    (s.endSub u).aq = s.aq ∧ (s.endSub u).il = s.il ∧ (s.endSub u).ln = s.ln ∧ (s.endSub u).ev = s.ev := by
  and_intros <;> (unfold State.endSub; repeat' (first | with_reducible rfl | (simp; done) | split | with_reducible refine (foldl_inv _ _ _ _ (fun _ _ => ?_)).trans ?_ | (dsimp only; first | split | with_reducible refine (foldl_inv _ _ _ _ (fun _ _ => ?_)).trans ?_)))

@[simp] theorem State.endSub_frame3 (s : State) (u : Sub) :
    (s.endSub u).safe = s.safe ∧ (s.endSub u).cm = s.cm ∧ (s.endSub u).cf = s.cf ∧ (s.endSub u).pw = s.pw ∧
    (s.endSub u).th = s.th := by
  and_intros <;> (unfold State.endSub; repeat' (first | with_reducible rfl | (simp; done) | split | with_reducible refine (foldl_inv _ _ _ _ (fun _ _ => ?_)).trans ?_ | (dsimp only; first | split | with_reducible refine (foldl_inv _ _ _ _ (fun _ _ => ?_)).trans ?_)))

@[simp] theorem State.setDmQueue_parts (s : State) (q : Nat) (x : DmQueue) :
    (s.setDmQueue q x).dm.sram = s.dm.sram := by
  unfold State.setDmQueue; repeat' (first | with_reducible rfl | (simp; done) | split | with_reducible refine (State.regs_setA_foldl _ _ _ (fun _ _ => ?_)).trans ?_ | with_reducible refine (State.regs_setB_foldl _ _ _ (fun _ _ => ?_)).trans ?_ | with_reducible refine (State.regs_one_foldl _ _ _ (fun _ _ => ?_)).trans ?_ | with_reducible refine (State.regs_rsvd_foldl _ _ _ (fun _ _ => ?_)).trans ?_ | with_reducible refine (State.regs_waiting_foldl _ _ _ (fun _ _ => ?_)).trans ?_ | with_reducible refine (State.regs_stale_foldl _ _ _ (fun _ _ => ?_)).trans ?_ | with_reducible refine (State.regs_posted_foldl _ _ _ (fun _ _ => ?_)).trans ?_ | with_reducible refine (State.fd_mem_foldl _ _ _ (fun _ _ => ?_)).trans ?_ | with_reducible refine (State.dm_sram_foldl _ _ _ (fun _ _ => ?_)).trans ?_ | with_reducible refine (State.sq_frameNo_foldl _ _ _ (fun _ _ => ?_)).trans ?_ | with_reducible refine (State.sq_inScan_foldl _ _ _ (fun _ _ => ?_)).trans ?_ | with_reducible refine (State.sq_nextBoundary_foldl _ _ _ (fun _ _ => ?_)).trans ?_ | with_reducible refine (State.pw_gate_foldl _ _ _ (fun _ _ => ?_)).trans ?_ | (dsimp only; first | split | with_reducible refine (State.regs_setA_foldl _ _ _ (fun _ _ => ?_)).trans ?_ | with_reducible refine (State.regs_setB_foldl _ _ _ (fun _ _ => ?_)).trans ?_ | with_reducible refine (State.regs_one_foldl _ _ _ (fun _ _ => ?_)).trans ?_ | with_reducible refine (State.regs_rsvd_foldl _ _ _ (fun _ _ => ?_)).trans ?_ | with_reducible refine (State.regs_waiting_foldl _ _ _ (fun _ _ => ?_)).trans ?_ | with_reducible refine (State.regs_stale_foldl _ _ _ (fun _ _ => ?_)).trans ?_ | with_reducible refine (State.regs_posted_foldl _ _ _ (fun _ _ => ?_)).trans ?_ | with_reducible refine (State.fd_mem_foldl _ _ _ (fun _ _ => ?_)).trans ?_ | with_reducible refine (State.dm_sram_foldl _ _ _ (fun _ _ => ?_)).trans ?_ | with_reducible refine (State.sq_frameNo_foldl _ _ _ (fun _ _ => ?_)).trans ?_ | with_reducible refine (State.sq_inScan_foldl _ _ _ (fun _ _ => ?_)).trans ?_ | with_reducible refine (State.sq_nextBoundary_foldl _ _ _ (fun _ _ => ?_)).trans ?_ | with_reducible refine (State.pw_gate_foldl _ _ _ (fun _ _ => ?_)).trans ?_))

@[simp] theorem State.discBytes_parts (s : State) (q n : Nat) :
    (s.discBytes q n).regs.setA = s.regs.setA ∧ (s.discBytes q n).regs.setB = s.regs.setB ∧
    (s.discBytes q n).regs.one = s.regs.one ∧ (s.discBytes q n).regs.rsvd = s.regs.rsvd ∧
    (s.discBytes q n).regs.waiting = s.regs.waiting ∧ (s.discBytes q n).regs.stale = s.regs.stale ∧
    (s.discBytes q n).regs.posted = s.regs.posted ∧ (s.discBytes q n).dm.sram = s.dm.sram := by
  and_intros <;> (unfold State.discBytes; repeat' (first | with_reducible rfl | (simp; done) | split | with_reducible refine (State.regs_setA_foldl _ _ _ (fun _ _ => ?_)).trans ?_ | with_reducible refine (State.regs_setB_foldl _ _ _ (fun _ _ => ?_)).trans ?_ | with_reducible refine (State.regs_one_foldl _ _ _ (fun _ _ => ?_)).trans ?_ | with_reducible refine (State.regs_rsvd_foldl _ _ _ (fun _ _ => ?_)).trans ?_ | with_reducible refine (State.regs_waiting_foldl _ _ _ (fun _ _ => ?_)).trans ?_ | with_reducible refine (State.regs_stale_foldl _ _ _ (fun _ _ => ?_)).trans ?_ | with_reducible refine (State.regs_posted_foldl _ _ _ (fun _ _ => ?_)).trans ?_ | with_reducible refine (State.fd_mem_foldl _ _ _ (fun _ _ => ?_)).trans ?_ | with_reducible refine (State.dm_sram_foldl _ _ _ (fun _ _ => ?_)).trans ?_ | with_reducible refine (State.sq_frameNo_foldl _ _ _ (fun _ _ => ?_)).trans ?_ | with_reducible refine (State.sq_inScan_foldl _ _ _ (fun _ _ => ?_)).trans ?_ | with_reducible refine (State.sq_nextBoundary_foldl _ _ _ (fun _ _ => ?_)).trans ?_ | with_reducible refine (State.pw_gate_foldl _ _ _ (fun _ _ => ?_)).trans ?_ | (dsimp only; first | split | with_reducible refine (State.regs_setA_foldl _ _ _ (fun _ _ => ?_)).trans ?_ | with_reducible refine (State.regs_setB_foldl _ _ _ (fun _ _ => ?_)).trans ?_ | with_reducible refine (State.regs_one_foldl _ _ _ (fun _ _ => ?_)).trans ?_ | with_reducible refine (State.regs_rsvd_foldl _ _ _ (fun _ _ => ?_)).trans ?_ | with_reducible refine (State.regs_waiting_foldl _ _ _ (fun _ _ => ?_)).trans ?_ | with_reducible refine (State.regs_stale_foldl _ _ _ (fun _ _ => ?_)).trans ?_ | with_reducible refine (State.regs_posted_foldl _ _ _ (fun _ _ => ?_)).trans ?_ | with_reducible refine (State.fd_mem_foldl _ _ _ (fun _ _ => ?_)).trans ?_ | with_reducible refine (State.dm_sram_foldl _ _ _ (fun _ _ => ?_)).trans ?_ | with_reducible refine (State.sq_frameNo_foldl _ _ _ (fun _ _ => ?_)).trans ?_ | with_reducible refine (State.sq_inScan_foldl _ _ _ (fun _ _ => ?_)).trans ?_ | with_reducible refine (State.sq_nextBoundary_foldl _ _ _ (fun _ _ => ?_)).trans ?_ | with_reducible refine (State.pw_gate_foldl _ _ _ (fun _ _ => ?_)).trans ?_)))

@[simp] theorem State.dmPeak_parts (s : State) (q : Nat) :
    (s.dmPeak q).regs.setA = s.regs.setA ∧ (s.dmPeak q).regs.setB = s.regs.setB ∧ (s.dmPeak q).regs.one = s.regs.one ∧
    (s.dmPeak q).regs.rsvd = s.regs.rsvd ∧ (s.dmPeak q).regs.waiting = s.regs.waiting ∧
    (s.dmPeak q).regs.stale = s.regs.stale ∧ (s.dmPeak q).regs.posted = s.regs.posted := by
  and_intros <;> (unfold State.dmPeak; repeat' (first | with_reducible rfl | (simp; done) | split | with_reducible refine (State.regs_setA_foldl _ _ _ (fun _ _ => ?_)).trans ?_ | with_reducible refine (State.regs_setB_foldl _ _ _ (fun _ _ => ?_)).trans ?_ | with_reducible refine (State.regs_one_foldl _ _ _ (fun _ _ => ?_)).trans ?_ | with_reducible refine (State.regs_rsvd_foldl _ _ _ (fun _ _ => ?_)).trans ?_ | with_reducible refine (State.regs_waiting_foldl _ _ _ (fun _ _ => ?_)).trans ?_ | with_reducible refine (State.regs_stale_foldl _ _ _ (fun _ _ => ?_)).trans ?_ | with_reducible refine (State.regs_posted_foldl _ _ _ (fun _ _ => ?_)).trans ?_ | with_reducible refine (State.fd_mem_foldl _ _ _ (fun _ _ => ?_)).trans ?_ | with_reducible refine (State.dm_sram_foldl _ _ _ (fun _ _ => ?_)).trans ?_ | with_reducible refine (State.sq_frameNo_foldl _ _ _ (fun _ _ => ?_)).trans ?_ | with_reducible refine (State.sq_inScan_foldl _ _ _ (fun _ _ => ?_)).trans ?_ | with_reducible refine (State.sq_nextBoundary_foldl _ _ _ (fun _ _ => ?_)).trans ?_ | with_reducible refine (State.pw_gate_foldl _ _ _ (fun _ _ => ?_)).trans ?_ | (dsimp only; first | split | with_reducible refine (State.regs_setA_foldl _ _ _ (fun _ _ => ?_)).trans ?_ | with_reducible refine (State.regs_setB_foldl _ _ _ (fun _ _ => ?_)).trans ?_ | with_reducible refine (State.regs_one_foldl _ _ _ (fun _ _ => ?_)).trans ?_ | with_reducible refine (State.regs_rsvd_foldl _ _ _ (fun _ _ => ?_)).trans ?_ | with_reducible refine (State.regs_waiting_foldl _ _ _ (fun _ _ => ?_)).trans ?_ | with_reducible refine (State.regs_stale_foldl _ _ _ (fun _ _ => ?_)).trans ?_ | with_reducible refine (State.regs_posted_foldl _ _ _ (fun _ _ => ?_)).trans ?_ | with_reducible refine (State.fd_mem_foldl _ _ _ (fun _ _ => ?_)).trans ?_ | with_reducible refine (State.dm_sram_foldl _ _ _ (fun _ _ => ?_)).trans ?_ | with_reducible refine (State.sq_frameNo_foldl _ _ _ (fun _ _ => ?_)).trans ?_ | with_reducible refine (State.sq_inScan_foldl _ _ _ (fun _ _ => ?_)).trans ?_ | with_reducible refine (State.sq_nextBoundary_foldl _ _ _ (fun _ _ => ?_)).trans ?_ | with_reducible refine (State.pw_gate_foldl _ _ _ (fun _ _ => ?_)).trans ?_)))

@[simp] theorem State.sendPoints_parts (s : State) (q : Nat) (u : Sub) :
    (s.sendPoints q u).regs.setA = s.regs.setA ∧ (s.sendPoints q u).regs.setB = s.regs.setB ∧
    (s.sendPoints q u).regs.one = s.regs.one ∧ (s.sendPoints q u).regs.rsvd = s.regs.rsvd ∧
    (s.sendPoints q u).regs.waiting = s.regs.waiting ∧ (s.sendPoints q u).regs.stale = s.regs.stale ∧
    (s.sendPoints q u).regs.posted = s.regs.posted ∧ (s.sendPoints q u).dm.sram = s.dm.sram := by
  and_intros <;> (unfold State.sendPoints; repeat' (first | with_reducible rfl | (simp; done) | split | with_reducible refine (State.regs_setA_foldl _ _ _ (fun _ _ => ?_)).trans ?_ | with_reducible refine (State.regs_setB_foldl _ _ _ (fun _ _ => ?_)).trans ?_ | with_reducible refine (State.regs_one_foldl _ _ _ (fun _ _ => ?_)).trans ?_ | with_reducible refine (State.regs_rsvd_foldl _ _ _ (fun _ _ => ?_)).trans ?_ | with_reducible refine (State.regs_waiting_foldl _ _ _ (fun _ _ => ?_)).trans ?_ | with_reducible refine (State.regs_stale_foldl _ _ _ (fun _ _ => ?_)).trans ?_ | with_reducible refine (State.regs_posted_foldl _ _ _ (fun _ _ => ?_)).trans ?_ | with_reducible refine (State.fd_mem_foldl _ _ _ (fun _ _ => ?_)).trans ?_ | with_reducible refine (State.dm_sram_foldl _ _ _ (fun _ _ => ?_)).trans ?_ | with_reducible refine (State.sq_frameNo_foldl _ _ _ (fun _ _ => ?_)).trans ?_ | with_reducible refine (State.sq_inScan_foldl _ _ _ (fun _ _ => ?_)).trans ?_ | with_reducible refine (State.sq_nextBoundary_foldl _ _ _ (fun _ _ => ?_)).trans ?_ | with_reducible refine (State.pw_gate_foldl _ _ _ (fun _ _ => ?_)).trans ?_ | (dsimp only; first | split | with_reducible refine (State.regs_setA_foldl _ _ _ (fun _ _ => ?_)).trans ?_ | with_reducible refine (State.regs_setB_foldl _ _ _ (fun _ _ => ?_)).trans ?_ | with_reducible refine (State.regs_one_foldl _ _ _ (fun _ _ => ?_)).trans ?_ | with_reducible refine (State.regs_rsvd_foldl _ _ _ (fun _ _ => ?_)).trans ?_ | with_reducible refine (State.regs_waiting_foldl _ _ _ (fun _ _ => ?_)).trans ?_ | with_reducible refine (State.regs_stale_foldl _ _ _ (fun _ _ => ?_)).trans ?_ | with_reducible refine (State.regs_posted_foldl _ _ _ (fun _ _ => ?_)).trans ?_ | with_reducible refine (State.fd_mem_foldl _ _ _ (fun _ _ => ?_)).trans ?_ | with_reducible refine (State.dm_sram_foldl _ _ _ (fun _ _ => ?_)).trans ?_ | with_reducible refine (State.sq_frameNo_foldl _ _ _ (fun _ _ => ?_)).trans ?_ | with_reducible refine (State.sq_inScan_foldl _ _ _ (fun _ _ => ?_)).trans ?_ | with_reducible refine (State.sq_nextBoundary_foldl _ _ _ (fun _ _ => ?_)).trans ?_ | with_reducible refine (State.pw_gate_foldl _ _ _ (fun _ _ => ?_)).trans ?_)))

@[simp] theorem State.dropSubCopies_parts (s : State) (u : Sub) :
    (s.dropSubCopies u).regs.setA = s.regs.setA ∧ (s.dropSubCopies u).regs.setB = s.regs.setB ∧
    (s.dropSubCopies u).regs.one = s.regs.one ∧ (s.dropSubCopies u).regs.rsvd = s.regs.rsvd ∧
    (s.dropSubCopies u).regs.waiting = s.regs.waiting ∧ (s.dropSubCopies u).regs.stale = s.regs.stale ∧
    (s.dropSubCopies u).regs.posted = s.regs.posted ∧ (s.dropSubCopies u).dm.sram = s.dm.sram := by
  and_intros <;> (unfold State.dropSubCopies; repeat' (first | with_reducible rfl | (simp; done) | split | with_reducible refine (State.regs_setA_foldl _ _ _ (fun _ _ => ?_)).trans ?_ | with_reducible refine (State.regs_setB_foldl _ _ _ (fun _ _ => ?_)).trans ?_ | with_reducible refine (State.regs_one_foldl _ _ _ (fun _ _ => ?_)).trans ?_ | with_reducible refine (State.regs_rsvd_foldl _ _ _ (fun _ _ => ?_)).trans ?_ | with_reducible refine (State.regs_waiting_foldl _ _ _ (fun _ _ => ?_)).trans ?_ | with_reducible refine (State.regs_stale_foldl _ _ _ (fun _ _ => ?_)).trans ?_ | with_reducible refine (State.regs_posted_foldl _ _ _ (fun _ _ => ?_)).trans ?_ | with_reducible refine (State.fd_mem_foldl _ _ _ (fun _ _ => ?_)).trans ?_ | with_reducible refine (State.dm_sram_foldl _ _ _ (fun _ _ => ?_)).trans ?_ | with_reducible refine (State.sq_frameNo_foldl _ _ _ (fun _ _ => ?_)).trans ?_ | with_reducible refine (State.sq_inScan_foldl _ _ _ (fun _ _ => ?_)).trans ?_ | with_reducible refine (State.sq_nextBoundary_foldl _ _ _ (fun _ _ => ?_)).trans ?_ | with_reducible refine (State.pw_gate_foldl _ _ _ (fun _ _ => ?_)).trans ?_ | (dsimp only; first | split | with_reducible refine (State.regs_setA_foldl _ _ _ (fun _ _ => ?_)).trans ?_ | with_reducible refine (State.regs_setB_foldl _ _ _ (fun _ _ => ?_)).trans ?_ | with_reducible refine (State.regs_one_foldl _ _ _ (fun _ _ => ?_)).trans ?_ | with_reducible refine (State.regs_rsvd_foldl _ _ _ (fun _ _ => ?_)).trans ?_ | with_reducible refine (State.regs_waiting_foldl _ _ _ (fun _ _ => ?_)).trans ?_ | with_reducible refine (State.regs_stale_foldl _ _ _ (fun _ _ => ?_)).trans ?_ | with_reducible refine (State.regs_posted_foldl _ _ _ (fun _ _ => ?_)).trans ?_ | with_reducible refine (State.fd_mem_foldl _ _ _ (fun _ _ => ?_)).trans ?_ | with_reducible refine (State.dm_sram_foldl _ _ _ (fun _ _ => ?_)).trans ?_ | with_reducible refine (State.sq_frameNo_foldl _ _ _ (fun _ _ => ?_)).trans ?_ | with_reducible refine (State.sq_inScan_foldl _ _ _ (fun _ _ => ?_)).trans ?_ | with_reducible refine (State.sq_nextBoundary_foldl _ _ _ (fun _ _ => ?_)).trans ?_ | with_reducible refine (State.pw_gate_foldl _ _ _ (fun _ _ => ?_)).trans ?_)))

@[simp] theorem State.dropDown_parts (s : State) :
    (s.dropDown).regs.setA = s.regs.setA ∧ (s.dropDown).regs.setB = s.regs.setB ∧ (s.dropDown).regs.one = s.regs.one ∧
    (s.dropDown).regs.rsvd = s.regs.rsvd ∧ (s.dropDown).regs.waiting = s.regs.waiting ∧
    (s.dropDown).regs.stale = s.regs.stale ∧ (s.dropDown).regs.posted = s.regs.posted ∧ (s.dropDown).dm.sram = s.dm.sram := by
  and_intros <;> (unfold State.dropDown; repeat' (first | with_reducible rfl | (simp; done) | split | with_reducible refine (State.regs_setA_foldl _ _ _ (fun _ _ => ?_)).trans ?_ | with_reducible refine (State.regs_setB_foldl _ _ _ (fun _ _ => ?_)).trans ?_ | with_reducible refine (State.regs_one_foldl _ _ _ (fun _ _ => ?_)).trans ?_ | with_reducible refine (State.regs_rsvd_foldl _ _ _ (fun _ _ => ?_)).trans ?_ | with_reducible refine (State.regs_waiting_foldl _ _ _ (fun _ _ => ?_)).trans ?_ | with_reducible refine (State.regs_stale_foldl _ _ _ (fun _ _ => ?_)).trans ?_ | with_reducible refine (State.regs_posted_foldl _ _ _ (fun _ _ => ?_)).trans ?_ | with_reducible refine (State.fd_mem_foldl _ _ _ (fun _ _ => ?_)).trans ?_ | with_reducible refine (State.dm_sram_foldl _ _ _ (fun _ _ => ?_)).trans ?_ | with_reducible refine (State.sq_frameNo_foldl _ _ _ (fun _ _ => ?_)).trans ?_ | with_reducible refine (State.sq_inScan_foldl _ _ _ (fun _ _ => ?_)).trans ?_ | with_reducible refine (State.sq_nextBoundary_foldl _ _ _ (fun _ _ => ?_)).trans ?_ | with_reducible refine (State.pw_gate_foldl _ _ _ (fun _ _ => ?_)).trans ?_ | (dsimp only; first | split | with_reducible refine (State.regs_setA_foldl _ _ _ (fun _ _ => ?_)).trans ?_ | with_reducible refine (State.regs_setB_foldl _ _ _ (fun _ _ => ?_)).trans ?_ | with_reducible refine (State.regs_one_foldl _ _ _ (fun _ _ => ?_)).trans ?_ | with_reducible refine (State.regs_rsvd_foldl _ _ _ (fun _ _ => ?_)).trans ?_ | with_reducible refine (State.regs_waiting_foldl _ _ _ (fun _ _ => ?_)).trans ?_ | with_reducible refine (State.regs_stale_foldl _ _ _ (fun _ _ => ?_)).trans ?_ | with_reducible refine (State.regs_posted_foldl _ _ _ (fun _ _ => ?_)).trans ?_ | with_reducible refine (State.fd_mem_foldl _ _ _ (fun _ _ => ?_)).trans ?_ | with_reducible refine (State.dm_sram_foldl _ _ _ (fun _ _ => ?_)).trans ?_ | with_reducible refine (State.sq_frameNo_foldl _ _ _ (fun _ _ => ?_)).trans ?_ | with_reducible refine (State.sq_inScan_foldl _ _ _ (fun _ _ => ?_)).trans ?_ | with_reducible refine (State.sq_nextBoundary_foldl _ _ _ (fun _ _ => ?_)).trans ?_ | with_reducible refine (State.pw_gate_foldl _ _ _ (fun _ _ => ?_)).trans ?_)))

@[simp] theorem State.dropBytes_parts (s : State) (q : Nat) :
    (s.dropBytes q).regs.setA = s.regs.setA ∧ (s.dropBytes q).regs.setB = s.regs.setB ∧
    (s.dropBytes q).regs.one = s.regs.one ∧ (s.dropBytes q).regs.rsvd = s.regs.rsvd ∧
    (s.dropBytes q).regs.waiting = s.regs.waiting ∧ (s.dropBytes q).regs.stale = s.regs.stale ∧
    (s.dropBytes q).regs.posted = s.regs.posted ∧ (s.dropBytes q).dm.sram = s.dm.sram := by
  and_intros <;> (unfold State.dropBytes; repeat' (first | with_reducible rfl | (simp; done) | split | with_reducible refine (State.regs_setA_foldl _ _ _ (fun _ _ => ?_)).trans ?_ | with_reducible refine (State.regs_setB_foldl _ _ _ (fun _ _ => ?_)).trans ?_ | with_reducible refine (State.regs_one_foldl _ _ _ (fun _ _ => ?_)).trans ?_ | with_reducible refine (State.regs_rsvd_foldl _ _ _ (fun _ _ => ?_)).trans ?_ | with_reducible refine (State.regs_waiting_foldl _ _ _ (fun _ _ => ?_)).trans ?_ | with_reducible refine (State.regs_stale_foldl _ _ _ (fun _ _ => ?_)).trans ?_ | with_reducible refine (State.regs_posted_foldl _ _ _ (fun _ _ => ?_)).trans ?_ | with_reducible refine (State.fd_mem_foldl _ _ _ (fun _ _ => ?_)).trans ?_ | with_reducible refine (State.dm_sram_foldl _ _ _ (fun _ _ => ?_)).trans ?_ | with_reducible refine (State.sq_frameNo_foldl _ _ _ (fun _ _ => ?_)).trans ?_ | with_reducible refine (State.sq_inScan_foldl _ _ _ (fun _ _ => ?_)).trans ?_ | with_reducible refine (State.sq_nextBoundary_foldl _ _ _ (fun _ _ => ?_)).trans ?_ | with_reducible refine (State.pw_gate_foldl _ _ _ (fun _ _ => ?_)).trans ?_ | (dsimp only; first | split | with_reducible refine (State.regs_setA_foldl _ _ _ (fun _ _ => ?_)).trans ?_ | with_reducible refine (State.regs_setB_foldl _ _ _ (fun _ _ => ?_)).trans ?_ | with_reducible refine (State.regs_one_foldl _ _ _ (fun _ _ => ?_)).trans ?_ | with_reducible refine (State.regs_rsvd_foldl _ _ _ (fun _ _ => ?_)).trans ?_ | with_reducible refine (State.regs_waiting_foldl _ _ _ (fun _ _ => ?_)).trans ?_ | with_reducible refine (State.regs_stale_foldl _ _ _ (fun _ _ => ?_)).trans ?_ | with_reducible refine (State.regs_posted_foldl _ _ _ (fun _ _ => ?_)).trans ?_ | with_reducible refine (State.fd_mem_foldl _ _ _ (fun _ _ => ?_)).trans ?_ | with_reducible refine (State.dm_sram_foldl _ _ _ (fun _ _ => ?_)).trans ?_ | with_reducible refine (State.sq_frameNo_foldl _ _ _ (fun _ _ => ?_)).trans ?_ | with_reducible refine (State.sq_inScan_foldl _ _ _ (fun _ _ => ?_)).trans ?_ | with_reducible refine (State.sq_nextBoundary_foldl _ _ _ (fun _ _ => ?_)).trans ?_ | with_reducible refine (State.pw_gate_foldl _ _ _ (fun _ _ => ?_)).trans ?_)))

@[simp] theorem State.endSub_parts (s : State) (u : Sub) :
    (s.endSub u).regs.setA = s.regs.setA ∧ (s.endSub u).regs.setB = s.regs.setB ∧ (s.endSub u).regs.one = s.regs.one ∧
    (s.endSub u).regs.rsvd = s.regs.rsvd ∧ (s.endSub u).regs.waiting = s.regs.waiting ∧
    (s.endSub u).regs.stale = s.regs.stale ∧ (s.endSub u).regs.posted = s.regs.posted ∧ (s.endSub u).dm.sram = s.dm.sram := by
  and_intros <;> (unfold State.endSub; repeat' (first | with_reducible rfl | (simp; done) | split | with_reducible refine (State.regs_setA_foldl _ _ _ (fun _ _ => ?_)).trans ?_ | with_reducible refine (State.regs_setB_foldl _ _ _ (fun _ _ => ?_)).trans ?_ | with_reducible refine (State.regs_one_foldl _ _ _ (fun _ _ => ?_)).trans ?_ | with_reducible refine (State.regs_rsvd_foldl _ _ _ (fun _ _ => ?_)).trans ?_ | with_reducible refine (State.regs_waiting_foldl _ _ _ (fun _ _ => ?_)).trans ?_ | with_reducible refine (State.regs_stale_foldl _ _ _ (fun _ _ => ?_)).trans ?_ | with_reducible refine (State.regs_posted_foldl _ _ _ (fun _ _ => ?_)).trans ?_ | with_reducible refine (State.fd_mem_foldl _ _ _ (fun _ _ => ?_)).trans ?_ | with_reducible refine (State.dm_sram_foldl _ _ _ (fun _ _ => ?_)).trans ?_ | with_reducible refine (State.sq_frameNo_foldl _ _ _ (fun _ _ => ?_)).trans ?_ | with_reducible refine (State.sq_inScan_foldl _ _ _ (fun _ _ => ?_)).trans ?_ | with_reducible refine (State.sq_nextBoundary_foldl _ _ _ (fun _ _ => ?_)).trans ?_ | with_reducible refine (State.pw_gate_foldl _ _ _ (fun _ _ => ?_)).trans ?_ | (dsimp only; first | split | with_reducible refine (State.regs_setA_foldl _ _ _ (fun _ _ => ?_)).trans ?_ | with_reducible refine (State.regs_setB_foldl _ _ _ (fun _ _ => ?_)).trans ?_ | with_reducible refine (State.regs_one_foldl _ _ _ (fun _ _ => ?_)).trans ?_ | with_reducible refine (State.regs_rsvd_foldl _ _ _ (fun _ _ => ?_)).trans ?_ | with_reducible refine (State.regs_waiting_foldl _ _ _ (fun _ _ => ?_)).trans ?_ | with_reducible refine (State.regs_stale_foldl _ _ _ (fun _ _ => ?_)).trans ?_ | with_reducible refine (State.regs_posted_foldl _ _ _ (fun _ _ => ?_)).trans ?_ | with_reducible refine (State.fd_mem_foldl _ _ _ (fun _ _ => ?_)).trans ?_ | with_reducible refine (State.dm_sram_foldl _ _ _ (fun _ _ => ?_)).trans ?_ | with_reducible refine (State.sq_frameNo_foldl _ _ _ (fun _ _ => ?_)).trans ?_ | with_reducible refine (State.sq_inScan_foldl _ _ _ (fun _ _ => ?_)).trans ?_ | with_reducible refine (State.sq_nextBoundary_foldl _ _ _ (fun _ _ => ?_)).trans ?_ | with_reducible refine (State.pw_gate_foldl _ _ _ (fun _ _ => ?_)).trans ?_)))

end Sys2Proof.Machine
end

