-- ==== Sys2Proof/Laws/FrameLanes.lean ====
section
/-!
SUPPORT. The frames of the operations of Machine/Lanes.lean: the parts of the state that each of them leaves as they were.
-/

set_option linter.unusedTactic false
set_option linter.unreachableTactic false
set_option linter.unusedSimpArgs false

namespace Sys2Proof.Machine

@[simp] theorem State.setLane_frame (s : State) (l : Nat) (x : LaneState) :
    (s.setLane l x).now = s.now ∧ (s.setLane l x).phase = s.phase ∧ (s.setLane l x).pending = s.pending ∧
    (s.setLane l x).nodeOfs = s.nodeOfs ∧ (s.setLane l x).freeCtr = s.freeCtr ∧ (s.setLane l x).tx = s.tx ∧
    (s.setLane l x).regs = s.regs ∧ (s.setLane l x).tl = s.tl := by
  and_intros <;> (unfold State.setLane; repeat' (first | with_reducible rfl | (simp; done) | split | with_reducible refine (foldl_inv _ _ _ _ (fun _ _ => ?_)).trans ?_ | (dsimp only; first | split | with_reducible refine (foldl_inv _ _ _ _ (fun _ _ => ?_)).trans ?_)))

@[simp] theorem State.setLane_frame2 (s : State) (l : Nat) (x : LaneState) :
    (s.setLane l x).sq = s.sq ∧ (s.setLane l x).fd = s.fd ∧ (s.setLane l x).ex = s.ex ∧ (s.setLane l x).sv = s.sv ∧
    (s.setLane l x).ax = s.ax ∧ (s.setLane l x).aq = s.aq ∧ (s.setLane l x).il = s.il ∧ (s.setLane l x).fl = s.fl := by
  and_intros <;> (unfold State.setLane; repeat' (first | with_reducible rfl | (simp; done) | split | with_reducible refine (foldl_inv _ _ _ _ (fun _ _ => ?_)).trans ?_ | (dsimp only; first | split | with_reducible refine (foldl_inv _ _ _ _ (fun _ _ => ?_)).trans ?_)))

@[simp] theorem State.setLane_frame3 (s : State) (l : Nat) (x : LaneState) :
    (s.setLane l x).ev = s.ev ∧ (s.setLane l x).safe = s.safe ∧ (s.setLane l x).dm = s.dm ∧ (s.setLane l x).cm = s.cm ∧
    (s.setLane l x).cf = s.cf ∧ (s.setLane l x).pw = s.pw ∧ (s.setLane l x).th = s.th := by
  and_intros <;> (unfold State.setLane; repeat' (first | with_reducible rfl | (simp; done) | split | with_reducible refine (foldl_inv _ _ _ _ (fun _ _ => ?_)).trans ?_ | (dsimp only; first | split | with_reducible refine (foldl_inv _ _ _ _ (fun _ _ => ?_)).trans ?_)))

@[simp] theorem State.pllLock_frame (s : State) (q : Nat) :
    (s.pllLock q).now = s.now ∧ (s.pllLock q).phase = s.phase ∧ (s.pllLock q).pending = s.pending ∧
    (s.pllLock q).nodeOfs = s.nodeOfs ∧ (s.pllLock q).freeCtr = s.freeCtr ∧ (s.pllLock q).tx = s.tx ∧
    (s.pllLock q).tl = s.tl ∧ (s.pllLock q).sq = s.sq := by
  and_intros <;> (unfold State.pllLock; repeat' (first | with_reducible rfl | (simp; done) | split | with_reducible refine (foldl_inv _ _ _ _ (fun _ _ => ?_)).trans ?_ | (dsimp only; first | split | with_reducible refine (foldl_inv _ _ _ _ (fun _ _ => ?_)).trans ?_)))

@[simp] theorem State.pllLock_frame2 (s : State) (q : Nat) :
    (s.pllLock q).fd = s.fd ∧ (s.pllLock q).ex = s.ex ∧ (s.pllLock q).sv = s.sv ∧ (s.pllLock q).ax = s.ax ∧
    (s.pllLock q).aq = s.aq ∧ (s.pllLock q).il = s.il ∧ (s.pllLock q).ln = s.ln ∧ (s.pllLock q).fl = s.fl := by
  and_intros <;> (unfold State.pllLock; repeat' (first | with_reducible rfl | (simp; done) | split | with_reducible refine (foldl_inv _ _ _ _ (fun _ _ => ?_)).trans ?_ | (dsimp only; first | split | with_reducible refine (foldl_inv _ _ _ _ (fun _ _ => ?_)).trans ?_)))

@[simp] theorem State.pllLock_frame3 (s : State) (q : Nat) :
    (s.pllLock q).ev = s.ev ∧ (s.pllLock q).safe = s.safe ∧ (s.pllLock q).dm = s.dm ∧ (s.pllLock q).cm = s.cm ∧
    (s.pllLock q).cf = s.cf ∧ (s.pllLock q).pw = s.pw ∧ (s.pllLock q).th = s.th := by
  and_intros <;> (unfold State.pllLock; repeat' (first | with_reducible rfl | (simp; done) | split | with_reducible refine (foldl_inv _ _ _ _ (fun _ _ => ?_)).trans ?_ | (dsimp only; first | split | with_reducible refine (foldl_inv _ _ _ _ (fun _ _ => ?_)).trans ?_)))

@[simp] theorem State.toLane_frame (s : State) (l st : Nat) :
    (s.toLane l st).now = s.now ∧ (s.toLane l st).phase = s.phase ∧ (s.toLane l st).pending = s.pending ∧
    (s.toLane l st).nodeOfs = s.nodeOfs ∧ (s.toLane l st).freeCtr = s.freeCtr ∧ (s.toLane l st).tx = s.tx ∧
    (s.toLane l st).tl = s.tl ∧ (s.toLane l st).sq = s.sq := by
  and_intros <;> (unfold State.toLane; repeat' (first | with_reducible rfl | (simp; done) | split | with_reducible refine (foldl_inv _ _ _ _ (fun _ _ => ?_)).trans ?_ | (dsimp only; first | split | with_reducible refine (foldl_inv _ _ _ _ (fun _ _ => ?_)).trans ?_)))

@[simp] theorem State.toLane_frame2 (s : State) (l st : Nat) :
    (s.toLane l st).fd = s.fd ∧ (s.toLane l st).ex = s.ex ∧ (s.toLane l st).sv = s.sv ∧ (s.toLane l st).ax = s.ax ∧
    (s.toLane l st).aq = s.aq ∧ (s.toLane l st).il = s.il ∧ (s.toLane l st).fl = s.fl ∧ (s.toLane l st).ev = s.ev := by
  and_intros <;> (unfold State.toLane; repeat' (first | with_reducible rfl | (simp; done) | split | with_reducible refine (foldl_inv _ _ _ _ (fun _ _ => ?_)).trans ?_ | (dsimp only; first | split | with_reducible refine (foldl_inv _ _ _ _ (fun _ _ => ?_)).trans ?_)))

@[simp] theorem State.toLane_frame3 (s : State) (l st : Nat) :
    (s.toLane l st).safe = s.safe ∧ (s.toLane l st).cm = s.cm ∧ (s.toLane l st).cf = s.cf ∧ (s.toLane l st).pw = s.pw ∧
    (s.toLane l st).th = s.th := by
  and_intros <;> (unfold State.toLane; repeat' (first | with_reducible rfl | (simp; done) | split | with_reducible refine (foldl_inv _ _ _ _ (fun _ _ => ?_)).trans ?_ | (dsimp only; first | split | with_reducible refine (foldl_inv _ _ _ _ (fun _ _ => ?_)).trans ?_)))

@[simp] theorem State.linkLost_frame (s : State) (l : Nat) :
    (s.linkLost l).now = s.now ∧ (s.linkLost l).phase = s.phase ∧ (s.linkLost l).pending = s.pending ∧
    (s.linkLost l).nodeOfs = s.nodeOfs ∧ (s.linkLost l).freeCtr = s.freeCtr ∧ (s.linkLost l).tx = s.tx ∧
    (s.linkLost l).tl = s.tl ∧ (s.linkLost l).sq = s.sq := by
  and_intros <;> (unfold State.linkLost; repeat' (first | with_reducible rfl | (simp; done) | split | with_reducible refine (foldl_inv _ _ _ _ (fun _ _ => ?_)).trans ?_ | (dsimp only; first | split | with_reducible refine (foldl_inv _ _ _ _ (fun _ _ => ?_)).trans ?_)))

@[simp] theorem State.linkLost_frame2 (s : State) (l : Nat) :
    (s.linkLost l).fd = s.fd ∧ (s.linkLost l).ex = s.ex ∧ (s.linkLost l).sv = s.sv ∧ (s.linkLost l).ax = s.ax ∧
    (s.linkLost l).aq = s.aq ∧ (s.linkLost l).il = s.il ∧ (s.linkLost l).ln = s.ln ∧ (s.linkLost l).ev = s.ev := by
  and_intros <;> (unfold State.linkLost; repeat' (first | with_reducible rfl | (simp; done) | split | with_reducible refine (foldl_inv _ _ _ _ (fun _ _ => ?_)).trans ?_ | (dsimp only; first | split | with_reducible refine (foldl_inv _ _ _ _ (fun _ _ => ?_)).trans ?_)))

@[simp] theorem State.linkLost_frame3 (s : State) (l : Nat) :
    (s.linkLost l).safe = s.safe ∧ (s.linkLost l).cm = s.cm ∧ (s.linkLost l).cf = s.cf ∧ (s.linkLost l).pw = s.pw ∧
    (s.linkLost l).th = s.th := by
  and_intros <;> (unfold State.linkLost; repeat' (first | with_reducible rfl | (simp; done) | split | with_reducible refine (foldl_inv _ _ _ _ (fun _ _ => ?_)).trans ?_ | (dsimp only; first | split | with_reducible refine (foldl_inv _ _ _ _ (fun _ _ => ?_)).trans ?_)))

@[simp] theorem State.linkUp_frame (s : State) (l : Nat) :
    (s.linkUp l).now = s.now ∧ (s.linkUp l).phase = s.phase ∧ (s.linkUp l).pending = s.pending ∧
    (s.linkUp l).nodeOfs = s.nodeOfs ∧ (s.linkUp l).freeCtr = s.freeCtr ∧ (s.linkUp l).tx = s.tx ∧
    (s.linkUp l).regs = s.regs ∧ (s.linkUp l).tl = s.tl := by
  and_intros <;> (unfold State.linkUp; repeat' (first | with_reducible rfl | (simp; done) | split | with_reducible refine (foldl_inv _ _ _ _ (fun _ _ => ?_)).trans ?_ | (dsimp only; first | split | with_reducible refine (foldl_inv _ _ _ _ (fun _ _ => ?_)).trans ?_)))

@[simp] theorem State.linkUp_frame2 (s : State) (l : Nat) :
    (s.linkUp l).sq = s.sq ∧ (s.linkUp l).fd = s.fd ∧ (s.linkUp l).ex = s.ex ∧ (s.linkUp l).sv = s.sv ∧
    (s.linkUp l).ax = s.ax ∧ (s.linkUp l).aq = s.aq ∧ (s.linkUp l).il = s.il ∧ (s.linkUp l).ln = s.ln := by
  and_intros <;> (unfold State.linkUp; repeat' (first | with_reducible rfl | (simp; done) | split | with_reducible refine (foldl_inv _ _ _ _ (fun _ _ => ?_)).trans ?_ | (dsimp only; first | split | with_reducible refine (foldl_inv _ _ _ _ (fun _ _ => ?_)).trans ?_)))

@[simp] theorem State.linkUp_frame3 (s : State) (l : Nat) :
    (s.linkUp l).ev = s.ev ∧ (s.linkUp l).safe = s.safe ∧ (s.linkUp l).dm = s.dm ∧ (s.linkUp l).cm = s.cm ∧
    (s.linkUp l).cf = s.cf ∧ (s.linkUp l).pw = s.pw ∧ (s.linkUp l).th = s.th := by
  and_intros <;> (unfold State.linkUp; repeat' (first | with_reducible rfl | (simp; done) | split | with_reducible refine (foldl_inv _ _ _ _ (fun _ _ => ?_)).trans ?_ | (dsimp only; first | split | with_reducible refine (foldl_inv _ _ _ _ (fun _ _ => ?_)).trans ?_)))

@[simp] theorem State.trainLane_frame (s : State) (l : Nat) :
    (s.trainLane l).now = s.now ∧ (s.trainLane l).phase = s.phase ∧ (s.trainLane l).pending = s.pending ∧
    (s.trainLane l).nodeOfs = s.nodeOfs ∧ (s.trainLane l).freeCtr = s.freeCtr ∧ (s.trainLane l).tx = s.tx ∧
    (s.trainLane l).tl = s.tl ∧ (s.trainLane l).sq = s.sq := by
  and_intros <;> (unfold State.trainLane; repeat' (first | with_reducible rfl | (simp; done) | split | with_reducible refine (foldl_inv _ _ _ _ (fun _ _ => ?_)).trans ?_ | (dsimp only; first | split | with_reducible refine (foldl_inv _ _ _ _ (fun _ _ => ?_)).trans ?_)))

@[simp] theorem State.trainLane_frame2 (s : State) (l : Nat) :
    (s.trainLane l).fd = s.fd ∧ (s.trainLane l).ex = s.ex ∧ (s.trainLane l).sv = s.sv ∧ (s.trainLane l).ax = s.ax ∧
    (s.trainLane l).aq = s.aq ∧ (s.trainLane l).il = s.il ∧ (s.trainLane l).fl = s.fl ∧ (s.trainLane l).ev = s.ev := by
  and_intros <;> (unfold State.trainLane; repeat' (first | with_reducible rfl | (simp; done) | split | with_reducible refine (foldl_inv _ _ _ _ (fun _ _ => ?_)).trans ?_ | (dsimp only; first | split | with_reducible refine (foldl_inv _ _ _ _ (fun _ _ => ?_)).trans ?_)))

@[simp] theorem State.trainLane_frame3 (s : State) (l : Nat) :
    (s.trainLane l).safe = s.safe ∧ (s.trainLane l).cm = s.cm ∧ (s.trainLane l).cf = s.cf ∧ (s.trainLane l).pw = s.pw ∧
    (s.trainLane l).th = s.th := by
  and_intros <;> (unfold State.trainLane; repeat' (first | with_reducible rfl | (simp; done) | split | with_reducible refine (foldl_inv _ _ _ _ (fun _ _ => ?_)).trans ?_ | (dsimp only; first | split | with_reducible refine (foldl_inv _ _ _ _ (fun _ _ => ?_)).trans ?_)))

@[simp] theorem State.quadCheck_frame (s : State) (q : Nat) :
    (s.quadCheck q).now = s.now ∧ (s.quadCheck q).phase = s.phase ∧ (s.quadCheck q).pending = s.pending ∧
    (s.quadCheck q).nodeOfs = s.nodeOfs ∧ (s.quadCheck q).freeCtr = s.freeCtr ∧ (s.quadCheck q).tx = s.tx ∧
    (s.quadCheck q).tl = s.tl ∧ (s.quadCheck q).sq = s.sq := by
  and_intros <;> (unfold State.quadCheck; repeat' (first | with_reducible rfl | (simp; done) | split | with_reducible refine (foldl_inv _ _ _ _ (fun _ _ => ?_)).trans ?_ | (dsimp only; first | split | with_reducible refine (foldl_inv _ _ _ _ (fun _ _ => ?_)).trans ?_)))

@[simp] theorem State.quadCheck_frame2 (s : State) (q : Nat) :
    (s.quadCheck q).fd = s.fd ∧ (s.quadCheck q).ex = s.ex ∧ (s.quadCheck q).sv = s.sv ∧ (s.quadCheck q).ax = s.ax ∧
    (s.quadCheck q).aq = s.aq ∧ (s.quadCheck q).il = s.il ∧ (s.quadCheck q).ln = s.ln ∧ (s.quadCheck q).fl = s.fl := by
  and_intros <;> (unfold State.quadCheck; repeat' (first | with_reducible rfl | (simp; done) | split | with_reducible refine (foldl_inv _ _ _ _ (fun _ _ => ?_)).trans ?_ | (dsimp only; first | split | with_reducible refine (foldl_inv _ _ _ _ (fun _ _ => ?_)).trans ?_)))

@[simp] theorem State.quadCheck_frame3 (s : State) (q : Nat) :
    (s.quadCheck q).ev = s.ev ∧ (s.quadCheck q).safe = s.safe ∧ (s.quadCheck q).dm = s.dm ∧ (s.quadCheck q).cm = s.cm ∧
    (s.quadCheck q).cf = s.cf ∧ (s.quadCheck q).pw = s.pw ∧ (s.quadCheck q).th = s.th := by
  and_intros <;> (unfold State.quadCheck; repeat' (first | with_reducible rfl | (simp; done) | split | with_reducible refine (foldl_inv _ _ _ _ (fun _ _ => ?_)).trans ?_ | (dsimp only; first | split | with_reducible refine (foldl_inv _ _ _ _ (fun _ _ => ?_)).trans ?_)))

@[simp] theorem State.applyQuad_frame (s : State) (q : Nat) :
    (s.applyQuad q).now = s.now ∧ (s.applyQuad q).phase = s.phase ∧ (s.applyQuad q).pending = s.pending ∧
    (s.applyQuad q).nodeOfs = s.nodeOfs ∧ (s.applyQuad q).freeCtr = s.freeCtr ∧ (s.applyQuad q).tl = s.tl ∧
    (s.applyQuad q).fd = s.fd ∧ (s.applyQuad q).ex = s.ex := by
  and_intros <;> (unfold State.applyQuad; repeat' (first | with_reducible rfl | (simp; done) | split | with_reducible refine (foldl_inv _ _ _ _ (fun _ _ => ?_)).trans ?_ | (dsimp only; first | split | with_reducible refine (foldl_inv _ _ _ _ (fun _ _ => ?_)).trans ?_)))

@[simp] theorem State.applyQuad_frame2 (s : State) (q : Nat) :
    (s.applyQuad q).sv = s.sv ∧ (s.applyQuad q).ax = s.ax ∧ (s.applyQuad q).aq = s.aq ∧ (s.applyQuad q).il = s.il ∧
    (s.applyQuad q).ln = s.ln ∧ (s.applyQuad q).dm = s.dm ∧ (s.applyQuad q).cm = s.cm ∧ (s.applyQuad q).pw = s.pw := by
  and_intros <;> (unfold State.applyQuad; repeat' (first | with_reducible rfl | (simp; done) | split | with_reducible refine (foldl_inv _ _ _ _ (fun _ _ => ?_)).trans ?_ | (dsimp only; first | split | with_reducible refine (foldl_inv _ _ _ _ (fun _ _ => ?_)).trans ?_)))

@[simp] theorem State.applyQuad_frame3 (s : State) (q : Nat) :
    (s.applyQuad q).th = s.th := by
  unfold State.applyQuad; repeat' (first | with_reducible rfl | (simp; done) | split | with_reducible refine (foldl_inv _ _ _ _ (fun _ _ => ?_)).trans ?_ | (dsimp only; first | split | with_reducible refine (foldl_inv _ _ _ _ (fun _ _ => ?_)).trans ?_))

@[simp] theorem State.applyTraining_frame (s : State) (l : Nat) :
    (s.applyTraining l).now = s.now ∧ (s.applyTraining l).phase = s.phase ∧ (s.applyTraining l).pending = s.pending ∧
    (s.applyTraining l).nodeOfs = s.nodeOfs ∧ (s.applyTraining l).freeCtr = s.freeCtr ∧ (s.applyTraining l).tl = s.tl ∧
    (s.applyTraining l).fd = s.fd ∧ (s.applyTraining l).ex = s.ex := by
  and_intros <;> (unfold State.applyTraining; repeat' (first | with_reducible rfl | (simp; done) | split | with_reducible refine (foldl_inv _ _ _ _ (fun _ _ => ?_)).trans ?_ | (dsimp only; first | split | with_reducible refine (foldl_inv _ _ _ _ (fun _ _ => ?_)).trans ?_)))

@[simp] theorem State.applyTraining_frame2 (s : State) (l : Nat) :
    (s.applyTraining l).sv = s.sv ∧ (s.applyTraining l).ax = s.ax ∧ (s.applyTraining l).aq = s.aq ∧
    (s.applyTraining l).il = s.il ∧ (s.applyTraining l).ln = s.ln ∧ (s.applyTraining l).dm = s.dm ∧
    (s.applyTraining l).cm = s.cm ∧ (s.applyTraining l).pw = s.pw := by
  and_intros <;> (unfold State.applyTraining; repeat' (first | with_reducible rfl | (simp; done) | split | with_reducible refine (foldl_inv _ _ _ _ (fun _ _ => ?_)).trans ?_ | (dsimp only; first | split | with_reducible refine (foldl_inv _ _ _ _ (fun _ _ => ?_)).trans ?_)))

@[simp] theorem State.applyTraining_frame3 (s : State) (l : Nat) :
    (s.applyTraining l).th = s.th := by
  unfold State.applyTraining; repeat' (first | with_reducible rfl | (simp; done) | split | with_reducible refine (foldl_inv _ _ _ _ (fun _ _ => ?_)).trans ?_ | (dsimp only; first | split | with_reducible refine (foldl_inv _ _ _ _ (fun _ _ => ?_)).trans ?_))

@[simp] theorem State.enabled_frame (s : State) (l : Nat) :
    (s.enabled l).now = s.now ∧ (s.enabled l).phase = s.phase ∧ (s.enabled l).pending = s.pending ∧
    (s.enabled l).nodeOfs = s.nodeOfs ∧ (s.enabled l).freeCtr = s.freeCtr ∧ (s.enabled l).tx = s.tx ∧
    (s.enabled l).tl = s.tl ∧ (s.enabled l).sq = s.sq := by
  and_intros <;> (unfold State.enabled; repeat' (first | with_reducible rfl | (simp; done) | split | with_reducible refine (foldl_inv _ _ _ _ (fun _ _ => ?_)).trans ?_ | (dsimp only; first | split | with_reducible refine (foldl_inv _ _ _ _ (fun _ _ => ?_)).trans ?_)))

@[simp] theorem State.enabled_frame2 (s : State) (l : Nat) :
    (s.enabled l).fd = s.fd ∧ (s.enabled l).ex = s.ex ∧ (s.enabled l).sv = s.sv ∧ (s.enabled l).ax = s.ax ∧
    (s.enabled l).aq = s.aq ∧ (s.enabled l).il = s.il ∧ (s.enabled l).ev = s.ev ∧ (s.enabled l).safe = s.safe := by
  and_intros <;> (unfold State.enabled; repeat' (first | with_reducible rfl | (simp; done) | split | with_reducible refine (foldl_inv _ _ _ _ (fun _ _ => ?_)).trans ?_ | (dsimp only; first | split | with_reducible refine (foldl_inv _ _ _ _ (fun _ _ => ?_)).trans ?_)))

@[simp] theorem State.enabled_frame3 (s : State) (l : Nat) :
    (s.enabled l).cm = s.cm ∧ (s.enabled l).cf = s.cf ∧ (s.enabled l).pw = s.pw ∧ (s.enabled l).th = s.th := by
  and_intros <;> (unfold State.enabled; repeat' (first | with_reducible rfl | (simp; done) | split | with_reducible refine (foldl_inv _ _ _ _ (fun _ _ => ?_)).trans ?_ | (dsimp only; first | split | with_reducible refine (foldl_inv _ _ _ _ (fun _ _ => ?_)).trans ?_)))

@[simp] theorem State.train_frame (s : State) (lanes : List Nat) :
    (s.train lanes).now = s.now ∧ (s.train lanes).phase = s.phase ∧ (s.train lanes).pending = s.pending ∧
    (s.train lanes).nodeOfs = s.nodeOfs ∧ (s.train lanes).freeCtr = s.freeCtr ∧ (s.train lanes).tl = s.tl ∧
    (s.train lanes).fd = s.fd ∧ (s.train lanes).ex = s.ex := by
  and_intros <;> (unfold State.train; repeat' (first | with_reducible rfl | (simp; done) | split | with_reducible refine (foldl_inv _ _ _ _ (fun _ _ => ?_)).trans ?_ | (dsimp only; first | split | with_reducible refine (foldl_inv _ _ _ _ (fun _ _ => ?_)).trans ?_)))

@[simp] theorem State.train_frame2 (s : State) (lanes : List Nat) :
    (s.train lanes).sv = s.sv ∧ (s.train lanes).ax = s.ax ∧ (s.train lanes).aq = s.aq ∧ (s.train lanes).il = s.il ∧
    (s.train lanes).cm = s.cm ∧ (s.train lanes).pw = s.pw ∧ (s.train lanes).th = s.th := by
  and_intros <;> (unfold State.train; repeat' (first | with_reducible rfl | (simp; done) | split | with_reducible refine (foldl_inv _ _ _ _ (fun _ _ => ?_)).trans ?_ | (dsimp only; first | split | with_reducible refine (foldl_inv _ _ _ _ (fun _ _ => ?_)).trans ?_)))

@[simp] theorem State.laneEnable_frame (s : State) (l : Nat) :
    (s.laneEnable l).now = s.now ∧ (s.laneEnable l).phase = s.phase ∧ (s.laneEnable l).pending = s.pending ∧
    (s.laneEnable l).nodeOfs = s.nodeOfs ∧ (s.laneEnable l).freeCtr = s.freeCtr ∧ (s.laneEnable l).tl = s.tl ∧
    (s.laneEnable l).fd = s.fd ∧ (s.laneEnable l).ex = s.ex := by
  and_intros <;> (unfold State.laneEnable; repeat' (first | with_reducible rfl | (simp; done) | split | with_reducible refine (foldl_inv _ _ _ _ (fun _ _ => ?_)).trans ?_ | (dsimp only; first | split | with_reducible refine (foldl_inv _ _ _ _ (fun _ _ => ?_)).trans ?_)))

@[simp] theorem State.laneEnable_frame2 (s : State) (l : Nat) :
    (s.laneEnable l).sv = s.sv ∧ (s.laneEnable l).ax = s.ax ∧ (s.laneEnable l).aq = s.aq ∧ (s.laneEnable l).il = s.il ∧
    (s.laneEnable l).cm = s.cm ∧ (s.laneEnable l).pw = s.pw ∧ (s.laneEnable l).th = s.th := by
  and_intros <;> (unfold State.laneEnable; repeat' (first | with_reducible rfl | (simp; done) | split | with_reducible refine (foldl_inv _ _ _ _ (fun _ _ => ?_)).trans ?_ | (dsimp only; first | split | with_reducible refine (foldl_inv _ _ _ _ (fun _ _ => ?_)).trans ?_)))

@[simp] theorem State.receiveBits_frame (s : State) (l : Nat) (line : List Bool) :
    (s.receiveBits l line).1.now = s.now ∧ (s.receiveBits l line).1.phase = s.phase ∧
    (s.receiveBits l line).1.pending = s.pending ∧ (s.receiveBits l line).1.nodeOfs = s.nodeOfs ∧
    (s.receiveBits l line).1.freeCtr = s.freeCtr ∧ (s.receiveBits l line).1.tx = s.tx ∧ (s.receiveBits l line).1.tl = s.tl ∧
    (s.receiveBits l line).1.sq = s.sq := by
  and_intros <;> (unfold State.receiveBits; repeat' (first | with_reducible rfl | (simp; done) | split | with_reducible refine (foldl_inv _ _ _ _ (fun _ _ => ?_)).trans ?_ | (dsimp only; first | split | with_reducible refine (foldl_inv _ _ _ _ (fun _ _ => ?_)).trans ?_)))

@[simp] theorem State.receiveBits_frame2 (s : State) (l : Nat) (line : List Bool) :
    (s.receiveBits l line).1.fd = s.fd ∧ (s.receiveBits l line).1.ex = s.ex ∧ (s.receiveBits l line).1.sv = s.sv ∧
    (s.receiveBits l line).1.ax = s.ax ∧ (s.receiveBits l line).1.aq = s.aq ∧ (s.receiveBits l line).1.il = s.il ∧
    (s.receiveBits l line).1.fl = s.fl ∧ (s.receiveBits l line).1.ev = s.ev := by
  and_intros <;> (unfold State.receiveBits; repeat' (first | with_reducible rfl | (simp; done) | split | with_reducible refine (foldl_inv _ _ _ _ (fun _ _ => ?_)).trans ?_ | (dsimp only; first | split | with_reducible refine (foldl_inv _ _ _ _ (fun _ _ => ?_)).trans ?_)))

@[simp] theorem State.receiveBits_frame3 (s : State) (l : Nat) (line : List Bool) :
    (s.receiveBits l line).1.safe = s.safe ∧ (s.receiveBits l line).1.dm = s.dm ∧ (s.receiveBits l line).1.cm = s.cm ∧
    (s.receiveBits l line).1.cf = s.cf ∧ (s.receiveBits l line).1.pw = s.pw ∧ (s.receiveBits l line).1.th = s.th := by
  and_intros <;> (unfold State.receiveBits; repeat' (first | with_reducible rfl | (simp; done) | split | with_reducible refine (foldl_inv _ _ _ _ (fun _ _ => ?_)).trans ?_ | (dsimp only; first | split | with_reducible refine (foldl_inv _ _ _ _ (fun _ _ => ?_)).trans ?_)))

@[simp] theorem State.laneMismatch_frame (s : State) (l why : Nat) :
    (s.laneMismatch l why).now = s.now ∧ (s.laneMismatch l why).phase = s.phase ∧ (s.laneMismatch l why).pending = s.pending ∧
    (s.laneMismatch l why).nodeOfs = s.nodeOfs ∧ (s.laneMismatch l why).freeCtr = s.freeCtr ∧
    (s.laneMismatch l why).tx = s.tx ∧ (s.laneMismatch l why).tl = s.tl ∧ (s.laneMismatch l why).sq = s.sq := by
  and_intros <;> (unfold State.laneMismatch; repeat' (first | with_reducible rfl | (simp; done) | split | with_reducible refine (foldl_inv _ _ _ _ (fun _ _ => ?_)).trans ?_ | (dsimp only; first | split | with_reducible refine (foldl_inv _ _ _ _ (fun _ _ => ?_)).trans ?_)))

@[simp] theorem State.laneMismatch_frame2 (s : State) (l why : Nat) :
    (s.laneMismatch l why).fd = s.fd ∧ (s.laneMismatch l why).ex = s.ex ∧ (s.laneMismatch l why).sv = s.sv ∧
    (s.laneMismatch l why).ax = s.ax ∧ (s.laneMismatch l why).aq = s.aq ∧ (s.laneMismatch l why).il = s.il ∧
    (s.laneMismatch l why).fl = s.fl ∧ (s.laneMismatch l why).safe = s.safe := by
  and_intros <;> (unfold State.laneMismatch; repeat' (first | with_reducible rfl | (simp; done) | split | with_reducible refine (foldl_inv _ _ _ _ (fun _ _ => ?_)).trans ?_ | (dsimp only; first | split | with_reducible refine (foldl_inv _ _ _ _ (fun _ _ => ?_)).trans ?_)))

@[simp] theorem State.laneMismatch_frame3 (s : State) (l why : Nat) :
    (s.laneMismatch l why).dm = s.dm ∧ (s.laneMismatch l why).cm = s.cm ∧ (s.laneMismatch l why).cf = s.cf ∧
    (s.laneMismatch l why).pw = s.pw ∧ (s.laneMismatch l why).th = s.th := by
  and_intros <;> (unfold State.laneMismatch; repeat' (first | with_reducible rfl | (simp; done) | split | with_reducible refine (foldl_inv _ _ _ _ (fun _ _ => ?_)).trans ?_ | (dsimp only; first | split | with_reducible refine (foldl_inv _ _ _ _ (fun _ _ => ?_)).trans ?_)))

@[simp] theorem State.lanesUp_frame (s : State) (lanes : List Nat) :
    (s.lanesUp lanes).now = s.now ∧ (s.lanesUp lanes).phase = s.phase ∧ (s.lanesUp lanes).pending = s.pending ∧
    (s.lanesUp lanes).nodeOfs = s.nodeOfs ∧ (s.lanesUp lanes).freeCtr = s.freeCtr ∧ (s.lanesUp lanes).tx = s.tx ∧
    (s.lanesUp lanes).tl = s.tl ∧ (s.lanesUp lanes).sq = s.sq := by
  and_intros <;> (unfold State.lanesUp; repeat' (first | with_reducible rfl | (simp; done) | split | with_reducible refine (foldl_inv _ _ _ _ (fun _ _ => ?_)).trans ?_ | (dsimp only; first | split | with_reducible refine (foldl_inv _ _ _ _ (fun _ _ => ?_)).trans ?_)))

@[simp] theorem State.lanesUp_frame2 (s : State) (lanes : List Nat) :
    (s.lanesUp lanes).fd = s.fd ∧ (s.lanesUp lanes).ex = s.ex ∧ (s.lanesUp lanes).sv = s.sv ∧ (s.lanesUp lanes).ax = s.ax ∧
    (s.lanesUp lanes).aq = s.aq ∧ (s.lanesUp lanes).il = s.il ∧ (s.lanesUp lanes).fl = s.fl ∧ (s.lanesUp lanes).ev = s.ev := by
  and_intros <;> (unfold State.lanesUp; repeat' (first | with_reducible rfl | (simp; done) | split | with_reducible refine (foldl_inv _ _ _ _ (fun _ _ => ?_)).trans ?_ | (dsimp only; first | split | with_reducible refine (foldl_inv _ _ _ _ (fun _ _ => ?_)).trans ?_)))

@[simp] theorem State.lanesUp_frame3 (s : State) (lanes : List Nat) :
    (s.lanesUp lanes).safe = s.safe ∧ (s.lanesUp lanes).cm = s.cm ∧ (s.lanesUp lanes).cf = s.cf ∧
    (s.lanesUp lanes).pw = s.pw ∧ (s.lanesUp lanes).th = s.th := by
  and_intros <;> (unfold State.lanesUp; repeat' (first | with_reducible rfl | (simp; done) | split | with_reducible refine (foldl_inv _ _ _ _ (fun _ _ => ?_)).trans ?_ | (dsimp only; first | split | with_reducible refine (foldl_inv _ _ _ _ (fun _ _ => ?_)).trans ?_)))

@[simp] theorem State.laneRetrain_frame (s : State) (l : Nat) :
    (s.laneRetrain l).now = s.now ∧ (s.laneRetrain l).phase = s.phase ∧ (s.laneRetrain l).pending = s.pending ∧
    (s.laneRetrain l).nodeOfs = s.nodeOfs ∧ (s.laneRetrain l).freeCtr = s.freeCtr ∧ (s.laneRetrain l).tl = s.tl ∧
    (s.laneRetrain l).fd = s.fd ∧ (s.laneRetrain l).ex = s.ex := by
  and_intros <;> (unfold State.laneRetrain; repeat' (first | with_reducible rfl | (simp; done) | split | with_reducible refine (foldl_inv _ _ _ _ (fun _ _ => ?_)).trans ?_ | (dsimp only; first | split | with_reducible refine (foldl_inv _ _ _ _ (fun _ _ => ?_)).trans ?_)))

@[simp] theorem State.laneRetrain_frame2 (s : State) (l : Nat) :
    (s.laneRetrain l).sv = s.sv ∧ (s.laneRetrain l).ax = s.ax ∧ (s.laneRetrain l).aq = s.aq ∧ (s.laneRetrain l).il = s.il ∧
    (s.laneRetrain l).cm = s.cm ∧ (s.laneRetrain l).pw = s.pw ∧ (s.laneRetrain l).th = s.th := by
  and_intros <;> (unfold State.laneRetrain; repeat' (first | with_reducible rfl | (simp; done) | split | with_reducible refine (foldl_inv _ _ _ _ (fun _ _ => ?_)).trans ?_ | (dsimp only; first | split | with_reducible refine (foldl_inv _ _ _ _ (fun _ _ => ?_)).trans ?_)))

@[simp] theorem State.laneLoss_frame (s : State) (l : Nat) :
    (s.laneLoss l).now = s.now ∧ (s.laneLoss l).phase = s.phase ∧ (s.laneLoss l).pending = s.pending ∧
    (s.laneLoss l).nodeOfs = s.nodeOfs ∧ (s.laneLoss l).freeCtr = s.freeCtr ∧ (s.laneLoss l).tx = s.tx ∧
    (s.laneLoss l).tl = s.tl ∧ (s.laneLoss l).sq = s.sq := by
  and_intros <;> (unfold State.laneLoss; repeat' (first | with_reducible rfl | (simp; done) | split | with_reducible refine (foldl_inv _ _ _ _ (fun _ _ => ?_)).trans ?_ | (dsimp only; first | split | with_reducible refine (foldl_inv _ _ _ _ (fun _ _ => ?_)).trans ?_)))

@[simp] theorem State.laneLoss_frame2 (s : State) (l : Nat) :
    (s.laneLoss l).fd = s.fd ∧ (s.laneLoss l).ex = s.ex ∧ (s.laneLoss l).sv = s.sv ∧ (s.laneLoss l).ax = s.ax ∧
    (s.laneLoss l).aq = s.aq ∧ (s.laneLoss l).il = s.il ∧ (s.laneLoss l).ln = s.ln ∧ (s.laneLoss l).fl = s.fl := by
  and_intros <;> (unfold State.laneLoss; repeat' (first | with_reducible rfl | (simp; done) | split | with_reducible refine (foldl_inv _ _ _ _ (fun _ _ => ?_)).trans ?_ | (dsimp only; first | split | with_reducible refine (foldl_inv _ _ _ _ (fun _ _ => ?_)).trans ?_)))

@[simp] theorem State.laneLoss_frame3 (s : State) (l : Nat) :
    (s.laneLoss l).safe = s.safe ∧ (s.laneLoss l).dm = s.dm ∧ (s.laneLoss l).cm = s.cm ∧ (s.laneLoss l).cf = s.cf ∧
    (s.laneLoss l).pw = s.pw ∧ (s.laneLoss l).th = s.th := by
  and_intros <;> (unfold State.laneLoss; repeat' (first | with_reducible rfl | (simp; done) | split | with_reducible refine (foldl_inv _ _ _ _ (fun _ _ => ?_)).trans ?_ | (dsimp only; first | split | with_reducible refine (foldl_inv _ _ _ _ (fun _ _ => ?_)).trans ?_)))

@[simp] theorem State.putBlock_frame (s : State) (l : Nat) (scores coded : List Score) :
    (s.putBlock l scores coded).now = s.now ∧ (s.putBlock l scores coded).phase = s.phase ∧
    (s.putBlock l scores coded).pending = s.pending ∧ (s.putBlock l scores coded).nodeOfs = s.nodeOfs ∧
    (s.putBlock l scores coded).freeCtr = s.freeCtr ∧ (s.putBlock l scores coded).regs = s.regs ∧
    (s.putBlock l scores coded).tl = s.tl ∧ (s.putBlock l scores coded).sq = s.sq := by
  and_intros <;> (unfold State.putBlock; repeat' (first | with_reducible rfl | (simp; done) | split | with_reducible refine (foldl_inv _ _ _ _ (fun _ _ => ?_)).trans ?_ | (dsimp only; first | split | with_reducible refine (foldl_inv _ _ _ _ (fun _ _ => ?_)).trans ?_)))

@[simp] theorem State.putBlock_frame2 (s : State) (l : Nat) (scores coded : List Score) :
    (s.putBlock l scores coded).fd = s.fd ∧ (s.putBlock l scores coded).ex = s.ex ∧ (s.putBlock l scores coded).sv = s.sv ∧
    (s.putBlock l scores coded).ax = s.ax ∧ (s.putBlock l scores coded).aq = s.aq ∧ (s.putBlock l scores coded).il = s.il ∧
    (s.putBlock l scores coded).fl = s.fl ∧ (s.putBlock l scores coded).ev = s.ev := by
  and_intros <;> (unfold State.putBlock; repeat' (first | with_reducible rfl | (simp; done) | split | with_reducible refine (foldl_inv _ _ _ _ (fun _ _ => ?_)).trans ?_ | (dsimp only; first | split | with_reducible refine (foldl_inv _ _ _ _ (fun _ _ => ?_)).trans ?_)))

@[simp] theorem State.putBlock_frame3 (s : State) (l : Nat) (scores coded : List Score) :
    (s.putBlock l scores coded).safe = s.safe ∧ (s.putBlock l scores coded).dm = s.dm ∧
    (s.putBlock l scores coded).cm = s.cm ∧ (s.putBlock l scores coded).cf = s.cf ∧ (s.putBlock l scores coded).pw = s.pw ∧
    (s.putBlock l scores coded).th = s.th := by
  and_intros <;> (unfold State.putBlock; repeat' (first | with_reducible rfl | (simp; done) | split | with_reducible refine (foldl_inv _ _ _ _ (fun _ _ => ?_)).trans ?_ | (dsimp only; first | split | with_reducible refine (foldl_inv _ _ _ _ (fun _ _ => ?_)).trans ?_)))

@[simp] theorem State.putFrame_frame (s : State) (l ty seq : Nat) (payload : List Score) :
    (s.putFrame l ty seq payload).now = s.now ∧ (s.putFrame l ty seq payload).phase = s.phase ∧
    (s.putFrame l ty seq payload).pending = s.pending ∧ (s.putFrame l ty seq payload).nodeOfs = s.nodeOfs ∧
    (s.putFrame l ty seq payload).freeCtr = s.freeCtr ∧ (s.putFrame l ty seq payload).regs = s.regs ∧
    (s.putFrame l ty seq payload).tl = s.tl ∧ (s.putFrame l ty seq payload).sq = s.sq := by
  and_intros <;> (unfold State.putFrame; repeat' (first | with_reducible rfl | (simp; done) | split | with_reducible refine (foldl_inv _ _ _ _ (fun _ _ => ?_)).trans ?_ | (dsimp only; first | split | with_reducible refine (foldl_inv _ _ _ _ (fun _ _ => ?_)).trans ?_)))

@[simp] theorem State.putFrame_frame2 (s : State) (l ty seq : Nat) (payload : List Score) :
    (s.putFrame l ty seq payload).fd = s.fd ∧ (s.putFrame l ty seq payload).ex = s.ex ∧
    (s.putFrame l ty seq payload).sv = s.sv ∧ (s.putFrame l ty seq payload).ax = s.ax ∧
    (s.putFrame l ty seq payload).aq = s.aq ∧ (s.putFrame l ty seq payload).il = s.il ∧
    (s.putFrame l ty seq payload).fl = s.fl ∧ (s.putFrame l ty seq payload).ev = s.ev := by
  and_intros <;> (unfold State.putFrame; repeat' (first | with_reducible rfl | (simp; done) | split | with_reducible refine (foldl_inv _ _ _ _ (fun _ _ => ?_)).trans ?_ | (dsimp only; first | split | with_reducible refine (foldl_inv _ _ _ _ (fun _ _ => ?_)).trans ?_)))

@[simp] theorem State.putFrame_frame3 (s : State) (l ty seq : Nat) (payload : List Score) :
    (s.putFrame l ty seq payload).safe = s.safe ∧ (s.putFrame l ty seq payload).dm = s.dm ∧
    (s.putFrame l ty seq payload).cm = s.cm ∧ (s.putFrame l ty seq payload).cf = s.cf ∧
    (s.putFrame l ty seq payload).pw = s.pw ∧ (s.putFrame l ty seq payload).th = s.th := by
  and_intros <;> (unfold State.putFrame; repeat' (first | with_reducible rfl | (simp; done) | split | with_reducible refine (foldl_inv _ _ _ _ (fun _ _ => ?_)).trans ?_ | (dsimp only; first | split | with_reducible refine (foldl_inv _ _ _ _ (fun _ _ => ?_)).trans ?_)))

@[simp] theorem State.putFill_frame (s : State) (l : Nat) :
    (s.putFill l).now = s.now ∧ (s.putFill l).phase = s.phase ∧ (s.putFill l).pending = s.pending ∧
    (s.putFill l).nodeOfs = s.nodeOfs ∧ (s.putFill l).freeCtr = s.freeCtr ∧ (s.putFill l).regs = s.regs ∧
    (s.putFill l).tl = s.tl ∧ (s.putFill l).sq = s.sq := by
  and_intros <;> (unfold State.putFill; repeat' (first | with_reducible rfl | (simp; done) | split | with_reducible refine (foldl_inv _ _ _ _ (fun _ _ => ?_)).trans ?_ | (dsimp only; first | split | with_reducible refine (foldl_inv _ _ _ _ (fun _ _ => ?_)).trans ?_)))

@[simp] theorem State.putFill_frame2 (s : State) (l : Nat) :
    (s.putFill l).fd = s.fd ∧ (s.putFill l).ex = s.ex ∧ (s.putFill l).sv = s.sv ∧ (s.putFill l).ax = s.ax ∧
    (s.putFill l).aq = s.aq ∧ (s.putFill l).il = s.il ∧ (s.putFill l).fl = s.fl ∧ (s.putFill l).ev = s.ev := by
  and_intros <;> (unfold State.putFill; repeat' (first | with_reducible rfl | (simp; done) | split | with_reducible refine (foldl_inv _ _ _ _ (fun _ _ => ?_)).trans ?_ | (dsimp only; first | split | with_reducible refine (foldl_inv _ _ _ _ (fun _ _ => ?_)).trans ?_)))

@[simp] theorem State.putFill_frame3 (s : State) (l : Nat) :
    (s.putFill l).safe = s.safe ∧ (s.putFill l).dm = s.dm ∧ (s.putFill l).cm = s.cm ∧ (s.putFill l).cf = s.cf ∧
    (s.putFill l).pw = s.pw ∧ (s.putFill l).th = s.th := by
  and_intros <;> (unfold State.putFill; repeat' (first | with_reducible rfl | (simp; done) | split | with_reducible refine (foldl_inv _ _ _ _ (fun _ _ => ?_)).trans ?_ | (dsimp only; first | split | with_reducible refine (foldl_inv _ _ _ _ (fun _ _ => ?_)).trans ?_)))

@[simp] theorem State.hcfgSent_frame (s : State) (b : Nat) :
    (s.hcfgSent b).now = s.now ∧ (s.hcfgSent b).phase = s.phase ∧ (s.hcfgSent b).pending = s.pending ∧
    (s.hcfgSent b).nodeOfs = s.nodeOfs ∧ (s.hcfgSent b).freeCtr = s.freeCtr ∧ (s.hcfgSent b).tx = s.tx ∧
    (s.hcfgSent b).regs = s.regs ∧ (s.hcfgSent b).tl = s.tl := by
  and_intros <;> (unfold State.hcfgSent; repeat' (first | with_reducible rfl | (simp; done) | split | with_reducible refine (foldl_inv _ _ _ _ (fun _ _ => ?_)).trans ?_ | (dsimp only; first | split | with_reducible refine (foldl_inv _ _ _ _ (fun _ _ => ?_)).trans ?_)))

@[simp] theorem State.hcfgSent_frame2 (s : State) (b : Nat) :
    (s.hcfgSent b).sq = s.sq ∧ (s.hcfgSent b).fd = s.fd ∧ (s.hcfgSent b).ex = s.ex ∧ (s.hcfgSent b).sv = s.sv ∧
    (s.hcfgSent b).ax = s.ax ∧ (s.hcfgSent b).aq = s.aq ∧ (s.hcfgSent b).il = s.il ∧ (s.hcfgSent b).ln = s.ln := by
  and_intros <;> (unfold State.hcfgSent; repeat' (first | with_reducible rfl | (simp; done) | split | with_reducible refine (foldl_inv _ _ _ _ (fun _ _ => ?_)).trans ?_ | (dsimp only; first | split | with_reducible refine (foldl_inv _ _ _ _ (fun _ _ => ?_)).trans ?_)))

@[simp] theorem State.hcfgSent_frame3 (s : State) (b : Nat) :
    (s.hcfgSent b).ev = s.ev ∧ (s.hcfgSent b).safe = s.safe ∧ (s.hcfgSent b).dm = s.dm ∧ (s.hcfgSent b).cm = s.cm ∧
    (s.hcfgSent b).cf = s.cf ∧ (s.hcfgSent b).pw = s.pw ∧ (s.hcfgSent b).th = s.th := by
  and_intros <;> (unfold State.hcfgSent; repeat' (first | with_reducible rfl | (simp; done) | split | with_reducible refine (foldl_inv _ _ _ _ (fun _ _ => ?_)).trans ?_ | (dsimp only; first | split | with_reducible refine (foldl_inv _ _ _ _ (fun _ _ => ?_)).trans ?_)))

@[simp] theorem State.timeSent_frame (s : State) (b stamp : Nat) :
    (s.timeSent b stamp).now = s.now ∧ (s.timeSent b stamp).phase = s.phase ∧ (s.timeSent b stamp).pending = s.pending ∧
    (s.timeSent b stamp).nodeOfs = s.nodeOfs ∧ (s.timeSent b stamp).freeCtr = s.freeCtr ∧ (s.timeSent b stamp).tx = s.tx ∧
    (s.timeSent b stamp).regs = s.regs ∧ (s.timeSent b stamp).tl = s.tl := by
  and_intros <;> (unfold State.timeSent; repeat' (first | with_reducible rfl | (simp; done) | split | with_reducible refine (foldl_inv _ _ _ _ (fun _ _ => ?_)).trans ?_ | (dsimp only; first | split | with_reducible refine (foldl_inv _ _ _ _ (fun _ _ => ?_)).trans ?_)))

@[simp] theorem State.timeSent_frame2 (s : State) (b stamp : Nat) :
    (s.timeSent b stamp).sq = s.sq ∧ (s.timeSent b stamp).fd = s.fd ∧ (s.timeSent b stamp).ex = s.ex ∧
    (s.timeSent b stamp).sv = s.sv ∧ (s.timeSent b stamp).ax = s.ax ∧ (s.timeSent b stamp).aq = s.aq ∧
    (s.timeSent b stamp).il = s.il ∧ (s.timeSent b stamp).ln = s.ln := by
  and_intros <;> (unfold State.timeSent; repeat' (first | with_reducible rfl | (simp; done) | split | with_reducible refine (foldl_inv _ _ _ _ (fun _ _ => ?_)).trans ?_ | (dsimp only; first | split | with_reducible refine (foldl_inv _ _ _ _ (fun _ _ => ?_)).trans ?_)))

@[simp] theorem State.timeSent_frame3 (s : State) (b stamp : Nat) :
    (s.timeSent b stamp).ev = s.ev ∧ (s.timeSent b stamp).safe = s.safe ∧ (s.timeSent b stamp).dm = s.dm ∧
    (s.timeSent b stamp).cm = s.cm ∧ (s.timeSent b stamp).cf = s.cf ∧ (s.timeSent b stamp).pw = s.pw ∧
    (s.timeSent b stamp).th = s.th := by
  and_intros <;> (unfold State.timeSent; repeat' (first | with_reducible rfl | (simp; done) | split | with_reducible refine (foldl_inv _ _ _ _ (fun _ _ => ?_)).trans ?_ | (dsimp only; first | split | with_reducible refine (foldl_inv _ _ _ _ (fun _ _ => ?_)).trans ?_)))

@[simp] theorem State.putData_frame (s : State) (b seq : Nat) (lanes : List Nat) :
    (s.putData b seq lanes).now = s.now ∧ (s.putData b seq lanes).phase = s.phase ∧
    (s.putData b seq lanes).pending = s.pending ∧ (s.putData b seq lanes).nodeOfs = s.nodeOfs ∧
    (s.putData b seq lanes).freeCtr = s.freeCtr ∧ (s.putData b seq lanes).regs = s.regs ∧ (s.putData b seq lanes).tl = s.tl ∧
    (s.putData b seq lanes).sq = s.sq := by
  and_intros <;> (unfold State.putData; repeat' (first | with_reducible rfl | (simp; done) | split | with_reducible refine (foldl_inv _ _ _ _ (fun _ _ => ?_)).trans ?_ | (dsimp only; first | split | with_reducible refine (foldl_inv _ _ _ _ (fun _ _ => ?_)).trans ?_)))

@[simp] theorem State.putData_frame2 (s : State) (b seq : Nat) (lanes : List Nat) :
    (s.putData b seq lanes).fd = s.fd ∧ (s.putData b seq lanes).ex = s.ex ∧ (s.putData b seq lanes).sv = s.sv ∧
    (s.putData b seq lanes).ax = s.ax ∧ (s.putData b seq lanes).aq = s.aq ∧ (s.putData b seq lanes).il = s.il ∧
    (s.putData b seq lanes).ev = s.ev ∧ (s.putData b seq lanes).safe = s.safe := by
  and_intros <;> (unfold State.putData; repeat' (first | with_reducible rfl | (simp; done) | split | with_reducible refine (foldl_inv _ _ _ _ (fun _ _ => ?_)).trans ?_ | (dsimp only; first | split | with_reducible refine (foldl_inv _ _ _ _ (fun _ _ => ?_)).trans ?_)))

@[simp] theorem State.putData_frame3 (s : State) (b seq : Nat) (lanes : List Nat) :
    (s.putData b seq lanes).dm = s.dm ∧ (s.putData b seq lanes).cm = s.cm ∧ (s.putData b seq lanes).cf = s.cf ∧
    (s.putData b seq lanes).pw = s.pw ∧ (s.putData b seq lanes).th = s.th := by
  and_intros <;> (unfold State.putData; repeat' (first | with_reducible rfl | (simp; done) | split | with_reducible refine (foldl_inv _ _ _ _ (fun _ _ => ?_)).trans ?_ | (dsimp only; first | split | with_reducible refine (foldl_inv _ _ _ _ (fun _ _ => ?_)).trans ?_)))

@[simp] theorem State.putTrain_frame (s : State) (l seq : Nat) :
    (s.putTrain l seq).now = s.now ∧ (s.putTrain l seq).phase = s.phase ∧ (s.putTrain l seq).pending = s.pending ∧
    (s.putTrain l seq).nodeOfs = s.nodeOfs ∧ (s.putTrain l seq).freeCtr = s.freeCtr ∧ (s.putTrain l seq).regs = s.regs ∧
    (s.putTrain l seq).tl = s.tl ∧ (s.putTrain l seq).sq = s.sq := by
  and_intros <;> (unfold State.putTrain; repeat' (first | with_reducible rfl | (simp; done) | split | with_reducible refine (foldl_inv _ _ _ _ (fun _ _ => ?_)).trans ?_ | (dsimp only; first | split | with_reducible refine (foldl_inv _ _ _ _ (fun _ _ => ?_)).trans ?_)))

@[simp] theorem State.putTrain_frame2 (s : State) (l seq : Nat) :
    (s.putTrain l seq).fd = s.fd ∧ (s.putTrain l seq).ex = s.ex ∧ (s.putTrain l seq).sv = s.sv ∧
    (s.putTrain l seq).ax = s.ax ∧ (s.putTrain l seq).aq = s.aq ∧ (s.putTrain l seq).il = s.il ∧
    (s.putTrain l seq).fl = s.fl ∧ (s.putTrain l seq).ev = s.ev := by
  and_intros <;> (unfold State.putTrain; repeat' (first | with_reducible rfl | (simp; done) | split | with_reducible refine (foldl_inv _ _ _ _ (fun _ _ => ?_)).trans ?_ | (dsimp only; first | split | with_reducible refine (foldl_inv _ _ _ _ (fun _ _ => ?_)).trans ?_)))

@[simp] theorem State.putTrain_frame3 (s : State) (l seq : Nat) :
    (s.putTrain l seq).safe = s.safe ∧ (s.putTrain l seq).dm = s.dm ∧ (s.putTrain l seq).cm = s.cm ∧
    (s.putTrain l seq).cf = s.cf ∧ (s.putTrain l seq).pw = s.pw ∧ (s.putTrain l seq).th = s.th := by
  and_intros <;> (unfold State.putTrain; repeat' (first | with_reducible rfl | (simp; done) | split | with_reducible refine (foldl_inv _ _ _ _ (fun _ _ => ?_)).trans ?_ | (dsimp only; first | split | with_reducible refine (foldl_inv _ _ _ _ (fun _ _ => ?_)).trans ?_)))

@[simp] theorem State.fillIfDue_frame (s : State) (lanes : List Nat) :
    (s.fillIfDue lanes).now = s.now ∧ (s.fillIfDue lanes).phase = s.phase ∧ (s.fillIfDue lanes).pending = s.pending ∧
    (s.fillIfDue lanes).nodeOfs = s.nodeOfs ∧ (s.fillIfDue lanes).freeCtr = s.freeCtr ∧ (s.fillIfDue lanes).regs = s.regs ∧
    (s.fillIfDue lanes).tl = s.tl ∧ (s.fillIfDue lanes).sq = s.sq := by
  and_intros <;> (unfold State.fillIfDue; repeat' (first | with_reducible rfl | (simp; done) | split | with_reducible refine (foldl_inv _ _ _ _ (fun _ _ => ?_)).trans ?_ | (dsimp only; first | split | with_reducible refine (foldl_inv _ _ _ _ (fun _ _ => ?_)).trans ?_)))

@[simp] theorem State.fillIfDue_frame2 (s : State) (lanes : List Nat) :
    (s.fillIfDue lanes).fd = s.fd ∧ (s.fillIfDue lanes).ex = s.ex ∧ (s.fillIfDue lanes).sv = s.sv ∧
    (s.fillIfDue lanes).ax = s.ax ∧ (s.fillIfDue lanes).aq = s.aq ∧ (s.fillIfDue lanes).il = s.il ∧
    (s.fillIfDue lanes).fl = s.fl ∧ (s.fillIfDue lanes).ev = s.ev := by
  and_intros <;> (unfold State.fillIfDue; repeat' (first | with_reducible rfl | (simp; done) | split | with_reducible refine (foldl_inv _ _ _ _ (fun _ _ => ?_)).trans ?_ | (dsimp only; first | split | with_reducible refine (foldl_inv _ _ _ _ (fun _ _ => ?_)).trans ?_)))

@[simp] theorem State.fillIfDue_frame3 (s : State) (lanes : List Nat) :
    (s.fillIfDue lanes).safe = s.safe ∧ (s.fillIfDue lanes).dm = s.dm ∧ (s.fillIfDue lanes).cm = s.cm ∧
    (s.fillIfDue lanes).cf = s.cf ∧ (s.fillIfDue lanes).pw = s.pw ∧ (s.fillIfDue lanes).th = s.th := by
  and_intros <;> (unfold State.fillIfDue; repeat' (first | with_reducible rfl | (simp; done) | split | with_reducible refine (foldl_inv _ _ _ _ (fun _ _ => ?_)).trans ?_ | (dsimp only; first | split | with_reducible refine (foldl_inv _ _ _ _ (fun _ _ => ?_)).trans ?_)))

@[simp] theorem State.sendSuperframe_frame (s : State) (l : Nat) :
    (s.sendSuperframe l).now = s.now ∧ (s.sendSuperframe l).phase = s.phase ∧ (s.sendSuperframe l).pending = s.pending ∧
    (s.sendSuperframe l).nodeOfs = s.nodeOfs ∧ (s.sendSuperframe l).freeCtr = s.freeCtr ∧ (s.sendSuperframe l).regs = s.regs ∧
    (s.sendSuperframe l).tl = s.tl ∧ (s.sendSuperframe l).sq = s.sq := by
  and_intros <;> (unfold State.sendSuperframe; repeat' (first | with_reducible rfl | (simp; done) | split | with_reducible refine (foldl_inv _ _ _ _ (fun _ _ => ?_)).trans ?_ | (dsimp only; first | split | with_reducible refine (foldl_inv _ _ _ _ (fun _ _ => ?_)).trans ?_)))

@[simp] theorem State.sendSuperframe_frame2 (s : State) (l : Nat) :
    (s.sendSuperframe l).fd = s.fd ∧ (s.sendSuperframe l).ex = s.ex ∧ (s.sendSuperframe l).sv = s.sv ∧
    (s.sendSuperframe l).ax = s.ax ∧ (s.sendSuperframe l).aq = s.aq ∧ (s.sendSuperframe l).il = s.il ∧
    (s.sendSuperframe l).ev = s.ev ∧ (s.sendSuperframe l).safe = s.safe := by
  and_intros <;> (unfold State.sendSuperframe; repeat' (first | with_reducible rfl | (simp; done) | split | with_reducible refine (foldl_inv _ _ _ _ (fun _ _ => ?_)).trans ?_ | (dsimp only; first | split | with_reducible refine (foldl_inv _ _ _ _ (fun _ _ => ?_)).trans ?_)))

@[simp] theorem State.sendSuperframe_frame3 (s : State) (l : Nat) :
    (s.sendSuperframe l).dm = s.dm ∧ (s.sendSuperframe l).cm = s.cm ∧ (s.sendSuperframe l).cf = s.cf ∧
    (s.sendSuperframe l).pw = s.pw ∧ (s.sendSuperframe l).th = s.th := by
  and_intros <;> (unfold State.sendSuperframe; repeat' (first | with_reducible rfl | (simp; done) | split | with_reducible refine (foldl_inv _ _ _ _ (fun _ _ => ?_)).trans ?_ | (dsimp only; first | split | with_reducible refine (foldl_inv _ _ _ _ (fun _ _ => ?_)).trans ?_)))

@[simp] theorem State.putZeros_frame (s : State) (ty : Nat) (lanes : List Nat) :
    (s.putZeros ty lanes).now = s.now ∧ (s.putZeros ty lanes).phase = s.phase ∧ (s.putZeros ty lanes).pending = s.pending ∧
    (s.putZeros ty lanes).nodeOfs = s.nodeOfs ∧ (s.putZeros ty lanes).freeCtr = s.freeCtr ∧
    (s.putZeros ty lanes).regs = s.regs ∧ (s.putZeros ty lanes).tl = s.tl ∧ (s.putZeros ty lanes).sq = s.sq := by
  and_intros <;> (unfold State.putZeros; repeat' (first | with_reducible rfl | (simp; done) | split | with_reducible refine (foldl_inv _ _ _ _ (fun _ _ => ?_)).trans ?_ | (dsimp only; first | split | with_reducible refine (foldl_inv _ _ _ _ (fun _ _ => ?_)).trans ?_)))

@[simp] theorem State.putZeros_frame2 (s : State) (ty : Nat) (lanes : List Nat) :
    (s.putZeros ty lanes).fd = s.fd ∧ (s.putZeros ty lanes).ex = s.ex ∧ (s.putZeros ty lanes).sv = s.sv ∧
    (s.putZeros ty lanes).ax = s.ax ∧ (s.putZeros ty lanes).aq = s.aq ∧ (s.putZeros ty lanes).il = s.il ∧
    (s.putZeros ty lanes).fl = s.fl ∧ (s.putZeros ty lanes).ev = s.ev := by
  and_intros <;> (unfold State.putZeros; repeat' (first | with_reducible rfl | (simp; done) | split | with_reducible refine (foldl_inv _ _ _ _ (fun _ _ => ?_)).trans ?_ | (dsimp only; first | split | with_reducible refine (foldl_inv _ _ _ _ (fun _ _ => ?_)).trans ?_)))

@[simp] theorem State.putZeros_frame3 (s : State) (ty : Nat) (lanes : List Nat) :
    (s.putZeros ty lanes).safe = s.safe ∧ (s.putZeros ty lanes).dm = s.dm ∧ (s.putZeros ty lanes).cm = s.cm ∧
    (s.putZeros ty lanes).cf = s.cf ∧ (s.putZeros ty lanes).pw = s.pw ∧ (s.putZeros ty lanes).th = s.th := by
  and_intros <;> (unfold State.putZeros; repeat' (first | with_reducible rfl | (simp; done) | split | with_reducible refine (foldl_inv _ _ _ _ (fun _ _ => ?_)).trans ?_ | (dsimp only; first | split | with_reducible refine (foldl_inv _ _ _ _ (fun _ _ => ?_)).trans ?_)))

@[simp] theorem State.deliverFrames_frame (s : State) (l : Nat) :
    (s.deliverFrames l).now = s.now ∧ (s.deliverFrames l).phase = s.phase ∧ (s.deliverFrames l).pending = s.pending ∧
    (s.deliverFrames l).nodeOfs = s.nodeOfs ∧ (s.deliverFrames l).freeCtr = s.freeCtr ∧ (s.deliverFrames l).tx = s.tx ∧
    (s.deliverFrames l).regs = s.regs ∧ (s.deliverFrames l).tl = s.tl := by
  and_intros <;> (unfold State.deliverFrames; repeat' (first | with_reducible rfl | (simp; done) | split | with_reducible refine (foldl_inv _ _ _ _ (fun _ _ => ?_)).trans ?_ | (dsimp only; first | split | with_reducible refine (foldl_inv _ _ _ _ (fun _ _ => ?_)).trans ?_)))

@[simp] theorem State.deliverFrames_frame2 (s : State) (l : Nat) :
    (s.deliverFrames l).sq = s.sq ∧ (s.deliverFrames l).fd = s.fd ∧ (s.deliverFrames l).ex = s.ex ∧
    (s.deliverFrames l).sv = s.sv ∧ (s.deliverFrames l).ax = s.ax ∧ (s.deliverFrames l).aq = s.aq ∧
    (s.deliverFrames l).il = s.il ∧ (s.deliverFrames l).ev = s.ev := by
  and_intros <;> (unfold State.deliverFrames; repeat' (first | with_reducible rfl | (simp; done) | split | with_reducible refine (foldl_inv _ _ _ _ (fun _ _ => ?_)).trans ?_ | (dsimp only; first | split | with_reducible refine (foldl_inv _ _ _ _ (fun _ _ => ?_)).trans ?_)))

@[simp] theorem State.deliverFrames_frame3 (s : State) (l : Nat) :
    (s.deliverFrames l).safe = s.safe ∧ (s.deliverFrames l).dm = s.dm ∧ (s.deliverFrames l).cm = s.cm ∧
    (s.deliverFrames l).cf = s.cf ∧ (s.deliverFrames l).pw = s.pw ∧ (s.deliverFrames l).th = s.th := by
  and_intros <;> (unfold State.deliverFrames; repeat' (first | with_reducible rfl | (simp; done) | split | with_reducible refine (foldl_inv _ _ _ _ (fun _ _ => ?_)).trans ?_ | (dsimp only; first | split | with_reducible refine (foldl_inv _ _ _ _ (fun _ _ => ?_)).trans ?_)))

@[simp] theorem State.badMarker_frame (s : State) (l : Nat) :
    (s.badMarker l).now = s.now ∧ (s.badMarker l).phase = s.phase ∧ (s.badMarker l).pending = s.pending ∧
    (s.badMarker l).nodeOfs = s.nodeOfs ∧ (s.badMarker l).freeCtr = s.freeCtr ∧ (s.badMarker l).tl = s.tl ∧
    (s.badMarker l).fd = s.fd ∧ (s.badMarker l).ex = s.ex := by
  and_intros <;> (unfold State.badMarker; repeat' (first | with_reducible rfl | (simp; done) | split | with_reducible refine (foldl_inv _ _ _ _ (fun _ _ => ?_)).trans ?_ | (dsimp only; first | split | with_reducible refine (foldl_inv _ _ _ _ (fun _ _ => ?_)).trans ?_)))

@[simp] theorem State.badMarker_frame2 (s : State) (l : Nat) :
    (s.badMarker l).sv = s.sv ∧ (s.badMarker l).ax = s.ax ∧ (s.badMarker l).aq = s.aq ∧ (s.badMarker l).il = s.il ∧
    (s.badMarker l).cm = s.cm ∧ (s.badMarker l).pw = s.pw ∧ (s.badMarker l).th = s.th := by
  and_intros <;> (unfold State.badMarker; repeat' (first | with_reducible rfl | (simp; done) | split | with_reducible refine (foldl_inv _ _ _ _ (fun _ _ => ?_)).trans ?_ | (dsimp only; first | split | with_reducible refine (foldl_inv _ _ _ _ (fun _ _ => ?_)).trans ?_)))

@[simp] theorem State.takeFrame_frame (s : State) (l ty seq : Nat) (payload : List Score) (bad : Bool) :
    (s.takeFrame l ty seq payload bad).now = s.now ∧ (s.takeFrame l ty seq payload bad).phase = s.phase ∧
    (s.takeFrame l ty seq payload bad).pending = s.pending ∧ (s.takeFrame l ty seq payload bad).nodeOfs = s.nodeOfs ∧
    (s.takeFrame l ty seq payload bad).freeCtr = s.freeCtr ∧ (s.takeFrame l ty seq payload bad).tx = s.tx ∧
    (s.takeFrame l ty seq payload bad).regs = s.regs ∧ (s.takeFrame l ty seq payload bad).tl = s.tl := by
  and_intros <;> (unfold State.takeFrame; repeat' (first | with_reducible rfl | (simp; done) | split | with_reducible refine (foldl_inv _ _ _ _ (fun _ _ => ?_)).trans ?_ | (dsimp only; first | split | with_reducible refine (foldl_inv _ _ _ _ (fun _ _ => ?_)).trans ?_)))

@[simp] theorem State.takeFrame_frame2 (s : State) (l ty seq : Nat) (payload : List Score) (bad : Bool) :
    (s.takeFrame l ty seq payload bad).sq = s.sq ∧ (s.takeFrame l ty seq payload bad).fd = s.fd ∧
    (s.takeFrame l ty seq payload bad).ex = s.ex ∧ (s.takeFrame l ty seq payload bad).sv = s.sv ∧
    (s.takeFrame l ty seq payload bad).ax = s.ax ∧ (s.takeFrame l ty seq payload bad).aq = s.aq ∧
    (s.takeFrame l ty seq payload bad).il = s.il ∧ (s.takeFrame l ty seq payload bad).ev = s.ev := by
  and_intros <;> (unfold State.takeFrame; repeat' (first | with_reducible rfl | (simp; done) | split | with_reducible refine (foldl_inv _ _ _ _ (fun _ _ => ?_)).trans ?_ | (dsimp only; first | split | with_reducible refine (foldl_inv _ _ _ _ (fun _ _ => ?_)).trans ?_)))

@[simp] theorem State.takeFrame_frame3 (s : State) (l ty seq : Nat) (payload : List Score) (bad : Bool) :
    (s.takeFrame l ty seq payload bad).safe = s.safe ∧ (s.takeFrame l ty seq payload bad).dm = s.dm ∧
    (s.takeFrame l ty seq payload bad).cm = s.cm ∧ (s.takeFrame l ty seq payload bad).cf = s.cf ∧
    (s.takeFrame l ty seq payload bad).pw = s.pw ∧ (s.takeFrame l ty seq payload bad).th = s.th := by
  and_intros <;> (unfold State.takeFrame; repeat' (first | with_reducible rfl | (simp; done) | split | with_reducible refine (foldl_inv _ _ _ _ (fun _ _ => ?_)).trans ?_ | (dsimp only; first | split | with_reducible refine (foldl_inv _ _ _ _ (fun _ _ => ?_)).trans ?_)))

@[simp] theorem State.elastic_frame (s : State) (l arrived cycles : Nat) :
    (s.elastic l arrived cycles).now = s.now ∧ (s.elastic l arrived cycles).phase = s.phase ∧
    (s.elastic l arrived cycles).pending = s.pending ∧ (s.elastic l arrived cycles).nodeOfs = s.nodeOfs ∧
    (s.elastic l arrived cycles).freeCtr = s.freeCtr ∧ (s.elastic l arrived cycles).tl = s.tl ∧
    (s.elastic l arrived cycles).fd = s.fd ∧ (s.elastic l arrived cycles).ex = s.ex := by
  and_intros <;> (unfold State.elastic; repeat' (first | with_reducible rfl | (simp; done) | split | with_reducible refine (foldl_inv _ _ _ _ (fun _ _ => ?_)).trans ?_ | (dsimp only; first | split | with_reducible refine (foldl_inv _ _ _ _ (fun _ _ => ?_)).trans ?_)))

@[simp] theorem State.elastic_frame2 (s : State) (l arrived cycles : Nat) :
    (s.elastic l arrived cycles).sv = s.sv ∧ (s.elastic l arrived cycles).ax = s.ax ∧ (s.elastic l arrived cycles).aq = s.aq ∧
    (s.elastic l arrived cycles).il = s.il ∧ (s.elastic l arrived cycles).cm = s.cm ∧ (s.elastic l arrived cycles).pw = s.pw ∧
    (s.elastic l arrived cycles).th = s.th := by
  and_intros <;> (unfold State.elastic; repeat' (first | with_reducible rfl | (simp; done) | split | with_reducible refine (foldl_inv _ _ _ _ (fun _ _ => ?_)).trans ?_ | (dsimp only; first | split | with_reducible refine (foldl_inv _ _ _ _ (fun _ _ => ?_)).trans ?_)))

@[simp] theorem State.superframeApply_frame (s : State) (l : Nat) :
    (s.superframeApply l).now = s.now ∧ (s.superframeApply l).phase = s.phase ∧ (s.superframeApply l).pending = s.pending ∧
    (s.superframeApply l).nodeOfs = s.nodeOfs ∧ (s.superframeApply l).freeCtr = s.freeCtr ∧ (s.superframeApply l).tl = s.tl ∧
    (s.superframeApply l).fd = s.fd ∧ (s.superframeApply l).ex = s.ex := by
  and_intros <;> (unfold State.superframeApply; repeat' (first | with_reducible rfl | (simp; done) | split | with_reducible refine (foldl_inv _ _ _ _ (fun _ _ => ?_)).trans ?_ | (dsimp only; first | split | with_reducible refine (foldl_inv _ _ _ _ (fun _ _ => ?_)).trans ?_)))

@[simp] theorem State.superframeApply_frame2 (s : State) (l : Nat) :
    (s.superframeApply l).sv = s.sv ∧ (s.superframeApply l).ax = s.ax ∧ (s.superframeApply l).aq = s.aq ∧
    (s.superframeApply l).il = s.il ∧ (s.superframeApply l).cm = s.cm ∧ (s.superframeApply l).pw = s.pw ∧
    (s.superframeApply l).th = s.th := by
  and_intros <;> (unfold State.superframeApply; repeat' (first | with_reducible rfl | (simp; done) | split | with_reducible refine (foldl_inv _ _ _ _ (fun _ _ => ?_)).trans ?_ | (dsimp only; first | split | with_reducible refine (foldl_inv _ _ _ _ (fun _ _ => ?_)).trans ?_)))

@[simp] theorem State.goodMarker_frame (s : State) (l ty seq : Nat) (payload : List Score) :
    (s.goodMarker l ty seq payload).now = s.now ∧ (s.goodMarker l ty seq payload).phase = s.phase ∧
    (s.goodMarker l ty seq payload).pending = s.pending ∧ (s.goodMarker l ty seq payload).nodeOfs = s.nodeOfs ∧
    (s.goodMarker l ty seq payload).freeCtr = s.freeCtr ∧ (s.goodMarker l ty seq payload).tx = s.tx ∧
    (s.goodMarker l ty seq payload).tl = s.tl ∧ (s.goodMarker l ty seq payload).sq = s.sq := by
  and_intros <;> (unfold State.goodMarker; repeat' (first | with_reducible rfl | (simp; done) | split | with_reducible refine (foldl_inv _ _ _ _ (fun _ _ => ?_)).trans ?_ | (dsimp only; first | split | with_reducible refine (foldl_inv _ _ _ _ (fun _ _ => ?_)).trans ?_)))

@[simp] theorem State.goodMarker_frame2 (s : State) (l ty seq : Nat) (payload : List Score) :
    (s.goodMarker l ty seq payload).fd = s.fd ∧ (s.goodMarker l ty seq payload).ex = s.ex ∧
    (s.goodMarker l ty seq payload).sv = s.sv ∧ (s.goodMarker l ty seq payload).ax = s.ax ∧
    (s.goodMarker l ty seq payload).aq = s.aq ∧ (s.goodMarker l ty seq payload).il = s.il ∧
    (s.goodMarker l ty seq payload).ev = s.ev ∧ (s.goodMarker l ty seq payload).safe = s.safe := by
  and_intros <;> (unfold State.goodMarker; repeat' (first | with_reducible rfl | (simp; done) | split | with_reducible refine (foldl_inv _ _ _ _ (fun _ _ => ?_)).trans ?_ | (dsimp only; first | split | with_reducible refine (foldl_inv _ _ _ _ (fun _ _ => ?_)).trans ?_)))

@[simp] theorem State.goodMarker_frame3 (s : State) (l ty seq : Nat) (payload : List Score) :
    (s.goodMarker l ty seq payload).dm = s.dm ∧ (s.goodMarker l ty seq payload).cm = s.cm ∧
    (s.goodMarker l ty seq payload).cf = s.cf ∧ (s.goodMarker l ty seq payload).pw = s.pw ∧
    (s.goodMarker l ty seq payload).th = s.th := by
  and_intros <;> (unfold State.goodMarker; repeat' (first | with_reducible rfl | (simp; done) | split | with_reducible refine (foldl_inv _ _ _ _ (fun _ _ => ?_)).trans ?_ | (dsimp only; first | split | with_reducible refine (foldl_inv _ _ _ _ (fun _ _ => ?_)).trans ?_)))

@[simp] theorem State.laneEidle_frame (s : State) (l : Nat) :
    (s.laneEidle l).now = s.now ∧ (s.laneEidle l).phase = s.phase ∧ (s.laneEidle l).pending = s.pending ∧
    (s.laneEidle l).nodeOfs = s.nodeOfs ∧ (s.laneEidle l).freeCtr = s.freeCtr ∧ (s.laneEidle l).tl = s.tl ∧
    (s.laneEidle l).sq = s.sq ∧ (s.laneEidle l).fd = s.fd := by
  and_intros <;> (unfold State.laneEidle; repeat' (first | with_reducible rfl | (simp; done) | split | with_reducible refine (foldl_inv _ _ _ _ (fun _ _ => ?_)).trans ?_ | (dsimp only; first | split | with_reducible refine (foldl_inv _ _ _ _ (fun _ _ => ?_)).trans ?_)))

@[simp] theorem State.laneEidle_frame2 (s : State) (l : Nat) :
    (s.laneEidle l).ex = s.ex ∧ (s.laneEidle l).sv = s.sv ∧ (s.laneEidle l).ax = s.ax ∧ (s.laneEidle l).aq = s.aq ∧
    (s.laneEidle l).il = s.il ∧ (s.laneEidle l).fl = s.fl ∧ (s.laneEidle l).ev = s.ev ∧ (s.laneEidle l).safe = s.safe := by
  and_intros <;> (unfold State.laneEidle; repeat' (first | with_reducible rfl | (simp; done) | split | with_reducible refine (foldl_inv _ _ _ _ (fun _ _ => ?_)).trans ?_ | (dsimp only; first | split | with_reducible refine (foldl_inv _ _ _ _ (fun _ _ => ?_)).trans ?_)))

@[simp] theorem State.laneEidle_frame3 (s : State) (l : Nat) :
    (s.laneEidle l).cm = s.cm ∧ (s.laneEidle l).cf = s.cf ∧ (s.laneEidle l).pw = s.pw ∧ (s.laneEidle l).th = s.th := by
  and_intros <;> (unfold State.laneEidle; repeat' (first | with_reducible rfl | (simp; done) | split | with_reducible refine (foldl_inv _ _ _ _ (fun _ _ => ?_)).trans ?_ | (dsimp only; first | split | with_reducible refine (foldl_inv _ _ _ _ (fun _ _ => ?_)).trans ?_)))

@[simp] theorem State.laneDeep_frame (s : State) (l : Nat) :
    (s.laneDeep l).now = s.now ∧ (s.laneDeep l).phase = s.phase ∧ (s.laneDeep l).pending = s.pending ∧
    (s.laneDeep l).nodeOfs = s.nodeOfs ∧ (s.laneDeep l).freeCtr = s.freeCtr ∧ (s.laneDeep l).tl = s.tl ∧
    (s.laneDeep l).fd = s.fd ∧ (s.laneDeep l).ex = s.ex := by
  and_intros <;> (unfold State.laneDeep; repeat' (first | with_reducible rfl | (simp; done) | split | with_reducible refine (foldl_inv _ _ _ _ (fun _ _ => ?_)).trans ?_ | (dsimp only; first | split | with_reducible refine (foldl_inv _ _ _ _ (fun _ _ => ?_)).trans ?_)))

@[simp] theorem State.laneDeep_frame2 (s : State) (l : Nat) :
    (s.laneDeep l).sv = s.sv ∧ (s.laneDeep l).ax = s.ax ∧ (s.laneDeep l).aq = s.aq ∧ (s.laneDeep l).il = s.il ∧
    (s.laneDeep l).cm = s.cm ∧ (s.laneDeep l).pw = s.pw ∧ (s.laneDeep l).th = s.th := by
  and_intros <;> (unfold State.laneDeep; repeat' (first | with_reducible rfl | (simp; done) | split | with_reducible refine (foldl_inv _ _ _ _ (fun _ _ => ?_)).trans ?_ | (dsimp only; first | split | with_reducible refine (foldl_inv _ _ _ _ (fun _ _ => ?_)).trans ?_)))

@[simp] theorem State.setQuadRefs_frame (s : State) (q : Nat) (usedBad otherBad : Bool) :
    (s.setQuadRefs q usedBad otherBad).now = s.now ∧ (s.setQuadRefs q usedBad otherBad).phase = s.phase ∧
    (s.setQuadRefs q usedBad otherBad).pending = s.pending ∧ (s.setQuadRefs q usedBad otherBad).nodeOfs = s.nodeOfs ∧
    (s.setQuadRefs q usedBad otherBad).freeCtr = s.freeCtr ∧ (s.setQuadRefs q usedBad otherBad).tx = s.tx ∧
    (s.setQuadRefs q usedBad otherBad).regs = s.regs ∧ (s.setQuadRefs q usedBad otherBad).tl = s.tl := by
  and_intros <;> (unfold State.setQuadRefs; repeat' (first | with_reducible rfl | (simp; done) | split | with_reducible refine (foldl_inv _ _ _ _ (fun _ _ => ?_)).trans ?_ | (dsimp only; first | split | with_reducible refine (foldl_inv _ _ _ _ (fun _ _ => ?_)).trans ?_)))

@[simp] theorem State.setQuadRefs_frame2 (s : State) (q : Nat) (usedBad otherBad : Bool) :
    (s.setQuadRefs q usedBad otherBad).sq = s.sq ∧ (s.setQuadRefs q usedBad otherBad).fd = s.fd ∧
    (s.setQuadRefs q usedBad otherBad).ex = s.ex ∧ (s.setQuadRefs q usedBad otherBad).sv = s.sv ∧
    (s.setQuadRefs q usedBad otherBad).ax = s.ax ∧ (s.setQuadRefs q usedBad otherBad).aq = s.aq ∧
    (s.setQuadRefs q usedBad otherBad).il = s.il ∧ (s.setQuadRefs q usedBad otherBad).fl = s.fl := by
  and_intros <;> (unfold State.setQuadRefs; repeat' (first | with_reducible rfl | (simp; done) | split | with_reducible refine (foldl_inv _ _ _ _ (fun _ _ => ?_)).trans ?_ | (dsimp only; first | split | with_reducible refine (foldl_inv _ _ _ _ (fun _ _ => ?_)).trans ?_)))

@[simp] theorem State.setQuadRefs_frame3 (s : State) (q : Nat) (usedBad otherBad : Bool) :
    (s.setQuadRefs q usedBad otherBad).ev = s.ev ∧ (s.setQuadRefs q usedBad otherBad).safe = s.safe ∧
    (s.setQuadRefs q usedBad otherBad).dm = s.dm ∧ (s.setQuadRefs q usedBad otherBad).cm = s.cm ∧
    (s.setQuadRefs q usedBad otherBad).cf = s.cf ∧ (s.setQuadRefs q usedBad otherBad).pw = s.pw ∧
    (s.setQuadRefs q usedBad otherBad).th = s.th := by
  and_intros <;> (unfold State.setQuadRefs; repeat' (first | with_reducible rfl | (simp; done) | split | with_reducible refine (foldl_inv _ _ _ _ (fun _ _ => ?_)).trans ?_ | (dsimp only; first | split | with_reducible refine (foldl_inv _ _ _ _ (fun _ _ => ?_)).trans ?_)))

@[simp] theorem State.quadRefsBack_frame (s : State) (a b : Bool) :
    (s.quadRefsBack a b).now = s.now ∧ (s.quadRefsBack a b).phase = s.phase ∧ (s.quadRefsBack a b).pending = s.pending ∧
    (s.quadRefsBack a b).nodeOfs = s.nodeOfs ∧ (s.quadRefsBack a b).freeCtr = s.freeCtr ∧ (s.quadRefsBack a b).tx = s.tx ∧
    (s.quadRefsBack a b).tl = s.tl ∧ (s.quadRefsBack a b).sq = s.sq := by
  and_intros <;> (unfold State.quadRefsBack; repeat' (first | with_reducible rfl | (simp; done) | split | with_reducible refine (foldl_inv _ _ _ _ (fun _ _ => ?_)).trans ?_ | (dsimp only; first | split | with_reducible refine (foldl_inv _ _ _ _ (fun _ _ => ?_)).trans ?_)))

@[simp] theorem State.quadRefsBack_frame2 (s : State) (a b : Bool) :
    (s.quadRefsBack a b).fd = s.fd ∧ (s.quadRefsBack a b).ex = s.ex ∧ (s.quadRefsBack a b).sv = s.sv ∧
    (s.quadRefsBack a b).ax = s.ax ∧ (s.quadRefsBack a b).aq = s.aq ∧ (s.quadRefsBack a b).il = s.il ∧
    (s.quadRefsBack a b).fl = s.fl ∧ (s.quadRefsBack a b).ev = s.ev := by
  and_intros <;> (unfold State.quadRefsBack; repeat' (first | with_reducible rfl | (simp; done) | split | with_reducible refine (foldl_inv _ _ _ _ (fun _ _ => ?_)).trans ?_ | (dsimp only; first | split | with_reducible refine (foldl_inv _ _ _ _ (fun _ _ => ?_)).trans ?_)))

@[simp] theorem State.quadRefsBack_frame3 (s : State) (a b : Bool) :
    (s.quadRefsBack a b).safe = s.safe ∧ (s.quadRefsBack a b).dm = s.dm ∧ (s.quadRefsBack a b).cm = s.cm ∧
    (s.quadRefsBack a b).cf = s.cf ∧ (s.quadRefsBack a b).pw = s.pw ∧ (s.quadRefsBack a b).th = s.th := by
  and_intros <;> (unfold State.quadRefsBack; repeat' (first | with_reducible rfl | (simp; done) | split | with_reducible refine (foldl_inv _ _ _ _ (fun _ _ => ?_)).trans ?_ | (dsimp only; first | split | with_reducible refine (foldl_inv _ _ _ _ (fun _ _ => ?_)).trans ?_)))

@[simp] theorem State.lnCntClr_frame (s : State) (q : Nat) :
    (s.lnCntClr q).now = s.now ∧ (s.lnCntClr q).phase = s.phase ∧ (s.lnCntClr q).pending = s.pending ∧
    (s.lnCntClr q).nodeOfs = s.nodeOfs ∧ (s.lnCntClr q).freeCtr = s.freeCtr ∧ (s.lnCntClr q).tx = s.tx ∧
    (s.lnCntClr q).tl = s.tl ∧ (s.lnCntClr q).sq = s.sq := by
  and_intros <;> (unfold State.lnCntClr; repeat' (first | with_reducible rfl | (simp; done) | split | with_reducible refine (foldl_inv _ _ _ _ (fun _ _ => ?_)).trans ?_ | (dsimp only; first | split | with_reducible refine (foldl_inv _ _ _ _ (fun _ _ => ?_)).trans ?_)))

@[simp] theorem State.lnCntClr_frame2 (s : State) (q : Nat) :
    (s.lnCntClr q).fd = s.fd ∧ (s.lnCntClr q).ex = s.ex ∧ (s.lnCntClr q).sv = s.sv ∧ (s.lnCntClr q).ax = s.ax ∧
    (s.lnCntClr q).aq = s.aq ∧ (s.lnCntClr q).il = s.il ∧ (s.lnCntClr q).ln = s.ln ∧ (s.lnCntClr q).fl = s.fl := by
  and_intros <;> (unfold State.lnCntClr; repeat' (first | with_reducible rfl | (simp; done) | split | with_reducible refine (foldl_inv _ _ _ _ (fun _ _ => ?_)).trans ?_ | (dsimp only; first | split | with_reducible refine (foldl_inv _ _ _ _ (fun _ _ => ?_)).trans ?_)))

@[simp] theorem State.lnCntClr_frame3 (s : State) (q : Nat) :
    (s.lnCntClr q).ev = s.ev ∧ (s.lnCntClr q).safe = s.safe ∧ (s.lnCntClr q).dm = s.dm ∧ (s.lnCntClr q).cm = s.cm ∧
    (s.lnCntClr q).cf = s.cf ∧ (s.lnCntClr q).pw = s.pw ∧ (s.lnCntClr q).th = s.th := by
  and_intros <;> (unfold State.lnCntClr; repeat' (first | with_reducible rfl | (simp; done) | split | with_reducible refine (foldl_inv _ _ _ _ (fun _ _ => ?_)).trans ?_ | (dsimp only; first | split | with_reducible refine (foldl_inv _ _ _ _ (fun _ _ => ?_)).trans ?_)))

@[simp] theorem State.pllLock_parts (s : State) (q : Nat) :
    (s.pllLock q).regs.setA = s.regs.setA ∧ (s.pllLock q).regs.setB = s.regs.setB ∧ (s.pllLock q).regs.one = s.regs.one ∧
    (s.pllLock q).regs.rsvd = s.regs.rsvd ∧ (s.pllLock q).regs.waiting = s.regs.waiting ∧
    (s.pllLock q).regs.stale = s.regs.stale ∧ (s.pllLock q).regs.posted = s.regs.posted := by
  and_intros <;> (unfold State.pllLock; repeat' (first | with_reducible rfl | (simp; done) | split | with_reducible refine (State.regs_setA_foldl _ _ _ (fun _ _ => ?_)).trans ?_ | with_reducible refine (State.regs_setB_foldl _ _ _ (fun _ _ => ?_)).trans ?_ | with_reducible refine (State.regs_one_foldl _ _ _ (fun _ _ => ?_)).trans ?_ | with_reducible refine (State.regs_rsvd_foldl _ _ _ (fun _ _ => ?_)).trans ?_ | with_reducible refine (State.regs_waiting_foldl _ _ _ (fun _ _ => ?_)).trans ?_ | with_reducible refine (State.regs_stale_foldl _ _ _ (fun _ _ => ?_)).trans ?_ | with_reducible refine (State.regs_posted_foldl _ _ _ (fun _ _ => ?_)).trans ?_ | with_reducible refine (State.fd_mem_foldl _ _ _ (fun _ _ => ?_)).trans ?_ | with_reducible refine (State.dm_sram_foldl _ _ _ (fun _ _ => ?_)).trans ?_ | with_reducible refine (State.sq_frameNo_foldl _ _ _ (fun _ _ => ?_)).trans ?_ | with_reducible refine (State.sq_inScan_foldl _ _ _ (fun _ _ => ?_)).trans ?_ | with_reducible refine (State.sq_nextBoundary_foldl _ _ _ (fun _ _ => ?_)).trans ?_ | with_reducible refine (State.pw_gate_foldl _ _ _ (fun _ _ => ?_)).trans ?_ | (dsimp only; first | split | with_reducible refine (State.regs_setA_foldl _ _ _ (fun _ _ => ?_)).trans ?_ | with_reducible refine (State.regs_setB_foldl _ _ _ (fun _ _ => ?_)).trans ?_ | with_reducible refine (State.regs_one_foldl _ _ _ (fun _ _ => ?_)).trans ?_ | with_reducible refine (State.regs_rsvd_foldl _ _ _ (fun _ _ => ?_)).trans ?_ | with_reducible refine (State.regs_waiting_foldl _ _ _ (fun _ _ => ?_)).trans ?_ | with_reducible refine (State.regs_stale_foldl _ _ _ (fun _ _ => ?_)).trans ?_ | with_reducible refine (State.regs_posted_foldl _ _ _ (fun _ _ => ?_)).trans ?_ | with_reducible refine (State.fd_mem_foldl _ _ _ (fun _ _ => ?_)).trans ?_ | with_reducible refine (State.dm_sram_foldl _ _ _ (fun _ _ => ?_)).trans ?_ | with_reducible refine (State.sq_frameNo_foldl _ _ _ (fun _ _ => ?_)).trans ?_ | with_reducible refine (State.sq_inScan_foldl _ _ _ (fun _ _ => ?_)).trans ?_ | with_reducible refine (State.sq_nextBoundary_foldl _ _ _ (fun _ _ => ?_)).trans ?_ | with_reducible refine (State.pw_gate_foldl _ _ _ (fun _ _ => ?_)).trans ?_)))

@[simp] theorem State.toLane_parts (s : State) (l st : Nat) :
    (s.toLane l st).regs.setA = s.regs.setA ∧ (s.toLane l st).regs.setB = s.regs.setB ∧
    (s.toLane l st).regs.one = s.regs.one ∧ (s.toLane l st).regs.rsvd = s.regs.rsvd ∧
    (s.toLane l st).regs.waiting = s.regs.waiting ∧ (s.toLane l st).regs.stale = s.regs.stale ∧
    (s.toLane l st).regs.posted = s.regs.posted ∧ (s.toLane l st).dm.sram = s.dm.sram := by
  and_intros <;> (unfold State.toLane; repeat' (first | with_reducible rfl | (simp; done) | split | with_reducible refine (State.regs_setA_foldl _ _ _ (fun _ _ => ?_)).trans ?_ | with_reducible refine (State.regs_setB_foldl _ _ _ (fun _ _ => ?_)).trans ?_ | with_reducible refine (State.regs_one_foldl _ _ _ (fun _ _ => ?_)).trans ?_ | with_reducible refine (State.regs_rsvd_foldl _ _ _ (fun _ _ => ?_)).trans ?_ | with_reducible refine (State.regs_waiting_foldl _ _ _ (fun _ _ => ?_)).trans ?_ | with_reducible refine (State.regs_stale_foldl _ _ _ (fun _ _ => ?_)).trans ?_ | with_reducible refine (State.regs_posted_foldl _ _ _ (fun _ _ => ?_)).trans ?_ | with_reducible refine (State.fd_mem_foldl _ _ _ (fun _ _ => ?_)).trans ?_ | with_reducible refine (State.dm_sram_foldl _ _ _ (fun _ _ => ?_)).trans ?_ | with_reducible refine (State.sq_frameNo_foldl _ _ _ (fun _ _ => ?_)).trans ?_ | with_reducible refine (State.sq_inScan_foldl _ _ _ (fun _ _ => ?_)).trans ?_ | with_reducible refine (State.sq_nextBoundary_foldl _ _ _ (fun _ _ => ?_)).trans ?_ | with_reducible refine (State.pw_gate_foldl _ _ _ (fun _ _ => ?_)).trans ?_ | (dsimp only; first | split | with_reducible refine (State.regs_setA_foldl _ _ _ (fun _ _ => ?_)).trans ?_ | with_reducible refine (State.regs_setB_foldl _ _ _ (fun _ _ => ?_)).trans ?_ | with_reducible refine (State.regs_one_foldl _ _ _ (fun _ _ => ?_)).trans ?_ | with_reducible refine (State.regs_rsvd_foldl _ _ _ (fun _ _ => ?_)).trans ?_ | with_reducible refine (State.regs_waiting_foldl _ _ _ (fun _ _ => ?_)).trans ?_ | with_reducible refine (State.regs_stale_foldl _ _ _ (fun _ _ => ?_)).trans ?_ | with_reducible refine (State.regs_posted_foldl _ _ _ (fun _ _ => ?_)).trans ?_ | with_reducible refine (State.fd_mem_foldl _ _ _ (fun _ _ => ?_)).trans ?_ | with_reducible refine (State.dm_sram_foldl _ _ _ (fun _ _ => ?_)).trans ?_ | with_reducible refine (State.sq_frameNo_foldl _ _ _ (fun _ _ => ?_)).trans ?_ | with_reducible refine (State.sq_inScan_foldl _ _ _ (fun _ _ => ?_)).trans ?_ | with_reducible refine (State.sq_nextBoundary_foldl _ _ _ (fun _ _ => ?_)).trans ?_ | with_reducible refine (State.pw_gate_foldl _ _ _ (fun _ _ => ?_)).trans ?_)))

@[simp] theorem State.linkLost_parts (s : State) (l : Nat) :
    (s.linkLost l).regs.setA = s.regs.setA ∧ (s.linkLost l).regs.setB = s.regs.setB ∧ (s.linkLost l).regs.one = s.regs.one ∧
    (s.linkLost l).regs.rsvd = s.regs.rsvd ∧ (s.linkLost l).regs.waiting = s.regs.waiting ∧
    (s.linkLost l).regs.stale = s.regs.stale ∧ (s.linkLost l).regs.posted = s.regs.posted ∧
    (s.linkLost l).dm.sram = s.dm.sram := by
  and_intros <;> (unfold State.linkLost; repeat' (first | with_reducible rfl | (simp; done) | split | with_reducible refine (State.regs_setA_foldl _ _ _ (fun _ _ => ?_)).trans ?_ | with_reducible refine (State.regs_setB_foldl _ _ _ (fun _ _ => ?_)).trans ?_ | with_reducible refine (State.regs_one_foldl _ _ _ (fun _ _ => ?_)).trans ?_ | with_reducible refine (State.regs_rsvd_foldl _ _ _ (fun _ _ => ?_)).trans ?_ | with_reducible refine (State.regs_waiting_foldl _ _ _ (fun _ _ => ?_)).trans ?_ | with_reducible refine (State.regs_stale_foldl _ _ _ (fun _ _ => ?_)).trans ?_ | with_reducible refine (State.regs_posted_foldl _ _ _ (fun _ _ => ?_)).trans ?_ | with_reducible refine (State.fd_mem_foldl _ _ _ (fun _ _ => ?_)).trans ?_ | with_reducible refine (State.dm_sram_foldl _ _ _ (fun _ _ => ?_)).trans ?_ | with_reducible refine (State.sq_frameNo_foldl _ _ _ (fun _ _ => ?_)).trans ?_ | with_reducible refine (State.sq_inScan_foldl _ _ _ (fun _ _ => ?_)).trans ?_ | with_reducible refine (State.sq_nextBoundary_foldl _ _ _ (fun _ _ => ?_)).trans ?_ | with_reducible refine (State.pw_gate_foldl _ _ _ (fun _ _ => ?_)).trans ?_ | (dsimp only; first | split | with_reducible refine (State.regs_setA_foldl _ _ _ (fun _ _ => ?_)).trans ?_ | with_reducible refine (State.regs_setB_foldl _ _ _ (fun _ _ => ?_)).trans ?_ | with_reducible refine (State.regs_one_foldl _ _ _ (fun _ _ => ?_)).trans ?_ | with_reducible refine (State.regs_rsvd_foldl _ _ _ (fun _ _ => ?_)).trans ?_ | with_reducible refine (State.regs_waiting_foldl _ _ _ (fun _ _ => ?_)).trans ?_ | with_reducible refine (State.regs_stale_foldl _ _ _ (fun _ _ => ?_)).trans ?_ | with_reducible refine (State.regs_posted_foldl _ _ _ (fun _ _ => ?_)).trans ?_ | with_reducible refine (State.fd_mem_foldl _ _ _ (fun _ _ => ?_)).trans ?_ | with_reducible refine (State.dm_sram_foldl _ _ _ (fun _ _ => ?_)).trans ?_ | with_reducible refine (State.sq_frameNo_foldl _ _ _ (fun _ _ => ?_)).trans ?_ | with_reducible refine (State.sq_inScan_foldl _ _ _ (fun _ _ => ?_)).trans ?_ | with_reducible refine (State.sq_nextBoundary_foldl _ _ _ (fun _ _ => ?_)).trans ?_ | with_reducible refine (State.pw_gate_foldl _ _ _ (fun _ _ => ?_)).trans ?_)))

@[simp] theorem State.trainLane_parts (s : State) (l : Nat) :
    (s.trainLane l).regs.setA = s.regs.setA ∧ (s.trainLane l).regs.setB = s.regs.setB ∧
    (s.trainLane l).regs.one = s.regs.one ∧ (s.trainLane l).regs.rsvd = s.regs.rsvd ∧
    (s.trainLane l).regs.waiting = s.regs.waiting ∧ (s.trainLane l).regs.stale = s.regs.stale ∧
    (s.trainLane l).regs.posted = s.regs.posted ∧ (s.trainLane l).dm.sram = s.dm.sram := by
  and_intros <;> (unfold State.trainLane; repeat' (first | with_reducible rfl | (simp; done) | split | with_reducible refine (State.regs_setA_foldl _ _ _ (fun _ _ => ?_)).trans ?_ | with_reducible refine (State.regs_setB_foldl _ _ _ (fun _ _ => ?_)).trans ?_ | with_reducible refine (State.regs_one_foldl _ _ _ (fun _ _ => ?_)).trans ?_ | with_reducible refine (State.regs_rsvd_foldl _ _ _ (fun _ _ => ?_)).trans ?_ | with_reducible refine (State.regs_waiting_foldl _ _ _ (fun _ _ => ?_)).trans ?_ | with_reducible refine (State.regs_stale_foldl _ _ _ (fun _ _ => ?_)).trans ?_ | with_reducible refine (State.regs_posted_foldl _ _ _ (fun _ _ => ?_)).trans ?_ | with_reducible refine (State.fd_mem_foldl _ _ _ (fun _ _ => ?_)).trans ?_ | with_reducible refine (State.dm_sram_foldl _ _ _ (fun _ _ => ?_)).trans ?_ | with_reducible refine (State.sq_frameNo_foldl _ _ _ (fun _ _ => ?_)).trans ?_ | with_reducible refine (State.sq_inScan_foldl _ _ _ (fun _ _ => ?_)).trans ?_ | with_reducible refine (State.sq_nextBoundary_foldl _ _ _ (fun _ _ => ?_)).trans ?_ | with_reducible refine (State.pw_gate_foldl _ _ _ (fun _ _ => ?_)).trans ?_ | (dsimp only; first | split | with_reducible refine (State.regs_setA_foldl _ _ _ (fun _ _ => ?_)).trans ?_ | with_reducible refine (State.regs_setB_foldl _ _ _ (fun _ _ => ?_)).trans ?_ | with_reducible refine (State.regs_one_foldl _ _ _ (fun _ _ => ?_)).trans ?_ | with_reducible refine (State.regs_rsvd_foldl _ _ _ (fun _ _ => ?_)).trans ?_ | with_reducible refine (State.regs_waiting_foldl _ _ _ (fun _ _ => ?_)).trans ?_ | with_reducible refine (State.regs_stale_foldl _ _ _ (fun _ _ => ?_)).trans ?_ | with_reducible refine (State.regs_posted_foldl _ _ _ (fun _ _ => ?_)).trans ?_ | with_reducible refine (State.fd_mem_foldl _ _ _ (fun _ _ => ?_)).trans ?_ | with_reducible refine (State.dm_sram_foldl _ _ _ (fun _ _ => ?_)).trans ?_ | with_reducible refine (State.sq_frameNo_foldl _ _ _ (fun _ _ => ?_)).trans ?_ | with_reducible refine (State.sq_inScan_foldl _ _ _ (fun _ _ => ?_)).trans ?_ | with_reducible refine (State.sq_nextBoundary_foldl _ _ _ (fun _ _ => ?_)).trans ?_ | with_reducible refine (State.pw_gate_foldl _ _ _ (fun _ _ => ?_)).trans ?_)))

@[simp] theorem State.quadCheck_parts (s : State) (q : Nat) :
    (s.quadCheck q).regs.setA = s.regs.setA ∧ (s.quadCheck q).regs.setB = s.regs.setB ∧
    (s.quadCheck q).regs.one = s.regs.one ∧ (s.quadCheck q).regs.rsvd = s.regs.rsvd ∧
    (s.quadCheck q).regs.waiting = s.regs.waiting ∧ (s.quadCheck q).regs.stale = s.regs.stale ∧
    (s.quadCheck q).regs.posted = s.regs.posted := by
  and_intros <;> (unfold State.quadCheck; repeat' (first | with_reducible rfl | (simp; done) | split | with_reducible refine (State.regs_setA_foldl _ _ _ (fun _ _ => ?_)).trans ?_ | with_reducible refine (State.regs_setB_foldl _ _ _ (fun _ _ => ?_)).trans ?_ | with_reducible refine (State.regs_one_foldl _ _ _ (fun _ _ => ?_)).trans ?_ | with_reducible refine (State.regs_rsvd_foldl _ _ _ (fun _ _ => ?_)).trans ?_ | with_reducible refine (State.regs_waiting_foldl _ _ _ (fun _ _ => ?_)).trans ?_ | with_reducible refine (State.regs_stale_foldl _ _ _ (fun _ _ => ?_)).trans ?_ | with_reducible refine (State.regs_posted_foldl _ _ _ (fun _ _ => ?_)).trans ?_ | with_reducible refine (State.fd_mem_foldl _ _ _ (fun _ _ => ?_)).trans ?_ | with_reducible refine (State.dm_sram_foldl _ _ _ (fun _ _ => ?_)).trans ?_ | with_reducible refine (State.sq_frameNo_foldl _ _ _ (fun _ _ => ?_)).trans ?_ | with_reducible refine (State.sq_inScan_foldl _ _ _ (fun _ _ => ?_)).trans ?_ | with_reducible refine (State.sq_nextBoundary_foldl _ _ _ (fun _ _ => ?_)).trans ?_ | with_reducible refine (State.pw_gate_foldl _ _ _ (fun _ _ => ?_)).trans ?_ | (dsimp only; first | split | with_reducible refine (State.regs_setA_foldl _ _ _ (fun _ _ => ?_)).trans ?_ | with_reducible refine (State.regs_setB_foldl _ _ _ (fun _ _ => ?_)).trans ?_ | with_reducible refine (State.regs_one_foldl _ _ _ (fun _ _ => ?_)).trans ?_ | with_reducible refine (State.regs_rsvd_foldl _ _ _ (fun _ _ => ?_)).trans ?_ | with_reducible refine (State.regs_waiting_foldl _ _ _ (fun _ _ => ?_)).trans ?_ | with_reducible refine (State.regs_stale_foldl _ _ _ (fun _ _ => ?_)).trans ?_ | with_reducible refine (State.regs_posted_foldl _ _ _ (fun _ _ => ?_)).trans ?_ | with_reducible refine (State.fd_mem_foldl _ _ _ (fun _ _ => ?_)).trans ?_ | with_reducible refine (State.dm_sram_foldl _ _ _ (fun _ _ => ?_)).trans ?_ | with_reducible refine (State.sq_frameNo_foldl _ _ _ (fun _ _ => ?_)).trans ?_ | with_reducible refine (State.sq_inScan_foldl _ _ _ (fun _ _ => ?_)).trans ?_ | with_reducible refine (State.sq_nextBoundary_foldl _ _ _ (fun _ _ => ?_)).trans ?_ | with_reducible refine (State.pw_gate_foldl _ _ _ (fun _ _ => ?_)).trans ?_)))

@[simp] theorem State.applyQuad_parts (s : State) (q : Nat) :
    (s.applyQuad q).regs.one = s.regs.one ∧ (s.applyQuad q).regs.rsvd = s.regs.rsvd ∧
    (s.applyQuad q).regs.posted = s.regs.posted ∧ (s.applyQuad q).sq.frameNo = s.sq.frameNo ∧
    (s.applyQuad q).sq.inScan = s.sq.inScan ∧ (s.applyQuad q).sq.nextBoundary = s.sq.nextBoundary := by
  and_intros <;> (unfold State.applyQuad; repeat' (first | with_reducible rfl | (simp; done) | split | with_reducible refine (State.regs_setA_foldl _ _ _ (fun _ _ => ?_)).trans ?_ | with_reducible refine (State.regs_setB_foldl _ _ _ (fun _ _ => ?_)).trans ?_ | with_reducible refine (State.regs_one_foldl _ _ _ (fun _ _ => ?_)).trans ?_ | with_reducible refine (State.regs_rsvd_foldl _ _ _ (fun _ _ => ?_)).trans ?_ | with_reducible refine (State.regs_waiting_foldl _ _ _ (fun _ _ => ?_)).trans ?_ | with_reducible refine (State.regs_stale_foldl _ _ _ (fun _ _ => ?_)).trans ?_ | with_reducible refine (State.regs_posted_foldl _ _ _ (fun _ _ => ?_)).trans ?_ | with_reducible refine (State.fd_mem_foldl _ _ _ (fun _ _ => ?_)).trans ?_ | with_reducible refine (State.dm_sram_foldl _ _ _ (fun _ _ => ?_)).trans ?_ | with_reducible refine (State.sq_frameNo_foldl _ _ _ (fun _ _ => ?_)).trans ?_ | with_reducible refine (State.sq_inScan_foldl _ _ _ (fun _ _ => ?_)).trans ?_ | with_reducible refine (State.sq_nextBoundary_foldl _ _ _ (fun _ _ => ?_)).trans ?_ | with_reducible refine (State.pw_gate_foldl _ _ _ (fun _ _ => ?_)).trans ?_ | (dsimp only; first | split | with_reducible refine (State.regs_setA_foldl _ _ _ (fun _ _ => ?_)).trans ?_ | with_reducible refine (State.regs_setB_foldl _ _ _ (fun _ _ => ?_)).trans ?_ | with_reducible refine (State.regs_one_foldl _ _ _ (fun _ _ => ?_)).trans ?_ | with_reducible refine (State.regs_rsvd_foldl _ _ _ (fun _ _ => ?_)).trans ?_ | with_reducible refine (State.regs_waiting_foldl _ _ _ (fun _ _ => ?_)).trans ?_ | with_reducible refine (State.regs_stale_foldl _ _ _ (fun _ _ => ?_)).trans ?_ | with_reducible refine (State.regs_posted_foldl _ _ _ (fun _ _ => ?_)).trans ?_ | with_reducible refine (State.fd_mem_foldl _ _ _ (fun _ _ => ?_)).trans ?_ | with_reducible refine (State.dm_sram_foldl _ _ _ (fun _ _ => ?_)).trans ?_ | with_reducible refine (State.sq_frameNo_foldl _ _ _ (fun _ _ => ?_)).trans ?_ | with_reducible refine (State.sq_inScan_foldl _ _ _ (fun _ _ => ?_)).trans ?_ | with_reducible refine (State.sq_nextBoundary_foldl _ _ _ (fun _ _ => ?_)).trans ?_ | with_reducible refine (State.pw_gate_foldl _ _ _ (fun _ _ => ?_)).trans ?_)))

@[simp] theorem State.applyTraining_parts (s : State) (l : Nat) :
    (s.applyTraining l).regs.one = s.regs.one ∧ (s.applyTraining l).regs.rsvd = s.regs.rsvd ∧
    (s.applyTraining l).regs.posted = s.regs.posted ∧ (s.applyTraining l).sq.frameNo = s.sq.frameNo ∧
    (s.applyTraining l).sq.inScan = s.sq.inScan ∧ (s.applyTraining l).sq.nextBoundary = s.sq.nextBoundary := by
  and_intros <;> (unfold State.applyTraining; repeat' (first | with_reducible rfl | (simp; done) | split | with_reducible refine (State.regs_setA_foldl _ _ _ (fun _ _ => ?_)).trans ?_ | with_reducible refine (State.regs_setB_foldl _ _ _ (fun _ _ => ?_)).trans ?_ | with_reducible refine (State.regs_one_foldl _ _ _ (fun _ _ => ?_)).trans ?_ | with_reducible refine (State.regs_rsvd_foldl _ _ _ (fun _ _ => ?_)).trans ?_ | with_reducible refine (State.regs_waiting_foldl _ _ _ (fun _ _ => ?_)).trans ?_ | with_reducible refine (State.regs_stale_foldl _ _ _ (fun _ _ => ?_)).trans ?_ | with_reducible refine (State.regs_posted_foldl _ _ _ (fun _ _ => ?_)).trans ?_ | with_reducible refine (State.fd_mem_foldl _ _ _ (fun _ _ => ?_)).trans ?_ | with_reducible refine (State.dm_sram_foldl _ _ _ (fun _ _ => ?_)).trans ?_ | with_reducible refine (State.sq_frameNo_foldl _ _ _ (fun _ _ => ?_)).trans ?_ | with_reducible refine (State.sq_inScan_foldl _ _ _ (fun _ _ => ?_)).trans ?_ | with_reducible refine (State.sq_nextBoundary_foldl _ _ _ (fun _ _ => ?_)).trans ?_ | with_reducible refine (State.pw_gate_foldl _ _ _ (fun _ _ => ?_)).trans ?_ | (dsimp only; first | split | with_reducible refine (State.regs_setA_foldl _ _ _ (fun _ _ => ?_)).trans ?_ | with_reducible refine (State.regs_setB_foldl _ _ _ (fun _ _ => ?_)).trans ?_ | with_reducible refine (State.regs_one_foldl _ _ _ (fun _ _ => ?_)).trans ?_ | with_reducible refine (State.regs_rsvd_foldl _ _ _ (fun _ _ => ?_)).trans ?_ | with_reducible refine (State.regs_waiting_foldl _ _ _ (fun _ _ => ?_)).trans ?_ | with_reducible refine (State.regs_stale_foldl _ _ _ (fun _ _ => ?_)).trans ?_ | with_reducible refine (State.regs_posted_foldl _ _ _ (fun _ _ => ?_)).trans ?_ | with_reducible refine (State.fd_mem_foldl _ _ _ (fun _ _ => ?_)).trans ?_ | with_reducible refine (State.dm_sram_foldl _ _ _ (fun _ _ => ?_)).trans ?_ | with_reducible refine (State.sq_frameNo_foldl _ _ _ (fun _ _ => ?_)).trans ?_ | with_reducible refine (State.sq_inScan_foldl _ _ _ (fun _ _ => ?_)).trans ?_ | with_reducible refine (State.sq_nextBoundary_foldl _ _ _ (fun _ _ => ?_)).trans ?_ | with_reducible refine (State.pw_gate_foldl _ _ _ (fun _ _ => ?_)).trans ?_)))

@[simp] theorem State.enabled_parts (s : State) (l : Nat) :
    (s.enabled l).regs.setA = s.regs.setA ∧ (s.enabled l).regs.setB = s.regs.setB ∧ (s.enabled l).regs.one = s.regs.one ∧
    (s.enabled l).regs.rsvd = s.regs.rsvd ∧ (s.enabled l).regs.waiting = s.regs.waiting ∧
    (s.enabled l).regs.stale = s.regs.stale ∧ (s.enabled l).regs.posted = s.regs.posted ∧ (s.enabled l).dm.sram = s.dm.sram := by
  and_intros <;> (unfold State.enabled; repeat' (first | with_reducible rfl | (simp; done) | split | with_reducible refine (State.regs_setA_foldl _ _ _ (fun _ _ => ?_)).trans ?_ | with_reducible refine (State.regs_setB_foldl _ _ _ (fun _ _ => ?_)).trans ?_ | with_reducible refine (State.regs_one_foldl _ _ _ (fun _ _ => ?_)).trans ?_ | with_reducible refine (State.regs_rsvd_foldl _ _ _ (fun _ _ => ?_)).trans ?_ | with_reducible refine (State.regs_waiting_foldl _ _ _ (fun _ _ => ?_)).trans ?_ | with_reducible refine (State.regs_stale_foldl _ _ _ (fun _ _ => ?_)).trans ?_ | with_reducible refine (State.regs_posted_foldl _ _ _ (fun _ _ => ?_)).trans ?_ | with_reducible refine (State.fd_mem_foldl _ _ _ (fun _ _ => ?_)).trans ?_ | with_reducible refine (State.dm_sram_foldl _ _ _ (fun _ _ => ?_)).trans ?_ | with_reducible refine (State.sq_frameNo_foldl _ _ _ (fun _ _ => ?_)).trans ?_ | with_reducible refine (State.sq_inScan_foldl _ _ _ (fun _ _ => ?_)).trans ?_ | with_reducible refine (State.sq_nextBoundary_foldl _ _ _ (fun _ _ => ?_)).trans ?_ | with_reducible refine (State.pw_gate_foldl _ _ _ (fun _ _ => ?_)).trans ?_ | (dsimp only; first | split | with_reducible refine (State.regs_setA_foldl _ _ _ (fun _ _ => ?_)).trans ?_ | with_reducible refine (State.regs_setB_foldl _ _ _ (fun _ _ => ?_)).trans ?_ | with_reducible refine (State.regs_one_foldl _ _ _ (fun _ _ => ?_)).trans ?_ | with_reducible refine (State.regs_rsvd_foldl _ _ _ (fun _ _ => ?_)).trans ?_ | with_reducible refine (State.regs_waiting_foldl _ _ _ (fun _ _ => ?_)).trans ?_ | with_reducible refine (State.regs_stale_foldl _ _ _ (fun _ _ => ?_)).trans ?_ | with_reducible refine (State.regs_posted_foldl _ _ _ (fun _ _ => ?_)).trans ?_ | with_reducible refine (State.fd_mem_foldl _ _ _ (fun _ _ => ?_)).trans ?_ | with_reducible refine (State.dm_sram_foldl _ _ _ (fun _ _ => ?_)).trans ?_ | with_reducible refine (State.sq_frameNo_foldl _ _ _ (fun _ _ => ?_)).trans ?_ | with_reducible refine (State.sq_inScan_foldl _ _ _ (fun _ _ => ?_)).trans ?_ | with_reducible refine (State.sq_nextBoundary_foldl _ _ _ (fun _ _ => ?_)).trans ?_ | with_reducible refine (State.pw_gate_foldl _ _ _ (fun _ _ => ?_)).trans ?_)))

@[simp] theorem State.train_parts (s : State) (lanes : List Nat) :
    (s.train lanes).regs.one = s.regs.one ∧ (s.train lanes).regs.rsvd = s.regs.rsvd ∧
    (s.train lanes).regs.posted = s.regs.posted ∧ (s.train lanes).dm.sram = s.dm.sram ∧
    (s.train lanes).sq.frameNo = s.sq.frameNo ∧ (s.train lanes).sq.inScan = s.sq.inScan ∧
    (s.train lanes).sq.nextBoundary = s.sq.nextBoundary := by
  and_intros <;> (unfold State.train; repeat' (first | with_reducible rfl | (simp; done) | split | with_reducible refine (State.regs_setA_foldl _ _ _ (fun _ _ => ?_)).trans ?_ | with_reducible refine (State.regs_setB_foldl _ _ _ (fun _ _ => ?_)).trans ?_ | with_reducible refine (State.regs_one_foldl _ _ _ (fun _ _ => ?_)).trans ?_ | with_reducible refine (State.regs_rsvd_foldl _ _ _ (fun _ _ => ?_)).trans ?_ | with_reducible refine (State.regs_waiting_foldl _ _ _ (fun _ _ => ?_)).trans ?_ | with_reducible refine (State.regs_stale_foldl _ _ _ (fun _ _ => ?_)).trans ?_ | with_reducible refine (State.regs_posted_foldl _ _ _ (fun _ _ => ?_)).trans ?_ | with_reducible refine (State.fd_mem_foldl _ _ _ (fun _ _ => ?_)).trans ?_ | with_reducible refine (State.dm_sram_foldl _ _ _ (fun _ _ => ?_)).trans ?_ | with_reducible refine (State.sq_frameNo_foldl _ _ _ (fun _ _ => ?_)).trans ?_ | with_reducible refine (State.sq_inScan_foldl _ _ _ (fun _ _ => ?_)).trans ?_ | with_reducible refine (State.sq_nextBoundary_foldl _ _ _ (fun _ _ => ?_)).trans ?_ | with_reducible refine (State.pw_gate_foldl _ _ _ (fun _ _ => ?_)).trans ?_ | (dsimp only; first | split | with_reducible refine (State.regs_setA_foldl _ _ _ (fun _ _ => ?_)).trans ?_ | with_reducible refine (State.regs_setB_foldl _ _ _ (fun _ _ => ?_)).trans ?_ | with_reducible refine (State.regs_one_foldl _ _ _ (fun _ _ => ?_)).trans ?_ | with_reducible refine (State.regs_rsvd_foldl _ _ _ (fun _ _ => ?_)).trans ?_ | with_reducible refine (State.regs_waiting_foldl _ _ _ (fun _ _ => ?_)).trans ?_ | with_reducible refine (State.regs_stale_foldl _ _ _ (fun _ _ => ?_)).trans ?_ | with_reducible refine (State.regs_posted_foldl _ _ _ (fun _ _ => ?_)).trans ?_ | with_reducible refine (State.fd_mem_foldl _ _ _ (fun _ _ => ?_)).trans ?_ | with_reducible refine (State.dm_sram_foldl _ _ _ (fun _ _ => ?_)).trans ?_ | with_reducible refine (State.sq_frameNo_foldl _ _ _ (fun _ _ => ?_)).trans ?_ | with_reducible refine (State.sq_inScan_foldl _ _ _ (fun _ _ => ?_)).trans ?_ | with_reducible refine (State.sq_nextBoundary_foldl _ _ _ (fun _ _ => ?_)).trans ?_ | with_reducible refine (State.pw_gate_foldl _ _ _ (fun _ _ => ?_)).trans ?_)))

@[simp] theorem State.laneEnable_parts (s : State) (l : Nat) :
    (s.laneEnable l).regs.one = s.regs.one ∧ (s.laneEnable l).regs.rsvd = s.regs.rsvd ∧
    (s.laneEnable l).regs.posted = s.regs.posted ∧ (s.laneEnable l).dm.sram = s.dm.sram ∧
    (s.laneEnable l).sq.frameNo = s.sq.frameNo ∧ (s.laneEnable l).sq.inScan = s.sq.inScan ∧
    (s.laneEnable l).sq.nextBoundary = s.sq.nextBoundary := by
  and_intros <;> (unfold State.laneEnable; repeat' (first | with_reducible rfl | (simp; done) | split | with_reducible refine (State.regs_setA_foldl _ _ _ (fun _ _ => ?_)).trans ?_ | with_reducible refine (State.regs_setB_foldl _ _ _ (fun _ _ => ?_)).trans ?_ | with_reducible refine (State.regs_one_foldl _ _ _ (fun _ _ => ?_)).trans ?_ | with_reducible refine (State.regs_rsvd_foldl _ _ _ (fun _ _ => ?_)).trans ?_ | with_reducible refine (State.regs_waiting_foldl _ _ _ (fun _ _ => ?_)).trans ?_ | with_reducible refine (State.regs_stale_foldl _ _ _ (fun _ _ => ?_)).trans ?_ | with_reducible refine (State.regs_posted_foldl _ _ _ (fun _ _ => ?_)).trans ?_ | with_reducible refine (State.fd_mem_foldl _ _ _ (fun _ _ => ?_)).trans ?_ | with_reducible refine (State.dm_sram_foldl _ _ _ (fun _ _ => ?_)).trans ?_ | with_reducible refine (State.sq_frameNo_foldl _ _ _ (fun _ _ => ?_)).trans ?_ | with_reducible refine (State.sq_inScan_foldl _ _ _ (fun _ _ => ?_)).trans ?_ | with_reducible refine (State.sq_nextBoundary_foldl _ _ _ (fun _ _ => ?_)).trans ?_ | with_reducible refine (State.pw_gate_foldl _ _ _ (fun _ _ => ?_)).trans ?_ | (dsimp only; first | split | with_reducible refine (State.regs_setA_foldl _ _ _ (fun _ _ => ?_)).trans ?_ | with_reducible refine (State.regs_setB_foldl _ _ _ (fun _ _ => ?_)).trans ?_ | with_reducible refine (State.regs_one_foldl _ _ _ (fun _ _ => ?_)).trans ?_ | with_reducible refine (State.regs_rsvd_foldl _ _ _ (fun _ _ => ?_)).trans ?_ | with_reducible refine (State.regs_waiting_foldl _ _ _ (fun _ _ => ?_)).trans ?_ | with_reducible refine (State.regs_stale_foldl _ _ _ (fun _ _ => ?_)).trans ?_ | with_reducible refine (State.regs_posted_foldl _ _ _ (fun _ _ => ?_)).trans ?_ | with_reducible refine (State.fd_mem_foldl _ _ _ (fun _ _ => ?_)).trans ?_ | with_reducible refine (State.dm_sram_foldl _ _ _ (fun _ _ => ?_)).trans ?_ | with_reducible refine (State.sq_frameNo_foldl _ _ _ (fun _ _ => ?_)).trans ?_ | with_reducible refine (State.sq_inScan_foldl _ _ _ (fun _ _ => ?_)).trans ?_ | with_reducible refine (State.sq_nextBoundary_foldl _ _ _ (fun _ _ => ?_)).trans ?_ | with_reducible refine (State.pw_gate_foldl _ _ _ (fun _ _ => ?_)).trans ?_)))

@[simp] theorem State.receiveBits_parts (s : State) (l : Nat) (line : List Bool) :
    (s.receiveBits l line).1.regs.setA = s.regs.setA ∧ (s.receiveBits l line).1.regs.setB = s.regs.setB ∧
    (s.receiveBits l line).1.regs.one = s.regs.one ∧ (s.receiveBits l line).1.regs.rsvd = s.regs.rsvd ∧
    (s.receiveBits l line).1.regs.waiting = s.regs.waiting ∧ (s.receiveBits l line).1.regs.stale = s.regs.stale ∧
    (s.receiveBits l line).1.regs.posted = s.regs.posted := by
  and_intros <;> (unfold State.receiveBits; repeat' (first | with_reducible rfl | (simp; done) | split | with_reducible refine (State.regs_setA_foldl _ _ _ (fun _ _ => ?_)).trans ?_ | with_reducible refine (State.regs_setB_foldl _ _ _ (fun _ _ => ?_)).trans ?_ | with_reducible refine (State.regs_one_foldl _ _ _ (fun _ _ => ?_)).trans ?_ | with_reducible refine (State.regs_rsvd_foldl _ _ _ (fun _ _ => ?_)).trans ?_ | with_reducible refine (State.regs_waiting_foldl _ _ _ (fun _ _ => ?_)).trans ?_ | with_reducible refine (State.regs_stale_foldl _ _ _ (fun _ _ => ?_)).trans ?_ | with_reducible refine (State.regs_posted_foldl _ _ _ (fun _ _ => ?_)).trans ?_ | with_reducible refine (State.fd_mem_foldl _ _ _ (fun _ _ => ?_)).trans ?_ | with_reducible refine (State.dm_sram_foldl _ _ _ (fun _ _ => ?_)).trans ?_ | with_reducible refine (State.sq_frameNo_foldl _ _ _ (fun _ _ => ?_)).trans ?_ | with_reducible refine (State.sq_inScan_foldl _ _ _ (fun _ _ => ?_)).trans ?_ | with_reducible refine (State.sq_nextBoundary_foldl _ _ _ (fun _ _ => ?_)).trans ?_ | with_reducible refine (State.pw_gate_foldl _ _ _ (fun _ _ => ?_)).trans ?_ | (dsimp only; first | split | with_reducible refine (State.regs_setA_foldl _ _ _ (fun _ _ => ?_)).trans ?_ | with_reducible refine (State.regs_setB_foldl _ _ _ (fun _ _ => ?_)).trans ?_ | with_reducible refine (State.regs_one_foldl _ _ _ (fun _ _ => ?_)).trans ?_ | with_reducible refine (State.regs_rsvd_foldl _ _ _ (fun _ _ => ?_)).trans ?_ | with_reducible refine (State.regs_waiting_foldl _ _ _ (fun _ _ => ?_)).trans ?_ | with_reducible refine (State.regs_stale_foldl _ _ _ (fun _ _ => ?_)).trans ?_ | with_reducible refine (State.regs_posted_foldl _ _ _ (fun _ _ => ?_)).trans ?_ | with_reducible refine (State.fd_mem_foldl _ _ _ (fun _ _ => ?_)).trans ?_ | with_reducible refine (State.dm_sram_foldl _ _ _ (fun _ _ => ?_)).trans ?_ | with_reducible refine (State.sq_frameNo_foldl _ _ _ (fun _ _ => ?_)).trans ?_ | with_reducible refine (State.sq_inScan_foldl _ _ _ (fun _ _ => ?_)).trans ?_ | with_reducible refine (State.sq_nextBoundary_foldl _ _ _ (fun _ _ => ?_)).trans ?_ | with_reducible refine (State.pw_gate_foldl _ _ _ (fun _ _ => ?_)).trans ?_)))

@[simp] theorem State.laneMismatch_parts (s : State) (l why : Nat) :
    (s.laneMismatch l why).regs.setA = s.regs.setA ∧ (s.laneMismatch l why).regs.setB = s.regs.setB ∧
    (s.laneMismatch l why).regs.one = s.regs.one ∧ (s.laneMismatch l why).regs.rsvd = s.regs.rsvd ∧
    (s.laneMismatch l why).regs.waiting = s.regs.waiting ∧ (s.laneMismatch l why).regs.stale = s.regs.stale ∧
    (s.laneMismatch l why).regs.posted = s.regs.posted := by
  and_intros <;> (unfold State.laneMismatch; repeat' (first | with_reducible rfl | (simp; done) | split | with_reducible refine (State.regs_setA_foldl _ _ _ (fun _ _ => ?_)).trans ?_ | with_reducible refine (State.regs_setB_foldl _ _ _ (fun _ _ => ?_)).trans ?_ | with_reducible refine (State.regs_one_foldl _ _ _ (fun _ _ => ?_)).trans ?_ | with_reducible refine (State.regs_rsvd_foldl _ _ _ (fun _ _ => ?_)).trans ?_ | with_reducible refine (State.regs_waiting_foldl _ _ _ (fun _ _ => ?_)).trans ?_ | with_reducible refine (State.regs_stale_foldl _ _ _ (fun _ _ => ?_)).trans ?_ | with_reducible refine (State.regs_posted_foldl _ _ _ (fun _ _ => ?_)).trans ?_ | with_reducible refine (State.fd_mem_foldl _ _ _ (fun _ _ => ?_)).trans ?_ | with_reducible refine (State.dm_sram_foldl _ _ _ (fun _ _ => ?_)).trans ?_ | with_reducible refine (State.sq_frameNo_foldl _ _ _ (fun _ _ => ?_)).trans ?_ | with_reducible refine (State.sq_inScan_foldl _ _ _ (fun _ _ => ?_)).trans ?_ | with_reducible refine (State.sq_nextBoundary_foldl _ _ _ (fun _ _ => ?_)).trans ?_ | with_reducible refine (State.pw_gate_foldl _ _ _ (fun _ _ => ?_)).trans ?_ | (dsimp only; first | split | with_reducible refine (State.regs_setA_foldl _ _ _ (fun _ _ => ?_)).trans ?_ | with_reducible refine (State.regs_setB_foldl _ _ _ (fun _ _ => ?_)).trans ?_ | with_reducible refine (State.regs_one_foldl _ _ _ (fun _ _ => ?_)).trans ?_ | with_reducible refine (State.regs_rsvd_foldl _ _ _ (fun _ _ => ?_)).trans ?_ | with_reducible refine (State.regs_waiting_foldl _ _ _ (fun _ _ => ?_)).trans ?_ | with_reducible refine (State.regs_stale_foldl _ _ _ (fun _ _ => ?_)).trans ?_ | with_reducible refine (State.regs_posted_foldl _ _ _ (fun _ _ => ?_)).trans ?_ | with_reducible refine (State.fd_mem_foldl _ _ _ (fun _ _ => ?_)).trans ?_ | with_reducible refine (State.dm_sram_foldl _ _ _ (fun _ _ => ?_)).trans ?_ | with_reducible refine (State.sq_frameNo_foldl _ _ _ (fun _ _ => ?_)).trans ?_ | with_reducible refine (State.sq_inScan_foldl _ _ _ (fun _ _ => ?_)).trans ?_ | with_reducible refine (State.sq_nextBoundary_foldl _ _ _ (fun _ _ => ?_)).trans ?_ | with_reducible refine (State.pw_gate_foldl _ _ _ (fun _ _ => ?_)).trans ?_)))

@[simp] theorem State.lanesUp_parts (s : State) (lanes : List Nat) :
    (s.lanesUp lanes).regs.setA = s.regs.setA ∧ (s.lanesUp lanes).regs.setB = s.regs.setB ∧
    (s.lanesUp lanes).regs.one = s.regs.one ∧ (s.lanesUp lanes).regs.rsvd = s.regs.rsvd ∧
    (s.lanesUp lanes).regs.waiting = s.regs.waiting ∧ (s.lanesUp lanes).regs.stale = s.regs.stale ∧
    (s.lanesUp lanes).regs.posted = s.regs.posted ∧ (s.lanesUp lanes).dm.sram = s.dm.sram := by
  and_intros <;> (unfold State.lanesUp; repeat' (first | with_reducible rfl | (simp; done) | split | with_reducible refine (State.regs_setA_foldl _ _ _ (fun _ _ => ?_)).trans ?_ | with_reducible refine (State.regs_setB_foldl _ _ _ (fun _ _ => ?_)).trans ?_ | with_reducible refine (State.regs_one_foldl _ _ _ (fun _ _ => ?_)).trans ?_ | with_reducible refine (State.regs_rsvd_foldl _ _ _ (fun _ _ => ?_)).trans ?_ | with_reducible refine (State.regs_waiting_foldl _ _ _ (fun _ _ => ?_)).trans ?_ | with_reducible refine (State.regs_stale_foldl _ _ _ (fun _ _ => ?_)).trans ?_ | with_reducible refine (State.regs_posted_foldl _ _ _ (fun _ _ => ?_)).trans ?_ | with_reducible refine (State.fd_mem_foldl _ _ _ (fun _ _ => ?_)).trans ?_ | with_reducible refine (State.dm_sram_foldl _ _ _ (fun _ _ => ?_)).trans ?_ | with_reducible refine (State.sq_frameNo_foldl _ _ _ (fun _ _ => ?_)).trans ?_ | with_reducible refine (State.sq_inScan_foldl _ _ _ (fun _ _ => ?_)).trans ?_ | with_reducible refine (State.sq_nextBoundary_foldl _ _ _ (fun _ _ => ?_)).trans ?_ | with_reducible refine (State.pw_gate_foldl _ _ _ (fun _ _ => ?_)).trans ?_ | (dsimp only; first | split | with_reducible refine (State.regs_setA_foldl _ _ _ (fun _ _ => ?_)).trans ?_ | with_reducible refine (State.regs_setB_foldl _ _ _ (fun _ _ => ?_)).trans ?_ | with_reducible refine (State.regs_one_foldl _ _ _ (fun _ _ => ?_)).trans ?_ | with_reducible refine (State.regs_rsvd_foldl _ _ _ (fun _ _ => ?_)).trans ?_ | with_reducible refine (State.regs_waiting_foldl _ _ _ (fun _ _ => ?_)).trans ?_ | with_reducible refine (State.regs_stale_foldl _ _ _ (fun _ _ => ?_)).trans ?_ | with_reducible refine (State.regs_posted_foldl _ _ _ (fun _ _ => ?_)).trans ?_ | with_reducible refine (State.fd_mem_foldl _ _ _ (fun _ _ => ?_)).trans ?_ | with_reducible refine (State.dm_sram_foldl _ _ _ (fun _ _ => ?_)).trans ?_ | with_reducible refine (State.sq_frameNo_foldl _ _ _ (fun _ _ => ?_)).trans ?_ | with_reducible refine (State.sq_inScan_foldl _ _ _ (fun _ _ => ?_)).trans ?_ | with_reducible refine (State.sq_nextBoundary_foldl _ _ _ (fun _ _ => ?_)).trans ?_ | with_reducible refine (State.pw_gate_foldl _ _ _ (fun _ _ => ?_)).trans ?_)))

@[simp] theorem State.laneRetrain_parts (s : State) (l : Nat) :
    (s.laneRetrain l).regs.one = s.regs.one ∧ (s.laneRetrain l).regs.rsvd = s.regs.rsvd ∧
    (s.laneRetrain l).regs.posted = s.regs.posted ∧ (s.laneRetrain l).dm.sram = s.dm.sram ∧
    (s.laneRetrain l).sq.frameNo = s.sq.frameNo ∧ (s.laneRetrain l).sq.inScan = s.sq.inScan ∧
    (s.laneRetrain l).sq.nextBoundary = s.sq.nextBoundary := by
  and_intros <;> (unfold State.laneRetrain; repeat' (first | with_reducible rfl | (simp; done) | split | with_reducible refine (State.regs_setA_foldl _ _ _ (fun _ _ => ?_)).trans ?_ | with_reducible refine (State.regs_setB_foldl _ _ _ (fun _ _ => ?_)).trans ?_ | with_reducible refine (State.regs_one_foldl _ _ _ (fun _ _ => ?_)).trans ?_ | with_reducible refine (State.regs_rsvd_foldl _ _ _ (fun _ _ => ?_)).trans ?_ | with_reducible refine (State.regs_waiting_foldl _ _ _ (fun _ _ => ?_)).trans ?_ | with_reducible refine (State.regs_stale_foldl _ _ _ (fun _ _ => ?_)).trans ?_ | with_reducible refine (State.regs_posted_foldl _ _ _ (fun _ _ => ?_)).trans ?_ | with_reducible refine (State.fd_mem_foldl _ _ _ (fun _ _ => ?_)).trans ?_ | with_reducible refine (State.dm_sram_foldl _ _ _ (fun _ _ => ?_)).trans ?_ | with_reducible refine (State.sq_frameNo_foldl _ _ _ (fun _ _ => ?_)).trans ?_ | with_reducible refine (State.sq_inScan_foldl _ _ _ (fun _ _ => ?_)).trans ?_ | with_reducible refine (State.sq_nextBoundary_foldl _ _ _ (fun _ _ => ?_)).trans ?_ | with_reducible refine (State.pw_gate_foldl _ _ _ (fun _ _ => ?_)).trans ?_ | (dsimp only; first | split | with_reducible refine (State.regs_setA_foldl _ _ _ (fun _ _ => ?_)).trans ?_ | with_reducible refine (State.regs_setB_foldl _ _ _ (fun _ _ => ?_)).trans ?_ | with_reducible refine (State.regs_one_foldl _ _ _ (fun _ _ => ?_)).trans ?_ | with_reducible refine (State.regs_rsvd_foldl _ _ _ (fun _ _ => ?_)).trans ?_ | with_reducible refine (State.regs_waiting_foldl _ _ _ (fun _ _ => ?_)).trans ?_ | with_reducible refine (State.regs_stale_foldl _ _ _ (fun _ _ => ?_)).trans ?_ | with_reducible refine (State.regs_posted_foldl _ _ _ (fun _ _ => ?_)).trans ?_ | with_reducible refine (State.fd_mem_foldl _ _ _ (fun _ _ => ?_)).trans ?_ | with_reducible refine (State.dm_sram_foldl _ _ _ (fun _ _ => ?_)).trans ?_ | with_reducible refine (State.sq_frameNo_foldl _ _ _ (fun _ _ => ?_)).trans ?_ | with_reducible refine (State.sq_inScan_foldl _ _ _ (fun _ _ => ?_)).trans ?_ | with_reducible refine (State.sq_nextBoundary_foldl _ _ _ (fun _ _ => ?_)).trans ?_ | with_reducible refine (State.pw_gate_foldl _ _ _ (fun _ _ => ?_)).trans ?_)))

@[simp] theorem State.laneLoss_parts (s : State) (l : Nat) :
    (s.laneLoss l).regs.setA = s.regs.setA ∧ (s.laneLoss l).regs.setB = s.regs.setB ∧ (s.laneLoss l).regs.one = s.regs.one ∧
    (s.laneLoss l).regs.rsvd = s.regs.rsvd ∧ (s.laneLoss l).regs.waiting = s.regs.waiting ∧
    (s.laneLoss l).regs.stale = s.regs.stale ∧ (s.laneLoss l).regs.posted = s.regs.posted := by
  and_intros <;> (unfold State.laneLoss; repeat' (first | with_reducible rfl | (simp; done) | split | with_reducible refine (State.regs_setA_foldl _ _ _ (fun _ _ => ?_)).trans ?_ | with_reducible refine (State.regs_setB_foldl _ _ _ (fun _ _ => ?_)).trans ?_ | with_reducible refine (State.regs_one_foldl _ _ _ (fun _ _ => ?_)).trans ?_ | with_reducible refine (State.regs_rsvd_foldl _ _ _ (fun _ _ => ?_)).trans ?_ | with_reducible refine (State.regs_waiting_foldl _ _ _ (fun _ _ => ?_)).trans ?_ | with_reducible refine (State.regs_stale_foldl _ _ _ (fun _ _ => ?_)).trans ?_ | with_reducible refine (State.regs_posted_foldl _ _ _ (fun _ _ => ?_)).trans ?_ | with_reducible refine (State.fd_mem_foldl _ _ _ (fun _ _ => ?_)).trans ?_ | with_reducible refine (State.dm_sram_foldl _ _ _ (fun _ _ => ?_)).trans ?_ | with_reducible refine (State.sq_frameNo_foldl _ _ _ (fun _ _ => ?_)).trans ?_ | with_reducible refine (State.sq_inScan_foldl _ _ _ (fun _ _ => ?_)).trans ?_ | with_reducible refine (State.sq_nextBoundary_foldl _ _ _ (fun _ _ => ?_)).trans ?_ | with_reducible refine (State.pw_gate_foldl _ _ _ (fun _ _ => ?_)).trans ?_ | (dsimp only; first | split | with_reducible refine (State.regs_setA_foldl _ _ _ (fun _ _ => ?_)).trans ?_ | with_reducible refine (State.regs_setB_foldl _ _ _ (fun _ _ => ?_)).trans ?_ | with_reducible refine (State.regs_one_foldl _ _ _ (fun _ _ => ?_)).trans ?_ | with_reducible refine (State.regs_rsvd_foldl _ _ _ (fun _ _ => ?_)).trans ?_ | with_reducible refine (State.regs_waiting_foldl _ _ _ (fun _ _ => ?_)).trans ?_ | with_reducible refine (State.regs_stale_foldl _ _ _ (fun _ _ => ?_)).trans ?_ | with_reducible refine (State.regs_posted_foldl _ _ _ (fun _ _ => ?_)).trans ?_ | with_reducible refine (State.fd_mem_foldl _ _ _ (fun _ _ => ?_)).trans ?_ | with_reducible refine (State.dm_sram_foldl _ _ _ (fun _ _ => ?_)).trans ?_ | with_reducible refine (State.sq_frameNo_foldl _ _ _ (fun _ _ => ?_)).trans ?_ | with_reducible refine (State.sq_inScan_foldl _ _ _ (fun _ _ => ?_)).trans ?_ | with_reducible refine (State.sq_nextBoundary_foldl _ _ _ (fun _ _ => ?_)).trans ?_ | with_reducible refine (State.pw_gate_foldl _ _ _ (fun _ _ => ?_)).trans ?_)))

@[simp] theorem State.badMarker_parts (s : State) (l : Nat) :
    (s.badMarker l).regs.one = s.regs.one ∧ (s.badMarker l).regs.rsvd = s.regs.rsvd ∧
    (s.badMarker l).regs.posted = s.regs.posted ∧ (s.badMarker l).dm.sram = s.dm.sram ∧
    (s.badMarker l).sq.frameNo = s.sq.frameNo ∧ (s.badMarker l).sq.inScan = s.sq.inScan ∧
    (s.badMarker l).sq.nextBoundary = s.sq.nextBoundary := by
  and_intros <;> (unfold State.badMarker; repeat' (first | with_reducible rfl | (simp; done) | split | with_reducible refine (State.regs_setA_foldl _ _ _ (fun _ _ => ?_)).trans ?_ | with_reducible refine (State.regs_setB_foldl _ _ _ (fun _ _ => ?_)).trans ?_ | with_reducible refine (State.regs_one_foldl _ _ _ (fun _ _ => ?_)).trans ?_ | with_reducible refine (State.regs_rsvd_foldl _ _ _ (fun _ _ => ?_)).trans ?_ | with_reducible refine (State.regs_waiting_foldl _ _ _ (fun _ _ => ?_)).trans ?_ | with_reducible refine (State.regs_stale_foldl _ _ _ (fun _ _ => ?_)).trans ?_ | with_reducible refine (State.regs_posted_foldl _ _ _ (fun _ _ => ?_)).trans ?_ | with_reducible refine (State.fd_mem_foldl _ _ _ (fun _ _ => ?_)).trans ?_ | with_reducible refine (State.dm_sram_foldl _ _ _ (fun _ _ => ?_)).trans ?_ | with_reducible refine (State.sq_frameNo_foldl _ _ _ (fun _ _ => ?_)).trans ?_ | with_reducible refine (State.sq_inScan_foldl _ _ _ (fun _ _ => ?_)).trans ?_ | with_reducible refine (State.sq_nextBoundary_foldl _ _ _ (fun _ _ => ?_)).trans ?_ | with_reducible refine (State.pw_gate_foldl _ _ _ (fun _ _ => ?_)).trans ?_ | (dsimp only; first | split | with_reducible refine (State.regs_setA_foldl _ _ _ (fun _ _ => ?_)).trans ?_ | with_reducible refine (State.regs_setB_foldl _ _ _ (fun _ _ => ?_)).trans ?_ | with_reducible refine (State.regs_one_foldl _ _ _ (fun _ _ => ?_)).trans ?_ | with_reducible refine (State.regs_rsvd_foldl _ _ _ (fun _ _ => ?_)).trans ?_ | with_reducible refine (State.regs_waiting_foldl _ _ _ (fun _ _ => ?_)).trans ?_ | with_reducible refine (State.regs_stale_foldl _ _ _ (fun _ _ => ?_)).trans ?_ | with_reducible refine (State.regs_posted_foldl _ _ _ (fun _ _ => ?_)).trans ?_ | with_reducible refine (State.fd_mem_foldl _ _ _ (fun _ _ => ?_)).trans ?_ | with_reducible refine (State.dm_sram_foldl _ _ _ (fun _ _ => ?_)).trans ?_ | with_reducible refine (State.sq_frameNo_foldl _ _ _ (fun _ _ => ?_)).trans ?_ | with_reducible refine (State.sq_inScan_foldl _ _ _ (fun _ _ => ?_)).trans ?_ | with_reducible refine (State.sq_nextBoundary_foldl _ _ _ (fun _ _ => ?_)).trans ?_ | with_reducible refine (State.pw_gate_foldl _ _ _ (fun _ _ => ?_)).trans ?_)))

@[simp] theorem State.elastic_parts (s : State) (l arrived cycles : Nat) :
    (s.elastic l arrived cycles).regs.one = s.regs.one ∧ (s.elastic l arrived cycles).regs.rsvd = s.regs.rsvd ∧
    (s.elastic l arrived cycles).regs.posted = s.regs.posted ∧ (s.elastic l arrived cycles).dm.sram = s.dm.sram ∧
    (s.elastic l arrived cycles).sq.frameNo = s.sq.frameNo ∧ (s.elastic l arrived cycles).sq.inScan = s.sq.inScan ∧
    (s.elastic l arrived cycles).sq.nextBoundary = s.sq.nextBoundary := by
  and_intros <;> (unfold State.elastic; repeat' (first | with_reducible rfl | (simp; done) | split | with_reducible refine (State.regs_setA_foldl _ _ _ (fun _ _ => ?_)).trans ?_ | with_reducible refine (State.regs_setB_foldl _ _ _ (fun _ _ => ?_)).trans ?_ | with_reducible refine (State.regs_one_foldl _ _ _ (fun _ _ => ?_)).trans ?_ | with_reducible refine (State.regs_rsvd_foldl _ _ _ (fun _ _ => ?_)).trans ?_ | with_reducible refine (State.regs_waiting_foldl _ _ _ (fun _ _ => ?_)).trans ?_ | with_reducible refine (State.regs_stale_foldl _ _ _ (fun _ _ => ?_)).trans ?_ | with_reducible refine (State.regs_posted_foldl _ _ _ (fun _ _ => ?_)).trans ?_ | with_reducible refine (State.fd_mem_foldl _ _ _ (fun _ _ => ?_)).trans ?_ | with_reducible refine (State.dm_sram_foldl _ _ _ (fun _ _ => ?_)).trans ?_ | with_reducible refine (State.sq_frameNo_foldl _ _ _ (fun _ _ => ?_)).trans ?_ | with_reducible refine (State.sq_inScan_foldl _ _ _ (fun _ _ => ?_)).trans ?_ | with_reducible refine (State.sq_nextBoundary_foldl _ _ _ (fun _ _ => ?_)).trans ?_ | with_reducible refine (State.pw_gate_foldl _ _ _ (fun _ _ => ?_)).trans ?_ | (dsimp only; first | split | with_reducible refine (State.regs_setA_foldl _ _ _ (fun _ _ => ?_)).trans ?_ | with_reducible refine (State.regs_setB_foldl _ _ _ (fun _ _ => ?_)).trans ?_ | with_reducible refine (State.regs_one_foldl _ _ _ (fun _ _ => ?_)).trans ?_ | with_reducible refine (State.regs_rsvd_foldl _ _ _ (fun _ _ => ?_)).trans ?_ | with_reducible refine (State.regs_waiting_foldl _ _ _ (fun _ _ => ?_)).trans ?_ | with_reducible refine (State.regs_stale_foldl _ _ _ (fun _ _ => ?_)).trans ?_ | with_reducible refine (State.regs_posted_foldl _ _ _ (fun _ _ => ?_)).trans ?_ | with_reducible refine (State.fd_mem_foldl _ _ _ (fun _ _ => ?_)).trans ?_ | with_reducible refine (State.dm_sram_foldl _ _ _ (fun _ _ => ?_)).trans ?_ | with_reducible refine (State.sq_frameNo_foldl _ _ _ (fun _ _ => ?_)).trans ?_ | with_reducible refine (State.sq_inScan_foldl _ _ _ (fun _ _ => ?_)).trans ?_ | with_reducible refine (State.sq_nextBoundary_foldl _ _ _ (fun _ _ => ?_)).trans ?_ | with_reducible refine (State.pw_gate_foldl _ _ _ (fun _ _ => ?_)).trans ?_)))

@[simp] theorem State.superframeApply_parts (s : State) (l : Nat) :
    (s.superframeApply l).regs.one = s.regs.one ∧ (s.superframeApply l).regs.rsvd = s.regs.rsvd ∧
    (s.superframeApply l).regs.posted = s.regs.posted ∧ (s.superframeApply l).dm.sram = s.dm.sram ∧
    (s.superframeApply l).sq.frameNo = s.sq.frameNo ∧ (s.superframeApply l).sq.inScan = s.sq.inScan ∧
    (s.superframeApply l).sq.nextBoundary = s.sq.nextBoundary := by
  and_intros <;> (unfold State.superframeApply; repeat' (first | with_reducible rfl | (simp; done) | split | with_reducible refine (State.regs_setA_foldl _ _ _ (fun _ _ => ?_)).trans ?_ | with_reducible refine (State.regs_setB_foldl _ _ _ (fun _ _ => ?_)).trans ?_ | with_reducible refine (State.regs_one_foldl _ _ _ (fun _ _ => ?_)).trans ?_ | with_reducible refine (State.regs_rsvd_foldl _ _ _ (fun _ _ => ?_)).trans ?_ | with_reducible refine (State.regs_waiting_foldl _ _ _ (fun _ _ => ?_)).trans ?_ | with_reducible refine (State.regs_stale_foldl _ _ _ (fun _ _ => ?_)).trans ?_ | with_reducible refine (State.regs_posted_foldl _ _ _ (fun _ _ => ?_)).trans ?_ | with_reducible refine (State.fd_mem_foldl _ _ _ (fun _ _ => ?_)).trans ?_ | with_reducible refine (State.dm_sram_foldl _ _ _ (fun _ _ => ?_)).trans ?_ | with_reducible refine (State.sq_frameNo_foldl _ _ _ (fun _ _ => ?_)).trans ?_ | with_reducible refine (State.sq_inScan_foldl _ _ _ (fun _ _ => ?_)).trans ?_ | with_reducible refine (State.sq_nextBoundary_foldl _ _ _ (fun _ _ => ?_)).trans ?_ | with_reducible refine (State.pw_gate_foldl _ _ _ (fun _ _ => ?_)).trans ?_ | (dsimp only; first | split | with_reducible refine (State.regs_setA_foldl _ _ _ (fun _ _ => ?_)).trans ?_ | with_reducible refine (State.regs_setB_foldl _ _ _ (fun _ _ => ?_)).trans ?_ | with_reducible refine (State.regs_one_foldl _ _ _ (fun _ _ => ?_)).trans ?_ | with_reducible refine (State.regs_rsvd_foldl _ _ _ (fun _ _ => ?_)).trans ?_ | with_reducible refine (State.regs_waiting_foldl _ _ _ (fun _ _ => ?_)).trans ?_ | with_reducible refine (State.regs_stale_foldl _ _ _ (fun _ _ => ?_)).trans ?_ | with_reducible refine (State.regs_posted_foldl _ _ _ (fun _ _ => ?_)).trans ?_ | with_reducible refine (State.fd_mem_foldl _ _ _ (fun _ _ => ?_)).trans ?_ | with_reducible refine (State.dm_sram_foldl _ _ _ (fun _ _ => ?_)).trans ?_ | with_reducible refine (State.sq_frameNo_foldl _ _ _ (fun _ _ => ?_)).trans ?_ | with_reducible refine (State.sq_inScan_foldl _ _ _ (fun _ _ => ?_)).trans ?_ | with_reducible refine (State.sq_nextBoundary_foldl _ _ _ (fun _ _ => ?_)).trans ?_ | with_reducible refine (State.pw_gate_foldl _ _ _ (fun _ _ => ?_)).trans ?_)))

@[simp] theorem State.goodMarker_parts (s : State) (l ty seq : Nat) (payload : List Score) :
    (s.goodMarker l ty seq payload).regs.setA = s.regs.setA ∧ (s.goodMarker l ty seq payload).regs.setB = s.regs.setB ∧
    (s.goodMarker l ty seq payload).regs.one = s.regs.one ∧ (s.goodMarker l ty seq payload).regs.rsvd = s.regs.rsvd ∧
    (s.goodMarker l ty seq payload).regs.waiting = s.regs.waiting ∧
    (s.goodMarker l ty seq payload).regs.stale = s.regs.stale ∧ (s.goodMarker l ty seq payload).regs.posted = s.regs.posted := by
  and_intros <;> (unfold State.goodMarker; repeat' (first | with_reducible rfl | (simp; done) | split | with_reducible refine (State.regs_setA_foldl _ _ _ (fun _ _ => ?_)).trans ?_ | with_reducible refine (State.regs_setB_foldl _ _ _ (fun _ _ => ?_)).trans ?_ | with_reducible refine (State.regs_one_foldl _ _ _ (fun _ _ => ?_)).trans ?_ | with_reducible refine (State.regs_rsvd_foldl _ _ _ (fun _ _ => ?_)).trans ?_ | with_reducible refine (State.regs_waiting_foldl _ _ _ (fun _ _ => ?_)).trans ?_ | with_reducible refine (State.regs_stale_foldl _ _ _ (fun _ _ => ?_)).trans ?_ | with_reducible refine (State.regs_posted_foldl _ _ _ (fun _ _ => ?_)).trans ?_ | with_reducible refine (State.fd_mem_foldl _ _ _ (fun _ _ => ?_)).trans ?_ | with_reducible refine (State.dm_sram_foldl _ _ _ (fun _ _ => ?_)).trans ?_ | with_reducible refine (State.sq_frameNo_foldl _ _ _ (fun _ _ => ?_)).trans ?_ | with_reducible refine (State.sq_inScan_foldl _ _ _ (fun _ _ => ?_)).trans ?_ | with_reducible refine (State.sq_nextBoundary_foldl _ _ _ (fun _ _ => ?_)).trans ?_ | with_reducible refine (State.pw_gate_foldl _ _ _ (fun _ _ => ?_)).trans ?_ | (dsimp only; first | split | with_reducible refine (State.regs_setA_foldl _ _ _ (fun _ _ => ?_)).trans ?_ | with_reducible refine (State.regs_setB_foldl _ _ _ (fun _ _ => ?_)).trans ?_ | with_reducible refine (State.regs_one_foldl _ _ _ (fun _ _ => ?_)).trans ?_ | with_reducible refine (State.regs_rsvd_foldl _ _ _ (fun _ _ => ?_)).trans ?_ | with_reducible refine (State.regs_waiting_foldl _ _ _ (fun _ _ => ?_)).trans ?_ | with_reducible refine (State.regs_stale_foldl _ _ _ (fun _ _ => ?_)).trans ?_ | with_reducible refine (State.regs_posted_foldl _ _ _ (fun _ _ => ?_)).trans ?_ | with_reducible refine (State.fd_mem_foldl _ _ _ (fun _ _ => ?_)).trans ?_ | with_reducible refine (State.dm_sram_foldl _ _ _ (fun _ _ => ?_)).trans ?_ | with_reducible refine (State.sq_frameNo_foldl _ _ _ (fun _ _ => ?_)).trans ?_ | with_reducible refine (State.sq_inScan_foldl _ _ _ (fun _ _ => ?_)).trans ?_ | with_reducible refine (State.sq_nextBoundary_foldl _ _ _ (fun _ _ => ?_)).trans ?_ | with_reducible refine (State.pw_gate_foldl _ _ _ (fun _ _ => ?_)).trans ?_)))

@[simp] theorem State.laneEidle_parts (s : State) (l : Nat) :
    (s.laneEidle l).regs.setA = s.regs.setA ∧ (s.laneEidle l).regs.setB = s.regs.setB ∧
    (s.laneEidle l).regs.one = s.regs.one ∧ (s.laneEidle l).regs.rsvd = s.regs.rsvd ∧
    (s.laneEidle l).regs.waiting = s.regs.waiting ∧ (s.laneEidle l).regs.stale = s.regs.stale ∧
    (s.laneEidle l).regs.posted = s.regs.posted ∧ (s.laneEidle l).dm.sram = s.dm.sram := by
  and_intros <;> (unfold State.laneEidle; repeat' (first | with_reducible rfl | (simp; done) | split | with_reducible refine (State.regs_setA_foldl _ _ _ (fun _ _ => ?_)).trans ?_ | with_reducible refine (State.regs_setB_foldl _ _ _ (fun _ _ => ?_)).trans ?_ | with_reducible refine (State.regs_one_foldl _ _ _ (fun _ _ => ?_)).trans ?_ | with_reducible refine (State.regs_rsvd_foldl _ _ _ (fun _ _ => ?_)).trans ?_ | with_reducible refine (State.regs_waiting_foldl _ _ _ (fun _ _ => ?_)).trans ?_ | with_reducible refine (State.regs_stale_foldl _ _ _ (fun _ _ => ?_)).trans ?_ | with_reducible refine (State.regs_posted_foldl _ _ _ (fun _ _ => ?_)).trans ?_ | with_reducible refine (State.fd_mem_foldl _ _ _ (fun _ _ => ?_)).trans ?_ | with_reducible refine (State.dm_sram_foldl _ _ _ (fun _ _ => ?_)).trans ?_ | with_reducible refine (State.sq_frameNo_foldl _ _ _ (fun _ _ => ?_)).trans ?_ | with_reducible refine (State.sq_inScan_foldl _ _ _ (fun _ _ => ?_)).trans ?_ | with_reducible refine (State.sq_nextBoundary_foldl _ _ _ (fun _ _ => ?_)).trans ?_ | with_reducible refine (State.pw_gate_foldl _ _ _ (fun _ _ => ?_)).trans ?_ | (dsimp only; first | split | with_reducible refine (State.regs_setA_foldl _ _ _ (fun _ _ => ?_)).trans ?_ | with_reducible refine (State.regs_setB_foldl _ _ _ (fun _ _ => ?_)).trans ?_ | with_reducible refine (State.regs_one_foldl _ _ _ (fun _ _ => ?_)).trans ?_ | with_reducible refine (State.regs_rsvd_foldl _ _ _ (fun _ _ => ?_)).trans ?_ | with_reducible refine (State.regs_waiting_foldl _ _ _ (fun _ _ => ?_)).trans ?_ | with_reducible refine (State.regs_stale_foldl _ _ _ (fun _ _ => ?_)).trans ?_ | with_reducible refine (State.regs_posted_foldl _ _ _ (fun _ _ => ?_)).trans ?_ | with_reducible refine (State.fd_mem_foldl _ _ _ (fun _ _ => ?_)).trans ?_ | with_reducible refine (State.dm_sram_foldl _ _ _ (fun _ _ => ?_)).trans ?_ | with_reducible refine (State.sq_frameNo_foldl _ _ _ (fun _ _ => ?_)).trans ?_ | with_reducible refine (State.sq_inScan_foldl _ _ _ (fun _ _ => ?_)).trans ?_ | with_reducible refine (State.sq_nextBoundary_foldl _ _ _ (fun _ _ => ?_)).trans ?_ | with_reducible refine (State.pw_gate_foldl _ _ _ (fun _ _ => ?_)).trans ?_)))

@[simp] theorem State.laneDeep_parts (s : State) (l : Nat) :
    (s.laneDeep l).regs.one = s.regs.one ∧ (s.laneDeep l).regs.rsvd = s.regs.rsvd ∧
    (s.laneDeep l).regs.posted = s.regs.posted ∧ (s.laneDeep l).dm.sram = s.dm.sram ∧
    (s.laneDeep l).sq.frameNo = s.sq.frameNo ∧ (s.laneDeep l).sq.inScan = s.sq.inScan ∧
    (s.laneDeep l).sq.nextBoundary = s.sq.nextBoundary := by
  and_intros <;> (unfold State.laneDeep; repeat' (first | with_reducible rfl | (simp; done) | split | with_reducible refine (State.regs_setA_foldl _ _ _ (fun _ _ => ?_)).trans ?_ | with_reducible refine (State.regs_setB_foldl _ _ _ (fun _ _ => ?_)).trans ?_ | with_reducible refine (State.regs_one_foldl _ _ _ (fun _ _ => ?_)).trans ?_ | with_reducible refine (State.regs_rsvd_foldl _ _ _ (fun _ _ => ?_)).trans ?_ | with_reducible refine (State.regs_waiting_foldl _ _ _ (fun _ _ => ?_)).trans ?_ | with_reducible refine (State.regs_stale_foldl _ _ _ (fun _ _ => ?_)).trans ?_ | with_reducible refine (State.regs_posted_foldl _ _ _ (fun _ _ => ?_)).trans ?_ | with_reducible refine (State.fd_mem_foldl _ _ _ (fun _ _ => ?_)).trans ?_ | with_reducible refine (State.dm_sram_foldl _ _ _ (fun _ _ => ?_)).trans ?_ | with_reducible refine (State.sq_frameNo_foldl _ _ _ (fun _ _ => ?_)).trans ?_ | with_reducible refine (State.sq_inScan_foldl _ _ _ (fun _ _ => ?_)).trans ?_ | with_reducible refine (State.sq_nextBoundary_foldl _ _ _ (fun _ _ => ?_)).trans ?_ | with_reducible refine (State.pw_gate_foldl _ _ _ (fun _ _ => ?_)).trans ?_ | (dsimp only; first | split | with_reducible refine (State.regs_setA_foldl _ _ _ (fun _ _ => ?_)).trans ?_ | with_reducible refine (State.regs_setB_foldl _ _ _ (fun _ _ => ?_)).trans ?_ | with_reducible refine (State.regs_one_foldl _ _ _ (fun _ _ => ?_)).trans ?_ | with_reducible refine (State.regs_rsvd_foldl _ _ _ (fun _ _ => ?_)).trans ?_ | with_reducible refine (State.regs_waiting_foldl _ _ _ (fun _ _ => ?_)).trans ?_ | with_reducible refine (State.regs_stale_foldl _ _ _ (fun _ _ => ?_)).trans ?_ | with_reducible refine (State.regs_posted_foldl _ _ _ (fun _ _ => ?_)).trans ?_ | with_reducible refine (State.fd_mem_foldl _ _ _ (fun _ _ => ?_)).trans ?_ | with_reducible refine (State.dm_sram_foldl _ _ _ (fun _ _ => ?_)).trans ?_ | with_reducible refine (State.sq_frameNo_foldl _ _ _ (fun _ _ => ?_)).trans ?_ | with_reducible refine (State.sq_inScan_foldl _ _ _ (fun _ _ => ?_)).trans ?_ | with_reducible refine (State.sq_nextBoundary_foldl _ _ _ (fun _ _ => ?_)).trans ?_ | with_reducible refine (State.pw_gate_foldl _ _ _ (fun _ _ => ?_)).trans ?_)))

@[simp] theorem State.quadRefsBack_parts (s : State) (a b : Bool) :
    (s.quadRefsBack a b).regs.setA = s.regs.setA ∧ (s.quadRefsBack a b).regs.setB = s.regs.setB ∧
    (s.quadRefsBack a b).regs.one = s.regs.one ∧ (s.quadRefsBack a b).regs.rsvd = s.regs.rsvd ∧
    (s.quadRefsBack a b).regs.waiting = s.regs.waiting ∧ (s.quadRefsBack a b).regs.stale = s.regs.stale ∧
    (s.quadRefsBack a b).regs.posted = s.regs.posted := by
  and_intros <;> (unfold State.quadRefsBack; repeat' (first | with_reducible rfl | (simp; done) | split | with_reducible refine (State.regs_setA_foldl _ _ _ (fun _ _ => ?_)).trans ?_ | with_reducible refine (State.regs_setB_foldl _ _ _ (fun _ _ => ?_)).trans ?_ | with_reducible refine (State.regs_one_foldl _ _ _ (fun _ _ => ?_)).trans ?_ | with_reducible refine (State.regs_rsvd_foldl _ _ _ (fun _ _ => ?_)).trans ?_ | with_reducible refine (State.regs_waiting_foldl _ _ _ (fun _ _ => ?_)).trans ?_ | with_reducible refine (State.regs_stale_foldl _ _ _ (fun _ _ => ?_)).trans ?_ | with_reducible refine (State.regs_posted_foldl _ _ _ (fun _ _ => ?_)).trans ?_ | with_reducible refine (State.fd_mem_foldl _ _ _ (fun _ _ => ?_)).trans ?_ | with_reducible refine (State.dm_sram_foldl _ _ _ (fun _ _ => ?_)).trans ?_ | with_reducible refine (State.sq_frameNo_foldl _ _ _ (fun _ _ => ?_)).trans ?_ | with_reducible refine (State.sq_inScan_foldl _ _ _ (fun _ _ => ?_)).trans ?_ | with_reducible refine (State.sq_nextBoundary_foldl _ _ _ (fun _ _ => ?_)).trans ?_ | with_reducible refine (State.pw_gate_foldl _ _ _ (fun _ _ => ?_)).trans ?_ | (dsimp only; first | split | with_reducible refine (State.regs_setA_foldl _ _ _ (fun _ _ => ?_)).trans ?_ | with_reducible refine (State.regs_setB_foldl _ _ _ (fun _ _ => ?_)).trans ?_ | with_reducible refine (State.regs_one_foldl _ _ _ (fun _ _ => ?_)).trans ?_ | with_reducible refine (State.regs_rsvd_foldl _ _ _ (fun _ _ => ?_)).trans ?_ | with_reducible refine (State.regs_waiting_foldl _ _ _ (fun _ _ => ?_)).trans ?_ | with_reducible refine (State.regs_stale_foldl _ _ _ (fun _ _ => ?_)).trans ?_ | with_reducible refine (State.regs_posted_foldl _ _ _ (fun _ _ => ?_)).trans ?_ | with_reducible refine (State.fd_mem_foldl _ _ _ (fun _ _ => ?_)).trans ?_ | with_reducible refine (State.dm_sram_foldl _ _ _ (fun _ _ => ?_)).trans ?_ | with_reducible refine (State.sq_frameNo_foldl _ _ _ (fun _ _ => ?_)).trans ?_ | with_reducible refine (State.sq_inScan_foldl _ _ _ (fun _ _ => ?_)).trans ?_ | with_reducible refine (State.sq_nextBoundary_foldl _ _ _ (fun _ _ => ?_)).trans ?_ | with_reducible refine (State.pw_gate_foldl _ _ _ (fun _ _ => ?_)).trans ?_)))

@[simp] theorem State.lnCntClr_parts (s : State) (q : Nat) :
    (s.lnCntClr q).regs.setA = s.regs.setA ∧ (s.lnCntClr q).regs.setB = s.regs.setB ∧ (s.lnCntClr q).regs.one = s.regs.one ∧
    (s.lnCntClr q).regs.rsvd = s.regs.rsvd ∧ (s.lnCntClr q).regs.waiting = s.regs.waiting ∧
    (s.lnCntClr q).regs.stale = s.regs.stale ∧ (s.lnCntClr q).regs.posted = s.regs.posted := by
  and_intros <;> (unfold State.lnCntClr; repeat' (first | with_reducible rfl | (simp; done) | split | with_reducible refine (State.regs_setA_foldl _ _ _ (fun _ _ => ?_)).trans ?_ | with_reducible refine (State.regs_setB_foldl _ _ _ (fun _ _ => ?_)).trans ?_ | with_reducible refine (State.regs_one_foldl _ _ _ (fun _ _ => ?_)).trans ?_ | with_reducible refine (State.regs_rsvd_foldl _ _ _ (fun _ _ => ?_)).trans ?_ | with_reducible refine (State.regs_waiting_foldl _ _ _ (fun _ _ => ?_)).trans ?_ | with_reducible refine (State.regs_stale_foldl _ _ _ (fun _ _ => ?_)).trans ?_ | with_reducible refine (State.regs_posted_foldl _ _ _ (fun _ _ => ?_)).trans ?_ | with_reducible refine (State.fd_mem_foldl _ _ _ (fun _ _ => ?_)).trans ?_ | with_reducible refine (State.dm_sram_foldl _ _ _ (fun _ _ => ?_)).trans ?_ | with_reducible refine (State.sq_frameNo_foldl _ _ _ (fun _ _ => ?_)).trans ?_ | with_reducible refine (State.sq_inScan_foldl _ _ _ (fun _ _ => ?_)).trans ?_ | with_reducible refine (State.sq_nextBoundary_foldl _ _ _ (fun _ _ => ?_)).trans ?_ | with_reducible refine (State.pw_gate_foldl _ _ _ (fun _ _ => ?_)).trans ?_ | (dsimp only; first | split | with_reducible refine (State.regs_setA_foldl _ _ _ (fun _ _ => ?_)).trans ?_ | with_reducible refine (State.regs_setB_foldl _ _ _ (fun _ _ => ?_)).trans ?_ | with_reducible refine (State.regs_one_foldl _ _ _ (fun _ _ => ?_)).trans ?_ | with_reducible refine (State.regs_rsvd_foldl _ _ _ (fun _ _ => ?_)).trans ?_ | with_reducible refine (State.regs_waiting_foldl _ _ _ (fun _ _ => ?_)).trans ?_ | with_reducible refine (State.regs_stale_foldl _ _ _ (fun _ _ => ?_)).trans ?_ | with_reducible refine (State.regs_posted_foldl _ _ _ (fun _ _ => ?_)).trans ?_ | with_reducible refine (State.fd_mem_foldl _ _ _ (fun _ _ => ?_)).trans ?_ | with_reducible refine (State.dm_sram_foldl _ _ _ (fun _ _ => ?_)).trans ?_ | with_reducible refine (State.sq_frameNo_foldl _ _ _ (fun _ _ => ?_)).trans ?_ | with_reducible refine (State.sq_inScan_foldl _ _ _ (fun _ _ => ?_)).trans ?_ | with_reducible refine (State.sq_nextBoundary_foldl _ _ _ (fun _ _ => ?_)).trans ?_ | with_reducible refine (State.pw_gate_foldl _ _ _ (fun _ _ => ?_)).trans ?_)))

end Sys2Proof.Machine
end

