-- ==== Sys2Proof/Laws/FrameServo.lean ====
section
/-!
SUPPORT. The frames of the operations of Machine/Servo.lean: the parts of the state that each of them leaves as they were.
-/

set_option linter.unusedTactic false
set_option linter.unreachableTactic false
set_option linter.unusedSimpArgs false

namespace Sys2Proof.Machine

@[simp] theorem State.setAxis_frame (s : State) (a : Nat) (x : SvAxis) :
    (s.setAxis a x).now = s.now ∧ (s.setAxis a x).phase = s.phase ∧ (s.setAxis a x).pending = s.pending ∧
    (s.setAxis a x).nodeOfs = s.nodeOfs ∧ (s.setAxis a x).freeCtr = s.freeCtr ∧ (s.setAxis a x).tx = s.tx ∧
    (s.setAxis a x).regs = s.regs ∧ (s.setAxis a x).tl = s.tl := by
  and_intros <;> (unfold State.setAxis; repeat' (first | with_reducible rfl | (simp; done) | split | with_reducible refine (foldl_inv _ _ _ _ (fun _ _ => ?_)).trans ?_ | (dsimp only; first | split | with_reducible refine (foldl_inv _ _ _ _ (fun _ _ => ?_)).trans ?_)))

@[simp] theorem State.setAxis_frame2 (s : State) (a : Nat) (x : SvAxis) :
    (s.setAxis a x).sq = s.sq ∧ (s.setAxis a x).fd = s.fd ∧ (s.setAxis a x).ex = s.ex ∧ (s.setAxis a x).ax = s.ax ∧
    (s.setAxis a x).aq = s.aq ∧ (s.setAxis a x).il = s.il ∧ (s.setAxis a x).ln = s.ln ∧ (s.setAxis a x).fl = s.fl := by
  and_intros <;> (unfold State.setAxis; repeat' (first | with_reducible rfl | (simp; done) | split | with_reducible refine (foldl_inv _ _ _ _ (fun _ _ => ?_)).trans ?_ | (dsimp only; first | split | with_reducible refine (foldl_inv _ _ _ _ (fun _ _ => ?_)).trans ?_)))

@[simp] theorem State.setAxis_frame3 (s : State) (a : Nat) (x : SvAxis) :
    (s.setAxis a x).ev = s.ev ∧ (s.setAxis a x).safe = s.safe ∧ (s.setAxis a x).dm = s.dm ∧ (s.setAxis a x).cm = s.cm ∧
    (s.setAxis a x).cf = s.cf ∧ (s.setAxis a x).pw = s.pw ∧ (s.setAxis a x).th = s.th := by
  and_intros <;> (unfold State.setAxis; repeat' (first | with_reducible rfl | (simp; done) | split | with_reducible refine (foldl_inv _ _ _ _ (fun _ _ => ?_)).trans ?_ | (dsimp only; first | split | with_reducible refine (foldl_inv _ _ _ _ (fun _ _ => ?_)).trans ?_)))

@[simp] theorem State.injEnd_frame (s : State) (a : Nat) :
    (s.injEnd a).now = s.now ∧ (s.injEnd a).phase = s.phase ∧ (s.injEnd a).pending = s.pending ∧
    (s.injEnd a).nodeOfs = s.nodeOfs ∧ (s.injEnd a).freeCtr = s.freeCtr ∧ (s.injEnd a).tx = s.tx ∧ (s.injEnd a).tl = s.tl ∧
    (s.injEnd a).sq = s.sq := by
  and_intros <;> (unfold State.injEnd; repeat' (first | with_reducible rfl | (simp; done) | split | with_reducible refine (foldl_inv _ _ _ _ (fun _ _ => ?_)).trans ?_ | (dsimp only; first | split | with_reducible refine (foldl_inv _ _ _ _ (fun _ _ => ?_)).trans ?_)))

@[simp] theorem State.injEnd_frame2 (s : State) (a : Nat) :
    (s.injEnd a).fd = s.fd ∧ (s.injEnd a).ex = s.ex ∧ (s.injEnd a).ax = s.ax ∧ (s.injEnd a).aq = s.aq ∧
    (s.injEnd a).il = s.il ∧ (s.injEnd a).ln = s.ln ∧ (s.injEnd a).fl = s.fl ∧ (s.injEnd a).ev = s.ev := by
  and_intros <;> (unfold State.injEnd; repeat' (first | with_reducible rfl | (simp; done) | split | with_reducible refine (foldl_inv _ _ _ _ (fun _ _ => ?_)).trans ?_ | (dsimp only; first | split | with_reducible refine (foldl_inv _ _ _ _ (fun _ _ => ?_)).trans ?_)))

@[simp] theorem State.injEnd_frame3 (s : State) (a : Nat) :
    (s.injEnd a).safe = s.safe ∧ (s.injEnd a).dm = s.dm ∧ (s.injEnd a).cm = s.cm ∧ (s.injEnd a).cf = s.cf ∧
    (s.injEnd a).pw = s.pw ∧ (s.injEnd a).th = s.th := by
  and_intros <;> (unfold State.injEnd; repeat' (first | with_reducible rfl | (simp; done) | split | with_reducible refine (foldl_inv _ _ _ _ (fun _ _ => ?_)).trans ?_ | (dsimp only; first | split | with_reducible refine (foldl_inv _ _ _ _ (fun _ _ => ?_)).trans ?_)))

@[simp] theorem State.showI_frame (s : State) (a : Nat) :
    (s.showI a).now = s.now ∧ (s.showI a).phase = s.phase ∧ (s.showI a).pending = s.pending ∧
    (s.showI a).nodeOfs = s.nodeOfs ∧ (s.showI a).freeCtr = s.freeCtr ∧ (s.showI a).tx = s.tx ∧ (s.showI a).tl = s.tl ∧
    (s.showI a).sq = s.sq := by
  and_intros <;> (unfold State.showI; repeat' (first | with_reducible rfl | (simp; done) | split | with_reducible refine (foldl_inv _ _ _ _ (fun _ _ => ?_)).trans ?_ | (dsimp only; first | split | with_reducible refine (foldl_inv _ _ _ _ (fun _ _ => ?_)).trans ?_)))

@[simp] theorem State.showI_frame2 (s : State) (a : Nat) :
    (s.showI a).fd = s.fd ∧ (s.showI a).ex = s.ex ∧ (s.showI a).sv = s.sv ∧ (s.showI a).ax = s.ax ∧ (s.showI a).aq = s.aq ∧
    (s.showI a).il = s.il ∧ (s.showI a).ln = s.ln ∧ (s.showI a).fl = s.fl := by
  and_intros <;> (unfold State.showI; repeat' (first | with_reducible rfl | (simp; done) | split | with_reducible refine (foldl_inv _ _ _ _ (fun _ _ => ?_)).trans ?_ | (dsimp only; first | split | with_reducible refine (foldl_inv _ _ _ _ (fun _ _ => ?_)).trans ?_)))

@[simp] theorem State.showI_frame3 (s : State) (a : Nat) :
    (s.showI a).ev = s.ev ∧ (s.showI a).safe = s.safe ∧ (s.showI a).dm = s.dm ∧ (s.showI a).cm = s.cm ∧
    (s.showI a).cf = s.cf ∧ (s.showI a).pw = s.pw ∧ (s.showI a).th = s.th := by
  and_intros <;> (unfold State.showI; repeat' (first | with_reducible rfl | (simp; done) | split | with_reducible refine (foldl_inv _ _ _ _ (fun _ _ => ?_)).trans ?_ | (dsimp only; first | split | with_reducible refine (foldl_inv _ _ _ _ (fun _ _ => ?_)).trans ?_)))

@[simp] theorem State.toState_frame (s : State) (a st : Nat) :
    (s.toState a st).now = s.now ∧ (s.toState a st).phase = s.phase ∧ (s.toState a st).pending = s.pending ∧
    (s.toState a st).nodeOfs = s.nodeOfs ∧ (s.toState a st).freeCtr = s.freeCtr ∧ (s.toState a st).tx = s.tx ∧
    (s.toState a st).tl = s.tl ∧ (s.toState a st).sq = s.sq := by
  and_intros <;> (unfold State.toState; repeat' (first | with_reducible rfl | (simp; done) | split | with_reducible refine (foldl_inv _ _ _ _ (fun _ _ => ?_)).trans ?_ | (dsimp only; first | split | with_reducible refine (foldl_inv _ _ _ _ (fun _ _ => ?_)).trans ?_)))

@[simp] theorem State.toState_frame2 (s : State) (a st : Nat) :
    (s.toState a st).fd = s.fd ∧ (s.toState a st).ex = s.ex ∧ (s.toState a st).aq = s.aq ∧ (s.toState a st).il = s.il ∧
    (s.toState a st).ln = s.ln ∧ (s.toState a st).fl = s.fl ∧ (s.toState a st).ev = s.ev ∧ (s.toState a st).dm = s.dm := by
  and_intros <;> (unfold State.toState; repeat' (first | with_reducible rfl | (simp; done) | split | with_reducible refine (foldl_inv _ _ _ _ (fun _ _ => ?_)).trans ?_ | (dsimp only; first | split | with_reducible refine (foldl_inv _ _ _ _ (fun _ _ => ?_)).trans ?_)))

@[simp] theorem State.toState_frame3 (s : State) (a st : Nat) :
    (s.toState a st).cm = s.cm ∧ (s.toState a st).cf = s.cf ∧ (s.toState a st).pw = s.pw ∧ (s.toState a st).th = s.th := by
  and_intros <;> (unfold State.toState; repeat' (first | with_reducible rfl | (simp; done) | split | with_reducible refine (foldl_inv _ _ _ _ (fun _ _ => ?_)).trans ?_ | (dsimp only; first | split | with_reducible refine (foldl_inv _ _ _ _ (fun _ _ => ?_)).trans ?_)))

@[simp] theorem State.axisFault_frame (s : State) (a cause : Nat) :
    (s.axisFault a cause).now = s.now ∧ (s.axisFault a cause).phase = s.phase ∧ (s.axisFault a cause).pending = s.pending ∧
    (s.axisFault a cause).nodeOfs = s.nodeOfs ∧ (s.axisFault a cause).freeCtr = s.freeCtr ∧ (s.axisFault a cause).tx = s.tx ∧
    (s.axisFault a cause).tl = s.tl ∧ (s.axisFault a cause).sq = s.sq := by
  and_intros <;> (unfold State.axisFault; repeat' (first | with_reducible rfl | (simp; done) | split | with_reducible refine (foldl_inv _ _ _ _ (fun _ _ => ?_)).trans ?_ | (dsimp only; first | split | with_reducible refine (foldl_inv _ _ _ _ (fun _ _ => ?_)).trans ?_)))

@[simp] theorem State.axisFault_frame2 (s : State) (a cause : Nat) :
    (s.axisFault a cause).fd = s.fd ∧ (s.axisFault a cause).ex = s.ex ∧ (s.axisFault a cause).aq = s.aq ∧
    (s.axisFault a cause).il = s.il ∧ (s.axisFault a cause).ln = s.ln ∧ (s.axisFault a cause).fl = s.fl ∧
    (s.axisFault a cause).dm = s.dm ∧ (s.axisFault a cause).cm = s.cm := by
  and_intros <;> (unfold State.axisFault; repeat' (first | with_reducible rfl | (simp; done) | split | with_reducible refine (foldl_inv _ _ _ _ (fun _ _ => ?_)).trans ?_ | (dsimp only; first | split | with_reducible refine (foldl_inv _ _ _ _ (fun _ _ => ?_)).trans ?_)))

@[simp] theorem State.axisFault_frame3 (s : State) (a cause : Nat) :
    (s.axisFault a cause).cf = s.cf ∧ (s.axisFault a cause).pw = s.pw ∧ (s.axisFault a cause).th = s.th := by
  and_intros <;> (unfold State.axisFault; repeat' (first | with_reducible rfl | (simp; done) | split | with_reducible refine (foldl_inv _ _ _ _ (fun _ _ => ?_)).trans ?_ | (dsimp only; first | split | with_reducible refine (foldl_inv _ _ _ _ (fun _ _ => ?_)).trans ?_)))

@[simp] theorem State.modeRequest_frame (s : State) (a : Nat) :
    (s.modeRequest a).now = s.now ∧ (s.modeRequest a).phase = s.phase ∧ (s.modeRequest a).pending = s.pending ∧
    (s.modeRequest a).nodeOfs = s.nodeOfs ∧ (s.modeRequest a).freeCtr = s.freeCtr ∧ (s.modeRequest a).tx = s.tx ∧
    (s.modeRequest a).tl = s.tl ∧ (s.modeRequest a).sq = s.sq := by
  and_intros <;> (unfold State.modeRequest; repeat' (first | with_reducible rfl | (simp; done) | split | with_reducible refine (foldl_inv _ _ _ _ (fun _ _ => ?_)).trans ?_ | (dsimp only; first | split | with_reducible refine (foldl_inv _ _ _ _ (fun _ _ => ?_)).trans ?_)))

@[simp] theorem State.modeRequest_frame2 (s : State) (a : Nat) :
    (s.modeRequest a).fd = s.fd ∧ (s.modeRequest a).ex = s.ex ∧ (s.modeRequest a).aq = s.aq ∧ (s.modeRequest a).il = s.il ∧
    (s.modeRequest a).ln = s.ln ∧ (s.modeRequest a).fl = s.fl ∧ (s.modeRequest a).ev = s.ev ∧ (s.modeRequest a).dm = s.dm := by
  and_intros <;> (unfold State.modeRequest; repeat' (first | with_reducible rfl | (simp; done) | split | with_reducible refine (foldl_inv _ _ _ _ (fun _ _ => ?_)).trans ?_ | (dsimp only; first | split | with_reducible refine (foldl_inv _ _ _ _ (fun _ _ => ?_)).trans ?_)))

@[simp] theorem State.modeRequest_frame3 (s : State) (a : Nat) :
    (s.modeRequest a).cm = s.cm ∧ (s.modeRequest a).cf = s.cf ∧ (s.modeRequest a).pw = s.pw ∧ (s.modeRequest a).th = s.th := by
  and_intros <;> (unfold State.modeRequest; repeat' (first | with_reducible rfl | (simp; done) | split | with_reducible refine (foldl_inv _ _ _ _ (fun _ _ => ?_)).trans ?_ | (dsimp only; first | split | with_reducible refine (foldl_inv _ _ _ _ (fun _ _ => ?_)).trans ?_)))

@[simp] theorem State.judgeErr_frame (s : State) (a : Nat) :
    (s.judgeErr a).now = s.now ∧ (s.judgeErr a).phase = s.phase ∧ (s.judgeErr a).pending = s.pending ∧
    (s.judgeErr a).nodeOfs = s.nodeOfs ∧ (s.judgeErr a).freeCtr = s.freeCtr ∧ (s.judgeErr a).tx = s.tx ∧
    (s.judgeErr a).tl = s.tl ∧ (s.judgeErr a).sq = s.sq := by
  and_intros <;> (unfold State.judgeErr; repeat' (first | with_reducible rfl | (simp; done) | split | with_reducible refine (foldl_inv _ _ _ _ (fun _ _ => ?_)).trans ?_ | (dsimp only; first | split | with_reducible refine (foldl_inv _ _ _ _ (fun _ _ => ?_)).trans ?_)))

@[simp] theorem State.judgeErr_frame2 (s : State) (a : Nat) :
    (s.judgeErr a).fd = s.fd ∧ (s.judgeErr a).ex = s.ex ∧ (s.judgeErr a).sv = s.sv ∧ (s.judgeErr a).ax = s.ax ∧
    (s.judgeErr a).aq = s.aq ∧ (s.judgeErr a).il = s.il ∧ (s.judgeErr a).ln = s.ln ∧ (s.judgeErr a).fl = s.fl := by
  and_intros <;> (unfold State.judgeErr; repeat' (first | with_reducible rfl | (simp; done) | split | with_reducible refine (foldl_inv _ _ _ _ (fun _ _ => ?_)).trans ?_ | (dsimp only; first | split | with_reducible refine (foldl_inv _ _ _ _ (fun _ _ => ?_)).trans ?_)))

@[simp] theorem State.judgeErr_frame3 (s : State) (a : Nat) :
    (s.judgeErr a).ev = s.ev ∧ (s.judgeErr a).dm = s.dm ∧ (s.judgeErr a).cm = s.cm ∧ (s.judgeErr a).cf = s.cf ∧
    (s.judgeErr a).pw = s.pw ∧ (s.judgeErr a).th = s.th := by
  and_intros <;> (unfold State.judgeErr; repeat' (first | with_reducible rfl | (simp; done) | split | with_reducible refine (foldl_inv _ _ _ _ (fun _ _ => ?_)).trans ?_ | (dsimp only; first | split | with_reducible refine (foldl_inv _ _ _ _ (fun _ _ => ?_)).trans ?_)))

@[simp] theorem State.detectOsc_frame (s : State) (a : Nat) (e : Int) :
    (s.detectOsc a e).now = s.now ∧ (s.detectOsc a e).phase = s.phase ∧ (s.detectOsc a e).pending = s.pending ∧
    (s.detectOsc a e).nodeOfs = s.nodeOfs ∧ (s.detectOsc a e).freeCtr = s.freeCtr ∧ (s.detectOsc a e).tx = s.tx ∧
    (s.detectOsc a e).regs = s.regs ∧ (s.detectOsc a e).tl = s.tl := by
  and_intros <;> (unfold State.detectOsc; repeat' (first | with_reducible rfl | (simp; done) | split | with_reducible refine (foldl_inv _ _ _ _ (fun _ _ => ?_)).trans ?_ | (dsimp only; first | split | with_reducible refine (foldl_inv _ _ _ _ (fun _ _ => ?_)).trans ?_)))

@[simp] theorem State.detectOsc_frame2 (s : State) (a : Nat) (e : Int) :
    (s.detectOsc a e).sq = s.sq ∧ (s.detectOsc a e).fd = s.fd ∧ (s.detectOsc a e).ex = s.ex ∧ (s.detectOsc a e).ax = s.ax ∧
    (s.detectOsc a e).aq = s.aq ∧ (s.detectOsc a e).il = s.il ∧ (s.detectOsc a e).ln = s.ln ∧ (s.detectOsc a e).fl = s.fl := by
  and_intros <;> (unfold State.detectOsc; repeat' (first | with_reducible rfl | (simp; done) | split | with_reducible refine (foldl_inv _ _ _ _ (fun _ _ => ?_)).trans ?_ | (dsimp only; first | split | with_reducible refine (foldl_inv _ _ _ _ (fun _ _ => ?_)).trans ?_)))

@[simp] theorem State.detectOsc_frame3 (s : State) (a : Nat) (e : Int) :
    (s.detectOsc a e).ev = s.ev ∧ (s.detectOsc a e).safe = s.safe ∧ (s.detectOsc a e).dm = s.dm ∧
    (s.detectOsc a e).cm = s.cm ∧ (s.detectOsc a e).cf = s.cf ∧ (s.detectOsc a e).pw = s.pw ∧ (s.detectOsc a e).th = s.th := by
  and_intros <;> (unfold State.detectOsc; repeat' (first | with_reducible rfl | (simp; done) | split | with_reducible refine (foldl_inv _ _ _ _ (fun _ _ => ?_)).trans ?_ | (dsimp only; first | split | with_reducible refine (foldl_inv _ _ _ _ (fun _ _ => ?_)).trans ?_)))

@[simp] theorem State.enterTrack_frame (s : State) (a : Nat) (x : LoopTerms) (forced : Bool) :
    (s.enterTrack a x forced).now = s.now ∧ (s.enterTrack a x forced).phase = s.phase ∧
    (s.enterTrack a x forced).pending = s.pending ∧ (s.enterTrack a x forced).nodeOfs = s.nodeOfs ∧
    (s.enterTrack a x forced).freeCtr = s.freeCtr ∧ (s.enterTrack a x forced).tx = s.tx ∧
    (s.enterTrack a x forced).tl = s.tl ∧ (s.enterTrack a x forced).sq = s.sq := by
  and_intros <;> (unfold State.enterTrack; repeat' (first | with_reducible rfl | (simp; done) | split | with_reducible refine (foldl_inv _ _ _ _ (fun _ _ => ?_)).trans ?_ | (dsimp only; first | split | with_reducible refine (foldl_inv _ _ _ _ (fun _ _ => ?_)).trans ?_)))

@[simp] theorem State.enterTrack_frame2 (s : State) (a : Nat) (x : LoopTerms) (forced : Bool) :
    (s.enterTrack a x forced).fd = s.fd ∧ (s.enterTrack a x forced).ex = s.ex ∧ (s.enterTrack a x forced).aq = s.aq ∧
    (s.enterTrack a x forced).il = s.il ∧ (s.enterTrack a x forced).ln = s.ln ∧ (s.enterTrack a x forced).fl = s.fl ∧
    (s.enterTrack a x forced).dm = s.dm ∧ (s.enterTrack a x forced).cm = s.cm := by
  and_intros <;> (unfold State.enterTrack; repeat' (first | with_reducible rfl | (simp; done) | split | with_reducible refine (foldl_inv _ _ _ _ (fun _ _ => ?_)).trans ?_ | (dsimp only; first | split | with_reducible refine (foldl_inv _ _ _ _ (fun _ _ => ?_)).trans ?_)))

@[simp] theorem State.enterTrack_frame3 (s : State) (a : Nat) (x : LoopTerms) (forced : Bool) :
    (s.enterTrack a x forced).cf = s.cf ∧ (s.enterTrack a x forced).pw = s.pw ∧ (s.enterTrack a x forced).th = s.th := by
  and_intros <;> (unfold State.enterTrack; repeat' (first | with_reducible rfl | (simp; done) | split | with_reducible refine (foldl_inv _ _ _ _ (fun _ _ => ?_)).trans ?_ | (dsimp only; first | split | with_reducible refine (foldl_inv _ _ _ _ (fun _ _ => ?_)).trans ?_)))

@[simp] theorem State.trackPeriod_frame (s : State) (a : Nat) (e ef d : Int) (acc : Rat) (inj : Int) :
    (s.trackPeriod a e ef d acc inj).now = s.now ∧ (s.trackPeriod a e ef d acc inj).phase = s.phase ∧
    (s.trackPeriod a e ef d acc inj).pending = s.pending ∧ (s.trackPeriod a e ef d acc inj).nodeOfs = s.nodeOfs ∧
    (s.trackPeriod a e ef d acc inj).freeCtr = s.freeCtr ∧ (s.trackPeriod a e ef d acc inj).tx = s.tx ∧
    (s.trackPeriod a e ef d acc inj).tl = s.tl ∧ (s.trackPeriod a e ef d acc inj).sq = s.sq := by
  and_intros <;> (unfold State.trackPeriod; repeat' (first | with_reducible rfl | (simp; done) | split | with_reducible refine (foldl_inv _ _ _ _ (fun _ _ => ?_)).trans ?_ | (dsimp only; first | split | with_reducible refine (foldl_inv _ _ _ _ (fun _ _ => ?_)).trans ?_)))

@[simp] theorem State.trackPeriod_frame2 (s : State) (a : Nat) (e ef d : Int) (acc : Rat) (inj : Int) :
    (s.trackPeriod a e ef d acc inj).fd = s.fd ∧ (s.trackPeriod a e ef d acc inj).ex = s.ex ∧
    (s.trackPeriod a e ef d acc inj).ax = s.ax ∧ (s.trackPeriod a e ef d acc inj).aq = s.aq ∧
    (s.trackPeriod a e ef d acc inj).il = s.il ∧ (s.trackPeriod a e ef d acc inj).ln = s.ln ∧
    (s.trackPeriod a e ef d acc inj).fl = s.fl ∧ (s.trackPeriod a e ef d acc inj).ev = s.ev := by
  and_intros <;> (unfold State.trackPeriod; repeat' (first | with_reducible rfl | (simp; done) | split | with_reducible refine (foldl_inv _ _ _ _ (fun _ _ => ?_)).trans ?_ | (dsimp only; first | split | with_reducible refine (foldl_inv _ _ _ _ (fun _ _ => ?_)).trans ?_)))

@[simp] theorem State.trackPeriod_frame3 (s : State) (a : Nat) (e ef d : Int) (acc : Rat) (inj : Int) :
    (s.trackPeriod a e ef d acc inj).safe = s.safe ∧ (s.trackPeriod a e ef d acc inj).dm = s.dm ∧
    (s.trackPeriod a e ef d acc inj).cm = s.cm ∧ (s.trackPeriod a e ef d acc inj).cf = s.cf ∧
    (s.trackPeriod a e ef d acc inj).pw = s.pw ∧ (s.trackPeriod a e ef d acc inj).th = s.th := by
  and_intros <;> (unfold State.trackPeriod; repeat' (first | with_reducible rfl | (simp; done) | split | with_reducible refine (foldl_inv _ _ _ _ (fun _ _ => ?_)).trans ?_ | (dsimp only; first | split | with_reducible refine (foldl_inv _ _ _ _ (fun _ _ => ?_)).trans ?_)))

@[simp] theorem State.injRequests_frame (s : State) (a : Nat) :
    (s.injRequests a).now = s.now ∧ (s.injRequests a).phase = s.phase ∧ (s.injRequests a).pending = s.pending ∧
    (s.injRequests a).nodeOfs = s.nodeOfs ∧ (s.injRequests a).freeCtr = s.freeCtr ∧ (s.injRequests a).tx = s.tx ∧
    (s.injRequests a).tl = s.tl ∧ (s.injRequests a).sq = s.sq := by
  and_intros <;> (unfold State.injRequests; repeat' (first | with_reducible rfl | (simp; done) | split | with_reducible refine (foldl_inv _ _ _ _ (fun _ _ => ?_)).trans ?_ | (dsimp only; first | split | with_reducible refine (foldl_inv _ _ _ _ (fun _ _ => ?_)).trans ?_)))

@[simp] theorem State.injRequests_frame2 (s : State) (a : Nat) :
    (s.injRequests a).fd = s.fd ∧ (s.injRequests a).ex = s.ex ∧ (s.injRequests a).ax = s.ax ∧ (s.injRequests a).il = s.il ∧
    (s.injRequests a).ln = s.ln ∧ (s.injRequests a).safe = s.safe ∧ (s.injRequests a).dm = s.dm ∧
    (s.injRequests a).cm = s.cm := by
  and_intros <;> (unfold State.injRequests; repeat' (first | with_reducible rfl | (simp; done) | split | with_reducible refine (foldl_inv _ _ _ _ (fun _ _ => ?_)).trans ?_ | (dsimp only; first | split | with_reducible refine (foldl_inv _ _ _ _ (fun _ _ => ?_)).trans ?_)))

@[simp] theorem State.injRequests_frame3 (s : State) (a : Nat) :
    (s.injRequests a).cf = s.cf ∧ (s.injRequests a).pw = s.pw ∧ (s.injRequests a).th = s.th := by
  and_intros <;> (unfold State.injRequests; repeat' (first | with_reducible rfl | (simp; done) | split | with_reducible refine (foldl_inv _ _ _ _ (fun _ _ => ?_)).trans ?_ | (dsimp only; first | split | with_reducible refine (foldl_inv _ _ _ _ (fun _ _ => ?_)).trans ?_)))

@[simp] theorem State.fitFlyback_frame (s : State) (a : Nat) :
    (s.fitFlyback a).now = s.now ∧ (s.fitFlyback a).phase = s.phase ∧ (s.fitFlyback a).pending = s.pending ∧
    (s.fitFlyback a).nodeOfs = s.nodeOfs ∧ (s.fitFlyback a).freeCtr = s.freeCtr ∧ (s.fitFlyback a).tx = s.tx ∧
    (s.fitFlyback a).regs = s.regs ∧ (s.fitFlyback a).tl = s.tl := by
  and_intros <;> (unfold State.fitFlyback; repeat' (first | with_reducible rfl | (simp; done) | split | with_reducible refine (foldl_inv _ _ _ _ (fun _ _ => ?_)).trans ?_ | (dsimp only; first | split | with_reducible refine (foldl_inv _ _ _ _ (fun _ _ => ?_)).trans ?_)))

@[simp] theorem State.fitFlyback_frame2 (s : State) (a : Nat) :
    (s.fitFlyback a).sq = s.sq ∧ (s.fitFlyback a).fd = s.fd ∧ (s.fitFlyback a).ex = s.ex ∧ (s.fitFlyback a).ax = s.ax ∧
    (s.fitFlyback a).aq = s.aq ∧ (s.fitFlyback a).il = s.il ∧ (s.fitFlyback a).ln = s.ln ∧ (s.fitFlyback a).fl = s.fl := by
  and_intros <;> (unfold State.fitFlyback; repeat' (first | with_reducible rfl | (simp; done) | split | with_reducible refine (foldl_inv _ _ _ _ (fun _ _ => ?_)).trans ?_ | (dsimp only; first | split | with_reducible refine (foldl_inv _ _ _ _ (fun _ _ => ?_)).trans ?_)))

@[simp] theorem State.fitFlyback_frame3 (s : State) (a : Nat) :
    (s.fitFlyback a).safe = s.safe ∧ (s.fitFlyback a).dm = s.dm ∧ (s.fitFlyback a).cm = s.cm ∧ (s.fitFlyback a).cf = s.cf ∧
    (s.fitFlyback a).pw = s.pw ∧ (s.fitFlyback a).th = s.th := by
  and_intros <;> (unfold State.fitFlyback; repeat' (first | with_reducible rfl | (simp; done) | split | with_reducible refine (foldl_inv _ _ _ _ (fun _ _ => ?_)).trans ?_ | (dsimp only; first | split | with_reducible refine (foldl_inv _ _ _ _ (fun _ _ => ?_)).trans ?_)))

@[simp] theorem State.movePhase_frame (s : State) (a : Nat) :
    (s.movePhase a).now = s.now ∧ (s.movePhase a).phase = s.phase ∧ (s.movePhase a).pending = s.pending ∧
    (s.movePhase a).nodeOfs = s.nodeOfs ∧ (s.movePhase a).freeCtr = s.freeCtr ∧ (s.movePhase a).tx = s.tx ∧
    (s.movePhase a).tl = s.tl ∧ (s.movePhase a).sq = s.sq := by
  and_intros <;> (unfold State.movePhase; repeat' (first | with_reducible rfl | (simp; done) | split | with_reducible refine (foldl_inv _ _ _ _ (fun _ _ => ?_)).trans ?_ | (dsimp only; first | split | with_reducible refine (foldl_inv _ _ _ _ (fun _ _ => ?_)).trans ?_)))

@[simp] theorem State.movePhase_frame2 (s : State) (a : Nat) :
    (s.movePhase a).fd = s.fd ∧ (s.movePhase a).ex = s.ex ∧ (s.movePhase a).ax = s.ax ∧ (s.movePhase a).aq = s.aq ∧
    (s.movePhase a).il = s.il ∧ (s.movePhase a).ln = s.ln ∧ (s.movePhase a).fl = s.fl ∧ (s.movePhase a).safe = s.safe := by
  and_intros <;> (unfold State.movePhase; repeat' (first | with_reducible rfl | (simp; done) | split | with_reducible refine (foldl_inv _ _ _ _ (fun _ _ => ?_)).trans ?_ | (dsimp only; first | split | with_reducible refine (foldl_inv _ _ _ _ (fun _ _ => ?_)).trans ?_)))

@[simp] theorem State.movePhase_frame3 (s : State) (a : Nat) :
    (s.movePhase a).dm = s.dm ∧ (s.movePhase a).cm = s.cm ∧ (s.movePhase a).cf = s.cf ∧ (s.movePhase a).pw = s.pw ∧
    (s.movePhase a).th = s.th := by
  and_intros <;> (unfold State.movePhase; repeat' (first | with_reducible rfl | (simp; done) | split | with_reducible refine (foldl_inv _ _ _ _ (fun _ _ => ?_)).trans ?_ | (dsimp only; first | split | with_reducible refine (foldl_inv _ _ _ _ (fun _ _ => ?_)).trans ?_)))

@[simp] theorem State.slewPhase_frame (s : State) (a : Nat) (before : Rat) :
    (s.slewPhase a before).now = s.now ∧ (s.slewPhase a before).phase = s.phase ∧ (s.slewPhase a before).pending = s.pending ∧
    (s.slewPhase a before).nodeOfs = s.nodeOfs ∧ (s.slewPhase a before).freeCtr = s.freeCtr ∧
    (s.slewPhase a before).tx = s.tx ∧ (s.slewPhase a before).tl = s.tl ∧ (s.slewPhase a before).sq = s.sq := by
  and_intros <;> (unfold State.slewPhase; repeat' (first | with_reducible rfl | (simp; done) | split | with_reducible refine (foldl_inv _ _ _ _ (fun _ _ => ?_)).trans ?_ | (dsimp only; first | split | with_reducible refine (foldl_inv _ _ _ _ (fun _ _ => ?_)).trans ?_)))

@[simp] theorem State.slewPhase_frame2 (s : State) (a : Nat) (before : Rat) :
    (s.slewPhase a before).fd = s.fd ∧ (s.slewPhase a before).ex = s.ex ∧ (s.slewPhase a before).ax = s.ax ∧
    (s.slewPhase a before).aq = s.aq ∧ (s.slewPhase a before).il = s.il ∧ (s.slewPhase a before).ln = s.ln ∧
    (s.slewPhase a before).fl = s.fl ∧ (s.slewPhase a before).ev = s.ev := by
  and_intros <;> (unfold State.slewPhase; repeat' (first | with_reducible rfl | (simp; done) | split | with_reducible refine (foldl_inv _ _ _ _ (fun _ _ => ?_)).trans ?_ | (dsimp only; first | split | with_reducible refine (foldl_inv _ _ _ _ (fun _ _ => ?_)).trans ?_)))

@[simp] theorem State.slewPhase_frame3 (s : State) (a : Nat) (before : Rat) :
    (s.slewPhase a before).safe = s.safe ∧ (s.slewPhase a before).dm = s.dm ∧ (s.slewPhase a before).cm = s.cm ∧
    (s.slewPhase a before).cf = s.cf ∧ (s.slewPhase a before).pw = s.pw ∧ (s.slewPhase a before).th = s.th := by
  and_intros <;> (unfold State.slewPhase; repeat' (first | with_reducible rfl | (simp; done) | split | with_reducible refine (foldl_inv _ _ _ _ (fun _ _ => ?_)).trans ?_ | (dsimp only; first | split | with_reducible refine (foldl_inv _ _ _ _ (fun _ _ => ?_)).trans ?_)))

@[simp] theorem State.rampDown_frame (s : State) (a : Nat) :
    (s.rampDown a).now = s.now ∧ (s.rampDown a).phase = s.phase ∧ (s.rampDown a).pending = s.pending ∧
    (s.rampDown a).nodeOfs = s.nodeOfs ∧ (s.rampDown a).freeCtr = s.freeCtr ∧ (s.rampDown a).tx = s.tx ∧
    (s.rampDown a).tl = s.tl ∧ (s.rampDown a).sq = s.sq := by
  and_intros <;> (unfold State.rampDown; repeat' (first | with_reducible rfl | (simp; done) | split | with_reducible refine (foldl_inv _ _ _ _ (fun _ _ => ?_)).trans ?_ | (dsimp only; first | split | with_reducible refine (foldl_inv _ _ _ _ (fun _ _ => ?_)).trans ?_)))

@[simp] theorem State.rampDown_frame2 (s : State) (a : Nat) :
    (s.rampDown a).fd = s.fd ∧ (s.rampDown a).ex = s.ex ∧ (s.rampDown a).aq = s.aq ∧ (s.rampDown a).il = s.il ∧
    (s.rampDown a).ln = s.ln ∧ (s.rampDown a).fl = s.fl ∧ (s.rampDown a).ev = s.ev ∧ (s.rampDown a).dm = s.dm := by
  and_intros <;> (unfold State.rampDown; repeat' (first | with_reducible rfl | (simp; done) | split | with_reducible refine (foldl_inv _ _ _ _ (fun _ _ => ?_)).trans ?_ | (dsimp only; first | split | with_reducible refine (foldl_inv _ _ _ _ (fun _ _ => ?_)).trans ?_)))

@[simp] theorem State.rampDown_frame3 (s : State) (a : Nat) :
    (s.rampDown a).cm = s.cm ∧ (s.rampDown a).cf = s.cf ∧ (s.rampDown a).pw = s.pw ∧ (s.rampDown a).th = s.th := by
  and_intros <;> (unfold State.rampDown; repeat' (first | with_reducible rfl | (simp; done) | split | with_reducible refine (foldl_inv _ _ _ _ (fun _ _ => ?_)).trans ?_ | (dsimp only; first | split | with_reducible refine (foldl_inv _ _ _ _ (fun _ _ => ?_)).trans ?_)))

@[simp] theorem State.acquirePeriod_frame (s : State) (a : Nat) (y : Int) :
    (s.acquirePeriod a y).now = s.now ∧ (s.acquirePeriod a y).phase = s.phase ∧ (s.acquirePeriod a y).pending = s.pending ∧
    (s.acquirePeriod a y).nodeOfs = s.nodeOfs ∧ (s.acquirePeriod a y).freeCtr = s.freeCtr ∧ (s.acquirePeriod a y).tx = s.tx ∧
    (s.acquirePeriod a y).regs = s.regs ∧ (s.acquirePeriod a y).tl = s.tl := by
  and_intros <;> (unfold State.acquirePeriod; repeat' (first | with_reducible rfl | (simp; done) | split | with_reducible refine (foldl_inv _ _ _ _ (fun _ _ => ?_)).trans ?_ | (dsimp only; first | split | with_reducible refine (foldl_inv _ _ _ _ (fun _ _ => ?_)).trans ?_)))

@[simp] theorem State.acquirePeriod_frame2 (s : State) (a : Nat) (y : Int) :
    (s.acquirePeriod a y).sq = s.sq ∧ (s.acquirePeriod a y).fd = s.fd ∧ (s.acquirePeriod a y).ex = s.ex ∧
    (s.acquirePeriod a y).ax = s.ax ∧ (s.acquirePeriod a y).aq = s.aq ∧ (s.acquirePeriod a y).il = s.il ∧
    (s.acquirePeriod a y).ln = s.ln ∧ (s.acquirePeriod a y).fl = s.fl := by
  and_intros <;> (unfold State.acquirePeriod; repeat' (first | with_reducible rfl | (simp; done) | split | with_reducible refine (foldl_inv _ _ _ _ (fun _ _ => ?_)).trans ?_ | (dsimp only; first | split | with_reducible refine (foldl_inv _ _ _ _ (fun _ _ => ?_)).trans ?_)))

@[simp] theorem State.acquirePeriod_frame3 (s : State) (a : Nat) (y : Int) :
    (s.acquirePeriod a y).ev = s.ev ∧ (s.acquirePeriod a y).safe = s.safe ∧ (s.acquirePeriod a y).dm = s.dm ∧
    (s.acquirePeriod a y).cm = s.cm ∧ (s.acquirePeriod a y).cf = s.cf ∧ (s.acquirePeriod a y).pw = s.pw ∧
    (s.acquirePeriod a y).th = s.th := by
  and_intros <;> (unfold State.acquirePeriod; repeat' (first | with_reducible rfl | (simp; done) | split | with_reducible refine (foldl_inv _ _ _ _ (fun _ _ => ?_)).trans ?_ | (dsimp only; first | split | with_reducible refine (foldl_inv _ _ _ _ (fun _ _ => ?_)).trans ?_)))

@[simp] theorem State.drive_frame (s : State) (a : Nat) (y inj : Int) :
    (s.drive a y inj).now = s.now ∧ (s.drive a y inj).phase = s.phase ∧ (s.drive a y inj).pending = s.pending ∧
    (s.drive a y inj).nodeOfs = s.nodeOfs ∧ (s.drive a y inj).freeCtr = s.freeCtr ∧ (s.drive a y inj).tx = s.tx ∧
    (s.drive a y inj).regs = s.regs ∧ (s.drive a y inj).tl = s.tl := by
  and_intros <;> (unfold State.drive; repeat' (first | with_reducible rfl | (simp; done) | split | with_reducible refine (foldl_inv _ _ _ _ (fun _ _ => ?_)).trans ?_ | (dsimp only; first | split | with_reducible refine (foldl_inv _ _ _ _ (fun _ _ => ?_)).trans ?_)))

@[simp] theorem State.drive_frame2 (s : State) (a : Nat) (y inj : Int) :
    (s.drive a y inj).sq = s.sq ∧ (s.drive a y inj).fd = s.fd ∧ (s.drive a y inj).ex = s.ex ∧ (s.drive a y inj).ax = s.ax ∧
    (s.drive a y inj).aq = s.aq ∧ (s.drive a y inj).il = s.il ∧ (s.drive a y inj).ln = s.ln ∧ (s.drive a y inj).fl = s.fl := by
  and_intros <;> (unfold State.drive; repeat' (first | with_reducible rfl | (simp; done) | split | with_reducible refine (foldl_inv _ _ _ _ (fun _ _ => ?_)).trans ?_ | (dsimp only; first | split | with_reducible refine (foldl_inv _ _ _ _ (fun _ _ => ?_)).trans ?_)))

@[simp] theorem State.drive_frame3 (s : State) (a : Nat) (y inj : Int) :
    (s.drive a y inj).ev = s.ev ∧ (s.drive a y inj).safe = s.safe ∧ (s.drive a y inj).dm = s.dm ∧
    (s.drive a y inj).cm = s.cm ∧ (s.drive a y inj).cf = s.cf ∧ (s.drive a y inj).pw = s.pw ∧ (s.drive a y inj).th = s.th := by
  and_intros <;> (unfold State.drive; repeat' (first | with_reducible rfl | (simp; done) | split | with_reducible refine (foldl_inv _ _ _ _ (fun _ _ => ?_)).trans ?_ | (dsimp only; first | split | with_reducible refine (foldl_inv _ _ _ _ (fun _ _ => ?_)).trans ?_)))

@[simp] theorem State.handOver_frame (s : State) (a k : Nat) (e d : Int) (acc : Rat) (y inj : Int) :
    (s.handOver a k e d acc y inj).now = s.now ∧ (s.handOver a k e d acc y inj).phase = s.phase ∧
    (s.handOver a k e d acc y inj).pending = s.pending ∧ (s.handOver a k e d acc y inj).nodeOfs = s.nodeOfs ∧
    (s.handOver a k e d acc y inj).freeCtr = s.freeCtr ∧ (s.handOver a k e d acc y inj).tx = s.tx ∧
    (s.handOver a k e d acc y inj).tl = s.tl ∧ (s.handOver a k e d acc y inj).sq = s.sq := by
  and_intros <;> (unfold State.handOver; repeat' (first | with_reducible rfl | (simp; done) | split | with_reducible refine (foldl_inv _ _ _ _ (fun _ _ => ?_)).trans ?_ | (dsimp only; first | split | with_reducible refine (foldl_inv _ _ _ _ (fun _ _ => ?_)).trans ?_)))

@[simp] theorem State.handOver_frame2 (s : State) (a k : Nat) (e d : Int) (acc : Rat) (y inj : Int) :
    (s.handOver a k e d acc y inj).fd = s.fd ∧ (s.handOver a k e d acc y inj).ex = s.ex ∧
    (s.handOver a k e d acc y inj).aq = s.aq ∧ (s.handOver a k e d acc y inj).il = s.il ∧
    (s.handOver a k e d acc y inj).ln = s.ln ∧ (s.handOver a k e d acc y inj).fl = s.fl ∧
    (s.handOver a k e d acc y inj).dm = s.dm ∧ (s.handOver a k e d acc y inj).cm = s.cm := by
  and_intros <;> (unfold State.handOver; repeat' (first | with_reducible rfl | (simp; done) | split | with_reducible refine (foldl_inv _ _ _ _ (fun _ _ => ?_)).trans ?_ | (dsimp only; first | split | with_reducible refine (foldl_inv _ _ _ _ (fun _ _ => ?_)).trans ?_)))

@[simp] theorem State.handOver_frame3 (s : State) (a k : Nat) (e d : Int) (acc : Rat) (y inj : Int) :
    (s.handOver a k e d acc y inj).cf = s.cf ∧ (s.handOver a k e d acc y inj).pw = s.pw ∧
    (s.handOver a k e d acc y inj).th = s.th := by
  and_intros <;> (unfold State.handOver; repeat' (first | with_reducible rfl | (simp; done) | split | with_reducible refine (foldl_inv _ _ _ _ (fun _ _ => ?_)).trans ?_ | (dsimp only; first | split | with_reducible refine (foldl_inv _ _ _ _ (fun _ _ => ?_)).trans ?_)))

@[simp] theorem State.injAsk_frame (s : State) (a : Nat) :
    (s.injAsk a).now = s.now ∧ (s.injAsk a).phase = s.phase ∧ (s.injAsk a).pending = s.pending ∧
    (s.injAsk a).nodeOfs = s.nodeOfs ∧ (s.injAsk a).freeCtr = s.freeCtr ∧ (s.injAsk a).tx = s.tx ∧
    (s.injAsk a).regs = s.regs ∧ (s.injAsk a).tl = s.tl := by
  and_intros <;> (unfold State.injAsk; repeat' (first | with_reducible rfl | (simp; done) | split | with_reducible refine (foldl_inv _ _ _ _ (fun _ _ => ?_)).trans ?_ | (dsimp only; first | split | with_reducible refine (foldl_inv _ _ _ _ (fun _ _ => ?_)).trans ?_)))

@[simp] theorem State.injAsk_frame2 (s : State) (a : Nat) :
    (s.injAsk a).sq = s.sq ∧ (s.injAsk a).fd = s.fd ∧ (s.injAsk a).ex = s.ex ∧ (s.injAsk a).ax = s.ax ∧
    (s.injAsk a).aq = s.aq ∧ (s.injAsk a).il = s.il ∧ (s.injAsk a).ln = s.ln ∧ (s.injAsk a).fl = s.fl := by
  and_intros <;> (unfold State.injAsk; repeat' (first | with_reducible rfl | (simp; done) | split | with_reducible refine (foldl_inv _ _ _ _ (fun _ _ => ?_)).trans ?_ | (dsimp only; first | split | with_reducible refine (foldl_inv _ _ _ _ (fun _ _ => ?_)).trans ?_)))

@[simp] theorem State.injAsk_frame3 (s : State) (a : Nat) :
    (s.injAsk a).ev = s.ev ∧ (s.injAsk a).safe = s.safe ∧ (s.injAsk a).dm = s.dm ∧ (s.injAsk a).cm = s.cm ∧
    (s.injAsk a).cf = s.cf ∧ (s.injAsk a).pw = s.pw ∧ (s.injAsk a).th = s.th := by
  and_intros <;> (unfold State.injAsk; repeat' (first | with_reducible rfl | (simp; done) | split | with_reducible refine (foldl_inv _ _ _ _ (fun _ _ => ?_)).trans ?_ | (dsimp only; first | split | with_reducible refine (foldl_inv _ _ _ _ (fun _ _ => ?_)).trans ?_)))

@[simp] theorem State.injAskStop_frame (s : State) (a : Nat) :
    (s.injAskStop a).now = s.now ∧ (s.injAskStop a).phase = s.phase ∧ (s.injAskStop a).pending = s.pending ∧
    (s.injAskStop a).nodeOfs = s.nodeOfs ∧ (s.injAskStop a).freeCtr = s.freeCtr ∧ (s.injAskStop a).tx = s.tx ∧
    (s.injAskStop a).regs = s.regs ∧ (s.injAskStop a).tl = s.tl := by
  and_intros <;> (unfold State.injAskStop; repeat' (first | with_reducible rfl | (simp; done) | split | with_reducible refine (foldl_inv _ _ _ _ (fun _ _ => ?_)).trans ?_ | (dsimp only; first | split | with_reducible refine (foldl_inv _ _ _ _ (fun _ _ => ?_)).trans ?_)))

@[simp] theorem State.injAskStop_frame2 (s : State) (a : Nat) :
    (s.injAskStop a).sq = s.sq ∧ (s.injAskStop a).fd = s.fd ∧ (s.injAskStop a).ex = s.ex ∧ (s.injAskStop a).ax = s.ax ∧
    (s.injAskStop a).aq = s.aq ∧ (s.injAskStop a).il = s.il ∧ (s.injAskStop a).ln = s.ln ∧ (s.injAskStop a).fl = s.fl := by
  and_intros <;> (unfold State.injAskStop; repeat' (first | with_reducible rfl | (simp; done) | split | with_reducible refine (foldl_inv _ _ _ _ (fun _ _ => ?_)).trans ?_ | (dsimp only; first | split | with_reducible refine (foldl_inv _ _ _ _ (fun _ _ => ?_)).trans ?_)))

@[simp] theorem State.injAskStop_frame3 (s : State) (a : Nat) :
    (s.injAskStop a).ev = s.ev ∧ (s.injAskStop a).safe = s.safe ∧ (s.injAskStop a).dm = s.dm ∧ (s.injAskStop a).cm = s.cm ∧
    (s.injAskStop a).cf = s.cf ∧ (s.injAskStop a).pw = s.pw ∧ (s.injAskStop a).th = s.th := by
  and_intros <;> (unfold State.injAskStop; repeat' (first | with_reducible rfl | (simp; done) | split | with_reducible refine (foldl_inv _ _ _ _ (fun _ _ => ?_)).trans ?_ | (dsimp only; first | split | with_reducible refine (foldl_inv _ _ _ _ (fun _ _ => ?_)).trans ?_)))

@[simp] theorem State.startFlyback_frame (s : State) (a : Nat) :
    (s.startFlyback a).now = s.now ∧ (s.startFlyback a).phase = s.phase ∧ (s.startFlyback a).pending = s.pending ∧
    (s.startFlyback a).nodeOfs = s.nodeOfs ∧ (s.startFlyback a).freeCtr = s.freeCtr ∧ (s.startFlyback a).tx = s.tx ∧
    (s.startFlyback a).regs = s.regs ∧ (s.startFlyback a).tl = s.tl := by
  and_intros <;> (unfold State.startFlyback; repeat' (first | with_reducible rfl | (simp; done) | split | with_reducible refine (foldl_inv _ _ _ _ (fun _ _ => ?_)).trans ?_ | (dsimp only; first | split | with_reducible refine (foldl_inv _ _ _ _ (fun _ _ => ?_)).trans ?_)))

@[simp] theorem State.startFlyback_frame2 (s : State) (a : Nat) :
    (s.startFlyback a).sq = s.sq ∧ (s.startFlyback a).fd = s.fd ∧ (s.startFlyback a).ex = s.ex ∧
    (s.startFlyback a).ax = s.ax ∧ (s.startFlyback a).aq = s.aq ∧ (s.startFlyback a).il = s.il ∧
    (s.startFlyback a).ln = s.ln ∧ (s.startFlyback a).fl = s.fl := by
  and_intros <;> (unfold State.startFlyback; repeat' (first | with_reducible rfl | (simp; done) | split | with_reducible refine (foldl_inv _ _ _ _ (fun _ _ => ?_)).trans ?_ | (dsimp only; first | split | with_reducible refine (foldl_inv _ _ _ _ (fun _ _ => ?_)).trans ?_)))

@[simp] theorem State.startFlyback_frame3 (s : State) (a : Nat) :
    (s.startFlyback a).safe = s.safe ∧ (s.startFlyback a).dm = s.dm ∧ (s.startFlyback a).cm = s.cm ∧
    (s.startFlyback a).cf = s.cf ∧ (s.startFlyback a).pw = s.pw ∧ (s.startFlyback a).th = s.th := by
  and_intros <;> (unfold State.startFlyback; repeat' (first | with_reducible rfl | (simp; done) | split | with_reducible refine (foldl_inv _ _ _ _ (fun _ _ => ?_)).trans ?_ | (dsimp only; first | split | with_reducible refine (foldl_inv _ _ _ _ (fun _ _ => ?_)).trans ?_)))

@[simp] theorem State.svCntClr_frame (s : State) :
    (s.svCntClr).now = s.now ∧ (s.svCntClr).phase = s.phase ∧ (s.svCntClr).pending = s.pending ∧
    (s.svCntClr).nodeOfs = s.nodeOfs ∧ (s.svCntClr).freeCtr = s.freeCtr ∧ (s.svCntClr).tx = s.tx ∧ (s.svCntClr).tl = s.tl ∧
    (s.svCntClr).sq = s.sq := by
  and_intros <;> (unfold State.svCntClr; repeat' (first | with_reducible rfl | (simp; done) | split | with_reducible refine (foldl_inv _ _ _ _ (fun _ _ => ?_)).trans ?_ | (dsimp only; first | split | with_reducible refine (foldl_inv _ _ _ _ (fun _ _ => ?_)).trans ?_)))

@[simp] theorem State.svCntClr_frame2 (s : State) :
    (s.svCntClr).fd = s.fd ∧ (s.svCntClr).ex = s.ex ∧ (s.svCntClr).sv = s.sv ∧ (s.svCntClr).ax = s.ax ∧
    (s.svCntClr).aq = s.aq ∧ (s.svCntClr).il = s.il ∧ (s.svCntClr).ln = s.ln ∧ (s.svCntClr).fl = s.fl := by
  and_intros <;> (unfold State.svCntClr; repeat' (first | with_reducible rfl | (simp; done) | split | with_reducible refine (foldl_inv _ _ _ _ (fun _ _ => ?_)).trans ?_ | (dsimp only; first | split | with_reducible refine (foldl_inv _ _ _ _ (fun _ _ => ?_)).trans ?_)))

@[simp] theorem State.svCntClr_frame3 (s : State) :
    (s.svCntClr).ev = s.ev ∧ (s.svCntClr).safe = s.safe ∧ (s.svCntClr).dm = s.dm ∧ (s.svCntClr).cm = s.cm ∧
    (s.svCntClr).cf = s.cf ∧ (s.svCntClr).pw = s.pw ∧ (s.svCntClr).th = s.th := by
  and_intros <;> (unfold State.svCntClr; repeat' (first | with_reducible rfl | (simp; done) | split | with_reducible refine (foldl_inv _ _ _ _ (fun _ _ => ?_)).trans ?_ | (dsimp only; first | split | with_reducible refine (foldl_inv _ _ _ _ (fun _ _ => ?_)).trans ?_)))

@[simp] theorem State.injEnd_parts (s : State) (a : Nat) :
    (s.injEnd a).regs.setA = s.regs.setA ∧ (s.injEnd a).regs.setB = s.regs.setB ∧ (s.injEnd a).regs.one = s.regs.one ∧
    (s.injEnd a).regs.rsvd = s.regs.rsvd ∧ (s.injEnd a).regs.waiting = s.regs.waiting ∧
    (s.injEnd a).regs.stale = s.regs.stale ∧ (s.injEnd a).regs.posted = s.regs.posted := by
  and_intros <;> (unfold State.injEnd; repeat' (first | with_reducible rfl | (simp; done) | split | with_reducible refine (State.regs_setA_foldl _ _ _ (fun _ _ => ?_)).trans ?_ | with_reducible refine (State.regs_setB_foldl _ _ _ (fun _ _ => ?_)).trans ?_ | with_reducible refine (State.regs_one_foldl _ _ _ (fun _ _ => ?_)).trans ?_ | with_reducible refine (State.regs_rsvd_foldl _ _ _ (fun _ _ => ?_)).trans ?_ | with_reducible refine (State.regs_waiting_foldl _ _ _ (fun _ _ => ?_)).trans ?_ | with_reducible refine (State.regs_stale_foldl _ _ _ (fun _ _ => ?_)).trans ?_ | with_reducible refine (State.regs_posted_foldl _ _ _ (fun _ _ => ?_)).trans ?_ | with_reducible refine (State.fd_mem_foldl _ _ _ (fun _ _ => ?_)).trans ?_ | with_reducible refine (State.dm_sram_foldl _ _ _ (fun _ _ => ?_)).trans ?_ | with_reducible refine (State.sq_frameNo_foldl _ _ _ (fun _ _ => ?_)).trans ?_ | with_reducible refine (State.sq_inScan_foldl _ _ _ (fun _ _ => ?_)).trans ?_ | with_reducible refine (State.sq_nextBoundary_foldl _ _ _ (fun _ _ => ?_)).trans ?_ | with_reducible refine (State.pw_gate_foldl _ _ _ (fun _ _ => ?_)).trans ?_ | (dsimp only; first | split | with_reducible refine (State.regs_setA_foldl _ _ _ (fun _ _ => ?_)).trans ?_ | with_reducible refine (State.regs_setB_foldl _ _ _ (fun _ _ => ?_)).trans ?_ | with_reducible refine (State.regs_one_foldl _ _ _ (fun _ _ => ?_)).trans ?_ | with_reducible refine (State.regs_rsvd_foldl _ _ _ (fun _ _ => ?_)).trans ?_ | with_reducible refine (State.regs_waiting_foldl _ _ _ (fun _ _ => ?_)).trans ?_ | with_reducible refine (State.regs_stale_foldl _ _ _ (fun _ _ => ?_)).trans ?_ | with_reducible refine (State.regs_posted_foldl _ _ _ (fun _ _ => ?_)).trans ?_ | with_reducible refine (State.fd_mem_foldl _ _ _ (fun _ _ => ?_)).trans ?_ | with_reducible refine (State.dm_sram_foldl _ _ _ (fun _ _ => ?_)).trans ?_ | with_reducible refine (State.sq_frameNo_foldl _ _ _ (fun _ _ => ?_)).trans ?_ | with_reducible refine (State.sq_inScan_foldl _ _ _ (fun _ _ => ?_)).trans ?_ | with_reducible refine (State.sq_nextBoundary_foldl _ _ _ (fun _ _ => ?_)).trans ?_ | with_reducible refine (State.pw_gate_foldl _ _ _ (fun _ _ => ?_)).trans ?_)))

@[simp] theorem State.showI_parts (s : State) (a : Nat) :
    (s.showI a).regs.setA = s.regs.setA ∧ (s.showI a).regs.setB = s.regs.setB ∧ (s.showI a).regs.one = s.regs.one ∧
    (s.showI a).regs.rsvd = s.regs.rsvd ∧ (s.showI a).regs.waiting = s.regs.waiting ∧ (s.showI a).regs.stale = s.regs.stale ∧
    (s.showI a).regs.posted = s.regs.posted := by
  and_intros <;> (unfold State.showI; repeat' (first | with_reducible rfl | (simp; done) | split | with_reducible refine (State.regs_setA_foldl _ _ _ (fun _ _ => ?_)).trans ?_ | with_reducible refine (State.regs_setB_foldl _ _ _ (fun _ _ => ?_)).trans ?_ | with_reducible refine (State.regs_one_foldl _ _ _ (fun _ _ => ?_)).trans ?_ | with_reducible refine (State.regs_rsvd_foldl _ _ _ (fun _ _ => ?_)).trans ?_ | with_reducible refine (State.regs_waiting_foldl _ _ _ (fun _ _ => ?_)).trans ?_ | with_reducible refine (State.regs_stale_foldl _ _ _ (fun _ _ => ?_)).trans ?_ | with_reducible refine (State.regs_posted_foldl _ _ _ (fun _ _ => ?_)).trans ?_ | with_reducible refine (State.fd_mem_foldl _ _ _ (fun _ _ => ?_)).trans ?_ | with_reducible refine (State.dm_sram_foldl _ _ _ (fun _ _ => ?_)).trans ?_ | with_reducible refine (State.sq_frameNo_foldl _ _ _ (fun _ _ => ?_)).trans ?_ | with_reducible refine (State.sq_inScan_foldl _ _ _ (fun _ _ => ?_)).trans ?_ | with_reducible refine (State.sq_nextBoundary_foldl _ _ _ (fun _ _ => ?_)).trans ?_ | with_reducible refine (State.pw_gate_foldl _ _ _ (fun _ _ => ?_)).trans ?_ | (dsimp only; first | split | with_reducible refine (State.regs_setA_foldl _ _ _ (fun _ _ => ?_)).trans ?_ | with_reducible refine (State.regs_setB_foldl _ _ _ (fun _ _ => ?_)).trans ?_ | with_reducible refine (State.regs_one_foldl _ _ _ (fun _ _ => ?_)).trans ?_ | with_reducible refine (State.regs_rsvd_foldl _ _ _ (fun _ _ => ?_)).trans ?_ | with_reducible refine (State.regs_waiting_foldl _ _ _ (fun _ _ => ?_)).trans ?_ | with_reducible refine (State.regs_stale_foldl _ _ _ (fun _ _ => ?_)).trans ?_ | with_reducible refine (State.regs_posted_foldl _ _ _ (fun _ _ => ?_)).trans ?_ | with_reducible refine (State.fd_mem_foldl _ _ _ (fun _ _ => ?_)).trans ?_ | with_reducible refine (State.dm_sram_foldl _ _ _ (fun _ _ => ?_)).trans ?_ | with_reducible refine (State.sq_frameNo_foldl _ _ _ (fun _ _ => ?_)).trans ?_ | with_reducible refine (State.sq_inScan_foldl _ _ _ (fun _ _ => ?_)).trans ?_ | with_reducible refine (State.sq_nextBoundary_foldl _ _ _ (fun _ _ => ?_)).trans ?_ | with_reducible refine (State.pw_gate_foldl _ _ _ (fun _ _ => ?_)).trans ?_)))

@[simp] theorem State.toState_parts (s : State) (a st : Nat) :
    (s.toState a st).regs.setA = s.regs.setA ∧ (s.toState a st).regs.setB = s.regs.setB ∧
    (s.toState a st).regs.one = s.regs.one ∧ (s.toState a st).regs.rsvd = s.regs.rsvd ∧
    (s.toState a st).regs.waiting = s.regs.waiting ∧ (s.toState a st).regs.stale = s.regs.stale ∧
    (s.toState a st).regs.posted = s.regs.posted := by
  and_intros <;> (unfold State.toState; repeat' (first | with_reducible rfl | (simp; done) | split | with_reducible refine (State.regs_setA_foldl _ _ _ (fun _ _ => ?_)).trans ?_ | with_reducible refine (State.regs_setB_foldl _ _ _ (fun _ _ => ?_)).trans ?_ | with_reducible refine (State.regs_one_foldl _ _ _ (fun _ _ => ?_)).trans ?_ | with_reducible refine (State.regs_rsvd_foldl _ _ _ (fun _ _ => ?_)).trans ?_ | with_reducible refine (State.regs_waiting_foldl _ _ _ (fun _ _ => ?_)).trans ?_ | with_reducible refine (State.regs_stale_foldl _ _ _ (fun _ _ => ?_)).trans ?_ | with_reducible refine (State.regs_posted_foldl _ _ _ (fun _ _ => ?_)).trans ?_ | with_reducible refine (State.fd_mem_foldl _ _ _ (fun _ _ => ?_)).trans ?_ | with_reducible refine (State.dm_sram_foldl _ _ _ (fun _ _ => ?_)).trans ?_ | with_reducible refine (State.sq_frameNo_foldl _ _ _ (fun _ _ => ?_)).trans ?_ | with_reducible refine (State.sq_inScan_foldl _ _ _ (fun _ _ => ?_)).trans ?_ | with_reducible refine (State.sq_nextBoundary_foldl _ _ _ (fun _ _ => ?_)).trans ?_ | with_reducible refine (State.pw_gate_foldl _ _ _ (fun _ _ => ?_)).trans ?_ | (dsimp only; first | split | with_reducible refine (State.regs_setA_foldl _ _ _ (fun _ _ => ?_)).trans ?_ | with_reducible refine (State.regs_setB_foldl _ _ _ (fun _ _ => ?_)).trans ?_ | with_reducible refine (State.regs_one_foldl _ _ _ (fun _ _ => ?_)).trans ?_ | with_reducible refine (State.regs_rsvd_foldl _ _ _ (fun _ _ => ?_)).trans ?_ | with_reducible refine (State.regs_waiting_foldl _ _ _ (fun _ _ => ?_)).trans ?_ | with_reducible refine (State.regs_stale_foldl _ _ _ (fun _ _ => ?_)).trans ?_ | with_reducible refine (State.regs_posted_foldl _ _ _ (fun _ _ => ?_)).trans ?_ | with_reducible refine (State.fd_mem_foldl _ _ _ (fun _ _ => ?_)).trans ?_ | with_reducible refine (State.dm_sram_foldl _ _ _ (fun _ _ => ?_)).trans ?_ | with_reducible refine (State.sq_frameNo_foldl _ _ _ (fun _ _ => ?_)).trans ?_ | with_reducible refine (State.sq_inScan_foldl _ _ _ (fun _ _ => ?_)).trans ?_ | with_reducible refine (State.sq_nextBoundary_foldl _ _ _ (fun _ _ => ?_)).trans ?_ | with_reducible refine (State.pw_gate_foldl _ _ _ (fun _ _ => ?_)).trans ?_)))

@[simp] theorem State.axisFault_parts (s : State) (a cause : Nat) :
    (s.axisFault a cause).regs.setA = s.regs.setA ∧ (s.axisFault a cause).regs.setB = s.regs.setB ∧
    (s.axisFault a cause).regs.one = s.regs.one ∧ (s.axisFault a cause).regs.rsvd = s.regs.rsvd ∧
    (s.axisFault a cause).regs.waiting = s.regs.waiting ∧ (s.axisFault a cause).regs.stale = s.regs.stale ∧
    (s.axisFault a cause).regs.posted = s.regs.posted := by
  and_intros <;> (unfold State.axisFault; repeat' (first | with_reducible rfl | (simp; done) | split | with_reducible refine (State.regs_setA_foldl _ _ _ (fun _ _ => ?_)).trans ?_ | with_reducible refine (State.regs_setB_foldl _ _ _ (fun _ _ => ?_)).trans ?_ | with_reducible refine (State.regs_one_foldl _ _ _ (fun _ _ => ?_)).trans ?_ | with_reducible refine (State.regs_rsvd_foldl _ _ _ (fun _ _ => ?_)).trans ?_ | with_reducible refine (State.regs_waiting_foldl _ _ _ (fun _ _ => ?_)).trans ?_ | with_reducible refine (State.regs_stale_foldl _ _ _ (fun _ _ => ?_)).trans ?_ | with_reducible refine (State.regs_posted_foldl _ _ _ (fun _ _ => ?_)).trans ?_ | with_reducible refine (State.fd_mem_foldl _ _ _ (fun _ _ => ?_)).trans ?_ | with_reducible refine (State.dm_sram_foldl _ _ _ (fun _ _ => ?_)).trans ?_ | with_reducible refine (State.sq_frameNo_foldl _ _ _ (fun _ _ => ?_)).trans ?_ | with_reducible refine (State.sq_inScan_foldl _ _ _ (fun _ _ => ?_)).trans ?_ | with_reducible refine (State.sq_nextBoundary_foldl _ _ _ (fun _ _ => ?_)).trans ?_ | with_reducible refine (State.pw_gate_foldl _ _ _ (fun _ _ => ?_)).trans ?_ | (dsimp only; first | split | with_reducible refine (State.regs_setA_foldl _ _ _ (fun _ _ => ?_)).trans ?_ | with_reducible refine (State.regs_setB_foldl _ _ _ (fun _ _ => ?_)).trans ?_ | with_reducible refine (State.regs_one_foldl _ _ _ (fun _ _ => ?_)).trans ?_ | with_reducible refine (State.regs_rsvd_foldl _ _ _ (fun _ _ => ?_)).trans ?_ | with_reducible refine (State.regs_waiting_foldl _ _ _ (fun _ _ => ?_)).trans ?_ | with_reducible refine (State.regs_stale_foldl _ _ _ (fun _ _ => ?_)).trans ?_ | with_reducible refine (State.regs_posted_foldl _ _ _ (fun _ _ => ?_)).trans ?_ | with_reducible refine (State.fd_mem_foldl _ _ _ (fun _ _ => ?_)).trans ?_ | with_reducible refine (State.dm_sram_foldl _ _ _ (fun _ _ => ?_)).trans ?_ | with_reducible refine (State.sq_frameNo_foldl _ _ _ (fun _ _ => ?_)).trans ?_ | with_reducible refine (State.sq_inScan_foldl _ _ _ (fun _ _ => ?_)).trans ?_ | with_reducible refine (State.sq_nextBoundary_foldl _ _ _ (fun _ _ => ?_)).trans ?_ | with_reducible refine (State.pw_gate_foldl _ _ _ (fun _ _ => ?_)).trans ?_)))

@[simp] theorem State.modeRequest_parts (s : State) (a : Nat) :
    (s.modeRequest a).regs.setA = s.regs.setA ∧ (s.modeRequest a).regs.setB = s.regs.setB ∧
    (s.modeRequest a).regs.one = s.regs.one ∧ (s.modeRequest a).regs.rsvd = s.regs.rsvd ∧
    (s.modeRequest a).regs.waiting = s.regs.waiting ∧ (s.modeRequest a).regs.stale = s.regs.stale ∧
    (s.modeRequest a).regs.posted = s.regs.posted := by
  and_intros <;> (unfold State.modeRequest; repeat' (first | with_reducible rfl | (simp; done) | split | with_reducible refine (State.regs_setA_foldl _ _ _ (fun _ _ => ?_)).trans ?_ | with_reducible refine (State.regs_setB_foldl _ _ _ (fun _ _ => ?_)).trans ?_ | with_reducible refine (State.regs_one_foldl _ _ _ (fun _ _ => ?_)).trans ?_ | with_reducible refine (State.regs_rsvd_foldl _ _ _ (fun _ _ => ?_)).trans ?_ | with_reducible refine (State.regs_waiting_foldl _ _ _ (fun _ _ => ?_)).trans ?_ | with_reducible refine (State.regs_stale_foldl _ _ _ (fun _ _ => ?_)).trans ?_ | with_reducible refine (State.regs_posted_foldl _ _ _ (fun _ _ => ?_)).trans ?_ | with_reducible refine (State.fd_mem_foldl _ _ _ (fun _ _ => ?_)).trans ?_ | with_reducible refine (State.dm_sram_foldl _ _ _ (fun _ _ => ?_)).trans ?_ | with_reducible refine (State.sq_frameNo_foldl _ _ _ (fun _ _ => ?_)).trans ?_ | with_reducible refine (State.sq_inScan_foldl _ _ _ (fun _ _ => ?_)).trans ?_ | with_reducible refine (State.sq_nextBoundary_foldl _ _ _ (fun _ _ => ?_)).trans ?_ | with_reducible refine (State.pw_gate_foldl _ _ _ (fun _ _ => ?_)).trans ?_ | (dsimp only; first | split | with_reducible refine (State.regs_setA_foldl _ _ _ (fun _ _ => ?_)).trans ?_ | with_reducible refine (State.regs_setB_foldl _ _ _ (fun _ _ => ?_)).trans ?_ | with_reducible refine (State.regs_one_foldl _ _ _ (fun _ _ => ?_)).trans ?_ | with_reducible refine (State.regs_rsvd_foldl _ _ _ (fun _ _ => ?_)).trans ?_ | with_reducible refine (State.regs_waiting_foldl _ _ _ (fun _ _ => ?_)).trans ?_ | with_reducible refine (State.regs_stale_foldl _ _ _ (fun _ _ => ?_)).trans ?_ | with_reducible refine (State.regs_posted_foldl _ _ _ (fun _ _ => ?_)).trans ?_ | with_reducible refine (State.fd_mem_foldl _ _ _ (fun _ _ => ?_)).trans ?_ | with_reducible refine (State.dm_sram_foldl _ _ _ (fun _ _ => ?_)).trans ?_ | with_reducible refine (State.sq_frameNo_foldl _ _ _ (fun _ _ => ?_)).trans ?_ | with_reducible refine (State.sq_inScan_foldl _ _ _ (fun _ _ => ?_)).trans ?_ | with_reducible refine (State.sq_nextBoundary_foldl _ _ _ (fun _ _ => ?_)).trans ?_ | with_reducible refine (State.pw_gate_foldl _ _ _ (fun _ _ => ?_)).trans ?_)))

@[simp] theorem State.judgeErr_parts (s : State) (a : Nat) :
    (s.judgeErr a).regs.setA = s.regs.setA ∧ (s.judgeErr a).regs.setB = s.regs.setB ∧ (s.judgeErr a).regs.one = s.regs.one ∧
    (s.judgeErr a).regs.rsvd = s.regs.rsvd ∧ (s.judgeErr a).regs.waiting = s.regs.waiting ∧
    (s.judgeErr a).regs.stale = s.regs.stale ∧ (s.judgeErr a).regs.posted = s.regs.posted := by
  and_intros <;> (unfold State.judgeErr; repeat' (first | with_reducible rfl | (simp; done) | split | with_reducible refine (State.regs_setA_foldl _ _ _ (fun _ _ => ?_)).trans ?_ | with_reducible refine (State.regs_setB_foldl _ _ _ (fun _ _ => ?_)).trans ?_ | with_reducible refine (State.regs_one_foldl _ _ _ (fun _ _ => ?_)).trans ?_ | with_reducible refine (State.regs_rsvd_foldl _ _ _ (fun _ _ => ?_)).trans ?_ | with_reducible refine (State.regs_waiting_foldl _ _ _ (fun _ _ => ?_)).trans ?_ | with_reducible refine (State.regs_stale_foldl _ _ _ (fun _ _ => ?_)).trans ?_ | with_reducible refine (State.regs_posted_foldl _ _ _ (fun _ _ => ?_)).trans ?_ | with_reducible refine (State.fd_mem_foldl _ _ _ (fun _ _ => ?_)).trans ?_ | with_reducible refine (State.dm_sram_foldl _ _ _ (fun _ _ => ?_)).trans ?_ | with_reducible refine (State.sq_frameNo_foldl _ _ _ (fun _ _ => ?_)).trans ?_ | with_reducible refine (State.sq_inScan_foldl _ _ _ (fun _ _ => ?_)).trans ?_ | with_reducible refine (State.sq_nextBoundary_foldl _ _ _ (fun _ _ => ?_)).trans ?_ | with_reducible refine (State.pw_gate_foldl _ _ _ (fun _ _ => ?_)).trans ?_ | (dsimp only; first | split | with_reducible refine (State.regs_setA_foldl _ _ _ (fun _ _ => ?_)).trans ?_ | with_reducible refine (State.regs_setB_foldl _ _ _ (fun _ _ => ?_)).trans ?_ | with_reducible refine (State.regs_one_foldl _ _ _ (fun _ _ => ?_)).trans ?_ | with_reducible refine (State.regs_rsvd_foldl _ _ _ (fun _ _ => ?_)).trans ?_ | with_reducible refine (State.regs_waiting_foldl _ _ _ (fun _ _ => ?_)).trans ?_ | with_reducible refine (State.regs_stale_foldl _ _ _ (fun _ _ => ?_)).trans ?_ | with_reducible refine (State.regs_posted_foldl _ _ _ (fun _ _ => ?_)).trans ?_ | with_reducible refine (State.fd_mem_foldl _ _ _ (fun _ _ => ?_)).trans ?_ | with_reducible refine (State.dm_sram_foldl _ _ _ (fun _ _ => ?_)).trans ?_ | with_reducible refine (State.sq_frameNo_foldl _ _ _ (fun _ _ => ?_)).trans ?_ | with_reducible refine (State.sq_inScan_foldl _ _ _ (fun _ _ => ?_)).trans ?_ | with_reducible refine (State.sq_nextBoundary_foldl _ _ _ (fun _ _ => ?_)).trans ?_ | with_reducible refine (State.pw_gate_foldl _ _ _ (fun _ _ => ?_)).trans ?_)))

@[simp] theorem State.enterTrack_parts (s : State) (a : Nat) (x : LoopTerms) (forced : Bool) :
    (s.enterTrack a x forced).regs.setA = s.regs.setA ∧ (s.enterTrack a x forced).regs.setB = s.regs.setB ∧
    (s.enterTrack a x forced).regs.one = s.regs.one ∧ (s.enterTrack a x forced).regs.rsvd = s.regs.rsvd ∧
    (s.enterTrack a x forced).regs.waiting = s.regs.waiting ∧ (s.enterTrack a x forced).regs.stale = s.regs.stale ∧
    (s.enterTrack a x forced).regs.posted = s.regs.posted := by
  and_intros <;> (unfold State.enterTrack; repeat' (first | with_reducible rfl | (simp; done) | split | with_reducible refine (State.regs_setA_foldl _ _ _ (fun _ _ => ?_)).trans ?_ | with_reducible refine (State.regs_setB_foldl _ _ _ (fun _ _ => ?_)).trans ?_ | with_reducible refine (State.regs_one_foldl _ _ _ (fun _ _ => ?_)).trans ?_ | with_reducible refine (State.regs_rsvd_foldl _ _ _ (fun _ _ => ?_)).trans ?_ | with_reducible refine (State.regs_waiting_foldl _ _ _ (fun _ _ => ?_)).trans ?_ | with_reducible refine (State.regs_stale_foldl _ _ _ (fun _ _ => ?_)).trans ?_ | with_reducible refine (State.regs_posted_foldl _ _ _ (fun _ _ => ?_)).trans ?_ | with_reducible refine (State.fd_mem_foldl _ _ _ (fun _ _ => ?_)).trans ?_ | with_reducible refine (State.dm_sram_foldl _ _ _ (fun _ _ => ?_)).trans ?_ | with_reducible refine (State.sq_frameNo_foldl _ _ _ (fun _ _ => ?_)).trans ?_ | with_reducible refine (State.sq_inScan_foldl _ _ _ (fun _ _ => ?_)).trans ?_ | with_reducible refine (State.sq_nextBoundary_foldl _ _ _ (fun _ _ => ?_)).trans ?_ | with_reducible refine (State.pw_gate_foldl _ _ _ (fun _ _ => ?_)).trans ?_ | (dsimp only; first | split | with_reducible refine (State.regs_setA_foldl _ _ _ (fun _ _ => ?_)).trans ?_ | with_reducible refine (State.regs_setB_foldl _ _ _ (fun _ _ => ?_)).trans ?_ | with_reducible refine (State.regs_one_foldl _ _ _ (fun _ _ => ?_)).trans ?_ | with_reducible refine (State.regs_rsvd_foldl _ _ _ (fun _ _ => ?_)).trans ?_ | with_reducible refine (State.regs_waiting_foldl _ _ _ (fun _ _ => ?_)).trans ?_ | with_reducible refine (State.regs_stale_foldl _ _ _ (fun _ _ => ?_)).trans ?_ | with_reducible refine (State.regs_posted_foldl _ _ _ (fun _ _ => ?_)).trans ?_ | with_reducible refine (State.fd_mem_foldl _ _ _ (fun _ _ => ?_)).trans ?_ | with_reducible refine (State.dm_sram_foldl _ _ _ (fun _ _ => ?_)).trans ?_ | with_reducible refine (State.sq_frameNo_foldl _ _ _ (fun _ _ => ?_)).trans ?_ | with_reducible refine (State.sq_inScan_foldl _ _ _ (fun _ _ => ?_)).trans ?_ | with_reducible refine (State.sq_nextBoundary_foldl _ _ _ (fun _ _ => ?_)).trans ?_ | with_reducible refine (State.pw_gate_foldl _ _ _ (fun _ _ => ?_)).trans ?_)))

@[simp] theorem State.movePhase_parts (s : State) (a : Nat) :
    (s.movePhase a).regs.setA = s.regs.setA ∧ (s.movePhase a).regs.setB = s.regs.setB ∧
    (s.movePhase a).regs.one = s.regs.one ∧ (s.movePhase a).regs.rsvd = s.regs.rsvd ∧
    (s.movePhase a).regs.waiting = s.regs.waiting ∧ (s.movePhase a).regs.stale = s.regs.stale ∧
    (s.movePhase a).regs.posted = s.regs.posted := by
  and_intros <;> (unfold State.movePhase; repeat' (first | with_reducible rfl | (simp; done) | split | with_reducible refine (State.regs_setA_foldl _ _ _ (fun _ _ => ?_)).trans ?_ | with_reducible refine (State.regs_setB_foldl _ _ _ (fun _ _ => ?_)).trans ?_ | with_reducible refine (State.regs_one_foldl _ _ _ (fun _ _ => ?_)).trans ?_ | with_reducible refine (State.regs_rsvd_foldl _ _ _ (fun _ _ => ?_)).trans ?_ | with_reducible refine (State.regs_waiting_foldl _ _ _ (fun _ _ => ?_)).trans ?_ | with_reducible refine (State.regs_stale_foldl _ _ _ (fun _ _ => ?_)).trans ?_ | with_reducible refine (State.regs_posted_foldl _ _ _ (fun _ _ => ?_)).trans ?_ | with_reducible refine (State.fd_mem_foldl _ _ _ (fun _ _ => ?_)).trans ?_ | with_reducible refine (State.dm_sram_foldl _ _ _ (fun _ _ => ?_)).trans ?_ | with_reducible refine (State.sq_frameNo_foldl _ _ _ (fun _ _ => ?_)).trans ?_ | with_reducible refine (State.sq_inScan_foldl _ _ _ (fun _ _ => ?_)).trans ?_ | with_reducible refine (State.sq_nextBoundary_foldl _ _ _ (fun _ _ => ?_)).trans ?_ | with_reducible refine (State.pw_gate_foldl _ _ _ (fun _ _ => ?_)).trans ?_ | (dsimp only; first | split | with_reducible refine (State.regs_setA_foldl _ _ _ (fun _ _ => ?_)).trans ?_ | with_reducible refine (State.regs_setB_foldl _ _ _ (fun _ _ => ?_)).trans ?_ | with_reducible refine (State.regs_one_foldl _ _ _ (fun _ _ => ?_)).trans ?_ | with_reducible refine (State.regs_rsvd_foldl _ _ _ (fun _ _ => ?_)).trans ?_ | with_reducible refine (State.regs_waiting_foldl _ _ _ (fun _ _ => ?_)).trans ?_ | with_reducible refine (State.regs_stale_foldl _ _ _ (fun _ _ => ?_)).trans ?_ | with_reducible refine (State.regs_posted_foldl _ _ _ (fun _ _ => ?_)).trans ?_ | with_reducible refine (State.fd_mem_foldl _ _ _ (fun _ _ => ?_)).trans ?_ | with_reducible refine (State.dm_sram_foldl _ _ _ (fun _ _ => ?_)).trans ?_ | with_reducible refine (State.sq_frameNo_foldl _ _ _ (fun _ _ => ?_)).trans ?_ | with_reducible refine (State.sq_inScan_foldl _ _ _ (fun _ _ => ?_)).trans ?_ | with_reducible refine (State.sq_nextBoundary_foldl _ _ _ (fun _ _ => ?_)).trans ?_ | with_reducible refine (State.pw_gate_foldl _ _ _ (fun _ _ => ?_)).trans ?_)))

@[simp] theorem State.slewPhase_parts (s : State) (a : Nat) (before : Rat) :
    (s.slewPhase a before).regs.setA = s.regs.setA ∧ (s.slewPhase a before).regs.setB = s.regs.setB ∧
    (s.slewPhase a before).regs.one = s.regs.one ∧ (s.slewPhase a before).regs.rsvd = s.regs.rsvd ∧
    (s.slewPhase a before).regs.waiting = s.regs.waiting ∧ (s.slewPhase a before).regs.stale = s.regs.stale ∧
    (s.slewPhase a before).regs.posted = s.regs.posted := by
  and_intros <;> (unfold State.slewPhase; repeat' (first | with_reducible rfl | (simp; done) | split | with_reducible refine (State.regs_setA_foldl _ _ _ (fun _ _ => ?_)).trans ?_ | with_reducible refine (State.regs_setB_foldl _ _ _ (fun _ _ => ?_)).trans ?_ | with_reducible refine (State.regs_one_foldl _ _ _ (fun _ _ => ?_)).trans ?_ | with_reducible refine (State.regs_rsvd_foldl _ _ _ (fun _ _ => ?_)).trans ?_ | with_reducible refine (State.regs_waiting_foldl _ _ _ (fun _ _ => ?_)).trans ?_ | with_reducible refine (State.regs_stale_foldl _ _ _ (fun _ _ => ?_)).trans ?_ | with_reducible refine (State.regs_posted_foldl _ _ _ (fun _ _ => ?_)).trans ?_ | with_reducible refine (State.fd_mem_foldl _ _ _ (fun _ _ => ?_)).trans ?_ | with_reducible refine (State.dm_sram_foldl _ _ _ (fun _ _ => ?_)).trans ?_ | with_reducible refine (State.sq_frameNo_foldl _ _ _ (fun _ _ => ?_)).trans ?_ | with_reducible refine (State.sq_inScan_foldl _ _ _ (fun _ _ => ?_)).trans ?_ | with_reducible refine (State.sq_nextBoundary_foldl _ _ _ (fun _ _ => ?_)).trans ?_ | with_reducible refine (State.pw_gate_foldl _ _ _ (fun _ _ => ?_)).trans ?_ | (dsimp only; first | split | with_reducible refine (State.regs_setA_foldl _ _ _ (fun _ _ => ?_)).trans ?_ | with_reducible refine (State.regs_setB_foldl _ _ _ (fun _ _ => ?_)).trans ?_ | with_reducible refine (State.regs_one_foldl _ _ _ (fun _ _ => ?_)).trans ?_ | with_reducible refine (State.regs_rsvd_foldl _ _ _ (fun _ _ => ?_)).trans ?_ | with_reducible refine (State.regs_waiting_foldl _ _ _ (fun _ _ => ?_)).trans ?_ | with_reducible refine (State.regs_stale_foldl _ _ _ (fun _ _ => ?_)).trans ?_ | with_reducible refine (State.regs_posted_foldl _ _ _ (fun _ _ => ?_)).trans ?_ | with_reducible refine (State.fd_mem_foldl _ _ _ (fun _ _ => ?_)).trans ?_ | with_reducible refine (State.dm_sram_foldl _ _ _ (fun _ _ => ?_)).trans ?_ | with_reducible refine (State.sq_frameNo_foldl _ _ _ (fun _ _ => ?_)).trans ?_ | with_reducible refine (State.sq_inScan_foldl _ _ _ (fun _ _ => ?_)).trans ?_ | with_reducible refine (State.sq_nextBoundary_foldl _ _ _ (fun _ _ => ?_)).trans ?_ | with_reducible refine (State.pw_gate_foldl _ _ _ (fun _ _ => ?_)).trans ?_)))

@[simp] theorem State.rampDown_parts (s : State) (a : Nat) :
    (s.rampDown a).regs.setA = s.regs.setA ∧ (s.rampDown a).regs.setB = s.regs.setB ∧ (s.rampDown a).regs.one = s.regs.one ∧
    (s.rampDown a).regs.rsvd = s.regs.rsvd ∧ (s.rampDown a).regs.waiting = s.regs.waiting ∧
    (s.rampDown a).regs.stale = s.regs.stale ∧ (s.rampDown a).regs.posted = s.regs.posted := by
  and_intros <;> (unfold State.rampDown; repeat' (first | with_reducible rfl | (simp; done) | split | with_reducible refine (State.regs_setA_foldl _ _ _ (fun _ _ => ?_)).trans ?_ | with_reducible refine (State.regs_setB_foldl _ _ _ (fun _ _ => ?_)).trans ?_ | with_reducible refine (State.regs_one_foldl _ _ _ (fun _ _ => ?_)).trans ?_ | with_reducible refine (State.regs_rsvd_foldl _ _ _ (fun _ _ => ?_)).trans ?_ | with_reducible refine (State.regs_waiting_foldl _ _ _ (fun _ _ => ?_)).trans ?_ | with_reducible refine (State.regs_stale_foldl _ _ _ (fun _ _ => ?_)).trans ?_ | with_reducible refine (State.regs_posted_foldl _ _ _ (fun _ _ => ?_)).trans ?_ | with_reducible refine (State.fd_mem_foldl _ _ _ (fun _ _ => ?_)).trans ?_ | with_reducible refine (State.dm_sram_foldl _ _ _ (fun _ _ => ?_)).trans ?_ | with_reducible refine (State.sq_frameNo_foldl _ _ _ (fun _ _ => ?_)).trans ?_ | with_reducible refine (State.sq_inScan_foldl _ _ _ (fun _ _ => ?_)).trans ?_ | with_reducible refine (State.sq_nextBoundary_foldl _ _ _ (fun _ _ => ?_)).trans ?_ | with_reducible refine (State.pw_gate_foldl _ _ _ (fun _ _ => ?_)).trans ?_ | (dsimp only; first | split | with_reducible refine (State.regs_setA_foldl _ _ _ (fun _ _ => ?_)).trans ?_ | with_reducible refine (State.regs_setB_foldl _ _ _ (fun _ _ => ?_)).trans ?_ | with_reducible refine (State.regs_one_foldl _ _ _ (fun _ _ => ?_)).trans ?_ | with_reducible refine (State.regs_rsvd_foldl _ _ _ (fun _ _ => ?_)).trans ?_ | with_reducible refine (State.regs_waiting_foldl _ _ _ (fun _ _ => ?_)).trans ?_ | with_reducible refine (State.regs_stale_foldl _ _ _ (fun _ _ => ?_)).trans ?_ | with_reducible refine (State.regs_posted_foldl _ _ _ (fun _ _ => ?_)).trans ?_ | with_reducible refine (State.fd_mem_foldl _ _ _ (fun _ _ => ?_)).trans ?_ | with_reducible refine (State.dm_sram_foldl _ _ _ (fun _ _ => ?_)).trans ?_ | with_reducible refine (State.sq_frameNo_foldl _ _ _ (fun _ _ => ?_)).trans ?_ | with_reducible refine (State.sq_inScan_foldl _ _ _ (fun _ _ => ?_)).trans ?_ | with_reducible refine (State.sq_nextBoundary_foldl _ _ _ (fun _ _ => ?_)).trans ?_ | with_reducible refine (State.pw_gate_foldl _ _ _ (fun _ _ => ?_)).trans ?_)))

@[simp] theorem State.handOver_parts (s : State) (a k : Nat) (e d : Int) (acc : Rat) (y inj : Int) :
    (s.handOver a k e d acc y inj).regs.setA = s.regs.setA ∧ (s.handOver a k e d acc y inj).regs.setB = s.regs.setB ∧
    (s.handOver a k e d acc y inj).regs.one = s.regs.one ∧ (s.handOver a k e d acc y inj).regs.rsvd = s.regs.rsvd ∧
    (s.handOver a k e d acc y inj).regs.waiting = s.regs.waiting ∧ (s.handOver a k e d acc y inj).regs.stale = s.regs.stale ∧
    (s.handOver a k e d acc y inj).regs.posted = s.regs.posted := by
  and_intros <;> (unfold State.handOver; repeat' (first | with_reducible rfl | (simp; done) | split | with_reducible refine (State.regs_setA_foldl _ _ _ (fun _ _ => ?_)).trans ?_ | with_reducible refine (State.regs_setB_foldl _ _ _ (fun _ _ => ?_)).trans ?_ | with_reducible refine (State.regs_one_foldl _ _ _ (fun _ _ => ?_)).trans ?_ | with_reducible refine (State.regs_rsvd_foldl _ _ _ (fun _ _ => ?_)).trans ?_ | with_reducible refine (State.regs_waiting_foldl _ _ _ (fun _ _ => ?_)).trans ?_ | with_reducible refine (State.regs_stale_foldl _ _ _ (fun _ _ => ?_)).trans ?_ | with_reducible refine (State.regs_posted_foldl _ _ _ (fun _ _ => ?_)).trans ?_ | with_reducible refine (State.fd_mem_foldl _ _ _ (fun _ _ => ?_)).trans ?_ | with_reducible refine (State.dm_sram_foldl _ _ _ (fun _ _ => ?_)).trans ?_ | with_reducible refine (State.sq_frameNo_foldl _ _ _ (fun _ _ => ?_)).trans ?_ | with_reducible refine (State.sq_inScan_foldl _ _ _ (fun _ _ => ?_)).trans ?_ | with_reducible refine (State.sq_nextBoundary_foldl _ _ _ (fun _ _ => ?_)).trans ?_ | with_reducible refine (State.pw_gate_foldl _ _ _ (fun _ _ => ?_)).trans ?_ | (dsimp only; first | split | with_reducible refine (State.regs_setA_foldl _ _ _ (fun _ _ => ?_)).trans ?_ | with_reducible refine (State.regs_setB_foldl _ _ _ (fun _ _ => ?_)).trans ?_ | with_reducible refine (State.regs_one_foldl _ _ _ (fun _ _ => ?_)).trans ?_ | with_reducible refine (State.regs_rsvd_foldl _ _ _ (fun _ _ => ?_)).trans ?_ | with_reducible refine (State.regs_waiting_foldl _ _ _ (fun _ _ => ?_)).trans ?_ | with_reducible refine (State.regs_stale_foldl _ _ _ (fun _ _ => ?_)).trans ?_ | with_reducible refine (State.regs_posted_foldl _ _ _ (fun _ _ => ?_)).trans ?_ | with_reducible refine (State.fd_mem_foldl _ _ _ (fun _ _ => ?_)).trans ?_ | with_reducible refine (State.dm_sram_foldl _ _ _ (fun _ _ => ?_)).trans ?_ | with_reducible refine (State.sq_frameNo_foldl _ _ _ (fun _ _ => ?_)).trans ?_ | with_reducible refine (State.sq_inScan_foldl _ _ _ (fun _ _ => ?_)).trans ?_ | with_reducible refine (State.sq_nextBoundary_foldl _ _ _ (fun _ _ => ?_)).trans ?_ | with_reducible refine (State.pw_gate_foldl _ _ _ (fun _ _ => ?_)).trans ?_)))

@[simp] theorem State.svCntClr_parts (s : State) :
    (s.svCntClr).regs.setA = s.regs.setA ∧ (s.svCntClr).regs.setB = s.regs.setB ∧ (s.svCntClr).regs.one = s.regs.one ∧
    (s.svCntClr).regs.rsvd = s.regs.rsvd ∧ (s.svCntClr).regs.waiting = s.regs.waiting ∧
    (s.svCntClr).regs.stale = s.regs.stale ∧ (s.svCntClr).regs.posted = s.regs.posted := by
  and_intros <;> (unfold State.svCntClr; repeat' (first | with_reducible rfl | (simp; done) | split | with_reducible refine (State.regs_setA_foldl _ _ _ (fun _ _ => ?_)).trans ?_ | with_reducible refine (State.regs_setB_foldl _ _ _ (fun _ _ => ?_)).trans ?_ | with_reducible refine (State.regs_one_foldl _ _ _ (fun _ _ => ?_)).trans ?_ | with_reducible refine (State.regs_rsvd_foldl _ _ _ (fun _ _ => ?_)).trans ?_ | with_reducible refine (State.regs_waiting_foldl _ _ _ (fun _ _ => ?_)).trans ?_ | with_reducible refine (State.regs_stale_foldl _ _ _ (fun _ _ => ?_)).trans ?_ | with_reducible refine (State.regs_posted_foldl _ _ _ (fun _ _ => ?_)).trans ?_ | with_reducible refine (State.fd_mem_foldl _ _ _ (fun _ _ => ?_)).trans ?_ | with_reducible refine (State.dm_sram_foldl _ _ _ (fun _ _ => ?_)).trans ?_ | with_reducible refine (State.sq_frameNo_foldl _ _ _ (fun _ _ => ?_)).trans ?_ | with_reducible refine (State.sq_inScan_foldl _ _ _ (fun _ _ => ?_)).trans ?_ | with_reducible refine (State.sq_nextBoundary_foldl _ _ _ (fun _ _ => ?_)).trans ?_ | with_reducible refine (State.pw_gate_foldl _ _ _ (fun _ _ => ?_)).trans ?_ | (dsimp only; first | split | with_reducible refine (State.regs_setA_foldl _ _ _ (fun _ _ => ?_)).trans ?_ | with_reducible refine (State.regs_setB_foldl _ _ _ (fun _ _ => ?_)).trans ?_ | with_reducible refine (State.regs_one_foldl _ _ _ (fun _ _ => ?_)).trans ?_ | with_reducible refine (State.regs_rsvd_foldl _ _ _ (fun _ _ => ?_)).trans ?_ | with_reducible refine (State.regs_waiting_foldl _ _ _ (fun _ _ => ?_)).trans ?_ | with_reducible refine (State.regs_stale_foldl _ _ _ (fun _ _ => ?_)).trans ?_ | with_reducible refine (State.regs_posted_foldl _ _ _ (fun _ _ => ?_)).trans ?_ | with_reducible refine (State.fd_mem_foldl _ _ _ (fun _ _ => ?_)).trans ?_ | with_reducible refine (State.dm_sram_foldl _ _ _ (fun _ _ => ?_)).trans ?_ | with_reducible refine (State.sq_frameNo_foldl _ _ _ (fun _ _ => ?_)).trans ?_ | with_reducible refine (State.sq_inScan_foldl _ _ _ (fun _ _ => ?_)).trans ?_ | with_reducible refine (State.sq_nextBoundary_foldl _ _ _ (fun _ _ => ?_)).trans ?_ | with_reducible refine (State.pw_gate_foldl _ _ _ (fun _ _ => ?_)).trans ?_)))

end Sys2Proof.Machine
end

