-- ==== Sys2Proof/Laws/FrameExtract.lean ====
section
/-!
SUPPORT. The frames of the operations of Machine/Extract.lean: the parts of the state that each of them leaves as they were.
-/

set_option linter.unusedTactic false
set_option linter.unreachableTactic false
set_option linter.unusedSimpArgs false

namespace Sys2Proof.Machine

@[simp] theorem State.countPlaced_frame (s : State) (dest : Nat) :
    (s.countPlaced dest).now = s.now ∧ (s.countPlaced dest).phase = s.phase ∧ (s.countPlaced dest).pending = s.pending ∧
    (s.countPlaced dest).nodeOfs = s.nodeOfs ∧ (s.countPlaced dest).freeCtr = s.freeCtr ∧ (s.countPlaced dest).tx = s.tx ∧
    (s.countPlaced dest).regs = s.regs ∧ (s.countPlaced dest).tl = s.tl := by
  and_intros <;> (unfold State.countPlaced; repeat' (first | with_reducible rfl | (simp; done) | split | with_reducible refine (foldl_inv _ _ _ _ (fun _ _ => ?_)).trans ?_ | (dsimp only; first | split | with_reducible refine (foldl_inv _ _ _ _ (fun _ _ => ?_)).trans ?_)))

@[simp] theorem State.countPlaced_frame2 (s : State) (dest : Nat) :
    (s.countPlaced dest).sq = s.sq ∧ (s.countPlaced dest).fd = s.fd ∧ (s.countPlaced dest).sv = s.sv ∧
    (s.countPlaced dest).ax = s.ax ∧ (s.countPlaced dest).aq = s.aq ∧ (s.countPlaced dest).il = s.il ∧
    (s.countPlaced dest).ln = s.ln ∧ (s.countPlaced dest).fl = s.fl := by
  and_intros <;> (unfold State.countPlaced; repeat' (first | with_reducible rfl | (simp; done) | split | with_reducible refine (foldl_inv _ _ _ _ (fun _ _ => ?_)).trans ?_ | (dsimp only; first | split | with_reducible refine (foldl_inv _ _ _ _ (fun _ _ => ?_)).trans ?_)))

@[simp] theorem State.countPlaced_frame3 (s : State) (dest : Nat) :
    (s.countPlaced dest).ev = s.ev ∧ (s.countPlaced dest).safe = s.safe ∧ (s.countPlaced dest).dm = s.dm ∧
    (s.countPlaced dest).cm = s.cm ∧ (s.countPlaced dest).cf = s.cf ∧ (s.countPlaced dest).pw = s.pw ∧
    (s.countPlaced dest).th = s.th := by
  and_intros <;> (unfold State.countPlaced; repeat' (first | with_reducible rfl | (simp; done) | split | with_reducible refine (foldl_inv _ _ _ _ (fun _ _ => ?_)).trans ?_ | (dsimp only; first | split | with_reducible refine (foldl_inv _ _ _ _ (fun _ _ => ?_)).trans ?_)))

@[simp] theorem State.qDrop_frame (s : State) (q : Nat) :
    (s.qDrop q).now = s.now ∧ (s.qDrop q).phase = s.phase ∧ (s.qDrop q).pending = s.pending ∧
    (s.qDrop q).nodeOfs = s.nodeOfs ∧ (s.qDrop q).freeCtr = s.freeCtr ∧ (s.qDrop q).tx = s.tx ∧ (s.qDrop q).tl = s.tl ∧
    (s.qDrop q).sq = s.sq := by
  and_intros <;> (unfold State.qDrop; repeat' (first | with_reducible rfl | (simp; done) | split | with_reducible refine (foldl_inv _ _ _ _ (fun _ _ => ?_)).trans ?_ | (dsimp only; first | split | with_reducible refine (foldl_inv _ _ _ _ (fun _ _ => ?_)).trans ?_)))

@[simp] theorem State.qDrop_frame2 (s : State) (q : Nat) :
    (s.qDrop q).fd = s.fd ∧ (s.qDrop q).sv = s.sv ∧ (s.qDrop q).ax = s.ax ∧ (s.qDrop q).aq = s.aq ∧ (s.qDrop q).il = s.il ∧
    (s.qDrop q).ln = s.ln ∧ (s.qDrop q).fl = s.fl ∧ (s.qDrop q).ev = s.ev := by
  and_intros <;> (unfold State.qDrop; repeat' (first | with_reducible rfl | (simp; done) | split | with_reducible refine (foldl_inv _ _ _ _ (fun _ _ => ?_)).trans ?_ | (dsimp only; first | split | with_reducible refine (foldl_inv _ _ _ _ (fun _ _ => ?_)).trans ?_)))

@[simp] theorem State.qDrop_frame3 (s : State) (q : Nat) :
    (s.qDrop q).safe = s.safe ∧ (s.qDrop q).dm = s.dm ∧ (s.qDrop q).cm = s.cm ∧ (s.qDrop q).cf = s.cf ∧
    (s.qDrop q).pw = s.pw ∧ (s.qDrop q).th = s.th := by
  and_intros <;> (unfold State.qDrop; repeat' (first | with_reducible rfl | (simp; done) | split | with_reducible refine (foldl_inv _ _ _ _ (fun _ _ => ?_)).trans ?_ | (dsimp only; first | split | with_reducible refine (foldl_inv _ _ _ _ (fun _ _ => ?_)).trans ?_)))

@[simp] theorem State.toIsland_frame (s : State) (i : Nat) (rec : List Score) (mark : Bool) :
    (s.toIsland i rec mark).now = s.now ∧ (s.toIsland i rec mark).phase = s.phase ∧
    (s.toIsland i rec mark).pending = s.pending ∧ (s.toIsland i rec mark).nodeOfs = s.nodeOfs ∧
    (s.toIsland i rec mark).freeCtr = s.freeCtr ∧ (s.toIsland i rec mark).tx = s.tx ∧ (s.toIsland i rec mark).tl = s.tl ∧
    (s.toIsland i rec mark).sq = s.sq := by
  and_intros <;> (unfold State.toIsland; repeat' (first | with_reducible rfl | (simp; done) | split | with_reducible refine (foldl_inv _ _ _ _ (fun _ _ => ?_)).trans ?_ | (dsimp only; first | split | with_reducible refine (foldl_inv _ _ _ _ (fun _ _ => ?_)).trans ?_)))

@[simp] theorem State.toIsland_frame2 (s : State) (i : Nat) (rec : List Score) (mark : Bool) :
    (s.toIsland i rec mark).fd = s.fd ∧ (s.toIsland i rec mark).sv = s.sv ∧ (s.toIsland i rec mark).ax = s.ax ∧
    (s.toIsland i rec mark).aq = s.aq ∧ (s.toIsland i rec mark).il = s.il ∧ (s.toIsland i rec mark).ln = s.ln ∧
    (s.toIsland i rec mark).fl = s.fl ∧ (s.toIsland i rec mark).dm = s.dm := by
  and_intros <;> (unfold State.toIsland; repeat' (first | with_reducible rfl | (simp; done) | split | with_reducible refine (foldl_inv _ _ _ _ (fun _ _ => ?_)).trans ?_ | (dsimp only; first | split | with_reducible refine (foldl_inv _ _ _ _ (fun _ _ => ?_)).trans ?_)))

@[simp] theorem State.toIsland_frame3 (s : State) (i : Nat) (rec : List Score) (mark : Bool) :
    (s.toIsland i rec mark).cm = s.cm ∧ (s.toIsland i rec mark).cf = s.cf ∧ (s.toIsland i rec mark).pw = s.pw ∧
    (s.toIsland i rec mark).th = s.th := by
  and_intros <;> (unfold State.toIsland; repeat' (first | with_reducible rfl | (simp; done) | split | with_reducible refine (foldl_inv _ _ _ _ (fun _ _ => ?_)).trans ?_ | (dsimp only; first | split | with_reducible refine (foldl_inv _ _ _ _ (fun _ _ => ?_)).trans ?_)))

@[simp] theorem State.exCntClr_frame (s : State) :
    (s.exCntClr).now = s.now ∧ (s.exCntClr).phase = s.phase ∧ (s.exCntClr).pending = s.pending ∧
    (s.exCntClr).nodeOfs = s.nodeOfs ∧ (s.exCntClr).freeCtr = s.freeCtr ∧ (s.exCntClr).tx = s.tx ∧ (s.exCntClr).tl = s.tl ∧
    (s.exCntClr).sq = s.sq := by
  and_intros <;> (unfold State.exCntClr; repeat' (first | with_reducible rfl | (simp; done) | split | with_reducible refine (foldl_inv _ _ _ _ (fun _ _ => ?_)).trans ?_ | (dsimp only; first | split | with_reducible refine (foldl_inv _ _ _ _ (fun _ _ => ?_)).trans ?_)))

@[simp] theorem State.exCntClr_frame2 (s : State) :
    (s.exCntClr).fd = s.fd ∧ (s.exCntClr).ex = s.ex ∧ (s.exCntClr).sv = s.sv ∧ (s.exCntClr).ax = s.ax ∧
    (s.exCntClr).aq = s.aq ∧ (s.exCntClr).il = s.il ∧ (s.exCntClr).ln = s.ln ∧ (s.exCntClr).fl = s.fl := by
  and_intros <;> (unfold State.exCntClr; repeat' (first | with_reducible rfl | (simp; done) | split | with_reducible refine (foldl_inv _ _ _ _ (fun _ _ => ?_)).trans ?_ | (dsimp only; first | split | with_reducible refine (foldl_inv _ _ _ _ (fun _ _ => ?_)).trans ?_)))

@[simp] theorem State.exCntClr_frame3 (s : State) :
    (s.exCntClr).ev = s.ev ∧ (s.exCntClr).safe = s.safe ∧ (s.exCntClr).dm = s.dm ∧ (s.exCntClr).cm = s.cm ∧
    (s.exCntClr).cf = s.cf ∧ (s.exCntClr).pw = s.pw ∧ (s.exCntClr).th = s.th := by
  and_intros <;> (unfold State.exCntClr; repeat' (first | with_reducible rfl | (simp; done) | split | with_reducible refine (foldl_inv _ _ _ _ (fun _ _ => ?_)).trans ?_ | (dsimp only; first | split | with_reducible refine (foldl_inv _ _ _ _ (fun _ _ => ?_)).trans ?_)))

@[simp] theorem State.qDrop_parts (s : State) (q : Nat) :
    (s.qDrop q).regs.setA = s.regs.setA ∧ (s.qDrop q).regs.setB = s.regs.setB ∧ (s.qDrop q).regs.one = s.regs.one ∧
    (s.qDrop q).regs.rsvd = s.regs.rsvd ∧ (s.qDrop q).regs.waiting = s.regs.waiting ∧ (s.qDrop q).regs.stale = s.regs.stale ∧
    (s.qDrop q).regs.posted = s.regs.posted := by
  and_intros <;> (unfold State.qDrop; repeat' (first | with_reducible rfl | (simp; done) | split | with_reducible refine (State.regs_setA_foldl _ _ _ (fun _ _ => ?_)).trans ?_ | with_reducible refine (State.regs_setB_foldl _ _ _ (fun _ _ => ?_)).trans ?_ | with_reducible refine (State.regs_one_foldl _ _ _ (fun _ _ => ?_)).trans ?_ | with_reducible refine (State.regs_rsvd_foldl _ _ _ (fun _ _ => ?_)).trans ?_ | with_reducible refine (State.regs_waiting_foldl _ _ _ (fun _ _ => ?_)).trans ?_ | with_reducible refine (State.regs_stale_foldl _ _ _ (fun _ _ => ?_)).trans ?_ | with_reducible refine (State.regs_posted_foldl _ _ _ (fun _ _ => ?_)).trans ?_ | with_reducible refine (State.fd_mem_foldl _ _ _ (fun _ _ => ?_)).trans ?_ | with_reducible refine (State.dm_sram_foldl _ _ _ (fun _ _ => ?_)).trans ?_ | with_reducible refine (State.sq_frameNo_foldl _ _ _ (fun _ _ => ?_)).trans ?_ | with_reducible refine (State.sq_inScan_foldl _ _ _ (fun _ _ => ?_)).trans ?_ | with_reducible refine (State.sq_nextBoundary_foldl _ _ _ (fun _ _ => ?_)).trans ?_ | with_reducible refine (State.pw_gate_foldl _ _ _ (fun _ _ => ?_)).trans ?_ | (dsimp only; first | split | with_reducible refine (State.regs_setA_foldl _ _ _ (fun _ _ => ?_)).trans ?_ | with_reducible refine (State.regs_setB_foldl _ _ _ (fun _ _ => ?_)).trans ?_ | with_reducible refine (State.regs_one_foldl _ _ _ (fun _ _ => ?_)).trans ?_ | with_reducible refine (State.regs_rsvd_foldl _ _ _ (fun _ _ => ?_)).trans ?_ | with_reducible refine (State.regs_waiting_foldl _ _ _ (fun _ _ => ?_)).trans ?_ | with_reducible refine (State.regs_stale_foldl _ _ _ (fun _ _ => ?_)).trans ?_ | with_reducible refine (State.regs_posted_foldl _ _ _ (fun _ _ => ?_)).trans ?_ | with_reducible refine (State.fd_mem_foldl _ _ _ (fun _ _ => ?_)).trans ?_ | with_reducible refine (State.dm_sram_foldl _ _ _ (fun _ _ => ?_)).trans ?_ | with_reducible refine (State.sq_frameNo_foldl _ _ _ (fun _ _ => ?_)).trans ?_ | with_reducible refine (State.sq_inScan_foldl _ _ _ (fun _ _ => ?_)).trans ?_ | with_reducible refine (State.sq_nextBoundary_foldl _ _ _ (fun _ _ => ?_)).trans ?_ | with_reducible refine (State.pw_gate_foldl _ _ _ (fun _ _ => ?_)).trans ?_)))

@[simp] theorem State.toIsland_parts (s : State) (i : Nat) (rec : List Score) (mark : Bool) :
    (s.toIsland i rec mark).regs.setA = s.regs.setA ∧ (s.toIsland i rec mark).regs.setB = s.regs.setB ∧
    (s.toIsland i rec mark).regs.one = s.regs.one ∧ (s.toIsland i rec mark).regs.rsvd = s.regs.rsvd ∧
    (s.toIsland i rec mark).regs.waiting = s.regs.waiting ∧ (s.toIsland i rec mark).regs.stale = s.regs.stale ∧
    (s.toIsland i rec mark).regs.posted = s.regs.posted := by
  and_intros <;> (unfold State.toIsland; repeat' (first | with_reducible rfl | (simp; done) | split | with_reducible refine (State.regs_setA_foldl _ _ _ (fun _ _ => ?_)).trans ?_ | with_reducible refine (State.regs_setB_foldl _ _ _ (fun _ _ => ?_)).trans ?_ | with_reducible refine (State.regs_one_foldl _ _ _ (fun _ _ => ?_)).trans ?_ | with_reducible refine (State.regs_rsvd_foldl _ _ _ (fun _ _ => ?_)).trans ?_ | with_reducible refine (State.regs_waiting_foldl _ _ _ (fun _ _ => ?_)).trans ?_ | with_reducible refine (State.regs_stale_foldl _ _ _ (fun _ _ => ?_)).trans ?_ | with_reducible refine (State.regs_posted_foldl _ _ _ (fun _ _ => ?_)).trans ?_ | with_reducible refine (State.fd_mem_foldl _ _ _ (fun _ _ => ?_)).trans ?_ | with_reducible refine (State.dm_sram_foldl _ _ _ (fun _ _ => ?_)).trans ?_ | with_reducible refine (State.sq_frameNo_foldl _ _ _ (fun _ _ => ?_)).trans ?_ | with_reducible refine (State.sq_inScan_foldl _ _ _ (fun _ _ => ?_)).trans ?_ | with_reducible refine (State.sq_nextBoundary_foldl _ _ _ (fun _ _ => ?_)).trans ?_ | with_reducible refine (State.pw_gate_foldl _ _ _ (fun _ _ => ?_)).trans ?_ | (dsimp only; first | split | with_reducible refine (State.regs_setA_foldl _ _ _ (fun _ _ => ?_)).trans ?_ | with_reducible refine (State.regs_setB_foldl _ _ _ (fun _ _ => ?_)).trans ?_ | with_reducible refine (State.regs_one_foldl _ _ _ (fun _ _ => ?_)).trans ?_ | with_reducible refine (State.regs_rsvd_foldl _ _ _ (fun _ _ => ?_)).trans ?_ | with_reducible refine (State.regs_waiting_foldl _ _ _ (fun _ _ => ?_)).trans ?_ | with_reducible refine (State.regs_stale_foldl _ _ _ (fun _ _ => ?_)).trans ?_ | with_reducible refine (State.regs_posted_foldl _ _ _ (fun _ _ => ?_)).trans ?_ | with_reducible refine (State.fd_mem_foldl _ _ _ (fun _ _ => ?_)).trans ?_ | with_reducible refine (State.dm_sram_foldl _ _ _ (fun _ _ => ?_)).trans ?_ | with_reducible refine (State.sq_frameNo_foldl _ _ _ (fun _ _ => ?_)).trans ?_ | with_reducible refine (State.sq_inScan_foldl _ _ _ (fun _ _ => ?_)).trans ?_ | with_reducible refine (State.sq_nextBoundary_foldl _ _ _ (fun _ _ => ?_)).trans ?_ | with_reducible refine (State.pw_gate_foldl _ _ _ (fun _ _ => ?_)).trans ?_)))

@[simp] theorem State.exCntClr_parts (s : State) :
    (s.exCntClr).regs.setA = s.regs.setA ∧ (s.exCntClr).regs.setB = s.regs.setB ∧ (s.exCntClr).regs.one = s.regs.one ∧
    (s.exCntClr).regs.rsvd = s.regs.rsvd ∧ (s.exCntClr).regs.waiting = s.regs.waiting ∧
    (s.exCntClr).regs.stale = s.regs.stale ∧ (s.exCntClr).regs.posted = s.regs.posted := by
  and_intros <;> (unfold State.exCntClr; repeat' (first | with_reducible rfl | (simp; done) | split | with_reducible refine (State.regs_setA_foldl _ _ _ (fun _ _ => ?_)).trans ?_ | with_reducible refine (State.regs_setB_foldl _ _ _ (fun _ _ => ?_)).trans ?_ | with_reducible refine (State.regs_one_foldl _ _ _ (fun _ _ => ?_)).trans ?_ | with_reducible refine (State.regs_rsvd_foldl _ _ _ (fun _ _ => ?_)).trans ?_ | with_reducible refine (State.regs_waiting_foldl _ _ _ (fun _ _ => ?_)).trans ?_ | with_reducible refine (State.regs_stale_foldl _ _ _ (fun _ _ => ?_)).trans ?_ | with_reducible refine (State.regs_posted_foldl _ _ _ (fun _ _ => ?_)).trans ?_ | with_reducible refine (State.fd_mem_foldl _ _ _ (fun _ _ => ?_)).trans ?_ | with_reducible refine (State.dm_sram_foldl _ _ _ (fun _ _ => ?_)).trans ?_ | with_reducible refine (State.sq_frameNo_foldl _ _ _ (fun _ _ => ?_)).trans ?_ | with_reducible refine (State.sq_inScan_foldl _ _ _ (fun _ _ => ?_)).trans ?_ | with_reducible refine (State.sq_nextBoundary_foldl _ _ _ (fun _ _ => ?_)).trans ?_ | with_reducible refine (State.pw_gate_foldl _ _ _ (fun _ _ => ?_)).trans ?_ | (dsimp only; first | split | with_reducible refine (State.regs_setA_foldl _ _ _ (fun _ _ => ?_)).trans ?_ | with_reducible refine (State.regs_setB_foldl _ _ _ (fun _ _ => ?_)).trans ?_ | with_reducible refine (State.regs_one_foldl _ _ _ (fun _ _ => ?_)).trans ?_ | with_reducible refine (State.regs_rsvd_foldl _ _ _ (fun _ _ => ?_)).trans ?_ | with_reducible refine (State.regs_waiting_foldl _ _ _ (fun _ _ => ?_)).trans ?_ | with_reducible refine (State.regs_stale_foldl _ _ _ (fun _ _ => ?_)).trans ?_ | with_reducible refine (State.regs_posted_foldl _ _ _ (fun _ _ => ?_)).trans ?_ | with_reducible refine (State.fd_mem_foldl _ _ _ (fun _ _ => ?_)).trans ?_ | with_reducible refine (State.dm_sram_foldl _ _ _ (fun _ _ => ?_)).trans ?_ | with_reducible refine (State.sq_frameNo_foldl _ _ _ (fun _ _ => ?_)).trans ?_ | with_reducible refine (State.sq_inScan_foldl _ _ _ (fun _ _ => ?_)).trans ?_ | with_reducible refine (State.sq_nextBoundary_foldl _ _ _ (fun _ _ => ?_)).trans ?_ | with_reducible refine (State.pw_gate_foldl _ _ _ (fun _ _ => ?_)).trans ?_)))

end Sys2Proof.Machine
end

