-- ==== Sys2Proof/Laws/FrameFrezenLink.lean ====
section
/-!
SUPPORT. The frames of the operations of Machine/FrezenLink.lean: the parts of the state that each of them leaves as they were.
-/

set_option linter.unusedTactic false
set_option linter.unreachableTactic false
set_option linter.unusedSimpArgs false

namespace Sys2Proof.Machine

@[simp] theorem State.takePacket_frame (s : State) (src : RxFrom) (kind : Nat) :
    (s.takePacket src kind).1.now = s.now ∧ (s.takePacket src kind).1.phase = s.phase ∧
    (s.takePacket src kind).1.pending = s.pending ∧ (s.takePacket src kind).1.nodeOfs = s.nodeOfs ∧
    (s.takePacket src kind).1.freeCtr = s.freeCtr ∧ (s.takePacket src kind).1.tx = s.tx ∧
    (s.takePacket src kind).1.tl = s.tl ∧ (s.takePacket src kind).1.sq = s.sq := by
  and_intros <;> (unfold State.takePacket; repeat' (first | with_reducible rfl | (simp; done) | split | with_reducible refine (foldl_inv _ _ _ _ (fun _ _ => ?_)).trans ?_ | (dsimp only; first | split | with_reducible refine (foldl_inv _ _ _ _ (fun _ _ => ?_)).trans ?_)))

@[simp] theorem State.takePacket_frame2 (s : State) (src : RxFrom) (kind : Nat) :
    (s.takePacket src kind).1.fd = s.fd ∧ (s.takePacket src kind).1.ex = s.ex ∧ (s.takePacket src kind).1.sv = s.sv ∧
    (s.takePacket src kind).1.ax = s.ax ∧ (s.takePacket src kind).1.aq = s.aq ∧ (s.takePacket src kind).1.il = s.il ∧
    (s.takePacket src kind).1.ln = s.ln ∧ (s.takePacket src kind).1.ev = s.ev := by
  and_intros <;> (unfold State.takePacket; repeat' (first | with_reducible rfl | (simp; done) | split | with_reducible refine (foldl_inv _ _ _ _ (fun _ _ => ?_)).trans ?_ | (dsimp only; first | split | with_reducible refine (foldl_inv _ _ _ _ (fun _ _ => ?_)).trans ?_)))

@[simp] theorem State.takePacket_frame3 (s : State) (src : RxFrom) (kind : Nat) :
    (s.takePacket src kind).1.safe = s.safe ∧ (s.takePacket src kind).1.dm = s.dm ∧ (s.takePacket src kind).1.cm = s.cm ∧
    (s.takePacket src kind).1.cf = s.cf ∧ (s.takePacket src kind).1.pw = s.pw ∧ (s.takePacket src kind).1.th = s.th := by
  and_intros <;> (unfold State.takePacket; repeat' (first | with_reducible rfl | (simp; done) | split | with_reducible refine (foldl_inv _ _ _ _ (fun _ _ => ?_)).trans ?_ | (dsimp only; first | split | with_reducible refine (foldl_inv _ _ _ _ (fun _ _ => ?_)).trans ?_)))

@[simp] theorem State.planStart_frame (s : State) :
    (s.planStart).now = s.now ∧ (s.planStart).phase = s.phase ∧ (s.planStart).pending = s.pending ∧
    (s.planStart).nodeOfs = s.nodeOfs ∧ (s.planStart).freeCtr = s.freeCtr ∧ (s.planStart).tx = s.tx ∧
    (s.planStart).tl = s.tl ∧ (s.planStart).fd = s.fd := by
  and_intros <;> (unfold State.planStart; repeat' (first | with_reducible rfl | (simp; done) | split | with_reducible refine (foldl_inv _ _ _ _ (fun _ _ => ?_)).trans ?_ | (dsimp only; first | split | with_reducible refine (foldl_inv _ _ _ _ (fun _ _ => ?_)).trans ?_)))

@[simp] theorem State.planStart_frame2 (s : State) :
    (s.planStart).ex = s.ex ∧ (s.planStart).sv = s.sv ∧ (s.planStart).ax = s.ax ∧ (s.planStart).aq = s.aq ∧
    (s.planStart).il = s.il ∧ (s.planStart).ln = s.ln ∧ (s.planStart).fl = s.fl ∧ (s.planStart).ev = s.ev := by
  and_intros <;> (unfold State.planStart; repeat' (first | with_reducible rfl | (simp; done) | split | with_reducible refine (foldl_inv _ _ _ _ (fun _ _ => ?_)).trans ?_ | (dsimp only; first | split | with_reducible refine (foldl_inv _ _ _ _ (fun _ _ => ?_)).trans ?_)))

@[simp] theorem State.planStart_frame3 (s : State) :
    (s.planStart).safe = s.safe ∧ (s.planStart).dm = s.dm ∧ (s.planStart).cm = s.cm ∧ (s.planStart).cf = s.cf ∧
    (s.planStart).pw = s.pw ∧ (s.planStart).th = s.th := by
  and_intros <;> (unfold State.planStart; repeat' (first | with_reducible rfl | (simp; done) | split | with_reducible refine (foldl_inv _ _ _ _ (fun _ _ => ?_)).trans ?_ | (dsimp only; first | split | with_reducible refine (foldl_inv _ _ _ _ (fun _ _ => ?_)).trans ?_)))

@[simp] theorem State.topology_frame (s : State) :
    (s.topology).now = s.now ∧ (s.topology).phase = s.phase ∧ (s.topology).pending = s.pending ∧
    (s.topology).nodeOfs = s.nodeOfs ∧ (s.topology).freeCtr = s.freeCtr ∧ (s.topology).tx = s.tx ∧ (s.topology).tl = s.tl ∧
    (s.topology).fd = s.fd := by
  and_intros <;> (unfold State.topology; repeat' (first | with_reducible rfl | (simp; done) | split | with_reducible refine (foldl_inv _ _ _ _ (fun _ _ => ?_)).trans ?_ | (dsimp only; first | split | with_reducible refine (foldl_inv _ _ _ _ (fun _ _ => ?_)).trans ?_)))

@[simp] theorem State.topology_frame2 (s : State) :
    (s.topology).ex = s.ex ∧ (s.topology).sv = s.sv ∧ (s.topology).ax = s.ax ∧ (s.topology).aq = s.aq ∧
    (s.topology).il = s.il ∧ (s.topology).ln = s.ln ∧ (s.topology).fl = s.fl ∧ (s.topology).ev = s.ev := by
  and_intros <;> (unfold State.topology; repeat' (first | with_reducible rfl | (simp; done) | split | with_reducible refine (foldl_inv _ _ _ _ (fun _ _ => ?_)).trans ?_ | (dsimp only; first | split | with_reducible refine (foldl_inv _ _ _ _ (fun _ _ => ?_)).trans ?_)))

@[simp] theorem State.topology_frame3 (s : State) :
    (s.topology).safe = s.safe ∧ (s.topology).dm = s.dm ∧ (s.topology).cm = s.cm ∧ (s.topology).cf = s.cf ∧
    (s.topology).pw = s.pw ∧ (s.topology).th = s.th := by
  and_intros <;> (unfold State.topology; repeat' (first | with_reducible rfl | (simp; done) | split | with_reducible refine (foldl_inv _ _ _ _ (fun _ _ => ?_)).trans ?_ | (dsimp only; first | split | with_reducible refine (foldl_inv _ _ _ _ (fun _ _ => ?_)).trans ?_)))

@[simp] theorem State.planLocal_frame (s : State) :
    (s.planLocal).now = s.now ∧ (s.planLocal).phase = s.phase ∧ (s.planLocal).pending = s.pending ∧
    (s.planLocal).nodeOfs = s.nodeOfs ∧ (s.planLocal).freeCtr = s.freeCtr ∧ (s.planLocal).tx = s.tx ∧
    (s.planLocal).tl = s.tl ∧ (s.planLocal).fd = s.fd := by
  and_intros <;> (unfold State.planLocal; repeat' (first | with_reducible rfl | (simp; done) | split | with_reducible refine (foldl_inv _ _ _ _ (fun _ _ => ?_)).trans ?_ | (dsimp only; first | split | with_reducible refine (foldl_inv _ _ _ _ (fun _ _ => ?_)).trans ?_)))

@[simp] theorem State.planLocal_frame2 (s : State) :
    (s.planLocal).ex = s.ex ∧ (s.planLocal).sv = s.sv ∧ (s.planLocal).ax = s.ax ∧ (s.planLocal).aq = s.aq ∧
    (s.planLocal).il = s.il ∧ (s.planLocal).ln = s.ln ∧ (s.planLocal).fl = s.fl ∧ (s.planLocal).safe = s.safe := by
  and_intros <;> (unfold State.planLocal; repeat' (first | with_reducible rfl | (simp; done) | split | with_reducible refine (foldl_inv _ _ _ _ (fun _ _ => ?_)).trans ?_ | (dsimp only; first | split | with_reducible refine (foldl_inv _ _ _ _ (fun _ _ => ?_)).trans ?_)))

@[simp] theorem State.planLocal_frame3 (s : State) :
    (s.planLocal).dm = s.dm ∧ (s.planLocal).cm = s.cm ∧ (s.planLocal).cf = s.cf ∧ (s.planLocal).pw = s.pw ∧
    (s.planLocal).th = s.th := by
  and_intros <;> (unfold State.planLocal; repeat' (first | with_reducible rfl | (simp; done) | split | with_reducible refine (foldl_inv _ _ _ _ (fun _ _ => ?_)).trans ?_ | (dsimp only; first | split | with_reducible refine (foldl_inv _ _ _ _ (fun _ _ => ?_)).trans ?_)))

@[simp] theorem State.planAgree_frame (s : State) :
    (s.planAgree).now = s.now ∧ (s.planAgree).phase = s.phase ∧ (s.planAgree).pending = s.pending ∧
    (s.planAgree).nodeOfs = s.nodeOfs ∧ (s.planAgree).freeCtr = s.freeCtr ∧ (s.planAgree).tx = s.tx ∧
    (s.planAgree).tl = s.tl ∧ (s.planAgree).fd = s.fd := by
  and_intros <;> (unfold State.planAgree; repeat' (first | with_reducible rfl | (simp; done) | split | with_reducible refine (foldl_inv _ _ _ _ (fun _ _ => ?_)).trans ?_ | (dsimp only; first | split | with_reducible refine (foldl_inv _ _ _ _ (fun _ _ => ?_)).trans ?_)))

@[simp] theorem State.planAgree_frame2 (s : State) :
    (s.planAgree).ex = s.ex ∧ (s.planAgree).sv = s.sv ∧ (s.planAgree).ax = s.ax ∧ (s.planAgree).aq = s.aq ∧
    (s.planAgree).il = s.il ∧ (s.planAgree).ln = s.ln ∧ (s.planAgree).ev = s.ev ∧ (s.planAgree).safe = s.safe := by
  and_intros <;> (unfold State.planAgree; repeat' (first | with_reducible rfl | (simp; done) | split | with_reducible refine (foldl_inv _ _ _ _ (fun _ _ => ?_)).trans ?_ | (dsimp only; first | split | with_reducible refine (foldl_inv _ _ _ _ (fun _ _ => ?_)).trans ?_)))

@[simp] theorem State.planAgree_frame3 (s : State) :
    (s.planAgree).dm = s.dm ∧ (s.planAgree).cm = s.cm ∧ (s.planAgree).cf = s.cf ∧ (s.planAgree).pw = s.pw ∧
    (s.planAgree).th = s.th := by
  and_intros <;> (unfold State.planAgree; repeat' (first | with_reducible rfl | (simp; done) | split | with_reducible refine (foldl_inv _ _ _ _ (fun _ _ => ?_)).trans ?_ | (dsimp only; first | split | with_reducible refine (foldl_inv _ _ _ _ (fun _ _ => ?_)).trans ?_)))

@[simp] theorem State.planForget_frame (s : State) (ident : Nat) :
    (s.planForget ident).now = s.now ∧ (s.planForget ident).phase = s.phase ∧ (s.planForget ident).pending = s.pending ∧
    (s.planForget ident).nodeOfs = s.nodeOfs ∧ (s.planForget ident).freeCtr = s.freeCtr ∧ (s.planForget ident).tx = s.tx ∧
    (s.planForget ident).tl = s.tl ∧ (s.planForget ident).fd = s.fd := by
  and_intros <;> (unfold State.planForget; repeat' (first | with_reducible rfl | (simp; done) | split | with_reducible refine (foldl_inv _ _ _ _ (fun _ _ => ?_)).trans ?_ | (dsimp only; first | split | with_reducible refine (foldl_inv _ _ _ _ (fun _ _ => ?_)).trans ?_)))

@[simp] theorem State.planForget_frame2 (s : State) (ident : Nat) :
    (s.planForget ident).ex = s.ex ∧ (s.planForget ident).sv = s.sv ∧ (s.planForget ident).ax = s.ax ∧
    (s.planForget ident).aq = s.aq ∧ (s.planForget ident).il = s.il ∧ (s.planForget ident).ln = s.ln ∧
    (s.planForget ident).fl = s.fl ∧ (s.planForget ident).ev = s.ev := by
  and_intros <;> (unfold State.planForget; repeat' (first | with_reducible rfl | (simp; done) | split | with_reducible refine (foldl_inv _ _ _ _ (fun _ _ => ?_)).trans ?_ | (dsimp only; first | split | with_reducible refine (foldl_inv _ _ _ _ (fun _ _ => ?_)).trans ?_)))

@[simp] theorem State.planForget_frame3 (s : State) (ident : Nat) :
    (s.planForget ident).safe = s.safe ∧ (s.planForget ident).dm = s.dm ∧ (s.planForget ident).cm = s.cm ∧
    (s.planForget ident).cf = s.cf ∧ (s.planForget ident).pw = s.pw ∧ (s.planForget ident).th = s.th := by
  and_intros <;> (unfold State.planForget; repeat' (first | with_reducible rfl | (simp; done) | split | with_reducible refine (foldl_inv _ _ _ _ (fun _ _ => ?_)).trans ?_ | (dsimp only; first | split | with_reducible refine (foldl_inv _ _ _ _ (fun _ _ => ?_)).trans ?_)))

@[simp] theorem State.planActivate_frame (s : State) :
    (s.planActivate).now = s.now ∧ (s.planActivate).phase = s.phase ∧ (s.planActivate).pending = s.pending ∧
    (s.planActivate).nodeOfs = s.nodeOfs ∧ (s.planActivate).freeCtr = s.freeCtr ∧ (s.planActivate).tx = s.tx ∧
    (s.planActivate).tl = s.tl ∧ (s.planActivate).fd = s.fd := by
  and_intros <;> (unfold State.planActivate; repeat' (first | with_reducible rfl | (simp; done) | split | with_reducible refine (foldl_inv _ _ _ _ (fun _ _ => ?_)).trans ?_ | (dsimp only; first | split | with_reducible refine (foldl_inv _ _ _ _ (fun _ _ => ?_)).trans ?_)))

@[simp] theorem State.planActivate_frame2 (s : State) :
    (s.planActivate).ex = s.ex ∧ (s.planActivate).sv = s.sv ∧ (s.planActivate).ax = s.ax ∧ (s.planActivate).aq = s.aq ∧
    (s.planActivate).il = s.il ∧ (s.planActivate).ln = s.ln ∧ (s.planActivate).fl = s.fl ∧ (s.planActivate).ev = s.ev := by
  and_intros <;> (unfold State.planActivate; repeat' (first | with_reducible rfl | (simp; done) | split | with_reducible refine (foldl_inv _ _ _ _ (fun _ _ => ?_)).trans ?_ | (dsimp only; first | split | with_reducible refine (foldl_inv _ _ _ _ (fun _ _ => ?_)).trans ?_)))

@[simp] theorem State.planActivate_frame3 (s : State) :
    (s.planActivate).safe = s.safe ∧ (s.planActivate).dm = s.dm ∧ (s.planActivate).cm = s.cm ∧ (s.planActivate).cf = s.cf ∧
    (s.planActivate).pw = s.pw ∧ (s.planActivate).th = s.th := by
  and_intros <;> (unfold State.planActivate; repeat' (first | with_reducible rfl | (simp; done) | split | with_reducible refine (foldl_inv _ _ _ _ (fun _ _ => ?_)).trans ?_ | (dsimp only; first | split | with_reducible refine (foldl_inv _ _ _ _ (fun _ _ => ?_)).trans ?_)))

@[simp] theorem State.headRestart_frame (s : State) (h : Nat) :
    (s.headRestart h).now = s.now ∧ (s.headRestart h).phase = s.phase ∧ (s.headRestart h).pending = s.pending ∧
    (s.headRestart h).nodeOfs = s.nodeOfs ∧ (s.headRestart h).freeCtr = s.freeCtr ∧ (s.headRestart h).tx = s.tx ∧
    (s.headRestart h).regs = s.regs ∧ (s.headRestart h).tl = s.tl := by
  and_intros <;> (unfold State.headRestart; repeat' (first | with_reducible rfl | (simp; done) | split | with_reducible refine (foldl_inv _ _ _ _ (fun _ _ => ?_)).trans ?_ | (dsimp only; first | split | with_reducible refine (foldl_inv _ _ _ _ (fun _ _ => ?_)).trans ?_)))

@[simp] theorem State.headRestart_frame2 (s : State) (h : Nat) :
    (s.headRestart h).sq = s.sq ∧ (s.headRestart h).fd = s.fd ∧ (s.headRestart h).ex = s.ex ∧ (s.headRestart h).sv = s.sv ∧
    (s.headRestart h).ax = s.ax ∧ (s.headRestart h).aq = s.aq ∧ (s.headRestart h).il = s.il ∧ (s.headRestart h).ln = s.ln := by
  and_intros <;> (unfold State.headRestart; repeat' (first | with_reducible rfl | (simp; done) | split | with_reducible refine (foldl_inv _ _ _ _ (fun _ _ => ?_)).trans ?_ | (dsimp only; first | split | with_reducible refine (foldl_inv _ _ _ _ (fun _ _ => ?_)).trans ?_)))

@[simp] theorem State.headRestart_frame3 (s : State) (h : Nat) :
    (s.headRestart h).ev = s.ev ∧ (s.headRestart h).safe = s.safe ∧ (s.headRestart h).dm = s.dm ∧
    (s.headRestart h).cm = s.cm ∧ (s.headRestart h).cf = s.cf ∧ (s.headRestart h).pw = s.pw ∧ (s.headRestart h).th = s.th := by
  and_intros <;> (unfold State.headRestart; repeat' (first | with_reducible rfl | (simp; done) | split | with_reducible refine (foldl_inv _ _ _ _ (fun _ _ => ?_)).trans ?_ | (dsimp only; first | split | with_reducible refine (foldl_inv _ _ _ _ (fun _ _ => ?_)).trans ?_)))

@[simp] theorem State.headUnalign_frame (s : State) (h : Nat) :
    (s.headUnalign h).now = s.now ∧ (s.headUnalign h).phase = s.phase ∧ (s.headUnalign h).pending = s.pending ∧
    (s.headUnalign h).nodeOfs = s.nodeOfs ∧ (s.headUnalign h).freeCtr = s.freeCtr ∧ (s.headUnalign h).tx = s.tx ∧
    (s.headUnalign h).tl = s.tl ∧ (s.headUnalign h).sq = s.sq := by
  and_intros <;> (unfold State.headUnalign; repeat' (first | with_reducible rfl | (simp; done) | split | with_reducible refine (foldl_inv _ _ _ _ (fun _ _ => ?_)).trans ?_ | (dsimp only; first | split | with_reducible refine (foldl_inv _ _ _ _ (fun _ _ => ?_)).trans ?_)))

@[simp] theorem State.headUnalign_frame2 (s : State) (h : Nat) :
    (s.headUnalign h).fd = s.fd ∧ (s.headUnalign h).ex = s.ex ∧ (s.headUnalign h).sv = s.sv ∧ (s.headUnalign h).ax = s.ax ∧
    (s.headUnalign h).aq = s.aq ∧ (s.headUnalign h).il = s.il ∧ (s.headUnalign h).ln = s.ln ∧ (s.headUnalign h).dm = s.dm := by
  and_intros <;> (unfold State.headUnalign; repeat' (first | with_reducible rfl | (simp; done) | split | with_reducible refine (foldl_inv _ _ _ _ (fun _ _ => ?_)).trans ?_ | (dsimp only; first | split | with_reducible refine (foldl_inv _ _ _ _ (fun _ _ => ?_)).trans ?_)))

@[simp] theorem State.headUnalign_frame3 (s : State) (h : Nat) :
    (s.headUnalign h).cm = s.cm ∧ (s.headUnalign h).cf = s.cf ∧ (s.headUnalign h).pw = s.pw ∧ (s.headUnalign h).th = s.th := by
  and_intros <;> (unfold State.headUnalign; repeat' (first | with_reducible rfl | (simp; done) | split | with_reducible refine (foldl_inv _ _ _ _ (fun _ _ => ?_)).trans ?_ | (dsimp only; first | split | with_reducible refine (foldl_inv _ _ _ _ (fun _ _ => ?_)).trans ?_)))

@[simp] theorem State.sendHcfg_frame (s : State) (rd : Nat → Score) (h : Nat) :
    (s.sendHcfg rd h).now = s.now ∧ (s.sendHcfg rd h).phase = s.phase ∧ (s.sendHcfg rd h).pending = s.pending ∧
    (s.sendHcfg rd h).nodeOfs = s.nodeOfs ∧ (s.sendHcfg rd h).freeCtr = s.freeCtr ∧ (s.sendHcfg rd h).tx = s.tx ∧
    (s.sendHcfg rd h).regs = s.regs ∧ (s.sendHcfg rd h).tl = s.tl := by
  and_intros <;> (unfold State.sendHcfg; repeat' (first | with_reducible rfl | (simp; done) | split | with_reducible refine (foldl_inv _ _ _ _ (fun _ _ => ?_)).trans ?_ | (dsimp only; first | split | with_reducible refine (foldl_inv _ _ _ _ (fun _ _ => ?_)).trans ?_)))

@[simp] theorem State.sendHcfg_frame2 (s : State) (rd : Nat → Score) (h : Nat) :
    (s.sendHcfg rd h).sq = s.sq ∧ (s.sendHcfg rd h).fd = s.fd ∧ (s.sendHcfg rd h).ex = s.ex ∧ (s.sendHcfg rd h).sv = s.sv ∧
    (s.sendHcfg rd h).ax = s.ax ∧ (s.sendHcfg rd h).aq = s.aq ∧ (s.sendHcfg rd h).il = s.il ∧ (s.sendHcfg rd h).ln = s.ln := by
  and_intros <;> (unfold State.sendHcfg; repeat' (first | with_reducible rfl | (simp; done) | split | with_reducible refine (foldl_inv _ _ _ _ (fun _ _ => ?_)).trans ?_ | (dsimp only; first | split | with_reducible refine (foldl_inv _ _ _ _ (fun _ _ => ?_)).trans ?_)))

@[simp] theorem State.sendHcfg_frame3 (s : State) (rd : Nat → Score) (h : Nat) :
    (s.sendHcfg rd h).ev = s.ev ∧ (s.sendHcfg rd h).safe = s.safe ∧ (s.sendHcfg rd h).dm = s.dm ∧
    (s.sendHcfg rd h).cm = s.cm ∧ (s.sendHcfg rd h).cf = s.cf ∧ (s.sendHcfg rd h).pw = s.pw ∧ (s.sendHcfg rd h).th = s.th := by
  and_intros <;> (unfold State.sendHcfg; repeat' (first | with_reducible rfl | (simp; done) | split | with_reducible refine (foldl_inv _ _ _ _ (fun _ _ => ?_)).trans ?_ | (dsimp only; first | split | with_reducible refine (foldl_inv _ _ _ _ (fun _ _ => ?_)).trans ?_)))

@[simp] theorem State.hcfgAll_frame (s : State) (rd : Nat → Score) :
    (s.hcfgAll rd).now = s.now ∧ (s.hcfgAll rd).phase = s.phase ∧ (s.hcfgAll rd).pending = s.pending ∧
    (s.hcfgAll rd).nodeOfs = s.nodeOfs ∧ (s.hcfgAll rd).freeCtr = s.freeCtr ∧ (s.hcfgAll rd).tx = s.tx ∧
    (s.hcfgAll rd).regs = s.regs ∧ (s.hcfgAll rd).tl = s.tl := by
  and_intros <;> (unfold State.hcfgAll; repeat' (first | with_reducible rfl | (simp; done) | split | with_reducible refine (foldl_inv _ _ _ _ (fun _ _ => ?_)).trans ?_ | (dsimp only; first | split | with_reducible refine (foldl_inv _ _ _ _ (fun _ _ => ?_)).trans ?_)))

@[simp] theorem State.hcfgAll_frame2 (s : State) (rd : Nat → Score) :
    (s.hcfgAll rd).sq = s.sq ∧ (s.hcfgAll rd).fd = s.fd ∧ (s.hcfgAll rd).ex = s.ex ∧ (s.hcfgAll rd).sv = s.sv ∧
    (s.hcfgAll rd).ax = s.ax ∧ (s.hcfgAll rd).aq = s.aq ∧ (s.hcfgAll rd).il = s.il ∧ (s.hcfgAll rd).ln = s.ln := by
  and_intros <;> (unfold State.hcfgAll; repeat' (first | with_reducible rfl | (simp; done) | split | with_reducible refine (foldl_inv _ _ _ _ (fun _ _ => ?_)).trans ?_ | (dsimp only; first | split | with_reducible refine (foldl_inv _ _ _ _ (fun _ _ => ?_)).trans ?_)))

@[simp] theorem State.hcfgAll_frame3 (s : State) (rd : Nat → Score) :
    (s.hcfgAll rd).ev = s.ev ∧ (s.hcfgAll rd).safe = s.safe ∧ (s.hcfgAll rd).dm = s.dm ∧ (s.hcfgAll rd).cm = s.cm ∧
    (s.hcfgAll rd).cf = s.cf ∧ (s.hcfgAll rd).pw = s.pw ∧ (s.hcfgAll rd).th = s.th := by
  and_intros <;> (unfold State.hcfgAll; repeat' (first | with_reducible rfl | (simp; done) | split | with_reducible refine (foldl_inv _ _ _ _ (fun _ _ => ?_)).trans ?_ | (dsimp only; first | split | with_reducible refine (foldl_inv _ _ _ _ (fun _ _ => ?_)).trans ?_)))

@[simp] theorem State.hcfgChanged_frame (s : State) (rd rd' : Nat → Score) :
    (s.hcfgChanged rd rd').now = s.now ∧ (s.hcfgChanged rd rd').phase = s.phase ∧ (s.hcfgChanged rd rd').pending = s.pending ∧
    (s.hcfgChanged rd rd').nodeOfs = s.nodeOfs ∧ (s.hcfgChanged rd rd').freeCtr = s.freeCtr ∧
    (s.hcfgChanged rd rd').tx = s.tx ∧ (s.hcfgChanged rd rd').regs = s.regs ∧ (s.hcfgChanged rd rd').tl = s.tl := by
  and_intros <;> (unfold State.hcfgChanged; repeat' (first | with_reducible rfl | (simp; done) | split | with_reducible refine (foldl_inv _ _ _ _ (fun _ _ => ?_)).trans ?_ | (dsimp only; first | split | with_reducible refine (foldl_inv _ _ _ _ (fun _ _ => ?_)).trans ?_)))

@[simp] theorem State.hcfgChanged_frame2 (s : State) (rd rd' : Nat → Score) :
    (s.hcfgChanged rd rd').sq = s.sq ∧ (s.hcfgChanged rd rd').fd = s.fd ∧ (s.hcfgChanged rd rd').ex = s.ex ∧
    (s.hcfgChanged rd rd').sv = s.sv ∧ (s.hcfgChanged rd rd').ax = s.ax ∧ (s.hcfgChanged rd rd').aq = s.aq ∧
    (s.hcfgChanged rd rd').il = s.il ∧ (s.hcfgChanged rd rd').ln = s.ln := by
  and_intros <;> (unfold State.hcfgChanged; repeat' (first | with_reducible rfl | (simp; done) | split | with_reducible refine (foldl_inv _ _ _ _ (fun _ _ => ?_)).trans ?_ | (dsimp only; first | split | with_reducible refine (foldl_inv _ _ _ _ (fun _ _ => ?_)).trans ?_)))

@[simp] theorem State.hcfgChanged_frame3 (s : State) (rd rd' : Nat → Score) :
    (s.hcfgChanged rd rd').ev = s.ev ∧ (s.hcfgChanged rd rd').safe = s.safe ∧ (s.hcfgChanged rd rd').dm = s.dm ∧
    (s.hcfgChanged rd rd').cm = s.cm ∧ (s.hcfgChanged rd rd').cf = s.cf ∧ (s.hcfgChanged rd rd').pw = s.pw ∧
    (s.hcfgChanged rd rd').th = s.th := by
  and_intros <;> (unfold State.hcfgChanged; repeat' (first | with_reducible rfl | (simp; done) | split | with_reducible refine (foldl_inv _ _ _ _ (fun _ _ => ?_)).trans ?_ | (dsimp only; first | split | with_reducible refine (foldl_inv _ _ _ _ (fun _ _ => ?_)).trans ?_)))

@[simp] theorem State.hcfgGap_frame (s : State) :
    (s.hcfgGap).now = s.now ∧ (s.hcfgGap).phase = s.phase ∧ (s.hcfgGap).pending = s.pending ∧
    (s.hcfgGap).nodeOfs = s.nodeOfs ∧ (s.hcfgGap).freeCtr = s.freeCtr ∧ (s.hcfgGap).tx = s.tx ∧ (s.hcfgGap).regs = s.regs ∧
    (s.hcfgGap).tl = s.tl := by
  and_intros <;> (unfold State.hcfgGap; repeat' (first | with_reducible rfl | (simp; done) | split | with_reducible refine (foldl_inv _ _ _ _ (fun _ _ => ?_)).trans ?_ | (dsimp only; first | split | with_reducible refine (foldl_inv _ _ _ _ (fun _ _ => ?_)).trans ?_)))

@[simp] theorem State.hcfgGap_frame2 (s : State) :
    (s.hcfgGap).sq = s.sq ∧ (s.hcfgGap).fd = s.fd ∧ (s.hcfgGap).ex = s.ex ∧ (s.hcfgGap).sv = s.sv ∧ (s.hcfgGap).ax = s.ax ∧
    (s.hcfgGap).aq = s.aq ∧ (s.hcfgGap).il = s.il ∧ (s.hcfgGap).ln = s.ln := by
  and_intros <;> (unfold State.hcfgGap; repeat' (first | with_reducible rfl | (simp; done) | split | with_reducible refine (foldl_inv _ _ _ _ (fun _ _ => ?_)).trans ?_ | (dsimp only; first | split | with_reducible refine (foldl_inv _ _ _ _ (fun _ _ => ?_)).trans ?_)))

@[simp] theorem State.hcfgGap_frame3 (s : State) :
    (s.hcfgGap).ev = s.ev ∧ (s.hcfgGap).safe = s.safe ∧ (s.hcfgGap).dm = s.dm ∧ (s.hcfgGap).cm = s.cm ∧
    (s.hcfgGap).cf = s.cf ∧ (s.hcfgGap).pw = s.pw ∧ (s.hcfgGap).th = s.th := by
  and_intros <;> (unfold State.hcfgGap; repeat' (first | with_reducible rfl | (simp; done) | split | with_reducible refine (foldl_inv _ _ _ _ (fun _ _ => ?_)).trans ?_ | (dsimp only; first | split | with_reducible refine (foldl_inv _ _ _ _ (fun _ _ => ?_)).trans ?_)))

@[simp] theorem State.headAttach_frame (s : State) (h b ident : Nat) :
    (s.headAttach h b ident).now = s.now ∧ (s.headAttach h b ident).phase = s.phase ∧
    (s.headAttach h b ident).pending = s.pending ∧ (s.headAttach h b ident).nodeOfs = s.nodeOfs ∧
    (s.headAttach h b ident).freeCtr = s.freeCtr ∧ (s.headAttach h b ident).tx = s.tx ∧ (s.headAttach h b ident).tl = s.tl ∧
    (s.headAttach h b ident).sq = s.sq := by
  and_intros <;> (unfold State.headAttach; repeat' (first | with_reducible rfl | (simp; done) | split | with_reducible refine (foldl_inv _ _ _ _ (fun _ _ => ?_)).trans ?_ | (dsimp only; first | split | with_reducible refine (foldl_inv _ _ _ _ (fun _ _ => ?_)).trans ?_)))

@[simp] theorem State.headAttach_frame2 (s : State) (h b ident : Nat) :
    (s.headAttach h b ident).fd = s.fd ∧ (s.headAttach h b ident).ex = s.ex ∧ (s.headAttach h b ident).sv = s.sv ∧
    (s.headAttach h b ident).ax = s.ax ∧ (s.headAttach h b ident).aq = s.aq ∧ (s.headAttach h b ident).il = s.il ∧
    (s.headAttach h b ident).ln = s.ln ∧ (s.headAttach h b ident).dm = s.dm := by
  and_intros <;> (unfold State.headAttach; repeat' (first | with_reducible rfl | (simp; done) | split | with_reducible refine (foldl_inv _ _ _ _ (fun _ _ => ?_)).trans ?_ | (dsimp only; first | split | with_reducible refine (foldl_inv _ _ _ _ (fun _ _ => ?_)).trans ?_)))

@[simp] theorem State.headAttach_frame3 (s : State) (h b ident : Nat) :
    (s.headAttach h b ident).cm = s.cm ∧ (s.headAttach h b ident).cf = s.cf ∧ (s.headAttach h b ident).pw = s.pw ∧
    (s.headAttach h b ident).th = s.th := by
  and_intros <;> (unfold State.headAttach; repeat' (first | with_reducible rfl | (simp; done) | split | with_reducible refine (foldl_inv _ _ _ _ (fun _ _ => ?_)).trans ?_ | (dsimp only; first | split | with_reducible refine (foldl_inv _ _ _ _ (fun _ _ => ?_)).trans ?_)))

@[simp] theorem State.headDetach_frame (s : State) (ident : Nat) :
    (s.headDetach ident).now = s.now ∧ (s.headDetach ident).phase = s.phase ∧ (s.headDetach ident).pending = s.pending ∧
    (s.headDetach ident).nodeOfs = s.nodeOfs ∧ (s.headDetach ident).freeCtr = s.freeCtr ∧ (s.headDetach ident).tx = s.tx ∧
    (s.headDetach ident).tl = s.tl ∧ (s.headDetach ident).sq = s.sq := by
  and_intros <;> (unfold State.headDetach; repeat' (first | with_reducible rfl | (simp; done) | split | with_reducible refine (foldl_inv _ _ _ _ (fun _ _ => ?_)).trans ?_ | (dsimp only; first | split | with_reducible refine (foldl_inv _ _ _ _ (fun _ _ => ?_)).trans ?_)))

@[simp] theorem State.headDetach_frame2 (s : State) (ident : Nat) :
    (s.headDetach ident).fd = s.fd ∧ (s.headDetach ident).ex = s.ex ∧ (s.headDetach ident).sv = s.sv ∧
    (s.headDetach ident).ax = s.ax ∧ (s.headDetach ident).aq = s.aq ∧ (s.headDetach ident).il = s.il ∧
    (s.headDetach ident).ln = s.ln ∧ (s.headDetach ident).ev = s.ev := by
  and_intros <;> (unfold State.headDetach; repeat' (first | with_reducible rfl | (simp; done) | split | with_reducible refine (foldl_inv _ _ _ _ (fun _ _ => ?_)).trans ?_ | (dsimp only; first | split | with_reducible refine (foldl_inv _ _ _ _ (fun _ _ => ?_)).trans ?_)))

@[simp] theorem State.headDetach_frame3 (s : State) (ident : Nat) :
    (s.headDetach ident).dm = s.dm ∧ (s.headDetach ident).cm = s.cm ∧ (s.headDetach ident).cf = s.cf ∧
    (s.headDetach ident).pw = s.pw ∧ (s.headDetach ident).th = s.th := by
  and_intros <;> (unfold State.headDetach; repeat' (first | with_reducible rfl | (simp; done) | split | with_reducible refine (foldl_inv _ _ _ _ (fun _ _ => ?_)).trans ?_ | (dsimp only; first | split | with_reducible refine (foldl_inv _ _ _ _ (fun _ _ => ?_)).trans ?_)))

@[simp] theorem State.askTime_frame (s : State) (h : Nat) (k : Head) :
    (s.askTime h k).now = s.now ∧ (s.askTime h k).phase = s.phase ∧ (s.askTime h k).pending = s.pending ∧
    (s.askTime h k).nodeOfs = s.nodeOfs ∧ (s.askTime h k).tx = s.tx ∧ (s.askTime h k).regs = s.regs ∧
    (s.askTime h k).tl = s.tl ∧ (s.askTime h k).sq = s.sq := by
  and_intros <;> (unfold State.askTime; repeat' (first | with_reducible rfl | (simp; done) | split | with_reducible refine (foldl_inv _ _ _ _ (fun _ _ => ?_)).trans ?_ | (dsimp only; first | split | with_reducible refine (foldl_inv _ _ _ _ (fun _ _ => ?_)).trans ?_)))

@[simp] theorem State.askTime_frame2 (s : State) (h : Nat) (k : Head) :
    (s.askTime h k).fd = s.fd ∧ (s.askTime h k).ex = s.ex ∧ (s.askTime h k).sv = s.sv ∧ (s.askTime h k).ax = s.ax ∧
    (s.askTime h k).aq = s.aq ∧ (s.askTime h k).il = s.il ∧ (s.askTime h k).ln = s.ln ∧ (s.askTime h k).ev = s.ev := by
  and_intros <;> (unfold State.askTime; repeat' (first | with_reducible rfl | (simp; done) | split | with_reducible refine (foldl_inv _ _ _ _ (fun _ _ => ?_)).trans ?_ | (dsimp only; first | split | with_reducible refine (foldl_inv _ _ _ _ (fun _ _ => ?_)).trans ?_)))

@[simp] theorem State.askTime_frame3 (s : State) (h : Nat) (k : Head) :
    (s.askTime h k).safe = s.safe ∧ (s.askTime h k).dm = s.dm ∧ (s.askTime h k).cm = s.cm ∧ (s.askTime h k).cf = s.cf ∧
    (s.askTime h k).pw = s.pw ∧ (s.askTime h k).th = s.th := by
  and_intros <;> (unfold State.askTime; repeat' (first | with_reducible rfl | (simp; done) | split | with_reducible refine (foldl_inv _ _ _ _ (fun _ _ => ?_)).trans ?_ | (dsimp only; first | split | with_reducible refine (foldl_inv _ _ _ _ (fun _ _ => ?_)).trans ?_)))

@[simp] theorem State.headMeasure_frame (s : State) (h : Nat) (rtt : Int) (t21 : Int) :
    (s.headMeasure h rtt t21).now = s.now ∧ (s.headMeasure h rtt t21).phase = s.phase ∧
    (s.headMeasure h rtt t21).pending = s.pending ∧ (s.headMeasure h rtt t21).nodeOfs = s.nodeOfs ∧
    (s.headMeasure h rtt t21).freeCtr = s.freeCtr ∧ (s.headMeasure h rtt t21).tx = s.tx ∧
    (s.headMeasure h rtt t21).tl = s.tl ∧ (s.headMeasure h rtt t21).sq = s.sq := by
  and_intros <;> (unfold State.headMeasure; repeat' (first | with_reducible rfl | (simp; done) | split | with_reducible refine (foldl_inv _ _ _ _ (fun _ _ => ?_)).trans ?_ | (dsimp only; first | split | with_reducible refine (foldl_inv _ _ _ _ (fun _ _ => ?_)).trans ?_)))

@[simp] theorem State.headMeasure_frame2 (s : State) (h : Nat) (rtt : Int) (t21 : Int) :
    (s.headMeasure h rtt t21).fd = s.fd ∧ (s.headMeasure h rtt t21).ex = s.ex ∧ (s.headMeasure h rtt t21).sv = s.sv ∧
    (s.headMeasure h rtt t21).ax = s.ax ∧ (s.headMeasure h rtt t21).aq = s.aq ∧ (s.headMeasure h rtt t21).il = s.il ∧
    (s.headMeasure h rtt t21).ln = s.ln ∧ (s.headMeasure h rtt t21).dm = s.dm := by
  and_intros <;> (unfold State.headMeasure; repeat' (first | with_reducible rfl | (simp; done) | split | with_reducible refine (foldl_inv _ _ _ _ (fun _ _ => ?_)).trans ?_ | (dsimp only; first | split | with_reducible refine (foldl_inv _ _ _ _ (fun _ _ => ?_)).trans ?_)))

@[simp] theorem State.headMeasure_frame3 (s : State) (h : Nat) (rtt : Int) (t21 : Int) :
    (s.headMeasure h rtt t21).cm = s.cm ∧ (s.headMeasure h rtt t21).cf = s.cf ∧ (s.headMeasure h rtt t21).pw = s.pw ∧
    (s.headMeasure h rtt t21).th = s.th := by
  and_intros <;> (unfold State.headMeasure; repeat' (first | with_reducible rfl | (simp; done) | split | with_reducible refine (foldl_inv _ _ _ _ (fun _ _ => ?_)).trans ?_ | (dsimp only; first | split | with_reducible refine (foldl_inv _ _ _ _ (fun _ _ => ?_)).trans ?_)))

@[simp] theorem State.headEvent_frame (s : State) (h seq : Nat) (ofs : Option Int) (a b : Score) :
    (s.headEvent h seq ofs a b).now = s.now ∧ (s.headEvent h seq ofs a b).phase = s.phase ∧
    (s.headEvent h seq ofs a b).pending = s.pending ∧ (s.headEvent h seq ofs a b).nodeOfs = s.nodeOfs ∧
    (s.headEvent h seq ofs a b).freeCtr = s.freeCtr ∧ (s.headEvent h seq ofs a b).tx = s.tx ∧
    (s.headEvent h seq ofs a b).tl = s.tl ∧ (s.headEvent h seq ofs a b).sq = s.sq := by
  and_intros <;> (unfold State.headEvent; repeat' (first | with_reducible rfl | (simp; done) | split | with_reducible refine (foldl_inv _ _ _ _ (fun _ _ => ?_)).trans ?_ | (dsimp only; first | split | with_reducible refine (foldl_inv _ _ _ _ (fun _ _ => ?_)).trans ?_)))

@[simp] theorem State.headEvent_frame2 (s : State) (h seq : Nat) (ofs : Option Int) (a b : Score) :
    (s.headEvent h seq ofs a b).ex = s.ex ∧ (s.headEvent h seq ofs a b).sv = s.sv ∧ (s.headEvent h seq ofs a b).ax = s.ax ∧
    (s.headEvent h seq ofs a b).aq = s.aq ∧ (s.headEvent h seq ofs a b).il = s.il ∧ (s.headEvent h seq ofs a b).ln = s.ln ∧
    (s.headEvent h seq ofs a b).ev = s.ev ∧ (s.headEvent h seq ofs a b).safe = s.safe := by
  and_intros <;> (unfold State.headEvent; repeat' (first | with_reducible rfl | (simp; done) | split | with_reducible refine (foldl_inv _ _ _ _ (fun _ _ => ?_)).trans ?_ | (dsimp only; first | split | with_reducible refine (foldl_inv _ _ _ _ (fun _ _ => ?_)).trans ?_)))

@[simp] theorem State.headEvent_frame3 (s : State) (h seq : Nat) (ofs : Option Int) (a b : Score) :
    (s.headEvent h seq ofs a b).dm = s.dm ∧ (s.headEvent h seq ofs a b).cm = s.cm ∧ (s.headEvent h seq ofs a b).cf = s.cf ∧
    (s.headEvent h seq ofs a b).pw = s.pw ∧ (s.headEvent h seq ofs a b).th = s.th := by
  and_intros <;> (unfold State.headEvent; repeat' (first | with_reducible rfl | (simp; done) | split | with_reducible refine (foldl_inv _ _ _ _ (fun _ _ => ?_)).trans ?_ | (dsimp only; first | split | with_reducible refine (foldl_inv _ _ _ _ (fun _ _ => ?_)).trans ?_)))

@[simp] theorem State.setPartners_frame (s : State) (ps : List Partner) :
    (s.setPartners ps).now = s.now ∧ (s.setPartners ps).phase = s.phase ∧ (s.setPartners ps).pending = s.pending ∧
    (s.setPartners ps).nodeOfs = s.nodeOfs ∧ (s.setPartners ps).freeCtr = s.freeCtr ∧ (s.setPartners ps).tx = s.tx ∧
    (s.setPartners ps).tl = s.tl ∧ (s.setPartners ps).sq = s.sq := by
  and_intros <;> (unfold State.setPartners; repeat' (first | with_reducible rfl | (simp; done) | split | with_reducible refine (foldl_inv _ _ _ _ (fun _ _ => ?_)).trans ?_ | (dsimp only; first | split | with_reducible refine (foldl_inv _ _ _ _ (fun _ _ => ?_)).trans ?_)))

@[simp] theorem State.setPartners_frame2 (s : State) (ps : List Partner) :
    (s.setPartners ps).fd = s.fd ∧ (s.setPartners ps).ex = s.ex ∧ (s.setPartners ps).sv = s.sv ∧
    (s.setPartners ps).ax = s.ax ∧ (s.setPartners ps).aq = s.aq ∧ (s.setPartners ps).il = s.il ∧
    (s.setPartners ps).ln = s.ln ∧ (s.setPartners ps).ev = s.ev := by
  and_intros <;> (unfold State.setPartners; repeat' (first | with_reducible rfl | (simp; done) | split | with_reducible refine (foldl_inv _ _ _ _ (fun _ _ => ?_)).trans ?_ | (dsimp only; first | split | with_reducible refine (foldl_inv _ _ _ _ (fun _ _ => ?_)).trans ?_)))

@[simp] theorem State.setPartners_frame3 (s : State) (ps : List Partner) :
    (s.setPartners ps).safe = s.safe ∧ (s.setPartners ps).dm = s.dm ∧ (s.setPartners ps).cm = s.cm ∧
    (s.setPartners ps).cf = s.cf ∧ (s.setPartners ps).pw = s.pw ∧ (s.setPartners ps).th = s.th := by
  and_intros <;> (unfold State.setPartners; repeat' (first | with_reducible rfl | (simp; done) | split | with_reducible refine (foldl_inv _ _ _ _ (fun _ _ => ?_)).trans ?_ | (dsimp only; first | split | with_reducible refine (foldl_inv _ _ _ _ (fun _ _ => ?_)).trans ?_)))

@[simp] theorem State.headMove_frame (s : State) (ident b : Nat) :
    (s.headMove ident b).now = s.now ∧ (s.headMove ident b).phase = s.phase ∧ (s.headMove ident b).pending = s.pending ∧
    (s.headMove ident b).nodeOfs = s.nodeOfs ∧ (s.headMove ident b).freeCtr = s.freeCtr ∧ (s.headMove ident b).tx = s.tx ∧
    (s.headMove ident b).tl = s.tl ∧ (s.headMove ident b).sq = s.sq := by
  and_intros <;> (unfold State.headMove; repeat' (first | with_reducible rfl | (simp; done) | split | with_reducible refine (foldl_inv _ _ _ _ (fun _ _ => ?_)).trans ?_ | (dsimp only; first | split | with_reducible refine (foldl_inv _ _ _ _ (fun _ _ => ?_)).trans ?_)))

@[simp] theorem State.headMove_frame2 (s : State) (ident b : Nat) :
    (s.headMove ident b).fd = s.fd ∧ (s.headMove ident b).ex = s.ex ∧ (s.headMove ident b).sv = s.sv ∧
    (s.headMove ident b).ax = s.ax ∧ (s.headMove ident b).aq = s.aq ∧ (s.headMove ident b).il = s.il ∧
    (s.headMove ident b).ln = s.ln ∧ (s.headMove ident b).dm = s.dm := by
  and_intros <;> (unfold State.headMove; repeat' (first | with_reducible rfl | (simp; done) | split | with_reducible refine (foldl_inv _ _ _ _ (fun _ _ => ?_)).trans ?_ | (dsimp only; first | split | with_reducible refine (foldl_inv _ _ _ _ (fun _ _ => ?_)).trans ?_)))

@[simp] theorem State.headMove_frame3 (s : State) (ident b : Nat) :
    (s.headMove ident b).cm = s.cm ∧ (s.headMove ident b).cf = s.cf ∧ (s.headMove ident b).pw = s.pw ∧
    (s.headMove ident b).th = s.th := by
  and_intros <;> (unfold State.headMove; repeat' (first | with_reducible rfl | (simp; done) | split | with_reducible refine (foldl_inv _ _ _ _ (fun _ _ => ?_)).trans ?_ | (dsimp only; first | split | with_reducible refine (foldl_inv _ _ _ _ (fun _ _ => ?_)).trans ?_)))

@[simp] theorem State.pruneDests_frame (s : State) :
    (s.pruneDests).now = s.now ∧ (s.pruneDests).phase = s.phase ∧ (s.pruneDests).pending = s.pending ∧
    (s.pruneDests).nodeOfs = s.nodeOfs ∧ (s.pruneDests).freeCtr = s.freeCtr ∧ (s.pruneDests).tx = s.tx ∧
    (s.pruneDests).regs = s.regs ∧ (s.pruneDests).tl = s.tl := by
  and_intros <;> (unfold State.pruneDests; repeat' (first | with_reducible rfl | (simp; done) | split | with_reducible refine (foldl_inv _ _ _ _ (fun _ _ => ?_)).trans ?_ | (dsimp only; first | split | with_reducible refine (foldl_inv _ _ _ _ (fun _ _ => ?_)).trans ?_)))

@[simp] theorem State.pruneDests_frame2 (s : State) :
    (s.pruneDests).sq = s.sq ∧ (s.pruneDests).fd = s.fd ∧ (s.pruneDests).ex = s.ex ∧ (s.pruneDests).sv = s.sv ∧
    (s.pruneDests).ax = s.ax ∧ (s.pruneDests).aq = s.aq ∧ (s.pruneDests).il = s.il ∧ (s.pruneDests).ln = s.ln := by
  and_intros <;> (unfold State.pruneDests; repeat' (first | with_reducible rfl | (simp; done) | split | with_reducible refine (foldl_inv _ _ _ _ (fun _ _ => ?_)).trans ?_ | (dsimp only; first | split | with_reducible refine (foldl_inv _ _ _ _ (fun _ _ => ?_)).trans ?_)))

@[simp] theorem State.pruneDests_frame3 (s : State) :
    (s.pruneDests).fl = s.fl ∧ (s.pruneDests).safe = s.safe ∧ (s.pruneDests).dm = s.dm ∧ (s.pruneDests).cm = s.cm ∧
    (s.pruneDests).cf = s.cf ∧ (s.pruneDests).pw = s.pw ∧ (s.pruneDests).th = s.th := by
  and_intros <;> (unfold State.pruneDests; repeat' (first | with_reducible rfl | (simp; done) | split | with_reducible refine (foldl_inv _ _ _ _ (fun _ _ => ?_)).trans ?_ | (dsimp only; first | split | with_reducible refine (foldl_inv _ _ _ _ (fun _ _ => ?_)).trans ?_)))

@[simp] theorem State.setPtp_frame (s : State) (p : Ptp) :
    (s.setPtp p).now = s.now ∧ (s.setPtp p).phase = s.phase ∧ (s.setPtp p).pending = s.pending ∧
    (s.setPtp p).nodeOfs = s.nodeOfs ∧ (s.setPtp p).freeCtr = s.freeCtr ∧ (s.setPtp p).tx = s.tx ∧
    (s.setPtp p).regs = s.regs ∧ (s.setPtp p).tl = s.tl := by
  and_intros <;> (unfold State.setPtp; repeat' (first | with_reducible rfl | (simp; done) | split | with_reducible refine (foldl_inv _ _ _ _ (fun _ _ => ?_)).trans ?_ | (dsimp only; first | split | with_reducible refine (foldl_inv _ _ _ _ (fun _ _ => ?_)).trans ?_)))

@[simp] theorem State.setPtp_frame2 (s : State) (p : Ptp) :
    (s.setPtp p).sq = s.sq ∧ (s.setPtp p).fd = s.fd ∧ (s.setPtp p).ex = s.ex ∧ (s.setPtp p).sv = s.sv ∧
    (s.setPtp p).ax = s.ax ∧ (s.setPtp p).aq = s.aq ∧ (s.setPtp p).il = s.il ∧ (s.setPtp p).ln = s.ln := by
  and_intros <;> (unfold State.setPtp; repeat' (first | with_reducible rfl | (simp; done) | split | with_reducible refine (foldl_inv _ _ _ _ (fun _ _ => ?_)).trans ?_ | (dsimp only; first | split | with_reducible refine (foldl_inv _ _ _ _ (fun _ _ => ?_)).trans ?_)))

@[simp] theorem State.setPtp_frame3 (s : State) (p : Ptp) :
    (s.setPtp p).ev = s.ev ∧ (s.setPtp p).safe = s.safe ∧ (s.setPtp p).dm = s.dm ∧ (s.setPtp p).cm = s.cm ∧
    (s.setPtp p).cf = s.cf ∧ (s.setPtp p).pw = s.pw ∧ (s.setPtp p).th = s.th := by
  and_intros <;> (unfold State.setPtp; repeat' (first | with_reducible rfl | (simp; done) | split | with_reducible refine (foldl_inv _ _ _ _ (fun _ _ => ?_)).trans ?_ | (dsimp only; first | split | with_reducible refine (foldl_inv _ _ _ _ (fun _ _ => ?_)).trans ?_)))

@[simp] theorem State.ptpStat_frame (s : State) :
    (s.ptpStat).now = s.now ∧ (s.ptpStat).phase = s.phase ∧ (s.ptpStat).pending = s.pending ∧
    (s.ptpStat).nodeOfs = s.nodeOfs ∧ (s.ptpStat).freeCtr = s.freeCtr ∧ (s.ptpStat).tx = s.tx ∧ (s.ptpStat).tl = s.tl ∧
    (s.ptpStat).sq = s.sq := by
  and_intros <;> (unfold State.ptpStat; repeat' (first | with_reducible rfl | (simp; done) | split | with_reducible refine (foldl_inv _ _ _ _ (fun _ _ => ?_)).trans ?_ | (dsimp only; first | split | with_reducible refine (foldl_inv _ _ _ _ (fun _ _ => ?_)).trans ?_)))

@[simp] theorem State.ptpStat_frame2 (s : State) :
    (s.ptpStat).fd = s.fd ∧ (s.ptpStat).ex = s.ex ∧ (s.ptpStat).sv = s.sv ∧ (s.ptpStat).ax = s.ax ∧ (s.ptpStat).aq = s.aq ∧
    (s.ptpStat).il = s.il ∧ (s.ptpStat).ln = s.ln ∧ (s.ptpStat).fl = s.fl := by
  and_intros <;> (unfold State.ptpStat; repeat' (first | with_reducible rfl | (simp; done) | split | with_reducible refine (foldl_inv _ _ _ _ (fun _ _ => ?_)).trans ?_ | (dsimp only; first | split | with_reducible refine (foldl_inv _ _ _ _ (fun _ _ => ?_)).trans ?_)))

@[simp] theorem State.ptpStat_frame3 (s : State) :
    (s.ptpStat).ev = s.ev ∧ (s.ptpStat).safe = s.safe ∧ (s.ptpStat).dm = s.dm ∧ (s.ptpStat).cm = s.cm ∧
    (s.ptpStat).cf = s.cf ∧ (s.ptpStat).pw = s.pw ∧ (s.ptpStat).th = s.th := by
  and_intros <;> (unfold State.ptpStat; repeat' (first | with_reducible rfl | (simp; done) | split | with_reducible refine (foldl_inv _ _ _ _ (fun _ _ => ?_)).trans ?_ | (dsimp only; first | split | with_reducible refine (foldl_inv _ _ _ _ (fun _ _ => ?_)).trans ?_)))

@[simp] theorem State.ptpLost_frame (s : State) :
    (s.ptpLost).now = s.now ∧ (s.ptpLost).phase = s.phase ∧ (s.ptpLost).pending = s.pending ∧
    (s.ptpLost).nodeOfs = s.nodeOfs ∧ (s.ptpLost).freeCtr = s.freeCtr ∧ (s.ptpLost).tx = s.tx ∧ (s.ptpLost).tl = s.tl ∧
    (s.ptpLost).fd = s.fd := by
  and_intros <;> (unfold State.ptpLost; repeat' (first | with_reducible rfl | (simp; done) | split | with_reducible refine (foldl_inv _ _ _ _ (fun _ _ => ?_)).trans ?_ | (dsimp only; first | split | with_reducible refine (foldl_inv _ _ _ _ (fun _ _ => ?_)).trans ?_)))

@[simp] theorem State.ptpLost_frame2 (s : State) :
    (s.ptpLost).ex = s.ex ∧ (s.ptpLost).sv = s.sv ∧ (s.ptpLost).ax = s.ax ∧ (s.ptpLost).aq = s.aq ∧ (s.ptpLost).il = s.il ∧
    (s.ptpLost).ln = s.ln ∧ (s.ptpLost).safe = s.safe ∧ (s.ptpLost).dm = s.dm := by
  and_intros <;> (unfold State.ptpLost; repeat' (first | with_reducible rfl | (simp; done) | split | with_reducible refine (foldl_inv _ _ _ _ (fun _ _ => ?_)).trans ?_ | (dsimp only; first | split | with_reducible refine (foldl_inv _ _ _ _ (fun _ _ => ?_)).trans ?_)))

@[simp] theorem State.ptpLost_frame3 (s : State) :
    (s.ptpLost).cm = s.cm ∧ (s.ptpLost).cf = s.cf ∧ (s.ptpLost).pw = s.pw ∧ (s.ptpLost).th = s.th := by
  and_intros <;> (unfold State.ptpLost; repeat' (first | with_reducible rfl | (simp; done) | split | with_reducible refine (foldl_inv _ _ _ _ (fun _ _ => ?_)).trans ?_ | (dsimp only; first | split | with_reducible refine (foldl_inv _ _ _ _ (fun _ _ => ?_)).trans ?_)))

@[simp] theorem State.ptpLocked_frame (s : State) :
    (s.ptpLocked).now = s.now ∧ (s.ptpLocked).phase = s.phase ∧ (s.ptpLocked).pending = s.pending ∧
    (s.ptpLocked).nodeOfs = s.nodeOfs ∧ (s.ptpLocked).freeCtr = s.freeCtr ∧ (s.ptpLocked).tx = s.tx ∧
    (s.ptpLocked).tl = s.tl ∧ (s.ptpLocked).fd = s.fd := by
  and_intros <;> (unfold State.ptpLocked; repeat' (first | with_reducible rfl | (simp; done) | split | with_reducible refine (foldl_inv _ _ _ _ (fun _ _ => ?_)).trans ?_ | (dsimp only; first | split | with_reducible refine (foldl_inv _ _ _ _ (fun _ _ => ?_)).trans ?_)))

@[simp] theorem State.ptpLocked_frame2 (s : State) :
    (s.ptpLocked).ex = s.ex ∧ (s.ptpLocked).sv = s.sv ∧ (s.ptpLocked).ax = s.ax ∧ (s.ptpLocked).aq = s.aq ∧
    (s.ptpLocked).il = s.il ∧ (s.ptpLocked).ln = s.ln ∧ (s.ptpLocked).ev = s.ev ∧ (s.ptpLocked).safe = s.safe := by
  and_intros <;> (unfold State.ptpLocked; repeat' (first | with_reducible rfl | (simp; done) | split | with_reducible refine (foldl_inv _ _ _ _ (fun _ _ => ?_)).trans ?_ | (dsimp only; first | split | with_reducible refine (foldl_inv _ _ _ _ (fun _ _ => ?_)).trans ?_)))

@[simp] theorem State.ptpLocked_frame3 (s : State) :
    (s.ptpLocked).dm = s.dm ∧ (s.ptpLocked).cm = s.cm ∧ (s.ptpLocked).cf = s.cf ∧ (s.ptpLocked).pw = s.pw ∧
    (s.ptpLocked).th = s.th := by
  and_intros <;> (unfold State.ptpLocked; repeat' (first | with_reducible rfl | (simp; done) | split | with_reducible refine (foldl_inv _ _ _ _ (fun _ _ => ?_)).trans ?_ | (dsimp only; first | split | with_reducible refine (foldl_inv _ _ _ _ (fun _ _ => ?_)).trans ?_)))

@[simp] theorem State.ptpPrune_frame (s : State) :
    (s.ptpPrune).now = s.now ∧ (s.ptpPrune).phase = s.phase ∧ (s.ptpPrune).pending = s.pending ∧
    (s.ptpPrune).nodeOfs = s.nodeOfs ∧ (s.ptpPrune).freeCtr = s.freeCtr ∧ (s.ptpPrune).tx = s.tx ∧ (s.ptpPrune).tl = s.tl ∧
    (s.ptpPrune).sq = s.sq := by
  and_intros <;> (unfold State.ptpPrune; repeat' (first | with_reducible rfl | (simp; done) | split | with_reducible refine (foldl_inv _ _ _ _ (fun _ _ => ?_)).trans ?_ | (dsimp only; first | split | with_reducible refine (foldl_inv _ _ _ _ (fun _ _ => ?_)).trans ?_)))

@[simp] theorem State.ptpPrune_frame2 (s : State) :
    (s.ptpPrune).fd = s.fd ∧ (s.ptpPrune).ex = s.ex ∧ (s.ptpPrune).sv = s.sv ∧ (s.ptpPrune).ax = s.ax ∧
    (s.ptpPrune).aq = s.aq ∧ (s.ptpPrune).il = s.il ∧ (s.ptpPrune).ln = s.ln ∧ (s.ptpPrune).ev = s.ev := by
  and_intros <;> (unfold State.ptpPrune; repeat' (first | with_reducible rfl | (simp; done) | split | with_reducible refine (foldl_inv _ _ _ _ (fun _ _ => ?_)).trans ?_ | (dsimp only; first | split | with_reducible refine (foldl_inv _ _ _ _ (fun _ _ => ?_)).trans ?_)))

@[simp] theorem State.ptpPrune_frame3 (s : State) :
    (s.ptpPrune).safe = s.safe ∧ (s.ptpPrune).dm = s.dm ∧ (s.ptpPrune).cm = s.cm ∧ (s.ptpPrune).cf = s.cf ∧
    (s.ptpPrune).pw = s.pw ∧ (s.ptpPrune).th = s.th := by
  and_intros <;> (unfold State.ptpPrune; repeat' (first | with_reducible rfl | (simp; done) | split | with_reducible refine (foldl_inv _ _ _ _ (fun _ _ => ?_)).trans ?_ | (dsimp only; first | split | with_reducible refine (foldl_inv _ _ _ _ (fun _ _ => ?_)).trans ?_)))

@[simp] theorem State.flCntClr_frame (s : State) :
    (s.flCntClr).now = s.now ∧ (s.flCntClr).phase = s.phase ∧ (s.flCntClr).pending = s.pending ∧
    (s.flCntClr).nodeOfs = s.nodeOfs ∧ (s.flCntClr).freeCtr = s.freeCtr ∧ (s.flCntClr).tx = s.tx ∧ (s.flCntClr).tl = s.tl ∧
    (s.flCntClr).sq = s.sq := by
  and_intros <;> (unfold State.flCntClr; repeat' (first | with_reducible rfl | (simp; done) | split | with_reducible refine (foldl_inv _ _ _ _ (fun _ _ => ?_)).trans ?_ | (dsimp only; first | split | with_reducible refine (foldl_inv _ _ _ _ (fun _ _ => ?_)).trans ?_)))

@[simp] theorem State.flCntClr_frame2 (s : State) :
    (s.flCntClr).fd = s.fd ∧ (s.flCntClr).ex = s.ex ∧ (s.flCntClr).sv = s.sv ∧ (s.flCntClr).ax = s.ax ∧
    (s.flCntClr).aq = s.aq ∧ (s.flCntClr).il = s.il ∧ (s.flCntClr).ln = s.ln ∧ (s.flCntClr).fl = s.fl := by
  and_intros <;> (unfold State.flCntClr; repeat' (first | with_reducible rfl | (simp; done) | split | with_reducible refine (foldl_inv _ _ _ _ (fun _ _ => ?_)).trans ?_ | (dsimp only; first | split | with_reducible refine (foldl_inv _ _ _ _ (fun _ _ => ?_)).trans ?_)))

@[simp] theorem State.flCntClr_frame3 (s : State) :
    (s.flCntClr).ev = s.ev ∧ (s.flCntClr).safe = s.safe ∧ (s.flCntClr).dm = s.dm ∧ (s.flCntClr).cm = s.cm ∧
    (s.flCntClr).cf = s.cf ∧ (s.flCntClr).pw = s.pw ∧ (s.flCntClr).th = s.th := by
  and_intros <;> (unfold State.flCntClr; repeat' (first | with_reducible rfl | (simp; done) | split | with_reducible refine (foldl_inv _ _ _ _ (fun _ _ => ?_)).trans ?_ | (dsimp only; first | split | with_reducible refine (foldl_inv _ _ _ _ (fun _ _ => ?_)).trans ?_)))

@[simp] theorem State.epTimeRead_frame (s : State) :
    (s.epTimeRead).now = s.now ∧ (s.epTimeRead).phase = s.phase ∧ (s.epTimeRead).pending = s.pending ∧
    (s.epTimeRead).nodeOfs = s.nodeOfs ∧ (s.epTimeRead).freeCtr = s.freeCtr ∧ (s.epTimeRead).tx = s.tx ∧
    (s.epTimeRead).tl = s.tl ∧ (s.epTimeRead).sq = s.sq := by
  and_intros <;> (unfold State.epTimeRead; repeat' (first | with_reducible rfl | (simp; done) | split | with_reducible refine (foldl_inv _ _ _ _ (fun _ _ => ?_)).trans ?_ | (dsimp only; first | split | with_reducible refine (foldl_inv _ _ _ _ (fun _ _ => ?_)).trans ?_)))

@[simp] theorem State.epTimeRead_frame2 (s : State) :
    (s.epTimeRead).fd = s.fd ∧ (s.epTimeRead).ex = s.ex ∧ (s.epTimeRead).sv = s.sv ∧ (s.epTimeRead).ax = s.ax ∧
    (s.epTimeRead).aq = s.aq ∧ (s.epTimeRead).il = s.il ∧ (s.epTimeRead).ln = s.ln ∧ (s.epTimeRead).fl = s.fl := by
  and_intros <;> (unfold State.epTimeRead; repeat' (first | with_reducible rfl | (simp; done) | split | with_reducible refine (foldl_inv _ _ _ _ (fun _ _ => ?_)).trans ?_ | (dsimp only; first | split | with_reducible refine (foldl_inv _ _ _ _ (fun _ _ => ?_)).trans ?_)))

@[simp] theorem State.epTimeRead_frame3 (s : State) :
    (s.epTimeRead).ev = s.ev ∧ (s.epTimeRead).safe = s.safe ∧ (s.epTimeRead).dm = s.dm ∧ (s.epTimeRead).cm = s.cm ∧
    (s.epTimeRead).cf = s.cf ∧ (s.epTimeRead).pw = s.pw ∧ (s.epTimeRead).th = s.th := by
  and_intros <;> (unfold State.epTimeRead; repeat' (first | with_reducible rfl | (simp; done) | split | with_reducible refine (foldl_inv _ _ _ _ (fun _ _ => ?_)).trans ?_ | (dsimp only; first | split | with_reducible refine (foldl_inv _ _ _ _ (fun _ _ => ?_)).trans ?_)))

@[simp] theorem State.takePacket_parts (s : State) (src : RxFrom) (kind : Nat) :
    (s.takePacket src kind).1.regs.setA = s.regs.setA ∧ (s.takePacket src kind).1.regs.setB = s.regs.setB ∧
    (s.takePacket src kind).1.regs.one = s.regs.one ∧ (s.takePacket src kind).1.regs.rsvd = s.regs.rsvd ∧
    (s.takePacket src kind).1.regs.waiting = s.regs.waiting ∧ (s.takePacket src kind).1.regs.stale = s.regs.stale ∧
    (s.takePacket src kind).1.regs.posted = s.regs.posted := by
  and_intros <;> (unfold State.takePacket; repeat' (first | with_reducible rfl | (simp; done) | split | with_reducible refine (State.regs_setA_foldl _ _ _ (fun _ _ => ?_)).trans ?_ | with_reducible refine (State.regs_setB_foldl _ _ _ (fun _ _ => ?_)).trans ?_ | with_reducible refine (State.regs_one_foldl _ _ _ (fun _ _ => ?_)).trans ?_ | with_reducible refine (State.regs_rsvd_foldl _ _ _ (fun _ _ => ?_)).trans ?_ | with_reducible refine (State.regs_waiting_foldl _ _ _ (fun _ _ => ?_)).trans ?_ | with_reducible refine (State.regs_stale_foldl _ _ _ (fun _ _ => ?_)).trans ?_ | with_reducible refine (State.regs_posted_foldl _ _ _ (fun _ _ => ?_)).trans ?_ | with_reducible refine (State.fd_mem_foldl _ _ _ (fun _ _ => ?_)).trans ?_ | with_reducible refine (State.dm_sram_foldl _ _ _ (fun _ _ => ?_)).trans ?_ | with_reducible refine (State.sq_frameNo_foldl _ _ _ (fun _ _ => ?_)).trans ?_ | with_reducible refine (State.sq_inScan_foldl _ _ _ (fun _ _ => ?_)).trans ?_ | with_reducible refine (State.sq_nextBoundary_foldl _ _ _ (fun _ _ => ?_)).trans ?_ | with_reducible refine (State.pw_gate_foldl _ _ _ (fun _ _ => ?_)).trans ?_ | (dsimp only; first | split | with_reducible refine (State.regs_setA_foldl _ _ _ (fun _ _ => ?_)).trans ?_ | with_reducible refine (State.regs_setB_foldl _ _ _ (fun _ _ => ?_)).trans ?_ | with_reducible refine (State.regs_one_foldl _ _ _ (fun _ _ => ?_)).trans ?_ | with_reducible refine (State.regs_rsvd_foldl _ _ _ (fun _ _ => ?_)).trans ?_ | with_reducible refine (State.regs_waiting_foldl _ _ _ (fun _ _ => ?_)).trans ?_ | with_reducible refine (State.regs_stale_foldl _ _ _ (fun _ _ => ?_)).trans ?_ | with_reducible refine (State.regs_posted_foldl _ _ _ (fun _ _ => ?_)).trans ?_ | with_reducible refine (State.fd_mem_foldl _ _ _ (fun _ _ => ?_)).trans ?_ | with_reducible refine (State.dm_sram_foldl _ _ _ (fun _ _ => ?_)).trans ?_ | with_reducible refine (State.sq_frameNo_foldl _ _ _ (fun _ _ => ?_)).trans ?_ | with_reducible refine (State.sq_inScan_foldl _ _ _ (fun _ _ => ?_)).trans ?_ | with_reducible refine (State.sq_nextBoundary_foldl _ _ _ (fun _ _ => ?_)).trans ?_ | with_reducible refine (State.pw_gate_foldl _ _ _ (fun _ _ => ?_)).trans ?_)))

@[simp] theorem State.planStart_parts (s : State) :
    (s.planStart).regs.setA = s.regs.setA ∧ (s.planStart).regs.setB = s.regs.setB ∧ (s.planStart).regs.one = s.regs.one ∧
    (s.planStart).regs.rsvd = s.regs.rsvd ∧ (s.planStart).regs.waiting = s.regs.waiting ∧
    (s.planStart).regs.stale = s.regs.stale ∧ (s.planStart).regs.posted = s.regs.posted ∧
    (s.planStart).sq.frameNo = s.sq.frameNo ∧ (s.planStart).sq.inScan = s.sq.inScan ∧
    (s.planStart).sq.nextBoundary = s.sq.nextBoundary := by
  and_intros <;> (unfold State.planStart; repeat' (first | with_reducible rfl | (simp; done) | split | with_reducible refine (State.regs_setA_foldl _ _ _ (fun _ _ => ?_)).trans ?_ | with_reducible refine (State.regs_setB_foldl _ _ _ (fun _ _ => ?_)).trans ?_ | with_reducible refine (State.regs_one_foldl _ _ _ (fun _ _ => ?_)).trans ?_ | with_reducible refine (State.regs_rsvd_foldl _ _ _ (fun _ _ => ?_)).trans ?_ | with_reducible refine (State.regs_waiting_foldl _ _ _ (fun _ _ => ?_)).trans ?_ | with_reducible refine (State.regs_stale_foldl _ _ _ (fun _ _ => ?_)).trans ?_ | with_reducible refine (State.regs_posted_foldl _ _ _ (fun _ _ => ?_)).trans ?_ | with_reducible refine (State.fd_mem_foldl _ _ _ (fun _ _ => ?_)).trans ?_ | with_reducible refine (State.dm_sram_foldl _ _ _ (fun _ _ => ?_)).trans ?_ | with_reducible refine (State.sq_frameNo_foldl _ _ _ (fun _ _ => ?_)).trans ?_ | with_reducible refine (State.sq_inScan_foldl _ _ _ (fun _ _ => ?_)).trans ?_ | with_reducible refine (State.sq_nextBoundary_foldl _ _ _ (fun _ _ => ?_)).trans ?_ | with_reducible refine (State.pw_gate_foldl _ _ _ (fun _ _ => ?_)).trans ?_ | (dsimp only; first | split | with_reducible refine (State.regs_setA_foldl _ _ _ (fun _ _ => ?_)).trans ?_ | with_reducible refine (State.regs_setB_foldl _ _ _ (fun _ _ => ?_)).trans ?_ | with_reducible refine (State.regs_one_foldl _ _ _ (fun _ _ => ?_)).trans ?_ | with_reducible refine (State.regs_rsvd_foldl _ _ _ (fun _ _ => ?_)).trans ?_ | with_reducible refine (State.regs_waiting_foldl _ _ _ (fun _ _ => ?_)).trans ?_ | with_reducible refine (State.regs_stale_foldl _ _ _ (fun _ _ => ?_)).trans ?_ | with_reducible refine (State.regs_posted_foldl _ _ _ (fun _ _ => ?_)).trans ?_ | with_reducible refine (State.fd_mem_foldl _ _ _ (fun _ _ => ?_)).trans ?_ | with_reducible refine (State.dm_sram_foldl _ _ _ (fun _ _ => ?_)).trans ?_ | with_reducible refine (State.sq_frameNo_foldl _ _ _ (fun _ _ => ?_)).trans ?_ | with_reducible refine (State.sq_inScan_foldl _ _ _ (fun _ _ => ?_)).trans ?_ | with_reducible refine (State.sq_nextBoundary_foldl _ _ _ (fun _ _ => ?_)).trans ?_ | with_reducible refine (State.pw_gate_foldl _ _ _ (fun _ _ => ?_)).trans ?_)))

@[simp] theorem State.topology_parts (s : State) :
    (s.topology).regs.setA = s.regs.setA ∧ (s.topology).regs.setB = s.regs.setB ∧ (s.topology).regs.one = s.regs.one ∧
    (s.topology).regs.rsvd = s.regs.rsvd ∧ (s.topology).regs.waiting = s.regs.waiting ∧
    (s.topology).regs.stale = s.regs.stale ∧ (s.topology).regs.posted = s.regs.posted ∧
    (s.topology).sq.frameNo = s.sq.frameNo ∧ (s.topology).sq.inScan = s.sq.inScan ∧
    (s.topology).sq.nextBoundary = s.sq.nextBoundary := by
  and_intros <;> (unfold State.topology; repeat' (first | with_reducible rfl | (simp; done) | split | with_reducible refine (State.regs_setA_foldl _ _ _ (fun _ _ => ?_)).trans ?_ | with_reducible refine (State.regs_setB_foldl _ _ _ (fun _ _ => ?_)).trans ?_ | with_reducible refine (State.regs_one_foldl _ _ _ (fun _ _ => ?_)).trans ?_ | with_reducible refine (State.regs_rsvd_foldl _ _ _ (fun _ _ => ?_)).trans ?_ | with_reducible refine (State.regs_waiting_foldl _ _ _ (fun _ _ => ?_)).trans ?_ | with_reducible refine (State.regs_stale_foldl _ _ _ (fun _ _ => ?_)).trans ?_ | with_reducible refine (State.regs_posted_foldl _ _ _ (fun _ _ => ?_)).trans ?_ | with_reducible refine (State.fd_mem_foldl _ _ _ (fun _ _ => ?_)).trans ?_ | with_reducible refine (State.dm_sram_foldl _ _ _ (fun _ _ => ?_)).trans ?_ | with_reducible refine (State.sq_frameNo_foldl _ _ _ (fun _ _ => ?_)).trans ?_ | with_reducible refine (State.sq_inScan_foldl _ _ _ (fun _ _ => ?_)).trans ?_ | with_reducible refine (State.sq_nextBoundary_foldl _ _ _ (fun _ _ => ?_)).trans ?_ | with_reducible refine (State.pw_gate_foldl _ _ _ (fun _ _ => ?_)).trans ?_ | (dsimp only; first | split | with_reducible refine (State.regs_setA_foldl _ _ _ (fun _ _ => ?_)).trans ?_ | with_reducible refine (State.regs_setB_foldl _ _ _ (fun _ _ => ?_)).trans ?_ | with_reducible refine (State.regs_one_foldl _ _ _ (fun _ _ => ?_)).trans ?_ | with_reducible refine (State.regs_rsvd_foldl _ _ _ (fun _ _ => ?_)).trans ?_ | with_reducible refine (State.regs_waiting_foldl _ _ _ (fun _ _ => ?_)).trans ?_ | with_reducible refine (State.regs_stale_foldl _ _ _ (fun _ _ => ?_)).trans ?_ | with_reducible refine (State.regs_posted_foldl _ _ _ (fun _ _ => ?_)).trans ?_ | with_reducible refine (State.fd_mem_foldl _ _ _ (fun _ _ => ?_)).trans ?_ | with_reducible refine (State.dm_sram_foldl _ _ _ (fun _ _ => ?_)).trans ?_ | with_reducible refine (State.sq_frameNo_foldl _ _ _ (fun _ _ => ?_)).trans ?_ | with_reducible refine (State.sq_inScan_foldl _ _ _ (fun _ _ => ?_)).trans ?_ | with_reducible refine (State.sq_nextBoundary_foldl _ _ _ (fun _ _ => ?_)).trans ?_ | with_reducible refine (State.pw_gate_foldl _ _ _ (fun _ _ => ?_)).trans ?_)))

@[simp] theorem State.planLocal_parts (s : State) :
    (s.planLocal).regs.setA = s.regs.setA ∧ (s.planLocal).regs.setB = s.regs.setB ∧ (s.planLocal).regs.one = s.regs.one ∧
    (s.planLocal).regs.rsvd = s.regs.rsvd ∧ (s.planLocal).regs.waiting = s.regs.waiting ∧
    (s.planLocal).regs.stale = s.regs.stale ∧ (s.planLocal).regs.posted = s.regs.posted ∧
    (s.planLocal).sq.frameNo = s.sq.frameNo ∧ (s.planLocal).sq.inScan = s.sq.inScan ∧
    (s.planLocal).sq.nextBoundary = s.sq.nextBoundary := by
  and_intros <;> (unfold State.planLocal; repeat' (first | with_reducible rfl | (simp; done) | split | with_reducible refine (State.regs_setA_foldl _ _ _ (fun _ _ => ?_)).trans ?_ | with_reducible refine (State.regs_setB_foldl _ _ _ (fun _ _ => ?_)).trans ?_ | with_reducible refine (State.regs_one_foldl _ _ _ (fun _ _ => ?_)).trans ?_ | with_reducible refine (State.regs_rsvd_foldl _ _ _ (fun _ _ => ?_)).trans ?_ | with_reducible refine (State.regs_waiting_foldl _ _ _ (fun _ _ => ?_)).trans ?_ | with_reducible refine (State.regs_stale_foldl _ _ _ (fun _ _ => ?_)).trans ?_ | with_reducible refine (State.regs_posted_foldl _ _ _ (fun _ _ => ?_)).trans ?_ | with_reducible refine (State.fd_mem_foldl _ _ _ (fun _ _ => ?_)).trans ?_ | with_reducible refine (State.dm_sram_foldl _ _ _ (fun _ _ => ?_)).trans ?_ | with_reducible refine (State.sq_frameNo_foldl _ _ _ (fun _ _ => ?_)).trans ?_ | with_reducible refine (State.sq_inScan_foldl _ _ _ (fun _ _ => ?_)).trans ?_ | with_reducible refine (State.sq_nextBoundary_foldl _ _ _ (fun _ _ => ?_)).trans ?_ | with_reducible refine (State.pw_gate_foldl _ _ _ (fun _ _ => ?_)).trans ?_ | (dsimp only; first | split | with_reducible refine (State.regs_setA_foldl _ _ _ (fun _ _ => ?_)).trans ?_ | with_reducible refine (State.regs_setB_foldl _ _ _ (fun _ _ => ?_)).trans ?_ | with_reducible refine (State.regs_one_foldl _ _ _ (fun _ _ => ?_)).trans ?_ | with_reducible refine (State.regs_rsvd_foldl _ _ _ (fun _ _ => ?_)).trans ?_ | with_reducible refine (State.regs_waiting_foldl _ _ _ (fun _ _ => ?_)).trans ?_ | with_reducible refine (State.regs_stale_foldl _ _ _ (fun _ _ => ?_)).trans ?_ | with_reducible refine (State.regs_posted_foldl _ _ _ (fun _ _ => ?_)).trans ?_ | with_reducible refine (State.fd_mem_foldl _ _ _ (fun _ _ => ?_)).trans ?_ | with_reducible refine (State.dm_sram_foldl _ _ _ (fun _ _ => ?_)).trans ?_ | with_reducible refine (State.sq_frameNo_foldl _ _ _ (fun _ _ => ?_)).trans ?_ | with_reducible refine (State.sq_inScan_foldl _ _ _ (fun _ _ => ?_)).trans ?_ | with_reducible refine (State.sq_nextBoundary_foldl _ _ _ (fun _ _ => ?_)).trans ?_ | with_reducible refine (State.pw_gate_foldl _ _ _ (fun _ _ => ?_)).trans ?_)))

@[simp] theorem State.planAgree_parts (s : State) :
    (s.planAgree).regs.setA = s.regs.setA ∧ (s.planAgree).regs.setB = s.regs.setB ∧ (s.planAgree).regs.one = s.regs.one ∧
    (s.planAgree).regs.rsvd = s.regs.rsvd ∧ (s.planAgree).regs.waiting = s.regs.waiting ∧
    (s.planAgree).regs.stale = s.regs.stale ∧ (s.planAgree).regs.posted = s.regs.posted ∧
    (s.planAgree).sq.frameNo = s.sq.frameNo ∧ (s.planAgree).sq.inScan = s.sq.inScan ∧
    (s.planAgree).sq.nextBoundary = s.sq.nextBoundary := by
  and_intros <;> (unfold State.planAgree; repeat' (first | with_reducible rfl | (simp; done) | split | with_reducible refine (State.regs_setA_foldl _ _ _ (fun _ _ => ?_)).trans ?_ | with_reducible refine (State.regs_setB_foldl _ _ _ (fun _ _ => ?_)).trans ?_ | with_reducible refine (State.regs_one_foldl _ _ _ (fun _ _ => ?_)).trans ?_ | with_reducible refine (State.regs_rsvd_foldl _ _ _ (fun _ _ => ?_)).trans ?_ | with_reducible refine (State.regs_waiting_foldl _ _ _ (fun _ _ => ?_)).trans ?_ | with_reducible refine (State.regs_stale_foldl _ _ _ (fun _ _ => ?_)).trans ?_ | with_reducible refine (State.regs_posted_foldl _ _ _ (fun _ _ => ?_)).trans ?_ | with_reducible refine (State.fd_mem_foldl _ _ _ (fun _ _ => ?_)).trans ?_ | with_reducible refine (State.dm_sram_foldl _ _ _ (fun _ _ => ?_)).trans ?_ | with_reducible refine (State.sq_frameNo_foldl _ _ _ (fun _ _ => ?_)).trans ?_ | with_reducible refine (State.sq_inScan_foldl _ _ _ (fun _ _ => ?_)).trans ?_ | with_reducible refine (State.sq_nextBoundary_foldl _ _ _ (fun _ _ => ?_)).trans ?_ | with_reducible refine (State.pw_gate_foldl _ _ _ (fun _ _ => ?_)).trans ?_ | (dsimp only; first | split | with_reducible refine (State.regs_setA_foldl _ _ _ (fun _ _ => ?_)).trans ?_ | with_reducible refine (State.regs_setB_foldl _ _ _ (fun _ _ => ?_)).trans ?_ | with_reducible refine (State.regs_one_foldl _ _ _ (fun _ _ => ?_)).trans ?_ | with_reducible refine (State.regs_rsvd_foldl _ _ _ (fun _ _ => ?_)).trans ?_ | with_reducible refine (State.regs_waiting_foldl _ _ _ (fun _ _ => ?_)).trans ?_ | with_reducible refine (State.regs_stale_foldl _ _ _ (fun _ _ => ?_)).trans ?_ | with_reducible refine (State.regs_posted_foldl _ _ _ (fun _ _ => ?_)).trans ?_ | with_reducible refine (State.fd_mem_foldl _ _ _ (fun _ _ => ?_)).trans ?_ | with_reducible refine (State.dm_sram_foldl _ _ _ (fun _ _ => ?_)).trans ?_ | with_reducible refine (State.sq_frameNo_foldl _ _ _ (fun _ _ => ?_)).trans ?_ | with_reducible refine (State.sq_inScan_foldl _ _ _ (fun _ _ => ?_)).trans ?_ | with_reducible refine (State.sq_nextBoundary_foldl _ _ _ (fun _ _ => ?_)).trans ?_ | with_reducible refine (State.pw_gate_foldl _ _ _ (fun _ _ => ?_)).trans ?_)))

@[simp] theorem State.planForget_parts (s : State) (ident : Nat) :
    (s.planForget ident).regs.setA = s.regs.setA ∧ (s.planForget ident).regs.setB = s.regs.setB ∧
    (s.planForget ident).regs.one = s.regs.one ∧ (s.planForget ident).regs.rsvd = s.regs.rsvd ∧
    (s.planForget ident).regs.waiting = s.regs.waiting ∧ (s.planForget ident).regs.stale = s.regs.stale ∧
    (s.planForget ident).regs.posted = s.regs.posted ∧ (s.planForget ident).sq.frameNo = s.sq.frameNo ∧
    (s.planForget ident).sq.inScan = s.sq.inScan ∧ (s.planForget ident).sq.nextBoundary = s.sq.nextBoundary := by
  and_intros <;> (unfold State.planForget; repeat' (first | with_reducible rfl | (simp; done) | split | with_reducible refine (State.regs_setA_foldl _ _ _ (fun _ _ => ?_)).trans ?_ | with_reducible refine (State.regs_setB_foldl _ _ _ (fun _ _ => ?_)).trans ?_ | with_reducible refine (State.regs_one_foldl _ _ _ (fun _ _ => ?_)).trans ?_ | with_reducible refine (State.regs_rsvd_foldl _ _ _ (fun _ _ => ?_)).trans ?_ | with_reducible refine (State.regs_waiting_foldl _ _ _ (fun _ _ => ?_)).trans ?_ | with_reducible refine (State.regs_stale_foldl _ _ _ (fun _ _ => ?_)).trans ?_ | with_reducible refine (State.regs_posted_foldl _ _ _ (fun _ _ => ?_)).trans ?_ | with_reducible refine (State.fd_mem_foldl _ _ _ (fun _ _ => ?_)).trans ?_ | with_reducible refine (State.dm_sram_foldl _ _ _ (fun _ _ => ?_)).trans ?_ | with_reducible refine (State.sq_frameNo_foldl _ _ _ (fun _ _ => ?_)).trans ?_ | with_reducible refine (State.sq_inScan_foldl _ _ _ (fun _ _ => ?_)).trans ?_ | with_reducible refine (State.sq_nextBoundary_foldl _ _ _ (fun _ _ => ?_)).trans ?_ | with_reducible refine (State.pw_gate_foldl _ _ _ (fun _ _ => ?_)).trans ?_ | (dsimp only; first | split | with_reducible refine (State.regs_setA_foldl _ _ _ (fun _ _ => ?_)).trans ?_ | with_reducible refine (State.regs_setB_foldl _ _ _ (fun _ _ => ?_)).trans ?_ | with_reducible refine (State.regs_one_foldl _ _ _ (fun _ _ => ?_)).trans ?_ | with_reducible refine (State.regs_rsvd_foldl _ _ _ (fun _ _ => ?_)).trans ?_ | with_reducible refine (State.regs_waiting_foldl _ _ _ (fun _ _ => ?_)).trans ?_ | with_reducible refine (State.regs_stale_foldl _ _ _ (fun _ _ => ?_)).trans ?_ | with_reducible refine (State.regs_posted_foldl _ _ _ (fun _ _ => ?_)).trans ?_ | with_reducible refine (State.fd_mem_foldl _ _ _ (fun _ _ => ?_)).trans ?_ | with_reducible refine (State.dm_sram_foldl _ _ _ (fun _ _ => ?_)).trans ?_ | with_reducible refine (State.sq_frameNo_foldl _ _ _ (fun _ _ => ?_)).trans ?_ | with_reducible refine (State.sq_inScan_foldl _ _ _ (fun _ _ => ?_)).trans ?_ | with_reducible refine (State.sq_nextBoundary_foldl _ _ _ (fun _ _ => ?_)).trans ?_ | with_reducible refine (State.pw_gate_foldl _ _ _ (fun _ _ => ?_)).trans ?_)))

@[simp] theorem State.planActivate_parts (s : State) :
    (s.planActivate).regs.setA = s.regs.setA ∧ (s.planActivate).regs.setB = s.regs.setB ∧
    (s.planActivate).regs.one = s.regs.one ∧ (s.planActivate).regs.rsvd = s.regs.rsvd ∧
    (s.planActivate).regs.waiting = s.regs.waiting ∧ (s.planActivate).regs.stale = s.regs.stale ∧
    (s.planActivate).regs.posted = s.regs.posted ∧ (s.planActivate).sq.frameNo = s.sq.frameNo ∧
    (s.planActivate).sq.inScan = s.sq.inScan := by
  and_intros <;> (unfold State.planActivate; repeat' (first | with_reducible rfl | (simp; done) | split | with_reducible refine (State.regs_setA_foldl _ _ _ (fun _ _ => ?_)).trans ?_ | with_reducible refine (State.regs_setB_foldl _ _ _ (fun _ _ => ?_)).trans ?_ | with_reducible refine (State.regs_one_foldl _ _ _ (fun _ _ => ?_)).trans ?_ | with_reducible refine (State.regs_rsvd_foldl _ _ _ (fun _ _ => ?_)).trans ?_ | with_reducible refine (State.regs_waiting_foldl _ _ _ (fun _ _ => ?_)).trans ?_ | with_reducible refine (State.regs_stale_foldl _ _ _ (fun _ _ => ?_)).trans ?_ | with_reducible refine (State.regs_posted_foldl _ _ _ (fun _ _ => ?_)).trans ?_ | with_reducible refine (State.fd_mem_foldl _ _ _ (fun _ _ => ?_)).trans ?_ | with_reducible refine (State.dm_sram_foldl _ _ _ (fun _ _ => ?_)).trans ?_ | with_reducible refine (State.sq_frameNo_foldl _ _ _ (fun _ _ => ?_)).trans ?_ | with_reducible refine (State.sq_inScan_foldl _ _ _ (fun _ _ => ?_)).trans ?_ | with_reducible refine (State.sq_nextBoundary_foldl _ _ _ (fun _ _ => ?_)).trans ?_ | with_reducible refine (State.pw_gate_foldl _ _ _ (fun _ _ => ?_)).trans ?_ | (dsimp only; first | split | with_reducible refine (State.regs_setA_foldl _ _ _ (fun _ _ => ?_)).trans ?_ | with_reducible refine (State.regs_setB_foldl _ _ _ (fun _ _ => ?_)).trans ?_ | with_reducible refine (State.regs_one_foldl _ _ _ (fun _ _ => ?_)).trans ?_ | with_reducible refine (State.regs_rsvd_foldl _ _ _ (fun _ _ => ?_)).trans ?_ | with_reducible refine (State.regs_waiting_foldl _ _ _ (fun _ _ => ?_)).trans ?_ | with_reducible refine (State.regs_stale_foldl _ _ _ (fun _ _ => ?_)).trans ?_ | with_reducible refine (State.regs_posted_foldl _ _ _ (fun _ _ => ?_)).trans ?_ | with_reducible refine (State.fd_mem_foldl _ _ _ (fun _ _ => ?_)).trans ?_ | with_reducible refine (State.dm_sram_foldl _ _ _ (fun _ _ => ?_)).trans ?_ | with_reducible refine (State.sq_frameNo_foldl _ _ _ (fun _ _ => ?_)).trans ?_ | with_reducible refine (State.sq_inScan_foldl _ _ _ (fun _ _ => ?_)).trans ?_ | with_reducible refine (State.sq_nextBoundary_foldl _ _ _ (fun _ _ => ?_)).trans ?_ | with_reducible refine (State.pw_gate_foldl _ _ _ (fun _ _ => ?_)).trans ?_)))

@[simp] theorem State.headUnalign_parts (s : State) (h : Nat) :
    (s.headUnalign h).regs.setA = s.regs.setA ∧ (s.headUnalign h).regs.setB = s.regs.setB ∧
    (s.headUnalign h).regs.one = s.regs.one ∧ (s.headUnalign h).regs.rsvd = s.regs.rsvd ∧
    (s.headUnalign h).regs.waiting = s.regs.waiting ∧ (s.headUnalign h).regs.stale = s.regs.stale ∧
    (s.headUnalign h).regs.posted = s.regs.posted := by
  and_intros <;> (unfold State.headUnalign; repeat' (first | with_reducible rfl | (simp; done) | split | with_reducible refine (State.regs_setA_foldl _ _ _ (fun _ _ => ?_)).trans ?_ | with_reducible refine (State.regs_setB_foldl _ _ _ (fun _ _ => ?_)).trans ?_ | with_reducible refine (State.regs_one_foldl _ _ _ (fun _ _ => ?_)).trans ?_ | with_reducible refine (State.regs_rsvd_foldl _ _ _ (fun _ _ => ?_)).trans ?_ | with_reducible refine (State.regs_waiting_foldl _ _ _ (fun _ _ => ?_)).trans ?_ | with_reducible refine (State.regs_stale_foldl _ _ _ (fun _ _ => ?_)).trans ?_ | with_reducible refine (State.regs_posted_foldl _ _ _ (fun _ _ => ?_)).trans ?_ | with_reducible refine (State.fd_mem_foldl _ _ _ (fun _ _ => ?_)).trans ?_ | with_reducible refine (State.dm_sram_foldl _ _ _ (fun _ _ => ?_)).trans ?_ | with_reducible refine (State.sq_frameNo_foldl _ _ _ (fun _ _ => ?_)).trans ?_ | with_reducible refine (State.sq_inScan_foldl _ _ _ (fun _ _ => ?_)).trans ?_ | with_reducible refine (State.sq_nextBoundary_foldl _ _ _ (fun _ _ => ?_)).trans ?_ | with_reducible refine (State.pw_gate_foldl _ _ _ (fun _ _ => ?_)).trans ?_ | (dsimp only; first | split | with_reducible refine (State.regs_setA_foldl _ _ _ (fun _ _ => ?_)).trans ?_ | with_reducible refine (State.regs_setB_foldl _ _ _ (fun _ _ => ?_)).trans ?_ | with_reducible refine (State.regs_one_foldl _ _ _ (fun _ _ => ?_)).trans ?_ | with_reducible refine (State.regs_rsvd_foldl _ _ _ (fun _ _ => ?_)).trans ?_ | with_reducible refine (State.regs_waiting_foldl _ _ _ (fun _ _ => ?_)).trans ?_ | with_reducible refine (State.regs_stale_foldl _ _ _ (fun _ _ => ?_)).trans ?_ | with_reducible refine (State.regs_posted_foldl _ _ _ (fun _ _ => ?_)).trans ?_ | with_reducible refine (State.fd_mem_foldl _ _ _ (fun _ _ => ?_)).trans ?_ | with_reducible refine (State.dm_sram_foldl _ _ _ (fun _ _ => ?_)).trans ?_ | with_reducible refine (State.sq_frameNo_foldl _ _ _ (fun _ _ => ?_)).trans ?_ | with_reducible refine (State.sq_inScan_foldl _ _ _ (fun _ _ => ?_)).trans ?_ | with_reducible refine (State.sq_nextBoundary_foldl _ _ _ (fun _ _ => ?_)).trans ?_ | with_reducible refine (State.pw_gate_foldl _ _ _ (fun _ _ => ?_)).trans ?_)))

@[simp] theorem State.headAttach_parts (s : State) (h b ident : Nat) :
    (s.headAttach h b ident).regs.setA = s.regs.setA ∧ (s.headAttach h b ident).regs.setB = s.regs.setB ∧
    (s.headAttach h b ident).regs.one = s.regs.one ∧ (s.headAttach h b ident).regs.rsvd = s.regs.rsvd ∧
    (s.headAttach h b ident).regs.waiting = s.regs.waiting ∧ (s.headAttach h b ident).regs.stale = s.regs.stale ∧
    (s.headAttach h b ident).regs.posted = s.regs.posted := by
  and_intros <;> (unfold State.headAttach; repeat' (first | with_reducible rfl | (simp; done) | split | with_reducible refine (State.regs_setA_foldl _ _ _ (fun _ _ => ?_)).trans ?_ | with_reducible refine (State.regs_setB_foldl _ _ _ (fun _ _ => ?_)).trans ?_ | with_reducible refine (State.regs_one_foldl _ _ _ (fun _ _ => ?_)).trans ?_ | with_reducible refine (State.regs_rsvd_foldl _ _ _ (fun _ _ => ?_)).trans ?_ | with_reducible refine (State.regs_waiting_foldl _ _ _ (fun _ _ => ?_)).trans ?_ | with_reducible refine (State.regs_stale_foldl _ _ _ (fun _ _ => ?_)).trans ?_ | with_reducible refine (State.regs_posted_foldl _ _ _ (fun _ _ => ?_)).trans ?_ | with_reducible refine (State.fd_mem_foldl _ _ _ (fun _ _ => ?_)).trans ?_ | with_reducible refine (State.dm_sram_foldl _ _ _ (fun _ _ => ?_)).trans ?_ | with_reducible refine (State.sq_frameNo_foldl _ _ _ (fun _ _ => ?_)).trans ?_ | with_reducible refine (State.sq_inScan_foldl _ _ _ (fun _ _ => ?_)).trans ?_ | with_reducible refine (State.sq_nextBoundary_foldl _ _ _ (fun _ _ => ?_)).trans ?_ | with_reducible refine (State.pw_gate_foldl _ _ _ (fun _ _ => ?_)).trans ?_ | (dsimp only; first | split | with_reducible refine (State.regs_setA_foldl _ _ _ (fun _ _ => ?_)).trans ?_ | with_reducible refine (State.regs_setB_foldl _ _ _ (fun _ _ => ?_)).trans ?_ | with_reducible refine (State.regs_one_foldl _ _ _ (fun _ _ => ?_)).trans ?_ | with_reducible refine (State.regs_rsvd_foldl _ _ _ (fun _ _ => ?_)).trans ?_ | with_reducible refine (State.regs_waiting_foldl _ _ _ (fun _ _ => ?_)).trans ?_ | with_reducible refine (State.regs_stale_foldl _ _ _ (fun _ _ => ?_)).trans ?_ | with_reducible refine (State.regs_posted_foldl _ _ _ (fun _ _ => ?_)).trans ?_ | with_reducible refine (State.fd_mem_foldl _ _ _ (fun _ _ => ?_)).trans ?_ | with_reducible refine (State.dm_sram_foldl _ _ _ (fun _ _ => ?_)).trans ?_ | with_reducible refine (State.sq_frameNo_foldl _ _ _ (fun _ _ => ?_)).trans ?_ | with_reducible refine (State.sq_inScan_foldl _ _ _ (fun _ _ => ?_)).trans ?_ | with_reducible refine (State.sq_nextBoundary_foldl _ _ _ (fun _ _ => ?_)).trans ?_ | with_reducible refine (State.pw_gate_foldl _ _ _ (fun _ _ => ?_)).trans ?_)))

@[simp] theorem State.headDetach_parts (s : State) (ident : Nat) :
    (s.headDetach ident).regs.setA = s.regs.setA ∧ (s.headDetach ident).regs.setB = s.regs.setB ∧
    (s.headDetach ident).regs.one = s.regs.one ∧ (s.headDetach ident).regs.rsvd = s.regs.rsvd ∧
    (s.headDetach ident).regs.waiting = s.regs.waiting ∧ (s.headDetach ident).regs.stale = s.regs.stale ∧
    (s.headDetach ident).regs.posted = s.regs.posted := by
  and_intros <;> (unfold State.headDetach; repeat' (first | with_reducible rfl | (simp; done) | split | with_reducible refine (State.regs_setA_foldl _ _ _ (fun _ _ => ?_)).trans ?_ | with_reducible refine (State.regs_setB_foldl _ _ _ (fun _ _ => ?_)).trans ?_ | with_reducible refine (State.regs_one_foldl _ _ _ (fun _ _ => ?_)).trans ?_ | with_reducible refine (State.regs_rsvd_foldl _ _ _ (fun _ _ => ?_)).trans ?_ | with_reducible refine (State.regs_waiting_foldl _ _ _ (fun _ _ => ?_)).trans ?_ | with_reducible refine (State.regs_stale_foldl _ _ _ (fun _ _ => ?_)).trans ?_ | with_reducible refine (State.regs_posted_foldl _ _ _ (fun _ _ => ?_)).trans ?_ | with_reducible refine (State.fd_mem_foldl _ _ _ (fun _ _ => ?_)).trans ?_ | with_reducible refine (State.dm_sram_foldl _ _ _ (fun _ _ => ?_)).trans ?_ | with_reducible refine (State.sq_frameNo_foldl _ _ _ (fun _ _ => ?_)).trans ?_ | with_reducible refine (State.sq_inScan_foldl _ _ _ (fun _ _ => ?_)).trans ?_ | with_reducible refine (State.sq_nextBoundary_foldl _ _ _ (fun _ _ => ?_)).trans ?_ | with_reducible refine (State.pw_gate_foldl _ _ _ (fun _ _ => ?_)).trans ?_ | (dsimp only; first | split | with_reducible refine (State.regs_setA_foldl _ _ _ (fun _ _ => ?_)).trans ?_ | with_reducible refine (State.regs_setB_foldl _ _ _ (fun _ _ => ?_)).trans ?_ | with_reducible refine (State.regs_one_foldl _ _ _ (fun _ _ => ?_)).trans ?_ | with_reducible refine (State.regs_rsvd_foldl _ _ _ (fun _ _ => ?_)).trans ?_ | with_reducible refine (State.regs_waiting_foldl _ _ _ (fun _ _ => ?_)).trans ?_ | with_reducible refine (State.regs_stale_foldl _ _ _ (fun _ _ => ?_)).trans ?_ | with_reducible refine (State.regs_posted_foldl _ _ _ (fun _ _ => ?_)).trans ?_ | with_reducible refine (State.fd_mem_foldl _ _ _ (fun _ _ => ?_)).trans ?_ | with_reducible refine (State.dm_sram_foldl _ _ _ (fun _ _ => ?_)).trans ?_ | with_reducible refine (State.sq_frameNo_foldl _ _ _ (fun _ _ => ?_)).trans ?_ | with_reducible refine (State.sq_inScan_foldl _ _ _ (fun _ _ => ?_)).trans ?_ | with_reducible refine (State.sq_nextBoundary_foldl _ _ _ (fun _ _ => ?_)).trans ?_ | with_reducible refine (State.pw_gate_foldl _ _ _ (fun _ _ => ?_)).trans ?_)))

@[simp] theorem State.headMeasure_parts (s : State) (h : Nat) (rtt : Int) (t21 : Int) :
    (s.headMeasure h rtt t21).regs.setA = s.regs.setA ∧ (s.headMeasure h rtt t21).regs.setB = s.regs.setB ∧
    (s.headMeasure h rtt t21).regs.one = s.regs.one ∧ (s.headMeasure h rtt t21).regs.rsvd = s.regs.rsvd ∧
    (s.headMeasure h rtt t21).regs.waiting = s.regs.waiting ∧ (s.headMeasure h rtt t21).regs.stale = s.regs.stale ∧
    (s.headMeasure h rtt t21).regs.posted = s.regs.posted := by
  and_intros <;> (unfold State.headMeasure; repeat' (first | with_reducible rfl | (simp; done) | split | with_reducible refine (State.regs_setA_foldl _ _ _ (fun _ _ => ?_)).trans ?_ | with_reducible refine (State.regs_setB_foldl _ _ _ (fun _ _ => ?_)).trans ?_ | with_reducible refine (State.regs_one_foldl _ _ _ (fun _ _ => ?_)).trans ?_ | with_reducible refine (State.regs_rsvd_foldl _ _ _ (fun _ _ => ?_)).trans ?_ | with_reducible refine (State.regs_waiting_foldl _ _ _ (fun _ _ => ?_)).trans ?_ | with_reducible refine (State.regs_stale_foldl _ _ _ (fun _ _ => ?_)).trans ?_ | with_reducible refine (State.regs_posted_foldl _ _ _ (fun _ _ => ?_)).trans ?_ | with_reducible refine (State.fd_mem_foldl _ _ _ (fun _ _ => ?_)).trans ?_ | with_reducible refine (State.dm_sram_foldl _ _ _ (fun _ _ => ?_)).trans ?_ | with_reducible refine (State.sq_frameNo_foldl _ _ _ (fun _ _ => ?_)).trans ?_ | with_reducible refine (State.sq_inScan_foldl _ _ _ (fun _ _ => ?_)).trans ?_ | with_reducible refine (State.sq_nextBoundary_foldl _ _ _ (fun _ _ => ?_)).trans ?_ | with_reducible refine (State.pw_gate_foldl _ _ _ (fun _ _ => ?_)).trans ?_ | (dsimp only; first | split | with_reducible refine (State.regs_setA_foldl _ _ _ (fun _ _ => ?_)).trans ?_ | with_reducible refine (State.regs_setB_foldl _ _ _ (fun _ _ => ?_)).trans ?_ | with_reducible refine (State.regs_one_foldl _ _ _ (fun _ _ => ?_)).trans ?_ | with_reducible refine (State.regs_rsvd_foldl _ _ _ (fun _ _ => ?_)).trans ?_ | with_reducible refine (State.regs_waiting_foldl _ _ _ (fun _ _ => ?_)).trans ?_ | with_reducible refine (State.regs_stale_foldl _ _ _ (fun _ _ => ?_)).trans ?_ | with_reducible refine (State.regs_posted_foldl _ _ _ (fun _ _ => ?_)).trans ?_ | with_reducible refine (State.fd_mem_foldl _ _ _ (fun _ _ => ?_)).trans ?_ | with_reducible refine (State.dm_sram_foldl _ _ _ (fun _ _ => ?_)).trans ?_ | with_reducible refine (State.sq_frameNo_foldl _ _ _ (fun _ _ => ?_)).trans ?_ | with_reducible refine (State.sq_inScan_foldl _ _ _ (fun _ _ => ?_)).trans ?_ | with_reducible refine (State.sq_nextBoundary_foldl _ _ _ (fun _ _ => ?_)).trans ?_ | with_reducible refine (State.pw_gate_foldl _ _ _ (fun _ _ => ?_)).trans ?_)))

@[simp] theorem State.headEvent_parts (s : State) (h seq : Nat) (ofs : Option Int) (a b : Score) :
    (s.headEvent h seq ofs a b).regs.setA = s.regs.setA ∧ (s.headEvent h seq ofs a b).regs.setB = s.regs.setB ∧
    (s.headEvent h seq ofs a b).regs.one = s.regs.one ∧ (s.headEvent h seq ofs a b).regs.rsvd = s.regs.rsvd ∧
    (s.headEvent h seq ofs a b).regs.waiting = s.regs.waiting ∧ (s.headEvent h seq ofs a b).regs.stale = s.regs.stale ∧
    (s.headEvent h seq ofs a b).regs.posted = s.regs.posted ∧ (s.headEvent h seq ofs a b).fd.mem = s.fd.mem := by
  and_intros <;> (unfold State.headEvent; repeat' (first | with_reducible rfl | (simp; done) | split | with_reducible refine (State.regs_setA_foldl _ _ _ (fun _ _ => ?_)).trans ?_ | with_reducible refine (State.regs_setB_foldl _ _ _ (fun _ _ => ?_)).trans ?_ | with_reducible refine (State.regs_one_foldl _ _ _ (fun _ _ => ?_)).trans ?_ | with_reducible refine (State.regs_rsvd_foldl _ _ _ (fun _ _ => ?_)).trans ?_ | with_reducible refine (State.regs_waiting_foldl _ _ _ (fun _ _ => ?_)).trans ?_ | with_reducible refine (State.regs_stale_foldl _ _ _ (fun _ _ => ?_)).trans ?_ | with_reducible refine (State.regs_posted_foldl _ _ _ (fun _ _ => ?_)).trans ?_ | with_reducible refine (State.fd_mem_foldl _ _ _ (fun _ _ => ?_)).trans ?_ | with_reducible refine (State.dm_sram_foldl _ _ _ (fun _ _ => ?_)).trans ?_ | with_reducible refine (State.sq_frameNo_foldl _ _ _ (fun _ _ => ?_)).trans ?_ | with_reducible refine (State.sq_inScan_foldl _ _ _ (fun _ _ => ?_)).trans ?_ | with_reducible refine (State.sq_nextBoundary_foldl _ _ _ (fun _ _ => ?_)).trans ?_ | with_reducible refine (State.pw_gate_foldl _ _ _ (fun _ _ => ?_)).trans ?_ | (dsimp only; first | split | with_reducible refine (State.regs_setA_foldl _ _ _ (fun _ _ => ?_)).trans ?_ | with_reducible refine (State.regs_setB_foldl _ _ _ (fun _ _ => ?_)).trans ?_ | with_reducible refine (State.regs_one_foldl _ _ _ (fun _ _ => ?_)).trans ?_ | with_reducible refine (State.regs_rsvd_foldl _ _ _ (fun _ _ => ?_)).trans ?_ | with_reducible refine (State.regs_waiting_foldl _ _ _ (fun _ _ => ?_)).trans ?_ | with_reducible refine (State.regs_stale_foldl _ _ _ (fun _ _ => ?_)).trans ?_ | with_reducible refine (State.regs_posted_foldl _ _ _ (fun _ _ => ?_)).trans ?_ | with_reducible refine (State.fd_mem_foldl _ _ _ (fun _ _ => ?_)).trans ?_ | with_reducible refine (State.dm_sram_foldl _ _ _ (fun _ _ => ?_)).trans ?_ | with_reducible refine (State.sq_frameNo_foldl _ _ _ (fun _ _ => ?_)).trans ?_ | with_reducible refine (State.sq_inScan_foldl _ _ _ (fun _ _ => ?_)).trans ?_ | with_reducible refine (State.sq_nextBoundary_foldl _ _ _ (fun _ _ => ?_)).trans ?_ | with_reducible refine (State.pw_gate_foldl _ _ _ (fun _ _ => ?_)).trans ?_)))

@[simp] theorem State.setPartners_parts (s : State) (ps : List Partner) :
    (s.setPartners ps).regs.setA = s.regs.setA ∧ (s.setPartners ps).regs.setB = s.regs.setB ∧
    (s.setPartners ps).regs.one = s.regs.one ∧ (s.setPartners ps).regs.rsvd = s.regs.rsvd ∧
    (s.setPartners ps).regs.waiting = s.regs.waiting ∧ (s.setPartners ps).regs.stale = s.regs.stale ∧
    (s.setPartners ps).regs.posted = s.regs.posted := by
  and_intros <;> (unfold State.setPartners; repeat' (first | with_reducible rfl | (simp; done) | split | with_reducible refine (State.regs_setA_foldl _ _ _ (fun _ _ => ?_)).trans ?_ | with_reducible refine (State.regs_setB_foldl _ _ _ (fun _ _ => ?_)).trans ?_ | with_reducible refine (State.regs_one_foldl _ _ _ (fun _ _ => ?_)).trans ?_ | with_reducible refine (State.regs_rsvd_foldl _ _ _ (fun _ _ => ?_)).trans ?_ | with_reducible refine (State.regs_waiting_foldl _ _ _ (fun _ _ => ?_)).trans ?_ | with_reducible refine (State.regs_stale_foldl _ _ _ (fun _ _ => ?_)).trans ?_ | with_reducible refine (State.regs_posted_foldl _ _ _ (fun _ _ => ?_)).trans ?_ | with_reducible refine (State.fd_mem_foldl _ _ _ (fun _ _ => ?_)).trans ?_ | with_reducible refine (State.dm_sram_foldl _ _ _ (fun _ _ => ?_)).trans ?_ | with_reducible refine (State.sq_frameNo_foldl _ _ _ (fun _ _ => ?_)).trans ?_ | with_reducible refine (State.sq_inScan_foldl _ _ _ (fun _ _ => ?_)).trans ?_ | with_reducible refine (State.sq_nextBoundary_foldl _ _ _ (fun _ _ => ?_)).trans ?_ | with_reducible refine (State.pw_gate_foldl _ _ _ (fun _ _ => ?_)).trans ?_ | (dsimp only; first | split | with_reducible refine (State.regs_setA_foldl _ _ _ (fun _ _ => ?_)).trans ?_ | with_reducible refine (State.regs_setB_foldl _ _ _ (fun _ _ => ?_)).trans ?_ | with_reducible refine (State.regs_one_foldl _ _ _ (fun _ _ => ?_)).trans ?_ | with_reducible refine (State.regs_rsvd_foldl _ _ _ (fun _ _ => ?_)).trans ?_ | with_reducible refine (State.regs_waiting_foldl _ _ _ (fun _ _ => ?_)).trans ?_ | with_reducible refine (State.regs_stale_foldl _ _ _ (fun _ _ => ?_)).trans ?_ | with_reducible refine (State.regs_posted_foldl _ _ _ (fun _ _ => ?_)).trans ?_ | with_reducible refine (State.fd_mem_foldl _ _ _ (fun _ _ => ?_)).trans ?_ | with_reducible refine (State.dm_sram_foldl _ _ _ (fun _ _ => ?_)).trans ?_ | with_reducible refine (State.sq_frameNo_foldl _ _ _ (fun _ _ => ?_)).trans ?_ | with_reducible refine (State.sq_inScan_foldl _ _ _ (fun _ _ => ?_)).trans ?_ | with_reducible refine (State.sq_nextBoundary_foldl _ _ _ (fun _ _ => ?_)).trans ?_ | with_reducible refine (State.pw_gate_foldl _ _ _ (fun _ _ => ?_)).trans ?_)))

@[simp] theorem State.headMove_parts (s : State) (ident b : Nat) :
    (s.headMove ident b).regs.setA = s.regs.setA ∧ (s.headMove ident b).regs.setB = s.regs.setB ∧
    (s.headMove ident b).regs.one = s.regs.one ∧ (s.headMove ident b).regs.rsvd = s.regs.rsvd ∧
    (s.headMove ident b).regs.waiting = s.regs.waiting ∧ (s.headMove ident b).regs.stale = s.regs.stale ∧
    (s.headMove ident b).regs.posted = s.regs.posted := by
  and_intros <;> (unfold State.headMove; repeat' (first | with_reducible rfl | (simp; done) | split | with_reducible refine (State.regs_setA_foldl _ _ _ (fun _ _ => ?_)).trans ?_ | with_reducible refine (State.regs_setB_foldl _ _ _ (fun _ _ => ?_)).trans ?_ | with_reducible refine (State.regs_one_foldl _ _ _ (fun _ _ => ?_)).trans ?_ | with_reducible refine (State.regs_rsvd_foldl _ _ _ (fun _ _ => ?_)).trans ?_ | with_reducible refine (State.regs_waiting_foldl _ _ _ (fun _ _ => ?_)).trans ?_ | with_reducible refine (State.regs_stale_foldl _ _ _ (fun _ _ => ?_)).trans ?_ | with_reducible refine (State.regs_posted_foldl _ _ _ (fun _ _ => ?_)).trans ?_ | with_reducible refine (State.fd_mem_foldl _ _ _ (fun _ _ => ?_)).trans ?_ | with_reducible refine (State.dm_sram_foldl _ _ _ (fun _ _ => ?_)).trans ?_ | with_reducible refine (State.sq_frameNo_foldl _ _ _ (fun _ _ => ?_)).trans ?_ | with_reducible refine (State.sq_inScan_foldl _ _ _ (fun _ _ => ?_)).trans ?_ | with_reducible refine (State.sq_nextBoundary_foldl _ _ _ (fun _ _ => ?_)).trans ?_ | with_reducible refine (State.pw_gate_foldl _ _ _ (fun _ _ => ?_)).trans ?_ | (dsimp only; first | split | with_reducible refine (State.regs_setA_foldl _ _ _ (fun _ _ => ?_)).trans ?_ | with_reducible refine (State.regs_setB_foldl _ _ _ (fun _ _ => ?_)).trans ?_ | with_reducible refine (State.regs_one_foldl _ _ _ (fun _ _ => ?_)).trans ?_ | with_reducible refine (State.regs_rsvd_foldl _ _ _ (fun _ _ => ?_)).trans ?_ | with_reducible refine (State.regs_waiting_foldl _ _ _ (fun _ _ => ?_)).trans ?_ | with_reducible refine (State.regs_stale_foldl _ _ _ (fun _ _ => ?_)).trans ?_ | with_reducible refine (State.regs_posted_foldl _ _ _ (fun _ _ => ?_)).trans ?_ | with_reducible refine (State.fd_mem_foldl _ _ _ (fun _ _ => ?_)).trans ?_ | with_reducible refine (State.dm_sram_foldl _ _ _ (fun _ _ => ?_)).trans ?_ | with_reducible refine (State.sq_frameNo_foldl _ _ _ (fun _ _ => ?_)).trans ?_ | with_reducible refine (State.sq_inScan_foldl _ _ _ (fun _ _ => ?_)).trans ?_ | with_reducible refine (State.sq_nextBoundary_foldl _ _ _ (fun _ _ => ?_)).trans ?_ | with_reducible refine (State.pw_gate_foldl _ _ _ (fun _ _ => ?_)).trans ?_)))

@[simp] theorem State.ptpStat_parts (s : State) :
    (s.ptpStat).regs.setA = s.regs.setA ∧ (s.ptpStat).regs.setB = s.regs.setB ∧ (s.ptpStat).regs.one = s.regs.one ∧
    (s.ptpStat).regs.rsvd = s.regs.rsvd ∧ (s.ptpStat).regs.waiting = s.regs.waiting ∧ (s.ptpStat).regs.stale = s.regs.stale ∧
    (s.ptpStat).regs.posted = s.regs.posted := by
  and_intros <;> (unfold State.ptpStat; repeat' (first | with_reducible rfl | (simp; done) | split | with_reducible refine (State.regs_setA_foldl _ _ _ (fun _ _ => ?_)).trans ?_ | with_reducible refine (State.regs_setB_foldl _ _ _ (fun _ _ => ?_)).trans ?_ | with_reducible refine (State.regs_one_foldl _ _ _ (fun _ _ => ?_)).trans ?_ | with_reducible refine (State.regs_rsvd_foldl _ _ _ (fun _ _ => ?_)).trans ?_ | with_reducible refine (State.regs_waiting_foldl _ _ _ (fun _ _ => ?_)).trans ?_ | with_reducible refine (State.regs_stale_foldl _ _ _ (fun _ _ => ?_)).trans ?_ | with_reducible refine (State.regs_posted_foldl _ _ _ (fun _ _ => ?_)).trans ?_ | with_reducible refine (State.fd_mem_foldl _ _ _ (fun _ _ => ?_)).trans ?_ | with_reducible refine (State.dm_sram_foldl _ _ _ (fun _ _ => ?_)).trans ?_ | with_reducible refine (State.sq_frameNo_foldl _ _ _ (fun _ _ => ?_)).trans ?_ | with_reducible refine (State.sq_inScan_foldl _ _ _ (fun _ _ => ?_)).trans ?_ | with_reducible refine (State.sq_nextBoundary_foldl _ _ _ (fun _ _ => ?_)).trans ?_ | with_reducible refine (State.pw_gate_foldl _ _ _ (fun _ _ => ?_)).trans ?_ | (dsimp only; first | split | with_reducible refine (State.regs_setA_foldl _ _ _ (fun _ _ => ?_)).trans ?_ | with_reducible refine (State.regs_setB_foldl _ _ _ (fun _ _ => ?_)).trans ?_ | with_reducible refine (State.regs_one_foldl _ _ _ (fun _ _ => ?_)).trans ?_ | with_reducible refine (State.regs_rsvd_foldl _ _ _ (fun _ _ => ?_)).trans ?_ | with_reducible refine (State.regs_waiting_foldl _ _ _ (fun _ _ => ?_)).trans ?_ | with_reducible refine (State.regs_stale_foldl _ _ _ (fun _ _ => ?_)).trans ?_ | with_reducible refine (State.regs_posted_foldl _ _ _ (fun _ _ => ?_)).trans ?_ | with_reducible refine (State.fd_mem_foldl _ _ _ (fun _ _ => ?_)).trans ?_ | with_reducible refine (State.dm_sram_foldl _ _ _ (fun _ _ => ?_)).trans ?_ | with_reducible refine (State.sq_frameNo_foldl _ _ _ (fun _ _ => ?_)).trans ?_ | with_reducible refine (State.sq_inScan_foldl _ _ _ (fun _ _ => ?_)).trans ?_ | with_reducible refine (State.sq_nextBoundary_foldl _ _ _ (fun _ _ => ?_)).trans ?_ | with_reducible refine (State.pw_gate_foldl _ _ _ (fun _ _ => ?_)).trans ?_)))

@[simp] theorem State.ptpLost_parts (s : State) :
    (s.ptpLost).regs.setA = s.regs.setA ∧ (s.ptpLost).regs.setB = s.regs.setB ∧ (s.ptpLost).regs.one = s.regs.one ∧
    (s.ptpLost).regs.rsvd = s.regs.rsvd ∧ (s.ptpLost).regs.waiting = s.regs.waiting ∧ (s.ptpLost).regs.stale = s.regs.stale ∧
    (s.ptpLost).regs.posted = s.regs.posted ∧ (s.ptpLost).sq.frameNo = s.sq.frameNo ∧ (s.ptpLost).sq.inScan = s.sq.inScan ∧
    (s.ptpLost).sq.nextBoundary = s.sq.nextBoundary := by
  and_intros <;> (unfold State.ptpLost; repeat' (first | with_reducible rfl | (simp; done) | split | with_reducible refine (State.regs_setA_foldl _ _ _ (fun _ _ => ?_)).trans ?_ | with_reducible refine (State.regs_setB_foldl _ _ _ (fun _ _ => ?_)).trans ?_ | with_reducible refine (State.regs_one_foldl _ _ _ (fun _ _ => ?_)).trans ?_ | with_reducible refine (State.regs_rsvd_foldl _ _ _ (fun _ _ => ?_)).trans ?_ | with_reducible refine (State.regs_waiting_foldl _ _ _ (fun _ _ => ?_)).trans ?_ | with_reducible refine (State.regs_stale_foldl _ _ _ (fun _ _ => ?_)).trans ?_ | with_reducible refine (State.regs_posted_foldl _ _ _ (fun _ _ => ?_)).trans ?_ | with_reducible refine (State.fd_mem_foldl _ _ _ (fun _ _ => ?_)).trans ?_ | with_reducible refine (State.dm_sram_foldl _ _ _ (fun _ _ => ?_)).trans ?_ | with_reducible refine (State.sq_frameNo_foldl _ _ _ (fun _ _ => ?_)).trans ?_ | with_reducible refine (State.sq_inScan_foldl _ _ _ (fun _ _ => ?_)).trans ?_ | with_reducible refine (State.sq_nextBoundary_foldl _ _ _ (fun _ _ => ?_)).trans ?_ | with_reducible refine (State.pw_gate_foldl _ _ _ (fun _ _ => ?_)).trans ?_ | (dsimp only; first | split | with_reducible refine (State.regs_setA_foldl _ _ _ (fun _ _ => ?_)).trans ?_ | with_reducible refine (State.regs_setB_foldl _ _ _ (fun _ _ => ?_)).trans ?_ | with_reducible refine (State.regs_one_foldl _ _ _ (fun _ _ => ?_)).trans ?_ | with_reducible refine (State.regs_rsvd_foldl _ _ _ (fun _ _ => ?_)).trans ?_ | with_reducible refine (State.regs_waiting_foldl _ _ _ (fun _ _ => ?_)).trans ?_ | with_reducible refine (State.regs_stale_foldl _ _ _ (fun _ _ => ?_)).trans ?_ | with_reducible refine (State.regs_posted_foldl _ _ _ (fun _ _ => ?_)).trans ?_ | with_reducible refine (State.fd_mem_foldl _ _ _ (fun _ _ => ?_)).trans ?_ | with_reducible refine (State.dm_sram_foldl _ _ _ (fun _ _ => ?_)).trans ?_ | with_reducible refine (State.sq_frameNo_foldl _ _ _ (fun _ _ => ?_)).trans ?_ | with_reducible refine (State.sq_inScan_foldl _ _ _ (fun _ _ => ?_)).trans ?_ | with_reducible refine (State.sq_nextBoundary_foldl _ _ _ (fun _ _ => ?_)).trans ?_ | with_reducible refine (State.pw_gate_foldl _ _ _ (fun _ _ => ?_)).trans ?_)))

@[simp] theorem State.ptpLocked_parts (s : State) :
    (s.ptpLocked).regs.setA = s.regs.setA ∧ (s.ptpLocked).regs.setB = s.regs.setB ∧ (s.ptpLocked).regs.one = s.regs.one ∧
    (s.ptpLocked).regs.rsvd = s.regs.rsvd ∧ (s.ptpLocked).regs.waiting = s.regs.waiting ∧
    (s.ptpLocked).regs.stale = s.regs.stale ∧ (s.ptpLocked).regs.posted = s.regs.posted ∧
    (s.ptpLocked).sq.frameNo = s.sq.frameNo ∧ (s.ptpLocked).sq.inScan = s.sq.inScan ∧
    (s.ptpLocked).sq.nextBoundary = s.sq.nextBoundary := by
  and_intros <;> (unfold State.ptpLocked; repeat' (first | with_reducible rfl | (simp; done) | split | with_reducible refine (State.regs_setA_foldl _ _ _ (fun _ _ => ?_)).trans ?_ | with_reducible refine (State.regs_setB_foldl _ _ _ (fun _ _ => ?_)).trans ?_ | with_reducible refine (State.regs_one_foldl _ _ _ (fun _ _ => ?_)).trans ?_ | with_reducible refine (State.regs_rsvd_foldl _ _ _ (fun _ _ => ?_)).trans ?_ | with_reducible refine (State.regs_waiting_foldl _ _ _ (fun _ _ => ?_)).trans ?_ | with_reducible refine (State.regs_stale_foldl _ _ _ (fun _ _ => ?_)).trans ?_ | with_reducible refine (State.regs_posted_foldl _ _ _ (fun _ _ => ?_)).trans ?_ | with_reducible refine (State.fd_mem_foldl _ _ _ (fun _ _ => ?_)).trans ?_ | with_reducible refine (State.dm_sram_foldl _ _ _ (fun _ _ => ?_)).trans ?_ | with_reducible refine (State.sq_frameNo_foldl _ _ _ (fun _ _ => ?_)).trans ?_ | with_reducible refine (State.sq_inScan_foldl _ _ _ (fun _ _ => ?_)).trans ?_ | with_reducible refine (State.sq_nextBoundary_foldl _ _ _ (fun _ _ => ?_)).trans ?_ | with_reducible refine (State.pw_gate_foldl _ _ _ (fun _ _ => ?_)).trans ?_ | (dsimp only; first | split | with_reducible refine (State.regs_setA_foldl _ _ _ (fun _ _ => ?_)).trans ?_ | with_reducible refine (State.regs_setB_foldl _ _ _ (fun _ _ => ?_)).trans ?_ | with_reducible refine (State.regs_one_foldl _ _ _ (fun _ _ => ?_)).trans ?_ | with_reducible refine (State.regs_rsvd_foldl _ _ _ (fun _ _ => ?_)).trans ?_ | with_reducible refine (State.regs_waiting_foldl _ _ _ (fun _ _ => ?_)).trans ?_ | with_reducible refine (State.regs_stale_foldl _ _ _ (fun _ _ => ?_)).trans ?_ | with_reducible refine (State.regs_posted_foldl _ _ _ (fun _ _ => ?_)).trans ?_ | with_reducible refine (State.fd_mem_foldl _ _ _ (fun _ _ => ?_)).trans ?_ | with_reducible refine (State.dm_sram_foldl _ _ _ (fun _ _ => ?_)).trans ?_ | with_reducible refine (State.sq_frameNo_foldl _ _ _ (fun _ _ => ?_)).trans ?_ | with_reducible refine (State.sq_inScan_foldl _ _ _ (fun _ _ => ?_)).trans ?_ | with_reducible refine (State.sq_nextBoundary_foldl _ _ _ (fun _ _ => ?_)).trans ?_ | with_reducible refine (State.pw_gate_foldl _ _ _ (fun _ _ => ?_)).trans ?_)))

@[simp] theorem State.ptpPrune_parts (s : State) :
    (s.ptpPrune).regs.setA = s.regs.setA ∧ (s.ptpPrune).regs.setB = s.regs.setB ∧ (s.ptpPrune).regs.one = s.regs.one ∧
    (s.ptpPrune).regs.rsvd = s.regs.rsvd ∧ (s.ptpPrune).regs.waiting = s.regs.waiting ∧
    (s.ptpPrune).regs.stale = s.regs.stale ∧ (s.ptpPrune).regs.posted = s.regs.posted := by
  and_intros <;> (unfold State.ptpPrune; repeat' (first | with_reducible rfl | (simp; done) | split | with_reducible refine (State.regs_setA_foldl _ _ _ (fun _ _ => ?_)).trans ?_ | with_reducible refine (State.regs_setB_foldl _ _ _ (fun _ _ => ?_)).trans ?_ | with_reducible refine (State.regs_one_foldl _ _ _ (fun _ _ => ?_)).trans ?_ | with_reducible refine (State.regs_rsvd_foldl _ _ _ (fun _ _ => ?_)).trans ?_ | with_reducible refine (State.regs_waiting_foldl _ _ _ (fun _ _ => ?_)).trans ?_ | with_reducible refine (State.regs_stale_foldl _ _ _ (fun _ _ => ?_)).trans ?_ | with_reducible refine (State.regs_posted_foldl _ _ _ (fun _ _ => ?_)).trans ?_ | with_reducible refine (State.fd_mem_foldl _ _ _ (fun _ _ => ?_)).trans ?_ | with_reducible refine (State.dm_sram_foldl _ _ _ (fun _ _ => ?_)).trans ?_ | with_reducible refine (State.sq_frameNo_foldl _ _ _ (fun _ _ => ?_)).trans ?_ | with_reducible refine (State.sq_inScan_foldl _ _ _ (fun _ _ => ?_)).trans ?_ | with_reducible refine (State.sq_nextBoundary_foldl _ _ _ (fun _ _ => ?_)).trans ?_ | with_reducible refine (State.pw_gate_foldl _ _ _ (fun _ _ => ?_)).trans ?_ | (dsimp only; first | split | with_reducible refine (State.regs_setA_foldl _ _ _ (fun _ _ => ?_)).trans ?_ | with_reducible refine (State.regs_setB_foldl _ _ _ (fun _ _ => ?_)).trans ?_ | with_reducible refine (State.regs_one_foldl _ _ _ (fun _ _ => ?_)).trans ?_ | with_reducible refine (State.regs_rsvd_foldl _ _ _ (fun _ _ => ?_)).trans ?_ | with_reducible refine (State.regs_waiting_foldl _ _ _ (fun _ _ => ?_)).trans ?_ | with_reducible refine (State.regs_stale_foldl _ _ _ (fun _ _ => ?_)).trans ?_ | with_reducible refine (State.regs_posted_foldl _ _ _ (fun _ _ => ?_)).trans ?_ | with_reducible refine (State.fd_mem_foldl _ _ _ (fun _ _ => ?_)).trans ?_ | with_reducible refine (State.dm_sram_foldl _ _ _ (fun _ _ => ?_)).trans ?_ | with_reducible refine (State.sq_frameNo_foldl _ _ _ (fun _ _ => ?_)).trans ?_ | with_reducible refine (State.sq_inScan_foldl _ _ _ (fun _ _ => ?_)).trans ?_ | with_reducible refine (State.sq_nextBoundary_foldl _ _ _ (fun _ _ => ?_)).trans ?_ | with_reducible refine (State.pw_gate_foldl _ _ _ (fun _ _ => ?_)).trans ?_)))

@[simp] theorem State.flCntClr_parts (s : State) :
    (s.flCntClr).regs.setA = s.regs.setA ∧ (s.flCntClr).regs.setB = s.regs.setB ∧ (s.flCntClr).regs.one = s.regs.one ∧
    (s.flCntClr).regs.rsvd = s.regs.rsvd ∧ (s.flCntClr).regs.waiting = s.regs.waiting ∧
    (s.flCntClr).regs.stale = s.regs.stale ∧ (s.flCntClr).regs.posted = s.regs.posted := by
  and_intros <;> (unfold State.flCntClr; repeat' (first | with_reducible rfl | (simp; done) | split | with_reducible refine (State.regs_setA_foldl _ _ _ (fun _ _ => ?_)).trans ?_ | with_reducible refine (State.regs_setB_foldl _ _ _ (fun _ _ => ?_)).trans ?_ | with_reducible refine (State.regs_one_foldl _ _ _ (fun _ _ => ?_)).trans ?_ | with_reducible refine (State.regs_rsvd_foldl _ _ _ (fun _ _ => ?_)).trans ?_ | with_reducible refine (State.regs_waiting_foldl _ _ _ (fun _ _ => ?_)).trans ?_ | with_reducible refine (State.regs_stale_foldl _ _ _ (fun _ _ => ?_)).trans ?_ | with_reducible refine (State.regs_posted_foldl _ _ _ (fun _ _ => ?_)).trans ?_ | with_reducible refine (State.fd_mem_foldl _ _ _ (fun _ _ => ?_)).trans ?_ | with_reducible refine (State.dm_sram_foldl _ _ _ (fun _ _ => ?_)).trans ?_ | with_reducible refine (State.sq_frameNo_foldl _ _ _ (fun _ _ => ?_)).trans ?_ | with_reducible refine (State.sq_inScan_foldl _ _ _ (fun _ _ => ?_)).trans ?_ | with_reducible refine (State.sq_nextBoundary_foldl _ _ _ (fun _ _ => ?_)).trans ?_ | with_reducible refine (State.pw_gate_foldl _ _ _ (fun _ _ => ?_)).trans ?_ | (dsimp only; first | split | with_reducible refine (State.regs_setA_foldl _ _ _ (fun _ _ => ?_)).trans ?_ | with_reducible refine (State.regs_setB_foldl _ _ _ (fun _ _ => ?_)).trans ?_ | with_reducible refine (State.regs_one_foldl _ _ _ (fun _ _ => ?_)).trans ?_ | with_reducible refine (State.regs_rsvd_foldl _ _ _ (fun _ _ => ?_)).trans ?_ | with_reducible refine (State.regs_waiting_foldl _ _ _ (fun _ _ => ?_)).trans ?_ | with_reducible refine (State.regs_stale_foldl _ _ _ (fun _ _ => ?_)).trans ?_ | with_reducible refine (State.regs_posted_foldl _ _ _ (fun _ _ => ?_)).trans ?_ | with_reducible refine (State.fd_mem_foldl _ _ _ (fun _ _ => ?_)).trans ?_ | with_reducible refine (State.dm_sram_foldl _ _ _ (fun _ _ => ?_)).trans ?_ | with_reducible refine (State.sq_frameNo_foldl _ _ _ (fun _ _ => ?_)).trans ?_ | with_reducible refine (State.sq_inScan_foldl _ _ _ (fun _ _ => ?_)).trans ?_ | with_reducible refine (State.sq_nextBoundary_foldl _ _ _ (fun _ _ => ?_)).trans ?_ | with_reducible refine (State.pw_gate_foldl _ _ _ (fun _ _ => ?_)).trans ?_)))

@[simp] theorem State.epTimeRead_parts (s : State) :
    (s.epTimeRead).regs.setA = s.regs.setA ∧ (s.epTimeRead).regs.setB = s.regs.setB ∧ (s.epTimeRead).regs.one = s.regs.one ∧
    (s.epTimeRead).regs.rsvd = s.regs.rsvd ∧ (s.epTimeRead).regs.waiting = s.regs.waiting ∧
    (s.epTimeRead).regs.stale = s.regs.stale ∧ (s.epTimeRead).regs.posted = s.regs.posted := by
  and_intros <;> (unfold State.epTimeRead; repeat' (first | with_reducible rfl | (simp; done) | split | with_reducible refine (State.regs_setA_foldl _ _ _ (fun _ _ => ?_)).trans ?_ | with_reducible refine (State.regs_setB_foldl _ _ _ (fun _ _ => ?_)).trans ?_ | with_reducible refine (State.regs_one_foldl _ _ _ (fun _ _ => ?_)).trans ?_ | with_reducible refine (State.regs_rsvd_foldl _ _ _ (fun _ _ => ?_)).trans ?_ | with_reducible refine (State.regs_waiting_foldl _ _ _ (fun _ _ => ?_)).trans ?_ | with_reducible refine (State.regs_stale_foldl _ _ _ (fun _ _ => ?_)).trans ?_ | with_reducible refine (State.regs_posted_foldl _ _ _ (fun _ _ => ?_)).trans ?_ | with_reducible refine (State.fd_mem_foldl _ _ _ (fun _ _ => ?_)).trans ?_ | with_reducible refine (State.dm_sram_foldl _ _ _ (fun _ _ => ?_)).trans ?_ | with_reducible refine (State.sq_frameNo_foldl _ _ _ (fun _ _ => ?_)).trans ?_ | with_reducible refine (State.sq_inScan_foldl _ _ _ (fun _ _ => ?_)).trans ?_ | with_reducible refine (State.sq_nextBoundary_foldl _ _ _ (fun _ _ => ?_)).trans ?_ | with_reducible refine (State.pw_gate_foldl _ _ _ (fun _ _ => ?_)).trans ?_ | (dsimp only; first | split | with_reducible refine (State.regs_setA_foldl _ _ _ (fun _ _ => ?_)).trans ?_ | with_reducible refine (State.regs_setB_foldl _ _ _ (fun _ _ => ?_)).trans ?_ | with_reducible refine (State.regs_one_foldl _ _ _ (fun _ _ => ?_)).trans ?_ | with_reducible refine (State.regs_rsvd_foldl _ _ _ (fun _ _ => ?_)).trans ?_ | with_reducible refine (State.regs_waiting_foldl _ _ _ (fun _ _ => ?_)).trans ?_ | with_reducible refine (State.regs_stale_foldl _ _ _ (fun _ _ => ?_)).trans ?_ | with_reducible refine (State.regs_posted_foldl _ _ _ (fun _ _ => ?_)).trans ?_ | with_reducible refine (State.fd_mem_foldl _ _ _ (fun _ _ => ?_)).trans ?_ | with_reducible refine (State.dm_sram_foldl _ _ _ (fun _ _ => ?_)).trans ?_ | with_reducible refine (State.sq_frameNo_foldl _ _ _ (fun _ _ => ?_)).trans ?_ | with_reducible refine (State.sq_inScan_foldl _ _ _ (fun _ _ => ?_)).trans ?_ | with_reducible refine (State.sq_nextBoundary_foldl _ _ _ (fun _ _ => ?_)).trans ?_ | with_reducible refine (State.pw_gate_foldl _ _ _ (fun _ _ => ?_)).trans ?_)))

end Sys2Proof.Machine
end

