-- ==== Sys2Proof/Laws/FrameEvents.lean ====
section
/-!
SUPPORT. The frames of the operations of Machine/Events.lean: the parts of the state that each of them leaves as they were.
-/

set_option linter.unusedTactic false
set_option linter.unreachableTactic false
set_option linter.unusedSimpArgs false

namespace Sys2Proof.Machine

@[simp] theorem State.deliverEvent_frame (s : State) (rs : List Report) :
    (s.deliverEvent rs).now = s.now ∧ (s.deliverEvent rs).phase = s.phase ∧ (s.deliverEvent rs).pending = s.pending ∧
    (s.deliverEvent rs).nodeOfs = s.nodeOfs ∧ (s.deliverEvent rs).freeCtr = s.freeCtr ∧ (s.deliverEvent rs).tx = s.tx ∧
    (s.deliverEvent rs).tl = s.tl ∧ (s.deliverEvent rs).sq = s.sq := by
  and_intros <;> (unfold State.deliverEvent; repeat' (first | with_reducible rfl | (simp; done) | split | with_reducible refine (foldl_inv _ _ _ _ (fun _ _ => ?_)).trans ?_ | (dsimp only; first | split | with_reducible refine (foldl_inv _ _ _ _ (fun _ _ => ?_)).trans ?_)))

@[simp] theorem State.deliverEvent_frame2 (s : State) (rs : List Report) :
    (s.deliverEvent rs).fd = s.fd ∧ (s.deliverEvent rs).ex = s.ex ∧ (s.deliverEvent rs).sv = s.sv ∧
    (s.deliverEvent rs).ax = s.ax ∧ (s.deliverEvent rs).aq = s.aq ∧ (s.deliverEvent rs).il = s.il ∧
    (s.deliverEvent rs).ln = s.ln ∧ (s.deliverEvent rs).fl = s.fl := by
  and_intros <;> (unfold State.deliverEvent; repeat' (first | with_reducible rfl | (simp; done) | split | with_reducible refine (foldl_inv _ _ _ _ (fun _ _ => ?_)).trans ?_ | (dsimp only; first | split | with_reducible refine (foldl_inv _ _ _ _ (fun _ _ => ?_)).trans ?_)))

@[simp] theorem State.deliverEvent_frame3 (s : State) (rs : List Report) :
    (s.deliverEvent rs).safe = s.safe ∧ (s.deliverEvent rs).dm = s.dm ∧ (s.deliverEvent rs).cm = s.cm ∧
    (s.deliverEvent rs).cf = s.cf ∧ (s.deliverEvent rs).pw = s.pw ∧ (s.deliverEvent rs).th = s.th := by
  and_intros <;> (unfold State.deliverEvent; repeat' (first | with_reducible rfl | (simp; done) | split | with_reducible refine (foldl_inv _ _ _ _ (fun _ _ => ?_)).trans ?_ | (dsimp only; first | split | with_reducible refine (foldl_inv _ _ _ _ (fun _ _ => ?_)).trans ?_)))

@[simp] theorem State.dropWindow_frame (s : State) (src code : Nat) :
    (s.dropWindow src code).now = s.now ∧ (s.dropWindow src code).phase = s.phase ∧
    (s.dropWindow src code).pending = s.pending ∧ (s.dropWindow src code).nodeOfs = s.nodeOfs ∧
    (s.dropWindow src code).freeCtr = s.freeCtr ∧ (s.dropWindow src code).tx = s.tx ∧ (s.dropWindow src code).regs = s.regs ∧
    (s.dropWindow src code).tl = s.tl := by
  and_intros <;> (unfold State.dropWindow; repeat' (first | with_reducible rfl | (simp; done) | split | with_reducible refine (foldl_inv _ _ _ _ (fun _ _ => ?_)).trans ?_ | (dsimp only; first | split | with_reducible refine (foldl_inv _ _ _ _ (fun _ _ => ?_)).trans ?_)))

@[simp] theorem State.dropWindow_frame2 (s : State) (src code : Nat) :
    (s.dropWindow src code).sq = s.sq ∧ (s.dropWindow src code).fd = s.fd ∧ (s.dropWindow src code).ex = s.ex ∧
    (s.dropWindow src code).sv = s.sv ∧ (s.dropWindow src code).ax = s.ax ∧ (s.dropWindow src code).aq = s.aq ∧
    (s.dropWindow src code).il = s.il ∧ (s.dropWindow src code).ln = s.ln := by
  and_intros <;> (unfold State.dropWindow; repeat' (first | with_reducible rfl | (simp; done) | split | with_reducible refine (foldl_inv _ _ _ _ (fun _ _ => ?_)).trans ?_ | (dsimp only; first | split | with_reducible refine (foldl_inv _ _ _ _ (fun _ _ => ?_)).trans ?_)))

@[simp] theorem State.dropWindow_frame3 (s : State) (src code : Nat) :
    (s.dropWindow src code).fl = s.fl ∧ (s.dropWindow src code).safe = s.safe ∧ (s.dropWindow src code).dm = s.dm ∧
    (s.dropWindow src code).cm = s.cm ∧ (s.dropWindow src code).cf = s.cf ∧ (s.dropWindow src code).pw = s.pw ∧
    (s.dropWindow src code).th = s.th := by
  and_intros <;> (unfold State.dropWindow; repeat' (first | with_reducible rfl | (simp; done) | split | with_reducible refine (foldl_inv _ _ _ _ (fun _ _ => ?_)).trans ?_ | (dsimp only; first | split | with_reducible refine (foldl_inv _ _ _ _ (fun _ _ => ?_)).trans ?_)))

@[simp] theorem State.closeMerge_frame (s : State) (w : EvWindow) :
    (s.closeMerge w).now = s.now ∧ (s.closeMerge w).phase = s.phase ∧ (s.closeMerge w).pending = s.pending ∧
    (s.closeMerge w).nodeOfs = s.nodeOfs ∧ (s.closeMerge w).freeCtr = s.freeCtr ∧ (s.closeMerge w).tx = s.tx ∧
    (s.closeMerge w).tl = s.tl ∧ (s.closeMerge w).sq = s.sq := by
  and_intros <;> (unfold State.closeMerge; repeat' (first | with_reducible rfl | (simp; done) | split | with_reducible refine (foldl_inv _ _ _ _ (fun _ _ => ?_)).trans ?_ | (dsimp only; first | split | with_reducible refine (foldl_inv _ _ _ _ (fun _ _ => ?_)).trans ?_)))

@[simp] theorem State.closeMerge_frame2 (s : State) (w : EvWindow) :
    (s.closeMerge w).fd = s.fd ∧ (s.closeMerge w).ex = s.ex ∧ (s.closeMerge w).sv = s.sv ∧ (s.closeMerge w).ax = s.ax ∧
    (s.closeMerge w).aq = s.aq ∧ (s.closeMerge w).il = s.il ∧ (s.closeMerge w).ln = s.ln ∧ (s.closeMerge w).fl = s.fl := by
  and_intros <;> (unfold State.closeMerge; repeat' (first | with_reducible rfl | (simp; done) | split | with_reducible refine (foldl_inv _ _ _ _ (fun _ _ => ?_)).trans ?_ | (dsimp only; first | split | with_reducible refine (foldl_inv _ _ _ _ (fun _ _ => ?_)).trans ?_)))

@[simp] theorem State.closeMerge_frame3 (s : State) (w : EvWindow) :
    (s.closeMerge w).safe = s.safe ∧ (s.closeMerge w).dm = s.dm ∧ (s.closeMerge w).cm = s.cm ∧ (s.closeMerge w).cf = s.cf ∧
    (s.closeMerge w).pw = s.pw ∧ (s.closeMerge w).th = s.th := by
  and_intros <;> (unfold State.closeMerge; repeat' (first | with_reducible rfl | (simp; done) | split | with_reducible refine (foldl_inv _ _ _ _ (fun _ _ => ?_)).trans ?_ | (dsimp only; first | split | with_reducible refine (foldl_inv _ _ _ _ (fun _ _ => ?_)).trans ?_)))

@[simp] theorem State.openMerge_frame (s : State) (r : Report) :
    (s.openMerge r).now = s.now ∧ (s.openMerge r).phase = s.phase ∧ (s.openMerge r).pending = s.pending ∧
    (s.openMerge r).nodeOfs = s.nodeOfs ∧ (s.openMerge r).freeCtr = s.freeCtr ∧ (s.openMerge r).tx = s.tx ∧
    (s.openMerge r).tl = s.tl ∧ (s.openMerge r).sq = s.sq := by
  and_intros <;> (unfold State.openMerge; repeat' (first | with_reducible rfl | (simp; done) | split | with_reducible refine (foldl_inv _ _ _ _ (fun _ _ => ?_)).trans ?_ | (dsimp only; first | split | with_reducible refine (foldl_inv _ _ _ _ (fun _ _ => ?_)).trans ?_)))

@[simp] theorem State.openMerge_frame2 (s : State) (r : Report) :
    (s.openMerge r).fd = s.fd ∧ (s.openMerge r).ex = s.ex ∧ (s.openMerge r).sv = s.sv ∧ (s.openMerge r).ax = s.ax ∧
    (s.openMerge r).aq = s.aq ∧ (s.openMerge r).il = s.il ∧ (s.openMerge r).ln = s.ln ∧ (s.openMerge r).fl = s.fl := by
  and_intros <;> (unfold State.openMerge; repeat' (first | with_reducible rfl | (simp; done) | split | with_reducible refine (foldl_inv _ _ _ _ (fun _ _ => ?_)).trans ?_ | (dsimp only; first | split | with_reducible refine (foldl_inv _ _ _ _ (fun _ _ => ?_)).trans ?_)))

@[simp] theorem State.openMerge_frame3 (s : State) (r : Report) :
    (s.openMerge r).safe = s.safe ∧ (s.openMerge r).dm = s.dm ∧ (s.openMerge r).cm = s.cm ∧ (s.openMerge r).cf = s.cf ∧
    (s.openMerge r).pw = s.pw ∧ (s.openMerge r).th = s.th := by
  and_intros <;> (unfold State.openMerge; repeat' (first | with_reducible rfl | (simp; done) | split | with_reducible refine (foldl_inv _ _ _ _ (fun _ _ => ?_)).trans ?_ | (dsimp only; first | split | with_reducible refine (foldl_inv _ _ _ _ (fun _ _ => ?_)).trans ?_)))

@[simp] theorem State.takeReport_frame (s : State) (r : Report) :
    (s.takeReport r).now = s.now ∧ (s.takeReport r).phase = s.phase ∧ (s.takeReport r).pending = s.pending ∧
    (s.takeReport r).nodeOfs = s.nodeOfs ∧ (s.takeReport r).freeCtr = s.freeCtr ∧ (s.takeReport r).tx = s.tx ∧
    (s.takeReport r).tl = s.tl ∧ (s.takeReport r).sq = s.sq := by
  and_intros <;> (unfold State.takeReport; repeat' (first | with_reducible rfl | (simp; done) | split | with_reducible refine (foldl_inv _ _ _ _ (fun _ _ => ?_)).trans ?_ | (dsimp only; first | split | with_reducible refine (foldl_inv _ _ _ _ (fun _ _ => ?_)).trans ?_)))

@[simp] theorem State.takeReport_frame2 (s : State) (r : Report) :
    (s.takeReport r).fd = s.fd ∧ (s.takeReport r).ex = s.ex ∧ (s.takeReport r).sv = s.sv ∧ (s.takeReport r).ax = s.ax ∧
    (s.takeReport r).aq = s.aq ∧ (s.takeReport r).il = s.il ∧ (s.takeReport r).ln = s.ln ∧ (s.takeReport r).fl = s.fl := by
  and_intros <;> (unfold State.takeReport; repeat' (first | with_reducible rfl | (simp; done) | split | with_reducible refine (foldl_inv _ _ _ _ (fun _ _ => ?_)).trans ?_ | (dsimp only; first | split | with_reducible refine (foldl_inv _ _ _ _ (fun _ _ => ?_)).trans ?_)))

@[simp] theorem State.takeReport_frame3 (s : State) (r : Report) :
    (s.takeReport r).safe = s.safe ∧ (s.takeReport r).dm = s.dm ∧ (s.takeReport r).cm = s.cm ∧ (s.takeReport r).cf = s.cf ∧
    (s.takeReport r).pw = s.pw ∧ (s.takeReport r).th = s.th := by
  and_intros <;> (unfold State.takeReport; repeat' (first | with_reducible rfl | (simp; done) | split | with_reducible refine (foldl_inv _ _ _ _ (fun _ _ => ?_)).trans ?_ | (dsimp only; first | split | with_reducible refine (foldl_inv _ _ _ _ (fun _ _ => ?_)).trans ?_)))

@[simp] theorem State.sendEvent_frame (s : State) (who : Consumer) (n : Nat) (body : List Score) :
    (s.sendEvent who n body).now = s.now ∧ (s.sendEvent who n body).phase = s.phase ∧
    (s.sendEvent who n body).pending = s.pending ∧ (s.sendEvent who n body).nodeOfs = s.nodeOfs ∧
    (s.sendEvent who n body).freeCtr = s.freeCtr ∧ (s.sendEvent who n body).tl = s.tl ∧ (s.sendEvent who n body).sq = s.sq ∧
    (s.sendEvent who n body).fd = s.fd := by
  and_intros <;> (unfold State.sendEvent; repeat' (first | with_reducible rfl | (simp; done) | split | with_reducible refine (foldl_inv _ _ _ _ (fun _ _ => ?_)).trans ?_ | (dsimp only; first | split | with_reducible refine (foldl_inv _ _ _ _ (fun _ _ => ?_)).trans ?_)))

@[simp] theorem State.sendEvent_frame2 (s : State) (who : Consumer) (n : Nat) (body : List Score) :
    (s.sendEvent who n body).ex = s.ex ∧ (s.sendEvent who n body).sv = s.sv ∧ (s.sendEvent who n body).ax = s.ax ∧
    (s.sendEvent who n body).aq = s.aq ∧ (s.sendEvent who n body).il = s.il ∧ (s.sendEvent who n body).ln = s.ln ∧
    (s.sendEvent who n body).ev = s.ev ∧ (s.sendEvent who n body).safe = s.safe := by
  and_intros <;> (unfold State.sendEvent; repeat' (first | with_reducible rfl | (simp; done) | split | with_reducible refine (foldl_inv _ _ _ _ (fun _ _ => ?_)).trans ?_ | (dsimp only; first | split | with_reducible refine (foldl_inv _ _ _ _ (fun _ _ => ?_)).trans ?_)))

@[simp] theorem State.sendEvent_frame3 (s : State) (who : Consumer) (n : Nat) (body : List Score) :
    (s.sendEvent who n body).dm = s.dm ∧ (s.sendEvent who n body).cf = s.cf ∧ (s.sendEvent who n body).pw = s.pw ∧
    (s.sendEvent who n body).th = s.th := by
  and_intros <;> (unfold State.sendEvent; repeat' (first | with_reducible rfl | (simp; done) | split | with_reducible refine (foldl_inv _ _ _ _ (fun _ _ => ?_)).trans ?_ | (dsimp only; first | split | with_reducible refine (foldl_inv _ _ _ _ (fun _ _ => ?_)).trans ?_)))

@[simp] theorem State.deliverEvent_parts (s : State) (rs : List Report) :
    (s.deliverEvent rs).regs.setA = s.regs.setA ∧ (s.deliverEvent rs).regs.setB = s.regs.setB ∧
    (s.deliverEvent rs).regs.one = s.regs.one ∧ (s.deliverEvent rs).regs.rsvd = s.regs.rsvd ∧
    (s.deliverEvent rs).regs.waiting = s.regs.waiting ∧ (s.deliverEvent rs).regs.stale = s.regs.stale ∧
    (s.deliverEvent rs).regs.posted = s.regs.posted := by
  and_intros <;> (unfold State.deliverEvent; repeat' (first | with_reducible rfl | (simp; done) | split | with_reducible refine (State.regs_setA_foldl _ _ _ (fun _ _ => ?_)).trans ?_ | with_reducible refine (State.regs_setB_foldl _ _ _ (fun _ _ => ?_)).trans ?_ | with_reducible refine (State.regs_one_foldl _ _ _ (fun _ _ => ?_)).trans ?_ | with_reducible refine (State.regs_rsvd_foldl _ _ _ (fun _ _ => ?_)).trans ?_ | with_reducible refine (State.regs_waiting_foldl _ _ _ (fun _ _ => ?_)).trans ?_ | with_reducible refine (State.regs_stale_foldl _ _ _ (fun _ _ => ?_)).trans ?_ | with_reducible refine (State.regs_posted_foldl _ _ _ (fun _ _ => ?_)).trans ?_ | with_reducible refine (State.fd_mem_foldl _ _ _ (fun _ _ => ?_)).trans ?_ | with_reducible refine (State.dm_sram_foldl _ _ _ (fun _ _ => ?_)).trans ?_ | with_reducible refine (State.sq_frameNo_foldl _ _ _ (fun _ _ => ?_)).trans ?_ | with_reducible refine (State.sq_inScan_foldl _ _ _ (fun _ _ => ?_)).trans ?_ | with_reducible refine (State.sq_nextBoundary_foldl _ _ _ (fun _ _ => ?_)).trans ?_ | with_reducible refine (State.pw_gate_foldl _ _ _ (fun _ _ => ?_)).trans ?_ | (dsimp only; first | split | with_reducible refine (State.regs_setA_foldl _ _ _ (fun _ _ => ?_)).trans ?_ | with_reducible refine (State.regs_setB_foldl _ _ _ (fun _ _ => ?_)).trans ?_ | with_reducible refine (State.regs_one_foldl _ _ _ (fun _ _ => ?_)).trans ?_ | with_reducible refine (State.regs_rsvd_foldl _ _ _ (fun _ _ => ?_)).trans ?_ | with_reducible refine (State.regs_waiting_foldl _ _ _ (fun _ _ => ?_)).trans ?_ | with_reducible refine (State.regs_stale_foldl _ _ _ (fun _ _ => ?_)).trans ?_ | with_reducible refine (State.regs_posted_foldl _ _ _ (fun _ _ => ?_)).trans ?_ | with_reducible refine (State.fd_mem_foldl _ _ _ (fun _ _ => ?_)).trans ?_ | with_reducible refine (State.dm_sram_foldl _ _ _ (fun _ _ => ?_)).trans ?_ | with_reducible refine (State.sq_frameNo_foldl _ _ _ (fun _ _ => ?_)).trans ?_ | with_reducible refine (State.sq_inScan_foldl _ _ _ (fun _ _ => ?_)).trans ?_ | with_reducible refine (State.sq_nextBoundary_foldl _ _ _ (fun _ _ => ?_)).trans ?_ | with_reducible refine (State.pw_gate_foldl _ _ _ (fun _ _ => ?_)).trans ?_)))

@[simp] theorem State.closeMerge_parts (s : State) (w : EvWindow) :
    (s.closeMerge w).regs.setA = s.regs.setA ∧ (s.closeMerge w).regs.setB = s.regs.setB ∧
    (s.closeMerge w).regs.one = s.regs.one ∧ (s.closeMerge w).regs.rsvd = s.regs.rsvd ∧
    (s.closeMerge w).regs.waiting = s.regs.waiting ∧ (s.closeMerge w).regs.stale = s.regs.stale ∧
    (s.closeMerge w).regs.posted = s.regs.posted := by
  and_intros <;> (unfold State.closeMerge; repeat' (first | with_reducible rfl | (simp; done) | split | with_reducible refine (State.regs_setA_foldl _ _ _ (fun _ _ => ?_)).trans ?_ | with_reducible refine (State.regs_setB_foldl _ _ _ (fun _ _ => ?_)).trans ?_ | with_reducible refine (State.regs_one_foldl _ _ _ (fun _ _ => ?_)).trans ?_ | with_reducible refine (State.regs_rsvd_foldl _ _ _ (fun _ _ => ?_)).trans ?_ | with_reducible refine (State.regs_waiting_foldl _ _ _ (fun _ _ => ?_)).trans ?_ | with_reducible refine (State.regs_stale_foldl _ _ _ (fun _ _ => ?_)).trans ?_ | with_reducible refine (State.regs_posted_foldl _ _ _ (fun _ _ => ?_)).trans ?_ | with_reducible refine (State.fd_mem_foldl _ _ _ (fun _ _ => ?_)).trans ?_ | with_reducible refine (State.dm_sram_foldl _ _ _ (fun _ _ => ?_)).trans ?_ | with_reducible refine (State.sq_frameNo_foldl _ _ _ (fun _ _ => ?_)).trans ?_ | with_reducible refine (State.sq_inScan_foldl _ _ _ (fun _ _ => ?_)).trans ?_ | with_reducible refine (State.sq_nextBoundary_foldl _ _ _ (fun _ _ => ?_)).trans ?_ | with_reducible refine (State.pw_gate_foldl _ _ _ (fun _ _ => ?_)).trans ?_ | (dsimp only; first | split | with_reducible refine (State.regs_setA_foldl _ _ _ (fun _ _ => ?_)).trans ?_ | with_reducible refine (State.regs_setB_foldl _ _ _ (fun _ _ => ?_)).trans ?_ | with_reducible refine (State.regs_one_foldl _ _ _ (fun _ _ => ?_)).trans ?_ | with_reducible refine (State.regs_rsvd_foldl _ _ _ (fun _ _ => ?_)).trans ?_ | with_reducible refine (State.regs_waiting_foldl _ _ _ (fun _ _ => ?_)).trans ?_ | with_reducible refine (State.regs_stale_foldl _ _ _ (fun _ _ => ?_)).trans ?_ | with_reducible refine (State.regs_posted_foldl _ _ _ (fun _ _ => ?_)).trans ?_ | with_reducible refine (State.fd_mem_foldl _ _ _ (fun _ _ => ?_)).trans ?_ | with_reducible refine (State.dm_sram_foldl _ _ _ (fun _ _ => ?_)).trans ?_ | with_reducible refine (State.sq_frameNo_foldl _ _ _ (fun _ _ => ?_)).trans ?_ | with_reducible refine (State.sq_inScan_foldl _ _ _ (fun _ _ => ?_)).trans ?_ | with_reducible refine (State.sq_nextBoundary_foldl _ _ _ (fun _ _ => ?_)).trans ?_ | with_reducible refine (State.pw_gate_foldl _ _ _ (fun _ _ => ?_)).trans ?_)))

@[simp] theorem State.openMerge_parts (s : State) (r : Report) :
    (s.openMerge r).regs.setA = s.regs.setA ∧ (s.openMerge r).regs.setB = s.regs.setB ∧
    (s.openMerge r).regs.one = s.regs.one ∧ (s.openMerge r).regs.rsvd = s.regs.rsvd ∧
    (s.openMerge r).regs.waiting = s.regs.waiting ∧ (s.openMerge r).regs.stale = s.regs.stale ∧
    (s.openMerge r).regs.posted = s.regs.posted := by
  and_intros <;> (unfold State.openMerge; repeat' (first | with_reducible rfl | (simp; done) | split | with_reducible refine (State.regs_setA_foldl _ _ _ (fun _ _ => ?_)).trans ?_ | with_reducible refine (State.regs_setB_foldl _ _ _ (fun _ _ => ?_)).trans ?_ | with_reducible refine (State.regs_one_foldl _ _ _ (fun _ _ => ?_)).trans ?_ | with_reducible refine (State.regs_rsvd_foldl _ _ _ (fun _ _ => ?_)).trans ?_ | with_reducible refine (State.regs_waiting_foldl _ _ _ (fun _ _ => ?_)).trans ?_ | with_reducible refine (State.regs_stale_foldl _ _ _ (fun _ _ => ?_)).trans ?_ | with_reducible refine (State.regs_posted_foldl _ _ _ (fun _ _ => ?_)).trans ?_ | with_reducible refine (State.fd_mem_foldl _ _ _ (fun _ _ => ?_)).trans ?_ | with_reducible refine (State.dm_sram_foldl _ _ _ (fun _ _ => ?_)).trans ?_ | with_reducible refine (State.sq_frameNo_foldl _ _ _ (fun _ _ => ?_)).trans ?_ | with_reducible refine (State.sq_inScan_foldl _ _ _ (fun _ _ => ?_)).trans ?_ | with_reducible refine (State.sq_nextBoundary_foldl _ _ _ (fun _ _ => ?_)).trans ?_ | with_reducible refine (State.pw_gate_foldl _ _ _ (fun _ _ => ?_)).trans ?_ | (dsimp only; first | split | with_reducible refine (State.regs_setA_foldl _ _ _ (fun _ _ => ?_)).trans ?_ | with_reducible refine (State.regs_setB_foldl _ _ _ (fun _ _ => ?_)).trans ?_ | with_reducible refine (State.regs_one_foldl _ _ _ (fun _ _ => ?_)).trans ?_ | with_reducible refine (State.regs_rsvd_foldl _ _ _ (fun _ _ => ?_)).trans ?_ | with_reducible refine (State.regs_waiting_foldl _ _ _ (fun _ _ => ?_)).trans ?_ | with_reducible refine (State.regs_stale_foldl _ _ _ (fun _ _ => ?_)).trans ?_ | with_reducible refine (State.regs_posted_foldl _ _ _ (fun _ _ => ?_)).trans ?_ | with_reducible refine (State.fd_mem_foldl _ _ _ (fun _ _ => ?_)).trans ?_ | with_reducible refine (State.dm_sram_foldl _ _ _ (fun _ _ => ?_)).trans ?_ | with_reducible refine (State.sq_frameNo_foldl _ _ _ (fun _ _ => ?_)).trans ?_ | with_reducible refine (State.sq_inScan_foldl _ _ _ (fun _ _ => ?_)).trans ?_ | with_reducible refine (State.sq_nextBoundary_foldl _ _ _ (fun _ _ => ?_)).trans ?_ | with_reducible refine (State.pw_gate_foldl _ _ _ (fun _ _ => ?_)).trans ?_)))

@[simp] theorem State.takeReport_parts (s : State) (r : Report) :
    (s.takeReport r).regs.setA = s.regs.setA ∧ (s.takeReport r).regs.setB = s.regs.setB ∧
    (s.takeReport r).regs.one = s.regs.one ∧ (s.takeReport r).regs.rsvd = s.regs.rsvd ∧
    (s.takeReport r).regs.waiting = s.regs.waiting ∧ (s.takeReport r).regs.stale = s.regs.stale ∧
    (s.takeReport r).regs.posted = s.regs.posted := by
  and_intros <;> (unfold State.takeReport; repeat' (first | with_reducible rfl | (simp; done) | split | with_reducible refine (State.regs_setA_foldl _ _ _ (fun _ _ => ?_)).trans ?_ | with_reducible refine (State.regs_setB_foldl _ _ _ (fun _ _ => ?_)).trans ?_ | with_reducible refine (State.regs_one_foldl _ _ _ (fun _ _ => ?_)).trans ?_ | with_reducible refine (State.regs_rsvd_foldl _ _ _ (fun _ _ => ?_)).trans ?_ | with_reducible refine (State.regs_waiting_foldl _ _ _ (fun _ _ => ?_)).trans ?_ | with_reducible refine (State.regs_stale_foldl _ _ _ (fun _ _ => ?_)).trans ?_ | with_reducible refine (State.regs_posted_foldl _ _ _ (fun _ _ => ?_)).trans ?_ | with_reducible refine (State.fd_mem_foldl _ _ _ (fun _ _ => ?_)).trans ?_ | with_reducible refine (State.dm_sram_foldl _ _ _ (fun _ _ => ?_)).trans ?_ | with_reducible refine (State.sq_frameNo_foldl _ _ _ (fun _ _ => ?_)).trans ?_ | with_reducible refine (State.sq_inScan_foldl _ _ _ (fun _ _ => ?_)).trans ?_ | with_reducible refine (State.sq_nextBoundary_foldl _ _ _ (fun _ _ => ?_)).trans ?_ | with_reducible refine (State.pw_gate_foldl _ _ _ (fun _ _ => ?_)).trans ?_ | (dsimp only; first | split | with_reducible refine (State.regs_setA_foldl _ _ _ (fun _ _ => ?_)).trans ?_ | with_reducible refine (State.regs_setB_foldl _ _ _ (fun _ _ => ?_)).trans ?_ | with_reducible refine (State.regs_one_foldl _ _ _ (fun _ _ => ?_)).trans ?_ | with_reducible refine (State.regs_rsvd_foldl _ _ _ (fun _ _ => ?_)).trans ?_ | with_reducible refine (State.regs_waiting_foldl _ _ _ (fun _ _ => ?_)).trans ?_ | with_reducible refine (State.regs_stale_foldl _ _ _ (fun _ _ => ?_)).trans ?_ | with_reducible refine (State.regs_posted_foldl _ _ _ (fun _ _ => ?_)).trans ?_ | with_reducible refine (State.fd_mem_foldl _ _ _ (fun _ _ => ?_)).trans ?_ | with_reducible refine (State.dm_sram_foldl _ _ _ (fun _ _ => ?_)).trans ?_ | with_reducible refine (State.sq_frameNo_foldl _ _ _ (fun _ _ => ?_)).trans ?_ | with_reducible refine (State.sq_inScan_foldl _ _ _ (fun _ _ => ?_)).trans ?_ | with_reducible refine (State.sq_nextBoundary_foldl _ _ _ (fun _ _ => ?_)).trans ?_ | with_reducible refine (State.pw_gate_foldl _ _ _ (fun _ _ => ?_)).trans ?_)))

@[simp] theorem State.sendEvent_parts (s : State) (who : Consumer) (n : Nat) (body : List Score) :
    (s.sendEvent who n body).regs.setA = s.regs.setA ∧ (s.sendEvent who n body).regs.setB = s.regs.setB ∧
    (s.sendEvent who n body).regs.one = s.regs.one ∧ (s.sendEvent who n body).regs.rsvd = s.regs.rsvd ∧
    (s.sendEvent who n body).regs.waiting = s.regs.waiting ∧ (s.sendEvent who n body).regs.stale = s.regs.stale ∧
    (s.sendEvent who n body).regs.posted = s.regs.posted := by
  and_intros <;> (unfold State.sendEvent; repeat' (first | with_reducible rfl | (simp; done) | split | with_reducible refine (State.regs_setA_foldl _ _ _ (fun _ _ => ?_)).trans ?_ | with_reducible refine (State.regs_setB_foldl _ _ _ (fun _ _ => ?_)).trans ?_ | with_reducible refine (State.regs_one_foldl _ _ _ (fun _ _ => ?_)).trans ?_ | with_reducible refine (State.regs_rsvd_foldl _ _ _ (fun _ _ => ?_)).trans ?_ | with_reducible refine (State.regs_waiting_foldl _ _ _ (fun _ _ => ?_)).trans ?_ | with_reducible refine (State.regs_stale_foldl _ _ _ (fun _ _ => ?_)).trans ?_ | with_reducible refine (State.regs_posted_foldl _ _ _ (fun _ _ => ?_)).trans ?_ | with_reducible refine (State.fd_mem_foldl _ _ _ (fun _ _ => ?_)).trans ?_ | with_reducible refine (State.dm_sram_foldl _ _ _ (fun _ _ => ?_)).trans ?_ | with_reducible refine (State.sq_frameNo_foldl _ _ _ (fun _ _ => ?_)).trans ?_ | with_reducible refine (State.sq_inScan_foldl _ _ _ (fun _ _ => ?_)).trans ?_ | with_reducible refine (State.sq_nextBoundary_foldl _ _ _ (fun _ _ => ?_)).trans ?_ | with_reducible refine (State.pw_gate_foldl _ _ _ (fun _ _ => ?_)).trans ?_ | (dsimp only; first | split | with_reducible refine (State.regs_setA_foldl _ _ _ (fun _ _ => ?_)).trans ?_ | with_reducible refine (State.regs_setB_foldl _ _ _ (fun _ _ => ?_)).trans ?_ | with_reducible refine (State.regs_one_foldl _ _ _ (fun _ _ => ?_)).trans ?_ | with_reducible refine (State.regs_rsvd_foldl _ _ _ (fun _ _ => ?_)).trans ?_ | with_reducible refine (State.regs_waiting_foldl _ _ _ (fun _ _ => ?_)).trans ?_ | with_reducible refine (State.regs_stale_foldl _ _ _ (fun _ _ => ?_)).trans ?_ | with_reducible refine (State.regs_posted_foldl _ _ _ (fun _ _ => ?_)).trans ?_ | with_reducible refine (State.fd_mem_foldl _ _ _ (fun _ _ => ?_)).trans ?_ | with_reducible refine (State.dm_sram_foldl _ _ _ (fun _ _ => ?_)).trans ?_ | with_reducible refine (State.sq_frameNo_foldl _ _ _ (fun _ _ => ?_)).trans ?_ | with_reducible refine (State.sq_inScan_foldl _ _ _ (fun _ _ => ?_)).trans ?_ | with_reducible refine (State.sq_nextBoundary_foldl _ _ _ (fun _ _ => ?_)).trans ?_ | with_reducible refine (State.pw_gate_foldl _ _ _ (fun _ _ => ?_)).trans ?_)))

end Sys2Proof.Machine
end

