-- ==== Sys2Proof/Laws/FrameIslands.lean ====
section
/-!
SUPPORT. The frames of the operations of Machine/Islands.lean: the parts of the state that each of them leaves as they were.
-/

set_option linter.unusedTactic false
set_option linter.unreachableTactic false
set_option linter.unusedSimpArgs false

namespace Sys2Proof.Machine

@[simp] theorem State.evaluate_frame (s : State) (i : Nat) (mark : List Score) :
    (s.evaluate i mark).now = s.now ∧ (s.evaluate i mark).phase = s.phase ∧ (s.evaluate i mark).pending = s.pending ∧
    (s.evaluate i mark).nodeOfs = s.nodeOfs ∧ (s.evaluate i mark).freeCtr = s.freeCtr ∧ (s.evaluate i mark).tl = s.tl ∧
    (s.evaluate i mark).sq = s.sq ∧ (s.evaluate i mark).fd = s.fd := by
  and_intros <;> (unfold State.evaluate; repeat' (first | with_reducible rfl | (simp; done) | split | with_reducible refine (foldl_inv _ _ _ _ (fun _ _ => ?_)).trans ?_ | (dsimp only; first | split | with_reducible refine (foldl_inv _ _ _ _ (fun _ _ => ?_)).trans ?_)))

@[simp] theorem State.evaluate_frame2 (s : State) (i : Nat) (mark : List Score) :
    (s.evaluate i mark).ex = s.ex ∧ (s.evaluate i mark).sv = s.sv ∧ (s.evaluate i mark).ax = s.ax ∧
    (s.evaluate i mark).aq = s.aq ∧ (s.evaluate i mark).il = s.il ∧ (s.evaluate i mark).ln = s.ln ∧
    (s.evaluate i mark).dm = s.dm ∧ (s.evaluate i mark).cm = s.cm := by
  and_intros <;> (unfold State.evaluate; repeat' (first | with_reducible rfl | (simp; done) | split | with_reducible refine (foldl_inv _ _ _ _ (fun _ _ => ?_)).trans ?_ | (dsimp only; first | split | with_reducible refine (foldl_inv _ _ _ _ (fun _ _ => ?_)).trans ?_)))

@[simp] theorem State.evaluate_frame3 (s : State) (i : Nat) (mark : List Score) :
    (s.evaluate i mark).cf = s.cf ∧ (s.evaluate i mark).pw = s.pw ∧ (s.evaluate i mark).th = s.th := by
  and_intros <;> (unfold State.evaluate; repeat' (first | with_reducible rfl | (simp; done) | split | with_reducible refine (foldl_inv _ _ _ _ (fun _ _ => ?_)).trans ?_ | (dsimp only; first | split | with_reducible refine (foldl_inv _ _ _ _ (fun _ _ => ?_)).trans ?_)))

@[simp] theorem State.showEval_frame (s : State) (both : Bool) (n : Nat) (e : ChanEval) :
    (s.showEval both n e).now = s.now ∧ (s.showEval both n e).phase = s.phase ∧ (s.showEval both n e).pending = s.pending ∧
    (s.showEval both n e).nodeOfs = s.nodeOfs ∧ (s.showEval both n e).freeCtr = s.freeCtr ∧ (s.showEval both n e).tx = s.tx ∧
    (s.showEval both n e).tl = s.tl ∧ (s.showEval both n e).sq = s.sq := by
  and_intros <;> (unfold State.showEval; repeat' (first | with_reducible rfl | (simp; done) | split | with_reducible refine (foldl_inv _ _ _ _ (fun _ _ => ?_)).trans ?_ | (dsimp only; first | split | with_reducible refine (foldl_inv _ _ _ _ (fun _ _ => ?_)).trans ?_)))

@[simp] theorem State.showEval_frame2 (s : State) (both : Bool) (n : Nat) (e : ChanEval) :
    (s.showEval both n e).fd = s.fd ∧ (s.showEval both n e).ex = s.ex ∧ (s.showEval both n e).sv = s.sv ∧
    (s.showEval both n e).ax = s.ax ∧ (s.showEval both n e).aq = s.aq ∧ (s.showEval both n e).il = s.il ∧
    (s.showEval both n e).ln = s.ln ∧ (s.showEval both n e).fl = s.fl := by
  and_intros <;> (unfold State.showEval; repeat' (first | with_reducible rfl | (simp; done) | split | with_reducible refine (foldl_inv _ _ _ _ (fun _ _ => ?_)).trans ?_ | (dsimp only; first | split | with_reducible refine (foldl_inv _ _ _ _ (fun _ _ => ?_)).trans ?_)))

@[simp] theorem State.showEval_frame3 (s : State) (both : Bool) (n : Nat) (e : ChanEval) :
    (s.showEval both n e).ev = s.ev ∧ (s.showEval both n e).dm = s.dm ∧ (s.showEval both n e).cm = s.cm ∧
    (s.showEval both n e).cf = s.cf ∧ (s.showEval both n e).pw = s.pw ∧ (s.showEval both n e).th = s.th := by
  and_intros <;> (unfold State.showEval; repeat' (first | with_reducible rfl | (simp; done) | split | with_reducible refine (foldl_inv _ _ _ _ (fun _ _ => ?_)).trans ?_ | (dsimp only; first | split | with_reducible refine (foldl_inv _ _ _ _ (fun _ _ => ?_)).trans ?_)))

@[simp] theorem State.safeReset_frame (s : State) (may : Nat → Bool) :
    (s.safeReset may).now = s.now ∧ (s.safeReset may).phase = s.phase ∧ (s.safeReset may).pending = s.pending ∧
    (s.safeReset may).nodeOfs = s.nodeOfs ∧ (s.safeReset may).freeCtr = s.freeCtr ∧ (s.safeReset may).tl = s.tl ∧
    (s.safeReset may).sq = s.sq ∧ (s.safeReset may).fd = s.fd := by
  and_intros <;> (unfold State.safeReset; repeat' (first | with_reducible rfl | (simp; done) | split | with_reducible refine (foldl_inv _ _ _ _ (fun _ _ => ?_)).trans ?_ | (dsimp only; first | split | with_reducible refine (foldl_inv _ _ _ _ (fun _ _ => ?_)).trans ?_)))

@[simp] theorem State.safeReset_frame2 (s : State) (may : Nat → Bool) :
    (s.safeReset may).ex = s.ex ∧ (s.safeReset may).sv = s.sv ∧ (s.safeReset may).ax = s.ax ∧ (s.safeReset may).aq = s.aq ∧
    (s.safeReset may).il = s.il ∧ (s.safeReset may).ln = s.ln ∧ (s.safeReset may).dm = s.dm ∧ (s.safeReset may).cm = s.cm := by
  and_intros <;> (unfold State.safeReset; repeat' (first | with_reducible rfl | (simp; done) | split | with_reducible refine (foldl_inv _ _ _ _ (fun _ _ => ?_)).trans ?_ | (dsimp only; first | split | with_reducible refine (foldl_inv _ _ _ _ (fun _ _ => ?_)).trans ?_)))

@[simp] theorem State.safeReset_frame3 (s : State) (may : Nat → Bool) :
    (s.safeReset may).cf = s.cf ∧ (s.safeReset may).pw = s.pw ∧ (s.safeReset may).th = s.th := by
  and_intros <;> (unfold State.safeReset; repeat' (first | with_reducible rfl | (simp; done) | split | with_reducible refine (foldl_inv _ _ _ _ (fun _ _ => ?_)).trans ?_ | (dsimp only; first | split | with_reducible refine (foldl_inv _ _ _ _ (fun _ _ => ?_)).trans ?_)))

@[simp] theorem State.setSlot_frame (s : State) (k : Nat) (x : FslRx) :
    (s.setSlot k x).now = s.now ∧ (s.setSlot k x).phase = s.phase ∧ (s.setSlot k x).pending = s.pending ∧
    (s.setSlot k x).nodeOfs = s.nodeOfs ∧ (s.setSlot k x).freeCtr = s.freeCtr ∧ (s.setSlot k x).tx = s.tx ∧
    (s.setSlot k x).regs = s.regs ∧ (s.setSlot k x).tl = s.tl := by
  and_intros <;> (unfold State.setSlot; repeat' (first | with_reducible rfl | (simp; done) | split | with_reducible refine (foldl_inv _ _ _ _ (fun _ _ => ?_)).trans ?_ | (dsimp only; first | split | with_reducible refine (foldl_inv _ _ _ _ (fun _ _ => ?_)).trans ?_)))

@[simp] theorem State.setSlot_frame2 (s : State) (k : Nat) (x : FslRx) :
    (s.setSlot k x).sq = s.sq ∧ (s.setSlot k x).fd = s.fd ∧ (s.setSlot k x).ex = s.ex ∧ (s.setSlot k x).sv = s.sv ∧
    (s.setSlot k x).ax = s.ax ∧ (s.setSlot k x).aq = s.aq ∧ (s.setSlot k x).il = s.il ∧ (s.setSlot k x).ln = s.ln := by
  and_intros <;> (unfold State.setSlot; repeat' (first | with_reducible rfl | (simp; done) | split | with_reducible refine (foldl_inv _ _ _ _ (fun _ _ => ?_)).trans ?_ | (dsimp only; first | split | with_reducible refine (foldl_inv _ _ _ _ (fun _ _ => ?_)).trans ?_)))

@[simp] theorem State.setSlot_frame3 (s : State) (k : Nat) (x : FslRx) :
    (s.setSlot k x).fl = s.fl ∧ (s.setSlot k x).ev = s.ev ∧ (s.setSlot k x).dm = s.dm ∧ (s.setSlot k x).cm = s.cm ∧
    (s.setSlot k x).cf = s.cf ∧ (s.setSlot k x).pw = s.pw ∧ (s.setSlot k x).th = s.th := by
  and_intros <;> (unfold State.setSlot; repeat' (first | with_reducible rfl | (simp; done) | split | with_reducible refine (foldl_inv _ _ _ _ (fun _ _ => ?_)).trans ?_ | (dsimp only; first | split | with_reducible refine (foldl_inv _ _ _ _ (fun _ _ => ?_)).trans ?_)))

@[simp] theorem State.slotFail_frame (s : State) (k : Nat) :
    (s.slotFail k).now = s.now ∧ (s.slotFail k).phase = s.phase ∧ (s.slotFail k).pending = s.pending ∧
    (s.slotFail k).nodeOfs = s.nodeOfs ∧ (s.slotFail k).freeCtr = s.freeCtr ∧ (s.slotFail k).tl = s.tl ∧
    (s.slotFail k).sq = s.sq ∧ (s.slotFail k).fd = s.fd := by
  and_intros <;> (unfold State.slotFail; repeat' (first | with_reducible rfl | (simp; done) | split | with_reducible refine (foldl_inv _ _ _ _ (fun _ _ => ?_)).trans ?_ | (dsimp only; first | split | with_reducible refine (foldl_inv _ _ _ _ (fun _ _ => ?_)).trans ?_)))

@[simp] theorem State.slotFail_frame2 (s : State) (k : Nat) :
    (s.slotFail k).ex = s.ex ∧ (s.slotFail k).sv = s.sv ∧ (s.slotFail k).ax = s.ax ∧ (s.slotFail k).aq = s.aq ∧
    (s.slotFail k).il = s.il ∧ (s.slotFail k).ln = s.ln ∧ (s.slotFail k).dm = s.dm ∧ (s.slotFail k).cm = s.cm := by
  and_intros <;> (unfold State.slotFail; repeat' (first | with_reducible rfl | (simp; done) | split | with_reducible refine (foldl_inv _ _ _ _ (fun _ _ => ?_)).trans ?_ | (dsimp only; first | split | with_reducible refine (foldl_inv _ _ _ _ (fun _ _ => ?_)).trans ?_)))

@[simp] theorem State.slotFail_frame3 (s : State) (k : Nat) :
    (s.slotFail k).cf = s.cf ∧ (s.slotFail k).pw = s.pw ∧ (s.slotFail k).th = s.th := by
  and_intros <;> (unfold State.slotFail; repeat' (first | with_reducible rfl | (simp; done) | split | with_reducible refine (foldl_inv _ _ _ _ (fun _ _ => ?_)).trans ?_ | (dsimp only; first | split | with_reducible refine (foldl_inv _ _ _ _ (fun _ _ => ?_)).trans ?_)))

@[simp] theorem State.fslReject_frame (s : State) (k err seq : Nat) :
    (s.fslReject k err seq).now = s.now ∧ (s.fslReject k err seq).phase = s.phase ∧
    (s.fslReject k err seq).pending = s.pending ∧ (s.fslReject k err seq).nodeOfs = s.nodeOfs ∧
    (s.fslReject k err seq).freeCtr = s.freeCtr ∧ (s.fslReject k err seq).tl = s.tl ∧ (s.fslReject k err seq).sq = s.sq ∧
    (s.fslReject k err seq).fd = s.fd := by
  and_intros <;> (unfold State.fslReject; repeat' (first | with_reducible rfl | (simp; done) | split | with_reducible refine (foldl_inv _ _ _ _ (fun _ _ => ?_)).trans ?_ | (dsimp only; first | split | with_reducible refine (foldl_inv _ _ _ _ (fun _ _ => ?_)).trans ?_)))

@[simp] theorem State.fslReject_frame2 (s : State) (k err seq : Nat) :
    (s.fslReject k err seq).ex = s.ex ∧ (s.fslReject k err seq).sv = s.sv ∧ (s.fslReject k err seq).ax = s.ax ∧
    (s.fslReject k err seq).aq = s.aq ∧ (s.fslReject k err seq).il = s.il ∧ (s.fslReject k err seq).ln = s.ln ∧
    (s.fslReject k err seq).dm = s.dm ∧ (s.fslReject k err seq).cm = s.cm := by
  and_intros <;> (unfold State.fslReject; repeat' (first | with_reducible rfl | (simp; done) | split | with_reducible refine (foldl_inv _ _ _ _ (fun _ _ => ?_)).trans ?_ | (dsimp only; first | split | with_reducible refine (foldl_inv _ _ _ _ (fun _ _ => ?_)).trans ?_)))

@[simp] theorem State.fslReject_frame3 (s : State) (k err seq : Nat) :
    (s.fslReject k err seq).cf = s.cf ∧ (s.fslReject k err seq).pw = s.pw ∧ (s.fslReject k err seq).th = s.th := by
  and_intros <;> (unfold State.fslReject; repeat' (first | with_reducible rfl | (simp; done) | split | with_reducible refine (foldl_inv _ _ _ _ (fun _ _ => ?_)).trans ?_ | (dsimp only; first | split | with_reducible refine (foldl_inv _ _ _ _ (fun _ _ => ?_)).trans ?_)))

@[simp] theorem State.fslAccept_frame (s : State) (k : Nat) (m : FslMsg) :
    (s.fslAccept k m).now = s.now ∧ (s.fslAccept k m).phase = s.phase ∧ (s.fslAccept k m).pending = s.pending ∧
    (s.fslAccept k m).nodeOfs = s.nodeOfs ∧ (s.fslAccept k m).freeCtr = s.freeCtr ∧ (s.fslAccept k m).tl = s.tl ∧
    (s.fslAccept k m).sq = s.sq ∧ (s.fslAccept k m).fd = s.fd := by
  and_intros <;> (unfold State.fslAccept; repeat' (first | with_reducible rfl | (simp; done) | split | with_reducible refine (foldl_inv _ _ _ _ (fun _ _ => ?_)).trans ?_ | (dsimp only; first | split | with_reducible refine (foldl_inv _ _ _ _ (fun _ _ => ?_)).trans ?_)))

@[simp] theorem State.fslAccept_frame2 (s : State) (k : Nat) (m : FslMsg) :
    (s.fslAccept k m).ex = s.ex ∧ (s.fslAccept k m).sv = s.sv ∧ (s.fslAccept k m).ax = s.ax ∧ (s.fslAccept k m).aq = s.aq ∧
    (s.fslAccept k m).il = s.il ∧ (s.fslAccept k m).ln = s.ln ∧ (s.fslAccept k m).dm = s.dm ∧ (s.fslAccept k m).cm = s.cm := by
  and_intros <;> (unfold State.fslAccept; repeat' (first | with_reducible rfl | (simp; done) | split | with_reducible refine (foldl_inv _ _ _ _ (fun _ _ => ?_)).trans ?_ | (dsimp only; first | split | with_reducible refine (foldl_inv _ _ _ _ (fun _ _ => ?_)).trans ?_)))

@[simp] theorem State.fslAccept_frame3 (s : State) (k : Nat) (m : FslMsg) :
    (s.fslAccept k m).cf = s.cf ∧ (s.fslAccept k m).pw = s.pw ∧ (s.fslAccept k m).th = s.th := by
  and_intros <;> (unfold State.fslAccept; repeat' (first | with_reducible rfl | (simp; done) | split | with_reducible refine (foldl_inv _ _ _ _ (fun _ _ => ?_)).trans ?_ | (dsimp only; first | split | with_reducible refine (foldl_inv _ _ _ _ (fun _ _ => ?_)).trans ?_)))

@[simp] theorem State.fslMode_frame (s : State) (k : Nat) (m : FslMsg) :
    (s.fslMode k m).now = s.now ∧ (s.fslMode k m).phase = s.phase ∧ (s.fslMode k m).pending = s.pending ∧
    (s.fslMode k m).nodeOfs = s.nodeOfs ∧ (s.fslMode k m).freeCtr = s.freeCtr ∧ (s.fslMode k m).tx = s.tx ∧
    (s.fslMode k m).tl = s.tl ∧ (s.fslMode k m).sq = s.sq := by
  and_intros <;> (unfold State.fslMode; repeat' (first | with_reducible rfl | (simp; done) | split | with_reducible refine (foldl_inv _ _ _ _ (fun _ _ => ?_)).trans ?_ | (dsimp only; first | split | with_reducible refine (foldl_inv _ _ _ _ (fun _ _ => ?_)).trans ?_)))

@[simp] theorem State.fslMode_frame2 (s : State) (k : Nat) (m : FslMsg) :
    (s.fslMode k m).fd = s.fd ∧ (s.fslMode k m).ex = s.ex ∧ (s.fslMode k m).sv = s.sv ∧ (s.fslMode k m).ax = s.ax ∧
    (s.fslMode k m).aq = s.aq ∧ (s.fslMode k m).il = s.il ∧ (s.fslMode k m).ln = s.ln ∧ (s.fslMode k m).fl = s.fl := by
  and_intros <;> (unfold State.fslMode; repeat' (first | with_reducible rfl | (simp; done) | split | with_reducible refine (foldl_inv _ _ _ _ (fun _ _ => ?_)).trans ?_ | (dsimp only; first | split | with_reducible refine (foldl_inv _ _ _ _ (fun _ _ => ?_)).trans ?_)))

@[simp] theorem State.fslMode_frame3 (s : State) (k : Nat) (m : FslMsg) :
    (s.fslMode k m).ev = s.ev ∧ (s.fslMode k m).dm = s.dm ∧ (s.fslMode k m).cm = s.cm ∧ (s.fslMode k m).cf = s.cf ∧
    (s.fslMode k m).pw = s.pw ∧ (s.fslMode k m).th = s.th := by
  and_intros <;> (unfold State.fslMode; repeat' (first | with_reducible rfl | (simp; done) | split | with_reducible refine (foldl_inv _ _ _ _ (fun _ _ => ?_)).trans ?_ | (dsimp only; first | split | with_reducible refine (foldl_inv _ _ _ _ (fun _ _ => ?_)).trans ?_)))

@[simp] theorem State.loadSafety_frame (s : State) (t : Tab Score) (ref : Nat) :
    (s.loadSafety t ref).now = s.now ∧ (s.loadSafety t ref).phase = s.phase ∧ (s.loadSafety t ref).pending = s.pending ∧
    (s.loadSafety t ref).nodeOfs = s.nodeOfs ∧ (s.loadSafety t ref).freeCtr = s.freeCtr ∧ (s.loadSafety t ref).tl = s.tl ∧
    (s.loadSafety t ref).sq = s.sq ∧ (s.loadSafety t ref).fd = s.fd := by
  and_intros <;> (unfold State.loadSafety; repeat' (first | with_reducible rfl | (simp; done) | split | with_reducible refine (foldl_inv _ _ _ _ (fun _ _ => ?_)).trans ?_ | (dsimp only; first | split | with_reducible refine (foldl_inv _ _ _ _ (fun _ _ => ?_)).trans ?_)))

@[simp] theorem State.loadSafety_frame2 (s : State) (t : Tab Score) (ref : Nat) :
    (s.loadSafety t ref).ex = s.ex ∧ (s.loadSafety t ref).sv = s.sv ∧ (s.loadSafety t ref).ax = s.ax ∧
    (s.loadSafety t ref).aq = s.aq ∧ (s.loadSafety t ref).il = s.il ∧ (s.loadSafety t ref).ln = s.ln ∧
    (s.loadSafety t ref).dm = s.dm ∧ (s.loadSafety t ref).cm = s.cm := by
  and_intros <;> (unfold State.loadSafety; repeat' (first | with_reducible rfl | (simp; done) | split | with_reducible refine (foldl_inv _ _ _ _ (fun _ _ => ?_)).trans ?_ | (dsimp only; first | split | with_reducible refine (foldl_inv _ _ _ _ (fun _ _ => ?_)).trans ?_)))

@[simp] theorem State.loadSafety_frame3 (s : State) (t : Tab Score) (ref : Nat) :
    (s.loadSafety t ref).cf = s.cf ∧ (s.loadSafety t ref).pw = s.pw ∧ (s.loadSafety t ref).th = s.th := by
  and_intros <;> (unfold State.loadSafety; repeat' (first | with_reducible rfl | (simp; done) | split | with_reducible refine (foldl_inv _ _ _ _ (fun _ _ => ?_)).trans ?_ | (dsimp only; first | split | with_reducible refine (foldl_inv _ _ _ _ (fun _ _ => ?_)).trans ?_)))

@[simp] theorem State.frameReport_frame (s : State) :
    (s.frameReport).now = s.now ∧ (s.frameReport).phase = s.phase ∧ (s.frameReport).pending = s.pending ∧
    (s.frameReport).nodeOfs = s.nodeOfs ∧ (s.frameReport).freeCtr = s.freeCtr ∧ (s.frameReport).tx = s.tx ∧
    (s.frameReport).regs = s.regs ∧ (s.frameReport).tl = s.tl := by
  and_intros <;> (unfold State.frameReport; repeat' (first | with_reducible rfl | (simp; done) | split | with_reducible refine (foldl_inv _ _ _ _ (fun _ _ => ?_)).trans ?_ | (dsimp only; first | split | with_reducible refine (foldl_inv _ _ _ _ (fun _ _ => ?_)).trans ?_)))

@[simp] theorem State.frameReport_frame2 (s : State) :
    (s.frameReport).sq = s.sq ∧ (s.frameReport).fd = s.fd ∧ (s.frameReport).ex = s.ex ∧ (s.frameReport).sv = s.sv ∧
    (s.frameReport).ax = s.ax ∧ (s.frameReport).aq = s.aq ∧ (s.frameReport).il = s.il ∧ (s.frameReport).ln = s.ln := by
  and_intros <;> (unfold State.frameReport; repeat' (first | with_reducible rfl | (simp; done) | split | with_reducible refine (foldl_inv _ _ _ _ (fun _ _ => ?_)).trans ?_ | (dsimp only; first | split | with_reducible refine (foldl_inv _ _ _ _ (fun _ _ => ?_)).trans ?_)))

@[simp] theorem State.frameReport_frame3 (s : State) :
    (s.frameReport).fl = s.fl ∧ (s.frameReport).ev = s.ev ∧ (s.frameReport).dm = s.dm ∧ (s.frameReport).cm = s.cm ∧
    (s.frameReport).cf = s.cf ∧ (s.frameReport).pw = s.pw ∧ (s.frameReport).th = s.th := by
  and_intros <;> (unfold State.frameReport; repeat' (first | with_reducible rfl | (simp; done) | split | with_reducible refine (foldl_inv _ _ _ _ (fun _ _ => ?_)).trans ?_ | (dsimp only; first | split | with_reducible refine (foldl_inv _ _ _ _ (fun _ _ => ?_)).trans ?_)))

@[simp] theorem State.evaluate_parts (s : State) (i : Nat) (mark : List Score) :
    (s.evaluate i mark).regs.setA = s.regs.setA ∧ (s.evaluate i mark).regs.setB = s.regs.setB ∧
    (s.evaluate i mark).regs.one = s.regs.one ∧ (s.evaluate i mark).regs.rsvd = s.regs.rsvd ∧
    (s.evaluate i mark).regs.waiting = s.regs.waiting ∧ (s.evaluate i mark).regs.stale = s.regs.stale ∧
    (s.evaluate i mark).regs.posted = s.regs.posted := by
  and_intros <;> (unfold State.evaluate; repeat' (first | with_reducible rfl | (simp; done) | split | with_reducible refine (State.regs_setA_foldl _ _ _ (fun _ _ => ?_)).trans ?_ | with_reducible refine (State.regs_setB_foldl _ _ _ (fun _ _ => ?_)).trans ?_ | with_reducible refine (State.regs_one_foldl _ _ _ (fun _ _ => ?_)).trans ?_ | with_reducible refine (State.regs_rsvd_foldl _ _ _ (fun _ _ => ?_)).trans ?_ | with_reducible refine (State.regs_waiting_foldl _ _ _ (fun _ _ => ?_)).trans ?_ | with_reducible refine (State.regs_stale_foldl _ _ _ (fun _ _ => ?_)).trans ?_ | with_reducible refine (State.regs_posted_foldl _ _ _ (fun _ _ => ?_)).trans ?_ | with_reducible refine (State.fd_mem_foldl _ _ _ (fun _ _ => ?_)).trans ?_ | with_reducible refine (State.dm_sram_foldl _ _ _ (fun _ _ => ?_)).trans ?_ | with_reducible refine (State.sq_frameNo_foldl _ _ _ (fun _ _ => ?_)).trans ?_ | with_reducible refine (State.sq_inScan_foldl _ _ _ (fun _ _ => ?_)).trans ?_ | with_reducible refine (State.sq_nextBoundary_foldl _ _ _ (fun _ _ => ?_)).trans ?_ | with_reducible refine (State.pw_gate_foldl _ _ _ (fun _ _ => ?_)).trans ?_ | (dsimp only; first | split | with_reducible refine (State.regs_setA_foldl _ _ _ (fun _ _ => ?_)).trans ?_ | with_reducible refine (State.regs_setB_foldl _ _ _ (fun _ _ => ?_)).trans ?_ | with_reducible refine (State.regs_one_foldl _ _ _ (fun _ _ => ?_)).trans ?_ | with_reducible refine (State.regs_rsvd_foldl _ _ _ (fun _ _ => ?_)).trans ?_ | with_reducible refine (State.regs_waiting_foldl _ _ _ (fun _ _ => ?_)).trans ?_ | with_reducible refine (State.regs_stale_foldl _ _ _ (fun _ _ => ?_)).trans ?_ | with_reducible refine (State.regs_posted_foldl _ _ _ (fun _ _ => ?_)).trans ?_ | with_reducible refine (State.fd_mem_foldl _ _ _ (fun _ _ => ?_)).trans ?_ | with_reducible refine (State.dm_sram_foldl _ _ _ (fun _ _ => ?_)).trans ?_ | with_reducible refine (State.sq_frameNo_foldl _ _ _ (fun _ _ => ?_)).trans ?_ | with_reducible refine (State.sq_inScan_foldl _ _ _ (fun _ _ => ?_)).trans ?_ | with_reducible refine (State.sq_nextBoundary_foldl _ _ _ (fun _ _ => ?_)).trans ?_ | with_reducible refine (State.pw_gate_foldl _ _ _ (fun _ _ => ?_)).trans ?_)))

@[simp] theorem State.showEval_parts (s : State) (both : Bool) (n : Nat) (e : ChanEval) :
    (s.showEval both n e).regs.setA = s.regs.setA ∧ (s.showEval both n e).regs.setB = s.regs.setB ∧
    (s.showEval both n e).regs.one = s.regs.one ∧ (s.showEval both n e).regs.rsvd = s.regs.rsvd ∧
    (s.showEval both n e).regs.waiting = s.regs.waiting ∧ (s.showEval both n e).regs.stale = s.regs.stale ∧
    (s.showEval both n e).regs.posted = s.regs.posted := by
  and_intros <;> (unfold State.showEval; repeat' (first | with_reducible rfl | (simp; done) | split | with_reducible refine (State.regs_setA_foldl _ _ _ (fun _ _ => ?_)).trans ?_ | with_reducible refine (State.regs_setB_foldl _ _ _ (fun _ _ => ?_)).trans ?_ | with_reducible refine (State.regs_one_foldl _ _ _ (fun _ _ => ?_)).trans ?_ | with_reducible refine (State.regs_rsvd_foldl _ _ _ (fun _ _ => ?_)).trans ?_ | with_reducible refine (State.regs_waiting_foldl _ _ _ (fun _ _ => ?_)).trans ?_ | with_reducible refine (State.regs_stale_foldl _ _ _ (fun _ _ => ?_)).trans ?_ | with_reducible refine (State.regs_posted_foldl _ _ _ (fun _ _ => ?_)).trans ?_ | with_reducible refine (State.fd_mem_foldl _ _ _ (fun _ _ => ?_)).trans ?_ | with_reducible refine (State.dm_sram_foldl _ _ _ (fun _ _ => ?_)).trans ?_ | with_reducible refine (State.sq_frameNo_foldl _ _ _ (fun _ _ => ?_)).trans ?_ | with_reducible refine (State.sq_inScan_foldl _ _ _ (fun _ _ => ?_)).trans ?_ | with_reducible refine (State.sq_nextBoundary_foldl _ _ _ (fun _ _ => ?_)).trans ?_ | with_reducible refine (State.pw_gate_foldl _ _ _ (fun _ _ => ?_)).trans ?_ | (dsimp only; first | split | with_reducible refine (State.regs_setA_foldl _ _ _ (fun _ _ => ?_)).trans ?_ | with_reducible refine (State.regs_setB_foldl _ _ _ (fun _ _ => ?_)).trans ?_ | with_reducible refine (State.regs_one_foldl _ _ _ (fun _ _ => ?_)).trans ?_ | with_reducible refine (State.regs_rsvd_foldl _ _ _ (fun _ _ => ?_)).trans ?_ | with_reducible refine (State.regs_waiting_foldl _ _ _ (fun _ _ => ?_)).trans ?_ | with_reducible refine (State.regs_stale_foldl _ _ _ (fun _ _ => ?_)).trans ?_ | with_reducible refine (State.regs_posted_foldl _ _ _ (fun _ _ => ?_)).trans ?_ | with_reducible refine (State.fd_mem_foldl _ _ _ (fun _ _ => ?_)).trans ?_ | with_reducible refine (State.dm_sram_foldl _ _ _ (fun _ _ => ?_)).trans ?_ | with_reducible refine (State.sq_frameNo_foldl _ _ _ (fun _ _ => ?_)).trans ?_ | with_reducible refine (State.sq_inScan_foldl _ _ _ (fun _ _ => ?_)).trans ?_ | with_reducible refine (State.sq_nextBoundary_foldl _ _ _ (fun _ _ => ?_)).trans ?_ | with_reducible refine (State.pw_gate_foldl _ _ _ (fun _ _ => ?_)).trans ?_)))

@[simp] theorem State.safeReset_parts (s : State) (may : Nat → Bool) :
    (s.safeReset may).regs.setA = s.regs.setA ∧ (s.safeReset may).regs.setB = s.regs.setB ∧
    (s.safeReset may).regs.one = s.regs.one ∧ (s.safeReset may).regs.rsvd = s.regs.rsvd ∧
    (s.safeReset may).regs.waiting = s.regs.waiting ∧ (s.safeReset may).regs.stale = s.regs.stale ∧
    (s.safeReset may).regs.posted = s.regs.posted := by
  and_intros <;> (unfold State.safeReset; repeat' (first | with_reducible rfl | (simp; done) | split | with_reducible refine (State.regs_setA_foldl _ _ _ (fun _ _ => ?_)).trans ?_ | with_reducible refine (State.regs_setB_foldl _ _ _ (fun _ _ => ?_)).trans ?_ | with_reducible refine (State.regs_one_foldl _ _ _ (fun _ _ => ?_)).trans ?_ | with_reducible refine (State.regs_rsvd_foldl _ _ _ (fun _ _ => ?_)).trans ?_ | with_reducible refine (State.regs_waiting_foldl _ _ _ (fun _ _ => ?_)).trans ?_ | with_reducible refine (State.regs_stale_foldl _ _ _ (fun _ _ => ?_)).trans ?_ | with_reducible refine (State.regs_posted_foldl _ _ _ (fun _ _ => ?_)).trans ?_ | with_reducible refine (State.fd_mem_foldl _ _ _ (fun _ _ => ?_)).trans ?_ | with_reducible refine (State.dm_sram_foldl _ _ _ (fun _ _ => ?_)).trans ?_ | with_reducible refine (State.sq_frameNo_foldl _ _ _ (fun _ _ => ?_)).trans ?_ | with_reducible refine (State.sq_inScan_foldl _ _ _ (fun _ _ => ?_)).trans ?_ | with_reducible refine (State.sq_nextBoundary_foldl _ _ _ (fun _ _ => ?_)).trans ?_ | with_reducible refine (State.pw_gate_foldl _ _ _ (fun _ _ => ?_)).trans ?_ | (dsimp only; first | split | with_reducible refine (State.regs_setA_foldl _ _ _ (fun _ _ => ?_)).trans ?_ | with_reducible refine (State.regs_setB_foldl _ _ _ (fun _ _ => ?_)).trans ?_ | with_reducible refine (State.regs_one_foldl _ _ _ (fun _ _ => ?_)).trans ?_ | with_reducible refine (State.regs_rsvd_foldl _ _ _ (fun _ _ => ?_)).trans ?_ | with_reducible refine (State.regs_waiting_foldl _ _ _ (fun _ _ => ?_)).trans ?_ | with_reducible refine (State.regs_stale_foldl _ _ _ (fun _ _ => ?_)).trans ?_ | with_reducible refine (State.regs_posted_foldl _ _ _ (fun _ _ => ?_)).trans ?_ | with_reducible refine (State.fd_mem_foldl _ _ _ (fun _ _ => ?_)).trans ?_ | with_reducible refine (State.dm_sram_foldl _ _ _ (fun _ _ => ?_)).trans ?_ | with_reducible refine (State.sq_frameNo_foldl _ _ _ (fun _ _ => ?_)).trans ?_ | with_reducible refine (State.sq_inScan_foldl _ _ _ (fun _ _ => ?_)).trans ?_ | with_reducible refine (State.sq_nextBoundary_foldl _ _ _ (fun _ _ => ?_)).trans ?_ | with_reducible refine (State.pw_gate_foldl _ _ _ (fun _ _ => ?_)).trans ?_)))

@[simp] theorem State.slotFail_parts (s : State) (k : Nat) :
    (s.slotFail k).regs.setA = s.regs.setA ∧ (s.slotFail k).regs.setB = s.regs.setB ∧ (s.slotFail k).regs.one = s.regs.one ∧
    (s.slotFail k).regs.rsvd = s.regs.rsvd ∧ (s.slotFail k).regs.waiting = s.regs.waiting ∧
    (s.slotFail k).regs.stale = s.regs.stale ∧ (s.slotFail k).regs.posted = s.regs.posted := by
  and_intros <;> (unfold State.slotFail; repeat' (first | with_reducible rfl | (simp; done) | split | with_reducible refine (State.regs_setA_foldl _ _ _ (fun _ _ => ?_)).trans ?_ | with_reducible refine (State.regs_setB_foldl _ _ _ (fun _ _ => ?_)).trans ?_ | with_reducible refine (State.regs_one_foldl _ _ _ (fun _ _ => ?_)).trans ?_ | with_reducible refine (State.regs_rsvd_foldl _ _ _ (fun _ _ => ?_)).trans ?_ | with_reducible refine (State.regs_waiting_foldl _ _ _ (fun _ _ => ?_)).trans ?_ | with_reducible refine (State.regs_stale_foldl _ _ _ (fun _ _ => ?_)).trans ?_ | with_reducible refine (State.regs_posted_foldl _ _ _ (fun _ _ => ?_)).trans ?_ | with_reducible refine (State.fd_mem_foldl _ _ _ (fun _ _ => ?_)).trans ?_ | with_reducible refine (State.dm_sram_foldl _ _ _ (fun _ _ => ?_)).trans ?_ | with_reducible refine (State.sq_frameNo_foldl _ _ _ (fun _ _ => ?_)).trans ?_ | with_reducible refine (State.sq_inScan_foldl _ _ _ (fun _ _ => ?_)).trans ?_ | with_reducible refine (State.sq_nextBoundary_foldl _ _ _ (fun _ _ => ?_)).trans ?_ | with_reducible refine (State.pw_gate_foldl _ _ _ (fun _ _ => ?_)).trans ?_ | (dsimp only; first | split | with_reducible refine (State.regs_setA_foldl _ _ _ (fun _ _ => ?_)).trans ?_ | with_reducible refine (State.regs_setB_foldl _ _ _ (fun _ _ => ?_)).trans ?_ | with_reducible refine (State.regs_one_foldl _ _ _ (fun _ _ => ?_)).trans ?_ | with_reducible refine (State.regs_rsvd_foldl _ _ _ (fun _ _ => ?_)).trans ?_ | with_reducible refine (State.regs_waiting_foldl _ _ _ (fun _ _ => ?_)).trans ?_ | with_reducible refine (State.regs_stale_foldl _ _ _ (fun _ _ => ?_)).trans ?_ | with_reducible refine (State.regs_posted_foldl _ _ _ (fun _ _ => ?_)).trans ?_ | with_reducible refine (State.fd_mem_foldl _ _ _ (fun _ _ => ?_)).trans ?_ | with_reducible refine (State.dm_sram_foldl _ _ _ (fun _ _ => ?_)).trans ?_ | with_reducible refine (State.sq_frameNo_foldl _ _ _ (fun _ _ => ?_)).trans ?_ | with_reducible refine (State.sq_inScan_foldl _ _ _ (fun _ _ => ?_)).trans ?_ | with_reducible refine (State.sq_nextBoundary_foldl _ _ _ (fun _ _ => ?_)).trans ?_ | with_reducible refine (State.pw_gate_foldl _ _ _ (fun _ _ => ?_)).trans ?_)))

@[simp] theorem State.fslReject_parts (s : State) (k err seq : Nat) :
    (s.fslReject k err seq).regs.setA = s.regs.setA ∧ (s.fslReject k err seq).regs.setB = s.regs.setB ∧
    (s.fslReject k err seq).regs.one = s.regs.one ∧ (s.fslReject k err seq).regs.rsvd = s.regs.rsvd ∧
    (s.fslReject k err seq).regs.waiting = s.regs.waiting ∧ (s.fslReject k err seq).regs.stale = s.regs.stale ∧
    (s.fslReject k err seq).regs.posted = s.regs.posted := by
  and_intros <;> (unfold State.fslReject; repeat' (first | with_reducible rfl | (simp; done) | split | with_reducible refine (State.regs_setA_foldl _ _ _ (fun _ _ => ?_)).trans ?_ | with_reducible refine (State.regs_setB_foldl _ _ _ (fun _ _ => ?_)).trans ?_ | with_reducible refine (State.regs_one_foldl _ _ _ (fun _ _ => ?_)).trans ?_ | with_reducible refine (State.regs_rsvd_foldl _ _ _ (fun _ _ => ?_)).trans ?_ | with_reducible refine (State.regs_waiting_foldl _ _ _ (fun _ _ => ?_)).trans ?_ | with_reducible refine (State.regs_stale_foldl _ _ _ (fun _ _ => ?_)).trans ?_ | with_reducible refine (State.regs_posted_foldl _ _ _ (fun _ _ => ?_)).trans ?_ | with_reducible refine (State.fd_mem_foldl _ _ _ (fun _ _ => ?_)).trans ?_ | with_reducible refine (State.dm_sram_foldl _ _ _ (fun _ _ => ?_)).trans ?_ | with_reducible refine (State.sq_frameNo_foldl _ _ _ (fun _ _ => ?_)).trans ?_ | with_reducible refine (State.sq_inScan_foldl _ _ _ (fun _ _ => ?_)).trans ?_ | with_reducible refine (State.sq_nextBoundary_foldl _ _ _ (fun _ _ => ?_)).trans ?_ | with_reducible refine (State.pw_gate_foldl _ _ _ (fun _ _ => ?_)).trans ?_ | (dsimp only; first | split | with_reducible refine (State.regs_setA_foldl _ _ _ (fun _ _ => ?_)).trans ?_ | with_reducible refine (State.regs_setB_foldl _ _ _ (fun _ _ => ?_)).trans ?_ | with_reducible refine (State.regs_one_foldl _ _ _ (fun _ _ => ?_)).trans ?_ | with_reducible refine (State.regs_rsvd_foldl _ _ _ (fun _ _ => ?_)).trans ?_ | with_reducible refine (State.regs_waiting_foldl _ _ _ (fun _ _ => ?_)).trans ?_ | with_reducible refine (State.regs_stale_foldl _ _ _ (fun _ _ => ?_)).trans ?_ | with_reducible refine (State.regs_posted_foldl _ _ _ (fun _ _ => ?_)).trans ?_ | with_reducible refine (State.fd_mem_foldl _ _ _ (fun _ _ => ?_)).trans ?_ | with_reducible refine (State.dm_sram_foldl _ _ _ (fun _ _ => ?_)).trans ?_ | with_reducible refine (State.sq_frameNo_foldl _ _ _ (fun _ _ => ?_)).trans ?_ | with_reducible refine (State.sq_inScan_foldl _ _ _ (fun _ _ => ?_)).trans ?_ | with_reducible refine (State.sq_nextBoundary_foldl _ _ _ (fun _ _ => ?_)).trans ?_ | with_reducible refine (State.pw_gate_foldl _ _ _ (fun _ _ => ?_)).trans ?_)))

@[simp] theorem State.fslAccept_parts (s : State) (k : Nat) (m : FslMsg) :
    (s.fslAccept k m).regs.setA = s.regs.setA ∧ (s.fslAccept k m).regs.setB = s.regs.setB ∧
    (s.fslAccept k m).regs.one = s.regs.one ∧ (s.fslAccept k m).regs.rsvd = s.regs.rsvd ∧
    (s.fslAccept k m).regs.waiting = s.regs.waiting ∧ (s.fslAccept k m).regs.stale = s.regs.stale ∧
    (s.fslAccept k m).regs.posted = s.regs.posted := by
  and_intros <;> (unfold State.fslAccept; repeat' (first | with_reducible rfl | (simp; done) | split | with_reducible refine (State.regs_setA_foldl _ _ _ (fun _ _ => ?_)).trans ?_ | with_reducible refine (State.regs_setB_foldl _ _ _ (fun _ _ => ?_)).trans ?_ | with_reducible refine (State.regs_one_foldl _ _ _ (fun _ _ => ?_)).trans ?_ | with_reducible refine (State.regs_rsvd_foldl _ _ _ (fun _ _ => ?_)).trans ?_ | with_reducible refine (State.regs_waiting_foldl _ _ _ (fun _ _ => ?_)).trans ?_ | with_reducible refine (State.regs_stale_foldl _ _ _ (fun _ _ => ?_)).trans ?_ | with_reducible refine (State.regs_posted_foldl _ _ _ (fun _ _ => ?_)).trans ?_ | with_reducible refine (State.fd_mem_foldl _ _ _ (fun _ _ => ?_)).trans ?_ | with_reducible refine (State.dm_sram_foldl _ _ _ (fun _ _ => ?_)).trans ?_ | with_reducible refine (State.sq_frameNo_foldl _ _ _ (fun _ _ => ?_)).trans ?_ | with_reducible refine (State.sq_inScan_foldl _ _ _ (fun _ _ => ?_)).trans ?_ | with_reducible refine (State.sq_nextBoundary_foldl _ _ _ (fun _ _ => ?_)).trans ?_ | with_reducible refine (State.pw_gate_foldl _ _ _ (fun _ _ => ?_)).trans ?_ | (dsimp only; first | split | with_reducible refine (State.regs_setA_foldl _ _ _ (fun _ _ => ?_)).trans ?_ | with_reducible refine (State.regs_setB_foldl _ _ _ (fun _ _ => ?_)).trans ?_ | with_reducible refine (State.regs_one_foldl _ _ _ (fun _ _ => ?_)).trans ?_ | with_reducible refine (State.regs_rsvd_foldl _ _ _ (fun _ _ => ?_)).trans ?_ | with_reducible refine (State.regs_waiting_foldl _ _ _ (fun _ _ => ?_)).trans ?_ | with_reducible refine (State.regs_stale_foldl _ _ _ (fun _ _ => ?_)).trans ?_ | with_reducible refine (State.regs_posted_foldl _ _ _ (fun _ _ => ?_)).trans ?_ | with_reducible refine (State.fd_mem_foldl _ _ _ (fun _ _ => ?_)).trans ?_ | with_reducible refine (State.dm_sram_foldl _ _ _ (fun _ _ => ?_)).trans ?_ | with_reducible refine (State.sq_frameNo_foldl _ _ _ (fun _ _ => ?_)).trans ?_ | with_reducible refine (State.sq_inScan_foldl _ _ _ (fun _ _ => ?_)).trans ?_ | with_reducible refine (State.sq_nextBoundary_foldl _ _ _ (fun _ _ => ?_)).trans ?_ | with_reducible refine (State.pw_gate_foldl _ _ _ (fun _ _ => ?_)).trans ?_)))

@[simp] theorem State.fslMode_parts (s : State) (k : Nat) (m : FslMsg) :
    (s.fslMode k m).regs.setA = s.regs.setA ∧ (s.fslMode k m).regs.setB = s.regs.setB ∧
    (s.fslMode k m).regs.one = s.regs.one ∧ (s.fslMode k m).regs.rsvd = s.regs.rsvd ∧
    (s.fslMode k m).regs.waiting = s.regs.waiting ∧ (s.fslMode k m).regs.stale = s.regs.stale ∧
    (s.fslMode k m).regs.posted = s.regs.posted := by
  and_intros <;> (unfold State.fslMode; repeat' (first | with_reducible rfl | (simp; done) | split | with_reducible refine (State.regs_setA_foldl _ _ _ (fun _ _ => ?_)).trans ?_ | with_reducible refine (State.regs_setB_foldl _ _ _ (fun _ _ => ?_)).trans ?_ | with_reducible refine (State.regs_one_foldl _ _ _ (fun _ _ => ?_)).trans ?_ | with_reducible refine (State.regs_rsvd_foldl _ _ _ (fun _ _ => ?_)).trans ?_ | with_reducible refine (State.regs_waiting_foldl _ _ _ (fun _ _ => ?_)).trans ?_ | with_reducible refine (State.regs_stale_foldl _ _ _ (fun _ _ => ?_)).trans ?_ | with_reducible refine (State.regs_posted_foldl _ _ _ (fun _ _ => ?_)).trans ?_ | with_reducible refine (State.fd_mem_foldl _ _ _ (fun _ _ => ?_)).trans ?_ | with_reducible refine (State.dm_sram_foldl _ _ _ (fun _ _ => ?_)).trans ?_ | with_reducible refine (State.sq_frameNo_foldl _ _ _ (fun _ _ => ?_)).trans ?_ | with_reducible refine (State.sq_inScan_foldl _ _ _ (fun _ _ => ?_)).trans ?_ | with_reducible refine (State.sq_nextBoundary_foldl _ _ _ (fun _ _ => ?_)).trans ?_ | with_reducible refine (State.pw_gate_foldl _ _ _ (fun _ _ => ?_)).trans ?_ | (dsimp only; first | split | with_reducible refine (State.regs_setA_foldl _ _ _ (fun _ _ => ?_)).trans ?_ | with_reducible refine (State.regs_setB_foldl _ _ _ (fun _ _ => ?_)).trans ?_ | with_reducible refine (State.regs_one_foldl _ _ _ (fun _ _ => ?_)).trans ?_ | with_reducible refine (State.regs_rsvd_foldl _ _ _ (fun _ _ => ?_)).trans ?_ | with_reducible refine (State.regs_waiting_foldl _ _ _ (fun _ _ => ?_)).trans ?_ | with_reducible refine (State.regs_stale_foldl _ _ _ (fun _ _ => ?_)).trans ?_ | with_reducible refine (State.regs_posted_foldl _ _ _ (fun _ _ => ?_)).trans ?_ | with_reducible refine (State.fd_mem_foldl _ _ _ (fun _ _ => ?_)).trans ?_ | with_reducible refine (State.dm_sram_foldl _ _ _ (fun _ _ => ?_)).trans ?_ | with_reducible refine (State.sq_frameNo_foldl _ _ _ (fun _ _ => ?_)).trans ?_ | with_reducible refine (State.sq_inScan_foldl _ _ _ (fun _ _ => ?_)).trans ?_ | with_reducible refine (State.sq_nextBoundary_foldl _ _ _ (fun _ _ => ?_)).trans ?_ | with_reducible refine (State.pw_gate_foldl _ _ _ (fun _ _ => ?_)).trans ?_)))

@[simp] theorem State.loadSafety_parts (s : State) (t : Tab Score) (ref : Nat) :
    (s.loadSafety t ref).regs.setA = s.regs.setA ∧ (s.loadSafety t ref).regs.setB = s.regs.setB ∧
    (s.loadSafety t ref).regs.one = s.regs.one ∧ (s.loadSafety t ref).regs.rsvd = s.regs.rsvd ∧
    (s.loadSafety t ref).regs.waiting = s.regs.waiting ∧ (s.loadSafety t ref).regs.stale = s.regs.stale ∧
    (s.loadSafety t ref).regs.posted = s.regs.posted := by
  and_intros <;> (unfold State.loadSafety; repeat' (first | with_reducible rfl | (simp; done) | split | with_reducible refine (State.regs_setA_foldl _ _ _ (fun _ _ => ?_)).trans ?_ | with_reducible refine (State.regs_setB_foldl _ _ _ (fun _ _ => ?_)).trans ?_ | with_reducible refine (State.regs_one_foldl _ _ _ (fun _ _ => ?_)).trans ?_ | with_reducible refine (State.regs_rsvd_foldl _ _ _ (fun _ _ => ?_)).trans ?_ | with_reducible refine (State.regs_waiting_foldl _ _ _ (fun _ _ => ?_)).trans ?_ | with_reducible refine (State.regs_stale_foldl _ _ _ (fun _ _ => ?_)).trans ?_ | with_reducible refine (State.regs_posted_foldl _ _ _ (fun _ _ => ?_)).trans ?_ | with_reducible refine (State.fd_mem_foldl _ _ _ (fun _ _ => ?_)).trans ?_ | with_reducible refine (State.dm_sram_foldl _ _ _ (fun _ _ => ?_)).trans ?_ | with_reducible refine (State.sq_frameNo_foldl _ _ _ (fun _ _ => ?_)).trans ?_ | with_reducible refine (State.sq_inScan_foldl _ _ _ (fun _ _ => ?_)).trans ?_ | with_reducible refine (State.sq_nextBoundary_foldl _ _ _ (fun _ _ => ?_)).trans ?_ | with_reducible refine (State.pw_gate_foldl _ _ _ (fun _ _ => ?_)).trans ?_ | (dsimp only; first | split | with_reducible refine (State.regs_setA_foldl _ _ _ (fun _ _ => ?_)).trans ?_ | with_reducible refine (State.regs_setB_foldl _ _ _ (fun _ _ => ?_)).trans ?_ | with_reducible refine (State.regs_one_foldl _ _ _ (fun _ _ => ?_)).trans ?_ | with_reducible refine (State.regs_rsvd_foldl _ _ _ (fun _ _ => ?_)).trans ?_ | with_reducible refine (State.regs_waiting_foldl _ _ _ (fun _ _ => ?_)).trans ?_ | with_reducible refine (State.regs_stale_foldl _ _ _ (fun _ _ => ?_)).trans ?_ | with_reducible refine (State.regs_posted_foldl _ _ _ (fun _ _ => ?_)).trans ?_ | with_reducible refine (State.fd_mem_foldl _ _ _ (fun _ _ => ?_)).trans ?_ | with_reducible refine (State.dm_sram_foldl _ _ _ (fun _ _ => ?_)).trans ?_ | with_reducible refine (State.sq_frameNo_foldl _ _ _ (fun _ _ => ?_)).trans ?_ | with_reducible refine (State.sq_inScan_foldl _ _ _ (fun _ _ => ?_)).trans ?_ | with_reducible refine (State.sq_nextBoundary_foldl _ _ _ (fun _ _ => ?_)).trans ?_ | with_reducible refine (State.pw_gate_foldl _ _ _ (fun _ _ => ?_)).trans ?_)))

end Sys2Proof.Machine
end

