-- ==== Sys2Proof/Laws/FrameRegRead.lean ====
section
/-!
SUPPORT. The frames of the operations of Machine/RegRead.lean: the parts of the state that each of them leaves as they were.
-/

set_option linter.unusedTactic false
set_option linter.unreachableTactic false
set_option linter.unusedSimpArgs false

namespace Sys2Proof.Machine

@[simp] theorem State.uptimeRead_frame (s : State) :
    (s.uptimeRead).now = s.now ∧ (s.uptimeRead).phase = s.phase ∧ (s.uptimeRead).pending = s.pending ∧
    (s.uptimeRead).nodeOfs = s.nodeOfs ∧ (s.uptimeRead).freeCtr = s.freeCtr ∧ (s.uptimeRead).tx = s.tx ∧
    (s.uptimeRead).tl = s.tl ∧ (s.uptimeRead).sq = s.sq := by
  and_intros <;> (unfold State.uptimeRead; repeat' (first | with_reducible rfl | (simp; done) | split | with_reducible refine (foldl_inv _ _ _ _ (fun _ _ => ?_)).trans ?_ | (dsimp only; first | split | with_reducible refine (foldl_inv _ _ _ _ (fun _ _ => ?_)).trans ?_)))

@[simp] theorem State.uptimeRead_frame2 (s : State) :
    (s.uptimeRead).fd = s.fd ∧ (s.uptimeRead).ex = s.ex ∧ (s.uptimeRead).sv = s.sv ∧ (s.uptimeRead).ax = s.ax ∧
    (s.uptimeRead).aq = s.aq ∧ (s.uptimeRead).il = s.il ∧ (s.uptimeRead).ln = s.ln ∧ (s.uptimeRead).fl = s.fl := by
  and_intros <;> (unfold State.uptimeRead; repeat' (first | with_reducible rfl | (simp; done) | split | with_reducible refine (foldl_inv _ _ _ _ (fun _ _ => ?_)).trans ?_ | (dsimp only; first | split | with_reducible refine (foldl_inv _ _ _ _ (fun _ _ => ?_)).trans ?_)))

@[simp] theorem State.uptimeRead_frame3 (s : State) :
    (s.uptimeRead).ev = s.ev ∧ (s.uptimeRead).safe = s.safe ∧ (s.uptimeRead).dm = s.dm ∧ (s.uptimeRead).cm = s.cm ∧
    (s.uptimeRead).cf = s.cf ∧ (s.uptimeRead).pw = s.pw ∧ (s.uptimeRead).th = s.th := by
  and_intros <;> (unfold State.uptimeRead; repeat' (first | with_reducible rfl | (simp; done) | split | with_reducible refine (foldl_inv _ _ _ _ (fun _ _ => ?_)).trans ?_ | (dsimp only; first | split | with_reducible refine (foldl_inv _ _ _ _ (fun _ _ => ?_)).trans ?_)))

@[simp] theorem State.uptimeRead_parts (s : State) :
    (s.uptimeRead).regs.setA = s.regs.setA ∧ (s.uptimeRead).regs.setB = s.regs.setB ∧ (s.uptimeRead).regs.one = s.regs.one ∧
    (s.uptimeRead).regs.rsvd = s.regs.rsvd ∧ (s.uptimeRead).regs.waiting = s.regs.waiting ∧
    (s.uptimeRead).regs.stale = s.regs.stale ∧ (s.uptimeRead).regs.posted = s.regs.posted := by
  and_intros <;> (unfold State.uptimeRead; repeat' (first | with_reducible rfl | (simp; done) | split | with_reducible refine (State.regs_setA_foldl _ _ _ (fun _ _ => ?_)).trans ?_ | with_reducible refine (State.regs_setB_foldl _ _ _ (fun _ _ => ?_)).trans ?_ | with_reducible refine (State.regs_one_foldl _ _ _ (fun _ _ => ?_)).trans ?_ | with_reducible refine (State.regs_rsvd_foldl _ _ _ (fun _ _ => ?_)).trans ?_ | with_reducible refine (State.regs_waiting_foldl _ _ _ (fun _ _ => ?_)).trans ?_ | with_reducible refine (State.regs_stale_foldl _ _ _ (fun _ _ => ?_)).trans ?_ | with_reducible refine (State.regs_posted_foldl _ _ _ (fun _ _ => ?_)).trans ?_ | with_reducible refine (State.fd_mem_foldl _ _ _ (fun _ _ => ?_)).trans ?_ | with_reducible refine (State.dm_sram_foldl _ _ _ (fun _ _ => ?_)).trans ?_ | with_reducible refine (State.sq_frameNo_foldl _ _ _ (fun _ _ => ?_)).trans ?_ | with_reducible refine (State.sq_inScan_foldl _ _ _ (fun _ _ => ?_)).trans ?_ | with_reducible refine (State.sq_nextBoundary_foldl _ _ _ (fun _ _ => ?_)).trans ?_ | with_reducible refine (State.pw_gate_foldl _ _ _ (fun _ _ => ?_)).trans ?_ | (dsimp only; first | split | with_reducible refine (State.regs_setA_foldl _ _ _ (fun _ _ => ?_)).trans ?_ | with_reducible refine (State.regs_setB_foldl _ _ _ (fun _ _ => ?_)).trans ?_ | with_reducible refine (State.regs_one_foldl _ _ _ (fun _ _ => ?_)).trans ?_ | with_reducible refine (State.regs_rsvd_foldl _ _ _ (fun _ _ => ?_)).trans ?_ | with_reducible refine (State.regs_waiting_foldl _ _ _ (fun _ _ => ?_)).trans ?_ | with_reducible refine (State.regs_stale_foldl _ _ _ (fun _ _ => ?_)).trans ?_ | with_reducible refine (State.regs_posted_foldl _ _ _ (fun _ _ => ?_)).trans ?_ | with_reducible refine (State.fd_mem_foldl _ _ _ (fun _ _ => ?_)).trans ?_ | with_reducible refine (State.dm_sram_foldl _ _ _ (fun _ _ => ?_)).trans ?_ | with_reducible refine (State.sq_frameNo_foldl _ _ _ (fun _ _ => ?_)).trans ?_ | with_reducible refine (State.sq_inScan_foldl _ _ _ (fun _ _ => ?_)).trans ?_ | with_reducible refine (State.sq_nextBoundary_foldl _ _ _ (fun _ _ => ?_)).trans ?_ | with_reducible refine (State.pw_gate_foldl _ _ _ (fun _ _ => ?_)).trans ?_)))

end Sys2Proof.Machine
end

