-- ==== Sys2Proof/Laws/FrameDma.lean ====
section
/-!
SUPPORT. The frames of the operations of Machine/Dma.lean: the parts of the state that each of them leaves as they were.
-/

set_option linter.unusedTactic false
set_option linter.unreachableTactic false
set_option linter.unusedSimpArgs false

namespace Sys2Proof.Machine

@[simp] theorem State.sendBytes_frame (s : State) (q : Nat) (bytes : List (BitVec 8)) (last : Bool) :
    (s.sendBytes q bytes last).now = s.now ∧ (s.sendBytes q bytes last).phase = s.phase ∧
    (s.sendBytes q bytes last).pending = s.pending ∧ (s.sendBytes q bytes last).nodeOfs = s.nodeOfs ∧
    (s.sendBytes q bytes last).freeCtr = s.freeCtr ∧ (s.sendBytes q bytes last).tl = s.tl ∧
    (s.sendBytes q bytes last).sq = s.sq ∧ (s.sendBytes q bytes last).fd = s.fd := by
  and_intros <;> (unfold State.sendBytes; repeat' (first | with_reducible rfl | (simp; done) | split | with_reducible refine (foldl_inv _ _ _ _ (fun _ _ => ?_)).trans ?_ | (dsimp only; first | split | with_reducible refine (foldl_inv _ _ _ _ (fun _ _ => ?_)).trans ?_)))

@[simp] theorem State.sendBytes_frame2 (s : State) (q : Nat) (bytes : List (BitVec 8)) (last : Bool) :
    (s.sendBytes q bytes last).ex = s.ex ∧ (s.sendBytes q bytes last).sv = s.sv ∧ (s.sendBytes q bytes last).ax = s.ax ∧
    (s.sendBytes q bytes last).aq = s.aq ∧ (s.sendBytes q bytes last).il = s.il ∧ (s.sendBytes q bytes last).ln = s.ln ∧
    (s.sendBytes q bytes last).fl = s.fl ∧ (s.sendBytes q bytes last).ev = s.ev := by
  and_intros <;> (unfold State.sendBytes; repeat' (first | with_reducible rfl | (simp; done) | split | with_reducible refine (foldl_inv _ _ _ _ (fun _ _ => ?_)).trans ?_ | (dsimp only; first | split | with_reducible refine (foldl_inv _ _ _ _ (fun _ _ => ?_)).trans ?_)))

@[simp] theorem State.sendBytes_frame3 (s : State) (q : Nat) (bytes : List (BitVec 8)) (last : Bool) :
    (s.sendBytes q bytes last).safe = s.safe ∧ (s.sendBytes q bytes last).cm = s.cm ∧ (s.sendBytes q bytes last).cf = s.cf ∧
    (s.sendBytes q bytes last).pw = s.pw ∧ (s.sendBytes q bytes last).th = s.th := by
  and_intros <;> (unfold State.sendBytes; repeat' (first | with_reducible rfl | (simp; done) | split | with_reducible refine (foldl_inv _ _ _ _ (fun _ _ => ?_)).trans ?_ | (dsimp only; first | split | with_reducible refine (foldl_inv _ _ _ _ (fun _ _ => ?_)).trans ?_)))

@[simp] theorem State.lastBytes_frame (s : State) (q ch : Nat) :
    (s.lastBytes q ch).now = s.now ∧ (s.lastBytes q ch).phase = s.phase ∧ (s.lastBytes q ch).pending = s.pending ∧
    (s.lastBytes q ch).nodeOfs = s.nodeOfs ∧ (s.lastBytes q ch).freeCtr = s.freeCtr ∧ (s.lastBytes q ch).tl = s.tl ∧
    (s.lastBytes q ch).sq = s.sq ∧ (s.lastBytes q ch).fd = s.fd := by
  and_intros <;> (unfold State.lastBytes; repeat' (first | with_reducible rfl | (simp; done) | split | with_reducible refine (foldl_inv _ _ _ _ (fun _ _ => ?_)).trans ?_ | (dsimp only; first | split | with_reducible refine (foldl_inv _ _ _ _ (fun _ _ => ?_)).trans ?_)))

@[simp] theorem State.lastBytes_frame2 (s : State) (q ch : Nat) :
    (s.lastBytes q ch).ex = s.ex ∧ (s.lastBytes q ch).sv = s.sv ∧ (s.lastBytes q ch).ax = s.ax ∧
    (s.lastBytes q ch).aq = s.aq ∧ (s.lastBytes q ch).il = s.il ∧ (s.lastBytes q ch).ln = s.ln ∧
    (s.lastBytes q ch).fl = s.fl ∧ (s.lastBytes q ch).ev = s.ev := by
  and_intros <;> (unfold State.lastBytes; repeat' (first | with_reducible rfl | (simp; done) | split | with_reducible refine (foldl_inv _ _ _ _ (fun _ _ => ?_)).trans ?_ | (dsimp only; first | split | with_reducible refine (foldl_inv _ _ _ _ (fun _ _ => ?_)).trans ?_)))

@[simp] theorem State.lastBytes_frame3 (s : State) (q ch : Nat) :
    (s.lastBytes q ch).safe = s.safe ∧ (s.lastBytes q ch).cm = s.cm ∧ (s.lastBytes q ch).cf = s.cf ∧
    (s.lastBytes q ch).pw = s.pw ∧ (s.lastBytes q ch).th = s.th := by
  and_intros <;> (unfold State.lastBytes; repeat' (first | with_reducible rfl | (simp; done) | split | with_reducible refine (foldl_inv _ _ _ _ (fun _ _ => ?_)).trans ?_ | (dsimp only; first | split | with_reducible refine (foldl_inv _ _ _ _ (fun _ _ => ?_)).trans ?_)))

@[simp] theorem State.dmaEnd_frame (s : State) (ch err : Nat) :
    (s.dmaEnd ch err).now = s.now ∧ (s.dmaEnd ch err).phase = s.phase ∧ (s.dmaEnd ch err).pending = s.pending ∧
    (s.dmaEnd ch err).nodeOfs = s.nodeOfs ∧ (s.dmaEnd ch err).freeCtr = s.freeCtr ∧ (s.dmaEnd ch err).tx = s.tx ∧
    (s.dmaEnd ch err).tl = s.tl ∧ (s.dmaEnd ch err).sq = s.sq := by
  and_intros <;> (unfold State.dmaEnd; repeat' (first | with_reducible rfl | (simp; done) | split | with_reducible refine (foldl_inv _ _ _ _ (fun _ _ => ?_)).trans ?_ | (dsimp only; first | split | with_reducible refine (foldl_inv _ _ _ _ (fun _ _ => ?_)).trans ?_)))

@[simp] theorem State.dmaEnd_frame2 (s : State) (ch err : Nat) :
    (s.dmaEnd ch err).fd = s.fd ∧ (s.dmaEnd ch err).ex = s.ex ∧ (s.dmaEnd ch err).sv = s.sv ∧ (s.dmaEnd ch err).ax = s.ax ∧
    (s.dmaEnd ch err).aq = s.aq ∧ (s.dmaEnd ch err).il = s.il ∧ (s.dmaEnd ch err).ln = s.ln ∧ (s.dmaEnd ch err).fl = s.fl := by
  and_intros <;> (unfold State.dmaEnd; repeat' (first | with_reducible rfl | (simp; done) | split | with_reducible refine (foldl_inv _ _ _ _ (fun _ _ => ?_)).trans ?_ | (dsimp only; first | split | with_reducible refine (foldl_inv _ _ _ _ (fun _ _ => ?_)).trans ?_)))

@[simp] theorem State.dmaEnd_frame3 (s : State) (ch err : Nat) :
    (s.dmaEnd ch err).safe = s.safe ∧ (s.dmaEnd ch err).cm = s.cm ∧ (s.dmaEnd ch err).cf = s.cf ∧
    (s.dmaEnd ch err).pw = s.pw ∧ (s.dmaEnd ch err).th = s.th := by
  and_intros <;> (unfold State.dmaEnd; repeat' (first | with_reducible rfl | (simp; done) | split | with_reducible refine (foldl_inv _ _ _ _ (fun _ _ => ?_)).trans ?_ | (dsimp only; first | split | with_reducible refine (foldl_inv _ _ _ _ (fun _ _ => ?_)).trans ?_)))

@[simp] theorem State.dmaStart_frame (s : State) (ch : Nat) :
    (s.dmaStart ch).now = s.now ∧ (s.dmaStart ch).phase = s.phase ∧ (s.dmaStart ch).pending = s.pending ∧
    (s.dmaStart ch).nodeOfs = s.nodeOfs ∧ (s.dmaStart ch).freeCtr = s.freeCtr ∧ (s.dmaStart ch).tx = s.tx ∧
    (s.dmaStart ch).tl = s.tl ∧ (s.dmaStart ch).sq = s.sq := by
  and_intros <;> (unfold State.dmaStart; repeat' (first | with_reducible rfl | (simp; done) | split | with_reducible refine (foldl_inv _ _ _ _ (fun _ _ => ?_)).trans ?_ | (dsimp only; first | split | with_reducible refine (foldl_inv _ _ _ _ (fun _ _ => ?_)).trans ?_)))

@[simp] theorem State.dmaStart_frame2 (s : State) (ch : Nat) :
    (s.dmaStart ch).fd = s.fd ∧ (s.dmaStart ch).ex = s.ex ∧ (s.dmaStart ch).sv = s.sv ∧ (s.dmaStart ch).ax = s.ax ∧
    (s.dmaStart ch).aq = s.aq ∧ (s.dmaStart ch).il = s.il ∧ (s.dmaStart ch).ln = s.ln ∧ (s.dmaStart ch).fl = s.fl := by
  and_intros <;> (unfold State.dmaStart; repeat' (first | with_reducible rfl | (simp; done) | split | with_reducible refine (foldl_inv _ _ _ _ (fun _ _ => ?_)).trans ?_ | (dsimp only; first | split | with_reducible refine (foldl_inv _ _ _ _ (fun _ _ => ?_)).trans ?_)))

@[simp] theorem State.dmaStart_frame3 (s : State) (ch : Nat) :
    (s.dmaStart ch).safe = s.safe ∧ (s.dmaStart ch).cm = s.cm ∧ (s.dmaStart ch).cf = s.cf ∧ (s.dmaStart ch).pw = s.pw ∧
    (s.dmaStart ch).th = s.th := by
  and_intros <;> (unfold State.dmaStart; repeat' (first | with_reducible rfl | (simp; done) | split | with_reducible refine (foldl_inv _ _ _ _ (fun _ _ => ?_)).trans ?_ | (dsimp only; first | split | with_reducible refine (foldl_inv _ _ _ _ (fun _ _ => ?_)).trans ?_)))

@[simp] theorem State.dmCntClr_frame (s : State) :
    (s.dmCntClr).now = s.now ∧ (s.dmCntClr).phase = s.phase ∧ (s.dmCntClr).pending = s.pending ∧
    (s.dmCntClr).nodeOfs = s.nodeOfs ∧ (s.dmCntClr).freeCtr = s.freeCtr ∧ (s.dmCntClr).tx = s.tx ∧ (s.dmCntClr).tl = s.tl ∧
    (s.dmCntClr).sq = s.sq := by
  and_intros <;> (unfold State.dmCntClr; repeat' (first | with_reducible rfl | (simp; done) | split | with_reducible refine (foldl_inv _ _ _ _ (fun _ _ => ?_)).trans ?_ | (dsimp only; first | split | with_reducible refine (foldl_inv _ _ _ _ (fun _ _ => ?_)).trans ?_)))

@[simp] theorem State.dmCntClr_frame2 (s : State) :
    (s.dmCntClr).fd = s.fd ∧ (s.dmCntClr).ex = s.ex ∧ (s.dmCntClr).sv = s.sv ∧ (s.dmCntClr).ax = s.ax ∧
    (s.dmCntClr).aq = s.aq ∧ (s.dmCntClr).il = s.il ∧ (s.dmCntClr).ln = s.ln ∧ (s.dmCntClr).fl = s.fl := by
  and_intros <;> (unfold State.dmCntClr; repeat' (first | with_reducible rfl | (simp; done) | split | with_reducible refine (foldl_inv _ _ _ _ (fun _ _ => ?_)).trans ?_ | (dsimp only; first | split | with_reducible refine (foldl_inv _ _ _ _ (fun _ _ => ?_)).trans ?_)))

@[simp] theorem State.dmCntClr_frame3 (s : State) :
    (s.dmCntClr).ev = s.ev ∧ (s.dmCntClr).safe = s.safe ∧ (s.dmCntClr).dm = s.dm ∧ (s.dmCntClr).cm = s.cm ∧
    (s.dmCntClr).cf = s.cf ∧ (s.dmCntClr).pw = s.pw ∧ (s.dmCntClr).th = s.th := by
  and_intros <;> (unfold State.dmCntClr; repeat' (first | with_reducible rfl | (simp; done) | split | with_reducible refine (foldl_inv _ _ _ _ (fun _ _ => ?_)).trans ?_ | (dsimp only; first | split | with_reducible refine (foldl_inv _ _ _ _ (fun _ _ => ?_)).trans ?_)))

@[simp] theorem State.sendBytes_parts (s : State) (q : Nat) (bytes : List (BitVec 8)) (last : Bool) :
    (s.sendBytes q bytes last).regs.setA = s.regs.setA ∧ (s.sendBytes q bytes last).regs.setB = s.regs.setB ∧
    (s.sendBytes q bytes last).regs.one = s.regs.one ∧ (s.sendBytes q bytes last).regs.rsvd = s.regs.rsvd ∧
    (s.sendBytes q bytes last).regs.waiting = s.regs.waiting ∧ (s.sendBytes q bytes last).regs.stale = s.regs.stale ∧
    (s.sendBytes q bytes last).regs.posted = s.regs.posted ∧ (s.sendBytes q bytes last).dm.sram = s.dm.sram := by
  and_intros <;> (unfold State.sendBytes; repeat' (first | with_reducible rfl | (simp; done) | split | with_reducible refine (State.regs_setA_foldl _ _ _ (fun _ _ => ?_)).trans ?_ | with_reducible refine (State.regs_setB_foldl _ _ _ (fun _ _ => ?_)).trans ?_ | with_reducible refine (State.regs_one_foldl _ _ _ (fun _ _ => ?_)).trans ?_ | with_reducible refine (State.regs_rsvd_foldl _ _ _ (fun _ _ => ?_)).trans ?_ | with_reducible refine (State.regs_waiting_foldl _ _ _ (fun _ _ => ?_)).trans ?_ | with_reducible refine (State.regs_stale_foldl _ _ _ (fun _ _ => ?_)).trans ?_ | with_reducible refine (State.regs_posted_foldl _ _ _ (fun _ _ => ?_)).trans ?_ | with_reducible refine (State.fd_mem_foldl _ _ _ (fun _ _ => ?_)).trans ?_ | with_reducible refine (State.dm_sram_foldl _ _ _ (fun _ _ => ?_)).trans ?_ | with_reducible refine (State.sq_frameNo_foldl _ _ _ (fun _ _ => ?_)).trans ?_ | with_reducible refine (State.sq_inScan_foldl _ _ _ (fun _ _ => ?_)).trans ?_ | with_reducible refine (State.sq_nextBoundary_foldl _ _ _ (fun _ _ => ?_)).trans ?_ | with_reducible refine (State.pw_gate_foldl _ _ _ (fun _ _ => ?_)).trans ?_ | (dsimp only; first | split | with_reducible refine (State.regs_setA_foldl _ _ _ (fun _ _ => ?_)).trans ?_ | with_reducible refine (State.regs_setB_foldl _ _ _ (fun _ _ => ?_)).trans ?_ | with_reducible refine (State.regs_one_foldl _ _ _ (fun _ _ => ?_)).trans ?_ | with_reducible refine (State.regs_rsvd_foldl _ _ _ (fun _ _ => ?_)).trans ?_ | with_reducible refine (State.regs_waiting_foldl _ _ _ (fun _ _ => ?_)).trans ?_ | with_reducible refine (State.regs_stale_foldl _ _ _ (fun _ _ => ?_)).trans ?_ | with_reducible refine (State.regs_posted_foldl _ _ _ (fun _ _ => ?_)).trans ?_ | with_reducible refine (State.fd_mem_foldl _ _ _ (fun _ _ => ?_)).trans ?_ | with_reducible refine (State.dm_sram_foldl _ _ _ (fun _ _ => ?_)).trans ?_ | with_reducible refine (State.sq_frameNo_foldl _ _ _ (fun _ _ => ?_)).trans ?_ | with_reducible refine (State.sq_inScan_foldl _ _ _ (fun _ _ => ?_)).trans ?_ | with_reducible refine (State.sq_nextBoundary_foldl _ _ _ (fun _ _ => ?_)).trans ?_ | with_reducible refine (State.pw_gate_foldl _ _ _ (fun _ _ => ?_)).trans ?_)))

@[simp] theorem State.lastBytes_parts (s : State) (q ch : Nat) :
    (s.lastBytes q ch).regs.setA = s.regs.setA ∧ (s.lastBytes q ch).regs.setB = s.regs.setB ∧
    (s.lastBytes q ch).regs.one = s.regs.one ∧ (s.lastBytes q ch).regs.rsvd = s.regs.rsvd ∧
    (s.lastBytes q ch).regs.waiting = s.regs.waiting ∧ (s.lastBytes q ch).regs.stale = s.regs.stale ∧
    (s.lastBytes q ch).regs.posted = s.regs.posted ∧ (s.lastBytes q ch).dm.sram = s.dm.sram := by
  and_intros <;> (unfold State.lastBytes; repeat' (first | with_reducible rfl | (simp; done) | split | with_reducible refine (State.regs_setA_foldl _ _ _ (fun _ _ => ?_)).trans ?_ | with_reducible refine (State.regs_setB_foldl _ _ _ (fun _ _ => ?_)).trans ?_ | with_reducible refine (State.regs_one_foldl _ _ _ (fun _ _ => ?_)).trans ?_ | with_reducible refine (State.regs_rsvd_foldl _ _ _ (fun _ _ => ?_)).trans ?_ | with_reducible refine (State.regs_waiting_foldl _ _ _ (fun _ _ => ?_)).trans ?_ | with_reducible refine (State.regs_stale_foldl _ _ _ (fun _ _ => ?_)).trans ?_ | with_reducible refine (State.regs_posted_foldl _ _ _ (fun _ _ => ?_)).trans ?_ | with_reducible refine (State.fd_mem_foldl _ _ _ (fun _ _ => ?_)).trans ?_ | with_reducible refine (State.dm_sram_foldl _ _ _ (fun _ _ => ?_)).trans ?_ | with_reducible refine (State.sq_frameNo_foldl _ _ _ (fun _ _ => ?_)).trans ?_ | with_reducible refine (State.sq_inScan_foldl _ _ _ (fun _ _ => ?_)).trans ?_ | with_reducible refine (State.sq_nextBoundary_foldl _ _ _ (fun _ _ => ?_)).trans ?_ | with_reducible refine (State.pw_gate_foldl _ _ _ (fun _ _ => ?_)).trans ?_ | (dsimp only; first | split | with_reducible refine (State.regs_setA_foldl _ _ _ (fun _ _ => ?_)).trans ?_ | with_reducible refine (State.regs_setB_foldl _ _ _ (fun _ _ => ?_)).trans ?_ | with_reducible refine (State.regs_one_foldl _ _ _ (fun _ _ => ?_)).trans ?_ | with_reducible refine (State.regs_rsvd_foldl _ _ _ (fun _ _ => ?_)).trans ?_ | with_reducible refine (State.regs_waiting_foldl _ _ _ (fun _ _ => ?_)).trans ?_ | with_reducible refine (State.regs_stale_foldl _ _ _ (fun _ _ => ?_)).trans ?_ | with_reducible refine (State.regs_posted_foldl _ _ _ (fun _ _ => ?_)).trans ?_ | with_reducible refine (State.fd_mem_foldl _ _ _ (fun _ _ => ?_)).trans ?_ | with_reducible refine (State.dm_sram_foldl _ _ _ (fun _ _ => ?_)).trans ?_ | with_reducible refine (State.sq_frameNo_foldl _ _ _ (fun _ _ => ?_)).trans ?_ | with_reducible refine (State.sq_inScan_foldl _ _ _ (fun _ _ => ?_)).trans ?_ | with_reducible refine (State.sq_nextBoundary_foldl _ _ _ (fun _ _ => ?_)).trans ?_ | with_reducible refine (State.pw_gate_foldl _ _ _ (fun _ _ => ?_)).trans ?_)))

@[simp] theorem State.dmaEnd_parts (s : State) (ch err : Nat) :
    (s.dmaEnd ch err).regs.setA = s.regs.setA ∧ (s.dmaEnd ch err).regs.setB = s.regs.setB ∧
    (s.dmaEnd ch err).regs.one = s.regs.one ∧ (s.dmaEnd ch err).regs.rsvd = s.regs.rsvd ∧
    (s.dmaEnd ch err).regs.waiting = s.regs.waiting ∧ (s.dmaEnd ch err).regs.stale = s.regs.stale ∧
    (s.dmaEnd ch err).regs.posted = s.regs.posted ∧ (s.dmaEnd ch err).dm.sram = s.dm.sram := by
  and_intros <;> (unfold State.dmaEnd; repeat' (first | with_reducible rfl | (simp; done) | split | with_reducible refine (State.regs_setA_foldl _ _ _ (fun _ _ => ?_)).trans ?_ | with_reducible refine (State.regs_setB_foldl _ _ _ (fun _ _ => ?_)).trans ?_ | with_reducible refine (State.regs_one_foldl _ _ _ (fun _ _ => ?_)).trans ?_ | with_reducible refine (State.regs_rsvd_foldl _ _ _ (fun _ _ => ?_)).trans ?_ | with_reducible refine (State.regs_waiting_foldl _ _ _ (fun _ _ => ?_)).trans ?_ | with_reducible refine (State.regs_stale_foldl _ _ _ (fun _ _ => ?_)).trans ?_ | with_reducible refine (State.regs_posted_foldl _ _ _ (fun _ _ => ?_)).trans ?_ | with_reducible refine (State.fd_mem_foldl _ _ _ (fun _ _ => ?_)).trans ?_ | with_reducible refine (State.dm_sram_foldl _ _ _ (fun _ _ => ?_)).trans ?_ | with_reducible refine (State.sq_frameNo_foldl _ _ _ (fun _ _ => ?_)).trans ?_ | with_reducible refine (State.sq_inScan_foldl _ _ _ (fun _ _ => ?_)).trans ?_ | with_reducible refine (State.sq_nextBoundary_foldl _ _ _ (fun _ _ => ?_)).trans ?_ | with_reducible refine (State.pw_gate_foldl _ _ _ (fun _ _ => ?_)).trans ?_ | (dsimp only; first | split | with_reducible refine (State.regs_setA_foldl _ _ _ (fun _ _ => ?_)).trans ?_ | with_reducible refine (State.regs_setB_foldl _ _ _ (fun _ _ => ?_)).trans ?_ | with_reducible refine (State.regs_one_foldl _ _ _ (fun _ _ => ?_)).trans ?_ | with_reducible refine (State.regs_rsvd_foldl _ _ _ (fun _ _ => ?_)).trans ?_ | with_reducible refine (State.regs_waiting_foldl _ _ _ (fun _ _ => ?_)).trans ?_ | with_reducible refine (State.regs_stale_foldl _ _ _ (fun _ _ => ?_)).trans ?_ | with_reducible refine (State.regs_posted_foldl _ _ _ (fun _ _ => ?_)).trans ?_ | with_reducible refine (State.fd_mem_foldl _ _ _ (fun _ _ => ?_)).trans ?_ | with_reducible refine (State.dm_sram_foldl _ _ _ (fun _ _ => ?_)).trans ?_ | with_reducible refine (State.sq_frameNo_foldl _ _ _ (fun _ _ => ?_)).trans ?_ | with_reducible refine (State.sq_inScan_foldl _ _ _ (fun _ _ => ?_)).trans ?_ | with_reducible refine (State.sq_nextBoundary_foldl _ _ _ (fun _ _ => ?_)).trans ?_ | with_reducible refine (State.pw_gate_foldl _ _ _ (fun _ _ => ?_)).trans ?_)))

@[simp] theorem State.dmaStart_parts (s : State) (ch : Nat) :
    (s.dmaStart ch).regs.setA = s.regs.setA ∧ (s.dmaStart ch).regs.setB = s.regs.setB ∧
    (s.dmaStart ch).regs.one = s.regs.one ∧ (s.dmaStart ch).regs.rsvd = s.regs.rsvd ∧
    (s.dmaStart ch).regs.waiting = s.regs.waiting ∧ (s.dmaStart ch).regs.stale = s.regs.stale ∧
    (s.dmaStart ch).regs.posted = s.regs.posted ∧ (s.dmaStart ch).dm.sram = s.dm.sram := by
  and_intros <;> (unfold State.dmaStart; repeat' (first | with_reducible rfl | (simp; done) | split | with_reducible refine (State.regs_setA_foldl _ _ _ (fun _ _ => ?_)).trans ?_ | with_reducible refine (State.regs_setB_foldl _ _ _ (fun _ _ => ?_)).trans ?_ | with_reducible refine (State.regs_one_foldl _ _ _ (fun _ _ => ?_)).trans ?_ | with_reducible refine (State.regs_rsvd_foldl _ _ _ (fun _ _ => ?_)).trans ?_ | with_reducible refine (State.regs_waiting_foldl _ _ _ (fun _ _ => ?_)).trans ?_ | with_reducible refine (State.regs_stale_foldl _ _ _ (fun _ _ => ?_)).trans ?_ | with_reducible refine (State.regs_posted_foldl _ _ _ (fun _ _ => ?_)).trans ?_ | with_reducible refine (State.fd_mem_foldl _ _ _ (fun _ _ => ?_)).trans ?_ | with_reducible refine (State.dm_sram_foldl _ _ _ (fun _ _ => ?_)).trans ?_ | with_reducible refine (State.sq_frameNo_foldl _ _ _ (fun _ _ => ?_)).trans ?_ | with_reducible refine (State.sq_inScan_foldl _ _ _ (fun _ _ => ?_)).trans ?_ | with_reducible refine (State.sq_nextBoundary_foldl _ _ _ (fun _ _ => ?_)).trans ?_ | with_reducible refine (State.pw_gate_foldl _ _ _ (fun _ _ => ?_)).trans ?_ | (dsimp only; first | split | with_reducible refine (State.regs_setA_foldl _ _ _ (fun _ _ => ?_)).trans ?_ | with_reducible refine (State.regs_setB_foldl _ _ _ (fun _ _ => ?_)).trans ?_ | with_reducible refine (State.regs_one_foldl _ _ _ (fun _ _ => ?_)).trans ?_ | with_reducible refine (State.regs_rsvd_foldl _ _ _ (fun _ _ => ?_)).trans ?_ | with_reducible refine (State.regs_waiting_foldl _ _ _ (fun _ _ => ?_)).trans ?_ | with_reducible refine (State.regs_stale_foldl _ _ _ (fun _ _ => ?_)).trans ?_ | with_reducible refine (State.regs_posted_foldl _ _ _ (fun _ _ => ?_)).trans ?_ | with_reducible refine (State.fd_mem_foldl _ _ _ (fun _ _ => ?_)).trans ?_ | with_reducible refine (State.dm_sram_foldl _ _ _ (fun _ _ => ?_)).trans ?_ | with_reducible refine (State.sq_frameNo_foldl _ _ _ (fun _ _ => ?_)).trans ?_ | with_reducible refine (State.sq_inScan_foldl _ _ _ (fun _ _ => ?_)).trans ?_ | with_reducible refine (State.sq_nextBoundary_foldl _ _ _ (fun _ _ => ?_)).trans ?_ | with_reducible refine (State.pw_gate_foldl _ _ _ (fun _ _ => ?_)).trans ?_)))

@[simp] theorem State.dmCntClr_parts (s : State) :
    (s.dmCntClr).regs.setA = s.regs.setA ∧ (s.dmCntClr).regs.setB = s.regs.setB ∧ (s.dmCntClr).regs.one = s.regs.one ∧
    (s.dmCntClr).regs.rsvd = s.regs.rsvd ∧ (s.dmCntClr).regs.waiting = s.regs.waiting ∧
    (s.dmCntClr).regs.stale = s.regs.stale ∧ (s.dmCntClr).regs.posted = s.regs.posted := by
  and_intros <;> (unfold State.dmCntClr; repeat' (first | with_reducible rfl | (simp; done) | split | with_reducible refine (State.regs_setA_foldl _ _ _ (fun _ _ => ?_)).trans ?_ | with_reducible refine (State.regs_setB_foldl _ _ _ (fun _ _ => ?_)).trans ?_ | with_reducible refine (State.regs_one_foldl _ _ _ (fun _ _ => ?_)).trans ?_ | with_reducible refine (State.regs_rsvd_foldl _ _ _ (fun _ _ => ?_)).trans ?_ | with_reducible refine (State.regs_waiting_foldl _ _ _ (fun _ _ => ?_)).trans ?_ | with_reducible refine (State.regs_stale_foldl _ _ _ (fun _ _ => ?_)).trans ?_ | with_reducible refine (State.regs_posted_foldl _ _ _ (fun _ _ => ?_)).trans ?_ | with_reducible refine (State.fd_mem_foldl _ _ _ (fun _ _ => ?_)).trans ?_ | with_reducible refine (State.dm_sram_foldl _ _ _ (fun _ _ => ?_)).trans ?_ | with_reducible refine (State.sq_frameNo_foldl _ _ _ (fun _ _ => ?_)).trans ?_ | with_reducible refine (State.sq_inScan_foldl _ _ _ (fun _ _ => ?_)).trans ?_ | with_reducible refine (State.sq_nextBoundary_foldl _ _ _ (fun _ _ => ?_)).trans ?_ | with_reducible refine (State.pw_gate_foldl _ _ _ (fun _ _ => ?_)).trans ?_ | (dsimp only; first | split | with_reducible refine (State.regs_setA_foldl _ _ _ (fun _ _ => ?_)).trans ?_ | with_reducible refine (State.regs_setB_foldl _ _ _ (fun _ _ => ?_)).trans ?_ | with_reducible refine (State.regs_one_foldl _ _ _ (fun _ _ => ?_)).trans ?_ | with_reducible refine (State.regs_rsvd_foldl _ _ _ (fun _ _ => ?_)).trans ?_ | with_reducible refine (State.regs_waiting_foldl _ _ _ (fun _ _ => ?_)).trans ?_ | with_reducible refine (State.regs_stale_foldl _ _ _ (fun _ _ => ?_)).trans ?_ | with_reducible refine (State.regs_posted_foldl _ _ _ (fun _ _ => ?_)).trans ?_ | with_reducible refine (State.fd_mem_foldl _ _ _ (fun _ _ => ?_)).trans ?_ | with_reducible refine (State.dm_sram_foldl _ _ _ (fun _ _ => ?_)).trans ?_ | with_reducible refine (State.sq_frameNo_foldl _ _ _ (fun _ _ => ?_)).trans ?_ | with_reducible refine (State.sq_inScan_foldl _ _ _ (fun _ _ => ?_)).trans ?_ | with_reducible refine (State.sq_nextBoundary_foldl _ _ _ (fun _ _ => ?_)).trans ?_ | with_reducible refine (State.pw_gate_foldl _ _ _ (fun _ _ => ?_)).trans ?_)))

end Sys2Proof.Machine
end

