-- ==== Sys2Proof/Laws/FramePowerOps.lean ====
section
/-!
SUPPORT. The frames of the operations of Machine/PowerOps.lean: the parts of the state that each of them leaves as they were.
-/

set_option linter.unusedTactic false
set_option linter.unreachableTactic false
set_option linter.unusedSimpArgs false

namespace Sys2Proof.Machine

@[simp] theorem State.setImage_frame (s : State) (b : Bool) (l : List (BitVec 8)) :
    (s.setImage b l).now = s.now ∧ (s.setImage b l).phase = s.phase ∧ (s.setImage b l).pending = s.pending ∧
    (s.setImage b l).nodeOfs = s.nodeOfs ∧ (s.setImage b l).freeCtr = s.freeCtr ∧ (s.setImage b l).tx = s.tx ∧
    (s.setImage b l).regs = s.regs ∧ (s.setImage b l).tl = s.tl := by
  and_intros <;> (unfold State.setImage; repeat' (first | with_reducible rfl | (simp; done) | split | with_reducible refine (foldl_inv _ _ _ _ (fun _ _ => ?_)).trans ?_ | (dsimp only; first | split | with_reducible refine (foldl_inv _ _ _ _ (fun _ _ => ?_)).trans ?_)))

@[simp] theorem State.setImage_frame2 (s : State) (b : Bool) (l : List (BitVec 8)) :
    (s.setImage b l).sq = s.sq ∧ (s.setImage b l).fd = s.fd ∧ (s.setImage b l).ex = s.ex ∧ (s.setImage b l).sv = s.sv ∧
    (s.setImage b l).ax = s.ax ∧ (s.setImage b l).aq = s.aq ∧ (s.setImage b l).il = s.il ∧ (s.setImage b l).ln = s.ln := by
  and_intros <;> (unfold State.setImage; repeat' (first | with_reducible rfl | (simp; done) | split | with_reducible refine (foldl_inv _ _ _ _ (fun _ _ => ?_)).trans ?_ | (dsimp only; first | split | with_reducible refine (foldl_inv _ _ _ _ (fun _ _ => ?_)).trans ?_)))

@[simp] theorem State.setImage_frame3 (s : State) (b : Bool) (l : List (BitVec 8)) :
    (s.setImage b l).fl = s.fl ∧ (s.setImage b l).ev = s.ev ∧ (s.setImage b l).safe = s.safe ∧ (s.setImage b l).dm = s.dm ∧
    (s.setImage b l).cm = s.cm ∧ (s.setImage b l).cf = s.cf ∧ (s.setImage b l).th = s.th := by
  and_intros <;> (unfold State.setImage; repeat' (first | with_reducible rfl | (simp; done) | split | with_reducible refine (foldl_inv _ _ _ _ (fun _ _ => ?_)).trans ?_ | (dsimp only; first | split | with_reducible refine (foldl_inv _ _ _ _ (fun _ _ => ?_)).trans ?_)))

@[simp] theorem State.showSlot_frame (s : State) (b : Bool) (st : Nat) :
    (s.showSlot b st).now = s.now ∧ (s.showSlot b st).phase = s.phase ∧ (s.showSlot b st).pending = s.pending ∧
    (s.showSlot b st).nodeOfs = s.nodeOfs ∧ (s.showSlot b st).freeCtr = s.freeCtr ∧ (s.showSlot b st).tx = s.tx ∧
    (s.showSlot b st).tl = s.tl ∧ (s.showSlot b st).sq = s.sq := by
  and_intros <;> (unfold State.showSlot; repeat' (first | with_reducible rfl | (simp; done) | split | with_reducible refine (foldl_inv _ _ _ _ (fun _ _ => ?_)).trans ?_ | (dsimp only; first | split | with_reducible refine (foldl_inv _ _ _ _ (fun _ _ => ?_)).trans ?_)))

@[simp] theorem State.showSlot_frame2 (s : State) (b : Bool) (st : Nat) :
    (s.showSlot b st).fd = s.fd ∧ (s.showSlot b st).ex = s.ex ∧ (s.showSlot b st).sv = s.sv ∧ (s.showSlot b st).ax = s.ax ∧
    (s.showSlot b st).aq = s.aq ∧ (s.showSlot b st).il = s.il ∧ (s.showSlot b st).ln = s.ln ∧ (s.showSlot b st).fl = s.fl := by
  and_intros <;> (unfold State.showSlot; repeat' (first | with_reducible rfl | (simp; done) | split | with_reducible refine (foldl_inv _ _ _ _ (fun _ _ => ?_)).trans ?_ | (dsimp only; first | split | with_reducible refine (foldl_inv _ _ _ _ (fun _ _ => ?_)).trans ?_)))

@[simp] theorem State.showSlot_frame3 (s : State) (b : Bool) (st : Nat) :
    (s.showSlot b st).ev = s.ev ∧ (s.showSlot b st).safe = s.safe ∧ (s.showSlot b st).dm = s.dm ∧
    (s.showSlot b st).cm = s.cm ∧ (s.showSlot b st).cf = s.cf ∧ (s.showSlot b st).pw = s.pw ∧ (s.showSlot b st).th = s.th := by
  and_intros <;> (unfold State.showSlot; repeat' (first | with_reducible rfl | (simp; done) | split | with_reducible refine (foldl_inv _ _ _ _ (fun _ _ => ?_)).trans ?_ | (dsimp only; first | split | with_reducible refine (foldl_inv _ _ _ _ (fun _ _ => ?_)).trans ?_)))

@[simp] theorem State.putRecord_frame (s : State) (b : Bool) (x : Slot) :
    (s.putRecord b x).now = s.now ∧ (s.putRecord b x).phase = s.phase ∧ (s.putRecord b x).pending = s.pending ∧
    (s.putRecord b x).nodeOfs = s.nodeOfs ∧ (s.putRecord b x).freeCtr = s.freeCtr ∧ (s.putRecord b x).tx = s.tx ∧
    (s.putRecord b x).regs = s.regs ∧ (s.putRecord b x).tl = s.tl := by
  and_intros <;> (unfold State.putRecord; repeat' (first | with_reducible rfl | (simp; done) | split | with_reducible refine (foldl_inv _ _ _ _ (fun _ _ => ?_)).trans ?_ | (dsimp only; first | split | with_reducible refine (foldl_inv _ _ _ _ (fun _ _ => ?_)).trans ?_)))

@[simp] theorem State.putRecord_frame2 (s : State) (b : Bool) (x : Slot) :
    (s.putRecord b x).sq = s.sq ∧ (s.putRecord b x).fd = s.fd ∧ (s.putRecord b x).ex = s.ex ∧ (s.putRecord b x).sv = s.sv ∧
    (s.putRecord b x).ax = s.ax ∧ (s.putRecord b x).aq = s.aq ∧ (s.putRecord b x).il = s.il ∧ (s.putRecord b x).ln = s.ln := by
  and_intros <;> (unfold State.putRecord; repeat' (first | with_reducible rfl | (simp; done) | split | with_reducible refine (foldl_inv _ _ _ _ (fun _ _ => ?_)).trans ?_ | (dsimp only; first | split | with_reducible refine (foldl_inv _ _ _ _ (fun _ _ => ?_)).trans ?_)))

@[simp] theorem State.putRecord_frame3 (s : State) (b : Bool) (x : Slot) :
    (s.putRecord b x).fl = s.fl ∧ (s.putRecord b x).ev = s.ev ∧ (s.putRecord b x).safe = s.safe ∧
    (s.putRecord b x).dm = s.dm ∧ (s.putRecord b x).cm = s.cm ∧ (s.putRecord b x).cf = s.cf ∧ (s.putRecord b x).th = s.th := by
  and_intros <;> (unfold State.putRecord; repeat' (first | with_reducible rfl | (simp; done) | split | with_reducible refine (foldl_inv _ _ _ _ (fun _ _ => ?_)).trans ?_ | (dsimp only; first | split | with_reducible refine (foldl_inv _ _ _ _ (fun _ _ => ?_)).trans ?_)))

@[simp] theorem State.flashPerform_frame (s : State) (w : FlashWrite) :
    (s.flashPerform w).now = s.now ∧ (s.flashPerform w).phase = s.phase ∧ (s.flashPerform w).pending = s.pending ∧
    (s.flashPerform w).nodeOfs = s.nodeOfs ∧ (s.flashPerform w).freeCtr = s.freeCtr ∧ (s.flashPerform w).tx = s.tx ∧
    (s.flashPerform w).regs = s.regs ∧ (s.flashPerform w).tl = s.tl := by
  and_intros <;> (unfold State.flashPerform; repeat' (first | with_reducible rfl | (simp; done) | split | with_reducible refine (foldl_inv _ _ _ _ (fun _ _ => ?_)).trans ?_ | (dsimp only; first | split | with_reducible refine (foldl_inv _ _ _ _ (fun _ _ => ?_)).trans ?_)))

@[simp] theorem State.flashPerform_frame2 (s : State) (w : FlashWrite) :
    (s.flashPerform w).sq = s.sq ∧ (s.flashPerform w).fd = s.fd ∧ (s.flashPerform w).ex = s.ex ∧
    (s.flashPerform w).sv = s.sv ∧ (s.flashPerform w).ax = s.ax ∧ (s.flashPerform w).aq = s.aq ∧
    (s.flashPerform w).il = s.il ∧ (s.flashPerform w).ln = s.ln := by
  and_intros <;> (unfold State.flashPerform; repeat' (first | with_reducible rfl | (simp; done) | split | with_reducible refine (foldl_inv _ _ _ _ (fun _ _ => ?_)).trans ?_ | (dsimp only; first | split | with_reducible refine (foldl_inv _ _ _ _ (fun _ _ => ?_)).trans ?_)))

@[simp] theorem State.flashPerform_frame3 (s : State) (w : FlashWrite) :
    (s.flashPerform w).fl = s.fl ∧ (s.flashPerform w).ev = s.ev ∧ (s.flashPerform w).safe = s.safe ∧
    (s.flashPerform w).dm = s.dm ∧ (s.flashPerform w).cm = s.cm ∧ (s.flashPerform w).cf = s.cf ∧
    (s.flashPerform w).th = s.th := by
  and_intros <;> (unfold State.flashPerform; repeat' (first | with_reducible rfl | (simp; done) | split | with_reducible refine (foldl_inv _ _ _ _ (fun _ _ => ?_)).trans ?_ | (dsimp only; first | split | with_reducible refine (foldl_inv _ _ _ _ (fun _ _ => ?_)).trans ?_)))

@[simp] theorem State.ownWrite_frame (s : State) (w : FlashWrite) :
    (s.ownWrite w).now = s.now ∧ (s.ownWrite w).phase = s.phase ∧ (s.ownWrite w).pending = s.pending ∧
    (s.ownWrite w).nodeOfs = s.nodeOfs ∧ (s.ownWrite w).freeCtr = s.freeCtr ∧ (s.ownWrite w).tx = s.tx ∧
    (s.ownWrite w).tl = s.tl ∧ (s.ownWrite w).sq = s.sq := by
  and_intros <;> (unfold State.ownWrite; repeat' (first | with_reducible rfl | (simp; done) | split | with_reducible refine (foldl_inv _ _ _ _ (fun _ _ => ?_)).trans ?_ | (dsimp only; first | split | with_reducible refine (foldl_inv _ _ _ _ (fun _ _ => ?_)).trans ?_)))

@[simp] theorem State.ownWrite_frame2 (s : State) (w : FlashWrite) :
    (s.ownWrite w).fd = s.fd ∧ (s.ownWrite w).ex = s.ex ∧ (s.ownWrite w).sv = s.sv ∧ (s.ownWrite w).ax = s.ax ∧
    (s.ownWrite w).aq = s.aq ∧ (s.ownWrite w).il = s.il ∧ (s.ownWrite w).ln = s.ln ∧ (s.ownWrite w).fl = s.fl := by
  and_intros <;> (unfold State.ownWrite; repeat' (first | with_reducible rfl | (simp; done) | split | with_reducible refine (foldl_inv _ _ _ _ (fun _ _ => ?_)).trans ?_ | (dsimp only; first | split | with_reducible refine (foldl_inv _ _ _ _ (fun _ _ => ?_)).trans ?_)))

@[simp] theorem State.ownWrite_frame3 (s : State) (w : FlashWrite) :
    (s.ownWrite w).ev = s.ev ∧ (s.ownWrite w).safe = s.safe ∧ (s.ownWrite w).dm = s.dm ∧ (s.ownWrite w).cm = s.cm ∧
    (s.ownWrite w).cf = s.cf ∧ (s.ownWrite w).th = s.th := by
  and_intros <;> (unfold State.ownWrite; repeat' (first | with_reducible rfl | (simp; done) | split | with_reducible refine (foldl_inv _ _ _ _ (fun _ _ => ?_)).trans ?_ | (dsimp only; first | split | with_reducible refine (foldl_inv _ _ _ _ (fun _ _ => ?_)).trans ?_)))

@[simp] theorem State.markSlot_frame (s : State) (b : Bool) (x : Slot) :
    (s.markSlot b x).now = s.now ∧ (s.markSlot b x).phase = s.phase ∧ (s.markSlot b x).pending = s.pending ∧
    (s.markSlot b x).nodeOfs = s.nodeOfs ∧ (s.markSlot b x).freeCtr = s.freeCtr ∧ (s.markSlot b x).tx = s.tx ∧
    (s.markSlot b x).tl = s.tl ∧ (s.markSlot b x).sq = s.sq := by
  and_intros <;> (unfold State.markSlot; repeat' (first | with_reducible rfl | (simp; done) | split | with_reducible refine (foldl_inv _ _ _ _ (fun _ _ => ?_)).trans ?_ | (dsimp only; first | split | with_reducible refine (foldl_inv _ _ _ _ (fun _ _ => ?_)).trans ?_)))

@[simp] theorem State.markSlot_frame2 (s : State) (b : Bool) (x : Slot) :
    (s.markSlot b x).fd = s.fd ∧ (s.markSlot b x).ex = s.ex ∧ (s.markSlot b x).sv = s.sv ∧ (s.markSlot b x).ax = s.ax ∧
    (s.markSlot b x).aq = s.aq ∧ (s.markSlot b x).il = s.il ∧ (s.markSlot b x).ln = s.ln ∧ (s.markSlot b x).fl = s.fl := by
  and_intros <;> (unfold State.markSlot; repeat' (first | with_reducible rfl | (simp; done) | split | with_reducible refine (foldl_inv _ _ _ _ (fun _ _ => ?_)).trans ?_ | (dsimp only; first | split | with_reducible refine (foldl_inv _ _ _ _ (fun _ _ => ?_)).trans ?_)))

@[simp] theorem State.markSlot_frame3 (s : State) (b : Bool) (x : Slot) :
    (s.markSlot b x).ev = s.ev ∧ (s.markSlot b x).safe = s.safe ∧ (s.markSlot b x).dm = s.dm ∧ (s.markSlot b x).cm = s.cm ∧
    (s.markSlot b x).cf = s.cf ∧ (s.markSlot b x).th = s.th := by
  and_intros <;> (unfold State.markSlot; repeat' (first | with_reducible rfl | (simp; done) | split | with_reducible refine (foldl_inv _ _ _ _ (fun _ _ => ?_)).trans ?_ | (dsimp only; first | split | with_reducible refine (foldl_inv _ _ _ _ (fun _ _ => ?_)).trans ?_)))

@[simp] theorem State.saveStart_frame (s : State) :
    (s.saveStart).now = s.now ∧ (s.saveStart).phase = s.phase ∧ (s.saveStart).pending = s.pending ∧
    (s.saveStart).nodeOfs = s.nodeOfs ∧ (s.saveStart).freeCtr = s.freeCtr ∧ (s.saveStart).tx = s.tx ∧
    (s.saveStart).regs = s.regs ∧ (s.saveStart).tl = s.tl := by
  and_intros <;> (unfold State.saveStart; repeat' (first | with_reducible rfl | (simp; done) | split | with_reducible refine (foldl_inv _ _ _ _ (fun _ _ => ?_)).trans ?_ | (dsimp only; first | split | with_reducible refine (foldl_inv _ _ _ _ (fun _ _ => ?_)).trans ?_)))

@[simp] theorem State.saveStart_frame2 (s : State) :
    (s.saveStart).sq = s.sq ∧ (s.saveStart).fd = s.fd ∧ (s.saveStart).ex = s.ex ∧ (s.saveStart).sv = s.sv ∧
    (s.saveStart).ax = s.ax ∧ (s.saveStart).aq = s.aq ∧ (s.saveStart).il = s.il ∧ (s.saveStart).ln = s.ln := by
  and_intros <;> (unfold State.saveStart; repeat' (first | with_reducible rfl | (simp; done) | split | with_reducible refine (foldl_inv _ _ _ _ (fun _ _ => ?_)).trans ?_ | (dsimp only; first | split | with_reducible refine (foldl_inv _ _ _ _ (fun _ _ => ?_)).trans ?_)))

@[simp] theorem State.saveStart_frame3 (s : State) :
    (s.saveStart).fl = s.fl ∧ (s.saveStart).ev = s.ev ∧ (s.saveStart).safe = s.safe ∧ (s.saveStart).dm = s.dm ∧
    (s.saveStart).cm = s.cm ∧ (s.saveStart).cf = s.cf ∧ (s.saveStart).th = s.th := by
  and_intros <;> (unfold State.saveStart; repeat' (first | with_reducible rfl | (simp; done) | split | with_reducible refine (foldl_inv _ _ _ _ (fun _ _ => ?_)).trans ?_ | (dsimp only; first | split | with_reducible refine (foldl_inv _ _ _ _ (fun _ _ => ?_)).trans ?_)))

@[simp] theorem State.pwCntClr_frame (s : State) :
    (s.pwCntClr).now = s.now ∧ (s.pwCntClr).phase = s.phase ∧ (s.pwCntClr).pending = s.pending ∧
    (s.pwCntClr).nodeOfs = s.nodeOfs ∧ (s.pwCntClr).freeCtr = s.freeCtr ∧ (s.pwCntClr).tx = s.tx ∧ (s.pwCntClr).tl = s.tl ∧
    (s.pwCntClr).sq = s.sq := by
  and_intros <;> (unfold State.pwCntClr; repeat' (first | with_reducible rfl | (simp; done) | split | with_reducible refine (foldl_inv _ _ _ _ (fun _ _ => ?_)).trans ?_ | (dsimp only; first | split | with_reducible refine (foldl_inv _ _ _ _ (fun _ _ => ?_)).trans ?_)))

@[simp] theorem State.pwCntClr_frame2 (s : State) :
    (s.pwCntClr).fd = s.fd ∧ (s.pwCntClr).ex = s.ex ∧ (s.pwCntClr).sv = s.sv ∧ (s.pwCntClr).ax = s.ax ∧
    (s.pwCntClr).aq = s.aq ∧ (s.pwCntClr).il = s.il ∧ (s.pwCntClr).ln = s.ln ∧ (s.pwCntClr).fl = s.fl := by
  and_intros <;> (unfold State.pwCntClr; repeat' (first | with_reducible rfl | (simp; done) | split | with_reducible refine (foldl_inv _ _ _ _ (fun _ _ => ?_)).trans ?_ | (dsimp only; first | split | with_reducible refine (foldl_inv _ _ _ _ (fun _ _ => ?_)).trans ?_)))

@[simp] theorem State.pwCntClr_frame3 (s : State) :
    (s.pwCntClr).ev = s.ev ∧ (s.pwCntClr).safe = s.safe ∧ (s.pwCntClr).dm = s.dm ∧ (s.pwCntClr).cm = s.cm ∧
    (s.pwCntClr).cf = s.cf ∧ (s.pwCntClr).pw = s.pw ∧ (s.pwCntClr).th = s.th := by
  and_intros <;> (unfold State.pwCntClr; repeat' (first | with_reducible rfl | (simp; done) | split | with_reducible refine (foldl_inv _ _ _ _ (fun _ _ => ?_)).trans ?_ | (dsimp only; first | split | with_reducible refine (foldl_inv _ _ _ _ (fun _ _ => ?_)).trans ?_)))

@[simp] theorem State.setImage_parts (s : State) (b : Bool) (l : List (BitVec 8)) :
    (s.setImage b l).pw.gate = s.pw.gate := by
  unfold State.setImage; repeat' (first | with_reducible rfl | (simp; done) | split | with_reducible refine (State.regs_setA_foldl _ _ _ (fun _ _ => ?_)).trans ?_ | with_reducible refine (State.regs_setB_foldl _ _ _ (fun _ _ => ?_)).trans ?_ | with_reducible refine (State.regs_one_foldl _ _ _ (fun _ _ => ?_)).trans ?_ | with_reducible refine (State.regs_rsvd_foldl _ _ _ (fun _ _ => ?_)).trans ?_ | with_reducible refine (State.regs_waiting_foldl _ _ _ (fun _ _ => ?_)).trans ?_ | with_reducible refine (State.regs_stale_foldl _ _ _ (fun _ _ => ?_)).trans ?_ | with_reducible refine (State.regs_posted_foldl _ _ _ (fun _ _ => ?_)).trans ?_ | with_reducible refine (State.fd_mem_foldl _ _ _ (fun _ _ => ?_)).trans ?_ | with_reducible refine (State.dm_sram_foldl _ _ _ (fun _ _ => ?_)).trans ?_ | with_reducible refine (State.sq_frameNo_foldl _ _ _ (fun _ _ => ?_)).trans ?_ | with_reducible refine (State.sq_inScan_foldl _ _ _ (fun _ _ => ?_)).trans ?_ | with_reducible refine (State.sq_nextBoundary_foldl _ _ _ (fun _ _ => ?_)).trans ?_ | with_reducible refine (State.pw_gate_foldl _ _ _ (fun _ _ => ?_)).trans ?_ | (dsimp only; first | split | with_reducible refine (State.regs_setA_foldl _ _ _ (fun _ _ => ?_)).trans ?_ | with_reducible refine (State.regs_setB_foldl _ _ _ (fun _ _ => ?_)).trans ?_ | with_reducible refine (State.regs_one_foldl _ _ _ (fun _ _ => ?_)).trans ?_ | with_reducible refine (State.regs_rsvd_foldl _ _ _ (fun _ _ => ?_)).trans ?_ | with_reducible refine (State.regs_waiting_foldl _ _ _ (fun _ _ => ?_)).trans ?_ | with_reducible refine (State.regs_stale_foldl _ _ _ (fun _ _ => ?_)).trans ?_ | with_reducible refine (State.regs_posted_foldl _ _ _ (fun _ _ => ?_)).trans ?_ | with_reducible refine (State.fd_mem_foldl _ _ _ (fun _ _ => ?_)).trans ?_ | with_reducible refine (State.dm_sram_foldl _ _ _ (fun _ _ => ?_)).trans ?_ | with_reducible refine (State.sq_frameNo_foldl _ _ _ (fun _ _ => ?_)).trans ?_ | with_reducible refine (State.sq_inScan_foldl _ _ _ (fun _ _ => ?_)).trans ?_ | with_reducible refine (State.sq_nextBoundary_foldl _ _ _ (fun _ _ => ?_)).trans ?_ | with_reducible refine (State.pw_gate_foldl _ _ _ (fun _ _ => ?_)).trans ?_))

@[simp] theorem State.showSlot_parts (s : State) (b : Bool) (st : Nat) :
    (s.showSlot b st).regs.setA = s.regs.setA ∧ (s.showSlot b st).regs.setB = s.regs.setB ∧
    (s.showSlot b st).regs.one = s.regs.one ∧ (s.showSlot b st).regs.rsvd = s.regs.rsvd ∧
    (s.showSlot b st).regs.waiting = s.regs.waiting ∧ (s.showSlot b st).regs.stale = s.regs.stale ∧
    (s.showSlot b st).regs.posted = s.regs.posted := by
  and_intros <;> (unfold State.showSlot; repeat' (first | with_reducible rfl | (simp; done) | split | with_reducible refine (State.regs_setA_foldl _ _ _ (fun _ _ => ?_)).trans ?_ | with_reducible refine (State.regs_setB_foldl _ _ _ (fun _ _ => ?_)).trans ?_ | with_reducible refine (State.regs_one_foldl _ _ _ (fun _ _ => ?_)).trans ?_ | with_reducible refine (State.regs_rsvd_foldl _ _ _ (fun _ _ => ?_)).trans ?_ | with_reducible refine (State.regs_waiting_foldl _ _ _ (fun _ _ => ?_)).trans ?_ | with_reducible refine (State.regs_stale_foldl _ _ _ (fun _ _ => ?_)).trans ?_ | with_reducible refine (State.regs_posted_foldl _ _ _ (fun _ _ => ?_)).trans ?_ | with_reducible refine (State.fd_mem_foldl _ _ _ (fun _ _ => ?_)).trans ?_ | with_reducible refine (State.dm_sram_foldl _ _ _ (fun _ _ => ?_)).trans ?_ | with_reducible refine (State.sq_frameNo_foldl _ _ _ (fun _ _ => ?_)).trans ?_ | with_reducible refine (State.sq_inScan_foldl _ _ _ (fun _ _ => ?_)).trans ?_ | with_reducible refine (State.sq_nextBoundary_foldl _ _ _ (fun _ _ => ?_)).trans ?_ | with_reducible refine (State.pw_gate_foldl _ _ _ (fun _ _ => ?_)).trans ?_ | (dsimp only; first | split | with_reducible refine (State.regs_setA_foldl _ _ _ (fun _ _ => ?_)).trans ?_ | with_reducible refine (State.regs_setB_foldl _ _ _ (fun _ _ => ?_)).trans ?_ | with_reducible refine (State.regs_one_foldl _ _ _ (fun _ _ => ?_)).trans ?_ | with_reducible refine (State.regs_rsvd_foldl _ _ _ (fun _ _ => ?_)).trans ?_ | with_reducible refine (State.regs_waiting_foldl _ _ _ (fun _ _ => ?_)).trans ?_ | with_reducible refine (State.regs_stale_foldl _ _ _ (fun _ _ => ?_)).trans ?_ | with_reducible refine (State.regs_posted_foldl _ _ _ (fun _ _ => ?_)).trans ?_ | with_reducible refine (State.fd_mem_foldl _ _ _ (fun _ _ => ?_)).trans ?_ | with_reducible refine (State.dm_sram_foldl _ _ _ (fun _ _ => ?_)).trans ?_ | with_reducible refine (State.sq_frameNo_foldl _ _ _ (fun _ _ => ?_)).trans ?_ | with_reducible refine (State.sq_inScan_foldl _ _ _ (fun _ _ => ?_)).trans ?_ | with_reducible refine (State.sq_nextBoundary_foldl _ _ _ (fun _ _ => ?_)).trans ?_ | with_reducible refine (State.pw_gate_foldl _ _ _ (fun _ _ => ?_)).trans ?_)))

@[simp] theorem State.putRecord_parts (s : State) (b : Bool) (x : Slot) :
    (s.putRecord b x).pw.gate = s.pw.gate := by
  unfold State.putRecord; repeat' (first | with_reducible rfl | (simp; done) | split | with_reducible refine (State.regs_setA_foldl _ _ _ (fun _ _ => ?_)).trans ?_ | with_reducible refine (State.regs_setB_foldl _ _ _ (fun _ _ => ?_)).trans ?_ | with_reducible refine (State.regs_one_foldl _ _ _ (fun _ _ => ?_)).trans ?_ | with_reducible refine (State.regs_rsvd_foldl _ _ _ (fun _ _ => ?_)).trans ?_ | with_reducible refine (State.regs_waiting_foldl _ _ _ (fun _ _ => ?_)).trans ?_ | with_reducible refine (State.regs_stale_foldl _ _ _ (fun _ _ => ?_)).trans ?_ | with_reducible refine (State.regs_posted_foldl _ _ _ (fun _ _ => ?_)).trans ?_ | with_reducible refine (State.fd_mem_foldl _ _ _ (fun _ _ => ?_)).trans ?_ | with_reducible refine (State.dm_sram_foldl _ _ _ (fun _ _ => ?_)).trans ?_ | with_reducible refine (State.sq_frameNo_foldl _ _ _ (fun _ _ => ?_)).trans ?_ | with_reducible refine (State.sq_inScan_foldl _ _ _ (fun _ _ => ?_)).trans ?_ | with_reducible refine (State.sq_nextBoundary_foldl _ _ _ (fun _ _ => ?_)).trans ?_ | with_reducible refine (State.pw_gate_foldl _ _ _ (fun _ _ => ?_)).trans ?_ | (dsimp only; first | split | with_reducible refine (State.regs_setA_foldl _ _ _ (fun _ _ => ?_)).trans ?_ | with_reducible refine (State.regs_setB_foldl _ _ _ (fun _ _ => ?_)).trans ?_ | with_reducible refine (State.regs_one_foldl _ _ _ (fun _ _ => ?_)).trans ?_ | with_reducible refine (State.regs_rsvd_foldl _ _ _ (fun _ _ => ?_)).trans ?_ | with_reducible refine (State.regs_waiting_foldl _ _ _ (fun _ _ => ?_)).trans ?_ | with_reducible refine (State.regs_stale_foldl _ _ _ (fun _ _ => ?_)).trans ?_ | with_reducible refine (State.regs_posted_foldl _ _ _ (fun _ _ => ?_)).trans ?_ | with_reducible refine (State.fd_mem_foldl _ _ _ (fun _ _ => ?_)).trans ?_ | with_reducible refine (State.dm_sram_foldl _ _ _ (fun _ _ => ?_)).trans ?_ | with_reducible refine (State.sq_frameNo_foldl _ _ _ (fun _ _ => ?_)).trans ?_ | with_reducible refine (State.sq_inScan_foldl _ _ _ (fun _ _ => ?_)).trans ?_ | with_reducible refine (State.sq_nextBoundary_foldl _ _ _ (fun _ _ => ?_)).trans ?_ | with_reducible refine (State.pw_gate_foldl _ _ _ (fun _ _ => ?_)).trans ?_))

@[simp] theorem State.flashPerform_parts (s : State) (w : FlashWrite) :
    (s.flashPerform w).pw.gate = s.pw.gate := by
  unfold State.flashPerform; repeat' (first | with_reducible rfl | (simp; done) | split | with_reducible refine (State.regs_setA_foldl _ _ _ (fun _ _ => ?_)).trans ?_ | with_reducible refine (State.regs_setB_foldl _ _ _ (fun _ _ => ?_)).trans ?_ | with_reducible refine (State.regs_one_foldl _ _ _ (fun _ _ => ?_)).trans ?_ | with_reducible refine (State.regs_rsvd_foldl _ _ _ (fun _ _ => ?_)).trans ?_ | with_reducible refine (State.regs_waiting_foldl _ _ _ (fun _ _ => ?_)).trans ?_ | with_reducible refine (State.regs_stale_foldl _ _ _ (fun _ _ => ?_)).trans ?_ | with_reducible refine (State.regs_posted_foldl _ _ _ (fun _ _ => ?_)).trans ?_ | with_reducible refine (State.fd_mem_foldl _ _ _ (fun _ _ => ?_)).trans ?_ | with_reducible refine (State.dm_sram_foldl _ _ _ (fun _ _ => ?_)).trans ?_ | with_reducible refine (State.sq_frameNo_foldl _ _ _ (fun _ _ => ?_)).trans ?_ | with_reducible refine (State.sq_inScan_foldl _ _ _ (fun _ _ => ?_)).trans ?_ | with_reducible refine (State.sq_nextBoundary_foldl _ _ _ (fun _ _ => ?_)).trans ?_ | with_reducible refine (State.pw_gate_foldl _ _ _ (fun _ _ => ?_)).trans ?_ | (dsimp only; first | split | with_reducible refine (State.regs_setA_foldl _ _ _ (fun _ _ => ?_)).trans ?_ | with_reducible refine (State.regs_setB_foldl _ _ _ (fun _ _ => ?_)).trans ?_ | with_reducible refine (State.regs_one_foldl _ _ _ (fun _ _ => ?_)).trans ?_ | with_reducible refine (State.regs_rsvd_foldl _ _ _ (fun _ _ => ?_)).trans ?_ | with_reducible refine (State.regs_waiting_foldl _ _ _ (fun _ _ => ?_)).trans ?_ | with_reducible refine (State.regs_stale_foldl _ _ _ (fun _ _ => ?_)).trans ?_ | with_reducible refine (State.regs_posted_foldl _ _ _ (fun _ _ => ?_)).trans ?_ | with_reducible refine (State.fd_mem_foldl _ _ _ (fun _ _ => ?_)).trans ?_ | with_reducible refine (State.dm_sram_foldl _ _ _ (fun _ _ => ?_)).trans ?_ | with_reducible refine (State.sq_frameNo_foldl _ _ _ (fun _ _ => ?_)).trans ?_ | with_reducible refine (State.sq_inScan_foldl _ _ _ (fun _ _ => ?_)).trans ?_ | with_reducible refine (State.sq_nextBoundary_foldl _ _ _ (fun _ _ => ?_)).trans ?_ | with_reducible refine (State.pw_gate_foldl _ _ _ (fun _ _ => ?_)).trans ?_))

@[simp] theorem State.ownWrite_parts (s : State) (w : FlashWrite) :
    (s.ownWrite w).regs.setA = s.regs.setA ∧ (s.ownWrite w).regs.setB = s.regs.setB ∧ (s.ownWrite w).regs.one = s.regs.one ∧
    (s.ownWrite w).regs.rsvd = s.regs.rsvd ∧ (s.ownWrite w).regs.waiting = s.regs.waiting ∧
    (s.ownWrite w).regs.stale = s.regs.stale ∧ (s.ownWrite w).regs.posted = s.regs.posted ∧
    (s.ownWrite w).pw.gate = s.pw.gate := by
  and_intros <;> (unfold State.ownWrite; repeat' (first | with_reducible rfl | (simp; done) | split | with_reducible refine (State.regs_setA_foldl _ _ _ (fun _ _ => ?_)).trans ?_ | with_reducible refine (State.regs_setB_foldl _ _ _ (fun _ _ => ?_)).trans ?_ | with_reducible refine (State.regs_one_foldl _ _ _ (fun _ _ => ?_)).trans ?_ | with_reducible refine (State.regs_rsvd_foldl _ _ _ (fun _ _ => ?_)).trans ?_ | with_reducible refine (State.regs_waiting_foldl _ _ _ (fun _ _ => ?_)).trans ?_ | with_reducible refine (State.regs_stale_foldl _ _ _ (fun _ _ => ?_)).trans ?_ | with_reducible refine (State.regs_posted_foldl _ _ _ (fun _ _ => ?_)).trans ?_ | with_reducible refine (State.fd_mem_foldl _ _ _ (fun _ _ => ?_)).trans ?_ | with_reducible refine (State.dm_sram_foldl _ _ _ (fun _ _ => ?_)).trans ?_ | with_reducible refine (State.sq_frameNo_foldl _ _ _ (fun _ _ => ?_)).trans ?_ | with_reducible refine (State.sq_inScan_foldl _ _ _ (fun _ _ => ?_)).trans ?_ | with_reducible refine (State.sq_nextBoundary_foldl _ _ _ (fun _ _ => ?_)).trans ?_ | with_reducible refine (State.pw_gate_foldl _ _ _ (fun _ _ => ?_)).trans ?_ | (dsimp only; first | split | with_reducible refine (State.regs_setA_foldl _ _ _ (fun _ _ => ?_)).trans ?_ | with_reducible refine (State.regs_setB_foldl _ _ _ (fun _ _ => ?_)).trans ?_ | with_reducible refine (State.regs_one_foldl _ _ _ (fun _ _ => ?_)).trans ?_ | with_reducible refine (State.regs_rsvd_foldl _ _ _ (fun _ _ => ?_)).trans ?_ | with_reducible refine (State.regs_waiting_foldl _ _ _ (fun _ _ => ?_)).trans ?_ | with_reducible refine (State.regs_stale_foldl _ _ _ (fun _ _ => ?_)).trans ?_ | with_reducible refine (State.regs_posted_foldl _ _ _ (fun _ _ => ?_)).trans ?_ | with_reducible refine (State.fd_mem_foldl _ _ _ (fun _ _ => ?_)).trans ?_ | with_reducible refine (State.dm_sram_foldl _ _ _ (fun _ _ => ?_)).trans ?_ | with_reducible refine (State.sq_frameNo_foldl _ _ _ (fun _ _ => ?_)).trans ?_ | with_reducible refine (State.sq_inScan_foldl _ _ _ (fun _ _ => ?_)).trans ?_ | with_reducible refine (State.sq_nextBoundary_foldl _ _ _ (fun _ _ => ?_)).trans ?_ | with_reducible refine (State.pw_gate_foldl _ _ _ (fun _ _ => ?_)).trans ?_)))

@[simp] theorem State.markSlot_parts (s : State) (b : Bool) (x : Slot) :
    (s.markSlot b x).regs.setA = s.regs.setA ∧ (s.markSlot b x).regs.setB = s.regs.setB ∧
    (s.markSlot b x).regs.one = s.regs.one ∧ (s.markSlot b x).regs.rsvd = s.regs.rsvd ∧
    (s.markSlot b x).regs.waiting = s.regs.waiting ∧ (s.markSlot b x).regs.stale = s.regs.stale ∧
    (s.markSlot b x).regs.posted = s.regs.posted ∧ (s.markSlot b x).pw.gate = s.pw.gate := by
  and_intros <;> (unfold State.markSlot; repeat' (first | with_reducible rfl | (simp; done) | split | with_reducible refine (State.regs_setA_foldl _ _ _ (fun _ _ => ?_)).trans ?_ | with_reducible refine (State.regs_setB_foldl _ _ _ (fun _ _ => ?_)).trans ?_ | with_reducible refine (State.regs_one_foldl _ _ _ (fun _ _ => ?_)).trans ?_ | with_reducible refine (State.regs_rsvd_foldl _ _ _ (fun _ _ => ?_)).trans ?_ | with_reducible refine (State.regs_waiting_foldl _ _ _ (fun _ _ => ?_)).trans ?_ | with_reducible refine (State.regs_stale_foldl _ _ _ (fun _ _ => ?_)).trans ?_ | with_reducible refine (State.regs_posted_foldl _ _ _ (fun _ _ => ?_)).trans ?_ | with_reducible refine (State.fd_mem_foldl _ _ _ (fun _ _ => ?_)).trans ?_ | with_reducible refine (State.dm_sram_foldl _ _ _ (fun _ _ => ?_)).trans ?_ | with_reducible refine (State.sq_frameNo_foldl _ _ _ (fun _ _ => ?_)).trans ?_ | with_reducible refine (State.sq_inScan_foldl _ _ _ (fun _ _ => ?_)).trans ?_ | with_reducible refine (State.sq_nextBoundary_foldl _ _ _ (fun _ _ => ?_)).trans ?_ | with_reducible refine (State.pw_gate_foldl _ _ _ (fun _ _ => ?_)).trans ?_ | (dsimp only; first | split | with_reducible refine (State.regs_setA_foldl _ _ _ (fun _ _ => ?_)).trans ?_ | with_reducible refine (State.regs_setB_foldl _ _ _ (fun _ _ => ?_)).trans ?_ | with_reducible refine (State.regs_one_foldl _ _ _ (fun _ _ => ?_)).trans ?_ | with_reducible refine (State.regs_rsvd_foldl _ _ _ (fun _ _ => ?_)).trans ?_ | with_reducible refine (State.regs_waiting_foldl _ _ _ (fun _ _ => ?_)).trans ?_ | with_reducible refine (State.regs_stale_foldl _ _ _ (fun _ _ => ?_)).trans ?_ | with_reducible refine (State.regs_posted_foldl _ _ _ (fun _ _ => ?_)).trans ?_ | with_reducible refine (State.fd_mem_foldl _ _ _ (fun _ _ => ?_)).trans ?_ | with_reducible refine (State.dm_sram_foldl _ _ _ (fun _ _ => ?_)).trans ?_ | with_reducible refine (State.sq_frameNo_foldl _ _ _ (fun _ _ => ?_)).trans ?_ | with_reducible refine (State.sq_inScan_foldl _ _ _ (fun _ _ => ?_)).trans ?_ | with_reducible refine (State.sq_nextBoundary_foldl _ _ _ (fun _ _ => ?_)).trans ?_ | with_reducible refine (State.pw_gate_foldl _ _ _ (fun _ _ => ?_)).trans ?_)))

@[simp] theorem State.saveStart_parts (s : State) :
    (s.saveStart).pw.gate = s.pw.gate := by
  unfold State.saveStart; repeat' (first | with_reducible rfl | (simp; done) | split | with_reducible refine (State.regs_setA_foldl _ _ _ (fun _ _ => ?_)).trans ?_ | with_reducible refine (State.regs_setB_foldl _ _ _ (fun _ _ => ?_)).trans ?_ | with_reducible refine (State.regs_one_foldl _ _ _ (fun _ _ => ?_)).trans ?_ | with_reducible refine (State.regs_rsvd_foldl _ _ _ (fun _ _ => ?_)).trans ?_ | with_reducible refine (State.regs_waiting_foldl _ _ _ (fun _ _ => ?_)).trans ?_ | with_reducible refine (State.regs_stale_foldl _ _ _ (fun _ _ => ?_)).trans ?_ | with_reducible refine (State.regs_posted_foldl _ _ _ (fun _ _ => ?_)).trans ?_ | with_reducible refine (State.fd_mem_foldl _ _ _ (fun _ _ => ?_)).trans ?_ | with_reducible refine (State.dm_sram_foldl _ _ _ (fun _ _ => ?_)).trans ?_ | with_reducible refine (State.sq_frameNo_foldl _ _ _ (fun _ _ => ?_)).trans ?_ | with_reducible refine (State.sq_inScan_foldl _ _ _ (fun _ _ => ?_)).trans ?_ | with_reducible refine (State.sq_nextBoundary_foldl _ _ _ (fun _ _ => ?_)).trans ?_ | with_reducible refine (State.pw_gate_foldl _ _ _ (fun _ _ => ?_)).trans ?_ | (dsimp only; first | split | with_reducible refine (State.regs_setA_foldl _ _ _ (fun _ _ => ?_)).trans ?_ | with_reducible refine (State.regs_setB_foldl _ _ _ (fun _ _ => ?_)).trans ?_ | with_reducible refine (State.regs_one_foldl _ _ _ (fun _ _ => ?_)).trans ?_ | with_reducible refine (State.regs_rsvd_foldl _ _ _ (fun _ _ => ?_)).trans ?_ | with_reducible refine (State.regs_waiting_foldl _ _ _ (fun _ _ => ?_)).trans ?_ | with_reducible refine (State.regs_stale_foldl _ _ _ (fun _ _ => ?_)).trans ?_ | with_reducible refine (State.regs_posted_foldl _ _ _ (fun _ _ => ?_)).trans ?_ | with_reducible refine (State.fd_mem_foldl _ _ _ (fun _ _ => ?_)).trans ?_ | with_reducible refine (State.dm_sram_foldl _ _ _ (fun _ _ => ?_)).trans ?_ | with_reducible refine (State.sq_frameNo_foldl _ _ _ (fun _ _ => ?_)).trans ?_ | with_reducible refine (State.sq_inScan_foldl _ _ _ (fun _ _ => ?_)).trans ?_ | with_reducible refine (State.sq_nextBoundary_foldl _ _ _ (fun _ _ => ?_)).trans ?_ | with_reducible refine (State.pw_gate_foldl _ _ _ (fun _ _ => ?_)).trans ?_))

@[simp] theorem State.pwCntClr_parts (s : State) :
    (s.pwCntClr).regs.setA = s.regs.setA ∧ (s.pwCntClr).regs.setB = s.regs.setB ∧ (s.pwCntClr).regs.one = s.regs.one ∧
    (s.pwCntClr).regs.rsvd = s.regs.rsvd ∧ (s.pwCntClr).regs.waiting = s.regs.waiting ∧
    (s.pwCntClr).regs.stale = s.regs.stale ∧ (s.pwCntClr).regs.posted = s.regs.posted := by
  and_intros <;> (unfold State.pwCntClr; repeat' (first | with_reducible rfl | (simp; done) | split | with_reducible refine (State.regs_setA_foldl _ _ _ (fun _ _ => ?_)).trans ?_ | with_reducible refine (State.regs_setB_foldl _ _ _ (fun _ _ => ?_)).trans ?_ | with_reducible refine (State.regs_one_foldl _ _ _ (fun _ _ => ?_)).trans ?_ | with_reducible refine (State.regs_rsvd_foldl _ _ _ (fun _ _ => ?_)).trans ?_ | with_reducible refine (State.regs_waiting_foldl _ _ _ (fun _ _ => ?_)).trans ?_ | with_reducible refine (State.regs_stale_foldl _ _ _ (fun _ _ => ?_)).trans ?_ | with_reducible refine (State.regs_posted_foldl _ _ _ (fun _ _ => ?_)).trans ?_ | with_reducible refine (State.fd_mem_foldl _ _ _ (fun _ _ => ?_)).trans ?_ | with_reducible refine (State.dm_sram_foldl _ _ _ (fun _ _ => ?_)).trans ?_ | with_reducible refine (State.sq_frameNo_foldl _ _ _ (fun _ _ => ?_)).trans ?_ | with_reducible refine (State.sq_inScan_foldl _ _ _ (fun _ _ => ?_)).trans ?_ | with_reducible refine (State.sq_nextBoundary_foldl _ _ _ (fun _ _ => ?_)).trans ?_ | with_reducible refine (State.pw_gate_foldl _ _ _ (fun _ _ => ?_)).trans ?_ | (dsimp only; first | split | with_reducible refine (State.regs_setA_foldl _ _ _ (fun _ _ => ?_)).trans ?_ | with_reducible refine (State.regs_setB_foldl _ _ _ (fun _ _ => ?_)).trans ?_ | with_reducible refine (State.regs_one_foldl _ _ _ (fun _ _ => ?_)).trans ?_ | with_reducible refine (State.regs_rsvd_foldl _ _ _ (fun _ _ => ?_)).trans ?_ | with_reducible refine (State.regs_waiting_foldl _ _ _ (fun _ _ => ?_)).trans ?_ | with_reducible refine (State.regs_stale_foldl _ _ _ (fun _ _ => ?_)).trans ?_ | with_reducible refine (State.regs_posted_foldl _ _ _ (fun _ _ => ?_)).trans ?_ | with_reducible refine (State.fd_mem_foldl _ _ _ (fun _ _ => ?_)).trans ?_ | with_reducible refine (State.dm_sram_foldl _ _ _ (fun _ _ => ?_)).trans ?_ | with_reducible refine (State.sq_frameNo_foldl _ _ _ (fun _ _ => ?_)).trans ?_ | with_reducible refine (State.sq_inScan_foldl _ _ _ (fun _ _ => ?_)).trans ?_ | with_reducible refine (State.sq_nextBoundary_foldl _ _ _ (fun _ _ => ?_)).trans ?_ | with_reducible refine (State.pw_gate_foldl _ _ _ (fun _ _ => ?_)).trans ?_)))

end Sys2Proof.Machine
end

