-- ==== Sys2Proof/Laws/FrameThermal.lean ====
section
/-!
SUPPORT. The frames of the operations of Machine/Thermal.lean: the parts of the state that each of them leaves as they were.
-/

set_option linter.unusedTactic false
set_option linter.unreachableTactic false
set_option linter.unusedSimpArgs false

namespace Sys2Proof.Machine

@[simp] theorem State.setThDomain_frame (s : State) (d : Nat) (x : ThDomain) :
    (s.setThDomain d x).now = s.now ∧ (s.setThDomain d x).phase = s.phase ∧ (s.setThDomain d x).pending = s.pending ∧
    (s.setThDomain d x).nodeOfs = s.nodeOfs ∧ (s.setThDomain d x).freeCtr = s.freeCtr ∧ (s.setThDomain d x).tx = s.tx ∧
    (s.setThDomain d x).regs = s.regs ∧ (s.setThDomain d x).tl = s.tl := by
  and_intros <;> (unfold State.setThDomain; repeat' (first | with_reducible rfl | (simp; done) | split | with_reducible refine (foldl_inv _ _ _ _ (fun _ _ => ?_)).trans ?_ | (dsimp only; first | split | with_reducible refine (foldl_inv _ _ _ _ (fun _ _ => ?_)).trans ?_)))

@[simp] theorem State.setThDomain_frame2 (s : State) (d : Nat) (x : ThDomain) :
    (s.setThDomain d x).sq = s.sq ∧ (s.setThDomain d x).fd = s.fd ∧ (s.setThDomain d x).ex = s.ex ∧
    (s.setThDomain d x).sv = s.sv ∧ (s.setThDomain d x).ax = s.ax ∧ (s.setThDomain d x).aq = s.aq ∧
    (s.setThDomain d x).il = s.il ∧ (s.setThDomain d x).ln = s.ln := by
  and_intros <;> (unfold State.setThDomain; repeat' (first | with_reducible rfl | (simp; done) | split | with_reducible refine (foldl_inv _ _ _ _ (fun _ _ => ?_)).trans ?_ | (dsimp only; first | split | with_reducible refine (foldl_inv _ _ _ _ (fun _ _ => ?_)).trans ?_)))

@[simp] theorem State.setThDomain_frame3 (s : State) (d : Nat) (x : ThDomain) :
    (s.setThDomain d x).fl = s.fl ∧ (s.setThDomain d x).ev = s.ev ∧ (s.setThDomain d x).safe = s.safe ∧
    (s.setThDomain d x).dm = s.dm ∧ (s.setThDomain d x).cm = s.cm ∧ (s.setThDomain d x).cf = s.cf ∧
    (s.setThDomain d x).pw = s.pw := by
  and_intros <;> (unfold State.setThDomain; repeat' (first | with_reducible rfl | (simp; done) | split | with_reducible refine (foldl_inv _ _ _ _ (fun _ _ => ?_)).trans ?_ | (dsimp only; first | split | with_reducible refine (foldl_inv _ _ _ _ (fun _ _ => ?_)).trans ?_)))

@[simp] theorem State.updateSteps_frame (s : State) :
    (s.updateSteps).now = s.now ∧ (s.updateSteps).phase = s.phase ∧ (s.updateSteps).pending = s.pending ∧
    (s.updateSteps).nodeOfs = s.nodeOfs ∧ (s.updateSteps).freeCtr = s.freeCtr ∧ (s.updateSteps).tx = s.tx ∧
    (s.updateSteps).tl = s.tl ∧ (s.updateSteps).sq = s.sq := by
  and_intros <;> (unfold State.updateSteps; repeat' (first | with_reducible rfl | (simp; done) | split | with_reducible refine (foldl_inv _ _ _ _ (fun _ _ => ?_)).trans ?_ | (dsimp only; first | split | with_reducible refine (foldl_inv _ _ _ _ (fun _ _ => ?_)).trans ?_)))

@[simp] theorem State.updateSteps_frame2 (s : State) :
    (s.updateSteps).fd = s.fd ∧ (s.updateSteps).ex = s.ex ∧ (s.updateSteps).sv = s.sv ∧ (s.updateSteps).ax = s.ax ∧
    (s.updateSteps).aq = s.aq ∧ (s.updateSteps).il = s.il ∧ (s.updateSteps).ln = s.ln ∧ (s.updateSteps).fl = s.fl := by
  and_intros <;> (unfold State.updateSteps; repeat' (first | with_reducible rfl | (simp; done) | split | with_reducible refine (foldl_inv _ _ _ _ (fun _ _ => ?_)).trans ?_ | (dsimp only; first | split | with_reducible refine (foldl_inv _ _ _ _ (fun _ _ => ?_)).trans ?_)))

@[simp] theorem State.updateSteps_frame3 (s : State) :
    (s.updateSteps).safe = s.safe ∧ (s.updateSteps).dm = s.dm ∧ (s.updateSteps).cm = s.cm ∧ (s.updateSteps).cf = s.cf ∧
    (s.updateSteps).pw = s.pw ∧ (s.updateSteps).th = s.th := by
  and_intros <;> (unfold State.updateSteps; repeat' (first | with_reducible rfl | (simp; done) | split | with_reducible refine (foldl_inv _ _ _ _ (fun _ _ => ?_)).trans ?_ | (dsimp only; first | split | with_reducible refine (foldl_inv _ _ _ _ (fun _ _ => ?_)).trans ?_)))

@[simp] theorem State.showFail_frame (s : State) (d : Nat) (b : Bool) :
    (s.showFail d b).now = s.now ∧ (s.showFail d b).phase = s.phase ∧ (s.showFail d b).pending = s.pending ∧
    (s.showFail d b).nodeOfs = s.nodeOfs ∧ (s.showFail d b).freeCtr = s.freeCtr ∧ (s.showFail d b).tx = s.tx ∧
    (s.showFail d b).tl = s.tl ∧ (s.showFail d b).sq = s.sq := by
  and_intros <;> (unfold State.showFail; repeat' (first | with_reducible rfl | (simp; done) | split | with_reducible refine (foldl_inv _ _ _ _ (fun _ _ => ?_)).trans ?_ | (dsimp only; first | split | with_reducible refine (foldl_inv _ _ _ _ (fun _ _ => ?_)).trans ?_)))

@[simp] theorem State.showFail_frame2 (s : State) (d : Nat) (b : Bool) :
    (s.showFail d b).fd = s.fd ∧ (s.showFail d b).ex = s.ex ∧ (s.showFail d b).sv = s.sv ∧ (s.showFail d b).ax = s.ax ∧
    (s.showFail d b).aq = s.aq ∧ (s.showFail d b).il = s.il ∧ (s.showFail d b).ln = s.ln ∧ (s.showFail d b).fl = s.fl := by
  and_intros <;> (unfold State.showFail; repeat' (first | with_reducible rfl | (simp; done) | split | with_reducible refine (foldl_inv _ _ _ _ (fun _ _ => ?_)).trans ?_ | (dsimp only; first | split | with_reducible refine (foldl_inv _ _ _ _ (fun _ _ => ?_)).trans ?_)))

@[simp] theorem State.showFail_frame3 (s : State) (d : Nat) (b : Bool) :
    (s.showFail d b).ev = s.ev ∧ (s.showFail d b).safe = s.safe ∧ (s.showFail d b).dm = s.dm ∧ (s.showFail d b).cm = s.cm ∧
    (s.showFail d b).cf = s.cf ∧ (s.showFail d b).pw = s.pw ∧ (s.showFail d b).th = s.th := by
  and_intros <;> (unfold State.showFail; repeat' (first | with_reducible rfl | (simp; done) | split | with_reducible refine (foldl_inv _ _ _ _ (fun _ _ => ?_)).trans ?_ | (dsimp only; first | split | with_reducible refine (foldl_inv _ _ _ _ (fun _ _ => ?_)).trans ?_)))

@[simp] theorem State.sensorFail_frame (s : State) (d : Nat) :
    (s.sensorFail d).now = s.now ∧ (s.sensorFail d).phase = s.phase ∧ (s.sensorFail d).pending = s.pending ∧
    (s.sensorFail d).nodeOfs = s.nodeOfs ∧ (s.sensorFail d).freeCtr = s.freeCtr ∧ (s.sensorFail d).tx = s.tx ∧
    (s.sensorFail d).tl = s.tl ∧ (s.sensorFail d).sq = s.sq := by
  and_intros <;> (unfold State.sensorFail; repeat' (first | with_reducible rfl | (simp; done) | split | with_reducible refine (foldl_inv _ _ _ _ (fun _ _ => ?_)).trans ?_ | (dsimp only; first | split | with_reducible refine (foldl_inv _ _ _ _ (fun _ _ => ?_)).trans ?_)))

@[simp] theorem State.sensorFail_frame2 (s : State) (d : Nat) :
    (s.sensorFail d).fd = s.fd ∧ (s.sensorFail d).ex = s.ex ∧ (s.sensorFail d).sv = s.sv ∧ (s.sensorFail d).ax = s.ax ∧
    (s.sensorFail d).aq = s.aq ∧ (s.sensorFail d).il = s.il ∧ (s.sensorFail d).ln = s.ln ∧ (s.sensorFail d).fl = s.fl := by
  and_intros <;> (unfold State.sensorFail; repeat' (first | with_reducible rfl | (simp; done) | split | with_reducible refine (foldl_inv _ _ _ _ (fun _ _ => ?_)).trans ?_ | (dsimp only; first | split | with_reducible refine (foldl_inv _ _ _ _ (fun _ _ => ?_)).trans ?_)))

@[simp] theorem State.sensorFail_frame3 (s : State) (d : Nat) :
    (s.sensorFail d).safe = s.safe ∧ (s.sensorFail d).dm = s.dm ∧ (s.sensorFail d).cm = s.cm ∧ (s.sensorFail d).cf = s.cf ∧
    (s.sensorFail d).pw = s.pw := by
  and_intros <;> (unfold State.sensorFail; repeat' (first | with_reducible rfl | (simp; done) | split | with_reducible refine (foldl_inv _ _ _ _ (fun _ _ => ?_)).trans ?_ | (dsimp only; first | split | with_reducible refine (foldl_inv _ _ _ _ (fun _ _ => ?_)).trans ?_)))

@[simp] theorem State.judgeLevel_frame (s : State) (d : Nat) (r : Int) :
    (s.judgeLevel d r).now = s.now ∧ (s.judgeLevel d r).phase = s.phase ∧ (s.judgeLevel d r).pending = s.pending ∧
    (s.judgeLevel d r).nodeOfs = s.nodeOfs ∧ (s.judgeLevel d r).freeCtr = s.freeCtr ∧ (s.judgeLevel d r).tx = s.tx ∧
    (s.judgeLevel d r).regs = s.regs ∧ (s.judgeLevel d r).tl = s.tl := by
  and_intros <;> (unfold State.judgeLevel; repeat' (first | with_reducible rfl | (simp; done) | split | with_reducible refine (foldl_inv _ _ _ _ (fun _ _ => ?_)).trans ?_ | (dsimp only; first | split | with_reducible refine (foldl_inv _ _ _ _ (fun _ _ => ?_)).trans ?_)))

@[simp] theorem State.judgeLevel_frame2 (s : State) (d : Nat) (r : Int) :
    (s.judgeLevel d r).sq = s.sq ∧ (s.judgeLevel d r).fd = s.fd ∧ (s.judgeLevel d r).ex = s.ex ∧
    (s.judgeLevel d r).sv = s.sv ∧ (s.judgeLevel d r).ax = s.ax ∧ (s.judgeLevel d r).aq = s.aq ∧
    (s.judgeLevel d r).il = s.il ∧ (s.judgeLevel d r).ln = s.ln := by
  and_intros <;> (unfold State.judgeLevel; repeat' (first | with_reducible rfl | (simp; done) | split | with_reducible refine (foldl_inv _ _ _ _ (fun _ _ => ?_)).trans ?_ | (dsimp only; first | split | with_reducible refine (foldl_inv _ _ _ _ (fun _ _ => ?_)).trans ?_)))

@[simp] theorem State.judgeLevel_frame3 (s : State) (d : Nat) (r : Int) :
    (s.judgeLevel d r).fl = s.fl ∧ (s.judgeLevel d r).ev = s.ev ∧ (s.judgeLevel d r).safe = s.safe ∧
    (s.judgeLevel d r).dm = s.dm ∧ (s.judgeLevel d r).cm = s.cm ∧ (s.judgeLevel d r).cf = s.cf ∧
    (s.judgeLevel d r).pw = s.pw := by
  and_intros <;> (unfold State.judgeLevel; repeat' (first | with_reducible rfl | (simp; done) | split | with_reducible refine (foldl_inv _ _ _ _ (fun _ _ => ?_)).trans ?_ | (dsimp only; first | split | with_reducible refine (foldl_inv _ _ _ _ (fun _ _ => ?_)).trans ?_)))

@[simp] theorem State.judgeSensor_frame (s : State) (d : Nat) (bad : Bool) (r : Option Int) :
    (s.judgeSensor d bad r).now = s.now ∧ (s.judgeSensor d bad r).phase = s.phase ∧
    (s.judgeSensor d bad r).pending = s.pending ∧ (s.judgeSensor d bad r).nodeOfs = s.nodeOfs ∧
    (s.judgeSensor d bad r).freeCtr = s.freeCtr ∧ (s.judgeSensor d bad r).tx = s.tx ∧ (s.judgeSensor d bad r).tl = s.tl ∧
    (s.judgeSensor d bad r).sq = s.sq := by
  and_intros <;> (unfold State.judgeSensor; repeat' (first | with_reducible rfl | (simp; done) | split | with_reducible refine (foldl_inv _ _ _ _ (fun _ _ => ?_)).trans ?_ | (dsimp only; first | split | with_reducible refine (foldl_inv _ _ _ _ (fun _ _ => ?_)).trans ?_)))

@[simp] theorem State.judgeSensor_frame2 (s : State) (d : Nat) (bad : Bool) (r : Option Int) :
    (s.judgeSensor d bad r).fd = s.fd ∧ (s.judgeSensor d bad r).ex = s.ex ∧ (s.judgeSensor d bad r).sv = s.sv ∧
    (s.judgeSensor d bad r).ax = s.ax ∧ (s.judgeSensor d bad r).aq = s.aq ∧ (s.judgeSensor d bad r).il = s.il ∧
    (s.judgeSensor d bad r).ln = s.ln ∧ (s.judgeSensor d bad r).fl = s.fl := by
  and_intros <;> (unfold State.judgeSensor; repeat' (first | with_reducible rfl | (simp; done) | split | with_reducible refine (foldl_inv _ _ _ _ (fun _ _ => ?_)).trans ?_ | (dsimp only; first | split | with_reducible refine (foldl_inv _ _ _ _ (fun _ _ => ?_)).trans ?_)))

@[simp] theorem State.judgeSensor_frame3 (s : State) (d : Nat) (bad : Bool) (r : Option Int) :
    (s.judgeSensor d bad r).safe = s.safe ∧ (s.judgeSensor d bad r).dm = s.dm ∧ (s.judgeSensor d bad r).cm = s.cm ∧
    (s.judgeSensor d bad r).cf = s.cf ∧ (s.judgeSensor d bad r).pw = s.pw := by
  and_intros <;> (unfold State.judgeSensor; repeat' (first | with_reducible rfl | (simp; done) | split | with_reducible refine (foldl_inv _ _ _ _ (fun _ _ => ?_)).trans ?_ | (dsimp only; first | split | with_reducible refine (foldl_inv _ _ _ _ (fun _ _ => ?_)).trans ?_)))

@[simp] theorem State.extSample_frame (s : State) (k : Nat) :
    (s.extSample k).now = s.now ∧ (s.extSample k).phase = s.phase ∧ (s.extSample k).pending = s.pending ∧
    (s.extSample k).nodeOfs = s.nodeOfs ∧ (s.extSample k).freeCtr = s.freeCtr ∧ (s.extSample k).tx = s.tx ∧
    (s.extSample k).tl = s.tl ∧ (s.extSample k).sq = s.sq := by
  and_intros <;> (unfold State.extSample; repeat' (first | with_reducible rfl | (simp; done) | split | with_reducible refine (foldl_inv _ _ _ _ (fun _ _ => ?_)).trans ?_ | (dsimp only; first | split | with_reducible refine (foldl_inv _ _ _ _ (fun _ _ => ?_)).trans ?_)))

@[simp] theorem State.extSample_frame2 (s : State) (k : Nat) :
    (s.extSample k).fd = s.fd ∧ (s.extSample k).ex = s.ex ∧ (s.extSample k).sv = s.sv ∧ (s.extSample k).ax = s.ax ∧
    (s.extSample k).aq = s.aq ∧ (s.extSample k).il = s.il ∧ (s.extSample k).ln = s.ln ∧ (s.extSample k).fl = s.fl := by
  and_intros <;> (unfold State.extSample; repeat' (first | with_reducible rfl | (simp; done) | split | with_reducible refine (foldl_inv _ _ _ _ (fun _ _ => ?_)).trans ?_ | (dsimp only; first | split | with_reducible refine (foldl_inv _ _ _ _ (fun _ _ => ?_)).trans ?_)))

@[simp] theorem State.extSample_frame3 (s : State) (k : Nat) :
    (s.extSample k).safe = s.safe ∧ (s.extSample k).dm = s.dm ∧ (s.extSample k).cm = s.cm ∧ (s.extSample k).cf = s.cf ∧
    (s.extSample k).pw = s.pw := by
  and_intros <;> (unfold State.extSample; repeat' (first | with_reducible rfl | (simp; done) | split | with_reducible refine (foldl_inv _ _ _ _ (fun _ _ => ?_)).trans ?_ | (dsimp only; first | split | with_reducible refine (foldl_inv _ _ _ _ (fun _ _ => ?_)).trans ?_)))

@[simp] theorem State.enterShutdown_frame (s : State) (tj : Int) :
    (s.enterShutdown tj).now = s.now ∧ (s.enterShutdown tj).phase = s.phase ∧ (s.enterShutdown tj).pending = s.pending ∧
    (s.enterShutdown tj).nodeOfs = s.nodeOfs ∧ (s.enterShutdown tj).freeCtr = s.freeCtr ∧ (s.enterShutdown tj).tx = s.tx ∧
    (s.enterShutdown tj).tl = s.tl ∧ (s.enterShutdown tj).fd = s.fd := by
  and_intros <;> (unfold State.enterShutdown; repeat' (first | with_reducible rfl | (simp; done) | split | with_reducible refine (foldl_inv _ _ _ _ (fun _ _ => ?_)).trans ?_ | (dsimp only; first | split | with_reducible refine (foldl_inv _ _ _ _ (fun _ _ => ?_)).trans ?_)))

@[simp] theorem State.enterShutdown_frame2 (s : State) (tj : Int) :
    (s.enterShutdown tj).ex = s.ex ∧ (s.enterShutdown tj).sv = s.sv ∧ (s.enterShutdown tj).ax = s.ax ∧
    (s.enterShutdown tj).aq = s.aq ∧ (s.enterShutdown tj).ln = s.ln ∧ (s.enterShutdown tj).fl = s.fl ∧
    (s.enterShutdown tj).safe = s.safe ∧ (s.enterShutdown tj).dm = s.dm := by
  and_intros <;> (unfold State.enterShutdown; repeat' (first | with_reducible rfl | (simp; done) | split | with_reducible refine (foldl_inv _ _ _ _ (fun _ _ => ?_)).trans ?_ | (dsimp only; first | split | with_reducible refine (foldl_inv _ _ _ _ (fun _ _ => ?_)).trans ?_)))

@[simp] theorem State.enterShutdown_frame3 (s : State) (tj : Int) :
    (s.enterShutdown tj).cm = s.cm ∧ (s.enterShutdown tj).cf = s.cf ∧ (s.enterShutdown tj).pw = s.pw := by
  and_intros <;> (unfold State.enterShutdown; repeat' (first | with_reducible rfl | (simp; done) | split | with_reducible refine (foldl_inv _ _ _ _ (fun _ _ => ?_)).trans ?_ | (dsimp only; first | split | with_reducible refine (foldl_inv _ _ _ _ (fun _ _ => ?_)).trans ?_)))

@[simp] theorem State.shutdownSample_frame (s : State) (ok : Bool) (tj : Int) :
    (s.shutdownSample ok tj).now = s.now ∧ (s.shutdownSample ok tj).phase = s.phase ∧
    (s.shutdownSample ok tj).pending = s.pending ∧ (s.shutdownSample ok tj).nodeOfs = s.nodeOfs ∧
    (s.shutdownSample ok tj).freeCtr = s.freeCtr ∧ (s.shutdownSample ok tj).tx = s.tx ∧ (s.shutdownSample ok tj).tl = s.tl ∧
    (s.shutdownSample ok tj).fd = s.fd := by
  and_intros <;> (unfold State.shutdownSample; repeat' (first | with_reducible rfl | (simp; done) | split | with_reducible refine (foldl_inv _ _ _ _ (fun _ _ => ?_)).trans ?_ | (dsimp only; first | split | with_reducible refine (foldl_inv _ _ _ _ (fun _ _ => ?_)).trans ?_)))

@[simp] theorem State.shutdownSample_frame2 (s : State) (ok : Bool) (tj : Int) :
    (s.shutdownSample ok tj).ex = s.ex ∧ (s.shutdownSample ok tj).sv = s.sv ∧ (s.shutdownSample ok tj).ax = s.ax ∧
    (s.shutdownSample ok tj).aq = s.aq ∧ (s.shutdownSample ok tj).ln = s.ln ∧ (s.shutdownSample ok tj).fl = s.fl ∧
    (s.shutdownSample ok tj).safe = s.safe ∧ (s.shutdownSample ok tj).dm = s.dm := by
  and_intros <;> (unfold State.shutdownSample; repeat' (first | with_reducible rfl | (simp; done) | split | with_reducible refine (foldl_inv _ _ _ _ (fun _ _ => ?_)).trans ?_ | (dsimp only; first | split | with_reducible refine (foldl_inv _ _ _ _ (fun _ _ => ?_)).trans ?_)))

@[simp] theorem State.shutdownSample_frame3 (s : State) (ok : Bool) (tj : Int) :
    (s.shutdownSample ok tj).cm = s.cm ∧ (s.shutdownSample ok tj).cf = s.cf ∧ (s.shutdownSample ok tj).pw = s.pw := by
  and_intros <;> (unfold State.shutdownSample; repeat' (first | with_reducible rfl | (simp; done) | split | with_reducible refine (foldl_inv _ _ _ _ (fun _ _ => ?_)).trans ?_ | (dsimp only; first | split | with_reducible refine (foldl_inv _ _ _ _ (fun _ _ => ?_)).trans ?_)))

@[simp] theorem State.fireRangeSample_frame (s : State) (ok : Bool) (tj : Int) :
    (s.fireRangeSample ok tj).now = s.now ∧ (s.fireRangeSample ok tj).phase = s.phase ∧
    (s.fireRangeSample ok tj).pending = s.pending ∧ (s.fireRangeSample ok tj).nodeOfs = s.nodeOfs ∧
    (s.fireRangeSample ok tj).freeCtr = s.freeCtr ∧ (s.fireRangeSample ok tj).tx = s.tx ∧
    (s.fireRangeSample ok tj).tl = s.tl ∧ (s.fireRangeSample ok tj).sq = s.sq := by
  and_intros <;> (unfold State.fireRangeSample; repeat' (first | with_reducible rfl | (simp; done) | split | with_reducible refine (foldl_inv _ _ _ _ (fun _ _ => ?_)).trans ?_ | (dsimp only; first | split | with_reducible refine (foldl_inv _ _ _ _ (fun _ _ => ?_)).trans ?_)))

@[simp] theorem State.fireRangeSample_frame2 (s : State) (ok : Bool) (tj : Int) :
    (s.fireRangeSample ok tj).fd = s.fd ∧ (s.fireRangeSample ok tj).ex = s.ex ∧ (s.fireRangeSample ok tj).sv = s.sv ∧
    (s.fireRangeSample ok tj).ax = s.ax ∧ (s.fireRangeSample ok tj).aq = s.aq ∧ (s.fireRangeSample ok tj).il = s.il ∧
    (s.fireRangeSample ok tj).ln = s.ln ∧ (s.fireRangeSample ok tj).fl = s.fl := by
  and_intros <;> (unfold State.fireRangeSample; repeat' (first | with_reducible rfl | (simp; done) | split | with_reducible refine (foldl_inv _ _ _ _ (fun _ _ => ?_)).trans ?_ | (dsimp only; first | split | with_reducible refine (foldl_inv _ _ _ _ (fun _ _ => ?_)).trans ?_)))

@[simp] theorem State.fireRangeSample_frame3 (s : State) (ok : Bool) (tj : Int) :
    (s.fireRangeSample ok tj).safe = s.safe ∧ (s.fireRangeSample ok tj).dm = s.dm ∧ (s.fireRangeSample ok tj).cm = s.cm ∧
    (s.fireRangeSample ok tj).cf = s.cf ∧ (s.fireRangeSample ok tj).pw = s.pw := by
  and_intros <;> (unfold State.fireRangeSample; repeat' (first | with_reducible rfl | (simp; done) | split | with_reducible refine (foldl_inv _ _ _ _ (fun _ _ => ?_)).trans ?_ | (dsimp only; first | split | with_reducible refine (foldl_inv _ _ _ _ (fun _ _ => ?_)).trans ?_)))

@[simp] theorem State.warnSample_frame (s : State) (tj : Int) :
    (s.warnSample tj).now = s.now ∧ (s.warnSample tj).phase = s.phase ∧ (s.warnSample tj).pending = s.pending ∧
    (s.warnSample tj).nodeOfs = s.nodeOfs ∧ (s.warnSample tj).freeCtr = s.freeCtr ∧ (s.warnSample tj).tx = s.tx ∧
    (s.warnSample tj).tl = s.tl ∧ (s.warnSample tj).sq = s.sq := by
  and_intros <;> (unfold State.warnSample; repeat' (first | with_reducible rfl | (simp; done) | split | with_reducible refine (foldl_inv _ _ _ _ (fun _ _ => ?_)).trans ?_ | (dsimp only; first | split | with_reducible refine (foldl_inv _ _ _ _ (fun _ _ => ?_)).trans ?_)))

@[simp] theorem State.warnSample_frame2 (s : State) (tj : Int) :
    (s.warnSample tj).fd = s.fd ∧ (s.warnSample tj).ex = s.ex ∧ (s.warnSample tj).sv = s.sv ∧ (s.warnSample tj).ax = s.ax ∧
    (s.warnSample tj).aq = s.aq ∧ (s.warnSample tj).il = s.il ∧ (s.warnSample tj).ln = s.ln ∧ (s.warnSample tj).fl = s.fl := by
  and_intros <;> (unfold State.warnSample; repeat' (first | with_reducible rfl | (simp; done) | split | with_reducible refine (foldl_inv _ _ _ _ (fun _ _ => ?_)).trans ?_ | (dsimp only; first | split | with_reducible refine (foldl_inv _ _ _ _ (fun _ _ => ?_)).trans ?_)))

@[simp] theorem State.warnSample_frame3 (s : State) (tj : Int) :
    (s.warnSample tj).safe = s.safe ∧ (s.warnSample tj).dm = s.dm ∧ (s.warnSample tj).cm = s.cm ∧
    (s.warnSample tj).cf = s.cf ∧ (s.warnSample tj).pw = s.pw ∧ (s.warnSample tj).th = s.th := by
  and_intros <;> (unfold State.warnSample; repeat' (first | with_reducible rfl | (simp; done) | split | with_reducible refine (foldl_inv _ _ _ _ (fun _ _ => ?_)).trans ?_ | (dsimp only; first | split | with_reducible refine (foldl_inv _ _ _ _ (fun _ _ => ?_)).trans ?_)))

@[simp] theorem State.compensate_frame (s : State) :
    (s.compensate).now = s.now ∧ (s.compensate).phase = s.phase ∧ (s.compensate).pending = s.pending ∧
    (s.compensate).nodeOfs = s.nodeOfs ∧ (s.compensate).freeCtr = s.freeCtr ∧ (s.compensate).tx = s.tx ∧
    (s.compensate).regs = s.regs ∧ (s.compensate).tl = s.tl := by
  and_intros <;> (unfold State.compensate; repeat' (first | with_reducible rfl | (simp; done) | split | with_reducible refine (foldl_inv _ _ _ _ (fun _ _ => ?_)).trans ?_ | (dsimp only; first | split | with_reducible refine (foldl_inv _ _ _ _ (fun _ _ => ?_)).trans ?_)))

@[simp] theorem State.compensate_frame2 (s : State) :
    (s.compensate).sq = s.sq ∧ (s.compensate).fd = s.fd ∧ (s.compensate).ex = s.ex ∧ (s.compensate).sv = s.sv ∧
    (s.compensate).ax = s.ax ∧ (s.compensate).aq = s.aq ∧ (s.compensate).il = s.il ∧ (s.compensate).ln = s.ln := by
  and_intros <;> (unfold State.compensate; repeat' (first | with_reducible rfl | (simp; done) | split | with_reducible refine (foldl_inv _ _ _ _ (fun _ _ => ?_)).trans ?_ | (dsimp only; first | split | with_reducible refine (foldl_inv _ _ _ _ (fun _ _ => ?_)).trans ?_)))

@[simp] theorem State.compensate_frame3 (s : State) :
    (s.compensate).fl = s.fl ∧ (s.compensate).ev = s.ev ∧ (s.compensate).safe = s.safe ∧ (s.compensate).dm = s.dm ∧
    (s.compensate).cm = s.cm ∧ (s.compensate).cf = s.cf ∧ (s.compensate).pw = s.pw := by
  and_intros <;> (unfold State.compensate; repeat' (first | with_reducible rfl | (simp; done) | split | with_reducible refine (foldl_inv _ _ _ _ (fun _ _ => ?_)).trans ?_ | (dsimp only; first | split | with_reducible refine (foldl_inv _ _ _ _ (fun _ _ => ?_)).trans ?_)))

@[simp] theorem State.diodeSample_frame (s : State) (r : DiodeReading) :
    (s.diodeSample r).now = s.now ∧ (s.diodeSample r).phase = s.phase ∧ (s.diodeSample r).pending = s.pending ∧
    (s.diodeSample r).nodeOfs = s.nodeOfs ∧ (s.diodeSample r).freeCtr = s.freeCtr ∧ (s.diodeSample r).tl = s.tl ∧
    (s.diodeSample r).fd = s.fd ∧ (s.diodeSample r).ex = s.ex := by
  and_intros <;> (unfold State.diodeSample; repeat' (first | with_reducible rfl | (simp; done) | split | with_reducible refine (foldl_inv _ _ _ _ (fun _ _ => ?_)).trans ?_ | (dsimp only; first | split | with_reducible refine (foldl_inv _ _ _ _ (fun _ _ => ?_)).trans ?_)))

@[simp] theorem State.diodeSample_frame2 (s : State) (r : DiodeReading) :
    (s.diodeSample r).sv = s.sv ∧ (s.diodeSample r).ax = s.ax ∧ (s.diodeSample r).aq = s.aq ∧ (s.diodeSample r).ln = s.ln ∧
    (s.diodeSample r).dm = s.dm ∧ (s.diodeSample r).cm = s.cm := by
  and_intros <;> (unfold State.diodeSample; repeat' (first | with_reducible rfl | (simp; done) | split | with_reducible refine (foldl_inv _ _ _ _ (fun _ _ => ?_)).trans ?_ | (dsimp only; first | split | with_reducible refine (foldl_inv _ _ _ _ (fun _ _ => ?_)).trans ?_)))

@[simp] theorem State.thCntClr_frame (s : State) :
    (s.thCntClr).now = s.now ∧ (s.thCntClr).phase = s.phase ∧ (s.thCntClr).pending = s.pending ∧
    (s.thCntClr).nodeOfs = s.nodeOfs ∧ (s.thCntClr).freeCtr = s.freeCtr ∧ (s.thCntClr).tx = s.tx ∧ (s.thCntClr).tl = s.tl ∧
    (s.thCntClr).sq = s.sq := by
  and_intros <;> (unfold State.thCntClr; repeat' (first | with_reducible rfl | (simp; done) | split | with_reducible refine (foldl_inv _ _ _ _ (fun _ _ => ?_)).trans ?_ | (dsimp only; first | split | with_reducible refine (foldl_inv _ _ _ _ (fun _ _ => ?_)).trans ?_)))

@[simp] theorem State.thCntClr_frame2 (s : State) :
    (s.thCntClr).fd = s.fd ∧ (s.thCntClr).ex = s.ex ∧ (s.thCntClr).sv = s.sv ∧ (s.thCntClr).ax = s.ax ∧
    (s.thCntClr).aq = s.aq ∧ (s.thCntClr).il = s.il ∧ (s.thCntClr).ln = s.ln ∧ (s.thCntClr).fl = s.fl := by
  and_intros <;> (unfold State.thCntClr; repeat' (first | with_reducible rfl | (simp; done) | split | with_reducible refine (foldl_inv _ _ _ _ (fun _ _ => ?_)).trans ?_ | (dsimp only; first | split | with_reducible refine (foldl_inv _ _ _ _ (fun _ _ => ?_)).trans ?_)))

@[simp] theorem State.thCntClr_frame3 (s : State) :
    (s.thCntClr).ev = s.ev ∧ (s.thCntClr).safe = s.safe ∧ (s.thCntClr).dm = s.dm ∧ (s.thCntClr).cm = s.cm ∧
    (s.thCntClr).cf = s.cf ∧ (s.thCntClr).pw = s.pw ∧ (s.thCntClr).th = s.th := by
  and_intros <;> (unfold State.thCntClr; repeat' (first | with_reducible rfl | (simp; done) | split | with_reducible refine (foldl_inv _ _ _ _ (fun _ _ => ?_)).trans ?_ | (dsimp only; first | split | with_reducible refine (foldl_inv _ _ _ _ (fun _ _ => ?_)).trans ?_)))

@[simp] theorem State.startRamp_frame (s : State) (key chan : Nat) (v0 v1 : Int) :
    (s.startRamp key chan v0 v1).now = s.now ∧ (s.startRamp key chan v0 v1).phase = s.phase ∧
    (s.startRamp key chan v0 v1).pending = s.pending ∧ (s.startRamp key chan v0 v1).nodeOfs = s.nodeOfs ∧
    (s.startRamp key chan v0 v1).freeCtr = s.freeCtr ∧ (s.startRamp key chan v0 v1).tx = s.tx ∧
    (s.startRamp key chan v0 v1).tl = s.tl ∧ (s.startRamp key chan v0 v1).sq = s.sq := by
  and_intros <;> (unfold State.startRamp; repeat' (first | with_reducible rfl | (simp; done) | split | with_reducible refine (foldl_inv _ _ _ _ (fun _ _ => ?_)).trans ?_ | (dsimp only; first | split | with_reducible refine (foldl_inv _ _ _ _ (fun _ _ => ?_)).trans ?_)))

@[simp] theorem State.startRamp_frame2 (s : State) (key chan : Nat) (v0 v1 : Int) :
    (s.startRamp key chan v0 v1).fd = s.fd ∧ (s.startRamp key chan v0 v1).ex = s.ex ∧ (s.startRamp key chan v0 v1).sv = s.sv ∧
    (s.startRamp key chan v0 v1).ax = s.ax ∧ (s.startRamp key chan v0 v1).aq = s.aq ∧ (s.startRamp key chan v0 v1).il = s.il ∧
    (s.startRamp key chan v0 v1).ln = s.ln ∧ (s.startRamp key chan v0 v1).fl = s.fl := by
  and_intros <;> (unfold State.startRamp; repeat' (first | with_reducible rfl | (simp; done) | split | with_reducible refine (foldl_inv _ _ _ _ (fun _ _ => ?_)).trans ?_ | (dsimp only; first | split | with_reducible refine (foldl_inv _ _ _ _ (fun _ _ => ?_)).trans ?_)))

@[simp] theorem State.startRamp_frame3 (s : State) (key chan : Nat) (v0 v1 : Int) :
    (s.startRamp key chan v0 v1).ev = s.ev ∧ (s.startRamp key chan v0 v1).safe = s.safe ∧
    (s.startRamp key chan v0 v1).dm = s.dm ∧ (s.startRamp key chan v0 v1).cm = s.cm ∧ (s.startRamp key chan v0 v1).cf = s.cf ∧
    (s.startRamp key chan v0 v1).pw = s.pw := by
  and_intros <;> (unfold State.startRamp; repeat' (first | with_reducible rfl | (simp; done) | split | with_reducible refine (foldl_inv _ _ _ _ (fun _ _ => ?_)).trans ?_ | (dsimp only; first | split | with_reducible refine (foldl_inv _ _ _ _ (fun _ _ => ?_)).trans ?_)))

@[simp] theorem State.calWrite_frame (s : State) (a c : Nat) (signed : Bool) (v : Int) :
    (s.calWrite a c signed v).now = s.now ∧ (s.calWrite a c signed v).phase = s.phase ∧
    (s.calWrite a c signed v).pending = s.pending ∧ (s.calWrite a c signed v).nodeOfs = s.nodeOfs ∧
    (s.calWrite a c signed v).freeCtr = s.freeCtr ∧ (s.calWrite a c signed v).tx = s.tx ∧
    (s.calWrite a c signed v).tl = s.tl ∧ (s.calWrite a c signed v).sq = s.sq := by
  and_intros <;> (unfold State.calWrite; repeat' (first | with_reducible rfl | (simp; done) | split | with_reducible refine (foldl_inv _ _ _ _ (fun _ _ => ?_)).trans ?_ | (dsimp only; first | split | with_reducible refine (foldl_inv _ _ _ _ (fun _ _ => ?_)).trans ?_)))

@[simp] theorem State.calWrite_frame2 (s : State) (a c : Nat) (signed : Bool) (v : Int) :
    (s.calWrite a c signed v).fd = s.fd ∧ (s.calWrite a c signed v).ex = s.ex ∧ (s.calWrite a c signed v).sv = s.sv ∧
    (s.calWrite a c signed v).ax = s.ax ∧ (s.calWrite a c signed v).aq = s.aq ∧ (s.calWrite a c signed v).il = s.il ∧
    (s.calWrite a c signed v).ln = s.ln ∧ (s.calWrite a c signed v).fl = s.fl := by
  and_intros <;> (unfold State.calWrite; repeat' (first | with_reducible rfl | (simp; done) | split | with_reducible refine (foldl_inv _ _ _ _ (fun _ _ => ?_)).trans ?_ | (dsimp only; first | split | with_reducible refine (foldl_inv _ _ _ _ (fun _ _ => ?_)).trans ?_)))

@[simp] theorem State.calWrite_frame3 (s : State) (a c : Nat) (signed : Bool) (v : Int) :
    (s.calWrite a c signed v).ev = s.ev ∧ (s.calWrite a c signed v).safe = s.safe ∧ (s.calWrite a c signed v).dm = s.dm ∧
    (s.calWrite a c signed v).cm = s.cm ∧ (s.calWrite a c signed v).cf = s.cf ∧ (s.calWrite a c signed v).pw = s.pw := by
  and_intros <;> (unfold State.calWrite; repeat' (first | with_reducible rfl | (simp; done) | split | with_reducible refine (foldl_inv _ _ _ _ (fun _ _ => ?_)).trans ?_ | (dsimp only; first | split | with_reducible refine (foldl_inv _ _ _ _ (fun _ _ => ?_)).trans ?_)))

@[simp] theorem State.updateSteps_parts (s : State) :
    (s.updateSteps).regs.setA = s.regs.setA ∧ (s.updateSteps).regs.setB = s.regs.setB ∧
    (s.updateSteps).regs.one = s.regs.one ∧ (s.updateSteps).regs.rsvd = s.regs.rsvd ∧
    (s.updateSteps).regs.waiting = s.regs.waiting ∧ (s.updateSteps).regs.stale = s.regs.stale ∧
    (s.updateSteps).regs.posted = s.regs.posted := by
  and_intros <;> (unfold State.updateSteps; repeat' (first | with_reducible rfl | (simp; done) | split | with_reducible refine (State.regs_setA_foldl _ _ _ (fun _ _ => ?_)).trans ?_ | with_reducible refine (State.regs_setB_foldl _ _ _ (fun _ _ => ?_)).trans ?_ | with_reducible refine (State.regs_one_foldl _ _ _ (fun _ _ => ?_)).trans ?_ | with_reducible refine (State.regs_rsvd_foldl _ _ _ (fun _ _ => ?_)).trans ?_ | with_reducible refine (State.regs_waiting_foldl _ _ _ (fun _ _ => ?_)).trans ?_ | with_reducible refine (State.regs_stale_foldl _ _ _ (fun _ _ => ?_)).trans ?_ | with_reducible refine (State.regs_posted_foldl _ _ _ (fun _ _ => ?_)).trans ?_ | with_reducible refine (State.fd_mem_foldl _ _ _ (fun _ _ => ?_)).trans ?_ | with_reducible refine (State.dm_sram_foldl _ _ _ (fun _ _ => ?_)).trans ?_ | with_reducible refine (State.sq_frameNo_foldl _ _ _ (fun _ _ => ?_)).trans ?_ | with_reducible refine (State.sq_inScan_foldl _ _ _ (fun _ _ => ?_)).trans ?_ | with_reducible refine (State.sq_nextBoundary_foldl _ _ _ (fun _ _ => ?_)).trans ?_ | with_reducible refine (State.pw_gate_foldl _ _ _ (fun _ _ => ?_)).trans ?_ | (dsimp only; first | split | with_reducible refine (State.regs_setA_foldl _ _ _ (fun _ _ => ?_)).trans ?_ | with_reducible refine (State.regs_setB_foldl _ _ _ (fun _ _ => ?_)).trans ?_ | with_reducible refine (State.regs_one_foldl _ _ _ (fun _ _ => ?_)).trans ?_ | with_reducible refine (State.regs_rsvd_foldl _ _ _ (fun _ _ => ?_)).trans ?_ | with_reducible refine (State.regs_waiting_foldl _ _ _ (fun _ _ => ?_)).trans ?_ | with_reducible refine (State.regs_stale_foldl _ _ _ (fun _ _ => ?_)).trans ?_ | with_reducible refine (State.regs_posted_foldl _ _ _ (fun _ _ => ?_)).trans ?_ | with_reducible refine (State.fd_mem_foldl _ _ _ (fun _ _ => ?_)).trans ?_ | with_reducible refine (State.dm_sram_foldl _ _ _ (fun _ _ => ?_)).trans ?_ | with_reducible refine (State.sq_frameNo_foldl _ _ _ (fun _ _ => ?_)).trans ?_ | with_reducible refine (State.sq_inScan_foldl _ _ _ (fun _ _ => ?_)).trans ?_ | with_reducible refine (State.sq_nextBoundary_foldl _ _ _ (fun _ _ => ?_)).trans ?_ | with_reducible refine (State.pw_gate_foldl _ _ _ (fun _ _ => ?_)).trans ?_)))

@[simp] theorem State.showFail_parts (s : State) (d : Nat) (b : Bool) :
    (s.showFail d b).regs.setA = s.regs.setA ∧ (s.showFail d b).regs.setB = s.regs.setB ∧
    (s.showFail d b).regs.one = s.regs.one ∧ (s.showFail d b).regs.rsvd = s.regs.rsvd ∧
    (s.showFail d b).regs.waiting = s.regs.waiting ∧ (s.showFail d b).regs.stale = s.regs.stale ∧
    (s.showFail d b).regs.posted = s.regs.posted := by
  and_intros <;> (unfold State.showFail; repeat' (first | with_reducible rfl | (simp; done) | split | with_reducible refine (State.regs_setA_foldl _ _ _ (fun _ _ => ?_)).trans ?_ | with_reducible refine (State.regs_setB_foldl _ _ _ (fun _ _ => ?_)).trans ?_ | with_reducible refine (State.regs_one_foldl _ _ _ (fun _ _ => ?_)).trans ?_ | with_reducible refine (State.regs_rsvd_foldl _ _ _ (fun _ _ => ?_)).trans ?_ | with_reducible refine (State.regs_waiting_foldl _ _ _ (fun _ _ => ?_)).trans ?_ | with_reducible refine (State.regs_stale_foldl _ _ _ (fun _ _ => ?_)).trans ?_ | with_reducible refine (State.regs_posted_foldl _ _ _ (fun _ _ => ?_)).trans ?_ | with_reducible refine (State.fd_mem_foldl _ _ _ (fun _ _ => ?_)).trans ?_ | with_reducible refine (State.dm_sram_foldl _ _ _ (fun _ _ => ?_)).trans ?_ | with_reducible refine (State.sq_frameNo_foldl _ _ _ (fun _ _ => ?_)).trans ?_ | with_reducible refine (State.sq_inScan_foldl _ _ _ (fun _ _ => ?_)).trans ?_ | with_reducible refine (State.sq_nextBoundary_foldl _ _ _ (fun _ _ => ?_)).trans ?_ | with_reducible refine (State.pw_gate_foldl _ _ _ (fun _ _ => ?_)).trans ?_ | (dsimp only; first | split | with_reducible refine (State.regs_setA_foldl _ _ _ (fun _ _ => ?_)).trans ?_ | with_reducible refine (State.regs_setB_foldl _ _ _ (fun _ _ => ?_)).trans ?_ | with_reducible refine (State.regs_one_foldl _ _ _ (fun _ _ => ?_)).trans ?_ | with_reducible refine (State.regs_rsvd_foldl _ _ _ (fun _ _ => ?_)).trans ?_ | with_reducible refine (State.regs_waiting_foldl _ _ _ (fun _ _ => ?_)).trans ?_ | with_reducible refine (State.regs_stale_foldl _ _ _ (fun _ _ => ?_)).trans ?_ | with_reducible refine (State.regs_posted_foldl _ _ _ (fun _ _ => ?_)).trans ?_ | with_reducible refine (State.fd_mem_foldl _ _ _ (fun _ _ => ?_)).trans ?_ | with_reducible refine (State.dm_sram_foldl _ _ _ (fun _ _ => ?_)).trans ?_ | with_reducible refine (State.sq_frameNo_foldl _ _ _ (fun _ _ => ?_)).trans ?_ | with_reducible refine (State.sq_inScan_foldl _ _ _ (fun _ _ => ?_)).trans ?_ | with_reducible refine (State.sq_nextBoundary_foldl _ _ _ (fun _ _ => ?_)).trans ?_ | with_reducible refine (State.pw_gate_foldl _ _ _ (fun _ _ => ?_)).trans ?_)))

@[simp] theorem State.sensorFail_parts (s : State) (d : Nat) :
    (s.sensorFail d).regs.setA = s.regs.setA ∧ (s.sensorFail d).regs.setB = s.regs.setB ∧
    (s.sensorFail d).regs.one = s.regs.one ∧ (s.sensorFail d).regs.rsvd = s.regs.rsvd ∧
    (s.sensorFail d).regs.waiting = s.regs.waiting ∧ (s.sensorFail d).regs.stale = s.regs.stale ∧
    (s.sensorFail d).regs.posted = s.regs.posted := by
  and_intros <;> (unfold State.sensorFail; repeat' (first | with_reducible rfl | (simp; done) | split | with_reducible refine (State.regs_setA_foldl _ _ _ (fun _ _ => ?_)).trans ?_ | with_reducible refine (State.regs_setB_foldl _ _ _ (fun _ _ => ?_)).trans ?_ | with_reducible refine (State.regs_one_foldl _ _ _ (fun _ _ => ?_)).trans ?_ | with_reducible refine (State.regs_rsvd_foldl _ _ _ (fun _ _ => ?_)).trans ?_ | with_reducible refine (State.regs_waiting_foldl _ _ _ (fun _ _ => ?_)).trans ?_ | with_reducible refine (State.regs_stale_foldl _ _ _ (fun _ _ => ?_)).trans ?_ | with_reducible refine (State.regs_posted_foldl _ _ _ (fun _ _ => ?_)).trans ?_ | with_reducible refine (State.fd_mem_foldl _ _ _ (fun _ _ => ?_)).trans ?_ | with_reducible refine (State.dm_sram_foldl _ _ _ (fun _ _ => ?_)).trans ?_ | with_reducible refine (State.sq_frameNo_foldl _ _ _ (fun _ _ => ?_)).trans ?_ | with_reducible refine (State.sq_inScan_foldl _ _ _ (fun _ _ => ?_)).trans ?_ | with_reducible refine (State.sq_nextBoundary_foldl _ _ _ (fun _ _ => ?_)).trans ?_ | with_reducible refine (State.pw_gate_foldl _ _ _ (fun _ _ => ?_)).trans ?_ | (dsimp only; first | split | with_reducible refine (State.regs_setA_foldl _ _ _ (fun _ _ => ?_)).trans ?_ | with_reducible refine (State.regs_setB_foldl _ _ _ (fun _ _ => ?_)).trans ?_ | with_reducible refine (State.regs_one_foldl _ _ _ (fun _ _ => ?_)).trans ?_ | with_reducible refine (State.regs_rsvd_foldl _ _ _ (fun _ _ => ?_)).trans ?_ | with_reducible refine (State.regs_waiting_foldl _ _ _ (fun _ _ => ?_)).trans ?_ | with_reducible refine (State.regs_stale_foldl _ _ _ (fun _ _ => ?_)).trans ?_ | with_reducible refine (State.regs_posted_foldl _ _ _ (fun _ _ => ?_)).trans ?_ | with_reducible refine (State.fd_mem_foldl _ _ _ (fun _ _ => ?_)).trans ?_ | with_reducible refine (State.dm_sram_foldl _ _ _ (fun _ _ => ?_)).trans ?_ | with_reducible refine (State.sq_frameNo_foldl _ _ _ (fun _ _ => ?_)).trans ?_ | with_reducible refine (State.sq_inScan_foldl _ _ _ (fun _ _ => ?_)).trans ?_ | with_reducible refine (State.sq_nextBoundary_foldl _ _ _ (fun _ _ => ?_)).trans ?_ | with_reducible refine (State.pw_gate_foldl _ _ _ (fun _ _ => ?_)).trans ?_)))

@[simp] theorem State.judgeSensor_parts (s : State) (d : Nat) (bad : Bool) (r : Option Int) :
    (s.judgeSensor d bad r).regs.setA = s.regs.setA ∧ (s.judgeSensor d bad r).regs.setB = s.regs.setB ∧
    (s.judgeSensor d bad r).regs.one = s.regs.one ∧ (s.judgeSensor d bad r).regs.rsvd = s.regs.rsvd ∧
    (s.judgeSensor d bad r).regs.waiting = s.regs.waiting ∧ (s.judgeSensor d bad r).regs.stale = s.regs.stale ∧
    (s.judgeSensor d bad r).regs.posted = s.regs.posted := by
  and_intros <;> (unfold State.judgeSensor; repeat' (first | with_reducible rfl | (simp; done) | split | with_reducible refine (State.regs_setA_foldl _ _ _ (fun _ _ => ?_)).trans ?_ | with_reducible refine (State.regs_setB_foldl _ _ _ (fun _ _ => ?_)).trans ?_ | with_reducible refine (State.regs_one_foldl _ _ _ (fun _ _ => ?_)).trans ?_ | with_reducible refine (State.regs_rsvd_foldl _ _ _ (fun _ _ => ?_)).trans ?_ | with_reducible refine (State.regs_waiting_foldl _ _ _ (fun _ _ => ?_)).trans ?_ | with_reducible refine (State.regs_stale_foldl _ _ _ (fun _ _ => ?_)).trans ?_ | with_reducible refine (State.regs_posted_foldl _ _ _ (fun _ _ => ?_)).trans ?_ | with_reducible refine (State.fd_mem_foldl _ _ _ (fun _ _ => ?_)).trans ?_ | with_reducible refine (State.dm_sram_foldl _ _ _ (fun _ _ => ?_)).trans ?_ | with_reducible refine (State.sq_frameNo_foldl _ _ _ (fun _ _ => ?_)).trans ?_ | with_reducible refine (State.sq_inScan_foldl _ _ _ (fun _ _ => ?_)).trans ?_ | with_reducible refine (State.sq_nextBoundary_foldl _ _ _ (fun _ _ => ?_)).trans ?_ | with_reducible refine (State.pw_gate_foldl _ _ _ (fun _ _ => ?_)).trans ?_ | (dsimp only; first | split | with_reducible refine (State.regs_setA_foldl _ _ _ (fun _ _ => ?_)).trans ?_ | with_reducible refine (State.regs_setB_foldl _ _ _ (fun _ _ => ?_)).trans ?_ | with_reducible refine (State.regs_one_foldl _ _ _ (fun _ _ => ?_)).trans ?_ | with_reducible refine (State.regs_rsvd_foldl _ _ _ (fun _ _ => ?_)).trans ?_ | with_reducible refine (State.regs_waiting_foldl _ _ _ (fun _ _ => ?_)).trans ?_ | with_reducible refine (State.regs_stale_foldl _ _ _ (fun _ _ => ?_)).trans ?_ | with_reducible refine (State.regs_posted_foldl _ _ _ (fun _ _ => ?_)).trans ?_ | with_reducible refine (State.fd_mem_foldl _ _ _ (fun _ _ => ?_)).trans ?_ | with_reducible refine (State.dm_sram_foldl _ _ _ (fun _ _ => ?_)).trans ?_ | with_reducible refine (State.sq_frameNo_foldl _ _ _ (fun _ _ => ?_)).trans ?_ | with_reducible refine (State.sq_inScan_foldl _ _ _ (fun _ _ => ?_)).trans ?_ | with_reducible refine (State.sq_nextBoundary_foldl _ _ _ (fun _ _ => ?_)).trans ?_ | with_reducible refine (State.pw_gate_foldl _ _ _ (fun _ _ => ?_)).trans ?_)))

@[simp] theorem State.extSample_parts (s : State) (k : Nat) :
    (s.extSample k).regs.setA = s.regs.setA ∧ (s.extSample k).regs.setB = s.regs.setB ∧
    (s.extSample k).regs.one = s.regs.one ∧ (s.extSample k).regs.rsvd = s.regs.rsvd ∧
    (s.extSample k).regs.waiting = s.regs.waiting ∧ (s.extSample k).regs.stale = s.regs.stale ∧
    (s.extSample k).regs.posted = s.regs.posted := by
  and_intros <;> (unfold State.extSample; repeat' (first | with_reducible rfl | (simp; done) | split | with_reducible refine (State.regs_setA_foldl _ _ _ (fun _ _ => ?_)).trans ?_ | with_reducible refine (State.regs_setB_foldl _ _ _ (fun _ _ => ?_)).trans ?_ | with_reducible refine (State.regs_one_foldl _ _ _ (fun _ _ => ?_)).trans ?_ | with_reducible refine (State.regs_rsvd_foldl _ _ _ (fun _ _ => ?_)).trans ?_ | with_reducible refine (State.regs_waiting_foldl _ _ _ (fun _ _ => ?_)).trans ?_ | with_reducible refine (State.regs_stale_foldl _ _ _ (fun _ _ => ?_)).trans ?_ | with_reducible refine (State.regs_posted_foldl _ _ _ (fun _ _ => ?_)).trans ?_ | with_reducible refine (State.fd_mem_foldl _ _ _ (fun _ _ => ?_)).trans ?_ | with_reducible refine (State.dm_sram_foldl _ _ _ (fun _ _ => ?_)).trans ?_ | with_reducible refine (State.sq_frameNo_foldl _ _ _ (fun _ _ => ?_)).trans ?_ | with_reducible refine (State.sq_inScan_foldl _ _ _ (fun _ _ => ?_)).trans ?_ | with_reducible refine (State.sq_nextBoundary_foldl _ _ _ (fun _ _ => ?_)).trans ?_ | with_reducible refine (State.pw_gate_foldl _ _ _ (fun _ _ => ?_)).trans ?_ | (dsimp only; first | split | with_reducible refine (State.regs_setA_foldl _ _ _ (fun _ _ => ?_)).trans ?_ | with_reducible refine (State.regs_setB_foldl _ _ _ (fun _ _ => ?_)).trans ?_ | with_reducible refine (State.regs_one_foldl _ _ _ (fun _ _ => ?_)).trans ?_ | with_reducible refine (State.regs_rsvd_foldl _ _ _ (fun _ _ => ?_)).trans ?_ | with_reducible refine (State.regs_waiting_foldl _ _ _ (fun _ _ => ?_)).trans ?_ | with_reducible refine (State.regs_stale_foldl _ _ _ (fun _ _ => ?_)).trans ?_ | with_reducible refine (State.regs_posted_foldl _ _ _ (fun _ _ => ?_)).trans ?_ | with_reducible refine (State.fd_mem_foldl _ _ _ (fun _ _ => ?_)).trans ?_ | with_reducible refine (State.dm_sram_foldl _ _ _ (fun _ _ => ?_)).trans ?_ | with_reducible refine (State.sq_frameNo_foldl _ _ _ (fun _ _ => ?_)).trans ?_ | with_reducible refine (State.sq_inScan_foldl _ _ _ (fun _ _ => ?_)).trans ?_ | with_reducible refine (State.sq_nextBoundary_foldl _ _ _ (fun _ _ => ?_)).trans ?_ | with_reducible refine (State.pw_gate_foldl _ _ _ (fun _ _ => ?_)).trans ?_)))

@[simp] theorem State.enterShutdown_parts (s : State) (tj : Int) :
    (s.enterShutdown tj).regs.setA = s.regs.setA ∧ (s.enterShutdown tj).regs.setB = s.regs.setB ∧
    (s.enterShutdown tj).regs.one = s.regs.one ∧ (s.enterShutdown tj).regs.rsvd = s.regs.rsvd ∧
    (s.enterShutdown tj).regs.waiting = s.regs.waiting ∧ (s.enterShutdown tj).regs.stale = s.regs.stale ∧
    (s.enterShutdown tj).regs.posted = s.regs.posted ∧ (s.enterShutdown tj).sq.frameNo = s.sq.frameNo ∧
    (s.enterShutdown tj).sq.inScan = s.sq.inScan ∧ (s.enterShutdown tj).sq.nextBoundary = s.sq.nextBoundary := by
  and_intros <;> (unfold State.enterShutdown; repeat' (first | with_reducible rfl | (simp; done) | split | with_reducible refine (State.regs_setA_foldl _ _ _ (fun _ _ => ?_)).trans ?_ | with_reducible refine (State.regs_setB_foldl _ _ _ (fun _ _ => ?_)).trans ?_ | with_reducible refine (State.regs_one_foldl _ _ _ (fun _ _ => ?_)).trans ?_ | with_reducible refine (State.regs_rsvd_foldl _ _ _ (fun _ _ => ?_)).trans ?_ | with_reducible refine (State.regs_waiting_foldl _ _ _ (fun _ _ => ?_)).trans ?_ | with_reducible refine (State.regs_stale_foldl _ _ _ (fun _ _ => ?_)).trans ?_ | with_reducible refine (State.regs_posted_foldl _ _ _ (fun _ _ => ?_)).trans ?_ | with_reducible refine (State.fd_mem_foldl _ _ _ (fun _ _ => ?_)).trans ?_ | with_reducible refine (State.dm_sram_foldl _ _ _ (fun _ _ => ?_)).trans ?_ | with_reducible refine (State.sq_frameNo_foldl _ _ _ (fun _ _ => ?_)).trans ?_ | with_reducible refine (State.sq_inScan_foldl _ _ _ (fun _ _ => ?_)).trans ?_ | with_reducible refine (State.sq_nextBoundary_foldl _ _ _ (fun _ _ => ?_)).trans ?_ | with_reducible refine (State.pw_gate_foldl _ _ _ (fun _ _ => ?_)).trans ?_ | (dsimp only; first | split | with_reducible refine (State.regs_setA_foldl _ _ _ (fun _ _ => ?_)).trans ?_ | with_reducible refine (State.regs_setB_foldl _ _ _ (fun _ _ => ?_)).trans ?_ | with_reducible refine (State.regs_one_foldl _ _ _ (fun _ _ => ?_)).trans ?_ | with_reducible refine (State.regs_rsvd_foldl _ _ _ (fun _ _ => ?_)).trans ?_ | with_reducible refine (State.regs_waiting_foldl _ _ _ (fun _ _ => ?_)).trans ?_ | with_reducible refine (State.regs_stale_foldl _ _ _ (fun _ _ => ?_)).trans ?_ | with_reducible refine (State.regs_posted_foldl _ _ _ (fun _ _ => ?_)).trans ?_ | with_reducible refine (State.fd_mem_foldl _ _ _ (fun _ _ => ?_)).trans ?_ | with_reducible refine (State.dm_sram_foldl _ _ _ (fun _ _ => ?_)).trans ?_ | with_reducible refine (State.sq_frameNo_foldl _ _ _ (fun _ _ => ?_)).trans ?_ | with_reducible refine (State.sq_inScan_foldl _ _ _ (fun _ _ => ?_)).trans ?_ | with_reducible refine (State.sq_nextBoundary_foldl _ _ _ (fun _ _ => ?_)).trans ?_ | with_reducible refine (State.pw_gate_foldl _ _ _ (fun _ _ => ?_)).trans ?_)))

@[simp] theorem State.shutdownSample_parts (s : State) (ok : Bool) (tj : Int) :
    (s.shutdownSample ok tj).regs.setA = s.regs.setA ∧ (s.shutdownSample ok tj).regs.setB = s.regs.setB ∧
    (s.shutdownSample ok tj).regs.one = s.regs.one ∧ (s.shutdownSample ok tj).regs.rsvd = s.regs.rsvd ∧
    (s.shutdownSample ok tj).regs.waiting = s.regs.waiting ∧ (s.shutdownSample ok tj).regs.stale = s.regs.stale ∧
    (s.shutdownSample ok tj).regs.posted = s.regs.posted ∧ (s.shutdownSample ok tj).sq.frameNo = s.sq.frameNo ∧
    (s.shutdownSample ok tj).sq.inScan = s.sq.inScan ∧ (s.shutdownSample ok tj).sq.nextBoundary = s.sq.nextBoundary := by
  and_intros <;> (unfold State.shutdownSample; repeat' (first | with_reducible rfl | (simp; done) | split | with_reducible refine (State.regs_setA_foldl _ _ _ (fun _ _ => ?_)).trans ?_ | with_reducible refine (State.regs_setB_foldl _ _ _ (fun _ _ => ?_)).trans ?_ | with_reducible refine (State.regs_one_foldl _ _ _ (fun _ _ => ?_)).trans ?_ | with_reducible refine (State.regs_rsvd_foldl _ _ _ (fun _ _ => ?_)).trans ?_ | with_reducible refine (State.regs_waiting_foldl _ _ _ (fun _ _ => ?_)).trans ?_ | with_reducible refine (State.regs_stale_foldl _ _ _ (fun _ _ => ?_)).trans ?_ | with_reducible refine (State.regs_posted_foldl _ _ _ (fun _ _ => ?_)).trans ?_ | with_reducible refine (State.fd_mem_foldl _ _ _ (fun _ _ => ?_)).trans ?_ | with_reducible refine (State.dm_sram_foldl _ _ _ (fun _ _ => ?_)).trans ?_ | with_reducible refine (State.sq_frameNo_foldl _ _ _ (fun _ _ => ?_)).trans ?_ | with_reducible refine (State.sq_inScan_foldl _ _ _ (fun _ _ => ?_)).trans ?_ | with_reducible refine (State.sq_nextBoundary_foldl _ _ _ (fun _ _ => ?_)).trans ?_ | with_reducible refine (State.pw_gate_foldl _ _ _ (fun _ _ => ?_)).trans ?_ | (dsimp only; first | split | with_reducible refine (State.regs_setA_foldl _ _ _ (fun _ _ => ?_)).trans ?_ | with_reducible refine (State.regs_setB_foldl _ _ _ (fun _ _ => ?_)).trans ?_ | with_reducible refine (State.regs_one_foldl _ _ _ (fun _ _ => ?_)).trans ?_ | with_reducible refine (State.regs_rsvd_foldl _ _ _ (fun _ _ => ?_)).trans ?_ | with_reducible refine (State.regs_waiting_foldl _ _ _ (fun _ _ => ?_)).trans ?_ | with_reducible refine (State.regs_stale_foldl _ _ _ (fun _ _ => ?_)).trans ?_ | with_reducible refine (State.regs_posted_foldl _ _ _ (fun _ _ => ?_)).trans ?_ | with_reducible refine (State.fd_mem_foldl _ _ _ (fun _ _ => ?_)).trans ?_ | with_reducible refine (State.dm_sram_foldl _ _ _ (fun _ _ => ?_)).trans ?_ | with_reducible refine (State.sq_frameNo_foldl _ _ _ (fun _ _ => ?_)).trans ?_ | with_reducible refine (State.sq_inScan_foldl _ _ _ (fun _ _ => ?_)).trans ?_ | with_reducible refine (State.sq_nextBoundary_foldl _ _ _ (fun _ _ => ?_)).trans ?_ | with_reducible refine (State.pw_gate_foldl _ _ _ (fun _ _ => ?_)).trans ?_)))

@[simp] theorem State.fireRangeSample_parts (s : State) (ok : Bool) (tj : Int) :
    (s.fireRangeSample ok tj).regs.setA = s.regs.setA ∧ (s.fireRangeSample ok tj).regs.setB = s.regs.setB ∧
    (s.fireRangeSample ok tj).regs.one = s.regs.one ∧ (s.fireRangeSample ok tj).regs.rsvd = s.regs.rsvd ∧
    (s.fireRangeSample ok tj).regs.waiting = s.regs.waiting ∧ (s.fireRangeSample ok tj).regs.stale = s.regs.stale ∧
    (s.fireRangeSample ok tj).regs.posted = s.regs.posted := by
  and_intros <;> (unfold State.fireRangeSample; repeat' (first | with_reducible rfl | (simp; done) | split | with_reducible refine (State.regs_setA_foldl _ _ _ (fun _ _ => ?_)).trans ?_ | with_reducible refine (State.regs_setB_foldl _ _ _ (fun _ _ => ?_)).trans ?_ | with_reducible refine (State.regs_one_foldl _ _ _ (fun _ _ => ?_)).trans ?_ | with_reducible refine (State.regs_rsvd_foldl _ _ _ (fun _ _ => ?_)).trans ?_ | with_reducible refine (State.regs_waiting_foldl _ _ _ (fun _ _ => ?_)).trans ?_ | with_reducible refine (State.regs_stale_foldl _ _ _ (fun _ _ => ?_)).trans ?_ | with_reducible refine (State.regs_posted_foldl _ _ _ (fun _ _ => ?_)).trans ?_ | with_reducible refine (State.fd_mem_foldl _ _ _ (fun _ _ => ?_)).trans ?_ | with_reducible refine (State.dm_sram_foldl _ _ _ (fun _ _ => ?_)).trans ?_ | with_reducible refine (State.sq_frameNo_foldl _ _ _ (fun _ _ => ?_)).trans ?_ | with_reducible refine (State.sq_inScan_foldl _ _ _ (fun _ _ => ?_)).trans ?_ | with_reducible refine (State.sq_nextBoundary_foldl _ _ _ (fun _ _ => ?_)).trans ?_ | with_reducible refine (State.pw_gate_foldl _ _ _ (fun _ _ => ?_)).trans ?_ | (dsimp only; first | split | with_reducible refine (State.regs_setA_foldl _ _ _ (fun _ _ => ?_)).trans ?_ | with_reducible refine (State.regs_setB_foldl _ _ _ (fun _ _ => ?_)).trans ?_ | with_reducible refine (State.regs_one_foldl _ _ _ (fun _ _ => ?_)).trans ?_ | with_reducible refine (State.regs_rsvd_foldl _ _ _ (fun _ _ => ?_)).trans ?_ | with_reducible refine (State.regs_waiting_foldl _ _ _ (fun _ _ => ?_)).trans ?_ | with_reducible refine (State.regs_stale_foldl _ _ _ (fun _ _ => ?_)).trans ?_ | with_reducible refine (State.regs_posted_foldl _ _ _ (fun _ _ => ?_)).trans ?_ | with_reducible refine (State.fd_mem_foldl _ _ _ (fun _ _ => ?_)).trans ?_ | with_reducible refine (State.dm_sram_foldl _ _ _ (fun _ _ => ?_)).trans ?_ | with_reducible refine (State.sq_frameNo_foldl _ _ _ (fun _ _ => ?_)).trans ?_ | with_reducible refine (State.sq_inScan_foldl _ _ _ (fun _ _ => ?_)).trans ?_ | with_reducible refine (State.sq_nextBoundary_foldl _ _ _ (fun _ _ => ?_)).trans ?_ | with_reducible refine (State.pw_gate_foldl _ _ _ (fun _ _ => ?_)).trans ?_)))

@[simp] theorem State.warnSample_parts (s : State) (tj : Int) :
    (s.warnSample tj).regs.setA = s.regs.setA ∧ (s.warnSample tj).regs.setB = s.regs.setB ∧
    (s.warnSample tj).regs.one = s.regs.one ∧ (s.warnSample tj).regs.rsvd = s.regs.rsvd ∧
    (s.warnSample tj).regs.waiting = s.regs.waiting ∧ (s.warnSample tj).regs.stale = s.regs.stale ∧
    (s.warnSample tj).regs.posted = s.regs.posted := by
  and_intros <;> (unfold State.warnSample; repeat' (first | with_reducible rfl | (simp; done) | split | with_reducible refine (State.regs_setA_foldl _ _ _ (fun _ _ => ?_)).trans ?_ | with_reducible refine (State.regs_setB_foldl _ _ _ (fun _ _ => ?_)).trans ?_ | with_reducible refine (State.regs_one_foldl _ _ _ (fun _ _ => ?_)).trans ?_ | with_reducible refine (State.regs_rsvd_foldl _ _ _ (fun _ _ => ?_)).trans ?_ | with_reducible refine (State.regs_waiting_foldl _ _ _ (fun _ _ => ?_)).trans ?_ | with_reducible refine (State.regs_stale_foldl _ _ _ (fun _ _ => ?_)).trans ?_ | with_reducible refine (State.regs_posted_foldl _ _ _ (fun _ _ => ?_)).trans ?_ | with_reducible refine (State.fd_mem_foldl _ _ _ (fun _ _ => ?_)).trans ?_ | with_reducible refine (State.dm_sram_foldl _ _ _ (fun _ _ => ?_)).trans ?_ | with_reducible refine (State.sq_frameNo_foldl _ _ _ (fun _ _ => ?_)).trans ?_ | with_reducible refine (State.sq_inScan_foldl _ _ _ (fun _ _ => ?_)).trans ?_ | with_reducible refine (State.sq_nextBoundary_foldl _ _ _ (fun _ _ => ?_)).trans ?_ | with_reducible refine (State.pw_gate_foldl _ _ _ (fun _ _ => ?_)).trans ?_ | (dsimp only; first | split | with_reducible refine (State.regs_setA_foldl _ _ _ (fun _ _ => ?_)).trans ?_ | with_reducible refine (State.regs_setB_foldl _ _ _ (fun _ _ => ?_)).trans ?_ | with_reducible refine (State.regs_one_foldl _ _ _ (fun _ _ => ?_)).trans ?_ | with_reducible refine (State.regs_rsvd_foldl _ _ _ (fun _ _ => ?_)).trans ?_ | with_reducible refine (State.regs_waiting_foldl _ _ _ (fun _ _ => ?_)).trans ?_ | with_reducible refine (State.regs_stale_foldl _ _ _ (fun _ _ => ?_)).trans ?_ | with_reducible refine (State.regs_posted_foldl _ _ _ (fun _ _ => ?_)).trans ?_ | with_reducible refine (State.fd_mem_foldl _ _ _ (fun _ _ => ?_)).trans ?_ | with_reducible refine (State.dm_sram_foldl _ _ _ (fun _ _ => ?_)).trans ?_ | with_reducible refine (State.sq_frameNo_foldl _ _ _ (fun _ _ => ?_)).trans ?_ | with_reducible refine (State.sq_inScan_foldl _ _ _ (fun _ _ => ?_)).trans ?_ | with_reducible refine (State.sq_nextBoundary_foldl _ _ _ (fun _ _ => ?_)).trans ?_ | with_reducible refine (State.pw_gate_foldl _ _ _ (fun _ _ => ?_)).trans ?_)))

@[simp] theorem State.diodeSample_parts (s : State) (r : DiodeReading) :
    (s.diodeSample r).regs.one = s.regs.one ∧ (s.diodeSample r).regs.rsvd = s.regs.rsvd ∧
    (s.diodeSample r).regs.posted = s.regs.posted ∧ (s.diodeSample r).sq.frameNo = s.sq.frameNo ∧
    (s.diodeSample r).sq.inScan = s.sq.inScan ∧ (s.diodeSample r).sq.nextBoundary = s.sq.nextBoundary ∧
    (s.diodeSample r).pw.gate = s.pw.gate := by
  and_intros <;> (unfold State.diodeSample; repeat' (first | with_reducible rfl | (simp; done) | split | with_reducible refine (State.regs_setA_foldl _ _ _ (fun _ _ => ?_)).trans ?_ | with_reducible refine (State.regs_setB_foldl _ _ _ (fun _ _ => ?_)).trans ?_ | with_reducible refine (State.regs_one_foldl _ _ _ (fun _ _ => ?_)).trans ?_ | with_reducible refine (State.regs_rsvd_foldl _ _ _ (fun _ _ => ?_)).trans ?_ | with_reducible refine (State.regs_waiting_foldl _ _ _ (fun _ _ => ?_)).trans ?_ | with_reducible refine (State.regs_stale_foldl _ _ _ (fun _ _ => ?_)).trans ?_ | with_reducible refine (State.regs_posted_foldl _ _ _ (fun _ _ => ?_)).trans ?_ | with_reducible refine (State.fd_mem_foldl _ _ _ (fun _ _ => ?_)).trans ?_ | with_reducible refine (State.dm_sram_foldl _ _ _ (fun _ _ => ?_)).trans ?_ | with_reducible refine (State.sq_frameNo_foldl _ _ _ (fun _ _ => ?_)).trans ?_ | with_reducible refine (State.sq_inScan_foldl _ _ _ (fun _ _ => ?_)).trans ?_ | with_reducible refine (State.sq_nextBoundary_foldl _ _ _ (fun _ _ => ?_)).trans ?_ | with_reducible refine (State.pw_gate_foldl _ _ _ (fun _ _ => ?_)).trans ?_ | (dsimp only; first | split | with_reducible refine (State.regs_setA_foldl _ _ _ (fun _ _ => ?_)).trans ?_ | with_reducible refine (State.regs_setB_foldl _ _ _ (fun _ _ => ?_)).trans ?_ | with_reducible refine (State.regs_one_foldl _ _ _ (fun _ _ => ?_)).trans ?_ | with_reducible refine (State.regs_rsvd_foldl _ _ _ (fun _ _ => ?_)).trans ?_ | with_reducible refine (State.regs_waiting_foldl _ _ _ (fun _ _ => ?_)).trans ?_ | with_reducible refine (State.regs_stale_foldl _ _ _ (fun _ _ => ?_)).trans ?_ | with_reducible refine (State.regs_posted_foldl _ _ _ (fun _ _ => ?_)).trans ?_ | with_reducible refine (State.fd_mem_foldl _ _ _ (fun _ _ => ?_)).trans ?_ | with_reducible refine (State.dm_sram_foldl _ _ _ (fun _ _ => ?_)).trans ?_ | with_reducible refine (State.sq_frameNo_foldl _ _ _ (fun _ _ => ?_)).trans ?_ | with_reducible refine (State.sq_inScan_foldl _ _ _ (fun _ _ => ?_)).trans ?_ | with_reducible refine (State.sq_nextBoundary_foldl _ _ _ (fun _ _ => ?_)).trans ?_ | with_reducible refine (State.pw_gate_foldl _ _ _ (fun _ _ => ?_)).trans ?_)))

@[simp] theorem State.thCntClr_parts (s : State) :
    (s.thCntClr).regs.setA = s.regs.setA ∧ (s.thCntClr).regs.setB = s.regs.setB ∧ (s.thCntClr).regs.one = s.regs.one ∧
    (s.thCntClr).regs.rsvd = s.regs.rsvd ∧ (s.thCntClr).regs.waiting = s.regs.waiting ∧
    (s.thCntClr).regs.stale = s.regs.stale ∧ (s.thCntClr).regs.posted = s.regs.posted := by
  and_intros <;> (unfold State.thCntClr; repeat' (first | with_reducible rfl | (simp; done) | split | with_reducible refine (State.regs_setA_foldl _ _ _ (fun _ _ => ?_)).trans ?_ | with_reducible refine (State.regs_setB_foldl _ _ _ (fun _ _ => ?_)).trans ?_ | with_reducible refine (State.regs_one_foldl _ _ _ (fun _ _ => ?_)).trans ?_ | with_reducible refine (State.regs_rsvd_foldl _ _ _ (fun _ _ => ?_)).trans ?_ | with_reducible refine (State.regs_waiting_foldl _ _ _ (fun _ _ => ?_)).trans ?_ | with_reducible refine (State.regs_stale_foldl _ _ _ (fun _ _ => ?_)).trans ?_ | with_reducible refine (State.regs_posted_foldl _ _ _ (fun _ _ => ?_)).trans ?_ | with_reducible refine (State.fd_mem_foldl _ _ _ (fun _ _ => ?_)).trans ?_ | with_reducible refine (State.dm_sram_foldl _ _ _ (fun _ _ => ?_)).trans ?_ | with_reducible refine (State.sq_frameNo_foldl _ _ _ (fun _ _ => ?_)).trans ?_ | with_reducible refine (State.sq_inScan_foldl _ _ _ (fun _ _ => ?_)).trans ?_ | with_reducible refine (State.sq_nextBoundary_foldl _ _ _ (fun _ _ => ?_)).trans ?_ | with_reducible refine (State.pw_gate_foldl _ _ _ (fun _ _ => ?_)).trans ?_ | (dsimp only; first | split | with_reducible refine (State.regs_setA_foldl _ _ _ (fun _ _ => ?_)).trans ?_ | with_reducible refine (State.regs_setB_foldl _ _ _ (fun _ _ => ?_)).trans ?_ | with_reducible refine (State.regs_one_foldl _ _ _ (fun _ _ => ?_)).trans ?_ | with_reducible refine (State.regs_rsvd_foldl _ _ _ (fun _ _ => ?_)).trans ?_ | with_reducible refine (State.regs_waiting_foldl _ _ _ (fun _ _ => ?_)).trans ?_ | with_reducible refine (State.regs_stale_foldl _ _ _ (fun _ _ => ?_)).trans ?_ | with_reducible refine (State.regs_posted_foldl _ _ _ (fun _ _ => ?_)).trans ?_ | with_reducible refine (State.fd_mem_foldl _ _ _ (fun _ _ => ?_)).trans ?_ | with_reducible refine (State.dm_sram_foldl _ _ _ (fun _ _ => ?_)).trans ?_ | with_reducible refine (State.sq_frameNo_foldl _ _ _ (fun _ _ => ?_)).trans ?_ | with_reducible refine (State.sq_inScan_foldl _ _ _ (fun _ _ => ?_)).trans ?_ | with_reducible refine (State.sq_nextBoundary_foldl _ _ _ (fun _ _ => ?_)).trans ?_ | with_reducible refine (State.pw_gate_foldl _ _ _ (fun _ _ => ?_)).trans ?_)))

@[simp] theorem State.startRamp_parts (s : State) (key chan : Nat) (v0 v1 : Int) :
    (s.startRamp key chan v0 v1).regs.setA = s.regs.setA ∧ (s.startRamp key chan v0 v1).regs.setB = s.regs.setB ∧
    (s.startRamp key chan v0 v1).regs.one = s.regs.one ∧ (s.startRamp key chan v0 v1).regs.rsvd = s.regs.rsvd ∧
    (s.startRamp key chan v0 v1).regs.waiting = s.regs.waiting ∧ (s.startRamp key chan v0 v1).regs.stale = s.regs.stale ∧
    (s.startRamp key chan v0 v1).regs.posted = s.regs.posted := by
  and_intros <;> (unfold State.startRamp; repeat' (first | with_reducible rfl | (simp; done) | split | with_reducible refine (State.regs_setA_foldl _ _ _ (fun _ _ => ?_)).trans ?_ | with_reducible refine (State.regs_setB_foldl _ _ _ (fun _ _ => ?_)).trans ?_ | with_reducible refine (State.regs_one_foldl _ _ _ (fun _ _ => ?_)).trans ?_ | with_reducible refine (State.regs_rsvd_foldl _ _ _ (fun _ _ => ?_)).trans ?_ | with_reducible refine (State.regs_waiting_foldl _ _ _ (fun _ _ => ?_)).trans ?_ | with_reducible refine (State.regs_stale_foldl _ _ _ (fun _ _ => ?_)).trans ?_ | with_reducible refine (State.regs_posted_foldl _ _ _ (fun _ _ => ?_)).trans ?_ | with_reducible refine (State.fd_mem_foldl _ _ _ (fun _ _ => ?_)).trans ?_ | with_reducible refine (State.dm_sram_foldl _ _ _ (fun _ _ => ?_)).trans ?_ | with_reducible refine (State.sq_frameNo_foldl _ _ _ (fun _ _ => ?_)).trans ?_ | with_reducible refine (State.sq_inScan_foldl _ _ _ (fun _ _ => ?_)).trans ?_ | with_reducible refine (State.sq_nextBoundary_foldl _ _ _ (fun _ _ => ?_)).trans ?_ | with_reducible refine (State.pw_gate_foldl _ _ _ (fun _ _ => ?_)).trans ?_ | (dsimp only; first | split | with_reducible refine (State.regs_setA_foldl _ _ _ (fun _ _ => ?_)).trans ?_ | with_reducible refine (State.regs_setB_foldl _ _ _ (fun _ _ => ?_)).trans ?_ | with_reducible refine (State.regs_one_foldl _ _ _ (fun _ _ => ?_)).trans ?_ | with_reducible refine (State.regs_rsvd_foldl _ _ _ (fun _ _ => ?_)).trans ?_ | with_reducible refine (State.regs_waiting_foldl _ _ _ (fun _ _ => ?_)).trans ?_ | with_reducible refine (State.regs_stale_foldl _ _ _ (fun _ _ => ?_)).trans ?_ | with_reducible refine (State.regs_posted_foldl _ _ _ (fun _ _ => ?_)).trans ?_ | with_reducible refine (State.fd_mem_foldl _ _ _ (fun _ _ => ?_)).trans ?_ | with_reducible refine (State.dm_sram_foldl _ _ _ (fun _ _ => ?_)).trans ?_ | with_reducible refine (State.sq_frameNo_foldl _ _ _ (fun _ _ => ?_)).trans ?_ | with_reducible refine (State.sq_inScan_foldl _ _ _ (fun _ _ => ?_)).trans ?_ | with_reducible refine (State.sq_nextBoundary_foldl _ _ _ (fun _ _ => ?_)).trans ?_ | with_reducible refine (State.pw_gate_foldl _ _ _ (fun _ _ => ?_)).trans ?_)))

@[simp] theorem State.calWrite_parts (s : State) (a c : Nat) (signed : Bool) (v : Int) :
    (s.calWrite a c signed v).regs.setA = s.regs.setA ∧ (s.calWrite a c signed v).regs.setB = s.regs.setB ∧
    (s.calWrite a c signed v).regs.rsvd = s.regs.rsvd ∧ (s.calWrite a c signed v).regs.waiting = s.regs.waiting ∧
    (s.calWrite a c signed v).regs.stale = s.regs.stale ∧ (s.calWrite a c signed v).regs.posted = s.regs.posted := by
  and_intros <;> (unfold State.calWrite; repeat' (first | with_reducible rfl | (simp; done) | split | with_reducible refine (State.regs_setA_foldl _ _ _ (fun _ _ => ?_)).trans ?_ | with_reducible refine (State.regs_setB_foldl _ _ _ (fun _ _ => ?_)).trans ?_ | with_reducible refine (State.regs_one_foldl _ _ _ (fun _ _ => ?_)).trans ?_ | with_reducible refine (State.regs_rsvd_foldl _ _ _ (fun _ _ => ?_)).trans ?_ | with_reducible refine (State.regs_waiting_foldl _ _ _ (fun _ _ => ?_)).trans ?_ | with_reducible refine (State.regs_stale_foldl _ _ _ (fun _ _ => ?_)).trans ?_ | with_reducible refine (State.regs_posted_foldl _ _ _ (fun _ _ => ?_)).trans ?_ | with_reducible refine (State.fd_mem_foldl _ _ _ (fun _ _ => ?_)).trans ?_ | with_reducible refine (State.dm_sram_foldl _ _ _ (fun _ _ => ?_)).trans ?_ | with_reducible refine (State.sq_frameNo_foldl _ _ _ (fun _ _ => ?_)).trans ?_ | with_reducible refine (State.sq_inScan_foldl _ _ _ (fun _ _ => ?_)).trans ?_ | with_reducible refine (State.sq_nextBoundary_foldl _ _ _ (fun _ _ => ?_)).trans ?_ | with_reducible refine (State.pw_gate_foldl _ _ _ (fun _ _ => ?_)).trans ?_ | (dsimp only; first | split | with_reducible refine (State.regs_setA_foldl _ _ _ (fun _ _ => ?_)).trans ?_ | with_reducible refine (State.regs_setB_foldl _ _ _ (fun _ _ => ?_)).trans ?_ | with_reducible refine (State.regs_one_foldl _ _ _ (fun _ _ => ?_)).trans ?_ | with_reducible refine (State.regs_rsvd_foldl _ _ _ (fun _ _ => ?_)).trans ?_ | with_reducible refine (State.regs_waiting_foldl _ _ _ (fun _ _ => ?_)).trans ?_ | with_reducible refine (State.regs_stale_foldl _ _ _ (fun _ _ => ?_)).trans ?_ | with_reducible refine (State.regs_posted_foldl _ _ _ (fun _ _ => ?_)).trans ?_ | with_reducible refine (State.fd_mem_foldl _ _ _ (fun _ _ => ?_)).trans ?_ | with_reducible refine (State.dm_sram_foldl _ _ _ (fun _ _ => ?_)).trans ?_ | with_reducible refine (State.sq_frameNo_foldl _ _ _ (fun _ _ => ?_)).trans ?_ | with_reducible refine (State.sq_inScan_foldl _ _ _ (fun _ _ => ?_)).trans ?_ | with_reducible refine (State.sq_nextBoundary_foldl _ _ _ (fun _ _ => ?_)).trans ?_ | with_reducible refine (State.pw_gate_foldl _ _ _ (fun _ _ => ?_)).trans ?_)))

end Sys2Proof.Machine
end

