-- ==== Sys2Proof/Laws/FrameWrites.lean ====
section
/-!
SUPPORT. The frames of the operations of Machine/Writes.lean: the parts of the state that each of them leaves as they were.
-/

set_option linter.unusedTactic false
set_option linter.unreachableTactic false
set_option linter.unusedSimpArgs false

namespace Sys2Proof.Machine

@[simp] theorem State.w1cField_frame (s : State) (a v m : Nat) (f : Nat × Nat) :
    (s.w1cField a v m f).now = s.now ∧ (s.w1cField a v m f).phase = s.phase ∧ (s.w1cField a v m f).pending = s.pending ∧
    (s.w1cField a v m f).nodeOfs = s.nodeOfs ∧ (s.w1cField a v m f).freeCtr = s.freeCtr ∧ (s.w1cField a v m f).tx = s.tx ∧
    (s.w1cField a v m f).tl = s.tl ∧ (s.w1cField a v m f).sq = s.sq := by
  and_intros <;> (unfold State.w1cField; repeat' (first | with_reducible rfl | (simp; done) | split | with_reducible refine (foldl_inv _ _ _ _ (fun _ _ => ?_)).trans ?_ | (dsimp only; first | split | with_reducible refine (foldl_inv _ _ _ _ (fun _ _ => ?_)).trans ?_)))

@[simp] theorem State.w1cField_frame2 (s : State) (a v m : Nat) (f : Nat × Nat) :
    (s.w1cField a v m f).fd = s.fd ∧ (s.w1cField a v m f).ex = s.ex ∧ (s.w1cField a v m f).sv = s.sv ∧
    (s.w1cField a v m f).ax = s.ax ∧ (s.w1cField a v m f).aq = s.aq ∧ (s.w1cField a v m f).il = s.il ∧
    (s.w1cField a v m f).ln = s.ln ∧ (s.w1cField a v m f).fl = s.fl := by
  and_intros <;> (unfold State.w1cField; repeat' (first | with_reducible rfl | (simp; done) | split | with_reducible refine (foldl_inv _ _ _ _ (fun _ _ => ?_)).trans ?_ | (dsimp only; first | split | with_reducible refine (foldl_inv _ _ _ _ (fun _ _ => ?_)).trans ?_)))

@[simp] theorem State.w1cField_frame3 (s : State) (a v m : Nat) (f : Nat × Nat) :
    (s.w1cField a v m f).ev = s.ev ∧ (s.w1cField a v m f).safe = s.safe ∧ (s.w1cField a v m f).dm = s.dm ∧
    (s.w1cField a v m f).cm = s.cm ∧ (s.w1cField a v m f).cf = s.cf ∧ (s.w1cField a v m f).pw = s.pw ∧
    (s.w1cField a v m f).th = s.th := by
  and_intros <;> (unfold State.w1cField; repeat' (first | with_reducible rfl | (simp; done) | split | with_reducible refine (foldl_inv _ _ _ _ (fun _ _ => ?_)).trans ?_ | (dsimp only; first | split | with_reducible refine (foldl_inv _ _ _ _ (fun _ _ => ?_)).trans ?_)))

@[simp] theorem State.w1c_frame (s : State) (k : RegKind) (a v : Nat) :
    (s.w1c k a v).now = s.now ∧ (s.w1c k a v).phase = s.phase ∧ (s.w1c k a v).pending = s.pending ∧
    (s.w1c k a v).nodeOfs = s.nodeOfs ∧ (s.w1c k a v).freeCtr = s.freeCtr ∧ (s.w1c k a v).tx = s.tx ∧
    (s.w1c k a v).tl = s.tl ∧ (s.w1c k a v).sq = s.sq := by
  and_intros <;> (unfold State.w1c; repeat' (first | with_reducible rfl | (simp; done) | split | with_reducible refine (foldl_inv _ _ _ _ (fun _ _ => ?_)).trans ?_ | (dsimp only; first | split | with_reducible refine (foldl_inv _ _ _ _ (fun _ _ => ?_)).trans ?_)))

@[simp] theorem State.w1c_frame2 (s : State) (k : RegKind) (a v : Nat) :
    (s.w1c k a v).fd = s.fd ∧ (s.w1c k a v).ex = s.ex ∧ (s.w1c k a v).sv = s.sv ∧ (s.w1c k a v).ax = s.ax ∧
    (s.w1c k a v).aq = s.aq ∧ (s.w1c k a v).il = s.il ∧ (s.w1c k a v).ln = s.ln ∧ (s.w1c k a v).fl = s.fl := by
  and_intros <;> (unfold State.w1c; repeat' (first | with_reducible rfl | (simp; done) | split | with_reducible refine (foldl_inv _ _ _ _ (fun _ _ => ?_)).trans ?_ | (dsimp only; first | split | with_reducible refine (foldl_inv _ _ _ _ (fun _ _ => ?_)).trans ?_)))

@[simp] theorem State.w1c_frame3 (s : State) (k : RegKind) (a v : Nat) :
    (s.w1c k a v).ev = s.ev ∧ (s.w1c k a v).safe = s.safe ∧ (s.w1c k a v).dm = s.dm ∧ (s.w1c k a v).cm = s.cm ∧
    (s.w1c k a v).cf = s.cf ∧ (s.w1c k a v).pw = s.pw ∧ (s.w1c k a v).th = s.th := by
  and_intros <;> (unfold State.w1c; repeat' (first | with_reducible rfl | (simp; done) | split | with_reducible refine (foldl_inv _ _ _ _ (fun _ _ => ?_)).trans ?_ | (dsimp only; first | split | with_reducible refine (foldl_inv _ _ _ _ (fun _ _ => ?_)).trans ?_)))

@[simp] theorem State.writeRsvd_frame (s : State) (k : RegKind) (a v : Nat) :
    (s.writeRsvd k a v).now = s.now ∧ (s.writeRsvd k a v).phase = s.phase ∧ (s.writeRsvd k a v).pending = s.pending ∧
    (s.writeRsvd k a v).nodeOfs = s.nodeOfs ∧ (s.writeRsvd k a v).freeCtr = s.freeCtr ∧ (s.writeRsvd k a v).tx = s.tx ∧
    (s.writeRsvd k a v).tl = s.tl ∧ (s.writeRsvd k a v).sq = s.sq := by
  and_intros <;> (unfold State.writeRsvd; repeat' (first | with_reducible rfl | (simp; done) | split | with_reducible refine (foldl_inv _ _ _ _ (fun _ _ => ?_)).trans ?_ | (dsimp only; first | split | with_reducible refine (foldl_inv _ _ _ _ (fun _ _ => ?_)).trans ?_)))

@[simp] theorem State.writeRsvd_frame2 (s : State) (k : RegKind) (a v : Nat) :
    (s.writeRsvd k a v).fd = s.fd ∧ (s.writeRsvd k a v).ex = s.ex ∧ (s.writeRsvd k a v).sv = s.sv ∧
    (s.writeRsvd k a v).ax = s.ax ∧ (s.writeRsvd k a v).aq = s.aq ∧ (s.writeRsvd k a v).il = s.il ∧
    (s.writeRsvd k a v).ln = s.ln ∧ (s.writeRsvd k a v).fl = s.fl := by
  and_intros <;> (unfold State.writeRsvd; repeat' (first | with_reducible rfl | (simp; done) | split | with_reducible refine (foldl_inv _ _ _ _ (fun _ _ => ?_)).trans ?_ | (dsimp only; first | split | with_reducible refine (foldl_inv _ _ _ _ (fun _ _ => ?_)).trans ?_)))

@[simp] theorem State.writeRsvd_frame3 (s : State) (k : RegKind) (a v : Nat) :
    (s.writeRsvd k a v).ev = s.ev ∧ (s.writeRsvd k a v).safe = s.safe ∧ (s.writeRsvd k a v).dm = s.dm ∧
    (s.writeRsvd k a v).cm = s.cm ∧ (s.writeRsvd k a v).cf = s.cf ∧ (s.writeRsvd k a v).pw = s.pw ∧
    (s.writeRsvd k a v).th = s.th := by
  and_intros <;> (unfold State.writeRsvd; repeat' (first | with_reducible rfl | (simp; done) | split | with_reducible refine (foldl_inv _ _ _ _ (fun _ _ => ?_)).trans ?_ | (dsimp only; first | split | with_reducible refine (foldl_inv _ _ _ _ (fun _ _ => ?_)).trans ?_)))

@[simp] theorem State.liveWrite_frame (s : State) (a : Nat) (v : Score) :
    (s.liveWrite a v).now = s.now ∧ (s.liveWrite a v).phase = s.phase ∧ (s.liveWrite a v).pending = s.pending ∧
    (s.liveWrite a v).nodeOfs = s.nodeOfs ∧ (s.liveWrite a v).freeCtr = s.freeCtr ∧ (s.liveWrite a v).tl = s.tl ∧
    (s.liveWrite a v).fd = s.fd ∧ (s.liveWrite a v).ex = s.ex := by
  and_intros <;> (unfold State.liveWrite; repeat' (first | with_reducible rfl | (simp; done) | split | with_reducible refine (foldl_inv _ _ _ _ (fun _ _ => ?_)).trans ?_ | (dsimp only; first | split | with_reducible refine (foldl_inv _ _ _ _ (fun _ _ => ?_)).trans ?_)))

@[simp] theorem State.liveWrite_frame2 (s : State) (a : Nat) (v : Score) :
    (s.liveWrite a v).sv = s.sv ∧ (s.liveWrite a v).ax = s.ax ∧ (s.liveWrite a v).aq = s.aq ∧ (s.liveWrite a v).il = s.il ∧
    (s.liveWrite a v).ln = s.ln ∧ (s.liveWrite a v).dm = s.dm ∧ (s.liveWrite a v).cm = s.cm ∧ (s.liveWrite a v).pw = s.pw := by
  and_intros <;> (unfold State.liveWrite; repeat' (first | with_reducible rfl | (simp; done) | split | with_reducible refine (foldl_inv _ _ _ _ (fun _ _ => ?_)).trans ?_ | (dsimp only; first | split | with_reducible refine (foldl_inv _ _ _ _ (fun _ _ => ?_)).trans ?_)))

@[simp] theorem State.liveWrite_frame3 (s : State) (a : Nat) (v : Score) :
    (s.liveWrite a v).th = s.th := by
  unfold State.liveWrite; repeat' (first | with_reducible rfl | (simp; done) | split | with_reducible refine (foldl_inv _ _ _ _ (fun _ _ => ?_)).trans ?_ | (dsimp only; first | split | with_reducible refine (foldl_inv _ _ _ _ (fun _ _ => ?_)).trans ?_))

@[simp] theorem State.writeCal_frame (s : State) (a : Nat) (v : Score) (signed : Bool) :
    (s.writeCal a v signed).now = s.now ∧ (s.writeCal a v signed).phase = s.phase ∧
    (s.writeCal a v signed).pending = s.pending ∧ (s.writeCal a v signed).nodeOfs = s.nodeOfs ∧
    (s.writeCal a v signed).freeCtr = s.freeCtr ∧ (s.writeCal a v signed).tx = s.tx ∧ (s.writeCal a v signed).tl = s.tl ∧
    (s.writeCal a v signed).sq = s.sq := by
  and_intros <;> (unfold State.writeCal; repeat' (first | with_reducible rfl | (simp; done) | split | with_reducible refine (foldl_inv _ _ _ _ (fun _ _ => ?_)).trans ?_ | (dsimp only; first | split | with_reducible refine (foldl_inv _ _ _ _ (fun _ _ => ?_)).trans ?_)))

@[simp] theorem State.writeCal_frame2 (s : State) (a : Nat) (v : Score) (signed : Bool) :
    (s.writeCal a v signed).fd = s.fd ∧ (s.writeCal a v signed).ex = s.ex ∧ (s.writeCal a v signed).sv = s.sv ∧
    (s.writeCal a v signed).ax = s.ax ∧ (s.writeCal a v signed).aq = s.aq ∧ (s.writeCal a v signed).il = s.il ∧
    (s.writeCal a v signed).ln = s.ln ∧ (s.writeCal a v signed).fl = s.fl := by
  and_intros <;> (unfold State.writeCal; repeat' (first | with_reducible rfl | (simp; done) | split | with_reducible refine (foldl_inv _ _ _ _ (fun _ _ => ?_)).trans ?_ | (dsimp only; first | split | with_reducible refine (foldl_inv _ _ _ _ (fun _ _ => ?_)).trans ?_)))

@[simp] theorem State.writeCal_frame3 (s : State) (a : Nat) (v : Score) (signed : Bool) :
    (s.writeCal a v signed).ev = s.ev ∧ (s.writeCal a v signed).safe = s.safe ∧ (s.writeCal a v signed).dm = s.dm ∧
    (s.writeCal a v signed).cm = s.cm ∧ (s.writeCal a v signed).cf = s.cf ∧ (s.writeCal a v signed).pw = s.pw := by
  and_intros <;> (unfold State.writeCal; repeat' (first | with_reducible rfl | (simp; done) | split | with_reducible refine (foldl_inv _ _ _ _ (fun _ _ => ?_)).trans ?_ | (dsimp only; first | split | with_reducible refine (foldl_inv _ _ _ _ (fun _ _ => ?_)).trans ?_)))

@[simp] theorem State.writeSt_frame (s : State) (a : Nat) (v : Score) :
    (s.writeSt a v).now = s.now ∧ (s.writeSt a v).phase = s.phase ∧ (s.writeSt a v).pending = s.pending ∧
    (s.writeSt a v).nodeOfs = s.nodeOfs ∧ (s.writeSt a v).freeCtr = s.freeCtr ∧ (s.writeSt a v).tx = s.tx ∧
    (s.writeSt a v).sq = s.sq ∧ (s.writeSt a v).fd = s.fd := by
  and_intros <;> (unfold State.writeSt; repeat' (first | with_reducible rfl | (simp; done) | split | with_reducible refine (foldl_inv _ _ _ _ (fun _ _ => ?_)).trans ?_ | (dsimp only; first | split | with_reducible refine (foldl_inv _ _ _ _ (fun _ _ => ?_)).trans ?_)))

@[simp] theorem State.writeSt_frame2 (s : State) (a : Nat) (v : Score) :
    (s.writeSt a v).ex = s.ex ∧ (s.writeSt a v).sv = s.sv ∧ (s.writeSt a v).ax = s.ax ∧ (s.writeSt a v).aq = s.aq ∧
    (s.writeSt a v).il = s.il ∧ (s.writeSt a v).ln = s.ln ∧ (s.writeSt a v).fl = s.fl ∧ (s.writeSt a v).ev = s.ev := by
  and_intros <;> (unfold State.writeSt; repeat' (first | with_reducible rfl | (simp; done) | split | with_reducible refine (foldl_inv _ _ _ _ (fun _ _ => ?_)).trans ?_ | (dsimp only; first | split | with_reducible refine (foldl_inv _ _ _ _ (fun _ _ => ?_)).trans ?_)))

@[simp] theorem State.writeSt_frame3 (s : State) (a : Nat) (v : Score) :
    (s.writeSt a v).safe = s.safe ∧ (s.writeSt a v).dm = s.dm ∧ (s.writeSt a v).cm = s.cm ∧ (s.writeSt a v).cf = s.cf ∧
    (s.writeSt a v).pw = s.pw ∧ (s.writeSt a v).th = s.th := by
  and_intros <;> (unfold State.writeSt; repeat' (first | with_reducible rfl | (simp; done) | split | with_reducible refine (foldl_inv _ _ _ _ (fun _ _ => ?_)).trans ?_ | (dsimp only; first | split | with_reducible refine (foldl_inv _ _ _ _ (fun _ _ => ?_)).trans ?_)))

@[simp] theorem State.writeOne_frame (s : State) (a : Nat) (v : Score) :
    (s.writeOne a v).now = s.now ∧ (s.writeOne a v).phase = s.phase ∧ (s.writeOne a v).pending = s.pending ∧
    (s.writeOne a v).nodeOfs = s.nodeOfs ∧ (s.writeOne a v).freeCtr = s.freeCtr ∧ (s.writeOne a v).tx = s.tx ∧
    (s.writeOne a v).sq = s.sq ∧ (s.writeOne a v).fd = s.fd := by
  and_intros <;> (unfold State.writeOne; repeat' (first | with_reducible rfl | (simp; done) | split | with_reducible refine (foldl_inv _ _ _ _ (fun _ _ => ?_)).trans ?_ | (dsimp only; first | split | with_reducible refine (foldl_inv _ _ _ _ (fun _ _ => ?_)).trans ?_)))

@[simp] theorem State.writeOne_frame2 (s : State) (a : Nat) (v : Score) :
    (s.writeOne a v).ex = s.ex ∧ (s.writeOne a v).sv = s.sv ∧ (s.writeOne a v).ax = s.ax ∧ (s.writeOne a v).il = s.il ∧
    (s.writeOne a v).ln = s.ln ∧ (s.writeOne a v).fl = s.fl ∧ (s.writeOne a v).ev = s.ev ∧ (s.writeOne a v).safe = s.safe := by
  and_intros <;> (unfold State.writeOne; repeat' (first | with_reducible rfl | (simp; done) | split | with_reducible refine (foldl_inv _ _ _ _ (fun _ _ => ?_)).trans ?_ | (dsimp only; first | split | with_reducible refine (foldl_inv _ _ _ _ (fun _ _ => ?_)).trans ?_)))

@[simp] theorem State.writeOne_frame3 (s : State) (a : Nat) (v : Score) :
    (s.writeOne a v).dm = s.dm ∧ (s.writeOne a v).cm = s.cm ∧ (s.writeOne a v).cf = s.cf ∧ (s.writeOne a v).pw = s.pw := by
  and_intros <;> (unfold State.writeOne; repeat' (first | with_reducible rfl | (simp; done) | split | with_reducible refine (foldl_inv _ _ _ _ (fun _ _ => ?_)).trans ?_ | (dsimp only; first | split | with_reducible refine (foldl_inv _ _ _ _ (fun _ _ => ?_)).trans ?_)))

@[simp] theorem State.cmCntClr_frame (s : State) :
    (s.cmCntClr).now = s.now ∧ (s.cmCntClr).phase = s.phase ∧ (s.cmCntClr).pending = s.pending ∧
    (s.cmCntClr).nodeOfs = s.nodeOfs ∧ (s.cmCntClr).freeCtr = s.freeCtr ∧ (s.cmCntClr).tx = s.tx ∧ (s.cmCntClr).tl = s.tl ∧
    (s.cmCntClr).sq = s.sq := by
  and_intros <;> (unfold State.cmCntClr; repeat' (first | with_reducible rfl | (simp; done) | split | with_reducible refine (foldl_inv _ _ _ _ (fun _ _ => ?_)).trans ?_ | (dsimp only; first | split | with_reducible refine (foldl_inv _ _ _ _ (fun _ _ => ?_)).trans ?_)))

@[simp] theorem State.cmCntClr_frame2 (s : State) :
    (s.cmCntClr).fd = s.fd ∧ (s.cmCntClr).ex = s.ex ∧ (s.cmCntClr).sv = s.sv ∧ (s.cmCntClr).ax = s.ax ∧
    (s.cmCntClr).aq = s.aq ∧ (s.cmCntClr).il = s.il ∧ (s.cmCntClr).ln = s.ln ∧ (s.cmCntClr).fl = s.fl := by
  and_intros <;> (unfold State.cmCntClr; repeat' (first | with_reducible rfl | (simp; done) | split | with_reducible refine (foldl_inv _ _ _ _ (fun _ _ => ?_)).trans ?_ | (dsimp only; first | split | with_reducible refine (foldl_inv _ _ _ _ (fun _ _ => ?_)).trans ?_)))

@[simp] theorem State.cmCntClr_frame3 (s : State) :
    (s.cmCntClr).ev = s.ev ∧ (s.cmCntClr).safe = s.safe ∧ (s.cmCntClr).dm = s.dm ∧ (s.cmCntClr).cm = s.cm ∧
    (s.cmCntClr).cf = s.cf ∧ (s.cmCntClr).pw = s.pw ∧ (s.cmCntClr).th = s.th := by
  and_intros <;> (unfold State.cmCntClr; repeat' (first | with_reducible rfl | (simp; done) | split | with_reducible refine (foldl_inv _ _ _ _ (fun _ _ => ?_)).trans ?_ | (dsimp only; first | split | with_reducible refine (foldl_inv _ _ _ _ (fun _ _ => ?_)).trans ?_)))

@[simp] theorem State.cfCntClr_frame (s : State) :
    (s.cfCntClr).now = s.now ∧ (s.cfCntClr).phase = s.phase ∧ (s.cfCntClr).pending = s.pending ∧
    (s.cfCntClr).nodeOfs = s.nodeOfs ∧ (s.cfCntClr).freeCtr = s.freeCtr ∧ (s.cfCntClr).tx = s.tx ∧ (s.cfCntClr).tl = s.tl ∧
    (s.cfCntClr).sq = s.sq := by
  and_intros <;> (unfold State.cfCntClr; repeat' (first | with_reducible rfl | (simp; done) | split | with_reducible refine (foldl_inv _ _ _ _ (fun _ _ => ?_)).trans ?_ | (dsimp only; first | split | with_reducible refine (foldl_inv _ _ _ _ (fun _ _ => ?_)).trans ?_)))

@[simp] theorem State.cfCntClr_frame2 (s : State) :
    (s.cfCntClr).fd = s.fd ∧ (s.cfCntClr).ex = s.ex ∧ (s.cfCntClr).sv = s.sv ∧ (s.cfCntClr).ax = s.ax ∧
    (s.cfCntClr).aq = s.aq ∧ (s.cfCntClr).il = s.il ∧ (s.cfCntClr).ln = s.ln ∧ (s.cfCntClr).fl = s.fl := by
  and_intros <;> (unfold State.cfCntClr; repeat' (first | with_reducible rfl | (simp; done) | split | with_reducible refine (foldl_inv _ _ _ _ (fun _ _ => ?_)).trans ?_ | (dsimp only; first | split | with_reducible refine (foldl_inv _ _ _ _ (fun _ _ => ?_)).trans ?_)))

@[simp] theorem State.cfCntClr_frame3 (s : State) :
    (s.cfCntClr).ev = s.ev ∧ (s.cfCntClr).safe = s.safe ∧ (s.cfCntClr).dm = s.dm ∧ (s.cfCntClr).cm = s.cm ∧
    (s.cfCntClr).cf = s.cf ∧ (s.cfCntClr).pw = s.pw ∧ (s.cfCntClr).th = s.th := by
  and_intros <;> (unfold State.cfCntClr; repeat' (first | with_reducible rfl | (simp; done) | split | with_reducible refine (foldl_inv _ _ _ _ (fun _ _ => ?_)).trans ?_ | (dsimp only; first | split | with_reducible refine (foldl_inv _ _ _ _ (fun _ _ => ?_)).trans ?_)))

@[simp] theorem State.woHigh_frame (s : State) (a v : Nat) :
    (s.woHigh a v).now = s.now ∧ (s.woHigh a v).phase = s.phase ∧ (s.woHigh a v).pending = s.pending ∧
    (s.woHigh a v).nodeOfs = s.nodeOfs ∧ (s.woHigh a v).freeCtr = s.freeCtr ∧ (s.woHigh a v).fd = s.fd ∧
    (s.woHigh a v).ex = s.ex ∧ (s.woHigh a v).sv = s.sv := by
  and_intros <;> (unfold State.woHigh; repeat' (first | with_reducible rfl | (simp; done) | split | with_reducible refine (foldl_inv _ _ _ _ (fun _ _ => ?_)).trans ?_ | (dsimp only; first | split | with_reducible refine (foldl_inv _ _ _ _ (fun _ _ => ?_)).trans ?_)))

@[simp] theorem State.woHigh_frame2 (s : State) (a v : Nat) :
    (s.woHigh a v).ax = s.ax ∧ (s.woHigh a v).aq = s.aq ∧ (s.woHigh a v).il = s.il ∧ (s.woHigh a v).cm = s.cm ∧
    (s.woHigh a v).pw = s.pw ∧ (s.woHigh a v).th = s.th := by
  and_intros <;> (unfold State.woHigh; repeat' (first | with_reducible rfl | (simp; done) | split | with_reducible refine (foldl_inv _ _ _ _ (fun _ _ => ?_)).trans ?_ | (dsimp only; first | split | with_reducible refine (foldl_inv _ _ _ _ (fun _ _ => ?_)).trans ?_)))

@[simp] theorem State.refInvalid_frame (s : State) (b : Bool) :
    (s.refInvalid b).now = s.now ∧ (s.refInvalid b).phase = s.phase ∧ (s.refInvalid b).pending = s.pending ∧
    (s.refInvalid b).nodeOfs = s.nodeOfs ∧ (s.refInvalid b).freeCtr = s.freeCtr ∧ (s.refInvalid b).tx = s.tx ∧
    (s.refInvalid b).tl = s.tl ∧ (s.refInvalid b).sq = s.sq := by
  and_intros <;> (unfold State.refInvalid; repeat' (first | with_reducible rfl | (simp; done) | split | with_reducible refine (foldl_inv _ _ _ _ (fun _ _ => ?_)).trans ?_ | (dsimp only; first | split | with_reducible refine (foldl_inv _ _ _ _ (fun _ _ => ?_)).trans ?_)))

@[simp] theorem State.refInvalid_frame2 (s : State) (b : Bool) :
    (s.refInvalid b).fd = s.fd ∧ (s.refInvalid b).ex = s.ex ∧ (s.refInvalid b).sv = s.sv ∧ (s.refInvalid b).ax = s.ax ∧
    (s.refInvalid b).aq = s.aq ∧ (s.refInvalid b).il = s.il ∧ (s.refInvalid b).ln = s.ln ∧ (s.refInvalid b).fl = s.fl := by
  and_intros <;> (unfold State.refInvalid; repeat' (first | with_reducible rfl | (simp; done) | split | with_reducible refine (foldl_inv _ _ _ _ (fun _ _ => ?_)).trans ?_ | (dsimp only; first | split | with_reducible refine (foldl_inv _ _ _ _ (fun _ _ => ?_)).trans ?_)))

@[simp] theorem State.refInvalid_frame3 (s : State) (b : Bool) :
    (s.refInvalid b).ev = s.ev ∧ (s.refInvalid b).safe = s.safe ∧ (s.refInvalid b).dm = s.dm ∧ (s.refInvalid b).cm = s.cm ∧
    (s.refInvalid b).cf = s.cf ∧ (s.refInvalid b).pw = s.pw ∧ (s.refInvalid b).th = s.th := by
  and_intros <;> (unfold State.refInvalid; repeat' (first | with_reducible rfl | (simp; done) | split | with_reducible refine (foldl_inv _ _ _ _ (fun _ _ => ?_)).trans ?_ | (dsimp only; first | split | with_reducible refine (foldl_inv _ _ _ _ (fun _ _ => ?_)).trans ?_)))

@[simp] theorem State.acceptAlias_frame (s : State) (k : RegKind) (a : Nat) (v : Score) :
    (s.acceptAlias k a v).now = s.now ∧ (s.acceptAlias k a v).phase = s.phase ∧ (s.acceptAlias k a v).pending = s.pending ∧
    (s.acceptAlias k a v).nodeOfs = s.nodeOfs ∧ (s.acceptAlias k a v).freeCtr = s.freeCtr ∧ (s.acceptAlias k a v).tx = s.tx ∧
    (s.acceptAlias k a v).tl = s.tl ∧ (s.acceptAlias k a v).sq = s.sq := by
  and_intros <;> (unfold State.acceptAlias; repeat' (first | with_reducible rfl | (simp; done) | split | with_reducible refine (foldl_inv _ _ _ _ (fun _ _ => ?_)).trans ?_ | (dsimp only; first | split | with_reducible refine (foldl_inv _ _ _ _ (fun _ _ => ?_)).trans ?_)))

@[simp] theorem State.acceptAlias_frame2 (s : State) (k : RegKind) (a : Nat) (v : Score) :
    (s.acceptAlias k a v).fd = s.fd ∧ (s.acceptAlias k a v).ex = s.ex ∧ (s.acceptAlias k a v).sv = s.sv ∧
    (s.acceptAlias k a v).ax = s.ax ∧ (s.acceptAlias k a v).aq = s.aq ∧ (s.acceptAlias k a v).il = s.il ∧
    (s.acceptAlias k a v).ln = s.ln ∧ (s.acceptAlias k a v).fl = s.fl := by
  and_intros <;> (unfold State.acceptAlias; repeat' (first | with_reducible rfl | (simp; done) | split | with_reducible refine (foldl_inv _ _ _ _ (fun _ _ => ?_)).trans ?_ | (dsimp only; first | split | with_reducible refine (foldl_inv _ _ _ _ (fun _ _ => ?_)).trans ?_)))

@[simp] theorem State.acceptAlias_frame3 (s : State) (k : RegKind) (a : Nat) (v : Score) :
    (s.acceptAlias k a v).ev = s.ev ∧ (s.acceptAlias k a v).safe = s.safe ∧ (s.acceptAlias k a v).dm = s.dm ∧
    (s.acceptAlias k a v).cm = s.cm ∧ (s.acceptAlias k a v).cf = s.cf ∧ (s.acceptAlias k a v).pw = s.pw ∧
    (s.acceptAlias k a v).th = s.th := by
  and_intros <;> (unfold State.acceptAlias; repeat' (first | with_reducible rfl | (simp; done) | split | with_reducible refine (foldl_inv _ _ _ _ (fun _ _ => ?_)).trans ?_ | (dsimp only; first | split | with_reducible refine (foldl_inv _ _ _ _ (fun _ _ => ?_)).trans ?_)))

@[simp] theorem State.w1cField_parts (s : State) (a v m : Nat) (f : Nat × Nat) :
    (s.w1cField a v m f).regs.setA = s.regs.setA ∧ (s.w1cField a v m f).regs.setB = s.regs.setB ∧
    (s.w1cField a v m f).regs.one = s.regs.one ∧ (s.w1cField a v m f).regs.rsvd = s.regs.rsvd ∧
    (s.w1cField a v m f).regs.waiting = s.regs.waiting ∧ (s.w1cField a v m f).regs.stale = s.regs.stale ∧
    (s.w1cField a v m f).regs.posted = s.regs.posted := by
  and_intros <;> (unfold State.w1cField; repeat' (first | with_reducible rfl | (simp; done) | split | with_reducible refine (State.regs_setA_foldl _ _ _ (fun _ _ => ?_)).trans ?_ | with_reducible refine (State.regs_setB_foldl _ _ _ (fun _ _ => ?_)).trans ?_ | with_reducible refine (State.regs_one_foldl _ _ _ (fun _ _ => ?_)).trans ?_ | with_reducible refine (State.regs_rsvd_foldl _ _ _ (fun _ _ => ?_)).trans ?_ | with_reducible refine (State.regs_waiting_foldl _ _ _ (fun _ _ => ?_)).trans ?_ | with_reducible refine (State.regs_stale_foldl _ _ _ (fun _ _ => ?_)).trans ?_ | with_reducible refine (State.regs_posted_foldl _ _ _ (fun _ _ => ?_)).trans ?_ | with_reducible refine (State.fd_mem_foldl _ _ _ (fun _ _ => ?_)).trans ?_ | with_reducible refine (State.dm_sram_foldl _ _ _ (fun _ _ => ?_)).trans ?_ | with_reducible refine (State.sq_frameNo_foldl _ _ _ (fun _ _ => ?_)).trans ?_ | with_reducible refine (State.sq_inScan_foldl _ _ _ (fun _ _ => ?_)).trans ?_ | with_reducible refine (State.sq_nextBoundary_foldl _ _ _ (fun _ _ => ?_)).trans ?_ | with_reducible refine (State.pw_gate_foldl _ _ _ (fun _ _ => ?_)).trans ?_ | (dsimp only; first | split | with_reducible refine (State.regs_setA_foldl _ _ _ (fun _ _ => ?_)).trans ?_ | with_reducible refine (State.regs_setB_foldl _ _ _ (fun _ _ => ?_)).trans ?_ | with_reducible refine (State.regs_one_foldl _ _ _ (fun _ _ => ?_)).trans ?_ | with_reducible refine (State.regs_rsvd_foldl _ _ _ (fun _ _ => ?_)).trans ?_ | with_reducible refine (State.regs_waiting_foldl _ _ _ (fun _ _ => ?_)).trans ?_ | with_reducible refine (State.regs_stale_foldl _ _ _ (fun _ _ => ?_)).trans ?_ | with_reducible refine (State.regs_posted_foldl _ _ _ (fun _ _ => ?_)).trans ?_ | with_reducible refine (State.fd_mem_foldl _ _ _ (fun _ _ => ?_)).trans ?_ | with_reducible refine (State.dm_sram_foldl _ _ _ (fun _ _ => ?_)).trans ?_ | with_reducible refine (State.sq_frameNo_foldl _ _ _ (fun _ _ => ?_)).trans ?_ | with_reducible refine (State.sq_inScan_foldl _ _ _ (fun _ _ => ?_)).trans ?_ | with_reducible refine (State.sq_nextBoundary_foldl _ _ _ (fun _ _ => ?_)).trans ?_ | with_reducible refine (State.pw_gate_foldl _ _ _ (fun _ _ => ?_)).trans ?_)))

@[simp] theorem State.w1c_parts (s : State) (k : RegKind) (a v : Nat) :
    (s.w1c k a v).regs.setA = s.regs.setA ∧ (s.w1c k a v).regs.setB = s.regs.setB ∧ (s.w1c k a v).regs.one = s.regs.one ∧
    (s.w1c k a v).regs.rsvd = s.regs.rsvd ∧ (s.w1c k a v).regs.waiting = s.regs.waiting ∧
    (s.w1c k a v).regs.stale = s.regs.stale ∧ (s.w1c k a v).regs.posted = s.regs.posted := by
  and_intros <;> (unfold State.w1c; repeat' (first | with_reducible rfl | (simp; done) | split | with_reducible refine (State.regs_setA_foldl _ _ _ (fun _ _ => ?_)).trans ?_ | with_reducible refine (State.regs_setB_foldl _ _ _ (fun _ _ => ?_)).trans ?_ | with_reducible refine (State.regs_one_foldl _ _ _ (fun _ _ => ?_)).trans ?_ | with_reducible refine (State.regs_rsvd_foldl _ _ _ (fun _ _ => ?_)).trans ?_ | with_reducible refine (State.regs_waiting_foldl _ _ _ (fun _ _ => ?_)).trans ?_ | with_reducible refine (State.regs_stale_foldl _ _ _ (fun _ _ => ?_)).trans ?_ | with_reducible refine (State.regs_posted_foldl _ _ _ (fun _ _ => ?_)).trans ?_ | with_reducible refine (State.fd_mem_foldl _ _ _ (fun _ _ => ?_)).trans ?_ | with_reducible refine (State.dm_sram_foldl _ _ _ (fun _ _ => ?_)).trans ?_ | with_reducible refine (State.sq_frameNo_foldl _ _ _ (fun _ _ => ?_)).trans ?_ | with_reducible refine (State.sq_inScan_foldl _ _ _ (fun _ _ => ?_)).trans ?_ | with_reducible refine (State.sq_nextBoundary_foldl _ _ _ (fun _ _ => ?_)).trans ?_ | with_reducible refine (State.pw_gate_foldl _ _ _ (fun _ _ => ?_)).trans ?_ | (dsimp only; first | split | with_reducible refine (State.regs_setA_foldl _ _ _ (fun _ _ => ?_)).trans ?_ | with_reducible refine (State.regs_setB_foldl _ _ _ (fun _ _ => ?_)).trans ?_ | with_reducible refine (State.regs_one_foldl _ _ _ (fun _ _ => ?_)).trans ?_ | with_reducible refine (State.regs_rsvd_foldl _ _ _ (fun _ _ => ?_)).trans ?_ | with_reducible refine (State.regs_waiting_foldl _ _ _ (fun _ _ => ?_)).trans ?_ | with_reducible refine (State.regs_stale_foldl _ _ _ (fun _ _ => ?_)).trans ?_ | with_reducible refine (State.regs_posted_foldl _ _ _ (fun _ _ => ?_)).trans ?_ | with_reducible refine (State.fd_mem_foldl _ _ _ (fun _ _ => ?_)).trans ?_ | with_reducible refine (State.dm_sram_foldl _ _ _ (fun _ _ => ?_)).trans ?_ | with_reducible refine (State.sq_frameNo_foldl _ _ _ (fun _ _ => ?_)).trans ?_ | with_reducible refine (State.sq_inScan_foldl _ _ _ (fun _ _ => ?_)).trans ?_ | with_reducible refine (State.sq_nextBoundary_foldl _ _ _ (fun _ _ => ?_)).trans ?_ | with_reducible refine (State.pw_gate_foldl _ _ _ (fun _ _ => ?_)).trans ?_)))

@[simp] theorem State.writeRsvd_parts (s : State) (k : RegKind) (a v : Nat) :
    (s.writeRsvd k a v).regs.setA = s.regs.setA ∧ (s.writeRsvd k a v).regs.setB = s.regs.setB ∧
    (s.writeRsvd k a v).regs.one = s.regs.one ∧ (s.writeRsvd k a v).regs.waiting = s.regs.waiting ∧
    (s.writeRsvd k a v).regs.stale = s.regs.stale ∧ (s.writeRsvd k a v).regs.posted = s.regs.posted := by
  and_intros <;> (unfold State.writeRsvd; repeat' (first | with_reducible rfl | (simp; done) | split | with_reducible refine (State.regs_setA_foldl _ _ _ (fun _ _ => ?_)).trans ?_ | with_reducible refine (State.regs_setB_foldl _ _ _ (fun _ _ => ?_)).trans ?_ | with_reducible refine (State.regs_one_foldl _ _ _ (fun _ _ => ?_)).trans ?_ | with_reducible refine (State.regs_rsvd_foldl _ _ _ (fun _ _ => ?_)).trans ?_ | with_reducible refine (State.regs_waiting_foldl _ _ _ (fun _ _ => ?_)).trans ?_ | with_reducible refine (State.regs_stale_foldl _ _ _ (fun _ _ => ?_)).trans ?_ | with_reducible refine (State.regs_posted_foldl _ _ _ (fun _ _ => ?_)).trans ?_ | with_reducible refine (State.fd_mem_foldl _ _ _ (fun _ _ => ?_)).trans ?_ | with_reducible refine (State.dm_sram_foldl _ _ _ (fun _ _ => ?_)).trans ?_ | with_reducible refine (State.sq_frameNo_foldl _ _ _ (fun _ _ => ?_)).trans ?_ | with_reducible refine (State.sq_inScan_foldl _ _ _ (fun _ _ => ?_)).trans ?_ | with_reducible refine (State.sq_nextBoundary_foldl _ _ _ (fun _ _ => ?_)).trans ?_ | with_reducible refine (State.pw_gate_foldl _ _ _ (fun _ _ => ?_)).trans ?_ | (dsimp only; first | split | with_reducible refine (State.regs_setA_foldl _ _ _ (fun _ _ => ?_)).trans ?_ | with_reducible refine (State.regs_setB_foldl _ _ _ (fun _ _ => ?_)).trans ?_ | with_reducible refine (State.regs_one_foldl _ _ _ (fun _ _ => ?_)).trans ?_ | with_reducible refine (State.regs_rsvd_foldl _ _ _ (fun _ _ => ?_)).trans ?_ | with_reducible refine (State.regs_waiting_foldl _ _ _ (fun _ _ => ?_)).trans ?_ | with_reducible refine (State.regs_stale_foldl _ _ _ (fun _ _ => ?_)).trans ?_ | with_reducible refine (State.regs_posted_foldl _ _ _ (fun _ _ => ?_)).trans ?_ | with_reducible refine (State.fd_mem_foldl _ _ _ (fun _ _ => ?_)).trans ?_ | with_reducible refine (State.dm_sram_foldl _ _ _ (fun _ _ => ?_)).trans ?_ | with_reducible refine (State.sq_frameNo_foldl _ _ _ (fun _ _ => ?_)).trans ?_ | with_reducible refine (State.sq_inScan_foldl _ _ _ (fun _ _ => ?_)).trans ?_ | with_reducible refine (State.sq_nextBoundary_foldl _ _ _ (fun _ _ => ?_)).trans ?_ | with_reducible refine (State.pw_gate_foldl _ _ _ (fun _ _ => ?_)).trans ?_)))

@[simp] theorem State.liveWrite_parts (s : State) (a : Nat) (v : Score) :
    (s.liveWrite a v).regs.one = s.regs.one ∧ (s.liveWrite a v).regs.rsvd = s.regs.rsvd ∧
    (s.liveWrite a v).regs.stale = s.regs.stale ∧ (s.liveWrite a v).regs.posted = s.regs.posted ∧
    (s.liveWrite a v).sq.frameNo = s.sq.frameNo ∧ (s.liveWrite a v).sq.inScan = s.sq.inScan ∧
    (s.liveWrite a v).sq.nextBoundary = s.sq.nextBoundary := by
  and_intros <;> (unfold State.liveWrite; repeat' (first | with_reducible rfl | (simp; done) | split | with_reducible refine (State.regs_setA_foldl _ _ _ (fun _ _ => ?_)).trans ?_ | with_reducible refine (State.regs_setB_foldl _ _ _ (fun _ _ => ?_)).trans ?_ | with_reducible refine (State.regs_one_foldl _ _ _ (fun _ _ => ?_)).trans ?_ | with_reducible refine (State.regs_rsvd_foldl _ _ _ (fun _ _ => ?_)).trans ?_ | with_reducible refine (State.regs_waiting_foldl _ _ _ (fun _ _ => ?_)).trans ?_ | with_reducible refine (State.regs_stale_foldl _ _ _ (fun _ _ => ?_)).trans ?_ | with_reducible refine (State.regs_posted_foldl _ _ _ (fun _ _ => ?_)).trans ?_ | with_reducible refine (State.fd_mem_foldl _ _ _ (fun _ _ => ?_)).trans ?_ | with_reducible refine (State.dm_sram_foldl _ _ _ (fun _ _ => ?_)).trans ?_ | with_reducible refine (State.sq_frameNo_foldl _ _ _ (fun _ _ => ?_)).trans ?_ | with_reducible refine (State.sq_inScan_foldl _ _ _ (fun _ _ => ?_)).trans ?_ | with_reducible refine (State.sq_nextBoundary_foldl _ _ _ (fun _ _ => ?_)).trans ?_ | with_reducible refine (State.pw_gate_foldl _ _ _ (fun _ _ => ?_)).trans ?_ | (dsimp only; first | split | with_reducible refine (State.regs_setA_foldl _ _ _ (fun _ _ => ?_)).trans ?_ | with_reducible refine (State.regs_setB_foldl _ _ _ (fun _ _ => ?_)).trans ?_ | with_reducible refine (State.regs_one_foldl _ _ _ (fun _ _ => ?_)).trans ?_ | with_reducible refine (State.regs_rsvd_foldl _ _ _ (fun _ _ => ?_)).trans ?_ | with_reducible refine (State.regs_waiting_foldl _ _ _ (fun _ _ => ?_)).trans ?_ | with_reducible refine (State.regs_stale_foldl _ _ _ (fun _ _ => ?_)).trans ?_ | with_reducible refine (State.regs_posted_foldl _ _ _ (fun _ _ => ?_)).trans ?_ | with_reducible refine (State.fd_mem_foldl _ _ _ (fun _ _ => ?_)).trans ?_ | with_reducible refine (State.dm_sram_foldl _ _ _ (fun _ _ => ?_)).trans ?_ | with_reducible refine (State.sq_frameNo_foldl _ _ _ (fun _ _ => ?_)).trans ?_ | with_reducible refine (State.sq_inScan_foldl _ _ _ (fun _ _ => ?_)).trans ?_ | with_reducible refine (State.sq_nextBoundary_foldl _ _ _ (fun _ _ => ?_)).trans ?_ | with_reducible refine (State.pw_gate_foldl _ _ _ (fun _ _ => ?_)).trans ?_)))

@[simp] theorem State.writeCal_parts (s : State) (a : Nat) (v : Score) (signed : Bool) :
    (s.writeCal a v signed).regs.setA = s.regs.setA ∧ (s.writeCal a v signed).regs.setB = s.regs.setB ∧
    (s.writeCal a v signed).regs.rsvd = s.regs.rsvd ∧ (s.writeCal a v signed).regs.waiting = s.regs.waiting ∧
    (s.writeCal a v signed).regs.stale = s.regs.stale ∧ (s.writeCal a v signed).regs.posted = s.regs.posted := by
  and_intros <;> (unfold State.writeCal; repeat' (first | with_reducible rfl | (simp; done) | split | with_reducible refine (State.regs_setA_foldl _ _ _ (fun _ _ => ?_)).trans ?_ | with_reducible refine (State.regs_setB_foldl _ _ _ (fun _ _ => ?_)).trans ?_ | with_reducible refine (State.regs_one_foldl _ _ _ (fun _ _ => ?_)).trans ?_ | with_reducible refine (State.regs_rsvd_foldl _ _ _ (fun _ _ => ?_)).trans ?_ | with_reducible refine (State.regs_waiting_foldl _ _ _ (fun _ _ => ?_)).trans ?_ | with_reducible refine (State.regs_stale_foldl _ _ _ (fun _ _ => ?_)).trans ?_ | with_reducible refine (State.regs_posted_foldl _ _ _ (fun _ _ => ?_)).trans ?_ | with_reducible refine (State.fd_mem_foldl _ _ _ (fun _ _ => ?_)).trans ?_ | with_reducible refine (State.dm_sram_foldl _ _ _ (fun _ _ => ?_)).trans ?_ | with_reducible refine (State.sq_frameNo_foldl _ _ _ (fun _ _ => ?_)).trans ?_ | with_reducible refine (State.sq_inScan_foldl _ _ _ (fun _ _ => ?_)).trans ?_ | with_reducible refine (State.sq_nextBoundary_foldl _ _ _ (fun _ _ => ?_)).trans ?_ | with_reducible refine (State.pw_gate_foldl _ _ _ (fun _ _ => ?_)).trans ?_ | (dsimp only; first | split | with_reducible refine (State.regs_setA_foldl _ _ _ (fun _ _ => ?_)).trans ?_ | with_reducible refine (State.regs_setB_foldl _ _ _ (fun _ _ => ?_)).trans ?_ | with_reducible refine (State.regs_one_foldl _ _ _ (fun _ _ => ?_)).trans ?_ | with_reducible refine (State.regs_rsvd_foldl _ _ _ (fun _ _ => ?_)).trans ?_ | with_reducible refine (State.regs_waiting_foldl _ _ _ (fun _ _ => ?_)).trans ?_ | with_reducible refine (State.regs_stale_foldl _ _ _ (fun _ _ => ?_)).trans ?_ | with_reducible refine (State.regs_posted_foldl _ _ _ (fun _ _ => ?_)).trans ?_ | with_reducible refine (State.fd_mem_foldl _ _ _ (fun _ _ => ?_)).trans ?_ | with_reducible refine (State.dm_sram_foldl _ _ _ (fun _ _ => ?_)).trans ?_ | with_reducible refine (State.sq_frameNo_foldl _ _ _ (fun _ _ => ?_)).trans ?_ | with_reducible refine (State.sq_inScan_foldl _ _ _ (fun _ _ => ?_)).trans ?_ | with_reducible refine (State.sq_nextBoundary_foldl _ _ _ (fun _ _ => ?_)).trans ?_ | with_reducible refine (State.pw_gate_foldl _ _ _ (fun _ _ => ?_)).trans ?_)))

@[simp] theorem State.writeSt_parts (s : State) (a : Nat) (v : Score) :
    (s.writeSt a v).regs.setA = s.regs.setA ∧ (s.writeSt a v).regs.setB = s.regs.setB ∧
    (s.writeSt a v).regs.rsvd = s.regs.rsvd ∧ (s.writeSt a v).regs.waiting = s.regs.waiting ∧
    (s.writeSt a v).regs.stale = s.regs.stale ∧ (s.writeSt a v).regs.posted = s.regs.posted := by
  and_intros <;> (unfold State.writeSt; repeat' (first | with_reducible rfl | (simp; done) | split | with_reducible refine (State.regs_setA_foldl _ _ _ (fun _ _ => ?_)).trans ?_ | with_reducible refine (State.regs_setB_foldl _ _ _ (fun _ _ => ?_)).trans ?_ | with_reducible refine (State.regs_one_foldl _ _ _ (fun _ _ => ?_)).trans ?_ | with_reducible refine (State.regs_rsvd_foldl _ _ _ (fun _ _ => ?_)).trans ?_ | with_reducible refine (State.regs_waiting_foldl _ _ _ (fun _ _ => ?_)).trans ?_ | with_reducible refine (State.regs_stale_foldl _ _ _ (fun _ _ => ?_)).trans ?_ | with_reducible refine (State.regs_posted_foldl _ _ _ (fun _ _ => ?_)).trans ?_ | with_reducible refine (State.fd_mem_foldl _ _ _ (fun _ _ => ?_)).trans ?_ | with_reducible refine (State.dm_sram_foldl _ _ _ (fun _ _ => ?_)).trans ?_ | with_reducible refine (State.sq_frameNo_foldl _ _ _ (fun _ _ => ?_)).trans ?_ | with_reducible refine (State.sq_inScan_foldl _ _ _ (fun _ _ => ?_)).trans ?_ | with_reducible refine (State.sq_nextBoundary_foldl _ _ _ (fun _ _ => ?_)).trans ?_ | with_reducible refine (State.pw_gate_foldl _ _ _ (fun _ _ => ?_)).trans ?_ | (dsimp only; first | split | with_reducible refine (State.regs_setA_foldl _ _ _ (fun _ _ => ?_)).trans ?_ | with_reducible refine (State.regs_setB_foldl _ _ _ (fun _ _ => ?_)).trans ?_ | with_reducible refine (State.regs_one_foldl _ _ _ (fun _ _ => ?_)).trans ?_ | with_reducible refine (State.regs_rsvd_foldl _ _ _ (fun _ _ => ?_)).trans ?_ | with_reducible refine (State.regs_waiting_foldl _ _ _ (fun _ _ => ?_)).trans ?_ | with_reducible refine (State.regs_stale_foldl _ _ _ (fun _ _ => ?_)).trans ?_ | with_reducible refine (State.regs_posted_foldl _ _ _ (fun _ _ => ?_)).trans ?_ | with_reducible refine (State.fd_mem_foldl _ _ _ (fun _ _ => ?_)).trans ?_ | with_reducible refine (State.dm_sram_foldl _ _ _ (fun _ _ => ?_)).trans ?_ | with_reducible refine (State.sq_frameNo_foldl _ _ _ (fun _ _ => ?_)).trans ?_ | with_reducible refine (State.sq_inScan_foldl _ _ _ (fun _ _ => ?_)).trans ?_ | with_reducible refine (State.sq_nextBoundary_foldl _ _ _ (fun _ _ => ?_)).trans ?_ | with_reducible refine (State.pw_gate_foldl _ _ _ (fun _ _ => ?_)).trans ?_)))

@[simp] theorem State.writeOne_parts (s : State) (a : Nat) (v : Score) :
    (s.writeOne a v).regs.setA = s.regs.setA ∧ (s.writeOne a v).regs.setB = s.regs.setB ∧
    (s.writeOne a v).regs.rsvd = s.regs.rsvd ∧ (s.writeOne a v).regs.waiting = s.regs.waiting ∧
    (s.writeOne a v).regs.stale = s.regs.stale ∧ (s.writeOne a v).regs.posted = s.regs.posted := by
  and_intros <;> (unfold State.writeOne; repeat' (first | with_reducible rfl | (simp; done) | split | with_reducible refine (State.regs_setA_foldl _ _ _ (fun _ _ => ?_)).trans ?_ | with_reducible refine (State.regs_setB_foldl _ _ _ (fun _ _ => ?_)).trans ?_ | with_reducible refine (State.regs_one_foldl _ _ _ (fun _ _ => ?_)).trans ?_ | with_reducible refine (State.regs_rsvd_foldl _ _ _ (fun _ _ => ?_)).trans ?_ | with_reducible refine (State.regs_waiting_foldl _ _ _ (fun _ _ => ?_)).trans ?_ | with_reducible refine (State.regs_stale_foldl _ _ _ (fun _ _ => ?_)).trans ?_ | with_reducible refine (State.regs_posted_foldl _ _ _ (fun _ _ => ?_)).trans ?_ | with_reducible refine (State.fd_mem_foldl _ _ _ (fun _ _ => ?_)).trans ?_ | with_reducible refine (State.dm_sram_foldl _ _ _ (fun _ _ => ?_)).trans ?_ | with_reducible refine (State.sq_frameNo_foldl _ _ _ (fun _ _ => ?_)).trans ?_ | with_reducible refine (State.sq_inScan_foldl _ _ _ (fun _ _ => ?_)).trans ?_ | with_reducible refine (State.sq_nextBoundary_foldl _ _ _ (fun _ _ => ?_)).trans ?_ | with_reducible refine (State.pw_gate_foldl _ _ _ (fun _ _ => ?_)).trans ?_ | (dsimp only; first | split | with_reducible refine (State.regs_setA_foldl _ _ _ (fun _ _ => ?_)).trans ?_ | with_reducible refine (State.regs_setB_foldl _ _ _ (fun _ _ => ?_)).trans ?_ | with_reducible refine (State.regs_one_foldl _ _ _ (fun _ _ => ?_)).trans ?_ | with_reducible refine (State.regs_rsvd_foldl _ _ _ (fun _ _ => ?_)).trans ?_ | with_reducible refine (State.regs_waiting_foldl _ _ _ (fun _ _ => ?_)).trans ?_ | with_reducible refine (State.regs_stale_foldl _ _ _ (fun _ _ => ?_)).trans ?_ | with_reducible refine (State.regs_posted_foldl _ _ _ (fun _ _ => ?_)).trans ?_ | with_reducible refine (State.fd_mem_foldl _ _ _ (fun _ _ => ?_)).trans ?_ | with_reducible refine (State.dm_sram_foldl _ _ _ (fun _ _ => ?_)).trans ?_ | with_reducible refine (State.sq_frameNo_foldl _ _ _ (fun _ _ => ?_)).trans ?_ | with_reducible refine (State.sq_inScan_foldl _ _ _ (fun _ _ => ?_)).trans ?_ | with_reducible refine (State.sq_nextBoundary_foldl _ _ _ (fun _ _ => ?_)).trans ?_ | with_reducible refine (State.pw_gate_foldl _ _ _ (fun _ _ => ?_)).trans ?_)))

@[simp] theorem State.cmCntClr_parts (s : State) :
    (s.cmCntClr).regs.setA = s.regs.setA ∧ (s.cmCntClr).regs.setB = s.regs.setB ∧ (s.cmCntClr).regs.one = s.regs.one ∧
    (s.cmCntClr).regs.rsvd = s.regs.rsvd ∧ (s.cmCntClr).regs.waiting = s.regs.waiting ∧
    (s.cmCntClr).regs.stale = s.regs.stale ∧ (s.cmCntClr).regs.posted = s.regs.posted := by
  and_intros <;> (unfold State.cmCntClr; repeat' (first | with_reducible rfl | (simp; done) | split | with_reducible refine (State.regs_setA_foldl _ _ _ (fun _ _ => ?_)).trans ?_ | with_reducible refine (State.regs_setB_foldl _ _ _ (fun _ _ => ?_)).trans ?_ | with_reducible refine (State.regs_one_foldl _ _ _ (fun _ _ => ?_)).trans ?_ | with_reducible refine (State.regs_rsvd_foldl _ _ _ (fun _ _ => ?_)).trans ?_ | with_reducible refine (State.regs_waiting_foldl _ _ _ (fun _ _ => ?_)).trans ?_ | with_reducible refine (State.regs_stale_foldl _ _ _ (fun _ _ => ?_)).trans ?_ | with_reducible refine (State.regs_posted_foldl _ _ _ (fun _ _ => ?_)).trans ?_ | with_reducible refine (State.fd_mem_foldl _ _ _ (fun _ _ => ?_)).trans ?_ | with_reducible refine (State.dm_sram_foldl _ _ _ (fun _ _ => ?_)).trans ?_ | with_reducible refine (State.sq_frameNo_foldl _ _ _ (fun _ _ => ?_)).trans ?_ | with_reducible refine (State.sq_inScan_foldl _ _ _ (fun _ _ => ?_)).trans ?_ | with_reducible refine (State.sq_nextBoundary_foldl _ _ _ (fun _ _ => ?_)).trans ?_ | with_reducible refine (State.pw_gate_foldl _ _ _ (fun _ _ => ?_)).trans ?_ | (dsimp only; first | split | with_reducible refine (State.regs_setA_foldl _ _ _ (fun _ _ => ?_)).trans ?_ | with_reducible refine (State.regs_setB_foldl _ _ _ (fun _ _ => ?_)).trans ?_ | with_reducible refine (State.regs_one_foldl _ _ _ (fun _ _ => ?_)).trans ?_ | with_reducible refine (State.regs_rsvd_foldl _ _ _ (fun _ _ => ?_)).trans ?_ | with_reducible refine (State.regs_waiting_foldl _ _ _ (fun _ _ => ?_)).trans ?_ | with_reducible refine (State.regs_stale_foldl _ _ _ (fun _ _ => ?_)).trans ?_ | with_reducible refine (State.regs_posted_foldl _ _ _ (fun _ _ => ?_)).trans ?_ | with_reducible refine (State.fd_mem_foldl _ _ _ (fun _ _ => ?_)).trans ?_ | with_reducible refine (State.dm_sram_foldl _ _ _ (fun _ _ => ?_)).trans ?_ | with_reducible refine (State.sq_frameNo_foldl _ _ _ (fun _ _ => ?_)).trans ?_ | with_reducible refine (State.sq_inScan_foldl _ _ _ (fun _ _ => ?_)).trans ?_ | with_reducible refine (State.sq_nextBoundary_foldl _ _ _ (fun _ _ => ?_)).trans ?_ | with_reducible refine (State.pw_gate_foldl _ _ _ (fun _ _ => ?_)).trans ?_)))

@[simp] theorem State.cfCntClr_parts (s : State) :
    (s.cfCntClr).regs.setA = s.regs.setA ∧ (s.cfCntClr).regs.setB = s.regs.setB ∧ (s.cfCntClr).regs.one = s.regs.one ∧
    (s.cfCntClr).regs.rsvd = s.regs.rsvd ∧ (s.cfCntClr).regs.waiting = s.regs.waiting ∧
    (s.cfCntClr).regs.stale = s.regs.stale ∧ (s.cfCntClr).regs.posted = s.regs.posted := by
  and_intros <;> (unfold State.cfCntClr; repeat' (first | with_reducible rfl | (simp; done) | split | with_reducible refine (State.regs_setA_foldl _ _ _ (fun _ _ => ?_)).trans ?_ | with_reducible refine (State.regs_setB_foldl _ _ _ (fun _ _ => ?_)).trans ?_ | with_reducible refine (State.regs_one_foldl _ _ _ (fun _ _ => ?_)).trans ?_ | with_reducible refine (State.regs_rsvd_foldl _ _ _ (fun _ _ => ?_)).trans ?_ | with_reducible refine (State.regs_waiting_foldl _ _ _ (fun _ _ => ?_)).trans ?_ | with_reducible refine (State.regs_stale_foldl _ _ _ (fun _ _ => ?_)).trans ?_ | with_reducible refine (State.regs_posted_foldl _ _ _ (fun _ _ => ?_)).trans ?_ | with_reducible refine (State.fd_mem_foldl _ _ _ (fun _ _ => ?_)).trans ?_ | with_reducible refine (State.dm_sram_foldl _ _ _ (fun _ _ => ?_)).trans ?_ | with_reducible refine (State.sq_frameNo_foldl _ _ _ (fun _ _ => ?_)).trans ?_ | with_reducible refine (State.sq_inScan_foldl _ _ _ (fun _ _ => ?_)).trans ?_ | with_reducible refine (State.sq_nextBoundary_foldl _ _ _ (fun _ _ => ?_)).trans ?_ | with_reducible refine (State.pw_gate_foldl _ _ _ (fun _ _ => ?_)).trans ?_ | (dsimp only; first | split | with_reducible refine (State.regs_setA_foldl _ _ _ (fun _ _ => ?_)).trans ?_ | with_reducible refine (State.regs_setB_foldl _ _ _ (fun _ _ => ?_)).trans ?_ | with_reducible refine (State.regs_one_foldl _ _ _ (fun _ _ => ?_)).trans ?_ | with_reducible refine (State.regs_rsvd_foldl _ _ _ (fun _ _ => ?_)).trans ?_ | with_reducible refine (State.regs_waiting_foldl _ _ _ (fun _ _ => ?_)).trans ?_ | with_reducible refine (State.regs_stale_foldl _ _ _ (fun _ _ => ?_)).trans ?_ | with_reducible refine (State.regs_posted_foldl _ _ _ (fun _ _ => ?_)).trans ?_ | with_reducible refine (State.fd_mem_foldl _ _ _ (fun _ _ => ?_)).trans ?_ | with_reducible refine (State.dm_sram_foldl _ _ _ (fun _ _ => ?_)).trans ?_ | with_reducible refine (State.sq_frameNo_foldl _ _ _ (fun _ _ => ?_)).trans ?_ | with_reducible refine (State.sq_inScan_foldl _ _ _ (fun _ _ => ?_)).trans ?_ | with_reducible refine (State.sq_nextBoundary_foldl _ _ _ (fun _ _ => ?_)).trans ?_ | with_reducible refine (State.pw_gate_foldl _ _ _ (fun _ _ => ?_)).trans ?_)))

@[simp] theorem State.woHigh_parts (s : State) (a v : Nat) :
    (s.woHigh a v).regs.one = s.regs.one ∧ (s.woHigh a v).regs.rsvd = s.regs.rsvd ∧
    (s.woHigh a v).regs.posted = s.regs.posted ∧ (s.woHigh a v).dm.sram = s.dm.sram ∧
    (s.woHigh a v).sq.frameNo = s.sq.frameNo ∧ (s.woHigh a v).sq.inScan = s.sq.inScan ∧
    (s.woHigh a v).sq.nextBoundary = s.sq.nextBoundary := by
  and_intros <;> (unfold State.woHigh; repeat' (first | with_reducible rfl | (simp; done) | split | with_reducible refine (State.regs_setA_foldl _ _ _ (fun _ _ => ?_)).trans ?_ | with_reducible refine (State.regs_setB_foldl _ _ _ (fun _ _ => ?_)).trans ?_ | with_reducible refine (State.regs_one_foldl _ _ _ (fun _ _ => ?_)).trans ?_ | with_reducible refine (State.regs_rsvd_foldl _ _ _ (fun _ _ => ?_)).trans ?_ | with_reducible refine (State.regs_waiting_foldl _ _ _ (fun _ _ => ?_)).trans ?_ | with_reducible refine (State.regs_stale_foldl _ _ _ (fun _ _ => ?_)).trans ?_ | with_reducible refine (State.regs_posted_foldl _ _ _ (fun _ _ => ?_)).trans ?_ | with_reducible refine (State.fd_mem_foldl _ _ _ (fun _ _ => ?_)).trans ?_ | with_reducible refine (State.dm_sram_foldl _ _ _ (fun _ _ => ?_)).trans ?_ | with_reducible refine (State.sq_frameNo_foldl _ _ _ (fun _ _ => ?_)).trans ?_ | with_reducible refine (State.sq_inScan_foldl _ _ _ (fun _ _ => ?_)).trans ?_ | with_reducible refine (State.sq_nextBoundary_foldl _ _ _ (fun _ _ => ?_)).trans ?_ | with_reducible refine (State.pw_gate_foldl _ _ _ (fun _ _ => ?_)).trans ?_ | (dsimp only; first | split | with_reducible refine (State.regs_setA_foldl _ _ _ (fun _ _ => ?_)).trans ?_ | with_reducible refine (State.regs_setB_foldl _ _ _ (fun _ _ => ?_)).trans ?_ | with_reducible refine (State.regs_one_foldl _ _ _ (fun _ _ => ?_)).trans ?_ | with_reducible refine (State.regs_rsvd_foldl _ _ _ (fun _ _ => ?_)).trans ?_ | with_reducible refine (State.regs_waiting_foldl _ _ _ (fun _ _ => ?_)).trans ?_ | with_reducible refine (State.regs_stale_foldl _ _ _ (fun _ _ => ?_)).trans ?_ | with_reducible refine (State.regs_posted_foldl _ _ _ (fun _ _ => ?_)).trans ?_ | with_reducible refine (State.fd_mem_foldl _ _ _ (fun _ _ => ?_)).trans ?_ | with_reducible refine (State.dm_sram_foldl _ _ _ (fun _ _ => ?_)).trans ?_ | with_reducible refine (State.sq_frameNo_foldl _ _ _ (fun _ _ => ?_)).trans ?_ | with_reducible refine (State.sq_inScan_foldl _ _ _ (fun _ _ => ?_)).trans ?_ | with_reducible refine (State.sq_nextBoundary_foldl _ _ _ (fun _ _ => ?_)).trans ?_ | with_reducible refine (State.pw_gate_foldl _ _ _ (fun _ _ => ?_)).trans ?_)))

@[simp] theorem State.refInvalid_parts (s : State) (b : Bool) :
    (s.refInvalid b).regs.setA = s.regs.setA ∧ (s.refInvalid b).regs.setB = s.regs.setB ∧
    (s.refInvalid b).regs.one = s.regs.one ∧ (s.refInvalid b).regs.rsvd = s.regs.rsvd ∧
    (s.refInvalid b).regs.waiting = s.regs.waiting ∧ (s.refInvalid b).regs.stale = s.regs.stale ∧
    (s.refInvalid b).regs.posted = s.regs.posted := by
  and_intros <;> (unfold State.refInvalid; repeat' (first | with_reducible rfl | (simp; done) | split | with_reducible refine (State.regs_setA_foldl _ _ _ (fun _ _ => ?_)).trans ?_ | with_reducible refine (State.regs_setB_foldl _ _ _ (fun _ _ => ?_)).trans ?_ | with_reducible refine (State.regs_one_foldl _ _ _ (fun _ _ => ?_)).trans ?_ | with_reducible refine (State.regs_rsvd_foldl _ _ _ (fun _ _ => ?_)).trans ?_ | with_reducible refine (State.regs_waiting_foldl _ _ _ (fun _ _ => ?_)).trans ?_ | with_reducible refine (State.regs_stale_foldl _ _ _ (fun _ _ => ?_)).trans ?_ | with_reducible refine (State.regs_posted_foldl _ _ _ (fun _ _ => ?_)).trans ?_ | with_reducible refine (State.fd_mem_foldl _ _ _ (fun _ _ => ?_)).trans ?_ | with_reducible refine (State.dm_sram_foldl _ _ _ (fun _ _ => ?_)).trans ?_ | with_reducible refine (State.sq_frameNo_foldl _ _ _ (fun _ _ => ?_)).trans ?_ | with_reducible refine (State.sq_inScan_foldl _ _ _ (fun _ _ => ?_)).trans ?_ | with_reducible refine (State.sq_nextBoundary_foldl _ _ _ (fun _ _ => ?_)).trans ?_ | with_reducible refine (State.pw_gate_foldl _ _ _ (fun _ _ => ?_)).trans ?_ | (dsimp only; first | split | with_reducible refine (State.regs_setA_foldl _ _ _ (fun _ _ => ?_)).trans ?_ | with_reducible refine (State.regs_setB_foldl _ _ _ (fun _ _ => ?_)).trans ?_ | with_reducible refine (State.regs_one_foldl _ _ _ (fun _ _ => ?_)).trans ?_ | with_reducible refine (State.regs_rsvd_foldl _ _ _ (fun _ _ => ?_)).trans ?_ | with_reducible refine (State.regs_waiting_foldl _ _ _ (fun _ _ => ?_)).trans ?_ | with_reducible refine (State.regs_stale_foldl _ _ _ (fun _ _ => ?_)).trans ?_ | with_reducible refine (State.regs_posted_foldl _ _ _ (fun _ _ => ?_)).trans ?_ | with_reducible refine (State.fd_mem_foldl _ _ _ (fun _ _ => ?_)).trans ?_ | with_reducible refine (State.dm_sram_foldl _ _ _ (fun _ _ => ?_)).trans ?_ | with_reducible refine (State.sq_frameNo_foldl _ _ _ (fun _ _ => ?_)).trans ?_ | with_reducible refine (State.sq_inScan_foldl _ _ _ (fun _ _ => ?_)).trans ?_ | with_reducible refine (State.sq_nextBoundary_foldl _ _ _ (fun _ _ => ?_)).trans ?_ | with_reducible refine (State.pw_gate_foldl _ _ _ (fun _ _ => ?_)).trans ?_)))

@[simp] theorem State.acceptAlias_parts (s : State) (k : RegKind) (a : Nat) (v : Score) :
    (s.acceptAlias k a v).regs.one = s.regs.one ∧ (s.acceptAlias k a v).regs.waiting = s.regs.waiting ∧
    (s.acceptAlias k a v).regs.stale = s.regs.stale ∧ (s.acceptAlias k a v).regs.posted = s.regs.posted := by
  and_intros <;> (unfold State.acceptAlias; repeat' (first | with_reducible rfl | (simp; done) | split | with_reducible refine (State.regs_setA_foldl _ _ _ (fun _ _ => ?_)).trans ?_ | with_reducible refine (State.regs_setB_foldl _ _ _ (fun _ _ => ?_)).trans ?_ | with_reducible refine (State.regs_one_foldl _ _ _ (fun _ _ => ?_)).trans ?_ | with_reducible refine (State.regs_rsvd_foldl _ _ _ (fun _ _ => ?_)).trans ?_ | with_reducible refine (State.regs_waiting_foldl _ _ _ (fun _ _ => ?_)).trans ?_ | with_reducible refine (State.regs_stale_foldl _ _ _ (fun _ _ => ?_)).trans ?_ | with_reducible refine (State.regs_posted_foldl _ _ _ (fun _ _ => ?_)).trans ?_ | with_reducible refine (State.fd_mem_foldl _ _ _ (fun _ _ => ?_)).trans ?_ | with_reducible refine (State.dm_sram_foldl _ _ _ (fun _ _ => ?_)).trans ?_ | with_reducible refine (State.sq_frameNo_foldl _ _ _ (fun _ _ => ?_)).trans ?_ | with_reducible refine (State.sq_inScan_foldl _ _ _ (fun _ _ => ?_)).trans ?_ | with_reducible refine (State.sq_nextBoundary_foldl _ _ _ (fun _ _ => ?_)).trans ?_ | with_reducible refine (State.pw_gate_foldl _ _ _ (fun _ _ => ?_)).trans ?_ | (dsimp only; first | split | with_reducible refine (State.regs_setA_foldl _ _ _ (fun _ _ => ?_)).trans ?_ | with_reducible refine (State.regs_setB_foldl _ _ _ (fun _ _ => ?_)).trans ?_ | with_reducible refine (State.regs_one_foldl _ _ _ (fun _ _ => ?_)).trans ?_ | with_reducible refine (State.regs_rsvd_foldl _ _ _ (fun _ _ => ?_)).trans ?_ | with_reducible refine (State.regs_waiting_foldl _ _ _ (fun _ _ => ?_)).trans ?_ | with_reducible refine (State.regs_stale_foldl _ _ _ (fun _ _ => ?_)).trans ?_ | with_reducible refine (State.regs_posted_foldl _ _ _ (fun _ _ => ?_)).trans ?_ | with_reducible refine (State.fd_mem_foldl _ _ _ (fun _ _ => ?_)).trans ?_ | with_reducible refine (State.dm_sram_foldl _ _ _ (fun _ _ => ?_)).trans ?_ | with_reducible refine (State.sq_frameNo_foldl _ _ _ (fun _ _ => ?_)).trans ?_ | with_reducible refine (State.sq_inScan_foldl _ _ _ (fun _ _ => ?_)).trans ?_ | with_reducible refine (State.sq_nextBoundary_foldl _ _ _ (fun _ _ => ?_)).trans ?_ | with_reducible refine (State.pw_gate_foldl _ _ _ (fun _ _ => ?_)).trans ?_)))

end Sys2Proof.Machine
end

