-- ==== Sys2Proof/Laws/FrameCommands.lean ====
section
/-!
SUPPORT. The frames of the operations of Machine/Commands.lean: the parts of the state that each of them leaves as they were.
-/

set_option linter.unusedTactic false
set_option linter.unreachableTactic false
set_option linter.unusedSimpArgs false

namespace Sys2Proof.Machine

@[simp] theorem State.setCmds_frame (s : State) (k : CmdKey) (l : List Cmd) :
    (s.setCmds k l).now = s.now ∧ (s.setCmds k l).phase = s.phase ∧ (s.setCmds k l).pending = s.pending ∧
    (s.setCmds k l).nodeOfs = s.nodeOfs ∧ (s.setCmds k l).freeCtr = s.freeCtr ∧ (s.setCmds k l).tx = s.tx ∧
    (s.setCmds k l).regs = s.regs ∧ (s.setCmds k l).tl = s.tl := by
  and_intros <;> (unfold State.setCmds; repeat' (first | with_reducible rfl | (simp; done) | split | with_reducible refine (foldl_inv _ _ _ _ (fun _ _ => ?_)).trans ?_ | (dsimp only; first | split | with_reducible refine (foldl_inv _ _ _ _ (fun _ _ => ?_)).trans ?_)))

@[simp] theorem State.setCmds_frame2 (s : State) (k : CmdKey) (l : List Cmd) :
    (s.setCmds k l).sq = s.sq ∧ (s.setCmds k l).fd = s.fd ∧ (s.setCmds k l).ex = s.ex ∧ (s.setCmds k l).sv = s.sv ∧
    (s.setCmds k l).ax = s.ax ∧ (s.setCmds k l).aq = s.aq ∧ (s.setCmds k l).il = s.il ∧ (s.setCmds k l).ln = s.ln := by
  and_intros <;> (unfold State.setCmds; repeat' (first | with_reducible rfl | (simp; done) | split | with_reducible refine (foldl_inv _ _ _ _ (fun _ _ => ?_)).trans ?_ | (dsimp only; first | split | with_reducible refine (foldl_inv _ _ _ _ (fun _ _ => ?_)).trans ?_)))

@[simp] theorem State.setCmds_frame3 (s : State) (k : CmdKey) (l : List Cmd) :
    (s.setCmds k l).fl = s.fl ∧ (s.setCmds k l).ev = s.ev ∧ (s.setCmds k l).safe = s.safe ∧ (s.setCmds k l).dm = s.dm ∧
    (s.setCmds k l).cf = s.cf ∧ (s.setCmds k l).pw = s.pw ∧ (s.setCmds k l).th = s.th := by
  and_intros <;> (unfold State.setCmds; repeat' (first | with_reducible rfl | (simp; done) | split | with_reducible refine (foldl_inv _ _ _ _ (fun _ _ => ?_)).trans ?_ | (dsimp only; first | split | with_reducible refine (foldl_inv _ _ _ _ (fun _ _ => ?_)).trans ?_)))

@[simp] theorem State.setHeadCmd_frame (s : State) (k : CmdKey) (c : Cmd) :
    (s.setHeadCmd k c).now = s.now ∧ (s.setHeadCmd k c).phase = s.phase ∧ (s.setHeadCmd k c).pending = s.pending ∧
    (s.setHeadCmd k c).nodeOfs = s.nodeOfs ∧ (s.setHeadCmd k c).freeCtr = s.freeCtr ∧ (s.setHeadCmd k c).tx = s.tx ∧
    (s.setHeadCmd k c).regs = s.regs ∧ (s.setHeadCmd k c).tl = s.tl := by
  and_intros <;> (unfold State.setHeadCmd; repeat' (first | with_reducible rfl | (simp; done) | split | with_reducible refine (foldl_inv _ _ _ _ (fun _ _ => ?_)).trans ?_ | (dsimp only; first | split | with_reducible refine (foldl_inv _ _ _ _ (fun _ _ => ?_)).trans ?_)))

@[simp] theorem State.setHeadCmd_frame2 (s : State) (k : CmdKey) (c : Cmd) :
    (s.setHeadCmd k c).sq = s.sq ∧ (s.setHeadCmd k c).fd = s.fd ∧ (s.setHeadCmd k c).ex = s.ex ∧
    (s.setHeadCmd k c).sv = s.sv ∧ (s.setHeadCmd k c).ax = s.ax ∧ (s.setHeadCmd k c).aq = s.aq ∧
    (s.setHeadCmd k c).il = s.il ∧ (s.setHeadCmd k c).ln = s.ln := by
  and_intros <;> (unfold State.setHeadCmd; repeat' (first | with_reducible rfl | (simp; done) | split | with_reducible refine (foldl_inv _ _ _ _ (fun _ _ => ?_)).trans ?_ | (dsimp only; first | split | with_reducible refine (foldl_inv _ _ _ _ (fun _ _ => ?_)).trans ?_)))

@[simp] theorem State.setHeadCmd_frame3 (s : State) (k : CmdKey) (c : Cmd) :
    (s.setHeadCmd k c).fl = s.fl ∧ (s.setHeadCmd k c).ev = s.ev ∧ (s.setHeadCmd k c).safe = s.safe ∧
    (s.setHeadCmd k c).dm = s.dm ∧ (s.setHeadCmd k c).cf = s.cf ∧ (s.setHeadCmd k c).pw = s.pw ∧
    (s.setHeadCmd k c).th = s.th := by
  and_intros <;> (unfold State.setHeadCmd; repeat' (first | with_reducible rfl | (simp; done) | split | with_reducible refine (foldl_inv _ _ _ _ (fun _ _ => ?_)).trans ?_ | (dsimp only; first | split | with_reducible refine (foldl_inv _ _ _ _ (fun _ _ => ?_)).trans ?_)))

@[simp] theorem State.setCache_frame (s : State) (k : CmdKey) (l : List CacheEntry) :
    (s.setCache k l).now = s.now ∧ (s.setCache k l).phase = s.phase ∧ (s.setCache k l).pending = s.pending ∧
    (s.setCache k l).nodeOfs = s.nodeOfs ∧ (s.setCache k l).freeCtr = s.freeCtr ∧ (s.setCache k l).tx = s.tx ∧
    (s.setCache k l).regs = s.regs ∧ (s.setCache k l).tl = s.tl := by
  and_intros <;> (unfold State.setCache; repeat' (first | with_reducible rfl | (simp; done) | split | with_reducible refine (foldl_inv _ _ _ _ (fun _ _ => ?_)).trans ?_ | (dsimp only; first | split | with_reducible refine (foldl_inv _ _ _ _ (fun _ _ => ?_)).trans ?_)))

@[simp] theorem State.setCache_frame2 (s : State) (k : CmdKey) (l : List CacheEntry) :
    (s.setCache k l).sq = s.sq ∧ (s.setCache k l).fd = s.fd ∧ (s.setCache k l).ex = s.ex ∧ (s.setCache k l).sv = s.sv ∧
    (s.setCache k l).ax = s.ax ∧ (s.setCache k l).aq = s.aq ∧ (s.setCache k l).il = s.il ∧ (s.setCache k l).ln = s.ln := by
  and_intros <;> (unfold State.setCache; repeat' (first | with_reducible rfl | (simp; done) | split | with_reducible refine (foldl_inv _ _ _ _ (fun _ _ => ?_)).trans ?_ | (dsimp only; first | split | with_reducible refine (foldl_inv _ _ _ _ (fun _ _ => ?_)).trans ?_)))

@[simp] theorem State.setCache_frame3 (s : State) (k : CmdKey) (l : List CacheEntry) :
    (s.setCache k l).fl = s.fl ∧ (s.setCache k l).ev = s.ev ∧ (s.setCache k l).safe = s.safe ∧ (s.setCache k l).dm = s.dm ∧
    (s.setCache k l).cf = s.cf ∧ (s.setCache k l).pw = s.pw ∧ (s.setCache k l).th = s.th := by
  and_intros <;> (unfold State.setCache; repeat' (first | with_reducible rfl | (simp; done) | split | with_reducible refine (foldl_inv _ _ _ _ (fun _ _ => ?_)).trans ?_ | (dsimp only; first | split | with_reducible refine (foldl_inv _ _ _ _ (fun _ _ => ?_)).trans ?_)))

@[simp] theorem State.sendReply_frame (s : State) (c : Cmd) (r : List Score) :
    (s.sendReply c r).now = s.now ∧ (s.sendReply c r).phase = s.phase ∧ (s.sendReply c r).pending = s.pending ∧
    (s.sendReply c r).nodeOfs = s.nodeOfs ∧ (s.sendReply c r).freeCtr = s.freeCtr ∧ (s.sendReply c r).regs = s.regs ∧
    (s.sendReply c r).tl = s.tl ∧ (s.sendReply c r).sq = s.sq := by
  and_intros <;> (unfold State.sendReply; repeat' (first | with_reducible rfl | (simp; done) | split | with_reducible refine (foldl_inv _ _ _ _ (fun _ _ => ?_)).trans ?_ | (dsimp only; first | split | with_reducible refine (foldl_inv _ _ _ _ (fun _ _ => ?_)).trans ?_)))

@[simp] theorem State.sendReply_frame2 (s : State) (c : Cmd) (r : List Score) :
    (s.sendReply c r).fd = s.fd ∧ (s.sendReply c r).ex = s.ex ∧ (s.sendReply c r).sv = s.sv ∧ (s.sendReply c r).ax = s.ax ∧
    (s.sendReply c r).aq = s.aq ∧ (s.sendReply c r).il = s.il ∧ (s.sendReply c r).ln = s.ln ∧ (s.sendReply c r).ev = s.ev := by
  and_intros <;> (unfold State.sendReply; repeat' (first | with_reducible rfl | (simp; done) | split | with_reducible refine (foldl_inv _ _ _ _ (fun _ _ => ?_)).trans ?_ | (dsimp only; first | split | with_reducible refine (foldl_inv _ _ _ _ (fun _ _ => ?_)).trans ?_)))

@[simp] theorem State.sendReply_frame3 (s : State) (c : Cmd) (r : List Score) :
    (s.sendReply c r).safe = s.safe ∧ (s.sendReply c r).dm = s.dm ∧ (s.sendReply c r).cf = s.cf ∧
    (s.sendReply c r).pw = s.pw ∧ (s.sendReply c r).th = s.th := by
  and_intros <;> (unfold State.sendReply; repeat' (first | with_reducible rfl | (simp; done) | split | with_reducible refine (foldl_inv _ _ _ _ (fun _ _ => ?_)).trans ?_ | (dsimp only; first | split | with_reducible refine (foldl_inv _ _ _ _ (fun _ _ => ?_)).trans ?_)))

@[simp] theorem State.countReply_frame (s : State) (c : Cmd) (status : Nat) :
    (s.countReply c status).now = s.now ∧ (s.countReply c status).phase = s.phase ∧
    (s.countReply c status).pending = s.pending ∧ (s.countReply c status).nodeOfs = s.nodeOfs ∧
    (s.countReply c status).freeCtr = s.freeCtr ∧ (s.countReply c status).tx = s.tx ∧ (s.countReply c status).tl = s.tl ∧
    (s.countReply c status).sq = s.sq := by
  and_intros <;> (unfold State.countReply; repeat' (first | with_reducible rfl | (simp; done) | split | with_reducible refine (foldl_inv _ _ _ _ (fun _ _ => ?_)).trans ?_ | (dsimp only; first | split | with_reducible refine (foldl_inv _ _ _ _ (fun _ _ => ?_)).trans ?_)))

@[simp] theorem State.countReply_frame2 (s : State) (c : Cmd) (status : Nat) :
    (s.countReply c status).fd = s.fd ∧ (s.countReply c status).ex = s.ex ∧ (s.countReply c status).sv = s.sv ∧
    (s.countReply c status).ax = s.ax ∧ (s.countReply c status).aq = s.aq ∧ (s.countReply c status).il = s.il ∧
    (s.countReply c status).ln = s.ln ∧ (s.countReply c status).fl = s.fl := by
  and_intros <;> (unfold State.countReply; repeat' (first | with_reducible rfl | (simp; done) | split | with_reducible refine (foldl_inv _ _ _ _ (fun _ _ => ?_)).trans ?_ | (dsimp only; first | split | with_reducible refine (foldl_inv _ _ _ _ (fun _ _ => ?_)).trans ?_)))

@[simp] theorem State.countReply_frame3 (s : State) (c : Cmd) (status : Nat) :
    (s.countReply c status).ev = s.ev ∧ (s.countReply c status).safe = s.safe ∧ (s.countReply c status).dm = s.dm ∧
    (s.countReply c status).cm = s.cm ∧ (s.countReply c status).cf = s.cf ∧ (s.countReply c status).pw = s.pw ∧
    (s.countReply c status).th = s.th := by
  and_intros <;> (unfold State.countReply; repeat' (first | with_reducible rfl | (simp; done) | split | with_reducible refine (foldl_inv _ _ _ _ (fun _ _ => ?_)).trans ?_ | (dsimp only; first | split | with_reducible refine (foldl_inv _ _ _ _ (fun _ _ => ?_)).trans ?_)))

@[simp] theorem State.replay_frame (s : State) (k : CmdKey) (c : Cmd) (r : List Score) :
    (s.replay k c r).now = s.now ∧ (s.replay k c r).phase = s.phase ∧ (s.replay k c r).pending = s.pending ∧
    (s.replay k c r).nodeOfs = s.nodeOfs ∧ (s.replay k c r).freeCtr = s.freeCtr ∧ (s.replay k c r).tl = s.tl ∧
    (s.replay k c r).sq = s.sq ∧ (s.replay k c r).fd = s.fd := by
  and_intros <;> (unfold State.replay; repeat' (first | with_reducible rfl | (simp; done) | split | with_reducible refine (foldl_inv _ _ _ _ (fun _ _ => ?_)).trans ?_ | (dsimp only; first | split | with_reducible refine (foldl_inv _ _ _ _ (fun _ _ => ?_)).trans ?_)))

@[simp] theorem State.replay_frame2 (s : State) (k : CmdKey) (c : Cmd) (r : List Score) :
    (s.replay k c r).ex = s.ex ∧ (s.replay k c r).sv = s.sv ∧ (s.replay k c r).ax = s.ax ∧ (s.replay k c r).aq = s.aq ∧
    (s.replay k c r).il = s.il ∧ (s.replay k c r).ln = s.ln ∧ (s.replay k c r).ev = s.ev ∧ (s.replay k c r).safe = s.safe := by
  and_intros <;> (unfold State.replay; repeat' (first | with_reducible rfl | (simp; done) | split | with_reducible refine (foldl_inv _ _ _ _ (fun _ _ => ?_)).trans ?_ | (dsimp only; first | split | with_reducible refine (foldl_inv _ _ _ _ (fun _ _ => ?_)).trans ?_)))

@[simp] theorem State.replay_frame3 (s : State) (k : CmdKey) (c : Cmd) (r : List Score) :
    (s.replay k c r).dm = s.dm ∧ (s.replay k c r).cf = s.cf ∧ (s.replay k c r).pw = s.pw ∧ (s.replay k c r).th = s.th := by
  and_intros <;> (unfold State.replay; repeat' (first | with_reducible rfl | (simp; done) | split | with_reducible refine (foldl_inv _ _ _ _ (fun _ _ => ?_)).trans ?_ | (dsimp only; first | split | with_reducible refine (foldl_inv _ _ _ _ (fun _ _ => ?_)).trans ?_)))

@[simp] theorem State.cachedReply_frame (s : State) (k : CmdKey) (c : Cmd) (a : Answer) :
    (s.cachedReply k c a).now = s.now ∧ (s.cachedReply k c a).phase = s.phase ∧ (s.cachedReply k c a).pending = s.pending ∧
    (s.cachedReply k c a).nodeOfs = s.nodeOfs ∧ (s.cachedReply k c a).freeCtr = s.freeCtr ∧
    (s.cachedReply k c a).regs = s.regs ∧ (s.cachedReply k c a).tl = s.tl ∧ (s.cachedReply k c a).sq = s.sq := by
  and_intros <;> (unfold State.cachedReply; repeat' (first | with_reducible rfl | (simp; done) | split | with_reducible refine (foldl_inv _ _ _ _ (fun _ _ => ?_)).trans ?_ | (dsimp only; first | split | with_reducible refine (foldl_inv _ _ _ _ (fun _ _ => ?_)).trans ?_)))

@[simp] theorem State.cachedReply_frame2 (s : State) (k : CmdKey) (c : Cmd) (a : Answer) :
    (s.cachedReply k c a).fd = s.fd ∧ (s.cachedReply k c a).ex = s.ex ∧ (s.cachedReply k c a).sv = s.sv ∧
    (s.cachedReply k c a).ax = s.ax ∧ (s.cachedReply k c a).aq = s.aq ∧ (s.cachedReply k c a).il = s.il ∧
    (s.cachedReply k c a).ln = s.ln ∧ (s.cachedReply k c a).ev = s.ev := by
  and_intros <;> (unfold State.cachedReply; repeat' (first | with_reducible rfl | (simp; done) | split | with_reducible refine (foldl_inv _ _ _ _ (fun _ _ => ?_)).trans ?_ | (dsimp only; first | split | with_reducible refine (foldl_inv _ _ _ _ (fun _ _ => ?_)).trans ?_)))

@[simp] theorem State.cachedReply_frame3 (s : State) (k : CmdKey) (c : Cmd) (a : Answer) :
    (s.cachedReply k c a).safe = s.safe ∧ (s.cachedReply k c a).dm = s.dm ∧ (s.cachedReply k c a).cf = s.cf ∧
    (s.cachedReply k c a).pw = s.pw ∧ (s.cachedReply k c a).th = s.th := by
  and_intros <;> (unfold State.cachedReply; repeat' (first | with_reducible rfl | (simp; done) | split | with_reducible refine (foldl_inv _ _ _ _ (fun _ _ => ?_)).trans ?_ | (dsimp only; first | split | with_reducible refine (foldl_inv _ _ _ _ (fun _ _ => ?_)).trans ?_)))

@[simp] theorem State.answer_frame (s : State) (k : CmdKey) (c : Cmd) (a : Answer) :
    (s.answer k c a).now = s.now ∧ (s.answer k c a).phase = s.phase ∧ (s.answer k c a).pending = s.pending ∧
    (s.answer k c a).nodeOfs = s.nodeOfs ∧ (s.answer k c a).freeCtr = s.freeCtr ∧ (s.answer k c a).tl = s.tl ∧
    (s.answer k c a).sq = s.sq ∧ (s.answer k c a).fd = s.fd := by
  and_intros <;> (unfold State.answer; repeat' (first | with_reducible rfl | (simp; done) | split | with_reducible refine (foldl_inv _ _ _ _ (fun _ _ => ?_)).trans ?_ | (dsimp only; first | split | with_reducible refine (foldl_inv _ _ _ _ (fun _ _ => ?_)).trans ?_)))

@[simp] theorem State.answer_frame2 (s : State) (k : CmdKey) (c : Cmd) (a : Answer) :
    (s.answer k c a).ex = s.ex ∧ (s.answer k c a).sv = s.sv ∧ (s.answer k c a).ax = s.ax ∧ (s.answer k c a).aq = s.aq ∧
    (s.answer k c a).il = s.il ∧ (s.answer k c a).ln = s.ln ∧ (s.answer k c a).ev = s.ev ∧ (s.answer k c a).safe = s.safe := by
  and_intros <;> (unfold State.answer; repeat' (first | with_reducible rfl | (simp; done) | split | with_reducible refine (foldl_inv _ _ _ _ (fun _ _ => ?_)).trans ?_ | (dsimp only; first | split | with_reducible refine (foldl_inv _ _ _ _ (fun _ _ => ?_)).trans ?_)))

@[simp] theorem State.answer_frame3 (s : State) (k : CmdKey) (c : Cmd) (a : Answer) :
    (s.answer k c a).dm = s.dm ∧ (s.answer k c a).cf = s.cf ∧ (s.answer k c a).pw = s.pw ∧ (s.answer k c a).th = s.th := by
  and_intros <;> (unfold State.answer; repeat' (first | with_reducible rfl | (simp; done) | split | with_reducible refine (foldl_inv _ _ _ _ (fun _ _ => ?_)).trans ?_ | (dsimp only; first | split | with_reducible refine (foldl_inv _ _ _ _ (fun _ _ => ?_)).trans ?_)))

@[simp] theorem State.ping_frame (s : State) (c : Cmd) :
    (s.ping c).1.now = s.now ∧ (s.ping c).1.phase = s.phase ∧ (s.ping c).1.pending = s.pending ∧
    (s.ping c).1.nodeOfs = s.nodeOfs ∧ (s.ping c).1.freeCtr = s.freeCtr ∧ (s.ping c).1.tx = s.tx ∧
    (s.ping c).1.regs = s.regs ∧ (s.ping c).1.tl = s.tl := by
  and_intros <;> (unfold State.ping; repeat' (first | with_reducible rfl | (simp; done) | split | with_reducible refine (foldl_inv _ _ _ _ (fun _ _ => ?_)).trans ?_ | (dsimp only; first | split | with_reducible refine (foldl_inv _ _ _ _ (fun _ _ => ?_)).trans ?_)))

@[simp] theorem State.ping_frame2 (s : State) (c : Cmd) :
    (s.ping c).1.sq = s.sq ∧ (s.ping c).1.fd = s.fd ∧ (s.ping c).1.ex = s.ex ∧ (s.ping c).1.sv = s.sv ∧
    (s.ping c).1.ax = s.ax ∧ (s.ping c).1.aq = s.aq ∧ (s.ping c).1.il = s.il ∧ (s.ping c).1.ln = s.ln := by
  and_intros <;> (unfold State.ping; repeat' (first | with_reducible rfl | (simp; done) | split | with_reducible refine (foldl_inv _ _ _ _ (fun _ _ => ?_)).trans ?_ | (dsimp only; first | split | with_reducible refine (foldl_inv _ _ _ _ (fun _ _ => ?_)).trans ?_)))

@[simp] theorem State.ping_frame3 (s : State) (c : Cmd) :
    (s.ping c).1.fl = s.fl ∧ (s.ping c).1.ev = s.ev ∧ (s.ping c).1.safe = s.safe ∧ (s.ping c).1.dm = s.dm ∧
    (s.ping c).1.cm = s.cm ∧ (s.ping c).1.cf = s.cf ∧ (s.ping c).1.pw = s.pw ∧ (s.ping c).1.th = s.th := by
  and_intros <;> (unfold State.ping; repeat' (first | with_reducible rfl | (simp; done) | split | with_reducible refine (foldl_inv _ _ _ _ (fun _ _ => ?_)).trans ?_ | (dsimp only; first | split | with_reducible refine (foldl_inv _ _ _ _ (fun _ _ => ?_)).trans ?_)))

@[simp] theorem State.framesStart_frame (s : State) :
    (s.framesStart).1.now = s.now ∧ (s.framesStart).1.phase = s.phase ∧ (s.framesStart).1.pending = s.pending ∧
    (s.framesStart).1.nodeOfs = s.nodeOfs ∧ (s.framesStart).1.freeCtr = s.freeCtr ∧ (s.framesStart).1.tx = s.tx ∧
    (s.framesStart).1.regs = s.regs ∧ (s.framesStart).1.tl = s.tl := by
  and_intros <;> (unfold State.framesStart; repeat' (first | with_reducible rfl | (simp; done) | split | with_reducible refine (foldl_inv _ _ _ _ (fun _ _ => ?_)).trans ?_ | (dsimp only; first | split | with_reducible refine (foldl_inv _ _ _ _ (fun _ _ => ?_)).trans ?_)))

@[simp] theorem State.framesStart_frame2 (s : State) :
    (s.framesStart).1.fd = s.fd ∧ (s.framesStart).1.ex = s.ex ∧ (s.framesStart).1.sv = s.sv ∧ (s.framesStart).1.ax = s.ax ∧
    (s.framesStart).1.aq = s.aq ∧ (s.framesStart).1.il = s.il ∧ (s.framesStart).1.ln = s.ln ∧ (s.framesStart).1.fl = s.fl := by
  and_intros <;> (unfold State.framesStart; repeat' (first | with_reducible rfl | (simp; done) | split | with_reducible refine (foldl_inv _ _ _ _ (fun _ _ => ?_)).trans ?_ | (dsimp only; first | split | with_reducible refine (foldl_inv _ _ _ _ (fun _ _ => ?_)).trans ?_)))

@[simp] theorem State.framesStart_frame3 (s : State) :
    (s.framesStart).1.ev = s.ev ∧ (s.framesStart).1.safe = s.safe ∧ (s.framesStart).1.dm = s.dm ∧
    (s.framesStart).1.cm = s.cm ∧ (s.framesStart).1.cf = s.cf ∧ (s.framesStart).1.pw = s.pw ∧ (s.framesStart).1.th = s.th := by
  and_intros <;> (unfold State.framesStart; repeat' (first | with_reducible rfl | (simp; done) | split | with_reducible refine (foldl_inv _ _ _ _ (fun _ _ => ?_)).trans ?_ | (dsimp only; first | split | with_reducible refine (foldl_inv _ _ _ _ (fun _ _ => ?_)).trans ?_)))

@[simp] theorem State.subscribe_frame (s : State) (kind arg lease : Nat) (who : Consumer) (lane : Nat) :
    (s.subscribe kind arg lease who lane).1.now = s.now ∧ (s.subscribe kind arg lease who lane).1.phase = s.phase ∧
    (s.subscribe kind arg lease who lane).1.pending = s.pending ∧
    (s.subscribe kind arg lease who lane).1.nodeOfs = s.nodeOfs ∧
    (s.subscribe kind arg lease who lane).1.freeCtr = s.freeCtr ∧ (s.subscribe kind arg lease who lane).1.tx = s.tx ∧
    (s.subscribe kind arg lease who lane).1.regs = s.regs ∧ (s.subscribe kind arg lease who lane).1.tl = s.tl := by
  and_intros <;> (unfold State.subscribe; repeat' (first | with_reducible rfl | (simp; done) | split | with_reducible refine (foldl_inv _ _ _ _ (fun _ _ => ?_)).trans ?_ | (dsimp only; first | split | with_reducible refine (foldl_inv _ _ _ _ (fun _ _ => ?_)).trans ?_)))

@[simp] theorem State.subscribe_frame2 (s : State) (kind arg lease : Nat) (who : Consumer) (lane : Nat) :
    (s.subscribe kind arg lease who lane).1.sq = s.sq ∧ (s.subscribe kind arg lease who lane).1.fd = s.fd ∧
    (s.subscribe kind arg lease who lane).1.ex = s.ex ∧ (s.subscribe kind arg lease who lane).1.sv = s.sv ∧
    (s.subscribe kind arg lease who lane).1.ax = s.ax ∧ (s.subscribe kind arg lease who lane).1.aq = s.aq ∧
    (s.subscribe kind arg lease who lane).1.il = s.il ∧ (s.subscribe kind arg lease who lane).1.ln = s.ln := by
  and_intros <;> (unfold State.subscribe; repeat' (first | with_reducible rfl | (simp; done) | split | with_reducible refine (foldl_inv _ _ _ _ (fun _ _ => ?_)).trans ?_ | (dsimp only; first | split | with_reducible refine (foldl_inv _ _ _ _ (fun _ _ => ?_)).trans ?_)))

@[simp] theorem State.subscribe_frame3 (s : State) (kind arg lease : Nat) (who : Consumer) (lane : Nat) :
    (s.subscribe kind arg lease who lane).1.safe = s.safe ∧ (s.subscribe kind arg lease who lane).1.dm = s.dm ∧
    (s.subscribe kind arg lease who lane).1.cm = s.cm ∧ (s.subscribe kind arg lease who lane).1.cf = s.cf ∧
    (s.subscribe kind arg lease who lane).1.pw = s.pw ∧ (s.subscribe kind arg lease who lane).1.th = s.th := by
  and_intros <;> (unfold State.subscribe; repeat' (first | with_reducible rfl | (simp; done) | split | with_reducible refine (foldl_inv _ _ _ _ (fun _ _ => ?_)).trans ?_ | (dsimp only; first | split | with_reducible refine (foldl_inv _ _ _ _ (fun _ _ => ?_)).trans ?_)))

@[simp] theorem State.subscribeCmd_frame (s : State) (c : Cmd) :
    (s.subscribeCmd c).1.now = s.now ∧ (s.subscribeCmd c).1.phase = s.phase ∧ (s.subscribeCmd c).1.pending = s.pending ∧
    (s.subscribeCmd c).1.nodeOfs = s.nodeOfs ∧ (s.subscribeCmd c).1.freeCtr = s.freeCtr ∧ (s.subscribeCmd c).1.tx = s.tx ∧
    (s.subscribeCmd c).1.regs = s.regs ∧ (s.subscribeCmd c).1.tl = s.tl := by
  and_intros <;> (unfold State.subscribeCmd; repeat' (first | with_reducible rfl | (simp; done) | split | with_reducible refine (foldl_inv _ _ _ _ (fun _ _ => ?_)).trans ?_ | (dsimp only; first | split | with_reducible refine (foldl_inv _ _ _ _ (fun _ _ => ?_)).trans ?_)))

@[simp] theorem State.subscribeCmd_frame2 (s : State) (c : Cmd) :
    (s.subscribeCmd c).1.sq = s.sq ∧ (s.subscribeCmd c).1.fd = s.fd ∧ (s.subscribeCmd c).1.ex = s.ex ∧
    (s.subscribeCmd c).1.sv = s.sv ∧ (s.subscribeCmd c).1.ax = s.ax ∧ (s.subscribeCmd c).1.aq = s.aq ∧
    (s.subscribeCmd c).1.il = s.il ∧ (s.subscribeCmd c).1.ln = s.ln := by
  and_intros <;> (unfold State.subscribeCmd; repeat' (first | with_reducible rfl | (simp; done) | split | with_reducible refine (foldl_inv _ _ _ _ (fun _ _ => ?_)).trans ?_ | (dsimp only; first | split | with_reducible refine (foldl_inv _ _ _ _ (fun _ _ => ?_)).trans ?_)))

@[simp] theorem State.subscribeCmd_frame3 (s : State) (c : Cmd) :
    (s.subscribeCmd c).1.safe = s.safe ∧ (s.subscribeCmd c).1.dm = s.dm ∧ (s.subscribeCmd c).1.cm = s.cm ∧
    (s.subscribeCmd c).1.cf = s.cf ∧ (s.subscribeCmd c).1.pw = s.pw ∧ (s.subscribeCmd c).1.th = s.th := by
  and_intros <;> (unfold State.subscribeCmd; repeat' (first | with_reducible rfl | (simp; done) | split | with_reducible refine (foldl_inv _ _ _ _ (fun _ _ => ?_)).trans ?_ | (dsimp only; first | split | with_reducible refine (foldl_inv _ _ _ _ (fun _ _ => ?_)).trans ?_)))

@[simp] theorem State.unsubscribeCmd_frame (s : State) (c : Cmd) :
    (s.unsubscribeCmd c).1.now = s.now ∧ (s.unsubscribeCmd c).1.phase = s.phase ∧ (s.unsubscribeCmd c).1.pending = s.pending ∧
    (s.unsubscribeCmd c).1.nodeOfs = s.nodeOfs ∧ (s.unsubscribeCmd c).1.freeCtr = s.freeCtr ∧
    (s.unsubscribeCmd c).1.tx = s.tx ∧ (s.unsubscribeCmd c).1.tl = s.tl ∧ (s.unsubscribeCmd c).1.sq = s.sq := by
  and_intros <;> (unfold State.unsubscribeCmd; repeat' (first | with_reducible rfl | (simp; done) | split | with_reducible refine (foldl_inv _ _ _ _ (fun _ _ => ?_)).trans ?_ | (dsimp only; first | split | with_reducible refine (foldl_inv _ _ _ _ (fun _ _ => ?_)).trans ?_)))

@[simp] theorem State.unsubscribeCmd_frame2 (s : State) (c : Cmd) :
    (s.unsubscribeCmd c).1.fd = s.fd ∧ (s.unsubscribeCmd c).1.ex = s.ex ∧ (s.unsubscribeCmd c).1.sv = s.sv ∧
    (s.unsubscribeCmd c).1.ax = s.ax ∧ (s.unsubscribeCmd c).1.aq = s.aq ∧ (s.unsubscribeCmd c).1.il = s.il ∧
    (s.unsubscribeCmd c).1.ln = s.ln ∧ (s.unsubscribeCmd c).1.safe = s.safe := by
  and_intros <;> (unfold State.unsubscribeCmd; repeat' (first | with_reducible rfl | (simp; done) | split | with_reducible refine (foldl_inv _ _ _ _ (fun _ _ => ?_)).trans ?_ | (dsimp only; first | split | with_reducible refine (foldl_inv _ _ _ _ (fun _ _ => ?_)).trans ?_)))

@[simp] theorem State.unsubscribeCmd_frame3 (s : State) (c : Cmd) :
    (s.unsubscribeCmd c).1.cm = s.cm ∧ (s.unsubscribeCmd c).1.cf = s.cf ∧ (s.unsubscribeCmd c).1.pw = s.pw ∧
    (s.unsubscribeCmd c).1.th = s.th := by
  and_intros <;> (unfold State.unsubscribeCmd; repeat' (first | with_reducible rfl | (simp; done) | split | with_reducible refine (foldl_inv _ _ _ _ (fun _ _ => ?_)).trans ?_ | (dsimp only; first | split | with_reducible refine (foldl_inv _ _ _ _ (fun _ _ => ?_)).trans ?_)))

@[simp] theorem State.openSession_frame (s : State) (how : Nat) :
    (s.openSession how).now = s.now ∧ (s.openSession how).phase = s.phase ∧ (s.openSession how).pending = s.pending ∧
    (s.openSession how).nodeOfs = s.nodeOfs ∧ (s.openSession how).freeCtr = s.freeCtr ∧ (s.openSession how).tx = s.tx ∧
    (s.openSession how).tl = s.tl ∧ (s.openSession how).sq = s.sq := by
  and_intros <;> (unfold State.openSession; repeat' (first | with_reducible rfl | (simp; done) | split | with_reducible refine (foldl_inv _ _ _ _ (fun _ _ => ?_)).trans ?_ | (dsimp only; first | split | with_reducible refine (foldl_inv _ _ _ _ (fun _ _ => ?_)).trans ?_)))

@[simp] theorem State.openSession_frame2 (s : State) (how : Nat) :
    (s.openSession how).fd = s.fd ∧ (s.openSession how).ex = s.ex ∧ (s.openSession how).sv = s.sv ∧
    (s.openSession how).ax = s.ax ∧ (s.openSession how).aq = s.aq ∧ (s.openSession how).il = s.il ∧
    (s.openSession how).ln = s.ln ∧ (s.openSession how).fl = s.fl := by
  and_intros <;> (unfold State.openSession; repeat' (first | with_reducible rfl | (simp; done) | split | with_reducible refine (foldl_inv _ _ _ _ (fun _ _ => ?_)).trans ?_ | (dsimp only; first | split | with_reducible refine (foldl_inv _ _ _ _ (fun _ _ => ?_)).trans ?_)))

@[simp] theorem State.openSession_frame3 (s : State) (how : Nat) :
    (s.openSession how).ev = s.ev ∧ (s.openSession how).safe = s.safe ∧ (s.openSession how).dm = s.dm ∧
    (s.openSession how).cf = s.cf ∧ (s.openSession how).th = s.th := by
  and_intros <;> (unfold State.openSession; repeat' (first | with_reducible rfl | (simp; done) | split | with_reducible refine (foldl_inv _ _ _ _ (fun _ _ => ?_)).trans ?_ | (dsimp only; first | split | with_reducible refine (foldl_inv _ _ _ _ (fun _ _ => ?_)).trans ?_)))

@[simp] theorem State.authFail_frame (s : State) :
    (s.authFail).now = s.now ∧ (s.authFail).phase = s.phase ∧ (s.authFail).pending = s.pending ∧
    (s.authFail).nodeOfs = s.nodeOfs ∧ (s.authFail).freeCtr = s.freeCtr ∧ (s.authFail).tx = s.tx ∧ (s.authFail).tl = s.tl ∧
    (s.authFail).sq = s.sq := by
  and_intros <;> (unfold State.authFail; repeat' (first | with_reducible rfl | (simp; done) | split | with_reducible refine (foldl_inv _ _ _ _ (fun _ _ => ?_)).trans ?_ | (dsimp only; first | split | with_reducible refine (foldl_inv _ _ _ _ (fun _ _ => ?_)).trans ?_)))

@[simp] theorem State.authFail_frame2 (s : State) :
    (s.authFail).fd = s.fd ∧ (s.authFail).ex = s.ex ∧ (s.authFail).sv = s.sv ∧ (s.authFail).ax = s.ax ∧
    (s.authFail).aq = s.aq ∧ (s.authFail).il = s.il ∧ (s.authFail).ln = s.ln ∧ (s.authFail).fl = s.fl := by
  and_intros <;> (unfold State.authFail; repeat' (first | with_reducible rfl | (simp; done) | split | with_reducible refine (foldl_inv _ _ _ _ (fun _ _ => ?_)).trans ?_ | (dsimp only; first | split | with_reducible refine (foldl_inv _ _ _ _ (fun _ _ => ?_)).trans ?_)))

@[simp] theorem State.authFail_frame3 (s : State) :
    (s.authFail).ev = s.ev ∧ (s.authFail).safe = s.safe ∧ (s.authFail).dm = s.dm ∧ (s.authFail).cm = s.cm ∧
    (s.authFail).cf = s.cf ∧ (s.authFail).th = s.th := by
  and_intros <;> (unfold State.authFail; repeat' (first | with_reducible rfl | (simp; done) | split | with_reducible refine (foldl_inv _ _ _ _ (fun _ _ => ?_)).trans ?_ | (dsimp only; first | split | with_reducible refine (foldl_inv _ _ _ _ (fun _ _ => ?_)).trans ?_)))

@[simp] theorem State.challenge_frame (s : State) :
    (s.challenge).1.now = s.now ∧ (s.challenge).1.phase = s.phase ∧ (s.challenge).1.pending = s.pending ∧
    (s.challenge).1.nodeOfs = s.nodeOfs ∧ (s.challenge).1.tx = s.tx ∧ (s.challenge).1.regs = s.regs ∧
    (s.challenge).1.tl = s.tl ∧ (s.challenge).1.sq = s.sq := by
  and_intros <;> (unfold State.challenge; repeat' (first | with_reducible rfl | (simp; done) | split | with_reducible refine (foldl_inv _ _ _ _ (fun _ _ => ?_)).trans ?_ | (dsimp only; first | split | with_reducible refine (foldl_inv _ _ _ _ (fun _ _ => ?_)).trans ?_)))

@[simp] theorem State.challenge_frame2 (s : State) :
    (s.challenge).1.fd = s.fd ∧ (s.challenge).1.ex = s.ex ∧ (s.challenge).1.sv = s.sv ∧ (s.challenge).1.ax = s.ax ∧
    (s.challenge).1.aq = s.aq ∧ (s.challenge).1.il = s.il ∧ (s.challenge).1.ln = s.ln ∧ (s.challenge).1.fl = s.fl := by
  and_intros <;> (unfold State.challenge; repeat' (first | with_reducible rfl | (simp; done) | split | with_reducible refine (foldl_inv _ _ _ _ (fun _ _ => ?_)).trans ?_ | (dsimp only; first | split | with_reducible refine (foldl_inv _ _ _ _ (fun _ _ => ?_)).trans ?_)))

@[simp] theorem State.challenge_frame3 (s : State) :
    (s.challenge).1.ev = s.ev ∧ (s.challenge).1.safe = s.safe ∧ (s.challenge).1.dm = s.dm ∧ (s.challenge).1.cf = s.cf ∧
    (s.challenge).1.pw = s.pw ∧ (s.challenge).1.th = s.th := by
  and_intros <;> (unfold State.challenge; repeat' (first | with_reducible rfl | (simp; done) | split | with_reducible refine (foldl_inv _ _ _ _ (fun _ _ => ?_)).trans ?_ | (dsimp only; first | split | with_reducible refine (foldl_inv _ _ _ _ (fun _ _ => ?_)).trans ?_)))

@[simp] theorem State.respond_frame (s : State) (c : Cmd) :
    (s.respond c).1.now = s.now ∧ (s.respond c).1.phase = s.phase ∧ (s.respond c).1.pending = s.pending ∧
    (s.respond c).1.nodeOfs = s.nodeOfs ∧ (s.respond c).1.freeCtr = s.freeCtr ∧ (s.respond c).1.tx = s.tx ∧
    (s.respond c).1.tl = s.tl ∧ (s.respond c).1.sq = s.sq := by
  and_intros <;> (unfold State.respond; repeat' (first | with_reducible rfl | (simp; done) | split | with_reducible refine (foldl_inv _ _ _ _ (fun _ _ => ?_)).trans ?_ | (dsimp only; first | split | with_reducible refine (foldl_inv _ _ _ _ (fun _ _ => ?_)).trans ?_)))

@[simp] theorem State.respond_frame2 (s : State) (c : Cmd) :
    (s.respond c).1.fd = s.fd ∧ (s.respond c).1.ex = s.ex ∧ (s.respond c).1.sv = s.sv ∧ (s.respond c).1.ax = s.ax ∧
    (s.respond c).1.aq = s.aq ∧ (s.respond c).1.il = s.il ∧ (s.respond c).1.ln = s.ln ∧ (s.respond c).1.fl = s.fl := by
  and_intros <;> (unfold State.respond; repeat' (first | with_reducible rfl | (simp; done) | split | with_reducible refine (foldl_inv _ _ _ _ (fun _ _ => ?_)).trans ?_ | (dsimp only; first | split | with_reducible refine (foldl_inv _ _ _ _ (fun _ _ => ?_)).trans ?_)))

@[simp] theorem State.respond_frame3 (s : State) (c : Cmd) :
    (s.respond c).1.ev = s.ev ∧ (s.respond c).1.safe = s.safe ∧ (s.respond c).1.dm = s.dm ∧ (s.respond c).1.cf = s.cf ∧
    (s.respond c).1.th = s.th := by
  and_intros <;> (unfold State.respond; repeat' (first | with_reducible rfl | (simp; done) | split | with_reducible refine (foldl_inv _ _ _ _ (fun _ _ => ?_)).trans ?_ | (dsimp only; first | split | with_reducible refine (foldl_inv _ _ _ _ (fun _ _ => ?_)).trans ?_)))

@[simp] theorem State.passwordCmd_frame (s : State) (c : Cmd) :
    (s.passwordCmd c).1.now = s.now ∧ (s.passwordCmd c).1.phase = s.phase ∧ (s.passwordCmd c).1.pending = s.pending ∧
    (s.passwordCmd c).1.nodeOfs = s.nodeOfs ∧ (s.passwordCmd c).1.freeCtr = s.freeCtr ∧ (s.passwordCmd c).1.tx = s.tx ∧
    (s.passwordCmd c).1.tl = s.tl ∧ (s.passwordCmd c).1.sq = s.sq := by
  and_intros <;> (unfold State.passwordCmd; repeat' (first | with_reducible rfl | (simp; done) | split | with_reducible refine (foldl_inv _ _ _ _ (fun _ _ => ?_)).trans ?_ | (dsimp only; first | split | with_reducible refine (foldl_inv _ _ _ _ (fun _ _ => ?_)).trans ?_)))

@[simp] theorem State.passwordCmd_frame2 (s : State) (c : Cmd) :
    (s.passwordCmd c).1.fd = s.fd ∧ (s.passwordCmd c).1.ex = s.ex ∧ (s.passwordCmd c).1.sv = s.sv ∧
    (s.passwordCmd c).1.ax = s.ax ∧ (s.passwordCmd c).1.aq = s.aq ∧ (s.passwordCmd c).1.il = s.il ∧
    (s.passwordCmd c).1.ln = s.ln ∧ (s.passwordCmd c).1.fl = s.fl := by
  and_intros <;> (unfold State.passwordCmd; repeat' (first | with_reducible rfl | (simp; done) | split | with_reducible refine (foldl_inv _ _ _ _ (fun _ _ => ?_)).trans ?_ | (dsimp only; first | split | with_reducible refine (foldl_inv _ _ _ _ (fun _ _ => ?_)).trans ?_)))

@[simp] theorem State.passwordCmd_frame3 (s : State) (c : Cmd) :
    (s.passwordCmd c).1.ev = s.ev ∧ (s.passwordCmd c).1.safe = s.safe ∧ (s.passwordCmd c).1.dm = s.dm ∧
    (s.passwordCmd c).1.cf = s.cf ∧ (s.passwordCmd c).1.th = s.th := by
  and_intros <;> (unfold State.passwordCmd; repeat' (first | with_reducible rfl | (simp; done) | split | with_reducible refine (foldl_inv _ _ _ _ (fun _ _ => ?_)).trans ?_ | (dsimp only; first | split | with_reducible refine (foldl_inv _ _ _ _ (fun _ _ => ?_)).trans ?_)))

@[simp] theorem State.setPasswordCmd_frame (s : State) (c : Cmd) :
    (s.setPasswordCmd c).1.now = s.now ∧ (s.setPasswordCmd c).1.phase = s.phase ∧ (s.setPasswordCmd c).1.pending = s.pending ∧
    (s.setPasswordCmd c).1.nodeOfs = s.nodeOfs ∧ (s.setPasswordCmd c).1.tx = s.tx ∧ (s.setPasswordCmd c).1.regs = s.regs ∧
    (s.setPasswordCmd c).1.tl = s.tl ∧ (s.setPasswordCmd c).1.sq = s.sq := by
  and_intros <;> (unfold State.setPasswordCmd; repeat' (first | with_reducible rfl | (simp; done) | split | with_reducible refine (foldl_inv _ _ _ _ (fun _ _ => ?_)).trans ?_ | (dsimp only; first | split | with_reducible refine (foldl_inv _ _ _ _ (fun _ _ => ?_)).trans ?_)))

@[simp] theorem State.setPasswordCmd_frame2 (s : State) (c : Cmd) :
    (s.setPasswordCmd c).1.fd = s.fd ∧ (s.setPasswordCmd c).1.ex = s.ex ∧ (s.setPasswordCmd c).1.sv = s.sv ∧
    (s.setPasswordCmd c).1.ax = s.ax ∧ (s.setPasswordCmd c).1.aq = s.aq ∧ (s.setPasswordCmd c).1.il = s.il ∧
    (s.setPasswordCmd c).1.ln = s.ln ∧ (s.setPasswordCmd c).1.fl = s.fl := by
  and_intros <;> (unfold State.setPasswordCmd; repeat' (first | with_reducible rfl | (simp; done) | split | with_reducible refine (foldl_inv _ _ _ _ (fun _ _ => ?_)).trans ?_ | (dsimp only; first | split | with_reducible refine (foldl_inv _ _ _ _ (fun _ _ => ?_)).trans ?_)))

@[simp] theorem State.setPasswordCmd_frame3 (s : State) (c : Cmd) :
    (s.setPasswordCmd c).1.ev = s.ev ∧ (s.setPasswordCmd c).1.safe = s.safe ∧ (s.setPasswordCmd c).1.dm = s.dm ∧
    (s.setPasswordCmd c).1.cm = s.cm ∧ (s.setPasswordCmd c).1.cf = s.cf ∧ (s.setPasswordCmd c).1.th = s.th := by
  and_intros <;> (unfold State.setPasswordCmd; repeat' (first | with_reducible rfl | (simp; done) | split | with_reducible refine (foldl_inv _ _ _ _ (fun _ _ => ?_)).trans ?_ | (dsimp only; first | split | with_reducible refine (foldl_inv _ _ _ _ (fun _ _ => ?_)).trans ?_)))

@[simp] theorem State.program_frame (s : State) (upTo : Nat) :
    (s.program upTo).now = s.now ∧ (s.program upTo).phase = s.phase ∧ (s.program upTo).pending = s.pending ∧
    (s.program upTo).nodeOfs = s.nodeOfs ∧ (s.program upTo).freeCtr = s.freeCtr ∧ (s.program upTo).tx = s.tx ∧
    (s.program upTo).regs = s.regs ∧ (s.program upTo).tl = s.tl := by
  and_intros <;> (unfold State.program; repeat' (first | with_reducible rfl | (simp; done) | split | with_reducible refine (foldl_inv _ _ _ _ (fun _ _ => ?_)).trans ?_ | (dsimp only; first | split | with_reducible refine (foldl_inv _ _ _ _ (fun _ _ => ?_)).trans ?_)))

@[simp] theorem State.program_frame2 (s : State) (upTo : Nat) :
    (s.program upTo).sq = s.sq ∧ (s.program upTo).fd = s.fd ∧ (s.program upTo).ex = s.ex ∧ (s.program upTo).sv = s.sv ∧
    (s.program upTo).ax = s.ax ∧ (s.program upTo).aq = s.aq ∧ (s.program upTo).il = s.il ∧ (s.program upTo).ln = s.ln := by
  and_intros <;> (unfold State.program; repeat' (first | with_reducible rfl | (simp; done) | split | with_reducible refine (foldl_inv _ _ _ _ (fun _ _ => ?_)).trans ?_ | (dsimp only; first | split | with_reducible refine (foldl_inv _ _ _ _ (fun _ _ => ?_)).trans ?_)))

@[simp] theorem State.program_frame3 (s : State) (upTo : Nat) :
    (s.program upTo).fl = s.fl ∧ (s.program upTo).ev = s.ev ∧ (s.program upTo).safe = s.safe ∧ (s.program upTo).dm = s.dm ∧
    (s.program upTo).cm = s.cm ∧ (s.program upTo).cf = s.cf ∧ (s.program upTo).th = s.th := by
  and_intros <;> (unfold State.program; repeat' (first | with_reducible rfl | (simp; done) | split | with_reducible refine (foldl_inv _ _ _ _ (fun _ _ => ?_)).trans ?_ | (dsimp only; first | split | with_reducible refine (foldl_inv _ _ _ _ (fun _ _ => ?_)).trans ?_)))

@[simp] theorem State.fwConfirm_frame (s : State) :
    (s.fwConfirm).1.now = s.now ∧ (s.fwConfirm).1.phase = s.phase ∧ (s.fwConfirm).1.pending = s.pending ∧
    (s.fwConfirm).1.nodeOfs = s.nodeOfs ∧ (s.fwConfirm).1.freeCtr = s.freeCtr ∧ (s.fwConfirm).1.tx = s.tx ∧
    (s.fwConfirm).1.tl = s.tl ∧ (s.fwConfirm).1.sq = s.sq := by
  and_intros <;> (unfold State.fwConfirm; repeat' (first | with_reducible rfl | (simp; done) | split | with_reducible refine (foldl_inv _ _ _ _ (fun _ _ => ?_)).trans ?_ | (dsimp only; first | split | with_reducible refine (foldl_inv _ _ _ _ (fun _ _ => ?_)).trans ?_)))

@[simp] theorem State.fwConfirm_frame2 (s : State) :
    (s.fwConfirm).1.fd = s.fd ∧ (s.fwConfirm).1.ex = s.ex ∧ (s.fwConfirm).1.sv = s.sv ∧ (s.fwConfirm).1.ax = s.ax ∧
    (s.fwConfirm).1.aq = s.aq ∧ (s.fwConfirm).1.il = s.il ∧ (s.fwConfirm).1.ln = s.ln ∧ (s.fwConfirm).1.fl = s.fl := by
  and_intros <;> (unfold State.fwConfirm; repeat' (first | with_reducible rfl | (simp; done) | split | with_reducible refine (foldl_inv _ _ _ _ (fun _ _ => ?_)).trans ?_ | (dsimp only; first | split | with_reducible refine (foldl_inv _ _ _ _ (fun _ _ => ?_)).trans ?_)))

@[simp] theorem State.fwConfirm_frame3 (s : State) :
    (s.fwConfirm).1.safe = s.safe ∧ (s.fwConfirm).1.dm = s.dm ∧ (s.fwConfirm).1.cm = s.cm ∧ (s.fwConfirm).1.cf = s.cf ∧
    (s.fwConfirm).1.th = s.th := by
  and_intros <;> (unfold State.fwConfirm; repeat' (first | with_reducible rfl | (simp; done) | split | with_reducible refine (foldl_inv _ _ _ _ (fun _ _ => ?_)).trans ?_ | (dsimp only; first | split | with_reducible refine (foldl_inv _ _ _ _ (fun _ _ => ?_)).trans ?_)))

@[simp] theorem State.countReply_parts (s : State) (c : Cmd) (status : Nat) :
    (s.countReply c status).regs.setA = s.regs.setA ∧ (s.countReply c status).regs.setB = s.regs.setB ∧
    (s.countReply c status).regs.one = s.regs.one ∧ (s.countReply c status).regs.rsvd = s.regs.rsvd ∧
    (s.countReply c status).regs.waiting = s.regs.waiting ∧ (s.countReply c status).regs.stale = s.regs.stale ∧
    (s.countReply c status).regs.posted = s.regs.posted := by
  and_intros <;> (unfold State.countReply; repeat' (first | with_reducible rfl | (simp; done) | split | with_reducible refine (State.regs_setA_foldl _ _ _ (fun _ _ => ?_)).trans ?_ | with_reducible refine (State.regs_setB_foldl _ _ _ (fun _ _ => ?_)).trans ?_ | with_reducible refine (State.regs_one_foldl _ _ _ (fun _ _ => ?_)).trans ?_ | with_reducible refine (State.regs_rsvd_foldl _ _ _ (fun _ _ => ?_)).trans ?_ | with_reducible refine (State.regs_waiting_foldl _ _ _ (fun _ _ => ?_)).trans ?_ | with_reducible refine (State.regs_stale_foldl _ _ _ (fun _ _ => ?_)).trans ?_ | with_reducible refine (State.regs_posted_foldl _ _ _ (fun _ _ => ?_)).trans ?_ | with_reducible refine (State.fd_mem_foldl _ _ _ (fun _ _ => ?_)).trans ?_ | with_reducible refine (State.dm_sram_foldl _ _ _ (fun _ _ => ?_)).trans ?_ | with_reducible refine (State.sq_frameNo_foldl _ _ _ (fun _ _ => ?_)).trans ?_ | with_reducible refine (State.sq_inScan_foldl _ _ _ (fun _ _ => ?_)).trans ?_ | with_reducible refine (State.sq_nextBoundary_foldl _ _ _ (fun _ _ => ?_)).trans ?_ | with_reducible refine (State.pw_gate_foldl _ _ _ (fun _ _ => ?_)).trans ?_ | (dsimp only; first | split | with_reducible refine (State.regs_setA_foldl _ _ _ (fun _ _ => ?_)).trans ?_ | with_reducible refine (State.regs_setB_foldl _ _ _ (fun _ _ => ?_)).trans ?_ | with_reducible refine (State.regs_one_foldl _ _ _ (fun _ _ => ?_)).trans ?_ | with_reducible refine (State.regs_rsvd_foldl _ _ _ (fun _ _ => ?_)).trans ?_ | with_reducible refine (State.regs_waiting_foldl _ _ _ (fun _ _ => ?_)).trans ?_ | with_reducible refine (State.regs_stale_foldl _ _ _ (fun _ _ => ?_)).trans ?_ | with_reducible refine (State.regs_posted_foldl _ _ _ (fun _ _ => ?_)).trans ?_ | with_reducible refine (State.fd_mem_foldl _ _ _ (fun _ _ => ?_)).trans ?_ | with_reducible refine (State.dm_sram_foldl _ _ _ (fun _ _ => ?_)).trans ?_ | with_reducible refine (State.sq_frameNo_foldl _ _ _ (fun _ _ => ?_)).trans ?_ | with_reducible refine (State.sq_inScan_foldl _ _ _ (fun _ _ => ?_)).trans ?_ | with_reducible refine (State.sq_nextBoundary_foldl _ _ _ (fun _ _ => ?_)).trans ?_ | with_reducible refine (State.pw_gate_foldl _ _ _ (fun _ _ => ?_)).trans ?_)))

@[simp] theorem State.replay_parts (s : State) (k : CmdKey) (c : Cmd) (r : List Score) :
    (s.replay k c r).regs.setA = s.regs.setA ∧ (s.replay k c r).regs.setB = s.regs.setB ∧
    (s.replay k c r).regs.one = s.regs.one ∧ (s.replay k c r).regs.rsvd = s.regs.rsvd ∧
    (s.replay k c r).regs.waiting = s.regs.waiting ∧ (s.replay k c r).regs.stale = s.regs.stale ∧
    (s.replay k c r).regs.posted = s.regs.posted := by
  and_intros <;> (unfold State.replay; repeat' (first | with_reducible rfl | (simp; done) | split | with_reducible refine (State.regs_setA_foldl _ _ _ (fun _ _ => ?_)).trans ?_ | with_reducible refine (State.regs_setB_foldl _ _ _ (fun _ _ => ?_)).trans ?_ | with_reducible refine (State.regs_one_foldl _ _ _ (fun _ _ => ?_)).trans ?_ | with_reducible refine (State.regs_rsvd_foldl _ _ _ (fun _ _ => ?_)).trans ?_ | with_reducible refine (State.regs_waiting_foldl _ _ _ (fun _ _ => ?_)).trans ?_ | with_reducible refine (State.regs_stale_foldl _ _ _ (fun _ _ => ?_)).trans ?_ | with_reducible refine (State.regs_posted_foldl _ _ _ (fun _ _ => ?_)).trans ?_ | with_reducible refine (State.fd_mem_foldl _ _ _ (fun _ _ => ?_)).trans ?_ | with_reducible refine (State.dm_sram_foldl _ _ _ (fun _ _ => ?_)).trans ?_ | with_reducible refine (State.sq_frameNo_foldl _ _ _ (fun _ _ => ?_)).trans ?_ | with_reducible refine (State.sq_inScan_foldl _ _ _ (fun _ _ => ?_)).trans ?_ | with_reducible refine (State.sq_nextBoundary_foldl _ _ _ (fun _ _ => ?_)).trans ?_ | with_reducible refine (State.pw_gate_foldl _ _ _ (fun _ _ => ?_)).trans ?_ | (dsimp only; first | split | with_reducible refine (State.regs_setA_foldl _ _ _ (fun _ _ => ?_)).trans ?_ | with_reducible refine (State.regs_setB_foldl _ _ _ (fun _ _ => ?_)).trans ?_ | with_reducible refine (State.regs_one_foldl _ _ _ (fun _ _ => ?_)).trans ?_ | with_reducible refine (State.regs_rsvd_foldl _ _ _ (fun _ _ => ?_)).trans ?_ | with_reducible refine (State.regs_waiting_foldl _ _ _ (fun _ _ => ?_)).trans ?_ | with_reducible refine (State.regs_stale_foldl _ _ _ (fun _ _ => ?_)).trans ?_ | with_reducible refine (State.regs_posted_foldl _ _ _ (fun _ _ => ?_)).trans ?_ | with_reducible refine (State.fd_mem_foldl _ _ _ (fun _ _ => ?_)).trans ?_ | with_reducible refine (State.dm_sram_foldl _ _ _ (fun _ _ => ?_)).trans ?_ | with_reducible refine (State.sq_frameNo_foldl _ _ _ (fun _ _ => ?_)).trans ?_ | with_reducible refine (State.sq_inScan_foldl _ _ _ (fun _ _ => ?_)).trans ?_ | with_reducible refine (State.sq_nextBoundary_foldl _ _ _ (fun _ _ => ?_)).trans ?_ | with_reducible refine (State.pw_gate_foldl _ _ _ (fun _ _ => ?_)).trans ?_)))

@[simp] theorem State.answer_parts (s : State) (k : CmdKey) (c : Cmd) (a : Answer) :
    (s.answer k c a).regs.setA = s.regs.setA ∧ (s.answer k c a).regs.setB = s.regs.setB ∧
    (s.answer k c a).regs.one = s.regs.one ∧ (s.answer k c a).regs.rsvd = s.regs.rsvd ∧
    (s.answer k c a).regs.waiting = s.regs.waiting ∧ (s.answer k c a).regs.stale = s.regs.stale ∧
    (s.answer k c a).regs.posted = s.regs.posted := by
  and_intros <;> (unfold State.answer; repeat' (first | with_reducible rfl | (simp; done) | split | with_reducible refine (State.regs_setA_foldl _ _ _ (fun _ _ => ?_)).trans ?_ | with_reducible refine (State.regs_setB_foldl _ _ _ (fun _ _ => ?_)).trans ?_ | with_reducible refine (State.regs_one_foldl _ _ _ (fun _ _ => ?_)).trans ?_ | with_reducible refine (State.regs_rsvd_foldl _ _ _ (fun _ _ => ?_)).trans ?_ | with_reducible refine (State.regs_waiting_foldl _ _ _ (fun _ _ => ?_)).trans ?_ | with_reducible refine (State.regs_stale_foldl _ _ _ (fun _ _ => ?_)).trans ?_ | with_reducible refine (State.regs_posted_foldl _ _ _ (fun _ _ => ?_)).trans ?_ | with_reducible refine (State.fd_mem_foldl _ _ _ (fun _ _ => ?_)).trans ?_ | with_reducible refine (State.dm_sram_foldl _ _ _ (fun _ _ => ?_)).trans ?_ | with_reducible refine (State.sq_frameNo_foldl _ _ _ (fun _ _ => ?_)).trans ?_ | with_reducible refine (State.sq_inScan_foldl _ _ _ (fun _ _ => ?_)).trans ?_ | with_reducible refine (State.sq_nextBoundary_foldl _ _ _ (fun _ _ => ?_)).trans ?_ | with_reducible refine (State.pw_gate_foldl _ _ _ (fun _ _ => ?_)).trans ?_ | (dsimp only; first | split | with_reducible refine (State.regs_setA_foldl _ _ _ (fun _ _ => ?_)).trans ?_ | with_reducible refine (State.regs_setB_foldl _ _ _ (fun _ _ => ?_)).trans ?_ | with_reducible refine (State.regs_one_foldl _ _ _ (fun _ _ => ?_)).trans ?_ | with_reducible refine (State.regs_rsvd_foldl _ _ _ (fun _ _ => ?_)).trans ?_ | with_reducible refine (State.regs_waiting_foldl _ _ _ (fun _ _ => ?_)).trans ?_ | with_reducible refine (State.regs_stale_foldl _ _ _ (fun _ _ => ?_)).trans ?_ | with_reducible refine (State.regs_posted_foldl _ _ _ (fun _ _ => ?_)).trans ?_ | with_reducible refine (State.fd_mem_foldl _ _ _ (fun _ _ => ?_)).trans ?_ | with_reducible refine (State.dm_sram_foldl _ _ _ (fun _ _ => ?_)).trans ?_ | with_reducible refine (State.sq_frameNo_foldl _ _ _ (fun _ _ => ?_)).trans ?_ | with_reducible refine (State.sq_inScan_foldl _ _ _ (fun _ _ => ?_)).trans ?_ | with_reducible refine (State.sq_nextBoundary_foldl _ _ _ (fun _ _ => ?_)).trans ?_ | with_reducible refine (State.pw_gate_foldl _ _ _ (fun _ _ => ?_)).trans ?_)))

@[simp] theorem State.framesStart_parts (s : State) :
    (s.framesStart).1.sq.frameNo = s.sq.frameNo ∧ (s.framesStart).1.sq.inScan = s.sq.inScan ∧
    (s.framesStart).1.sq.nextBoundary = s.sq.nextBoundary := by
  and_intros <;> (unfold State.framesStart; repeat' (first | with_reducible rfl | (simp; done) | split | with_reducible refine (State.regs_setA_foldl _ _ _ (fun _ _ => ?_)).trans ?_ | with_reducible refine (State.regs_setB_foldl _ _ _ (fun _ _ => ?_)).trans ?_ | with_reducible refine (State.regs_one_foldl _ _ _ (fun _ _ => ?_)).trans ?_ | with_reducible refine (State.regs_rsvd_foldl _ _ _ (fun _ _ => ?_)).trans ?_ | with_reducible refine (State.regs_waiting_foldl _ _ _ (fun _ _ => ?_)).trans ?_ | with_reducible refine (State.regs_stale_foldl _ _ _ (fun _ _ => ?_)).trans ?_ | with_reducible refine (State.regs_posted_foldl _ _ _ (fun _ _ => ?_)).trans ?_ | with_reducible refine (State.fd_mem_foldl _ _ _ (fun _ _ => ?_)).trans ?_ | with_reducible refine (State.dm_sram_foldl _ _ _ (fun _ _ => ?_)).trans ?_ | with_reducible refine (State.sq_frameNo_foldl _ _ _ (fun _ _ => ?_)).trans ?_ | with_reducible refine (State.sq_inScan_foldl _ _ _ (fun _ _ => ?_)).trans ?_ | with_reducible refine (State.sq_nextBoundary_foldl _ _ _ (fun _ _ => ?_)).trans ?_ | with_reducible refine (State.pw_gate_foldl _ _ _ (fun _ _ => ?_)).trans ?_ | (dsimp only; first | split | with_reducible refine (State.regs_setA_foldl _ _ _ (fun _ _ => ?_)).trans ?_ | with_reducible refine (State.regs_setB_foldl _ _ _ (fun _ _ => ?_)).trans ?_ | with_reducible refine (State.regs_one_foldl _ _ _ (fun _ _ => ?_)).trans ?_ | with_reducible refine (State.regs_rsvd_foldl _ _ _ (fun _ _ => ?_)).trans ?_ | with_reducible refine (State.regs_waiting_foldl _ _ _ (fun _ _ => ?_)).trans ?_ | with_reducible refine (State.regs_stale_foldl _ _ _ (fun _ _ => ?_)).trans ?_ | with_reducible refine (State.regs_posted_foldl _ _ _ (fun _ _ => ?_)).trans ?_ | with_reducible refine (State.fd_mem_foldl _ _ _ (fun _ _ => ?_)).trans ?_ | with_reducible refine (State.dm_sram_foldl _ _ _ (fun _ _ => ?_)).trans ?_ | with_reducible refine (State.sq_frameNo_foldl _ _ _ (fun _ _ => ?_)).trans ?_ | with_reducible refine (State.sq_inScan_foldl _ _ _ (fun _ _ => ?_)).trans ?_ | with_reducible refine (State.sq_nextBoundary_foldl _ _ _ (fun _ _ => ?_)).trans ?_ | with_reducible refine (State.pw_gate_foldl _ _ _ (fun _ _ => ?_)).trans ?_)))

@[simp] theorem State.unsubscribeCmd_parts (s : State) (c : Cmd) :
    (s.unsubscribeCmd c).1.regs.setA = s.regs.setA ∧ (s.unsubscribeCmd c).1.regs.setB = s.regs.setB ∧
    (s.unsubscribeCmd c).1.regs.one = s.regs.one ∧ (s.unsubscribeCmd c).1.regs.rsvd = s.regs.rsvd ∧
    (s.unsubscribeCmd c).1.regs.waiting = s.regs.waiting ∧ (s.unsubscribeCmd c).1.regs.stale = s.regs.stale ∧
    (s.unsubscribeCmd c).1.regs.posted = s.regs.posted ∧ (s.unsubscribeCmd c).1.dm.sram = s.dm.sram := by
  and_intros <;> (unfold State.unsubscribeCmd; repeat' (first | with_reducible rfl | (simp; done) | split | with_reducible refine (State.regs_setA_foldl _ _ _ (fun _ _ => ?_)).trans ?_ | with_reducible refine (State.regs_setB_foldl _ _ _ (fun _ _ => ?_)).trans ?_ | with_reducible refine (State.regs_one_foldl _ _ _ (fun _ _ => ?_)).trans ?_ | with_reducible refine (State.regs_rsvd_foldl _ _ _ (fun _ _ => ?_)).trans ?_ | with_reducible refine (State.regs_waiting_foldl _ _ _ (fun _ _ => ?_)).trans ?_ | with_reducible refine (State.regs_stale_foldl _ _ _ (fun _ _ => ?_)).trans ?_ | with_reducible refine (State.regs_posted_foldl _ _ _ (fun _ _ => ?_)).trans ?_ | with_reducible refine (State.fd_mem_foldl _ _ _ (fun _ _ => ?_)).trans ?_ | with_reducible refine (State.dm_sram_foldl _ _ _ (fun _ _ => ?_)).trans ?_ | with_reducible refine (State.sq_frameNo_foldl _ _ _ (fun _ _ => ?_)).trans ?_ | with_reducible refine (State.sq_inScan_foldl _ _ _ (fun _ _ => ?_)).trans ?_ | with_reducible refine (State.sq_nextBoundary_foldl _ _ _ (fun _ _ => ?_)).trans ?_ | with_reducible refine (State.pw_gate_foldl _ _ _ (fun _ _ => ?_)).trans ?_ | (dsimp only; first | split | with_reducible refine (State.regs_setA_foldl _ _ _ (fun _ _ => ?_)).trans ?_ | with_reducible refine (State.regs_setB_foldl _ _ _ (fun _ _ => ?_)).trans ?_ | with_reducible refine (State.regs_one_foldl _ _ _ (fun _ _ => ?_)).trans ?_ | with_reducible refine (State.regs_rsvd_foldl _ _ _ (fun _ _ => ?_)).trans ?_ | with_reducible refine (State.regs_waiting_foldl _ _ _ (fun _ _ => ?_)).trans ?_ | with_reducible refine (State.regs_stale_foldl _ _ _ (fun _ _ => ?_)).trans ?_ | with_reducible refine (State.regs_posted_foldl _ _ _ (fun _ _ => ?_)).trans ?_ | with_reducible refine (State.fd_mem_foldl _ _ _ (fun _ _ => ?_)).trans ?_ | with_reducible refine (State.dm_sram_foldl _ _ _ (fun _ _ => ?_)).trans ?_ | with_reducible refine (State.sq_frameNo_foldl _ _ _ (fun _ _ => ?_)).trans ?_ | with_reducible refine (State.sq_inScan_foldl _ _ _ (fun _ _ => ?_)).trans ?_ | with_reducible refine (State.sq_nextBoundary_foldl _ _ _ (fun _ _ => ?_)).trans ?_ | with_reducible refine (State.pw_gate_foldl _ _ _ (fun _ _ => ?_)).trans ?_)))

@[simp] theorem State.openSession_parts (s : State) (how : Nat) :
    (s.openSession how).regs.setA = s.regs.setA ∧ (s.openSession how).regs.setB = s.regs.setB ∧
    (s.openSession how).regs.one = s.regs.one ∧ (s.openSession how).regs.rsvd = s.regs.rsvd ∧
    (s.openSession how).regs.waiting = s.regs.waiting ∧ (s.openSession how).regs.stale = s.regs.stale ∧
    (s.openSession how).regs.posted = s.regs.posted ∧ (s.openSession how).pw.gate = s.pw.gate := by
  and_intros <;> (unfold State.openSession; repeat' (first | with_reducible rfl | (simp; done) | split | with_reducible refine (State.regs_setA_foldl _ _ _ (fun _ _ => ?_)).trans ?_ | with_reducible refine (State.regs_setB_foldl _ _ _ (fun _ _ => ?_)).trans ?_ | with_reducible refine (State.regs_one_foldl _ _ _ (fun _ _ => ?_)).trans ?_ | with_reducible refine (State.regs_rsvd_foldl _ _ _ (fun _ _ => ?_)).trans ?_ | with_reducible refine (State.regs_waiting_foldl _ _ _ (fun _ _ => ?_)).trans ?_ | with_reducible refine (State.regs_stale_foldl _ _ _ (fun _ _ => ?_)).trans ?_ | with_reducible refine (State.regs_posted_foldl _ _ _ (fun _ _ => ?_)).trans ?_ | with_reducible refine (State.fd_mem_foldl _ _ _ (fun _ _ => ?_)).trans ?_ | with_reducible refine (State.dm_sram_foldl _ _ _ (fun _ _ => ?_)).trans ?_ | with_reducible refine (State.sq_frameNo_foldl _ _ _ (fun _ _ => ?_)).trans ?_ | with_reducible refine (State.sq_inScan_foldl _ _ _ (fun _ _ => ?_)).trans ?_ | with_reducible refine (State.sq_nextBoundary_foldl _ _ _ (fun _ _ => ?_)).trans ?_ | with_reducible refine (State.pw_gate_foldl _ _ _ (fun _ _ => ?_)).trans ?_ | (dsimp only; first | split | with_reducible refine (State.regs_setA_foldl _ _ _ (fun _ _ => ?_)).trans ?_ | with_reducible refine (State.regs_setB_foldl _ _ _ (fun _ _ => ?_)).trans ?_ | with_reducible refine (State.regs_one_foldl _ _ _ (fun _ _ => ?_)).trans ?_ | with_reducible refine (State.regs_rsvd_foldl _ _ _ (fun _ _ => ?_)).trans ?_ | with_reducible refine (State.regs_waiting_foldl _ _ _ (fun _ _ => ?_)).trans ?_ | with_reducible refine (State.regs_stale_foldl _ _ _ (fun _ _ => ?_)).trans ?_ | with_reducible refine (State.regs_posted_foldl _ _ _ (fun _ _ => ?_)).trans ?_ | with_reducible refine (State.fd_mem_foldl _ _ _ (fun _ _ => ?_)).trans ?_ | with_reducible refine (State.dm_sram_foldl _ _ _ (fun _ _ => ?_)).trans ?_ | with_reducible refine (State.sq_frameNo_foldl _ _ _ (fun _ _ => ?_)).trans ?_ | with_reducible refine (State.sq_inScan_foldl _ _ _ (fun _ _ => ?_)).trans ?_ | with_reducible refine (State.sq_nextBoundary_foldl _ _ _ (fun _ _ => ?_)).trans ?_ | with_reducible refine (State.pw_gate_foldl _ _ _ (fun _ _ => ?_)).trans ?_)))

@[simp] theorem State.authFail_parts (s : State) :
    (s.authFail).regs.setA = s.regs.setA ∧ (s.authFail).regs.setB = s.regs.setB ∧ (s.authFail).regs.one = s.regs.one ∧
    (s.authFail).regs.rsvd = s.regs.rsvd ∧ (s.authFail).regs.waiting = s.regs.waiting ∧
    (s.authFail).regs.stale = s.regs.stale ∧ (s.authFail).regs.posted = s.regs.posted ∧ (s.authFail).pw.gate = s.pw.gate := by
  and_intros <;> (unfold State.authFail; repeat' (first | with_reducible rfl | (simp; done) | split | with_reducible refine (State.regs_setA_foldl _ _ _ (fun _ _ => ?_)).trans ?_ | with_reducible refine (State.regs_setB_foldl _ _ _ (fun _ _ => ?_)).trans ?_ | with_reducible refine (State.regs_one_foldl _ _ _ (fun _ _ => ?_)).trans ?_ | with_reducible refine (State.regs_rsvd_foldl _ _ _ (fun _ _ => ?_)).trans ?_ | with_reducible refine (State.regs_waiting_foldl _ _ _ (fun _ _ => ?_)).trans ?_ | with_reducible refine (State.regs_stale_foldl _ _ _ (fun _ _ => ?_)).trans ?_ | with_reducible refine (State.regs_posted_foldl _ _ _ (fun _ _ => ?_)).trans ?_ | with_reducible refine (State.fd_mem_foldl _ _ _ (fun _ _ => ?_)).trans ?_ | with_reducible refine (State.dm_sram_foldl _ _ _ (fun _ _ => ?_)).trans ?_ | with_reducible refine (State.sq_frameNo_foldl _ _ _ (fun _ _ => ?_)).trans ?_ | with_reducible refine (State.sq_inScan_foldl _ _ _ (fun _ _ => ?_)).trans ?_ | with_reducible refine (State.sq_nextBoundary_foldl _ _ _ (fun _ _ => ?_)).trans ?_ | with_reducible refine (State.pw_gate_foldl _ _ _ (fun _ _ => ?_)).trans ?_ | (dsimp only; first | split | with_reducible refine (State.regs_setA_foldl _ _ _ (fun _ _ => ?_)).trans ?_ | with_reducible refine (State.regs_setB_foldl _ _ _ (fun _ _ => ?_)).trans ?_ | with_reducible refine (State.regs_one_foldl _ _ _ (fun _ _ => ?_)).trans ?_ | with_reducible refine (State.regs_rsvd_foldl _ _ _ (fun _ _ => ?_)).trans ?_ | with_reducible refine (State.regs_waiting_foldl _ _ _ (fun _ _ => ?_)).trans ?_ | with_reducible refine (State.regs_stale_foldl _ _ _ (fun _ _ => ?_)).trans ?_ | with_reducible refine (State.regs_posted_foldl _ _ _ (fun _ _ => ?_)).trans ?_ | with_reducible refine (State.fd_mem_foldl _ _ _ (fun _ _ => ?_)).trans ?_ | with_reducible refine (State.dm_sram_foldl _ _ _ (fun _ _ => ?_)).trans ?_ | with_reducible refine (State.sq_frameNo_foldl _ _ _ (fun _ _ => ?_)).trans ?_ | with_reducible refine (State.sq_inScan_foldl _ _ _ (fun _ _ => ?_)).trans ?_ | with_reducible refine (State.sq_nextBoundary_foldl _ _ _ (fun _ _ => ?_)).trans ?_ | with_reducible refine (State.pw_gate_foldl _ _ _ (fun _ _ => ?_)).trans ?_)))

@[simp] theorem State.respond_parts (s : State) (c : Cmd) :
    (s.respond c).1.regs.setA = s.regs.setA ∧ (s.respond c).1.regs.setB = s.regs.setB ∧
    (s.respond c).1.regs.one = s.regs.one ∧ (s.respond c).1.regs.rsvd = s.regs.rsvd ∧
    (s.respond c).1.regs.waiting = s.regs.waiting ∧ (s.respond c).1.regs.stale = s.regs.stale ∧
    (s.respond c).1.regs.posted = s.regs.posted ∧ (s.respond c).1.pw.gate = s.pw.gate := by
  and_intros <;> (unfold State.respond; repeat' (first | with_reducible rfl | (simp; done) | split | with_reducible refine (State.regs_setA_foldl _ _ _ (fun _ _ => ?_)).trans ?_ | with_reducible refine (State.regs_setB_foldl _ _ _ (fun _ _ => ?_)).trans ?_ | with_reducible refine (State.regs_one_foldl _ _ _ (fun _ _ => ?_)).trans ?_ | with_reducible refine (State.regs_rsvd_foldl _ _ _ (fun _ _ => ?_)).trans ?_ | with_reducible refine (State.regs_waiting_foldl _ _ _ (fun _ _ => ?_)).trans ?_ | with_reducible refine (State.regs_stale_foldl _ _ _ (fun _ _ => ?_)).trans ?_ | with_reducible refine (State.regs_posted_foldl _ _ _ (fun _ _ => ?_)).trans ?_ | with_reducible refine (State.fd_mem_foldl _ _ _ (fun _ _ => ?_)).trans ?_ | with_reducible refine (State.dm_sram_foldl _ _ _ (fun _ _ => ?_)).trans ?_ | with_reducible refine (State.sq_frameNo_foldl _ _ _ (fun _ _ => ?_)).trans ?_ | with_reducible refine (State.sq_inScan_foldl _ _ _ (fun _ _ => ?_)).trans ?_ | with_reducible refine (State.sq_nextBoundary_foldl _ _ _ (fun _ _ => ?_)).trans ?_ | with_reducible refine (State.pw_gate_foldl _ _ _ (fun _ _ => ?_)).trans ?_ | (dsimp only; first | split | with_reducible refine (State.regs_setA_foldl _ _ _ (fun _ _ => ?_)).trans ?_ | with_reducible refine (State.regs_setB_foldl _ _ _ (fun _ _ => ?_)).trans ?_ | with_reducible refine (State.regs_one_foldl _ _ _ (fun _ _ => ?_)).trans ?_ | with_reducible refine (State.regs_rsvd_foldl _ _ _ (fun _ _ => ?_)).trans ?_ | with_reducible refine (State.regs_waiting_foldl _ _ _ (fun _ _ => ?_)).trans ?_ | with_reducible refine (State.regs_stale_foldl _ _ _ (fun _ _ => ?_)).trans ?_ | with_reducible refine (State.regs_posted_foldl _ _ _ (fun _ _ => ?_)).trans ?_ | with_reducible refine (State.fd_mem_foldl _ _ _ (fun _ _ => ?_)).trans ?_ | with_reducible refine (State.dm_sram_foldl _ _ _ (fun _ _ => ?_)).trans ?_ | with_reducible refine (State.sq_frameNo_foldl _ _ _ (fun _ _ => ?_)).trans ?_ | with_reducible refine (State.sq_inScan_foldl _ _ _ (fun _ _ => ?_)).trans ?_ | with_reducible refine (State.sq_nextBoundary_foldl _ _ _ (fun _ _ => ?_)).trans ?_ | with_reducible refine (State.pw_gate_foldl _ _ _ (fun _ _ => ?_)).trans ?_)))

@[simp] theorem State.passwordCmd_parts (s : State) (c : Cmd) :
    (s.passwordCmd c).1.regs.setA = s.regs.setA ∧ (s.passwordCmd c).1.regs.setB = s.regs.setB ∧
    (s.passwordCmd c).1.regs.one = s.regs.one ∧ (s.passwordCmd c).1.regs.rsvd = s.regs.rsvd ∧
    (s.passwordCmd c).1.regs.waiting = s.regs.waiting ∧ (s.passwordCmd c).1.regs.stale = s.regs.stale ∧
    (s.passwordCmd c).1.regs.posted = s.regs.posted ∧ (s.passwordCmd c).1.pw.gate = s.pw.gate := by
  and_intros <;> (unfold State.passwordCmd; repeat' (first | with_reducible rfl | (simp; done) | split | with_reducible refine (State.regs_setA_foldl _ _ _ (fun _ _ => ?_)).trans ?_ | with_reducible refine (State.regs_setB_foldl _ _ _ (fun _ _ => ?_)).trans ?_ | with_reducible refine (State.regs_one_foldl _ _ _ (fun _ _ => ?_)).trans ?_ | with_reducible refine (State.regs_rsvd_foldl _ _ _ (fun _ _ => ?_)).trans ?_ | with_reducible refine (State.regs_waiting_foldl _ _ _ (fun _ _ => ?_)).trans ?_ | with_reducible refine (State.regs_stale_foldl _ _ _ (fun _ _ => ?_)).trans ?_ | with_reducible refine (State.regs_posted_foldl _ _ _ (fun _ _ => ?_)).trans ?_ | with_reducible refine (State.fd_mem_foldl _ _ _ (fun _ _ => ?_)).trans ?_ | with_reducible refine (State.dm_sram_foldl _ _ _ (fun _ _ => ?_)).trans ?_ | with_reducible refine (State.sq_frameNo_foldl _ _ _ (fun _ _ => ?_)).trans ?_ | with_reducible refine (State.sq_inScan_foldl _ _ _ (fun _ _ => ?_)).trans ?_ | with_reducible refine (State.sq_nextBoundary_foldl _ _ _ (fun _ _ => ?_)).trans ?_ | with_reducible refine (State.pw_gate_foldl _ _ _ (fun _ _ => ?_)).trans ?_ | (dsimp only; first | split | with_reducible refine (State.regs_setA_foldl _ _ _ (fun _ _ => ?_)).trans ?_ | with_reducible refine (State.regs_setB_foldl _ _ _ (fun _ _ => ?_)).trans ?_ | with_reducible refine (State.regs_one_foldl _ _ _ (fun _ _ => ?_)).trans ?_ | with_reducible refine (State.regs_rsvd_foldl _ _ _ (fun _ _ => ?_)).trans ?_ | with_reducible refine (State.regs_waiting_foldl _ _ _ (fun _ _ => ?_)).trans ?_ | with_reducible refine (State.regs_stale_foldl _ _ _ (fun _ _ => ?_)).trans ?_ | with_reducible refine (State.regs_posted_foldl _ _ _ (fun _ _ => ?_)).trans ?_ | with_reducible refine (State.fd_mem_foldl _ _ _ (fun _ _ => ?_)).trans ?_ | with_reducible refine (State.dm_sram_foldl _ _ _ (fun _ _ => ?_)).trans ?_ | with_reducible refine (State.sq_frameNo_foldl _ _ _ (fun _ _ => ?_)).trans ?_ | with_reducible refine (State.sq_inScan_foldl _ _ _ (fun _ _ => ?_)).trans ?_ | with_reducible refine (State.sq_nextBoundary_foldl _ _ _ (fun _ _ => ?_)).trans ?_ | with_reducible refine (State.pw_gate_foldl _ _ _ (fun _ _ => ?_)).trans ?_)))

@[simp] theorem State.setPasswordCmd_parts (s : State) (c : Cmd) :
    (s.setPasswordCmd c).1.pw.gate = s.pw.gate := by
  unfold State.setPasswordCmd; repeat' (first | with_reducible rfl | (simp; done) | split | with_reducible refine (State.regs_setA_foldl _ _ _ (fun _ _ => ?_)).trans ?_ | with_reducible refine (State.regs_setB_foldl _ _ _ (fun _ _ => ?_)).trans ?_ | with_reducible refine (State.regs_one_foldl _ _ _ (fun _ _ => ?_)).trans ?_ | with_reducible refine (State.regs_rsvd_foldl _ _ _ (fun _ _ => ?_)).trans ?_ | with_reducible refine (State.regs_waiting_foldl _ _ _ (fun _ _ => ?_)).trans ?_ | with_reducible refine (State.regs_stale_foldl _ _ _ (fun _ _ => ?_)).trans ?_ | with_reducible refine (State.regs_posted_foldl _ _ _ (fun _ _ => ?_)).trans ?_ | with_reducible refine (State.fd_mem_foldl _ _ _ (fun _ _ => ?_)).trans ?_ | with_reducible refine (State.dm_sram_foldl _ _ _ (fun _ _ => ?_)).trans ?_ | with_reducible refine (State.sq_frameNo_foldl _ _ _ (fun _ _ => ?_)).trans ?_ | with_reducible refine (State.sq_inScan_foldl _ _ _ (fun _ _ => ?_)).trans ?_ | with_reducible refine (State.sq_nextBoundary_foldl _ _ _ (fun _ _ => ?_)).trans ?_ | with_reducible refine (State.pw_gate_foldl _ _ _ (fun _ _ => ?_)).trans ?_ | (dsimp only; first | split | with_reducible refine (State.regs_setA_foldl _ _ _ (fun _ _ => ?_)).trans ?_ | with_reducible refine (State.regs_setB_foldl _ _ _ (fun _ _ => ?_)).trans ?_ | with_reducible refine (State.regs_one_foldl _ _ _ (fun _ _ => ?_)).trans ?_ | with_reducible refine (State.regs_rsvd_foldl _ _ _ (fun _ _ => ?_)).trans ?_ | with_reducible refine (State.regs_waiting_foldl _ _ _ (fun _ _ => ?_)).trans ?_ | with_reducible refine (State.regs_stale_foldl _ _ _ (fun _ _ => ?_)).trans ?_ | with_reducible refine (State.regs_posted_foldl _ _ _ (fun _ _ => ?_)).trans ?_ | with_reducible refine (State.fd_mem_foldl _ _ _ (fun _ _ => ?_)).trans ?_ | with_reducible refine (State.dm_sram_foldl _ _ _ (fun _ _ => ?_)).trans ?_ | with_reducible refine (State.sq_frameNo_foldl _ _ _ (fun _ _ => ?_)).trans ?_ | with_reducible refine (State.sq_inScan_foldl _ _ _ (fun _ _ => ?_)).trans ?_ | with_reducible refine (State.sq_nextBoundary_foldl _ _ _ (fun _ _ => ?_)).trans ?_ | with_reducible refine (State.pw_gate_foldl _ _ _ (fun _ _ => ?_)).trans ?_))

@[simp] theorem State.program_parts (s : State) (upTo : Nat) :
    (s.program upTo).pw.gate = s.pw.gate := by
  unfold State.program; repeat' (first | with_reducible rfl | (simp; done) | split | with_reducible refine (State.regs_setA_foldl _ _ _ (fun _ _ => ?_)).trans ?_ | with_reducible refine (State.regs_setB_foldl _ _ _ (fun _ _ => ?_)).trans ?_ | with_reducible refine (State.regs_one_foldl _ _ _ (fun _ _ => ?_)).trans ?_ | with_reducible refine (State.regs_rsvd_foldl _ _ _ (fun _ _ => ?_)).trans ?_ | with_reducible refine (State.regs_waiting_foldl _ _ _ (fun _ _ => ?_)).trans ?_ | with_reducible refine (State.regs_stale_foldl _ _ _ (fun _ _ => ?_)).trans ?_ | with_reducible refine (State.regs_posted_foldl _ _ _ (fun _ _ => ?_)).trans ?_ | with_reducible refine (State.fd_mem_foldl _ _ _ (fun _ _ => ?_)).trans ?_ | with_reducible refine (State.dm_sram_foldl _ _ _ (fun _ _ => ?_)).trans ?_ | with_reducible refine (State.sq_frameNo_foldl _ _ _ (fun _ _ => ?_)).trans ?_ | with_reducible refine (State.sq_inScan_foldl _ _ _ (fun _ _ => ?_)).trans ?_ | with_reducible refine (State.sq_nextBoundary_foldl _ _ _ (fun _ _ => ?_)).trans ?_ | with_reducible refine (State.pw_gate_foldl _ _ _ (fun _ _ => ?_)).trans ?_ | (dsimp only; first | split | with_reducible refine (State.regs_setA_foldl _ _ _ (fun _ _ => ?_)).trans ?_ | with_reducible refine (State.regs_setB_foldl _ _ _ (fun _ _ => ?_)).trans ?_ | with_reducible refine (State.regs_one_foldl _ _ _ (fun _ _ => ?_)).trans ?_ | with_reducible refine (State.regs_rsvd_foldl _ _ _ (fun _ _ => ?_)).trans ?_ | with_reducible refine (State.regs_waiting_foldl _ _ _ (fun _ _ => ?_)).trans ?_ | with_reducible refine (State.regs_stale_foldl _ _ _ (fun _ _ => ?_)).trans ?_ | with_reducible refine (State.regs_posted_foldl _ _ _ (fun _ _ => ?_)).trans ?_ | with_reducible refine (State.fd_mem_foldl _ _ _ (fun _ _ => ?_)).trans ?_ | with_reducible refine (State.dm_sram_foldl _ _ _ (fun _ _ => ?_)).trans ?_ | with_reducible refine (State.sq_frameNo_foldl _ _ _ (fun _ _ => ?_)).trans ?_ | with_reducible refine (State.sq_inScan_foldl _ _ _ (fun _ _ => ?_)).trans ?_ | with_reducible refine (State.sq_nextBoundary_foldl _ _ _ (fun _ _ => ?_)).trans ?_ | with_reducible refine (State.pw_gate_foldl _ _ _ (fun _ _ => ?_)).trans ?_))

@[simp] theorem State.fwConfirm_parts (s : State) :
    (s.fwConfirm).1.regs.setA = s.regs.setA ∧ (s.fwConfirm).1.regs.setB = s.regs.setB ∧
    (s.fwConfirm).1.regs.one = s.regs.one ∧ (s.fwConfirm).1.regs.rsvd = s.regs.rsvd ∧
    (s.fwConfirm).1.regs.waiting = s.regs.waiting ∧ (s.fwConfirm).1.regs.stale = s.regs.stale ∧
    (s.fwConfirm).1.regs.posted = s.regs.posted ∧ (s.fwConfirm).1.pw.gate = s.pw.gate := by
  and_intros <;> (unfold State.fwConfirm; repeat' (first | with_reducible rfl | (simp; done) | split | with_reducible refine (State.regs_setA_foldl _ _ _ (fun _ _ => ?_)).trans ?_ | with_reducible refine (State.regs_setB_foldl _ _ _ (fun _ _ => ?_)).trans ?_ | with_reducible refine (State.regs_one_foldl _ _ _ (fun _ _ => ?_)).trans ?_ | with_reducible refine (State.regs_rsvd_foldl _ _ _ (fun _ _ => ?_)).trans ?_ | with_reducible refine (State.regs_waiting_foldl _ _ _ (fun _ _ => ?_)).trans ?_ | with_reducible refine (State.regs_stale_foldl _ _ _ (fun _ _ => ?_)).trans ?_ | with_reducible refine (State.regs_posted_foldl _ _ _ (fun _ _ => ?_)).trans ?_ | with_reducible refine (State.fd_mem_foldl _ _ _ (fun _ _ => ?_)).trans ?_ | with_reducible refine (State.dm_sram_foldl _ _ _ (fun _ _ => ?_)).trans ?_ | with_reducible refine (State.sq_frameNo_foldl _ _ _ (fun _ _ => ?_)).trans ?_ | with_reducible refine (State.sq_inScan_foldl _ _ _ (fun _ _ => ?_)).trans ?_ | with_reducible refine (State.sq_nextBoundary_foldl _ _ _ (fun _ _ => ?_)).trans ?_ | with_reducible refine (State.pw_gate_foldl _ _ _ (fun _ _ => ?_)).trans ?_ | (dsimp only; first | split | with_reducible refine (State.regs_setA_foldl _ _ _ (fun _ _ => ?_)).trans ?_ | with_reducible refine (State.regs_setB_foldl _ _ _ (fun _ _ => ?_)).trans ?_ | with_reducible refine (State.regs_one_foldl _ _ _ (fun _ _ => ?_)).trans ?_ | with_reducible refine (State.regs_rsvd_foldl _ _ _ (fun _ _ => ?_)).trans ?_ | with_reducible refine (State.regs_waiting_foldl _ _ _ (fun _ _ => ?_)).trans ?_ | with_reducible refine (State.regs_stale_foldl _ _ _ (fun _ _ => ?_)).trans ?_ | with_reducible refine (State.regs_posted_foldl _ _ _ (fun _ _ => ?_)).trans ?_ | with_reducible refine (State.fd_mem_foldl _ _ _ (fun _ _ => ?_)).trans ?_ | with_reducible refine (State.dm_sram_foldl _ _ _ (fun _ _ => ?_)).trans ?_ | with_reducible refine (State.sq_frameNo_foldl _ _ _ (fun _ _ => ?_)).trans ?_ | with_reducible refine (State.sq_inScan_foldl _ _ _ (fun _ _ => ?_)).trans ?_ | with_reducible refine (State.sq_nextBoundary_foldl _ _ _ (fun _ _ => ?_)).trans ?_ | with_reducible refine (State.pw_gate_foldl _ _ _ (fun _ _ => ?_)).trans ?_)))

end Sys2Proof.Machine
end

