-- ==== Sys2Proof/Laws/FrameFrames.lean ====
section
/-!
SUPPORT. The frames of the operations of Machine/Frames.lean: the parts of the state that each of them leaves as they were.
-/

set_option linter.unusedTactic false
set_option linter.unreachableTactic false
set_option linter.unusedSimpArgs false

namespace Sys2Proof.Machine

@[simp] theorem State.dropEntry_frame (s : State) (i : Nat) :
    (s.dropEntry i).now = s.now ∧ (s.dropEntry i).phase = s.phase ∧ (s.dropEntry i).pending = s.pending ∧
    (s.dropEntry i).nodeOfs = s.nodeOfs ∧ (s.dropEntry i).freeCtr = s.freeCtr ∧ (s.dropEntry i).tx = s.tx ∧
    (s.dropEntry i).tl = s.tl ∧ (s.dropEntry i).fd = s.fd := by
  and_intros <;> (unfold State.dropEntry; repeat' (first | with_reducible rfl | (simp; done) | split | with_reducible refine (foldl_inv _ _ _ _ (fun _ _ => ?_)).trans ?_ | (dsimp only; first | split | with_reducible refine (foldl_inv _ _ _ _ (fun _ _ => ?_)).trans ?_)))

@[simp] theorem State.dropEntry_frame2 (s : State) (i : Nat) :
    (s.dropEntry i).ex = s.ex ∧ (s.dropEntry i).sv = s.sv ∧ (s.dropEntry i).ax = s.ax ∧ (s.dropEntry i).aq = s.aq ∧
    (s.dropEntry i).il = s.il ∧ (s.dropEntry i).ln = s.ln ∧ (s.dropEntry i).fl = s.fl ∧ (s.dropEntry i).ev = s.ev := by
  and_intros <;> (unfold State.dropEntry; repeat' (first | with_reducible rfl | (simp; done) | split | with_reducible refine (foldl_inv _ _ _ _ (fun _ _ => ?_)).trans ?_ | (dsimp only; first | split | with_reducible refine (foldl_inv _ _ _ _ (fun _ _ => ?_)).trans ?_)))

@[simp] theorem State.dropEntry_frame3 (s : State) (i : Nat) :
    (s.dropEntry i).safe = s.safe ∧ (s.dropEntry i).dm = s.dm ∧ (s.dropEntry i).cm = s.cm ∧ (s.dropEntry i).cf = s.cf ∧
    (s.dropEntry i).pw = s.pw ∧ (s.dropEntry i).th = s.th := by
  and_intros <;> (unfold State.dropEntry; repeat' (first | with_reducible rfl | (simp; done) | split | with_reducible refine (foldl_inv _ _ _ _ (fun _ _ => ?_)).trans ?_ | (dsimp only; first | split | with_reducible refine (foldl_inv _ _ _ _ (fun _ _ => ?_)).trans ?_)))

@[simp] theorem State.dropRest_frame (s : State) :
    (s.dropRest).now = s.now ∧ (s.dropRest).phase = s.phase ∧ (s.dropRest).pending = s.pending ∧
    (s.dropRest).nodeOfs = s.nodeOfs ∧ (s.dropRest).freeCtr = s.freeCtr ∧ (s.dropRest).tx = s.tx ∧ (s.dropRest).tl = s.tl ∧
    (s.dropRest).fd = s.fd := by
  and_intros <;> (unfold State.dropRest; repeat' (first | with_reducible rfl | (simp; done) | split | with_reducible refine (foldl_inv _ _ _ _ (fun _ _ => ?_)).trans ?_ | (dsimp only; first | split | with_reducible refine (foldl_inv _ _ _ _ (fun _ _ => ?_)).trans ?_)))

@[simp] theorem State.dropRest_frame2 (s : State) :
    (s.dropRest).ex = s.ex ∧ (s.dropRest).sv = s.sv ∧ (s.dropRest).ax = s.ax ∧ (s.dropRest).aq = s.aq ∧
    (s.dropRest).il = s.il ∧ (s.dropRest).ln = s.ln ∧ (s.dropRest).fl = s.fl ∧ (s.dropRest).ev = s.ev := by
  and_intros <;> (unfold State.dropRest; repeat' (first | with_reducible rfl | (simp; done) | split | with_reducible refine (foldl_inv _ _ _ _ (fun _ _ => ?_)).trans ?_ | (dsimp only; first | split | with_reducible refine (foldl_inv _ _ _ _ (fun _ _ => ?_)).trans ?_)))

@[simp] theorem State.dropRest_frame3 (s : State) :
    (s.dropRest).safe = s.safe ∧ (s.dropRest).dm = s.dm ∧ (s.dropRest).cm = s.cm ∧ (s.dropRest).cf = s.cf ∧
    (s.dropRest).pw = s.pw ∧ (s.dropRest).th = s.th := by
  and_intros <;> (unfold State.dropRest; repeat' (first | with_reducible rfl | (simp; done) | split | with_reducible refine (foldl_inv _ _ _ _ (fun _ _ => ?_)).trans ?_ | (dsimp only; first | split | with_reducible refine (foldl_inv _ _ _ _ (fun _ _ => ?_)).trans ?_)))

@[simp] theorem State.frameTotals_frame (s : State) :
    (s.frameTotals).now = s.now ∧ (s.frameTotals).phase = s.phase ∧ (s.frameTotals).pending = s.pending ∧
    (s.frameTotals).nodeOfs = s.nodeOfs ∧ (s.frameTotals).freeCtr = s.freeCtr ∧ (s.frameTotals).tx = s.tx ∧
    (s.frameTotals).regs = s.regs ∧ (s.frameTotals).tl = s.tl := by
  and_intros <;> (unfold State.frameTotals; repeat' (first | with_reducible rfl | (simp; done) | split | with_reducible refine (foldl_inv _ _ _ _ (fun _ _ => ?_)).trans ?_ | (dsimp only; first | split | with_reducible refine (foldl_inv _ _ _ _ (fun _ _ => ?_)).trans ?_)))

@[simp] theorem State.frameTotals_frame2 (s : State) :
    (s.frameTotals).sq = s.sq ∧ (s.frameTotals).sv = s.sv ∧ (s.frameTotals).ax = s.ax ∧ (s.frameTotals).aq = s.aq ∧
    (s.frameTotals).il = s.il ∧ (s.frameTotals).ln = s.ln ∧ (s.frameTotals).fl = s.fl ∧ (s.frameTotals).safe = s.safe := by
  and_intros <;> (unfold State.frameTotals; repeat' (first | with_reducible rfl | (simp; done) | split | with_reducible refine (foldl_inv _ _ _ _ (fun _ _ => ?_)).trans ?_ | (dsimp only; first | split | with_reducible refine (foldl_inv _ _ _ _ (fun _ _ => ?_)).trans ?_)))

@[simp] theorem State.frameTotals_frame3 (s : State) :
    (s.frameTotals).dm = s.dm ∧ (s.frameTotals).cm = s.cm ∧ (s.frameTotals).cf = s.cf ∧ (s.frameTotals).pw = s.pw ∧
    (s.frameTotals).th = s.th := by
  and_intros <;> (unfold State.frameTotals; repeat' (first | with_reducible rfl | (simp; done) | split | with_reducible refine (foldl_inv _ _ _ _ (fun _ _ => ?_)).trans ?_ | (dsimp only; first | split | with_reducible refine (foldl_inv _ _ _ _ (fun _ _ => ?_)).trans ?_)))

@[simp] theorem State.boundaryWrites_frame (s : State) :
    (s.boundaryWrites).now = s.now ∧ (s.boundaryWrites).phase = s.phase ∧ (s.boundaryWrites).pending = s.pending ∧
    (s.boundaryWrites).nodeOfs = s.nodeOfs ∧ (s.boundaryWrites).freeCtr = s.freeCtr ∧ (s.boundaryWrites).ex = s.ex ∧
    (s.boundaryWrites).sv = s.sv ∧ (s.boundaryWrites).ax = s.ax := by
  and_intros <;> (unfold State.boundaryWrites; repeat' (first | with_reducible rfl | (simp; done) | split | with_reducible refine (foldl_inv _ _ _ _ (fun _ _ => ?_)).trans ?_ | (dsimp only; first | split | with_reducible refine (foldl_inv _ _ _ _ (fun _ _ => ?_)).trans ?_)))

@[simp] theorem State.boundaryWrites_frame2 (s : State) :
    (s.boundaryWrites).aq = s.aq ∧ (s.boundaryWrites).il = s.il ∧ (s.boundaryWrites).ln = s.ln ∧
    (s.boundaryWrites).dm = s.dm ∧ (s.boundaryWrites).cm = s.cm ∧ (s.boundaryWrites).pw = s.pw ∧
    (s.boundaryWrites).th = s.th := by
  and_intros <;> (unfold State.boundaryWrites; repeat' (first | with_reducible rfl | (simp; done) | split | with_reducible refine (foldl_inv _ _ _ _ (fun _ _ => ?_)).trans ?_ | (dsimp only; first | split | with_reducible refine (foldl_inv _ _ _ _ (fun _ _ => ?_)).trans ?_)))

@[simp] theorem State.identBoundary_frame (s : State) (written : Bool) :
    (s.identBoundary written).now = s.now ∧ (s.identBoundary written).phase = s.phase ∧
    (s.identBoundary written).pending = s.pending ∧ (s.identBoundary written).nodeOfs = s.nodeOfs ∧
    (s.identBoundary written).freeCtr = s.freeCtr ∧ (s.identBoundary written).tx = s.tx ∧
    (s.identBoundary written).tl = s.tl ∧ (s.identBoundary written).fd = s.fd := by
  and_intros <;> (unfold State.identBoundary; repeat' (first | with_reducible rfl | (simp; done) | split | with_reducible refine (foldl_inv _ _ _ _ (fun _ _ => ?_)).trans ?_ | (dsimp only; first | split | with_reducible refine (foldl_inv _ _ _ _ (fun _ _ => ?_)).trans ?_)))

@[simp] theorem State.identBoundary_frame2 (s : State) (written : Bool) :
    (s.identBoundary written).ex = s.ex ∧ (s.identBoundary written).sv = s.sv ∧ (s.identBoundary written).ax = s.ax ∧
    (s.identBoundary written).aq = s.aq ∧ (s.identBoundary written).il = s.il ∧ (s.identBoundary written).ln = s.ln ∧
    (s.identBoundary written).ev = s.ev ∧ (s.identBoundary written).safe = s.safe := by
  and_intros <;> (unfold State.identBoundary; repeat' (first | with_reducible rfl | (simp; done) | split | with_reducible refine (foldl_inv _ _ _ _ (fun _ _ => ?_)).trans ?_ | (dsimp only; first | split | with_reducible refine (foldl_inv _ _ _ _ (fun _ _ => ?_)).trans ?_)))

@[simp] theorem State.identBoundary_frame3 (s : State) (written : Bool) :
    (s.identBoundary written).dm = s.dm ∧ (s.identBoundary written).cm = s.cm ∧ (s.identBoundary written).cf = s.cf ∧
    (s.identBoundary written).pw = s.pw ∧ (s.identBoundary written).th = s.th := by
  and_intros <;> (unfold State.identBoundary; repeat' (first | with_reducible rfl | (simp; done) | split | with_reducible refine (foldl_inv _ _ _ _ (fun _ _ => ?_)).trans ?_ | (dsimp only; first | split | with_reducible refine (foldl_inv _ _ _ _ (fun _ _ => ?_)).trans ?_)))

@[simp] theorem State.refBoundary_frame (s : State) (written : Bool) :
    (s.refBoundary written).now = s.now ∧ (s.refBoundary written).phase = s.phase ∧
    (s.refBoundary written).pending = s.pending ∧ (s.refBoundary written).nodeOfs = s.nodeOfs ∧
    (s.refBoundary written).freeCtr = s.freeCtr ∧ (s.refBoundary written).tx = s.tx ∧ (s.refBoundary written).tl = s.tl ∧
    (s.refBoundary written).sq = s.sq := by
  and_intros <;> (unfold State.refBoundary; repeat' (first | with_reducible rfl | (simp; done) | split | with_reducible refine (foldl_inv _ _ _ _ (fun _ _ => ?_)).trans ?_ | (dsimp only; first | split | with_reducible refine (foldl_inv _ _ _ _ (fun _ _ => ?_)).trans ?_)))

@[simp] theorem State.refBoundary_frame2 (s : State) (written : Bool) :
    (s.refBoundary written).fd = s.fd ∧ (s.refBoundary written).ex = s.ex ∧ (s.refBoundary written).sv = s.sv ∧
    (s.refBoundary written).ax = s.ax ∧ (s.refBoundary written).aq = s.aq ∧ (s.refBoundary written).il = s.il ∧
    (s.refBoundary written).ln = s.ln ∧ (s.refBoundary written).fl = s.fl := by
  and_intros <;> (unfold State.refBoundary; repeat' (first | with_reducible rfl | (simp; done) | split | with_reducible refine (foldl_inv _ _ _ _ (fun _ _ => ?_)).trans ?_ | (dsimp only; first | split | with_reducible refine (foldl_inv _ _ _ _ (fun _ _ => ?_)).trans ?_)))

@[simp] theorem State.refBoundary_frame3 (s : State) (written : Bool) :
    (s.refBoundary written).ev = s.ev ∧ (s.refBoundary written).safe = s.safe ∧ (s.refBoundary written).dm = s.dm ∧
    (s.refBoundary written).cm = s.cm ∧ (s.refBoundary written).cf = s.cf ∧ (s.refBoundary written).pw = s.pw ∧
    (s.refBoundary written).th = s.th := by
  and_intros <;> (unfold State.refBoundary; repeat' (first | with_reducible rfl | (simp; done) | split | with_reducible refine (foldl_inv _ _ _ _ (fun _ _ => ?_)).trans ?_ | (dsimp only; first | split | with_reducible refine (foldl_inv _ _ _ _ (fun _ _ => ?_)).trans ?_)))

@[simp] theorem State.layoutQueue_frame (s : State) (q : Nat) (written : Bool) :
    (s.layoutQueue q written).now = s.now ∧ (s.layoutQueue q written).phase = s.phase ∧
    (s.layoutQueue q written).pending = s.pending ∧ (s.layoutQueue q written).nodeOfs = s.nodeOfs ∧
    (s.layoutQueue q written).freeCtr = s.freeCtr ∧ (s.layoutQueue q written).tx = s.tx ∧
    (s.layoutQueue q written).tl = s.tl ∧ (s.layoutQueue q written).sq = s.sq := by
  and_intros <;> (unfold State.layoutQueue; repeat' (first | with_reducible rfl | (simp; done) | split | with_reducible refine (foldl_inv _ _ _ _ (fun _ _ => ?_)).trans ?_ | (dsimp only; first | split | with_reducible refine (foldl_inv _ _ _ _ (fun _ _ => ?_)).trans ?_)))

@[simp] theorem State.layoutQueue_frame2 (s : State) (q : Nat) (written : Bool) :
    (s.layoutQueue q written).fd = s.fd ∧ (s.layoutQueue q written).ex = s.ex ∧ (s.layoutQueue q written).sv = s.sv ∧
    (s.layoutQueue q written).ax = s.ax ∧ (s.layoutQueue q written).aq = s.aq ∧ (s.layoutQueue q written).il = s.il ∧
    (s.layoutQueue q written).ln = s.ln ∧ (s.layoutQueue q written).fl = s.fl := by
  and_intros <;> (unfold State.layoutQueue; repeat' (first | with_reducible rfl | (simp; done) | split | with_reducible refine (foldl_inv _ _ _ _ (fun _ _ => ?_)).trans ?_ | (dsimp only; first | split | with_reducible refine (foldl_inv _ _ _ _ (fun _ _ => ?_)).trans ?_)))

@[simp] theorem State.layoutQueue_frame3 (s : State) (q : Nat) (written : Bool) :
    (s.layoutQueue q written).ev = s.ev ∧ (s.layoutQueue q written).safe = s.safe ∧ (s.layoutQueue q written).cm = s.cm ∧
    (s.layoutQueue q written).cf = s.cf ∧ (s.layoutQueue q written).pw = s.pw ∧ (s.layoutQueue q written).th = s.th := by
  and_intros <;> (unfold State.layoutQueue; repeat' (first | with_reducible rfl | (simp; done) | split | with_reducible refine (foldl_inv _ _ _ _ (fun _ _ => ?_)).trans ?_ | (dsimp only; first | split | with_reducible refine (foldl_inv _ _ _ _ (fun _ _ => ?_)).trans ?_)))

@[simp] theorem State.layoutBoundary_frame (s : State) (written : Bool) :
    (s.layoutBoundary written).now = s.now ∧ (s.layoutBoundary written).phase = s.phase ∧
    (s.layoutBoundary written).pending = s.pending ∧ (s.layoutBoundary written).nodeOfs = s.nodeOfs ∧
    (s.layoutBoundary written).freeCtr = s.freeCtr ∧ (s.layoutBoundary written).tx = s.tx ∧
    (s.layoutBoundary written).tl = s.tl ∧ (s.layoutBoundary written).sq = s.sq := by
  and_intros <;> (unfold State.layoutBoundary; repeat' (first | with_reducible rfl | (simp; done) | split | with_reducible refine (foldl_inv _ _ _ _ (fun _ _ => ?_)).trans ?_ | (dsimp only; first | split | with_reducible refine (foldl_inv _ _ _ _ (fun _ _ => ?_)).trans ?_)))

@[simp] theorem State.layoutBoundary_frame2 (s : State) (written : Bool) :
    (s.layoutBoundary written).fd = s.fd ∧ (s.layoutBoundary written).ex = s.ex ∧ (s.layoutBoundary written).sv = s.sv ∧
    (s.layoutBoundary written).ax = s.ax ∧ (s.layoutBoundary written).aq = s.aq ∧ (s.layoutBoundary written).il = s.il ∧
    (s.layoutBoundary written).ln = s.ln ∧ (s.layoutBoundary written).fl = s.fl := by
  and_intros <;> (unfold State.layoutBoundary; repeat' (first | with_reducible rfl | (simp; done) | split | with_reducible refine (foldl_inv _ _ _ _ (fun _ _ => ?_)).trans ?_ | (dsimp only; first | split | with_reducible refine (foldl_inv _ _ _ _ (fun _ _ => ?_)).trans ?_)))

@[simp] theorem State.layoutBoundary_frame3 (s : State) (written : Bool) :
    (s.layoutBoundary written).ev = s.ev ∧ (s.layoutBoundary written).safe = s.safe ∧ (s.layoutBoundary written).cm = s.cm ∧
    (s.layoutBoundary written).cf = s.cf ∧ (s.layoutBoundary written).pw = s.pw ∧ (s.layoutBoundary written).th = s.th := by
  and_intros <;> (unfold State.layoutBoundary; repeat' (first | with_reducible rfl | (simp; done) | split | with_reducible refine (foldl_inv _ _ _ _ (fun _ _ => ?_)).trans ?_ | (dsimp only; first | split | with_reducible refine (foldl_inv _ _ _ _ (fun _ _ => ?_)).trans ?_)))

@[simp] theorem State.timeStep_frame (s : State) :
    (s.timeStep).now = s.now ∧ (s.timeStep).phase = s.phase ∧ (s.timeStep).pending = s.pending ∧
    (s.timeStep).freeCtr = s.freeCtr ∧ (s.timeStep).tx = s.tx ∧ (s.timeStep).tl = s.tl ∧ (s.timeStep).sq = s.sq ∧
    (s.timeStep).fd = s.fd := by
  and_intros <;> (unfold State.timeStep; repeat' (first | with_reducible rfl | (simp; done) | split | with_reducible refine (foldl_inv _ _ _ _ (fun _ _ => ?_)).trans ?_ | (dsimp only; first | split | with_reducible refine (foldl_inv _ _ _ _ (fun _ _ => ?_)).trans ?_)))

@[simp] theorem State.timeStep_frame2 (s : State) :
    (s.timeStep).ex = s.ex ∧ (s.timeStep).sv = s.sv ∧ (s.timeStep).ax = s.ax ∧ (s.timeStep).aq = s.aq ∧
    (s.timeStep).il = s.il ∧ (s.timeStep).ln = s.ln ∧ (s.timeStep).ev = s.ev ∧ (s.timeStep).safe = s.safe := by
  and_intros <;> (unfold State.timeStep; repeat' (first | with_reducible rfl | (simp; done) | split | with_reducible refine (foldl_inv _ _ _ _ (fun _ _ => ?_)).trans ?_ | (dsimp only; first | split | with_reducible refine (foldl_inv _ _ _ _ (fun _ _ => ?_)).trans ?_)))

@[simp] theorem State.timeStep_frame3 (s : State) :
    (s.timeStep).dm = s.dm ∧ (s.timeStep).cm = s.cm ∧ (s.timeStep).cf = s.cf ∧ (s.timeStep).pw = s.pw ∧
    (s.timeStep).th = s.th := by
  and_intros <;> (unfold State.timeStep; repeat' (first | with_reducible rfl | (simp; done) | split | with_reducible refine (foldl_inv _ _ _ _ (fun _ _ => ?_)).trans ?_ | (dsimp only; first | split | with_reducible refine (foldl_inv _ _ _ _ (fun _ _ => ?_)).trans ?_)))

@[simp] theorem State.newFrame_frame (s : State) (stepped : Bool) :
    (s.newFrame stepped).now = s.now ∧ (s.newFrame stepped).phase = s.phase ∧ (s.newFrame stepped).pending = s.pending ∧
    (s.newFrame stepped).nodeOfs = s.nodeOfs ∧ (s.newFrame stepped).freeCtr = s.freeCtr ∧ (s.newFrame stepped).tx = s.tx ∧
    (s.newFrame stepped).tl = s.tl ∧ (s.newFrame stepped).fd = s.fd := by
  and_intros <;> (unfold State.newFrame; repeat' (first | with_reducible rfl | (simp; done) | split | with_reducible refine (foldl_inv _ _ _ _ (fun _ _ => ?_)).trans ?_ | (dsimp only; first | split | with_reducible refine (foldl_inv _ _ _ _ (fun _ _ => ?_)).trans ?_)))

@[simp] theorem State.newFrame_frame2 (s : State) (stepped : Bool) :
    (s.newFrame stepped).ex = s.ex ∧ (s.newFrame stepped).sv = s.sv ∧ (s.newFrame stepped).ax = s.ax ∧
    (s.newFrame stepped).aq = s.aq ∧ (s.newFrame stepped).il = s.il ∧ (s.newFrame stepped).ln = s.ln ∧
    (s.newFrame stepped).fl = s.fl ∧ (s.newFrame stepped).dm = s.dm := by
  and_intros <;> (unfold State.newFrame; repeat' (first | with_reducible rfl | (simp; done) | split | with_reducible refine (foldl_inv _ _ _ _ (fun _ _ => ?_)).trans ?_ | (dsimp only; first | split | with_reducible refine (foldl_inv _ _ _ _ (fun _ _ => ?_)).trans ?_)))

@[simp] theorem State.newFrame_frame3 (s : State) (stepped : Bool) :
    (s.newFrame stepped).cm = s.cm ∧ (s.newFrame stepped).cf = s.cf ∧ (s.newFrame stepped).pw = s.pw := by
  and_intros <;> (unfold State.newFrame; repeat' (first | with_reducible rfl | (simp; done) | split | with_reducible refine (foldl_inv _ _ _ _ (fun _ _ => ?_)).trans ?_ | (dsimp only; first | split | with_reducible refine (foldl_inv _ _ _ _ (fun _ _ => ?_)).trans ?_)))

@[simp] theorem State.copySq_frame (s : State) :
    (s.copySq).now = s.now ∧ (s.copySq).phase = s.phase ∧ (s.copySq).pending = s.pending ∧ (s.copySq).nodeOfs = s.nodeOfs ∧
    (s.copySq).freeCtr = s.freeCtr ∧ (s.copySq).tx = s.tx ∧ (s.copySq).regs = s.regs ∧ (s.copySq).tl = s.tl := by
  and_intros <;> (unfold State.copySq; repeat' (first | with_reducible rfl | (simp; done) | split | with_reducible refine (foldl_inv _ _ _ _ (fun _ _ => ?_)).trans ?_ | (dsimp only; first | split | with_reducible refine (foldl_inv _ _ _ _ (fun _ _ => ?_)).trans ?_)))

@[simp] theorem State.copySq_frame2 (s : State) :
    (s.copySq).fd = s.fd ∧ (s.copySq).ex = s.ex ∧ (s.copySq).sv = s.sv ∧ (s.copySq).ax = s.ax ∧ (s.copySq).aq = s.aq ∧
    (s.copySq).il = s.il ∧ (s.copySq).ln = s.ln ∧ (s.copySq).fl = s.fl := by
  and_intros <;> (unfold State.copySq; repeat' (first | with_reducible rfl | (simp; done) | split | with_reducible refine (foldl_inv _ _ _ _ (fun _ _ => ?_)).trans ?_ | (dsimp only; first | split | with_reducible refine (foldl_inv _ _ _ _ (fun _ _ => ?_)).trans ?_)))

@[simp] theorem State.copySq_frame3 (s : State) :
    (s.copySq).ev = s.ev ∧ (s.copySq).safe = s.safe ∧ (s.copySq).dm = s.dm ∧ (s.copySq).cm = s.cm ∧ (s.copySq).cf = s.cf ∧
    (s.copySq).pw = s.pw ∧ (s.copySq).th = s.th := by
  and_intros <;> (unfold State.copySq; repeat' (first | with_reducible rfl | (simp; done) | split | with_reducible refine (foldl_inv _ _ _ _ (fun _ _ => ?_)).trans ?_ | (dsimp only; first | split | with_reducible refine (foldl_inv _ _ _ _ (fun _ _ => ?_)).trans ?_)))

@[simp] theorem State.setPeriods_frame (s : State) :
    (s.setPeriods).now = s.now ∧ (s.setPeriods).phase = s.phase ∧ (s.setPeriods).pending = s.pending ∧
    (s.setPeriods).nodeOfs = s.nodeOfs ∧ (s.setPeriods).freeCtr = s.freeCtr ∧ (s.setPeriods).tx = s.tx ∧
    (s.setPeriods).regs = s.regs ∧ (s.setPeriods).tl = s.tl := by
  and_intros <;> (unfold State.setPeriods; repeat' (first | with_reducible rfl | (simp; done) | split | with_reducible refine (foldl_inv _ _ _ _ (fun _ _ => ?_)).trans ?_ | (dsimp only; first | split | with_reducible refine (foldl_inv _ _ _ _ (fun _ _ => ?_)).trans ?_)))

@[simp] theorem State.setPeriods_frame2 (s : State) :
    (s.setPeriods).sq = s.sq ∧ (s.setPeriods).fd = s.fd ∧ (s.setPeriods).ex = s.ex ∧ (s.setPeriods).ax = s.ax ∧
    (s.setPeriods).aq = s.aq ∧ (s.setPeriods).il = s.il ∧ (s.setPeriods).ln = s.ln ∧ (s.setPeriods).fl = s.fl := by
  and_intros <;> (unfold State.setPeriods; repeat' (first | with_reducible rfl | (simp; done) | split | with_reducible refine (foldl_inv _ _ _ _ (fun _ _ => ?_)).trans ?_ | (dsimp only; first | split | with_reducible refine (foldl_inv _ _ _ _ (fun _ _ => ?_)).trans ?_)))

@[simp] theorem State.setPeriods_frame3 (s : State) :
    (s.setPeriods).ev = s.ev ∧ (s.setPeriods).safe = s.safe ∧ (s.setPeriods).dm = s.dm ∧ (s.setPeriods).cm = s.cm ∧
    (s.setPeriods).cf = s.cf ∧ (s.setPeriods).pw = s.pw ∧ (s.setPeriods).th = s.th := by
  and_intros <;> (unfold State.setPeriods; repeat' (first | with_reducible rfl | (simp; done) | split | with_reducible refine (foldl_inv _ _ _ _ (fun _ _ => ?_)).trans ?_ | (dsimp only; first | split | with_reducible refine (foldl_inv _ _ _ _ (fun _ _ => ?_)).trans ?_)))

@[simp] theorem State.slewAxes_frame (s : State) (moved : Bool) (phi : Nat) (before : List Rat) :
    (s.slewAxes moved phi before).now = s.now ∧ (s.slewAxes moved phi before).phase = s.phase ∧
    (s.slewAxes moved phi before).pending = s.pending ∧ (s.slewAxes moved phi before).nodeOfs = s.nodeOfs ∧
    (s.slewAxes moved phi before).freeCtr = s.freeCtr ∧ (s.slewAxes moved phi before).tx = s.tx ∧
    (s.slewAxes moved phi before).tl = s.tl ∧ (s.slewAxes moved phi before).sq = s.sq := by
  and_intros <;> (unfold State.slewAxes; repeat' (first | with_reducible rfl | (simp; done) | split | with_reducible refine (foldl_inv _ _ _ _ (fun _ _ => ?_)).trans ?_ | (dsimp only; first | split | with_reducible refine (foldl_inv _ _ _ _ (fun _ _ => ?_)).trans ?_)))

@[simp] theorem State.slewAxes_frame2 (s : State) (moved : Bool) (phi : Nat) (before : List Rat) :
    (s.slewAxes moved phi before).fd = s.fd ∧ (s.slewAxes moved phi before).ex = s.ex ∧
    (s.slewAxes moved phi before).ax = s.ax ∧ (s.slewAxes moved phi before).aq = s.aq ∧
    (s.slewAxes moved phi before).il = s.il ∧ (s.slewAxes moved phi before).ln = s.ln ∧
    (s.slewAxes moved phi before).fl = s.fl ∧ (s.slewAxes moved phi before).ev = s.ev := by
  and_intros <;> (unfold State.slewAxes; repeat' (first | with_reducible rfl | (simp; done) | split | with_reducible refine (foldl_inv _ _ _ _ (fun _ _ => ?_)).trans ?_ | (dsimp only; first | split | with_reducible refine (foldl_inv _ _ _ _ (fun _ _ => ?_)).trans ?_)))

@[simp] theorem State.slewAxes_frame3 (s : State) (moved : Bool) (phi : Nat) (before : List Rat) :
    (s.slewAxes moved phi before).safe = s.safe ∧ (s.slewAxes moved phi before).dm = s.dm ∧
    (s.slewAxes moved phi before).cm = s.cm ∧ (s.slewAxes moved phi before).cf = s.cf ∧
    (s.slewAxes moved phi before).pw = s.pw ∧ (s.slewAxes moved phi before).th = s.th := by
  and_intros <;> (unfold State.slewAxes; repeat' (first | with_reducible rfl | (simp; done) | split | with_reducible refine (foldl_inv _ _ _ _ (fun _ _ => ?_)).trans ?_ | (dsimp only; first | split | with_reducible refine (foldl_inv _ _ _ _ (fun _ _ => ?_)).trans ?_)))

@[simp] theorem State.setRefOk_frame (s : State) (b : Nat) (ok : Bool) :
    (s.setRefOk b ok).now = s.now ∧ (s.setRefOk b ok).phase = s.phase ∧ (s.setRefOk b ok).pending = s.pending ∧
    (s.setRefOk b ok).nodeOfs = s.nodeOfs ∧ (s.setRefOk b ok).freeCtr = s.freeCtr ∧ (s.setRefOk b ok).tx = s.tx ∧
    (s.setRefOk b ok).regs = s.regs ∧ (s.setRefOk b ok).tl = s.tl := by
  and_intros <;> (unfold State.setRefOk; repeat' (first | with_reducible rfl | (simp; done) | split | with_reducible refine (foldl_inv _ _ _ _ (fun _ _ => ?_)).trans ?_ | (dsimp only; first | split | with_reducible refine (foldl_inv _ _ _ _ (fun _ _ => ?_)).trans ?_)))

@[simp] theorem State.setRefOk_frame2 (s : State) (b : Nat) (ok : Bool) :
    (s.setRefOk b ok).fd = s.fd ∧ (s.setRefOk b ok).ex = s.ex ∧ (s.setRefOk b ok).sv = s.sv ∧ (s.setRefOk b ok).ax = s.ax ∧
    (s.setRefOk b ok).aq = s.aq ∧ (s.setRefOk b ok).il = s.il ∧ (s.setRefOk b ok).ln = s.ln ∧ (s.setRefOk b ok).fl = s.fl := by
  and_intros <;> (unfold State.setRefOk; repeat' (first | with_reducible rfl | (simp; done) | split | with_reducible refine (foldl_inv _ _ _ _ (fun _ _ => ?_)).trans ?_ | (dsimp only; first | split | with_reducible refine (foldl_inv _ _ _ _ (fun _ _ => ?_)).trans ?_)))

@[simp] theorem State.setRefOk_frame3 (s : State) (b : Nat) (ok : Bool) :
    (s.setRefOk b ok).ev = s.ev ∧ (s.setRefOk b ok).safe = s.safe ∧ (s.setRefOk b ok).dm = s.dm ∧
    (s.setRefOk b ok).cm = s.cm ∧ (s.setRefOk b ok).cf = s.cf ∧ (s.setRefOk b ok).pw = s.pw ∧ (s.setRefOk b ok).th = s.th := by
  and_intros <;> (unfold State.setRefOk; repeat' (first | with_reducible rfl | (simp; done) | split | with_reducible refine (foldl_inv _ _ _ _ (fun _ _ => ?_)).trans ?_ | (dsimp only; first | split | with_reducible refine (foldl_inv _ _ _ _ (fun _ _ => ?_)).trans ?_)))

@[simp] theorem State.refBack_frame (s : State) (b lsb : Nat) :
    (s.refBack b lsb).now = s.now ∧ (s.refBack b lsb).phase = s.phase ∧ (s.refBack b lsb).pending = s.pending ∧
    (s.refBack b lsb).nodeOfs = s.nodeOfs ∧ (s.refBack b lsb).freeCtr = s.freeCtr ∧ (s.refBack b lsb).tx = s.tx ∧
    (s.refBack b lsb).regs = s.regs ∧ (s.refBack b lsb).tl = s.tl := by
  and_intros <;> (unfold State.refBack; repeat' (first | with_reducible rfl | (simp; done) | split | with_reducible refine (foldl_inv _ _ _ _ (fun _ _ => ?_)).trans ?_ | (dsimp only; first | split | with_reducible refine (foldl_inv _ _ _ _ (fun _ _ => ?_)).trans ?_)))

@[simp] theorem State.refBack_frame2 (s : State) (b lsb : Nat) :
    (s.refBack b lsb).fd = s.fd ∧ (s.refBack b lsb).ex = s.ex ∧ (s.refBack b lsb).sv = s.sv ∧ (s.refBack b lsb).ax = s.ax ∧
    (s.refBack b lsb).aq = s.aq ∧ (s.refBack b lsb).il = s.il ∧ (s.refBack b lsb).ln = s.ln ∧ (s.refBack b lsb).fl = s.fl := by
  and_intros <;> (unfold State.refBack; repeat' (first | with_reducible rfl | (simp; done) | split | with_reducible refine (foldl_inv _ _ _ _ (fun _ _ => ?_)).trans ?_ | (dsimp only; first | split | with_reducible refine (foldl_inv _ _ _ _ (fun _ _ => ?_)).trans ?_)))

@[simp] theorem State.refBack_frame3 (s : State) (b lsb : Nat) :
    (s.refBack b lsb).ev = s.ev ∧ (s.refBack b lsb).safe = s.safe ∧ (s.refBack b lsb).dm = s.dm ∧
    (s.refBack b lsb).cm = s.cm ∧ (s.refBack b lsb).cf = s.cf ∧ (s.refBack b lsb).pw = s.pw ∧ (s.refBack b lsb).th = s.th := by
  and_intros <;> (unfold State.refBack; repeat' (first | with_reducible rfl | (simp; done) | split | with_reducible refine (foldl_inv _ _ _ _ (fun _ _ => ?_)).trans ?_ | (dsimp only; first | split | with_reducible refine (foldl_inv _ _ _ _ (fun _ _ => ?_)).trans ?_)))

@[simp] theorem State.dropEntry_parts (s : State) (i : Nat) :
    (s.dropEntry i).regs.setA = s.regs.setA ∧ (s.dropEntry i).regs.setB = s.regs.setB ∧
    (s.dropEntry i).regs.one = s.regs.one ∧ (s.dropEntry i).regs.rsvd = s.regs.rsvd ∧
    (s.dropEntry i).regs.waiting = s.regs.waiting ∧ (s.dropEntry i).regs.stale = s.regs.stale ∧
    (s.dropEntry i).regs.posted = s.regs.posted ∧ (s.dropEntry i).sq.frameNo = s.sq.frameNo ∧
    (s.dropEntry i).sq.inScan = s.sq.inScan ∧ (s.dropEntry i).sq.nextBoundary = s.sq.nextBoundary := by
  and_intros <;> (unfold State.dropEntry; repeat' (first | with_reducible rfl | (simp; done) | split | with_reducible refine (State.regs_setA_foldl _ _ _ (fun _ _ => ?_)).trans ?_ | with_reducible refine (State.regs_setB_foldl _ _ _ (fun _ _ => ?_)).trans ?_ | with_reducible refine (State.regs_one_foldl _ _ _ (fun _ _ => ?_)).trans ?_ | with_reducible refine (State.regs_rsvd_foldl _ _ _ (fun _ _ => ?_)).trans ?_ | with_reducible refine (State.regs_waiting_foldl _ _ _ (fun _ _ => ?_)).trans ?_ | with_reducible refine (State.regs_stale_foldl _ _ _ (fun _ _ => ?_)).trans ?_ | with_reducible refine (State.regs_posted_foldl _ _ _ (fun _ _ => ?_)).trans ?_ | with_reducible refine (State.fd_mem_foldl _ _ _ (fun _ _ => ?_)).trans ?_ | with_reducible refine (State.dm_sram_foldl _ _ _ (fun _ _ => ?_)).trans ?_ | with_reducible refine (State.sq_frameNo_foldl _ _ _ (fun _ _ => ?_)).trans ?_ | with_reducible refine (State.sq_inScan_foldl _ _ _ (fun _ _ => ?_)).trans ?_ | with_reducible refine (State.sq_nextBoundary_foldl _ _ _ (fun _ _ => ?_)).trans ?_ | with_reducible refine (State.pw_gate_foldl _ _ _ (fun _ _ => ?_)).trans ?_ | (dsimp only; first | split | with_reducible refine (State.regs_setA_foldl _ _ _ (fun _ _ => ?_)).trans ?_ | with_reducible refine (State.regs_setB_foldl _ _ _ (fun _ _ => ?_)).trans ?_ | with_reducible refine (State.regs_one_foldl _ _ _ (fun _ _ => ?_)).trans ?_ | with_reducible refine (State.regs_rsvd_foldl _ _ _ (fun _ _ => ?_)).trans ?_ | with_reducible refine (State.regs_waiting_foldl _ _ _ (fun _ _ => ?_)).trans ?_ | with_reducible refine (State.regs_stale_foldl _ _ _ (fun _ _ => ?_)).trans ?_ | with_reducible refine (State.regs_posted_foldl _ _ _ (fun _ _ => ?_)).trans ?_ | with_reducible refine (State.fd_mem_foldl _ _ _ (fun _ _ => ?_)).trans ?_ | with_reducible refine (State.dm_sram_foldl _ _ _ (fun _ _ => ?_)).trans ?_ | with_reducible refine (State.sq_frameNo_foldl _ _ _ (fun _ _ => ?_)).trans ?_ | with_reducible refine (State.sq_inScan_foldl _ _ _ (fun _ _ => ?_)).trans ?_ | with_reducible refine (State.sq_nextBoundary_foldl _ _ _ (fun _ _ => ?_)).trans ?_ | with_reducible refine (State.pw_gate_foldl _ _ _ (fun _ _ => ?_)).trans ?_)))

@[simp] theorem State.dropRest_parts (s : State) :
    (s.dropRest).regs.setA = s.regs.setA ∧ (s.dropRest).regs.setB = s.regs.setB ∧ (s.dropRest).regs.one = s.regs.one ∧
    (s.dropRest).regs.rsvd = s.regs.rsvd ∧ (s.dropRest).regs.waiting = s.regs.waiting ∧
    (s.dropRest).regs.stale = s.regs.stale ∧ (s.dropRest).regs.posted = s.regs.posted ∧
    (s.dropRest).sq.frameNo = s.sq.frameNo ∧ (s.dropRest).sq.inScan = s.sq.inScan ∧
    (s.dropRest).sq.nextBoundary = s.sq.nextBoundary := by
  and_intros <;> (unfold State.dropRest; repeat' (first | with_reducible rfl | (simp; done) | split | with_reducible refine (State.regs_setA_foldl _ _ _ (fun _ _ => ?_)).trans ?_ | with_reducible refine (State.regs_setB_foldl _ _ _ (fun _ _ => ?_)).trans ?_ | with_reducible refine (State.regs_one_foldl _ _ _ (fun _ _ => ?_)).trans ?_ | with_reducible refine (State.regs_rsvd_foldl _ _ _ (fun _ _ => ?_)).trans ?_ | with_reducible refine (State.regs_waiting_foldl _ _ _ (fun _ _ => ?_)).trans ?_ | with_reducible refine (State.regs_stale_foldl _ _ _ (fun _ _ => ?_)).trans ?_ | with_reducible refine (State.regs_posted_foldl _ _ _ (fun _ _ => ?_)).trans ?_ | with_reducible refine (State.fd_mem_foldl _ _ _ (fun _ _ => ?_)).trans ?_ | with_reducible refine (State.dm_sram_foldl _ _ _ (fun _ _ => ?_)).trans ?_ | with_reducible refine (State.sq_frameNo_foldl _ _ _ (fun _ _ => ?_)).trans ?_ | with_reducible refine (State.sq_inScan_foldl _ _ _ (fun _ _ => ?_)).trans ?_ | with_reducible refine (State.sq_nextBoundary_foldl _ _ _ (fun _ _ => ?_)).trans ?_ | with_reducible refine (State.pw_gate_foldl _ _ _ (fun _ _ => ?_)).trans ?_ | (dsimp only; first | split | with_reducible refine (State.regs_setA_foldl _ _ _ (fun _ _ => ?_)).trans ?_ | with_reducible refine (State.regs_setB_foldl _ _ _ (fun _ _ => ?_)).trans ?_ | with_reducible refine (State.regs_one_foldl _ _ _ (fun _ _ => ?_)).trans ?_ | with_reducible refine (State.regs_rsvd_foldl _ _ _ (fun _ _ => ?_)).trans ?_ | with_reducible refine (State.regs_waiting_foldl _ _ _ (fun _ _ => ?_)).trans ?_ | with_reducible refine (State.regs_stale_foldl _ _ _ (fun _ _ => ?_)).trans ?_ | with_reducible refine (State.regs_posted_foldl _ _ _ (fun _ _ => ?_)).trans ?_ | with_reducible refine (State.fd_mem_foldl _ _ _ (fun _ _ => ?_)).trans ?_ | with_reducible refine (State.dm_sram_foldl _ _ _ (fun _ _ => ?_)).trans ?_ | with_reducible refine (State.sq_frameNo_foldl _ _ _ (fun _ _ => ?_)).trans ?_ | with_reducible refine (State.sq_inScan_foldl _ _ _ (fun _ _ => ?_)).trans ?_ | with_reducible refine (State.sq_nextBoundary_foldl _ _ _ (fun _ _ => ?_)).trans ?_ | with_reducible refine (State.pw_gate_foldl _ _ _ (fun _ _ => ?_)).trans ?_)))

@[simp] theorem State.frameTotals_parts (s : State) :
    (s.frameTotals).fd.mem = s.fd.mem := by
  unfold State.frameTotals; repeat' (first | with_reducible rfl | (simp; done) | split | with_reducible refine (State.regs_setA_foldl _ _ _ (fun _ _ => ?_)).trans ?_ | with_reducible refine (State.regs_setB_foldl _ _ _ (fun _ _ => ?_)).trans ?_ | with_reducible refine (State.regs_one_foldl _ _ _ (fun _ _ => ?_)).trans ?_ | with_reducible refine (State.regs_rsvd_foldl _ _ _ (fun _ _ => ?_)).trans ?_ | with_reducible refine (State.regs_waiting_foldl _ _ _ (fun _ _ => ?_)).trans ?_ | with_reducible refine (State.regs_stale_foldl _ _ _ (fun _ _ => ?_)).trans ?_ | with_reducible refine (State.regs_posted_foldl _ _ _ (fun _ _ => ?_)).trans ?_ | with_reducible refine (State.fd_mem_foldl _ _ _ (fun _ _ => ?_)).trans ?_ | with_reducible refine (State.dm_sram_foldl _ _ _ (fun _ _ => ?_)).trans ?_ | with_reducible refine (State.sq_frameNo_foldl _ _ _ (fun _ _ => ?_)).trans ?_ | with_reducible refine (State.sq_inScan_foldl _ _ _ (fun _ _ => ?_)).trans ?_ | with_reducible refine (State.sq_nextBoundary_foldl _ _ _ (fun _ _ => ?_)).trans ?_ | with_reducible refine (State.pw_gate_foldl _ _ _ (fun _ _ => ?_)).trans ?_ | (dsimp only; first | split | with_reducible refine (State.regs_setA_foldl _ _ _ (fun _ _ => ?_)).trans ?_ | with_reducible refine (State.regs_setB_foldl _ _ _ (fun _ _ => ?_)).trans ?_ | with_reducible refine (State.regs_one_foldl _ _ _ (fun _ _ => ?_)).trans ?_ | with_reducible refine (State.regs_rsvd_foldl _ _ _ (fun _ _ => ?_)).trans ?_ | with_reducible refine (State.regs_waiting_foldl _ _ _ (fun _ _ => ?_)).trans ?_ | with_reducible refine (State.regs_stale_foldl _ _ _ (fun _ _ => ?_)).trans ?_ | with_reducible refine (State.regs_posted_foldl _ _ _ (fun _ _ => ?_)).trans ?_ | with_reducible refine (State.fd_mem_foldl _ _ _ (fun _ _ => ?_)).trans ?_ | with_reducible refine (State.dm_sram_foldl _ _ _ (fun _ _ => ?_)).trans ?_ | with_reducible refine (State.sq_frameNo_foldl _ _ _ (fun _ _ => ?_)).trans ?_ | with_reducible refine (State.sq_inScan_foldl _ _ _ (fun _ _ => ?_)).trans ?_ | with_reducible refine (State.sq_nextBoundary_foldl _ _ _ (fun _ _ => ?_)).trans ?_ | with_reducible refine (State.pw_gate_foldl _ _ _ (fun _ _ => ?_)).trans ?_))

@[simp] theorem State.boundaryWrites_parts (s : State) :
    (s.boundaryWrites).regs.one = s.regs.one ∧ (s.boundaryWrites).regs.rsvd = s.regs.rsvd ∧
    (s.boundaryWrites).regs.posted = s.regs.posted ∧ (s.boundaryWrites).fd.mem = s.fd.mem ∧
    (s.boundaryWrites).sq.frameNo = s.sq.frameNo ∧ (s.boundaryWrites).sq.inScan = s.sq.inScan ∧
    (s.boundaryWrites).sq.nextBoundary = s.sq.nextBoundary := by
  and_intros <;> (unfold State.boundaryWrites; repeat' (first | with_reducible rfl | (simp; done) | split | with_reducible refine (State.regs_setA_foldl _ _ _ (fun _ _ => ?_)).trans ?_ | with_reducible refine (State.regs_setB_foldl _ _ _ (fun _ _ => ?_)).trans ?_ | with_reducible refine (State.regs_one_foldl _ _ _ (fun _ _ => ?_)).trans ?_ | with_reducible refine (State.regs_rsvd_foldl _ _ _ (fun _ _ => ?_)).trans ?_ | with_reducible refine (State.regs_waiting_foldl _ _ _ (fun _ _ => ?_)).trans ?_ | with_reducible refine (State.regs_stale_foldl _ _ _ (fun _ _ => ?_)).trans ?_ | with_reducible refine (State.regs_posted_foldl _ _ _ (fun _ _ => ?_)).trans ?_ | with_reducible refine (State.fd_mem_foldl _ _ _ (fun _ _ => ?_)).trans ?_ | with_reducible refine (State.dm_sram_foldl _ _ _ (fun _ _ => ?_)).trans ?_ | with_reducible refine (State.sq_frameNo_foldl _ _ _ (fun _ _ => ?_)).trans ?_ | with_reducible refine (State.sq_inScan_foldl _ _ _ (fun _ _ => ?_)).trans ?_ | with_reducible refine (State.sq_nextBoundary_foldl _ _ _ (fun _ _ => ?_)).trans ?_ | with_reducible refine (State.pw_gate_foldl _ _ _ (fun _ _ => ?_)).trans ?_ | (dsimp only; first | split | with_reducible refine (State.regs_setA_foldl _ _ _ (fun _ _ => ?_)).trans ?_ | with_reducible refine (State.regs_setB_foldl _ _ _ (fun _ _ => ?_)).trans ?_ | with_reducible refine (State.regs_one_foldl _ _ _ (fun _ _ => ?_)).trans ?_ | with_reducible refine (State.regs_rsvd_foldl _ _ _ (fun _ _ => ?_)).trans ?_ | with_reducible refine (State.regs_waiting_foldl _ _ _ (fun _ _ => ?_)).trans ?_ | with_reducible refine (State.regs_stale_foldl _ _ _ (fun _ _ => ?_)).trans ?_ | with_reducible refine (State.regs_posted_foldl _ _ _ (fun _ _ => ?_)).trans ?_ | with_reducible refine (State.fd_mem_foldl _ _ _ (fun _ _ => ?_)).trans ?_ | with_reducible refine (State.dm_sram_foldl _ _ _ (fun _ _ => ?_)).trans ?_ | with_reducible refine (State.sq_frameNo_foldl _ _ _ (fun _ _ => ?_)).trans ?_ | with_reducible refine (State.sq_inScan_foldl _ _ _ (fun _ _ => ?_)).trans ?_ | with_reducible refine (State.sq_nextBoundary_foldl _ _ _ (fun _ _ => ?_)).trans ?_ | with_reducible refine (State.pw_gate_foldl _ _ _ (fun _ _ => ?_)).trans ?_)))

@[simp] theorem State.identBoundary_parts (s : State) (written : Bool) :
    (s.identBoundary written).regs.setA = s.regs.setA ∧ (s.identBoundary written).regs.setB = s.regs.setB ∧
    (s.identBoundary written).regs.one = s.regs.one ∧ (s.identBoundary written).regs.rsvd = s.regs.rsvd ∧
    (s.identBoundary written).regs.waiting = s.regs.waiting ∧ (s.identBoundary written).regs.stale = s.regs.stale ∧
    (s.identBoundary written).regs.posted = s.regs.posted ∧ (s.identBoundary written).sq.frameNo = s.sq.frameNo ∧
    (s.identBoundary written).sq.inScan = s.sq.inScan ∧ (s.identBoundary written).sq.nextBoundary = s.sq.nextBoundary := by
  and_intros <;> (unfold State.identBoundary; repeat' (first | with_reducible rfl | (simp; done) | split | with_reducible refine (State.regs_setA_foldl _ _ _ (fun _ _ => ?_)).trans ?_ | with_reducible refine (State.regs_setB_foldl _ _ _ (fun _ _ => ?_)).trans ?_ | with_reducible refine (State.regs_one_foldl _ _ _ (fun _ _ => ?_)).trans ?_ | with_reducible refine (State.regs_rsvd_foldl _ _ _ (fun _ _ => ?_)).trans ?_ | with_reducible refine (State.regs_waiting_foldl _ _ _ (fun _ _ => ?_)).trans ?_ | with_reducible refine (State.regs_stale_foldl _ _ _ (fun _ _ => ?_)).trans ?_ | with_reducible refine (State.regs_posted_foldl _ _ _ (fun _ _ => ?_)).trans ?_ | with_reducible refine (State.fd_mem_foldl _ _ _ (fun _ _ => ?_)).trans ?_ | with_reducible refine (State.dm_sram_foldl _ _ _ (fun _ _ => ?_)).trans ?_ | with_reducible refine (State.sq_frameNo_foldl _ _ _ (fun _ _ => ?_)).trans ?_ | with_reducible refine (State.sq_inScan_foldl _ _ _ (fun _ _ => ?_)).trans ?_ | with_reducible refine (State.sq_nextBoundary_foldl _ _ _ (fun _ _ => ?_)).trans ?_ | with_reducible refine (State.pw_gate_foldl _ _ _ (fun _ _ => ?_)).trans ?_ | (dsimp only; first | split | with_reducible refine (State.regs_setA_foldl _ _ _ (fun _ _ => ?_)).trans ?_ | with_reducible refine (State.regs_setB_foldl _ _ _ (fun _ _ => ?_)).trans ?_ | with_reducible refine (State.regs_one_foldl _ _ _ (fun _ _ => ?_)).trans ?_ | with_reducible refine (State.regs_rsvd_foldl _ _ _ (fun _ _ => ?_)).trans ?_ | with_reducible refine (State.regs_waiting_foldl _ _ _ (fun _ _ => ?_)).trans ?_ | with_reducible refine (State.regs_stale_foldl _ _ _ (fun _ _ => ?_)).trans ?_ | with_reducible refine (State.regs_posted_foldl _ _ _ (fun _ _ => ?_)).trans ?_ | with_reducible refine (State.fd_mem_foldl _ _ _ (fun _ _ => ?_)).trans ?_ | with_reducible refine (State.dm_sram_foldl _ _ _ (fun _ _ => ?_)).trans ?_ | with_reducible refine (State.sq_frameNo_foldl _ _ _ (fun _ _ => ?_)).trans ?_ | with_reducible refine (State.sq_inScan_foldl _ _ _ (fun _ _ => ?_)).trans ?_ | with_reducible refine (State.sq_nextBoundary_foldl _ _ _ (fun _ _ => ?_)).trans ?_ | with_reducible refine (State.pw_gate_foldl _ _ _ (fun _ _ => ?_)).trans ?_)))

@[simp] theorem State.refBoundary_parts (s : State) (written : Bool) :
    (s.refBoundary written).regs.setA = s.regs.setA ∧ (s.refBoundary written).regs.setB = s.regs.setB ∧
    (s.refBoundary written).regs.one = s.regs.one ∧ (s.refBoundary written).regs.rsvd = s.regs.rsvd ∧
    (s.refBoundary written).regs.waiting = s.regs.waiting ∧ (s.refBoundary written).regs.stale = s.regs.stale ∧
    (s.refBoundary written).regs.posted = s.regs.posted := by
  and_intros <;> (unfold State.refBoundary; repeat' (first | with_reducible rfl | (simp; done) | split | with_reducible refine (State.regs_setA_foldl _ _ _ (fun _ _ => ?_)).trans ?_ | with_reducible refine (State.regs_setB_foldl _ _ _ (fun _ _ => ?_)).trans ?_ | with_reducible refine (State.regs_one_foldl _ _ _ (fun _ _ => ?_)).trans ?_ | with_reducible refine (State.regs_rsvd_foldl _ _ _ (fun _ _ => ?_)).trans ?_ | with_reducible refine (State.regs_waiting_foldl _ _ _ (fun _ _ => ?_)).trans ?_ | with_reducible refine (State.regs_stale_foldl _ _ _ (fun _ _ => ?_)).trans ?_ | with_reducible refine (State.regs_posted_foldl _ _ _ (fun _ _ => ?_)).trans ?_ | with_reducible refine (State.fd_mem_foldl _ _ _ (fun _ _ => ?_)).trans ?_ | with_reducible refine (State.dm_sram_foldl _ _ _ (fun _ _ => ?_)).trans ?_ | with_reducible refine (State.sq_frameNo_foldl _ _ _ (fun _ _ => ?_)).trans ?_ | with_reducible refine (State.sq_inScan_foldl _ _ _ (fun _ _ => ?_)).trans ?_ | with_reducible refine (State.sq_nextBoundary_foldl _ _ _ (fun _ _ => ?_)).trans ?_ | with_reducible refine (State.pw_gate_foldl _ _ _ (fun _ _ => ?_)).trans ?_ | (dsimp only; first | split | with_reducible refine (State.regs_setA_foldl _ _ _ (fun _ _ => ?_)).trans ?_ | with_reducible refine (State.regs_setB_foldl _ _ _ (fun _ _ => ?_)).trans ?_ | with_reducible refine (State.regs_one_foldl _ _ _ (fun _ _ => ?_)).trans ?_ | with_reducible refine (State.regs_rsvd_foldl _ _ _ (fun _ _ => ?_)).trans ?_ | with_reducible refine (State.regs_waiting_foldl _ _ _ (fun _ _ => ?_)).trans ?_ | with_reducible refine (State.regs_stale_foldl _ _ _ (fun _ _ => ?_)).trans ?_ | with_reducible refine (State.regs_posted_foldl _ _ _ (fun _ _ => ?_)).trans ?_ | with_reducible refine (State.fd_mem_foldl _ _ _ (fun _ _ => ?_)).trans ?_ | with_reducible refine (State.dm_sram_foldl _ _ _ (fun _ _ => ?_)).trans ?_ | with_reducible refine (State.sq_frameNo_foldl _ _ _ (fun _ _ => ?_)).trans ?_ | with_reducible refine (State.sq_inScan_foldl _ _ _ (fun _ _ => ?_)).trans ?_ | with_reducible refine (State.sq_nextBoundary_foldl _ _ _ (fun _ _ => ?_)).trans ?_ | with_reducible refine (State.pw_gate_foldl _ _ _ (fun _ _ => ?_)).trans ?_)))

@[simp] theorem State.layoutQueue_parts (s : State) (q : Nat) (written : Bool) :
    (s.layoutQueue q written).regs.setA = s.regs.setA ∧ (s.layoutQueue q written).regs.setB = s.regs.setB ∧
    (s.layoutQueue q written).regs.one = s.regs.one ∧ (s.layoutQueue q written).regs.rsvd = s.regs.rsvd ∧
    (s.layoutQueue q written).regs.waiting = s.regs.waiting ∧ (s.layoutQueue q written).regs.stale = s.regs.stale ∧
    (s.layoutQueue q written).regs.posted = s.regs.posted ∧ (s.layoutQueue q written).dm.sram = s.dm.sram := by
  and_intros <;> (unfold State.layoutQueue; repeat' (first | with_reducible rfl | (simp; done) | split | with_reducible refine (State.regs_setA_foldl _ _ _ (fun _ _ => ?_)).trans ?_ | with_reducible refine (State.regs_setB_foldl _ _ _ (fun _ _ => ?_)).trans ?_ | with_reducible refine (State.regs_one_foldl _ _ _ (fun _ _ => ?_)).trans ?_ | with_reducible refine (State.regs_rsvd_foldl _ _ _ (fun _ _ => ?_)).trans ?_ | with_reducible refine (State.regs_waiting_foldl _ _ _ (fun _ _ => ?_)).trans ?_ | with_reducible refine (State.regs_stale_foldl _ _ _ (fun _ _ => ?_)).trans ?_ | with_reducible refine (State.regs_posted_foldl _ _ _ (fun _ _ => ?_)).trans ?_ | with_reducible refine (State.fd_mem_foldl _ _ _ (fun _ _ => ?_)).trans ?_ | with_reducible refine (State.dm_sram_foldl _ _ _ (fun _ _ => ?_)).trans ?_ | with_reducible refine (State.sq_frameNo_foldl _ _ _ (fun _ _ => ?_)).trans ?_ | with_reducible refine (State.sq_inScan_foldl _ _ _ (fun _ _ => ?_)).trans ?_ | with_reducible refine (State.sq_nextBoundary_foldl _ _ _ (fun _ _ => ?_)).trans ?_ | with_reducible refine (State.pw_gate_foldl _ _ _ (fun _ _ => ?_)).trans ?_ | (dsimp only; first | split | with_reducible refine (State.regs_setA_foldl _ _ _ (fun _ _ => ?_)).trans ?_ | with_reducible refine (State.regs_setB_foldl _ _ _ (fun _ _ => ?_)).trans ?_ | with_reducible refine (State.regs_one_foldl _ _ _ (fun _ _ => ?_)).trans ?_ | with_reducible refine (State.regs_rsvd_foldl _ _ _ (fun _ _ => ?_)).trans ?_ | with_reducible refine (State.regs_waiting_foldl _ _ _ (fun _ _ => ?_)).trans ?_ | with_reducible refine (State.regs_stale_foldl _ _ _ (fun _ _ => ?_)).trans ?_ | with_reducible refine (State.regs_posted_foldl _ _ _ (fun _ _ => ?_)).trans ?_ | with_reducible refine (State.fd_mem_foldl _ _ _ (fun _ _ => ?_)).trans ?_ | with_reducible refine (State.dm_sram_foldl _ _ _ (fun _ _ => ?_)).trans ?_ | with_reducible refine (State.sq_frameNo_foldl _ _ _ (fun _ _ => ?_)).trans ?_ | with_reducible refine (State.sq_inScan_foldl _ _ _ (fun _ _ => ?_)).trans ?_ | with_reducible refine (State.sq_nextBoundary_foldl _ _ _ (fun _ _ => ?_)).trans ?_ | with_reducible refine (State.pw_gate_foldl _ _ _ (fun _ _ => ?_)).trans ?_)))

@[simp] theorem State.layoutBoundary_parts (s : State) (written : Bool) :
    (s.layoutBoundary written).regs.setA = s.regs.setA ∧ (s.layoutBoundary written).regs.setB = s.regs.setB ∧
    (s.layoutBoundary written).regs.one = s.regs.one ∧ (s.layoutBoundary written).regs.rsvd = s.regs.rsvd ∧
    (s.layoutBoundary written).regs.waiting = s.regs.waiting ∧ (s.layoutBoundary written).regs.stale = s.regs.stale ∧
    (s.layoutBoundary written).regs.posted = s.regs.posted ∧ (s.layoutBoundary written).dm.sram = s.dm.sram := by
  and_intros <;> (unfold State.layoutBoundary; repeat' (first | with_reducible rfl | (simp; done) | split | with_reducible refine (State.regs_setA_foldl _ _ _ (fun _ _ => ?_)).trans ?_ | with_reducible refine (State.regs_setB_foldl _ _ _ (fun _ _ => ?_)).trans ?_ | with_reducible refine (State.regs_one_foldl _ _ _ (fun _ _ => ?_)).trans ?_ | with_reducible refine (State.regs_rsvd_foldl _ _ _ (fun _ _ => ?_)).trans ?_ | with_reducible refine (State.regs_waiting_foldl _ _ _ (fun _ _ => ?_)).trans ?_ | with_reducible refine (State.regs_stale_foldl _ _ _ (fun _ _ => ?_)).trans ?_ | with_reducible refine (State.regs_posted_foldl _ _ _ (fun _ _ => ?_)).trans ?_ | with_reducible refine (State.fd_mem_foldl _ _ _ (fun _ _ => ?_)).trans ?_ | with_reducible refine (State.dm_sram_foldl _ _ _ (fun _ _ => ?_)).trans ?_ | with_reducible refine (State.sq_frameNo_foldl _ _ _ (fun _ _ => ?_)).trans ?_ | with_reducible refine (State.sq_inScan_foldl _ _ _ (fun _ _ => ?_)).trans ?_ | with_reducible refine (State.sq_nextBoundary_foldl _ _ _ (fun _ _ => ?_)).trans ?_ | with_reducible refine (State.pw_gate_foldl _ _ _ (fun _ _ => ?_)).trans ?_ | (dsimp only; first | split | with_reducible refine (State.regs_setA_foldl _ _ _ (fun _ _ => ?_)).trans ?_ | with_reducible refine (State.regs_setB_foldl _ _ _ (fun _ _ => ?_)).trans ?_ | with_reducible refine (State.regs_one_foldl _ _ _ (fun _ _ => ?_)).trans ?_ | with_reducible refine (State.regs_rsvd_foldl _ _ _ (fun _ _ => ?_)).trans ?_ | with_reducible refine (State.regs_waiting_foldl _ _ _ (fun _ _ => ?_)).trans ?_ | with_reducible refine (State.regs_stale_foldl _ _ _ (fun _ _ => ?_)).trans ?_ | with_reducible refine (State.regs_posted_foldl _ _ _ (fun _ _ => ?_)).trans ?_ | with_reducible refine (State.fd_mem_foldl _ _ _ (fun _ _ => ?_)).trans ?_ | with_reducible refine (State.dm_sram_foldl _ _ _ (fun _ _ => ?_)).trans ?_ | with_reducible refine (State.sq_frameNo_foldl _ _ _ (fun _ _ => ?_)).trans ?_ | with_reducible refine (State.sq_inScan_foldl _ _ _ (fun _ _ => ?_)).trans ?_ | with_reducible refine (State.sq_nextBoundary_foldl _ _ _ (fun _ _ => ?_)).trans ?_ | with_reducible refine (State.pw_gate_foldl _ _ _ (fun _ _ => ?_)).trans ?_)))

@[simp] theorem State.timeStep_parts (s : State) :
    (s.timeStep).regs.setA = s.regs.setA ∧ (s.timeStep).regs.setB = s.regs.setB ∧ (s.timeStep).regs.one = s.regs.one ∧
    (s.timeStep).regs.rsvd = s.regs.rsvd ∧ (s.timeStep).regs.waiting = s.regs.waiting ∧
    (s.timeStep).regs.stale = s.regs.stale ∧ (s.timeStep).regs.posted = s.regs.posted := by
  and_intros <;> (unfold State.timeStep; repeat' (first | with_reducible rfl | (simp; done) | split | with_reducible refine (State.regs_setA_foldl _ _ _ (fun _ _ => ?_)).trans ?_ | with_reducible refine (State.regs_setB_foldl _ _ _ (fun _ _ => ?_)).trans ?_ | with_reducible refine (State.regs_one_foldl _ _ _ (fun _ _ => ?_)).trans ?_ | with_reducible refine (State.regs_rsvd_foldl _ _ _ (fun _ _ => ?_)).trans ?_ | with_reducible refine (State.regs_waiting_foldl _ _ _ (fun _ _ => ?_)).trans ?_ | with_reducible refine (State.regs_stale_foldl _ _ _ (fun _ _ => ?_)).trans ?_ | with_reducible refine (State.regs_posted_foldl _ _ _ (fun _ _ => ?_)).trans ?_ | with_reducible refine (State.fd_mem_foldl _ _ _ (fun _ _ => ?_)).trans ?_ | with_reducible refine (State.dm_sram_foldl _ _ _ (fun _ _ => ?_)).trans ?_ | with_reducible refine (State.sq_frameNo_foldl _ _ _ (fun _ _ => ?_)).trans ?_ | with_reducible refine (State.sq_inScan_foldl _ _ _ (fun _ _ => ?_)).trans ?_ | with_reducible refine (State.sq_nextBoundary_foldl _ _ _ (fun _ _ => ?_)).trans ?_ | with_reducible refine (State.pw_gate_foldl _ _ _ (fun _ _ => ?_)).trans ?_ | (dsimp only; first | split | with_reducible refine (State.regs_setA_foldl _ _ _ (fun _ _ => ?_)).trans ?_ | with_reducible refine (State.regs_setB_foldl _ _ _ (fun _ _ => ?_)).trans ?_ | with_reducible refine (State.regs_one_foldl _ _ _ (fun _ _ => ?_)).trans ?_ | with_reducible refine (State.regs_rsvd_foldl _ _ _ (fun _ _ => ?_)).trans ?_ | with_reducible refine (State.regs_waiting_foldl _ _ _ (fun _ _ => ?_)).trans ?_ | with_reducible refine (State.regs_stale_foldl _ _ _ (fun _ _ => ?_)).trans ?_ | with_reducible refine (State.regs_posted_foldl _ _ _ (fun _ _ => ?_)).trans ?_ | with_reducible refine (State.fd_mem_foldl _ _ _ (fun _ _ => ?_)).trans ?_ | with_reducible refine (State.dm_sram_foldl _ _ _ (fun _ _ => ?_)).trans ?_ | with_reducible refine (State.sq_frameNo_foldl _ _ _ (fun _ _ => ?_)).trans ?_ | with_reducible refine (State.sq_inScan_foldl _ _ _ (fun _ _ => ?_)).trans ?_ | with_reducible refine (State.sq_nextBoundary_foldl _ _ _ (fun _ _ => ?_)).trans ?_ | with_reducible refine (State.pw_gate_foldl _ _ _ (fun _ _ => ?_)).trans ?_)))

@[simp] theorem State.newFrame_parts (s : State) (stepped : Bool) :
    (s.newFrame stepped).regs.setA = s.regs.setA ∧ (s.newFrame stepped).regs.setB = s.regs.setB ∧
    (s.newFrame stepped).regs.one = s.regs.one ∧ (s.newFrame stepped).regs.rsvd = s.regs.rsvd ∧
    (s.newFrame stepped).regs.waiting = s.regs.waiting ∧ (s.newFrame stepped).regs.stale = s.regs.stale ∧
    (s.newFrame stepped).regs.posted = s.regs.posted := by
  and_intros <;> (unfold State.newFrame; repeat' (first | with_reducible rfl | (simp; done) | split | with_reducible refine (State.regs_setA_foldl _ _ _ (fun _ _ => ?_)).trans ?_ | with_reducible refine (State.regs_setB_foldl _ _ _ (fun _ _ => ?_)).trans ?_ | with_reducible refine (State.regs_one_foldl _ _ _ (fun _ _ => ?_)).trans ?_ | with_reducible refine (State.regs_rsvd_foldl _ _ _ (fun _ _ => ?_)).trans ?_ | with_reducible refine (State.regs_waiting_foldl _ _ _ (fun _ _ => ?_)).trans ?_ | with_reducible refine (State.regs_stale_foldl _ _ _ (fun _ _ => ?_)).trans ?_ | with_reducible refine (State.regs_posted_foldl _ _ _ (fun _ _ => ?_)).trans ?_ | with_reducible refine (State.fd_mem_foldl _ _ _ (fun _ _ => ?_)).trans ?_ | with_reducible refine (State.dm_sram_foldl _ _ _ (fun _ _ => ?_)).trans ?_ | with_reducible refine (State.sq_frameNo_foldl _ _ _ (fun _ _ => ?_)).trans ?_ | with_reducible refine (State.sq_inScan_foldl _ _ _ (fun _ _ => ?_)).trans ?_ | with_reducible refine (State.sq_nextBoundary_foldl _ _ _ (fun _ _ => ?_)).trans ?_ | with_reducible refine (State.pw_gate_foldl _ _ _ (fun _ _ => ?_)).trans ?_ | (dsimp only; first | split | with_reducible refine (State.regs_setA_foldl _ _ _ (fun _ _ => ?_)).trans ?_ | with_reducible refine (State.regs_setB_foldl _ _ _ (fun _ _ => ?_)).trans ?_ | with_reducible refine (State.regs_one_foldl _ _ _ (fun _ _ => ?_)).trans ?_ | with_reducible refine (State.regs_rsvd_foldl _ _ _ (fun _ _ => ?_)).trans ?_ | with_reducible refine (State.regs_waiting_foldl _ _ _ (fun _ _ => ?_)).trans ?_ | with_reducible refine (State.regs_stale_foldl _ _ _ (fun _ _ => ?_)).trans ?_ | with_reducible refine (State.regs_posted_foldl _ _ _ (fun _ _ => ?_)).trans ?_ | with_reducible refine (State.fd_mem_foldl _ _ _ (fun _ _ => ?_)).trans ?_ | with_reducible refine (State.dm_sram_foldl _ _ _ (fun _ _ => ?_)).trans ?_ | with_reducible refine (State.sq_frameNo_foldl _ _ _ (fun _ _ => ?_)).trans ?_ | with_reducible refine (State.sq_inScan_foldl _ _ _ (fun _ _ => ?_)).trans ?_ | with_reducible refine (State.sq_nextBoundary_foldl _ _ _ (fun _ _ => ?_)).trans ?_ | with_reducible refine (State.pw_gate_foldl _ _ _ (fun _ _ => ?_)).trans ?_)))

@[simp] theorem State.copySq_parts (s : State) :
    (s.copySq).sq.frameNo = s.sq.frameNo ∧ (s.copySq).sq.inScan = s.sq.inScan ∧
    (s.copySq).sq.nextBoundary = s.sq.nextBoundary := by
  and_intros <;> (unfold State.copySq; repeat' (first | with_reducible rfl | (simp; done) | split | with_reducible refine (State.regs_setA_foldl _ _ _ (fun _ _ => ?_)).trans ?_ | with_reducible refine (State.regs_setB_foldl _ _ _ (fun _ _ => ?_)).trans ?_ | with_reducible refine (State.regs_one_foldl _ _ _ (fun _ _ => ?_)).trans ?_ | with_reducible refine (State.regs_rsvd_foldl _ _ _ (fun _ _ => ?_)).trans ?_ | with_reducible refine (State.regs_waiting_foldl _ _ _ (fun _ _ => ?_)).trans ?_ | with_reducible refine (State.regs_stale_foldl _ _ _ (fun _ _ => ?_)).trans ?_ | with_reducible refine (State.regs_posted_foldl _ _ _ (fun _ _ => ?_)).trans ?_ | with_reducible refine (State.fd_mem_foldl _ _ _ (fun _ _ => ?_)).trans ?_ | with_reducible refine (State.dm_sram_foldl _ _ _ (fun _ _ => ?_)).trans ?_ | with_reducible refine (State.sq_frameNo_foldl _ _ _ (fun _ _ => ?_)).trans ?_ | with_reducible refine (State.sq_inScan_foldl _ _ _ (fun _ _ => ?_)).trans ?_ | with_reducible refine (State.sq_nextBoundary_foldl _ _ _ (fun _ _ => ?_)).trans ?_ | with_reducible refine (State.pw_gate_foldl _ _ _ (fun _ _ => ?_)).trans ?_ | (dsimp only; first | split | with_reducible refine (State.regs_setA_foldl _ _ _ (fun _ _ => ?_)).trans ?_ | with_reducible refine (State.regs_setB_foldl _ _ _ (fun _ _ => ?_)).trans ?_ | with_reducible refine (State.regs_one_foldl _ _ _ (fun _ _ => ?_)).trans ?_ | with_reducible refine (State.regs_rsvd_foldl _ _ _ (fun _ _ => ?_)).trans ?_ | with_reducible refine (State.regs_waiting_foldl _ _ _ (fun _ _ => ?_)).trans ?_ | with_reducible refine (State.regs_stale_foldl _ _ _ (fun _ _ => ?_)).trans ?_ | with_reducible refine (State.regs_posted_foldl _ _ _ (fun _ _ => ?_)).trans ?_ | with_reducible refine (State.fd_mem_foldl _ _ _ (fun _ _ => ?_)).trans ?_ | with_reducible refine (State.dm_sram_foldl _ _ _ (fun _ _ => ?_)).trans ?_ | with_reducible refine (State.sq_frameNo_foldl _ _ _ (fun _ _ => ?_)).trans ?_ | with_reducible refine (State.sq_inScan_foldl _ _ _ (fun _ _ => ?_)).trans ?_ | with_reducible refine (State.sq_nextBoundary_foldl _ _ _ (fun _ _ => ?_)).trans ?_ | with_reducible refine (State.pw_gate_foldl _ _ _ (fun _ _ => ?_)).trans ?_)))

@[simp] theorem State.slewAxes_parts (s : State) (moved : Bool) (phi : Nat) (before : List Rat) :
    (s.slewAxes moved phi before).regs.setA = s.regs.setA ∧ (s.slewAxes moved phi before).regs.setB = s.regs.setB ∧
    (s.slewAxes moved phi before).regs.one = s.regs.one ∧ (s.slewAxes moved phi before).regs.rsvd = s.regs.rsvd ∧
    (s.slewAxes moved phi before).regs.waiting = s.regs.waiting ∧ (s.slewAxes moved phi before).regs.stale = s.regs.stale ∧
    (s.slewAxes moved phi before).regs.posted = s.regs.posted := by
  and_intros <;> (unfold State.slewAxes; repeat' (first | with_reducible rfl | (simp; done) | split | with_reducible refine (State.regs_setA_foldl _ _ _ (fun _ _ => ?_)).trans ?_ | with_reducible refine (State.regs_setB_foldl _ _ _ (fun _ _ => ?_)).trans ?_ | with_reducible refine (State.regs_one_foldl _ _ _ (fun _ _ => ?_)).trans ?_ | with_reducible refine (State.regs_rsvd_foldl _ _ _ (fun _ _ => ?_)).trans ?_ | with_reducible refine (State.regs_waiting_foldl _ _ _ (fun _ _ => ?_)).trans ?_ | with_reducible refine (State.regs_stale_foldl _ _ _ (fun _ _ => ?_)).trans ?_ | with_reducible refine (State.regs_posted_foldl _ _ _ (fun _ _ => ?_)).trans ?_ | with_reducible refine (State.fd_mem_foldl _ _ _ (fun _ _ => ?_)).trans ?_ | with_reducible refine (State.dm_sram_foldl _ _ _ (fun _ _ => ?_)).trans ?_ | with_reducible refine (State.sq_frameNo_foldl _ _ _ (fun _ _ => ?_)).trans ?_ | with_reducible refine (State.sq_inScan_foldl _ _ _ (fun _ _ => ?_)).trans ?_ | with_reducible refine (State.sq_nextBoundary_foldl _ _ _ (fun _ _ => ?_)).trans ?_ | with_reducible refine (State.pw_gate_foldl _ _ _ (fun _ _ => ?_)).trans ?_ | (dsimp only; first | split | with_reducible refine (State.regs_setA_foldl _ _ _ (fun _ _ => ?_)).trans ?_ | with_reducible refine (State.regs_setB_foldl _ _ _ (fun _ _ => ?_)).trans ?_ | with_reducible refine (State.regs_one_foldl _ _ _ (fun _ _ => ?_)).trans ?_ | with_reducible refine (State.regs_rsvd_foldl _ _ _ (fun _ _ => ?_)).trans ?_ | with_reducible refine (State.regs_waiting_foldl _ _ _ (fun _ _ => ?_)).trans ?_ | with_reducible refine (State.regs_stale_foldl _ _ _ (fun _ _ => ?_)).trans ?_ | with_reducible refine (State.regs_posted_foldl _ _ _ (fun _ _ => ?_)).trans ?_ | with_reducible refine (State.fd_mem_foldl _ _ _ (fun _ _ => ?_)).trans ?_ | with_reducible refine (State.dm_sram_foldl _ _ _ (fun _ _ => ?_)).trans ?_ | with_reducible refine (State.sq_frameNo_foldl _ _ _ (fun _ _ => ?_)).trans ?_ | with_reducible refine (State.sq_inScan_foldl _ _ _ (fun _ _ => ?_)).trans ?_ | with_reducible refine (State.sq_nextBoundary_foldl _ _ _ (fun _ _ => ?_)).trans ?_ | with_reducible refine (State.pw_gate_foldl _ _ _ (fun _ _ => ?_)).trans ?_)))

@[simp] theorem State.setRefOk_parts (s : State) (b : Nat) (ok : Bool) :
    (s.setRefOk b ok).sq.frameNo = s.sq.frameNo ∧ (s.setRefOk b ok).sq.inScan = s.sq.inScan ∧
    (s.setRefOk b ok).sq.nextBoundary = s.sq.nextBoundary := by
  and_intros <;> (unfold State.setRefOk; repeat' (first | with_reducible rfl | (simp; done) | split | with_reducible refine (State.regs_setA_foldl _ _ _ (fun _ _ => ?_)).trans ?_ | with_reducible refine (State.regs_setB_foldl _ _ _ (fun _ _ => ?_)).trans ?_ | with_reducible refine (State.regs_one_foldl _ _ _ (fun _ _ => ?_)).trans ?_ | with_reducible refine (State.regs_rsvd_foldl _ _ _ (fun _ _ => ?_)).trans ?_ | with_reducible refine (State.regs_waiting_foldl _ _ _ (fun _ _ => ?_)).trans ?_ | with_reducible refine (State.regs_stale_foldl _ _ _ (fun _ _ => ?_)).trans ?_ | with_reducible refine (State.regs_posted_foldl _ _ _ (fun _ _ => ?_)).trans ?_ | with_reducible refine (State.fd_mem_foldl _ _ _ (fun _ _ => ?_)).trans ?_ | with_reducible refine (State.dm_sram_foldl _ _ _ (fun _ _ => ?_)).trans ?_ | with_reducible refine (State.sq_frameNo_foldl _ _ _ (fun _ _ => ?_)).trans ?_ | with_reducible refine (State.sq_inScan_foldl _ _ _ (fun _ _ => ?_)).trans ?_ | with_reducible refine (State.sq_nextBoundary_foldl _ _ _ (fun _ _ => ?_)).trans ?_ | with_reducible refine (State.pw_gate_foldl _ _ _ (fun _ _ => ?_)).trans ?_ | (dsimp only; first | split | with_reducible refine (State.regs_setA_foldl _ _ _ (fun _ _ => ?_)).trans ?_ | with_reducible refine (State.regs_setB_foldl _ _ _ (fun _ _ => ?_)).trans ?_ | with_reducible refine (State.regs_one_foldl _ _ _ (fun _ _ => ?_)).trans ?_ | with_reducible refine (State.regs_rsvd_foldl _ _ _ (fun _ _ => ?_)).trans ?_ | with_reducible refine (State.regs_waiting_foldl _ _ _ (fun _ _ => ?_)).trans ?_ | with_reducible refine (State.regs_stale_foldl _ _ _ (fun _ _ => ?_)).trans ?_ | with_reducible refine (State.regs_posted_foldl _ _ _ (fun _ _ => ?_)).trans ?_ | with_reducible refine (State.fd_mem_foldl _ _ _ (fun _ _ => ?_)).trans ?_ | with_reducible refine (State.dm_sram_foldl _ _ _ (fun _ _ => ?_)).trans ?_ | with_reducible refine (State.sq_frameNo_foldl _ _ _ (fun _ _ => ?_)).trans ?_ | with_reducible refine (State.sq_inScan_foldl _ _ _ (fun _ _ => ?_)).trans ?_ | with_reducible refine (State.sq_nextBoundary_foldl _ _ _ (fun _ _ => ?_)).trans ?_ | with_reducible refine (State.pw_gate_foldl _ _ _ (fun _ _ => ?_)).trans ?_)))

@[simp] theorem State.refBack_parts (s : State) (b lsb : Nat) :
    (s.refBack b lsb).sq.frameNo = s.sq.frameNo ∧ (s.refBack b lsb).sq.inScan = s.sq.inScan ∧
    (s.refBack b lsb).sq.nextBoundary = s.sq.nextBoundary := by
  and_intros <;> (unfold State.refBack; repeat' (first | with_reducible rfl | (simp; done) | split | with_reducible refine (State.regs_setA_foldl _ _ _ (fun _ _ => ?_)).trans ?_ | with_reducible refine (State.regs_setB_foldl _ _ _ (fun _ _ => ?_)).trans ?_ | with_reducible refine (State.regs_one_foldl _ _ _ (fun _ _ => ?_)).trans ?_ | with_reducible refine (State.regs_rsvd_foldl _ _ _ (fun _ _ => ?_)).trans ?_ | with_reducible refine (State.regs_waiting_foldl _ _ _ (fun _ _ => ?_)).trans ?_ | with_reducible refine (State.regs_stale_foldl _ _ _ (fun _ _ => ?_)).trans ?_ | with_reducible refine (State.regs_posted_foldl _ _ _ (fun _ _ => ?_)).trans ?_ | with_reducible refine (State.fd_mem_foldl _ _ _ (fun _ _ => ?_)).trans ?_ | with_reducible refine (State.dm_sram_foldl _ _ _ (fun _ _ => ?_)).trans ?_ | with_reducible refine (State.sq_frameNo_foldl _ _ _ (fun _ _ => ?_)).trans ?_ | with_reducible refine (State.sq_inScan_foldl _ _ _ (fun _ _ => ?_)).trans ?_ | with_reducible refine (State.sq_nextBoundary_foldl _ _ _ (fun _ _ => ?_)).trans ?_ | with_reducible refine (State.pw_gate_foldl _ _ _ (fun _ _ => ?_)).trans ?_ | (dsimp only; first | split | with_reducible refine (State.regs_setA_foldl _ _ _ (fun _ _ => ?_)).trans ?_ | with_reducible refine (State.regs_setB_foldl _ _ _ (fun _ _ => ?_)).trans ?_ | with_reducible refine (State.regs_one_foldl _ _ _ (fun _ _ => ?_)).trans ?_ | with_reducible refine (State.regs_rsvd_foldl _ _ _ (fun _ _ => ?_)).trans ?_ | with_reducible refine (State.regs_waiting_foldl _ _ _ (fun _ _ => ?_)).trans ?_ | with_reducible refine (State.regs_stale_foldl _ _ _ (fun _ _ => ?_)).trans ?_ | with_reducible refine (State.regs_posted_foldl _ _ _ (fun _ _ => ?_)).trans ?_ | with_reducible refine (State.fd_mem_foldl _ _ _ (fun _ _ => ?_)).trans ?_ | with_reducible refine (State.dm_sram_foldl _ _ _ (fun _ _ => ?_)).trans ?_ | with_reducible refine (State.sq_frameNo_foldl _ _ _ (fun _ _ => ?_)).trans ?_ | with_reducible refine (State.sq_inScan_foldl _ _ _ (fun _ _ => ?_)).trans ?_ | with_reducible refine (State.sq_nextBoundary_foldl _ _ _ (fun _ _ => ?_)).trans ?_ | with_reducible refine (State.pw_gate_foldl _ _ _ (fun _ _ => ?_)).trans ?_)))

end Sys2Proof.Machine
end

