-- ==== Sys2Proof/Laws/FramePower.lean ====
section
/-!
SUPPORT. The frames of the operations of Machine/Power.lean: the parts of the state that each of them leaves as they were.
-/

set_option linter.unusedTactic false
set_option linter.unreachableTactic false
set_option linter.unusedSimpArgs false

namespace Sys2Proof.Machine

@[simp] theorem State.dieReset_frame (s : State) (cause rail : Nat) :
    (s.dieReset cause rail).now = s.now ∧ (s.dieReset cause rail).pending = s.pending ∧
    (s.dieReset cause rail).freeCtr = s.freeCtr ∧ (s.dieReset cause rail).tx = s.tx := by
  and_intros <;> (unfold State.dieReset; repeat' (first | with_reducible rfl | (simp; done) | split | with_reducible refine (foldl_inv _ _ _ _ (fun _ _ => ?_)).trans ?_ | (dsimp only; first | split | with_reducible refine (foldl_inv _ _ _ _ (fun _ _ => ?_)).trans ?_)))

@[simp] theorem State.later_frame (s : State) (e : Ev) (e10 e11 : Nat) :
    (s.later e e10 e11).now = s.now ∧ (s.later e e10 e11).phase = s.phase ∧ (s.later e e10 e11).pending = s.pending ∧
    (s.later e e10 e11).nodeOfs = s.nodeOfs ∧ (s.later e e10 e11).freeCtr = s.freeCtr ∧ (s.later e e10 e11).tx = s.tx ∧
    (s.later e e10 e11).regs = s.regs ∧ (s.later e e10 e11).tl = s.tl := by
  and_intros <;> (unfold State.later; repeat' (first | with_reducible rfl | (simp; done) | split | with_reducible refine (foldl_inv _ _ _ _ (fun _ _ => ?_)).trans ?_ | (dsimp only; first | split | with_reducible refine (foldl_inv _ _ _ _ (fun _ _ => ?_)).trans ?_)))

@[simp] theorem State.later_frame2 (s : State) (e : Ev) (e10 e11 : Nat) :
    (s.later e e10 e11).sq = s.sq ∧ (s.later e e10 e11).fd = s.fd ∧ (s.later e e10 e11).ex = s.ex ∧
    (s.later e e10 e11).sv = s.sv ∧ (s.later e e10 e11).ax = s.ax ∧ (s.later e e10 e11).aq = s.aq ∧
    (s.later e e10 e11).il = s.il ∧ (s.later e e10 e11).ln = s.ln := by
  and_intros <;> (unfold State.later; repeat' (first | with_reducible rfl | (simp; done) | split | with_reducible refine (foldl_inv _ _ _ _ (fun _ _ => ?_)).trans ?_ | (dsimp only; first | split | with_reducible refine (foldl_inv _ _ _ _ (fun _ _ => ?_)).trans ?_)))

@[simp] theorem State.later_frame3 (s : State) (e : Ev) (e10 e11 : Nat) :
    (s.later e e10 e11).fl = s.fl ∧ (s.later e e10 e11).ev = s.ev ∧ (s.later e e10 e11).safe = s.safe ∧
    (s.later e e10 e11).dm = s.dm ∧ (s.later e e10 e11).cm = s.cm ∧ (s.later e e10 e11).cf = s.cf ∧
    (s.later e e10 e11).th = s.th := by
  and_intros <;> (unfold State.later; repeat' (first | with_reducible rfl | (simp; done) | split | with_reducible refine (foldl_inv _ _ _ _ (fun _ _ => ?_)).trans ?_ | (dsimp only; first | split | with_reducible refine (foldl_inv _ _ _ _ (fun _ _ => ?_)).trans ?_)))

@[simp] theorem State.rejectSlot_frame (s : State) (b : Bool) :
    (s.rejectSlot b).now = s.now ∧ (s.rejectSlot b).phase = s.phase ∧ (s.rejectSlot b).pending = s.pending ∧
    (s.rejectSlot b).nodeOfs = s.nodeOfs ∧ (s.rejectSlot b).freeCtr = s.freeCtr ∧ (s.rejectSlot b).tx = s.tx ∧
    (s.rejectSlot b).tl = s.tl ∧ (s.rejectSlot b).sq = s.sq := by
  and_intros <;> (unfold State.rejectSlot; repeat' (first | with_reducible rfl | (simp; done) | split | with_reducible refine (foldl_inv _ _ _ _ (fun _ _ => ?_)).trans ?_ | (dsimp only; first | split | with_reducible refine (foldl_inv _ _ _ _ (fun _ _ => ?_)).trans ?_)))

@[simp] theorem State.rejectSlot_frame2 (s : State) (b : Bool) :
    (s.rejectSlot b).fd = s.fd ∧ (s.rejectSlot b).ex = s.ex ∧ (s.rejectSlot b).sv = s.sv ∧ (s.rejectSlot b).ax = s.ax ∧
    (s.rejectSlot b).aq = s.aq ∧ (s.rejectSlot b).il = s.il ∧ (s.rejectSlot b).ln = s.ln ∧ (s.rejectSlot b).fl = s.fl := by
  and_intros <;> (unfold State.rejectSlot; repeat' (first | with_reducible rfl | (simp; done) | split | with_reducible refine (foldl_inv _ _ _ _ (fun _ _ => ?_)).trans ?_ | (dsimp only; first | split | with_reducible refine (foldl_inv _ _ _ _ (fun _ _ => ?_)).trans ?_)))

@[simp] theorem State.rejectSlot_frame3 (s : State) (b : Bool) :
    (s.rejectSlot b).ev = s.ev ∧ (s.rejectSlot b).safe = s.safe ∧ (s.rejectSlot b).dm = s.dm ∧ (s.rejectSlot b).cm = s.cm ∧
    (s.rejectSlot b).cf = s.cf ∧ (s.rejectSlot b).th = s.th := by
  and_intros <;> (unfold State.rejectSlot; repeat' (first | with_reducible rfl | (simp; done) | split | with_reducible refine (foldl_inv _ _ _ _ (fun _ _ => ?_)).trans ?_ | (dsimp only; first | split | with_reducible refine (foldl_inv _ _ _ _ (fun _ _ => ?_)).trans ?_)))

@[simp] theorem State.bootSlot_frame (s : State) (b trial : Bool) :
    (s.bootSlot b trial).now = s.now ∧ (s.bootSlot b trial).phase = s.phase ∧ (s.bootSlot b trial).pending = s.pending ∧
    (s.bootSlot b trial).nodeOfs = s.nodeOfs ∧ (s.bootSlot b trial).freeCtr = s.freeCtr ∧ (s.bootSlot b trial).tx = s.tx ∧
    (s.bootSlot b trial).tl = s.tl ∧ (s.bootSlot b trial).sq = s.sq := by
  and_intros <;> (unfold State.bootSlot; repeat' (first | with_reducible rfl | (simp; done) | split | with_reducible refine (foldl_inv _ _ _ _ (fun _ _ => ?_)).trans ?_ | (dsimp only; first | split | with_reducible refine (foldl_inv _ _ _ _ (fun _ _ => ?_)).trans ?_)))

@[simp] theorem State.bootSlot_frame2 (s : State) (b trial : Bool) :
    (s.bootSlot b trial).fd = s.fd ∧ (s.bootSlot b trial).ex = s.ex ∧ (s.bootSlot b trial).sv = s.sv ∧
    (s.bootSlot b trial).ax = s.ax ∧ (s.bootSlot b trial).aq = s.aq ∧ (s.bootSlot b trial).il = s.il ∧
    (s.bootSlot b trial).ln = s.ln ∧ (s.bootSlot b trial).fl = s.fl := by
  and_intros <;> (unfold State.bootSlot; repeat' (first | with_reducible rfl | (simp; done) | split | with_reducible refine (foldl_inv _ _ _ _ (fun _ _ => ?_)).trans ?_ | (dsimp only; first | split | with_reducible refine (foldl_inv _ _ _ _ (fun _ _ => ?_)).trans ?_)))

@[simp] theorem State.bootSlot_frame3 (s : State) (b trial : Bool) :
    (s.bootSlot b trial).ev = s.ev ∧ (s.bootSlot b trial).safe = s.safe ∧ (s.bootSlot b trial).dm = s.dm ∧
    (s.bootSlot b trial).cm = s.cm ∧ (s.bootSlot b trial).cf = s.cf ∧ (s.bootSlot b trial).th = s.th := by
  and_intros <;> (unfold State.bootSlot; repeat' (first | with_reducible rfl | (simp; done) | split | with_reducible refine (foldl_inv _ _ _ _ (fun _ _ => ?_)).trans ?_ | (dsimp only; first | split | with_reducible refine (foldl_inv _ _ _ _ (fun _ _ => ?_)).trans ?_)))

@[simp] theorem State.showSlots_frame (s : State) :
    (s.showSlots).now = s.now ∧ (s.showSlots).phase = s.phase ∧ (s.showSlots).pending = s.pending ∧
    (s.showSlots).nodeOfs = s.nodeOfs ∧ (s.showSlots).freeCtr = s.freeCtr ∧ (s.showSlots).tx = s.tx ∧
    (s.showSlots).tl = s.tl ∧ (s.showSlots).sq = s.sq := by
  and_intros <;> (unfold State.showSlots; repeat' (first | with_reducible rfl | (simp; done) | split | with_reducible refine (foldl_inv _ _ _ _ (fun _ _ => ?_)).trans ?_ | (dsimp only; first | split | with_reducible refine (foldl_inv _ _ _ _ (fun _ _ => ?_)).trans ?_)))

@[simp] theorem State.showSlots_frame2 (s : State) :
    (s.showSlots).fd = s.fd ∧ (s.showSlots).ex = s.ex ∧ (s.showSlots).sv = s.sv ∧ (s.showSlots).ax = s.ax ∧
    (s.showSlots).aq = s.aq ∧ (s.showSlots).il = s.il ∧ (s.showSlots).ln = s.ln ∧ (s.showSlots).fl = s.fl := by
  and_intros <;> (unfold State.showSlots; repeat' (first | with_reducible rfl | (simp; done) | split | with_reducible refine (foldl_inv _ _ _ _ (fun _ _ => ?_)).trans ?_ | (dsimp only; first | split | with_reducible refine (foldl_inv _ _ _ _ (fun _ _ => ?_)).trans ?_)))

@[simp] theorem State.showSlots_frame3 (s : State) :
    (s.showSlots).ev = s.ev ∧ (s.showSlots).safe = s.safe ∧ (s.showSlots).dm = s.dm ∧ (s.showSlots).cm = s.cm ∧
    (s.showSlots).cf = s.cf ∧ (s.showSlots).pw = s.pw ∧ (s.showSlots).th = s.th := by
  and_intros <;> (unfold State.showSlots; repeat' (first | with_reducible rfl | (simp; done) | split | with_reducible refine (foldl_inv _ _ _ _ (fun _ _ => ?_)).trans ?_ | (dsimp only; first | split | with_reducible refine (foldl_inv _ _ _ _ (fun _ _ => ?_)).trans ?_)))

@[simp] theorem State.fallBack_frame (s : State) (b : Bool) :
    (s.fallBack b).now = s.now ∧ (s.fallBack b).phase = s.phase ∧ (s.fallBack b).pending = s.pending ∧
    (s.fallBack b).nodeOfs = s.nodeOfs ∧ (s.fallBack b).freeCtr = s.freeCtr ∧ (s.fallBack b).tx = s.tx ∧
    (s.fallBack b).tl = s.tl ∧ (s.fallBack b).sq = s.sq := by
  and_intros <;> (unfold State.fallBack; repeat' (first | with_reducible rfl | (simp; done) | split | with_reducible refine (foldl_inv _ _ _ _ (fun _ _ => ?_)).trans ?_ | (dsimp only; first | split | with_reducible refine (foldl_inv _ _ _ _ (fun _ _ => ?_)).trans ?_)))

@[simp] theorem State.fallBack_frame2 (s : State) (b : Bool) :
    (s.fallBack b).fd = s.fd ∧ (s.fallBack b).ex = s.ex ∧ (s.fallBack b).sv = s.sv ∧ (s.fallBack b).ax = s.ax ∧
    (s.fallBack b).aq = s.aq ∧ (s.fallBack b).il = s.il ∧ (s.fallBack b).ln = s.ln ∧ (s.fallBack b).fl = s.fl := by
  and_intros <;> (unfold State.fallBack; repeat' (first | with_reducible rfl | (simp; done) | split | with_reducible refine (foldl_inv _ _ _ _ (fun _ _ => ?_)).trans ?_ | (dsimp only; first | split | with_reducible refine (foldl_inv _ _ _ _ (fun _ _ => ?_)).trans ?_)))

@[simp] theorem State.fallBack_frame3 (s : State) (b : Bool) :
    (s.fallBack b).ev = s.ev ∧ (s.fallBack b).safe = s.safe ∧ (s.fallBack b).dm = s.dm ∧ (s.fallBack b).cm = s.cm ∧
    (s.fallBack b).cf = s.cf ∧ (s.fallBack b).th = s.th := by
  and_intros <;> (unfold State.fallBack; repeat' (first | with_reducible rfl | (simp; done) | split | with_reducible refine (foldl_inv _ _ _ _ (fun _ _ => ?_)).trans ?_ | (dsimp only; first | split | with_reducible refine (foldl_inv _ _ _ _ (fun _ _ => ?_)).trans ?_)))

@[simp] theorem State.railUnder_frame (s : State) (r : Nat) :
    (s.railUnder r).now = s.now ∧ (s.railUnder r).phase = s.phase ∧ (s.railUnder r).pending = s.pending ∧
    (s.railUnder r).nodeOfs = s.nodeOfs ∧ (s.railUnder r).freeCtr = s.freeCtr ∧ (s.railUnder r).tx = s.tx ∧
    (s.railUnder r).regs = s.regs ∧ (s.railUnder r).tl = s.tl := by
  and_intros <;> (unfold State.railUnder; repeat' (first | with_reducible rfl | (simp; done) | split | with_reducible refine (foldl_inv _ _ _ _ (fun _ _ => ?_)).trans ?_ | (dsimp only; first | split | with_reducible refine (foldl_inv _ _ _ _ (fun _ _ => ?_)).trans ?_)))

@[simp] theorem State.railUnder_frame2 (s : State) (r : Nat) :
    (s.railUnder r).sq = s.sq ∧ (s.railUnder r).fd = s.fd ∧ (s.railUnder r).ex = s.ex ∧ (s.railUnder r).sv = s.sv ∧
    (s.railUnder r).ax = s.ax ∧ (s.railUnder r).aq = s.aq ∧ (s.railUnder r).il = s.il ∧ (s.railUnder r).ln = s.ln := by
  and_intros <;> (unfold State.railUnder; repeat' (first | with_reducible rfl | (simp; done) | split | with_reducible refine (foldl_inv _ _ _ _ (fun _ _ => ?_)).trans ?_ | (dsimp only; first | split | with_reducible refine (foldl_inv _ _ _ _ (fun _ _ => ?_)).trans ?_)))

@[simp] theorem State.railUnder_frame3 (s : State) (r : Nat) :
    (s.railUnder r).fl = s.fl ∧ (s.railUnder r).ev = s.ev ∧ (s.railUnder r).safe = s.safe ∧ (s.railUnder r).dm = s.dm ∧
    (s.railUnder r).cm = s.cm ∧ (s.railUnder r).cf = s.cf ∧ (s.railUnder r).th = s.th := by
  and_intros <;> (unfold State.railUnder; repeat' (first | with_reducible rfl | (simp; done) | split | with_reducible refine (foldl_inv _ _ _ _ (fun _ _ => ?_)).trans ?_ | (dsimp only; first | split | with_reducible refine (foldl_inv _ _ _ _ (fun _ _ => ?_)).trans ?_)))

@[simp] theorem State.railDown_frame (s : State) (r mv : Nat) :
    (s.railDown r mv).now = s.now ∧ (s.railDown r mv).phase = s.phase ∧ (s.railDown r mv).pending = s.pending ∧
    (s.railDown r mv).nodeOfs = s.nodeOfs ∧ (s.railDown r mv).freeCtr = s.freeCtr ∧ (s.railDown r mv).tx = s.tx ∧
    (s.railDown r mv).tl = s.tl ∧ (s.railDown r mv).sq = s.sq := by
  and_intros <;> (unfold State.railDown; repeat' (first | with_reducible rfl | (simp; done) | split | with_reducible refine (foldl_inv _ _ _ _ (fun _ _ => ?_)).trans ?_ | (dsimp only; first | split | with_reducible refine (foldl_inv _ _ _ _ (fun _ _ => ?_)).trans ?_)))

@[simp] theorem State.railDown_frame2 (s : State) (r mv : Nat) :
    (s.railDown r mv).fd = s.fd ∧ (s.railDown r mv).ex = s.ex ∧ (s.railDown r mv).sv = s.sv ∧ (s.railDown r mv).ax = s.ax ∧
    (s.railDown r mv).aq = s.aq ∧ (s.railDown r mv).il = s.il ∧ (s.railDown r mv).ln = s.ln ∧ (s.railDown r mv).fl = s.fl := by
  and_intros <;> (unfold State.railDown; repeat' (first | with_reducible rfl | (simp; done) | split | with_reducible refine (foldl_inv _ _ _ _ (fun _ _ => ?_)).trans ?_ | (dsimp only; first | split | with_reducible refine (foldl_inv _ _ _ _ (fun _ _ => ?_)).trans ?_)))

@[simp] theorem State.railDown_frame3 (s : State) (r mv : Nat) :
    (s.railDown r mv).ev = s.ev ∧ (s.railDown r mv).safe = s.safe ∧ (s.railDown r mv).dm = s.dm ∧
    (s.railDown r mv).cm = s.cm ∧ (s.railDown r mv).cf = s.cf ∧ (s.railDown r mv).pw = s.pw ∧ (s.railDown r mv).th = s.th := by
  and_intros <;> (unfold State.railDown; repeat' (first | with_reducible rfl | (simp; done) | split | with_reducible refine (foldl_inv _ _ _ _ (fun _ _ => ?_)).trans ?_ | (dsimp only; first | split | with_reducible refine (foldl_inv _ _ _ _ (fun _ _ => ?_)).trans ?_)))

@[simp] theorem State.readRecords_frame (s : State) (formats : RecordFormats) :
    (s.readRecords formats).now = s.now ∧ (s.readRecords formats).phase = s.phase ∧
    (s.readRecords formats).pending = s.pending ∧ (s.readRecords formats).nodeOfs = s.nodeOfs ∧
    (s.readRecords formats).freeCtr = s.freeCtr ∧ (s.readRecords formats).tx = s.tx ∧ (s.readRecords formats).tl = s.tl ∧
    (s.readRecords formats).sq = s.sq := by
  and_intros <;> (unfold State.readRecords; repeat' (first | with_reducible rfl | (simp; done) | split | with_reducible refine (foldl_inv _ _ _ _ (fun _ _ => ?_)).trans ?_ | (dsimp only; first | split | with_reducible refine (foldl_inv _ _ _ _ (fun _ _ => ?_)).trans ?_)))

@[simp] theorem State.readRecords_frame2 (s : State) (formats : RecordFormats) :
    (s.readRecords formats).fd = s.fd ∧ (s.readRecords formats).ex = s.ex ∧ (s.readRecords formats).sv = s.sv ∧
    (s.readRecords formats).ax = s.ax ∧ (s.readRecords formats).aq = s.aq ∧ (s.readRecords formats).il = s.il ∧
    (s.readRecords formats).ln = s.ln ∧ (s.readRecords formats).fl = s.fl := by
  and_intros <;> (unfold State.readRecords; repeat' (first | with_reducible rfl | (simp; done) | split | with_reducible refine (foldl_inv _ _ _ _ (fun _ _ => ?_)).trans ?_ | (dsimp only; first | split | with_reducible refine (foldl_inv _ _ _ _ (fun _ _ => ?_)).trans ?_)))

@[simp] theorem State.readRecords_frame3 (s : State) (formats : RecordFormats) :
    (s.readRecords formats).ev = s.ev ∧ (s.readRecords formats).safe = s.safe ∧ (s.readRecords formats).dm = s.dm ∧
    (s.readRecords formats).cm = s.cm ∧ (s.readRecords formats).cf = s.cf ∧ (s.readRecords formats).th = s.th := by
  and_intros <;> (unfold State.readRecords; repeat' (first | with_reducible rfl | (simp; done) | split | with_reducible refine (foldl_inv _ _ _ _ (fun _ _ => ?_)).trans ?_ | (dsimp only; first | split | with_reducible refine (foldl_inv _ _ _ _ (fun _ _ => ?_)).trans ?_)))

@[simp] theorem State.loadFuses_frame (s : State) :
    (s.loadFuses).now = s.now ∧ (s.loadFuses).phase = s.phase ∧ (s.loadFuses).pending = s.pending ∧
    (s.loadFuses).nodeOfs = s.nodeOfs ∧ (s.loadFuses).freeCtr = s.freeCtr ∧ (s.loadFuses).tx = s.tx ∧
    (s.loadFuses).tl = s.tl ∧ (s.loadFuses).sq = s.sq := by
  and_intros <;> (unfold State.loadFuses; repeat' (first | with_reducible rfl | (simp; done) | split | with_reducible refine (foldl_inv _ _ _ _ (fun _ _ => ?_)).trans ?_ | (dsimp only; first | split | with_reducible refine (foldl_inv _ _ _ _ (fun _ _ => ?_)).trans ?_)))

@[simp] theorem State.loadFuses_frame2 (s : State) :
    (s.loadFuses).fd = s.fd ∧ (s.loadFuses).ex = s.ex ∧ (s.loadFuses).sv = s.sv ∧ (s.loadFuses).ax = s.ax ∧
    (s.loadFuses).aq = s.aq ∧ (s.loadFuses).il = s.il ∧ (s.loadFuses).ln = s.ln ∧ (s.loadFuses).fl = s.fl := by
  and_intros <;> (unfold State.loadFuses; repeat' (first | with_reducible rfl | (simp; done) | split | with_reducible refine (foldl_inv _ _ _ _ (fun _ _ => ?_)).trans ?_ | (dsimp only; first | split | with_reducible refine (foldl_inv _ _ _ _ (fun _ _ => ?_)).trans ?_)))

@[simp] theorem State.loadFuses_frame3 (s : State) :
    (s.loadFuses).ev = s.ev ∧ (s.loadFuses).safe = s.safe ∧ (s.loadFuses).dm = s.dm ∧ (s.loadFuses).cm = s.cm ∧
    (s.loadFuses).cf = s.cf ∧ (s.loadFuses).pw = s.pw ∧ (s.loadFuses).th = s.th := by
  and_intros <;> (unfold State.loadFuses; repeat' (first | with_reducible rfl | (simp; done) | split | with_reducible refine (foldl_inv _ _ _ _ (fun _ _ => ?_)).trans ?_ | (dsimp only; first | split | with_reducible refine (foldl_inv _ _ _ _ (fun _ _ => ?_)).trans ?_)))

@[simp] theorem State.restoreFails_frame (s : State) :
    (s.restoreFails).now = s.now ∧ (s.restoreFails).phase = s.phase ∧ (s.restoreFails).pending = s.pending ∧
    (s.restoreFails).nodeOfs = s.nodeOfs ∧ (s.restoreFails).freeCtr = s.freeCtr ∧ (s.restoreFails).tx = s.tx ∧
    (s.restoreFails).regs = s.regs ∧ (s.restoreFails).tl = s.tl := by
  and_intros <;> (unfold State.restoreFails; repeat' (first | with_reducible rfl | (simp; done) | split | with_reducible refine (foldl_inv _ _ _ _ (fun _ _ => ?_)).trans ?_ | (dsimp only; first | split | with_reducible refine (foldl_inv _ _ _ _ (fun _ _ => ?_)).trans ?_)))

@[simp] theorem State.restoreFails_frame2 (s : State) :
    (s.restoreFails).sq = s.sq ∧ (s.restoreFails).fd = s.fd ∧ (s.restoreFails).ex = s.ex ∧ (s.restoreFails).sv = s.sv ∧
    (s.restoreFails).ax = s.ax ∧ (s.restoreFails).aq = s.aq ∧ (s.restoreFails).il = s.il ∧ (s.restoreFails).ln = s.ln := by
  and_intros <;> (unfold State.restoreFails; repeat' (first | with_reducible rfl | (simp; done) | split | with_reducible refine (foldl_inv _ _ _ _ (fun _ _ => ?_)).trans ?_ | (dsimp only; first | split | with_reducible refine (foldl_inv _ _ _ _ (fun _ _ => ?_)).trans ?_)))

@[simp] theorem State.restoreFails_frame3 (s : State) :
    (s.restoreFails).fl = s.fl ∧ (s.restoreFails).ev = s.ev ∧ (s.restoreFails).safe = s.safe ∧ (s.restoreFails).dm = s.dm ∧
    (s.restoreFails).cm = s.cm ∧ (s.restoreFails).cf = s.cf ∧ (s.restoreFails).th = s.th := by
  and_intros <;> (unfold State.restoreFails; repeat' (first | with_reducible rfl | (simp; done) | split | with_reducible refine (foldl_inv _ _ _ _ (fun _ _ => ?_)).trans ?_ | (dsimp only; first | split | with_reducible refine (foldl_inv _ _ _ _ (fun _ _ => ?_)).trans ?_)))

@[simp] theorem State.later_parts (s : State) (e : Ev) (e10 e11 : Nat) :
    (s.later e e10 e11).pw.gate = s.pw.gate := by
  unfold State.later; repeat' (first | with_reducible rfl | (simp; done) | split | with_reducible refine (State.regs_setA_foldl _ _ _ (fun _ _ => ?_)).trans ?_ | with_reducible refine (State.regs_setB_foldl _ _ _ (fun _ _ => ?_)).trans ?_ | with_reducible refine (State.regs_one_foldl _ _ _ (fun _ _ => ?_)).trans ?_ | with_reducible refine (State.regs_rsvd_foldl _ _ _ (fun _ _ => ?_)).trans ?_ | with_reducible refine (State.regs_waiting_foldl _ _ _ (fun _ _ => ?_)).trans ?_ | with_reducible refine (State.regs_stale_foldl _ _ _ (fun _ _ => ?_)).trans ?_ | with_reducible refine (State.regs_posted_foldl _ _ _ (fun _ _ => ?_)).trans ?_ | with_reducible refine (State.fd_mem_foldl _ _ _ (fun _ _ => ?_)).trans ?_ | with_reducible refine (State.dm_sram_foldl _ _ _ (fun _ _ => ?_)).trans ?_ | with_reducible refine (State.sq_frameNo_foldl _ _ _ (fun _ _ => ?_)).trans ?_ | with_reducible refine (State.sq_inScan_foldl _ _ _ (fun _ _ => ?_)).trans ?_ | with_reducible refine (State.sq_nextBoundary_foldl _ _ _ (fun _ _ => ?_)).trans ?_ | with_reducible refine (State.pw_gate_foldl _ _ _ (fun _ _ => ?_)).trans ?_ | (dsimp only; first | split | with_reducible refine (State.regs_setA_foldl _ _ _ (fun _ _ => ?_)).trans ?_ | with_reducible refine (State.regs_setB_foldl _ _ _ (fun _ _ => ?_)).trans ?_ | with_reducible refine (State.regs_one_foldl _ _ _ (fun _ _ => ?_)).trans ?_ | with_reducible refine (State.regs_rsvd_foldl _ _ _ (fun _ _ => ?_)).trans ?_ | with_reducible refine (State.regs_waiting_foldl _ _ _ (fun _ _ => ?_)).trans ?_ | with_reducible refine (State.regs_stale_foldl _ _ _ (fun _ _ => ?_)).trans ?_ | with_reducible refine (State.regs_posted_foldl _ _ _ (fun _ _ => ?_)).trans ?_ | with_reducible refine (State.fd_mem_foldl _ _ _ (fun _ _ => ?_)).trans ?_ | with_reducible refine (State.dm_sram_foldl _ _ _ (fun _ _ => ?_)).trans ?_ | with_reducible refine (State.sq_frameNo_foldl _ _ _ (fun _ _ => ?_)).trans ?_ | with_reducible refine (State.sq_inScan_foldl _ _ _ (fun _ _ => ?_)).trans ?_ | with_reducible refine (State.sq_nextBoundary_foldl _ _ _ (fun _ _ => ?_)).trans ?_ | with_reducible refine (State.pw_gate_foldl _ _ _ (fun _ _ => ?_)).trans ?_))

@[simp] theorem State.rejectSlot_parts (s : State) (b : Bool) :
    (s.rejectSlot b).regs.setA = s.regs.setA ∧ (s.rejectSlot b).regs.setB = s.regs.setB ∧
    (s.rejectSlot b).regs.one = s.regs.one ∧ (s.rejectSlot b).regs.rsvd = s.regs.rsvd ∧
    (s.rejectSlot b).regs.waiting = s.regs.waiting ∧ (s.rejectSlot b).regs.stale = s.regs.stale ∧
    (s.rejectSlot b).regs.posted = s.regs.posted ∧ (s.rejectSlot b).pw.gate = s.pw.gate := by
  and_intros <;> (unfold State.rejectSlot; repeat' (first | with_reducible rfl | (simp; done) | split | with_reducible refine (State.regs_setA_foldl _ _ _ (fun _ _ => ?_)).trans ?_ | with_reducible refine (State.regs_setB_foldl _ _ _ (fun _ _ => ?_)).trans ?_ | with_reducible refine (State.regs_one_foldl _ _ _ (fun _ _ => ?_)).trans ?_ | with_reducible refine (State.regs_rsvd_foldl _ _ _ (fun _ _ => ?_)).trans ?_ | with_reducible refine (State.regs_waiting_foldl _ _ _ (fun _ _ => ?_)).trans ?_ | with_reducible refine (State.regs_stale_foldl _ _ _ (fun _ _ => ?_)).trans ?_ | with_reducible refine (State.regs_posted_foldl _ _ _ (fun _ _ => ?_)).trans ?_ | with_reducible refine (State.fd_mem_foldl _ _ _ (fun _ _ => ?_)).trans ?_ | with_reducible refine (State.dm_sram_foldl _ _ _ (fun _ _ => ?_)).trans ?_ | with_reducible refine (State.sq_frameNo_foldl _ _ _ (fun _ _ => ?_)).trans ?_ | with_reducible refine (State.sq_inScan_foldl _ _ _ (fun _ _ => ?_)).trans ?_ | with_reducible refine (State.sq_nextBoundary_foldl _ _ _ (fun _ _ => ?_)).trans ?_ | with_reducible refine (State.pw_gate_foldl _ _ _ (fun _ _ => ?_)).trans ?_ | (dsimp only; first | split | with_reducible refine (State.regs_setA_foldl _ _ _ (fun _ _ => ?_)).trans ?_ | with_reducible refine (State.regs_setB_foldl _ _ _ (fun _ _ => ?_)).trans ?_ | with_reducible refine (State.regs_one_foldl _ _ _ (fun _ _ => ?_)).trans ?_ | with_reducible refine (State.regs_rsvd_foldl _ _ _ (fun _ _ => ?_)).trans ?_ | with_reducible refine (State.regs_waiting_foldl _ _ _ (fun _ _ => ?_)).trans ?_ | with_reducible refine (State.regs_stale_foldl _ _ _ (fun _ _ => ?_)).trans ?_ | with_reducible refine (State.regs_posted_foldl _ _ _ (fun _ _ => ?_)).trans ?_ | with_reducible refine (State.fd_mem_foldl _ _ _ (fun _ _ => ?_)).trans ?_ | with_reducible refine (State.dm_sram_foldl _ _ _ (fun _ _ => ?_)).trans ?_ | with_reducible refine (State.sq_frameNo_foldl _ _ _ (fun _ _ => ?_)).trans ?_ | with_reducible refine (State.sq_inScan_foldl _ _ _ (fun _ _ => ?_)).trans ?_ | with_reducible refine (State.sq_nextBoundary_foldl _ _ _ (fun _ _ => ?_)).trans ?_ | with_reducible refine (State.pw_gate_foldl _ _ _ (fun _ _ => ?_)).trans ?_)))

@[simp] theorem State.bootSlot_parts (s : State) (b trial : Bool) :
    (s.bootSlot b trial).regs.setA = s.regs.setA ∧ (s.bootSlot b trial).regs.setB = s.regs.setB ∧
    (s.bootSlot b trial).regs.one = s.regs.one ∧ (s.bootSlot b trial).regs.rsvd = s.regs.rsvd ∧
    (s.bootSlot b trial).regs.waiting = s.regs.waiting ∧ (s.bootSlot b trial).regs.stale = s.regs.stale ∧
    (s.bootSlot b trial).regs.posted = s.regs.posted ∧ (s.bootSlot b trial).pw.gate = s.pw.gate := by
  and_intros <;> (unfold State.bootSlot; repeat' (first | with_reducible rfl | (simp; done) | split | with_reducible refine (State.regs_setA_foldl _ _ _ (fun _ _ => ?_)).trans ?_ | with_reducible refine (State.regs_setB_foldl _ _ _ (fun _ _ => ?_)).trans ?_ | with_reducible refine (State.regs_one_foldl _ _ _ (fun _ _ => ?_)).trans ?_ | with_reducible refine (State.regs_rsvd_foldl _ _ _ (fun _ _ => ?_)).trans ?_ | with_reducible refine (State.regs_waiting_foldl _ _ _ (fun _ _ => ?_)).trans ?_ | with_reducible refine (State.regs_stale_foldl _ _ _ (fun _ _ => ?_)).trans ?_ | with_reducible refine (State.regs_posted_foldl _ _ _ (fun _ _ => ?_)).trans ?_ | with_reducible refine (State.fd_mem_foldl _ _ _ (fun _ _ => ?_)).trans ?_ | with_reducible refine (State.dm_sram_foldl _ _ _ (fun _ _ => ?_)).trans ?_ | with_reducible refine (State.sq_frameNo_foldl _ _ _ (fun _ _ => ?_)).trans ?_ | with_reducible refine (State.sq_inScan_foldl _ _ _ (fun _ _ => ?_)).trans ?_ | with_reducible refine (State.sq_nextBoundary_foldl _ _ _ (fun _ _ => ?_)).trans ?_ | with_reducible refine (State.pw_gate_foldl _ _ _ (fun _ _ => ?_)).trans ?_ | (dsimp only; first | split | with_reducible refine (State.regs_setA_foldl _ _ _ (fun _ _ => ?_)).trans ?_ | with_reducible refine (State.regs_setB_foldl _ _ _ (fun _ _ => ?_)).trans ?_ | with_reducible refine (State.regs_one_foldl _ _ _ (fun _ _ => ?_)).trans ?_ | with_reducible refine (State.regs_rsvd_foldl _ _ _ (fun _ _ => ?_)).trans ?_ | with_reducible refine (State.regs_waiting_foldl _ _ _ (fun _ _ => ?_)).trans ?_ | with_reducible refine (State.regs_stale_foldl _ _ _ (fun _ _ => ?_)).trans ?_ | with_reducible refine (State.regs_posted_foldl _ _ _ (fun _ _ => ?_)).trans ?_ | with_reducible refine (State.fd_mem_foldl _ _ _ (fun _ _ => ?_)).trans ?_ | with_reducible refine (State.dm_sram_foldl _ _ _ (fun _ _ => ?_)).trans ?_ | with_reducible refine (State.sq_frameNo_foldl _ _ _ (fun _ _ => ?_)).trans ?_ | with_reducible refine (State.sq_inScan_foldl _ _ _ (fun _ _ => ?_)).trans ?_ | with_reducible refine (State.sq_nextBoundary_foldl _ _ _ (fun _ _ => ?_)).trans ?_ | with_reducible refine (State.pw_gate_foldl _ _ _ (fun _ _ => ?_)).trans ?_)))

@[simp] theorem State.showSlots_parts (s : State) :
    (s.showSlots).regs.setA = s.regs.setA ∧ (s.showSlots).regs.setB = s.regs.setB ∧ (s.showSlots).regs.one = s.regs.one ∧
    (s.showSlots).regs.rsvd = s.regs.rsvd ∧ (s.showSlots).regs.waiting = s.regs.waiting ∧
    (s.showSlots).regs.stale = s.regs.stale ∧ (s.showSlots).regs.posted = s.regs.posted := by
  and_intros <;> (unfold State.showSlots; repeat' (first | with_reducible rfl | (simp; done) | split | with_reducible refine (State.regs_setA_foldl _ _ _ (fun _ _ => ?_)).trans ?_ | with_reducible refine (State.regs_setB_foldl _ _ _ (fun _ _ => ?_)).trans ?_ | with_reducible refine (State.regs_one_foldl _ _ _ (fun _ _ => ?_)).trans ?_ | with_reducible refine (State.regs_rsvd_foldl _ _ _ (fun _ _ => ?_)).trans ?_ | with_reducible refine (State.regs_waiting_foldl _ _ _ (fun _ _ => ?_)).trans ?_ | with_reducible refine (State.regs_stale_foldl _ _ _ (fun _ _ => ?_)).trans ?_ | with_reducible refine (State.regs_posted_foldl _ _ _ (fun _ _ => ?_)).trans ?_ | with_reducible refine (State.fd_mem_foldl _ _ _ (fun _ _ => ?_)).trans ?_ | with_reducible refine (State.dm_sram_foldl _ _ _ (fun _ _ => ?_)).trans ?_ | with_reducible refine (State.sq_frameNo_foldl _ _ _ (fun _ _ => ?_)).trans ?_ | with_reducible refine (State.sq_inScan_foldl _ _ _ (fun _ _ => ?_)).trans ?_ | with_reducible refine (State.sq_nextBoundary_foldl _ _ _ (fun _ _ => ?_)).trans ?_ | with_reducible refine (State.pw_gate_foldl _ _ _ (fun _ _ => ?_)).trans ?_ | (dsimp only; first | split | with_reducible refine (State.regs_setA_foldl _ _ _ (fun _ _ => ?_)).trans ?_ | with_reducible refine (State.regs_setB_foldl _ _ _ (fun _ _ => ?_)).trans ?_ | with_reducible refine (State.regs_one_foldl _ _ _ (fun _ _ => ?_)).trans ?_ | with_reducible refine (State.regs_rsvd_foldl _ _ _ (fun _ _ => ?_)).trans ?_ | with_reducible refine (State.regs_waiting_foldl _ _ _ (fun _ _ => ?_)).trans ?_ | with_reducible refine (State.regs_stale_foldl _ _ _ (fun _ _ => ?_)).trans ?_ | with_reducible refine (State.regs_posted_foldl _ _ _ (fun _ _ => ?_)).trans ?_ | with_reducible refine (State.fd_mem_foldl _ _ _ (fun _ _ => ?_)).trans ?_ | with_reducible refine (State.dm_sram_foldl _ _ _ (fun _ _ => ?_)).trans ?_ | with_reducible refine (State.sq_frameNo_foldl _ _ _ (fun _ _ => ?_)).trans ?_ | with_reducible refine (State.sq_inScan_foldl _ _ _ (fun _ _ => ?_)).trans ?_ | with_reducible refine (State.sq_nextBoundary_foldl _ _ _ (fun _ _ => ?_)).trans ?_ | with_reducible refine (State.pw_gate_foldl _ _ _ (fun _ _ => ?_)).trans ?_)))

@[simp] theorem State.fallBack_parts (s : State) (b : Bool) :
    (s.fallBack b).regs.setA = s.regs.setA ∧ (s.fallBack b).regs.setB = s.regs.setB ∧ (s.fallBack b).regs.one = s.regs.one ∧
    (s.fallBack b).regs.rsvd = s.regs.rsvd ∧ (s.fallBack b).regs.waiting = s.regs.waiting ∧
    (s.fallBack b).regs.stale = s.regs.stale ∧ (s.fallBack b).regs.posted = s.regs.posted := by
  and_intros <;> (unfold State.fallBack; repeat' (first | with_reducible rfl | (simp; done) | split | with_reducible refine (State.regs_setA_foldl _ _ _ (fun _ _ => ?_)).trans ?_ | with_reducible refine (State.regs_setB_foldl _ _ _ (fun _ _ => ?_)).trans ?_ | with_reducible refine (State.regs_one_foldl _ _ _ (fun _ _ => ?_)).trans ?_ | with_reducible refine (State.regs_rsvd_foldl _ _ _ (fun _ _ => ?_)).trans ?_ | with_reducible refine (State.regs_waiting_foldl _ _ _ (fun _ _ => ?_)).trans ?_ | with_reducible refine (State.regs_stale_foldl _ _ _ (fun _ _ => ?_)).trans ?_ | with_reducible refine (State.regs_posted_foldl _ _ _ (fun _ _ => ?_)).trans ?_ | with_reducible refine (State.fd_mem_foldl _ _ _ (fun _ _ => ?_)).trans ?_ | with_reducible refine (State.dm_sram_foldl _ _ _ (fun _ _ => ?_)).trans ?_ | with_reducible refine (State.sq_frameNo_foldl _ _ _ (fun _ _ => ?_)).trans ?_ | with_reducible refine (State.sq_inScan_foldl _ _ _ (fun _ _ => ?_)).trans ?_ | with_reducible refine (State.sq_nextBoundary_foldl _ _ _ (fun _ _ => ?_)).trans ?_ | with_reducible refine (State.pw_gate_foldl _ _ _ (fun _ _ => ?_)).trans ?_ | (dsimp only; first | split | with_reducible refine (State.regs_setA_foldl _ _ _ (fun _ _ => ?_)).trans ?_ | with_reducible refine (State.regs_setB_foldl _ _ _ (fun _ _ => ?_)).trans ?_ | with_reducible refine (State.regs_one_foldl _ _ _ (fun _ _ => ?_)).trans ?_ | with_reducible refine (State.regs_rsvd_foldl _ _ _ (fun _ _ => ?_)).trans ?_ | with_reducible refine (State.regs_waiting_foldl _ _ _ (fun _ _ => ?_)).trans ?_ | with_reducible refine (State.regs_stale_foldl _ _ _ (fun _ _ => ?_)).trans ?_ | with_reducible refine (State.regs_posted_foldl _ _ _ (fun _ _ => ?_)).trans ?_ | with_reducible refine (State.fd_mem_foldl _ _ _ (fun _ _ => ?_)).trans ?_ | with_reducible refine (State.dm_sram_foldl _ _ _ (fun _ _ => ?_)).trans ?_ | with_reducible refine (State.sq_frameNo_foldl _ _ _ (fun _ _ => ?_)).trans ?_ | with_reducible refine (State.sq_inScan_foldl _ _ _ (fun _ _ => ?_)).trans ?_ | with_reducible refine (State.sq_nextBoundary_foldl _ _ _ (fun _ _ => ?_)).trans ?_ | with_reducible refine (State.pw_gate_foldl _ _ _ (fun _ _ => ?_)).trans ?_)))

@[simp] theorem State.railDown_parts (s : State) (r mv : Nat) :
    (s.railDown r mv).regs.setA = s.regs.setA ∧ (s.railDown r mv).regs.setB = s.regs.setB ∧
    (s.railDown r mv).regs.one = s.regs.one ∧ (s.railDown r mv).regs.rsvd = s.regs.rsvd ∧
    (s.railDown r mv).regs.waiting = s.regs.waiting ∧ (s.railDown r mv).regs.stale = s.regs.stale ∧
    (s.railDown r mv).regs.posted = s.regs.posted := by
  and_intros <;> (unfold State.railDown; repeat' (first | with_reducible rfl | (simp; done) | split | with_reducible refine (State.regs_setA_foldl _ _ _ (fun _ _ => ?_)).trans ?_ | with_reducible refine (State.regs_setB_foldl _ _ _ (fun _ _ => ?_)).trans ?_ | with_reducible refine (State.regs_one_foldl _ _ _ (fun _ _ => ?_)).trans ?_ | with_reducible refine (State.regs_rsvd_foldl _ _ _ (fun _ _ => ?_)).trans ?_ | with_reducible refine (State.regs_waiting_foldl _ _ _ (fun _ _ => ?_)).trans ?_ | with_reducible refine (State.regs_stale_foldl _ _ _ (fun _ _ => ?_)).trans ?_ | with_reducible refine (State.regs_posted_foldl _ _ _ (fun _ _ => ?_)).trans ?_ | with_reducible refine (State.fd_mem_foldl _ _ _ (fun _ _ => ?_)).trans ?_ | with_reducible refine (State.dm_sram_foldl _ _ _ (fun _ _ => ?_)).trans ?_ | with_reducible refine (State.sq_frameNo_foldl _ _ _ (fun _ _ => ?_)).trans ?_ | with_reducible refine (State.sq_inScan_foldl _ _ _ (fun _ _ => ?_)).trans ?_ | with_reducible refine (State.sq_nextBoundary_foldl _ _ _ (fun _ _ => ?_)).trans ?_ | with_reducible refine (State.pw_gate_foldl _ _ _ (fun _ _ => ?_)).trans ?_ | (dsimp only; first | split | with_reducible refine (State.regs_setA_foldl _ _ _ (fun _ _ => ?_)).trans ?_ | with_reducible refine (State.regs_setB_foldl _ _ _ (fun _ _ => ?_)).trans ?_ | with_reducible refine (State.regs_one_foldl _ _ _ (fun _ _ => ?_)).trans ?_ | with_reducible refine (State.regs_rsvd_foldl _ _ _ (fun _ _ => ?_)).trans ?_ | with_reducible refine (State.regs_waiting_foldl _ _ _ (fun _ _ => ?_)).trans ?_ | with_reducible refine (State.regs_stale_foldl _ _ _ (fun _ _ => ?_)).trans ?_ | with_reducible refine (State.regs_posted_foldl _ _ _ (fun _ _ => ?_)).trans ?_ | with_reducible refine (State.fd_mem_foldl _ _ _ (fun _ _ => ?_)).trans ?_ | with_reducible refine (State.dm_sram_foldl _ _ _ (fun _ _ => ?_)).trans ?_ | with_reducible refine (State.sq_frameNo_foldl _ _ _ (fun _ _ => ?_)).trans ?_ | with_reducible refine (State.sq_inScan_foldl _ _ _ (fun _ _ => ?_)).trans ?_ | with_reducible refine (State.sq_nextBoundary_foldl _ _ _ (fun _ _ => ?_)).trans ?_ | with_reducible refine (State.pw_gate_foldl _ _ _ (fun _ _ => ?_)).trans ?_)))

@[simp] theorem State.readRecords_parts (s : State) (formats : RecordFormats) :
    (s.readRecords formats).regs.setA = s.regs.setA ∧ (s.readRecords formats).regs.setB = s.regs.setB ∧
    (s.readRecords formats).regs.one = s.regs.one ∧ (s.readRecords formats).regs.rsvd = s.regs.rsvd ∧
    (s.readRecords formats).regs.waiting = s.regs.waiting ∧ (s.readRecords formats).regs.stale = s.regs.stale ∧
    (s.readRecords formats).regs.posted = s.regs.posted ∧ (s.readRecords formats).pw.gate = s.pw.gate := by
  and_intros <;> (unfold State.readRecords; repeat' (first | with_reducible rfl | (simp; done) | split | with_reducible refine (State.regs_setA_foldl _ _ _ (fun _ _ => ?_)).trans ?_ | with_reducible refine (State.regs_setB_foldl _ _ _ (fun _ _ => ?_)).trans ?_ | with_reducible refine (State.regs_one_foldl _ _ _ (fun _ _ => ?_)).trans ?_ | with_reducible refine (State.regs_rsvd_foldl _ _ _ (fun _ _ => ?_)).trans ?_ | with_reducible refine (State.regs_waiting_foldl _ _ _ (fun _ _ => ?_)).trans ?_ | with_reducible refine (State.regs_stale_foldl _ _ _ (fun _ _ => ?_)).trans ?_ | with_reducible refine (State.regs_posted_foldl _ _ _ (fun _ _ => ?_)).trans ?_ | with_reducible refine (State.fd_mem_foldl _ _ _ (fun _ _ => ?_)).trans ?_ | with_reducible refine (State.dm_sram_foldl _ _ _ (fun _ _ => ?_)).trans ?_ | with_reducible refine (State.sq_frameNo_foldl _ _ _ (fun _ _ => ?_)).trans ?_ | with_reducible refine (State.sq_inScan_foldl _ _ _ (fun _ _ => ?_)).trans ?_ | with_reducible refine (State.sq_nextBoundary_foldl _ _ _ (fun _ _ => ?_)).trans ?_ | with_reducible refine (State.pw_gate_foldl _ _ _ (fun _ _ => ?_)).trans ?_ | (dsimp only; first | split | with_reducible refine (State.regs_setA_foldl _ _ _ (fun _ _ => ?_)).trans ?_ | with_reducible refine (State.regs_setB_foldl _ _ _ (fun _ _ => ?_)).trans ?_ | with_reducible refine (State.regs_one_foldl _ _ _ (fun _ _ => ?_)).trans ?_ | with_reducible refine (State.regs_rsvd_foldl _ _ _ (fun _ _ => ?_)).trans ?_ | with_reducible refine (State.regs_waiting_foldl _ _ _ (fun _ _ => ?_)).trans ?_ | with_reducible refine (State.regs_stale_foldl _ _ _ (fun _ _ => ?_)).trans ?_ | with_reducible refine (State.regs_posted_foldl _ _ _ (fun _ _ => ?_)).trans ?_ | with_reducible refine (State.fd_mem_foldl _ _ _ (fun _ _ => ?_)).trans ?_ | with_reducible refine (State.dm_sram_foldl _ _ _ (fun _ _ => ?_)).trans ?_ | with_reducible refine (State.sq_frameNo_foldl _ _ _ (fun _ _ => ?_)).trans ?_ | with_reducible refine (State.sq_inScan_foldl _ _ _ (fun _ _ => ?_)).trans ?_ | with_reducible refine (State.sq_nextBoundary_foldl _ _ _ (fun _ _ => ?_)).trans ?_ | with_reducible refine (State.pw_gate_foldl _ _ _ (fun _ _ => ?_)).trans ?_)))

@[simp] theorem State.loadFuses_parts (s : State) :
    (s.loadFuses).regs.setA = s.regs.setA ∧ (s.loadFuses).regs.setB = s.regs.setB ∧ (s.loadFuses).regs.one = s.regs.one ∧
    (s.loadFuses).regs.rsvd = s.regs.rsvd ∧ (s.loadFuses).regs.waiting = s.regs.waiting ∧
    (s.loadFuses).regs.stale = s.regs.stale ∧ (s.loadFuses).regs.posted = s.regs.posted := by
  and_intros <;> (unfold State.loadFuses; repeat' (first | with_reducible rfl | (simp; done) | split | with_reducible refine (State.regs_setA_foldl _ _ _ (fun _ _ => ?_)).trans ?_ | with_reducible refine (State.regs_setB_foldl _ _ _ (fun _ _ => ?_)).trans ?_ | with_reducible refine (State.regs_one_foldl _ _ _ (fun _ _ => ?_)).trans ?_ | with_reducible refine (State.regs_rsvd_foldl _ _ _ (fun _ _ => ?_)).trans ?_ | with_reducible refine (State.regs_waiting_foldl _ _ _ (fun _ _ => ?_)).trans ?_ | with_reducible refine (State.regs_stale_foldl _ _ _ (fun _ _ => ?_)).trans ?_ | with_reducible refine (State.regs_posted_foldl _ _ _ (fun _ _ => ?_)).trans ?_ | with_reducible refine (State.fd_mem_foldl _ _ _ (fun _ _ => ?_)).trans ?_ | with_reducible refine (State.dm_sram_foldl _ _ _ (fun _ _ => ?_)).trans ?_ | with_reducible refine (State.sq_frameNo_foldl _ _ _ (fun _ _ => ?_)).trans ?_ | with_reducible refine (State.sq_inScan_foldl _ _ _ (fun _ _ => ?_)).trans ?_ | with_reducible refine (State.sq_nextBoundary_foldl _ _ _ (fun _ _ => ?_)).trans ?_ | with_reducible refine (State.pw_gate_foldl _ _ _ (fun _ _ => ?_)).trans ?_ | (dsimp only; first | split | with_reducible refine (State.regs_setA_foldl _ _ _ (fun _ _ => ?_)).trans ?_ | with_reducible refine (State.regs_setB_foldl _ _ _ (fun _ _ => ?_)).trans ?_ | with_reducible refine (State.regs_one_foldl _ _ _ (fun _ _ => ?_)).trans ?_ | with_reducible refine (State.regs_rsvd_foldl _ _ _ (fun _ _ => ?_)).trans ?_ | with_reducible refine (State.regs_waiting_foldl _ _ _ (fun _ _ => ?_)).trans ?_ | with_reducible refine (State.regs_stale_foldl _ _ _ (fun _ _ => ?_)).trans ?_ | with_reducible refine (State.regs_posted_foldl _ _ _ (fun _ _ => ?_)).trans ?_ | with_reducible refine (State.fd_mem_foldl _ _ _ (fun _ _ => ?_)).trans ?_ | with_reducible refine (State.dm_sram_foldl _ _ _ (fun _ _ => ?_)).trans ?_ | with_reducible refine (State.sq_frameNo_foldl _ _ _ (fun _ _ => ?_)).trans ?_ | with_reducible refine (State.sq_inScan_foldl _ _ _ (fun _ _ => ?_)).trans ?_ | with_reducible refine (State.sq_nextBoundary_foldl _ _ _ (fun _ _ => ?_)).trans ?_ | with_reducible refine (State.pw_gate_foldl _ _ _ (fun _ _ => ?_)).trans ?_)))

@[simp] theorem State.restoreFails_parts (s : State) :
    (s.restoreFails).pw.gate = s.pw.gate := by
  unfold State.restoreFails; repeat' (first | with_reducible rfl | (simp; done) | split | with_reducible refine (State.regs_setA_foldl _ _ _ (fun _ _ => ?_)).trans ?_ | with_reducible refine (State.regs_setB_foldl _ _ _ (fun _ _ => ?_)).trans ?_ | with_reducible refine (State.regs_one_foldl _ _ _ (fun _ _ => ?_)).trans ?_ | with_reducible refine (State.regs_rsvd_foldl _ _ _ (fun _ _ => ?_)).trans ?_ | with_reducible refine (State.regs_waiting_foldl _ _ _ (fun _ _ => ?_)).trans ?_ | with_reducible refine (State.regs_stale_foldl _ _ _ (fun _ _ => ?_)).trans ?_ | with_reducible refine (State.regs_posted_foldl _ _ _ (fun _ _ => ?_)).trans ?_ | with_reducible refine (State.fd_mem_foldl _ _ _ (fun _ _ => ?_)).trans ?_ | with_reducible refine (State.dm_sram_foldl _ _ _ (fun _ _ => ?_)).trans ?_ | with_reducible refine (State.sq_frameNo_foldl _ _ _ (fun _ _ => ?_)).trans ?_ | with_reducible refine (State.sq_inScan_foldl _ _ _ (fun _ _ => ?_)).trans ?_ | with_reducible refine (State.sq_nextBoundary_foldl _ _ _ (fun _ _ => ?_)).trans ?_ | with_reducible refine (State.pw_gate_foldl _ _ _ (fun _ _ => ?_)).trans ?_ | (dsimp only; first | split | with_reducible refine (State.regs_setA_foldl _ _ _ (fun _ _ => ?_)).trans ?_ | with_reducible refine (State.regs_setB_foldl _ _ _ (fun _ _ => ?_)).trans ?_ | with_reducible refine (State.regs_one_foldl _ _ _ (fun _ _ => ?_)).trans ?_ | with_reducible refine (State.regs_rsvd_foldl _ _ _ (fun _ _ => ?_)).trans ?_ | with_reducible refine (State.regs_waiting_foldl _ _ _ (fun _ _ => ?_)).trans ?_ | with_reducible refine (State.regs_stale_foldl _ _ _ (fun _ _ => ?_)).trans ?_ | with_reducible refine (State.regs_posted_foldl _ _ _ (fun _ _ => ?_)).trans ?_ | with_reducible refine (State.fd_mem_foldl _ _ _ (fun _ _ => ?_)).trans ?_ | with_reducible refine (State.dm_sram_foldl _ _ _ (fun _ _ => ?_)).trans ?_ | with_reducible refine (State.sq_frameNo_foldl _ _ _ (fun _ _ => ?_)).trans ?_ | with_reducible refine (State.sq_inScan_foldl _ _ _ (fun _ _ => ?_)).trans ?_ | with_reducible refine (State.sq_nextBoundary_foldl _ _ _ (fun _ _ => ?_)).trans ?_ | with_reducible refine (State.pw_gate_foldl _ _ _ (fun _ _ => ?_)).trans ?_))

@[simp] theorem State.bootReports_parts (s : State) :
    (s.bootReports).pw.gate = s.pw.gate := by
  unfold State.bootReports; repeat' (first | with_reducible rfl | (simp; done) | split | with_reducible refine (State.regs_setA_foldl _ _ _ (fun _ _ => ?_)).trans ?_ | with_reducible refine (State.regs_setB_foldl _ _ _ (fun _ _ => ?_)).trans ?_ | with_reducible refine (State.regs_one_foldl _ _ _ (fun _ _ => ?_)).trans ?_ | with_reducible refine (State.regs_rsvd_foldl _ _ _ (fun _ _ => ?_)).trans ?_ | with_reducible refine (State.regs_waiting_foldl _ _ _ (fun _ _ => ?_)).trans ?_ | with_reducible refine (State.regs_stale_foldl _ _ _ (fun _ _ => ?_)).trans ?_ | with_reducible refine (State.regs_posted_foldl _ _ _ (fun _ _ => ?_)).trans ?_ | with_reducible refine (State.fd_mem_foldl _ _ _ (fun _ _ => ?_)).trans ?_ | with_reducible refine (State.dm_sram_foldl _ _ _ (fun _ _ => ?_)).trans ?_ | with_reducible refine (State.sq_frameNo_foldl _ _ _ (fun _ _ => ?_)).trans ?_ | with_reducible refine (State.sq_inScan_foldl _ _ _ (fun _ _ => ?_)).trans ?_ | with_reducible refine (State.sq_nextBoundary_foldl _ _ _ (fun _ _ => ?_)).trans ?_ | with_reducible refine (State.pw_gate_foldl _ _ _ (fun _ _ => ?_)).trans ?_ | (dsimp only; first | split | with_reducible refine (State.regs_setA_foldl _ _ _ (fun _ _ => ?_)).trans ?_ | with_reducible refine (State.regs_setB_foldl _ _ _ (fun _ _ => ?_)).trans ?_ | with_reducible refine (State.regs_one_foldl _ _ _ (fun _ _ => ?_)).trans ?_ | with_reducible refine (State.regs_rsvd_foldl _ _ _ (fun _ _ => ?_)).trans ?_ | with_reducible refine (State.regs_waiting_foldl _ _ _ (fun _ _ => ?_)).trans ?_ | with_reducible refine (State.regs_stale_foldl _ _ _ (fun _ _ => ?_)).trans ?_ | with_reducible refine (State.regs_posted_foldl _ _ _ (fun _ _ => ?_)).trans ?_ | with_reducible refine (State.fd_mem_foldl _ _ _ (fun _ _ => ?_)).trans ?_ | with_reducible refine (State.dm_sram_foldl _ _ _ (fun _ _ => ?_)).trans ?_ | with_reducible refine (State.sq_frameNo_foldl _ _ _ (fun _ _ => ?_)).trans ?_ | with_reducible refine (State.sq_inScan_foldl _ _ _ (fun _ _ => ?_)).trans ?_ | with_reducible refine (State.sq_nextBoundary_foldl _ _ _ (fun _ _ => ?_)).trans ?_ | with_reducible refine (State.pw_gate_foldl _ _ _ (fun _ _ => ?_)).trans ?_))

end Sys2Proof.Machine
end

