-- ==== Sys2Proof/Laws/Ops.lean ====
section
/-!
SUPPORT. What the operations over tables and register fields do: a read after a write, other places untouched, the canonical form kept.
-/

namespace Sys2Proof.Machine

/-! ### Tables -/

theorem Tab.look_insert_same {α : Type} (l : List (Nat × α)) (d : α) (k : Nat) (v : α) :
    Tab.look (Tab.insert l k v) d k = v := by
  induction l with
  | nil => simp [Tab.insert, Tab.look]
  | cons c r ih =>
    obtain ⟨k', v'⟩ := c
    unfold Tab.insert
    split
    · simp [Tab.look]
    · split
      · simp [Tab.look]
      · rename_i h; simp [Tab.look, Ne.symm h, ih]

theorem Tab.look_insert_ne {α : Type} (l : List (Nat × α)) (d : α) {k k' : Nat} (v : α) (h : k' ≠ k) :
    Tab.look (Tab.insert l k v) d k' = Tab.look l d k' := by
  induction l with
  | nil => simp [Tab.insert, Tab.look, Ne.symm h]
  | cons c r ih =>
    obtain ⟨k₁, v₁⟩ := c
    unfold Tab.insert
    split
    · simp [Tab.look, Ne.symm h]
    · split
      · subst_vars; simp [Tab.look, Ne.symm h]
      · simp [Tab.look, ih]

theorem Tab.look_erase_same {α : Type} (l : List (Nat × α)) (d : α) (k : Nat) :
    Tab.look (Tab.erase l k) d k = d := by
  induction l with
  | nil => rfl
  | cons c r ih =>
    obtain ⟨k₁, v₁⟩ := c
    by_cases h : k₁ = k
    · subst h; simpa [Tab.erase] using ih
    · have : Tab.erase ((k₁, v₁) :: r) k = (k₁, v₁) :: Tab.erase r k := by simp [Tab.erase, h]
      rw [this]; simp [Tab.look, h, ih]

theorem Tab.look_erase_ne {α : Type} (l : List (Nat × α)) (d : α) {k k' : Nat} (h : k' ≠ k) :
    Tab.look (Tab.erase l k) d k' = Tab.look l d k' := by
  induction l with
  | nil => rfl
  | cons c r ih =>
    obtain ⟨k₁, v₁⟩ := c
    by_cases h₁ : k₁ = k
    · have : Tab.erase ((k₁, v₁) :: r) k = Tab.erase r k := by simp [Tab.erase, h₁]
      rw [this, ih]; simp [Tab.look, h₁, Ne.symm h]
    · have : Tab.erase ((k₁, v₁) :: r) k = (k₁, v₁) :: Tab.erase r k := by simp [Tab.erase, h₁]
      rw [this]; simp [Tab.look, ih]

@[simp] theorem Tab.get_set_same {α : Type} [DecidableEq α] (m : Tab α) (d : α) (k : Nat) (v : α) :
    (Tab.set m d k v).get d k = v := by
  unfold Tab.set Tab.get
  split
  · subst_vars; exact Tab.look_erase_same _ _ _
  · exact Tab.look_insert_same _ _ _ _

/-- A write leaves every other place alone, whatever either place reads as when unlisted. -/
theorem Tab.get_set_ne {α : Type} [DecidableEq α] (m : Tab α) (d d' : α) {k k' : Nat} (v : α) (h : k' ≠ k) :
    (Tab.set m d k v).get d' k' = m.get d' k' := by
  unfold Tab.set Tab.get
  split
  · exact Tab.look_erase_ne _ _ h
  · exact Tab.look_insert_ne _ _ _ h

theorem Tab.get_set {α : Type} [DecidableEq α] (m : Tab α) (d : α) (k k' : Nat) (v : α) :
    (Tab.set m d k v).get d k' = if k' = k then v else m.get d k' := by
  split
  · subst_vars; simp
  · exact Tab.get_set_ne _ _ _ _ ‹_›

theorem Tab.rising_mono {α : Type} (l : List (Nat × α)) {m n : Nat} (h : m ≤ n) (hr : Tab.rising n l = true) :
    Tab.rising m l = true := by
  cases l with
  | nil => rfl
  | cons c r =>
    obtain ⟨k, v⟩ := c
    simp only [Tab.rising, Bool.and_eq_true, decide_eq_true_eq] at hr ⊢
    exact ⟨by omega, hr.2⟩

theorem Tab.rising_erase {α : Type} (l : List (Nat × α)) (k n : Nat) (hr : Tab.rising n l = true) :
    Tab.rising n (Tab.erase l k) = true := by
  induction l generalizing n with
  | nil => rfl
  | cons c r ih =>
    obtain ⟨k₁, v₁⟩ := c
    simp only [Tab.rising, Bool.and_eq_true, decide_eq_true_eq] at hr
    by_cases h : k₁ = k
    · have : Tab.erase ((k₁, v₁) :: r) k = Tab.erase r k := by simp [Tab.erase, h]
      rw [this]; exact ih n (Tab.rising_mono r (by omega) hr.2)
    · have : Tab.erase ((k₁, v₁) :: r) k = (k₁, v₁) :: Tab.erase r k := by simp [Tab.erase, h]
      rw [this]; simpa [Tab.rising] using ⟨hr.1, ih _ hr.2⟩

theorem Tab.rising_insert {α : Type} (l : List (Nat × α)) (k n : Nat) (v : α) (hk : n ≤ k) (hr : Tab.rising n l = true) :
    Tab.rising n (Tab.insert l k v) = true := by
  induction l generalizing n with
  | nil => simp [Tab.insert, Tab.rising, hk]
  | cons c r ih =>
    obtain ⟨k₁, v₁⟩ := c
    simp only [Tab.rising, Bool.and_eq_true, decide_eq_true_eq] at hr
    unfold Tab.insert
    split
    · simpa [Tab.rising, hk] using ⟨by omega, hr.2⟩
    · split
      · subst_vars; simpa [Tab.rising, hk] using hr.2
      · simpa [Tab.rising, hr.1] using ih (k₁ + 1) (by omega) hr.2

theorem Tab.mem_insert {α : Type} {l : List (Nat × α)} {k : Nat} {v : α} {c : Nat × α} (h : c ∈ Tab.insert l k v) :
    c = (k, v) ∨ c ∈ l := by
  induction l with
  | nil => simpa [Tab.insert] using h
  | cons c₁ r ih =>
    obtain ⟨k₁, v₁⟩ := c₁
    unfold Tab.insert at h
    split at h
    · simpa using h
    · split at h
      · subst_vars; simp only [List.mem_cons] at h ⊢; tauto
      · simp only [List.mem_cons] at h ⊢
        rcases h with h | h
        · exact .inr (.inl h)
        · rcases ih h with h | h <;> tauto

/-- Every write keeps the canonical form. -/
theorem Tab.set_wf {α : Type} [DecidableEq α] (m : Tab α) (d : α) (k : Nat) (v : α) (h : m.wf d = true) :
    (Tab.set m d k v).wf d = true := by
  simp only [Tab.wf, Bool.and_eq_true, List.all_eq_true, decide_eq_true_eq] at h ⊢
  unfold Tab.set
  split
  · exact ⟨Tab.rising_erase _ _ _ h.1, fun c hc => h.2 c (List.mem_of_mem_filter hc)⟩
  · refine ⟨Tab.rising_insert _ _ _ _ (Nat.zero_le _) h.1, fun c hc => ?_⟩
    rcases Tab.mem_insert hc with rfl | hc
    · assumption
    · exact h.2 c hc

/-! ### Register fields -/

@[simp] theorem State.h_setH_same (s : State) (f : Fld) (x : Nat) : (s.setH f x).h f = min x f.top := by
  simp [State.h, State.setH]

theorem State.h_setH_ne (s : State) (f g : Fld) (x : Nat) (h : g.key ≠ f.key) : (s.setH f x).h g = s.h g := by
  simp [State.h, State.setH, Tab.get_set_ne _ _ _ _ h]

@[simp] theorem State.h_note (s : State) (f g : Fld) (x : Nat) : (s.note f x).h g = s.h g := rfl

@[simp] theorem State.h_flag_same (s : State) (f : Fld) (b : Bool) : (s.flag f b).h f = min (if b then 1 else 0) f.top := by
  simp [State.flag]

theorem State.h_add_same (s : State) (f : Fld) (n : Nat) : (s.add f n).h f = min (s.h f + n) f.top := by
  simp [State.add]

@[simp] theorem State.oneReg_setOne_same (s : State) (a : Nat) (v : Score) : (s.setOne a v).oneReg a = v := by
  simp [State.oneReg, State.setOne]

theorem State.oneReg_setOne_ne (s : State) (a b : Nat) (v : Score) (h : b ≠ a) : (s.setOne a v).oneReg b = s.oneReg b := by
  simp [State.oneReg, State.setOne, Tab.get_set_ne _ _ _ _ h]

/-- Setting a list of fields leaves every field outside the list as it was. -/
theorem State.h_setAll_of_not_mem (s : State) (v : Fld → Nat) (fs : List Fld) (g : Fld) (h : ∀ f ∈ fs, g.key ≠ f.key) :
    (fs.foldl (fun x f => x.setH f (v f)) s).h g = s.h g := by
  induction fs generalizing s with
  | nil => rfl
  | cons f r ih =>
    rw [List.foldl_cons, ih _ fun x hx => h x (List.mem_cons_of_mem _ hx)]
    exact State.h_setH_ne _ _ _ _ (h f List.mem_cons_self)

/-- Setting a list of fields leaves in each of them its value, limited to its width. -/
theorem State.h_setAll_of_mem (s : State) (v : Fld → Nat) (fs : List Fld) (g : Fld) (hg : g ∈ fs) (hk : (fs.map Fld.key).Nodup) :
    (fs.foldl (fun x f => x.setH f (v f)) s).h g = min (v g) g.top := by
  induction fs generalizing s with
  | nil => simp at hg
  | cons f r ih =>
    rw [List.foldl_cons]
    simp only [List.map_cons, List.nodup_cons] at hk
    rcases List.mem_cons.mp hg with rfl | hr
    · rw [State.h_setAll_of_not_mem _ v r g fun x hx he => hk.1 (he ▸ List.mem_map_of_mem hx), State.h_setH_same]
    · rw [ih _ hr hk.2]

/-- Clearing a list of counters leaves every field outside the list as it was. -/
theorem State.h_clear_of_not_mem (s : State) (fs : List Fld) (g : Fld) (h : ∀ f ∈ fs, g.key ≠ f.key) : (s.clear fs).h g = s.h g :=
  State.h_setAll_of_not_mem s s.recentCount fs g h

/-- Clearing a list of counters leaves in each of them what has arrived in the present island cycle. -/
theorem State.h_clear_of_mem (s : State) (fs : List Fld) (g : Fld) (hg : g ∈ fs) (hk : (fs.map Fld.key).Nodup) :
    (s.clear fs).h g = min (s.recentCount g) g.top :=
  State.h_setAll_of_mem s s.recentCount fs g hg hk

/-- Where nothing has arrived in the present island cycle, a clear makes each counter of the list 0. -/
theorem State.h_clear_zero (s : State) (fs : List Fld) (g : Fld) (hg : g ∈ fs) (hk : (fs.map Fld.key).Nodup) (h0 : s.recentCount g = 0) :
    (s.clear fs).h g = 0 := by
  rw [State.h_clear_of_mem s fs g hg hk, h0, Nat.zero_min]

/-! ### Commands of a block -/

/-- A command of a block, said once: it always answers a next state, in which the queue, the phase and what holds the die are as before
and the clock stands at the command's instant. -/
theorem State.runIf_next (s : State) (b : Bool) (t : Nat) (f : State → State) :
    ∃ x, s.runIf b t f = .next x ∧ x.pending = s.pending ∧ x.now = max s.now t ∧ x.phase = s.phase ∧ x.pw.gate = s.pw.gate :=
  ⟨_, rfl, rfl, rfl, rfl, rfl⟩

theorem State.run_ready (s : State) (t : Nat) (f : State → State) (h : s.phase = .ready) :
    s.run t f = .next (s.keep t (f (s.clock t))) := by
  simp [State.run, State.runIf, State.live, h]

end Sys2Proof.Machine
end

