-- ==== Sys2Proof/Laws/Memory.lean ====
section
/-!
SUPPORT. The fold memory and the SRAM keep their canonical form under the operations that write them; a bin reads back, and writing
one leaves every other bin alone.
-/

namespace Sys2Proof.Machine

theorem Tab.rising_filter {α : Type} (p : Nat × α → Bool) (l : List (Nat × α)) (n : Nat) (h : Tab.rising n l = true) :
    Tab.rising n (l.filter p) = true := by
  induction l generalizing n with
  | nil => rfl
  | cons c r ih =>
    obtain ⟨k, v⟩ := c
    simp only [Tab.rising, Bool.and_eq_true, decide_eq_true_eq] at h
    cases hp : p (k, v)
    · rw [List.filter_cons_of_neg (by simp [hp])]
      exact Tab.rising_mono _ (Nat.le_succ_of_le h.1) (ih (k + 1) h.2)
    · rw [List.filter_cons_of_pos hp]
      simp only [Tab.rising, Bool.and_eq_true, decide_eq_true_eq]
      exact ⟨h.1, ih (k + 1) h.2⟩

/-- Dropping entries keeps the canonical form. -/
theorem Tab.filter_wf {α : Type} [DecidableEq α] (m : Tab α) (d : α) (p : Nat × α → Bool) (h : m.wf d = true) :
    (⟨m.cells.filter p⟩ : Tab α).wf d = true := by
  simp only [Tab.wf, Bool.and_eq_true, List.all_eq_true] at h ⊢
  exact ⟨Tab.rising_filter _ _ _ h.1, fun c hc => h.2 c (List.mem_filter.mp hc).1⟩

/-- A run of writes keeps the canonical form. -/
theorem Tab.foldl_set_wf {α : Type} [DecidableEq α] (d : α) (l : List (Nat × α)) (m : Tab α) (h : m.wf d = true) :
    (l.foldl (fun m x => Tab.set m d x.1 x.2) m).wf d = true := by
  induction l generalizing m with
  | nil => exact h
  | cons x r ih => exact ih _ (Tab.set_wf m d x.1 x.2 h)

theorem State.setBin_wf (s : State) (a v : Nat) (h : s.fd.mem.wf 0 = true) : (s.setBin a v).fd.mem.wf 0 = true :=
  Tab.set_wf s.fd.mem 0 a v h

theorem State.zeroBins_wf (s : State) (start len : Nat) (h : s.fd.mem.wf 0 = true) : (s.zeroBins start len).fd.mem.wf 0 = true :=
  Tab.filter_wf s.fd.mem 0 _ h

@[simp] theorem State.bin_setBin_same (s : State) (a v : Nat) : (s.setBin a v).bin a = v := by
  simp [State.bin, State.setBin]

theorem State.bin_setBin_ne (s : State) (a b v : Nat) (h : b ≠ a) : (s.setBin a v).bin b = s.bin b := by
  simp [State.bin, State.setBin, Tab.get_set_ne _ _ _ _ h]

end Sys2Proof.Machine
end

