-- ==== Sys2Proof/Laws/PerInstr.lean ====
section
/-!
SUPPORT. Per command: whether a command is well formed does not depend on the instant at which it arrives.
-/

namespace Sys2Proof

/-- The same command at another instant. -/
def Instr.retime (i : Instr) (at_ : Nat) : Instr :=
  match i with
  | .frameBoundary _ => .frameBoundary at_
  | .scanEnd _ => .scanEnd at_
  | .shotCycleEnd _ => .shotCycleEnd at_
  | .referenceFail _ which => .referenceFail at_ which
  | .referenceRecovery _ a b => .referenceRecovery at_ a b
  | .islandStall _ waiting silent => .islandStall at_ waiting silent
  | .comparatorReturn _ c r => .comparatorReturn at_ c r
  | .clampEngage _ c => .clampEngage at_ c
  | .clampRelease _ c => .clampRelease at_ c
  | .blankingEnd _ c => .blankingEnd at_ c
  | .rxRecovery _ c => .rxRecovery at_ c
  | .xtkWindowClose _ tile => .xtkWindowClose at_ tile
  | .baselineUpdate _ c nanoamp => .baselineUpdate at_ c nanoamp
  | .windowOpen _ c shot coarse => .windowOpen at_ c shot coarse
  | .windowClose _ c => .windowClose at_ c
  | .tileQueueDrain _ tile => .tileQueueDrain at_ tile
  | .tileUnlock _ tile => .tileUnlock at_ tile
  | .tileRelock _ tile => .tileRelock at_ tile
  | .samplerCaptureStart _ tile => .samplerCaptureStart at_ tile
  | .samplerCaptureComplete _ tile microvolts => .samplerCaptureComplete at_ tile microvolts
  | .perShotCalibration _ c codes strobe => .perShotCalibration at_ c codes strobe
  | .ffbEdge _ e edge cal => .ffbEdge at_ e edge cal
  | .ffbMissing _ e => .ffbMissing at_ e
  | .stStart _ u => .stStart at_ u
  | .stStop _ u => .stStop at_ u
  | .shepherdSnapshot _ => .shepherdSnapshot at_
  | .shotCycleStart _ => .shotCycleStart at_
  | .shotCommit _ => .shotCommit at_
  | .governorReleaseCheck _ => .governorReleaseCheck at_
  | .externalStart _ src => .externalStart at_ src
  | .tlCntClr _ tile => .tlCntClr at_ tile
  | .teCntClr _ tile => .teCntClr at_ tile
  | .sqCntClr _ => .sqCntClr at_
  | .footprintClearEnd _ p => .footprintClearEnd at_ p
  | .shotDescriptorReceive _ => .shotDescriptorReceive at_
  | .eventIntake _ p => .eventIntake at_ p
  | .coalesceEntry _ k port => .coalesceEntry at_ k port
  | .bankRmw _ bank => .bankRmw at_ bank
  | .ageDrop _ k port => .ageDrop at_ k port
  | .closeTokenArrival _ p => .closeTokenArrival at_ p
  | .bufferRelease _ p => .bufferRelease at_ p
  | .tokenTimeout _ p => .tokenTimeout at_ p
  | .suspectEnd _ => .suspectEnd at_
  | .histogramDispatch _ c => .histogramDispatch at_ c
  | .bufferClean _ c => .bufferClean at_ c
  | .recordWrite _ c => .recordWrite at_ c
  | .markPlace _ => .markPlace at_
  | .fdCntClr _ => .fdCntClr at_
  | .exCntClr _ => .exCntClr at_
  | .servoSample _ a => .servoSample at_ a
  | .handoverForced _ a => .handoverForced at_ a
  | .trajectoryPeriodEnd _ a => .trajectoryPeriodEnd at_ a
  | .acqTimeout _ a => .acqTimeout at_ a
  | .servoSensorLost _ a => .servoSensorLost at_ a
  | .servoOsc _ a => .servoOsc at_ a
  | .svInjStart _ a => .svInjStart at_ a
  | .svInjStop _ a => .svInjStop at_ a
  | .injectionEnd _ a => .injectionEnd at_ a
  | .svCntClr _ => .svCntClr at_
  | .converterOutput _ p primary secondary => .converterOutput at_ p primary secondary
  | .modulatorOverload _ p positive => .modulatorOverload at_ p positive
  | .secondaryOverload _ p => .secondaryOverload at_ p
  | .excitationSwitch _ src => .excitationSwitch at_ src
  | .excitationBlankEnd _ c => .excitationBlankEnd at_ c
  | .syncDecEdge _ widthNs => .syncDecEdge at_ widthNs
  | .axSync _ => .axSync at_
  | .firWrite _ p tap v => .firWrite at_ p tap v
  | .impedanceCheckStart _ c => .impedanceCheckStart at_ c
  | .impedanceCheckEnd _ c nanovolt => .impedanceCheckEnd at_ c nanovolt
  | .axCntClr _ => .axCntClr at_
  | .aqArm _ b => .aqArm at_ b
  | .aqAbort _ b => .aqAbort at_ b
  | .aqForce _ units => .aqForce at_ units
  | .triggerHoldEnd _ u => .triggerHoldEnd at_ u
  | .aqRdDataRead _ b => .aqRdDataRead at_ b
  | .aqHistDataRead _ b => .aqHistDataRead at_ b
  | .aqCntClr _ => .aqCntClr at_
  | .pwmPeriodEnd _ c ilsMv => .pwmPeriodEnd at_ c ilsMv
  | .lampMeasurement _ c mv => .lampMeasurement at_ c mv
  | .lampShortDetect _ ils => .lampShortDetect at_ ils
  | .ilRestart _ c => .ilRestart at_ c
  | .csyncEdge _ n level widthNs => .csyncEdge at_ n level widthNs
  | .diagnosticPulse _ c => .diagnosticPulse at_ c
  | .lampUnverified _ c => .lampUnverified at_ c
  | .lampTempLost _ g => .lampTempLost at_ g
  | .ilCntClr _ => .ilCntClr at_
  | .laneEnergyDetect _ l => .laneEnergyDetect at_ l
  | .laneClockLock _ l ppm => .laneClockLock at_ l ppm
  | .laneAlign _ l m1 m2 m3 => .laneAlign at_ l m1 m2 m3
  | .trainingScore _ l t0 => .trainingScore at_ l t0
  | .laneRateSwitch _ l => .laneRateSwitch at_ l
  | .deskewDone _ l skew => .deskewDone at_ l skew
  | .trainingTimeout _ l => .trainingTimeout at_ l
  | .retrain _ l => .retrain at_ l
  | .laneDown _ l => .laneDown at_ l
  | .markerReceive _ l first marker line after cycles => .markerReceive at_ l first marker line after cycles
  | .fillBlockReceive _ l cycles => .fillBlockReceive at_ l cycles
  | .fillBlockSend _ l => .fillBlockSend at_ l
  | .eidleRequest _ l => .eidleRequest at_ l
  | .eidleExit _ l => .eidleExit at_ l
  | .deepRequest _ l => .deepRequest at_ l
  | .wakeDetect _ l => .wakeDetect at_ l
  | .quadRefSwitch _ q otherGood => .quadRefSwitch at_ q otherGood
  | .baserLinkChange _ l pcs corrected uncorrected => .baserLinkChange at_ l pcs corrected uncorrected
  | .lnCntClr _ q => .lnCntClr at_ q
  | .capsSend _ l => .capsSend at_ l
  | .capsReceive _ l => .capsReceive at_ l
  | .helloSend _ l => .helloSend at_ l
  | .helloReceive _ src => .helloReceive at_ src
  | .detach _ ix => .detach at_ ix
  | .consistReceive _ src => .consistReceive at_ src
  | .planAnnSend _ => .planAnnSend at_
  | .planAnnReceive _ src ann => .planAnnReceive at_ src ann
  | .planActivation _ => .planActivation at_
  | .planTimeout _ => .planTimeout at_
  | .endshotReceive _ l => .endshotReceive at_ l
  | .hevtReceive _ l => .hevtReceive at_ l
  | .headTimeRequest _ h => .headTimeRequest at_ h
  | .timeReplyReceive _ l => .timeReplyReceive at_ l
  | .timeReplyTimeout _ h => .timeReplyTimeout at_ h
  | .trigReceive _ l => .trigReceive at_ l
  | .subExpired _ ix => .subExpired at_ ix
  | .ptpSyncReceive _ m origin => .ptpSyncReceive at_ m origin
  | .ptpSyncTimeout _ => .ptpSyncTimeout at_
  | .eventReport _ => .eventReport at_
  | .eventMergeEnd _ => .eventMergeEnd at_
  | .eventPacketSend _ ix => .eventPacketSend at_ ix
  | .eventPacketReceive _ src => .eventPacketReceive at_ src
  | .packetDiscard _ src => .packetDiscard at_ src
  | .ptpAnnounceReceive _ m ann => .ptpAnnounceReceive at_ m ann
  | .ptpDelayRespReceive _ m sent received => .ptpDelayRespReceive at_ m sent received
  | .flCntClr _ => .flCntClr at_
  | .epTimeRead _ => .epTimeRead at_
  | .siRecordTake _ ix => .siRecordTake at_ ix
  | .resultCrossCheck _ => .resultCrossCheck at_
  | .frameMissingTimeout _ ix => .frameMissingTimeout at_ ix
  | .heartbeatSend _ ix => .heartbeatSend at_ ix
  | .heartbeatReceive _ ix interval => .heartbeatReceive at_ ix interval
  | .heartbeatLoss _ ix => .heartbeatLoss at_ ix
  | .selfTestCycle _ ix ok => .selfTestCycle at_ ix ok
  | .siWatchdogExpiry _ ix => .siWatchdogExpiry at_ ix
  | .regulatorFault _ ix => .regulatorFault at_ ix
  | .sfCopyCrcCheck _ ix upsets => .sfCopyCrcCheck at_ ix upsets
  | .degExpired _ n => .degExpired at_ n
  | .readbackFault _ m n level => .readbackFault at_ m n level
  | .feedbackFault _ n => .feedbackFault at_ n
  | .srstLevelChange _ ix level => .srstLevelChange at_ ix level
  | .srstEdge _ ix => .srstEdge at_ ix
  | .srstMismatch _ => .srstMismatch at_
  | .fslMessageReceive _ src a b => .fslMessageReceive at_ src a b
  | .fslSlotTimeout _ k => .fslSlotTimeout at_ k
  | .sfbLevelChange _ n level => .sfbLevelChange at_ n level
  | .pointsHoldExpiry _ q => .pointsHoldExpiry at_ q
  | .dmaStart _ c => .dmaStart at_ c
  | .dmaStop _ c => .dmaStop at_ c
  | .dmaReadGrant _ => .dmaReadGrant at_
  | .dmCntClr _ => .dmCntClr at_
  | .svcCommand _ bytes => .svcCommand at_ bytes
  | .svcReplyRead _ clocked => .svcReplyRead at_ clocked
  | .svcEventRead _ clocked => .svcEventRead at_ clocked
  | .cmdPacketReceive _ l => .cmdPacketReceive at_ l
  | .udpCommandDatagram _ l env ip port bytes => .udpCommandDatagram at_ l env ip port bytes
  | .ping _ src => .ping at_ src
  | .read _ src => .read at_ src
  | .write _ src => .write at_ src
  | .writeBusyTimeout _ src => .writeBusyTimeout at_ src
  | .writePosted _ src => .writePosted at_ src
  | .pollBusy _ src => .pollBusy at_ src
  | .pollBusyTimeout _ src => .pollBusyTimeout at_ src
  | .swap _ src => .swap at_ src
  | .commitRef _ src => .commitRef at_ src
  | .copyActive _ src => .copyActive at_ src
  | .framesStart _ src => .framesStart at_ src
  | .framesStop _ src => .framesStop at_ src
  | .decSync _ src => .decSync at_ src
  | .subscribe _ src => .subscribe at_ src
  | .unsubscribe _ src => .unsubscribe at_ src
  | .challenge _ src => .challenge at_ src
  | .respond _ src => .respond at_ src
  | .password _ src => .password at_ src
  | .setPassword _ src => .setPassword at_ src
  | .close _ src => .close at_ src
  | .lockField _ src => .lockField at_ src
  | .fwStage _ src programmed => .fwStage at_ src programmed
  | .fwStageTimeout _ src => .fwStageTimeout at_ src
  | .fwConfirm _ src => .fwConfirm at_ src
  | .reboot _ src => .reboot at_ src
  | .rebootReset _ boot => .rebootReset at_ boot
  | .safeAck _ src => .safeAck at_ src
  | .sessionExpiry _ => .sessionExpiry at_
  | .nonceExpiry _ => .nonceExpiry at_
  | .authWaitExpiry _ => .authWaitExpiry at_
  | .jtagAccess _ inside => .jtagAccess at_ inside
  | .postedWriteAccept _ bit => .postedWriteAccept at_ bit
  | .liveWriteApply _ l => .liveWriteApply at_ l
  | .crcPassComplete _ => .crcPassComplete at_
  | .liveWindowExpiry _ => .liveWindowExpiry at_
  | .cmCntClr _ => .cmCntClr at_
  | .cfCntClr _ => .cfCntClr at_
  | .sysUptimeRead _ => .sysUptimeRead at_
  | .powerOnReset _ => .powerOnReset at_
  | .powerOnRelease _ => .powerOnRelease at_
  | .railAboveWarning _ r dip => .railAboveWarning at_ r dip
  | .supplyReset _ r => .supplyReset at_ r
  | .dieRelease _ hv boot => .dieRelease at_ hv boot
  | .selfTestComplete _ ok boot => .selfTestComplete at_ ok boot
  | .nodeRdyAssert _ formats => .nodeRdyAssert at_ formats
  | .braceEntry _ r mv => .braceEntry at_ r mv
  | .braceEnd _ => .braceEnd at_
  | .rstNAssert _ => .rstNAssert at_
  | .rstNRelease _ boot => .rstNRelease at_ boot
  | .mgmtWatchdogExpiry _ boot => .mgmtWatchdogExpiry at_ boot
  | .stageComplete _ programmed => .stageComplete at_ programmed
  | .fwTrialExpired _ => .fwTrialExpired at_
  | .settingsSave _ => .settingsSave at_
  | .settingsSaved _ => .settingsSaved at_
  | .flashWriteResume _ => .flashWriteResume at_
  | .pwCntClr _ => .pwCntClr at_
  | .diodeSample _ r => .diodeSample at_ r
  | .throttleRise _ d => .throttleRise at_ d
  | .throttleFall _ d => .throttleFall at_ d
  | .sensorRecover _ d => .sensorRecover at_ d
  | .extSensorSilent _ k => .extSensorSilent at_ k
  | .shutdownEnd _ => .shutdownEnd at_
  | .fireRangeRelease _ => .fireRangeRelease at_
  | .tileCalibration _ tile => .tileCalibration at_ tile
  | .converterCalSlot _ p => .converterCalSlot at_ p
  | .calibrationResult _ r => .calibrationResult at_ r
  | .calPeriodMissed _ item place => .calPeriodMissed at_ item place
  | .calSettingsSave _ => .calSettingsSave at_
  | .thCntClr _ => .thCntClr at_

/-- The instant of a command bears on nothing that WellFormed checks. -/
def Laws.Timed.Statement (i : Instr) : Prop := ∀ n, (i.retime n).wf = i.wf

theorem Laws.Timed.frameBoundary : ∀ x0, Laws.Timed.Statement (.frameBoundary x0) := by intros; intro n; rfl
theorem Laws.Timed.scanEnd : ∀ x0, Laws.Timed.Statement (.scanEnd x0) := by intros; intro n; rfl
theorem Laws.Timed.shotCycleEnd : ∀ x0, Laws.Timed.Statement (.shotCycleEnd x0) := by intros; intro n; rfl
theorem Laws.Timed.referenceFail : ∀ x0 x1, Laws.Timed.Statement (.referenceFail x0 x1) := by intros; intro n; rfl
theorem Laws.Timed.referenceRecovery : ∀ x0 x1 x2, Laws.Timed.Statement (.referenceRecovery x0 x1 x2) := by intros; intro n; rfl
theorem Laws.Timed.islandStall : ∀ x0 x1 x2, Laws.Timed.Statement (.islandStall x0 x1 x2) := by intros; intro n; rfl
theorem Laws.Timed.comparatorReturn : ∀ x0 x1 x2, Laws.Timed.Statement (.comparatorReturn x0 x1 x2) := by intros; intro n; rfl
theorem Laws.Timed.clampEngage : ∀ x0 x1, Laws.Timed.Statement (.clampEngage x0 x1) := by intros; intro n; rfl
theorem Laws.Timed.clampRelease : ∀ x0 x1, Laws.Timed.Statement (.clampRelease x0 x1) := by intros; intro n; rfl
theorem Laws.Timed.blankingEnd : ∀ x0 x1, Laws.Timed.Statement (.blankingEnd x0 x1) := by intros; intro n; rfl
theorem Laws.Timed.rxRecovery : ∀ x0 x1, Laws.Timed.Statement (.rxRecovery x0 x1) := by intros; intro n; rfl
theorem Laws.Timed.xtkWindowClose : ∀ x0 x1, Laws.Timed.Statement (.xtkWindowClose x0 x1) := by intros; intro n; rfl
theorem Laws.Timed.baselineUpdate : ∀ x0 x1 x2, Laws.Timed.Statement (.baselineUpdate x0 x1 x2) := by intros; intro n; rfl
theorem Laws.Timed.windowOpen : ∀ x0 x1 x2 x3, Laws.Timed.Statement (.windowOpen x0 x1 x2 x3) := by intros; intro n; rfl
theorem Laws.Timed.windowClose : ∀ x0 x1, Laws.Timed.Statement (.windowClose x0 x1) := by intros; intro n; rfl
theorem Laws.Timed.tileQueueDrain : ∀ x0 x1, Laws.Timed.Statement (.tileQueueDrain x0 x1) := by intros; intro n; rfl
theorem Laws.Timed.tileUnlock : ∀ x0 x1, Laws.Timed.Statement (.tileUnlock x0 x1) := by intros; intro n; rfl
theorem Laws.Timed.tileRelock : ∀ x0 x1, Laws.Timed.Statement (.tileRelock x0 x1) := by intros; intro n; rfl
theorem Laws.Timed.samplerCaptureStart : ∀ x0 x1, Laws.Timed.Statement (.samplerCaptureStart x0 x1) := by intros; intro n; rfl
theorem Laws.Timed.samplerCaptureComplete : ∀ x0 x1 x2, Laws.Timed.Statement (.samplerCaptureComplete x0 x1 x2) := by intros; intro n; rfl
theorem Laws.Timed.perShotCalibration : ∀ x0 x1 x2 x3, Laws.Timed.Statement (.perShotCalibration x0 x1 x2 x3) := by intros; intro n; rfl
theorem Laws.Timed.ffbEdge : ∀ x0 x1 x2 x3, Laws.Timed.Statement (.ffbEdge x0 x1 x2 x3) := by intros; intro n; rfl
theorem Laws.Timed.ffbMissing : ∀ x0 x1, Laws.Timed.Statement (.ffbMissing x0 x1) := by intros; intro n; rfl
theorem Laws.Timed.stStart : ∀ x0 x1, Laws.Timed.Statement (.stStart x0 x1) := by intros; intro n; rfl
theorem Laws.Timed.stStop : ∀ x0 x1, Laws.Timed.Statement (.stStop x0 x1) := by intros; intro n; rfl
theorem Laws.Timed.shepherdSnapshot : ∀ x0, Laws.Timed.Statement (.shepherdSnapshot x0) := by intros; intro n; rfl
theorem Laws.Timed.shotCycleStart : ∀ x0, Laws.Timed.Statement (.shotCycleStart x0) := by intros; intro n; rfl
theorem Laws.Timed.shotCommit : ∀ x0, Laws.Timed.Statement (.shotCommit x0) := by intros; intro n; rfl
theorem Laws.Timed.governorReleaseCheck : ∀ x0, Laws.Timed.Statement (.governorReleaseCheck x0) := by intros; intro n; rfl
theorem Laws.Timed.externalStart : ∀ x0 x1, Laws.Timed.Statement (.externalStart x0 x1) := by intros; intro n; rfl
theorem Laws.Timed.tlCntClr : ∀ x0 x1, Laws.Timed.Statement (.tlCntClr x0 x1) := by intros; intro n; rfl
theorem Laws.Timed.teCntClr : ∀ x0 x1, Laws.Timed.Statement (.teCntClr x0 x1) := by intros; intro n; rfl
theorem Laws.Timed.sqCntClr : ∀ x0, Laws.Timed.Statement (.sqCntClr x0) := by intros; intro n; rfl
theorem Laws.Timed.footprintClearEnd : ∀ x0 x1, Laws.Timed.Statement (.footprintClearEnd x0 x1) := by intros; intro n; rfl
theorem Laws.Timed.shotDescriptorReceive : ∀ x0, Laws.Timed.Statement (.shotDescriptorReceive x0) := by intros; intro n; rfl
theorem Laws.Timed.eventIntake : ∀ x0 x1, Laws.Timed.Statement (.eventIntake x0 x1) := by intros; intro n; rfl
theorem Laws.Timed.coalesceEntry : ∀ x0 x1 x2, Laws.Timed.Statement (.coalesceEntry x0 x1 x2) := by intros; intro n; rfl
theorem Laws.Timed.bankRmw : ∀ x0 x1, Laws.Timed.Statement (.bankRmw x0 x1) := by intros; intro n; rfl
theorem Laws.Timed.ageDrop : ∀ x0 x1 x2, Laws.Timed.Statement (.ageDrop x0 x1 x2) := by intros; intro n; rfl
theorem Laws.Timed.closeTokenArrival : ∀ x0 x1, Laws.Timed.Statement (.closeTokenArrival x0 x1) := by intros; intro n; rfl
theorem Laws.Timed.bufferRelease : ∀ x0 x1, Laws.Timed.Statement (.bufferRelease x0 x1) := by intros; intro n; rfl
theorem Laws.Timed.tokenTimeout : ∀ x0 x1, Laws.Timed.Statement (.tokenTimeout x0 x1) := by intros; intro n; rfl
theorem Laws.Timed.suspectEnd : ∀ x0, Laws.Timed.Statement (.suspectEnd x0) := by intros; intro n; rfl
theorem Laws.Timed.histogramDispatch : ∀ x0 x1, Laws.Timed.Statement (.histogramDispatch x0 x1) := by intros; intro n; rfl
theorem Laws.Timed.bufferClean : ∀ x0 x1, Laws.Timed.Statement (.bufferClean x0 x1) := by intros; intro n; rfl
theorem Laws.Timed.recordWrite : ∀ x0 x1, Laws.Timed.Statement (.recordWrite x0 x1) := by intros; intro n; rfl
theorem Laws.Timed.markPlace : ∀ x0, Laws.Timed.Statement (.markPlace x0) := by intros; intro n; rfl
theorem Laws.Timed.fdCntClr : ∀ x0, Laws.Timed.Statement (.fdCntClr x0) := by intros; intro n; rfl
theorem Laws.Timed.exCntClr : ∀ x0, Laws.Timed.Statement (.exCntClr x0) := by intros; intro n; rfl
theorem Laws.Timed.servoSample : ∀ x0 x1, Laws.Timed.Statement (.servoSample x0 x1) := by intros; intro n; rfl
theorem Laws.Timed.handoverForced : ∀ x0 x1, Laws.Timed.Statement (.handoverForced x0 x1) := by intros; intro n; rfl
theorem Laws.Timed.trajectoryPeriodEnd : ∀ x0 x1, Laws.Timed.Statement (.trajectoryPeriodEnd x0 x1) := by intros; intro n; rfl
theorem Laws.Timed.acqTimeout : ∀ x0 x1, Laws.Timed.Statement (.acqTimeout x0 x1) := by intros; intro n; rfl
theorem Laws.Timed.servoSensorLost : ∀ x0 x1, Laws.Timed.Statement (.servoSensorLost x0 x1) := by intros; intro n; rfl
theorem Laws.Timed.servoOsc : ∀ x0 x1, Laws.Timed.Statement (.servoOsc x0 x1) := by intros; intro n; rfl
theorem Laws.Timed.svInjStart : ∀ x0 x1, Laws.Timed.Statement (.svInjStart x0 x1) := by intros; intro n; rfl
theorem Laws.Timed.svInjStop : ∀ x0 x1, Laws.Timed.Statement (.svInjStop x0 x1) := by intros; intro n; rfl
theorem Laws.Timed.injectionEnd : ∀ x0 x1, Laws.Timed.Statement (.injectionEnd x0 x1) := by intros; intro n; rfl
theorem Laws.Timed.svCntClr : ∀ x0, Laws.Timed.Statement (.svCntClr x0) := by intros; intro n; rfl
theorem Laws.Timed.converterOutput : ∀ x0 x1 x2 x3, Laws.Timed.Statement (.converterOutput x0 x1 x2 x3) := by intros; intro n; rfl
theorem Laws.Timed.modulatorOverload : ∀ x0 x1 x2, Laws.Timed.Statement (.modulatorOverload x0 x1 x2) := by intros; intro n; rfl
theorem Laws.Timed.secondaryOverload : ∀ x0 x1, Laws.Timed.Statement (.secondaryOverload x0 x1) := by intros; intro n; rfl
theorem Laws.Timed.excitationSwitch : ∀ x0 x1, Laws.Timed.Statement (.excitationSwitch x0 x1) := by intros; intro n; rfl
theorem Laws.Timed.excitationBlankEnd : ∀ x0 x1, Laws.Timed.Statement (.excitationBlankEnd x0 x1) := by intros; intro n; rfl
theorem Laws.Timed.syncDecEdge : ∀ x0 x1, Laws.Timed.Statement (.syncDecEdge x0 x1) := by intros; intro n; rfl
theorem Laws.Timed.axSync : ∀ x0, Laws.Timed.Statement (.axSync x0) := by intros; intro n; rfl
theorem Laws.Timed.firWrite : ∀ x0 x1 x2 x3, Laws.Timed.Statement (.firWrite x0 x1 x2 x3) := by intros; intro n; rfl
theorem Laws.Timed.impedanceCheckStart : ∀ x0 x1, Laws.Timed.Statement (.impedanceCheckStart x0 x1) := by intros; intro n; rfl
theorem Laws.Timed.impedanceCheckEnd : ∀ x0 x1 x2, Laws.Timed.Statement (.impedanceCheckEnd x0 x1 x2) := by intros; intro n; rfl
theorem Laws.Timed.axCntClr : ∀ x0, Laws.Timed.Statement (.axCntClr x0) := by intros; intro n; rfl
theorem Laws.Timed.aqArm : ∀ x0 x1, Laws.Timed.Statement (.aqArm x0 x1) := by intros; intro n; rfl
theorem Laws.Timed.aqAbort : ∀ x0 x1, Laws.Timed.Statement (.aqAbort x0 x1) := by intros; intro n; rfl
theorem Laws.Timed.aqForce : ∀ x0 x1, Laws.Timed.Statement (.aqForce x0 x1) := by intros; intro n; rfl
theorem Laws.Timed.triggerHoldEnd : ∀ x0 x1, Laws.Timed.Statement (.triggerHoldEnd x0 x1) := by intros; intro n; rfl
theorem Laws.Timed.aqRdDataRead : ∀ x0 x1, Laws.Timed.Statement (.aqRdDataRead x0 x1) := by intros; intro n; rfl
theorem Laws.Timed.aqHistDataRead : ∀ x0 x1, Laws.Timed.Statement (.aqHistDataRead x0 x1) := by intros; intro n; rfl
theorem Laws.Timed.aqCntClr : ∀ x0, Laws.Timed.Statement (.aqCntClr x0) := by intros; intro n; rfl
theorem Laws.Timed.pwmPeriodEnd : ∀ x0 x1 x2, Laws.Timed.Statement (.pwmPeriodEnd x0 x1 x2) := by intros; intro n; rfl
theorem Laws.Timed.lampMeasurement : ∀ x0 x1 x2, Laws.Timed.Statement (.lampMeasurement x0 x1 x2) := by intros; intro n; rfl
theorem Laws.Timed.lampShortDetect : ∀ x0 x1, Laws.Timed.Statement (.lampShortDetect x0 x1) := by intros; intro n; rfl
theorem Laws.Timed.ilRestart : ∀ x0 x1, Laws.Timed.Statement (.ilRestart x0 x1) := by intros; intro n; rfl
theorem Laws.Timed.csyncEdge : ∀ x0 x1 x2 x3, Laws.Timed.Statement (.csyncEdge x0 x1 x2 x3) := by intros; intro n; rfl
theorem Laws.Timed.diagnosticPulse : ∀ x0 x1, Laws.Timed.Statement (.diagnosticPulse x0 x1) := by intros; intro n; rfl
theorem Laws.Timed.lampUnverified : ∀ x0 x1, Laws.Timed.Statement (.lampUnverified x0 x1) := by intros; intro n; rfl
theorem Laws.Timed.lampTempLost : ∀ x0 x1, Laws.Timed.Statement (.lampTempLost x0 x1) := by intros; intro n; rfl
theorem Laws.Timed.ilCntClr : ∀ x0, Laws.Timed.Statement (.ilCntClr x0) := by intros; intro n; rfl
theorem Laws.Timed.laneEnergyDetect : ∀ x0 x1, Laws.Timed.Statement (.laneEnergyDetect x0 x1) := by intros; intro n; rfl
theorem Laws.Timed.laneClockLock : ∀ x0 x1 x2, Laws.Timed.Statement (.laneClockLock x0 x1 x2) := by intros; intro n; rfl
theorem Laws.Timed.laneAlign : ∀ x0 x1 x2 x3 x4, Laws.Timed.Statement (.laneAlign x0 x1 x2 x3 x4) := by intros; intro n; rfl
theorem Laws.Timed.trainingScore : ∀ x0 x1 x2, Laws.Timed.Statement (.trainingScore x0 x1 x2) := by intros; intro n; rfl
theorem Laws.Timed.laneRateSwitch : ∀ x0 x1, Laws.Timed.Statement (.laneRateSwitch x0 x1) := by intros; intro n; rfl
theorem Laws.Timed.deskewDone : ∀ x0 x1 x2, Laws.Timed.Statement (.deskewDone x0 x1 x2) := by intros; intro n; rfl
theorem Laws.Timed.trainingTimeout : ∀ x0 x1, Laws.Timed.Statement (.trainingTimeout x0 x1) := by intros; intro n; rfl
theorem Laws.Timed.retrain : ∀ x0 x1, Laws.Timed.Statement (.retrain x0 x1) := by intros; intro n; rfl
theorem Laws.Timed.laneDown : ∀ x0 x1, Laws.Timed.Statement (.laneDown x0 x1) := by intros; intro n; rfl
theorem Laws.Timed.markerReceive : ∀ x0 x1 x2 x3 x4 x5 x6, Laws.Timed.Statement (.markerReceive x0 x1 x2 x3 x4 x5 x6) := by intros; intro n; rfl
theorem Laws.Timed.fillBlockReceive : ∀ x0 x1 x2, Laws.Timed.Statement (.fillBlockReceive x0 x1 x2) := by intros; intro n; rfl
theorem Laws.Timed.fillBlockSend : ∀ x0 x1, Laws.Timed.Statement (.fillBlockSend x0 x1) := by intros; intro n; rfl
theorem Laws.Timed.eidleRequest : ∀ x0 x1, Laws.Timed.Statement (.eidleRequest x0 x1) := by intros; intro n; rfl
theorem Laws.Timed.eidleExit : ∀ x0 x1, Laws.Timed.Statement (.eidleExit x0 x1) := by intros; intro n; rfl
theorem Laws.Timed.deepRequest : ∀ x0 x1, Laws.Timed.Statement (.deepRequest x0 x1) := by intros; intro n; rfl
theorem Laws.Timed.wakeDetect : ∀ x0 x1, Laws.Timed.Statement (.wakeDetect x0 x1) := by intros; intro n; rfl
theorem Laws.Timed.quadRefSwitch : ∀ x0 x1 x2, Laws.Timed.Statement (.quadRefSwitch x0 x1 x2) := by intros; intro n; rfl
theorem Laws.Timed.baserLinkChange : ∀ x0 x1 x2 x3 x4, Laws.Timed.Statement (.baserLinkChange x0 x1 x2 x3 x4) := by intros; intro n; rfl
theorem Laws.Timed.lnCntClr : ∀ x0 x1, Laws.Timed.Statement (.lnCntClr x0 x1) := by intros; intro n; rfl
theorem Laws.Timed.capsSend : ∀ x0 x1, Laws.Timed.Statement (.capsSend x0 x1) := by intros; intro n; rfl
theorem Laws.Timed.capsReceive : ∀ x0 x1, Laws.Timed.Statement (.capsReceive x0 x1) := by intros; intro n; rfl
theorem Laws.Timed.helloSend : ∀ x0 x1, Laws.Timed.Statement (.helloSend x0 x1) := by intros; intro n; rfl
theorem Laws.Timed.helloReceive : ∀ x0 x1, Laws.Timed.Statement (.helloReceive x0 x1) := by intros; intro n; rfl
theorem Laws.Timed.detach : ∀ x0 x1, Laws.Timed.Statement (.detach x0 x1) := by intros; intro n; rfl
theorem Laws.Timed.consistReceive : ∀ x0 x1, Laws.Timed.Statement (.consistReceive x0 x1) := by intros; intro n; rfl
theorem Laws.Timed.planAnnSend : ∀ x0, Laws.Timed.Statement (.planAnnSend x0) := by intros; intro n; rfl
theorem Laws.Timed.planAnnReceive : ∀ x0 x1 x2, Laws.Timed.Statement (.planAnnReceive x0 x1 x2) := by intros; intro n; rfl
theorem Laws.Timed.planActivation : ∀ x0, Laws.Timed.Statement (.planActivation x0) := by intros; intro n; rfl
theorem Laws.Timed.planTimeout : ∀ x0, Laws.Timed.Statement (.planTimeout x0) := by intros; intro n; rfl
theorem Laws.Timed.endshotReceive : ∀ x0 x1, Laws.Timed.Statement (.endshotReceive x0 x1) := by intros; intro n; rfl
theorem Laws.Timed.hevtReceive : ∀ x0 x1, Laws.Timed.Statement (.hevtReceive x0 x1) := by intros; intro n; rfl
theorem Laws.Timed.headTimeRequest : ∀ x0 x1, Laws.Timed.Statement (.headTimeRequest x0 x1) := by intros; intro n; rfl
theorem Laws.Timed.timeReplyReceive : ∀ x0 x1, Laws.Timed.Statement (.timeReplyReceive x0 x1) := by intros; intro n; rfl
theorem Laws.Timed.timeReplyTimeout : ∀ x0 x1, Laws.Timed.Statement (.timeReplyTimeout x0 x1) := by intros; intro n; rfl
theorem Laws.Timed.trigReceive : ∀ x0 x1, Laws.Timed.Statement (.trigReceive x0 x1) := by intros; intro n; rfl
theorem Laws.Timed.subExpired : ∀ x0 x1, Laws.Timed.Statement (.subExpired x0 x1) := by intros; intro n; rfl
theorem Laws.Timed.ptpSyncReceive : ∀ x0 x1 x2, Laws.Timed.Statement (.ptpSyncReceive x0 x1 x2) := by intros; intro n; rfl
theorem Laws.Timed.ptpSyncTimeout : ∀ x0, Laws.Timed.Statement (.ptpSyncTimeout x0) := by intros; intro n; rfl
theorem Laws.Timed.eventReport : ∀ x0, Laws.Timed.Statement (.eventReport x0) := by intros; intro n; rfl
theorem Laws.Timed.eventMergeEnd : ∀ x0, Laws.Timed.Statement (.eventMergeEnd x0) := by intros; intro n; rfl
theorem Laws.Timed.eventPacketSend : ∀ x0 x1, Laws.Timed.Statement (.eventPacketSend x0 x1) := by intros; intro n; rfl
theorem Laws.Timed.eventPacketReceive : ∀ x0 x1, Laws.Timed.Statement (.eventPacketReceive x0 x1) := by intros; intro n; rfl
theorem Laws.Timed.packetDiscard : ∀ x0 x1, Laws.Timed.Statement (.packetDiscard x0 x1) := by intros; intro n; rfl
theorem Laws.Timed.ptpAnnounceReceive : ∀ x0 x1 x2, Laws.Timed.Statement (.ptpAnnounceReceive x0 x1 x2) := by intros; intro n; rfl
theorem Laws.Timed.ptpDelayRespReceive : ∀ x0 x1 x2 x3, Laws.Timed.Statement (.ptpDelayRespReceive x0 x1 x2 x3) := by intros; intro n; rfl
theorem Laws.Timed.flCntClr : ∀ x0, Laws.Timed.Statement (.flCntClr x0) := by intros; intro n; rfl
theorem Laws.Timed.epTimeRead : ∀ x0, Laws.Timed.Statement (.epTimeRead x0) := by intros; intro n; rfl
theorem Laws.Timed.siRecordTake : ∀ x0 x1, Laws.Timed.Statement (.siRecordTake x0 x1) := by intros; intro n; rfl
theorem Laws.Timed.resultCrossCheck : ∀ x0, Laws.Timed.Statement (.resultCrossCheck x0) := by intros; intro n; rfl
theorem Laws.Timed.frameMissingTimeout : ∀ x0 x1, Laws.Timed.Statement (.frameMissingTimeout x0 x1) := by intros; intro n; rfl
theorem Laws.Timed.heartbeatSend : ∀ x0 x1, Laws.Timed.Statement (.heartbeatSend x0 x1) := by intros; intro n; rfl
theorem Laws.Timed.heartbeatReceive : ∀ x0 x1 x2, Laws.Timed.Statement (.heartbeatReceive x0 x1 x2) := by intros; intro n; rfl
theorem Laws.Timed.heartbeatLoss : ∀ x0 x1, Laws.Timed.Statement (.heartbeatLoss x0 x1) := by intros; intro n; rfl
theorem Laws.Timed.selfTestCycle : ∀ x0 x1 x2, Laws.Timed.Statement (.selfTestCycle x0 x1 x2) := by intros; intro n; rfl
theorem Laws.Timed.siWatchdogExpiry : ∀ x0 x1, Laws.Timed.Statement (.siWatchdogExpiry x0 x1) := by intros; intro n; rfl
theorem Laws.Timed.regulatorFault : ∀ x0 x1, Laws.Timed.Statement (.regulatorFault x0 x1) := by intros; intro n; rfl
theorem Laws.Timed.sfCopyCrcCheck : ∀ x0 x1 x2, Laws.Timed.Statement (.sfCopyCrcCheck x0 x1 x2) := by intros; intro n; rfl
theorem Laws.Timed.degExpired : ∀ x0 x1, Laws.Timed.Statement (.degExpired x0 x1) := by intros; intro n; rfl
theorem Laws.Timed.readbackFault : ∀ x0 x1 x2 x3, Laws.Timed.Statement (.readbackFault x0 x1 x2 x3) := by intros; intro n; rfl
theorem Laws.Timed.feedbackFault : ∀ x0 x1, Laws.Timed.Statement (.feedbackFault x0 x1) := by intros; intro n; rfl
theorem Laws.Timed.srstLevelChange : ∀ x0 x1 x2, Laws.Timed.Statement (.srstLevelChange x0 x1 x2) := by intros; intro n; rfl
theorem Laws.Timed.srstEdge : ∀ x0 x1, Laws.Timed.Statement (.srstEdge x0 x1) := by intros; intro n; rfl
theorem Laws.Timed.srstMismatch : ∀ x0, Laws.Timed.Statement (.srstMismatch x0) := by intros; intro n; rfl
theorem Laws.Timed.fslMessageReceive : ∀ x0 x1 x2 x3, Laws.Timed.Statement (.fslMessageReceive x0 x1 x2 x3) := by intros; intro n; rfl
theorem Laws.Timed.fslSlotTimeout : ∀ x0 x1, Laws.Timed.Statement (.fslSlotTimeout x0 x1) := by intros; intro n; rfl
theorem Laws.Timed.sfbLevelChange : ∀ x0 x1 x2, Laws.Timed.Statement (.sfbLevelChange x0 x1 x2) := by intros; intro n; rfl
theorem Laws.Timed.pointsHoldExpiry : ∀ x0 x1, Laws.Timed.Statement (.pointsHoldExpiry x0 x1) := by intros; intro n; rfl
theorem Laws.Timed.dmaStart : ∀ x0 x1, Laws.Timed.Statement (.dmaStart x0 x1) := by intros; intro n; rfl
theorem Laws.Timed.dmaStop : ∀ x0 x1, Laws.Timed.Statement (.dmaStop x0 x1) := by intros; intro n; rfl
theorem Laws.Timed.dmaReadGrant : ∀ x0, Laws.Timed.Statement (.dmaReadGrant x0) := by intros; intro n; rfl
theorem Laws.Timed.dmCntClr : ∀ x0, Laws.Timed.Statement (.dmCntClr x0) := by intros; intro n; rfl
theorem Laws.Timed.svcCommand : ∀ x0 x1, Laws.Timed.Statement (.svcCommand x0 x1) := by intros; intro n; rfl
theorem Laws.Timed.svcReplyRead : ∀ x0 x1, Laws.Timed.Statement (.svcReplyRead x0 x1) := by intros; intro n; rfl
theorem Laws.Timed.svcEventRead : ∀ x0 x1, Laws.Timed.Statement (.svcEventRead x0 x1) := by intros; intro n; rfl
theorem Laws.Timed.cmdPacketReceive : ∀ x0 x1, Laws.Timed.Statement (.cmdPacketReceive x0 x1) := by intros; intro n; rfl
theorem Laws.Timed.udpCommandDatagram : ∀ x0 x1 x2 x3 x4 x5, Laws.Timed.Statement (.udpCommandDatagram x0 x1 x2 x3 x4 x5) := by intros; intro n; rfl
theorem Laws.Timed.ping : ∀ x0 x1, Laws.Timed.Statement (.ping x0 x1) := by intros; intro n; rfl
theorem Laws.Timed.read : ∀ x0 x1, Laws.Timed.Statement (.read x0 x1) := by intros; intro n; rfl
theorem Laws.Timed.write : ∀ x0 x1, Laws.Timed.Statement (.write x0 x1) := by intros; intro n; rfl
theorem Laws.Timed.writeBusyTimeout : ∀ x0 x1, Laws.Timed.Statement (.writeBusyTimeout x0 x1) := by intros; intro n; rfl
theorem Laws.Timed.writePosted : ∀ x0 x1, Laws.Timed.Statement (.writePosted x0 x1) := by intros; intro n; rfl
theorem Laws.Timed.pollBusy : ∀ x0 x1, Laws.Timed.Statement (.pollBusy x0 x1) := by intros; intro n; rfl
theorem Laws.Timed.pollBusyTimeout : ∀ x0 x1, Laws.Timed.Statement (.pollBusyTimeout x0 x1) := by intros; intro n; rfl
theorem Laws.Timed.swap : ∀ x0 x1, Laws.Timed.Statement (.swap x0 x1) := by intros; intro n; rfl
theorem Laws.Timed.commitRef : ∀ x0 x1, Laws.Timed.Statement (.commitRef x0 x1) := by intros; intro n; rfl
theorem Laws.Timed.copyActive : ∀ x0 x1, Laws.Timed.Statement (.copyActive x0 x1) := by intros; intro n; rfl
theorem Laws.Timed.framesStart : ∀ x0 x1, Laws.Timed.Statement (.framesStart x0 x1) := by intros; intro n; rfl
theorem Laws.Timed.framesStop : ∀ x0 x1, Laws.Timed.Statement (.framesStop x0 x1) := by intros; intro n; rfl
theorem Laws.Timed.decSync : ∀ x0 x1, Laws.Timed.Statement (.decSync x0 x1) := by intros; intro n; rfl
theorem Laws.Timed.subscribe : ∀ x0 x1, Laws.Timed.Statement (.subscribe x0 x1) := by intros; intro n; rfl
theorem Laws.Timed.unsubscribe : ∀ x0 x1, Laws.Timed.Statement (.unsubscribe x0 x1) := by intros; intro n; rfl
theorem Laws.Timed.challenge : ∀ x0 x1, Laws.Timed.Statement (.challenge x0 x1) := by intros; intro n; rfl
theorem Laws.Timed.respond : ∀ x0 x1, Laws.Timed.Statement (.respond x0 x1) := by intros; intro n; rfl
theorem Laws.Timed.password : ∀ x0 x1, Laws.Timed.Statement (.password x0 x1) := by intros; intro n; rfl
theorem Laws.Timed.setPassword : ∀ x0 x1, Laws.Timed.Statement (.setPassword x0 x1) := by intros; intro n; rfl
theorem Laws.Timed.close : ∀ x0 x1, Laws.Timed.Statement (.close x0 x1) := by intros; intro n; rfl
theorem Laws.Timed.lockField : ∀ x0 x1, Laws.Timed.Statement (.lockField x0 x1) := by intros; intro n; rfl
theorem Laws.Timed.fwStage : ∀ x0 x1 x2, Laws.Timed.Statement (.fwStage x0 x1 x2) := by intros; intro n; rfl
theorem Laws.Timed.fwStageTimeout : ∀ x0 x1, Laws.Timed.Statement (.fwStageTimeout x0 x1) := by intros; intro n; rfl
theorem Laws.Timed.fwConfirm : ∀ x0 x1, Laws.Timed.Statement (.fwConfirm x0 x1) := by intros; intro n; rfl
theorem Laws.Timed.reboot : ∀ x0 x1, Laws.Timed.Statement (.reboot x0 x1) := by intros; intro n; rfl
theorem Laws.Timed.rebootReset : ∀ x0 x1, Laws.Timed.Statement (.rebootReset x0 x1) := by intros; intro n; rfl
theorem Laws.Timed.safeAck : ∀ x0 x1, Laws.Timed.Statement (.safeAck x0 x1) := by intros; intro n; rfl
theorem Laws.Timed.sessionExpiry : ∀ x0, Laws.Timed.Statement (.sessionExpiry x0) := by intros; intro n; rfl
theorem Laws.Timed.nonceExpiry : ∀ x0, Laws.Timed.Statement (.nonceExpiry x0) := by intros; intro n; rfl
theorem Laws.Timed.authWaitExpiry : ∀ x0, Laws.Timed.Statement (.authWaitExpiry x0) := by intros; intro n; rfl
theorem Laws.Timed.jtagAccess : ∀ x0 x1, Laws.Timed.Statement (.jtagAccess x0 x1) := by intros; intro n; rfl
theorem Laws.Timed.postedWriteAccept : ∀ x0 x1, Laws.Timed.Statement (.postedWriteAccept x0 x1) := by intros; intro n; rfl
theorem Laws.Timed.liveWriteApply : ∀ x0 x1, Laws.Timed.Statement (.liveWriteApply x0 x1) := by intros; intro n; rfl
theorem Laws.Timed.crcPassComplete : ∀ x0, Laws.Timed.Statement (.crcPassComplete x0) := by intros; intro n; rfl
theorem Laws.Timed.liveWindowExpiry : ∀ x0, Laws.Timed.Statement (.liveWindowExpiry x0) := by intros; intro n; rfl
theorem Laws.Timed.cmCntClr : ∀ x0, Laws.Timed.Statement (.cmCntClr x0) := by intros; intro n; rfl
theorem Laws.Timed.cfCntClr : ∀ x0, Laws.Timed.Statement (.cfCntClr x0) := by intros; intro n; rfl
theorem Laws.Timed.sysUptimeRead : ∀ x0, Laws.Timed.Statement (.sysUptimeRead x0) := by intros; intro n; rfl
theorem Laws.Timed.powerOnReset : ∀ x0, Laws.Timed.Statement (.powerOnReset x0) := by intros; intro n; rfl
theorem Laws.Timed.powerOnRelease : ∀ x0, Laws.Timed.Statement (.powerOnRelease x0) := by intros; intro n; rfl
theorem Laws.Timed.railAboveWarning : ∀ x0 x1 x2, Laws.Timed.Statement (.railAboveWarning x0 x1 x2) := by intros; intro n; rfl
theorem Laws.Timed.supplyReset : ∀ x0 x1, Laws.Timed.Statement (.supplyReset x0 x1) := by intros; intro n; rfl
theorem Laws.Timed.dieRelease : ∀ x0 x1 x2, Laws.Timed.Statement (.dieRelease x0 x1 x2) := by intros; intro n; rfl
theorem Laws.Timed.selfTestComplete : ∀ x0 x1 x2, Laws.Timed.Statement (.selfTestComplete x0 x1 x2) := by intros; intro n; rfl
theorem Laws.Timed.nodeRdyAssert : ∀ x0 x1, Laws.Timed.Statement (.nodeRdyAssert x0 x1) := by intros; intro n; rfl
theorem Laws.Timed.braceEntry : ∀ x0 x1 x2, Laws.Timed.Statement (.braceEntry x0 x1 x2) := by intros; intro n; rfl
theorem Laws.Timed.braceEnd : ∀ x0, Laws.Timed.Statement (.braceEnd x0) := by intros; intro n; rfl
theorem Laws.Timed.rstNAssert : ∀ x0, Laws.Timed.Statement (.rstNAssert x0) := by intros; intro n; rfl
theorem Laws.Timed.rstNRelease : ∀ x0 x1, Laws.Timed.Statement (.rstNRelease x0 x1) := by intros; intro n; rfl
theorem Laws.Timed.mgmtWatchdogExpiry : ∀ x0 x1, Laws.Timed.Statement (.mgmtWatchdogExpiry x0 x1) := by intros; intro n; rfl
theorem Laws.Timed.stageComplete : ∀ x0 x1, Laws.Timed.Statement (.stageComplete x0 x1) := by intros; intro n; rfl
theorem Laws.Timed.fwTrialExpired : ∀ x0, Laws.Timed.Statement (.fwTrialExpired x0) := by intros; intro n; rfl
theorem Laws.Timed.settingsSave : ∀ x0, Laws.Timed.Statement (.settingsSave x0) := by intros; intro n; rfl
theorem Laws.Timed.settingsSaved : ∀ x0, Laws.Timed.Statement (.settingsSaved x0) := by intros; intro n; rfl
theorem Laws.Timed.flashWriteResume : ∀ x0, Laws.Timed.Statement (.flashWriteResume x0) := by intros; intro n; rfl
theorem Laws.Timed.pwCntClr : ∀ x0, Laws.Timed.Statement (.pwCntClr x0) := by intros; intro n; rfl
theorem Laws.Timed.diodeSample : ∀ x0 x1, Laws.Timed.Statement (.diodeSample x0 x1) := by intros; intro n; rfl
theorem Laws.Timed.throttleRise : ∀ x0 x1, Laws.Timed.Statement (.throttleRise x0 x1) := by intros; intro n; rfl
theorem Laws.Timed.throttleFall : ∀ x0 x1, Laws.Timed.Statement (.throttleFall x0 x1) := by intros; intro n; rfl
theorem Laws.Timed.sensorRecover : ∀ x0 x1, Laws.Timed.Statement (.sensorRecover x0 x1) := by intros; intro n; rfl
theorem Laws.Timed.extSensorSilent : ∀ x0 x1, Laws.Timed.Statement (.extSensorSilent x0 x1) := by intros; intro n; rfl
theorem Laws.Timed.shutdownEnd : ∀ x0, Laws.Timed.Statement (.shutdownEnd x0) := by intros; intro n; rfl
theorem Laws.Timed.fireRangeRelease : ∀ x0, Laws.Timed.Statement (.fireRangeRelease x0) := by intros; intro n; rfl
theorem Laws.Timed.tileCalibration : ∀ x0 x1, Laws.Timed.Statement (.tileCalibration x0 x1) := by intros; intro n; rfl
theorem Laws.Timed.converterCalSlot : ∀ x0 x1, Laws.Timed.Statement (.converterCalSlot x0 x1) := by intros; intro n; rfl
theorem Laws.Timed.calibrationResult : ∀ x0 x1, Laws.Timed.Statement (.calibrationResult x0 x1) := by intros; intro n; rfl
theorem Laws.Timed.calPeriodMissed : ∀ x0 x1 x2, Laws.Timed.Statement (.calPeriodMissed x0 x1 x2) := by intros; intro n; rfl
theorem Laws.Timed.calSettingsSave : ∀ x0, Laws.Timed.Statement (.calSettingsSave x0) := by intros; intro n; rfl
theorem Laws.Timed.thCntClr : ∀ x0, Laws.Timed.Statement (.thCntClr x0) := by intros; intro n; rfl

end Sys2Proof
end

