-- ==== Sys2Proof/Laws/Sets.lean ====
section
/-!
SUPPORT. Laws of the references of the sets (R417): a reference that is set is read back.
-/

namespace Sys2Proof.Machine

theorem joinHL_hiOf_loOf (v : BitVec 32) : joinHL (hiOf v) (loOf v) = v := by
  apply BitVec.eq_of_toNat_eq
  simp only [joinHL, hiOf, loOf, BitVec.toNat_ofNat]
  have := v.isLt
  omega

theorem hiOf_toNat_le (v : BitVec 32) : (hiOf v).toNat ≤ 4095 := by
  simp only [hiOf, BitVec.toNat_ofNat]
  have := v.isLt
  omega

theorem loOf_toNat_le (v : BitVec 32) : (loOf v).toNat ≤ 1048575 := by
  simp only [loOf, BitVec.toNat_ofNat]
  omega

theorem State.h_setH (s : State) (f g : Fld) (x : Nat) : (s.setH f x).h g = if g.key = f.key then min x f.top else s.h g := by
  split
  · next h => simp only [State.h, State.setH, h, Tab.get_set_same]
  · next h => exact State.h_setH_ne s f g x h

theorem State.refValue_setRef (s : State) (b : Bool) (v : BitVec 32) (x : Bool) : (s.setRef b v x).refValue b = v := by
  have h1 := Nat.min_eq_left (hiOf_toNat_le v)
  have h2 := Nat.min_eq_left (loOf_toNat_le v)
  rcases b with _ | _ <;> rcases x with _ | _
  · simp only [State.setRef, State.refValue, State.flag, State.h_setH, State.h_note, if_true, Bool.false_eq_true, if_false]
    repeat rw [if_neg (by decide)]
    rw [show Fld.top Reg.CF_REF_A_H_REF_H = 4095 from rfl, show Fld.top Reg.CF_REF_A_L_REF_L = 1048575 from rfl, h1, h2,
      BitVec.ofNat_toNat, BitVec.ofNat_toNat]
    exact joinHL_hiOf_loOf v
  · simp only [State.setRef, State.refValue, State.flag, State.h_setH, State.h_note, if_true, Bool.false_eq_true, if_false]
    repeat rw [if_neg (by decide)]
    rw [show Fld.top Reg.CF_REF_A_H_REF_H = 4095 from rfl, show Fld.top Reg.CF_REF_A_L_REF_L = 1048575 from rfl, h1, h2,
      BitVec.ofNat_toNat, BitVec.ofNat_toNat]
    exact joinHL_hiOf_loOf v
  · simp only [State.setRef, State.refValue, State.flag, State.h_setH, State.h_note, if_true, Bool.false_eq_true, if_false]
    repeat rw [if_neg (by decide)]
    rw [show Fld.top Reg.CF_REF_B_H_REF_H = 4095 from rfl, show Fld.top Reg.CF_REF_B_L_REF_L = 1048575 from rfl, h1, h2,
      BitVec.ofNat_toNat, BitVec.ofNat_toNat]
    exact joinHL_hiOf_loOf v
  · simp only [State.setRef, State.refValue, State.flag, State.h_setH, State.h_note, if_true]
    repeat rw [if_neg (by decide)]
    rw [show Fld.top Reg.CF_REF_B_H_REF_H = 4095 from rfl, show Fld.top Reg.CF_REF_B_L_REF_L = 1048575 from rfl, h1, h2,
      BitVec.ofNat_toNat, BitVec.ofNat_toNat]
    exact joinHL_hiOf_loOf v

@[simp] theorem State.refValid_setRef (s : State) (b : Bool) (v : BitVec 32) (x : Bool) : (s.setRef b v x).refValid b = x := by
  cases b <;> cases x <;> simp [State.setRef, State.refValid, State.flag, Fld.top, Reg.CF_STAT_REF_A, Reg.CF_STAT_REF_B]

/-- Setting a reference leaves every other field as it was. -/
theorem State.h_setRef_of_ne (s : State) (b : Bool) (v : BitVec 32) (x : Bool) (f : Fld)
    (h : ∀ g ∈ [Reg.CF_REF_A_H_REF_H, Reg.CF_REF_A_L_REF_L, Reg.CF_REF_B_H_REF_H, Reg.CF_REF_B_L_REF_L, Reg.CF_STAT_REF_A, Reg.CF_STAT_REF_B],
      f.key ≠ g.key) : (s.setRef b v x).h f = s.h f := by
  simp only [List.mem_cons, List.not_mem_nil, or_false, forall_eq_or_imp, forall_eq] at h
  cases b <;> simp [State.setRef, State.flag, State.h_setH, h]

theorem State.activeB_setRef (s : State) (b : Bool) (v : BitVec 32) (x : Bool) : (s.setRef b v x).activeB = s.activeB := by
  have h := State.h_setRef_of_ne s b v x Reg.CF_STAT_ACTIVE (by decide)
  simp only [State.h] at h
  simp only [State.activeB, h]

@[simp] theorem State.setRef_sets (s : State) (b : Bool) (v : BitVec 32) (x : Bool) :
    (s.setRef b v x).regs.setA = s.regs.setA ∧ (s.setRef b v x).regs.setB = s.regs.setB ∧ (s.setRef b v x).regs.one = s.regs.one
      ∧ (s.setRef b v x).regs.posted = s.regs.posted ∧ (s.setRef b v x).phase = s.phase ∧ (s.setRef b v x).sq = s.sq
      ∧ (s.setRef b v x).cf = s.cf ∧ (s.setRef b v x).safe = s.safe := by
  cases b <;> simp [State.setRef, State.flag, State.note, State.setH]

theorem State.tabs_setRef (s : State) (b : Bool) (v : BitVec 32) (x : Bool) :
    (s.setRef b v x).activeTab = s.activeTab ∧ (s.setRef b v x).shadowTab = s.shadowTab := by
  simp only [State.activeTab, State.shadowTab, State.activeB_setRef, (State.setRef_sets s b v x).1, (State.setRef_sets s b v x).2.1,
    and_self]

end Sys2Proof.Machine
end

