-- ==== Sys2Proof/Tests/Slice0.lean ====
section
/-!
SUPPORT. Tests: an ill-formed term for each check of WellFormed, worked examples of the manual, and for every statement with hypotheses a
state and operands that meet them, clause by clause.
-/

set_option Elab.async false

namespace Sys2Proof

namespace Machine
/-- The state after reset with the die running. -/
def w0 : State := { State.reset with phase := .ready }
/-- With values in the active set. -/
def State.withSet (s : State) (l : List (Nat × Score)) : State := { s with regs := { s.regs with setA := ⟨l⟩ } }
/-- With values in the single-copy registers. -/
def State.withOne (s : State) (l : List (Nat × Score)) : State := { s with regs := { s.regs with one := ⟨l⟩ } }
/-- With a field of the active set. -/
def State.withF (s : State) (f : Fld) (v : Nat) : State :=
  { s with regs := { s.regs with setA := Tab.set s.regs.setA (Reg.resetRw f.addr) f.addr (f.put (s.act f.addr) v) } }
/-- With values in Shepherd's copy. -/
def State.withSq (s : State) (l : List (Nat × Score)) : State := { s with sq := { s.sq with copy := ⟨l⟩ } }
/-- A shot table of one valid entry: emitter 0, group 0, window 0 of 640 coarse periods, slot 10. -/
def oneShot : List (Nat × Score) :=
  [(Reg.SQ_ENTRIES, 1), (Reg.SQ_CYC_LEN_L, 200000), (Reg.SQ_WIN_LEN 0, 640), (Reg.SQ_EMIT_CFG 0, (Reg.SQ_EMIT_CFG_EN 0).put 0 1), (Reg.SQ_SHOT_S0 0, 0x80000), (Reg.SQ_SHOT_S2 0, 10)]
/-- Cycle 1 runs. -/
def State.cycling (s : State) : State := { s with sq := { s.sq with inScan := true, cyc := some ⟨1, 0, 1280, 0, false⟩, scanEndAt := 12800000 } }
/-- With a field of the SF_ values of both islands. -/
def State.withSf (s : State) (f : Fld) (v : Nat) : State :=
  let c := Tab.set s.safe.a.copy (Reg.resetRw f.addr) f.addr (f.put (Tab.get s.safe.a.copy (Reg.resetRw f.addr) f.addr) v)
  { s with safe := { s.safe with a := { s.safe.a with copy := c }, b := { s.safe.b with copy := c } } }
/-- A ZONE_STATE of channel 0 of a node of identity 5, ENERGISED, and its scores. -/
def zoneBody : List Score := [0x01106, 0, 5, 7, 0, 0x40000, 0, 0, 0, 0, 0]
def zoneMsg : FslMsg := ⟨1, 1, false, 6, 5, 0, 7, 0, [0x40000, 0, 0, 0, 0, 0], zoneBody, fslCheck 0 zoneBody⟩
def zoneScores : List Score := zoneBody ++ [BitVec.ofNat 20 (fslCheck 0 zoneBody / 2 ^ 20), BitVec.ofNat 20 (fslCheck 0 zoneBody)]
/-- A slot 3 for it. -/
def wSlot : State := (w0.withSf (Reg.SF_RX_CFG_EN 3) 1).withSf (Reg.SF_RX_ID_L_ID 3) 5
/-- Channel `n` is enabled, evaluated and waits for reset. -/
def State.tripped (s : State) (n : Nat) : State := (((s.withSf (Reg.SF_CH_CFG_EN n) 1).setH (Reg.SF_CH_STAT_STATE n) 1).setH (Reg.SF_CH_STAT_SFB n) 1).setSafeChan n { evaluated := true }
/-- Channel `n` is enabled and ENERGISED. -/
def State.energised (s : State) (n : Nat) : State := (s.withSf (Reg.SF_CH_CFG_EN n) 1).setH (Reg.SF_CH_STAT_STATE n) 2
/-- A command packet with tag 5. -/
def cmdOf (op cls : Nat) (ps : List Score) : Cmd := { id := 0, scores := BitVec.ofNat 20 (op * 4096 + 5 * 64 + ps.length) :: ps, cls := cls }
/-- The device with one command in the queue of a source. -/
def State.ask (s : State) (src : Source) (c : Cmd) : State := s.setCmds (s.keyOf src) [c]
/-- Pair `p` runs a scan of one slot on channel `p` + 5, whose input is the test DAC against VBIAS. -/
def wPair (p : Nat) : State :=
  (((((w0.withF (Reg.AX_PAIR_CFG_RUN p) 1).withF (Reg.AX_PAIR_CFG_NSLOT p) 1).withF (Reg.AX_SLOT_CH p 0) (p + 5)).withF (Reg.AX_CH_CFG_EN (p + 5)) 1).withF
    (Reg.AX_CH_SEL_PSEL (p + 5)) 1).withF (Reg.AX_CH_SEL_NSEL (p + 5)) 1 |>.setH (Reg.AX_PAIR_STAT_RUNNING p) 1
/-- Buffer 0 records the sampler of tile 5, 100 samples with 10 after the trigger. -/
def wArm : State := (w0.setOne (Reg.AQ_BUF_SRC 0) 5 |>.setFo (Reg.AQ_BUF_LEN_LEN 0) 100).setFo (Reg.AQ_BUF_POST_POST 0) 10
/-- The line bits of three FILL blocks, complemented or not, and of a TRAIN superframe with SEQ 9 whose scores go out as they are. -/
def wFills (inv : Bool) : List Bool :=
  (stuff (false, 0) (((List.replicate 3 ([0xE110E, 0xA5A5A, 0xA5A5A, 0xA5A5A] : List Score)).flatten.map (polar inv)).flatMap scoreBits)).1
def wTrain : List Bool := (stuff (false, 0) ((markerScore 2 9 :: 0x61000 :: List.replicate 62 0).flatMap scoreBits)).1
end Machine

open Machine

/-! ### Well-formedness: an ill-formed term for each check -/

/-- R63, R64: LT cannot fall before it has risen, and there is a pulse of LT. -/
theorem Tests.test_wf_return : (Instr.comparatorReturn 0 0 ⟨[⟨some ⟨9, 0, 0⟩, some ⟨8, 0, 0⟩⟩], []⟩).wf = false := by decide

theorem Tests.test_wf_window : (Instr.windowOpen 0 0 (2 ^ 20) 0).wf = false ∧ (Instr.windowOpen 0 0 0 (2 ^ 14)).wf = false := by decide

theorem Tests.test_wf_lengths : (Instr.samplerCaptureComplete 0 0 []).wf = false ∧ (Instr.markerReceive 0 0 0 [] [] 0 0).wf = false := by decide

theorem Tests.test_wf_lanes : (Instr.ptpSyncReceive 0 ⟨127, ⟨true, none, 0, 0, none⟩, false, 0, 0⟩ 0).wf = false
    ∧ (Instr.helloReceive 0 (.udp 127 ⟨true, none, 0, 0, none⟩ 0 [])).wf = false
    ∧ (Instr.udpCommandDatagram 0 128 ⟨true, none, 0, 0, none⟩ 0 (2 ^ 16) []).wf = false
    ∧ (Instr.ping 0 (.link 144)).wf = false ∧ (Instr.ping 0 (.udp 128 (2 ^ 32) 0)).wf = false := by decide

theorem Tests.test_wf_safety : (Instr.sfCopyCrcCheck 0 .a [(0x40000, 0)]).wf = false ∧ (Instr.referenceRecovery 0 none none).wf = false := by
  decide

theorem Tests.test_wf_stall (k : ClockIsland) : (Instr.islandStall 0 k k).wf = false := by simp [Instr.wf]

theorem Tests.test_wf_rails : (Instr.railAboveWarning 0 7 ⟨0, 0⟩).wf = false ∧ (Instr.braceEntry 0 7 0).wf = false
    ∧ (Instr.supplyReset 0 ⟨6, 0⟩).wf = false ∧ (Instr.calibrationResult 0 (.comparator 0 [0] true)).wf = false := by decide

/-- The command table gives no row bits. -/
theorem Tests.test_decode : decodeTableWord 16 0x1234 = none := rfl

/-! ### Worked examples of the manual -/

/-- The example of chapter 3: with a = 168 and b = 327 raw 287 is 75 LSB before the coarse edge, and the edge lies at
100 × 4,980 − 100 − 75 = 497,825 LSB; the stamp is 497,806 − 408,672 = 89,134 LSB. -/
theorem Tests.test_edge_time : edgeFrac ⟨168, 327⟩ 287 = 75 ∧ edgeAbs ⟨168, 327⟩ ⟨0, 4980, 287⟩ = 497825 ∧ stampDiff 497806 408672 = 89134 := by
  decide +kernel

/-- The example of chapter 4: the register of A starts at 0x3A07 xor 0x9C25 xor 0x0F0F = 0xA92D, its first step gives 0x525A, and D is 8,235. -/
theorem Tests.test_dither : ditherSeed 0x3A079C25 0 = 0xA92D ∧ lfsrStep 0xA92D = 0x525A ∧ ditherOf 0x525A 8 = 8235 := by decide +kernel

/-- The example of chapter 5: stamp 89,134 with D = 3,741 falls into bin 337. -/
theorem Tests.test_bin : binOf [0xC603F, 0x152A, 0x13880] 89134 3741 = .bin 337 := by decide +kernel

/-- The first example of chapter 6: one echo, score 0 of its record is 0x1_4D97. -/
theorem Tests.test_echo :
    let iv : Interval := { gen := 0, buf := 0, desc := [0xC63FF, 0, 80000], gain := 3, suspect := false, n := 1024
                           prof := (List.range 8).map fun i => Reg.resetRw (Reg.EX_PROF_CFG 0 + i) }
    let set (l : List Nat) (kv : List (Nat × Nat)) : List Nat := kv.foldl (fun l p => l.set p.1 p.2) l
    (extract 9000 iv (header 9000 iv) (set (List.replicate 512 9) [(335, 17), (336, 66), (337, 121), (338, 70), (339, 20)])
      (set (List.replicate 64 72) [(10, 134), (26, 131), (42, 138), (58, 135)])).records
      = [[0x14D97, 0x0003A, 0x12328, 0xD9500]] := by decide +kernel

/-- RST_N low holds the die in reset, with cause 3 (Table 17.3). -/
theorem Tests.test_rst_n : ∃ x, step { w0 with pending := [.rstNAssert 5] } = .next x ∧ x.phase = .inReset ∧ x.h Reg.PW_RST_CAUSE_CAUSE = 3 :=
  ⟨_, rfl, by decide +kernel, by decide +kernel⟩

/-! ### Lemmas of the witnesses -/

theorem Tests.commit_opcode (v : BitVec 32) : (cmdOf 0x11 0 [1, hiOf v, loOf v]).opcode = 0x11 := by
  simp [cmdOf, Cmd.opcode, Cmd.head]

theorem Tests.commit_not_refused (v : BitVec 32) :
    ((w0.ask .svc (cmdOf 0x11 0 [1, hiOf v, loOf v])).clock 5).refusedFirst (cmdOf 0x11 0 [1, hiOf v, loOf v]) = none := by
  have h1 := Tests.commit_opcode v
  have h2 : (cmdOf 0x11 0 [1, hiOf v, loOf v]).np = 3 := by simp [cmdOf, Cmd.np, Cmd.head]
  have h3 : (cmdOf 0x11 0 [1, hiOf v, loOf v]).scores.length = 4 := rfl
  have h4 : (cmdOf 0x11 0 [1, hiOf v, loOf v]).cls = 0 := rfl
  simp only [State.refusedFirst, Cmd.lengthOk, h1, h2, h3, h4]
  rfl

theorem Tests.asks_commit (v : BitVec 32) :
    ((w0.ask .svc (cmdOf 0x11 0 [1, hiOf v, loOf v])).clock 5).asks .svc 0x11 (cmdOf 0x11 0 [1, hiOf v, loOf v]) :=
  ⟨rfl, Tests.commit_opcode v, rfl, Tests.commit_not_refused v, fun q hq d hd => by
    have : q = { key := .svc, cmds := [cmdOf 0x11 0 [1, hiOf v, loOf v]] } := List.mem_singleton.mp hq
    subst this
    have : d = cmdOf 0x11 0 [1, hiOf v, loOf v] := List.mem_singleton.mp hd
    subst this
    exact ⟨rfl, rfl⟩⟩

theorem Tests.commit_value (v : BitVec 32) : v = BitVec.ofNat 32 ((hiOf v).toNat % 2 ^ 12 * 2 ^ 20 + (loOf v).toNat) := by
  rw [Nat.mod_eq_of_lt (show (hiOf v).toNat < 2 ^ 12 from Nat.lt_succ_of_le (hiOf_toNat_le v))]
  exact (joinHL_hiOf_loOf v).symm

theorem Tests.ne_add_one (v : BitVec 384) : v ≠ v + 1 := by simp

theorem Tests.add_one_ne (v : BitVec 32) (h : v = v + 1) : False := by
  have := congrArg BitVec.toNat h
  have := v.isLt
  rw [BitVec.toNat_add, show (1 : BitVec 32).toNat = 1 from rfl] at *
  omega

theorem Tests.reset_set_checks : checkSet w0.shadowTab none = none := by decide +kernel

/-- A scan part runs, a SWAP waits for execution, and the shadow set has a reference. -/
def Tests.swapping (v : BitVec 32) : State :=
  { (w0.setRef true v true).ask .svc (cmdOf 0x10 0 []) with sq := { w0.sq with inScan := true, frameNo := 0xFFFFF, nextBoundary := 12800005 } }

theorem Tests.asks_swap (v : BitVec 32) : ((Tests.swapping v).clock 5).asks .svc 0x10 (cmdOf 0x10 0 []) :=
  ⟨rfl, by decide, rfl, rfl, fun q hq d hd => by
    have : q = { key := .svc, cmds := [cmdOf 0x10 0 []] } := List.mem_singleton.mp hq
    subst this
    have : d = cmdOf 0x10 0 [] := List.mem_singleton.mp hd
    subst this
    exact ⟨rfl, rfl⟩⟩

theorem Tests.swapping_refs (v : BitVec 32) : (Tests.swapping v).h Reg.CF_STAT_LOCK = 0 ∧ (Tests.swapping v).refValid (!(Tests.swapping v).activeB) = true
    ∧ v = (Tests.swapping v).refValue (!(Tests.swapping v).activeB) ∧ (Tests.swapping v).shadowTab = w0.shadowTab := by
  have hb : (Tests.swapping v).activeB = false := State.activeB_setRef w0 true v true
  refine ⟨State.h_setRef_of_ne w0 true v true Reg.CF_STAT_LOCK (by decide), ?_, ?_, ?_⟩
  · rw [hb]; exact State.refValid_setRef w0 true v true
  · rw [hb]; exact (State.refValue_setRef w0 true v true).symm
  · have : (Tests.swapping v).shadowTab = (w0.setRef true v true).shadowTab := rfl
    rw [this, (State.tabs_setRef w0 true v true).2]

/-- No mismatch trips or stops anything. -/
def Tests.quietCrc : State := (w0.withSf Reg.SF_CFG_CRC_TRIP 0).setFo Reg.CF_CRC_CFG_STOP_FIRE 0


theorem Tests.swapping_times {v : BitVec 32} : (Tests.swapping v).now = 0 ∧ (Tests.swapping v).sq.nextBoundary = 12800005 := ⟨rfl, rfl⟩

theorem Tests.checking_ne (z : ZCheck) (q : Nat) (h : q ≠ 0) : (((wPair 0).setChecking 0 (some z)).setH (Reg.AX_STAT_CHK 5) 1).checking q ≠ some 5 := by
  have e : (((wPair 0).setChecking 0 (some z)).setH (Reg.AX_STAT_CHK 5) 1).checking q = none := by
    show (Tab.get (Tab.set (wPair 0).ax.check none 0 (some z)) none q).map (·.chan) = none
    rw [Tab.get_set_ne _ _ _ _ h]
    rfl
  rw [e]
  exact Option.some_ne_none _ |>.symm

theorem Tests.witness_CountersCleared :
    (∃ (s : State),
      s.phase = .ready)
    ∧ (∃ (s : State),
      s.phase = .ready)
    ∧ (∃ (s : State),
      s.phase = .ready)
    ∧ (∃ (s : State),
      s.phase = .ready)
    ∧ (∃ (s : State),
      s.phase = .ready)
    ∧ (∃ (s : State),
      s.phase = .ready)
    ∧ (∃ (s : State),
      s.phase = .ready)
    ∧ (∃ (s : State),
      s.phase = .ready)
    ∧ (∃ (s : State),
      s.phase = .ready) :=
  ⟨⟨w0,
      (by decide +kernel)⟩,
   ⟨w0.setH (Reg.TE_OVF_CNT_COUNT 63) 7,
      (by decide +kernel)⟩,
   ⟨w0,
      (by decide +kernel)⟩,
   ⟨w0,
      (by decide +kernel)⟩,
   ⟨w0,
      (by decide +kernel)⟩,
   ⟨w0,
      (by decide +kernel)⟩,
   ⟨w0,
      (by decide +kernel)⟩,
   ⟨w0,
      (by decide +kernel)⟩,
   ⟨w0,
      (by decide +kernel)⟩⟩

theorem Tests.witness_CountersClearedToo :
    (∃ (s : State),
      s.phase = .ready
        ∧ s.sq.closeDue = false)
    ∧ (∃ (s : State),
      s.phase = .ready)
    ∧ (∃ (s : State),
      s.phase = .ready)
    ∧ (∃ (s : State),
      s.phase = .ready)
    ∧ (∃ (s : State),
      s.phase = .ready)
    ∧ (∃ (s : State),
      s.phase = .ready)
    ∧ (∃ (s : State),
      s.phase = .ready) :=
  ⟨⟨w0,
      (by decide +kernel), (by decide +kernel)⟩,
   ⟨w0,
      (by decide +kernel)⟩,
   ⟨w0,
      (by decide +kernel)⟩,
   ⟨w0,
      (by decide +kernel)⟩,
   ⟨w0,
      (by decide +kernel)⟩,
   ⟨w0,
      (by decide +kernel)⟩,
   ⟨w0,
      (by decide +kernel)⟩⟩

theorem Tests.witness_FramesRunAndScansEnd :
    (∃ (t : Nat) (s : State),
      s.phase = .ready
        ∧ s.sq.inScan = false
        ∧ s.sq.nextBoundary ≤ max s.now t)
    ∧ (∃ (t : Nat) (s : State),
      s.phase = .ready
        ∧ s.sq.inScan = true
        ∧ s.sq.scanEndAt ≤ max s.now t)
    ∧ (∃ (t : Nat) (s : State) (y : Cycle),
      s.phase = .ready
        ∧ s.sq.cyc = some y
        ∧ y.startAt + 100 * y.len ≤ max s.now t) :=
  ⟨⟨0, w0,
      (by decide +kernel), (by decide +kernel), (by decide +kernel)⟩,
   ⟨0, { w0 with sq := { w0.sq with inScan := true } },
      (by decide +kernel), (by decide +kernel), (by decide +kernel)⟩,
   ⟨500, { w0 with sq := { w0.sq with cyc := some ⟨0, 0, 5, 0, false⟩ } }, ⟨0, 0, 5, 0, false⟩,
      (by decide +kernel), (by decide +kernel), (by decide +kernel)⟩⟩

theorem Tests.witness_ReferencesAndIslandsFail :
    (∃ (b : Bool) (s : State),
      s.phase = .ready
        ∧ s.h Reg.EP_STAT_REF_NOW = (if b then 1 else 0)
        ∧ s.sq.refLost = false
        ∧ s.refOk (if b then 0 else 1) = true)
    ∧ (∃ (b : Bool) (s : State),
      s.phase = .ready
        ∧ s.h Reg.EP_STAT_REF_NOW = (if b then 1 else 0)
        ∧ s.sq.refLost = false
        ∧ s.refOk (if b then 0 else 1) = false)
    ∧ (∃ (b : Bool) (s : State),
      s.phase = .ready
        ∧ s.h Reg.EP_STAT_REF_NOW ≠ (if b then 1 else 0))
    ∧ (∃ (a : Option Nat) (b : Option Nat) (n : Nat) (s : State),
      s.phase = .ready
        ∧ s.sq.refLost = true
        ∧ s.sq.refTaken = false
        ∧ refToTake a b (s.f Reg.EP_CFG_REFSEL) = some n)
    ∧ (∃ (w : ClockIsland) (q : ClockIsland) (s : State),
      s.phase = .ready
        ∧ s.safe.stalls.contains (w.ix, q.ix) = false)
    ∧ (∃ (w : ClockIsland) (q : ClockIsland) (s : State),
      s.phase = .ready
        ∧ s.safe.stalls.contains (w.ix, q.ix) = true) :=
  ⟨⟨false, w0,
      (by decide +kernel), (by decide +kernel), (by decide +kernel), (by decide +kernel)⟩,
   ⟨false, { w0 with sq := { w0.sq with refB := false } },
      (by decide +kernel), (by decide +kernel), (by decide +kernel), (by decide +kernel)⟩,
   ⟨true, w0,
      (by decide +kernel), (by decide +kernel)⟩,
   ⟨some 1280000000, none, 0, { w0 with sq := { w0.sq with refLost := true } },
      (by decide +kernel), (by decide +kernel), (by decide +kernel), (by decide +kernel)⟩,
   ⟨.shepherd, .tile 0, w0,
      (by decide +kernel), (by decide +kernel)⟩,
   ⟨.shepherd, .tile 0, { w0 with safe := { w0.safe with stalls := [(ClockIsland.shepherd.ix, (ClockIsland.tile 0).ix)] } },
      (by decide +kernel), (by decide +kernel)⟩⟩

theorem Tests.witness_ReturnTakesEdges : ∃ (c : Chan) (a : Edge) (b : Edge) (cal : CalSet) (x0 : TeShot) (s : State),
      s.phase = .ready
        ∧ (s.chan c).winOpen = true
        ∧ (s.chan c).blind = false
        ∧ (s.chan c).recovFail = false
        ∧ (s.chan c).lastFall = none
        ∧ (s.tile (c / 8)).clamps = []
        ∧ s.tileLock (c / 8) = true
        ∧ (s.chan c).calUsed = some cal
        ∧ s.h (Reg.TE_CH_STAT_FAIL c) = 0
        ∧ s.h (Reg.TE_TILE_STAT_SKEW (c / 8)) = 0
        ∧ s.f (Reg.TE_CH_CFG_WALK c) = 0
        ∧ s.teShot (s.chan c).shot = some x0
        ∧ x0.ffb = none
        ∧ a.instant + 52 ≤ b.instant :=
    ⟨0, ⟨2000, 20, 100⟩, ⟨2052, 20, 120⟩, ⟨⟨168,327⟩,⟨168,327⟩,⟨168,327⟩,⟨168,327⟩⟩, ⟨7, 0, 0, 0, 0, none, false⟩, ((({ w0 with tl := { w0.tl with shots := [⟨7, 0, 0, 0, 0, none, false⟩] } } : State).withF (Reg.TE_CH_CFG_WALK 0) 0).setH (Reg.TL_TILE_STAT_LOCK 0) 1).setChan 0 { winOpen := true, shot := 7, calUsed := some ⟨⟨168,327⟩,⟨168,327⟩,⟨168,327⟩,⟨168,327⟩⟩ },
      (by decide +kernel), (by decide +kernel), (by decide +kernel), (by decide +kernel), (by decide +kernel), (by decide +kernel), (by decide +kernel), (by decide +kernel), (by decide +kernel), (by decide +kernel), (by decide +kernel), (by decide +kernel), (by decide +kernel), (by decide +kernel)⟩

theorem Tests.witness_ClampAndBlanking :
    (∃ (s : State),
      s.phase = .ready)
    ∧ (∃ (c : Chan) (s : State),
      s.phase = .ready
        ∧ (∃ l, l ∈ s.ownClamps c ∧ l.released = none ∧ l.ended = none))
    ∧ (∃ (s : State),
      s.phase = .ready)
    ∧ (∃ (t : Nat) (c : Chan) (s : State),
      s.phase = .ready
        ∧ (s.clock t).blankingLong c = true)
    ∧ (∃ (t : Nat) (k : Tile) (s : State),
      s.phase = .ready
        ∧ (∀ l ∈ (s.tile k).clamps, ∃ r, l.released = some r ∧ r + 1536 ≤ max s.now t)) :=
  ⟨⟨w0,
      (by decide +kernel)⟩,
   ⟨511, w0.setTile 63 { clamps := [⟨511, 2, none, none⟩], xtkOpen := true },
      (by decide +kernel), (by decide +kernel)⟩,
   ⟨w0.setTile 0 { clamps := [⟨0, 2, some 3, none⟩, ⟨0, 4, none, none⟩], xtkOpen := true },
      (by decide +kernel)⟩,
   ⟨128003, 0, w0.setTile 0 { clamps := [⟨0, 2, some 3, none⟩], xtkOpen := true },
      (by decide +kernel), (by decide +kernel)⟩,
   ⟨1536, 63, w0.setTile 63 { xtkOpen := true, clamps := [⟨504, 0, some 0, none⟩] },
      (by decide +kernel), (by decide +kernel)⟩⟩

theorem Tests.witness_BaselineAndWindows :
    (∃ (t : Nat) (c : Chan) (s : State),
      s.phase = .ready
        ∧ s.chanOn c = true
        ∧ s.fu c (Reg.TL_CH_CFG_BL_EN c) = 1
        ∧ (s.chan c).winOpen = false
        ∧ (s.chan c).frozen = false
        ∧ (s.clock t).calibrating (c / 8) = false)
    ∧ (∃ (t : Nat) (c : Chan) (shot : Nat) (w : ShotWin) (s : State),
      s.phase = .ready
        ∧ (s.clock t).dueWindow c shot = some w
        ∧ (s.chan c).winOpen = false)
    ∧ (∃ (t : Nat) (c : Chan) (s : State),
      s.phase = .ready
        ∧ (s.chan c).winOpen = true
        ∧ (s.chan c).closeAt ≤ max s.now t) :=
  ⟨⟨0, 0, (w0.withF (Reg.TL_CH_CFG_EN 0) 1).withF (Reg.TL_TILE_CFG_AFE_EN 0) 1,
      (by decide +kernel), (by decide +kernel), (by decide +kernel), (by decide +kernel), (by decide +kernel), (by decide +kernel)⟩,
   ⟨9, 0, 5, ⟨0, 5, 9, 64009⟩, { w0 with sq := { w0.sq with windows := [⟨0, 5, 9, 64009⟩] } },
      (by decide +kernel), (by decide +kernel), (by decide +kernel)⟩,
   ⟨9, 511, w0.setChan 511 { winOpen := true, shot := 3, frozen := true, closeAt := 9 },
      (by decide +kernel), (by decide +kernel), (by decide +kernel)⟩⟩

theorem Tests.witness_ItemsShotsAndTokensReachFold :
    (∃ (t : Nat) (k : Tile) (shot : Nat) (r : Nat) (a : Score) (b : Score) (q : List QItem) (s : State),
      s.phase = .ready
        ∧ (s.tile k).rr < 8
        ∧ (s.clock t).calibrating k = false
        ∧ (s.chan (8 * k.val + (s.tile k).rr)).queue = .entry shot a b r :: q
        ∧ r ≤ max s.now t)
    ∧ (∃ (t : Nat) (k : Tile) (shot : Nat) (q : List QItem) (s : State),
      s.phase = .ready
        ∧ (s.tile k).rr < 8
        ∧ (s.clock t).calibrating k = false
        ∧ s.tileLock k = true
        ∧ (s.chan (8 * k.val + (s.tile k).rr)).queue = .token shot :: q)
    ∧ (∃ (d : ShotDesc) (r : List ShotDesc) (s : State),
      s.phase = .ready
        ∧ s.fd.inbound = d :: r
        ∧ s.early d = false
        ∧ s.f Reg.FD_CFG_EN = 1
        ∧ s.fd.shots.length < 1024)
    ∧ (∃ (p : Pixel) (q : Nat) (shot : Nat) (k : Nat) (r : List Intake) (d : FdShot) (s : State),
      s.phase = .ready
        ∧ takeIntake p s.fd.intake = some (.token q shot, r)
        ∧ s.fd.shots.reverse.find? (fun z => decide (z.seq = shot)) = some d
        ∧ d.parts.find? (fun z => match z with | .counted a _ _ => decide (a = p.val) | .disabled _ => false) = some (.counted p (s.fdPix p).cur.gen k)) :=
  ⟨⟨4, 63, 3, 4, 5, 6, [.token 3], (w0.setTile 63 { rr := 7 }).setChan 511 { queue := [.entry 3 5 6 4, .token 3] },
      (by decide +kernel), (by decide +kernel), (by decide +kernel), (by decide +kernel), (by decide +kernel)⟩,
   ⟨4, 0, 3, [], (w0.setChan 0 { queue := [.token 3] }).setH (Reg.TL_TILE_STAT_LOCK 0) 1,
      (by decide +kernel), (by decide +kernel), (by decide +kernel), (by decide +kernel), (by decide +kernel)⟩,
   ⟨⟨3, 0, 0, 0, 0, 1, 0, []⟩, [], { (w0.withF Reg.FD_CFG_EN 1) with fd := { w0.fd with inbound := [⟨3, 0, 0, 0, 0, 1, 0, []⟩] } },
      (by decide +kernel), (by decide +kernel), (by decide +kernel), (by decide +kernel), (by decide +kernel)⟩,
   ⟨5, 5, 3, 1, [], ⟨3, 0, 0, 1, [.counted 5 0 1]⟩, { w0 with fd := { w0.fd with intake := [.token 5 3], shots := [⟨3, 0, 0, 1, [.counted 5 0 1]⟩], pix := ⟨[(5, { isOpen := true, cur := { tokens := [2, 3] } })]⟩ } },
      (by decide +kernel), (by decide +kernel), (by decide +kernel), (by decide +kernel)⟩⟩

theorem Tests.witness_TileLockAndSampler :
    (∃ (s : State),
      s.phase = .ready)
    ∧ (∃ (s : State),
      s.phase = .ready)
    ∧ (∃ (k : Tile) (s : State),
      s.phase = .ready
        ∧ s.f (Reg.TL_WS_CFG_MODE k) = 2
        ∧ (s.tile k).wsArmed = true
        ∧ s.samplerOn k = true)
    ∧ (∃ (k : Tile) (s : State),
      s.phase = .ready
        ∧ (s.tile k).wsBusy = true
        ∧ s.regs.waiting = []
        ∧ s.regs.stale = []
        ∧ s.aqUsers 0 k = []) :=
  ⟨⟨w0,
      (by decide +kernel)⟩,
   ⟨w0,
      (by decide +kernel)⟩,
   ⟨0, (((w0.withF (Reg.TL_WS_CFG_MODE 0) 2).withF (Reg.TL_WS_CFG_EN 0) 1).withF (Reg.TL_TILE_CFG_AFE_EN 0) 1).setTile 0 { wsArmed := true },
      (by decide +kernel), (by decide +kernel), (by decide +kernel), (by decide +kernel)⟩,
   ⟨0, w0.setTile 0 { wsBusy := true },
      (by decide +kernel), (by decide +kernel), (by decide +kernel), (by decide +kernel), (by decide +kernel)⟩⟩

theorem Tests.witness_ShotTimesAreReferred :
    (∃ (c : Chan) (k : CalSet) (s : State),
      s.phase = .ready
        ∧ (s.chan c).winOpen = false
        ∧ (s.sq.windows.find? (fun w => decide (w.pixel = c.val)) = none ∨ (s.chan c).lastClose = none)
        ∧ k.valid = true)
    ∧ (∃ (c : Chan) (k : CalSet) (s : State),
      s.phase = .ready
        ∧ (s.chan c).winOpen = false
        ∧ (s.sq.windows.find? (fun w => decide (w.pixel = c.val)) = none ∨ (s.chan c).lastClose = none)
        ∧ k.valid = false)
    ∧ (∃ (e : Emitter) (ed : Edge) (y : TeShot) (s : State),
      s.phase = .ready
        ∧ s.awaitingFfb e = some y
        ∧ y.placedAt ≤ ed.instant
        ∧ ed.instant ≤ y.placedAt + 100 * s.ffbTmo)
    ∧ (∃ (t : Nat) (e : Emitter) (y : TeShot) (s : State),
      s.phase = .ready
        ∧ s.awaitingFfb e = some y
        ∧ y.placedAt + 100 * s.ffbTmo ≤ max s.now t) :=
  ⟨⟨0, ⟨⟨168,327⟩,⟨168,327⟩,⟨168,327⟩,⟨168,327⟩⟩, w0.setChan 0 { awaitCal := true, calBad := 2 },
      (by decide +kernel), (by decide +kernel), (by decide +kernel), (by decide +kernel)⟩,
   ⟨0, ⟨⟨10,10⟩,⟨168,327⟩,⟨168,327⟩,⟨168,327⟩⟩, w0.setChan 0 { cal := some ⟨⟨168,327⟩,⟨168,327⟩,⟨168,327⟩,⟨168,327⟩⟩ },
      (by decide +kernel), (by decide +kernel), (by decide +kernel), (by decide +kernel)⟩,
   ⟨15, ⟨100, 1, 100⟩, ⟨7, 15, 0, 0, 0, none, false⟩, { w0 with tl := { w0.tl with shots := [⟨7, 15, 0, 0, 0, none, false⟩] } },
      (by decide +kernel), (by decide +kernel), (by decide +kernel), (by decide +kernel)⟩,
   ⟨12800, 0, ⟨7, 0, 0, 0, 0, none, false⟩, { w0 with tl := { w0.tl with shots := [⟨7, 0, 0, 0, 0, none, false⟩] } },
      (by decide +kernel), (by decide +kernel), (by decide +kernel)⟩⟩

theorem Tests.witness_StatisticsRuns :
    (∃ (u : StUnit) (s : State),
      s.phase = .ready
        ∧ s.h (Reg.TE_ST_STAT_BUSY u) = 0
        ∧ s.fst (Reg.TE_ST_N_N u) < 2)
    ∧ (∃ (u : StUnit) (s : State),
      s.phase = .ready
        ∧ s.h (Reg.TE_ST_STAT_BUSY u) = 1)
    ∧ (∃ (u : StUnit) (s : State),
      s.phase = .ready
        ∧ s.h (Reg.TE_ST_STAT_BUSY u) = 0
        ∧ 2 ≤ s.fst (Reg.TE_ST_N_N u)
        ∧ s.fst (Reg.TE_ST_CFG_STOP_SEL u) ≤ 2)
    ∧ (∃ (u : StUnit) (s : State),
      s.phase = .ready
        ∧ s.h (Reg.TE_ST_STAT_BUSY u) = 1
        ∧ 2 ≤ (s.stRun u).n)
    ∧ (∃ (u : StUnit) (s : State),
      s.phase = .ready
        ∧ s.h (Reg.TE_ST_STAT_BUSY u) = 1
        ∧ (s.stRun u).n < 2) :=
  ⟨⟨3, w0.setFo (Reg.TE_ST_N_N 3) 1,
      (by decide +kernel), (by decide +kernel), (by decide +kernel)⟩,
   ⟨0, w0.setH (Reg.TE_ST_STAT_BUSY 0) 1,
      (by decide +kernel), (by decide +kernel)⟩,
   ⟨3, w0.setFo (Reg.TE_ST_N_N 3) 2,
      (by decide +kernel), (by decide +kernel), (by decide +kernel), (by decide +kernel)⟩,
   ⟨0, (w0.setH (Reg.TE_ST_STAT_BUSY 0) 1).setStRun 0 ⟨2, 30, 500, 10, 20⟩,
      (by decide +kernel), (by decide +kernel), (by decide +kernel)⟩,
   ⟨0, (w0.setH (Reg.TE_ST_STAT_BUSY 0) 1).setStRun 0 ⟨1, 30, 500, 10, 20⟩,
      (by decide +kernel), (by decide +kernel), (by decide +kernel)⟩⟩

theorem Tests.witness_ShepherdCyclesRun :
    (∃ (t : Nat) (y : Cycle) (s : State),
      s.phase = .ready
        ∧ s.regs.waiting = []
        ∧ s.sq.cyc = some y
        ∧ y.startAt + 100 * y.len ≤ max s.now t + 6400
        ∧ s.sq.nextCopy = none)
    ∧ (∃ (t : Nat) (y : Cycle) (s : State),
      s.phase = .ready
        ∧ s.sq.halted = false
        ∧ s.sq.inScan = true
        ∧ s.sq.cyc = none
        ∧ max s.now t < s.sq.scanEndAt
        ∧ s.sq.upcoming = some y
        ∧ y.startAt ≤ max s.now t) :=
  ⟨⟨200000, ⟨1, 0, 1280, 0, false⟩, w0.cycling,
      (by decide +kernel), (by decide +kernel), (by decide +kernel), (by decide +kernel), (by decide +kernel)⟩,
   ⟨0, ⟨1, 0, 1280, 0, false⟩, { w0 with sq := { w0.sq with inScan := true, scanEndAt := 12800000, upcoming := some ⟨1, 0, 1280, 0, false⟩ } },
      (by decide +kernel), (by decide +kernel), (by decide +kernel), (by decide +kernel), (by decide +kernel), (by decide +kernel), (by decide +kernel)⟩⟩

theorem Tests.witness_ShotsAreCommitted :
    (∃ (y : Cycle) (n : Nat) (s : State),
      s.phase = .ready
        ∧ s.sq.cyc = some y
        ∧ nextEnabled s.sqReg s.entries y.next = some n
        ∧ entryValid s.sqReg s.entries s.cycLen n = true)
    ∧ (∃ (y : Cycle) (n : Nat) (s : State),
      s.phase = .ready
        ∧ s.sq.cyc = some y
        ∧ nextEnabled s.sqReg s.entries y.next = some n
        ∧ entryValid s.sqReg s.entries s.cycLen n = true
        ∧ y.throttled = false
        ∧ s.firing = true
        ∧ s.th.fireInh = false
        ∧ s.h Reg.TH_STAT_SHUTDOWN = 0
        ∧ s.sq.refLost = false
        ∧ s.fireBankBad = false
        ∧ s.gateShut = false
        ∧ y.startAt + 100 * ((shotEntry s.sqReg n).slot + winOfs s.sqReg (shotEntry s.sqReg n).win + winLen s.sqReg (shotEntry s.sqReg n).win) ≤ s.sq.scanEndAt
        ∧ s.govRefuses (shotEntry s.sqReg n).emit (y.startAt + 100 * (shotEntry s.sqReg n).slot) = none)
    ∧ (∃ (y : Cycle) (n : Nat) (s : State),
      s.phase = .ready
        ∧ s.sq.cyc = some y
        ∧ nextEnabled s.sqReg s.entries y.next = some n
        ∧ s.fq (Reg.SQ_GOV_B100_B (shotEntry s.sqReg n).emit) = 0) :=
  ⟨⟨⟨1, 0, 1280, 0, false⟩, 0, (w0.withSq oneShot).cycling,
      (by decide +kernel), (by decide +kernel), (by decide +kernel), (by decide +kernel)⟩,
   ⟨⟨1, 0, 1280, 0, false⟩, 0, (((w0.withSq (oneShot ++ [(Reg.SQ_GOV_B100 0, 0xFFFFF), (Reg.SQ_GOV_B10M 0, 0xFFFFF), (Reg.SQ_GOV_B1S 0, 0xFFFFF)])).cycling).setH Reg.SQ_STAT_RUN 1).setH Reg.SQ_SEQ_SEQ 0xFFFFF,
      (by decide +kernel), (by decide +kernel), (by decide +kernel), (by decide +kernel), (by decide +kernel), (by decide +kernel), (by decide +kernel), (by decide +kernel), (by decide +kernel), (by decide +kernel), (by decide +kernel), (by decide +kernel), (by decide +kernel)⟩,
   ⟨⟨1, 0, 1280, 0, false⟩, 0, ((w0.withSq (oneShot ++ [(Reg.SQ_GOV_B100 0, 0)])).cycling).setH Reg.SQ_STAT_RUN 1,
      (by decide +kernel), (by decide +kernel), (by decide +kernel), (by decide +kernel)⟩⟩

theorem Tests.witness_GovernorAndExternalStarts :
    (∃ (s : State),
      s.phase = .ready)
    ∧ (∃ (src : ExtSource) (s : State),
      s.phase = .ready
        ∧ src ≠ .triggerUnit
        ∧ s.fq Reg.SQ_CFG_START_SRC = 1
        ∧ s.fq Reg.SQ_CFG_EXT_SEL = src.sel
        ∧ s.sq.inScan = false)
    ∧ (∃ (src : ExtSource) (s : State),
      s.phase = .ready
        ∧ src ≠ .triggerUnit
        ∧ s.sq.halted = false
        ∧ s.fq Reg.SQ_CFG_START_SRC = 1
        ∧ s.fq Reg.SQ_CFG_EXT_SEL = src.sel
        ∧ s.sq.inScan = true
        ∧ s.sq.cyc.isSome = true
        ∧ s.h Reg.SQ_STAT_PEND = 0)
    ∧ (∃ (t : Nat) (src : ExtSource) (s : State),
      s.phase = .ready
        ∧ src ≠ .triggerUnit
        ∧ s.sq.halted = false
        ∧ s.fq Reg.SQ_CFG_START_SRC = 1
        ∧ s.fq Reg.SQ_CFG_EXT_SEL = src.sel
        ∧ s.sq.inScan = true
        ∧ s.sq.cyc = none
        ∧ s.sq.upcoming = none
        ∧ max s.now t + 3200 < s.sq.scanEndAt)
    ∧ (∃ (t : Nat) (a : Nat) (r : List Nat) (s : State),
      s.phase = .ready
        ∧ (s.aq.toShepherd.filter fun x => decide (max s.now t ≤ x + 6400)) = a :: r
        ∧ s.sq.halted = false
        ∧ s.fq Reg.SQ_CFG_START_SRC = 1
        ∧ s.fq Reg.SQ_CFG_EXT_SEL = ExtSource.triggerUnit.sel
        ∧ s.sq.inScan = true
        ∧ s.sq.cyc.isSome = true
        ∧ s.h Reg.SQ_STAT_PEND = 0)
    ∧ (∃ (t : Nat) (a : Nat) (r : List Nat) (s : State),
      s.phase = .ready
        ∧ (s.aq.toShepherd.filter fun x => decide (max s.now t ≤ x + 6400)) = a :: r
        ∧ s.sq.halted = false
        ∧ s.fq Reg.SQ_CFG_START_SRC = 1
        ∧ s.fq Reg.SQ_CFG_EXT_SEL = ExtSource.triggerUnit.sel
        ∧ s.sq.inScan = true
        ∧ s.sq.cyc = none
        ∧ s.sq.upcoming = none
        ∧ max s.now t + 3200 < s.sq.scanEndAt)
    ∧ (∃ (t : Nat) (s : State),
      s.phase = .ready
        ∧ (s.aq.toShepherd.filter fun x => decide (max s.now t ≤ x + 6400)) = []) :=
  ⟨⟨{ w0 with sq := { w0.sq with govInh := [0, 3, 15] } },
      (by decide +kernel)⟩,
   ⟨.csync0, w0.withSq [(Reg.SQ_CFG, (Reg.SQ_CFG_START_SRC.put 0 1))],
      (by decide +kernel), (by decide +kernel), (by decide +kernel), (by decide +kernel), (by decide +kernel)⟩,
   ⟨.csync0, (w0.withSq [(Reg.SQ_CFG, (Reg.SQ_CFG_START_SRC.put 0 1))]).cycling,
      (by decide +kernel), (by decide +kernel), (by decide +kernel), (by decide +kernel), (by decide +kernel), (by decide +kernel), (by decide +kernel), (by decide +kernel)⟩,
   ⟨0, .csync0, { (w0.withSq [(Reg.SQ_CFG, (Reg.SQ_CFG_START_SRC.put 0 1))]) with sq := { (w0.withSq [(Reg.SQ_CFG, (Reg.SQ_CFG_START_SRC.put 0 1))]).sq with inScan := true, scanEndAt := 12800000 } },
      (by decide +kernel), (by decide +kernel), (by decide +kernel), (by decide +kernel), (by decide +kernel), (by decide +kernel), (by decide +kernel), (by decide +kernel), (by decide +kernel)⟩,
   ⟨9000, 2600, [], { (w0.withSq [(Reg.SQ_CFG, Reg.SQ_CFG_START_SRC.put (Reg.SQ_CFG_EXT_SEL.put 0 ExtSource.triggerUnit.sel) 1)]).cycling with aq := { w0.aq with toShepherd := [2599, 2600] } },
      (by decide +kernel), (by decide +kernel), (by decide +kernel), (by decide +kernel), (by decide +kernel), (by decide +kernel), (by decide +kernel), (by decide +kernel)⟩,
   ⟨9000, 2600, [8000], { (w0.withSq [(Reg.SQ_CFG, Reg.SQ_CFG_START_SRC.put (Reg.SQ_CFG_EXT_SEL.put 0 ExtSource.triggerUnit.sel) 1)]) with sq := { (w0.withSq [(Reg.SQ_CFG, Reg.SQ_CFG_START_SRC.put (Reg.SQ_CFG_EXT_SEL.put 0 ExtSource.triggerUnit.sel) 1)]).sq with inScan := true, scanEndAt := 12800000 }, aq := { w0.aq with toShepherd := [2599, 2600, 8000] } },
      (by decide +kernel), (by decide +kernel), (by decide +kernel), (by decide +kernel), (by decide +kernel), (by decide +kernel), (by decide +kernel), (by decide +kernel), (by decide +kernel)⟩,
   ⟨9000, { w0 with aq := { w0.aq with toShepherd := [1, 2] } },
      (by decide +kernel), (by decide +kernel)⟩⟩

theorem Tests.witness_LateEventsDiscarded :
    (∃ (p : Pixel) (q : Nat) (shot : Nat) (gen : Nat) (k : Nat) (stamp : Score) (tag : Score) (r : List Intake) (d : FdShot) (s : State),
      s.phase = .ready
        ∧ s.f Reg.FD_CFG_EN = 1
        ∧ takeIntake p s.fd.intake = some (.analog q shot stamp tag, r)
        ∧ tagBit tag 10 = false
        ∧ tagBit tag 9 = false
        ∧ s.fd.shots.reverse.find? (fun z => decide (z.seq = shot)) = some d
        ∧ d.parts.find? (fun z => match z with | .counted a _ _ => decide (a = p.val) | .disabled a => decide (a = p.val)) = some (.counted p gen k)
        ∧ (s.fdPix p).has gen = false)
    ∧ (∃ (p : Pixel) (q : Nat) (shot : Nat) (gen : Nat) (k : Nat) (stamp : Score) (hs : Bool) (hl : Bool) (r : List Intake) (d : FdShot) (s : State),
      s.phase = .ready
        ∧ s.f Reg.FD_CFG_EN = 1
        ∧ takeIntake p s.fd.intake = some (.head q shot stamp hs hl, r)
        ∧ s.fd.shots.reverse.find? (fun z => decide (z.seq = shot)) = some d
        ∧ d.parts.find? (fun z => match z with | .counted a _ _ => decide (a = p.val) | .disabled a => decide (a = p.val)) = some (.counted p gen k)
        ∧ (s.fdPix p).has gen = false) :=
  ⟨⟨16895, 16895, 3, 7, 1, 5, 0, [], ⟨3, 0, 0, 1, [.counted 16895 7 1]⟩, { (w0.withF Reg.FD_CFG_EN 1) with fd := { w0.fd with intake := [.analog 16895 3 5 0], shots := [⟨3, 0, 0, 1, [.counted 16895 7 1]⟩] } },
      (by decide +kernel), (by decide +kernel), (by decide +kernel), (by decide +kernel), (by decide +kernel), (by decide +kernel), (by decide +kernel), (by decide +kernel)⟩,
   ⟨512, 512, 3, 7, 1, 5, true, false, [.token 1 2], ⟨3, 0, 0, 1, [.counted 512 7 1]⟩, { (w0.withF Reg.FD_CFG_EN 1) with fd := { w0.fd with intake := [.head 512 3 5 true false, .token 1 2], shots := [⟨3, 0, 0, 1, [.counted 512 7 1]⟩] } },
      (by decide +kernel), (by decide +kernel), (by decide +kernel), (by decide +kernel), (by decide +kernel), (by decide +kernel)⟩⟩

theorem Tests.witness_EventsBecomeRequests : ∃ (p : Pixel) (q : Nat) (shot : Nat) (k : Nat) (b : Nat) (stamp : Score) (tag : Score) (r : List Intake) (d : FdShot) (s : State),
      s.phase = .ready
        ∧ s.f Reg.FD_CFG_EN = 1
        ∧ takeIntake p s.fd.intake = some (.analog q shot stamp tag, r)
        ∧ tagBit tag 10 = false
        ∧ tagBit tag 9 = false
        ∧ s.fd.shots.reverse.find? (fun z => decide (z.seq = shot)) = some d
        ∧ d.parts.find? (fun z => match z with | .counted a _ _ => decide (a = p.val) | .disabled a => decide (a = p.val))
      = some (.counted p (s.fdPix p).cur.gen k)
        ∧ binOf (s.fdPix p).cur.desc stamp.toNat d.dither = .bin b
        ∧ descTrace (s.fdPix p).cur.desc = false :=
    ⟨9000, 9000, 3, 1, 337, 89134, 0, [], ⟨3, 3741, 0, 1, [.counted 9000 0 1]⟩, { (w0.withF Reg.FD_CFG_EN 1) with fd := { w0.fd with intake := [.analog 9000 3 89134 0], shots := [⟨3, 3741, 0, 1, [.counted 9000 0 1]⟩], pix := ⟨[(9000, { isOpen := true, desc := [0xC403F, 0x152A, 0x13880], cur := { desc := [0xC403F, 0x152A, 0x13880] } })]⟩ } },
      (by decide +kernel), (by decide +kernel), (by decide +kernel), (by decide +kernel), (by decide +kernel), (by decide +kernel), (by decide +kernel), (by decide +kernel), (by decide +kernel)⟩

theorem Tests.witness_FoldMemoryWrites :
    (∃ (t : Nat) (b : Fin 1024) (e : Coal) (q : List Coal) (s : State),
      s.phase = .ready
        ∧ Tab.get s.fd.coal [] b = e :: q
        ∧ (s.clock t).fdMay (bankMem b) 1 = true)
    ∧ (∃ (p : Pixel) (s : State),
      s.phase = .ready
        ∧ (s.fdPix p).clearing = true
        ∧ s.fd.mem.wf 0 = true) :=
  ⟨⟨0, 3, ⟨100, 6, 5, 0⟩, [], { w0 with fd := { w0.fd with coal := ⟨[(3, [⟨100, 6, 5, 0⟩])]⟩, mem := ⟨[(100, 1048573), (101, 2)]⟩ } },
      (by decide +kernel), (by decide +kernel), (by decide +kernel)⟩,
   ⟨5, { w0 with fd := { w0.fd with pix := ⟨[(5, { clearing := true, desc := [0x80000, 0, 96] })]⟩, mem := ⟨[(95, 1), (96, 7), (400, 2)]⟩ } },
      (by decide +kernel), (by decide +kernel), (by decide +kernel)⟩⟩

theorem Tests.witness_RequestsCoalesceOrDrop :
    (∃ (t : Nat) (k : FoldCluster) (port : Fin 16) (r : Req) (l : List Req) (s : State),
      s.phase = .ready
        ∧ Tab.get s.fd.ports [] (16 * k.val + port.val) = r :: l
        ∧ (Tab.get s.fd.coal [] (bankOf r.addr)).any (fun e => decide (e.addr = r.addr)) = false
        ∧ (Tab.get s.fd.coal [] (bankOf r.addr)).length < 16
        ∧ (s.clock t).fdMay (portPlace k port) 1 = true
        ∧ (s.clock t).fdMay (bankIn (bankOf r.addr)) 4 = true)
    ∧ (∃ (t : Nat) (k : FoldCluster) (port : Fin 16) (r : Req) (l : List Req) (s : State),
      s.phase = .ready
        ∧ Tab.get s.fd.ports [] (16 * k.val + port.val) = r :: l
        ∧ r.arrived + 230400 ≤ max s.now t) :=
  ⟨⟨0, 15, 15, ⟨100, 5, 0, 0⟩, [], { w0 with fd := { w0.fd with ports := ⟨[(255, [⟨100, 5, 0, 0⟩])]⟩ } },
      (by decide +kernel), (by decide +kernel), (by decide +kernel), (by decide +kernel), (by decide +kernel), (by decide +kernel)⟩,
   ⟨230400, 15, 15, ⟨100, 5, 0, 0⟩, [], { w0 with fd := { w0.fd with ports := ⟨[(255, [⟨100, 5, 0, 0⟩])]⟩ } },
      (by decide +kernel), (by decide +kernel), (by decide +kernel)⟩⟩

theorem Tests.witness_BuffersAreReleased :
    (∃ (t : Nat) (p : Pixel) (iv : Interval) (s : State),
      s.phase = .ready
        ∧ (s.fdPix p).closed.find? (fun i => i.ripe (max s.now t)) = some iv)
    ∧ (∃ (t : Nat) (p : Pixel) (iv : Interval) (s : State),
      s.phase = .ready
        ∧ (s.fdPix p).closed.find? (fun i => i.overdue (max s.now t)) = some iv)
    ∧ (∃ (t : Nat) (u : Nat) (s : State),
      s.phase = .ready
        ∧ s.fd.suspectUntil = some u
        ∧ u ≤ max s.now t) :=
  ⟨⟨256000, 5, { gen := 1, desc := [0x80000, 0, 96] }, { w0 with fd := { w0.fd with pix := ⟨[(5, { isOpen := true, desc := [0x80000, 0, 96], closed := [{ gen := 1, desc := [0x80000, 0, 96] }] })]⟩ } },
      (by decide +kernel), (by decide +kernel)⟩,
   ⟨5120000, 5, { gen := 1, desc := [0x80000, 0, 96], tokens := [9] }, { w0 with fd := { w0.fd with pix := ⟨[(5, { isOpen := true, desc := [0x80000, 0, 96], closed := [{ gen := 1, desc := [0x80000, 0, 96], tokens := [9] }] })]⟩ } },
      (by decide +kernel), (by decide +kernel)⟩,
   ⟨5, 5, { w0 with fd := { w0.fd with refSwitching := true, suspectUntil := some 5 } },
      (by decide +kernel), (by decide +kernel), (by decide +kernel)⟩⟩

theorem Tests.witness_HistogramsAreRead :
    (∃ (c : ExCluster) (r : Released) (l : List Released) (s : State),
      s.phase = .ready
        ∧ s.ex.released = r :: l
        ∧ s.fd.mem.wf 0 = true
        ∧ s.ex.procs.any (fun p => decide (p.cluster = c) && p.scanning) = false
        ∧ s.echoLoad c ≤ 40
        ∧ descTrace r.iv.desc = false)
    ∧ (∃ (c : ExCluster) (p : Proc) (s : State),
      s.phase = .ready
        ∧ s.ex.procs.find? (fun q => decide (q.cluster = c.val) && q.scanning) = some p)
    ∧ (∃ (c : ExCluster) (p : Proc) (s : State),
      s.phase = .ready
        ∧ s.writable c = some p)
    ∧ (∃ (n : Nat) (s : State),
      s.phase = .ready
        ∧ s.ex.markDue = some n
        ∧ s.frameBusy n = false) :=
  ⟨⟨7, ⟨9000, { desc := [0x80000, 0, 96], n := 4, prof := List.replicate 8 0 }, [0, 0], 0⟩, [], { w0 with ex := { w0.ex with released := [⟨9000, { desc := [0x80000, 0, 96], n := 4, prof := List.replicate 8 0 }, [0, 0], 0⟩] }, fd := { w0.fd with mem := ⟨[(5, 3), (300, 2)]⟩ } },
      (by decide +kernel), (by decide +kernel), (by decide +kernel), (by decide +kernel), (by decide +kernel), (by decide +kernel)⟩,
   ⟨7, ⟨7, ⟨9000, { desc := [0x80000, 0, 96] }, [], 0⟩, [], [], true⟩, { w0 with ex := { w0.ex with procs := [⟨7, ⟨9000, { desc := [0x80000, 0, 96] }, [], 0⟩, [], [], true⟩] } },
      (by decide +kernel), (by decide +kernel)⟩,
   ⟨7, ⟨7, ⟨9000, { desc := [0x80000, 0, 96], prof := List.replicate 8 0 }, [0, 0], 0⟩, List.replicate 256 0, [], false⟩, { w0 with ex := { w0.ex with procs := [⟨7, ⟨9000, { desc := [0x80000, 0, 96], prof := List.replicate 8 0 }, [0, 0], 0⟩, List.replicate 256 0, [], false⟩] } },
      (by decide +kernel), (by decide +kernel)⟩,
   ⟨1048575, { w0 with ex := { w0.ex with markDue := some 1048575 } },
      (by decide +kernel), (by decide +kernel), (by decide +kernel)⟩⟩

theorem Tests.witness_TransfersStartAndStop :
    (∃ (c : DmaCh) (r : DmaChan) (s : State),
      s.phase = .ready
        ∧ Tab.get s.dm.chans none c = some r)
    ∧ (∃ (c : DmaCh) (s : State),
      s.phase = .ready
        ∧ Tab.get s.dm.chans none c = none
        ∧ s.dmaCheck (s.dmaFields c) = 0
        ∧ (s.dmaFields c).count ≠ 0)
    ∧ (∃ (c : DmaCh) (s : State),
      s.phase = .ready
        ∧ Tab.get s.dm.chans none c = none
        ∧ (s.dmaCheck (s.dmaFields c) ≠ 0 ∨ (s.dmaFields c).count = 0))
    ∧ (∃ (t : Nat) (c : DmaCh) (r : DmaChan) (s : State),
      s.phase = .ready
        ∧ Tab.get s.dm.chans none c = some r
        ∧ (r.skind ≠ 2 ∨ r.held = [])
        ∧ (s.clock t).dmaFits ((DmaRun.mk r [] [] [] false none).flush (s.dmaDest r)) = true) :=
  ⟨⟨31, { cfg := 0, src := 0, dst := 0, count := 1, stride := 0, left := 1 }, { w0 with dm := { w0.dm with chans := ⟨[(31, some { cfg := 0, src := 0, dst := 0, count := 1, stride := 0, left := 1 })]⟩ } },
      (by decide +kernel), (by decide +kernel)⟩,
   ⟨31, (((((w0.setFo (Reg.DM_CH_CNT_COUNT 31) 4).setFo (Reg.DM_CH_CFG_SKIND 31) 1).setFo (Reg.DM_CH_CFG_DKIND 31) 1).setFo (Reg.DM_CH_SRC_H_ADDR_H 31) 1).setFo (Reg.DM_CH_DST_H_ADDR_H 31) 1).setFo (Reg.DM_CH_DST_L_ADDR_L 31) 0x1000,
      (by decide +kernel), (by decide +kernel), (by decide +kernel), (by decide +kernel)⟩,
   ⟨31, w0,
      (by decide +kernel), (by decide +kernel), (by decide +kernel)⟩,
   ⟨0, 0, { cfg := 0, src := 0, dst := 0, count := 1, stride := 0, left := 1 }, { w0 with dm := { w0.dm with chans := ⟨[(0, some { cfg := 0, src := 0, dst := 0, count := 1, stride := 0, left := 1 })]⟩ } },
      (by decide +kernel), (by decide +kernel), (by decide +kernel), (by decide +kernel)⟩⟩

theorem Tests.witness_GrantsReadOneElement :
    (∃ (t : Nat) (c : Nat) (s : State),
      s.phase = .ready
        ∧ (s.clock t).dmaNext = some c)
    ∧ (∃ (t : Nat) (c : Nat) (r : DmaChan) (s : State),
      s.phase = .ready
        ∧ (s.clock t).dmaNext = some c
        ∧ Tab.get s.dm.chans none c = some r
        ∧ r.skind = 1
        ∧ r.shuf = 0
        ∧ 1 < r.left
        ∧ r.stopping = false)
    ∧ (∃ (t : Nat) (c : Nat) (r : DmaChan) (s : State),
      s.phase = .ready
        ∧ (s.clock t).dmaNext = some c
        ∧ Tab.get s.dm.chans none c = some r
        ∧ r.skind = 1
        ∧ r.shuf = 0
        ∧ r.left = 1
        ∧ s.dmaFits ((DmaRun.element { c := r } (s.dmaDest r) (s.sramElem r)).flush (s.dmaDest r)) = true)
    ∧ (∃ (t : Nat) (q : Queue) (u : Sub) (i : DmItem) (l : List DmItem) (s : State),
      s.phase = .ready
        ∧ s.subsOf 0 q = [u]
        ∧ (s.dmQueue q).waitingFor u.idx = i :: l
        ∧ i.since + s.f (Reg.DM_Q_CFG_HOLD q) * lsbUs ≤ max s.now t) :=
  ⟨⟨0, 5, { w0 with dm := { w0.dm with chans := ⟨[(5, some { cfg := (Reg.DM_CH_CFG_DKIND 0).put ((Reg.DM_CH_CFG_SKIND 0).put 0 1) 1, src := 0x100000, dst := 0x100100, count := 2, stride := 0, left := 2 })]⟩ } },
      (by decide +kernel), (by decide +kernel)⟩,
   ⟨0, 5, { cfg := (Reg.DM_CH_CFG_DKIND 0).put ((Reg.DM_CH_CFG_SKIND 0).put 0 1) 1, src := 0x100000, dst := 0x100100, count := 2, stride := 0, left := 2 }, { w0 with dm := { w0.dm with sram := ⟨[(0x100000, 7)]⟩, chans := ⟨[(5, some { cfg := (Reg.DM_CH_CFG_DKIND 0).put ((Reg.DM_CH_CFG_SKIND 0).put 0 1) 1, src := 0x100000, dst := 0x100100, count := 2, stride := 0, left := 2 })]⟩ } },
      (by decide +kernel), (by decide +kernel), (by decide +kernel), (by decide +kernel), (by decide +kernel), (by decide +kernel), (by decide +kernel)⟩,
   ⟨0, 5, { cfg := (Reg.DM_CH_CFG_DKIND 0).put ((Reg.DM_CH_CFG_SKIND 0).put 0 1) 1, src := 0x100000, dst := 0x100100, count := 1, stride := 0, left := 1 }, { w0 with dm := { w0.dm with sram := ⟨[(0x100000, 7)]⟩, chans := ⟨[(5, some { cfg := (Reg.DM_CH_CFG_DKIND 0).put ((Reg.DM_CH_CFG_SKIND 0).put 0 1) 1, src := 0x100000, dst := 0x100100, count := 1, stride := 0, left := 1 })]⟩ } },
      (by decide +kernel), (by decide +kernel), (by decide +kernel), (by decide +kernel), (by decide +kernel), (by decide +kernel), (by decide +kernel)⟩,
   ⟨12800000, 15, ⟨3, 0, 15, .eth 7 9, 128, none⟩, ⟨[1, 2, 3, 4], [3], 0⟩, [], { (w0.setDmQueue 15 { items := [⟨[1, 2, 3, 4], [3], 0⟩] }) with fl := { w0.fl with subs := [⟨3, 0, 15, .eth 7 9, 128, none⟩] } },
      (by decide +kernel), (by decide +kernel), (by decide +kernel), (by decide +kernel)⟩⟩

theorem Tests.witness_ServoSamplesAreTaken :
    (∃ (a : Axis) (p : PosSample) (s : State),
      s.phase = .ready
        ∧ s.sq.closeDue = false
        ∧ (s.axis a).inbox = some p)
    ∧ (∃ (a : Axis) (p : PosSample) (s : State),
      s.phase = .ready
        ∧ s.sq.closeDue = false
        ∧ (s.axis a).inbox = some p
        ∧ p.usable = true)
    ∧ (∃ (a : Axis) (p : PosSample) (s : State),
      s.phase = .ready
        ∧ s.sq.closeDue = false
        ∧ s.regs.waiting = []
        ∧ s.regs.stale = []
        ∧ (s.axis a).inbox = some p
        ∧ p.usable = false) :=
  ⟨⟨3, ⟨7, false⟩, w0.setAxis 3 { inbox := some ⟨7, false⟩, u := 5 },
      (by decide +kernel), (by decide +kernel), (by decide +kernel)⟩,
   ⟨3, ⟨-524288, true⟩, w0.setAxis 3 { inbox := some ⟨-524288, true⟩, u := 5, bad := 7 },
      (by decide +kernel), (by decide +kernel), (by decide +kernel), (by decide +kernel)⟩,
   ⟨3, ⟨7, false⟩, w0.setAxis 3 { inbox := some ⟨7, false⟩, u := 5 },
      (by decide +kernel), (by decide +kernel), (by decide +kernel), (by decide +kernel), (by decide +kernel), (by decide +kernel)⟩⟩

theorem Tests.witness_ServoModesAndFaults :
    (∃ (a : Axis) (s : State),
      s.phase = .ready
        ∧ (s.axis a).forceDue = true)
    ∧ (∃ (a : Axis) (s : State),
      s.phase = .ready
        ∧ s.axState a = 2
        ∧ (s.axis a).sumN ≠ 0)
    ∧ (∃ (t : Nat) (a : Axis) (s : State),
      s.phase = .ready
        ∧ s.axState a = 2
        ∧ s.h (Reg.SV_AX_STAT_LOCK a) = 0
        ∧ (s.axis a).acqTmo = false
        ∧ (s.axis a).acqAt + s.av a (Reg.SV_ACQ_CFG_TMO a) * lsbMs ≤ max s.now t)
    ∧ (∃ (a : Axis) (s : State),
      s.phase = .ready
        ∧ s.axState a ≠ 0
        ∧ s.axState a ≠ 4
        ∧ 8 ≤ (s.axis a).bad)
    ∧ (∃ (a : Axis) (s : State),
      s.phase = .ready
        ∧ (s.axis a).oscDue = true)
    ∧ (∃ (s : State),
      s.phase = .ready)
    ∧ (∃ (s : State),
      s.phase = .ready)
    ∧ (∃ (a : Axis) (s : State),
      s.phase = .ready
        ∧ s.h (Reg.SV_AX_STAT_TEST a) = 1
        ∧ 0 < s.av a (Reg.SV_INJ_LEN_LEN a)
        ∧ s.av a (Reg.SV_INJ_LEN_LEN a) ≤ (s.axis a).injK) :=
  ⟨⟨0, w0.setAxis 0 { forceDue := true },
      (by decide +kernel), (by decide +kernel)⟩,
   ⟨3, (w0.setAxis 3 { sumN := 4, sumRe := 5, sumIm := 6 }).setH (Reg.SV_AX_STAT_STATE 3) 2,
      (by decide +kernel), (by decide +kernel), (by decide +kernel)⟩,
   ⟨128000000000, 3, w0.setH (Reg.SV_AX_STAT_STATE 3) 2,
      (by decide +kernel), (by decide +kernel), (by decide +kernel), (by decide +kernel), (by decide +kernel)⟩,
   ⟨3, (w0.setAxis 3 { bad := 8 }).setH (Reg.SV_AX_STAT_STATE 3) 3,
      (by decide +kernel), (by decide +kernel), (by decide +kernel), (by decide +kernel)⟩,
   ⟨0, w0.setAxis 0 { oscDue := true },
      (by decide +kernel), (by decide +kernel)⟩,
   ⟨w0,
      (by decide +kernel)⟩,
   ⟨w0,
      (by decide +kernel)⟩,
   ⟨3, ((w0.withF (Reg.SV_INJ_LEN_LEN 3) 5).setAxis 3 { injK := 5 }).setH (Reg.SV_AX_STAT_TEST 3) 1,
      (by decide +kernel), (by decide +kernel), (by decide +kernel), (by decide +kernel)⟩⟩

theorem Tests.witness_ConverterSlotsAdvance : ∃ (t : Nat) (p : Pair) (s : State),
      s.phase = .ready
        ∧ s.sq.closeDue = false
        ∧ s.pairRuns p = true
        ∧ s.inCalSlot p = false
        ∧ s.checking p = none
        ∧ (∀ c, (s.axChan c).zWait = false)
        ∧ s.regs.waiting = []
        ∧ s.regs.stale = []
        ∧ s.fu p (Reg.AX_PAIR_CFG_RUN p) = 1
        ∧ s.slotAt p + s.outPeriod p ≤ max s.now t
        ∧ s.h (Reg.AX_PAIR_STAT_SLOT p) + 1 < s.nslot p :=
    ⟨12800000000, 3, (((w0.withF (Reg.AX_PAIR_CFG_RUN 3) 1).withF (Reg.AX_PAIR_CFG_NSLOT 3) 2).setH (Reg.AX_PAIR_STAT_RUNNING 3) 1),
      (by decide +kernel), (by decide +kernel), (by decide +kernel), (by decide +kernel), (by decide +kernel), (fun _ => rfl), (by decide +kernel), (by decide +kernel), (by decide +kernel), (by decide +kernel), (by decide +kernel)⟩

theorem Tests.witness_ConvertersReact :
    (∃ (p : Pair) (c : Nat) (s : State),
      s.phase = .ready
        ∧ s.watched p = some c
        ∧ s.fu p (Reg.AX_PAIR_CFG_SOLO p) ≠ 2)
    ∧ (∃ (p : Pair) (c : Nat) (s : State),
      s.phase = .ready
        ∧ s.watched p = some c
        ∧ s.fu p (Reg.AX_PAIR_CFG_SOLO p) ≠ 1)
    ∧ (∃ (k : Fin 6) (s : State),
      s.phase = .ready
        ∧ s.sq.closeDue = false
        ∧ s.switchDue k = true)
    ∧ (∃ (t : Nat) (c : AxCh) (n : Nat) (s : State),
      s.phase = .ready
        ∧ (s.axChan c).blankEnd = some n
        ∧ n ≤ max s.now t
        ∧ (s.axChan c).switchAhead = false)
    ∧ (∃ (s : State),
      s.phase = .ready)
    ∧ (∃ (w : Nat) (s : State),
      s.phase = .ready
        ∧ 200 ≤ w
        ∧ s.fo Reg.AX_CFG_SYNC_PIN_EN = 1)
    ∧ (∃ (p : Pair) (s : State),
      s.phase = .ready
        ∧ (Reg.AX_PAIR_CFG_RUN p).of (s.coming p (Reg.AX_PAIR_CFG p)) = 0
        ∧ s.pairRuns p = false)
    ∧ (∃ (p : Pair) (s : State),
      s.phase = .ready
        ∧ s.pairRuns p = true) :=
  ⟨⟨3, 8, wPair 3,
      (by decide +kernel), (by decide +kernel), (by decide +kernel)⟩,
   ⟨3, 8, wPair 3,
      (by decide +kernel), (by decide +kernel), (by decide +kernel)⟩,
   ⟨5, { w0 with regs := { w0.regs with waiting := [⟨Reg.AX_IEX 5, 0, 0, [0], [0]⟩] } },
      (by decide +kernel), (by decide +kernel), (by decide +kernel)⟩,
   ⟨5, 31, 5, (w0.setAxChan 31 { blankEnd := some 5 }).setH (Reg.AX_STAT_BLANK 31) 1,
      (by decide +kernel), (by decide +kernel), (by decide +kernel), (by decide +kernel)⟩,
   ⟨((w0.setH (Reg.AX_PAIR_STAT_RUNNING 3) 1).setH (Reg.AX_PAIR_STAT_SLOT 3) 2).setChecking 3 (some ⟨1, 5, 1000, 1⟩),
      (by decide +kernel)⟩,
   ⟨200, (w0.setFo Reg.AX_CFG_SYNC_PIN_EN 1).setH (Reg.AX_PAIR_STAT_RUNNING 3) 1,
      (by decide +kernel), (by decide +kernel), (by decide +kernel)⟩,
   ⟨3, w0,
      (by decide +kernel), (by decide +kernel), (by decide +kernel)⟩,
   ⟨3, w0.setH (Reg.AX_PAIR_STAT_RUNNING 3) 1,
      (by decide +kernel), (by decide +kernel)⟩⟩

theorem Tests.witness_ImpedanceChecks :
    (∃ (t : Nat) (c : AxCh) (p : Pair) (s : State),
      s.phase = .ready
        ∧ s.convertedBy c = some p.val
        ∧ s.fu c (Reg.AX_ZCHK_PER c) ≠ 0
        ∧ (∀ x ∈ (s.axChan c).zAt, x + min 60 (s.fu c (Reg.AX_ZCHK_PER c)) * lsbS ≤ max s.now t)
        ∧ s.checking p = none
        ∧ (∀ d, (s.axChan d).zWait = false)
        ∧ s.inCalSlot p = false
        ∧ s.scanServes p = false)
    ∧ (∃ (t : Nat) (c : AxCh) (p : Pair) (s : State),
      s.phase = .ready
        ∧ s.convertedBy c = some p.val
        ∧ s.fu c (Reg.AX_ZCHK_PER c) ≠ 0
        ∧ (∀ x ∈ (s.axChan c).zAt, x + min 60 (s.fu c (Reg.AX_ZCHK_PER c)) * lsbS ≤ max s.now t)
        ∧ s.checking p = none
        ∧ (∀ d, (s.axChan d).zWait = false)
        ∧ s.scanServes p = true)
    ∧ (∃ (t : Nat) (c : AxCh) (p : Pair) (z : ZCheck) (s : State),
      s.phase = .ready
        ∧ s.zCheck p = some z
        ∧ z.chan = c.val
        ∧ z.ends ≤ max s.now t
        ∧ (∀ q, q ≠ p.val → s.checking q ≠ some c.val)
        ∧ (∀ d, (s.axChan d).zWait = false)) :=
  ⟨⟨0, 5, 0, (wPair 0).withF (Reg.AX_ZCHK_PER 5) 1,
      (by decide +kernel), (by decide +kernel), (by decide +kernel), (by decide +kernel), (by decide +kernel), (fun _ => rfl), (by decide +kernel), (by decide +kernel)⟩,
   ⟨0, 5, 0, ((((wPair 0).withF (Reg.AX_ZCHK_PER 5) 1).setH (Reg.SV_AX_STAT_STATE 0) 1).withF (Reg.SV_AX_CFG_SRC 0) 5),
      (by decide +kernel), (by decide +kernel), (by decide +kernel), (by decide +kernel), (by decide +kernel), (fun _ => rfl), (by decide +kernel)⟩,
   ⟨99, 5, 0, ⟨5, 99, 1000, 10⟩, ((wPair 0).setChecking 0 (some ⟨5, 99, 1000, 10⟩)).setH (Reg.AX_STAT_CHK 5) 1,
      (by decide +kernel), (by decide +kernel), (by decide +kernel), (by decide +kernel), Tests.checking_ne _, (fun _ => rfl)⟩⟩

theorem Tests.witness_CapturesAreArmed :
    (∃ (b : AqBufIx) (s : State),
      s.phase = .ready
        ∧ s.aqTaking b = true)
    ∧ (∃ (b : AqBufIx) (s : State),
      s.phase = .ready
        ∧ s.aqTaking b = false)
    ∧ (∃ (b : AqBufIx) (z : AqBuf) (s : State),
      s.phase = .ready
        ∧ s.aqTaking b = false
        ∧ z = { cfg := [Reg.AQ_BUF_CFG b, Reg.AQ_BUF_SRC b, Reg.AQ_BUF_SRC2 b, Reg.AQ_BUF_LEN b, Reg.AQ_BUF_POST b, Reg.AQ_BUF_TRIG b,
        Reg.AQ_BUF_OFS b].map s.oneReg, size := s.aqSize (aqSrc (s.oneReg (Reg.AQ_BUF_SRC b))) }
        ∧ z.armOk = true
        ∧ z.src.kind ≠ 0)
    ∧ (∃ (b : AqBufIx) (z : AqBuf) (s : State),
      s.phase = .ready
        ∧ s.aqTaking b = false
        ∧ z = { cfg := [Reg.AQ_BUF_CFG b, Reg.AQ_BUF_SRC b, Reg.AQ_BUF_SRC2 b, Reg.AQ_BUF_LEN b, Reg.AQ_BUF_POST b, Reg.AQ_BUF_TRIG b,
        Reg.AQ_BUF_OFS b].map s.oneReg, size := s.aqSize (aqSrc (s.oneReg (Reg.AQ_BUF_SRC b))) }
        ∧ z.armOk = false)
    ∧ (∃ (s : State),
      s.phase = .ready)
    ∧ (∃ (s : State),
      s.phase = .ready)
    ∧ (∃ (t : Nat) (u : AqUnit) (n : Nat) (s : State),
      s.phase = .ready
        ∧ (s.aqUnit u).hold = some n
        ∧ n ≤ max s.now t) :=
  ⟨⟨3, w0.setH (Reg.AQ_BUF_STAT_STATE 3) 2,
      (by decide +kernel), (by decide +kernel)⟩,
   ⟨3, w0,
      (by decide +kernel), (by decide +kernel)⟩,
   ⟨3, { cfg := [Reg.AQ_BUF_CFG 3, Reg.AQ_BUF_SRC 3, Reg.AQ_BUF_SRC2 3, Reg.AQ_BUF_LEN 3, Reg.AQ_BUF_POST 3, Reg.AQ_BUF_TRIG 3, Reg.AQ_BUF_OFS 3].map (((w0.setOne (Reg.AQ_BUF_SRC 3) 0x40005).setFo (Reg.AQ_BUF_LEN_LEN 3) 100).setFo (Reg.AQ_BUF_POST_POST 3) 10).oneReg, size := (((w0.setOne (Reg.AQ_BUF_SRC 3) 0x40005).setFo (Reg.AQ_BUF_LEN_LEN 3) 100).setFo (Reg.AQ_BUF_POST_POST 3) 10).aqSize (aqSrc ((((w0.setOne (Reg.AQ_BUF_SRC 3) 0x40005).setFo (Reg.AQ_BUF_LEN_LEN 3) 100).setFo (Reg.AQ_BUF_POST_POST 3) 10).oneReg (Reg.AQ_BUF_SRC 3))) }, ((w0.setOne (Reg.AQ_BUF_SRC 3) 0x40005).setFo (Reg.AQ_BUF_LEN_LEN 3) 100).setFo (Reg.AQ_BUF_POST_POST 3) 10,
      (by decide +kernel), (by decide +kernel), (by decide +kernel), (by decide +kernel), (by decide +kernel)⟩,
   ⟨3, { cfg := [Reg.AQ_BUF_CFG 3, Reg.AQ_BUF_SRC 3, Reg.AQ_BUF_SRC2 3, Reg.AQ_BUF_LEN 3, Reg.AQ_BUF_POST 3, Reg.AQ_BUF_TRIG 3, Reg.AQ_BUF_OFS 3].map (w0.setFo (Reg.AQ_BUF_LEN_LEN 3) 0).oneReg, size := (w0.setFo (Reg.AQ_BUF_LEN_LEN 3) 0).aqSize (aqSrc ((w0.setFo (Reg.AQ_BUF_LEN_LEN 3) 0).oneReg (Reg.AQ_BUF_SRC 3))) }, w0.setFo (Reg.AQ_BUF_LEN_LEN 3) 0,
      (by decide +kernel), (by decide +kernel), (by decide +kernel), (by decide +kernel)⟩,
   ⟨(w0.setAqBuf 3 { data := [1], held := some ⟨7, 1, 1, 0, 0⟩, next := [⟨9, 1, 1, 0, 0⟩] }).setH (Reg.AQ_BUF_STAT_HELD 3) 1,
      (by decide +kernel)⟩,
   ⟨w0.setAqUnit 15 { cfg := [(Reg.AQ_TRG_CFG_HOLD 0).put 0 5] },
      (by decide +kernel)⟩,
   ⟨5, 15, 5, w0.setAqUnit 15 { hold := some 5, rise := true },
      (by decide +kernel), (by decide +kernel), (by decide +kernel)⟩⟩

theorem Tests.witness_CapturesAreRead :
    (∃ (b : AqBufIx) (s : State),
      s.phase = .ready
        ∧ s.aqState b = 3
        ∧ ((Reg.AQ_BUF_CFG_AUTO 0).of ((s.aqBuf b).reg 0) = 0 ∨ s.fo (Reg.AQ_RD_ADDR_ADDR b)
        ≠ (if (s.aqBuf b).isMap then 65535 else (s.aqBuf b).preCount + (s.aqBuf b).postLen - 1)))
    ∧ (∃ (b : AqBufIx) (s : State),
      s.phase = .ready
        ∧ s.aqState b = 3
        ∧ (Reg.AQ_BUF_CFG_AUTO 0).of ((s.aqBuf b).reg 0) = 1
        ∧ s.fo (Reg.AQ_RD_ADDR_ADDR b) = (if (s.aqBuf b).isMap then 65535 else (s.aqBuf b).preCount + (s.aqBuf b).postLen - 1))
    ∧ (∃ (b : AqBufIx) (s : State),
      s.phase = .ready
        ∧ s.aqState b ≠ 3)
    ∧ (∃ (b : AqBufIx) (s : State),
      s.phase = .ready
        ∧ s.aqState b = 3)
    ∧ (∃ (b : AqBufIx) (s : State),
      s.phase = .ready
        ∧ s.aqState b ≠ 3)
    ∧ (∃ (b : AqBufIx) (s : State),
      s.aqState b = 3)
    ∧ (∃ (b : AqBufIx) (s : State),
      s.aqState b ≠ 3) :=
  ⟨⟨3, (w0.setH (Reg.AQ_BUF_STAT_STATE 3) 3),
      (by decide +kernel), (by decide +kernel), (by decide +kernel)⟩,
   ⟨3, ((w0.setAqBuf 3 { cfg := [(Reg.AQ_BUF_CFG_AUTO 0).put 0 1], data := [7, 8], preCount := 1 }).setH (Reg.AQ_BUF_STAT_STATE 3) 3).setFo (Reg.AQ_RD_ADDR_ADDR 3) (((((w0.setAqBuf 3 { cfg := [(Reg.AQ_BUF_CFG_AUTO 0).put 0 1], data := [7, 8], preCount := 1 }).setH (Reg.AQ_BUF_STAT_STATE 3) 3)).aqBuf 3).preCount + ((((w0.setAqBuf 3 { cfg := [(Reg.AQ_BUF_CFG_AUTO 0).put 0 1], data := [7, 8], preCount := 1 }).setH (Reg.AQ_BUF_STAT_STATE 3) 3)).aqBuf 3).postLen - 1),
      (by decide +kernel), (by decide +kernel), (by decide +kernel), (by decide +kernel)⟩,
   ⟨3, w0,
      (by decide +kernel), (by decide +kernel)⟩,
   ⟨3, (w0.setH (Reg.AQ_BUF_STAT_STATE 3) 3),
      (by decide +kernel), (by decide +kernel)⟩,
   ⟨3, w0.setH (Reg.AQ_BUF_STAT_STATE 3) 1,
      (by decide +kernel), (by decide +kernel)⟩,
   ⟨3, ((w0.setAqBuf 3 { cfg := [(Reg.AQ_BUF_CFG_AUTO 0).put 0 1], data := [7, 8], preCount := 1 }).setH (Reg.AQ_BUF_STAT_STATE 3) 3),
      (by decide +kernel)⟩,
   ⟨3, w0,
      (by decide +kernel)⟩⟩

theorem Tests.witness_LampsAreDrivenAndWatched :
    (∃ (t : Nat) (c : IlCh) (s : State),
      s.phase = .ready
        ∧ s.sq.closeDue = false
        ∧ s.regs.waiting = []
        ∧ s.regs.stale = []
        ∧ (s.ilChan c).period ≠ some (s.clock t).pwmStart)
    ∧ (∃ (t : Nat) (c : IlCh) (mv : Nat) (p : IllPulse) (l : List IllPulse) (s : State),
      s.phase = .ready
        ∧ (s.ilChan c).pulses = p :: l
        ∧ p.start + ilMeasure ≤ p.stop
        ∧ p.start + ilMeasure ≤ max s.now t
        ∧ (∀ m ∈ (s.ilChan c).measured, m < p.start)
        ∧ s.fu c (Reg.IL_CH_SNS_OPEN_THR c) ≤ mv)
    ∧ (∃ (t : Nat) (c : IlCh) (mv : Nat) (s : State),
      s.phase = .ready
        ∧ (s.clock t).ill c = true
        ∧ s.fu c (Reg.IL_CH_SNS_SHORT_THR c) < mv)
    ∧ (∃ (s : State),
      s.phase = .ready) :=
  ⟨⟨5, 3, w0,
      (by decide +kernel), (by decide +kernel), (by decide +kernel), (by decide +kernel), (by decide +kernel)⟩,
   ⟨256000, 3, 5000, ⟨0, 256000, false⟩, [], w0.setIlChan 3 { pulses := [⟨0, 256000, false⟩] },
      (by decide +kernel), (by decide +kernel), (by decide +kernel), (by decide +kernel), (by decide +kernel), (by decide +kernel)⟩,
   ⟨5, 3, 100000, (w0.withF (Reg.IL_CH_CFG_EN 3) 1).setIlChan 3 { pulses := [⟨0, 256000, false⟩] },
      (by decide +kernel), (by decide +kernel), (by decide +kernel)⟩,
   ⟨((w0.setH (Reg.IL_CH_STAT_LATCH 3) 1).setIlChan 3 { shortRun := 9 }),
      (by decide +kernel)⟩⟩

theorem Tests.witness_LampsAreDiagnosed :
    (∃ (s : State),
      s.phase = .ready)
    ∧ (∃ (t : Nat) (c : IlCh) (a : Nat) (s : State),
      s.phase = .ready
        ∧ (s.ilChan c).diagAt = some a
        ∧ a ≤ max s.now t
        ∧ s.ilDriven c = true
        ∧ (∀ p ∈ (s.ilChan c).pulses, p.at a = false)
        ∧ (s.ilChan c).dimAt.isSome = true
        ∧ (s.csel c).isSome = true)
    ∧ (∃ (t : Nat) (c : IlCh) (s : State),
      s.phase = .ready
        ∧ 0 < s.h (Reg.IL_CH_NOW_ON c)
        ∧ s.h (Reg.IL_CH_STAT_UNVERIFIED c) = 0
        ∧ (s.ilChan c).lastMeas.getD (s.ilChan c).litAt + 10 * lsbS < max s.now t)
    ∧ (∃ (g : DrtGroup) (s : State),
      s.phase = .ready
        ∧ (s.axChan (s.f (Reg.IL_DRT_SRC_CH g))).fail = true
        ∧ s.h Reg.IL_STAT_DRT_FAIL / 2 ^ g.val % 2 = 0) :=
  ⟨⟨w0,
      (by decide +kernel)⟩,
   ⟨5, 3, 5, ((w0.withF (Reg.IL_CH_CFG_EN 3) 1).withF (Reg.IL_CH_CFG_CSEL 3) 1).setIlChan 3 { diagAt := some 5, dimAt := some 0, pulses := [⟨0, 5, false⟩, ⟨6, 7, false⟩] },
      (by decide +kernel), (by decide +kernel), (by decide +kernel), (by decide +kernel), (by decide +kernel), (by decide +kernel), (by decide +kernel)⟩,
   ⟨1280000000001, 3, w0.setH (Reg.IL_CH_NOW_ON 3) 1,
      (by decide +kernel), (by decide +kernel), (by decide +kernel), (by decide +kernel)⟩,
   ⟨3, w0.setAxChan (w0.f (Reg.IL_DRT_SRC_CH 3)) { fail := true },
      (by decide +kernel), (by decide +kernel), (by decide +kernel)⟩⟩

theorem Tests.witness_LanesTrain :
    (∃ (l : Lane) (s : State),
      s.phase = .ready
        ∧ s.sq.closeDue = false
        ∧ s.laneSt l = 1
        ∧ s.laneMode l = 0
        ∧ s.quadLive l = true
        ∧ s.trainPending l = false)
    ∧ (∃ (l : Lane) (s : State),
      s.phase = .ready
        ∧ s.sq.closeDue = false
        ∧ (s.laneSt l = 2 ∨ s.laneSt l = 3))
    ∧ (∃ (l : Lane) (m1 : List Bool) (m2 : List Bool) (m3 : List Bool) (i : Bool) (bs : List Bool) (s : State),
      s.phase = .ready
        ∧ s.sq.closeDue = false
        ∧ s.laneSt l = 4
        ∧ findAlignment (destuff (s.lane l).rxRun (m1 ++ m2 ++ m3)).1 = some (i, bs))
    ∧ (∃ (l : Lane) (v : Score) (r : Nat) (s : State),
      s.phase = .ready
        ∧ s.sq.closeDue = false
        ∧ s.laneSt l = 5
        ∧ s.linkOf l = (l.val, 1)
        ∧ (s.lane l).rxT0 = some v
        ∧ (readT0 v).width = 0
        ∧ (readT0 v).idx = 0
        ∧ (readT0 v).locked = true
        ∧ highestRate (7 &&& s.ownRates l &&& (readT0 v).rates) = some r)
    ∧ (∃ (l : Lane) (v : Score) (s : State),
      s.phase = .ready
        ∧ s.sq.closeDue = false
        ∧ s.laneSt l = 5
        ∧ s.linkOf l = (l.val, 1)
        ∧ (s.lane l).rxT0 = some v
        ∧ (readT0 v).width ≠ 0)
    ∧ (∃ (l : Lane) (s : State),
      s.phase = .ready
        ∧ s.sq.closeDue = false
        ∧ s.laneSt l = 6
        ∧ 8 ≤ (s.lane l).goSent)
    ∧ (∃ (l : Lane) (n : Nat) (s : State),
      s.phase = .ready
        ∧ s.sq.closeDue = false
        ∧ (∀ d ∈ s.linkLanes l, s.laneSt d = 7)
        ∧ s.skew (s.linkLanes l) = some n
        ∧ n ≤ 16 * s.scoreTime l) :=
  ⟨⟨3, (w0.setH (Reg.LN_LANE_STAT_STATE 3) 1).setH (Reg.LN_QUAD_STAT_LOCK 0) 1,
      (by decide +kernel), (by decide +kernel), (by decide +kernel), (by decide +kernel), (by decide +kernel), (by decide +kernel)⟩,
   ⟨127, w0.setH (Reg.LN_LANE_STAT_STATE 127) 2,
      (by decide +kernel), (by decide +kernel), (by decide +kernel)⟩,
   ⟨3, [], wFills false, [], false, ((findAlignment (destuff ((w0.setH (Reg.LN_LANE_STAT_STATE 3) 4).lane 3).rxRun ([] ++ wFills false ++ [])).1).map Prod.snd).getD [], w0.setH (Reg.LN_LANE_STAT_STATE 3) 4,
      (by decide +kernel), (by decide +kernel), (by decide +kernel), (by decide +kernel)⟩,
   ⟨3, 0xE1000, 2, (w0.setLane 3 { rxT0 := some 0xE1000 }).setH (Reg.LN_LANE_STAT_STATE 3) 5,
      (by decide +kernel), (by decide +kernel), (by decide +kernel), (by decide +kernel), (by decide +kernel), (by decide +kernel), (by decide +kernel), (by decide +kernel), (by decide +kernel)⟩,
   ⟨3, 0xE3000, (w0.setLane 3 { rxT0 := some 0xE3000 }).setH (Reg.LN_LANE_STAT_STATE 3) 5,
      (by decide +kernel), (by decide +kernel), (by decide +kernel), (by decide +kernel), (by decide +kernel), (by decide +kernel)⟩,
   ⟨3, (w0.setH (Reg.LN_LANE_STAT_STATE 3) 6).setLane 3 { chosen := 2, goSent := 8 },
      (by decide +kernel), (by decide +kernel), (by decide +kernel), (by decide +kernel)⟩,
   ⟨3, 0, (w0.setH (Reg.LN_LANE_STAT_STATE 3) 7).setLane 3 { rxSeq := some 5 },
      (by decide +kernel), (by decide +kernel), (by decide +kernel), (by decide +kernel), (by decide +kernel)⟩⟩

theorem Tests.witness_LanesFailAndRetrain :
    (∃ (t : Nat) (l : Lane) (s : State),
      s.phase = .ready
        ∧ s.sq.closeDue = false
        ∧ s.regs.waiting = []
        ∧ s.regs.stale = []
        ∧ s.fu l (Reg.LN_LANE_CFG_EN l) = 1
        ∧ 2 ≤ s.laneSt l
        ∧ s.laneSt l ≤ 7
        ∧ (s.lane l).since + lsbMs < max s.now t)
    ∧ (∃ (l : Lane) (s : State),
      s.phase = .ready
        ∧ s.sq.closeDue = false
        ∧ s.regs.waiting = []
        ∧ s.regs.stale = []
        ∧ s.fu l (Reg.LN_LANE_CFG_EN l) = 1
        ∧ 1 ≤ s.laneSt l
        ∧ s.laneSt l ≤ 10)
    ∧ (∃ (l : Lane) (s : State),
      s.phase = .ready
        ∧ s.sq.closeDue = false
        ∧ s.regs.waiting = []
        ∧ s.regs.stale = []
        ∧ (s.laneSt l = 8 ∨ s.laneSt l = 9)
        ∧ s.h (Reg.LN_LANE_STAT_PEER_IDLE l) = 0
        ∧ s.laneMode l = 0)
    ∧ (∃ (q : Quad) (s : State),
      s.phase = .ready
        ∧ s.sq.closeDue = false
        ∧ s.regs.waiting = []
        ∧ s.regs.stale = []
        ∧ s.fu q (Reg.LN_QUAD_CFG_AUTOREF q) = 1)
    ∧ (∃ (s : State),
      s.phase = .ready
        ∧ s.sq.closeDue = false
        ∧ s.regs.waiting = []
        ∧ s.regs.stale = [])
    ∧ (∃ (l : Lane) (r : PcsReport) (s : State),
      s.phase = .ready
        ∧ s.sq.closeDue = false
        ∧ s.laneMode l ≠ 0
        ∧ s.laneSt l = 1
        ∧ s.quadLive l = true
        ∧ (if s.fu l (Reg.LN_LANE_CFG_RX_INV l) = 1 then r.inverted else r.plain) = ⟨true, false⟩) :=
  ⟨⟨128000001, 3, (w0.withF (Reg.LN_LANE_CFG_EN 3) 1).setH (Reg.LN_LANE_STAT_STATE 3) 7,
      (by decide +kernel), (by decide +kernel), (by decide +kernel), (by decide +kernel), (by decide +kernel), (by decide +kernel), (by decide +kernel), (by decide +kernel)⟩,
   ⟨3, (w0.withF (Reg.LN_LANE_CFG_EN 3) 1).setH (Reg.LN_LANE_STAT_STATE 3) 7,
      (by decide +kernel), (by decide +kernel), (by decide +kernel), (by decide +kernel), (by decide +kernel), (by decide +kernel), (by decide +kernel)⟩,
   ⟨3, (w0.withF (Reg.LN_LANE_CFG_EN 3) 1).setH (Reg.LN_LANE_STAT_STATE 3) 9,
      (by decide +kernel), (by decide +kernel), (by decide +kernel), (by decide +kernel), (by decide +kernel), (by decide +kernel), (by decide +kernel)⟩,
   ⟨3, w0.withF (Reg.LN_QUAD_CFG_AUTOREF 3) 1,
      (by decide +kernel), (by decide +kernel), (by decide +kernel), (by decide +kernel), (by decide +kernel)⟩,
   ⟨w0.setH (Reg.LN_QUAD_STAT_LOCK 3) 1,
      (by decide +kernel), (by decide +kernel), (by decide +kernel), (by decide +kernel)⟩,
   ⟨128, ⟨⟨true, false⟩, ⟨false, false⟩, 7⟩, ((w0.withF (Reg.LN_QUAD_CFG_MODE 32) 1).setH (Reg.LN_LANE_STAT_STATE 128) 1).setH (Reg.LN_QUAD_STAT_LOCK 32) 1,
      (by decide +kernel), (by decide +kernel), (by decide +kernel), (by decide +kernel), (by decide +kernel), (by decide +kernel)⟩⟩

theorem Tests.witness_LanesCarryAndSleep :
    (∃ (l : Lane) (mk : List Bool) (line : List Bool) (m : Score) (r : List Score) (s : State),
      s.phase = .ready
        ∧ s.sq.closeDue = false
        ∧ s.regs.waiting = []
        ∧ s.regs.stale = []
        ∧ s.fu l (Reg.LN_LANE_CFG_EN l) = 1
        ∧ 5 ≤ s.laneSt l
        ∧ s.laneSt l ≤ 7
        ∧ s.laneMode l = 0
        ∧ s.h (Reg.LN_LANE_STAT_PEER_IDLE l) = 0
        ∧ (lineScores (destuff (s.lane l).rxRun (mk ++ line)).1).map (polar (s.h (Reg.LN_LANE_STAT_RX_INV_DET l) == 1)) = m :: r
        ∧ markerType m = some 2)
    ∧ (∃ (l : Lane) (v : Score) (at_ : Nat) (s : State),
      s.phase = .ready
        ∧ s.sq.closeDue = false
        ∧ s.laneSt l ≠ 0
        ∧ s.fu l (Reg.LN_LANE_CFG_EN l) = 1
        ∧ s.regs.stale = []
        ∧ s.regs.waiting = [{ addr := Reg.LN_TX_EQ l, value := v, acceptedAt := at_, served := [l.val], left := [l.val] }]
        ∧ at_ < s.now)
    ∧ (∃ (l : Lane) (s : State),
      s.phase = .ready
        ∧ s.sq.closeDue = false
        ∧ s.regs.waiting = []
        ∧ s.regs.stale = []
        ∧ s.fu l (Reg.LN_LANE_CFG_EN l) = 1
        ∧ s.linkOf l = (l.val, 1)
        ∧ 1 ≤ s.laneSt l
        ∧ s.laneSt l ≤ 7
        ∧ s.laneMode l = 0
        ∧ s.quadLive l = true
        ∧ (s.lane l).sinceFill < 63
        ∧ (s.lane l).spacing ≤ 4096)
    ∧ (∃ (l : Lane) (cy : Nat) (n : Nat) (s : State),
      s.phase = .ready
        ∧ s.sq.closeDue = false
        ∧ s.laneSt l = 8
        ∧ s.linkOf l = (l.val, 1)
        ∧ s.laneMode l = 0
        ∧ (s.lane l).fillSeen = true
        ∧ (s.lane l).decided ≤ (s.lane l).fills
        ∧ s.h (Reg.LN_EB_FILL l) = n + ((s.lane l).cycles + cy) / s.cyclesPerScore l
        ∧ 14 ≤ n
        ∧ n ≤ 18)
    ∧ (∃ (l : Lane) (cy : Nat) (n : Nat) (s : State),
      s.phase = .ready
        ∧ s.sq.closeDue = false
        ∧ s.laneSt l = 8
        ∧ s.linkOf l = (l.val, 1)
        ∧ s.laneMode l = 0
        ∧ (s.lane l).fillSeen = true
        ∧ (s.lane l).decided ≤ (s.lane l).fills
        ∧ s.h (Reg.LN_EB_FILL l) = n + ((s.lane l).cycles + cy) / s.cyclesPerScore l
        ∧ 18 < n
        ∧ n ≤ 32)
    ∧ (∃ (l : Lane) (s : State),
      s.phase = .ready
        ∧ s.sq.closeDue = false
        ∧ s.linkOf l = (l.val, 1)
        ∧ 1 ≤ s.laneSt l
        ∧ s.laneSt l ≤ 8
        ∧ s.laneMode l = 0
        ∧ s.quadLive l = true)
    ∧ (∃ (l : Lane) (s : State),
      s.phase = .ready
        ∧ s.sq.closeDue = false
        ∧ s.laneSt l = 8
        ∧ s.laneMode l = 0)
    ∧ (∃ (l : Lane) (s : State),
      s.phase = .ready
        ∧ s.sq.closeDue = false
        ∧ (s.link (s.linkOf l).1).queue ≠ [])
    ∧ (∃ (l : Lane) (s : State),
      s.phase = .ready
        ∧ s.sq.closeDue = false
        ∧ s.laneSt l = 1)
    ∧ (∃ (l : Lane) (s : State),
      s.phase = .ready
        ∧ s.sq.closeDue = false
        ∧ s.regs.waiting = []
        ∧ s.regs.stale = []
        ∧ s.fu l (Reg.LN_LANE_CFG_EN l) = 1
        ∧ s.laneSt l = 10
        ∧ s.fu l (Reg.LN_LANE_CFG_WAKE_DET l) = 1) :=
  ⟨⟨3, wTrain.take 20, wTrain.drop 20, markerScore 2 9, 0x61000 :: List.replicate 62 0, (w0.withF (Reg.LN_LANE_CFG_EN 3) 1).setH (Reg.LN_LANE_STAT_STATE 3) 5,
      (by decide +kernel), (by decide +kernel), (by decide +kernel), (by decide +kernel), (by decide +kernel), (by decide +kernel), (by decide +kernel), (by decide +kernel), (by decide +kernel), (by decide +kernel), (by decide +kernel)⟩,
   ⟨3, 0xFFFFF, 1, { (((w0.withF (Reg.LN_LANE_CFG_EN 3) 1).setH (Reg.LN_LANE_STAT_STATE 3) 8)) with now := 1000000, regs := { ((w0.withF (Reg.LN_LANE_CFG_EN 3) 1).setH (Reg.LN_LANE_STAT_STATE 3) 8).regs with waiting := [{ addr := Reg.LN_TX_EQ 3, value := 0xFFFFF, acceptedAt := 1, served := [3], left := [3] }] } },
      (by decide +kernel), (by decide +kernel), (by decide +kernel), (by decide +kernel), (by decide +kernel), (by decide +kernel), (by decide +kernel)⟩,
   ⟨3, ((w0.withF (Reg.LN_LANE_CFG_EN 3) 1).setH (Reg.LN_LANE_STAT_STATE 3) 6).setH (Reg.LN_QUAD_STAT_LOCK 0) 1,
      (by decide +kernel), (by decide +kernel), (by decide +kernel), (by decide +kernel), (by decide +kernel), (by decide +kernel), (by decide +kernel), (by decide +kernel), (by decide +kernel), (by decide +kernel), (by decide +kernel), (by decide +kernel)⟩,
   ⟨3, 0, 18, ((w0.setH (Reg.LN_LANE_STAT_STATE 3) 8).setH (Reg.LN_EB_FILL 3) 18).setLane 3 { fillSeen := true, fillDec := 7 },
      (by decide +kernel), (by decide +kernel), (by decide +kernel), (by decide +kernel), (by decide +kernel), (by decide +kernel), (by decide +kernel), (by decide +kernel), (by decide +kernel), (by decide +kernel)⟩,
   ⟨3, 16, 20, ((w0.setH (Reg.LN_LANE_STAT_STATE 3) 8).setH (Reg.LN_EB_FILL 3) 24).setLane 3 { fillSeen := true, fillDec := 7 },
      (by decide +kernel), (by decide +kernel), (by decide +kernel), (by decide +kernel), (by decide +kernel), (by decide +kernel), (by decide +kernel), (by decide +kernel), (by decide +kernel), (by decide +kernel)⟩,
   ⟨3, (w0.setH (Reg.LN_LANE_STAT_STATE 3) 8).setH (Reg.LN_QUAD_STAT_LOCK 0) 1,
      (by decide +kernel), (by decide +kernel), (by decide +kernel), (by decide +kernel), (by decide +kernel), (by decide +kernel), (by decide +kernel)⟩,
   ⟨3, w0.setH (Reg.LN_LANE_STAT_STATE 3) 8,
      (by decide +kernel), (by decide +kernel), (by decide +kernel), (by decide +kernel)⟩,
   ⟨3, (w0.setH (Reg.LN_LANE_STAT_STATE 3) 9).setLink 3 { up := true, queue := [⟨4, [7]⟩] },
      (by decide +kernel), (by decide +kernel), (by decide +kernel)⟩,
   ⟨3, w0.setH (Reg.LN_LANE_STAT_STATE 3) 1,
      (by decide +kernel), (by decide +kernel), (by decide +kernel)⟩,
   ⟨3, ((w0.withF (Reg.LN_LANE_CFG_EN 3) 1).withF (Reg.LN_LANE_CFG_WAKE_DET 3) 1).setH (Reg.LN_LANE_STAT_STATE 3) 10,
      (by decide +kernel), (by decide +kernel), (by decide +kernel), (by decide +kernel), (by decide +kernel), (by decide +kernel), (by decide +kernel)⟩⟩

theorem Tests.witness_LinksIntroduceThemselves :
    (∃ (t : Nat) (l : Lane) (s : State),
      s.phase = .ready
        ∧ (s.link (s.linkOf l).1).up = true
        ∧ (s.link (s.linkOf l).1).capsDone = false
        ∧ s.laneMode (s.linkOf l).1 = 0
        ∧ dueAgain (max s.now t) (s.link (s.linkOf l).1).capsAt lsbMs = true)
    ∧ (∃ (l : Lane) (a : Score) (b : Score) (c : Score) (z : Nat) (r : List RxPacket) (s : State),
      s.phase = .ready
        ∧ s.holds l 1 [a, b, c] z r
        ∧ (s.link (s.linkOf l).1).up = true
        ∧ (s.link (s.linkOf l).1).capsGot = false
        ∧ s.capsRefusal (s.linkOf l).1 (a.toNat / 2 ^ 17) (a.toNat / 2 ^ 15 % 4) = none)
    ∧ (∃ (t : Nat) (l : Lane) (s : State),
      s.phase = .ready
        ∧ s.ethUp l = false
        ∧ s.portUp (.lane (s.linkOf l).1) = true
        ∧ dueAgain (max s.now t) (s.link (s.linkOf l).1).helloAt s.beacon = true)
    ∧ (∃ (l : Lane) (b : List Score) (z : Nat) (r : List RxPacket) (p : Partner) (s : State),
      s.phase = .ready
        ∧ s.holds l 2 b z r
        ∧ b.length = 8
        ∧ (joinHL (b.getD 0 0) (b.getD 1 0)).toNat ≠ s.ident
        ∧ s.fl.partners = [p]
        ∧ p.ident = (joinHL (b.getD 0 0) (b.getD 1 0)).toNat
        ∧ p.port = .lane (s.linkOf l).1)
    ∧ (∃ (l : Lane) (p : RxPacket) (r : List RxPacket) (s : State),
      s.phase = .ready
        ∧ (s.link (s.linkOf l).1).arrived = p :: r
        ∧ p.ok = false) :=
  ⟨⟨5, 3, w0.setLink 3 { up := true },
      (by decide +kernel), (by decide +kernel), (by decide +kernel), (by decide +kernel), (by decide +kernel)⟩,
   ⟨100, 0xE8000, 1, 2, 0, [], w0.setLink 100 { up := true, arrived := [⟨1, [0xE8000, 1, 2], true, 0⟩] },
      (by decide +kernel), rfl, (by decide +kernel), (by decide +kernel), (by decide +kernel)⟩,
   ⟨5, 3, w0.setLink 3 { up := true, capsDone := true, version := 3 },
      (by decide +kernel), (by decide +kernel), (by decide +kernel), (by decide +kernel)⟩,
   ⟨130, [1, 2, 3, 4, 5, 6, 7, 8], 0, [], ⟨4, 0x100002, 2, 3, .lane 130, [], 0, false⟩, { (w0.setLink 130 { up := true, capsDone := true, version := 3, arrived := [⟨2, [1, 2, 3, 4, 5, 6, 7, 8], true, 0⟩] }) with fl := { (w0.setLink 130 { up := true, capsDone := true, version := 3, arrived := [⟨2, [1, 2, 3, 4, 5, 6, 7, 8], true, 0⟩] }).fl with partners := [⟨4, 0x100002, 2, 3, .lane 130, [], 0, false⟩] } },
      (by decide +kernel), rfl, (by decide +kernel), (by decide +kernel), (by decide +kernel), (by decide +kernel), (by decide +kernel)⟩,
   ⟨3, ⟨1, [], false, 0⟩, [], w0.setLink 3 { arrived := [⟨1, [], false, 0⟩] },
      (by decide +kernel), (by decide +kernel), (by decide +kernel)⟩⟩

theorem Tests.witness_PartnersLeaveAndConsistSpeaks :
    (∃ (t : Nat) (i : Fin 256) (p : Partner) (s : State),
      s.phase = .ready
        ∧ s.fl.partners.find? (fun q => decide (q.idx = i.val)) = some p
        ∧ (s.clock t).detachDue p = true)
    ∧ (∃ (l : Lane) (b : List Score) (z : Nat) (r : List RxPacket) (s : State),
      s.phase = .ready
        ∧ s.holds l 15 b z r
        ∧ b.length = 7
        ∧ 128 ≤ (s.linkOf l).1)
    ∧ (∃ (t : Nat) (i : Fin 1024) (u : Sub) (e : Nat) (s : State),
      s.phase = .ready
        ∧ s.fl.subs.find? (fun v => decide (v.idx = i.val)) = some u
        ∧ u.expires = some e
        ∧ e ≤ max s.now t) :=
  ⟨⟨640000000000, 4, ⟨4, 0x100002, 2, 3, .lane 130, [], 0, false⟩, { w0 with fl := { w0.fl with partners := [⟨4, 0x100002, 2, 3, .lane 130, [], 0, false⟩], subs := [⟨0, 1, 0, .partner 0x100002, 130, none⟩] } },
      (by decide +kernel), (by decide +kernel), (by decide +kernel)⟩,
   ⟨130, [1, 2, 0x12345, 4, 5, 6, 7], 0, [], w0.setLink 130 { up := true, capsDone := true, version := 3, arrived := [⟨15, [1, 2, 0x12345, 4, 5, 6, 7], true, 0⟩] },
      (by decide +kernel), rfl, (by decide +kernel), (by decide +kernel)⟩,
   ⟨5, 7, ⟨7, 1, 0, .svc, 0, some 5⟩, 5, { w0 with fl := { w0.fl with subs := [⟨7, 1, 0, .svc, 0, some 5⟩] } },
      (by decide +kernel), (by decide +kernel), (by decide +kernel), (by decide +kernel)⟩⟩

theorem Tests.witness_PlansAreNegotiated :
    (∃ (s : State),
      s.phase = .ready
        ∧ s.h Reg.SQ_PLAN_STAT_STATE = 1)
    ∧ (∃ (l : Lane) (b : List Score) (z : Nat) (r : List RxPacket) (a : PlanAnn) (s : State),
      s.phase = .ready
        ∧ s.holds l 8 b z r
        ∧ s.planPartners.any (fun p => decide (p.ident = a.ident)) = true)
    ∧ (∃ (t : Nat) (n : Nat) (s : State),
      s.phase = .ready
        ∧ s.sq.plan.activation = some n
        ∧ s.h Reg.SQ_PLAN_STAT_STATE = 2
        ∧ n ≤ (s.clock t).nodeTime)
    ∧ (∃ (t : Nat) (s : State),
      s.phase = .ready
        ∧ s.h Reg.SQ_PLAN_STAT_STATE = 1
        ∧ s.sq.plan.since + 2 * lsbS ≤ max s.now t) :=
  ⟨⟨w0.setH Reg.SQ_PLAN_STAT_STATE 1,
      (by decide +kernel), (by decide +kernel)⟩,
   ⟨130, [], 0, [], ⟨0x100002, 5, 6, 7, 8⟩, { w0.setLink 130 { arrived := [⟨8, [], true, 0⟩] } with fl := { (w0.setLink 130 { arrived := [⟨8, [], true, 0⟩] }).fl with partners := [⟨4, 0x100002, 2, 3, .lane 130, [], 0, false⟩] } },
      (by decide +kernel), rfl, (by decide +kernel)⟩,
   ⟨5, 5, (w0.setH Reg.SQ_PLAN_STAT_STATE 2).setPlan { activation := some 5, newPhi := 3, newN := 4 },
      (by decide +kernel), (by decide +kernel), (by decide +kernel), (by decide +kernel)⟩,
   ⟨256000000000, w0.setH Reg.SQ_PLAN_STAT_STATE 1,
      (by decide +kernel), (by decide +kernel), (by decide +kernel)⟩⟩

theorem Tests.witness_HeadsReportShots :
    (∃ (l : Lane) (b : List Score) (z : Nat) (r : List RxPacket) (k : Nat) (s : State),
      s.phase = .ready
        ∧ s.holds l 11 b z r
        ∧ s.slotOn (s.linkOf l).1 = some k)
    ∧ (∃ (l : Lane) (q : Score) (a : Score) (b : Score) (z : Nat) (r : List RxPacket) (k : Nat) (y : TeShot) (n : Int) (s : State),
      s.phase = .ready
        ∧ s.holds l 12 [q, a, b] z r
        ∧ s.f Reg.FD_CFG_EN = 1
        ∧ s.slotOn (s.linkOf l).1 = some k
        ∧ (s.link (s.linkOf l).1).gap = false
        ∧ s.tl.shots.find? (fun v => decide (v.seq = q.toNat)) = some y
        ∧ y.ffb = some n
        ∧ b.toNat % 2 ^ 14 < s.headCount k
        ∧ 512 + s.headBase k + b.toNat % 2 ^ 14 ≤ 16895
        ∧ (s.head k).lossPix = []
        ∧ 0 ≤ (a.toNat : Int) - (stampDiff n y.place - sgn 20 (s.f (Reg.TE_FFB_DLY_DLY y.emitter)))
        ∧ (a.toNat : Int) - (stampDiff n y.place - sgn 20 (s.f (Reg.TE_FFB_DLY_DLY y.emitter))) ≤ 1048575)
    ∧ (∃ (t : Nat) (k : HeadSlot) (s : State),
      s.phase = .ready
        ∧ s.h (Reg.FL_HEAD_STAT_ATTACHED k) = 1
        ∧ s.portUp (.lane (s.head k).lane) = true
        ∧ dueAgain (max s.now t) (s.head k).asked lsbMs = true)
    ∧ (∃ (t : Nat) (l : Lane) (a : Score) (b : Score) (c : Score) (d : Score) (z : Nat) (r : List RxPacket) (k : Nat) (n : Nat) (m : Nat) (s : State),
      s.phase = .ready
        ∧ s.holds l 13 [a, b, c, d] z r
        ∧ s.slotOn (s.linkOf l).1 = some k
        ∧ (s.head k).request = some n
        ∧ (s.head k).t1 = some m
        ∧ max s.now t < n + 100 * lsbUs)
    ∧ (∃ (t : Nat) (k : HeadSlot) (n : Nat) (s : State),
      s.phase = .ready
        ∧ (s.head k).request = some n
        ∧ n + 100 * lsbUs ≤ max s.now t)
    ∧ (∃ (t : Nat) (l : Lane) (b : List Score) (z : Nat) (r : List RxPacket) (s : State),
      s.phase = .ready
        ∧ s.holds l 9 b z r
        ∧ s.fq Reg.SQ_CFG_START_SRC = 1
        ∧ s.fq Reg.SQ_CFG_EXT_SEL = 3
        ∧ (s.sq.inScan = false ∨ (s.sq.halted = false ∧ s.sq.cyc.isSome = true ∧ s.h Reg.SQ_STAT_PEND = 1)
        ∨ (s.sq.halted = false ∧ s.sq.cyc = none ∧ s.sq.upcoming = none ∧ s.sq.scanEndAt ≤ max s.now t + 3200)))
    ∧ (∃ (l : Lane) (b : List Score) (z : Nat) (r : List RxPacket) (s : State),
      s.phase = .ready
        ∧ s.holds l 9 b z r
        ∧ s.fq Reg.SQ_CFG_START_SRC = 1
        ∧ s.fq Reg.SQ_CFG_EXT_SEL = 3
        ∧ s.sq.inScan = true
        ∧ s.sq.halted = false
        ∧ s.sq.cyc.isSome = true
        ∧ s.h Reg.SQ_STAT_PEND = 0)
    ∧ (∃ (t : Nat) (l : Lane) (b : List Score) (z : Nat) (r : List RxPacket) (s : State),
      s.phase = .ready
        ∧ s.holds l 9 b z r
        ∧ s.fq Reg.SQ_CFG_START_SRC = 1
        ∧ s.fq Reg.SQ_CFG_EXT_SEL = 3
        ∧ s.sq.inScan = true
        ∧ s.sq.halted = false
        ∧ s.sq.cyc = none
        ∧ s.sq.upcoming = none
        ∧ max s.now t + 3200 < s.sq.scanEndAt) :=
  ⟨⟨3, [9], 0, [], 2, (w0.setHead 2 { attached := some 7, lane := 3 }).setLink 3 { arrived := [⟨11, [9], true, 0⟩] },
      (by decide +kernel), rfl, (by decide +kernel)⟩,
   ⟨3, 9, 500, 0xC0003, 0, [], 2, ⟨9, 0, 0, 100, 0, some 300, true⟩, 300, { ((((w0.setHead 2 { attached := some 7, lane := 3 }).setLink 3 { arrived := [⟨12, [9, 500, 0xC0003], true, 0⟩] }).withF (Reg.FL_HEAD_COUNT_COUNT 2) 10).withF Reg.FD_CFG_EN 1) with tl := { w0.tl with shots := [⟨9, 0, 0, 100, 0, some 300, true⟩] } },
      (by decide +kernel), rfl, (by decide +kernel), (by decide +kernel), (by decide +kernel), (by decide +kernel), (by decide +kernel), (by decide +kernel), (by decide +kernel), (by decide +kernel), (by decide +kernel), (by decide +kernel)⟩,
   ⟨5, 2, ((w0.setHead 2 { attached := some 7, lane := 3 }).setLink 3 { up := true, capsDone := true }).setH (Reg.FL_HEAD_STAT_ATTACHED 2) 1,
      (by decide +kernel), (by decide +kernel), (by decide +kernel), (by decide +kernel)⟩,
   ⟨5, 3, 0, 1, 2, 3, 0, [], 2, 4, 99, (w0.setHead 2 { attached := some 7, lane := 3, request := some 4, t1 := some 99 }).setLink 3 { arrived := [⟨13, [0, 1, 2, 3], true, 0⟩] },
      (by decide +kernel), rfl, (by decide +kernel), (by decide +kernel), (by decide +kernel), (by decide +kernel)⟩,
   ⟨12800004, 2, 4, w0.setHead 2 { attached := some 7, lane := 3, request := some 4 },
      (by decide +kernel), (by decide +kernel), (by decide +kernel)⟩,
   ⟨5, 100, [1], 0, [], { (w0.setLink 100 { arrived := [⟨9, [1], true, 0⟩] }).withSq [(Reg.SQ_CFG_START_SRC.addr, Reg.SQ_CFG_START_SRC.put (Reg.SQ_CFG_EXT_SEL.put 0 3) 1)] with sq := { ((w0.setLink 100 { arrived := [⟨9, [1], true, 0⟩] }).withSq [(Reg.SQ_CFG_START_SRC.addr, Reg.SQ_CFG_START_SRC.put (Reg.SQ_CFG_EXT_SEL.put 0 3) 1)]).sq with inScan := false } },
      (by decide +kernel), rfl, (by decide +kernel), (by decide +kernel), (by decide +kernel)⟩,
   ⟨100, [1], 0, [], ((w0.setLink 100 { arrived := [⟨9, [1], true, 0⟩] }).withSq [(Reg.SQ_CFG_START_SRC.addr, Reg.SQ_CFG_START_SRC.put (Reg.SQ_CFG_EXT_SEL.put 0 3) 1)]).cycling,
      (by decide +kernel), rfl, (by decide +kernel), (by decide +kernel), (by decide +kernel), (by decide +kernel), (by decide +kernel), (by decide +kernel)⟩,
   ⟨5, 100, [1], 0, [], { ((w0.setLink 100 { arrived := [⟨9, [1], true, 0⟩] }).withSq [(Reg.SQ_CFG_START_SRC.addr, Reg.SQ_CFG_START_SRC.put (Reg.SQ_CFG_EXT_SEL.put 0 3) 1)]) with sq := { ((w0.setLink 100 { arrived := [⟨9, [1], true, 0⟩] }).withSq [(Reg.SQ_CFG_START_SRC.addr, Reg.SQ_CFG_START_SRC.put (Reg.SQ_CFG_EXT_SEL.put 0 3) 1)]).sq with inScan := true, scanEndAt := 12800000 } },
      (by decide +kernel), rfl, (by decide +kernel), (by decide +kernel), (by decide +kernel), (by decide +kernel), (by decide +kernel), (by decide +kernel), (by decide +kernel)⟩⟩

theorem Tests.witness_NodeTimeFollowsPtp :
    (∃ (m : PtpFrom) (s : State),
      s.phase = .ready
        ∧ s.frameKept m.env s.servedPorts = true
        ∧ s.ptpTakes m = true)
    ∧ (∃ (t : Nat) (m : PtpFrom) (s : State),
      s.phase = .ready
        ∧ s.frameKept m.env s.servedPorts = true
        ∧ s.ptpTakes m = true
        ∧ ((s.clock t).ptpPrune.fl.ptp.chosen.any fun c => decide (c.ident = m.sender) && decide (c.lane = m.lane.val)) = true)
    ∧ (∃ (m : PtpFrom) (s : State),
      s.phase = .ready
        ∧ s.frameKept m.env s.servedPorts = true
        ∧ s.ptpTakes m = true
        ∧ s.fl.ptp.asked = true
        ∧ (s.fl.ptp.chosen.any fun c => decide (c.ident = m.sender) && decide (c.lane = m.lane.val)) = true)
    ∧ (∃ (t : Nat) (s : State),
      s.phase = .ready
        ∧ s.fl.ptp.lastSync + 3 * lsbS ≤ max s.now t
        ∧ s.fl.ptp.locked = true)
    ∧ (∃ (s : State),
      s.phase = .ready) :=
  ⟨⟨⟨130, ⟨true, none, 0, 0, none⟩, false, 0, 77⟩, (((w0.withF (Reg.LN_QUAD_CFG_MODE 32) 1).setH (Reg.LN_LANE_STAT_STATE 130) 8).withF Reg.EP_PTP_CFG_EN 1).withF Reg.EP_PTP_PORTS_LANES 4,
      (by decide +kernel), (by decide +kernel), (by decide +kernel)⟩,
   ⟨5, ⟨130, ⟨true, none, 0, 0, none⟩, false, 0, 77⟩, ((((w0.withF (Reg.LN_QUAD_CFG_MODE 32) 1).setH (Reg.LN_LANE_STAT_STATE 130) 8).withF Reg.EP_PTP_CFG_EN 1).withF Reg.EP_PTP_PORTS_LANES 4).setPtp { masters := [⟨⟨1, 6, 33, 0, 0, 7, 0⟩, 0, 130, 77⟩], asked := true, chosen := some ⟨⟨1, 6, 33, 0, 0, 7, 0⟩, 0, 130, 77⟩ },
      (by decide +kernel), (by decide +kernel), (by decide +kernel), (by decide +kernel)⟩,
   ⟨⟨130, ⟨true, none, 0, 0, none⟩, false, 0, 77⟩, ((((w0.withF (Reg.LN_QUAD_CFG_MODE 32) 1).setH (Reg.LN_LANE_STAT_STATE 130) 8).withF Reg.EP_PTP_CFG_EN 1).withF Reg.EP_PTP_PORTS_LANES 4).setPtp { masters := [⟨⟨1, 6, 33, 0, 0, 7, 0⟩, 0, 130, 77⟩], asked := true, chosen := some ⟨⟨1, 6, 33, 0, 0, 7, 0⟩, 0, 130, 77⟩, syncDiff := 9 },
      (by decide +kernel), (by decide +kernel), (by decide +kernel), (by decide +kernel), (by decide +kernel)⟩,
   ⟨384000000000, (w0.setPtp { locked := true }).setH Reg.SQ_PLAN_STAT_STATE 2,
      (by decide +kernel), (by decide +kernel), (by decide +kernel)⟩,
   ⟨w0,
      (by decide +kernel)⟩⟩

theorem Tests.witness_EventsAreMergedAndSent :
    (∃ (r : Report) (l : List Report) (s : State),
      s.phase = .ready
        ∧ s.ev.inbox = r :: l)
    ∧ (∃ (s : State),
      s.phase = .ready
        ∧ (s.ev.windows.Pairwise fun v w => (v.src, v.code) ≠ (w.src, w.code)))
    ∧ (∃ (t : Nat) (i : Fin 1024) (d : EvDest) (s : State),
      s.phase = .ready
        ∧ s.ev.dests[i.val]? = some d
        ∧ d.who = .svc
        ∧ s.cm.event = none
        ∧ (d.refill (max s.now t)).waiting ≠ []
        ∧ (d.refill (max s.now t)).tokens ≠ 0)
    ∧ (∃ (l : Lane) (b : List Score) (z : Nat) (r : List RxPacket) (s : State),
      s.phase = .ready
        ∧ s.holds l 5 b z r) :=
  ⟨⟨⟨0, 1, .amber, 0, 0, 1, 0, 0, 0, false, none⟩, [], { w0 with ev := { w0.ev with inbox := [⟨0, 1, .amber, 0, 0, 1, 0, 0, 0, false, none⟩] } },
      (by decide +kernel), (by decide +kernel)⟩,
   ⟨{ w0 with ev := { w0.ev with windows := [⟨0, 1, 5, []⟩, ⟨0, 2, 6, []⟩] } },
      (by decide +kernel), (by decide +kernel)⟩,
   ⟨5, 0, ⟨.svc, [⟨0, 1, .amber, 0, 0, 1, 0, 0, 0, false, none⟩], 32, 0, 0⟩, { w0 with ev := { w0.ev with dests := [⟨.svc, [⟨0, 1, .amber, 0, 0, 1, 0, 0, 0, false, none⟩], 32, 0, 0⟩] } },
      (by decide +kernel), (by decide +kernel), (by decide +kernel), (by decide +kernel), (by decide +kernel), (by decide +kernel)⟩,
   ⟨3, [], 0, [], w0.setLink 3 { arrived := [⟨5, [], true, 0⟩] },
      (by decide +kernel), rfl⟩⟩

theorem Tests.witness_FramesAreEvaluated :
    (∃ (i : Island) (v : List Score) (r : List (List Score)) (s : State),
      s.phase = .ready
        ∧ s.siHealthy i.ix = true
        ∧ (s.si i.ix).queue = v :: r
        ∧ (v.getD 2 0).toNat / 2 ^ 16 ≠ 15)
    ∧ (∃ (i : Island) (v : List Score) (r : List (List Score)) (s : State),
      s.phase = .ready
        ∧ s.siHealthy i.ix = true
        ∧ (s.si i.ix).queue = v :: r
        ∧ (v.getD 2 0).toNat / 2 ^ 16 = 15)
    ∧ (∃ (f : Nat) (g : Nat) (ea : List ChanEval) (eb : List ChanEval) (s : State),
      s.phase = .ready
        ∧ s.siLive = [0, 1]
        ∧ s.safe.a.eval = some (f, ea)
        ∧ s.safe.b.eval = some (g, eb))
    ∧ (∃ (i : Island) (f : Nat) (es : List ChanEval) (s : State),
      s.phase = .ready
        ∧ s.siLive = [i.ix]
        ∧ (s.si i.ix).eval = some (f, es))
    ∧ (∃ (t : Nat) (i : Island) (s : State),
      s.phase = .ready
        ∧ s.siHealthy i.ix = true
        ∧ (s.si i.ix).lastMark.isSome = true
        ∧ (s.si i.ix).missing = false
        ∧ (s.si i.ix).markAt + s.framePerLsb + 2 * lsbMs ≤ max s.now t) :=
  ⟨⟨.b, [1, 2, 0x20005, 0], [], w0.setSi 1 { queue := [[1, 2, 0x20005, 0]] },
      (by decide +kernel), (by decide +kernel), (by decide +kernel), (by decide +kernel)⟩,
   ⟨.b, [1, 0, 0xF0000, 0], [], w0.setSi 1 { queue := [[1, 0, 0xF0000, 0]] },
      (by decide +kernel), (by decide +kernel), (by decide +kernel), (by decide +kernel)⟩,
   ⟨3, 3, [], [], (w0.setSi 0 { eval := some (3, []) }).setSi 1 { eval := some (3, []) },
      (by decide +kernel), (by decide +kernel), (by decide +kernel), (by decide +kernel)⟩,
   ⟨.b, 3, [], (w0.setSi 1 { eval := some (3, []) }).setH Reg.SF_STAT_SIA_CAUSE 1,
      (by decide +kernel), (by decide +kernel), (by decide +kernel)⟩,
   ⟨51202560000, .b, w0.setSi 1 { lastMark := some 3 },
      (by decide +kernel), (by decide +kernel), (by decide +kernel), (by decide +kernel), (by decide +kernel)⟩⟩

theorem Tests.witness_IslandsWatchEachOther_of_crc8 (crc : Tab Score → Nat) : ∃ (i : Island) (s : State),
      s.phase = .ready
        ∧ s.siHealthy i.ix = true
        ∧ crc (s.si i.ix).copy = s.safe.ref :=
    ⟨.b, { w0 with safe := { w0.safe with ref := crc w0.safe.b.copy } },
      rfl, rfl, rfl⟩

theorem Tests.witness_IslandsWatchEachOther_of_crc9 (crc : Tab Score → Nat) : ∃ (i : Island) (a : Nat) (v : Score) (s : State),
      s.phase = .ready
        ∧ s.siHealthy i.ix = true
        ∧ crc (Tab.set (s.si i.ix).copy (Reg.resetRw a) a v) ≠ s.safe.ref :=
    ⟨.b, Reg.SF_CFG, 1, { w0 with safe := { w0.safe with ref := crc (Tab.set w0.safe.b.copy (Reg.resetRw Reg.SF_CFG) Reg.SF_CFG 1) + 1 } },
      rfl, rfl, Nat.ne_of_lt (Nat.lt_succ_self _)⟩

theorem Tests.witness_IslandsWatchEachOther :
    (∃ (i : Island) (s : State),
      s.phase = .ready
        ∧ s.siHealthy i.ix = true)
    ∧ (∃ (i : Island) (s : State),
      s.phase = .ready
        ∧ s.siHealthy i.ix = true
        ∧ 0 < (s.si i.ix).inFlight
        ∧ (s.si i.ix).intervals.length < 15)
    ∧ (∃ (i : Island) (n : Nat) (s : State),
      s.phase = .ready
        ∧ s.siLive = [0, 1]
        ∧ 0 < (s.si i.ix).inFlight
        ∧ (s.si i.ix).intervals.length = 15
        ∧ 816000 < n + (s.si i.ix).intervals.sum)
    ∧ (∃ (t : Nat) (i : Island) (s : State),
      s.phase = .ready
        ∧ s.siLive = [0, 1]
        ∧ max (s.si i.ix).lastBeat s.pw.readyAt + 200 * lsbUs ≤ max s.now t)
    ∧ (∃ (i : Island) (s : State),
      s.phase = .ready
        ∧ s.siHealthy i.ix = true)
    ∧ (∃ (i : Island) (s : State),
      s.phase = .ready
        ∧ s.siHealthy i.ix = true)
    ∧ (∃ (i : Island) (s : State),
      s.phase = .ready
        ∧ s.siHealthy i.ix = true)
    ∧ (∃ (i : Island) (s : State),
      s.phase = .ready
        ∧ s.siHealthy i.ix = true)
    ∧ (∃ (i : Island) (s : State),
      s.phase = .ready
        ∧ s.siHealthy i.ix = true
        ∧ sfCrc (s.si i.ix).copy = s.safe.ref)
    ∧ (∃ (i : Island) (a : Nat) (v : Score) (s : State),
      s.phase = .ready
        ∧ s.siHealthy i.ix = true
        ∧ sfCrc (Tab.set (s.si i.ix).copy (Reg.resetRw a) a v) ≠ s.safe.ref) :=
  ⟨⟨.b, w0,
      (by decide +kernel), (by decide +kernel)⟩,
   ⟨.b, w0.setSi 1 { inFlight := 1, intervals := [1,2,3,4,5,6,7,8,9,10,11,12,13,14] },
      (by decide +kernel), (by decide +kernel), (by decide +kernel), (by decide +kernel)⟩,
   ⟨.b, 816001, w0.setSi 1 { inFlight := 1, intervals := [0,0,0,0,0,0,0,0,0,0,0,0,0,0,0] },
      (by decide +kernel), (by decide +kernel), (by decide +kernel), (by decide +kernel), (by decide +kernel)⟩,
   ⟨25600000, .b, w0,
      (by decide +kernel), (by decide +kernel), (by decide +kernel)⟩,
   ⟨.b, w0,
      (by decide +kernel), (by decide +kernel)⟩,
   ⟨.b, w0,
      (by decide +kernel), (by decide +kernel)⟩,
   ⟨.b, w0.energised 3,
      (by decide +kernel), (by decide +kernel)⟩,
   ⟨.b, w0.energised 3,
      (by decide +kernel), (by decide +kernel)⟩,
   Tests.witness_IslandsWatchEachOther_of_crc8 sfCrc,
   Tests.witness_IslandsWatchEachOther_of_crc9 sfCrc⟩

theorem Tests.witness_ChannelsTripAtFaults :
    (∃ (m : Island) (n : SafeCh) (level : Bool) (s : State),
      s.phase = .ready
        ∧ s.chEnergised n = true
        ∧ s.sf (Reg.SF_CH_CFG_EN n) = 1
        ∧ level ≠ s.soLevel m.ix n)
    ∧ (∃ (s : State),
      s.phase = .ready)
    ∧ (∃ (c : SfbChange) (s : State),
      s.phase = .ready
        ∧ c.widthNs ≤ 100000)
    ∧ (∃ (c : SfbChange) (s : State),
      s.phase = .ready
        ∧ 100000 < c.widthNs)
    ∧ (∃ (t : Nat) (n : SafeCh) (s : State),
      s.phase = .ready
        ∧ s.chEnergised n = true
        ∧ s.fbWrong n = true
        ∧ (s.safeChan n).fbOk = false
        ∧ (s.safeChan n).changedAt + max 1 (s.sf (Reg.SF_FB_TIME_MS n)) * lsbMs ≤ max s.now t)
    ∧ (∃ (t : Nat) (n : SafeCh) (e : Nat) (s : State),
      s.phase = .ready
        ∧ s.chState n = 3
        ∧ (s.safeChan n).degUntil = some e
        ∧ e ≤ max s.now t)
    ∧ (∃ (t : Nat) (k : FslSlot) (s : State),
      s.phase = .ready
        ∧ s.sf (Reg.SF_RX_CFG_EN k) = 1
        ∧ s.h (Reg.SF_RX_STAT_STATE k) ≠ 2
        ∧ (s.slot k).since + max 1 (s.sf (Reg.SF_RX_TMO_MS k)) * lsbMs ≤ max s.now t) :=
  ⟨⟨.b, 3, false, w0.energised 3,
      (by decide +kernel), (by decide +kernel), (by decide +kernel), (by decide +kernel)⟩,
   ⟨(w0.energised 3).setSafeChan 3 { rbB := true },
      (by decide +kernel)⟩,
   ⟨⟨true, 100000⟩, w0,
      (by decide +kernel), (by decide +kernel)⟩,
   ⟨⟨true, 100001⟩, w0,
      (by decide +kernel), (by decide +kernel)⟩,
   ⟨128000000, 3, (((w0.energised 3).withSf (Reg.SF_CH_CFG_FB_EN 3) 1).withSf (Reg.SF_FB_TIME_MS 3) 1).setH (Reg.SF_CH_STAT_SFB 3) 1,
      (by decide +kernel), (by decide +kernel), (by decide +kernel), (by decide +kernel), (by decide +kernel)⟩,
   ⟨5, 0, 5, ((w0.energised 0).setH (Reg.SF_CH_STAT_STATE 0) 3).setSafeChan 0 { degUntil := some 5 },
      (by decide +kernel), (by decide +kernel), (by decide +kernel), (by decide +kernel)⟩,
   ⟨128000000000, 3, w0.withSf (Reg.SF_RX_CFG_EN 3) 1,
      (by decide +kernel), (by decide +kernel), (by decide +kernel), (by decide +kernel)⟩⟩

theorem Tests.witness_ResetsAndMessagesAct :
    (∃ (i : Island) (s : State),
      s.phase = .ready
        ∧ s.h (if i = .a then Reg.SF_STAT_SRST_A else Reg.SF_STAT_SRST_B) = 1)
    ∧ (∃ (t : Nat) (i : Island) (f : Nat) (s : State),
      s.phase = .ready
        ∧ s.h (if i = .a then Reg.SF_STAT_SRST_A else Reg.SF_STAT_SRST_B) = 0
        ∧ (s.si i.ix).fallAt = some f
        ∧ f + 50 * lsbMs ≤ max s.now t)
    ∧ (∃ (t : Nat) (i : Island) (r : Nat) (s : State),
      s.phase = .ready
        ∧ s.siLive = [0, 1]
        ∧ (s.si i.ix).riseAt = some r
        ∧ r + 10 * lsbMs ≤ max s.now t
        ∧ (s.si i.other).edgeAt = none)
    ∧ (∃ (t : Nat) (i : Island) (r : Nat) (e : Nat) (n : SafeCh) (s : State),
      s.phase = .ready
        ∧ s.siLive = [0, 1]
        ∧ (s.si i.ix).riseAt = some r
        ∧ r + 10 * lsbMs ≤ max s.now t
        ∧ (s.si i.other).edgeAt = some e
        ∧ r + 10 * lsbMs ≤ e + 2 * lsbMs
        ∧ e ≤ r + 10 * lsbMs + 2 * lsbMs
        ∧ s.sf (Reg.SF_CH_CFG_SRST_EN n) = 1
        ∧ s.resetReady n = true
        ∧ s.safe.a.copy = s.safe.b.copy
        ∧ s.safe.a.shown = s.safe.b.shown)
    ∧ (∃ (t : Nat) (i : Island) (e : Nat) (s : State),
      s.phase = .ready
        ∧ s.siLive = [0, 1]
        ∧ (s.si i.ix).edgeAt = some e
        ∧ e + 2 * lsbMs < max s.now t)
    ∧ (∃ (t : Nat) (l : Lane) (b : List Score) (z : Nat) (r : List RxPacket) (k : Nat) (m : FslMsg) (s : State),
      s.phase = .ready
        ∧ s.siLive = [0, 1]
        ∧ s.holds l 7 b z r
        ∧ (s.clock t).fslIsland 0 b = some (k, m, 0)
        ∧ (s.clock t).fslIsland 1 b = some (k, m, 0)
        ∧ m.mtype = 1
        ∧ m.payload.getD 0 0 / 2 ^ 17 = 2)
    ∧ (∃ (t : Nat) (l : Lane) (b : List Score) (z : Nat) (r : List RxPacket) (k : Nat) (e : Nat) (f : Nat) (m : FslMsg) (s : State),
      s.phase = .ready
        ∧ s.siLive = [0, 1]
        ∧ s.holds l 7 b z r
        ∧ (s.clock t).fslIsland 0 b = some (k, m, e)
        ∧ (s.clock t).fslIsland 1 b = some (k, m, f)
        ∧ e ≠ 0
        ∧ f ≠ 0
        ∧ (s.slot k).badRun < 2) :=
  ⟨⟨.b, w0.setH Reg.SF_STAT_SRST_B 1,
      (by decide +kernel), (by decide +kernel)⟩,
   ⟨6400000005, .b, 5, (w0.setSi 1 { fallAt := some 5 }).setH Reg.SF_STAT_SRST_B 0,
      (by decide +kernel), (by decide +kernel), (by decide +kernel), (by decide +kernel)⟩,
   ⟨1280000005, .b, 5, w0.setSi 1 { riseAt := some 5 },
      (by decide +kernel), (by decide +kernel), (by decide +kernel), (by decide +kernel), (by decide +kernel)⟩,
   ⟨1280000005, .b, 5, 1280000000, 3, (((w0.tripped 3).withSf (Reg.SF_CH_CFG_SRST_EN 3) 1).setSi 1 { ((w0.tripped 3).withSf (Reg.SF_CH_CFG_SRST_EN 3) 1).safe.b with riseAt := some 5 }).setSi 0 { ((w0.tripped 3).withSf (Reg.SF_CH_CFG_SRST_EN 3) 1).safe.a with edgeAt := some 1280000000 },
      (by decide +kernel), (by decide +kernel), (by decide +kernel), (by decide +kernel), (by decide +kernel), (by decide +kernel), (by decide +kernel), (by decide +kernel), (by decide +kernel), (by decide +kernel), (by decide +kernel)⟩,
   ⟨256000006, .a, 5, w0.setSi 0 { edgeAt := some 5 },
      (by decide +kernel), (by decide +kernel), (by decide +kernel), (by decide +kernel)⟩,
   ⟨5, 100, zoneScores, 0, [], 3, zoneMsg, wSlot.setLink 100 { arrived := [⟨7, zoneScores, true, 0⟩] },
      (by decide +kernel), (by decide +kernel), rfl, (by decide +kernel), (by decide +kernel), (by decide +kernel), (by decide +kernel)⟩,
   ⟨5, 100, zoneBody ++ [0, 0], 0, [], 3, 2, 2, { zoneMsg with check := 0 }, wSlot.setLink 100 { arrived := [⟨7, zoneBody ++ [0, 0], true, 0⟩] },
      (by decide +kernel), (by decide +kernel), rfl, (by decide +kernel), (by decide +kernel), (by decide +kernel), (by decide +kernel), (by decide +kernel)⟩⟩

theorem Tests.witness_CommandsArriveAndReplyIsRead :
    (∃ (bytes : List (BitVec 8)) (s : State),
      s.phase = .ready
        ∧ 3 ≤ bytes.length
        ∧ s.cmdsOf .svc = []
        ∧ s.cacheOf .svc = []
        ∧ bytes.length = 3 * (1 + ((octetScores (bytes.length / 3) bytes).getD 0 0).toNat % 64)
        ∧ opcodeKnown (((octetScores (bytes.length / 3) bytes).getD 0 0).toNat / 2 ^ 12) = true)
    ∧ (∃ (bytes : List (BitVec 8)) (s : State),
      s.phase = .ready
        ∧ (bytes.length < 3 ∨ bytes.length ≠ 3 * (1 + ((octetScores (bytes.length / 3) bytes).getD 0 0).toNat % 64)))
    ∧ (∃ (n : Nat) (r : List Score) (rest : List (List Score)) (s : State),
      s.phase = .ready
        ∧ s.cm.replies = r :: rest
        ∧ 3 * r.length ≤ n
        ∧ s.cmdsOf .svc = [])
    ∧ (∃ (n : Nat) (e : List Score) (s : State),
      s.phase = .ready
        ∧ s.cm.event = some e
        ∧ 3 * e.length ≤ n)
    ∧ (∃ (l : Lane) (b : List Score) (k : Nat) (r : List RxPacket) (s : State),
      s.phase = .ready
        ∧ s.holds l 3 b k r
        ∧ b ≠ []
        ∧ opcodeKnown ((b.getD 0 0).toNat / 2 ^ 12) = true
        ∧ s.cmdsOf (s.keyOf (.link (s.linkOf l).1)) = []
        ∧ s.cacheOf (s.keyOf (.link (s.linkOf l).1)) = [])
    ∧ (∃ (l : Lane) (env : Envelope) (ip : Nat) (port : Nat) (bytes : List (BitVec 8)) (s : State),
      s.phase = .ready
        ∧ s.ethUp l = true
        ∧ s.frameKept env s.servedPorts = true
        ∧ env.port = some 48121
        ∧ 3 ≤ bytes.length
        ∧ bytes.length % 3 = 0
        ∧ bytes.length ≤ 192
        ∧ s.fo Reg.CM_CFG_UDP_LANES / 2 ^ (l.val - 128) % 2 = 1
        ∧ opcodeKnown (((octetScores (bytes.length / 3) bytes).getD 0 0).toNat / 2 ^ 12) = true
        ∧ s.cmdsOf (s.keyOf (.udp l ip port)) = []
        ∧ s.cacheOf (s.keyOf (.udp l ip port)) = [])
    ∧ (∃ (t : Nat) (src : Source) (c : Cmd) (s : State),
      s.phase = .ready
        ∧ (s.clock t).asks src 0x00 c)
    ∧ (∃ (t : Nat) (src : Source) (c : Cmd) (s : State),
      s.phase = .ready
        ∧ s.sq.closeDue = false
        ∧ (s.clock t).asks src 0x01 c
        ∧ (c.cls ≠ 0 ∨ (s.clock t).maintOpen = true)
        ∧ c.p 2 = 1
        ∧ s.regs.posted = []
        ∧ c.addr ≠ Reg.SYS_UPTIME_H
        ∧ c.addr ≠ Reg.EP_TIME_SEC
        ∧ isKeyReg (Reg.base c.addr) = false
        ∧ (∀ b, b < 4 → c.addr ≠ Reg.AQ_RD_DATA b ∧ c.addr ≠ Reg.AQ_HIST_DATA b))
    ∧ (∃ (s : State),
      s.phase = .ready) :=
  ⟨⟨[0, 0x01, 0x40], w0,
      (by decide +kernel), (by decide +kernel), (by decide +kernel), (by decide +kernel), (by decide +kernel), (by decide +kernel)⟩,
   ⟨[0, 0x01], w0,
      (by decide +kernel), (by decide +kernel)⟩,
   ⟨3, [7], [[8]], { w0 with cm := { w0.cm with replies := [[7], [8]] } },
      (by decide +kernel), (by decide +kernel), (by decide +kernel), (by decide +kernel)⟩,
   ⟨4, [7], { w0 with cm := { w0.cm with event := some [7] } },
      (by decide +kernel), (by decide +kernel), (by decide +kernel)⟩,
   ⟨100, [0x00140], 3, [], w0.setLink 100 { arrived := [⟨3, [0x00140], true, 3⟩] },
      (by decide +kernel), rfl, (by decide +kernel), (by decide +kernel), (by decide +kernel), (by decide +kernel)⟩,
   ⟨130, ⟨true, none, 0, 0, some 48121⟩, 1, 2, [0, 0x01, 0x40], ((w0.withF (Reg.LN_QUAD_CFG_MODE 32) 1).setH (Reg.LN_LANE_STAT_STATE 130) 8).setFo Reg.CM_CFG_UDP_LANES 4,
      (by decide +kernel), (by decide +kernel), (by decide +kernel), (by decide +kernel), (by decide +kernel), (by decide +kernel), (by decide +kernel), (by decide +kernel), (by decide +kernel), (by decide +kernel), (by decide +kernel)⟩,
   ⟨5, .svc, cmdOf 0 0 [], w0.ask .svc (cmdOf 0 0 []),
      (by decide +kernel), (by unfold State.asks; decide +kernel)⟩,
   ⟨5, .svc, cmdOf 1 0 [0, 0, 1], w0.ask .svc (cmdOf 1 0 [0, 0, 1]),
      (by decide +kernel), (by decide +kernel), (by unfold State.asks; decide +kernel), (by decide +kernel), (by decide +kernel), (by decide +kernel), (by decide +kernel), (by decide +kernel), (by decide +kernel), (by decide +kernel)⟩,
   ⟨w0,
      (by decide +kernel)⟩⟩

theorem Tests.witness_RegistersAreWritten :
    (∃ (t : Nat) (src : Source) (c : Cmd) (v : Score) (s : State),
      s.phase = .ready
        ∧ s.sq.closeDue = false
        ∧ (s.clock t).asks src 0x02 c
        ∧ s.regs.posted = []
        ∧ c.values = [v]
        ∧ c.addr = Reg.CM_CFG
        ∧ c.cls = 0
        ∧ v.toNat / 2 ^ 17 = 0)
    ∧ (∃ (t : Nat) (src : Source) (c : Cmd) (v : Score) (s : State),
      s.phase = .ready
        ∧ s.sq.closeDue = false
        ∧ (s.clock t).asks src 0x02 c
        ∧ s.regs.posted = []
        ∧ c.values = [v]
        ∧ (busyOf c.addr).isSome = true
        ∧ (s.clock t).writeRefused c = none)
    ∧ (∃ (t : Nat) (src : Source) (c : Cmd) (v : Score) (s : State),
      s.phase = .ready
        ∧ s.sq.closeDue = false
        ∧ (s.clock t).asks src 0x03 c
        ∧ s.regs.posted = []
        ∧ c.values = [v]
        ∧ (busyOf c.addr).isSome = true
        ∧ (s.clock t).writeRefused c = none)
    ∧ (∃ (bit : Fin 15) (a : Nat) (k : RegKind) (v : Score) (s : State),
      s.phase = .ready
        ∧ s.sq.closeDue = false
        ∧ s.cm.queues = []
        ∧ s.regs.posted = [{ addr := a + 0x800000, value := v, cmd := 0 }]
        ∧ busyOf (a + 0x800000) = some bit.val
        ∧ Reg.find a = some k
        ∧ k.inSet = true)
    ∧ (∃ (t : Nat) (src : Source) (c : Cmd) (y : Nat) (s : State),
      s.phase = .ready
        ∧ s.cmdsOf (s.keyOf src) = [c]
        ∧ c.since = some y
        ∧ c.opcode = 0x02
        ∧ y + lsbMs ≤ max s.now t
        ∧ s.mayReply (s.keyOf src) = true)
    ∧ (∃ (t : Nat) (src : Source) (c : Cmd) (s : State),
      s.phase = .ready
        ∧ (s.clock t).asks src 0x04 c
        ∧ c.p 1 ≤ 1000000
        ∧ s.cmBusy &&& c.p 0 = 0)
    ∧ (∃ (t : Nat) (src : Source) (c : Cmd) (s : State),
      s.phase = .ready
        ∧ (s.clock t).asks src 0x04 c
        ∧ c.p 1 ≤ 1000000
        ∧ s.cmBusy &&& c.p 0 ≠ 0)
    ∧ (∃ (t : Nat) (src : Source) (c : Cmd) (y : Nat) (s : State),
      s.phase = .ready
        ∧ s.cmdsOf (s.keyOf src) = [c]
        ∧ c.since = some y
        ∧ c.opcode = 0x04
        ∧ y + c.p 1 * lsbUs ≤ max s.now t
        ∧ s.mayReply (s.keyOf src) = true) :=
  ⟨⟨5, .svc, cmdOf 2 0 [BitVec.ofNat 20 (Reg.CM_CFG / 2 ^ 20), BitVec.ofNat 20 Reg.CM_CFG, 0x1FFFF], 0x1FFFF, w0.ask .svc (cmdOf 2 0 [BitVec.ofNat 20 (Reg.CM_CFG / 2 ^ 20), BitVec.ofNat 20 Reg.CM_CFG, 0x1FFFF]),
      (by decide +kernel), (by decide +kernel), (by unfold State.asks; decide +kernel), (by decide +kernel), (by decide +kernel), (by decide +kernel), (by decide +kernel), (by decide +kernel)⟩,
   ⟨5, .svc, cmdOf 2 0 [0, 0x40000, 7], 7, w0.ask .svc (cmdOf 2 0 [0, 0x40000, 7]),
      (by decide +kernel), (by decide +kernel), (by unfold State.asks; decide +kernel), (by decide +kernel), (by decide +kernel), (by decide +kernel), (by decide +kernel)⟩,
   ⟨5, .svc, cmdOf 3 0 [0, 0x40000, 7], 7, w0.ask .svc (cmdOf 3 0 [0, 0x40000, 7]),
      (by decide +kernel), (by decide +kernel), (by unfold State.asks; decide +kernel), (by decide +kernel), (by decide +kernel), (by decide +kernel), (by decide +kernel)⟩,
   ⟨1, 0x40000, ⟨262144, [], false, 30, 0, 32, [], 0⟩, 7, { w0 with regs := { w0.regs with posted := [⟨0x840000, 7, 0⟩] } },
      (by decide +kernel), (by decide +kernel), (by decide +kernel), (by decide +kernel), (by decide +kernel), (by decide +kernel), (by decide +kernel)⟩,
   ⟨128000005, .svc, { cmdOf 2 0 [0, 0x40000, 7] with since := some 5 }, 5, w0.ask .svc { cmdOf 2 0 [0, 0x40000, 7] with since := some 5 },
      (by decide +kernel), (by decide +kernel), (by decide +kernel), (by decide +kernel), (by decide +kernel), (by decide +kernel)⟩,
   ⟨5, .svc, cmdOf 4 0 [0x7FFF, 3], w0.ask .svc (cmdOf 4 0 [0x7FFF, 3]),
      (by decide +kernel), (by unfold State.asks; decide +kernel), (by decide +kernel), (by decide +kernel)⟩,
   ⟨5, .svc, cmdOf 4 0 [0x7FFF, 3], { w0.ask .svc (cmdOf 4 0 [0x7FFF, 3]) with regs := { w0.regs with posted := [⟨0x40000, 7, 9⟩] } },
      (by decide +kernel), (by unfold State.asks; decide +kernel), (by decide +kernel), (by decide +kernel)⟩,
   ⟨384005, .svc, { cmdOf 4 0 [0x7FFF, 3] with since := some 5 }, 5, { w0.ask .svc { cmdOf 4 0 [0x7FFF, 3] with since := some 5 } with regs := { w0.regs with posted := [⟨0x40000, 7, 9⟩] } },
      (by decide +kernel), (by decide +kernel), (by decide +kernel), (by decide +kernel), (by decide +kernel), (by decide +kernel)⟩⟩

theorem Tests.witness_SetsAreCheckedAndChecksummed_of_crc1 (crc : Tab Score → List Nat → BitVec 32) : ∃ (t : Nat) (src : Source) (c : Cmd) (s : State),
      s.phase = .ready
        ∧ (s.clock t).asks src 0x11 c
        ∧ s.h Reg.CF_STAT_LOCK = 0
        ∧ s.activeB = !decide (c.p 0 % 2 = 1)
        ∧ s.regs.posted = []
        ∧ checkSet s.shadowTab none = none
        ∧ crc s.shadowTab setBlocks = BitVec.ofNat 32 (c.p 1 % 2 ^ 12 * 2 ^ 20 + c.p 2) :=
    ⟨5, .svc, cmdOf 0x11 0 [1, hiOf (crc w0.shadowTab setBlocks), loOf (crc w0.shadowTab setBlocks)], w0.ask .svc (cmdOf 0x11 0 [1, hiOf (crc w0.shadowTab setBlocks), loOf (crc w0.shadowTab setBlocks)]),
      rfl, Tests.asks_commit (crc w0.shadowTab setBlocks), rfl, rfl, rfl, Tests.reset_set_checks, Tests.commit_value (crc w0.shadowTab setBlocks)⟩

theorem Tests.witness_SetsAreCheckedAndChecksummed_of_crc3 (crc : Tab Score → List Nat → BitVec 32) : ∃ (t : Nat) (src : Source) (c : Cmd) (s : State),
      s.phase = .ready
        ∧ (s.clock t).asks src 0x10 c
        ∧ s.h Reg.CF_STAT_LOCK = 0
        ∧ s.regs.posted = []
        ∧ s.refValid (!s.activeB) = true
        ∧ crc s.shadowTab setBlocks = s.refValue (!s.activeB)
        ∧ checkSet s.shadowTab none = none
        ∧ max s.now t + 100 * lsbUs ≤ s.sq.nextBoundary :=
    by
    refine ⟨5, .svc, cmdOf 0x10 0 [], Tests.swapping (crc w0.shadowTab setBlocks), rfl, Tests.asks_swap _, ?_⟩
    have h := Tests.swapping_refs (crc w0.shadowTab setBlocks)
    exact ⟨h.1, rfl, h.2.1, by rw [h.2.2.2]; exact h.2.2.1, by rw [h.2.2.2]; exact Tests.reset_set_checks, by rw [Tests.swapping_times.1, Tests.swapping_times.2]; decide⟩

theorem Tests.witness_SetsAreCheckedAndChecksummed_of_crc5 (crc : Tab Score → List Nat → BitVec 32) : ∃ (s : State),
      s.phase = .ready
        ∧ s.sq.closeDue = false
        ∧ s.cf.passDirty = false
        ∧ s.refValid s.activeB = true
        ∧ crc s.activeTab setBlocks = s.refValue s.activeB :=
    by
    have hb : (w0.setRef false (crc w0.activeTab setBlocks) true).activeB = false := State.activeB_setRef _ _ _ _
    refine ⟨w0.setRef false (crc w0.activeTab setBlocks) true, rfl, rfl, rfl, ?_, ?_⟩
    · rw [hb]; exact State.refValid_setRef _ _ _ _
    · rw [hb, State.refValue_setRef, (State.tabs_setRef _ _ _ _).1]

theorem Tests.witness_SetsAreCheckedAndChecksummed_of_crc6 (crc : Tab Score → List Nat → BitVec 32) : ∃ (s : State),
      s.phase = .ready
        ∧ s.sq.closeDue = false
        ∧ s.cf.passDirty = false
        ∧ crc s.activeTab setBlocks ≠ s.refValue s.activeB
        ∧ s.h Reg.CF_STAT_LIVE = 0
        ∧ s.sf Reg.SF_CFG_CRC_TRIP = 0
        ∧ s.fo Reg.CF_CRC_CFG_STOP_FIRE = 0 :=
    by
    have hb := State.activeB_setRef Tests.quietCrc false (crc Tests.quietCrc.activeTab setBlocks + 1) true
    refine ⟨Tests.quietCrc.setRef false (crc Tests.quietCrc.activeTab setBlocks + 1) true, rfl, rfl, rfl, ?_, ?_, ?_, ?_⟩
    · rw [hb, show Tests.quietCrc.activeB = false from rfl, State.refValue_setRef, (State.tabs_setRef _ _ _ _).1]
      exact fun h => Tests.add_one_ne _ h
    · rw [State.h_setRef_of_ne _ _ _ _ _ (by decide)]; rfl
    · simp only [State.sf, State.siHealthy, State.fs, State.si, siCause, if_true, State.h_setRef_of_ne _ _ _ _ Reg.SF_STAT_SIA_CAUSE (by decide),
        State.setRef_sets]
      decide +kernel
    · simp only [State.fo, State.oneReg, State.setRef_sets]
      decide +kernel

theorem Tests.witness_SetsAreCheckedAndChecksummed :
    (∃ (t : Nat) (src : Source) (c : Cmd) (s : State),
      s.phase = .ready
        ∧ (s.clock t).asks src 0x11 c
        ∧ s.h Reg.CF_STAT_LOCK = 0
        ∧ s.activeB = decide (c.p 0 % 2 = 1)
        ∧ checkSet s.activeTab none = none)
    ∧ (∃ (t : Nat) (src : Source) (c : Cmd) (s : State),
      s.phase = .ready
        ∧ (s.clock t).asks src 0x11 c
        ∧ s.h Reg.CF_STAT_LOCK = 0
        ∧ s.activeB = !decide (c.p 0 % 2 = 1)
        ∧ s.regs.posted = []
        ∧ checkSet s.shadowTab none = none
        ∧ setCrc s.shadowTab setBlocks = BitVec.ofNat 32 (c.p 1 % 2 ^ 12 * 2 ^ 20 + c.p 2))
    ∧ (∃ (t : Nat) (src : Source) (c : Cmd) (s : State),
      s.phase = .ready
        ∧ (s.clock t).asks src 0x12 c
        ∧ s.h Reg.CF_STAT_LOCK = 0
        ∧ s.h Reg.CF_STAT_LIVE = 0)
    ∧ (∃ (t : Nat) (src : Source) (c : Cmd) (s : State),
      s.phase = .ready
        ∧ (s.clock t).asks src 0x10 c
        ∧ s.h Reg.CF_STAT_LOCK = 0
        ∧ s.regs.posted = []
        ∧ s.refValid (!s.activeB) = true
        ∧ setCrc s.shadowTab setBlocks = s.refValue (!s.activeB)
        ∧ checkSet s.shadowTab none = none
        ∧ max s.now t + 100 * lsbUs ≤ s.sq.nextBoundary)
    ∧ (∃ (s : State),
      s.phase = .ready
        ∧ s.sq.closeDue = false
        ∧ s.cf.passDirty = true)
    ∧ (∃ (s : State),
      s.phase = .ready
        ∧ s.sq.closeDue = false
        ∧ s.cf.passDirty = false
        ∧ s.refValid s.activeB = true
        ∧ setCrc s.activeTab setBlocks = s.refValue s.activeB)
    ∧ (∃ (s : State),
      s.phase = .ready
        ∧ s.sq.closeDue = false
        ∧ s.cf.passDirty = false
        ∧ setCrc s.activeTab setBlocks ≠ s.refValue s.activeB
        ∧ s.h Reg.CF_STAT_LIVE = 0
        ∧ s.sf Reg.SF_CFG_CRC_TRIP = 0
        ∧ s.fo Reg.CF_CRC_CFG_STOP_FIRE = 0)
    ∧ (∃ (t : Nat) (s : State),
      s.phase = .ready
        ∧ s.h Reg.CF_STAT_LIVE = 1
        ∧ s.cf.liveUntil ≤ max s.now t) :=
  ⟨⟨5, .svc, cmdOf 0x11 0 [0, 0x12, 0x345], w0.ask .svc (cmdOf 0x11 0 [0, 0x12, 0x345]),
      (by decide +kernel), (by unfold State.asks; decide +kernel), (by decide +kernel), (by decide +kernel), (by decide +kernel)⟩,
   Tests.witness_SetsAreCheckedAndChecksummed_of_crc1 setCrc,
   ⟨5, .svc, cmdOf 0x12 0 [], w0.ask .svc (cmdOf 0x12 0 []),
      (by decide +kernel), (by unfold State.asks; decide +kernel), (by decide +kernel), (by decide +kernel)⟩,
   Tests.witness_SetsAreCheckedAndChecksummed_of_crc3 setCrc,
   ⟨{ w0 with cf := { w0.cf with passDirty := true } },
      (by decide +kernel), (by decide +kernel), (by decide +kernel)⟩,
   Tests.witness_SetsAreCheckedAndChecksummed_of_crc5 setCrc,
   Tests.witness_SetsAreCheckedAndChecksummed_of_crc6 setCrc,
   ⟨5, { w0.setH Reg.CF_STAT_LIVE 1 with cf := { w0.cf with liveUntil := 5 } },
      (by decide +kernel), (by decide +kernel), (by decide +kernel)⟩⟩

theorem Tests.witness_CommandsRunTheDevice :
    (∃ (t : Nat) (src : Source) (c : Cmd) (s : State),
      s.phase = .ready
        ∧ (s.clock t).asks src 0x20 c
        ∧ s.h Reg.CF_STAT_STOPPED = 0
        ∧ s.sq.refLost = false)
    ∧ (∃ (t : Nat) (src : Source) (c : Cmd) (y : Cycle) (s : State),
      s.phase = .ready
        ∧ s.sq.closeDue = false
        ∧ (s.clock t).asks src 0x21 c
        ∧ s.sq.cyc = some y)
    ∧ (∃ (t : Nat) (src : Source) (c : Cmd) (s : State),
      s.phase = .ready
        ∧ s.sq.closeDue = false
        ∧ (s.clock t).asks src 0x21 c
        ∧ s.sq.cyc = none
        ∧ s.sq.inScan = false)
    ∧ (∃ (t : Nat) (src : Source) (c : Cmd) (s : State),
      s.phase = .ready
        ∧ (s.clock t).asks src 0x22 c
        ∧ (∀ d, (s.axChan d).zWait = false))
    ∧ (∃ (t : Nat) (c : Cmd) (s : State),
      s.phase = .ready
        ∧ (s.clock t).asks .svc 0x30 c
        ∧ c.port = .svc
        ∧ c.p 0 / 2 ^ 18 = 1
        ∧ c.p 0 % 16 ≤ 2
        ∧ 1 ≤ c.p 1
        ∧ c.p 1 ≤ 3600
        ∧ s.fl.subs = [])
    ∧ (∃ (t : Nat) (c : Cmd) (u : Sub) (s : State),
      s.phase = .ready
        ∧ (s.clock t).asks .svc 0x31 c
        ∧ c.cls = 0
        ∧ (s.clock t).maintOpen = true
        ∧ u.kind = 1
        ∧ u.idx = c.p 0
        ∧ s.fl.subs = [u])
    ∧ (∃ (t : Nat) (src : Source) (c : Cmd) (s : State),
      s.phase = .ready
        ∧ (s.clock t).asks src 0x60 c) :=
  ⟨⟨5, .svc, cmdOf 0x20 0 [], w0.ask .svc (cmdOf 0x20 0 []),
      (by decide +kernel), (by unfold State.asks; decide +kernel), (by decide +kernel), (by decide +kernel)⟩,
   ⟨5, .svc, cmdOf 0x21 0 [], ⟨1, 0, 1280, 0, false⟩, w0.cycling.ask .svc (cmdOf 0x21 0 []),
      (by decide +kernel), (by decide +kernel), (by unfold State.asks; decide +kernel), (by decide +kernel)⟩,
   ⟨5, .svc, cmdOf 0x21 0 [], w0.ask .svc (cmdOf 0x21 0 []),
      (by decide +kernel), (by decide +kernel), (by unfold State.asks; decide +kernel), (by decide +kernel), (by decide +kernel)⟩,
   ⟨5, .svc, cmdOf 0x22 0 [], w0.ask .svc (cmdOf 0x22 0 []),
      (by decide +kernel), (by unfold State.asks; decide +kernel), (fun _ => rfl)⟩,
   ⟨5, cmdOf 0x30 0 [0x40002, 3600], w0.ask .svc (cmdOf 0x30 0 [0x40002, 3600]),
      (by decide +kernel), (by unfold State.asks; decide +kernel), (by decide +kernel), (by decide +kernel), (by decide +kernel), (by decide +kernel), (by decide +kernel), (by decide +kernel)⟩,
   ⟨5, cmdOf 0x31 0 [9], ⟨9, 1, 0, .svc, 0, none⟩, { w0.ask .svc (cmdOf 0x31 0 [9]) with fl := { w0.fl with subs := [⟨9, 1, 0, .svc, 0, none⟩] } },
      (by decide +kernel), (by unfold State.asks; decide +kernel), (by decide +kernel), (by decide +kernel), (by decide +kernel), (by decide +kernel), (by decide +kernel)⟩,
   ⟨5, .svc, cmdOf 0x60 0 [0x81], (w0.setH (Reg.SF_CH_CAUSE_FIRST 7) 5).ask .svc (cmdOf 0x60 0 [0x81]),
      (by decide +kernel), (by unfold State.asks; decide +kernel)⟩⟩

theorem Tests.witness_RespondFails :
    (∃ (t : Nat) (src : Source) (c : Cmd) (s : State),
      s.phase = .ready
        ∧ (s.clock t).asks src 0x41 c
        ∧ (s.clock t).authWait = 0
        ∧ (∀ n e, s.cm.nonce = some (n, e) → e ≤ max s.now t))
    ∧ (∃ (t : Nat) (src : Source) (c : Cmd) (n : Nat) (e : Nat) (s : State),
      s.phase = .ready
        ∧ (s.clock t).asks src 0x41 c
        ∧ (s.clock t).authWait = 0
        ∧ s.cm.nonce = some (n, e)
        ∧ max s.now t < e
        ∧ joinScores (c.scores.drop 1) % 2 ^ 256 ≠ respondMac s.pw.key n) :=
  ⟨⟨5, .svc, cmdOf 0x41 0 [0, 0, 0, 0, 0, 0, 0, 0, 0, 0, 0, 0, 0], w0.ask .svc (cmdOf 0x41 0 [0, 0, 0, 0, 0, 0, 0, 0, 0, 0, 0, 0, 0]),
      (by decide +kernel), (by unfold State.asks; decide +kernel), (by decide +kernel), (fun _ _ h => nomatch h)⟩,
   ⟨5, .svc, cmdOf 0x41 0 [0, 0, 0, 0, 0, 0, 0, 0, 0, 0, 0, 0, 0], 9, 6, { w0.ask .svc (cmdOf 0x41 0 [0, 0, 0, 0, 0, 0, 0, 0, 0, 0, 0, 0, 0]) with cm := { (w0.ask .svc (cmdOf 0x41 0 [0, 0, 0, 0, 0, 0, 0, 0, 0, 0, 0, 0, 0])).cm with nonce := some (9, 6) } },
      (by decide +kernel), (by unfold State.asks; decide +kernel), (by decide +kernel), (by decide +kernel), (by decide +kernel), (by decide +kernel)⟩⟩

theorem Tests.witness_SessionsOpenAndClose :
    (∃ (t : Nat) (src : Source) (c : Cmd) (s : State),
      s.phase = .ready
        ∧ (s.clock t).asks src 0x40 c
        ∧ (s.clock t).authWait = 0)
    ∧ (∃ (t : Nat) (src : Source) (c : Cmd) (n : Nat) (e : Nat) (s : State),
      s.phase = .ready
        ∧ (s.clock t).asks src 0x41 c
        ∧ (s.clock t).authWait = 0
        ∧ s.cm.nonce = some (n, e)
        ∧ max s.now t < e
        ∧ joinScores (c.scores.drop 1) % 2 ^ 256 = respondMac s.pw.key n
        ∧ s.pw.fails = 0)
    ∧ (∃ (t : Nat) (src : Source) (c : Cmd) (n : Nat) (e : Nat) (s : State),
      s.phase = .ready
        ∧ (s.clock t).asks src 0x41 c
        ∧ (s.clock t).authWait = 0
        ∧ s.cm.nonce = some (n, e)
        ∧ max s.now t < e
        ∧ joinScores (c.scores.drop 1) % 2 ^ 256 ≠ respondMac s.pw.key n)
    ∧ (∃ (t : Nat) (src : Source) (c : Cmd) (p : Password) (s : State),
      s.phase = .ready
        ∧ (s.clock t).asks src 0x42 c
        ∧ (s.clock t).authWait = 0
        ∧ c.passRefused false = none
        ∧ s.half.password = some p
        ∧ passwordDigest p.salt c.passBytes = p.digest
        ∧ s.pw.fails = 0)
    ∧ (∃ (t : Nat) (src : Source) (c : Cmd) (p : Password) (s : State),
      s.phase = .ready
        ∧ (s.clock t).asks src 0x42 c
        ∧ (s.clock t).authWait = 0
        ∧ c.passRefused false = none
        ∧ s.half.password = some p
        ∧ passwordDigest p.salt c.passBytes ≠ p.digest)
    ∧ (∃ (t : Nat) (src : Source) (c : Cmd) (s : State),
      s.phase = .ready
        ∧ (s.clock t).asks src 0x43 c
        ∧ c.passRefused true = none
        ∧ c.p 0 ≠ 0
        ∧ (s.pw.badA = false ∨ s.pw.badB = false)
        ∧ s.storedHalf.seq ≤ s.half.seq)
    ∧ (∃ (t : Nat) (src : Source) (c : Cmd) (s : State),
      s.phase = .ready
        ∧ (s.clock t).asks src 0x44 c)
    ∧ (∃ (t : Nat) (src : Source) (c : Cmd) (s : State),
      s.phase = .ready
        ∧ (s.clock t).asks src 0x45 c
        ∧ c.p 0 = 0x0F1E1)
    ∧ (∃ (t : Nat) (e : Session) (s : State),
      s.phase = .ready
        ∧ s.cm.session = some e
        ∧ e.ends ≤ max s.now t)
    ∧ (∃ (t : Nat) (n : Nat) (e : Nat) (s : State),
      s.phase = .ready
        ∧ s.cm.nonce = some (n, e)
        ∧ e ≤ max s.now t)
    ∧ (∃ (t : Nat) (y : Nat) (s : State),
      s.pw.waitUntil = some y
        ∧ y ≤ max s.now t)
    ∧ (∃ (s : State),
      (s.phase = .powerOn ∨ s.phase = .inReset))
    ∧ (∃ (s : State),
      s.phase ≠ .powerOn
        ∧ s.phase ≠ .inReset) :=
  ⟨⟨5, .svc, cmdOf 0x40 0 [], w0.ask .svc (cmdOf 0x40 0 []),
      (by decide +kernel), (by unfold State.asks; decide +kernel), (by decide +kernel)⟩,
   ⟨5, .svc, cmdOf 0x41 0 [32073, 704799, 750553, 514394, 773263, 893858, 435646, 280115, 485103, 226659, 853682, 40227, 545845], 9, 6, { w0.ask .svc (cmdOf 0x41 0 [32073, 704799, 750553, 514394, 773263, 893858, 435646, 280115, 485103, 226659, 853682, 40227, 545845]) with cm := { (w0.ask .svc (cmdOf 0x41 0 [32073, 704799, 750553, 514394, 773263, 893858, 435646, 280115, 485103, 226659, 853682, 40227, 545845])).cm with nonce := some (9, 6) } },
      (by decide +kernel), (by unfold State.asks; decide +kernel), (by decide +kernel), (by decide +kernel), (by decide +kernel), (by decide +kernel), (by decide +kernel)⟩,
   ⟨5, .svc, cmdOf 0x41 0 [0, 0, 0, 0, 0, 0, 0, 0, 0, 0, 0, 0, 0], 9, 6, { w0.ask .svc (cmdOf 0x41 0 [0, 0, 0, 0, 0, 0, 0, 0, 0, 0, 0, 0, 0]) with cm := { (w0.ask .svc (cmdOf 0x41 0 [0, 0, 0, 0, 0, 0, 0, 0, 0, 0, 0, 0, 0])).cm with nonce := some (9, 6) } },
      (by decide +kernel), (by unfold State.asks; decide +kernel), (by decide +kernel), (by decide +kernel), (by decide +kernel), (by decide +kernel)⟩,
   ⟨5, .svc, cmdOf 0x42 0 [8, 0, 0, 0, 0], ⟨[], passwordDigest [] [0, 0, 0, 0, 0, 0, 0, 0]⟩, { w0 with pw := { w0.pw with defaulted := some { password := some ⟨[], passwordDigest [] [0, 0, 0, 0, 0, 0, 0, 0]⟩ } } }.ask .svc (cmdOf 0x42 0 [8, 0, 0, 0, 0]),
      (by decide +kernel), (by unfold State.asks; decide +kernel), (by decide +kernel), (by decide +kernel), rfl, rfl, (by decide +kernel)⟩,
   ⟨5, .svc, cmdOf 0x42 0 [8, 0, 0, 0, 0], ⟨[], passwordDigest [] [0, 0, 0, 0, 0, 0, 0, 0] + 1⟩, { w0 with pw := { w0.pw with defaulted := some { password := some ⟨[], passwordDigest [] [0, 0, 0, 0, 0, 0, 0, 0] + 1⟩ } } }.ask .svc (cmdOf 0x42 0 [8, 0, 0, 0, 0]),
      (by decide +kernel), (by unfold State.asks; decide +kernel), (by decide +kernel), (by decide +kernel), rfl, Tests.ne_add_one _⟩,
   ⟨5, .svc, cmdOf 0x43 0 [8, 0, 0, 0, 0], w0.ask .svc (cmdOf 0x43 0 [8, 0, 0, 0, 0]),
      (by decide +kernel), (by unfold State.asks; decide +kernel), (by decide +kernel), (by decide +kernel), (by decide +kernel), (by decide +kernel)⟩,
   ⟨5, .svc, cmdOf 0x44 0 [], w0.ask .svc (cmdOf 0x44 0 []),
      (by decide +kernel), (by unfold State.asks; decide +kernel)⟩,
   ⟨5, .svc, cmdOf 0x45 0 [0x0F1E1], w0.ask .svc (cmdOf 0x45 0 [0x0F1E1]),
      (by decide +kernel), (by unfold State.asks; decide +kernel), (by decide +kernel)⟩,
   ⟨5, ⟨1, 5⟩, { w0 with cm := { w0.cm with session := some ⟨1, 5⟩ } },
      (by decide +kernel), (by decide +kernel), (by decide +kernel)⟩,
   ⟨5, 1, 5, { w0 with cm := { w0.cm with nonce := some (1, 5) } },
      (by decide +kernel), (by decide +kernel), (by decide +kernel)⟩,
   ⟨5, 5, { State.reset with pw := { w0.pw with waitUntil := some 5 } },
      (by decide +kernel), (by decide +kernel)⟩,
   ⟨{ State.reset with phase := .powerOn },
      (by decide +kernel)⟩,
   ⟨State.reset,
      (by decide +kernel), (by decide +kernel)⟩⟩

theorem Tests.witness_ResetsHoldTheDie :
    (∃ (t : Nat) (s : State),
      s.phase = .powerOn
        ∧ s.pw.gate.under.contains 6 = false
        ∧ s.pw.gate.aonAt + lsbMs ≤ max s.now t)
    ∧ (∃ (r : Rail) (mv : Nat) (s : State),
      s.phase ≠ .powerOn
        ∧ s.phase ≠ .inReset
        ∧ r ≠ 6
        ∧ r ≠ 7
        ∧ mv < s.railReset r)
    ∧ (∃ (s : State),
      s.phase ≠ .powerOn
        ∧ s.phase ≠ .inReset
        ∧ s.pw.gate.rstLow = false)
    ∧ (∃ (s : State),
      s.phase = .inReset
        ∧ s.pw.gate.rstLow = true
        ∧ s.pw.gate.supplyLow = true)
    ∧ (∃ (s : State),
      s.phase = .inReset
        ∧ s.pw.gate.rstLow = true
        ∧ s.pw.gate.supplyLow = false)
    ∧ (∃ (t : Nat) (s : State),
      s.phase = .inReset
        ∧ s.pw.gate.supplyLow = true
        ∧ (s.clock t).railsHeld = true
        ∧ s.pw.gate.rstLow = true
        ∧ s.pw.gate.latched = false)
    ∧ (∃ (t : Nat) (boot : BootFacts) (s : State),
      s.phase = .inReset
        ∧ s.pw.gate.supplyLow = true
        ∧ (s.clock t).railsHeld = true
        ∧ s.pw.gate.rstLow = false
        ∧ boot.sfdpA = true
        ∧ boot.sfdpB = true
        ∧ boot.recordA = true
        ∧ boot.recordB = true
        ∧ s.pw.deferred = []
        ∧ s.pw.slotA.crc = s.pw.slotA.sum
        ∧ s.pw.slotA.state = 4
        ∧ s.pw.slotB.state = 0)
    ∧ (∃ (s : State),
      s.phase = .ready)
    ∧ (∃ (t : Nat) (y : Nat) (s : State),
      s.pw.rebootAt = some y
        ∧ y ≤ max s.now t) :=
  ⟨⟨128000000, { State.reset with phase := .powerOn, pw := { w0.pw with gate := { supplyLow := true } } },
      (by decide +kernel), (by decide +kernel), (by decide +kernel)⟩,
   ⟨3, 1103, { w0.cycling.setH Reg.PW_SUPPLY_CNT_COUNT 3 with pw := { w0.pw with brace := true, braceRail := some 2 } },
      (by decide +kernel), (by decide +kernel), (by decide +kernel), (by decide +kernel), (by decide +kernel)⟩,
   ⟨w0.setH Reg.PW_PIN_CNT_COUNT 1048575,
      (by decide +kernel), (by decide +kernel), (by decide +kernel)⟩,
   ⟨{ w0 with phase := .inReset, pw := { w0.pw with gate := { rstLow := true, supplyLow := true } } },
      (by decide +kernel), (by decide +kernel), (by decide +kernel)⟩,
   ⟨{ w0 with phase := .inReset, pw := { w0.pw with gate := { rstLow := true } } },
      (by decide +kernel), (by decide +kernel), (by decide +kernel)⟩,
   ⟨128000000, { w0 with phase := .inReset, pw := { w0.pw with gate := { rstLow := true, supplyLow := true } } },
      (by decide +kernel), (by decide +kernel), (by decide +kernel), (by decide +kernel), (by decide +kernel)⟩,
   ⟨128000000, ⟨true, true, true, true, none⟩, { w0 with phase := .inReset, pw := { w0.pw with gate := { supplyLow := true } } },
      (by decide +kernel), (by decide +kernel), (by decide +kernel), (by decide +kernel), (by decide +kernel), (by decide +kernel), (by decide +kernel), (by decide +kernel), (by decide +kernel), rfl, (by decide +kernel), (by decide +kernel)⟩,
   ⟨w0.cycling,
      (by decide +kernel)⟩,
   ⟨5, 5, { w0 with pw := { w0.pw with rebootAt := some 5 } },
      (by decide +kernel), (by decide +kernel)⟩⟩

theorem Tests.witness_BraceAndBootComplete :
    (∃ (r : Rail) (mv : Nat) (s : State),
      s.phase = .ready
        ∧ s.pw.gate.supplyLow = false
        ∧ r ≠ 7
        ∧ s.pw.brace = false
        ∧ s.cm.queues = []
        ∧ mv < s.railWarning r)
    ∧ (∃ (r : Rail) (mv : Nat) (s : State),
      r ≠ 7
        ∧ s.railWarning r ≤ mv
        ∧ mv ≤ s.railWarning r + s.railHyst r)
    ∧ (∃ (r : Rail) (mv : Nat) (s : State),
      s.phase ≠ .powerOn
        ∧ r ≠ 7
        ∧ s.pw.brace = false
        ∧ s.railWarning r + s.railHyst r < mv)
    ∧ (∃ (t : Nat) (r : Nat) (s : State),
      s.phase = .ready
        ∧ s.pw.brace = true
        ∧ s.pw.braceRail = some r
        ∧ (s.clock t).railsHeld = true)
    ∧ (∃ (s : State),
      s.phase = .boot
        ∧ s.pw.trial = false)
    ∧ (∃ (s : State),
      s.phase = .boot
        ∧ s.pw.trial = true)
    ∧ (∃ (s : State),
      s.phase = .boot
        ∧ s.pw.gate.selfTest = true) :=
  ⟨⟨3, 1151, w0.cycling,
      (by decide +kernel), (by decide +kernel), (by decide +kernel), (by decide +kernel), (by decide +kernel), (by decide +kernel)⟩,
   ⟨3, 1152, w0.cycling,
      (by decide +kernel), (by decide +kernel), (by decide +kernel)⟩,
   ⟨3, 1700, w0.setH Reg.PW_RAIL_STAT_BELOW 8,
      (by decide +kernel), (by decide +kernel), (by decide +kernel), (by decide +kernel)⟩,
   ⟨128000000, 3, { w0 with pw := { w0.pw with brace := true, braceRail := some 3 } },
      (by decide +kernel), (by decide +kernel), (by decide +kernel), (by decide +kernel)⟩,
   ⟨State.reset,
      (by decide +kernel), (by decide +kernel)⟩,
   ⟨{ State.reset with pw := { w0.pw with trial := true, runB := true, slotB := { state := 3 } } },
      (by decide +kernel), (by decide +kernel)⟩,
   ⟨{ State.reset with pw := { w0.pw with gate := { selfTest := true }, due := [(.fwTrial, 1, 0)] } },
      (by decide +kernel), (by decide +kernel)⟩⟩

theorem Tests.witness_FirmwareAndSettingsAreWritten :
    (∃ (t : Nat) (src : Source) (c : Cmd) (s : State),
      s.phase = .ready
        ∧ (s.clock t).asks src 0x50 c
        ∧ s.pw.staging = none
        ∧ (s.clock t).stageRefused c = none
        ∧ c.p 0 / 2 ^ 19 = 1)
    ∧ (∃ (t : Nat) (src : Source) (c : Cmd) (y : Nat) (s : State),
      s.phase = .ready
        ∧ s.cmdsOf (s.keyOf src) = [c]
        ∧ c.since = some y
        ∧ c.opcode = 0x50
        ∧ y + 50 * lsbMs ≤ max s.now t
        ∧ s.mayReply (s.keyOf src) = true)
    ∧ (∃ (n : Nat) (y : Staging) (s : State),
      s.phase = .ready
        ∧ s.pw.staging = some y
        ∧ y.last = true
        ∧ y.recorded = false
        ∧ s.mayProgram = true
        ∧ s.pw.deferred = []
        ∧ s.flashBad y.slotB = false
        ∧ y.programmed ≤ y.count
        ∧ y.count ≤ n)
    ∧ (∃ (y : Staging) (s : State),
      s.phase = .ready
        ∧ s.pw.staging = some y
        ∧ s.mayProgram = false
        ∧ y.programmed < y.count)
    ∧ (∃ (t : Nat) (src : Source) (c : Cmd) (s : State),
      s.phase = .ready
        ∧ (s.clock t).asks src 0x51 c
        ∧ s.h Reg.SYS_BOOT_TRIAL = 1
        ∧ s.pw.badA = false
        ∧ s.pw.badB = false)
    ∧ (∃ (t : Nat) (e : Nat) (s : State),
      s.phase = .ready
        ∧ s.pw.trialEnd = some e
        ∧ e ≤ max s.now t)
    ∧ (∃ (t : Nat) (src : Source) (c : Cmd) (s : State),
      s.phase = .ready
        ∧ (s.clock t).asks src 0x52 c
        ∧ c.p 0 = 0x00A55)
    ∧ (∃ (s : State),
      s.phase = .ready
        ∧ s.saveRefused = none)
    ∧ (∃ (y : Settings) (s : State),
      s.phase = .ready
        ∧ s.pw.saving = some y
        ∧ s.mayProgram = true
        ∧ (s.pw.badA = false ∨ s.pw.badB = false)
        ∧ s.storedHalf.seq ≤ s.half.seq)
    ∧ (∃ (k : Nat) (s : State),
      (s.phase = .ready ∨ s.phase = .recovery)
        ∧ s.mayProgram = true
        ∧ s.pw.deferred = [.failures k]
        ∧ (s.pw.badA = false ∨ s.pw.badB = false)
        ∧ s.storedHalf.seq ≤ s.half.seq) :=
  ⟨⟨5, .svc, cmdOf 0x50 0 [0x80000, 0, 0, 2, 0x12345], w0.ask .svc (cmdOf 0x50 0 [0x80000, 0, 0, 2, 0x12345]),
      (by decide +kernel), (by unfold State.asks; decide +kernel), (by decide +kernel), (by decide +kernel), (by decide +kernel)⟩,
   ⟨6400000005, .svc, { cmdOf 0x50 0 [0x80000, 0, 0, 2, 0x12345] with since := some 5 }, 5, w0.ask .svc { cmdOf 0x50 0 [0x80000, 0, 0, 2, 0x12345] with since := some 5 },
      (by decide +kernel), (by decide +kernel), (by decide +kernel), (by decide +kernel), (by decide +kernel), (by decide +kernel)⟩,
   ⟨3, { slotB := true, count := 3, programmed := 1, buffer := [7, 8], last := true }, { w0.setFo Reg.PW_FLASH_TJ_EN 0 with pw := { w0.pw with imageB := [9], staging := some { slotB := true, count := 3, programmed := 1, buffer := [7, 8], last := true } } },
      (by decide +kernel), (by decide +kernel), (by decide +kernel), (by decide +kernel), (by decide +kernel), (by decide +kernel), (by decide +kernel), (by decide +kernel), (by decide +kernel)⟩,
   ⟨{ slotB := true, count := 3, programmed := 1, buffer := [7, 8], last := true }, { w0 with pw := { w0.pw with brace := true, staging := some { slotB := true, count := 3, programmed := 1, buffer := [7, 8], last := true } } },
      (by decide +kernel), (by decide +kernel), (by decide +kernel), (by decide +kernel)⟩,
   ⟨5, .svc, cmdOf 0x51 0 [], { (w0.setH Reg.SYS_BOOT_TRIAL 1).ask .svc (cmdOf 0x51 0 []) with pw := { w0.pw with trial := true, runB := true, slotB := { state := 3, version := 2 }, trialEnd := some 99, trialHalf := some true } },
      (by decide +kernel), (by unfold State.asks; decide +kernel), (by decide +kernel), (by decide +kernel), (by decide +kernel)⟩,
   ⟨5, 5, { w0.setH Reg.SYS_BOOT_TRIAL 1 with pw := { w0.pw with trial := true, trialEnd := some 5 } },
      (by decide +kernel), (by decide +kernel), (by decide +kernel)⟩,
   ⟨5, .svc, cmdOf 0x52 0 [0x00A55], w0.ask .svc (cmdOf 0x52 0 [0x00A55]),
      (by decide +kernel), (by unfold State.asks; decide +kernel), (by decide +kernel)⟩,
   ⟨(w0.setH Reg.CF_STAT_PASS_OK 1).setFo Reg.PW_FLASH_TJ_EN 0,
      (by decide +kernel), (by decide +kernel)⟩,
   ⟨{ seq := 8 }, { w0.setFo Reg.PW_FLASH_TJ_EN 0 with pw := { w0.pw with saving := some { seq := 8 } } },
      (by decide +kernel), (by decide +kernel), (by decide +kernel), (by decide +kernel), (by decide +kernel)⟩,
   ⟨3, { w0.setFo Reg.PW_FLASH_TJ_EN 0 with pw := { w0.pw with deferred := [.failures 3] } },
      (by decide +kernel), (by decide +kernel), (by decide +kernel), (by decide +kernel), (by decide +kernel)⟩⟩

theorem Tests.witness_TemperaturesThrottleAndCalibrate :
    (∃ (t : Nat) (r : DiodeReading) (s : State),
      s.phase = .ready
        ∧ s.sq.closeDue = false
        ∧ s.regs.waiting = []
        ∧ s.regs.stale = []
        ∧ r.inWindow = true
        ∧ (s.clock t).diodeDue = true)
    ∧ (∃ (t : Nat) (r : DiodeReading) (s : State),
      s.phase = .ready
        ∧ s.sq.closeDue = false
        ∧ s.regs.waiting = []
        ∧ s.regs.stale = []
        ∧ r.inWindow = false
        ∧ (s.clock t).diodeDue = true)
    ∧ (∃ (s : State),
      s.phase = .recovery)
    ∧ (∃ (t : Nat) (d : Fin 5) (y : Nat) (s : State),
      s.phase = .ready
        ∧ s.sq.closeDue = false
        ∧ (s.thDomain d).roseAt = some y
        ∧ y + 500 * lsbMs ≤ max s.now t)
    ∧ (∃ (t : Nat) (d : Fin 5) (y : Nat) (s : State),
      s.phase = .ready
        ∧ s.sq.closeDue = false
        ∧ (s.thDomain d).belowAt = some y
        ∧ y + lsbS ≤ max s.now t)
    ∧ (∃ (t : Nat) (d : Fin 5) (y : Nat) (s : State),
      s.phase = .ready
        ∧ s.sq.closeDue = false
        ∧ (s.thDomain d).okAt = some y
        ∧ (s.thDomain d).failed = true
        ∧ y + 5 * lsbS ≤ max s.now t)
    ∧ (∃ (t : Nat) (k : Fin 4) (s : State),
      s.phase = .ready
        ∧ s.sq.closeDue = false
        ∧ s.fu 0 (Reg.TH_EXT_CFG_EN k) = 1
        ∧ (s.clock t).extSilent k = true)
    ∧ (∃ (t : Nat) (y : Nat) (s : State),
      s.phase = .ready
        ∧ s.sq.closeDue = false
        ∧ s.th.coolAt = some y
        ∧ s.h Reg.TH_STAT_SHUTDOWN = 1
        ∧ y + 5 * lsbS ≤ max s.now t)
    ∧ (∃ (t : Nat) (y : Nat) (s : State),
      s.phase = .ready
        ∧ s.sq.closeDue = false
        ∧ s.th.insideAt = some y
        ∧ y + lsbS ≤ max s.now t
        ∧ (s.thDomain 0).failed = false)
    ∧ (∃ (t : Nat) (i : Tile) (s : State),
      s.phase = .ready
        ∧ (s.calItem 0 = true ∨ s.calItem 1 = true ∨ s.calItem 2 = true)
        ∧ ((List.range 64).map fun k => (s.th.calNext + k) % 64).find? (fun k => (s.clock t).tileIdle k (40 * lsbUs)) = some i.val)
    ∧ (∃ (p : Pair) (s : State),
      s.phase = .ready
        ∧ s.calItem 3 = true
        ∧ s.pairRuns p = true
        ∧ s.scanServes p = true
        ∧ s.inCalSlot p = false)
    ∧ (∃ (p : Pair) (s : State),
      s.phase = .ready
        ∧ s.calItem 3 = true
        ∧ s.pairRuns p = true
        ∧ s.scanServes p = false
        ∧ s.h (Reg.AX_PAIR_STAT_SLOT p) = 0
        ∧ s.zCheck p = none
        ∧ s.inCalSlot p = false)
    ∧ (∃ (t : Nat) (c : Fin 512) (o : Int) (s : State),
      s.phase = .ready
        ∧ s.calItem 0 = true
        ∧ s.calInBrace (c / 8) = false
        ∧ (s.clock t).calibrating (c / 8) = true
        ∧ absLe (o - s.teVal (Reg.TE_CH_OFS c) true) (s.fu 0 Reg.TH_CAL_LIM_TDC) = true)
    ∧ (∃ (t : Nat) (c : Fin 512) (s : State),
      s.phase = .ready
        ∧ (s.clock t).calibrating (c / 8) = false)
    ∧ (∃ (t : Nat) (c : Fin 512) (o : Int) (s : State),
      s.phase = .ready
        ∧ s.calItem 0 = true
        ∧ (s.clock t).calibrating (c / 8) = true
        ∧ absLe (o - s.teVal (Reg.TE_CH_OFS c) true) (s.fu 0 Reg.TH_CAL_LIM_TDC) = false)
    ∧ (∃ (t : Nat) (i : Fin 5) (p : Fin 64) (s : State),
      s.phase = .ready
        ∧ s.calItem i = true
        ∧ (i.val = 3 → p.val < 4)
        ∧ (i.val = 4 → p.val < 48 ∧ s.h (Reg.FL_HEAD_STAT_ATTACHED p) = 1)
        ∧ max (Tab.get s.th.calAt 0 (64 * i.val + p.val)) s.pw.readyAt + max 1 (s.fu 0 Reg.TH_CAL_CFG_PER) * lsbS ≤ max s.now t)
    ∧ (∃ (s : State),
      s.phase = .ready
        ∧ s.pw.calSavedAt = none
        ∧ s.mayProgram = true
        ∧ s.pw.deferred = []
        ∧ (s.pw.badA = false ∨ s.pw.badB = false)
        ∧ s.storedHalf.seq ≤ s.half.seq
        ∧ (s.savedOnes.cells.filter fun c => c.1 != Reg.PW_FLASH_TJ) ≠ (s.half.one.cells.filter fun c => c.1 != Reg.PW_FLASH_TJ)) :=
  ⟨⟨5, ⟨true, 30000⟩, w0,
      (by decide +kernel), (by decide +kernel), (by decide +kernel), (by decide +kernel), (by decide +kernel), (by decide +kernel)⟩,
   ⟨5, ⟨false, 30000⟩, w0,
      (by decide +kernel), (by decide +kernel), (by decide +kernel), (by decide +kernel), (by decide +kernel), (by decide +kernel)⟩,
   ⟨{ w0 with phase := .recovery },
      (by decide +kernel)⟩,
   ⟨64000000005, 4, 5, w0.setThDomain 4 { roseAt := some 5, step := 3 },
      (by decide +kernel), (by decide +kernel), (by decide +kernel), (by decide +kernel)⟩,
   ⟨128000000005, 4, 5, w0.setThDomain 4 { belowAt := some 5, step := 1 },
      (by decide +kernel), (by decide +kernel), (by decide +kernel), (by decide +kernel)⟩,
   ⟨640000000005, 4, 5, w0.setThDomain 4 { okAt := some 5, failed := true, step := 3 },
      (by decide +kernel), (by decide +kernel), (by decide +kernel), (by decide +kernel), (by decide +kernel)⟩,
   ⟨640000000005, 3, w0.withF (Reg.TH_EXT_CFG_EN 3) 1,
      (by decide +kernel), (by decide +kernel), (by decide +kernel), (by decide +kernel)⟩,
   ⟨640000000005, 5, { w0.setH Reg.TH_STAT_SHUTDOWN 1 with th := { w0.th with coolAt := some 5 } },
      (by decide +kernel), (by decide +kernel), (by decide +kernel), (by decide +kernel), (by decide +kernel)⟩,
   ⟨640000000005, 5, { w0.setH Reg.TH_STAT_FIRE_INH 1 with th := { w0.th with insideAt := some 5 } },
      (by decide +kernel), (by decide +kernel), (by decide +kernel), (by decide +kernel), (by decide +kernel)⟩,
   ⟨5, 63, { (w0.withF Reg.TH_CFG_CAL_EN 1).withF Reg.TH_CAL_CFG_ITEMS 1 with th := { w0.th with calNext := 63 } },
      (by decide +kernel), (by decide +kernel), (by decide +kernel)⟩,
   ⟨0, (((wPair 0).setH (Reg.SV_AX_STAT_STATE 0) 1).withF (Reg.SV_AX_CFG_SRC 0) 5).withF Reg.TH_CFG_CAL_EN 1 |>.withF Reg.TH_CAL_CFG_ITEMS 8,
      (by decide +kernel), (by decide +kernel), (by decide +kernel), (by decide +kernel), (by decide +kernel)⟩,
   ⟨3, ((w0.withF Reg.TH_CFG_CAL_EN 1).withF Reg.TH_CAL_CFG_ITEMS 8).setH (Reg.AX_PAIR_STAT_RUNNING 3) 1,
      (by decide +kernel), (by decide +kernel), (by decide +kernel), (by decide +kernel), (by decide +kernel), (by decide +kernel), (by decide +kernel)⟩,
   ⟨5, 511, -3, { ((w0.withF Reg.TH_CFG_CAL_EN 1).withF Reg.TH_CAL_CFG_ITEMS 1).withF Reg.TH_CAL_LIM_TDC 5 with th := { w0.th with cal := some { tile := 63 } } },
      (by decide +kernel), (by decide +kernel), (by decide +kernel), (by decide +kernel), (by decide +kernel)⟩,
   ⟨5, 511, ((w0.withF Reg.TH_CFG_CAL_EN 1).withF Reg.TH_CAL_CFG_ITEMS 1).withF Reg.TH_CAL_LIM_TDC 5,
      (by decide +kernel), (by decide +kernel)⟩,
   ⟨5, 511, -6, { ((w0.withF Reg.TH_CFG_CAL_EN 1).withF Reg.TH_CAL_CFG_ITEMS 1).withF Reg.TH_CAL_LIM_TDC 5 with th := { w0.th with cal := some { tile := 63 } } },
      (by decide +kernel), (by decide +kernel), (by decide +kernel), (by decide +kernel)⟩,
   ⟨6400000000000, 3, 3, (w0.withF Reg.TH_CFG_CAL_EN 1).withF Reg.TH_CAL_CFG_ITEMS 8,
      (by decide +kernel), (by decide +kernel), (by decide +kernel), (by decide +kernel), (by decide +kernel)⟩,
   ⟨(w0.setFo Reg.PW_FLASH_TJ_EN 0).setOne (Reg.TE_CH_OFS 3) 7,
      (by decide +kernel), (by decide +kernel), (by decide +kernel), (by decide +kernel), (by decide +kernel), (by decide +kernel), (by decide +kernel)⟩⟩

theorem Tests.witness_StepRunsFront : ∃ s : State, s.pending = [] := ⟨State.reset, rfl⟩

theorem Tests.witness_GatedKept : ∃ s x : State, s.Gated ∧ step s = .next x :=
  ⟨{ State.reset with pending := [.rstNAssert 5] }, _, by unfold State.Gated; decide, rfl⟩

theorem Tests.witness_MemoriesStayCanonical : ∃ s x : State, (s.fd.mem.wf 0 = true ∧ s.dm.sram.wf 0 = true) ∧ step s = .next x :=
  ⟨{ State.reset with pending := [.powerOnReset 5], fd := { State.reset.fd with mem := ⟨[(3, 1)]⟩ } }, _, by decide, rfl⟩

end Sys2Proof
end

section
/-!
SUPPORT. The state after reset: what a table without cells reads as, and State.reset part by part (R1, R435, R443).
-/

namespace Sys2Proof.Machine

/-! ### Tables and sets without cells -/

@[simp] theorem Tab.get_empty {α : Type} (d : α) (k : Nat) : (⟨[]⟩ : Tab α).get d k = d := rfl

@[simp] theorem Tab.wf_empty {α : Type} [DecidableEq α] (d : α) : (⟨[]⟩ : Tab α).wf d = true := rfl

theorem State.act_of_sets_empty {s : State} (hA : s.regs.setA = ⟨[]⟩) (hB : s.regs.setB = ⟨[]⟩) (a : Nat) :
    s.act a = Reg.resetRw a := by
  simp [State.act, hA, hB]

theorem State.shadow_of_sets_empty {s : State} (hA : s.regs.setA = ⟨[]⟩) (hB : s.regs.setB = ⟨[]⟩) (a : Nat) :
    s.shadow a = Reg.resetRw a := by
  simp [State.shadow, hA, hB]

theorem State.oneReg_of_one_empty {s : State} (h : s.regs.one = ⟨[]⟩) (a : Nat) : s.oneReg a = Reg.resetRw a := by
  simp [State.oneReg, h]

/-! ### State.reset, part by part -/

@[simp] theorem State.phase_reset : State.reset.phase = .boot := rfl

@[simp] theorem State.h_reset (f : Fld) : State.reset.h f = Tab.get ⟨resetFields⟩ 0 f.key := rfl

/-- Both sets stand at the Reset column, so it does not matter which of them is active (R1). -/
@[simp] theorem State.act_reset (a : Nat) : State.reset.act a = Reg.resetRw a := State.act_of_sets_empty rfl rfl a

@[simp] theorem State.shadow_reset (a : Nat) : State.reset.shadow a = Reg.resetRw a := State.shadow_of_sets_empty rfl rfl a

@[simp] theorem State.oneReg_reset (a : Nat) : State.reset.oneReg a = Reg.resetRw a := State.oneReg_of_one_empty rfl a

theorem State.h_sysIdPart_reset : State.reset.h Reg.SYS_ID_PART = 0x5120 := by
  rw [State.h_reset]
  decide

theorem State.h_sysIdStep_reset : State.reset.h Reg.SYS_ID_STEP = 2 := by
  rw [State.h_reset]
  decide

/-- A die that boots, with neither RST_N nor a supply holding it, meets State.Gated: the clauses about power-on reset, the reset phases
and the running die speak of other phases (R435, R443). -/
theorem State.gated_of_boot {s : State} (hp : s.phase = .boot) (hg : s.pw.gate.holds = false) : s.Gated := by
  have hh : s.held = false := by simp [State.held, hp]
  refine ⟨?released, ?powerOn, ?held, ?ready⟩
  case released => rw [hh, hg]
  case powerOn => simp [hp]
  case held => simp [hh]
  case ready => simp [hp]

theorem State.gated_reset : State.reset.Gated := State.gated_of_boot rfl rfl

end Sys2Proof.Machine

namespace Sys2Proof
open Machine

/-- Settles O5: every table of State.reset but that of the RO fields is without cells, so each register reads its Reset column and each
memory is canonical; the two SYS_ID fields are looked up in the RO fields listed at reset. -/
theorem resetState : Obligations.ResetState := by
  unfold Obligations.ResetState
  have registers (a : Nat) : State.reset.act a = Reg.resetRw a ∧ State.reset.shadow a = Reg.resetRw a
      ∧ State.reset.oneReg a = Reg.resetRw a :=
    ⟨State.act_reset a, State.shadow_reset a, State.oneReg_reset a⟩
  exact ⟨State.h_sysIdPart_reset, State.h_sysIdStep_reset, State.phase_reset, State.gated_reset, registers,
    rfl, rfl, rfl, Tab.wf_empty 0, Tab.wf_empty 0⟩

end Sys2Proof
end

section
/-!
SUPPORT. Frames, put together from what each operation leaves as it was (Group, Frame), and fields that an operation does not write.
-/

namespace Sys2Proof.Machine

/-! ### Fields -/

theorem State.h_add_ne (s : State) (f g : Fld) (n : Nat) (h : g.key ≠ f.key) : (s.add f n).h g = s.h g := by
  rw [State.add, State.h_setH_ne _ _ _ _ h, State.h_note]

theorem State.h_inc_ne (s : State) (f g : Fld) (h : g.key ≠ f.key) : (s.inc f).h g = s.h g := State.h_add_ne s f g 1 h

theorem State.h_inc_same (s : State) (f : Fld) : (s.inc f).h f = min (s.h f + 1) f.top := State.h_add_same s f 1

theorem State.h_flag_ne (s : State) (f g : Fld) (b : Bool) (h : g.key ≠ f.key) : (s.flag f b).h g = s.h g := by
  rw [State.flag, State.h_setH_ne _ _ _ _ h, State.h_note]

/-! ### Parts of the state -/

/-- Every part of the state outside `l` is in `x` as it is in `s`. -/
def Untouched (l : List Group) (s x : State) : Prop := ∀ g, g ∉ l → g.same s x

theorem Group.same_refl (g : Group) (s : State) : g.same s s := by
  cases g <;> simp [Group.same]

theorem Group.same_trans {g : Group} {s x y : State} (h : g.same s x) (h' : g.same x y) : g.same s y := by
  cases g <;> simp only [Group.same] at h h' ⊢ <;> simp [h, h']

theorem Untouched.refl (l : List Group) (s : State) : Untouched l s s := fun g _ => g.same_refl s

theorem Untouched.trans {l : List Group} {s x y : State} (h : Untouched l s x) (h' : Untouched l x y) : Untouched l s y :=
  fun g hg => Group.same_trans (h g hg) (h' g hg)

theorem Untouched.mono {l l' : List Group} {s x : State} (h : Untouched l s x) (hl : l ⊆ l' := by simp) : Untouched l' s x :=
  fun g hg => h g fun hm => hg (hl hm)

theorem State.setH_untouched (s : State) (f : Fld) (x : Nat) : Untouched [.fields] s (s.setH f x) := by
  intro g hg
  cases g <;> simp [Group.same] at hg ⊢

/-! ### Commands of a block while the die runs -/

/-- A command of a block completes while the die runs; what it says of the state holds of what the block's operation left. -/
theorem Yields.of_run {c : Instr} {t : Nat} {s : State} {f : State → State} {P : State → Prop} (meaning : State → Host.Outcome State Fault Refusal)
    (hr : s.phase = .ready) (hc : exec c s = meaning s) (hm : meaning s = s.run t f) (h : P (s.keep t (f (s.clock t)))) : Yields c s P :=
  ⟨_, hc.trans (hm.trans (s.run_ready t f hr)), h⟩

theorem Frame.of_untouched {t : Nat} {l : List Group} {s x : State} (h : Untouched l (s.clock t) x) : Frame t l s (s.keep t x) := by
  refine ⟨rfl, rfl, rfl, rfl, fun g hg => ?_⟩
  have hx := h g hg
  cases g with
  | power =>
    have hpw : x.pw = s.pw := hx
    simp [Group.same, hpw]
  | _ => exact hx

end Sys2Proof.Machine
end

section
/-!
SUPPORT. Release of closed buffers to extraction and the end of the SUSPECT marking (R27, R154, R156, R157).
-/

namespace Sys2Proof.Machine

@[simp] theorem State.fdPix_setFdPix_same (s : State) (p : Nat) (x : FdPixel) : (s.setFdPix p x).fdPix p = x := by
  simp [State.fdPix, State.setFdPix]

theorem State.released_release (s : State) (p : Nat) (i : Interval) :
    (s.release p i).ex.released = s.ex.released ++ [{ pixel := p, iv := i, header := header p i, at_ := s.now }] := by
  unfold State.release
  cases i.sat <;> simp

theorem State.closed_release (s : State) (p : Nat) (i : Interval) :
    ((s.release p i).fdPix p).closed = (s.fdPix p).closed.filter fun j => decide (j.gen ≠ i.gen) := by
  unfold State.release
  cases i.sat <;> simp [State.fdPix, State.setFdPix]

/-- The pixel keeps no interval of the released number. -/
theorem State.gen_ne_of_mem_closed_release (s : State) (p : Nat) (i : Interval) : ∀ j ∈ ((s.release p i).fdPix p).closed, j.gen ≠ i.gen := by
  intro j hj
  rw [State.closed_release, List.mem_filter] at hj
  simpa using hj.2

/-- A release counts at most in FD_SAT_CNT. -/
theorem State.h_release_ne (s : State) (p : Nat) (i : Interval) (f : Fld) (hf : f.key ≠ Reg.FD_SAT_CNT_COUNT.key) :
    (s.release p i).h f = s.h f := by
  unfold State.release
  cases i.sat
  · rfl
  · exact State.h_inc_ne _ _ _ hf

theorem State.release_untouched (s : State) (p : Nat) (i : Interval) : Untouched [.fields, .fold, .extract] s (s.release p i) := by
  intro g hg
  cases g <;> simp [Group.same] at hg ⊢

/-- What TOKEN_TIMEOUT notes before it releases the buffer. -/
def State.countTokenTmo (s : State) : State :=
  let s := (s.inc Reg.FD_TOKEN_TMO_COUNT).flag Reg.FD_STAT_TOKEN_TMO_SEEN true
  { s with fd := { s.fd with tokenTmoFrame := s.fd.tokenTmoFrame + 1 } }

theorem State.countTokenTmo_untouched (s : State) : Untouched [.fields, .fold, .extract] s s.countTokenTmo := by
  intro g hg
  cases g <;> simp [Group.same, State.countTokenTmo] at hg ⊢

theorem State.h_countTokenTmo_count (s : State) :
    s.countTokenTmo.h Reg.FD_TOKEN_TMO_COUNT = min (s.h Reg.FD_TOKEN_TMO_COUNT + 1) Reg.FD_TOKEN_TMO_COUNT.top :=
  (State.h_flag_ne _ _ _ _ (by decide)).trans (State.h_inc_same _ _)

theorem State.h_countTokenTmo_seen (s : State) : s.countTokenTmo.h Reg.FD_STAT_TOKEN_TMO_SEEN = 1 :=
  State.h_flag_same _ _ _

theorem bufferRelease_yields (t : Nat) (p : Pixel) (iv : Interval) (s : State) (hr : s.phase = .ready)
    (hf : (s.fdPix p).closed.find? (fun i => i.ripe (max s.now t)) = some iv) :
    Yields (.bufferRelease t p) s fun x =>
      x.ex.released = s.ex.released ++ [{ pixel := p, iv := iv, header := header p iv, at_ := max s.now t }]
        ∧ (∀ j ∈ (x.fdPix p).closed, j.gen ≠ iv.gen) ∧ Frame t [.fields, .fold, .extract] s x := by
  refine Yields.of_run (execBufferRelease t p) hr rfl rfl ?_
  have hfind : ((s.clock t).fdPix p).closed.find? (fun i => i.ripe (s.clock t).now) = some iv := hf
  simp only [hfind]
  exact ⟨State.released_release _ _ _, State.gen_ne_of_mem_closed_release _ _ _, Frame.of_untouched (State.release_untouched _ _ _)⟩

theorem tokenTimeout_yields (t : Nat) (p : Pixel) (iv : Interval) (s : State) (hr : s.phase = .ready)
    (hf : (s.fdPix p).closed.find? (fun i => i.overdue (max s.now t)) = some iv) :
    Yields (.tokenTimeout t p) s fun x =>
      x.ex.released = s.ex.released ++ [{ pixel := p, iv := { iv with loss := true }, header := header p { iv with loss := true }, at_ := max s.now t }]
        ∧ (∀ j ∈ (x.fdPix p).closed, j.gen ≠ iv.gen)
        ∧ x.h Reg.FD_TOKEN_TMO_COUNT = min (s.h Reg.FD_TOKEN_TMO_COUNT + 1) Reg.FD_TOKEN_TMO_COUNT.top
        ∧ x.h Reg.FD_STAT_TOKEN_TMO_SEEN = 1 ∧ Frame t [.fields, .fold, .extract] s x := by
  refine Yields.of_run (execTokenTimeout t p) hr rfl rfl ?_
  have hfind : ((s.clock t).fdPix p).closed.find? (fun i => i.overdue (s.clock t).now) = some iv := hf
  simp only [hfind]
  let y := (s.clock t).countTokenTmo
  let lossy : Interval := { iv with loss := true }
  have hcount : (y.release p lossy).h Reg.FD_TOKEN_TMO_COUNT = _ :=
    (State.h_release_ne y p lossy _ (by decide)).trans (State.h_countTokenTmo_count _)
  have hseen : (y.release p lossy).h Reg.FD_STAT_TOKEN_TMO_SEEN = 1 :=
    (State.h_release_ne y p lossy _ (by decide)).trans (State.h_countTokenTmo_seen _)
  exact ⟨State.released_release y p lossy, State.gen_ne_of_mem_closed_release y p lossy, hcount, hseen,
    Frame.of_untouched ((State.countTokenTmo_untouched _).trans (State.release_untouched y p lossy))⟩

theorem suspectEnd_yields (t u : Nat) (s : State) (hr : s.phase = .ready) (hu : s.fd.suspectUntil = some u) (hle : u ≤ max s.now t) :
    Yields (.suspectEnd t) s fun x => x.fd = { s.fd with refSwitching := false, suspectUntil := none } ∧ Frame t [.fold] s x := by
  refine Yields.of_run (execSuspectEnd t) hr rfl rfl ?_
  have hle' : u ≤ (s.clock t).now := hle
  simp only [State.clock_fd, hu, if_pos hle']
  refine ⟨rfl, Frame.of_untouched fun g hg => ?_⟩
  cases g <;> simp [Group.same] at hg ⊢

end Sys2Proof.Machine

namespace Sys2Proof
open Machine

/-- Settles O24: a release appends the buffer and drops its number from the pixel (released_release, closed_release); TOKEN_TIMEOUT counts
before it, and a release counts in no field but FD_SAT_CNT. -/
theorem buffersAreReleased : Obligations.BuffersAreReleased := by
  unfold Obligations.BuffersAreReleased
  exact ⟨bufferRelease_yields, tokenTimeout_yields, suspectEnd_yields⟩

end Sys2Proof
end

section
/-!
SUPPORT. A shot-cycle end with FRAMES_STOP and FRAMES_START both pending, at which a waiting write is a mismatch that stops firing
(R130, R430).
-/

namespace Sys2Proof.Machine

/-- A shot cycle runs, firing is asked to stop at its end and to start again at the frame boundary (FRAMES_STOP, then FRAMES_START); a
mismatch stops firing (CF_CRC_CFG.STOP_FIRE), and a live write to the descriptor of pixel 600 waits. -/
def stopThenStart : State :=
  { State.reset.setFo Reg.CF_CRC_CFG_STOP_FIRE 1 with
    phase := .ready
    regs := { (State.reset.setFo Reg.CF_CRC_CFG_STOP_FIRE 1).regs with waiting := [⟨Reg.FD_DESC0 600, 0, 0, [600], [600]⟩] }
    sq := { State.reset.sq with cyc := some ⟨0, 0, 5, 0, false⟩, stopReq := true, startReq := true } }

/-- The stop is granted, then the write of the idle pixel takes effect as a mismatch; FRAMES_START being pending and the cycle not yet
gone, it asks for a stop anew, and nothing grants that one. -/
theorem stopReq_shotCycleEnd_stopThenStart : ∃ x, exec (.shotCycleEnd 500) stopThenStart = .next x ∧ x.sq.stopReq = true :=
  ⟨_, rfl, rfl⟩

end Sys2Proof.Machine

namespace Sys2Proof
open Machine

/-- Refutes O8, in its last part: at a SHOT_CYCLE_END with a stop requested the request need not be gone. In `stopThenStart` FRAMES_START
came after FRAMES_STOP; a write that takes effect at the cycle end is a mismatch (R430), which requests the stop again. -/
theorem not_framesRunAndScansEnd : ¬ Obligations.FramesRunAndScansEnd := by
  unfold Obligations.FramesRunAndScansEnd
  rintro ⟨-, -, cycleEnds⟩
  obtain ⟨x, hx, -, stopGone, -⟩ := cycleEnds 500 stopThenStart ⟨0, 0, 5, 0, false⟩ rfl rfl (by decide)
  obtain ⟨y, hy, requested⟩ := stopReq_shotCycleEnd_stopThenStart
  obtain rfl : x = y := Host.Outcome.next.inj (hx.symm.trans hy)
  obtain ⟨-, gone⟩ := stopGone rfl
  exact absurd requested (by simp [gone])

end Sys2Proof
end

section
/-!
SUPPORT. The two frequency references: which one is good, the switch to the other, the loss of both, recovery (R27).
-/

namespace Sys2Proof.Machine

/-! ### Fields under operations that write no register -/

theorem State.h_congr {s x : State} (h : x.regs = s.regs) (f : Fld) : x.h f = s.h f := by
  simp only [State.h, h]

@[simp] theorem State.h_markSuspect (s : State) (f : Fld) : s.markSuspect.h f = s.h f := State.h_congr (by simp) f

@[simp] theorem State.h_setRefOk (s : State) (b : Nat) (ok : Bool) (f : Fld) : (s.setRefOk b ok).h f = s.h f := rfl

/-- A field of the active set depends on the sets and on which of them is active. -/
theorem State.f_congr {s x : State} (hA : x.regs.setA = s.regs.setA) (hB : x.regs.setB = s.regs.setB)
    (hact : x.h Reg.CF_STAT_ACTIVE = s.h Reg.CF_STAT_ACTIVE) (f : Fld) : x.f f = s.f f := by
  have hb : x.activeB = s.activeB := congrArg (fun n => decide (n = 1)) hact
  simp only [State.f, State.act, hA, hB, hb]

/-! ### What is known of a reference -/

theorem State.refOk_setRefOk (s : State) (b c : Nat) (ok : Bool) :
    (s.setRefOk b ok).refOk c = if (b = 0 ↔ c = 0) then ok else s.refOk c := by
  by_cases hb : b = 0 <;> by_cases hc : c = 0 <;> simp [State.setRefOk, State.refOk, hb, hc]

theorem State.setRefOk_untouched (s : State) (b : Nat) (ok : Bool) : Untouched [.shepherd] s (s.setRefOk b ok) := by
  intro g hg
  cases g <;> simp [Group.same] at hg ⊢

@[simp] theorem State.setRefOk_refLost (s : State) (b : Nat) (ok : Bool) : (s.setRefOk b ok).sq.refLost = s.sq.refLost := by
  unfold State.setRefOk
  split <;> rfl

/-! ### A reference fails -/

/-- Open intervals are marked, and so is every one until the time base has settled. -/
def State.suspectAll (s : State) : State :=
  { s.markSuspect with fd := { s.markSuspect.fd with refSwitching := true, suspectUntil := none } }

/-- The time base goes over to reference `c`. -/
def State.switchTo (s : State) (c : Nat) : State :=
  let x := (s.setH Reg.EP_STAT_REF_NOW c).raise .refSwitch c 0
  { x with fd := { x.fd with suspectUntil := some (x.now + lsbMs) } }

/-- Both references have failed: firing stops, the safety channels trip. -/
def State.loseRefs (s : State) : State :=
  let x := (({ s with sq := { s.sq with refLost := true, refTaken := false } }).raise .refLost 0 0).stopFiring
  ({ x with sq := { x.sq with startReq := false } }).siTripAll 10

/-- What REFERENCE_FAIL does to a running die: the reference in use is replaced, or both are lost. -/
def State.failRef (s : State) (b : Nat) : State :=
  let s := s.setRefOk b false
  if s.h Reg.EP_STAT_REF_NOW ≠ b ∨ (s.sq.refLost = true ∧ s.sq.refTaken = false) then s
  else
    let s := s.suspectAll
    if s.refOk (1 - b) then s.switchTo (1 - b)
    else if s.sq.refLost then { s with sq := { s.sq with refTaken := false } }
    else s.loseRefs

theorem State.suspectAll_untouched (s : State) : Untouched [.fold] s s.suspectAll := by
  intro g hg
  cases g <;> simp [Group.same, State.suspectAll] at hg ⊢

theorem State.switchTo_untouched (s : State) (c : Nat) : Untouched [.fields, .events, .fold] s (s.switchTo c) := by
  intro g hg
  cases g <;> simp [Group.same, State.switchTo] at hg ⊢

theorem State.h_switchTo (s : State) (c : Nat) : (s.switchTo c).h Reg.EP_STAT_REF_NOW = min c 1 := State.h_setH_same _ _ _

theorem State.failRef_of_not_in_use (s : State) (b : Nat) (h : s.h Reg.EP_STAT_REF_NOW ≠ b) : s.failRef b = s.setRefOk b false := by
  unfold State.failRef
  exact if_pos (.inl h)

/-- The reference in use fails, with the other within its limits or not. -/
theorem State.failRef_of_in_use (s : State) (b : Nat) (hb : b < 2) (h : s.h Reg.EP_STAT_REF_NOW = b) (hl : s.sq.refLost = false) :
    s.failRef b = if s.refOk (1 - b) then (s.setRefOk b false).suspectAll.switchTo (1 - b) else (s.setRefOk b false).suspectAll.loseRefs := by
  have hother : (s.setRefOk b false).suspectAll.refOk (1 - b) = s.refOk (1 - b) := by
    have hsq : (s.setRefOk b false).suspectAll.refOk (1 - b) = (s.setRefOk b false).refOk (1 - b) := by
      simp [State.suspectAll, State.refOk]
    rw [hsq, State.refOk_setRefOk, if_neg (by omega)]
  have hlost : (s.setRefOk b false).suspectAll.sq.refLost = false := by simp [State.suspectAll, hl]
  unfold State.failRef
  simp [h, hl, hother, hlost]

/-! ### Trips -/

/-- A trip, said once for the events and for what is known of stalled islands: reports are only added, stalls and PATH_FAULT stay. -/
def TripOf (s x : State) : Prop :=
  s.ev.inbox ⊆ x.ev.inbox ∧ x.safe.stalls = s.safe.stalls ∧ x.safe.pathFault = s.safe.pathFault

theorem TripOf.refl (s : State) : TripOf s s := ⟨List.Subset.refl _, rfl, rfl⟩

theorem TripOf.trans {s x y : State} (h : TripOf s x) (h' : TripOf x y) : TripOf s y :=
  by
  obtain ⟨hev, hst, hpf⟩ := h
  obtain ⟨hev', hst', hpf'⟩ := h'
  exact ⟨fun r hr => hev' (hev hr), hst'.trans hst, hpf'.trans hpf⟩

theorem TripOf.of_eq {s x : State} (hev : x.ev = s.ev) (hsafe : x.safe = s.safe) : TripOf s x := by
  simp [TripOf, hev, hsafe]

theorem TripOf.foldl {α : Type} (f : State → α → State) (hf : ∀ s a, TripOf s (f s a)) (l : List α) (s : State) : TripOf s (l.foldl f s) := by
  induction l generalizing s with
  | nil => exact TripOf.refl s
  | cons a r ih => exact (hf s a).trans (ih _)

theorem tripOf_setSafeChan (s : State) (n : Nat) (x : SafeChan) : TripOf s (s.setSafeChan n x) := ⟨List.Subset.refl _, rfl, rfl⟩

theorem tripOf_raise (s : State) (e : Ev) (a b : Nat) : TripOf s (s.raise e a b) := ⟨List.subset_append_left _ _, rfl, rfl⟩

theorem tripOf_chMove (s : State) (n st : Nat) : TripOf s (s.chMove n st) := by
  have hset : TripOf s (s.setH (Reg.SF_CH_STAT_STATE n) st) := TripOf.of_eq rfl rfl
  have hshow (x : State) : TripOf x (x.showPins n) := TripOf.of_eq (by simp) (by simp)
  unfold State.chMove
  dsimp only
  split
  · exact hset.trans (hshow _)
  · exact (hset.trans (tripOf_setSafeChan _ _ _)).trans (hshow _)

theorem tripOf_marks (s : State) (n cause : Nat) :
    TripOf s (((s.setH (Reg.SF_CH_CAUSE_FIRST n) cause).inc (Reg.SF_TRIP_CNT_COUNT n)).flag (Reg.SF_CH_STAT_TRIP_SEEN n) true) :=
  TripOf.of_eq (by simp) (by simp)

theorem tripOf_tripMove (s : State) (n cause : Nat) : TripOf s (s.tripMove n cause) := by
  unfold State.tripMove
  split
  · exact (((tripOf_setSafeChan s n _).trans (tripOf_marks _ n cause)).trans (tripOf_raise _ .safeTrip n cause)).trans (tripOf_chMove _ n 1)
  · exact TripOf.refl s

theorem tripOf_sendZone (s : State) (n : Nat) : TripOf s (s.sendZone n) := by
  unfold State.sendZone
  split
  · exact TripOf.refl s
  · refine (tripOf_setSafeChan s n _).trans (TripOf.foldl _ (fun s u => ?_) _ _)
    split
    · split
      · exact TripOf.of_eq (by simp) (by simp)
      · exact TripOf.refl s
    · exact TripOf.of_eq (by simp) (by simp)

theorem tripOf_zoneOut (s : State) (n : Nat) : TripOf s (s.zoneOut n) := by
  unfold State.zoneOut
  split
  · exact tripOf_sendZone s n
  · exact tripOf_tripMove s n 11

theorem tripOf_siTripAll (s : State) (cause : Nat) : TripOf s (s.siTripAll cause) := by
  refine TripOf.foldl _ (fun s n => ?_) _ s
  unfold State.siTrip
  split
  · exact (tripOf_tripMove s n cause).trans (tripOf_zoneOut _ n)
  · exact TripOf.refl s

/-- A report joins the reports at their end. -/
theorem State.inbox_raise (s : State) (e : Ev) (a b : Nat) :
    ∃ r, (s.raise e a b).ev.inbox = s.ev.inbox ++ [r] ∧ r.code = e.code ∧ r.e10 = a % 2 ^ 20 := ⟨_, rfl, rfl, rfl⟩

theorem State.exists_report_raise (s : State) (e : Ev) (a b : Nat) : ∃ r, r ∈ (s.raise e a b).ev.inbox ∧ r.code = e.code := by
  obtain ⟨r, hr, hc, -⟩ := s.inbox_raise e a b
  exact ⟨r, by simp [hr], hc⟩

/-! ### The loss of both references -/

theorem State.refLost_loseRefs (s : State) : s.loseRefs.sq.refLost = true ∧ s.loseRefs.sq.refTaken = false := by
  simp [State.loseRefs, State.stopFiring]

/-- REF_LOST is among the reports: it is made before the channels trip. -/
theorem State.refLost_report_mem_loseRefs (s : State) : ∃ r, r ∈ s.loseRefs.ev.inbox ∧ r.code = Ev.refLost.code := by
  obtain ⟨r, hr, hc⟩ := State.exists_report_raise { s with sq := { s.sq with refLost := true, refTaken := false } } .refLost 0 0
  refine ⟨r, ?_, hc⟩
  rw [State.loseRefs]
  apply (tripOf_siTripAll _ 10).1
  simpa using hr

/-- With the references lost every FIRE pair is in INHIBIT. -/
theorem State.inhibited_of_refLost {s : State} (h : s.sq.refLost = true) (e : Nat) : s.inhibited e = true := by
  simp [State.inhibited, h]

/-! ### A reference is back -/

/-- A reference of which REFERENCE_RECOVERY tells that it lies within its limits is good again. -/
def State.refBackOf (s : State) (b : Nat) : Option Nat → State
  | some lsb => s.refBack b lsb
  | none => s

/-- What is known of the references after REFERENCE_RECOVERY, before the time base takes one. -/
def State.refsBack (s : State) (a b : Option Nat) : State :=
  ((s.refBackOf 0 a).refBackOf 1 b).quadRefsBack a.isSome b.isSome

/-- The time base takes a reference; once the tiles are in lock the millisecond of the SUSPECT marking begins. -/
def State.takeRef (s : State) (n : Nat) : State :=
  ({ s.setH Reg.EP_STAT_REF_NOW n with sq := { s.sq with refTaken := true } }).suspectFrom

/-- What REFERENCE_RECOVERY does to a running die. -/
def State.recoverRefs (s : State) (a b : Option Nat) : State :=
  let s := s.refsBack a b
  if s.sq.refLost && !s.sq.refTaken then
    match refToTake a b (s.f Reg.EP_CFG_REFSEL) with
    | some n => s.takeRef n
    | none => s
  else s

theorem State.refBack_lost (s : State) (b lsb : Nat) :
    (s.refBack b lsb).sq.refLost = s.sq.refLost ∧ (s.refBack b lsb).sq.refTaken = s.sq.refTaken := by
  unfold State.refBack
  split
  · exact ⟨rfl, rfl⟩
  · split <;> exact ⟨rfl, rfl⟩

theorem State.refBack_untouched (s : State) (b lsb : Nat) : Untouched [.shepherd] s (s.refBack b lsb) := by
  intro g hg
  cases g <;> simp [Group.same] at hg ⊢

theorem State.refBackOf_spec (s : State) (b : Nat) (o : Option Nat) :
    Untouched [.shepherd] s (s.refBackOf b o) ∧ (s.refBackOf b o).regs = s.regs ∧ (s.refBackOf b o).sq.refLost = s.sq.refLost
      ∧ (s.refBackOf b o).sq.refTaken = s.sq.refTaken := by
  cases o with
  | none => exact ⟨Untouched.refl _ _, rfl, rfl, rfl⟩
  | some lsb =>
    obtain ⟨hlost, htaken⟩ := s.refBack_lost b lsb
    exact ⟨s.refBack_untouched b lsb, (s.refBack_frame b lsb).2.2.2.2.2.2.1, hlost, htaken⟩

/-- Only fields of the quads change, which stand above every other block's that the selection of a reference reads. -/
theorem State.h_quadRefsBack_of_lt (s : State) (a b : Bool) (f : Fld) (hf : f.key < 0x200000 * 32) : (s.quadRefsBack a b).h f = s.h f := by
  have hkey (q : Nat) : 0x200000 * 32 ≤ (Reg.LN_QUAD_STAT_REF_NOW q).key ∧ 0x200000 * 32 ≤ (Reg.LN_QUAD_STAT_LOCK q).key := by
    simp only [Fld.key, Reg.LN_QUAD_STAT_REF_NOW, Reg.LN_QUAD_STAT_LOCK, Reg.LN_QUAD_STAT]
    omega
  have hnow (q : Nat) : f.key ≠ (Reg.LN_QUAD_STAT_REF_NOW q).key := (hf.trans_le (hkey q).1).ne
  have hlock (q : Nat) : f.key ≠ (Reg.LN_QUAD_STAT_LOCK q).key := (hf.trans_le (hkey q).2).ne
  refine foldl_inv (fun s => s.h f) _ _ s fun s q => ?_
  dsimp only
  simp only [State.pllLock, State.h_setH_ne _ _ _ _ (hlock q), apply_ite (fun x : State => x.h f), State.h_setH_ne _ _ _ _ (hnow q), ite_self]
  rfl

theorem State.quadRefsBack_untouched (s : State) (a b : Bool) : Untouched [.fields, .lanes] s (s.quadRefsBack a b) := by
  intro g hg
  cases g <;> simp [Group.same] at hg ⊢

/-- The references after both are heard of again: what is lost or taken stays so. -/
theorem State.refsBack_spec (s : State) (a b : Option Nat) :
    Untouched [.fields, .shepherd, .lanes] s (s.refsBack a b) ∧ (s.refsBack a b).sq.refLost = s.sq.refLost
      ∧ (s.refsBack a b).sq.refTaken = s.sq.refTaken ∧ (s.refsBack a b).f Reg.EP_CFG_REFSEL = s.f Reg.EP_CFG_REFSEL := by
  obtain ⟨hu, hregs, hlost, htaken⟩ := s.refBackOf_spec 0 a
  obtain ⟨hu', hregs', hlost', htaken'⟩ := (s.refBackOf 0 a).refBackOf_spec 1 b
  have hquad : (s.refsBack a b).sq = ((s.refBackOf 0 a).refBackOf 1 b).sq := by simp [State.refsBack]
  have huntouched : Untouched [.shepherd] s ((s.refBackOf 0 a).refBackOf 1 b) := hu.trans hu'
  refine ⟨huntouched.mono.trans (State.quadRefsBack_untouched _ _ _).mono, ?_, ?_, ?_⟩
  · rw [hquad, hlost', hlost]
  · rw [hquad, htaken', htaken]
  · calc (s.refsBack a b).f Reg.EP_CFG_REFSEL
        = ((s.refBackOf 0 a).refBackOf 1 b).f Reg.EP_CFG_REFSEL :=
          State.f_congr (State.quadRefsBack_parts _ _ _).1 (State.quadRefsBack_parts _ _ _).2.1 (State.h_quadRefsBack_of_lt _ _ _ _ (by decide)) _
      _ = s.f Reg.EP_CFG_REFSEL :=
          State.f_congr (by rw [hregs', hregs]) (by rw [hregs', hregs]) (State.h_congr (hregs'.trans hregs) _) _

theorem State.takeRef_untouched (s : State) (n : Nat) : Untouched [.fields, .shepherd, .fold] s (s.takeRef n) := by
  intro g hg
  cases g <;> simp [Group.same, State.takeRef] at hg ⊢

theorem State.h_takeRef (s : State) (n : Nat) : (s.takeRef n).h Reg.EP_STAT_REF_NOW = min n 1 := by
  rw [State.takeRef, State.h_congr (x := State.suspectFrom _) (s := s.setH Reg.EP_STAT_REF_NOW n) (by simp), State.h_setH_same]
  rfl

/-! ### A stalled island -/

/-- A pair of islands of which one waits for the other is recorded and reported. -/
def State.noteStall (s : State) (w q : ClockIsland) : State :=
  ({ s with safe := { s.safe with stalls := s.safe.stalls ++ [(w.ix, q.ix)] } }).raise .islandStall
    (Config.islandNumber w.ix).toNat (Config.islandNumber q.ix).toNat

/-- A stall of the main path is a path fault (R338). -/
def State.pathFails (s : State) : State := ({ s with safe := { s.safe with pathFault := true } }).siTripAll 10

/-- What ISLAND_STALL does to a running die. -/
def State.stall (s : State) (w q : ClockIsland) : State :=
  if s.safe.stalls.contains (w.ix, q.ix) then s
  else if w.mainPath || q.mainPath then (s.noteStall w q).pathFails else s.noteStall w q

theorem TripOf.of_pathFault {s x : State} (h : TripOf { s with safe := { s.safe with pathFault := true } } x) :
    s.ev.inbox ⊆ x.ev.inbox ∧ x.safe.stalls = s.safe.stalls ∧ x.safe.pathFault = true := h

/-- A path fault keeps the stalls and the reports. -/
theorem State.pathFails_spec (s : State) :
    s.ev.inbox ⊆ s.pathFails.ev.inbox ∧ s.pathFails.safe.stalls = s.safe.stalls ∧ s.pathFails.safe.pathFault = true := by
  rw [State.pathFails]
  exact TripOf.of_pathFault (tripOf_siTripAll _ 10)

theorem State.stall_spec (s : State) (w q : ClockIsland) (h : s.safe.stalls.contains (w.ix, q.ix) = false) :
    (w.ix, q.ix) ∈ (s.stall w q).safe.stalls ∧ (∃ r, r ∈ (s.stall w q).ev.inbox ∧ r.code = Ev.islandStall.code)
      ∧ (w.mainPath || q.mainPath → (s.stall w q).safe.pathFault = true) := by
  have hstall : (w.ix, q.ix) ∈ (s.noteStall w q).safe.stalls := by simp [State.noteStall]
  have hreport : ∃ r, r ∈ (s.noteStall w q).ev.inbox ∧ r.code = Ev.islandStall.code := State.exists_report_raise _ _ _ _
  unfold State.stall
  rw [if_neg (by rw [h]; decide)]
  by_cases hm : (w.mainPath || q.mainPath) = true
  · obtain ⟨hev, hst, hpf⟩ := (s.noteStall w q).pathFails_spec
    obtain ⟨r, hr, hc⟩ := hreport
    rw [if_pos hm]
    rw [← hst] at hstall
    exact ⟨hstall, ⟨r, hev hr, hc⟩, fun _ => hpf⟩
  · rw [if_neg hm]
    exact ⟨hstall, hreport, fun h => absurd h hm⟩

/-! ### The commands -/

theorem execReferenceFail_eq (t : Nat) (b : Bool) (s : State) :
    execReferenceFail t b s = s.run t fun s => s.failRef (if b then 1 else 0) := by
  unfold execReferenceFail State.failRef State.suspectAll State.switchTo State.loseRefs
  rfl

theorem execReferenceRecovery_eq (t : Nat) (a b : Option Nat) (s : State) :
    execReferenceRecovery t a b s = s.run t fun s => s.recoverRefs a b := by
  unfold execReferenceRecovery State.recoverRefs State.takeRef State.refsBack
  cases a <;> cases b <;> dsimp only [State.refBackOf] <;> rfl

theorem execIslandStall_eq (t : Nat) (w q : ClockIsland) (s : State) :
    execIslandStall t w q s = s.run t fun s => s.stall w q := by
  unfold execIslandStall State.stall State.noteStall State.pathFails
  rfl

theorem referenceFail_switches (t : Nat) (b : Bool) (s : State) (hr : s.phase = .ready)
    (huse : s.h Reg.EP_STAT_REF_NOW = (if b then 1 else 0)) (hl : s.sq.refLost = false) (hok : s.refOk (if b then 0 else 1) = true) :
    Yields (.referenceFail t b) s fun x =>
      x.h Reg.EP_STAT_REF_NOW = (if b then 0 else 1) ∧ x.fd.suspectUntil = some (max s.now t + lsbMs)
        ∧ (∃ r, x.ev.inbox = s.ev.inbox ++ [r] ∧ r.code = Ev.refSwitch.code)
        ∧ Frame t [.fields, .events, .shepherd, .fold, .extract, .command] s x := by
  have hfail : (s.clock t).failRef (if b then 1 else 0)
      = ((s.clock t).setRefOk (if b then 1 else 0) false).suspectAll.switchTo (if b then 0 else 1) := by
    rw [State.failRef_of_in_use (s.clock t) (if b then 1 else 0) (by cases b <;> decide) huse hl]
    cases b <;> exact if_pos hok
  refine Yields.of_run (execReferenceFail t b) hr rfl (execReferenceFail_eq t b s) ?_
  rw [hfail]
  refine ⟨?now, ?suspect, ?report, Frame.of_untouched ?frame⟩
  case now => exact (State.h_switchTo _ _).trans (by cases b <;> decide)
  case suspect => simp [State.switchTo, State.suspectAll]
  case report =>
    obtain ⟨r, hr, hc, -⟩ := State.inbox_raise
      (((s.clock t).setRefOk (if b then 1 else 0) false).suspectAll.setH Reg.EP_STAT_REF_NOW (if b then 0 else 1)) .refSwitch (if b then 0 else 1) 0
    exact ⟨r, hr.trans (by simp [State.suspectAll]), hc⟩
  case frame =>
    exact ((State.setRefOk_untouched _ _ _).mono.trans (State.suspectAll_untouched _).mono).trans (State.switchTo_untouched _ _).mono

theorem referenceFail_loses (t : Nat) (b : Bool) (s : State) (hr : s.phase = .ready)
    (huse : s.h Reg.EP_STAT_REF_NOW = (if b then 1 else 0)) (hl : s.sq.refLost = false) (hbad : s.refOk (if b then 0 else 1) = false) :
    Yields (.referenceFail t b) s fun x =>
      x.sq.refLost = true ∧ x.sq.refTaken = false ∧ (∃ r, r ∈ x.ev.inbox ∧ r.code = Ev.refLost.code) ∧ ∀ e, x.inhibited e = true := by
  have hfail : (s.clock t).failRef (if b then 1 else 0) = ((s.clock t).setRefOk (if b then 1 else 0) false).suspectAll.loseRefs := by
    rw [State.failRef_of_in_use (s.clock t) (if b then 1 else 0) (by cases b <;> decide) huse hl]
    refine if_neg ?_
    cases b <;> exact Bool.eq_false_iff.mp hbad
  refine Yields.of_run (execReferenceFail t b) hr rfl (execReferenceFail_eq t b s) ?_
  rw [hfail]
  generalize ((s.clock t).setRefOk (if b then 1 else 0) false).suspectAll = y
  obtain ⟨hlost, htaken⟩ := y.refLost_loseRefs
  have hreport := y.refLost_report_mem_loseRefs
  generalize y.loseRefs = x at hlost htaken hreport
  exact ⟨hlost, htaken, hreport, State.inhibited_of_refLost hlost⟩

theorem referenceFail_other (t : Nat) (b : Bool) (s : State) (hr : s.phase = .ready)
    (hother : s.h Reg.EP_STAT_REF_NOW ≠ (if b then 1 else 0)) : Yields (.referenceFail t b) s fun x =>
      x.refOk (if b then 1 else 0) = false ∧ x.refOk (if b then 0 else 1) = s.refOk (if b then 0 else 1) ∧ Frame t [.shepherd] s x := by
  refine Yields.of_run (execReferenceFail t b) hr rfl (execReferenceFail_eq t b s) ?_
  rw [State.failRef_of_not_in_use (s.clock t) (if b then 1 else 0) hother]
  refine ⟨?failed, ?kept, Frame.of_untouched (State.setRefOk_untouched _ _ _)⟩
  case failed => exact (State.refOk_setRefOk _ _ _ _).trans (if_pos Iff.rfl)
  case kept => exact (State.refOk_setRefOk _ _ _ _).trans (if_neg (by cases b <;> decide))

theorem referenceRecovery_takes (t : Nat) (a b : Option Nat) (n : Nat) (s : State) (hr : s.phase = .ready) (hlost : s.sq.refLost = true)
    (htaken : s.sq.refTaken = false) (hn : refToTake a b (s.f Reg.EP_CFG_REFSEL) = some n) : Yields (.referenceRecovery t a b) s fun x =>
      x.sq.refTaken = true ∧ x.h Reg.EP_STAT_REF_NOW = min 1 n ∧ Frame t [.fields, .shepherd, .fold, .lanes] s x := by
  obtain ⟨hu, hlost', htaken', hsel⟩ := (s.clock t).refsBack_spec a b
  have hrecover : (s.clock t).recoverRefs a b = ((s.clock t).refsBack a b).takeRef n := by
    have hsel' : ((s.clock t).refsBack a b).f Reg.EP_CFG_REFSEL = s.f Reg.EP_CFG_REFSEL := hsel
    simp [State.recoverRefs, hlost', htaken', hsel', hlost, htaken, hn]
  refine Yields.of_run (execReferenceRecovery t a b) hr rfl (execReferenceRecovery_eq t a b s) ?_
  rw [hrecover]
  refine ⟨?taken, ?now, Frame.of_untouched (hu.mono.trans (State.takeRef_untouched _ n).mono)⟩
  case taken => simp [State.takeRef]
  case now => exact (State.h_takeRef _ n).trans (min_comm n 1)

theorem islandStall_new (t : Nat) (w q : ClockIsland) (s : State) (hr : s.phase = .ready)
    (hnew : s.safe.stalls.contains (w.ix, q.ix) = false) : Yields (.islandStall t w q) s fun x =>
      (w.ix, q.ix) ∈ x.safe.stalls ∧ (∃ r, r ∈ x.ev.inbox ∧ r.code = Ev.islandStall.code)
        ∧ (w.mainPath || q.mainPath → x.safe.pathFault = true) :=
  Yields.of_run (execIslandStall t w q) hr rfl (execIslandStall_eq t w q s) ((s.clock t).stall_spec w q hnew)

theorem islandStall_known (t : Nat) (w q : ClockIsland) (s : State) (hr : s.phase = .ready)
    (hknown : s.safe.stalls.contains (w.ix, q.ix) = true) : Yields (.islandStall t w q) s fun x => Frame t [] s x := by
  refine Yields.of_run (execIslandStall t w q) hr rfl (execIslandStall_eq t w q s) ?_
  have hstall : (s.clock t).stall w q = s.clock t := if_pos hknown
  rw [hstall]
  exact Frame.of_untouched (Untouched.refl _ _)

end Sys2Proof.Machine

namespace Sys2Proof
open Machine

/-- Settles O9: the failing reference is in use or not, the other is good or not (failRef_of_in_use); a trip keeps the reports and the
stalls already there (tripOf_siTripAll), and hearing of the references again leaves what selects one (refsBack_spec). -/
theorem referencesAndIslandsFail : Obligations.ReferencesAndIslandsFail := by
  unfold Obligations.ReferencesAndIslandsFail
  exact ⟨referenceFail_switches, referenceFail_loses, referenceFail_other, referenceRecovery_takes, islandStall_new, islandStall_known⟩

end Sys2Proof
end

section
/-!
SUPPORT. Partners that leave, subscriptions that end, and what a CONSIST says (R45, R306 to R310).
-/

namespace Sys2Proof.Machine

/-! ### Subscriptions that end -/

/-- Of the link block the end of a subscription changes the list of subscriptions, and of that only the entry. -/
theorem State.fl_endSub (s : State) (u : Sub) :
    (s.endSub u).fl = { s.fl with subs := s.fl.subs.filter fun v => decide (v.idx ≠ u.idx) } := by
  unfold State.endSub
  dsimp only
  split <;> simp

/-- After the end of several subscriptions none at their indices is left, and no other partner or subscription has come. -/
theorem State.foldl_endSub_spec (l : List Sub) (s : State) :
    (l.foldl (fun s u => s.endSub u) s).fl.partners = s.fl.partners
      ∧ ∀ v ∈ (l.foldl (fun s u => s.endSub u) s).fl.subs, v ∈ s.fl.subs ∧ ∀ u ∈ l, v.idx ≠ u.idx := by
  induction l generalizing s with
  | nil => simp
  | cons u r ih =>
    obtain ⟨hpartners, hsubs⟩ := ih (s.endSub u)
    refine ⟨hpartners.trans (by rw [State.fl_endSub]), fun v hv => ?_⟩
    obtain ⟨hmem, hne⟩ := hsubs v hv
    rw [State.fl_endSub, List.mem_filter, decide_eq_true_eq] at hmem
    obtain ⟨hin, hidx⟩ := hmem
    exact ⟨hin, List.forall_mem_cons.mpr ⟨hidx, hne⟩⟩

theorem State.endSub_untouched (s : State) (u : Sub) : Untouched [.fields, .link, .delivery] s (s.endSub u) := by
  intro g hg
  cases g <;> simp [Group.same] at hg ⊢

theorem State.pruneDests_untouched (s : State) : Untouched [.events] s s.pruneDests := by
  intro g hg
  cases g <;> simp [Group.same] at hg ⊢

theorem State.raise_untouched (s : State) (e : Ev) (a b : Nat) : Untouched [.events] s (s.raise e a b) := by
  intro g hg
  cases g <;> simp [Group.same] at hg ⊢

/-! ### A partner leaves -/

/-- A head that leaves its slot is not in the tables of partners and subscriptions. -/
theorem State.fl_headDetach (s : State) (ident : Nat) :
    (s.headDetach ident).fl.partners = s.fl.partners ∧ (s.headDetach ident).fl.subs = s.fl.subs := by
  unfold State.headDetach
  split <;> simp [State.setHead, State.setLink]

@[simp] theorem State.raiseAbout_frame (s : State) (src : Nat) (e : Ev) (sev : Sev) (a b : Nat) :
    (s.raiseAbout src e sev a b).fl = s.fl ∧ (s.raiseAbout src e sev a b).il = s.il ∧ (s.raiseAbout src e sev a b).sv = s.sv
      ∧ (s.raiseAbout src e sev a b).regs = s.regs :=
  ⟨rfl, rfl, rfl, rfl⟩

/-- The partner is out of the tables, its subscriptions and their destinations are gone. -/
def State.forgetPartner (s : State) (p : Partner) : State :=
  let s := s.setPartners (s.fl.partners.filter fun q => decide (q.ident ≠ p.ident))
  let s := (s.fl.subs.filter (Sub.ofPartner p.ident)).foldl (fun s u => s.endSub u) s
  { s with ev := { s.ev with dests := s.ev.dests.filter fun d => decide (d.who ≠ Consumer.partner p.ident) } }

/-- What else a detachment brings: a head leaves its slot, the plan forgets the partner, the event, the new topology. -/
def State.afterForget (s : State) (p : Partner) : State :=
  let s := if p.profile = 0 then s.headDetach p.ident else s
  ((s.planForget p.ident).raiseAbout p.ident .detach Ev.detach.sev p.port.lowest p.profile).topology

theorem State.detach_eq (s : State) (p : Partner) : s.detach p = (s.forgetPartner p).afterForget p := rfl

theorem State.forgetPartner_spec (s : State) (p : Partner) :
    (∀ q ∈ (s.forgetPartner p).fl.partners, q.ident ≠ p.ident) ∧ ∀ u ∈ (s.forgetPartner p).fl.subs, Sub.ofPartner p.ident u = false := by
  obtain ⟨hpartners, hsubs⟩ := State.foldl_endSub_spec (s.fl.subs.filter (Sub.ofPartner p.ident))
    (s.setPartners (s.fl.partners.filter fun q => decide (q.ident ≠ p.ident)))
  refine ⟨fun q hq => ?_, fun u hu => ?_⟩
  · rw [State.forgetPartner] at hq
    have hq' := hpartners ▸ hq
    simpa [State.setPartners] using (List.mem_filter.mp hq').2
  · obtain ⟨hin, hne⟩ := hsubs u hu
    by_contra hof
    exact hne u (List.mem_filter.mpr ⟨hin, Bool.not_eq_false _ ▸ hof⟩) rfl

theorem State.afterForget_fl (s : State) (p : Partner) :
    (s.afterForget p).fl.partners = s.fl.partners ∧ (s.afterForget p).fl.subs = s.fl.subs := by
  obtain ⟨hpartners, hsubs⟩ := s.fl_headDetach p.ident
  unfold State.afterForget
  dsimp only
  split <;> simp [hpartners, hsubs]

theorem State.forgetPartner_frame (s : State) (p : Partner) :
    (s.forgetPartner p).il = s.il ∧ (s.forgetPartner p).sv = s.sv ∧ (s.forgetPartner p).regs.setA = s.regs.setA
      ∧ (s.forgetPartner p).regs.setB = s.regs.setB := by
  simp [State.forgetPartner, State.setPartners]

theorem State.afterForget_frame (s : State) (p : Partner) :
    (s.afterForget p).il = s.il ∧ (s.afterForget p).sv = s.sv ∧ (s.afterForget p).regs.setA = s.regs.setA
      ∧ (s.afterForget p).regs.setB = s.regs.setB := by
  unfold State.afterForget
  dsimp only
  split <;> simp

theorem detach_yields (t : Nat) (i : Fin 256) (p : Partner) (s : State) (hr : s.phase = .ready)
    (hp : s.fl.partners.find? (fun q => decide (q.idx = i.val)) = some p) (hdue : (s.clock t).detachDue p = true) :
    Yields (.detach t i) s fun x => (∀ q ∈ x.fl.partners, q.ident ≠ p.ident) ∧ (∀ u ∈ x.fl.subs, Sub.ofPartner p.ident u = false)
      ∧ x.il = s.il ∧ x.sv = s.sv ∧ x.regs.setA = s.regs.setA ∧ x.regs.setB = s.regs.setB := by
  refine Yields.of_run (execDetach t i) hr rfl rfl ?_
  have hfind : (s.clock t).fl.partners.find? (fun q => decide (q.idx = i.val)) = some p := hp
  simp only [hfind, hdue, if_true, State.detach_eq]
  obtain ⟨hnone, hnosub⟩ := (s.clock t).forgetPartner_spec p
  obtain ⟨hil, hsv, hA, hB⟩ := (s.clock t).forgetPartner_frame p
  generalize (s.clock t).forgetPartner p = y at *
  obtain ⟨hpartners, hsubs⟩ := y.afterForget_fl p
  obtain ⟨hil', hsv', hA', hB'⟩ := y.afterForget_frame p
  generalize y.afterForget p = x at *
  rw [State.keep_fl, State.keep_il, State.keep_sv, State.keep_regs, hpartners, hsubs]
  exact ⟨hnone, hnosub, hil'.trans hil, hsv'.trans hsv, hA'.trans hA, hB'.trans hB⟩

/-! ### A CONSIST -/

theorem State.use_congr {s x : State} (h : x.regs = s.regs) (unit addr : Nat) : x.use unit addr = s.use unit addr := by
  simp only [State.use, State.act, State.activeB, h]
  rfl

theorem State.fu_congr {s x : State} (h : x.regs = s.regs) (unit : Nat) (f : Fld) : x.fu unit f = s.fu unit f := by
  rw [State.fu, State.fu, State.use_congr h]

/-- Which lanes make a link depends on registers only. -/
theorem State.linkOf_congr {s x : State} (h : x.regs = s.regs) (l : Nat) : x.linkOf l = s.linkOf l := by
  simp only [State.linkOf, State.laneGroup, State.laneMode, State.fu_congr h]
  rfl

theorem State.holds_clock {s : State} {l : Lane} {kind : Nat} {b : List Score} {z : Nat} {r : List RxPacket} (t : Nat)
    (h : s.holds l kind b z r) : (s.clock t).holds l kind b z r := by
  rw [State.holds, State.linkOf_congr (State.clock_regs s t)]
  exact h

/-- A packet that the receiver holds is taken from it. -/
theorem State.takePacket_of_holds {s : State} {l : Lane} {kind : Nat} {b : List Score} {z : Nat} {r : List RxPacket} (h : s.holds l kind b z r) :
    s.takePacket (.link l) kind = (s.setLink (s.linkOf l).1 { s.link (s.linkOf l).1 with arrived := r }, some b) := by
  unfold State.takePacket
  simp only [show (s.link (s.linkOf l).1).arrived = _ from h, and_self, if_true]

/-- Whether a CONSIST brings another topology counter than the last one, or is the first. -/
def State.consistChanged (s : State) (b : List Score) : Bool :=
  !s.fl.consist.have_ || decide ((joinHL (b.getD 0 0) (b.getD 1 0)).toNat ≠ s.fl.consist.counter)

/-- What a CONSIST leaves known: its counter, position and lengths, and whether the counter is another. -/
def Consist.heard (k : Consist) (counter : Nat) (position : Score) (front rear : Nat) (changed : Bool) : Consist :=
  { k with
    have_ := true, counter := counter, position := position, front := front, rear := rear
    pendingPos := if position = k.inEffect then none else some position
    planAgreed := if changed then false else k.planAgreed }

theorem Consist.heard_spec (k : Consist) (counter : Nat) (position : Score) (front rear : Nat) (changed : Bool) :
    (k.heard counter position front rear changed).have_ = true ∧ (k.heard counter position front rear changed).counter = counter
      ∧ (k.heard counter position front rear changed).position = position
      ∧ (k.heard counter position front rear changed).inEffect = k.inEffect :=
  ⟨rfl, rfl, rfl, rfl⟩

/-- What seven scores of a CONSIST say is kept. -/
def State.keepConsist (s : State) (b : List Score) : State :=
  let heard := s.fl.consist.heard (joinHL (b.getD 0 0) (b.getD 1 0)).toNat (b.getD 2 0) (joinHL (b.getD 3 0) (b.getD 4 0)).toNat
    (joinHL (b.getD 5 0) (b.getD 6 0)).toNat (s.consistChanged b)
  { s with fl := { s.fl with consist := heard } }

/-- A CONSIST of seven scores from a backbone lane: a changed one is an event of the topology. -/
def State.hearConsist (s : State) (b : List Score) : State :=
  if s.consistChanged b then ((s.keepConsist b).raise .consist (joinHL (b.getD 0 0) (b.getD 1 0)).toNat 0).topology else s.keepConsist b

/-- What CONSIST_RECEIVE does to a running die. -/
def State.receiveConsist (s : State) (src : RxFrom) : State :=
  match s.takePacket src 15 with
  | (s, none) => s
  | (s, some body) => if body.length = 7 ∧ (s.portOf src).lowest ≥ 128 then s.hearConsist body else s

theorem State.receiveConsist_of_take {s : State} {src : RxFrom} {b : List Score} (htake : (s.takePacket src 15).2 = some b) (hb : b.length = 7)
    (hport : ((s.takePacket src 15).1.portOf src).lowest ≥ 128) : s.receiveConsist src = (s.takePacket src 15).1.hearConsist b := by
  unfold State.receiveConsist
  generalize s.takePacket src 15 = taken at *
  obtain ⟨y, o⟩ := taken
  obtain rfl : o = some b := htake
  exact if_pos ⟨hb, hport⟩

theorem execConsistReceive_eq (t : Nat) (src : RxFrom) (s : State) :
    execConsistReceive t src s = s.run t fun s => s.receiveConsist src := by
  unfold execConsistReceive State.receiveConsist State.hearConsist State.keepConsist Consist.heard State.consistChanged
  rfl

theorem State.fl_hearConsist (s : State) (b : List Score) : (s.hearConsist b).fl = (s.keepConsist b).fl := by
  unfold State.hearConsist
  split
  · rw [(State.topology_frame2 _).2.2.2.2.2.2.1, State.raise_fl]
  · rfl

theorem State.hearConsist_untouched (s : State) (b : List Score) : Untouched [.link, .shepherd, .fields, .events] s (s.hearConsist b) := by
  intro g hg
  unfold State.hearConsist State.keepConsist
  split <;> cases g <;> simp [Group.same] at hg ⊢

theorem State.setLink_untouched (s : State) (l : Nat) (x : Link) : Untouched [.link] s (s.setLink l x) := by
  intro g hg
  cases g <;> simp [Group.same] at hg ⊢

/-- The link without the oldest packet that its receiver holds. -/
def State.dropArrived (s : State) (l : Lane) (r : List RxPacket) : State :=
  s.setLink (s.linkOf l).1 { s.link (s.linkOf l).1 with arrived := r }

theorem State.dropArrived_frame (s : State) (l : Lane) (r : List RxPacket) :
    (s.dropArrived l r).regs = s.regs ∧ (s.dropArrived l r).fl.consist = s.fl.consist := ⟨rfl, rfl⟩

theorem State.keepConsist_consist (s : State) (b : List Score) :
    (s.keepConsist b).fl.consist.have_ = true
      ∧ (s.keepConsist b).fl.consist.counter = (joinHL (b.getD 0 0) (b.getD 1 0)).toNat
      ∧ (s.keepConsist b).fl.consist.position = b.getD 2 0 ∧ (s.keepConsist b).fl.consist.inEffect = s.fl.consist.inEffect :=
  s.fl.consist.heard_spec _ _ _ _ _

/-- A CONSIST that the receiver of a backbone lane holds is heard. -/
theorem State.receiveConsist_of_holds {s : State} {l : Lane} {b : List Score} {z : Nat} {r : List RxPacket}
    (h : s.holds l 15 b z r) (hb : b.length = 7) (hl : 128 ≤ (s.linkOf l).1) :
    s.receiveConsist (.link l) = (s.dropArrived l r).hearConsist b := by
  have htake := State.takePacket_of_holds h
  have hport : ((s.dropArrived l r).portOf (.link l)).lowest = (s.linkOf l).1 := by
    rw [State.portOf, State.linkOf_congr (s.dropArrived_frame l r).1]
    rfl
  rw [← State.dropArrived] at htake
  rw [State.receiveConsist_of_take (b := b) (by rw [htake]) hb (by rw [htake, hport]; exact hl), htake]

theorem consistReceive_yields (t : Nat) (l : Lane) (b : List Score) (z : Nat) (r : List RxPacket) (s : State) (hr : s.phase = .ready)
    (hh : s.holds l 15 b z r) (hb : b.length = 7) (hl : 128 ≤ (s.linkOf l).1) :
    Yields (.consistReceive t (.link l)) s fun x => x.fl.consist.have_ = true ∧ x.fl.consist.counter = (joinHL (b.getD 0 0) (b.getD 1 0)).toNat
      ∧ x.fl.consist.position = b.getD 2 0 ∧ x.fl.consist.inEffect = s.fl.consist.inEffect
      ∧ Frame t [.link, .shepherd, .fields, .events] s x := by
  refine Yields.of_run (execConsistReceive t (.link l)) hr rfl (execConsistReceive_eq t (.link l) s) ?_
  rw [State.receiveConsist_of_holds (State.holds_clock t hh) hb (by rwa [State.linkOf_congr (State.clock_regs s t)])]
  have hlink : Untouched [.link] (s.clock t) ((s.clock t).dropArrived l r) := State.setLink_untouched _ _ _
  have hkept : ((s.clock t).dropArrived l r).fl.consist = s.fl.consist := ((s.clock t).dropArrived_frame l r).2
  generalize (s.clock t).dropArrived l r = y at *
  have hframe := Frame.of_untouched (hlink.mono.trans (y.hearConsist_untouched b))
  obtain ⟨hhave, hcounter, hposition, heffect⟩ := y.keepConsist_consist b
  rw [← y.fl_hearConsist b] at hhave hcounter hposition heffect
  generalize y.hearConsist b = x at *
  rw [State.keep_fl]
  exact ⟨hhave, hcounter, hposition, heffect.trans (congrArg _ hkept), hframe⟩

/-! ### A lease ends -/

/-- What the end of a lease does. -/
def State.leaseEnds (s : State) (u : Sub) (i : Nat) : State := ((s.endSub u).pruneDests).raise .subExpired i 0

theorem State.leaseEnds_untouched (s : State) (u : Sub) (i : Nat) : Untouched [.fields, .link, .events, .delivery] s (s.leaseEnds u i) :=
  ((State.endSub_untouched _ u).mono.trans (State.pruneDests_untouched _).mono).trans (State.raise_untouched _ _ _ _).mono

theorem State.inbox_leaseEnds (s : State) (u : Sub) (i : Nat) :
    ∃ z, (s.leaseEnds u i).ev.inbox = s.ev.inbox ++ [z] ∧ z.code = Ev.subExpired.code ∧ z.e10 = i % 2 ^ 20 := by
  obtain ⟨z, hz, hc, ha⟩ := (s.endSub u).pruneDests.inbox_raise .subExpired i 0
  exact ⟨z, by rw [State.leaseEnds, hz]; simp [State.pruneDests], hc, ha⟩

theorem State.fl_leaseEnds (s : State) (u : Sub) (i : Nat) :
    (s.leaseEnds u i).fl = { s.fl with subs := s.fl.subs.filter fun v => decide (v.idx ≠ u.idx) } := by
  rw [State.leaseEnds, State.raise_fl, (State.pruneDests_frame3 _).1, State.fl_endSub]

theorem subExpired_yields (t : Nat) (i : Fin 1024) (u : Sub) (e : Nat) (s : State) (hr : s.phase = .ready)
    (hu : s.fl.subs.find? (fun v => decide (v.idx = i.val)) = some u) (he : u.expires = some e) (hle : e ≤ max s.now t) :
    Yields (.subExpired t i) s fun x => (∀ v ∈ x.fl.subs, v.idx ≠ i.val)
      ∧ (∃ z, x.ev.inbox = s.ev.inbox ++ [z] ∧ z.code = Ev.subExpired.code ∧ z.e10 = i.val) ∧ Frame t [.fields, .link, .events, .delivery] s x := by
  refine Yields.of_run (execSubExpired t i) hr rfl rfl ?_
  have hidx : u.idx = i.val := by simpa using List.find?_some hu
  simp only [State.clock_fl, State.clock_now, hu, he, hle, if_true]
  rw [← State.leaseEnds]
  have hframe := Frame.of_untouched ((s.clock t).leaseEnds_untouched u i)
  obtain ⟨z, hz, hc, ha⟩ := (s.clock t).inbox_leaseEnds u i
  have hfl := (s.clock t).fl_leaseEnds u i
  generalize (s.clock t).leaseEnds u i = x at *
  refine ⟨fun v hv => ?_, ⟨z, hz, hc, ha.trans (Nat.mod_eq_of_lt (by omega))⟩, hframe⟩
  rw [State.keep_fl, hfl, List.mem_filter, decide_eq_true_eq] at hv
  exact hidx ▸ hv.2

end Sys2Proof.Machine

namespace Sys2Proof
open Machine

/-- Settles O41: the partner's subscriptions end one by one (foldl_endSub_spec), and what follows a detachment leaves the two tables
(afterForget_fl); a CONSIST is taken from the link that holds it; a lease that ends takes its entry and makes one report. -/
theorem partnersLeaveAndConsistSpeaks : Obligations.PartnersLeaveAndConsistSpeaks := by
  unfold Obligations.PartnersLeaveAndConsistSpeaks
  exact ⟨detach_yields, consistReceive_yields, subExpired_yields⟩

end Sys2Proof
end

section
/-!
SUPPORT. How a command of the command interface is answered (R381, R384, R403, R404, R406): an opcode that is answered at once does its
own work, and then its reply leaves, is cached and counted, and the head of the queue is gone.
-/

namespace Sys2Proof.Machine

/-! ### Queues -/

theorem State.cmdsOf_congr {s x : State} (h : x.cm.queues = s.cm.queues) (k : CmdKey) : x.cmdsOf k = s.cmdsOf k := by
  simp only [State.cmdsOf, h]

/-- Every command that a queue of a source holds stands in one of the queues. -/
theorem State.mem_queue_of_mem_cmdsOf {s : State} {k : CmdKey} {c : Cmd} (h : c ∈ s.cmdsOf k) : ∃ q ∈ s.cm.queues, c ∈ q.cmds := by
  unfold State.cmdsOf at h
  split at h
  · next q hq => exact ⟨q, List.mem_of_find?_eq_some hq, h⟩
  · simp at h

theorem State.queues_setCmds_nil (s : State) (k : CmdKey) :
    (s.setCmds k []).cm.queues = s.cm.queues.filter fun q => decide (q.key ≠ k) := rfl

theorem State.cmdsOf_setCmds_nil (s : State) (k : CmdKey) : (s.setCmds k []).cmdsOf k = [] := by
  have hnone : (s.setCmds k []).cm.queues.find? (fun q => decide (q.key = k)) = none := by
    rw [State.queues_setCmds_nil, List.find?_eq_none]
    intro q hq
    simpa using (List.mem_filter.mp hq).2
  rw [State.cmdsOf, hnone]

/-- No command of any source waits or is on its way. -/
def State.Idle (s : State) : Prop := ∀ q ∈ s.cm.queues, ∀ d ∈ q.cmds, d.since = none ∧ d.posted = false

theorem State.Idle.of_mem_cmdsOf {s : State} (h : s.Idle) {k : CmdKey} {c : Cmd} (hc : c ∈ s.cmdsOf k) : c.since = none ∧ c.posted = false := by
  obtain ⟨q, hq, hcq⟩ := State.mem_queue_of_mem_cmdsOf hc
  exact h q hq c hcq

theorem State.Idle.of_subset {s x : State} (h : s.Idle) (hsub : x.cm.queues ⊆ s.cm.queues) : x.Idle := fun q hq => h q (hsub hq)

/-- The head of a queue that does not wait is not woken. -/
theorem State.Idle.wakeOne {s : State} (h : s.Idle) (k : CmdKey) : s.wakeOne k = s := by
  unfold State.wakeOne
  split
  · next c r hc =>
    obtain ⟨hsince, hposted⟩ := h.of_mem_cmdsOf (k := k) (c := c) (by simp [hc])
    simp [hsince, hposted]
  · rfl

theorem State.Idle.wake {s : State} (h : s.Idle) : s.wake = s := List.foldl_fixed' h.wakeOne _

/-! ### The reply -/

theorem State.sendReply_cm (s : State) (c : Cmd) (r : List Score) :
    (s.sendReply c r).cm = { s.cm with replies := (s.sendReply c r).cm.replies } := by
  unfold State.sendReply
  split <;> simp

theorem State.link_sendLink_same (s : State) (l kind : Nat) (body : List Score) :
    (s.sendLink l kind body).link l = if (s.link l).takes kind then (s.link l).push ⟨kind, body⟩ else s.link l := by
  unfold State.sendLink
  split <;> simp [State.link, State.setLink]

/-- The reply leaves on the port of arrival. -/
theorem State.replied_sendReply (s : State) (c : Cmd) (r : List Score) : s.replied (s.sendReply c r) c r := by
  unfold State.replied State.sendReply
  cases c.port with
  | svc => exact ⟨rfl, rfl⟩
  | link l => exact ⟨by simp, by simp, s.link_sendLink_same l 4 r⟩
  | udp l ip port => exact ⟨rfl, rfl⟩

/-- What of a state the reply to a command and its count rest on: `y` has it as `s` does. -/
structure State.Quiet (s y : State) : Prop where
  replies : y.cm.replies = s.cm.replies
  tx : y.tx = s.tx
  fl : y.fl = s.fl
  setA : y.regs.setA = s.regs.setA
  setB : y.regs.setB = s.regs.setB
  waiting : y.regs.waiting = s.regs.waiting
  stale : y.regs.stale = s.regs.stale
  active : y.h Reg.CF_STAT_ACTIVE = s.h Reg.CF_STAT_ACTIVE

theorem State.Quiet.refl (s : State) : s.Quiet s := ⟨rfl, rfl, rfl, rfl, rfl, rfl, rfl, rfl⟩

theorem State.Quiet.trans {s x y : State} (h : s.Quiet x) (h' : x.Quiet y) : s.Quiet y where
  replies := h'.replies.trans h.replies
  tx := h'.tx.trans h.tx
  fl := h'.fl.trans h.fl
  setA := h'.setA.trans h.setA
  setB := h'.setB.trans h.setB
  waiting := h'.waiting.trans h.waiting
  stale := h'.stale.trans h.stale
  active := h'.active.trans h.active

theorem State.Quiet.act {s y : State} (h : s.Quiet y) (a : Nat) : y.act a = s.act a := by
  have hb : y.activeB = s.activeB := congrArg (fun n => decide (n = 1)) h.active
  simp only [State.act, h.setA, h.setB, hb]

theorem State.Quiet.f {s y : State} (h : s.Quiet y) (g : Fld) : y.f g = s.f g := congrArg g.of (h.act g.addr)

theorem State.Quiet.use {s y : State} (h : s.Quiet y) (unit a : Nat) : y.use unit a = s.use unit a := by
  simp only [State.use, h.waiting, h.stale, h.act a]

theorem State.Quiet.fu {s y : State} (h : s.Quiet y) (unit : Nat) (g : Fld) : y.fu unit g = s.fu unit g := congrArg g.of (h.use unit g.addr)

theorem State.Quiet.link {s y : State} (h : s.Quiet y) (l : Nat) : y.link l = s.link l := by
  rw [State.link, State.link, h.fl]

theorem State.Quiet.ether {s y : State} (h : s.Quiet y) (l : Nat) : y.ether l = s.ether l := by
  rw [State.ether, State.ether, h.f, h.f, h.f, h.fu]

theorem State.Quiet.replied {s y x : State} (h : s.Quiet y) {c : Cmd} {r : List Score} (hy : y.replied x c r) : s.replied x c r := by
  unfold State.replied at hy ⊢
  cases hport : c.port with
  | svc => simpa only [hport, h.replies, h.tx] using hy
  | link l =>
    simp only [hport, h.replies, h.tx] at hy ⊢
    rwa [← h.link l]
  | udp l ip port => simpa only [hport, h.replies, h.tx, h.ether] using hy

theorem State.Quiet.linkOf {s y : State} (h : s.Quiet y) (l : Nat) : y.linkOf l = s.linkOf l := by
  simp only [State.linkOf, State.laneGroup, State.laneMode, h.fu]
  rfl

theorem State.Quiet.keyOf {s y : State} (h : s.Quiet y) (src : Source) : y.keyOf src = s.keyOf src := by
  cases src with
  | link l => simp only [State.keyOf, h.linkOf, h.link]
  | _ => rfl

/-! ### The counts -/

theorem State.h_countReply_ne (s : State) (c : Cmd) (status : Nat) (f : Fld) (hclass : f.key ≠ (classCount c.cls).key)
    (hrefuse : f.key ≠ Reg.CM_REFUSE_COUNT.key) (hdenied : f.key ≠ Reg.CM_DENIED_COUNT.key) (hop : f.key ≠ Reg.CM_LAST_OPCODE.key)
    (hstatus : f.key ≠ Reg.CM_LAST_STATUS.key) (hlast : f.key ≠ Reg.CM_LAST_CLASS.key) : (s.countReply c status).h f = s.h f := by
  unfold State.countReply
  split
  · exact State.h_inc_ne _ _ _ hclass
  · dsimp only
    rw [State.h_setH_ne _ _ _ _ hlast, State.h_setH_ne _ _ _ _ hstatus, State.h_setH_ne _ _ _ _ hop]
    split
    · rw [State.h_inc_ne _ _ _ hdenied, State.h_inc_ne _ _ _ hrefuse]
    · exact State.h_inc_ne _ _ _ hrefuse

theorem State.h_countReply_ok (s : State) (c : Cmd) :
    (s.countReply c 0).h (classCount c.cls) = min (s.h (classCount c.cls) + 1) (classCount c.cls).top :=
  State.h_inc_same _ _

theorem State.h_countReply_refused (s : State) (c : Cmd) {status : Nat} (h : status ≠ 0) :
    (s.countReply c status).h Reg.CM_REFUSE_COUNT = min (s.h Reg.CM_REFUSE_COUNT + 1) Reg.CM_REFUSE_COUNT.top := by
  unfold State.countReply
  rw [if_neg h]
  dsimp only
  rw [State.h_setH_ne _ _ _ _ (by decide), State.h_setH_ne _ _ _ _ (by decide), State.h_setH_ne _ _ _ _ (by decide)]
  split
  · rw [State.h_inc_ne _ _ _ (by decide), State.h_inc_same]
  · exact State.h_inc_same _ _

theorem classCount_cases (cls : Nat) :
    classCount cls ∈ [Reg.CM_CNT_MAINT_COUNT, Reg.CM_CNT_PEER_COUNT, Reg.CM_CNT_BACKBONE_COUNT, Reg.CM_CNT_HEAD_COUNT] := by
  unfold classCount
  split <;> simp

theorem classCount_ne_active (cls : Nat) : Reg.CF_STAT_ACTIVE.key ≠ (classCount cls).key := by
  have h : ∀ f ∈ [Reg.CM_CNT_MAINT_COUNT, Reg.CM_CNT_PEER_COUNT, Reg.CM_CNT_BACKBONE_COUNT, Reg.CM_CNT_HEAD_COUNT],
      Reg.CF_STAT_ACTIVE.key ≠ f.key := by decide
  exact h _ (classCount_cases cls)

/-! ### The answer -/

theorem State.countReply_quiet (s : State) (c : Cmd) (status : Nat) : s.Quiet (s.countReply c status) where
  replies := by simp
  tx := by simp
  fl := by simp
  setA := by simp
  setB := by simp
  waiting := by simp
  stale := by simp
  active := s.h_countReply_ne c status _ (classCount_ne_active _) (by decide) (by decide) (by decide) (by decide) (by decide)

theorem State.setCmds_quiet (s : State) (k : CmdKey) (l : List Cmd) : s.Quiet (s.setCmds k l) :=
  ⟨rfl, rfl, rfl, rfl, rfl, rfl, rfl, rfl⟩

/-- The reply leaves, and stands first in the cache of its source. -/
theorem State.cachedReply_cm (s : State) (k : CmdKey) (c : Cmd) (a : Answer) :
    (s.cachedReply k c a).cm.queues = s.cm.queues ∧ (s.cachedReply k c a).cm.session = s.cm.session
      ∧ (s.cachedReply k c a).cm.nonce = s.cm.nonce ∧ ((s.cachedReply k c a).cacheOf k).head? = some ⟨c.tag, c.scores, c.reply a, s.now⟩ := by
  unfold State.cachedReply State.cacheOf
  dsimp only
  rw [State.sendReply_cm]
  simp [State.setCache]

theorem State.replied_cachedReply (s : State) (k : CmdKey) (c : Cmd) (a : Answer) : s.replied (s.cachedReply k c a) c (c.reply a) :=
  State.Quiet.replied ⟨rfl, rfl, rfl, rfl, rfl, rfl, rfl, rfl⟩ (State.replied_sendReply (s.setCache k _) c (c.reply a))

theorem State.answer_cm (s : State) (k : CmdKey) (c : Cmd) (a : Answer) (h : s.cmdsOf k = [c]) :
    (s.answer k c a).cmdsOf k = [] ∧ (s.answer k c a).cm.queues ⊆ s.cm.queues ∧ (s.answer k c a).cm.session = s.cm.session
      ∧ (s.answer k c a).cm.nonce = s.cm.nonce ∧ ((s.answer k c a).cacheOf k).head? = some ⟨c.tag, c.scores, c.reply a, s.now⟩ := by
  have hcm : (s.countReply c a.status).cm = s.cm := by simp
  have hnow : (s.countReply c a.status).now = s.now := by simp
  unfold State.answer
  rw [h, List.drop_one, List.tail_cons]
  generalize s.countReply c a.status = y at *
  obtain ⟨hqueues, hsession, hnonce, hcache⟩ := (y.setCmds k []).cachedReply_cm k c a
  refine ⟨(State.cmdsOf_congr hqueues k).trans (y.cmdsOf_setCmds_nil k), ?_, hsession.trans (congrArg (·.session) hcm), hnonce.trans (congrArg (·.nonce) hcm),
    by rw [hcache, State.setCmds_frame y k [] |>.1, hnow]⟩
  rw [hqueues, State.queues_setCmds_nil, hcm]
  exact List.filter_subset_self _

theorem State.replied_answer (s : State) (k : CmdKey) (c : Cmd) (a : Answer) : s.replied (s.answer k c a) c (c.reply a) := by
  unfold State.answer
  have hq := s.countReply_quiet c a.status
  generalize s.countReply c a.status = y at *
  exact (hq.trans (y.setCmds_quiet k _)).replied (State.replied_cachedReply _ k c a)

theorem State.h_answer (s : State) (k : CmdKey) (c : Cmd) (a : Answer) (f : Fld) : (s.answer k c a).h f = (s.countReply c a.status).h f :=
  State.h_congr (by simp [State.answer]) f

theorem State.answer_untouched (s : State) (k : CmdKey) (c : Cmd) (a : Answer) :
    Untouched [.fields, .command, .tx, .link] s (s.answer k c a) := by
  intro g hg
  cases g <;> simp [Group.same] at hg ⊢

/-! ### An opcode that is answered at once -/

theorem State.finish_eq_answer (s : State) (k : CmdKey) (c : Cmd) (a : Answer) (h : s.cmdsOf k = [c]) : s.finish k c a = s.answer k c a := by
  have hnone := (s.answer_cm k c a h).1
  unfold State.finish
  dsimp only
  rw [hnone]
  rfl

/-- A command that may execute does its work and is answered; no other command goes on by it. -/
theorem State.simple_of_asks {s y : State} {src : Source} {op : Nat} {c : Cmd} {a : Answer} {f : State → Cmd → State × Answer}
    (h : s.asks src op c) (hf : f s c = (y, a)) (hqueues : y.cm.queues = s.cm.queues) :
    s.simple (s.keyOf src) op f = y.answer (s.keyOf src) c a := by
  obtain ⟨hcmds, hop, hmay, hfirst, hidle⟩ := h
  have hidle : s.Idle := hidle
  obtain ⟨hsince, hposted⟩ := hidle.of_mem_cmdsOf (k := s.keyOf src) (c := c) (by simp [hcmds])
  have hhead : s.headCmd (s.keyOf src) op = some c := by
    simp [State.headCmd, hcmds, hop, hsince, hposted, hmay]
  have hcmds' : y.cmdsOf (s.keyOf src) = [c] := (State.cmdsOf_congr hqueues _).trans hcmds
  have hsub := (y.answer_cm (s.keyOf src) c a hcmds').2.1
  rw [hqueues] at hsub
  unfold State.simple State.command
  simp only [hhead, hfirst, hf]
  rw [State.finish_eq_answer _ _ _ _ hcmds']
  exact (hidle.of_subset hsub).wake

/-- What a command of the interface that is answered at once leaves at instant `t`: `y` is the state that its own work leaves. -/
structure Answers (t : Nat) (s y x : State) (src : Source) (c : Cmd) (a : Answer) : Prop where
  answered : s.answered x src c a
  session : x.cm.session = y.cm.session
  nonce : x.cm.nonce = y.cm.nonce
  pw : x.pw = { y.pw with gate := s.pw.gate }
  now : x.now = max s.now t
  frame : ∀ l, Untouched l (s.clock t) y → [.fields, .command, .tx, .link] ⊆ l → Frame t l s x

theorem State.runCm_ready (s : State) (t : Nat) (f : State → State) (h : s.phase = .ready) :
    s.runCm t f = .next (s.keep t (f (s.clock t))) := by
  simp [State.runCm, State.runIf, State.portLive, h]

theorem State.clock_quiet (s : State) (t : Nat) : s.Quiet (s.clock t) := ⟨rfl, rfl, rfl, rfl, rfl, rfl, rfl, rfl⟩

/-- The work of an opcode that is answered at once leaves what its answer rests on: of the fields it writes at most PW_DEFER_CNT. -/
structure State.Calm (s y : State) : Prop where
  now : y.now = s.now
  queues : y.cm.queues = s.cm.queues
  quiet : s.Quiet y
  h : ∀ f : Fld, f.key ≠ Reg.PW_DEFER_CNT_COUNT.key → y.h f = s.h f

theorem State.Calm.trans {s x y : State} (h : s.Calm x) (h' : x.Calm y) : s.Calm y where
  now := h'.now.trans h.now
  queues := h'.queues.trans h.queues
  quiet := h.quiet.trans h'.quiet
  h := fun f hf => (h'.h f hf).trans (h.h f hf)

/-- Work that leaves the registers leaves every field. -/
theorem State.Calm.of_regs {s y : State} (hregs : y.regs = s.regs) (hnow : y.now = s.now) (hqueues : y.cm.queues = s.cm.queues)
    (hreplies : y.cm.replies = s.cm.replies) (htx : y.tx = s.tx) (hfl : y.fl = s.fl) : s.Calm y where
  now := hnow
  queues := hqueues
  quiet := ⟨hreplies, htx, hfl, by rw [hregs], by rw [hregs], by rw [hregs], by rw [hregs], State.h_congr hregs _⟩
  h := fun f _ => State.h_congr hregs f

theorem classCount_ne_defer (cls : Nat) : (classCount cls).key ≠ Reg.PW_DEFER_CNT_COUNT.key := by
  have h : ∀ f ∈ [Reg.CM_CNT_MAINT_COUNT, Reg.CM_CNT_PEER_COUNT, Reg.CM_CNT_BACKBONE_COUNT, Reg.CM_CNT_HEAD_COUNT],
      f.key ≠ Reg.PW_DEFER_CNT_COUNT.key := by decide
  exact h _ (classCount_cases cls)

theorem State.answered_answer {s y : State} (h : s.Calm y) {src : Source} {c : Cmd} (a : Answer) (hcmds : s.cmdsOf (s.keyOf src) = [c]) :
    s.answered (y.answer (s.keyOf src) c a) src c a := by
  obtain ⟨hgone, -, -, -, hcache⟩ := y.answer_cm (s.keyOf src) c a ((State.cmdsOf_congr h.queues _).trans hcmds)
  refine ⟨hgone, h.quiet.replied (y.replied_answer _ c a), by rw [hcache, (y.answer_frame _ c a).1], ?_⟩
  split
  · next hok => rw [State.h_answer, hok, State.h_countReply_ok, h.h _ (classCount_ne_defer _)]
  · next hno => rw [State.h_answer, State.h_countReply_refused _ _ hno, h.h _ (by decide)]

/-- What is said of the state at the instant of the command is said of the state before. -/
theorem State.answered_keep {s x : State} {t : Nat} {src : Source} {c : Cmd} {a : Answer} (h : (s.clock t).answered x src c a)
    (hnow : x.now = max s.now t) : s.answered (s.keep t x) src c a := by
  obtain ⟨hgone, hreply, hcache, hcount⟩ := h
  rw [(s.clock_quiet t).keyOf] at hgone hcache
  have hreply := (s.clock_quiet t).replied hreply
  exact ⟨hgone, hreply, hcache.trans (by rw [hnow]; rfl), hcount⟩

/-- A command of the interface that may execute and is answered at once yields what its own work and the answer leave. -/
theorem Yields.of_simple {i : Instr} {t op : Nat} {src : Source} {c : Cmd} {s y : State} {a : Answer} {f : State → Cmd → State × Answer}
    {P : State → Prop} (hexec : exec i s = s.runCm t fun s => s.simple (s.keyOf src) op f) (hr : s.phase = .ready)
    (hasks : (s.clock t).asks src op c) (hf : f (s.clock t) c = (y, a)) (hcalm : (s.clock t).Calm y)
    (h : ∀ x, Answers t s y x src c a → P x) : Yields i s P := by
  refine ⟨s.keep t (y.answer ((s.clock t).keyOf src) c a), ?_, h _ ?_⟩
  · rw [hexec, State.runCm_ready s t _ hr, State.simple_of_asks hasks hf hcalm.queues]
  · have hanswered := State.answered_answer hcalm a hasks.1
    obtain ⟨-, -, hsession, hnonce, -⟩ := y.answer_cm ((s.clock t).keyOf src) c a ((State.cmdsOf_congr hcalm.queues _).trans hasks.1)
    have hpw : (y.answer ((s.clock t).keyOf src) c a).pw = y.pw := by simp
    have hnow : (y.answer ((s.clock t).keyOf src) c a).now = max s.now t := by simpa using hcalm.now
    have hrest := y.answer_untouched ((s.clock t).keyOf src) c a
    generalize y.answer ((s.clock t).keyOf src) c a = x at *
    exact ⟨State.answered_keep hanswered hnow, hsession, hnonce, by rw [State.keep_pw, hpw], rfl,
      fun l hy hl => Frame.of_untouched (hy.trans (hrest.mono hl))⟩

end Sys2Proof.Machine
end

section
/-!
SUPPORT. Sessions, the nonce and failed attempts (R392 to R397).
-/

namespace Sys2Proof.Machine

theorem State.authBlocked_of_no_wait {s : State} (h : s.authWait = 0) : s.authBlocked = none := by
  simp [State.authBlocked, h]

/-! ### What the opcodes do of themselves -/

/-- Another nonce, or none. -/
def State.setNonce (s : State) (n : Option (Nat × Nat)) : State := { s with cm := { s.cm with nonce := n } }

theorem State.setNonce_calm (s : State) (n : Option (Nat × Nat)) : s.Calm (s.setNonce n) :=
  State.Calm.of_regs rfl rfl rfl rfl rfl rfl

theorem State.setNonce_untouched (s : State) (n : Option (Nat × Nat)) : Untouched [.command] s (s.setNonce n) := by
  intro g hg
  cases g <;> simp [Group.same, State.setNonce] at hg ⊢

theorem State.fresh_calm (s : State) : s.Calm s.fresh := State.Calm.of_regs rfl rfl rfl rfl rfl rfl

theorem State.fresh_untouched (s : State) : Untouched [.freeCtr] s s.fresh := by
  intro g hg
  cases g <;> simp [Group.same] at hg ⊢

/-- A session with nothing counted before: nothing is written to flash. -/
def State.sessionFrom (s : State) (how : Nat) : State :=
  { s with cm := { s.cm with session := some { how := how, ends := s.now + 3600 * lsbS } }, pw := { s.pw with fails := 0, waitUntil := none } }

theorem State.openSession_of_no_fails {s : State} (h : s.pw.fails = 0) (how : Nat) : s.openSession how = s.sessionFrom how := by
  simp [State.openSession, State.sessionFrom, h]

theorem State.sessionFrom_calm (s : State) (how : Nat) : s.Calm (s.sessionFrom how) :=
  State.Calm.of_regs rfl rfl rfl rfl rfl rfl

theorem State.sessionFrom_untouched (s : State) (how : Nat) : Untouched [.command, .power] s (s.sessionFrom how) := by
  intro g hg
  cases g <;> simp [Group.same, State.sessionFrom] at hg ⊢

/-- In a session that has just begun MAINT is open. -/
theorem State.maintOpen_of_session {s : State} {how : Nat} (h : s.cm.session = some ⟨how, s.now + 3600 * lsbS⟩) : s.maintOpen = true := by
  simp [State.maintOpen, State.sessionOpen, h, lsbS]

/-! ### A failed attempt -/

theorem State.setHalf_calm (s : State) (x : Settings) : s.Calm (s.setHalf x) :=
  State.Calm.of_regs (by simp) (by simp) (by simp) (by simp) (by simp) (by simp)

theorem State.setHalf_untouched (s : State) (x : Settings) : Untouched [.power] s (s.setHalf x) := by
  intro g hg
  cases g <;> simp [Group.same] at hg ⊢

/-- Settings that are written leave the count of failures and the wait. -/
theorem State.setHalf_attempts (s : State) (x : Settings) :
    (s.setHalf x).pw.fails = s.pw.fails ∧ (s.setHalf x).pw.waitUntil = s.pw.waitUntil := ⟨rfl, rfl⟩

/-- A write that waits for the flash. -/
def State.defer (s : State) (w : FlashWrite) : State := { s with pw := { s.pw with deferred := s.pw.deferred ++ [w] } }

/-- The device's own write of the count: it is performed, or waits, which may be counted. -/
theorem State.ownWrite_failures (s : State) (k : Nat) :
    s.ownWrite (.failures k) = s.setHalf { s.half with fails := k, seq := s.half.seq + 1 }
      ∨ s.ownWrite (.failures k) = s.defer (.failures k) ∨ s.ownWrite (.failures k) = (s.defer (.failures k)).inc Reg.PW_DEFER_CNT_COUNT := by
  unfold State.ownWrite
  split
  · exact .inl rfl
  · dsimp only
    split
    · exact .inr (.inl rfl)
    · exact .inr (.inr rfl)

theorem State.defer_calm (s : State) (w : FlashWrite) : s.Calm (s.defer w) := State.Calm.of_regs rfl rfl rfl rfl rfl rfl

theorem State.inc_defer_calm (s : State) : s.Calm (s.inc Reg.PW_DEFER_CNT_COUNT) where
  now := by simp
  queues := by simp
  quiet := ⟨by simp, by simp, by simp, by simp, by simp, by simp, by simp, State.h_inc_ne _ _ _ (by decide)⟩
  h := fun f hf => State.h_inc_ne _ _ _ hf

theorem State.ownWrite_failures_calm (s : State) (k : Nat) : s.Calm (s.ownWrite (.failures k)) := by
  obtain h | h | h := s.ownWrite_failures k <;> rw [h]
  · exact s.setHalf_calm _
  · exact s.defer_calm _
  · exact (s.defer_calm _).trans (State.inc_defer_calm _)

theorem State.ownWrite_failures_attempts (s : State) (k : Nat) :
    (s.ownWrite (.failures k)).pw.fails = s.pw.fails ∧ (s.ownWrite (.failures k)).pw.waitUntil = s.pw.waitUntil := by
  obtain h | h | h := s.ownWrite_failures k <;> rw [h]
  · exact s.setHalf_attempts _
  · exact ⟨rfl, rfl⟩
  · simp [State.defer]

/-- The count of failures goes up by one. -/
def State.countFail (s : State) : State := { s with pw := { s.pw with fails := s.pw.fails + 1 } }

/-- The wait that a failure starts, as the number of failures says. -/
def State.startWait (s : State) (k : Nat) : State :=
  { s with pw := { s.pw with waitUntil := some (s.now + min (60 * 2 ^ (min (k - 3) 6)) 3840 * lsbS) } }

theorem State.authFail_eq (s : State) :
    s.authFail = if s.pw.fails + 1 ≥ 3 then (s.countFail.startWait (s.pw.fails + 1)).ownWrite (.failures (s.pw.fails + 1)) else s.countFail := rfl

theorem State.authFail_calm (s : State) : s.Calm s.authFail := by
  have hcount : s.Calm s.countFail := State.Calm.of_regs rfl rfl rfl rfl rfl rfl
  have hwait : s.countFail.Calm (s.countFail.startWait (s.pw.fails + 1)) := State.Calm.of_regs rfl rfl rfl rfl rfl rfl
  rw [State.authFail_eq]
  split
  · exact (hcount.trans hwait).trans (State.ownWrite_failures_calm _ _)
  · exact hcount

theorem State.authFail_attempts (s : State) :
    s.authFail.pw.fails = s.pw.fails + 1 ∧ (s.pw.fails < 2 → s.authFail.pw.waitUntil = s.pw.waitUntil)
      ∧ (s.pw.fails = 2 → s.authFail.pw.waitUntil = some (s.now + 60 * lsbS)) := by
  rw [State.authFail_eq]
  split
  · next hthird =>
    rw [(State.ownWrite_failures_attempts _ _).1, (State.ownWrite_failures_attempts _ _).2]
    refine ⟨rfl, fun hfew => absurd hthird (by omega), fun htwo => ?_⟩
    rw [State.startWait, htwo]
    rfl
  · next hfew => exact ⟨rfl, fun _ => rfl, fun htwo => absurd (by omega) hfew⟩

theorem State.authFail_untouched (s : State) : Untouched [.fields, .power] s s.authFail := by
  intro g hg
  cases g <;> simp [Group.same] at hg ⊢

/-! ### Clauses -/

theorem challenge_yields (t : Nat) (src : Source) (c : Cmd) (s : State) (hr : s.phase = .ready) (hasks : (s.clock t).asks src 0x40 c)
    (hwait : (s.clock t).authWait = 0) :
    Yields (.challenge t src) s fun x => x.cm.nonce = some ((Config.nonce s.freeCtr).toNat, max s.now t + 60 * lsbS)
      ∧ s.answered x src c { status := 0, results := splitScores 13 (Config.nonce s.freeCtr).toNat }
      ∧ Frame t [.freeCtr, .fields, .command, .tx, .link] s x := by
  have hf : (s.clock t).challenge = (((s.clock t).setNonce (some ((Config.nonce s.freeCtr).toNat, max s.now t + 60 * lsbS))).fresh,
      { status := 0, results := splitScores 13 (Config.nonce s.freeCtr).toNat }) := by
    simp only [State.challenge, State.authBlocked_of_no_wait hwait]
    rfl
  have hcalm := (State.setNonce_calm (s.clock t) (some ((Config.nonce s.freeCtr).toNat, max s.now t + 60 * lsbS))).trans
    (State.fresh_calm _)
  refine Yields.of_simple (f := fun s _ => s.challenge) rfl hr hasks hf hcalm fun x hx => ?_
  exact ⟨hx.nonce, hx.answered, hx.frame _ ((State.setNonce_untouched _ _).mono.trans (State.fresh_untouched _).mono) (by simp)⟩

/-- A RESPOND within the nonce's time, before its code is compared. -/
theorem State.respond_of_nonce {s : State} {n e : Nat} (hwait : s.authWait = 0) (hn : s.cm.nonce = some (n, e)) (he : s.now < e) (c : Cmd) :
    s.respond c = if joinScores (c.scores.drop 1) % 2 ^ 256 = respondMac s.pw.key n then ((s.setNonce none).openSession 1, { status := 0 })
      else ((s.setNonce none).authFail, { status := 0x0D }) := by
  have hvalid : s.validNonce = some n := by simp [State.validNonce, hn, he]
  simp only [State.respond, State.authBlocked_of_no_wait hwait, hvalid]
  rfl

theorem respond_right_yields (t : Nat) (src : Source) (c : Cmd) (n e : Nat) (s : State) (hr : s.phase = .ready) (hasks : (s.clock t).asks src 0x41 c)
    (hwait : (s.clock t).authWait = 0) (hn : s.cm.nonce = some (n, e)) (he : max s.now t < e)
    (hcode : joinScores (c.scores.drop 1) % 2 ^ 256 = respondMac s.pw.key n) (hfails : s.pw.fails = 0) :
    Yields (.respond t src) s fun x => x.cm.session = some ⟨1, max s.now t + 3600 * lsbS⟩ ∧ x.cm.nonce = none ∧ x.maintOpen = true
      ∧ s.answered x src c { status := 0 } ∧ Frame t [.fields, .command, .tx, .link, .power] s x := by
  have hf : (s.clock t).respond c = (((s.clock t).setNonce none).sessionFrom 1, { status := 0 }) := by
    rw [State.respond_of_nonce hwait hn he, State.clock_pw, if_pos hcode, State.openSession_of_no_fails (s := (s.clock t).setNonce none) hfails]
  have hcalm := ((s.clock t).setNonce_calm none).trans (State.sessionFrom_calm _ 1)
  refine Yields.of_simple rfl hr hasks hf hcalm fun x hx => ?_
  have hsession : x.cm.session = some ⟨1, max s.now t + 3600 * lsbS⟩ := hx.session
  exact ⟨hsession, hx.nonce, State.maintOpen_of_session (by rw [hx.now, hsession]), hx.answered,
    hx.frame _ ((State.setNonce_untouched _ _).mono.trans (State.sessionFrom_untouched _ _).mono) (by simp)⟩

theorem respond_wrong_yields (t : Nat) (src : Source) (c : Cmd) (n e : Nat) (s : State) (hr : s.phase = .ready) (hasks : (s.clock t).asks src 0x41 c)
    (hwait : (s.clock t).authWait = 0) (hn : s.cm.nonce = some (n, e)) (he : max s.now t < e)
    (hcode : joinScores (c.scores.drop 1) % 2 ^ 256 ≠ respondMac s.pw.key n) :
    Yields (.respond t src) s fun x => x.cm.session = s.cm.session ∧ x.cm.nonce = none ∧ x.pw.fails = s.pw.fails + 1
      ∧ s.answered x src c { status := 0x0D } ∧ (s.pw.fails < 2 → x.pw.waitUntil = s.pw.waitUntil)
      ∧ (s.pw.fails = 2 → x.pw.waitUntil = some (max s.now t + 60 * lsbS)) ∧ Frame t [.fields, .command, .tx, .link, .power] s x := by
  have hf : (s.clock t).respond c = (((s.clock t).setNonce none).authFail, { status := 0x0D }) := by
    rw [State.respond_of_nonce hwait hn he, State.clock_pw, if_neg hcode]
  have hcm : ((s.clock t).setNonce none).authFail.cm = { s.cm with nonce := none } := by simp [State.setNonce]
  obtain ⟨hfails, hfew, htwo⟩ := ((s.clock t).setNonce none).authFail_attempts
  have hfails : ((s.clock t).setNonce none).authFail.pw.fails = s.pw.fails + 1 := hfails
  have hcalm := ((s.clock t).setNonce_calm none).trans (State.authFail_calm _)
  have huntouched : Untouched [.fields, .command, .tx, .link, .power] (s.clock t) ((s.clock t).setNonce none).authFail :=
    (State.setNonce_untouched _ _).mono.trans (State.authFail_untouched _).mono
  generalize ((s.clock t).setNonce none).authFail = y at *
  refine Yields.of_simple rfl hr hasks hf hcalm fun x hx => ⟨?_, ?_, ?_, hx.answered, ?_, ?_, hx.frame _ huntouched (by simp)⟩
  · rw [hx.session, hcm]
  · rw [hx.nonce, hcm]
  · rw [hx.pw]; exact hfails
  · rw [hx.pw]; exact hfew
  · rw [hx.pw]; exact htwo

/-- A PASSWORD of a valid length where a password is stored. -/
theorem State.passwordCmd_of_stored {s : State} {c : Cmd} {p : Password} (hwait : s.authWait = 0) (hlength : c.passRefused false = none)
    (hp : s.half.password = some p) :
    s.passwordCmd c = if passwordDigest p.salt c.passBytes = p.digest then (s.openSession 2, { status := 0 }) else (s.authFail, { status := 0x0D }) := by
  simp only [State.passwordCmd, State.authBlocked_of_no_wait hwait, hlength, hp]

theorem password_right_yields (t : Nat) (src : Source) (c : Cmd) (p : Password) (s : State) (hr : s.phase = .ready)
    (hasks : (s.clock t).asks src 0x42 c) (hwait : (s.clock t).authWait = 0) (hlength : c.passRefused false = none)
    (hp : s.half.password = some p) (hdigest : passwordDigest p.salt c.passBytes = p.digest) (hfails : s.pw.fails = 0) :
    Yields (.password t src) s fun x => x.cm.session = some ⟨2, max s.now t + 3600 * lsbS⟩ ∧ x.maintOpen = true
      ∧ s.answered x src c { status := 0 } ∧ Frame t [.fields, .command, .tx, .link, .power] s x := by
  have hf : (s.clock t).passwordCmd c = ((s.clock t).sessionFrom 2, { status := 0 }) := by
    rw [State.passwordCmd_of_stored hwait hlength hp, if_pos hdigest, State.openSession_of_no_fails (s := s.clock t) hfails]
  refine Yields.of_simple rfl hr hasks hf (State.sessionFrom_calm _ 2) fun x hx => ?_
  have hsession : x.cm.session = some ⟨2, max s.now t + 3600 * lsbS⟩ := hx.session
  exact ⟨hsession, State.maintOpen_of_session (by rw [hx.now, hsession]), hx.answered,
    hx.frame _ (State.sessionFrom_untouched _ _).mono (by simp)⟩

theorem password_wrong_yields (t : Nat) (src : Source) (c : Cmd) (p : Password) (s : State) (hr : s.phase = .ready)
    (hasks : (s.clock t).asks src 0x42 c) (hwait : (s.clock t).authWait = 0) (hlength : c.passRefused false = none)
    (hp : s.half.password = some p) (hdigest : passwordDigest p.salt c.passBytes ≠ p.digest) :
    Yields (.password t src) s fun x => x.cm.session = s.cm.session ∧ x.pw.fails = s.pw.fails + 1
      ∧ s.answered x src c { status := 0x0D } ∧ Frame t [.fields, .command, .tx, .link, .power] s x := by
  have hf : (s.clock t).passwordCmd c = ((s.clock t).authFail, { status := 0x0D }) := by
    rw [State.passwordCmd_of_stored hwait hlength hp, if_neg hdigest]
  have hcm : (s.clock t).authFail.cm = s.cm := by simp
  have hfails : (s.clock t).authFail.pw.fails = s.pw.fails + 1 := (s.clock t).authFail_attempts.1
  have hcalm := (s.clock t).authFail_calm
  have huntouched := (s.clock t).authFail_untouched
  generalize (s.clock t).authFail = y at *
  refine Yields.of_simple rfl hr hasks hf hcalm fun x hx => ⟨by rw [hx.session, hcm], ?_, hx.answered, hx.frame _ huntouched.mono (by simp)⟩
  rw [hx.pw]
  exact hfails

end Sys2Proof.Machine
end

section
/-!
SUPPORT. What ends a session, and field lock (R392, R393, R394, R397, R477).
-/

namespace Sys2Proof.Machine

/-- Another session, or none. -/
def State.setSession (s : State) (x : Option Session) : State := { s with cm := { s.cm with session := x } }

theorem State.setSession_untouched (s : State) (x : Option Session) : Untouched [.command] s (s.setSession x) := by
  intro g hg
  cases g <;> simp [Group.same, State.setSession] at hg ⊢

/-- The field-lock fuse is blown. -/
def State.blowLock (s : State) : State := { s with pw := { s.pw with lockFuse := true } }

theorem State.blowLock_untouched (s : State) : Untouched [.power] s s.blowLock := by
  intro g hg
  cases g <;> simp [Group.same, State.blowLock] at hg ⊢

theorem close_yields (t : Nat) (src : Source) (c : Cmd) (s : State) (hr : s.phase = .ready) (hasks : (s.clock t).asks src 0x44 c) :
    Yields (.close t src) s fun x => x.cm.session = none ∧ s.answered x src c { status := 0 }
      ∧ Frame t [.fields, .command, .tx, .link] s x := by
  have hcalm : (s.clock t).Calm ((s.clock t).setSession none) := State.Calm.of_regs rfl rfl rfl rfl rfl rfl
  exact Yields.of_simple (f := fun s _ => (s.setSession none, { status := 0 })) rfl hr hasks rfl hcalm fun x hx =>
    ⟨hx.session, hx.answered, hx.frame _ (State.setSession_untouched _ _).mono (by simp)⟩

theorem lockField_yields (t : Nat) (src : Source) (c : Cmd) (s : State) (hr : s.phase = .ready) (hasks : (s.clock t).asks src 0x45 c)
    (hkey : c.p 0 = 0x0F1E1) :
    Yields (.lockField t src) s fun x => x.pw.lockFuse = true ∧ s.answered x src c { status := 0 }
      ∧ Frame t [.fields, .command, .tx, .link, .power] s x := by
  have hcalm : (s.clock t).Calm (s.clock t).blowLock := State.Calm.of_regs rfl rfl rfl rfl rfl rfl
  exact Yields.of_simple (f := fun s c => if c.p 0 = 0x0F1E1 then (s.blowLock, { status := 0 }) else (s, { status := 0x03 })) rfl hr hasks
    (if_pos hkey) hcalm fun x hx => ⟨by rw [hx.pw]; rfl, hx.answered, hx.frame _ (State.blowLock_untouched _).mono (by simp)⟩

theorem sessionExpiry_yields (t : Nat) (e : Session) (s : State) (hr : s.phase = .ready) (hs : s.cm.session = some e) (he : e.ends ≤ max s.now t) :
    Yields (.sessionExpiry t) s fun x => x.cm.session = none ∧ x.cm = { s.cm with session := none } ∧ Frame t [.command] s x := by
  refine Yields.of_run (execSessionExpiry t) hr rfl rfl ?_
  simp only [State.clock_cm, State.clock_now, hs, if_pos he]
  exact ⟨rfl, rfl, Frame.of_untouched ((s.clock t).setSession_untouched none)⟩

theorem nonceExpiry_yields (t n e : Nat) (s : State) (hr : s.phase = .ready) (hn : s.cm.nonce = some (n, e)) (he : e ≤ max s.now t) :
    Yields (.nonceExpiry t) s fun x => x.cm = { s.cm with nonce := none } ∧ Frame t [.command] s x := by
  refine Yields.of_run (execNonceExpiry t) hr rfl rfl ?_
  simp only [State.clock_cm, State.clock_now, hn, if_pos he]
  exact ⟨rfl, Frame.of_untouched ((s.clock t).setNonce_untouched none)⟩

/-- The wait that failures started is over. -/
def State.endWait (s : State) : State := { s with pw := { s.pw with waitUntil := none } }

theorem State.endWait_untouched (s : State) : Untouched [.power] s s.endWait := by
  intro g hg
  cases g <;> simp [Group.same, State.endWait] at hg ⊢

theorem authWaitExpiry_yields (t y : Nat) (s : State) (hw : s.pw.waitUntil = some y) (hy : y ≤ max s.now t) :
    Yields (.authWaitExpiry t) s fun x => x.pw = { s.pw with waitUntil := none } ∧ Frame t [.power] s x := by
  have hstep : exec (.authWaitExpiry t) s = .next (s.keep t (s.clock t).endWait) := by
    change execAuthWaitExpiry t s = _
    simp only [execAuthWaitExpiry, State.runIf, if_true, State.clock_pw, State.clock_now, hw, if_pos hy]
    rfl
  exact ⟨_, hstep, rfl, Frame.of_untouched (State.endWait_untouched _)⟩

/-- In reset nothing answers on JTAG. -/
theorem jtagAccess_in_reset_yields (t : Nat) (b : Bool) (s : State) (hr : s.phase = .powerOn ∨ s.phase = .inReset) :
    Yields (.jtagAccess t b) s fun x => Frame t [] s x := by
  have hoff : decide (s.phase ≠ .powerOn ∧ s.phase ≠ .inReset) = false := by
    obtain h | h := hr <;> simp [h]
  have hstep : exec (.jtagAccess t b) s = .next (s.keep t s) := by
    change execJtagAccess t b s = _
    rw [execJtagAccess, hoff]
    rfl
  exact ⟨_, hstep, Frame.of_untouched fun g _ => g.same_refl s⟩

theorem State.send_untouched (s : State) (x : Tx) : Untouched [.tx] s (s.send x) := by
  intro g hg
  cases g <;> simp [Group.same] at hg ⊢

theorem jtagAccess_yields (t : Nat) (b : Bool) (s : State) (hon : s.phase ≠ .powerOn) (hout : s.phase ≠ .inReset) :
    Yields (.jtagAccess t b) s fun x => x.tx = s.tx ++ [.jtag (!b || (s.clock t).maintOpen)] ∧ Frame t [.tx] s x := by
  have hlive : decide (s.phase ≠ .powerOn ∧ s.phase ≠ .inReset) = true := by simp [hon, hout]
  have hstep : exec (.jtagAccess t b) s = .next (s.keep t ((s.clock t).send (.jtag (!b || (s.clock t).maintOpen)))) := by
    change execJtagAccess t b s = _
    rw [execJtagAccess, hlive]
    rfl
  exact ⟨_, hstep, rfl, Frame.of_untouched (State.send_untouched _ _)⟩

end Sys2Proof.Machine
end

section
/-!
SUPPORT. The settings that are read back after they were written (R396, R453).
-/

namespace Sys2Proof.Machine

/-! ### A half that was just composed -/

theorem RecordContent.holds_record (c : RecordContent) (version : Nat) : (c.record version).holds = true := by
  simp [Record.holds, RecordContent.record, Record.bytes]

theorem Settings.half_valid (x : Settings) (f : RecordFormats) : (x.half f).valid = true := by
  have hholds : (x.half f).records.all Record.holds = true := by
    simp [Settings.half, RecordContent.holds_record]
  have hwhole : settingsParts.all (fun p => ((x.half f).find p).isSome) = true := by
    simp [settingsParts, Half.find, Settings.half, RecordContent.record, RecordContent.part]
  rw [Half.valid, hholds, hwhole]
  rfl

/-- A half that settings make holds these settings. -/
theorem Settings.settings_half (x : Settings) (f : RecordFormats) : (x.half f).settings = x := rfl

theorem Settings.seq_foldl_take (l : List RecordContent) (x : Settings) : (l.foldl Settings.take x).seq = x.seq := by
  induction l generalizing x with
  | nil => rfl
  | cons c r ih =>
    rw [List.foldl_cons, ih]
    cases c <;> rfl

theorem Half.seq_settings (h : Half) : h.settings.seq = h.seq := Settings.seq_foldl_take _ _

/-! ### Halves of one flash -/

theorem Halves.mem_readable {x : Halves} {i : Bool} {h : Half} : (i, h) ∈ x.readable ↔ x.at i = some h ∧ h.valid = true ∧ x.void ≠ some i := by
  unfold Halves.readable
  rw [List.mem_filterMap]
  constructor
  · rintro ⟨j, -, hj⟩
    split at hj
    · next h' hat =>
      split at hj
      · next hok =>
        obtain ⟨rfl, rfl⟩ := Prod.mk.inj (Option.some.inj hj)
        simpa [hat] using hok
      · cases hj
    · cases hj
  · rintro ⟨hat, hvalid, hvoid⟩
    exact ⟨i, by cases i <;> simp, by simp [hat, hvalid, hvoid]⟩

theorem Halves.at_put (x : Halves) (i j : Bool) (h : Option Half) : (x.put i h).at j = if j = i then h else x.at j := by
  cases i <;> cases j <;> rfl

theorem Halves.void_put (x : Halves) (i : Bool) (h : Option Half) : (x.put i h).void = if x.void = some i then none else x.void := by
  cases i <;> rfl

theorem Halves.mem_readable_put_self (x : Halves) (i : Bool) {h : Half} (hv : h.valid = true) : (i, h) ∈ (x.put i (some h)).readable := by
  rw [Halves.mem_readable, Halves.at_put, Halves.void_put]
  refine ⟨if_pos rfl, hv, ?_⟩
  split
  · simp
  · assumption

/-- What may be read after a half was written is that half, or was there to read before. -/
theorem Halves.of_mem_readable_put {x : Halves} {i : Bool} {h : Half} {z : Bool × Half} (hz : z ∈ (x.put i (some h)).readable) :
    z = (i, h) ∨ z ∈ x.readable := by
  obtain ⟨j, k⟩ := z
  obtain ⟨hat, hvalid, hvoid⟩ := Halves.mem_readable.mp hz
  rw [Halves.at_put] at hat
  rw [Halves.void_put] at hvoid
  by_cases hj : j = i
  · rw [if_pos hj] at hat
    exact .inl (by rw [hj, Option.some.inj hat])
  · rw [if_neg hj] at hat
    refine .inr (Halves.mem_readable.mpr ⟨hat, hvalid, fun hold => ?_⟩)
    rw [if_neg (by rw [hold]; simpa using hj)] at hvoid
    exact hvoid hold

/-! ### Both flashes -/

/-- The halves that may be read after a write: those of a flash that is used, with the new half. -/
theorem State.readableHalves_setHalf (s : State) (x : Settings) (b : Bool) :
    (s.setHalf x).readableHalves b = if s.flashBad b then []
      else ((if b then s.pw.setsB else s.pw.setsA).put s.saveTo (some (x.half s.pw.formats))).readable := by
  cases b with
  | false => cases hbad : s.pw.badA <;> simp [State.readableHalves, State.setHalf, State.putHalf, State.flashBad, hbad]
  | true => cases hbad : s.pw.badB <;> simp [State.readableHalves, State.setHalf, State.putHalf, State.flashBad, hbad]

theorem State.mem_readableHalves_setHalf_self (s : State) (x : Settings) {b : Bool} (hb : s.flashBad b = false) :
    (s.saveTo, x.half s.pw.formats) ∈ (s.setHalf x).readableHalves b := by
  rw [State.readableHalves_setHalf, hb]
  exact Halves.mem_readable_put_self _ _ (x.half_valid _)

theorem State.of_mem_readableHalves_setHalf {s : State} {x : Settings} {b : Bool} {z : Bool × Half} (hz : z ∈ (s.setHalf x).readableHalves b) :
    z = (s.saveTo, x.half s.pw.formats) ∨ z ∈ s.readableHalves b := by
  rw [State.readableHalves_setHalf] at hz
  cases hb : s.flashBad b with
  | true => simp [hb] at hz
  | false =>
    rw [hb] at hz
    have hread : s.readableHalves b = (if b then s.pw.setsB else s.pw.setsA).readable := if_neg (Bool.eq_false_iff.mp hb)
    exact hread ▸ Halves.of_mem_readable_put hz

/-- The half in use is one of highest number among those that may be read. -/
theorem State.currentHalf_eq_argmax (s : State) :
    s.currentHalf = List.argmax (fun z : Bool × Half => z.2.seq) (s.readableHalves false ++ s.readableHalves true) := by
  unfold State.currentHalf List.argmax
  congr 1
  funext x y
  cases x <;> rfl

theorem State.mem_readable_append {s : State} {z : Bool × Half} :
    z ∈ s.readableHalves false ++ s.readableHalves true ↔ ∃ b, z ∈ s.readableHalves b := by
  rw [List.mem_append, Bool.exists_bool]

/-- Where a half may be read, one is in use, and its number is not the lower one. -/
theorem State.exists_currentHalf {s : State} {b : Bool} {z : Bool × Half} (hz : z ∈ s.readableHalves b) :
    ∃ w, s.currentHalf = some w ∧ (∃ b', w ∈ s.readableHalves b') ∧ z.2.seq ≤ w.2.seq := by
  have hmem := State.mem_readable_append.mpr ⟨b, hz⟩
  cases hw : s.currentHalf with
  | none =>
    rw [State.currentHalf_eq_argmax, List.argmax_eq_none] at hw
    simp [hw] at hmem
  | some w =>
    rw [State.currentHalf_eq_argmax] at hw
    exact ⟨w, rfl, State.mem_readable_append.mp (List.argmax_mem hw), List.le_of_mem_argmax (f := fun z : Bool × Half => z.2.seq) hmem hw⟩

theorem State.storedHalf_of_currentHalf {s : State} {w : Bool × Half} (hw : s.currentHalf = some w) : s.storedHalf = w.2.settings := by
  simp [State.storedHalf, hw]

theorem State.seq_le_storedHalf {s : State} {b : Bool} {z : Bool × Half} (hz : z ∈ s.readableHalves b) : z.2.seq ≤ s.storedHalf.seq := by
  obtain ⟨w, hw, -, hle⟩ := State.exists_currentHalf hz
  rwa [State.storedHalf_of_currentHalf hw, Half.seq_settings]

/-- Settings of a higher number than those stored are read back, where a flash is used. -/
theorem State.half_setHalf {s : State} {x : Settings} {b : Bool} (hb : s.flashBad b = false) (hseq : s.storedHalf.seq < x.seq) :
    (s.setHalf x).half = x := by
  obtain ⟨w, hw, ⟨b', hmem⟩, hle⟩ := State.exists_currentHalf (s.mem_readableHalves_setHalf_self x hb)
  have hnew : w = (s.saveTo, x.half s.pw.formats) := by
    refine (State.of_mem_readableHalves_setHalf hmem).resolve_right fun hold => ?_
    have hlow := State.seq_le_storedHalf hold
    have hhigh : x.seq ≤ w.2.seq := hle
    omega
  calc (s.setHalf x).half = (s.setHalf x).storedHalf := rfl
    _ = w.2.settings := State.storedHalf_of_currentHalf hw
    _ = x := by rw [hnew, Settings.settings_half]

/-- The settings in use rest on what the always-on island and the flashes hold. -/
theorem State.half_congr {s x : State} (h : x.pw = { s.pw with gate := x.pw.gate }) : x.half = s.half := by
  unfold State.half State.storedHalf State.currentHalf State.readableHalves
  rw [h]

/-! ### SET_PASSWORD -/

/-- The password of a SET_PASSWORD: its digest with a fresh salt. -/
def State.newPassword (s : State) (c : Cmd) : Password :=
  ⟨Config.passwordSalt s.freeCtr, passwordDigest (Config.passwordSalt s.freeCtr) c.passBytes⟩

/-- The settings with the password of a SET_PASSWORD. -/
def State.withPassword (s : State) (c : Cmd) : Settings := { s.half with password := some (s.newPassword c), seq := s.half.seq + 1 }

theorem setPassword_yields (t : Nat) (src : Source) (c : Cmd) (s : State) (hr : s.phase = .ready) (hasks : (s.clock t).asks src 0x43 c)
    (hlength : c.passRefused true = none) (hsome : c.p 0 ≠ 0) (hflash : s.pw.badA = false ∨ s.pw.badB = false)
    (hseq : s.storedHalf.seq ≤ s.half.seq) :
    Yields (.setPassword t src) s fun x =>
      x.half.password = some ⟨Config.passwordSalt s.freeCtr, passwordDigest (Config.passwordSalt s.freeCtr) c.passBytes⟩ ∧ x.half.set = s.half.set
        ∧ s.answered x src c { status := 0 } ∧ Frame t [.freeCtr, .fields, .command, .tx, .link, .power] s x := by
  have hf : (s.clock t).setPasswordCmd c = (((s.clock t).setHalf ((s.clock t).withPassword c)).fresh, { status := 0 }) := by
    simp only [State.setPasswordCmd, hlength, if_neg hsome]
    rfl
  obtain ⟨b, hb⟩ : ∃ b, (s.clock t).flashBad b = false := hflash.elim (fun h => ⟨false, h⟩) fun h => ⟨true, h⟩
  have hhalf : ((s.clock t).setHalf ((s.clock t).withPassword c)).half = (s.clock t).withPassword c :=
    State.half_setHalf hb (Nat.lt_succ_of_le hseq)
  have hcalm := ((s.clock t).setHalf_calm ((s.clock t).withPassword c)).trans (State.fresh_calm _)
  have huntouched := (s.clock t).setHalf_untouched ((s.clock t).withPassword c)
  generalize (s.clock t).setHalf ((s.clock t).withPassword c) = y at *
  refine Yields.of_simple rfl hr hasks hf hcalm fun x hx => ?_
  have hx' : x.half = (s.clock t).withPassword c := (State.half_congr (by rw [hx.pw]; rfl)).trans hhalf
  exact ⟨by rw [hx']; rfl, by rw [hx']; rfl, hx.answered, hx.frame _ (huntouched.mono.trans (State.fresh_untouched y).mono) (by simp)⟩

end Sys2Proof.Machine

namespace Sys2Proof
open Machine

/-- Settles O56: a command that may execute does its own work and is answered (Yields.of_simple); what the work leaves is said per opcode, and the
settings that SET_PASSWORD writes have a higher number than those stored, so they are the ones read back (half_setHalf). -/
theorem sessionsOpenAndClose : Obligations.SessionsOpenAndClose := by
  unfold Obligations.SessionsOpenAndClose
  exact ⟨challenge_yields, respond_right_yields, respond_wrong_yields, password_right_yields, password_wrong_yields, setPassword_yields, close_yields,
    lockField_yields, sessionExpiry_yields, nonceExpiry_yields, authWaitExpiry_yields, jtagAccess_in_reset_yields, jtagAccess_yields⟩

end Sys2Proof
end

section
/-!
SUPPORT. Channels and tiles read back, and the RO and W1C fields that an operation leaves alone (OnlyFields).
-/

namespace Sys2Proof.Machine

/-! ### Channels and tiles -/

@[simp] theorem State.chan_setChan_same (s : State) (c : Nat) (x : ChanState) : (s.setChan c x).chan c = x := by
  simp [State.chan, State.setChan]

theorem State.chan_setChan_ne (s : State) {c d : Nat} (x : ChanState) (h : d ≠ c) : (s.setChan c x).chan d = s.chan d := by
  simp [State.chan, State.setChan, Tab.get_set_ne _ _ _ _ h]

@[simp] theorem State.tile_setTile_same (s : State) (k : Nat) (x : TileState) : (s.setTile k x).tile k = x := by
  simp [State.tile, State.setTile]

@[simp] theorem State.chan_setTile (s : State) (k : Nat) (x : TileState) (c : Nat) : (s.setTile k x).chan c = s.chan c := rfl

@[simp] theorem State.tile_setChan (s : State) (c : Nat) (x : ChanState) (k : Nat) : (s.setChan c x).tile k = s.tile k := rfl

theorem State.chan_congr {s x : State} (h : x.tl = s.tl) (c : Nat) : x.chan c = s.chan c := by
  rw [State.chan, State.chan, h]

theorem State.tile_congr {s x : State} (h : x.tl = s.tl) (k : Nat) : x.tile k = s.tile k := by
  rw [State.tile, State.tile, h]

@[simp] theorem State.h_setChan (s : State) (c : Nat) (x : ChanState) (f : Fld) : (s.setChan c x).h f = s.h f := rfl

@[simp] theorem State.h_setTile (s : State) (k : Nat) (x : TileState) (f : Fld) : (s.setTile k x).h f = s.h f := rfl

@[simp] theorem State.h_raise (s : State) (e : Ev) (a b : Nat) (f : Fld) : (s.raise e a b).h f = s.h f := rfl

/-! ### Parts of the state -/

theorem State.setChan_untouched (s : State) (c : Nat) (x : ChanState) : Untouched [.tiles] s (s.setChan c x) := by
  intro g hg
  cases g <;> simp [Group.same] at hg ⊢

theorem State.setTile_untouched (s : State) (k : Nat) (x : TileState) : Untouched [.tiles] s (s.setTile k x) := by
  intro g hg
  cases g <;> simp [Group.same] at hg ⊢

theorem State.flag_untouched (s : State) (f : Fld) (b : Bool) : Untouched [.fields] s (s.flag f b) := by
  intro g hg
  cases g <;> simp [Group.same] at hg ⊢

theorem State.inc_untouched (s : State) (f : Fld) : Untouched [.fields] s (s.inc f) := by
  intro g hg
  cases g <;> simp [Group.same] at hg ⊢

theorem State.clear_untouched (s : State) (l : List Fld) : Untouched [.fields] s (s.clear l) := by
  intro g hg
  cases g <;> simp [Group.same] at hg ⊢

/-! ### Fields -/

theorem OnlyFields.of_regs {l : List Fld} {s x : State} (h : x.regs = s.regs) : OnlyFields l s x :=
  fun f _ => State.h_congr h f

theorem OnlyFields.trans {l : List Fld} {s x y : State} (h : OnlyFields l s x) (h' : OnlyFields l x y) : OnlyFields l s y :=
  fun f hf => (h' f hf).trans (h f hf)

theorem OnlyFields.setH {l : List Fld} {f : Fld} (hf : f ∈ l) (s : State) (x : Nat) : OnlyFields l s (s.setH f x) :=
  fun g hg => s.h_setH_ne f g x fun he => hg (he ▸ List.mem_map_of_mem hf)

theorem OnlyFields.flag {l : List Fld} {f : Fld} (hf : f ∈ l) (s : State) (b : Bool) : OnlyFields l s (s.flag f b) :=
  fun g hg => s.h_flag_ne f g b fun he => hg (he ▸ List.mem_map_of_mem hf)

theorem OnlyFields.inc {l : List Fld} {f : Fld} (hf : f ∈ l) (s : State) : OnlyFields l s (s.inc f) :=
  fun g hg => s.h_inc_ne f g fun he => hg (he ▸ List.mem_map_of_mem hf)

end Sys2Proof.Machine
end

section
/-!
SUPPORT. The counters that the CNT_CLR commands clear (R83, R109, R139, R164, R187, R208, R238, R257, R271): no two of a list are one field.
-/

namespace Sys2Proof.Machine

theorem OnlyFields.clear (s : State) (l : List Fld) : OnlyFields l s (s.clear l) :=
  fun g hg => s.h_clear_of_not_mem l g fun _ hf he => hg (he ▸ List.mem_map_of_mem hf)

/-- A command that clears a list of counters, none of them listed twice. -/
theorem Yields.of_clear {c : Instr} {t : Nat} {l : List Fld} {s : State} (meaning : State → Host.Outcome State Fault Refusal)
    (hr : s.phase = .ready) (hc : exec c s = meaning s) (hm : meaning s = s.run t fun s => s.clear l) (hk : (l.map Fld.key).Nodup) :
    Yields c s (Clears t l s) :=
  Yields.of_run meaning hr hc hm
    ⟨fun f hf => (s.clock t).h_clear_of_mem l f hf hk, OnlyFields.clear (s.clock t) l, Frame.of_untouched (State.clear_untouched _ _)⟩

theorem tlCounters_nodup : ∀ k : Tile, (([Reg.TL_XTK_CNT_COUNT k, Reg.TL_GSW_SKIP_COUNT k]
    ++ (List.range 8).map fun i => Reg.TL_CH_OVR_CNT_COUNT (8 * k + i)).map Fld.key).Nodup := by decide +kernel

theorem teCounters_nodup : ∀ k : Tile, ([Reg.TE_ORDER_ERR_COUNT k, Reg.TE_OVF_CNT_COUNT k, Reg.TE_QDROP_CNT_COUNT k,
    Reg.TE_CAL_FAIL_CNT_COUNT k, Reg.TE_CAL_REUSE_CNT_COUNT k].map Fld.key).Nodup := by decide +kernel

end Sys2Proof.Machine

namespace Sys2Proof
open Machine

/-- Settles O6: a clear leaves in each listed counter what has arrived at it (h_clear_of_mem), as long as no two of the list are one field;
that is read off the addresses, for the tiles as for the blocks. -/
theorem countersCleared : Obligations.CountersCleared := by
  unfold Obligations.CountersCleared
  exact ⟨fun t k _ hr => Yields.of_clear (execTlCntClr t k) hr rfl rfl (tlCounters_nodup k),
    fun t k _ hr => Yields.of_clear (execTeCntClr t k) hr rfl rfl (teCounters_nodup k),
    fun t _ hr => Yields.of_clear (execSqCntClr t) hr rfl rfl (by decide +kernel),
    fun t _ hr => Yields.of_clear (execFdCntClr t) hr rfl rfl (by decide +kernel),
    fun t _ hr => Yields.of_clear (execExCntClr t) hr rfl rfl (by decide +kernel),
    fun t _ hr => Yields.of_clear (execSvCntClr t) hr rfl rfl (by decide +kernel),
    fun t _ hr => Yields.of_clear (execAxCntClr t) hr rfl rfl (by decide +kernel),
    fun t _ hr => Yields.of_clear (execAqCntClr t) hr rfl rfl (by decide +kernel),
    fun t _ hr => Yields.of_clear (execIlCntClr t) hr rfl rfl (by decide +kernel)⟩

end Sys2Proof
end

section
/-!
SUPPORT. Clamps, blanking and the crosstalk window of a tile (R67 to R71).
-/

namespace Sys2Proof.Machine

/-! ### The clamps of a channel -/

theorem State.ownClamps_congr {s x : State} (h : x.tl = s.tl) (c : Nat) : x.ownClamps c = s.ownClamps c := by
  rw [State.ownClamps, State.ownClamps, State.tile_congr h]

theorem State.clampOn_congr {s x : State} (h : x.tl = s.tl) (c : Nat) : x.clampOn c = s.clampOn c := by
  rw [State.clampOn, State.clampOn, State.ownClamps_congr h]

@[simp] theorem State.chan_mapClamps (s : State) (c : Nat) (f : ClampLog → ClampLog) (d : Nat) : (s.mapClamps c f).chan d = s.chan d := rfl

/-- A change of a channel's clamps that keeps whose they are is a change of each of them. -/
theorem State.ownClamps_mapClamps (s : State) (c : Nat) {f : ClampLog → ClampLog} (hf : ∀ l, (f l).chan = l.chan) :
    (s.mapClamps c f).ownClamps c = (s.ownClamps c).map f := by
  simp only [State.ownClamps, State.mapClamps, State.tile_setTile_same]
  induction (s.tile (c / 8)).clamps with
  | nil => rfl
  | cons l r ih => by_cases hl : l.chan = c <;> simp [hl, hf, ih]

theorem State.mapClamps_untouched (s : State) (c : Nat) (f : ClampLog → ClampLog) : Untouched [.tiles] s (s.mapClamps c f) :=
  State.setTile_untouched _ _ _

/-- A clamp that has not been released is released at an instant (R68). -/
def ClampLog.release (x : Nat) (l : ClampLog) : ClampLog := if l.released.isNone then { l with released := some x } else l

/-- The blanking of a released clamp ends at an instant, if it lasts (R69). -/
def ClampLog.endBlank (x : Nat) (l : ClampLog) : ClampLog :=
  if l.released.isSome && l.ended.isNone then { l with ended := some x } else l

@[simp] theorem ClampLog.release_chan (x : Nat) (l : ClampLog) : (l.release x).chan = l.chan := by
  unfold ClampLog.release
  split <;> rfl

theorem ClampLog.release_isSome (x : Nat) (l : ClampLog) : (l.release x).released.isSome = true := by
  cases hl : l.released <;> simp [ClampLog.release, hl]

theorem ClampLog.release_of_engaged (x : Nat) {l : ClampLog} (h : l.released = none) : l.release x = { l with released := some x } := by
  simp [ClampLog.release, h]

@[simp] theorem ClampLog.endBlank_chan (x : Nat) (l : ClampLog) : (l.endBlank x).chan = l.chan := by
  unfold ClampLog.endBlank
  split <;> rfl

@[simp] theorem ClampLog.endBlank_released (x : Nat) (l : ClampLog) : (l.endBlank x).released = l.released := by
  unfold ClampLog.endBlank
  split <;> rfl

theorem ClampLog.ended_of_endBlank (x : Nat) (l : ClampLog) (h : l.released.isSome = true) : (l.endBlank x).ended.isSome = true := by
  unfold ClampLog.endBlank
  cases hl : l.ended <;> simp [h, hl]

/-! ### Engagement -/

/-- The tile's crosstalk window counts where it opens (R71). -/
def State.countXtk (s : State) (k : Nat) : State := if (s.tile k).xtkOpen then s else s.inc (Reg.TL_XTK_CNT_COUNT k)

theorem State.countXtk_tl (s : State) (k : Nat) : (s.countXtk k).tl = s.tl := by
  unfold State.countXtk
  split <;> rfl

theorem State.h_countXtk (s : State) (k : Nat) : (s.countXtk k).h (Reg.TL_XTK_CNT_COUNT k)
    = if (s.tile k).xtkOpen then s.h (Reg.TL_XTK_CNT_COUNT k) else min (s.h (Reg.TL_XTK_CNT_COUNT k) + 1) (Reg.TL_XTK_CNT_COUNT k).top := by
  unfold State.countXtk
  split
  · rfl
  · exact State.h_inc_same _ _

theorem State.countXtk_only (s : State) (k : Nat) : OnlyFields [Reg.TL_XTK_CNT_COUNT k] s (s.countXtk k) := by
  unfold State.countXtk
  split
  · exact OnlyFields.of_regs rfl
  · exact OnlyFields.inc (by simp) s

theorem State.countXtk_untouched (s : State) (k : Nat) : Untouched [.fields] s (s.countXtk k) := by
  unfold State.countXtk
  split
  · exact Untouched.refl _ s
  · exact s.inc_untouched _

/-- A tile with a channel's clamp engaged anew, as CLAMP_ENGAGE leaves it (R67, R71). -/
def TileState.engage (tl : TileState) (c now : Nat) : TileState :=
  { tl with
    xtkOpen := true
    clamps := (tl.clamps.filter fun l => match l.released, l.ended with
      | some r, some e => decide (now < max r e + 1638400)
      | _, _ => true) ++ [⟨c, now, none, none⟩]
    xtkLog := if tl.xtkOpen then tl.xtkLog else recentSpans now tl.xtkLog ++ [(now, none)] }

theorem execClampEngage_eq (t : Nat) (c : Chan) (s : State) : execClampEngage t c s
    = s.run t fun s => (s.countXtk (c / 8)).setTile (c / 8) ((s.tile (c / 8)).engage c (s.countXtk (c / 8)).now) := rfl

theorem State.clampOn_setTile_engage (s : State) (tl : TileState) (c now : Nat) : (s.setTile (c / 8) (tl.engage c now)).clampOn c = true := by
  simp [State.clampOn, State.ownClamps, TileState.engage]

theorem clampEngage_yields (t : Nat) (c : Chan) (s : State) (hr : s.phase = .ready) : Yields (.clampEngage t c) s fun x =>
    x.clampOn c = true ∧ (x.tile (c / 8)).xtkOpen = true
      ∧ (x.h (Reg.TL_XTK_CNT_COUNT (c / 8)) = if (s.tile (c / 8)).xtkOpen then s.h (Reg.TL_XTK_CNT_COUNT (c / 8))
        else min (s.h (Reg.TL_XTK_CNT_COUNT (c / 8)) + 1) (Reg.TL_XTK_CNT_COUNT (c / 8)).top)
      ∧ (∀ d, x.chan d = s.chan d) ∧ OnlyFields [Reg.TL_XTK_CNT_COUNT (c / 8)] s x ∧ Frame t [.fields, .tiles] s x := by
  refine Yields.of_run (execClampEngage t c) hr rfl (execClampEngage_eq t c s) ?_
  let y := (s.clock t).countXtk (c / 8)
  let tl := ((s.clock t).tile (c / 8)).engage c y.now
  have hopen : ((y.setTile (c / 8) tl).tile (c / 8)).xtkOpen = true := by
    rw [State.tile_setTile_same]
    rfl
  exact ⟨State.clampOn_setTile_engage _ _ _ _, hopen, (s.clock t).h_countXtk _, fun d => State.chan_congr ((s.clock t).countXtk_tl _) d,
    (s.clock t).countXtk_only _, Frame.of_untouched (((s.clock t).countXtk_untouched _).mono.trans (y.setTile_untouched _ tl).mono)⟩

/-! ### Release and blanking -/

theorem execClampRelease_eq (t : Nat) (c : Chan) (s : State) : execClampRelease t c s = s.run t fun s => s.mapClamps c (ClampLog.release s.now) := rfl

theorem clampRelease_yields (t : Nat) (c : Chan) (s : State) (hr : s.phase = .ready)
    (hon : ∃ l, l ∈ s.ownClamps c ∧ l.released = none ∧ l.ended = none) : Yields (.clampRelease t c) s fun x =>
      x.clampOn c = false ∧ x.blankedAt c (max s.now t) = true ∧ (∀ d, x.chan d = s.chan d) ∧ Frame t [.tiles] s x := by
  refine Yields.of_run (execClampRelease t c) hr rfl (execClampRelease_eq t c s) ?_
  let y := (s.clock t).mapClamps c (ClampLog.release (max s.now t))
  have hown : y.ownClamps c = (s.ownClamps c).map (ClampLog.release (max s.now t)) :=
    (s.clock t).ownClamps_mapClamps c (ClampLog.release_chan _)
  refine ⟨?off, ?blanked, fun _ => rfl, Frame.of_untouched ((s.clock t).mapClamps_untouched c _)⟩
  case off =>
    change (y.ownClamps c).any _ = false
    rw [hown, List.any_map, List.any_eq_false]
    intro l _
    simpa using Option.isSome_iff_ne_none.mp (l.release_isSome _)
  case blanked =>
    obtain ⟨l, hl, hreleased, hended⟩ := hon
    change (y.ownClamps c).any _ = true
    rw [hown, List.any_map, List.any_eq_true]
    exact ⟨l, hl, by simp only [Function.comp_apply, ClampLog.release_of_engaged _ hreleased, hended, le_refl, decide_true, Bool.and_self]⟩

theorem State.endBlanking_eq (s : State) (c : Nat) : s.endBlanking c = s.mapClamps c (ClampLog.endBlank s.now) := rfl

theorem State.ownClamps_endBlanking (s : State) (c : Nat) : (s.endBlanking c).ownClamps c = (s.ownClamps c).map (ClampLog.endBlank s.now) :=
  s.ownClamps_mapClamps c (ClampLog.endBlank_chan _)

/-- Every released clamp of the channel has its blanking ended. -/
theorem State.ended_of_mem_endBlanking (s : State) (c : Nat) :
    ∀ l ∈ (s.endBlanking c).ownClamps c, l.released.isSome = true → l.ended.isSome = true := by
  intro l hl hreleased
  rw [State.ownClamps_endBlanking] at hl
  obtain ⟨z, -, rfl⟩ := List.mem_map.mp hl
  rw [ClampLog.endBlank_released] at hreleased
  exact z.ended_of_endBlank _ hreleased

theorem State.clampOn_endBlanking (s : State) (c : Nat) : (s.endBlanking c).clampOn c = s.clampOn c := by
  simp [State.clampOn, State.ownClamps_endBlanking, List.any_map, Function.comp_def]

theorem blankingEnd_yields (t : Nat) (c : Chan) (s : State) (hr : s.phase = .ready) : Yields (.blankingEnd t c) s fun x =>
    (∀ l ∈ x.ownClamps c, l.released.isSome = true → l.ended.isSome = true) ∧ x.clampOn c = s.clampOn c ∧ (∀ d, x.chan d = s.chan d)
      ∧ Frame t [.tiles] s x :=
  Yields.of_run (execBlankingEnd t c) hr rfl rfl
    ⟨(s.clock t).ended_of_mem_endBlanking c, (s.clock t).clampOn_endBlanking c, fun _ => rfl,
      Frame.of_untouched ((s.clock t).mapClamps_untouched c _)⟩

/-! ### Recovery -/

/-- The channel is marked as not recovered, and that is reported (R70). -/
def State.failRecovery (s : State) (c : Nat) : State :=
  ((s.setChan c { s.chan c with recovFail := true }).flag (Reg.TL_CH_STAT_RECOV_FAIL c) true).raise .rxRecovery c 0

theorem execRxRecovery_eq (t : Nat) (c : Chan) (s : State) : execRxRecovery t c s
    = s.run t fun s => if s.blankingLong c then (s.endBlanking c).failRecovery c else s := rfl

theorem State.failRecovery_untouched (s : State) (c : Nat) : Untouched [.fields, .tiles, .events] s (s.failRecovery c) :=
  ((s.setChan_untouched c _).mono.trans (State.flag_untouched _ _ _).mono).trans (State.raise_untouched _ _ _ _).mono

theorem State.failRecovery_only (s : State) (c : Nat) : OnlyFields [Reg.TL_CH_STAT_RECOV_FAIL c] s (s.failRecovery c) :=
  (OnlyFields.of_regs rfl).trans ((OnlyFields.flag (by simp) _ true).trans (OnlyFields.of_regs rfl))

theorem rxRecovery_yields (t : Nat) (c : Chan) (s : State) (hr : s.phase = .ready) (hlong : (s.clock t).blankingLong c = true) :
    Yields (.rxRecovery t c) s fun x =>
      (∀ l ∈ x.ownClamps c, l.released.isSome = true → l.ended.isSome = true) ∧ (x.chan c).recovFail = true ∧ x.h (Reg.TL_CH_STAT_RECOV_FAIL c) = 1
        ∧ (∃ r, x.ev.inbox = s.ev.inbox ++ [r] ∧ r.code = Ev.rxRecovery.code ∧ r.e10 = c.val) ∧ OnlyFields [Reg.TL_CH_STAT_RECOV_FAIL c] s x
        ∧ Frame t [.fields, .tiles, .events] s x := by
  refine Yields.of_run (execRxRecovery t c) hr rfl (execRxRecovery_eq t c s) ?_
  rw [if_pos hlong]
  let y := (s.clock t).endBlanking c
  have hcode : c.val % 2 ^ 20 = c.val := Nat.mod_eq_of_lt (c.isLt.trans (by decide))
  have hfail : ((y.failRecovery c).chan c).recovFail = true := by
    rw [show (y.failRecovery c).chan c = { y.chan c with recovFail := true } from y.chan_setChan_same c _]
  obtain ⟨r, hinbox, hr, harg⟩ := State.inbox_raise ((y.setChan c { y.chan c with recovFail := true }).flag (Reg.TL_CH_STAT_RECOV_FAIL c) true) .rxRecovery c 0
  exact ⟨(s.clock t).ended_of_mem_endBlanking c, hfail, State.h_flag_same _ _ _, ⟨r, hinbox, hr, harg.trans hcode⟩,
    (OnlyFields.of_regs rfl).trans (y.failRecovery_only c),
    Frame.of_untouched (((s.clock t).mapClamps_untouched c _).mono.trans (y.failRecovery_untouched c))⟩

/-! ### The crosstalk window -/

/-- 12 ns have passed since the clamp was released (R71). -/
def ClampLog.gone (now : Nat) (l : ClampLog) : Bool :=
  match l.released with
  | none => false
  | some r => decide (r + 1536 ≤ now)

theorem ClampLog.gone_of_released {now r : Nat} {l : ClampLog} (h : l.released = some r) (hle : r + 1536 ≤ now) : l.gone now = true := by
  simp [ClampLog.gone, h, hle]

/-- A tile with its crosstalk window closed (R71). -/
def TileState.closeXtk (tl : TileState) (now : Nat) : TileState :=
  { tl with xtkOpen := false, xtkLog := tl.xtkLog.map fun x => if x.2.isNone then (x.1, some now) else x }

theorem execXtkWindowClose_eq (t : Nat) (k : Tile) (s : State) : execXtkWindowClose t k s
    = s.run t fun s => if (s.tile k).clamps.all (ClampLog.gone s.now) then s.setTile k ((s.tile k).closeXtk s.now) else s := rfl

theorem xtkWindowClose_yields (t : Nat) (k : Tile) (s : State) (hr : s.phase = .ready)
    (hover : ∀ l ∈ (s.tile k).clamps, ∃ r, l.released = some r ∧ r + 1536 ≤ max s.now t) : Yields (.xtkWindowClose t k) s fun x =>
      (x.tile k).xtkOpen = false ∧ (∀ c, x.chan c = s.chan c) ∧ Frame t [.tiles] s x := by
  have hall : ((s.clock t).tile k).clamps.all (ClampLog.gone (s.clock t).now) = true := by
    rw [List.all_eq_true]
    intro l hl
    obtain ⟨r, hreleased, hlate⟩ := hover l hl
    exact ClampLog.gone_of_released hreleased hlate
  have hclosed : (((s.clock t).setTile k (((s.clock t).tile k).closeXtk (s.clock t).now)).tile k).xtkOpen = false := by
    rw [State.tile_setTile_same]
    rfl
  refine Yields.of_run (execXtkWindowClose t k) hr rfl (execXtkWindowClose_eq t k s) ?_
  rw [if_pos hall]
  exact ⟨hclosed, fun _ => rfl, Frame.of_untouched ((s.clock t).setTile_untouched k _)⟩

end Sys2Proof.Machine

namespace Sys2Proof
open Machine

/-- Settles O11: what CLAMP_RELEASE and the end of blanking do to a tile is a change of each clamp of the channel (ownClamps_mapClamps). -/
theorem clampAndBlanking : Obligations.ClampAndBlanking := by
  unfold Obligations.ClampAndBlanking
  exact ⟨clampEngage_yields, clampRelease_yields, blankingEnd_yields, rxRecovery_yields, xtkWindowClose_yields⟩

end Sys2Proof
end

section
/-!
SUPPORT. A return that crossed LT only, from its pulse to its entry (R63, R64, R66, R89, R97, R98).
-/

namespace Sys2Proof.Machine

/-- A clean channel: its window takes edges, no clamp lies in its tile, and the conversion is calibrated (R65, R68, R81, R90). -/
structure State.TakesEdges (s : State) (c : Nat) (cal : CalSet) : Prop where
  winOpen : (s.chan c).winOpen = true
  seeing : (s.chan c).blind = false
  recovered : (s.chan c).recovFail = false
  noClamps : (s.tile (c / 8)).clamps = []
  locked : s.tileLock (c / 8) = true
  calibrated : (s.chan c).calUsed = some cal
  valid : s.h (Reg.TE_CH_STAT_FAIL c) = 0
  unskewed : s.h (Reg.TE_TILE_STAT_SKEW (c / 8)) = 0

/-- The entry of a return with one LT rise and one LT fall, no HT pulse and no walk correction (R66, R89, R98, R101). -/
def State.ltEntry (s : State) (c : Nat) (cal : CalSet) (a b : Edge) : RawEntry :=
  { chan := c, shot := (s.chan c).shot
    lead := tileWrap (edgeAbs cal.ltRise a - 0 - s.teVal (Reg.TE_CH_OFS c) true)
    tag := totBand (tileWrap (edgeAbs cal.ltFall b - edgeAbs cal.ltRise a)).toNat 1 * 2 ^ 16 + s.gainNow c * 2 ^ 14 + 2 ^ 8 + (s.chan c).shot % 32
    readyAt := b.instant + 512 }

/-- One pulse of 400 ps or more is one return (R64). -/
theorem State.takePulses_single (s : State) (c : Nat) {a b : Edge} (hfirst : (s.chan c).lastFall = none) (hlong : a.instant + 52 ≤ b.instant) :
    s.takePulses c ⟨[⟨some a, some b⟩], []⟩ = s.takeReturn c ⟨some a, some b⟩ [] := by
  simp [State.takePulses, Pulse.long, hlong, hfirst, dropMerged, Pulse.soonAfter, mergeLt]

theorem State.walk_of_off {s : State} {c : Nat} (h : s.f (Reg.TE_CH_CFG_WALK c) = 0) (cls : Nat) (plain : Bool) (d : Int) : s.walk c cls plain d = 0 := by
  simp [State.walk, h]

@[simp] theorem State.teVal_setChan (s : State) (c : Nat) (x : ChanState) (a : Nat) (signed : Bool) :
    (s.setChan c x).teVal a signed = s.teVal a signed := rfl

@[simp] theorem State.gainNow_setChan (s : State) (c : Nat) (x : ChanState) (d : Nat) : (s.setChan c x).gainNow d = s.gainNow d := rfl

/-- Without a clamp in the tile nothing blanks, overdrives or crosses a return (R68, R69, R71). -/
theorem State.clampFree {s : State} {c : Nat} (h : (s.tile (c / 8)).clamps = []) :
    (∀ x, s.blankedAt c x = false) ∧ (∀ x y, s.clampIn c x y = none) ∧ ∀ l, s.crossed c l = false := by
  simp [State.blankedAt, State.clampIn, State.crossed, State.ownClamps, h]

theorem State.takeReturn_ltOnly {s : State} {c : Nat} {cal : CalSet} (hs : s.TakesEdges c cal) (hwalk : s.f (Reg.TE_CH_CFG_WALK c) = 0) (a b : Edge) :
    s.takeReturn c ⟨some a, some b⟩ [] = (s.setChan c { s.chan c with lastFall := some b.instant }).formed (s.ltEntry c cal a b) := by
  obtain ⟨hblank, hclamp, hcross⟩ := State.clampFree hs.noClamps
  obtain ⟨hopen, hseeing, hrecovered, -, hlocked, hcal, hvalid, hskew⟩ := hs
  have hoff (x : ChanState) (cls : Nat) (plain : Bool) (d : Int) : (s.setChan c x).walk c cls plain d = 0 :=
    State.walk_of_off (s := s.setChan c x) hwalk cls plain d
  unfold State.takeReturn
  simp [hblank, hclamp, hcross, hopen, hseeing, hrecovered, hlocked, hcal, hvalid, hskew, hoff, Pulse.fallAt, ampClass, State.ltEntry]

/-- A formed return waits for its shot's start reference. -/
def State.awaitRef (s : State) (r : RawEntry) : State := { s with tl := { s.tl with raw := s.tl.raw ++ [r] } }

theorem State.awaitRef_untouched (s : State) (r : RawEntry) : Untouched [.tiles] s (s.awaitRef r) := by
  intro g hg
  cases g <;> simp [Group.same, State.awaitRef] at hg ⊢

/-- Where the shot's start reference is not known yet, a formed return waits for it (R97). -/
theorem State.formed_waits {s : State} {r : RawEntry} {x : TeShot} (hshot : s.teShot r.shot = some x) (hffb : x.ffb = none) :
    s.formed r = s.awaitRef r := by
  simp [State.formed, State.awaitRef, hshot, hffb]

theorem State.TakesEdges.clock {s : State} {c : Nat} {cal : CalSet} (h : s.TakesEdges c cal) (t : Nat) : (s.clock t).TakesEdges c cal :=
  ⟨h.winOpen, h.seeing, h.recovered, h.noClamps, h.locked, h.calibrated, h.valid, h.unskewed⟩

theorem comparatorReturn_yields (t : Nat) (c : Chan) (a b : Edge) (cal : CalSet) (x0 : TeShot) (s : State) (hr : s.phase = .ready)
    (hs : s.TakesEdges c cal) (hfirst : (s.chan c).lastFall = none) (hwalk : s.f (Reg.TE_CH_CFG_WALK c) = 0)
    (hshot : s.teShot (s.chan c).shot = some x0) (hffb : x0.ffb = none) (hlong : a.instant + 52 ≤ b.instant) :
    Yields (.comparatorReturn t c ⟨[⟨some a, some b⟩], []⟩) s fun x =>
      x.tl.raw = s.tl.raw ++ [s.ltEntry c cal a b] ∧ Frame t [.tiles] s x := by
  let y := (s.clock t).setChan c { s.chan c with lastFall := some b.instant }
  have htake : (s.clock t).takePulses c ⟨[⟨some a, some b⟩], []⟩ = y.awaitRef (s.ltEntry c cal a b) := calc
    _ = (s.clock t).takeReturn c ⟨some a, some b⟩ [] := State.takePulses_single (s.clock t) c hfirst hlong
    _ = y.formed (s.ltEntry c cal a b) := State.takeReturn_ltOnly (hs.clock t) hwalk a b
    _ = _ := State.formed_waits (s := y) (x := x0) hshot hffb
  refine Yields.of_run (execComparatorReturn t c _) hr rfl rfl ?_
  rw [htake]
  exact ⟨rfl, Frame.of_untouched (((s.clock t).setChan_untouched c _).trans (y.awaitRef_untouched _))⟩

end Sys2Proof.Machine

namespace Sys2Proof
open Machine

/-- Settles O10: one pulse is one return (takePulses_single), its entry is the one that the statement writes out (takeReturn_ltOnly), and it
waits for its shot's reference (formed_waits). -/
theorem returnTakesEdges : Obligations.ReturnTakesEdges := by
  unfold Obligations.ReturnTakesEdges
  intro t c a b cal x0 s hr hopen hseeing hrecovered hfirst hclamps hlocked hcal hvalid hskew hwalk hshot hffb hlong
  exact comparatorReturn_yields t c a b cal x0 s hr ⟨hopen, hseeing, hrecovered, hclamps, hlocked, hcal, hvalid, hskew⟩ hfirst hwalk hshot hffb hlong

end Sys2Proof
end

section
/-!
SUPPORT. The baseline loop of a channel and its receive windows (R50 to R52, R58, R65, R81, R90, R92, R102, R126, R469).
-/

namespace Sys2Proof.Machine

/-! ### The baseline loop -/

/-- The cancelled current of a channel stands at the limit of its range, which is reported where it did not before (R51). -/
def State.reachDcLimit (s : State) (c : Nat) : State :=
  ((if (s.chan c).atLimit then s else s.raise .rxDcLimit c 0).setChan c { s.chan c with atLimit := true }).flag (Reg.TL_CH_STAT_DC_LIMIT c) true

/-- The baseline loop cancels a current, up to the limit of the range in use (R50, R51). -/
def State.cancelDc (s : State) (c n : Nat) : State :=
  if n ≥ dcLimit (s.gainNow c) then (s.setH (Reg.TL_CH_BASE_DC c) (min n (dcLimit (s.gainNow c)))).reachDcLimit c
  else (s.setH (Reg.TL_CH_BASE_DC c) (min n (dcLimit (s.gainNow c)))).setChan c { s.chan c with atLimit := false }

theorem execBaselineUpdate_eq (t : Nat) (c : Chan) (n : Nat) (s : State) : execBaselineUpdate t c n s = s.run t fun s =>
    if s.chanOn c && s.fu c (Reg.TL_CH_CFG_BL_EN c) == 1 && !(s.chan c).winOpen && !(s.chan c).frozen && !s.calibrating (c / 8) then s.cancelDc c n
    else s := rfl

theorem chBase_ne_dcLimit (c : Nat) : (Reg.TL_CH_BASE_DC c).key ≠ (Reg.TL_CH_STAT_DC_LIMIT c).key := by
  simp only [Fld.key, Reg.TL_CH_BASE_DC, Reg.TL_CH_STAT_DC_LIMIT, Reg.TL_CH_BASE, Reg.TL_CH_STAT]
  omega

theorem State.reachDcLimit_untouched (s : State) (c : Nat) : Untouched [.fields, .tiles, .events] s (s.reachDcLimit c) := by
  have hraise : Untouched [.events] s (if (s.chan c).atLimit then s else s.raise .rxDcLimit c 0) := by
    split
    · exact Untouched.refl _ s
    · exact s.raise_untouched _ _ _
  exact (hraise.mono.trans (State.setChan_untouched _ c _).mono).trans (State.flag_untouched _ _ _).mono

theorem State.h_raiseIf (s : State) (b : Bool) (e : Ev) (x y : Nat) (f : Fld) : (if b then s else s.raise e x y).h f = s.h f := by
  cases b <;> rfl

theorem State.h_reachDcLimit_ne (s : State) (c : Nat) {f : Fld} (hf : f.key ≠ (Reg.TL_CH_STAT_DC_LIMIT c).key) : (s.reachDcLimit c).h f = s.h f := by
  rw [State.reachDcLimit, State.h_flag_ne _ _ _ _ hf, State.h_setChan, State.h_raiseIf]

theorem State.h_cancelDc_base (s : State) (c n : Nat) :
    (s.cancelDc c n).h (Reg.TL_CH_BASE_DC c) = min (min n (dcLimit (s.gainNow c))) (Reg.TL_CH_BASE_DC c).top := by
  unfold State.cancelDc
  split
  · rw [State.h_reachDcLimit_ne _ _ (chBase_ne_dcLimit c), State.h_setH_same]
  · rw [State.h_setChan, State.h_setH_same]

theorem State.h_cancelDc_limit (s : State) (c n : Nat) (hn : n ≥ dcLimit (s.gainNow c)) : (s.cancelDc c n).h (Reg.TL_CH_STAT_DC_LIMIT c) = 1 := by
  rw [State.cancelDc, if_pos hn]
  exact State.h_flag_same _ _ _

theorem State.cancelDc_only (s : State) (c n : Nat) : OnlyFields [Reg.TL_CH_BASE_DC c, Reg.TL_CH_STAT_DC_LIMIT c] s (s.cancelDc c n) := by
  have hset := OnlyFields.setH (l := [Reg.TL_CH_BASE_DC c, Reg.TL_CH_STAT_DC_LIMIT c]) (f := Reg.TL_CH_BASE_DC c) (by simp) s (min n (dcLimit (s.gainNow c)))
  unfold State.cancelDc
  split
  · exact hset.trans fun f hf => State.h_reachDcLimit_ne _ _ fun he => hf (by simp [he])
  · exact hset.trans (OnlyFields.of_regs rfl)

theorem State.cancelDc_untouched (s : State) (c n : Nat) : Untouched [.fields, .tiles, .events] s (s.cancelDc c n) := by
  have hset := s.setH_untouched (Reg.TL_CH_BASE_DC c) (min n (dcLimit (s.gainNow c)))
  unfold State.cancelDc
  split
  · exact hset.mono.trans (State.reachDcLimit_untouched _ c)
  · exact hset.mono.trans (State.setChan_untouched _ c _).mono

theorem baselineUpdate_yields (t : Nat) (c : Chan) (n : Nat) (s : State) (hr : s.phase = .ready) (hon : s.chanOn c = true)
    (hloop : s.fu c (Reg.TL_CH_CFG_BL_EN c) = 1) (hopen : (s.chan c).winOpen = false) (hfrozen : (s.chan c).frozen = false)
    (hcal : (s.clock t).calibrating (c / 8) = false) : Yields (.baselineUpdate t c n) s fun x =>
      x.h (Reg.TL_CH_BASE_DC c) = min (min n (dcLimit (s.gainNow c))) (Reg.TL_CH_BASE_DC c).top
        ∧ (n ≥ dcLimit (s.gainNow c) → x.h (Reg.TL_CH_STAT_DC_LIMIT c) = 1)
        ∧ OnlyFields [Reg.TL_CH_BASE_DC c, Reg.TL_CH_STAT_DC_LIMIT c] s x ∧ Frame t [.fields, .tiles, .events] s x := by
  have hruns : ((s.clock t).chanOn c && (s.clock t).fu c (Reg.TL_CH_CFG_BL_EN c) == 1 && !((s.clock t).chan c).winOpen
      && !((s.clock t).chan c).frozen && !(s.clock t).calibrating (c / 8)) = true := by
    have hon' : (s.clock t).chanOn c = true := hon
    have hloop' : (s.clock t).fu c (Reg.TL_CH_CFG_BL_EN c) = 1 := hloop
    have hchan : (s.clock t).chan c = s.chan c := rfl
    simp [hon', hloop', hchan, hopen, hfrozen, hcal]
  refine Yields.of_run (execBaselineUpdate t c n) hr rfl (execBaselineUpdate_eq t c n s) ?_
  rw [if_pos hruns]
  exact ⟨(s.clock t).h_cancelDc_base c n, (s.clock t).h_cancelDc_limit c n, (s.clock t).cancelDc_only c n,
    Frame.of_untouched ((s.clock t).cancelDc_untouched c n)⟩

/-! ### A window opens -/

/-- The range of the channel switched less than 20 ns before the window (R58). -/
def ChanState.skips (ch : ChanState) (w : ShotWin) : Bool :=
  match ch.switchedAt with
  | some x => decide (w.from_ < x + 2560)
  | none => false

/-- The window comes too soon after the last one for a calibration of its own (R92). -/
def ChanState.reuses (ch : ChanState) (w : ShotWin) : Bool :=
  match ch.lastClose with
  | some x => decide (w.from_ < x + 300)
  | none => false

/-- What a window that opens counts: a skip after a range switch, with the shot not counted in Fold, and a calibration used again (R58, R90, R92). -/
def State.countWindow (s : State) (c : Nat) (w : ShotWin) : State :=
  let ch := s.chan c
  let s := if ch.skips w then (s.inc (Reg.TL_GSW_SKIP_COUNT (c / 8))).fdUncount c w.seq else s
  let s := if ch.reuses w then s.inc (Reg.TE_CAL_REUSE_CNT_COUNT (c / 8)) else s
  if ch.reuses w && ch.calUsed.isNone then s.inc (Reg.TE_CAL_FAIL_CNT_COUNT (c / 8)) else s

/-- A channel with a window open for a shot. -/
def ChanState.opened (ch : ChanState) (now coarse : Nat) (w : ShotWin) (blind : Bool) : ChanState :=
  { ch with
    winOpen := true, openAt := w.from_, closeAt := w.to_, openCoarse := coarse % 16384, shot := w.seq, frozen := true
    wins := recentSpans now ch.wins ++ [(w.from_, none)], lastFall := none
    blind := blind }

theorem State.openWindow_eq (s : State) (c coarse : Nat) (w : ShotWin) : s.openWindow c coarse w =
    let y := s.countWindow c w
    (y.calOver (c / 8)).setChan c ((s.chan c).opened y.now coarse w (!y.chanOn c || !y.tileLock (c / 8) || (s.chan c).awaitCal || (s.chan c).skips w)) :=
  rfl

theorem State.fdUncount_untouched (s : State) (c seq : Nat) : Untouched [.fold] s (s.fdUncount c seq) := by
  intro g hg
  cases g <;> simp [Group.same] at hg ⊢

theorem State.calOver_untouched (s : State) (k : Nat) : Untouched [.thermal] s (s.calOver k) := by
  intro g hg
  cases g <;> simp [Group.same] at hg ⊢

theorem State.countWindow_untouched (s : State) (c : Nat) (w : ShotWin) : Untouched [.fields, .fold] s (s.countWindow c w) := by
  have hinc (b : Bool) (x : State) (f : Fld) : Untouched [.fields, .fold] x (if b then x.inc f else x) := by
    cases b
    · exact Untouched.refl _ x
    · exact (x.inc_untouched f).mono
  refine (Untouched.trans ?_ (hinc _ _ _)).trans (hinc _ _ _)
  split
  · exact (s.inc_untouched _).mono.trans (State.fdUncount_untouched _ _ _).mono
  · exact Untouched.refl _ s

theorem State.openWindow_untouched (s : State) (c coarse : Nat) (w : ShotWin) :
    Untouched [.fields, .tiles, .fold, .thermal] s (s.openWindow c coarse w) :=
  ((s.countWindow_untouched c w).mono.trans (State.calOver_untouched _ _).mono).trans (State.setChan_untouched _ c _).mono

/-- The channel of an opened window, and the others. -/
theorem State.chan_openWindow (s : State) (c coarse : Nat) (w : ShotWin) :
    (∃ now blind, (s.openWindow c coarse w).chan c = (s.chan c).opened now coarse w blind)
      ∧ ∀ d, d ≠ c → (s.openWindow c coarse w).chan d = s.chan d := by
  have htl : ((s.countWindow c w).calOver (c / 8)).tl = s.tl :=
    ((s.countWindow_untouched c w).mono.trans (l := [.fields, .fold, .thermal]) (State.calOver_untouched _ _).mono) .tiles (by simp)
  rw [State.openWindow_eq]
  exact ⟨⟨_, _, State.chan_setChan_same _ _ _⟩, fun d hd => (State.chan_setChan_ne _ _ hd).trans (State.chan_congr htl d)⟩

theorem windowOpen_yields (t : Nat) (c : Chan) (shot coarse : Nat) (w : ShotWin) (s : State) (hr : s.phase = .ready)
    (hdue : (s.clock t).dueWindow c shot = some w) (hopen : (s.chan c).winOpen = false) : Yields (.windowOpen t c shot coarse) s fun x =>
      (x.chan c).winOpen = true ∧ (x.chan c).openAt = w.from_ ∧ (x.chan c).closeAt = w.to_ ∧ (x.chan c).shot = w.seq ∧ (x.chan c).frozen = true
        ∧ (x.chan c).queue = (s.chan c).queue ∧ (∀ d, d ≠ c.val → x.chan d = s.chan d) ∧ Frame t [.fields, .tiles, .fold, .thermal] s x := by
  refine Yields.of_run (execWindowOpen t c shot coarse) hr rfl rfl ?_
  have hchan : (s.clock t).chan c = s.chan c := rfl
  simp only [hdue, hchan, hopen, Bool.false_eq_true, if_false]
  obtain ⟨⟨now, blind, hown⟩, hother⟩ := (s.clock t).chan_openWindow c coarse w
  have hown' : (s.keep t ((s.clock t).openWindow c coarse w)).chan c = (s.chan c).opened now coarse w blind := hown
  rw [hown']
  exact ⟨rfl, rfl, rfl, rfl, rfl, rfl, hother, Frame.of_untouched ((s.clock t).openWindow_untouched c coarse w)⟩

/-! ### A window closes -/

/-- Shepherd forgets a channel's window of a shot. -/
def State.forgetWindow (s : State) (c shot : Nat) : State :=
  { s with sq := { s.sq with windows := s.sq.windows.filter fun w => !(decide (w.pixel = c) && decide (w.seq = shot)) } }

/-- A channel whose window is over, with the close token of its shot behind its entries where the tile is in lock (R50, R81, R102). -/
def ChanState.closed (ch : ChanState) (lock : Bool) : ChanState :=
  { ch with
    winOpen := false, frozen := false, lastClose := some ch.closeAt
    wins := ch.wins.map fun x => if x.2.isNone then (x.1, some ch.closeAt) else x
    queue := if lock then ch.queue ++ [.token ch.shot] else ch.queue }

theorem execWindowClose_eq (t : Nat) (c : Chan) (s : State) : execWindowClose t c s = s.run t fun s =>
    if (s.chan c).winOpen ∧ (s.chan c).closeAt ≤ s.now then
      (s.forgetWindow c (s.chan c).shot).setChan c ((s.chan c).closed (s.tileLock (c / 8)))
    else s := rfl

theorem State.forgetWindow_untouched (s : State) (c shot : Nat) : Untouched [.shepherd] s (s.forgetWindow c shot) := by
  intro g hg
  cases g <;> simp [Group.same, State.forgetWindow] at hg ⊢

theorem windowClose_yields (t : Nat) (c : Chan) (s : State) (hr : s.phase = .ready) (hopen : (s.chan c).winOpen = true)
    (hdue : (s.chan c).closeAt ≤ max s.now t) : Yields (.windowClose t c) s fun x =>
      (x.chan c).winOpen = false ∧ (x.chan c).frozen = false
        ∧ (x.chan c).queue = (if s.tileLock (c / 8) then (s.chan c).queue ++ [.token (s.chan c).shot] else (s.chan c).queue)
        ∧ (∀ d, d ≠ c.val → x.chan d = s.chan d) ∧ Frame t [.tiles, .shepherd] s x := by
  refine Yields.of_run (execWindowClose t c) hr rfl (execWindowClose_eq t c s) ?_
  have hcloses : ((s.clock t).chan c).winOpen = true ∧ ((s.clock t).chan c).closeAt ≤ (s.clock t).now := ⟨hopen, hdue⟩
  rw [if_pos hcloses]
  let y := (s.clock t).forgetWindow c (s.chan c).shot
  have hown : (s.keep t (y.setChan c ((s.chan c).closed (s.tileLock (c / 8))))).chan c = (s.chan c).closed (s.tileLock (c / 8)) :=
    y.chan_setChan_same c _
  exact ⟨congrArg ChanState.winOpen hown, congrArg ChanState.frozen hown, congrArg ChanState.queue hown, fun d hd => y.chan_setChan_ne _ hd,
    Frame.of_untouched (((s.clock t).forgetWindow_untouched c _).mono.trans (y.setChan_untouched c _).mono)⟩

end Sys2Proof.Machine

namespace Sys2Proof
open Machine

/-- Settles O12: of what BASELINE_UPDATE does only TL_CH_BASE.DC and DC_LIMIT are fields (cancelDc_only); before a window opens, no tile's
state changes (chan_openWindow). -/
theorem baselineAndWindows : Obligations.BaselineAndWindows := by
  unfold Obligations.BaselineAndWindows
  exact ⟨baselineUpdate_yields, windowOpen_yields, windowClose_yields⟩

end Sys2Proof
end

section
/-!
SUPPORT. From the tile queues to Fold: the drain of a tile, shot descriptors and close tokens (R81, R102, R140, R142, R151, R154).
-/

namespace Sys2Proof.Machine

/-! ### The drain of a tile -/

/-- What the fold intake receives for the oldest item of a channel queue. -/
def QItem.toIntake (c : Nat) : QItem → Intake
  | .entry shot stamp tag _ => .analog c shot stamp tag
  | .token shot => .token c shot

/-- Channel `i` of a tile gives the head of its queue to the fold intake, and the turn goes on (R102). -/
def State.drainChan (s : State) (k i : Nat) (item : QItem) (q : List QItem) : State :=
  ((s.setTile k { s.tile k with rr := (i + 1) % 8 }).setChan (8 * k + i) { s.chan (8 * k + i) with queue := q }).intake (item.toIntake (8 * k + i))

theorem State.intake_untouched (s : State) (i : Intake) : Untouched [.fold] s (s.intake i) := by
  intro g hg
  cases g <;> simp [Group.same] at hg ⊢

theorem State.drainChan_untouched (s : State) (k i : Nat) (item : QItem) (q : List QItem) :
    Untouched [.tiles, .fold] s (s.drainChan k i item q) :=
  ((s.setTile_untouched k _).mono.trans (State.setChan_untouched _ _ _).mono).trans (State.intake_untouched _ _).mono

theorem State.chan_drainChan (s : State) (k i : Nat) (item : QItem) (q : List QItem) :
    (s.drainChan k i item q).chan (8 * k + i) = { s.chan (8 * k + i) with queue := q } :=
  State.chan_setChan_same _ _ _

theorem State.tile_drainChan (s : State) (k i : Nat) (item : QItem) (q : List QItem) :
    (s.drainChan k i item q).tile k = { s.tile k with rr := (i + 1) % 8 } :=
  State.tile_setTile_same _ _ _

/-- The channel in turn is the first that a drain looks at. -/
theorem find_drainOrder {rr : Nat} (h : rr < 8) (p : Nat → Bool) (hp : p rr = true) :
    ((List.range 8).map fun i => (rr + i) % 8).find? p = some rr := by
  rw [List.range_succ_eq_map, List.map_cons, Nat.add_zero, Nat.mod_eq_of_lt h, List.find?_cons_of_pos hp]

/-- A tile that is not being calibrated drains the channel in turn, where the head of its queue can be drained (R102, R469). -/
theorem execTileQueueDrain_next {t : Nat} {k : Tile} {item : QItem} {q : List QItem} {s : State} (hr : s.phase = .ready) (hrr : (s.tile k).rr < 8)
    (hcal : (s.clock t).calibrating k = false) (hq : (s.chan (8 * k.val + (s.tile k).rr)).queue = item :: q)
    (hitem : drainable (max s.now t) (s.tileLock k) (item :: q) = true) :
    execTileQueueDrain t k s = .next (s.keep t ((s.clock t).drainChan k (s.tile k).rr item q)) := by
  have htile : (s.clock t).tile k = s.tile k := rfl
  have hhead : ((s.clock t).chan (8 * k.val + (s.tile k).rr)).queue = item :: q := hq
  have hfind : ((List.range 8).map fun i => ((s.tile k).rr + i) % 8).find?
      (fun i => drainable (s.clock t).now ((s.clock t).tileLock k) ((s.clock t).chan (8 * k + i)).queue) = some (s.tile k).rr :=
    find_drainOrder hrr _ ((congrArg (drainable _ _) hhead).trans hitem)
  rw [execTileQueueDrain, s.run_ready t _ hr]
  simp only [hcal, htile, hfind, hhead, Bool.false_eq_true, if_false]
  cases item <;> rfl

theorem tileQueueDrain_yields {t : Nat} {k : Tile} {item : QItem} {q : List QItem} {s : State} (hr : s.phase = .ready) (hrr : (s.tile k).rr < 8)
    (hcal : (s.clock t).calibrating k = false) (hq : (s.chan (8 * k.val + (s.tile k).rr)).queue = item :: q)
    (hitem : drainable (max s.now t) (s.tileLock k) (item :: q) = true) : Yields (.tileQueueDrain t k) s fun x =>
      x.fd = { s.fd with intake := s.fd.intake ++ [item.toIntake (8 * k.val + (s.tile k).rr)] } ∧ (x.chan (8 * k.val + (s.tile k).rr)).queue = q
        ∧ (x.tile k).rr = ((s.tile k).rr + 1) % 8 ∧ Frame t [.tiles, .fold] s x :=
  ⟨_, execTileQueueDrain_next hr hrr hcal hq hitem, rfl, congrArg ChanState.queue ((s.clock t).chan_drainChan k _ item q),
    congrArg TileState.rr ((s.clock t).tile_drainChan k _ item q), Frame.of_untouched ((s.clock t).drainChan_untouched k _ item q)⟩

/-! ### Shots -/

/-- A shot descriptor leaves the queue of Fold. -/
def State.takeInbound (s : State) (r : List ShotDesc) : State := { s with fd := { s.fd with inbound := r } }

/-- What counting a shot for pixels leaves as it was: the descriptors and shots of Fold, its memory, Shepherd and the tiles. -/
def CountOf (s x : State) : Prop :=
  x.fd.inbound = s.fd.inbound ∧ x.fd.shots = s.fd.shots ∧ x.fd.mem = s.fd.mem ∧ x.sq = s.sq ∧ x.tl = s.tl

theorem CountOf.refl (s : State) : CountOf s s := ⟨rfl, rfl, rfl, rfl, rfl⟩

theorem CountOf.trans {s x y : State} (h : CountOf s x) (h' : CountOf x y) : CountOf s y := by
  obtain ⟨hin, hshots, hmem, hsq, htl⟩ := h
  obtain ⟨hin', hshots', hmem', hsq', htl'⟩ := h'
  exact ⟨hin'.trans hin, hshots'.trans hshots, hmem'.trans hmem, hsq'.trans hsq, htl'.trans htl⟩

theorem State.countShot_countOf (s : State) (seq p : Nat) : CountOf s (s.countShot seq p).1 := by
  unfold State.countShot
  dsimp only
  split
  · exact CountOf.refl s
  · split
    · exact ⟨rfl, rfl, rfl, rfl, rfl⟩
    · split <;> exact ⟨rfl, rfl, rfl, rfl, rfl⟩

/-- One pixel of a shot is counted, and its part noted, if it has one. -/
def countPixel (seq : Nat) (acc : State × List Part) (p : Nat) : State × List Part :=
  let z := acc.1.countShot seq p
  (z.1, match z.2 with | some q => acc.2 ++ [q] | none => acc.2)

theorem countPixels_countOf (seq : Nat) (l : List Nat) (acc : State × List Part) : CountOf acc.1 (l.foldl (countPixel seq) acc).1 := by
  induction l generalizing acc with
  | nil => exact CountOf.refl acc.1
  | cons p r ih => exact (acc.1.countShot_countOf seq p).trans (ih (countPixel seq acc p))

/-- A shot as Fold knows it (R142). -/
def ShotDesc.known (d : ShotDesc) (parts : List Part) : FdShot :=
  { seq := d.seq, dither := d.dither, group := d.group, cycle := d.cycle, parts := parts }

/-- Fold knows a shot, as one of the last 1,024. -/
def State.learnShot (s : State) (d : ShotDesc) (parts : List Part) : State :=
  { s with fd := { s.fd with shots := (s.fd.shots ++ [d.known parts]).drop (s.fd.shots.length + 1 - 1024) } }

theorem State.takeShot_eq (s : State) (d : ShotDesc) : s.takeShot d = if s.f Reg.FD_CFG_EN = 0 then s
    else (d.pixels.foldl (countPixel d.seq) (s, [])).1.learnShot d (d.pixels.foldl (countPixel d.seq) (s, [])).2 := rfl

theorem State.shots_learnShot {s : State} (hroom : s.fd.shots.length < 1024) (d : ShotDesc) (parts : List Part) :
    (s.learnShot d parts).fd.shots = s.fd.shots ++ [d.known parts] := by
  simp [State.learnShot, Nat.sub_eq_zero_of_le hroom]

theorem State.learnShot_keeps (s : State) (d : ShotDesc) (parts : List Part) :
    (s.learnShot d parts).fd.inbound = s.fd.inbound ∧ (s.learnShot d parts).fd.mem = s.fd.mem ∧ (s.learnShot d parts).sq = s.sq
      ∧ (s.learnShot d parts).tl = s.tl := by
  simp [State.learnShot]

/-- With Fold enabled and room for the shot, it is known from then on, and nothing else that matters changes (R151). -/
theorem State.takeShot_spec {s : State} {d : ShotDesc} (hen : s.f Reg.FD_CFG_EN = 1) (hroom : s.fd.shots.length < 1024) :
    (s.takeShot d).fd.inbound = s.fd.inbound
      ∧ (∃ parts, (s.takeShot d).fd.shots = s.fd.shots ++ [d.known parts])
      ∧ (s.takeShot d).fd.mem = s.fd.mem ∧ (s.takeShot d).sq = s.sq ∧ (s.takeShot d).tl = s.tl := by
  obtain ⟨hin, hshots, hmem, hsq, htl⟩ := countPixels_countOf d.seq d.pixels (s, [])
  rw [State.takeShot_eq, if_neg (by rw [hen]; decide)]
  generalize d.pixels.foldl (countPixel d.seq) (s, []) = acc at *
  obtain ⟨hin', hmem', hsq', htl'⟩ := acc.1.learnShot_keeps d acc.2
  refine ⟨hin'.trans hin, ⟨acc.2, ?_⟩, hmem'.trans hmem, hsq'.trans hsq, htl'.trans htl⟩
  rw [State.shots_learnShot (by rw [hshots]; exact hroom), hshots]

theorem shotDescriptorReceive_yields (t : Nat) (d : ShotDesc) (r : List ShotDesc) (s : State) (hr : s.phase = .ready) (hin : s.fd.inbound = d :: r)
    (hearly : s.early d = false) (hen : s.f Reg.FD_CFG_EN = 1) (hroom : s.fd.shots.length < 1024) :
    Yields (.shotDescriptorReceive t) s fun x => x.fd.inbound = r
      ∧ (∃ parts, x.fd.shots = s.fd.shots ++ [(⟨d.seq, d.dither, d.group, d.cycle, parts⟩ : FdShot)])
      ∧ x.fd.mem = s.fd.mem ∧ x.sq = s.sq ∧ x.tl = s.tl := by
  have hin' : (s.clock t).fd.inbound = d :: r := hin
  have hearly' : (s.clock t).early d = false := hearly
  have hstep : execShotDescriptorReceive t s = .next (s.keep t (((s.clock t).takeInbound r).takeShot d)) := by
    rw [execShotDescriptorReceive, s.run_ready t _ hr]
    simp only [hin', hearly', Bool.false_eq_true, if_false]
    rfl
  exact ⟨_, hstep, State.takeShot_spec (s := (s.clock t).takeInbound r) hen hroom⟩

/-! ### Close tokens -/

/-- A close token that arrives: the interval no longer awaits it (R154). -/
def Interval.takeToken (i : Interval) (shot now : Nat) : Interval := { i with tokens := i.tokens.filter (· ≠ shot), lastToken := now }

/-- The part that a pixel has in a shot, where it was counted. -/
def FdShot.countedPart (d : FdShot) (p : Nat) : Option Part :=
  d.parts.find? fun q => match q with | .counted p' _ _ => decide (p' = p) | .disabled _ => false

theorem State.takeToken_eq (s : State) (p shot : Nat) :
    s.takeToken p shot = match s.fd.shots.reverse.find? (fun x => decide (x.seq = shot)) with
      | none => s
      | some x => match x.countedPart p with
        | some (.counted _ gen _) => s.setFdPix p ((s.fdPix p).onInterval gen fun i => i.takeToken shot s.now)
        | _ => s := rfl

theorem State.takeToken_of_counted {s : State} {p shot gen k : Nat} {d : FdShot}
    (hshot : s.fd.shots.reverse.find? (fun z => decide (z.seq = shot)) = some d) (hpart : d.countedPart p = some (.counted p gen k)) :
    s.takeToken p shot = s.setFdPix p ((s.fdPix p).onInterval gen fun i => i.takeToken shot s.now) := by
  rw [State.takeToken_eq]
  simp only [hshot, hpart]

/-- A change of the interval in progress. -/
theorem FdPixel.cur_onInterval (x : FdPixel) (f : Interval → Interval) : (x.onInterval x.cur.gen f).cur = f x.cur := if_pos rfl

theorem State.fdPix_setFdPix_ne (s : State) {p z : Nat} (x : FdPixel) (h : z ≠ p) : (s.setFdPix p x).fdPix z = s.fdPix z := by
  simp [State.fdPix, State.setFdPix, Tab.get_set_ne _ _ _ _ h]

theorem State.setFdPix_untouched (s : State) (p : Nat) (x : FdPixel) : Untouched [.fold] s (s.setFdPix p x) := by
  intro g hg
  cases g <;> simp [Group.same] at hg ⊢

/-- The oldest item of a pixel leaves the fold intake. -/
def State.takeFromIntake (s : State) (r : List Intake) : State := { s with fd := { s.fd with intake := r } }

theorem State.takeFromIntake_untouched (s : State) (r : List Intake) : Untouched [.fold] s (s.takeFromIntake r) := by
  intro g hg
  cases g <;> simp [Group.same, State.takeFromIntake] at hg ⊢

theorem closeTokenArrival_yields (t : Nat) (p : Pixel) (q shot k : Nat) (r : List Intake) (d : FdShot) (s : State) (hr : s.phase = .ready)
    (htake : takeIntake p s.fd.intake = some (.token q shot, r)) (hshot : s.fd.shots.reverse.find? (fun z => decide (z.seq = shot)) = some d)
    (hpart : d.countedPart p = some (.counted p (s.fdPix p).cur.gen k)) : Yields (.closeTokenArrival t p) s fun x =>
      (x.fdPix p).cur.tokens = (s.fdPix p).cur.tokens.filter (· ≠ shot)
        ∧ (x.fdPix p).cur.lastToken = max s.now t ∧ x.fd.intake = r ∧ (∀ z, z ≠ p.val → x.fdPix z = s.fdPix z) ∧ Frame t [.fold] s x := by
  let y := (s.clock t).takeFromIntake r
  let pix := (s.fdPix p).onInterval (s.fdPix p).cur.gen fun i => i.takeToken shot (max s.now t)
  have hstep : execCloseTokenArrival t p s = .next (s.keep t (y.setFdPix p pix)) := by
    have htake' : takeIntake p (s.clock t).fd.intake = some (.token q shot, r) := htake
    rw [execCloseTokenArrival, s.run_ready t _ hr]
    simp only [htake']
    exact congrArg (fun x => Host.Outcome.next (s.keep t x)) (State.takeToken_of_counted (s := y) hshot hpart)
  have hcur : ((s.keep t (y.setFdPix p pix)).fdPix p).cur = (s.fdPix p).cur.takeToken shot (max s.now t) :=
    (congrArg FdPixel.cur (y.fdPix_setFdPix_same p pix)).trans (FdPixel.cur_onInterval _ _)
  exact ⟨_, hstep, congrArg Interval.tokens hcur, congrArg Interval.lastToken hcur, rfl, fun z hz => y.fdPix_setFdPix_ne pix hz,
    Frame.of_untouched (((s.clock t).takeFromIntake_untouched r).trans (y.setFdPix_untouched p pix))⟩

end Sys2Proof.Machine

namespace Sys2Proof
open Machine

/-- Settles O13: the channel in turn is drained (find_drainOrder); counting the pixels of a shot leaves what Fold knows of others
(countPixels_countOf); a token changes the interval that its shot was counted into (takeToken_of_counted). -/
theorem itemsShotsAndTokensReachFold : Obligations.ItemsShotsAndTokensReachFold := by
  unfold Obligations.ItemsShotsAndTokensReachFold
  refine ⟨?entry, ?token, shotDescriptorReceive_yields, closeTokenArrival_yields⟩
  case entry =>
    intro t k shot r a b q s hr hrr hcal hq hready
    exact tileQueueDrain_yields hr hrr hcal hq (decide_eq_true hready)
  case token =>
    intro t k shot q s hr hrr hcal hlock hq
    exact tileQueueDrain_yields hr hrr hcal hq hlock

end Sys2Proof
end

section
/-!
SUPPORT. A trigger cause at the acquisition engine: only fields of buffers that record something are written, and no buffer's configuration
changes (R245, R246, R249, R250).
-/

namespace Sys2Proof.Machine

/-! ### One buffer -/

/-- The fields of a buffer that its captures write. -/
def aqFields (b : Nat) : List Fld :=
  [Reg.AQ_BUF_STAT_STATE b, Reg.AQ_BUF_STAT_HELD b, Reg.AQ_CAP_CAUSE_UNITS b, Reg.AQ_CAP_INFO_PRIMARY b, Reg.AQ_CAP_INFO_HELD b,
    Reg.AQ_CAP_FRAME_FRAME b, Reg.AQ_CAP_TIME_H_T_H b, Reg.AQ_CAP_TIME_L_T_L b, Reg.AQ_CAP_SEQ_SEQ b, Reg.AQ_CAP_CNT_CNT b, Reg.AQ_MISSED_COUNT b]

/-- The change from `s` to `x` wrote no field but those of buffer `b`, and no buffer's configuration. -/
structure OnBuffer (b : Nat) (s x : State) : Prop where
  fields : OnlyFields (aqFields b) s x
  cfg : ∀ d, (x.aqBuf d).cfg = (s.aqBuf d).cfg

namespace OnBuffer

variable {b : Nat} {s x y : State}

theorem refl (b : Nat) (s : State) : OnBuffer b s s := ⟨OnlyFields.of_regs rfl, fun _ => rfl⟩

theorem trans (h : OnBuffer b s x) (h' : OnBuffer b x y) : OnBuffer b s y :=
  ⟨h.fields.trans h'.fields, fun d => (h'.cfg d).trans (h.cfg d)⟩

theorem setH (h : OnBuffer b s x) {f : Fld} (hf : f ∈ aqFields b) (v : Nat) : OnBuffer b s (x.setH f v) :=
  h.trans ⟨OnlyFields.setH hf x v, fun _ => rfl⟩

theorem flag (h : OnBuffer b s x) {f : Fld} (hf : f ∈ aqFields b) (v : Bool) : OnBuffer b s (x.flag f v) :=
  h.trans ⟨OnlyFields.flag hf x v, fun _ => rfl⟩

theorem add (h : OnBuffer b s x) {f : Fld} (hf : f ∈ aqFields b) (n : Nat) : OnBuffer b s (x.add f n) :=
  h.trans ⟨fun g hg => x.h_add_ne f g n fun he => hg (he ▸ List.mem_map_of_mem hf), fun _ => rfl⟩

theorem raise (h : OnBuffer b s x) (e : Ev) (m n : Nat) : OnBuffer b s (x.raise e m n) := ⟨h.fields, h.cfg⟩

theorem setAqBuf (h : OnBuffer b s x) (d : Nat) {z : AqBuf} (hz : z.cfg = (x.aqBuf d).cfg) : OnBuffer b s (x.setAqBuf d z) := by
  refine h.trans ⟨OnlyFields.of_regs rfl, fun e => ?_⟩
  by_cases he : e = d
  · subst he
    simpa [State.aqBuf, State.setAqBuf] using hz
  · simp [State.aqBuf, State.setAqBuf, Tab.get_set_ne _ _ _ _ he]

end OnBuffer

theorem AqBuf.cfg_countCells (x : AqBuf) (L j : Nat) (l : List Score) : (x.countCells L j l).cfg = x.cfg := by
  induction l generalizing x j with
  | nil => rfl
  | cons v r ih => exact ih _ _

theorem State.aqFull_onBuffer (s : State) (b : Nat) : OnBuffer b s (s.aqFull b) := by
  have hcause (x f : Nat) := (((OnBuffer.refl b s).setH (f := Reg.AQ_BUF_STAT_STATE b) (by simp [aqFields]) 3).setH
    (f := Reg.AQ_CAP_CAUSE_UNITS b) (by simp [aqFields]) x).setH (f := Reg.AQ_CAP_INFO_PRIMARY b) (by simp [aqFields]) f
  have hwhen (u p : Nat) (held : Bool) (fr hi lo : Nat) := ((((hcause u p).flag (f := Reg.AQ_CAP_INFO_HELD b) (by simp [aqFields]) held).setH
    (f := Reg.AQ_CAP_FRAME_FRAME b) (by simp [aqFields]) fr).setH (f := Reg.AQ_CAP_TIME_H_T_H b) (by simp [aqFields]) hi).setH
    (f := Reg.AQ_CAP_TIME_L_T_L b) (by simp [aqFields]) lo
  unfold State.aqFull
  dsimp only
  refine OnBuffer.raise ?_ _ _ _
  split
  · exact (hwhen _ _ _ _ _ _).setH (by simp [aqFields]) _
  · exact ((hwhen _ _ _ _ _ _).setH (by simp [aqFields]) _).setH (by simp [aqFields]) _

theorem stateField_mem (b : Nat) : Reg.AQ_BUF_STAT_STATE b ∈ aqFields b := by simp [aqFields]

theorem heldField_mem (b : Nat) : Reg.AQ_BUF_STAT_HELD b ∈ aqFields b := by simp [aqFields]

/-- The samples in a segment of a buffer's map, when `vals` are offered (R254). -/
def AqBuf.segmentLen (x : AqBuf) (vals : List Score) : Nat := if x.src.stream then x.postLen else vals.length

/-- A map with samples counted (R254). -/
def AqBuf.mapped (x : AqBuf) (vals : List Score) (seq : Nat) : AqBuf :=
  { x.countCells (x.segmentLen vals) x.post vals with
    post := x.post + vals.length, seq := if decide (x.post = 0) && decide (x.segments = 0) then seq else x.seq }

/-- A capture with samples stored (R243). -/
def AqBuf.stored (x : AqBuf) (vals : List Score) (seq : Nat) : AqBuf :=
  { x with data := x.data ++ vals, post := x.post + vals.length, seq := if decide (x.post = 0) then seq else x.seq }

/-- A map whose segment is complete: FULL, or the next segment with a held trigger or without one (R250, R254). -/
def State.endSegment (s : State) (b : Nat) (x : AqBuf) : State :=
  let x := { x with post := 0, segments := x.segments + 1 }
  let s := (s.setAqBuf b x).setH (Reg.AQ_CAP_CNT_CNT b) x.segments
  if x.segments ≥ x.len then s.aqFull b
  else
    match x.held with
    | some _ => ((s.setAqBuf b { x with held := none, heldOpen := false }).flag (Reg.AQ_BUF_STAT_HELD b) false).setH (Reg.AQ_BUF_STAT_STATE b) 2
    | none => s.setH (Reg.AQ_BUF_STAT_STATE b) 1

theorem State.aqStore_eq (s : State) (b : Nat) (vals : List Score) (seq : Nat) : s.aqStore b vals seq =
    if (s.aqBuf b).isMap then
      if ((s.aqBuf b).mapped vals seq).post < (s.aqBuf b).segmentLen vals then
        (s.setAqBuf b ((s.aqBuf b).mapped vals seq)).setH (Reg.AQ_BUF_STAT_STATE b) 2
      else s.endSegment b ((s.aqBuf b).mapped vals seq)
    else if ((s.aqBuf b).stored vals seq).post ≥ ((s.aqBuf b).stored vals seq).postLen then (s.setAqBuf b ((s.aqBuf b).stored vals seq)).aqFull b
    else (s.setAqBuf b ((s.aqBuf b).stored vals seq)).setH (Reg.AQ_BUF_STAT_STATE b) 2 := rfl

theorem AqBuf.cfg_mapped (x : AqBuf) (vals : List Score) (seq : Nat) : (x.mapped vals seq).cfg = x.cfg := x.cfg_countCells _ _ vals

theorem State.endSegment_onBuffer (s : State) (b : Nat) {x : AqBuf} (hx : x.cfg = (s.aqBuf b).cfg) : OnBuffer b s (s.endSegment b x) := by
  have hcount {z : AqBuf} (hz : z.cfg = (s.aqBuf b).cfg) (n : Nat) : OnBuffer b s ((s.setAqBuf b z).setH (Reg.AQ_CAP_CNT_CNT b) n) :=
    ((OnBuffer.refl b s).setAqBuf b hz).setH (by simp [aqFields]) n
  unfold State.endSegment
  dsimp only
  split
  · exact (hcount (by exact hx) _).trans (State.aqFull_onBuffer _ b)
  · split
    · exact (((hcount (by exact hx) _).setAqBuf b (by simp [State.aqBuf, State.setAqBuf, State.setH])).flag (heldField_mem b) false).setH (stateField_mem b) 2
    · exact (hcount (by exact hx) _).setH (stateField_mem b) 1

theorem State.aqStore_onBuffer (s : State) (b : Nat) (vals : List Score) (seq : Nat) : OnBuffer b s (s.aqStore b vals seq) := by
  have hmapped := (OnBuffer.refl b s).setAqBuf b ((s.aqBuf b).cfg_mapped vals seq)
  have hstored := (OnBuffer.refl b s).setAqBuf b (z := (s.aqBuf b).stored vals seq) rfl
  rw [State.aqStore_eq]
  split
  · split
    · exact hmapped.setH (stateField_mem b) 2
    · exact s.endSegment_onBuffer b (AqBuf.cfg_mapped _ _ _)
  · split
    · exact hstored.trans (State.aqFull_onBuffer _ b)
    · exact hstored.setH (stateField_mem b) 2

theorem State.aqBack_onBuffer (s : State) (b : Nat) (f : AqFire) : OnBuffer b s (s.aqBack b f) := by
  unfold State.aqBack
  exact ((OnBuffer.refl b s).setAqBuf b (by rfl)).trans (State.aqStore_onBuffer _ b _ _)

theorem State.aqLate_onBuffer (s : State) (b : Nat) (f : AqFire) : OnBuffer b s (s.aqLate b f) := by
  have hmissed : OnBuffer b s (s.add (Reg.AQ_MISSED_COUNT b) f.count) := (OnBuffer.refl b s).add (by simp [aqFields]) _
  unfold State.aqLate
  dsimp only
  split
  · split
    · exact ((OnBuffer.refl b s).setAqBuf b (by rfl)).flag (heldField_mem b) true
    · split
      · exact (OnBuffer.refl b s).setAqBuf b (by rfl)
      · exact hmissed
  · exact hmissed

/-- A firing that reaches a buffer writes at that buffer only. -/
theorem State.aqHear_onBuffer (s : State) (b : Nat) (f : AqFire) : OnBuffer b s (s.aqHear b f) := by
  unfold State.aqHear
  dsimp only
  split
  · exact (OnBuffer.refl b s).setAqBuf b (by rfl)
  · split
    · exact s.aqLate_onBuffer b f
    · split
      · exact s.aqBack_onBuffer b f
      · exact (OnBuffer.refl b s).setAqBuf b (by rfl)

/-! ### All buffers -/

/-- From `s` to `x` buffers in IDLE stay there, configurations stay, and no field above the acquisition engine's addresses changes. -/
structure AqKeeps (s x : State) : Prop where
  above : ∀ f : Fld, 0x100000 * 32 ≤ f.key → x.h f = s.h f
  cfg : ∀ b, (x.aqBuf b).cfg = (s.aqBuf b).cfg
  idle : ∀ b, b < 4 → s.aqState b = 0 → x.aqState b = 0

theorem AqKeeps.refl (s : State) : AqKeeps s s := ⟨fun _ _ => rfl, fun _ => rfl, fun _ _ h => h⟩

theorem AqKeeps.trans {s x y : State} (h : AqKeeps s x) (h' : AqKeeps x y) : AqKeeps s y :=
  ⟨fun f hf => (h'.above f hf).trans (h.above f hf), fun b => (h'.cfg b).trans (h.cfg b), fun b hb hs => h'.idle b hb (h.idle b hb hs)⟩

theorem AqKeeps.foldl {α : Type} (f : State → α → State) (l : List α) (hf : ∀ s, ∀ a ∈ l, AqKeeps s (f s a)) (s : State) : AqKeeps s (l.foldl f s) := by
  induction l generalizing s with
  | nil => exact AqKeeps.refl s
  | cons a r ih => exact (hf s a List.mem_cons_self).trans (ih (fun s a ha => hf s a (List.mem_cons_of_mem _ ha)) _)

/-- An operation that writes neither registers nor buffers. -/
theorem AqKeeps.of_eq {s x : State} (hregs : x.regs = s.regs) (hbufs : x.aq.bufs = s.aq.bufs) : AqKeeps s x :=
  ⟨fun f _ => State.h_congr hregs f, fun b => by simp only [State.aqBuf, hbufs], fun _ _ h => (State.h_congr hregs _).trans h⟩

/-- The fields of the four buffers lie below those of the blocks above, and another buffer's STATE is not among those of one. -/
theorem aqFields_apart : ∀ b < 4, (∀ g ∈ aqFields b, g.key < 0x100000 * 32)
    ∧ ∀ d < 4, d ≠ b → (Reg.AQ_BUF_STAT_STATE d).key ∉ (aqFields b).map Fld.key := by decide +kernel

/-- What writes at a buffer that is not in IDLE. -/
theorem OnBuffer.keeps {b : Nat} {s x : State} (h : OnBuffer b s x) (hb : b < 4) (hs : s.aqState b ≠ 0) : AqKeeps s x := by
  obtain ⟨hbelow, hother⟩ := aqFields_apart b hb
  refine ⟨fun f hf => h.fields f fun hm => ?_, h.cfg, fun d hd hidle => ?_⟩
  · obtain ⟨g, hg, he⟩ := List.mem_map.mp hm
    have := hbelow g hg
    omega
  · have hne : d ≠ b := by
      rintro rfl
      exact hs hidle
    exact (h.fields _ (hother d hd hne)).trans hidle

/-! ### A firing -/

/-- The hold-off of a unit that fires begins (R248). -/
def State.holdUnit (s : State) (u at_ : Nat) : State :=
  let hold := (Reg.AQ_TRG_CFG_HOLD 0).of ((s.aqUnit u).cfg.getD 0 0)
  if hold = 0 then s else s.setAqUnit u { s.aqUnit u with hold := some (at_ + hold * lsbUs) }

/-- The buffers that watch a unit and are not in IDLE hear its firing (R249). -/
def State.hearAll (s : State) (u : Nat) (f : AqFire) : State :=
  [0, 1, 2, 3].foldl (fun s b => if (s.aqBuf b).watches u && s.aqState b != 0 then s.aqHear b f else s) s

/-- Shepherd may take the firing as an external start (R249). -/
def State.tellShepherd (s : State) (u at_ : Nat) : State :=
  if s.fo Reg.AQ_CFG_SQ_UNIT = u then { s with aq := { s.aq with toShepherd := s.aq.toShepherd ++ [max at_ s.now] } } else s

/-- The firing goes out on the Node links (R321). -/
def State.tellNodes (s : State) (u at_ : Nat) : State :=
  if s.fu 0 Reg.FL_TRIG_EN = 1 ∧ s.fu 0 Reg.FL_TRIG_UNIT = u then s.sendTrig at_ else s

theorem State.aqFireAt_eq (s : State) (u at_ : Nat) :
    s.aqFireAt u at_ = (((s.holdUnit u at_).hearAll u (s.aqFireOf u at_)).tellShepherd u at_).tellNodes u at_ := rfl

theorem State.hearAll_keeps (s : State) (u : Nat) (f : AqFire) : AqKeeps s (s.hearAll u f) := by
  refine AqKeeps.foldl _ _ (fun s b hb => ?_) s
  have hlt : b < 4 := by
    simp only [List.mem_cons, List.not_mem_nil, or_false] at hb
    omega
  split
  · next hon =>
    simp only [Bool.and_eq_true, bne_iff_ne] at hon
    exact (s.aqHear_onBuffer b f).keeps hlt hon.2
  · exact AqKeeps.refl s

theorem State.aqFireAt_keeps (s : State) (u at_ : Nat) : AqKeeps s (s.aqFireAt u at_) := by
  have hhold : AqKeeps s (s.holdUnit u at_) := by
    unfold State.holdUnit
    dsimp only
    split
    · exact AqKeeps.refl s
    · exact AqKeeps.of_eq rfl rfl
  have hshepherd (x : State) : AqKeeps x (x.tellShepherd u at_) := by
    unfold State.tellShepherd
    split
    · exact AqKeeps.of_eq rfl rfl
    · exact AqKeeps.refl x
  have hnodes (x : State) : AqKeeps x (x.tellNodes u at_) := by
    unfold State.tellNodes
    split
    · exact AqKeeps.of_eq (by simp) (by simp)
    · exact AqKeeps.refl x
  rw [State.aqFireAt_eq]
  exact ((hhold.trans (State.hearAll_keeps _ u _)).trans (hshepherd _)).trans (hnodes _)

/-- A cause that comes now leaves IDLE buffers, every configuration and the fields of the blocks above as they were. -/
theorem State.aqTrigger_keeps (s : State) (cause : AqCause) : AqKeeps s (s.aqTrigger cause) := by
  refine AqKeeps.foldl _ _ (fun s u _ => ?_) s
  split
  · exact s.aqFireAt_keeps u _
  · exact AqKeeps.refl s

/-- A source that no buffer records is recorded by none after buffers in IDLE stayed there and configurations stayed. -/
theorem State.aqUsers_eq_nil {s x : State} (hcfg : ∀ b, (x.aqBuf b).cfg = (s.aqBuf b).cfg) (hidle : ∀ b, b < 4 → s.aqState b = 0 → x.aqState b = 0)
    {kind index : Nat} (hs : s.aqUsers kind index = []) : x.aqUsers kind index = [] := by
  simp only [State.aqUsers, List.filter_eq_nil_iff, Bool.and_eq_true, bne_iff_ne, beq_iff_eq, not_and] at hs ⊢
  rintro b hb ⟨hstate, hkind⟩
  have hlt : b < 4 := by
    simp only [List.mem_cons, List.not_mem_nil, or_false] at hb
    omega
  have hsrc : (x.aqBuf b).src = (s.aqBuf b).src := by rw [AqBuf.src, AqBuf.src, AqBuf.reg, AqBuf.reg, hcfg]
  rw [hsrc] at hkind ⊢
  exact hs b hb ⟨fun h => hstate (hidle b hlt h), hkind⟩

/-- Without a buffer on it, a sampler whose capture is complete holds its block (R78). -/
theorem State.aqSamplerBlock_of_unused {s : State} {k : Nat} (h : s.aqUsers 0 k = []) : s.aqSamplerBlock k = s.aqTrigger (.block ⟨0, 0, k⟩) := by
  have hkeeps := s.aqTrigger_keeps (.block ⟨0, 0, k⟩)
  have husers := State.aqUsers_eq_nil hkeeps.cfg hkeeps.idle h
  simp [State.aqSamplerBlock, State.aqCopyBlock, husers]

end Sys2Proof.Machine
end

section
/-!
SUPPORT. The lock of a tile and its waveform sampler (R27, R74, R76 to R78, R81).
-/

namespace Sys2Proof.Machine

/-! ### The eight channels of a tile -/

/-- A change of each of the eight channels of a tile. -/
def State.mapChans (s : State) (k : Nat) (f : ChanState → ChanState) : State :=
  (List.range 8).foldl (fun s i => s.setChan (8 * k + i) (f (s.chan (8 * k + i)))) s

/-- What the change brings about holds of the channels that were changed. -/
theorem chan_foldl_setChan (k : Nat) {f : ChanState → ChanState} {P : ChanState → Prop} (hf : ∀ x, P (f x)) (l : List Nat) (s : State) (i : Nat)
    (h : i ∈ l ∨ P (s.chan (8 * k + i))) : P ((l.foldl (fun s i => s.setChan (8 * k + i) (f (s.chan (8 * k + i)))) s).chan (8 * k + i)) := by
  induction l generalizing s with
  | nil => simpa using h
  | cons j r ih =>
    refine ih _ ?_
    by_cases hij : i = j
    · subst hij
      exact .inr (by rw [State.chan_setChan_same]; exact hf _)
    · rw [State.chan_setChan_ne _ _ (by omega)]
      simpa [hij] using h

theorem State.chan_mapChans (s : State) (k : Nat) {f : ChanState → ChanState} {P : ChanState → Prop} (hf : ∀ x, P (f x)) {i : Nat} (hi : i < 8) :
    P ((s.mapChans k f).chan (8 * k + i)) :=
  chan_foldl_setChan k hf _ s i (.inl (List.mem_range.mpr hi))

theorem State.regs_mapChans (s : State) (k : Nat) (f : ChanState → ChanState) : (s.mapChans k f).regs = s.regs :=
  foldl_inv State.regs _ _ s fun _ _ => rfl

theorem State.ev_mapChans (s : State) (k : Nat) (f : ChanState → ChanState) : (s.mapChans k f).ev = s.ev :=
  foldl_inv State.ev _ _ s fun _ _ => rfl

theorem Untouched.foldl {α : Type} {g : List Group} (f : State → α → State) (hf : ∀ s a, Untouched g s (f s a)) (l : List α) (s : State) :
    Untouched g s (l.foldl f s) := by
  induction l generalizing s with
  | nil => exact Untouched.refl g s
  | cons a r ih => exact (hf s a).trans (ih _)

theorem State.mapChans_untouched (s : State) (k : Nat) (f : ChanState → ChanState) : Untouched [.tiles] s (s.mapChans k f) :=
  Untouched.foldl _ (fun s _ => s.setChan_untouched _ _) _ s

/-! ### Lock -/

/-- A tile out of lock: its channels take no further edges, and that is shown and reported (R81). -/
def State.unlockTile (s : State) (k : Nat) : State :=
  (((s.mapChans k fun ch => { ch with blind := true }).flag (Reg.TL_TILE_STAT_LOCK k) false).flag (Reg.TL_TILE_STAT_UNLOCK_SEEN k) true).raise .tileUnlock k 0

theorem execTileUnlock_eq (t : Nat) (k : Tile) (s : State) : execTileUnlock t k s = s.run t fun s => (s.unlockTile k).noteTile k := rfl

theorem State.unlockTile_untouched (s : State) (k : Nat) : Untouched [.fields, .tiles, .events] s (s.unlockTile k) :=
  (((s.mapChans_untouched k _).mono.trans (State.flag_untouched _ _ _).mono).trans (State.flag_untouched _ _ _).mono).trans
    (State.raise_untouched _ _ _ _).mono

theorem State.noteTile_untouched (s : State) (k : Nat) : Untouched [.safety] s (s.noteTile k) := by
  intro g hg
  cases g <;> simp [Group.same] at hg ⊢

theorem State.h_unlockTile_lock (s : State) (k : Nat) : (s.unlockTile k).h (Reg.TL_TILE_STAT_LOCK k) = 0 := by
  rw [State.unlockTile, State.h_raise, State.h_flag_ne _ _ _ _ (by simp [Fld.key, Reg.TL_TILE_STAT_LOCK, Reg.TL_TILE_STAT_UNLOCK_SEEN]),
    State.h_flag_same]
  rfl

theorem State.h_unlockTile_seen (s : State) (k : Nat) : (s.unlockTile k).h (Reg.TL_TILE_STAT_UNLOCK_SEEN k) = 1 := by
  rw [State.unlockTile, State.h_raise, State.h_flag_same]
  rfl

theorem State.chan_unlockTile (s : State) (k : Nat) {i : Nat} (hi : i < 8) : ((s.unlockTile k).chan (8 * k + i)).blind = true := by
  have htl : (s.unlockTile k).tl = (s.mapChans k fun ch => { ch with blind := true }).tl := by simp [State.unlockTile]
  rw [State.chan_congr htl]
  exact s.chan_mapChans k (P := fun ch => ch.blind = true) (fun _ => rfl) hi

theorem State.inbox_unlockTile (s : State) (k : Nat) :
    ∃ r, (s.unlockTile k).ev.inbox = s.ev.inbox ++ [r] ∧ r.code = Ev.tileUnlock.code ∧ r.e10 = k % 2 ^ 20 := by
  rw [State.unlockTile]
  generalize hy : ((s.mapChans k fun ch => { ch with blind := true }).flag (Reg.TL_TILE_STAT_LOCK k) false).flag (Reg.TL_TILE_STAT_UNLOCK_SEEN k) true = y
  have hev : y.ev = s.ev := by rw [← hy, State.flag_ev, State.flag_ev, State.ev_mapChans]
  rw [← hev]
  exact y.inbox_raise .tileUnlock k 0

theorem tileUnlock_yields (t : Nat) (k : Tile) (s : State) (hr : s.phase = .ready) : Yields (.tileUnlock t k) s fun x =>
    x.h (Reg.TL_TILE_STAT_LOCK k) = 0 ∧ x.h (Reg.TL_TILE_STAT_UNLOCK_SEEN k) = 1 ∧ (∀ i, i < 8 → (x.chan (8 * k.val + i)).blind = true)
      ∧ (∃ r, x.ev.inbox = s.ev.inbox ++ [r] ∧ r.code = Ev.tileUnlock.code ∧ r.e10 = k.val) ∧ Frame t [.fields, .tiles, .events, .safety] s x := by
  refine Yields.of_run (execTileUnlock t k) hr rfl (execTileUnlock_eq t k s) ?_
  have hlock := (s.clock t).h_unlockTile_lock k
  have hseen := (s.clock t).h_unlockTile_seen k
  have hblind (i : Nat) (hi : i < 8) := (s.clock t).chan_unlockTile k hi
  obtain ⟨r, hinbox, hcode, harg⟩ := (s.clock t).inbox_unlockTile k
  have huntouched := (s.clock t).unlockTile_untouched k
  generalize (s.clock t).unlockTile k = y at *
  have hregs : (y.noteTile k).regs = y.regs := by simp
  have htl : (y.noteTile k).tl = y.tl := by simp
  have hev : (y.noteTile k).ev = y.ev := by simp
  exact ⟨(State.h_congr hregs _).trans hlock, (State.h_congr hregs _).trans hseen,
    fun i hi => (congrArg ChanState.blind (State.chan_congr htl _)).trans (hblind i hi),
    ⟨r, (congrArg _ hev).trans hinbox, hcode, harg.trans (Nat.mod_eq_of_lt (k.isLt.trans (by decide)))⟩,
    Frame.of_untouched (huntouched.mono.trans (y.noteTile_untouched k).mono)⟩

/-- A tile in lock again; the SUSPECT marking of a reference taken may begin to end (R27, R81). -/
def State.lockTile (s : State) (k : Nat) : State :=
  let s := s.flag (Reg.TL_TILE_STAT_LOCK k) true
  if s.sq.refTaken then s.suspectFrom else s

theorem execTileRelock_eq (t : Nat) (k : Tile) (s : State) :
    execTileRelock t k s = s.run t fun s => (s.lockTile k).mapChans k fun ch => { ch with awaitCal := true } := rfl

theorem State.suspectFrom_untouched (s : State) : Untouched [.fold] s s.suspectFrom := by
  intro g hg
  cases g <;> simp [Group.same] at hg ⊢

theorem State.lockTile_untouched (s : State) (k : Nat) : Untouched [.fields, .fold] s (s.lockTile k) := by
  have hflag := s.flag_untouched (Reg.TL_TILE_STAT_LOCK k) true
  unfold State.lockTile
  dsimp only
  split
  · exact hflag.mono.trans (State.suspectFrom_untouched _).mono
  · exact hflag.mono

theorem State.regs_lockTile (s : State) (k : Nat) : (s.lockTile k).regs = (s.flag (Reg.TL_TILE_STAT_LOCK k) true).regs := by
  unfold State.lockTile
  dsimp only
  split
  · simp
  · rfl

theorem tileRelock_yields (t : Nat) (k : Tile) (s : State) (hr : s.phase = .ready) : Yields (.tileRelock t k) s fun x =>
    x.h (Reg.TL_TILE_STAT_LOCK k) = 1 ∧ (∀ i, i < 8 → (x.chan (8 * k.val + i)).awaitCal = true) ∧ OnlyFields [Reg.TL_TILE_STAT_LOCK k] s x
      ∧ Frame t [.fields, .tiles, .fold] s x := by
  refine Yields.of_run (execTileRelock t k) hr rfl (execTileRelock_eq t k s) ?_
  have hregs := ((s.clock t).lockTile k).regs_mapChans k fun ch => { ch with awaitCal := true }
  have hwait (i : Nat) (hi : i < 8) := ((s.clock t).lockTile k).chan_mapChans k (f := fun ch => { ch with awaitCal := true })
    (P := fun ch => ch.awaitCal = true) (fun _ => rfl) hi
  have huntouched := ((s.clock t).lockTile k).mapChans_untouched k fun ch => { ch with awaitCal := true }
  generalize ((s.clock t).lockTile k).mapChans k (fun ch => { ch with awaitCal := true }) = x at *
  have hflag := hregs.trans ((s.clock t).regs_lockTile k)
  have honly : OnlyFields [Reg.TL_TILE_STAT_LOCK k] (s.clock t) ((s.clock t).flag (Reg.TL_TILE_STAT_LOCK k) true) := OnlyFields.flag (by simp) _ true
  exact ⟨(State.h_congr hflag _).trans (State.h_flag_same _ _ _), hwait, honly.trans (OnlyFields.of_regs hflag),
    Frame.of_untouched (((s.clock t).lockTile_untouched k).mono.trans huntouched.mono)⟩

/-! ### The sampler -/

theorem State.samplerBegin_spec (s : State) (k start : Nat) :
    ((s.samplerBegin k start).tile k).wsBusy = true ∧ ((s.samplerBegin k start).tile k).wsArmed = false
      ∧ ((s.samplerBegin k start).tile k).wsStart = start ∧ ((s.samplerBegin k start).tile k).wsChan = s.samplerChan k
      ∧ (s.samplerBegin k start).h (Reg.TL_TILE_STAT_WS_ARMED k) = 0 := by
  have htile : (s.samplerBegin k start).tile k = { s.tile k with
      wsArmed := false, wsBusy := true, wsStart := start, wsChan := s.samplerChan k, wsSeq := (s.chan (s.samplerChan k)).shot } :=
    s.tile_setTile_same k _
  rw [htile]
  exact ⟨rfl, rfl, rfl, rfl, State.h_flag_same _ _ _⟩

theorem State.samplerBegin_only (s : State) (k start : Nat) : OnlyFields [Reg.TL_TILE_STAT_WS_ARMED k] s (s.samplerBegin k start) :=
  (OnlyFields.of_regs rfl).trans (OnlyFields.flag (by simp) _ false)

theorem State.samplerBegin_untouched (s : State) (k start : Nat) : Untouched [.fields, .tiles] s (s.samplerBegin k start) :=
  (s.setTile_untouched k _).mono.trans (State.flag_untouched _ _ _).mono

/-- In FORCE mode the first sample is taken now (R77). -/
theorem State.captureStart_of_force {s : State} {k : Nat} (h : s.f (Reg.TL_WS_CFG_MODE k) = 2) : s.captureStart k = some s.now := by
  simp [State.captureStart, h]

theorem samplerCaptureStart_yields (t : Nat) (k : Tile) (s : State) (hr : s.phase = .ready) (hmode : s.f (Reg.TL_WS_CFG_MODE k) = 2)
    (harmed : (s.tile k).wsArmed = true) (hon : s.samplerOn k = true) : Yields (.samplerCaptureStart t k) s fun x =>
      (x.tile k).wsBusy = true ∧ (x.tile k).wsArmed = false ∧ (x.tile k).wsStart = max s.now t ∧ (x.tile k).wsChan = s.samplerChan k
        ∧ x.h (Reg.TL_TILE_STAT_WS_ARMED k) = 0 ∧ OnlyFields [Reg.TL_TILE_STAT_WS_ARMED k] s x ∧ Frame t [.fields, .tiles] s x := by
  have hmode' : (s.clock t).f (Reg.TL_WS_CFG_MODE k) = 2 := hmode
  have harmed' : ((s.clock t).tile k).wsArmed = true := harmed
  have hon' : (s.clock t).samplerOn k = true := hon
  have hstep : execSamplerCaptureStart t k s = .next (s.keep t ((s.clock t).samplerBegin k (s.clock t).now)) := by
    rw [execSamplerCaptureStart, s.run_ready t _ hr]
    simp [hmode', harmed', hon', State.captureStart_of_force hmode']
  obtain ⟨hbusy, hidle, hstart, hchan, hfield⟩ := (s.clock t).samplerBegin_spec k (s.clock t).now
  exact ⟨_, hstep, hbusy, hidle, hstart, hchan, hfield, (s.clock t).samplerBegin_only k _, Frame.of_untouched ((s.clock t).samplerBegin_untouched k _)⟩

theorem State.sampleScores_congr {s x : State} (h : x.tl = s.tl) (k i : Nat) (l : List Int) : x.sampleScores k i l = s.sampleScores k i l := by
  induction l generalizing i with
  | nil => rfl
  | cons v r ih =>
    have hsample : x.sampleScore k i v = s.sampleScore k i v := by
      simp only [State.sampleScore, State.tile_congr h, State.ownClamps_congr h, State.chan_congr h]
    rw [State.sampleScores, State.sampleScores, hsample, ih]

/-- An application point where no write waits and no value from before a SWAP is in use changes nothing. -/
theorem State.applyAt_of_none {s : State} (hw : s.regs.waiting = []) (hs : s.regs.stale = []) (p : Nat → Nat → Bool) : s.applyAt p = s := by
  have hregs : { s.regs with waiting := [], stale := [] } = s.regs := by
    cases hr : s.regs
    simp_all
  simp [State.applyAt, State.applyOn, hw, hs, hregs]

/-- The samples of a capture are held, and the sampler is full (R74, R78). -/
def State.holdSamples (s : State) (k : Nat) (l : List Int) : State :=
  (s.setTile k { s.tile k with wsBusy := false, wsSamples := s.sampleScores k 0 (l.take 2048) }).flag (Reg.TL_TILE_STAT_WS_FULL k) true

theorem execSamplerCaptureComplete_eq (t : Nat) (k : Tile) (l : List Int) (s : State) : execSamplerCaptureComplete t k l s = s.run t fun s =>
    if (s.tile k).wsBusy then ((s.holdSamples k l).applyAt fun a u => Reg.isSampler a && decide (u = heldSelection k)).aqSamplerBlock k else s := rfl

theorem wsFull_above (k : Nat) : 0x100000 * 32 ≤ (Reg.TL_TILE_STAT_WS_FULL k).key := by
  simp only [Fld.key, Reg.TL_TILE_STAT_WS_FULL, Reg.TL_TILE_STAT]
  omega

theorem State.aqUsers_holdSamples {s : State} {k : Nat} (h : s.aqUsers 0 k = []) (l : List Int) : (s.holdSamples k l).aqUsers 0 k = [] := by
  refine State.aqUsers_eq_nil (s := s) (x := s.holdSamples k l) (fun _ => rfl) (fun b hb hidle => ?_) h
  have hbelow := (aqFields_apart b hb).1 _ (stateField_mem b)
  exact (State.h_flag_ne _ _ _ _ (hbelow.trans_le (wsFull_above k)).ne).trans hidle

theorem samplerCaptureComplete_yields (t : Nat) (k : Tile) (l : List Int) (s : State) (hr : s.phase = .ready) (hbusy : (s.tile k).wsBusy = true)
    (hwaiting : s.regs.waiting = []) (hstale : s.regs.stale = []) (husers : s.aqUsers 0 k = []) : Yields (.samplerCaptureComplete t k l) s fun x =>
      (x.tile k).wsBusy = false ∧ (x.tile k).wsSamples = s.sampleScores k 0 (l.take 2048) ∧ x.h (Reg.TL_TILE_STAT_WS_FULL k) = 1 := by
  let y := (s.clock t).holdSamples k l
  have happly : y.applyAt (fun a u => Reg.isSampler a && decide (u = heldSelection k)) = y :=
    State.applyAt_of_none (s := y) hwaiting hstale _
  have husers' : y.aqUsers 0 k = [] := State.aqUsers_holdSamples (s := s.clock t) husers l
  have hbusy' : ((s.clock t).tile k).wsBusy = true := hbusy
  have htile : y.tile k = { s.tile k with wsBusy := false, wsSamples := (s.clock t).sampleScores k 0 (l.take 2048) } :=
    (s.clock t).tile_setTile_same k _
  have hfull : y.h (Reg.TL_TILE_STAT_WS_FULL k) = 1 := State.h_flag_same _ _ _
  refine Yields.of_run (execSamplerCaptureComplete t k l) hr rfl (execSamplerCaptureComplete_eq t k l s) ?_
  rw [if_pos hbusy', happly, State.aqSamplerBlock_of_unused husers']
  have htile' : (y.aqTrigger (.block ⟨0, 0, k⟩)).tile k = y.tile k := State.tile_congr (by simp) k
  have hfull' := (y.aqTrigger_keeps (.block ⟨0, 0, k⟩)).above _ (wsFull_above k)
  generalize y.aqTrigger (.block ⟨0, 0, k⟩) = x at *
  exact ⟨congrArg TileState.wsBusy (htile'.trans htile),
    (congrArg TileState.wsSamples (htile'.trans htile)).trans (State.sampleScores_congr (s := s) (x := s.clock t) rfl k 0 _), hfull'.trans hfull⟩

end Sys2Proof.Machine

namespace Sys2Proof
open Machine

/-- Settles O14: a change of a tile's channels reaches all eight (chan_mapChans); a trigger cause at the end of a capture leaves the sampler's
fields, and the buffers that could take its block, as they were (aqTrigger_keeps). -/
theorem tileLockAndSampler : Obligations.TileLockAndSampler := by
  unfold Obligations.TileLockAndSampler
  exact ⟨tileUnlock_yields, tileRelock_yields, samplerCaptureStart_yields, samplerCaptureComplete_yields⟩

end Sys2Proof
end

section
/-!
SUPPORT. START and STOP of a statistics unit (R107, R108): the fields they write, as one list of values each.
-/

namespace Sys2Proof.Machine

/-! ### Fields set to listed values -/

/-- Each field of a list takes the value listed with it. -/
def State.setFields (s : State) (l : List (Fld × Nat)) : State := l.foldl (fun s w => s.setH w.1 w.2) s

theorem State.setFields_untouched (s : State) (l : List (Fld × Nat)) : Untouched [.fields] s (s.setFields l) :=
  Untouched.foldl (fun (s : State) (w : Fld × Nat) => s.setH w.1 w.2) (fun s w => s.setH_untouched w.1 w.2) l s

theorem State.h_setFields_of_not_mem (s : State) (l : List (Fld × Nat)) (f : Fld) (hf : ∀ w ∈ l, f.key ≠ w.1.key) : (s.setFields l).h f = s.h f :=
  List.foldlRecOn l _ (motive := fun x : State => x.h f = s.h f) rfl fun x hx w hw => (x.h_setH_ne w.1 f w.2 (hf w hw)).trans hx

/-- Where no field is listed twice, each one shows its value, limited to its width. -/
theorem State.h_setFields_of_mem {l : List (Fld × Nat)} (hk : (l.map fun w => w.1.key).Nodup) (s : State) {w : Fld × Nat} (hw : w ∈ l) :
    (s.setFields l).h w.1 = min w.2 w.1.top := by
  induction l generalizing s with
  | nil => simp at hw
  | cons v r ih =>
    obtain ⟨hv, hr⟩ := List.nodup_cons.mp hk
    rcases List.mem_cons.mp hw with rfl | hw
    · exact (State.h_setFields_of_not_mem _ r w.1 fun x hx he => hv (List.mem_map.mpr ⟨x, hx, he.symm⟩)).trans (s.h_setH_same w.1 w.2)
    · exact ih hr (s.setH v.1 v.2) hw

/-! ### START -/

/-- The results and flags that a START clears (R108). -/
def stCleared (u : Nat) : List Fld :=
  [Reg.TE_ST_STAT_DONE u, Reg.TE_ST_STAT_PARTIAL u, Reg.TE_ST_MEAN_MEAN u, Reg.TE_ST_MEANF_FRAC u, Reg.TE_ST_SD_SD u, Reg.TE_ST_MIN_VALUE u,
    Reg.TE_ST_MAX_VALUE u, Reg.TE_ST_IGN_COUNT u]

/-- A run begins: no result, no interval accepted, BUSY. -/
def State.startRun (s : State) (u : Nat) : State := ((s.zero (stCleared u)).setStRun u {}).flag (Reg.TE_ST_STAT_BUSY u) true

theorem stBusy_not_cleared : ∀ u : StUnit, (Reg.TE_ST_STAT_BUSY u).key ∉ (stCleared u).map Fld.key := by decide +kernel

theorem stCleared_nodup : ∀ u : StUnit, ((stCleared u).map Fld.key).Nodup := by decide +kernel

theorem State.fst_stN_le (s : State) (u : Nat) : s.fst (Reg.TE_ST_N_N u) ≤ 65535 :=
  Nat.le_of_lt_succ (Nat.mod_lt _ (by decide : 0 < 2 ^ 16))

theorem State.stBegin_of_busy {s : State} {u : Nat} (h : s.h (Reg.TE_ST_STAT_BUSY u) = 1) :
    s.stBegin u = s.flag (Reg.TE_ST_STAT_START_IGN u) true := if_pos h

theorem State.stBegin_of_few {s : State} {u : Nat} (h : s.h (Reg.TE_ST_STAT_BUSY u) = 0) (hn : s.fst (Reg.TE_ST_N_N u) < 2) :
    s.stBegin u = s.flag (Reg.TE_ST_STAT_CFG_ERR u) true := by
  simp [State.stBegin, h, hn]

theorem State.stBegin_of_idle {s : State} {u : Nat} (h : s.h (Reg.TE_ST_STAT_BUSY u) = 0) (hn : 2 ≤ s.fst (Reg.TE_ST_N_N u))
    (hsel : s.fst (Reg.TE_ST_CFG_STOP_SEL u) ≤ 2) : s.stBegin u = s.startRun u := by
  have hidle : ¬ s.h (Reg.TE_ST_STAT_BUSY u) = 1 := by omega
  have hset : ¬ (s.fst (Reg.TE_ST_N_N u) < 2 ∨ s.fst (Reg.TE_ST_CFG_STOP_SEL u) > 2) := by omega
  rw [State.stBegin, if_neg hidle, if_neg hset]
  rfl

@[simp] theorem State.h_setStRun (s : State) (u : Nat) (x : StRun) (f : Fld) : (s.setStRun u x).h f = s.h f := rfl

theorem State.setStRun_untouched (s : State) (u : Nat) (x : StRun) : Untouched [.tiles] s (s.setStRun u x) := by
  intro g hg
  cases g <;> simp [Group.same, State.setStRun] at hg ⊢

theorem State.zero_untouched (s : State) (l : List Fld) : Untouched [.fields] s (s.zero l) :=
  Untouched.foldl _ (fun s f => s.setH_untouched f 0) l s

theorem State.h_zero_of_mem (s : State) {l : List Fld} {f : Fld} (hf : f ∈ l) (hk : (l.map Fld.key).Nodup) : (s.zero l).h f = 0 := by
  rw [State.zero, State.h_setAll_of_mem s (fun _ => 0) l f hf hk, Nat.zero_min]

theorem State.startRun_untouched (s : State) (u : Nat) : Untouched [.fields, .tiles] s (s.startRun u) :=
  ((s.zero_untouched _).mono.trans (State.setStRun_untouched _ _ _).mono).trans (State.flag_untouched _ _ _).mono

theorem State.stRun_startRun (s : State) (u : Nat) : (s.startRun u).stRun u = {} := by
  simp [State.startRun, State.stRun, State.setStRun]

theorem State.h_startRun_cleared (s : State) (u : StUnit) {f : Fld} (hf : f ∈ stCleared u) : (s.startRun u).h f = 0 := by
  have hbusy : f.key ≠ (Reg.TE_ST_STAT_BUSY u).key := fun he => stBusy_not_cleared u (he ▸ List.mem_map_of_mem hf)
  rw [State.startRun, State.h_flag_ne _ _ _ _ hbusy, State.h_setStRun, s.h_zero_of_mem hf (stCleared_nodup u)]

theorem State.h_startRun_busy (s : State) (u : Nat) : (s.startRun u).h (Reg.TE_ST_STAT_BUSY u) = 1 := by
  rw [State.startRun, State.h_flag_same]
  rfl

theorem stStart_few (t : Nat) (u : StUnit) (s : State) (hr : s.phase = .ready) (hidle : s.h (Reg.TE_ST_STAT_BUSY u) = 0)
    (hn : s.fst (Reg.TE_ST_N_N u) < 2) : Yields (.stStart t u) s fun x =>
      x.h (Reg.TE_ST_STAT_CFG_ERR u) = 1 ∧ x.h (Reg.TE_ST_STAT_BUSY u) = 0 ∧ OnlyFields [Reg.TE_ST_STAT_CFG_ERR u] s x ∧ Frame t [.fields] s x := by
  refine Yields.of_run (execStStart t u) hr rfl rfl ?_
  rw [State.stBegin_of_few (s := s.clock t) hidle hn]
  have hne : (Reg.TE_ST_STAT_BUSY u).key ≠ (Reg.TE_ST_STAT_CFG_ERR u).key := by
    simp [Fld.key, Reg.TE_ST_STAT_BUSY, Reg.TE_ST_STAT_CFG_ERR]
  exact ⟨State.h_flag_same _ _ _, (State.h_flag_ne (s.clock t) _ _ _ hne).trans hidle, OnlyFields.flag (by simp) (s.clock t) true,
    Frame.of_untouched (State.flag_untouched _ _ _)⟩

theorem stStart_busy (t : Nat) (u : StUnit) (s : State) (hr : s.phase = .ready) (hbusy : s.h (Reg.TE_ST_STAT_BUSY u) = 1) :
    Yields (.stStart t u) s fun x => x.h (Reg.TE_ST_STAT_START_IGN u) = 1 ∧ x.stRun u = s.stRun u
      ∧ OnlyFields [Reg.TE_ST_STAT_START_IGN u] s x ∧ Frame t [.fields] s x := by
  refine Yields.of_run (execStStart t u) hr rfl rfl ?_
  rw [State.stBegin_of_busy (s := s.clock t) hbusy]
  exact ⟨State.h_flag_same _ _ _, rfl, OnlyFields.flag (by simp) (s.clock t) true, Frame.of_untouched (State.flag_untouched _ _ _)⟩

theorem stStart_idle (t : Nat) (u : StUnit) (s : State) (hr : s.phase = .ready) (hidle : s.h (Reg.TE_ST_STAT_BUSY u) = 0)
    (hn : 2 ≤ s.fst (Reg.TE_ST_N_N u)) (hsel : s.fst (Reg.TE_ST_CFG_STOP_SEL u) ≤ 2) : Yields (.stStart t u) s fun x =>
      x.h (Reg.TE_ST_STAT_BUSY u) = 1 ∧ x.stRun u = {} ∧ (∀ f ∈ stCleared u, x.h f = 0) ∧ Frame t [.fields, .tiles] s x := by
  refine Yields.of_run (execStStart t u) hr rfl rfl ?_
  rw [State.stBegin_of_idle (s := s.clock t) hidle hn hsel]
  have hbusy := (s.clock t).h_startRun_busy u
  have hrun := (s.clock t).stRun_startRun u
  have hcleared (f : Fld) (hf : f ∈ stCleared u) := (s.clock t).h_startRun_cleared u hf
  have huntouched := (s.clock t).startRun_untouched u
  generalize (s.clock t).startRun u = x at *
  exact ⟨hbusy, hrun, hcleared, Frame.of_untouched huntouched⟩

/-! ### STOP -/

/-- The mean's fraction in 1/16 LSB, rounded (R107). -/
def StRun.sixteenths (x : StRun) : Nat := (2 * 16 * (x.sum % x.n) + x.n) / (2 * x.n)

/-- The five results of a run (R107); a fraction of 16/16 reads a free value. -/
def stValues (u : Nat) (x : StRun) : List (Fld × Nat) :=
  [(Reg.TE_ST_MEAN_MEAN u, x.sum / x.n),
   (Reg.TE_ST_MEANF_FRAC u, if x.sixteenths ≤ 15 then x.sixteenths else (Config.stFraction x.sum x.n).toNat),
   (Reg.TE_ST_SD_SD u, (isqrt (1024 * (x.n * x.sumsq - x.sum * x.sum) / (x.n * (x.n - 1))) + 1) / 2),
   (Reg.TE_ST_MIN_VALUE u, x.lo), (Reg.TE_ST_MAX_VALUE u, x.hi)]

theorem State.stResults_eq (s : State) (u : Nat) (x : StRun) : s.stResults u x = s.setFields (stValues u x) := rfl

/-- The results of a run are shown, and DONE. -/
def State.showResults (s : State) (u : Nat) (x : StRun) : State := (s.setFields (stValues u x)).flag (Reg.TE_ST_STAT_DONE u) true

/-- A run is over, before its end (R108). -/
def State.cutRun (s : State) (u : Nat) : State := (s.flag (Reg.TE_ST_STAT_BUSY u) false).flag (Reg.TE_ST_STAT_PARTIAL u) true

theorem State.stEnd_of_few {s : State} {u : Nat} (h : s.h (Reg.TE_ST_STAT_BUSY u) = 1) (hn : (s.stRun u).n < 2) : s.stEnd u = s.cutRun u := by
  have hrun : ¬ ((s.cutRun u).stRun u).n ≥ 2 := Nat.not_le.mpr hn
  rw [State.stEnd, if_pos h]
  exact if_neg hrun

theorem State.stEnd_of_results {s : State} {u : Nat} (h : s.h (Reg.TE_ST_STAT_BUSY u) = 1) (hn : 2 ≤ (s.stRun u).n) :
    s.stEnd u = (s.cutRun u).showResults u (s.stRun u) := by
  have hrun : ((s.cutRun u).stRun u).n ≥ 2 := hn
  rw [State.stEnd, if_pos h]
  exact if_pos hrun

/-- The result fields of a statistics unit. -/
def stResultFields (u : Nat) : List Fld :=
  [Reg.TE_ST_MEAN_MEAN u, Reg.TE_ST_MEANF_FRAC u, Reg.TE_ST_SD_SD u, Reg.TE_ST_MIN_VALUE u, Reg.TE_ST_MAX_VALUE u]

theorem map_key_stValues (u : Nat) (x : StRun) : ((stValues u x).map fun w => w.1.key) = (stResultFields u).map Fld.key := rfl

theorem stResultFields_nodup : ∀ u : StUnit, ((Reg.TE_ST_STAT_DONE u :: stResultFields u).map Fld.key).Nodup := by decide +kernel

/-- BUSY and PARTIAL lie apart from DONE and from the results. -/
theorem stFlags_apart : ∀ u : StUnit, ∀ f ∈ [Reg.TE_ST_STAT_BUSY u, Reg.TE_ST_STAT_PARTIAL u],
    f.key ∉ (Reg.TE_ST_STAT_DONE u :: stResultFields u).map Fld.key := by decide +kernel

theorem State.h_showResults_value (s : State) (u : StUnit) (x : StRun) : ∀ w ∈ stValues u x, (s.showResults u x).h w.1 = min w.2 w.1.top := by
  intro w hw
  obtain ⟨hdone, hk⟩ := List.nodup_cons.mp (stResultFields_nodup u)
  have hmem : w.1.key ∈ (stResultFields u).map Fld.key := map_key_stValues u x ▸ List.mem_map_of_mem (f := fun w => w.1.key) hw
  have hne : w.1.key ≠ (Reg.TE_ST_STAT_DONE u).key := fun he => hdone (he ▸ hmem)
  exact (State.h_flag_ne _ _ _ _ hne).trans (State.h_setFields_of_mem (map_key_stValues u x ▸ hk) s hw)

theorem State.h_showResults_flag (s : State) (u : StUnit) (x : StRun) {f : Fld} (hf : f ∈ [Reg.TE_ST_STAT_BUSY u, Reg.TE_ST_STAT_PARTIAL u]) :
    (s.showResults u x).h f = s.h f := by
  obtain ⟨hdone, hresults⟩ := List.ne_and_not_mem_of_not_mem_cons (stFlags_apart u f hf)
  refine (State.h_flag_ne _ _ _ _ hdone).trans (s.h_setFields_of_not_mem _ f fun w hw he => hresults ?_)
  exact map_key_stValues u x ▸ List.mem_map.mpr ⟨w, hw, he.symm⟩

theorem State.h_showResults_done (s : State) (u : Nat) (x : StRun) : (s.showResults u x).h (Reg.TE_ST_STAT_DONE u) = 1 := by
  rw [State.showResults, State.h_flag_same]
  rfl

theorem State.h_cutRun (s : State) (u : Nat) :
    (s.cutRun u).h (Reg.TE_ST_STAT_BUSY u) = 0 ∧ (s.cutRun u).h (Reg.TE_ST_STAT_PARTIAL u) = 1 := by
  have hne : (Reg.TE_ST_STAT_BUSY u).key ≠ (Reg.TE_ST_STAT_PARTIAL u).key := by
    simp [Fld.key, Reg.TE_ST_STAT_BUSY, Reg.TE_ST_STAT_PARTIAL]
  exact ⟨(State.h_flag_ne _ _ _ _ hne).trans (s.h_flag_same (Reg.TE_ST_STAT_BUSY u) false), State.h_flag_same _ _ _⟩

theorem State.cutRun_untouched (s : State) (u : Nat) : Untouched [.fields] s (s.cutRun u) :=
  (s.flag_untouched _ _).trans (State.flag_untouched _ _ _)

theorem State.cutRun_only (s : State) (u : Nat) : OnlyFields [Reg.TE_ST_STAT_BUSY u, Reg.TE_ST_STAT_PARTIAL u] s (s.cutRun u) :=
  OnlyFields.trans (OnlyFields.flag (by simp) s false) (OnlyFields.flag (by simp) _ true)

theorem State.showResults_untouched (s : State) (u : Nat) (x : StRun) : Untouched [.fields] s (s.showResults u x) :=
  (s.setFields_untouched _).trans (State.flag_untouched _ _ _)

/-- STOP with enough intervals: the flags, and each result in its field. -/
theorem stStop_results (t : Nat) (u : StUnit) (s : State) (hr : s.phase = .ready) (hbusy : s.h (Reg.TE_ST_STAT_BUSY u) = 1)
    (hn : 2 ≤ (s.stRun u).n) : Yields (.stStop t u) s fun x =>
      x.h (Reg.TE_ST_STAT_BUSY u) = 0 ∧ x.h (Reg.TE_ST_STAT_PARTIAL u) = 1 ∧ x.h (Reg.TE_ST_STAT_DONE u) = 1
        ∧ (∀ w ∈ stValues u (s.stRun u), x.h w.1 = min w.2 w.1.top) ∧ Frame t [.fields] s x := by
  refine Yields.of_run (execStStop t u) hr rfl rfl ?_
  rw [State.stEnd_of_results (s := s.clock t) hbusy hn]
  obtain ⟨hidle, hpartial⟩ := (s.clock t).h_cutRun u
  have huntouched := (s.clock t).cutRun_untouched u
  generalize (s.clock t).cutRun u = y at *
  have hflags (f : Fld) := y.h_showResults_flag u (s.stRun u) (f := f)
  have hdone := y.h_showResults_done u (s.stRun u)
  have hvalues := y.h_showResults_value u (s.stRun u)
  have huntouched' := huntouched.trans (y.showResults_untouched u (s.stRun u))
  have hrun : (s.clock t).stRun u = s.stRun u := rfl
  rw [hrun]
  generalize y.showResults u (s.stRun u) = x at *
  exact ⟨(hflags _ (by simp)).trans hidle, (hflags _ (by simp)).trans hpartial, hdone, hvalues, Frame.of_untouched huntouched'⟩

theorem stStop_few (t : Nat) (u : StUnit) (s : State) (hr : s.phase = .ready) (hbusy : s.h (Reg.TE_ST_STAT_BUSY u) = 1) (hn : (s.stRun u).n < 2) :
    Yields (.stStop t u) s fun x => x.h (Reg.TE_ST_STAT_BUSY u) = 0 ∧ x.h (Reg.TE_ST_STAT_PARTIAL u) = 1
      ∧ OnlyFields [Reg.TE_ST_STAT_BUSY u, Reg.TE_ST_STAT_PARTIAL u] s x ∧ Frame t [.fields] s x := by
  refine Yields.of_run (execStStop t u) hr rfl rfl ?_
  rw [State.stEnd_of_few (s := s.clock t) hbusy hn]
  obtain ⟨hidle, hpartial⟩ := (s.clock t).h_cutRun u
  exact ⟨hidle, hpartial, (s.clock t).cutRun_only u, Frame.of_untouched ((s.clock t).cutRun_untouched u)⟩

end Sys2Proof.Machine

namespace Sys2Proof
open Machine

/-- Settles O16: what a START does is one of three (stBegin_of_few, stBegin_of_busy, stBegin_of_idle), what a STOP does one of two
(stEnd_of_few, stEnd_of_results); the results are read off the list of the values written (h_setFields_of_mem). -/
theorem statisticsRuns : Obligations.StatisticsRuns := by
  unfold Obligations.StatisticsRuns
  refine ⟨fun u s => s.fst_stN_le u, stStart_few, stStart_busy, stStart_idle, fun t u s hr hbusy hn => ?_, stStop_few⟩
  obtain ⟨x, hx, hidle, hpartial, hdone, hvalues, hframe⟩ := stStop_results t u s hr hbusy hn
  simp only [stValues, List.forall_mem_cons] at hvalues
  obtain ⟨hmean, hfrac, hsd, hlo, hhi, -⟩ := hvalues
  refine ⟨x, hx, hidle, hpartial, hdone, hmean, fun h15 => ?_, hsd, hlo, hhi, hframe⟩
  have h15' : (s.stRun u).sixteenths ≤ 15 := h15
  rw [hfrac, if_pos h15']
  exact Nat.min_eq_left h15

end Sys2Proof
end

section
/-!
SUPPORT. The calibration of a channel for a shot (R50, R88, R90, R91): which set is in use after it, and what a bad one counts.
-/

namespace Sys2Proof.Machine

/-- No room for a calibration between the last window of a channel and the one that comes (R92). -/
def State.noCalRoom (s : State) (c : Nat) : Bool :=
  match (s.chan c).lastClose, s.sq.windows.find? fun w => decide (w.pixel = c) with
  | some x, some w => decide (w.from_ < x + 300)
  | _, _ => false

/-- The codes of the LT rise are shown where they are valid. -/
def State.showCodes (s : State) (c : Nat) (k : CalSet) : State :=
  if k.ltRise.valid then (s.setH (Reg.TE_CH_CAL_C1 c) k.ltRise.c1).setH (Reg.TE_CH_CAL_P c) k.ltRise.p.toNat else s

/-- A channel takes a good set. -/
def ChanState.calibrated (ch : ChanState) (k : CalSet) : ChanState :=
  { ch with frozen := true, awaitCal := false, cal := some k, calUsed := some k, calBad := 0, calGood := min 16 (ch.calGood + 1) }

/-- A channel goes on with the last good set, if any. -/
def ChanState.uncalibrated (ch : ChanState) : ChanState :=
  { ch with frozen := true, awaitCal := false, calUsed := ch.cal, calBad := min 16 (ch.calBad + 1), calGood := 0 }

/-- A good calibration; sixteen in a row end FAIL. -/
def State.passCal (s : State) (c : Nat) (ch : ChanState) : State :=
  if ch.calGood ≥ 16 then (s.setChan c ch).flag (Reg.TE_CH_STAT_FAIL c) false else s.setChan c ch

/-- A channel is seen to hold an old calibration. -/
def State.holdCal (s : State) (c : Nat) (old : Bool) : State := if old then s.flag (Reg.TE_CH_STAT_CAL_HOLD c) true else s

/-- Sixteen bad calibrations in a row are a failure of the channel, which is reported. -/
def State.failTdc (s : State) (c bad : Nat) : State :=
  if bad ≥ 16 ∧ s.h (Reg.TE_CH_STAT_FAIL c) = 0 then
    (((s.flag (Reg.TE_CH_STAT_FAIL c) true).flag (Reg.TE_CH_STAT_FAIL_SEEN c) true).raise .tdcFail c 0).noteChan c
  else s

/-- A bad calibration: counted, and seen at the channel. -/
def State.missCal (s : State) (c : Nat) (ch : ChanState) : State :=
  (((s.inc (Reg.TE_CAL_FAIL_CNT_COUNT (c / 8))).holdCal c ch.cal.isSome).setChan c ch.uncalibrated).failTdc c ch.uncalibrated.calBad

theorem execPerShotCalibration_eq (t : Nat) (c : Chan) (k : CalSet) (s : State) : execPerShotCalibration t c k none s = s.run t fun s =>
    if (s.chan c).winOpen || s.noCalRoom c then s
    else if k.valid then (s.showCodes c k).passCal c ((s.chan c).calibrated k) else (s.showCodes c k).missCal c (s.chan c) := rfl

theorem State.noCalRoom_of_none {s : State} {c : Nat}
    (h : s.sq.windows.find? (fun w => decide (w.pixel = c)) = none ∨ (s.chan c).lastClose = none) : s.noCalRoom c = false := by
  rcases h with h | h
  · rw [State.noCalRoom, h]
    cases (s.chan c).lastClose <;> rfl
  · rw [State.noCalRoom, h]

/-! ### What each part leaves as it was -/

theorem State.showCodes_untouched (s : State) (c : Nat) (k : CalSet) : Untouched [.fields] s (s.showCodes c k) := by
  unfold State.showCodes
  split
  · exact (s.setH_untouched _ _).trans (State.setH_untouched _ _ _)
  · exact Untouched.refl _ s

theorem State.showCodes_only (s : State) (c : Nat) (k : CalSet) : OnlyFields [Reg.TE_CH_CAL_C1 c, Reg.TE_CH_CAL_P c] s (s.showCodes c k) := by
  unfold State.showCodes
  split
  · exact (OnlyFields.setH (by simp) s _).trans (OnlyFields.setH (by simp) _ _)
  · exact OnlyFields.of_regs rfl

theorem State.passCal_untouched (s : State) (c : Nat) (ch : ChanState) : Untouched [.fields, .tiles] s (s.passCal c ch) := by
  unfold State.passCal
  split
  · exact (s.setChan_untouched c ch).mono.trans (State.flag_untouched _ _ _).mono
  · exact (s.setChan_untouched c ch).mono

theorem State.tl_passCal (s : State) (c : Nat) (ch : ChanState) : (s.passCal c ch).tl = (s.setChan c ch).tl := by
  unfold State.passCal
  split
  · exact State.flag_tl _ _ _
  · rfl

theorem State.holdCal_untouched (s : State) (c : Nat) (old : Bool) : Untouched [.fields] s (s.holdCal c old) := by
  unfold State.holdCal
  split
  · exact s.flag_untouched _ _
  · exact Untouched.refl _ s

theorem State.holdCal_only (s : State) (c : Nat) (old : Bool) : OnlyFields [Reg.TE_CH_STAT_CAL_HOLD c] s (s.holdCal c old) := by
  unfold State.holdCal
  split
  · exact OnlyFields.flag (by simp) s true
  · exact OnlyFields.of_regs rfl

theorem State.noteChan_untouched (s : State) (c : Nat) : Untouched [.safety] s (s.noteChan c) := by
  intro g hg
  cases g <;> simp [Group.same] at hg ⊢

theorem State.failTdc_untouched (s : State) (c bad : Nat) : Untouched [.fields, .events, .safety] s (s.failTdc c bad) := by
  unfold State.failTdc
  split
  · exact (((s.flag_untouched _ _).mono.trans (State.flag_untouched _ _ _).mono).trans (State.raise_untouched _ _ _ _).mono).trans
      (State.noteChan_untouched _ _).mono
  · exact Untouched.refl _ s

theorem State.failTdc_only (s : State) (c bad : Nat) :
    OnlyFields [Reg.TE_CH_STAT_FAIL c, Reg.TE_CH_STAT_FAIL_SEEN c] s (s.failTdc c bad) := by
  unfold State.failTdc
  split
  · exact OnlyFields.trans (OnlyFields.flag (f := Reg.TE_CH_STAT_FAIL c) (by simp) s true)
      (OnlyFields.trans (OnlyFields.flag (f := Reg.TE_CH_STAT_FAIL_SEEN c) (by simp) _ true) (OnlyFields.of_regs (by simp)))
  · exact OnlyFields.of_regs rfl

/-- The failures of a tile's calibrations are counted apart from the fields of its channels. -/
theorem calFailCnt_apart (k c : Nat) : ∀ f ∈ [Reg.TE_CH_CAL_C1 c, Reg.TE_CH_CAL_P c, Reg.TE_CH_STAT_CAL_HOLD c, Reg.TE_CH_STAT_FAIL c,
    Reg.TE_CH_STAT_FAIL_SEEN c], (Reg.TE_CAL_FAIL_CNT_COUNT k).key ≠ f.key := by
  simp only [List.forall_mem_cons, Fld.key, Reg.TE_CAL_FAIL_CNT_COUNT, Reg.TE_CAL_FAIL_CNT, Reg.TE_CH_CAL_C1, Reg.TE_CH_CAL_P, Reg.TE_CH_CAL,
    Reg.TE_CH_STAT_CAL_HOLD, Reg.TE_CH_STAT_FAIL, Reg.TE_CH_STAT_FAIL_SEEN, Reg.TE_CH_STAT]
  refine ⟨?_, ?_, ?_, ?_, ?_, by simp⟩ <;> omega

/-! ### A bad calibration -/

theorem State.missCal_untouched (s : State) (c : Nat) (ch : ChanState) : Untouched [.fields, .tiles, .events, .safety] s (s.missCal c ch) :=
  (((s.inc_untouched _).mono.trans (State.holdCal_untouched _ _ _).mono).trans (State.setChan_untouched _ _ _).mono).trans
    (State.failTdc_untouched _ _ _).mono

theorem State.tl_missCal (s : State) (c : Nat) (ch : ChanState) : (s.missCal c ch).tl = (s.setChan c ch.uncalibrated).tl := by
  have hinc : (s.inc (Reg.TE_CAL_FAIL_CNT_COUNT (c / 8))).tl = s.tl := s.inc_untouched _ .tiles (by simp)
  have hhold := (s.inc (Reg.TE_CAL_FAIL_CNT_COUNT (c / 8))).holdCal_untouched c ch.cal.isSome .tiles (by simp)
  refine (State.failTdc_untouched _ _ _ .tiles (by simp)).trans ?_
  rw [State.setChan, State.setChan, hhold.trans hinc]

theorem State.h_missCal_count (s : State) (c : Nat) (ch : ChanState) : (s.missCal c ch).h (Reg.TE_CAL_FAIL_CNT_COUNT (c / 8))
    = min (s.h (Reg.TE_CAL_FAIL_CNT_COUNT (c / 8)) + 1) (Reg.TE_CAL_FAIL_CNT_COUNT (c / 8)).top := by
  have hapart := calFailCnt_apart (c / 8) c
  simp only [List.forall_mem_cons] at hapart
  obtain ⟨-, -, hhold, hfail, hseen, -⟩ := hapart
  calc (s.missCal c ch).h (Reg.TE_CAL_FAIL_CNT_COUNT (c / 8))
      = ((s.inc (Reg.TE_CAL_FAIL_CNT_COUNT (c / 8))).holdCal c ch.cal.isSome).h (Reg.TE_CAL_FAIL_CNT_COUNT (c / 8)) :=
        State.failTdc_only _ _ _ _ (by simp [hfail, hseen])
    _ = (s.inc (Reg.TE_CAL_FAIL_CNT_COUNT (c / 8))).h (Reg.TE_CAL_FAIL_CNT_COUNT (c / 8)) := State.holdCal_only _ _ _ _ (by simp [hhold])
    _ = _ := s.h_inc_same _

theorem State.h_showCodes_calFailCnt (s : State) (c j : Nat) (k : CalSet) :
    (s.showCodes c k).h (Reg.TE_CAL_FAIL_CNT_COUNT j) = s.h (Reg.TE_CAL_FAIL_CNT_COUNT j) := by
  have hapart := calFailCnt_apart j c
  simp only [List.forall_mem_cons] at hapart
  obtain ⟨hc1, hp, -⟩ := hapart
  exact s.showCodes_only c k _ (by simp [hc1, hp])

/-! ### PER_SHOT_CALIBRATION -/

/-- A state whose tiles are those of another with one channel set. -/
theorem State.chan_of_setChan {s y x : State} {c : Nat} {ch : ChanState} (hy : y.tl = s.tl) (hx : x.tl = (y.setChan c ch).tl) :
    x.chan c = ch ∧ ∀ d, d ≠ c → x.chan d = s.chan d :=
  ⟨(State.chan_congr hx c).trans (y.chan_setChan_same c ch),
    fun d hd => ((State.chan_congr hx d).trans (y.chan_setChan_ne ch hd)).trans (State.chan_congr hy d)⟩

theorem State.tl_showCodes (s : State) (t c : Nat) (k : CalSet) : ((s.clock t).showCodes c k).tl = s.tl :=
  (s.clock t).showCodes_untouched c k .tiles (by simp)

/-- With the window closed and room before the next one the calibration runs. -/
theorem execPerShotCalibration_of_room {t : Nat} {c : Chan} (k : CalSet) {s : State} (hr : s.phase = .ready) (hclosed : (s.chan c).winOpen = false)
    (hroom : s.sq.windows.find? (fun w => decide (w.pixel = c.val)) = none ∨ (s.chan c).lastClose = none) :
    execPerShotCalibration t c k none s = .next (s.keep t (if k.valid then ((s.clock t).showCodes c k).passCal c ((s.chan c).calibrated k)
      else ((s.clock t).showCodes c k).missCal c (s.chan c))) := by
  have hruns : ¬ (((s.clock t).chan c).winOpen || (s.clock t).noCalRoom c) = true := by
    rw [State.noCalRoom_of_none (s := s.clock t) hroom, Bool.or_false]
    exact Bool.eq_false_iff.mp hclosed
  rw [execPerShotCalibration_eq, s.run_ready t _ hr, if_neg hruns]
  rfl

theorem perShotCalibration_good (t : Nat) (c : Chan) (k : CalSet) (s : State) (hr : s.phase = .ready) (hclosed : (s.chan c).winOpen = false)
    (hroom : s.sq.windows.find? (fun w => decide (w.pixel = c.val)) = none ∨ (s.chan c).lastClose = none) (hk : k.valid = true) :
    Yields (.perShotCalibration t c k none) s fun x => (x.chan c).calUsed = some k ∧ (x.chan c).cal = some k ∧ (x.chan c).awaitCal = false
      ∧ (x.chan c).calBad = 0 ∧ (∀ d, d ≠ c.val → x.chan d = s.chan d) ∧ Frame t [.fields, .tiles] s x := by
  refine ⟨_, execPerShotCalibration_of_room k hr hclosed hroom, ?_⟩
  rw [if_pos hk]
  have huntouched := ((s.clock t).showCodes_untouched c k).mono.trans (State.passCal_untouched _ c ((s.chan c).calibrated k))
  obtain ⟨hchan, hothers⟩ := State.chan_of_setChan (s.tl_showCodes t c k) (State.tl_passCal _ c ((s.chan c).calibrated k))
  generalize ((s.clock t).showCodes c k).passCal c ((s.chan c).calibrated k) = x at *
  exact ⟨congrArg ChanState.calUsed hchan, congrArg ChanState.cal hchan, congrArg ChanState.awaitCal hchan, congrArg ChanState.calBad hchan,
    hothers, Frame.of_untouched huntouched⟩

theorem perShotCalibration_bad (t : Nat) (c : Chan) (k : CalSet) (s : State) (hr : s.phase = .ready) (hclosed : (s.chan c).winOpen = false)
    (hroom : s.sq.windows.find? (fun w => decide (w.pixel = c.val)) = none ∨ (s.chan c).lastClose = none) (hk : k.valid = false) :
    Yields (.perShotCalibration t c k none) s fun x => (x.chan c).calUsed = (s.chan c).cal ∧ (x.chan c).calGood = 0
      ∧ x.h (Reg.TE_CAL_FAIL_CNT_COUNT (c / 8)) = min (s.h (Reg.TE_CAL_FAIL_CNT_COUNT (c / 8)) + 1) (Reg.TE_CAL_FAIL_CNT_COUNT (c / 8)).top
      ∧ (∀ d, d ≠ c.val → x.chan d = s.chan d) ∧ Frame t [.fields, .tiles, .events, .safety] s x := by
  refine ⟨_, execPerShotCalibration_of_room k hr hclosed hroom, ?_⟩
  rw [if_neg (Bool.eq_false_iff.mp hk)]
  have huntouched := ((s.clock t).showCodes_untouched c k).mono.trans (State.missCal_untouched _ c (s.chan c))
  have hcount := ((s.clock t).showCodes c k).h_missCal_count c (s.chan c)
  rw [State.h_showCodes_calFailCnt] at hcount
  obtain ⟨hchan, hothers⟩ := State.chan_of_setChan (s.tl_showCodes t c k) (State.tl_missCal _ c (s.chan c))
  generalize ((s.clock t).showCodes c k).missCal c (s.chan c) = x at *
  exact ⟨congrArg ChanState.calUsed hchan, congrArg ChanState.calGood hchan, hcount, hothers, Frame.of_untouched huntouched⟩

end Sys2Proof.Machine
end

section
/-!
SUPPORT. The emission reference of a shot (R93, R94, R97): returns that waited for it are stamped, which leaves the shots and the other
waiting returns alone.
-/

namespace Sys2Proof.Machine

/-! ### What stamping leaves as it was -/

/-- Entries are formed and measured: the shots and the returns that wait stay, reports are only added, and no part of the state beside the
tiles, the events and the fields changes. -/
structure Stamps (s x : State) : Prop where
  shots : x.tl.shots = s.tl.shots
  raw : x.tl.raw = s.tl.raw
  inbox : s.ev.inbox ⊆ x.ev.inbox
  untouched : Untouched [.fields, .tiles, .events] s x

namespace Stamps
variable {s x y : State}

theorem refl (s : State) : Stamps s s := ⟨rfl, rfl, List.Subset.refl _, Untouched.refl _ s⟩

theorem trans (h : Stamps s x) (h' : Stamps x y) : Stamps s y :=
  ⟨h'.shots.trans h.shots, h'.raw.trans h.raw, List.Subset.trans h.inbox h'.inbox, h.untouched.trans h'.untouched⟩

theorem foldl {α : Type} (f : State → α → State) (hf : ∀ s a, Stamps s (f s a)) (l : List α) (s : State) : Stamps s (l.foldl f s) :=
  List.foldlRecOn l f (motive := Stamps s) (refl s) fun x hx a _ => hx.trans (hf x a)

theorem ite {p : Prop} [Decidable p] (hx : Stamps s x) (hy : Stamps s y) : Stamps s (if p then x else y) := by
  split
  · exact hx
  · exact hy

/-- An operation that writes fields only. -/
theorem of_fields (h : Untouched [.fields] s x) : Stamps s x := by
  have htl : x.tl = s.tl := h .tiles (by simp)
  have hev : x.ev = s.ev := h .events (by simp)
  exact ⟨by rw [htl], by rw [htl], by rw [hev]; exact List.Subset.refl _, h.mono⟩

theorem flag (s : State) (f : Fld) (b : Bool) : Stamps s (s.flag f b) := of_fields (s.flag_untouched f b)

theorem inc (s : State) (f : Fld) : Stamps s (s.inc f) := of_fields (s.inc_untouched f)

theorem setChan (s : State) (c : Nat) (x : ChanState) : Stamps s (s.setChan c x) :=
  ⟨rfl, rfl, List.Subset.refl _, (s.setChan_untouched c x).mono⟩

theorem setStRun (s : State) (u : Nat) (x : StRun) : Stamps s (s.setStRun u x) :=
  ⟨rfl, rfl, List.Subset.refl _, (s.setStRun_untouched u x).mono⟩

theorem raise (s : State) (e : Ev) (a b : Nat) : Stamps s (s.raise e a b) :=
  ⟨rfl, rfl, List.subset_append_left _ _, (s.raise_untouched e a b).mono⟩

end Stamps

theorem State.stOffer_stamps (s : State) (u : Nat) (v : Option Nat) : Stamps s (s.stOffer u v) := by
  cases v with
  | none => exact Stamps.inc s _
  | some d =>
    have hresults (y : State) (x : StRun) : Stamps y (y.stResults u x) :=
      Stamps.of_fields (y.stResults_eq u x ▸ y.setFields_untouched (stValues u x))
    exact (Stamps.setStRun s u _).trans
      (Stamps.ite ((((hresults _ _).trans (Stamps.flag _ _ _)).trans (Stamps.flag _ _ _)).trans (Stamps.raise _ _ _ _)) (Stamps.refl _))

theorem State.stEntry_stamps (s : State) (c e : Nat) (first : Bool) (v : Option Nat) : Stamps s (s.stEntry c e first v) :=
  Stamps.foldl _ (fun s u => Stamps.ite (s.stOffer_stamps u v) (Stamps.refl s)) _ s

theorem State.stFfb_stamps (s : State) (e : Nat) (delay : Int) : Stamps s (s.stFfb e delay) :=
  Stamps.foldl _ (fun s u => Stamps.ite (s.stOffer_stamps u _) (Stamps.refl s)) _ s

theorem State.enterStamp_stamps (s : State) (r : RawEntry) (x : TeShot) (ffb : Int) : Stamps s (s.enterStamp r x ffb) := by
  have hcount (s : State) (p : Prop) [Decidable p] (f : Fld) : Stamps s (if p then s.inc f else s) := Stamps.ite (Stamps.inc s f) (Stamps.refl s)
  unfold State.enterStamp
  refine Stamps.trans ?_ (Stamps.ite (Stamps.trans (Stamps.inc _ _) (Stamps.setChan _ _ _)) (Stamps.setChan _ _ _))
  refine Stamps.trans ?_ (State.stEntry_stamps _ _ _ _ _)
  exact Stamps.trans (Stamps.trans (hcount s _ _) (hcount _ _ _)) (Stamps.setChan _ _ _)

/-! ### A shot's reference -/

/-- A shot takes its emission reference, and no return waits for it any longer (R93, R94). -/
def State.referShot (s : State) (x : TeShot) (ffb : Int) (fbs : Bool) : State :=
  { s with tl := { s.tl with
    shots := s.tl.shots.map (fun y => if y.seq = x.seq then { x with ffb := some ffb, fbs := fbs } else y)
    raw := s.tl.raw.filter (fun r => r.shot ≠ x.seq) } }

theorem State.referShot_untouched (s : State) (x : TeShot) (ffb : Int) (fbs : Bool) : Untouched [.tiles] s (s.referShot x ffb fbs) := by
  intro g hg
  cases g <;> simp [Group.same, State.referShot] at hg ⊢

theorem State.setFfb_stamps (s : State) (x : TeShot) (ffb : Int) (fbs : Bool) : Stamps (s.referShot x ffb fbs) (s.setFfb x ffb fbs) :=
  Stamps.foldl _ (fun s r => s.enterStamp_stamps r _ ffb) _ _

/-- What follows a shot's new reference, from a state with the tiles of `s`. -/
theorem Stamps.after_reference {s y z : State} {x : TeShot} {ffb : Int} {fbs : Bool} (hy : Stamps s y) (hz : Stamps (y.referShot x ffb fbs) z) :
    z.tl.shots = s.tl.shots.map (fun w => if w.seq = x.seq then { x with ffb := some ffb, fbs := fbs } else w)
      ∧ z.tl.raw = s.tl.raw.filter (fun r => r.shot ≠ x.seq) ∧ y.ev.inbox ⊆ z.ev.inbox ∧ Untouched [.fields, .tiles, .events] s z := by
  refine ⟨?_, ?_, hz.inbox, (hy.untouched.trans (y.referShot_untouched x ffb fbs).mono).trans hz.untouched⟩
  · rw [hz.shots, ← hy.shots]
    rfl
  · rw [hz.raw, ← hy.raw]
    rfl

/-! ### FFB_EDGE -/

theorem State.orBit_untouched (s : State) (f : Fld) (i : Nat) : Untouched [.fields] s (s.orBit f i) := by
  intro g hg
  cases g <;> simp [Group.same] at hg ⊢

theorem State.raiseOnce_stamps (s : State) (e : Ev) (a b : Nat) : Stamps s (s.raiseOnce e a b) := by
  unfold State.raiseOnce
  split
  · exact Stamps.refl s
  · refine ⟨rfl, rfl, List.subset_append_left _ _, (s.raise_untouched e a b).mono.trans fun g hg => ?_⟩
    cases g <;> simp [Group.same] at hg ⊢

/-- A delay that is off its nominal value by more than the tolerance is shown, and reported once per frame (R95). -/
def State.reportDrift (s : State) (e : Nat) (delay : Int) : State :=
  if decide ((delay - s.f (Reg.TE_FFB_NOM_NOM e)).natAbs > s.f Reg.TE_FFB_CFG_TOL) then
    (s.orBit Reg.TE_FFB_DRIFT_EMIT e).raiseOnce .ffbDrift e (low 20 delay)
  else s

theorem State.reportDrift_stamps (s : State) (e : Nat) (delay : Int) : Stamps s (s.reportDrift e delay) :=
  Stamps.ite ((Stamps.of_fields (s.orBit_untouched _ _)).trans (State.raiseOnce_stamps _ _ _ _)) (Stamps.refl s)

/-- An edge that comes in time for a shot (R93, R95, R106). -/
def State.takeFfb (s : State) (e : Nat) (x : TeShot) (ffb : Int) : State :=
  ((s.reportDrift e (stampDiff ffb x.place)).setFfb x ffb false).stFfb e (stampDiff ffb x.place)

theorem State.takeFfb_stamps (s : State) (e : Nat) (x : TeShot) (ffb : Int) :
    Stamps ((s.reportDrift e (stampDiff ffb x.place)).referShot x ffb false) (s.takeFfb e x ffb) :=
  Stamps.trans (State.setFfb_stamps _ x ffb false) (State.stFfb_stamps _ e _)

/-- What FFB_EDGE does: an edge outside the time of the shot that awaits one brings nothing. -/
def State.ffbEdge (s : State) (e : Nat) (ed : Edge) (k : CalCodes) : State :=
  match s.awaitingFfb e with
  | none => s
  | some x => if ed.instant < x.placedAt ∨ ed.instant > x.placedAt + 100 * s.ffbTmo then s else s.takeFfb e x (edgeAbs k ed)

theorem execFfbEdge_eq (t : Nat) (e : Emitter) (ed : Edge) (k : CalCodes) (s : State) : execFfbEdge t e ed k s = s.run t fun s => s.ffbEdge e ed k := rfl

theorem State.ffbEdge_of_awaited {s : State} {e : Nat} {ed : Edge} {y : TeShot} (k : CalCodes) (h : s.awaitingFfb e = some y)
    (hfrom : y.placedAt ≤ ed.instant) (hto : ed.instant ≤ y.placedAt + 100 * s.ffbTmo) : s.ffbEdge e ed k = s.takeFfb e y (edgeAbs k ed) := by
  rw [State.ffbEdge, h]
  exact if_neg (by omega)

theorem ffbEdge_yields (t : Nat) (e : Emitter) (ed : Edge) (k : CalCodes) (y : TeShot) (s : State) (hr : s.phase = .ready)
    (hawaited : s.awaitingFfb e = some y) (hfrom : y.placedAt ≤ ed.instant) (hto : ed.instant ≤ y.placedAt + 100 * s.ffbTmo) :
    Yields (.ffbEdge t e ed k) s fun x =>
      x.tl.shots = s.tl.shots.map (fun z => if z.seq = y.seq then { y with ffb := some (edgeAbs k ed), fbs := false } else z)
        ∧ x.tl.raw = s.tl.raw.filter (fun r => r.shot ≠ y.seq) ∧ Frame t [.fields, .tiles, .events] s x := by
  refine Yields.of_run (execFfbEdge t e ed k) hr rfl (execFfbEdge_eq t e ed k s) ?_
  rw [State.ffbEdge_of_awaited (s := s.clock t) k hawaited hfrom hto]
  have hdrift := (s.clock t).reportDrift_stamps e (stampDiff (edgeAbs k ed) y.place)
  obtain ⟨hshots, hraw, -, huntouched⟩ := hdrift.after_reference ((s.clock t).takeFfb_stamps e y (edgeAbs k ed))
  generalize (s.clock t).takeFfb e y (edgeAbs k ed) = x at *
  exact ⟨hshots, hraw, Frame.of_untouched huntouched⟩

/-! ### FFB_MISSING -/

/-- A shot without an edge is shown and reported (R94). -/
def State.reportMiss (s : State) (e : Nat) : State := (s.orBit Reg.TE_FFB_MISS_EMIT e).raise .ffbMissing e 0

/-- What FFB_MISSING does: before the time of the shot that awaits an edge is over, nothing. -/
def State.ffbMissing (s : State) (e : Nat) : State :=
  match s.awaitingFfb e with
  | none => s
  | some x =>
    if s.now < x.placedAt + 100 * s.ffbTmo then s else (s.reportMiss e).setFfb x (x.place + s.f (Reg.TE_FFB_NOM_NOM e)) true

theorem execFfbMissing_eq (t : Nat) (e : Emitter) (s : State) : execFfbMissing t e s = s.run t fun s => s.ffbMissing e := rfl

theorem State.ffbMissing_of_awaited {s : State} {e : Nat} {y : TeShot} (h : s.awaitingFfb e = some y) (hlate : y.placedAt + 100 * s.ffbTmo ≤ s.now) :
    s.ffbMissing e = (s.reportMiss e).setFfb y (y.place + s.f (Reg.TE_FFB_NOM_NOM e)) true := by
  rw [State.ffbMissing, h]
  exact if_neg (Nat.not_lt.mpr hlate)

theorem ffbMissing_yields (t : Nat) (e : Emitter) (y : TeShot) (s : State) (hr : s.phase = .ready) (hawaited : s.awaitingFfb e = some y)
    (hlate : y.placedAt + 100 * s.ffbTmo ≤ max s.now t) : Yields (.ffbMissing t e) s fun x =>
      x.tl.shots = s.tl.shots.map (fun z => if z.seq = y.seq then { y with ffb := some (y.place + s.f (Reg.TE_FFB_NOM_NOM e)), fbs := true } else z)
        ∧ x.tl.raw = s.tl.raw.filter (fun r => r.shot ≠ y.seq) ∧ (∃ r, r ∈ x.ev.inbox ∧ r.code = Ev.ffbMissing.code ∧ r.e10 = e.val)
        ∧ Frame t [.fields, .tiles, .events] s x := by
  refine Yields.of_run (execFfbMissing t e) hr rfl (execFfbMissing_eq t e s) ?_
  rw [State.ffbMissing_of_awaited (s := s.clock t) hawaited hlate]
  have hmiss : Stamps (s.clock t) ((s.clock t).reportMiss e) := (Stamps.of_fields (State.orBit_untouched _ _ _)).trans (Stamps.raise _ _ _ _)
  obtain ⟨hshots, hraw, hinbox, huntouched⟩ := hmiss.after_reference (State.setFfb_stamps _ y _ true)
  obtain ⟨r, hr, hcode, harg⟩ := ((s.clock t).orBit Reg.TE_FFB_MISS_EMIT e).inbox_raise .ffbMissing e 0
  have hmem : r ∈ ((s.clock t).reportMiss e).ev.inbox := hr ▸ List.mem_append_right _ List.mem_cons_self
  exact ⟨hshots, hraw, ⟨r, hinbox hmem, hcode, harg.trans (Nat.mod_eq_of_lt (e.isLt.trans (by decide)))⟩, Frame.of_untouched huntouched⟩

end Sys2Proof.Machine

namespace Sys2Proof
open Machine

/-- Settles O15: a calibration changes its own channel, and the count of failures lies apart from the channels' fields (calFailCnt_apart); the
returns that a shot's reference lets go are stamped, which leaves the shots and the other waiting returns alone (setFfb_stamps). -/
theorem shotTimesAreReferred : Obligations.ShotTimesAreReferred := by
  unfold Obligations.ShotTimesAreReferred
  exact ⟨perShotCalibration_good, perShotCalibration_bad, ffbEdge_yields, ffbMissing_yields⟩

end Sys2Proof
end

section
/-!
SUPPORT. A shot cycle that throttling was to skip when it was planned, and that begins after the step in effect has changed (R463).
-/

namespace Sys2Proof.Machine

/-- Whether a cycle is throttled is settled at its start, by the step in effect then. -/
theorem State.cyc_beginCycle (s : State) (y : Cycle) :
    (s.beginCycle y).sq.cyc = some { y with throttled := s.takeCopy.throttleSkips (y.no - 1) } := by
  unfold State.beginCycle
  dsimp only
  split <;> simp

/-- The second cycle of a frame was planned at step 3, which skips every second cycle; at its start no step is in effect. -/
def throttledPlan : Cycle := { no := 2, startAt := 0, len := 1280, next := 0, throttled := true }

def afterThrottling : State :=
  { State.reset with
    phase := .ready
    sq := { State.reset.sq with inScan := true, scanEndAt := 1, upcoming := some throttledPlan } }

theorem cyc_shotCycleStart_afterThrottling :
    ∃ x, exec (.shotCycleStart 0) afterThrottling = .next x ∧ x.sq.cyc = some { throttledPlan with throttled := false } :=
  ⟨_, rfl, ((afterThrottling.clock 0).cyc_beginCycle throttledPlan).trans rfl⟩

end Sys2Proof.Machine

namespace Sys2Proof
open Machine

/-- Refutes O17, in its second part: SHOT_CYCLE_START does not always run the cycle as it was planned. In `afterThrottling` the planned cycle
is marked as one that throttling skips; the step in effect at its start skips none, and the cycle runs unmarked (R463). -/
theorem not_shepherdCyclesRun : ¬ Obligations.ShepherdCyclesRun := by
  unfold Obligations.ShepherdCyclesRun
  rintro ⟨-, cycleStarts⟩
  obtain ⟨x, hx, asPlanned, -⟩ := cycleStarts 0 throttledPlan afterThrottling rfl rfl rfl rfl (by decide) rfl (by decide)
  obtain ⟨y, hy, unthrottled⟩ := cyc_shotCycleStart_afterThrottling
  obtain rfl : x = y := Host.Outcome.next.inj (hx.symm.trans hy)
  exact absurd (asPlanned.symm.trans unthrottled) (by decide)

end Sys2Proof
end

section
/-!
SUPPORT. An UNSUBSCRIBE in the queue of the service port that is answered by UDP (R381, R389).
-/

namespace Sys2Proof.Machine

/-- UNSUBSCRIBE of subscription 9, to be answered by a datagram. -/
def unsubscribeByUdp : Cmd := { id := 0, scores := [BitVec.ofNat 20 (0x31 * 2 ^ 12 + 1), 9], cls := 0, port := .udp 128 0 0 }

/-- The service port subscribes to events. -/
def eventSub : Sub := { idx := 9, kind := 1, arg := 0, who := .svc, lane := 0, expires := none }

/-- A running device whose service port's queue holds that command. -/
def unsubscribing : State :=
  { State.reset with
    phase := .ready
    cm := { State.reset.cm with queues := [{ key := .svc, cmds := [unsubscribeByUdp] }] }
    fl := { State.reset.fl with subs := [eventSub] } }

theorem unsubscribing_asks : (unsubscribing.clock 0).asks .svc 0x31 unsubscribeByUdp := by
  unfold State.asks
  decide +kernel

/-- A reply by UDP leaves the device. -/
theorem State.tx_ne_of_replied_udp {s x : State} {c : Cmd} {r : List Score} {l ip port : Nat} (hport : c.port = .udp l ip port)
    (h : s.replied x c r) : x.tx ≠ s.tx := by
  rw [State.replied, hport] at h
  obtain ⟨-, htx⟩ := h
  simp [htx]

end Sys2Proof.Machine

namespace Sys2Proof
open Machine

/-- Refutes O54, in its part on UNSUBSCRIBE: the statement does not say on which port the command arrived. In `unsubscribing` it is answered
by UDP: the reply leaves the device, and yet the frame has nothing leave it. -/
theorem not_commandsRunTheDevice : ¬ Obligations.CommandsRunTheDevice := by
  unfold Obligations.CommandsRunTheDevice
  rintro ⟨-, -, -, -, -, unsubscribes, -⟩
  obtain ⟨x, -, -, -, ⟨-, replied, -⟩, -, -, -, -, frame⟩ :=
    unsubscribes 0 unsubscribeByUdp eventSub unsubscribing rfl unsubscribing_asks rfl (by decide) rfl rfl rfl
  exact State.tx_ne_of_replied_udp rfl replied (frame .tx (by decide))

end Sys2Proof
end

section
/-!
SUPPORT. SHOT_COMMIT (R115, R116, R120, R121, R128): what a commit can come to, said once, and what a fired shot leaves in each part.
-/

namespace Sys2Proof.Machine

/-! ### A trigger cause writes only fields of the acquisition buffers -/

theorem OnlyFields.mono {l l' : List Fld} {s x : State} (h : OnlyFields l s x) (hl : l ⊆ l') : OnlyFields l' s x :=
  fun f hf => h f fun hm => hf (List.map_subset _ hl hm)

theorem OnlyFields.foldl {α : Type} {l : List Fld} (f : State → α → State) (as : List α) (hf : ∀ s, ∀ a ∈ as, OnlyFields l s (f s a)) (s : State) :
    OnlyFields l s (as.foldl f s) :=
  List.foldlRecOn as f (motive := OnlyFields l s) (OnlyFields.of_regs rfl) fun x hx a ha => hx.trans (hf x a ha)

/-- The fields that captures write, of all four buffers. -/
def captureFields : List Fld := [0, 1, 2, 3].flatMap aqFields

theorem State.aqFireAt_only (s : State) (u at_ : Nat) : OnlyFields captureFields s (s.aqFireAt u at_) := by
  have hhear : OnlyFields captureFields (s.holdUnit u at_) ((s.holdUnit u at_).hearAll u (s.aqFireOf u at_)) := by
    refine OnlyFields.foldl _ _ (fun s b hb => ?_) _
    split
    · exact (s.aqHear_onBuffer b _).fields.mono (fun f hf => List.mem_flatMap.mpr ⟨b, hb, hf⟩)
    · exact OnlyFields.of_regs rfl
  have hhold : (s.holdUnit u at_).regs = s.regs := by
    unfold State.holdUnit
    dsimp only
    split <;> rfl
  have htell (x : State) : ((x.tellShepherd u at_).tellNodes u at_).regs = x.regs := by
    unfold State.tellNodes State.tellShepherd
    split <;> split <;> simp
  rw [State.aqFireAt_eq]
  exact ((OnlyFields.of_regs hhold).trans hhear).trans (OnlyFields.of_regs (htell _))

theorem State.aqTriggerAt_only (s : State) (cause : AqCause) (at_ : Nat) : OnlyFields captureFields s (s.aqTriggerAt cause at_) := by
  refine OnlyFields.foldl _ _ (fun s u _ => ?_) s
  split
  · exact s.aqFireAt_only u at_
  · exact OnlyFields.of_regs rfl

/-! ### The entry reached -/

/-- An emitter's entry is reached: it is counted, and the emitter's dither register steps (R120). -/
def State.reach (s : State) (e : Nat) : State := ((s.countReached e).stepLfsr e).1

/-- The dither register of an emitter after its next step. -/
def State.nextLfsr (s : State) (e : Nat) : Nat := lfsrStep (s.sq.lfsr.getD e 0)

/-- The governor refuses a shot: it is counted, reported once per frame, and its emitter is inhibited (R128). -/
def State.refuseShot (s : State) (e w : Nat) : State :=
  let s := (s.inc (Reg.SQ_GOV_SKIP_COUNT e)).raiseOnce .govLimit e w
  { s with sq := { s.sq with govInh := if s.sq.govInh.contains e then s.sq.govInh else e :: s.sq.govInh } }

/-- Shepherd has passed on to the entry after entry `n`. -/
def State.passOn (s : State) (y : Cycle) (n : Nat) : State := { s with sq := { s.sq with cyc := some { y with next := n + 1 } } }

/-- What SHOT_COMMIT does with entry `n` of the running cycle (R114, R115, R121). -/
def State.commitEntry (s : State) (y : Cycle) (n : Nat) : State :=
  if entryValid s.sqReg s.entries s.cycLen n then (s.passOn y n).commitShot { y with next := n + 1 } (shotEntry s.sqReg n)
  else (s.passOn y n).passInvalid { y with next := n + 1 } (shotEntry s.sqReg n)

theorem Yields.of_shotCommit {t n : Nat} {y : Cycle} {s : State} {P : State → Prop} (hr : s.phase = .ready) (hcyc : s.sq.cyc = some y)
    (hnext : nextEnabled s.sqReg s.entries y.next = some n) (h : P (s.keep t ((s.clock t).commitEntry y n))) : Yields (.shotCommit t) s P := by
  have hnext' : nextEnabled (s.clock t).sqReg (s.clock t).entries y.next = some n := hnext
  have hstep : execShotCommit t s = .next (s.keep t ((s.clock t).commitEntry y n)) := by
    rw [execShotCommit, s.run_ready t _ hr]
    simp only [State.clock_sq, hcyc, hnext', Option.isSome_some, if_true, State.reachEntry]
    rfl
  exact ⟨_, hstep, h⟩

theorem Yields.of_shotCommit_valid {t n : Nat} {y : Cycle} {s : State} {P : State → Prop} (hr : s.phase = .ready) (hcyc : s.sq.cyc = some y)
    (hnext : nextEnabled s.sqReg s.entries y.next = some n) (hvalid : entryValid s.sqReg s.entries s.cycLen n = true)
    (h : P (s.keep t (((s.clock t).passOn y n).commitShot { y with next := n + 1 } (shotEntry s.sqReg n)))) : Yields (.shotCommit t) s P := by
  refine Yields.of_shotCommit hr hcyc hnext ?_
  rw [State.commitEntry]
  exact (if_pos (c := entryValid s.sqReg s.entries s.cycLen n = true) hvalid).symm ▸ h

/-! ### What a commit can come to -/

theorem State.commitShot_eq (s : State) (y : Cycle) (x : ShotEntry) : s.commitShot y x =
    let z := s.reach x.emit
    if y.throttled then z.inc Reg.TH_SKIP_CNT_COUNT
    else if y.startAt + 100 * (x.slot + winOfs s.sqReg x.win + winLen s.sqReg x.win) > s.sq.scanEndAt ∧ s.sq.inScan = true then z.dropScan 1
    else if (s.sq.stopReq && decide (s.sq.cyc ≠ some y)) || !(s.firing || (s.sq.startReq && !s.sq.inScan)) || s.th.fireInh
        || s.h Reg.TH_STAT_SHUTDOWN == 1 || s.sq.refLost || s.fireBankBad then z
    else if s.gateShut then z.inc Reg.SQ_SKIP_SERVO_COUNT
    else
      match s.govRefuses x.emit (y.startAt + 100 * x.slot) with
      | some w => z.refuseShot x.emit w
      | none => z.fireShot y x (ditherOf (s.nextLfsr x.emit) x.dspan) := rfl

/-- A shot is passed over for throttling, for SCAN_END, by an inhibit, by the servo gate or by the governor, or it fires. -/
theorem State.commitShot_cases {P : State → Prop} (s : State) (y : Cycle) (x : ShotEntry)
    (throttled : P ((s.reach x.emit).inc Reg.TH_SKIP_CNT_COUNT)) (late : P ((s.reach x.emit).dropScan 1)) (held : P (s.reach x.emit))
    (gated : P ((s.reach x.emit).inc Reg.SQ_SKIP_SERVO_COUNT)) (refused : ∀ w, P ((s.reach x.emit).refuseShot x.emit w))
    (fired : s.govRefuses x.emit (y.startAt + 100 * x.slot) = none → P ((s.reach x.emit).fireShot y x (ditherOf (s.nextLfsr x.emit) x.dspan))) :
    P (s.commitShot y x) := by
  rw [State.commitShot_eq]
  dsimp only
  split
  · exact throttled
  split
  · exact late
  split
  · exact held
  split
  · exact gated
  split
  · exact refused _
  · next hgov => exact fired hgov

/-- Where nothing stands against it, a shot fires. -/
theorem State.commitShot_fires {s : State} {y : Cycle} {x : ShotEntry} (hcyc : s.sq.cyc = some y) (hthrottled : y.throttled = false)
    (hfiring : s.firing = true) (hinh : s.th.fireInh = false) (hshut : s.h Reg.TH_STAT_SHUTDOWN = 0) (hlost : s.sq.refLost = false)
    (hbank : s.fireBankBad = false) (hgate : s.gateShut = false)
    (hfits : y.startAt + 100 * (x.slot + winOfs s.sqReg x.win + winLen s.sqReg x.win) ≤ s.sq.scanEndAt)
    (hgov : s.govRefuses x.emit (y.startAt + 100 * x.slot) = none) :
    s.commitShot y x = (s.reach x.emit).fireShot y x (ditherOf (s.nextLfsr x.emit) x.dspan) := by
  have hopen : ((s.sq.stopReq && decide (s.sq.cyc ≠ some y)) || !(s.firing || (s.sq.startReq && !s.sq.inScan)) || s.th.fireInh
      || s.h Reg.TH_STAT_SHUTDOWN == 1 || s.sq.refLost || s.fireBankBad) = false := by
    simp [hcyc, hfiring, hinh, hshut, hlost, hbank]
  rw [State.commitShot_eq]
  dsimp only
  rw [if_neg (by simp [hthrottled]), if_neg fun hlate => absurd hlate.1 (Nat.not_lt.mpr hfits), if_neg (Bool.eq_false_iff.mp hopen),
    if_neg (Bool.eq_false_iff.mp hgate), hgov]

/-! ### A fired shot -/

theorem State.sq_fireShot (s : State) (y : Cycle) (x : ShotEntry) (d : Nat) :
    (s.fireShot y x d).sq.lfsr = s.sq.lfsr ∧ (s.fireShot y x d).sq.reached = s.sq.reached ∧ (s.fireShot y x d).sq.cyc = s.sq.cyc
      ∧ Tab.get (s.fireShot y x d).sq.pulses (0, 0) x.emit
        = (y.startAt + 100 * x.slot + d, y.startAt + 100 * x.slot + d + 100 * max 1 (s.fq (Reg.SQ_EMIT_CFG_PW x.emit))) := by
  unfold State.fireShot
  simp [State.countFired, State.govAdd]

theorem State.inbound_fireShot (s : State) (y : Cycle) (x : ShotEntry) (d : Nat) :
    ∃ z : ShotDesc, (s.fireShot y x d).fd.inbound = s.fd.inbound ++ [z] ∧ z.seq = (s.h Reg.SQ_SEQ_SEQ + 1) % 2 ^ 20 ∧ z.emitter = x.emit
      ∧ z.dither = d ∧ z.group = x.group ∧ z.cycle = y.no := by
  unfold State.fireShot
  simp

theorem seq_not_captured : Reg.SQ_SEQ_SEQ.key ∉ captureFields.map Fld.key := by decide +kernel

/-- What a fired shot counts: the shot itself, its sequence number, its energy and the pixels left out for a window clash (R116, R125, R127). -/
def State.countFiring (s : State) (e at_ clashing : Nat) : State :=
  (((s.countFired e).setH Reg.SQ_SEQ_SEQ ((s.h Reg.SQ_SEQ_SEQ + 1) % 2 ^ 20)).govAdd e at_).add Reg.SQ_WIN_CLASH_COUNT clashing

/-- The windows of a shot that a live window of its pixel hinders (R116). -/
def State.clashing (s : State) (y : Cycle) (x : ShotEntry) : Nat :=
  (groupPixels s.sqReg x.group).length
    - ((groupPixels s.sqReg x.group).filter fun p =>
        !clashes s.liveWindows p (y.startAt + 100 * x.slot + 100 * winOfs s.sqReg x.win)
          (y.startAt + 100 * x.slot + 100 * winOfs s.sqReg x.win + 100 * winLen s.sqReg x.win)).length

theorem State.fireShot_only (s : State) (y : Cycle) (x : ShotEntry) (d : Nat) :
    OnlyFields captureFields (s.countFiring x.emit (y.startAt + 100 * x.slot) (s.clashing y x)) (s.fireShot y x d) := by
  unfold State.fireShot
  dsimp only
  refine OnlyFields.trans (OnlyFields.of_regs ?_) (State.aqTriggerAt_only _ _ _)
  simp only [State.sendShot_frame, State.send_regs]
  rfl

theorem State.h_seq_countFiring (s : State) (e at_ n : Nat) : (s.countFiring e at_ n).h Reg.SQ_SEQ_SEQ = (s.h Reg.SQ_SEQ_SEQ + 1) % 2 ^ 20 := by
  have hfits : (s.h Reg.SQ_SEQ_SEQ + 1) % 2 ^ 20 ≤ Reg.SQ_SEQ_SEQ.top := Nat.le_sub_one_of_lt (Nat.mod_lt _ (by decide))
  rw [State.countFiring, State.h_add_ne _ _ _ _ (by decide), State.h_congr (State.govAdd_frame _ _ _).2.2.2.2.2.2.1, State.h_setH_same,
    Nat.min_eq_left hfits]

theorem State.h_seq_fireShot (s : State) (y : Cycle) (x : ShotEntry) (d : Nat) :
    (s.fireShot y x d).h Reg.SQ_SEQ_SEQ = (s.h Reg.SQ_SEQ_SEQ + 1) % 2 ^ 20 :=
  (s.fireShot_only y x d _ seq_not_captured).trans (s.h_seq_countFiring _ _ _)

/-! ### SHOT_COMMIT -/

/-- What every commit keeps of an entry that was reached: the dither registers, the count of entries reached and the running cycle. -/
def CommitKeeps (s x : State) : Prop := x.sq.lfsr = s.sq.lfsr ∧ x.sq.reached = s.sq.reached ∧ x.sq.cyc = s.sq.cyc

theorem CommitKeeps.of_sq {s x : State} (h : x.sq = s.sq) : CommitKeeps s x := by simp [CommitKeeps, h]

theorem State.commitShot_keeps (s : State) (y : Cycle) (x : ShotEntry) : CommitKeeps (s.reach x.emit) (s.commitShot y x) := by
  refine s.commitShot_cases y x ?throttled ?late ?held ?gated ?refused ?fired
  case throttled => exact CommitKeeps.of_sq (State.inc_sq _ _)
  case late => exact ⟨rfl, rfl, rfl⟩
  case held => exact CommitKeeps.of_sq rfl
  case gated => exact CommitKeeps.of_sq (State.inc_sq _ _)
  case refused =>
    intro w
    simp [CommitKeeps, State.refuseShot]
  case fired =>
    intro _
    obtain ⟨hlfsr, hreached, hcyc, -⟩ := (s.reach x.emit).sq_fireShot y x (ditherOf (s.nextLfsr x.emit) x.dspan)
    exact ⟨hlfsr, hreached, hcyc⟩

theorem shotCommit_reaches (t : Nat) (y : Cycle) (n : Nat) (s : State) (hr : s.phase = .ready) (hcyc : s.sq.cyc = some y)
    (hnext : nextEnabled s.sqReg s.entries y.next = some n) (hvalid : entryValid s.sqReg s.entries s.cycLen n = true) :
    Yields (.shotCommit t) s fun x =>
      x.sq.lfsr = s.sq.lfsr.set (shotEntry s.sqReg n).emit (lfsrStep (s.sq.lfsr.getD (shotEntry s.sqReg n).emit 0))
        ∧ Tab.get x.sq.reached 0 (shotEntry s.sqReg n).emit = Tab.get s.sq.reached 0 (shotEntry s.sqReg n).emit + 1
        ∧ x.sq.cyc = some { y with next := n + 1 } ∧ x.sq.frameNo = s.sq.frameNo ∧ x.sv = s.sv ∧ x.ln = s.ln ∧ x.th = s.th := by
  refine Yields.of_shotCommit_valid hr hcyc hnext hvalid ?_
  obtain ⟨hlfsr, hreached, hnow⟩ := ((s.clock t).passOn y n).commitShot_keeps { y with next := n + 1 } (shotEntry s.sqReg n)
  refine ⟨hlfsr, ?_, hnow, ?_⟩
  · rw [State.keep_sq, hreached]
    exact Tab.get_set_same _ _ _ _
  · simp [State.passOn]

theorem shotCommit_fires (t : Nat) (y : Cycle) (n : Nat) (s : State) (hr : s.phase = .ready) (hcyc : s.sq.cyc = some y)
    (hnext : nextEnabled s.sqReg s.entries y.next = some n) (hvalid : entryValid s.sqReg s.entries s.cycLen n = true)
    (hthrottled : y.throttled = false) (hfiring : s.firing = true) (hinh : s.th.fireInh = false) (hshut : s.h Reg.TH_STAT_SHUTDOWN = 0)
    (hlost : s.sq.refLost = false) (hbank : s.fireBankBad = false) (hgate : s.gateShut = false)
    (hfits : y.startAt + 100 * ((shotEntry s.sqReg n).slot + winOfs s.sqReg (shotEntry s.sqReg n).win + winLen s.sqReg (shotEntry s.sqReg n).win)
      ≤ s.sq.scanEndAt)
    (hgov : s.govRefuses (shotEntry s.sqReg n).emit (y.startAt + 100 * (shotEntry s.sqReg n).slot) = none) :
    Yields (.shotCommit t) s fun x => x.h Reg.SQ_SEQ_SEQ = (s.h Reg.SQ_SEQ_SEQ + 1) % 2 ^ 20
      ∧ Tab.get x.sq.pulses (0, 0) (shotEntry s.sqReg n).emit
        = (y.startAt + 100 * (shotEntry s.sqReg n).slot
            + ditherOf (lfsrStep (s.sq.lfsr.getD (shotEntry s.sqReg n).emit 0)) (shotEntry s.sqReg n).dspan,
          y.startAt + 100 * (shotEntry s.sqReg n).slot
            + ditherOf (lfsrStep (s.sq.lfsr.getD (shotEntry s.sqReg n).emit 0)) (shotEntry s.sqReg n).dspan
            + 100 * max 1 (s.fq (Reg.SQ_EMIT_CFG_PW (shotEntry s.sqReg n).emit)))
      ∧ ∃ d, x.fd.inbound = s.fd.inbound ++ [d] ∧ d.seq = (s.h Reg.SQ_SEQ_SEQ + 1) % 2 ^ 20 ∧ d.emitter = (shotEntry s.sqReg n).emit
        ∧ d.dither = ditherOf (lfsrStep (s.sq.lfsr.getD (shotEntry s.sqReg n).emit 0)) (shotEntry s.sqReg n).dspan
        ∧ d.group = (shotEntry s.sqReg n).group ∧ d.cycle = y.no := by
  refine Yields.of_shotCommit_valid hr hcyc hnext hvalid ?_
  rw [State.commitShot_fires (s := (s.clock t).passOn y n) rfl hthrottled hfiring hinh hshut hlost hbank hgate hfits hgov]
  obtain ⟨-, -, -, hpulse⟩ := State.sq_fireShot (((s.clock t).passOn y n).reach (shotEntry s.sqReg n).emit) { y with next := n + 1 }
    (shotEntry s.sqReg n) (ditherOf (((s.clock t).passOn y n).nextLfsr (shotEntry s.sqReg n).emit) (shotEntry s.sqReg n).dspan)
  exact ⟨State.h_seq_fireShot _ _ _ _, hpulse, State.inbound_fireShot _ _ _ _⟩

/-! ### A budget of 0 -/

/-- Nothing is fired: the sequence number, Fold, the tiles and what has left the device stay. -/
def Unfired (s x : State) : Prop := x.h Reg.SQ_SEQ_SEQ = s.h Reg.SQ_SEQ_SEQ ∧ x.fd = s.fd ∧ x.tl = s.tl ∧ x.tx = s.tx

theorem Unfired.trans {s x y : State} (h : Unfired s x) (h' : Unfired x y) : Unfired s y := by
  obtain ⟨hseq, hfd, htl, htx⟩ := h
  obtain ⟨hseq', hfd', htl', htx'⟩ := h'
  exact ⟨hseq'.trans hseq, hfd'.trans hfd, htl'.trans htl, htx'.trans htx⟩

theorem Unfired.inc (s : State) {f : Fld} (hf : Reg.SQ_SEQ_SEQ.key ≠ f.key) : Unfired s (s.inc f) := ⟨s.h_inc_ne f _ hf, rfl, rfl, rfl⟩

theorem State.reach_passOn_unfired (s : State) (y : Cycle) (n e : Nat) : Unfired s ((s.passOn y n).reach e) := ⟨rfl, rfl, rfl, rfl⟩

theorem State.dropScan_unfired (s : State) (n : Nat) : Unfired s (s.dropScan n) :=
  ⟨(State.h_congr (s := s.add Reg.SQ_SCAN_DROP_COUNT n) rfl _).trans (s.h_add_ne _ _ _ (by decide)), rfl, rfl, rfl⟩

theorem State.refuseShot_unfired (s : State) (e w : Nat) : Unfired s (s.refuseShot e w) := by
  have hkey : Reg.SQ_SEQ_SEQ.key ≠ (Reg.SQ_GOV_SKIP_COUNT e).key := by
    simp only [Fld.key, Reg.SQ_SEQ_SEQ, Reg.SQ_SEQ, Reg.SQ_GOV_SKIP_COUNT, Reg.SQ_GOV_SKIP]
    omega
  have hregs : (s.refuseShot e w).regs = (s.inc (Reg.SQ_GOV_SKIP_COUNT e)).regs := by simp [State.refuseShot]
  exact ⟨(State.h_congr hregs _).trans (s.h_inc_ne _ _ hkey), by simp [State.refuseShot]⟩

/-- A shot costs at least 1, so a budget of 0 admits none (R127, R128). -/
theorem State.govRefuses_of_no_budget {s : State} {e : Nat} (h : s.fq (Reg.SQ_GOV_B100_B e) = 0) (x : Nat) : s.govRefuses e x ≠ none := by
  have hcost : 1 ≤ s.emitE e := Nat.le_max_left 1 _
  have hover : ledgerSum (s.ledger e).l100 (bucket 1 x) + s.emitE e > s.fq (Reg.SQ_GOV_B100_B e) := by omega
  unfold State.govRefuses
  dsimp only
  rw [if_pos hover]
  exact Option.some_ne_none 0

theorem State.commitEntry_unfired {s : State} {n : Nat} (y : Cycle) (h : s.fq (Reg.SQ_GOV_B100_B (shotEntry s.sqReg n).emit) = 0) :
    Unfired s (s.commitEntry y n) := by
  have hreach := s.reach_passOn_unfired y n (shotEntry s.sqReg n).emit
  unfold State.commitEntry
  split
  · refine State.commitShot_cases _ _ _ ?throttled ?late ?held ?gated ?refused ?fired
    case throttled => exact hreach.trans (Unfired.inc _ (by decide))
    case late => exact hreach.trans (State.dropScan_unfired _ 1)
    case held => exact hreach
    case gated => exact hreach.trans (Unfired.inc _ (by decide))
    case refused => exact fun w => hreach.trans (State.refuseShot_unfired _ _ w)
    case fired => exact fun hadmitted => absurd hadmitted (State.govRefuses_of_no_budget (s := s.passOn y n) h _)
  · unfold State.passInvalid
    dsimp only
    split
    · exact hreach.trans (Unfired.inc _ (by decide))
    · exact hreach

theorem shotCommit_no_budget (t : Nat) (y : Cycle) (n : Nat) (s : State) (hr : s.phase = .ready) (hcyc : s.sq.cyc = some y)
    (hnext : nextEnabled s.sqReg s.entries y.next = some n) (hbudget : s.fq (Reg.SQ_GOV_B100_B (shotEntry s.sqReg n).emit) = 0) :
    Yields (.shotCommit t) s fun x => x.h Reg.SQ_SEQ_SEQ = s.h Reg.SQ_SEQ_SEQ ∧ x.fd = s.fd ∧ x.tl = s.tl ∧ x.tx = s.tx :=
  Yields.of_shotCommit hr hcyc hnext (State.commitEntry_unfired (s := s.clock t) y hbudget)

end Sys2Proof.Machine

namespace Sys2Proof
open Machine

/-- Settles O18: a commit passes a reached entry over or fires it (commitShot_cases), and keeps the dither registers, the count of entries
reached and the running cycle in every case (commitShot_keeps); what follows the new sequence number writes other fields (h_seq_fireShot);
a shot costs at least 1, so with a budget of 0 the governor stands against it (govRefuses_of_no_budget). -/
theorem shotsAreCommitted : Obligations.ShotsAreCommitted := by
  unfold Obligations.ShotsAreCommitted
  exact ⟨shotCommit_reaches, shotCommit_fires, shotCommit_no_budget⟩

end Sys2Proof
end

section
/-!
SUPPORT. The shot-slot plan (R134 to R138): what hearing, announcing, agreeing and activating leave in the plan, and what they leave alone.
-/

namespace Sys2Proof.Machine

/-- Fold with its memory is as it was where neither part is touched. -/
theorem Untouched.fd {l : List Group} {s x : State} (h : Untouched l s x) (hfold : Group.fold ∉ l := by simp)
    (hmem : Group.foldMem ∉ l := by simp) : x.fd = s.fd := by
  have hrest : { x.fd with mem := {} } = { s.fd with mem := {} } := h .fold hfold
  have hsame : x.fd.mem = s.fd.mem := h .foldMem hmem
  calc x.fd = { { x.fd with mem := {} } with mem := x.fd.mem } := rfl
    _ = { { s.fd with mem := {} } with mem := s.fd.mem } := by rw [hrest, hsame]
    _ = s.fd := rfl

/-! ### What the plan's operations leave alone -/

theorem State.setPlan_untouched (s : State) (p : Plan) : Untouched [.shepherd] s (s.setPlan p) := by
  intro g hg
  cases g <;> simp [Group.same, State.setPlan] at hg ⊢

theorem State.raiseAbout_untouched (s : State) (src : Nat) (e : Ev) (sev : Sev) (a b : Nat) :
    Untouched [.events] s (s.raiseAbout src e sev a b) := by
  intro g hg
  cases g <;> simp [Group.same, State.raiseAbout] at hg ⊢

theorem State.planAgree_untouched (s : State) : Untouched [.link, .shepherd, .fields] s s.planAgree := by
  intro g hg
  cases g <;> simp [Group.same] at hg ⊢

theorem State.planJudge_untouched (s : State) : Untouched [.shepherd, .fields, .events] s s.planJudge :=
  ((s.setPlan_untouched _).mono.trans (State.setH_untouched _ _ _).mono).trans
    (Untouched.foldl _ (fun s (p : PlanPeer) => (s.raiseAbout_untouched p.ident .planMismatch .amber 0 0).mono) _ _)

theorem State.planHear_untouched (s : State) (ident period spacing : Nat) (upd : PlanPeer → PlanPeer) :
    Untouched [.shepherd, .fields, .events] s (s.planHear ident period spacing upd) :=
  (s.setPlan_untouched _).mono.trans (State.planJudge_untouched _)

theorem State.sendPartner_untouched (s : State) (p : Partner) (kind : Nat) (body : List Score) :
    Untouched [.link, .tx] s (s.sendPartner p kind body) := by
  intro g hg
  cases g <;> simp [Group.same] at hg ⊢

/-! ### Agreement -/

/-- PLAN_AGREED keeps what has been announced and heard, and every link. -/
theorem State.planAgree_keeps (s : State) :
    s.planAgree.sq.plan.peers = s.sq.plan.peers ∧ s.planAgree.sq.plan.earliest = s.sq.plan.earliest ∧ s.planAgree.fl.links = s.fl.links := by
  unfold State.planAgree
  split
  · exact ⟨rfl, rfl, rfl⟩
  · split <;> simp [State.setPlan]

/-! ### PLAN_ANN_RECEIVE -/

/-- Where the links stay as they are after the packet was taken, the receiver holds what followed it. -/
theorem State.arrived_dropArrived {s x : State} (t : Nat) {l : Lane} {r : List RxPacket} (h : x.fl.links = ((s.clock t).dropArrived l r).fl.links) :
    ((s.keep t x).link (s.linkOf l).1).arrived = r := by
  have hlinks : (s.keep t x).fl.links = Tab.set s.fl.links {} (s.linkOf l).1 { s.link (s.linkOf l).1 with arrived := r } := by
    rw [State.keep_fl, h, State.dropArrived, State.linkOf_congr (State.clock_regs s t)]
    rfl
  rw [State.link, hlinks, Tab.get_set_same]

theorem State.sq_planJudge (s : State) :
    s.planJudge.sq = { s.sq with plan := { s.sq.plan with peers := s.sq.plan.peers.map fun p => { p with mismatch := s.planOut p } } } :=
  foldl_inv State.sq _ (fun (s : State) (p : PlanPeer) => s.raiseAbout p.ident .planMismatch .amber 0 0) _ fun _ _ => rfl

/-- What is known of a node before it is heard (R135). -/
def State.peerBefore (s : State) (ident : Nat) : PlanPeer :=
  (s.sq.plan.peers.find? fun p => decide (p.ident = ident)).getD
    { ident := ident, period := 0, spacing := 0, digest := 0, earliest := 0, heardAt := none, mismatch := false }

theorem State.ident_peerBefore (s : State) (ident : Nat) : (s.peerBefore ident).ident = ident := by
  unfold State.peerBefore
  cases hold : s.sq.plan.peers.find? fun p => decide (p.ident = ident) with
  | none => rfl
  | some old => exact of_decide_eq_true (List.find?_some (p := fun p : PlanPeer => decide (p.ident = ident)) hold)

/-- A node that is heard is among the peers with what it announced. -/
theorem State.planHear_peer (s : State) (ident period spacing digest earliest : Nat) :
    ∃ p ∈ (s.planHear ident period spacing fun p => { p with digest := digest, earliest := earliest, heardAt := some s.now }).sq.plan.peers,
      p.ident = ident ∧ p.digest = digest ∧ p.earliest = earliest ∧ p.heardAt = some s.now := by
  unfold State.planHear
  rw [State.sq_planJudge]
  exact ⟨_, List.mem_map_of_mem (List.mem_append_right _ (List.mem_singleton_self _)), s.ident_peerBefore ident, rfl, rfl, rfl⟩

/-- What an announcement does once its packet is taken. -/
def State.hearPlan (s : State) (a : PlanAnn) : State :=
  (s.planHear a.ident a.period a.spacing fun p => { p with digest := a.digest, earliest := a.earliest, heardAt := some s.now }).planAgree

theorem State.hearPlan_untouched (s : State) (a : PlanAnn) : Untouched [.link, .shepherd, .fields, .events] s (s.hearPlan a) :=
  (s.planHear_untouched _ _ _ _).mono.trans (State.planAgree_untouched _).mono

theorem State.links_hearPlan (s : State) (a : PlanAnn) : (s.hearPlan a).fl.links = s.fl.links :=
  (State.planAgree_keeps _).2.2.trans (congrArg FrezenLink.links (s.planHear_untouched _ _ _ _ .link (by simp)))

theorem planAnnReceive_hears (t : Nat) (l : Lane) (b : List Score) (z : Nat) (r : List RxPacket) (a : PlanAnn) (s : State) (hr : s.phase = .ready)
    (hh : s.holds l 8 b z r) (hpartner : s.planPartners.any (fun p => decide (p.ident = a.ident)) = true) :
    Yields (.planAnnReceive t (.link l) a) s fun x =>
      (∃ p ∈ x.sq.plan.peers, p.ident = a.ident ∧ p.digest = a.digest ∧ p.earliest = a.earliest ∧ p.heardAt = some (max s.now t))
        ∧ (x.link (s.linkOf l).1).arrived = r ∧ Frame t [.link, .shepherd, .fields, .events] s x := by
  have htake := State.takePacket_of_holds (State.holds_clock t hh)
  rw [← State.dropArrived] at htake
  have hstep : execPlanAnnReceive t (.link l) a s = .next (s.keep t (((s.clock t).dropArrived l r).hearPlan a)) := by
    rw [execPlanAnnReceive, s.run_ready t _ hr]
    simp only [htake]
    rw [if_pos (show ((s.clock t).dropArrived l r).planPartners.any (fun p => decide (p.ident = a.ident)) = true from hpartner)]
    rfl
  obtain ⟨p, hmem, hp⟩ := ((s.clock t).dropArrived l r).planHear_peer a.ident a.period a.spacing a.digest a.earliest
  refine ⟨_, hstep, ⟨p, ?_, hp⟩, ?_, Frame.of_untouched ?_⟩
  · exact (State.planAgree_keeps _).1.symm ▸ hmem
  · exact State.arrived_dropArrived t (State.links_hearPlan _ a)
  · exact ((s.clock t).setLink_untouched _ _).mono.trans (State.hearPlan_untouched _ a)

/-! ### PLAN_ANN_SEND -/

/-- Every reachable partner that takes part in plans is sent an announcement. -/
def State.announcePlan (s : State) (e : Nat) : State :=
  s.planPartners.foldl (fun s p =>
    if s.portUp p.port then s.sendPartner p 8 (Config.planAnnBody s.ident s.framePer s.spacing s.ownDigest e) else s) s

theorem State.announcePlan_untouched (s : State) (e : Nat) : Untouched [.link, .tx] s (s.announcePlan e) := by
  refine Untouched.foldl _ (fun s p => ?_) _ _
  split
  · exact s.sendPartner_untouched p _ _
  · exact Untouched.refl _ s

/-- The earliest activation that this node announces (R136). -/
def State.setEarliest (s : State) (e : Nat) : State := s.setPlan { s.sq.plan with earliest := some e }

theorem planAnnSend_announces (t : Nat) (s : State) (hr : s.phase = .ready) (hstate : s.h Reg.SQ_PLAN_STAT_STATE = 1) :
    Yields (.planAnnSend t) s fun x => x.sq.plan.earliest = some ((s.clock t).nodeTime + 100 * lsbMs) ∧ x.fd = s.fd ∧ x.tl = s.tl
      ∧ x.regs.setA = s.regs.setA ∧ x.regs.setB = s.regs.setB := by
  have hstate' : (s.clock t).h Reg.SQ_PLAN_STAT_STATE = 1 := hstate
  have hstep : execPlanAnnSend t s = .next (s.keep t
      ((((s.clock t).setEarliest ((s.clock t).nodeTime + 100 * lsbMs)).announcePlan ((s.clock t).nodeTime + 100 * lsbMs)).planAgree)) := by
    rw [execPlanAnnSend, s.run_ready t _ hr]
    dsimp only
    rw [if_pos (.inl hstate'), if_pos hstate']
    rfl
  generalize (s.clock t).nodeTime + 100 * lsbMs = e at *
  have hset : Untouched [.shepherd] (s.clock t) ((s.clock t).setEarliest e) := State.setPlan_untouched _ _
  have hsend := ((s.clock t).setEarliest e).announcePlan_untouched e
  have hall := (hset.mono.trans hsend.mono).trans (l := [.shepherd, .link, .tx, .fields]) (State.planAgree_untouched _).mono
  have hearliest : (((s.clock t).setEarliest e).announcePlan e).planAgree.sq.plan.earliest = some e :=
    (State.planAgree_keeps _).2.1.trans (congrArg (·.plan.earliest) (hsend .shepherd (by simp)))
  exact ⟨_, hstep, hearliest, hall.fd, hall .tiles (by simp), hall .sets (by simp)⟩

/-! ### PLAN_ACTIVATION -/

theorem State.planActivate_untouched (s : State) : Untouched [.shepherd, .fields] s s.planActivate := by
  intro g hg
  cases g <;> simp [Group.same, State.planActivate, State.setPlan] at hg ⊢

theorem State.planActivate_shows (s : State) :
    s.planActivate.h Reg.SQ_PLAN_STAT_STATE = 3 ∧ s.planActivate.h Reg.SQ_PLAN_STAT_N = min s.sq.plan.newN Reg.SQ_PLAN_STAT_N.top := by
  have hregs (f : Fld) : s.planActivate.h f
      = ((((s.setH Reg.SQ_PLAN_STAT_STATE 3).setH Reg.SQ_PLAN_STAT_N s.sq.plan.newN).setH Reg.SQ_PLAN_DIGEST_H_DIGEST
        (s.sq.plan.newDigest / 2 ^ 16)).setH Reg.SQ_PLAN_DIGEST_L_DIGEST (s.sq.plan.newDigest % 2 ^ 16)).h f := State.h_congr rfl f
  constructor
  · rw [hregs, State.h_setH_ne _ _ _ _ (by decide), State.h_setH_ne _ _ _ _ (by decide), State.h_setH_ne _ _ _ _ (by decide), State.h_setH_same]
    rfl
  · rw [hregs, State.h_setH_ne _ _ _ _ (by decide), State.h_setH_ne _ _ _ _ (by decide), State.h_setH_same]

theorem planActivation_activates (t n : Nat) (s : State) (hr : s.phase = .ready) (hplan : s.sq.plan.activation = some n)
    (hstate : s.h Reg.SQ_PLAN_STAT_STATE = 2) (hdue : n ≤ (s.clock t).nodeTime) :
    Yields (.planActivation t) s fun x => x.h Reg.SQ_PLAN_STAT_STATE = 3 ∧ x.h Reg.SQ_PLAN_STAT_N = min s.sq.plan.newN Reg.SQ_PLAN_STAT_N.top
      ∧ x.sq.plan.phiDue = some s.sq.plan.newPhi ∧ x.sq.plan.activation = none ∧ Frame t [.shepherd, .fields] s x := by
  have hstep : execPlanActivation t s = .next (s.keep t (s.clock t).planActivate) := by
    have hnow : (s.clock t).h Reg.SQ_PLAN_STAT_STATE = 2 ∧ n ≤ (s.clock t).nodeTime := ⟨hstate, hdue⟩
    rw [execPlanActivation, s.run_ready t _ hr]
    simp only [State.clock_sq, hplan, if_pos hnow]
  obtain ⟨hactive, hn⟩ := (s.clock t).planActivate_shows
  exact ⟨_, hstep, hactive, hn, rfl, rfl, Frame.of_untouched (s.clock t).planActivate_untouched⟩

/-! ### PLAN_TIMEOUT -/

/-- The time in ANNOUNCE starts anew (R137). -/
def State.announceAnew (s : State) : State := s.setPlan { s.sq.plan with since := s.now }

theorem planTimeout_reports (t : Nat) (s : State) (hr : s.phase = .ready) (hstate : s.h Reg.SQ_PLAN_STAT_STATE = 1)
    (hlong : s.sq.plan.since + 2 * lsbS ≤ max s.now t) :
    Yields (.planTimeout t) s fun x => x.sq.plan.since = max s.now t
      ∧ (∃ z, x.ev.inbox = s.ev.inbox ++ [z] ∧ z.code = Ev.planTimeout.code) ∧ Frame t [.shepherd, .events] s x := by
  have hwaited : (s.clock t).h Reg.SQ_PLAN_STAT_STATE = 1 ∧ (s.clock t).sq.plan.since + 2 * lsbS ≤ (s.clock t).now := ⟨hstate, hlong⟩
  have hstep : execPlanTimeout t s = .next (s.keep t ((s.clock t).announceAnew.raise .planTimeout (s.clock t).participants.length 0)) := by
    rw [execPlanTimeout, s.run_ready t _ hr]
    dsimp only
    rw [if_pos hwaited]
    rfl
  obtain ⟨z, hinbox, hcode, -⟩ := (s.clock t).announceAnew.inbox_raise .planTimeout (s.clock t).participants.length 0
  exact ⟨_, hstep, rfl, ⟨z, hinbox, hcode⟩,
    Frame.of_untouched (((s.clock t).setPlan_untouched _).mono.trans (State.raise_untouched _ _ _ _).mono)⟩

end Sys2Proof.Machine

namespace Sys2Proof
open Machine

/-- Settles O42: sending keeps what is announced, PLAN_AGREED keeps it and what was heard (planAgree_keeps), and the judgement of the peers
changes their mismatch alone (sq_planJudge). -/
theorem plansAreNegotiated : Obligations.PlansAreNegotiated := by
  unfold Obligations.PlansAreNegotiated
  exact ⟨planAnnSend_announces, planAnnReceive_hears, planActivation_activates, planTimeout_reports⟩

end Sys2Proof
end

section
/-!
SUPPORT. External starts (R131, R132, R249, R321): what a registered start can come to, and what an application point leaves as it is.
-/

namespace Sys2Proof.Machine

/-! ### The end of the scan part and what the receivers hold -/

/-- The end of the scan part and the packets that every receiver holds are in `x` as in `s`. -/
structure State.Steady (s x : State) : Prop where
  scanEnd : x.sq.scanEndAt = s.sq.scanEndAt
  arrived : ∀ l, (x.link l).arrived = (s.link l).arrived

namespace State.Steady

theorem trans {s x y : State} (h : s.Steady x) (h' : x.Steady y) : s.Steady y :=
  ⟨h'.scanEnd.trans h.scanEnd, fun l => (h'.arrived l).trans (h.arrived l)⟩

theorem of_links {s x : State} (hend : x.sq.scanEndAt = s.sq.scanEndAt) (hlinks : x.fl.links = s.fl.links) : s.Steady x :=
  ⟨hend, fun l => congrArg (fun links => (Tab.get links {} l).arrived) hlinks⟩

theorem refl (s : State) : s.Steady s := of_links rfl rfl

theorem of_parts {s x : State} (hsq : x.sq = s.sq) (hfl : x.fl = s.fl) : s.Steady x := of_links (congrArg _ hsq) (congrArg _ hfl)

theorem of_untouched {l : List Group} {s x : State} (h : Untouched l s x) (hsq : Group.shepherd ∉ l := by simp)
    (hfl : Group.link ∉ l := by simp) : s.Steady x := of_parts (h .shepherd hsq) (h .link hfl)

theorem foldl {α : Type} (f : State → α → State) (hf : ∀ (s : State) a, s.Steady (f s a)) (as : List α) (s : State) : s.Steady (as.foldl f s) :=
  List.foldlRecOn as f (motive := s.Steady) (refl s) fun x hx a _ => hx.trans (hf x a)

theorem setLink (s : State) (l : Nat) {k : Link} (h : k.arrived = (s.link l).arrived) : s.Steady (s.setLink l k) := by
  refine ⟨rfl, fun i => ?_⟩
  have hget := Tab.get_set s.fl.links {} l i k
  rw [State.link, State.setLink, hget]
  split
  · next hi => rw [h, hi]
  · rfl

end State.Steady

/-! ### Packets that are sent -/

theorem State.steady_sendLink (s : State) (l kind : Nat) (body : List Score) : s.Steady (s.sendLink l kind body) := by
  unfold State.sendLink
  split
  · exact Steady.setLink s l rfl
  · exact Steady.refl s

theorem State.steady_sendUdp (s : State) (lane ip port kind : Nat) (body : List Score) : s.Steady (s.sendUdp lane ip port kind body) :=
  (Steady.setLink s lane (k := { s.link lane with txSeq := ((s.link lane).txSeq + 1) % 256 }) rfl).trans (Steady.of_parts rfl rfl)

theorem State.steady_sendPartner (s : State) (p : Partner) (kind : Nat) (body : List Score) : s.Steady (s.sendPartner p kind body) := by
  unfold State.sendPartner
  split
  · exact s.steady_sendLink _ kind body
  · exact s.steady_sendUdp _ _ _ kind body

theorem State.steady_sendSub (s : State) (u : Sub) (kind : Nat) (body : List Score) : s.Steady (s.sendSub u kind body) := by
  unfold State.sendSub
  split
  · exact Steady.refl s
  · split
    · exact s.steady_sendPartner _ kind body
    · exact Steady.refl s
  · exact s.steady_sendUdp _ _ _ kind body

/-! ### Trips -/

theorem State.steady_sendZone (s : State) (n : Nat) : s.Steady (s.sendZone n) := by
  unfold State.sendZone
  split
  · exact Steady.refl s
  · refine Steady.trans (Steady.of_parts ?_ ?_) (Steady.foldl _ (fun s u => ?_) _ _)
    · simp
    · simp
    · split
      · split
        · exact s.steady_sendSub u _ _
        · exact Steady.refl s
      · exact Steady.of_parts (by simp) (by simp)

theorem State.steady_siTrip (s : State) (n cause : Nat) : s.Steady (s.siTrip n cause) := by
  have hmove (x : State) (c : Nat) : x.Steady (x.tripMove n c) := Steady.of_parts (by simp) (by simp)
  unfold State.siTrip State.zoneOut
  split
  · split
    · exact (hmove s cause).trans (State.steady_sendZone _ n)
    · exact (hmove s cause).trans (hmove _ 11)
  · exact Steady.refl s

theorem State.steady_siTripAll (s : State) (cause : Nat) : s.Steady (s.siTripAll cause) :=
  Steady.foldl _ (fun s n => s.steady_siTrip n cause) _ s

/-! ### A mismatch of the configuration (R430) -/

/-- A mismatch is shown and counted, and the first one reported. -/
def State.showMismatch (s : State) : State :=
  let first := s.h Reg.CF_STAT_MISMATCH == 0
  let s := ((s.flag Reg.CF_STAT_MISMATCH true).flag Reg.CF_STAT_MISMATCH_SEEN true).inc Reg.CF_MISMATCH_CNT_COUNT
  if first then s.raise .configCrc 0 0 else s

/-- A mismatch trips the safety channels where SF_CFG.CRC_TRIP says so. -/
def State.tripOnMismatch (s : State) : State := if s.sf Reg.SF_CFG_CRC_TRIP = 1 then s.siTripAll 15 else s

/-- A mismatch stops firing where CF_CRC_CFG.STOP_FIRE says so. -/
def State.stopOnMismatch (s : State) : State :=
  if s.fo Reg.CF_CRC_CFG_STOP_FIRE = 1 then
    let s := s.flag Reg.CF_STAT_STOPPED true
    if s.firing || s.sq.startReq then s.haltFiring else s
  else s

theorem State.cfMismatch_eq (s : State) : s.cfMismatch = s.showMismatch.tripOnMismatch.stopOnMismatch := rfl

theorem State.showMismatch_untouched (s : State) : Untouched [.fields, .events] s s.showMismatch := by
  have hcount := ((s.flag_untouched Reg.CF_STAT_MISMATCH true).trans (State.flag_untouched _ Reg.CF_STAT_MISMATCH_SEEN true)).trans
    (State.inc_untouched _ Reg.CF_MISMATCH_CNT_COUNT)
  unfold State.showMismatch
  dsimp only
  split
  · exact hcount.mono.trans (State.raise_untouched _ _ _ _).mono
  · exact hcount.mono

theorem State.steady_haltFiring (s : State) : s.Steady s.haltFiring := by
  refine Steady.of_links ?_ (by simp)
  unfold State.haltFiring
  split
  · rfl
  · simp [State.stopFiring]

theorem State.steady_cfMismatch (s : State) : s.Steady s.cfMismatch := by
  have htrip (x : State) : x.Steady x.tripOnMismatch := by
    unfold State.tripOnMismatch
    split
    · exact x.steady_siTripAll 15
    · exact Steady.refl x
  have hstop (x : State) : x.Steady x.stopOnMismatch := by
    unfold State.stopOnMismatch
    dsimp only
    split
    · have hflag : x.Steady (x.flag Reg.CF_STAT_STOPPED true) := Steady.of_untouched (x.flag_untouched _ _)
      split
      · exact hflag.trans (State.steady_haltFiring _)
      · exact hflag
    · exact Steady.refl x
  rw [State.cfMismatch_eq]
  exact ((Steady.of_untouched s.showMismatch_untouched).trans (htrip _)).trans (hstop _)

/-! ### An application point, a snapshot, a copy taken -/

theorem State.steady_takeEffect (s : State) (w : LiveWrite) : s.Steady (s.takeEffect w) := by
  unfold State.takeEffect
  dsimp only
  split
  · exact Steady.of_parts (by simp) (by simp)
  · have hset : s.Steady { s.setAct w.addr w.value with cf := { (s.setAct w.addr w.value).cf with passDirty := true } } :=
      Steady.of_parts (by simp) (by simp)
    split
    · exact hset
    · exact hset.trans (State.steady_cfMismatch _)

theorem State.links_looked (s : State) (u a : Nat) : (s.looked u a).fl.links = s.fl.links := by
  unfold State.looked
  dsimp only
  repeat' split
  all_goals simp [State.joinProfile, State.joinGroup, State.join]

theorem State.steady_looked (s : State) (u a : Nat) : s.Steady (s.looked u a) := Steady.of_links (by simp) (s.links_looked u a)

theorem State.steady_applyAt (s : State) (p : Nat → Nat → Bool) : s.Steady (s.applyAt p) := by
  refine Steady.trans (Steady.trans ?_ (Steady.foldl (fun s (w : LiveWrite) => s.takeEffect w) State.steady_takeEffect _ _))
    (Steady.foldl (fun s (x : Nat × Nat) => s.looked x.1 x.2) (fun s x => s.steady_looked x.1 x.2) _ _)
  exact Steady.of_parts rfl rfl

theorem State.steady_planJudge (s : State) : s.Steady s.planJudge :=
  Steady.of_links ((congrArg Shepherd.scanEndAt s.sq_planJudge).trans rfl) (congrArg FrezenLink.links (s.planJudge_untouched .link (by simp)))

theorem State.steady_snapshotAt (s : State) (swap : Bool) : s.Steady (s.snapshotAt swap) :=
  ((s.steady_applyAt _).trans (State.steady_planJudge _)).trans (Steady.of_links rfl rfl)

theorem State.steady_takeCopy (s : State) : s.Steady s.takeCopy := by
  unfold State.takeCopy
  split
  · exact Steady.of_links rfl rfl
  · exact Steady.refl s

theorem State.nextCopy_takeCopy (s : State) : s.takeCopy.sq.nextCopy = none := by
  unfold State.takeCopy
  split
  · rfl
  · assumption

/-! ### A cycle foreseen -/

theorem State.foresee_untouched (s : State) (at_ no : Nat) : Untouched [.shepherd] s (s.foresee at_ no) := by
  intro g hg
  unfold State.foresee State.underNext
  split
  · exact g.same_refl s
  · split <;> cases g <;> simp [Group.same] at hg ⊢

theorem State.regs_foresee (s : State) (at_ no : Nat) : (s.foresee at_ no).regs = s.regs := by
  unfold State.foresee State.underNext
  split
  · rfl
  · split <;> rfl

theorem State.cyc_foresee (s : State) (at_ no : Nat) : (s.foresee at_ no).sq.cyc = s.sq.cyc := by
  unfold State.foresee State.underNext
  split
  · rfl
  · split <;> rfl

theorem State.steady_foresee (s : State) (at_ no : Nat) : s.Steady (s.foresee at_ no) := by
  refine Steady.of_links ?_ (congrArg _ (s.foresee_untouched at_ no .link (by simp)))
  unfold State.foresee State.underNext
  split
  · rfl
  · split <;> rfl

/-- A start before SCAN_END is foreseen from the copy that governs, where none waits. -/
theorem State.upcoming_foresee {s : State} {at_ : Nat} (hcopy : s.sq.nextCopy = none) (hbefore : at_ < s.sq.scanEndAt) (no : Nat) :
    (s.foresee at_ no).sq.upcoming = some (s.newCycle at_ no) := by
  unfold State.foresee State.underNext
  rw [if_neg (by simp [hbefore]), hcopy]

/-! ### What a start can come to -/

/-- The source is the one that starts cycles (R131). -/
def State.startsFrom (s : State) (src : ExtSource) : Prop := s.fq Reg.SQ_CFG_START_SRC = 1 ∧ s.fq Reg.SQ_CFG_EXT_SEL = src.sel

/-- A start that arrives while a cycle runs is held (R132). -/
def State.holdStart (s : State) (y : Cycle) : State :=
  let s := s.flag Reg.SQ_STAT_PEND true
  if s.sq.nextCopy.isSome && s.sq.upcoming.isNone then s.foresee y.endAt (y.no + 1) else s

/-- A start that arrives with no cycle running or planned plans the next one (R132). -/
def State.planStartCycle (s : State) : State := (s.snapshotAt false).takeCopy.foresee (s.now + 3200) (s.sq.cycles + 1)

theorem State.externalStart_eq {s : State} {src : ExtSource} (h : s.startsFrom src) : s.externalStart src =
    if !s.sq.inScan then s.inc Reg.SQ_START_DROP_COUNT
    else if s.sq.halted then s
    else if s.sq.cyc.isSome || s.sq.upcoming.isSome then
      if s.h Reg.SQ_STAT_PEND = 1 then s.inc Reg.SQ_START_DROP_COUNT
      else match s.sq.cyc with
        | some y => s.holdStart y
        | none => s.flag Reg.SQ_STAT_PEND true
    else if s.now + 3200 ≥ s.sq.scanEndAt then s.inc Reg.SQ_START_DROP_COUNT
    else s.planStartCycle := by
  obtain ⟨hsrc, hsel⟩ := h
  unfold State.externalStart
  rw [if_pos (by simp [hsrc, hsel])]
  rfl

/-- Where a start is dropped: no scan part runs, or one is held already, or it comes too late for this scan part. -/
def State.dropsStart (s : State) : Prop :=
  s.sq.inScan = false ∨ (s.sq.halted = false ∧ s.sq.cyc.isSome = true ∧ s.h Reg.SQ_STAT_PEND = 1)
    ∨ (s.sq.halted = false ∧ s.sq.cyc = none ∧ s.sq.upcoming = none ∧ s.sq.scanEndAt ≤ s.now + 3200)

theorem State.externalStart_of_drop {s : State} {src : ExtSource} (h : s.startsFrom src) (hdrop : s.dropsStart) :
    s.externalStart src = s.inc Reg.SQ_START_DROP_COUNT := by
  rw [State.externalStart_eq h]
  cases hscan : s.sq.inScan with
  | false => rfl
  | true =>
    obtain hgap | ⟨hgo, hcyc, hpend⟩ | ⟨hgo, hcyc, hup, hlate⟩ := hdrop
    · simp [hscan] at hgap
    · simp [hgo, hcyc, hpend]
    · simp [hgo, hcyc, hup, hlate]

theorem State.externalStart_of_running {s : State} {src : ExtSource} {y : Cycle} (h : s.startsFrom src) (hscan : s.sq.inScan = true)
    (hgo : s.sq.halted = false) (hcyc : s.sq.cyc = some y) (hpend : s.h Reg.SQ_STAT_PEND = 0) : s.externalStart src = s.holdStart y := by
  rw [State.externalStart_eq h]
  simp [hscan, hgo, hcyc, hpend]

theorem State.externalStart_of_idle {s : State} {src : ExtSource} (h : s.startsFrom src) (hscan : s.sq.inScan = true)
    (hgo : s.sq.halted = false) (hcyc : s.sq.cyc = none) (hup : s.sq.upcoming = none) (hintime : s.now + 3200 < s.sq.scanEndAt) :
    s.externalStart src = s.planStartCycle := by
  rw [State.externalStart_eq h]
  simp [hscan, hgo, hcyc, hup, hintime]

/-- A held start leaves one field, and the running cycle runs on. -/
theorem State.holdStart_spec (s : State) (y : Cycle) :
    (s.holdStart y).h Reg.SQ_STAT_PEND = 1 ∧ (s.holdStart y).sq.cyc = s.sq.cyc ∧ OnlyFields [Reg.SQ_STAT_PEND] s (s.holdStart y)
      ∧ Untouched [.fields, .shepherd] s (s.holdStart y) := by
  have hpend : (s.flag Reg.SQ_STAT_PEND true).h Reg.SQ_STAT_PEND = 1 := State.h_flag_same _ _ _
  have honly : OnlyFields [Reg.SQ_STAT_PEND] s (s.flag Reg.SQ_STAT_PEND true) := OnlyFields.flag (by simp) s true
  have hflag := s.flag_untouched Reg.SQ_STAT_PEND true
  unfold State.holdStart
  dsimp only
  split
  · have hforesee := (s.flag Reg.SQ_STAT_PEND true).foresee_untouched y.endAt (y.no + 1)
    have hregs := (s.flag Reg.SQ_STAT_PEND true).regs_foresee y.endAt (y.no + 1)
    exact ⟨(State.h_congr hregs _).trans hpend, State.cyc_foresee _ _ _, honly.trans (OnlyFields.of_regs hregs), hflag.mono.trans hforesee.mono⟩
  · exact ⟨hpend, rfl, honly, hflag.mono⟩

theorem State.steady_planStartCycle (s : State) : s.Steady s.planStartCycle :=
  ((s.steady_snapshotAt false).trans (State.steady_takeCopy _)).trans (State.steady_foresee _ _ _)

theorem State.planStartCycle_plans {s : State} (hintime : s.now + 3200 < s.sq.scanEndAt) :
    ∃ z, s.planStartCycle.sq.upcoming = some z ∧ z.startAt = s.now + 3200 ∧ z.no = s.sq.cycles + 1 ∧ z.next = 0 := by
  have hend := ((s.steady_snapshotAt false).trans (State.steady_takeCopy _)).scanEnd
  exact ⟨_, State.upcoming_foresee (State.nextCopy_takeCopy _) (hend.symm ▸ hintime) _, rfl, rfl, rfl⟩

/-! ### GOVERNOR_RELEASE_CHECK -/

theorem governorReleaseCheck_releases (t : Nat) (s : State) (hr : s.phase = .ready) :
    Yields (.governorReleaseCheck t) s fun x =>
      (∀ e, e ∈ x.sq.govInh ↔ e ∈ s.sq.govInh ∧ (s.govRefuses e (max s.now t)).isSome = true) ∧ x.sq = { s.sq with govInh := x.sq.govInh }
        ∧ Frame t [.shepherd] s x := by
  refine Yields.of_run (execGovernorReleaseCheck t) hr rfl rfl ⟨fun e => List.mem_filter, rfl, Frame.of_untouched fun g hg => ?_⟩
  cases g <;> simp [Group.same] at hg ⊢

/-! ### EXTERNAL_START -/

/-- A start from outside: one of the trigger unit uses up its oldest firing of the last 50 ns. -/
theorem Yields.of_externalStart {t : Nat} {src : ExtSource} {s : State} {P : State → Prop} (hr : s.phase = .ready) (hsrc : src ≠ .triggerUnit)
    (h : P (s.keep t ((s.clock t).externalStart src))) : Yields (.externalStart t src) s P := by
  refine Yields.of_run (execExternalStart t src) hr rfl rfl ?_
  rwa [if_neg hsrc]

/-- The firings of the trigger unit that Shepherd has still to register. -/
def State.setToShepherd (s : State) (r : List Nat) : State := { s with aq := { s.aq with toShepherd := r } }

theorem State.setToShepherd_untouched (s : State) (r : List Nat) : Untouched [.acquire] s (s.setToShepherd r) := by
  intro g hg
  cases g <;> simp [Group.same, State.setToShepherd] at hg ⊢

theorem Yields.of_triggerStart {t a : Nat} {r : List Nat} {s : State} {P : State → Prop} (hr : s.phase = .ready)
    (hfired : (s.aq.toShepherd.filter fun x => decide (max s.now t ≤ x + 6400)) = a :: r)
    (h : P (s.keep t (((s.clock t).setToShepherd r).externalStart .triggerUnit))) : Yields (.externalStart t .triggerUnit) s P := by
  refine Yields.of_run (execExternalStart t .triggerUnit) hr rfl rfl ?_
  rw [if_pos rfl]
  simp only [State.clock_aq, State.clock_now, hfired]
  exact h

theorem externalStart_drops (t : Nat) (src : ExtSource) (s : State) (hr : s.phase = .ready) (hsrc : src ≠ .triggerUnit)
    (hstart : s.fq Reg.SQ_CFG_START_SRC = 1) (hsel : s.fq Reg.SQ_CFG_EXT_SEL = src.sel) (hgap : s.sq.inScan = false) :
    Yields (.externalStart t src) s fun x =>
      x.h Reg.SQ_START_DROP_COUNT = min (s.h Reg.SQ_START_DROP_COUNT + 1) Reg.SQ_START_DROP_COUNT.top
        ∧ OnlyFields [Reg.SQ_START_DROP_COUNT] s x ∧ Frame t [.fields] s x := by
  refine Yields.of_externalStart hr hsrc ?_
  rw [State.externalStart_of_drop (s := s.clock t) ⟨hstart, hsel⟩ (.inl hgap)]
  exact ⟨State.h_inc_same _ _, OnlyFields.inc (by simp) (s.clock t), Frame.of_untouched (State.inc_untouched _ _)⟩

theorem externalStart_holds (t : Nat) (src : ExtSource) (s : State) (hr : s.phase = .ready) (hsrc : src ≠ .triggerUnit)
    (hgo : s.sq.halted = false) (hstart : s.fq Reg.SQ_CFG_START_SRC = 1) (hsel : s.fq Reg.SQ_CFG_EXT_SEL = src.sel)
    (hscan : s.sq.inScan = true) (hcyc : s.sq.cyc.isSome = true) (hpend : s.h Reg.SQ_STAT_PEND = 0) :
    Yields (.externalStart t src) s fun x => x.h Reg.SQ_STAT_PEND = 1 ∧ x.sq.cyc = s.sq.cyc ∧ OnlyFields [Reg.SQ_STAT_PEND] s x
      ∧ Frame t [.fields, .shepherd] s x := by
  obtain ⟨y, hy⟩ := Option.isSome_iff_exists.mp hcyc
  refine Yields.of_externalStart hr hsrc ?_
  rw [State.externalStart_of_running (s := s.clock t) ⟨hstart, hsel⟩ hscan hgo hy hpend]
  obtain ⟨hheld, hruns, honly, huntouched⟩ := (s.clock t).holdStart_spec y
  exact ⟨hheld, hruns, honly, Frame.of_untouched huntouched⟩

theorem externalStart_plans (t : Nat) (src : ExtSource) (s : State) (hr : s.phase = .ready) (hsrc : src ≠ .triggerUnit)
    (hgo : s.sq.halted = false) (hstart : s.fq Reg.SQ_CFG_START_SRC = 1) (hsel : s.fq Reg.SQ_CFG_EXT_SEL = src.sel)
    (hscan : s.sq.inScan = true) (hcyc : s.sq.cyc = none) (hup : s.sq.upcoming = none) (hintime : max s.now t + 3200 < s.sq.scanEndAt) :
    Yields (.externalStart t src) s fun x => ∃ z, x.sq.upcoming = some z ∧ z.startAt = max s.now t + 3200 ∧ z.no = s.sq.cycles + 1 := by
  refine Yields.of_externalStart hr hsrc ?_
  rw [State.externalStart_of_idle (s := s.clock t) ⟨hstart, hsel⟩ hscan hgo hcyc hup hintime]
  obtain ⟨z, hz, hat, hno, -⟩ := State.planStartCycle_plans (s := s.clock t) hintime
  exact ⟨z, hz, hat, hno⟩

theorem triggerStart_holds (t a : Nat) (r : List Nat) (s : State) (hr : s.phase = .ready)
    (hfired : (s.aq.toShepherd.filter fun x => decide (max s.now t ≤ x + 6400)) = a :: r)
    (hgo : s.sq.halted = false) (hstart : s.fq Reg.SQ_CFG_START_SRC = 1) (hsel : s.fq Reg.SQ_CFG_EXT_SEL = ExtSource.triggerUnit.sel)
    (hscan : s.sq.inScan = true) (hcyc : s.sq.cyc.isSome = true) (hpend : s.h Reg.SQ_STAT_PEND = 0) :
    Yields (.externalStart t .triggerUnit) s fun x => x.h Reg.SQ_STAT_PEND = 1 ∧ x.sq.cyc = s.sq.cyc ∧ x.aq = { s.aq with toShepherd := r }
      ∧ OnlyFields [Reg.SQ_STAT_PEND] s x ∧ Frame t [.fields, .shepherd, .acquire] s x := by
  obtain ⟨y, hy⟩ := Option.isSome_iff_exists.mp hcyc
  refine Yields.of_triggerStart hr hfired ?_
  rw [State.externalStart_of_running (s := (s.clock t).setToShepherd r) ⟨hstart, hsel⟩ hscan hgo hy hpend]
  obtain ⟨hheld, hruns, honly, huntouched⟩ := ((s.clock t).setToShepherd r).holdStart_spec y
  exact ⟨hheld, hruns, huntouched .acquire (by simp), honly,
    Frame.of_untouched (((s.clock t).setToShepherd_untouched r).mono.trans huntouched.mono)⟩

theorem triggerStart_plans (t a : Nat) (r : List Nat) (s : State) (hr : s.phase = .ready)
    (hfired : (s.aq.toShepherd.filter fun x => decide (max s.now t ≤ x + 6400)) = a :: r)
    (hgo : s.sq.halted = false) (hstart : s.fq Reg.SQ_CFG_START_SRC = 1) (hsel : s.fq Reg.SQ_CFG_EXT_SEL = ExtSource.triggerUnit.sel)
    (hscan : s.sq.inScan = true) (hcyc : s.sq.cyc = none) (hup : s.sq.upcoming = none) (hintime : max s.now t + 3200 < s.sq.scanEndAt) :
    Yields (.externalStart t .triggerUnit) s fun x =>
      ∃ z, x.sq.upcoming = some z ∧ z.startAt = max s.now t + 3200 ∧ z.no = s.sq.cycles + 1 := by
  refine Yields.of_triggerStart hr hfired ?_
  rw [State.externalStart_of_idle (s := (s.clock t).setToShepherd r) ⟨hstart, hsel⟩ hscan hgo hcyc hup hintime]
  obtain ⟨z, hz, hat, hno, -⟩ := State.planStartCycle_plans (s := (s.clock t).setToShepherd r) hintime
  exact ⟨z, hz, hat, hno⟩

theorem triggerStart_forgets (t : Nat) (s : State) (hr : s.phase = .ready)
    (hfired : (s.aq.toShepherd.filter fun x => decide (max s.now t ≤ x + 6400)) = []) :
    Yields (.externalStart t .triggerUnit) s fun x => x.aq = { s.aq with toShepherd := [] } ∧ Frame t [.acquire] s x := by
  have hstep : execExternalStart t .triggerUnit s = .next (s.keep t ((s.clock t).setToShepherd [])) := by
    rw [execExternalStart, s.run_ready t _ hr, if_pos rfl]
    simp only [State.clock_aq, State.clock_now, hfired]
    rfl
  exact ⟨_, hstep, rfl, Frame.of_untouched (State.setToShepherd_untouched _ _)⟩

end Sys2Proof.Machine

namespace Sys2Proof
open Machine

/-- Settles O19: a start is dropped, held or plans the next cycle by the state it finds (externalStart_eq); the snapshot before the planned
cycle keeps SCAN_END (steady_snapshotAt), so the cycle is foreseen. -/
theorem governorAndExternalStarts : Obligations.GovernorAndExternalStarts := by
  unfold Obligations.GovernorAndExternalStarts
  exact ⟨governorReleaseCheck_releases, externalStart_drops, externalStart_holds, externalStart_plans, triggerStart_holds, triggerStart_plans,
    triggerStart_forgets⟩

end Sys2Proof
end

section
/-!
SUPPORT. What heads report (R140, R141, R313 to R317) and TRIG (R321): a packet is taken from its link, and what it says acts on one head,
on the fold intake or on the coming cycle.
-/

namespace Sys2Proof.Machine

/-! ### A packet is taken -/

theorem State.dropArrived_untouched (s : State) (l : Lane) (r : List RxPacket) : Untouched [.link] s (s.dropArrived l r) := s.setLink_untouched _ _

theorem State.takePacket_dropArrived {s : State} {l : Lane} {kind : Nat} {b : List Score} {z : Nat} {r : List RxPacket} (t : Nat)
    (h : s.holds l kind b z r) : (s.clock t).takePacket (.link l) kind = ((s.clock t).dropArrived l r, some b) :=
  State.takePacket_of_holds (State.holds_clock t h)

/-- Where the receivers hold what they held after the packet was taken, the receiver holds what followed it. -/
theorem State.arrived_of_steady {s x : State} (t : Nat) {l : Lane} {r : List RxPacket} (h : ((s.clock t).dropArrived l r).Steady x) :
    ((s.keep t x).link (s.linkOf l).1).arrived = r :=
  (h.arrived _).trans (State.arrived_dropArrived (x := (s.clock t).dropArrived l r) t rfl)

/-! ### ENDSHOT_RECEIVE -/

theorem State.intake_foldl (s : State) (f : Nat → Intake) (ps : List Nat) :
    (ps.foldl (fun s p => s.intake (f p)) s).fd.intake = s.fd.intake ++ ps.map f := by
  induction ps generalizing s with
  | nil => simp
  | cons p ps ih => rw [List.foldl_cons, ih, State.intake, List.map_cons, List.append_assoc, List.singleton_append]

theorem endshotReceive_closes (t : Nat) (l : Lane) (b : List Score) (z : Nat) (r : List RxPacket) (k : Nat) (s : State) (hr : s.phase = .ready)
    (hh : s.holds l 11 b z r) (hslot : s.slotOn (s.linkOf l).1 = some k) :
    Yields (.endshotReceive t l) s fun x =>
      x.fd.intake = s.fd.intake ++ (s.shotPixels (b.getD 0 0).toNat k).map (fun p => .token p (b.getD 0 0).toNat)
        ∧ (x.link (s.linkOf l).1).arrived = r ∧ Frame t [.link, .fold] s x := by
  have hslot' : ((s.clock t).dropArrived l r).slotOn (((s.clock t).dropArrived l r).linkOf l).1 = some k := hslot
  have hstep : execEndshotReceive t l s = .next (s.keep t ((s.shotPixels (b.getD 0 0).toNat k).foldl
      (fun s p => s.intake (.token p (b.getD 0 0).toNat)) ((s.clock t).dropArrived l r))) := by
    rw [execEndshotReceive, s.run_ready t _ hr]
    simp only [State.takePacket_dropArrived t hh, hslot']
    rfl
  have hfold := Untouched.foldl (fun (s : State) (p : Nat) => s.intake (.token p (b.getD 0 0).toNat)) (fun s p => s.intake_untouched _)
    (s.shotPixels (b.getD 0 0).toNat k) ((s.clock t).dropArrived l r)
  exact ⟨_, hstep, State.intake_foldl ((s.clock t).dropArrived l r) (.token · (b.getD 0 0).toNat) _,
    State.arrived_dropArrived t (congrArg FrezenLink.links (hfold .link (by simp))),
    Frame.of_untouched (((s.clock t).dropArrived_untouched l r).mono.trans hfold.mono)⟩

/-! ### HEVT_RECEIVE -/

/-- An event of a shot whose offset is known, of a pixel of the head, within range and with no loss owed, goes to Fold. -/
theorem State.headEvent_intake {s : State} {k seq : Nat} {o : Int} {a b : Score} (hen : s.f Reg.FD_CFG_EN = 1)
    (hpix : b.toNat % 2 ^ 14 < s.headCount k) (hlast : 512 + s.headBase k + b.toNat % 2 ^ 14 ≤ 16895) (hloss : (s.head k).lossPix = [])
    (hlow : 0 ≤ (a.toNat : Int) - o) (hhigh : (a.toNat : Int) - o ≤ 1048575) :
    s.headEvent k seq (some o) a b = s.intake (.head (512 + s.headBase k + b.toNat % 2 ^ 14) seq (BitVec.ofInt 20 ((a.toNat : Int) - o))
      (decide (b.toNat / 2 ^ 19 = 1)) (decide (b.toNat / 2 ^ 18 % 2 = 1))) := by
  have hrange : ((some o).map fun o => (a.toNat : Int) - o).any (fun x => decide (x < 0) || decide (1048575 < x)) = false := by
    simp only [Option.map_some, Option.any_some, Bool.or_eq_false_iff, decide_eq_false_iff_not]
    omega
  have hfits : ¬(b.toNat % 2 ^ 14 ≥ s.headCount k ∨ 512 + s.headBase k + b.toNat % 2 ^ 14 > 16895) := by omega
  unfold State.headEvent
  dsimp only
  rw [if_neg (by rw [hrange]; decide), if_neg (by rw [hen]; decide), if_neg hfits]
  simp [hloss]

theorem hevtReceive_reports (t : Nat) (l : Lane) (q a b : Score) (z : Nat) (r : List RxPacket) (k : Nat) (y : TeShot) (n : Int) (s : State)
    (hr : s.phase = .ready) (hh : s.holds l 12 [q, a, b] z r) (hen : s.f Reg.FD_CFG_EN = 1) (hslot : s.slotOn (s.linkOf l).1 = some k)
    (hgap : (s.link (s.linkOf l).1).gap = false) (hshot : s.tl.shots.find? (fun v => decide (v.seq = q.toNat)) = some y)
    (hffb : y.ffb = some n) (hpix : b.toNat % 2 ^ 14 < s.headCount k) (hlast : 512 + s.headBase k + b.toNat % 2 ^ 14 ≤ 16895)
    (hloss : (s.head k).lossPix = []) (hlow : 0 ≤ (a.toNat : Int) - (stampDiff n y.place - sgn 20 (s.f (Reg.TE_FFB_DLY_DLY y.emitter))))
    (hhigh : (a.toNat : Int) - (stampDiff n y.place - sgn 20 (s.f (Reg.TE_FFB_DLY_DLY y.emitter))) ≤ 1048575) :
    Yields (.hevtReceive t l) s fun x =>
      x.fd.intake = s.fd.intake ++ [.head (512 + s.headBase k + b.toNat % 2 ^ 14) q.toNat
        (BitVec.ofInt 20 ((a.toNat : Int) - (stampDiff n y.place - sgn 20 (s.f (Reg.TE_FFB_DLY_DLY y.emitter)))))
        (decide (b.toNat / 2 ^ 19 = 1)) (decide (b.toNat / 2 ^ 18 % 2 = 1))] ∧ Frame t [.link, .fold] s x := by
  have hslot' : ((s.clock t).dropArrived l r).slotOn ((s.clock t).linkOf l).1 = some k := hslot
  have hgap' : (((s.clock t).dropArrived l r).link ((s.clock t).linkOf l).1).gap = false := by
    rw [State.dropArrived, State.link, State.setLink, Tab.get_set_same]
    exact hgap
  have hshot' : ((s.clock t).dropArrived l r).tl.shots.find? (fun v => decide (v.seq = ([q, a, b].getD 0 0).toNat)) = some y := hshot
  have hevent := State.headEvent_intake (s := (s.clock t).dropArrived l r) (seq := q.toNat) hen hpix hlast hloss hlow hhigh
  have hstep : execHevtReceive t l s = .next (s.keep t (((s.clock t).dropArrived l r).headEvent k q.toNat
      (some (stampDiff n y.place - sgn 20 (s.f (Reg.TE_FFB_DLY_DLY y.emitter)))) a b)) := by
    rw [execHevtReceive, s.run_ready t _ hr]
    simp only [State.takePacket_dropArrived t hh, hslot', hgap', Bool.false_eq_true, if_false, hshot', hffb]
    rfl
  rw [hevent] at hstep
  exact ⟨_, hstep, rfl, Frame.of_untouched (((s.clock t).dropArrived_untouched l r).mono.trans (State.intake_untouched _ _).mono)⟩

/-! ### HEAD_TIME_REQUEST and TIME_REPLY_TIMEOUT -/

theorem State.head_setHead_same (s : State) (k : Nat) (x : Head) : (s.setHead k x).head k = x := Tab.get_set_same _ _ _ _

theorem State.head_setHead_ne (s : State) {k j : Nat} (x : Head) (h : j ≠ k) : (s.setHead k x).head j = s.head j := Tab.get_set_ne _ _ _ _ h

theorem State.setHead_untouched (s : State) (k : Nat) (x : Head) : Untouched [.link] s (s.setHead k x) := by
  intro g hg
  cases g <;> simp [Group.same] at hg ⊢

theorem State.sendLink_untouched (s : State) (l kind : Nat) (body : List Score) : Untouched [.link] s (s.sendLink l kind body) := by
  intro g hg
  cases g <;> simp [Group.same] at hg ⊢

theorem State.head_sendLink (s : State) (l kind : Nat) (body : List Score) (k : Nat) : (s.sendLink l kind body).head k = s.head k := by
  unfold State.sendLink
  split <;> rfl

/-- A link that can carry packets takes those of every kind (R302). -/
theorem State.takes_of_portUp {s : State} {l : Nat} (h : s.portUp (.lane l) = true) (kind : Nat) : (s.link l).takes kind = true := by
  simp only [State.portUp, Bool.and_eq_true] at h
  obtain ⟨⟨hup, hcaps⟩, hwelcome⟩ := h
  simp [Link.takes, hup, hcaps, hwelcome]

/-- A TIME packet waits on the head's link, and a request is under way. -/
theorem State.askTime_spec {s : State} {y : Head} (k : Nat) (htakes : (s.link y.lane).takes 13 = true) :
    (s.askTime k y).head k = { y with request := some s.now, t1 := none }
      ∧ (s.askTime k y).link y.lane = (s.link y.lane).push ⟨13, (Config.timeBody s.freeCtr).take 8⟩
      ∧ Untouched [.link, .freeCtr] s (s.askTime k y) := by
  refine ⟨(State.head_sendLink _ _ _ _ _).trans (State.head_setHead_same _ _ _), ?_, ?_⟩
  · exact (State.link_sendLink_same _ _ _ _).trans (if_pos htakes)
  · exact ((s.setHead_untouched k _).trans (State.sendLink_untouched _ _ _ _)).mono.trans (State.fresh_untouched _).mono

theorem headTimeRequest_asks (t : Nat) (k : HeadSlot) (s : State) (hr : s.phase = .ready) (hattached : s.h (Reg.FL_HEAD_STAT_ATTACHED k) = 1)
    (hport : s.portUp (.lane (s.head k).lane) = true) (hdue : dueAgain (max s.now t) (s.head k).asked lsbMs = true) :
    Yields (.headTimeRequest t k) s fun x =>
      (x.head k).request = some (max s.now t) ∧ (x.head k).asked = some (max s.now t) ∧ (x.head k).t1 = none
      ∧ (x.link (s.head k).lane).queue = ((s.link (s.head k).lane).push ⟨13, (Config.timeBody s.freeCtr).take 8⟩).queue
      ∧ Frame t [.link, .freeCtr] s x := by
  have hready : (s.clock t).h (Reg.FL_HEAD_STAT_ATTACHED k) = 1 ∧ (s.clock t).portUp (.lane ((s.clock t).head k).lane) = true := ⟨hattached, hport⟩
  have hdue' : dueAgain (s.clock t).now ((s.clock t).head k).asked lsbMs = true := hdue
  have hstep : execHeadTimeRequest t k s = .next (s.keep t ((s.clock t).askTime k
      { s.head k with asked := some (max s.now t), extraNow := false })) := by
    rw [execHeadTimeRequest, s.run_ready t _ hr]
    dsimp only
    rw [if_pos hready, if_pos hdue']
    rfl
  obtain ⟨hhead, hlink, huntouched⟩ := State.askTime_spec (s := s.clock t)
    (y := { s.head k with asked := some (max s.now t), extraNow := false }) k (State.takes_of_portUp hport 13)
  exact ⟨_, hstep, congrArg Head.request hhead, congrArg Head.asked hhead, congrArg Head.t1 hhead, congrArg Link.queue hlink,
    Frame.of_untouched huntouched⟩

theorem timeReplyTimeout_ends (t : Nat) (k : HeadSlot) (n : Nat) (s : State) (hr : s.phase = .ready) (hasked : (s.head k).request = some n)
    (hlong : n + 100 * lsbUs ≤ max s.now t) : Yields (.timeReplyTimeout t k) s fun x =>
      x.head k = { s.head k with request := none } ∧ (∀ j, j ≠ k.val → x.head j = s.head j) ∧ Frame t [.link] s x := by
  have hasked' : ((s.clock t).head k).request = some n := hasked
  have hstep : execTimeReplyTimeout t k s = .next (s.keep t ((s.clock t).setHead k { s.head k with request := none })) := by
    rw [execTimeReplyTimeout, s.run_ready t _ hr]
    simp only [hasked']
    exact congrArg (fun x => Host.Outcome.next (s.keep t x)) (if_pos hlong)
  exact ⟨_, hstep, State.head_setHead_same _ _ _, fun j hj => State.head_setHead_ne (s.clock t) _ hj, Frame.of_untouched (State.setHead_untouched _ _ _)⟩

/-! ### TIME_REPLY_RECEIVE -/

/-- No request of the head is under way in `x`; links, Fold and Shepherd are as in `s`. -/
structure State.Answered (h : Nat) (s x : State) : Prop where
  request : (x.head h).request = none
  links : x.fl.links = s.fl.links
  fd : x.fd = s.fd
  sq : x.sq = s.sq

theorem State.Answered.of_fl {h : Nat} {s x y : State} (hx : s.Answered h x) (hfl : y.fl = x.fl) (hfd : y.fd = x.fd) (hsq : y.sq = x.sq) :
    s.Answered h y :=
  ⟨(congrArg (fun fl => (Tab.get fl.heads {} h).request) hfl).trans hx.request, (congrArg _ hfl).trans hx.links, hfd.trans hx.fd, hsq.trans hx.sq⟩

theorem State.answered_setHead (s : State) {h : Nat} {k : Head} (hk : k.request = none) : s.Answered h (s.setHead h k) :=
  ⟨(congrArg Head.request (s.head_setHead_same h k)).trans hk, rfl, rfl, rfl⟩

theorem State.answered_headRestart {h : Nat} {s x : State} (hx : s.Answered h x) : s.Answered h (x.headRestart h) :=
  ⟨(x.answered_setHead rfl).request, hx.links, hx.fd, hx.sq⟩

theorem State.answered_headUnalign {h : Nat} {s x : State} (hx : s.Answered h x) : s.Answered h (x.headUnalign h) := by
  refine (State.answered_headRestart hx).of_fl ?_ (by simp) (by simp)
  simp [State.headUnalign, State.headRestart, State.setHead, State.head]

theorem State.Answered.of_fields {h : Nat} {s x y : State} (hx : s.Answered h x) (hy : Untouched [.fields] x y) : s.Answered h y :=
  hx.of_fl (hy .link (by simp)) hy.fd (hy .shepherd (by simp))

theorem State.Answered.setH {h : Nat} {s x : State} (hx : s.Answered h x) (f : Fld) (n : Nat) : s.Answered h (x.setH f n) :=
  hx.of_fields (x.setH_untouched f n)

theorem State.Answered.flag {h : Nat} {s x : State} (hx : s.Answered h x) (f : Fld) (b : Bool) : s.Answered h (x.flag f b) :=
  hx.of_fields (x.flag_untouched f b)

/-- A measurement ends its exchange: it is near the last ones or not, the head far or not, aligned or not. -/
theorem State.answered_headMeasure (s : State) (h : Nat) (rtt t21 : Int) : s.Answered h (s.headMeasure h rtt t21) := by
  unfold State.headMeasure
  dsimp only
  split
  · generalize hx : State.setHead s h _ = x
    have hanswered : s.Answered h x := hx ▸ s.answered_setHead rfl
    split
    · split
      · exact State.answered_headUnalign ((hanswered.setH _ _).flag _ _)
      · exact (hanswered.setH _ _).flag _ _
    · split
      · exact ((hanswered.setH _ _).flag _ _).flag _ _
      · exact (hanswered.setH _ _).flag _ _
  · generalize hx : State.setHead s h _ = x
    have hanswered : s.Answered h x := hx ▸ s.answered_setHead rfl
    split
    · exact hanswered
    split
    · exact State.answered_headUnalign hanswered
    · exact State.answered_headRestart hanswered

theorem State.calResult_fails (s : State) (item place measured : Nat) :
    (s.calResult item place measured false id).fl = s.fl ∧ (s.calResult item place measured false id).fd = s.fd
      ∧ (s.calResult item place measured false id).sq = s.sq := by
  unfold State.calResult
  dsimp only
  split
  · exact ⟨rfl, rfl, rfl⟩
  · simp

/-- A result of an enabled item is accepted: its period and its count of rejections start again (R470). -/
def State.calAccept (s : State) (item place : Nat) : State :=
  let s' := { s with th := { s.th with calAt := Tab.set s.th.calAt 0 (64 * item + place) s.now } }
  { s' with th := { s'.th with calBad := Tab.set s'.th.calBad 0 (64 * item + place) 0 } }

theorem State.calResult_accepted {s : State} {item measured : Nat} (hitem : s.calItem item = true) (hcalm : s.calInBrace measured = false)
    (place : Nat) (apply : State → State) :
    s.calResult item place measured true apply = (apply (s.calAccept item place)).inc Reg.TH_CAL_RUN_COUNT := by
  unfold State.calResult
  dsimp only
  rw [if_neg (by simp [hitem]), if_pos]
  · rfl
  · exact congrArg (fun b => true && !b) hcalm

/-- However a reply is judged, it ends its exchange. -/
theorem State.answered_headResult (s : State) (h : Nat) (rtt t21 : Int) : s.Answered h (s.headResult h rtt t21) := by
  unfold State.headResult
  dsimp only
  split
  · next hcal =>
    obtain ⟨-, hitem⟩ := Bool.and_eq_true_iff.mp hcal
    split
    · obtain ⟨hfl, hfd, hsq⟩ := (s.setHead h { s.head h with request := none }).calResult_fails 4 h (128 + h)
      exact (s.answered_setHead rfl).of_fl hfl hfd hsq
    split
    · next hbrace _ =>
      have hmeasured := (s.calAccept 4 h).answered_headMeasure h rtt t21
      rw [State.calResult_accepted hitem (Bool.eq_false_iff.mpr hbrace)]
      exact ⟨hmeasured.request, hmeasured.links, hmeasured.fd, hmeasured.sq⟩
    · obtain ⟨hfl, hfd, hsq⟩ := s.calResult_fails 4 h (128 + h)
      have hmeasured := (s.calResult 4 h (128 + h) false id).answered_headMeasure h rtt t21
      exact ⟨hmeasured.request, hmeasured.links.trans (congrArg _ hfl), hmeasured.fd.trans hfd, hmeasured.sq.trans hsq⟩
  · exact s.answered_headMeasure h rtt t21

theorem timeReplyReceive_ends (t : Nat) (l : Lane) (a b c d : Score) (z : Nat) (r : List RxPacket) (k n m : Nat) (s : State) (hr : s.phase = .ready)
    (hh : s.holds l 13 [a, b, c, d] z r) (hslot : s.slotOn (s.linkOf l).1 = some k) (hasked : (s.head k).request = some n)
    (hsent : (s.head k).t1 = some m) (hsoon : max s.now t < n + 100 * lsbUs) :
    Yields (.timeReplyReceive t l) s fun x => (x.head k).request = none ∧ (x.link (s.linkOf l).1).arrived = r ∧ x.fd = s.fd ∧ x.sq = s.sq := by
  have hslot' : ((List.range 48).find? fun h => (((s.clock t).dropArrived l r).head h).attached.isSome
      && decide ((((s.clock t).dropArrived l r).head h).lane = (((s.clock t).dropArrived l r).linkOf l).1)) = some k := hslot
  have hasked' : (((s.clock t).dropArrived l r).head k).request = some n := hasked
  have hsent' : (((s.clock t).dropArrived l r).head k).t1 = some m := hsent
  have hintime : ¬n + 100 * lsbUs ≤ ((s.clock t).dropArrived l r).now := Nat.not_le.mpr hsoon
  have hstep : ∃ rtt t21, execTimeReplyReceive t l s = .next (s.keep t (((s.clock t).dropArrived l r).headResult k rtt t21)) := by
    rw [execTimeReplyReceive, s.run_ready t _ hr]
    simp only [State.takePacket_dropArrived t hh, hslot', hasked', hsent', if_neg hintime]
    exact ⟨_, _, rfl⟩
  obtain ⟨rtt, t21, hstep⟩ := hstep
  have hanswered := ((s.clock t).dropArrived l r).answered_headResult k rtt t21
  exact ⟨_, hstep, hanswered.request, State.arrived_dropArrived t hanswered.links, hanswered.fd, hanswered.sq⟩

/-! ### TRIG_RECEIVE -/

theorem Yields.of_trigReceive {t : Nat} {l : Lane} {b : List Score} {z : Nat} {r : List RxPacket} {s : State} {P : State → Prop}
    (hr : s.phase = .ready) (hh : s.holds l 9 b z r) (h : P (s.keep t (((s.clock t).dropArrived l r).externalStart .trigMarker))) :
    Yields (.trigReceive t l) s P := by
  refine Yields.of_run (execTrigReceive t l) hr rfl rfl ?_
  simp only [State.takePacket_dropArrived t hh]
  exact h

theorem trigReceive_drops (t : Nat) (l : Lane) (b : List Score) (z : Nat) (r : List RxPacket) (s : State) (hr : s.phase = .ready)
    (hh : s.holds l 9 b z r) (hstart : s.fq Reg.SQ_CFG_START_SRC = 1) (hsel : s.fq Reg.SQ_CFG_EXT_SEL = 3)
    (hdrop : s.sq.inScan = false ∨ (s.sq.halted = false ∧ s.sq.cyc.isSome = true ∧ s.h Reg.SQ_STAT_PEND = 1)
      ∨ (s.sq.halted = false ∧ s.sq.cyc = none ∧ s.sq.upcoming = none ∧ s.sq.scanEndAt ≤ max s.now t + 3200)) :
    Yields (.trigReceive t l) s fun x =>
      (x.link (s.linkOf l).1).arrived = r ∧ x.h Reg.SQ_START_DROP_COUNT = min (s.h Reg.SQ_START_DROP_COUNT + 1) Reg.SQ_START_DROP_COUNT.top
        ∧ OnlyFields [Reg.SQ_START_DROP_COUNT] s x ∧ Frame t [.fields, .link] s x := by
  refine Yields.of_trigReceive hr hh ?_
  rw [State.externalStart_of_drop (s := (s.clock t).dropArrived l r) (src := .trigMarker) ⟨hstart, hsel⟩ hdrop]
  have hinc := ((s.clock t).dropArrived l r).inc_untouched Reg.SQ_START_DROP_COUNT
  exact ⟨State.arrived_of_steady t (State.Steady.of_untouched hinc), State.h_inc_same _ _,
    OnlyFields.inc (by simp) ((s.clock t).dropArrived l r), Frame.of_untouched (((s.clock t).dropArrived_untouched l r).mono.trans hinc.mono)⟩

theorem trigReceive_holds (t : Nat) (l : Lane) (b : List Score) (z : Nat) (r : List RxPacket) (s : State) (hr : s.phase = .ready)
    (hh : s.holds l 9 b z r) (hstart : s.fq Reg.SQ_CFG_START_SRC = 1) (hsel : s.fq Reg.SQ_CFG_EXT_SEL = 3) (hscan : s.sq.inScan = true)
    (hgo : s.sq.halted = false) (hcyc : s.sq.cyc.isSome = true) (hpend : s.h Reg.SQ_STAT_PEND = 0) :
    Yields (.trigReceive t l) s fun x =>
      x.h Reg.SQ_STAT_PEND = 1 ∧ x.sq.cyc = s.sq.cyc ∧ (x.link (s.linkOf l).1).arrived = r ∧ OnlyFields [Reg.SQ_STAT_PEND] s x
        ∧ Frame t [.fields, .link, .shepherd] s x := by
  obtain ⟨y, hy⟩ := Option.isSome_iff_exists.mp hcyc
  refine Yields.of_trigReceive hr hh ?_
  rw [State.externalStart_of_running (s := (s.clock t).dropArrived l r) (src := .trigMarker) ⟨hstart, hsel⟩ hscan hgo hy hpend]
  obtain ⟨hheld, hruns, honly, huntouched⟩ := ((s.clock t).dropArrived l r).holdStart_spec y
  exact ⟨hheld, hruns, State.arrived_dropArrived t (congrArg FrezenLink.links (huntouched .link (by simp))), honly,
    Frame.of_untouched (((s.clock t).dropArrived_untouched l r).mono.trans huntouched.mono)⟩

theorem State.planStartCycle_keeps (s : State) : s.planStartCycle.fd = s.fd ∧ s.planStartCycle.tl = s.tl := by
  have hplan := ((s.snapshotAt false).takeCopy).foresee_untouched (s.now + 3200) (s.sq.cycles + 1)
  have hjudge := (s.applyAt fun a _ => decide (a / 65536 = 4)).planJudge_untouched
  have hfd : (s.snapshotAt false).fd = s.fd := hjudge.fd.trans (by simp)
  have htl : (s.snapshotAt false).tl = s.tl := (hjudge .tiles (by simp)).trans (by simp)
  exact ⟨hplan.fd.trans (by simp [hfd]), (hplan .tiles (by simp)).trans (by simp [htl])⟩

theorem trigReceive_plans (t : Nat) (l : Lane) (b : List Score) (z : Nat) (r : List RxPacket) (s : State) (hr : s.phase = .ready)
    (hh : s.holds l 9 b z r) (hstart : s.fq Reg.SQ_CFG_START_SRC = 1) (hsel : s.fq Reg.SQ_CFG_EXT_SEL = 3) (hscan : s.sq.inScan = true)
    (hgo : s.sq.halted = false) (hcyc : s.sq.cyc = none) (hup : s.sq.upcoming = none) (hintime : max s.now t + 3200 < s.sq.scanEndAt) :
    Yields (.trigReceive t l) s fun x =>
      (∃ y, x.sq.upcoming = some y ∧ y.startAt = max s.now t + 3200 ∧ y.no = s.sq.cycles + 1 ∧ y.next = 0)
        ∧ (x.link (s.linkOf l).1).arrived = r ∧ x.fd = s.fd ∧ x.tl = s.tl := by
  refine Yields.of_trigReceive hr hh ?_
  rw [State.externalStart_of_idle (s := (s.clock t).dropArrived l r) (src := .trigMarker) ⟨hstart, hsel⟩ hscan hgo hcyc hup hintime]
  exact ⟨State.planStartCycle_plans (s := (s.clock t).dropArrived l r) hintime, State.arrived_of_steady t (State.steady_planStartCycle _),
    State.planStartCycle_keeps ((s.clock t).dropArrived l r)⟩

end Sys2Proof.Machine

namespace Sys2Proof
open Machine

/-- Settles O43: each packet is taken from the link that holds it, and no operation after it touches what the receivers hold
(arrived_of_steady, arrived_dropArrived); a reply ends its exchange however it is judged (answered_headResult); TRIG acts as the external
starts do (externalStart_eq). -/
theorem headsReportShots : Obligations.HeadsReportShots := by
  unfold Obligations.HeadsReportShots
  exact ⟨endshotReceive_closes, hevtReceive_reports, headTimeRequest_asks, timeReplyReceive_ends, timeReplyTimeout_ends, trigReceive_drops,
    trigReceive_holds, trigReceive_plans⟩

end Sys2Proof
end

section
/-!
SUPPORT. Which operations of the model leave the fold memory and the SRAM as they are, and the canonical form of the two (log entries 6, 7).
-/

namespace Sys2Proof.Machine

/-- Fold memory and SRAM stay as they were. -/
@[simp] abbrev State.SameMemories (s x : State) : Prop := x.fd.mem = s.fd.mem ∧ x.dm.sram = s.dm.sram

theorem State.SameMemories.trans {s x y : State} (h : s.SameMemories x) (h' : x.SameMemories y) : s.SameMemories y :=
  ⟨h'.1.trans h.1, h'.2.trans h.2⟩

theorem State.SameMemories.after {s x y : State} (h' : x.SameMemories y) (h : s.SameMemories x) : s.SameMemories y := State.SameMemories.trans h h'

theorem State.SameMemories.foldl {α : Type} {f : State → α → State} (hf : ∀ (s : State) a, s.SameMemories (f s a)) (l : List α) (s : State) :
    s.SameMemories (l.foldl f s) :=
  ⟨foldl_inv (fun s => s.fd.mem) l f s fun s a => (hf s a).1, foldl_inv (fun s => s.dm.sram) l f s fun s a => (hf s a).2⟩

@[simp] theorem State.note_memories (s : State) (f : Fld) (x : Nat) :
    s.SameMemories (s.note f x) := ⟨rfl, rfl⟩

@[simp] theorem State.zero_memories (s : State) (fs : List Fld) :
    s.SameMemories (s.zero fs) := by simp [State.zero]

@[simp] theorem State.raiseAbout_memories (s : State) (src : Nat) (e : Ev) (sev : Sev) (e10 e11 : Nat) :
    s.SameMemories (s.raiseAbout src e sev e10 e11) := ⟨rfl, rfl⟩

@[simp] theorem State.planJudge_memories (s : State) :
    s.SameMemories (s.planJudge) := by simp [State.planJudge]

@[simp] theorem State.snapshotAt_memories (s : State) (swap : Bool) :
    s.SameMemories (s.snapshotAt swap) := by simp [State.snapshotAt]

@[simp] theorem State.underNext_memories (s : State) (f : State → State) (hf : ∀ s : State, s.SameMemories (f s)) :
    s.SameMemories (s.underNext f) := by
  unfold State.underNext
  split <;> simp [fun s => (hf s).1, fun s => (hf s).2]

@[simp] theorem State.foresee_memories (s : State) (at_ no : Nat) :
    s.SameMemories (s.foresee at_ no) := by
  unfold State.foresee
  split <;> simp

@[simp] theorem State.reachEntry_memories (s : State) (y : Cycle) (put : State → Cycle → State)
    (hf : ∀ (s : State) y, s.SameMemories (put s y)) :
    s.SameMemories (s.reachEntry y put) := by
  unfold State.reachEntry
  dsimp only
  repeat' split
  all_goals simp [fun s y => (hf s y).1, fun s y => (hf s y).2]

@[simp] theorem State.commitAhead_memories (s : State) :
    s.SameMemories (s.commitAhead) := by
  unfold State.commitAhead
  split <;> simp

@[simp] theorem State.externalStart_memories (s : State) (src : ExtSource) :
    s.SameMemories (s.externalStart src) := by
  unfold State.externalStart
  dsimp only
  repeat' split
  all_goals simp

@[simp] theorem State.takeReturn_memories (s : State) (c : Nat) (lt : Pulse) (pulses : List Pulse) :
    s.SameMemories (s.takeReturn c lt pulses) := by
  have hseen (s : State) (ovr xtk : Bool) :
      s.SameMemories
        (if xtk then
          (if ovr then (s.inc (Reg.TL_CH_OVR_CNT_COUNT c)).flag (Reg.TL_CH_STAT_OVR_SEEN c) true else s).flag (Reg.TL_CH_STAT_XTK_SEEN c) true
        else if ovr then (s.inc (Reg.TL_CH_OVR_CNT_COUNT c)).flag (Reg.TL_CH_STAT_OVR_SEEN c) true else s) := by
    cases ovr <;> cases xtk <;> simp
  unfold State.takeReturn
  extract_lets ch _ _ _ _ _ _ ovr _ _ _ _ _ _ _ xtk _ _ marked
  refine iteInduction (motive := s.SameMemories) (fun _ => ⟨rfl, rfl⟩) fun _ => ?_
  have hmarked : s.SameMemories marked := hseen s ovr xtk
  have hformed (r : RawEntry) : s.SameMemories (marked.formed r) := by simpa using hmarked
  cases ch.calUsed with
  | none => exact hmarked
  | some _ => exact iteInduction (motive := s.SameMemories) (fun _ => hmarked) fun _ => hformed _

@[simp] theorem State.takePulses_memories (s : State) (c : Nat) (r : Return) :
    s.SameMemories (s.takePulses c r) := by simp [State.takePulses]

@[simp] theorem State.stBegin_memories (s : State) (u : Nat) :
    s.SameMemories (s.stBegin u) := by
  unfold State.stBegin
  repeat' split
  all_goals simp

@[simp] theorem State.stBoundary_memories (s : State) :
    s.SameMemories (s.stBoundary) := by simp [State.stBoundary]

@[simp] theorem State.takeShot_memories (s : State) (d : ShotDesc) :
    s.SameMemories (s.takeShot d) := by
  have hcount (acc : State × List Part) : acc.1.SameMemories (d.pixels.foldl (countPixel d.seq) acc).1 := by
    induction d.pixels generalizing acc with
    | nil => simp
    | cons p r ih => simpa [countPixel] using ih (countPixel d.seq acc p)
  rw [State.takeShot_eq]
  split
  · simp
  · exact (hcount (s, [])).trans (by simp [State.learnShot])

@[simp] theorem State.takeDescs_memories (s : State) :
    s.SameMemories (s.takeDescs) := by simp [State.takeDescs]

@[simp] theorem State.foldCycleEnd_memories (s : State) :
    s.SameMemories (s.foldCycleEnd) := by
  have hpixel (s : State) (p : Nat) : s.SameMemories
      (if (s.fdPix p).isOpen && decide (descC (s.fdPix p).cur.desc ≤ (s.fdPix p).cur.n) then s.intervalEnd p else s) := by
    split <;> simp
  exact (State.SameMemories.foldl hpixel _ _).after (by simp)

@[simp] theorem State.planHear_memories (s : State) (ident period spacing : Nat) (upd : PlanPeer → PlanPeer) :
    s.SameMemories (s.planHear ident period spacing upd) := by simp [State.planHear]

@[simp] theorem State.calResult_memories (s : State) (item place measured : Nat) (ok : Bool) (apply : State → State)
    (hf : ∀ s : State, s.SameMemories (apply s)) :
    s.SameMemories (s.calResult item place measured ok apply) := by
  unfold State.calResult
  repeat' split
  all_goals simp [fun s => (hf s).1, fun s => (hf s).2]

@[simp] theorem State.headResult_memories (s : State) (h : Nat) (rtt t21 : Int) :
    s.SameMemories (s.headResult h rtt t21) := by
  unfold State.headResult
  dsimp only
  repeat' split
  all_goals simp

@[simp] theorem State.attach_memories (s : State) (p : Partner) :
    s.SameMemories (s.attach p) := by
  unfold State.attach
  dsimp only
  repeat' split
  all_goals simp

@[simp] theorem State.detach_memories (s : State) (p : Partner) :
    s.SameMemories (s.detach p) := by simp [State.detach]

@[simp] theorem State.hello_memories (s : State) (port : PortRef) (body : List Score) :
    s.SameMemories (s.hello port body) := by
  unfold State.hello
  dsimp only
  repeat' split
  all_goals simp

@[simp] theorem State.ptpMessage_memories (s : State) (m : PtpFrom) (f : State → State) (hf : ∀ s : State, s.SameMemories (f s)) :
    s.SameMemories (s.ptpMessage m f) := by
  unfold State.ptpMessage
  repeat' split
  all_goals simp [fun s => (hf s).1, fun s => (hf s).2]

@[simp] theorem State.headEvents_memories (s : State) (h seq : Nat) (ofs : Option Int) (l : List Score) :
    s.SameMemories (s.headEvents h seq ofs l) := by
  induction l using List.twoStepInduction generalizing s with
  | nil => simp [State.headEvents]
  | singleton => simp [State.headEvents]
  | cons_cons a b r ih _ => exact (ih _).after (by simp)

@[simp] theorem State.aqRead_memories (s : State) (b : Nat) :
    s.SameMemories (s.aqRead b).2 := by
  unfold State.aqRead
  split <;> simp

@[simp] theorem State.aqHistRead_memories (s : State) (b : Nat) :
    s.SameMemories (s.aqHistRead b).2 := by
  unfold State.aqHistRead
  split <;> simp

@[simp] theorem State.readReg_memories (s : State) (open_ : Bool) (addr : Nat) :
    s.SameMemories (s.readReg open_ addr).2 := by
  unfold State.readReg
  repeat' split
  all_goals simp

@[simp] theorem State.readRegs_memories (s : State) (b : Bool) (a n : Nat) :
    s.SameMemories (s.readRegs b a n).2 := by
  induction n generalizing s a with
  | zero => simp [State.readRegs]
  | succ n ih => simp [State.readRegs, ih]

@[simp] theorem State.dmaSource_memories (s : State) (c : DmaChan) :
    s.SameMemories (s.dmaSource c).2 := by
  unfold State.dmaSource
  split <;> simp

@[simp] theorem State.sendFull_memories (s : State) (q n : Nat) (l : List (BitVec 8)) :
    s.SameMemories (s.sendFull q n l).1 := by
  induction n generalizing s l with
  | zero => simp [State.sendFull]
  | succ n ih =>
    unfold State.sendFull
    split <;> simp [ih]

@[simp] theorem State.putBytes_memories (s : State) (q ch : Nat) (bytes : List (BitVec 8)) :
    s.SameMemories (s.putBytes q ch bytes) := by
  unfold State.putBytes
  repeat' split
  all_goals simp

@[simp] theorem State.streamOut_memories (q : Nat) (u : Sub) (n : Nat) (s : State) :
    s.SameMemories (State.streamOut q u n s) := by
  induction n generalizing s with
  | zero => simp [State.streamOut]
  | succ n ih =>
    unfold State.streamOut
    split
    · exact (ih _).after (by simp)
    · simp

@[simp] theorem State.dmPut_memories (s : State) (q : Nat) (rec : List Score) (mark : Bool) :
    s.SameMemories (s.dmPut q rec mark) := by
  unfold State.dmPut
  dsimp only
  split
  · simp
  · split
    · simp
    · split
      · simp
      · exact (State.SameMemories.foldl (fun s u => by simp) _ _).after (by simp)

@[simp] theorem State.toQueue_memories (s : State) (q : Nat) (rec : List Score) :
    s.SameMemories (s.toQueue q rec) := by
  unfold State.toQueue
  split <;> simp

@[simp] theorem State.deliver_memories (s : State) (prof rec : List Score) :
    s.SameMemories (s.deliver prof rec) := by
  have hqueue (s : State) (q : Nat) : s.SameMemories (if profField prof 1 (Reg.EX_PROF_Q_QMASK 0) / 2 ^ q % 2 = 1 then s.toQueue q rec else s) := by
    split <;> simp
  have hqueues := State.SameMemories.foldl hqueue (List.range 16) s
  unfold State.deliver
  dsimp only
  split
  · exact hqueues.trans (by simp)
  · exact hqueues

@[simp] theorem State.markQueue_memories (s : State) (frame q : Nat) :
    s.SameMemories (s.markQueue frame q) := by
  unfold State.markQueue
  split <;> simp

@[simp] theorem State.wrapAdd_memories (s : State) (f : Fld) (n : Nat) :
    s.SameMemories (s.wrapAdd f n) := ⟨rfl, rfl⟩

@[simp] theorem State.countHistogram_memories (s : State) (c : Nat) (e : Extraction) (lat : Nat) :
    s.SameMemories (s.countHistogram c e lat) := by
  unfold State.countHistogram
  split <;> simp

@[simp] theorem State.pinsSince_memories (was s : State) :
    s.SameMemories (was.pinsSince s) := by simp [State.pinsSince]

@[simp] theorem State.axAcceptIdle_memories (s : State) :
    s.SameMemories (s.axAcceptIdle) := by
  have hchan (s : State) (c : Nat) : s.SameMemories (if (s.firstSlot c).all fun x => !s.pairRuns x.1 then
      (s.applyNow (isChanReg c)).chanLooked c (s.fu c (Reg.AX_CH_CFG_DCB_EN c)) else s) := by
    split <;> simp
  unfold State.axAcceptIdle
  refine (State.SameMemories.foldl (fun s p => ?_) _ _).after ?_
  · split <;> simp
  · have hchans := State.SameMemories.foldl hchan (List.range 32) s
    exact hchans.trans (by simp)

@[simp] theorem State.slotOutput_memories (s : State) (p k : Nat) (prim sec : List Int) :
    s.SameMemories (s.slotOutput p k prim sec) := by
  unfold State.slotOutput
  dsimp only
  split <;> simp

@[simp] theorem State.scanEnds_memories (s : State) (p : Nat) :
    s.SameMemories (s.scanEnds p) := by
  unfold State.scanEnds
  dsimp only
  split <;> simp

@[simp] theorem State.slotEnd_memories (s : State) (p : Nat) (prim sec : List Int) :
    s.SameMemories (s.slotEnd p prim sec) := by
  unfold State.slotEnd
  dsimp only
  repeat' split
  all_goals simp

@[simp] theorem State.injValue_memories (s : State) (a : Nat) :
    s.SameMemories (s.injValue a).2 := by
  unfold State.injValue
  dsimp only
  split <;> simp

@[simp] theorem State.servoPeriod_memories (s : State) (a : Nat) (y : Int) :
    s.SameMemories (s.servoPeriod a y) := by
  unfold State.servoPeriod
  dsimp only
  repeat' split
  all_goals simp

@[simp] theorem State.heldPeriod_memories (s : State) (a : Nat) :
    s.SameMemories (s.heldPeriod a) := by simp [State.heldPeriod]

@[simp] theorem State.axisPeriod_memories (s : State) (a : Nat) (p : Option PosSample) :
    s.SameMemories (s.axisPeriod a p) := by
  unfold State.axisPeriod
  repeat' split
  all_goals simp

@[simp] theorem State.reject_memories (s : State) (x : Failing) (shadow : Bool) :
    s.SameMemories (s.reject x shadow) := ⟨rfl, rfl⟩

@[simp] theorem State.setRef_memories (s : State) (b : Bool) (v : BitVec 32) (valid : Bool) :
    s.SameMemories (s.setRef b v valid) := by simp [State.setRef]

@[simp] theorem State.copyActive_memories (s : State) :
    s.SameMemories (s.copyActive).1 := by
  unfold State.copyActive
  repeat' split
  all_goals simp

@[simp] theorem State.crcPass_memories (s : State) :
    s.SameMemories (s.crcPass) := by simp [State.crcPass]

@[simp] theorem State.discardLive_memories (s : State) :
    s.SameMemories (s.discardLive) := by
  unfold State.discardLive
  split <;> simp

@[simp] theorem State.lookedAtSwap_memories (s : State) :
    s.SameMemories (s.lookedAtSwap) := by simp [State.lookedAtSwap]

@[simp] theorem State.swapActs_memories (s : State) (frame : Nat) :
    s.SameMemories (s.swapActs frame) := by
  unfold State.swapActs
  split <;> simp

@[simp] theorem State.settle_memories (k : CmdKey) (n : Nat) (s : State) :
    s.SameMemories (State.settle k n s) := by
  induction n generalizing s with
  | zero => simp [State.settle]
  | succ n ih =>
    unfold State.settle
    repeat' split
    all_goals simp [ih]

@[simp] theorem State.finish_memories (s : State) (k : CmdKey) (c : Cmd) (a : Answer) :
    s.SameMemories (s.finish k c a) := by simp [State.finish]

@[simp] theorem State.arrive_memories (s : State) (port : Source) (cls : Nat) (scores : List Score) :
    s.SameMemories (s.arrive port cls scores) := by
  unfold State.arrive
  dsimp only
  repeat' split
  all_goals simp

@[simp] theorem State.safeAck_memories (s : State) (mask : Nat) :
    s.SameMemories (s.safeAck mask) := by
  refine State.SameMemories.foldl (fun s n => ?_) _ _
  split <;> simp

@[simp] theorem State.cycleEnd_memories (s : State) :
    s.SameMemories (s.cycleEnd) := by simp [State.cycleEnd]

@[simp] theorem State.cycleGone_memories (s : State) (y : Cycle) :
    s.SameMemories (s.cycleGone y) := by
  unfold State.cycleGone
  dsimp only
  repeat' split
  all_goals simp

@[simp] theorem State.cycleOver_memories (s : State) (y : Cycle) :
    s.SameMemories (s.cycleOver y) := by
  unfold State.cycleOver
  split <;> simp

@[simp] theorem State.planBoundary_memories (s : State) (periodWas : Nat) :
    s.SameMemories (s.planBoundary periodWas) := by
  unfold State.planBoundary
  dsimp only
  repeat' split
  all_goals simp

@[simp] theorem State.tryBoot_memories (s : State) (l : List Bool) :
    s.SameMemories (s.tryBoot l).1 := by
  induction l generalizing s with
  | nil => simp [State.tryBoot]
  | cons b r ih =>
    unfold State.tryBoot
    split <;> simp [ih]

@[simp] theorem State.selectSlot_memories (s : State) :
    s.SameMemories (s.selectSlot) := by
  unfold State.selectSlot
  dsimp only
  repeat' split
  all_goals simp

@[simp] theorem State.dieBoot_memories (s : State) (f : BootFacts) :
    s.SameMemories (s.dieBoot f) := by simp [State.dieBoot]

@[simp] theorem State.stage_memories (s : State) (k : CmdKey) (c : Cmd) :
    s.SameMemories (s.stage k c) := by
  unfold State.stage
  dsimp only
  repeat' split
  all_goals simp

@[simp] theorem State.loadSets_memories (s : State) :
    s.SameMemories (s.loadSets) := by
  unfold State.loadSets
  dsimp only
  split <;> simp

@[simp] theorem State.startBlocks_memories (s : State) :
    s.SameMemories (s.startBlocks) := by
  have hident (s : State) (n : Nat) : s.SameMemories { s with fl := { s.fl with ident := n } } := by simp
  have htable (s : State) : s.SameMemories (s.reseed.copySq.setH Reg.EP_STAT_REF_NOW (s.reseed.copySq.f Reg.EP_CFG_REFSEL)) := by simp
  have hlocks (s : State) : s.SameMemories ((List.range 64).foldl (fun s t => s.flag (Reg.TL_TILE_STAT_LOCK t) true) s) := by simp
  have hpins (s : State) : s.SameMemories s.lookedAtSwap.pinsChecked := by simp
  have hranges (s : State) : s.SameMemories ((List.range 512).foldl (fun s c => s.settleRange c 0) s) := by simp
  have hpairs (s : State) : s.SameMemories ([0, 1, 2, 3].foldl (fun s p => s.pairConfig p true) s) := by simp
  have hquads (s : State) : s.SameMemories ((List.range 36).foldl (fun s q => s.quadCheck q) s) := by simp
  have hlanes (s : State) : s.SameMemories ((List.range 144).foldl (fun s l => s.laneEnable l) s) := by simp
  have hfirst (s : State) (n : Nat) : s.SameMemories { s with fl := { s.fl with tablesDirty := false }, sq := { s.sq with nextBoundary := n } } := by
    simp
  have hsafety (s : State) : s.SameMemories (s.loadSafety s.activeTab (sfCrc (sfPart s.activeTab))) := by simp
  exact (((((((((hident _ _).trans (htable _)).trans (hlocks _)).trans (hpins _)).trans (hranges _)).trans (hpairs _)).trans (hquads _)).trans
    (hlanes _)).trans (hfirst _ _)).trans (hsafety _)

@[simp] theorem State.bootReports_memories (s : State) :
    s.SameMemories (s.bootReports) := by
  unfold State.bootReports
  dsimp only
  repeat' split
  all_goals simp

/-- Both memories are in canonical form. -/
def State.Canonical (s : State) : Prop := s.fd.mem.wf 0 = true ∧ s.dm.sram.wf 0 = true

theorem State.Canonical.of_same {s x : State} (h : s.Canonical) (hx : s.SameMemories x) : x.Canonical :=
  ⟨hx.1 ▸ h.1, hx.2 ▸ h.2⟩

theorem Yields.canonical_of_runIf {c : Instr} {s : State} {b : Bool} {t : Nat} {f : State → State} (hs : s.Canonical)
    (hc : exec c s = s.runIf b t f) (hf : ∀ s : State, s.Canonical → (f s).Canonical) : Yields c s State.Canonical := by
  refine ⟨_, hc, ?_⟩
  cases b
  · exact hs
  · exact hf (s.clock t) hs

end Sys2Proof.Machine
end

section
/-!
SUPPORT. The operations that write the fold memory or the SRAM, or may reach a write of them, and the canonical form.
-/

namespace Sys2Proof.Machine

/-! ### Operations that write the memories -/

theorem State.Canonical.dmaCommit {s : State} (h : s.Canonical) (ch : Nat) (r : DmaRun) : (s.dmaCommit ch r).Canonical := by
  let written : State := { s with dm := { s.dm with
    sram := r.sram.foldl (fun m x => Tab.set m 0 x.1 x.2) s.dm.sram, chans := Tab.set s.dm.chans none ch (some r.c) } }
  have hwritten : written.Canonical := ⟨h.1, Tab.foldl_set_wf 0 r.sram s.dm.sram h.2⟩
  have hrecs := State.SameMemories.foldl (f := fun s x => s.dmPut (r.c.dst % 16) x false) (fun s x => by simp) r.recs
    (written.putBytes (r.c.dst % 16) ch r.bytes)
  exact hwritten.of_same ((State.putBytes_memories _ _ _ _).trans hrecs)

theorem State.Canonical.dmaFinish {s : State} (h : s.Canonical) (ch : Nat) (r : DmaRun) (err : Nat) : (s.dmaFinish ch r err).Canonical := by
  unfold State.dmaFinish
  refine (h.dmaCommit ch (r.flush (s.dmaDest r.c))).of_same ?_
  dsimp only
  repeat' split
  all_goals simp

theorem State.Canonical.dmaStop {s : State} (h : s.Canonical) (ch : Nat) : (s.dmaStop ch).Canonical := by
  unfold State.dmaStop
  split
  · exact h
  · dsimp only
    split
    · exact h.dmaFinish _ _ _
    · exact h

theorem State.dmaTake_memories {s y : State} {c : DmaChan} {x : Nat} {r : DmaRun} (h : s.dmaTake c x = some (y, r)) : s.SameMemories y := by
  unfold State.dmaTake at h
  dsimp only at h
  repeat' split at h
  all_goals cases h
  all_goals simp

theorem State.Canonical.woLow {s : State} (h : s.Canonical) (a v : Nat) : (s.woLow a v).Canonical := by
  unfold State.woLow
  repeat' refine iteInduction (motive := State.Canonical) (fun _ => h.of_same (by simp)) (fun _ => ?_)
  split
  · exact h.of_same (by simp)
  · exact h.of_same (by simp)
  · refine iteInduction (motive := State.Canonical) (fun _ => h.dmaStop _) fun _ => h.of_same ?_
    split <;> simp
  · exact h.of_same (by simp)
  · exact h

theorem State.Canonical.acceptBase {s : State} (h : s.Canonical) (k : RegKind) (a : Nat) (v : Score) : (s.acceptBase k a v).Canonical := by
  have hkept (s : State) (rw : Score) : s.SameMemories (if k.rw = 0 then s else if k.one then s.writeOne a rw else s.liveWrite a rw) := by
    split
    · simp
    · split <;> simp
  have hwo {s : State} (h : s.Canonical) (w : Nat) :
      (if k.wo = 0 then s else if a < 0x100000 then s.woLow a w else s.woHigh a w).Canonical :=
    iteInduction (motive := State.Canonical) (fun _ => h) fun _ =>
      iteInduction (motive := State.Canonical) (fun _ => h.woLow a w) fun _ => h.of_same (by simp)
  have hlast (s : State) : s.SameMemories
      (if a / 65536 = 6 then s.axAcceptIdle else if a / 65536 = 4 ∧ s.fl.tablesDirty = true then s.hcfgGap else s) := by
    split
    · simp
    · split <;> simp
  have hbits : s.SameMemories ((s.writeRsvd k a v.toNat).w1c k a v.toNat) := by simp
  exact (hwo ((h.of_same hbits).of_same (hkept _ _)) _).of_same (hlast _)

theorem State.Canonical.acceptWrite {s : State} (h : s.Canonical) (a : Nat) (v : Score) : (s.acceptWrite a v).Canonical := by
  unfold State.acceptWrite
  split
  · exact h
  · split
    · refine h.of_same ?_
      split <;> simp
    · exact h.acceptBase _ a v

theorem State.Canonical.foldl {α : Type} {f : State → α → State} (hf : ∀ (s : State) a, s.Canonical → (f s a).Canonical) {s : State}
    (h : s.Canonical) (l : List α) : (l.foldl f s).Canonical := by
  induction l generalizing s with
  | nil => exact h
  | cons a r ih => exact ih (hf s a h)

theorem State.Canonical.acceptOne {s : State} (h : s.Canonical) (p : Posted → Bool) : (s.acceptOne p).Canonical := by
  unfold State.acceptOne
  split
  · next x r _ => exact State.Canonical.acceptWrite (s := { s with regs := { s.regs with posted := r } }) h x.addr x.value
  · exact h

theorem State.Canonical.drain {s : State} (h : s.Canonical) (p : Posted → Bool) : (s.drain p).Canonical :=
  State.Canonical.foldl (fun _ _ h => h.acceptOne p) h _

theorem State.Canonical.drainFor {s : State} (h : s.Canonical) (a n : Nat) : (s.drainFor a n).Canonical := by
  unfold State.drainFor
  dsimp only
  split
  · exact h
  · exact h.drain _

theorem State.Canonical.drainShadow {s : State} (h : s.Canonical) : s.drainShadow.Canonical := h.drain _

theorem State.Canonical.post {s : State} (h : s.Canonical) (cmd a : Nat) (l : List Score) : (s.post cmd a l).Canonical := by
  induction l generalizing s a with
  | nil => exact h
  | cons v r ih =>
    refine ih (iteInduction (motive := State.Canonical) (fun _ => ?_) fun _ => h.acceptWrite a v) _
    exact h

theorem State.Canonical.finish {s : State} (h : s.Canonical) (k : CmdKey) (c : Cmd) (a : Answer) : (s.finish k c a).Canonical :=
  h.of_same (by simp)

theorem State.Canonical.writeOut {s : State} (h : s.Canonical) (k : CmdKey) (c : Cmd) : (s.writeOut k c).Canonical := by
  unfold State.writeOut
  dsimp only
  split
  · exact (h.post c.id c.addr c.values).of_same (by simp)
  · exact (h.post c.id c.addr c.values).finish _ _ _

theorem State.Canonical.wakeOne {s : State} (h : s.Canonical) (k : CmdKey) : (s.wakeOne k).Canonical := by
  have hfinish (p : Prop) [Decidable p] (c : Cmd) (a : Answer) : (if p then s else s.finish k c a).Canonical :=
    iteInduction (motive := State.Canonical) (fun _ => h) fun _ => h.finish k c a
  unfold State.wakeOne
  split
  · next c _ _ =>
    refine iteInduction (motive := State.Canonical) (fun _ => h) fun _ => ?_
    refine iteInduction (motive := State.Canonical) (fun _ => h.finish k c _) fun _ => ?_
    refine iteInduction (motive := State.Canonical) (fun _ => hfinish _ c _) fun _ => ?_
    refine iteInduction (motive := State.Canonical) (fun _ => ?write) fun _ => ?_
    case write =>
      exact iteInduction (motive := State.Canonical) (fun _ => h) fun _ =>
        iteInduction (motive := State.Canonical) (fun _ => h.finish k c _) fun _ => h.writeOut k c
    refine iteInduction (motive := State.Canonical) (fun _ => ?poll) fun _ => h
    case poll => exact iteInduction (motive := State.Canonical) (fun _ => h.finish k c _) fun _ => h
  · exact h

theorem State.Canonical.wake {s : State} (h : s.Canonical) : s.wake.Canonical :=
  State.Canonical.foldl (fun _ k h => h.wakeOne k) h _

theorem State.Canonical.refuseStages {s : State} (h : s.Canonical) : s.refuseStages.Canonical := by
  refine State.Canonical.foldl (fun s q h => ?_) h _
  split
  · split
    · exact State.Canonical.wakeOne (h.of_same (by simp)) _
    · exact h
  · exact h

/-- The head of a queue is refused, or its opcode takes effect and what waits on the posting queues is looked at. -/
theorem State.Canonical.command {s : State} (h : s.Canonical) {f : State → Cmd → State} (hf : ∀ c, (f s c).Canonical) (k : CmdKey) (op : Nat) :
    (s.command k op f).Canonical := by
  unfold State.command
  split
  · exact h
  · split
    · exact h.finish _ _ _
    · exact (hf _).wake

theorem State.Canonical.simple {s : State} (h : s.Canonical) {f : State → Cmd → State × Answer} (hf : ∀ c, (f s c).1.Canonical)
    (k : CmdKey) (op : Nat) : (s.simple k op f).Canonical :=
  h.command (fun c => (hf c).finish _ _ _) k op

theorem State.Canonical.commitRef {s : State} (h : s.Canonical) (b : Bool) (ref : BitVec 32) : (s.commitRef b ref).1.Canonical := by
  have hcaught : (if b = s.activeB then s else s.drainShadow).Canonical :=
    iteInduction (motive := State.Canonical) (fun _ => h) fun _ => h.drainShadow
  unfold State.commitRef
  dsimp only
  generalize (if b = s.activeB then s else s.drainShadow) = y at *
  split
  · exact h
  · split
    · exact hcaught.of_same (by simp)
    · split
      · exact hcaught.of_same (by simp)
      · exact hcaught.of_same (by simp)

theorem State.Canonical.swapStart {s : State} (h : s.Canonical) : s.swapStart.1.Canonical := by
  have hcaught := h.drainShadow
  unfold State.swapStart
  dsimp only
  generalize s.drainShadow = y at *
  split
  · exact h
  · split
    · exact hcaught.of_same (by simp)
    · exact hcaught.of_same (by simp)

theorem State.Canonical.readCmd {s : State} (h : s.Canonical) (c : Cmd) : (s.readCmd c).1.Canonical := by
  unfold State.readCmd
  dsimp only
  repeat' split
  · exact h
  · exact h
  · exact (h.drainFor c.addr (c.p 2)).of_same (by simp)

theorem State.Canonical.zeroBins {s : State} (h : s.Canonical) (start len : Nat) : (s.zeroBins start len).Canonical :=
  ⟨s.zeroBins_wf start len h.1, h.2⟩

theorem State.Canonical.setBin {s : State} (h : s.Canonical) (a v : Nat) : (s.setBin a v).Canonical :=
  ⟨s.setBin_wf a v h.1, h.2⟩

theorem State.canonical_reset : State.reset.Canonical := ⟨rfl, rfl⟩

theorem State.canonical_dieReset (s : State) (cause rail : Nat) : (s.dieReset cause rail).Canonical :=
  State.canonical_reset.of_same (by simp [State.dieReset])

theorem State.Canonical.dieBoot {s : State} (h : s.Canonical) (boot : BootFacts) : (s.dieBoot boot).Canonical := h.of_same (by simp)

theorem State.canonical_resetNow (s : State) (cause : Nat) (boot : BootFacts) : (s.resetNow cause boot).Canonical :=
  (s.canonical_dieReset cause 0).dieBoot boot

/-- An entry of a bank's buffer leaves it, and its bin holds `v`. -/
def State.storeEntry (s : State) (b : Nat) (e : Coal) (q : List Coal) (v : Nat) : State :=
  ({ s.fdPass (bankMem b) with fd := { (s.fdPass (bankMem b)).fd with coal := Tab.set (s.fdPass (bankMem b)).fd.coal [] b q } }).setBin e.addr v

/-- The interval of an entry is marked SAT. -/
def State.markSat (s : State) (e : Coal) : State :=
  s.setFdPix e.pixel ((s.fdPix e.pixel).onInterval e.gen fun i => { i with sat := true })

/-- The oldest entry of a bank is added to its bin and freed. -/
def State.addEntry (s : State) (b : Nat) (e : Coal) (q : List Coal) : State :=
  if s.bin e.addr + e.count > scoreMax then (s.storeEntry b e q (satScore (s.bin e.addr + e.count))).markSat e
  else s.storeEntry b e q (satScore (s.bin e.addr + e.count))

/-- What BANK_RMW does. -/
def State.rmw (s : State) (b : Nat) : State :=
  match Tab.get s.fd.coal [] b, s.fdMay (bankMem b) 1 with
  | [], _ | _, false => s
  | e :: q, true => s.addEntry b e q

theorem execBankRmw_eq (t : Nat) (b : Fin 1024) (s : State) : execBankRmw t b s = s.run t fun s => s.rmw b := rfl

theorem State.Canonical.storeEntry {s : State} (h : s.Canonical) (b : Nat) (e : Coal) (q : List Coal) (v : Nat) : (s.storeEntry b e q v).Canonical :=
  State.Canonical.setBin (h.of_same (by simp)) _ _

theorem State.Canonical.rmw {s : State} (h : s.Canonical) (b : Nat) : (s.rmw b).Canonical := by
  unfold State.rmw
  split
  · exact h
  · exact h
  · unfold State.addEntry
    split
    · next e q _ _ _ => exact (h.storeEntry b e q (satScore (s.bin e.addr + e.count))).of_same (by simp [State.markSat])
    · exact h.storeEntry _ _ _ _

/-- What FOOTPRINT_CLEAR_END does. -/
def State.clearFootprint (s : State) (p : Nat) : State :=
  if (s.fdPix p).clearing then
    (s.setFdPix p { s.fdPix p with clearing := false }).zeroBins (footStart (s.fdPix p).desc) (footLen (s.fdPix p).desc)
  else s

theorem execFootprintClearEnd_eq (t : Nat) (p : Pixel) (s : State) : execFootprintClearEnd t p s = s.run t fun s => s.clearFootprint p := rfl

theorem State.Canonical.clearFootprint {s : State} (h : s.Canonical) (p : Nat) : (s.clearFootprint p).Canonical := by
  unfold State.clearFootprint
  split
  · exact State.Canonical.zeroBins (h.of_same (by simp)) _ _
  · exact h

/-- The buffer of an interval reads 0, with its trace. -/
def State.zeroHistogram (s : State) (iv : Interval) : State :=
  if descTrace iv.desc then
    (s.zeroBins (bufStart iv.desc iv.buf) (descS iv.desc)).zeroBins (traceStart iv.desc iv.buf) (descS iv.desc / 8)
  else s.zeroBins (bufStart iv.desc iv.buf) (descS iv.desc)

theorem State.Canonical.zeroHistogram {s : State} (h : s.Canonical) (iv : Interval) : (s.zeroHistogram iv).Canonical := by
  unfold State.zeroHistogram
  split
  · exact (h.zeroBins _ _).zeroBins _ _
  · exact h.zeroBins _ _

/-- A released histogram as a cluster takes it, with its bins and its trace as they stand. -/
def State.procOf (s : State) (c : ExCluster) (r : Released) : Proc :=
  { cluster := c, rel := r, bins := readBins s.fd.mem (bufStart r.iv.desc r.iv.buf) (descS r.iv.desc)
    trace := if descTrace r.iv.desc then readBins s.fd.mem (traceStart r.iv.desc r.iv.buf) (descS r.iv.desc / 8) else []
    scanning := true }

/-- A cluster begins to scan; `rest` are the histograms that still wait. -/
def State.startScan (s : State) (p : Proc) (rest : List Released) : State :=
  { s with ex := { s.ex with released := rest, procs := s.ex.procs ++ [p] } }

/-- What HISTOGRAM_DISPATCH does. -/
def State.dispatch (s : State) (c : ExCluster) : State :=
  match s.ex.released with
  | [] => s
  | r :: rest =>
    if s.ex.procs.any (fun p => decide (p.cluster = c) && p.scanning) || decide (s.echoLoad c > 40) then s
    else ((s.zeroHistogram r.iv).startScan (s.procOf c r) rest).aqFoldBlock c r.pixel r.iv.cycle (s.procOf c r).bins

theorem execHistogramDispatch_eq (t : Nat) (c : ExCluster) (s : State) : execHistogramDispatch t c s = s.run t fun s => s.dispatch c := rfl

theorem State.Canonical.dispatch {s : State} (h : s.Canonical) (c : ExCluster) : (s.dispatch c).Canonical := by
  unfold State.dispatch
  split
  · exact h
  · split
    · exact h
    · next r rest _ _ => exact (h.zeroHistogram r.iv).of_same (by simp [State.startScan])

/-- What a channel does with its turn: it ends where its STOP has waited for room, else it reads one element. -/
def State.dmaTurn (s : State) (ch : Nat) (c : DmaChan) : State :=
  if c.stopsNow then s.dmaFinish ch { c := c } 5
  else
    match (s.dmaSource c).2.dmaTake c (s.dmaSource c).1 with
    | none => (s.dmaSource c).2
    | some (s, r) => if r.ended then s.dmaFinish ch r 0 else if r.c.stopsNow then s.dmaFinish ch r 5 else s.dmaCommit ch r

/-- What DMA_READ_GRANT does. -/
def State.dmaGrant (s : State) : State :=
  match s.dmaNext with
  | none => s
  | some ch =>
    match Tab.get s.dm.chans none ch with
    | none => s
    | some c => ({ s with dm := { s.dm with rr := ch } }).dmaTurn ch c

theorem execDmaReadGrant_eq (t : Nat) (s : State) : execDmaReadGrant t s = s.run t fun s => s.dmaGrant := rfl

theorem State.Canonical.dmaTurn {s : State} (h : s.Canonical) (ch : Nat) (c : DmaChan) : (s.dmaTurn ch c).Canonical := by
  have hread : (s.dmaSource c).2.Canonical := h.of_same (by simp)
  unfold State.dmaTurn
  split
  · exact h.dmaFinish _ _ _
  · split
    · exact hread
    · next y r htake =>
      have hy : y.Canonical := hread.of_same (State.dmaTake_memories htake)
      split
      · exact hy.dmaFinish _ _ _
      · split
        · exact hy.dmaFinish _ _ _
        · exact hy.dmaCommit _ _

theorem State.Canonical.dmaGrant {s : State} (h : s.Canonical) : s.dmaGrant.Canonical := by
  unfold State.dmaGrant
  split
  · exact h
  · next ch _ =>
    split
    · exact h
    · next c _ => exact State.Canonical.dmaTurn (s := { s with dm := { s.dm with rr := ch } }) h ch c

/-- A packet taken, or none: the memories stay. -/
theorem State.SameMemories.of_takePacket {s y : State} {src : RxFrom} {kind : Nat} {o : Option (List Score)} (h : s.takePacket src kind = (y, o)) :
    s.SameMemories y := by
  have hy : (s.takePacket src kind).1 = y := congrArg Prod.fst h
  rw [← hy]
  simp

theorem Yields.canonical_of_run {c : Instr} {s : State} {t : Nat} {f : State → State} (hs : s.Canonical) (hc : exec c s = s.run t f)
    (hf : ∀ s : State, s.Canonical → (f s).Canonical) : Yields c s State.Canonical :=
  Yields.canonical_of_runIf hs hc hf

/-- What WRITE does with the head of a queue. -/
def State.writeNow (s : State) (k : CmdKey) (c : Cmd) : State :=
  match s.writeRefused c with
  | some x => s.finish k c { status := x }
  | none => if s.cmBusy &&& c.mask = 0 then s.writeOut k c else s.setHeadCmd k { c with since := some s.now }

theorem State.Canonical.writeNow {s : State} (h : s.Canonical) (k : CmdKey) (c : Cmd) : (s.writeNow k c).Canonical := by
  unfold State.writeNow
  split
  · exact h.finish _ _ _
  · split
    · exact h.writeOut _ _
    · exact h.of_same (by simp)

/-- What WRITE_POSTED does with the head of a queue. -/
def State.postNow (s : State) (c : Cmd) : State × Answer :=
  match s.writeRefused c with
  | some x => (s, { status := x })
  | none => if s.cmBusy &&& c.mask = 0 then (s.post c.id c.addr c.values, { status := 0 }) else (s, { status := 0x07 })

theorem State.Canonical.postNow {s : State} (h : s.Canonical) (c : Cmd) : (s.postNow c).1.Canonical := by
  unfold State.postNow
  split
  · exact h
  · split
    · exact h.post _ _ _
    · exact h

/-- What POLL_BUSY does with the head of a queue. -/
def State.pollNow (s : State) (k : CmdKey) (c : Cmd) : State :=
  if c.p 1 > 1000000 then s.finish k c { status := 0x03 }
  else if s.cmBusy &&& c.p 0 = 0 then s.finish k c { status := 0, results := [BitVec.ofNat 20 s.cmBusy] }
  else s.setHeadCmd k { c with since := some s.now }

theorem State.pollNow_memories (s : State) (k : CmdKey) (c : Cmd) : s.SameMemories (s.pollNow k c) := by
  unfold State.pollNow
  repeat' split
  all_goals simp

/-- What FW_STAGE does with the head of a queue that has not waited. -/
def State.stageNow (s : State) (k : CmdKey) (c : Cmd) : State :=
  match s.stageRefused c with
  | some x => s.finish k c { status := x }
  | none => s.stage k c

theorem State.stageNow_memories (s : State) (k : CmdKey) (c : Cmd) : s.SameMemories (s.stageNow k c) := by
  unfold State.stageNow
  split <;> simp

/-- A source's queue after the flash has programmed: its FW_STAGE that has waited for room, or its head. -/
def State.stageTurn (s : State) (k : CmdKey) : State :=
  match s.waitedFor k 0x50 fun _ => 0 with
  | some c => s.stage k c
  | none => s.command k 0x50 fun s c => s.stageNow k c

theorem State.Canonical.stageTurn {s : State} (h : s.Canonical) (k : CmdKey) : (s.stageTurn k).Canonical := by
  unfold State.stageTurn
  split
  · exact h.of_same (by simp)
  · exact h.command (fun c => h.of_same (s.stageNow_memories k c)) k 0x50

theorem execWrite_eq (t : Nat) (src : Source) (s : State) :
    execWrite t src s = s.runCmAt t fun s => s.command (s.keyOf src) 0x02 fun s c => s.writeNow (s.keyOf src) c := rfl

theorem execWritePosted_eq (t : Nat) (src : Source) (s : State) :
    execWritePosted t src s = s.runCmAt t fun s => s.simple (s.keyOf src) 0x03 fun s c => s.postNow c := rfl

theorem execPollBusy_eq (t : Nat) (src : Source) (s : State) :
    execPollBusy t src s = s.runCm t fun s => s.command (s.keyOf src) 0x04 fun s c => s.pollNow (s.keyOf src) c := rfl

theorem execSwap_eq (t : Nat) (src : Source) (s : State) :
    execSwap t src s = s.runCm t fun s => s.simple (s.keyOf src) 0x10 fun s _ => s.swapStart := rfl

theorem execFramesStop_eq (t : Nat) (src : Source) (s : State) :
    execFramesStop t src s = s.runCmAt t fun s => s.simple (s.keyOf src) 0x21 fun s _ => (s.haltFiring, { status := 0 }) := rfl

theorem execRead_eq (t : Nat) (src : Source) (s : State) :
    execRead t src s = s.runCmAt t fun s => s.simple (s.keyOf src) 0x01 State.readCmd := rfl

theorem execFwStage_eq (t : Nat) (src : Source) (n : Nat) (s : State) :
    execFwStage t src n s = s.runCm t fun s => (s.program n).stageTurn ((s.program n).keyOf src) := rfl

theorem State.Canonical.settleStop {s : State} (h : s.Canonical) : s.settleStop.Canonical := h.of_same (by simp)

theorem Yields.canonical_of_runCmAt {c : Instr} {s : State} {t : Nat} {f : State → State} (hs : s.Canonical) (hc : exec c s = s.runCmAt t f)
    (hf : ∀ s : State, s.Canonical → (f s).Canonical) : Yields c s State.Canonical :=
  Yields.canonical_of_runIf (b := s.portLive) (f := fun s => (f s).settleStop) hs hc fun s h => (hf s h).settleStop

/-- The rails' minima, the cleared record of crossings and the report of a BRACE that begins on rail `r`. -/
def State.braceMark (s : State) (r : Nat) : State :=
  let s := (List.range 16).foldl (fun s i => s.setH (Reg.PW_RAIL_MIN_MV i) scoreMax) s
  let s : State := { s with pw := { s.pw with brace := true, braceRail := some r, crossed := [] }, th := { s.th with braceIn := List.range 176 } }
  let s := if s.phase = .inReset then s else (s.flag Reg.PW_STAT_BRACE_SEEN true).inc Reg.PW_BRACE_CNT_COUNT
  s.markSuspect

/-- What the beginning of a BRACE does: its marks, and the FW_STAGEs that waited are refused. -/
def State.braceStart (s : State) (r : Nat) : State := (s.braceMark r).refuseStages

/-- A rail at the warning level in BRACE, which begins if it is not already in force. -/
def State.braceCross (s : State) (r : Rail) (mv : Nat) : State :=
  let s := if s.pw.brace then s else s.braceStart r.val
  ({ s with pw := { s.pw with crossed := addOnce r.val s.pw.crossed } }).railDown r mv

/-- What BRACE_ENTRY does. -/
def State.braceEntry (s : State) (r : Rail) (mv : Nat) : State :=
  if railOk r = false ∨ s.railWarning r + s.railHyst r < mv then s
  else if s.phase = .powerOn ∨ s.railWarning r ≤ mv then s.railUnder r
  else if s.pw.gate.supplyLow then (s.orBit Reg.PW_RAIL_STAT_BELOW r).railUnder r
  else ((s.orBit Reg.PW_RAIL_STAT_BELOW r).railUnder r).braceCross r mv

theorem State.Canonical.braceStart {s : State} (h : s.Canonical) (r : Nat) : (s.braceStart r).Canonical := by
  refine State.Canonical.refuseStages (h.of_same ?_)
  unfold State.braceMark
  dsimp only
  split <;> simp

theorem execBraceEntry_eq (t : Nat) (r : Rail) (mv : Nat) (s : State) : exec (.braceEntry t r mv) s = .next ((s.clock t).braceEntry r mv) := rfl

theorem State.Canonical.braceEntry {s : State} (h : s.Canonical) (r : Rail) (mv : Nat) : (s.braceEntry r mv).Canonical := by
  have hunder : ((s.orBit Reg.PW_RAIL_STAT_BELOW r).railUnder r).Canonical := h.of_same (by simp)
  unfold State.braceEntry
  split
  · exact h
  · split
    · exact h.of_same (by simp)
    · split
      · exact hunder
      · unfold State.braceCross
        split
        · exact hunder.of_same (by simp)
        · exact (hunder.braceStart r).of_same (by simp)

end Sys2Proof.Machine
end

section
/-!
SUPPORT. Every command keeps the canonical form, by the chapter of the spec it belongs to (O4).
-/

namespace Sys2Proof.Machine

theorem State.Canonical.acted {s x : State} {b : Bool} {t : Nat} (hs : s.Canonical) (hx : x.Canonical) :
    (s.keep t (if b then x else s)).Canonical := by
  cases b
  · exact hs
  · exact hx

/-- The chapters of the spec whose events and operations the commands are. -/
inductive Chapter where
  | frames | tiles | shepherd | fold | servo | converters | acquire | illum | lanes | link | safety | delivery | command | registers | power
  | thermal

/-- The chapter of a command, as Instr lists them. -/
def chapterOf : Instr → Chapter
  | .frameBoundary .. | .scanEnd .. | .shotCycleEnd .. | .referenceFail .. | .referenceRecovery .. | .islandStall .. => .frames
  | .comparatorReturn .. | .clampEngage .. | .clampRelease .. | .blankingEnd .. | .rxRecovery .. | .xtkWindowClose .. | .baselineUpdate ..
  | .windowOpen .. | .windowClose .. | .tileQueueDrain .. | .tileUnlock .. | .tileRelock .. | .samplerCaptureStart .. | .samplerCaptureComplete ..
  | .perShotCalibration .. | .ffbEdge .. | .ffbMissing .. | .stStart .. | .stStop .. => .tiles
  | .shepherdSnapshot .. | .shotCycleStart .. | .shotCommit .. | .governorReleaseCheck .. | .externalStart .. | .tlCntClr .. | .teCntClr ..
  | .sqCntClr .. => .shepherd
  | .footprintClearEnd .. | .shotDescriptorReceive .. | .eventIntake .. | .coalesceEntry .. | .bankRmw .. | .ageDrop .. | .closeTokenArrival ..
  | .bufferRelease .. | .tokenTimeout .. | .suspectEnd .. | .histogramDispatch .. | .bufferClean .. | .recordWrite .. | .markPlace ..
  | .fdCntClr .. | .exCntClr .. => .fold
  | .servoSample .. | .handoverForced .. | .trajectoryPeriodEnd .. | .acqTimeout .. | .servoSensorLost .. | .servoOsc .. | .svInjStart ..
  | .svInjStop .. | .injectionEnd .. | .svCntClr .. => .servo
  | .converterOutput .. | .modulatorOverload .. | .secondaryOverload .. | .excitationSwitch .. | .excitationBlankEnd .. | .syncDecEdge ..
  | .axSync .. | .firWrite .. | .impedanceCheckStart .. | .impedanceCheckEnd .. | .axCntClr .. => .converters
  | .aqArm .. | .aqAbort .. | .aqForce .. | .triggerHoldEnd .. | .aqRdDataRead .. | .aqHistDataRead .. | .aqCntClr .. => .acquire
  | .pwmPeriodEnd .. | .lampMeasurement .. | .lampShortDetect .. | .ilRestart .. | .csyncEdge .. | .diagnosticPulse .. | .lampUnverified ..
  | .lampTempLost .. | .ilCntClr .. => .illum
  | .laneEnergyDetect .. | .laneClockLock .. | .laneAlign .. | .trainingScore .. | .laneRateSwitch .. | .deskewDone .. | .trainingTimeout ..
  | .retrain .. | .laneDown .. | .markerReceive .. | .fillBlockReceive .. | .fillBlockSend .. | .eidleRequest .. | .eidleExit .. | .deepRequest ..
  | .wakeDetect .. | .quadRefSwitch .. | .baserLinkChange .. | .lnCntClr .. => .lanes
  | .capsSend .. | .capsReceive .. | .helloSend .. | .helloReceive .. | .detach .. | .consistReceive .. | .planAnnSend .. | .planAnnReceive ..
  | .planActivation .. | .planTimeout .. | .endshotReceive .. | .hevtReceive .. | .headTimeRequest .. | .timeReplyReceive .. | .timeReplyTimeout ..
  | .trigReceive .. | .subExpired .. | .ptpSyncReceive .. | .ptpSyncTimeout .. | .eventReport .. | .eventMergeEnd .. | .eventPacketSend ..
  | .eventPacketReceive .. | .packetDiscard .. | .ptpAnnounceReceive .. | .ptpDelayRespReceive .. | .flCntClr .. | .epTimeRead .. => .link
  | .siRecordTake .. | .resultCrossCheck .. | .frameMissingTimeout .. | .heartbeatSend .. | .heartbeatReceive .. | .heartbeatLoss ..
  | .selfTestCycle .. | .siWatchdogExpiry .. | .regulatorFault .. | .sfCopyCrcCheck .. | .degExpired .. | .readbackFault .. | .feedbackFault ..
  | .srstLevelChange .. | .srstEdge .. | .srstMismatch .. | .fslMessageReceive .. | .fslSlotTimeout .. | .sfbLevelChange .. => .safety
  | .pointsHoldExpiry .. | .dmaStart .. | .dmaStop .. | .dmaReadGrant .. | .dmCntClr .. => .delivery
  | .svcCommand .. | .svcReplyRead .. | .svcEventRead .. | .cmdPacketReceive .. | .udpCommandDatagram .. | .ping .. | .read .. | .write ..
  | .writeBusyTimeout .. | .writePosted .. | .pollBusy .. | .pollBusyTimeout .. | .swap .. | .commitRef .. | .copyActive .. | .framesStart ..
  | .framesStop .. | .decSync .. | .subscribe .. | .unsubscribe .. | .challenge .. | .respond .. | .password .. | .setPassword .. | .close ..
  | .lockField .. | .fwStage .. | .fwStageTimeout .. | .fwConfirm .. | .reboot .. | .rebootReset .. | .safeAck .. | .sessionExpiry ..
  | .nonceExpiry .. | .authWaitExpiry .. | .jtagAccess .. => .command
  | .postedWriteAccept .. | .liveWriteApply .. | .crcPassComplete .. | .liveWindowExpiry .. | .cmCntClr .. | .cfCntClr ..
  | .sysUptimeRead .. => .registers
  | .powerOnReset .. | .powerOnRelease .. | .railAboveWarning .. | .supplyReset .. | .dieRelease .. | .selfTestComplete .. | .nodeRdyAssert ..
  | .braceEntry .. | .braceEnd .. | .rstNAssert .. | .rstNRelease .. | .mgmtWatchdogExpiry .. | .stageComplete .. | .fwTrialExpired ..
  | .settingsSave .. | .settingsSaved .. | .flashWriteResume .. | .pwCntClr .. => .power
  | .diodeSample .. | .throttleRise .. | .throttleFall .. | .sensorRecover .. | .extSensorSilent .. | .shutdownEnd .. | .fireRangeRelease ..
  | .tileCalibration .. | .converterCalSlot .. | .calibrationResult .. | .calPeriodMissed .. | .calSettingsSave .. | .thCntClr .. => .thermal

theorem canonical_of_frames {c : Instr} (hc : chapterOf c = .frames) {s : State} (hs : s.Canonical) : Yields c s State.Canonical := by
  cases c with
  | islandStall =>
    exact ⟨_, rfl, hs.acted (hs.of_same (by simp))⟩
  | frameBoundary | scanEnd | shotCycleEnd | referenceFail | referenceRecovery =>
    refine ⟨_, rfl, hs.acted (hs.of_same ?_)⟩
    dsimp only
    repeat' split
    all_goals simp
  | _ => cases hc

theorem canonical_of_tiles {c : Instr} (hc : chapterOf c = .tiles) {s : State} (hs : s.Canonical) : Yields c s State.Canonical := by
  cases c with
  | comparatorReturn | clampEngage | clampRelease | blankingEnd | rxRecovery | xtkWindowClose | baselineUpdate | windowClose | tileUnlock
  | samplerCaptureComplete | stStart | stStop =>
    exact ⟨_, rfl, hs.acted (hs.of_same (by simp))⟩
  | windowOpen | tileQueueDrain | tileRelock | samplerCaptureStart | perShotCalibration | ffbEdge | ffbMissing =>
    refine ⟨_, rfl, hs.acted (hs.of_same ?_)⟩
    dsimp only
    repeat' split
    all_goals simp
  | _ => cases hc

theorem canonical_of_shepherd {c : Instr} (hc : chapterOf c = .shepherd) {s : State} (hs : s.Canonical) : Yields c s State.Canonical := by
  cases c with
  | governorReleaseCheck | tlCntClr | teCntClr | sqCntClr =>
    exact ⟨_, rfl, hs.acted (hs.of_same (by simp))⟩
  | shepherdSnapshot | shotCycleStart | shotCommit | externalStart =>
    refine ⟨_, rfl, hs.acted (hs.of_same ?_)⟩
    dsimp only
    repeat' split
    all_goals simp
  | _ => cases hc

theorem canonical_of_fold {c : Instr} (hc : chapterOf c = .fold) {s : State} (hs : s.Canonical) : Yields c s State.Canonical := by
  cases c with
  | fdCntClr | exCntClr =>
    exact ⟨_, rfl, hs.acted (hs.of_same (by simp))⟩
  | shotDescriptorReceive | eventIntake | coalesceEntry | ageDrop | closeTokenArrival | bufferRelease | tokenTimeout | suspectEnd | bufferClean
  | recordWrite | markPlace =>
    refine ⟨_, rfl, hs.acted (hs.of_same ?_)⟩
    dsimp only
    repeat' split
    all_goals simp
  | footprintClearEnd t p =>
    exact Yields.canonical_of_run hs (execFootprintClearEnd_eq t p s) fun s h => h.clearFootprint p
  | bankRmw t b =>
    exact Yields.canonical_of_run hs (execBankRmw_eq t b s) fun s h => h.rmw b
  | histogramDispatch t c =>
    exact Yields.canonical_of_run hs (execHistogramDispatch_eq t c s) fun s h => h.dispatch c
  | _ => cases hc

theorem canonical_of_servo {c : Instr} (hc : chapterOf c = .servo) {s : State} (hs : s.Canonical) : Yields c s State.Canonical := by
  cases c with
  | handoverForced | trajectoryPeriodEnd | acqTimeout | servoSensorLost | servoOsc | svInjStart | svInjStop | injectionEnd | svCntClr =>
    exact ⟨_, rfl, hs.acted (hs.of_same (by simp))⟩
  | servoSample =>
    refine ⟨_, rfl, hs.acted (hs.of_same ?_)⟩
    dsimp only
    repeat' split
    all_goals simp
  | _ => cases hc

theorem canonical_of_converters {c : Instr} (hc : chapterOf c = .converters) {s : State} (hs : s.Canonical) : Yields c s State.Canonical := by
  cases c with
  | syncDecEdge | axSync | firWrite | axCntClr =>
    exact ⟨_, rfl, hs.acted (hs.of_same (by simp))⟩
  | converterOutput | modulatorOverload | secondaryOverload | excitationSwitch | excitationBlankEnd | impedanceCheckStart | impedanceCheckEnd =>
    refine ⟨_, rfl, hs.acted (hs.of_same ?_)⟩
    dsimp only
    repeat' split
    all_goals simp
  | _ => cases hc

theorem canonical_of_acquire {c : Instr} (hc : chapterOf c = .acquire) {s : State} (hs : s.Canonical) : Yields c s State.Canonical := by
  cases c with
  | aqArm | aqAbort | aqForce | aqRdDataRead | aqHistDataRead | aqCntClr =>
    exact ⟨_, rfl, hs.acted (hs.of_same (by simp))⟩
  | triggerHoldEnd =>
    refine ⟨_, rfl, hs.acted (hs.of_same ?_)⟩
    dsimp only
    repeat' split
    all_goals simp
  | _ => cases hc

theorem canonical_of_illum {c : Instr} (hc : chapterOf c = .illum) {s : State} (hs : s.Canonical) : Yields c s State.Canonical := by
  cases c with
  | pwmPeriodEnd | lampShortDetect | ilRestart | csyncEdge | lampUnverified | lampTempLost | ilCntClr =>
    exact ⟨_, rfl, hs.acted (hs.of_same (by simp))⟩
  | lampMeasurement | diagnosticPulse =>
    refine ⟨_, rfl, hs.acted (hs.of_same ?_)⟩
    dsimp only
    repeat' split
    all_goals simp
  | _ => cases hc

theorem canonical_of_lanes {c : Instr} (hc : chapterOf c = .lanes) {s : State} (hs : s.Canonical) : Yields c s State.Canonical := by
  cases c with
  | retrain | fillBlockSend | eidleRequest | deepRequest | quadRefSwitch | lnCntClr =>
    exact ⟨_, rfl, hs.acted (hs.of_same (by simp))⟩
  | laneEnergyDetect | laneClockLock | laneAlign | laneRateSwitch | deskewDone | trainingTimeout | laneDown | markerReceive | fillBlockReceive
  | eidleExit | wakeDetect | baserLinkChange =>
    refine ⟨_, rfl, hs.acted (hs.of_same ?_)⟩
    dsimp only
    repeat' split
    all_goals simp
  | trainingScore t l t0 =>
    refine ⟨_, rfl, hs.acted (hs.of_same ?_)⟩
    constructor <;> (dsimp only; repeat' split)
    all_goals simp
  | _ => cases hc

theorem canonical_of_link {c : Instr} (hc : chapterOf c = .link) {s : State} (hs : s.Canonical) : Yields c s State.Canonical := by
  cases c with
  | capsSend | helloSend | planAnnSend | planTimeout | headTimeRequest | ptpSyncReceive | ptpSyncTimeout | eventMergeEnd | ptpAnnounceReceive
  | ptpDelayRespReceive | flCntClr | epTimeRead =>
    exact ⟨_, rfl, hs.acted (hs.of_same (by simp))⟩
  | detach | planActivation | timeReplyTimeout | subExpired | eventReport | eventPacketSend | packetDiscard =>
    refine ⟨_, rfl, hs.acted (hs.of_same ?_)⟩
    dsimp only
    repeat' split
    all_goals simp
  | capsReceive | helloReceive | consistReceive | planAnnReceive | endshotReceive | hevtReceive | timeReplyReceive | trigReceive
  | eventPacketReceive =>
    refine ⟨_, rfl, hs.acted (hs.of_same ?_)⟩
    dsimp only
    split
    all_goals
      next htake =>
        have hy := State.SameMemories.of_takePacket htake
        (repeat' split) <;> simp [hy]
  | _ => cases hc

theorem canonical_of_safety {c : Instr} (hc : chapterOf c = .safety) {s : State} (hs : s.Canonical) : Yields c s State.Canonical := by
  cases c with
  | frameMissingTimeout | heartbeatSend | heartbeatReceive | heartbeatLoss | selfTestCycle | siWatchdogExpiry | regulatorFault | sfCopyCrcCheck
  | readbackFault | feedbackFault | srstLevelChange | srstMismatch | fslSlotTimeout | sfbLevelChange =>
    exact ⟨_, rfl, hs.acted (hs.of_same (by simp))⟩
  | siRecordTake | resultCrossCheck | degExpired | srstEdge =>
    refine ⟨_, rfl, hs.acted (hs.of_same ?_)⟩
    dsimp only
    repeat' split
    all_goals simp
  | fslMessageReceive =>
    refine ⟨_, rfl, hs.acted (hs.of_same ?_)⟩
    dsimp only
    split
    all_goals
      next htake =>
        have hy := State.SameMemories.of_takePacket htake
        (repeat' split) <;> simp [hy]
  | _ => cases hc

theorem canonical_of_delivery {c : Instr} (hc : chapterOf c = .delivery) {s : State} (hs : s.Canonical) : Yields c s State.Canonical := by
  cases c with
  | dmaStart | dmCntClr =>
    exact ⟨_, rfl, hs.acted (hs.of_same (by simp))⟩
  | pointsHoldExpiry t q =>
    refine ⟨_, rfl, hs.acted (hs.of_same (State.SameMemories.foldl (fun s u => ?_) _ (s.clock t)))⟩
    repeat' split
    all_goals simp
  | dmaStop t c =>
    exact Yields.canonical_of_run (f := fun s => s.dmaStop c) hs rfl fun s h => h.dmaStop c
  | dmaReadGrant t =>
    exact Yields.canonical_of_run hs (execDmaReadGrant_eq t s) fun s h => h.dmaGrant
  | _ => cases hc

theorem canonical_of_registers {c : Instr} (hc : chapterOf c = .registers) {s : State} (hs : s.Canonical) : Yields c s State.Canonical := by
  cases c with
  | liveWriteApply | crcPassComplete | liveWindowExpiry | cmCntClr | cfCntClr | sysUptimeRead =>
    exact ⟨_, rfl, hs.acted (hs.of_same (by simp))⟩
  | postedWriteAccept t bit =>
    have haccept : (((s.clock t).acceptOldest bit).wake).Canonical := (State.Canonical.acceptOne (s := s.clock t) hs _).wake
    exact ⟨_, rfl, hs.acted (haccept.of_same (by simp))⟩
  | _ => cases hc

theorem canonical_of_thermal {c : Instr} (hc : chapterOf c = .thermal) {s : State} (hs : s.Canonical) : Yields c s State.Canonical := by
  cases c with
  | extSensorSilent | tileCalibration | converterCalSlot | calPeriodMissed | calSettingsSave | thCntClr =>
    exact ⟨_, rfl, hs.acted (hs.of_same (by simp))⟩
  | throttleRise | throttleFall | sensorRecover | shutdownEnd | fireRangeRelease | calibrationResult =>
    refine ⟨_, rfl, hs.acted (hs.of_same ?_)⟩
    dsimp only
    repeat' split
    all_goals simp
  | diodeSample t r =>
    have hexec : exec (.diodeSample t r) s = execDiodeSample t r s := rfl
    unfold execDiodeSample at hexec
    split at hexec
    · exact Yields.canonical_of_runIf hs hexec fun s h => h
    · refine Yields.canonical_of_runIf hs hexec fun s h => h.of_same ?_
      dsimp only
      split <;> simp
  | _ => cases hc

theorem canonical_of_command {c : Instr} (hc : chapterOf c = .command) {s : State} (hs : s.Canonical) : Yields c s State.Canonical := by
  cases c with
  | jtagAccess | svcEventRead =>
    exact ⟨_, rfl, hs.acted (hs.of_same (by simp))⟩
  | svcCommand | udpCommandDatagram | sessionExpiry | nonceExpiry | authWaitExpiry | writeBusyTimeout | pollBusyTimeout | fwStageTimeout =>
    refine ⟨_, rfl, hs.acted (hs.of_same ?_)⟩
    dsimp only
    repeat' split
    all_goals simp
  | cmdPacketReceive =>
    refine ⟨_, rfl, hs.acted (hs.of_same ?_)⟩
    dsimp only
    split
    all_goals
      next htake =>
        have hy := State.SameMemories.of_takePacket htake
        simp [hy]
  | ping | copyActive | framesStart | decSync | subscribe | unsubscribe | challenge | respond | password | setPassword | close | fwConfirm
  | safeAck =>
    exact ⟨_, rfl, hs.acted (State.Canonical.simple (s := s.clock _) hs (fun c => hs.of_same (by simp)) _ _)⟩
  | lockField | reboot =>
    refine ⟨_, rfl, hs.acted (State.Canonical.simple (s := s.clock _) hs (fun c => hs.of_same ?_) _ _)⟩
    split <;> simp
  | swap t src => exact Yields.canonical_of_runIf hs (execSwap_eq t src s) fun s h => h.simple (fun _ => h.swapStart) _ _
  | commitRef =>
    exact ⟨_, rfl, hs.acted (State.Canonical.simple (s := s.clock _) hs (fun c => State.Canonical.commitRef (s := s.clock _) hs _ _) _ _)⟩
  | framesStop t src =>
    exact Yields.canonical_of_runCmAt hs (execFramesStop_eq t src s) fun s h => h.simple (fun _ => h.of_same (by simp)) _ _
  | read t src => exact Yields.canonical_of_runCmAt hs (execRead_eq t src s) fun s h => h.simple (fun c => h.readCmd c) _ _
  | write t src => exact Yields.canonical_of_runCmAt hs (execWrite_eq t src s) fun s h => h.command (fun c => h.writeNow _ c) _ _
  | writePosted t src => exact Yields.canonical_of_runCmAt hs (execWritePosted_eq t src s) fun s h => h.simple (fun c => h.postNow c) _ _
  | pollBusy t src =>
    exact Yields.canonical_of_runIf hs (execPollBusy_eq t src s) fun s h => h.command (fun c => h.of_same (s.pollNow_memories _ c)) _ _
  | fwStage t src n =>
    refine Yields.canonical_of_runIf hs (execFwStage_eq t src n s) fun s h => ?_
    have hprogram : (s.program n).Canonical := h.of_same (by simp)
    exact hprogram.stageTurn _
  | svcReplyRead t clocked =>
    refine ⟨_, rfl, hs.acted ?_⟩
    dsimp only
    split
    · exact State.Canonical.wakeOne (hs.of_same (by simp)) _
    · exact hs.of_same (by simp)
  | rebootReset t boot =>
    refine ⟨_, rfl, ?_⟩
    split
    · split
      · exact State.canonical_resetNow _ _ _
      · exact hs
    · exact hs
  | _ => cases hc

theorem canonical_of_power {c : Instr} (hc : chapterOf c = .power) {s : State} (hs : s.Canonical) : Yields c s State.Canonical := by
  cases c with
  | powerOnReset => exact ⟨_, rfl, State.canonical_reset.of_same (by simp)⟩
  | powerOnRelease | railAboveWarning | braceEnd | nodeRdyAssert =>
    refine ⟨_, rfl, hs.of_same ?_⟩
    repeat' split
    all_goals simp
  | rstNRelease =>
    refine ⟨_, rfl, hs.of_same ?_⟩
    split
    · dsimp only
      split <;> simp
    · simp
  | dieRelease =>
    refine ⟨_, rfl, hs.of_same ?_⟩
    split
    · dsimp only
      split <;> split <;> simp
    · simp
  | settingsSave | settingsSaved | fwTrialExpired | pwCntClr | flashWriteResume | stageComplete =>
    refine ⟨_, rfl, hs.acted (hs.of_same ?_)⟩
    dsimp only
    repeat' split
    all_goals simp
  | braceEntry t r mv =>
    exact ⟨_, execBraceEntry_eq t r mv s, State.Canonical.braceEntry (s := s.clock t) hs r mv⟩
  | rstNAssert =>
    refine ⟨_, rfl, ?_⟩
    split
    · exact hs
    · dsimp only
      split
      · exact hs.of_same (by simp)
      · exact State.canonical_dieReset _ _ _
  | mgmtWatchdogExpiry =>
    refine ⟨_, rfl, ?_⟩
    split
    · exact State.canonical_resetNow _ _ _
    · exact hs
  | selfTestComplete =>
    refine ⟨_, rfl, ?_⟩
    split
    · split
      · dsimp only
        split
        · exact hs.of_same (by simp)
        · exact hs.of_same (by simp)
      · split
        · exact State.canonical_resetNow _ _ _
        · exact hs
    · exact hs
  | supplyReset t r =>
    refine ⟨_, rfl, ?_⟩
    split
    · exact hs
    · split
      · exact hs.of_same (by simp)
      · refine iteInduction (motive := State.Canonical) (fun _ => hs.of_same ?_) fun _ => State.canonical_dieReset _ _ _
        dsimp only
        split <;> simp
  | _ => cases hc

/-- Every command keeps the memories canonical. -/
theorem exec_canonical (c : Instr) {s : State} (hs : s.Canonical) : Yields c s State.Canonical := by
  cases h : chapterOf c with
  | frames => exact canonical_of_frames h hs
  | tiles => exact canonical_of_tiles h hs
  | shepherd => exact canonical_of_shepherd h hs
  | fold => exact canonical_of_fold h hs
  | servo => exact canonical_of_servo h hs
  | converters => exact canonical_of_converters h hs
  | acquire => exact canonical_of_acquire h hs
  | illum => exact canonical_of_illum h hs
  | lanes => exact canonical_of_lanes h hs
  | link => exact canonical_of_link h hs
  | safety => exact canonical_of_safety h hs
  | delivery => exact canonical_of_delivery h hs
  | command => exact canonical_of_command h hs
  | registers => exact canonical_of_registers h hs
  | power => exact canonical_of_power h hs
  | thermal => exact canonical_of_thermal h hs

end Sys2Proof.Machine

namespace Sys2Proof
open Machine

/-- Settles O4: only fold writes, footprint and histogram clears, DMA writes and resets touch the two memories, and each keeps their form. -/
theorem memoriesStayCanonical : Obligations.MemoriesStayCanonical := by
  unfold Obligations.MemoriesStayCanonical
  intro s x hs hx
  unfold step at hx
  split at hx
  · next hempty => exact Host.Outcome.next.inj hx ▸ hs
  · next c r hpending =>
    have hnext : State.Canonical { s with pending := r } := hs
    obtain ⟨y, hexec, hy⟩ := exec_canonical c hnext
    cases hexec.symm.trans hx
    exact hy
end Sys2Proof
end

section
/-!
SUPPORT. Events at the fold intake: those of a released buffer, and those of the interval in progress (R142 to R148, R155, R160).
-/

namespace Sys2Proof.Machine

/-- The part that a pixel has in a shot, counted or as a disabled pixel. -/
def FdShot.partOf (d : FdShot) (p : Nat) : Option Part :=
  d.parts.find? fun q => match q with | .counted p' _ _ => decide (p' = p) | .disabled p' => decide (p' = p)

theorem State.takeEvent_eq (s : State) (p shot stamp : Nat) (drop ovr xtk loss fbs : Bool) : s.takeEvent p shot stamp drop ovr xtk loss fbs =
    if s.f Reg.FD_CFG_EN = 0 || drop then s
    else match s.fd.shots.reverse.find? (fun x => decide (x.seq = shot)) with
      | none => s.inc Reg.FD_ORPHAN_COUNT
      | some x => match x.partOf p with
        | none => s.inc Reg.FD_ORPHAN_COUNT
        | some (.disabled _) => s.inc Reg.FD_DISC_CNT_COUNT
        | some (.counted _ gen k) =>
          if (s.fdPix p).has gen then s.histEvent p gen k stamp x.dither ovr xtk loss fbs else s.inc Reg.FD_LATE_COUNT := rfl

/-- An event of a counted shot is histogrammed, or late. -/
theorem State.takeEvent_of_counted {s : State} {p shot gen k : Nat} {d : FdShot} (hen : s.f Reg.FD_CFG_EN = 1)
    (hshot : s.fd.shots.reverse.find? (fun z => decide (z.seq = shot)) = some d) (hpart : d.partOf p = some (.counted p gen k))
    (stamp : Nat) (ovr xtk loss fbs : Bool) : s.takeEvent p shot stamp false ovr xtk loss fbs =
      if (s.fdPix p).has gen then s.histEvent p gen k stamp d.dither ovr xtk loss fbs else s.inc Reg.FD_LATE_COUNT := by
  rw [State.takeEvent_eq]
  simp [hen, hshot, hpart]

/-- EVENT_INTAKE of an event of an analog channel without ORDER or OVF. -/
theorem execEventIntake_analog {t q shot : Nat} {p : Pixel} {stamp tag : Score} {r : List Intake} {s : State} (hr : s.phase = .ready)
    (htake : takeIntake p s.fd.intake = some (.analog q shot stamp tag, r)) (horder : tagBit tag 10 = false) (hovf : tagBit tag 9 = false) :
    execEventIntake t p s = .next (s.keep t (((s.clock t).takeFromIntake r).takeEvent p shot stamp.toNat false
      (tagBit tag 13) (tagBit tag 12) (tagBit tag 5) (tagBit tag 6))) := by
  have htake' : takeIntake p (s.clock t).fd.intake = some (.analog q shot stamp tag, r) := htake
  rw [execEventIntake, s.run_ready t _ hr]
  simp only [htake', horder, hovf]
  rfl

/-- EVENT_INTAKE of an event of a head. -/
theorem execEventIntake_head {t q shot : Nat} {p : Pixel} {stamp : Score} {hs hl : Bool} {r : List Intake} {s : State} (hr : s.phase = .ready)
    (htake : takeIntake p s.fd.intake = some (.head q shot stamp hs hl, r)) :
    execEventIntake t p s = .next (s.keep t (((s.clock t).takeFromIntake r).takeEvent p shot stamp.toNat false hs false hl false)) := by
  have htake' : takeIntake p (s.clock t).fd.intake = some (.head q shot stamp hs hl, r) := htake
  rw [execEventIntake, s.run_ready t _ hr]
  simp only [htake']
  rfl

/-! ### Late events -/

/-- The item taken, and FD_LATE counted. -/
def State.countLate (s : State) (r : List Intake) : State := (s.takeFromIntake r).inc Reg.FD_LATE_COUNT

theorem State.countLate_spec (s : State) (t : Nat) (r : List Intake) :
    (s.keep t ((s.clock t).countLate r)).h Reg.FD_LATE_COUNT = min (s.h Reg.FD_LATE_COUNT + 1) Reg.FD_LATE_COUNT.top
      ∧ (s.keep t ((s.clock t).countLate r)).fd = { s.fd with intake := r }
      ∧ OnlyFields [Reg.FD_LATE_COUNT] s (s.keep t ((s.clock t).countLate r))
      ∧ Frame t [.fields, .fold] s (s.keep t ((s.clock t).countLate r)) := by
  have htaken := ((s.clock t).takeFromIntake_untouched r).mono (l' := [.fields, .fold])
  have hcounted := (((s.clock t).takeFromIntake r).inc_untouched Reg.FD_LATE_COUNT).mono (l' := [.fields, .fold])
  refine ⟨State.h_inc_same _ _, ?_, OnlyFields.inc (List.mem_singleton_self _) _, Frame.of_untouched (htaken.trans hcounted)⟩
  simp [State.keep, State.countLate, State.takeFromIntake]

theorem State.takeEvent_late {s : State} {p shot gen k : Nat} {d : FdShot} {r : List Intake} (hen : s.f Reg.FD_CFG_EN = 1)
    (hshot : s.fd.shots.reverse.find? (fun z => decide (z.seq = shot)) = some d) (hpart : d.partOf p = some (.counted p gen k))
    (hgone : (s.fdPix p).has gen = false) (stamp : Nat) (ovr xtk loss fbs : Bool) :
    (s.takeFromIntake r).takeEvent p shot stamp false ovr xtk loss fbs = s.countLate r := by
  have hgone' : ((s.takeFromIntake r).fdPix p).has gen = false := hgone
  rw [State.takeEvent_of_counted (s := s.takeFromIntake r) hen hshot hpart, hgone']
  rfl

/-! ### Events of the interval in progress -/

/-- A request waits last at its port. -/
theorem State.ports_request (s : State) (r : Req) :
    Tab.get (s.request r).fd.ports [] (16 * clusterOf r.addr + (Config.foldPort r.pixel r.addr).val)
      = Tab.get s.fd.ports [] (16 * clusterOf r.addr + (Config.foldPort r.pixel r.addr).val) ++ [r] := by
  simp [State.request]

theorem State.request_untouched (s : State) (r : Req) : Untouched [.fold] s (s.request r) := by
  intro g hg
  cases g <;> simp [Group.same, State.request] at hg ⊢

/-- An event in a bin of the interval in progress, without TRACE: its marks, and one request for the bin. -/
theorem State.histEvent_of_bin {s : State} {p k stamp dither b : Nat} (hbin : binOf (s.fdPix p).cur.desc stamp dither = .bin b)
    (htrace : descTrace (s.fdPix p).cur.desc = false) (ovr xtk loss fbs : Bool) :
    s.histEvent p (s.fdPix p).cur.gen k stamp dither ovr xtk loss fbs
      = (s.setFdPix p ((s.fdPix p).onInterval (s.fdPix p).cur.gen (markEvent ovr xtk loss fbs (some b)))).request
          { addr := bufStart (s.fdPix p).cur.desc (s.fdPix p).cur.buf + b, pixel := p, gen := (s.fdPix p).cur.gen, arrived := s.now } := by
  simp [State.histEvent, hbin, htrace, State.setFdPix]

theorem eventIntake_requests (t : Nat) (p : Pixel) (q shot k b : Nat) (stamp tag : Score) (r : List Intake) (d : FdShot) (s : State)
    (hr : s.phase = .ready) (hen : s.f Reg.FD_CFG_EN = 1) (htake : takeIntake p s.fd.intake = some (.analog q shot stamp tag, r))
    (horder : tagBit tag 10 = false) (hovf : tagBit tag 9 = false) (hshot : s.fd.shots.reverse.find? (fun z => decide (z.seq = shot)) = some d)
    (hpart : d.partOf p = some (.counted p (s.fdPix p).cur.gen k)) (hbin : binOf (s.fdPix p).cur.desc stamp.toNat d.dither = .bin b)
    (htrace : descTrace (s.fdPix p).cur.desc = false) : Yields (.eventIntake t p) s fun x =>
      (∃ port : Fin 16, Tab.get x.fd.ports [] (16 * clusterOf (bufStart (s.fdPix p).cur.desc (s.fdPix p).cur.buf + b) + port.val)
          = Tab.get s.fd.ports [] (16 * clusterOf (bufStart (s.fdPix p).cur.desc (s.fdPix p).cur.buf + b) + port.val)
            ++ [(⟨bufStart (s.fdPix p).cur.desc (s.fdPix p).cur.buf + b, p, (s.fdPix p).cur.gen, max s.now t⟩ : Req)])
        ∧ x.fd.intake = r ∧ Frame t [.fold] s x := by
  let y := (s.clock t).takeFromIntake r
  let pix := s.fdPix p
  let req : Req := ⟨bufStart pix.cur.desc pix.cur.buf + b, p, pix.cur.gen, max s.now t⟩
  let marked := y.setFdPix p (pix.onInterval pix.cur.gen (markEvent (tagBit tag 13) (tagBit tag 12) (tagBit tag 5) (tagBit tag 6) (some b)))
  have hhas : (y.fdPix p).has pix.cur.gen = true := by simp [FdPixel.has, y, pix, State.takeFromIntake, State.fdPix]
  have hevent : y.takeEvent p shot stamp.toNat false (tagBit tag 13) (tagBit tag 12) (tagBit tag 5) (tagBit tag 6) = marked.request req := by
    rw [State.takeEvent_of_counted (s := y) hen hshot hpart, if_pos hhas]
    exact State.histEvent_of_bin (s := y) hbin htrace _ _ _ _
  refine ⟨_, (execEventIntake_analog hr htake horder hovf).trans (by rw [hevent]), ?_⟩
  exact ⟨⟨Config.foldPort p req.addr, marked.ports_request req⟩, rfl,
    Frame.of_untouched ((((s.clock t).takeFromIntake_untouched r).trans (y.setFdPix_untouched p _)).trans (marked.request_untouched req))⟩

end Sys2Proof.Machine

namespace Sys2Proof
open Machine

/-- Settles O20: an event of a counted shot whose interval the pixel no longer has only counts FD_LATE (takeEvent_late). -/
theorem lateEventsDiscarded : Obligations.LateEventsDiscarded := by
  unfold Obligations.LateEventsDiscarded
  refine ⟨?analog, ?head⟩
  case analog =>
    intro t p q shot gen k stamp tag r d s hr hen htake horder hovf hshot hpart hgone
    have hlate := State.takeEvent_late (s := s.clock t) (r := r) hen hshot hpart hgone stamp.toNat
    exact ⟨_, (execEventIntake_analog hr htake horder hovf).trans (by rw [hlate]), s.countLate_spec t r⟩
  case head =>
    intro t p q shot gen k stamp hs hl r d s hr hen htake hshot hpart hgone
    have hlate := State.takeEvent_late (s := s.clock t) (r := r) hen hshot hpart hgone stamp.toNat
    exact ⟨_, (execEventIntake_head hr htake).trans (by rw [hlate]), s.countLate_spec t r⟩

/-- Settles O21: such an event leaves its marks in the interval and one request at a port (histEvent_of_bin, ports_request). -/
theorem eventsBecomeRequests : Obligations.EventsBecomeRequests := by
  unfold Obligations.EventsBecomeRequests
  exact eventIntake_requests

end Sys2Proof
end

section
/-!
SUPPORT. Writes to the fold memory: one bin of a bank, the bins of a footprint (R148, R150, R159, R161).
-/

namespace Sys2Proof.Machine

/-! ### One bin -/

theorem State.bin_storeEntry_same (s : State) (b : Nat) (e : Coal) (q : List Coal) (v : Nat) : (s.storeEntry b e q v).bin e.addr = v :=
  State.bin_setBin_same _ _ _

theorem State.bin_storeEntry_ne (s : State) (b : Nat) (e : Coal) (q : List Coal) (v : Nat) {a : Nat} (ha : a ≠ e.addr) :
    (s.storeEntry b e q v).bin a = s.bin a :=
  State.bin_setBin_ne _ _ _ _ ha

theorem State.coal_storeEntry (s : State) (b : Nat) (e : Coal) (q : List Coal) (v : Nat) :
    (s.storeEntry b e q v).fd.coal = Tab.set s.fd.coal [] b q := rfl

theorem State.storeEntry_untouched (s : State) (b : Nat) (e : Coal) (q : List Coal) (v : Nat) :
    Untouched [.fold, .foldMem] s (s.storeEntry b e q v) := by
  intro g hg
  cases g <;> simp [Group.same, State.storeEntry, State.setBin] at hg ⊢

/-- Adding an entry stores its limited sum; a mark of SAT changes neither the memory nor the entries. -/
theorem State.addEntry_spec (s : State) (b : Nat) (e : Coal) (q : List Coal) :
    let y := s.storeEntry b e q (satScore (s.bin e.addr + e.count))
    (s.addEntry b e q).fd.mem = y.fd.mem ∧ (s.addEntry b e q).fd.coal = y.fd.coal ∧ Untouched [.fold, .foldMem] s (s.addEntry b e q) := by
  intro y
  have hstored : Untouched [.fold, .foldMem] s y := s.storeEntry_untouched b e q _
  unfold State.addEntry
  split
  · exact ⟨rfl, rfl, hstored.trans ((y.setFdPix_untouched _ _).mono)⟩
  · exact ⟨rfl, rfl, hstored⟩

theorem State.rmw_of_entry {s : State} {b : Nat} {e : Coal} {q : List Coal} (hentry : Tab.get s.fd.coal [] b = e :: q)
    (hmay : s.fdMay (bankMem b) 1 = true) : s.rmw b = s.addEntry b e q := by
  simp only [State.rmw, hentry, hmay]

theorem bankRmw_yields (t : Nat) (b : Fin 1024) (e : Coal) (q : List Coal) (s : State) (hr : s.phase = .ready)
    (hentry : Tab.get s.fd.coal [] b = e :: q) (hmay : (s.clock t).fdMay (bankMem b) 1 = true) : Yields (.bankRmw t b) s fun x =>
      x.bin e.addr = min 1048575 (s.bin e.addr + e.count) ∧ (∀ a, a ≠ e.addr → x.bin a = s.bin a) ∧ Tab.get x.fd.coal [] b = q
        ∧ (∀ c, c ≠ b.val → Tab.get x.fd.coal [] c = Tab.get s.fd.coal [] c) ∧ Frame t [.fold, .foldMem] s x := by
  refine Yields.of_run (execBankRmw t b) hr rfl (execBankRmw_eq t b s) ?_
  rw [State.rmw_of_entry (s := s.clock t) hentry hmay]
  let sum := satScore (s.bin e.addr + e.count)
  obtain ⟨hmem, hcoal, hrest⟩ := (s.clock t).addEntry_spec b e q
  have hbin (a : Nat) : (s.keep t ((s.clock t).addEntry b e q)).bin a = ((s.clock t).storeEntry b e q sum).bin a :=
    congrArg (fun m => Tab.get m 0 a) hmem
  have hqueue (c : Nat) : Tab.get (s.keep t ((s.clock t).addEntry b e q)).fd.coal [] c = Tab.get (Tab.set s.fd.coal [] b q) [] c :=
    congrArg (fun m => Tab.get m [] c) hcoal
  refine ⟨?same, fun a ha => (hbin a).trans (State.bin_storeEntry_ne _ _ _ _ _ ha), (hqueue b).trans (Tab.get_set_same _ _ _ _),
    fun c hc => (hqueue c).trans (Tab.get_set_ne _ _ _ _ hc), Frame.of_untouched hrest⟩
  case same =>
    calc _ = sum := (hbin e.addr).trans (State.bin_storeEntry_same _ _ _ _ _)
      _ = min 1048575 (s.bin e.addr + e.count) := Nat.min_comm _ _

/-! ### A stretch of bins -/

theorem Tab.look_filter {α : Type} (l : List (Nat × α)) (d : α) (p : Nat → Bool) (k : Nat) :
    Tab.look (l.filter fun c => p c.1) d k = if p k then Tab.look l d k else d := by
  induction l with
  | nil => simp [Tab.look]
  | cons c r ih =>
    by_cases hk : c.1 = k
    · subst hk
      cases hp : p c.1 <;> simp [Tab.look, hp, ih]
    · cases hp : p c.1 <;> simp [Tab.look, hp, ih, hk]

theorem State.bin_zeroBins (s : State) (start len a : Nat) :
    (s.zeroBins start len).bin a = if a < start ∨ start + len ≤ a then s.bin a else 0 := by
  refine (Tab.look_filter s.fd.mem.cells 0 (fun k => decide (k < start) || decide (start + len ≤ k)) a).trans ?_
  simp [State.bin, Tab.get]

theorem State.bin_zeroBins_inside (s : State) {start len a : Nat} (hlo : start ≤ a) (hhi : a < start + len) :
    (s.zeroBins start len).bin a = 0 := by
  rw [State.bin_zeroBins, if_neg (by omega)]

theorem State.bin_zeroBins_outside (s : State) {start len a : Nat} (h : a < start ∨ start + len ≤ a) :
    (s.zeroBins start len).bin a = s.bin a := by
  rw [State.bin_zeroBins, if_pos h]

theorem State.zeroBins_untouched (s : State) (start len : Nat) : Untouched [.foldMem] s (s.zeroBins start len) := by
  intro g hg
  cases g <;> simp [Group.same, State.zeroBins] at hg ⊢

theorem footprintClearEnd_yields (t : Nat) (p : Pixel) (s : State) (hr : s.phase = .ready) (hclear : (s.fdPix p).clearing = true) :
    Yields (.footprintClearEnd t p) s fun x =>
      (∀ a, footStart (s.fdPix p).desc ≤ a → a < footStart (s.fdPix p).desc + footLen (s.fdPix p).desc → x.bin a = 0)
        ∧ (∀ a, a < footStart (s.fdPix p).desc ∨ footStart (s.fdPix p).desc + footLen (s.fdPix p).desc ≤ a → x.bin a = s.bin a)
        ∧ (x.fdPix p).clearing = false ∧ (∀ z, z ≠ p.val → x.fdPix z = s.fdPix z) ∧ Frame t [.fold, .foldMem] s x := by
  refine Yields.of_run (execFootprintClearEnd t p) hr rfl (execFootprintClearEnd_eq t p s) ?_
  let cleared : FdPixel := { s.fdPix p with clearing := false }
  let y := (s.clock t).setFdPix p cleared
  have hclears : (s.clock t).clearFootprint p = y.zeroBins (footStart (s.fdPix p).desc) (footLen (s.fdPix p).desc) := if_pos hclear
  rw [hclears]
  exact ⟨fun a hlo hhi => y.bin_zeroBins_inside hlo hhi, fun a ha => y.bin_zeroBins_outside ha,
    congrArg FdPixel.clearing ((s.clock t).fdPix_setFdPix_same p cleared), fun z hz => (s.clock t).fdPix_setFdPix_ne cleared hz,
    Frame.of_untouched (((s.clock t).setFdPix_untouched p cleared).mono.trans (y.zeroBins_untouched _ _).mono)⟩

end Sys2Proof.Machine

namespace Sys2Proof
open Machine

/-- Settles O22: BANK_RMW stores the limited sum at the entry's bin (addEntry_spec); a stretch that is zeroed reads 0 inside and as before
outside (bin_zeroBins). -/
theorem foldMemoryWrites : Obligations.FoldMemoryWrites := by
  unfold Obligations.FoldMemoryWrites
  exact ⟨bankRmw_yields, fun t p s hr hclear _ => footprintClearEnd_yields t p s hr hclear⟩

end Sys2Proof
end

section
/-!
SUPPORT. The oldest request of a port: it takes a new entry of its bank, or is dropped for its age (R161 to R163).
-/

namespace Sys2Proof.Machine

/-! ### A new entry -/

/-- The oldest request of a port passes to its bank; `rest` still waits. -/
def State.passRequest (s : State) (k port : Nat) (r : Req) (rest : List Req) : State :=
  let s := (s.fdPass (portPlace k port)).fdPass (bankIn (bankOf r.addr))
  { s with fd := { s.fd with ports := Tab.set s.fd.ports [] (16 * k + port) rest } }

/-- A request takes a free entry of its bank, and the cluster's peak follows. -/
def State.newEntry (s : State) (k : Nat) (r : Req) : State :=
  let entries := Tab.get s.fd.coal [] (bankOf r.addr) ++ [{ addr := r.addr, count := 1, pixel := r.pixel, gen := r.gen }]
  let s := { s with fd := { s.fd with coal := Tab.set s.fd.coal [] (bankOf r.addr) entries } }
  s.setH (Reg.FD_CL_PEAK_PEAK k) (max (s.h (Reg.FD_CL_PEAK_PEAK k)) entries.length)

theorem State.passRequest_untouched (s : State) (k port : Nat) (r : Req) (rest : List Req) :
    Untouched [.fold] s (s.passRequest k port r rest) := by
  intro g hg
  cases g <;> simp [Group.same, State.passRequest] at hg ⊢

theorem State.newEntry_untouched (s : State) (k : Nat) (r : Req) : Untouched [.fields, .fold] s (s.newEntry k r) := by
  intro g hg
  cases g <;> simp [Group.same, State.newEntry] at hg ⊢

theorem State.coal_newEntry (s : State) (k : Nat) (r : Req) : Tab.get (s.newEntry k r).fd.coal [] (bankOf r.addr)
    = Tab.get s.fd.coal [] (bankOf r.addr) ++ [{ addr := r.addr, count := 1, pixel := r.pixel, gen := r.gen }] := by
  simp [State.newEntry]

/-- A request that finds no entry of its address and a free one takes it. -/
theorem execCoalesceEntry_of_free {t : Nat} {k : FoldCluster} {port : Fin 16} {r : Req} {l : List Req} {s : State} (hr : s.phase = .ready)
    (hreq : Tab.get s.fd.ports [] (16 * k.val + port.val) = r :: l)
    (hnone : (Tab.get s.fd.coal [] (bankOf r.addr)).any (fun e => decide (e.addr = r.addr)) = false)
    (hroom : (Tab.get s.fd.coal [] (bankOf r.addr)).length < 16) (hport : (s.clock t).fdMay (portPlace k port) 1 = true)
    (hbank : (s.clock t).fdMay (bankIn (bankOf r.addr)) 4 = true) :
    execCoalesceEntry t k port s = .next (s.keep t (((s.clock t).passRequest k port r l).newEntry k r)) := by
  have hreq' : Tab.get (s.clock t).fd.ports [] (16 * k.val + port.val) = r :: l := hreq
  have hroom' : (Tab.get (s.clock t).fd.coal [] (bankOf r.addr)).length < 16 := hroom
  have hmerge : ((Tab.get (s.clock t).fd.coal [] (bankOf r.addr)).any fun e => decide (e.addr = r.addr) && decide (e.count < 255)) = false := by
    simp only [List.any_eq_false, Bool.and_eq_true, not_and] at hnone ⊢
    exact fun e he haddr => absurd haddr (hnone e he)
  rw [execCoalesceEntry, s.run_ready t _ hr]
  simp only [hreq', hport, hbank, hmerge, if_pos hroom', Bool.not_true, Bool.false_eq_true, if_false]
  rfl

theorem coalesceEntry_yields (t : Nat) (k : FoldCluster) (port : Fin 16) (r : Req) (l : List Req) (s : State) (hr : s.phase = .ready)
    (hreq : Tab.get s.fd.ports [] (16 * k.val + port.val) = r :: l)
    (hnone : (Tab.get s.fd.coal [] (bankOf r.addr)).any (fun e => decide (e.addr = r.addr)) = false)
    (hroom : (Tab.get s.fd.coal [] (bankOf r.addr)).length < 16) (hport : (s.clock t).fdMay (portPlace k port) 1 = true)
    (hbank : (s.clock t).fdMay (bankIn (bankOf r.addr)) 4 = true) :
    Yields (.coalesceEntry t k port) s fun x => Tab.get x.fd.ports [] (16 * k.val + port.val) = l
      ∧ Tab.get x.fd.coal [] (bankOf r.addr)
        = Tab.get s.fd.coal [] (bankOf r.addr) ++ [{ addr := r.addr, count := 1, pixel := r.pixel, gen := r.gen }]
      ∧ Frame t [.fields, .fold] s x := by
  let y := (s.clock t).passRequest k port r l
  exact ⟨_, execCoalesceEntry_of_free hr hreq hnone hroom hport hbank, Tab.get_set_same _ _ _ _, y.coal_newEntry k r,
    Frame.of_untouched (((s.clock t).passRequest_untouched k port r l).mono.trans (y.newEntry_untouched k r))⟩

/-! ### A drop -/

/-- The oldest request of a port leaves it unserved; `rest` still waits. -/
def State.dropOldest (s : State) (key : Nat) (rest : List Req) : State :=
  { s with fd := { s.fd with ports := Tab.set s.fd.ports [] key rest, dropFrame := s.fd.dropFrame + 1 } }

/-- A drop is counted and shown. -/
def State.countDrop (s : State) : State := (s.inc Reg.FD_AGE_DROP_COUNT).flag Reg.FD_STAT_DROP_SEEN true

/-- The interval of a dropped request is marked LOSS. -/
def State.markLoss (s : State) (r : Req) : State :=
  s.setFdPix r.pixel ((s.fdPix r.pixel).onInterval r.gen fun i => { i with loss := true })

theorem State.dropOldest_untouched (s : State) (key : Nat) (rest : List Req) : Untouched [.fold] s (s.dropOldest key rest) := by
  intro g hg
  cases g <;> simp [Group.same, State.dropOldest] at hg ⊢

theorem State.countDrop_untouched (s : State) : Untouched [.fields] s s.countDrop := by
  intro g hg
  cases g <;> simp [Group.same, State.countDrop] at hg ⊢

theorem State.countDrop_only (s : State) : OnlyFields [Reg.FD_AGE_DROP_COUNT, Reg.FD_STAT_DROP_SEEN] s s.countDrop :=
  (OnlyFields.inc (by simp) s).trans (OnlyFields.flag (by simp) _ true)

theorem State.h_countDrop_count (s : State) :
    s.countDrop.h Reg.FD_AGE_DROP_COUNT = min (s.h Reg.FD_AGE_DROP_COUNT + 1) Reg.FD_AGE_DROP_COUNT.top :=
  (State.h_flag_ne _ _ _ _ (by decide)).trans (State.h_inc_same _ _)

theorem State.h_countDrop_seen (s : State) : s.countDrop.h Reg.FD_STAT_DROP_SEEN = 1 := State.h_flag_same _ _ _

theorem execAgeDrop_of_old {t : Nat} {k : FoldCluster} {port : Fin 16} {r : Req} {l : List Req} {s : State} (hr : s.phase = .ready)
    (hreq : Tab.get s.fd.ports [] (16 * k.val + port.val) = r :: l) (hold : r.arrived + 230400 ≤ max s.now t) :
    execAgeDrop t k port s = .next (s.keep t (((s.clock t).dropOldest (16 * k.val + port.val) l).countDrop.markLoss r)) := by
  have hreq' : Tab.get (s.clock t).fd.ports [] (16 * k.val + port.val) = r :: l := hreq
  have hold' : r.arrived + 230400 ≤ (s.clock t).now := hold
  rw [execAgeDrop, s.run_ready t _ hr]
  simp only [hreq', if_pos hold']
  rfl

theorem ageDrop_yields (t : Nat) (k : FoldCluster) (port : Fin 16) (r : Req) (l : List Req) (s : State) (hr : s.phase = .ready)
    (hreq : Tab.get s.fd.ports [] (16 * k.val + port.val) = r :: l) (hold : r.arrived + 230400 ≤ max s.now t) :
    Yields (.ageDrop t k port) s fun x => Tab.get x.fd.ports [] (16 * k.val + port.val) = l
      ∧ x.h Reg.FD_AGE_DROP_COUNT = min (s.h Reg.FD_AGE_DROP_COUNT + 1) Reg.FD_AGE_DROP_COUNT.top ∧ x.h Reg.FD_STAT_DROP_SEEN = 1
      ∧ OnlyFields [Reg.FD_AGE_DROP_COUNT, Reg.FD_STAT_DROP_SEEN] s x ∧ Frame t [.fields, .fold] s x := by
  let y := (s.clock t).dropOldest (16 * k.val + port.val) l
  have hrest := (((s.clock t).dropOldest_untouched (16 * k.val + port.val) l).mono (l' := [.fields, .fold])).trans y.countDrop_untouched.mono
  exact ⟨_, execAgeDrop_of_old hr hreq hold, Tab.get_set_same _ _ _ _, y.h_countDrop_count, y.h_countDrop_seen, y.countDrop_only,
    Frame.of_untouched (hrest.trans (y.countDrop.setFdPix_untouched _ _).mono)⟩

end Sys2Proof.Machine

namespace Sys2Proof
open Machine

/-- Settles O23: with no entry of its address and a free one the request takes it (execCoalesceEntry_of_free); an old one is dropped and
counted (execAgeDrop_of_old, countDrop). -/
theorem requestsCoalesceOrDrop : Obligations.RequestsCoalesceOrDrop := by
  unfold Obligations.RequestsCoalesceOrDrop
  exact ⟨coalesceEntry_yields, ageDrop_yields⟩

end Sys2Proof
end

section
/-!
SUPPORT. What the delivery of records and MARKs leaves as it was, and how a written histogram is counted (R183 to R187).
-/

namespace Sys2Proof.Machine

/-- Fold, Shepherd, the tiles, the histograms in the clusters and their count are in `x` as they are in `s`. -/
structure HistogramsStay (s x : State) : Prop where
  fold : x.fd = s.fd
  shepherd : x.sq = s.sq
  tiles : x.tl = s.tl
  procs : x.ex.procs = s.ex.procs
  count : x.h Reg.EX_HIST_CNT_COUNT = s.h Reg.EX_HIST_CNT_COUNT

namespace HistogramsStay

variable {s x y : State}

theorem refl (s : State) : HistogramsStay s s := ⟨rfl, rfl, rfl, rfl, rfl⟩

theorem trans (h : HistogramsStay s x) (h' : HistogramsStay x y) : HistogramsStay s y :=
  ⟨h'.fold.trans h.fold, h'.shepherd.trans h.shepherd, h'.tiles.trans h.tiles, h'.procs.trans h.procs, h'.count.trans h.count⟩

theorem setH (h : HistogramsStay s x) {f : Fld} (hf : Reg.EX_HIST_CNT_COUNT.key ≠ f.key) (n : Nat) : HistogramsStay s (x.setH f n) :=
  h.trans ⟨rfl, rfl, rfl, rfl, x.h_setH_ne f _ n hf⟩

theorem add (h : HistogramsStay s x) {f : Fld} (hf : Reg.EX_HIST_CNT_COUNT.key ≠ f.key) (n : Nat) : HistogramsStay s (x.add f n) :=
  h.trans ⟨rfl, rfl, rfl, rfl, x.h_add_ne f _ n hf⟩

theorem inc (h : HistogramsStay s x) {f : Fld} (hf : Reg.EX_HIST_CNT_COUNT.key ≠ f.key) : HistogramsStay s (x.inc f) := h.add hf 1

theorem flag (h : HistogramsStay s x) {f : Fld} (hf : Reg.EX_HIST_CNT_COUNT.key ≠ f.key) (b : Bool) : HistogramsStay s (x.flag f b) :=
  h.trans ⟨rfl, rfl, rfl, rfl, x.h_flag_ne f _ b hf⟩

theorem wrapAdd (h : HistogramsStay s x) {f : Fld} (hf : Reg.EX_HIST_CNT_COUNT.key ≠ f.key) (n : Nat) : HistogramsStay s (x.wrapAdd f n) :=
  h.trans ⟨rfl, rfl, rfl, rfl, State.h_setH_ne _ f _ _ hf⟩

theorem foldl {α : Type} {f : State → α → State} (hf : ∀ s a, HistogramsStay s (f s a)) (l : List α) (s : State) :
    HistogramsStay s (l.foldl f s) := by
  induction l generalizing s with
  | nil => exact refl s
  | cons a r ih => exact (hf s a).trans (ih _)

end HistogramsStay

/-! ### Queues -/

theorem histCount_ne_peak (q : Nat) : Reg.EX_HIST_CNT_COUNT.key ≠ (Reg.DM_Q_PEAK_PEAK q).key := by
  simp only [Fld.key, Reg.EX_HIST_CNT_COUNT, Reg.EX_HIST_CNT, Reg.DM_Q_PEAK_PEAK, Reg.DM_Q_PEAK]
  omega

theorem histCount_ne_disc (q : Nat) : Reg.EX_HIST_CNT_COUNT.key ≠ (Reg.DM_Q_DISC_COUNT q).key := by
  simp only [Fld.key, Reg.EX_HIST_CNT_COUNT, Reg.EX_HIST_CNT, Reg.DM_Q_DISC_COUNT, Reg.DM_Q_DISC]
  omega

theorem histCount_ne_qdrop (q : Nat) : Reg.EX_HIST_CNT_COUNT.key ≠ (Reg.EX_QDROP_COUNT q).key := by
  simp only [Fld.key, Reg.EX_HIST_CNT_COUNT, Reg.EX_HIST_CNT, Reg.EX_QDROP_COUNT, Reg.EX_QDROP]
  omega

theorem histCount_ne_clHist (c : Nat) : Reg.EX_HIST_CNT_COUNT.key ≠ (Reg.EX_CL_HIST_COUNT c).key := by
  simp only [Fld.key, Reg.EX_HIST_CNT_COUNT, Reg.EX_HIST_CNT, Reg.EX_CL_HIST_COUNT, Reg.EX_CL_HIST]
  omega

theorem histCount_ne_clLat (c : Nat) : Reg.EX_HIST_CNT_COUNT.key ≠ (Reg.EX_CL_LAT_LAT c).key := by
  simp only [Fld.key, Reg.EX_HIST_CNT_COUNT, Reg.EX_HIST_CNT, Reg.EX_CL_LAT_LAT, Reg.EX_CL_LAT]
  omega

theorem State.subDrop_histogramsStay (s : State) (n : Nat) : HistogramsStay s (s.subDrop n) :=
  (HistogramsStay.refl s).add (f := Reg.FL_SUB_DROP_COUNT) (by decide) n

theorem State.sendPoints_histogramsStay (s : State) (q : Nat) (u : Sub) : HistogramsStay s (s.sendPoints q u) := by
  have hqueue (x : DmQueue) : HistogramsStay s (s.setDmQueue q x) := ⟨rfl, rfl, rfl, rfl, rfl⟩
  have hsent (s : State) (body : List Score) : HistogramsStay s (s.sendSub u 6 body) :=
    ⟨by simp, by simp, by simp, by simp, State.h_congr (by simp) _⟩
  unfold State.sendPoints
  dsimp only
  split
  · exact .refl s
  · split
    · exact (hqueue _).trans (hsent _ _)
    · exact (hqueue _).trans (State.subDrop_histogramsStay _ _)

theorem State.streamOut_histogramsStay (q : Nat) (u : Sub) (n : Nat) (s : State) : HistogramsStay s (State.streamOut q u n s) := by
  induction n generalizing s with
  | zero => exact .refl s
  | succ n ih =>
    unfold State.streamOut
    split
    · exact (s.sendPoints_histogramsStay q u).trans (ih _)
    · exact .refl s

theorem State.dmPut_histogramsStay (s : State) (q : Nat) (rec : List Score) (mark : Bool) : HistogramsStay s (s.dmPut q rec mark) := by
  have hput (s : State) (x : DmQueue) : HistogramsStay s ((s.setDmQueue q x).dmPeak q) :=
    HistogramsStay.setH (s := s) (x := s.setDmQueue q x) ⟨rfl, rfl, rfl, rfl, rfl⟩ (histCount_ne_peak q) _
  unfold State.dmPut
  dsimp only
  split
  · exact hput s _
  · split
    · exact (HistogramsStay.refl s).inc (histCount_ne_disc q)
    · split
      · exact s.subDrop_histogramsStay _
      · exact ((s.subDrop_histogramsStay _).trans (hput _ _)).trans
          (HistogramsStay.foldl (fun s u => State.streamOut_histogramsStay q u _ s) _ _)

theorem State.qDrop_histogramsStay (s : State) (q : Nat) : HistogramsStay s (s.qDrop q) :=
  (((HistogramsStay.refl s).inc (histCount_ne_qdrop q)).flag (f := Reg.EX_STAT_QDROP_SEEN) (by decide) true).trans ⟨rfl, rfl, rfl, rfl, rfl⟩

theorem State.toQueue_histogramsStay (s : State) (q : Nat) (rec : List Score) : HistogramsStay s (s.toQueue q rec) := by
  unfold State.toQueue
  split
  · exact (s.dmPut_histogramsStay q rec false).trans ⟨rfl, rfl, rfl, rfl, rfl⟩
  · exact s.qDrop_histogramsStay q

theorem State.toIsland_histogramsStay (s : State) (i : Nat) (rec : List Score) (mark : Bool) : HistogramsStay s (s.toIsland i rec mark) := by
  unfold State.toIsland
  split
  · split
    · exact ⟨rfl, rfl, rfl, rfl, rfl⟩
    · exact ⟨rfl, rfl, rfl, rfl, rfl⟩
  · have hlost := ((HistogramsStay.refl s).inc (f := Reg.EX_SAFE_DROP_COUNT) (by decide)).flag (f := Reg.EX_STAT_SAFE_LOSS_SEEN) (by decide) true
    exact hlost.trans ⟨rfl, rfl, rfl, rfl, rfl⟩

theorem State.deliver_histogramsStay (s : State) (prof rec : List Score) : HistogramsStay s (s.deliver prof rec) := by
  have hqueue (s : State) (q : Nat) :
      HistogramsStay s (if profField prof 1 (Reg.EX_PROF_Q_QMASK 0) / 2 ^ q % 2 = 1 then s.toQueue q rec else s) := by
    split
    · exact s.toQueue_histogramsStay q rec
    · exact .refl s
  have hqueues := HistogramsStay.foldl hqueue (List.range 16) s
  unfold State.deliver
  dsimp only
  split
  · exact (hqueues.trans (State.toIsland_histogramsStay _ 0 rec false)).trans (State.toIsland_histogramsStay _ 1 rec false)
  · exact hqueues

theorem State.markQueue_histogramsStay (s : State) (frame q : Nat) : HistogramsStay s (s.markQueue frame q) := by
  unfold State.markQueue
  dsimp only
  split
  · exact (s.dmPut_histogramsStay q _ true).trans ⟨rfl, rfl, rfl, rfl, rfl⟩
  · split
    · exact .refl s
    · exact (s.qDrop_histogramsStay q).trans ⟨rfl, rfl, rfl, rfl, rfl⟩

/-! ### Counts -/

/-- A histogram is counted in all, and at its cluster. -/
def State.countWritten (s : State) (c : Nat) : State := (s.wrapAdd Reg.EX_HIST_CNT_COUNT 1).wrapAdd (Reg.EX_CL_HIST_COUNT c) 1

theorem State.countWritten_only (s : State) (c : Nat) : OnlyFields [Reg.EX_HIST_CNT_COUNT, Reg.EX_CL_HIST_COUNT c] s (s.countWritten c) := by
  have hwrap (s : State) {f : Fld} (hf : f ∈ [Reg.EX_HIST_CNT_COUNT, Reg.EX_CL_HIST_COUNT c]) :
      OnlyFields [Reg.EX_HIST_CNT_COUNT, Reg.EX_CL_HIST_COUNT c] s (s.wrapAdd f 1) := OnlyFields.setH hf (s.note f 1) _
  exact (hwrap s (by simp)).trans (hwrap _ (by simp))

theorem State.h_wrapAdd_histCount (s : State) :
    (s.wrapAdd Reg.EX_HIST_CNT_COUNT 1).h Reg.EX_HIST_CNT_COUNT = (s.h Reg.EX_HIST_CNT_COUNT + 1) % 2 ^ 20 := by
  refine (State.h_setH_same _ _ _).trans (Nat.min_eq_left ?_)
  exact Nat.le_pred_of_lt (Nat.mod_lt _ (by decide))

theorem State.h_countWritten (s : State) (c : Nat) :
    (s.countWritten c).h Reg.EX_HIST_CNT_COUNT = (s.h Reg.EX_HIST_CNT_COUNT + 1) % 2 ^ 20 :=
  ((HistogramsStay.refl _).wrapAdd (histCount_ne_clHist c) 1).count.trans s.h_wrapAdd_histCount

theorem State.wrapAdd_frame (s : State) (f : Fld) (n : Nat) : (s.wrapAdd f n).fd = s.fd ∧ (s.wrapAdd f n).sq = s.sq
    ∧ (s.wrapAdd f n).tl = s.tl ∧ (s.wrapAdd f n).ex = s.ex ∧ (s.wrapAdd f n).dm = s.dm ∧ (s.wrapAdd f n).safe = s.safe :=
  ⟨rfl, rfl, rfl, rfl, rfl, rfl⟩

theorem State.countWritten_frame (s : State) (c : Nat) : (s.countWritten c).fd = s.fd ∧ (s.countWritten c).sq = s.sq
    ∧ (s.countWritten c).tl = s.tl ∧ (s.countWritten c).ex = s.ex ∧ (s.countWritten c).dm = s.dm ∧ (s.countWritten c).safe = s.safe := by
  simp [State.countWritten, State.wrapAdd_frame]

/-- The other counts of a written histogram. -/
theorem State.countHistogram_histogramsStay (s : State) (c : Nat) (e : Extraction) (lat : Nat) :
    HistogramsStay (s.countWritten c) (s.countHistogram c e lat) := by
  have hkind (s : State) : HistogramsStay s
      (if e.none then s.add Reg.EX_NONE_CNT_COUNT e.records.length else s.wrapAdd Reg.EX_ECHO_CNT_COUNT e.records.length) := by
    split
    · exact (HistogramsStay.refl s).add (by decide) _
    · exact (HistogramsStay.refl s).wrapAdd (by decide) _
  have hmore (s : State) : HistogramsStay s (if e.more then (s.inc Reg.EX_MORE_CNT_COUNT).flag Reg.EX_STAT_MORE_SEEN true else s) := by
    split
    · exact ((HistogramsStay.refl s).inc (by decide)).flag (by decide) true
    · exact .refl s
  exact (((((hkind _).add (f := Reg.EX_VEIL_CNT_COUNT) (by decide) _).add (f := Reg.EX_FOREIGN_CNT_COUNT) (by decide) _).add
    (f := Reg.EX_SAT_CNT_COUNT) (by decide) _).trans (hmore _)).setH (histCount_ne_clLat c) _

end Sys2Proof.Machine
end

section
/-!
SUPPORT. A histogram's way through a cluster: dispatch, the end of its scan, its records, and the MARK of its frame (R165 to R168, R185).
-/

namespace Sys2Proof.Machine

/-! ### Dispatch -/

theorem State.dispatch_of_free {s : State} {c : ExCluster} {r : Released} {l : List Released} (hrel : s.ex.released = r :: l)
    (hfree : s.ex.procs.any (fun p => decide (p.cluster = c) && p.scanning) = false) (hload : s.echoLoad c ≤ 40) :
    s.dispatch c = ((s.zeroHistogram r.iv).startScan (s.procOf c r) l).aqFoldBlock c r.pixel r.iv.cycle (s.procOf c r).bins := by
  simp only [State.dispatch, hrel, hfree, Bool.false_or, decide_eq_true_eq]
  exact if_neg (by omega)

theorem State.zeroHistogram_of_no_trace {s : State} {iv : Interval} (h : descTrace iv.desc = false) :
    s.zeroHistogram iv = s.zeroBins (bufStart iv.desc iv.buf) (descS iv.desc) := by
  simp [State.zeroHistogram, h]

theorem histogramDispatch_yields (t : Nat) (c : ExCluster) (r : Released) (l : List Released) (s : State) (hr : s.phase = .ready)
    (hrel : s.ex.released = r :: l) (hfree : s.ex.procs.any (fun p => decide (p.cluster = c) && p.scanning) = false)
    (hload : s.echoLoad c ≤ 40) (htrace : descTrace r.iv.desc = false) : Yields (.histogramDispatch t c) s fun x => x.ex.released = l
      ∧ (∃ p, x.ex.procs = s.ex.procs ++ [p] ∧ p.cluster = c.val ∧ p.rel = r ∧ p.scanning = true
        ∧ p.bins = (List.range (descS r.iv.desc)).map fun i => s.bin (bufStart r.iv.desc r.iv.buf + i))
      ∧ (∀ i, i < descS r.iv.desc → x.bin (bufStart r.iv.desc r.iv.buf + i) = 0)
      ∧ (∀ a, a < bufStart r.iv.desc r.iv.buf ∨ bufStart r.iv.desc r.iv.buf + descS r.iv.desc ≤ a → x.bin a = s.bin a)
      ∧ x.sq = s.sq ∧ x.tl = s.tl ∧ x.dm = s.dm := by
  refine Yields.of_run (execHistogramDispatch t c) hr rfl (execHistogramDispatch_eq t c s) ?_
  rw [State.dispatch_of_free (s := s.clock t) hrel hfree hload, State.zeroHistogram_of_no_trace htrace]
  let zeroed := (s.clock t).zeroBins (bufStart r.iv.desc r.iv.buf) (descS r.iv.desc)
  let x := s.keep t ((zeroed.startScan ((s.clock t).procOf c r) l).aqFoldBlock c r.pixel r.iv.cycle ((s.clock t).procOf c r).bins)
  have hex : x.ex = { s.ex with released := l, procs := s.ex.procs ++ [(s.clock t).procOf c r] } := by
    simp [x, zeroed, State.keep, State.startScan]
  have hbin (a : Nat) : x.bin a = zeroed.bin a := by simp [x, State.keep, State.startScan, State.bin]
  refine ⟨congrArg Extract.released hex, ⟨_, congrArg Extract.procs hex, rfl, rfl, rfl, rfl⟩,
    fun i hi => (hbin _).trans ((s.clock t).bin_zeroBins_inside (by omega) (by omega)),
    fun a ha => (hbin a).trans ((s.clock t).bin_zeroBins_outside ha), ?_, ?_, ?_⟩
  · simp [State.keep, State.startScan]
  · simp [State.keep, State.startScan]
  · simp [State.keep, State.startScan]

/-! ### The end of a scan -/

/-- A histogram with its scan at an end, if it is in cluster `c`. -/
def Proc.scanned (q : Proc) (c : Nat) : Proc := if q.cluster = c then { q with scanning := false } else q

theorem Proc.not_scanning_scanned {q : Proc} {c : Nat} (h : (q.scanned c).cluster = c) : (q.scanned c).scanning = false := by
  unfold Proc.scanned at h ⊢
  split
  · rfl
  · next hne => exact absurd h (by rwa [if_neg hne])

/-- Cluster `c` scans nothing. -/
def State.endScan (s : State) (c : Nat) : State := { s with ex := { s.ex with procs := s.ex.procs.map fun q => q.scanned c } }

/-- The buffer of a histogram has been read. -/
def State.markClean (s : State) (p : Proc) : State :=
  s.setFdPix p.rel.pixel { s.fdPix p.rel.pixel with dirty := (s.fdPix p.rel.pixel).dirty.erase p.rel.iv.buf }

theorem execBufferClean_of_scan {t : Nat} {c : ExCluster} {p : Proc} {s : State} (hr : s.phase = .ready)
    (hp : s.ex.procs.find? (fun q => decide (q.cluster = c.val) && q.scanning) = some p) :
    execBufferClean t c s = .next (s.keep t ((((s.clock t).endScan c).markClean p).aqBlockEnd c)) := by
  have hp' : (s.clock t).ex.procs.find? (fun q => decide (q.cluster = c.val) && q.scanning) = some p := hp
  rw [execBufferClean, s.run_ready t _ hr]
  simp only [hp']
  rfl

theorem bufferClean_yields (t : Nat) (c : ExCluster) (p : Proc) (s : State) (hr : s.phase = .ready)
    (hp : s.ex.procs.find? (fun q => decide (q.cluster = c.val) && q.scanning) = some p) :
    Yields (.bufferClean t c) s fun x => (x.fdPix p.rel.pixel).dirty = (s.fdPix p.rel.pixel).dirty.erase p.rel.iv.buf
      ∧ (∀ q ∈ x.ex.procs, q.cluster = c.val → q.scanning = false) ∧ x.fd.mem = s.fd.mem ∧ x.dm = s.dm ∧ x.sq = s.sq := by
  let y := ((s.clock t).endScan c).markClean p
  have hfd : (y.aqBlockEnd c).fd = y.fd := by simp
  have hprocs : (y.aqBlockEnd c).ex.procs = s.ex.procs.map fun q => q.scanned c := by simp [y, State.markClean, State.endScan, State.setFdPix]
  refine ⟨_, execBufferClean_of_scan hr hp, ?dirty, ?scanned, ?mem, ?dm, ?sq⟩
  case dirty =>
    calc _ = (y.fdPix p.rel.pixel).dirty := congrArg (fun f => (Tab.get f.pix {} p.rel.pixel).dirty) hfd
      _ = _ := congrArg FdPixel.dirty (State.fdPix_setFdPix_same _ _ _)
  case scanned =>
    intro q hq hcluster
    obtain ⟨z, _, rfl⟩ := List.mem_map.mp (hprocs ▸ hq)
    exact Proc.not_scanning_scanned hcluster
  case mem =>
    calc _ = y.fd.mem := congrArg Fold.mem hfd
      _ = _ := rfl
  case dm => simp [State.keep, State.endScan, State.markClean, State.setFdPix]
  case sq => simp [State.keep, State.endScan, State.markClean, State.setFdPix]

/-! ### Records -/

/-- A histogram leaves its cluster. -/
def State.takeWritten (s : State) (p : Proc) : State := { s with ex := { s.ex with procs := s.ex.procs.erase p } }

/-- The records of a histogram are delivered and counted. -/
def State.writeRecords (s : State) (c : Nat) (p : Proc) : State :=
  let e := extract p.rel.pixel p.rel.iv p.rel.header p.bins p.trace
  let s := e.records.foldl (fun s r => s.deliver p.rel.iv.prof r) s
  let s := { s with ex := { s.ex with suspect := s.ex.suspect || p.rel.iv.suspect } }
  s.countHistogram c e ((s.now - p.rel.at_ + lsbUs - 1) / lsbUs)

theorem execRecordWrite_of_writable {t : Nat} {c : ExCluster} {p : Proc} {s : State} (hr : s.phase = .ready) (hp : s.writable c = some p) :
    execRecordWrite t c s = .next (s.keep t (
      if ((s.clock t).takeWritten p).f Reg.EX_CFG_EN = 0 then ((s.clock t).takeWritten p).countWritten c
      else ((s.clock t).takeWritten p).writeRecords c p)) := by
  have hp' : (s.clock t).writable c = some p := hp
  rw [execRecordWrite, s.run_ready t _ hr]
  simp only [hp']
  rfl

theorem HistogramsStay.countWritten {s x : State} (h : HistogramsStay s x) (c : Nat) : HistogramsStay (s.countWritten c) (x.countWritten c) := by
  obtain ⟨hfd, hsq, htl, hex, _⟩ := s.countWritten_frame c
  obtain ⟨hfd', hsq', htl', hex', _⟩ := x.countWritten_frame c
  refine ⟨by rw [hfd, hfd', h.fold], by rw [hsq, hsq', h.shepherd], by rw [htl, htl', h.tiles], by rw [hex, hex', h.procs], ?_⟩
  rw [State.h_countWritten, State.h_countWritten, h.count]

/-- Written with its records or only counted, a histogram counts once, and Fold, Shepherd, the tiles and the clusters stay. -/
theorem State.writeRecords_histogramsStay (s : State) (c : Nat) (p : Proc) : HistogramsStay (s.countWritten c) (s.writeRecords c p) := by
  let e := extract p.rel.pixel p.rel.iv p.rel.header p.bins p.trace
  let delivered := e.records.foldl (fun s r => s.deliver p.rel.iv.prof r) s
  let y : State := { delivered with ex := { delivered.ex with suspect := delivered.ex.suspect || p.rel.iv.suspect } }
  have hdelivered := HistogramsStay.foldl (fun s r => s.deliver_histogramsStay p.rel.iv.prof r) e.records s
  have hy : HistogramsStay s y := hdelivered.trans ⟨rfl, rfl, rfl, rfl, rfl⟩
  exact (hy.countWritten c).trans (y.countHistogram_histogramsStay c e _)

theorem recordWrite_yields (t : Nat) (c : ExCluster) (p : Proc) (s : State) (hr : s.phase = .ready) (hp : s.writable c = some p) :
    Yields (.recordWrite t c) s fun x =>
      x.ex.procs = s.ex.procs.erase p ∧ x.h Reg.EX_HIST_CNT_COUNT = (s.h Reg.EX_HIST_CNT_COUNT + 1) % 2 ^ 20
        ∧ x.fd = s.fd ∧ x.sq = s.sq ∧ x.tl = s.tl ∧ x.pw.gate = s.pw.gate
        ∧ (s.f Reg.EX_CFG_EN = 0 → OnlyFields [Reg.EX_HIST_CNT_COUNT, Reg.EX_CL_HIST_COUNT c] s x ∧ x.dm = s.dm ∧ x.safe = s.safe) := by
  let y := (s.clock t).takeWritten p
  have hcount := y.h_countWritten c
  obtain ⟨hfd, hsq, htl, hex, hdm, hsafe⟩ := y.countWritten_frame c
  have hprocs : (y.countWritten c).ex.procs = s.ex.procs.erase p := congrArg Extract.procs hex
  refine ⟨_, execRecordWrite_of_writable hr hp, ?_⟩
  by_cases hen : y.f Reg.EX_CFG_EN = 0
  · rw [if_pos hen]
    exact ⟨hprocs, hcount, hfd, hsq, htl, rfl, fun _ => ⟨y.countWritten_only c, hdm, hsafe⟩⟩
  · rw [if_neg hen]
    have hwritten := y.writeRecords_histogramsStay c p
    exact ⟨hwritten.procs.trans hprocs, hwritten.count.trans hcount, hwritten.fold.trans hfd, hwritten.shepherd.trans hsq,
      hwritten.tiles.trans htl, rfl, fun h => absurd h hen⟩

/-! ### The MARK of a frame -/

/-- The MARK of a frame goes to the queues and to both islands. -/
def State.sendMarks (s : State) (f : Nat) : State :=
  (((List.range 16).foldl (fun s q => s.markQueue f q) s).toIsland 0 (s.markRecord 16 f false) true).toIsland 1 (s.markRecord 17 f false) true

/-- The frame is shown, and its counts begin anew. -/
def State.endMarks (s : State) (f : Nat) : State :=
  let s := s.setH Reg.EX_FRAME_FRAME (f % 2 ^ 20)
  { s with ex := { s.ex with markDue := none, placed := {}, dropped := [], suspect := false } }

theorem State.sendMarks_histogramsStay (s : State) (f : Nat) : HistogramsStay s (s.sendMarks f) :=
  ((HistogramsStay.foldl (fun s q => s.markQueue_histogramsStay f q) _ s).trans (State.toIsland_histogramsStay _ _ _ _)).trans
    (State.toIsland_histogramsStay _ _ _ _)

theorem State.h_endMarks (s : State) (f : Nat) : (s.endMarks f).h Reg.EX_FRAME_FRAME = f % 2 ^ 20 :=
  (State.h_setH_same _ _ _).trans (Nat.min_eq_left (Nat.le_pred_of_lt (Nat.mod_lt _ (by decide))))

theorem State.endMarks_frame (s : State) (f : Nat) : (s.endMarks f).fd = s.fd ∧ (s.endMarks f).sq = s.sq := ⟨rfl, rfl⟩

theorem State.ex_endMarks (s : State) (f : Nat) :
    (s.endMarks f).ex = { s.ex with markDue := none, placed := {}, dropped := [], suspect := false } := rfl

theorem execMarkPlace_of_due {t n : Nat} {s : State} (hr : s.phase = .ready) (hdue : s.ex.markDue = some n) (hidle : s.frameBusy n = false) :
    execMarkPlace t s = .next (s.keep t (((s.clock t).sendMarks n).endMarks n)) := by
  have hdue' : (s.clock t).ex.markDue = some n := hdue
  have hidle' : (s.clock t).frameBusy n = false := hidle
  rw [execMarkPlace, s.run_ready t _ hr]
  simp only [hdue', hidle', Bool.false_eq_true, if_false, State.sendMarks, State.endMarks]

theorem markPlace_yields (t n : Nat) (s : State) (hr : s.phase = .ready) (hdue : s.ex.markDue = some n) (hidle : s.frameBusy n = false) :
    Yields (.markPlace t) s fun x =>
      x.ex.markDue = none ∧ x.h Reg.EX_FRAME_FRAME = n % 2 ^ 20 ∧ x.ex.placed = {} ∧ x.ex.dropped = [] ∧ x.ex.suspect = false
        ∧ x.fd = s.fd ∧ x.sq = s.sq := by
  have hsent := (s.clock t).sendMarks_histogramsStay n
  refine ⟨_, execMarkPlace_of_due hr hdue hidle, ?_⟩
  generalize (s.clock t).sendMarks n = y at hsent ⊢
  have hex := y.ex_endMarks n
  obtain ⟨hfd, hsq⟩ := y.endMarks_frame n
  exact ⟨congrArg Extract.markDue hex, y.h_endMarks n, congrArg Extract.placed hex, congrArg Extract.dropped hex,
    congrArg Extract.suspect hex, hfd.trans hsent.fold, hsq.trans hsent.shepherd⟩

end Sys2Proof.Machine

namespace Sys2Proof
open Machine

/-- Settles O25: a dispatch zeroes the buffer it reads (dispatch_of_free, bin_zeroBins); the end of a scan cleans it; records and MARKs are
delivered without a change in Fold, Shepherd or the clusters (HistogramsStay). -/
theorem histogramsAreRead : Obligations.HistogramsAreRead := by
  unfold Obligations.HistogramsAreRead
  refine ⟨⟨?dispatch, bufferClean_yields⟩, recordWrite_yields, markPlace_yields⟩
  case dispatch => exact fun t c r l s hr hrel _ hfree hload htrace => histogramDispatch_yields t c r l s hr hrel hfree hload htrace

end Sys2Proof
end

section
/-!
SUPPORT. One axis of the servo (R188 to R206): what a read of it returns after a write, and what ends an injection or changes its state.
-/

namespace Sys2Proof.Machine

/-! ### An axis is written -/

@[simp] theorem State.axis_setAxis_same (s : State) (a : Nat) (x : SvAxis) : (s.setAxis a x).axis a = x := by
  simp [State.axis, State.setAxis]

theorem State.axis_setAxis_ne (s : State) {a b : Nat} (x : SvAxis) (h : b ≠ a) : (s.setAxis a x).axis b = s.axis b := by
  simp [State.axis, State.setAxis, Tab.get_set_ne _ _ _ _ h]

theorem State.axis_congr {s x : State} (h : x.sv = s.sv) (a : Nat) : x.axis a = s.axis a := by
  simp only [State.axis, h]

@[simp] theorem State.axis_setH (s : State) (f : Fld) (x a : Nat) : (s.setH f x).axis a = s.axis a := rfl

@[simp] theorem State.axis_flag (s : State) (f : Fld) (b : Bool) (a : Nat) : (s.flag f b).axis a = s.axis a := rfl

@[simp] theorem State.axis_inc (s : State) (f : Fld) (a : Nat) : (s.inc f).axis a = s.axis a := rfl

@[simp] theorem State.axis_raise (s : State) (e : Ev) (x y a : Nat) : (s.raise e x y).axis a = s.axis a := rfl

@[simp] theorem State.axis_showI (s : State) (a b : Nat) : (s.showI a).axis b = s.axis b := rfl

@[simp] theorem State.h_setAxis (s : State) (a : Nat) (x : SvAxis) (f : Fld) : (s.setAxis a x).h f = s.h f := rfl

theorem State.setAxis_untouched (s : State) (a : Nat) (x : SvAxis) : Untouched [.servo] s (s.setAxis a x) := by
  intro g hg
  cases g <;> simp [Group.same] at hg ⊢

theorem State.noteAxis_untouched (s : State) (a : Nat) : Untouched [.safety] s (s.noteAxis a) := by
  intro g hg
  cases g <;> simp [Group.same] at hg ⊢

@[simp] theorem State.h_noteAxis (s : State) (a : Nat) (f : Fld) : (s.noteAxis a).h f = s.h f := State.h_congr (by simp) f

@[simp] theorem State.axis_noteAxis (s : State) (a b : Nat) : (s.noteAxis a).axis b = s.axis b := State.axis_congr (by simp) b

/-! ### One more field is written -/

section

variable {l : List Fld} {s x : State}

theorem OnlyFields.then_setH (h : OnlyFields l s x) {f : Fld} (hf : f ∈ l) (v : Nat) : OnlyFields l s (x.setH f v) :=
  h.trans (OnlyFields.setH hf x v)

theorem OnlyFields.then_flag (h : OnlyFields l s x) {f : Fld} (hf : f ∈ l) (b : Bool) : OnlyFields l s (x.flag f b) :=
  h.trans (OnlyFields.flag hf x b)

theorem OnlyFields.then_inc (h : OnlyFields l s x) {f : Fld} (hf : f ∈ l) : OnlyFields l s (x.inc f) :=
  h.trans (OnlyFields.inc hf x)

theorem OnlyFields.then_raise (h : OnlyFields l s x) (e : Ev) (a b : Nat) : OnlyFields l s (x.raise e a b) :=
  h.trans fun f _ => x.h_raise e a b f

theorem OnlyFields.then_setAxis (h : OnlyFields l s x) (a : Nat) (z : SvAxis) : OnlyFields l s (x.setAxis a z) :=
  h.trans fun f _ => x.h_setAxis a z f

theorem OnlyFields.then_noteAxis (h : OnlyFields l s x) (a : Nat) : OnlyFields l s (x.noteAxis a) :=
  h.trans fun f _ => x.h_noteAxis a f

theorem OnlyFields.then_showI (h : OnlyFields l s x) {a : Nat} (ha : Reg.SV_I_I a ∈ l) : OnlyFields l s (x.showI a) := h.then_setH ha _

end

theorem OnlyFields.refl (l : List Fld) (s : State) : OnlyFields l s s := fun _ _ => rfl

/-! ### An injection ends (R206) -/

theorem State.axis_injEnd (s : State) (a : Nat) : (s.injEnd a).axis a = { s.axis a with injK := 0, injStop := false } := by
  rw [State.injEnd, State.axis_flag, State.axis_setAxis_same]

theorem State.axis_injEnd_ne (s : State) {a b : Nat} (h : b ≠ a) : (s.injEnd a).axis b = s.axis b := by
  rw [State.injEnd, State.axis_flag, State.axis_setAxis_ne _ _ h]

theorem State.injEnd_only (s : State) (a : Nat) : OnlyFields [Reg.SV_AX_STAT_TEST a] s (s.injEnd a) :=
  ((OnlyFields.refl _ s).then_setAxis a _).then_flag (by simp) false

theorem State.h_injEnd_test (s : State) (a : Nat) : (s.injEnd a).h (Reg.SV_AX_STAT_TEST a) = 0 :=
  (State.h_flag_same _ _ _).trans (Nat.zero_min _)

theorem State.injEnd_untouched (s : State) (a : Nat) : Untouched [.fields, .servo] s (s.injEnd a) := by
  intro g hg
  cases g <;> simp [Group.same] at hg ⊢

/-! ### A change of the axis state (R198) -/

/-- What a change to another state does to the axis. -/
def State.moveState (s : State) (a st : Nat) : State :=
  let s := s.injEnd a
  let s := (s.flag (Reg.SV_AX_STAT_FORCING a) false).flag (Reg.SV_AX_STAT_SAT a) false
  let s := if st = 3 then s else s.flag (Reg.SV_AX_STAT_LOCK a) false
  s.setH (Reg.SV_AX_STAT_STATE a) st

theorem State.toState_of_same {s : State} {a st : Nat} (h : s.axState a = st) : s.toState a st = s.noteAxis a := if_pos h

theorem State.toState_of_ne {s : State} {a st : Nat} (h : s.axState a ≠ st) :
    s.toState a st = (if st = 0 then (s.moveState a st).resumeChecks else s.moveState a st).noteAxis a := if_neg h

/-- The fields that a change of state writes. -/
def movedFields (a : Nat) : List Fld :=
  [Reg.SV_AX_STAT_TEST a, Reg.SV_AX_STAT_FORCING a, Reg.SV_AX_STAT_SAT a, Reg.SV_AX_STAT_LOCK a, Reg.SV_AX_STAT_STATE a]

theorem State.moveState_only (s : State) (a st : Nat) : OnlyFields (movedFields a) s (s.moveState a st) := by
  have hend := (s.injEnd_only a).mono (l' := movedFields a) (by simp [movedFields])
  have hflags := (hend.then_flag (f := Reg.SV_AX_STAT_FORCING a) (by simp [movedFields]) false).then_flag (f := Reg.SV_AX_STAT_SAT a)
    (by simp [movedFields]) false
  unfold State.moveState
  dsimp only
  refine OnlyFields.then_setH ?_ (by simp [movedFields]) st
  split
  · exact hflags
  · exact hflags.then_flag (by simp [movedFields]) false

theorem State.sv_moveState (s : State) (a st : Nat) : (s.moveState a st).sv = (s.injEnd a).sv := by
  unfold State.moveState
  simp

theorem State.moveState_untouched (s : State) (a st : Nat) : Untouched [.fields, .servo] s (s.moveState a st) := by
  have hflags := ((s.injEnd_untouched a).trans (State.flag_untouched _ (Reg.SV_AX_STAT_FORCING a) false).mono).trans
    (State.flag_untouched _ (Reg.SV_AX_STAT_SAT a) false).mono
  unfold State.moveState
  dsimp only
  refine Untouched.trans ?_ (State.setH_untouched _ _ st).mono
  split
  · exact hflags
  · exact hflags.trans (State.flag_untouched _ _ false).mono

theorem State.axState_moveState (s : State) (a : Nat) {st : Nat} (h : st ≤ 7) : (s.moveState a st).axState a = st :=
  (State.h_setH_same _ _ _).trans (Nat.min_eq_left h)

theorem State.h_moveState_lock (s : State) (a : Axis) {st : Nat} (h : st ≠ 3) : (s.moveState a st).h (Reg.SV_AX_STAT_LOCK a) = 0 := by
  have hne : ∀ a : Axis, (Reg.SV_AX_STAT_LOCK a).key ≠ (Reg.SV_AX_STAT_STATE a).key := by decide
  unfold State.moveState
  dsimp only
  rw [if_neg h, State.h_setH_ne _ _ _ _ (hne a), State.h_flag_same]
  exact Nat.zero_min _

theorem State.toState_untouched (s : State) (a : Nat) {st : Nat} (h : st ≠ 0) : Untouched [.fields, .servo, .safety] s (s.toState a st) := by
  by_cases hst : s.axState a = st
  · rw [State.toState_of_same hst]
    exact (s.noteAxis_untouched a).mono
  · rw [State.toState_of_ne hst, if_neg h]
    exact (s.moveState_untouched a st).mono.trans (State.noteAxis_untouched _ a).mono

theorem State.axState_toState (s : State) (a : Nat) {st : Nat} (h0 : st ≠ 0) (h7 : st ≤ 7) : (s.toState a st).axState a = st := by
  by_cases hst : s.axState a = st
  · rw [State.toState_of_same hst]
    exact (s.h_noteAxis a _).trans hst
  · rw [State.toState_of_ne hst, if_neg h0]
    exact (State.h_noteAxis _ a _).trans (s.axState_moveState a h7)

/-- A change of state only ends the axis's injection. -/
theorem State.axis_toState (s : State) (a st : Nat) :
    (s.toState a st).axis a = s.axis a ∨ (s.toState a st).axis a = { s.axis a with injK := 0, injStop := false } := by
  by_cases hst : s.axState a = st
  · rw [State.toState_of_same hst]
    exact .inl (s.axis_noteAxis a a)
  · rw [State.toState_of_ne hst, State.axis_noteAxis]
    refine .inr (Eq.trans (State.axis_congr ?_ a) (s.axis_injEnd a))
    split <;> simp [State.sv_moveState]

theorem State.axis_toState_ne (s : State) {a b : Nat} (st : Nat) (h : b ≠ a) : (s.toState a st).axis b = s.axis b := by
  by_cases hst : s.axState a = st
  · rw [State.toState_of_same hst, State.axis_noteAxis]
  · rw [State.toState_of_ne hst, State.axis_noteAxis]
    refine Eq.trans (State.axis_congr ?_ b) (s.axis_injEnd_ne h)
    split <;> simp [State.sv_moveState]

end Sys2Proof.Machine
end

section
/-!
SUPPORT. Faults of an axis, the start of TRACK, and what the servo's own conditions do (R198 to R206).
-/

namespace Sys2Proof.Machine

/-! ### An axis enters FAULT (R198) -/

/-- An axis as FAULT leaves it. -/
def SvAxis.cleared (x : SvAxis) : SvAxis :=
  { x with i := 0, f0 := {}, f1 := {}, limSign := 0, hover := none, forceDue := false, goingOff := false, bad := 0 }

/-- An axis that has changed to FAULT shows why, and reports it. -/
def State.showFault (s : State) (a cause : Nat) : State :=
  (((s.setAxis a (s.axis a).cleared).showI a).setH (Reg.SV_AX_STAT_CAUSE a) cause).raise .servoFault a cause

theorem State.axisFault_eq (s : State) (a cause : Nat) : s.axisFault a cause = (s.toState a 4).showFault a cause := rfl

theorem State.showI_untouched (s : State) (a : Nat) : Untouched [.fields] s (s.showI a) := s.setH_untouched _ _

theorem State.showFault_only (s : State) (a cause : Nat) :
    OnlyFields [Reg.SV_I_I a, Reg.SV_AX_STAT_CAUSE a] s (s.showFault a cause) := by
  unfold State.showFault
  exact ((((OnlyFields.refl _ s).then_setAxis a _).then_showI (by simp)).then_setH (by simp) cause).then_raise _ _ _

theorem State.showFault_untouched (s : State) (a cause : Nat) : Untouched [.fields, .servo, .events] s (s.showFault a cause) := by
  unfold State.showFault
  exact (((s.setAxis_untouched a _).mono.trans (State.showI_untouched _ a).mono).trans (State.setH_untouched _ _ cause).mono).trans
    (State.raise_untouched _ .servoFault a cause).mono

theorem State.axisFault_untouched (s : State) (a cause : Nat) : Untouched [.fields, .servo, .events, .safety] s (s.axisFault a cause) := by
  rw [State.axisFault_eq]
  exact (s.toState_untouched a (by decide)).mono.trans (State.showFault_untouched _ a cause).mono

theorem State.axis_axisFault (s : State) (a cause : Nat) : (s.axisFault a cause).axis a = ((s.toState a 4).axis a).cleared := by
  rw [State.axisFault_eq]
  simp [State.showFault]

theorem State.axis_axisFault_ne (s : State) {a b : Nat} (cause : Nat) (h : b ≠ a) : (s.axisFault a cause).axis b = s.axis b := by
  rw [State.axisFault_eq]
  simp [State.showFault, State.axis_setAxis_ne _ _ h, s.axis_toState_ne 4 h]

theorem State.axState_axisFault (s : State) (a : Axis) (cause : Nat) : (s.axisFault a cause).axState a = 4 := by
  have hne : ∀ a : Axis, (Reg.SV_AX_STAT_STATE a).key ∉ [Reg.SV_I_I a, Reg.SV_AX_STAT_CAUSE a].map Fld.key := by decide
  rw [State.axisFault_eq]
  exact (State.showFault_only _ a cause _ (hne a)).trans (s.axState_toState a (by decide) (by decide))

theorem State.h_axisFault_cause (s : State) (a : Nat) {cause : Nat} (h : cause ≤ 3) :
    (s.axisFault a cause).h (Reg.SV_AX_STAT_CAUSE a) = cause := by
  rw [State.axisFault_eq, State.showFault, State.h_raise, State.h_setH_same]
  exact Nat.min_eq_left h

theorem State.h_axisFault_lock (s : State) (a : Axis) (cause : Nat) (h : s.axState a ≠ 4) :
    (s.axisFault a cause).h (Reg.SV_AX_STAT_LOCK a) = 0 := by
  have hne : ∀ a : Axis, (Reg.SV_AX_STAT_LOCK a).key ∉ [Reg.SV_I_I a, Reg.SV_AX_STAT_CAUSE a].map Fld.key := by decide
  have hstate : (s.toState a 4).h (Reg.SV_AX_STAT_LOCK a) = 0 := by
    rw [State.toState_of_ne h, if_neg (by decide), State.h_noteAxis]
    exact s.h_moveState_lock a (by decide)
  rw [State.axisFault_eq]
  exact (State.showFault_only _ a cause _ (hne a)).trans hstate

theorem State.axisFault_only (s : State) (a cause : Nat) :
    OnlyFields (Reg.SV_I_I a :: Reg.SV_AX_STAT_CAUSE a :: movedFields a) s (s.axisFault a cause) := by
  have hstate : OnlyFields (movedFields a) s (s.toState a 4) := by
    by_cases h : s.axState a = 4
    · rw [State.toState_of_same h]
      exact OnlyFields.of_regs (by simp)
    · rw [State.toState_of_ne h, if_neg (by decide)]
      exact (s.moveState_only a 4).trans (OnlyFields.of_regs (by simp))
  rw [State.axisFault_eq]
  exact (hstate.mono (by simp)).trans ((State.showFault_only _ a cause).mono (by simp))

theorem State.inbox_axisFault (s : State) (a : Axis) (cause : Nat) :
    ∃ r, (s.axisFault a cause).ev.inbox = s.ev.inbox ++ [r] ∧ r.code = Ev.servoFault.code ∧ r.e10 = a.val := by
  have hlt : ∀ a : Axis, a.val % 2 ^ 20 = a.val := by decide
  rw [State.axisFault_eq, State.showFault]
  obtain ⟨r, hr, hcode, harg⟩ := State.inbox_raise ((((s.toState a 4).setAxis a ((s.toState a 4).axis a).cleared).showI a).setH
    (Reg.SV_AX_STAT_CAUSE a) cause) .servoFault a cause
  exact ⟨r, hr.trans (by simp), hcode, harg.trans (hlt a)⟩

/-! ### TRACK begins (R200, R201) -/

theorem State.detectOsc_eq (s : State) (a : Nat) (e : Int) :
    ∃ sign crossings reached due, s.detectOsc a e
      = s.setAxis a { s.axis a with eSign := sign, crossings := crossings, reached := reached, oscDue := due } := ⟨_, _, _, _, rfl⟩

/-- The hand-over is forced: shown, counted and reported (R201). -/
def State.forceTrack (s : State) (a : Nat) : State :=
  (((s.flag (Reg.SV_AX_STAT_FORCING a) true).inc (Reg.SV_FORCE_CNT_COUNT a)).flag (Reg.SV_AX_STAT_FORCED_SEEN a) true).raise .handoverForced a 0

/-- An axis in TRACK has its preload and output, and shows them. -/
def State.loadTrack (s : State) (a : Nat) (i u limSign : Int) (sat : Bool) : State :=
  ((s.setAxis a { s.axis a with
    i := i, u := u, limSign := limSign, hover := none, forceDue := false, forcePass := 0, reached := false, eSign := 0
    crossings := [] }).showI a).flag (Reg.SV_AX_STAT_SAT a) sat

/-- The start of TRACK, whatever the preload came to. -/
theorem State.enterTrack_eq (s : State) (a : Nat) (x : LoopTerms) (forced : Bool) : ∃ i u limSign sat clamped,
    s.enterTrack a x forced = (if forced || clamped then ((s.toState a 3).loadTrack a i u limSign sat).forceTrack a
      else (s.toState a 3).loadTrack a i u limSign sat).detectOsc a x.e := ⟨_, _, _, _, _, rfl⟩

theorem State.loadTrack_only (s : State) (a : Nat) (i u limSign : Int) (sat : Bool) :
    OnlyFields [Reg.SV_I_I a, Reg.SV_AX_STAT_SAT a] s (s.loadTrack a i u limSign sat) := by
  unfold State.loadTrack
  exact (((OnlyFields.refl _ s).then_setAxis a _).then_showI (by simp)).then_flag (by simp) sat

theorem State.forceTrack_only (s : State) (a : Nat) :
    OnlyFields [Reg.SV_AX_STAT_FORCING a, Reg.SV_FORCE_CNT_COUNT a, Reg.SV_AX_STAT_FORCED_SEEN a] s (s.forceTrack a) := by
  unfold State.forceTrack
  exact ((((OnlyFields.refl _ s).then_flag (by simp) true).then_inc (by simp)).then_flag (by simp) true).then_raise _ _ _

theorem State.loadTrack_untouched (s : State) (a : Nat) (i u limSign : Int) (sat : Bool) :
    Untouched [.fields, .servo] s (s.loadTrack a i u limSign sat) := by
  unfold State.loadTrack
  exact ((s.setAxis_untouched a _).mono.trans (State.showI_untouched _ a).mono).trans (State.flag_untouched _ _ sat).mono

theorem State.forceTrack_untouched (s : State) (a : Nat) : Untouched [.fields, .events] s (s.forceTrack a) := by
  unfold State.forceTrack
  exact (((s.flag_untouched _ true).trans (State.inc_untouched _ _)).trans (State.flag_untouched _ _ true)).mono.trans
    (State.raise_untouched _ .handoverForced a 0).mono

theorem State.detectOsc_untouched (s : State) (a : Nat) (e : Int) : Untouched [.servo] s (s.detectOsc a e) := s.setAxis_untouched a _

theorem State.axis_loadTrack_ne (s : State) {a b : Nat} (i u limSign : Int) (sat : Bool) (h : b ≠ a) :
    (s.loadTrack a i u limSign sat).axis b = s.axis b := by
  simp [State.loadTrack, State.axis_setAxis_ne _ _ h]

theorem State.forceDue_loadTrack (s : State) (a : Nat) (i u limSign : Int) (sat : Bool) :
    ((s.loadTrack a i u limSign sat).axis a).forceDue = false := by
  simp [State.loadTrack]

@[simp] theorem State.axis_forceTrack (s : State) (a b : Nat) : (s.forceTrack a).axis b = s.axis b := by
  simp [State.forceTrack]

theorem State.h_forceTrack (s : State) (a : Axis) :
    (s.forceTrack a).h (Reg.SV_AX_STAT_FORCING a) = 1 ∧ (s.forceTrack a).h (Reg.SV_AX_STAT_FORCED_SEEN a) = 1 := by
  have hne : ∀ a : Axis, (Reg.SV_AX_STAT_FORCING a).key ≠ (Reg.SV_AX_STAT_FORCED_SEEN a).key
      ∧ (Reg.SV_AX_STAT_FORCING a).key ≠ (Reg.SV_FORCE_CNT_COUNT a).key := by decide
  obtain ⟨hseen, hcount⟩ := hne a
  unfold State.forceTrack
  rw [State.h_raise, State.h_raise]
  refine ⟨?_, State.h_flag_same _ _ _⟩
  rw [State.h_flag_ne _ _ _ _ hseen, State.h_inc_ne _ _ _ hcount]
  exact State.h_flag_same _ _ _

theorem State.axis_detectOsc_ne (s : State) {a b : Nat} (e : Int) (h : b ≠ a) : (s.detectOsc a e).axis b = s.axis b := s.axis_setAxis_ne _ h

theorem State.forceDue_detectOsc (s : State) (a : Nat) (e : Int) : ((s.detectOsc a e).axis a).forceDue = (s.axis a).forceDue := by
  obtain ⟨sign, crossings, reached, due, heq⟩ := s.detectOsc_eq a e
  rw [heq, State.axis_setAxis_same]

theorem State.h_detectOsc (s : State) (a : Nat) (e : Int) (f : Fld) : (s.detectOsc a e).h f = s.h f := State.h_congr (by simp) f

/-- A forced hand-over, whatever the preload came to (R201). -/
theorem State.enterTrack_forced (s : State) (a : Axis) (x : LoopTerms) :
    (s.enterTrack a x true).axState a = 3 ∧ (s.enterTrack a x true).h (Reg.SV_AX_STAT_FORCING a) = 1
      ∧ (s.enterTrack a x true).h (Reg.SV_AX_STAT_FORCED_SEEN a) = 1 ∧ ((s.enterTrack a x true).axis a).forceDue = false
      ∧ (∀ b, b ≠ a.val → (s.enterTrack a x true).axis b = s.axis b)
      ∧ Untouched [.fields, .servo, .events, .safety] s (s.enterTrack a x true) := by
  have hstate : ∀ a : Axis, (Reg.SV_AX_STAT_STATE a).key ∉ [Reg.SV_I_I a, Reg.SV_AX_STAT_SAT a].map Fld.key
      ∧ (Reg.SV_AX_STAT_STATE a).key ∉ [Reg.SV_AX_STAT_FORCING a, Reg.SV_FORCE_CNT_COUNT a, Reg.SV_AX_STAT_FORCED_SEEN a].map Fld.key := by decide
  obtain ⟨hload, hforce⟩ := hstate a
  obtain ⟨i, u, limSign, sat, clamped, henter⟩ := s.enterTrack_eq a x true
  rw [Bool.true_or, if_pos rfl] at henter
  have hmoved : (s.toState a 3).h (Reg.SV_AX_STAT_STATE a) = 3 := s.axState_toState a (by decide) (by decide)
  have huntouched := (s.toState_untouched a (st := 3) (by decide)).mono (l' := [.fields, .servo, .events, .safety])
  have hloaded := State.loadTrack_untouched (s.toState a 3) a i u limSign sat
  have hothers (b : Nat) (hb : b ≠ a.val) := (State.axis_loadTrack_ne (s.toState a 3) i u limSign sat hb).trans (s.axis_toState_ne 3 hb)
  have hstate' := (State.loadTrack_only (s.toState a 3) a i u limSign sat _ hload).trans hmoved
  have hdue := State.forceDue_loadTrack (s.toState a 3) a i u limSign sat
  generalize (s.toState a 3).loadTrack a i u limSign sat = y at *
  obtain ⟨hforcing, hseen⟩ := y.h_forceTrack a
  rw [henter, State.axState, State.h_detectOsc, State.h_detectOsc, State.h_detectOsc, State.forceDue_detectOsc, State.axis_forceTrack]
  refine ⟨(y.forceTrack_only a _ hforce).trans hstate', hforcing, hseen, hdue, fun b hb => ?_, ?_⟩
  · rw [State.axis_detectOsc_ne _ _ hb, State.axis_forceTrack, hothers b hb]
  · exact ((huntouched.trans hloaded.mono).trans (y.forceTrack_untouched a).mono).trans (State.detectOsc_untouched _ a _).mono

theorem handoverForced_yields (t : Nat) (a : Axis) (s : State) (hr : s.phase = .ready) (hdue : (s.axis a).forceDue = true) :
    Yields (.handoverForced t a) s fun x =>
      x.h (Reg.SV_AX_STAT_STATE a) = 3 ∧ x.h (Reg.SV_AX_STAT_FORCING a) = 1 ∧ x.h (Reg.SV_AX_STAT_FORCED_SEEN a) = 1
        ∧ (x.axis a).forceDue = false ∧ (∀ b, b ≠ a.val → x.axis b = s.axis b) ∧ Frame t [.fields, .servo, .events, .safety] s x := by
  have hdue' : ((s.clock t).axis a).forceDue = true := hdue
  refine Yields.of_run (execHandoverForced t a) hr rfl rfl ?_
  dsimp only
  rw [if_pos hdue']
  obtain ⟨hstate, hforcing, hseen, hgone, hothers, huntouched⟩ := (s.clock t).enterTrack_forced a ((s.clock t).axis a).terms
  generalize (s.clock t).enterTrack a ((s.clock t).axis a).terms true = x at *
  exact ⟨hstate, hforcing, hseen, hgone, hothers, Frame.of_untouched huntouched⟩

/-! ### ACQUIRE (R199) -/

theorem execTrajectoryPeriodEnd_next {t : Nat} {a : Axis} {s : State} (hr : s.phase = .ready) (hstate : s.axState a = 2) (hsum : (s.axis a).sumN ≠ 0) :
    ∃ z : SvAxis, execTrajectoryPeriodEnd t a s
        = .next (s.keep t (((s.clock t).setAxis a z).flag (Reg.SV_AX_STAT_LOCK a) (decide (4 ≤ z.lockRun))))
      ∧ z.sumN = 0 ∧ z.sumRe = 0 ∧ z.sumIm = 0 ∧ (z.lockRun = 0 ∨ z.lockRun = (s.axis a).lockRun + 1) := by
  have hgo : ¬((s.clock t).axState a ≠ 2 ∨ ((s.clock t).axis a).sumN = 0) := fun h => h.elim (· hstate) hsum
  rw [execTrajectoryPeriodEnd, s.run_ready t _ hr]
  dsimp only
  rw [if_neg hgo]
  refine ⟨_, rfl, rfl, rfl, rfl, ?_⟩
  dsimp only
  split
  · exact .inr rfl
  · exact .inl rfl

theorem trajectoryPeriodEnd_yields (t : Nat) (a : Axis) (s : State) (hr : s.phase = .ready) (hstate : s.axState a = 2) (hsum : (s.axis a).sumN ≠ 0) :
    Yields (.trajectoryPeriodEnd t a) s fun x =>
      (x.axis a).sumN = 0 ∧ (x.axis a).sumRe = 0 ∧ (x.axis a).sumIm = 0
        ∧ ((x.axis a).lockRun = 0 ∨ (x.axis a).lockRun = (s.axis a).lockRun + 1)
        ∧ x.h (Reg.SV_AX_STAT_LOCK a) = (if 4 ≤ (x.axis a).lockRun then 1 else 0)
        ∧ (∀ b, b ≠ a.val → x.axis b = s.axis b) ∧ OnlyFields [Reg.SV_AX_STAT_LOCK a] s x ∧ Frame t [.fields, .servo] s x := by
  obtain ⟨z, hexec, hn, hre, him, hrun⟩ := execTrajectoryPeriodEnd_next (t := t) hr hstate hsum
  refine ⟨_, hexec, ?_⟩
  have haxis : (s.keep t (((s.clock t).setAxis a z).flag (Reg.SV_AX_STAT_LOCK a) (decide (4 ≤ z.lockRun)))).axis a = z :=
    State.axis_setAxis_same _ a z
  dsimp only
  rw [haxis]
  refine ⟨hn, hre, him, hrun, ?lock, fun b hb => (s.clock t).axis_setAxis_ne z hb, OnlyFields.flag (by simp) ((s.clock t).setAxis a z) _,
    Frame.of_untouched (((s.clock t).setAxis_untouched a z).mono.trans (State.flag_untouched _ _ _).mono)⟩
  case lock =>
    refine (State.h_flag_same _ _ _).trans ?_
    by_cases h : 4 ≤ z.lockRun <;> simp [h, Fld.top, Reg.SV_AX_STAT_LOCK]

/-- The timeout of an acquisition is noted and reported. -/
def State.noteAcqTmo (s : State) (a : Nat) : State :=
  ((s.setAxis a { s.axis a with acqTmo := true }).flag (Reg.SV_AX_STAT_ACQ_TMO_SEEN a) true).raise .acqTimeout a 0

theorem State.noteAcqTmo_spec (s : State) (a : Axis) :
    (s.noteAcqTmo a).h (Reg.SV_AX_STAT_ACQ_TMO_SEEN a) = 1 ∧ ((s.noteAcqTmo a).axis a).acqTmo = true
      ∧ OnlyFields [Reg.SV_AX_STAT_ACQ_TMO_SEEN a] s (s.noteAcqTmo a)
      ∧ ∃ r, (s.noteAcqTmo a).ev.inbox = s.ev.inbox ++ [r] ∧ r.code = Ev.acqTimeout.code ∧ r.e10 = a.val := by
  have hlt : ∀ a : Axis, a.val % 2 ^ 20 = a.val := by decide
  obtain ⟨r, hinbox, hcode, harg⟩ :=
    ((s.setAxis a { s.axis a with acqTmo := true }).flag (Reg.SV_AX_STAT_ACQ_TMO_SEEN a) true).inbox_raise .acqTimeout a 0
  unfold State.noteAcqTmo
  refine ⟨?_, by simp, (((OnlyFields.refl _ s).then_setAxis a _).then_flag (by simp) true).then_raise _ _ _, r, ?_, hcode, harg.trans (hlt a)⟩
  · rw [State.h_raise, State.h_flag_same]
    rfl
  · simpa using hinbox

theorem State.noteAcqTmo_untouched (s : State) (a : Nat) : Untouched [.fields, .servo, .events] s (s.noteAcqTmo a) := by
  unfold State.noteAcqTmo
  exact ((s.setAxis_untouched a _).mono.trans (State.flag_untouched _ _ true).mono).trans (State.raise_untouched _ .acqTimeout a 0).mono

theorem acqTimeout_yields (t : Nat) (a : Axis) (s : State) (hr : s.phase = .ready) (hstate : s.axState a = 2)
    (hlock : s.h (Reg.SV_AX_STAT_LOCK a) = 0) (hnew : (s.axis a).acqTmo = false)
    (hlong : (s.axis a).acqAt + s.av a (Reg.SV_ACQ_CFG_TMO a) * lsbMs ≤ max s.now t) : Yields (.acqTimeout t a) s fun x =>
      x.h (Reg.SV_AX_STAT_ACQ_TMO_SEEN a) = 1 ∧ (x.axis a).acqTmo = true ∧ OnlyFields [Reg.SV_AX_STAT_ACQ_TMO_SEEN a] s x
        ∧ (∃ r, x.ev.inbox = s.ev.inbox ++ [r] ∧ r.code = Ev.acqTimeout.code ∧ r.e10 = a.val) ∧ Frame t [.fields, .servo, .events] s x := by
  have hdue : (s.clock t).axState a = 2 ∧ (s.clock t).h (Reg.SV_AX_STAT_LOCK a) = 0 ∧ ((s.clock t).axis a).acqTmo = false
      ∧ ((s.clock t).axis a).acqAt + (s.clock t).av a (Reg.SV_ACQ_CFG_TMO a) * lsbMs ≤ (s.clock t).now := ⟨hstate, hlock, hnew, hlong⟩
  refine Yields.of_run (execAcqTimeout t a) hr rfl rfl ?_
  dsimp only
  rw [if_pos hdue]
  obtain ⟨hseen, hnoted, honly, r, hinbox, hcode, harg⟩ := (s.clock t).noteAcqTmo_spec a
  exact ⟨hseen, hnoted, honly, ⟨r, hinbox, hcode, harg⟩, Frame.of_untouched ((s.clock t).noteAcqTmo_untouched a)⟩

/-! ### Sensor loss and oscillation (R193, R205) -/

theorem servoSensorLost_yields (t : Nat) (a : Axis) (s : State) (hr : s.phase = .ready) (hoff : s.axState a ≠ 0) (hfault : s.axState a ≠ 4)
    (hbad : 8 ≤ (s.axis a).bad) : Yields (.servoSensorLost t a) s fun x =>
      x.h (Reg.SV_AX_STAT_STATE a) = 4 ∧ x.h (Reg.SV_AX_STAT_CAUSE a) = 1 ∧ x.h (Reg.SV_AX_STAT_LOCK a) = 0 ∧ (x.axis a).i = 0
        ∧ (∃ r, x.ev.inbox = s.ev.inbox ++ [r] ∧ r.code = Ev.servoFault.code ∧ r.e10 = a.val)
        ∧ (∀ b, b ≠ a.val → x.axis b = s.axis b) ∧ Frame t [.fields, .servo, .events, .safety] s x := by
  have hlost : (s.clock t).axState a ≠ 0 ∧ (s.clock t).axState a ≠ 4
      ∧ (((s.clock t).axis a).bad ≥ 8 ∨ ((s.clock t).axis a).lastAt + 8 * (s.clock t).axisT a ≤ (s.clock t).now) := ⟨hoff, hfault, .inl hbad⟩
  refine Yields.of_run (execServoSensorLost t a) hr rfl rfl ?_
  dsimp only
  rw [if_pos hlost]
  have hstate := (s.clock t).axState_axisFault a 1
  have hcause := (s.clock t).h_axisFault_cause a (cause := 1) (by decide)
  have hlock := (s.clock t).h_axisFault_lock a 1 hfault
  have hi := congrArg SvAxis.i ((s.clock t).axis_axisFault a 1)
  have hreport := (s.clock t).inbox_axisFault a 1
  have hothers (b : Nat) (hb : b ≠ a.val) := (s.clock t).axis_axisFault_ne 1 hb
  have huntouched := (s.clock t).axisFault_untouched a 1
  generalize (s.clock t).axisFault a 1 = x at *
  exact ⟨hstate, hcause, hlock, hi, hreport, hothers, Frame.of_untouched huntouched⟩

/-- An oscillation is noted, counted and reported. -/
def State.noteOsc (s : State) (a : Nat) : State :=
  (((s.setAxis a { s.axis a with oscDue := false, crossings := [] }).flag (Reg.SV_AX_STAT_OSC_SEEN a) true).inc
    (Reg.SV_OSC_CNT_COUNT a)).raise .servoOsc a 0

theorem State.noteOsc_only (s : State) (a : Nat) : OnlyFields [Reg.SV_AX_STAT_OSC_SEEN a, Reg.SV_OSC_CNT_COUNT a] s (s.noteOsc a) := by
  unfold State.noteOsc
  exact ((((OnlyFields.refl _ s).then_setAxis a _).then_flag (by simp) true).then_inc (by simp)).then_raise _ _ _

theorem State.noteOsc_untouched (s : State) (a : Nat) : Untouched [.fields, .servo, .events] s (s.noteOsc a) := by
  unfold State.noteOsc
  exact (((s.setAxis_untouched a _).mono.trans (State.flag_untouched _ _ true).mono).trans (State.inc_untouched _ _).mono).trans
    (State.raise_untouched _ .servoOsc a 0).mono

theorem State.oscDue_noteOsc (s : State) (a : Nat) : ((s.noteOsc a).axis a).oscDue = false := by
  simp [State.noteOsc]

theorem State.oscDue_axisFault (s : State) (a cause : Nat) : ((s.axisFault a cause).axis a).oscDue = (s.axis a).oscDue := by
  rw [State.axis_axisFault]
  rcases s.axis_toState a 4 with h | h <;> rw [h] <;> rfl

theorem State.h_noteOsc_seen (s : State) (a : Axis) : (s.noteOsc a).h (Reg.SV_AX_STAT_OSC_SEEN a) = 1 := by
  have hne : ∀ a : Axis, (Reg.SV_AX_STAT_OSC_SEEN a).key ≠ (Reg.SV_OSC_CNT_COUNT a).key := by decide
  rw [State.noteOsc, State.h_raise, State.h_inc_ne _ _ _ (hne a)]
  exact State.h_flag_same _ _ _

theorem State.h_noteOsc_count (s : State) (a : Axis) :
    (s.noteOsc a).h (Reg.SV_OSC_CNT_COUNT a) = min (s.h (Reg.SV_OSC_CNT_COUNT a) + 1) (Reg.SV_OSC_CNT_COUNT a).top := by
  have hne : ∀ a : Axis, (Reg.SV_OSC_CNT_COUNT a).key ≠ (Reg.SV_AX_STAT_OSC_SEEN a).key := by decide
  rw [State.noteOsc, State.h_raise, State.h_inc_same, State.h_flag_ne _ _ _ _ (hne a), State.h_setAxis]

/-- A field in use is not another one after a change of RO fields other than CF_STAT.ACTIVE. -/
theorem State.av_noteOsc (s : State) (a : Axis) (f : Fld) : (s.noteOsc a).av a f = s.av a f := by
  have hne : ∀ a : Axis, Reg.CF_STAT_ACTIVE.key ∉ [Reg.SV_AX_STAT_OSC_SEEN a, Reg.SV_OSC_CNT_COUNT a].map Fld.key := by decide
  have hactive : (s.noteOsc a).h Reg.CF_STAT_ACTIVE = s.h Reg.CF_STAT_ACTIVE := s.noteOsc_only a _ (hne a)
  have hb : (s.noteOsc a).activeB = s.activeB := congrArg (fun n => decide (n = 1)) hactive
  obtain ⟨hA, hB⟩ := s.noteOsc_untouched a .sets (by simp)
  obtain ⟨hwaiting, hstale, -⟩ := s.noteOsc_untouched a .waits (by simp)
  simp only [State.av, State.fu, State.use, State.act, hb, hA, hB, hwaiting, hstale]

theorem servoOsc_yields (t : Nat) (a : Axis) (s : State) (hr : s.phase = .ready) (hdue : (s.axis a).oscDue = true) :
    Yields (.servoOsc t a) s fun x =>
      x.h (Reg.SV_AX_STAT_OSC_SEEN a) = 1 ∧ (x.axis a).oscDue = false
        ∧ x.h (Reg.SV_OSC_CNT_COUNT a) = min (s.h (Reg.SV_OSC_CNT_COUNT a) + 1) (Reg.SV_OSC_CNT_COUNT a).top
        ∧ (s.av a (Reg.SV_AX_CFG_OSC_ACT a) = 1 → x.h (Reg.SV_AX_STAT_STATE a) = 4) ∧ Frame t [.fields, .servo, .events, .safety] s x := by
  have hdue' : ((s.clock t).axis a).oscDue = true := hdue
  have hne : ∀ a : Axis, (Reg.SV_AX_STAT_OSC_SEEN a).key ∉ (Reg.SV_I_I a :: Reg.SV_AX_STAT_CAUSE a :: movedFields a).map Fld.key
      ∧ (Reg.SV_OSC_CNT_COUNT a).key ∉ (Reg.SV_I_I a :: Reg.SV_AX_STAT_CAUSE a :: movedFields a).map Fld.key := by decide
  have hstep : execServoOsc t a s = .next (s.keep t (if ((s.clock t).noteOsc a).av a (Reg.SV_AX_CFG_OSC_ACT a) = 1
      then ((s.clock t).noteOsc a).axisFault a 2 else (s.clock t).noteOsc a)) := by
    rw [execServoOsc, s.run_ready t _ hr]
    dsimp only
    rw [if_pos hdue']
    rfl
  have hact : ((s.clock t).noteOsc a).av a (Reg.SV_AX_CFG_OSC_ACT a) = s.av a (Reg.SV_AX_CFG_OSC_ACT a) := (s.clock t).av_noteOsc a _
  have hseen := (s.clock t).h_noteOsc_seen a
  have hgone := (s.clock t).oscDue_noteOsc a
  have hcount := (s.clock t).h_noteOsc_count a
  have hnoted := ((s.clock t).noteOsc_untouched a).mono (l' := [.fields, .servo, .events, .safety])
  refine ⟨_, hstep, ?_⟩
  rw [hact]
  generalize (s.clock t).noteOsc a = y at *
  by_cases h : s.av a (Reg.SV_AX_CFG_OSC_ACT a) = 1
  · rw [if_pos h]
    have hseen' := (y.axisFault_only a 2 _ (hne a).1).trans hseen
    have hgone' := (y.oscDue_axisFault a 2).trans hgone
    have hcount' := (y.axisFault_only a 2 _ (hne a).2).trans hcount
    have hstate := y.axState_axisFault a 2
    have huntouched := hnoted.trans (y.axisFault_untouched a 2)
    generalize y.axisFault a 2 = x at *
    exact ⟨hseen', hgone', hcount', fun _ => hstate, Frame.of_untouched huntouched⟩
  · rw [if_neg h]
    exact ⟨hseen, hgone, hcount, fun hact => absurd hact h, Frame.of_untouched hnoted⟩

/-! ### Injection (R206) -/

theorem svInjStart_yields (t : Nat) (a : Axis) (s : State) (hr : s.phase = .ready) : Yields (.svInjStart t a) s fun x =>
    x.axis a = { s.axis a with injStart := true } ∧ (∀ b, b ≠ a.val → x.axis b = s.axis b) ∧ Frame t [.servo] s x :=
  Yields.of_run (execSvInjStart t a) hr rfl rfl
    ⟨(s.clock t).axis_setAxis_same a _, fun _ hb => (s.clock t).axis_setAxis_ne _ hb, Frame.of_untouched ((s.clock t).setAxis_untouched a _)⟩

theorem svInjStop_yields (t : Nat) (a : Axis) (s : State) (hr : s.phase = .ready) : Yields (.svInjStop t a) s fun x =>
    x.axis a = { s.axis a with injStop := true } ∧ (∀ b, b ≠ a.val → x.axis b = s.axis b) ∧ Frame t [.servo] s x :=
  Yields.of_run (execSvInjStop t a) hr rfl rfl
    ⟨(s.clock t).axis_setAxis_same a _, fun _ hb => (s.clock t).axis_setAxis_ne _ hb, Frame.of_untouched ((s.clock t).setAxis_untouched a _)⟩

theorem injectionEnd_yields (t : Nat) (a : Axis) (s : State) (hr : s.phase = .ready) (htest : s.h (Reg.SV_AX_STAT_TEST a) = 1)
    (hlen : 0 < s.av a (Reg.SV_INJ_LEN_LEN a)) (hpast : s.av a (Reg.SV_INJ_LEN_LEN a) ≤ (s.axis a).injK) : Yields (.injectionEnd t a) s fun x =>
      x.h (Reg.SV_AX_STAT_TEST a) = 0 ∧ (x.axis a).injK = 0 ∧ OnlyFields [Reg.SV_AX_STAT_TEST a] s x ∧ Frame t [.fields, .servo] s x := by
  have hover : (s.clock t).h (Reg.SV_AX_STAT_TEST a) = 1 ∧ (s.clock t).av a (Reg.SV_INJ_LEN_LEN a) > 0
      ∧ (s.clock t).av a (Reg.SV_INJ_LEN_LEN a) ≤ ((s.clock t).axis a).injK := ⟨htest, hlen, hpast⟩
  refine Yields.of_run (execInjectionEnd t a) hr rfl rfl ?_
  dsimp only
  rw [if_pos hover]
  exact ⟨State.h_injEnd_test _ a, congrArg SvAxis.injK (State.axis_injEnd _ a), (s.clock t).injEnd_only a,
    Frame.of_untouched ((s.clock t).injEnd_untouched a)⟩

end Sys2Proof.Machine

namespace Sys2Proof
open Machine

/-- Settles O29: a change of the axis state writes five fields and ends the injection (toState_of_ne); the start of TRACK, a fault and the
notes of a timeout or an oscillation are such a change with fields shown and a report. -/
theorem servoModesAndFaults : Obligations.ServoModesAndFaults := by
  unfold Obligations.ServoModesAndFaults
  exact ⟨handoverForced_yields, trajectoryPeriodEnd_yields, acqTimeout_yields, servoSensorLost_yields, servoOsc_yields, svInjStart_yields,
    svInjStop_yields, injectionEnd_yields⟩

end Sys2Proof
end

section
/-!
SUPPORT. What other blocks do at an application point or at a stop of firing writes no RO or W1C field of the servo (R35, R130, R430): the
fields of block 0x5 are told from the others by their keys.
-/

namespace Sys2Proof.Machine

/-- Whether a field lies in block 0x5. -/
def Fld.inServo (f : Fld) : Bool := decide (0x50000 * 32 ≤ f.key) && decide (f.key < 0x60000 * 32)

theorem Fld.not_inServo_of_le {f : Fld} (h : 0x60000 ≤ f.addr) : f.inServo = false := by
  have hkey : ¬ f.key < 0x60000 * 32 := by
    simp only [Fld.key]
    omega
  simp [Fld.inServo, hkey]

/-- Every field of the servo is in `x` as in `s`. -/
def ServoFieldsStay (s x : State) : Prop := ∀ f : Fld, f.inServo = true → x.h f = s.h f

namespace ServoFieldsStay

variable {s x y : State}

theorem refl (s : State) : ServoFieldsStay s s := fun _ _ => rfl

theorem trans (h : ServoFieldsStay s x) (h' : ServoFieldsStay x y) : ServoFieldsStay s y := fun f hf => (h' f hf).trans (h f hf)

theorem of_regs (h : x.regs = s.regs) : ServoFieldsStay s x := fun f _ => State.h_congr h f

theorem of_hw (h : x.regs.hw = s.regs.hw) : ServoFieldsStay s x := fun f _ => by simp only [State.h, h]

theorem of_only {l : List Fld} (h : OnlyFields l s x) (hl : ∀ g ∈ l, g.inServo = false) : ServoFieldsStay s x := by
  refine fun f hf => h f fun hm => ?_
  obtain ⟨g, hg, he⟩ := List.mem_map.mp hm
  have hsame : g.inServo = f.inServo := by simp only [Fld.inServo, he]
  rw [hl g hg, hf] at hsame
  exact absurd hsame (by decide)

theorem setH (h : ServoFieldsStay s x) {g : Fld} (hg : g.inServo = false) (v : Nat) : ServoFieldsStay s (x.setH g v) :=
  h.trans (of_only (OnlyFields.setH (List.mem_singleton_self g) x v) (by simpa using hg))

theorem flag (h : ServoFieldsStay s x) {g : Fld} (hg : g.inServo = false) (b : Bool) : ServoFieldsStay s (x.flag g b) :=
  h.trans (of_only (OnlyFields.flag (List.mem_singleton_self g) x b) (by simpa using hg))

theorem add (h : ServoFieldsStay s x) {g : Fld} (hg : g.inServo = false) (n : Nat) : ServoFieldsStay s (x.add g n) :=
  h.trans (of_only (l := [g]) (fun f hf => x.h_add_ne g f n (by simpa using hf)) (by simpa using hg))

theorem inc (h : ServoFieldsStay s x) {g : Fld} (hg : g.inServo = false) : ServoFieldsStay s (x.inc g) := h.add hg 1

theorem raise (h : ServoFieldsStay s x) (e : Ev) (a b : Nat) : ServoFieldsStay s (x.raise e a b) := h.trans (of_regs rfl)

theorem setChan (h : ServoFieldsStay s x) (c : Nat) (z : ChanState) : ServoFieldsStay s (x.setChan c z) := h.trans (of_regs rfl)

theorem setFdPix (h : ServoFieldsStay s x) (p : Nat) (z : FdPixel) : ServoFieldsStay s (x.setFdPix p z) := h.trans (of_regs rfl)

theorem setSafeChan (h : ServoFieldsStay s x) (n : Nat) (z : SafeChan) : ServoFieldsStay s (x.setSafeChan n z) := h.trans (of_regs rfl)

theorem foldl {α : Type} (f : State → α → State) (hf : ∀ s a, ServoFieldsStay s (f s a)) (l : List α) (s : State) :
    ServoFieldsStay s (l.foldl f s) :=
  List.foldlRecOn l f (motive := ServoFieldsStay s) (refl s) fun x hx a _ => hx.trans (hf x a)

end ServoFieldsStay

open ServoFieldsStay (refl of_regs of_hw foldl)

/-! ### Trips (R338) -/

theorem safetyFields_not_inServo (n : Nat) :
    ∀ f ∈ [Reg.SF_CH_STAT_STATE n, Reg.SF_CH_STAT_SOA_RB n, Reg.SF_CH_STAT_SOB_RB n, Reg.SF_CH_CAUSE_FIRST n, Reg.SF_TRIP_CNT_COUNT n,
      Reg.SF_CH_STAT_TRIP_SEEN n], f.inServo = false := by
  intro f hf
  refine Fld.not_inServo_of_le ?_
  simp only [List.mem_cons, List.not_mem_nil, or_false] at hf
  rcases hf with rfl | rfl | rfl | rfl | rfl | rfl <;> exact Nat.le_add_right_of_le (by decide)

theorem State.chMove_servoFields (s : State) (n st : Nat) : ServoFieldsStay s (s.chMove n st) := by
  have hf := safetyFields_not_inServo n
  have hset := (refl s).setH (hf (Reg.SF_CH_STAT_STATE n) (by simp)) st
  have hshow (x : State) : ServoFieldsStay x (x.showPins n) := ((refl x).flag (hf _ (by simp)) _).flag (hf _ (by simp)) _
  unfold State.chMove
  dsimp only
  split
  · exact hset.trans (hshow _)
  · exact (hset.setSafeChan _ _).trans (hshow _)

theorem State.tripMove_servoFields (s : State) (n cause : Nat) : ServoFieldsStay s (s.tripMove n cause) := by
  have hf := safetyFields_not_inServo n
  unfold State.tripMove
  split
  · exact ((((((refl s).setSafeChan n _).setH (hf _ (by simp)) _).inc (hf _ (by simp))).flag (hf _ (by simp)) _).raise _ _ _).trans
      (State.chMove_servoFields _ n 1)
  · exact refl s

theorem State.sendZone_servoFields (s : State) (n : Nat) : ServoFieldsStay s (s.sendZone n) := by
  unfold State.sendZone
  split
  · exact refl s
  · refine ((refl s).setSafeChan n _).trans (foldl _ (fun s u => ?_) _ _)
    split
    · split
      · exact of_regs (by simp)
      · exact refl s
    · exact (refl s).add (g := Reg.FL_SUB_DROP_COUNT) (by decide) 1

theorem State.siTrip_servoFields (s : State) (n cause : Nat) : ServoFieldsStay s (s.siTrip n cause) := by
  unfold State.siTrip State.zoneOut
  split
  · split
    · exact (s.tripMove_servoFields n cause).trans (State.sendZone_servoFields _ n)
    · exact (s.tripMove_servoFields n cause).trans (State.tripMove_servoFields _ n 11)
  · exact refl s

/-! ### A write takes effect (R35, R430) -/

theorem State.cfMismatch_servoFields (s : State) : ServoFieldsStay s s.cfMismatch := by
  have hshow : ServoFieldsStay s s.showMismatch := by
    have hcount := (((refl s).flag (g := Reg.CF_STAT_MISMATCH) (by decide) true).flag (g := Reg.CF_STAT_MISMATCH_SEEN) (by decide) true).inc
      (g := Reg.CF_MISMATCH_CNT_COUNT) (by decide)
    unfold State.showMismatch
    dsimp only
    split
    · exact hcount.raise _ _ _
    · exact hcount
  have htrip (x : State) : ServoFieldsStay x x.tripOnMismatch := by
    unfold State.tripOnMismatch
    split
    · exact foldl _ (fun s n => s.siTrip_servoFields n 15) _ x
    · exact refl x
  have hhalt (x : State) : ServoFieldsStay x x.haltFiring := by
    unfold State.haltFiring
    split
    · exact of_regs rfl
    · exact (((refl x).flag (g := Reg.SQ_STAT_RUN) (by decide) false).trans (of_regs rfl)).trans
        (((refl x.stopFiring).flag (g := Reg.SQ_STAT_PEND) (by decide) false).trans (of_regs rfl))
  have hstop (x : State) : ServoFieldsStay x x.stopOnMismatch := by
    unfold State.stopOnMismatch
    dsimp only
    split
    · have hflag := (refl x).flag (g := Reg.CF_STAT_STOPPED) (by decide) true
      split
      · exact hflag.trans (hhalt _)
      · exact hflag
    · exact refl x
  rw [State.cfMismatch_eq]
  exact (hshow.trans (htrip _)).trans (hstop _)

theorem State.takeEffect_servoFields (s : State) (w : LiveWrite) : ServoFieldsStay s (s.takeEffect w) := by
  have hset : ServoFieldsStay s { s.setAct w.addr w.value with cf := { (s.setAct w.addr w.value).cf with passDirty := true } } := by
    refine of_hw ?_
    unfold State.setAct
    split <;> rfl
  unfold State.takeEffect
  dsimp only
  split
  · exact (((refl s).inc (by decide)).flag (by decide) true).raise _ _ _
  · split
    · exact hset
    · exact hset.trans (State.cfMismatch_servoFields _)

/-- The fields in which a value that takes effect shows to be wrong. -/
theorem lookedFields_not_inServo (u a : Nat) :
    ∀ f ∈ [Reg.TL_CH_STAT_CFG_ERR u, Reg.TL_CH_STAT_THR_CLAMP u, Reg.TL_TILE_STAT_WS_CFG_ERR a, Reg.TE_CH_STAT_CFG_ERR a, Reg.SQ_STAT_CFG_ERR],
      f.inServo = false := by
  have hsq : Reg.SQ_STAT_CFG_ERR.inServo = false := by decide
  intro f hf
  simp only [List.mem_cons, List.not_mem_nil, or_false] at hf
  rcases hf with rfl | rfl | rfl | rfl | rfl
  case inr.inr.inr.inr => exact hsq
  all_goals
    refine Fld.not_inServo_of_le ?_
    simp only [Reg.TL_CH_STAT_CFG_ERR, Reg.TL_CH_STAT_THR_CLAMP, Reg.TL_CH_STAT, Reg.TL_TILE_STAT_WS_CFG_ERR, Reg.TL_TILE_STAT,
      Reg.TE_CH_STAT_CFG_ERR, Reg.TE_CH_STAT]
    omega

theorem State.looked_servoFields (s : State) (u a : Nat) : ServoFieldsStay s (s.looked u a) := by
  have hjoin (x : State) (mine : Nat → Bool) : ServoFieldsStay x (x.join u mine) := of_hw rfl
  have hgroup : ServoFieldsStay s (s.joinGroup u) := by
    unfold State.joinGroup
    split
    · exact hjoin s _
    · exact refl s
  have hflag {g : Fld} (hg : g.inServo = false) : ServoFieldsStay s (s.flag g true) := (refl s).flag hg true
  have hdirty : ServoFieldsStay s { s with fl := { s.fl with tablesDirty := true } } := of_regs rfl
  have hf := lookedFields_not_inServo u
  unfold State.looked
  dsimp only
  split
  · split
    · split
      · exact hflag (hf 0 _ (by simp))
      · exact refl s
    · split
      · split
        · exact hflag (hf 0 _ (by simp))
        · exact refl s
      · split
        · split
          · exact hflag (hf (Reg.tileOf a) _ (by simp))
          · exact refl s
        · exact refl s
  · split
    · split
      · exact hflag (hf ((a - 0x142000) / 4) _ (by simp))
      · exact refl s
    · split
      · exact hjoin s _
      · split
        · split
          · exact hgroup
          · exact refl s
        · split
          · have htables : ServoFieldsStay s (if (0x40100 ≤ a ∧ a < 0x40180) ∨ (0x42000 ≤ a ∧ a < 0x44000) then
                { s with fl := { s.fl with tablesDirty := true } } else s) := by
              split
              · exact hdirty
              · exact refl s
            split
            · split
              · exact htables.flag (hf 0 _ (by simp)) true
              · exact htables
            · exact htables
          · exact refl s

theorem State.applyAt_servoFields (s : State) (p : Nat → Nat → Bool) : ServoFieldsStay s (s.applyAt p) := by
  refine ServoFieldsStay.trans (ServoFieldsStay.trans ?_ (foldl (fun s (w : LiveWrite) => s.takeEffect w) State.takeEffect_servoFields _ _))
    (foldl (fun s (x : Nat × Nat) => s.looked x.1 x.2) (fun s x => s.looked_servoFields x.1 x.2) _ _)
  exact of_hw rfl

/-! ### The end of a channel's interval (R53 to R59) -/

theorem rangeFields_not_inServo (c : Nat) :
    ∀ f ∈ [Reg.TL_CH_STAT_GAIN_NOW c, Reg.TL_CH_STAT_DC_LIMIT c, Reg.TL_CH_STAT_AR_MOVED c, Reg.TL_CH_BASE_DC c], f.inServo = false := by
  intro f hf
  refine Fld.not_inServo_of_le ?_
  simp only [List.mem_cons, List.not_mem_nil, or_false] at hf
  rcases hf with rfl | rfl | rfl | rfl <;>
    simp only [Reg.TL_CH_STAT_GAIN_NOW, Reg.TL_CH_STAT_DC_LIMIT, Reg.TL_CH_STAT_AR_MOVED, Reg.TL_CH_STAT, Reg.TL_CH_BASE_DC, Reg.TL_CH_BASE] <;>
    omega

theorem State.switchRange_servoFields (s : State) (c g : Nat) : ServoFieldsStay s (s.switchRange c g) := by
  have hf := rangeFields_not_inServo c
  unfold State.switchRange
  dsimp only
  split
  · exact refl s
  · have hnow := ((refl s).setH (hf (Reg.TL_CH_STAT_GAIN_NOW c) (by simp)) g).setChan c { s.chan c with switchedAt := some s.now }
    split
    · exact (((hnow.setH (hf _ (by simp)) _).flag (hf _ (by simp)) true).setChan c _).raise _ _ _
    · exact hnow.setChan c _

theorem State.applyChannel_servoFields (s : State) (c : Nat) : ServoFieldsStay s (s.applyChannel c) := by
  have hhold : ServoFieldsStay s (s.holdSelection c) := by
    unfold State.holdSelection
    split
    · exact of_hw rfl
    · exact refl s
  have hnote (x : State) : ServoFieldsStay x (x.noteChan c) := of_regs (by simp)
  unfold State.applyChannel
  exact (hhold.trans (State.applyAt_servoFields _ _)).trans (hnote _)

theorem State.channelIntervalEnd_servoFields (s : State) (c : Nat) (seqs : List Nat) : ServoFieldsStay s (s.channelIntervalEnd c seqs) := by
  have hf := rangeFields_not_inServo c
  have hsettle (x : State) (old : Score) : ServoFieldsStay x (x.settleRange c old) := by
    unfold State.settleRange
    dsimp only
    split
    · exact ((refl x).setChan c _).trans (State.switchRange_servoFields _ c _)
    · exact refl x
  unfold State.channelIntervalEnd
  dsimp only
  split
  · exact ((s.applyChannel_servoFields c).setChan c _).trans (hsettle _ _)
  · have hmove (z : ChanState) (g : Nat) := ((s.applyChannel_servoFields c).setChan c z).trans (State.switchRange_servoFields _ c g)
    split
    · exact ((hmove _ _).flag (hf _ (by simp)) true).raise _ _ _
    · exact hmove _ _

/-! ### A stop of firing is settled (R130) -/

theorem State.takeDesc_servoFields (s : State) (p : Nat) (written : Bool) : ServoFieldsStay s (s.takeDesc p written) := by
  unfold State.takeDesc
  dsimp only
  split
  · exact (((refl s).setFdPix p _).flag (by decide) true).raise _ _ _
  · exact (refl s).setFdPix p _

theorem State.closeInterval_servoFields (s : State) (p : Nat) (forced again : Bool) : ServoFieldsStay s (s.closeInterval p forced again) := by
  have hramp (x : State) : ServoFieldsStay x (x.rampStep p) := by
    have hclosed : ServoFieldsStay x { x with th := (x.rampStep p).th } := of_regs rfl
    exact hclosed.flag (g := Reg.TH_CAL_STAT_RAMP) (by decide) _
  have hboundary (x : State) : ServoFieldsStay x (x.pixelBoundary p) :=
    (x.applyAt_servoFields _).trans (State.takeDesc_servoFields _ p _)
  have hopen (x : State) (open_ : Bool) (gen buf : Nat) : ServoFieldsStay x (if open_ then x.openInterval p gen buf else x) := by
    split
    · exact (refl x).setFdPix p _
    · exact refl x
  have hchannel (x : State) (seqs : List Nat) : ServoFieldsStay x (if p < 512 then (x.channelIntervalEnd p seqs).rampStep p else x) := by
    split
    · exact (x.channelIntervalEnd_servoFields p seqs).trans (hramp _)
    · exact refl x
  have hclosed (z : FdPixel) (seqs : List Nat) := (((refl s).setFdPix p z).trans (hchannel _ seqs)).trans (hboundary _)
  unfold State.closeInterval
  exact (hclosed _ _).trans (hopen _ _ _ _)

theorem State.settleStop_servoFields (s : State) : ServoFieldsStay s s.settleStop := by
  unfold State.settleStop
  split
  · refine ServoFieldsStay.trans (of_regs rfl) (foldl _ (fun s p => ?_) _ _)
    split
    · exact s.closeInterval_servoFields p true _
    · exact refl s
  · exact refl s

end Sys2Proof.Machine
end

section
/-!
SUPPORT. What a loop period hands to the acquisition engine, and the impedance checks that go on when an axis is off, write no field of the
servo (R207, R233).
-/

namespace Sys2Proof.Machine

/-! ### A sample at a buffer (R243, R244, R250, R252) -/

theorem State.aqPass_onBuffer (s : State) (b : Nat) : OnBuffer b s (s.aqPass b) := by
  have hdue := (OnBuffer.refl b s).setAqBuf b (z := { s.aqBuf b with next := (s.aqBuf b).next.filter fun f => decide (s.now < f.at_) }) rfl
  unfold State.aqPass
  dsimp only
  split
  · exact (hdue.trans (State.aqLate_onBuffer _ b _)).setAqBuf b (by rfl)
  · exact hdue.setAqBuf b (by rfl)

theorem State.aqPost_onBuffer (s : State) (b : Nat) (vals : List Score) (seq : Nat) : OnBuffer b s (s.aqPost b vals seq) :=
  ((OnBuffer.refl b s).setAqBuf b (by rfl)).trans (State.aqStore_onBuffer _ b vals seq)

theorem State.aqTake_onBuffer (s : State) (b : Nat) (vals : List Score) (seq : Nat) : OnBuffer b s (s.aqTake b vals seq) := by
  have hset {z : AqBuf} (hz : z.cfg = (s.aqBuf b).cfg) : OnBuffer b s (s.setAqBuf b z) := (OnBuffer.refl b s).setAqBuf b hz
  unfold State.aqTake
  dsimp only
  split
  · split
    · exact (hset (by rfl)).trans (State.aqPost_onBuffer _ b vals seq)
    · split
      · exact OnBuffer.refl b s
      · exact hset (by rfl)
  · split
    · split
      · exact (hset (by rfl)).trans (State.aqPost_onBuffer _ b vals seq)
      · exact (s.aqPass_onBuffer b).trans (State.aqPost_onBuffer _ b vals seq)
    · split
      · exact s.aqPass_onBuffer b
      · exact OnBuffer.refl b s

theorem State.aqOffer_onBuffer (s : State) (b : Nat) (vals : List Score) (seq : Nat) : OnBuffer b s (s.aqOffer b vals seq) := by
  have hset {z : AqBuf} (hz : z.cfg = (s.aqBuf b).cfg) : OnBuffer b s (s.setAqBuf b z) := (OnBuffer.refl b s).setAqBuf b hz
  unfold State.aqOffer
  dsimp only
  split
  · exact s.aqTake_onBuffer b vals seq
  · split
    · exact hset (by rfl)
    · exact (hset (by rfl)).trans (State.aqTake_onBuffer _ b _ seq)

/-! ### The values of a loop period (R207) -/

theorem State.aqLevels_only (s : State) (src : AqSrc) (sample : Nat → Option Score) : OnlyFields captureFields s (s.aqLevels src sample) := by
  refine OnlyFields.foldl _ _ (fun s u _ => ?_) s
  have hset (z : AqUnitState) : OnlyFields captureFields s (s.setAqUnit u z) := OnlyFields.of_regs (by simp)
  have hfire (x : State) : OnlyFields captureFields x (x.aqFire u) := x.aqFireAt_only u x.now
  dsimp only
  split
  · split
    · exact OnlyFields.refl _ s
    · split
      · exact (hset _).trans (hfire _)
      · exact hset _
  · exact OnlyFields.refl _ s

theorem State.aqStream_only (s : State) (src : AqSrc) (v : Score) : OnlyFields captureFields s (s.aqStream src v) := by
  refine OnlyFields.foldl _ _ (fun s b hb => ?_) s
  split
  · exact (s.aqOffer_onBuffer b [v] 0).fields.mono fun f hf => List.mem_flatMap.mpr ⟨b, hb, hf⟩
  · exact OnlyFields.refl _ s

theorem captureFields_not_inServo : ∀ f ∈ captureFields, f.inServo = false := by decide +kernel

theorem State.aqServo_servoFields (s : State) (a : Nat) (vals : List Int) : ServoFieldsStay s (s.aqServo a vals) :=
  ServoFieldsStay.of_only ((OnlyFields.foldl _ _ (fun s _ _ => s.aqLevels_only _ _) s).trans
    (OnlyFields.foldl _ _ (fun s _ _ => s.aqStream_only _ _) _)) captureFields_not_inServo

theorem State.aqTrigger_servoFields (s : State) (cause : AqCause) : ServoFieldsStay s (s.aqTrigger cause) :=
  ServoFieldsStay.of_only (s.aqTriggerAt_only cause s.now) captureFields_not_inServo

/-! ### Checks that waited (R230, R233) -/

theorem checkFields_not_inServo (p c : Nat) :
    ∀ f ∈ [Reg.AX_PAIR_STAT_SLOT p, Reg.AX_STAT_CFG_ERR c, Reg.AX_STAT_CHK_DEFER c, Reg.AX_STAT_CHK c], f.inServo = false := by
  intro f hf
  refine Fld.not_inServo_of_le ?_
  simp only [List.mem_cons, List.not_mem_nil, or_false] at hf
  rcases hf with rfl | rfl | rfl | rfl <;> exact Nat.le_add_right_of_le (by decide)

section

variable {s x : State}

theorem ServoFieldsStay.setAxChan (h : ServoFieldsStay s x) (c : Nat) (z : AxChan) : ServoFieldsStay s (x.setAxChan c z) := h.trans (of_regs rfl)

theorem ServoFieldsStay.setChecking (h : ServoFieldsStay s x) (p : Nat) (z : Option ZCheck) : ServoFieldsStay s (x.setChecking p z) :=
  h.trans (of_regs rfl)

theorem ServoFieldsStay.setSlotAt (h : ServoFieldsStay s x) (p n : Nat) : ServoFieldsStay s (x.setSlotAt p n) := h.trans (of_regs rfl)

end

theorem State.beginCheck_servoFields (s : State) (p c : Nat) : ServoFieldsStay s (s.beginCheck p c) := by
  have hf := checkFields_not_inServo p c
  have hslot (x : State) (k : Nat) : ServoFieldsStay x (match x.firstSlot c with
      | some y => if y.2 = k then x else (x.setH (Reg.AX_PAIR_STAT_SLOT p) y.2).setSlotAt p x.now
      | none => x) := by
    split
    · split
      · exact ServoFieldsStay.refl x
      · exact ((ServoFieldsStay.refl x).setH (hf _ (by simp)) _).setSlotAt _ _
    · exact ServoFieldsStay.refl x
  have hinput (x : State) : ServoFieldsStay x (if x.inputOk c then x else x.flag (Reg.AX_STAT_CFG_ERR c) true) := by
    split
    · exact ServoFieldsStay.refl x
    · exact (ServoFieldsStay.refl x).flag (hf _ (by simp)) true
  unfold State.beginCheck
  exact (((((hslot s _).trans (hinput _)).flag (hf _ (by simp)) false).flag (hf _ (by simp)) true).setAxChan _ _).setChecking _ _

theorem State.resumeChecks_servoFields (s : State) : ServoFieldsStay s s.resumeChecks := by
  refine ServoFieldsStay.foldl _ (fun s p => ?_) _ s
  split
  · split
    · exact s.beginCheck_servoFields p _
    · exact ServoFieldsStay.refl s
  · exact ServoFieldsStay.refl s

end Sys2Proof.Machine
end

section
/-!
SUPPORT. A loop period of an axis (R188 to R206): what follows on the sample writes neither the other axes nor what was noted of the sample.
-/

namespace Sys2Proof.Machine

/-- What an axis keeps of the samples it got: one to be taken, the instant of the last one, the output latched at it, the last usable value
and the run of unusable ones. -/
def SvAxis.sampled (x : SvAxis) : Option PosSample × Nat × Int × Int × Nat := (x.inbox, x.lastAt, x.uLatched, x.yPrev, x.bad)

/-- From `s` to `x` at most axis `a` changes, and not in what it keeps of its samples. -/
structure AxisKept (a : Nat) (s x : State) : Prop where
  others : ∀ b, b ≠ a → x.axis b = s.axis b
  sampled : (x.axis a).sampled = (s.axis a).sampled

/-- The fields that a loop period writes besides SV_POS and SV_HOLD_CNT. -/
def loopFields (a : Nat) : List Fld :=
  [Reg.SV_AX_STAT_TEST a, Reg.SV_AX_STAT_FORCING a, Reg.SV_AX_STAT_SAT a, Reg.SV_AX_STAT_LOCK a, Reg.SV_AX_STAT_STATE a, Reg.SV_AX_STAT_ERR a,
    Reg.SV_AX_STAT_CFG_ERR a, Reg.SV_AX_STAT_PHASE_SLEW a, Reg.SV_AX_STAT_FORCED_SEEN a, Reg.SV_I_I a, Reg.SV_OUT_U a, Reg.SV_ERR_E a,
    Reg.SV_ERR_CNT_COUNT a, Reg.SV_FORCE_CNT_COUNT a]

/-- A field of the servo that a loop period of axis `a` writes only as it takes the sample. -/
structure Fld.Beside (f : Fld) (a : Nat) : Prop where
  inServo : f.inServo = true
  apart : f.key ∉ (loopFields a).map Fld.key

/-- The sample taken is in `x` as it is in `s`: for the axis and in SV_POS and SV_HOLD_CNT. -/
structure SampleKept (a : Nat) (s x : State) : Prop extends AxisKept a s x where
  fields : ∀ f : Fld, f.Beside a → x.h f = s.h f

theorem pos_beside : ∀ a : Axis, (Reg.SV_POS_Y a).Beside a := fun a => ⟨by revert a; decide, by revert a; decide⟩

theorem holdCnt_beside : ∀ a : Axis, (Reg.SV_HOLD_CNT_COUNT a).Beside a := fun a => ⟨by revert a; decide, by revert a; decide⟩

theorem AxisKept.trans {a : Nat} {s x y : State} (h : AxisKept a s x) (h' : AxisKept a x y) : AxisKept a s y :=
  ⟨fun b hb => (h'.others b hb).trans (h.others b hb), h'.sampled.trans h.sampled⟩

theorem AxisKept.of_sv {a : Nat} {s x : State} (h : x.sv = s.sv) : AxisKept a s x :=
  ⟨fun b _ => State.axis_congr h b, congrArg SvAxis.sampled (State.axis_congr h a)⟩

theorem AxisKept.setAxis {a : Nat} {s x : State} (h : AxisKept a s x) {z : SvAxis} (hz : z.sampled = (x.axis a).sampled) :
    AxisKept a s (x.setAxis a z) :=
  h.trans ⟨fun _ hb => x.axis_setAxis_ne z hb, (congrArg SvAxis.sampled (x.axis_setAxis_same a z)).trans hz⟩

namespace SampleKept

variable {a : Nat} {s x y : State}

theorem refl (a : Nat) (s : State) : SampleKept a s s := ⟨AxisKept.of_sv rfl, fun _ _ => rfl⟩

theorem trans (h : SampleKept a s x) (h' : SampleKept a x y) : SampleKept a s y :=
  ⟨h.toAxisKept.trans h'.toAxisKept, fun f hf => (h'.fields f hf).trans (h.fields f hf)⟩

theorem only (h : SampleKept a s x) (hsv : y.sv = x.sv) (hy : OnlyFields (loopFields a) x y) : SampleKept a s y :=
  h.trans ⟨AxisKept.of_sv hsv, fun f hf => hy f hf.apart⟩

theorem elsewhere (h : SampleKept a s x) (hsv : y.sv = x.sv) (hy : ServoFieldsStay x y) : SampleKept a s y :=
  h.trans ⟨AxisKept.of_sv hsv, fun f hf => hy f hf.inServo⟩

theorem setAxis (h : SampleKept a s x) {z : SvAxis} (hz : z.sampled = (x.axis a).sampled) : SampleKept a s (x.setAxis a z) :=
  h.trans ⟨(AxisKept.of_sv rfl).setAxis hz, fun f _ => x.h_setAxis a z f⟩

theorem setH (h : SampleKept a s x) {g : Fld} (hg : g ∈ loopFields a) (v : Nat) : SampleKept a s (x.setH g v) :=
  h.only rfl (OnlyFields.setH hg x v)

theorem flag (h : SampleKept a s x) {g : Fld} (hg : g ∈ loopFields a) (b : Bool) : SampleKept a s (x.flag g b) :=
  h.only rfl (OnlyFields.flag hg x b)

theorem inc (h : SampleKept a s x) {g : Fld} (hg : g ∈ loopFields a) : SampleKept a s (x.inc g) := h.only rfl (OnlyFields.inc hg x)

theorem raise (h : SampleKept a s x) (e : Ev) (m n : Nat) : SampleKept a s (x.raise e m n) := h.only rfl fun f _ => x.h_raise e m n f

theorem noteAxis (h : SampleKept a s x) (b : Nat) : SampleKept a s (x.noteAxis b) := h.only (by simp) fun f _ => x.h_noteAxis b f

theorem showI (h : SampleKept a s x) : SampleKept a s (x.showI a) := h.setH (by simp [loopFields]) _

end SampleKept

/-! ### Modes and requests (R198, R199, R206) -/

theorem State.injEnd_keeps (s : State) (a : Nat) : SampleKept a s (s.injEnd a) :=
  ((SampleKept.refl a s).setAxis (by rfl)).flag (by simp [loopFields]) false

theorem State.toState_keeps (s : State) (a st : Nat) : SampleKept a s (s.toState a st) := by
  have hmove : SampleKept a s (s.moveState a st) := by
    have hflags := ((s.injEnd_keeps a).flag (g := Reg.SV_AX_STAT_FORCING a) (by simp [loopFields]) false).flag (g := Reg.SV_AX_STAT_SAT a)
      (by simp [loopFields]) false
    unfold State.moveState
    dsimp only
    split
    · exact hflags.setH (by simp [loopFields]) _
    · exact (hflags.flag (by simp [loopFields]) false).setH (by simp [loopFields]) _
  by_cases hst : s.axState a = st
  · rw [State.toState_of_same hst]
    exact (SampleKept.refl a s).noteAxis a
  · rw [State.toState_of_ne hst]
    split
    · exact (hmove.elsewhere (by simp) (State.resumeChecks_servoFields _)).noteAxis a
    · exact hmove.noteAxis a

theorem State.modeRequest_keeps (s : State) (a : Nat) : SampleKept a s (s.modeRequest a) := by
  have hrefuse : SampleKept a s (s.flag (Reg.SV_AX_STAT_CFG_ERR a) true) := (SampleKept.refl a s).flag (by simp [loopFields]) true
  have hacquire {z : SvAxis} (hz : z.sampled = (s.axis a).sampled) :
      SampleKept a s (((s.toState a 2).flag (Reg.SV_AX_STAT_LOCK a) false).setAxis a z) :=
    ((s.toState_keeps a 2).flag (by simp [loopFields]) false).setAxis (hz.trans (s.toState_keeps a 2).sampled.symm)
  have hset {z : SvAxis} (hz : z.sampled = (s.axis a).sampled) : SampleKept a s (s.setAxis a z) := (SampleKept.refl a s).setAxis hz
  unfold State.modeRequest
  dsimp only
  split
  · split
    · exact hset rfl
    · exact hset rfl
  · split
    · exact hrefuse
    · exact (s.toState_keeps a 1).setAxis ((s.toState_keeps a 1).sampled.symm)
  · split
    · exact hrefuse
    · exact hacquire rfl
  · split
    · exact SampleKept.refl a s
    · split
      · exact hrefuse
      · split
        · split
          · exact hrefuse
          · split
            · exact SampleKept.refl a s
            · exact hacquire rfl
        · split
          · exact hset rfl
          · exact hrefuse

/-- The requests for an injection are taken, and a STOP acts. -/
def State.takeInjStop (s : State) (a : Nat) : State :=
  if (s.axis a).injStop then (s.setAxis a { s.axis a with injStart := false, injStop := false }).injEnd a
  else s.setAxis a { s.axis a with injStart := false, injStop := false }

/-- A START acts. -/
def State.beginInj (s : State) (a : Nat) : State :=
  ((s.setAxis a { s.axis a with injK := 0, prbs := 0x7FFF }).flag (Reg.SV_AX_STAT_TEST a) true).aqTrigger (.injection a)

theorem State.injRequests_eq (s : State) (a : Nat) : s.injRequests a =
    if (s.axis a).injStart then
      if ((s.takeInjStop a).axState a = 1 ∨ (s.takeInjStop a).axState a = 3) ∧ (s.takeInjStop a).av a (Reg.SV_INJ_CFG_WAVE a) ≠ 3 then
        (s.takeInjStop a).beginInj a
      else (s.takeInjStop a).flag (Reg.SV_AX_STAT_CFG_ERR a) true
    else s.takeInjStop a := rfl

theorem State.injRequests_keeps (s : State) (a : Nat) : SampleKept a s (s.injRequests a) := by
  have hstop : SampleKept a s (s.takeInjStop a) := by
    unfold State.takeInjStop
    split
    · exact ((SampleKept.refl a s).setAxis (by rfl)).trans (State.injEnd_keeps _ a)
    · exact (SampleKept.refl a s).setAxis (by rfl)
  have hstart (x : State) : SampleKept a x (x.beginInj a) :=
    (((SampleKept.refl a x).setAxis (by rfl)).flag (by simp [loopFields]) true).elsewhere (by simp [State.beginInj]) (State.aqTrigger_servoFields _ _)
  rw [State.injRequests_eq]
  split
  · split
    · exact hstop.trans (hstart _)
    · exact hstop.flag (by simp [loopFields]) true
  · exact hstop

/-- A flyback that no longer fits is shortened, whatever it is cut to. -/
theorem State.fitFlyback_eq (s : State) (a : Nat) : ∃ n, s.fitFlyback a =
    if s.sq.inScan || s.bind a ≠ 2 || !s.flyShortens a || decide ((s.axis a).flyL ≤ n) then s
    else if (s.axis a).flyShort then s.setAxis a { s.axis a with flyL := n, flyShort := true }
    else (s.setAxis a { s.axis a with flyL := n, flyShort := true }).raise .flybackShort a n := ⟨_, rfl⟩

theorem State.movePhase_keeps (s : State) (a : Nat) : SampleKept a s (s.movePhase a) := by
  have hfit : SampleKept a s (s.fitFlyback a) := by
    obtain ⟨n, heq⟩ := s.fitFlyback_eq a
    have hset : SampleKept a s (s.setAxis a { s.axis a with flyL := n, flyShort := true }) := (SampleKept.refl a s).setAxis rfl
    rw [heq]
    split
    · exact SampleKept.refl a s
    · split
      · exact hset
      · exact hset.raise _ _ _
  exact (hfit.setAxis (by rfl)).flag (by simp [loopFields]) _

theorem State.injValue_keeps (s : State) (a : Nat) : SampleKept a s (s.injValue a).2 := by
  unfold State.injValue
  dsimp only
  split
  · exact SampleKept.refl a s
  · exact (SampleKept.refl a s).setAxis rfl

/-! ### The output (R190, R198 to R202) -/

theorem State.judgeErr_keeps (s : State) (a : Nat) : SampleKept a s (s.judgeErr a) := by
  unfold State.judgeErr
  dsimp only
  split
  · exact (((SampleKept.refl a s).flag (by simp [loopFields]) true).inc (by simp [loopFields])).noteAxis a
  · exact ((SampleKept.refl a s).flag (by simp [loopFields]) false).noteAxis a

theorem State.rampDown_keeps (s : State) (a : Nat) : SampleKept a s (s.rampDown a) := by
  unfold State.rampDown
  dsimp only
  split
  · exact ((SampleKept.refl a s).setAxis (by rfl)).trans (State.toState_keeps _ a 0)
  · exact (SampleKept.refl a s).setAxis (by rfl)

theorem State.detectOsc_keeps (s : State) (a : Nat) (e : Int) : SampleKept a s (s.detectOsc a e) := (SampleKept.refl a s).setAxis (by rfl)

theorem State.enterTrack_keeps (s : State) (a : Nat) (x : LoopTerms) (forced : Bool) : SampleKept a s (s.enterTrack a x forced) := by
  have hload (i u limSign : Int) (sat : Bool) : SampleKept a s ((s.toState a 3).loadTrack a i u limSign sat) :=
    (((s.toState_keeps a 3).setAxis (by rfl)).showI).flag (by simp [loopFields]) sat
  have hforce (y : State) : SampleKept a y (y.forceTrack a) :=
    ((((SampleKept.refl a y).flag (by simp [loopFields]) true).inc (by simp [loopFields])).flag (by simp [loopFields]) true).raise _ _ _
  obtain ⟨i, u, limSign, sat, clamped, henter⟩ := s.enterTrack_eq a x forced
  rw [henter]
  split
  · exact ((hload i u limSign sat).trans (hforce _)).trans (State.detectOsc_keeps _ a x.e)
  · exact (hload i u limSign sat).trans (State.detectOsc_keeps _ a x.e)

/-- A period of TRACK, whatever it computes. -/
theorem State.trackPeriod_eq (s : State) (a : Nat) (e ef d : Int) (acc : Rat) (inj : Int) : ∃ z sat, ∃ passed : Nat,
    s.trackPeriod a e ef d acc inj =
      (if passed ≥ 8 then (((s.setAxis a z).showI a).flag (Reg.SV_AX_STAT_SAT a) sat).flag (Reg.SV_AX_STAT_FORCING a) false
      else ((s.setAxis a z).showI a).flag (Reg.SV_AX_STAT_SAT a) sat) ∧ z.sampled = (s.axis a).sampled := ⟨_, _, _, rfl, rfl⟩

theorem State.trackPeriod_keeps (s : State) (a : Nat) (e ef d : Int) (acc : Rat) (inj : Int) : SampleKept a s (s.trackPeriod a e ef d acc inj) := by
  obtain ⟨z, sat, passed, heq, hz⟩ := s.trackPeriod_eq a e ef d acc inj
  have hset : SampleKept a s (((s.setAxis a z).showI a).flag (Reg.SV_AX_STAT_SAT a) sat) :=
    (((SampleKept.refl a s).setAxis hz).showI).flag (by simp [loopFields]) sat
  rw [heq]
  split
  · exact hset.flag (by simp [loopFields]) false
  · exact hset

theorem State.drive_keeps (s : State) (a : Nat) (y inj : Int) : SampleKept a s (s.drive a y inj) := by
  have hacquire : SampleKept a s (s.acquirePeriod a y) := by
    unfold State.acquirePeriod
    dsimp only
    split
    · exact ((SampleKept.refl a s).setAxis (by rfl)).setAxis (by rfl)
    · exact (SampleKept.refl a s).setAxis (by rfl)
  unfold State.drive
  split
  · exact (SampleKept.refl a s).setAxis (by rfl)
  · exact hacquire
  · exact SampleKept.refl a s

theorem State.handOver_keeps (s : State) (a k : Nat) (e d : Int) (acc : Rat) (y inj : Int) : SampleKept a s (s.handOver a k e d acc y inj) := by
  have hset {z : SvAxis} (hz : z.sampled = (s.axis a).sampled) : SampleKept a s (s.setAxis a z) := (SampleKept.refl a s).setAxis hz
  unfold State.handOver
  dsimp only
  split
  · exact (hset (by rfl)).trans (State.enterTrack_keeps _ a _ false)
  · split
    · exact hset (by rfl)
    · exact (hset (by rfl)).trans (State.drive_keeps _ a y inj)

theorem SampleKept.aqServo {a : Nat} {s x : State} (h : SampleKept a s x) (vals : List Int) : SampleKept a s (x.aqServo a vals) :=
  h.elsewhere (by simp) (x.aqServo_servoFields a vals)

end Sys2Proof.Machine
end

section
/-!
SUPPORT. SERVO_SAMPLE (R188, R189, R193): how a loop period begins, and what it does with a usable and with an unusable sample.
-/

namespace Sys2Proof.Machine

/-! ### The period begins (R188, R189) -/

/-- An axis whose sample is taken at an instant: the output computed last is latched. -/
def SvAxis.latch (x : SvAxis) (now : Nat) : SvAxis :=
  { x with inbox := none, lastAt := now, periodAt := now, uLatched := x.u, period := x.period + 1 }

/-- The sample is taken and the latched output shown. -/
def State.latchOutput (s : State) (a : Nat) : State :=
  (s.setAxis a ((s.axis a).latch s.now)).setH (Reg.SV_OUT_U a) (low 20 (satSigned (s.axis a).u))

/-- Writes to the axis take effect (R34), and the loop period that it then has is noted. -/
def State.applyAxis (s : State) (a : Nat) : State :=
  let s := s.applyAt fun r u => decide (r / 65536 = 5) && decide (u = a)
  s.setAxis a { s.axis a with lastT := s.axisT a }

/-- A MODE request, where there is one, and the requests for an injection act; the phase moves on. -/
def State.takeRequests (s : State) (a : Nat) (asked : Bool) : State :=
  ((if asked then s.modeRequest a else s).injRequests a).movePhase a

/-- An unusable sample is counted. -/
def State.skipSample (s : State) (a : Nat) : State :=
  (s.setAxis a { s.axis a with bad := (s.axis a).bad + 1 }).inc (Reg.SV_HOLD_CNT_COUNT a)

theorem State.axisPeriod_eq (s : State) (a : Nat) (q : PosSample) : ∃ asked, s.axisPeriod a (some q) =
    if q.usable then (((s.latchOutput a).applyAxis a).takeRequests a asked).servoPeriod a q.y
    else ((((s.latchOutput a).applyAxis a).takeRequests a asked).skipSample a).heldPeriod a := ⟨_, rfl⟩

theorem State.applyAxis_keeps (s : State) (a : Nat) : AxisKept a s (s.applyAxis a) := (AxisKept.of_sv (by simp)).setAxis (by rfl)

theorem State.takeRequests_keeps (s : State) (a : Nat) (asked : Bool) : SampleKept a s (s.takeRequests a asked) := by
  have hmode : SampleKept a s (if asked then s.modeRequest a else s) := by
    split
    · exact s.modeRequest_keeps a
    · exact SampleKept.refl a s
  unfold State.takeRequests
  exact (hmode.trans (State.injRequests_keeps _ a)).trans (State.movePhase_keeps _ a)

theorem State.latchOutput_fields (s : State) (a : Nat) : OnlyFields (loopFields a) s (s.latchOutput a) :=
  ((OnlyFields.refl _ s).then_setAxis a _).then_setH (by simp [loopFields]) _

theorem State.axis_latchOutput (s : State) (a : Nat) : (s.latchOutput a).axis a = (s.axis a).latch s.now := s.axis_setAxis_same a _

theorem State.axis_latchOutput_ne (s : State) {a b : Nat} (h : b ≠ a) : (s.latchOutput a).axis b = s.axis b := s.axis_setAxis_ne _ h

theorem State.latchOutput_frame (s : State) (a : Nat) :
    (s.latchOutput a).sq = s.sq ∧ (s.latchOutput a).fd = s.fd ∧ (s.latchOutput a).tl = s.tl := by
  unfold State.latchOutput
  simp

/-! ### A usable sample (R190 to R202) -/

/-- The position and the error are noted and shown. -/
def State.recordSample (s : State) (a : Nat) (y e : Int) : State :=
  ((s.setAxis a { s.axis a with yPrev := y, bad := 0, e := e }).setH (Reg.SV_POS_Y a) (low 20 y)).setH (Reg.SV_ERR_E a) (low 20 (satSigned e))

/-- What a period with a usable sample does with the output (Table 7.2); `ax` and `st` are the axis and its state as the sample came, `add` is
what an injection at the output adds in TRACK. -/
def State.moveOutput (s : State) (a : Nat) (ax : SvAxis) (st : Nat) (y e d inj add : Int) (acc : Rat) : State :=
  if s.ramps a then s.rampDown a
  else if st = 3 then
    let fl := s.filters a ax.f0 ax.f1 e
    ((s.setAxis a { s.axis a with f0 := fl.1, f1 := fl.2.1 }).trackPeriod a e fl.2.2 d acc add).detectOsc a e
  else
    match ax.hover with
    | none => s.drive a y inj
    | some k => s.handOver a (k + 1) e d acc y inj

theorem State.moveOutput_keeps (s : State) (a : Nat) (ax : SvAxis) (st : Nat) (y e d inj add : Int) (acc : Rat) :
    SampleKept a s (s.moveOutput a ax st y e d inj add acc) := by
  unfold State.moveOutput
  dsimp only
  split
  · exact s.rampDown_keeps a
  · split
    · exact (((SampleKept.refl a s).setAxis (by rfl)).trans (State.trackPeriod_keeps _ a e _ d acc add)).trans (State.detectOsc_keeps _ a e)
    · split
      · exact s.drive_keeps a y inj
      · exact s.handOver_keeps a _ e d acc y inj

theorem State.servoPeriod_eq (s : State) (a : Nat) (y : Int) : ∃ ax st e d inj add acc vals, s.servoPeriod a y =
    ((((s.injValue a).2.recordSample a y e).judgeErr a).moveOutput a ax st y e d inj add acc).aqServo a vals := by
  unfold State.servoPeriod State.moveOutput State.recordSample
  exact ⟨_, _, _, _, _, _, _, _, rfl⟩

theorem State.servoPeriod_keeps (s : State) (a : Nat) (y : Int) : ∃ e, SampleKept a ((s.injValue a).2.recordSample a y e) (s.servoPeriod a y) := by
  obtain ⟨ax, st, e, d, inj, add, acc, vals, heq⟩ := s.servoPeriod_eq a y
  rw [heq]
  exact ⟨e, ((State.judgeErr_keeps _ a).trans (State.moveOutput_keeps _ a ax st y e d inj add acc)).aqServo vals⟩

theorem State.h_recordSample_pos (s : State) (a : Axis) (y e : Int) : (s.recordSample a y e).h (Reg.SV_POS_Y a) = low 20 y := by
  have hne : ∀ a : Axis, (Reg.SV_POS_Y a).key ≠ (Reg.SV_ERR_E a).key := by decide
  have hlow : low 20 y ≤ (Reg.SV_POS_Y a).top := by
    simp only [low, Fld.top, Reg.SV_POS_Y]
    omega
  unfold State.recordSample
  rw [State.h_setH_ne _ _ _ _ (hne a), State.h_setH_same, Nat.min_eq_left hlow]

theorem State.axis_recordSample (s : State) (a : Nat) (y e : Int) :
    (s.recordSample a y e).axis a = { s.axis a with yPrev := y, bad := 0, e := e } := by
  rw [State.recordSample, State.axis_setH, State.axis_setH, State.axis_setAxis_same]

theorem State.axis_recordSample_ne (s : State) {a b : Nat} (y e : Int) (h : b ≠ a) : (s.recordSample a y e).axis b = s.axis b := by
  rw [State.recordSample, State.axis_setH, State.axis_setH, State.axis_setAxis_ne _ _ h]

/-! ### An unusable sample (R193) -/

theorem State.axis_skipSample (s : State) (a : Nat) : (s.skipSample a).axis a = { s.axis a with bad := (s.axis a).bad + 1 } := by
  rw [State.skipSample, State.axis_inc, State.axis_setAxis_same]

theorem State.axis_skipSample_ne (s : State) {a b : Nat} (h : b ≠ a) : (s.skipSample a).axis b = s.axis b := by
  rw [State.skipSample, State.axis_inc, State.axis_setAxis_ne _ _ h]

theorem State.h_skipSample_count (s : State) (a : Nat) : (s.skipSample a).h (Reg.SV_HOLD_CNT_COUNT a)
    = min (s.h (Reg.SV_HOLD_CNT_COUNT a) + 1) (Reg.SV_HOLD_CNT_COUNT a).top := by
  rw [State.skipSample, State.h_inc_same, State.h_setAxis]

theorem State.h_skipSample_pos (s : State) (a : Axis) : (s.skipSample a).h (Reg.SV_POS_Y a) = s.h (Reg.SV_POS_Y a) := by
  have hne : ∀ a : Axis, (Reg.SV_POS_Y a).key ≠ (Reg.SV_HOLD_CNT_COUNT a).key := by decide
  rw [State.skipSample, State.h_inc_ne _ _ _ (hne a), State.h_setAxis]

theorem State.skipSample_frame (s : State) (a : Nat) : (s.skipSample a).sq = s.sq ∧ (s.skipSample a).fd = s.fd ∧ (s.skipSample a).tl = s.tl := by
  unfold State.skipSample
  simp

theorem State.heldPeriod_keeps (s : State) (a : Nat) : SampleKept a s (s.heldPeriod a) := by
  have hramp (x : State) : SampleKept a x (if x.ramps a then x.rampDown a else x) := by
    split
    · exact x.rampDown_keeps a
    · exact SampleKept.refl a x
  unfold State.heldPeriod
  exact ((((s.injValue_keeps a).trans (State.judgeErr_keeps _ a)).setAxis (by rfl)).trans (hramp _)).aqServo _

theorem State.injValue_frame (s : State) (a : Nat) : (s.injValue a).2.sq = s.sq ∧ (s.injValue a).2.fd = s.fd ∧ (s.injValue a).2.tl = s.tl := by
  unfold State.injValue
  dsimp only
  split <;> simp

theorem State.heldPeriod_frame (s : State) (a : Nat) : (s.heldPeriod a).sq = s.sq ∧ (s.heldPeriod a).fd = s.fd ∧ (s.heldPeriod a).tl = s.tl := by
  unfold State.heldPeriod
  simp [s.injValue_frame a]

theorem State.takeRequests_frame (s : State) (a : Nat) (asked : Bool) :
    (s.takeRequests a asked).sq = s.sq ∧ (s.takeRequests a asked).fd = s.fd ∧ (s.takeRequests a asked).tl = s.tl := by
  unfold State.takeRequests
  cases asked <;> simp

theorem State.settleStop_of_none {s : State} (h : s.sq.closeDue = false) : s.settleStop = s := if_neg (by simp [h])

/-- Where no write waits and none is kept from before a SWAP, no write takes effect as the period begins. -/
theorem State.applyAxis_of_none {s : State} (hw : s.regs.waiting = []) (hs : s.regs.stale = []) (a : Nat) :
    s.applyAxis a = s.setAxis a { s.axis a with lastT := s.axisT a } := by
  rw [State.applyAxis, State.applyAt_of_none hw hs]

/-! ### The whole period -/

/-- What an axis keeps of its samples, by its parts. -/
theorem SvAxis.sampled_eq_iff (x : SvAxis) (inbox : Option PosSample) (lastAt : Nat) (uLatched yPrev : Int) (bad : Nat) :
    x.sampled = (inbox, lastAt, uLatched, yPrev, bad) ↔
      x.inbox = inbox ∧ x.lastAt = lastAt ∧ x.uLatched = uLatched ∧ x.yPrev = yPrev ∧ x.bad = bad := by
  simp [SvAxis.sampled]

/-- As the sample is looked at, the axis has taken it and latched its output, and the other axes are as before. -/
theorem State.begun_keeps (s : State) (a : Nat) (asked : Bool) :
    ((((s.latchOutput a).applyAxis a).takeRequests a asked).axis a).sampled
        = (none, s.now, (s.axis a).u, (s.axis a).yPrev, (s.axis a).bad)
      ∧ ∀ b, b ≠ a → (((s.latchOutput a).applyAxis a).takeRequests a asked).axis b = s.axis b := by
  have hkept := ((s.latchOutput a).applyAxis_keeps a).trans (((s.latchOutput a).applyAxis a).takeRequests_keeps a asked).toAxisKept
  refine ⟨hkept.sampled.trans ?_, fun b hb => (hkept.others b hb).trans (s.axis_latchOutput_ne hb)⟩
  rw [State.axis_latchOutput]
  rfl

theorem State.axisPeriod_usable (s : State) (a : Axis) {q : PosSample} (hq : q.usable = true) :
    ((s.axisPeriod a (some q)).axis a).sampled = (none, s.now, (s.axis a).u, q.y, 0)
      ∧ (∀ b, b ≠ a.val → (s.axisPeriod a (some q)).axis b = s.axis b) ∧ (s.axisPeriod a (some q)).h (Reg.SV_POS_Y a) = low 20 q.y := by
  obtain ⟨asked, heq⟩ := s.axisPeriod_eq a q
  rw [if_pos hq] at heq
  rw [heq]
  obtain ⟨hsampled, hothers⟩ := s.begun_keeps a asked
  generalize ((s.latchOutput a).applyAxis a).takeRequests a asked = y at *
  obtain ⟨e, hkept⟩ := y.servoPeriod_keeps a q.y
  have hinj := y.injValue_keeps a
  refine ⟨hkept.sampled.trans ?sampled, fun b hb => ?others, (hkept.fields _ (pos_beside a)).trans (State.h_recordSample_pos _ a q.y e)⟩
  case sampled =>
    rw [State.axis_recordSample, SvAxis.sampled_eq_iff]
    obtain ⟨hinbox, hlast, hu, -, -⟩ := (SvAxis.sampled_eq_iff _ _ _ _ _ _).mp (hinj.sampled.trans hsampled)
    exact ⟨hinbox, hlast, hu, rfl, rfl⟩
  case others => rw [hkept.others b hb, State.axis_recordSample_ne _ _ _ hb, hinj.others b hb, hothers b hb]

theorem State.axisPeriod_unusable (s : State) (a : Axis) {q : PosSample} (hq : q.usable = false) :
    ((s.axisPeriod a (some q)).axis a).sampled = (none, s.now, (s.axis a).u, (s.axis a).yPrev, (s.axis a).bad + 1)
      ∧ ∀ b, b ≠ a.val → (s.axisPeriod a (some q)).axis b = s.axis b := by
  obtain ⟨asked, heq⟩ := s.axisPeriod_eq a q
  rw [if_neg (by simp [hq])] at heq
  rw [heq]
  obtain ⟨hsampled, hothers⟩ := s.begun_keeps a asked
  generalize ((s.latchOutput a).applyAxis a).takeRequests a asked = y at *
  have hkept := (y.skipSample a).heldPeriod_keeps a
  refine ⟨hkept.sampled.trans ?sampled, fun b hb => ?others⟩
  case sampled =>
    rw [State.axis_skipSample, SvAxis.sampled_eq_iff]
    obtain ⟨hinbox, hlast, hu, hprev, hbad⟩ := (SvAxis.sampled_eq_iff _ _ _ _ _ _).mp hsampled
    exact ⟨hinbox, hlast, hu, hprev, congrArg (· + 1) hbad⟩
  case others => rw [hkept.others b hb, State.axis_skipSample_ne _ hb, hothers b hb]

/-- Without a write that takes effect, a period with an unusable sample counts it and leaves SV_POS, Shepherd, Fold and the tiles. -/
theorem State.axisPeriod_held {s : State} (a : Axis) {q : PosSample} (hw : s.regs.waiting = []) (hs : s.regs.stale = []) (hq : q.usable = false) :
    (s.axisPeriod a (some q)).h (Reg.SV_HOLD_CNT_COUNT a)
        = min (s.h (Reg.SV_HOLD_CNT_COUNT a) + 1) (Reg.SV_HOLD_CNT_COUNT a).top
      ∧ (s.axisPeriod a (some q)).h (Reg.SV_POS_Y a) = s.h (Reg.SV_POS_Y a) ∧ (s.axisPeriod a (some q)).sq = s.sq
      ∧ (s.axisPeriod a (some q)).fd = s.fd ∧ (s.axisPeriod a (some q)).tl = s.tl := by
  obtain ⟨asked, heq⟩ := s.axisPeriod_eq a q
  rw [if_neg (by simp [hq]), State.applyAxis_of_none (s := s.latchOutput a) hw hs] at heq
  rw [heq]
  have hbegun (f : Fld) (hf : f.Beside a) :
      (((s.latchOutput a).setAxis a { (s.latchOutput a).axis a with lastT := (s.latchOutput a).axisT a }).takeRequests a asked).h f = s.h f :=
    ((State.takeRequests_keeps _ a asked).fields f hf).trans (s.latchOutput_fields a f hf.apart)
  obtain ⟨hsq₀, hfd₀, htl₀⟩ := s.latchOutput_frame a
  obtain ⟨hsq, hfd, htl⟩ :=
    ((s.latchOutput a).setAxis a { (s.latchOutput a).axis a with lastT := (s.latchOutput a).axisT a }).takeRequests_frame a asked
  generalize ((s.latchOutput a).setAxis a { (s.latchOutput a).axis a with lastT := (s.latchOutput a).axisT a }).takeRequests a asked = y at *
  have hkept := (y.skipSample a).heldPeriod_keeps a
  obtain ⟨hsq', hfd', htl'⟩ := y.skipSample_frame a
  obtain ⟨hsq'', hfd'', htl''⟩ := (y.skipSample a).heldPeriod_frame a
  refine ⟨?_, ?_, hsq''.trans (hsq'.trans (hsq.trans hsq₀)), hfd''.trans (hfd'.trans (hfd.trans hfd₀)), htl''.trans (htl'.trans (htl.trans htl₀))⟩
  · rw [hkept.fields _ (holdCnt_beside a), State.h_skipSample_count, hbegun _ (holdCnt_beside a)]
  · rw [hkept.fields _ (pos_beside a), State.h_skipSample_pos, hbegun _ (pos_beside a)]

/-! ### SERVO_SAMPLE -/

/-- SERVO_SAMPLE with a sample is a period of the axis, after which a stop of firing is settled. -/
theorem Yields.of_servoSample {t : Nat} {a : Axis} {p : PosSample} {s : State} {P : State → Prop} (hr : s.phase = .ready)
    (hp : (s.axis a).inbox = some p) (h : P (s.keep t ((s.clock t).axisPeriod a (some p)).settleStop)) : Yields (.servoSample t a) s P := by
  have hp' : ((s.clock t).axis a).inbox = some p := hp
  have hstep : execServoSample t a s = .next (s.keep t ((s.clock t).axisPeriod a (some p)).settleStop) := by
    rw [execServoSample, State.runAt, s.run_ready t _ hr]
    simp only [hp']
  exact ⟨_, hstep, h⟩

theorem servoSample_takes (t : Nat) (a : Axis) (p : PosSample) (s : State) (hr : s.phase = .ready) (_ : s.sq.closeDue = false)
    (hp : (s.axis a).inbox = some p) : Yields (.servoSample t a) s fun x =>
      (x.axis a).inbox = none ∧ (x.axis a).uLatched = (s.axis a).u ∧ (x.axis a).lastAt = max s.now t
        ∧ (∀ b, b ≠ a.val → x.axis b = s.axis b) := by
  have hspec : ∃ y n, (((s.clock t).axisPeriod a (some p)).axis a).sampled = (none, max s.now t, (s.axis a).u, y, n)
      ∧ ∀ b, b ≠ a.val → ((s.clock t).axisPeriod a (some p)).axis b = s.axis b := by
    cases hq : p.usable with
    | true =>
      obtain ⟨hsampled, hothers, -⟩ := (s.clock t).axisPeriod_usable a hq
      exact ⟨_, _, hsampled, hothers⟩
    | false =>
      obtain ⟨hsampled, hothers⟩ := (s.clock t).axisPeriod_unusable a hq
      exact ⟨_, _, hsampled, hothers⟩
  obtain ⟨y, n, hsampled, hothers⟩ := hspec
  obtain ⟨hinbox, hlast, hu, -, -⟩ := (SvAxis.sampled_eq_iff _ _ _ _ _ _).mp hsampled
  refine Yields.of_servoSample hr hp ?_
  generalize (s.clock t).axisPeriod a (some p) = x at *
  have hsettled (b : Nat) : (s.keep t x.settleStop).axis b = x.axis b := State.axis_congr (by simp) b
  rw [hsettled]
  exact ⟨hinbox, hu, hlast, fun b hb => (hsettled b).trans (hothers b hb)⟩

theorem servoSample_usable (t : Nat) (a : Axis) (p : PosSample) (s : State) (hr : s.phase = .ready) (_ : s.sq.closeDue = false)
    (hp : (s.axis a).inbox = some p) (hq : p.usable = true) : Yields (.servoSample t a) s fun x =>
      x.h (Reg.SV_POS_Y a) = low 20 p.y ∧ (x.axis a).yPrev = p.y ∧ (x.axis a).bad = 0 := by
  obtain ⟨hsampled, -, hpos⟩ := (s.clock t).axisPeriod_usable a hq
  obtain ⟨-, -, -, hprev, hbad⟩ := (SvAxis.sampled_eq_iff _ _ _ _ _ _).mp hsampled
  refine Yields.of_servoSample hr hp ?_
  generalize (s.clock t).axisPeriod a (some p) = x at *
  have hsettled : (s.keep t x.settleStop).axis a = x.axis a := State.axis_congr (by simp) a
  have hfield : (s.keep t x.settleStop).h (Reg.SV_POS_Y a) = x.h (Reg.SV_POS_Y a) := x.settleStop_servoFields _ (pos_beside a).inServo
  rw [hsettled, hfield]
  exact ⟨hpos, hprev, hbad⟩

theorem servoSample_unusable (t : Nat) (a : Axis) (p : PosSample) (s : State) (hr : s.phase = .ready) (hclose : s.sq.closeDue = false)
    (hw : s.regs.waiting = []) (hs : s.regs.stale = []) (hp : (s.axis a).inbox = some p) (hq : p.usable = false) :
    Yields (.servoSample t a) s fun x =>
      x.h (Reg.SV_HOLD_CNT_COUNT a) = min (s.h (Reg.SV_HOLD_CNT_COUNT a) + 1) (Reg.SV_HOLD_CNT_COUNT a).top
        ∧ x.h (Reg.SV_POS_Y a) = s.h (Reg.SV_POS_Y a) ∧ (x.axis a).yPrev = (s.axis a).yPrev ∧ x.sq = s.sq ∧ x.fd = s.fd ∧ x.tl = s.tl := by
  obtain ⟨hsampled, -⟩ := (s.clock t).axisPeriod_unusable a hq
  obtain ⟨-, -, -, hprev, -⟩ := (SvAxis.sampled_eq_iff _ _ _ _ _ _).mp hsampled
  obtain ⟨hcount, hpos, hsq, hfd, htl⟩ := State.axisPeriod_held (s := s.clock t) a hw hs hq
  refine Yields.of_servoSample hr hp ?_
  generalize (s.clock t).axisPeriod a (some p) = x at *
  have hclose' : x.sq.closeDue = false := (congrArg Shepherd.closeDue hsq).trans hclose
  rw [State.settleStop_of_none hclose']
  exact ⟨hcount, hpos, hprev, hsq, hfd, htl⟩

end Sys2Proof.Machine

namespace Sys2Proof
open Machine

/-- Settles O28: what follows on the sample in a period keeps what was noted of it (servoPeriod_keeps, heldPeriod_keeps), and a stop of firing
that a write brought with it writes no field of the servo (settleStop_servoFields). -/
theorem servoSamplesAreTaken : Obligations.ServoSamplesAreTaken := by
  unfold Obligations.ServoSamplesAreTaken
  exact ⟨servoSample_takes, servoSample_usable, servoSample_unusable⟩

end Sys2Proof
end

section
/-!
SUPPORT. A switch of an excitation source by a live write that is a mismatch and stops firing, with a fold interval open (R130, R225, R430).
-/

namespace Sys2Proof.Machine

/-- Firing is on with no shot cycle running, the interval of pixel 5 is open, and its channel has noted shot 1 as having crossed HT; outside a
live window a write to the level of IEX0 waits, on which no channel depends (CF_CRC_CFG.STOP_FIRE is 1 from reset). -/
def switchMismatch : State :=
  let s := (State.reset.setH Reg.SQ_STAT_RUN 1).setChan 5 { htSeqs := [1] }
  { s with
    phase := .ready
    regs := { s.regs with waiting := [⟨Reg.AX_IEX 0, 20, 0, [0], [0]⟩] }
    sq := { s.sq with inScan := true }
    fd := { s.fd with pix := ⟨[(5, { live := true, isOpen := true, cur := { n := 1, seqs := [1] } })]⟩ } }

theorem switchDue_switchMismatch : switchMismatch.switchDue 0 = true := by decide

/-- The write takes effect as a mismatch, which stops firing at once; the interval of pixel 5 closes, and its channel begins the next one. -/
theorem htSeqs_excitationSwitch_switchMismatch :
    ∃ x, exec (.excitationSwitch 500 0) switchMismatch = .next x ∧ (x.chan 5).htSeqs = [] :=
  ⟨_, rfl, rfl⟩

theorem htSeqs_switchMismatch : (switchMismatch.chan 5).htSeqs = [1] := rfl

end Sys2Proof.Machine

namespace Sys2Proof
open Machine

/-- Refutes O31, in its clause on EXCITATION_SWITCH: the tiles need not stay. No stop of firing waits in `switchMismatch`, but the switch itself
makes one (R430), and the intervals that it closes (R130) end those of their channels. -/
theorem not_convertersReact : ¬ Obligations.ConvertersReact := by
  unfold Obligations.ConvertersReact
  rintro ⟨-, -, sourceSwitches, -⟩
  obtain ⟨x, hx, -, tilesStay, -⟩ := sourceSwitches 500 0 switchMismatch rfl rfl switchDue_switchMismatch
  obtain ⟨y, hy, cleared⟩ := htSeqs_excitationSwitch_switchMismatch
  obtain rfl : x = y := Host.Outcome.next.inj (hx.symm.trans hy)
  have kept : (x.chan 5).htSeqs = [1] := (congrArg ChanState.htSeqs (State.chan_congr tilesStay 5)).trans htSeqs_switchMismatch
  exact absurd (kept.symm.trans cleared) (by decide)

end Sys2Proof
end

section
/-!
SUPPORT. Converter channels and pairs (R214, R230 to R233): what a read returns after a write, what the settings in use and the place of a
channel in a scan depend on, and how waiting checks go on.
-/

namespace Sys2Proof.Machine

/-! ### A channel, or the check on a pair, is written -/

@[simp] theorem State.axChan_setAxChan_same (s : State) (c : Nat) (x : AxChan) : (s.setAxChan c x).axChan c = x := by
  simp [State.axChan, State.setAxChan]

theorem State.axChan_setAxChan_ne (s : State) {c d : Nat} (x : AxChan) (h : d ≠ c) : (s.setAxChan c x).axChan d = s.axChan d := by
  simp [State.axChan, State.setAxChan, Tab.get_set_ne _ _ _ _ h]

@[simp] theorem State.zCheck_setChecking_same (s : State) (p : Nat) (z : Option ZCheck) : (s.setChecking p z).zCheck p = z := by
  simp [State.zCheck, State.setChecking]

@[simp] theorem State.h_setAxChan (s : State) (c : Nat) (x : AxChan) (f : Fld) : (s.setAxChan c x).h f = s.h f := rfl

@[simp] theorem State.h_setChecking (s : State) (p : Nat) (z : Option ZCheck) (f : Fld) : (s.setChecking p z).h f = s.h f := rfl

theorem State.axChan_congr {s x : State} (h : x.ax = s.ax) (c : Nat) : x.axChan c = s.axChan c := by
  simp only [State.axChan, h]

theorem State.zCheck_congr {s x : State} (h : x.ax.check = s.ax.check) (p : Nat) : x.zCheck p = s.zCheck p := by
  simp only [State.zCheck, h]

theorem State.checking_congr {s x : State} (h : x.ax.check = s.ax.check) (p : Nat) : x.checking p = s.checking p := by
  rw [State.checking, State.checking, State.zCheck_congr h]

theorem State.setAxChan_untouched (s : State) (c : Nat) (x : AxChan) : Untouched [.converters] s (s.setAxChan c x) := by
  intro g hg
  cases g <;> simp [Group.same] at hg ⊢

theorem State.beginCheck_untouched (s : State) (p c : Nat) : Untouched [.fields, .converters] s (s.beginCheck p c) := by
  intro g hg
  cases g <;> simp [Group.same] at hg ⊢

theorem State.restart_untouched (s : State) (p c at_ : Nat) : Untouched [.fields, .converters] s (s.restart p c at_) := by
  intro g hg
  cases g <;> simp [Group.same] at hg ⊢

/-- A change of a channel that leaves one of its parts leaves that part of every channel. -/
theorem State.axChan_setAxChan_part {α : Type} (part : AxChan → α) (s : State) (c : Nat) {z : AxChan} (hz : part z = part (s.axChan c)) (d : Nat) :
    part ((s.setAxChan c z).axChan d) = part (s.axChan d) := by
  by_cases h : d = c
  · rw [h, State.axChan_setAxChan_same, hz]
  · rw [State.axChan_setAxChan_ne _ _ h]

/-! ### The other channels of a scan lose their next output (R231) -/

theorem State.check_loseNext (s : State) (p c : Nat) : (s.loseNext p c).ax.check = s.ax.check := by
  refine foldl_inv (fun s => s.ax.check) _ _ s fun s d => ?_
  dsimp only
  split <;> rfl

theorem State.axChan_loseNext_self (s : State) (p c : Nat) : (s.loseNext p c).axChan c = s.axChan c := by
  refine foldl_inv (fun s => s.axChan c) _ _ s fun s d => ?_
  dsimp only
  split
  · rfl
  · next h => exact State.axChan_setAxChan_ne _ _ (Ne.symm h)

theorem State.zWait_loseNext (s : State) (p c d : Nat) : ((s.loseNext p c).axChan d).zWait = (s.axChan d).zWait := by
  refine foldl_inv (fun s => (s.axChan d).zWait) _ _ s fun s e => ?_
  dsimp only
  split
  · rfl
  · exact State.axChan_setAxChan_part AxChan.zWait _ e (by rfl) d

/-! ### The settings in use -/

/-- What every unit uses of the configuration sets is in `x` as in `s`. -/
structure SettingsStay (s x : State) : Prop where
  setA : x.regs.setA = s.regs.setA
  setB : x.regs.setB = s.regs.setB
  waiting : x.regs.waiting = s.regs.waiting
  stale : x.regs.stale = s.regs.stale
  active : x.h Reg.CF_STAT_ACTIVE = s.h Reg.CF_STAT_ACTIVE

theorem SettingsStay.of_regs {s x : State} (h : x.regs = s.regs) : SettingsStay s x :=
  ⟨by rw [h], by rw [h], by rw [h], by rw [h], State.h_congr h _⟩

theorem SettingsStay.trans {s x y : State} (h : SettingsStay s x) (h' : SettingsStay x y) : SettingsStay s y :=
  ⟨h'.setA.trans h.setA, h'.setB.trans h.setB, h'.waiting.trans h.waiting, h'.stale.trans h.stale, h'.active.trans h.active⟩

theorem SettingsStay.flag (s : State) {f : Fld} (hf : Reg.CF_STAT_ACTIVE.key ≠ f.key) (b : Bool) : SettingsStay s (s.flag f b) :=
  ⟨rfl, rfl, rfl, rfl, s.h_flag_ne f _ b hf⟩

theorem SettingsStay.use {s x : State} (h : SettingsStay s x) (u a : Nat) : x.use u a = s.use u a := by
  have hactive : x.activeB = s.activeB := congrArg (fun n => decide (n = 1)) h.active
  simp only [State.use, State.act, hactive, h.setA, h.setB, h.waiting, h.stale]

theorem SettingsStay.fu {s x : State} (h : SettingsStay s x) (u : Nat) (f : Fld) : x.fu u f = s.fu u f := by
  rw [State.fu, State.fu, h.use]

/-! ### The place of a channel in a scan (R214) -/

/-- The settings in use are in `x` as in `s`, and the same pairs run. -/
structure ScansStay (s x : State) : Prop extends SettingsStay s x where
  runs : ∀ p, x.pairRuns p = s.pairRuns p

theorem ScansStay.of_regs {s x : State} (h : x.regs = s.regs) : ScansStay s x :=
  ⟨SettingsStay.of_regs h, fun _ => congrArg (· == 1) (State.h_congr h _)⟩

/-- Fields at different bits of their registers are different fields. -/
theorem Fld.key_ne_of_lo {f g : Fld} (h : (f.lo % 32 == g.lo % 32) = false) : f.key ≠ g.key := by
  rw [beq_eq_false_iff_ne] at h
  simp only [Fld.key]
  omega

/-- A field at another bit than CF_STAT.ACTIVE and AX_PAIR_STAT.RUNNING is none of them. -/
theorem ScansStay.flag (s : State) {f : Fld} (hf : (0 == f.lo % 32) = false) (b : Bool) : ScansStay s (s.flag f b) :=
  ⟨SettingsStay.flag s (Fld.key_ne_of_lo hf) b, fun _ => congrArg (· == 1) (s.h_flag_ne f _ b (Fld.key_ne_of_lo hf))⟩

theorem ScansStay.firstSlot {s x : State} (h : ScansStay s x) (c : Nat) : x.firstSlot c = s.firstSlot c := by
  simp only [State.firstSlot, State.nslot, State.slotChan, h.fu]

theorem ScansStay.convertedBy {s x : State} (h : ScansStay s x) (c : Nat) : x.convertedBy c = s.convertedBy c := by
  simp only [State.convertedBy, h.firstSlot, h.runs, h.fu]

theorem ScansStay.scanChans {s x : State} (h : ScansStay s x) (p : Nat) : x.scanChans p = s.scanChans p := by
  have hslot : x.slotChan p = s.slotChan p := funext fun k => h.fu p _
  simp only [State.scanChans, State.nslot, hslot, h.fu]

/-- Whether a scan serves an axis depends on the settings and on the states of the axes. -/
theorem ScansStay.scanServes {s x : State} (h : ScansStay s x) (hservo : ServoFieldsStay s x) (p : Nat) : x.scanServes p = s.scanServes p := by
  have hstate : ∀ a ∈ [0, 1, 2, 3], x.h (Reg.SV_AX_STAT_STATE a) = s.h (Reg.SV_AX_STAT_STATE a) := by
    intro a ha
    refine hservo _ ?_
    revert a
    decide
  simp only [List.mem_cons, List.not_mem_nil, or_false, forall_eq_or_imp, forall_eq] at hstate
  obtain ⟨h0, h1, h2, h3⟩ := hstate
  simp only [State.scanServes, h.scanChans, h.fu, List.any_cons, List.any_nil, h0, h1, h2, h3]

theorem State.convertedBy_lt {s : State} {c : AxCh} {p : Nat} (h : s.convertedBy c = some p) : c.val ∈ s.converted := by
  simp [State.converted, h]

/-! ### Checks that wait for their pair (R233) -/

/-- No channel waits for a check. -/
def State.NoneWaits (s : State) : Prop := ∀ d, (s.axChan d).zWait = false

/-- The check that waits for pair `p`. -/
def State.nextCheck (s : State) (p : Nat) : Option Nat := s.converted.find? fun c => (s.axChan c).zWait && s.convertedBy c == some p

/-- The check that waits for pair `p` begins, where nothing holds the pair. -/
def State.resumeCheck (s : State) (p : Nat) : State :=
  match s.nextCheck p with
  | some c => if (s.zCheck p).isNone && !s.inCalSlot p && !s.scanServes p then s.beginCheck p c else s
  | none => s

theorem State.resumeChecks_eq (s : State) : s.resumeChecks = [0, 1, 2, 3].foldl State.resumeCheck s := rfl

theorem State.NoneWaits.resumeCheck {s : State} (h : s.NoneWaits) (p : Nat) : s.resumeCheck p = s := by
  have hnone : s.nextCheck p = none := by simp [State.nextCheck, h _]
  rw [State.resumeCheck, hnone]

theorem State.NoneWaits.resumeChecks {s : State} (h : s.NoneWaits) : s.resumeChecks = s := by
  rw [State.resumeChecks_eq]
  exact List.foldl_fixed' h.resumeCheck _

theorem State.NoneWaits.congr {s x : State} (h : s.NoneWaits) (hx : ∀ d, (x.axChan d).zWait = (s.axChan d).zWait) : x.NoneWaits :=
  fun d => (hx d).trans (h d)

/-- Where channel `c` of pair `p` alone waits, it is what waits for `p`, and nothing waits for another pair. -/
theorem State.nextCheck_of_only {s : State} {c : AxCh} {p : Nat} (hconv : s.convertedBy c = some p) (hwait : (s.axChan c).zWait = true)
    (honly : ∀ d, d ≠ c.val → (s.axChan d).zWait = false) (q : Nat) : s.nextCheck q = if q = p then some c.val else none := by
  split
  · next h =>
    have hfound : ∀ d ∈ s.nextCheck q, d = c.val := by
      intro d hd
      have hd' := List.find?_some hd
      simp only [Bool.and_eq_true] at hd'
      by_contra hne
      rw [honly d hne] at hd'
      exact absurd hd'.1 (by decide)
    have hsome : (s.nextCheck q).isSome := by
      rw [State.nextCheck, List.find?_isSome]
      exact ⟨c, State.convertedBy_lt hconv, by simp [hwait, hconv, h]⟩
    obtain ⟨d, hd⟩ := Option.isSome_iff_exists.mp hsome
    rw [hd, hfound d hd]
  · next h =>
    refine List.find?_eq_none.mpr fun d _ hd => ?_
    simp only [Bool.and_eq_true, beq_iff_eq] at hd
    by_cases hdc : d = c.val
    · rw [hdc, hconv] at hd
      exact h (Option.some.inj hd.2).symm
    · rw [honly d hdc] at hd
      exact absurd hd.1 (by decide)

/-- Where the pairs besides `p` do nothing before and after it, only its turn counts. -/
theorem foldl_pairs_of_only {f : State → Nat → State} {s : State} (p : Pair) (hbefore : ∀ q, q ≠ p.val → f s q = s)
    (hafter : ∀ q, q ≠ p.val → f (f s p) q = f s p) : [0, 1, 2, 3].foldl f s = f s p := by
  fin_cases p <;> simp_all [List.foldl_cons]

/-- A check that alone waits begins where nothing holds its pair. -/
theorem State.resumeChecks_of_only {s : State} {c : AxCh} {p : Pair} (hconv : s.convertedBy c = some p.val) (hwait : (s.axChan c).zWait = true)
    (honly : ∀ d, d ≠ c.val → (s.axChan d).zWait = false) (hcheck : s.zCheck p = none) (hcal : s.inCalSlot p = false)
    (hserves : s.scanServes p = false) (hbegun : (s.beginCheck p c).NoneWaits) : s.resumeChecks = s.beginCheck p c := by
  have hnext := State.nextCheck_of_only hconv hwait honly
  have hbegins : s.resumeCheck p = s.beginCheck p c := by
    simp [State.resumeCheck, hnext p, hcheck, hcal, hserves]
  rw [State.resumeChecks_eq, foldl_pairs_of_only p, hbegins]
  · intro q hq
    rw [State.resumeCheck, hnext q, if_neg hq]
  · intro q _
    rw [hbegins]
    exact hbegun.resumeCheck q

/-- A check that alone waits goes on waiting while its pair serves an axis. -/
theorem State.resumeChecks_of_serving {s : State} {c : AxCh} {p : Pair} (hconv : s.convertedBy c = some p.val)
    (hwait : (s.axChan c).zWait = true) (honly : ∀ d, d ≠ c.val → (s.axChan d).zWait = false) (hserves : s.scanServes p = true) :
    s.resumeChecks = s := by
  rw [State.resumeChecks_eq]
  refine List.foldl_fixed' (fun q => ?_) _
  rw [State.resumeCheck, State.nextCheck_of_only hconv hwait honly q]
  by_cases hq : q = p.val
  · simp [hq, hserves]
  · simp [hq]

end Sys2Proof.Machine
end

section
/-!
SUPPORT. Impedance checks (R230 to R233): one that falls due begins or is deferred, and one whose tone has ended shows what it found.
-/

namespace Sys2Proof.Machine

/-! ### A check falls due (R230, R233) -/

/-- A check of a channel is due, PER seconds after the last. -/
def State.checkDue (s : State) (c : Nat) : Bool :=
  (s.axChan c).zAt.all fun x => decide (x + min 60 (s.fu c (Reg.AX_ZCHK_PER c)) * lsbS ≤ s.now)

/-- The check of a channel waits for its pair. -/
def State.awaitCheck (s : State) (c : Nat) : State := s.setAxChan c { s.axChan c with zAt := some s.now, zWait := true }

/-- A check that falls due on a channel of pair `p`. -/
def State.checkFallsDue (s : State) (c p : Nat) : State :=
  let s := s.awaitCheck c
  let s := if s.scanServes p then s.flag (Reg.AX_STAT_CHK_DEFER c) true else s
  s.resumeChecks

theorem Yields.of_impedanceCheckStart {t : Nat} {c : AxCh} {p : Pair} {s : State} {P : State → Prop} (hr : s.phase = .ready)
    (hconv : s.convertedBy c = some p.val) (hper : s.fu c (Reg.AX_ZCHK_PER c) ≠ 0) (hdue : (s.clock t).checkDue c = true)
    (hcheck : s.checking p = none) (h : P (s.keep t ((s.clock t).checkFallsDue c p))) : Yields (.impedanceCheckStart t c) s P := by
  have hconv' : (s.clock t).convertedBy c = some p.val := hconv
  have hstart : ¬ (min 60 ((s.clock t).fu c (Reg.AX_ZCHK_PER c)) = 0 ∨ (s.clock t).checkDue c = false
      ∨ (s.clock t).checking p = some c.val) := by
    have hper' : (s.clock t).fu c (Reg.AX_ZCHK_PER c) ≠ 0 := hper
    have hcheck' : (s.clock t).checking p = none := hcheck
    rw [hdue, hcheck']
    simp [hper']
  have hstep : execImpedanceCheckStart t c s = .next (s.keep t ((s.clock t).checkFallsDue c p)) := by
    rw [execImpedanceCheckStart, s.run_ready t _ hr]
    simp only [hconv']
    exact congrArg (fun x => Host.Outcome.next (s.keep t x)) (if_neg hstart)
  exact ⟨_, hstep, h⟩

theorem State.checkDue_clock {s : State} {t c : Nat}
    (h : ∀ x ∈ (s.axChan c).zAt, x + min 60 (s.fu c (Reg.AX_ZCHK_PER c)) * lsbS ≤ max s.now t) : (s.clock t).checkDue c = true := by
  have hper : (s.clock t).fu c (Reg.AX_ZCHK_PER c) = s.fu c (Reg.AX_ZCHK_PER c) := State.fu_congr rfl _ _
  have hzat : ((s.clock t).axChan c).zAt = (s.axChan c).zAt := rfl
  rw [State.checkDue, hper, hzat, State.clock_now]
  cases hz : (s.axChan c).zAt with
  | none => rfl
  | some n =>
    rw [Option.all_some]
    exact decide_eq_true (h n hz)

/-- After a channel's check has begun to wait, it is the one that waits. -/
theorem State.NoneWaits.awaitCheck {s : State} (h : s.NoneWaits) (c : Nat) :
    ((s.awaitCheck c).axChan c).zWait = true ∧ ∀ d, d ≠ c → ((s.awaitCheck c).axChan d).zWait = false := by
  unfold State.awaitCheck
  refine ⟨by rw [State.axChan_setAxChan_same], fun d hd => ?_⟩
  rw [State.axChan_setAxChan_ne _ _ hd, h d]

/-! ### A check begins (R230, R231) -/

/-- The pair goes over to the slot of the channel. -/
def State.enterSlot (s : State) (p c : Nat) : State :=
  match s.firstSlot c with
  | some y => if y.2 = s.h (Reg.AX_PAIR_STAT_SLOT p) then s else (s.setH (Reg.AX_PAIR_STAT_SLOT p) y.2).setSlotAt p s.now
  | none => s

/-- An invalid input of the channel is noted (R212). -/
def State.noteInput (s : State) (c : Nat) : State := if s.inputOk c then s else s.flag (Reg.AX_STAT_CFG_ERR c) true

/-- The pair holds the channel in its slot. -/
def State.holdSlot (s : State) (p c : Nat) : State := (s.enterSlot p c).noteInput c

/-- The tone of a check of channel `c` that begins now. -/
def State.tone (s : State) (c : Nat) : ZCheck :=
  let fast := s.fu c (Reg.AX_ZCHK_FREQ c) == 1
  { chan := c, ends := s.now + (if fast then 1600 else 16000) * lsbUs, hz := if fast then 10000 else 1000
    peak := if s.fu c (Reg.AX_ZCHK_AMP c) = 1 then 10 else 1 }

/-- The flags of a channel whose check begins. -/
def State.showCheck (s : State) (c : Nat) : State :=
  (s.flag (Reg.AX_STAT_CHK_DEFER c) false).flag (Reg.AX_STAT_CHK c) true

theorem State.beginCheck_eq (s : State) (p c : Nat) : s.beginCheck p c =
    (((s.holdSlot p c).showCheck c).setAxChan c { (s.holdSlot p c).axChan c with zWait := false }).setChecking p (some (s.tone c)) := rfl

theorem State.axChan_holdSlot (s : State) (p c d : Nat) : (s.holdSlot p c).axChan d = s.axChan d := by
  have hnote (x : State) : (x.noteInput c).axChan d = x.axChan d := by
    unfold State.noteInput
    split <;> rfl
  have henter : (s.enterSlot p c).axChan d = s.axChan d := by
    unfold State.enterSlot
    split
    · split <;> rfl
    · rfl
  exact (hnote _).trans henter

theorem State.h_showCheck (s : State) (c : Nat) :
    (s.showCheck c).h (Reg.AX_STAT_CHK c) = 1 ∧ (s.showCheck c).h (Reg.AX_STAT_CHK_DEFER c) = 0 := by
  have hne : (Reg.AX_STAT_CHK_DEFER c).key ≠ (Reg.AX_STAT_CHK c).key := Fld.key_ne_of_lo rfl
  refine ⟨State.h_flag_same _ _ _, ?_⟩
  rw [State.showCheck, State.h_flag_ne _ _ _ _ hne, State.h_flag_same]
  exact Nat.zero_min _

/-- What a check that begins shows, and what the pair holds. -/
theorem State.beginCheck_spec (s : State) (p c : Nat) :
    (s.beginCheck p c).zCheck p = some (s.tone c) ∧ (s.beginCheck p c).h (Reg.AX_STAT_CHK c) = 1
      ∧ (s.beginCheck p c).h (Reg.AX_STAT_CHK_DEFER c) = 0 := by
  obtain ⟨hchk, hdefer⟩ := (s.holdSlot p c).h_showCheck c
  rw [State.beginCheck_eq]
  refine ⟨State.zCheck_setChecking_same _ _ _, ?_, ?_⟩
  · rw [State.h_setChecking, State.h_setAxChan, hchk]
  · rw [State.h_setChecking, State.h_setAxChan, hdefer]

/-- The channel that begins its check waits no longer. -/
theorem State.noneWaits_beginCheck {s : State} {c : Nat} (honly : ∀ d, d ≠ c → (s.axChan d).zWait = false) (p : Nat) :
    (s.beginCheck p c).NoneWaits := by
  intro d
  have hset (x : State) (z : ZCheck) : (x.setChecking p (some z)).axChan d = x.axChan d := rfl
  have hshow (x : State) : (x.showCheck c).axChan d = x.axChan d := rfl
  rw [State.beginCheck_eq, hset]
  by_cases hd : d = c
  · rw [hd, State.axChan_setAxChan_same]
  · rw [State.axChan_setAxChan_ne _ _ hd, hshow, State.axChan_holdSlot, honly d hd]

/-! ### What IMPEDANCE_CHECK_START leaves -/

theorem State.awaitCheck_regs (s : State) (c : Nat) : (s.awaitCheck c).regs = s.regs := by simp [State.awaitCheck]

theorem State.checkFallsDue_begins {s : State} {c : AxCh} {p : Pair} (hconv : s.convertedBy c = some p.val) (hcheck : s.checking p = none)
    (hnone : s.NoneWaits) (hcal : s.inCalSlot p = false) (hserves : s.scanServes p = false) :
    s.checkFallsDue c p = (s.awaitCheck c).beginCheck p c := by
  have hscan : ScansStay s (s.awaitCheck c) := ScansStay.of_regs (s.awaitCheck_regs c)
  have hserves' : (s.awaitCheck c).scanServes p = false :=
    (hscan.scanServes (ServoFieldsStay.of_regs (s.awaitCheck_regs c)) p).trans hserves
  have hz : (s.awaitCheck c).zCheck p = none := Option.map_eq_none_iff.mp hcheck
  obtain ⟨hwait, honly⟩ := hnone.awaitCheck c
  unfold State.checkFallsDue
  simp only [hserves', Bool.false_eq_true, if_false]
  exact State.resumeChecks_of_only ((hscan.convertedBy c).trans hconv) hwait honly hz hcal hserves' (State.noneWaits_beginCheck honly p)

theorem State.checkFallsDue_deferred {s : State} {c : AxCh} {p : Pair} (hconv : s.convertedBy c = some p.val)
    (hnone : s.NoneWaits) (hserves : s.scanServes p = true) :
    s.checkFallsDue c p = (s.awaitCheck c).flag (Reg.AX_STAT_CHK_DEFER c) true := by
  have hscan : ScansStay s (s.awaitCheck c) := ScansStay.of_regs (s.awaitCheck_regs c)
  have hservo := ServoFieldsStay.of_regs (s.awaitCheck_regs c)
  have hserves' : (s.awaitCheck c).scanServes p = true := (hscan.scanServes hservo p).trans hserves
  have hflag := ScansStay.flag (s.awaitCheck c) (f := Reg.AX_STAT_CHK_DEFER c) rfl true
  have hservo' := (ServoFieldsStay.refl (s.awaitCheck c)).flag (checkFields_not_inServo 0 c (Reg.AX_STAT_CHK_DEFER c) (by simp)) true
  obtain ⟨hwait, honly⟩ := hnone.awaitCheck c
  unfold State.checkFallsDue
  simp only [hserves', if_true]
  exact State.resumeChecks_of_serving ((hflag.convertedBy c).trans ((hscan.convertedBy c).trans hconv)) hwait honly
    ((hflag.scanServes hservo' p).trans hserves')

theorem impedanceCheckStart_begins (t : Nat) (c : AxCh) (p : Pair) (s : State) (hr : s.phase = .ready) (hconv : s.convertedBy c = some p.val)
    (hper : s.fu c (Reg.AX_ZCHK_PER c) ≠ 0)
    (hdue : ∀ x ∈ (s.axChan c).zAt, x + min 60 (s.fu c (Reg.AX_ZCHK_PER c)) * lsbS ≤ max s.now t) (hcheck : s.checking p = none)
    (hnone : ∀ d, (s.axChan d).zWait = false) (hcal : s.inCalSlot p = false) (hserves : s.scanServes p = false) :
    Yields (.impedanceCheckStart t c) s fun x =>
      (∃ z, x.zCheck p = some z ∧ z.chan = c.val ∧ z.ends = max s.now t + (if s.fu c (Reg.AX_ZCHK_FREQ c) = 1 then 1600 else 16000) * lsbUs)
        ∧ x.h (Reg.AX_STAT_CHK c) = 1 ∧ x.h (Reg.AX_STAT_CHK_DEFER c) = 0 ∧ Frame t [.fields, .converters] s x := by
  have heq := State.checkFallsDue_begins (s := s.clock t) hconv hcheck hnone hcal hserves
  refine Yields.of_impedanceCheckStart hr hconv hper (State.checkDue_clock hdue) hcheck ?_
  rw [heq]
  obtain ⟨hz, hchk, hdefer⟩ := ((s.clock t).awaitCheck c).beginCheck_spec p c
  have hfreq : ((s.clock t).awaitCheck c).fu c (Reg.AX_ZCHK_FREQ c) = s.fu c (Reg.AX_ZCHK_FREQ c) :=
    State.fu_congr ((s.clock t).awaitCheck_regs c) _ _
  refine ⟨⟨_, hz, rfl, ?_⟩, hchk, hdefer, Frame.of_untouched ?_⟩
  · simp only [State.tone, hfreq, beq_iff_eq]
    rfl
  · exact (State.setAxChan_untouched _ _ _).mono.trans (State.beginCheck_untouched _ p c)

theorem impedanceCheckStart_deferred (t : Nat) (c : AxCh) (p : Pair) (s : State) (hr : s.phase = .ready) (hconv : s.convertedBy c = some p.val)
    (hper : s.fu c (Reg.AX_ZCHK_PER c) ≠ 0)
    (hdue : ∀ x ∈ (s.axChan c).zAt, x + min 60 (s.fu c (Reg.AX_ZCHK_PER c)) * lsbS ≤ max s.now t) (hcheck : s.checking p = none)
    (hnone : ∀ d, (s.axChan d).zWait = false) (hserves : s.scanServes p = true) :
    Yields (.impedanceCheckStart t c) s fun x => x.h (Reg.AX_STAT_CHK_DEFER c) = 1 ∧ x.checking p = none
      ∧ OnlyFields [Reg.AX_STAT_CHK_DEFER c] s x ∧ Frame t [.fields, .converters] s x := by
  have heq := State.checkFallsDue_deferred (s := s.clock t) hconv hnone hserves
  refine Yields.of_impedanceCheckStart hr hconv hper (State.checkDue_clock hdue) hcheck ?_
  rw [heq]
  have honly : OnlyFields [Reg.AX_STAT_CHK_DEFER c] s ((s.clock t).awaitCheck c) := OnlyFields.of_regs ((s.clock t).awaitCheck_regs c)
  exact ⟨State.h_flag_same _ _ _, hcheck, honly.then_flag (by simp) true,
    Frame.of_untouched ((State.setAxChan_untouched _ _ _).mono.trans (State.flag_untouched _ _ _).mono)⟩

/-! ### A check is over (R231, R232) -/

/-- A condition of channel `c` sets its flag and is reported. -/
def State.reportIf (s : State) (b : Bool) (f : Fld) (e : Ev) (c n : Nat) : State := if b then (s.flag f true).raise e c n else s

/-- Whether the last check of a channel found it open or shorted is kept (R232). -/
def State.noteFail (s : State) (c : Nat) (b : Bool) : State := s.setAxChan c { s.axChan c with fail := b }

/-- What a check of a channel found is shown and reported. -/
def State.showImpedance (s : State) (c ohm : Nat) (opened shorted : Bool) : State :=
  (((s.setH (Reg.AX_Z_Z c) ohm).reportIf opened (Reg.AX_STAT_OPEN c) .sensorOpen c (satScore (ohm / 1000))).reportIf shorted
    (Reg.AX_STAT_SHORT c) .sensorShort c (satScore ohm)).noteFail c (opened || shorted)

/-- The check of a channel on pair `p` ends with a result. -/
def State.checkEnds (s : State) (c p ohm : Nat) (opened shorted : Bool) : State :=
  let s := s.showImpedance c ohm opened shorted
  (s.restart p c s.now).resumeChecks

/-- What IMPEDANCE_CHECK_END does to a running die. -/
def State.endTone (s : State) (c : AxCh) (nanovolt : Nat) : State :=
  match [0, 1, 2, 3].find? fun p => s.checking p == some c.val with
  | none => s
  | some p =>
    match s.zCheck p with
    | none => s
    | some z =>
      if s.now < z.ends then s
      else
        s.checkEnds c p (zOhm nanovolt z.peak) (decide (zOhm nanovolt z.peak > s.fu c (Reg.AX_ZMAX_ZMAX c)))
          (decide (zOhm nanovolt z.peak < s.fu c (Reg.AX_ZCHK_ZMIN c)))

theorem execImpedanceCheckEnd_eq (t : Nat) (c : AxCh) (n : Nat) (s : State) :
    execImpedanceCheckEnd t c n s = s.run t fun s => s.endTone c n := by
  unfold execImpedanceCheckEnd State.endTone State.checkEnds State.showImpedance State.noteFail State.reportIf
  rfl

/-- The pair that checks a channel is found, where it alone does. -/
theorem find_pair_of_only {f : Nat → Bool} (p : Pair) (hp : f p = true) (hother : ∀ q, q ≠ p.val → f q = false) :
    [0, 1, 2, 3].find? f = some p.val := by
  fin_cases p <;> simp_all

theorem State.endTone_of_ended {s : State} {c : AxCh} {p : Pair} {z : ZCheck} (n : Nat) (hz : s.zCheck p = some z) (hchan : z.chan = c.val)
    (hends : z.ends ≤ s.now) (hother : ∀ q, q ≠ p.val → s.checking q ≠ some c.val) : s.endTone c n =
      s.checkEnds c p (zOhm n z.peak) (decide (zOhm n z.peak > s.fu c (Reg.AX_ZMAX_ZMAX c)))
        (decide (zOhm n z.peak < s.fu c (Reg.AX_ZCHK_ZMIN c))) := by
  have hfind : ([0, 1, 2, 3].find? fun q => s.checking q == some c.val) = some p.val :=
    find_pair_of_only p (by simp [State.checking, hz, hchan]) fun q hq => by simpa using hother q hq
  rw [State.endTone, hfind]
  simp only [hz]
  rw [if_neg (Nat.not_lt.mpr hends)]

/-! ### What is shown of a check -/

theorem State.reportIf_untouched (s : State) (b : Bool) (f : Fld) (e : Ev) (c n : Nat) :
    Untouched [.fields, .events] s (s.reportIf b f e c n) := by
  unfold State.reportIf
  split
  · exact (s.flag_untouched f true).mono.trans (State.raise_untouched _ e c n).mono
  · exact Untouched.refl _ s

theorem State.h_reportIf_ne (s : State) (b : Bool) (f : Fld) (e : Ev) (c n : Nat) {g : Fld} (h : g.key ≠ f.key) :
    (s.reportIf b f e c n).h g = s.h g := by
  unfold State.reportIf
  split
  · exact s.h_flag_ne f g true h
  · rfl

theorem State.h_reportIf_same (s : State) {b : Bool} (hb : b = true) (f : Fld) (e : Ev) (c n : Nat) :
    (s.reportIf b f e c n).h f = min 1 f.top := by
  rw [State.reportIf, if_pos hb]
  exact s.h_flag_same f true

theorem State.showImpedance_untouched (s : State) (c ohm : Nat) (opened shorted : Bool) :
    Untouched [.fields, .converters, .events] s (s.showImpedance c ohm opened shorted) :=
  (((s.setH_untouched _ ohm).mono.trans (State.reportIf_untouched _ _ _ _ _ _).mono).trans
    (State.reportIf_untouched _ _ _ _ _ _).mono).trans (State.setAxChan_untouched _ c _).mono

theorem State.h_showImpedance (s : State) (c ohm : Nat) (opened shorted : Bool) :
    (s.showImpedance c ohm opened shorted).h (Reg.AX_Z_Z c) = min ohm (Reg.AX_Z_Z c).top
      ∧ (opened = true → (s.showImpedance c ohm opened shorted).h (Reg.AX_STAT_OPEN c) = 1)
      ∧ (shorted = true → (s.showImpedance c ohm opened shorted).h (Reg.AX_STAT_SHORT c) = 1) := by
  have hfail (x : State) (f : Fld) : (x.noteFail c (opened || shorted)).h f = x.h f := rfl
  unfold State.showImpedance
  simp only [hfail]
  refine ⟨?z, fun h => ?opened, fun h => State.h_reportIf_same _ h _ _ _ _⟩
  case z =>
    rw [State.h_reportIf_ne _ _ _ _ _ _ (Fld.key_ne_of_lo rfl), State.h_reportIf_ne _ _ _ _ _ _ (Fld.key_ne_of_lo rfl), State.h_setH_same]
  case opened =>
    rw [State.h_reportIf_ne _ _ _ _ _ _ (Fld.key_ne_of_lo rfl)]
    exact State.h_reportIf_same _ h _ _ _ _

/-- What a check found is noted at its channel; no check begins to wait or ends there. -/
theorem State.ax_showImpedance (s : State) (c ohm : Nat) (opened shorted : Bool) :
    ((s.showImpedance c ohm opened shorted).axChan c).fail = (opened || shorted)
      ∧ (s.showImpedance c ohm opened shorted).ax.check = s.ax.check
      ∧ ∀ d, ((s.showImpedance c ohm opened shorted).axChan d).zWait = (s.axChan d).zWait := by
  have hreport (x : State) (b : Bool) (f : Fld) (e : Ev) (n : Nat) : (x.reportIf b f e c n).ax = x.ax := by
    unfold State.reportIf
    split <;> rfl
  have hshown := (hreport _ shorted (Reg.AX_STAT_SHORT c) .sensorShort (satScore ohm)).trans
    (hreport (s.setH (Reg.AX_Z_Z c) ohm) opened (Reg.AX_STAT_OPEN c) .sensorOpen (satScore (ohm / 1000)))
  unfold State.showImpedance
  generalize ((s.setH (Reg.AX_Z_Z c) ohm).reportIf opened _ _ c _).reportIf shorted _ _ c _ = x at hshown
  have hwait (d : Nat) : (x.axChan d).zWait = (s.axChan d).zWait := congrArg AxChan.zWait (State.axChan_congr hshown d)
  have hcheck : x.ax.check = s.ax.check := by rw [hshown, State.setH_ax]
  refine ⟨by rw [State.noteFail, State.axChan_setAxChan_same], hcheck, fun d => ?_⟩
  exact (State.axChan_setAxChan_part AxChan.zWait x c (by rfl) d).trans (hwait d)

/-! ### The restart that ends a check (R220, R231) -/

/-- A channel's decimators restart at an instant. -/
def State.renew (s : State) (p c at_ : Nat) : State :=
  s.setAxChan c { s.axChan c with
    prim := {}, sec := {}, primFrom := at_, secFrom := at_, settle := s.settleCount p, nextUnset := false, ovr := none, restartAtSlot := false
    synced := false }

theorem State.restart_eq (s : State) (p c at_ : Nat) :
    s.restart p c at_ = (if s.checking p = some c then s.endCheck p else s).renew p c at_ := rfl

theorem State.endCheck_of_checking {s : State} {p c : Nat} (h : s.checking p = some c) :
    s.endCheck p = ((s.setChecking p none).flag (Reg.AX_STAT_CHK c) false).loseNext p c := by
  rw [State.endCheck, h]

theorem State.endCheck_of_none {s : State} {p : Nat} (h : s.checking p = none) : s.endCheck p = s := by
  rw [State.endCheck, h]

theorem State.zWait_endCheck (s : State) (p d : Nat) : ((s.endCheck p).axChan d).zWait = (s.axChan d).zWait := by
  cases h : s.checking p with
  | none => rw [State.endCheck_of_none h]
  | some c => rw [State.endCheck_of_checking h, State.zWait_loseNext]; rfl

theorem State.zWait_restart (s : State) (p c at_ d : Nat) : ((s.restart p c at_).axChan d).zWait = (s.axChan d).zWait := by
  rw [State.restart_eq]
  refine (State.axChan_setAxChan_part AxChan.zWait _ c (by rfl) d).trans ?_
  split
  · exact s.zWait_endCheck p d
  · rfl

/-- A restart of the channel that a pair checks ends the check. -/
theorem State.restart_of_checking {s : State} {p c : Nat} (h : s.checking p = some c) (at_ : Nat) :
    (s.restart p c at_).checking p = none ∧ (s.restart p c at_).h (Reg.AX_STAT_CHK c) = 0
      ∧ ((s.restart p c at_).axChan c).fail = (s.axChan c).fail := by
  have hflag : ((s.setChecking p none).flag (Reg.AX_STAT_CHK c) false).checking p = none := by
    have hz : (s.setChecking p none).checking p = none := by simp [State.checking]
    exact hz
  rw [State.restart_eq, if_pos h, State.endCheck_of_checking h]
  refine ⟨?_, ?_, ?_⟩
  · exact (State.checking_congr (State.check_loseNext _ p c) p).trans hflag
  · have hregs := (State.loseNext_frame ((s.setChecking p none).flag (Reg.AX_STAT_CHK c) false) p c).2.2.2.2.2.2.1
    exact (State.h_congr hregs _).trans (State.h_flag_same _ _ _)
  · refine (State.axChan_setAxChan_part AxChan.fail _ c (by rfl) c).trans ?_
    rw [State.axChan_loseNext_self]
    rfl

/-- Every other field is as it was. -/
theorem State.h_restart_ne (s : State) (p c at_ : Nat) {f : Fld} (hf : f.key ≠ (Reg.AX_STAT_CHK c).key) : (s.restart p c at_).h f = s.h f := by
  rw [State.restart_eq]
  split
  · next h =>
    have hregs := (State.loseNext_frame ((s.setChecking p none).flag (Reg.AX_STAT_CHK c) false) p c).2.2.2.2.2.2.1
    rw [State.endCheck_of_checking h]
    exact (State.h_congr hregs f).trans (State.h_flag_ne _ _ _ _ hf)
  · rfl

theorem impedanceCheckEnd_yields (t : Nat) (c : AxCh) (n : Nat) (p : Pair) (z : ZCheck) (s : State) (hr : s.phase = .ready)
    (hz : s.zCheck p = some z) (hchan : z.chan = c.val) (hends : z.ends ≤ max s.now t) (hother : ∀ q, q ≠ p.val → s.checking q ≠ some c.val)
    (hnone : ∀ d, (s.axChan d).zWait = false) : Yields (.impedanceCheckEnd t c n) s fun x =>
      x.h (Reg.AX_Z_Z c) = min (zOhm n z.peak) (Reg.AX_Z_Z c).top ∧ x.checking p = none ∧ x.h (Reg.AX_STAT_CHK c) = 0
        ∧ (s.fu c (Reg.AX_ZMAX_ZMAX c) < zOhm n z.peak → x.h (Reg.AX_STAT_OPEN c) = 1)
        ∧ (zOhm n z.peak < s.fu c (Reg.AX_ZCHK_ZMIN c) → x.h (Reg.AX_STAT_SHORT c) = 1)
        ∧ (x.axChan c).fail = (decide (s.fu c (Reg.AX_ZMAX_ZMAX c) < zOhm n z.peak) || decide (zOhm n z.peak < s.fu c (Reg.AX_ZCHK_ZMIN c)))
        ∧ Frame t [.fields, .converters, .events] s x := by
  refine Yields.of_run (execImpedanceCheckEnd t c n) hr rfl (execImpedanceCheckEnd_eq t c n s) ?_
  have hmax : (s.clock t).fu c (Reg.AX_ZMAX_ZMAX c) = s.fu c (Reg.AX_ZMAX_ZMAX c) := State.fu_congr rfl _ _
  have hmin : (s.clock t).fu c (Reg.AX_ZCHK_ZMIN c) = s.fu c (Reg.AX_ZCHK_ZMIN c) := State.fu_congr rfl _ _
  rw [State.endTone_of_ended (s := s.clock t) n hz hchan hends hother, hmax, hmin]
  generalize zOhm n z.peak = ohm
  generalize hopened : decide (ohm > s.fu c (Reg.AX_ZMAX_ZMAX c)) = opened
  generalize hshorted : decide (ohm < s.fu c (Reg.AX_ZCHK_ZMIN c)) = shorted
  obtain ⟨hohm, hopen, hshort⟩ := (s.clock t).h_showImpedance c ohm opened shorted
  obtain ⟨hfail, hcheck, hwait⟩ := (s.clock t).ax_showImpedance c ohm opened shorted
  have hshown := (s.clock t).showImpedance_untouched c ohm opened shorted
  unfold State.checkEnds
  generalize (s.clock t).showImpedance c ohm opened shorted = y at *
  have hmine : y.checking p = some c.val := by
    rw [State.checking_congr hcheck]
    simp [State.checking, State.zCheck_congr (s := s) (x := s.clock t) rfl, hz, hchan]
  obtain ⟨hfree, hchk, hkept⟩ := State.restart_of_checking hmine y.now
  have hnone' : (y.restart p c y.now).NoneWaits := fun d => (y.zWait_restart p c y.now d).trans ((hwait d).trans (hnone d))
  dsimp only
  rw [hnone'.resumeChecks]
  refine ⟨(y.h_restart_ne p c y.now (Fld.key_ne_of_lo rfl)).trans hohm, hfree, hchk, fun h => ?_, fun h => ?_, hkept.trans hfail,
    Frame.of_untouched (hshown.mono.trans (y.restart_untouched p c y.now).mono)⟩
  · exact (y.h_restart_ne p c y.now (Fld.key_ne_of_lo rfl)).trans (hopen (hopened ▸ decide_eq_true h))
  · exact (y.h_restart_ne p c y.now (Fld.key_ne_of_lo rfl)).trans (hshort (hshorted ▸ decide_eq_true h))

end Sys2Proof.Machine

namespace Sys2Proof
open Machine

/-- Settles O32: a check that alone waits begins, or stays deferred, by what holds its pair (resumeChecks_of_only, resumeChecks_of_serving); the
restart that follows on a result ends the check and leaves what was shown of it (restart_of_checking, h_restart_ne). -/
theorem impedanceChecks : Obligations.ImpedanceChecks := by
  unfold Obligations.ImpedanceChecks
  exact ⟨impedanceCheckStart_begins, impedanceCheckStart_deferred, impedanceCheckEnd_yields⟩

end Sys2Proof
end

section
/-!
SUPPORT. The output of a slot (R212 to R237, R471): what delivering it writes besides the place of the pair's scan, and what it leaves alone
where no write waits and no check runs or waits.
-/

namespace Sys2Proof.Machine

/-- A field that is neither the slot in progress of pair `p` nor the choice of the active set. -/
def Fld.Apart (p : Pair) (f : Fld) : Prop := (Reg.AX_PAIR_STAT_SLOT p).key ≠ f.key ∧ Reg.CF_STAT_ACTIVE.key ≠ f.key

/-- The fields of the converter channels and of the blocks above lie apart. -/
theorem Fld.Apart.of_le (p : Pair) {f : Fld} (h : 0x60100 ≤ f.addr) : f.Apart p := by
  have hslot : (Reg.AX_PAIR_STAT_SLOT p).key < 0x60100 * 32 := by
    simp only [Fld.key, Reg.AX_PAIR_STAT_SLOT, Reg.AX_PAIR_STAT]
    omega
  have hactive : Reg.CF_STAT_ACTIVE.key < 0x60100 * 32 := by decide
  have hkey : 0x60100 * 32 ≤ f.key := by
    simp only [Fld.key]
    omega
  exact ⟨(hslot.trans_le hkey).ne, (hactive.trans_le hkey).ne⟩

theorem captureFields_apart : ∀ p : Pair, ∀ f ∈ captureFields, f.Apart p := by
  unfold Fld.Apart
  decide +kernel

theorem pairCfgErr_apart (p : Pair) : (Reg.AX_PAIR_STAT_CFG_ERR p).Apart p := by
  revert p
  unfold Fld.Apart
  decide

theorem rampField_apart : ∀ p : Pair, Reg.TH_CAL_STAT_RAMP.Apart p := by
  unfold Fld.Apart
  decide

/-- The settings in use, the slot in progress of pair `p`, the checks on the pairs and whether a channel waits for one are in `x` as in `s`. -/
structure SlotKept (p : Pair) (s x : State) : Prop extends SettingsStay s x where
  slot : x.h (Reg.AX_PAIR_STAT_SLOT p) = s.h (Reg.AX_PAIR_STAT_SLOT p)
  check : x.ax.check = s.ax.check
  zWait : ∀ d, (x.axChan d).zWait = (s.axChan d).zWait

namespace SlotKept

variable {p : Pair} {s x y : State}

theorem refl (p : Pair) (s : State) : SlotKept p s s := ⟨SettingsStay.of_regs rfl, rfl, rfl, fun _ => rfl⟩

theorem trans (h : SlotKept p s x) (h' : SlotKept p x y) : SlotKept p s y :=
  ⟨h.toSettingsStay.trans h'.toSettingsStay, h'.slot.trans h.slot, h'.check.trans h.check, fun d => (h'.zWait d).trans (h.zWait d)⟩

theorem of_parts (hregs : x.regs = s.regs) (hax : x.ax = s.ax) : SlotKept p s x :=
  ⟨SettingsStay.of_regs hregs, State.h_congr hregs _, congrArg Converters.check hax, fun d => congrArg AxChan.zWait (State.axChan_congr hax d)⟩

/-- An operation that writes fields apart from the slot, and neither the sets nor the converters. -/
theorem of_only {l : List Fld} (hl : ∀ f ∈ l, f.Apart p) (h : OnlyFields l s x) (hA : x.regs.setA = s.regs.setA)
    (hB : x.regs.setB = s.regs.setB) (hwaiting : x.regs.waiting = s.regs.waiting) (hstale : x.regs.stale = s.regs.stale)
    (hax : x.ax = s.ax) : SlotKept p s x := by
  have hslot : (Reg.AX_PAIR_STAT_SLOT p).key ∉ l.map Fld.key := by
    intro hm
    obtain ⟨f, hf, he⟩ := List.mem_map.mp hm
    exact (hl f hf).1 he.symm
  have hactive : Reg.CF_STAT_ACTIVE.key ∉ l.map Fld.key := by
    intro hm
    obtain ⟨f, hf, he⟩ := List.mem_map.mp hm
    exact (hl f hf).2 he.symm
  exact ⟨⟨hA, hB, hwaiting, hstale, h _ hactive⟩, h _ hslot, congrArg Converters.check hax,
    fun d => congrArg AxChan.zWait (State.axChan_congr hax d)⟩

theorem setH (h : SlotKept p s x) {f : Fld} (hf : f.Apart p) (v : Nat) : SlotKept p s (x.setH f v) :=
  h.trans (of_only (l := [f]) (by simpa using hf) (OnlyFields.setH (by simp) x v) rfl rfl rfl rfl rfl)

theorem note (h : SlotKept p s x) (f : Fld) (v : Nat) : SlotKept p s (x.note f v) :=
  h.trans (of_only (l := []) (by simp) (fun _ _ => rfl) rfl rfl rfl rfl rfl)

theorem flag (h : SlotKept p s x) {f : Fld} (hf : f.Apart p) (b : Bool) : SlotKept p s (x.flag f b) := (h.note f _).setH hf _

theorem inc (h : SlotKept p s x) {f : Fld} (hf : f.Apart p) : SlotKept p s (x.inc f) := (h.note f _).setH hf _

theorem orBit (h : SlotKept p s x) {f : Fld} (hf : f.Apart p) (i : Nat) : SlotKept p s (x.orBit f i) := (h.note f _).setH hf _

theorem clrBit (h : SlotKept p s x) {f : Fld} (hf : f.Apart p) (i : Nat) : SlotKept p s (x.clrBit f i) := h.setH hf _

theorem raiseSev (h : SlotKept p s x) (e : Ev) (v : Sev) (a b : Nat) : SlotKept p s (x.raiseSev e v a b) := h.trans (of_parts rfl rfl)

theorem setAxChan (h : SlotKept p s x) {c : Nat} {z : AxChan} (hz : z.zWait = (x.axChan c).zWait) : SlotKept p s (x.setAxChan c z) :=
  h.trans ⟨SettingsStay.of_regs rfl, rfl, rfl, State.axChan_setAxChan_part AxChan.zWait x c hz⟩

theorem setSlotAt (h : SlotKept p s x) (q n : Nat) : SlotKept p s (x.setSlotAt q n) :=
  h.trans ⟨SettingsStay.of_regs rfl, rfl, rfl, fun _ => rfl⟩

theorem endCalSlot (h : SlotKept p s x) (q : Nat) : SlotKept p s (x.endCalSlot q) :=
  h.trans ⟨SettingsStay.of_regs rfl, rfl, rfl, fun _ => rfl⟩

theorem ite {c : Prop} [Decidable c] (h : SlotKept p s x) (h' : SlotKept p s y) : SlotKept p s (if c then x else y) := by
  split
  · exact h
  · exact h'

theorem foldl {α : Type} (f : State → α → State) (l : List α) (hf : ∀ s, ∀ a ∈ l, SlotKept p s (f s a)) (s : State) :
    SlotKept p s (l.foldl f s) :=
  List.foldlRecOn l f (motive := SlotKept p s) (refl p s) fun x hx a ha => hx.trans (hf x a ha)

end SlotKept

open SlotKept (refl of_parts of_only foldl)

/-! ### The acquisition engine hears of an output (R207, R239, R247 to R250) -/

/-- What writes at one of the four buffers. -/
theorem OnBuffer.slotKept {b : Nat} {s x : State} (h : OnBuffer b s x) (hb : b ∈ [0, 1, 2, 3]) (p : Pair) (hA : x.regs.setA = s.regs.setA)
    (hB : x.regs.setB = s.regs.setB) (hwaiting : x.regs.waiting = s.regs.waiting) (hstale : x.regs.stale = s.regs.stale)
    (hax : x.ax = s.ax) : SlotKept p s x :=
  of_only (fun f hf => captureFields_apart p f (List.mem_flatMap.mpr ⟨b, hb, hf⟩)) h.fields hA hB hwaiting hstale hax

theorem State.aqFireAt_slotKept (p : Pair) (s : State) (u at_ : Nat) : SlotKept p s (s.aqFireAt u at_) := by
  have hhold : SlotKept p s (s.holdUnit u at_) := by
    unfold State.holdUnit
    exact (refl p s).ite (of_parts rfl rfl)
  have hhear (x : State) (f : AqFire) : SlotKept p x (x.hearAll u f) :=
    foldl _ _ (fun s b hb => ((s.aqHear_onBuffer b f).slotKept hb p (by simp) (by simp) (by simp) (by simp) (by simp)).ite (refl p s)) x
  have hshepherd (x : State) : SlotKept p x (x.tellShepherd u at_) := by
    unfold State.tellShepherd
    exact SlotKept.ite (of_parts rfl rfl) (refl p x)
  have hnodes (x : State) : SlotKept p x (x.tellNodes u at_) := by
    unfold State.tellNodes
    exact SlotKept.ite (of_parts (by simp) (by simp)) (refl p x)
  rw [State.aqFireAt_eq]
  exact ((hhold.trans (hhear _ _)).trans (hshepherd _)).trans (hnodes _)

theorem State.aqTrigger_slotKept (p : Pair) (s : State) (cause : AqCause) : SlotKept p s (s.aqTrigger cause) :=
  foldl _ _ (fun s u _ => (s.aqFireAt_slotKept p u _).ite (refl p s)) s

theorem State.aqLevels_slotKept (p : Pair) (s : State) (src : AqSrc) (sample : Nat → Option Score) : SlotKept p s (s.aqLevels src sample) := by
  refine foldl _ _ (fun s u _ => ?_) s
  have hset (z : AqUnitState) : SlotKept p s (s.setAqUnit u z) := of_parts rfl rfl
  dsimp only
  split
  · split
    · exact refl p s
    · exact ((hset _).trans (State.aqFireAt_slotKept p _ u _)).ite (hset _)
  · exact refl p s

theorem State.aqStream_slotKept (p : Pair) (s : State) (src : AqSrc) (v : Score) : SlotKept p s (s.aqStream src v) :=
  foldl _ _ (fun s b hb => ((s.aqOffer_onBuffer b [v] 0).slotKept hb p (by simp) (by simp) (by simp) (by simp) (by simp)).ite (refl p s)) s

theorem State.aqConverter_slotKept (p : Pair) (s : State) (c : Nat) (value status : Score) (unset : Bool) :
    SlotKept p s (s.aqConverter c value status unset) := by
  unfold State.aqConverter
  exact (((s.aqLevels_slotKept p _ _).trans (State.aqLevels_slotKept p _ _ _)).trans (State.aqStream_slotKept p _ _ _)).trans
    (State.aqStream_slotKept p _ _ _)

/-! ### An output is delivered (R216, R226, R234 to R237) -/

/-- The fields of a channel lie apart. -/
theorem channelFields_apart (p : Pair) (c : Nat) :
    ∀ f ∈ [Reg.AX_VAL_VALUE c, Reg.AX_VSTAT_STATUS c, Reg.AX_STAT_UNSET c, Reg.AX_STAT_OVR c, Reg.AX_OVR_CNT_COUNT c, Reg.AX_STAT_CLIP c,
      Reg.AX_PLAUS_CNT_COUNT c, Reg.AX_UNSET_CNT_COUNT c, Reg.AX_STAT_THR c, Reg.AX_STAT_PLAUS c, Reg.AX_STAT_TFALL c, Reg.AX_STAT_CFG_ERR c,
      Reg.AX_STAT_BLANK c], f.Apart p := by
  intro f hf
  refine Fld.Apart.of_le p ?_
  simp only [List.mem_cons, List.not_mem_nil, or_false] at hf
  rcases hf with rfl | rfl | rfl | rfl | rfl | rfl | rfl | rfl | rfl | rfl | rfl | rfl | rfl <;> exact Nat.le_add_right_of_le (by decide)

theorem State.thresholdsAt_slotKept (p : Pair) (s : State) (c : Nat) (v : Int) : SlotKept p s (s.thresholdsAt c v) := by
  have hf : (Reg.AX_STAT_THR c).Apart p := channelFields_apart p c _ (by simp)
  refine foldl _ _ (fun s k _ => ?_) s
  dsimp only
  refine (refl p s).ite (SlotKept.ite (refl p s) ?_)
  have hcross (b : Bool) (sev : Sev) (m n : Nat) :
      SlotKept p s ((if b then s.orBit (Reg.AX_STAT_THR c) k else s.clrBit (Reg.AX_STAT_THR c) k).raiseSev .axThreshold sev m n) :=
    (((refl p s).orBit hf k).ite ((refl p s).clrBit hf k)).raiseSev _ _ _ _
  exact ((hcross _ _ _ _).trans (State.aqTrigger_slotKept p _ _)).ite (hcross _ _ _ _)

theorem State.lampTempBack_slotKept (p : Pair) (s : State) (c : Nat) : SlotKept p s (s.lampTempBack c) :=
  foldl _ _ (fun s g _ => ((refl p s).clrBit (Fld.Apart.of_le p (by decide)) g).ite (refl p s)) s

/-- One more output of a channel is counted. -/
def State.countOutput (s : State) (c : Nat) : State := s.setAxChan c { s.axChan c with count := (s.axChan c).count + 1 }

/-- The registers of a channel show an output. -/
def State.showOutput (s : State) (c : Nat) (v : Int) (status : Nat) (unset ovr clip plaus : Bool) : State :=
  let s := (s.setH (Reg.AX_VAL_VALUE c) (low 20 v)).setH (Reg.AX_VSTAT_STATUS c) status
  let s := s.flag (Reg.AX_STAT_UNSET c) unset
  let s := if ovr then (s.flag (Reg.AX_STAT_OVR c) true).inc (Reg.AX_OVR_CNT_COUNT c) else s
  let s := if clip then s.flag (Reg.AX_STAT_CLIP c) true else s
  let s := if plaus then s.inc (Reg.AX_PLAUS_CNT_COUNT c) else s
  if unset then s.inc (Reg.AX_UNSET_CNT_COUNT c) else s

/-- The axes that take their samples from a channel get one. -/
def State.tellAxes (s : State) (c : Nat) (x : PosSample) : State :=
  [0, 1, 2, 3].foldl (fun s a =>
    if s.fu a (Reg.SV_AX_CFG_SRC a) = c then
      { s with sv := { s.sv with axes := Tab.set s.sv.axes {} a { Tab.get s.sv.axes {} a with inbox := some x } } }
    else s) s

/-- The last settled output of a channel, and its temperature. -/
def State.noteSettled (s : State) (c : Nat) (v : Int) (unset : Bool) : State :=
  let ch := s.axChan c
  s.setAxChan c
    { ch with settled := if unset then ch.settled else some v, settledAt := if unset then ch.settledAt else s.now
              roughAt := if !unset && ch.settled.any (fun w => s.rateBad v w (s.now - ch.settledAt)) then s.now else ch.roughAt
              temp := if ch.fail then none else if unset then ch.temp else some v }

/-- The estimate of the DC block moves on. -/
def State.blockDc (s : State) (c : Nat) (m : Rat) (b : Bool) : State := if b then s.setAxChan c { s.axChan c with m := m } else s

theorem State.deliverOutput_eq (s : State) (c : Nat) (v : Int) (unset ovr clip plaus blank : Bool) : ∃ status x lamp m dc w,
    s.deliverOutput c v unset ovr clip plaus blank =
      let s := (((s.countOutput c).showOutput c v status unset ovr clip plaus).tellAxes c x).noteSettled c v unset
      let s := (if lamp = true then s.lampTempBack c else s).blockDc c m dc
      (if unset then s else s.thresholdsAt c w).aqConverter c (Score.ofSigned w) (BitVec.ofNat 20 status) unset := by
  unfold State.deliverOutput
  exact ⟨_, _, _, _, _, _, rfl⟩

theorem State.showOutput_slotKept (p : Pair) (s : State) (c : Nat) (v : Int) (status : Nat) (unset ovr clip plaus : Bool) :
    SlotKept p s (s.showOutput c v status unset ovr clip plaus) := by
  have hf := channelFields_apart p c
  have hif (x : State) (b : Bool) {f : Fld} (h : f.Apart p) : SlotKept p x (if b then x.inc f else x) := ((refl p x).inc h).ite (refl p x)
  have hvalue := (((refl p s).setH (hf (Reg.AX_VAL_VALUE c) (by simp)) (low 20 v)).setH (hf (Reg.AX_VSTAT_STATUS c) (by simp)) status).flag
    (hf (Reg.AX_STAT_UNSET c) (by simp)) unset
  have hovr := ((hvalue.flag (hf (Reg.AX_STAT_OVR c) (by simp)) true).inc (hf (Reg.AX_OVR_CNT_COUNT c) (by simp))).ite (c := ovr = true) hvalue
  have hclip := (hovr.flag (hf (Reg.AX_STAT_CLIP c) (by simp)) true).ite (c := clip = true) hovr
  exact (hclip.trans (hif _ plaus (hf (Reg.AX_PLAUS_CNT_COUNT c) (by simp)))).trans (hif _ unset (hf (Reg.AX_UNSET_CNT_COUNT c) (by simp)))

theorem State.deliverOutput_slotKept (p : Pair) (s : State) (c : Nat) (v : Int) (unset ovr clip plaus blank : Bool) :
    SlotKept p s (s.deliverOutput c v unset ovr clip plaus blank) := by
  obtain ⟨status, x, lamp, m, dc, w, heq⟩ := s.deliverOutput_eq c v unset ovr clip plaus blank
  have haxes (y : State) : SlotKept p y (y.tellAxes c x) := by
    refine foldl _ _ (fun s a _ => ?_) y
    exact SlotKept.ite (of_parts rfl rfl) (refl p s)
  have hsettled (y : State) : SlotKept p y (y.noteSettled c v unset) := (refl p y).setAxChan (by rfl)
  have hlamp (y : State) : SlotKept p y (if lamp = true then y.lampTempBack c else y) := (y.lampTempBack_slotKept p c).ite (refl p y)
  have hdc (y : State) : SlotKept p y (y.blockDc c m dc) := SlotKept.ite ((refl p y).setAxChan (by rfl)) (refl p y)
  have hthr (y : State) : SlotKept p y (if unset = true then y else y.thresholdsAt c w) := (refl p y).ite (y.thresholdsAt_slotKept p c w)
  have hcount : SlotKept p s (s.countOutput c) := (refl p s).setAxChan (by rfl)
  rw [heq]
  exact ((((((hcount.trans (State.showOutput_slotKept p _ c v status unset ovr clip plaus)).trans (haxes _)).trans (hsettled _)).trans
    (hlamp _)).trans (hdc _)).trans (hthr _)).trans (State.aqConverter_slotKept p _ _ _ _ _)

theorem State.plausible_slotKept (p : Pair) (s : State) (c : Nat) (prim sec : Int) : SlotKept p s (s.plausible c prim sec).1 := by
  have hset {z : AxChan} (hz : z.zWait = (s.axChan c).zWait) : SlotKept p s (s.setAxChan c z) := (refl p s).setAxChan hz
  have hf : (Reg.AX_STAT_PLAUS c).Apart p := channelFields_apart p c _ (by simp)
  unfold State.plausible
  dsimp only
  split
  · exact hset (by rfl)
  · split
    · exact ((hset (by rfl)).flag hf true).ite (((hset (by rfl)).flag hf true).raiseSev _ _ _ _)
    · exact hset (by rfl)

theorem State.convert_slotKept (p : Pair) (s : State) (c : Nat) (prim sec : Int) : SlotKept p s (s.convert p c prim sec) := by
  have hset {z : AxChan} (hz : z.zWait = (s.axChan c).zWait) : SlotKept p s (s.setAxChan c z) := (refl p s).setAxChan hz
  have hcompare (x : State) (b : Bool) : SlotKept p x (if b then x.plausible c prim sec else (x, false)).1 := by
    split
    · exact x.plausible_slotKept p c prim sec
    · exact refl p x
  have htfall (x : State) (b : Bool) : SlotKept p x (if b then x.flag (Reg.AX_STAT_TFALL c) true else x) :=
    ((refl p x).flag (channelFields_apart p c _ (by simp)) true).ite (refl p x)
  unfold State.convert
  dsimp only
  split
  · exact (hset (by rfl)).trans (State.deliverOutput_slotKept p _ _ _ _ _ _ _ _)
  · exact (((hset (by rfl)).trans (hcompare _ _)).trans (htfall _ _)).trans (State.deliverOutput_slotKept p _ _ _ _ _ _ _ _)

theorem State.rampStep_slotKept (p : Pair) (s : State) (chan : Nat) : SlotKept p s (s.rampStep chan) := by
  have hth : SlotKept p s { s with th := (s.rampStep chan).th } := of_parts rfl rfl
  exact hth.flag (rampField_apart p) _

theorem State.chanOutput_slotKept (p : Pair) (s : State) (c : Nat) (prim sec : List Int) : SlotKept p s (s.chanOutput p c prim sec) := by
  have hcfg : (Reg.AX_STAT_CFG_ERR c).Apart p := channelFields_apart p c _ (by simp)
  have hexc : SlotKept p s (if s.fu c (Reg.AX_CH_SEL_EXC c) = 7 then s.flag (Reg.AX_STAT_CFG_ERR c) true else s) :=
    ((refl p s).flag hcfg true).ite (refl p s)
  have habsorb (x : State) : SlotKept p x (x.absorb p c prim sec) := (refl p x).setAxChan (by rfl)
  unfold State.chanOutput
  dsimp only
  generalize (if s.fu c (Reg.AX_CH_SEL_EXC c) = 7 then s.flag (Reg.AX_STAT_CFG_ERR c) true else s) = x at *
  refine hexc.trans ((refl p x).ite (SlotKept.ite ((refl p x).flag hcfg true) ?_))
  refine SlotKept.trans (SlotKept.ite ?_ ?_) (State.rampStep_slotKept p _ _)
  · exact State.deliverOutput_slotKept p _ _ _ _ _ _ _ _
  · exact (habsorb x).trans (State.convert_slotKept p _ c _ _)

end Sys2Proof.Machine
end

section
/-!
SUPPORT. CONVERTER_OUTPUT (R214, R216, R219): the end of a slot where no write waits and no check runs or waits.
-/

namespace Sys2Proof.Machine

open SlotKept (refl)

/-- No write waits and none is kept from before a SWAP, no check waits for a pair, and none runs on pair `p`. -/
structure State.Undisturbed (s : State) (p : Nat) : Prop where
  waiting : s.regs.waiting = []
  stale : s.regs.stale = []
  noneWaits : s.NoneWaits
  free : s.checking p = none

section

variable {p : Pair} {s x : State}

theorem SlotKept.undisturbed (h : SlotKept p s x) (hs : s.Undisturbed p) : x.Undisturbed p :=
  ⟨h.waiting.trans hs.waiting, h.stale.trans hs.stale, hs.noneWaits.congr h.zWait, (State.checking_congr h.check p).trans hs.free⟩

/-! ### No write takes effect, no check begins or ends -/

namespace State.Undisturbed

theorem applyAt (h : s.Undisturbed p) (f : Nat → Nat → Bool) : s.applyAt f = s := State.applyAt_of_none h.waiting h.stale f

theorem pinsSince (h : s.Undisturbed p) : s.pinsSince s = s := by
  have hnone : s.tookEffect s isPinReg = false := by simp [State.tookEffect, h.waiting, h.stale]
  rw [State.pinsSince, hnone]
  rfl

theorem blankDependents (h : s.Undisturbed p) (q : Nat) : s.blankDependents q = s := by
  have hnone (k : Nat) : s.switchWaits k = false := by simp [State.switchWaits, h.waiting, h.stale]
  refine List.foldl_fixed' (fun k => ?_) _
  rw [if_neg (by simp [hnone k])]

/-- With no write the DC block of a channel is not switched on, and its checks are not turned off. -/
theorem applyChan (h : s.Undisturbed p) (c : Nat) : s.applyChan c = s := by
  have hdcb : s.dcbEdge c (s.fu c (Reg.AX_CH_CFG_DCB_EN c)) = s := if_neg (by omega)
  rw [State.applyChan, h.applyAt, State.chanLooked, hdcb]
  exact if_neg (by simp [h.noneWaits c])

theorem reaching (h : s.Undisturbed p) (u a : Nat) : s.reaching u a = s.use u a := by
  simp [State.reaching, h.waiting, h.stale]

end State.Undisturbed

/-- A restart of a channel's decimators ends no check on a free pair. -/
theorem SlotKept.restart (h : SlotKept p s x) (hx : x.checking p = none) (c at_ : Nat) : SlotKept p s (x.restart p c at_) := by
  rw [State.restart_eq, if_neg (by simp [hx])]
  exact h.setAxChan (by rfl)

theorem State.endBlank_slotKept (h : s.Undisturbed p) (c at_ : Nat) : SlotKept p s (s.endBlank p c at_) := by
  have hended : SlotKept p s ((s.setAxChan c { s.axChan c with blankEnd := none }).flag (Reg.AX_STAT_BLANK c) false) :=
    ((refl p s).setAxChan (by rfl)).flag (channelFields_apart p c _ (by simp)) false
  unfold State.endBlank
  dsimp only
  generalize (s.setAxChan c { s.axChan c with blankEnd := none }).flag (Reg.AX_STAT_BLANK c) false = x at hended
  have hrestarted := hended.restart (hended.undisturbed h).free c at_
  have hmoved := hrestarted.setSlotAt p at_
  rw [(hmoved.undisturbed h).noneWaits.resumeChecks, (hrestarted.undisturbed h).noneWaits.resumeChecks]
  exact hmoved.ite (hrestarted.ite (hended.setAxChan (by rfl)))

theorem State.unblank_slotKept (h : s.Undisturbed p) (c : Nat) : SlotKept p s (s.unblank p c) := by
  have hset : SlotKept p s (s.setAxChan c { s.axChan c with switchAhead := false }) := (refl p s).setAxChan (by rfl)
  unfold State.unblank
  exact ((hset.trans (State.endBlank_slotKept (hset.undisturbed h) c _)).ite hset).ite (refl p s)

/-! ### The end of a slot (R214, R219) -/

/-- What a slot yields: the output of its channel, or that it names a channel of an earlier slot. -/
def State.yieldSlot (s : State) (p k : Nat) (prim sec : List Int) : State :=
  if s.firstSlot (s.slotChan p k) = some (p, k) then (s.unblank p (s.slotChan p k)).chanOutput p (s.slotChan p k) prim sec
  else s.flag (Reg.AX_PAIR_STAT_CFG_ERR p) true

theorem State.yieldSlot_slotKept (h : s.Undisturbed p) (k : Nat) (prim sec : List Int) : SlotKept p s (s.yieldSlot p k prim sec) :=
  ((State.unblank_slotKept h _).trans (State.chanOutput_slotKept p _ _ prim sec)).ite ((refl p s).flag (pairCfgErr_apart p) true)

theorem State.yieldSlot_frame (s : State) (p k : Nat) (prim sec : List Int) :
    (s.yieldSlot p k prim sec).fd = s.fd ∧ (s.yieldSlot p k prim sec).sq = s.sq ∧ (s.yieldSlot p k prim sec).tl = s.tl
      ∧ (s.yieldSlot p k prim sec).dm = s.dm := by
  unfold State.yieldSlot
  split <;> simp

theorem State.slotOutput_eq (h : s.Undisturbed p) (k : Nat) (prim sec : List Int) : s.slotOutput p k prim sec = s.yieldSlot p k prim sec := by
  have hy := (State.yieldSlot_slotKept h k prim sec).undisturbed h
  unfold State.slotOutput
  simp only [h.applyChan]
  rw [← State.yieldSlot, hy.applyAt, hy.pinsSince, hy.blankDependents]

/-- The slot in progress has yielded, and the next one starts with its end. -/
def State.closeSlot (s : State) (p : Nat) (prim sec : List Int) : State :=
  let y := s.yieldSlot p (s.h (Reg.AX_PAIR_STAT_SLOT p)) prim sec
  if y.slotAt p + s.outPeriod p = s.slotAt p + s.outPeriod p then y.setSlotAt p (s.slotAt p + s.outPeriod p) else y

/-- The pair goes over to a slot. -/
def State.nextSlot (s : State) (p k : Nat) : State := ((s.pairJudge p).setH (Reg.AX_PAIR_STAT_SLOT p) k).slotStart p k

theorem State.closeSlot_slotKept (h : s.Undisturbed p) (prim sec : List Int) : SlotKept p s (s.closeSlot p prim sec) :=
  have hy := State.yieldSlot_slotKept h (s.h (Reg.AX_PAIR_STAT_SLOT p)) prim sec
  (hy.setSlotAt p _).ite hy

theorem State.closeSlot_frame (s : State) (p : Nat) (prim sec : List Int) :
    (s.closeSlot p prim sec).fd = s.fd ∧ (s.closeSlot p prim sec).sq = s.sq ∧ (s.closeSlot p prim sec).tl = s.tl
      ∧ (s.closeSlot p prim sec).dm = s.dm := by
  unfold State.closeSlot
  dsimp only
  split <;> simp [State.yieldSlot_frame]

theorem State.slotStart_slotKept (h : s.Undisturbed p) (k : Nat) : SlotKept p s (s.slotStart p k) := by
  have hset {z : AxChan} (hz : z.zWait = (s.axChan (s.slotChan p k)).zWait) : SlotKept p s (s.setAxChan (s.slotChan p k) z) :=
    (refl p s).setAxChan hz
  unfold State.slotStart
  exact SlotKept.ite (SlotKept.ite ((hset (by rfl)).restart ((hset (by rfl)).undisturbed h).free _ _) (refl p s)) (refl p s)

theorem State.pairJudge_slotKept (p : Pair) (s : State) : SlotKept p s (s.pairJudge p) := by
  unfold State.pairJudge
  exact ((refl p s).flag (pairCfgErr_apart p) true).ite (refl p s)

/-- The pair in the next slot: no write or check waits for it, its scan is there, and Fold, Shepherd, the tiles and the DMA block stay. -/
theorem State.nextSlot_spec (h : s.Undisturbed p) {k : Nat} (hk : k < 8) :
    (s.nextSlot p k).h (Reg.AX_PAIR_STAT_SLOT p) = k ∧ (s.nextSlot p k).NoneWaits ∧ (s.nextSlot p k).fd = s.fd
      ∧ (s.nextSlot p k).sq = s.sq ∧ (s.nextSlot p k).tl = s.tl ∧ (s.nextSlot p k).dm = s.dm := by
  have hj := (s.pairJudge_slotKept p).undisturbed h
  have hset : ((s.pairJudge p).setH (Reg.AX_PAIR_STAT_SLOT p) k).Undisturbed p := ⟨hj.waiting, hj.stale, hj.noneWaits, hj.free⟩
  have hstart := State.slotStart_slotKept hset k
  have htop : k ≤ (Reg.AX_PAIR_STAT_SLOT p).top := Nat.le_of_lt_succ hk
  refine ⟨?_, (hstart.undisturbed hset).noneWaits, ?_, ?_, ?_, ?_⟩
  · rw [State.nextSlot, hstart.slot, State.h_setH_same, Nat.min_eq_left htop]
  all_goals simp [State.nextSlot]

/-- What follows on the output of slot `k`: the pair stops, its scan ends, or the next slot begins. -/
def State.afterSlot (s : State) (p k : Nat) : State :=
  let cfg := Reg.AX_PAIR_CFG p
  let new := s.reaching p cfg
  if (Reg.AX_PAIR_CFG_RUN p).of new = 0 then
    ((s.applyAt fun a u => decide (u = p) && (decide (a = cfg) || axPlace a == .slot p)).pairConfig p false).axAcceptIdle
  else if (s.checking p).isSome ∨ k + 1 ≥ s.nslot p then s.scanEnds p
  else
    let s := if scanFields p new = scanFields p (s.use p cfg) then (s.applyAt fun a u => decide (u = p) && decide (a = cfg)).pairJudge p else s
    ((s.setH (Reg.AX_PAIR_STAT_SLOT p) (k + 1)).slotStart p (k + 1)).resumeChecks

theorem State.slotEnd_eq (h : s.Undisturbed p) (prim sec : List Int) :
    s.slotEnd p prim sec = (s.closeSlot p prim sec).afterSlot p (s.h (Reg.AX_PAIR_STAT_SLOT p)) := by
  unfold State.closeSlot
  rw [← State.slotOutput_eq h]
  rfl

/-- After a slot before the last, a pair that goes on running is in the next slot. -/
theorem State.afterSlot_eq (h : s.Undisturbed p) {k : Nat} (hrun : s.fu p (Reg.AX_PAIR_CFG_RUN p) = 1) (hlast : k + 1 < s.nslot p) :
    s.afterSlot p k = s.nextSlot p (k + 1) := by
  have hgoes : ¬ (Reg.AX_PAIR_CFG_RUN p).of (s.use p (Reg.AX_PAIR_CFG p)) = 0 := fun h0 => absurd (hrun.symm.trans h0) (by decide)
  have hmore : ¬ ((s.checking p).isSome = true ∨ k + 1 ≥ s.nslot p) := by simp [h.free, hlast]
  have hslots : s.nslot p ≤ 8 := by simp [State.nslot]
  obtain ⟨-, hnone, -⟩ := State.nextSlot_spec h (k := k + 1) (by omega)
  unfold State.afterSlot
  simp only [h.reaching, if_neg hgoes, if_neg hmore, if_true, h.applyAt]
  exact hnone.resumeChecks

end

theorem Yields.of_converterOutput {t : Nat} {p : Pair} {v w : List Int} {s : State} {P : State → Prop} (hr : s.phase = .ready)
    (hruns : s.pairRuns p = true) (hdue : s.slotAt p + s.outPeriod p ≤ max s.now t)
    (h : P (s.keep t ((((s.clock t).endCalSlot p).slotEnd p v w).settleStop))) : Yields (.converterOutput t p v w) s P := by
  have hruns' : (s.clock t).pairRuns p = true := hruns
  have hdue' : (s.clock t).slotAt p + (s.clock t).outPeriod p ≤ (s.clock t).now := hdue
  have hstep : execConverterOutput t p v w s = .next (s.keep t ((((s.clock t).endCalSlot p).slotEnd p v w).settleStop)) := by
    rw [execConverterOutput, State.runAt, s.run_ready t _ hr]
    simp only [hruns', hdue', decide_true, Bool.and_self, if_true]
  exact ⟨_, hstep, h⟩

theorem converterOutput_yields (t : Nat) (p : Pair) (v w : List Int) (s : State) (hr : s.phase = .ready) (hclose : s.sq.closeDue = false)
    (hruns : s.pairRuns p = true) (_ : s.inCalSlot p = false) (hfree : s.checking p = none) (hnone : ∀ c, (s.axChan c).zWait = false)
    (hwaiting : s.regs.waiting = []) (hstale : s.regs.stale = []) (hrun : s.fu p (Reg.AX_PAIR_CFG_RUN p) = 1)
    (hdue : s.slotAt p + s.outPeriod p ≤ max s.now t) (hlast : s.h (Reg.AX_PAIR_STAT_SLOT p) + 1 < s.nslot p) :
    Yields (.converterOutput t p v w) s fun x =>
      x.h (Reg.AX_PAIR_STAT_SLOT p) = s.h (Reg.AX_PAIR_STAT_SLOT p) + 1 ∧ x.fd = s.fd ∧ x.sq = s.sq ∧ x.tl = s.tl ∧ x.dm = s.dm := by
  let y := (s.clock t).endCalSlot p
  have hquiet : y.Undisturbed p := ⟨hwaiting, hstale, hnone, hfree⟩
  have hclosed := State.closeSlot_slotKept hquiet v w
  have hset : ∀ a, y.use p a = s.use p a := State.use_congr rfl p
  have hrun' : (y.closeSlot p v w).fu p (Reg.AX_PAIR_CFG_RUN p) = 1 := (hclosed.fu p _).trans ((congrArg _ (hset _)).trans hrun)
  have hslots : (y.closeSlot p v w).nslot p = s.nslot p := by
    rw [State.nslot, State.nslot, hclosed.fu, State.fu, hset, State.fu]
  have height : s.nslot p ≤ 8 := by simp [State.nslot]
  have hend : y.slotEnd p v w = (y.closeSlot p v w).nextSlot p (s.h (Reg.AX_PAIR_STAT_SLOT p) + 1) :=
    (State.slotEnd_eq hquiet v w).trans (State.afterSlot_eq (hclosed.undisturbed hquiet) hrun' (hslots ▸ hlast))
  obtain ⟨hslot, -, hfd, hsq, htl, hdm⟩ :=
    State.nextSlot_spec (hclosed.undisturbed hquiet) (k := s.h (Reg.AX_PAIR_STAT_SLOT p) + 1) (by omega)
  obtain ⟨hfd', hsq', htl', hdm'⟩ := y.closeSlot_frame p v w
  refine Yields.of_converterOutput hr hruns hdue ?_
  rw [hend]
  generalize (y.closeSlot p v w).nextSlot p (s.h (Reg.AX_PAIR_STAT_SLOT p) + 1) = x at *
  have hsqx : x.sq = s.sq := hsq.trans hsq'
  rw [State.settleStop_of_none (by rw [hsqx, hclose])]
  exact ⟨hslot, hfd.trans hfd', hsqx, htl.trans htl', hdm.trans hdm'⟩

end Sys2Proof.Machine

namespace Sys2Proof
open Machine

/-- Settles O30: delivering a slot's output writes many parts of the device, but neither the place of the scan nor the settings it goes by
(yieldSlot_slotKept); so the pair is found where it was and goes over to the next slot (afterSlot_eq). -/
theorem converterSlotsAdvance : Obligations.ConverterSlotsAdvance := by
  unfold Obligations.ConverterSlotsAdvance
  exact converterOutput_yields

end Sys2Proof
end

section
/-!
SUPPORT. A sampler that holds a block when a buffer on it is armed: the engine copies that block into the buffer at once (R78, R240).
-/

namespace Sys2Proof.Machine

/-- A sampler's capture: 2,048 samples of the same height. -/
def capturedBlock : List Score := List.replicate 2048 512

/-- The sampler of tile 3 holds a block that no buffer was there to take, as after an AQ_ABORT during its capture; buffer 2 is IDLE, and its
registers name that sampler, the rest of them as from reset. -/
def blockHeld : State :=
  { ((State.reset.setOne (Reg.AQ_BUF_SRC 2) 3).setTile 3 { wsSamples := capturedBlock }).setH (Reg.TL_TILE_STAT_WS_FULL 3) 1 with phase := .ready }

/-- The arm empties buffer 2 and then copies the block that waits in the sampler: the buffer is ARMED with 2,048 samples. -/
theorem data_aqArm_blockHeld : ∃ x, exec (.aqArm 500 2) blockHeld = .next x ∧ (x.aqBuf 2).data = capturedBlock :=
  ⟨_, rfl, by decide +kernel⟩

/-- Buffer 2 is FULL with two samples of converter channel 5, taken with AUTO, and its window stands at the second; the host has since chosen
the sampler of tile 3, which holds a block, as the source of the next capture. -/
def lastSampleOpen : State :=
  ((blockHeld.setAqBuf 2 { cfg := [(Reg.AQ_BUF_CFG_AUTO 0).put 0 1, 0x40005, 0, 2, 1, 0, 0], data := [7, 8], preCount := 1 }).setH
    (Reg.AQ_BUF_STAT_STATE 2) 3).setFo (Reg.AQ_RD_ADDR_ADDR 2) 1

/-- The read of the last sample arms the buffer, which takes the sampler's block. -/
theorem data_aqRdDataRead_lastSampleOpen :
    ∃ x, exec (.aqRdDataRead 500 2) lastSampleOpen = .next x ∧ (x.aqBuf 2).data = capturedBlock :=
  ⟨_, rfl, by decide +kernel⟩

end Sys2Proof.Machine

namespace Sys2Proof
open Machine

/-- Refutes O33, in its second part: after AQ_ARM a buffer need not be empty. In `blockHeld` the sampler that the buffer names holds a block,
which the arm copies into the buffer that it has just emptied (R240). -/
theorem not_capturesAreArmed : ¬ Obligations.CapturesAreArmed := by
  unfold Obligations.CapturesAreArmed
  rintro ⟨-, bufferArms, -⟩
  obtain ⟨x, hx, -, emptied, -⟩ := bufferArms 500 2 blockHeld rfl (by decide +kernel)
  obtain ⟨y, hy, copied⟩ := data_aqArm_blockHeld
  obtain rfl : x = y := Host.Outcome.next.inj (hx.symm.trans hy)
  exact List.cons_ne_nil _ _ (copied.symm.trans emptied)

/-- Refutes O34, in its part on AUTO: the arm that follows the read of the last sample need not leave the buffer empty. In `lastSampleOpen` it
takes a new source (R242), a sampler with a block that the arm copies (R240). -/
theorem not_capturesAreRead : ¬ Obligations.CapturesAreRead := by
  unfold Obligations.CapturesAreRead
  rintro ⟨-, lastReadArms, -⟩
  obtain ⟨x, hx, -, -, emptied, -⟩ := lastReadArms 500 2 lastSampleOpen rfl (by decide +kernel) (by decide +kernel) (by decide +kernel)
  obtain ⟨y, hy, copied⟩ := data_aqRdDataRead_lastSampleOpen
  obtain rfl : x = y := Host.Outcome.next.inj (hx.symm.trans hy)
  exact List.cons_ne_nil _ _ (copied.symm.trans emptied)

end Sys2Proof
end

section
/-!
SUPPORT. Illuminator channels read back, and what a lamp command leaves alone: the other channels, the settings in use and the other blocks.
-/

namespace Sys2Proof.Machine

/-! ### Channels -/

@[simp] theorem State.ilChan_setIlChan_same (s : State) (c : Nat) (x : IlChan) : (s.setIlChan c x).ilChan c = x := Tab.get_set_same _ _ _ _

theorem State.ilChan_setIlChan_ne (s : State) {c d : Nat} (x : IlChan) (h : d ≠ c) : (s.setIlChan c x).ilChan d = s.ilChan d :=
  Tab.get_set_ne _ _ _ _ h

@[simp] theorem State.ilChan_clock (s : State) (t c : Nat) : (s.clock t).ilChan c = s.ilChan c := rfl

@[simp] theorem State.ilChan_setH (s : State) (f : Fld) (n : Nat) (c : Nat) : (s.setH f n).ilChan c = s.ilChan c := rfl

@[simp] theorem State.ilChan_flag (s : State) (f : Fld) (b : Bool) (c : Nat) : (s.flag f b).ilChan c = s.ilChan c := rfl

@[simp] theorem State.ilChan_inc (s : State) (f : Fld) (c : Nat) : (s.inc f).ilChan c = s.ilChan c := rfl

@[simp] theorem State.ilChan_raise (s : State) (e : Ev) (a b c : Nat) : (s.raise e a b).ilChan c = s.ilChan c := rfl

@[simp] theorem State.h_setIlChan (s : State) (c : Nat) (x : IlChan) (f : Fld) : (s.setIlChan c x).h f = s.h f := rfl

@[simp] theorem State.h_illLow (s : State) (c : Nat) (f : Fld) : (s.illLow c).h f = s.h f := rfl

theorem State.setIlChan_untouched (s : State) (c : Nat) (x : IlChan) : Untouched [.illum] s (s.setIlChan c x) := by
  intro g hg
  cases g <;> simp [Group.same] at hg ⊢

/-! ### The other channels and the settings stay -/

/-- The choice of the active set is no field of the illuminators or of a block above. -/
theorem active_ne_of_le {f : Fld} (h : 0x70000 ≤ f.addr) : Reg.CF_STAT_ACTIVE.key ≠ f.key := by
  have hactive : Reg.CF_STAT_ACTIVE.key < 0x70000 * 32 := by decide
  simp only [Fld.key] at hactive ⊢
  omega

/-- From `s` to `x` at most channel `c` of the illuminators, RO and W1C fields but the choice of the active set, and reports change. -/
structure LampKept (c : Nat) (s x : State) : Prop where
  others : ∀ d, d ≠ c → x.ilChan d = s.ilChan d
  active : x.h Reg.CF_STAT_ACTIVE = s.h Reg.CF_STAT_ACTIVE
  rest : Untouched [.fields, .illum, .events] s x

namespace LampKept

variable {c : Nat} {s x y : State}

theorem settings (h : LampKept c s x) : SettingsStay s x := by
  obtain ⟨hA, hB⟩ := h.rest .sets (by simp)
  obtain ⟨hwaiting, hstale, -⟩ := h.rest .waits (by simp)
  exact ⟨hA, hB, hwaiting, hstale, h.active⟩

theorem refl (c : Nat) (s : State) : LampKept c s s := ⟨fun _ _ => rfl, rfl, Untouched.refl _ s⟩

theorem trans (h : LampKept c s x) (h' : LampKept c x y) : LampKept c s y :=
  ⟨fun d hd => (h'.others d hd).trans (h.others d hd), h'.active.trans h.active, h.rest.trans h'.rest⟩

theorem setIlChan (h : LampKept c s x) (z : IlChan) : LampKept c s (x.setIlChan c z) :=
  h.trans ⟨fun _ hd => x.ilChan_setIlChan_ne z hd, rfl, (x.setIlChan_untouched c z).mono⟩

theorem setH (h : LampKept c s x) {f : Fld} (hf : 0x70000 ≤ f.addr) (n : Nat) : LampKept c s (x.setH f n) :=
  h.trans ⟨fun _ _ => rfl, x.h_setH_ne _ _ _ (active_ne_of_le hf), (x.setH_untouched f n).mono⟩

theorem flag (h : LampKept c s x) {f : Fld} (hf : 0x70000 ≤ f.addr) (b : Bool) : LampKept c s (x.flag f b) :=
  h.trans ⟨fun _ _ => rfl, x.h_flag_ne _ _ _ (active_ne_of_le hf), (x.flag_untouched f b).mono⟩

theorem inc (h : LampKept c s x) {f : Fld} (hf : 0x70000 ≤ f.addr) : LampKept c s (x.inc f) :=
  h.trans ⟨fun _ _ => rfl, x.h_inc_ne _ _ (active_ne_of_le hf), (x.inc_untouched f).mono⟩

theorem raise (h : LampKept c s x) (e : Ev) (a b : Nat) : LampKept c s (x.raise e a b) :=
  h.trans ⟨fun _ _ => rfl, rfl, (x.raise_untouched e a b).mono⟩

theorem illLow (h : LampKept c s x) : LampKept c s (x.illLow c) := h.setIlChan _

theorem ite {p : Prop} [Decidable p] (h : LampKept c s x) (h' : LampKept c s y) : LampKept c s (if p then x else y) := by
  split
  · exact h
  · exact h'

end LampKept

end Sys2Proof.Machine
end

section
/-!
SUPPORT. PWM_PERIOD_END (R34, R258 to R264, R266): the STUCK check, the fade and the pulse of the period that begins.
-/

namespace Sys2Proof.Machine

open LampKept (refl)

/-- The status fields of a channel lie in the block of the illuminators. -/
theorem chStat_le (c : Nat) : 0x70000 ≤ Reg.IL_CH_STAT c := Nat.le_add_right_of_le (by decide)

/-! ### The STUCK check -/

theorem State.stuckCheck_kept (s : State) (c end_ mv : Nat) : LampKept c s (s.stuckCheck c end_ mv) := by
  have hcount (n : Nat) : LampKept c s (s.setIlChan c { s.ilChan c with stuckCount := n }) := (refl c s).setIlChan _
  unfold State.stuckCheck
  exact LampKept.ite (LampKept.ite ((((hcount _).flag (chStat_le c) _).raise _ _ _).ite (hcount _))
    (((hcount 0).flag (chStat_le c) _).ite (hcount 0))) (refl c s)

theorem State.ilChan_stuckCheck (s : State) (c end_ mv : Nat) :
    ∃ n, (s.stuckCheck c end_ mv).ilChan c = { s.ilChan c with stuckCount := n } := by
  unfold State.stuckCheck
  dsimp only
  split
  · split_ifs <;> exact ⟨_, State.ilChan_setIlChan_same _ _ _⟩
  · exact ⟨_, rfl⟩

/-! ### The fade -/

/-- The channel after one more period of its fade toward LEVEL; a LEVEL that is not the fade's target starts a new one (R261, R262). -/
def State.faded (s : State) (c : Nat) : IlChan :=
  fadeStep (s.ilChan c) (decide (s.fu c (Reg.IL_CH_LVL_LEVEL c) ≠ (s.ilChan c).l1)) (s.fu c (Reg.IL_CH_LVL_LEVEL c)) (s.fu c (Reg.IL_CH_FADE_MS c))

/-- The counts of the lamp faults have no part in a fade. -/
theorem fadeStep_stuckCount (x : IlChan) (n : Nat) (asked : Bool) (target ms : Nat) :
    fadeStep { x with stuckCount := n } asked target ms = { fadeStep x asked target ms with stuckCount := n } := by
  unfold fadeStep
  cases asked <;> dsimp only <;> split_ifs <;> rfl

theorem State.level_faded_stuckCheck (s : State) (c end_ mv : Nat) : ((s.stuckCheck c end_ mv).faded c).level = (s.faded c).level := by
  obtain ⟨n, hn⟩ := s.ilChan_stuckCheck c end_ mv
  have hset := (s.stuckCheck_kept c end_ mv).settings
  rw [State.faded, hn, hset.fu, hset.fu, fadeStep_stuckCount, State.faded]

/-- Where no write waits and none is kept from before a SWAP, the fade alone moves. -/
theorem State.ilApply_of_none {s : State} (hw : s.regs.waiting = []) (hs : s.regs.stale = []) (c : Nat) :
    s.ilApply c = (s.setIlChan c (s.faded c)).flag (Reg.IL_CH_STAT_FADING c) (decide ((s.faded c).j < (s.faded c).n)) := by
  unfold State.ilApply
  simp only [State.applyAt_of_none hw hs, hw, List.any_nil, Bool.false_or, if_true]
  rfl

/-! ### The pulse -/

theorem State.ilOn_of_disabled {s : State} {c : Nat} (h : s.fu c (Reg.IL_CH_CFG_EN c) = 0) : s.ilOn c = 0 := by
  simp [State.ilOn, State.ilDriven, h]

theorem State.beginPeriod_kept (s : State) (c start : Nat) : LampKept c s (s.beginPeriod c start) := by
  have hon (z : IlChan) (n : Nat) : LampKept c s ((s.setIlChan c z).setH (Reg.IL_CH_NOW_ON c) n) :=
    ((refl c s).setIlChan z).setH (Nat.le_add_right_of_le (by decide)) n
  have hlow (p : Prop) [Decidable p] {y : State} (h : LampKept c s y) : LampKept c s (if p then y else y.illLow c) := h.ite h.illLow
  unfold State.beginPeriod
  exact (hlow _ (hon _ _)).ite (((hlow _ (hon _ _)).setIlChan _).ite ((hlow _ (hon _ _)).setIlChan _))

theorem State.ilChan_beginPeriod (s : State) (c start : Nat) :
    ((s.beginPeriod c start).ilChan c).level = (s.ilChan c).level ∧ ((s.beginPeriod c start).ilChan c).period = some start := by
  unfold State.beginPeriod
  dsimp only
  split_ifs <;> simp [State.illLow]

theorem State.h_beginPeriod_on (s : State) (c start : Nat) :
    (s.beginPeriod c start).h (Reg.IL_CH_NOW_ON c) = min (s.ilOn c) (Reg.IL_CH_NOW_ON c).top := by
  unfold State.beginPeriod
  dsimp only
  split_ifs <;> simp

/-! ### The period -/

/-- The common grid is as this period shows it (log entry 136). -/
def State.onGrid (s : State) : State := { s with il := { s.il with grid := some s.pwmStart } }

/-- A period begins for a channel. -/
def State.newPeriod (s : State) (c mv : Nat) : State := ((s.onGrid.stuckCheck c s.pwmStart mv).ilApply c).beginPeriod c s.pwmStart

theorem execPwmPeriodEnd_eq (t : Nat) (c : IlCh) (mv : Nat) (s : State) : execPwmPeriodEnd t c mv s
    = s.runAt t fun s => if (s.ilChan c).period = some s.pwmStart then s else (s.newPeriod c mv).fresh := rfl

theorem State.onGrid_untouched (s : State) : Untouched [.illum] s s.onGrid := by
  intro g hg
  cases g <;> simp [Group.same, State.onGrid] at hg ⊢

theorem State.onGrid_kept (s : State) (c : Nat) : LampKept c s s.onGrid := ⟨fun _ _ => rfl, rfl, s.onGrid_untouched.mono⟩

theorem State.newPeriod_spec {s : State} (hw : s.regs.waiting = []) (hs : s.regs.stale = []) (c mv : Nat) :
    LampKept c s (s.newPeriod c mv) ∧ ((s.newPeriod c mv).ilChan c).level = (s.faded c).level
      ∧ ((s.newPeriod c mv).ilChan c).period = some s.pwmStart
      ∧ (s.fu c (Reg.IL_CH_CFG_EN c) = 0 → (s.newPeriod c mv).h (Reg.IL_CH_NOW_ON c) = 0) := by
  let y := s.onGrid.stuckCheck c s.pwmStart mv
  have hy : LampKept c s y := (s.onGrid_kept c).trans (s.onGrid.stuckCheck_kept c _ mv)
  have hfade : y.ilApply c = (y.setIlChan c (y.faded c)).flag (Reg.IL_CH_STAT_FADING c) (decide ((y.faded c).j < (y.faded c).n)) :=
    State.ilApply_of_none (hy.settings.waiting.trans hw) (hy.settings.stale.trans hs) c
  have happly : LampKept c s (y.ilApply c) := hfade ▸ (hy.setIlChan _).flag (chStat_le c) _
  have hlevel : ((y.ilApply c).ilChan c).level = (s.faded c).level := by
    rw [hfade, State.ilChan_flag, State.ilChan_setIlChan_same, State.level_faded_stuckCheck]
    rfl
  obtain ⟨hsame, hperiod⟩ := (y.ilApply c).ilChan_beginPeriod c s.pwmStart
  refine ⟨happly.trans ((y.ilApply c).beginPeriod_kept c s.pwmStart), hsame.trans hlevel, hperiod, fun hoff => ?_⟩
  refine ((y.ilApply c).h_beginPeriod_on c s.pwmStart).trans ?_
  rw [State.ilOn_of_disabled ((happly.settings.fu c _).trans hoff), Nat.zero_min]

theorem pwmPeriodEnd_yields (t : Nat) (c : IlCh) (mv : Nat) (s : State) (hr : s.phase = .ready) (hclose : s.sq.closeDue = false)
    (hw : s.regs.waiting = []) (hs : s.regs.stale = []) (hnew : (s.ilChan c).period ≠ some (s.clock t).pwmStart) :
    Yields (.pwmPeriodEnd t c mv) s fun x => (x.ilChan c).level = (s.faded c).level
      ∧ (x.ilChan c).period = some (s.clock t).pwmStart ∧ (s.fu c (Reg.IL_CH_CFG_EN c) = 0 → x.h (Reg.IL_CH_NOW_ON c) = 0)
      ∧ (∀ d, d ≠ c.val → x.ilChan d = s.ilChan d) ∧ Frame t [.fields, .illum, .events, .freeCtr] s x := by
  refine Yields.of_run (execPwmPeriodEnd t c mv) hr rfl (execPwmPeriodEnd_eq t c mv s) ?_
  have hnew' : ((s.clock t).ilChan c).period ≠ some (s.clock t).pwmStart := hnew
  obtain ⟨hkept, hlevel, hperiod, hoff⟩ := State.newPeriod_spec (s := s.clock t) hw hs c mv
  simp only [if_neg hnew']
  generalize (s.clock t).newPeriod c mv = y at *
  have hsq : y.sq = s.sq := hkept.rest .shepherd (by simp)
  have hclose' : y.fresh.sq.closeDue = false := (congrArg Shepherd.closeDue hsq).trans hclose
  rw [State.settleStop_of_none hclose']
  exact ⟨hlevel, hperiod, hoff, hkept.others, Frame.of_untouched (hkept.rest.mono.trans y.fresh_untouched.mono)⟩

end Sys2Proof.Machine
end

section
/-!
SUPPORT. LAMP_MEASUREMENT, LAMP_SHORT_DETECT and IL_RESTART (R265, R266, R270).
-/

namespace Sys2Proof.Machine

open LampKept (refl)

/-! ### Measurement -/

/-- The oldest pulse that has been high for 2 µs and is not measured. -/
def IlChan.toMeasure (x : IlChan) (now : Nat) : Option IllPulse :=
  x.pulses.reverse.find? fun p =>
    decide (p.start + ilMeasure ≤ p.stop) && decide (p.start + ilMeasure ≤ now) && x.measured.all fun m => decide (m < p.start)

/-- The channel after a measurement of a pulse that is not low. -/
def IlChan.verified (x : IlChan) (now on : Nat) (p : IllPulse) : IlChan :=
  { x.unstretch now on with measured := some p.start, lastMeas := some now, openCount := 0 }

/-- A measurement of at least the open threshold is shown (R265, R266, R270). -/
def State.verify (s : State) (c mv : Nat) (p : IllPulse) : State :=
  (((s.setH (Reg.IL_CH_SENSE_MV c) mv).flag (Reg.IL_CH_STAT_UNVERIFIED c) false).setIlChan c
    ((s.ilChan c).verified s.now (s.h (Reg.IL_CH_NOW_ON c)) p)).flag (Reg.IL_CH_STAT_OPEN c) false

/-- Where the newest pulse may be measured, there is a pulse to be measured. -/
theorem IlChan.toMeasure_of_newest {x : IlChan} {p : IllPulse} {l : List IllPulse} {now : Nat} (hp : x.pulses = p :: l)
    (hhigh : p.start + ilMeasure ≤ p.stop) (hpast : p.start + ilMeasure ≤ now) (hnew : ∀ m ∈ x.measured, m < p.start) :
    ∃ q, x.toMeasure now = some q := by
  rw [← Option.isSome_iff_exists, IlChan.toMeasure, List.find?_isSome]
  have hlater : (x.measured.all fun m => decide (m < p.start)) = true := by simpa [Option.all_eq_true] using hnew
  exact ⟨p, by simp [hp], by simp [hhigh, hpast, hlater]⟩

theorem State.verify_untouched (s : State) (c mv : Nat) (p : IllPulse) : Untouched [.fields, .illum] s (s.verify c mv p) :=
  ((((s.setH_untouched _ _).trans (State.flag_untouched _ _ _)).mono.trans (State.setIlChan_untouched _ _ _).mono).trans
    (State.flag_untouched _ _ _).mono)

theorem State.verify_only (s : State) (c mv : Nat) (p : IllPulse) :
    OnlyFields [Reg.IL_CH_SENSE_MV c, Reg.IL_CH_STAT_UNVERIFIED c, Reg.IL_CH_STAT_OPEN c] s (s.verify c mv p) := by
  have hshown : OnlyFields [Reg.IL_CH_SENSE_MV c, Reg.IL_CH_STAT_UNVERIFIED c, Reg.IL_CH_STAT_OPEN c] s
      ((s.setH (Reg.IL_CH_SENSE_MV c) mv).flag (Reg.IL_CH_STAT_UNVERIFIED c) false) :=
    (OnlyFields.setH (by simp) s mv).then_flag (by simp) false
  exact (hshown.trans (OnlyFields.of_regs rfl)).then_flag (by simp) false

theorem State.h_verify (s : State) (c mv : Nat) (p : IllPulse) :
    (s.verify c mv p).h (Reg.IL_CH_SENSE_MV c) = min mv (Reg.IL_CH_SENSE_MV c).top
      ∧ (s.verify c mv p).h (Reg.IL_CH_STAT_UNVERIFIED c) = 0 ∧ (s.verify c mv p).h (Reg.IL_CH_STAT_OPEN c) = 0 := by
  have hsense : (Reg.IL_CH_SENSE_MV c).key ≠ (Reg.IL_CH_STAT_UNVERIFIED c).key := Fld.key_ne_of_lo rfl
  have hsense' : (Reg.IL_CH_SENSE_MV c).key ≠ (Reg.IL_CH_STAT_OPEN c).key := Fld.key_ne_of_lo rfl
  have hunverified : (Reg.IL_CH_STAT_UNVERIFIED c).key ≠ (Reg.IL_CH_STAT_OPEN c).key := Fld.key_ne_of_lo rfl
  unfold State.verify
  refine ⟨?_, ?_, ?_⟩
  · rw [State.h_flag_ne _ _ _ _ hsense', State.h_setIlChan, State.h_flag_ne _ _ _ _ hsense, State.h_setH_same]
  · rw [State.h_flag_ne _ _ _ _ hunverified, State.h_setIlChan, State.h_flag_same, if_neg (by decide), Nat.zero_min]
  · rw [State.h_flag_same, if_neg (by decide), Nat.zero_min]

theorem State.ilChan_verify (s : State) (c mv : Nat) (p : IllPulse) :
    (s.verify c mv p).ilChan c = (s.ilChan c).verified s.now (s.h (Reg.IL_CH_NOW_ON c)) p := State.ilChan_setIlChan_same _ _ _

theorem State.shownSense_kept (s : State) (c mv : Nat) :
    LampKept c s ((s.setH (Reg.IL_CH_SENSE_MV c) mv).flag (Reg.IL_CH_STAT_UNVERIFIED c) false) :=
  ((refl c s).setH (Nat.le_add_right_of_le (by decide)) mv).flag (chStat_le c) false

theorem execLampMeasurement_of_high {t : Nat} {c : IlCh} {mv : Nat} {q : IllPulse} {s : State} (hr : s.phase = .ready)
    (hq : (s.ilChan c).toMeasure (max s.now t) = some q) (hopen : s.fu c (Reg.IL_CH_SNS_OPEN_THR c) ≤ mv) :
    execLampMeasurement t c mv s = .next (s.keep t ((s.clock t).verify c mv q)) := by
  have hthr : ¬ mv < (((s.clock t).setH (Reg.IL_CH_SENSE_MV c) mv).flag (Reg.IL_CH_STAT_UNVERIFIED c) false).fu c
      (Reg.IL_CH_SNS_OPEN_THR c) := by
    rw [((s.clock t).shownSense_kept c mv).settings.fu]
    exact Nat.not_lt.mpr hopen
  unfold IlChan.toMeasure at hq
  rw [execLampMeasurement, s.run_ready t _ hr]
  simp only [State.ilChan_clock, State.clock_now, hq, if_neg hthr]
  rfl

theorem lampMeasurement_yields (t : Nat) (c : IlCh) (mv : Nat) (p : IllPulse) (l : List IllPulse) (s : State) (hr : s.phase = .ready)
    (hp : (s.ilChan c).pulses = p :: l) (hhigh : p.start + ilMeasure ≤ p.stop) (hpast : p.start + ilMeasure ≤ max s.now t)
    (hnew : ∀ m ∈ (s.ilChan c).measured, m < p.start) (hopen : s.fu c (Reg.IL_CH_SNS_OPEN_THR c) ≤ mv) :
    Yields (.lampMeasurement t c mv) s fun x =>
      x.h (Reg.IL_CH_SENSE_MV c) = min mv (Reg.IL_CH_SENSE_MV c).top ∧ x.h (Reg.IL_CH_STAT_UNVERIFIED c) = 0 ∧ x.h (Reg.IL_CH_STAT_OPEN c) = 0
        ∧ (x.ilChan c).openCount = 0 ∧ OnlyFields [Reg.IL_CH_SENSE_MV c, Reg.IL_CH_STAT_UNVERIFIED c, Reg.IL_CH_STAT_OPEN c] s x
        ∧ Frame t [.fields, .illum] s x := by
  obtain ⟨q, hq⟩ := IlChan.toMeasure_of_newest hp hhigh hpast hnew
  obtain ⟨hsense, hunverified, hopened⟩ := (s.clock t).h_verify c mv q
  exact ⟨_, execLampMeasurement_of_high hr hq hopen, hsense, hunverified, hopened,
    congrArg IlChan.openCount ((s.clock t).ilChan_verify c mv q), (s.clock t).verify_only c mv q,
    Frame.of_untouched ((s.clock t).verify_untouched c mv q)⟩

/-! ### A short -/

/-- ILL is low where none of the channel's pulses is high. -/
theorem State.ill_of_noPulse {s : State} {c : Nat} (h : ∀ p ∈ (s.ilChan c).pulses, p.at s.now = false) : s.ill c = false := by
  have hnone : ((s.ilChan c).pulses.any fun p => p.at s.now) = false := by
    rw [List.any_eq_false]
    exact fun p hp => ne_true_of_eq_false (h p hp)
  rw [State.ill, hnone, Bool.and_false]

/-- A pulse that does not reach beyond an instant is low at it. -/
theorem IllPulse.at_of_stop_le {p : IllPulse} {x : Nat} (h : p.stop ≤ x) : p.at x = false := by
  simp [IllPulse.at, h]

/-- The pulse that is high at an instant ends there. -/
def IllPulse.endAt (x : Nat) (p : IllPulse) : IllPulse := if p.at x then { p with stop := x } else p

theorem IllPulse.at_endAt (x : Nat) (p : IllPulse) : (p.endAt x).at x = false := by
  unfold IllPulse.endAt
  split
  next => exact IllPulse.at_of_stop_le le_rfl
  next hlow => exact eq_false_of_ne_true hlow

theorem at_of_mem_cutPulses {x : Nat} {ps : List IllPulse} {p : IllPulse} (h : p ∈ cutPulses x ps) : p.at x = false := by
  obtain ⟨q, -, rfl⟩ := List.mem_map.mp h
  exact IllPulse.at_of_stop_le (min_le_right _ _)

/-- A short ends the pulse and counts (R266). -/
def State.cutShort (s : State) (c : Nat) : State :=
  (s.setIlChan c { s.ilChan c with shortNow := true, pulses := (s.ilChan c).pulses.map (IllPulse.endAt s.now) }).inc (Reg.IL_CH_FLT_CNT_COUNT c)

/-- The third period in a row with a short latches the channel off (R266). -/
def State.latchShort (s : State) (c : Nat) : State :=
  (((s.flag (Reg.IL_CH_STAT_LATCH c) true).flag (Reg.IL_CH_STAT_SHORT c) true).illLow c).raise .lampShort c 0

theorem execLampShortDetect_eq (t : Nat) (ils : IlsLevel) (s : State) : execLampShortDetect t ils s = s.run t fun s =>
    if s.ill ils.chan && decide (ils.mv > s.fu ils.chan (Reg.IL_CH_SNS_SHORT_THR ils.chan)) then
      if (s.ilChan ils.chan).shortRun + 1 ≥ 3 ∧ (s.cutShort ils.chan).h (Reg.IL_CH_STAT_LATCH ils.chan) = 0 then
        (s.cutShort ils.chan).latchShort ils.chan
      else s.cutShort ils.chan
    else s := rfl

theorem State.cutShort_kept (s : State) (c : Nat) : LampKept c s (s.cutShort c) :=
  ((refl c s).setIlChan _).inc (Nat.le_add_right_of_le (by decide))

theorem State.latchShort_kept (s : State) (c : Nat) : LampKept c s (s.latchShort c) :=
  ((((refl c s).flag (chStat_le c) true).flag (chStat_le c) true).illLow).raise _ _ _

theorem State.at_of_mem_cutShort (s : State) (c : Nat) : ∀ p ∈ ((s.cutShort c).ilChan c).pulses, p.at s.now = false := by
  intro p hp
  rw [State.cutShort, State.ilChan_inc, State.ilChan_setIlChan_same] at hp
  obtain ⟨q, -, rfl⟩ := List.mem_map.mp hp
  exact q.at_endAt s.now

theorem State.at_of_mem_latchShort (s : State) (c : Nat) : ∀ p ∈ ((s.latchShort c).ilChan c).pulses, p.at s.now = false := by
  intro p hp
  rw [State.latchShort, State.ilChan_raise, State.illLow, State.ilChan_setIlChan_same] at hp
  exact at_of_mem_cutPulses hp

theorem State.h_cutShort_count (s : State) (c : Nat) :
    (s.cutShort c).h (Reg.IL_CH_FLT_CNT_COUNT c) = min (s.h (Reg.IL_CH_FLT_CNT_COUNT c) + 1) (Reg.IL_CH_FLT_CNT_COUNT c).top := State.h_inc_same _ _

theorem State.h_latchShort_count (s : State) (c : Nat) : (s.latchShort c).h (Reg.IL_CH_FLT_CNT_COUNT c) = s.h (Reg.IL_CH_FLT_CNT_COUNT c) := by
  rw [State.latchShort, State.h_raise, State.h_illLow, State.h_flag_ne _ _ _ _ (Fld.key_ne_of_lo rfl),
    State.h_flag_ne _ _ _ _ (Fld.key_ne_of_lo rfl)]

theorem lampShortDetect_yields (t : Nat) (c : IlCh) (mv : Nat) (s : State) (hr : s.phase = .ready) (hill : (s.clock t).ill c = true)
    (hmv : s.fu c (Reg.IL_CH_SNS_SHORT_THR c) < mv) : Yields (.lampShortDetect t ⟨c, mv⟩) s fun x => x.ill c = false
      ∧ x.h (Reg.IL_CH_FLT_CNT_COUNT c) = min (s.h (Reg.IL_CH_FLT_CNT_COUNT c) + 1) (Reg.IL_CH_FLT_CNT_COUNT c).top
      ∧ Frame t [.fields, .illum, .events] s x := by
  refine Yields.of_run (execLampShortDetect t ⟨c, mv⟩) hr rfl (execLampShortDetect_eq t _ s) ?_
  have hmv' : mv > (s.clock t).fu c (Reg.IL_CH_SNS_SHORT_THR c) := hmv
  simp only [hill, hmv', decide_true, Bool.and_self, if_true]
  let y := (s.clock t).cutShort c
  have hcut : LampKept c (s.clock t) y := (s.clock t).cutShort_kept c
  split
  next => exact ⟨State.ill_of_noPulse (y.at_of_mem_latchShort c), (y.h_latchShort_count c).trans ((s.clock t).h_cutShort_count c),
    Frame.of_untouched (hcut.trans (y.latchShort_kept c)).rest⟩
  next => exact ⟨State.ill_of_noPulse ((s.clock t).at_of_mem_cutShort c), (s.clock t).h_cutShort_count c, Frame.of_untouched hcut.rest⟩

/-! ### Restart -/

theorem ilRestart_yields (t : Nat) (c : IlCh) (s : State) (hr : s.phase = .ready) : Yields (.ilRestart t c) s fun x =>
    x.h (Reg.IL_CH_STAT_LATCH c) = 0 ∧ (x.ilChan c).shortRun = 0 ∧ OnlyFields [Reg.IL_CH_STAT_LATCH c] s x
      ∧ (∀ d, d ≠ c.val → x.ilChan d = s.ilChan d) ∧ Frame t [.fields, .illum] s x := by
  refine Yields.of_run (execIlRestart t c) hr rfl rfl ?_
  let z : IlChan := { s.ilChan c with shortRun := 0, shortNow := false }
  let y := (s.clock t).setIlChan c z
  have hchan : (y.ilChan c).shortRun = 0 := congrArg IlChan.shortRun ((s.clock t).ilChan_setIlChan_same c z)
  have hlatch : (y.flag (Reg.IL_CH_STAT_LATCH c) false).h (Reg.IL_CH_STAT_LATCH c) = 0 := by
    rw [State.h_flag_same, if_neg (by decide), Nat.zero_min]
  exact ⟨hlatch, hchan, OnlyFields.flag (by simp) y false, fun _ hd => (s.clock t).ilChan_setIlChan_ne z hd,
    Frame.of_untouched ((State.setIlChan_untouched _ _ _).mono.trans (State.flag_untouched _ _ _).mono)⟩

end Sys2Proof.Machine

namespace Sys2Proof
open Machine

/-- Settles O35: a period begins with the STUCK check, the fade and the pulse, and neither the check nor the pulse moves the level
(newPeriod_spec); with the newest pulse to be measured there is a pulse that a measurement is of (toMeasure_of_newest); after a short no pulse
of the channel is high, whether it latches the channel off or not. -/
theorem lampsAreDrivenAndWatched : Obligations.LampsAreDrivenAndWatched := by
  unfold Obligations.LampsAreDrivenAndWatched
  exact ⟨pwmPeriodEnd_yields, lampMeasurement_yields, lampShortDetect_yields, ilRestart_yields⟩

end Sys2Proof
end

section
/-!
SUPPORT. A CSYNC edge may make a capture complete at once, where the sample of the trigger is stored already (R246, R249).
-/

namespace Sys2Proof.Machine

/-- Unit 0 fires at a rising CSYNC[0], and buffer 1 is ARMED on it for one sample from the trigger on, of converter channel 5; it holds two
samples, the second of which came at the present instant. -/
def sampleAtEdge : State :=
  ((({ State.reset with phase := .ready, now := 500 }).setAqUnit 0 { cfg := [0x60000, 0, 0, 0] }).setAqBuf 1
    { cfg := [0, 0x40005, 0, 2, 1, 1, 0], data := [7, 8], stamps := [(400, 0), (500, 0)] }).setH (Reg.AQ_BUF_STAT_STATE 1) 1

/-- The second sample is the trigger sample, and no further one is to come: the capture is complete and reported (R245). -/
theorem ev_csyncEdge_sampleAtEdge :
    ∃ x, exec (.csyncEdge 500 0 true 1000) sampleAtEdge = .next x ∧ x.ev.inbox.map (·.code) = [Ev.acqDone.code] :=
  ⟨_, rfl, by decide +kernel⟩

end Sys2Proof.Machine

namespace Sys2Proof
open Machine

/-- Refutes O36, in its first part: a CSYNC_EDGE need not leave the events as they were. In `sampleAtEdge` the edge is the trigger of a capture
whose samples are all stored, so that ACQ_DONE is reported with it (R245, R249). -/
theorem not_lampsAreDiagnosed : ¬ Obligations.LampsAreDiagnosed := by
  unfold Obligations.LampsAreDiagnosed
  rintro ⟨csyncEdge, -⟩
  obtain ⟨x, hx, -, -, -, -, -, -, -, frame⟩ := csyncEdge 500 0 true 1000 sampleAtEdge rfl
  obtain ⟨y, hy, reported⟩ := ev_csyncEdge_sampleAtEdge
  obtain rfl : x = y := Host.Outcome.next.inj (hx.symm.trans hy)
  have noReport : x.ev = sampleAtEdge.ev := frame .events (by decide)
  rw [noReport] at reported
  exact absurd reported (by decide +kernel)

end Sys2Proof
end

section
/-!
SUPPORT. The counters that the other CNT_CLR commands clear (R296, R326, R378, R406, R433, R457, R474), and DM_Q_PEAK, which goes on from the
occupancy of the moment (log entry 143).
-/

namespace Sys2Proof.Machine

/-- A command that is an application point completes while the die runs, where it leaves no stop of firing to be settled; what it says of the
state holds of what its operation left. -/
theorem Yields.of_runAt {c : Instr} {t : Nat} {s : State} {f : State → State} {P : State → Prop}
    (meaning : State → Host.Outcome State Fault Refusal) (hr : s.phase = .ready) (hc : exec c s = meaning s) (hm : meaning s = s.runAt t f)
    (hclose : (f (s.clock t)).sq.closeDue = false) (h : P (s.keep t (f (s.clock t)))) : Yields c s P :=
  Yields.of_run meaning hr hc hm (by rwa [State.settleStop_of_none hclose])

/-! ### Counters -/

/-- Counters to be cleared, no two of which are one field. -/
structure CounterList where
  fields : List Fld
  distinct : (fields.map Fld.key).Nodup

/-- A clear leaves in each counter of such a list what has arrived at it. -/
theorem CounterList.h_clear (l : CounterList) (s : State) {f : Fld} (hf : f ∈ l.fields) :
    (s.clear l.fields).h f = min (s.recentCount f) f.top :=
  s.h_clear_of_mem l.fields f hf l.distinct

/-- A command at an application point that clears counters. -/
theorem Yields.of_clearAt {c : Instr} {t : Nat} {s : State} (l : CounterList) (meaning : State → Host.Outcome State Fault Refusal)
    (hr : s.phase = .ready) (hclose : s.sq.closeDue = false) (hc : exec c s = meaning s) (hm : meaning s = s.runAt t fun s => s.clear l.fields) :
    Yields c s (Clears t l.fields s) :=
  Yields.of_runAt meaning hr hc hm ((congrArg Shepherd.closeDue (State.clear_sq _ _)).trans hclose)
    ⟨fun _ hf => l.h_clear (s.clock t) hf, OnlyFields.clear (s.clock t) l.fields, Frame.of_untouched (State.clear_untouched _ _)⟩

/-! ### Lanes -/

/-- The counters of a lane that LN_CNT_CLR clears. -/
def laneCounters (l : Nat) : List Fld :=
  [Reg.LN_CV_CNT_COUNT l, Reg.LN_MK_ERR_COUNT l, Reg.LN_FILL_DEL_COUNT l, Reg.LN_FILL_REP_COUNT l, Reg.LN_DOWN_CNT_COUNT l,
    Reg.LN_STUFF_CNT_COUNT l, Reg.LN_FEC_CORR_COUNT l, Reg.LN_FEC_UNCORR_COUNT l, Reg.LN_RETRY_COUNT l]

/-- The offset of a field's register within its quad's block. -/
def quadOffset (key : Nat) : Nat := key / 32 % 256

/-- A lane's counters stand one behind the other, in one of the four places of its quad's block. -/
theorem laneCounters_offsets (l : Nat) : (laneCounters l).map (fun f => quadOffset f.key) = List.range' (l % 4 * 16 + 22) 9 := by
  simp only [laneCounters, List.map_cons, List.map_nil, List.range', List.cons.injEq, and_true, quadOffset, Fld.key, Reg.LN_CV_CNT_COUNT,
    Reg.LN_CV_CNT, Reg.LN_MK_ERR_COUNT, Reg.LN_MK_ERR, Reg.LN_FILL_DEL_COUNT, Reg.LN_FILL_DEL, Reg.LN_FILL_REP_COUNT, Reg.LN_FILL_REP,
    Reg.LN_DOWN_CNT_COUNT, Reg.LN_DOWN_CNT, Reg.LN_STUFF_CNT_COUNT, Reg.LN_STUFF_CNT, Reg.LN_FEC_CORR_COUNT, Reg.LN_FEC_CORR,
    Reg.LN_FEC_UNCORR_COUNT, Reg.LN_FEC_UNCORR, Reg.LN_RETRY_COUNT, Reg.LN_RETRY]
  omega

theorem lnCounters_nodup (q : Nat) : (([4 * q, 4 * q + 1, 4 * q + 2, 4 * q + 3].flatMap laneCounters).map Fld.key).Nodup := by
  have hlane (i : Nat) (hi : i < 4) : (laneCounters (4 * q + i)).map (fun f => quadOffset f.key) = List.range' (i * 16 + 22) 9 := by
    rw [laneCounters_offsets, Nat.mul_add_mod, Nat.mod_eq_of_lt hi]
  have hfirst : (laneCounters (4 * q)).map (fun f => quadOffset f.key) = List.range' (0 * 16 + 22) 9 := hlane 0 (by decide)
  have hoffsets : (([4 * q, 4 * q + 1, 4 * q + 2, 4 * q + 3].flatMap laneCounters).map Fld.key).map quadOffset
      = [0, 1, 2, 3].flatMap fun i => List.range' (i * 16 + 22) 9 := by
    simp only [List.map_map, Function.comp_def, List.flatMap_cons, List.flatMap_nil, List.map_append, List.map_nil, hfirst,
      hlane 1 (by decide), hlane 2 (by decide), hlane 3 (by decide)]
  exact List.Nodup.of_map quadOffset (hoffsets ▸ by decide)

/-- The counters of a quad's lanes. -/
def quadCounters (q : Nat) : CounterList where
  fields := [4 * q, 4 * q + 1, 4 * q + 2, 4 * q + 3].flatMap laneCounters
  distinct := lnCounters_nodup q

/-! ### DM_Q_PEAK -/

/-- DM_Q_PEAK of some queues goes on from the occupancy of the moment. -/
def State.dmPeaks (s : State) (l : List Nat) : State := l.foldl (fun s q => s.dmPeak q) s

/-- What DM_CNT_CLR clears. -/
def dmCounters : CounterList where
  fields := (List.range 16).flatMap (fun q => [Reg.DM_Q_DISC_COUNT q, Reg.DM_Q_PEAK_PEAK q]) ++ (List.range 32).map Reg.DM_CH_DONE_CNT_COUNT
  distinct := by decide

theorem State.dmCntClr_eq (s : State) : s.dmCntClr = (s.clear dmCounters.fields).dmPeaks (List.range 16) := rfl

theorem dmPeak_key_inj {p q : Nat} (h : (Reg.DM_Q_PEAK_PEAK p).key = (Reg.DM_Q_PEAK_PEAK q).key) : p = q := by
  simp only [Fld.key, Reg.DM_Q_PEAK_PEAK, Reg.DM_Q_PEAK] at h
  omega

/-- No other counter that DM_CNT_CLR clears is a DM_Q_PEAK. -/
theorem dmPeak_not_counter {f : Fld} (h : f ∈ (List.range 16).map Reg.DM_Q_DISC_COUNT ++ (List.range 32).map Reg.DM_CH_DONE_CNT_COUNT) (q : Nat) :
    f.key ≠ (Reg.DM_Q_PEAK_PEAK q).key := by
  simp only [List.mem_append, List.mem_map] at h
  rcases h with ⟨p, -, rfl⟩ | ⟨p, -, rfl⟩
  · simp only [Fld.key, Reg.DM_Q_DISC_COUNT, Reg.DM_Q_DISC, Reg.DM_Q_PEAK_PEAK, Reg.DM_Q_PEAK]
    omega
  · simp only [Fld.key, Reg.DM_CH_DONE_CNT_COUNT, Reg.DM_CH_DONE_CNT, Reg.DM_Q_PEAK_PEAK, Reg.DM_Q_PEAK]
    omega

theorem State.h_dmPeaks_of_not_mem (s : State) (l : List Nat) (f : Fld) (hf : ∀ q ∈ l, f.key ≠ (Reg.DM_Q_PEAK_PEAK q).key) :
    (s.dmPeaks l).h f = s.h f :=
  List.foldlRecOn l _ (motive := fun x : State => x.h f = s.h f) rfl fun x hx q hq => (x.h_setH_ne _ f _ (hf q hq)).trans hx

theorem State.h_dmPeaks_of_mem {l : List Nat} (hl : l.Nodup) (s : State) {q : Nat} (hq : q ∈ l) :
    (s.dmPeaks l).h (Reg.DM_Q_PEAK_PEAK q) = min (max (s.h (Reg.DM_Q_PEAK_PEAK q)) (s.dmQueue q).units) (Reg.DM_Q_PEAK_PEAK q).top := by
  induction l generalizing s with
  | nil => simp at hq
  | cons p r ih =>
    obtain ⟨hp, hr⟩ := List.nodup_cons.mp hl
    rcases List.mem_cons.mp hq with rfl | hq
    · have hother : ∀ x ∈ r, (Reg.DM_Q_PEAK_PEAK q).key ≠ (Reg.DM_Q_PEAK_PEAK x).key := fun x hx he => hp ((dmPeak_key_inj he).symm ▸ hx)
      exact (State.h_dmPeaks_of_not_mem _ r _ hother).trans (s.h_setH_same _ _)
    · have hne : q ≠ p := fun he => hp (he ▸ hq)
      have hkept : (s.dmPeak p).h (Reg.DM_Q_PEAK_PEAK q) = s.h (Reg.DM_Q_PEAK_PEAK q) := s.h_setH_ne _ _ _ fun he => hne (dmPeak_key_inj he)
      rw [← hkept]
      exact ih hr (s.dmPeak p) hq

theorem State.dmPeaks_untouched (s : State) (l : List Nat) : Untouched [.fields] s (s.dmPeaks l) :=
  Untouched.foldl (fun (s : State) (q : Nat) => s.dmPeak q) (fun s _ => s.setH_untouched _ _) l s

theorem State.dmPeaks_only (s : State) : OnlyFields dmCounters.fields s (s.dmPeaks (List.range 16)) :=
  OnlyFields.foldl (fun (s : State) (q : Nat) => s.dmPeak q) (List.range 16)
    (fun s q hq => OnlyFields.setH (List.mem_append_left _ (List.mem_flatMap.mpr ⟨q, hq, by simp⟩)) s _) s

theorem State.dmCntClr_spec (s : State) :
    (∀ f ∈ (List.range 16).map Reg.DM_Q_DISC_COUNT ++ (List.range 32).map Reg.DM_CH_DONE_CNT_COUNT, s.dmCntClr.h f = min (s.recentCount f) f.top)
      ∧ (∀ q, q < 16 → s.dmCntClr.h (Reg.DM_Q_PEAK_PEAK q)
          = min (max (min (s.recentCount (Reg.DM_Q_PEAK_PEAK q)) (Reg.DM_Q_PEAK_PEAK q).top) (s.dmQueue q).units) (Reg.DM_Q_PEAK_PEAK q).top)
      ∧ OnlyFields dmCounters.fields s s.dmCntClr ∧ Untouched [.fields] s s.dmCntClr := by
  rw [State.dmCntClr_eq]
  refine ⟨fun f hf => ?_, fun q hq => ?_, ?_, ?_⟩
  · have hmem : f ∈ dmCounters.fields := by
      simp only [dmCounters, List.mem_append, List.mem_map, List.mem_flatMap] at hf ⊢
      rcases hf with ⟨q, hq, rfl⟩ | hf
      · exact .inl ⟨q, hq, by simp⟩
      · exact .inr hf
    rw [State.h_dmPeaks_of_not_mem _ _ f (fun q _ => dmPeak_not_counter hf q), dmCounters.h_clear s hmem]
  · have hq' : q ∈ List.range 16 := List.mem_range.mpr hq
    have hmem : Reg.DM_Q_PEAK_PEAK q ∈ dmCounters.fields := List.mem_append_left _ (List.mem_flatMap.mpr ⟨q, hq', by simp⟩)
    have hqueue : (s.clear dmCounters.fields).dmQueue q = s.dmQueue q := by rw [State.dmQueue, State.clear_dm, State.dmQueue]
    rw [State.h_dmPeaks_of_mem List.nodup_range _ hq', hqueue, dmCounters.h_clear s hmem]
  · exact (OnlyFields.clear s dmCounters.fields).trans (State.dmPeaks_only _)
  · exact (State.clear_untouched _ _).trans (State.dmPeaks_untouched _ _)

theorem dmCntClr_yields (t : Nat) (s : State) (hr : s.phase = .ready) : Yields (.dmCntClr t) s fun x =>
    (∀ f ∈ (List.range 16).map Reg.DM_Q_DISC_COUNT ++ (List.range 32).map Reg.DM_CH_DONE_CNT_COUNT, x.h f = min ((s.clock t).recentCount f) f.top)
      ∧ (∀ q, q < 16 → x.h (Reg.DM_Q_PEAK_PEAK q)
          = min (max (min ((s.clock t).recentCount (Reg.DM_Q_PEAK_PEAK q)) (Reg.DM_Q_PEAK_PEAK q).top) (s.dmQueue q).units) (Reg.DM_Q_PEAK_PEAK q).top)
      ∧ OnlyFields dmCounters.fields s x ∧ Frame t [.fields] s x := by
  refine Yields.of_run (execDmCntClr t) hr rfl rfl ?_
  obtain ⟨hcounts, hpeaks, honly, hrest⟩ := (s.clock t).dmCntClr_spec
  generalize (s.clock t).dmCntClr = y at *
  exact ⟨hcounts, hpeaks, honly, Frame.of_untouched hrest⟩

/-! ### TH_TJ_MAX -/

/-- The counters that TH_CNT_CLR clears; beside them it sets TH_TJ_MAX. -/
def thCounters : CounterList where
  fields := [Reg.TH_STEP_CNT_COUNT, Reg.TH_SKIP_CNT_COUNT, Reg.TH_SENS_FAIL_COUNT, Reg.TH_FIRE_INH_CNT_COUNT, Reg.TH_SHUT_CNT_COUNT,
    Reg.TH_CAL_RUN_COUNT, Reg.TH_CAL_FAIL_COUNT, Reg.TH_CAL_LATE_COUNT]
  distinct := by decide

theorem State.thCntClr_eq (s : State) : s.thCntClr = (s.clear thCounters.fields).setH Reg.TH_TJ_MAX_TJ 0x80000 := rfl

theorem tjMax_not_counter : ∀ f ∈ thCounters.fields, f.key ≠ Reg.TH_TJ_MAX_TJ.key := by decide

theorem State.thCntClr_spec (s : State) : (∀ f ∈ thCounters.fields, s.thCntClr.h f = min (s.recentCount f) f.top)
    ∧ s.thCntClr.h Reg.TH_TJ_MAX_TJ = 0x80000 ∧ OnlyFields (thCounters.fields ++ [Reg.TH_TJ_MAX_TJ]) s s.thCntClr
    ∧ Untouched [.fields] s s.thCntClr := by
  rw [State.thCntClr_eq]
  refine ⟨fun f hf => ?_, ?_, ?_, ?_⟩
  · rw [State.h_setH_ne _ _ f _ (tjMax_not_counter f hf), thCounters.h_clear s hf]
  · rw [State.h_setH_same]
    decide
  · exact ((OnlyFields.clear s thCounters.fields).mono (List.subset_append_left _ _)).then_setH (List.mem_append_right _ (List.mem_singleton_self _)) _
  · exact (State.clear_untouched _ _).trans (State.setH_untouched _ _ _)

theorem thCntClr_yields (t : Nat) (s : State) (hr : s.phase = .ready) : Yields (.thCntClr t) s fun x =>
    (∀ f ∈ thCounters.fields, x.h f = min ((s.clock t).recentCount f) f.top) ∧ x.h Reg.TH_TJ_MAX_TJ = 0x80000
      ∧ OnlyFields (thCounters.fields ++ [Reg.TH_TJ_MAX_TJ]) s x ∧ Frame t [.fields] s x := by
  refine Yields.of_run (execThCntClr t) hr rfl rfl ?_
  obtain ⟨hcounts, hmax, honly, hrest⟩ := (s.clock t).thCntClr_spec
  generalize (s.clock t).thCntClr = y at *
  exact ⟨hcounts, hmax, honly, Frame.of_untouched hrest⟩

end Sys2Proof.Machine

namespace Sys2Proof
open Machine

/-- Settles O7: a clear leaves in each listed counter what has arrived at it, as long as no two of the list are one field; after the
clear of the DM_ counters each DM_Q_PEAK is raised to its queue's occupancy (h_dmPeaks_of_mem), and after that of the TH_ counters TH_TJ_MAX
is set (thCntClr_spec). -/
theorem countersClearedToo : Obligations.CountersClearedToo := by
  unfold Obligations.CountersClearedToo
  exact ⟨fun t q _ hr hclose => Yields.of_clearAt (quadCounters q) (execLnCntClr t q) hr hclose rfl rfl,
    fun t _ hr => Yields.of_clear (execFlCntClr t) hr rfl rfl (by decide),
    dmCntClr_yields,
    fun t _ hr => Yields.of_clear (execCmCntClr t) hr rfl rfl (by decide),
    fun t _ hr => Yields.of_clear (execCfCntClr t) hr rfl rfl (by decide),
    fun t _ hr => Yields.of_clear (execPwCntClr t) hr rfl rfl (by decide),
    thCntClr_yields⟩

end Sys2Proof
end

section
/-!
SUPPORT. Lanes read back, and what the operations that move a lane between the states of Table 11.4 write: its own STATE, the LOCK of its
quad, and what is dropped and counted for consumers that can no longer be reached (R273, R293, R365).
-/

namespace Sys2Proof.Machine

/-! ### Lanes -/

@[simp] theorem State.lane_setLane_same (s : State) (l : Nat) (x : LaneState) : (s.setLane l x).lane l = x := Tab.get_set_same _ _ _ _

@[simp] theorem State.h_setLane (s : State) (l : Nat) (x : LaneState) (f : Fld) : (s.setLane l x).h f = s.h f := rfl

theorem State.lane_congr {s x : State} (h : x.ln = s.ln) (l : Nat) : x.lane l = s.lane l := by
  rw [State.lane, State.lane, h]

@[simp] theorem State.link_setLink_same (s : State) (l : Nat) (x : Link) : (s.setLink l x).link l = x := Tab.get_set_same _ _ _ _

/-- A link of one lane consists of that lane. -/
theorem State.linkLanes_of_one {s : State} {l : Nat} (h : s.linkOf l = (l, 1)) : s.linkLanes l = [l] := by
  simp [State.linkLanes, h]

/-- A link does not reach beyond the quad of its lanes (R289). -/
theorem State.linkOf_le (s : State) (l : Nat) : (s.linkOf l).1 + (s.linkOf l).2 ≤ l / 4 * 4 + 4 := by
  unfold State.linkOf
  dsimp only
  split
  · omega
  · omega
  · split <;> omega
  · split <;> omega
  · omega

theorem State.lt_of_mem_linkLanes {s : State} {l d : Nat} (hl : l < 144) (hd : d ∈ s.linkLanes l) : d < 144 := by
  obtain ⟨i, hi, rfl⟩ := List.mem_map.mp hd
  have hlink := s.linkOf_le l
  have hi := List.mem_range.mp hi
  omega

/-! ### The fields that a move writes -/

theorem OnlyFields.add {l : List Fld} {f : Fld} (hf : f ∈ l) (s : State) (n : Nat) : OnlyFields l s (s.add f n) :=
  fun g hg => s.h_add_ne f g n fun he => hg (he ▸ List.mem_map_of_mem hf)

theorem State.setLane_untouched (s : State) (l : Nat) (x : LaneState) : Untouched [.lanes] s (s.setLane l x) := by
  intro g hg
  cases g <;> simp [Group.same] at hg ⊢

/-- Copies that wait for consumers that cannot be reached are dropped, and only counted (R365). -/
theorem State.dropDown_only (s : State) : OnlyFields [Reg.FL_SUB_DROP_COUNT] s s.dropDown := by
  refine OnlyFields.foldl _ _ (fun s u _ => ?_) s
  unfold State.dropSubCopies
  split
  · exact (OnlyFields.of_regs rfl).trans (OnlyFields.add (List.mem_singleton_self _) _ _)
  · exact OnlyFields.of_regs rfl

theorem State.toLane_untouched (s : State) (l st : Nat) : Untouched [.fields, .lanes, .delivery] s (s.toLane l st) := by
  intro g hg
  cases g <;> simp [Group.same] at hg ⊢

/-- The fields that a lane's move between states writes. -/
def moveFields (l : Nat) : List Fld := [Reg.LN_LANE_STAT_STATE l, Reg.LN_QUAD_STAT_LOCK (l / 4), Reg.FL_SUB_DROP_COUNT]

theorem State.toLane_only (s : State) (l st : Nat) : OnlyFields (moveFields l) s (s.toLane l st) := by
  have hstate : OnlyFields (moveFields l) s (s.setH (Reg.LN_LANE_STAT_STATE l) st) := OnlyFields.setH (by simp [moveFields]) s st
  have hlane : OnlyFields (moveFields l) s ((s.setH (Reg.LN_LANE_STAT_STATE l) st).setLane l { s.lane l with since := s.now }) :=
    hstate.trans (OnlyFields.of_regs rfl)
  have hpll (x : State) : OnlyFields (moveFields l) x (x.pllLock (l / 4)) := OnlyFields.setH (by simp [moveFields]) x _
  exact (hlane.trans (hpll _)).trans ((State.dropDown_only _).mono (by simp [moveFields]))

/-- All the fields that a move writes begin at bit 0. -/
theorem not_moveField_of_lo {f : Fld} (h : (f.lo % 32 == 0) = false) (l : Nat) : f.key ∉ (moveFields l).map Fld.key := by
  rw [beq_eq_false_iff_ne] at h
  simp only [moveFields, List.map_cons, List.map_nil, List.mem_cons, List.not_mem_nil, or_false, Fld.key, Reg.LN_LANE_STAT_STATE,
    Reg.LN_QUAD_STAT_LOCK, Reg.FL_SUB_DROP_COUNT]
  omega

/-- The STATE of another lane is none of them. -/
theorem laneState_not_moveField {d l : Nat} (hd : d < 144) (h : d ≠ l) : (Reg.LN_LANE_STAT_STATE d).key ∉ (moveFields l).map Fld.key := by
  simp only [moveFields, List.map_cons, List.map_nil, List.mem_cons, List.not_mem_nil, or_false, Fld.key, Reg.LN_LANE_STAT_STATE,
    Reg.LN_LANE_STAT, Reg.LN_QUAD_STAT_LOCK, Reg.LN_QUAD_STAT, Reg.FL_SUB_DROP_COUNT, Reg.FL_SUB_DROP]
  omega

theorem lanePpm_not_moveField (l : Nat) : (Reg.LN_PPM_PPM l).key ∉ (moveFields l).map Fld.key := by
  simp only [moveFields, List.map_cons, List.map_nil, List.mem_cons, List.not_mem_nil, or_false, Fld.key, Reg.LN_LANE_STAT_STATE,
    Reg.LN_LANE_STAT, Reg.LN_QUAD_STAT_LOCK, Reg.LN_QUAD_STAT, Reg.FL_SUB_DROP_COUNT, Reg.FL_SUB_DROP, Reg.LN_PPM_PPM, Reg.LN_PPM]
  omega

theorem laneState_ne_fill (l d : Nat) : (Reg.LN_LANE_STAT_STATE l).key ≠ (Reg.LN_EB_FILL d).key := by
  simp only [Fld.key, Reg.LN_LANE_STAT_STATE, Reg.LN_LANE_STAT, Reg.LN_EB_FILL, Reg.LN_EB]
  omega

/-! ### A lane in its new state -/

theorem laneState_ne_lock_subDrop (l : Nat) (hl : l < 144) :
    (Reg.LN_LANE_STAT_STATE l).key ≠ (Reg.LN_QUAD_STAT_LOCK (l / 4)).key ∧ (Reg.LN_LANE_STAT_STATE l).key ≠ Reg.FL_SUB_DROP_COUNT.key := by
  simp only [Fld.key, Reg.LN_LANE_STAT_STATE, Reg.LN_LANE_STAT, Reg.LN_QUAD_STAT_LOCK, Reg.LN_QUAD_STAT, Reg.FL_SUB_DROP_COUNT, Reg.FL_SUB_DROP]
  omega

theorem State.laneSt_toLane_same (s : State) {l st : Nat} (hl : l < 144) (hst : st < 16) : (s.toLane l st).laneSt l = st := by
  obtain ⟨hlock, hdrop⟩ := laneState_ne_lock_subDrop l hl
  rw [State.toLane, State.laneSt, State.dropDown_only _ _ (by simpa using hdrop), State.pllLock, State.h_setH_ne _ _ _ _ hlock, State.h_setLane,
    State.h_setH_same]
  exact Nat.min_eq_left (Nat.le_of_lt_succ hst)

theorem State.laneSt_toLane_ne (s : State) {d l : Nat} (hd : d < 144) (h : d ≠ l) (st : Nat) : (s.toLane l st).laneSt d = s.laneSt d :=
  s.toLane_only l st _ (laneState_not_moveField hd h)

theorem State.lane_toLane_same (s : State) (l st : Nat) : (s.toLane l st).lane l = { s.lane l with since := s.now } := by
  have hln : (s.toLane l st).ln = ((s.setH (Reg.LN_LANE_STAT_STATE l) st).setLane l { s.lane l with since := s.now }).ln := by simp [State.toLane]
  rw [State.lane_congr hln, State.lane_setLane_same]

end Sys2Proof.Machine
end

section
/-!
SUPPORT. The training of a lane (R277, R280, R286 to R289): energy, lock, alignment, offers, the chosen rate, and a link that enters UP.
-/

namespace Sys2Proof.Machine

/-! ### Energy and lock (R286) -/

/-- A command of lanes completes, at an application point, with what the state is then said to be. -/
theorem Yields.of_laneOp {c : Instr} {t : Nat} {s : State} {f : State → State} {P : State → Prop} {g : List Group} {y : State}
    (meaning : State → Host.Outcome State Fault Refusal) (hr : s.phase = .ready) (hclose : s.sq.closeDue = false) (hc : exec c s = meaning s)
    (hm : meaning s = s.runAt t f) (hy : f (s.clock t) = y) (hrest : Untouched g (s.clock t) y) (hsq : Group.shepherd ∉ g)
    (h : Frame t g s (s.keep t y) → P (s.keep t y)) : Yields c s P := by
  have hkept : y.sq = s.sq := hrest .shepherd hsq
  subst hy
  exact Yields.of_runAt meaning hr hc hm ((congrArg Shepherd.closeDue hkept).trans hclose) (h (Frame.of_untouched hrest))

theorem laneEnergyDetect_yields (t : Nat) (l : Lane) (s : State) (hr : s.phase = .ready) (hclose : s.sq.closeDue = false) (hst : s.laneSt l = 1)
    (hmode : s.laneMode l = 0) (hlive : s.quadLive l = true) (hpend : s.trainPending l = false) : Yields (.laneEnergyDetect t l) s fun x =>
      x.laneSt l = 2 ∧ (x.lane l).since = max s.now t
        ∧ OnlyFields [Reg.LN_LANE_STAT_STATE l, Reg.LN_QUAD_STAT_LOCK (l / 4), Reg.FL_SUB_DROP_COUNT] s x
        ∧ Frame t [.fields, .lanes, .delivery] s x := by
  have hdetect : (s.clock t).laneSt l = 1 ∧ (s.clock t).laneMode l = 0 ∧ (s.clock t).quadLive l = true := ⟨hst, hmode, hlive⟩
  have hnone : (s.clock t).trainPending l = false := hpend
  have hstate := (s.clock t).laneSt_toLane_same l.isLt (st := 2) (by decide)
  have hlane := (s.clock t).lane_toLane_same l 2
  have honly := (s.clock t).toLane_only l 2
  refine Yields.of_laneOp (y := (s.clock t).toLane l 2) (execLaneEnergyDetect t l) hr hclose rfl rfl ?_ (State.toLane_untouched _ _ _) (by simp) ?_
  · simp only [hnone, Bool.false_eq_true, if_false, if_pos hdetect]
  · generalize (s.clock t).toLane l 2 = y at *
    exact fun hframe => ⟨hstate, congrArg LaneState.since hlane, honly, hframe⟩

theorem laneClockLock_yields (t : Nat) (l : Lane) (v : Score) (s : State) (hr : s.phase = .ready) (hclose : s.sq.closeDue = false)
    (hst : s.laneSt l = 2 ∨ s.laneSt l = 3) : Yields (.laneClockLock t l v) s fun x =>
      x.laneSt l = 4 ∧ x.h (Reg.LN_PPM_PPM l) = min v.toNat (Reg.LN_PPM_PPM l).top
        ∧ OnlyFields [Reg.LN_LANE_STAT_STATE l, Reg.LN_QUAD_STAT_LOCK (l / 4), Reg.LN_PPM_PPM l, Reg.FL_SUB_DROP_COUNT] s x
        ∧ Frame t [.fields, .lanes, .delivery] s x := by
  have hlock : (s.clock t).laneSt l = 2 ∨ (s.clock t).laneSt l = 3 := hst
  let z := (s.clock t).setH (Reg.LN_PPM_PPM l) v.toNat
  have hstate := z.laneSt_toLane_same l.isLt (st := 4) (by decide)
  have hppm : (z.toLane l 4).h (Reg.LN_PPM_PPM l) = min v.toNat (Reg.LN_PPM_PPM l).top :=
    (z.toLane_only l 4 _ (lanePpm_not_moveField l)).trans (State.h_setH_same _ _ _)
  have honly : OnlyFields [Reg.LN_LANE_STAT_STATE l, Reg.LN_QUAD_STAT_LOCK (l / 4), Reg.LN_PPM_PPM l, Reg.FL_SUB_DROP_COUNT] (s.clock t)
      (z.toLane l 4) :=
    (OnlyFields.setH (by simp) _ _).trans ((z.toLane_only l 4).mono (by simp [moveFields]))
  have hrest : Untouched [.fields, .lanes, .delivery] (s.clock t) (z.toLane l 4) :=
    (State.setH_untouched _ _ _).mono.trans (State.toLane_untouched _ _ _)
  refine Yields.of_laneOp (y := z.toLane l 4) (execLaneClockLock t l v) hr hclose rfl rfl (if_pos hlock) hrest (by simp) ?_
  generalize z.toLane l 4 = y at *
  exact fun hframe => ⟨hstate, hppm, honly, hframe⟩

/-! ### Alignment (R277, R280) -/

theorem State.receiveBits_untouched (s : State) (l : Nat) (line : List Bool) : Untouched [.fields, .lanes] s (s.receiveBits l line).1 := by
  intro g hg
  cases g <;> simp [Group.same] at hg ⊢

/-- Of the lane, line bits that reach the receiver move only the run of equal bits on. -/
theorem State.lane_receiveBits (s : State) (l : Nat) (line : List Bool) :
    (s.receiveBits l line).1.lane l = { s.lane l with rxRun := (destuff (s.lane l).rxRun line).2.1 } := by
  have hln : (s.receiveBits l line).1.ln = (s.setLane l { s.lane l with rxRun := (destuff (s.lane l).rxRun line).2.1 }).ln := by
    simp [State.receiveBits]
  rw [State.lane_congr hln, State.lane_setLane_same]

/-- An alignment is found: its polarity is shown, and the descrambler follows the blocks that show it (R275, R280). -/
def State.align (s : State) (l : Nat) (inv : Bool) (bs : List Bool) : State :=
  (s.flag (Reg.LN_LANE_STAT_RX_INV_DET l) inv).setLane l
    { s.lane l with missed := 0, descr := descrBlocks 3 (s.lane l).descr ((lineScores bs).map (polar inv)) }

theorem State.lane_align (s : State) (l : Nat) (inv : Bool) (bs : List Bool) :
    (s.align l inv bs).lane l = { s.lane l with missed := 0, descr := descrBlocks 3 (s.lane l).descr ((lineScores bs).map (polar inv)) } :=
  State.lane_setLane_same _ _ _

theorem State.align_untouched (s : State) (l : Nat) (inv : Bool) (bs : List Bool) : Untouched [.fields, .lanes] s (s.align l inv bs) :=
  (State.flag_untouched _ _ _).mono.trans (State.setLane_untouched _ _ _).mono

theorem State.h_align (s : State) (l : Nat) (inv : Bool) (bs : List Bool) :
    (s.align l inv bs).h (Reg.LN_LANE_STAT_RX_INV_DET l) = if inv then 1 else 0 := by
  rw [State.align, State.h_setLane, State.h_flag_same]
  cases inv <;> rfl

/-- What LANE_ALIGN makes of the line bits: with an alignment in them the lane goes to DESKEW after GO, else to OFFER. -/
def State.lookForAlignment (s : State) (l : Nat) (line : List Bool) : State :=
  let r := s.receiveBits l line
  match findAlignment r.2 with
  | none => r.1
  | some (inv, bs) => (r.1.align l inv bs).toLane l (if ((r.1.align l inv bs).lane l).go then 7 else 5)

theorem execLaneAlign_eq (t : Nat) (l : Lane) (m1 m2 m3 : List Bool) (s : State) : execLaneAlign t l m1 m2 m3 s
    = s.runAt t fun s => if s.laneSt l ≠ 4 then s else s.lookForAlignment l (m1 ++ m2 ++ m3) := rfl

theorem State.lookForAlignment_of_found {s : State} {l : Nat} {line bs : List Bool} {inv : Bool}
    (h : findAlignment (destuff (s.lane l).rxRun line).1 = some (inv, bs)) :
    s.lookForAlignment l line = ((s.receiveBits l line).1.align l inv bs).toLane l (if (s.lane l).go then 7 else 5) := by
  have hbits : findAlignment (s.receiveBits l line).2 = some (inv, bs) := h
  simp only [State.lookForAlignment, hbits, State.lane_align, State.lane_receiveBits]

theorem laneAlign_yields (t : Nat) (l : Lane) (m1 m2 m3 : List Bool) (i : Bool) (bs : List Bool) (s : State) (hr : s.phase = .ready)
    (hclose : s.sq.closeDue = false) (hst : s.laneSt l = 4) (hfind : findAlignment (destuff (s.lane l).rxRun (m1 ++ m2 ++ m3)).1 = some (i, bs)) :
    Yields (.laneAlign t l m1 m2 m3) s fun x => x.laneSt l = (if (s.lane l).go then 7 else 5)
      ∧ x.h (Reg.LN_LANE_STAT_RX_INV_DET l) = (if i then 1 else 0) ∧ (x.lane l).missed = 0 ∧ Frame t [.fields, .lanes, .delivery] s x := by
  let st := if (s.lane l).go then 7 else 5
  let z := ((s.clock t).receiveBits l (m1 ++ m2 ++ m3)).1.align l i bs
  have hsmall : st < 16 := by
    unfold st
    split <;> decide
  have hstate := z.laneSt_toLane_same l.isLt hsmall
  have hinv : (z.toLane l st).h (Reg.LN_LANE_STAT_RX_INV_DET l) = (if i then 1 else 0) :=
    (z.toLane_only l st _ (not_moveField_of_lo rfl l)).trans (State.h_align _ _ _ _)
  have hmissed : ((z.toLane l st).lane l).missed = 0 := by rw [State.lane_toLane_same, State.lane_align]
  have hrest : Untouched [.fields, .lanes, .delivery] (s.clock t) (z.toLane l st) :=
    ((State.receiveBits_untouched _ _ _).trans (State.align_untouched _ _ _ _)).mono.trans (State.toLane_untouched _ _ _)
  refine Yields.of_laneOp (y := z.toLane l st) (execLaneAlign t l m1 m2 m3) hr hclose rfl (execLaneAlign_eq t l m1 m2 m3 s) ?_ hrest (by simp) ?_
  · exact (if_neg (not_not.mpr hst)).trans (State.lookForAlignment_of_found (s := s.clock t) hfind)
  · generalize z.toLane l st = y at *
    exact fun hframe => ⟨hstate, hinv, hmissed, hframe⟩

/-! ### Offers (R286 to R288) -/

/-- The partner's offer is noted. -/
def State.hearOffer (s : State) (l : Nat) (x : T0) : State := s.setLane l { s.lane l with rxT0 := none, peer := some x }

theorem State.lane_hearOffer (s : State) (l : Nat) (x : T0) : (s.hearOffer l x).lane l = { s.lane l with rxT0 := none, peer := some x } :=
  State.lane_setLane_same _ _ _

/-- The rate is chosen: the lane sends GO. -/
def State.chooseRate (s : State) (l r : Nat) : State :=
  let s := s.setLane l { s.lane l with mismatch := false }
  (s.setLane l { s.lane l with chosen := r, go := true, goSent := 0 }).toLane l 6

theorem State.chooseRate_untouched (s : State) (l r : Nat) : Untouched [.fields, .lanes, .delivery] s (s.chooseRate l r) :=
  ((State.setLane_untouched _ _ _).trans (State.setLane_untouched _ _ _)).mono.trans (State.toLane_untouched _ _ _)

theorem State.lane_chooseRate (s : State) (l r : Nat) : ((s.chooseRate l r).lane l).chosen = r ∧ ((s.chooseRate l r).lane l).go = true := by
  unfold State.chooseRate
  rw [State.lane_toLane_same, State.lane_setLane_same]
  exact ⟨rfl, rfl⟩

/-- A chosen rate below the highest of one's own is reported. -/
def State.reportRate (s : State) (l r : Nat) : State :=
  if (highestRate (s.ownRates l)).any (fun h => decide (r < h)) then s.raise .laneRate l r else s

theorem State.reportRate_untouched (s : State) (l r : Nat) : Untouched [.events] s (s.reportRate l r) := by
  unfold State.reportRate
  split
  · exact State.raise_untouched _ _ _ _
  · exact Untouched.refl _ _

theorem State.regs_reportRate (s : State) (l r : Nat) : (s.reportRate l r).regs = s.regs := by
  unfold State.reportRate
  split <;> rfl

/-- What TRAINING_SCORE makes of the T0 of the last TRAIN superframe. -/
def State.lookAtOffer (s : State) (l : Nat) (x : T0) : State :=
  let s := s.hearOffer l x
  if s.laneSt l ≠ 5 then s
  else if x.width ≠ widthCode (s.linkOf l).2 then s.laneMismatch l 2
  else if x.idx ≠ l - (s.linkOf l).1 then s.laneMismatch l 3
  else
    let lanes := s.linkLanes l
    let peers := lanes.map fun d => (s.lane d).peer
    if peers.any (·.isNone) then s
    else
      match highestRate ((lanes.map s.ownRates ++ peers.map fun p => (p.map (·.rates)).getD 0).foldl (· &&& ·) 7) with
      | none => s.laneMismatch l 1
      | some r => if x.locked then (s.chooseRate l r).reportRate l r else s.setLane l { s.lane l with mismatch := false }

theorem execTrainingScore_eq (t : Nat) (l : Lane) (v : Score) (s : State) : execTrainingScore t l v s
    = s.runAt t fun s => if (s.lane l).rxT0 ≠ some v then s else s.lookAtOffer l (readT0 v) := rfl

theorem State.linkOf_hearOffer (s : State) (l : Nat) (x : T0) (d : Nat) : (s.hearOffer l x).linkOf d = s.linkOf d := State.linkOf_congr rfl d

theorem State.lookAtOffer_of_width {s : State} {l : Nat} {x : T0} (hst : s.laneSt l = 5) (hlink : s.linkOf l = (l, 1)) (hwidth : x.width ≠ 0) :
    s.lookAtOffer l x = (s.hearOffer l x).laneMismatch l 2 := by
  have hst' : (s.hearOffer l x).laneSt l = 5 := hst
  have hother : x.width ≠ widthCode ((s.hearOffer l x).linkOf l).2 := by
    rw [State.linkOf_hearOffer, hlink]
    exact hwidth
  rw [State.lookAtOffer, if_neg (not_not.mpr hst'), if_pos hother]

/-- On a link of one lane the offers in question are the lane's own and that of the T0 (R287). -/
theorem State.lookAtOffer_of_agreed {s : State} {l r : Nat} {x : T0} (hst : s.laneSt l = 5) (hlink : s.linkOf l = (l, 1)) (hwidth : x.width = 0)
    (hidx : x.idx = 0) (hlocked : x.locked = true) (hrate : highestRate (7 &&& s.ownRates l &&& x.rates) = some r) :
    s.lookAtOffer l x = ((s.hearOffer l x).chooseRate l r).reportRate l r := by
  have hst' : (s.hearOffer l x).laneSt l = 5 := hst
  have hlink' : (s.hearOffer l x).linkOf l = (l, 1) := (s.linkOf_hearOffer l x l).trans hlink
  have hrate' : highestRate (7 &&& (s.hearOffer l x).ownRates l &&& x.rates) = some r := hrate
  simp [State.lookAtOffer, hst', hlink', State.linkLanes_of_one hlink', State.lane_hearOffer, widthCode, hwidth, hidx, hlocked, hrate']

theorem State.laneMismatch_untouched (s : State) (l why : Nat) : Untouched [.fields, .lanes, .events] s (s.laneMismatch l why) := by
  intro g hg
  cases g <;> simp [Group.same] at hg ⊢

theorem State.laneMismatch_regs (s : State) (l why : Nat) : (s.laneMismatch l why).regs = (s.flag (Reg.LN_LANE_STAT_MISMATCH l) true).regs := by
  unfold State.laneMismatch
  dsimp only
  split
  · rfl
  · simp

theorem State.h_laneMismatch_same (s : State) (l why : Nat) : (s.laneMismatch l why).h (Reg.LN_LANE_STAT_MISMATCH l) = 1 := by
  rw [State.h_congr (s.laneMismatch_regs l why), State.h_flag_same]
  rfl

theorem State.laneSt_laneMismatch (s : State) (l why : Nat) : (s.laneMismatch l why).laneSt l = s.laneSt l := by
  rw [State.laneSt, State.h_congr (s.laneMismatch_regs l why), State.h_flag_ne _ _ _ _ (Fld.key_ne_of_lo rfl), State.laneSt]

theorem trainingScore_agreed (t : Nat) (l : Lane) (v : Score) (r : Nat) (s : State) (hr : s.phase = .ready) (hclose : s.sq.closeDue = false)
    (hst : s.laneSt l = 5) (hlink : s.linkOf l = (l.val, 1)) (ht0 : (s.lane l).rxT0 = some v) (hwidth : (readT0 v).width = 0)
    (hidx : (readT0 v).idx = 0) (hlocked : (readT0 v).locked = true) (hrate : highestRate (7 &&& s.ownRates l &&& (readT0 v).rates) = some r) :
    Yields (.trainingScore t l v) s fun x => x.laneSt l = 6 ∧ (x.lane l).chosen = r ∧ (x.lane l).go = true
      ∧ Frame t [.fields, .lanes, .events, .delivery] s x := by
  let z := ((s.clock t).hearOffer l (readT0 v)).chooseRate l r
  obtain ⟨hchosen, hgo⟩ := State.lane_chooseRate ((s.clock t).hearOffer l (readT0 v)) l r
  have hln : (z.reportRate l r).ln = z.ln := z.reportRate_untouched l r .lanes (by simp)
  rw [← State.lane_congr hln] at hchosen hgo
  have hstate : (z.reportRate l r).laneSt l = 6 :=
    (State.h_congr (z.regs_reportRate l r) _).trans (State.laneSt_toLane_same _ l.isLt (by decide))
  have hrest : Untouched [.fields, .lanes, .events, .delivery] (s.clock t) (z.reportRate l r) :=
    ((State.setLane_untouched _ _ _).mono.trans (State.chooseRate_untouched _ _ _).mono).trans (State.reportRate_untouched _ _ _).mono
  refine Yields.of_laneOp (y := z.reportRate l r) (execTrainingScore t l v) hr hclose rfl (execTrainingScore_eq t l v s) ?_ hrest (by simp) ?_
  · exact (if_neg (not_not.mpr ht0)).trans (State.lookAtOffer_of_agreed (s := s.clock t) hst hlink hwidth hidx hlocked hrate)
  · generalize z.reportRate l r = y at *
    exact fun hframe => ⟨hstate, hchosen, hgo, hframe⟩

theorem trainingScore_mismatch (t : Nat) (l : Lane) (v : Score) (s : State) (hr : s.phase = .ready) (hclose : s.sq.closeDue = false)
    (hst : s.laneSt l = 5) (hlink : s.linkOf l = (l.val, 1)) (ht0 : (s.lane l).rxT0 = some v) (hwidth : (readT0 v).width ≠ 0) :
    Yields (.trainingScore t l v) s fun x => x.h (Reg.LN_LANE_STAT_MISMATCH l) = 1 ∧ x.laneSt l = 5 ∧ Frame t [.fields, .lanes, .events] s x := by
  let z := (s.clock t).hearOffer l (readT0 v)
  have hshown := z.h_laneMismatch_same l 2
  have hstate : (z.laneMismatch l 2).laneSt l = 5 := (z.laneSt_laneMismatch l 2).trans hst
  have hrest : Untouched [.fields, .lanes, .events] (s.clock t) (z.laneMismatch l 2) :=
    (State.setLane_untouched _ _ _).mono.trans (z.laneMismatch_untouched l 2)
  refine Yields.of_laneOp (y := z.laneMismatch l 2) (execTrainingScore t l v) hr hclose rfl (execTrainingScore_eq t l v s) ?_ hrest (by simp) ?_
  · exact (if_neg (not_not.mpr ht0)).trans (State.lookAtOffer_of_width (s := s.clock t) hst hlink hwidth)
  · generalize z.laneMismatch l 2 = y at *
    exact fun hframe => ⟨hshown, hstate, hframe⟩

/-! ### The chosen rate (R287) -/

theorem laneRateSwitch_yields (t : Nat) (l : Lane) (s : State) (hr : s.phase = .ready) (hclose : s.sq.closeDue = false) (hst : s.laneSt l = 6)
    (hsent : 8 ≤ (s.lane l).goSent) : Yields (.laneRateSwitch t l) s fun x =>
      x.h (Reg.LN_LANE_STAT_RATE l) = min (s.lane l).chosen (Reg.LN_LANE_STAT_RATE l).top ∧ x.laneSt l = (if (s.lane l).chosen = 0 then 7 else 3)
        ∧ Frame t [.fields, .lanes, .delivery] s x := by
  have hswitch : (s.clock t).laneSt l = 6 ∧ ((s.clock t).lane l).goSent ≥ 8 := ⟨hst, hsent⟩
  let st := if (s.lane l).chosen = 0 then 7 else 3
  let z := (s.clock t).setH (Reg.LN_LANE_STAT_RATE l) (s.lane l).chosen
  have hsmall : st < 16 := by
    unfold st
    split <;> decide
  have hstate := z.laneSt_toLane_same l.isLt hsmall
  have hrate : (z.toLane l st).h (Reg.LN_LANE_STAT_RATE l) = min (s.lane l).chosen (Reg.LN_LANE_STAT_RATE l).top :=
    (z.toLane_only l st _ (not_moveField_of_lo rfl l)).trans (State.h_setH_same _ _ _)
  have hrest : Untouched [.fields, .lanes, .delivery] (s.clock t) (z.toLane l st) :=
    (State.setH_untouched _ _ _).mono.trans (State.toLane_untouched _ _ _)
  refine Yields.of_laneOp (y := z.toLane l st) (execLaneRateSwitch t l) hr hclose rfl rfl (if_pos hswitch) hrest (by simp) ?_
  generalize z.toLane l st = y at *
  exact fun hframe => ⟨hrate, hstate, hframe⟩

/-! ### A link enters UP (R282, R289) -/

/-- A lane of a link enters UP, with its elastic buffer at 16 scores (R282). -/
def State.laneUp (s : State) (d : Nat) : State :=
  (((s.toLane d 8).setH (Reg.LN_EB_FILL d) 16).flag (Reg.LN_LANE_STAT_PEER_IDLE d) false).setLane d
    { (s.toLane d 8).lane d with frames := [], fills := 0, decided := 0, fillDec := 0, fillSeen := false }

theorem State.lanesUp_eq (s : State) (lanes : List Nat) : s.lanesUp lanes = lanes.foldl State.laneUp s := rfl

theorem State.h_laneUp (s : State) (d : Nat) {f : Fld} (hfill : f.key ≠ (Reg.LN_EB_FILL d).key)
    (hidle : f.key ≠ (Reg.LN_LANE_STAT_PEER_IDLE d).key) : (s.laneUp d).h f = (s.toLane d 8).h f := by
  rw [State.laneUp, State.h_setLane, State.h_flag_ne _ _ _ _ hidle, State.h_setH_ne _ _ _ _ hfill]

theorem State.laneSt_laneUp (s : State) {d e : Nat} (he : e < 144) : (s.laneUp d).laneSt e = if e = d then 8 else s.laneSt e := by
  have hkept : (s.laneUp d).laneSt e = (s.toLane d 8).laneSt e := s.h_laneUp d (laneState_ne_fill e d) (Fld.key_ne_of_lo rfl)
  rw [hkept]
  split
  next h => exact h ▸ s.laneSt_toLane_same (h ▸ he) (by decide)
  next h => exact s.laneSt_toLane_ne he h 8

/-- With its lanes entering UP one after the other, each lane is UP in the end. -/
theorem State.laneSt_lanesUp {lanes : List Nat} (s : State) {e : Nat} (he : e < 144) (h : e ∈ lanes ∨ s.laneSt e = 8) :
    (s.lanesUp lanes).laneSt e = 8 := by
  rw [State.lanesUp_eq]
  induction lanes generalizing s with
  | nil => simpa using h
  | cons d r ih =>
    refine ih (s.laneUp d) ?_
    rw [s.laneSt_laneUp he]
    by_cases hed : e = d
    · exact .inr (if_pos hed)
    · rw [if_neg hed]
      exact h.imp_left fun hmem => (List.mem_cons.mp hmem).resolve_left hed

theorem State.lanesUp_untouched (s : State) (lanes : List Nat) : Untouched [.fields, .lanes, .delivery] s (s.lanesUp lanes) := by
  intro g hg
  cases g <;> simp [Group.same] at hg ⊢

theorem SettingsStay.of_untouched {g : List Group} {s x : State} (h : Untouched g s x) (hsets : Group.sets ∉ g) (hwaits : Group.waits ∉ g)
    (hactive : x.h Reg.CF_STAT_ACTIVE = s.h Reg.CF_STAT_ACTIVE) : SettingsStay s x := by
  obtain ⟨hA, hB⟩ := h .sets hsets
  obtain ⟨hwaiting, hstale, -⟩ := h .waits hwaits
  exact ⟨hA, hB, hwaiting, hstale, hactive⟩

theorem SettingsStay.linkOf {s x : State} (h : SettingsStay s x) (l : Nat) : x.linkOf l = s.linkOf l := by
  simp only [State.linkOf, State.laneGroup, State.laneMode, h.fu]
  rfl

theorem active_not_moveField (l : Nat) : Reg.CF_STAT_ACTIVE.key ∉ (moveFields l).map Fld.key := by
  simp only [moveFields, List.map_cons, List.map_nil, List.mem_cons, List.not_mem_nil, or_false, not_or]
  exact ⟨active_ne_of_le (by simp only [Reg.LN_LANE_STAT_STATE, Reg.LN_LANE_STAT]; omega),
    active_ne_of_le (by simp only [Reg.LN_QUAD_STAT_LOCK, Reg.LN_QUAD_STAT]; omega), active_ne_of_le (by decide)⟩

theorem State.lanesUp_settings (s : State) (lanes : List Nat) : SettingsStay s (s.lanesUp lanes) := by
  refine SettingsStay.of_untouched (s.lanesUp_untouched lanes) (by simp) (by simp) ?_
  refine foldl_inv (fun x : State => x.h Reg.CF_STAT_ACTIVE) lanes State.laneUp s fun x d => ?_
  have hfill : Reg.CF_STAT_ACTIVE.key ≠ (Reg.LN_EB_FILL d).key :=
    active_ne_of_le (by simp only [Reg.LN_EB_FILL, Reg.LN_EB]; omega)
  exact (x.h_laneUp d hfill (Fld.key_ne_of_lo rfl)).trans (x.toLane_only d 8 _ (active_not_moveField d))

theorem State.linkUp_untouched (s : State) (l : Nat) : Untouched [.link] s (s.linkUp l) := State.setLink_untouched _ _ _

/-- The link is UP, in its width. -/
theorem State.link_linkUp (s : State) (l : Nat) :
    ((s.linkUp l).link (s.linkOf l).1).up = true ∧ ((s.linkUp l).link (s.linkOf l).1).width = (s.linkOf l).2 := by
  unfold State.linkUp
  dsimp only
  rw [State.link_setLink_same]
  exact ⟨rfl, rfl⟩

/-- What DESKEW_DONE makes of the skew that it brings. -/
def State.deskew (s : State) (l skew : Nat) : State :=
  let lanes := s.linkLanes l
  if lanes.all fun d => s.laneSt d == 7 then
    match s.skew lanes with
    | none => if lanes.length = 1 then (s.lanesUp lanes).linkUp l else s
    | some x => if x ≠ skew then s else if x > 16 * s.scoreTime l then s.train lanes else (s.lanesUp lanes).linkUp l
  else s

theorem execDeskewDone_eq (t : Nat) (l : Lane) (n : Nat) (s : State) : execDeskewDone t l n s = s.runAt t fun s => s.deskew l n := rfl

theorem State.deskew_of_small {s : State} {l n : Nat} (hst : ∀ d ∈ s.linkLanes l, s.laneSt d = 7) (hskew : s.skew (s.linkLanes l) = some n)
    (hsmall : n ≤ 16 * s.scoreTime l) : s.deskew l n = (s.lanesUp (s.linkLanes l)).linkUp l := by
  have hall : ((s.linkLanes l).all fun d => s.laneSt d == 7) = true := List.all_eq_true.mpr fun d hd => beq_iff_eq.mpr (hst d hd)
  simp only [State.deskew, hall, if_true, hskew, ne_eq, not_true_eq_false, if_false, if_neg (Nat.not_lt.mpr hsmall)]

theorem deskewDone_yields (t : Nat) (l : Lane) (n : Nat) (s : State) (hr : s.phase = .ready) (hclose : s.sq.closeDue = false)
    (hst : ∀ d ∈ s.linkLanes l, s.laneSt d = 7) (hskew : s.skew (s.linkLanes l) = some n) (hsmall : n ≤ 16 * s.scoreTime l) :
    Yields (.deskewDone t l n) s fun x => (∀ d ∈ s.linkLanes l, x.laneSt d = 8) ∧ (x.link (s.linkOf l).1).up = true
      ∧ (x.link (s.linkOf l).1).width = (s.linkOf l).2 ∧ Frame t [.fields, .lanes, .link, .delivery] s x := by
  let z := (s.clock t).lanesUp (s.linkLanes l)
  have hlinkOf : z.linkOf l = s.linkOf l := ((s.clock t).lanesUp_settings _).linkOf l
  obtain ⟨hup, hwidth⟩ := z.link_linkUp l
  rw [hlinkOf] at hup hwidth
  have hstates : ∀ d ∈ s.linkLanes l, (z.linkUp l).laneSt d = 8 := fun d hd =>
    (s.clock t).laneSt_lanesUp (State.lt_of_mem_linkLanes l.isLt hd) (.inl hd)
  have hrest : Untouched [.fields, .lanes, .link, .delivery] (s.clock t) (z.linkUp l) :=
    (State.lanesUp_untouched _ _).mono.trans (z.linkUp_untouched l).mono
  refine Yields.of_laneOp (y := z.linkUp l) (execDeskewDone t l n) hr hclose rfl (execDeskewDone_eq t l n s) ?_ hrest (by simp) ?_
  · exact State.deskew_of_small (s := s.clock t) hst hskew hsmall
  · generalize z.linkUp l = y at *
    exact fun hframe => ⟨hstates, hup, hwidth, hframe⟩

end Sys2Proof.Machine

namespace Sys2Proof
open Machine

/-- Settles O37: a lane's move writes its own STATE, the LOCK of its quad and the count of dropped copies, and no other field (toLane_only), so
that what a command shows beside it is shown after it; the lanes of a link enter UP one after the other, and none of them leaves it for the next
(laneSt_lanesUp). -/
theorem lanesTrain : Obligations.LanesTrain := by
  unfold Obligations.LanesTrain
  exact ⟨laneEnergyDetect_yields, laneClockLock_yields, laneAlign_yields, trainingScore_agreed, trainingScore_mismatch, laneRateSwitch_yields,
    deskewDone_yields⟩

end Sys2Proof
end

section
/-!
SUPPORT. A lane that retrains while a record waits for a consumer behind it, whose copy is dropped and counted (R289, R310, R365).
-/

namespace Sys2Proof.Machine

/-- Lane 128 is enabled and UP, and one record of queue 0 waits for a subscription that is reached on it. -/
def copyBehindLane : State :=
  { State.reset with
    phase := .ready
    regs := { State.reset.regs with
      hw := Tab.set State.reset.regs.hw 0 (Reg.LN_LANE_STAT_STATE 128).key 8
      setA := Tab.set State.reset.regs.setA (Reg.resetRw (Reg.LN_LANE_CFG 128)) (Reg.LN_LANE_CFG 128) 1 }
    fl := { State.reset.fl with subs := [{ idx := 0, kind := 0, arg := 0, who := .eth 0 0, lane := 128, expires := none }] }
    dm := { State.reset.dm with queues := Tab.set State.reset.dm.queues {} 0 { items := [{ scores := [], todo := [0], since := 0 }] } } }

/-- Lanes are numbered from 0 to 143: where a lane 144 would have its STATE stands FL_SUB_DROP. -/
theorem laneState_144_is_subDrop : (Reg.LN_LANE_STAT_STATE 144).key = Reg.FL_SUB_DROP_COUNT.key := by decide

/-- The retraining of lane 128 drops the copy and counts it in FL_SUB_DROP (R310, R365). -/
theorem ev_retrain_copyBehindLane : ∃ x, exec (.retrain 0 128) copyBehindLane = .next x ∧ x.h Reg.FL_SUB_DROP_COUNT = 1 :=
  ⟨_, rfl, by decide⟩

end Sys2Proof.Machine

namespace Sys2Proof
open Machine

/-- Refutes O38, in its second part: "every other lane keeps its state" is said of every number d, and for d = 144, which is no lane, the STATE
that it speaks of is FL_SUB_DROP. In `copyBehindLane` RETRAIN counts there the copy that it drops. -/
theorem not_lanesFailAndRetrain : ¬ Obligations.LanesFailAndRetrain := by
  unfold Obligations.LanesFailAndRetrain
  rintro ⟨-, retrain, -⟩
  have enabled : copyBehindLane.fu 128 (Reg.LN_LANE_CFG_EN 128) = 1 := by decide
  obtain ⟨x, hx, -, -, -, othersKept, -⟩ :=
    retrain 0 128 copyBehindLane rfl rfl rfl rfl enabled (by decide) (by decide)
  obtain ⟨y, hy, counted⟩ := ev_retrain_copyBehindLane
  obtain rfl : x = y := Host.Outcome.next.inj (hx.symm.trans hy)
  have noneBefore : copyBehindLane.h Reg.FL_SUB_DROP_COUNT = 0 := by decide
  have kept : x.h Reg.FL_SUB_DROP_COUNT = copyBehindLane.h Reg.FL_SUB_DROP_COUNT := by
    have kept144 := othersKept 144 (by decide)
    rwa [State.laneSt, State.laneSt, State.h, State.h, laneState_144_is_subDrop] at kept144
  rw [kept, noneBefore] at counted
  exact absurd counted (by decide)

end Sys2Proof
end

section
/-!
SUPPORT. A superframe of a lane within the clock cycle in which a write to LN_TX_EQ reached the lane's island (R35).
-/

namespace Sys2Proof.Machine

/-- Lane 0 is enabled and DOWN. A write to its LN_TX_EQ reached its island at instant 100; at instant 150 the same clock cycle of the island
runs, which lasts 100 LSB. -/
def writeInItsCycle : State :=
  { State.reset with
    phase := .ready, now := 150
    regs := { State.reset.regs with
      hw := Tab.set State.reset.regs.hw 0 (Reg.LN_LANE_STAT_STATE 0).key 1
      setA := Tab.set State.reset.regs.setA (Reg.resetRw (Reg.LN_LANE_CFG 0)) (Reg.LN_LANE_CFG 0) 1
      waiting := [{ addr := Reg.LN_TX_EQ 0, value := 5, acceptedAt := 100, served := [0], left := [0] }] } }

/-- The superframe is no boundary for the write, which waits on for the next one (R35). -/
theorem ev_liveWriteApply_writeInItsCycle : ∃ x, exec (.liveWriteApply 150 0) writeInItsCycle = .next x ∧ x.regs.waiting.length = 1 :=
  ⟨_, rfl, by decide⟩

end Sys2Proof.Machine

namespace Sys2Proof
open Machine

/-- Refutes O39, in its second part: a write that was accepted before the superframe need not take effect at it. One that reaches the island in
the clock cycle of the boundary waits for the following one (R35); in `writeInItsCycle` the write came earlier within the cycle that runs. -/
theorem not_lanesCarryAndSleep : ¬ Obligations.LanesCarryAndSleep := by
  unfold Obligations.LanesCarryAndSleep
  rintro ⟨-, liveWriteApply, -⟩
  have enabled : writeInItsCycle.fu 0 (Reg.LN_LANE_CFG_EN 0) = 1 := by decide
  obtain ⟨x, hx, -, nothingWaits, -⟩ := liveWriteApply 150 0 5 100 writeInItsCycle rfl rfl (by decide) enabled rfl rfl (by decide)
  obtain ⟨y, hy, stillWaits⟩ := ev_liveWriteApply_writeInItsCycle
  obtain rfl : x = y := Host.Outcome.next.inj (hx.symm.trans hy)
  rw [nothingWaits] at stillWaits
  exact absurd stillWaits (by decide)

end Sys2Proof
end

section
/-!
SUPPORT. What a command leaves of the queue, the clock, the phase of the die and what holds it in reset: every command of a block keeps
them, and the commands of chapter 17 move them as State.Gated says (R435, R436, R440, R443).
-/

namespace Sys2Proof.Machine

/-! ### Commands of a block -/

/-- The queue, the phase and what holds the die stay, the clock does not run back, and in a reset phase no REBOOT comes due. -/
structure State.Abides (s x : State) : Prop where
  pending : x.pending = s.pending
  now : s.now ≤ x.now
  phase : x.phase = s.phase
  gate : x.pw.gate = s.pw.gate
  reboot : s.held = true → x.pw.rebootAt = s.pw.rebootAt

theorem State.held_congr {s x : State} (h : x.phase = s.phase) : x.held = s.held := by simp [State.held, h]

theorem State.Abides.gated {s x : State} (h : s.Abides x) (hs : s.Gated) : x.Gated := by
  obtain ⟨released, powerOn, noReboot, ready⟩ := hs
  have hheld := State.held_congr h.phase
  refine ⟨?_, ?_, fun hx => ?_, ?_⟩
  · rw [hheld, h.gate, released]
  · rw [h.phase, h.gate]
    exact powerOn
  · rw [hheld] at hx
    rw [h.reboot hx, noReboot hx]
  · rw [h.phase, h.gate]
    exact ready

theorem State.held_of_powerOn {s : State} (h : s.phase = .powerOn) : s.held = true := by simp [State.held, h]

theorem State.held_of_inReset {s : State} (h : s.phase = .inReset) : s.held = true := by simp [State.held, h]

theorem State.held_of_boot {s : State} (h : s.phase = .boot) : s.held = false := by simp [State.held, h]

theorem State.held_of_ready {s : State} (h : s.phase = .ready) : s.held = false := by simp [State.held, h]

theorem State.held_of_recovery {s : State} (h : s.phase = .recovery) : s.held = false := by simp [State.held, h]

theorem State.inReset_of_held {s : State} (h : s.held = true) (hp : s.phase ≠ .powerOn) : s.phase = .inReset := by
  simpa [State.held, hp] using h

/-- A command of a block that acts in no reset phase. -/
theorem State.Abides.acted {s x : State} {b : Bool} (t : Nat) (hb : b = true → s.held = false) : s.Abides (s.keep t (if b then x else s)) := by
  refine ⟨rfl, Nat.le_max_left _ _, rfl, rfl, fun hheld => ?_⟩
  cases b with
  | true => simp [hb rfl] at hheld
  | false => rfl

theorem State.held_of_live {s : State} (h : s.live = true) : s.held = false := State.held_of_ready (of_decide_eq_true h)

theorem State.held_of_portLive {s : State} (h : s.portLive = true) : s.held = false := by
  rw [State.portLive, Bool.or_eq_true, decide_eq_true_eq, decide_eq_true_eq] at h
  exact h.elim State.held_of_ready State.held_of_recovery

theorem State.held_of_thermal {s : State} (h : decide (s.phase = .ready ∨ s.phase = .boot) = true) : s.held = false :=
  (of_decide_eq_true h).elim State.held_of_ready State.held_of_boot

theorem State.held_of_resume {s : State} (h : (s.live || decide (s.phase = .recovery)) = true) : s.held = false := by
  rw [Bool.or_eq_true, decide_eq_true_eq] at h
  exact h.elim State.held_of_live State.held_of_recovery

/-- Every command but those of chapter 17 that move the die between its phases. -/
def movesDie : Instr → Bool
  | .powerOnReset .. | .powerOnRelease .. | .railAboveWarning .. | .supplyReset .. | .dieRelease .. | .selfTestComplete .. | .nodeRdyAssert ..
  | .braceEntry .. | .braceEnd .. | .rstNAssert .. | .rstNRelease .. | .mgmtWatchdogExpiry .. | .rebootReset .. => true
  | _ => false

theorem exec_abides {c : Instr} (hc : movesDie c = false) (s : State) : Yields c s s.Abides := by
  cases c with
  | powerOnReset | powerOnRelease | railAboveWarning | supplyReset | dieRelease | selfTestComplete | nodeRdyAssert | braceEntry | braceEnd
  | rstNAssert | rstNRelease | mgmtWatchdogExpiry | rebootReset => cases hc
  | svcCommand | svcEventRead | svcReplyRead | ping | read | write | writeBusyTimeout | writePosted | pollBusy | pollBusyTimeout | swap
  | commitRef | copyActive | framesStart | framesStop | decSync | safeAck | subscribe | unsubscribe | challenge | respond | password
  | setPassword | close | lockField | fwStage | fwStageTimeout | fwConfirm | reboot | stageComplete =>
    exact ⟨_, rfl, State.Abides.acted _ State.held_of_portLive⟩
  | flashWriteResume => exact ⟨_, rfl, State.Abides.acted _ State.held_of_resume⟩
  | throttleRise | throttleFall | sensorRecover | extSensorSilent | shutdownEnd | fireRangeRelease =>
    exact ⟨_, rfl, State.Abides.acted _ State.held_of_thermal⟩
  | diodeSample t r =>
    by_cases hp : s.phase = .recovery
    · exact ⟨_, if_pos hp, State.Abides.acted _ fun _ => State.held_of_recovery hp⟩
    · exact ⟨_, if_neg hp, State.Abides.acted _ State.held_of_thermal⟩
  | authWaitExpiry t =>
    refine ⟨_, rfl, rfl, Nat.le_max_left _ _, rfl, rfl, fun _ => ?_⟩
    dsimp only
    repeat' split
    all_goals rfl
  | jtagAccess t inside =>
    refine ⟨_, rfl, rfl, Nat.le_max_left _ _, rfl, rfl, fun _ => ?_⟩
    dsimp only
    split <;> rfl
  | _ => exact ⟨_, rfl, State.Abides.acted _ State.held_of_live⟩

/-! ### Resets of the die and its boot (R435, R436, R440, R445, R448) -/

/-- The queue, the clock, the phase and what holds the die are as they were. -/
@[simp] abbrev State.SameStanding (s x : State) : Prop :=
  x.pending = s.pending ∧ x.now = s.now ∧ x.phase = s.phase ∧ x.pw.gate = s.pw.gate

theorem State.SameStanding.trans {s x y : State} (h : s.SameStanding x) (h' : x.SameStanding y) : s.SameStanding y :=
  ⟨h'.1.trans h.1, h'.2.1.trans h.2.1, h'.2.2.1.trans h.2.2.1, h'.2.2.2.trans h.2.2.2⟩

theorem State.tryBoot_standing (s : State) (l : List Bool) : s.SameStanding (s.tryBoot l).1 := by
  induction l generalizing s with
  | nil => exact ⟨rfl, rfl, rfl, rfl⟩
  | cons b r ih =>
    unfold State.tryBoot
    split
    · exact ⟨rfl, rfl, rfl, rfl⟩
    · exact State.SameStanding.trans (x := s.rejectSlot b) (by simp) (ih _)

/-- The boot of a released die goes on, or ends in recovery; the gate stays. -/
structure State.Boots (s x : State) : Prop where
  pending : x.pending = s.pending
  now : x.now = s.now
  gate : x.pw.gate = s.pw.gate
  phase : x.phase = s.phase ∨ x.phase = .recovery

theorem State.Boots.of_standing {s x : State} (h : s.SameStanding x) : s.Boots x := ⟨h.1, h.2.1, h.2.2.2, .inl h.2.2.1⟩

/-- A TRIAL slot found at boot is left behind. -/
def State.fellBack (s : State) : State := match (s.slotsIn 3).head? with | some b => s.fallBack b | none => s

/-- The STAGED slot that the boot would make the TRIAL one. -/
def State.stagedSlot (s : State) : Option Bool := if s.mayProgram then (s.slotsIn 2).head? else none

/-- The slot that is booted, if there is one. -/
def State.pickSlot (s : State) : State × Option Bool :=
  match s.stagedSlot with
  | some b =>
    if s.slotValid b then ((s.markSlot b { s.slotNow b with state := 3 }).bootSlot b true, some b)
    else (s.rejectSlot b).tryBoot ((s.rejectSlot b).slotsIn 4 ++ (s.rejectSlot b).slotsIn 5)
  | none => s.tryBoot (s.slotsIn 4 ++ s.slotsIn 5)

/-- The picked slot runs; with none the die enters recovery. -/
def State.runSlot (s : State) (staged fell : Option Bool) : Option Bool → State
  | none => { s with phase := .recovery }
  | some b =>
    let s := if staged = some b then s else s.bootSlot b false
    match fell with
    | some x => s.later .fwFallback (b2n b) (b2n x)
    | none => s

theorem State.selectSlot_eq (s : State) :
    s.selectSlot = s.fellBack.pickSlot.1.runSlot s.fellBack.stagedSlot (s.slotsIn 3).head? s.fellBack.pickSlot.2 := rfl

@[simp] theorem Power.dropTrial_gate (p : Power) : p.dropTrial.gate = p.gate := by
  unfold Power.dropTrial
  split <;> rfl

theorem State.fellBack_standing (s : State) : s.SameStanding s.fellBack := by
  unfold State.fellBack
  split
  · simp [State.fallBack]
  · simp

theorem State.pickSlot_standing (s : State) : s.SameStanding s.pickSlot.1 := by
  unfold State.pickSlot
  split
  · split
    · simp
    · exact State.SameStanding.trans (x := s.rejectSlot _) (by simp) (State.tryBoot_standing _ _)
  · exact State.tryBoot_standing _ _

theorem State.runSlot_boots (s : State) (staged fell r : Option Bool) : s.Boots (s.runSlot staged fell r) := by
  cases r with
  | none => exact ⟨rfl, rfl, rfl, .inr rfl⟩
  | some b =>
    refine State.Boots.of_standing ?_
    unfold State.runSlot
    dsimp only
    split <;> split <;> simp

theorem State.selectSlot_boots (s : State) : s.Boots s.selectSlot := by
  obtain ⟨hpending, hnow, hphase, hgate⟩ := s.fellBack_standing.trans s.fellBack.pickSlot_standing
  obtain ⟨hpending', hnow', hgate', hphase'⟩ := s.fellBack.pickSlot.1.runSlot_boots s.fellBack.stagedSlot (s.slotsIn 3).head? s.fellBack.pickSlot.2
  rw [State.selectSlot_eq]
  exact ⟨hpending'.trans hpending, hnow'.trans hnow, hgate'.trans hgate, hphase'.imp_left fun h => h.trans hphase⟩

theorem State.dieBoot_boots (s : State) (f : BootFacts) :
    (s.dieBoot f).pending = s.pending ∧ (s.dieBoot f).now = s.now ∧ (s.dieBoot f).pw.gate = s.pw.gate
      ∧ ((s.dieBoot f).phase = .boot ∨ (s.dieBoot f).phase = .recovery) := by
  unfold State.dieBoot
  dsimp only
  obtain ⟨hpending, hnow, hgate, hphase⟩ := State.selectSlot_boots _
  refine ⟨hpending.trans ?_, hnow.trans ?_, hgate.trans ?_, hphase.imp_left fun h => h.trans ?_⟩
  all_goals split <;> split <;> simp

/-! ### The commands that move the die -/

/-- The state a command leads to meets State.Gated, the queue stays and the clock does not run back. -/
def State.Moves (s x : State) : Prop := x.pending = s.pending ∧ s.now ≤ x.now ∧ (s.Gated → x.Gated)

theorem State.Abides.moves {s x : State} (h : s.Abides x) : s.Moves x := ⟨h.pending, h.now, h.gated⟩

theorem State.Moves.of_clock {s x : State} (t : Nat) (h : (s.clock t).Moves x) : s.Moves x := by
  obtain ⟨hpending, hnow, hgated⟩ := h
  exact ⟨hpending, (Nat.le_max_left _ _).trans hnow, hgated⟩

theorem State.Moves.refl (s : State) : s.Moves s := ⟨rfl, Nat.le_refl _, id⟩

/-- Nothing that State.Gated speaks of changes. -/
theorem State.Moves.of_same {s x : State} (hpending : x.pending = s.pending) (hnow : x.now = s.now) (hphase : x.phase = s.phase)
    (hholds : x.pw.gate.holds = s.pw.gate.holds) (hsupply : x.pw.gate.supplyLow = s.pw.gate.supplyLow)
    (hrst : x.pw.gate.rstLow = s.pw.gate.rstLow) (htest : s.pw.gate.selfTest = true → x.pw.gate.selfTest = true)
    (hreboot : x.pw.rebootAt = s.pw.rebootAt) : s.Moves x := by
  refine ⟨hpending, hnow.ge, fun ⟨released, powerOn, noReboot, ready⟩ => ?_⟩
  have hheld := State.held_congr hphase
  refine ⟨by rw [hheld, hholds, released], ?_, ?_, ?_⟩
  · rw [hphase, hsupply, hrst]
    exact powerOn
  · rw [hheld, hreboot]
    exact noReboot
  · rw [hphase]
    exact fun h => htest (ready h)

/-- A die held in reset, but not in power-on reset, by RST_N or a supply. -/
theorem State.gated_of_inReset {x : State} (hp : x.phase = .inReset) (hg : x.pw.gate.holds = true) (hr : x.pw.rebootAt = none) : x.Gated := by
  have hh := State.held_of_inReset hp
  exact ⟨by rw [hh, hg], by simp [hp], fun _ => hr, by simp [hp]⟩

/-- A die that boots or is in recovery, with nothing that holds it. -/
theorem State.gated_of_booted {x : State} (hp : x.phase = .boot ∨ x.phase = .recovery) (hg : x.pw.gate.holds = false) : x.Gated := by
  have hh : x.held = false := hp.elim State.held_of_boot State.held_of_recovery
  refine ⟨by rw [hh, hg], ?_, by simp [hh], ?_⟩ <;> rcases hp with hp | hp <;> simp [hp]

theorem State.Gated.holds_eq {s : State} (h : s.Gated) : s.pw.gate.holds = s.held := h.1.symm

theorem State.tearSave_gate (s : State) : s.tearSave.pw.gate = s.pw.gate := by
  unfold State.tearSave
  split <;> rfl

/-- A reset of the die leaves what holds it, and no REBOOT is due (R436, R440). -/
theorem State.dieReset_gate (s : State) (cause rail : Nat) :
    (s.dieReset cause rail).phase = .inReset ∧ (s.dieReset cause rail).pw.gate.holds = s.pw.gate.holds
      ∧ (s.dieReset cause rail).pw.rebootAt = none := by
  refine ⟨rfl, ?_, rfl⟩
  rw [← State.tearSave_gate s]
  rfl

theorem State.gated_dieReset {s : State} (cause rail : Nat) (hg : s.pw.gate.holds = true) : (s.dieReset cause rail).Gated := by
  obtain ⟨hphase, hgate, hreboot⟩ := s.dieReset_gate cause rail
  exact State.gated_of_inReset hphase (hgate.trans hg) hreboot

/-- A die that nothing holds boots to a state that meets State.Gated, whatever the state was. -/
theorem State.gated_dieBoot {s : State} (f : BootFacts) (hg : s.pw.gate.holds = false) : (s.dieBoot f).Gated := by
  obtain ⟨-, -, hgate, hphase⟩ := s.dieBoot_boots f
  exact State.gated_of_booted hphase (by rw [hgate, hg])

theorem State.dieBoot_moves {s : State} (f : BootFacts) (hg : s.pw.gate.holds = false) : s.Moves (s.dieBoot f) := by
  obtain ⟨hpending, hnow, -, -⟩ := s.dieBoot_boots f
  exact ⟨hpending, hnow.ge, fun _ => State.gated_dieBoot f hg⟩

/-- A die that is not held boots anew when it is reset. -/
theorem State.resetNow_moves {s : State} (cause : Nat) (f : BootFacts) (hheld : s.Gated → s.held = false) : s.Moves (s.resetNow cause f) := by
  obtain ⟨hpending, hnow, hgate, hphase⟩ := (s.dieReset cause 0).dieBoot_boots f
  obtain ⟨-, hgate', -⟩ := s.dieReset_gate cause 0
  refine ⟨hpending.trans (by simp), (hnow.trans (by simp)).ge, fun hs => State.gated_of_booted hphase ?_⟩
  exact (congrArg Gate.holds hgate).trans (hgate'.trans (hs.holds_eq.trans (hheld hs)))

theorem powerOnReset_moves (t : Nat) (s : State) : Yields (.powerOnReset t) s s.Moves := by
  refine ⟨_, rfl, rfl, Nat.le_max_left _ _, fun _ => ?_⟩
  exact ⟨rfl, fun _ => ⟨rfl, rfl⟩, fun _ => rfl, nofun⟩

theorem powerOnRelease_moves (t : Nat) (s : State) : Yields (.powerOnRelease t) s s.Moves := by
  refine ⟨_, rfl, State.Moves.of_clock t ?_⟩
  split
  · next h =>
    refine ⟨rfl, Nat.le_refl _, fun ⟨released, powerOn, noReboot, ready⟩ => ?_⟩
    have hheld := State.held_of_powerOn h.1
    exact State.gated_of_inReset rfl (released.symm.trans hheld) (noReboot hheld)
  · exact State.Moves.refl _

theorem railAboveWarning_moves (t : Nat) (r : Rail) (dip : RailRise) (s : State) : Yields (.railAboveWarning t r dip) s s.Moves := by
  refine ⟨_, rfl, State.Moves.of_clock t ?_⟩
  split
  · exact State.Moves.refl _
  · dsimp only
    split <;> exact State.Moves.of_same (by simp) (by simp) (by simp) (by simp [Gate.holds]) (by simp) (by simp) (by simp) (by simp)

/-- A rail below its reset level: its bit, and its minimum in a BRACE. -/
def State.supplyFall (s : State) (r : Rail) (mv : Nat) : State :=
  let s := (s.orBit Reg.PW_RAIL_STAT_BELOW r).railUnder r
  if s.pw.brace then s.railDown r mv else s

/-- A BRACE that ends with a supply's reset keeps its record (R439). -/
def State.braceEnded (s : State) : State :=
  let rep := if s.pw.brace then s.pw.braceRail.map fun x => (x, s.h (Reg.PW_RAIL_MIN_MV x)) else s.pw.braceRep
  { s with pw := { s.pw with brace := false, braceRail := none, crossed := [], braceRep := rep } }

/-- A supply holds the die. -/
def State.supplyHolds (s : State) : State := { s with pw := { s.pw with gate := { s.pw.gate with supplyLow := true } } }

/-- A supply resets a die that was not in reset (R436, R441). -/
def State.supplyResets (s : State) (r : Rail) : State :=
  (State.inc { s with pw := { s.pw with gate := { s.pw.gate with supplyLow := true }, supplyRep := some r.val } } Reg.PW_SUPPLY_CNT_COUNT).dieReset 2 r

theorem execSupplyReset_eq (t : Nat) (r : RailLevel) (s : State) :
    exec (.supplyReset t r) s = .next (
      if r.rail.val = 6 ∨ railOk r.rail = false ∨ (s.clock t).railReset r.rail ≤ r.mv then s.clock t
      else if (s.clock t).phase = .powerOn then (s.clock t).railUnder r.rail
      else if ((s.clock t).supplyFall r.rail r.mv).braceEnded.phase = .inReset then ((s.clock t).supplyFall r.rail r.mv).braceEnded.supplyHolds
      else ((s.clock t).supplyFall r.rail r.mv).braceEnded.supplyResets r.rail) := rfl

@[simp] theorem State.supplyFall_frame (s : State) (r : Rail) (mv : Nat) :
    (s.supplyFall r mv).pending = s.pending ∧ (s.supplyFall r mv).now = s.now ∧ (s.supplyFall r mv).phase = s.phase
      ∧ (s.supplyFall r mv).pw.rebootAt = s.pw.rebootAt := by
  unfold State.supplyFall
  dsimp only
  split <;> simp [State.railUnder]

theorem State.supplyHolds_moves {s : State} (hp : s.phase = .inReset) : s.Moves s.supplyHolds := by
  have hheld := State.held_of_inReset hp
  exact ⟨rfl, Nat.le_refl _, fun ⟨_, _, noReboot, _⟩ => State.gated_of_inReset hp (Bool.or_true _) (noReboot hheld)⟩

theorem State.supplyResets_moves (s : State) (r : Rail) : s.Moves (s.supplyResets r) :=
  ⟨by simp [State.supplyResets], by simp [State.supplyResets], fun _ => State.gated_dieReset _ _ (Bool.or_true _)⟩

theorem State.supplyFall_moves (s : State) (r : Rail) (mv : Nat) : s.Moves (s.supplyFall r mv).braceEnded := by
  obtain ⟨hpending, hnow, hphase, hreboot⟩ := s.supplyFall_frame r mv
  have hgate : (s.supplyFall r mv).pw.gate = { s.pw.gate with under := addOnce r.val s.pw.gate.under } := by
    unfold State.supplyFall
    dsimp only
    split <;> simp [State.railUnder]
  have hgate' : (s.supplyFall r mv).braceEnded.pw.gate = { s.pw.gate with under := addOnce r.val s.pw.gate.under } := hgate
  exact State.Moves.of_same hpending hnow hphase (by rw [hgate']; rfl) (by rw [hgate']) (by rw [hgate']) (by rw [hgate']; exact id) hreboot

theorem State.Moves.trans {s x y : State} (h : s.Moves x) (h' : x.Moves y) : s.Moves y :=
  ⟨h'.1.trans h.1, h.2.1.trans h'.2.1, h'.2.2 ∘ h.2.2⟩

theorem State.railUnder_moves (s : State) (r : Nat) : s.Moves (s.railUnder r) := State.Moves.of_same rfl rfl rfl rfl rfl rfl id rfl

theorem supplyReset_moves (t : Nat) (r : RailLevel) (s : State) : Yields (.supplyReset t r) s s.Moves := by
  refine ⟨_, execSupplyReset_eq t r s, State.Moves.of_clock t ?_⟩
  split
  · exact State.Moves.refl _
  split
  · exact State.railUnder_moves _ _
  split
  · next hp => exact ((s.clock t).supplyFall_moves r.rail r.mv).trans (State.supplyHolds_moves hp)
  · exact ((s.clock t).supplyFall_moves r.rail r.mv).trans (State.supplyResets_moves _ _)

/-- The VDD_IO classes are latched at the first release after power-on (R435). -/
def State.ioLatched (s : State) (hv : BitVec 8) : State :=
  if s.pw.gate.latched then s
  else ({ s with pw := { s.pw with gate := { s.pw.gate with latched := true } } }).setH Reg.PW_IO_STAT_HV hv.toNat

/-- No supply holds the die any more. -/
def State.suppliesUp (s : State) : State := { s with pw := { s.pw with gate := { s.pw.gate with supplyLow := false } } }

/-- What a release of the die by its supplies does. -/
def State.released (s : State) (f : BootFacts) : State := if s.pw.gate.rstLow then s else s.dieBoot f

theorem execDieRelease_eq (t : Nat) (hv : BitVec 8) (f : BootFacts) (s : State) :
    exec (.dieRelease t hv f) s = .next (
      if (s.clock t).phase = .inReset ∧ (s.clock t).pw.gate.supplyLow = true ∧ (s.clock t).railsHeld = true
      then ((s.clock t).ioLatched hv).suppliesUp.released f else s.clock t) := rfl

@[simp] theorem State.ioLatched_frame (s : State) (hv : BitVec 8) :
    (s.ioLatched hv).pending = s.pending ∧ (s.ioLatched hv).now = s.now ∧ (s.ioLatched hv).phase = s.phase
      ∧ (s.ioLatched hv).pw.gate.rstLow = s.pw.gate.rstLow ∧ (s.ioLatched hv).pw.rebootAt = s.pw.rebootAt := by
  unfold State.ioLatched
  split <;> simp

theorem State.dieRelease_moves {s : State} (hv : BitVec 8) (f : BootFacts) (hp : s.phase = .inReset) :
    s.Moves ((s.ioLatched hv).suppliesUp.released f) := by
  have hlatched := s.ioLatched_frame hv
  obtain ⟨hpending, hnow, hphase, -, hreboot⟩ := hlatched
  unfold State.released
  cases hlow : (s.ioLatched hv).suppliesUp.pw.gate.rstLow with
  | true =>
    refine ⟨hpending, hnow.ge, fun ⟨_, _, noReboot, _⟩ => State.gated_of_inReset (hphase.trans hp) ?_ (hreboot.trans (noReboot (State.held_of_inReset hp)))⟩
    simp [Gate.holds, hlow]
  | false =>
    have hup : (s.ioLatched hv).suppliesUp.pw.gate.holds = false := by
      rw [Gate.holds, hlow]
      rfl
    obtain ⟨hpending', hnow', -⟩ := State.dieBoot_moves f hup
    exact ⟨hpending'.trans hpending, hnow.ge.trans hnow', fun _ => State.gated_dieBoot f hup⟩

theorem dieRelease_moves (t : Nat) (hv : BitVec 8) (f : BootFacts) (s : State) : Yields (.dieRelease t hv f) s s.Moves := by
  refine ⟨_, execDieRelease_eq t hv f s, State.Moves.of_clock t ?_⟩
  split
  · next h => exact State.dieRelease_moves hv f h.1
  · exact State.Moves.refl _

/-- RST_N holds the die. -/
def State.rstHolds (s : State) : State := { s with pw := { s.pw with gate := { s.pw.gate with rstLow := true, rstAt := s.now } } }

theorem execRstNAssert_eq (t : Nat) (s : State) :
    exec (.rstNAssert t) s = .next (
      if (s.clock t).phase = .powerOn ∨ (s.clock t).pw.gate.rstLow = true then s.clock t
      else if (s.clock t).rstHolds.phase = .inReset then (s.clock t).rstHolds
      else ((s.clock t).rstHolds.inc Reg.PW_PIN_CNT_COUNT).dieReset 3 0) := rfl

theorem State.rstHolds_moves {s : State} (hp : s.phase = .inReset) : s.Moves s.rstHolds := by
  have hheld := State.held_of_inReset hp
  exact ⟨rfl, Nat.le_refl _, fun ⟨_, _, noReboot, _⟩ => State.gated_of_inReset hp rfl (noReboot hheld)⟩

theorem rstNAssert_moves (t : Nat) (s : State) : Yields (.rstNAssert t) s s.Moves := by
  refine ⟨_, execRstNAssert_eq t s, State.Moves.of_clock t ?_⟩
  split
  · exact State.Moves.refl _
  split
  · next hp => exact State.rstHolds_moves hp
  · exact ⟨by simp [State.rstHolds], by simp [State.rstHolds], fun _ => State.gated_dieReset _ _ rfl⟩

/-- RST_N is high again: how long it was low shows, and a hold above 30 s is kept for a report (R441, R442). -/
def State.rstHigh (s : State) : State :=
  let hold := s.now - s.pw.gate.rstAt
  let stuck := if hold > 30 * lsbS then some (hold / lsbS) else s.pw.stuckRep
  let s := s.setH Reg.PW_RST_HOLD_MS (hold / lsbMs)
  { s with pw := { s.pw with gate := { s.pw.gate with rstLow := false }, stuckRep := stuck } }

theorem execRstNRelease_eq (t : Nat) (f : BootFacts) (s : State) :
    exec (.rstNRelease t f) s = .next (
      if (s.clock t).pw.gate.rstLow then
        if (s.clock t).rstHigh.phase = .inReset ∧ (s.clock t).rstHigh.pw.gate.supplyLow = false then (s.clock t).rstHigh.dieBoot f
        else (s.clock t).rstHigh
      else s.clock t) := rfl

theorem State.rstHigh_moves {s : State} (f : BootFacts) (hlow : s.pw.gate.rstLow = true) :
    s.Moves (if s.rstHigh.phase = .inReset ∧ s.rstHigh.pw.gate.supplyLow = false then s.rstHigh.dieBoot f else s.rstHigh) := by
  split
  · next h =>
    have hup : s.rstHigh.pw.gate.holds = false := by
      rw [Gate.holds, h.2]
      rfl
    obtain ⟨hpending, hnow, -⟩ := State.dieBoot_moves f hup
    exact ⟨hpending, hnow, fun _ => State.gated_dieBoot f hup⟩
  · next h =>
    refine ⟨rfl, Nat.le_refl _, fun ⟨released, powerOn, noReboot, ready⟩ => ?_⟩
    have hheld : s.held = true := released.trans (by simp [Gate.holds, hlow])
    have hp : s.phase = .inReset := State.inReset_of_held hheld fun hp => by simp [(powerOn hp).2] at hlow
    refine State.gated_of_inReset hp ?_ (noReboot hheld)
    have hlow' : s.rstHigh.pw.gate.supplyLow = true := Bool.eq_true_of_not_eq_false fun hs => h ⟨hp, hs⟩
    rw [Gate.holds, hlow', Bool.or_true]

theorem rstNRelease_moves (t : Nat) (f : BootFacts) (s : State) : Yields (.rstNRelease t f) s s.Moves := by
  refine ⟨_, execRstNRelease_eq t f s, State.Moves.of_clock t ?_⟩
  split
  · next hlow => exact State.rstHigh_moves f hlow
  · exact State.Moves.refl _

theorem mgmtWatchdogExpiry_moves (t : Nat) (f : BootFacts) (s : State) : Yields (.mgmtWatchdogExpiry t f) s s.Moves := by
  refine ⟨_, rfl, State.Moves.of_clock t ?_⟩
  split
  · next hp => exact State.resetNow_moves 5 f fun _ => hp.elim State.held_of_boot State.held_of_ready
  · exact State.Moves.refl _

theorem rebootReset_moves (t : Nat) (f : BootFacts) (s : State) : Yields (.rebootReset t f) s s.Moves := by
  refine ⟨_, rfl, State.Moves.of_clock t ?_⟩
  split
  · next x hx =>
    split
    · refine State.resetNow_moves 4 f fun ⟨_, _, noReboot, _⟩ => Bool.eq_false_iff.mpr fun hheld => ?_
      exact absurd (hx.symm.trans (noReboot hheld)) (by simp)
    · exact State.Moves.refl _
  · exact State.Moves.refl _

theorem selfTestComplete_moves (t : Nat) (ok : Bool) (f : BootFacts) (s : State) : Yields (.selfTestComplete t ok f) s s.Moves := by
  refine ⟨_, rfl, State.Moves.of_clock t ?_⟩
  split
  · next hp =>
    split
    · dsimp only
      split <;> exact State.Moves.of_same (by simp) (by simp) (by simp) (by simp [Gate.holds]) (by simp) (by simp) (by simp) (by simp [State.later])
    · split
      · exact State.resetNow_moves 6 f fun _ => State.held_of_boot hp
      · exact State.Moves.refl _
  · exact State.Moves.refl _

/-- Queue, clock, phase and power are as they were. -/
@[simp] abbrev State.SameLife (s x : State) : Prop :=
  x.pending = s.pending ∧ x.now = s.now ∧ x.phase = s.phase ∧ x.pw = s.pw

theorem State.SameLife.trans {s x y : State} (h : s.SameLife x) (h' : x.SameLife y) : s.SameLife y :=
  ⟨h'.1.trans h.1, h'.2.1.trans h.2.1, h'.2.2.1.trans h.2.2.1, h'.2.2.2.trans h.2.2.2⟩

theorem State.SameLife.foldl {α : Type} {f : State → α → State} (hf : ∀ (s : State) a, s.SameLife (f s a)) (l : List α) (s : State) :
    s.SameLife (l.foldl f s) := by
  induction l generalizing s with
  | nil => exact ⟨rfl, rfl, rfl, rfl⟩
  | cons a r ih => exact (hf s a).trans (ih _)

theorem State.lookedAtSwap_life (s : State) : s.SameLife s.lookedAtSwap :=
  State.SameLife.foldl (fun s a => State.SameLife.foldl (f := fun s u => s.looked u a) (fun s u => by simp) _ s) _ _

theorem State.startBlocks_life (s : State) : s.SameLife s.startBlocks := by
  have hident (s : State) (n : Nat) : s.SameLife { s with fl := { s.fl with ident := n } } := ⟨rfl, rfl, rfl, rfl⟩
  have htable (s : State) : s.SameLife (s.reseed.copySq.setH Reg.EP_STAT_REF_NOW (s.reseed.copySq.f Reg.EP_CFG_REFSEL)) := by simp
  have hlocks (s : State) : s.SameLife ((List.range 64).foldl (fun s t => s.flag (Reg.TL_TILE_STAT_LOCK t) true) s) :=
    State.SameLife.foldl (fun s t => by simp) _ _
  have hpins (s : State) : s.SameLife s.lookedAtSwap.pinsChecked := s.lookedAtSwap_life.trans (by simp)
  have hranges (s : State) : s.SameLife ((List.range 512).foldl (fun s c => s.settleRange c 0) s) :=
    State.SameLife.foldl (fun s c => by simp) _ _
  have hpairs (s : State) : s.SameLife ([0, 1, 2, 3].foldl (fun s p => s.pairConfig p true) s) :=
    State.SameLife.foldl (fun s p => by simp) _ _
  have hquads (s : State) : s.SameLife ((List.range 36).foldl (fun s q => s.quadCheck q) s) := State.SameLife.foldl (fun s q => by simp) _ _
  have hlanes (s : State) : s.SameLife ((List.range 144).foldl (fun s l => s.laneEnable l) s) := State.SameLife.foldl (fun s l => by simp) _ _
  have hfirst (s : State) (n : Nat) : s.SameLife { s with fl := { s.fl with tablesDirty := false }, sq := { s.sq with nextBoundary := n } } :=
    ⟨rfl, rfl, rfl, rfl⟩
  have hsafety (s : State) : s.SameLife (s.loadSafety s.activeTab (sfCrc (sfPart s.activeTab))) := by simp
  exact (((((((((hident _ _).trans (htable _)).trans (hlocks _)).trans (hpins _)).trans (hranges _)).trans (hpairs _)).trans (hquads _)).trans
    (hlanes _)).trans (hfirst _ _)).trans (hsafety _)

/-- The instant of readiness, and the end of a trial's 10 minutes (R449, R452). -/
def State.readyNow (s : State) : State :=
  let s := { s with phase := .ready, pw := { s.pw with
    readyAt := s.now, trialEnd := if s.h Reg.SYS_BOOT_TRIAL = 1 then some (s.now + 600 * lsbS) else none } }
  if s.h Reg.PW_RST_CAUSE_CAUSE = 0 then s.setH Reg.PW_RST_CAUSE_CAUSE 1 else s

/-- What NODE_RDY_ASSERT does. -/
def State.nowReady (s : State) (formats : RecordFormats) : State :=
  ((s.readRecords formats).loadSets.loadFuses).readyNow.restoreFails.startBlocks.bootReports

theorem execNodeRdyAssert_eq (t : Nat) (formats : RecordFormats) (s : State) :
    exec (.nodeRdyAssert t formats) s = .next (
      if (s.clock t).phase = .boot ∧ (s.clock t).pw.gate.selfTest = true then (s.clock t).nowReady formats else s.clock t) := rfl

theorem State.setRef_life (s : State) (b : Bool) (v : BitVec 32) (valid : Bool) : s.SameLife (s.setRef b v valid) := by
  unfold State.setRef
  cases b <;> simp

theorem State.loadSets_standing (s : State) : s.SameStanding s.loadSets := by
  unfold State.loadSets
  dsimp only
  repeat' split
  all_goals simp [State.later, State.setRef_life]

theorem State.readyNow_life (s : State) :
    s.readyNow.pending = s.pending ∧ s.readyNow.now = s.now ∧ s.readyNow.phase = .ready ∧ s.readyNow.pw.gate = s.pw.gate := by
  unfold State.readyNow
  dsimp only
  split <;> simp

/-- The reports of a stuck RST_N, of a supply and of a BRACE, and the pins that do not fit their classes (R439, R442, R476). -/
def State.bootEvents (s : State) : State :=
  let s := match s.pw.stuckRep with
    | some x => (s.raise .stuckReset (satScore x) 0).flag Reg.PW_STAT_STUCK_SEEN true
    | none => s
  let s := match s.pw.supplyRep with | some r => s.raise .supplyReset r 0 | none => s
  let s := match s.pw.braceRep with | some (r, mv) => s.raise .supplyBrace r mv | none => s
  let s := if s.fireBankBad then s.raise .ioClass 0 0 else s
  if s.auxBankBad then s.raise .ioClass 7 0 else s

/-- No report of the boot is left waiting. -/
def State.reportsTaken (s : State) : State := { s with pw := { s.pw with stuckRep := none, supplyRep := none, braceRep := none, due := [] } }

/-- The reports of the boot are raised, and those of a fallback and of a rejected slot leave their flags. -/
def State.dueReported (s : State) (due : List (Ev × Nat × Nat)) : State :=
  let s := due.foldl (fun s x => s.raise x.1 x.2.1 x.2.2) s
  let s := if due.any fun x => decide (x.1.code = Ev.fwFallback.code) then s.flag Reg.PW_STAT_FALLBACK_SEEN true else s
  if due.any fun x => decide (x.1.code = Ev.fwRejected.code) then s.flag Reg.PW_STAT_REJECT_SEEN true else s

theorem State.bootReports_eq (s : State) : s.bootReports = s.bootEvents.reportsTaken.dueReported s.bootEvents.pw.due := rfl

theorem State.bootEvents_life (s : State) : s.SameLife s.bootEvents := by
  unfold State.bootEvents
  dsimp only
  refine ⟨?_, ?_, ?_, ?_⟩ <;> (repeat' split) <;> simp

theorem State.dueReported_life (s : State) (due : List (Ev × Nat × Nat)) : s.SameLife (s.dueReported due) := by
  refine State.SameLife.trans (State.SameLife.foldl (f := fun s x => s.raise x.1 x.2.1 x.2.2) (fun s x => ⟨rfl, rfl, rfl, rfl⟩) due s) ?_
  unfold State.dueReported
  dsimp only
  split <;> split <;> simp

theorem State.bootReports_life (s : State) :
    s.SameStanding s.bootReports ∧ s.bootReports.pw.due = [] ∧ s.bootReports.pw.rebootAt = s.pw.rebootAt := by
  obtain ⟨hpending, hnow, hphase, hpw⟩ := s.bootEvents_life
  obtain ⟨hpending', hnow', hphase', hpw'⟩ := s.bootEvents.reportsTaken.dueReported_life s.bootEvents.pw.due
  have hgate := congrArg Power.gate hpw
  have hreboot := congrArg Power.rebootAt hpw
  rw [State.bootReports_eq]
  refine ⟨⟨hpending'.trans hpending, hnow'.trans hnow, hphase'.trans hphase, ?_⟩, ?_, ?_⟩
  all_goals rw [hpw']
  · exact hgate
  · rfl
  · exact hreboot

theorem State.nowReady_life (s : State) (formats : RecordFormats) :
    (s.nowReady formats).pending = s.pending ∧ (s.nowReady formats).now = s.now ∧ (s.nowReady formats).phase = .ready
      ∧ (s.nowReady formats).pw.gate = s.pw.gate := by
  obtain ⟨hpending, hnow, -, hgate⟩ := (s.readRecords formats).loadSets_standing
  obtain ⟨hpending', hnow', hphase', hgate'⟩ := (s.readRecords formats).loadSets.loadFuses.readyNow_life
  obtain ⟨hpending'', hnow'', hphase'', hpw⟩ := (s.readRecords formats).loadSets.loadFuses.readyNow.restoreFails.startBlocks_life
  obtain ⟨⟨hpending₃, hnow₃, hphase₃, hgate₃⟩, -, -⟩ := (s.readRecords formats).loadSets.loadFuses.readyNow.restoreFails.startBlocks.bootReports_life
  refine ⟨hpending₃.trans (hpending''.trans ?_), hnow₃.trans (hnow''.trans ?_), hphase₃.trans (hphase''.trans ?_),
    hgate₃.trans ((congrArg Power.gate hpw).trans ?_)⟩ <;> simp [*]

theorem nodeRdyAssert_moves (t : Nat) (formats : RecordFormats) (s : State) : Yields (.nodeRdyAssert t formats) s s.Moves := by
  refine ⟨_, execNodeRdyAssert_eq t formats s, State.Moves.of_clock t ?_⟩
  split
  · next h =>
    obtain ⟨hp, htest⟩ := h
    obtain ⟨hpending, hnow, hphase, hgate⟩ := (s.clock t).nowReady_life formats
    have hheld := State.held_of_ready hphase
    refine ⟨hpending, hnow.ge, fun ⟨released, _, _, _⟩ => ⟨?_, by simp [hphase], by simp [hheld], fun _ => hgate ▸ htest⟩⟩
    rw [hgate, hheld, ← released, State.held_of_boot hp]
  · exact State.Moves.refl _

theorem State.Moves.of_standing {s x : State} (h : s.SameStanding x) (hreboot : x.pw.rebootAt = s.pw.rebootAt) : s.Moves x := by
  obtain ⟨hpending, hnow, hphase, hgate⟩ := h
  exact State.Moves.of_same hpending hnow hphase (by rw [hgate]) (by rw [hgate]) (by rw [hgate]) (by simp [hgate]) hreboot

theorem State.settle_life (k : CmdKey) (n : Nat) (s : State) : s.SameLife (State.settle k n s) := by
  induction n generalizing s with
  | zero => exact ⟨rfl, rfl, rfl, rfl⟩
  | succ n ih =>
    unfold State.settle
    split
    · split
      · exact ⟨rfl, rfl, rfl, rfl⟩
      · split
        · exact State.SameLife.trans (by simp) (ih _)
        · split
          · exact ⟨rfl, rfl, rfl, rfl⟩
          · exact State.SameLife.trans (by simp) (ih _)
    · exact ⟨rfl, rfl, rfl, rfl⟩

theorem State.finish_life (s : State) (k : CmdKey) (c : Cmd) (a : Answer) : s.SameLife (s.finish k c a) :=
  State.SameLife.trans (by simp) (State.settle_life k _ (s.answer k c a))

theorem State.cmdsOf_setHeadCmd (s : State) (k : CmdKey) (c : Cmd) : (s.setHeadCmd k c).cmdsOf k = c :: (s.cmdsOf k).drop 1 := by
  have hnone : (s.cm.queues.filter fun q => decide (q.key ≠ k)).find? (fun q => decide (q.key = k)) = none := by
    rw [List.find?_eq_none]
    intro q hq
    simpa using (List.mem_filter.mp hq).2
  simp only [State.setHeadCmd, State.setCmds, List.isEmpty_cons, Bool.false_eq_true, if_false]
  rw [State.cmdsOf, List.find?_append, hnone]
  simp

/-- An FW_STAGE that waits and is barred is refused, or waits for room (R438). -/
theorem State.wakeOne_barred_life {s : State} {k : CmdKey} {c : Cmd} {r : List Cmd} (hcmds : s.cmdsOf k = c :: r)
    (hc : (c.barred && c.since.isSome && decide (c.opcode = 0x50)) = true) : s.SameLife (s.wakeOne k) := by
  simp only [State.wakeOne, hcmds, hc, if_true]
  split
  · exact ⟨rfl, rfl, rfl, rfl⟩
  · exact s.finish_life k c _

theorem State.refuseStages_life (s : State) : s.SameLife s.refuseStages := by
  refine State.SameLife.foldl (fun s q => ?_) _ _
  split
  · split
    · next c r _ hwaits =>
      exact State.SameLife.trans (by simp) (State.wakeOne_barred_life (s.cmdsOf_setHeadCmd q.key { c with barred := true }) hwaits)
    · exact ⟨rfl, rfl, rfl, rfl⟩
  · exact ⟨rfl, rfl, rfl, rfl⟩

theorem State.braceMark_standing (s : State) (r : Nat) : s.SameStanding (s.braceMark r) ∧ (s.braceMark r).pw.rebootAt = s.pw.rebootAt := by
  unfold State.braceMark
  dsimp only
  split <;> simp

theorem State.braceStart_moves (s : State) (r : Nat) : s.Moves (s.braceStart r) := by
  obtain ⟨hstanding, hreboot⟩ := s.braceMark_standing r
  obtain ⟨hpending, hnow, hphase, hpw⟩ := (s.braceMark r).refuseStages_life
  exact (State.Moves.of_standing hstanding hreboot).trans
    (State.Moves.of_standing ⟨hpending, hnow, hphase, congrArg Power.gate hpw⟩ (congrArg Power.rebootAt hpw))

theorem State.braceCross_moves (s : State) (r : Rail) (mv : Nat) : s.Moves (s.braceCross r mv) := by
  have hdown (s : State) : s.Moves (({ s with pw := { s.pw with crossed := addOnce r.val s.pw.crossed } }).railDown r mv) :=
    State.Moves.of_same (by simp) (by simp) (by simp) (by simp) (by simp) (by simp) (by simp) (by simp)
  unfold State.braceCross
  dsimp only
  split
  · exact hdown s
  · exact (s.braceStart_moves r.val).trans (hdown _)

theorem State.braceEntry_moves (s : State) (r : Rail) (mv : Nat) : s.Moves (s.braceEntry r mv) := by
  have hbit : s.Moves (s.orBit Reg.PW_RAIL_STAT_BELOW r) :=
    State.Moves.of_same (by simp) (by simp) (by simp) (by simp) (by simp) (by simp) (by simp) (by simp)
  unfold State.braceEntry
  split
  · exact State.Moves.refl s
  split
  · exact s.railUnder_moves r
  split
  · exact hbit.trans (State.railUnder_moves _ r)
  · exact (hbit.trans (State.railUnder_moves _ r)).trans (State.braceCross_moves _ r mv)

theorem braceEntry_moves (t : Nat) (r : Rail) (mv : Nat) (s : State) : Yields (.braceEntry t r mv) s s.Moves :=
  ⟨_, execBraceEntry_eq t r mv s, State.Moves.of_clock t (State.braceEntry_moves _ r mv)⟩

theorem braceEnd_moves (t : Nat) (s : State) : Yields (.braceEnd t) s s.Moves := by
  refine ⟨_, rfl, State.Moves.of_clock t ?_⟩
  split
  · split
    · dsimp only
      split <;> exact State.Moves.of_same rfl rfl rfl rfl rfl rfl id rfl
    · exact State.Moves.refl _
  · exact State.Moves.refl _

theorem exec_moves (c : Instr) (s : State) : Yields c s s.Moves := by
  cases hc : movesDie c with
  | false =>
    obtain ⟨x, hx, h⟩ := exec_abides hc s
    exact ⟨x, hx, h.moves⟩
  | true =>
    cases c with
    | powerOnReset t => exact powerOnReset_moves t s
    | powerOnRelease t => exact powerOnRelease_moves t s
    | railAboveWarning t r dip => exact railAboveWarning_moves t r dip s
    | supplyReset t r => exact supplyReset_moves t r s
    | dieRelease t hv f => exact dieRelease_moves t hv f s
    | selfTestComplete t ok f => exact selfTestComplete_moves t ok f s
    | nodeRdyAssert t formats => exact nodeRdyAssert_moves t formats s
    | braceEntry t r mv => exact braceEntry_moves t r mv s
    | braceEnd t => exact braceEnd_moves t s
    | rstNAssert t => exact rstNAssert_moves t s
    | rstNRelease t f => exact rstNRelease_moves t f s
    | mgmtWatchdogExpiry t f => exact mgmtWatchdogExpiry_moves t f s
    | rebootReset t f => exact rebootReset_moves t f s
    | _ => cases hc

end Sys2Proof.Machine

namespace Sys2Proof
open Machine

/-- Settles O3: a command of a block keeps phase and gate and acts in no reset phase (exec_abides); each command of chapter 17 that moves
the die leads to a gate that says so (exec_moves). -/
theorem gatedKept : Obligations.GatedKept := by
  unfold Obligations.GatedKept
  intro s x hs hx
  unfold step at hx
  split at hx
  · exact Host.Outcome.next.inj hx ▸ hs
  · next c r _ =>
    obtain ⟨y, hexec, -, -, hy⟩ := exec_moves c { s with pending := r }
    cases hexec.symm.trans hx
    exact hy hs

/-- Settles O2: exec_moves, for every command. -/
theorem everyCommandCompletes : Obligations.EveryCommandCompletes := by
  unfold Obligations.EveryCommandCompletes
  intro c s
  obtain ⟨x, hx, hpending, hnow, -⟩ := exec_moves c s
  exact ⟨x, hx, hpending, hnow⟩

/-- Settles O1: the two branches of step. -/
theorem stepRunsFront : Obligations.StepRunsFront := by
  unfold Obligations.StepRunsFront
  refine ⟨fun c r s => rfl, fun s hs => ?_⟩
  unfold step
  rw [hs]

end Sys2Proof
end

section
/-!
SUPPORT. A channel that copies from the SRAM, whose DMA_STOP found no room at its destination and waits: its next turn is its end (R375, R377).
-/

namespace Sys2Proof.Machine

/-- A copy of one byte inside the SRAM that is still to be read, and a STOP that waits. -/
def stoppingCopy : DmaChan :=
  { cfg := (Reg.DM_CH_CFG_DKIND 0).put ((Reg.DM_CH_CFG_SKIND 0).put 0 1) 1, src := 0x100000, dst := 0x100100, count := 1, stride := 0, left := 1
    stopping := true }

/-- Channel 5 runs `stoppingCopy`; its destination has room. -/
def stopWaits : State := { State.reset with phase := .ready, dm := { State.reset.dm with chans := Tab.set State.reset.dm.chans none 5 (some stoppingCopy) } }

/-- The grant ends the channel by its STOP, with ERR 5. -/
theorem err_dmaReadGrant_stopWaits : ∃ x, exec (.dmaReadGrant 0) stopWaits = .next x ∧ x.h (Reg.DM_CH_STAT_ERR 5) = 5 :=
  ⟨_, rfl, by decide +kernel⟩

end Sys2Proof.Machine

namespace Sys2Proof
open Machine

/-- Refutes O27, in its third part: a channel that reads its last element need not end with ERR 0, for it may have a STOP that waits. In
`stopWaits` the turn of the channel is taken for its STOP, and ERR is 5 (R375). -/
theorem not_grantsReadOneElement : ¬ Obligations.GrantsReadOneElement := by
  unfold Obligations.GrantsReadOneElement
  rintro ⟨-, -, lastElement, -⟩
  obtain ⟨x, hx, -, -, noError⟩ := lastElement 0 5 stoppingCopy stopWaits rfl (by decide +kernel) (by decide) (by decide) (by decide) rfl (by decide +kernel)
  obtain ⟨y, hy, stopped⟩ := err_dmaReadGrant_stopWaits
  obtain rfl : x = y := Host.Outcome.next.inj (hx.symm.trans hy)
  exact absurd (stopped.symm.trans noError) (by decide)

end Sys2Proof
end

section
/-!
SUPPORT. A SAFE_RESET pulse at the SRST pins while the channel that allows it is energised already (R341 to R343).
-/

namespace Sys2Proof.Machine

/-- What both islands hold of the SF_ values: channel 3 may be reset by SRST. -/
def resetBySrst : Tab Score := Tab.set {} (Reg.resetRw (Reg.SF_CH_CFG 3)) (Reg.SF_CH_CFG 3) ((Reg.SF_CH_CFG_SRST_EN 3).put 0 1)

/-- Channel 3 is ENERGISED and a frame of it has been evaluated; island A counted an SRST edge at 10 ms, and island B saw the rise at instant 5. -/
def energisedAtEdge : State :=
  { State.reset with
    phase := .ready
    regs := { State.reset.regs with hw := Tab.set State.reset.regs.hw 0 (Reg.SF_CH_STAT_STATE 3).key 2 }
    safe := { State.reset.safe with
      chan := Tab.set State.reset.safe.chan {} 3 { evaluated := true }
      a := { copy := resetBySrst, edgeAt := some 1280000000 }
      b := { copy := resetBySrst, riseAt := some 5 } } }

/-- The edge of island B finds no channel to reset, and nothing is reported. -/
theorem inbox_srstEdge_energisedAtEdge : ∃ x, exec (.srstEdge 1280000005 .b) energisedAtEdge = .next x ∧ x.ev.inbox = [] :=
  ⟨_, rfl, by decide +kernel⟩

end Sys2Proof.Machine

namespace Sys2Proof
open Machine

/-- Refutes O49, in its fourth part: the second edge of a healthy pair need not report SAFE_RESET, for the statement does not say that the
channel is TRIPPED. In `energisedAtEdge` it is ENERGISED already, and the pulse resets nothing. -/
theorem not_resetsAndMessagesAct : ¬ Obligations.ResetsAndMessagesAct := by
  unfold Obligations.ResetsAndMessagesAct
  rintro ⟨-, -, -, secondEdge, -⟩
  obtain ⟨x, hx, -, ⟨r, reported, -⟩, -⟩ := secondEdge 1280000005 .b 5 1280000000 3 energisedAtEdge rfl (by decide +kernel) rfl (by decide) rfl
    (by decide) (by decide) (by decide +kernel) (by decide +kernel) rfl rfl
  obtain ⟨y, hy, silent⟩ := inbox_srstEdge_energisedAtEdge
  obtain rfl : x = y := Host.Outcome.next.inj (hx.symm.trans hy)
  exact List.not_mem_nil (silent ▸ reported)

end Sys2Proof
end

section
/-!
SUPPORT. An event that fires a trigger unit, whose capture is complete at once and makes a report of its own (R245, R246, R249).
-/

namespace Sys2Proof.Machine

/-- A report of the device itself, about an instant before its last sample was stored. -/
def ownReport : Report :=
  { src := 0, code := 1, sev := .info, e10 := 0, e11 := 0, count := 1, first := 0, last := 0, time := 0, relayed := false, port := none }

/-- Trigger unit 0 fires at events of any severity. Buffer 0 records converter channel 5, one sample from the trigger on; it is ARMED and has
stored one sample, at instant 100. The report waits. -/
def captureAtEvent : State :=
  { (State.reset.setH (Reg.AQ_BUF_STAT_STATE 0) 1).setAqBuf 0 { cfg := [0, 0x40005, 0, 1, 1, 1, 0], data := [7], stamps := [(100, 0)] } with
    phase := .ready
    now := 200
    ev := { State.reset.ev with inbox := [ownReport] } }.setAqUnit 0 { cfg := [(Reg.AQ_TRG_CFG_KIND 0).put 0 5, 0, 0, 0] }

/-- The capture is complete, and ACQ_DONE stands behind the report that was taken. -/
theorem inbox_eventReport_captureAtEvent :
    ∃ x, exec (.eventReport 200) captureAtEvent = .next x ∧ x.ev.inbox.map (·.code) = [Ev.acqDone.code] :=
  ⟨_, rfl, by decide +kernel⟩

end Sys2Proof.Machine

namespace Sys2Proof
open Machine

/-- Refutes O45, in its first part: after EVENT_REPORT the reports not yet taken need not be those that stood behind the one taken. In
`captureAtEvent` the event fires a trigger unit, and the capture that this completes reports ACQ_DONE. -/
theorem not_eventsAreMergedAndSent : ¬ Obligations.EventsAreMergedAndSent := by
  unfold Obligations.EventsAreMergedAndSent
  rintro ⟨reportTaken, -⟩
  obtain ⟨x, hx, noneLeft, -⟩ := reportTaken 200 ownReport [] captureAtEvent rfl rfl
  obtain ⟨y, hy, done⟩ := inbox_eventReport_captureAtEvent
  obtain rfl : x = y := Host.Outcome.next.inj (hx.symm.trans hy)
  rw [noneLeft] at done
  exact List.cons_ne_nil _ _ done.symm

end Sys2Proof
end

section
/-!
SUPPORT. What an action of the safety islands on one channel, and on all eight, may change (R328, R338, R341, R345 to R347): the channel's own status
fields, its part of the islands' state, events and what is sent. No such action energises a channel unless it is a reset.
-/

namespace Sys2Proof.Machine

/-! ### The fields of a channel -/

/-- The status fields that an action on a channel writes; a ZONE_STATE that no link takes counts in FL_SUB_DROP. -/
def chanFields (n : Nat) : List Fld :=
  [Reg.SF_CH_STAT_STATE n, Reg.SF_CH_STAT_SOA_RB n, Reg.SF_CH_STAT_SOB_RB n, Reg.SF_CH_STAT_TRIP_SEEN n, Reg.SF_CH_CAUSE_FIRST n,
    Reg.SF_TRIP_CNT_COUNT n, Reg.FL_SUB_DROP_COUNT]

theorem chanFields_keys {n : Nat} {k : Nat} (h : k ∈ (chanFields n).map Fld.key) :
    (k % 512 = 32 ∧ 16777760 ≤ k) ∨ k % 512 = 38 ∨ k % 512 = 39 ∨ k % 512 = 37 ∨ k % 512 = 74 ∨ k % 512 = 288 ∨ k % 512 = 64 := by
  simp only [chanFields, List.map_cons, List.map_nil, List.mem_cons, List.not_mem_nil, or_false, Fld.key, Reg.SF_CH_STAT_STATE,
    Reg.SF_CH_STAT_SOA_RB, Reg.SF_CH_STAT_SOB_RB, Reg.SF_CH_STAT_TRIP_SEEN, Reg.SF_CH_CAUSE_FIRST, Reg.SF_TRIP_CNT_COUNT, Reg.FL_SUB_DROP_COUNT,
    Reg.SF_CH_STAT, Reg.SF_CH_CAUSE, Reg.SF_TRIP_CNT, Reg.FL_SUB_DROP] at h
  omega

theorem chanState_not_mem {m n : Nat} (h : m ≠ n) : (Reg.SF_CH_STAT_STATE m).key ∉ (chanFields n).map Fld.key := by
  simp only [chanFields, List.map_cons, List.map_nil, List.mem_cons, List.not_mem_nil, or_false, Fld.key, Reg.SF_CH_STAT_STATE,
    Reg.SF_CH_STAT_SOA_RB, Reg.SF_CH_STAT_SOB_RB, Reg.SF_CH_STAT_TRIP_SEEN, Reg.SF_CH_CAUSE_FIRST, Reg.SF_TRIP_CNT_COUNT, Reg.FL_SUB_DROP_COUNT,
    Reg.SF_CH_STAT, Reg.SF_CH_CAUSE, Reg.SF_TRIP_CNT, Reg.FL_SUB_DROP]
  omega

theorem siCause_not_mem (i n : Nat) : (siCause i).key ∉ (chanFields n).map Fld.key := by
  intro h
  have hk := chanFields_keys h
  unfold siCause at hk
  split at hk <;> simp only [Fld.key, Reg.SF_STAT_SIA_CAUSE, Reg.SF_STAT_SIB_CAUSE, Reg.SF_STAT] at hk <;> omega

theorem siCause_ne_chanState (i n : Nat) : (Reg.SF_CH_STAT_STATE n).key ≠ (siCause i).key := by
  unfold siCause
  split <;> simp only [Fld.key, Reg.SF_STAT_SIA_CAUSE, Reg.SF_STAT_SIB_CAUSE, Reg.SF_STAT, Reg.SF_CH_STAT_STATE, Reg.SF_CH_STAT] <;> omega

/-! ### Parts of the islands' state -/

@[simp] theorem State.safeChan_setSafeChan_same (s : State) (n : Nat) (x : SafeChan) : (s.setSafeChan n x).safeChan n = x := by
  simp [State.safeChan, State.setSafeChan]

theorem State.safeChan_setSafeChan_ne (s : State) {m n : Nat} (x : SafeChan) (h : m ≠ n) : (s.setSafeChan n x).safeChan m = s.safeChan m := by
  simp [State.safeChan, State.setSafeChan, Tab.get_set_ne _ _ _ _ h]

theorem State.safeChan_congr {s x : State} (h : x.safe = s.safe) (n : Nat) : x.safeChan n = s.safeChan n := by
  rw [State.safeChan, State.safeChan, h]

/-! ### Actions on one channel -/

/-- An action on channel `n`: only its fields, its part of the islands' state, events and what is sent change; the causes that its last evaluation
showed stay. -/
structure State.ActsOn (n : Nat) (s x : State) : Prop where
  fields : OnlyFields (chanFields n) s x
  islands : x.safe = { s.safe with chan := x.safe.chan }
  others : ∀ m, m ≠ n → x.safeChan m = s.safeChan m
  causes : (x.safeChan n).causes = (s.safeChan n).causes
  reports : s.ev.inbox ⊆ x.ev.inbox

theorem State.ActsOn.refl (n : Nat) (s : State) : State.ActsOn n s s := ⟨OnlyFields.refl _ s, rfl, fun _ _ => rfl, rfl, List.Subset.refl _⟩

theorem State.ActsOn.trans {n : Nat} {s x y : State} (h : State.ActsOn n s x) (h' : State.ActsOn n x y) : State.ActsOn n s y := by
  refine ⟨h.fields.trans h'.fields, ?_, fun m hm => (h'.others m hm).trans (h.others m hm), h'.causes.trans h.causes, List.Subset.trans h.reports h'.reports⟩
  rw [h'.islands, h.islands]

/-- A change of the registers and of what is sent. -/
theorem State.ActsOn.of_fields {n : Nat} {s x : State} (h : OnlyFields (chanFields n) s x) (hsafe : x.safe = s.safe) (hev : x.ev = s.ev) :
    State.ActsOn n s x :=
  ⟨h, by rw [hsafe], fun m _ => State.safeChan_congr hsafe m, by rw [State.safeChan_congr hsafe], by rw [hev]; exact List.Subset.refl _⟩

theorem State.ActsOn.setSafeChan {n : Nat} (s : State) {x : SafeChan} (h : x.causes = (s.safeChan n).causes) :
    State.ActsOn n s (s.setSafeChan n x) :=
  ⟨OnlyFields.of_regs rfl, rfl, fun _ hm => s.safeChan_setSafeChan_ne x hm, by rw [State.safeChan_setSafeChan_same, h], List.Subset.refl _⟩

theorem State.ActsOn.raise (n : Nat) (s : State) (e : Ev) (a b : Nat) : State.ActsOn n s (s.raise e a b) := by
  refine ⟨OnlyFields.of_regs rfl, rfl, fun _ _ => rfl, rfl, ?_⟩
  obtain ⟨r, hr, -⟩ := s.inbox_raise e a b
  rw [hr]
  exact List.subset_append_left _ _

theorem State.ActsOn.chState {n m : Nat} {s x : State} (h : State.ActsOn n s x) (hm : m ≠ n) : x.chState m = s.chState m :=
  h.fields _ (chanState_not_mem hm)

theorem State.chEnergised_congr {s x : State} {n : Nat} (h : x.chState n = s.chState n) : x.chEnergised n = s.chEnergised n := by
  rw [State.chEnergised, State.chEnergised, h]

/-- The read-back bits show the pins. -/
theorem State.showPins_only (s : State) (n : Nat) : OnlyFields [Reg.SF_CH_STAT_SOA_RB n, Reg.SF_CH_STAT_SOB_RB n] s (s.showPins n) :=
  (OnlyFields.flag (by simp) s _).trans (OnlyFields.flag (by simp) _ _)

/-- What the feedback check starts over with when a channel is energised or de-energised (R340). -/
def State.feedbackRestarts (s : State) (n : Nat) (was : Bool) : State :=
  if s.chEnergised n = was then s
  else
    s.setSafeChan n { s.safeChan n with
      changedAt := s.now, fbOk := s.h (Reg.SF_CH_STAT_SFB n) == (if s.chEnergised n then 0 else 1), wrongAt := none, rbA := false, rbB := false }

theorem State.chMove_eq (s : State) (n st : Nat) :
    s.chMove n st = ((s.setH (Reg.SF_CH_STAT_STATE n) st).feedbackRestarts n (s.chEnergised n)).showPins n := rfl

theorem State.feedbackRestarts_acts (s : State) (n : Nat) (was : Bool) : State.ActsOn n s (s.feedbackRestarts n was) := by
  unfold State.feedbackRestarts
  split
  · exact State.ActsOn.refl n s
  · exact State.ActsOn.setSafeChan s rfl

theorem State.feedbackRestarts_regs (s : State) (n : Nat) (was : Bool) : (s.feedbackRestarts n was).regs = s.regs := by
  unfold State.feedbackRestarts
  split <;> rfl

theorem State.feedbackRestarts_degUntil (s : State) (n : Nat) (was : Bool) :
    ((s.feedbackRestarts n was).safeChan n).degUntil = (s.safeChan n).degUntil := by
  unfold State.feedbackRestarts
  split
  · rfl
  · rw [State.safeChan_setSafeChan_same]

theorem State.showPins_acts (s : State) (n : Nat) : State.ActsOn n s (s.showPins n) :=
  State.ActsOn.of_fields ((s.showPins_only n).mono (by simp [chanFields])) (by simp) (by simp)

/-- A channel's commanded state changes, and with it the pins. -/
theorem State.chMove_only (s : State) (n st : Nat) :
    OnlyFields [Reg.SF_CH_STAT_STATE n, Reg.SF_CH_STAT_SOA_RB n, Reg.SF_CH_STAT_SOB_RB n] s (s.chMove n st) := by
  rw [State.chMove_eq]
  exact ((OnlyFields.setH (by simp) s st).trans (OnlyFields.of_regs (State.feedbackRestarts_regs _ _ _))).trans
    ((State.showPins_only _ n).mono (by simp))

theorem State.chMove_acts (s : State) (n st : Nat) : State.ActsOn n s (s.chMove n st) := by
  rw [State.chMove_eq]
  exact ((State.ActsOn.of_fields (OnlyFields.setH (by simp [chanFields]) s st) rfl rfl).trans (State.feedbackRestarts_acts _ _ _)).trans
    (State.showPins_acts _ n)

theorem State.chState_chMove (s : State) (n st : Nat) : (s.chMove n st).chState n = min st 7 := by
  have hpins : (Reg.SF_CH_STAT_STATE n).key ∉ [Reg.SF_CH_STAT_SOA_RB n, Reg.SF_CH_STAT_SOB_RB n].map Fld.key := by
    simp [Fld.key, Reg.SF_CH_STAT_STATE, Reg.SF_CH_STAT_SOA_RB, Reg.SF_CH_STAT_SOB_RB]
  rw [State.chMove_eq, State.chState, State.showPins_only _ n _ hpins, State.h_congr (State.feedbackRestarts_regs _ _ _), State.h_setH_same]
  rfl

theorem State.chMove_degUntil (s : State) (n st : Nat) : ((s.chMove n st).safeChan n).degUntil = (s.safeChan n).degUntil := by
  have hpins (y : State) : (y.showPins n).safeChan n = y.safeChan n := State.safeChan_congr (by simp) n
  rw [State.chMove_eq, hpins, State.feedbackRestarts_degUntil]
  rfl

/-! ### ZONE_STATE -/

/-- One ZONE_STATE goes to one subscriber, or is counted as dropped. -/
def State.zoneTo (m : List Score) (s : State) (u : Sub) : State :=
  if s.subUp u then (if s.subVersion u.who ≥ 2 then s.sendSub u 7 m else s) else s.subDrop 1

theorem State.zoneTo_kept (m : List Score) (s : State) (u : Sub) :
    OnlyFields [Reg.FL_SUB_DROP_COUNT] s (s.zoneTo m u) ∧ (s.zoneTo m u).safe = s.safe ∧ (s.zoneTo m u).ev = s.ev := by
  unfold State.zoneTo
  split
  · split
    · exact ⟨OnlyFields.of_regs (by simp), by simp, by simp⟩
    · exact ⟨OnlyFields.refl _ s, rfl, rfl⟩
  · exact ⟨OnlyFields.add (by simp) s 1, by simp, by simp⟩

theorem State.sendZone_acts (s : State) (n : Nat) :
    OnlyFields [Reg.FL_SUB_DROP_COUNT] s (s.sendZone n) ∧ State.ActsOn n s (s.sendZone n)
      ∧ ((s.sendZone n).safeChan n).degUntil = (s.safeChan n).degUntil := by
  unfold State.sendZone
  split
  · exact ⟨OnlyFields.refl _ s, State.ActsOn.refl n s, rfl⟩
  · next i _ _ =>
    let y := s.setSafeChan n { s.safeChan n with seq := ((s.safeChan n).seq + 1) % 65536 }
    let m := s.zoneState i n
    have honly := OnlyFields.foldl (State.zoneTo m) (y.subsOf 2 n) (fun z u _ => (z.zoneTo_kept m u).1) y
    have hsafe := foldl_inv State.safe (y.subsOf 2 n) (State.zoneTo m) y fun z u => (z.zoneTo_kept m u).2.1
    have hev := foldl_inv State.ev (y.subsOf 2 n) (State.zoneTo m) y fun z u => (z.zoneTo_kept m u).2.2
    have hseq : State.ActsOn n s y := State.ActsOn.setSafeChan s rfl
    have hseqOnly : OnlyFields [Reg.FL_SUB_DROP_COUNT] s y := OnlyFields.of_regs rfl
    refine ⟨hseqOnly.trans honly, hseq.trans (State.ActsOn.of_fields (honly.mono (by simp [chanFields])) hsafe hev), ?_⟩
    refine (congrArg SafeChan.degUntil (State.safeChan_congr hsafe n)).trans ?_
    rw [State.safeChan_setSafeChan_same]

theorem State.chState_sendZone (s : State) (n m : Nat) : (s.sendZone n).chState m = s.chState m := by
  refine (s.sendZone_acts n).1 _ ?_
  simp only [List.map_cons, List.map_nil, List.mem_singleton, Fld.key, Reg.SF_CH_STAT_STATE, Reg.SF_CH_STAT, Reg.FL_SUB_DROP_COUNT, Reg.FL_SUB_DROP]
  omega

/-! ### Trips -/

/-- What a trip notes of a channel: no end of DEGRADED waits, and a cause that stands until device reset stays. -/
def State.tripNoted (s : State) (n cause : Nat) : State :=
  let x := s.safeChan n
  s.setSafeChan n { x with degUntil := none, expired := if x.expired = 0 ∧ (cause = 12 ∨ cause = 17) then cause else x.expired }

/-- A trip shows its cause and is counted. -/
def State.tripShown (s : State) (n cause : Nat) : State :=
  ((s.setH (Reg.SF_CH_CAUSE_FIRST n) cause).inc (Reg.SF_TRIP_CNT_COUNT n)).flag (Reg.SF_CH_STAT_TRIP_SEEN n) true

/-- The marks of a trip: its cause, its count, its report (R338). -/
def State.tripMarks (s : State) (n cause : Nat) : State := ((s.tripNoted n cause).tripShown n cause).raise .safeTrip n cause

theorem State.tripMove_eq (s : State) (n cause : Nat) :
    s.tripMove n cause = if s.chEnergised n then (s.tripMarks n cause).chMove n 1 else s := rfl

theorem State.tripMarks_acts (s : State) (n cause : Nat) : State.ActsOn n s (s.tripMarks n cause) := by
  have hnoted : State.ActsOn n s (s.tripNoted n cause) := State.ActsOn.setSafeChan s rfl
  have hshown (y : State) : State.ActsOn n y (y.tripShown n cause) := by
    refine State.ActsOn.of_fields ?_ (by simp [State.tripShown]) (by simp [State.tripShown])
    exact ((OnlyFields.setH (by simp [chanFields]) _ cause).then_inc (by simp [chanFields])).then_flag (by simp [chanFields]) _
  exact (hnoted.trans (hshown _)).trans (State.ActsOn.raise n _ .safeTrip n cause)

theorem State.tripMove_acts (s : State) (n cause : Nat) : State.ActsOn n s (s.tripMove n cause) := by
  rw [State.tripMove_eq]
  split
  · exact (s.tripMarks_acts n cause).trans (State.chMove_acts _ n 1)
  · exact State.ActsOn.refl n s

theorem State.zoneOut_acts (s : State) (n : Nat) : State.ActsOn n s (s.zoneOut n) := by
  unfold State.zoneOut
  split
  · exact (s.sendZone_acts n).2.1
  · exact s.tripMove_acts n 11

theorem State.chSet_acts (s : State) (n st : Nat) : State.ActsOn n s (s.chSet n st) := (s.chMove_acts n st).trans (State.zoneOut_acts _ n)

theorem State.siTrip_acts (s : State) (n cause : Nat) : State.ActsOn n s (s.siTrip n cause) := by
  unfold State.siTrip
  split
  · exact (s.tripMove_acts n cause).trans (State.zoneOut_acts _ n)
  · exact State.ActsOn.refl n s

theorem State.chEnergised_eq_false {s : State} {n : Nat} (h : s.chState n = 1) : s.chEnergised n = false := by
  rw [State.chEnergised, h]
  rfl

theorem State.chEnergised_of_three {s : State} {n : Nat} (h : s.chState n = 3) : s.chEnergised n = true := by
  rw [State.chEnergised, h]
  rfl

theorem State.pairLow_of_tripped {s : State} {n : Nat} (h : s.chState n = 1) : s.pairLow n := by
  simp [State.pairLow, State.soLevel, h]

/-- A trip of an energised channel: TRIPPED with its cause, counted, and no end of DEGRADED waits. -/
theorem State.tripMove_spec {s : State} {n : Nat} (cause : Nat) (h : s.chEnergised n = true) :
    (s.tripMove n cause).chState n = 1 ∧ (s.tripMove n cause).h (Reg.SF_CH_CAUSE_FIRST n) = min cause 31
      ∧ (s.tripMove n cause).h (Reg.SF_TRIP_CNT_COUNT n) = min (s.h (Reg.SF_TRIP_CNT_COUNT n) + 1) (Reg.SF_TRIP_CNT_COUNT n).top
      ∧ ((s.tripMove n cause).safeChan n).degUntil = none := by
  have hfirst : (Reg.SF_CH_CAUSE_FIRST n).key ∉ [Reg.SF_CH_STAT_STATE n, Reg.SF_CH_STAT_SOA_RB n, Reg.SF_CH_STAT_SOB_RB n].map Fld.key := by
    simp only [List.map_cons, List.map_nil, List.mem_cons, List.not_mem_nil, or_false, Fld.key, Reg.SF_CH_CAUSE_FIRST, Reg.SF_CH_STAT_STATE,
      Reg.SF_CH_STAT_SOA_RB, Reg.SF_CH_STAT_SOB_RB, Reg.SF_CH_STAT, Reg.SF_CH_CAUSE]
    omega
  have hcount : (Reg.SF_TRIP_CNT_COUNT n).key ∉ [Reg.SF_CH_STAT_STATE n, Reg.SF_CH_STAT_SOA_RB n, Reg.SF_CH_STAT_SOB_RB n].map Fld.key := by
    simp only [List.map_cons, List.map_nil, List.mem_cons, List.not_mem_nil, or_false, Fld.key, Reg.SF_TRIP_CNT_COUNT, Reg.SF_CH_STAT_STATE,
      Reg.SF_CH_STAT_SOA_RB, Reg.SF_CH_STAT_SOB_RB, Reg.SF_CH_STAT, Reg.SF_TRIP_CNT]
    omega
  have hfc : (Reg.SF_CH_CAUSE_FIRST n).key ≠ (Reg.SF_TRIP_CNT_COUNT n).key := by
    simp only [Fld.key, Reg.SF_CH_CAUSE_FIRST, Reg.SF_TRIP_CNT_COUNT, Reg.SF_CH_CAUSE, Reg.SF_TRIP_CNT]
    omega
  have hfs : (Reg.SF_CH_CAUSE_FIRST n).key ≠ (Reg.SF_CH_STAT_TRIP_SEEN n).key := by
    simp only [Fld.key, Reg.SF_CH_CAUSE_FIRST, Reg.SF_CH_STAT_TRIP_SEEN, Reg.SF_CH_CAUSE, Reg.SF_CH_STAT]
    omega
  have hcs : (Reg.SF_TRIP_CNT_COUNT n).key ≠ (Reg.SF_CH_STAT_TRIP_SEEN n).key := by
    simp only [Fld.key, Reg.SF_TRIP_CNT_COUNT, Reg.SF_CH_STAT_TRIP_SEEN, Reg.SF_TRIP_CNT, Reg.SF_CH_STAT]
    omega
  rw [State.tripMove_eq, if_pos h]
  refine ⟨State.chState_chMove _ n 1, ?_, ?_, ?_⟩
  · rw [State.chMove_only _ n 1 _ hfirst]
    rw [State.tripMarks, State.h_raise, State.tripShown, State.h_flag_ne _ _ _ _ hfs, State.h_inc_ne _ _ _ hfc, State.h_setH_same]
    rfl
  · rw [State.chMove_only _ n 1 _ hcount]
    rw [State.tripMarks, State.h_raise, State.tripShown, State.h_flag_ne _ _ _ _ hcs, State.h_inc_same, State.h_setH_ne _ _ _ _ hfc.symm]
    rfl
  · have hmarks : (s.tripMarks n cause).safeChan n = (s.tripNoted n cause).safeChan n :=
      State.safeChan_congr (by simp [State.tripMarks, State.tripShown]) n
    rw [State.chMove_degUntil, hmarks, State.tripNoted, State.safeChan_setSafeChan_same]

theorem State.tripMove_of_calm {s : State} {n : Nat} (cause : Nat) (h : s.chEnergised n = false) : s.tripMove n cause = s := by
  rw [State.tripMove_eq, h]
  rfl

/-- The ZONE_STATE of a channel that is not energised leaves its status. -/
theorem State.zoneOut_of_calm {s : State} {n : Nat} (h : s.chEnergised n = false) :
    OnlyFields [Reg.FL_SUB_DROP_COUNT] s (s.zoneOut n) ∧ ((s.zoneOut n).safeChan n).degUntil = (s.safeChan n).degUntil := by
  obtain ⟨honly, -, hdeg⟩ := s.sendZone_acts n
  unfold State.zoneOut
  split
  · exact ⟨honly, hdeg⟩
  · rw [State.tripMove_of_calm 11 h]
    exact ⟨OnlyFields.refl _ s, rfl⟩

theorem State.siTrip_spec {s : State} {n : Nat} (cause : Nat) (h : s.chEnergised n = true) :
    (s.siTrip n cause).chState n = 1 ∧ (s.siTrip n cause).h (Reg.SF_CH_CAUSE_FIRST n) = min cause 31
      ∧ (s.siTrip n cause).h (Reg.SF_TRIP_CNT_COUNT n) = min (s.h (Reg.SF_TRIP_CNT_COUNT n) + 1) (Reg.SF_TRIP_CNT_COUNT n).top
      ∧ ((s.siTrip n cause).safeChan n).degUntil = none := by
  obtain ⟨hstate, hfirst, hcount, hdeg⟩ := State.tripMove_spec cause h
  obtain ⟨honly, hdeg'⟩ := State.zoneOut_of_calm (State.chEnergised_eq_false hstate)
  have hdrop (f : Fld) (hf : f.key % 512 ≠ 64) : f.key ∉ [Reg.FL_SUB_DROP_COUNT].map Fld.key := by
    simp only [List.map_cons, List.map_nil, List.mem_singleton, Fld.key, Reg.FL_SUB_DROP_COUNT, Reg.FL_SUB_DROP] at hf ⊢
    omega
  rw [State.siTrip, if_pos h]
  refine ⟨(honly _ (hdrop _ ?_)).trans hstate, (honly _ (hdrop _ ?_)).trans hfirst, (honly _ (hdrop _ ?_)).trans hcount, hdeg'.trans hdeg⟩
  all_goals
    simp only [Fld.key, Reg.SF_CH_STAT_STATE, Reg.SF_CH_CAUSE_FIRST, Reg.SF_TRIP_CNT_COUNT, Reg.SF_CH_STAT, Reg.SF_CH_CAUSE, Reg.SF_TRIP_CNT]
    omega

theorem State.siTrip_of_calm {s : State} {n : Nat} (cause : Nat) (h : s.chEnergised n = false) : s.siTrip n cause = s := by
  rw [State.siTrip, h]
  rfl

/-- After a trip a channel is not energised. -/
theorem State.chEnergised_siTrip (s : State) (n cause : Nat) : (s.siTrip n cause).chEnergised n = false := by
  cases h : s.chEnergised n with
  | true => exact State.chEnergised_eq_false (State.siTrip_spec cause h).1
  | false => rw [State.siTrip_of_calm cause h, h]

/-! ### What energises no channel -/

/-- No channel is energised that was not. -/
def State.Calms (s x : State) : Prop := ∀ m, x.chEnergised m = true → s.chEnergised m = true

theorem State.Calms.refl (s : State) : s.Calms s := fun _ => id

theorem State.Calms.trans {s x y : State} (h : s.Calms x) (h' : x.Calms y) : s.Calms y := fun m hm => h m (h' m hm)

theorem State.Calms.not_energised {s x : State} (h : s.Calms x) {m : Nat} (hm : s.chEnergised m = false) : x.chEnergised m = false :=
  Bool.eq_false_iff.mpr fun hx => absurd (h m hx) (by simp [hm])

theorem State.Calms.of_states {s x : State} (h : ∀ m, x.chState m = s.chState m) : s.Calms x := fun m hm => State.chEnergised_congr (h m) ▸ hm

theorem State.Calms.of_regs {s x : State} (h : x.regs = s.regs) : s.Calms x := State.Calms.of_states fun _ => State.h_congr h _

/-- A change of fields none of which is a channel's STATE. -/
theorem State.Calms.of_only {l : List Fld} {s x : State} (h : OnlyFields l s x) (hl : ∀ m, (Reg.SF_CH_STAT_STATE m).key ∉ l.map Fld.key) : s.Calms x :=
  State.Calms.of_states fun m => h _ (hl m)

/-- An action on a channel that leaves it not energised, or where it was energised before. -/
theorem State.Calms.of_acts {n : Nat} {s x : State} (h : State.ActsOn n s x) (hn : x.chEnergised n = true → s.chEnergised n = true) : s.Calms x := by
  intro m hm
  by_cases hmn : m = n
  · exact hmn ▸ hn (hmn ▸ hm)
  · exact State.chEnergised_congr (h.chState hmn) ▸ hm

theorem State.siTrip_calms (s : State) (n cause : Nat) : s.Calms (s.siTrip n cause) :=
  State.Calms.of_acts (s.siTrip_acts n cause) fun h => absurd h (by simp [State.chEnergised_siTrip])

theorem State.tripMove_calms (s : State) (n cause : Nat) : s.Calms (s.tripMove n cause) := by
  cases h : s.chEnergised n with
  | true => exact State.Calms.of_acts (s.tripMove_acts n cause) fun _ => h
  | false =>
    rw [State.tripMove_of_calm cause h]
    exact State.Calms.refl s

theorem State.zoneOut_calms (s : State) (n : Nat) : s.Calms (s.zoneOut n) := by
  unfold State.zoneOut
  split
  · exact State.Calms.of_states (s.chState_sendZone n)
  · exact s.tripMove_calms n 11

theorem State.Calms.foldl {α : Type} {f : State → α → State} (hf : ∀ s a, State.Calms s (f s a)) (l : List α) (s : State) : s.Calms (l.foldl f s) := by
  induction l generalizing s with
  | nil => exact State.Calms.refl s
  | cons a r ih => exact (hf s a).trans (ih _)

/-! ### Actions on the eight channels -/

/-- Actions on channels: only their fields, their parts of the islands' state, events and what is sent change; the causes that their last
evaluations showed stay. -/
structure State.ActsOnAll (s x : State) : Prop where
  fields : ∀ f : Fld, (∀ n, f.key ∉ (chanFields n).map Fld.key) → x.h f = s.h f
  islands : x.safe = { s.safe with chan := x.safe.chan }
  causes : ∀ n, (x.safeChan n).causes = (s.safeChan n).causes
  reports : s.ev.inbox ⊆ x.ev.inbox

theorem State.ActsOnAll.refl (s : State) : s.ActsOnAll s := ⟨fun _ _ => rfl, rfl, fun _ => rfl, List.Subset.refl _⟩

theorem State.ActsOnAll.trans {s x y : State} (h : s.ActsOnAll x) (h' : x.ActsOnAll y) : s.ActsOnAll y := by
  refine ⟨fun f hf => (h'.fields f hf).trans (h.fields f hf), ?_, fun n => (h'.causes n).trans (h.causes n), List.Subset.trans h.reports h'.reports⟩
  rw [h'.islands, h.islands]

theorem State.ActsOn.all {n : Nat} {s x : State} (h : State.ActsOn n s x) : s.ActsOnAll x := by
  refine ⟨fun f hf => h.fields f (hf n), h.islands, fun m => ?_, h.reports⟩
  by_cases hm : m = n
  · rw [hm, h.causes]
  · rw [h.others m hm]

theorem State.ActsOnAll.foldl {α : Type} {f : State → α → State} (hf : ∀ s a, State.ActsOnAll s (f s a)) (l : List α) (s : State) :
    s.ActsOnAll (l.foldl f s) := by
  induction l generalizing s with
  | nil => exact State.ActsOnAll.refl s
  | cons a r ih => exact (hf s a).trans (ih _)

theorem State.ActsOnAll.si {s x : State} (h : s.ActsOnAll x) (i : Nat) : x.si i = s.si i := by
  rw [State.si, State.si, h.islands]

theorem State.ActsOnAll.slot {s x : State} (h : s.ActsOnAll x) (k : Nat) : x.slot k = s.slot k := by
  rw [State.slot, State.slot, h.islands]

theorem State.ActsOnAll.siHealthy {s x : State} (h : s.ActsOnAll x) (i : Nat) : x.siHealthy i = s.siHealthy i := by
  rw [State.siHealthy, State.siHealthy, h.fields _ (siCause_not_mem i)]

theorem State.ActsOnAll.sf {s x : State} (h : s.ActsOnAll x) (f : Fld) : x.sf f = s.sf f := by
  rw [State.sf, State.sf, State.fs, State.fs, h.siHealthy, h.si]

theorem State.ActsOnAll.follows {s x : State} (h : s.ActsOnAll x) (n : Nat) : x.follows n = s.follows n := by
  rw [State.follows, State.follows, h.sf]

/-- What each of the actions on a list of channels, no channel twice, establishes for its channel and keeps for the others. -/
theorem foldl_each {f : State → Nat → State} (P : Nat → State → Prop) (hself : ∀ s n, P n (f s n))
    (hkeep : ∀ s n m, m ≠ n → P m s → P m (f s n)) {l : List Nat} (hl : l.Nodup) (s : State) : ∀ m ∈ l, P m (l.foldl f s) := by
  have hkept : ∀ (l : List Nat) (s : State) (m : Nat), m ∉ l → P m s → P m (l.foldl f s) := by
    intro l
    induction l with
    | nil => exact fun s m _ h => h
    | cons a r ih =>
      intro s m hm h
      exact ih _ m (fun hr => hm (List.mem_cons_of_mem _ hr)) (hkeep s a m (fun ha => hm (ha ▸ List.mem_cons_self)) h)
  induction l generalizing s with
  | nil => exact fun m hm => absurd hm List.not_mem_nil
  | cons a r ih =>
    obtain ⟨ha, hr⟩ := List.nodup_cons.mp hl
    intro m hm
    rcases List.mem_cons.mp hm with rfl | hm
    · exact hkept r _ m ha (hself s m)
    · exact ih hr _ m hm

theorem mem_safeChans {n : Nat} (h : n < 8) : n ∈ safeChans := by
  simp only [safeChans, List.mem_cons, List.not_mem_nil, or_false]
  omega

theorem safeChans_nodup : safeChans.Nodup := by decide

/-- What the actions on the eight channels, one after the other, establish for each. -/
theorem safeChans_each {f : State → Nat → State} (P : Nat → State → Prop) (hself : ∀ s n, P n (f s n))
    (hkeep : ∀ s n m, m ≠ n → P m s → P m (f s n)) (s : State) {m : Nat} (hm : m < 8) : P m (safeChans.foldl f s) :=
  foldl_each P hself hkeep safeChans_nodup s m (mem_safeChans hm)

theorem State.siTripAll_acts (s : State) (cause : Nat) : s.ActsOnAll (s.siTripAll cause) :=
  State.ActsOnAll.foldl (fun s n => (s.siTrip_acts n cause).all) safeChans s

theorem State.siTripAll_calms (s : State) (cause : Nat) : s.Calms (s.siTripAll cause) :=
  State.Calms.foldl (fun s n => s.siTrip_calms n cause) safeChans s

theorem State.chEnergised_siTripAll (s : State) (cause : Nat) {n : Nat} (hn : n < 8) : (s.siTripAll cause).chEnergised n = false :=
  safeChans_each (fun n x => x.chEnergised n = false) (fun s n => s.chEnergised_siTrip n cause)
    (fun s n _ _ h => (s.siTrip_calms n cause).not_energised h) s hn

/-! ### Failed islands (R339, R345, R346) -/

/-- A channel's one time in DEGRADED begins. -/
def State.degradedStarts (s : State) (n : Nat) : State :=
  s.setSafeChan n { s.safeChan n with degUsed := true, degUntil := some (s.now + s.degTime n * lsbS) }

/-- What the failure of an island means for one channel: DEGRADED where it may be, else a trip. -/
def State.islandLost (s : State) (i n : Nat) : State :=
  if s.mayDegrade n i then ((s.degradedStarts n).raise .degradedStart n i).chSet n 3 else s.siTrip n 12

theorem State.siFail_eq (s : State) (i cause : Nat) :
    s.siFail i cause =
      if s.siHealthy i then safeChans.foldl (fun s n => s.islandLost i n) ((s.setH (siCause i) cause).raise .siFail i cause) else s := rfl

theorem State.islandLost_acts (s : State) (i n : Nat) : State.ActsOn n s (s.islandLost i n) := by
  unfold State.islandLost
  split
  · have hstart : State.ActsOn n s (s.degradedStarts n) := State.ActsOn.setSafeChan s rfl
    exact (hstart.trans (State.ActsOn.raise n _ .degradedStart n i)).trans (State.chSet_acts _ n 3)
  · exact s.siTrip_acts n 12

theorem State.energised_of_mayDegrade {s : State} {n i : Nat} (h : s.mayDegrade n i = true) : s.chEnergised n = true := by
  simp only [State.mayDegrade, Bool.and_eq_true] at h
  obtain ⟨⟨⟨⟨⟨⟨⟨-, hstate⟩, -⟩, -⟩, -⟩, -⟩, -⟩, -⟩ := h
  rw [State.chEnergised, hstate, Bool.true_or]

theorem State.islandLost_calms (s : State) (i n : Nat) : s.Calms (s.islandLost i n) := by
  cases h : s.mayDegrade n i with
  | true => exact State.Calms.of_acts (s.islandLost_acts i n) fun _ => State.energised_of_mayDegrade h
  | false =>
    rw [State.islandLost, h]
    exact s.siTrip_calms n 12

theorem State.chSet_three (s : State) (n : Nat) : (s.chSet n 3).chEnergised n = true → (s.chSet n 3).chState n = 3 := by
  have hstate : (s.chMove n 3).chState n = 3 := State.chState_chMove s n 3
  rw [State.chSet, State.zoneOut]
  split
  · exact fun _ => (State.chState_sendZone _ n n).trans hstate
  · intro h
    rw [State.chEnergised_eq_false (State.tripMove_spec 11 (State.chEnergised_of_three hstate)).1] at h
    cases h

theorem State.islandLost_degraded (s : State) (i n : Nat) : (s.islandLost i n).chEnergised n = true → (s.islandLost i n).chState n = 3 := by
  unfold State.islandLost
  split
  · exact State.chSet_three _ n
  · intro h
    rw [State.chEnergised_siTrip] at h
    cases h

/-- After an island's failure a channel that is still energised is DEGRADED. -/
theorem State.siFail_spec {s : State} {i : Nat} (cause : Nat) (h : s.siHealthy i = true) :
    (s.siFail i cause).h (siCause i) = min cause 15 ∧ (∀ k, k < 8 → (s.siFail i cause).chEnergised k = true → (s.siFail i cause).chState k = 3)
      ∧ ∀ j, (s.siFail i cause).si j = s.si j := by
  rw [State.siFail_eq, if_pos h]
  have hacts := State.ActsOnAll.foldl (fun s n => (s.islandLost_acts i n).all) safeChans ((s.setH (siCause i) cause).raise .siFail i cause)
  refine ⟨?_, fun k hk => ?_, fun j => hacts.si j⟩
  · rw [hacts.fields _ (siCause_not_mem i), State.h_raise, State.h_setH_same]
    unfold siCause
    split <;> rfl
  · refine safeChans_each (fun n x => x.chEnergised n = true → x.chState n = 3) (fun s n => s.islandLost_degraded i n) (fun s n m hm h => ?_) _ hk
    have hstate := (s.islandLost_acts i n).chState hm
    rw [State.chEnergised_congr hstate, hstate]
    exact h

theorem State.siFail_calms (s : State) (i cause : Nat) : s.Calms (s.siFail i cause) := by
  rw [State.siFail_eq]
  split
  · refine State.Calms.trans (State.Calms.of_states fun m => ?_) (State.Calms.foldl (fun s n => s.islandLost_calms i n) safeChans _)
    exact State.h_setH_ne s _ _ _ (siCause_ne_chanState i m)
  · exact State.Calms.refl s

end Sys2Proof.Machine
end

section
/-!
SUPPORT. What the commands of the safety islands do, as actions on channels and islands (R334 to R348, R356).
-/

namespace Sys2Proof.Machine

/-- The parts of the state that the islands change: status fields, their own, events and what is sent. -/
abbrev islandGroups : List Group := [.fields, .safety, .events, .tx, .link]

theorem State.setSi_untouched (s : State) (i : Nat) (x : SafeIsland) : Untouched [.safety] s (s.setSi i x) := by
  intro g hg
  cases g <;> simp [Group.same] at hg ⊢

theorem State.setSafeChan_untouched (s : State) (n : Nat) (x : SafeChan) : Untouched [.safety] s (s.setSafeChan n x) := by
  intro g hg
  cases g <;> simp [Group.same] at hg ⊢

theorem State.showPins_untouched (s : State) (n : Nat) : Untouched [.fields] s (s.showPins n) := by
  intro g hg
  cases g <;> simp [Group.same] at hg ⊢

theorem State.siTrip_untouched (s : State) (n cause : Nat) : Untouched islandGroups s (s.siTrip n cause) := by
  intro g hg
  cases g <;> simp [Group.same] at hg ⊢

theorem State.zoneOut_untouched (s : State) (n : Nat) : Untouched islandGroups s (s.zoneOut n) := by
  intro g hg
  cases g <;> simp [Group.same] at hg ⊢

theorem State.siTripAll_untouched (s : State) (cause : Nat) : Untouched islandGroups s (s.siTripAll cause) := by
  intro g hg
  cases g <;> simp [Group.same] at hg ⊢

theorem State.siFail_untouched (s : State) (i cause : Nat) : Untouched islandGroups s (s.siFail i cause) := by
  intro g hg
  cases g <;> simp [Group.same] at hg ⊢

theorem State.showEval_untouched (s : State) (both : Bool) (n : Nat) (e : ChanEval) : Untouched [.fields, .safety] s (s.showEval both n e) := by
  intro g hg
  cases g <;> simp [Group.same] at hg ⊢

theorem State.slotFail_untouched (s : State) (k : Nat) : Untouched islandGroups s (s.slotFail k) := by
  intro g hg
  cases g <;> simp [Group.same] at hg ⊢

@[simp] theorem State.si_setSi_same (s : State) (i : Island) (x : SafeIsland) : (s.setSi i.ix x).si i.ix = x := by cases i <;> rfl

@[simp] theorem State.si_setSi_other (s : State) (i : Island) (x : SafeIsland) : (s.setSi i.ix x).si i.other = s.si i.other := by cases i <;> rfl

@[simp] theorem State.si_setSi_other' (s : State) (i : Island) (x : SafeIsland) : (s.setSi i.other x).si i.other = x := by cases i <;> rfl

@[simp] theorem State.si_setSi_self (s : State) (i : Island) (x : SafeIsland) : (s.setSi i.other x).si i.ix = s.si i.ix := by cases i <;> rfl

theorem State.siHealthy_of_live {s : State} (h : s.siLive = [0, 1]) (i : Nat) (hi : i < 2) : s.siHealthy i = true := by
  have hmem : i ∈ s.siLive := by
    rw [h]
    simp only [List.mem_cons, List.not_mem_nil, or_false]
    omega
  exact (List.mem_filter.mp hmem).2

/-! ### Evaluation and cross-check -/

/-- A channel with a cause is de-energised (R328). -/
def State.tripFound (es : List ChanEval) (s : State) (n : Nat) : State :=
  match (es.getD n {}).causes with
  | [] => s
  | c :: rest => s.siTrip n (rest.foldl min c)

theorem State.tripFound_acts (es : List ChanEval) (s : State) (n : Nat) : State.ActsOn n s (s.tripFound es n) := by
  unfold State.tripFound
  split
  · exact State.ActsOn.refl n s
  · exact s.siTrip_acts n _

theorem State.tripFound_calms (es : List ChanEval) (s : State) (n : Nat) : s.Calms (s.tripFound es n) := by
  unfold State.tripFound
  split
  · exact State.Calms.refl s
  · exact s.siTrip_calms n _

theorem State.tripFound_untouched (es : List ChanEval) (s : State) (n : Nat) : Untouched islandGroups s (s.tripFound es n) := by
  unfold State.tripFound
  split
  · exact Untouched.refl _ s
  · exact s.siTrip_untouched n _

theorem State.chEnergised_tripFound {es : List ChanEval} (s : State) {n : Nat} (h : (es.getD n {}).causes ≠ []) :
    (s.tripFound es n).chEnergised n = false := by
  unfold State.tripFound
  split
  · next hnone => exact absurd hnone h
  · exact s.chEnergised_siTrip n _

/-- The evaluation on a MARK: the island keeps the frame's number and eight judgements, and starts the next frame; channels with a cause trip. -/
theorem State.evaluate_eq (s : State) (i : Nat) (mark : List Score) :
    ∃ (x : SafeIsland) (es : List ChanEval), s.evaluate i mark = safeChans.foldl (State.tripFound es) (s.setSi i x)
      ∧ es.length = 8 ∧ x.eval = some ((mark.getD 0 0).toNat, es) ∧ x.queue = (s.si i).queue ∧ x.lastMark = some (mark.getD 0 0).toNat
      ∧ x.recs = [] :=
  ⟨_, _, rfl, by simp [safeChans], rfl, rfl, rfl, rfl⟩

theorem State.evaluate_calms (s : State) (i : Nat) (mark : List Score) : s.Calms (s.evaluate i mark) := by
  obtain ⟨x, es, heq, -⟩ := s.evaluate_eq i mark
  have hset : s.Calms (s.setSi i x) := State.Calms.of_regs rfl
  rw [heq]
  exact hset.trans (State.Calms.foldl (fun s n => s.tripFound_calms es n) safeChans _)

/-- What an evaluation shows of every channel. -/
def State.evalsShown (s : State) (both : Bool) (es : List ChanEval) : State := safeChans.foldl (fun s n => s.showEval both n (es.getD n {})) s

/-- Every channel in use sends its ZONE_STATE. -/
def State.zonesSent (s : State) : State := safeChans.foldl (fun s n => if s.sf (Reg.SF_CH_CFG_EN n) = 1 then s.zoneOut n else s) s

/-- Whether two evaluations differ in a channel, or come from unequal copies of the SF_ values (R337, R360). -/
def State.evalsDiffer (s : State) (f g : Nat) (ea eb : List ChanEval) (n : Nat) : Bool :=
  decide (f ≠ g) || !(ea.getD n {}).agrees (eb.getD n {}) || decide (s.safe.a.copy ≠ s.safe.b.copy)

/-- What two evaluations show together of a channel. -/
def State.evalShown (s : State) (f g : Nat) (ea eb : List ChanEval) (n : Nat) : ChanEval :=
  let e := mergeEval (ea.getD n {}) (eb.getD n {})
  if s.evalsDiffer f g ea eb n then { e with causes := e.causes ++ [11] } else e

/-- Both evaluations are taken, each shown by its island. -/
def State.evalsTaken (s : State) (f g : Nat) (ea eb : List ChanEval) : State :=
  { s with safe := { s.safe with a := { s.safe.a with eval := none, shown := (f, ea) }, b := { s.safe.b with eval := none, shown := (g, eb) } } }

/-- The cross-check of two healthy islands. -/
def State.crossBoth (s : State) (f g : Nat) (ea eb : List ChanEval) : State :=
  ((safeChans.foldl (fun x n => if s.evalsDiffer f g ea eb n then x.siTrip n 11 else x) (s.evalsTaken f g ea eb)).evalsShown true
    (safeChans.map (s.evalShown f g ea eb))).zonesSent

/-- What RESULT_CROSS_CHECK does. -/
def State.crossCheck (s : State) : State :=
  if s.siLive = [0, 1] then
    match s.safe.a.eval, s.safe.b.eval with
    | some (f, ea), some (g, eb) => s.crossBoth f g ea eb
    | _, _ => s
  else
    match s.siLive with
    | i :: _ =>
      (match (s.si i).eval with
      | some e => ((s.setSi i { s.si i with eval := none, shown := e }).evalsShown false e.2).zonesSent
      | none => s)
    | [] => s

theorem execResultCrossCheck_eq (t : Nat) (s : State) : execResultCrossCheck t s = s.run t State.crossCheck := rfl

theorem State.showEval_calms (s : State) (both : Bool) (n : Nat) (e : ChanEval) : s.Calms (s.showEval both n e) := by
  have hl (m : Nat) : (Reg.SF_CH_STAT_STATE m).key ∉ [Reg.SF_VIOL_H_ZONES n, Reg.SF_VIOL_L_ZONES n].map Fld.key := by
    simp only [List.map_cons, List.map_nil, List.mem_cons, List.not_mem_nil, or_false, Fld.key, Reg.SF_CH_STAT_STATE, Reg.SF_VIOL_H_ZONES,
      Reg.SF_VIOL_L_ZONES, Reg.SF_CH_STAT, Reg.SF_VIOL_H, Reg.SF_VIOL_L]
    omega
  refine State.Calms.of_only (l := [Reg.SF_VIOL_H_ZONES n, Reg.SF_VIOL_L_ZONES n]) ?_ hl
  exact ((OnlyFields.setH (by simp) s _).trans (OnlyFields.setH (by simp) _ _)).trans (OnlyFields.of_regs rfl)

theorem State.evalsShown_calms (s : State) (both : Bool) (es : List ChanEval) : s.Calms (s.evalsShown both es) :=
  State.Calms.foldl (fun s n => s.showEval_calms both n _) safeChans s

theorem State.evalsShown_untouched (s : State) (both : Bool) (es : List ChanEval) : Untouched [.fields, .safety] s (s.evalsShown both es) :=
  Untouched.foldl _ (fun s n => s.showEval_untouched both n _) safeChans s

theorem State.si_evalsShown (s : State) (both : Bool) (es : List ChanEval) (i : Nat) : (s.evalsShown both es).si i = s.si i :=
  foldl_inv (fun x : State => x.si i) safeChans _ s fun _ _ => rfl

theorem State.causes_evalsShown (s : State) (both : Bool) (es : List ChanEval) {n : Nat} (hn : n < 8) :
    ((s.evalsShown both es).safeChan n).causes = (es.getD n {}).causes := by
  refine safeChans_each (fun n x => (x.safeChan n).causes = (es.getD n {}).causes) (fun s n => ?_) (fun s n m hm h => ?_) s hn
  · rw [State.showEval, State.safeChan_setSafeChan_same]
  · rw [State.showEval, State.safeChan_setSafeChan_ne _ _ hm]
    exact h

theorem State.zonesSent_acts (s : State) : s.ActsOnAll s.zonesSent := by
  refine State.ActsOnAll.foldl (fun s n => ?_) safeChans s
  split
  · exact (s.zoneOut_acts n).all
  · exact State.ActsOnAll.refl s

theorem State.zonesSent_calms (s : State) : s.Calms s.zonesSent := by
  refine State.Calms.foldl (fun s n => ?_) safeChans s
  split
  · exact s.zoneOut_calms n
  · exact State.Calms.refl s

theorem State.zonesSent_untouched (s : State) : Untouched islandGroups s s.zonesSent := by
  refine Untouched.foldl _ (fun s n => ?_) safeChans s
  split
  · exact s.zoneOut_untouched n
  · exact Untouched.refl _ s

section
variable (s : State) (f g : Nat) (ea eb : List ChanEval)

/-- The channels whose evaluations differ trip with DISAGREE (R337). -/
def State.differTripped : State :=
  safeChans.foldl (fun x n => if s.evalsDiffer f g ea eb n then x.siTrip n 11 else x) (s.evalsTaken f g ea eb)

theorem State.crossBoth_eq :
    s.crossBoth f g ea eb = ((s.differTripped f g ea eb).evalsShown true (safeChans.map (s.evalShown f g ea eb))).zonesSent := rfl

theorem State.differTripped_acts : (s.evalsTaken f g ea eb).ActsOnAll (s.differTripped f g ea eb) := by
  refine State.ActsOnAll.foldl (fun x n => ?_) safeChans _
  split
  · exact (x.siTrip_acts n 11).all
  · exact State.ActsOnAll.refl x

theorem State.differTripped_calms : s.Calms (s.differTripped f g ea eb) := by
  have htaken : s.Calms (s.evalsTaken f g ea eb) := State.Calms.of_regs rfl
  refine htaken.trans (State.Calms.foldl (fun x n => ?_) safeChans _)
  split
  · exact x.siTrip_calms n 11
  · exact State.Calms.refl x

theorem State.chEnergised_differTripped {n : Nat} (hn : n < 8) (h : s.evalsDiffer f g ea eb n = true) :
    (s.differTripped f g ea eb).chEnergised n = false := by
  refine safeChans_each (fun n x => s.evalsDiffer f g ea eb n = true → x.chEnergised n = false) (fun x n h => ?_) (fun x n m _ hx h => ?_) _ hn h
  · rw [if_pos h]
    exact x.chEnergised_siTrip n 11
  · split
    · exact (x.siTrip_calms n 11).not_energised (hx h)
    · exact hx h

theorem State.differTripped_untouched : Untouched islandGroups s (s.differTripped f g ea eb) := by
  have htaken : Untouched islandGroups s (s.evalsTaken f g ea eb) := by
    intro g' hg
    cases g' <;> simp [Group.same, State.evalsTaken] at hg ⊢
  refine htaken.trans (Untouched.foldl _ (fun x n => ?_) safeChans _)
  split
  · exact x.siTrip_untouched n 11
  · exact Untouched.refl _ x

theorem State.crossBoth_calms : s.Calms (s.crossBoth f g ea eb) :=
  ((s.differTripped_calms f g ea eb).trans (State.evalsShown_calms _ _ _)).trans (State.zonesSent_calms _)

theorem State.crossBoth_untouched : Untouched islandGroups s (s.crossBoth f g ea eb) :=
  ((s.differTripped_untouched f g ea eb).trans ((State.evalsShown_untouched _ _ _).mono)).trans (State.zonesSent_untouched _)

theorem State.si_crossBoth (i : Nat) : (s.crossBoth f g ea eb).si i = (s.evalsTaken f g ea eb).si i := by
  rw [State.crossBoth_eq, (State.zonesSent_acts _).si, State.si_evalsShown, (s.differTripped_acts f g ea eb).si]

theorem State.causes_crossBoth {n : Nat} (hn : n < 8) : ((s.crossBoth f g ea eb).safeChan n).causes = (s.evalShown f g ea eb n).causes := by
  have hget : (safeChans.map (s.evalShown f g ea eb)).getD n {} = s.evalShown f g ea eb n := by
    have h : ∀ k : Fin 8, safeChans[k.val]? = some k.val := by decide
    rw [List.getD_eq_getElem?_getD, List.getElem?_map, h ⟨n, hn⟩]
    rfl
  rw [State.crossBoth_eq, (State.zonesSent_acts _).causes, State.causes_evalsShown _ _ _ hn, hget]

theorem State.merged_subset_evalShown (n : Nat) : (mergeEval (ea.getD n {}) (eb.getD n {})).causes ⊆ (s.evalShown f g ea eb n).causes := by
  unfold State.evalShown
  dsimp only
  split
  · exact List.subset_append_left _ _
  · exact List.Subset.refl _

theorem State.chEnergised_crossBoth {n : Nat} (hn : n < 8) (h : s.evalsDiffer f g ea eb n = true) : (s.crossBoth f g ea eb).chEnergised n = false :=
  ((State.evalsShown_calms _ _ _).trans (State.zonesSent_calms _)).not_energised (s.chEnergised_differTripped f g ea eb hn h)

end

theorem State.crossCheck_calms (s : State) : s.Calms s.crossCheck := by
  unfold State.crossCheck
  split
  · split
    · exact s.crossBoth_calms _ _ _ _
    · exact State.Calms.refl s
  · split
    · split
      · have hset (i : Nat) (x : SafeIsland) : s.Calms (s.setSi i x) := State.Calms.of_regs rfl
        exact ((hset _ _).trans (State.evalsShown_calms _ _ _)).trans (State.zonesSent_calms _)
      · exact State.Calms.refl s
    · exact State.Calms.refl s

end Sys2Proof.Machine
end

section
/-!
SUPPORT. No event of the islands energises a channel but a reset edge or an accepted message (R338, R341, R342, R346, R358).
-/

namespace Sys2Proof.Machine

theorem State.Calms.acted {s x : State} {b : Bool} {t : Nat} (h : (s.clock t).Calms x) : s.Calms (s.keep t (if b then x else s)) := by
  cases b
  · exact fun _ => id
  · exact h

/-- A command of a block whose work energises no channel. -/
theorem Yields.calms_of_run {c : Instr} {s : State} {t : Nat} {f : State → State} (meaning : State → Host.Outcome State Fault Refusal)
    (hc : exec c s = meaning s) (hm : meaning s = s.run t f) (hf : ∀ s : State, s.Calms (f s)) : Yields c s s.Calms :=
  ⟨_, hc.trans hm, State.Calms.acted (hf (s.clock t))⟩

theorem State.setSi_calms (s : State) (i : Nat) (x : SafeIsland) : s.Calms (s.setSi i x) := State.Calms.of_regs rfl

theorem State.setSafeChan_calms (s : State) (n : Nat) (x : SafeChan) : s.Calms (s.setSafeChan n x) := State.Calms.of_regs rfl

theorem State.setSlot_calms (s : State) (k : Nat) (x : FslRx) : s.Calms (s.setSlot k x) := State.Calms.of_regs rfl

theorem State.raise_calms (s : State) (e : Ev) (a b : Nat) : s.Calms (s.raise e a b) := State.Calms.of_regs rfl

theorem State.flag_calms (s : State) {f : Fld} (b : Bool) (hf : ∀ m, (Reg.SF_CH_STAT_STATE m).key ≠ f.key) : s.Calms (s.flag f b) :=
  State.Calms.of_states fun m => s.h_flag_ne f _ b (hf m)

theorem State.setH_calms (s : State) {f : Fld} (v : Nat) (hf : ∀ m, (Reg.SF_CH_STAT_STATE m).key ≠ f.key) : s.Calms (s.setH f v) :=
  State.Calms.of_states fun m => s.h_setH_ne f _ v (hf m)

theorem State.inc_calms (s : State) {f : Fld} (hf : ∀ m, (Reg.SF_CH_STAT_STATE m).key ≠ f.key) : s.Calms (s.inc f) :=
  State.Calms.of_states fun m => s.h_inc_ne f _ (hf m)

theorem State.showPins_calms (s : State) (n : Nat) : s.Calms (s.showPins n) := by
  refine State.Calms.of_only (s.showPins_only n) fun m => ?_
  simp only [List.map_cons, List.map_nil, List.mem_cons, List.not_mem_nil, or_false, Fld.key, Reg.SF_CH_STAT_STATE, Reg.SF_CH_STAT_SOA_RB,
    Reg.SF_CH_STAT_SOB_RB, Reg.SF_CH_STAT]
  omega

theorem chanState_ne_sfb (m n : Nat) : (Reg.SF_CH_STAT_STATE m).key ≠ (Reg.SF_CH_STAT_SFB n).key := by
  simp only [Fld.key, Reg.SF_CH_STAT_STATE, Reg.SF_CH_STAT_SFB, Reg.SF_CH_STAT]
  omega

theorem chanState_ne_rxState (m k : Nat) : (Reg.SF_CH_STAT_STATE m).key ≠ (Reg.SF_RX_STAT_STATE k).key := by
  simp only [Fld.key, Reg.SF_CH_STAT_STATE, Reg.SF_RX_STAT_STATE, Reg.SF_CH_STAT, Reg.SF_RX_STAT]
  omega

theorem chanState_ne_rxErr (m k : Nat) : (Reg.SF_CH_STAT_STATE m).key ≠ (Reg.SF_RX_ERR_COUNT k).key := by
  simp only [Fld.key, Reg.SF_CH_STAT_STATE, Reg.SF_RX_ERR_COUNT, Reg.SF_CH_STAT, Reg.SF_RX_ERR]
  omega

theorem chanState_ne_lastErr (m k : Nat) : (Reg.SF_CH_STAT_STATE m).key ≠ (Reg.SF_RX_STAT_LAST_ERR k).key := by
  simp only [Fld.key, Reg.SF_CH_STAT_STATE, Reg.SF_RX_STAT_LAST_ERR, Reg.SF_CH_STAT, Reg.SF_RX_STAT]
  omega

theorem chanState_ne_srst (m : Nat) (i : Island) :
    (Reg.SF_CH_STAT_STATE m).key ≠ (if i = .a then Reg.SF_STAT_SRST_A else Reg.SF_STAT_SRST_B).key := by
  split <;> simp only [Fld.key, Reg.SF_CH_STAT_STATE, Reg.SF_STAT_SRST_A, Reg.SF_STAT_SRST_B, Reg.SF_CH_STAT, Reg.SF_STAT] <;> omega

/-! ### The commands -/

/-- What READBACK_FAULT notes: whether the member's pin stands against its command (R330). -/
def State.readBack (s : State) (m : Island) (n : Nat) (level : Bool) : State :=
  let wrong := s.soLevel m.ix n != level
  let x := s.safeChan n
  (s.setSafeChan n (if m = .a then { x with rbA := wrong } else { x with rbB := wrong })).showPins n

theorem execReadbackFault_eq (t : Nat) (m : Island) (n : SafeCh) (level : Bool) (s : State) :
    execReadbackFault t m n level s = s.run t fun s =>
      if (s.soLevel m.ix n != level) && (s.readBack m n level).sf (Reg.SF_CH_CFG_EN n) == 1
      then ((s.readBack m n level).siTrip n 13).readBack m n level else s.readBack m n level := rfl

theorem State.readBack_calms (s : State) (m : Island) (n : Nat) (level : Bool) : s.Calms (s.readBack m n level) :=
  (s.setSafeChan_calms n _).trans (State.showPins_calms _ n)

/-- A slot shows FAILED, with no reference and no runs, and reports it (R356). -/
def State.slotShownFailed (s : State) (k : Nat) : State :=
  let s := (s.setH (Reg.SF_RX_STAT_STATE k) 2).setSlot k { s.slot k with lastSeq := none, okRun := 0, badRun := 0 }
  s.raise .fslRxFail k (s.h (Reg.SF_RX_STAT_LAST_ERR k))

/-- A channel that follows a slot trips (R357). -/
def State.tripFollower (k : Nat) (s : State) (n : Nat) : State := if (s.follows n).contains k then s.siTrip n 16 else s

theorem State.slotFail_eq (s : State) (k : Nat) : s.slotFail k = safeChans.foldl (State.tripFollower k) (s.slotShownFailed k) := rfl

theorem State.tripFollower_calms (k : Nat) (s : State) (n : Nat) : s.Calms (s.tripFollower k n) := by
  unfold State.tripFollower
  split
  · exact s.siTrip_calms n 16
  · exact State.Calms.refl s

theorem State.slotFail_calms (s : State) (k : Nat) : s.Calms (s.slotFail k) := by
  have hshown : s.Calms (s.slotShownFailed k) :=
    ((s.setH_calms 2 fun m => chanState_ne_rxState m k).trans (State.setSlot_calms _ k _)).trans (State.raise_calms _ _ _ _)
  rw [State.slotFail_eq]
  exact hshown.trans (State.Calms.foldl (fun s n => s.tripFollower_calms k n) safeChans _)

theorem siRecordTake_calms (t : Nat) (i : Island) (s : State) : Yields (.siRecordTake t i) s s.Calms := by
  refine Yields.calms_of_run (execSiRecordTake t i) rfl rfl fun s => ?_
  dsimp only
  split
  · split
    · exact State.Calms.refl s
    · split
      · exact (s.setSi_calms _ _).trans (State.evaluate_calms _ _ _)
      · exact (s.setSi_calms _ _).trans (State.setSi_calms _ _ _)
  · exact State.Calms.refl s

theorem frameMissingTimeout_calms (t : Nat) (i : Island) (s : State) : Yields (.frameMissingTimeout t i) s s.Calms := by
  refine Yields.calms_of_run (execFrameMissingTimeout t i) rfl rfl fun s => ?_
  dsimp only
  split
  · exact (s.setSi_calms _ _).trans (State.siTripAll_calms _ 9)
  · exact State.Calms.refl s

theorem heartbeatSend_calms (t : Nat) (i : Island) (s : State) : Yields (.heartbeatSend t i) s s.Calms := by
  refine Yields.calms_of_run (execHeartbeatSend t i) rfl rfl fun s => ?_
  split
  · exact s.setSi_calms _ _
  · exact State.Calms.refl s

theorem heartbeatReceive_calms (t : Nat) (i : Island) (n : Nat) (s : State) : Yields (.heartbeatReceive t i n) s s.Calms := by
  refine Yields.calms_of_run (execHeartbeatReceive t i n) rfl rfl fun s => ?_
  dsimp only
  split
  · split
    · exact (s.setSi_calms _ _).trans (State.siFail_calms _ _ _)
    · exact s.setSi_calms _ _
  · exact State.Calms.refl s

theorem heartbeatLoss_calms (t : Nat) (i : Island) (s : State) : Yields (.heartbeatLoss t i) s s.Calms := by
  refine Yields.calms_of_run (execHeartbeatLoss t i) rfl rfl fun s => ?_
  split
  · exact s.siFail_calms _ _
  · exact State.Calms.refl s

theorem selfTestCycle_calms (t : Nat) (i : Island) (ok : Bool) (s : State) : Yields (.selfTestCycle t i ok) s s.Calms := by
  refine Yields.calms_of_run (execSelfTestCycle t i ok) rfl rfl fun s => ?_
  split
  · split
    · exact s.setSi_calms _ _
    · exact s.siFail_calms _ _
  · exact State.Calms.refl s

theorem sfCopyCrcCheck_calms (t : Nat) (i : Island) (l : List (Nat × Score)) (s : State) : Yields (.sfCopyCrcCheck t i l) s s.Calms := by
  refine Yields.calms_of_run (execSfCopyCrcCheck t i l) rfl rfl fun s => ?_
  dsimp only
  split
  · exact (s.setSi_calms _ _).trans (State.siFail_calms _ _ _)
  · exact s.setSi_calms _ _

theorem degExpired_calms (t : Nat) (n : SafeCh) (s : State) : Yields (.degExpired t n) s s.Calms := by
  refine Yields.calms_of_run (execDegExpired t n) rfl rfl fun s => ?_
  split
  · split
    · exact s.siTrip_calms n 17
    · exact State.Calms.refl s
  · exact State.Calms.refl s

theorem readbackFault_calms (t : Nat) (m : Island) (n : SafeCh) (level : Bool) (s : State) : Yields (.readbackFault t m n level) s s.Calms := by
  refine Yields.calms_of_run (execReadbackFault t m n level) rfl (execReadbackFault_eq t m n level s) fun s => ?_
  split
  · exact ((s.readBack_calms m n level).trans (State.siTrip_calms _ n 13)).trans (State.readBack_calms _ m n level)
  · exact s.readBack_calms m n level

theorem sfbLevelChange_calms (t : Nat) (n : SafeCh) (c : SfbChange) (s : State) : Yields (.sfbLevelChange t n c) s s.Calms := by
  refine Yields.calms_of_run (execSfbLevelChange t n c) rfl rfl fun s => ?_
  have hflag (b : Bool) : s.Calms (s.flag (Reg.SF_CH_STAT_SFB n) b) := s.flag_calms b fun m => chanState_ne_sfb m n
  split
  · exact State.Calms.refl s
  · dsimp only
    split
    · exact (hflag _).trans (State.setSafeChan_calms _ n _)
    · split
      · exact hflag _
      · exact (hflag _).trans (State.setSafeChan_calms _ n _)

theorem feedbackFault_calms (t : Nat) (n : SafeCh) (s : State) : Yields (.feedbackFault t n) s s.Calms := by
  refine Yields.calms_of_run (execFeedbackFault t n) rfl rfl fun s => ?_
  exact iteInduction (motive := s.Calms) (fun _ => (s.raise_calms _ _ _).trans (State.siTrip_calms _ n 14)) fun _ => State.Calms.refl s

theorem srstLevelChange_calms (t : Nat) (i : Island) (level : Bool) (s : State) : Yields (.srstLevelChange t i level) s s.Calms := by
  refine Yields.calms_of_run (execSrstLevelChange t i level) rfl rfl fun s => ?_
  exact iteInduction (motive := s.Calms) (fun _ => State.Calms.refl s)
    fun _ => (s.flag_calms level fun m => chanState_ne_srst m i).trans (State.setSi_calms _ _ _)

theorem srstMismatch_calms (t : Nat) (s : State) : Yields (.srstMismatch t) s s.Calms := by
  refine Yields.calms_of_run (execSrstMismatch t) rfl rfl fun s => ?_
  dsimp only
  split
  · split <;> exact State.Calms.of_regs rfl
  · exact State.Calms.refl s

theorem fslSlotTimeout_calms (t : Nat) (k : FslSlot) (s : State) : Yields (.fslSlotTimeout t k) s s.Calms := by
  refine Yields.calms_of_run (execFslSlotTimeout t k) rfl rfl fun s => ?_
  split
  · exact ((s.setH_calms 5 fun m => chanState_ne_lastErr m k).trans (State.inc_calms _ fun m => chanState_ne_rxErr m k)).trans
      (State.slotFail_calms _ k)
  · exact State.Calms.refl s

end Sys2Proof.Machine

namespace Sys2Proof
open Machine

/-- Settles O50: of the islands' events only the entry into DEGRADED moves a channel to an energised state, and it does so from ENERGISED
(islandLost_calms); all others trip channels or leave their states. -/
theorem onlyResetsEnergise : Obligations.OnlyResetsEnergise := by
  unfold Obligations.OnlyResetsEnergise
  intro t i n k b iv w us c hc s
  have hcalms : Yields c s s.Calms := by
    simp only [List.mem_cons, List.not_mem_nil, or_false] at hc
    rcases hc with rfl | rfl | rfl | rfl | rfl | rfl | rfl | rfl | rfl | rfl | rfl | rfl | rfl | rfl | rfl | rfl | rfl
    · exact siRecordTake_calms t i s
    · exact Yields.calms_of_run (execResultCrossCheck t) rfl (execResultCrossCheck_eq t s) State.crossCheck_calms
    · exact frameMissingTimeout_calms t i s
    · exact heartbeatSend_calms t i s
    · exact heartbeatReceive_calms t i iv s
    · exact heartbeatLoss_calms t i s
    · exact selfTestCycle_calms t i b s
    · exact Yields.calms_of_run (execSiWatchdogExpiry t i) rfl rfl fun s => (s.setSi_calms _ _).trans (State.siFail_calms _ _ 4)
    · exact Yields.calms_of_run (execRegulatorFault t i) rfl rfl fun s => s.siFail_calms _ 5
    · exact sfCopyCrcCheck_calms t i us s
    · exact degExpired_calms t n s
    · exact readbackFault_calms t i n b s
    · exact sfbLevelChange_calms t n ⟨b, w⟩ s
    · exact feedbackFault_calms t n s
    · exact srstLevelChange_calms t i b s
    · exact srstMismatch_calms t s
    · exact fslSlotTimeout_calms t k s
  obtain ⟨x, hx, h⟩ := hcalms
  exact ⟨x, hx, fun m _ => h m⟩

end Sys2Proof
end

section
/-!
SUPPORT. Records, evaluations and their cross-check (R334 to R338).
-/

namespace Sys2Proof.Machine

/-! ### The islands' state after a command of a block -/

theorem State.si_keep (s x : State) (t i : Nat) : (s.keep t x).si i = x.si i := rfl

theorem State.chEnergised_keep (s x : State) (t n : Nat) : (s.keep t x).chEnergised n = x.chEnergised n := rfl

/-! ### The commands -/

theorem siRecordTake_point (t : Nat) (i : Island) (v : List Score) (r : List (List Score)) (s : State) (hr : s.phase = .ready)
    (hh : s.siHealthy i.ix = true) (hq : (s.si i.ix).queue = v :: r) (hv : (v.getD 2 0).toNat / 2 ^ 16 ≠ 15) :
    Yields (.siRecordTake t i) s fun x =>
      (x.si i.ix).queue = r ∧ (x.si i.ix).recs = v :: (s.si i.ix).recs ∧ x.si i.other = s.si i.other
        ∧ (∀ z ∈ enabledZones (s.si i.ix).copy, (x.si i.ix).zoneCount (s.si i.ix).copy z.1 z.2
            = (s.si i.ix).zoneCount (s.si i.ix).copy z.1 z.2 + if zoneHit (s.si i.ix).copy z.1 z.2 v then 1 else 0)
        ∧ Frame t [.safety] s x := by
  have hh' : (s.clock t).siHealthy i.ix = true := hh
  have hq' : ((s.clock t).si i.ix).queue = v :: r := hq
  refine Yields.of_run (execSiRecordTake t i) hr rfl rfl ?_
  simp only [hh', hq', if_true, if_neg hv]
  have htaken : ((((s.clock t).setSi i.ix { (s.clock t).si i.ix with queue := r }).setSi i.ix
      { (s.clock t).si i.ix with queue := r, recs := v :: ((s.clock t).si i.ix).recs }).si i.ix)
        = { s.si i.ix with queue := r, recs := v :: (s.si i.ix).recs } := State.si_setSi_same _ i _
  refine ⟨congrArg SafeIsland.queue htaken, congrArg SafeIsland.recs htaken, ?_, fun z _ => ?_,
    Frame.of_untouched ((State.setSi_untouched _ _ _).trans (State.setSi_untouched _ _ _))⟩
  · exact (State.si_setSi_other _ i _).trans (State.si_setSi_other _ i _)
  · refine (congrArg (fun y : SafeIsland => y.zoneCount (s.si i.ix).copy z.1 z.2) htaken).trans ?_
    unfold SafeIsland.zoneCount
    rw [List.filter_cons]
    split <;> simp

theorem siRecordTake_mark (t : Nat) (i : Island) (v : List Score) (r : List (List Score)) (s : State) (hr : s.phase = .ready)
    (hh : s.siHealthy i.ix = true) (hq : (s.si i.ix).queue = v :: r) (hv : (v.getD 2 0).toNat / 2 ^ 16 = 15) :
    Yields (.siRecordTake t i) s fun x =>
      (x.si i.ix).queue = r ∧ (x.si i.ix).lastMark = some (v.getD 0 0).toNat ∧ (x.si i.ix).recs = []
        ∧ (∃ es : List ChanEval, es.length = 8 ∧ (x.si i.ix).eval = some ((v.getD 0 0).toNat, es)
            ∧ ∀ n, n < 8 → (es.getD n {}).causes ≠ [] → x.chEnergised n = false)
        ∧ Frame t [.fields, .safety, .events, .tx, .link] s x := by
  have hh' : (s.clock t).siHealthy i.ix = true := hh
  have hq' : ((s.clock t).si i.ix).queue = v :: r := hq
  refine Yields.of_run (execSiRecordTake t i) hr rfl rfl ?_
  simp only [hh', hq', if_true, if_pos hv]
  let y := (s.clock t).setSi i.ix { (s.clock t).si i.ix with queue := r }
  obtain ⟨z, es, heq, hlength, heval, hqueue, hmark, hrecs⟩ := y.evaluate_eq i.ix v
  have hacts := State.ActsOnAll.foldl (fun s n => (State.tripFound_acts es s n).all) safeChans (y.setSi i.ix z)
  have hsi : (y.evaluate i.ix v).si i.ix = z := by rw [heq, hacts.si, State.si_setSi_same]
  have hy : y.si i.ix = { (s.clock t).si i.ix with queue := r } := State.si_setSi_same _ i _
  have hquiet (n : Nat) (hn : n < 8) (hc : (es.getD n {}).causes ≠ []) : (y.evaluate i.ix v).chEnergised n = false := by
    rw [heq]
    refine safeChans_each (fun n x => (es.getD n {}).causes ≠ [] → x.chEnergised n = false) (fun s n => s.chEnergised_tripFound)
      (fun s n m _ h hc => (State.tripFound_calms es s n).not_energised (h hc)) _ hn hc
  have huntouched : Untouched islandGroups (s.clock t) (y.evaluate i.ix v) := by
    rw [heq]
    refine Untouched.trans ?_ (Untouched.foldl _ (fun s n => State.tripFound_untouched es s n) safeChans _)
    exact ((State.setSi_untouched _ _ _).trans (State.setSi_untouched _ _ _)).mono
  refine ⟨(congrArg SafeIsland.queue hsi).trans (hqueue.trans (congrArg SafeIsland.queue hy)), (congrArg SafeIsland.lastMark hsi).trans hmark,
    (congrArg SafeIsland.recs hsi).trans hrecs, ⟨es, hlength, (congrArg SafeIsland.eval hsi).trans heval, hquiet⟩, Frame.of_untouched huntouched⟩

theorem resultCrossCheck_both (t f g : Nat) (ea eb : List ChanEval) (s : State) (hr : s.phase = .ready) (hl : s.siLive = [0, 1])
    (ha : s.safe.a.eval = some (f, ea)) (hb : s.safe.b.eval = some (g, eb)) :
    Yields (.resultCrossCheck t) s fun x =>
      x.safe.a.shown = (f, ea) ∧ x.safe.b.shown = (g, eb) ∧ x.safe.a.eval = none ∧ x.safe.b.eval = none
        ∧ (∀ n, n < 8 → ∀ c ∈ (mergeEval (ea.getD n {}) (eb.getD n {})).causes, c ∈ (x.safeChan n).causes)
        ∧ (∀ n, n < 8 → (f ≠ g ∨ (ea.getD n {}).agrees (eb.getD n {}) = false ∨ s.safe.a.copy ≠ s.safe.b.copy) → x.chEnergised n = false)
        ∧ Frame t [.fields, .safety, .events, .tx, .link] s x := by
  let y := (s.clock t).crossBoth f g ea eb
  have hcheck : (s.clock t).crossCheck = y := by
    have hl' : (s.clock t).siLive = [0, 1] := hl
    have ha' : (s.clock t).safe.a.eval = some (f, ea) := ha
    have hb' : (s.clock t).safe.b.eval = some (g, eb) := hb
    rw [State.crossCheck, if_pos hl', ha', hb']
  have hsiA : y.safe.a = { s.safe.a with eval := none, shown := (f, ea) } := (s.clock t).si_crossBoth f g ea eb 0
  have hsiB : y.safe.b = { s.safe.b with eval := none, shown := (g, eb) } := (s.clock t).si_crossBoth f g ea eb 1
  refine Yields.of_run (execResultCrossCheck t) hr rfl (execResultCrossCheck_eq t s) ?_
  rw [hcheck]
  refine ⟨congrArg SafeIsland.shown hsiA, congrArg SafeIsland.shown hsiB, congrArg SafeIsland.eval hsiA, congrArg SafeIsland.eval hsiB,
    fun n hn c hc => ?_, fun n hn h => ?_, Frame.of_untouched ((s.clock t).crossBoth_untouched f g ea eb)⟩
  · have hcauses : (y.safeChan n).causes = _ := (s.clock t).causes_crossBoth f g ea eb hn
    exact hcauses ▸ State.merged_subset_evalShown _ f g ea eb n hc
  · refine (s.clock t).chEnergised_crossBoth f g ea eb hn ?_
    have hcopies : (s.clock t).safe = s.safe := rfl
    simp only [State.evalsDiffer, hcopies, Bool.or_eq_true, decide_eq_true_eq, Bool.not_eq_true']
    rw [or_assoc]
    exact h

theorem resultCrossCheck_one (t : Nat) (i : Island) (f : Nat) (es : List ChanEval) (s : State) (hr : s.phase = .ready) (hl : s.siLive = [i.ix])
    (he : (s.si i.ix).eval = some (f, es)) :
    Yields (.resultCrossCheck t) s fun x => (x.si i.ix).shown = (f, es) ∧ (x.si i.ix).eval = none
      ∧ Frame t [.fields, .safety, .events, .tx, .link] s x := by
  let z := (s.clock t).setSi i.ix { (s.clock t).si i.ix with eval := none, shown := (f, es) }
  let y := (z.evalsShown false es).zonesSent
  have hcheck : (s.clock t).crossCheck = y := by
    have hl' : (s.clock t).siLive = [i.ix] := hl
    have he' : ((s.clock t).si i.ix).eval = some (f, es) := he
    simp only [State.crossCheck, hl', he', List.cons.injEq, List.nil_eq, reduceCtorEq, and_false, if_false]
    rfl
  have hsi : y.si i.ix = { (s.clock t).si i.ix with eval := none, shown := (f, es) } := by
    rw [(State.zonesSent_acts _).si, State.si_evalsShown, State.si_setSi_same]
  refine Yields.of_run (execResultCrossCheck t) hr rfl (execResultCrossCheck_eq t s) ?_
  rw [hcheck]
  exact ⟨congrArg SafeIsland.shown hsi, congrArg SafeIsland.eval hsi, Frame.of_untouched
    ((((State.setSi_untouched _ _ _).mono).trans ((State.evalsShown_untouched _ _ _).mono)).trans (State.zonesSent_untouched _))⟩

/-- An island notes that no MARK has come, and every channel trips. -/
def State.frameMissed (s : State) (i : Island) : State := (s.setSi i.ix { s.si i.ix with missing := true }).siTripAll 9

theorem execFrameMissingTimeout_eq (t : Nat) (i : Island) (s : State) :
    execFrameMissingTimeout t i s = s.run t fun s =>
      if s.siHealthy i.ix ∧ (s.si i.ix).lastMark.isSome = true ∧ (s.si i.ix).missing = false
          ∧ (s.si i.ix).markAt + s.framePerLsb + 2 * lsbMs ≤ s.now
      then s.frameMissed i else s := rfl

theorem State.frameMissed_spec (s : State) (i : Island) :
    ((s.frameMissed i).si i.ix).missing = true ∧ (∀ n, n < 8 → (s.frameMissed i).chEnergised n = false)
      ∧ Untouched islandGroups s (s.frameMissed i) := by
  refine ⟨?_, fun n hn => State.chEnergised_siTripAll _ 9 hn, ((State.setSi_untouched _ _ _).mono).trans (State.siTripAll_untouched _ 9)⟩
  rw [State.frameMissed, (State.siTripAll_acts _ _).si, State.si_setSi_same]

theorem frameMissingTimeout_yields (t : Nat) (i : Island) (s : State) (hr : s.phase = .ready) (hh : s.siHealthy i.ix = true)
    (hmark : (s.si i.ix).lastMark.isSome = true) (hm : (s.si i.ix).missing = false)
    (hdue : (s.si i.ix).markAt + s.framePerLsb + 2 * lsbMs ≤ max s.now t) :
    Yields (.frameMissingTimeout t i) s fun x =>
      (x.si i.ix).missing = true ∧ (∀ n, n < 8 → x.chEnergised n = false) ∧ Frame t [.fields, .safety, .events, .tx, .link] s x := by
  obtain ⟨hmissing, hquiet, huntouched⟩ := (s.clock t).frameMissed_spec i
  have hframe : (s.clock t).framePerLsb = s.framePerLsb := rfl
  have hdue' : ((s.clock t).si i.ix).markAt + (s.clock t).framePerLsb + 2 * lsbMs ≤ (s.clock t).now := by
    rw [hframe]
    exact hdue
  refine Yields.of_run (execFrameMissingTimeout t i) hr rfl (execFrameMissingTimeout_eq t i s) ?_
  rw [if_pos ⟨hh, hmark, hm, hdue'⟩]
  simp only [State.si_keep, State.chEnergised_keep]
  exact ⟨hmissing, hquiet, Frame.of_untouched huntouched⟩

end Sys2Proof.Machine

namespace Sys2Proof
open Machine

/-- Settles O46: what the islands keep of a record, an evaluation and a cross-check stands apart from what the trips and the ZONE_STATEs that
follow change (ActsOnAll), and none of these energises a channel that has just tripped (Calms). -/
theorem framesAreEvaluated : Obligations.FramesAreEvaluated := by
  unfold Obligations.FramesAreEvaluated
  exact ⟨siRecordTake_point, siRecordTake_mark, resultCrossCheck_both, resultCrossCheck_one, frameMissingTimeout_yields⟩

end Sys2Proof
end

section
/-!
SUPPORT. The islands' watch over each other (R329, R339, R345, R346, R360).
-/

namespace Sys2Proof.Machine

/-- What the failure of an island with a cause means: its cause shows, and a channel that is still energised is DEGRADED. -/
def State.Failed (s x : State) (i cause t : Nat) : Prop :=
  x.h (siCause i) = cause ∧ (∀ k, k < 8 → x.chEnergised k = true → x.chState k = 3) ∧ Frame t [.fields, .safety, .events, .tx, .link] s x

theorem State.failed_siFail {s y : State} {t i cause : Nat} (hc : cause ≤ 15) (hy : Untouched islandGroups (s.clock t) y)
    (hh : y.siHealthy i = true) : s.Failed (s.keep t (y.siFail i cause)) i cause t := by
  obtain ⟨hcause, hdegraded, -⟩ := State.siFail_spec cause hh
  refine ⟨hcause.trans (Nat.min_eq_left hc), hdegraded, Frame.of_untouched (hy.trans (State.siFail_untouched _ _ _))⟩

theorem heartbeatSend_yields (t : Nat) (i : Island) (s : State) (hr : s.phase = .ready) (hh : s.siHealthy i.ix = true) :
    Yields (.heartbeatSend t i) s fun x =>
      (x.si i.other).inFlight = (s.si i.other).inFlight + 1 ∧ x.si i.ix = s.si i.ix ∧ Frame t [.safety] s x := by
  have hh' : (s.clock t).siHealthy i.ix = true := hh
  refine Yields.of_run (execHeartbeatSend t i) hr rfl rfl ?_
  simp only [hh', if_true]
  exact ⟨congrArg SafeIsland.inFlight (State.si_setSi_other' _ i _), State.si_setSi_self _ i _, Frame.of_untouched (State.setSi_untouched _ _ _)⟩

/-- A heartbeat that is taken: its instant, and the interval with the fifteen before it. -/
def SafeIsland.beat (x : SafeIsland) (now n : Nat) : SafeIsland :=
  { x with inFlight := x.inFlight - 1, lastBeat := now, intervals := (n :: x.intervals).take 16 }

/-- What HEARTBEAT_RECEIVE does (R345). -/
def State.takeBeat (s : State) (i : Island) (n : Nat) : State :=
  if s.siHealthy i.ix ∧ 0 < (s.si i.ix).inFlight then
    if ((n :: (s.si i.ix).intervals).take 16).length = 16 ∧ (((n :: (s.si i.ix).intervals).take 16).foldl (· + ·) 0 > 816000
        ∨ ((n :: (s.si i.ix).intervals).take 16).foldl (· + ·) 0 < 784000)
    then (s.setSi i.ix ((s.si i.ix).beat s.now n)).siFail i.other 2
    else s.setSi i.ix ((s.si i.ix).beat s.now n)
  else s

theorem execHeartbeatReceive_eq (t : Nat) (i : Island) (n : Nat) (s : State) : execHeartbeatReceive t i n s = s.run t fun s => s.takeBeat i n := rfl

theorem heartbeatReceive_few (t : Nat) (i : Island) (n : Nat) (s : State) (hr : s.phase = .ready) (hh : s.siHealthy i.ix = true)
    (hf : 0 < (s.si i.ix).inFlight) (hl : (s.si i.ix).intervals.length < 15) :
    Yields (.heartbeatReceive t i n) s fun x => (x.si i.ix).inFlight = (s.si i.ix).inFlight - 1 ∧ (x.si i.ix).lastBeat = max s.now t
      ∧ (x.si i.ix).intervals = n :: (s.si i.ix).intervals ∧ Frame t [.safety] s x := by
  have hall : (n :: (s.si i.ix).intervals).take 16 = n :: (s.si i.ix).intervals := List.take_of_length_le (by simp only [List.length_cons]; omega)
  have hlength : ¬ ((n :: (s.si i.ix).intervals).take 16).length = 16 := by
    rw [hall, List.length_cons]
    omega
  have hbeat : (s.clock t).takeBeat i n = (s.clock t).setSi i.ix ((s.si i.ix).beat (max s.now t) n) := by
    rw [State.takeBeat, if_pos ⟨hh, hf⟩]
    exact if_neg fun h => hlength h.1
  refine Yields.of_run (execHeartbeatReceive t i n) hr rfl (execHeartbeatReceive_eq t i n s) ?_
  rw [hbeat]
  have hsi : ((s.clock t).setSi i.ix ((s.si i.ix).beat (max s.now t) n)).si i.ix = (s.si i.ix).beat (max s.now t) n := State.si_setSi_same _ i _
  exact ⟨congrArg SafeIsland.inFlight hsi, congrArg SafeIsland.lastBeat hsi, (congrArg SafeIsland.intervals hsi).trans hall,
    Frame.of_untouched (State.setSi_untouched _ _ _)⟩

theorem heartbeatReceive_slow (t : Nat) (i : Island) (n : Nat) (s : State) (hr : s.phase = .ready) (hlive : s.siLive = [0, 1])
    (hf : 0 < (s.si i.ix).inFlight) (hl : (s.si i.ix).intervals.length = 15) (hsum : 816000 < n + (s.si i.ix).intervals.sum) :
    Yields (.heartbeatReceive t i n) s fun x => x.h (siCause i.other) = 2
      ∧ (∀ k, k < 8 → x.chEnergised k = true → x.chState k = 3) ∧ Frame t [.fields, .safety, .events, .tx, .link] s x := by
  have hall : (n :: (s.si i.ix).intervals).take 16 = n :: (s.si i.ix).intervals := List.take_of_length_le (by simp only [List.length_cons]; omega)
  have hslow : ((n :: (s.si i.ix).intervals).take 16).foldl (· + ·) 0 > 816000 := by
    rw [hall, ← List.sum_eq_foldl, List.sum_cons]
    exact hsum
  have hfull : ((n :: (s.si i.ix).intervals).take 16).length = 16 := by rw [hall, List.length_cons, hl]
  have hbeat : (s.clock t).takeBeat i n = ((s.clock t).setSi i.ix ((s.si i.ix).beat (max s.now t) n)).siFail i.other 2 := by
    rw [State.takeBeat, if_pos ⟨State.siHealthy_of_live hlive i.ix (by cases i <;> decide), hf⟩]
    exact if_pos ⟨hfull, .inl hslow⟩
  refine Yields.of_run (execHeartbeatReceive t i n) hr rfl (execHeartbeatReceive_eq t i n s) ?_
  rw [hbeat]
  exact State.failed_siFail (by decide) ((State.setSi_untouched _ _ _).mono)
    (State.siHealthy_of_live (s := s) hlive i.other (by cases i <;> decide))

theorem heartbeatLoss_yields (t : Nat) (i : Island) (s : State) (hr : s.phase = .ready) (hlive : s.siLive = [0, 1])
    (hdue : max (s.si i.ix).lastBeat s.pw.readyAt + 200 * lsbUs ≤ max s.now t) :
    Yields (.heartbeatLoss t i) s fun x => x.h (siCause i.other) = 1 ∧ (∀ k, k < 8 → x.chEnergised k = true → x.chState k = 3)
      ∧ Frame t [.fields, .safety, .events, .tx, .link] s x := by
  have hself : s.siHealthy i.ix = true := State.siHealthy_of_live hlive i.ix (by cases i <;> decide)
  refine Yields.of_run (execHeartbeatLoss t i) hr rfl rfl ?_
  rw [if_pos ⟨hself, hdue⟩]
  exact State.failed_siFail (by decide) (Untouched.refl _ _) (State.siHealthy_of_live (s := s) hlive i.other (by cases i <;> decide))

theorem selfTestCycle_passed (t : Nat) (i : Island) (s : State) (hr : s.phase = .ready) (hh : s.siHealthy i.ix = true) :
    Yields (.selfTestCycle t i true) s fun x => (x.si i.ix).selfTest = some (max s.now t) ∧ Frame t [.safety] s x := by
  have hh' : (s.clock t).siHealthy i.ix = true := hh
  refine Yields.of_run (execSelfTestCycle t i true) hr rfl rfl ?_
  simp only [hh', if_true]
  exact ⟨congrArg SafeIsland.selfTest (State.si_setSi_same _ i _), Frame.of_untouched (State.setSi_untouched _ _ _)⟩

theorem selfTestCycle_failed (t : Nat) (i : Island) (s : State) (hr : s.phase = .ready) (hh : s.siHealthy i.ix = true) :
    Yields (.selfTestCycle t i false) s fun x =>
      x.h (siCause i.ix) = 3 ∧ (∀ k, k < 8 → x.chEnergised k = true → x.chState k = 3) ∧ Frame t [.fields, .safety, .events, .tx, .link] s x := by
  have hh' : (s.clock t).siHealthy i.ix = true := hh
  refine Yields.of_run (execSelfTestCycle t i false) hr rfl rfl ?_
  simp only [hh', if_true, Bool.false_eq_true, if_false]
  exact State.failed_siFail (by decide) (Untouched.refl _ _) hh'

theorem siWatchdogExpiry_yields (t : Nat) (i : Island) (s : State) (hr : s.phase = .ready) (hh : s.siHealthy i.ix = true) :
    Yields (.siWatchdogExpiry t i) s fun x =>
      x.h (siCause i.ix) = 4 ∧ (x.si i.ix).wdHold = true ∧ (∀ k, k < 8 → x.chEnergised k = true → x.chState k = 3)
        ∧ Frame t [.fields, .safety, .events, .tx, .link] s x := by
  let y := (s.clock t).setSi i.ix { (s.clock t).si i.ix with wdHold := true }
  have hy : y.siHealthy i.ix = true := hh
  have hsi : (y.siFail i.ix 4).si i.ix = { (s.clock t).si i.ix with wdHold := true } := by
    rw [(State.siFail_spec 4 hy).2.2, State.si_setSi_same]
  refine Yields.of_run (execSiWatchdogExpiry t i) hr rfl rfl ?_
  obtain ⟨hcause, hdegraded, hframe⟩ := State.failed_siFail (s := s) (t := t) (cause := 4) (by decide) ((State.setSi_untouched _ _ _).mono) hy
  exact ⟨hcause, congrArg SafeIsland.wdHold hsi, hdegraded, hframe⟩

theorem regulatorFault_yields (t : Nat) (i : Island) (s : State) (hr : s.phase = .ready) (hh : s.siHealthy i.ix = true) :
    Yields (.regulatorFault t i) s fun x =>
      x.h (siCause i.ix) = 5 ∧ (∀ k, k < 8 → x.chEnergised k = true → x.chState k = 3) ∧ Frame t [.fields, .safety, .events, .tx, .link] s x :=
  Yields.of_run (execRegulatorFault t i) hr rfl rfl (State.failed_siFail (by decide) (Untouched.refl _ _) hh)

/-- What SF_COPY_CRC_CHECK finds: a copy, and the island's failure where the copy misses the reference (R360). -/
def State.copyChecked (s : State) (i : Island) (copy : Tab Score) : State :=
  if s.siHealthy i.ix ∧ sfCrc copy ≠ s.safe.ref then (s.setSi i.ix { s.si i.ix with copy := copy }).siFail i.ix 6
  else s.setSi i.ix { s.si i.ix with copy := copy }

theorem execSfCopyCrcCheck_eq (t : Nat) (i : Island) (l : List (Nat × Score)) (s : State) :
    execSfCopyCrcCheck t i l s = s.run t fun s => s.copyChecked i (l.foldl (fun m u => Tab.set m (Reg.resetRw u.1) u.1 u.2) (s.si i.ix).copy) := by
  cases i <;> rfl

theorem sfCopyCrcCheck_whole (t : Nat) (i : Island) (s : State) (hr : s.phase = .ready) (_ : s.siHealthy i.ix = true)
    (hcrc : sfCrc (s.si i.ix).copy = s.safe.ref) : Yields (.sfCopyCrcCheck t i []) s fun x => Frame t [] s x := by
  have hsame : (s.clock t).copyChecked i ((s.clock t).si i.ix).copy = s.clock t := by
    have hcrc' : ¬ ((s.clock t).siHealthy i.ix = true ∧ sfCrc ((s.clock t).si i.ix).copy ≠ (s.clock t).safe.ref) := fun h => h.2 hcrc
    rw [State.copyChecked, if_neg hcrc']
    cases i <;> rfl
  refine Yields.of_run (execSfCopyCrcCheck t i []) hr rfl (execSfCopyCrcCheck_eq t i [] s) ?_
  rw [List.foldl_nil, hsame]
  exact Frame.of_untouched (Untouched.refl _ _)

theorem sfCopyCrcCheck_upset (t : Nat) (i : Island) (a : Nat) (v : Score) (s : State) (hr : s.phase = .ready) (hh : s.siHealthy i.ix = true)
    (hcrc : sfCrc (Tab.set (s.si i.ix).copy (Reg.resetRw a) a v) ≠ s.safe.ref) :
    Yields (.sfCopyCrcCheck t i [(a, v)]) s fun x =>
      x.h (siCause i.ix) = 6 ∧ (x.si i.ix).copy = Tab.set (s.si i.ix).copy (Reg.resetRw a) a v
        ∧ (∀ k, k < 8 → x.chEnergised k = true → x.chState k = 3) ∧ Frame t [.fields, .safety, .events, .tx, .link] s x := by
  let copy := Tab.set (s.si i.ix).copy (Reg.resetRw a) a v
  let y := (s.clock t).setSi i.ix { (s.clock t).si i.ix with copy := copy }
  have hy : y.siHealthy i.ix = true := hh
  have hfails : (s.clock t).copyChecked i copy = y.siFail i.ix 6 := if_pos ⟨hh, hcrc⟩
  have hsi : (y.siFail i.ix 6).si i.ix = { (s.clock t).si i.ix with copy := copy } := by
    rw [(State.siFail_spec 6 hy).2.2, State.si_setSi_same]
  obtain ⟨hcause, hdegraded, hframe⟩ := State.failed_siFail (s := s) (t := t) (cause := 6) (by decide) ((State.setSi_untouched _ _ _).mono) hy
  refine Yields.of_run (execSfCopyCrcCheck t i [(a, v)]) hr rfl (execSfCopyCrcCheck_eq t i [(a, v)] s) ?_
  rw [List.foldl_cons, List.foldl_nil, show (s.clock t).copyChecked i (Tab.set ((s.clock t).si i.ix).copy (Reg.resetRw a) a v) = _ from hfails]
  exact ⟨hcause, congrArg SafeIsland.copy hsi, hdegraded, hframe⟩

end Sys2Proof.Machine

namespace Sys2Proof
open Machine

/-- Settles O47: a failure that is found shows its cause and leaves only DEGRADED channels energised (failed_siFail); the rest of what the islands
note of each other is their own state. -/
theorem islandsWatchEachOther : Obligations.IslandsWatchEachOther := by
  unfold Obligations.IslandsWatchEachOther
  exact ⟨heartbeatSend_yields, heartbeatReceive_few, heartbeatReceive_slow, heartbeatLoss_yields, selfTestCycle_passed, selfTestCycle_failed,
    siWatchdogExpiry_yields, regulatorFault_yields, sfCopyCrcCheck_whole, sfCopyCrcCheck_upset⟩

end Sys2Proof
end

section
/-!
SUPPORT. Read-back, feedback, the end of DEGRADED and silent slots (R330, R338, R340, R347, R356, R357).
-/

namespace Sys2Proof.Machine

theorem State.chState_keep (s x : State) (t n : Nat) : (s.keep t x).chState n = x.chState n := rfl

theorem State.h_keep (s x : State) (t : Nat) (f : Fld) : (s.keep t x).h f = x.h f := rfl

theorem State.safeChan_keep (s x : State) (t n : Nat) : (s.keep t x).safeChan n = x.safeChan n := rfl

theorem State.ev_keep (s x : State) (t : Nat) : (s.keep t x).ev = x.ev := rfl

/-! ### Read-back -/

theorem State.readBack_only (s : State) (m : Island) (n : Nat) (level : Bool) :
    OnlyFields [Reg.SF_CH_STAT_SOA_RB n, Reg.SF_CH_STAT_SOB_RB n] s (s.readBack m n level) := by
  have hset : OnlyFields [Reg.SF_CH_STAT_SOA_RB n, Reg.SF_CH_STAT_SOB_RB n] s (s.setSafeChan n
      (if m = .a then { s.safeChan n with rbA := s.soLevel m.ix n != level } else { s.safeChan n with rbB := s.soLevel m.ix n != level })) :=
    OnlyFields.of_regs rfl
  exact hset.trans (State.showPins_only _ n)

theorem State.readBack_acts (s : State) (m : Island) (n : Nat) (level : Bool) : State.ActsOn n s (s.readBack m n level) := by
  have hset : State.ActsOn n s (s.setSafeChan n
      (if m = .a then { s.safeChan n with rbA := s.soLevel m.ix n != level } else { s.safeChan n with rbB := s.soLevel m.ix n != level })) :=
    State.ActsOn.setSafeChan s (by cases m <;> rfl)
  exact hset.trans (State.showPins_acts _ n)

theorem State.readBack_untouched (s : State) (m : Island) (n : Nat) (level : Bool) : Untouched [.fields, .safety] s (s.readBack m n level) :=
  ((State.setSafeChan_untouched s n _).mono).trans ((State.showPins_untouched _ n).mono)

/-- The fields of a channel's state, cause and count are none of its read-back bits. -/
theorem chanStatus_not_readBack (n : Nat) :
    (Reg.SF_CH_STAT_STATE n).key ∉ [Reg.SF_CH_STAT_SOA_RB n, Reg.SF_CH_STAT_SOB_RB n].map Fld.key
      ∧ (Reg.SF_CH_CAUSE_FIRST n).key ∉ [Reg.SF_CH_STAT_SOA_RB n, Reg.SF_CH_STAT_SOB_RB n].map Fld.key
      ∧ (Reg.SF_TRIP_CNT_COUNT n).key ∉ [Reg.SF_CH_STAT_SOA_RB n, Reg.SF_CH_STAT_SOB_RB n].map Fld.key := by
  simp only [List.map_cons, List.map_nil, List.mem_cons, List.not_mem_nil, or_false, Fld.key, Reg.SF_CH_STAT_STATE, Reg.SF_CH_STAT_SOA_RB,
    Reg.SF_CH_STAT_SOB_RB, Reg.SF_CH_CAUSE_FIRST, Reg.SF_TRIP_CNT_COUNT, Reg.SF_CH_STAT, Reg.SF_CH_CAUSE, Reg.SF_TRIP_CNT]
  omega

theorem readbackFault_trips (t : Nat) (m : Island) (n : SafeCh) (level : Bool) (s : State) (hr : s.phase = .ready) (he : s.chEnergised n = true)
    (hen : s.sf (Reg.SF_CH_CFG_EN n) = 1) (hlevel : level ≠ s.soLevel m.ix n) :
    Yields (.readbackFault t m n level) s fun x => x.chState n = 1 ∧ x.pairLow n ∧ x.h (Reg.SF_CH_CAUSE_FIRST n) = 13
      ∧ x.h (Reg.SF_TRIP_CNT_COUNT n) = min (s.h (Reg.SF_TRIP_CNT_COUNT n) + 1) (Reg.SF_TRIP_CNT_COUNT n).top
      ∧ (∀ k, k < 8 → k ≠ n.val → x.chState k = s.chState k) ∧ Frame t [.fields, .safety, .events, .tx, .link] s x := by
  let y := (s.clock t).readBack m n level
  let z := (y.siTrip n 13).readBack m n level
  obtain ⟨hkeepState, hkeepFirst, hkeepCount⟩ := chanStatus_not_readBack n
  have hread := (s.clock t).readBack_only m n level
  have hread' := (y.siTrip n 13).readBack_only m n level
  have hacts : State.ActsOn n (s.clock t) z :=
    (((s.clock t).readBack_acts m n level).trans (y.siTrip_acts n 13)).trans (State.readBack_acts _ m n level)
  have hy : y.chEnergised n = true := (State.chEnergised_congr (hread _ hkeepState)).trans he
  obtain ⟨hstate, hfirst, hcount, -⟩ := State.siTrip_spec 13 hy
  have hstate' : z.chState n = 1 := (hread' _ hkeepState).trans hstate
  have hwrong : ((s.clock t).soLevel m.ix n != level) = true := by
    have hsame : (s.clock t).soLevel m.ix n = s.soLevel m.ix n := rfl
    rw [hsame, bne_iff_ne]
    exact hlevel.symm
  have hen' : (y.sf (Reg.SF_CH_CFG_EN n) == 1) = true := by
    rw [beq_iff_eq, ((s.clock t).readBack_acts m n level).all.sf]
    exact hen
  refine Yields.of_run (execReadbackFault t m n level) hr rfl (execReadbackFault_eq t m n level s) ?_
  rw [hwrong, hen', Bool.and_self, if_pos rfl]
  simp only [State.chState_keep, State.h_keep]
  refine ⟨hstate', State.pairLow_of_tripped hstate', ?_, ?_, fun k _ hk => hacts.chState hk, Frame.of_untouched ?_⟩
  · exact (hread' _ hkeepFirst).trans hfirst
  · refine (hread' _ hkeepCount).trans (hcount.trans ?_)
    rw [hread _ hkeepCount]
    rfl
  · exact ((((s.clock t).readBack_untouched m n level).mono).trans (y.siTrip_untouched n 13)).trans ((State.readBack_untouched _ m n level).mono)

theorem readbackFault_commanded (t : Nat) (m : Island) (n : SafeCh) (s : State) (hr : s.phase = .ready) :
    Yields (.readbackFault t m n (s.soLevel m.ix n)) s fun x =>
      OnlyFields [Reg.SF_CH_STAT_SOA_RB n, Reg.SF_CH_STAT_SOB_RB n] s x ∧ Frame t [.fields, .safety] s x := by
  have hright : ((s.clock t).soLevel m.ix n != s.soLevel m.ix n) = false := by
    have hsame : (s.clock t).soLevel m.ix n = s.soLevel m.ix n := rfl
    rw [hsame, bne_self_eq_false]
  refine Yields.of_run (execReadbackFault t m n (s.soLevel m.ix n)) hr rfl (execReadbackFault_eq t m n _ s) ?_
  rw [hright, Bool.false_and, if_neg Bool.false_ne_true]
  exact ⟨(s.clock t).readBack_only m n _, Frame.of_untouched ((s.clock t).readBack_untouched m n _)⟩

/-! ### Feedback -/

/-- A level of the feedback input that stands: it shows, and is noted as right, or as wrong from its instant on (R340). -/
def State.feedbackSeen (s : State) (n : Nat) (level : Bool) : State :=
  let y := s.flag (Reg.SF_CH_STAT_SFB n) level
  if level = !y.chEnergised n then y.setSafeChan n { y.safeChan n with fbOk := true, wrongAt := none }
  else if (y.safeChan n).wrongAt.isSome then y
  else y.setSafeChan n { y.safeChan n with wrongAt := some y.now }

theorem execSfbLevelChange_eq (t : Nat) (n : SafeCh) (c : SfbChange) (s : State) :
    execSfbLevelChange t n c s = s.run t fun s => if c.glitch then s else s.feedbackSeen n c.level := rfl

theorem State.feedbackSeen_spec (s : State) (n : Nat) (level : Bool) :
    (s.feedbackSeen n level).h (Reg.SF_CH_STAT_SFB n) = (if level then 1 else 0)
      ∧ (level = !s.chEnergised n → ((s.feedbackSeen n level).safeChan n).fbOk = true ∧ ((s.feedbackSeen n level).safeChan n).wrongAt = none)
      ∧ OnlyFields [Reg.SF_CH_STAT_SFB n] s (s.feedbackSeen n level) ∧ Untouched [.fields, .safety] s (s.feedbackSeen n level) := by
  let y := s.flag (Reg.SF_CH_STAT_SFB n) level
  have hlevel : y.h (Reg.SF_CH_STAT_SFB n) = (if level then 1 else 0) := by
    rw [State.h_flag_same]
    cases level <;> rfl
  have hflag : OnlyFields [Reg.SF_CH_STAT_SFB n] s y := OnlyFields.flag (by simp) s level
  have hsame : y.chEnergised n = s.chEnergised n := State.chEnergised_congr (State.h_flag_ne s _ _ level (chanState_ne_sfb n n))
  have huntouched : Untouched [.fields, .safety] s y := (State.flag_untouched s _ level).mono
  have hset (x : SafeChan) : OnlyFields [Reg.SF_CH_STAT_SFB n] s (y.setSafeChan n x) := hflag.trans (OnlyFields.of_regs rfl)
  have hset' (x : SafeChan) : Untouched [.fields, .safety] s (y.setSafeChan n x) := huntouched.trans ((State.setSafeChan_untouched y n x).mono)
  unfold State.feedbackSeen
  dsimp only
  split
  · exact ⟨hlevel, fun _ => by simp, hset _, hset' _⟩
  · next hwrong =>
    have hnever (h : level = !s.chEnergised n) : False := hwrong (h.trans (congrArg (!·) hsame).symm)
    split
    · exact ⟨hlevel, fun h => (hnever h).elim, hflag, huntouched⟩
    · exact ⟨hlevel, fun h => (hnever h).elim, hset _, hset' _⟩

theorem sfbLevelChange_glitch (t : Nat) (n : SafeCh) (c : SfbChange) (s : State) (hr : s.phase = .ready) (hc : c.widthNs ≤ 100000) :
    Yields (.sfbLevelChange t n c) s fun x => Frame t [] s x := by
  refine Yields.of_run (execSfbLevelChange t n c) hr rfl (execSfbLevelChange_eq t n c s) ?_
  rw [SfbChange.glitch, decide_eq_true hc, if_pos rfl]
  exact Frame.of_untouched (Untouched.refl _ _)

theorem sfbLevelChange_level (t : Nat) (n : SafeCh) (c : SfbChange) (s : State) (hr : s.phase = .ready) (hc : 100000 < c.widthNs) :
    Yields (.sfbLevelChange t n c) s fun x =>
      x.h (Reg.SF_CH_STAT_SFB n) = (if c.level then 1 else 0)
        ∧ (c.level = !s.chEnergised n → (x.safeChan n).fbOk = true ∧ (x.safeChan n).wrongAt = none)
        ∧ OnlyFields [Reg.SF_CH_STAT_SFB n] s x ∧ Frame t [.fields, .safety] s x := by
  obtain ⟨hlevel, hright, honly, huntouched⟩ := (s.clock t).feedbackSeen_spec n c.level
  refine Yields.of_run (execSfbLevelChange t n c) hr rfl (execSfbLevelChange_eq t n c s) ?_
  rw [SfbChange.glitch, decide_eq_false (by omega), if_neg Bool.false_ne_true]
  exact ⟨hlevel, hright, honly, Frame.of_untouched huntouched⟩

/-- A feedback that has not been right in its time, or has been wrong for 10 ms (R340). -/
def State.feedbackBad (s : State) (n : Nat) : Bool :=
  let x := s.safeChan n
  s.chEnergised n && s.fbWrong n && (!x.fbOk && decide (x.changedAt + max 1 (s.sf (Reg.SF_FB_TIME_MS n)) * lsbMs ≤ s.now)
    || x.fbOk && (match x.wrongAt with | some w => decide (w + 10 * lsbMs ≤ s.now) | none => false))

theorem execFeedbackFault_eq (t : Nat) (n : SafeCh) (s : State) :
    execFeedbackFault t n s = s.run t fun s => if s.feedbackBad n then (s.raise .feedbackFault n 0).siTrip n 14 else s := rfl

theorem feedbackFault_yields (t : Nat) (n : SafeCh) (s : State) (hr : s.phase = .ready) (he : s.chEnergised n = true) (hw : s.fbWrong n = true)
    (hok : (s.safeChan n).fbOk = false) (hdue : (s.safeChan n).changedAt + max 1 (s.sf (Reg.SF_FB_TIME_MS n)) * lsbMs ≤ max s.now t) :
    Yields (.feedbackFault t n) s fun x =>
      x.chState n = 1 ∧ x.pairLow n ∧ x.h (Reg.SF_CH_CAUSE_FIRST n) = 14 ∧ (∃ r ∈ x.ev.inbox, r.code = Ev.feedbackFault.code ∧ r.e10 = n.val)
        ∧ Frame t [.fields, .safety, .events, .tx, .link] s x := by
  let y := (s.clock t).raise .feedbackFault n 0
  have hbad : (s.clock t).feedbackBad n = true := by
    have he' : (s.clock t).chEnergised n = true := he
    have hw' : (s.clock t).fbWrong n = true := hw
    have hok' : ((s.clock t).safeChan n).fbOk = false := hok
    have hdue' : ((s.clock t).safeChan n).changedAt + max 1 ((s.clock t).sf (Reg.SF_FB_TIME_MS n)) * lsbMs ≤ (s.clock t).now := hdue
    simp only [State.feedbackBad, he', hw', hok', decide_eq_true hdue', Bool.not_false, Bool.and_self, Bool.true_or]
  have hy : y.chEnergised n = true := he
  obtain ⟨hstate, hfirst, -⟩ := State.siTrip_spec 14 hy
  obtain ⟨r, hr', hcode, harg⟩ := (s.clock t).inbox_raise .feedbackFault n 0
  refine Yields.of_run (execFeedbackFault t n) hr rfl (execFeedbackFault_eq t n s) ?_
  rw [hbad, if_pos rfl]
  simp only [State.chState_keep, State.h_keep, State.ev_keep]
  refine ⟨hstate, State.pairLow_of_tripped hstate, hfirst, ⟨r, (y.siTrip_acts n 14).reports ?_, hcode, ?_⟩, Frame.of_untouched ?_⟩
  · exact hr' ▸ List.mem_append_right _ (List.mem_singleton_self r)
  · exact harg.trans (Nat.mod_eq_of_lt (by omega))
  · exact ((State.raise_untouched _ _ _ _).mono).trans (y.siTrip_untouched n 14)

/-! ### The end of DEGRADED -/

/-- What DEG_EXPIRED does (R347). -/
def State.degradedEnds (s : State) (n : Nat) : State :=
  match (s.safeChan n).degUntil with
  | some e => if s.chState n = 3 ∧ e ≤ s.now then s.siTrip n 17 else s
  | none => s

theorem execDegExpired_eq (t : Nat) (n : SafeCh) (s : State) : execDegExpired t n s = s.run t fun s => s.degradedEnds n := rfl

theorem degExpired_yields (t : Nat) (n : SafeCh) (e : Nat) (s : State) (hr : s.phase = .ready) (h3 : s.chState n = 3)
    (hend : (s.safeChan n).degUntil = some e) (hdue : e ≤ max s.now t) :
    Yields (.degExpired t n) s fun x =>
      x.chState n = 1 ∧ x.pairLow n ∧ x.h (Reg.SF_CH_CAUSE_FIRST n) = 17 ∧ (x.safeChan n).degUntil = none
        ∧ Frame t [.fields, .safety, .events, .tx, .link] s x := by
  have hends : (s.clock t).degradedEnds n = (s.clock t).siTrip n 17 := by
    have hend' : ((s.clock t).safeChan n).degUntil = some e := hend
    rw [State.degradedEnds, hend']
    exact if_pos ⟨h3, hdue⟩
  have h3' : (s.clock t).chState n = 3 := h3
  obtain ⟨hstate, hfirst, -, hnone⟩ := State.siTrip_spec 17 (State.chEnergised_of_three h3')
  refine Yields.of_run (execDegExpired t n) hr rfl (execDegExpired_eq t n s) ?_
  rw [hends]
  simp only [State.chState_keep, State.h_keep, State.safeChan_keep]
  exact ⟨hstate, State.pairLow_of_tripped hstate, hfirst, hnone, Frame.of_untouched (State.siTrip_untouched _ n 17)⟩

/-! ### Silent slots -/

/-- A silent slot shows its error and is counted. -/
def State.slotSilent (s : State) (k : Nat) : State := (s.setH (Reg.SF_RX_STAT_LAST_ERR k) 5).inc (Reg.SF_RX_ERR_COUNT k)

theorem execFslSlotTimeout_eq (t : Nat) (k : FslSlot) (s : State) :
    execFslSlotTimeout t k s = s.run t fun s =>
      if s.sf (Reg.SF_RX_CFG_EN k) = 1 ∧ s.h (Reg.SF_RX_STAT_STATE k) ≠ 2 ∧ (s.slot k).since + max 1 (s.sf (Reg.SF_RX_TMO_MS k)) * lsbMs ≤ s.now
      then (s.slotSilent k).slotFail k else s := rfl

theorem State.tripFollower_acts (k : Nat) (s : State) (n : Nat) : s.ActsOnAll (s.tripFollower k n) := by
  unfold State.tripFollower
  split
  · exact (s.siTrip_acts n 16).all
  · exact State.ActsOnAll.refl s

/-- The status fields of a slot are none of a channel's. -/
theorem slotFields_not_mem (k n : Nat) :
    (Reg.SF_RX_STAT_STATE k).key ∉ (chanFields n).map Fld.key ∧ (Reg.SF_RX_STAT_LAST_ERR k).key ∉ (chanFields n).map Fld.key
      ∧ (Reg.SF_RX_ERR_COUNT k).key ∉ (chanFields n).map Fld.key := by
  refine ⟨fun h => ?_, fun h => ?_, fun h => ?_⟩
  all_goals
    have hk := chanFields_keys h
    simp only [Fld.key, Reg.SF_RX_STAT_STATE, Reg.SF_RX_STAT_LAST_ERR, Reg.SF_RX_ERR_COUNT, Reg.SF_RX_STAT, Reg.SF_RX_ERR] at hk
    omega

/-- No channel that follows a slot that has failed stays energised. -/
theorem State.chEnergised_slotFail (s : State) (k : Nat) {n : Nat} (hn : n < 8) (h : (s.follows n).contains k = true) :
    (s.slotFail k).chEnergised n = false := by
  have hfollows : ((s.slotFail k).follows n).contains k = true := by
    have hshown : (s.slotShownFailed k).follows n = s.follows n := by
      have hcause (i : Nat) : (s.slotShownFailed k).h (siCause i) = s.h (siCause i) := by
        have hne : (siCause i).key ≠ (Reg.SF_RX_STAT_STATE k).key := by
          unfold siCause
          split <;> simp only [Fld.key, Reg.SF_STAT_SIA_CAUSE, Reg.SF_STAT_SIB_CAUSE, Reg.SF_STAT, Reg.SF_RX_STAT_STATE, Reg.SF_RX_STAT] <;> omega
        exact State.h_setH_ne s _ _ _ hne
      simp only [State.follows, State.sf, State.siHealthy, hcause]
      rfl
    rw [State.slotFail_eq, (State.ActsOnAll.foldl (fun s n => s.tripFollower_acts k n) safeChans _).follows, hshown, h]
  refine safeChans_each (f := State.tripFollower k) (fun n x => (x.follows n).contains k = true → x.chEnergised n = false) (fun s n h => ?_)
    (fun s n m _ hx h => ?_) (s.slotShownFailed k) hn hfollows
  · have hbefore : (s.follows n).contains k = true := (s.tripFollower_acts k n).follows n ▸ h
    rw [State.tripFollower, if_pos hbefore]
    exact s.chEnergised_siTrip n 16
  · exact (s.tripFollower_calms k n).not_energised (hx ((s.tripFollower_acts k n).follows m ▸ h))

theorem State.slotFail_spec (s : State) (k : Nat) :
    (s.slotFail k).h (Reg.SF_RX_STAT_STATE k) = 2 ∧ (s.slotFail k).h (Reg.SF_RX_STAT_LAST_ERR k) = s.h (Reg.SF_RX_STAT_LAST_ERR k)
      ∧ (s.slotFail k).h (Reg.SF_RX_ERR_COUNT k) = s.h (Reg.SF_RX_ERR_COUNT k)
      ∧ ∃ r ∈ (s.slotFail k).ev.inbox, r.code = Ev.fslRxFail.code ∧ r.e10 = k % 2 ^ 20 := by
  have hacts : (s.slotShownFailed k).ActsOnAll (s.slotFail k) :=
    State.ActsOnAll.foldl (fun s n => s.tripFollower_acts k n) safeChans (s.slotShownFailed k)
  have herr : (Reg.SF_RX_STAT_LAST_ERR k).key ≠ (Reg.SF_RX_STAT_STATE k).key := by
    simp only [Fld.key, Reg.SF_RX_STAT_LAST_ERR, Reg.SF_RX_STAT_STATE]
    omega
  have hcount : (Reg.SF_RX_ERR_COUNT k).key ≠ (Reg.SF_RX_STAT_STATE k).key := by
    simp only [Fld.key, Reg.SF_RX_ERR_COUNT, Reg.SF_RX_STAT_STATE, Reg.SF_RX_ERR, Reg.SF_RX_STAT]
    omega
  refine ⟨?_, ?_, ?_, ?_⟩
  · rw [hacts.fields _ fun n => (slotFields_not_mem k n).1]
    exact State.h_setH_same s _ 2
  · rw [hacts.fields _ fun n => (slotFields_not_mem k n).2.1]
    exact State.h_setH_ne s _ _ 2 herr
  · rw [hacts.fields _ fun n => (slotFields_not_mem k n).2.2]
    exact State.h_setH_ne s _ _ 2 hcount
  · obtain ⟨r, hr, hcode, harg⟩ :
        ∃ r, (s.slotShownFailed k).ev.inbox = s.ev.inbox ++ [r] ∧ r.code = Ev.fslRxFail.code ∧ r.e10 = k % 2 ^ 20 := ⟨_, rfl, rfl, rfl⟩
    exact ⟨r, hacts.reports (hr ▸ List.mem_append_right _ (List.mem_singleton_self r)), hcode, harg⟩

theorem fslSlotTimeout_yields (t : Nat) (k : FslSlot) (s : State) (hr : s.phase = .ready) (hen : s.sf (Reg.SF_RX_CFG_EN k) = 1)
    (hst : s.h (Reg.SF_RX_STAT_STATE k) ≠ 2) (hdue : (s.slot k).since + max 1 (s.sf (Reg.SF_RX_TMO_MS k)) * lsbMs ≤ max s.now t) :
    Yields (.fslSlotTimeout t k) s fun x =>
      x.h (Reg.SF_RX_STAT_STATE k) = 2 ∧ x.h (Reg.SF_RX_STAT_LAST_ERR k) = 5
        ∧ x.h (Reg.SF_RX_ERR_COUNT k) = min (s.h (Reg.SF_RX_ERR_COUNT k) + 1) (Reg.SF_RX_ERR_COUNT k).top
        ∧ (∃ r ∈ x.ev.inbox, r.code = Ev.fslRxFail.code ∧ r.e10 = k.val) ∧ (∀ n, n < 8 → (s.follows n).contains k.val = true → x.chEnergised n = false)
        ∧ Frame t [.fields, .safety, .events, .tx, .link] s x := by
  let y := (s.clock t).slotSilent k
  have hne : (Reg.SF_RX_STAT_LAST_ERR k).key ≠ (Reg.SF_RX_ERR_COUNT k).key := by
    simp only [Fld.key, Reg.SF_RX_STAT_LAST_ERR, Reg.SF_RX_ERR_COUNT, Reg.SF_RX_ERR, Reg.SF_RX_STAT]
    omega
  have herr : y.h (Reg.SF_RX_STAT_LAST_ERR k) = 5 := (State.h_inc_ne _ _ _ hne).trans (State.h_setH_same _ _ 5)
  have hcount : y.h (Reg.SF_RX_ERR_COUNT k) = min (s.h (Reg.SF_RX_ERR_COUNT k) + 1) (Reg.SF_RX_ERR_COUNT k).top := by
    refine (State.h_inc_same _ _).trans ?_
    rw [State.h_setH_ne _ _ _ _ hne.symm]
    rfl
  have hcause (i : Nat) : y.h (siCause i) = s.h (siCause i) := by
    have hne1 : (siCause i).key ≠ (Reg.SF_RX_ERR_COUNT k).key := by
      unfold siCause
      split <;> simp only [Fld.key, Reg.SF_STAT_SIA_CAUSE, Reg.SF_STAT_SIB_CAUSE, Reg.SF_STAT, Reg.SF_RX_ERR_COUNT, Reg.SF_RX_ERR] <;> omega
    have hne2 : (siCause i).key ≠ (Reg.SF_RX_STAT_LAST_ERR k).key := by
      unfold siCause
      split <;> simp only [Fld.key, Reg.SF_STAT_SIA_CAUSE, Reg.SF_STAT_SIB_CAUSE, Reg.SF_STAT, Reg.SF_RX_STAT_LAST_ERR, Reg.SF_RX_STAT] <;> omega
    exact (State.h_inc_ne _ _ _ hne1).trans (State.h_setH_ne _ _ _ _ hne2)
  have hfollows (n : Nat) : y.follows n = s.follows n := by
    simp only [State.follows, State.sf, State.siHealthy, hcause]
    rfl
  obtain ⟨hstate, herr', hcount', r, hmem, hcode, harg⟩ := y.slotFail_spec k
  have huntouched : Untouched islandGroups (s.clock t) y := by
    intro g hg
    cases g <;> simp [Group.same, y, State.slotSilent] at hg ⊢
  have hdue' : ((s.clock t).slot k).since + max 1 ((s.clock t).sf (Reg.SF_RX_TMO_MS k)) * lsbMs ≤ (s.clock t).now := hdue
  refine Yields.of_run (execFslSlotTimeout t k) hr rfl (execFslSlotTimeout_eq t k s) ?_
  rw [if_pos ⟨hen, hst, hdue'⟩]
  simp only [State.h_keep, State.ev_keep, State.chEnergised_keep]
  exact ⟨hstate, herr'.trans herr, hcount'.trans hcount, ⟨r, hmem, hcode, harg.trans (Nat.mod_eq_of_lt (by omega))⟩,
    fun n hn h => y.chEnergised_slotFail k hn (hfollows n ▸ h), Frame.of_untouched (huntouched.trans (State.slotFail_untouched _ k))⟩

end Sys2Proof.Machine

namespace Sys2Proof
open Machine

/-- Settles O48: a trip leaves the channel's marks (siTrip_spec), which the ZONE_STATE and the read-back bits that follow do not touch; the other
channels stay (ActsOn). -/
theorem channelsTripAtFaults : Obligations.ChannelsTripAtFaults := by
  unfold Obligations.ChannelsTripAtFaults
  exact ⟨readbackFault_trips, readbackFault_commanded, sfbLevelChange_glitch, sfbLevelChange_level, feedbackFault_yields, degExpired_yields,
    fslSlotTimeout_yields⟩

end Sys2Proof
end

section
/-!
SUPPORT. RESPOND that fails (R395).
-/

namespace Sys2Proof.Machine

theorem State.validNonce_of_over {s : State} (h : ∀ n e, s.cm.nonce = some (n, e) → e ≤ s.now) : s.validNonce = none := by
  unfold State.validNonce
  split
  · next n e hn => exact if_neg (Nat.not_lt.mpr (h n e hn))
  · rfl

theorem respond_invalid_yields (t : Nat) (src : Source) (c : Cmd) (s : State) (hr : s.phase = .ready) (hasks : (s.clock t).asks src 0x41 c)
    (hwait : (s.clock t).authWait = 0) (hover : ∀ n e, s.cm.nonce = some (n, e) → e ≤ max s.now t) :
    Yields (.respond t src) s fun x => s.answered x src c { status := 0x0F } ∧ x.cm.session = s.cm.session ∧ x.pw = s.pw
      ∧ Frame t [.fields, .command, .tx, .link] s x := by
  have hf : (s.clock t).respond c = (s.clock t, { status := 0x0F }) := by
    have hinvalid : (s.clock t).validNonce = none := State.validNonce_of_over hover
    simp only [State.respond, State.authBlocked_of_no_wait hwait, hinvalid]
  exact Yields.of_simple rfl hr hasks hf (State.Calm.of_regs rfl rfl rfl rfl rfl rfl) fun x hx =>
    ⟨hx.answered, hx.session, hx.pw, hx.frame _ (Untouched.refl _ _) (List.Subset.refl _)⟩

end Sys2Proof.Machine
end

section
namespace Sys2Proof
open Machine

/-- Settles O55: a nonce that has passed is none (validNonce_of_over), and a valid one is used up before the code is compared. -/
theorem respondFails : Obligations.RespondFails := by
  unfold Obligations.RespondFails
  refine ⟨respond_invalid_yields, fun t src c n e s hr hasks hwait hn he hcode => ?_⟩
  obtain ⟨x, hexec, hsession, hnonce, -, hanswered, -, -, hframe⟩ := respond_wrong_yields t src c n e s hr hasks hwait hn he hcode
  exact ⟨x, hexec, hanswered, hnonce, hsession, hframe⟩

end Sys2Proof
end

section
/-!
SUPPORT. START and STOP of a DMA channel (R370, R371, R375, R377).
-/

namespace Sys2Proof.Machine

/-! ### A flush does not ask whether the channel stops -/

/-- The same channel with a STOP that waits. -/
def DmaChan.marked (c : DmaChan) : DmaChan := { c with stopping := true }

/-- The same run of a channel with a STOP that waits. -/
def DmaRun.marked (r : DmaRun) : DmaRun := { r with c := r.c.marked }

theorem DmaRun.putElem_marked (r : DmaRun) (d : DmaDest) (k x : Nat) : r.marked.putElem d k x = (r.putElem d k x).marked := by
  cases d <;> rfl

theorem DmaRun.putBits_marked (r : DmaRun) (d : DmaDest) (k : Nat) (bits : List Bool) :
    r.marked.putBits d k bits = (r.putBits d k bits).marked := by
  have hcut := List.foldl_hom DmaRun.marked (g₁ := fun r e => r.putElem d k e) (g₂ := fun r e => r.putElem d k e)
    (l := (cutBits r.c.dw 20 (Tab.get r.c.out [] k ++ bits)).1) (init := r) fun r x => r.putElem_marked d k x
  exact congrArg (fun z : DmaRun => { z with c := { z.c with out := Tab.set z.c.out [] k (cutBits r.c.dw 20 (Tab.get r.c.out [] k ++ bits)).2 } }) hcut

theorem DmaRun.putScore_marked (r : DmaRun) (d : DmaDest) (k : Nat) (v : Score) : r.marked.putScore d k v = (r.putScore d k v).marked := by
  have hrecord : r.marked.putScore .records k v = (r.putScore .records k v).marked := by
    simp only [DmaRun.putScore]
    rw [apply_ite DmaRun.marked]
    rfl
  have hunits (d : DmaDest) : (if r.marked.c.pack then r.marked.putBits d k (bitsMsb 20 v.toNat)
        else r.marked.putElem d k (expandScore r.marked.c.dw r.marked.c.sign v))
      = (if r.c.pack then r.putBits d k (bitsMsb 20 v.toNat) else r.putElem d k (expandScore r.c.dw r.c.sign v)).marked := by
    rw [apply_ite DmaRun.marked, r.putBits_marked, r.putElem_marked]
    rfl
  cases d
  · exact hunits .sram
  · exact hunits .byteQueue
  · exact hrecord

/-- One selected score of a record that was cut off passes on, where it has come. -/
def DmaRun.passSelected (d : DmaDest) (rest : List Score) (r : DmaRun) (i : Nat) : DmaRun :=
  match rest[r.c.sel.getD i 0]? with
  | some v => r.putScore d (if r.c.shuf = 2 then i else 0) v
  | none => r

theorem DmaRun.passSelected_marked (d : DmaDest) (rest : List Score) (r : DmaRun) (i : Nat) :
    r.marked.passSelected d rest i = (r.passSelected d rest i).marked := by
  have hsel : r.marked.c.sel = r.c.sel := rfl
  unfold DmaRun.passSelected
  rw [hsel]
  split
  · exact r.putScore_marked d _ _
  · rfl

/-- What waits of a record is taken out of the channel. -/
def DmaRun.withoutRecord (r : DmaRun) : DmaRun := { r with c := { r.c with inBits := [], rec_ := [] } }

theorem DmaRun.flushRecord_eq (r : DmaRun) (d : DmaDest) :
    r.flushRecord d = (List.range r.c.sel.length).foldl (DmaRun.passSelected d (r.c.rec_ ++ r.c.tail)) r.withoutRecord := rfl

theorem DmaRun.flushRecord_marked (r : DmaRun) (d : DmaDest) : r.marked.flushRecord d = (r.flushRecord d).marked :=
  List.foldl_hom DmaRun.marked (g₁ := DmaRun.passSelected d (r.c.rec_ ++ r.c.tail)) (init := r.withoutRecord)
    fun x i => DmaRun.passSelected_marked d _ x i

/-- The bits that wait in a stream or plane are written as one last element. -/
def DmaRun.putRest (d : DmaDest) (r : DmaRun) (k : Nat) : DmaRun :=
  r.putElem d k (bitsNat (Tab.get r.c.out [] k ++ List.replicate (r.c.dw - (Tab.get r.c.out [] k).length) false))

/-- What the source has formed passes on at the end. -/
def DmaRun.flushSource (r : DmaRun) (d : DmaDest) : DmaRun :=
  if r.c.shuf = 0 then r.c.tail.foldl (fun r v => r.putScore d 0 v) { r with c := { r.c with inBits := [] } }
  else if r.ended then r else r.flushRecord d

/-- The last record is padded. -/
def DmaRun.padRecord (r : DmaRun) : DmaRun :=
  if r.c.fill.isEmpty then r else { r with recs := r.recs ++ [r.c.fill ++ List.replicate (4 - r.c.fill.length) 0] }

theorem DmaRun.flush_eq (r : DmaRun) (d : DmaDest) :
    r.flush d = ((r.flushSource d).c.out.keys.foldl (DmaRun.putRest d) (r.flushSource d)).padRecord := rfl

theorem DmaRun.flushSource_marked (r : DmaRun) (d : DmaDest) : r.marked.flushSource d = (r.flushSource d).marked := by
  have hscores := List.foldl_hom DmaRun.marked (g₁ := fun r v => r.putScore d 0 v) (g₂ := fun r v => r.putScore d 0 v) (l := r.c.tail)
    (init := { r with c := { r.c with inBits := [] } }) fun x v => x.putScore_marked d 0 v
  unfold DmaRun.flushSource
  rw [apply_ite DmaRun.marked, apply_ite DmaRun.marked, ← hscores, ← r.flushRecord_marked]
  rfl

/-- A STOP that waits changes nothing of what a flush writes. -/
theorem DmaRun.flush_marked (r : DmaRun) (d : DmaDest) : r.marked.flush d = (r.flush d).marked := by
  have hrest := List.foldl_hom DmaRun.marked (g₁ := DmaRun.putRest d) (g₂ := DmaRun.putRest d) (l := (r.flushSource d).c.out.keys)
    (init := r.flushSource d) fun x k => x.putElem_marked d k _
  rw [DmaRun.flush_eq, DmaRun.flush_eq, r.flushSource_marked, show (r.flushSource d).marked.c.out = (r.flushSource d).c.out from rfl, hrest]
  unfold DmaRun.padRecord
  rw [apply_ite DmaRun.marked]
  rfl

theorem State.dmaFits_marked (s : State) (r : DmaRun) : s.dmaFits r.marked = s.dmaFits r := rfl

theorem DmaChan.stopsNow_marked {c : DmaChan} (h : c.skind ≠ 2 ∨ c.held = []) : c.marked.stopsNow = true := by
  have hkind : c.marked.skind = c.skind := rfl
  have hheld : c.marked.held = c.held := rfl
  simp only [DmaChan.stopsNow, hkind, hheld, Bool.and_eq_true, Bool.or_eq_true, decide_eq_true_eq, List.isEmpty_iff]
  exact ⟨rfl, h⟩

/-- A channel that may stop and has room for what it still has to write does not wait. -/
theorem State.dmaWaits_marked {s : State} {c : DmaChan} (h : c.skind ≠ 2 ∨ c.held = [])
    (hfits : s.dmaFits ((DmaRun.mk c [] [] [] false none).flush (s.dmaDest c)) = true) : s.dmaWaits c.marked = false := by
  have hflush : (DmaRun.mk c.marked [] [] [] false none).flush (s.dmaDest c) = ((DmaRun.mk c [] [] [] false none).flush (s.dmaDest c)).marked :=
    DmaRun.flush_marked (DmaRun.mk c [] [] [] false none) _
  have hdest : s.dmaDest c.marked = s.dmaDest c := rfl
  simp only [State.dmaWaits, DmaChan.stopsNow_marked h, if_true, hdest, hflush, State.dmaFits_marked, hfits, Bool.not_true]

/-! ### The end of a transfer -/

/-- The keys of a channel's status fields differ. -/
theorem dmaStatus_keys (ch : Nat) :
    (Reg.DM_CH_STAT_ERR ch).key ≠ (Reg.DM_CH_STAT_DONE ch).key ∧ (Reg.DM_CH_STAT_ERR ch).key ≠ (Reg.DM_CH_DONE_CNT_COUNT ch).key
      ∧ (Reg.DM_CH_STAT_DONE ch).key ≠ (Reg.DM_CH_DONE_CNT_COUNT ch).key := by
  simp only [Fld.key, Reg.DM_CH_STAT_ERR, Reg.DM_CH_STAT_DONE, Reg.DM_CH_DONE_CNT_COUNT, Reg.DM_CH_STAT, Reg.DM_CH_DONE_CNT]
  omega

/-- A channel becomes another, or none runs. -/
def State.setDmaChan (s : State) (ch : Nat) (c : Option DmaChan) : State :=
  { s with dm := { s.dm with chans := Tab.set s.dm.chans none ch c } }

theorem State.setDmaChan_untouched (s : State) (ch : Nat) (c : Option DmaChan) : Untouched [.delivery] s (s.setDmaChan ch c) := by
  intro g hg
  cases g <;> simp [Group.same, State.setDmaChan] at hg ⊢

/-- The end of a transfer in its status: ERR and DONE. -/
def State.showDmaEnd (s : State) (ch err : Nat) : State := (s.setH (Reg.DM_CH_STAT_ERR ch) err).flag (Reg.DM_CH_STAT_DONE ch) true

/-- A transfer without error counts. -/
def State.countDmaEnd (s : State) (ch err : Nat) : State := if err = 0 then s.inc (Reg.DM_CH_DONE_CNT_COUNT ch) else s

theorem State.dmaEnd_eq (s : State) (ch err : Nat) :
    s.dmaEnd ch err = (((s.setDmaChan ch none).showDmaEnd ch err).countDmaEnd ch err).raise (if 1 ≤ err ∧ err ≤ 4 then .dmaRefused ch else .dmaDone ch) ch err :=
  rfl

theorem State.countDmaEnd_cases (s : State) (ch err : Nat) :
    s.countDmaEnd ch err = s.inc (Reg.DM_CH_DONE_CNT_COUNT ch) ∨ s.countDmaEnd ch err = s := by
  unfold State.countDmaEnd
  split
  · exact .inl rfl
  · exact .inr rfl

theorem State.countDmaEnd_dm (s : State) (ch err : Nat) : (s.countDmaEnd ch err).dm = s.dm ∧ (s.countDmaEnd ch err).ev = s.ev := by
  obtain h | h := s.countDmaEnd_cases ch err <;> rw [h] <;> exact ⟨rfl, rfl⟩

/-- A channel goes idle with an ERR code: its status, and nothing else of the delivery. -/
theorem State.dmaEnd_spec (s : State) (ch err : Nat) :
    Tab.get (s.dmaEnd ch err).dm.chans none ch = none ∧ (s.dmaEnd ch err).h (Reg.DM_CH_STAT_DONE ch) = 1
      ∧ (s.dmaEnd ch err).h (Reg.DM_CH_STAT_ERR ch) = min err (Reg.DM_CH_STAT_ERR ch).top
      ∧ (s.dmaEnd ch err).dm.queues = s.dm.queues := by
  obtain ⟨herrDone, herrCount, hdoneCount⟩ := dmaStatus_keys ch
  have hdm : (s.dmaEnd ch err).dm = (s.setDmaChan ch none).dm := (State.countDmaEnd_dm _ ch err).1
  have hshown : ∀ f : Fld, f.key ≠ (Reg.DM_CH_DONE_CNT_COUNT ch).key → (s.dmaEnd ch err).h f = ((s.setDmaChan ch none).showDmaEnd ch err).h f := by
    intro f hf
    rw [State.dmaEnd_eq, State.h_raise]
    obtain h | h := ((s.setDmaChan ch none).showDmaEnd ch err).countDmaEnd_cases ch err
    · rw [h, State.h_inc_ne _ _ _ hf]
    · rw [h]
  refine ⟨?_, ?_, ?_, by rw [hdm]; rfl⟩
  · rw [hdm]
    exact Tab.get_set_same _ _ _ _
  · rw [hshown _ hdoneCount, State.showDmaEnd, State.h_flag_same]
    rfl
  · rw [hshown _ herrCount, State.showDmaEnd, State.h_flag_ne _ _ _ _ herrDone, State.h_setH_same]

theorem State.dmaEnd_reports (s : State) (ch err : Nat) :
    ∃ r, (s.dmaEnd ch err).ev.inbox = s.ev.inbox ++ [r] ∧ r.e10 = ch % 2 ^ 20 := by
  obtain ⟨-, hev⟩ := ((s.setDmaChan ch none).showDmaEnd ch err).countDmaEnd_dm ch err
  exact ⟨_, congrArg (fun v : Events => v.inbox ++ [_]) hev, rfl⟩

theorem State.dmaEnd_untouched (s : State) (ch err : Nat) : Untouched [.fields, .delivery, .events] s (s.dmaEnd ch err) := by
  have hshow : Untouched [.fields, .delivery, .events] s ((s.setDmaChan ch none).showDmaEnd ch err) :=
    ((s.setDmaChan_untouched ch none).mono.trans (State.setH_untouched _ _ _).mono).trans (State.flag_untouched _ _ _).mono
  have hcount (x : State) : Untouched [.fields, .delivery, .events] x (x.countDmaEnd ch err) := by
    obtain h | h := x.countDmaEnd_cases ch err <;> rw [h]
    · exact (State.inc_untouched _ _).mono
    · exact Untouched.refl _ _
  exact (hshow.trans (hcount _)).trans (State.raise_untouched _ _ _ _).mono

/-! ### DMA_START and DMA_STOP -/

theorem dmaStart_running (t : Nat) (c : DmaCh) (r : DmaChan) (s : State) (hr : s.phase = .ready) (hc : Tab.get s.dm.chans none c = some r) :
    Yields (.dmaStart t c) s fun x => x.h (Reg.DM_CH_STAT_START_IGN c) = 1 ∧ OnlyFields [Reg.DM_CH_STAT_START_IGN c] s x ∧ Frame t [.fields] s x := by
  have hrun : (s.clock t).dmaStart c = (s.clock t).flag (Reg.DM_CH_STAT_START_IGN c) true := by
    unfold State.dmaStart
    exact if_pos (by rw [show (s.clock t).dm = s.dm from rfl, hc]; rfl)
  refine Yields.of_run (execDmaStart t c) hr rfl rfl ?_
  rw [hrun]
  refine ⟨(State.h_flag_same _ _ _).trans rfl, OnlyFields.flag (List.mem_singleton.mpr rfl) _ _, Frame.of_untouched (State.flag_untouched _ _ _)⟩

/-- The status of a channel as START leaves it. -/
def State.clearDmaStatus (s : State) (ch : Nat) : State :=
  ((s.flag (Reg.DM_CH_STAT_DONE ch) false).setH (Reg.DM_CH_STAT_ERR ch) 0).setH (Reg.DM_CH_LEFT_LEFT ch) (s.dmaFields ch).count

theorem State.clearDmaStatus_untouched (s : State) (ch : Nat) : Untouched [.fields] s (s.clearDmaStatus ch) :=
  ((State.flag_untouched _ _ _).trans (State.setH_untouched _ _ _)).trans (State.setH_untouched _ _ _)

/-- The channel as START runs it, which the copy's direction completes. -/
def State.dmaRunning (s : State) (ch : Nat) : DmaChan :=
  let c := s.dmaFields ch
  let d := s.dmaDest c
  { c with back := c.plainSram d && decide (c.src < c.dst) && rangesMeet c.sourceRange ((c.destRanges d).headD (0, 0)) }

theorem State.dmaStart_runs {s : State} {ch : Nat} (hidle : Tab.get s.dm.chans none ch = none) (hcheck : s.dmaCheck (s.dmaFields ch) = 0)
    (hcount : (s.dmaFields ch).count ≠ 0) : s.dmaStart ch = (s.clearDmaStatus ch).setDmaChan ch (some (s.dmaRunning ch)) := by
  have hcheck' : (s.clearDmaStatus ch).dmaCheck (s.dmaFields ch) = 0 := hcheck
  unfold State.dmaStart
  rw [hidle, if_neg (by simp)]
  show (match (s.clearDmaStatus ch).dmaCheck (s.dmaFields ch) with | 0 => _ | e => _) = _
  rw [hcheck']
  exact if_neg hcount

theorem State.dmaStart_ends {s : State} {ch : Nat} (hidle : Tab.get s.dm.chans none ch = none)
    (hrefused : s.dmaCheck (s.dmaFields ch) ≠ 0 ∨ (s.dmaFields ch).count = 0) :
    s.dmaStart ch = (s.clearDmaStatus ch).dmaEnd ch (s.dmaCheck (s.dmaFields ch)) := by
  have hcheck : (s.clearDmaStatus ch).dmaCheck (s.dmaFields ch) = s.dmaCheck (s.dmaFields ch) := rfl
  unfold State.dmaStart
  rw [hidle, if_neg (by simp)]
  show (match (s.clearDmaStatus ch).dmaCheck (s.dmaFields ch) with | 0 => _ | e => _) = _
  rw [hcheck]
  cases he : s.dmaCheck (s.dmaFields ch) with
  | zero => exact if_pos (hrefused.resolve_left fun h => h he)
  | succ e => rfl

theorem dmaStart_idle (t : Nat) (c : DmaCh) (s : State) (hr : s.phase = .ready) (hidle : Tab.get s.dm.chans none c = none)
    (hcheck : s.dmaCheck (s.dmaFields c) = 0) (hcount : (s.dmaFields c).count ≠ 0) : Yields (.dmaStart t c) s fun x =>
      (∃ b, Tab.get x.dm.chans none c = some { s.dmaFields c with back := b }) ∧ x.dm.sram = s.dm.sram ∧ x.dm.queues = s.dm.queues
        ∧ (∀ k, k ≠ c.val → Tab.get x.dm.chans none k = Tab.get s.dm.chans none k) ∧ Frame t [.fields, .delivery] s x := by
  have hrun : (s.clock t).dmaStart c = ((s.clock t).clearDmaStatus c).setDmaChan c (some ((s.clock t).dmaRunning c)) :=
    State.dmaStart_runs hidle hcheck hcount
  refine Yields.of_run (execDmaStart t c) hr rfl rfl ?_
  rw [hrun]
  refine ⟨⟨_, Tab.get_set_same _ _ _ _⟩, rfl, rfl, fun k hk => Tab.get_set_ne _ _ _ _ hk, Frame.of_untouched ?_⟩
  exact (State.clearDmaStatus_untouched _ _).mono.trans (State.setDmaChan_untouched _ _ _).mono

theorem dmaStart_refused (t : Nat) (c : DmaCh) (s : State) (hr : s.phase = .ready) (hidle : Tab.get s.dm.chans none c = none)
    (hrefused : s.dmaCheck (s.dmaFields c) ≠ 0 ∨ (s.dmaFields c).count = 0) : Yields (.dmaStart t c) s fun x =>
      Tab.get x.dm.chans none c = none ∧ x.h (Reg.DM_CH_STAT_DONE c) = 1
        ∧ x.h (Reg.DM_CH_STAT_ERR c) = min (s.dmaCheck (s.dmaFields c)) (Reg.DM_CH_STAT_ERR c).top
        ∧ (∃ r, x.ev.inbox = s.ev.inbox ++ [r] ∧ r.e10 = c.val) ∧ x.dm.queues = s.dm.queues ∧ Frame t [.fields, .delivery, .events] s x := by
  have hrun : (s.clock t).dmaStart c = ((s.clock t).clearDmaStatus c).dmaEnd c (s.dmaCheck (s.dmaFields c)) := State.dmaStart_ends hidle hrefused
  obtain ⟨hchan, hdone, herr, hqueues⟩ := ((s.clock t).clearDmaStatus c).dmaEnd_spec c (s.dmaCheck (s.dmaFields c))
  obtain ⟨r, hinbox, he10⟩ := ((s.clock t).clearDmaStatus c).dmaEnd_reports c (s.dmaCheck (s.dmaFields c))
  refine Yields.of_run (execDmaStart t c) hr rfl rfl ?_
  rw [hrun]
  refine ⟨hchan, hdone, herr, ⟨r, hinbox, he10.trans (Nat.mod_eq_of_lt (by omega))⟩, hqueues, Frame.of_untouched ?_⟩
  exact (State.clearDmaStatus_untouched _ _).mono.trans (State.dmaEnd_untouched _ _ _)

/-- A STOP that finds the channel free to stop and room at its destination ends the transfer with ERR 5. -/
theorem State.dmaStop_ends {s : State} {ch : Nat} {r : DmaChan} (hc : Tab.get s.dm.chans none ch = some r) (h : r.skind ≠ 2 ∨ r.held = [])
    (hfits : s.dmaFits ((DmaRun.mk r [] [] [] false none).flush (s.dmaDest r)) = true) :
    s.dmaStop ch = s.dmaFinish ch { c := r.marked } 5 := by
  have hwaits := State.dmaWaits_marked h hfits
  have hstops := DmaChan.stopsNow_marked h
  unfold State.dmaStop
  rw [hc]
  exact if_pos (by rw [show ({ r with stopping := true } : DmaChan) = r.marked from rfl, hstops, hwaits]; rfl)

/-! ### What a transfer's end hands on -/

/-- The parts of the state that a transfer hands its bytes and records to. -/
def State.Delivers (s x : State) : Prop := Untouched [.fields, .delivery, .sram, .tx, .link] s x

theorem State.sendFull_delivers (s : State) (q n : Nat) (l : List (BitVec 8)) : s.Delivers (s.sendFull q n l).1 := by
  induction n generalizing s l with
  | zero => exact Untouched.refl _ _
  | succ n ih =>
    have hsend : s.Delivers (s.sendBytes q (l.take 1468) false) := by
      intro g hg
      cases g <;> simp [Group.same] at hg ⊢
    unfold State.sendFull
    split
    · exact Untouched.trans hsend (ih _ _)
    · exact Untouched.refl _ _

theorem State.setDmQueue_delivers (s : State) (q : Nat) (x : DmQueue) : s.Delivers (s.setDmQueue q x) := by
  intro g hg
  cases g <;> simp [Group.same, State.setDmQueue] at hg ⊢

theorem State.dmPeak_delivers (s : State) (q : Nat) : s.Delivers (s.dmPeak q) := (State.setH_untouched _ _ _).mono

theorem State.subDrop_delivers (s : State) (n : Nat) : s.Delivers (s.subDrop n) := by
  intro g hg
  cases g <;> simp [Group.same] at hg ⊢

theorem State.putBytes_delivers (s : State) (q ch : Nat) (bytes : List (BitVec 8)) : s.Delivers (s.putBytes q ch bytes) := by
  have hdisc : s.Delivers (s.discBytes q bytes.length) := by
    intro g hg
    cases g <;> simp [Group.same] at hg ⊢
  unfold State.putBytes
  split
  · exact Untouched.refl _ _
  · split
    · exact hdisc
    · exact Untouched.trans (Untouched.trans (s.sendFull_delivers _ _ _) (State.setDmQueue_delivers _ _ _)) (State.dmPeak_delivers _ _)

theorem State.lastBytes_delivers (s : State) (q ch : Nat) : s.Delivers (s.lastBytes q ch) := by
  intro g hg
  cases g <;> simp [Group.same] at hg ⊢

theorem State.streamOut_delivers (q : Nat) (u : Sub) (n : Nat) (s : State) : s.Delivers (State.streamOut q u n s) := by
  induction n generalizing s with
  | zero => exact Untouched.refl _ _
  | succ n ih =>
    have hsend : s.Delivers (s.sendPoints q u) := by
      intro g hg
      cases g <;> simp [Group.same] at hg ⊢
    unfold State.streamOut
    split
    · exact Untouched.trans hsend (ih _)
    · exact Untouched.refl _ _

theorem State.dmPut_delivers (s : State) (q : Nat) (rec : List Score) (mark : Bool) : s.Delivers (s.dmPut q rec mark) := by
  have hput (s : State) (x : DmQueue) : s.Delivers ((s.setDmQueue q x).dmPeak q) :=
    Untouched.trans (State.setDmQueue_delivers _ _ _) (State.dmPeak_delivers _ _)
  unfold State.dmPut
  dsimp only
  split
  · exact hput s _
  · split
    · exact (State.inc_untouched _ _).mono
    · split
      · exact s.subDrop_delivers _
      · exact Untouched.trans (Untouched.trans (s.subDrop_delivers _) (hput _ _))
          (Untouched.foldl _ (fun s u => State.streamOut_delivers q u _ s) _ _)

theorem State.dmaCommit_delivers (s : State) (ch : Nat) (r : DmaRun) : s.Delivers (s.dmaCommit ch r) := by
  let written : State := { s with dm := { s.dm with
    sram := r.sram.foldl (fun m x => Tab.set m 0 x.1 x.2) s.dm.sram, chans := Tab.set s.dm.chans none ch (some r.c) } }
  have hwritten : s.Delivers written := by
    intro g hg
    cases g <;> simp [Group.same, written] at hg ⊢
  have hrecs := Untouched.foldl (fun s x => s.dmPut (r.c.dst % 16) x false) (fun s x => s.dmPut_delivers _ x false) r.recs
    (written.putBytes (r.c.dst % 16) ch r.bytes)
  exact Untouched.trans (Untouched.trans (Untouched.trans hwritten (State.putBytes_delivers _ _ _ _)) hrecs) (State.setH_untouched _ _ _).mono

/-- A transfer as it stands before its status is shown: all is written, the last datagram has left, and a MARK's frame is shown. -/
def State.dmaWritten (s : State) (ch : Nat) (r : DmaRun) : State :=
  let d := s.dmaDest r.c
  let s := s.dmaCommit ch (r.flush d)
  let s := if d = .byteQueue then s.lastBytes (r.c.dst % 16) ch else s
  match r.mark with | some f => s.setH (Reg.DM_CH_MARK_FRAME ch) f | none => s

theorem State.dmaFinish_eq (s : State) (ch : Nat) (r : DmaRun) (err : Nat) : s.dmaFinish ch r err = (s.dmaWritten ch r).dmaEnd ch err := rfl

theorem State.dmaWritten_delivers (s : State) (ch : Nat) (r : DmaRun) : s.Delivers (s.dmaWritten ch r) := by
  have hmark (x : State) : x.Delivers (match r.mark with | some f => x.setH (Reg.DM_CH_MARK_FRAME ch) f | none => x) := by
    split
    · exact (State.setH_untouched _ _ _).mono
    · exact Untouched.refl _ _
  have hlast (x : State) : x.Delivers (if s.dmaDest r.c = .byteQueue then x.lastBytes (r.c.dst % 16) ch else x) := by
    split
    · exact x.lastBytes_delivers _ _
    · exact Untouched.refl _ _
  exact Untouched.trans (Untouched.trans (s.dmaCommit_delivers ch _) (hlast _)) (hmark _)

theorem dmaStop_yields (t : Nat) (c : DmaCh) (r : DmaChan) (s : State) (hr : s.phase = .ready) (hc : Tab.get s.dm.chans none c = some r)
    (h : r.skind ≠ 2 ∨ r.held = []) (hfits : (s.clock t).dmaFits ((DmaRun.mk r [] [] [] false none).flush (s.dmaDest r)) = true) :
    Yields (.dmaStop t c) s fun x => Tab.get x.dm.chans none c = none ∧ x.h (Reg.DM_CH_STAT_DONE c) = 1 ∧ x.h (Reg.DM_CH_STAT_ERR c) = 5
      ∧ x.fd = s.fd ∧ x.sq = s.sq := by
  have hrun : (s.clock t).dmaStop c = ((s.clock t).dmaWritten c { c := r.marked }).dmaEnd c 5 := State.dmaStop_ends hc h hfits
  obtain ⟨hchan, hdone, herr, -⟩ := ((s.clock t).dmaWritten c { c := r.marked }).dmaEnd_spec c 5
  have hrest : Untouched [.fields, .delivery, .sram, .tx, .link, .events] (s.clock t) (((s.clock t).dmaWritten c { c := r.marked }).dmaEnd c 5) :=
    (Untouched.mono ((s.clock t).dmaWritten_delivers c _)).trans (State.dmaEnd_untouched _ _ _).mono
  refine Yields.of_run (execDmaStop t c) hr rfl rfl ?_
  rw [hrun]
  exact ⟨hchan, hdone, herr, hrest.fd (by decide) (by decide), hrest .shepherd (by decide)⟩

end Sys2Proof.Machine
end

section
namespace Sys2Proof
open Machine

/-- Settles O26: what a STOP that waits has still to write is what the channel would write without it (DmaRun.flush_marked), so the STOP finds
the room that the statement names. -/
theorem transfersStartAndStop : Obligations.TransfersStartAndStop := by
  unfold Obligations.TransfersStartAndStop
  exact ⟨dmaStart_running, dmaStart_idle, dmaStart_refused, dmaStop_yields⟩

end Sys2Proof
end

section
/-!
SUPPORT. PTP messages, the loss of PTP and the snapshot of node time (R318, R319, R326).
-/

namespace Sys2Proof.Machine

/-- A message whose frame is kept and that the node takes goes on. -/
theorem State.ptpMessage_of_taken {s : State} {m : PtpFrom} (hkept : s.frameKept m.env s.servedPorts = true) (htakes : s.ptpTakes m = true)
    (f : State → State) : s.ptpMessage m f = f s := by
  simp [State.ptpMessage, hkept, htakes]

/-! ### Announce -/

theorem State.setPtp_untouched (s : State) (p : Ptp) : Untouched [.link] s (s.setPtp p) := by
  intro g hg
  cases g <;> simp [Group.same, State.setPtp] at hg ⊢

theorem State.ptpStat_untouched (s : State) : Untouched [.fields] s s.ptpStat := by
  intro g hg
  cases g <;> simp [Group.same] at hg ⊢

theorem ptpAnnounceReceive_yields (t : Nat) (m : PtpFrom) (ann : PtpAnnounce) (s : State) (hr : s.phase = .ready)
    (hkept : s.frameKept m.env s.servedPorts = true) (htakes : s.ptpTakes m = true) :
    Yields (.ptpAnnounceReceive t m ann) s fun x => x.fl.ptp.chosen = bestMaster ((s.clock t).ptpHeard.filter
          (fun z => decide (z.ident ≠ m.sender) || decide (z.lane ≠ m.lane.val)) ++ [{ ann := ann, heardAt := max s.now t, lane := m.lane, ident := m.sender }])
        ∧ x.fl.ptp.locked = s.fl.ptp.locked ∧ Frame t [.fields, .link] s x := by
  refine Yields.of_run (execPtpAnnounceReceive t m ann) hr rfl rfl ?_
  rw [State.ptpMessage_of_taken (s := s.clock t) hkept htakes]
  refine ⟨congrArg (·.ptp.chosen) (State.ptpStat_frame2 _).2.2.2.2.2.2.2, ?_, Frame.of_untouched ?_⟩
  · exact congrArg (·.ptp.locked) (State.ptpStat_frame2 _).2.2.2.2.2.2.2
  · exact (State.setPtp_untouched _ _).mono.trans (State.ptpStat_untouched _).mono

/-! ### Sync -/

/-- The Ethernet framing of a lane rests on the configuration sets, the writes on their way, and which set is active. -/
theorem State.ether_congr {s x : State} (hA : x.regs.setA = s.regs.setA) (hB : x.regs.setB = s.regs.setB) (hwaiting : x.regs.waiting = s.regs.waiting)
    (hstale : x.regs.stale = s.regs.stale) (hactive : x.h Reg.CF_STAT_ACTIVE = s.h Reg.CF_STAT_ACTIVE) (l : Nat) : x.ether l = s.ether l := by
  have hset : x.activeB = s.activeB := congrArg (fun n => decide (n = 1)) hactive
  have hf (g : Fld) : x.f g = s.f g := State.f_congr hA hB hactive g
  have hfu (g : Fld) : x.fu l g = s.fu l g := by
    simp only [State.fu, State.use, State.act, hwaiting, hstale, hset, hA, hB]
  rw [State.ether, State.ether, hf, hf, hf, hfu]

theorem State.h_ptpStat {s : State} {f : Fld} (hstate : f.key ≠ Reg.EP_STAT_PTP_STATE.key) (hlane : f.key ≠ Reg.EP_STAT_PTP_LANE.key) :
    s.ptpStat.h f = s.h f := by
  unfold State.ptpStat
  dsimp only
  split
  · rw [State.h_setH_ne _ _ _ _ hlane, State.h_setH_ne _ _ _ _ hstate]
  · rw [State.h_setH_ne _ _ _ _ hstate]

theorem State.h_ptpPrune_active (s : State) : s.ptpPrune.h Reg.CF_STAT_ACTIVE = s.h Reg.CF_STAT_ACTIVE := by
  unfold State.ptpPrune
  split
  · rfl
  · exact State.h_ptpStat (by decide) (by decide)

/-- The offset that a Sync shows: the difference of node time and its stamp, less the path delay. -/
def State.syncOffset (s : State) (origin : Nat) : Int := ((s.nodeTime : Int) - origin) - s.fl.ptp.delay

def State.lockThreshold (s : State) : Nat := 128 * s.f Reg.EP_PTP_CFG_LOCK_THR

/-- How many offsets in a row lay within the threshold, with a Sync's, and how many far beyond it. -/
def State.goodSyncs (s : State) (origin : Nat) : Nat := if (s.syncOffset origin).natAbs ≤ s.lockThreshold then s.fl.ptp.good + 1 else 0
def State.farSyncs (s : State) (origin : Nat) : Nat := if (s.syncOffset origin).natAbs > 10 * s.lockThreshold then s.fl.ptp.far + 1 else 0

/-- Whether a Sync calls for a step of node time. -/
def State.syncSteps (s : State) (origin : Nat) : Bool := !s.fl.ptp.locked && decide ((s.syncOffset origin).natAbs > lsbMs)

/-- The offset of a Sync is shown. -/
def State.showOffset (s : State) (origin : Nat) : State := s.fresh.setH Reg.EP_PTP_OFS_OFS (satField (roundDiv (s.syncOffset origin) 128))

/-- What PTP keeps of a Sync; `c` is the free value of the slew. -/
def State.ptpOfSync (s : State) (origin c : Nat) : Ptp :=
  { s.fl.ptp with
    good := s.goodSyncs origin, far := s.farSyncs origin, lastSync := s.now, syncDiff := (s.nodeTime : Int) - origin, asked := true
    stepBy := if s.syncSteps origin then some (-(s.syncOffset origin)) else if s.fl.ptp.locked then s.fl.ptp.stepBy else none
    slewPpb := if s.syncSteps origin then 0 else ((Config.ptpSlew c).val : Int) - 50000 }

/-- The Sync of the chosen transmitter is noted, and a Delay_Req answers it. -/
def State.noteSync (s : State) (m : PtpFrom) (origin : Nat) : State :=
  let y := (s.showOffset origin).setPtp (s.ptpOfSync origin (s.freeCtr + 1))
  y.send (.delayReq m.lane m.domain m.udp (y.ether m.lane))

theorem State.ether_showOffset (s : State) (origin : Nat) (p : Ptp) (l : Nat) : ((s.showOffset origin).setPtp p).ether l = s.ether l := by
  have hactive : ((s.showOffset origin).setPtp p).h Reg.CF_STAT_ACTIVE = s.h Reg.CF_STAT_ACTIVE :=
    State.h_setH_ne s.fresh Reg.EP_PTP_OFS_OFS Reg.CF_STAT_ACTIVE _ (by decide)
  exact State.ether_congr (s := s) (x := (s.showOffset origin).setPtp p) rfl rfl rfl rfl hactive l

theorem State.noteSync_tx (s : State) (m : PtpFrom) (origin : Nat) :
    (s.noteSync m origin).tx = s.tx ++ [.delayReq m.lane m.domain m.udp (s.ether m.lane)] := by
  unfold State.noteSync
  dsimp only
  rw [State.ether_showOffset]
  rfl

/-- Lock is lost after four offsets far beyond the threshold, and won after eight within it. -/
def State.judgeSync (s : State) (m : PtpFrom) (origin : Nat) : State :=
  if s.fl.ptp.locked then (if s.farSyncs origin ≥ 4 then (s.noteSync m origin).ptpLost else s.noteSync m origin)
  else if s.goodSyncs origin ≥ 8 then (s.noteSync m origin).ptpLocked else s.noteSync m origin

theorem execPtpSyncReceive_eq (t : Nat) (m : PtpFrom) (origin : Nat) (s : State) :
    execPtpSyncReceive t m origin s = s.run t fun s => s.ptpMessage m fun s =>
      if s.ptpPrune.fl.ptp.chosen.any fun c => decide (c.ident = m.sender) && decide (c.lane = m.lane.val) then s.ptpPrune.judgeSync m origin
      else s.ptpPrune := rfl

/-- What a judgement of lock leaves of the Sync just noted. -/
structure SyncKept (y x : State) : Prop where
  lastSync : x.fl.ptp.lastSync = y.fl.ptp.lastSync
  syncDiff : x.fl.ptp.syncDiff = y.fl.ptp.syncDiff
  asked : x.fl.ptp.asked = y.fl.ptp.asked
  tx : x.tx = y.tx
  nodeOfs : x.nodeOfs = y.nodeOfs
  fd : x.fd = y.fd
  tl : x.tl = y.tl

theorem State.fl_ptpLost (s : State) :
    s.ptpLost.fl = { s.fl with ptp := { s.fl.ptp with locked := false, good := 0, far := 0, stepBy := none } } := by
  simp [State.ptpLost, State.setPtp]

theorem State.fl_ptpLocked (s : State) : s.ptpLocked.fl = { s.fl with ptp := { s.fl.ptp with locked := true } } := by
  unfold State.ptpLocked
  dsimp only
  split <;> simp [State.setPtp]

theorem State.judgeSync_kept (s : State) (m : PtpFrom) (origin : Nat) : SyncKept (s.noteSync m origin) (s.judgeSync m origin) := by
  have hsame (y : State) : SyncKept y y := ⟨rfl, rfl, rfl, rfl, rfl, rfl, rfl⟩
  have hlost (y : State) : SyncKept y y.ptpLost := by constructor <;> simp [State.fl_ptpLost]
  have hlocked (y : State) : SyncKept y y.ptpLocked := by constructor <;> simp [State.fl_ptpLocked]
  unfold State.judgeSync
  split
  · split
    · exact hlost _
    · exact hsame _
  · split
    · exact hlocked _
    · exact hsame _

theorem ptpSyncReceive_yields (t : Nat) (m : PtpFrom) (n : Nat) (s : State) (hr : s.phase = .ready)
    (hkept : s.frameKept m.env s.servedPorts = true) (htakes : s.ptpTakes m = true)
    (hchosen : ((s.clock t).ptpPrune.fl.ptp.chosen.any fun c => decide (c.ident = m.sender) && decide (c.lane = m.lane.val)) = true) :
    Yields (.ptpSyncReceive t m n) s fun x =>
      x.fl.ptp.lastSync = max s.now t ∧ x.fl.ptp.syncDiff = ((s.clock t).nodeTime : Int) - n ∧ x.fl.ptp.asked = true
        ∧ .delayReq m.lane m.domain m.udp (s.ether m.lane) ∈ x.tx ∧ x.nodeOfs = s.nodeOfs ∧ x.fd = s.fd ∧ x.tl = s.tl := by
  refine Yields.of_run (execPtpSyncReceive t m n) hr rfl (execPtpSyncReceive_eq t m n s) ?_
  rw [State.ptpMessage_of_taken (s := s.clock t) hkept htakes, if_pos hchosen]
  have hnow : (s.clock t).ptpPrune.now = max s.now t := by simp
  have htime : (s.clock t).ptpPrune.nodeTime = (s.clock t).nodeTime := by simp [State.nodeTime]
  have hether : (s.clock t).ptpPrune.ether m.lane = s.ether m.lane :=
    State.ether_congr (by simp) (by simp) (by simp) (by simp) (State.h_ptpPrune_active _) _
  have hofs : (s.clock t).ptpPrune.nodeOfs = s.nodeOfs := by simp
  have hfd : (s.clock t).ptpPrune.fd = s.fd := by simp
  have htl : (s.clock t).ptpPrune.tl = s.tl := by simp
  generalize (s.clock t).ptpPrune = y at *
  have hjudged := y.judgeSync_kept m n
  have hsent : Tx.delayReq m.lane m.domain m.udp (s.ether m.lane) ∈ (y.noteSync m n).tx := by
    rw [State.noteSync_tx, hether]
    exact List.mem_append_right _ (List.mem_singleton.mpr rfl)
  exact ⟨hjudged.lastSync.trans hnow, hjudged.syncDiff.trans (congrArg (fun z : Nat => (z : Int) - n) htime), hjudged.asked,
    hjudged.tx ▸ hsent, hjudged.nodeOfs.trans hofs, hjudged.fd.trans hfd, hjudged.tl.trans htl⟩

/-! ### Delay responses, the loss of PTP, node time -/

theorem ptpDelayRespReceive_yields (t : Nat) (m : PtpFrom) (a b : Nat) (s : State) (hr : s.phase = .ready)
    (hkept : s.frameKept m.env s.servedPorts = true) (htakes : s.ptpTakes m = true) (hasked : s.fl.ptp.asked = true)
    (hchosen : (s.fl.ptp.chosen.any fun c => decide (c.ident = m.sender) && decide (c.lane = m.lane.val)) = true) :
    Yields (.ptpDelayRespReceive t m a b) s fun x =>
      x.fl = { s.fl with ptp := { s.fl.ptp with asked := false, delay := roundDiv (s.fl.ptp.syncDiff + ((b : Int) - a)) 2 } } ∧ Frame t [.link] s x := by
  have hanswers : (s.fl.ptp.asked && s.fl.ptp.chosen.any fun c => decide (c.ident = m.sender) && decide (c.lane = m.lane.val)) = true := by
    rw [hasked, hchosen]
    rfl
  refine Yields.of_run (execPtpDelayRespReceive t m a b) hr rfl rfl ?_
  rw [State.ptpMessage_of_taken (s := s.clock t) hkept htakes]
  refine (if_pos hanswers).symm ▸ ⟨rfl, Frame.of_untouched (State.setPtp_untouched _ _)⟩

theorem State.planLocal_untouched (s : State) : Untouched [.fields, .shepherd, .events] s s.planLocal := by
  intro g hg
  cases g <;> simp [Group.same] at hg ⊢

theorem State.h_planLocal_state (s : State) : s.planLocal.h Reg.SQ_PLAN_STAT_STATE = 0 := by
  unfold State.planLocal
  split
  · assumption
  · exact (State.h_setH_same _ _ _).trans (Nat.zero_min _)

/-- PTP is lost with the time transmitter chosen till now, which is heard no more. -/
def State.dropMaster (s : State) : State :=
  s.setPtp { s.fl.ptp with chosen := none, masters := s.fl.ptp.masters.filter fun x => decide (some x ≠ s.fl.ptp.chosen) }

theorem ptpSyncTimeout_yields (t : Nat) (s : State) (hr : s.phase = .ready) (hdue : s.fl.ptp.lastSync + 3 * lsbS ≤ max s.now t)
    (hlocked : s.fl.ptp.locked = true) : Yields (.ptpSyncTimeout t) s fun x =>
      x.fl.ptp.locked = false ∧ x.fl.ptp.chosen = none ∧ x.h Reg.SQ_PLAN_STAT_STATE = 0 ∧ Frame t [.fields, .link, .shepherd, .events] s x := by
  have hrun : (if (s.clock t).fl.ptp.lastSync + 3 * lsbS ≤ (s.clock t).now ∧ ((s.clock t).fl.ptp.locked = true ∨ (s.clock t).fl.ptp.chosen.isSome = true)
      then (s.clock t).dropMaster.ptpLost else s.clock t) = (s.clock t).dropMaster.ptpLost := if_pos ⟨hdue, .inl hlocked⟩
  have hlost : Untouched [.fields, .link, .shepherd, .events] (s.clock t) (s.clock t).dropMaster.ptpLost :=
    (((State.setPtp_untouched _ _).mono.trans (State.setPtp_untouched _ _).mono).trans (State.ptpStat_untouched _).mono).trans
      (State.planLocal_untouched _).mono
  have hfl := (s.clock t).dropMaster.fl_ptpLost
  refine Yields.of_run (execPtpSyncTimeout t) hr rfl rfl ?_
  refine hrun.symm ▸ ⟨congrArg (·.ptp.locked) hfl, congrArg (·.ptp.chosen) hfl, State.h_planLocal_state _, Frame.of_untouched hlost⟩

/-- The fields of node time differ. -/
theorem epTime_keys :
    Reg.EP_TIME_SEC_SEC.key ≠ Reg.EP_TIME_NS_H_NS.key ∧ Reg.EP_TIME_SEC_SEC.key ≠ Reg.EP_TIME_NS_L_NS.key
      ∧ Reg.EP_TIME_NS_H_NS.key ≠ Reg.EP_TIME_NS_L_NS.key := by decide

theorem State.epTimeRead_spec (s : State) :
    s.epTimeRead.h Reg.EP_TIME_SEC_SEC = s.nodeTime / lsbS % 2 ^ 20
      ∧ s.epTimeRead.h Reg.EP_TIME_NS_H_NS * 2 ^ 20 + s.epTimeRead.h Reg.EP_TIME_NS_L_NS = s.nodeTime % lsbS / 128 := by
  obtain ⟨hsecH, hsecL, hHL⟩ := epTime_keys
  have htops : Reg.EP_TIME_SEC_SEC.top = 2 ^ 20 - 1 ∧ Reg.EP_TIME_NS_H_NS.top = 2 ^ 10 - 1 ∧ Reg.EP_TIME_NS_L_NS.top = 2 ^ 20 - 1 := by decide
  obtain ⟨htopS, htopH, htopL⟩ := htops
  have hns : s.nodeTime % lsbS / 128 < 2 ^ 30 := by
    have hlt : s.nodeTime % lsbS < lsbS := Nat.mod_lt _ (by decide)
    rw [lsbS] at hlt ⊢
    omega
  unfold State.epTimeRead
  dsimp only
  rw [State.h_setH_ne _ _ _ _ hsecL, State.h_setH_ne _ _ _ _ hsecH, State.h_setH_same, State.h_setH_ne _ _ _ _ hHL, State.h_setH_same,
    State.h_setH_same, htopS, htopH, htopL]
  omega

theorem epTimeRead_yields (t : Nat) (s : State) (hr : s.phase = .ready) : Yields (.epTimeRead t) s fun x =>
    x.h Reg.EP_TIME_SEC_SEC = (s.clock t).nodeTime / lsbS % 2 ^ 20
      ∧ x.h Reg.EP_TIME_NS_H_NS * 2 ^ 20 + x.h Reg.EP_TIME_NS_L_NS = (s.clock t).nodeTime % lsbS / 128
      ∧ OnlyFields [Reg.EP_TIME_SEC_SEC, Reg.EP_TIME_NS_H_NS, Reg.EP_TIME_NS_L_NS] s x ∧ Frame t [.fields] s x := by
  obtain ⟨hsec, hns⟩ := (s.clock t).epTimeRead_spec
  refine Yields.of_run (execEpTimeRead t) hr rfl rfl ⟨hsec, hns, ?_, Frame.of_untouched ?_⟩
  · exact ((OnlyFields.setH (by simp) (s.clock t) _).then_setH (by simp) _).then_setH (by simp) _
  · exact ((State.setH_untouched _ _ _).trans (State.setH_untouched _ _ _)).trans (State.setH_untouched _ _ _)

end Sys2Proof.Machine
end

section
namespace Sys2Proof
open Machine

/-- Settles O44: winning or losing lock keeps what the Sync just noted (State.judgeSync_kept). -/
theorem nodeTimeFollowsPtp : Obligations.NodeTimeFollowsPtp := by
  unfold Obligations.NodeTimeFollowsPtp
  exact ⟨ptpAnnounceReceive_yields, ptpSyncReceive_yields, ptpDelayRespReceive_yields, ptpSyncTimeout_yields, epTimeRead_yields⟩

end Sys2Proof
end

section
/-!
SUPPORT. CAPS and HELLO, and packets that do not stand (R299 to R306).
-/

namespace Sys2Proof.Machine

/-! ### CAPS -/

/-- The body of this node's CAPS on a link: every version, the lane group's profile, the identity. -/
def State.capsBody (s : State) (b : Nat) : List Score :=
  [BitVec.ofNat 20 (7 * 2 ^ 17 + laneProfile b * 2 ^ 15), BitVec.ofNat 20 (s.ident / 2 ^ 20), BitVec.ofNat 20 s.ident]

/-- The link when its CAPS has been put at an instant. -/
def Link.noteCaps (k : Link) (now : Nat) : Link := { k with capsAt := some now }

/-- The exchange is complete where the partner's CAPS has come. -/
def Link.concludeCaps (k : Link) (got : Bool) : Link := if got then { k with capsDone := true } else k

/-- A link's CAPS joins those that wait. -/
def State.sendCaps (s : State) (b : Nat) : State := (s.setLink b ((s.link b).noteCaps s.now)).sendLink b 1 (s.capsBody b)

def State.concludeCaps (s : State) (b : Nat) (got : Bool) : State := if got then s.setLink b ((s.link b).concludeCaps true) else s

theorem execCapsSend_eq (t : Nat) (l : Lane) (s : State) :
    execCapsSend t l s = s.run t fun s =>
      if (s.link (s.linkOf l).1).up && !(s.link (s.linkOf l).1).capsDone && s.laneMode (s.linkOf l).1 == 0
          && dueAgain s.now (s.link (s.linkOf l).1).capsAt lsbMs then (s.sendCaps (s.linkOf l).1).concludeCaps (s.linkOf l).1 (s.link (s.linkOf l).1).capsGot
      else s := rfl

theorem State.sendLink_of_takes {s : State} {b kind : Nat} (h : (s.link b).takes kind = true) (body : List Score) :
    s.sendLink b kind body = s.setLink b ((s.link b).push ⟨kind, body⟩) := if_pos h

theorem State.sendCaps_eq {s : State} {b : Nat} (hup : (s.link b).up = true) :
    s.sendCaps b = (s.setLink b ((s.link b).noteCaps s.now)).setLink b (((s.link b).noteCaps s.now).push ⟨1, s.capsBody b⟩) := by
  have htakes : ((s.setLink b ((s.link b).noteCaps s.now)).link b).takes 1 = true := by
    rw [State.link_setLink_same]
    simp [Link.takes, Link.noteCaps, hup]
  rw [State.sendCaps, State.sendLink_of_takes htakes, State.link_setLink_same]

theorem State.concludeCaps_link (s : State) (b : Nat) (got : Bool) : (s.concludeCaps b got).link b = (s.link b).concludeCaps got := by
  cases got
  · rfl
  · exact State.link_setLink_same _ _ _

theorem State.concludeCaps_untouched (s : State) (b : Nat) (got : Bool) : Untouched [.link] s (s.concludeCaps b got) := by
  cases got
  · exact Untouched.refl _ _
  · exact State.setLink_untouched _ _ _

/-- The link after its CAPS. -/
theorem State.link_sendCaps {s : State} {b : Nat} (hup : (s.link b).up = true) (got : Bool) :
    ((s.sendCaps b).concludeCaps b got).link b = (((s.link b).noteCaps s.now).push ⟨1, s.capsBody b⟩).concludeCaps got := by
  rw [State.concludeCaps_link, State.sendCaps_eq hup, State.link_setLink_same]

theorem State.sendCaps_untouched {s : State} {b : Nat} (hup : (s.link b).up = true) (got : Bool) :
    Untouched [.link] s ((s.sendCaps b).concludeCaps b got) := by
  refine Untouched.trans ?_ (State.concludeCaps_untouched _ _ _)
  rw [State.sendCaps_eq hup]
  exact (State.setLink_untouched _ _ _).trans (State.setLink_untouched _ _ _)

theorem Link.concludeCaps_rest (k : Link) (got : Bool) :
    (k.concludeCaps got).queue = k.queue ∧ (k.concludeCaps got).capsAt = k.capsAt ∧ (k.concludeCaps got).capsDone = (got || k.capsDone) := by
  cases got <;> exact ⟨rfl, rfl, rfl⟩

theorem State.link_keep (s x : State) (t b : Nat) : (s.keep t x).link b = x.link b := rfl

theorem State.linkOf_clock (s : State) (t l : Nat) : (s.clock t).linkOf l = s.linkOf l := State.linkOf_congr (State.clock_regs s t) l

theorem capsSend_yields (t : Nat) (l : Lane) (s : State) (hr : s.phase = .ready) (hup : (s.link (s.linkOf l).1).up = true)
    (hopen : (s.link (s.linkOf l).1).capsDone = false) (hmode : s.laneMode (s.linkOf l).1 = 0)
    (hdue : dueAgain (max s.now t) (s.link (s.linkOf l).1).capsAt lsbMs = true) : Yields (.capsSend t l) s fun x =>
      (x.link (s.linkOf l).1).queue = ((s.link (s.linkOf l).1).push ⟨1,
        [BitVec.ofNat 20 (7 * 2 ^ 17 + laneProfile (s.linkOf l).1 * 2 ^ 15), BitVec.ofNat 20 (s.ident / 2 ^ 20), BitVec.ofNat 20 s.ident]⟩).queue
        ∧ (x.link (s.linkOf l).1).capsAt = some (max s.now t)
        ∧ (x.link (s.linkOf l).1).capsDone = (s.link (s.linkOf l).1).capsGot ∧ Frame t [.link] s x := by
  have hsends : ((s.link (s.linkOf l).1).up && !(s.link (s.linkOf l).1).capsDone && s.laneMode (s.linkOf l).1 == 0
      && dueAgain (max s.now t) (s.link (s.linkOf l).1).capsAt lsbMs) = true := by simp [hup, hopen, hmode, hdue]
  refine Yields.of_run (execCapsSend t l) hr rfl (execCapsSend_eq t l s) ?_
  simp only [State.linkOf_clock]
  refine (if_pos hsends).symm ▸ ?_
  have hlink := State.link_sendCaps (s := s.clock t) (b := (s.linkOf l).1) hup (s.link (s.linkOf l).1).capsGot
  have hrest := State.sendCaps_untouched (s := s.clock t) (b := (s.linkOf l).1) hup (s.link (s.linkOf l).1).capsGot
  obtain ⟨hqueue, hcapsAt, hcapsDone⟩ :=
    ((((s.clock t).link (s.linkOf l).1).noteCaps (max s.now t)).push ⟨1, (s.clock t).capsBody (s.linkOf l).1⟩).concludeCaps_rest (s.link (s.linkOf l).1).capsGot
  refine ⟨(congrArg Link.queue hlink).trans hqueue, (congrArg Link.capsAt hlink).trans hcapsAt, (congrArg Link.capsDone hlink).trans (hcapsDone.trans ?_),
    Frame.of_untouched hrest⟩
  have hstill : ((((s.clock t).link (s.linkOf l).1).noteCaps (max s.now t)).push ⟨1, (s.clock t).capsBody (s.linkOf l).1⟩).capsDone = false := hopen
  rw [hstill, Bool.or_false]

/-- The link with what the partner's CAPS tells of it. -/
def Link.heardCaps (k : Link) (a b c : Score) : Link :=
  { k with capsGot := true, ident := (joinHL b c).toNat, pixels := a.toNat % 2 ^ 15, version := (highestRate (a.toNat / 2 ^ 17)).elim 0 (· + 1) }

/-- A CAPS is taken in: the link is refused, or has its partner. -/
def State.hearCaps (s : State) (n : Nat) (body : List Score) : State :=
  if (s.link n).up && !(s.link n).capsGot && body.length == 3 then
    match s.capsRefusal n ((body.getD 0 0).toNat / 2 ^ 17) ((body.getD 0 0).toNat / 2 ^ 15 % 4) with
    | some why => (s.setLink n { (s.link n).heardCaps (body.getD 0 0) (body.getD 1 0) (body.getD 2 0) with refused := true }).raise .linkRefused n why
    | none => s.setLink n ((s.link n).heardCaps (body.getD 0 0) (body.getD 1 0) (body.getD 2 0))
  else s

theorem execCapsReceive_eq (t : Nat) (l : Lane) (s : State) :
    execCapsReceive t l s = s.run t fun s =>
      match s.takePacket (.link l) 1 with
      | (y, none) => y
      | (y, some body) => y.hearCaps (s.linkOf l).1 body := rfl

theorem State.hearCaps_of_kept {s : State} {n : Nat} {a b c : Score} (hup : (s.link n).up = true) (hgot : (s.link n).capsGot = false)
    (hkept : s.capsRefusal n (a.toNat / 2 ^ 17) (a.toNat / 2 ^ 15 % 4) = none) : s.hearCaps n [a, b, c] = s.setLink n ((s.link n).heardCaps a b c) := by
  have hheard : ((s.link n).up && !(s.link n).capsGot && [a, b, c].length == 3) = true := by
    rw [hup, hgot]
    rfl
  have hkept' : s.capsRefusal n (([a, b, c].getD 0 0).toNat / 2 ^ 17) (([a, b, c].getD 0 0).toNat / 2 ^ 15 % 4) = none := hkept
  rw [State.hearCaps, if_pos hheard, hkept']
  rfl

theorem State.link_dropArrived (s : State) (l : Lane) (r : List RxPacket) :
    (s.dropArrived l r).link (s.linkOf l).1 = { s.link (s.linkOf l).1 with arrived := r } := State.link_setLink_same _ _ _

/-- The refusal of a link rests on its configuration and its width. -/
theorem State.capsRefusal_dropArrived (s : State) (l : Lane) (r : List RxPacket) (versions profile : Nat) :
    (s.dropArrived l r).capsRefusal (s.linkOf l).1 versions profile = s.capsRefusal (s.linkOf l).1 versions profile := by
  have hwidth : ((s.dropArrived l r).link (s.linkOf l).1).width = (s.link (s.linkOf l).1).width :=
    (congrArg Link.width (s.link_dropArrived l r)).trans rfl
  have hslot : (s.dropArrived l r).slotOfLink (s.linkOf l).1 = s.slotOfLink (s.linkOf l).1 := by
    simp only [State.slotOfLink, hwidth]
    rfl
  simp only [State.capsRefusal, hslot]

theorem capsReceive_yields (t : Nat) (l : Lane) (a b c : Score) (z : Nat) (r : List RxPacket) (s : State) (hr : s.phase = .ready)
    (hh : s.holds l 1 [a, b, c] z r) (hup : (s.link (s.linkOf l).1).up = true) (hgot : (s.link (s.linkOf l).1).capsGot = false)
    (hkept : s.capsRefusal (s.linkOf l).1 (a.toNat / 2 ^ 17) (a.toNat / 2 ^ 15 % 4) = none) : Yields (.capsReceive t l) s fun x =>
      (x.link (s.linkOf l).1).capsGot = true ∧ (x.link (s.linkOf l).1).ident = (joinHL b c).toNat ∧ (x.link (s.linkOf l).1).arrived = r
        ∧ (x.link (s.linkOf l).1).version = (highestRate (a.toNat / 2 ^ 17)).elim 0 (· + 1) ∧ Frame t [.link] s x := by
  have hlink : ((s.clock t).dropArrived l r).link (s.linkOf l).1 = { s.link (s.linkOf l).1 with arrived := r } := by
    have hdrop := (s.clock t).link_dropArrived l r
    rwa [State.linkOf_clock] at hdrop
  have hkept' : ((s.clock t).dropArrived l r).capsRefusal (s.linkOf l).1 (a.toNat / 2 ^ 17) (a.toNat / 2 ^ 15 % 4) = none := by
    have hdrop := (s.clock t).capsRefusal_dropArrived l r (a.toNat / 2 ^ 17) (a.toNat / 2 ^ 15 % 4)
    rw [State.linkOf_clock] at hdrop
    exact hdrop.trans hkept
  refine Yields.of_run (execCapsReceive t l) hr rfl (execCapsReceive_eq t l s) ?_
  rw [State.takePacket_dropArrived t hh, State.linkOf_clock]
  dsimp only
  rw [State.hearCaps_of_kept (by rw [hlink]; exact hup) (by rw [hlink]; exact hgot) hkept', hlink]
  rw [State.link_keep, State.link_setLink_same]
  exact ⟨rfl, rfl, rfl, rfl, Frame.of_untouched ((State.dropArrived_untouched _ _ _).trans (State.setLink_untouched _ _ _))⟩

/-! ### HELLO -/

/-- The link when its HELLO has been put at an instant. -/
def Link.noteHello (k : Link) (now : Nat) : Link := { k with helloAt := some now }

def State.noteHello (s : State) (b : Nat) : State := s.setLink b ((s.link b).noteHello s.now)

theorem execHelloSend_eq (t : Nat) (l : Lane) (s : State) :
    execHelloSend t l s = s.run t fun s =>
      if (s.ethUp l || s.portUp (.lane (s.linkOf l).1)) && dueAgain s.now (s.link (s.linkOf l).1).helloAt s.beacon then
        if (s.noteHello (s.linkOf l).1).ethUp l then
          (s.noteHello (s.linkOf l).1).sendUdp l (s.noteHello (s.linkOf l).1).epGrp ((s.noteHello (s.linkOf l).1).f Reg.EP_FL_PORT_PORT) 2
            ((s.noteHello (s.linkOf l).1).helloBody 2 3)
        else (s.noteHello (s.linkOf l).1).sendLink (s.linkOf l).1 2
          ((s.noteHello (s.linkOf l).1).helloBody (laneProfile (s.linkOf l).1) (s.link (s.linkOf l).1).version)
      else s := rfl

theorem helloSend_yields (t : Nat) (l : Lane) (s : State) (hr : s.phase = .ready) (heth : s.ethUp l = false)
    (hport : s.portUp (.lane (s.linkOf l).1) = true) (hdue : dueAgain (max s.now t) (s.link (s.linkOf l).1).helloAt s.beacon = true) :
    Yields (.helloSend t l) s fun x =>
      (x.link (s.linkOf l).1).queue = ((s.link (s.linkOf l).1).push ⟨2, s.helloBody (laneProfile (s.linkOf l).1) (s.link (s.linkOf l).1).version⟩).queue
        ∧ (x.link (s.linkOf l).1).helloAt = some (max s.now t) ∧ Frame t [.link] s x := by
  have hsends : ((s.clock t).ethUp l || (s.clock t).portUp (.lane (s.linkOf l).1)) && dueAgain (s.clock t).now ((s.clock t).link (s.linkOf l).1).helloAt (s.clock t).beacon := by
    have hport' : (s.clock t).portUp (.lane (s.linkOf l).1) = true := hport
    have hdue' : dueAgain (s.clock t).now ((s.clock t).link (s.linkOf l).1).helloAt (s.clock t).beacon = true := hdue
    rw [hport', hdue', Bool.or_true, Bool.and_self]
  have hlane : ¬ (((s.clock t).noteHello (s.linkOf l).1).ethUp l = true) := by
    rw [show ((s.clock t).noteHello (s.linkOf l).1).ethUp l = s.ethUp l from rfl, heth]
    exact Bool.false_ne_true
  have hlink : ((s.clock t).noteHello (s.linkOf l).1).link (s.linkOf l).1 = (s.link (s.linkOf l).1).noteHello (max s.now t) := State.link_setLink_same _ _ _
  have htakes : (((s.clock t).noteHello (s.linkOf l).1).link (s.linkOf l).1).takes 2 = true := by
    simp only [State.portUp, Bool.and_eq_true] at hport
    obtain ⟨⟨hup, hdone⟩, hkept⟩ := hport
    rw [hlink]
    simp [Link.takes, Link.noteHello, hup, hdone, hkept]
  refine Yields.of_run (execHelloSend t l) hr rfl (execHelloSend_eq t l s) ?_
  simp only [State.linkOf_clock]
  refine (if_pos hsends).symm ▸ (if_neg hlane).symm ▸ ?_
  rw [State.sendLink_of_takes htakes, State.link_keep, State.link_setLink_same, hlink]
  exact ⟨rfl, rfl, Frame.of_untouched ((State.setLink_untouched _ _ _).trans (State.setLink_untouched _ _ _))⟩

/-- The partner that a HELLO on a lane tells of, with a place in the table. -/
def heardPartner (b version now : Nat) (body : List Score) (idx : Nat) : Partner :=
  { idx := idx, ident := (joinHL (body.getD 0 0) (body.getD 1 0)).toNat, profile := (body.getD 2 0).toNat / 2 ^ 18, version := version
    port := .lane b, hello := body, heardAt := now, legacy := decide (version < 3) }

theorem heardPartner_ident (b version now : Nat) (body : List Score) (idx : Nat) :
    (heardPartner b version now body idx).ident = (joinHL (body.getD 0 0) (body.getD 1 0)).toNat := rfl

theorem heardPartner_rest (b version now : Nat) (body : List Score) (idx : Nat) :
    (heardPartner b version now body idx).heardAt = now ∧ (heardPartner b version now body idx).hello = body
      ∧ (heardPartner b version now body idx).idx = idx := ⟨rfl, rfl, rfl⟩

/-- Another partner that the table has on the port. -/
def State.otherOn (s : State) (b ident : Nat) : Option Partner :=
  s.fl.partners.find? fun p => decide (p.port = .lane b) && decide (p.ident ≠ ident)

/-- The partner's place in the table, by its place: a new one is attached, one on another port has moved. -/
def State.placePartner (s : State) (new : Nat → Partner) : State :=
  match s.partner (new 0).ident with
  | none => s.attach (new 0)
  | some p =>
    let y := s.setPartners (s.fl.partners.map fun q => if q.ident = (new 0).ident then new q.idx else q)
    if p.port = (new 0).port then y
    else
      let y := if p.profile = 0 then y.headMove (new 0).ident (new 0).port.lowest else y
      (y.raiseAbout (new 0).ident .move Ev.move.sev (new 0).port.lowest p.port.lowest).topology

/-- What a HELLO of a node of the table brings to the plan. -/
def State.planOf (s : State) (q : Partner) : State :=
  if (s.partner q.ident).isSome && decide (q.profile ≠ 0) && decide (q.version ≥ 3) then
    (s.planHear q.ident (q.hello.getD 3 0).toNat (q.hello.getD 4 0).toNat id).planAgree
  else s.planForget q.ident

/-- The table without the other partner of the port. -/
def State.clearPort (s : State) (b ident : Nat) : State := match s.otherOn b ident with | some p => s.detach p | none => s

theorem State.hello_eq (s : State) (b : Nat) (body : List Score) :
    s.hello (.lane b) body =
      (((s.clearPort b (joinHL (body.getD 0 0) (body.getD 1 0)).toNat).placePartner
        (heardPartner b (s.link b).version (s.clearPort b (joinHL (body.getD 0 0) (body.getD 1 0)).toNat).now body))).planOf
        (heardPartner b (s.link b).version (s.clearPort b (joinHL (body.getD 0 0) (body.getD 1 0)).toNat).now body 0) := rfl

theorem State.placePartner_of_same {s : State} {p : Partner} {new : Nat → Partner} (hp : s.fl.partners = [p]) (hident : p.ident = (new 0).ident)
    (hport : p.port = (new 0).port) : s.placePartner new = s.setPartners [new p.idx] := by
  have hfound : s.partner (new 0).ident = some p := by
    rw [State.partner, hp]
    simp [hident]
  unfold State.placePartner
  rw [hfound]
  dsimp only
  rw [if_pos hport, hp]
  simp [hident]

/-- A HELLO of the one partner of the table on its own port: the partner is heard again, and no other one leaves. -/
theorem State.hello_of_same {s : State} {b : Nat} {p : Partner} {body : List Score} (hp : s.fl.partners = [p])
    (hident : p.ident = (joinHL (body.getD 0 0) (body.getD 1 0)).toNat) (hport : p.port = .lane b) :
    s.hello (.lane b) body
      = (s.setPartners [heardPartner b (s.link b).version s.now body p.idx]).planOf (heardPartner b (s.link b).version s.now body 0) := by
  have hclear : s.clearPort b (joinHL (body.getD 0 0) (body.getD 1 0)).toNat = s := by
    have hother : s.otherOn b (joinHL (body.getD 0 0) (body.getD 1 0)).toNat = none := by
      rw [State.otherOn, hp]
      simp [hident]
    rw [State.clearPort, hother]
  rw [State.hello_eq, hclear, State.placePartner_of_same hp hident hport]

theorem State.planForget_untouched (s : State) (ident : Nat) : Untouched [.shepherd, .fields] s (s.planForget ident) :=
  (s.setPlan_untouched _).mono.trans (State.setH_untouched _ _ _).mono

theorem State.planOf_untouched (s : State) (q : Partner) : Untouched [.link, .shepherd, .fields, .events] s (s.planOf q) := by
  unfold State.planOf
  split
  · exact (State.planHear_untouched _ _ _ _ _).mono.trans (State.planAgree_untouched _).mono
  · exact (State.planForget_untouched _ _).mono

/-- The plan leaves the partner table. -/
theorem State.partners_planOf (s : State) (q : Partner) : (s.planOf q).fl.partners = s.fl.partners := by
  have hagree (y : State) : y.planAgree.fl.partners = y.fl.partners := by
    unfold State.planAgree
    split
    · rfl
    · split <;> simp [State.setPlan]
  unfold State.planOf
  split
  · have hheard := s.planHear_untouched q.ident (q.hello.getD 3 0).toNat (q.hello.getD 4 0).toNat id
    have hfl : (s.planHear q.ident (q.hello.getD 3 0).toNat (q.hello.getD 4 0).toNat id).fl = s.fl := hheard .link (by decide)
    rw [hagree, hfl]
  · have hfl : (s.planForget q.ident).fl = s.fl := s.planForget_untouched q.ident .link (by decide)
    rw [hfl]

theorem State.setPartners_untouched (s : State) (ps : List Partner) : Untouched [.link, .fields] s (s.setPartners ps) := by
  intro g hg
  cases g <;> simp [Group.same] at hg ⊢

theorem execHelloReceive_eq (t : Nat) (src : RxFrom) (s : State) :
    execHelloReceive t src s = s.run t fun s =>
      match s.takePacket src 2 with
      | (y, none) => y
      | (y, some body) => if body.length = 8 ∧ (joinHL (body.getD 0 0) (body.getD 1 0)).toNat ≠ y.ident then y.hello (y.portOf src) body else y := rfl

theorem helloReceive_yields (t : Nat) (l : Lane) (b : List Score) (z : Nat) (r : List RxPacket) (p : Partner) (s : State) (hr : s.phase = .ready)
    (hh : s.holds l 2 b z r) (hlength : b.length = 8) (hother : (joinHL (b.getD 0 0) (b.getD 1 0)).toNat ≠ s.ident) (hp : s.fl.partners = [p])
    (hident : p.ident = (joinHL (b.getD 0 0) (b.getD 1 0)).toNat) (hport : p.port = .lane (s.linkOf l).1) :
    Yields (.helloReceive t (.link l)) s fun x =>
      (∃ q, x.fl.partners = [q] ∧ q.ident = p.ident ∧ q.heardAt = max s.now t ∧ q.hello = b ∧ q.idx = p.idx)
        ∧ Frame t [.link, .shepherd, .fields, .events] s x := by
  have hfrom : ((s.clock t).dropArrived l r).portOf (.link l) = .lane (s.linkOf l).1 := by
    rw [State.portOf, State.linkOf_congr ((s.clock t).dropArrived_frame l r).1, State.linkOf_clock]
  have hpartners : ((s.clock t).dropArrived l r).fl.partners = [p] := hp
  have hown : ((s.clock t).dropArrived l r).ident = s.ident := rfl
  have hnow : ((s.clock t).dropArrived l r).now = max s.now t := rfl
  have hrest := (s.clock t).dropArrived_untouched l r
  refine Yields.of_run (execHelloReceive t (.link l)) hr rfl (execHelloReceive_eq t (.link l) s) ?_
  rw [State.takePacket_dropArrived t hh]
  dsimp only
  generalize (s.clock t).dropArrived l r = y at *
  have hstands : b.length = 8 ∧ (joinHL (b.getD 0 0) (b.getD 1 0)).toNat ≠ y.ident := ⟨hlength, hown ▸ hother⟩
  rw [if_pos hstands, hfrom, State.hello_of_same hpartners hident hport, hnow]
  refine ⟨⟨heardPartner (s.linkOf l).1 (y.link (s.linkOf l).1).version (max s.now t) b p.idx, ?_,
    (heardPartner_ident _ _ _ _ _).trans hident.symm, heardPartner_rest _ _ _ _ _⟩, Frame.of_untouched ?_⟩
  · rw [State.keep_fl, State.partners_planOf]
    rfl
  · exact (hrest.mono.trans (State.setPartners_untouched _ _).mono).trans (State.planOf_untouched _ _)

/-! ### Packets that do not stand -/

theorem execPacketDiscard_link (t : Nat) (l : Lane) (s : State) :
    execPacketDiscard t (.link l) s = s.run t fun s =>
      match (s.link (s.linkOf l).1).arrived with
      | p :: r => if p.ok then s else (s.dropArrived l r).inc Reg.FL_PKT_ERR_COUNT
      | [] => s := rfl

theorem packetDiscard_yields (t : Nat) (l : Lane) (p : RxPacket) (r : List RxPacket) (s : State) (hr : s.phase = .ready)
    (hh : (s.link (s.linkOf l).1).arrived = p :: r) (hbad : p.ok = false) : Yields (.packetDiscard t (.link l)) s fun x =>
      (x.link (s.linkOf l).1).arrived = r ∧ x.h Reg.FL_PKT_ERR_COUNT = min (s.h Reg.FL_PKT_ERR_COUNT + 1) Reg.FL_PKT_ERR_COUNT.top
        ∧ OnlyFields [Reg.FL_PKT_ERR_COUNT] s x ∧ Frame t [.fields, .link] s x := by
  have hlink : ((s.clock t).link ((s.clock t).linkOf l).1).arrived = p :: r := by
    rw [State.linkOf_clock]
    exact hh
  refine Yields.of_run (execPacketDiscard t (.link l)) hr rfl (execPacketDiscard_link t l s) ?_
  rw [hlink]
  dsimp only
  rw [if_neg (by rw [hbad]; exact Bool.false_ne_true)]
  refine ⟨?_, State.h_inc_same _ _, ?_, Frame.of_untouched ?_⟩
  · exact State.arrived_dropArrived t rfl
  · exact (OnlyFields.of_regs rfl).trans (OnlyFields.inc (List.mem_singleton.mpr rfl) ((s.clock t).dropArrived l r))
  · exact (State.dropArrived_untouched _ _ _).mono.trans (State.inc_untouched _ _).mono

end Sys2Proof.Machine
end

section
namespace Sys2Proof
open Machine

/-- Settles O40: the one partner of the table is found by its identity on its own port, so it is heard again in its place (State.hello_of_same). -/
theorem linksIntroduceThemselves : Obligations.LinksIntroduceThemselves := by
  unfold Obligations.LinksIntroduceThemselves
  exact ⟨capsSend_yields, capsReceive_yields, helloSend_yields, helloReceive_yields, packetDiscard_yields⟩

end Sys2Proof
end

section
/-!
SUPPORT. What a reset of the die and its boot keep (R436, R440, R445, R448).
-/

namespace Sys2Proof.Machine

/-! ### The fields and records that a boot leaves -/

/-- The RO and W1C fields that a boot may write before the die is ready. -/
def bootWrites : List Fld :=
  [Reg.PW_STAT_FLASH_FAULT, Reg.PW_FW_STAT_SLOT_A, Reg.PW_FW_STAT_SLOT_B, Reg.PW_DEFER_CNT_COUNT, Reg.SYS_BOOT_SLOT]

/-- What a boot leaves: every other RO and W1C field, what was sent, the instant of release, a REBOOT's, and the fuse. -/
structure State.BootKeeps (s x : State) : Prop where
  fields : OnlyFields bootWrites s x
  tx : x.tx = s.tx
  releasedAt : x.pw.releasedAt = s.pw.releasedAt
  rebootAt : x.pw.rebootAt = s.pw.rebootAt
  lockFuse : x.pw.lockFuse = s.pw.lockFuse

theorem State.BootKeeps.refl (s : State) : s.BootKeeps s := ⟨OnlyFields.refl _ _, rfl, rfl, rfl, rfl⟩

theorem State.BootKeeps.trans {s x y : State} (h : s.BootKeeps x) (h' : x.BootKeeps y) : s.BootKeeps y where
  fields := h.fields.trans h'.fields
  tx := h'.tx.trans h.tx
  releasedAt := h'.releasedAt.trans h.releasedAt
  rebootAt := h'.rebootAt.trans h.rebootAt
  lockFuse := h'.lockFuse.trans h.lockFuse

/-- Work on power and flash that leaves the registers. -/
theorem State.BootKeeps.of_regs {s x : State} (hregs : x.regs = s.regs) (htx : x.tx = s.tx) (hreleased : x.pw.releasedAt = s.pw.releasedAt)
    (hreboot : x.pw.rebootAt = s.pw.rebootAt) (hfuse : x.pw.lockFuse = s.pw.lockFuse) : s.BootKeeps x :=
  ⟨OnlyFields.of_regs hregs, htx, hreleased, hreboot, hfuse⟩

theorem State.BootKeeps.setH {f : Fld} (hf : f ∈ bootWrites) (s : State) (v : Nat) : s.BootKeeps (s.setH f v) :=
  ⟨OnlyFields.setH hf s v, rfl, rfl, rfl, rfl⟩

theorem State.BootKeeps.flag {f : Fld} (hf : f ∈ bootWrites) (s : State) (b : Bool) : s.BootKeeps (s.flag f b) :=
  ⟨OnlyFields.flag hf s b, rfl, rfl, rfl, rfl⟩

theorem State.BootKeeps.inc {f : Fld} (hf : f ∈ bootWrites) (s : State) : s.BootKeeps (s.inc f) :=
  ⟨OnlyFields.inc hf s, rfl, rfl, rfl, rfl⟩

theorem State.showSlot_bootKeeps (s : State) (b : Bool) (st : Nat) : s.BootKeeps (s.showSlot b st) := by
  cases b
  · exact State.BootKeeps.setH (f := Reg.PW_FW_STAT_SLOT_A) (by simp [bootWrites]) _ _
  · exact State.BootKeeps.setH (f := Reg.PW_FW_STAT_SLOT_B) (by simp [bootWrites]) _ _

theorem State.putRecord_bootKeeps (s : State) (b : Bool) (x : Slot) : s.BootKeeps (s.putRecord b x) := by
  unfold State.putRecord
  dsimp only
  split
  · exact State.BootKeeps.refl s
  · cases b <;> exact State.BootKeeps.of_regs rfl rfl rfl rfl rfl

theorem State.ownWrite_record_bootKeeps (s : State) (b : Bool) (x : Slot) : s.BootKeeps (s.ownWrite (.bootRecord b x)) := by
  have hdeferred : s.BootKeeps (s.defer (.bootRecord b x)) := State.BootKeeps.of_regs rfl rfl rfl rfl rfl
  unfold State.ownWrite
  split
  · exact s.putRecord_bootKeeps b x
  · dsimp only
    split
    · exact hdeferred
    · exact hdeferred.trans (State.BootKeeps.inc (by simp [bootWrites]) _)

theorem State.markSlot_bootKeeps (s : State) (b : Bool) (x : Slot) : s.BootKeeps (s.markSlot b x) := by
  unfold State.markSlot
  split
  · exact State.BootKeeps.refl s
  · split
    · exact (s.showSlot_bootKeeps b _).trans (State.ownWrite_record_bootKeeps _ _ _)
    · exact State.ownWrite_record_bootKeeps _ _ _

theorem State.later_bootKeeps (s : State) (e : Ev) (a b : Nat) : s.BootKeeps (s.later e a b) := State.BootKeeps.of_regs rfl rfl rfl rfl rfl

theorem State.rejectSlot_bootKeeps (s : State) (b : Bool) : s.BootKeeps (s.rejectSlot b) :=
  (s.markSlot_bootKeeps b _).trans (State.later_bootKeeps _ _ _ _)

theorem State.tryBoot_bootKeeps (s : State) (l : List Bool) : s.BootKeeps (s.tryBoot l).1 := by
  induction l generalizing s with
  | nil => exact State.BootKeeps.refl s
  | cons b r ih =>
    unfold State.tryBoot
    split
    · exact State.BootKeeps.refl s
    · exact (s.rejectSlot_bootKeeps b).trans (ih _)

theorem State.bootSlot_bootKeeps (s : State) (b trial : Bool) : s.BootKeeps (s.bootSlot b trial) :=
  State.BootKeeps.trans (x := { s with pw := { s.pw with runB := b, trial := trial } }) (State.BootKeeps.of_regs rfl rfl rfl rfl rfl)
    (State.BootKeeps.flag (by simp [bootWrites]) _ _)

theorem State.fallBack_bootKeeps (s : State) (b : Bool) : s.BootKeeps (s.fallBack b) := by
  have hdrop : s.BootKeeps { s with pw := s.pw.dropTrial } := by
    unfold Power.dropTrial
    split <;> exact State.BootKeeps.of_regs rfl rfl rfl rfl rfl
  exact hdrop.trans (State.markSlot_bootKeeps _ _ _)

theorem State.fellBack_bootKeeps (s : State) : s.BootKeeps s.fellBack := by
  unfold State.fellBack
  split
  · exact s.fallBack_bootKeeps _
  · exact State.BootKeeps.refl s

theorem State.pickSlot_bootKeeps (s : State) : s.BootKeeps s.pickSlot.1 := by
  unfold State.pickSlot
  split
  · split
    · exact (s.markSlot_bootKeeps _ _).trans (State.bootSlot_bootKeeps _ _ _)
    · exact (s.rejectSlot_bootKeeps _).trans (State.tryBoot_bootKeeps _ _)
  · exact s.tryBoot_bootKeeps _

theorem State.runSlot_bootKeeps (s : State) (staged fell r : Option Bool) : s.BootKeeps (s.runSlot staged fell r) := by
  cases r with
  | none => exact State.BootKeeps.of_regs rfl rfl rfl rfl rfl
  | some b =>
    have hrun : s.BootKeeps (if staged = some b then s else s.bootSlot b false) := by
      split
      · exact State.BootKeeps.refl s
      · exact s.bootSlot_bootKeeps b false
    unfold State.runSlot
    dsimp only
    split
    · exact hrun.trans (State.later_bootKeeps _ _ _ _)
    · exact hrun

theorem State.selectSlot_bootKeeps (s : State) : s.BootKeeps s.selectSlot := by
  rw [State.selectSlot_eq]
  exact (s.fellBack_bootKeeps.trans (State.pickSlot_bootKeeps _)).trans (State.runSlot_bootKeeps _ _ _ _)

/-- The boot ROM has looked at the flashes and read the boot records. -/
def State.recordsRead (s : State) (f : BootFacts) : State :=
  { s with phase := .boot, pw := { s.pw with
      releasedAt := s.now, badA := !f.sfdpA, badB := !f.sfdpB, slotA := s.pw.slotA.read f.recordA, slotB := s.pw.slotB.read f.recordB, tj := f.tj } }

/-- A flash that is not used shows, and is reported. -/
def State.flashFault (s : State) (bad : Bool) (n : Nat) : State :=
  if bad then s else (s.flag Reg.PW_STAT_FLASH_FAULT true).later .flashFault n 0

theorem State.dieBoot_eq (s : State) (f : BootFacts) :
    s.dieBoot f = (((s.recordsRead f).flashFault f.sfdpA 0).flashFault f.sfdpB 1).selectSlot := rfl

theorem State.flashFault_bootKeeps (s : State) (ok : Bool) (n : Nat) : s.BootKeeps (s.flashFault ok n) := by
  cases ok
  · exact (State.BootKeeps.flag (by simp [bootWrites]) s true).trans (State.later_bootKeeps _ _ _ _)
  · exact State.BootKeeps.refl s

/-- A boot, from the instant of release on. -/
theorem State.dieBoot_keeps (s : State) (f : BootFacts) : (s.recordsRead f).BootKeeps (s.dieBoot f) := by
  rw [State.dieBoot_eq]
  exact ((State.flashFault_bootKeeps _ _ _).trans (State.flashFault_bootKeeps _ _ _)).trans (State.selectSlot_bootKeeps _)

/-- What a boot leaves, of the state before it. -/
theorem State.dieBoot_rest (s : State) (f : BootFacts) :
    (s.dieBoot f).pw.releasedAt = s.now ∧ (s.dieBoot f).pw.rebootAt = s.pw.rebootAt ∧ (s.dieBoot f).pw.lockFuse = s.pw.lockFuse
      ∧ (s.dieBoot f).tx = s.tx := by
  obtain ⟨-, htx, hreleased, hreboot, hfuse⟩ := s.dieBoot_keeps f
  exact ⟨hreleased, hreboot, hfuse, htx⟩

theorem State.dieBoot_h {f : BootFacts} {g : Fld} (s : State) (hg : g.key ∉ bootWrites.map Fld.key) : (s.dieBoot f).h g = s.h g :=
  (s.dieBoot_keeps f).fields g hg

/-- No member of a safety pair is driven before the die is ready. -/
theorem State.pairLow_of_not_ready {s : State} (h : s.phase ≠ .ready) (n : Nat) : s.pairLow n := by
  have hlive : s.live = false := decide_eq_false h
  have hlow (i : Nat) : s.soLevel i n = false := by rw [State.soLevel, hlive, Bool.false_and]
  exact ⟨hlow 0, hlow 1⟩

theorem State.not_ready_of_booted {s : State} (h : s.phase = .boot ∨ s.phase = .recovery) : s.phase ≠ .ready := by
  obtain h | h := h <;> rw [h] <;> decide

/-! ### A reset -/

/-- The die in reset, before the fields of the always-on island and the cause are shown. -/
def State.resetFrom (s : State) : State :=
  let p := s.tearSave.pw
  { State.reset with
    pending := s.pending, now := s.now, tx := s.tx, freeCtr := s.freeCtr, phase := .inReset
    pw := { p with
      gate := { p.gate with selfTest := false }, trial := false, defaulted := none, trialEnd := none, rebootAt := none, due := [], deferred := []
      saving := none, staging := none, calSavedAt := none, formats := State.reset.pw.formats, tj := none } }

theorem State.dieReset_eq (s : State) (cause rail : Nat) :
    s.dieReset cause rail = ((keptFields.foldl (fun r f => r.setH f (s.h f)) s.resetFrom).setH Reg.PW_RST_CAUSE_CAUSE cause).setH Reg.PW_RST_CAUSE_RAIL rail :=
  rfl

theorem keptFields_keys :
    (keptFields.map Fld.key).Nodup ∧ Reg.PW_RST_CAUSE_CAUSE.key ∉ keptFields.map Fld.key ∧ Reg.PW_RST_CAUSE_RAIL.key ∉ keptFields.map Fld.key
      ∧ Reg.PW_RST_CAUSE_CAUSE.key ≠ Reg.PW_RST_CAUSE_RAIL.key := by decide

theorem State.dieReset_cause (s : State) (cause rail : Nat) :
    (s.dieReset cause rail).h Reg.PW_RST_CAUSE_CAUSE = min cause Reg.PW_RST_CAUSE_CAUSE.top
      ∧ (s.dieReset cause rail).h Reg.PW_RST_CAUSE_RAIL = min rail Reg.PW_RST_CAUSE_RAIL.top := by
  obtain ⟨-, -, -, hkeys⟩ := keptFields_keys
  rw [State.dieReset_eq]
  exact ⟨(State.h_setH_ne _ _ _ _ hkeys).trans (State.h_setH_same _ _ _), State.h_setH_same _ _ _⟩

/-- The fields of the always-on island read after a reset as they read before, up to their width. -/
theorem State.dieReset_kept (s : State) (cause rail : Nat) {f : Fld} (hf : f ∈ keptFields) : (s.dieReset cause rail).h f = min (s.h f) f.top := by
  obtain ⟨hnodup, hcause, hrail, -⟩ := keptFields_keys
  have hmem : f.key ∈ keptFields.map Fld.key := List.mem_map_of_mem hf
  rw [State.dieReset_eq, State.h_setH_ne _ _ _ _ fun h => hrail (h ▸ hmem), State.h_setH_ne _ _ _ _ fun h => hcause (h ▸ hmem)]
  exact State.h_setAll_of_mem _ _ _ _ hf hnodup

theorem State.pw_foldl_setH (l : List Fld) (g : Fld → Nat) (s : State) : (l.foldl (fun r f => r.setH f (g f)) s).pw = s.pw := by
  induction l generalizing s with
  | nil => rfl
  | cons f l ih => exact ih _

theorem State.dieReset_pw (s : State) (cause rail : Nat) : (s.dieReset cause rail).pw = s.resetFrom.pw := by
  rw [State.dieReset_eq, State.setH_pw, State.setH_pw, State.pw_foldl_setH]

/-- What was sent and the queue of commands stay. -/
theorem State.dieReset_rest (s : State) (cause rail : Nat) : (s.dieReset cause rail).tx = s.tx ∧ (s.dieReset cause rail).pending = s.pending := by
  simp

/-- The flashes with the settings, and what a save in progress writes, are as they were. -/
def State.SameSettings (s x : State) : Prop :=
  x.pw.setsA = s.pw.setsA ∧ x.pw.setsB = s.pw.setsB ∧ x.pw.badA = s.pw.badA ∧ x.pw.badB = s.pw.badB ∧ x.pw.trial = s.pw.trial
    ∧ x.pw.trialHalf = s.pw.trialHalf ∧ x.pw.saving = s.pw.saving

/-- What a torn save leaves rests on the flashes and on what a TRIAL image has written. -/
theorem State.tearSave_congr {s x : State} (h : s.SameSettings x) :
    x.tearSave.pw.setsA = s.tearSave.pw.setsA ∧ x.tearSave.pw.setsB = s.tearSave.pw.setsB := by
  obtain ⟨hA, hB, hbadA, hbadB, htrial, hhalf, hsaving⟩ := h
  have hto : x.saveTo = s.saveTo := by
    simp only [State.saveTo, State.currentHalf, State.readableHalves, hA, hB, hbadA, hbadB, htrial, hhalf]
  unfold State.tearSave
  rw [hsaving, hto]
  split
  · simp only [State.putHalf, hA, hB, hbadA, hbadB, and_self]
  · exact ⟨hA, hB⟩

theorem State.tearSave_rest (s : State) :
    s.tearSave.pw = { s.pw with setsA := s.tearSave.pw.setsA, setsB := s.tearSave.pw.setsB } := by
  unfold State.tearSave
  split <;> rfl

/-- What a reset leaves of power and flash. -/
structure State.ResetPower (s x : State) : Prop where
  setsA : x.pw.setsA = s.tearSave.pw.setsA
  setsB : x.pw.setsB = s.tearSave.pw.setsB
  lockFuse : x.pw.lockFuse = s.pw.lockFuse
  gate : x.pw.gate = { s.pw.gate with selfTest := false }
  supplyRep : x.pw.supplyRep = s.pw.supplyRep
  brace : x.pw.brace = s.pw.brace
  rebootAt : x.pw.rebootAt = none

theorem State.dieReset_power (s : State) (cause rail : Nat) : s.ResetPower (s.dieReset cause rail) := by
  have hpw := s.dieReset_pw cause rail
  have htorn := s.tearSave_rest
  constructor
  · rw [hpw]; rfl
  · rw [hpw]; rfl
  · rw [hpw]; exact (congrArg Power.lockFuse htorn).trans rfl
  · rw [hpw]; exact (congrArg (fun p : Power => { p.gate with selfTest := false }) htorn).trans rfl
  · rw [hpw]; exact (congrArg Power.supplyRep htorn).trans rfl
  · rw [hpw]; exact (congrArg Power.brace htorn).trans rfl
  · rw [hpw]; rfl

/-! ### Power-on reset -/

theorem powerOnReset_yields (t : Nat) (s : State) : Yields (.powerOnReset t) s fun x => x.phase = .powerOn
    ∧ x.pw.gate = { supplyLow := true, under := addOnce 6 s.pw.gate.under, riseAt := max s.now t, aonAt := max s.now t }
    ∧ x.h Reg.PW_RST_CAUSE_CAUSE = 1 ∧ x.pw.fails = 0
    ∧ x.pw.setsA = s.tearSave.pw.setsA ∧ x.pw.setsB = s.tearSave.pw.setsB ∧ x.pw.lockFuse = s.pw.lockFuse ∧ x.tx = s.tx ∧ x.pending = s.pending
    ∧ x.now = max s.now t ∧ ∀ n, x.pairLow n := by
  have hreset := (s.clock t).dieReset_power 1 0
  obtain ⟨hsetsA, hsetsB⟩ := State.tearSave_congr (s := s) (x := s.clock t) ⟨rfl, rfl, rfl, rfl, rfl, rfl, rfl⟩
  refine ⟨_, rfl, rfl, rfl, (State.h_setH_same _ _ _).trans rfl, rfl, hreset.setsA.trans hsetsA, hreset.setsB.trans hsetsB, hreset.lockFuse, rfl, rfl, rfl, ?_⟩
  exact State.pairLow_of_not_ready Phase.noConfusion

theorem powerOnRelease_yields (t : Nat) (s : State) (hp : s.phase = .powerOn) (hup : s.pw.gate.under.contains 6 = false)
    (hheld : s.pw.gate.aonAt + lsbMs ≤ max s.now t) : Yields (.powerOnRelease t) s fun x => x = { s.clock t with phase := .inReset } :=
  ⟨_, rfl, if_pos ⟨hp, hup, hheld⟩⟩

/-! ### A supply and RST_N -/

theorem State.supplyFall_kept (s : State) (r : Rail) (mv : Nat) :
    s.SameSettings (s.supplyFall r mv) ∧ (s.supplyFall r mv).pw.lockFuse = s.pw.lockFuse ∧ (s.supplyFall r mv).tx = s.tx := by
  unfold State.supplyFall
  dsimp only
  split <;> exact ⟨⟨rfl, rfl, rfl, rfl, rfl, rfl, rfl⟩, rfl, rfl⟩

theorem State.supplyFall_count (s : State) (r : Rail) (mv : Nat) : (s.supplyFall r mv).h Reg.PW_SUPPLY_CNT_COUNT = s.h Reg.PW_SUPPLY_CNT_COUNT := by
  have hbit : (s.orBit Reg.PW_RAIL_STAT_BELOW r).h Reg.PW_SUPPLY_CNT_COUNT = s.h Reg.PW_SUPPLY_CNT_COUNT :=
    State.h_setH_ne _ _ _ _ (by decide)
  have hmin : Reg.PW_SUPPLY_CNT_COUNT.key ≠ (Reg.PW_RAIL_MIN_MV r).key := by
    have hr := r.isLt
    simp only [Fld.key, Reg.PW_SUPPLY_CNT_COUNT, Reg.PW_SUPPLY_CNT, Reg.PW_RAIL_MIN_MV, Reg.PW_RAIL_MIN]
    omega
  unfold State.supplyFall
  dsimp only
  split
  · exact (State.h_setH_ne _ _ _ _ hmin).trans hbit
  · exact hbit

/-- The state that a supply's reset resets. -/
def State.supplyCounted (s : State) (r : Rail) : State :=
  State.inc { s with pw := { s.pw with gate := { s.pw.gate with supplyLow := true }, supplyRep := some r.val } } Reg.PW_SUPPLY_CNT_COUNT

theorem supplyReset_yields (t : Nat) (r : Rail) (mv : Nat) (s : State) (hon : s.phase ≠ .powerOn) (hout : s.phase ≠ .inReset) (hr6 : r ≠ 6) (hr7 : r ≠ 7)
    (hlow : mv < s.railReset r) : Yields (.supplyReset t ⟨r, mv⟩) s fun x =>
      x.phase = .inReset ∧ x.pw.gate.supplyLow = true ∧ x.h Reg.PW_RST_CAUSE_CAUSE = 2 ∧ x.h Reg.PW_RST_CAUSE_RAIL = r.val ∧ x.pw.supplyRep = some r.val
        ∧ x.pw.brace = false ∧ x.h Reg.PW_SUPPLY_CNT_COUNT = min (s.h Reg.PW_SUPPLY_CNT_COUNT + 1) Reg.PW_SUPPLY_CNT_COUNT.top
        ∧ x.pw.setsA = s.tearSave.pw.setsA ∧ x.pw.setsB = s.tearSave.pw.setsB ∧ x.pw.lockFuse = s.pw.lockFuse ∧ x.tx = s.tx ∧ x.pending = s.pending
        ∧ ∀ n, x.pairLow n := by
  let y := ((s.clock t).supplyFall r mv).braceEnded
  let z := y.supplyCounted r
  obtain ⟨hsettings, hfuse, htxFall⟩ := (s.clock t).supplyFall_kept r mv
  obtain ⟨hpending, -, hphase, -⟩ := (s.clock t).supplyFall_frame r mv
  have hacts : ¬ (r.val = 6 ∨ railOk r = false ∨ (s.clock t).railReset r ≤ mv) := by
    have h6 : r.val ≠ 6 := fun h => hr6 (Fin.ext h)
    have h7 : r.val ≠ 7 := fun h => hr7 (Fin.ext h)
    have hmv : (s.clock t).railReset r = s.railReset r := rfl
    rw [hmv]
    simp only [railOk, h6, h7, ne_eq, not_false_eq_true, decide_true, Bool.true_eq_false, false_or, not_le]
    exact hlow
  have hexec : exec (.supplyReset t ⟨r, mv⟩) s = .next (z.dieReset 2 r) := by
    have hon' : (s.clock t).phase ≠ .powerOn := hon
    have hout' : y.phase ≠ .inReset := fun h => hout (hphase.symm.trans h)
    rw [execSupplyReset_eq, if_neg hacts, if_neg hon', if_neg hout']
    rfl
  have hreset := z.dieReset_power 2 r
  obtain ⟨hcause, hrail⟩ := z.dieReset_cause 2 r
  obtain ⟨htx, hqueue⟩ := z.dieReset_rest 2 r
  obtain ⟨hsetsA, hsetsB⟩ : z.tearSave.pw.setsA = s.tearSave.pw.setsA ∧ z.tearSave.pw.setsB = s.tearSave.pw.setsB :=
    State.tearSave_congr hsettings
  have hcount : (z.dieReset 2 r).h Reg.PW_SUPPLY_CNT_COUNT = min (s.h Reg.PW_SUPPLY_CNT_COUNT + 1) Reg.PW_SUPPLY_CNT_COUNT.top := by
    have hcounted : z.h Reg.PW_SUPPLY_CNT_COUNT = min (s.h Reg.PW_SUPPLY_CNT_COUNT + 1) Reg.PW_SUPPLY_CNT_COUNT.top :=
      (State.h_inc_same _ _).trans (congrArg (fun n => min (n + 1) Reg.PW_SUPPLY_CNT_COUNT.top) ((s.clock t).supplyFall_count r mv))
    rw [z.dieReset_kept 2 r (by simp [keptFields]), hcounted, Nat.min_assoc, Nat.min_self]
  have hrailTop : r.val ≤ Reg.PW_RST_CAUSE_RAIL.top := Nat.le_of_lt_succ r.isLt
  exact ⟨_, hexec, rfl, congrArg Gate.supplyLow hreset.gate, hcause, hrail.trans (Nat.min_eq_left hrailTop), hreset.supplyRep, hreset.brace, hcount,
    hreset.setsA.trans hsetsA, hreset.setsB.trans hsetsB, hreset.lockFuse.trans hfuse, htx.trans htxFall, hqueue.trans hpending,
    State.pairLow_of_not_ready Phase.noConfusion⟩

theorem rstNAssert_yields (t : Nat) (s : State) (hon : s.phase ≠ .powerOn) (hout : s.phase ≠ .inReset) (hhigh : s.pw.gate.rstLow = false) :
    Yields (.rstNAssert t) s fun x => x.phase = .inReset ∧ x.pw.gate.rstLow = true ∧ x.pw.gate.rstAt = max s.now t ∧ x.h Reg.PW_RST_CAUSE_CAUSE = 3
      ∧ x.h Reg.PW_PIN_CNT_COUNT = min (s.h Reg.PW_PIN_CNT_COUNT + 1) Reg.PW_PIN_CNT_COUNT.top
      ∧ x.pw.setsA = s.tearSave.pw.setsA ∧ x.pw.setsB = s.tearSave.pw.setsB ∧ x.pw.lockFuse = s.pw.lockFuse ∧ x.tx = s.tx ∧ x.pending = s.pending
      ∧ ∀ n, x.pairLow n := by
  let z := (s.clock t).rstHolds.inc Reg.PW_PIN_CNT_COUNT
  have hacts : ¬ ((s.clock t).phase = .powerOn ∨ (s.clock t).pw.gate.rstLow = true) := by
    rintro (h | h)
    · exact hon h
    · exact Bool.false_ne_true (hhigh.symm.trans h)
  have hexec : exec (.rstNAssert t) s = .next (z.dieReset 3 0) := by
    have hout' : (s.clock t).rstHolds.phase ≠ .inReset := hout
    rw [execRstNAssert_eq, if_neg hacts, if_neg hout']
  have hreset := z.dieReset_power 3 0
  obtain ⟨hcause, -⟩ := z.dieReset_cause 3 0
  obtain ⟨htx, hqueue⟩ := z.dieReset_rest 3 0
  obtain ⟨hsetsA, hsetsB⟩ : z.tearSave.pw.setsA = s.tearSave.pw.setsA ∧ z.tearSave.pw.setsB = s.tearSave.pw.setsB :=
    State.tearSave_congr ⟨rfl, rfl, rfl, rfl, rfl, rfl, rfl⟩
  have hcount : (z.dieReset 3 0).h Reg.PW_PIN_CNT_COUNT = min (s.h Reg.PW_PIN_CNT_COUNT + 1) Reg.PW_PIN_CNT_COUNT.top := by
    have hcounted : z.h Reg.PW_PIN_CNT_COUNT = min (s.h Reg.PW_PIN_CNT_COUNT + 1) Reg.PW_PIN_CNT_COUNT.top := State.h_inc_same _ _
    rw [z.dieReset_kept 3 0 (by simp [keptFields]), hcounted, Nat.min_assoc, Nat.min_self]
  exact ⟨_, hexec, rfl, congrArg Gate.rstLow hreset.gate, congrArg Gate.rstAt hreset.gate, hcause, hcount, hreset.setsA.trans hsetsA,
    hreset.setsB.trans hsetsB, hreset.lockFuse, htx, hqueue, State.pairLow_of_not_ready Phase.noConfusion⟩

/-! ### Release -/

theorem State.rstHigh_hold (s : State) :
    s.rstHigh.h Reg.PW_RST_HOLD_MS = min ((s.now - s.pw.gate.rstAt) / lsbMs) Reg.PW_RST_HOLD_MS.top ∧ OnlyFields [Reg.PW_RST_HOLD_MS] s s.rstHigh :=
  ⟨State.h_setH_same s Reg.PW_RST_HOLD_MS _, fun _ hf => (OnlyFields.setH (List.mem_singleton.mpr rfl) s _) _ hf⟩

theorem rstNRelease_held (t : Nat) (boot : BootFacts) (s : State) (hp : s.phase = .inReset) (hrst : s.pw.gate.rstLow = true)
    (hlow : s.pw.gate.supplyLow = true) : Yields (.rstNRelease t boot) s fun x => x.phase = .inReset ∧ x.pw.gate.rstLow = false
      ∧ x.pw.gate.supplyLow = true ∧ x.h Reg.PW_RST_HOLD_MS = min ((max s.now t - s.pw.gate.rstAt) / lsbMs) Reg.PW_RST_HOLD_MS.top
      ∧ OnlyFields [Reg.PW_RST_HOLD_MS] s x := by
  obtain ⟨hhold, honly⟩ := (s.clock t).rstHigh_hold
  have hheld : ¬ ((s.clock t).rstHigh.phase = .inReset ∧ (s.clock t).rstHigh.pw.gate.supplyLow = false) :=
    fun h => Bool.false_ne_true (h.2.symm.trans hlow)
  have hexec : exec (.rstNRelease t boot) s = .next (s.clock t).rstHigh :=
    (execRstNRelease_eq t boot s).trans (congrArg Host.Outcome.next ((if_pos hrst).trans (if_neg hheld)))
  exact ⟨_, hexec, hp, rfl, hlow, hhold, honly⟩

theorem rstNRelease_boots (t : Nat) (boot : BootFacts) (s : State) (hp : s.phase = .inReset) (hrst : s.pw.gate.rstLow = true)
    (hup : s.pw.gate.supplyLow = false) : Yields (.rstNRelease t boot) s fun x => (x.phase = .boot ∨ x.phase = .recovery) ∧ x.pw.gate.rstLow = false
      ∧ x.pw.releasedAt = max s.now t ∧ x.h Reg.PW_RST_HOLD_MS = min ((max s.now t - s.pw.gate.rstAt) / lsbMs) Reg.PW_RST_HOLD_MS.top := by
  obtain ⟨hhold, -⟩ := (s.clock t).rstHigh_hold
  obtain ⟨-, -, hgate, hphase⟩ := (s.clock t).rstHigh.dieBoot_boots boot
  have hkeeps := (s.clock t).rstHigh.dieBoot_keeps boot
  have hboots : (s.clock t).rstHigh.phase = .inReset ∧ (s.clock t).rstHigh.pw.gate.supplyLow = false := ⟨hp, hup⟩
  have hexec : exec (.rstNRelease t boot) s = .next ((s.clock t).rstHigh.dieBoot boot) :=
    (execRstNRelease_eq t boot s).trans (congrArg Host.Outcome.next ((if_pos hrst).trans (if_pos hboots)))
  exact ⟨_, hexec, hphase, congrArg Gate.rstLow hgate, hkeeps.releasedAt, (State.dieBoot_h _ (by decide)).trans hhold⟩

theorem dieRelease_held (t : Nat) (hv : BitVec 8) (boot : BootFacts) (s : State) (hp : s.phase = .inReset) (hlow : s.pw.gate.supplyLow = true)
    (hheld : (s.clock t).railsHeld = true) (hrst : s.pw.gate.rstLow = true) (hfirst : s.pw.gate.latched = false) :
    Yields (.dieRelease t hv boot) s fun x => x.phase = .inReset ∧ x.pw.gate.supplyLow = false ∧ x.pw.gate.latched = true
      ∧ x.h Reg.PW_IO_STAT_HV = hv.toNat ∧ OnlyFields [Reg.PW_IO_STAT_HV] s x := by
  let latched : State := { s.clock t with pw := { s.pw with gate := { s.pw.gate with latched := true } } }
  have hlatch : (s.clock t).ioLatched hv = latched.setH Reg.PW_IO_STAT_HV hv.toNat := by
    have hfirst' : ¬ ((s.clock t).pw.gate.latched = true) := fun h => Bool.false_ne_true (hfirst.symm.trans h)
    exact if_neg hfirst'
  have hexec : exec (.dieRelease t hv boot) s = .next (latched.setH Reg.PW_IO_STAT_HV hv.toNat).suppliesUp := by
    have hacts : (s.clock t).phase = .inReset ∧ (s.clock t).pw.gate.supplyLow = true ∧ (s.clock t).railsHeld = true := ⟨hp, hlow, hheld⟩
    rw [execDieRelease_eq, if_pos hacts, hlatch]
    exact congrArg Host.Outcome.next (if_pos hrst)
  have htop : hv.toNat ≤ Reg.PW_IO_STAT_HV.top := Nat.le_of_lt_succ hv.isLt
  refine ⟨_, hexec, hp, rfl, rfl, (State.h_setH_same latched _ _).trans (Nat.min_eq_left htop), ?_⟩
  exact fun f hf => OnlyFields.setH (List.mem_singleton.mpr rfl) latched hv.toNat f hf

/-- Both flashes and boot records read, nothing waits to be written, slot A is CONFIRMED and slot B EMPTY. -/
structure State.OneImage (s : State) : Prop where
  usedA : s.pw.badA = false
  usedB : s.pw.badB = false
  deferred : s.pw.deferred = []
  confirmed : s.pw.slotA.state = 4
  empty : s.pw.slotB.state = 0

theorem State.OneImage.slots {s : State} (h : s.OneImage) :
    s.slotUsable false = true ∧ s.slotUsable true = true ∧ (s.slotNow false).state = 4 ∧ (s.slotNow true).state = 0 := by
  have hA : s.slotNow false = s.pw.slotA := by simp [State.slotNow, State.slotRec, State.flashBad, h.deferred, h.usedA]
  have hB : s.slotNow true = s.pw.slotB := by simp [State.slotNow, State.slotRec, State.flashBad, h.deferred, h.usedB]
  rw [hA, hB]
  exact ⟨by simp [State.slotUsable, h.usedA], by simp [State.slotUsable, h.usedB], h.confirmed, h.empty⟩

/-- Slot A is the only candidate. -/
theorem State.OneImage.slotsIn {s : State} (h : s.OneImage) {st : Nat} (hst : st ≠ 0) : s.slotsIn st = if st = 4 then [false] else [] := by
  obtain ⟨hA, hB, hstA, hstB⟩ := h.slots
  have hkeep (b : Bool) : (s.slotUsable b && decide ((s.slotNow b).state = st)) = (!b && decide (st = 4)) := by
    cases b
    · rw [hA, hstA]
      simp [eq_comm]
    · rw [hB, hstB]
      simp [hst.symm]
  unfold State.slotsIn
  dsimp only
  simp only [hkeep]
  by_cases h4 : st = 4 <;> split <;> simp [h4]

theorem State.OneImage.selectSlot {s : State} (h : s.OneImage) :
    s.selectSlot = if s.slotValid false then s.bootSlot false false else { s.rejectSlot false with phase := .recovery } := by
  have hfell : s.fellBack = s := by rw [State.fellBack, h.slotsIn (by decide)]; rfl
  have hstaged : s.stagedSlot = none := by
    rw [State.stagedSlot, h.slotsIn (by decide)]
    exact ite_self none
  have hpick : s.pickSlot = s.tryBoot [false] := by
    rw [State.pickSlot, hstaged, h.slotsIn (by decide), h.slotsIn (by decide)]
    rfl
  rw [State.selectSlot_eq, hfell, hstaged, hpick, h.slotsIn (by decide), State.tryBoot]
  split <;> rfl

theorem Slot.read_state (x : Slot) (whole : Bool) (h : x.state = 0) : (x.read whole).state = 0 := by
  unfold Slot.read
  split
  · exact h
  · rfl

/-- The latch of the VDD_IO classes leaves the slots, their images and what waits to be written. -/
theorem State.ioLatched_images (s : State) (hv : BitVec 8) :
    (s.ioLatched hv).pw.slotA = s.pw.slotA ∧ (s.ioLatched hv).pw.slotB = s.pw.slotB ∧ (s.ioLatched hv).pw.imageA = s.pw.imageA
      ∧ (s.ioLatched hv).pw.keyDigest = s.pw.keyDigest ∧ (s.ioLatched hv).pw.minVersion = s.pw.minVersion
      ∧ (s.ioLatched hv).pw.deferred = s.pw.deferred := by
  unfold State.ioLatched
  split <;> exact ⟨rfl, rfl, rfl, rfl, rfl, rfl⟩

/-- The boot record of slot A, where it is read whole. -/
theorem State.slotA_recordsRead {y : State} {f : BootFacts} (hrec : f.recordA = true) (hsum : y.pw.slotA.crc = y.pw.slotA.sum) :
    (y.recordsRead f).pw.slotA = y.pw.slotA := by
  have hwhole : (f.recordA && decide (y.pw.slotA.crc = y.pw.slotA.sum)) = true := by rw [hrec, decide_eq_true hsum]; rfl
  exact if_pos hwhole

theorem dieRelease_boots (t : Nat) (hv : BitVec 8) (boot : BootFacts) (s : State) (hp : s.phase = .inReset) (hlow : s.pw.gate.supplyLow = true)
    (hheld : (s.clock t).railsHeld = true) (hrst : s.pw.gate.rstLow = false) (hsfdpA : boot.sfdpA = true) (hsfdpB : boot.sfdpB = true)
    (hrecA : boot.recordA = true) (_ : boot.recordB = true) (hdeferred : s.pw.deferred = []) (hsum : s.pw.slotA.crc = s.pw.slotA.sum)
    (hA : s.pw.slotA.state = 4) (hB : s.pw.slotB.state = 0) : Yields (.dieRelease t hv boot) s fun x =>
      (x.phase = if imageValid (s.pw.imageA.take s.pw.slotA.length) s.pw.keyDigest.toNat s.pw.minVersion then .boot else .recovery)
        ∧ (x.phase = .boot → x.pw.runB = false ∧ x.pw.trial = false ∧ x.h Reg.SYS_BOOT_SLOT = 0) ∧ x.pw.gate.supplyLow = false
        ∧ x.pw.releasedAt = max s.now t := by
  obtain ⟨-, hnow, -, hlow', -⟩ := (s.clock t).ioLatched_frame hv
  obtain ⟨hslot, hslotB, himageA, hkey, hmin, hdue⟩ := (s.clock t).ioLatched_images hv
  have hexec : exec (.dieRelease t hv boot) s = .next (((s.clock t).ioLatched hv).suppliesUp.dieBoot boot) := by
    have hacts : (s.clock t).phase = .inReset ∧ (s.clock t).pw.gate.supplyLow = true ∧ (s.clock t).railsHeld = true := ⟨hp, hlow, hheld⟩
    have hfree : ¬ (((s.clock t).ioLatched hv).suppliesUp.pw.gate.rstLow = true) := fun h => Bool.false_ne_true ((hrst.symm.trans hlow'.symm).trans h)
    rw [execDieRelease_eq, if_pos hacts]
    exact congrArg Host.Outcome.next (if_neg hfree)
  obtain ⟨-, -, hgate, hphase⟩ := ((s.clock t).ioLatched hv).suppliesUp.dieBoot_boots boot
  have hkeeps := ((s.clock t).ioLatched hv).suppliesUp.dieBoot_keeps boot
  have hslotA : (((s.clock t).ioLatched hv).suppliesUp.recordsRead boot).pw.slotA = s.pw.slotA :=
    (State.slotA_recordsRead hrecA ((congrArg Slot.crc hslot).trans (hsum.trans (congrArg Slot.sum hslot).symm))).trans hslot
  have hone : (((s.clock t).ioLatched hv).suppliesUp.recordsRead boot).OneImage := by
    constructor
    · simp [State.recordsRead, hsfdpA]
    · simp [State.recordsRead, hsfdpB]
    · exact hdue.trans hdeferred
    · exact (congrArg Slot.state hslotA).trans hA
    · exact Slot.read_state _ _ ((congrArg Slot.state hslotB).trans hB)
  have hboot : ((s.clock t).ioLatched hv).suppliesUp.dieBoot boot = (((s.clock t).ioLatched hv).suppliesUp.recordsRead boot).selectSlot := by
    rw [State.dieBoot_eq, hsfdpA, hsfdpB]
    rfl
  have hvalid : (((s.clock t).ioLatched hv).suppliesUp.recordsRead boot).slotValid false
      = imageValid (s.pw.imageA.take s.pw.slotA.length) s.pw.keyDigest.toNat s.pw.minVersion := by
    have hlength : ((((s.clock t).ioLatched hv).suppliesUp.recordsRead boot).slotRec false).length = s.pw.slotA.length := by
      rw [State.slotRec, State.flashBad, if_neg Bool.false_ne_true, hone.usedA, if_neg Bool.false_ne_true, if_neg Bool.false_ne_true, hslotA]
    have himage : (((s.clock t).ioLatched hv).suppliesUp.recordsRead boot).imageOf false = s.pw.imageA := himageA
    have hdigest : (((s.clock t).ioLatched hv).suppliesUp.recordsRead boot).pw.keyDigest = s.pw.keyDigest := hkey
    have hversion : (((s.clock t).ioLatched hv).suppliesUp.recordsRead boot).pw.minVersion = s.pw.minVersion := hmin
    rw [State.slotValid, State.image, hlength, himage, hdigest, hversion]
  refine ⟨_, hexec, ?_, ?_, congrArg Gate.supplyLow hgate, hkeeps.releasedAt.trans hnow⟩
  · rw [hboot, hone.selectSlot, hvalid]
    split
    · rfl
    · rfl
  · rw [hboot, hone.selectSlot, hvalid]
    split
    · exact fun _ => ⟨rfl, rfl, (State.h_flag_same _ _ _).trans rfl⟩
    · exact fun h => Phase.noConfusion h

/-! ### Watchdog and REBOOT -/

/-- A reset that nothing holds: the cause shows, the die boots again, and no member of a safety pair is driven. -/
theorem State.resetNow_spec (s : State) (cause : Nat) (boot : BootFacts) (hcause : cause ≤ Reg.PW_RST_CAUSE_CAUSE.top) :
    ((s.resetNow cause boot).phase = .boot ∨ (s.resetNow cause boot).phase = .recovery) ∧ (s.resetNow cause boot).h Reg.PW_RST_CAUSE_CAUSE = cause
      ∧ (s.resetNow cause boot).pw.releasedAt = s.now ∧ (s.resetNow cause boot).pw.rebootAt = none ∧ (s.resetNow cause boot).tx = s.tx
      ∧ (s.resetNow cause boot).pending = s.pending ∧ (s.resetNow cause boot).pw.lockFuse = s.pw.lockFuse ∧ ∀ n, (s.resetNow cause boot).pairLow n := by
  obtain ⟨hpending, -, -, hphase⟩ := (s.dieReset cause 0).dieBoot_boots boot
  obtain ⟨htx, hqueue⟩ := s.dieReset_rest cause 0
  have hnow : (s.dieReset cause 0).now = s.now := by simp
  obtain ⟨hreleased, hreboot, hfuse, hsent⟩ := (s.dieReset cause 0).dieBoot_rest boot
  have hreset := s.dieReset_power cause 0
  have hshown := (s.dieReset_cause cause 0).1
  exact ⟨hphase, (State.dieBoot_h _ (by decide)).trans (hshown.trans (Nat.min_eq_left hcause)), hreleased.trans hnow, hreboot.trans hreset.rebootAt,
    hsent.trans htx, hpending.trans hqueue, hfuse.trans hreset.lockFuse, State.pairLow_of_not_ready (State.not_ready_of_booted hphase)⟩

theorem mgmtWatchdogExpiry_yields (t : Nat) (boot : BootFacts) (s : State) (hr : s.phase = .ready) : Yields (.mgmtWatchdogExpiry t boot) s fun x =>
    (x.phase = .boot ∨ x.phase = .recovery) ∧ x.h Reg.PW_RST_CAUSE_CAUSE = 5 ∧ x.pw.releasedAt = max s.now t ∧ x.tx = s.tx ∧ x.pending = s.pending
      ∧ x.pw.lockFuse = s.pw.lockFuse ∧ ∀ n, x.pairLow n := by
  obtain ⟨hphase, hcause, hreleased, -, htx, hpending, hfuse, hlow⟩ := (s.clock t).resetNow_spec 5 boot (by decide)
  have hexec : exec (.mgmtWatchdogExpiry t boot) s = .next ((s.clock t).resetNow 5 boot) := by
    have hruns : (s.clock t).phase = .boot ∨ (s.clock t).phase = .ready := .inr hr
    show execMgmtWatchdogExpiry t boot s = _
    unfold execMgmtWatchdogExpiry
    dsimp only
    rw [if_pos hruns]
  exact ⟨_, hexec, hphase, hcause, hreleased, htx, hpending, hfuse, hlow⟩

theorem rebootReset_yields (t : Nat) (boot : BootFacts) (y : Nat) (s : State) (hdue : s.pw.rebootAt = some y) (hy : y ≤ max s.now t) :
    Yields (.rebootReset t boot) s fun x => (x.phase = .boot ∨ x.phase = .recovery) ∧ x.h Reg.PW_RST_CAUSE_CAUSE = 4 ∧ x.pw.rebootAt = none
      ∧ x.tx = s.tx ∧ x.pending = s.pending ∧ x.pw.lockFuse = s.pw.lockFuse ∧ ∀ n, x.pairLow n := by
  obtain ⟨hphase, hcause, -, hreboot, htx, hpending, hfuse, hlow⟩ := (s.clock t).resetNow_spec 4 boot (by decide)
  have hexec : exec (.rebootReset t boot) s = .next ((s.clock t).resetNow 4 boot) := by
    have hdue' : (s.clock t).pw.rebootAt = some y := hdue
    show execRebootReset t boot s = _
    unfold execRebootReset
    dsimp only
    rw [hdue']
    exact congrArg Host.Outcome.next (if_pos hy)
  exact ⟨_, hexec, hphase, hcause, hreboot, htx, hpending, hfuse, hlow⟩

end Sys2Proof.Machine
end

section
namespace Sys2Proof
open Machine

/-- Settles O57: a boot writes none of the fields that show the reset (State.BootKeeps), and with slot A CONFIRMED and slot B EMPTY slot A is its
only candidate (State.OneImage.selectSlot). -/
theorem resetsHoldTheDie : Obligations.ResetsHoldTheDie := by
  unfold Obligations.ResetsHoldTheDie
  exact ⟨powerOnReset_yields, powerOnRelease_yields, supplyReset_yields, rstNAssert_yields, rstNRelease_held, rstNRelease_boots, dieRelease_held,
    dieRelease_boots, mgmtWatchdogExpiry_yields, rebootReset_yields⟩

end Sys2Proof
end

section
/-!
SUPPORT. BRACE, the rails, the self-tests and the end of the boot (R434, R437 to R439, R449, R452).
-/

namespace Sys2Proof.Machine

/-! ### BRACE_ENTRY -/

/-- The rails' minima start anew. -/
def State.minimaReset (s : State) : State := (List.range 16).foldl (fun s i => s.setH (Reg.PW_RAIL_MIN_MV i) scoreMax) s

/-- BRACE is noted with its first rail, in power and in what thermal management looks at. -/
def State.braceNoted (s : State) (r : Nat) : State :=
  { s with pw := { s.pw with brace := true, braceRail := some r, crossed := [] }, th := { s.th with braceIn := List.range 176 } }

theorem State.minimaReset_eq (s : State) :
    s.minimaReset = ((List.range 16).map Reg.PW_RAIL_MIN_MV).foldl (fun x f => x.setH f scoreMax) s := by
  rw [List.foldl_map]
  rfl

theorem railMin_keys : (((List.range 16).map Reg.PW_RAIL_MIN_MV).map Fld.key).Nodup ∧ Reg.PW_RAIL_STAT_BELOW.key ∉ ((List.range 16).map Reg.PW_RAIL_MIN_MV).map Fld.key
    ∧ Reg.PW_BRACE_CNT_COUNT.key ∉ ((List.range 16).map Reg.PW_RAIL_MIN_MV).map Fld.key
    ∧ Reg.PW_STAT_BRACE_SEEN.key ∉ ((List.range 16).map Reg.PW_RAIL_MIN_MV).map Fld.key := by decide

theorem State.minimaReset_only (s : State) : OnlyFields ((List.range 16).map Reg.PW_RAIL_MIN_MV) s s.minimaReset := by
  rw [State.minimaReset_eq]
  exact OnlyFields.foldl _ _ (fun s f hf => OnlyFields.setH hf s _) s

theorem State.h_minimaReset_min (s : State) (r : Rail) : s.minimaReset.h (Reg.PW_RAIL_MIN_MV r) = scoreMax := by
  have hmem : Reg.PW_RAIL_MIN_MV r ∈ (List.range 16).map Reg.PW_RAIL_MIN_MV := List.mem_map_of_mem (List.mem_range.mpr r.isLt)
  rw [State.minimaReset_eq, State.h_setAll_of_mem _ _ _ _ hmem railMin_keys.1]
  rfl

theorem State.minimaReset_untouched (s : State) : Untouched [.fields] s s.minimaReset :=
  Untouched.foldl _ (fun s _ => s.setH_untouched _ _) _ s

theorem State.minimaReset_phase (s : State) : s.minimaReset.phase = s.phase := by
  rw [State.minimaReset]
  exact foldl_inv State.phase _ (fun (s : State) i => s.setH (Reg.PW_RAIL_MIN_MV i) scoreMax) s fun _ _ => rfl

theorem State.braceNoted_phase (s : State) (r : Nat) : (s.braceNoted r).phase = s.phase := rfl

theorem State.braceMark_eq {s : State} (r : Nat) (hp : s.phase ≠ .inReset) :
    s.braceMark r = (((s.minimaReset.braceNoted r).flag Reg.PW_STAT_BRACE_SEEN true).inc Reg.PW_BRACE_CNT_COUNT).markSuspect := by
  have hp' : (s.minimaReset.braceNoted r).phase ≠ .inReset := by
    rw [State.braceNoted_phase, State.minimaReset_phase]
    exact hp
  have hmark : s.braceMark r = (if (s.minimaReset.braceNoted r).phase = .inReset then s.minimaReset.braceNoted r
      else ((s.minimaReset.braceNoted r).flag Reg.PW_STAT_BRACE_SEEN true).inc Reg.PW_BRACE_CNT_COUNT).markSuspect := rfl
  rw [hmark, if_neg hp']

theorem State.h_braceNoted (s : State) (r : Nat) (f : Fld) : (s.braceNoted r).h f = s.h f := rfl

/-- What the beginning of a BRACE shows. -/
theorem State.braceMark_shows {s : State} (r : Rail) (hp : s.phase ≠ .inReset) :
    (s.braceMark r).h Reg.PW_STAT_BRACE_SEEN = 1
      ∧ (s.braceMark r).h Reg.PW_BRACE_CNT_COUNT = min (s.h Reg.PW_BRACE_CNT_COUNT + 1) Reg.PW_BRACE_CNT_COUNT.top
      ∧ (s.braceMark r).h (Reg.PW_RAIL_MIN_MV r) = scoreMax ∧ (s.braceMark r).h Reg.PW_RAIL_STAT_BELOW = s.h Reg.PW_RAIL_STAT_BELOW := by
  obtain ⟨-, hbelow, hcount, hseen⟩ := railMin_keys
  have hkeys : Reg.PW_STAT_BRACE_SEEN.key ≠ Reg.PW_BRACE_CNT_COUNT.key ∧ Reg.PW_RAIL_STAT_BELOW.key ≠ Reg.PW_BRACE_CNT_COUNT.key
      ∧ Reg.PW_RAIL_STAT_BELOW.key ≠ Reg.PW_STAT_BRACE_SEEN.key ∧ Reg.PW_BRACE_CNT_COUNT.key ≠ Reg.PW_STAT_BRACE_SEEN.key := by decide
  obtain ⟨hseenCount, hbelowCount, hbelowSeen, hcountSeen⟩ := hkeys
  have hminKey (f : Fld) (hf : f.key ∉ ((List.range 16).map Reg.PW_RAIL_MIN_MV).map Fld.key) : (Reg.PW_RAIL_MIN_MV r).key ≠ f.key := fun h =>
    hf (h ▸ List.mem_map_of_mem (List.mem_map_of_mem (List.mem_range.mpr r.isLt)))
  rw [State.braceMark_eq r hp]
  simp only [State.h_markSuspect]
  refine ⟨?_, ?_, ?_, ?_⟩
  · rw [State.h_inc_ne _ _ _ hseenCount, State.h_flag_same]
    rfl
  · rw [State.h_inc_same, State.h_flag_ne _ _ _ _ hcountSeen, State.h_braceNoted, s.minimaReset_only _ hcount]
  · rw [State.h_inc_ne _ _ _ (hminKey _ hcount), State.h_flag_ne _ _ _ _ (hminKey _ hseen), State.h_braceNoted, State.h_minimaReset_min]
  · rw [State.h_inc_ne _ _ _ hbelowCount, State.h_flag_ne _ _ _ _ hbelowSeen, State.h_braceNoted, s.minimaReset_only _ hbelow]

theorem State.braceNoted_untouched (s : State) (r : Nat) : Untouched [.power, .thermal] s (s.braceNoted r) := by
  intro g hg
  cases g <;> simp [Group.same, State.braceNoted] at hg ⊢

theorem State.markSuspect_untouched (s : State) : Untouched [.fold] s s.markSuspect := by
  intro g hg
  cases g <;> simp [Group.same] at hg ⊢

theorem State.braceMark_untouched {s : State} (r : Nat) (hp : s.phase ≠ .inReset) : Untouched [.fields, .power, .thermal, .fold] s (s.braceMark r) := by
  rw [State.braceMark_eq r hp]
  exact ((((s.minimaReset_untouched).mono.trans (State.braceNoted_untouched _ _).mono).trans (State.flag_untouched _ _ _).mono).trans
    (State.inc_untouched _ _).mono).trans (State.markSuspect_untouched _).mono

theorem State.braceMark_pw {s : State} (r : Nat) (hp : s.phase ≠ .inReset) :
    (s.braceMark r).pw = { s.pw with brace := true, braceRail := some r, crossed := [] } := by
  have hpw : s.minimaReset.pw = s.pw := s.minimaReset_untouched .power (by decide)
  rw [State.braceMark_eq r hp]
  simp [State.braceNoted, hpw]

/-- With no command queued none waits for room. -/
theorem State.refuseStages_of_none {s : State} (h : s.cm.queues = []) : s.refuseStages = s := by
  rw [State.refuseStages, h]
  rfl

/-- The rail's bit is set, and what it holds up starts again. -/
def State.railFalls (s : State) (r : Nat) : State := (s.orBit Reg.PW_RAIL_STAT_BELOW r).railUnder r

/-- A bit that is set reads as set, in a field of its width. -/
theorem State.testBit_orBit (s : State) (f : Fld) {i : Nat} (hi : i < f.w) : ((s.orBit f i).h f).testBit i = true := by
  have hset : (s.h f ||| 2 ^ i).testBit i = true := by simp [Nat.testBit_or, Nat.testBit_two_pow_self]
  have htop : f.top.testBit i = true := by simp [Fld.top, Nat.testBit_two_pow_sub_one, hi]
  rw [State.orBit, State.h_setH_same]
  obtain h | h := Nat.le_total (s.h f ||| 2 ^ i) f.top
  · rw [Nat.min_eq_left h, hset]
  · rw [Nat.min_eq_right h, htop]

theorem railMin_ne_below (r : Rail) : Reg.PW_RAIL_STAT_BELOW.key ≠ (Reg.PW_RAIL_MIN_MV r).key := by
  simp only [Fld.key, Reg.PW_RAIL_STAT_BELOW, Reg.PW_RAIL_STAT, Reg.PW_RAIL_MIN_MV, Reg.PW_RAIL_MIN]
  omega

/-- The fields that a BRACE's first rail shows are not its minimum. -/
theorem railMin_ne_brace (r : Rail) :
    Reg.PW_STAT_BRACE_SEEN.key ≠ (Reg.PW_RAIL_MIN_MV r).key ∧ Reg.PW_BRACE_CNT_COUNT.key ≠ (Reg.PW_RAIL_MIN_MV r).key := by
  simp only [Fld.key, Reg.PW_STAT_BRACE_SEEN, Reg.PW_STAT, Reg.PW_BRACE_CNT_COUNT, Reg.PW_BRACE_CNT, Reg.PW_RAIL_MIN_MV, Reg.PW_RAIL_MIN]
  omega

/-- The rails that have crossed the warning level in the BRACE. -/
def State.noteCrossed (s : State) (r : Nat) : State := { s with pw := { s.pw with crossed := addOnce r s.pw.crossed } }

theorem State.braceEntry_begins {s : State} {r : Rail} {mv : Nat} (hr : r ≠ 7) (hp : s.phase = .ready) (hup : s.pw.gate.supplyLow = false)
    (hbrace : s.pw.brace = false) (hqueues : s.cm.queues = []) (hmv : mv < s.railWarning r) :
    s.braceEntry r mv = ((((s.railFalls r).braceMark r).noteCrossed r).railDown r mv) := by
  have hrail : railOk r = true := decide_eq_true fun h => hr (Fin.ext h)
  have hfalls : ¬ (railOk r = false ∨ s.railWarning r + s.railHyst r < mv) := by rw [hrail]; simp; omega
  have hcrosses : ¬ (s.phase = .powerOn ∨ s.railWarning r ≤ mv) := by rw [hp]; simp; omega
  have hfree : ¬ (s.pw.gate.supplyLow = true) := by rw [hup]; exact Bool.false_ne_true
  have hnone : ((s.railFalls r).braceMark r).cm.queues = [] := by
    have hcm : ((s.railFalls r).braceMark r).cm = (s.railFalls r).cm :=
      State.braceMark_untouched (s := s.railFalls r) r (by rw [show (s.railFalls r).phase = s.phase from rfl, hp]; exact Phase.noConfusion) .command (by decide)
    rw [hcm]
    exact hqueues
  have hbegins : ¬ ((s.railFalls r).pw.brace = true) := by rw [show (s.railFalls r).pw.brace = s.pw.brace from rfl, hbrace]; exact Bool.false_ne_true
  have hstart : (if (s.railFalls r).pw.brace then s.railFalls r else (s.railFalls r).braceStart r.val) = (s.railFalls r).braceMark r := by
    rw [if_neg hbegins, State.braceStart, State.refuseStages_of_none hnone]
  rw [State.braceEntry, if_neg hfalls, if_neg hcrosses, if_neg hfree]
  exact congrArg (fun y : State => (y.noteCrossed r).railDown r mv) hstart

theorem State.railUnder_untouched (s : State) (r : Nat) : Untouched [.power] s (s.railUnder r) := by
  intro g hg
  cases g <;> simp [Group.same, State.railUnder] at hg ⊢

theorem State.noteCrossed_untouched (s : State) (r : Nat) : Untouched [.power] s (s.noteCrossed r) := by
  intro g hg
  cases g <;> simp [Group.same, State.noteCrossed] at hg ⊢

/-- Where queue, clock and phase are as a command of a block would leave them, only what holds the die is set back. -/
theorem State.keep_of_standing {s x : State} {t : Nat} (hpending : x.pending = s.pending) (hnow : x.now = max s.now t) (hphase : x.phase = s.phase) :
    s.keep t x = { x with pw := { x.pw with gate := s.pw.gate } } := by
  unfold State.keep
  rw [← hpending, ← hnow, ← hphase]

theorem braceEntry_begins (t : Nat) (r : Rail) (mv : Nat) (s : State) (hr : s.phase = .ready) (hup : s.pw.gate.supplyLow = false) (hr7 : r ≠ 7)
    (hbrace : s.pw.brace = false) (hqueues : s.cm.queues = []) (hmv : mv < s.railWarning r) :
    Yields (.braceEntry t r mv) s fun x => x.pw.brace = true ∧ x.pw.braceRail = some r.val ∧ x.h Reg.PW_STAT_BRACE_SEEN = 1
      ∧ x.h Reg.PW_BRACE_CNT_COUNT = min (s.h Reg.PW_BRACE_CNT_COUNT + 1) Reg.PW_BRACE_CNT_COUNT.top
      ∧ x.h (Reg.PW_RAIL_MIN_MV r) = min mv (Reg.PW_RAIL_MIN_MV r).top ∧ (x.h Reg.PW_RAIL_STAT_BELOW).testBit r = true
      ∧ x.pw.gate = { s.pw.gate with under := addOnce r.val s.pw.gate.under }
      ∧ Frame t [.fields, .power, .thermal, .fold] s { x with pw := { x.pw with gate := s.pw.gate } } := by
  have hexec : exec (.braceEntry t r mv) s = .next (((((s.clock t).railFalls r).braceMark r).noteCrossed r).railDown r mv) := by
    rw [execBraceEntry_eq, State.braceEntry_begins (s := s.clock t) hr7 hr hup hbrace hqueues hmv]
  have hp : ((s.clock t).railFalls r).phase ≠ .inReset := by
    rw [show ((s.clock t).railFalls r).phase = s.phase from rfl, hr]
    exact Phase.noConfusion
  obtain ⟨hseen, hcount, hmin, hbelow⟩ := State.braceMark_shows r hp
  have hpw := State.braceMark_pw r.val hp
  have hrest := State.braceMark_untouched r.val hp
  obtain ⟨⟨hpending, hnow, hphase, -⟩, -⟩ := ((s.clock t).railFalls r).braceMark_standing r
  obtain ⟨hkeySeen, hkeyCount⟩ := railMin_ne_brace r
  have hfallen : Untouched [.fields, .power, .thermal, .fold] (s.clock t) ((s.clock t).railFalls r) :=
    (State.orBit_untouched _ _ _).mono.trans (State.railUnder_untouched _ _).mono
  have hbits : (((s.clock t).railFalls r).h Reg.PW_RAIL_STAT_BELOW).testBit r = true := State.testBit_orBit (s.clock t) Reg.PW_RAIL_STAT_BELOW r.isLt
  generalize hz : ((s.clock t).railFalls r).braceMark r = z at *
  refine ⟨_, hexec, congrArg Power.brace hpw, congrArg Power.braceRail hpw, ?_, ?_, ?_, ?_, congrArg Power.gate hpw, ?_⟩
  · exact (State.h_setH_ne _ _ _ _ hkeySeen).trans hseen
  · have hbefore : ((s.clock t).railFalls r).h Reg.PW_BRACE_CNT_COUNT = s.h Reg.PW_BRACE_CNT_COUNT := State.h_setH_ne _ _ _ _ (by decide)
    exact (State.h_setH_ne _ _ _ _ hkeyCount).trans (hcount.trans (by rw [hbefore]))
  · refine (State.h_setH_same _ _ _).trans ?_
    have hwas : (z.noteCrossed r).h (Reg.PW_RAIL_MIN_MV r) = scoreMax := hmin
    rw [hwas, Nat.min_assoc]
    rfl
  · rw [State.railDown, State.h_setH_ne _ _ _ _ (railMin_ne_below r)]
    exact hbelow.symm ▸ hbits
  · rw [← State.keep_of_standing (s := s) (t := t) (x := (z.noteCrossed r).railDown r mv) hpending hnow hphase]
    exact Frame.of_untouched (((hfallen.trans hrest).trans (State.noteCrossed_untouched _ _).mono).trans (State.setH_untouched _ _ _).mono)

theorem braceEntry_dips (t : Nat) (r : Rail) (mv : Nat) (s : State) (hr7 : r ≠ 7) (hwarning : s.railWarning r ≤ mv)
    (hdip : mv ≤ s.railWarning r + s.railHyst r) : Yields (.braceEntry t r mv) s fun x =>
      x.pw.gate = { s.pw.gate with under := addOnce r.val s.pw.gate.under } ∧ x = { s.clock t with pw := { s.pw with gate := x.pw.gate } } := by
  have hrail : railOk r = true := decide_eq_true fun h => hr7 (Fin.ext h)
  have hfalls : ¬ (railOk r = false ∨ (s.clock t).railWarning r + (s.clock t).railHyst r < mv) := by
    rw [hrail]
    exact not_or.mpr ⟨Bool.noConfusion, Nat.not_lt.mpr hdip⟩
  have hdips : (s.clock t).phase = .powerOn ∨ (s.clock t).railWarning r ≤ mv := .inr hwarning
  have hexec : exec (.braceEntry t r mv) s = .next ((s.clock t).railUnder r) := by
    rw [execBraceEntry_eq, State.braceEntry, if_neg hfalls, if_pos hdips]
  exact ⟨_, hexec, rfl, rfl⟩

/-! ### RAIL_ABOVE_WARNING and BRACE_END -/

/-- A bit that is cleared reads as cleared, in a field of its width. -/
theorem State.testBit_clrBit (s : State) (f : Fld) {i : Nat} (hi : i < f.w) : ((s.clrBit f i).h f).testBit i = false := by
  have htop : f.top.testBit i = true := by simp [Fld.top, Nat.testBit_two_pow_sub_one, hi]
  have hle : (s.h f &&& (f.top ^^^ 2 ^ i)) ≤ f.top := by
    have hpow : f.top ^^^ 2 ^ i < 2 ^ f.w :=
      Nat.xor_lt_two_pow (Nat.sub_lt (Nat.two_pow_pos _) Nat.one_pos) (Nat.pow_lt_pow_right (by decide) hi)
    exact Nat.le_sub_one_of_lt (Nat.lt_of_le_of_lt Nat.and_le_right hpow)
  rw [State.clrBit, State.h_setH_same, Nat.min_eq_left hle]
  simp [Nat.testBit_and, Nat.testBit_xor, htop, Nat.testBit_two_pow_self]

/-- A rail has risen: what it held up starts from now. -/
def State.railRises (s : State) (r : Nat) : State :=
  { s with pw := { s.pw with gate := { s.pw.gate with
      under := s.pw.gate.under.filter (· ≠ r), riseAt := s.now, aonAt := if r = 6 then s.now else s.pw.gate.aonAt } } }

theorem execRailAboveWarning_eq (t : Nat) (r : Rail) (dip : RailRise) (s : State) :
    exec (.railAboveWarning t r dip) s = .next (
      if railOk r = false ∨ dip.mv ≤ (s.clock t).railWarning r + (s.clock t).railHyst r then s.clock t
      else if (((s.clock t).clrBit Reg.PW_RAIL_STAT_BELOW r).railRises r).pw.brace
          && (((s.clock t).clrBit Reg.PW_RAIL_STAT_BELOW r).railRises r).pw.crossed.contains r.val
        then (((s.clock t).clrBit Reg.PW_RAIL_STAT_BELOW r).railRises r).railDown r dip.minMv
      else ((s.clock t).clrBit Reg.PW_RAIL_STAT_BELOW r).railRises r) := rfl

theorem railAboveWarning_yields (t : Nat) (r : Rail) (mv lo : Nat) (s : State) (_ : s.phase ≠ .powerOn) (hr7 : r ≠ 7) (hbrace : s.pw.brace = false)
    (hrise : s.railWarning r + s.railHyst r < mv) : Yields (.railAboveWarning t r ⟨mv, lo⟩) s fun x =>
      (x.h Reg.PW_RAIL_STAT_BELOW).testBit r = false ∧ x.pw.gate = { s.pw.gate with
        under := s.pw.gate.under.filter (· ≠ r.val), riseAt := max s.now t, aonAt := if r.val = 6 then max s.now t else s.pw.gate.aonAt }
      ∧ x.phase = s.phase ∧ x.tx = s.tx ∧ OnlyFields [Reg.PW_RAIL_STAT_BELOW] s x := by
  have hrail : railOk r = true := decide_eq_true fun h => hr7 (Fin.ext h)
  have hrises : ¬ (railOk r = false ∨ mv ≤ (s.clock t).railWarning r + (s.clock t).railHyst r) := by
    rw [hrail]
    exact not_or.mpr ⟨Bool.noConfusion, Nat.not_le.mpr hrise⟩
  have hexec : exec (.railAboveWarning t r ⟨mv, lo⟩) s = .next (((s.clock t).clrBit Reg.PW_RAIL_STAT_BELOW r).railRises r) := by
    have hquiet : ¬ ((((s.clock t).clrBit Reg.PW_RAIL_STAT_BELOW r).railRises r).pw.brace
        && (((s.clock t).clrBit Reg.PW_RAIL_STAT_BELOW r).railRises r).pw.crossed.contains r.val) = true := by
      have hnone : (((s.clock t).clrBit Reg.PW_RAIL_STAT_BELOW r).railRises r).pw.brace = false := hbrace
      rw [hnone]
      exact Bool.false_ne_true
    rw [execRailAboveWarning_eq, if_neg hrises, if_neg hquiet]
  refine ⟨_, hexec, State.testBit_clrBit (s.clock t) Reg.PW_RAIL_STAT_BELOW r.isLt, rfl, rfl, rfl, ?_⟩
  exact fun f hf => OnlyFields.setH (List.mem_singleton.mpr rfl) (s.clock t) _ f hf

/-- BRACE has ended. -/
def State.braceOver (s : State) : State := { s with pw := { s.pw with brace := false, braceRail := none, crossed := [] } }

theorem State.braceOver_untouched (s : State) : Untouched [.power] s s.braceOver := by
  intro g hg
  cases g <;> simp [Group.same, State.braceOver] at hg ⊢

theorem braceEnd_yields (t : Nat) (r : Nat) (s : State) (hr : s.phase = .ready) (hbrace : s.pw.brace = true) (hrail : s.pw.braceRail = some r)
    (hheld : (s.clock t).railsHeld = true) : Yields (.braceEnd t) s fun x => x.pw.brace = false
      ∧ (∃ q, x.ev.inbox = s.ev.inbox ++ [q] ∧ q.code = Ev.supplyBrace.code ∧ q.e10 = r % 2 ^ 20 ∧ q.e11 = s.h (Reg.PW_RAIL_MIN_MV r) % 2 ^ 20)
      ∧ Frame t [.power, .events] s x := by
  have hexec : exec (.braceEnd t) s = .next ((s.clock t).braceOver.raise .supplyBrace r (s.h (Reg.PW_RAIL_MIN_MV r))) := by
    have hbrace' : (s.clock t).pw.brace = true := hbrace
    have hrail' : (s.clock t).pw.braceRail = some r := hrail
    have hlive : (s.clock t).braceOver.live = true := decide_eq_true hr
    show execBraceEnd t s = _
    unfold execBraceEnd
    dsimp only
    rw [hbrace', hrail']
    exact congrArg Host.Outcome.next ((if_pos hheld).trans (if_pos hlive))
  refine ⟨_, hexec, rfl, ⟨_, rfl, rfl, rfl, rfl⟩, ?_⟩
  have hframe : Frame t [.power, .events] s (s.keep t ((s.clock t).braceOver.raise .supplyBrace r (s.h (Reg.PW_RAIL_MIN_MV r)))) :=
    Frame.of_untouched ((State.braceOver_untouched _).mono.trans (State.raise_untouched _ _ _ _).mono)
  exact hframe

/-! ### Self-tests and the end of the boot -/

theorem selfTestComplete_passed (t : Nat) (boot : BootFacts) (s : State) (hp : s.phase = .boot) (htrial : s.pw.trial = false) :
    Yields (.selfTestComplete t true boot) s fun x =>
      x.pw = { s.pw with gate := { s.pw.gate with selfTest := true } } ∧ x.phase = .boot ∧ x.regs = s.regs := by
  have hexec : exec (.selfTestComplete t true boot) s
      = .next { s.clock t with pw := { s.pw with gate := { s.pw.gate with selfTest := true } } } := by
    have hp' : (s.clock t).phase = .boot := hp
    have hnone : ¬ (({ s.pw with gate := { s.pw.gate with selfTest := true } } : Power).trial = true) := by
      rw [show ({ s.pw with gate := { s.pw.gate with selfTest := true } } : Power).trial = s.pw.trial from rfl, htrial]
      exact Bool.false_ne_true
    show execSelfTestComplete t true boot s = _
    unfold execSelfTestComplete
    dsimp only
    rw [if_pos hp', if_pos rfl]
    exact congrArg Host.Outcome.next (if_neg hnone)
  exact ⟨_, hexec, rfl, hp, rfl⟩

theorem selfTestComplete_failed (t : Nat) (boot : BootFacts) (s : State) (hp : s.phase = .boot) (htrial : s.pw.trial = true) :
    Yields (.selfTestComplete t false boot) s fun x =>
      (x.phase = .boot ∨ x.phase = .recovery) ∧ x.h Reg.PW_RST_CAUSE_CAUSE = 6 ∧ x.pw.releasedAt = max s.now t := by
  obtain ⟨hphase, hcause, hreleased, -⟩ := (s.clock t).resetNow_spec 6 boot (by decide)
  have hexec : exec (.selfTestComplete t false boot) s = .next ((s.clock t).resetNow 6 boot) := by
    have hp' : (s.clock t).phase = .boot := hp
    have htrial' : (s.clock t).pw.trial = true := htrial
    show execSelfTestComplete t false boot s = _
    unfold execSelfTestComplete
    dsimp only
    rw [if_pos hp', if_neg Bool.false_ne_true, if_pos htrial']
  exact ⟨_, hexec, hphase, hcause, hreleased⟩

/-- The reports of a boot change of power only what they were kept in. -/
theorem State.bootReports_pw (s : State) : s.bootReports.pw = { s.pw with stuckRep := none, supplyRep := none, braceRep := none, due := [] } := by
  obtain ⟨-, -, -, hpw⟩ := s.bootEvents_life
  obtain ⟨-, -, -, hpw'⟩ := s.bootEvents.reportsTaken.dueReported_life s.bootEvents.pw.due
  rw [State.bootReports_eq, hpw', State.reportsTaken, hpw]

theorem State.readyNow_pw (s : State) : s.readyNow.pw.readyAt = s.now ∧ s.readyNow.pw.rebootAt = s.pw.rebootAt := by
  unfold State.readyNow
  dsimp only
  split <;> split <;> exact ⟨rfl, rfl⟩

theorem State.restoreFails_pw (s : State) : s.restoreFails.pw.readyAt = s.pw.readyAt ∧ s.restoreFails.pw.rebootAt = s.pw.rebootAt := by
  unfold State.restoreFails
  split <;> exact ⟨rfl, rfl⟩

theorem State.later_foldl_reboot {α : Type} (e : α → Ev) (a b : α → Nat) (l : List α) (s : State) :
    (l.foldl (fun s x => s.later (e x) (a x) (b x)) s).pw.rebootAt = s.pw.rebootAt :=
  foldl_inv (fun s : State => s.pw.rebootAt) l (fun s x => s.later (e x) (a x) (b x)) s fun _ _ => rfl

theorem State.ownWrite_migrated_reboot (s : State) : (s.ownWrite .migrated).pw.rebootAt = s.pw.rebootAt := by
  unfold State.ownWrite
  split
  · rfl
  · dsimp only
    split <;> rfl

theorem State.readRecords_reboot (s : State) (formats : RecordFormats) : (s.readRecords formats).pw.rebootAt = s.pw.rebootAt := by
  unfold State.readRecords
  dsimp only
  split <;> split <;> simp only [State.ownWrite_migrated_reboot, State.later_foldl_reboot] <;> split <;> rfl

theorem State.loadSets_reboot (s : State) : s.loadSets.pw.rebootAt = s.pw.rebootAt := by
  have hpw (s : State) (b : Bool) (v : BitVec 32) (ok : Bool) : (s.setRef b v ok).pw = s.pw := (s.setRef_life b v ok).2.2.2
  unfold State.loadSets
  dsimp only
  split
  · split <;> split <;> simp only [State.later, hpw]
  · rfl

theorem State.loadFuses_pw (s : State) : s.loadFuses.pw = s.pw := by simp

/-- What the end of the boot leaves of power. -/
theorem State.nowReady_pw (s : State) (formats : RecordFormats) :
    (s.nowReady formats).pw.readyAt = s.now ∧ (s.nowReady formats).pw.rebootAt = s.pw.rebootAt ∧ (s.nowReady formats).pw.due = [] := by
  have hnow : (s.readRecords formats).loadSets.loadFuses.now = s.now := by
    obtain ⟨-, hnow, -, -⟩ := (s.readRecords formats).loadSets_standing
    simp [hnow]
  have hreboot : (s.readRecords formats).loadSets.loadFuses.pw.rebootAt = s.pw.rebootAt := by
    rw [State.loadFuses_pw, State.loadSets_reboot, State.readRecords_reboot]
  unfold State.nowReady
  generalize (s.readRecords formats).loadSets.loadFuses = y at *
  obtain ⟨hready, hreboot'⟩ := y.readyNow_pw
  obtain ⟨hready', hreboot''⟩ := y.readyNow.restoreFails_pw
  obtain ⟨-, -, -, hpw⟩ := y.readyNow.restoreFails.startBlocks_life
  rw [State.bootReports_pw, hpw]
  exact ⟨hready'.trans (hready.trans hnow), hreboot''.trans (hreboot'.trans hreboot), rfl⟩

theorem nodeRdyAssert_yields (t : Nat) (f : RecordFormats) (s : State) (hp : s.phase = .boot) (htest : s.pw.gate.selfTest = true) :
    Yields (.nodeRdyAssert t f) s fun x => x.phase = .ready ∧ x.pw.readyAt = max s.now t ∧ x.pw.gate = s.pw.gate ∧ x.nodeRdy = s.pw.rebootAt.isNone
      ∧ x.pw.due = [] ∧ x.pending = s.pending := by
  obtain ⟨hpending, -, hphase, hgate⟩ := (s.clock t).nowReady_life f
  obtain ⟨hready, hreboot, hdue⟩ := (s.clock t).nowReady_pw f
  have hacts : (s.clock t).phase = .boot ∧ (s.clock t).pw.gate.selfTest = true := ⟨hp, htest⟩
  have hexec : exec (.nodeRdyAssert t f) s = .next ((s.clock t).nowReady f) := by rw [execNodeRdyAssert_eq, if_pos hacts]
  refine ⟨_, hexec, hphase, hready, hgate, ?_, hdue, hpending⟩
  rw [State.nodeRdy, State.live, hphase, hreboot]
  rfl

end Sys2Proof.Machine
end

section
namespace Sys2Proof
open Machine

/-- Settles O58: a BRACE that begins marks the rails' minima anew before the first rail's is kept (State.braceMark_shows), and every part of the
boot before its reports leaves the instant of a REBOOT (State.nowReady_pw). -/
theorem braceAndBootComplete : Obligations.BraceAndBootComplete := by
  unfold Obligations.BraceAndBootComplete
  exact ⟨braceEntry_begins, braceEntry_dips, railAboveWarning_yields, braceEnd_yields, selfTestComplete_passed, selfTestComplete_failed,
    nodeRdyAssert_yields⟩

end Sys2Proof
end

section
/-!
SUPPORT. Commands arrive, replies and events are read, and an opcode that reads is answered (R382, R398 to R404, R409).
-/

namespace Sys2Proof.Machine

/-! ### Arrival -/

/-- The command that a packet of known opcode becomes. -/
def State.arriving (s : State) (port : Source) (cls : Nat) (scores : List Score) : Cmd :=
  { id := s.cm.nextId, scores := scores, cls := cls, port := port }

/-- A command's number is given out. -/
def State.numbered (s : State) : State := { s with cm := { s.cm with nextId := s.cm.nextId + 1 } }

theorem State.cmdsOf_setCmds (s : State) (k : CmdKey) (c : Cmd) (r : List Cmd) : (s.setCmds k (c :: r)).cmdsOf k = c :: r := by
  have hothers : (s.cm.queues.filter fun q => decide (q.key ≠ k)).find? (fun q => decide (q.key = k)) = none := by
    rw [List.find?_eq_none]
    intro q hq
    simpa using (List.mem_filter.mp hq).2
  have hfind : (s.setCmds k (c :: r)).cm.queues.find? (fun q => decide (q.key = k)) = some { key := k, cmds := c :: r } := by
    rw [State.setCmds]
    dsimp only [List.isEmpty_cons]
    rw [if_neg Bool.false_ne_true, List.find?_append, hothers]
    simp
  rw [State.cmdsOf, hfind]

theorem State.setCmds_untouched (s : State) (k : CmdKey) (l : List Cmd) : Untouched [.command] s (s.setCmds k l) := by
  intro g hg
  cases g <;> simp [Group.same, State.setCmds] at hg ⊢

/-- With nothing cached no packet is a repeat. -/
theorem State.cached_of_nil {s : State} {k : CmdKey} (h : s.cacheOf k = []) (c : Cmd) : s.cached k c = none := by
  rw [State.cached, h]
  rfl

/-- A head of a known opcode with nothing cached stays in its queue. -/
theorem State.settle_of_known {s : State} {k : CmdKey} {c : Cmd} {r : List Cmd} (hcmds : s.cmdsOf k = c :: r) (hcache : s.cacheOf k = [])
    (hknown : opcodeKnown c.opcode = true) (n : Nat) : State.settle k n s = s := by
  cases n with
  | zero => rfl
  | succ n =>
    rw [State.settle, hcmds]
    dsimp only
    rw [State.cached_of_nil hcache, hknown]
    simp

theorem CmdKey.room_pos (k : CmdKey) : 0 < k.room := by
  unfold CmdKey.room
  split <;> decide

/-- A packet of a known opcode that is no repeat stands alone in its source's empty queue. -/
theorem State.arrive_of_empty {s : State} {port : Source} (cls : Nat) {scores : List Score} (hne : scores ≠ []) (hcmds : s.cmdsOf (s.keyOf port) = [])
    (hcache : s.cacheOf (s.keyOf port) = []) (hknown : opcodeKnown (s.arriving port cls scores).opcode = true) :
    s.arrive port cls scores = s.numbered.setCmds (s.keyOf port) [s.arriving port cls scores] := by
  have hsome : ¬ (scores.isEmpty = true) := by simpa using hne
  have hcached : s.numbered.cached (s.keyOf port) (s.arriving port cls scores) = none := State.cached_of_nil hcache _
  have hhit : (if s.numbered.mayReply (s.keyOf port) then s.numbered.cached (s.keyOf port) (s.arriving port cls scores) else none) = none := by
    rw [hcached, ite_self]
  have hnone : s.numbered.cmdsOf (s.keyOf port) = [] := hcmds
  have hroom : ¬ ((s.numbered.cmdsOf (s.keyOf port)).length ≥ (s.keyOf port).room) := by
    rw [hnone]
    exact Nat.not_le.mpr (CmdKey.room_pos _)
  have harrive : s.arrive port cls scores = if scores.isEmpty then s else
      match (if s.numbered.mayReply (s.keyOf port) then s.numbered.cached (s.keyOf port) (s.arriving port cls scores) else none) with
      | some r => s.numbered.replay (s.keyOf port) (s.arriving port cls scores) r
      | none =>
        if (s.numbered.cmdsOf (s.keyOf port)).length ≥ (s.keyOf port).room then
          if s.keyOf port = .svc then s.numbered.inc Reg.CM_OVERLOAD_COUNT
          else ((s.numbered.inc Reg.CM_OVERLOAD_COUNT).countReply (s.arriving port cls scores) 0x12).cachedReply (s.keyOf port)
            (s.arriving port cls scores) { status := 0x12 }
        else State.settle (s.keyOf port)
          ((s.numbered.setCmds (s.keyOf port) (s.numbered.cmdsOf (s.keyOf port) ++ [s.arriving port cls scores])).cmdsOf (s.keyOf port)).length
          (s.numbered.setCmds (s.keyOf port) (s.numbered.cmdsOf (s.keyOf port) ++ [s.arriving port cls scores])) := rfl
  rw [harrive, if_neg hsome, hhit]
  dsimp only
  rw [if_neg hroom, hnone, List.nil_append]
  exact State.settle_of_known (s := s.numbered.setCmds (s.keyOf port) [s.arriving port cls scores]) (State.cmdsOf_setCmds _ _ _ _) hcache hknown _

theorem State.numbered_untouched (s : State) : Untouched [.command] s s.numbered := by
  intro g hg
  cases g <;> simp [Group.same, State.numbered] at hg ⊢

/-- What the arrival of such a packet leaves. -/
theorem State.arrive_spec {s : State} {port : Source} (cls : Nat) {scores : List Score} (hne : scores ≠ []) (hcmds : s.cmdsOf (s.keyOf port) = [])
    (hcache : s.cacheOf (s.keyOf port) = []) (hknown : opcodeKnown ((scores.getD 0 0).toNat / 2 ^ 12) = true) :
    (s.arrive port cls scores).cmdsOf (s.keyOf port) = [s.arriving port cls scores] ∧ Untouched [.command] s (s.arrive port cls scores) := by
  rw [State.arrive_of_empty cls hne hcmds hcache hknown]
  exact ⟨State.cmdsOf_setCmds _ _ _ _, s.numbered_untouched.trans (State.setCmds_untouched _ _ _)⟩

theorem octetScores_ne_nil {bytes : List (BitVec 8)} (h : 3 ≤ bytes.length) : octetScores (bytes.length / 3) bytes ≠ [] := by
  obtain ⟨n, hn⟩ := Nat.exists_eq_succ_of_ne_zero (Nat.ne_of_gt (Nat.div_pos h (by decide)))
  rw [hn]
  simp [octetScores]

/-! ### The service port -/

theorem svcCommand_arrives (t : Nat) (bytes : List (BitVec 8)) (s : State) (hr : s.phase = .ready) (hlen : 3 ≤ bytes.length) (hcmds : s.cmdsOf .svc = [])
    (hcache : s.cacheOf .svc = []) (hwhole : bytes.length = 3 * (1 + ((octetScores (bytes.length / 3) bytes).getD 0 0).toNat % 64))
    (hknown : opcodeKnown (((octetScores (bytes.length / 3) bytes).getD 0 0).toNat / 2 ^ 12) = true) : Yields (.svcCommand t bytes) s fun x =>
      x.cmdsOf .svc = [{ id := s.cm.nextId, scores := octetScores (bytes.length / 3) bytes, cls := 0, port := .svc }]
        ∧ x.tx = s.tx ++ [.svcBytes [s.svcStatus]] ∧ Frame t [.tx, .command] s x := by
  obtain ⟨hqueue, hrest⟩ := State.arrive_spec (s := (s.clock t).send (.svcBytes [s.svcStatus])) (port := .svc) 0 (octetScores_ne_nil hlen) hcmds hcache hknown
  have htx : (((s.clock t).send (.svcBytes [s.svcStatus])).arrive .svc 0 (octetScores (bytes.length / 3) bytes)).tx = s.tx ++ [.svcBytes [s.svcStatus]] :=
    hrest .tx (by decide)
  have hright : ¬ (bytes.length < 3 ∨ bytes.length ≠ 3 * (1 + ((octetScores (bytes.length / 3) bytes).getD 0 0).toNat % 64)) :=
    not_or.mpr ⟨Nat.not_lt.mpr hlen, not_not_intro hwhole⟩
  have hfree : ¬ (decide (((s.clock t).cmdsOf .svc).length ≥ 4) = true) := by
    rw [show (s.clock t).cmdsOf .svc = [] from hcmds]
    decide
  have hexec : exec (.svcCommand t bytes) s
      = .next (s.keep t (((s.clock t).send (.svcBytes [s.svcStatus])).arrive .svc 0 (octetScores (bytes.length / 3) bytes))) := by
    show execSvcCommand t bytes s = _
    rw [execSvcCommand, State.runCm_ready s t _ hr]
    dsimp only
    rw [if_neg hright, if_neg hfree]
    rfl
  exact ⟨_, hexec, hqueue, htx, Frame.of_untouched ((State.send_untouched _ _).mono.trans hrest.mono)⟩

theorem svcCommand_counts (t : Nat) (bytes : List (BitVec 8)) (s : State) (hr : s.phase = .ready)
    (hwrong : bytes.length < 3 ∨ bytes.length ≠ 3 * (1 + ((octetScores (bytes.length / 3) bytes).getD 0 0).toNat % 64)) :
    Yields (.svcCommand t bytes) s fun x => x.h Reg.CM_FMT_ERR_COUNT = min (s.h Reg.CM_FMT_ERR_COUNT + 1) Reg.CM_FMT_ERR_COUNT.top
      ∧ OnlyFields [Reg.CM_FMT_ERR_COUNT] s x ∧ Frame t [.tx, .fields] s x := by
  have hexec : exec (.svcCommand t bytes) s = .next (s.keep t (((s.clock t).send (.svcBytes [s.svcStatus])).inc Reg.CM_FMT_ERR_COUNT)) := by
    show execSvcCommand t bytes s = _
    rw [execSvcCommand, State.runCm_ready s t _ hr]
    dsimp only
    rw [if_pos hwrong]
    rfl
  refine ⟨_, hexec, State.h_inc_same _ _, ?_, Frame.of_untouched ((State.send_untouched _ _).mono.trans (State.inc_untouched _ _).mono)⟩
  exact fun f hf => OnlyFields.inc (List.mem_singleton.mpr rfl) ((s.clock t).send (.svcBytes [s.svcStatus])) f hf

/-- The oldest reply is gone. -/
def State.dropReply (s : State) : State := { s with cm := { s.cm with replies := s.cm.replies.drop 1 } }

theorem State.dropReply_untouched (s : State) : Untouched [.command] s s.dropReply := by
  intro g hg
  cases g <;> simp [Group.same, State.dropReply] at hg ⊢

/-- Nothing waits in an empty queue. -/
theorem State.wakeOne_of_empty {s : State} {k : CmdKey} (h : s.cmdsOf k = []) : s.wakeOne k = s := by
  rw [State.wakeOne, h]

theorem svcReplyRead_yields (t n : Nat) (r : List Score) (rest : List (List Score)) (s : State) (hr : s.phase = .ready) (hreplies : s.cm.replies = r :: rest)
    (hn : 3 * r.length ≤ n) (hcmds : s.cmdsOf .svc = []) : Yields (.svcReplyRead t n) s fun x => x.cm.replies = rest
      ∧ x.tx = s.tx ++ [.svcBytes (s.svcStatus :: clockOut (some r) n)] ∧ Frame t [.tx, .command] s x := by
  have hhead : (s.clock t).cm.replies.head? = some r := by rw [show (s.clock t).cm.replies = r :: rest from hreplies]; rfl
  have hnone : ((s.clock t).send (.svcBytes (s.svcStatus :: clockOut (some r) n))).dropReply.cmdsOf .svc = [] := hcmds
  have hexec : exec (.svcReplyRead t n) s = .next (s.keep t ((s.clock t).send (.svcBytes (s.svcStatus :: clockOut (some r) n))).dropReply) := by
    have hwhole : clockedWhole (some r) n = true := decide_eq_true hn
    have hempty : ((s.clock t).send (.svcBytes (s.svcStatus :: clockOut (some r) n))).cmdsOf .svc = [] := hcmds
    have hquiet : (State.settle .svc (((s.clock t).send (.svcBytes (s.svcStatus :: clockOut (some r) n))).cmdsOf .svc).length
        ((s.clock t).send (.svcBytes (s.svcStatus :: clockOut (some r) n))).dropReply).wakeOne .svc
        = ((s.clock t).send (.svcBytes (s.svcStatus :: clockOut (some r) n))).dropReply := by
      rw [hempty]
      exact State.wakeOne_of_empty hnone
    show execSvcReplyRead t n s = _
    rw [execSvcReplyRead, State.runCm_ready s t _ hr]
    dsimp only
    rw [hhead, if_pos hwhole]
    exact congrArg (fun x => Host.Outcome.next (s.keep t x)) hquiet
  refine ⟨_, hexec, ?_, rfl, Frame.of_untouched ((State.send_untouched _ _).mono.trans (State.dropReply_untouched _).mono)⟩
  show s.cm.replies.drop 1 = rest
  rw [hreplies]
  rfl

/-- The event that waited has been read. -/
def State.dropEvent (s : State) : State := { s with cm := { s.cm with event := none } }

theorem State.dropEvent_untouched (s : State) : Untouched [.command] s s.dropEvent := by
  intro g hg
  cases g <;> simp [Group.same, State.dropEvent] at hg ⊢

theorem svcEventRead_yields (t n : Nat) (e : List Score) (s : State) (hr : s.phase = .ready) (hevent : s.cm.event = some e) (hn : 3 * e.length ≤ n) :
    Yields (.svcEventRead t n) s fun x => x.cm.event = none ∧ x.tx = s.tx ++ [.svcBytes (s.svcStatus :: clockOut (some e) n)]
      ∧ x.cm.replies = s.cm.replies ∧ Frame t [.tx, .command] s x := by
  have hexec : exec (.svcEventRead t n) s = .next (s.keep t ((s.clock t).send (.svcBytes (s.svcStatus :: clockOut (some e) n))).dropEvent) := by
    have hwhole : clockedWhole (some e) n = true := decide_eq_true hn
    show execSvcEventRead t n s = _
    rw [execSvcEventRead, State.runCm_ready s t _ hr]
    dsimp only
    rw [show (s.clock t).cm.event = some e from hevent, if_pos hwhole]
    rfl
  exact ⟨_, hexec, rfl, rfl, rfl, Frame.of_untouched ((State.send_untouched _ _).mono.trans (State.dropEvent_untouched _).mono)⟩

/-! ### Commands by links and by UDP -/

/-- A packet that is taken leaves the identity of every link's partner. -/
theorem State.ident_dropArrived (s : State) (l : Lane) (r : List RxPacket) (n : Nat) : ((s.dropArrived l r).link n).ident = (s.link n).ident := by
  by_cases h : n = (s.linkOf l).1
  · rw [h, State.link_dropArrived]
  · exact congrArg Link.ident (Tab.get_set_ne s.fl.links {} {} _ h)

theorem State.keyOf_dropArrived (s : State) (l : Lane) (r : List RxPacket) (n : Nat) : (s.dropArrived l r).keyOf (.link n) = s.keyOf (.link n) :=
  congrArg CmdKey.partner (s.ident_dropArrived l r _)

theorem cmdPacketReceive_yields (t : Nat) (l : Lane) (b : List Score) (k : Nat) (r : List RxPacket) (s : State) (hr : s.phase = .ready)
    (hh : s.holds l 3 b k r) (hne : b ≠ []) (hknown : opcodeKnown ((b.getD 0 0).toNat / 2 ^ 12) = true)
    (hcmds : s.cmdsOf (s.keyOf (.link (s.linkOf l).1)) = []) (hcache : s.cacheOf (s.keyOf (.link (s.linkOf l).1)) = []) :
    Yields (.cmdPacketReceive t l) s fun x =>
      x.cmdsOf (s.keyOf (.link (s.linkOf l).1)) = [{ id := s.cm.nextId, scores := b, cls := laneClass l, port := .link (s.linkOf l).1 }]
        ∧ (x.link (s.linkOf l).1).arrived = r ∧ Frame t [.command, .link] s x := by
  have hkey : ((s.clock t).dropArrived l r).keyOf (.link (s.linkOf l).1) = s.keyOf (.link (s.linkOf l).1) := (s.clock t).keyOf_dropArrived l r _
  obtain ⟨hqueue, hrest⟩ := State.arrive_spec (s := (s.clock t).dropArrived l r) (port := .link (s.linkOf l).1) (laneClass l) hne (by rw [hkey]; exact hcmds)
    (by rw [hkey]; exact hcache) hknown
  rw [hkey] at hqueue
  have hexec : exec (.cmdPacketReceive t l) s
      = .next (s.keep t (((s.clock t).dropArrived l r).arrive (.link (s.linkOf l).1) (laneClass l) b)) := by
    show execCmdPacketReceive t l s = _
    rw [execCmdPacketReceive, State.run_ready s t _ hr]
    rw [State.takePacket_dropArrived t hh]
    rfl
  have hfl : (((s.clock t).dropArrived l r).arrive (.link (s.linkOf l).1) (laneClass l) b).fl = ((s.clock t).dropArrived l r).fl := hrest .link (by decide)
  exact ⟨_, hexec, hqueue, State.arrived_dropArrived t (congrArg FrezenLink.links hfl),
    Frame.of_untouched ((State.dropArrived_untouched _ _ _).mono.trans hrest.mono)⟩

theorem udpCommandDatagram_yields (t : Nat) (l : Lane) (env : Envelope) (ip port : Nat) (bytes : List (BitVec 8)) (s : State) (hr : s.phase = .ready)
    (heth : s.ethUp l = true) (hkept : s.frameKept env s.servedPorts = true) (henv : env.port = some 48121) (hlen : 3 ≤ bytes.length)
    (hwhole : bytes.length % 3 = 0) (hmax : bytes.length ≤ 192) (hlane : s.fo Reg.CM_CFG_UDP_LANES / 2 ^ (l.val - 128) % 2 = 1)
    (hknown : opcodeKnown (((octetScores (bytes.length / 3) bytes).getD 0 0).toNat / 2 ^ 12) = true) (hcmds : s.cmdsOf (s.keyOf (.udp l ip port)) = [])
    (hcache : s.cacheOf (s.keyOf (.udp l ip port)) = []) : Yields (.udpCommandDatagram t l env ip port bytes) s fun x =>
      x.cmdsOf (s.keyOf (.udp l ip port)) = [{ id := s.cm.nextId, scores := octetScores (bytes.length / 3) bytes, cls := 2, port := .udp l ip port }]
        ∧ Frame t [.command] s x := by
  obtain ⟨hqueue, hrest⟩ := State.arrive_spec (s := s.clock t) (port := .udp l ip port) 2 (octetScores_ne_nil hlen) hcmds hcache hknown
  have hexec : exec (.udpCommandDatagram t l env ip port bytes) s
      = .next (s.keep t ((s.clock t).arrive (.udp l ip port) 2 (octetScores (bytes.length / 3) bytes))) := by
    have hright : ¬ (bytes.length % 3 ≠ 0 ∨ bytes.length > 192) := not_or.mpr ⟨not_not_intro hwhole, Nat.not_lt.mpr hmax⟩
    have hnamed : ¬ ((s.clock t).fo Reg.CM_CFG_UDP_LANES / 2 ^ (l.val - 128) % 2 = 0) := fun h => Nat.one_ne_zero (hlane.symm.trans h)
    show execUdpCommandDatagram t l env ip port bytes s = _
    rw [execUdpCommandDatagram, State.run_ready s t _ hr, if_pos (show (s.clock t).ethUp l = true from heth), if_pos (show (s.clock t).frameKept env (s.clock t).servedPorts = true from hkept), if_pos henv,
      if_neg hright, if_neg hnamed]
  exact ⟨_, hexec, hqueue, Frame.of_untouched hrest⟩

/-! ### PING and READ -/

theorem ping_yields (t : Nat) (src : Source) (c : Cmd) (s : State) (hr : s.phase = .ready) (hasks : (s.clock t).asks src 0x00 c) :
    Yields (.ping t src) s fun x => s.answered x src c { status := 0, results := [s.regValue Reg.SYS_ID,
        BitVec.ofNat 20 (c.cls * 2 ^ 18 + (if s.pw.lockFuse then 1 else 0) * 2 ^ 17 + (if (s.clock t).maintOpen then 1 else 0) * 2 ^ 16)] }
      ∧ Frame t [.fields, .command, .tx, .link] s x :=
  Yields.of_simple (f := State.ping) rfl hr hasks rfl (State.Calm.of_regs rfl rfl rfl rfl rfl rfl) fun _ hx =>
    ⟨hx.answered, hx.frame _ (Untouched.refl _ _) (List.Subset.refl _)⟩

/-- Where no stop is to be settled after it, a step that may be an application point is one of the command island alone. -/
theorem State.runCmAt_of_no_stop {s : State} {t : Nat} {f : State → State} (h : (f (s.clock t)).sq.closeDue = false) : s.runCmAt t f = s.runCm t f := by
  rw [State.runCmAt, State.runCm, State.runCm, State.runIf, State.runIf, State.settleStop_of_none h]

/-- A read of a register that has no side effect. -/
theorem State.readReg_of_plain {s : State} {open_ : Bool} {a : Nat} (huptime : a ≠ Reg.SYS_UPTIME_H) (htime : a ≠ Reg.EP_TIME_SEC)
    (hkey : isKeyReg (Reg.base a) = false) (haq : ∀ b, b < 4 → a ≠ Reg.AQ_RD_DATA b ∧ a ≠ Reg.AQ_HIST_DATA b) :
    s.readReg open_ a = (s.regValue a, s) := by
  have hdata : [0, 1, 2, 3].find? (fun b => a == Reg.AQ_RD_DATA b) = none := by
    rw [List.find?_eq_none]
    intro b hb
    simpa using (haq b (List.mem_range.mp hb)).1
  have hhist : [0, 1, 2, 3].find? (fun b => a == Reg.AQ_HIST_DATA b) = none := by
    rw [List.find?_eq_none]
    intro b hb
    simpa using (haq b (List.mem_range.mp hb)).2
  rw [State.readReg, hkey, if_neg (by simp), if_neg huptime, if_neg htime, hdata]
  dsimp only
  rw [hhist]

theorem State.readCmd_of_plain {s : State} {c : Cmd} (hclass : c.cls ≠ 0 ∨ s.maintOpen = true) (hone : c.p 2 = 1) (hposted : s.regs.posted = [])
    (huptime : c.addr ≠ Reg.SYS_UPTIME_H) (htime : c.addr ≠ Reg.EP_TIME_SEC) (hkey : isKeyReg (Reg.base c.addr) = false)
    (haq : ∀ b, b < 4 → c.addr ≠ Reg.AQ_RD_DATA b ∧ c.addr ≠ Reg.AQ_HIST_DATA b) :
    s.readCmd c = (s, { status := 0, results := [s.regValue c.addr] }) := by
  have hopen : (decide (c.cls = 0) && !s.maintOpen) = false := by
    obtain h | h := hclass
    · rw [decide_eq_false h, Bool.false_and]
    · rw [h, Bool.not_true, Bool.and_false]
  have hdrain : s.drainFor c.addr 1 = s := by
    rw [State.drainFor, hposted]
    rfl
  have hread (b : Bool) : s.readRegs b c.addr 1 = ([s.regValue c.addr], s) := by
    rw [State.readRegs, State.readReg_of_plain huptime htime hkey haq]
    rfl
  unfold State.readCmd
  dsimp only
  rw [hone, hopen, hdrain, hread, if_neg (by decide), Bool.false_and, if_neg Bool.false_ne_true]

theorem read_yields (t : Nat) (src : Source) (c : Cmd) (s : State) (hr : s.phase = .ready) (hstop : s.sq.closeDue = false)
    (hasks : (s.clock t).asks src 0x01 c) (hclass : c.cls ≠ 0 ∨ (s.clock t).maintOpen = true) (hone : c.p 2 = 1) (hposted : s.regs.posted = [])
    (huptime : c.addr ≠ Reg.SYS_UPTIME_H) (htime : c.addr ≠ Reg.EP_TIME_SEC) (hkey : isKeyReg (Reg.base c.addr) = false)
    (haq : ∀ b, b < 4 → c.addr ≠ Reg.AQ_RD_DATA b ∧ c.addr ≠ Reg.AQ_HIST_DATA b) : Yields (.read t src) s fun x =>
      s.answered x src c { status := 0, results := [(s.clock t).regValue c.addr] } ∧ Frame t [.fields, .command, .tx, .link] s x := by
  have hf := State.readCmd_of_plain (s := s.clock t) hclass hone hposted huptime htime hkey haq
  have hstill : ((s.clock t).simple ((s.clock t).keyOf src) 0x01 State.readCmd).sq.closeDue = false := by
    rw [State.simple_of_asks hasks hf rfl]
    simpa using hstop
  exact Yields.of_simple (State.runCmAt_of_no_stop (f := fun s => s.simple (s.keyOf src) 0x01 State.readCmd) hstill) hr hasks hf (State.Calm.of_regs rfl rfl rfl rfl rfl rfl) fun _ hx =>
    ⟨hx.answered, hx.frame _ (Untouched.refl _ _) (List.Subset.refl _)⟩

/-! ### SYS_UPTIME_READ -/

theorem State.uptimeRead_untouched (s : State) : Untouched [.fields] s s.uptimeRead :=
  (State.setH_untouched _ _ _).trans (State.setH_untouched _ _ _)

theorem sysUptimeRead_yields (t : Nat) (s : State) (hr : s.phase = .ready) : Yields (.sysUptimeRead t) s fun x =>
    x.h Reg.SYS_UPTIME_L_UP_L = (max s.now t - s.pw.releasedAt) / lsbS % 2 ^ 20 ∧ OnlyFields [Reg.SYS_UPTIME_H_UP_H, Reg.SYS_UPTIME_L_UP_L] s x
      ∧ Frame t [.fields] s x := by
  refine Yields.of_run (execSysUptimeRead t) hr rfl rfl ⟨?_, ?_, Frame.of_untouched (State.uptimeRead_untouched _)⟩
  · rw [State.h_keep, State.uptimeRead, State.h_setH_same]
    exact Nat.min_eq_left (Nat.le_sub_one_of_lt (Nat.mod_lt _ (Nat.two_pow_pos _)))
  · exact ((OnlyFields.of_regs rfl).trans (OnlyFields.setH (by simp) _ _)).trans (OnlyFields.setH (by simp) _ _)

end Sys2Proof.Machine
end

section
namespace Sys2Proof
open Machine

/-- Settles O51: a packet that is no repeat stands alone in its source's empty queue (State.arrive_spec), and a register with no side effect is
read as it stands (State.readCmd_of_plain). -/
theorem commandsArriveAndReplyIsRead : Obligations.CommandsArriveAndReplyIsRead := by
  unfold Obligations.CommandsArriveAndReplyIsRead
  exact ⟨svcCommand_arrives, svcCommand_counts, svcReplyRead_yields, svcEventRead_yields, cmdPacketReceive_yields, udpCommandDatagram_yields, ping_yields,
    read_yields, sysUptimeRead_yields⟩

end Sys2Proof
end

section
/-!
SUPPORT. Commands that write registers, and those that wait (R383 to R385, R410, R417, R418).
-/

namespace Sys2Proof.Machine

/-! ### Answers after work that changes registers -/

/-- The counters of what a reply counts. -/
def replyCounters : List Fld :=
  [Reg.CM_CNT_MAINT_COUNT, Reg.CM_CNT_PEER_COUNT, Reg.CM_CNT_BACKBONE_COUNT, Reg.CM_CNT_HEAD_COUNT, Reg.CM_REFUSE_COUNT]

theorem classCount_mem_replyCounters (cls : Nat) : classCount cls ∈ replyCounters := by
  unfold classCount
  split <;> simp [replyCounters]

/-- Work that leaves what the answer after it rests on. -/
structure State.Mild (s y : State) : Prop where
  now : y.now = s.now
  queues : y.cm.queues = s.cm.queues
  quiet : s.Quiet y
  counters : ∀ f ∈ replyCounters, y.h f = s.h f

theorem State.Calm.mild {s y : State} (h : s.Calm y) : s.Mild y where
  now := h.now
  queues := h.queues
  quiet := h.quiet
  counters := fun f hf => h.h f ((by decide : ∀ f ∈ replyCounters, f.key ≠ Reg.PW_DEFER_CNT_COUNT.key) f hf)

theorem State.Mild.refl (s : State) : s.Mild s := (State.Calm.of_regs rfl rfl rfl rfl rfl rfl).mild

theorem State.Mild.trans {s x y : State} (h : s.Mild x) (h' : x.Mild y) : s.Mild y where
  now := h'.now.trans h.now
  queues := h'.queues.trans h.queues
  quiet := h.quiet.trans h'.quiet
  counters := fun f hf => (h'.counters f hf).trans (h.counters f hf)

theorem State.answered_of_mild {s y : State} (h : s.Mild y) {src : Source} {c : Cmd} (a : Answer) (hcmds : s.cmdsOf (s.keyOf src) = [c]) :
    s.answered (y.answer (s.keyOf src) c a) src c a := by
  obtain ⟨hgone, -, -, -, hcache⟩ := y.answer_cm (s.keyOf src) c a ((State.cmdsOf_congr h.queues _).trans hcmds)
  refine ⟨hgone, h.quiet.replied (y.replied_answer _ c a), by rw [hcache, (y.answer_frame _ c a).1], ?_⟩
  split
  · next hok => rw [State.h_answer, hok, State.h_countReply_ok, h.counters _ (classCount_mem_replyCounters _)]
  · next hno => rw [State.h_answer, State.h_countReply_refused _ _ hno, h.counters _ (by simp [replyCounters])]

/-- A step that ends in an answer yields what its own work and the answer leave. -/
theorem Yields.of_answer {i : Instr} {t : Nat} {src : Source} {c : Cmd} {s y : State} {a : Answer} {P : State → Prop}
    (hexec : exec i s = .next (s.keep t (y.answer (s.keyOf src) c a))) (hcmds : s.cmdsOf (s.keyOf src) = [c]) (hmild : (s.clock t).Mild y)
    (h : ∀ x, s.answered x src c a → (∀ f, x.h f = (y.countReply c a.status).h f) → x.pw = { y.pw with gate := s.pw.gate }
      → (∀ l, Untouched l (s.clock t) y → [.fields, .command, .tx, .link] ⊆ l → Frame t l s x)
      → (∀ g, g ∉ [Group.fields, .command, .tx, .link] → g.same y { x with pw := { x.pw with gate := y.pw.gate } }) → P x) : Yields i s P := by
  have hpw : (y.answer (s.keyOf src) c a).pw = y.pw := by simp
  have hnow : (y.answer (s.keyOf src) c a).now = max s.now t := by simpa using hmild.now
  have hrest := y.answer_untouched (s.keyOf src) c a
  have hanswered : (s.clock t).answered (y.answer (s.keyOf src) c a) src c a := State.answered_of_mild hmild a hcmds
  have hfields (f : Fld) : (y.answer (s.keyOf src) c a).h f = (y.countReply c a.status).h f := State.h_answer _ _ _ _ _
  refine ⟨_, hexec, h _ (State.answered_keep hanswered hnow) hfields (by rw [State.keep_pw, hpw])
    (fun l hy hl => Frame.of_untouched (hy.trans (hrest.mono hl))) fun g hg => ?_⟩
  have hsame := hrest g hg
  generalize y.answer (s.keyOf src) c a = z at *
  cases g
  case power => exact (congrArg (fun p : Power => { p with gate := y.pw.gate }) hpw).trans rfl
  all_goals exact hsame

/-! ### Commands that wait -/

/-- A command that may execute does its work, and those that wait are looked at. -/
theorem State.command_of_asks {s : State} {src : Source} {op : Nat} {c : Cmd} (h : s.asks src op c) (f : State → Cmd → State) :
    s.command (s.keyOf src) op f = (f s c).wake := by
  obtain ⟨hcmds, hop, hmay, hfirst, hidle⟩ := h
  have hidle : s.Idle := hidle
  obtain ⟨hsince, hposted⟩ := hidle.of_mem_cmdsOf (k := s.keyOf src) (c := c) (by simp [hcmds])
  have hhead : s.headCmd (s.keyOf src) op = some c := by
    simp [State.headCmd, hcmds, hop, hsince, hposted, hmay]
  unfold State.command
  simp only [hhead, hfirst]

/-- A head that cannot go on is not woken. -/
def State.Stuck (s : State) (c : Cmd) : Prop := ∀ k r, s.cmdsOf k = c :: r → s.wakeOne k = s

/-- Where every head cannot go on, nothing is woken. -/
theorem State.wake_of_stuck {s : State} (h : ∀ q ∈ s.cm.queues, ∀ d ∈ q.cmds, s.Stuck d) : s.wake = s := by
  refine List.foldl_fixed' (fun k => ?_) _
  cases hk : s.cmdsOf k with
  | nil => exact State.wakeOne_of_empty hk
  | cons c r =>
    obtain ⟨q, hq, hc⟩ := State.mem_queue_of_mem_cmdsOf (s := s) (k := k) (c := c) (by simp [hk])
    exact h q hq c hc k r hk

theorem State.stuck_of_idle {s : State} {c : Cmd} (hsince : c.since = none) (hposted : c.posted = false) : s.Stuck c := by
  intro k r hk
  rw [State.wakeOne, hk]
  simp [hsince, hposted]

/-- A WRITE on its way waits for the queue that holds its write. -/
theorem State.stuck_of_posted {s : State} {c : Cmd} (hsince : c.since = none) (hposted : c.posted = true) (hway : ∃ x ∈ s.regs.posted, x.cmd = c.id) :
    s.Stuck c := by
  intro k r hk
  have hany : (s.regs.posted.any fun x => decide (x.cmd = c.id)) = true := by simpa using hway
  rw [State.wakeOne, hk]
  simp [hsince, hposted, hany]

/-- A POLL_BUSY waits for the blocks that it names. -/
theorem State.stuck_of_polling {s : State} {c : Cmd} (hop : c.opcode = 0x04) (hposted : c.posted = false) (hbusy : s.cmBusy &&& c.p 0 ≠ 0) :
    s.Stuck c := by
  intro k r hk
  rw [State.wakeOne, hk]
  simp [hop, hposted, hbusy]

/-- A head that is put in the place of the only command of a source, and cannot go on, stays. -/
theorem State.wake_setHeadCmd {s : State} (hidle : s.Idle) {k : CmdKey} {c d : Cmd} (hcmds : s.cmdsOf k = [c]) (hstuck : (s.setHeadCmd k d).Stuck d) :
    (s.setHeadCmd k d).wake = s.setHeadCmd k d := by
  have hset : s.setHeadCmd k d = s.setCmds k [d] := by
    rw [State.setHeadCmd, hcmds]
    rfl
  refine State.wake_of_stuck fun q hq e he => ?_
  have hqueues : (s.setHeadCmd k d).cm.queues = (s.cm.queues.filter fun q => decide (q.key ≠ k)) ++ [{ key := k, cmds := [d] }] := by
    rw [hset]
    rfl
  rw [hqueues, List.mem_append] at hq
  obtain hq | hq := hq
  · obtain ⟨hsince, hposted⟩ := hidle q (List.mem_of_mem_filter hq) e he
    exact State.stuck_of_idle hsince hposted
  · obtain rfl := List.mem_singleton.mp hq
    obtain rfl := List.mem_singleton.mp he
    exact hstuck

/-- With nothing posted no block is busy. -/
theorem State.cmBusy_of_none {s : State} (h : s.regs.posted = []) : s.cmBusy = 0 := by
  rw [State.cmBusy, h]
  rfl

/-! ### WRITE of CM_CFG -/

/-- CM_CFG's kind. -/
def cmCfgKind : RegKind := { base := 65541, dims := [], one := true, rw := 131071, w1c := 0, wo := 131072, hw := [], reset := 131071 }

theorem find_cmCfg : Reg.find Reg.CM_CFG = some cmCfgKind := by decide +kernel

theorem busyOf_cmCfg : busyOf Reg.CM_CFG = none := by decide

/-- The fields of CM_CFG are set, its RSVD bits take their one value. -/
def State.configCm (s : State) (v : Score) : State := (s.writeRsvd cmCfgKind Reg.CM_CFG v.toNat).setOne Reg.CM_CFG v

theorem State.writeOne_cmCfg (s : State) (v : Score) : s.writeOne Reg.CM_CFG v = s.setOne Reg.CM_CFG v := by
  have hplace : firPlace Reg.CM_CFG = none := by decide
  have hunit : (List.range 16).find? (fun u => decide (Reg.AQ_TRG_CFG u ≤ Reg.CM_CFG) && decide (Reg.CM_CFG ≤ Reg.AQ_TRG_CFG u + 3)) = none := by decide
  rw [State.writeOne, hplace]
  dsimp only
  rw [if_neg (by decide), if_neg (by decide), if_neg (by decide), hunit]

theorem State.acceptWrite_cmCfg (s : State) {v : Score} (hv : v.toNat / 2 ^ 17 = 0) : s.acceptWrite Reg.CM_CFG v = s.configCm v := by
  have hlt : v.toNat < 2 ^ 17 := (Nat.div_eq_zero_iff.mp hv).resolve_left (by decide)
  have hrw : (BitVec.ofNat 20 (v.toNat &&& cmCfgKind.rw) : Score) = v := by
    rw [show cmCfgKind.rw = 2 ^ 17 - 1 from rfl, Nat.and_two_pow_sub_one_eq_mod, Nat.mod_eq_of_lt hlt, BitVec.ofNat_toNat, BitVec.setWidth_eq]
  have hquiet : v.toNat &&& cmCfgKind.wo = 0 := by
    rw [show cmCfgKind.wo = 2 ^ 17 from rfl, Nat.and_two_pow, Nat.testBit_lt_two_pow hlt]
    rfl
  have hbase : Reg.base Reg.CM_CFG = Reg.CM_CFG := rfl
  have hlow (x : State) : x.woLow Reg.CM_CFG 0 = x := rfl
  rw [State.acceptWrite, hbase, find_cmCfg]
  dsimp only
  rw [if_neg (by decide), State.acceptBase, hrw, hquiet, if_neg (by decide), if_neg (fun h => absurd h.1 (by decide)), if_neg (by decide),
    if_pos (by decide), if_neg (by decide), if_pos (show cmCfgKind.one = true from rfl), State.writeOne_cmCfg, hlow]
  rfl

theorem State.writeRsvd_spec (s : State) (k : RegKind) (a v : Nat) :
    Untouched [.rsvd] s (s.writeRsvd k a v) ∧ s.Mild (s.writeRsvd k a v) := by
  unfold State.writeRsvd
  dsimp only
  split
  · exact ⟨Untouched.refl _ _, State.Mild.refl _⟩
  · refine ⟨fun g hg => ?_, ⟨rfl, rfl, ⟨rfl, rfl, rfl, rfl, rfl, rfl, rfl, rfl⟩, fun _ _ => rfl⟩⟩
    cases g <;> simp [Group.same] at hg ⊢

theorem State.setOne_mild (s : State) (a : Nat) (v : Score) : s.Mild (s.setOne a v) :=
  ⟨rfl, rfl, ⟨rfl, rfl, rfl, rfl, rfl, rfl, rfl, rfl⟩, fun _ _ => rfl⟩

theorem State.setOne_untouched (s : State) (a : Nat) (v : Score) : Untouched [.ones] s (s.setOne a v) := by
  intro g hg
  cases g <;> simp [Group.same] at hg ⊢
  exact ⟨rfl, rfl⟩

theorem State.configCm_spec (s : State) (v : Score) :
    Untouched [.ones, .rsvd] s (s.configCm v) ∧ s.Mild (s.configCm v) ∧ (s.configCm v).oneReg Reg.CM_CFG = v := by
  obtain ⟨hrest, hmild⟩ := s.writeRsvd_spec cmCfgKind Reg.CM_CFG v.toNat
  exact ⟨hrest.mono.trans (State.setOne_untouched _ _ _).mono, hmild.trans (State.setOne_mild _ _ _), State.oneReg_setOne_same _ _ _⟩

/-- Nothing refuses a WRITE of CM_CFG in class 0. -/
theorem State.writeRefused_cmCfg (s : State) {c : Cmd} {v : Score} (hvalues : c.values = [v]) (haddr : c.addr = Reg.CM_CFG) (hcls : c.cls = 0) :
    s.writeRefused c = none := by
  have hnone : s.writeRefusal 0 Reg.CM_CFG v = none := by
    have hfind : (if Reg.CM_CFG < 2 ^ 24 then Reg.find (Reg.base Reg.CM_CFG) else none) = some cmCfgKind := find_cmCfg
    rw [State.writeRefusal, hfind]
    rfl
  rw [State.writeRefused, hvalues, haddr, hcls]
  simp only [List.zipIdx_cons, List.zipIdx_nil, List.filterMap_cons, List.filterMap_nil, Nat.add_zero, hnone]
  decide

/-- What a WRITE that may execute does. -/
def State.writeWork (s : State) (k : CmdKey) (c : Cmd) : State :=
  match s.writeRefused c with
  | some x => s.finish k c { status := x }
  | none => if s.cmBusy &&& c.mask = 0 then s.writeOut k c else s.setHeadCmd k { c with since := some s.now }

theorem exec_write_eq (t : Nat) (src : Source) (s : State) :
    exec (.write t src) s = s.runCmAt t fun s => s.command (s.keyOf src) 0x02 fun s c => s.writeWork (s.keyOf src) c := rfl

/-- A WRITE leaves what its work leaves, where that wakes no command and leaves no stop to be settled. -/
theorem exec_write_of_work {t : Nat} {src : Source} {c : Cmd} {s y : State} (hr : s.phase = .ready) (hasks : (s.clock t).asks src 0x02 c)
    (hwork : (s.clock t).writeWork (s.keyOf src) c = y) (hwake : y.wake = y) (hstill : y.sq.closeDue = false) :
    exec (.write t src) s = .next (s.keep t y) := by
  have hdone : ((s.clock t).command ((s.clock t).keyOf src) 0x02 fun s c => s.writeWork (s.keyOf src) c) = y :=
    (State.command_of_asks hasks _).trans ((congrArg State.wake hwork).trans hwake)
  have hstop : (((s.clock t).command ((s.clock t).keyOf src) 0x02 fun s c => s.writeWork (s.keyOf src) c)).sq.closeDue = false := by rw [hdone, hstill]
  rw [exec_write_eq, State.runCmAt_of_no_stop (f := fun s => s.command (s.keyOf src) 0x02 fun s c => s.writeWork (s.keyOf src) c) hstop,
    State.runCm_ready s t _ hr, hdone]

/-- With nothing posted a WRITE that nothing refuses goes out. -/
theorem State.writeWork_of_free {s : State} {c : Cmd} (hposted : s.regs.posted = []) (hnone : s.writeRefused c = none) (k : CmdKey) :
    s.writeWork k c = s.writeOut k c := by
  rw [State.writeWork, hnone]
  dsimp only
  rw [State.cmBusy_of_none hposted, if_pos (Nat.zero_and _)]

/-- One value for a block without a posting queue is accepted at once. -/
theorem State.post_of_free (s : State) (id : Nat) {a : Nat} (v : Score) (hfree : busyOf a = none) : s.post id a [v] = s.acceptWrite a v := by
  rw [State.post, State.post, hfree]
  rfl

theorem write_cmCfg_yields (t : Nat) (src : Source) (c : Cmd) (v : Score) (s : State) (hr : s.phase = .ready) (hstop : s.sq.closeDue = false)
    (hasks : (s.clock t).asks src 0x02 c) (hposted : s.regs.posted = []) (hvalues : c.values = [v]) (haddr : c.addr = Reg.CM_CFG) (hcls : c.cls = 0)
    (hclear : v.toNat / 2 ^ 17 = 0) : Yields (.write t src) s fun x =>
      x.fo Reg.CM_CFG_PEER_EN = Reg.CM_CFG_PEER_EN.of v ∧ x.fo Reg.CM_CFG_UDP_LANES = Reg.CM_CFG_UDP_LANES.of v
        ∧ s.answered x src c { status := 0 } ∧ Frame t [.ones, .rsvd, .fields, .command, .tx, .link] s x := by
  obtain ⟨hrest, hmild, hvalue⟩ := (s.clock t).configCm_spec v
  have hidle : (s.clock t).Idle := hasks.2.2.2.2
  have hcmds : ((s.clock t).configCm v).cmdsOf (s.keyOf src) = [c] := (State.cmdsOf_congr hmild.queues _).trans hasks.1
  have hone : ((s.clock t).configCm v).regs.posted = [] := ((hrest .waits (by decide)).2.2).trans hposted
  have hout : (s.clock t).post c.id Reg.CM_CFG [v] = (s.clock t).configCm v := by
    rw [State.post_of_free _ _ _ busyOf_cmCfg, State.acceptWrite_cmCfg _ hclear]
  have hwork : (s.clock t).writeWork (s.keyOf src) c = ((s.clock t).configCm v).answer (s.keyOf src) c { status := 0 } := by
    rw [State.writeWork_of_free (s := s.clock t) hposted (State.writeRefused_cmCfg _ hvalues haddr hcls), State.writeOut, haddr, hvalues, hout, hone,
      List.any_nil, if_neg Bool.false_ne_true, State.finish_eq_answer _ _ _ _ hcmds]
  have hsub := (((s.clock t).configCm v).answer_cm (s.keyOf src) c { status := 0 } hcmds).2.1
  rw [hmild.queues] at hsub
  have hsq : ((s.clock t).configCm v).sq = s.sq := hrest .shepherd (by decide)
  have hstill : (((s.clock t).configCm v).answer (s.keyOf src) c { status := 0 }).sq.closeDue = false := by
    simpa [hsq] using hstop
  refine Yields.of_answer (exec_write_of_work hr hasks hwork (hidle.of_subset hsub).wake hstill) hasks.1 hmild fun x hanswered _ _ hframe hkept => ?_
  have hones : x.regs.one = ((s.clock t).configCm v).regs.one := hkept .ones (by decide)
  have hreg : x.oneReg Reg.CM_CFG = v := by
    rw [← hvalue, State.oneReg, State.oneReg, hones]
  exact ⟨congrArg Reg.CM_CFG_PEER_EN.of hreg, congrArg Reg.CM_CFG_UDP_LANES.of hreg, hanswered, hframe _ hrest.mono (by simp)⟩

/-! ### Writes to posted blocks -/

/-- A write joins the posting queues. -/
def State.postOne (s : State) (p : Posted) : State := { s with regs := { s.regs with posted := s.regs.posted ++ [p] } }

theorem State.postOne_spec (s : State) (p : Posted) : Untouched [.waits] s (s.postOne p) ∧ s.Mild (s.postOne p) := by
  refine ⟨fun g hg => ?_, ⟨rfl, rfl, ⟨rfl, rfl, rfl, rfl, rfl, rfl, rfl, rfl⟩, fun _ _ => rfl⟩⟩
  cases g <;> simp [Group.same, State.postOne] at hg ⊢

/-- One value for a posted block joins its posting queue. -/
theorem State.post_of_busy (s : State) (id : Nat) {a : Nat} (v : Score) (hbusy : (busyOf a).isSome = true) :
    s.post id a [v] = s.postOne { addr := a, value := v, cmd := id } := by
  rw [State.post, State.post, if_pos hbusy]
  rfl

theorem write_posted_yields (t : Nat) (src : Source) (c : Cmd) (v : Score) (s : State) (hr : s.phase = .ready) (hstop : s.sq.closeDue = false)
    (hasks : (s.clock t).asks src 0x02 c) (hposted : s.regs.posted = []) (hvalues : c.values = [v]) (hbusy : (busyOf c.addr).isSome = true)
    (hnone : (s.clock t).writeRefused c = none) : Yields (.write t src) s fun x =>
      x.regs.posted = [{ addr := c.addr, value := v, cmd := c.id }] ∧ x.cmdsOf (s.keyOf src) = [{ c with since := none, posted := true }]
        ∧ Frame t [.waits, .command] s x := by
  obtain ⟨hrest, hmild⟩ := (s.clock t).postOne_spec { addr := c.addr, value := v, cmd := c.id }
  have hidle : ((s.clock t).postOne { addr := c.addr, value := v, cmd := c.id }).Idle := hasks.2.2.2.2
  have hcmds : ((s.clock t).postOne { addr := c.addr, value := v, cmd := c.id }).cmdsOf (s.keyOf src) = [c] := hasks.1
  have hqueue : ((s.clock t).postOne { addr := c.addr, value := v, cmd := c.id }).regs.posted = [{ addr := c.addr, value := v, cmd := c.id }] := by
    show s.regs.posted ++ _ = _
    rw [hposted, List.nil_append]
  have hout := State.post_of_busy (s.clock t) c.id v hbusy
  generalize (s.clock t).postOne { addr := c.addr, value := v, cmd := c.id } = y at *
  have hwork : (s.clock t).writeWork (s.keyOf src) c = y.setHeadCmd (s.keyOf src) { c with since := none, posted := true } := by
    rw [State.writeWork_of_free (s := s.clock t) hposted hnone, State.writeOut, hvalues, hout, hqueue, List.any_cons, decide_eq_true rfl, Bool.true_or,
      if_pos rfl]
  have hstuck : (y.setHeadCmd (s.keyOf src) { c with since := none, posted := true }).Stuck { c with since := none, posted := true } :=
    State.stuck_of_posted rfl rfl ⟨_, hqueue ▸ List.mem_singleton.mpr rfl, rfl⟩
  have hsq : y.sq = s.sq := hrest .shepherd (by decide)
  have hexec := exec_write_of_work hr hasks hwork (State.wake_setHeadCmd hidle hcmds hstuck) (show y.sq.closeDue = false by rw [hsq, hstop])
  exact ⟨_, hexec, hqueue, (State.cmdsOf_setHeadCmd _ _ _).trans (by rw [hcmds]; rfl), Frame.of_untouched (hrest.mono.trans (State.setCmds_untouched _ _ _).mono)⟩

/-- What a WRITE_POSTED that may execute does, and its answer. -/
def State.writePostedWork (s : State) (c : Cmd) : State × Answer :=
  match s.writeRefused c with
  | some x => (s, { status := x })
  | none => if s.cmBusy &&& c.mask = 0 then (s.post c.id c.addr c.values, { status := 0 }) else (s, { status := 0x07 })

theorem exec_writePosted_eq (t : Nat) (src : Source) (s : State) :
    exec (.writePosted t src) s = s.runCmAt t fun s => s.simple (s.keyOf src) 0x03 State.writePostedWork := rfl

theorem writePosted_yields (t : Nat) (src : Source) (c : Cmd) (v : Score) (s : State) (hr : s.phase = .ready) (hstop : s.sq.closeDue = false)
    (hasks : (s.clock t).asks src 0x03 c) (hposted : s.regs.posted = []) (hvalues : c.values = [v]) (hbusy : (busyOf c.addr).isSome = true)
    (hnone : (s.clock t).writeRefused c = none) : Yields (.writePosted t src) s fun x =>
      x.regs.posted = [{ addr := c.addr, value := v, cmd := c.id }] ∧ s.answered x src c { status := 0 }
        ∧ Frame t [.waits, .fields, .command, .tx, .link] s x := by
  obtain ⟨hrest, hmild⟩ := (s.clock t).postOne_spec { addr := c.addr, value := v, cmd := c.id }
  have hqueue : ((s.clock t).postOne { addr := c.addr, value := v, cmd := c.id }).regs.posted = [{ addr := c.addr, value := v, cmd := c.id }] := by
    show s.regs.posted ++ _ = _
    rw [hposted, List.nil_append]
  have hf : (s.clock t).writePostedWork c = ((s.clock t).postOne { addr := c.addr, value := v, cmd := c.id }, { status := 0 }) := by
    rw [State.writePostedWork, hnone]
    dsimp only
    rw [State.cmBusy_of_none (s := s.clock t) hposted, if_pos (Nat.zero_and _), hvalues, State.post_of_busy _ _ _ hbusy]
  have hsq : ((s.clock t).postOne { addr := c.addr, value := v, cmd := c.id }).sq = s.sq := rfl
  generalize (s.clock t).postOne { addr := c.addr, value := v, cmd := c.id } = y at *
  have hdone := State.simple_of_asks hasks hf hmild.queues
  have hstill : (y.answer ((s.clock t).keyOf src) c { status := 0 }).sq.closeDue = false := by simpa [hsq] using hstop
  have hexec : exec (.writePosted t src) s = .next (s.keep t (y.answer (s.keyOf src) c { status := 0 })) := by
    have hstop' := (congrArg (fun x : State => x.sq.closeDue) hdone).trans hstill
    rw [exec_writePosted_eq, State.runCmAt_of_no_stop (f := fun s => s.simple (s.keyOf src) 0x03 State.writePostedWork) hstop', State.runCm_ready s t _ hr,
      hdone]
    rfl
  refine Yields.of_answer hexec hasks.1 hmild fun x hanswered _ _ hframe hkept => ?_
  exact ⟨((hkept .waits (by decide)).2.2).trans hqueue, hanswered, hframe _ hrest.mono (by simp)⟩

/-! ### POSTED_WRITE_ACCEPT of a shadow address -/

/-- The shadow set's table is replaced. -/
def State.setShadowTab (s : State) (l : Tab Score) : State :=
  if s.activeB then { s with regs := { s.regs with setA := l } } else { s with regs := { s.regs with setB := l } }

/-- A register of the shadow set has a value. -/
def State.writeShadow (s : State) (a : Nat) (v : Score) : State := s.setShadowTab (Tab.set s.shadowTab (Reg.resetRw a) a v)

theorem State.acceptAlias_eq (s : State) (k : RegKind) (a : Nat) (v : Score) :
    s.acceptAlias k a v = ((s.writeRsvd k a v.toNat).writeShadow a (BitVec.ofNat 20 (v.toNat &&& k.rw))).refInvalid
      (!((s.writeRsvd k a v.toNat).writeShadow a (BitVec.ofNat 20 (v.toNat &&& k.rw))).activeB) := rfl

theorem State.activeB_setShadowTab (s : State) (l : Tab Score) : (s.setShadowTab l).activeB = s.activeB := by
  unfold State.setShadowTab
  split <;> rfl

theorem State.shadowTab_setShadowTab (s : State) (l : Tab Score) : (s.setShadowTab l).shadowTab = l := by
  rw [State.shadowTab, State.activeB_setShadowTab, State.setShadowTab]
  split <;> rfl

theorem State.activeTab_setShadowTab (s : State) (l : Tab Score) : (s.setShadowTab l).activeTab = s.activeTab := by
  rw [State.activeTab, State.activeTab, State.activeB_setShadowTab, State.setShadowTab]
  split <;> rfl

theorem State.setShadowTab_untouched (s : State) (l : Tab Score) : Untouched [.sets] s (s.setShadowTab l) := by
  intro g hg
  unfold State.setShadowTab
  split <;> cases g <;> simp [Group.same] at hg ⊢

/-- A register of the shadow set reads as written, and the active set stays. -/
theorem State.writeShadow_spec (s : State) (a : Nat) (v : Score) :
    (s.writeShadow a v).shadow a = v ∧ (∀ b, (s.writeShadow a v).act b = s.act b) ∧ (s.writeShadow a v).activeB = s.activeB := by
  refine ⟨?_, fun b => ?_, State.activeB_setShadowTab _ _⟩
  · exact (congrArg (fun l => Tab.get l (Reg.resetRw a) a) (State.shadowTab_setShadowTab _ _)).trans (Tab.get_set_same _ _ _ _)
  · exact congrArg (fun l => Tab.get l (Reg.resetRw b) b) (State.activeTab_setShadowTab _ _)

/-- An island that accepts a write at a shadow address gives the shadow set the value. -/
theorem State.acceptAlias_spec (s : State) (k : RegKind) (a : Nat) (v : Score) :
    (s.acceptAlias k a v).shadow a = BitVec.ofNat 20 (v.toNat &&& k.rw) ∧ (s.acceptAlias k a v).act a = s.act a
      ∧ (s.acceptAlias k a v).h (if s.activeB then Reg.CF_STAT_REF_A else Reg.CF_STAT_REF_B) = 0
      ∧ Untouched [.sets, .rsvd, .fields] s (s.acceptAlias k a v) := by
  obtain ⟨hrest, hmild⟩ := s.writeRsvd_spec k a v.toNat
  obtain ⟨hshadow, hact, hactive⟩ := (s.writeRsvd k a v.toNat).writeShadow_spec a (BitVec.ofNat 20 (v.toNat &&& k.rw))
  have hset := (s.writeRsvd k a v.toNat).setShadowTab_untouched
    (Tab.set (s.writeRsvd k a v.toNat).shadowTab (Reg.resetRw a) a (BitVec.ofNat 20 (v.toNat &&& k.rw)))
  have hwas : (s.writeRsvd k a v.toNat).activeB = s.activeB := congrArg (fun n => decide (n = 1)) hmild.quiet.active
  rw [State.acceptAlias_eq, hactive, hwas]
  have hact' := (hact a).trans (hmild.quiet.act a)
  rw [hwas] at hactive
  have hrest' := hrest.mono (l' := [.sets, .rsvd, .fields]) |>.trans hset.mono
  rw [← State.writeShadow] at hrest'
  generalize (s.writeRsvd k a v.toNat).writeShadow a (BitVec.ofNat 20 (v.toNat &&& k.rw)) = y at *
  have hstays : (y.refInvalid (!s.activeB)).activeB = y.activeB := by
    rw [State.refInvalid]
    exact congrArg (fun n => decide (n = 1)) (State.h_flag_ne _ _ _ _ (by split <;> decide))
  refine ⟨?_, ?_, ?_, hrest'.trans (State.flag_untouched _ _ _).mono⟩
  · exact (congrArg (fun b : Bool => Tab.get (if b then y.regs.setA else y.regs.setB) (Reg.resetRw a) a) hstays).trans hshadow
  · exact (congrArg (fun b : Bool => Tab.get (if b then y.regs.setB else y.regs.setA) (Reg.resetRw a) a) hstays).trans hact'
  · rw [State.refInvalid]
    cases s.activeB <;> exact State.h_flag_same _ _ _

/-- The posting queues are empty. -/
def State.nonePosted (s : State) : State := { s with regs := { s.regs with posted := [] } }

theorem State.nonePosted_untouched (s : State) : Untouched [.waits] s s.nonePosted := by
  intro g hg
  cases g <;> simp [Group.same, State.nonePosted] at hg ⊢

theorem postedWriteAccept_yields (t : Nat) (bit : Fin 15) (a : Nat) (k : RegKind) (v : Score) (s : State) (hr : s.phase = .ready)
    (hstop : s.sq.closeDue = false) (hqueues : s.cm.queues = []) (hposted : s.regs.posted = [{ addr := a + 0x800000, value := v, cmd := 0 }])
    (hbit : busyOf (a + 0x800000) = some bit.val) (hfind : Reg.find a = some k) (hset : k.inSet = true) :
    Yields (.postedWriteAccept t bit) s fun x => x.shadow a = BitVec.ofNat 20 (v.toNat &&& k.rw) ∧ x.act a = s.act a ∧ x.regs.posted = []
      ∧ x.h (if s.activeB then Reg.CF_STAT_REF_A else Reg.CF_STAT_REF_B) = 0 ∧ Frame t [.sets, .rsvd, .fields, .waits] s x := by
  have hbase : Reg.base (a + 0x800000) = a := by
    rw [Reg.base, if_pos (Nat.le_add_left _ _), Nat.add_sub_cancel]
  have halias : Reg.isAlias (a + 0x800000) = true := decide_eq_true (Nat.le_add_left _ _)
  have hone : (s.clock t).acceptOldest bit = (s.clock t).nonePosted.acceptAlias k a v := by
    have hfirst : takePosted (fun x => decide (busyOf x.addr = some bit.val)) (s.clock t).regs.posted
        = some ({ addr := a + 0x800000, value := v, cmd := 0 }, []) := by
      rw [show (s.clock t).regs.posted = s.regs.posted from rfl, hposted]
      exact if_pos (decide_eq_true hbit)
    rw [State.acceptOldest, State.acceptOne, hfirst]
    show (s.clock t).nonePosted.acceptWrite (a + 0x800000) v = _
    rw [State.acceptWrite, hbase, hfind]
    dsimp only
    rw [if_pos halias, if_pos hset]
  obtain ⟨hshadow, hact, href, hrest⟩ := (s.clock t).nonePosted.acceptAlias_spec k a v
  have hnone : ((s.clock t).nonePosted.acceptAlias k a v).cm.queues = [] := (congrArg Command.queues (hrest .command (by decide))).trans hqueues
  have hsq : ((s.clock t).nonePosted.acceptAlias k a v).sq = s.sq := hrest .shepherd (by decide)
  have hempty : ((s.clock t).nonePosted.acceptAlias k a v).regs.posted = [] := (hrest .waits (by decide)).2.2
  have hquiet : ((s.clock t).nonePosted.acceptAlias k a v).wake = (s.clock t).nonePosted.acceptAlias k a v := by
    rw [State.wake, hnone]
    rfl
  have hdone : ((s.clock t).acceptOldest bit).wake.settleStop = (s.clock t).nonePosted.acceptAlias k a v := by
    rw [hone, hquiet, State.settleStop_of_none (by rw [hsq, hstop])]
  have hexec : exec (.postedWriteAccept t bit) s = .next (s.keep t ((s.clock t).nonePosted.acceptAlias k a v)) := by
    refine Eq.trans (b := s.run t fun s => ((s.acceptOldest bit).wake).settleStop) rfl ((State.run_ready s t _ hr).trans ?_)
    exact congrArg (fun x => Host.Outcome.next (s.keep t x)) hdone
  exact ⟨_, hexec, hshadow, hact, hempty, href, Frame.of_untouched ((State.nonePosted_untouched _).mono.trans hrest.mono)⟩

/-! ### Commands that have waited -/

/-- A command that has waited long enough is answered. -/
theorem State.waitedFor_of_since {s : State} {k : CmdKey} {op y : Nat} {c : Cmd} {lsb : Cmd → Nat} (hcmds : s.cmdsOf k = [c]) (hsince : c.since = some y)
    (hop : c.opcode = op) (hover : y + lsb c ≤ s.now) (hmay : s.mayReply k = true) : s.waitedFor k op lsb = some c := by
  rw [State.waitedFor, hcmds]
  dsimp only
  rw [hsince]
  exact if_pos ⟨hop, hover, hmay⟩

theorem writeBusyTimeout_yields (t : Nat) (src : Source) (c : Cmd) (y : Nat) (s : State) (hr : s.phase = .ready) (hcmds : s.cmdsOf (s.keyOf src) = [c])
    (hsince : c.since = some y) (hop : c.opcode = 0x02) (hover : y + lsbMs ≤ max s.now t) (hmay : s.mayReply (s.keyOf src) = true) :
    Yields (.writeBusyTimeout t src) s fun x => s.answered x src c { status := 0x07 } ∧ Frame t [.fields, .command, .tx, .link] s x := by
  have hcmds' : (s.clock t).cmdsOf (s.keyOf src) = [c] := hcmds
  have hexec : exec (.writeBusyTimeout t src) s = .next (s.keep t ((s.clock t).answer (s.keyOf src) c { status := 0x07 })) := by
    have hwaited : (s.clock t).waitedFor ((s.clock t).keyOf src) 0x02 (fun _ => lsbMs) = some c := State.waitedFor_of_since hcmds' hsince hop hover hmay
    show execWriteBusyTimeout t src s = _
    rw [execWriteBusyTimeout, State.runCm_ready s t _ hr, hwaited, ← State.finish_eq_answer _ _ _ _ hcmds']
    rfl
  exact Yields.of_answer hexec hcmds (State.Mild.refl _) fun x hanswered _ _ hframe _ => ⟨hanswered, hframe _ (Untouched.refl _ _) (List.Subset.refl _)⟩

theorem pollBusyTimeout_yields (t : Nat) (src : Source) (c : Cmd) (y : Nat) (s : State) (hr : s.phase = .ready) (hcmds : s.cmdsOf (s.keyOf src) = [c])
    (hsince : c.since = some y) (hop : c.opcode = 0x04) (hover : y + c.p 1 * lsbUs ≤ max s.now t) (hmay : s.mayReply (s.keyOf src) = true) :
    Yields (.pollBusyTimeout t src) s fun x => s.answered x src c { status := 0x11, results := [BitVec.ofNat 20 s.cmBusy] }
      ∧ Frame t [.fields, .command, .tx, .link] s x := by
  have hcmds' : (s.clock t).cmdsOf (s.keyOf src) = [c] := hcmds
  have hexec : exec (.pollBusyTimeout t src) s
      = .next (s.keep t ((s.clock t).answer (s.keyOf src) c { status := 0x11, results := [BitVec.ofNat 20 s.cmBusy] })) := by
    have hwaited : (s.clock t).waitedFor ((s.clock t).keyOf src) 0x04 (fun c => c.p 1 * lsbUs) = some c :=
      State.waitedFor_of_since hcmds' hsince hop hover hmay
    show execPollBusyTimeout t src s = _
    rw [execPollBusyTimeout, State.runCm_ready s t _ hr, hwaited, ← State.finish_eq_answer _ _ _ _ hcmds']
    rfl
  exact Yields.of_answer hexec hcmds (State.Mild.refl _) fun x hanswered _ _ hframe _ => ⟨hanswered, hframe _ (Untouched.refl _ _) (List.Subset.refl _)⟩

/-! ### POLL_BUSY -/

/-- What a POLL_BUSY that may execute does. -/
def State.pollWork (s : State) (k : CmdKey) (c : Cmd) : State :=
  if c.p 1 > 1000000 then s.finish k c { status := 0x03 }
  else if s.cmBusy &&& c.p 0 = 0 then s.finish k c { status := 0, results := [BitVec.ofNat 20 s.cmBusy] }
  else s.setHeadCmd k { c with since := some s.now }

/-- A POLL_BUSY leaves what its work leaves, where that wakes no command. -/
theorem exec_pollBusy_of_work {t : Nat} {src : Source} {c : Cmd} {s y : State} (hr : s.phase = .ready) (hasks : (s.clock t).asks src 0x04 c)
    (hwork : (s.clock t).pollWork (s.keyOf src) c = y) (hwake : y.wake = y) : exec (.pollBusy t src) s = .next (s.keep t y) := by
  have hexec : exec (.pollBusy t src) s = s.runCm t fun s => s.command (s.keyOf src) 0x04 fun s c => s.pollWork (s.keyOf src) c := rfl
  have hdone : ((s.clock t).command ((s.clock t).keyOf src) 0x04 fun s c => s.pollWork (s.keyOf src) c) = y :=
    (State.command_of_asks hasks _).trans ((congrArg State.wake hwork).trans hwake)
  rw [hexec, State.runCm_ready s t _ hr, hdone]

theorem pollBusy_answers (t : Nat) (src : Source) (c : Cmd) (s : State) (hr : s.phase = .ready) (hasks : (s.clock t).asks src 0x04 c)
    (hmax : c.p 1 ≤ 1000000) (hfree : s.cmBusy &&& c.p 0 = 0) : Yields (.pollBusy t src) s fun x =>
      s.answered x src c { status := 0, results := [BitVec.ofNat 20 s.cmBusy] } ∧ Frame t [.fields, .command, .tx, .link] s x := by
  have hcmds : (s.clock t).cmdsOf (s.keyOf src) = [c] := hasks.1
  have hidle : (s.clock t).Idle := hasks.2.2.2.2
  have hwork : (s.clock t).pollWork (s.keyOf src) c = (s.clock t).answer (s.keyOf src) c { status := 0, results := [BitVec.ofNat 20 s.cmBusy] } := by
    rw [State.pollWork, if_neg (Nat.not_lt.mpr hmax), if_pos (show (s.clock t).cmBusy &&& c.p 0 = 0 from hfree), State.finish_eq_answer _ _ _ _ hcmds]
    rfl
  have hwake := (hidle.of_subset ((s.clock t).answer_cm (s.keyOf src) c { status := 0, results := [BitVec.ofNat 20 s.cmBusy] } hcmds).2.1).wake
  exact Yields.of_answer (exec_pollBusy_of_work hr hasks hwork hwake) hcmds (State.Mild.refl _) fun x hanswered _ _ hframe _ =>
    ⟨hanswered, hframe _ (Untouched.refl _ _) (List.Subset.refl _)⟩

theorem pollBusy_waits (t : Nat) (src : Source) (c : Cmd) (s : State) (hr : s.phase = .ready) (hasks : (s.clock t).asks src 0x04 c)
    (hmax : c.p 1 ≤ 1000000) (hbusy : s.cmBusy &&& c.p 0 ≠ 0) : Yields (.pollBusy t src) s fun x =>
      x.cmdsOf (s.keyOf src) = [{ c with since := some (max s.now t) }] ∧ Frame t [.command] s x := by
  have hcmds : (s.clock t).cmdsOf (s.keyOf src) = [c] := hasks.1
  have hidle : (s.clock t).Idle := hasks.2.2.2.2
  have hposted : c.posted = false := (hidle.of_mem_cmdsOf (k := s.keyOf src) (c := c) (by simp [hcmds])).2
  have hwork : (s.clock t).pollWork (s.keyOf src) c = (s.clock t).setHeadCmd (s.keyOf src) { c with since := some (max s.now t) } := by
    rw [State.pollWork, if_neg (Nat.not_lt.mpr hmax), if_neg (show (s.clock t).cmBusy &&& c.p 0 ≠ 0 from hbusy)]
    rfl
  have hstuck : ((s.clock t).setHeadCmd (s.keyOf src) { c with since := some (max s.now t) }).Stuck { c with since := some (max s.now t) } :=
    State.stuck_of_polling hasks.2.1 hposted hbusy
  exact ⟨_, exec_pollBusy_of_work hr hasks hwork (State.wake_setHeadCmd hidle hcmds hstuck),
    (State.cmdsOf_setHeadCmd _ _ _).trans (by rw [hcmds]; rfl), Frame.of_untouched (State.setCmds_untouched _ _ _)⟩

end Sys2Proof.Machine
end

section
namespace Sys2Proof
open Machine

/-- Settles O52: a WRITE to a posted block stays at the head of its queue while its write is on the way (State.stuck_of_posted), and a write at a
shadow address changes the shadow set alone (State.acceptAlias_spec). -/
theorem registersAreWritten : Obligations.RegistersAreWritten := by
  unfold Obligations.RegistersAreWritten
  exact ⟨write_cmCfg_yields, write_posted_yields, writePosted_yields, postedWriteAccept_yields, writeBusyTimeout_yields, pollBusy_answers, pollBusy_waits,
    pollBusyTimeout_yields⟩

end Sys2Proof
end

section
/-!
SUPPORT. Firmware and settings (R405, R448, R451 to R456): boot records as they count, the bytes of an image, the writes that wait.
-/

namespace Sys2Proof.Machine

/-! ### What an answer rests on -/

/-- Work on fields other than those an answer rests on, and on parts that no answer rests on. -/
theorem State.Mild.of_untouched {s y : State} {l : List Group} {fs : List Fld} (hnow : y.now = s.now) (hrest : Untouched l s y)
    (hfields : OnlyFields fs s y) (hl : ∀ g ∈ [Group.command, .tx, .link, .sets, .waits], g ∉ l)
    (hfs : ∀ f ∈ Reg.CF_STAT_ACTIVE :: replyCounters, f.key ∉ fs.map Fld.key) : s.Mild y where
  now := hnow
  queues := congrArg Command.queues (hrest .command (hl _ (by simp)))
  quiet :=
    { replies := congrArg Command.replies (hrest .command (hl _ (by simp)))
      tx := hrest .tx (hl _ (by simp))
      fl := hrest .link (hl _ (by simp))
      setA := (hrest .sets (hl _ (by simp))).1
      setB := (hrest .sets (hl _ (by simp))).2
      waiting := (hrest .waits (hl _ (by simp))).1
      stale := (hrest .waits (hl _ (by simp))).2.1
      active := hfields _ (hfs _ (by simp)) }
  counters := fun f hf => hfields f (hfs f (List.mem_cons_of_mem _ hf))

/-- An opcode that is answered at once does its work and is answered. -/
theorem exec_of_simple {i : Instr} {t op : Nat} {src : Source} {c : Cmd} {s y : State} {a : Answer} {f : State → Cmd → State × Answer}
    (hexec : exec i s = s.runCm t fun s => s.simple (s.keyOf src) op f) (hr : s.phase = .ready) (hasks : (s.clock t).asks src op c)
    (hf : f (s.clock t) c = (y, a)) (hmild : (s.clock t).Mild y) : exec i s = .next (s.keep t (y.answer (s.keyOf src) c a)) := by
  rw [hexec, State.runCm_ready s t _ hr, State.simple_of_asks hasks hf hmild.queues]
  rfl

/-! ### Boot records -/

/-- What a change of boot records leaves of power. -/
def Power.noSlots (p : Power) : Power := { p with slotA := {}, slotB := {}, staging := none, deferred := [] }

theorem State.slotNow_congr {s x : State} (h : x.pw = { s.pw with gate := x.pw.gate }) (b : Bool) : x.slotNow b = s.slotNow b := by
  unfold State.slotNow State.slotRec State.flashBad
  rw [h]

/-- With no write that waits a boot record counts as the flash holds it. -/
theorem State.slotNow_of_none {s : State} (h : s.pw.deferred = []) (b : Bool) : s.slotNow b = s.slotRec b := by
  rw [State.slotNow, h]
  rfl

/-- A boot record that waits counts. -/
theorem State.slotNow_defer (s : State) (b c : Bool) (x : Slot) : (s.defer (.bootRecord b x)).slotNow c = if b = c then x else s.slotNow c := by
  have hrec : (s.defer (.bootRecord b x)).slotRec c = s.slotRec c := rfl
  rw [State.slotNow, hrec, State.defer]
  dsimp only
  rw [List.foldl_append]
  rfl

/-- The boot record of a slot is on its flash; where it is that of a whole image, the staging is over. -/
theorem State.putRecord_spec {s : State} {b : Bool} (x : Slot) (hused : s.flashBad b = false) :
    (s.putRecord b x).slotRec b = x ∧ (s.putRecord b x).slotRec (!b) = s.slotRec (!b) ∧ (s.putRecord b x).pw.deferred = s.pw.deferred
      ∧ (s.putRecord b x).pw.noSlots = s.pw.noSlots ∧ (s.putRecord b x).pw.staging = match s.pw.staging with
        | some y => if y.recorded && decide (y.slotB = b) && decide (x.state = 2) then none else some y
        | none => none := by
  have hput : s.putRecord b x = (let staging := match s.pw.staging with
        | some y => if y.recorded && decide (y.slotB = b) && decide (x.state = 2) then none else some y
        | none => none
      { s with pw := if b then { s.pw with slotB := x, staging := staging } else { s.pw with slotA := x, staging := staging } }) := by
    unfold State.putRecord
    dsimp only
    rw [hused]
    rfl
  rw [hput]
  cases b with
  | true =>
    refine ⟨?_, rfl, rfl, rfl, rfl⟩
    have hused' : s.pw.badB = false := hused
    simp [State.slotRec, State.flashBad, hused']
  | false =>
    refine ⟨?_, rfl, rfl, rfl, rfl⟩
    have hused' : s.pw.badA = false := hused
    simp [State.slotRec, State.flashBad, hused']

theorem State.putRecord_untouched (s : State) (b : Bool) (x : Slot) : Untouched [.power] s (s.putRecord b x) := by
  intro g hg
  unfold State.putRecord
  dsimp only
  split <;> cases g <;> simp [Group.same] at hg ⊢

theorem State.defer_untouched (s : State) (w : FlashWrite) : Untouched [.power] s (s.defer w) := by
  intro g hg
  cases g <;> simp [Group.same, State.defer] at hg ⊢

/-- A boot record is written, or waits, which may be counted. -/
theorem State.ownWrite_cases (s : State) (w : FlashWrite) :
    (s.ownWrite w = s.flashPerform w ∧ s.pw.deferred = []) ∨ s.ownWrite w = s.defer w
      ∨ s.ownWrite w = (s.defer w).inc Reg.PW_DEFER_CNT_COUNT := by
  unfold State.ownWrite
  split
  · next h => exact .inl ⟨rfl, by simpa using (Bool.and_eq_true_iff.mp h).2⟩
  · dsimp only
    split
    · exact .inr (.inl rfl)
    · exact .inr (.inr rfl)

/-- Where nothing waits and the flash may be programmed, a write takes place. -/
theorem State.ownWrite_of_free {s : State} (hmay : s.mayProgram = true) (hnone : s.pw.deferred = []) (w : FlashWrite) : s.ownWrite w = s.flashPerform w := by
  rw [State.ownWrite, hmay, hnone]
  rfl

/-- The fields that a change of a boot record may write. -/
def slotFields : List Fld := [Reg.PW_FW_STAT_SLOT_A, Reg.PW_FW_STAT_SLOT_B, Reg.PW_DEFER_CNT_COUNT]

/-- A slot's boot record has changed, whether it stands in flash yet or waits. -/
structure State.Marks (s : State) (b : Bool) (x : Slot) (y : State) : Prop where
  here : y.slotNow b = x
  there : y.slotNow (!b) = s.slotNow (!b)
  power : y.pw.noSlots = s.pw.noSlots
  staging : x.state ≠ 2 → y.pw.staging = s.pw.staging
  rest : Untouched [.fields, .power] s y
  fields : OnlyFields slotFields s y
  now : y.now = s.now
  phase : y.phase = s.phase

theorem State.Marks.of_performed {s : State} {b : Bool} (x : Slot) (hused : s.flashBad b = false) (hnone : s.pw.deferred = []) :
    s.Marks b x (s.putRecord b x) := by
  obtain ⟨hhere, hthere, hdeferred, hpower, hstaging⟩ := State.putRecord_spec x hused
  have hnone' := hdeferred.trans hnone
  refine ⟨(State.slotNow_of_none hnone' b).trans hhere, ?_, hpower, fun hstate => ?_, (s.putRecord_untouched b x).mono, ?_, by simp, by simp⟩
  · rw [State.slotNow_of_none hnone', State.slotNow_of_none hnone, hthere]
  · rw [hstaging]
    split
    · rw [decide_eq_false hstate, Bool.and_false, if_neg Bool.false_ne_true]
      exact Eq.symm ‹_›
    · exact Eq.symm ‹_›
  · exact OnlyFields.of_regs (by simp)

theorem State.Marks.of_deferred (s : State) (b : Bool) (x : Slot) : s.Marks b x (s.defer (.bootRecord b x)) where
  here := by rw [State.slotNow_defer, if_pos rfl]
  there := by rw [State.slotNow_defer, if_neg (by simp)]
  power := rfl
  staging := fun _ => rfl
  rest := (s.defer_untouched _).mono
  fields := OnlyFields.of_regs rfl
  now := rfl
  phase := rfl

/-- A field that is written before or after leaves what counts of the boot records. -/
theorem State.Marks.of_pw {s s' y y' : State} {b : Bool} {x : Slot} (h : s.Marks b x y) (hs : s.pw = s'.pw) (hy : y'.pw = y.pw)
    (hrest : Untouched [.fields, .power] s' y') (hfields : OnlyFields slotFields s' y') (hnow : y'.now = s'.now) (hphase : y'.phase = s'.phase) :
    s'.Marks b x y' where
  here := (State.slotNow_congr (by rw [hy]) b).trans h.here
  there := (State.slotNow_congr (by rw [hy]) _).trans (h.there.trans (State.slotNow_congr (by rw [hs]) _))
  power := by rw [hy, h.power, hs]
  staging := fun hstate => by rw [hy, h.staging hstate, hs]
  rest := hrest
  fields := hfields
  now := hnow
  phase := hphase

theorem State.Marks.ownWrite {s : State} {b : Bool} (x : Slot) (hused : s.flashBad b = false) : s.Marks b x (s.ownWrite (.bootRecord b x)) := by
  obtain ⟨h, hnone⟩ | h | h := s.ownWrite_cases (.bootRecord b x)
  · exact h ▸ State.Marks.of_performed x hused hnone
  · exact h ▸ State.Marks.of_deferred s b x
  · rw [h]
    have hdeferred := State.Marks.of_deferred s b x
    exact hdeferred.of_pw rfl (by simp) (hdeferred.rest.trans (State.inc_untouched _ _).mono) (hdeferred.fields.then_inc (by simp [slotFields]))
      (by simp [hdeferred.now]) (by simp [hdeferred.phase])

theorem slotField_mem (b : Bool) : (if b then Reg.PW_FW_STAT_SLOT_B else Reg.PW_FW_STAT_SLOT_A) ∈ slotFields := by
  cases b <;> simp [slotFields]

/-- A slot's boot record is changed while the die runs: it counts from now on. -/
theorem State.markSlot_marks {s : State} {b : Bool} (x : Slot) (hused : s.flashBad b = false) (hr : s.phase = .ready) :
    s.Marks b x.sealed (s.markSlot b x) := by
  have hloaded : s.loaded = true := decide_eq_true hr
  have hmark : s.markSlot b x = (s.showSlot b x.state).ownWrite (.bootRecord b x.sealed) := by
    rw [State.markSlot, hused, hloaded]
    rfl
  have hshown := State.Marks.ownWrite (s := s.showSlot b x.state) x.sealed hused
  rw [hmark]
  exact hshown.of_pw rfl rfl ((State.setH_untouched _ _ _).mono.trans hshown.rest)
    ((OnlyFields.setH (slotField_mem b) _ _).trans hshown.fields) hshown.now hshown.phase

/-- Where the flash may be programmed and nothing waits, the boot record is written at once. -/
theorem State.markSlot_of_free {s : State} {b : Bool} {x : Slot} (hused : s.flashBad b = false) (hr : s.phase = .ready)
    (hmay : (s.showSlot b x.state).mayProgram = true) (hnone : s.pw.deferred = []) : s.markSlot b x = (s.showSlot b x.state).putRecord b x.sealed := by
  have hloaded : s.loaded = true := decide_eq_true hr
  rw [State.markSlot, hused, hloaded]
  exact State.ownWrite_of_free hmay hnone _

/-! ### FW_STAGE -/

/-- The staging has a new state. -/
def State.setStaging (s : State) (y : Staging) : State := { s with pw := { s.pw with staging := some y } }

theorem State.setStaging_untouched (s : State) (y : Staging) : Untouched [.power] s (s.setStaging y) := by
  intro g hg
  cases g <;> simp [Group.same, State.setStaging] at hg ⊢

theorem State.setImage_untouched (s : State) (b : Bool) (l : List (BitVec 8)) : Untouched [.power] s (s.setImage b l) := by
  intro g hg
  cases g <;> simp [Group.same, State.setImage] at hg ⊢

theorem State.imageOf_setImage_same (s : State) (b : Bool) (l : List (BitVec 8)) : (s.setImage b l).imageOf b = l := by
  cases b <;> rfl

/-- The bytes of an image leave the boot records. -/
theorem State.setImage_slots (s : State) (b c : Bool) (l : List (BitVec 8)) :
    (s.setImage b l).slotNow c = s.slotNow c ∧ (s.setImage b l).slotRec c = s.slotRec c ∧ (s.setImage b l).flashBad c = s.flashBad c
      ∧ (s.setImage b l).pw.staging = s.pw.staging ∧ (s.setImage b l).pw.deferred = s.pw.deferred := by
  cases b <;> exact ⟨rfl, rfl, rfl, rfl, rfl⟩

/-- The image bytes are no part of the boot records. -/
theorem State.imageOf_of_noSlots {s x : State} (h : x.pw.noSlots = s.pw.noSlots) (b : Bool) : x.imageOf b = s.imageOf b := by
  have hA : x.pw.noSlots.imageA = s.pw.noSlots.imageA := by rw [h]
  have hB : x.pw.noSlots.imageB = s.pw.noSlots.imageB := by rw [h]
  cases b
  · exact hA
  · exact hB

theorem State.imageOf_congr {s x : State} (h : x.pw = { s.pw with gate := x.pw.gate }) (b : Bool) : x.imageOf b = s.imageOf b := by
  unfold State.imageOf
  rw [h]

/-- What holds the die apart, power is that of the state whose answer left. -/
theorem Power.eq_self_gate {p q : Power} {g : Gate} (h : p = { q with gate := g }) : p = { q with gate := p.gate } := by
  rw [h]

/-- A block into a slot of a flash that is not used is refused (R445). -/
theorem State.flashBad_of_stage {s : State} {c : Cmd} (h : s.stageRefused c = none) : s.flashBad s.stageSlot = false := by
  unfold State.stageRefused at h
  dsimp only at h
  split at h
  · exact absurd h (by simp)
  · split at h
    · exact absurd h (by simp)
    · split at h
      · exact absurd h (by simp)
      · next hn => exact Bool.eq_false_iff.mpr (not_or.mp hn).2

/-- The staging that a first block begins. -/
def State.firstStaging (s : State) (c : Cmd) : Staging :=
  { slotB := s.stageSlot, count := c.p 3 % 256, buffer := c.imageBytes, last := decide (c.p 0 / 2 ^ 18 % 2 = 1) }

/-- What a first block does before its answer: the slot is erased and marked WRITING. -/
def State.beginStaging (s : State) (c : Cmd) : State :=
  ((s.setStaging (s.firstStaging c)).setImage s.stageSlot []).markSlot s.stageSlot { s.slotNow s.stageSlot with state := 1, length := 0 }

theorem State.stage_of_first {s : State} {c : Cmd} (hfirst : c.p 0 / 2 ^ 19 = 1) (k : CmdKey) :
    s.stage k c = (s.beginStaging c).finish k c { status := 0, results := [BitVec.ofNat 20 (c.p 3 % 256)] } := by
  have hroom : ¬ (0 - 0 + c.p 3 % 256 > 65536) := by omega
  have hcount : (0 + c.p 3 % 256) % 2 ^ 20 = c.p 3 % 256 := by omega
  unfold State.stage
  dsimp only
  rw [decide_eq_true hfirst, if_pos rfl, if_neg hroom, hcount, Nat.zero_add, List.nil_append, if_pos rfl]
  rfl

/-- What a first block leaves. -/
theorem State.beginStaging_spec {s : State} {c : Cmd} (hr : s.phase = .ready) (hused : s.flashBad s.stageSlot = false) :
    (s.beginStaging c).pw.staging = some (s.firstStaging c) ∧ (s.beginStaging c).imageOf s.stageSlot = []
      ∧ ((s.beginStaging c).slotNow s.stageSlot).state = 1 ∧ Untouched [.fields, .power] s (s.beginStaging c) ∧ s.Mild (s.beginStaging c) := by
  have hmarks := State.markSlot_marks (s := (s.setStaging (s.firstStaging c)).setImage s.stageSlot []) (b := s.stageSlot)
    { s.slotNow s.stageSlot with state := 1, length := 0 } (((s.setStaging _).setImage_slots _ _ _).2.2.1.trans hused) hr
  have hbegun : Untouched [.power] s ((s.setStaging (s.firstStaging c)).setImage s.stageSlot []) :=
    (s.setStaging_untouched _).trans (State.setImage_untouched _ _ _)
  have hrest := hbegun.mono.trans hmarks.rest
  have hfields : OnlyFields slotFields s (s.beginStaging c) := (OnlyFields.of_regs rfl).trans hmarks.fields
  refine ⟨?_, ?_, congrArg Slot.state hmarks.here, hrest, State.Mild.of_untouched hmarks.now hrest hfields (by decide) (by decide)⟩
  · exact (hmarks.staging (by decide : (1 : Nat) ≠ 2)).trans ((s.setStaging _).setImage_slots _ false _).2.2.2.1
  · exact (State.imageOf_of_noSlots hmarks.power _).trans (State.imageOf_setImage_same _ _ _)

/-- An FW_STAGE once what could be programmed has been. -/
def State.fwStageStep (s : State) (src : Source) : State :=
  match s.waitedFor (s.keyOf src) 0x50 fun _ => 0 with
  | some c => s.stage (s.keyOf src) c
  | none => s.command (s.keyOf src) 0x50 fun s c =>
    match s.stageRefused c with
    | some x => s.finish (s.keyOf src) c { status := x }
    | none => s.stage (s.keyOf src) c

theorem exec_fwStage_eq (t : Nat) (src : Source) (n : Nat) (s : State) :
    exec (.fwStage t src n) s = s.runCm t fun s => (s.program n).fwStageStep src := rfl

/-- A head that does not wait has not waited. -/
theorem State.waitedFor_of_asks {s : State} {src : Source} {op : Nat} {c : Cmd} (h : s.asks src op c) (op' : Nat) (lsb : Cmd → Nat) :
    s.waitedFor (s.keyOf src) op' lsb = none := by
  obtain ⟨hcmds, -, -, -, hidle⟩ := h
  have hidle : s.Idle := hidle
  obtain ⟨hsince, -⟩ := hidle.of_mem_cmdsOf (k := s.keyOf src) (c := c) (by simp [hcmds])
  rw [State.waitedFor, hcmds]
  dsimp only
  rw [hsince]

/-- With no staging nothing is programmed. -/
theorem State.program_of_none {s : State} (h : s.pw.staging = none) (n : Nat) : s.program n = s := by
  rw [State.program, h]

theorem fwStage_yields (t : Nat) (src : Source) (c : Cmd) (n : Nat) (s : State) (hr : s.phase = .ready) (hasks : (s.clock t).asks src 0x50 c)
    (hstaging : s.pw.staging = none) (hgoes : (s.clock t).stageRefused c = none) (hfirst : c.p 0 / 2 ^ 19 = 1) : Yields (.fwStage t src n) s fun x =>
      x.pw.staging = some { slotB := !s.pw.runB, count := c.p 3 % 256, buffer := c.imageBytes, last := decide (c.p 0 / 2 ^ 18 % 2 = 1) }
        ∧ x.imageOf (!s.pw.runB) = [] ∧ (x.slotNow (!s.pw.runB)).state = 1 ∧ s.answered x src c { status := 0, results := [BitVec.ofNat 20 (c.p 3 % 256)] }
        ∧ Frame t [.fields, .command, .tx, .link, .power] s x := by
  have hslot : (s.clock t).stageSlot = !s.pw.runB := if_neg (by rw [show (s.clock t).phase = s.phase from rfl, hr]; exact Phase.noConfusion)
  obtain ⟨hbegun, hempty, hstate, hrest, hmild⟩ := State.beginStaging_spec (s := s.clock t) (c := c) hr (State.flashBad_of_stage hgoes)
  have hcmds : ((s.clock t).beginStaging c).cmdsOf (s.keyOf src) = [c] := (State.cmdsOf_congr hmild.queues _).trans hasks.1
  have hidle : (s.clock t).Idle := hasks.2.2.2.2
  have hsub := (((s.clock t).beginStaging c).answer_cm (s.keyOf src) c { status := 0, results := [BitVec.ofNat 20 (c.p 3 % 256)] } hcmds).2.1
  rw [hmild.queues] at hsub
  have hstep : (s.clock t).fwStageStep src
      = ((s.clock t).beginStaging c).answer (s.keyOf src) c { status := 0, results := [BitVec.ofNat 20 (c.p 3 % 256)] } := by
    rw [State.fwStageStep, State.waitedFor_of_asks hasks]
    dsimp only
    rw [State.command_of_asks hasks, hgoes]
    dsimp only
    rw [State.stage_of_first hfirst]
    exact (congrArg State.wake (State.finish_eq_answer _ _ _ _ hcmds)).trans (hidle.of_subset hsub).wake
  have hexec : exec (.fwStage t src n) s = .next (s.keep t (((s.clock t).beginStaging c).answer (s.keyOf src) c
      { status := 0, results := [BitVec.ofNat 20 (c.p 3 % 256)] })) := by
    rw [exec_fwStage_eq, State.runCm_ready s t _ hr, State.program_of_none (s := s.clock t) hstaging, hstep]
  refine Yields.of_answer hexec hasks.1 hmild fun x hanswered _ hpw hframe _ => ?_
  rw [← hslot]
  have hpw' := Power.eq_self_gate hpw
  refine ⟨(congrArg Power.staging hpw).trans hbegun, (State.imageOf_congr hpw' _).trans hempty, ?_, hanswered, hframe _ hrest.mono (by simp)⟩
  rw [State.slotNow_congr hpw', hstate]

theorem fwStageTimeout_yields (t : Nat) (src : Source) (c : Cmd) (y : Nat) (s : State) (hr : s.phase = .ready) (hcmds : s.cmdsOf (s.keyOf src) = [c])
    (hsince : c.since = some y) (hop : c.opcode = 0x50) (hover : y + 50 * lsbMs ≤ max s.now t) (hmay : s.mayReply (s.keyOf src) = true) :
    Yields (.fwStageTimeout t src) s fun x => s.answered x src c { status := 0x0F } ∧ Frame t [.fields, .command, .tx, .link] s x := by
  have hcmds' : (s.clock t).cmdsOf (s.keyOf src) = [c] := hcmds
  have hexec : exec (.fwStageTimeout t src) s = .next (s.keep t ((s.clock t).answer (s.keyOf src) c { status := 0x0F })) := by
    have hwaited : (s.clock t).waitedFor ((s.clock t).keyOf src) 0x50 (fun _ => 50 * lsbMs) = some c :=
      State.waitedFor_of_since hcmds' hsince hop hover hmay
    show execFwStageTimeout t src s = _
    rw [execFwStageTimeout, State.runCm_ready s t _ hr, hwaited, ← State.finish_eq_answer _ _ _ _ hcmds']
    rfl
  exact Yields.of_answer hexec hcmds (State.Mild.refl _) fun x hanswered _ _ hframe _ => ⟨hanswered, hframe _ (Untouched.refl _ _) (List.Subset.refl _)⟩

/-! ### STAGE_COMPLETE -/

/-- What is programmed of a staging by its first bytes. -/
def Staging.programs (y : Staging) (n : Nat) : Staging :=
  { y with programmed := y.programmed + (min n y.count - y.programmed), buffer := y.buffer.drop (min n y.count - y.programmed) }

theorem State.program_of_staging {s : State} {y : Staging} (h : s.pw.staging = some y) (hmay : s.mayProgram = true) (n : Nat) :
    s.program n = (s.setImage y.slotB (s.imageOf y.slotB ++ y.buffer.take (min n y.count - y.programmed))).setStaging (y.programs n) := by
  rw [State.program, h, hmay]
  rfl

theorem State.program_of_held {s : State} (hmay : s.mayProgram = false) (n : Nat) : s.program n = s := by
  rw [State.program, hmay]
  split
  · exact absurd ‹false = true› Bool.false_ne_true
  · rfl

/-- What STAGE_COMPLETE does once what could be programmed has been. -/
def State.stageDone (s : State) : State :=
  match s.pw.staging with
  | some x =>
    if x.last && decide (x.programmed = x.count) && !x.recorded then
      (s.setStaging { x with recorded := true }).markSlot x.slotB { s.slotNow x.slotB with
        state := 2, length := x.count, version := (Config.imageHeader ((s.imageOf x.slotB).take x.count)).version }
    else s
  | none => s

theorem exec_stageComplete_eq (t n : Nat) (s : State) : exec (.stageComplete t n) s = s.runCm t fun s => (s.program n).stageDone := rfl

/-- A slot's state that is shown leaves whether the flash may be programmed. -/
theorem State.mayProgram_showSlot (s : State) (b : Bool) (n : Nat) : (s.showSlot b n).mayProgram = s.mayProgram := by
  have hne (f : Fld) (hf : f.key ≠ Reg.PW_FW_STAT_SLOT_A.key ∧ f.key ≠ Reg.PW_FW_STAT_SLOT_B.key) : (s.showSlot b n).h f = s.h f := by
    obtain ⟨hA, hB⟩ := hf
    cases b
    · exact State.h_setH_ne _ _ _ _ hA
    · exact State.h_setH_ne _ _ _ _ hB
  have hflash : (s.showSlot b n).flashOk = s.flashOk := by
    rw [State.flashOk, State.flashOk, State.tjInside, State.tjInside, hne _ (by decide), hne _ (by decide)]
    rfl
  rw [State.mayProgram, State.mayProgram, State.inWindow, State.inWindow, hflash]
  rfl

theorem State.mayProgram_setImage (s : State) (b : Bool) (l : List (BitVec 8)) : (s.setImage b l).mayProgram = s.mayProgram := by
  cases b <;> rfl

/-- The boot record of a whole image is written where the flash may be programmed: the staging is over. -/
theorem State.stageDone_spec {s : State} {y : Staging} (hr : s.phase = .ready) (hstaging : s.pw.staging = some y) (hlast : y.last = true)
    (hall : y.programmed = y.count) (hrecorded : y.recorded = false) (hmay : s.mayProgram = true) (hnone : s.pw.deferred = [])
    (hused : s.flashBad y.slotB = false) :
    s.stageDone.pw.staging = none ∧ (∀ b, s.stageDone.imageOf b = s.imageOf b)
      ∧ s.stageDone.slotNow y.slotB = ({ s.slotNow y.slotB with
          state := 2, length := y.count, version := (Config.imageHeader ((s.imageOf y.slotB).take y.count)).version } : Slot).sealed
      ∧ s.stageDone.slotNow (!y.slotB) = s.slotNow (!y.slotB) ∧ Untouched [.fields, .power] s s.stageDone := by
  have hdone : (y.last && decide (y.programmed = y.count) && !y.recorded) = true := by
    rw [hlast, decide_eq_true hall, hrecorded]
    rfl
  have hstep : s.stageDone = (s.setStaging { y with recorded := true }).markSlot y.slotB { s.slotNow y.slotB with
      state := 2, length := y.count, version := (Config.imageHeader ((s.imageOf y.slotB).take y.count)).version } := by
    rw [State.stageDone, hstaging]
    exact if_pos hdone
  rw [hstep]
  generalize hrecord : ({ s.slotNow y.slotB with
      state := 2, length := y.count, version := (Config.imageHeader ((s.imageOf y.slotB).take y.count)).version } : Slot) = r
  have hstate : r.state = 2 := by rw [← hrecord]
  have hmarks := State.markSlot_marks (s := s.setStaging { y with recorded := true }) (b := y.slotB) r hused hr
  refine ⟨?_, fun b => State.imageOf_of_noSlots hmarks.power b, hmarks.here, hmarks.there, (s.setStaging_untouched _).mono.trans hmarks.rest⟩
  have hmay' : ((s.setStaging { y with recorded := true }).showSlot y.slotB r.state).mayProgram = true := (State.mayProgram_showSlot _ _ _).trans hmay
  rw [State.markSlot_of_free (s := s.setStaging { y with recorded := true }) hused hr hmay' hnone]
  obtain ⟨-, -, -, -, hends⟩ := State.putRecord_spec (s := (s.setStaging { y with recorded := true }).showSlot y.slotB r.state) r.sealed hused
  have hover : (true && decide (y.slotB = y.slotB) && decide (r.sealed.state = 2)) = true := by
    rw [decide_eq_true rfl, decide_eq_true (show r.sealed.state = 2 from hstate)]
    rfl
  exact hends.trans (if_pos hover)

theorem stageComplete_yields (t n : Nat) (y : Staging) (s : State) (hr : s.phase = .ready) (hstaging : s.pw.staging = some y) (hlast : y.last = true)
    (hrecorded : y.recorded = false) (hmay : s.mayProgram = true) (hnone : s.pw.deferred = []) (hused : s.flashBad y.slotB = false)
    (hle : y.programmed ≤ y.count) (hn : y.count ≤ n) : Yields (.stageComplete t n) s fun x =>
      x.pw.staging = none ∧ x.imageOf y.slotB = s.imageOf y.slotB ++ y.buffer.take (y.count - y.programmed)
        ∧ x.slotNow y.slotB = ({ s.slotNow y.slotB with
            state := 2, length := y.count, version := (Config.imageHeader ((x.imageOf y.slotB).take y.count)).version } : Slot).sealed
        ∧ x.slotNow (!y.slotB) = s.slotNow (!y.slotB) ∧ Frame t [.fields, .power] s x := by
  have hk : min n y.count - y.programmed = y.count - y.programmed := by rw [Nat.min_eq_right hn]
  have hcount : (y.programs n).programmed = (y.programs n).count := by
    show y.programmed + (min n y.count - y.programmed) = y.count
    rw [hk, Nat.add_sub_cancel' hle]
  have hprogram := State.program_of_staging (s := s.clock t) hstaging hmay n
  rw [hk] at hprogram
  obtain ⟨hsame, -, hbad, -, hdeferred⟩ := (s.clock t).setImage_slots y.slotB y.slotB ((s.clock t).imageOf y.slotB ++ y.buffer.take (y.count - y.programmed))
  have hsame' := ((s.clock t).setImage_slots y.slotB (!y.slotB) ((s.clock t).imageOf y.slotB ++ y.buffer.take (y.count - y.programmed))).1
  have himage := (s.clock t).imageOf_setImage_same y.slotB ((s.clock t).imageOf y.slotB ++ y.buffer.take (y.count - y.programmed))
  have hmay' := ((s.clock t).mayProgram_setImage y.slotB ((s.clock t).imageOf y.slotB ++ y.buffer.take (y.count - y.programmed))).trans hmay
  have hrest := (s.clock t).setImage_untouched y.slotB ((s.clock t).imageOf y.slotB ++ y.buffer.take (y.count - y.programmed))
  generalize hw : (s.clock t).setImage y.slotB ((s.clock t).imageOf y.slotB ++ y.buffer.take (y.count - y.programmed)) = w at *
  have hready : w.phase = .ready := by rw [← hw]; exact hr
  obtain ⟨hover, hbytes, hhere, hthere, hdone⟩ := State.stageDone_spec (s := w.setStaging (y.programs n)) (y := y.programs n) hready rfl hlast hcount hrecorded
    hmay' (hdeferred.trans hnone) (hbad.trans hused)
  have hexec : exec (.stageComplete t n) s = .next (s.keep t (w.setStaging (y.programs n)).stageDone) := by
    rw [exec_stageComplete_eq, State.runCm_ready s t _ hr, hprogram]
  have himage' : ((w.setStaging (y.programs n)).stageDone).imageOf y.slotB = s.imageOf y.slotB ++ y.buffer.take (y.count - y.programmed) :=
    (hbytes y.slotB).trans himage
  refine ⟨_, hexec, hover, himage', ?_, hthere.trans hsame', Frame.of_untouched ((hrest.trans (w.setStaging_untouched _)).mono.trans hdone)⟩
  refine hhere.trans ?_
  have hbytes' : (s.keep t (w.setStaging (y.programs n)).stageDone).imageOf y.slotB = (w.setStaging (y.programs n)).imageOf y.slotB := hbytes y.slotB
  have hslot : (w.setStaging (y.programs n)).slotNow (y.programs n).slotB = s.slotNow y.slotB := hsame
  rw [hbytes', hslot]
  rfl

theorem stageComplete_held (t n : Nat) (y : Staging) (s : State) (hr : s.phase = .ready) (hstaging : s.pw.staging = some y)
    (hmay : s.mayProgram = false) (hlt : y.programmed < y.count) : Yields (.stageComplete t n) s fun x => Frame t [] s x := by
  have hquiet : (s.clock t).stageDone = s.clock t := by
    have hmore : ¬ ((y.last && decide (y.programmed = y.count) && !y.recorded) = true) := by
      rw [decide_eq_false (Nat.ne_of_lt hlt), Bool.and_false, Bool.false_and]
      exact Bool.false_ne_true
    rw [State.stageDone, show (s.clock t).pw.staging = some y from hstaging]
    exact if_neg hmore
  have hexec : exec (.stageComplete t n) s = .next (s.keep t (s.clock t)) := by
    rw [exec_stageComplete_eq, State.runCm_ready s t _ hr, State.program_of_held (s := s.clock t) hmay, hquiet]
  exact ⟨_, hexec, Frame.of_untouched (Untouched.refl _ _)⟩

/-! ### FW_CONFIRM and FW_TRIAL_EXPIRED -/

/-- The trial is over: the running image stays, its version is the least from now on. -/
def State.trialOver (s : State) (version : Nat) : State :=
  { s with pw := { s.pw with minVersion := max s.pw.minVersion version, trialHalf := none, trial := false, trialEnd := none } }

theorem State.trialOver_untouched (s : State) (version : Nat) : Untouched [.power] s (s.trialOver version) := by
  intro g hg
  cases g <;> simp [Group.same, State.trialOver] at hg ⊢

/-- TRIAL is cleared, and FW_CONFIRMED is reported. -/
def State.reportConfirmed (s : State) (version b : Nat) : State :=
  ((s.trialOver version).flag Reg.SYS_BOOT_TRIAL false).raise .fwConfirmed b 0

theorem State.reportConfirmed_spec (s : State) (version b : Nat) :
    (s.reportConfirmed version b).h Reg.SYS_BOOT_TRIAL = 0 ∧ (s.reportConfirmed version b).pw = (s.trialOver version).pw
      ∧ (∃ r ∈ (s.reportConfirmed version b).ev.inbox, r.code = Ev.fwConfirmed.code) ∧ (s.reportConfirmed version b).now = s.now
      ∧ Untouched [.fields, .power, .events] s (s.reportConfirmed version b) ∧ OnlyFields [Reg.SYS_BOOT_TRIAL] s (s.reportConfirmed version b) := by
  refine ⟨?_, by simp [State.reportConfirmed], ⟨_, List.mem_append_right _ (List.mem_singleton.mpr rfl), rfl⟩, rfl, ?_, ?_⟩
  · rw [State.reportConfirmed, State.h_raise, State.h_flag_same]
    rfl
  · exact ((State.trialOver_untouched _ _).mono.trans (State.flag_untouched _ _ _).mono).trans (State.raise_untouched _ _ _ _).mono
  · exact ((OnlyFields.of_regs (s := s) (x := s.trialOver version) rfl).then_flag (List.mem_singleton.mpr rfl) _).then_raise _ _ _

/-- The boot records of both slots when the running image is confirmed. -/
def State.confirmSlots (s : State) : State :=
  (s.markSlot s.pw.runB { s.slotNow s.pw.runB with state := 4, gen := (s.slotNow (!s.pw.runB)).gen + 1 }).markSlot (!s.pw.runB)
    { s.slotNow (!s.pw.runB) with state := 5 }

theorem State.fwConfirm_of_trial {s : State} (htrial : s.h Reg.SYS_BOOT_TRIAL = 1) :
    s.fwConfirm = (s.confirmSlots.reportConfirmed (s.slotNow s.pw.runB).version (b2n s.pw.runB), { status := 0 }) := by
  have hon : ¬ (s.h Reg.SYS_BOOT_TRIAL = 0) := by rw [htrial]; exact Nat.one_ne_zero
  rw [State.fwConfirm, if_neg hon]
  rfl

/-- The settings in use rest on the flashes' halves and what the image takes for records that it does not know. -/
theorem State.half_of_halves {s x : State} (hA : x.pw.setsA = s.pw.setsA) (hB : x.pw.setsB = s.pw.setsB) (hbadA : x.pw.badA = s.pw.badA)
    (hbadB : x.pw.badB = s.pw.badB) (hdefaulted : x.pw.defaulted = s.pw.defaulted) : x.half = s.half := by
  unfold State.half State.storedHalf State.currentHalf State.readableHalves
  rw [hA, hB, hbadA, hbadB, hdefaulted]

theorem State.half_of_noSlots {s x : State} (h : x.pw.noSlots = s.pw.noSlots) : x.half = s.half :=
  State.half_of_halves (show x.pw.noSlots.setsA = s.pw.noSlots.setsA by rw [h]) (show x.pw.noSlots.setsB = s.pw.noSlots.setsB by rw [h])
    (show x.pw.noSlots.badA = s.pw.noSlots.badA by rw [h]) (show x.pw.noSlots.badB = s.pw.noSlots.badB by rw [h])
    (show x.pw.noSlots.defaulted = s.pw.noSlots.defaulted by rw [h])

theorem State.flashBad_of_noSlots {s x : State} (h : x.pw.noSlots = s.pw.noSlots) (b : Bool) : x.flashBad b = s.flashBad b := by
  cases b
  · exact show x.pw.noSlots.badA = s.pw.noSlots.badA by rw [h]
  · exact show x.pw.noSlots.badB = s.pw.noSlots.badB by rw [h]

/-- What the boot records are when the running image is confirmed. -/
theorem State.confirmSlots_spec {s : State} (hr : s.phase = .ready) (hA : s.pw.badA = false) (hB : s.pw.badB = false) :
    (s.confirmSlots.slotNow s.pw.runB).state = 4 ∧ (s.confirmSlots.slotNow s.pw.runB).gen = (s.slotNow (!s.pw.runB)).gen + 1
      ∧ (s.confirmSlots.slotNow (!s.pw.runB)).state = 5 ∧ s.confirmSlots.pw.noSlots = s.pw.noSlots ∧ Untouched [.fields, .power] s s.confirmSlots
      ∧ OnlyFields slotFields s s.confirmSlots ∧ s.confirmSlots.now = s.now := by
  have hused (b : Bool) : s.flashBad b = false := by
    cases b
    · exact hA
    · exact hB
  have hmine := State.markSlot_marks (b := s.pw.runB) { s.slotNow s.pw.runB with state := 4, gen := (s.slotNow (!s.pw.runB)).gen + 1 } (hused _) hr
  have hother := State.markSlot_marks (b := !s.pw.runB) { s.slotNow (!s.pw.runB) with state := 5 }
    ((State.flashBad_of_noSlots hmine.power _).trans (hused _)) (hmine.phase.trans hr)
  have hthere := hother.there
  rw [Bool.not_not, hmine.here] at hthere
  exact ⟨congrArg Slot.state hthere, congrArg Slot.gen hthere, congrArg Slot.state hother.here, hother.power.trans hmine.power,
    hmine.rest.trans hother.rest, hmine.fields.trans hother.fields, hother.now.trans hmine.now⟩

/-- A field that no reply counts in is as the work before the answer left it. -/
theorem State.h_countReply_trial (s : State) (c : Cmd) (status : Nat) :
    (s.countReply c status).h Reg.SYS_BOOT_TRIAL = s.h Reg.SYS_BOOT_TRIAL := by
  have hclass : ∀ f ∈ [Reg.CM_CNT_MAINT_COUNT, Reg.CM_CNT_PEER_COUNT, Reg.CM_CNT_BACKBONE_COUNT, Reg.CM_CNT_HEAD_COUNT],
      Reg.SYS_BOOT_TRIAL.key ≠ f.key := by decide
  exact State.h_countReply_ne _ _ _ _ (hclass _ (classCount_cases _)) (by decide) (by decide) (by decide) (by decide) (by decide)

theorem fwConfirm_yields (t : Nat) (src : Source) (c : Cmd) (s : State) (hr : s.phase = .ready) (hasks : (s.clock t).asks src 0x51 c)
    (htrial : s.h Reg.SYS_BOOT_TRIAL = 1) (hA : s.pw.badA = false) (hB : s.pw.badB = false) : Yields (.fwConfirm t src) s fun x =>
      (x.slotNow s.pw.runB).state = 4 ∧ (x.slotNow s.pw.runB).gen = (s.slotNow (!s.pw.runB)).gen + 1 ∧ (x.slotNow (!s.pw.runB)).state = 5
        ∧ x.h Reg.SYS_BOOT_TRIAL = 0 ∧ x.pw.minVersion = max s.pw.minVersion (s.slotNow s.pw.runB).version ∧ x.half = s.half
        ∧ (∃ r ∈ x.ev.inbox, r.code = Ev.fwConfirmed.code) ∧ s.answered x src c { status := 0 }
        ∧ Frame t [.fields, .events, .command, .tx, .link, .power] s x := by
  obtain ⟨hstate, hgen, hother, hpower, hrest, hfields, hnow⟩ := State.confirmSlots_spec (s := s.clock t) hr hA hB
  have hf : (s.clock t).fwConfirm = ((s.clock t).confirmSlots.reportConfirmed (s.slotNow s.pw.runB).version (b2n s.pw.runB), { status := 0 }) :=
    State.fwConfirm_of_trial (s := s.clock t) htrial
  generalize (s.clock t).confirmSlots = z at *
  obtain ⟨hover, hpwWas, hinbox, hnow', hwork, honly⟩ := z.reportConfirmed_spec (s.slotNow s.pw.runB).version (b2n s.pw.runB)
  have hwork := hrest.mono.trans hwork
  have honly := (hfields.mono (List.subset_cons_self Reg.SYS_BOOT_TRIAL _)).trans (honly.mono (by simp))
  have hmild := State.Mild.of_untouched (hnow'.trans hnow) hwork honly (by decide) (by decide)
  have hexec := exec_of_simple (i := .fwConfirm t src) (f := fun s _ => s.fwConfirm) rfl hr hasks hf hmild
  refine Yields.of_answer hexec hasks.1 hmild fun x hanswered hh hpw hframe hkept => ?_
  have hpw' : x.pw = { (z.trialOver (s.slotNow s.pw.runB).version).pw with gate := s.pw.gate } := by rw [hpw, hpwWas]
  have hslots (b : Bool) : x.slotNow b = z.slotNow b := State.slotNow_congr (Power.eq_self_gate hpw') b
  have hhalf : x.half = (z.trialOver (s.slotNow s.pw.runB).version).half := State.half_congr (Power.eq_self_gate hpw')
  have hmin : z.pw.noSlots.minVersion = s.pw.minVersion := by rw [hpower]; rfl
  have hev : x.ev = (z.reportConfirmed (s.slotNow s.pw.runB).version (b2n s.pw.runB)).ev := hkept .events (by decide)
  refine ⟨?_, ?_, ?_, ?_, (congrArg Power.minVersion hpw').trans (congrArg (max · _) hmin), (hhalf.trans (show _ = z.half from rfl)).trans (State.half_of_noSlots hpower),
    by rw [hev]; exact hinbox, hanswered, hframe _ hwork.mono (by simp)⟩
  · rw [hslots]
    exact hstate
  · rw [hslots]
    exact hgen
  · rw [hslots]
    exact hother
  · rw [hh, State.h_countReply_trial, hover]

/-- The trial's time is over. -/
def State.noTrialEnd (s : State) : State := { s with pw := { s.pw with trialEnd := none } }

theorem State.noTrialEnd_untouched (s : State) : Untouched [.power] s s.noTrialEnd := by
  intro g hg
  cases g <;> simp [Group.same, State.noTrialEnd] at hg ⊢

theorem fwTrialExpired_yields (t e : Nat) (s : State) (hr : s.phase = .ready) (hend : s.pw.trialEnd = some e) (hover : e ≤ max s.now t) :
    Yields (.fwTrialExpired t) s fun x => x.h Reg.SYS_BOOT_TRIAL = 0 ∧ x.pw = { s.pw with trialEnd := none }
      ∧ (∃ r, x.ev.inbox = s.ev.inbox ++ [r] ∧ r.code = Ev.fwTrialExpired.code) ∧ Frame t [.fields, .events, .power] s x := by
  have hexec : exec (.fwTrialExpired t) s
      = .next (s.keep t (((s.clock t).noTrialEnd.flag Reg.SYS_BOOT_TRIAL false).raise .fwTrialExpired (b2n s.pw.runB) 0)) := by
    show execFwTrialExpired t s = _
    rw [execFwTrialExpired, State.run_ready s t _ hr, show (s.clock t).pw.trialEnd = some e from hend]
    exact congrArg (fun x => Host.Outcome.next (s.keep t x)) (if_pos hover)
  refine ⟨_, hexec, State.h_flag_same _ _ _, rfl, ⟨_, rfl, rfl⟩, Frame.of_untouched ?_⟩
  exact ((State.noTrialEnd_untouched _).mono.trans (State.flag_untouched _ _ _).mono).trans (State.raise_untouched _ _ _ _).mono

/-! ### REBOOT -/

/-- A reset follows. -/
def State.rebootIn (s : State) (lsb : Nat) : State := { s with pw := { s.pw with rebootAt := some (s.now + lsb) } }

theorem State.rebootIn_untouched (s : State) (lsb : Nat) : Untouched [.power] s (s.rebootIn lsb) := by
  intro g hg
  cases g <;> simp [Group.same, State.rebootIn] at hg ⊢

theorem reboot_yields (t : Nat) (src : Source) (c : Cmd) (s : State) (hr : s.phase = .ready) (hasks : (s.clock t).asks src 0x52 c)
    (hkey : c.p 0 = 0x00A55) : Yields (.reboot t src) s fun x => x.pw.rebootAt = some (max s.now t + 10 * lsbMs) ∧ x.nodeRdy = false
      ∧ s.answered x src c { status := 0 } ∧ Frame t [.fields, .command, .tx, .link, .power] s x := by
  have hcalm : (s.clock t).Calm ((s.clock t).rebootIn (10 * lsbMs)) := State.Calm.of_regs rfl rfl rfl rfl rfl rfl
  refine Yields.of_simple rfl hr hasks (if_pos hkey) hcalm fun x hx => ?_
  have hdue : x.pw.rebootAt = some (max s.now t + 10 * lsbMs) := congrArg Power.rebootAt hx.pw
  refine ⟨hdue, ?_, hx.answered, hx.frame _ (State.rebootIn_untouched (s.clock t) _).mono (by simp)⟩
  rw [State.nodeRdy, hdue]
  exact Bool.and_false _

/-! ### Settings -/

theorem State.saveStart_untouched (s : State) : Untouched [.power] s s.saveStart := by
  intro g hg
  cases g <;> simp [Group.same, State.saveStart] at hg ⊢

theorem settingsSave_yields (t : Nat) (s : State) (hr : s.phase = .ready) (hgoes : s.saveRefused = none) : Yields (.settingsSave t) s fun x =>
    (∃ y, x.pw.saving = some y ∧ y.set = s.activeTab ∧ y.one = s.savedOnes ∧ y.ref = s.refOf s.activeB) ∧ x.half = s.half ∧ Frame t [.power] s x := by
  have hexec : exec (.settingsSave t) s = .next (s.keep t (s.clock t).saveStart) := by
    show execSettingsSave t s = _
    rw [execSettingsSave, State.run_ready s t _ hr, show (s.clock t).saveRefused = none from hgoes]
    rfl
  exact ⟨_, hexec, ⟨_, rfl, rfl, rfl, rfl⟩, State.half_of_halves rfl rfl rfl rfl rfl, Frame.of_untouched (State.saveStart_untouched _)⟩

/-- No save is in progress. -/
def State.noSaving (s : State) : State := { s with pw := { s.pw with saving := none } }

theorem State.noSaving_untouched (s : State) : Untouched [.power] s s.noSaving := by
  intro g hg
  cases g <;> simp [Group.same, State.noSaving] at hg ⊢

/-- A save as it becomes current: password and failure count as stored meanwhile. -/
def State.savedAs (s : State) (y : Settings) : Settings := { y with password := s.half.password, fails := s.half.fails, seq := s.half.seq + 1 }

/-- One of the flashes is used. -/
theorem State.exists_used {s : State} (h : s.pw.badA = false ∨ s.pw.badB = false) : ∃ b, s.flashBad b = false :=
  h.elim (fun h => ⟨false, h⟩) fun h => ⟨true, h⟩

theorem settingsSaved_yields (t : Nat) (y : Settings) (s : State) (hr : s.phase = .ready) (hsaving : s.pw.saving = some y) (hmay : s.mayProgram = true)
    (hused : s.pw.badA = false ∨ s.pw.badB = false) (hseq : s.storedHalf.seq ≤ s.half.seq) : Yields (.settingsSaved t) s fun x =>
      x.half = { y with password := s.half.password, fails := s.half.fails, seq := s.half.seq + 1 } ∧ x.pw.saving = none
        ∧ (∃ r, x.ev.inbox = s.ev.inbox ++ [r] ∧ r.code = Ev.settingsSaved.code) ∧ Frame t [.power, .events] s x := by
  obtain ⟨b, hb⟩ := State.exists_used hused
  have hhalf : ((s.clock t).noSaving.setHalf (s.savedAs y)).half = s.savedAs y :=
    State.half_setHalf (s := (s.clock t).noSaving) (b := b) hb (Nat.lt_succ_of_le hseq)
  have hexec : exec (.settingsSaved t) s
      = .next (s.keep t (((s.clock t).noSaving.setHalf (s.savedAs y)).raise .settingsSaved ((s.savedAs y).seq % 2 ^ 20) 0)) := by
    show execSettingsSaved t s = _
    rw [execSettingsSaved, State.run_ready s t _ hr, show (s.clock t).pw.saving = some y from hsaving, show (s.clock t).mayProgram = true from hmay]
    rfl
  have hrest := (State.noSaving_untouched (s.clock t)).trans (State.setHalf_untouched _ (s.savedAs y))
  have hev : ((s.clock t).noSaving.setHalf (s.savedAs y)).ev = s.ev := hrest .events (by decide)
  have hsaved : ((s.clock t).noSaving.setHalf (s.savedAs y)).pw.saving = none := rfl
  generalize (s.clock t).noSaving.setHalf (s.savedAs y) = z at *
  refine ⟨_, hexec, (State.half_congr (s := z) rfl).trans hhalf, hsaved, ⟨_, congrArg (fun e : Events => e.inbox ++ [_]) hev, rfl⟩, ?_⟩
  exact Frame.of_untouched (hrest.mono.trans (State.raise_untouched _ _ _ _).mono)

/-! ### FLASH_WRITE_RESUME -/

/-- No write waits for the flash. -/
def State.noDeferred (s : State) : State := { s with pw := { s.pw with deferred := [] } }

theorem State.noDeferred_untouched (s : State) : Untouched [.power] s s.noDeferred := by
  intro g hg
  cases g <;> simp [Group.same, State.noDeferred] at hg ⊢

/-- The settings with a failure count, as they are stored. -/
def State.withFails (s : State) (k : Nat) : Settings := { s.half with fails := k, seq := s.half.seq + 1 }

theorem flashWriteResume_yields (t k : Nat) (s : State) (hr : s.phase = .ready ∨ s.phase = .recovery) (hmay : s.mayProgram = true)
    (hdeferred : s.pw.deferred = [.failures k]) (hused : s.pw.badA = false ∨ s.pw.badB = false) (hseq : s.storedHalf.seq ≤ s.half.seq) :
    Yields (.flashWriteResume t) s fun x =>
      x.pw.deferred = [] ∧ x.half.fails = k ∧ x.half.seq = s.half.seq + 1 ∧ x.half.set = s.half.set ∧ Frame t [.power] s x := by
  obtain ⟨b, hb⟩ := State.exists_used hused
  have hhalf : ((s.clock t).noDeferred.setHalf (s.withFails k)).half = s.withFails k :=
    State.half_setHalf (s := (s.clock t).noDeferred) (b := b) hb (Nat.lt_succ_of_le hseq)
  have hacts : (s.live || decide (s.phase = .recovery)) = true := by
    obtain h | h := hr
    · rw [State.live, h]
      rfl
    · rw [h, decide_eq_true rfl, Bool.or_true]
  have hexec : exec (.flashWriteResume t) s = .next (s.keep t ((s.clock t).noDeferred.setHalf (s.withFails k))) := by
    show execFlashWriteResume t s = _
    rw [execFlashWriteResume, State.runIf, if_pos hacts, if_pos (show (s.clock t).mayProgram = true from hmay),
      show (s.clock t).pw.deferred = [.failures k] from hdeferred]
    rfl
  have hrest := (State.noDeferred_untouched (s.clock t)).trans (State.setHalf_untouched _ (s.withFails k))
  have hnone : ((s.clock t).noDeferred.setHalf (s.withFails k)).pw.deferred = [] := rfl
  generalize (s.clock t).noDeferred.setHalf (s.withFails k) = z at *
  have hhalf' : (s.keep t z).half = s.withFails k := (State.half_congr (s := z) rfl).trans hhalf
  exact ⟨_, hexec, hnone, congrArg Settings.fails hhalf', congrArg Settings.seq hhalf', (congrArg Settings.set hhalf').trans rfl, Frame.of_untouched hrest⟩

end Sys2Proof.Machine
end

section
namespace Sys2Proof
open Machine

/-- Settles O59: a boot record counts from when it is changed, in flash or waiting (State.markSlot_marks), and settings of a higher number than those
stored are read back (State.half_setHalf). -/
theorem firmwareAndSettingsAreWritten : Obligations.FirmwareAndSettingsAreWritten := by
  unfold Obligations.FirmwareAndSettingsAreWritten
  exact ⟨fwStage_yields, fwStageTimeout_yields, stageComplete_yields, stageComplete_held, fwConfirm_yields, fwTrialExpired_yields, reboot_yields,
    settingsSave_yields, settingsSaved_yields, flashWriteResume_yields⟩

end Sys2Proof
end

section
/-!
SUPPORT. A domain whose step is past 3, the last that R462 knows, and TH_STAT that shows it in full.
-/

namespace Sys2Proof.Machine

/-- Domain 4 stands at step 7. TH_STAT shows it, with the die domain at step 3, whose last rise was at instant 0. -/
def stepPastThree : State :=
  { State.reset with
    phase := .ready
    regs := { State.reset.regs with
      hw := Tab.set (Tab.set State.reset.regs.hw 0 Reg.TH_STAT_STEP.key 7) 0 Reg.TH_STAT_STEP_DIE.key 3 }
    th := { State.reset.th with domains := Tab.set (Tab.set {} {} 0 { step := 3, roseAt := some 0 }) {} 4 { step := 7 } } }

/-- No step changes by the rise of the die domain, so TH_STAT is left as it stands. -/
theorem step_throttleRise_stepPastThree :
    ∃ x, exec (.throttleRise (500 * lsbMs) 0) stepPastThree = .next x ∧ x.deepest = 7 ∧ x.h Reg.TH_STAT_STEP = 7 :=
  ⟨_, rfl, by decide +kernel⟩

end Sys2Proof.Machine

namespace Sys2Proof
open Machine

/-- Refutes O60, in its fourth part: after a rise TH_STAT.STEP need not be the deepest step held to the field's top, for the statement speaks
of every state, one with a step past 3 too. In `stepPastThree` the step in effect does not change, and TH_STAT keeps the 7 that it shows. A
domain's step is at most 3 wherever the model's own commands set it, so the defect is a missing hypothesis, not a throttling that fails. -/
theorem not_temperaturesThrottleAndCalibrate : ¬ Obligations.TemperaturesThrottleAndCalibrate := by
  unfold Obligations.TemperaturesThrottleAndCalibrate
  rintro ⟨-, -, -, rise, -⟩
  obtain ⟨x, hx, -, -, shown, -⟩ := rise (500 * lsbMs) 0 0 stepPastThree rfl rfl rfl (by decide +kernel)
  obtain ⟨y, hy, deepest, kept⟩ := step_throttleRise_stepPastThree
  obtain rfl : x = y := Host.Outcome.next.inj (hx.symm.trans hy)
  rw [kept, deepest] at shown
  exact absurd shown (by decide)

end Sys2Proof
end
